-- ==== Sys2Proof/Word.lean ====
section
/-! DEFINITION. The words, bytes and addresses the commands carry, and the plain forms a command's operand can take
(a frame, an intake packet, a release-unit copy, what a bed's units report). -/

namespace Sys2Proof

/-- One byte of a message, a BLOB or a record. -/
abbrev Byte := BitVec 8
/-- A MAC address, first octet in the most significant byte. -/
abbrev Mac := BitVec 48
/-- An IPv6 address, or an IPv4 address in its first four octets (most significant). -/
abbrev IpAddr := BitVec 128
/-- A delivery entry of Table 02.6. -/
abbrev DeliveryWord := BitVec 512
/-- An event ring entry of Table 03.3. -/
abbrev RingWord := BitVec 256
/-- A microword of Table 05.2. -/
abbrev Microword := BitVec 160

/-- What the parser of R47 sees a frame to be. -/
inductive FrameKind where
  | data | ptp | arpNd | igmp | mld | pause | pfc | lpi
  deriving DecidableEq, Repr

/-- An Announce message's dataset, as the default BMCA of IEEE 1588-2019 compares it. -/
structure Announce where
  priority1 : Nat
  clockClass : Nat
  accuracy : Nat := 0xFE
  variance : Nat := 0xFFFF
  priority2 : Nat
  gmId : BitVec 64
  stepsRemoved : Nat := 0
  senderId : BitVec 64 := 0
  senderPort : Nat := 0
  deriving DecidableEq, Repr

/-- A frame, from destination address to FCS, with the fields the parser, the edits and the policers read. -/
structure Frame where
  len : Nat := 64
  fcsOk : Bool := true
  kind : FrameKind := .data
  dmac : Mac := 0
  smac : Mac := 0
  /-- TCIs of the tags, outer first; at most two (Table 02.2). -/
  tags : List (BitVec 16) := []
  /-- 0 none, 4 or 6. -/
  ipv : Nat := 0
  src : IpAddr := 0
  dst : IpAddr := 0
  dscp : BitVec 6 := 0
  ttl : BitVec 8 := 64
  udp : Bool := false
  udpSrc : BitVec 16 := 0
  udpDst : BitVec 16 := 0
  ipCsum : BitVec 16 := 0
  udpCsum : BitVec 16 := 0
  ssrc : BitVec 32 := 0
  /-- RTP payload type of a packet the block creates. -/
  pt : BitVec 7 := 0
  /-- RTP sequence number, timestamp and marker of a packet the block creates. -/
  seq : BitVec 16 := 0
  rtpTs : BitVec 32 := 0
  marker : Bool := false
  /-- A PFC frame's priorities and the pause it asks for each, in ns. -/
  pfc : List (Nat × Nat) := []
  /-- messageType of a PTP frame (IEEE 1588): 0 Sync, 1 Delay_Req, 2, 3 and 10 peer delay, 8 Follow_Up,
  9 Delay_Resp, 11 Announce. -/
  ptpType : Nat := 0
  /-- An Announce's dataset. -/
  announce : Option Announce := none
  /-- Stands for the payload, which forwarding never reads. -/
  label : Nat := 0
  deriving DecidableEq, Repr

/-- Samples of one line carried by a packet (a sample row data header of ST 2110-20). -/
structure Seg where
  row : Nat
  off : Nat
  samples : List Nat
  deriving DecidableEq, Repr

/-- What an intake packet carries. -/
inductive Essence where
  | video | audio | anc
  deriving DecidableEq, Repr

/-- How an RTP packet carries NAL units, or TS packets (Table 08.2). -/
inductive RtpForm where
  | single | aggregation | fragment | paci | ts
  deriving DecidableEq, Repr

/-- A TS packet inside an RTP packet (R210 to R212). -/
structure TsPkt where
  pid : Nat
  scrambled : Bool := false
  /-- Its continuity counter jumps here (R212). -/
  ccJump : Bool := false
  /-- A new PES starts here (R211). -/
  pes : Bool := false
  /-- The entries of a PMT, when it carries one: stream type and PID. -/
  pmt : Option (List (Nat × Nat)) := none
  /-- Stands for the payload. -/
  label : Nat := 0
  deriving DecidableEq, Repr

/-- A packet reaching an intake channel (R99, R175, R211). -/
structure IntakePkt where
  esn : Nat
  ts : BitVec 32
  marker : Bool := false
  essence : Essence := .video
  udpPort : Nat := 0
  /-- Samples, for raster mode. -/
  segs : List Seg := []
  /-- RTP payload type. -/
  pt : Nat := 96
  form : RtpForm := .single
  /-- The payload carries a DONL (Table 08.2). -/
  donl : Bool := false
  /-- A fragment of a NAL unit is missing before this packet's data (R212). -/
  fragGap : Bool := false
  /-- TS packets of the TS wrapper. -/
  ts188 : List TsPkt := []
  /-- DID and SDID of an ANC packet (R176). -/
  did : Nat := 0
  sdid : Nat := 0
  /-- Payload octets of an audio packet (R177). -/
  octets : Nat := 0
  /-- Stands for the compressed payload, the audio samples or the user data words. -/
  label : Nat := 0
  deriving DecidableEq, Repr

/-- One copy of a release unit at a Sieve instance: the header of Table 09.1 and whether the payload matched its CRC. -/
structure UnitCopy where
  slot : Nat
  bed : Nat
  tile : Nat := 0
  picture : Nat
  row : Nat
  lastRow : Bool := false
  flagged : Bool := false
  retrial : Bool := false
  length : Nat
  crc : BitVec 64
  digest : BitVec 64
  crcOk : Bool := true
  /-- Bytes of the NAL units of the payload, in order; none listed stands for one of `length` bytes (R178). -/
  nals : List Nat := []
  deriving DecidableEq, Repr

/-- Self-check causes of Table 05.6. -/
inductive CheckCause where
  | romEcc | patchParity | storeEcc | regParity | residue | illegalWord | stack | timeout | fifoStall
  deriving DecidableEq, Repr

/-- A prediction of a block of an inter CTU: the place of its picture in the reference list (0 the newest), the block's left
and top sample and width, and its vector in quarter-pels; `merge` when one of the stream's own merge candidates gave it. -/
structure Pred where
  ref : Nat
  x : Nat
  y : Nat
  w : Nat
  mvx : Int
  mvy : Int
  merge : Bool := false
  deriving DecidableEq, Repr

/-- How a CTU is coded: intra, with the column of the farthest reference sample to its right that it uses; skipped with zero
motion from the newest reference; or inter, by its blocks. -/
inductive CtuMode where
  | intra (reach : Nat) | skip | inter (preds : List Pred)
  deriving DecidableEq, Repr

/-- What the shared analysis finds for a 16×16 luma block (R190): its vector in quarter-pels, and the SATD of the best inter
and intra candidates. -/
structure BlockCost where
  mvx : Int
  mvy : Int
  inter : Nat
  intra : Nat
  deriving DecidableEq, Repr

/-- What an active SPS signals (R208, R222, R225): reorder count (none for an H.264 SPS without a bitstream restriction), CTU
size, decoded size, chroma, depth, scan, profile, level × 10 and DPB size. -/
structure Sps where
  reorder : Option Nat
  ctu : Nat
  w : Nat
  h : Nat
  sampling : Nat
  depth : Nat
  scan : Nat
  profile : Nat
  level : Nat
  dpb : Nat
  deriving DecidableEq, Repr

/-- A write of one of a bed's units into the local store or the reference cache: the unit, in the order of R123 (0 Trellis port,
1 local store, 2 entropy coder, 3 transform unit, 4 loop filter), the address (bank × 512 KiB + offset; the cache lies from
4 MiB on) and the bytes. -/
structure StoreWrite where
  unit : Nat
  at_ : Nat
  bytes : List Byte
  deriving DecidableEq, Repr

/-- What the units of a bed report as a word retires: the inputs to R153 to R222 that no rule computes
(the bitstream, the samples and the search results are the encoder's and decoder's own). -/
inductive BedEvent where
  /-- The picture's first word has retired. -/
  | pictureStart (slot : Nat)
  /-- Row start with the low-resolution cost of the row, or of the member's share of it: of the best candidates, and of the
  intra candidates alone (R165, R168, R201). -/
  | rowStart (slot row cost intra : Nat)
  /-- A band of 16 source lines of the source picture of a sampling instant has been analysed (R190). -/
  | bandDone (slot instant band : Nat) (blocks : List BlockCost)
  /-- The member's next CTU is ready to commit: its bits, the bits of its recode at qp + 6, and its mode (R166). -/
  | ctuReady (slot bits recodeBits : Nat) (mode : CtuMode)
  /-- The row's last CTU is committed (R165). -/
  | rowEnd (slot row : Nat)
  /-- The picture's last row is done (R165, R167). -/
  | pictureEnd (slot : Nat)
  /-- ROW_DONE: the row and its loop filtering are complete (R28). -/
  | rowComplete (slot picture row : Nat)
  /-- CTUs found damaged, from the first to the end of their slice segment (R217). -/
  | damage (slot firstCtu lastCtu : Nat)
  /-- A decoded CTU and whether it predicts from a tainted CTU (R220). -/
  | ctuDecoded (slot ctu : Nat) (fromTainted : Bool)
  /-- Work charged to the CTU being decoded, in ticks (R214). -/
  | charge (slot ticks : Nat)
  /-- A reference picture is absent from the DPB (R219). -/
  | missingRef (slot poc : Nat)
  /-- A decoded picture hash SEI does not match (R208). -/
  | hashMismatch (slot : Nat)
  /-- A NAL unit of another layer is discarded (R208). -/
  | layerDiscard (slot : Nat)
  /-- An SPS becomes active (R222, R225). -/
  | activeSps (slot : Nat) (sps : Sps)
  /-- An AU starts decoding: its slot (none when tagged decode only), its POC, and whether it may start decoding: an IRAP
  or GDR picture or one with a recovery point SEI (R221). -/
  | auStart (slot : Nat) (tag : Option Nat) (poc : Nat) (sync : Bool)
  /-- The AU in progress is decoded; the POC of the picture that the DPB's output process releases for show (R225). -/
  | auDecoded (slot : Nat) (shows : Option Nat) (references : List Nat)
  /-- A stack access by a decode bed at a byte address; a write or a read (R216). -/
  | stackAccess (slot addr : Nat) (write : Bool)
  /-- A detector of Table 05.6 fires. -/
  | detected (cause : CheckCause)
  /-- A single-bit error was corrected: in the ROM or in the store (Table 05.6). -/
  | corrected (rom : Bool)
  /-- A UNIT_OUT transfer puts bytes of the release unit into the output FIFO; `closes` names the unit (slot, picture, row,
  tile) when it is its last. -/
  | unitOut (bytes : Nat) (closes : Option (Nat × Nat × Nat × Nat))
  /-- DIGEST_OUT: the digest of a row leaves (R241). -/
  | digestOut (slot picture row : Nat)
  /-- GANG_TX: the 16 boundary columns of a row leave for the member to the right (R142). -/
  | gangSend (data : List Byte)
  /-- A unit's packets start leaving: the emission of one histogram sample (R410), kind 0 CODING. -/
  | codingSample (slot ns : Nat)
  deriving DecidableEq, Repr

/-- What a retiring word's operations leave: the conditions of Table 05.4 as the outside units drive them, and the
reports of the units in order. -/
structure RetireInfo where
  conds : BitVec 64 := 0
  events : List BedEvent := []
  /-- What the units write into the bed's local store and reference cache. -/
  writes : List StoreWrite := []
  /-- The boundary that a PB word of the retiring stream stands on (R170, R242). -/
  boundary : Option (Nat × Nat) := none
  deriving DecidableEq, Repr

/-- Which entries of the tables fail parity or ECC as the pipeline reads them for a frame (R66, R67, R68). -/
structure Upset where
  flow : Bool := false
  l2 : Bool := false
  /-- The entry of the frame's source MAC, which learning reads. -/
  source : Bool := false
  vlan : Bool := false
  /-- Delivery indexes whose read is uncorrectable. -/
  delivery : List Nat := []
  deriving DecidableEq, Repr

end Sys2Proof
end

