-- ==== Sys2Proof/Syntax.lean ====
section
/-! DEFINITION. The commands of the block: one constructor for each row of opcode_table.json, in the table's order.
`t` is the PTP time in nanoseconds at which the command happens; `a` is the allotment that issues it. `port` of an Almanac
message is a logical port (in-band) or 1,024 + a management port, and `addr` the in-band address reached (R291, R300). -/

namespace Sys2Proof

/-- The commands and events of the SYM-8120 (opcode_table.json). -/
inductive Instr where
  /- 01 architecture -/
  | laneFail (t link dir : Nat)
  | laneMoveDone (t link dir : Nat)
  | pruneRequest (t die slot picture bed : Nat)
  | shedRestart (t : Nat) (pair : Option Nat) (readyAt : Nat)
  | shedLive (t : Nat)
  | corePairTakeover (t pair byPair : Nat)
  /- 02 field ports and forwarding -/
  | breakout (t a fp code : Nat)
  | enable (t a lp val : Nat)
  | signalLoss (t lp : Nat)
  | fecAligned (t lp : Nat)
  | fecIntervalEnd (t lp corrected uncorrectable : Nat)
  | frameArrive (t lp : Nat) (frame : Frame)
  | parseFrame (t pl : Nat) (upset : Upset)
  | pfcPauseEnd (t lp cls : Nat)
  | crossingSend (t die : Nat)
  | crossingArrive (t die : Nat) (upset : Upset)
  | crossingAck (t chain : Nat)
  | ageScan (t pl : Nat)
  | parityRewrite (t pl : Nat)
  | deliveryRewrite (t die index : Nat)
  | flowWrite (t a : Nat) (rec : List Byte)
  | flowDelete (t a : Nat) (key : List Byte)
  | flowRead (t a : Nat) (key : List Byte)
  | deliveryWrite (t a index : Nat) (entry : DeliveryWord)
  | deliveryRead (t a index : Nat)
  | blockGrant (t a block owner linkFrom : Nat)
  | staticL2 (t a vid : Nat) (mac : Mac) (lp : Nat) (remove : Bool)
  /- 10 egress -/
  | portFrameStart (t lp : Nat) (cellError : Bool)
  | frameTxEnd (t lp : Nat)
  | shaperRefill (t lp : Nat) (group : Bool) (index : Nat)
  | gateEntryChange (t lp : Nat)
  | gateScheduleChange (t lp : Nat)
  | queueWrite (t a lp : Nat) (rec : List Byte)
  | queueRead (t a lp index : Nat)
  | queueEnable (t a allot queue : Nat) (on : Bool)
  | deepShareInterval (t die : Nat)
  /- 03 event rings -/
  | consume (t a ring : Nat)
  | flush (t a ring : Nat)
  | statusReset (t a ring : Nat)
  | entryRead (t a ring : Nat)
  /- 04 intake and feeds -/
  | intakePacket (t ch leg chain : Nat) (pkt : IntakePkt)
  | mergeWaitExpiry (t ch : Nat)
  | legTimeout (t ch leg : Nat)
  | pictureTimeout (t ch : Nat)
  | missingPicture (t ch : Nat)
  | auSlotEnd (t ch : Nat)
  | feedLineRead (t slot : Nat) (storeError : Bool)
  | pendingTake (t slot bed : Nat)
  | lineAck (t slot bed line : Nat)
  | cutTo (t a slot ch : Nat)
  | pictureBoundary (t slot : Nat)
  | outtakeRowRead (t oc row : Nat)
  /- 05 beds -/
  | wordIssue (t bed : Nat)
  | wordRetire (t bed : Nat) (info : RetireInfo)
  | waitMet (t bed : Nat) (conds : BitVec 64)
  | waitTimeout (t bed : Nat) (conds : BitVec 64)
  | trapReq (t a bed : Nat) (gang : Bool) (progress : BitVec 80)
  | patchLoad (t a : Nat) (set : List Byte)
  | sleepDelayExpiry (t bed : Nat)
  | sleepDone (t bed : Nat)
  | wake (t a bed : Nat)
  | sleep (t a bed : Nat)
  | powerReq (t a bed val : Nat)
  | wakeDone (t bed : Nat)
  | run (t a allot bed : Nat) (on : Bool)
  /- 06, 07 streams -/
  | admitSlot (t a fam slot val : Nat)
  | streamAdmitted (t slot : Nat)
  | periodChange (t group : Nat)
  | slotGrant (t a allot first count : Nat)
  /- 09 twinning -/
  | sieveCopyArrive (t die : Nat) (copy : UnitCopy)
  | sieveWindowClose (t die slot picture row tile : Nat)
  | retrialChoice (t slot : Nat) (capsulesEqual : Bool)
  | voteTimeout (t slot : Nat)
  | doubleFaultRestart (t slot : Nat)
  | excuseTimeout (t slot : Nat)
  | scionChoice (t slot : Nat)
  | transplantEnd (t slot : Nat) (uncorrectable : Bool)
  | cuttingBoundary (t slot : Nat)
  | probationEnd (t slot : Nat)
  | exposureLimit (t slot : Nat)
  | bedUnitReset (t bed : Nat)
  | cuttingCompare (t slot : Nat) (liveDiffers otherDiffers : Bool)
  | sparePool (t a val : Nat)
  | peer (t a ch val : Nat)
  /- 11 Almanac -/
  | almanacMessage (t port : Nat) (bytes : List Byte)
  | identifyRequest (t port addr : Nat) (bytes : List Byte)
  | go (t a : Nat)
  | ack (t a : Nat)
  | gapTimeout (t a seq : Nat)
  | read (t a fam inst mem : Nat) (arg : List Byte)
  | write (t a fam inst mem : Nat) (val : List Byte)
  | writeStaged (t a fam inst mem length : Nat)
  | stage (t a offset : Nat) (bytes : List Byte)
  | clearStage (t a : Nat)
  | addressChangeEffect (t mem : Nat)
  | key (t a allot : Nat) (val : List Byte)
  | keyGraceEnd (t allot : Nat)
  /- 12 windows, latches -/
  | registerWrite (t a offset : Nat) (bytes : List Byte)
  | bitAliasWrite (t a offset : Nat) (data : BitVec 32)
  | doorbell (t a number : Nat)
  | acquire (t a latch : Nat) (tag : BitVec 16)
  | release (t a latch : Nat)
  | reset (t a allot : Nat)
  | pcieLinkReset (t link kind : Nat)
  | voteScrub (t : Nat) (fields : List (Nat × Nat))
  /- 13 interrupts -/
  | claim (t a vector : Nat)
  | complete (t a vector source : Nat)
  | sourceClear (t a : Nat)
  | msixUnmask (t a vector : Nat)
  | msixEnable (t a : Nat) (on : Bool)
  | shedClaim (t pair : Nat) (completes : Option Nat) (agree : Bool)
  /- 14 memory and DMA -/
  | scrub (t stack address : Nat) (outcome : Nat) (syndrome : BitVec 32)
  | logClear (t a stack : Nat)
  | opPoint (t a stack val : Nat)
  | pllLock (t pll : Nat)
  | opChangeStart (t stack : Nat)
  | stackHold (t stack : Nat)
  | opChangeDone (t stack : Nat)
  | opChangeTimeout (t stack : Nat)
  | start (t a ch : Nat)
  | disable (t a ch : Nat)
  | disableClear (t a ch : Nat)
  | dmaRequestDone (t ch offset : Nat) (data : List Byte)
  | dmaRequestFail (t ch offset cause : Nat)
  /- 15 faults -/
  | faultRaise (t id : Nat)
  | faultCauseGone (t id : Nat)
  | force (t a id val : Nat)
  | classSet (t a id val : Nat)
  | recordClear (t a rec : Nat)
  | unitReset (t a domain unit : Nat)
  | unitResetEnd (t domain unit : Nat)
  | injectEnable (t a val : Nat)
  | alertSw (t a val : Nat)
  | aliveTick (t : Nat)
  | alertPulseEnd (t output : Nat)
  /- 16 calibration and soil tests -/
  | calStart (t a kind : Nat) (units : List Nat)
  | pairMeasureDone (t pair : Nat) (trims : List Int)
  | alignTimeout (t lp : Nat)
  | sensorCalDone (t : Nat) (results : List (Nat × Int × Int))
  | epoch (t a time : Nat)
  | trimEpoch (t : Nat)
  | discard (t a : Nat)
  | trimSet (t a : Nat)
  | trimRestore (t a side : Nat) (set : List Byte)
  | soilTestStart (t bed : Nat)
  | soilTestEnd (t bed failStep : Nat)
  | retest (t a bed : Nat)
  /- 17 counters -/
  | counterSel (t a counter : Nat) (val : List Byte)
  | freeze (t a val : Nat)
  | snapshot (t a : Nat)
  | bedCounterOverflow (t bed counter upc : Nat) (space : Bool) (slot picture row ctu : Nat)
  | harvestInstant (t : Nat)
  | harvestComplete (t a : Nat)
  | harvestList (t a allot : Nat) (list : List (Nat × Nat))
  | histClear (t a slot : Nat)
  /- 18 Rain Gauge -/
  | meterSend (t die : Nat)
  | meterMissing (t die : Nat)
  | gaugeTime (t : Nat)
  | gaugeTimeFree (t : Nat)
  | gaugeBoundary (t : Nat)
  | gaugeClose (t : Nat)
  | gaugeRecordSend (t : Nat)
  | gaugeReplay (t : Nat)
  | sealOpen (t : Nat)
  | rgKeepReturn (t : Nat)
  | interval (t a val : Nat)
  | tariff (t a : Nat) (val : List Byte)
  | record (t a seq : Nat)
  /- 19 supplies and the Hedge -/
  | feedInRange (t feed : Nat)
  | feedOutOfRange (t feed : Nat)
  | switchback (t : Nat)
  | feedsLost (t : Nat)
  | mainFeed (t a val : Nat)
  | phaseFail (t phase : Nat)
  | keepLoss (t : Nat)
  | tempWarnCross (t : Nat) (above : Bool)
  | thermalTrip (t : Nat)
  | lifeHour (t : Nat) (hottest : Int)
  | gpiChange (t gpi : Nat) (level : Bool)
  | set (t a gpo : Nat) (level : Bool) (applyAt : Nat)
  | gpoApply (t gpo : Nat)
  | gpoFailsafe (t : Nat)
  | timingEdge (t count : Nat)
  | refInputLost (t : Nat) (pps : Bool)
  | barrierMessageError (t : Nat)
  /- 20 clocks and time -/
  | refclkWindow (t count backupHz : Nat)
  | cfSource (t a val : Nat)
  | blockWakeDone (t block : Nat)
  | ptpSync (t lp : Nat) (offset : Int)
  | announce (t lp : Nat) (data : Announce)
  | announceTimeout (t : Nat)
  | delayReq (t lp : Nat) (multicast : Bool)
  | holdoverSpecExpiry (t : Nat)
  | timeSet (t a val : Nat)
  /- 21 power-up -/
  | powerUp (t : Nat) (tempC : Int) (split : BitVec 4)
  | memoryTrainingDone (t : Nat) (failed : List Nat)
  | trimsRestored (t : Nat)
  | pipelineRelease (t : Nat)
  | almanacLive (t : Nat)
  | fullReadiness (t : Nat)
  | perstRelease (t link : Nat)
  | rgKeepLoss (t : Nat)
  | hedgeVLoss (t : Nat)
  | dorsenRuns (t : Nat) (newerSigned : Bool)
  | ptpManagement (t lp : Nat) (get : Bool) (id : Nat)
  | syncAndAnnounceSend (t lp kind : Nat)
  | configurationRequest (t link : Nat)
  deriving DecidableEq, Repr

end Sys2Proof
end

