-- ==== Sys2Proof/WellFormed.lean ====
section
/-! DEFINITION. The commands whose unit numbers name a unit the block has: the ranges of Table 00.2 (R2) and of the
chapters' own tables. A command that the Almanac or a register window checks itself (an entry, a register field) is
well formed for every operand but its issuer: its chapter gives the answer to a number that names nothing. -/

namespace Sys2Proof

/-- Allotments 0 to 15. R2 (00). -/
def isAllot (n : Nat) : Bool := decide (n < 16)
/-- Logical ports 0 to 1,023. R2 (00). -/
def isLp (n : Nat) : Bool := decide (n < 1024)
/-- Ways in of the Almanac over UDP: in-band on logical ports 0 to 1,023, and management ports 0 and 1 as 1,024 and 1,025.
R291 (11). -/
def isWayIn (n : Nat) : Bool := decide (n < 1026)
/-- Pipelines 0 to 7. R2 (00). -/
def isPl (n : Nat) : Bool := decide (n < 8)
/-- Pipeline dies 0 and 1. R2 (00). -/
def isDie (n : Nat) : Bool := decide (n < 2)
/-- Beds 0 to 287. R2 (00). -/
def isBed (n : Nat) : Bool := decide (n < 288)
/-- Stream slots 0 to 8,191. R2 (00). -/
def isSlot (n : Nat) : Bool := decide (n < 8192)
/-- Intake channels 0 to 2,047. 04. -/
def isIntake (n : Nat) : Bool := decide (n < 2048)
/-- Outtake channels 0 to 4,095. 04. -/
def isOuttake (n : Nat) : Bool := decide (n < 4096)
/-- Memory stacks 0 to 11. R2 (00). -/
def isStack (n : Nat) : Bool := decide (n < 12)
/-- Trellis links 0 to 12. Table 15.1 (15). -/
def isLink (n : Nat) : Bool := decide (n < 13)
/-- Core pairs 0 to 15. R29 (01). -/
def isPair (n : Nat) : Bool := decide (n < 16)
/-- GPIs and GPOs 0 to 31. R450 (19). -/
def isGpio (n : Nat) : Bool := decide (n < 32)
/-- Supply phases 0 to 111. R443 (19). -/
def isPhase (n : Nat) : Bool := decide (n < 112)
/-- Power blocks 0 to 311. R465 (20). -/
def isBlock (n : Nat) : Bool := decide (n < 312)
/-- Refresh groups 0 to 255. R196 (07). -/
def isGroup (n : Nat) : Bool := decide (n < 256)
/-- One of two: a leg, a direction, a feed, an output. -/
def isSide (n : Nat) : Bool := decide (n < 2)
/-- Bed counters 0 to 7. R403 (17). -/
def isBedCounter (n : Nat) : Bool := decide (n < 8)
/-- PLLs (numbering of log entry 20). R462 (20). -/
def isPll (n : Nat) : Bool := decide (n < 51)
/-- Scheduling groups of a logical port. R266 (10). -/
def isQGroup (n : Nat) : Bool := decide (n < 16)
/-- Queues of a logical port. R2 (00). -/
def isPortQueue (n : Nat) : Bool := decide (n < 256)
/-- DMA channels 0 to 1,023. R361 (14). -/
def isDma (n : Nat) : Bool := decide (n < 1024)
/-- Fibre pairs 0 to 127. R386 (16). -/
def isFibrePair (n : Nat) : Bool := decide (n < 128)
/-- Priorities of a PFC frame. R38 (02). -/
def isPfcClass (n : Nat) : Bool := decide (n < 8)
/-- Delivery entries. Table 00.1 (00). -/
def isDelivery (n : Nat) : Bool := decide (n < 33554432)
/-- Fault sources. R371 (15). -/
def isSource (n : Nat) : Bool := decide (n < 4096)
/-- PCI Express links by code 1 to 8. R434 (19). -/
def isPcie (n : Nat) : Bool := decide (1 ≤ n) && decide (n ≤ 8)

/-- The command names units that exist. (DESIGN CHOICE, log entry 8.) -/
def Instr.wellFormed : Instr → Bool
  | .laneFail _ link dir => isLink link && isSide dir
  | .laneMoveDone _ link dir => isLink link && isSide dir
  | .pruneRequest _ die slot _ bed => isDie die && isSlot slot && isBed bed
  | .shedRestart _ pair _ => (pair.all isPair)
  | .shedLive _ => true
  | .corePairTakeover _ pair byPair => isPair pair && isPair byPair
  | .breakout _ a _ _ => isAllot a
  | .enable _ a _ _ => isAllot a
  | .signalLoss _ lp => isLp lp
  | .fecAligned _ lp => isLp lp
  | .fecIntervalEnd _ lp _ _ => isLp lp
  | .frameArrive _ lp _ => isLp lp
  | .parseFrame _ pl _ => isPl pl
  | .pfcPauseEnd _ lp cls => isLp lp && isPfcClass cls
  | .crossingSend _ die => isDie die
  | .crossingArrive _ die _ => isDie die
  | .crossingAck _ _ => true
  | .ageScan _ pl => isPl pl
  | .parityRewrite _ pl => isPl pl
  | .deliveryRewrite _ die index => isDie die && isDelivery index
  | .flowWrite _ a _ => isAllot a
  | .flowDelete _ a _ => isAllot a
  | .flowRead _ a _ => isAllot a
  | .deliveryWrite _ a _ _ => isAllot a
  | .deliveryRead _ a _ => isAllot a
  | .blockGrant _ a _ _ _ => isAllot a
  | .staticL2 _ a _ _ _ _ => isAllot a
  | .portFrameStart _ lp _ => isLp lp
  | .frameTxEnd _ lp => isLp lp
  | .shaperRefill _ lp group index => isLp lp && (if group then isQGroup index else isPortQueue index)
  | .gateEntryChange _ lp => isLp lp
  | .gateScheduleChange _ lp => isLp lp
  | .queueWrite _ a _ _ => isAllot a
  | .queueRead _ a _ _ => isAllot a
  | .queueEnable _ a _ _ _ => isAllot a
  | .deepShareInterval _ die => isDie die
  | .consume _ a _ => isAllot a
  | .flush _ a _ => isAllot a
  | .statusReset _ a _ => isAllot a
  | .entryRead _ a _ => isAllot a
  | .intakePacket _ ch leg _ _ => isIntake ch && isSide leg
  | .mergeWaitExpiry _ ch => isIntake ch
  | .legTimeout _ ch leg => isIntake ch && isSide leg
  | .pictureTimeout _ ch => isIntake ch
  | .missingPicture _ ch => isIntake ch
  | .auSlotEnd _ ch => isIntake ch
  | .feedLineRead _ slot _ => isSlot slot
  | .pendingTake _ slot bed => isSlot slot && isBed bed
  | .lineAck _ slot bed _ => isSlot slot && isBed bed
  | .cutTo _ a _ _ => isAllot a
  | .pictureBoundary _ slot => isSlot slot
  | .outtakeRowRead _ oc _ => isOuttake oc
  | .wordIssue _ bed => isBed bed
  | .wordRetire _ bed _ => isBed bed
  | .waitMet _ bed _ => isBed bed
  | .waitTimeout _ bed _ => isBed bed
  | .trapReq _ a _ _ _ => isAllot a
  | .patchLoad _ a _ => isAllot a
  | .sleepDelayExpiry _ bed => isBed bed
  | .sleepDone _ bed => isBed bed
  | .wake _ a _ => isAllot a
  | .sleep _ a _ => isAllot a
  | .powerReq _ a _ _ => isAllot a
  | .wakeDone _ bed => isBed bed
  | .run _ a _ _ _ => isAllot a
  | .admitSlot _ a _ _ _ => isAllot a
  | .streamAdmitted _ slot => isSlot slot
  | .periodChange _ group => isGroup group
  | .slotGrant _ a _ _ _ => isAllot a
  | .sieveCopyArrive _ die copy => isDie die && isSlot copy.slot && isBed copy.bed
  | .sieveWindowClose _ die slot _ _ _ => isDie die && isSlot slot
  | .retrialChoice _ slot _ => isSlot slot
  | .voteTimeout _ slot => isSlot slot
  | .doubleFaultRestart _ slot => isSlot slot
  | .excuseTimeout _ slot => isSlot slot
  | .scionChoice _ slot => isSlot slot
  | .transplantEnd _ slot _ => isSlot slot
  | .cuttingBoundary _ slot => isSlot slot
  | .probationEnd _ slot => isSlot slot
  | .exposureLimit _ slot => isSlot slot
  | .bedUnitReset _ bed => isBed bed
  | .cuttingCompare _ slot _ _ => isSlot slot
  | .sparePool _ a _ => isAllot a
  | .peer _ a _ _ => isAllot a
  | .almanacMessage _ port _ => isWayIn port
  | .identifyRequest _ port addr _ => isWayIn port && decide (addr < 16)
  | .go _ a => isAllot a
  | .ack _ a => isAllot a
  | .gapTimeout _ a _ => isAllot a
  | .read _ a _ _ _ _ => isAllot a
  | .write _ a _ _ _ _ => isAllot a
  | .writeStaged _ a _ _ _ _ => isAllot a
  | .stage _ a _ _ => isAllot a
  | .clearStage _ a => isAllot a
  | .addressChangeEffect _ _ => true
  | .key _ a _ _ => isAllot a
  | .keyGraceEnd _ allot => isAllot allot
  | .registerWrite _ a _ _ => isAllot a
  | .bitAliasWrite _ a _ _ => isAllot a
  | .doorbell _ a _ => isAllot a
  | .acquire _ a _ _ => isAllot a
  | .release _ a _ => isAllot a
  | .reset _ a _ => isAllot a
  | .pcieLinkReset _ link _ => isPcie link
  | .voteScrub _ _ => true
  | .claim _ a _ => isAllot a
  | .complete _ a _ _ => isAllot a
  | .sourceClear _ a => isAllot a
  | .msixUnmask _ a _ => isAllot a
  | .msixEnable _ a _ => isAllot a
  | .shedClaim _ pair _ _ => isPair pair
  | .scrub _ stack _ _ _ => isStack stack
  | .logClear _ a _ => isAllot a
  | .opPoint _ a _ _ => isAllot a
  | .pllLock _ pll => isPll pll
  | .opChangeStart _ stack => isStack stack
  | .stackHold _ stack => isStack stack
  | .opChangeDone _ stack => isStack stack
  | .opChangeTimeout _ stack => isStack stack
  | .start _ a ch => isAllot a && isDma ch
  | .disable _ a ch => isAllot a && isDma ch
  | .disableClear _ a ch => isAllot a && isDma ch
  | .dmaRequestDone _ ch _ _ => isDma ch
  | .dmaRequestFail _ ch _ _ => isDma ch
  | .faultRaise _ id => isSource id
  | .faultCauseGone _ id => isSource id
  | .force _ a _ _ => isAllot a
  | .classSet _ a _ _ => isAllot a
  | .recordClear _ a _ => isAllot a
  | .unitReset _ a _ _ => isAllot a
  | .unitResetEnd _ domain _ => decide (domain < 64)
  | .injectEnable _ a _ => isAllot a
  | .alertSw _ a _ => isAllot a
  | .aliveTick _ => true
  | .alertPulseEnd _ output => isSide output
  | .calStart _ a _ _ => isAllot a
  | .pairMeasureDone _ pair _ => isFibrePair pair
  | .alignTimeout _ lp => isLp lp
  | .sensorCalDone _ _ => true
  | .epoch _ a _ => isAllot a
  | .trimEpoch _ => true
  | .discard _ a => isAllot a
  | .trimSet _ a => isAllot a
  | .trimRestore _ a _ _ => isAllot a
  | .soilTestStart _ bed => isBed bed
  | .soilTestEnd _ bed _ => isBed bed
  | .retest _ a _ => isAllot a
  | .counterSel _ a _ _ => isAllot a
  | .freeze _ a _ => isAllot a
  | .snapshot _ a => isAllot a
  | .bedCounterOverflow _ bed counter _ _ slot _ _ _ => isBed bed && isBedCounter counter && isSlot slot
  | .harvestInstant _ => true
  | .harvestComplete _ a => isAllot a
  | .harvestList _ a _ _ => isAllot a
  | .histClear _ a _ => isAllot a
  | .meterSend _ die => isDie die
  | .meterMissing _ die => isDie die
  | .gaugeTime _ => true
  | .gaugeTimeFree _ => true
  | .gaugeBoundary _ => true
  | .gaugeClose _ => true
  | .gaugeRecordSend _ => true
  | .gaugeReplay _ => true
  | .sealOpen _ => true
  | .rgKeepReturn _ => true
  | .interval _ a _ => isAllot a
  | .tariff _ a _ => isAllot a
  | .record _ a _ => isAllot a
  | .feedInRange _ feed => isSide feed
  | .feedOutOfRange _ feed => isSide feed
  | .switchback _ => true
  | .feedsLost _ => true
  | .mainFeed _ a _ => isAllot a
  | .phaseFail _ phase => isPhase phase
  | .keepLoss _ => true
  | .tempWarnCross _ _ => true
  | .thermalTrip _ => true
  | .lifeHour _ _ => true
  | .gpiChange _ gpi _ => isGpio gpi
  | .set _ a _ _ _ => isAllot a
  | .gpoApply _ gpo => isGpio gpo
  | .gpoFailsafe _ => true
  | .timingEdge _ _ => true
  | .refInputLost _ _ => true
  | .barrierMessageError _ => true
  | .refclkWindow _ _ _ => true
  | .cfSource _ a _ => isAllot a
  | .blockWakeDone _ block => isBlock block
  | .ptpSync _ lp _ => isLp lp
  | .announce _ lp _ => isLp lp
  | .announceTimeout _ => true
  | .delayReq _ lp _ => isLp lp
  | .holdoverSpecExpiry _ => true
  | .timeSet _ a _ => isAllot a
  | .powerUp _ _ _ => true
  | .memoryTrainingDone _ _ => true
  | .trimsRestored _ => true
  | .pipelineRelease _ => true
  | .almanacLive _ => true
  | .fullReadiness _ => true
  | .perstRelease _ link => isPcie link
  | .rgKeepLoss _ => true
  | .hedgeVLoss _ => true
  | .dorsenRuns _ _ => true
  | .ptpManagement _ lp _ _ => isLp lp
  | .syncAndAnnounceSend _ lp _ => isLp lp
  | .configurationRequest _ link => isPcie link

end Sys2Proof
end

