-- ==== Sys2Proof/Config.lean ====
section
/-! DEFINITION. What one implementation fixes and what the spec leaves open: constants with no body (nothing can be
proved of their values), and the numbering constants of R2. Log entries 3, 9 to 19, 32 and 33 name each. -/

namespace Sys2Proof.Config

/-- Contents of the bed ROM (R131); the spec gives none. (DESIGN CHOICE, log entry 3.) -/
opaque rom : Nat → Microword
/-- ROM_VERSION, fixed at manufacture (Table 05.11). (DESIGN CHOICE, log entry 3.) -/
opaque romVersion : Nat
/-- SERIAL, 32 bytes fixed at manufacture (R494). (DESIGN CHOICE, log entry 3.) -/
opaque serial : List Byte
/-- SILICON_REV (R494). (DESIGN CHOICE, log entry 3.) -/
opaque siliconRev : Nat
/-- FIRMWARE of a Dorsen bank (R494). (DESIGN CHOICE, log entry 3.) -/
opaque firmware : Nat → Nat
/-- MGMT_MAC, 12 bytes (R494). (DESIGN CHOICE, log entry 3.) -/
opaque mgmtMac : List Byte
/-- KEY_BLOCK of the gauge (R423). (DESIGN CHOICE, log entry 3.) -/
opaque keyBlock : List Byte
/-- Whether an ECDSA P-384 signature over a body holds against Caeroarno's public key (R132). (DESIGN CHOICE, log
entry 9.) -/
opaque signatureOk : List Byte → List Byte → Bool
/-- The gauge's ECDSA P-384 signature of a record (R422): the key never leaves the gauge. (DESIGN CHOICE, log entry 9.) -/
opaque gaugeSign : List Byte → List Byte
/-- Coefficients of the fixed filter sets 0 to 2 (R107 gives none): set, axis (0 horizontal), phase, tap. (DESIGN
CHOICE, log entry 10.) -/
opaque filterCoef : Nat → Nat → Nat → Nat → Int
/-- Factory trims of a wavelength plan and a fibre pair (R393, R436): 16 values in the order of Table 16.1. (DESIGN
CHOICE, log entry 11.) -/
opaque factoryTrim : Nat → Nat → List Int
/-- Factory correction of a sensor: offset, gain (R393). (DESIGN CHOICE, log entry 11.) -/
opaque factorySensor : Nat → Int × Int
/-- REMAINING of a DMA channel after DISABLE (R364): undefined, by a fresh counter. (DESIGN CHOICE, log entry 13.) -/
opaque remainingUndefined : Nat → BitVec 32
/-- A destination byte of a DMA range after DISABLE, and of an exchange area after its size or die changes (R364,
R369). (DESIGN CHOICE, log entry 13.) -/
opaque memoryUndefined : Nat → Nat → Byte
/-- Analogue readings that the spec does not compute: a sensor, feed or rail reading by its entry (Tables 16.5, 19.9).
(DESIGN CHOICE, log entry 11.) -/
opaque reading : Nat → Nat → Nat → BitVec 32
/-- Start-store bank that holds the newer Dorsen (R480). (DESIGN CHOICE, log entry 3.) -/
opaque newerBank : Nat
/-- Whether an insert above 3,670,016 used slots finds a place (R49: it "may fail"), by a fresh counter. (DESIGN
CHOICE, log entry 14.) -/
opaque insertFits : Nat → Bool
/-- Bytes of a pot or a stream region that DMA reads return (R361: read as they stand), by slot and offset. (DESIGN
CHOICE, log entry 13.) -/
opaque potByte : Nat → Nat → Byte
/-- Other expected instants that the spec leaves to the part: READY_AT of a restart (R310, R485), by a fresh counter.
(DESIGN CHOICE, log entry 16.) -/
opaque expectedReady : Nat → Nat
/-- The EUI-64 that a MAC address forms as IEEE 1588-2019 sets out (R494, Table 20.4), which the spec does not spell out.
(DESIGN CHOICE, log entry 3.) -/
opaque eui64 : List Byte → BitVec 64
/-- Correction that the servo's filter adds to the frequency after a Sync of an offset (R469 bounds it, nothing fixes it):
the new correction in ppb before the clip to SLEW_MAX. (DESIGN CHOICE, log entry 15.) -/
opaque servo : Int → Int → Int
/-- Stack syndrome and other fields of an error log entry that no rule computes (Table 14.3). (DESIGN CHOICE, log
entry 12.) -/
opaque syndrome : Nat → BitVec 32

/-- The hop limit that a decrement of 0 leaves (Table 02.6 states none), by a fresh counter. (DESIGN CHOICE, log entry
17.) -/
opaque hopUnderflow : Nat → BitVec 8

/-- Stack address of an error whose command does not carry it (Table 14.3), by a fresh counter. (DESIGN CHOICE, log
entry 12.) -/
opaque errorAddress : Nat → Nat

/-- Sample of a reconstruction: the content that a bed wrote, plane, column, row (the standards' and the search's own
results; log entry 120). Read modulo 2 to the coded depth. (DESIGN CHOICE, log entry 120.) -/
opaque sample : Nat → Nat → Nat → Nat → Nat
/-- Serialised state of a row that the bed's units hold (Table 09.2): the content, the section (0 lines not yet deblocked or
filtered, 1 motion fields, 2 CABAC contexts, 3 ALF parameters) and the row. (DESIGN CHOICE, log entry 120.) -/
opaque rowState : Nat → Nat → Nat → List Byte
/-- Progress of a resumable word that a request finds under way, when no command carries it (Table 05.8), by a fresh
counter. (DESIGN CHOICE, log entry 121.) -/
opaque progress : Nat → BitVec 80

/-- Which of a pipeline die's two stacks holds a delivery entry's burst (R21 names both), by entry. (DESIGN CHOICE,
log entry 12.) -/
opaque deliveryStack : Nat → Bool
/-- PARITY of a 64-bit word of a delivery entry (Table 02.6 leaves its sense to the Malku): word number, word. (DESIGN
CHOICE, log entry 17.) -/
opaque parityOf : Nat → BitVec 64 → Bool

/-- First source sample and phase (0 to 63) of the polyphase scaler for an output sample (R107 gives the taps and the
phases, not their positions): source size, output size, output position, taps. (DESIGN CHOICE, log entry 10.) -/
opaque scalerPhase : Nat → Nat → Nat → Nat → Int × Nat

/-- Bytes of a stream's hold row (R247), by slot and whether it is the last row: the members code the templates.
(DESIGN CHOICE, log entry 18.) -/
opaque holdBytes : Nat → Nat → Nat

/-- Result of a scalar shift by 32 or more (Table 05.2 gives none): operation, operand, shift. (DESIGN CHOICE, log
entry 19.) -/
opaque wideShift : Nat → BitVec 32 → BitVec 32 → BitVec 32
/-- Flag C after CMP (chapter 05 sets the flags from A − B and does not give the sense of C): A, B. (DESIGN CHOICE,
log entry 19.) -/
opaque cmpCarry : BitVec 32 → BitVec 32 → Bool

/-- Whether an edge code of TALLY_MAP names a change of a GPI to a level (Table 04.4 gives no codes): code, level.
(DESIGN CHOICE, log entry 32.) -/
opaque tallyEdge : Nat → Bool → Bool

/-- Bits of a zero-residual CTU, of which R166 says at most 16, by a fresh counter: read modulo 17. (DESIGN CHOICE,
log entry 18.) -/
opaque zeroResidual : Nat → Nat

/-- What a read shows of a number that has no default and has not been written (Tables 04.4 and 08.6), by entry.
(DESIGN CHOICE, log entry 33.) -/
opaque unset : Nat → Nat

/-- Beds of the module (R2). -/
def beds : Nat := 288
/-- Stream slots (R2). -/
def slots : Nat := 8192
/-- Logical ports (R2). -/
def lps : Nat := 1024
/-- Queues (R2). -/
def queues : Nat := 262144
/-- Entries of the delivery table (Table 00.1). -/
def deliveryEntries : Nat := 33554432
/-- Cells of a pipeline die (R72). -/
def dieCells : Nat := 786432
/-- Deep cells of a pipeline die (R79). -/
def dieDeep : Nat := 8388608

end Sys2Proof.Config
end

