-- ==== Sys2Proof/Machine/State.lean ====
section
/-! DEFINITION. The block's state: everything the spec gives the machine to hold, as plain data, and the state after
reset. Each field's text names the rule and file that give it; a field's default is its value after reset (log entries
1 and 2 name the values the spec does not give). Sparse tables list only the keys that differ from their default. -/

namespace Sys2Proof.Machine

/-- A sparse table: keys strictly rising, no entry equal to the default of its key. -/
abbrev Tab (α : Type) := List (Nat × α)

/-! ## What leaves the block -/

/-- Picture types that a stream codes (R154). -/
inductive PicType where
  | cra | gdr | p
  deriving DecidableEq, Repr

/-- What the parameter sets of a stream signal (R149, R150, R157, R166, R188): cbr_flag is 0, and the chroma sample location of a
4:2:0 stream is type 0. -/
structure ParamSets where
  codec : Nat
  profile : Nat
  /-- Level × 10. -/
  level : Nat
  /-- Size coded, rounded up to a multiple of 8, and what the conformance window crops on the right and below. -/
  w : Nat
  h : Nat
  cropRight : Nat
  cropBelow : Nat
  ctu : Nat
  sampling : Nat
  depth : Nat
  refPics : Nat
  /-- HRD rate in kbit/s and CPB size in bits. -/
  rateMax : Nat
  buffer : Nat
  cbr : Bool := false
  chromaLoc : Option Nat
  fieldSeq : Bool
  wavefront : Bool
  /-- Tile columns, as their widths in CTUs. -/
  tiles : List Nat
  deriving DecidableEq, Repr

/-- A part of a release unit (R157, R176 to R180). -/
inductive Part where
  | delimiter
  | params (p : ParamSets)
  /-- The APS that every H.266 picture has (Table 06.2). -/
  | aps
  | bufferingPeriod
  /-- Recovery point SEI of H.265: recovery_poc_cnt. -/
  | recoveryPoint (count : Nat)
  /-- Picture timing or frame-field information SEI: sampling instant, and whether the picture is a field. -/
  | timing (instant : Nat) (field : Bool)
  /-- Picture header of H.266: ph_recovery_poc_cnt of a GDR picture, and the vertical virtual boundary. -/
  | header (recovery boundary : Option Nat)
  /-- A slice, or a slice segment: picture type, 8-bit POC LSB, first CTU, CTUs, and whether it is independent. -/
  | slice (type : PicType) (poc first count : Nat) (independent : Bool)
  /-- user_data_registered_itu_t_t35 SEI of an ANC packet in the suffix SEI NAL unit. -/
  | t35 (did sdid label : Nat)
  | filler (bytes : Nat)
  /-- PAT and PMT of the transport stream: PMT PID, and stream type and PID of each elementary stream. -/
  | tables (pmt : Nat) (streams : List (Nat × Nat))
  /-- A PCR in the unit's first TS packet: its instant in ns. -/
  | pcr (instant : Nat)
  /-- The picture's PES packet on the video PID: PTS and DTS. -/
  | videoPes (pid pts : Nat)
  /-- An ANC packet in the SMPTE ST 2038 format on the ancillary PID. -/
  | st2038 (pid did sdid label : Nat)
  /-- A PES packet of SMPTE ST 302: PID, PTS, channels after padding, bits, and the samples it holds: packet, first, count. -/
  | st302 (pid pts channels bits : Nat) (samples : List (Nat × Nat × Nat))
  /-- Null packets on PID 0x1FFF. -/
  | nulls (count : Nat)
  deriving DecidableEq, Repr

/-- Something an outside party sees (the pins, ports and links of the block). -/
inductive Emit where
  /-- A frame leaves a logical port from a queue; `bad` when its FCS is inverted (R78). -/
  | frame (t lp queue : Nat) (f : Frame) (bad : Bool)
  /-- A frame or copy is dropped; the cause is a counter's name. -/
  | drop (t lp : Nat) (cause : String) (label : Nat)
  /-- A frame goes to a consumer inside: 0 timekeeper, 1 Shed, 2 Almanac front end. -/
  | consumer (t lp who : Nat) (label : Nat)
  /-- An MSI-X message (R341): the data that its table entry holds, to the address that it holds. -/
  | msix (t link vector addr data : Nat)
  /-- An Almanac reply leaves by a way in (port number, or 0xF00 + allotment for its mailbox). -/
  | reply (t port a : Nat) (bytes : List Byte)
  /-- PTP message sent on a logical port: 0 Announce, 1 Sync, 2 Follow_Up, 3 Delay_Req, 4 Delay_Resp, 5 management. -/
  | ptp (t lp kind : Nat) (clockClass : Nat) (multicast : Bool := true)
  /-- A strip line goes to a bed (R110). -/
  | strip (t slot bed line : Nat) (samples : List Nat)
  /-- A line of a coded picture, as the feed reduces it from the source, goes to a bed (R187). -/
  | coded (t slot bed line : Nat) (samples : List Nat)
  /-- Audio samples or an ANC packet attached to a picture slot go to a bed of the stream (R175). -/
  | essence (t slot bed instant label : Nat)
  /-- A bed sends the digest of a row (R241). -/
  | digest (t bed slot picture row : Nat) (value : BitVec 64)
  /-- What a release unit that an emitter sends holds, in order (R178). -/
  | unit (t die slot picture row tile : Nat) (parts : List Part)
  /-- A release unit reaches a Sieve instance over the Trellis: its header (R240). -/
  | copy (t die : Nat) (header : List Byte)
  /-- A release unit is released by a Sieve instance (R243). -/
  | release (t die slot picture row bed : Nat)
  /-- A hold row is emitted (R247). -/
  | holdRow (t die slot picture row : Nat)
  /-- An outtake channel's packets of a row (R226): 0 black, else one more than the picture shown; the content of each of the
  row's CTUs (as a pot's `fills`) and the depth to which its samples are lowered (R118). -/
  | row (t oc slot row : Nat) (source : Nat) (rtpTs : Nat) (fills : List Nat) (depth : Nat)
  /-- The frame of a gauge record or key block leaves the gauge port (R429, R455): sequence 0 stands for the key block. -/
  | gauge (t seq : Nat) (bytes : List Byte)
  /-- A barrier message to the Hedge (Table 19.8): an output set carries its level, and twice its apply time above it. -/
  | barrier (t code unit val : Nat)
  /-- A PCIe configuration request is completed; retry status or normally (R486). -/
  | config (t link : Nat) (retry : Bool)
  /-- A logical port begins to send link fault signalling as it enters DOWN, or ends it (Table 02.2, Table 02.3). -/
  | linkFault (t lp : Nat) (on : Bool)
  /-- The Shed reports an IGMP or MLD message to the owner of its ingress logical port (R41). -/
  | report (t lp owner label : Nat)
  /-- A DMA write reaches host memory (R363). -/
  | dmaHost (t ch addr : Nat) (data : List Byte)
  deriving DecidableEq, Repr

/-- The answer of the last Almanac operation or read command: Table 11.4 less the fields copied from the request. -/
structure Answer where
  status : Nat := 0
  effectAt : Nat := 0
  data : List Byte := []
  deriving DecidableEq, Repr

/-! ## Trellis and Shed (01) -/

/-- Traffic classes of the Trellis (R19). -/
inductive TransferClass where
  | control | media | bulk
  deriving DecidableEq, Repr

/-- A transfer that a Trellis link holds while it moves a lane (R20): a release unit on its way to a Sieve instance, a
strip line, a line of a coded picture, a chunk of a bitstream or attached audio and ancillary data on their way to a bed, or a prune request on its
way to the fault collector. -/
inductive Transfer where
  | copy (die : Nat) (u : UnitCopy)
  | strip (die slot bed line : Nat) (samples : List Nat)
  | coded (die slot bed line : Nat) (samples : List Nat)
  | chunk (die slot bed label : Nat)
  | essence (die slot bed instant label : Nat)
  | prune (die slot picture bed : Nat)
  deriving DecidableEq, Repr

/-- A Trellis link (R20, 01_architecture.md): spare lanes left and lanes moving or dead in each direction. -/
structure Link where
  /-- Spare lanes left, outward. 2 bits. R20 (01). -/
  spare0 : Nat := 2
  /-- Spare lanes left, inward. 2 bits. R20 (01). -/
  spare1 : Nat := 2
  /-- Outward lanes whose traffic is moving to a spare. R20 (01). -/
  moving0 : Nat := 0
  /-- Inward lanes whose traffic is moving to a spare. R20 (01). -/
  moving1 : Nat := 0
  /-- Failed lanes with no spare to take their traffic. R20 (01). -/
  dead : Nat := 0
  /-- Transfers are held during a move. 1 bit. R20 (01). -/
  holding : Bool := false
  /-- The transfers held, oldest first. R20 (01). -/
  held : List Transfer := []
  /-- The link runs at reduced width (H, CF, RG). 1 bit. R20 (01). -/
  narrow : Bool := false
  deriving DecidableEq, Repr

/-- A write held for the Shed (R31, R320). -/
structure HeldWrite where
  a : Nat
  off : Nat
  val : Nat
  deriving DecidableEq, Repr

/-- An operation of the journal (R310). -/
structure JournalOp where
  a : Nat
  seq : Nat
  idx : Nat
  op : Nat
  fam : Nat
  inst : Nat
  mem : Nat
  val : List Byte
  deriving DecidableEq, Repr

/-- The Shed (R29 to R31, R309, R310). -/
structure Shed where
  /-- Dorsen runs (power-up step 6 reached). 1 bit. R477 (21). -/
  running : Bool := false
  /-- All of Dorsen is restarting. 1 bit. R29 (01). -/
  restarting : Bool := false
  /-- Core pairs restarting. 16 bits. R309 (11). -/
  pairsDown : List Nat := []
  /-- Pair that does the work of a pair that restarts or is pruned. R309 (11). -/
  takenBy : Tab Nat := []
  /-- Expected readiness, E 01.0000.08. 64 bits. R310 (11). -/
  readyAt : Nat := 0
  /-- Writes to Shed-only register fields held during a restart, in order. R31 (01). -/
  held : List HeldWrite := []
  /-- The journal of queued Almanac operations, oldest first, at most 16,384. R310 (11). -/
  journal : List JournalOp := []
  /-- Operations of allotments whose core pair restarts, which wait unanswered for the takeover. R309 (11). -/
  waiting : List JournalOp := []
  deriving DecidableEq, Repr

/-! ## Ports, pipelines, forwarding (02) -/

/-- Logical port states (Table 02.3). -/
inductive PortState where
  | disabled | down | listen | forwarding | pruned
  deriving DecidableEq, Repr

/-- Counters of a logical port; each 64 bits, reset 0 (R401). -/
structure PortCounts where
  framesRx : Nat := 0
  octetsRx : Nat := 0
  framesTx : Nat := 0
  octetsTx : Nat := 0
  /-- Dropped under R39: shorter than 64 bytes. -/
  short : Nat := 0
  /-- Dropped under R39: longer than MAX_FRAME. -/
  long : Nat := 0
  /-- Dropped under R39: FCS error. -/
  fcs : Nat := 0
  overruns : Nat := 0
  displaced : Nat := 0
  unknownMulticast : Nat := 0
  calDrops : Nat := 0
  pauseRx : Nat := 0
  pfcRx : Nat := 0
  lpiRx : Nat := 0
  igmpMld : Nat := 0
  cellStoreDrops : Nat := 0
  poolDrops : Nat := 0
  poolFallbacks : Nat := 0
  listenDiscards : Nat := 0
  cellErrors : Nat := 0
  uncorrectable : Nat := 0
  flowDrops : Nat := 0
  deriving DecidableEq, Repr

/-- A frame being sent by a logical port. -/
structure Sending where
  queue : Nat
  chain : Nat
  f : Frame
  /-- Allotment and class the Rain Gauge charges (Table 18.1); class 5 counts nothing. -/
  payer : Nat
  cls : Nat
  bad : Bool
  /-- Stream slot of a packet the block created. -/
  slot : Option Nat := none
  /-- Where the copy lies, as in the queue: 0 on-die chain, 1 deep chain, 2 pool buffer (`arg` is the pool). -/
  loc : Nat := 0
  arg : Nat := 0
  /-- Allotment whose deep cells the copy holds. -/
  allot : Nat := 0
  deriving DecidableEq, Repr

/-- A logical port (02_field_ports.md). -/
structure Port where
  /-- STATE, 3 bits. Table 02.3, R42 (02). -/
  st : PortState := .disabled
  /-- FEC aligned. 1 bit. R42 (02). -/
  aligned : Bool := false
  /-- Time at which the port entered LISTEN. R43 (02). -/
  listenSince : Nat := 0
  /-- LAST_CLEAN, 64 bits. Table 02.8 (02). -/
  lastClean : Nat := 0
  /-- Classes paused, each with the end of its pause. R38 (02). -/
  paused : List (Nat × Nat) := []
  /-- Frame being sent. R266 (10). -/
  sending : Option Sending := none
  /-- Queue of the port whose turn it is while queues catch up: the packet round robin of R266 (10). -/
  rrCatch : Nat := 0
  /-- Group whose turn it is at each priority level, and packets left of its turn (0 for a turn not begun). R266 (10). -/
  rrGroup : List (Nat × Nat) := [(0, 0), (0, 0), (0, 0), (0, 0)]
  /-- Class whose turn it is in each group, and packets left of its turn (0 for a turn not begun). R266 (10). -/
  rrClass : Tab (Nat × Nat) := []
  /-- Calibration interruption: the instant at which the lanes should be aligned again; 0 when none. R388 (16). -/
  interruptedTo : Nat := 0
  /-- Counters. R401 (17). -/
  cnt : PortCounts := {}
  deriving DecidableEq, Repr

/-- A frame in an ingress buffer (R45). -/
structure InFrame where
  lp : Nat
  t : Nat
  f : Frame
  deriving DecidableEq, Repr

/-- A flow of a pipeline's flow table (Tables 02.4, 02.5). -/
structure Flow where
  keyType : Nat
  srcAny : Bool
  drop : Bool
  lp : Nat
  vid : Nat
  udpDst : Nat
  src : IpAddr
  dst : IpAddr
  index : Nat
  policer : Nat
  owner : Nat
  /-- The entry has failed parity and waits for the Shed (R67). -/
  bad : Bool := false
  deriving DecidableEq, Repr

/-- An entry of a learned L2 table (R62 to R65). -/
structure L2Entry where
  vid : Nat
  mac : Mac
  lp : Nat
  /-- 16-bit stamp in seconds (R64). -/
  stamp : Nat
  static : Bool
  bad : Bool := false
  deriving DecidableEq, Repr

/-- A pipeline (R45, R62). -/
structure Pipeline where
  /-- Field port served next in round robin. 3 bits. R45 (02). -/
  rr : Nat := 0
  /-- Flow table, at most 4,194,304 slots. R40, R49 (02). -/
  flows : List Flow := []
  /-- L2 table, at most 262,144 learned entries. R62 (02). -/
  l2 : List L2Entry := []
  /-- VLANs whose member set has failed parity. R67 (02). -/
  badVlans : List Nat := []
  /-- One more than the 20 ns slot in which the last new entry was learned; 0 before the first. R62 (02). -/
  learnT : Nat := 0
  /-- Learns skipped for the rate. 64 bits. R62 (02). -/
  learnSkips : Nat := 0
  /-- Learns refused for a full table or limit. 64 bits. R62 (02). -/
  learnFull : Nat := 0
  /-- Refused moves of static MACs. 64 bits. R63 (02). -/
  refusedMoves : Nat := 0
  /-- Parity misses. 64 bits. R66 (02). -/
  parityMisses : Nat := 0
  /-- Walks stopped at a limit. 64 bits. R53 (02). -/
  walkLimits : Nat := 0
  /-- Delivery reads that were uncorrectable. 64 bits. R68 (02). -/
  deliveryErrors : Nat := 0
  /-- Released at power-up step 9 or by its unit reset. 1 bit. R483 (21), R69 (02). -/
  released : Bool := false
  deriving DecidableEq, Repr

/-- A delivery block (R54). -/
structure Block where
  /-- Allotment granted, none until the first grant. -/
  owner : Option Nat := none
  /-- LINK_FROM, 16 bits. -/
  linkFrom : BitVec 16 := 0
  deriving DecidableEq, Repr

/-- Counts of a VLAN (R60). -/
structure VlanCounts where
  floodDrops : Nat := 0
  /-- PTP second in which floods are counted. -/
  second : Nat := 0
  floods : Nat := 0
  deriving DecidableEq, Repr

/-- The forwarding plane (02_field_ports.md). -/
structure Forwarding where
  /-- 1,024 logical ports. R2 (00). -/
  ports : Tab Port := []
  /-- 64 ingress buffers of 256 KiB, oldest frame first. R45 (02). -/
  ingress : Tab (List InFrame) := []
  /-- Eight pipelines. R2 (00). -/
  pipes : Tab Pipeline := []
  /-- P0's copy of the delivery table, 33,554,432 × 512 bits. R21 (01). -/
  delivery0 : Tab DeliveryWord := []
  /-- P1's copy. R21 (01). -/
  delivery1 : Tab DeliveryWord := []
  /-- Entries of a copy (die × 2^25 + index) whose read was uncorrectable and that wait for the Shed. R68 (02). -/
  badDelivery : List Nat := []
  /-- MODEL'S OWN: failed reads of the command in hand that their stack has still to log: pipeline, and entry as above.
  R353 (14). -/
  failedReads : List (Nat × Nat) := []
  /-- 8,192 block grants. R54 (02). -/
  blocks : Tab Block := []
  /-- VLAN counts. R60 (02). -/
  vlans : Tab VlanCounts := []
  deriving DecidableEq, Repr

/-! ## Cells, pools, rings (03) -/

/-- A chain of on-die cells (R72, R76). -/
structure Chain where
  die : Nat := 0
  cells : Nat := 0
  /-- Reference count, 16 bits. R76 (03). -/
  refs : Nat := 0
  /-- Allotment charged. R73 (03). -/
  allot : Nat := 0
  /-- Counts against CROSS_LIMIT. R73 (03). -/
  crossing : Bool := false
  /-- A cell of the chain failed and is retired when freed. R78 (03). -/
  broken : Nat := 0
  deriving DecidableEq, Repr

/-- What a crossing packet carries (R58, R60): its delivery index, the VLAN it floods in, or the port that a static L2
entry names. -/
inductive CrossDest where
  | run (index : Nat) | flood (vid : Nat) | l2 (lp : Nat)
  deriving DecidableEq, Repr

/-- What a packet that the block creates carries besides its bytes: the allotment and class the Rain Gauge charges
(Table 18.1), its stream slot, and its pacing: scheduled time and spacing as numerators over one denominator, in ns, and
CMAX (R275 to R277). -/
structure Own where
  payer : Nat
  cls : Nat
  slot : Nat
  pace : Option (Nat × Nat × Nat × Nat) := none
  deriving DecidableEq, Repr

/-- A packet crossing between the pipeline dies (R22, R58). -/
structure Crossing where
  chain : Nat
  dest : CrossDest
  /-- Ingress logical port. -/
  lp : Nat
  allot : Nat
  f : Frame
  /-- For a packet that the block created. -/
  own : Option Own := none
  deriving DecidableEq, Repr

/-- A Vergel pool of a die (R83 to R85). -/
structure Pool where
  /-- TARGET, 18 bits, reset 0. R85 (03). -/
  target : Nat := 0
  /-- Buffers carved. R85 (03). -/
  have_ : Nat := 0
  /-- POOL_FREE, 18 bits, reset 0. R84 (03). -/
  free : Nat := 0
  deriving DecidableEq, Repr

/-- Allotment buffer record of a die (R95). -/
structure BufRec where
  /-- RESERVE, 20 bits, reset 0. R74 (03). -/
  reserve : Nat := 0
  /-- CAP, 20 bits, reset 786,432. R74 (03). -/
  cap : Nat := 786432
  /-- DEEP_CAP, 24 bits, reset 0. R80 (03). -/
  deepCap : Nat := 0
  /-- USED, 20 bits, reset 0. R73 (03). -/
  used : Nat := 0
  /-- DEEP_USED, 24 bits, reset 0. R80 (03). -/
  deepUsed : Nat := 0
  deriving DecidableEq, Repr

/-- The cell store of a pipeline die (03_cells_pools_fifos.md). -/
structure CellStore where
  /-- FREE, 20 bits, reset 786,432. R95 (03). -/
  free : Nat := 786432
  /-- DEEP_FREE, 24 bits, reset 8,388,608. R95 (03). -/
  deepFree : Nat := 8388608
  /-- CROSS_LIMIT, 20 bits, reset 65,536. R74 (03). -/
  crossLimit : Nat := 65536
  /-- Cells that crossing chains hold. R74 (03). -/
  crossUsed : Nat := 0
  /-- Cells retired. R78 (03). -/
  retired : Nat := 0
  /-- Deep cells retired. R355 (14). -/
  deepRetired : Nat := 0
  /-- Pools 0 to 3. R83 (03). -/
  pools : Tab Pool := []
  /-- Records of the 16 allotments. R95 (03). -/
  recs : Tab BufRec := []
  /-- VERGEL of the die's record of each allotment, 16 bits, reset 0. R83, R95 (03). -/
  vergel : BitVec 16 := 0
  /-- Packets waiting to cross to the other die, oldest first. R22 (01). -/
  waiting : List Crossing := []
  /-- Packets sent across and not yet arrived, oldest first. R22 (01). -/
  inFlight : List Crossing := []
  /-- Crossing packets dropped, counted per destination die. 64 bits. R22 (01). -/
  crossDrops : Nat := 0
  /-- Deep-cell traffic of the current 1 µs interval, in bytes. R360 (14). -/
  deepMeter : Nat := 0
  deriving DecidableEq, Repr

/-- An event ring (R89 to R94). -/
structure Ring where
  /-- Entries waiting, oldest first, at most 4,096 × 256 bits. R89 (03). -/
  entries : List RingWord := []
  /-- ENABLE, 1 bit, reset 0. R94 (03). -/
  enable : Bool := false
  /-- THRESHOLD, 13 bits, reset 1. R93 (03). -/
  threshold : Nat := 1
  /-- GAP, 1 bit, reset 0. R90 (03). -/
  gap : Bool := false
  /-- UNDERRUN, 1 bit, reset 0. R91 (03). -/
  underrun : Bool := false
  /-- GAP_COUNT, 32 bits, reset 0. R90 (03). -/
  gapCount : Nat := 0
  /-- Times of the first and the last lost entry. Table 03.3 (03). -/
  gapFirst : Nat := 0
  gapLast : Nat := 0
  /-- Last entry consumed, zeros after power-up or FLUSH. R91 (03). -/
  last : RingWord := 0
  /-- Words latched by a read of word 0. R92 (03). -/
  latch : RingWord := 0
  deriving DecidableEq, Repr

/-! ## Intake, feeds, outtake (04, 08) -/

/-- A line of a source store: its samples, 12-bit in 16-bit containers (R105), and whether this picture has written it. -/
structure StoreLine where
  samples : List Nat := []
  /-- Samples of the current picture that have arrived. -/
  got : Nat := 0
  /-- The line was released to conditioning with samples missing. R100 (04). -/
  released : Bool := false
  deriving DecidableEq, Repr

/-- A packet behind a gap of the merge: its ESN, its time of arrival, its RTP timestamp and the row that its samples begin
in. R100 (04). -/
structure Behind where
  esn : Nat
  t : Nat
  ts : BitVec 32
  row : Nat
  deriving DecidableEq, Repr

/-- The conditioning of the picture that a feed reads: sampling and rate of the channel, cropped size, scaled size,
orientation, filter set and custom coefficients (R106 to R108, R119). -/
structure Cond where
  sampling : Nat
  rate : Nat
  w : Nat
  h : Nat
  sw : Nat
  sh : Nat
  orient : Nat
  filter : Nat
  coef : List Byte
  deriving DecidableEq, Repr

/-- An intake channel (R96 to R109, R210 to R212, R224). -/
structure Intake where
  /-- Leg A and B up, 2 bits, reset 0. R101 (04). -/
  legA : Bool := false
  legB : Bool := false
  /-- ESNs received and still open to duplicates, newest first. R99 (04). -/
  seen : List Nat := []
  /-- Oldest ESN that an open line still needs. R99 (04). -/
  oldest : Nat := 0
  /-- ESN gap that waits for MERGE_WAIT: the first missing ESN, and the time of the first packet after it. R100 (04). -/
  gapFrom : Option Nat := none
  gapSince : Nat := 0
  /-- Packets received behind the first missing ESN. R100 (04). -/
  behind : List Behind := []
  /-- Highest ESN received. R99 (04). -/
  top : Option Nat := none
  /-- Time of the last packet of each leg. R101 (04). -/
  lastA : Nat := 0
  lastB : Nat := 0
  /-- RTP timestamp of the open picture or AU. R102, R211 (04, 08). -/
  openTs : Option (BitVec 32) := none
  /-- Time of its first packet. R102 (04). -/
  openSince : Nat := 0
  /-- RTP timestamp of the last ended picture or AU. R102 (04). -/
  endedTs : Option (BitVec 32) := none
  /-- Source store, by line of the cropped picture. R102 (04). -/
  store : Tab StoreLine := []
  /-- The second picture that every vertical orientation needs. R108 (04). -/
  store2 : Tab StoreLine := []
  /-- The store has held a picture since the channel was enabled. R103 (04). -/
  held : Bool := false
  /-- Pictures ended since power-up. -/
  pictures : Nat := 0
  /-- The last slot's picture is missing. R104 (04). -/
  missing : Bool := false
  /-- Sampling instant of the last picture counted as missing. R104 (04). -/
  missedAt : Option Nat := none
  /-- Offsets measured over the last 64 pictures, newest first. 64 × 32 bits. 04 (Feeds). -/
  offsets : List Nat := []
  /-- Extra rows of the open picture counted once each. R103 (04). -/
  extraRows : List Nat := []
  /-- Rows of the open picture with samples beyond the configured width, counted once each. R103 (04). -/
  longRows : List Nat := []
  /-- Custom filter set in force and pending: 896 × 16 bits. R107 (04). -/
  coef : List Byte := []
  coefPending : List Byte := []
  /-- Pictures of the channel waiting for a configuration at its next boundary: (member, value). R119 (04). -/
  pending : List (Nat × List Byte) := []
  /-- Decode: slot of the open AU (none when tagged decode only) and the last slot given. R224 (08). -/
  auSlot : Option Nat := none
  lastSlot : Option Nat := none
  /-- Bitstream in order: labels of chunks, 0 for a loss marker. R212 (08). -/
  bits : List Nat := []
  /-- Slots given to the last AUs, newest first, at most 64. R224 (08). -/
  tags : List Nat := []
  /-- Compressed packets behind a gap of the merge, in ESN order, with their times of arrival. R100, R212 (04, 08). -/
  waiting : List (Nat × IntakePkt) := []
  /-- Audio and ANC packets attached to picture slots. R175 (06). -/
  attached : Nat := 0
  /-- Video PID that a PMT has given a decode stream in the TS wrapper. R210 (08). -/
  pmtPid : Option Nat := none
  /-- 18 to 1E of Table 04.4: duplicates, late, filled, discarded, long, missing, leg-down. 7 × 64 bits. -/
  counts : List Nat := [0, 0, 0, 0, 0, 0, 0]
  deriving DecidableEq, Repr

/-- A cut order that waits for its boundary (R113, R114). -/
structure CutOrder where
  orderTime : Nat
  tally : Bool
  ch : Nat
  deriving DecidableEq, Repr

/-- A feed of a stream slot (R110 to R116, R235). -/
structure Feed where
  /-- SOURCE, 16 bits; none before admission. Table 04.4 (04). -/
  source : Option Nat := none
  /-- Cut orders waiting. R113 (04). -/
  cuts : List CutOrder := []
  /-- Line to be read next, and the sampling instant of its picture. R110 (04). -/
  line : Nat := 0
  picture : Nat := 0
  /-- Channel whose picture is being read: a cut acts on the next picture. R116 (04). -/
  reading : Option Nat := none
  /-- Conditioning of that picture. R119 (04). -/
  cond : Option Cond := none
  /-- A picture is pending in a hold buffer (its sampling instant), and which buffer. R111, R112 (04). -/
  pend : Option Nat := none
  pendBuf : Nat := 0
  /-- The picture now being read goes to the hold buffer. R111 (04). -/
  toHold : Bool := false
  /-- Members that have not yet started the last CTU row of the picture they took. R111 (04). -/
  busy : List Nat := []
  /-- Members that have taken the picture last taken from a hold buffer, until all have. R111, R112 (04). -/
  took : List Nat := []
  /-- Active instance's die. R235 (09). -/
  activeDie : Nat := 0
  /-- Lines acknowledged by each member (bed, line). R235 (09). -/
  acks : List (Nat × Nat) := []
  /-- Common mark, as line + 1 of the current picture. R235 (09). -/
  mark : Nat := 0
  /-- Mark the standby has been told. R235 (09). -/
  standbyMark : Nat := 0
  /-- LAST_CUT, 64 bits, reset 0. Table 04.4 (04). -/
  lastCut : Nat := 0
  /-- 10 to 14 of Table 04.4: replaced pendings, repeat slots, late lines, superseded, refused orders. 5 × 64 bits. -/
  counts : List Nat := [0, 0, 0, 0, 0]
  deriving DecidableEq, Repr

/-- An outtake channel (R117, R226 to R228). -/
structure Outtake where
  /-- RTP sequence number, 16 bits. R118 (04). -/
  seq : Nat := 0
  /-- Slot being shown. R226 (08). -/
  slotNo : Nat := 0
  /-- Label of the last picture shown; none shows black. R226 (08). -/
  shown : Option Nat := none
  /-- Packets sent. -/
  packets : Nat := 0
  deriving DecidableEq, Repr

/-! ## Beds (05) -/

/-- Bed states (Table 05.10). -/
inductive BedState where
  | off | waking | idle | running | soilTest | pruned | sleeping
  deriving DecidableEq, Repr

/-- A patch set (Table 05.7): version, match table and words. -/
structure PatchSet where
  version : Nat := 0
  /-- Match registers: ROM address, patch word. -/
  matches_ : List (Nat × Nat) := []
  words : List Microword := []
  deriving DecidableEq, Repr

/-- The micro-state of a bed, as the trap capsule saves it (Tables 05.1, 05.8). -/
structure Micro where
  /-- MS0 to MS15, 32 bits each, reset 0. R138 (05). -/
  ms : List (BitVec 32) := List.replicate 16 0
  /-- LC0 to LC3, 16 bits each, reset 0. R138 (05). -/
  lc : List (BitVec 16) := List.replicate 4 0
  /-- Flags Z, N, C, V, reset 0. R138 (05). -/
  z : Bool := false
  n : Bool := false
  c : Bool := false
  v : Bool := false
  /-- Micro-stack, top first, at most four addresses of 15 bits (space in bit 14). R126 (05). -/
  stack : List Nat := []
  /-- Micro-PC, 14 bits, and space; ROM 0x0000 after a wake. R138 (05). -/
  upc : Nat := 0
  space : Bool := false
  /-- A word has issued and not retired. Table 05.8 (05). -/
  inWord : Bool := false
  /-- A word waits under R127. Table 05.8 (05). -/
  waiting : Bool := false
  /-- Clocks already waited. 24 bits. R135 (05). -/
  waited : Nat := 0
  /-- Progress of a resumable word: candidate, cost, vectors. 80 bits. Table 05.8 (05). -/
  progress : BitVec 80 := 0
  deriving DecidableEq, Repr

/-- A strip line held at a bed's Trellis port: its stream, its picture's sampling instant, and whether the common mark that the
bed has been told reaches it (R24, R235). -/
structure Strip where
  slot : Nat
  picture : Nat
  line : Nat
  usable : Bool
  samples : List Nat
  deriving DecidableEq, Repr

/-- A FIFO (R86): pointers as byte counts since the last flush, the mark, and rewinds that found no valid mark. -/
structure Fifo where
  write : Nat := 0
  rel : Nat := 0
  read : Nat := 0
  mark : Option Nat := none
  rewinds : Nat := 0
  deriving DecidableEq, Repr

/-- A bed (05_coding_beds.md). -/
structure Bed where
  /-- STATE, 3 bits, reset 0 OFF. R145 (05). -/
  st : BedState := .off
  /-- SELF_CHECK causes present. R130 (05). -/
  checks : List CheckCause := []
  /-- UNTESTED, 1 bit, reset 0. R396 (16). -/
  untested : Bool := false
  /-- PATCH_BANK, 1 bit, reset 0. R133 (05). -/
  bank : Bool := false
  /-- GANG_POS, 2 bits, and GANG_SIZE as a count of beds, reset 0. R145 (05). -/
  gangPos : Nat := 0
  gangSize : Nat := 0
  /-- Stream slots the bed runs, at most 64. R349 (14). -/
  slots : List Nat := []
  /-- Micro-state. R138 (05). -/
  mic : Micro := {}
  /-- The word in progress, as it was fetched when it issued. R122 (05). -/
  issued : Microword := 0
  /-- Local store (address bank × 512 KiB + offset; the trap capsule at bank 6, offset 0x7_FFA0) and, from 4 MiB on, the
  reference cache. An unlisted byte is 0, as after a wake. R134, R138 (05). -/
  store : List Host.Cell := []
  /-- Strip lines and bitstream chunks (slot, label; 0 a loss marker) that wait at the Trellis port. Table 05.4 (05), R212 (08). -/
  strips : List Strip := []
  chunks : List (Nat × Nat) := []
  /-- Boundary columns from the member to the left, oldest first. R142 (05). -/
  exchange : List (List Byte) := []
  /-- CTU row in progress and the CTU of it, within the member's tile. R166 (06). -/
  row : Nat := 0
  ctu : Nat := 0
  /-- Last row of its picture that the bed has finished loop filtering, as the row after it, and the picture. R143 (05). -/
  ready : Nat × Nat := (0, 0)
  /-- Picture of the last release unit closed, and the row after the unit's. R152 (06). -/
  closed : Nat × Nat := (0, 0)
  /-- The trap handler runs. 1 bit. R145 (05). -/
  trapped : Bool := false
  /-- A trap request is held. 1 bit. R134, R135 (05). -/
  trapHeld : Bool := false
  /-- The bed stopped at a STACK error. R126 (05). -/
  stopped : Bool := false
  /-- A wake request waits for a sleep to end. R139 (05). -/
  wakeWaits : Bool := false
  /-- Active and standby patch sets (512 × 160 bits and 32 match registers each). R131, R133 (05). -/
  patch : PatchSet := {}
  standby : Option PatchSet := none
  /-- Traps, 64 bits (TRAP_COUNT saturates at 32). R145, Table 05.11 (05). -/
  traps : Nat := 0
  /-- Timeouts, 64 bits. R128 (05). -/
  timeouts : Nat := 0
  /-- LAST_TIMEOUT: address, space, class. 18 bits. R128 (05). -/
  lastTimeout : Nat × Bool × Nat := (0, false, 0)
  /-- Self-checks raised, 64 bits. Table 05.11 (05). -/
  selfChecks : Nat := 0
  /-- Corrected ROM words and store words. 16 bits each, saturate. R145 (05). -/
  romCorrected : Nat := 0
  storeCorrected : Nat := 0
  /-- Sleep requests refused. R139 (05). -/
  sleepRefused : Nat := 0
  /-- The output FIFO of 512 KiB. R86 (03). -/
  fifo : Fifo := {}
  /-- Write pointer at the start of the release unit being written. R129 (05). -/
  unitStart : Nat := 0
  /-- The release unit being written is flagged. R130 (05). -/
  unitFlag : Bool := false
  /-- Units in the output FIFO, or on their way to the Sieves, that are flagged: slot, picture, row, tile. R130 (05). -/
  flagged : List (Nat × Nat × Nat × Nat) := []
  /-- Time at which the bed became unassigned. R137 (05). -/
  idleSince : Nat := 0
  /-- Kept warm by the Shed. R137 (05). -/
  warm : Bool := false
  /-- Slot whose work the units last reported: the one whose row and CTU the bed is in. R214 (08). -/
  slotNow : Option Nat := none
  /-- Conditions as the outside units last drove them. Table 05.4 (05). -/
  conds : BitVec 64 := 0
  /-- Time of the last event of the bed, to which the bed counters' levels have been counted. R403 (17). -/
  since : Nat := 0
  /-- Level of each bed counter's signal at that time. R403 (17). -/
  levels : List Bool := [false, false, false, false, false, false, false, false]
  /-- Time at which the wait in progress began or resumed. R127 (05). -/
  waitSince : Nat := 0
  /-- Eight bed counters of 48 bits. R403 (17). -/
  bc : List Nat := [0, 0, 0, 0, 0, 0, 0, 0]
  /-- Overflows without a sample since the last sample, per counter. R408 (17). -/
  missed : List Nat := [0, 0, 0, 0, 0, 0, 0, 0]
  /-- A sample of the counter is not yet recorded. R408 (17). -/
  sampling : List Nat := []
  /-- Snapshot of the bed counters. R406 (17). -/
  snap : List Nat := [0, 0, 0, 0, 0, 0, 0, 0]
  /-- RESULT, LAST_PASS, FAIL_STEP, failures in a row. R396, R399 (16). -/
  soilResult : Nat := 0
  lastPass : Nat := 0
  failStep : Nat := 0
  soilFails : Nat := 0
  /-- Out of its unit reset and not yet tested. R397 (16). -/
  owed : Bool := false
  /-- The bed counts as a spare of the pool. R263 (09). -/
  spare : Bool := false
  deriving DecidableEq, Repr

/-! ## Streams (06, 07, 08) -/

/-- Rate-control state (Table 06.6, R202). -/
structure Rate where
  bitsQ : Nat := 0
  bitsRem : Nat := 0
  rateNum : Nat := 1
  kRow : Nat := 0
  kDebt : Nat := 0
  acc : Nat := 0
  debt : Int := 0
  qpBase : Int := 0
  costPrev : List Nat := []
  costNow : List Nat := []
  costNext : List Nat := []
  budget : Int := 0
  spent : Int := 0
  planned : Int := 0
  rowBits : Int := 0
  qpPic : Int := 0
  qpRow : Int := 0
  boostQ : Nat := 0
  tileBits : List Nat := []
  /-- Cost shares of the row to be started and the tiles whose row has ended, of a gang. R168 (06). -/
  shares : List (Nat × Nat) := []
  ended : List Nat := []
  /-- The CTU just coded exceeded its cap. Condition 16 (05). -/
  overCap : Bool := false
  /-- The picture in progress is a cut picture; pictures since the last lift. R202 (07). -/
  cutPicture : Bool := false
  sinceLift : Nat := 8
  deriving DecidableEq, Repr

/-- Pot marks (Table 06.5). -/
inductive Mark where
  | free | current | ref | named | held
  deriving DecidableEq, Repr

/-- A picture of the reference list: a pot with a picture, or an alias naming a pot (R162, R163). -/
structure Pot where
  pot : Nat
  mark : Mark := .free
  poc : Nat := 0
  target : Nat := 0
  /-- Order in which it became REF or ALIAS. -/
  age : Nat := 0
  /-- Tainted CTUs (decode). R220 (08). -/
  taint : List Nat := []
  /-- The AU was tagged decode only: the picture is never shown. R224 (08). -/
  hidden : Bool := false
  /-- What each CTU holds, by number in raster order: 0 (unlisted) what stood there before, 1 black, else two more than the
  content that a bed wrote (DESIGN CHOICE, log entry 120). R161 (06), R218 (08). -/
  fills : Tab Nat := []
  /-- Sweep, phase and period of the picture. R156 (06). -/
  sweep : Option (Nat × Nat × Nat) := none
  /-- The picture is a start picture, wholly intra. R198 (07). -/
  whole : Bool := false
  deriving DecidableEq, Repr

/-- A latency histogram (R409): bins, SUM, MAX. -/
structure Hist where
  bins : Tab Nat := []
  sum : Nat := 0
  max : Nat := 0
  deriving DecidableEq, Repr

/-- A write in a shadow configuration (R170). -/
structure Shadow where
  fam : Nat
  mem : Nat
  val : List Byte
  boundary : Nat
  deriving DecidableEq, Repr

/-- Decode state of a slot (08_decoding.md). -/
structure Dec where
  /-- MODE and DECODE_DELAY. R225 (08). -/
  modeSet : Bool := false
  mode : Nat := 0
  delay : Nat := 0
  /-- CLEAN, NO_SYNC (reset 1), FORMAT_MISMATCH, LATE. R229 (08). -/
  clean : Bool := false
  noSync : Bool := true
  mismatch : Bool := false
  late : Bool := false
  params : Bool := false
  /-- FENCE_STACK, FENCE_BASE, FENCE_LIMIT of sides 0 and 1; v3, reset 0. R216, R229 (08). -/
  fence0 : Nat × Nat × Nat := (0, 0, 0)
  fence1 : Nat × Nat × Nat := (0, 0, 0)
  /-- Ticks charged to the picture and to the CTU. R214 (08). -/
  picTicks : Nat := 0
  ctuTicks : Nat := 0
  ctuNo : Nat := 0
  overBudget : Bool := false
  /-- FENCE_HITS and LATE_ROWS. 32 bits, saturate. R229 (08). -/
  fenceHits : Nat := 0
  /-- Rows complete or read-marked: (picture, row). R28 (01). -/
  rows : List (Nat × Nat) := []
  /-- CTU size of the active SPS. R226 (08). -/
  ctu : Nat := 64
  /-- The AU in progress: tag and POC. R224 (08). -/
  au : Option (Option Nat × Nat) := none
  /-- Pictures that output slots show, newest first: (output slot, picture, fits). R225 (08). -/
  shows : List (Nat × Nat × Bool) := []
  /-- Output slots whose row 0 and whose last row an outtake has read: what a slot does to its stream, it does once. R417
  (18), R220 (08). -/
  slotBegun : Option Nat := none
  slotEnded : Option Nat := none
  /-- The active SPS fits FORMAT, DPB_PICS and LEVEL. R222 (08). -/
  fits : Bool := true
  /-- CTUs of the picture in progress concealed to here: the end of a damaged slice segment. R217 (08). -/
  concealTo : Nat := 0
  /-- LAST_CLEAN. Table 08.6 (08). -/
  lastClean : Nat := 0
  /-- 38 to 3F then 40 to 43 of Table 08.6. 12 × 64 bits. -/
  counts : List Nat := [0, 0, 0, 0, 0, 0, 0, 0, 0, 0, 0, 0]
  deriving DecidableEq, Repr

/-- An entry of a member's retrial ring (R245): picture, row, the live state that the row starts from, and the strips it reads. -/
structure RingRow where
  picture : Nat
  row : Nat
  state : List Byte
  strips : List Strip
  deriving DecidableEq, Repr

/-- A picture on its way through a stream (R181, R276): its number, sampling instant and RTP timestamp; whether it is a
repeat, a hold, a start or a cut picture; and its refresh phase and period (none for an H.265 start picture outside a
group). -/
structure Pic where
  no : Nat
  instant : Nat
  rtpTs : BitVec 32
  rep : Bool
  hold : Bool := false
  start : Bool := false
  cut : Bool := false
  phase : Option (Nat × Nat) := none
  /-- POC, and the number of the sweep that the picture belongs to. -/
  poc : Nat := 0
  sweep : Nat := 0
  deriving DecidableEq, Repr

/-- An ANC packet attached to a picture slot (R175, R176): the picture's sampling instant, the flags of its ANC_MAP entry, and
the packet. -/
structure AncPkt where
  instant : Nat
  flags : Nat
  did : Nat
  sdid : Nat
  label : Nat
  deriving DecidableEq, Repr

/-- Audio samples attached to a picture slot (R175, R177): the slot's sampling instant, the place of the flow in AUDIO_MAP, the
packet they came in, the first of them in it, their count, and the sampling instant of the first. -/
structure AudioPkt where
  slot : Nat
  flow : Nat
  label : Nat
  first : Nat
  count : Nat
  instant : Nat
  deriving DecidableEq, Repr

/-- A source picture under analysis: its sampling instant, its luma by line, and the vectors and costs of its bands (R190). -/
structure SourcePic where
  instant : Nat
  lines : Tab (List Nat) := []
  bands : Tab (List BlockCost) := []
  deriving DecidableEq, Repr

/-- The shared analysis of an espalier (R190 to R192), of the LOWRES pictures of a stream. -/
structure Analysis where
  /-- The analysis pot: luma of the previous non-repeat source picture, by line. R190 (07). -/
  pot : Tab (List Nat) := []
  /-- Source pictures in progress, newest first. R190, R192 (07). -/
  pics : List SourcePic := []
  deriving DecidableEq, Repr

/-- A stream slot (06_encoding.md, 07_espalier.md). -/
structure Slot where
  /-- OWNER, E 21/23.ssss.01. 4 bits, reset 0. Table 06.8 (06). -/
  owner : Nat := 0
  /-- KIND: 0 none, 1 encode, 2 decode. R183 (06). -/
  kind : Nat := 0
  /-- STATE: 0 FREE, 1 CONFIGURED, 2 ADMITTING, 3 RUNNING, 4 HELD, 5 RESTARTING. R183 (06). -/
  st : Nat := 0
  /-- The image records the slot as RUNNING, HELD or RESTARTING. R479 (21). -/
  readmit : Bool := false
  /-- Shadow configuration. R170 (06). -/
  shadow : List Shadow := []
  /-- CONFIG_AT, 64 bits. R170 (06). -/
  configAt : Nat := 0
  /-- REFRESH_PHASE, 16 bits; the phase of the last picture coded. Table 06.8 (06). -/
  phase : Nat := 0
  /-- Phase and period the next picture begun has, outside a group. R155, R158 (06). -/
  nextPhase : Nat := 0
  period : Nat := 32
  /-- Periods written and the boundaries that R171 gives for them, oldest first. R158 (06). -/
  pendPeriod : List (Nat × Nat) := []
  /-- Sweeps begun. R156 (06). -/
  sweep : Nat := 0
  /-- The next picture is a start picture. R154 (06). -/
  startNext : Bool := false
  /-- Rate control. Table 06.6 (06). -/
  rc : Rate := {}
  /-- Pot map. R160, R162 (06). -/
  pots : List Pot := []
  /-- Pictures coded since admission, 32 bits. Table 09.1 (09). -/
  pictures : Nat := 0
  /-- Number of the picture that the lead codes next or now. R172 (06). -/
  codedNo : Nat := 0
  /-- Content that the picture in progress writes, and the modes of its CTUs by number. Table 06.3 (06). -/
  content : Nat := 0
  modes : Tab CtuMode := []
  /-- The row after which contexts are stored, and the row whose contexts the row in progress began from. R151 (06). -/
  stored : Option Nat := none
  began : Option Nat := none
  /-- ANC and audio packets attached to picture slots, oldest first. R175 (06). -/
  anc : List AncPkt := []
  audio : List AudioPkt := []
  /-- Filler of the last picture coded, in bytes, and its number. R167 (06). -/
  fillers : List (Nat × Nat) := []
  /-- Digests of the last rows, newest first: picture, row, tile, value. R241 (09). -/
  digests : List (Nat × Nat × Nat × BitVec 64) := []
  /-- The retrial ring: the four most recent rows. R245 (09). -/
  ring : List RingRow := []
  /-- Shared analysis, at an anchor. R190 (07). -/
  analysis : Analysis := {}
  /-- Level × 10 at which the stream is coded. R149 (06). -/
  level : Nat := 0
  /-- LAST_QP, 32 bits, reset 0. Table 06.8 (06). -/
  lastQp : Int := 0
  /-- Time at which each emitter last sent PAT and PMT. R180 (06). -/
  tables0 : Nat := 0
  tables1 : Nat := 0
  /-- The last pictures begun, newest first, at most four. R181 (06). -/
  pics : List Pic := []
  /-- Pictures whose time the Rain Gauge has counted. R417 (18). -/
  metered : Nat := 0
  /-- End of the last unit's schedule at each emitter, in ns, for a gang. R276 (10). -/
  schedEnd0 : Nat := 0
  schedEnd1 : Nat := 0
  /-- Dies whose emitter waits for a picture boundary. R261 (09). -/
  resync : List Nat := []
  /-- Beds placed and awake since then: output starts at a boundary from here on, once time is traceable. R488 (21). -/
  startAt : Option Nat := none
  /-- POC of the last picture, 16 bits. R157 (06). -/
  poc : Nat := 0
  /-- Slot now starting is a repeat picture. R172 (06). -/
  repeat_ : Bool := false
  /-- Cut steps deferred past a repeat picture. R203 (07). -/
  deferred : Bool := false
  /-- The run bit that governs the stream, as last written. R146 (05). -/
  run : Bool := true
  /-- ROLE, ANCHOR: 0 alone, 1 anchor, 2 tier. Table 07.4 (07). -/
  role : Nat := 0
  anchor : Nat := 0xFFFF
  /-- Cost while admitted, in 1/4004 of a pixel per second: every rate's exact cost is a whole number of these. R193 (07). -/
  cost : Nat := 0
  /-- Region of each side: stack, base and size, rounded up to 2 MiB. R348 (14). -/
  regions : List (Nat × Nat × Nat) := []
  /-- RTP sequence number of each emitter, 16 bits. R181 (06). -/
  seq0 : Nat := 0
  seq1 : Nat := 0
  /-- RESERVED_BYTES per bed. R160 (06). -/
  reserved : Nat := 0
  /-- 38 to 3F of Table 06.8. 8 × 64 bits. -/
  counts : List Nat := [0, 0, 0, 0, 0, 0, 0, 0]
  /-- CUT_PICTURES, LAST_CUT_BITS, DEFERRED_CUTS. Table 07.4 (07). -/
  cutPictures : Nat := 0
  lastCutBits : Nat := 0
  deferredCuts : Nat := 0
  /-- Decode state. R207 to R231 (08). -/
  dec : Dec := {}
  /-- CODING and RESIDENCE histograms. R409 (17). -/
  coding : Hist := {}
  residence : Hist := {}
  /-- A HIST_CLEAR waits for its boundary. R411 (17). -/
  histClear : Option Nat := none
  deriving DecidableEq, Repr

/-- Twin states (Table 09.9). -/
inductive TwinState where
  | none | whole | single | grafting | probation | contested | holding
  deriving DecidableEq, Repr

/-- A cutting of a stream (Table 09.3, R192): its header fields and its sections, as what they hold. -/
structure Cutting where
  /-- SLOT, PICTURE, PATCH_VERSION, BOUNDARY, POC and PHASE. -/
  slot : Nat
  picture : Nat
  patchVersion : Nat
  boundary : Nat
  poc : Nat
  phase : Nat
  /-- STATE_FLAGS: start picture next, deferred cut steps, cut at this boundary. -/
  start : Bool
  deferred : Bool
  cut : Bool
  /-- CONFIG: the stream's entries live from the boundary, by family, slot and member. -/
  config : List (Nat × List Byte)
  shadow : List Shadow
  /-- POT_MAP and RATE. -/
  pots : List Pot
  rate : Rate
  /-- PARAMS of a decode stream. -/
  params : Option Dec
  /-- WORKING: the micro-state of the lead's bed. -/
  working : Micro
  /-- Analysis pot, vectors and costs. R192 (07). -/
  analysis : Analysis
  deriving DecidableEq, Repr

/-- A unit open at a Sieve instance (R243): its first copy, the time of its last byte, and whether it has been released
already (an excused partner's copy is compared later, R248). -/
structure OpenUnit where
  die : Nat
  copy : UnitCopy
  t : Nat
  released : Bool := false
  deriving DecidableEq, Repr

/-- A contest (R245): the disputed unit, the copies of the members, its start and the retrial capsule. -/
structure Contest where
  picture : Nat
  row : Nat
  tile : Nat
  leadCopy : UnitCopy
  partnerCopy : UnitCopy
  t : Nat
  /-- The retrial capsule: the ring's entry of the disputed row. -/
  capsule : Option RingRow := none
  deriving DecidableEq, Repr

/-- A twin record of a stream slot (09_twinning.md). -/
structure Twin where
  /-- TWIN_STATE, 3 bits, reset 0. R264 (09). -/
  st : TwinState := .none
  /-- LEAD, PARTNER, SCION: beds of each side in gang order; v3, reset none. R264 (09). -/
  lead : List Nat := []
  partner : List Nat := []
  scion : List Nat := []
  /-- RETRIAL, 1 bit, reset 0. R264 (09). -/
  retrial : Bool := false
  /-- Coding die of the member last lost, which a scion avoids. R253 (09). -/
  lostDie : Option Nat := none
  /-- EXPOSED and EXPOSED_SINCE. R259 (09). -/
  exposed : Bool := false
  exposedSince : Nat := 0
  /-- The exposure has outlasted three picture periods. R259 (09). -/
  exposureOver : Bool := false
  /-- PROTECTED. R232 (09). -/
  protected_ : Bool := false
  /-- Bed of the excused member; EXCUSED is its presence. R248 (09). -/
  excused : Option Nat := none
  /-- Time from which the excused member has not returned. R248 (09). -/
  excusedAt : Nat := 0
  /-- First prune request of a picture period: picture, die, bed. R26 (01). -/
  pruneReq : Option (Nat × Nat × Nat) := none
  /-- Next unit each instance has to release: picture, and row × tiles in tile order. R246 (09). -/
  next0 : Nat × Nat := (0, 0)
  next1 : Nat × Nat := (0, 0)
  /-- Disagreements of the two Sieves. R26 (01). -/
  disagreements : Nat := 0
  /-- Units open at the Sieve instances. R243 (09). -/
  open_ : List OpenUnit := []
  /-- Members whose prune an instance has requested: (die, bed). R244 (09). -/
  requested : List (Nat × Nat) := []
  /-- Units decided by an instance and not yet by both: (die, picture, row, tile). R243 (09). -/
  decided : List (Nat × Nat × Nat × Nat) := []
  /-- Picture at whose first row the stream becomes contested, after a difference of cuttings. R242 (09). -/
  contestAt : Option Nat := none
  /-- Late copies freed after their prune request. R244 (09). -/
  lateCopies : Nat := 0
  /-- Copies resent after a CRC failure. R243 (09). -/
  resends : Nat := 0
  /-- The contest. R245 (09). -/
  contest : Option Contest := none
  /-- Remaining rows of the current picture are hold rows. R246 (09). -/
  holdPicture : Option Nat := none
  /-- Boundary at which a restart is due. R246 (09). -/
  restartAt : Nat := 0
  /-- End of the transplant and the cutting boundary. R254, R255 (09). -/
  transplantAt : Nat := 0
  cuttingAt : Nat := 0
  /-- The probation picture and its failures. R257 (09). -/
  probation : Option Nat := none
  probationBad : Bool := false
  tries : Nat := 0
  /-- LAST_CUTTING, 64 bits. Table 09.10 (09). -/
  lastCutting : Nat := 0
  /-- The last two cuttings kept, newest first. R242 (09). -/
  cuttings : List Cutting := []
  /-- What the transplant has brought to the scion: the pots' contents and the analysis pot. R254 (09). -/
  transplanted : Option (List Pot × Tab (List Nat)) := none
  /-- The cutting that the scion has loaded. R255 (09). -/
  loaded : Option Cutting := none
  phase0s : Nat := 0
  /-- Hold templates coded. R247 (09). -/
  templates : Bool := false
  /-- 10 to 19 of Table 09.10: prunes, grafts, failed probations, late releases, unverified, contests, benign, double
  faults, hold pictures, excuses. 10 × 64 bits. -/
  counts : List Nat := [0, 0, 0, 0, 0, 0, 0, 0, 0, 0]
  deriving DecidableEq, Repr

/-- A refresh group's own state (R199). -/
structure Group where
  /-- Period in force, a pending period and its boundary, PERIOD_AT. R199 (07). -/
  pend : Option (Nat × Nat) := none
  periodAt : Nat := 0
  deriving DecidableEq, Repr

/-- Streams and their platform (06, 07, 09). -/
structure Streams where
  /-- 8,192 stream slots. R2 (00). -/
  slots : Tab Slot := []
  /-- 8,192 twin records. R264 (09). -/
  twins : Tab Twin := []
  /-- 8,192 feeds. 04. -/
  feeds : Tab Feed := []
  /-- 256 refresh groups. R196 (07). -/
  groups : Tab Group := []
  /-- 2,048 intake channels. 04. -/
  intakes : Tab Intake := []
  /-- 4,096 outtake channels. 04. -/
  outtakes : Tab Outtake := []
  /-- 288 beds. R2 (00). -/
  beds : Tab Bed := []
  /-- PEER entries cleared. R234 (09). -/
  peerClears : Nat := 0
  /-- Device patch state: accepted set, time of its acceptance, versions active and standby, LOAD_RESULT. R133 (05). -/
  patch : PatchSet := {}
  patchAt : Nat := 0
  patchActive : Nat := 0
  patchStandby : Nat := 0
  loadResult : Nat := 0
  /-- Soil tests run, passed, failed, aborted. 4 × 64 bits. Table 16.5 (16). -/
  soilTests : List Nat := [0, 0, 0, 0]
  /-- Bed counters frozen; SNAP_TIME. R405, R406 (17). -/
  frozen : Bool := false
  snapTime : Nat := 0
  /-- HARVEST_PERIOD in force, in ms: a new one takes effect at an instant of the old. R412, Table 17.5 (17). -/
  harvestMs : Nat := 1000
  deriving DecidableEq, Repr

/-! ## Egress (10) -/

/-- A queued copy. `loc` 0 on-die chain, 1 deep chain, 2 pool buffer (`arg` is the pool). -/
structure QPkt where
  chain : Nat
  loc : Nat := 0
  arg : Nat := 0
  f : Frame
  /-- Allotment whose deep cells the copy holds. R80 (03). -/
  allot : Nat := 0
  payer : Nat := 0
  cls : Nat := 0
  /-- Scheduled time and spacing of a paced packet as numerators over one denominator, in ns, and CMAX: (ts, Δ, den,
  CMAX). R275 to R277 (10). -/
  pace : Option (Nat × Nat × Nat × Nat) := none
  /-- Stream slot and time of enqueue, for RESIDENCE samples. R410 (17). -/
  slot : Option Nat := none
  enq : Nat := 0
  deriving DecidableEq, Repr

/-- Shaper parameters. -/
structure Shaper where
  shape : Bool := false
  refill : Nat := 1
  depth : Nat := 1
  period : Nat := 1000
  deriving DecidableEq, Repr

/-- A queue (R266 to R271, Table 10.4). -/
structure Queue where
  pkts : List QPkt := []
  /-- Enable bit in the control page; reset 1. R268 (10), R318 (12). -/
  enabled : Bool := true
  /-- Flags and parameters of the queue record. Table 10.4 (10). -/
  deep : Bool := false
  limit : Nat := 1024
  epolicer : Nat := 0xFFFF
  shaper : Shaper := {}
  /-- Shaper change that waits for a refill instant. R271 (10). -/
  pend : Option Shaper := none
  /-- TOKENS, 24 bits, reset 0. R285 (10). -/
  tokens : Nat := 0
  /-- SENT, DROP_FULL, DROP_POLICE, DROP_GATE, LATE, GATE_WAITS. 6 × 64 bits. R285 (10). -/
  sent : Nat := 0
  dropFull : Nat := 0
  dropPolice : Nat := 0
  dropGate : Nat := 0
  late : Nat := 0
  gateWaits : Nat := 0
  /-- The head frame has been counted as a gate wait. R284 (10). -/
  waitCounted : Bool := false
  deriving DecidableEq, Repr

/-- A scheduling group of a logical port (R266, R269). -/
structure QGroup where
  shaper : Shaper := {}
  prio : Nat := 0
  weight : Nat := 1
  pend : Option Shaper := none
  tokens : Nat := 0
  sent : Nat := 0
  deriving DecidableEq, Repr

/-- A gate schedule (R280, R281). -/
structure Schedule where
  num : Nat := 1
  den : Nat := 1000
  base : Nat := 0
  list : List (Nat × Nat) := [(0xFFFF, 1000000)]
  deriving DecidableEq, Repr

/-- Gates of a logical port (R280 to R284). -/
structure Gate where
  /-- BANK, 1 bit; ENTRY; GATES, 16 bits, reset 0xFFFF; CYCLES, 32 bits. R285 (10). -/
  bank : Bool := false
  entry : Nat := 0
  gates : BitVec 16 := 0xFFFF
  cycles : Nat := 0
  /-- Schedule in force and the pending bank. R282 (10). -/
  active : Schedule := {}
  pending : Schedule := {}
  /-- PENDING, 1 bit, reset 0; time of the last write. R282 (10). -/
  isPending : Bool := false
  lastWrite : Nat := 0
  /-- CHANGE_AT and STEPS. Table 10.5 (10). -/
  changeAt : Nat := 0
  steps : Nat := 0
  deriving DecidableEq, Repr

/-- A policer's buckets, in units of 1/65,536 packet × 10^9 (R273). -/
structure Policer where
  c : Nat := 65536000000000
  e : Nat := 65536000000000
  lastT : Nat := 0
  green : Nat := 0
  yellow : Nat := 0
  red : Nat := 0
  deriving DecidableEq, Repr

/-- Egress (10_egress.md). -/
structure Egress where
  /-- 262,144 queues. R2 (00). -/
  queues : Tab Queue := []
  /-- 16 groups of each logical port, key 16 × lp + group. R266 (10). -/
  groups : Tab QGroup := []
  /-- Gates of each logical port. R280 (10). -/
  gates : Tab Gate := []
  /-- 32,768 policers of each die. R272 (10). -/
  policers : Tab Policer := []
  /-- Cells, pools and crossings of P0 and P1. R72 (03). -/
  cells0 : CellStore := {}
  cells1 : CellStore := {}
  /-- Chains in use, and the next chain name (the model's own). R76 (03). -/
  chains : Tab Chain := []
  nextChain : Nat := 1
  deriving DecidableEq, Repr

/-! ## Almanac and allotments (11, 12) -/

/-- A request held for a gap (R298). -/
structure HeldReq where
  seq : Nat
  t : Nat
  port : Nat
  bytes : List Byte
  /-- Key that its tag held under. R331 (12). -/
  key : List Byte := []
  deriving DecidableEq, Repr

/-- A PCIe mailbox (R301): reset zeros. -/
structure Mailbox where
  /-- REQUEST buffer, 8 KiB. R301 (11). -/
  request : List Byte := []
  /-- LENGTH, 14 bits. R301 (11). -/
  length : Nat := 0
  /-- BUSY, REPLY, DISCARDED. R301 (11). -/
  busy : Bool := false
  reply : Bool := false
  discarded : Bool := false
  /-- Reply buffer, 8 KiB, and REPLY_LENGTH. R301 (11). -/
  replyData : List Byte := []
  deriving DecidableEq, Repr

/-- A harvest record (R413, Table 17.4). -/
structure HRecord where
  kind : Nat
  inst : Nat
  valid : Bool
  values : List Nat
  deriving DecidableEq, Repr

/-- A harvest image (R412, R414). -/
structure HImage where
  time : Nat := 0
  records : List HRecord := []
  frozen : Bool := false
  snapTime : Nat := 0
  periodMs : Nat := 0
  deriving DecidableEq, Repr

/-- An allotment's harvests (R412, R413). -/
structure Harvest where
  /-- HARVEST_LIST in force: (KIND, INSTANCE), at most 4,032 slots. R413 (17). -/
  list : List (Nat × Nat) := []
  /-- New list and the time of its acknowledgement. R413 (17). -/
  pend : Option (List (Nat × Nat) × Nat) := none
  /-- LIST_GEN, 16 bits. R413 (17). -/
  listGen : Nat := 0
  /-- SEQ, 64 bits. R412 (17). -/
  seq : Nat := 0
  /-- SKIPPED, 32 bits, wraps. R412 (17). -/
  skipped : Nat := 0
  /-- Image shown. R412 (17). -/
  image : HImage := {}
  /-- Image being copied to the hidden bank. R412 (17). -/
  copying : Option HImage := none
  deriving DecidableEq, Repr

/-- Allotment record (R297 to R301, R318, R327). -/
structure Allot where
  /-- SESSION and NEXT_SEQ, 32 bits each. R297 (11). -/
  session : Nat := 0
  nextSeq : Nat := 0
  /-- Requests held for a gap. R298 (11). -/
  held : List HeldReq := []
  /-- Replies cached, newest first, at most 256: (SEQ, reply). R298 (11). -/
  cached : List (Nat × List Byte) := []
  /-- Requests that wait unanswered while the allotment's core pair restarts. R309 (11). -/
  waiting : List HeldReq := []
  /-- Requests received and not answered. R299 (11). -/
  unanswered : Nat := 0
  /-- Staging buffer, at most 1 MiB. R295 (11). -/
  staging : List Byte := []
  /-- KEY in force and the old key with the end of its second. R331 (12). -/
  key : Option (List Byte) := none
  oldKey : Option (List Byte) := none
  keyGrace : Nat := 0
  /-- AUTH_FAILS, SUPERSEDED, GAP_DROPS, OVERLOAD_DROPS, MAILBOX_IGNORED, SEQ_DROPS. 6 × 64 bits. Table 11.11 (11). -/
  authFails : Nat := 0
  superseded : Nat := 0
  gapDrops : Nat := 0
  overloadDrops : Nat := 0
  mailboxIgnored : Nat := 0
  seqDrops : Nat := 0
  /-- CLAMPS, REG_SUPERSEDED, RESETS. 64 bits. Table 12.5 (12). -/
  clamps : Nat := 0
  regSuperseded : Nat := 0
  resets : Nat := 0
  /-- LATCH_REFUSED, DOORBELL_REFUSED. 16 bits, saturate. R318 (12). -/
  latchRefused : Nat := 0
  doorbellRefused : Nat := 0
  mbox : Mailbox := {}
  /-- QE_DIE, SOURCE, QUEUE_PAGE LP. R318 (12), R345 (13), R285 (10). -/
  qeDie : Bool := false
  source : Nat := 0
  queuePage : Nat := 0
  /-- Run bits that are clear (bed numbers); reset: every bit set. R318 (12). -/
  runClear : List Nat := []
  /-- Latch blocks whose grant is withdrawn and still in force. R325 (12). -/
  lingering : List Nat := []
  /-- UNROUTED, 32 bits. R345 (13). -/
  unrouted : Nat := 0
  /-- LINK binding in force; none before the early settings are read takes the default of R314. -/
  link : Option Nat := none
  harvest : Harvest := {}
  /-- BYTES and HALTS of its DMA channels. Table 14.7 (14). -/
  dmaBytes : Nat := 0
  dmaHalts : Nat := 0
  deriving DecidableEq, Repr

/-- A latch (R325 to R328). -/
structure Latch where
  /-- HELD, HOLDER, TORN, LAST_HOLDER, TAG; reset 0. R326 (12). -/
  holder : Option Nat := none
  torn : Bool := false
  lastHolder : Nat := 0
  tag : BitVec 16 := 0
  /-- MODEL'S OWN: the latch has been held since reset. -/
  used : Bool := false
  deriving DecidableEq, Repr

/-- The Almanac engine (11_almanac.md). -/
structure Almanac where
  /-- Values of the entries that differ from their default, key (family, instance, member). R287 (11). -/
  store : Tab (List Byte) := []
  /-- ALMANAC_STATE before restarts: live or not. Table 11.11 (11). -/
  live : Bool := false
  /-- Entries written in the last decision slots: (slot, entry or record, allotment), and the values in force at a slot's
  start: (slot, entry, value). R306, R307 (11). -/
  slotWrites : List (Nat × Nat × Nat) := []
  slotOld : List (Nat × Nat × List Byte) := []
  /-- Fields written in the last register cycles: (cycle, field, allotment). R323 (12). -/
  cycleWrites : List (Nat × Nat × Nat) := []
  /-- BAD_MESSAGES, IDENTIFY_DROPS. 64 bits. Table 11.11 (11). -/
  badMessages : Nat := 0
  identifyDrops : Nat := 0
  /-- Identify requests answered by a port in a PTP second: (port, second, count). R300 (11). -/
  identified : List (Nat × Nat × Nat) := []
  /-- CHANGE_LOG records, oldest first. R305 (11). -/
  changeLog : List (List Byte) := []
  /-- Lifetime credits left: interval, tariff, keeper key, label, plan. Reset 8, 8, 16, 4, 2. R304 (11). -/
  credits : List Nat := [8, 8, 16, 4, 2]
  /-- Address changes acknowledged and not yet in effect: (member, effect time, new value). R312 (11). -/
  addrPend : List (Nat × Nat × List Byte) := []
  /-- 4,096 latches. R325 (12). -/
  latches : Tab Latch := []
  /-- VOTE_CORRECTIONS. 64 bits. R322 (12). -/
  voteCorrections : Nat := 0
  /-- The start store holds an image: the accepted writes as they stand in the state (R479, R480, log entry 30). -/
  imaged : Bool := false
  deriving DecidableEq, Repr

/-! ## Interrupts (13) -/

/-- A route of a source (R335, Table 13.2): state 0 IDLE, 1 PENDING, 2 ACTIVE, 3 ACTIVE_PENDING. -/
structure Route where
  prio : Nat := 0
  mask : Nat := 0
  st : Nat := 0
  /-- ACTIVE_ON, 8 bits, reset 0. R345 (13). -/
  on : Nat := 0
  deriving DecidableEq, Repr

/-- A host vector, by target (R337, R341, R345). -/
structure Vector where
  threshold : Nat := 0
  spurious : Nat := 0
  ignored : Nat := 0
  /-- MSI-X mask bit (set after reset, PCI Express) and pending bit. R341 (13). -/
  masked : Bool := true
  pending : Bool := false
  /-- Message address (64 bits) and message data (32 bits) of the MSI-X table entry (13, PCI Express). -/
  addr : Nat := 0
  data : Nat := 0
  /-- A source was offered since the last claim. R341 (13). -/
  signalled : Bool := false
  deriving DecidableEq, Repr

/-- The MSI-X capability of a link's function (R341, R342). -/
structure Msix where
  enabled : Bool := false
  funcMask : Bool := false
  deriving DecidableEq, Repr

/-- The message interrupt controller (13_interrupts.md). -/
structure Interrupts where
  /-- Host routes and Shed routes of 65,536 sources. R335 (13). -/
  host : Tab Route := []
  shed : Tab Route := []
  /-- MODEL'S OWN: the register cycle of the last raise, and the sources raised in it. R340 (13). -/
  raised : Nat × List Nat := (0, [])
  /-- Targets 32 to 159. R334 (13). -/
  vectors : Tab Vector := []
  /-- Functions by link code 1 to 8. R341 (13). -/
  funcs : Tab Msix := []
  deriving DecidableEq, Repr

/-! ## Memory and DMA (14) -/

/-- A stack (R346 to R359). -/
structure Stack where
  /-- STATE: 0 training, 1 ready, 2 changing, 3 pruned, 4 training failed. Table 14.7 (14). -/
  st : Nat := 0
  /-- OP_ACTIVE, OP_STATE, OP_AT. Table 14.7 (14). -/
  active : Nat := 0
  opState : Nat := 0
  opAt : Nat := 0
  target : Nat := 0
  /-- Instant U of the change, and whether requests are held. R358 (14). -/
  u : Nat := 0
  holding : Bool := false
  /-- CORRECTED, UNCORRECTABLE, LOG_LOST. 64 bits. Table 14.7 (14). -/
  corrected : Nat := 0
  hourStart : Nat := 0
  hourCount : Nat := 0
  uncorrectable : Nat := 0
  logLost : Nat := 0
  /-- Error log of 1,024 × 32 bytes, oldest first. R354 (14). -/
  log : List (List Byte) := []
  /-- Retirement list of up to 256 pages, under KEEP. R355 (14). -/
  retired : List Nat := []
  /-- The areas are carved. R348 (14). -/
  carved : Bool := false
  /-- Patrol scrub position. R352 (14). -/
  scrubAt : Nat := 0
  deriving DecidableEq, Repr

/-- A DMA channel (R361 to R367). -/
structure Dma where
  source : Nat := 0
  dest : Nat := 0
  count : Nat := 0
  /-- DISABLE, IRQ_DONE, IRQ_HALT, SRC_SPACE, DST_SPACE, RETRY, RETRIES; reset 0. R367 (14). -/
  disable : Bool := false
  irqDone : Bool := false
  irqHalt : Bool := false
  srcSpace : Nat := 0
  dstSpace : Nat := 0
  retry : Bool := false
  retries : Nat := 0
  /-- STATE: 0 IDLE, 1 RUNNING, 2 DONE, 3 HALTED, 4 DISABLED. R362 (14). -/
  st : Nat := 0
  /-- CAUSE, DIRECTION, RETRIES_USED, FAULT_ADDR; reset 0. R365 (14). -/
  cause : Nat := 0
  direction : Bool := false
  retriesUsed : Nat := 0
  faultAddr : Nat := 0
  /-- REMAINING, 32 bits, reset 0. R367 (14). -/
  remaining : BitVec 32 := 0
  /-- Bytes written in order, and data that arrived early: (offset, bytes). R363 (14). -/
  written : Nat := 0
  early : List (Nat × List Byte) := []
  /-- Retries of the request in hand. R366 (14). -/
  tried : Nat := 0
  /-- START_IGNORED, RETRIES_TOTAL, DONE_COUNT. R367 (14). -/
  startIgnored : Nat := 0
  retriesTotal : Nat := 0
  doneCount : Nat := 0
  deriving DecidableEq, Repr

/-- Memory stacks and DMA (14_memory_dma.md). -/
structure Memory where
  /-- Twelve stacks. R2 (00). -/
  stackTab : Tab Stack := []
  /-- Stacks whose change waits, oldest first. R357 (14). -/
  waiting : List Nat := []
  /-- 1,024 DMA channels. R361 (14). -/
  dma : Tab Dma := []
  /-- Exchange areas of the allotments: address allot × 2^31 + offset; unlisted bytes read 0. R361 (14). -/
  exchange : List Host.Cell := []
  /-- Size in MiB and die of each area in force, and which undefined contents it took at its last change: 0 for none.
  Defaults 64, 0. R369 (14). -/
  areas : Tab (Nat × Nat × Nat) := []
  deriving DecidableEq, Repr

/-! ## Faults (15) -/

/-- A fault source (R370, R384). -/
structure Source where
  /-- Cause present. R370 (15). -/
  cause : Bool := false
  /-- FORCE, 1 bit, reset 0. R380 (15). -/
  force : Bool := false
  /-- CLASS, 2 bits; none stands for the default of Table 15.1. R372 (15). -/
  cls : Option Nat := none
  /-- COUNT, 64 bits. R370 (15). -/
  count : Nat := 0
  deriving DecidableEq, Repr

/-- A first-error record (R376). -/
structure ErrRec where
  source : Nat := 0
  valid : Bool := false
  overflow : Bool := false
  forced : Bool := false
  timeValid : Bool := false
  time : Nat := 0
  raises : Nat := 0
  /-- MODEL'S OWN: the collector cycle in which the record was loaded. R376, R377 (15). -/
  cycle : Nat := 0
  deriving DecidableEq, Repr

/-- The fault collector (15_faults.md). -/
structure Faults where
  /-- 4,096 sources. R371 (15). -/
  sources : Tab Source := []
  /-- 17 first-error records. R376 (15). -/
  recs : Tab ErrRec := []
  /-- PRUNED units: (domain, unit) in the numbering of R379 (15). -/
  pruned : List (Nat × Nat) := []
  /-- Links whose lane source has pruned their die, which ALIVE6 watches. Table 15.4 (15). -/
  viaTrellis : List Nat := []
  /-- Unit resets running. R379 (15). -/
  resetting : List (Nat × Nat) := []
  /-- MODEL'S OWN: the collector cycle of the last order of a reset, and the units ordered in it. R375 (15). -/
  ordered : Nat × List (Nat × Nat) := (0, [])
  /-- INJECT_ENABLE, 1 bit, reset 0. R380 (15). -/
  inject : Bool := false
  /-- RESET_FAILS, FORCE_REFUSED. 64 bits. Table 15.6 (15). -/
  resetFails : Nat := 0
  forceRefused : Nat := 0
  /-- ALERT_SW, 2 bits, reset 0. R383 (15). -/
  alertSw : BitVec 2 := 0
  /-- End of the pulse of each alert output; 0 when none. R383 (15). -/
  pulse0 : Nat := 0
  pulse1 : Nat := 0
  /-- ALIVE_RUN, 8 bits, reset 0, and the levels of the eight ALIVE outputs. R381, R384 (15). -/
  aliveRun : BitVec 8 := 0
  alive : BitVec 8 := 0
  /-- Ticks have started (power-up step 12). R489 (21). -/
  ticking : Bool := false
  /-- Raises are recorded (power-up step 3). R489 (21). -/
  recording : Bool := false
  deriving DecidableEq, Repr

/-! ## Calibration (16) -/

/-- A fibre pair: active and pending trims, LAST_CAL, INTERRUPTIONS (R386). -/
structure PairTrim where
  active : List Int := []
  pending : Option (List Int) := none
  lastCal : Nat := 0
  interruptions : Nat := 0
  deriving DecidableEq, Repr

/-- A sensor's active and pending correction (R386). -/
structure Sensor where
  active : Int × Int := (0, 0)
  pending : Option (Int × Int) := none
  deriving DecidableEq, Repr

/-- Calibration (16_calibration_selftest.md). -/
structure Calib where
  /-- 128 fibre pairs. R386 (16). -/
  pairs : Tab PairTrim := []
  /-- 96 temperature sensors, then 48 voltage sensors. R386 (16). -/
  sensors : Tab Sensor := []
  /-- CAL_STATE and the units still to be measured; kind 0 pairs, 1 sensors. R387 (16). -/
  running : Bool := false
  kind : Nat := 0
  todo : List Nat := []
  /-- Pairs being measured now, at most eight. R387 (16). -/
  batch : List Nat := []
  /-- EPOCH armed, EPOCH_AT, EMPTY_EPOCHS. Table 16.5 (16). -/
  armed : Nat := 0
  epochAt : Nat := 0
  emptyEpochs : Nat := 0
  /-- The Cold Frame's copy of the active banks, under KEEP. R393 (16). -/
  savedPairs : Tab (List Int) := []
  savedSensors : Tab (Int × Int) := []
  saved : Bool := false
  deriving DecidableEq, Repr

/-! ## Counters (17), Rain Gauge (18) -/

/-- Usage of an allotment in a class (R416). -/
structure Usage where
  packets : Nat := 0
  bytes : Nat := 0
  pictureUs : Nat := 0
  heldUs : Nat := 0
  deriving DecidableEq, Repr

/-- Flags of a gauge interval (Table 18.2). -/
structure GaugeFlags where
  sealOpen : Bool := false
  moduleOff : Bool := false
  timeFree : Bool := false
  gap : Bool := false
  missing0 : Bool := false
  missing1 : Bool := false
  deriving DecidableEq, Repr

/-- A stored gauge record (Table 18.2): its number, its interval's start (ns) and length (s), and its 2,976 bytes. -/
structure GaugeRec where
  seq : Nat
  start : Nat
  length : Nat
  bytes : List Byte
  deriving DecidableEq, Repr

/-- A gauge interval whose boundary has passed and that waits to be closed (R421). -/
structure GaugeClosing where
  start : Nat
  finish : Nat
  usage : Tab Usage
  flags : GaugeFlags
  tariff : List Byte
  deriving DecidableEq, Repr

/-- The Rain Gauge (18_rain_gauge.md). -/
structure Gauge where
  /-- Usage of the open interval, key 8 × allotment + class. R416 (18). -/
  usage : Tab Usage := []
  /-- Usage collected by the meter blocks of P0 and P1 and not yet sent. R418 (18). -/
  meter0 : Tab Usage := []
  meter1 : Tab Usage := []
  /-- Usage that the meter blocks collected before the last boundary and have not yet sent. R418 (18). -/
  old0 : Tab Usage := []
  old1 : Tab Usage := []
  /-- Flags and start of the open interval, and the interval being closed. R421 (18). -/
  flags : GaugeFlags := { moduleOff := true }
  start : Nat := 0
  closing : Option GaugeClosing := none
  /-- The last time from the hub. R420 (18). -/
  lastHub : Nat := 0
  /-- Store of 65,536 records, oldest first; LAST_SEQ. R424 (18). -/
  records : List GaugeRec := []
  lastSeq : Nat := 0
  /-- ACK_SEQ, LOST_UNREAD, LATE_INCREMENTS. R421, R424 (18). -/
  ackSeq : Nat := 0
  lostUnread : Nat := 0
  lateIncrements : Nat := 0
  /-- Charge carry of each allotment. R426 (18). -/
  carry : Tab Nat := []
  /-- INTERVAL and TARIFF in force. R427 (18). -/
  interval : Nat := 60
  tariff : List Byte := 1 :: List.replicate 67 0
  /-- The seal is latched open. R428 (18). -/
  sealOpen : Bool := false
  /-- RG_KEEP present; waiting for time after a loss. R425 (18). -/
  powered : Bool := true
  restarting : Bool := false
  /-- Records waiting to leave the port; a replay in progress: next SEQ. R429 (18). -/
  toSend : List Nat := []
  replay : Option (List Nat) := none
  deriving DecidableEq, Repr

/-! ## Supplies and the Hedge (19) -/

/-- A GPI (R452). -/
structure Gpi where
  level : Bool := false
  lastChange : Nat := 0
  changes : Nat := 0
  deriving DecidableEq, Repr

/-- A GPO (R453). -/
structure Gpo where
  level : Bool := false
  /-- Pending set: level and apply time. -/
  pend : Option (Bool × Nat) := none
  /-- In fail-safe until the first set after ticks resume. Reset 1 (R489). -/
  failsafe : Bool := true
  deriving DecidableEq, Repr

/-- Module, supplies, thermal and the Hedge (19_module_supplies_hedge.md). -/
structure Module where
  /-- Feeds A and B: STATE 0 absent, 1 in range, 2 out of range, 3 PRUNED connected, 4 PRUNED isolated. Table 19.9 (19). -/
  feedA : Nat := 0
  feedB : Nat := 0
  /-- Whether each feed is in range (judged for 5 µs), and since when. R438 (19). -/
  rangeA : Bool := false
  rangeB : Bool := false
  sinceA : Nat := 0
  sinceB : Nat := 0
  /-- FEED_IN_USE: 0 A, 1 B, 2 none; reset 0. Table 19.9 (19). -/
  feedInUse : Nat := 0
  /-- The load is held by a feed. -/
  on : Bool := false
  /-- SWITCHOVERS, THERMAL_TRIPS. 64 bits. Table 19.9 (19). -/
  switchovers : Nat := 0
  thermalTrips : Nat := 0
  /-- Phases failed or pruned (0 to 111). R443 (19). -/
  phasesDown : List Nat := []
  /-- RAIL_STATE of 17 rails: 0 off, 1 on, 2 turned off under R444. Table 19.9 (19). -/
  rails : Tab Nat := []
  /-- KEEP recorded as lost; KEEP_LOST shown; HEDGE_V present. R446, R450 (19). -/
  keepLost : Bool := false
  hedgeV : Bool := true
  /-- Life record under KEEP: H, H_hot, hours above 125 °C, valid. R449 (19). -/
  hours : Nat := 0
  hotHours : Nat := 0
  overHours : Nat := 0
  lifeValid : Bool := true
  /-- A sensor stands above TEMP_WARN. R448 (19). -/
  tempWarned : Bool := false
  /-- A thermal trip holds the module off. R448 (19). -/
  tripped : Bool := false
  /-- BIFURCATION, 4 bits, sampled at power-up. R433 (19). -/
  split : BitVec 4 := 0
  /-- 32 GPIs and 32 GPOs. R450 (19). -/
  gpis : Tab Gpi := []
  gpos : Tab Gpo := []
  /-- An alive tick has crossed since the GPOs last took their fail-safe levels. R453 (19). -/
  ticked : Bool := false
  /-- LINK_ERRORS, and errors within the current second. R451 (19). -/
  linkErrors : Nat := 0
  errSecond : Nat := 0
  errCount : Nat := 0
  /-- REF_STATE: 10 MHz and 1PPS present; LAST_PPS. Table 19.10 (19). -/
  ref10m : Bool := false
  pps : Bool := false
  lastPps : Nat := 0
  deriving DecidableEq, Repr

/-! ## Clocks and time (20) -/

/-- Power state of a block: 0 OFF, 1 WAKING, 2 CLOCK_GATED, 3 ON, 4 RAIL_OFF; and TRANSITIONS (R465). -/
structure Power where
  st : Nat := 0
  transitions : Nat := 0
  deriving DecidableEq, Repr

/-- PTP port of a logical port: portState (reset 3), mean delay, the best Announce received (R467, R476). -/
structure PtpPort where
  st : Nat := 3
  meanDelay : Int := 0
  best : Option Announce := none
  deriving DecidableEq, Repr

/-- Time states (Table 20.5). -/
inductive TimeState where
  | free | acquiring | locked | hedge | holdover
  deriving DecidableEq, Repr

/-- Clocks and media time (20_clocks_time.md). -/
structure Clocks where
  /-- REFCLK_READY, BACKUP_READY; good REFCLK cycles counted. R458 (20). -/
  refReady : Bool := false
  backupReady : Bool := false
  refGood : Nat := 0
  backupGood : Nat := 0
  /-- CF_ACTIVE: 1 REFCLK, 2 backup; the backup starts first. Table 20.7 (20). -/
  cfActive : Nat := 2
  /-- REFCLK_LOSSES. 64 bits. Table 20.7 (20). -/
  refLosses : Nat := 0
  /-- PLLs locked, starting and in holdover (numbering of log entry 20). R462 (20). -/
  locked : List Nat := []
  starting : List Nat := []
  holdover : List Nat := []
  /-- Power of 312 blocks. R465 (20). -/
  power : Tab Power := []
  /-- PTP ports. R467 (20). -/
  ptp : Tab PtpPort := []
  /-- SLAVE_PORT, 16 bits, reset 0xFFFF. Table 20.7 (20). -/
  slave : Nat := 0xFFFF
  /-- PARENT dataset. Table 20.7 (20). -/
  parent : Option Announce := none
  /-- TIME_STATE; reset FREE. R470 (20). -/
  st : TimeState := .free
  /-- State from which ACQUIRING was entered. R500 (20). -/
  from_ : TimeState := .free
  /-- Consecutive good and bad Syncs; Syncs of a measurement and whether one was bad. R470, R500 (20). -/
  good : Nat := 0
  bad : Nat := 0
  measuring : Bool := false
  measured : Nat := 0
  measuredBad : Bool := false
  /-- OFFSET and STEPS; the servo's frequency correction in ppb. R469 (20). -/
  offset : Int := 0
  steps : Nat := 0
  freq : Int := 0
  /-- The same of the timekeepers of P1 and the hub (Table 01.1): `freq` is P0's. R468 (20). -/
  freq1 : Int := 0
  freqHub : Int := 0
  /-- PPS_VALID; the last 64 measurements, newest first. R471 (20). -/
  ppsValid : Bool := false
  ppsSamples : List Int := []
  /-- Ignored edges: counted, and consecutive. R472 (20). -/
  edgesIgnored : Nat := 0
  ignoredRun : Nat := 0
  /-- Time at which LOCKED or HEDGE was last left; HOLDOVER_SPEC has expired. R500 (20). -/
  leftAt : Nat := 0
  /-- Time at which time last became traceable. R488 (21). -/
  traceSince : Nat := 0
  specOver : Bool := false
  /-- TIME_SET waiting for the next edge. R473 (20). -/
  timeSet : Option Nat := none
  /-- PTP ports have started (step 10). R477 (21). -/
  started : Bool := false
  /-- Peer-delay and other discarded PTP messages. R467 (20). -/
  discarded : Nat := 0
  deriving DecidableEq, Repr

/-! ## Power-up (21) -/

/-- A frame of the arrival hold (R484). -/
structure HeldFrame where
  lp : Nat
  t : Nat
  f : Frame
  deriving DecidableEq, Repr

/-- Power-up and start status (21_power_up.md). -/
structure Boot where
  /-- MILESTONE, 3 bits; AT of milestones 1 to 6. R491 (21). -/
  milestone : Nat := 0
  at_ : List Nat := [0, 0, 0, 0, 0, 0]
  /-- Time zero. R477 (21). -/
  zero : Nat := 0
  /-- IMAGE_OK, IMAGE_EMPTY, KEEP_LOST, DORSEN_BANK, COLD_OUT; reset 0. R491 (21). -/
  imageOk : Bool := false
  imageEmpty : Bool := false
  keepLost : Bool := false
  dorsenBank : Bool := false
  coldOut : Bool := false
  /-- Arrival hold of 4 MiB, oldest first. R484 (21). -/
  hold : List HeldFrame := []
  /-- NOT_READY_SENT, NOT_READY_DROPS, HOLD_PEAK, HOLD_DROPS, STALE_PTP. R491 (21). -/
  notReadySent : Nat := 0
  notReadyDrops : Nat := 0
  holdPeak : Nat := 0
  holdDrops : Nat := 0
  stalePtp : Nat := 0
  /-- Step 6 and step 9 reached. R477 (21). -/
  step6 : Option Nat := none
  /-- PERST released, by link code: the time of release. R486 (21). -/
  perst : Tab (Option Nat) := []
  /-- WAVE_PLAN_ACTIVE. Table 02.8 (02). -/
  wavePlan : Nat := 0
  deriving DecidableEq, Repr

/-! ## The whole state -/

/-- The engine's copy of every counter while all of Dorsen restarts (R310): the parts of the state that hold counters, as
they stood at `at_`. -/
structure CounterCopy where
  at_ : Nat
  fwd : Forwarding
  egr : Egress
  str : Streams
  alm : Almanac
  allots : Tab Allot
  mem : Memory
  flt : Faults
  cal : Calib
  gauge : Gauge
  mod : Module
  clk : Clocks
  deriving DecidableEq, Repr

/-- The state of the block. -/
structure State where
  /-- PTP time in ns: the instant of the last command. 64 bits. R14 (00). -/
  now : Nat := 0
  /-- Commands waiting, first in first out (the block's command queue). -/
  pending : List Instr := []
  /-- MODEL'S OWN: the answer of the last operation (the data an Almanac reply carries). Table 11.4 (11). -/
  answer : Answer := {}
  /-- MODEL'S OWN: what has left the block, newest first. -/
  emits : List Emit := []
  /-- MODEL'S OWN: counter that names the next free value. -/
  fresh : Nat := 0
  /-- Thirteen Trellis links. Table 15.1 (15). -/
  links : Tab Link := []
  shed : Shed := {}
  /-- Copy of the counters during a restart of all of Dorsen. R310 (11). -/
  copy : Option CounterCopy := none
  fwd : Forwarding := {}
  /-- 256 event rings, key 16 × allotment + ring. R89 (03). -/
  rings : Tab Ring := []
  str : Streams := {}
  egr : Egress := {}
  alm : Almanac := {}
  /-- Sixteen allotments. R2 (00). -/
  allots : Tab Allot := []
  irq : Interrupts := {}
  mem : Memory := {}
  flt : Faults := {}
  cal : Calib := {}
  gauge : Gauge := {}
  mod : Module := {}
  clk : Clocks := {}
  boot : Boot := {}
  deriving DecidableEq, Repr

/-- The block right after reset: no feed yet in range, every field at the value its rule gives (R477). -/
def State.reset : State := {}

/-- Why a command stops the machine. -/
inductive Fault where
  /-- Raised by every meaning whose command names a unit that Table 00.2 or a chapter's range does not have (a bed 300, a
  logical port 2,000). Safe: no such unit exists, so no hardware run is described. -/
  | noSuchUnit
  deriving DecidableEq, Repr

/-- Why a command has no meaning. -/
inductive Refusal where
  /-- Raised by the dispatch for a row with no meaning yet. Safe. -/
  | notModelled (mnemonic : String)
  deriving DecidableEq, Repr

end Sys2Proof.Machine
end

