-- ==== Sys2Proof/Machine/Ops.lean ====
section
/-! DEFINITION. The named operations over the state: sparse tables, counters, little-endian values, CRCs, and one
accessor and one updater for each table. Every read and write of the state's tables goes through these. -/

namespace Sys2Proof.Machine

/-! ## Sparse tables -/

/-- The value of a key: the listed one, or the default of the key. -/
def tget {α : Type} (d : Nat → α) : Tab α → Nat → α
  | [], k => d k
  | (k', v) :: r, k => if k = k' then v else tget d r k

/-- Insert into a sorted list of pairs, replacing an entry of the same key. -/
def tins {α : Type} (k : Nat) (v : α) : Tab α → Tab α
  | [] => [(k, v)]
  | (k', v') :: r =>
    if k < k' then (k, v) :: (k', v') :: r
    else if k = k' then (k, v) :: r
    else (k', v') :: tins k v r

/-- Remove a key. -/
def tdel {α : Type} (k : Nat) : Tab α → Tab α
  | [] => []
  | (k', v') :: r => if k = k' then tdel k r else (k', v') :: tdel k r

/-- Write a key, keeping the canonical form: the default's own value removes the entry. -/
def tput {α : Type} [DecidableEq α] (d : Nat → α) (t : Tab α) (k : Nat) (v : α) : Tab α :=
  if v = d k then tdel k t else tins k v t

/-- Every key of a list of pairs is above a bound. -/
def keysAbove {α : Type} (b : Nat) : Tab α → Bool
  | [] => true
  | (k, _) :: r => decide (b < k) && keysAbove b r

/-- The canonical form: keys strictly rising, no entry equal to its key's default. -/
def twf {α : Type} [DecidableEq α] (d : Nat → α) : Tab α → Bool
  | [] => true
  | (k, v) :: r => !decide (v = d k) && keysAbove k r && twf d r

/-! ## Counters -/

/-- A 64-bit count after `n` more events (R401: wraps modulo 2^64). -/
def add64 (c n : Nat) : Nat := (c + n) % 18446744073709551616
/-- A 64-bit count after one more event. -/
def inc64 (c : Nat) : Nat := add64 c 1
/-- A register copy of a count that saturates at its width (R401). -/
def saturate (width c : Nat) : Nat := min c (2 ^ width - 1)
/-- Add to one count of a list of counts. -/
def bumpAt (l : List Nat) (i n : Nat) : List Nat := l.set i (add64 (l.getD i 0) n)

/-! ## Bytes -/

/-- A number from its bytes, least significant first (R288). -/
def leNat : List Byte → Nat
  | [] => 0
  | b :: r => b.toNat + 256 * leNat r
/-- The bytes of a number, least significant first (R288). -/
def natLe : Nat → Nat → List Byte
  | 0, _ => []
  | k + 1, n => BitVec.ofNat 8 n :: natLe k (n / 256)
/-- A number from its octets in network order (R288). -/
def beNat (l : List Byte) : Nat := leNat l.reverse
/-- `len` bytes at an offset; bytes beyond the end are absent. -/
def slice (l : List Byte) (off len : Nat) : List Byte := (l.drop off).take len
/-- A little-endian number at an offset. -/
def fieldAt (l : List Byte) (off len : Nat) : Nat := leNat (slice l off len)
/-- SERIAL (R494): 1 to 32 printable characters, padded (Table 11.1). -/
def serialBytes : List Byte :=
  let text := ((Config.serial ++ [0x30]).take (max 1 (min 32 Config.serial.length))).map
    (fun (b : Byte) => BitVec.ofNat 8 (0x20 + b.toNat % 95))
  text ++ List.replicate (32 - text.length) 0
/-- A port's address of MGMT_MAC (R494): unicast and globally administered. -/
def managementMac (port : Nat) : List Byte :=
  ((List.range 6).map (fun k => (Config.mgmtMac.drop (6 * port)).getD k 0)).zipIdx.map
    (fun e => if e.2 = 0 then e.1 &&& 0xFC else e.1)
/-- CLOCK_ID: formed from management port 0's address (R494, Table 20.4). -/
def clockId : BitVec 64 := Config.eui64 (managementMac 0)
/-- A two's-complement number of `w` bits. -/
def toSigned (w n : Nat) : Int := if n < 2 ^ (w - 1) then (n : Int) else (n : Int) - (2 ^ w : Nat)
/-- The two's-complement code of a number in `w` bits. -/
def ofSigned (w : Nat) (i : Int) : Nat := (i % ((2 ^ w : Nat) : Int)).toNat
/-- Write bytes into a list at an offset, zeros filling a gap (R295). -/
def patchBytes (l : List Byte) (off : Nat) (b : List Byte) : List Byte :=
  (l ++ List.replicate (off - l.length) 0).take off ++ b ++ l.drop (off + b.length)

/-- One byte of the ECMA-182 CRC, most significant bit first (R240). -/
def crc64Byte (crc : BitVec 64) (b : Byte) : BitVec 64 :=
  (List.range 8).foldl
    (fun c _ => if c.msb then (c <<< 1) ^^^ 0x42F0E1EBA9EA3693#64 else c <<< 1)
    (crc ^^^ (b.zeroExtend 64 <<< 56))
/-- The CRC of R240: initial value all ones, final XOR all ones. -/
def crc64 (l : List Byte) : BitVec 64 := (l.foldl crc64Byte (BitVec.allOnes 64)) ^^^ BitVec.allOnes 64

/-- One byte of the CRC-32 of IEEE 802.3, least significant bit first (R455). -/
def crc32Byte (crc : BitVec 32) (b : Byte) : BitVec 32 :=
  (List.range 8).foldl (fun c _ => if c.getLsbD 0 then (c >>> 1) ^^^ 0xEDB88320#32 else c >>> 1) (crc ^^^ b.zeroExtend 32)
/-- The CRC-32 of IEEE 802.3: initial value all ones, final XOR all ones. -/
def crc32 (l : List Byte) : BitVec 32 := (l.foldl crc32Byte (BitVec.allOnes 32)) ^^^ BitVec.allOnes 32

/-! ## Lists -/

/-- Add an element that a set-like list does not hold. -/
def addTo {α : Type} [DecidableEq α] (l : List α) (x : α) : List α := if x ∈ l then l else l ++ [x]
/-- Remove every occurrence. -/
def removeFrom {α : Type} [DecidableEq α] (l : List α) (x : α) : List α := l.filter (fun y => !decide (y = x))
/-- Insert a number into a rising list without repeats. -/
def insertNat (x : Nat) : List Nat → List Nat
  | [] => [x]
  | y :: r => if x < y then x :: y :: r else if x = y then y :: r else y :: insertNat x r
/-- The least number of a list. -/
def leastOf : List Nat → Option Nat
  | [] => none
  | x :: r => match leastOf r with
    | none => some x
    | some y => some (min x y)
/-- Bit `i` of a number. -/
def bit (n i : Nat) : Bool := n.testBit i
/-- Bits [hi:lo] of a number. -/
def bits (n hi lo : Nat) : Nat := n / 2 ^ lo % 2 ^ (hi + 1 - lo)
/-- Clip to a range (R165). -/
def clip (x lo hi : Int) : Int := max lo (min x hi)
/-- Ceiling of a division. -/
def ceilDiv (a b : Nat) : Nat := (a + b - 1) / b
/-- 1 for true. -/
def b2n (b : Bool) : Nat := if b then 1 else 0

/-! ## The state as a whole -/

/-- The instant of the command becomes the current PTP time (DESIGN CHOICE, log entry 4). -/
def State.at (s : State) (t : Nat) : State := { s with now := t }
/-- Set the answer of an operation (Table 11.4). -/
def State.say (s : State) (status : Nat) (data : List Byte := []) (effectAt : Nat := s.now) : State :=
  { s with answer := { status := status, effectAt := effectAt, data := data } }
/-- Something leaves the block. -/
def State.emit (s : State) (e : Emit) : State := { s with emits := e :: s.emits }
/-- Advance the counter that names free values. (DESIGN CHOICE, log entry 108.) -/
def State.refresh (s : State) : State := { s with fresh := s.fresh + 1 }

/-- Answer a next state when the unit exists; else stop (DESIGN CHOICE, log entry 8). -/
def onUnit (ok : Bool) (s : State) : Host.Outcome State Fault Refusal :=
  if ok then .next s else .fault .noSuchUnit

/-! ## Accessors and updaters, one pair for each table -/

def State.link (s : State) (m : Nat) : Link := tget (fun _ => {}) s.links m
def State.modLink (s : State) (m : Nat) (f : Link → Link) : State :=
  { s with links := tput (fun _ => {}) s.links m (f (s.link m)) }

def State.port (s : State) (lp : Nat) : Port := tget (fun _ => {}) s.fwd.ports lp
def State.modPort (s : State) (lp : Nat) (f : Port → Port) : State :=
  { s with fwd := { s.fwd with ports := tput (fun _ => {}) s.fwd.ports lp (f (s.port lp)) } }

def State.buffer (s : State) (fp : Nat) : List InFrame := tget (fun _ => []) s.fwd.ingress fp
def State.setBuffer (s : State) (fp : Nat) (l : List InFrame) : State :=
  { s with fwd := { s.fwd with ingress := tput (fun _ => []) s.fwd.ingress fp l } }

def State.pipe (s : State) (pl : Nat) : Pipeline := tget (fun _ => {}) s.fwd.pipes pl
def State.modPipe (s : State) (pl : Nat) (f : Pipeline → Pipeline) : State :=
  { s with fwd := { s.fwd with pipes := tput (fun _ => {}) s.fwd.pipes pl (f (s.pipe pl)) } }

def State.vlan (s : State) (v : Nat) : VlanCounts := tget (fun _ => {}) s.fwd.vlans v
def State.modVlan (s : State) (v : Nat) (f : VlanCounts → VlanCounts) : State :=
  { s with fwd := { s.fwd with vlans := tput (fun _ => {}) s.fwd.vlans v (f (s.vlan v)) } }

/-- An entry of a die's copy of the delivery table (R21). -/
def State.delivery (s : State) (die i : Nat) : DeliveryWord :=
  tget (fun _ => 0) (if die = 0 then s.fwd.delivery0 else s.fwd.delivery1) i
/-- Write an entry of one copy. -/
def State.setDelivery (s : State) (die i : Nat) (w : DeliveryWord) : State :=
  if die = 0 then { s with fwd := { s.fwd with delivery0 := tput (fun _ => 0) s.fwd.delivery0 i w } }
  else { s with fwd := { s.fwd with delivery1 := tput (fun _ => 0) s.fwd.delivery1 i w } }

def State.block (s : State) (b : Nat) : Block := tget (fun _ => {}) s.fwd.blocks b
def State.setBlock (s : State) (b : Nat) (v : Block) : State :=
  { s with fwd := { s.fwd with blocks := tput (fun _ => {}) s.fwd.blocks b v } }

def State.ring (s : State) (a n : Nat) : Ring := tget (fun _ => {}) s.rings (16 * a + n)
def State.modRing (s : State) (a n : Nat) (f : Ring → Ring) : State :=
  { s with rings := tput (fun _ => {}) s.rings (16 * a + n) (f (s.ring a n)) }

def State.slot (s : State) (n : Nat) : Slot := tget (fun _ => {}) s.str.slots n
def State.modSlot (s : State) (n : Nat) (f : Slot → Slot) : State :=
  { s with str := { s.str with slots := tput (fun _ => {}) s.str.slots n (f (s.slot n)) } }

def State.twin (s : State) (n : Nat) : Twin := tget (fun _ => {}) s.str.twins n
def State.modTwin (s : State) (n : Nat) (f : Twin → Twin) : State :=
  { s with str := { s.str with twins := tput (fun _ => {}) s.str.twins n (f (s.twin n)) } }

def State.feed (s : State) (n : Nat) : Feed := tget (fun _ => {}) s.str.feeds n
def State.modFeed (s : State) (n : Nat) (f : Feed → Feed) : State :=
  { s with str := { s.str with feeds := tput (fun _ => {}) s.str.feeds n (f (s.feed n)) } }

def State.group (s : State) (n : Nat) : Group := tget (fun _ => {}) s.str.groups n
def State.modGroup (s : State) (n : Nat) (f : Group → Group) : State :=
  { s with str := { s.str with groups := tput (fun _ => {}) s.str.groups n (f (s.group n)) } }

def State.intake (s : State) (n : Nat) : Intake := tget (fun _ => {}) s.str.intakes n
def State.modIntake (s : State) (n : Nat) (f : Intake → Intake) : State :=
  { s with str := { s.str with intakes := tput (fun _ => {}) s.str.intakes n (f (s.intake n)) } }
/-- Count in E 20.cccc.18 + `i` (Table 04.4). -/
def State.countIntake (s : State) (n i k : Nat) : State :=
  s.modIntake n (fun c => { c with counts := bumpAt c.counts i k })

def State.outtake (s : State) (n : Nat) : Outtake := tget (fun _ => {}) s.str.outtakes n
def State.modOuttake (s : State) (n : Nat) (f : Outtake → Outtake) : State :=
  { s with str := { s.str with outtakes := tput (fun _ => {}) s.str.outtakes n (f (s.outtake n)) } }

def State.bed (s : State) (n : Nat) : Bed := tget (fun _ => {}) s.str.beds n
def State.modBed (s : State) (n : Nat) (f : Bed → Bed) : State :=
  { s with str := { s.str with beds := tput (fun _ => {}) s.str.beds n (f (s.bed n)) } }

def State.queue (s : State) (q : Nat) : Queue := tget (fun _ => {}) s.egr.queues q
def State.modQueue (s : State) (q : Nat) (f : Queue → Queue) : State :=
  { s with egr := { s.egr with queues := tput (fun _ => {}) s.egr.queues q (f (s.queue q)) } }

/-- Group `g` of logical port `lp`, key 16 × lp + g. -/
def State.qgroup (s : State) (k : Nat) : QGroup := tget (fun _ => {}) s.egr.groups k
def State.modQGroup (s : State) (k : Nat) (f : QGroup → QGroup) : State :=
  { s with egr := { s.egr with groups := tput (fun _ => {}) s.egr.groups k (f (s.qgroup k)) } }

def State.gate (s : State) (lp : Nat) : Gate := tget (fun _ => {}) s.egr.gates lp
def State.modGate (s : State) (lp : Nat) (f : Gate → Gate) : State :=
  { s with egr := { s.egr with gates := tput (fun _ => {}) s.egr.gates lp (f (s.gate lp)) } }

/-- Policer `n` of die `n` div 32,768. -/
def State.policer (s : State) (n : Nat) : Policer := tget (fun _ => {}) s.egr.policers n
def State.modPolicer (s : State) (n : Nat) (f : Policer → Policer) : State :=
  { s with egr := { s.egr with policers := tput (fun _ => {}) s.egr.policers n (f (s.policer n)) } }

def State.cells (s : State) (die : Nat) : CellStore := if die = 0 then s.egr.cells0 else s.egr.cells1
def State.modCells (s : State) (die : Nat) (f : CellStore → CellStore) : State :=
  if die = 0 then { s with egr := { s.egr with cells0 := f s.egr.cells0 } }
  else { s with egr := { s.egr with cells1 := f s.egr.cells1 } }
/-- Whether an allotment's record of a die has VERGEL set (R83, R95). -/
def CellStore.pooled (c : CellStore) (a : Nat) : Bool := c.vergel.getLsbD a
/-- Write VERGEL of an allotment's record of a die. -/
def CellStore.setPooled (c : CellStore) (a : Nat) (on : Bool) : CellStore :=
  let b : BitVec 16 := BitVec.ofNat 16 (2 ^ a)
  { c with vergel := if on then c.vergel ||| b else c.vergel &&& ~~~b }
def CellStore.rec_ (c : CellStore) (a : Nat) : BufRec := tget (fun _ => {}) c.recs a
def CellStore.modRec (c : CellStore) (a : Nat) (f : BufRec → BufRec) : CellStore :=
  { c with recs := tput (fun _ => {}) c.recs a (f (c.rec_ a)) }
def CellStore.pool (c : CellStore) (p : Nat) : Pool := tget (fun _ => {}) c.pools p
def CellStore.modPool (c : CellStore) (p : Nat) (f : Pool → Pool) : CellStore :=
  { c with pools := tput (fun _ => {}) c.pools p (f (c.pool p)) }

def State.chain (s : State) (n : Nat) : Chain := tget (fun _ => {}) s.egr.chains n
def State.setChain (s : State) (n : Nat) (c : Chain) : State :=
  { s with egr := { s.egr with chains := tput (fun _ => {}) s.egr.chains n c } }

def State.allot (s : State) (a : Nat) : Allot := tget (fun _ => {}) s.allots a
def State.modAllot (s : State) (a : Nat) (f : Allot → Allot) : State :=
  { s with allots := tput (fun _ => {}) s.allots a (f (s.allot a)) }
/-- Increment the clamp counter of the writing allotment (R8, R302). -/
def State.clamp (s : State) (a : Nat) : State := s.modAllot a (fun r => { r with clamps := inc64 r.clamps })
def State.modMbox (s : State) (a : Nat) (f : Mailbox → Mailbox) : State :=
  s.modAllot a (fun r => { r with mbox := f r.mbox })
def State.modHarvest (s : State) (a : Nat) (f : Harvest → Harvest) : State :=
  s.modAllot a (fun r => { r with harvest := f r.harvest })

def State.latch (s : State) (n : Nat) : Latch := tget (fun _ => {}) s.alm.latches n
def State.setLatch (s : State) (n : Nat) (l : Latch) : State :=
  { s with alm := { s.alm with latches := tput (fun _ => {}) s.alm.latches n l } }

def State.route (s : State) (host : Bool) (n : Nat) : Route :=
  tget (fun _ => {}) (if host then s.irq.host else s.irq.shed) n
def State.modRoute (s : State) (host : Bool) (n : Nat) (f : Route → Route) : State :=
  if host then { s with irq := { s.irq with host := tput (fun _ => {}) s.irq.host n (f (s.route host n)) } }
  else { s with irq := { s.irq with shed := tput (fun _ => {}) s.irq.shed n (f (s.route host n)) } }
/-- A host vector, by target 32 to 159. -/
def State.vector (s : State) (t : Nat) : Vector := tget (fun _ => {}) s.irq.vectors t
def State.modVector (s : State) (t : Nat) (f : Vector → Vector) : State :=
  { s with irq := { s.irq with vectors := tput (fun _ => {}) s.irq.vectors t (f (s.vector t)) } }
def State.func (s : State) (c : Nat) : Msix := tget (fun _ => {}) s.irq.funcs c
def State.modFunc (s : State) (c : Nat) (f : Msix → Msix) : State :=
  { s with irq := { s.irq with funcs := tput (fun _ => {}) s.irq.funcs c (f (s.func c)) } }

def State.stack (s : State) (d : Nat) : Stack := tget (fun _ => {}) s.mem.stackTab d
def State.modStack (s : State) (d : Nat) (f : Stack → Stack) : State :=
  { s with mem := { s.mem with stackTab := tput (fun _ => {}) s.mem.stackTab d (f (s.stack d)) } }
def State.dmaCh (s : State) (c : Nat) : Dma := tget (fun _ => {}) s.mem.dma c
def State.modDma (s : State) (c : Nat) (f : Dma → Dma) : State :=
  { s with mem := { s.mem with dma := tput (fun _ => {}) s.mem.dma c (f (s.dmaCh c)) } }

def State.source (s : State) (id : Nat) : Source := tget (fun _ => {}) s.flt.sources id
def State.modSource (s : State) (id : Nat) (f : Source → Source) : State :=
  { s with flt := { s.flt with sources := tput (fun _ => {}) s.flt.sources id (f (s.source id)) } }
def State.errRec (s : State) (r : Nat) : ErrRec := tget (fun _ => {}) s.flt.recs r
def State.modErrRec (s : State) (r : Nat) (f : ErrRec → ErrRec) : State :=
  { s with flt := { s.flt with recs := tput (fun _ => {}) s.flt.recs r (f (s.errRec r)) } }
def State.modFlt (s : State) (f : Faults → Faults) : State := { s with flt := f s.flt }

def State.pair (s : State) (p : Nat) : PairTrim := tget (fun _ => {}) s.cal.pairs p
def State.modPair (s : State) (p : Nat) (f : PairTrim → PairTrim) : State :=
  { s with cal := { s.cal with pairs := tput (fun _ => {}) s.cal.pairs p (f (s.pair p)) } }
/-- Temperature sensors 0 to 95, then voltage sensors 96 to 143. -/
def State.sensor (s : State) (n : Nat) : Sensor := tget (fun _ => {}) s.cal.sensors n
def State.modSensor (s : State) (n : Nat) (f : Sensor → Sensor) : State :=
  { s with cal := { s.cal with sensors := tput (fun _ => {}) s.cal.sensors n (f (s.sensor n)) } }

def usageOf (t : Tab Usage) (a c : Nat) : Usage := tget (fun _ => {}) t (8 * a + c)
def addUsage (t : Tab Usage) (a c : Nat) (u : Usage) : Tab Usage :=
  let o := usageOf t a c
  tput (fun _ => {}) t (8 * a + c)
    { packets := add64 o.packets u.packets, bytes := add64 o.bytes u.bytes,
      pictureUs := add64 o.pictureUs u.pictureUs, heldUs := add64 o.heldUs u.heldUs }

def State.gpi (s : State) (g : Nat) : Gpi := tget (fun _ => {}) s.mod.gpis g
def State.modGpi (s : State) (g : Nat) (f : Gpi → Gpi) : State :=
  { s with mod := { s.mod with gpis := tput (fun _ => {}) s.mod.gpis g (f (s.gpi g)) } }
def State.gpo (s : State) (g : Nat) : Gpo := tget (fun _ => {}) s.mod.gpos g
def State.modGpo (s : State) (g : Nat) (f : Gpo → Gpo) : State :=
  { s with mod := { s.mod with gpos := tput (fun _ => {}) s.mod.gpos g (f (s.gpo g)) } }
def State.rail (s : State) (r : Nat) : Nat := tget (fun _ => 0) s.mod.rails r
def State.setRail (s : State) (r v : Nat) : State :=
  { s with mod := { s.mod with rails := tput (fun _ => 0) s.mod.rails r v } }

def State.power (s : State) (b : Nat) : Power := tget (fun _ => {}) s.clk.power b
/-- Change POWER of a block; a change counts in TRANSITIONS (R465). -/
def State.setPower (s : State) (b v : Nat) : State :=
  let p := s.power b
  let q : Power := { st := v, transitions := (p.transitions + 1) % 65536 }
  if p.st = v then s
  else { s with clk := { s.clk with power := tput (fun _ => {}) s.clk.power b q } }
def State.ptpPort (s : State) (lp : Nat) : PtpPort := tget (fun _ => {}) s.clk.ptp lp
def State.modPtpPort (s : State) (lp : Nat) (f : PtpPort → PtpPort) : State :=
  { s with clk := { s.clk with ptp := tput (fun _ => {}) s.clk.ptp lp (f (s.ptpPort lp)) } }

/-! ## Numbering (R2) -/

/-- Field port of a logical port. -/
def fpOf (lp : Nat) : Nat := lp / 16
/-- Pipeline of a logical port: fp8n to fp8n+7 are served by pl n. -/
def plOf (lp : Nat) : Nat := lp / 128
/-- Pipeline die of a logical port. -/
def dieOf (lp : Nat) : Nat := lp / 512
/-- Coding die of a bed. -/
def bedDie (b : Nat) : Nat := b / 36
/-- Coding power domain of a bed (R16). -/
def bedDomain (b : Nat) : Nat := b / 72
/-- Logical port of a queue. -/
def lpOfQueue (q : Nat) : Nat := q / 256
/-- Pipeline die of an intake channel. -/
def intakeDie (c : Nat) : Nat := c / 1024
/-- Pipeline die of an outtake channel. -/
def outtakeDie (c : Nat) : Nat := c / 2048
/-- Time is traceable (R470). -/
def State.traceable (s : State) : Bool := s.clk.st = .locked || s.clk.st = .hedge
/-- The Shed carries out work: Dorsen runs and is not restarting (R29). -/
def State.shedLive (s : State) : Bool := s.shed.running && !s.shed.restarting

end Sys2Proof.Machine
end

