-- ==== Sys2Proof/Machine/Entries.lean ====
section
/-! DEFINITION. The Almanac's entries (R287): for each space of instances the rows of its chapter's table, with type,
rights, default and legal range, and the value in force of an entry held in the engine's store. -/

namespace Sys2Proof.Machine

/-- How an entry's value is carried (Table 11.1): bytes of an unsigned or signed number, a string, a BLOB. -/
inductive Ty where
  | u (bytes : Nat) | i (bytes : Nat) | str | blob
  deriving DecidableEq, Repr

/-- A row of an entry table: members `m0` to `m1`; rights as bits (1 keeper reads, 2 keeper writes, 4 owner reads,
8 owner writes, 16 peers read, 32 public reads); default; legal values as ranges; structural (marked S). -/
structure Row where
  m0 : Nat
  m1 : Nat
  ty : Ty
  acc : Nat
  dflt : Int := 0
  legal : List (Int × Int) := []
  struct : Bool := false
  deriving DecidableEq, Repr

/-- The spaces of instances, one for each kind of object that the families name. -/
inductive Space where
  | lport | optics | fwd | vlan | intake | feed | outtake | bedsAll | bed | encode | pots | codeStack | ladder | group | decode | twin | twins | peer | queues | gates | policer | device | almRec | allot | platform | stack | deep | dma | faults | errRec | source | cal | pair | temp | volt | soil | soilBed | counters | harvest | hist | gauge | gaugeAllot | module | feedIn | rail | hedge | gpi | gpo | clock | ptp
  deriving DecidableEq, Repr

/-- Rows of Table 02.8 (02). -/
def rowsLport : List Row := [
  -- BREAKOUT
  { m0 := 0x01, m1 := 0x01, ty := .u 1, acc := 7, legal := [(0, 4)] },
  -- ENABLE
  { m0 := 0x02, m1 := 0x02, ty := .u 1, acc := 15, legal := [(0, 1)] },
  -- STATE
  { m0 := 0x03, m1 := 0x03, ty := .u 1, acc := 21 },
  -- OWNER
  { m0 := 0x04, m1 := 0x04, ty := .u 1, acc := 7, legal := [(0, 15)] },
  -- MAX_FRAME
  { m0 := 0x05, m1 := 0x05, ty := .u 2, acc := 12, dflt := 9216, legal := [(1518, 9216)] },
  -- CLEAN_LIMIT
  { m0 := 0x06, m1 := 0x06, ty := .u 4, acc := 12, dflt := 1000, legal := [(0, 1000000)] },
  -- PFC_HONOUR
  { m0 := 0x07, m1 := 0x07, ty := .u 2, acc := 12 },
  -- LEARN
  { m0 := 0x08, m1 := 0x08, ty := .u 1, acc := 12, dflt := 1, legal := [(0, 1)] },
  -- LAST_CLEAN
  { m0 := 0x09, m1 := 0x09, ty := .u 8, acc := 4 },
  -- PAUSE_RX
  { m0 := 0x0A, m1 := 0x0A, ty := .u 8, acc := 4 },
  -- PFC_RX
  { m0 := 0x0B, m1 := 0x0B, ty := .u 8, acc := 4 },
  -- L2_QUEUE
  { m0 := 0x0C, m1 := 0x0C, ty := .u 1, acc := 12, dflt := 255 }]

/-- Rows of Table 02.8 (02). -/
def rowsOptics : List Row := [
  -- WAVE_PLAN
  { m0 := 0x01, m1 := 0x01, ty := .u 1, acc := 35, legal := [(0, 1)] },
  -- WAVE_PLAN_ACTIVE
  { m0 := 0x02, m1 := 0x02, ty := .u 1, acc := 32 }]

/-- Rows of Table 02.9 (02). -/
def rowsFwd : List Row := [
  -- AGE_TIME
  { m0 := 0x01, m1 := 0x01, ty := .u 2, acc := 35, dflt := 300, legal := [(10, 32767)] },
  -- FLOW_WRITE
  { m0 := 0x10, m1 := 0x10, ty := .blob, acc := 10 },
  -- FLOW_DELETE
  { m0 := 0x11, m1 := 0x11, ty := .blob, acc := 10 },
  -- FLOW_READ
  { m0 := 0x12, m1 := 0x12, ty := .blob, acc := 5 },
  -- DELIVERY_WRITE
  { m0 := 0x18, m1 := 0x18, ty := .blob, acc := 10 },
  -- DELIVERY_READ
  { m0 := 0x19, m1 := 0x19, ty := .blob, acc := 5 },
  -- BLOCK_GRANT
  { m0 := 0x1C, m1 := 0x1C, ty := .blob, acc := 6 },
  -- STATIC_L2
  { m0 := 0x1D, m1 := 0x1D, ty := .blob, acc := 10 },
  -- FLOW_USED
  { m0 := 0x20, m1 := 0x27, ty := .u 4, acc := 33 },
  -- L2_USED
  { m0 := 0x28, m1 := 0x2F, ty := .u 4, acc := 33 }]

/-- Rows of Table 02.9 (02). -/
def rowsVlan : List Row := [
  -- OWNER
  { m0 := 0x01, m1 := 0x01, ty := .u 1, acc := 7, legal := [(0, 15)] },
  -- MEMBERS
  { m0 := 0x02, m1 := 0x02, ty := .blob, acc := 12 },
  -- LEARN, which the keeper may write as well (R65)
  { m0 := 0x03, m1 := 0x03, ty := .u 1, acc := 14, dflt := 1, legal := [(0, 1)] },
  -- FLOOD_LIMIT, which the keeper may write as well (R65)
  { m0 := 0x04, m1 := 0x04, ty := .u 4, acc := 14, dflt := 1000000, legal := [(0, 100000000)] },
  -- LEARN_LIMIT, which the keeper may write as well (R65)
  { m0 := 0x05, m1 := 0x05, ty := .u 4, acc := 14, dflt := 262144, legal := [(0, 262144)] }]

/-- Rows of Table 04.4 (04). -/
def rowsIntake : List Row := [
  -- OWNER
  { m0 := 0x01, m1 := 0x01, ty := .u 1, acc := 23, legal := [(0, 15)] },
  -- MODE
  { m0 := 0x02, m1 := 0x02, ty := .u 1, acc := 12, legal := [(0, 2)] },
  -- FORMAT
  { m0 := 0x03, m1 := 0x03, ty := .blob, acc := 12 },
  -- COLOUR
  { m0 := 0x04, m1 := 0x04, ty := .blob, acc := 12 },
  -- MERGE_WAIT
  { m0 := 0x05, m1 := 0x05, ty := .u 2, acc := 12, dflt := 50, legal := [(0, 2000)] },
  -- CROP
  { m0 := 0x06, m1 := 0x06, ty := .blob, acc := 12 },
  -- SCALE
  { m0 := 0x07, m1 := 0x07, ty := .blob, acc := 12 },
  -- FILTER
  { m0 := 0x08, m1 := 0x08, ty := .u 1, acc := 12, dflt := 1, legal := [(0, 3)] },
  -- FILTER_COEF
  { m0 := 0x09, m1 := 0x09, ty := .blob, acc := 8 },
  -- ORIENT
  { m0 := 0x0A, m1 := 0x0A, ty := .u 1, acc := 12, legal := [(0, 7)] },
  -- LEG_STATE
  { m0 := 0x10, m1 := 0x10, ty := .u 1, acc := 4 },
  -- ARRIVAL_OFFSET
  { m0 := 0x11, m1 := 0x11, ty := .u 4, acc := 20 },
  -- LATENCY
  { m0 := 0x12, m1 := 0x12, ty := .u 4, acc := 4 },
  -- COUNTS
  { m0 := 0x18, m1 := 0x1E, ty := .u 8, acc := 4 }]

/-- Rows of Table 04.4 (04). -/
def rowsFeed : List Row := [
  -- SOURCE
  { m0 := 0x01, m1 := 0x01, ty := .u 2, acc := 4 },
  -- CUT_TO
  { m0 := 0x02, m1 := 0x02, ty := .u 2, acc := 8, legal := [(0, 2047)] },
  -- CUT_AT
  { m0 := 0x03, m1 := 0x03, ty := .u 8, acc := 12 },
  -- ALIGN
  { m0 := 0x04, m1 := 0x04, ty := .u 4, acc := 12, legal := [(0, 2000000)] },
  -- TALLY_MAP
  { m0 := 0x05, m1 := 0x05, ty := .blob, acc := 12 },
  -- LAST_CUT
  { m0 := 0x06, m1 := 0x06, ty := .u 8, acc := 4 },
  -- FEED_COUNTS
  { m0 := 0x10, m1 := 0x14, ty := .u 8, acc := 4 }]

/-- Rows of Table 04.4 (04). -/
def rowsOuttake : List Row := [
  -- OWNER
  { m0 := 0x01, m1 := 0x01, ty := .u 1, acc := 7, legal := [(0, 15)] },
  -- STREAM
  { m0 := 0x02, m1 := 0x02, ty := .u 2, acc := 12, legal := [(0, 8191)] },
  -- DEPTH
  { m0 := 0x03, m1 := 0x03, ty := .u 1, acc := 12, legal := [(0, 0), (8, 8), (10, 10), (12, 12)] },
  -- PACKING
  { m0 := 0x04, m1 := 0x04, ty := .u 1, acc := 12, legal := [(0, 1)] },
  -- SENDER
  { m0 := 0x05, m1 := 0x05, ty := .u 1, acc := 12, legal := [(0, 1)] },
  -- PAYLOAD_MAX
  { m0 := 0x06, m1 := 0x06, ty := .u 2, acc := 12, dflt := 1200, legal := [(200, 8900)] },
  -- DELIVERY_INDEX
  { m0 := 0x07, m1 := 0x07, ty := .u 4, acc := 12, legal := [(0, 33554431)] },
  -- SSRC
  { m0 := 0x08, m1 := 0x08, ty := .u 4, acc := 12 },
  -- PT
  { m0 := 0x09, m1 := 0x09, ty := .u 1, acc := 12, dflt := 96, legal := [(96, 127)] }]

/-- Rows of Table 05.11 (05). -/
def rowsBedsAll : List Row := [
  -- ROM_VERSION
  { m0 := 0x01, m1 := 0x01, ty := .u 4, acc := 32 },
  -- PATCH_LOAD
  { m0 := 0x02, m1 := 0x02, ty := .blob, acc := 2 },
  -- PATCH_ACTIVE
  { m0 := 0x03, m1 := 0x03, ty := .u 4, acc := 32 },
  -- PATCH_STANDBY
  { m0 := 0x04, m1 := 0x04, ty := .u 4, acc := 1 },
  -- LOAD_RESULT
  { m0 := 0x05, m1 := 0x05, ty := .u 1, acc := 1 },
  -- SLEEP_DELAY
  { m0 := 0x06, m1 := 0x06, ty := .u 4, acc := 3, dflt := 10000, legal := [(0, 1000000)] },
  -- WARM_BEDS
  { m0 := 0x07, m1 := 0x07, ty := .u 2, acc := 3, legal := [(0, 64)] }]

/-- Rows of Table 05.11 (05). -/
def rowsBed : List Row := [
  -- STATE
  { m0 := 0x01, m1 := 0x01, ty := .u 1, acc := 5 },
  -- PATCH_VERSION
  { m0 := 0x02, m1 := 0x02, ty := .u 4, acc := 5 },
  -- POWER_REQ
  { m0 := 0x03, m1 := 0x03, ty := .u 1, acc := 2, legal := [(1, 2)] },
  -- TRAPS
  { m0 := 0x04, m1 := 0x04, ty := .u 8, acc := 5 },
  -- TIMEOUTS
  { m0 := 0x05, m1 := 0x05, ty := .u 8, acc := 5 },
  -- SELF_CHECKS
  { m0 := 0x06, m1 := 0x06, ty := .u 8, acc := 5 }]

/-- Rows of Table 06.8 (06). -/
def rowsEncode : List Row := [
  -- OWNER
  { m0 := 0x01, m1 := 0x01, ty := .u 1, acc := 7, legal := [(0, 15)] },
  -- STATE
  { m0 := 0x02, m1 := 0x02, ty := .u 1, acc := 5 },
  -- ADMIT
  { m0 := 0x03, m1 := 0x03, ty := .u 1, acc := 8, legal := [(1, 2)] },
  -- PROTECT
  { m0 := 0x04, m1 := 0x04, ty := .u 1, acc := 12, dflt := 1, legal := [(0, 1)], struct := true },
  -- CODEC
  { m0 := 0x05, m1 := 0x05, ty := .u 1, acc := 12, legal := [(0, 1)], struct := true },
  -- PROFILE
  { m0 := 0x06, m1 := 0x06, ty := .u 1, acc := 12, dflt := 1, struct := true },
  -- LEVEL
  { m0 := 0x07, m1 := 0x07, ty := .u 1, acc := 12, legal := [(0, 0), (10, 10), (20, 20), (21, 21), (30, 30), (31, 31), (40, 40), (41, 41), (50, 50), (51, 51), (52, 52), (60, 60), (61, 61), (62, 62)], struct := true },
  -- FORMAT
  { m0 := 0x08, m1 := 0x08, ty := .blob, acc := 12, struct := true },
  -- CTU
  { m0 := 0x09, m1 := 0x09, ty := .u 1, acc := 12, dflt := 32, legal := [(32, 32), (64, 64)], struct := true },
  -- GANG
  { m0 := 0x0A, m1 := 0x0A, ty := .u 1, acc := 12, dflt := 1, legal := [(1, 4)], struct := true },
  -- SLICE_ROWS
  { m0 := 0x0B, m1 := 0x0B, ty := .u 2, acc := 12, legal := [(0, 135)], struct := true },
  -- REF_PICS
  { m0 := 0x0C, m1 := 0x0C, ty := .u 1, acc := 12, dflt := 2, legal := [(1, 4)], struct := true },
  -- RC_MODE
  { m0 := 0x0D, m1 := 0x0D, ty := .u 1, acc := 12, legal := [(0, 1)] },
  -- RATE
  { m0 := 0x0E, m1 := 0x0E, ty := .u 4, acc := 12, dflt := 20000, legal := [(500, 800000)] },
  -- RATE_MAX
  { m0 := 0x0F, m1 := 0x0F, ty := .u 4, acc := 12, dflt := 20000, legal := [(500, 800000)], struct := true },
  -- BUFFER
  { m0 := 0x10, m1 := 0x10, ty := .u 4, acc := 12, dflt := 2000000, struct := true },
  -- QP_INIT
  { m0 := 0x11, m1 := 0x11, ty := .i 4, acc := 12, dflt := 30, legal := [(-36, 63)] },
  -- QP_MIN
  { m0 := 0x12, m1 := 0x12, ty := .i 4, acc := 12, legal := [(-36, 63)] },
  -- QP_MAX
  { m0 := 0x13, m1 := 0x13, ty := .i 4, acc := 12, dflt := 51, legal := [(-36, 63)] },
  -- REFRESH_PERIOD
  { m0 := 0x14, m1 := 0x14, ty := .u 2, acc := 12, dflt := 32, legal := [(2, 256)] },
  -- ME_RANGE
  { m0 := 0x15, m1 := 0x15, ty := .u 1, acc := 12, dflt := 2, legal := [(0, 4)] },
  -- WRAPPER
  { m0 := 0x16, m1 := 0x16, ty := .u 1, acc := 12, legal := [(0, 2)], struct := true },
  -- PAYLOAD_MAX
  { m0 := 0x17, m1 := 0x17, ty := .u 2, acc := 12, dflt := 1200, legal := [(200, 8900)], struct := true },
  -- DELIVERY_P0
  { m0 := 0x18, m1 := 0x18, ty := .u 4, acc := 12, dflt := 4294967295, legal := [(0, 33554431), (4294967295, 4294967295)], struct := true },
  -- DELIVERY_P1
  { m0 := 0x19, m1 := 0x19, ty := .u 4, acc := 12, dflt := 4294967295, legal := [(0, 33554431), (4294967295, 4294967295)], struct := true },
  -- SSRC
  { m0 := 0x1A, m1 := 0x1A, ty := .u 4, acc := 12, struct := true },
  -- PT
  { m0 := 0x1B, m1 := 0x1B, ty := .u 1, acc := 12, dflt := 96, legal := [(96, 127)], struct := true },
  -- SENDER
  { m0 := 0x1C, m1 := 0x1C, ty := .u 1, acc := 12, legal := [(0, 1)], struct := true },
  -- AUDIO_MAP
  { m0 := 0x1D, m1 := 0x1D, ty := .blob, acc := 12, struct := true },
  -- ANC_MAP
  { m0 := 0x1E, m1 := 0x1E, ty := .blob, acc := 12, struct := true },
  -- PIDS
  { m0 := 0x1F, m1 := 0x1F, ty := .blob, acc := 12, struct := true },
  -- CONFIG_AT
  { m0 := 0x30, m1 := 0x30, ty := .u 8, acc := 4 },
  -- REFRESH_PHASE
  { m0 := 0x31, m1 := 0x31, ty := .u 2, acc := 4 },
  -- LAST_QP
  { m0 := 0x32, m1 := 0x32, ty := .i 4, acc := 4 },
  -- DEBT
  { m0 := 0x33, m1 := 0x33, ty := .i 4, acc := 4 },
  -- LATENCY
  { m0 := 0x34, m1 := 0x34, ty := .u 4, acc := 4 },
  -- KIND
  { m0 := 0x35, m1 := 0x35, ty := .u 1, acc := 5 },
  -- COUNTS
  { m0 := 0x38, m1 := 0x3F, ty := .u 8, acc := 4 }]

/-- Rows of Table 06.9 (06). -/
def rowsPots : List Row := [
  -- POTS
  { m0 := 0x01, m1 := 0x01, ty := .u 1, acc := 5 },
  -- POT_BYTES
  { m0 := 0x02, m1 := 0x02, ty := .u 4, acc := 5 },
  -- RESERVED_BYTES
  { m0 := 0x03, m1 := 0x03, ty := .u 8, acc := 5 },
  -- STACKS
  { m0 := 0x04, m1 := 0x04, ty := .blob, acc := 5 },
  -- MAP
  { m0 := 0x05, m1 := 0x05, ty := .blob, acc := 5 }]

/-- Rows of Table 06.9 (06). -/
def rowsCodeStack : List Row := [
  -- STACK_FREE
  { m0 := 0x01, m1 := 0x01, ty := .u 8, acc := 32, dflt := 48 },
  -- STACK_POTS
  { m0 := 0x02, m1 := 0x02, ty := .u 4, acc := 32 }]

/-- Rows of Table 07.4 (07). -/
def rowsLadder : List Row := [
  -- TIERS
  { m0 := 0x01, m1 := 0x01, ty := .blob, acc := 12, struct := true },
  -- ROLE
  { m0 := 0x02, m1 := 0x02, ty := .u 1, acc := 5 },
  -- ANCHOR
  { m0 := 0x03, m1 := 0x03, ty := .u 2, acc := 4, dflt := 65535 },
  -- TIER_FILTER
  { m0 := 0x04, m1 := 0x04, ty := .u 1, acc := 12, dflt := 1, legal := [(0, 2)], struct := true },
  -- COST
  { m0 := 0x05, m1 := 0x05, ty := .u 4, acc := 5 },
  -- GROUP
  { m0 := 0x06, m1 := 0x06, ty := .u 2, acc := 12, dflt := 65535, legal := [(0, 255), (65535, 65535)], struct := true },
  -- CUT_LIFT
  { m0 := 0x07, m1 := 0x07, ty := .u 1, acc := 12, dflt := 2, legal := [(0, 6)] },
  -- CUT_BOOST
  { m0 := 0x08, m1 := 0x08, ty := .u 1, acc := 12, dflt := 50, legal := [(0, 100)] },
  -- CUT_PICTURES
  { m0 := 0x09, m1 := 0x09, ty := .u 8, acc := 4 },
  -- LAST_CUT_BITS
  { m0 := 0x0A, m1 := 0x0A, ty := .u 4, acc := 4 },
  -- DEFERRED_CUTS
  { m0 := 0x0B, m1 := 0x0B, ty := .u 8, acc := 4 }]

/-- Rows of Table 07.4 (07). -/
def rowsGroup : List Row := [
  -- OWNER
  { m0 := 0x01, m1 := 0x01, ty := .u 1, acc := 7, legal := [(0, 15)] },
  -- RATE
  { m0 := 0x02, m1 := 0x02, ty := .u 1, acc := 12, legal := [(0, 10)] },
  -- SCAN
  { m0 := 0x03, m1 := 0x03, ty := .u 1, acc := 12, legal := [(0, 1)] },
  -- PERIOD
  { m0 := 0x04, m1 := 0x04, ty := .u 2, acc := 12, dflt := 32, legal := [(2, 256)] },
  -- EPOCH
  { m0 := 0x05, m1 := 0x05, ty := .u 8, acc := 12 },
  -- PERIOD_AT
  { m0 := 0x06, m1 := 0x06, ty := .u 8, acc := 4 },
  -- MEMBERS
  { m0 := 0x07, m1 := 0x07, ty := .blob, acc := 4 },
  -- MEMBER_COUNT
  { m0 := 0x08, m1 := 0x08, ty := .u 2, acc := 4 }]

/-- Rows of Table 08.6 (08). -/
def rowsDecode : List Row := [
  -- OWNER
  { m0 := 0x01, m1 := 0x01, ty := .u 1, acc := 7, legal := [(0, 15)] },
  -- STATE
  { m0 := 0x02, m1 := 0x02, ty := .u 1, acc := 5 },
  -- ADMIT
  { m0 := 0x03, m1 := 0x03, ty := .u 1, acc := 8, legal := [(1, 2)] },
  -- PROTECT
  { m0 := 0x04, m1 := 0x04, ty := .u 1, acc := 12, dflt := 1, legal := [(0, 1)], struct := true },
  -- CODEC
  { m0 := 0x05, m1 := 0x05, ty := .u 1, acc := 12, legal := [(0, 2)], struct := true },
  -- PROFILE
  { m0 := 0x06, m1 := 0x06, ty := .u 1, acc := 12, dflt := 1, struct := true },
  -- LEVEL
  { m0 := 0x07, m1 := 0x07, ty := .u 1, acc := 12, dflt := 62, legal := [(10, 10), (20, 20), (21, 21), (30, 30), (31, 31), (40, 40), (41, 41), (50, 50), (51, 51), (52, 52), (60, 60), (61, 61), (62, 62)], struct := true },
  -- FORMAT
  { m0 := 0x08, m1 := 0x08, ty := .blob, acc := 12, struct := true },
  -- CHANNEL
  { m0 := 0x09, m1 := 0x09, ty := .u 2, acc := 12, legal := [(0, 2047)], struct := true },
  -- WRAPPER
  { m0 := 0x0A, m1 := 0x0A, ty := .u 1, acc := 12, legal := [(0, 2)], struct := true },
  -- VIDEO_PID
  { m0 := 0x0B, m1 := 0x0B, ty := .u 2, acc := 12, legal := [(0, 0), (16, 8190)], struct := true },
  -- DONL_ZERO
  { m0 := 0x0C, m1 := 0x0C, ty := .u 1, acc := 12, legal := [(0, 1)], struct := true },
  -- DPB_PICS
  { m0 := 0x0D, m1 := 0x0D, ty := .u 1, acc := 12, dflt := 6, legal := [(1, 16)], struct := true },
  -- BITRATE_MAX
  { m0 := 0x0E, m1 := 0x0E, ty := .u 4, acc := 12, dflt := 200000, legal := [(500, 800000)], struct := true },
  -- PT
  { m0 := 0x0F, m1 := 0x0F, ty := .u 1, acc := 12, dflt := 96, legal := [(33, 33), (96, 127)], struct := true },
  -- OUT_ALIGN
  { m0 := 0x10, m1 := 0x10, ty := .u 4, acc := 12, legal := [(0, 20000000)] },
  -- MODE
  { m0 := 0x30, m1 := 0x30, ty := .u 1, acc := 4 },
  -- DECODE_DELAY
  { m0 := 0x31, m1 := 0x31, ty := .u 1, acc := 4 },
  -- LATENCY
  { m0 := 0x32, m1 := 0x32, ty := .u 4, acc := 4 },
  -- LAST_CLEAN
  { m0 := 0x33, m1 := 0x33, ty := .u 8, acc := 4 },
  -- COUNTS
  { m0 := 0x38, m1 := 0x3F, ty := .u 8, acc := 4 },
  -- MORE_COUNTS
  { m0 := 0x40, m1 := 0x43, ty := .u 8, acc := 4 }]

/-- Rows of Table 09.10 (09). -/
def rowsTwin : List Row := [
  -- TWIN_STATE
  { m0 := 0x01, m1 := 0x01, ty := .u 1, acc := 5 },
  -- LEAD
  { m0 := 0x02, m1 := 0x02, ty := .u 2, acc := 5, dflt := 65535 },
  -- PARTNER
  { m0 := 0x03, m1 := 0x03, ty := .u 2, acc := 5, dflt := 65535 },
  -- SCION
  { m0 := 0x04, m1 := 0x04, ty := .u 2, acc := 5, dflt := 65535 },
  -- STANDBY
  { m0 := 0x05, m1 := 0x05, ty := .u 2, acc := 12, dflt := 65535, struct := true },
  -- PROTECTED
  { m0 := 0x06, m1 := 0x06, ty := .u 1, acc := 5 },
  -- EXPOSED_SINCE
  { m0 := 0x07, m1 := 0x07, ty := .u 8, acc := 4 },
  -- LAST_CUTTING
  { m0 := 0x08, m1 := 0x08, ty := .u 8, acc := 4 },
  -- COUNTS
  { m0 := 0x10, m1 := 0x19, ty := .u 8, acc := 5 }]

/-- Rows of Table 09.10 (09). -/
def rowsTwins : List Row := [
  -- SPARE_POOL
  { m0 := 0x01, m1 := 0x01, ty := .u 2, acc := 35, dflt := 32, legal := [(16, 64)] },
  -- SPARES_FREE
  { m0 := 0x02, m1 := 0x02, ty := .u 2, acc := 32 },
  -- GRAFT_TRIES
  { m0 := 0x03, m1 := 0x03, ty := .u 1, acc := 3, dflt := 3, legal := [(1, 8)] },
  -- CUTTING_CHECK
  { m0 := 0x04, m1 := 0x04, ty := .u 1, acc := 3, dflt := 1 }]

/-- Rows of Table 09.10 (09). -/
def rowsPeer : List Row := [
  -- PEER
  { m0 := 0x01, m1 := 0x01, ty := .u 2, acc := 12, dflt := 65535 }]

/-- Rows of Table 10.5 (10). -/
def rowsQueues : List Row := [
  -- MEDIA_CLASSES
  { m0 := 0x01, m1 := 0x01, ty := .u 2, acc := 13, dflt := 255 },
  -- GROUPS
  { m0 := 0x02, m1 := 0x02, ty := .blob, acc := 12 },
  -- QUEUE_WRITE
  { m0 := 0x03, m1 := 0x03, ty := .blob, acc := 8 },
  -- QUEUE_READ
  { m0 := 0x04, m1 := 0x04, ty := .blob, acc := 4 },
  -- CLASS_MODE
  { m0 := 0x05, m1 := 0x05, ty := .blob, acc := 12 }]

/-- Rows of Table 10.5 (10). -/
def rowsGates : List Row := [
  -- GATING
  { m0 := 0x01, m1 := 0x01, ty := .u 1, acc := 12, legal := [(0, 1)] },
  -- CYCLE
  { m0 := 0x02, m1 := 0x02, ty := .blob, acc := 12 },
  -- BASE
  { m0 := 0x03, m1 := 0x03, ty := .u 8, acc := 12 },
  -- LIST
  { m0 := 0x04, m1 := 0x04, ty := .blob, acc := 12 },
  -- CHANGE_AT
  { m0 := 0x05, m1 := 0x05, ty := .u 8, acc := 4 },
  -- MAX_PACKET
  { m0 := 0x06, m1 := 0x06, ty := .blob, acc := 12 },
  -- ACTIVE
  { m0 := 0x07, m1 := 0x07, ty := .blob, acc := 4 },
  -- STEPS
  { m0 := 0x08, m1 := 0x08, ty := .u 8, acc := 4 }]

/-- Rows of Table 10.5 (10). -/
def rowsPolicer : List Row := [
  -- OWNER
  { m0 := 0x01, m1 := 0x01, ty := .u 1, acc := 7, legal := [(0, 15)] },
  -- MODE
  { m0 := 0x02, m1 := 0x02, ty := .u 1, acc := 12, legal := [(0, 1)] },
  -- COLOUR
  { m0 := 0x03, m1 := 0x03, ty := .u 1, acc := 12, legal := [(0, 1)] },
  -- CIR
  { m0 := 0x04, m1 := 0x04, ty := .u 4, acc := 12, legal := [(0, 3200000000)] },
  -- CBS
  { m0 := 0x05, m1 := 0x05, ty := .u 4, acc := 12, dflt := 1, legal := [(1, 16777215)] },
  -- PIR
  { m0 := 0x06, m1 := 0x06, ty := .u 4, acc := 12, legal := [(0, 3200000000)] },
  -- EBS_PBS
  { m0 := 0x07, m1 := 0x07, ty := .u 4, acc := 12, dflt := 1, legal := [(1, 16777215)] },
  -- ACTIONS
  { m0 := 0x08, m1 := 0x08, ty := .blob, acc := 12 },
  -- COUNTS
  { m0 := 0x10, m1 := 0x12, ty := .u 8, acc := 4 }]

/-- Rows of Table 11.11 (11). -/
def rowsDevice : List Row := [
  -- PART
  { m0 := 0x01, m1 := 0x01, ty := .str, acc := 32 },
  -- SERIAL
  { m0 := 0x02, m1 := 0x02, ty := .str, acc := 32 },
  -- SILICON_REV
  { m0 := 0x03, m1 := 0x03, ty := .u 4, acc := 32 },
  -- IDENTITY_LABEL
  { m0 := 0x04, m1 := 0x04, ty := .str, acc := 35 },
  -- FIRMWARE
  { m0 := 0x05, m1 := 0x05, ty := .u 4, acc := 32 },
  -- TIME_NOW
  { m0 := 0x06, m1 := 0x06, ty := .u 8, acc := 32 },
  -- ALMANAC_STATE
  { m0 := 0x07, m1 := 0x07, ty := .u 1, acc := 32 },
  -- READY_AT
  { m0 := 0x08, m1 := 0x08, ty := .u 8, acc := 32 },
  -- MGMT_MAC
  { m0 := 0x09, m1 := 0x09, ty := .blob, acc := 32 },
  -- UDP_PORT
  { m0 := 0x10, m1 := 0x10, ty := .u 2, acc := 35, dflt := 7620, legal := [(1024, 65535)] },
  -- MGMT_ADDR
  { m0 := 0x11, m1 := 0x11, ty := .blob, acc := 3 },
  -- INBAND_ADDR
  { m0 := 0x13, m1 := 0x13, ty := .blob, acc := 3 },
  -- CHANGE_LOG
  { m0 := 0x18, m1 := 0x18, ty := .blob, acc := 32 },
  -- CREDITS
  { m0 := 0x19, m1 := 0x19, ty := .blob, acc := 32 },
  -- BAD_MESSAGES
  { m0 := 0x1A, m1 := 0x1A, ty := .u 8, acc := 1 },
  -- IDENTIFY_DROPS
  { m0 := 0x1B, m1 := 0x1B, ty := .u 8, acc := 1 }]

/-- Rows of Table 11.11 (11). -/
def rowsAlmRec : List Row := [
  -- SESSION
  { m0 := 0x01, m1 := 0x01, ty := .u 4, acc := 5 },
  -- NEXT_SEQ
  { m0 := 0x02, m1 := 0x02, ty := .u 4, acc := 4 },
  -- AUTH_FAILS
  { m0 := 0x03, m1 := 0x03, ty := .u 8, acc := 5 },
  -- SUPERSEDED
  { m0 := 0x04, m1 := 0x04, ty := .u 8, acc := 5 },
  -- GAP_DROPS
  { m0 := 0x05, m1 := 0x05, ty := .u 8, acc := 4 },
  -- OVERLOAD_DROPS
  { m0 := 0x06, m1 := 0x06, ty := .u 8, acc := 4 },
  -- MAILBOX_IGNORED
  { m0 := 0x07, m1 := 0x07, ty := .u 8, acc := 4 },
  -- QUEUED_NOW
  { m0 := 0x08, m1 := 0x08, ty := .u 2, acc := 4 },
  -- SEQ_DROPS
  { m0 := 0x09, m1 := 0x09, ty := .u 8, acc := 5 }]

/-- Rows of Table 12.5 (12). -/
def rowsAllot : List Row := [
  -- KEY
  { m0 := 0x01, m1 := 0x01, ty := .blob, acc := 10 },
  -- KEY_SET
  { m0 := 0x02, m1 := 0x02, ty := .u 1, acc := 5 },
  -- LINK
  { m0 := 0x03, m1 := 0x03, ty := .u 1, acc := 7, legal := [(0, 8)] },
  -- RIGHTS
  { m0 := 0x04, m1 := 0x04, ty := .u 1, acc := 7, legal := [(0, 3)] },
  -- BUDGET
  { m0 := 0x05, m1 := 0x05, ty := .u 4, acc := 7, dflt := 256000000, legal := [(0, 256000000)] },
  -- BUDGET_USED
  { m0 := 0x06, m1 := 0x06, ty := .u 4, acc := 5 },
  -- SLOT_GRANT
  { m0 := 0x07, m1 := 0x07, ty := .blob, acc := 2 },
  -- LATCH_GRANT
  { m0 := 0x08, m1 := 0x08, ty := .u 8, acc := 7 },
  -- RESET
  { m0 := 0x09, m1 := 0x09, ty := .u 1, acc := 2, legal := [(1, 1)] },
  -- RESETS
  { m0 := 0x0A, m1 := 0x0A, ty := .u 8, acc := 5 },
  -- CLAMPS
  { m0 := 0x0B, m1 := 0x0B, ty := .u 8, acc := 5 },
  -- REG_SUPERSEDED
  { m0 := 0x0C, m1 := 0x0C, ty := .u 8, acc := 5 },
  -- RUN
  { m0 := 0x0D, m1 := 0x0D, ty := .blob, acc := 10 },
  -- QUEUE_ENABLE
  { m0 := 0x0E, m1 := 0x0E, ty := .blob, acc := 10 }]

/-- Rows of Table 12.5 (12). -/
def rowsPlatform : List Row := [
  -- VOTE_CORRECTIONS
  { m0 := 0x01, m1 := 0x01, ty := .u 8, acc := 1 }]

/-- Rows of Table 14.7 (14). -/
def rowsStack : List Row := [
  -- STATE
  { m0 := 0x01, m1 := 0x01, ty := .u 1, acc := 32 },
  -- OP_POINT
  { m0 := 0x02, m1 := 0x02, ty := .u 1, acc := 35, legal := [(0, 1)] },
  -- OP_ACTIVE
  { m0 := 0x03, m1 := 0x03, ty := .u 1, acc := 32 },
  -- OP_STATE
  { m0 := 0x04, m1 := 0x04, ty := .u 1, acc := 1 },
  -- OP_AT
  { m0 := 0x05, m1 := 0x05, ty := .u 8, acc := 1 },
  -- CORRECTED
  { m0 := 0x06, m1 := 0x06, ty := .u 8, acc := 1 },
  -- UNCORRECTABLE
  { m0 := 0x07, m1 := 0x07, ty := .u 8, acc := 1 },
  -- LOG
  { m0 := 0x08, m1 := 0x08, ty := .blob, acc := 1 },
  -- LOG_LOST
  { m0 := 0x09, m1 := 0x09, ty := .u 8, acc := 1 },
  -- LOG_CLEAR
  { m0 := 0x0A, m1 := 0x0A, ty := .u 1, acc := 2, legal := [(1, 1)] },
  -- RETIRED
  { m0 := 0x0B, m1 := 0x0B, ty := .blob, acc := 1 },
  -- CE_THRESHOLD
  { m0 := 0x0C, m1 := 0x0C, ty := .u 4, acc := 3, dflt := 1000, legal := [(1, 1000000)] },
  -- SCRUB_HOURS
  { m0 := 0x0D, m1 := 0x0D, ty := .u 1, acc := 3, dflt := 8, legal := [(1, 24)] }]

/-- Rows of Table 14.7 (14). -/
def rowsDeep : List Row := [
  -- DEEP_SHARE
  { m0 := 0x01, m1 := 0x01, ty := .u 1, acc := 3, dflt := 50, legal := [(0, 75)] }]

/-- Rows of Table 14.7 (14). -/
def rowsDma : List Row := [
  -- WEIGHT
  { m0 := 0x01, m1 := 0x01, ty := .u 1, acc := 7, dflt := 16, legal := [(1, 255)] },
  -- EXCHANGE_SIZE
  { m0 := 0x02, m1 := 0x02, ty := .u 4, acc := 7, dflt := 64, legal := [(0, 1024)] },
  -- EXCHANGE_DIE
  { m0 := 0x03, m1 := 0x03, ty := .u 1, acc := 7, legal := [(0, 1)] },
  -- BYTES
  { m0 := 0x04, m1 := 0x04, ty := .u 8, acc := 5 },
  -- HALTS
  { m0 := 0x05, m1 := 0x05, ty := .u 8, acc := 5 }]

/-- Rows of Table 15.6 (15). -/
def rowsFaults : List Row := [
  -- INJECT_ENABLE
  { m0 := 0x01, m1 := 0x01, ty := .u 1, acc := 35, legal := [(0, 1)] },
  -- DOMAIN_FAULT
  { m0 := 0x02, m1 := 0x02, ty := .u 2, acc := 32 },
  -- PRUNED_UNITS
  { m0 := 0x03, m1 := 0x03, ty := .blob, acc := 32 },
  -- ALIVE_STATE
  { m0 := 0x04, m1 := 0x04, ty := .u 1, acc := 32 },
  -- UNIT_RESET
  { m0 := 0x05, m1 := 0x05, ty := .blob, acc := 2 },
  -- ALERT_SW
  { m0 := 0x06, m1 := 0x06, ty := .u 1, acc := 3, legal := [(0, 3)] },
  -- RESET_FAILS
  { m0 := 0x07, m1 := 0x07, ty := .u 8, acc := 1 },
  -- FORCE_REFUSED
  { m0 := 0x08, m1 := 0x08, ty := .u 8, acc := 1 }]

/-- Rows of Table 15.6 (15). -/
def rowsErrRec : List Row := [
  -- RECORD
  { m0 := 0x01, m1 := 0x01, ty := .blob, acc := 1 },
  -- CLEAR
  { m0 := 0x02, m1 := 0x02, ty := .u 1, acc := 2, legal := [(1, 1)] },
  -- RAISES
  { m0 := 0x03, m1 := 0x03, ty := .u 8, acc := 1 }]

/-- Rows of Table 15.6 (15). -/
def rowsSource : List Row := [
  -- CLASS
  { m0 := 0x01, m1 := 0x01, ty := .u 1, acc := 3 },
  -- FORCE
  { m0 := 0x02, m1 := 0x02, ty := .u 1, acc := 3, legal := [(0, 1)] },
  -- LIVE
  { m0 := 0x03, m1 := 0x03, ty := .u 1, acc := 1 },
  -- COUNT
  { m0 := 0x04, m1 := 0x04, ty := .u 8, acc := 1 }]

/-- Rows of Table 16.5 (16). -/
def rowsCal : List Row := [
  -- CAL_START
  { m0 := 0x01, m1 := 0x01, ty := .blob, acc := 2 },
  -- CAL_STATE
  { m0 := 0x02, m1 := 0x02, ty := .u 1, acc := 32 },
  -- SIDE
  { m0 := 0x03, m1 := 0x03, ty := .u 1, acc := 32, dflt := 255 },
  -- EPOCH
  { m0 := 0x04, m1 := 0x04, ty := .u 8, acc := 3 },
  -- EPOCH_AT
  { m0 := 0x05, m1 := 0x05, ty := .u 8, acc := 32 },
  -- TRIM_SET
  { m0 := 0x06, m1 := 0x06, ty := .blob, acc := 1 },
  -- TRIM_RESTORE
  { m0 := 0x07, m1 := 0x07, ty := .blob, acc := 2 },
  -- DISCARD
  { m0 := 0x08, m1 := 0x08, ty := .u 1, acc := 2, legal := [(1, 1)] },
  -- EMPTY_EPOCHS
  { m0 := 0x09, m1 := 0x09, ty := .u 8, acc := 1 }]

/-- Rows of Table 16.5 (16). -/
def rowsPair : List Row := [
  -- ACTIVE
  { m0 := 0x01, m1 := 0x01, ty := .blob, acc := 1 },
  -- PENDING
  { m0 := 0x02, m1 := 0x02, ty := .blob, acc := 1 },
  -- LAST_CAL
  { m0 := 0x03, m1 := 0x03, ty := .u 8, acc := 1 },
  -- INTERRUPTIONS
  { m0 := 0x04, m1 := 0x04, ty := .u 8, acc := 1 }]

/-- Rows of Table 16.5 (16). -/
def rowsTemp : List Row := [
  -- READING
  { m0 := 0x01, m1 := 0x01, ty := .i 4, acc := 32 },
  -- TRIM
  { m0 := 0x02, m1 := 0x02, ty := .blob, acc := 1 }]

/-- Rows of Table 16.5 (16). -/
def rowsVolt : List Row := [
  -- READING
  { m0 := 0x01, m1 := 0x01, ty := .i 4, acc := 32 },
  -- TRIM
  { m0 := 0x02, m1 := 0x02, ty := .blob, acc := 1 }]

/-- Rows of Table 16.5 (16). -/
def rowsSoil : List Row := [
  -- SOIL_INTERVAL
  { m0 := 0x01, m1 := 0x01, ty := .u 4, acc := 3, dflt := 24, legal := [(1, 720)] },
  -- SOIL_PARALLEL
  { m0 := 0x02, m1 := 0x02, ty := .u 1, acc := 3, dflt := 4, legal := [(1, 36)] },
  -- TESTS
  { m0 := 0x03, m1 := 0x03, ty := .blob, acc := 1 }]

/-- Rows of Table 16.5 (16). -/
def rowsSoilBed : List Row := [
  -- RESULT
  { m0 := 0x01, m1 := 0x01, ty := .u 1, acc := 1 },
  -- LAST_PASS
  { m0 := 0x02, m1 := 0x02, ty := .u 8, acc := 1 },
  -- FAIL_STEP
  { m0 := 0x03, m1 := 0x03, ty := .u 1, acc := 1 },
  -- RETEST
  { m0 := 0x04, m1 := 0x04, ty := .u 1, acc := 2, legal := [(1, 1)] }]

/-- Rows of Table 17.5 (17). -/
def rowsCounters : List Row := [
  -- HARVEST_PERIOD
  { m0 := 0x01, m1 := 0x01, ty := .u 4, acc := 35, dflt := 1000, legal := [(10, 10000)] },
  -- FREEZE
  { m0 := 0x02, m1 := 0x02, ty := .u 1, acc := 3, legal := [(0, 1)] },
  -- SNAPSHOT
  { m0 := 0x03, m1 := 0x03, ty := .u 1, acc := 2, legal := [(1, 1)] },
  -- SNAP_TIME
  { m0 := 0x04, m1 := 0x04, ty := .u 8, acc := 1 },
  -- SAMPLE_RING
  { m0 := 0x05, m1 := 0x05, ty := .u 1, acc := 3, dflt := 15, legal := [(0, 15)] },
  -- COUNTER_SEL
  { m0 := 0x10, m1 := 0x17, ty := .blob, acc := 3 }]

/-- Rows of Table 17.5 (17). -/
def rowsHarvest : List Row := [
  -- HARVEST_LIST
  { m0 := 0x01, m1 := 0x01, ty := .blob, acc := 15 },
  -- LIST_GEN
  { m0 := 0x02, m1 := 0x02, ty := .u 2, acc := 4 }]

/-- Rows of Table 17.5 (17). -/
def rowsHist : List Row := [
  -- CODING
  { m0 := 0x01, m1 := 0x01, ty := .blob, acc := 5 },
  -- RESIDENCE
  { m0 := 0x02, m1 := 0x02, ty := .blob, acc := 5 },
  -- HIST_CLEAR
  { m0 := 0x03, m1 := 0x03, ty := .u 1, acc := 8, legal := [(1, 1)] }]

/-- Rows of family 50 (18). -/
def rowsGauge : List Row := [
  -- INTERVAL
  { m0 := 0x01, m1 := 0x01, ty := .u 4, acc := 35, dflt := 60, legal := [(10, 3600)] },
  -- TARIFF
  { m0 := 0x02, m1 := 0x02, ty := .blob, acc := 35 },
  -- LAST_SEQ
  { m0 := 0x03, m1 := 0x03, ty := .u 8, acc := 1 },
  -- OLDEST_SEQ
  { m0 := 0x04, m1 := 0x04, ty := .u 8, acc := 1 },
  -- ACK_SEQ
  { m0 := 0x05, m1 := 0x05, ty := .u 8, acc := 3 },
  -- RECORD
  { m0 := 0x06, m1 := 0x06, ty := .blob, acc := 1 },
  -- FLAGS_NOW
  { m0 := 0x07, m1 := 0x07, ty := .u 4, acc := 1 },
  -- SEAL
  { m0 := 0x08, m1 := 0x08, ty := .u 1, acc := 32 },
  -- KEY_BLOCK
  { m0 := 0x09, m1 := 0x09, ty := .blob, acc := 32 },
  -- LOST_UNREAD
  { m0 := 0x0A, m1 := 0x0A, ty := .u 4, acc := 1 }]

/-- Rows of family 50 (18). -/
def rowsGaugeAllot : List Row := [
  -- OPEN_USAGE
  { m0 := 0x01, m1 := 0x01, ty := .blob, acc := 5 },
  -- LAST_CHARGE
  { m0 := 0x02, m1 := 0x02, ty := .blob, acc := 5 }]

/-- Rows of Table 19.9 (19). -/
def rowsModule : List Row := [
  -- MAIN_FEED
  { m0 := 0x01, m1 := 0x01, ty := .u 1, acc := 35, legal := [(0, 1)] },
  -- SWITCHBACK_DELAY
  { m0 := 0x02, m1 := 0x02, ty := .u 4, acc := 3, dflt := 1000, legal := [(0, 60000)] },
  -- FEED_IN_USE
  { m0 := 0x03, m1 := 0x03, ty := .u 1, acc := 32 },
  -- SWITCHOVERS
  { m0 := 0x04, m1 := 0x04, ty := .u 8, acc := 1 },
  -- POWER
  { m0 := 0x05, m1 := 0x05, ty := .u 4, acc := 32 },
  -- TEMP_WARN
  { m0 := 0x06, m1 := 0x06, ty := .i 4, acc := 3, dflt := 115, legal := [(80, 125)] },
  -- TEMP_MAX
  { m0 := 0x07, m1 := 0x07, ty := .i 4, acc := 32 },
  -- THERMAL_TRIPS
  { m0 := 0x08, m1 := 0x08, ty := .u 8, acc := 1 },
  -- LIFE
  { m0 := 0x09, m1 := 0x09, ty := .blob, acc := 32 },
  -- BIFURCATION
  { m0 := 0x0A, m1 := 0x0A, ty := .u 1, acc := 32 }]

/-- Rows of Table 19.9 (19). -/
def rowsFeedIn : List Row := [
  -- VOLTAGE
  { m0 := 0x01, m1 := 0x01, ty := .i 4, acc := 32 },
  -- CURRENT
  { m0 := 0x02, m1 := 0x02, ty := .i 4, acc := 32 },
  -- STATE
  { m0 := 0x03, m1 := 0x03, ty := .u 1, acc := 32 }]

/-- Rows of Table 19.9 (19). -/
def rowsRail : List Row := [
  -- RAIL_VOLTAGE
  { m0 := 0x01, m1 := 0x01, ty := .i 4, acc := 32 },
  -- PHASES_OK
  { m0 := 0x02, m1 := 0x02, ty := .u 1, acc := 32 },
  -- RAIL_STATE
  { m0 := 0x03, m1 := 0x03, ty := .u 1, acc := 32 }]

/-- Rows of Table 19.10 (19). -/
def rowsHedge : List Row := [
  -- FIELD_SUPPLY
  { m0 := 0x01, m1 := 0x01, ty := .u 1, acc := 32 },
  -- LINK_ERRORS
  { m0 := 0x02, m1 := 0x02, ty := .u 8, acc := 1 },
  -- REF_STATE
  { m0 := 0x03, m1 := 0x03, ty := .u 1, acc := 32 },
  -- LAST_PPS
  { m0 := 0x04, m1 := 0x04, ty := .u 8, acc := 32 }]

/-- Rows of Table 19.10 (19). -/
def rowsGpi : List Row := [
  -- OWNER
  { m0 := 0x01, m1 := 0x01, ty := .u 1, acc := 7, legal := [(0, 15)] },
  -- LEVEL
  { m0 := 0x02, m1 := 0x02, ty := .u 1, acc := 20 },
  -- DEBOUNCE
  { m0 := 0x03, m1 := 0x03, ty := .u 2, acc := 12, legal := [(0, 10000)] },
  -- LAST_CHANGE
  { m0 := 0x04, m1 := 0x04, ty := .u 8, acc := 20 },
  -- CHANGES
  { m0 := 0x05, m1 := 0x05, ty := .u 8, acc := 4 }]

/-- Rows of Table 19.10 (19). -/
def rowsGpo : List Row := [
  -- OWNER
  { m0 := 0x01, m1 := 0x01, ty := .u 1, acc := 7, legal := [(0, 15)] },
  -- SET
  { m0 := 0x02, m1 := 0x02, ty := .blob, acc := 10 },
  -- LEVEL
  { m0 := 0x03, m1 := 0x03, ty := .u 1, acc := 20 },
  -- FAILSAFE
  { m0 := 0x04, m1 := 0x04, ty := .u 1, acc := 12, legal := [(0, 2)] }]

/-- Rows of Table 20.7 (20). -/
def rowsClock : List Row := [
  -- CF_SOURCE
  { m0 := 0x01, m1 := 0x01, ty := .u 1, acc := 35, legal := [(0, 2)] },
  -- CF_ACTIVE
  { m0 := 0x02, m1 := 0x02, ty := .u 1, acc := 32 },
  -- READY
  { m0 := 0x03, m1 := 0x03, ty := .u 1, acc := 32 },
  -- REFCLK_LOSSES
  { m0 := 0x04, m1 := 0x04, ty := .u 8, acc := 1 },
  -- POWER_MAP
  { m0 := 0x05, m1 := 0x05, ty := .blob, acc := 32 },
  -- DOMAIN
  { m0 := 0x10, m1 := 0x10, ty := .u 1, acc := 35, dflt := 127, legal := [(0, 127)] },
  -- PRIORITY1
  { m0 := 0x11, m1 := 0x11, ty := .u 1, acc := 3, dflt := 128 },
  -- PRIORITY2
  { m0 := 0x12, m1 := 0x12, ty := .u 1, acc := 3, dflt := 128 },
  -- ANNOUNCE_LOG
  { m0 := 0x13, m1 := 0x13, ty := .i 4, acc := 3, dflt := -2, legal := [(-3, 1)] },
  -- SYNC_LOG
  { m0 := 0x14, m1 := 0x14, ty := .i 4, acc := 3, dflt := -3, legal := [(-7, -1)] },
  -- DELAY_LOG
  { m0 := 0x15, m1 := 0x15, ty := .i 4, acc := 3, dflt := -3, legal := [(-7, -1)] },
  -- ANNOUNCE_TIMEOUT
  { m0 := 0x16, m1 := 0x16, ty := .u 1, acc := 3, dflt := 3, legal := [(2, 10)] },
  -- STEP_LIMIT
  { m0 := 0x17, m1 := 0x17, ty := .u 4, acc := 3, dflt := 1000000, legal := [(1000, 1000000000)] },
  -- SLEW_MAX
  { m0 := 0x18, m1 := 0x18, ty := .u 4, acc := 3, dflt := 10000, legal := [(1000, 500000)] },
  -- HOLDOVER_SOURCE
  { m0 := 0x19, m1 := 0x19, ty := .u 1, acc := 3, dflt := 1, legal := [(0, 1)] },
  -- HOLDOVER_SPEC
  { m0 := 0x1A, m1 := 0x1A, ty := .u 4, acc := 3, dflt := 10, legal := [(1, 86400)] },
  -- PPS_OFFSET
  { m0 := 0x1B, m1 := 0x1B, ty := .i 4, acc := 35, legal := [(-500000000, 500000000)] },
  -- PPS_VALID
  { m0 := 0x1C, m1 := 0x1C, ty := .u 1, acc := 32 },
  -- TIME_SET
  { m0 := 0x1D, m1 := 0x1D, ty := .u 8, acc := 2 },
  -- TIME_STATE
  { m0 := 0x20, m1 := 0x20, ty := .u 1, acc := 32 },
  -- OFFSET
  { m0 := 0x21, m1 := 0x21, ty := .i 4, acc := 32 },
  -- SLAVE_PORT
  { m0 := 0x22, m1 := 0x22, ty := .u 2, acc := 32, dflt := 65535 },
  -- PARENT
  { m0 := 0x23, m1 := 0x23, ty := .blob, acc := 32 },
  -- STEPS
  { m0 := 0x24, m1 := 0x24, ty := .u 8, acc := 32 },
  -- CLOCK_ID
  { m0 := 0x25, m1 := 0x25, ty := .blob, acc := 32 }]

/-- Rows of Table 20.7 (20). -/
def rowsPtp : List Row := [
  -- PTP_ENABLE
  { m0 := 0x01, m1 := 0x01, ty := .u 1, acc := 7, legal := [(0, 1)] },
  -- MASTER_ONLY
  { m0 := 0x02, m1 := 0x02, ty := .u 1, acc := 7, legal := [(0, 1)] },
  -- VID
  { m0 := 0x03, m1 := 0x03, ty := .u 2, acc := 7, legal := [(0, 4094)] },
  -- PORT_STATE
  { m0 := 0x04, m1 := 0x04, ty := .u 1, acc := 32, dflt := 3 },
  -- MEAN_DELAY
  { m0 := 0x05, m1 := 0x05, ty := .i 4, acc := 5 }]

/-- The rows of a space. -/
def rowsOf : Space → List Row
  | .lport => rowsLport
  | .optics => rowsOptics
  | .fwd => rowsFwd
  | .vlan => rowsVlan
  | .intake => rowsIntake
  | .feed => rowsFeed
  | .outtake => rowsOuttake
  | .bedsAll => rowsBedsAll
  | .bed => rowsBed
  | .encode => rowsEncode
  | .pots => rowsPots
  | .codeStack => rowsCodeStack
  | .ladder => rowsLadder
  | .group => rowsGroup
  | .decode => rowsDecode
  | .twin => rowsTwin
  | .twins => rowsTwins
  | .peer => rowsPeer
  | .queues => rowsQueues
  | .gates => rowsGates
  | .policer => rowsPolicer
  | .device => rowsDevice
  | .almRec => rowsAlmRec
  | .allot => rowsAllot
  | .platform => rowsPlatform
  | .stack => rowsStack
  | .deep => rowsDeep
  | .dma => rowsDma
  | .faults => rowsFaults
  | .errRec => rowsErrRec
  | .source => rowsSource
  | .cal => rowsCal
  | .pair => rowsPair
  | .temp => rowsTemp
  | .volt => rowsVolt
  | .soil => rowsSoil
  | .soilBed => rowsSoilBed
  | .counters => rowsCounters
  | .harvest => rowsHarvest
  | .hist => rowsHist
  | .gauge => rowsGauge
  | .gaugeAllot => rowsGaugeAllot
  | .module => rowsModule
  | .feedIn => rowsFeedIn
  | .rail => rowsRail
  | .hedge => rowsHedge
  | .gpi => rowsGpi
  | .gpo => rowsGpo
  | .clock => rowsClock
  | .ptp => rowsPtp

/-- The row of a member. -/
def rowOf (sp : Space) (mem : Nat) : Option Row :=
  (rowsOf sp).find? (fun r => decide (r.m0 ≤ mem) && decide (mem ≤ r.m1))

/-- The spaces of each family with their first and last instance (the families' own rules: R70, R71, R119, R148, R182,
R184, R206, R231, R265, R286, R312, R331, R369, R385, R400, R415, R430, R456, R457, R476). -/
def spacesOf : Nat → List (Nat × Nat × Space)
  | 0x01 => [(0x0, 0x0, .device), (0x100, 0x10F, .almRec)]
  | 0x02 => [(0x0, 0x0, .module), (0x1, 0x2, .feedIn), (0x100, 0x110, .rail)]
  | 0x03 => [(0x0, 0x0, .clock), (0x1000, 0x13FF, .ptp)]
  | 0x04 => [(0x0, 0xF, .allot), (0x100, 0x100, .platform)]
  | 0x10 => [(0x0, 0x3FF, .lport), (0x400, 0x400, .optics)]
  | 0x11 => [(0x0, 0x0, .fwd), (0x1, 0xFFE, .vlan)]
  | 0x12 => [(0x0, 0x3FF, .queues)]
  | 0x13 => [(0x0, 0x3FF, .gates)]
  | 0x14 => [(0x0, 0xFFFF, .policer)]
  | 0x20 => [(0x0, 0x7FF, .intake), (0x2000, 0x3FFF, .feed), (0x1000, 0x1FFF, .outtake)]
  | 0x21 => [(0x0, 0x1FFF, .encode)]
  | 0x22 => [(0x0, 0x1FFF, .ladder), (0x2000, 0x20FF, .group)]
  | 0x23 => [(0x0, 0x1FFF, .decode)]
  | 0x24 => [(0x0, 0x1FFF, .twin), (0x2000, 0x2000, .twins), (0x3000, 0x37FF, .peer)]
  | 0x25 => [(0x0, 0x1FFF, .pots), (0x2000, 0x2007, .codeStack)]
  | 0x30 => [(0x0, 0xB, .stack), (0x100, 0x101, .deep)]
  | 0x31 => [(0x0, 0xF, .dma)]
  | 0x40 => [(0x0, 0x0, .faults), (0x100, 0x110, .errRec), (0x1000, 0x1FFF, .source)]
  | 0x41 => [(0x0, 0x0, .cal), (0x100, 0x17F, .pair), (0x200, 0x25F, .temp), (0x300, 0x32F, .volt)]
  | 0x42 => [(0x0, 0x0, .soil), (0x1000, 0x111F, .soilBed)]
  | 0x43 => [(0x0, 0x0, .counters), (0x100, 0x10F, .harvest), (0x1000, 0x2FFF, .hist)]
  | 0x50 => [(0x0, 0x0, .gauge), (0x100, 0x10F, .gaugeAllot)]
  | 0x51 => [(0x0, 0x0, .hedge), (0x100, 0x11F, .gpi), (0x200, 0x21F, .gpo)]
  | 0x60 => [(0x0, 0x0, .bedsAll), (0x1000, 0x111F, .bed)]
  | _ => []

/-- The space an instance lies in and the number of the object within it. -/
def spaceOf (fam inst : Nat) : Option (Space × Nat) :=
  match (spacesOf fam).find? (fun r => decide (r.1 ≤ inst) && decide (inst ≤ r.2.1)) with
  | none => none
  | some (lo, _, sp) => some (sp, inst - lo)

/-- Bytes of a value of a type. -/
def Ty.width : Ty → Nat
  | .u b => b
  | .i b => b
  | .str => 32
  | .blob => 0

/-- A number as the bytes of a type (Table 11.1). -/
def Ty.encode (t : Ty) (v : Int) : List Byte := natLe t.width (ofSigned (8 * t.width) v)
/-- The number that the bytes of a type hold. -/
def Ty.decode (t : Ty) (b : List Byte) : Int :=
  match t with
  | .i w => toSigned (8 * w) (leNat b)
  | _ => (leNat b : Int)

/-- Key of an entry in the engine's store. -/
def entryKey (fam inst mem : Nat) : Nat := (fam * 65536 + inst) * 256 + mem

/-- Default values of the BLOB entries that hold one (MGMT_ADDR, PIDS, ACTIONS, CLASS_MODE, MAX_PACKET, COUNTER_SEL,
TARIFF); every other BLOB is empty by default. -/
def blobDefault (sp : Space) (mem : Nat) : List Byte :=
  match sp with
  | .device => if mem = 0x11 then List.replicate 52 0 else []
  | .encode => if mem = 0x1F then natLe 2 0x1000 ++ natLe 2 0x0100 ++ natLe 2 0x0105 else []
  | .policer => if mem = 0x08 then [0, 0, 0, 0, 2, 0] else []
  | .queues => if mem = 0x05 then List.replicate 32 1 else []
  | .gates => if mem = 0x06 then (List.replicate 16 (natLe 2 9216)).flatten else []
  | .counters => if 0x10 ≤ mem && mem ≤ 0x17 then List.replicate 11 0 else []
  | .gauge => if mem = 0x02 then 1 :: List.replicate 67 0 else []
  | _ => []

/-- The default value of an entry (the tables' Default column; member 00 is PEERS, R290). STREAM and DELIVERY_INDEX of an
outtake and CHANNEL have none: no bytes until they are written. (DESIGN CHOICE, log entry 33.) -/
def entryDefault (key : Nat) : List Byte :=
  let fam := key / 16777216
  let inst := key / 256 % 65536
  let mem := key % 256
  match spaceOf fam inst with
  | none => []
  | some (sp, n) =>
    if mem = 0 then natLe 2 0
    else match sp, mem with
      | .allot, 0x03 => [BitVec.ofNat 8 (if n < 8 then n + 1 else 0)]
      | .allot, 0x08 => natLe 8 (15 * 16 ^ n)
      | .outtake, 0x02 => []
      | .outtake, 0x07 => []
      | .decode, 0x09 => []
      | _, _ =>
        match rowOf sp mem with
        | none => []
        | some r => match r.ty with
          | .blob => blobDefault sp mem
          | .str => List.replicate 32 0
          | t => t.encode r.dflt

/-- The value that the engine holds for an entry (R287). -/
def State.cfg (s : State) (fam inst mem : Nat) : List Byte := tget entryDefault s.alm.store (entryKey fam inst mem)
/-- A number that the engine holds for an entry. -/
def State.cfgN (s : State) (fam inst mem : Nat) : Nat := leNat (s.cfg fam inst mem)
/-- A signed number (I32) that the engine holds for an entry. -/
def State.cfgI (s : State) (fam inst mem : Nat) : Int := toSigned 32 (s.cfgN fam inst mem)
/-- Put a value into the engine's store. -/
def State.setCfg (s : State) (fam inst mem : Nat) (v : List Byte) : State :=
  { s with alm := { s.alm with store := tput entryDefault s.alm.store (entryKey fam inst mem) v } }
/-- Put a number into the engine's store, in `w` bytes. -/
def State.setCfgN (s : State) (fam inst mem w v : Nat) : State := s.setCfg fam inst mem (natLe w v)

/-! ## Owners (R289) -/

/-- Allotment holding every logical port of a field port (E 10.iiii.04). -/
def State.portOwner (s : State) (lp : Nat) : Nat := s.cfgN 0x10 (16 * fpOf lp) 0x04
/-- Allotment holding a VLAN (E 11.vvvv.01). -/
def State.vlanOwner (s : State) (v : Nat) : Nat := s.cfgN 0x11 v 0x01
/-- Allotment holding an intake channel (E 20.cccc.01). -/
def State.intakeOwner (s : State) (c : Nat) : Nat := s.cfgN 0x20 c 0x01
/-- Allotment holding an outtake channel (E 20.1ooo.01). -/
def State.outtakeOwner (s : State) (c : Nat) : Nat := s.cfgN 0x20 (0x1000 + c) 0x01
/-- Lowest-numbered slot that a bed runs, if any (R145, R146). -/
def Bed.firstSlot (b : Bed) : Option Nat := leastOf b.slots
/-- The allotment that owns every slot a bed runs; none when it runs no slot or slots of several owners (R148). -/
def State.bedOwner (s : State) (b : Nat) : Option Nat :=
  match (s.bed b).slots.map (fun n => (s.slot n).owner) with
  | [] => none
  | o :: r => if r.all (fun x => decide (x = o)) then some o else none

/-- The owner of an instance (R289): its OWNER member, or the allotment holding the object it names. -/
def State.ownerOf (s : State) (sp : Space) (n : Nat) : Option Nat :=
  match sp with
  | .lport | .queues | .gates | .ptp => some (s.portOwner n)
  | .vlan => some (s.vlanOwner (n + 1))
  | .intake | .peer => some (s.intakeOwner n)
  | .outtake => some (s.outtakeOwner n)
  | .feed | .encode | .decode | .ladder | .pots | .twin | .hist => some (s.slot n).owner
  | .group => some (s.cfgN 0x22 (0x2000 + n) 0x01)
  | .policer => some (s.cfgN 0x14 n 0x01)
  | .almRec | .allot | .dma | .harvest | .gaugeAllot => some n
  | .gpi => some (s.cfgN 0x51 (0x100 + n) 0x01)
  | .gpo => some (s.cfgN 0x51 (0x200 + n) 0x01)
  | .bed | .soilBed => s.bedOwner n
  | _ => none

/-- Instances that have member 00 PEERS (R290): those with an owner, but for the bed instances. -/
def Space.hasPeers : Space → Bool
  | .lport | .queues | .gates | .ptp | .vlan | .intake | .peer | .outtake | .feed | .encode | .decode | .ladder | .pots
  | .twin | .hist | .group | .policer | .almRec | .allot | .dma | .harvest | .gaugeAllot | .gpi | .gpo => true
  | _ => false

/-- The row of an entry, PEERS included; none when the entry does not exist (R287). Members 01 and 04 of family 10 exist
only at the first logical port of a field port (R70). -/
def entryRow (sp : Space) (n mem : Nat) : Option Row :=
  if mem = 0 then (if sp.hasPeers then some { m0 := 0, m1 := 0, ty := .u 2, acc := 15 } else none)
  else if sp = .lport && (mem = 1 || mem = 4) && n % 16 ≠ 0 then none
  else rowOf sp mem

/-- Rights that allotment `a` has at an instance, as a mask of the access bits (R289). (DEDUCED, log entry 57.) -/
def State.rightsMask (s : State) (a fam inst : Nat) (sp : Space) (n : Nat) : Nat :=
  (if a = 0 then 3 else 0) + (if s.ownerOf sp n = some a then 12 else 0)
    + (if sp.hasPeers && bit (s.cfgN fam inst 0) a then 16 else 0) + 32
/-- A read is allowed (R289). -/
def canRead (acc mask : Nat) : Bool := Nat.land (Nat.land acc mask) 0x35 != 0
/-- A write is allowed (R289). -/
def canWrite (acc mask : Nat) : Bool := Nat.land (Nat.land acc mask) 0x0A != 0

/-! ## Clamps (R302) -/

/-- The value of a list of ranges nearest to a number; a tie goes to the lower one. -/
def nearest (l : List (Int × Int)) (x : Int) : Int :=
  match l with
  | [] => x
  | (lo, hi) :: r =>
    (r.foldl (fun best p => let y := clip x p.1 p.2
                            if (y - x).natAbs < (best - x).natAbs then y else best) (clip x lo hi))
/-- A value in the ranges. -/
def inRanges (l : List (Int × Int)) (x : Int) : Bool := l.isEmpty || l.any (fun p => decide (p.1 ≤ x) && decide (x ≤ p.2))

/-- Characters 0x20 to 0x7E, then zeros (Table 11.1). -/
def isStr32 (b : List Byte) : Bool :=
  decide (b.length = 32) &&
    (b.dropWhile (fun c => decide (0x20 ≤ c.toNat) && decide (c.toNat ≤ 0x7E))).all (fun c => decide (c = 0))

end Sys2Proof.Machine
end

