-- ==== Sys2Proof/Machine/Interrupts.lean ====
section
/-! DEFINITION. Message interrupts (13): owners of sources, raises, offers, claims, completions and the signalling of
host vectors; and the event rings (03), which raise their own sources. -/

namespace Sys2Proof.Machine

/-! ## Sources (R332, R333) -/

/-- Owner of a message interrupt source (Table 13.1); none in a reserved range. -/
def State.sourceOwner (s : State) (n : Nat) : Option Nat :=
  if 0x0100 ≤ n ∧ n ≤ 0x010F then some (n - 0x0100)
  else if 0x0001 ≤ n ∧ n ≤ 0x0FFF then some 0
  else if 0x1000 ≤ n ∧ n ≤ 0x18FF then
    let owners := (s.bed ((n - 0x1000) / 8)).slots.map (fun k => (s.slot k).owner)
    match owners with
    | [] => some 0
    | o :: r => some (if r.all (fun x => decide (x = o)) then o else 0)
  else if 0x2000 ≤ n ∧ n ≤ 0x3FFF then some (s.slot (n - 0x2000)).owner
  else if 0x4000 ≤ n ∧ n ≤ 0x43FF then some ((n - 0x4000) / 64)
  else if 0x4400 ≤ n ∧ n ≤ 0x47FF then some ((n - 0x4400) / 64)
  else if 0x5000 ≤ n ∧ n ≤ 0x57FF then some (s.portOwner ((n - 0x5000) / 2))
  else if 0x5800 ≤ n ∧ n ≤ 0x587F then some 0
  else if 0x6000 ≤ n ∧ n ≤ 0x6FFF then some 0
  else if 0x8000 ≤ n ∧ n ≤ 0xFFFE then some ((n - 0x8000) / 2048)
  else none

/-- Link code of an allotment's binding in force (R314). -/
def State.linkOf (s : State) (a : Nat) : Nat := ((s.allot a).link).getD (if a < 8 then a + 1 else 0)
/-- The allotment bound to a link code. -/
def State.boundTo (s : State) (c : Nat) : Option Nat := (List.range 16).find? (fun a => decide (s.linkOf a = c))
/-- Target of vector `v` on a link code (R334). -/
def targetOf (c v : Nat) : Nat := 32 + 16 * (c - 1) + v
/-- A link code has a window: half 1 of a port appears only when the port is split (R314, R433). -/
def State.hasWindow (s : State) (c : Nat) : Bool :=
  decide (1 ≤ c) && decide (c ≤ 8) && (c % 2 = 1 || s.mod.split.getLsbD ((c - 1) / 2))

/-! ## Offers (R337) -/

/-- Priority 0 or an empty mask leaves a route unrouted (R336). -/
def Route.unrouted (r : Route) : Bool := decide (r.prio = 0) || decide (r.mask = 0)
/-- Running level of host target `t` (R337). -/
def State.running (s : State) (t : Nat) : Nat :=
  s.irq.host.foldl (fun m r => if 2 ≤ r.2.st ∧ r.2.on = t then max m r.2.prio else m) 0
/-- Claims held by host target `t`. -/
def State.depth (s : State) (t : Nat) : Nat := (s.irq.host.filter (fun r => decide (2 ≤ r.2.st) && decide (r.2.on = t))).length
/-- A route is offered to host target `t` (R337). -/
def State.isOffered (s : State) (t : Nat) (r : Route) : Bool :=
  decide (r.st = 1) && decide (r.prio ≠ 0) && bit r.mask (t - 32) &&
    decide ((s.vector t).threshold < r.prio) && decide (s.running t < r.prio)
/-- The source of highest priority offered to host target `t`, of one priority the lowest number (R338). -/
def State.offer (s : State) (t : Nat) : Option Nat :=
  (s.irq.host.foldl (fun (best : Option (Nat × Nat)) r =>
      if s.isOffered t r.2 then
        match best with
        | none => some (r.1, r.2.prio)
        | some b => if b.2 < r.2.prio then some (r.1, r.2.prio) else best
      else best) none).map (·.1)

/-! ## Signalling (R341, R342) -/

/-- Signal host target `t` when a source comes to be offered to it and none was since its last claim; a masked vector sets
its pending bit; with nothing offered the pending bit clears. -/
def State.notify (s : State) (t : Nat) : State :=
  let c := (t - 32) / 16 + 1
  let f := s.func c
  let v := s.vector t
  if !f.enabled then s
  else if (s.offer t).isSome then
    if v.signalled then s
    else if f.funcMask || v.masked then s.modVector t (fun v => { v with signalled := true, pending := true })
    else (s.modVector t (fun v => { v with signalled := true, pending := false })).emit (.msix s.now c ((t - 32) % 16) v.addr v.data)
  else if v.pending then s.modVector t (fun v => { v with pending := false, signalled := false })
  else s
/-- Signal every vector of the functions whose MSI-X is enabled. -/
def State.notifyAll (s : State) : State :=
  s.irq.funcs.foldl (fun s f =>
    if f.2.enabled then (List.range 16).foldl (fun s v => s.notify (targetOf f.1 v)) s else s) s

/-! ## Events of a route (Table 13.2) -/

/-- A raise of one route: coalesced when it is already pending; discarded when it is idle and unrouted. -/
def Route.raised (r : Route) : Route :=
  if r.st = 0 then (if r.unrouted then r else { r with st := 1 })
  else if r.st = 2 then { r with st := 3 } else r

/-- Note a raise in its register cycle, whose raises of one source count as one (R340). -/
def State.noteRaise (s : State) (n : Nat) : State :=
  let c := s.now / 2
  let l := if s.irq.raised.1 = c then s.irq.raised.2 else []
  { s with irq := { s.irq with raised := (c, insertNat n l) } }
/-- The source has been raised in this register cycle already. -/
def State.raisedNow (s : State) (n : Nat) : Bool := decide (s.irq.raised.1 = s.now / 2) && decide (n ∈ s.irq.raised.2)
/-- Raise a source: both routes change, and a discard on the host route counts in UNROUTED of its owner's window, once for
a register cycle (R335, R336, R340). -/
def State.raise (s : State) (n : Nat) : State :=
  match s.sourceOwner n with
  | none => s
  | some o =>
    let h := s.route true n
    let s := if h.st = 0 && h.unrouted && !s.raisedNow n then
        s.modAllot o (fun a => { a with unrouted := saturate 32 (a.unrouted + 1) }) else s
    (((s.noteRaise n).modRoute true n Route.raised).modRoute false n Route.raised).notifyAll

/-- A claim by host target `t` (R338). -/
def State.claimBy (s : State) (t : Nat) : Nat × State :=
  match s.offer t with
  | none =>
    (0xFFFF, (s.modVector t (fun v => { v with spurious := saturate 16 (v.spurious + 1), signalled := false })).notifyAll)
  | some n =>
    (n, ((s.modRoute true n (fun r => { r with st := 2, on := t })).modVector t
          (fun v => { v with signalled := false, pending := false })).notifyAll)

/-- A completion of source `n` by host target `t` (R339). -/
def State.completeBy (s : State) (t n : Nat) : State :=
  let r := s.route true n
  let s := s.modVector t (fun v => { v with signalled := false })
  if r.st = 2 ∧ r.on = t then (s.modRoute true n (fun r => { r with st := 0, on := 0 })).notifyAll
  else if r.st = 3 ∧ r.on = t then (s.modRoute true n (fun r => { r with st := 1, on := 0 })).notifyAll
  else (s.modVector t (fun v => { v with ignored := saturate 16 (v.ignored + 1) })).notifyAll

/-- CLEAR of source `n` on the host route (Table 13.2). -/
def State.clearSource (s : State) (n : Nat) : State :=
  let r := s.route true n
  (if r.st = 1 then s.modRoute true n (fun r => { r with st := 0 })
   else if r.st = 3 then s.modRoute true n (fun r => { r with st := 2 }) else s).notifyAll

/-- The host routes of sources whose owner differs between two states return to reset (R333): `old` before a change of
owners, `s` after it. -/
def State.reowned (s old : State) : State :=
  let host := s.irq.host.filter (fun r => decide (s.sourceOwner r.1 = old.sourceOwner r.1))
  { s with irq := { s.irq with host := host } }

/-! ## Shed targets (R344) -/

/-- Running level of a core pair: its two numbers are one target. -/
def State.shedRunning (s : State) (p : Nat) : Nat :=
  s.irq.shed.foldl (fun m r => if 2 ≤ r.2.st ∧ r.2.on / 2 = p then max m r.2.prio else m) 0
/-- The source offered to a core pair. (DEDUCED, log entry 61.) -/
def State.shedOffer (s : State) (p : Nat) : Option Nat :=
  (s.irq.shed.foldl (fun (best : Option (Nat × Nat)) r =>
      if r.2.st = 1 && (bit r.2.mask (2 * p) || bit r.2.mask (2 * p + 1)) && decide (s.shedRunning p < r.2.prio) then
        match best with
        | none => some (r.1, r.2.prio)
        | some b => if b.2 < r.2.prio then some (r.1, r.2.prio) else best
      else best) none).map (·.1)
/-- Every source active on a pair that restarts returns to PENDING (R344). -/
def State.shedReturn (s : State) (p : Nat) : State :=
  let shed := s.irq.shed.map (fun r =>
    if 2 ≤ r.2.st ∧ r.2.on / 2 = p then (r.1, { r.2 with st := 1, on := 0 }) else r)
  { s with irq := { s.irq with shed := shed } }

/-- A claim by a core pair, whose two cores act as one (R338, R344). (DEDUCED, log entry 98.) -/
def State.shedClaimBy (s : State) (p : Nat) : Nat × State :=
  match s.shedOffer p with
  | none => (0xFFFF, s)
  | some n => (n, s.modRoute false n (fun r => { r with st := 2, on := 2 * p }))
/-- A completion by a core pair (R339, R344). -/
def State.shedCompleteBy (s : State) (p n : Nat) : State :=
  let r := s.route false n
  if r.on / 2 ≠ p then s
  else if r.st = 2 then s.modRoute false n (fun r => { r with st := 0, on := 0 })
  else if r.st = 3 then s.modRoute false n (fun r => { r with st := 1, on := 0 })
  else s

/-- What an allotment reset does to the interrupt view (R343). -/
def State.resetView (s : State) (a : Nat) : State :=
  let c := s.linkOf a
  if c = 0 then s
  else
    let mine := (65535 : Nat) <<< (16 * (c - 1))
    let onWin := fun (t : Nat) => decide (targetOf c 0 ≤ t) && decide (t ≤ targetOf c 15)
    let host := s.irq.host.foldl (fun t r =>
      let q := if decide (2 ≤ r.2.st) && onWin r.2.on then { r.2 with st := 0, on := 0 }
        else if r.2.st = 1 ∧ r.2.mask &&& mine = r.2.mask then { r.2 with st := 0 } else r.2
      tput (fun _ => {}) t r.1 q) s.irq.host
    let s := { s with irq := { s.irq with host := host } }
    ((List.range 16).foldl (fun s v =>
      s.modVector (targetOf c v) (fun x => { x with pending := false, signalled := false })) s).notifyAll

/-! ## Event rings (R89 to R94) -/

/-- Source of a ring's event `k` (R93). -/
def ringSource (a n k : Nat) : Nat := 0x4400 + 4 * (16 * a + n) + k
/-- An event ring entry (Table 03.3). -/
def ringWord (time source kind flags : Nat) (payload : Nat) : RingWord :=
  BitVec.ofNat 256 (time % 2 ^ 64 + 2 ^ 64 * (source % 65536) + 2 ^ 80 * (kind % 256) + 2 ^ 88 * (flags % 256)
    + 2 ^ 96 * payload)
/-- The gap marker of a ring (R90, Table 03.3). -/
def Ring.marker (r : Ring) : RingWord :=
  ringWord r.gapFirst 0 0xFF 0 (r.gapCount % 2 ^ 32 + 2 ^ 32 * (r.gapLast % 2 ^ 64))
/-- COUNT ≥ THRESHOLD. -/
def Ring.atThreshold (r : Ring) : Bool := decide (r.threshold ≤ r.entries.length)
/-- Raise `k` = 0 when the threshold condition became true (R93). -/
def State.ringCheck (s : State) (old : Ring) (a n : Nat) : State :=
  if !old.atThreshold && (s.ring a n).atThreshold then s.raise (ringSource a n 0) else s

/-- An entry arrives at a ring (R90, R94): discarded when the ring is disabled; dropped with a gap when it is full. -/
def State.ringPut (s : State) (a n : Nat) (w : RingWord) : State :=
  let r := s.ring a n
  if !r.enable then s
  else if 4096 ≤ r.entries.length then
    (s.modRing a n (fun r => { r with gap := true, gapCount := saturate 32 (r.gapCount + 1),
                                      gapFirst := if r.gapCount = 0 then s.now else r.gapFirst, gapLast := s.now })).raise
      (ringSource a n 1)
  else (s.modRing a n (fun r => { r with entries := r.entries ++ [w] })).ringCheck r a n

/-- When a slot frees, the gap marker is written before any later entry (R90). -/
def State.ringMark (s : State) (a n : Nat) : State :=
  let r := s.ring a n
  if r.gapCount ≠ 0 ∧ r.entries.length < 4096 then
    (s.modRing a n (fun r => { r with entries := r.entries ++ [r.marker], gapCount := 0,
                                      gapFirst := 0, gapLast := 0 })).ringCheck r a n
  else s

/-- CONSUME (R89, R91): releases the head entry; of an empty ring it sets UNDERRUN. -/
def State.ringConsume (s : State) (a n : Nat) : State :=
  match (s.ring a n).entries with
  | [] => (s.modRing a n (fun r => { r with underrun := true })).raise (ringSource a n 2)
  | e :: rest => (s.modRing a n (fun r => { r with entries := rest, last := e })).ringMark a n

/-- FLUSH: every entry and the pending gap marker are discarded (R91, R94). -/
def State.ringFlush (s : State) (a n : Nat) : State :=
  s.modRing a n (fun r => { r with entries := [], gapCount := 0, gapFirst := 0, gapLast := 0, last := 0 })

/-- STATUS_RESET (R94). -/
def State.ringStatusReset (s : State) (a n : Nat) : State :=
  s.modRing a n (fun r => { r with gap := false, underrun := false })

/-- A read of word 0 of ENTRY: latches all eight words; of an empty ring it sets UNDERRUN (R91, R92). -/
def State.ringRead (s : State) (a n : Nat) : State :=
  match (s.ring a n).entries with
  | [] => (s.modRing a n (fun r => { r with underrun := true, latch := r.last })).raise (ringSource a n 2)
  | e :: _ => s.modRing a n (fun r => { r with latch := e })

/-- Record an event of a producing unit in a ring, stamped with the current time. -/
def State.event (s : State) (a n source kind flags payload : Nat) : State :=
  s.ringPut a n (ringWord s.now source kind flags payload)

end Sys2Proof.Machine
end

