-- ==== Sys2Proof/Machine/FaultRecords.lean ====
section
/-! DEFINITION. The fault collector's records (15): the sources of Table 15.1, their classes, and what a raise records.
The reactions of the classes, which prune, stand in Faults.lean. -/

namespace Sys2Proof.Machine

/-- What Table 15.1 gives a source: default class, legal classes, and whether the class is fixed. -/
structure SourceInfo where
  dflt : Nat
  legal : List Nat
  fixed : Bool := false
  deriving DecidableEq, Repr

def logFixed : SourceInfo := { dflt := 0, legal := [0], fixed := true }
def unitLUD : SourceInfo := { dflt := 2, legal := [0, 2, 3] }
def dieLUD : SourceInfo := { dflt := 3, legal := [0, 2, 3] }

/-- The rows of Table 15.1 and of R368; none for an id that the table does not list (R371). -/
def sourceInfo (id : Nat) : Option SourceInfo :=
  let d := id / 256
  let n := id % 256
  if 4096 ≤ id then none
  else if d < 8 then
    if n < 0x24 || (0x40 ≤ n && n < 0x64) then some unitLUD
    else if n = 0x80 then some { dflt := 0, legal := [0, 2, 3] }
    else if n = 0x81 then some dieLUD
    else if n = 0xF0 then some logFixed else none
  else if d < 10 then
    if n < 64 then
      if n % 16 < 2 then some logFixed else if n % 16 = 2 then some unitLUD else none
    else if n = 0x80 || n = 0x81 then some dieLUD
    else if n = 0xF0 then some logFixed else none
  else if d = 10 then
    if n < 16 then some { dflt := 2, legal := [0, 2] }
    else if (0x20 ≤ n && n ≤ 0x22) || (0x28 ≤ n && n ≤ 0x31) || n = 0xF0 then some logFixed else none
  else if d = 11 then
    if n < 64 then some { dflt := if n % 4 < 2 then 0 else 2, legal := [0, 2] } else none
  else if d = 12 then
    if n < 192 ∧ n % 16 < 5 then some { dflt := if n % 16 < 3 then 0 else 2, legal := [0, 2] } else none
  else if d = 13 then
    if n < 2 then some { dflt := 1, legal := [0, 1, 2] }
    else if n < 4 then some logFixed
    else if n = 4 then some { dflt := 0, legal := [0, 1] }
    else if 0x10 ≤ n ∧ n < 0x80 then some { dflt := 2, legal := [0, 1, 2] }
    else if n = 0x80 then some { dflt := 1, legal := [0, 1] }
    else if n = 0xF0 then some logFixed else none
  else if d = 14 then
    if n = 0 then some { dflt := 1, legal := [1], fixed := true }
    else if n < 5 then some { dflt := 0, legal := [0, 1] } else none
  else if n < 208 then
    if n % 16 = 1 then some (if n / 16 < 10 then { dflt := 3, legal := [3], fixed := true } else logFixed)
    else if n % 16 = 0 || n % 16 = 2 then some logFixed
    else if n % 16 = 3 then some { dflt := 0, legal := [0] } else none
  else none

/-- LIVE: the cause is present or the source is forced (R370). -/
def Source.live (x : Source) : Bool := x.cause || x.force
/-- The class in force of a source (R372). -/
def State.classOf (s : State) (id : Nat) : Nat :=
  match (s.source id).cls with
  | some c => c
  | none => match sourceInfo id with
    | some i => i.dflt
    | none => 0
/-- A class code clamped to the nearest legal one; a tie goes to the lower code (R372). -/
def clampClass (i : SourceInfo) (c : Nat) : Nat :=
  (nearest (i.legal.map (fun (x : Nat) => ((x : Int), (x : Int)))) (c : Int)).toNat

/-- A raise loads a first-error record: in collector cycle `c`. -/
def ErrRec.load (r : ErrRec) (id time c : Nat) (traceable forced : Bool) : ErrRec :=
  { r with source := id, valid := true, forced := forced, timeValid := traceable, time := time, cycle := c }
/-- Offer a raise to a first-error record in collector cycle `c`: an empty one latches it, a valid one notes an overflow. Of
several raises in one cycle it keeps the lowest source, and a raise comes before the sources that CLEAR offers again in the
next cycle (R376, R377). -/
def ErrRec.offer (r : ErrRec) (id time c : Nat) (traceable forced : Bool) : ErrRec :=
  if !r.valid then r.load id time c traceable forced
  else
    let first := decide (r.cycle = c + 1) || (decide (r.cycle = c) && decide (id < r.source))
    { (if first then r.load id time c traceable forced else r) with overflow := true }
/-- Count a raise in the record's scope. -/
def ErrRec.count (r : ErrRec) : ErrRec := { r with raises := inc64 r.raises }

/-- What every raise records (R370): COUNT, the first-error records of the domain and the device, the interrupt source.
The collector records from power-up step 3 (R489). -/
def State.recordRaise (s : State) (id : Nat) (forced : Bool := false) : State :=
  if !s.flt.recording || (sourceInfo id).isNone then s
  else
    let s := s.modSource id (fun x => { x with count := inc64 x.count })
    let s := s.modErrRec (id / 256) (fun r => (r.count).offer id s.now (s.now / 2) s.traceable forced)
    let s := s.modErrRec 16 (fun r => (r.count).offer id s.now (s.now / 2) s.traceable forced)
    s.raise (0x6000 + id)

/-- A cause of a log-class source that comes and goes: one rising edge of LIVE, unless it is LIVE already (R370). -/
def State.logFault (s : State) (id : Nat) : State :=
  if (s.source id).live then s else s.recordRaise id

end Sys2Proof.Machine
end

