-- ==== Sys2Proof/Machine/Cells.lean ====
section
/-! DEFINITION. The cell stores (03): the admission test, chains and their reference counts, deep cells and the Vergel
pools; and the latency histograms (17) that queued copies feed. -/

namespace Sys2Proof.Machine

/-- Cells of a frame of `n` bytes (R72). -/
def cellsOf (n : Nat) : Nat := ceilDiv n 256
/-- Deep cells of a frame (R79). -/
def deepOf (n : Nat) : Nat := ceilDiv n 4096

/-- Cells of a buffer of each pool (Table 03.2). -/
def poolCells (p : Nat) : Nat := [8, 16, 36, 64].getD p 64
/-- A pool's buffers take a frame of `n` bytes (Table 03.2); those of pool 3 take any frame. -/
def poolTakes (p n : Nat) : Bool :=
  match [1984, 4032, 9152][p]? with
  | some most => decide (n ≤ most)
  | none => true

/-- Cells carved into pool buffers. -/
def CellStore.carved (c : CellStore) : Nat :=
  (List.range 4).foldl (fun n p => n + (c.pool p).have_ * poolCells p) 0
/-- Sum of every allotment's RESERVE. -/
def CellStore.reserved (c : CellStore) : Nat := (List.range 16).foldl (fun n a => n + (c.rec_ a).reserve) 0
/-- The shared area (R73). -/
def CellStore.sharedArea (c : CellStore) : Int :=
  (786432 : Int) - c.carved - c.crossLimit - c.reserved
/-- Cells of an allotment's crossing chains on a die. -/
def State.crossingOf (s : State) (die a : Nat) : Nat :=
  s.egr.chains.foldl (fun n e => if e.2.die = die ∧ e.2.crossing ∧ e.2.allot = a then n + e.2.cells else n) 0
/-- Free cells of the shared area (R74): chains that do not cross fill their allotment's RESERVE first (DESIGN CHOICE, log entry 21). -/
def State.sharedFree (s : State) (die : Nat) : Int :=
  let c := s.cells die
  c.sharedArea - (List.range 16).foldl (fun n a =>
    n + ((c.rec_ a).used - s.crossingOf die a - (c.rec_ a).reserve)) 0

/-- The admission test of R74 for `n` cells of allotment `a`. (DESIGN CHOICE, log entry 21.) -/
def State.cellsFit (s : State) (die a n : Nat) (crossing : Bool) : Bool :=
  let c := s.cells die
  let r := c.rec_ a
  decide (r.used + n ≤ r.cap) && (decide (r.used + n ≤ r.reserve) || decide ((n : Int) ≤ s.sharedFree die)) &&
    decide (n ≤ c.free) && (!crossing || decide (c.crossUsed + n ≤ c.crossLimit))

/-! ## Chains (R72, R76 to R78) -/

/-- Store a frame as a chain with the walk's reference (R73, R76); answers its name. (DESIGN CHOICE, log entry 21.).
(DEDUCED, log entry 35.) -/
def State.newChain (s : State) (die a n : Nat) (crossing : Bool) : Nat × State :=
  let k := s.egr.nextChain
  let s := s.modCells die (fun c =>
    { c.modRec a (fun r => { r with used := r.used + n }) with
      free := c.free - n
      crossUsed := if crossing then c.crossUsed + n else c.crossUsed })
  let s := s.setChain k { die := die, cells := n, refs := 1, allot := a, crossing := crossing }
  (k, { s with egr := { s.egr with nextChain := k + 1 } })

/-- Carve pool buffers from free shared cells, and give back free buffers above TARGET; the Shed does it (R85, R320). -/
def State.carve (s : State) (die : Nat) : State :=
  if !s.shedLive then s
  else (List.range 4).foldl (fun s p =>
    let c := s.cells die
    let q := c.pool p
    let n := poolCells p
    if q.target < q.have_ then
      let k := min (q.have_ - q.target) q.free
      s.modCells die (fun c =>
        { c.modPool p (fun q => { q with have_ := q.have_ - k, free := q.free - k }) with free := c.free + k * n })
    else
      let k := min (q.target - q.have_) (min ((s.sharedFree die).toNat / n) (c.free / n))
      s.modCells die (fun c =>
        { c.modPool p (fun q => { q with have_ := q.have_ + k, free := q.free + k }) with free := c.free - k * n })) s

/-- Every cell of a chain whose count reaches zero is free; cells that failed a read are retired (R76, R78). -/
def State.freeChain (s : State) (k : Nat) : State :=
  let h := s.chain k
  let s := s.modCells h.die (fun c =>
    { c.modRec h.allot (fun r => { r with used := r.used - h.cells }) with
      free := c.free + (h.cells - h.broken)
      retired := c.retired + h.broken
      crossUsed := if h.crossing then c.crossUsed - h.cells else c.crossUsed })
  (s.setChain k {}).carve h.die

/-- One more reference (Table 03.1); the count has 16 bits. -/
def State.addRef (s : State) (k : Nat) : State :=
  let h := s.chain k
  if h.refs = 0 then s else s.setChain k { h with refs := (h.refs + 1) % 65536 }
/-- One reference fewer (Table 03.1); at zero the chain is free. -/
def State.dropRef (s : State) (k : Nat) : State :=
  let h := s.chain k
  if h.refs = 0 then s
  else if h.refs = 1 then s.freeChain k
  else s.setChain k { h with refs := h.refs - 1 }
/-- A cell of the chain has given an uncorrectable read and is retired when the chain is freed (R78). The other copies of
the chain meet the same cell, so that a chain has one such cell at most (DESIGN CHOICE, log entry 110). -/
def State.breakCell (s : State) (k : Nat) : State :=
  let h := s.chain k
  if h.refs = 0 then s else s.setChain k { h with broken := min h.cells 1 }
/-- A die is reset: the cells that were retired are used again (R78). -/
def State.restoreCells (s : State) (die : Nat) : State :=
  s.modCells die (fun c => { c with free := c.free + c.retired, retired := 0 })

/-! ## Deep cells (R79 to R81, R360) -/

/-- Bytes of deep-cell traffic a die may have in 1 µs: DEEP_SHARE of the rate of its two stacks (R360). -/
def State.deepLimit (s : State) (die : Nat) : Nat :=
  let rate := fun d => if (s.stack d).active = 1 then 1000000 else 2000000
  s.cfgN 0x30 (0x100 + die) 0x01 * (rate (8 + 2 * die) + rate (9 + 2 * die)) / 100
/-- A copy of `n` bytes may move to deep cells (R81). -/
def State.deepFits (s : State) (die a n : Nat) : Bool :=
  let c := s.cells die
  let k := deepOf n
  decide (k ≤ c.deepFree) && decide ((c.rec_ a).deepUsed + k ≤ (c.rec_ a).deepCap) &&
    decide (c.deepMeter < s.deepLimit die)
/-- Take the deep cells of a copy; its write is metered (R80, R360). -/
def State.takeDeep (s : State) (die a n : Nat) : State :=
  s.modCells die (fun c =>
    { c.modRec a (fun r => { r with deepUsed := r.deepUsed + deepOf n }) with
      deepFree := c.deepFree - deepOf n
      deepMeter := c.deepMeter + n })
/-- Give back the deep cells of a copy that left or was dropped (R79); a cell that failed is retired (R355, R78). -/
def State.giveDeep (s : State) (die a n : Nat) (failed : Bool := false) : State :=
  s.modCells die (fun c =>
    { c.modRec a (fun r => { r with deepUsed := r.deepUsed - deepOf n }) with
      deepFree := c.deepFree + (deepOf n - b2n failed)
      deepRetired := c.deepRetired + b2n failed })
/-- The read of a deep copy that leaves counts against the share (R360). -/
def State.meterDeep (s : State) (die n : Nat) : State :=
  s.modCells die (fun c => { c with deepMeter := c.deepMeter + n })

/-! ## Vergel pools (R83, R84) -/

/-- The pool a copy of `n` bytes takes a buffer from, and whether that is a fall-back (R84). -/
def CellStore.pickPool (c : CellStore) (n : Nat) : Option (Nat × Bool) :=
  let fit := (List.range 4).filter (fun p => poolTakes p n)
  match fit.find? (fun p => decide (0 < (c.pool p).free)) with
  | none => none
  | some p => some (p, decide (fit.head? ≠ some p))
/-- Take a buffer of a pool. -/
def State.takeBuffer (s : State) (die p : Nat) : State :=
  s.modCells die (fun c => c.modPool p (fun q => { q with free := q.free - 1 }))
/-- Free a buffer of a pool; a pool above its TARGET gives it back (R85). -/
def State.giveBuffer (s : State) (die p : Nat) : State :=
  (s.modCells die (fun c => c.modPool p (fun q => { q with free := q.free + 1 }))).carve die

/-- A buffer with a cell that failed its read leaves its pool: the cell is retired and the others are free (R78). -/
def State.breakBuffer (s : State) (die p : Nat) : State :=
  (s.modCells die (fun c =>
    { c.modPool p (fun q => { q with have_ := q.have_ - 1 }) with
      free := c.free + (poolCells p - 1)
      retired := c.retired + 1 })).carve die

/-- Release what a copy holds: a chain reference, deep cells or a pool buffer (Table 03.1). -/
def State.releaseCopy (s : State) (die loc arg allot chain n : Nat) : State :=
  if loc = 0 then s.dropRef chain
  else if loc = 1 then s.giveDeep die allot n
  else s.giveBuffer die arg

/-! ## Stack error logs (R354) -/

/-- Append an entry to a stack's error log (Table 14.3); a full log drops the newest and counts it. -/
def State.logStack (s : State) (d kind requester address : Nat) (syndrome : BitVec 32) : State :=
  let e := natLe 8 s.now ++ natLe 1 d ++ natLe 1 kind ++ natLe 2 requester ++ natLe 4 syndrome.toNat
    ++ natLe 8 (address % 2 ^ 36) ++ List.replicate 8 0
  s.modStack d (fun k => if k.log.length < 1024 then { k with log := k.log ++ [e] }
                         else { k with logLost := inc64 k.logLost })

/-! ## Latency histograms (R409) -/

/-- The exponent of a number: floor of its log2 (R165, R409). -/
def log2e (v : Nat) : Nat := v.log2
/-- The bin of a sample (R409). -/
def histBin (v : Nat) : Nat :=
  if v = 0 then 0
  else
    let e := log2e v
    let f := if 2 ≤ e then v / 2 ^ (e - 2) % 4 else v * 2 ^ (2 - e) % 4
    (clip (4 * ((e : Int) - 10) + f) 0 63).toNat
/-- Add a sample to a histogram (R409). (DEDUCED, log entry 42.) -/
def Hist.add (h : Hist) (v : Nat) : Hist :=
  let b := histBin v
  { bins := tput (fun _ => 0) h.bins b (saturate 32 (tget (fun _ => 0) h.bins b + 1))
    sum := add64 h.sum v
    max := Nat.max h.max v }
/-- A CODING sample of a stream (Table 17.3). -/
def State.sampleCoding (s : State) (slot v : Nat) : State :=
  s.modSlot slot (fun x => { x with coding := x.coding.add v })
/-- A RESIDENCE sample of a stream (Table 17.3). -/
def State.sampleResidence (s : State) (slot v : Nat) : State :=
  s.modSlot slot (fun x => { x with residence := x.residence.add v })

end Sys2Proof.Machine
end

