-- ==== Sys2Proof/Machine/Egress.lean ====
section
/-! DEFINITION. Egress (10): policers, gates and their windows, shapers, the enqueue of a copy and the choice of the next
frame of a logical port. -/

namespace Sys2Proof.Machine

/-- Breakout of a field port: 2^code logical ports (Table 02.1). -/
def State.breakoutOf (s : State) (fp : Nat) : Nat := s.cfgN 0x10 (16 * fp) 0x01
/-- The logical port is in use under its field port's breakout (R3). -/
def State.inUse (s : State) (lp : Nat) : Bool := decide (lp % 16 < 2 ^ s.breakoutOf (fpOf lp))
/-- Count on a logical port; the counters of a port not in use are held at zero (R3). -/
def State.countPort (s : State) (lp : Nat) (f : PortCounts → PortCounts) : State :=
  if s.inUse lp then s.modPort lp (fun p => { p with cnt := f p.cnt }) else s
/-- Count on a queue; the counters of a port not in use are held at zero (R3). -/
def State.countQueue (s : State) (q : Nat) (f : Queue → Queue) : State :=
  if s.inUse (lpOfQueue q) then s.modQueue q f else s
/-- Count on a group of queues, key 16 × lp + group; the counters of a port not in use are held at zero (R3). -/
def State.countGroup (s : State) (k : Nat) (f : QGroup → QGroup) : State :=
  if s.inUse (k / 16) then s.modQGroup k f else s
/-- Rate of a logical port in Gb/s, that is bits for each nanosecond (Table 02.1). -/
def State.portRate (s : State) (lp : Nat) : Nat := 1600 / 2 ^ s.breakoutOf (fpOf lp)

/-! ## Policers (R272 to R274) -/

/-- Colours of a three-colour marker. -/
inductive Colour where
  | green | yellow | red
  deriving DecidableEq, Repr

/-- Units a bucket holds for one packet: 1/65,536 packet, by 10^9 so that additions in nanoseconds are exact
(DEDUCED, log entry 22). -/
def packetUnits : Nat := 65536000000000
/-- Pre-colour of a packet by its DSCP (R274). -/
def preColour (dscp : BitVec 6) : Colour :=
  let x := dscp.toNat / 8
  let y := dscp.toNat % 8
  if 1 ≤ x ∧ x ≤ 4 then (if y = 4 then .yellow else if y = 6 then .red else .green) else .green

/-- Refill a policer's buckets at `now` (R273). -/
def Policer.refill (p : Policer) (trtcm : Bool) (cir cbs pir ebs now : Nat) : Policer :=
  let dt := now - p.lastT
  let c := p.c + cir * 65536 * dt
  let cMax := cbs * packetUnits
  let e := if trtcm then p.e + pir * 65536 * dt else p.e + (c - cMax)
  { p with c := min c cMax, e := min e (ebs * packetUnits), lastT := now }

/-- Colour one packet as the IETF markers define (R273). -/
def Policer.colour (p : Policer) (trtcm : Bool) (pre : Colour) : Colour × Policer :=
  let hasC := decide (packetUnits ≤ p.c)
  let hasE := decide (packetUnits ≤ p.e)
  let takeC := fun (q : Policer) => { q with c := q.c - packetUnits }
  let takeE := fun (q : Policer) => { q with e := q.e - packetUnits }
  if trtcm then
    if pre = .red || !hasE then (.red, p)
    else if pre = .yellow || !hasC then (.yellow, takeE p)
    else (.green, takeE (takeC p))
  else
    if pre = .green && hasC then (.green, takeC p)
    else if pre ≠ .red && hasE then (.yellow, takeE p)
    else (.red, p)

/-- What a policer does with a frame: the frame to send on, or none when it is dropped (R274). `n` is die × 32,768 +
policer. (DEDUCED, log entry 22.) -/
def State.police (s : State) (n : Nat) (f : Frame) : Option Frame × State :=
  let tr := decide (s.cfgN 0x14 n 0x02 = 1)
  let pre := if s.cfgN 0x14 n 0x03 = 1 then preColour f.dscp else .green
  let p := (s.policer n).refill tr (s.cfgN 0x14 n 0x04) (s.cfgN 0x14 n 0x05) (s.cfgN 0x14 n 0x06) (s.cfgN 0x14 n 0x07) s.now
  let (col, p) := p.colour tr pre
  let i := match col with
    | .green => 0
    | .yellow => 1
    | .red => 2
  let p := match col with
    | .green => { p with green := inc64 p.green }
    | .yellow => { p with yellow := inc64 p.yellow }
    | .red => { p with red := inc64 p.red }
  let s := s.modPolicer n (fun _ => p)
  let act := s.cfg 0x14 n 0x08
  let a := (act.getD (2 * i) 0).toNat
  if a = 2 then (none, s)
  else if a = 1 then (some { f with dscp := ((act.getD (2 * i + 1) 0).setWidth 6) }, s)
  else (some f, s)

/-! ## Gates (R280 to R284) -/

/-- Start of cycle `n` of a schedule (R280). -/
def Schedule.start (g : Schedule) (n : Int) : Int := g.base + n * (g.num * 1000000000 : Nat) / (g.den : Int)
/-- The cycle that a time lies in: the greatest `n` whose start is not after it. -/
def Schedule.cycleAt (g : Schedule) (t : Int) : Int :=
  ((t - g.base + 1) * (g.den : Int) - 1) / ((g.num * 1000000000 : Nat) : Int)

/-- The entry in force `off` ns into a cycle of `len` ns: its number, its gates, and the ns until it ends; the last entry
runs to the end of the cycle, and entries that the cycle's end cuts off do not run (R281). -/
def entryAt (len : Nat) : Nat → Nat → List (Nat × Nat) → Nat → Nat × Nat × Nat
  | i, _, [], _ => (i, 0xFFFF, 0)
  | i, acc, (g, d) :: r, off =>
    if off < acc + d ∨ r.isEmpty then
      (i, g, (if r.isEmpty then len else min (acc + d) len) - off)
    else entryAt len (i + 1) (acc + d) r off

/-- Entry, gates, end of the entry in ns from `t`, of a schedule at a time (R280, R281). -/
def Schedule.at (g : Schedule) (t : Int) : Nat × Nat × Nat :=
  let n := g.cycleAt t
  let st := g.start n
  entryAt (g.start (n + 1) - st).toNat 0 0 g.list (t - st).toNat

/-- Nanoseconds from `t` for which class `c` stays open, counted no further than `cap` (R283). -/
def Schedule.openFor (g : Schedule) (c : Nat) : Nat → Int → Nat → Nat → Nat
  | 0, _, acc, _ => acc
  | fuel + 1, t, acc, cap =>
    if cap ≤ acc then acc
    else
      let (_, gates, rest) := g.at t
      if bit gates c && rest ≠ 0 then g.openFor c fuel (t + rest) (acc + rest) cap else acc

/-- Lengths of the spans of a cyclic list of (open, length) in which the gate is open; spans that meet across the end of
the cycle are one. A list that is open throughout gives one span of twice the cycle's length and more. -/
def spans (l : List (Bool × Nat)) : List Nat :=
  let total := l.foldl (fun n p => n + p.2) 0
  if l.all (·.1) then [1000000000 * (total + 1)]
  else
    -- start after a closed entry, so that no span crosses the list's end
    let rot := (l.dropWhile (·.1)) ++ (l.takeWhile (·.1))
    (rot.foldl (fun (acc : List Nat × Nat) p =>
      if p.1 then (acc.1, acc.2 + p.2) else (if acc.2 = 0 then acc.1 else acc.1 ++ [acc.2], 0)) ([], 0)) |>
      fun acc => if acc.2 = 0 then acc.1 else acc.1 ++ [acc.2]

/-- The entries that run in a cycle of `len` ns, with the ns each runs (R281). -/
def runEntries (len : Nat) : Nat → List (Nat × Nat) → List (Nat × Nat)
  | _, [] => []
  | acc, (g, d) :: r =>
    if len ≤ acc then []
    else if r.isEmpty then [(g, len - acc)]
    else (g, min d (len - acc)) :: runEntries len (acc + d) r
/-- The longest window of a class, in a cycle of ceil(NUM × 10^9 / DEN) ns; 0 when it has none (R284). -/
def Schedule.longest (g : Schedule) (c : Nat) : Nat :=
  let len := ceilDiv (g.num * 1000000000) g.den
  (spans ((runEntries len 0 g.list).map (fun e => (bit e.1 c, e.2)))).foldl Nat.max 0

/-- Gating is on for a logical port (E 13.llll.01). -/
def State.gating (s : State) (lp : Nat) : Bool := decide (s.cfgN 0x13 lp 0x01 = 1)
/-- MAX_PACKET of a class (E 13.llll.06). -/
def State.maxPacket (s : State) (lp c : Nat) : Nat := fieldAt (s.cfg 0x13 lp 0x06) (2 * c) 2

/-- A frame of `n` bytes in class `c` may start now under the port's gates (R284). -/
def State.gatePasses (s : State) (lp c n : Nat) : Bool :=
  if !s.gating lp then true
  else
    let g := (s.gate lp).active
    let rate := s.portRate lp
    let need := (n + 20) * 8
    let guard := (s.maxPacket lp c + 20) * 8
    let cap := Nat.max need guard / rate + 2
    let left := g.openFor c (cap + 1) s.now 0 cap
    decide (0 < left) &&
      ((decide (guard < left * rate) && decide (n ≤ s.maxPacket lp c)) || decide (need ≤ left * rate))
/-- The transmission of a frame of `n` bytes exceeds every window of its class (R284). -/
def State.gateNever (s : State) (lp c n : Nat) : Bool :=
  s.gating lp && decide ((s.gate lp).active.longest c * s.portRate lp < (n + 20) * 8)

/-- First cycle start of the pending schedule at least 1 ms after the last write was acknowledged (R282). -/
def Gate.changeTime (g : Gate) : Nat :=
  let n := g.pending.cycleAt (g.lastWrite + 999999)
  (g.pending.start (n + 1)).toNat

/-- The entry and the gate bits in force at a PTP time; every gate is open while gating is off (R280, R281). -/
def State.gatesAt (s : State) (lp : Nat) (t : Int) : State :=
  let on := s.gating lp
  s.modGate lp (fun g =>
    let e := g.active.at t
    if on then { g with entry := e.1, gates := BitVec.ofNat 16 e.2.1 } else { g with entry := 0, gates := 0xFFFF })

/-! ## Queues -/

/-- Queue number (R2). -/
def queueNo (lp groupClass : Nat) : Nat := 256 * lp + groupClass
/-- On-die cells that a queue's packets hold, by the chains they lie in (R80). -/
def State.onDie (s : State) (q : Nat) : Nat :=
  (s.queue q).pkts.foldl (fun n p => if p.loc = 0 then n + (s.chain p.chain).cells else n) 0
/-- Every queue of a group is empty. -/
def State.groupEmpty (s : State) (lp g : Nat) : Bool :=
  (List.range 16).all (fun c => (s.queue (queueNo lp (16 * g + c))).pkts.isEmpty)
/-- Tokens with which a bucket starts when a packet arrives at an empty queue (R270). -/
def Shaper.first (p : Shaper) : Nat := min p.refill p.depth
/-- Class mode of a class of a port (E 12.llll.05): strict, weight. -/
def State.classMode (s : State) (lp c : Nat) : Bool × Nat :=
  let b := s.cfg 0x12 lp 0x05
  (decide ((b.getD (2 * c) 1) = 1), (b.getD (2 * c + 1) 1).toNat)
/-- A class is a media class of the port (R267). -/
def State.isMedia (s : State) (lp c : Nat) : Bool := bit (s.cfgN 0x12 lp 0x01) c
/-- A class is paused on a port (R38, R267). -/
def State.isPaused (s : State) (lp c : Nat) : Bool :=
  !s.isMedia lp c && (s.port lp).paused.any (fun p => decide (p.1 = c) && decide (s.now < p.2))
/-- A paced packet is late (R278). -/
def QPkt.late (p : QPkt) (now : Nat) : Bool :=
  match p.pace with
  | none => false
  | some (ts, _, den, _) => decide (ts / den < now)
/-- A packet may leave by its pacing (R277); times are exact, rounded down to the nanosecond (R493). -/
def QPkt.eligible (p : QPkt) (now : Nat) : Bool :=
  match p.pace with
  | none => true
  | some (ts, sp, den, cmax) => decide ((ts - (cmax - 1) * sp) / den ≤ now)
/-- The queue is catching up: its head packet is late (R278). -/
def State.catching (s : State) (q : Nat) : Bool :=
  match (s.queue q).pkts with
  | [] => false
  | p :: _ => p.late s.now

/-- Every packet of a queue came at this very instant: with the last older one gone, the queue counts as having become
empty and active again (R270; one instant stands for one clock: DEDUCED, log entry 116). -/
def Queue.renewed (x : Queue) (now : Nat) : Bool := x.pkts.all (fun p => decide (p.enq = now))
/-- Every queue of a group is empty, or active again in this clock (R270). -/
def State.groupRenewed (s : State) (lp g : Nat) : Bool :=
  (List.range 16).all (fun c => (s.queue (queueNo lp (16 * g + c))).renewed s.now)
/-- Remove the head packet of a queue; a queue or group that becomes empty loses its tokens, and starts anew when a packet
has come in the same clock (R270). -/
def State.takeHead (s : State) (q : Nat) : State :=
  let lp := lpOfQueue q
  let g := q / 16 % 16
  let old := (s.queue q).pkts.head?.any (fun p => decide (p.enq ≠ s.now))
  let s := s.modQueue q (fun x =>
    let r := x.pkts.drop 1
    { x with pkts := r, waitCounted := false,
             tokens := if r.isEmpty then 0 else if old && { x with pkts := r }.renewed s.now then x.shaper.first
               else x.tokens })
  if s.groupEmpty lp g then s.modQGroup (16 * lp + g) (fun x => { x with tokens := 0 })
  else if old && s.groupRenewed lp g then s.modQGroup (16 * lp + g) (fun x => { x with tokens := x.shaper.first })
  else s

/-- Drop head frames whose transmission exceeds every window of their class (R284); `fuel` bounds the packets. -/
def State.gateTrim (s : State) (q : Nat) : Nat → State
  | 0 => s
  | fuel + 1 =>
    let lp := lpOfQueue q
    match (s.queue q).pkts with
    | [] => s
    | p :: _ =>
      if s.gateNever lp (q % 16) p.f.len then
        let s := (s.takeHead q).countQueue q (fun x => { x with dropGate := inc64 x.dropGate })
        (s.releaseCopy (dieOf lp) p.loc p.arg p.allot p.chain p.f.len).gateTrim q fuel
      else s
/-- Apply the gate drop to a queue's head. (DEDUCED, log entry 55.) -/
def State.trimHead (s : State) (q : Nat) : State := s.gateTrim q ((s.queue q).pkts.length + 1)

/-- Count a copy dropped at a queue (R268). -/
def State.dropFull (s : State) (q : Nat) : State := s.countQueue q (fun x => { x with dropFull := inc64 x.dropFull })

/-- Put a copy at the tail of its queue; a bucket whose queue or group was empty starts anew (R270). -/
def State.putTail (s : State) (q : Nat) (p : QPkt) : State :=
  let lp := lpOfQueue q
  let g := q / 16 % 16
  let s := if s.groupEmpty lp g then s.modQGroup (16 * lp + g) (fun x => { x with tokens := x.shaper.first }) else s
  let s := s.modQueue q (fun x =>
    { x with pkts := x.pkts ++ [p], tokens := if x.pkts.isEmpty then x.shaper.first else x.tokens })
  s.trimHead q

/-- Enqueue a copy that holds a reference on its chain (R59, R80, R81, R83, R84, R268, R272): dropped while the queue is
disabled or full, measured by its EPOLICER, moved to a pool buffer or to deep cells, or kept on-die. `ingress` is the
allotment whose cells it holds. The copy is edited when it is enqueued, so that pool buffers and deep cells are sized by
the edited frame (DESIGN CHOICE, log entry 109). -/
def State.enqueue (s : State) (q : Nat) (p : QPkt) (ingress : Nat) : State :=
  let lp := lpOfQueue q
  let die := dieOf lp
  let x := s.queue q
  if !x.enabled || decide (x.limit ≤ x.pkts.length) then (s.dropFull q).dropRef p.chain
  else
    let (res, s) := if x.epolicer = 0xFFFF then (some p.f, s) else s.police (32768 * die + x.epolicer) p.f
    match res with
    | none => (s.countQueue q (fun x => { x with dropPolice := inc64 x.dropPolice })).dropRef p.chain
    | some f =>
      let p := { p with f := f, enq := s.now }
      if (s.cells die).pooled (s.portOwner lp) then
        match (s.cells die).pickPool f.len with
        | none => (s.countPort lp (fun c => { c with poolDrops := inc64 c.poolDrops })).dropRef p.chain
        | some (k, back) =>
          let s := if back then s.countPort lp (fun c => { c with poolFallbacks := inc64 c.poolFallbacks }) else s
          ((s.takeBuffer die k).putTail q { p with loc := 2, arg := k }).dropRef p.chain
      else if x.deep && decide (128 < s.onDie q) && s.deepFits die ingress f.len then
        ((s.takeDeep die ingress f.len).putTail q { p with loc := 1, allot := ingress }).dropRef p.chain
      else s.putTail q { p with loc := 0, allot := ingress }

/-! ## The choice of the next frame (R266) -/

/-- The tests of Table 10.1 on the head packet of a queue, but for the gate. -/
def State.headReady (s : State) (q : Nat) : Bool :=
  let lp := lpOfQueue q
  let x := s.queue q
  let g := s.qgroup (16 * lp + q / 16 % 16)
  match x.pkts with
  | [] => false
  | p :: _ =>
    !s.isPaused lp (q % 16) && p.eligible s.now &&
      (!x.shaper.shape || decide (1 ≤ x.tokens) || p.late s.now) &&
      (!g.shaper.shape || decide (1 ≤ g.tokens))
/-- The head packet passes every test of Table 10.1. -/
def State.candidate (s : State) (q : Nat) : Bool :=
  s.headReady q && (match (s.queue q).pkts with
    | [] => false
    | p :: _ => s.gatePasses (lpOfQueue q) (q % 16) p.f.len)

/-- Packet-weighted round robin over members 0 to `n` − 1: whose turn it is and what is left of it (0 for a turn not
begun). Answers the member that sends and the turn after it. -/
def wrr (n : Nat) (cand : Nat → Bool) (weight : Nat → Nat) (turn : Nat × Nat) : Option (Nat × (Nat × Nat)) :=
  let order := (List.range n).map (fun k => (turn.1 + k) % n)
  match order.find? cand with
  | none => none
  | some m =>
    let left := if m = turn.1 ∧ turn.2 ≠ 0 then turn.2 else Nat.max (weight m) 1
    some (m, if left ≤ 1 then ((m + 1) % n, 0) else (m, left - 1))

/-- The queue that the port sends from next, and the port's turns after it (R266). (DEDUCED, log entry 55.) -/
def State.choose (s : State) (lp : Nat) : Option (Nat × Port) :=
  let p := s.port lp
  let q := fun k => queueNo lp k
  match wrr 256 (fun k => s.candidate (q k) && s.catching (q k)) (fun _ => 1) (p.rrCatch, 0) with
  | some (k, t) => some (q k, { p with rrCatch := t.1 })
  | none =>
    let has := fun g => (List.range 16).any (fun c => s.candidate (q (16 * g + c)))
    let prio := fun g => (s.qgroup (16 * lp + g)).prio
    match [3, 2, 1, 0].find? (fun l => (List.range 16).any (fun g => decide (prio g = l) && has g)) with
    | none => none
    | some l =>
      match wrr 16 (fun g => decide (prio g = l) && has g) (fun g => (s.qgroup (16 * lp + g)).weight)
          (p.rrGroup.getD l (0, 0)) with
      | none => none
      | some (g, tg) =>
        let p := { p with rrGroup := p.rrGroup.set l tg }
        match (List.range 16).reverse.find? (fun c => (s.classMode lp c).1 && s.candidate (q (16 * g + c))) with
        | some c => some (q (16 * g + c), p)
        | none =>
          match wrr 16 (fun c => !(s.classMode lp c).1 && s.candidate (q (16 * g + c)))
              (fun c => (s.classMode lp c).2) (tget (fun _ => (0, 0)) p.rrClass g) with
          | none => none
          | some (c, tc) => some (q (16 * g + c), { p with rrClass := tput (fun _ => (0, 0)) p.rrClass g tc })

/-- Count a gate wait for each head frame of the port that only its gate holds, once for each frame (R284). -/
def State.countWaits (s : State) (lp : Nat) : State :=
  (List.range 256).foldl (fun s k =>
    let q := queueNo lp k
    let x := s.queue q
    if x.pkts.isEmpty || x.waitCounted then s
    else if s.headReady q && !s.candidate q then
      s.countQueue q (fun x => { x with gateWaits := inc64 x.gateWaits, waitCounted := true })
    else s) s

end Sys2Proof.Machine
end

