-- ==== Sys2Proof/Machine/Ports.lean ====
section
/-! DEFINITION. Logical ports (02): their states, what takes a port from one to another, and the PRUNED units that hold
ports. -/

namespace Sys2Proof.Machine

/-- A unit is PRUNED, in the numbering of R379. -/
def State.isPruned (s : State) (domain unit : Nat) : Bool := decide ((domain, unit) ∈ s.flt.pruned)
/-- A pipeline die is PRUNED. -/
def State.diePruned (s : State) (die : Nat) : Bool := s.isPruned (8 + die) 0xFF
/-- A pipeline, or its die, is PRUNED. -/
def State.pipePruned (s : State) (pl : Nat) : Bool := s.isPruned (8 + pl / 4) (pl % 4) || s.diePruned (pl / 4)
/-- A unit that serves the port is PRUNED: its engine, its pipeline or its die (R44, R373). -/
def State.portPruned (s : State) (lp : Nat) : Bool := s.isPruned 11 (fpOf lp / 4) || s.pipePruned (plOf lp)

/-- Code of a port state (Table 02.8). -/
def PortState.code : PortState → Nat
  | .disabled => 0
  | .down => 1
  | .listen => 2
  | .forwarding => 3
  | .pruned => 4

/-- A port in DOWN sends link fault signalling with its idles (Tables 02.2, 02.3). What the signalling it receives does
lies with its PCS, whose loss and alignment the commands give. (DESIGN CHOICE, log entry 112.) -/
def State.signalFault (s : State) (lp : Nat) (old new : PortState) : State :=
  if (old = .down) = (new = .down) then s else s.emit (.linkFault s.now lp (decide (new = .down)))
/-- Change STATE of a logical port; a change raises source 0x5000 + 2 × lp (Table 13.1). -/
def State.setPort (s : State) (lp : Nat) (st : PortState) : State :=
  if (s.port lp).st = st then s
  else ((s.modPort lp (fun p => { p with st := st })).signalFault lp (s.port lp).st st).raise (0x5000 + 2 * lp)

/-- ENABLE of a logical port (E 10.iiii.02). -/
def State.portEnabled (s : State) (lp : Nat) : Bool := decide (s.cfgN 0x10 lp 0x02 = 1)
/-- The state in which a port that is not PRUNED waits: DOWN when it is in use and enabled, else DISABLED (R42). -/
def State.restingPort (s : State) (lp : Nat) : PortState :=
  if s.inUse lp && s.portEnabled lp then .down else .disabled

/-- ENABLE has changed: 0 holds the port in DISABLED, 1 brings it to DOWN; a PRUNED port stays PRUNED (R42, R44). -/
def State.enableChanged (s : State) (lp : Nat) : State :=
  if (s.port lp).st = .pruned then s
  else if s.restingPort lp = .disabled then s.setPort lp .disabled
  else if (s.port lp).st = .disabled then s.setPort lp .down
  else s

/-- Put every port served by a unit into PRUNED (R44). -/
def State.prunePorts (s : State) (first count : Nat) : State :=
  (List.range count).foldl (fun s k =>
    (s.modPort (first + k) (fun p => { p with interruptedTo := 0 })).setPort (first + k) .pruned) s
/-- Ports of a unit that has been reset leave PRUNED for DOWN, unless another unit of theirs is still PRUNED (R44).
(DEDUCED, log entry 52.) -/
def State.returnPorts (s : State) (first count : Nat) : State :=
  (List.range count).foldl (fun s k =>
    let lp := first + k
    if (s.port lp).st = .pruned && !s.portPruned lp then s.setPort lp (s.restingPort lp) else s) s

/-- The ports that a breakout leaves unused hold their counters at zero (R3). -/
def State.zeroUnused (s : State) (lp : Nat) : State :=
  if s.inUse lp then s
  else
    let s := s.modPort lp (fun p => { p with cnt := {} })
    let s := (List.range 256).foldl (fun s k => s.modQueue (queueNo lp k) (fun q =>
      { q with sent := 0, dropFull := 0, dropPolice := 0, dropGate := 0, late := 0, gateWaits := 0 })) s
    let s := (List.range 16).foldl (fun s g => s.modQGroup (16 * lp + g) (fun x => { x with sent := 0 })) s
    s.modGate lp (fun g => { g with cycles := 0, steps := 0 })

/-- A field port's breakout changes (R36): every logical port goes to DISABLED, the lanes are assigned anew, and the ports
now in use come up through DOWN. (DEDUCED, log entry 52.) -/
def State.rebreak (s : State) (fp code : Nat) : State :=
  if s.breakoutOf fp = code then s
  else
    let lps := (List.range 16).map (fun k => 16 * fp + k)
    let s := lps.foldl (fun s lp => if (s.port lp).st = .pruned then s else s.setPort lp .disabled) s
    let s := s.setCfgN 0x10 (16 * fp) 0x01 1 code
    let s := lps.foldl State.zeroUnused s
    lps.foldl (fun s lp => if (s.port lp).st = .pruned then s else s.setPort lp (s.restingPort lp)) s

/-- A port has lost signal, PCS lock or FEC alignment (R42); a calibration interruption holds it in its state (R388). -/
def State.portLost (s : State) (lp : Nat) : State :=
  let s := s.modPort lp (fun p => { p with aligned := false })
  if (s.port lp).interruptedTo ≠ 0 then s
  else match (s.port lp).st with
  | .listen | .forwarding => s.setPort lp .down
  | _ => s
/-- The FEC of a port is aligned: DOWN gives way to LISTEN (R42), and an interruption ends (R388). -/
def State.portAligned (s : State) (lp : Nat) : State :=
  let s := s.modPort lp (fun p => { p with aligned := true, interruptedTo := 0 })
  if (s.port lp).st = .down then (s.modPort lp (fun p => { p with listenSince := s.now })).setPort lp .listen else s

/-- The logical ports in use with a lane on a fibre pair: lanes L0 to L3 are pair A, L4 to L7 pair B (R34). -/
def State.pairPorts (s : State) (p : Nat) : List Nat :=
  let fp := p / 2
  let c := s.breakoutOf fp
  ((List.range (2 ^ c)).filter (fun k => decide (c = 0) || decide (k / 2 ^ (c - 1) = p % 2))).map (fun k => 16 * fp + k)
/-- The lanes of a fibre pair carry no frames; they should be aligned again by `until_` (R388, R391). -/
def State.interruptPair (s : State) (p until_ : Nat) : State :=
  let s := s.modPair p (fun x => { x with interruptions := inc64 x.interruptions })
  (s.pairPorts p).foldl (fun s lp => s.modPort lp (fun x => { x with interruptedTo := until_ })) s
/-- When no pair is being measured, the next eight of a calibration are; an empty list ends it (R387). (DEDUCED, log
entry 77.) -/
def State.nextBatch (s : State) : State :=
  if !s.cal.running ∨ s.cal.kind ≠ 0 ∨ s.cal.batch ≠ [] then s
  else
    let b := s.cal.todo.take 8
    let s := { s with cal := { s.cal with batch := b, todo := s.cal.todo.drop 8, running := decide (b ≠ []) } }
    b.foldl (fun s p => s.interruptPair p (s.now + 350000)) s

/-- The end of an FEC interval (R43): a clean one moves LAST_CLEAN, and takes a port in LISTEN to FORWARDING when it began
after the port entered LISTEN and the port's pipeline is released (R483). Intervals end at whole milliseconds, and are
judged in LISTEN and FORWARDING (DEDUCED, log entry 23). -/
def State.fecEnd (s : State) (lp corrected uncorrectable : Nat) : State :=
  let p := s.port lp
  if s.now % 1000000 ≠ 0 ∨ (p.st ≠ .listen ∧ p.st ≠ .forwarding) then s
  else
    let s := s.countPort lp (fun c => { c with uncorrectable := add64 c.uncorrectable uncorrectable })
    if uncorrectable = 0 ∧ corrected ≤ s.cfgN 0x10 lp 0x06 then
      let s := s.modPort lp (fun p => { p with lastClean := s.now })
      if p.st = .listen ∧ p.listenSince + 1000000 ≤ s.now ∧ (s.pipe (plOf lp)).released then s.setPort lp .forwarding
      else s
    else s

/-- A PFC frame (R38): the classes it names stop for the time it asks, where the port honours them and they are no media
class. -/
def State.pfcArrived (s : State) (lp : Nat) (pfc : List (Nat × Nat)) : State :=
  pfc.foldl (fun s e =>
    [2 * e.1, 2 * e.1 + 1].foldl (fun s c =>
      if bit (s.cfgN 0x10 lp 0x07) c && !s.isMedia lp c then
        s.modPort lp (fun p =>
          { p with paused := (p.paused.filter (fun x => !decide (x.1 = c))) ++ (if e.2 = 0 then [] else [(c, s.now + e.2)]) })
      else s) s) s
/-- The pause of a priority's two classes has run out (R38, R267). -/
def State.pfcEnd (s : State) (lp prio : Nat) : State :=
  s.modPort lp (fun p => { p with paused := p.paused.filter (fun x => !(decide (x.1 / 2 = prio) && decide (x.2 ≤ s.now))) })

end Sys2Proof.Machine
end

