-- ==== Sys2Proof/Machine/Forwarding.lean ====
section
/-! DEFINITION. Forwarding (02): flow, delivery and L2 tables, the parser's branches, walks and replication, header edits,
crossings, and the records of family 11. -/

namespace Sys2Proof.Machine

/-! ## Fields of frames -/

/-- VID of a frame: 0 untagged, the inner tag's of two (Table 02.4). -/
def vidOf (f : Frame) : Nat :=
  match f.tags.getLast? with
  | none => 0
  | some t => t.toNat % 4096
/-- A MAC address is a group address: the low bit of its first octet. -/
def isGroupMac (m : Mac) : Bool := m.getLsbD 40
/-- The frame is for an in-band address of the block (E 01.0000.13), or is UDP to UDP_PORT at one (R291, R292). -/
def State.inband (s : State) (f : Frame) : Bool :=
  let b := s.cfg 0x01 0 0x13
  (List.range (b.length / 18)).any (fun k =>
    decide (fieldAt b (18 * k) 2 = (vidOf f)) &&
      decide (beNat (slice b (18 * k + 2) (if f.ipv = 4 then 4 else 16)) =
        (if f.ipv = 4 then f.dst.toNat / 2 ^ 96 else f.dst.toNat)))
/-- An Almanac frame addressed to the block (R47, R292). -/
def State.isAlmanac (s : State) (f : Frame) : Bool :=
  f.udp && decide (f.udpDst.toNat = s.cfgN 0x01 0 0x10) && s.inband f
/-- A frame served ahead of all others (R45). -/
def State.isUrgent (s : State) (f : Frame) : Bool := f.kind = .ptp || s.isAlmanac f
/-- A peer-delay message is counted and discarded (Table 20.4). -/
def State.peerDelay (s : State) (f : Frame) : State :=
  if f.ptpType = 2 ∨ f.ptpType = 3 ∨ f.ptpType = 10 then { s with clk := { s.clk with discarded := s.clk.discarded + 1 } }
  else s
/-- A PTP frame goes to the timekeeper's hardware and Dorsen, a peer-delay message to nobody (R467). -/
def State.ptpFrame (s : State) (lp : Nat) (f : Frame) : State :=
  if f.ptpType = 2 ∨ f.ptpType = 3 ∨ f.ptpType = 10 then s.peerDelay f else s.emit (.consumer s.now lp 0 f.label)

/-! ## Checksums and edits (R57, Table 02.6) -/

/-- A checksum after a 16-bit word changes from `o` to `n` (incremental update). -/
def csumWord (c : BitVec 16) (o n : Nat) : BitVec 16 :=
  let x := (65535 - c.toNat) + (65535 - o % 65536) + n % 65536
  let x := x % 65536 + x / 65536
  let x := x % 65536 + x / 65536
  BitVec.ofNat 16 (65535 - x)
/-- A checksum after `k` words of a number change. -/
def csumWords : Nat → BitVec 16 → Nat → Nat → BitVec 16
  | 0, c, _, _ => c
  | k + 1, c, o, n => csumWords k (csumWord c (o % 65536) (n % 65536)) (o / 65536) (n / 65536)
/-- Update the UDP checksum; an IPv4 one received as zero stays zero, and a result of zero is sent as all ones. -/
def udpSum (f : Frame) (k o n : Nat) : Frame :=
  if !f.udp || (f.ipv = 4 && f.udpCsum = 0) then f
  else
    let c := csumWords k f.udpCsum o n
    { f with udpCsum := if c = 0 then 0xFFFF else c }
/-- Update the IPv4 header checksum. -/
def ipSum (f : Frame) (k o n : Nat) : Frame := if f.ipv = 4 then { f with ipCsum := csumWords k f.ipCsum o n } else f

/-- A field of a delivery entry, bits [hi:lo]. -/
def dfield (w : DeliveryWord) (hi lo : Nat) : Nat := bits w.toNat hi lo
def dType (w : DeliveryWord) : Nat := dfield w 1 0
def dLast (w : DeliveryWord) : Bool := w.getLsbD 2
def dHairpin (w : DeliveryWord) : Bool := w.getLsbD 3
def dOwner (w : DeliveryWord) : Nat := dfield w 7 4
def dLp (w : DeliveryWord) : Nat := dfield w 17 8
def dClass (w : DeliveryWord) : Nat := dfield w 25 18
def dIntake (w : DeliveryWord) : Nat := dfield w 36 26
def dNext (w : DeliveryWord) : Nat := dfield w 61 37
def dEdit (w : DeliveryWord) (k : Nat) : Bool := w.getLsbD (64 + k)

/-- An address field of `k` octets from bit `lo` of a delivery entry: its first octet stands in its lowest byte (R288). -/
def dAddr (w : DeliveryWord) (lo k : Nat) : Nat := beNat (natLe k (dfield w (lo + 8 * k - 1) lo))
/-- Apply the header edits of a delivery entry: pop, replace, then push of tags (DEDUCED, log entry 24); `n` names the free value
of a hop limit that a decrement takes below 0. (DESIGN CHOICE, log entry 17.) -/
def editFrame (w : DeliveryWord) (n : Nat) (f : Frame) : Frame :=
  let f := if dEdit w 0 then { f with dmac := BitVec.ofNat 48 (dAddr w 80 6) } else f
  let f := if dEdit w 1 then { f with smac := BitVec.ofNat 48 (dAddr w 128 6) } else f
  let f := if dEdit w 4 && !f.tags.isEmpty then { f with tags := f.tags.drop 1, len := Nat.max 64 (f.len - 4) } else f
  let f := if dEdit w 2 then
      { f with tags := match f.tags with
                 | [] => []
                 | _ :: r => BitVec.ofNat 16 (dfield w 191 176) :: r } else f
  let f := if dEdit w 3 then { f with tags := BitVec.ofNat 16 (dfield w 191 176) :: f.tags, len := f.len + 4 } else f
  let f := if dEdit w 5 && f.ipv ≠ 0 then
      let d := BitVec.ofNat 6 (dfield w 197 192)
      { ipSum f 1 (4 * f.dscp.toNat) (4 * d.toNat) with dscp := d } else f
  let f := if dEdit w 6 && f.ipv ≠ 0 then
      let d := if f.ipv = 4 then BitVec.ofNat 128 (dAddr w 264 4 * 2 ^ 96) else BitVec.ofNat 128 (dAddr w 264 16)
      let o := if f.ipv = 4 then f.dst.toNat / 2 ^ 96 else f.dst.toNat
      let v := if f.ipv = 4 then d.toNat / 2 ^ 96 else d.toNat
      let k := if f.ipv = 4 then 2 else 8
      { udpSum (ipSum f k o v) k o v with dst := d } else f
  let f := if dEdit w 7 && f.udp then
      let p := BitVec.ofNat 16 (dfield w 215 200)
      { udpSum f 1 f.udpSrc.toNat p.toNat with udpSrc := p } else f
  let f := if dEdit w 8 && f.udp then
      let p := BitVec.ofNat 16 (dfield w 231 216)
      { udpSum f 1 f.udpDst.toNat p.toNat with udpDst := p } else f
  let f := if dEdit w 9 && f.udp then
      let p := BitVec.ofNat 32 (dfield w 263 232)
      { udpSum f 2 f.ssrc.toNat p.toNat with ssrc := p } else f
  if dEdit w 10 && f.ipv ≠ 0 then
    let t := if f.ttl = 0 then Config.hopUnderflow n else f.ttl - 1
    { ipSum f 1 (256 * f.ttl.toNat) (256 * t.toNat) with ttl := t }
  else f

/-! ## The walk (R52, R53, R68) -/

/-- What a walk yields: the destinations in order, the indexes whose read failed, and whether a limit stopped it. -/
structure Walk where
  dests : List DeliveryWord := []
  failed : List Nat := []
  limited : Bool := false
  deriving DecidableEq, Repr

/-- Walk a run in a die's copy: `fuel` entries may still be read, `nd` destinations and `nj` jumps have been met. An
uncorrectable entry is void, and ends the walk when it was a jump or carried LAST. (DEDUCED, log entry 54.) -/
def State.walk (s : State) (die : Nat) (bad : List Nat) : Nat → Nat → Nat → Nat → Walk → Walk
  | 0, _, _, _, w => { w with limited := true }
  | fuel + 1, i, nd, nj, w =>
    let e := s.delivery die i
    let fin := dLast e || decide (i = 33554431)
    if i ∈ bad then
      let w := { w with failed := w.failed ++ [i] }
      if fin || dType e = 3 then w else s.walk die bad fuel (i + 1) nd nj w
    else if dType e = 0 then (if fin then w else s.walk die bad fuel (i + 1) nd nj w)
    else if dType e = 3 then
      if i = 33554431 then w
      else if 16 ≤ nj then { w with limited := true }
      else s.walk die bad fuel (dNext e) nd (nj + 1) w
    else if 1024 ≤ nd then { w with limited := true }
    else
      let w := { w with dests := w.dests ++ [e] }
      if fin then w else s.walk die bad fuel (i + 1) (nd + 1) nj w
/-- The indexes of a die's copy whose read fails: those that fail now, and those that wait for the Shed (R68). -/
def State.badIndexes (s : State) (die : Nat) (upset : List Nat) : List Nat :=
  upset ++ (s.fwd.badDelivery.filter (fun k => decide (k / 33554432 = die))).map (fun k => k % 33554432)
/-- The walk of a run from its delivery index. (DEDUCED, log entry 54.) -/
def State.run (s : State) (die index : Nat) (upset : List Nat) : Walk :=
  s.walk die (s.badIndexes die upset) 2048 index 0 0 {}

/-- Pipeline die of a destination entry. -/
def dDie (w : DeliveryWord) : Nat := if dType w = 2 then intakeDie (dIntake w) else dieOf (dLp w)

/-- Deliver a stored packet to one destination of its die (R58, R59): a queue takes an edited copy, an intake channel a
reference; the ingress port takes none without HAIRPIN. -/
def State.deliver (s : State) (die chain ingress allot : Nat) (f : Frame) (w : DeliveryWord)
    (own : Option Own := none) : State :=
  if dDie w ≠ die then s
  else if dType w = 2 then s.addRef chain
  else if dLp w = ingress && !dHairpin w then s
  else
    let g := editFrame w s.fresh f
    ((s.addRef chain).refresh).enqueue (queueNo (dLp w) (dClass w))
      (match own with
        | none => { chain := chain, f := g, payer := dOwner w, cls := 0 }
        | some o => { chain := chain, f := g, payer := o.payer, cls := o.cls, slot := some o.slot, pace := o.pace }) allot

/-- Record the failed reads of a walk (R68): the entries wait for the Shed's rewrite from the other die's copy. -/
def State.noteFailed (s : State) (die pl : Nat) (failed : List Nat) : State :=
  failed.foldl (fun s i =>
    let e := 33554432 * die + i
    let s := { s with fwd := { s.fwd with
      badDelivery := addTo s.fwd.badDelivery e, failedReads := s.fwd.failedReads ++ [(pl, e)] } }
    s.modPipe pl (fun p => { p with deliveryErrors := inc64 p.deliveryErrors })) s

/-- Count a packet dropped on its way to a die, and raise the crossing-drop source of the ingress pipeline (R22). -/
def State.crossDrop (s : State) (toDie pl : Nat) : State :=
  (s.modCells toDie (fun c => { c with crossDrops := inc64 c.crossDrops })).raise (0x5800 + 16 * pl + 3)
/-- Cells of the packets that wait to cross. -/
def CellStore.waitingCells (c : CellStore) : Nat := c.waiting.foldl (fun n x => n + cellsOf x.f.len) 0
/-- Queue a packet to cross to the other die once (R22): dropped and counted when the die can hold no more crossing cells,
or when the far die is PRUNED (R373). -/
def State.cross (s : State) (die chain lp allot : Nat) (f : Frame) (d : CrossDest)
    (own : Option Own := none) : State :=
  let c := s.cells die
  if s.diePruned (1 - die) || decide (c.crossLimit < c.waitingCells + cellsOf f.len) then s.crossDrop (1 - die) (plOf lp)
  else (s.addRef chain).modCells die (fun c =>
    { c with waiting := c.waiting ++ [{ chain := chain, dest := d, lp := lp, allot := allot, f := f, own := own }] })

/-- Store a frame and begin its walk (R72 to R74, R76); none when the test fails. -/
def State.store (s : State) (lp : Nat) (f : Frame) : Option (Nat × State) :=
  let a := s.portOwner lp
  if s.cellsFit (dieOf lp) a (cellsOf f.len) false then some (s.newChain (dieOf lp) a (cellsOf f.len) false)
  else none
/-- Count a cell-store drop on a logical port (R74). -/
def State.storeDrop (s : State) (lp : Nat) : State :=
  s.countPort lp (fun c => { c with cellStoreDrops := inc64 c.cellStoreDrops })

/-- A flow's packet (R58, R272): stored, policed, walked in its die's copy, delivered, and crossed once when the run names
a destination on the other die. -/
def State.forwardFlow (s : State) (pl lp : Nat) (x : Flow) (f : Frame) (upset : List Nat) : State :=
  match s.store lp f with
  | none => s.storeDrop lp
  | some (k, s) =>
    let die := dieOf lp
    let (res, s) := if x.policer = 0xFFFF then (some f, s) else s.police (32768 * die + x.policer) f
    match res with
    | none => s.dropRef k
    | some f =>
      let w := s.run die x.index upset
      let s := if w.limited then s.modPipe pl (fun p => { p with walkLimits := inc64 p.walkLimits }) else s
      let s := s.noteFailed die pl w.failed
      let a := s.portOwner lp
      let s := w.dests.foldl (fun s e => s.deliver die k lp a f e) s
      let s := if w.dests.any (fun e => decide (dDie e ≠ die)) then s.cross die k lp a f (.run x.index) else s
      s.dropRef k

/-! ## L2 (R60 to R65) -/

/-- PTP second, modulo 65,536 (R64). -/
def State.stampNow (s : State) : Nat := s.now / 1000000000 % 65536
/-- Charge of an L2-forwarded or flooded copy: the VLAN's owner, for VID 0 the owner of the ingress port (R61). -/
def State.l2Payer (s : State) (vid lp : Nat) : Nat := if vid = 0 then s.portOwner lp else s.vlanOwner vid
/-- Deliver an L2 copy to a logical port of this die: queue L2_QUEUE, no edit, never the ingress port (R59, R61). -/
def State.deliverL2 (s : State) (chain ingress allot vid : Nat) (f : Frame) (dst : Nat) : State :=
  if dst = ingress then s
  else (s.addRef chain).enqueue (queueNo dst (s.cfgN 0x10 dst 0x0C))
    { chain := chain, f := f, payer := s.l2Payer vid ingress, cls := 0 } allot
/-- Member ports of a VLAN's flood set (E 11.vvvv.02); VID 0 has none. -/
def State.floodSet (s : State) (vid : Nat) : List Nat :=
  if vid = 0 then []
  else
    let b := s.cfg 0x11 vid 0x02
    (List.range 1024).filter (fun n => (b.getD (n / 8) 0).getLsbD (n % 8))
/-- Count a flood against the VLAN's limit in this PTP second (R60); answers whether it may go. -/
def State.floodAllowed (s : State) (vid : Nat) : Bool × State :=
  let sec := s.now / 1000000000
  let v := s.vlan vid
  let n := if v.second = sec then v.floods else 0
  if s.cfgN 0x11 vid 0x04 ≤ n then
    (false, s.modVlan vid (fun v => { v with floodDrops := inc64 v.floodDrops }))
  else (true, s.modVlan vid (fun v => { v with second := sec, floods := n + 1 }))

/-- Deliver L2 copies to ports of both dies, crossing once when a port of the other die is named (R60). -/
def State.forwardL2 (s : State) (lp vid : Nat) (f : Frame) (ports : List Nat) (d : CrossDest) : State :=
  match s.store lp f with
  | none => s.storeDrop lp
  | some (k, s) =>
    let die := dieOf lp
    let a := s.portOwner lp
    let here := ports.filter (fun p => decide (dieOf p = die))
    let s := here.foldl (fun s p => s.deliverL2 k lp a vid f p) s
    let s := if ports.any (fun p => decide (dieOf p ≠ die)) then s.cross die k lp a f d else s
    s.dropRef k

/-- Flood a frame in its VLAN (R60); a failed member set is empty (R66). -/
def State.flood (s : State) (lp : Nat) (f : Frame) (lost : Bool) : State :=
  let vid := vidOf f
  if vid = 0 || lost then s
  else
    let (ok, s) := s.floodAllowed vid
    if ok then s.forwardL2 lp vid f (s.floodSet vid) (.flood vid) else s

/-- The L2 entry of a VID and MAC. -/
def Pipeline.l2Of (p : Pipeline) (vid : Nat) (m : Mac) : Option L2Entry :=
  p.l2.find? (fun e => decide (e.vid = vid) && decide (e.mac = m))
/-- Change the L2 entry of a VID and MAC. -/
def Pipeline.modL2 (p : Pipeline) (vid : Nat) (m : Mac) (g : L2Entry → L2Entry) : Pipeline :=
  { p with l2 := p.l2.map (fun e => if e.vid = vid ∧ e.mac = m then g e else e) }
/-- Learned entries in use: static entries take no room of the 262,144, so that STATIC_L2 finds the table full never.
(DESIGN CHOICE, log entry 113.) -/
def Pipeline.learned (p : Pipeline) : Nat := (p.l2.filter (fun e => !e.static)).length

/-- Learning is enabled on the port and on the VLAN (R62). (DEDUCED, log entry 53.) -/
def State.learns (s : State) (lp vid : Nat) : Bool :=
  decide (s.cfgN 0x10 lp 0x08 = 1) && (vid = 0 || decide (s.cfgN 0x11 vid 0x03 = 1))

/-- Add a new learned entry, within the rate and the limits (R62). (DEDUCED, log entry 53.) -/
def State.learnNew (s : State) (pl lp : Nat) (f : Frame) : State :=
  let vid := vidOf f
  let p := s.pipe pl
  if 262144 ≤ p.learned then
    (s.modPipe pl (fun p => { p with learnFull := inc64 p.learnFull })).raise (0x5800 + 16 * pl + 2)
  else if vid ≠ 0 ∧ s.cfgN 0x11 vid 0x05 ≤ (p.l2.filter (fun e => !e.static && decide (e.vid = vid))).length then
    s.modPipe pl (fun p => { p with learnFull := inc64 p.learnFull })
  else if p.learnT = s.now / 20 + 1 then s.modPipe pl (fun p => { p with learnSkips := inc64 p.learnSkips })
  else s.modPipe pl (fun p =>
    { p with l2 := p.l2 ++ [{ vid := vid, mac := f.smac, lp := lp, stamp := s.stampNow, static := false }],
             learnT := s.now / 20 + 1 })

/-- The scan of R64 removes learned entries that have aged. -/
def Pipeline.aged (p : Pipeline) (stamp age : Nat) : Pipeline :=
  { p with l2 := p.l2.filter (fun e => e.static || decide ((stamp + 65536 - e.stamp) % 65536 ≤ age + 2)) }

/-! ## Parity (R66, R67) -/

/-- Count a parity miss and report it: source 16i + 0 of the die's domain, interrupt source 0x5800 + 16 × pl. -/
def State.parityMiss (s : State) (pl : Nat) : State :=
  ((s.modPipe pl (fun p => { p with parityMisses := inc64 p.parityMisses })).logFault
    (256 * (8 + pl / 4) + 16 * (pl % 4))).raise (0x5800 + 16 * pl)

/-- A failed L2 entry (R66, R67): a learned one is invalidated, a static one waits for the Shed; the miss is counted. -/
def State.l2Lost (s : State) (pl vid : Nat) (m : Mac) (static : Bool) : State :=
  (s.modPipe pl (fun p =>
    if static then p.modL2 vid m (fun e => { e with bad := true })
    else { p with l2 := p.l2.filter (fun e => !(decide (e.vid = vid) && decide (e.mac = m))) })).parityMiss pl
/-- Learn a frame's source MAC (R62 to R64): a known MAC is stamped, and moved unless it is static; a new one is added.
The entry is read under its parity: a failed one is a miss, after which a learned MAC is learned anew (R66, R67).
(DEDUCED, log entry 53.) -/
def State.learn (s : State) (pl lp : Nat) (f : Frame) (lost : Bool) : State :=
  let vid := vidOf f
  if isGroupMac f.smac || !s.learns lp vid then s
  else
    match (s.pipe pl).l2Of vid f.smac with
    | some e =>
      if lost || e.bad then
        let s := s.l2Lost pl vid f.smac e.static
        if e.static then s else s.learnNew pl lp f
      else if e.static then
        if e.lp = lp then s else s.modPipe pl (fun p => { p with refusedMoves := inc64 p.refusedMoves })
      else s.modPipe pl (fun p => p.modL2 vid f.smac (fun e => { e with lp := lp, stamp := s.stampNow }))
    | none => s.learnNew pl lp f

/-! ## The flow table (R48 to R51, R495) -/

/-- A flow has the given key (R495). -/
def Flow.isKey (x : Flow) (kt : Nat) (any : Bool) (lp vid udp : Nat) (src dst : IpAddr) : Bool :=
  decide (x.keyType = kt) && (x.srcAny == any) && decide (x.lp = lp) && decide (x.vid = vid) &&
    decide (x.udpDst = udp) && decide (x.dst = dst) && (any || kt = 2 || decide (x.src = src))
/-- Slots of a flow (Table 02.4). -/
def Flow.slots (x : Flow) : Nat := if x.keyType = 1 then 2 else 1
/-- Slots in use of a pipeline's table. -/
def Pipeline.used (p : Pipeline) : Nat := p.flows.foldl (fun n x => n + x.slots) 0

/-- Look a frame up (R48): the exact UDP key, the SRC_ANY key, then the L2 key (DEDUCED, log entry 25). -/
def Pipeline.lookup (p : Pipeline) (lp : Nat) (f : Frame) : Option Flow :=
  let find := fun (kt : Nat) (any : Bool) (udp : Nat) (src dst : IpAddr) =>
    p.flows.find? (fun x => x.isKey kt any lp (vidOf f) udp src dst)
  let l2 := find 2 false 0 0 (BitVec.ofNat 128 (f.dmac.toNat * 2 ^ 80)) |>.or
    (find 2 true 0 0 (BitVec.ofNat 128 (f.dmac.toNat * 2 ^ 80)))
  if f.udp ∧ (f.ipv = 4 ∨ f.ipv = 6) then
    let kt := if f.ipv = 4 then 0 else 1
    ((find kt false f.udpDst.toNat f.src f.dst).or (find kt true f.udpDst.toNat 0 f.dst)).or l2
  else l2

/-! ## The parser (R45 to R47) -/

/-- Bytes in a list of frames. -/
def bufferBytes (l : List InFrame) : Nat := l.foldl (fun n x => n + x.f.len) 0

/-- Flood a frame; with its VLAN record lost to an upset, by the copy of it and counted (R69). -/
def State.floodFrom (s : State) (pl lp : Nat) (f : Frame) (lost : Bool) : State :=
  if lost && (vidOf f) ≠ 0 then
    ((s.modPipe pl (fun p => { p with badVlans := addTo p.badVlans (vidOf f) })).parityMiss pl).flood lp f true
  else s.flood lp f false
/-- The L2 table has an entry for a frame: an upset entry is a miss (R69), any other sends the frame and is refreshed. -/
def State.l2Hit (s : State) (pl lp : Nat) (f : Frame) (e : L2Entry) (bad lost : Bool) : State :=
  if bad then (s.l2Lost pl (vidOf f) f.dmac e.static).floodFrom pl lp f lost
  else
    let s := if e.static then s
      else s.modPipe pl (fun p => p.modL2 (vidOf f) f.dmac (fun e => { e with stamp := s.stampNow }))
    s.forwardL2 lp (vidOf f) f [e.lp] (.l2 e.lp)
/-- The Shed reports an IGMP or MLD message to the owner of its ingress logical port, while it is live (R41); the form of
the report lies outside the block. (DESIGN CHOICE, log entry 114.) -/
def State.reportGroup (s : State) (lp : Nat) (f : Frame) : State :=
  if s.shedLive then s.emit (.report s.now lp (s.portOwner lp) f.label) else s
/-- The branches of R47 for a frame that the pipeline takes from a buffer. (DEDUCED, log entry 25.) -/
def State.classify (s : State) (pl lp : Nat) (f : Frame) (upset : Upset) : State :=
  let s := s.learn pl lp f upset.source
  if f.kind = .ptp then s.ptpFrame lp f
  else if s.isAlmanac f then s.emit (.consumer s.now lp 2 f.label)
  else if f.kind = .arpNd && s.inband f then s.emit (.consumer s.now lp 1 f.label)
  else if f.kind = .igmp || f.kind = .mld then
    ((s.countPort lp (fun c => { c with igmpMld := inc64 c.igmpMld })).emit (.consumer s.now lp 1 f.label)).reportGroup lp f
  else
    match (s.pipe pl).lookup lp f with
    | some x =>
      if upset.flow || x.bad then
        (s.modPipe pl (fun p =>
          { p with flows := p.flows.map (fun y => if y = x then { y with bad := true } else y) })).parityMiss pl
      else if x.drop then s.countPort lp (fun c => { c with flowDrops := inc64 c.flowDrops })
      else s.forwardFlow pl lp x f upset.delivery
    | none =>
      if isGroupMac f.dmac && f.dmac ≠ 0xFFFFFFFFFFFF then
        s.countPort lp (fun c => { c with unknownMulticast := inc64 c.unknownMulticast })
      else
        let vlanLost := upset.vlan || decide ((vidOf f) ∈ (s.pipe pl).badVlans)
        if f.dmac = 0xFFFFFFFFFFFF then s.floodFrom pl lp f vlanLost
        else
          match (s.pipe pl).l2Of (vidOf f) f.dmac with
          | none => s.floodFrom pl lp f vlanLost
          | some e => s.l2Hit pl lp f e (upset.l2 || e.bad) vlanLost

/-- The frame a field port's buffer gives next: PTP and Almanac frames ahead of all others (R45). -/
def State.nextOf (s : State) (fp : Nat) : Option (InFrame × List InFrame) :=
  let l := s.buffer fp
  match l.find? (fun x => s.isUrgent x.f) with
  | some x => some (x, l.erase x)
  | none =>
    match l with
    | [] => none
    | x :: r => some (x, r)

/-- The pipeline serves the next field port that holds a frame, in round robin (R45). -/
def State.serve (s : State) (pl : Nat) (upset : Upset) : State :=
  if !(s.pipe pl).released || s.pipePruned pl then s
  else
    let order := (List.range 8).map (fun k => ((s.pipe pl).rr + k) % 8)
    match order.find? (fun k => (s.nextOf (8 * pl + k)).isSome) with
    | none => s
    | some k =>
      match s.nextOf (8 * pl + k) with
      | none => s
      | some (x, rest) =>
        let s := (s.setBuffer (8 * pl + k) rest).modPipe pl (fun p => { p with rr := (k + 1) % 8 })
        s.classify pl x.lp x.f upset

/-- Put a frame into its field port's ingress buffer of 256 KiB (R45, R46): a full buffer drops it as an overrun, but a
PTP or Almanac frame displaces the newest other frames until it fits (DEDUCED, log entry 26). -/
def State.buffered (s : State) (x : InFrame) : Nat → State
  | 0 => s.countPort x.lp (fun c => { c with overruns := inc64 c.overruns })
  | fuel + 1 =>
    let fp := fpOf x.lp
    let l := s.buffer fp
    if bufferBytes l + x.f.len ≤ 262144 then s.setBuffer fp (l ++ [x])
    else if s.isUrgent x.f then
      match l.reverse.find? (fun y => !s.isUrgent y.f) with
      | none => s.countPort x.lp (fun c => { c with overruns := inc64 c.overruns })
      | some y =>
        let rest := (l.reverse.erase y).reverse
        ((s.setBuffer fp rest).countPort y.lp (fun c => { c with displaced := inc64 c.displaced })).buffered x fuel
    else s.countPort x.lp (fun c => { c with overruns := inc64 c.overruns })

/-- Bytes in the arrival hold. -/
def Boot.holdBytes (b : Boot) : Nat := b.hold.foldl (fun n x => n + x.f.len) 0
/-- Put a frame into the arrival hold of 4 MiB (R484). -/
def State.toHold (s : State) (lp : Nat) (f : Frame) : State :=
  let n := s.boot.holdBytes + f.len
  if 4194304 < n then { s with boot := { s.boot with holdDrops := inc64 s.boot.holdDrops } }
  else
    let b := s.boot
    { s with boot := { b with hold := b.hold ++ [{ lp := lp, t := s.now, f := f }], holdPeak := Nat.max b.holdPeak n } }

/-- A frame that arrives in LISTEN (Table 02.3, R483): PTP and Almanac frames go to the arrival hold until PTP ports have
started and the Almanac is live, and then to their consumers; ARP and ND for the block go to the Shed; every other frame
is discarded. -/
def State.listenFrame (s : State) (lp : Nat) (f : Frame) : State :=
  if f.kind = .ptp then (if s.clk.started then s.ptpFrame lp f else s.toHold lp f)
  else if s.isAlmanac f then (if s.alm.live then s.emit (.consumer s.now lp 2 f.label) else s.toHold lp f)
  else if f.kind = .arpNd && s.inband f then s.emit (.consumer s.now lp 1 f.label)
  else s.countPort lp (fun c => { c with listenDiscards := inc64 c.listenDiscards })

/-- A frame arrives at a logical port (R37 to R39, R46, R388, Table 02.3). -/
def State.arrive (s : State) (lp : Nat) (f : Frame) : State :=
  let p := s.port lp
  if (p.st ≠ .listen ∧ p.st ≠ .forwarding) ∨ !s.inUse lp then s
  else if p.interruptedTo ≠ 0 then s.countPort lp (fun c => { c with calDrops := inc64 c.calDrops })
  else
    let s := s.countPort lp (fun c =>
      { c with framesRx := inc64 c.framesRx, octetsRx := add64 c.octetsRx f.len })
    if f.kind = .lpi then s.countPort lp (fun c => { c with lpiRx := inc64 c.lpiRx })
    else if f.len < 64 then s.countPort lp (fun c => { c with short := inc64 c.short })
    else if s.cfgN 0x10 lp 0x05 < f.len then s.countPort lp (fun c => { c with long := inc64 c.long })
    else if !f.fcsOk then s.countPort lp (fun c => { c with fcs := inc64 c.fcs })
    else if f.kind = .pause then s.countPort lp (fun c => { c with pauseRx := inc64 c.pauseRx })
    else if f.kind = .pfc then (s.countPort lp (fun c => { c with pfcRx := inc64 c.pfcRx })).pfcArrived lp f.pfc
    else if p.st = .listen then s.listenFrame lp f
    else s.buffered { lp := lp, t := s.now, f := f } ((s.buffer (fpOf lp)).length + 1)

/-! ## Crossings (R22, R58) -/

/-- A Trellis link of one of two dies holds its transfers while a lane's traffic moves (R20). -/
def State.linkHolds (s : State) (a b : Nat) : Bool := (s.link a).holding || (s.link b).holding
/-- A transfer between two dies waits in the link that holds it (R20). -/
def State.hold (s : State) (a b : Nat) (x : Transfer) : State :=
  s.modLink (if (s.link a).holding then a else b) (fun l => { l with held := l.held ++ [x] })
/-- The links between the pipeline dies hold their transfers. -/
def State.crossHeld (s : State) : Bool := s.linkHolds 8 9
/-- The oldest waiting packet of a die crosses; the links hold it during a move (R20). -/
def State.crossSend (s : State) (die : Nat) : State :=
  match (s.cells die).waiting, s.crossHeld with
  | [], _ => s
  | _ :: _, true => s
  | x :: r, false =>
    let s := s.modCells die (fun c => { c with waiting := r })
    if s.diePruned (1 - die) then (s.crossDrop (1 - die) (plOf x.lp)).dropRef x.chain
    else s.modCells die (fun c => { c with inFlight := c.inFlight ++ [x] })

/-- The ports of this die that a crossing flood reaches; a failed member set is empty, and counted for the pipeline of the
ingress port (R60, R66). -/
def State.crossFlood (s : State) (die lp vid : Nat) (lost : Bool) : List Nat × State :=
  if lost || decide (vid ∈ (s.pipe (plOf lp)).badVlans) then
    ([], (s.modPipe (plOf lp) (fun p => { p with badVlans := addTo p.badVlans vid })).parityMiss (plOf lp))
  else ((s.floodSet vid).filter (fun p => decide (dieOf p = die)), s)
/-- A crossing packet reaches a die (R22, R58, R73, R74): stored as a chain of its own and walked in this die's copy. A walk
that meets a limit counts for the flow's pipeline again, once for each die's walk (DESIGN CHOICE, log entry 115). The links
hold the packet during a move (R20). -/
def State.crossArrive (s : State) (die : Nat) (upset : Upset) : State :=
  match (s.cells (1 - die)).inFlight, s.crossHeld with
  | [], _ => s
  | _ :: _, true => s
  | x :: r, false =>
    let s := s.modCells (1 - die) (fun c => { c with inFlight := r })
    if s.diePruned die || !s.cellsFit die x.allot (cellsOf x.f.len) true then s.crossDrop die (plOf x.lp)
    else
      let (k, s) := s.newChain die x.allot (cellsOf x.f.len) true
      let s := match x.dest with
        | .run i =>
          let w := s.run die i upset.delivery
          let s := if w.limited then s.modPipe (plOf x.lp) (fun p => { p with walkLimits := inc64 p.walkLimits }) else s
          let s := s.noteFailed die (plOf x.lp) w.failed
          w.dests.foldl (fun (s : State) e => s.deliver die k x.lp x.allot x.f e x.own) s
        | .flood v =>
          let r := s.crossFlood die x.lp v upset.vlan
          r.1.foldl (fun (s : State) p => s.deliverL2 k x.lp x.allot v x.f p) r.2
        | .l2 p => if dieOf p = die then s.deliverL2 k x.lp x.allot (vidOf x.f) x.f p else s
      s.dropRef k

/-! ## Records of family 11 -/

/-- The flow of a record of Table 02.5, fields clamped under R302 and reserved bits zero (R495, R496). -/
def flowOf (b : List Byte) (owner : Nat) : Flow :=
  let kt := min (fieldAt b 0 1) 2
  let any := bit (fieldAt b 1 1) 0
  let src := beNat (slice b 8 16)
  let dst := beNat (slice b 24 16)
  { keyType := kt
    srcAny := any
    drop := bit (fieldAt b 1 1) 1
    lp := min (fieldAt b 2 2) 1023
    vid := min (fieldAt b 4 2) 4094
    udpDst := if kt = 2 then 0 else fieldAt b 6 2
    src := if any || kt = 2 then 0 else BitVec.ofNat 128 (if kt = 0 then src / 2 ^ 96 * 2 ^ 96 else src)
    dst := BitVec.ofNat 128 (if kt = 0 then dst / 2 ^ 96 * 2 ^ 96 else if kt = 2 then dst / 2 ^ 80 * 2 ^ 80 else dst)
    index := fieldAt b 40 4 % 33554432
    policer := let p := fieldAt b 44 2
               (nearest [(0, 32767), (0xFFFF, 0xFFFF)] p).toNat
    owner := owner }
/-- The record has a field out of its range, so that the write counts as a clamp (R302). (DEDUCED, log entry 58.) -/
def flowClamped (b : List Byte) : Bool :=
  decide (2 < fieldAt b 0 1) || decide (1023 < fieldAt b 2 2) || decide (4094 < fieldAt b 4 2) ||
    (decide (32767 < fieldAt b 44 2) && decide (fieldAt b 44 2 ≠ 0xFFFF))
/-- An address as 16 octets in network order. -/
def addrBytes (a : IpAddr) : List Byte := (natLe 16 a.toNat).reverse
/-- The record of a flow (Table 02.5). -/
def Flow.record (x : Flow) : List Byte :=
  natLe 1 x.keyType ++ natLe 1 (b2n x.srcAny + 2 * b2n x.drop) ++ natLe 2 x.lp ++ natLe 2 x.vid ++ natLe 2 x.udpDst ++
    addrBytes x.src ++ addrBytes x.dst ++ natLe 4 x.index ++ natLe 2 x.policer ++ List.replicate 18 0
/-- Two flows have one key (R495). -/
def Flow.sameKey (x y : Flow) : Bool := x.isKey y.keyType y.srcAny y.lp y.vid y.udpDst y.src y.dst
/-- The allotment owns a record of the forwarding plane, or is the keeper (R71). (DEDUCED, log entry 57.) -/
def ownsRecord (a : Nat) (owner : Option Nat) : Bool := a = 0 || decide (owner = some a)

/-- FLOW_WRITE (R49 to R51, R272, R495): status and state. (DESIGN CHOICE, log entry 14.). (DEDUCED, log entry 58.) -/
def State.writeFlow (s : State) (a : Nat) (b : List Byte) : Nat × State :=
  let x := flowOf b a
  let pl := plOf x.lp
  let p := s.pipe pl
  if b.length ≠ 64 then (4, s)
  else if !ownsRecord a (some (s.portOwner x.lp)) then (2, s)
  else if x.policer ≠ 0xFFFF ∧ s.cfgN 0x14 (32768 * dieOf x.lp + x.policer) 0x01 ≠ a then (2, s)
  else if p.flows.all (fun y => !y.sameKey x) ∧
      (4194304 < p.used + x.slots ∨ (3670016 ≤ p.used ∧ !Config.insertFits s.fresh)) then (10, s.refresh)
  else
    let s := if flowClamped b then s.clamp a else s
    if p.flows.any (fun y => y.sameKey x) then
      (0, s.modPipe pl (fun p => { p with flows := p.flows.map (fun y => if y.sameKey x then x else y) }))
    else
      let t := s.modPipe pl (fun p => { p with flows := p.flows ++ [x] })
      let t := if 3670016 ≤ p.used then t.refresh else t
      (0, if p.used ≤ 3670016 ∧ 3670016 < p.used + x.slots then t.raise (0x5800 + 16 * pl + 1) else t)
/-- FLOW_DELETE (R495). -/
def State.deleteFlow (s : State) (a : Nat) (b : List Byte) : Nat × State :=
  let x := flowOf b a
  if b.length ≠ 40 then (4, s)
  else if !ownsRecord a (some (s.portOwner x.lp)) then (2, s)
  else if (s.pipe (plOf x.lp)).flows.any (fun y => y.sameKey x) then
    (0, s.modPipe (plOf x.lp) (fun p => { p with flows := p.flows.filter (fun y => !y.sameKey x) }))
  else (1, s)
/-- FLOW_READ (R495): status and record. -/
def State.readFlow (s : State) (a : Nat) (b : List Byte) : Nat × List Byte :=
  let x := flowOf b a
  if b.length ≠ 40 then (4, [])
  else if !ownsRecord a (some (s.portOwner x.lp)) then (2, [])
  else match (s.pipe (plOf x.lp)).flows.find? (fun y => y.sameKey x) with
    | none => (1, [])
    | some y => (0, y.record)

/-- A delivery entry as the block stores it: reserved bits zero, OWNER the writer, PARITY kept by the block. (DESIGN
CHOICE, log entry 17.) -/
def storedEntry (a : Nat) (w : DeliveryWord) : DeliveryWord :=
  let keep : Nat := bits w.toNat 3 0 + a % 16 * 2 ^ 4 + bits w.toNat 61 8 * 2 ^ 8 + bits w.toNat 74 64 * 2 ^ 64
    + bits w.toNat 197 80 * 2 ^ 80 + bits w.toNat 391 200 * 2 ^ 200
  let par := (List.range 8).foldl (fun n i =>
    n + b2n (Config.parityOf i (BitVec.ofNat 64 (keep / 2 ^ (64 * i)))) * 2 ^ i) 0
  BitVec.ofNat 512 (keep + par * 2 ^ 504)
/-- The rights of R54 to what an entry names: its port, its channel, the block its jump enters. -/
def State.entryAllowed (s : State) (a : Nat) (w : DeliveryWord) : Bool :=
  if a = 0 then true
  else if dType w = 1 then decide (s.portOwner (dLp w) = a)
  else if dType w = 2 then decide (s.intakeOwner (dIntake w) = a)
  else if dType w = 3 then
    let b := s.block (dNext w / 4096)
    decide (b.owner = some a) || b.linkFrom.getLsbD a
  else true
/-- DELIVERY_WRITE (R21, R54, R55). -/
def State.writeDelivery (s : State) (a i : Nat) (w : DeliveryWord) : Nat × State :=
  if 33554432 ≤ i then (1, s)
  else if !ownsRecord a (s.block (i / 4096)).owner || !s.entryAllowed a w then (2, s)
  else
    let o := s.delivery 0 i
    let isDest := fun e => dType e = 1 || dType e = 2
    if isDest o && isDest w && decide (dDie o ≠ dDie w) then (11, s)
    else
      let e := storedEntry a w
      let s := (s.setDelivery 0 i e).setDelivery 1 i e
      (0, { s with fwd := { s.fwd with
              badDelivery := s.fwd.badDelivery.filter (fun k => !decide (k % 33554432 = i)) } })
/-- DELIVERY_READ: the P0 copy. -/
def State.readDelivery (s : State) (a i : Nat) : Nat × List Byte :=
  if 33554432 ≤ i then (1, [])
  else if !ownsRecord a (s.block (i / 4096)).owner then (2, [])
  else (0, natLe 64 (s.delivery 0 i).toNat)
/-- BLOCK_GRANT (R54). -/
def State.grantBlock (s : State) (a b owner link : Nat) : Nat × State :=
  let s := if 8191 < b ∨ 15 < owner then s.clamp a else s
  (0, s.setBlock (min b 8191) { owner := some (min owner 15), linkFrom := BitVec.ofNat 16 link })
/-- STATIC_L2 (R63, R65): written to all eight pipelines. -/
def State.writeStatic (s : State) (a vid : Nat) (m : Mac) (lp : Nat) (remove : Bool) : Nat × State :=
  if vid = 0 ∨ 4094 < vid ∨ 1024 ≤ lp then (1, s)
  else if !ownsRecord a (some (s.vlanOwner vid)) then (2, s)
  else if remove then
    if (s.pipe 0).l2.any (fun e => e.static && decide (e.vid = vid) && decide (e.mac = m)) then
      (0, (List.range 8).foldl (fun s pl => s.modPipe pl (fun p =>
        { p with l2 := p.l2.filter (fun e => !(e.static && decide (e.vid = vid) && decide (e.mac = m))) })) s)
    else (1, s)
  else (0, (List.range 8).foldl (fun s pl => s.modPipe pl (fun p =>
    { p with l2 := (p.l2.filter (fun e => !(decide (e.vid = vid) && decide (e.mac = m)))) ++
               [{ vid := vid, mac := m, lp := lp, stamp := s.stampNow, static := true }] })) s)

/-- The Shed rewrites failed flow, static and VLAN entries from the Almanac (R67). -/
def State.rewriteParity (s : State) (pl : Nat) : State :=
  if !s.shedLive then s
  else s.modPipe pl (fun p =>
    { p with flows := p.flows.map (fun x => { x with bad := false }), l2 := p.l2.map (fun e => { e with bad := false }),
             badVlans := [] })
/-- The Shed rewrites an uncorrectable delivery entry from the other die's copy (R68). -/
def State.rewriteDelivery (s : State) (die i : Nat) : State :=
  if !s.shedLive || !decide (33554432 * die + i ∈ s.fwd.badDelivery) then s
  else
    let s := s.setDelivery die i (s.delivery (1 - die) i)
    { s with fwd := { s.fwd with badDelivery := removeFrom s.fwd.badDelivery (33554432 * die + i) } }

/-- A pipeline returns with an empty learned table, its flow table reloaded from the Almanac (R69). -/
def State.reloadPipe (s : State) (pl : Nat) : State :=
  s.modPipe pl (fun p =>
    { p with flows := p.flows.map (fun x => { x with bad := false })
             l2 := (p.l2.filter (·.static)).map (fun e => { e with bad := false })
             badVlans := [], rr := 0, learnT := 0, released := true })
/-- A die's copy of the delivery table is rewritten from the other die's copy (R69). -/
def State.reloadCopy (s : State) (die : Nat) : State :=
  let s := if die = 0 then { s with fwd := { s.fwd with delivery0 := s.fwd.delivery1 } }
           else { s with fwd := { s.fwd with delivery1 := s.fwd.delivery0 } }
  { s with fwd := { s.fwd with badDelivery := s.fwd.badDelivery.filter (fun k => !decide (k / 33554432 = die)) } }

end Sys2Proof.Machine
end

