-- ==== Sys2Proof/Machine/Intake.lean ====
section
/-! DEFINITION. Raster intake (04): legs and their merge, lines and pictures in the source store, conditioning, feeds and
cut orders. -/

namespace Sys2Proof.Machine

/-! ## Rates and times (R492, R493) -/

/-- The picture rate of a rate code, num/den (Table 04.5); code 10 stands for every code above it. -/
def rateOf (code : Nat) : Nat × Nat :=
  match code with
  | 0 => (24000, 1001) | 1 => (24, 1) | 2 => (25, 1) | 3 => (30000, 1001) | 4 => (30, 1) | 5 => (50, 1)
  | 6 => (60000, 1001) | 7 => (60, 1) | 8 => (100, 1) | 9 => (120000, 1001) | _ => (120, 1)
/-- Picture period in ns, rounded down. -/
def periodNs (rate : Nat × Nat) : Nat := 1000000000 * rate.2 / rate.1
/-- `k` line periods of a picture of `h` lines, in ns rounded down (R493). -/
def linesNs (h k : Nat) (rate : Nat × Nat) : Nat := 24 * rate.2 * k * 1000000000 / (25 * h * rate.1)
/-- The sampling instant that a received 90 kHz RTP timestamp names (R475): the tick count nearest to that of the arrival,
of two equally near the earlier; the instant is rounded up. -/
def instantOf (now : Nat) (ts : BitVec 32) : Nat :=
  let n := now * 9 / 100000
  let d := toSigned 32 ((ts - BitVec.ofNat 32 n).toNat)
  ((((n : Int) + d) * 100000 + 8) / 9).toNat
/-- The RTP timestamp of an instant at 90 kHz (R475). -/
def rtpOf (t : Nat) : BitVec 32 := BitVec.ofNat 32 (t * 9 / 100000)
/-- Grid instant `k` of a picture rate (R474). -/
def gridAt (rate : Nat × Nat) (k : Nat) : Nat := k * rate.2 * 1000000000 / rate.1
/-- The grid instant nearest to `t` (R474); of two equally near, the earlier (DEDUCED, log entry 27). -/
def gridNear (rate : Nat × Nat) (t : Nat) : Nat :=
  let k := (t * rate.1) / (rate.2 * 1000000000)
  let a := gridAt rate k
  let b := gridAt rate (k + 1)
  if b - t < t - a then b else a
/-- A timestamp or ESN of 32 bits is newer than another. -/
def newer32 (a b : Nat) : Bool := let d := (a + 4294967296 - b % 4294967296) % 4294967296; decide (d ≠ 0) && decide (d < 2147483648)

/-- FORMAT of an intake channel: width, height, sampling, depth, scan, rate code (E 20.cccc.03). -/
structure Fmt where
  w : Nat
  h : Nat
  sampling : Nat
  depth : Nat
  scan : Nat
  rate : Nat
  deriving DecidableEq, Repr
def fmtOf (b : List Byte) : Fmt :=
  { w := fieldAt b 0 2, h := fieldAt b 2 2, sampling := fieldAt b 4 1, depth := fieldAt b 5 1, scan := fieldAt b 6 1,
    rate := fieldAt b 7 1 }
def State.intakeFmt (s : State) (c : Nat) : Fmt := fmtOf (s.cfg 0x20 c 0x03)
/-- Height of a picture: a field of an interlaced format has half the lines (R98, R493). -/
def Fmt.lines (f : Fmt) : Nat := if f.scan = 1 then f.h / 2 else f.h
/-- A crop rectangle clamped to lie within the received picture, its left edge and width even for 4:2:2 (R106). -/
def clampCrop (f : Fmt) (r : Nat × Nat × Nat × Nat) : Nat × Nat × Nat × Nat :=
  let step := if f.sampling = 0 then 2 else 1
  let even := fun n => n / step * step
  let l := even (min r.1 (f.w - step))
  let t := min r.2.1 (f.lines - 1)
  (l, t, Nat.max (even (min r.2.2.1 (f.w - l))) step, Nat.max (min r.2.2.2 (f.lines - t)) 1)
/-- Crop rectangle: left, top, width, height; by default the whole picture. A rectangle written before FORMAT became
smaller is clamped into the picture (R106). -/
def State.crop (s : State) (c : Nat) : Nat × Nat × Nat × Nat :=
  let b := s.cfg 0x20 c 0x06
  let f := s.intakeFmt c
  if b.isEmpty then (0, 0, f.w, f.lines)
  else clampCrop f (fieldAt b 0 2, fieldAt b 2 2, fieldAt b 4 2, fieldAt b 6 2)
/-- A size within what the scaler takes: one eighth to four times the cropped size (R107). -/
def scaleInto (size n : Nat) : Nat := Nat.max (ceilDiv size 8) (min n (4 * size))
/-- Scaled size; by default the cropped size. A size written before CROP or FORMAT changed is brought within what the scaler
takes (R107). -/
def State.scale (s : State) (c : Nat) : Nat × Nat :=
  let b := s.cfg 0x20 c 0x07
  let (_, _, w, h) := s.crop c
  if b.isEmpty then (w, h) else (scaleInto w (fieldAt b 0 2), scaleInto h (fieldAt b 2 2))
/-- The conditioning of a channel as its entries stand. -/
def State.condOf (s : State) (c : Nat) : Cond :=
  let f := s.intakeFmt c
  let (_, _, w, h) := s.crop c
  let (sw, sh) := s.scale c
  { sampling := f.sampling, rate := f.rate, w := w, h := h, sw := sw, sh := sh, orient := s.cfgN 0x20 c 0x0A,
    filter := s.cfgN 0x20 c 0x08, coef := (s.intake c).coef }
/-- Conditioned size: the scaled size, turned by the orientations that swap the axes (R108). -/
def Cond.size (k : Cond) : Nat × Nat := if 4 ≤ k.orient then (k.sh, k.sw) else (k.sw, k.sh)
/-- Conditioned size of a channel as its entries stand. -/
def State.conditioned (s : State) (c : Nat) : Nat × Nat := (s.condOf c).size
/-- The options of Table 04.1. -/
def takesFormat (f : Fmt) : Bool :=
  decide (256 ≤ f.w) && decide (f.w ≤ 7680) && decide (144 ≤ f.h) && decide (f.h ≤ 4320) &&
    (decide (f.sampling = 1) || (decide (f.sampling = 0) && decide (f.w % 2 = 0))) &&
    (decide (f.depth = 8) || decide (f.depth = 10) || decide (f.depth = 12)) &&
    (decide (f.scan = 0) || (decide (f.w = 1920) && decide (f.h = 1080))) &&
    (decide (f.rate < 8) || (decide (f.rate < 11) && decide (f.w ≤ 1920) && decide (f.h ≤ 1080)))
/-- Sample words of a pixel: 4:2:2 has two, others three. -/
def wordsPer (sampling : Nat) : Nat := if sampling = 0 then 2 else 3

/-- ARRIVAL_OFFSET: the largest of the last 64 pictures (04, Feeds). -/
def Intake.arrivalOffset (i : Intake) : Nat := i.offsets.foldl Nat.max 0
/-- MERGE_WAIT in ns. -/
def State.mergeWait (s : State) (c : Nat) : Nat := s.cfgN 0x20 c 0x05 * 1000
/-- What conditioning adds after the merge (Table 04.2, R109): source lines and picture periods. -/
def State.conditionCost (s : State) (c : Nat) : Nat × Nat :=
  let (_, _, _, h) := s.crop c
  let o := s.cfgN 0x20 c 0x0A
  ((if (s.scale c).2 ≠ h then 4 else 0) + b2n (decide (o = 1)), b2n (decide (2 ≤ o)))
/-- LATENCY of a channel in ns, rounded down (E 20.cccc.12, R493): one line for the merge, and its conditioning. -/
def State.intakeLatency (s : State) (c : Nat) : Nat :=
  let f := s.intakeFmt c
  let r := rateOf f.rate
  let (lines, periods) := s.conditionCost c
  let h := Nat.max 1 f.lines
  (24 * r.2 * (lines + 1) * 1000000000 + periods * 25 * h * r.2 * 1000000000) / (25 * h * r.1)

/-! ## Lines and pictures (R102, R103, R105, R106) -/

/-- The 12-bit black of the `j`-th sample word of a line: 256 for luma, 2048 for chroma (R103). -/
def blackWord (sampling j : Nat) : Nat := if j % wordsPer sampling = 1 then 256 else 2048
/-- Samples of a line with some of them replaced from an index on; samples that were never received are black (R103). -/
def placeSamples (sampling : Nat) (old : List Nat) (at_ : Nat) (x : List Nat) : List Nat :=
  let pad := (List.range (at_ - old.length)).map (fun j => blackWord sampling (old.length + j))
  (old ++ pad).take at_ ++ x ++ old.drop (at_ + x.length)
/-- Write samples of one received line into the store: cut to the configured width, cropped, widened to 12 bits. -/
def State.writeSeg (s : State) (c : Nat) (g : Seg) : State :=
  let f := s.intakeFmt c
  let n := wordsPer f.sampling
  let (left, top, w, h) := s.crop c
  if f.lines ≤ g.row then
    if g.row ∈ (s.intake c).extraRows then s
    else (s.modIntake c (fun i => { i with extraRows := g.row :: i.extraRows })).countIntake c 3 1
  else
    let room := n * f.w - n * g.off
    let x := g.samples.take room
    let s := if room < g.samples.length ∧ g.row ∉ (s.intake c).longRows then
        (s.modIntake c (fun i => { i with longRows := g.row :: i.longRows })).countIntake c 4 1 else s
    if g.row < top ∨ top + h ≤ g.row then s
    else
      let k := g.row - top
      -- the part of the segment that lies within the crop, by sample word
      let skip := n * (left - g.off)
      let x := (x.drop skip).take (n * (left + w) - n * Nat.max g.off left)
      let at_ := n * (g.off - left)
      s.modIntake c (fun i =>
        let l := tget (fun _ => ({} : StoreLine)) i.store k
        let wide := x.map (fun v => v * 2 ^ (12 - f.depth))
        let l := { l with samples := placeSamples f.sampling l.samples at_ wide, got := l.got + wide.length }
        { i with store := tput (fun _ => {}) i.store k l })

/-- Every sample of line `k` of the picture being received has come. -/
def State.lineWhole (s : State) (c k : Nat) : Bool :=
  let (_, _, w, _) := s.crop c
  decide (wordsPer (s.intakeFmt c).sampling * w ≤ (tget (fun _ => ({} : StoreLine)) (s.intake c).store k).got)
/-- Line `k` of the picture being received is released to conditioning: whole, or after MERGE_WAIT (R100). -/
def State.lineReady (s : State) (c k : Nat) : Bool :=
  s.lineWhole c k || (tget (fun _ => ({} : StoreLine)) (s.intake c).store k).released

/-- Configurations of the channel that wait for its next picture boundary take effect (R119, R107). (DEDUCED, log
entry 91.) -/
def State.applyIntake (s : State) (c : Nat) : State :=
  let p := (s.intake c).pending
  let s := p.foldl (fun s e => s.setCfg 0x20 c e.1 e.2) s
  s.modIntake c (fun i =>
    { i with pending := [], coef := if i.coefPending.isEmpty then i.coef else i.coefPending, coefPending := [] })

/-- Sampling instant of the channel's open picture. -/
def State.openInstant (s : State) (c : Nat) : Option Nat := (s.intake c).openTs.map (instantOf s.now)

/-- The open picture ends (R102, R103): each line with a sample missing counts as filled and keeps the previous picture's
samples; the picture stands complete in the store. -/
def State.endPicture (s : State) (c : Nat) : State :=
  match (s.intake c).openTs with
  | none => s
  | some ts =>
    let (_, _, _, h) := s.crop c
    let filled := ((List.range h).filter (fun k => !s.lineWhole c k)).length
    let s := if filled = 0 then s else s.countIntake c 2 filled
    s.modIntake c (fun i =>
      let done := i.store.map (fun e => (e.1, { e.2 with got := 0, released := false }))
      { i with store := done.filter (fun e => !decide (e.2 = {})), store2 := done.filter (fun e => !decide (e.2 = {})),
               openTs := none, endedTs := some ts, held := true, pictures := i.pictures + 1, extraRows := [],
               longRows := [] })

/-- The first packet of a picture opens it: the channel stands at its boundary (R119). -/
def State.openPicture (s : State) (c : Nat) (ts : BitVec 32) : State :=
  (s.applyIntake c).modIntake c (fun i => { i with openTs := some ts, openSince := s.now, missing := false })

/-- Line 0 of the open picture has become ready: its offset is measured (04, Feeds). -/
def State.measureOffset (s : State) (c : Nat) (was : Bool) : State :=
  if !was && s.lineReady c 0 then
    match s.openInstant c with
    | none => s
    | some b => s.modIntake c (fun i => { i with offsets := (s.now - b) :: i.offsets.take 63 })
  else s

/-- A raster packet's samples reach the store (R102, R103): a packet of an ended picture is late; one of a newer picture
ends the open one first; the marker ends its own. -/
def State.rasterPacket (s : State) (c : Nat) (p : IntakePkt) : State :=
  let i := s.intake c
  let stale := (i.endedTs.any (fun e => !newer32 p.ts.toNat e.toNat)) ||
    i.openTs.any (fun o => newer32 o.toNat p.ts.toNat)
  if stale then s.countIntake c 1 1
  else
    let s := if i.openTs.any (fun o => decide (o ≠ p.ts)) then s.endPicture c else s
    let s := if (s.intake c).openTs.isNone then s.openPicture c p.ts else s
    let was := s.lineReady c 0
    let s := p.segs.foldl (fun s g => s.writeSeg c g) s
    let s := s.measureOffset c was
    if p.marker then s.endPicture c else s

/-! ## The merge (R99 to R101) -/

/-- A leg delivers a packet: it is up from now on (R101). -/
def State.legSeen (s : State) (c leg : Nat) : State :=
  s.modIntake c (fun i => if leg = 0 then { i with legA := true, lastA := s.now } else { i with legB := true, lastB := s.now })
/-- A leg has delivered no packet for 1 ms: it is shown as down and counted (R101). -/
def State.legDown (s : State) (c leg : Nat) : State :=
  let i := s.intake c
  let up := if leg = 0 then i.legA else i.legB
  let last := if leg = 0 then i.lastA else i.lastB
  if up && decide (last + 1000000 ≤ s.now) then
    (s.modIntake c (fun i => if leg = 0 then { i with legA := false } else { i with legB := false })).countIntake c 6 1
  else s

/-- A packet older than the oldest ESN that belongs to a line of the open picture still open: the first line received may
have begun with it (R99). -/
def State.ofOpenLine (s : State) (c : Nat) (p : IntakePkt) : Bool :=
  let (_, top, _, h) := s.crop c
  decide ((s.intake c).openTs = some p.ts) &&
    p.segs.any (fun g => decide (top ≤ g.row) && decide (g.row < top + h) && !s.lineReady c (g.row - top))
/-- What the merge makes of a packet (R99): 0 the first copy, 1 a duplicate, 2 late. Commands of one clock give leg A's copy
first (DEDUCED, log entry 116). -/
def State.judgePacket (s : State) (c : Nat) (p : IntakePkt) : Nat :=
  let i := s.intake c
  if p.esn ∈ i.seen then 1 else if newer32 i.oldest p.esn && !s.ofOpenLine c p then 2 else 0
/-- The first ESN after `e` not in the list, within the ESNs received. -/
def firstMissing (seen : List Nat) : Nat → Nat → Nat
  | 0, e => e
  | fuel + 1, e => if e ∈ seen then firstMissing seen fuel ((e + 1) % 4294967296) else e
/-- The packets received behind the first missing ESN, and the earliest of their arrivals, from which MERGE_WAIT runs
(R100). -/
def Intake.regap (i : Intake) : Intake :=
  let m := firstMissing i.seen (i.seen.length + 1) i.oldest
  let behind := i.behind.filter (fun b => newer32 b.esn m)
  match behind with
  | [] => { i with oldest := m, gapFrom := none, behind := [] }
  | b :: r => { i with oldest := m, gapFrom := some m, gapSince := r.foldl (fun t x => min t x.t) b.t, behind := behind }
/-- Record a first copy: ESNs too far back to be told from newer ones are forgotten; the ESNs received without a gap lie
behind the oldest line still open; a gap below the highest ESN starts or ends its wait (R99, R100). -/
def Intake.accept (i : Intake) (p : IntakePkt) (now : Nat) : Intake :=
  let seen := p.esn :: i.seen.filter (fun x => newer32 p.esn x || newer32 x p.esn)
  let top := match i.top with
    | none => p.esn
    | some t => if newer32 p.esn t then p.esn else t
  let new : Behind := { esn := p.esn, t := now, ts := p.ts, row := (p.segs.head?.map (·.row)).getD 0 }
  Intake.regap { i with seen := seen, top := some top, oldest := if i.top.isNone then p.esn else i.oldest,
                        behind := new :: i.behind }
/-- The packet that follows the gap, by ESN. -/
def Intake.afterGap (i : Intake) : Option Behind :=
  match i.behind with
  | [] => none
  | b :: r => some (r.foldl (fun m x => if newer32 m.esn x.esn then x else m) b)
/-- MERGE_WAIT has run out on a gap: a packet older than the one that follows the gap is late from now on (R99, R100). -/
def Intake.closeGap (i : Intake) : Intake :=
  match i.gapFrom, i.afterGap with
  | some _, some b => Intake.regap { i with oldest := b.esn }
  | _, _ => i
/-- The lines of the open picture that the packet after a gap follows are released as they are (R100). -/
def State.releaseLines (s : State) (c : Nat) : State :=
  let (_, top, _, h) := s.crop c
  match (s.intake c).gapFrom, (s.intake c).afterGap with
  | some _, some b =>
    if (s.intake c).openTs ≠ some b.ts then s
    else s.modIntake c (fun i =>
      { i with store := (List.range (min h (b.row - top))).foldl (fun t k =>
                 tput (fun _ => {}) t k { tget (fun _ => ({} : StoreLine)) t k with released := true }) i.store })
  | _, _ => s
/-- The wait of a gap is over. -/
def State.gapDue (s : State) (c : Nat) : Bool :=
  (s.intake c).gapFrom.isSome && decide ((s.intake c).gapSince + s.mergeWait c ≤ s.now)

/-! ## Conditioned lines (R105, R107, R108) -/

/-- A sample of the store by plane (0 luma, 1 Cb, 2 Cr); black where nothing was ever received (R103). -/
def storeSample (t : Tab StoreLine) (sampling plane x y : Nat) : Int :=
  let k := if sampling = 0 then
      (if plane = 0 then x / 2 * 4 + 1 + 2 * (x % 2) else if plane = 1 then 4 * x else 4 * x + 2)
    else (if plane = 0 then 3 * x + 1 else if plane = 1 then 3 * x else 3 * x + 2)
  (((tget (fun _ => ({} : StoreLine)) t y).samples.getD k (if plane = 0 then 256 else 2048) : Nat) : Int)
/-- A tap of a fixed filter set, a free value within R107's bounds: 10-bit signed, the last tap making the sum 512. (DESIGN
CHOICE, log entry 10.) -/
def fixedTap (set axis phase tap : Nat) : Int :=
  let free := fun t => clip (Config.filterCoef set axis phase t) (-512) 511
  let last := if axis = 0 then 7 else 5
  if tap = last then 512 - (List.range last).foldl (fun a t => a + free t) 0 else free tap
/-- A coefficient of a filter set: the fixed sets, or the custom set as it was loaded (8 horizontal, then 6 vertical
taps of each phase). -/
def filterTap (coef : List Byte) (set axis phase tap : Nat) : Int :=
  if set = 3 then toSigned 16 (fieldAt coef (2 * (14 * phase + 8 * axis + tap)) 2) else fixedTap set axis phase tap
/-- First source sample and phase, 0 to 63, of an output sample on an axis with `taps` taps. (DESIGN CHOICE, log
entry 10.) -/
def phaseOf (size out x taps : Nat) : Int × Nat :=
  let p := Config.scalerPhase size out x taps
  (p.1, p.2 % 64)
/-- A sample of a scaled plane: 8 by 6 taps, rounded half up, clipped to 12 bits, edges repeated (R107). -/
def scaledSample (coef : List Byte) (set iw ih ow oh : Nat) (src : Nat → Nat → Int) (x y : Nat) : Int :=
  if iw = ow ∧ ih = oh then src x y
  else
    let (x0, px) := if iw = ow then ((x : Int), 0) else phaseOf iw ow x 8
    let (y0, py) := if ih = oh then ((y : Int), 0) else phaseOf ih oh y 6
    let hx := fun (yy : Nat) =>
      if iw = ow then 512 * src x yy
      else (List.range 8).foldl (fun (a : Int) t =>
        a + filterTap coef set 0 px t * src (clip (x0 + t) 0 (iw - 1)).toNat yy) 0
    let sum := if ih = oh then 512 * hx y
      else (List.range 6).foldl (fun (a : Int) t =>
        a + filterTap coef set 1 py t * hx (clip (y0 + t) 0 (ih - 1)).toNat) 0
    clip ((sum + 131072) / 262144) 0 4095
/-- Where an output sample lies in a plane of `w` by `h` before orientation: none, mirror, 180°, flip, 90°, 270°,
transpose, anti-transpose (R108). 90° and 270° turn clockwise (DESIGN CHOICE, log entry 117). -/
def orientXY (o w h x y : Nat) : Nat × Nat :=
  match o with
  | 0 => (x, y)
  | 1 => (w - 1 - x, y)
  | 2 => (w - 1 - x, h - 1 - y)
  | 3 => (x, h - 1 - y)
  | 4 => (y, h - 1 - x)
  | 5 => (w - 1 - y, x)
  | 6 => (y, x)
  | _ => (w - 1 - y, h - 1 - x)
/-- One sample of a conditioned plane, read from a source store. -/
def Cond.sample (d : Cond) (t : Tab StoreLine) (plane x y : Nat) : Int :=
  let half := fun n => if plane ≠ 0 ∧ d.sampling = 0 then n / 2 else n
  let scaled := scaledSample d.coef d.filter (half d.w) d.h (half d.sw) d.sh (storeSample t d.sampling plane)
  if 4 ≤ d.orient ∧ plane ≠ 0 ∧ d.sampling = 0 then
    -- a turned 4:2:2 plane has its halved axis upright: it is resampled with the standard set
    scaledSample d.coef 1 d.sh (d.sw / 2) (d.sh / 2) d.sw
      (fun x y => let p := orientXY d.orient (d.sw / 2) d.sh x y; scaled p.1 p.2) x y
  else let p := orientXY d.orient (half d.sw) d.sh x y; scaled p.1 p.2
/-- Pixels `x0` to `x1` of line `k` of a conditioned picture, in the order of its pixel groups. -/
def Cond.strip (d : Cond) (t : Tab StoreLine) (k x0 x1 : Nat) : List Nat :=
  let v := fun plane x => (d.sample t plane x k).toNat
  if d.sampling = 0 then
    (List.range ((x1 - x0) / 2)).flatMap (fun j =>
      let x := x0 / 2 + j
      [v 1 x, v 0 (2 * x), v 2 x, v 0 (2 * x + 1)])
  else (List.range (x1 - x0)).flatMap (fun j => [v 1 (x0 + j), v 0 (x0 + j), v 2 (x0 + j)])
/-- The source store that a feed reads: the picture being received, or the complete one for an orientation that reads the
last line first (R108). -/
def Intake.readStore (i : Intake) (d : Cond) : Tab StoreLine := if d.orient ≤ 1 then i.store else i.store2
/-- The strip line `k` of a channel's conditioned picture. -/
def State.stripLine (s : State) (c k : Nat) : List Nat :=
  let d := s.condOf c
  d.strip ((s.intake c).readStore d) k 0 d.size.1
/-- Source lines that line `k` of a conditioned picture needs, when it reads them as they come (R107, R108). -/
def Cond.sources (d : Cond) (k : Nat) : List Nat :=
  if d.sh = d.h then [k] else (List.range 6).map (fun t => (clip ((phaseOf d.h d.sh k 6).1 + t) 0 ((d.h : Int) - 1)).toNat)

/-! ## Tile columns (R141) -/

/-- The width in CTUs of member `k`'s tile column, of `w` CTUs over a gang of `n`. -/
def tileWidth (w n k : Nat) : Nat := w / n + (if k < w % n then 1 else 0)
/-- The first CTU column of member `k`'s tile column. -/
def tileStart (w n k : Nat) : Nat := (List.range k).foldl (fun a j => a + tileWidth w n j) 0
/-- The pixels of a line that a member's strip holds: its tile column and 16 samples on each side (R141). -/
def stripSpan (width ctu gang k : Nat) : Nat × Nat :=
  let cols := ceilDiv width ctu
  let x0 := tileStart cols gang k * ctu
  let x1 := min width ((tileStart cols gang k + tileWidth cols gang k) * ctu)
  if gang ≤ 1 then (0, width) else (x0 - 16, min width (x1 + 16))

/-! ## Feeds (R110 to R112) -/

/-- Count in E 20.2sss.10 + `i`. -/
def State.countFeed (s : State) (n i k : Nat) : State := s.modFeed n (fun f => { f with counts := bumpAt f.counts i k })
/-- ALIGN of a feed in ns (E 20.2sss.04). -/
def State.align (s : State) (n : Nat) : Nat := s.cfgN 0x20 (0x2000 + n) 0x04
/-- The beds a feed sends strips to (R24, R255): lead and partner of the twin, or the beds of an unprotected stream, and a
scion from the picture of its cutting boundary on. -/
def State.members (s : State) (n : Nat) : List Nat :=
  let w := s.twin n
  w.lead ++ w.partner ++
    (if !w.retrial ∧ w.cuttingAt ≠ 0 ∧ w.cuttingAt ≤ (s.feed n).picture then w.scion else [])
/-- The picture that a feed reads has all that its line `k` needs in the channel's store (R107, R108, R110). -/
def State.lineInStore (s : State) (c instant k : Nat) (d : Cond) : Bool :=
  (decide (d.orient ≤ 1) && decide (s.openInstant c = some instant) && (d.sources k).all (fun y => s.lineReady c y)) ||
    (s.intake c).endedTs.any (fun e => decide (instant ≤ instantOf s.now e))
/-- The conditioning of the picture that a feed reads from a channel. -/
def State.feedCond (s : State) (n c : Nat) : Cond := (s.feed n).cond.getD (s.condOf c)

/-- The picture of a sampling instant is coded as a repeat picture, in every tier (R112, R172, Table 07.1). -/
def State.repeatPicture (s : State) (n instant : Nat) : State :=
  let tiers := (List.range (s.cfg 0x22 n 0x01).length).filterMap (fun k =>
    if k % 2 = 0 then some (fieldAt (s.cfg 0x22 n 0x01) k 2) else none)
  let s := s.countFeed n 1 1
  (n :: tiers).foldl (fun (s : State) m =>
    s.modSlot m (fun x =>
      let pics := x.pics.map (fun p => if p.instant = instant then { p with rep := true } else p)
      { x with pics := pics, repeat_ := pics.any (fun p => decide (p.no = x.codedNo) && p.rep) })) s

/-- A feed that has read its picture goes on to the next one begun, from the channel in force at its boundary, under the
conditioning in force as it begins to read (R119). -/
def State.nextFeedPicture (s : State) (n : Nat) : State :=
  let f := s.feed n
  let finished := match f.reading with
    | none => true
    | some c => decide ((s.feedCond n c).size.2 ≤ f.line)
  if !finished then s
  else match (s.slot n).pics.reverse.find? (fun p => decide (f.picture < p.instant)) with
    | none => s
    | some p => s.modFeed n (fun f =>
        { f with picture := p.instant, line := 0, reading := f.source, cond := f.source.map (fun c => s.condOf c),
                 mark := 0, standbyMark := 0, acks := [] })

/-- The time at which a feed reads line `k` of its picture: its sampling instant, ALIGN and `k` line periods; an orientation
that reads the last line first reads one picture period later, when the picture is complete (R108 to R110). (DEDUCED, log
entry 118.) -/
def State.lineTime (s : State) (n k : Nat) (d : Cond) : Nat :=
  (s.feed n).picture + s.align n + (if 2 ≤ d.orient then periodNs (rateOf d.rate) else 0) +
    linesNs d.size.2 k (rateOf d.rate)
/-- The channel whose next line a feed reads now (R110); a PRUNED pipeline die reads no line of its channels (R15). -/
def State.feedDue (s : State) (n : Nat) : Option Nat :=
  let f := s.feed n
  f.reading.filter (fun c =>
    let d := s.feedCond n c
    !s.diePruned (intakeDie c) && decide (f.line < d.size.2) && decide (s.lineTime n f.line d ≤ s.now))
/-- A strip goes over the Trellis to a bed, or is held while a link moves a lane (R20). The bed holds it at its Trellis port, in
place of a copy of the line that it has not used (R24); a member of a twin may use it once the common mark that it has been
told reaches the line (R235). -/
def State.sendStrip (s : State) (die n b line : Nat) (x : List Nat) : State :=
  if s.linkHolds (8 + die) (bedDie b) then s.hold (8 + die) (bedDie b) (.strip die n b line x)
  else
    let at_ := (s.feed n).picture
    (s.modBed b (fun y =>
      let rest := y.strips.filter (fun l => !decide ((l.slot, l.picture, l.line) = (n, at_, line)))
      { y with strips := rest ++ [{ slot := n, picture := at_, line := line, usable := (s.twin n).partner.isEmpty,
                                    samples := x }] })).emit (.strip s.now n b line x)
/-- What a feed decides at line 0 of a picture, once for every member (R111, R112): the beds take it directly when every
member has started its last CTU row; else it is pending, and replaces one that is pending already, whose slot is coded as a
repeat picture. -/
def State.feedStarts (s : State) (n : Nat) : State :=
  let f := s.feed n
  let put := fun (f : Feed) => { f with toHold := true, pend := some f.picture, pendBuf := 1 - f.pendBuf }
  match f.pend with
  | some old => (((s.repeatPicture n old).modFeed n put).countFeed n 0 1)
  | none => if f.busy.isEmpty then s.modFeed n (fun f => { f with toHold := false, busy := s.members n }) else s.modFeed n put
/-- A feed reads its next line and sends it as a strip to every member, to a gang's members by their tile columns (R24, R110,
R141). -/
def State.feedLine (s : State) (n c : Nat) (storeError : Bool) : State :=
  let f := s.feed n
  let d := s.feedCond n c
  let s := if f.line ≠ 0 then s else s.feedStarts n
  let late := storeError || !s.lineInStore c f.picture f.line d
  let s := if late then s.countFeed n 2 1 else s
  let s := s.modFeed n (fun f => { f with line := f.line + 1 })
  let gang := s.cfgN 0x21 n 0x0A
  (s.members n).foldl (fun (s : State) b =>
    let w := s.twin n
    let side := if b ∈ w.lead then w.lead else if b ∈ w.partner then w.partner else w.scion
    let r := stripSpan d.size.1 (Nat.max 1 (s.cfgN 0x21 n 0x09)) gang (side.idxOf b)
    s.sendStrip (intakeDie c) n b f.line (d.strip ((s.intake c).readStore d) f.line r.1 r.2)) s

/-- A bed takes the pending picture from its hold buffer once every member has started the last CTU row of the picture before
(R111). The first member's take binds the others, so that the beds take the same sequence of pictures (R112). -/
def State.takePending (s : State) (n b : Nat) : State :=
  let f := s.feed n
  let all := s.members n
  if !decide (b ∈ all) then s
  else if f.took ≠ [] then
    if b ∈ f.took then s
    else s.modFeed n (fun f =>
      let took := b :: f.took
      { f with took := if all.all (fun m => decide (m ∈ took)) then [] else took })
  else if f.pend.isNone || !f.busy.isEmpty then s
  else s.modFeed n (fun f =>
    { f with pend := none, toHold := false, busy := all,
             took := if all.all (fun m => decide (m = b)) then [] else [b] })
/-- A bed has started the last CTU row of the picture it took (R111). -/
def State.lastRowStarted (s : State) (n b : Nat) : State := s.modFeed n (fun f => { f with busy := removeFrom f.busy b })

/-! ## Cut orders (R113 to R115) -/

/-- Why a cut to a channel is refused (R115), as a status: 0 when it is not. -/
def State.cutRefusal (s : State) (n c : Nat) : Nat :=
  let o := (s.slot n).owner
  let differs := match (s.feed n).source with
    | none => false
    | some b =>
      let x := s.intakeFmt b
      let y := s.intakeFmt c
      decide (s.conditioned b ≠ s.conditioned c) || decide (x.sampling ≠ y.sampling) || decide (x.rate ≠ y.rate) ||
        decide (x.scan ≠ y.scan)
  if differs then 4
  else if (s.feed n).source.isSome && decide (s.align n < (s.intake c).arrivalOffset) then 15
  else if s.intakeOwner c ≠ o && !bit (s.cfgN 0x20 c 0x00) o then 2
  else 0

/-- Order a cut (R113 to R115, R236, Table 07.1): refused and counted, or held for its boundary, where one to the channel then
current changes nothing; before admission it names the feed's channel at once, judged by ALIGN as it stands (DEDUCED, log
entry 28). Answers the status. (DEDUCED, log entry 91.) -/
def State.orderCut (s : State) (n c time : Nat) (tally : Bool) : Nat × State :=
  let r := if (s.slot n).role = 2 then 3
    else if s.cfgN 0x21 n 0x04 = 1 ∧ 2 ≤ (s.slot n).st ∧ s.cfgN 0x24 (0x3000 + c) 0x01 = 0xFFFF then 16
    else s.cutRefusal n c
  if r ≠ 0 then (r, s.countFeed n 4 1)
  else if (s.slot n).st ≤ 1 then (0, s.modFeed n (fun f => { f with source := some c }))
  else (0, s.modFeed n (fun f => { f with cuts := f.cuts ++ [{ orderTime := time, tally := tally, ch := c }] }))

/-- Of two orders that fall on one boundary, the one that wins (R114); of Almanac orders with one order time, the one
accepted later. -/
def betterCut (a b : CutOrder) : CutOrder :=
  if a.orderTime < b.orderTime then b else if b.orderTime < a.orderTime then a else if a.tally && !b.tally then a else b
/-- The cut that falls on the boundary `b`, with the number of orders that lose to it (R113, R114). -/
def Feed.dueCut (f : Feed) (b : Nat) : Option (CutOrder × Nat) :=
  match f.cuts.filter (fun c => decide (c.orderTime + 50000 ≤ b)) with
  | [] => none
  | c :: r => some (r.foldl betterCut c, r.length)
/-- A cut takes effect at the next picture boundary of a feed (condition 14). -/
def State.cutNext (s : State) (n : Nat) : Bool :=
  let r := match (s.feed n).source with
    | some c => rateOf (s.intakeFmt c).rate
    | none => (1, 1)
  ((s.feed n).dueCut (gridAt r (s.now * r.1 / (r.2 * 1000000000) + 1))).any (fun c => decide ((s.feed n).source ≠ some c.1.ch))
/-- Take the cuts that fall on a boundary (R113, R114, R116); answers whether the channel changed. (DEDUCED, log entry
63.) -/
def State.takeCuts (s : State) (n : Nat) : Bool × State :=
  match (s.feed n).dueCut s.now with
  | none => (false, s)
  | some (c, lost) =>
    let s := if lost = 0 then s else s.countFeed n 3 lost
    let changed := decide ((s.feed n).source ≠ some c.ch)
    -- the standby of a protected feed moves to the target's PEER (R236)
    let s := if changed && decide (s.cfgN 0x24 n 0x05 ≠ 0xFFFF) then
        s.setCfgN 0x24 n 0x05 2 (s.cfgN 0x24 (0x3000 + c.ch) 0x01) else s
    (changed, s.modFeed n (fun f =>
      let rest := f.cuts.filter (fun x => !decide (x.orderTime + 50000 ≤ s.now))
      if changed then { f with cuts := rest, source := some c.ch, lastCut := s.now } else { f with cuts := rest }))

end Sys2Proof.Machine
end

