-- ==== Sys2Proof/Machine/Stream.lean ====
section
/-! DEFINITION. What a stream slot is set to code (06, 08): its format, rows, rates and members, and the meter blocks that count
its service (R416, R417). -/

namespace Sys2Proof.Machine

/-! ## A stream's format -/

/-- Chroma code (0 4:2:2, 1 4:4:4, 2 4:2:0, 3 the source's) and depth of a profile (Table 06.1). -/
def profileRow (codec profile : Nat) : Nat × Nat :=
  if codec = 0 then [(2, 8), (2, 10), (2, 12), (0, 10), (0, 12), (3, 12)].getD profile (2, 10)
  else [(2, 10), (2, 12), (3, 10), (3, 12)].getD profile (2, 10)

/-- Anchor of an espalier for a tier, the slot itself otherwise (R185). -/
def State.anchorOf (s : State) (n : Nat) : Nat := if (s.slot n).role = 2 then (s.slot n).anchor else n
/-- Slots listed in an anchor's TIERS entry (E 22.ssss.01). -/
def State.tiersOf (s : State) (n : Nat) : List Nat :=
  let b := s.cfg 0x22 n 0x01
  (List.range (b.length / 2)).map (fun k => fieldAt b (2 * k) 2)
/-- Every slot of the espalier that a slot anchors, itself first. -/
def State.ladder (s : State) (n : Nat) : List Nat := n :: s.tiersOf n

/-- FORMAT of an encode stream (E 21.ssss.08): width, height, scan, rate; chroma and depth are the profile's. -/
def State.encodeFmt (s : State) (n : Nat) : Fmt :=
  let b := s.cfg 0x21 n 0x08
  let p := profileRow (s.cfgN 0x21 n 0x05) (s.cfgN 0x21 n 0x06)
  let src := match (s.feed (s.anchorOf n)).source with
    | some c => (s.intakeFmt c).sampling
    | none => 0
  { w := fieldAt b 0 2, h := fieldAt b 2 2, sampling := if p.1 = 3 then src else p.1, depth := p.2,
    scan := fieldAt b 4 1, rate := fieldAt b 5 1 }
/-- FORMAT of a decode stream (E 23.ssss.08). -/
def State.decodeFmt (s : State) (n : Nat) : Fmt := fmtOf (s.cfg 0x23 n 0x08)
/-- The format of a stream by its kind (R183). -/
def State.slotFmt (s : State) (n : Nat) : Fmt := if (s.slot n).kind = 2 then s.decodeFmt n else s.encodeFmt n
/-- Picture rate of a stream; for a field format the field rate (R492). -/
def State.slotRate (s : State) (n : Nat) : Nat × Nat := rateOf (s.slotFmt n).rate
/-- Picture period of a stream in ns. -/
def State.slotPeriod (s : State) (n : Nat) : Nat := periodNs (s.slotRate n)
/-- CTU size of a stream. -/
def State.ctuOf (s : State) (n : Nat) : Nat := if (s.slot n).kind = 2 then (s.slot n).dec.ctu else s.cfgN 0x21 n 0x09
/-- CTU rows of a picture. -/
def State.rowsOfSlot (s : State) (n : Nat) : Nat := ceilDiv (s.slotFmt n).lines (s.ctuOf n)
/-- CTU columns of a picture. -/
def State.columnsOf (s : State) (n : Nat) : Nat := ceilDiv (s.slotFmt n).w (s.ctuOf n)
/-- CTUs of a picture. -/
def State.ctusOf (s : State) (n : Nat) : Nat := s.rowsOfSlot n * s.columnsOf n
/-- The member of a twin that a bed belongs to: every bed of its side; empty when it is in none. -/
def Twin.sideOf (w : Twin) (b : Nat) : List Nat :=
  if b ∈ w.lead then w.lead else if b ∈ w.partner then w.partner else if b ∈ w.scion then w.scion else []
/-- The beds pruned with a bed: its gang (R144, R251). -/
def State.gangOf (s : State) (b : Nat) : List Nat :=
  (s.bed b).slots.foldl (fun l n => ((s.twin n).sideOf b).foldl addTo l) [b]
/-- The CTU columns that a phase refreshes on a picture `w` CTUs wide: first and one past the last (R155). -/
def refreshColumn (w phase period : Nat) : Nat × Nat := (phase * w / period, (phase + 1) * w / period)
/-- The picture `no` of a stream, if it is one of the last begun. -/
def State.picOf (s : State) (n no : Nat) : Option Pic := (s.slot n).pics.find? (fun p => decide (p.no = no))
/-- Refresh group of a stream; a tier follows its anchor (R196). -/
def State.groupOf (s : State) (n : Nat) : Option Nat :=
  let g := s.cfgN 0x22 (s.anchorOf n) 0x06
  if g < 256 then some g else none
/-- GANG of a stream; decode streams are never ganged (R140). -/
def State.gangSize (s : State) (n : Nat) : Nat := if (s.slot n).kind = 2 then 1 else s.cfgN 0x21 n 0x0A
/-- PROTECT of a stream; a tier takes its anchor's (Table 07.1). -/
def State.protects (s : State) (n : Nat) : Bool :=
  if (s.slot n).kind = 2 then decide (s.cfgN 0x23 n 0x04 = 1) else decide (s.cfgN 0x21 (s.anchorOf n) 0x04 = 1)

/-- DELIVERY_P0 or DELIVERY_P1 of an encode stream; none when it is not set. -/
def State.deliveryOf (s : State) (n die : Nat) : Option Nat :=
  let v := s.cfgN 0x21 n (0x18 + die)
  if v = 0xFFFFFFFF then none else some v

/-! ## The meter (R416 to R418) -/

/-- Count usage in a die's meter block. -/
def State.meter (s : State) (die a cls : Nat) (u : Usage) : State :=
  if die = 0 then { s with gauge := { s.gauge with meter0 := addUsage s.gauge.meter0 a cls u } }
  else { s with gauge := { s.gauge with meter1 := addUsage s.gauge.meter1 a cls u } }
/-- Service class of a stream now (Table 18.1): 1 and 2 encode, 3 and 4 decode, the second of each while PROTECTED. -/
def State.serviceClass (s : State) (n : Nat) : Nat :=
  (if (s.slot n).kind = 2 then 3 else 1) + b2n (s.twin n).protected_
/-- Microseconds that picture `k` after admission adds (R417). -/
def pictureUs (k : Nat) (rate : Nat × Nat) : Nat := (k + 1) * rate.2 * 1000000 / rate.1 - k * rate.2 * 1000000 / rate.1
/-- Count picture or slot `k` of a stream, once for each stream: delivered, or covered by hold material. -/
def State.meterPicture (s : State) (die n k : Nat) (held : Bool) : State :=
  let us := pictureUs k (s.slotRate n)
  let s := s.meter die (s.slot n).owner (s.serviceClass n) (if held then { heldUs := us } else { pictureUs := us })
  s.modSlot n (fun x => { x with metered := k + 1 })

end Sys2Proof.Machine
end

