-- ==== Sys2Proof/Machine/Bitstream.lean ====
section
/-! DEFINITION. What an encode stream's bitstream holds (06): levels, parameter sets, picture types and the signals of the refresh,
slices and their contexts, the clean area, and the parts of a release unit in order. -/

namespace Sys2Proof.Machine

/-! ## Levels (R149): limits of ITU-T H.265 and H.266, level × 10, luma samples, samples per second, kbit/s -/

def levelTable : List (Nat × Nat × Nat × Nat) := [
  (10, 36864, 552960, 128), (20, 122880, 3686400, 1500), (21, 245760, 7372800, 3000), (30, 552960, 16588800, 6000),
  (31, 983040, 33177600, 10000), (40, 2228224, 66846720, 30000), (41, 2228224, 133693440, 50000),
  (50, 8912896, 267386880, 100000), (51, 8912896, 534773760, 160000), (52, 8912896, 1069547520, 240000),
  (60, 35651584, 1069547520, 240000), (61, 35651584, 2139095040, 480000), (62, 35651584, 4278190080, 800000)]
/-- Bits per unit of the level tables' rate and buffer for a profile. -/
def levelFactor (codec profile : Nat) : Nat :=
  if codec = 0 then [1000, 1000, 1500, 1667, 2000, 3000].getD profile 1000 else [1000, 1200, 2500, 3000].getD profile 1000
/-- The size coded: width and height rounded up to a multiple of 8 (Table 06.2). -/
def State.codedSize (s : State) (n : Nat) : Nat × Nat :=
  let f := s.encodeFmt n
  (8 * ceilDiv f.w 8, 8 * ceilDiv f.lines 8)
/-- The lowest level whose limits hold a stream (R149). (PRESUMED, log entry 62.) -/
def State.lowestLevel (s : State) (n : Nat) : Option Nat :=
  let (w, h) := s.codedSize n
  let (num, den) := rateOf (s.encodeFmt n).rate
  let k := levelFactor (s.cfgN 0x21 n 0x05) (s.cfgN 0x21 n 0x06)
  (levelTable.find? (fun l =>
    decide (w * h ≤ l.2.1) && decide (w * w ≤ 8 * l.2.1) && decide (h * h ≤ 8 * l.2.1) &&
      decide (w * h * num ≤ l.2.2.1 * den) && decide (1000 * s.cfgN 0x21 n 0x0F ≤ k * l.2.2.2) &&
      decide (s.cfgN 0x21 n 0x10 ≤ k * (if l.1 = 10 then 350 else l.2.2.2)))).map (·.1)
/-- Highest RATE_MAX and BUFFER that a stream's level allows (Table 06.8). -/
def State.levelTop (s : State) (n : Nat) : Nat × Nat :=
  let v := s.cfgN 0x21 n 0x07
  let k := levelFactor (s.cfgN 0x21 n 0x05) (s.cfgN 0x21 n 0x06)
  let l := (levelTable.find? (fun l => decide (l.1 = (if v = 0 then 62 else v)))).getD (62, 0, 0, 800000)
  (k * l.2.2.2 / 1000, k * (if l.1 = 10 then 350 else l.2.2.2))

/-- LEVEL of the coded stream (R149): the one that is set, else the lowest that holds it. -/
def State.levelFor (s : State) (n : Nat) : Nat :=
  let v := s.cfgN 0x21 n 0x07
  if v ≠ 0 then v else (s.lowestLevel n).getD 62

/-! ## Parameter sets (R149, R150, R157, R166, R188) -/

/-- The parameter sets of a stream: RATE_MAX with cbr_flag 0, the size rounded up to a multiple of 8 with the window that crops
it, chroma sample location type 0 for 4:2:0, and a gang's tile columns, in which wavefront sync is off. -/
def State.paramSets (s : State) (n : Nat) : ParamSets :=
  let f := s.encodeFmt n
  let (w, h) := s.codedSize n
  let codec := s.cfgN 0x21 n 0x05
  let g := Nat.max 1 (s.gangSize n)
  { codec := codec, profile := s.cfgN 0x21 n 0x06, level := (s.slot n).level, w := w, h := h, cropRight := w - f.w,
    cropBelow := h - f.lines, ctu := s.cfgN 0x21 n 0x09, sampling := f.sampling, depth := f.depth, refPics := s.cfgN 0x21 n 0x0C,
    rateMax := s.cfgN 0x21 n 0x0F, buffer := s.cfgN 0x21 n 0x10, chromaLoc := if f.sampling = 2 then some 0 else none,
    fieldSeq := decide (f.scan = 1), wavefront := decide (codec = 0) && decide (g = 1),
    tiles := (List.range g).map (fun k => tileWidth (s.columnsOf n) g k) }

/-! ## Picture types and the signals of the refresh (R154, R157, R198) -/

/-- Type of a picture: a CRA or GDR start picture, a GDR picture at each phase 0 of an H.266 stream, else P. -/
def State.picType (s : State) (n : Nat) (p : Pic) : PicType :=
  let h266 := decide (s.cfgN 0x21 n 0x05 = 1)
  if p.start && !h266 then .cra
  else if h266 && (p.start || p.phase.any (fun q => decide (q.1 = 0))) then .gdr else .p
/-- A picture carries the parameter sets and a buffering period SEI: at phase 0, and as a start picture (DEDUCED of a start
picture outside a group, log entry 127). -/
def Pic.carriesSets (p : Pic) : Bool := p.start || p.phase.any (fun q => decide (q.1 = 0))
/-- recovery_poc_cnt or ph_recovery_poc_cnt of a picture: N − 1 at phase 0, and 0 for a start picture of an H.266 stream in a
group, which is wholly intra (R157, R198). -/
def State.recoveryOf (s : State) (n : Nat) (p : Pic) : Option Nat :=
  if p.start && decide (s.cfgN 0x21 n 0x05 = 1) && (s.groupOf n).isSome then some 0
  else p.phase.bind (fun q => if q.1 = 0 then some (q.2 - 1) else none)
/-- Every CTU of a picture is intra (R154, R198): an H.265 start picture, and a start picture in a group. -/
def State.allIntra (s : State) (n : Nat) (p : Pic) : Bool :=
  p.start && (decide (s.cfgN 0x21 n 0x05 = 0) || (s.groupOf n).isSome)

/-! ## Slices and rows (R151, R152) -/

/-- A row begins a slice: at SLICE_ROWS rows in H.265 (0 the whole picture), at every row in H.266; in a gang of H.265, the first
row of the first tile (DEDUCED, log entry 127). -/
def State.sliceStarts (s : State) (n tile row : Nat) : Bool :=
  let k := s.cfgN 0x21 n 0x0B
  if s.cfgN 0x21 n 0x05 = 1 then true
  else if 1 < s.gangSize n then decide (row = 0) && decide (tile = 0)
  else if k = 0 then decide (row = 0) else decide (row % k = 0)
/-- The contexts stored after the second CTU of the row above carry into a row: wavefront sync is on, and both lie in one slice
(R151, Table 06.3). -/
def State.contextsCarry (s : State) (n row : Nat) : Bool :=
  decide (s.cfgN 0x21 n 0x05 = 0) && decide (s.gangSize n ≤ 1) && decide (row ≠ 0) && !s.sliceStarts n 0 row
/-- The slice or slice segment of a row, or of a row of a tile. -/
def State.slicePart (s : State) (n row tile : Nat) (p : Pic) : Part :=
  let cols := s.columnsOf n
  let g := Nat.max 1 (s.gangSize n)
  .slice (s.picType n p) (p.poc % 256) (row * cols + tileStart cols g tile) (tileWidth cols g tile) (s.sliceStarts n tile row)

/-! ## The clean area (R155, R156) -/

/-- The clean edge of a picture of a phase, in luma samples: the right edge of its refresh column. -/
def State.cleanEdge (s : State) (n : Nat) (phase period : Nat) : Nat :=
  min (s.encodeFmt n).w ((refreshColumn (s.columnsOf n) phase period).2 * s.cfgN 0x21 n 0x09)
/-- The margin of R156: 8 luma samples for H.265 and 16 for H.266; half of it in chroma columns of 4:2:0 and 4:2:2, which the
same luma column bounds. -/
def State.cleanMargin (s : State) (n : Nat) : Nat := if s.cfgN 0x21 n 0x05 = 1 then 16 else 8
/-- The vertical virtual boundary of an H.266 picture: at its clean edge, when that lies inside the picture (R156). -/
def State.virtualBoundary (s : State) (n : Nat) (p : Pic) : Option Nat :=
  if s.cfgN 0x21 n 0x05 = 1 then
    p.phase.bind (fun q => let e := s.cleanEdge n q.1 q.2; if 0 < e ∧ e < (s.encodeFmt n).w then some e else none)
  else none
/-- The column of the last sample that a prediction reads of its reference: the block's own, moved by the vector, and four
more for the taps that follow at a fractional place. -/
def lastRead (q : Pred) : Int := (q.x + q.w : Int) - 1 + q.mvx / 4 + (if q.mvx % 4 = 0 then 0 else 4)
/-- A prediction keeps R156: a block left of the refresh column uses only references of its own sweep with an earlier phase,
left of their clean edge less the margin; a wholly intra start picture of the sweep's group without the margin (R198). -/
def State.cleanRead (s : State) (n : Nat) (sweep phase : Nat) (ref : Pot) (q : Pred) : Bool :=
  ref.whole ||
    ref.sweep.any (fun r => decide (r.1 = sweep) && decide (r.2.1 < phase) &&
      decide (lastRead q < (s.cleanEdge n r.2.1 r.2.2 : Int) - s.cleanMargin n))

/-! ## The parts of a release unit (R157, R176 to R178, R180) -/

/-- The two kinds of ancillary data that go to SEI: captions and AFD (R176). -/
def isCaption (did sdid : Nat) : Bool := decide (did = 0x61) && decide (sdid = 0x01)
def isAfd (did sdid : Nat) : Bool := decide (did = 0x41) && decide (sdid = 0x05)
/-- An ANC packet goes to SEI: both kinds in the RTP wrappers, those that the flags of its ANC_MAP entry name in a transport
stream. -/
def AncPkt.toSei (x : AncPkt) (ts : Bool) : Bool :=
  (isCaption x.did x.sdid && (!ts || bit x.flags 0)) || (isAfd x.did x.sdid && (!ts || bit x.flags 1))
/-- PMT, video and ancillary PID of a stream (E 21.ssss.1F). -/
def State.pidOf (s : State) (n k : Nat) : Nat :=
  let b := s.cfg 0x21 n 0x1F
  if b.length = 6 then fieldAt b (2 * k) 2 else [0x1000, 0x0100, 0x0105].getD k 0
/-- Stream types and PIDs that the PMT lists: video, ancillary data when ANC_MAP names a flow, and each audio flow (PRESUMED
types 0x06, log entry 128). -/
def State.pmtStreams (s : State) (n : Nat) : List (Nat × Nat) :=
  let audio := s.cfg 0x21 n 0x1D
  (if s.cfgN 0x21 n 0x05 = 0 then 0x24 else 0x33, s.pidOf n 1) ::
    ((if (s.cfg 0x21 n 0x1E).isEmpty then [] else [(0x06, s.pidOf n 2)]) ++
      (List.range (audio.length / 6)).map (fun k => (0x06, fieldAt audio (6 * k + 4) 2)))
/-- The PES packets of a picture slot's audio, one for each flow (R177): an odd channel count is padded with one silent channel,
and the PTS is the instant of the first sample. -/
def State.audioParts (s : State) (n instant : Nat) : List Part :=
  let map_ := s.cfg 0x21 n 0x1D
  (List.range (map_.length / 6)).filterMap (fun k =>
    match (s.slot n).audio.filter (fun x => decide (x.slot = instant) && decide (x.flow = k)) with
    | [] => none
    | x :: r =>
      let ch := fieldAt map_ (6 * k + 2) 1
      some (.st302 (fieldAt map_ (6 * k + 4) 2) (r.foldl (fun t y => min t y.instant) x.instant) (ch + ch % 2)
        (fieldAt map_ (6 * k + 3) 1) ((x :: r).map (fun y => (y.label, y.first, y.count)))))
/-- What the transport stream puts around a release unit of `length` payload bytes (R180): the PCR, PAT and PMT when they are due,
the picture's PES, and null packets; `e` the stream's latency. -/
def State.inTs (s : State) (n row tile length : Nat) (p : Pic) (tables : Bool) (e : Nat) (body : List Part) : List Part :=
  if s.cfgN 0x21 n 0x16 ≠ 2 then body
  else
    let f := s.encodeFmt n
    [.pcr (p.instant + e + linesNs f.lines (row * s.cfgN 0x21 n 0x09) (rateOf f.rate))] ++
      (if tables then [.tables (s.pidOf n 0) (s.pmtStreams n)] else []) ++
      (if row = 0 ∧ tile = 0 then [.videoPes (s.pidOf n 1) p.instant] else []) ++ body ++
      [.nulls (7 * Nat.max 1 (ceilDiv length 1316) - ceilDiv length 188)]
/-- What a hold row holds (R247): a P slice of skipped CTUs, with the access unit delimiter and the picture timing SEI of a hold
picture before its first. -/
def State.holdParts (s : State) (n row tile : Nat) (p : Pic) : List Part :=
  let cols := s.columnsOf n
  let g := Nat.max 1 (s.gangSize n)
  (if row = 0 ∧ tile = 0 then [.delimiter, .timing p.instant (decide ((s.encodeFmt n).scan = 1))] else []) ++
    [.slice .p (p.poc % 256) (row * cols + tileStart cols g tile) (tileWidth cols g tile) (s.sliceStarts n tile row)]
/-- What a release unit holds, in the order of R178, with the essence of a transport stream (R176, R177): `last` at the last row of
the picture. -/
def State.unitParts (s : State) (n row tile : Nat) (p : Pic) (last : Bool) : List Part :=
  let x := s.slot n
  let ts := decide (s.cfgN 0x21 n 0x16 = 2)
  let h266 := decide (s.cfgN 0x21 n 0x05 = 1)
  let f := s.encodeFmt n
  let first := decide (row = 0) && decide (tile = 0)
  let mine := x.anc.filter (fun a => decide (a.instant = p.instant))
  (if first then
      [.delimiter] ++ (if p.carriesSets then [.params (s.paramSets n)] else []) ++ (if h266 then [.aps] else []) ++
        (if p.carriesSets then [.bufferingPeriod] else []) ++
        (if h266 then [] else ((s.recoveryOf n p).map Part.recoveryPoint).toList) ++ [.timing p.instant (decide (f.scan = 1))] ++
        (if h266 then [.header (s.recoveryOf n p) (s.virtualBoundary n p)] else [])
    else []) ++
    [s.slicePart n row tile p] ++
    (if last then
      (mine.filter (fun a => a.toSei ts)).map (fun a => .t35 a.did a.sdid a.label) ++
        ((x.fillers.find? (fun q => decide (q.1 = p.no))).map (fun q => Part.filler q.2)).toList ++
        (if ts then mine.map (fun a => .st2038 (s.pidOf n 2) a.did a.sdid a.label) ++ s.audioParts n p.instant else [])
    else [])

end Sys2Proof.Machine
end

