-- ==== Sys2Proof/Machine/Emission.lean ====
section
/-! DEFINITION. How the packets that the block creates leave (06): latency and the work order of a bed (R159, R195), the emitters
of the pipeline dies (R178 to R181, R276), released units and hold rows (R25, R247). -/

namespace Sys2Proof.Machine

/-! ## Packets the block creates (R178 to R181, R117, R118) -/

/-- Octets of the Ethernet, IPv4, UDP and RTP headers and the FCS. -/
def headerOctets : Nat := 58
/-- Put one created packet into a die's cells and walk its run (R58, R117, R178): dropped when its cells do not fit. -/
def State.sendOwn (s : State) (die index : Nat) (f : Frame) (o : Own) : State :=
  if !s.cellsFit die o.payer (cellsOf f.len) false then s
  else
    let (k, s) := s.newChain die o.payer (cellsOf f.len) false
    let w := s.run die index []
    let s := w.dests.foldl (fun (s : State) e => s.deliver die k 1024 o.payer f e (some o)) s
    let s := if w.dests.any (fun e => decide (dDie e ≠ die)) then s.cross die k (512 * die) o.payer f (.run index) (some o)
      else s
    s.dropRef k

/-- CMAX of a sender type (R277). -/
def cmaxOf (sender : Nat) : Nat := if sender = 1 then 16 else 4

/-- Sum of two fractions. -/
def fracAdd (a b : Nat × Nat) : Nat × Nat := (a.1 * b.2 + b.1 * a.2, a.2 * b.2)
/-- A line period in ns as a fraction (R493). -/
def lineFrac (h : Nat) (r : Nat × Nat) : Nat × Nat := (24 * r.2 * 1000000000, 25 * Nat.max 1 h * r.1)

/-! ## Latency (R159, R195) -/

/-- A work unit of a bed's list (R195), its times over one denominator: when its lines are in the bed, its cost, the espalier or
stream that it belongs to, its tier (0 for a band, else one more than the tier), its row, and the bands that must be done
first. -/
structure WorkUnit where
  lines : Nat
  cost : Nat
  stream : Nat
  tier : Nat
  row : Nat
  bands : Nat
  deriving DecidableEq, Repr
/-- When a unit becomes ready: its lines are in, and its bands, whose ends `done` holds by espalier, have been analysed. -/
def WorkUnit.readyAt (u : WorkUnit) (done : Tab (List Nat)) : Option Nat :=
  if u.bands = 0 then some u.lines
  else ((tget (fun _ => []) done u.stream)[u.bands - 1]?).map (fun t => Nat.max u.lines t)
/-- The earlier of two units with the times at which they became ready (R195): ready first, then bands, then the lower tier, then
the lower row. -/
def unitBefore (a b : Nat × WorkUnit) : Bool :=
  decide ([a.1, a.2.tier, a.2.row, a.2.stream] ≤ [b.1, b.2.tier, b.2.row, b.2.stream])
/-- Run the list of work units in the order of R195 until a unit `want` of a stream (its tier and row 0) is done: its end. -/
def workOrder (stream tier : Nat) : Nat → Nat → Tab (List Nat) → List WorkUnit → Nat
  | 0, now, _, _ => now
  | fuel + 1, now, done, l =>
    let may := l.filterMap (fun u => (u.readyAt done).map (fun r => (r, u)))
    let ready := may.filter (fun x => decide (x.1 ≤ now))
    match (if ready.isEmpty then may else ready) with
    | [] => now
    | u :: r =>
      let best := r.foldl (fun b x => if unitBefore b x then b else x) u
      let fin := Nat.max now best.1 + best.2.cost
      if best.2.stream = stream ∧ best.2.tier = tier ∧ best.2.row = 0 then fin
      else
        let done := if best.2.tier = 0 then
            tput (fun _ => []) done best.2.stream (tget (fun _ => []) done best.2.stream ++ [fin]) else done
        workOrder stream tier fuel fin done (l.filter (fun x => !decide (x = best.2)))
/-- Source lines that row `row` needs of a picture of `own` lines made from `src` source lines: its own lines and 16 below it (or
the last), and four more when the feed scales it vertically (R187). -/
def rowNeeds (src own c row : Nat) : Nat :=
  min src (ceilDiv (min own ((row + 1) * c + 16) * src) own + (if own = src then 0 else 4))
/-- Bands that cover the source lines of a row of a tier. -/
def rowBands (src own c row : Nat) : Nat := ceilDiv (ceilDiv (min own ((row + 1) * c) * src) own) 16
/-- Denominator of a stream's line period. -/
def State.lineDen (s : State) (n : Nat) : Nat :=
  let f := s.encodeFmt n
  match (s.feed n).source with
  | some ch => if (s.slot n).role = 0 then (lineFrac f.lines (rateOf f.rate)).2
      else (lineFrac (s.conditioned ch).2 (rateOf (s.intakeFmt ch).rate)).2
  | none => (lineFrac f.lines (rateOf f.rate)).2
/-- The work units of one picture of a stream that is not a tier, or of a whole espalier; lines come from ALIGN on. -/
def State.workOf (s : State) (h den : Nat) : List WorkUnit :=
  let start := s.align h * den
  let f := s.encodeFmt h
  if (s.slot h).role = 0 then
    let line := lineFrac f.lines (rateOf f.rate)
    let c := Nat.max 1 (s.cfgN 0x21 h 0x09)
    (List.range (ceilDiv f.lines c)).map (fun r =>
      { lines := start + rowNeeds f.lines (Nat.max 1 f.lines) c r * line.1 * (den / line.2),
        cost := f.w * (min f.lines ((r + 1) * c) - r * c) * den, stream := h, tier := 1, row := r, bands := 0 : WorkUnit })
  else match (s.feed h).source with
    | none => []
    | some ch =>
      let (w, src) := s.conditioned ch
      let line := lineFrac src (rateOf (s.intakeFmt ch).rate)
      let at_ := fun k => start + k * line.1 * (den / line.2)
      let bands := (List.range (ceilDiv src 16)).map (fun j =>
        { lines := at_ (min src (16 * (j + 1))), cost := w * (min src (16 * (j + 1)) - 16 * j) * den / 4, stream := h, tier := 0,
          row := j, bands := 0 : WorkUnit })
      bands ++ (s.ladder h).zipIdx.flatMap (fun e =>
        let f := s.encodeFmt e.1
        let own := Nat.max 1 f.lines
        let c := Nat.max 1 (s.cfgN 0x21 e.1 0x09)
        (List.range (ceilDiv f.lines c)).map (fun r =>
          { lines := at_ (rowNeeds src own c r), cost := f.w * (min f.lines ((r + 1) * c) - r * c) * den, stream := h,
            tier := e.2 + 1, row := r, bands := rowBands src own c r : WorkUnit }))
/-- The streams and espaliers whose units a stream's bed has in its list: the stream's own, and the others on its lead bed. -/
def State.workHeads (s : State) (n : Nat) : List Nat :=
  ((s.bed ((s.twin n).lead.headD 0)).slots.filter (fun m => (s.slot m).kind = 1 && decide (s.gangSize m ≤ 1))).foldl
    (fun l m => addTo l (s.anchorOf m)) [s.anchorOf n]
/-- The end of row 0 of a stream on a bed that carries tiers, after the arrival of its source's line 0, in ns as a fraction
(R195). The units of one picture of each stream on the bed run from an idle bed (DEDUCED, log entry 124). -/
def State.ladderRow (s : State) (n : Nat) : Nat × Nat :=
  let a := s.anchorOf n
  let heads := s.workHeads n
  let den := 4 * heads.foldl (fun d h => d * s.lineDen h) 1
  let l := heads.flatMap (fun h => s.workOf h den)
  let tier := if (s.slot n).role = 0 then 1 else (s.ladder a).idxOf n + 1
  (workOrder a tier (l.length + 1) 0 [] l - s.align a * den, den)
/-- A stream's bed carries a tier. -/
def State.laddered (s : State) (n : Nat) : Bool := (s.workHeads n).any (fun h => decide ((s.slot h).role ≠ 0))

/-- E of a stream in ns, rounded down, with the costs of Table 04.2 (R159, R493, E 21.ssss.34): (C + 16) lines and the row's
time, or on a laddered bed the end of row 0; 12.5 µs; one source line for the merge; the conditioning; and the part of
ALIGN above the source's ARRIVAL_OFFSET (R109: every step in use). -/
def State.latencyOf (s : State) (n : Nat) : Nat :=
  let f := s.encodeFmt n
  let r := rateOf f.rate
  let a := s.anchorOf n
  let g := Nat.max 1 (s.gangSize n)
  let c := s.cfgN 0x21 n 0x09
  let lf := lineFrac f.lines r
  let row := if s.laddered n then s.ladderRow n else fracAdd ((c + 16) * lf.1, lf.2) (f.w * c, g)
  let intake := match (s.feed a).source with
    | none => (0, 1)
    | some ch =>
      let (k, p) := s.conditionCost ch
      let sf := s.intakeFmt ch
      let sl := lineFrac sf.lines (rateOf sf.rate)
      fracAdd (fracAdd ((k + 1) * sl.1, sl.2) (p * 1000000000 * r.2, r.1)) (s.align a - (s.intake ch).arrivalOffset, 1)
  let e := fracAdd (fracAdd row (12500, 1)) intake
  e.1 / e.2

/-! ## Emitters (R178 to R181, R276) -/

/-- Payload sizes of a NAL unit of `len` bytes (R179): a single NAL unit packet, or fragmentation units, whose three octets
of header stand for the two of the NAL unit's (PRESUMED, log entry 126). -/
def nalPackets (max len : Nat) : List Nat :=
  if len ≤ max then [len]
  else
    let per := Nat.max 1 (max - 3)
    let k := ceilDiv (len - 2) per
    List.replicate (k - 1) max ++ [len - 2 - per * (k - 1) + 3]
/-- Payload sizes of a release unit's packets (R179, R180): NAL unit by NAL unit, or seven TS packets each. -/
def unitPackets (wrapper max : Nat) (u : UnitCopy) : List Nat :=
  if wrapper = 2 then List.replicate (Nat.max 1 (ceilDiv u.length 1316)) 1316
  else (if u.nals.isEmpty then [u.length] else u.nals).flatMap (nalPackets max)
/-- PAT and PMT leave with row 0 of a picture: in every phase-0 picture, and when the next picture would be more than 100 ms after
the last ones (R180). -/
def State.tablesDue (s : State) (n die : Nat) (p : Pic) : Bool :=
  let last := if die = 0 then (s.slot n).tables0 else (s.slot n).tables1
  p.start || p.phase.any (fun q => decide (q.1 = 0)) || decide (last + 100000000 < s.now + s.slotPeriod n)
/-- An emitter sends a unit: what it holds, and when PAT and PMT were last sent. -/
def State.emitParts (s : State) (die n row tile length : Nat) (p : Pic) (body : List Part) : State :=
  let ts := decide (s.cfgN 0x21 n 0x16 = 2)
  let tables := ts && decide (row = 0) && decide (tile = 0) && s.tablesDue n die p
  let s := if tables then
      s.modSlot n (fun x => if die = 0 then { x with tables0 := s.now } else { x with tables1 := s.now }) else s
  s.emit (.unit s.now die n p.no row tile (s.inTs n row tile length p tables (s.latencyOf n) body))
/-- Emit the packets of one release unit on a die (R179 to R181, R276): their payload sizes, for row `row` of picture `pic`;
the last packet of the picture carries the marker. -/
def State.emitUnit (s : State) (die n row : Nat) (sizes : List Nat) (pic : Pic) (last : Bool) : State :=
  match s.deliveryOf n die with
  | none => s
  | some index =>
    if s.diePruned die || decide (die ∈ (s.slot n).resync) then s
    else
      let count := sizes.length
      let f := s.encodeFmt n
      let r := rateOf f.rate
      let c := s.cfgN 0x21 n 0x09
      let g := Nat.max 1 (s.gangSize n)
      let h := min c (f.lines - row * c)
      -- one line period is 24 den / (25 H num) s; a packet's share of the row is h / (n g) line periods
      let den := 25 * Nat.max 1 f.lines * r.1 * Nat.max 1 count * g
      let line := 24 * r.2 * 1000000000
      let base := pic.instant + s.latencyOf n
      let step := h * line
      let done := if die = 0 then (s.slot n).schedEnd0 else (s.slot n).schedEnd1
      let start := if g = 1 then base * den + row * c * line * count * g
        else Nat.max (s.now * den) (if done = 0 then 0 else done * den + step)
      let fin := (start + (count - 1) * step) / den
      let s := s.modSlot n (fun x => if die = 0 then { x with schedEnd0 := fin } else { x with schedEnd1 := fin })
      let owner := (s.slot n).owner
      let cmax := cmaxOf (s.cfgN 0x21 n 0x1C)
      (List.range count).foldl (fun (s : State) j =>
        let x := s.slot n
        let q := if die = 0 then x.seq0 else x.seq1
        let frame : Frame :=
          { len := headerOctets + sizes.getD j 0, ipv := 4, udp := true, ssrc := BitVec.ofNat 32 (s.cfgN 0x21 n 0x1A),
            pt := BitVec.ofNat 7 (if s.cfgN 0x21 n 0x16 = 2 then 33 else s.cfgN 0x21 n 0x1B), seq := BitVec.ofNat 16 q,
            rtpTs := pic.rtpTs, marker := last && decide (j + 1 = count), label := n }
        let s := s.modSlot n (fun x =>
          let counts := if die = 0 ∨ (s.deliveryOf n 0).isNone then bumpAt x.counts 7 1 else x.counts
          if die = 0 then { x with seq0 := (q + 1) % 65536, counts := counts }
          else { x with seq1 := (q + 1) % 65536, counts := counts })
        s.sendOwn die index frame
          { payer := owner, cls := s.serviceClass n, slot := n, pace := some (start + j * step, step, den, cmax) }) s

/-- Place of a unit in its picture: tile order, then rows (R152). -/
def State.unitIndex (s : State) (n tile row : Nat) : Nat := tile * s.rowsOfSlot n + row
/-- An instance has decided every unit of a picture before this place. -/
def State.setNext (s : State) (die n : Nat) (at_ : Nat × Nat) : State :=
  s.modTwin n (fun w => if die = 0 then { w with next0 := at_ } else { w with next1 := at_ })

/-- A released unit leaves by a die's emitter (R25, R178), or makes its row readable (R262); the release of a picture's
last row counts its time once (R417). -/
def State.releaseUnit (s : State) (die : Nat) (u : UnitCopy) : State :=
  let n := u.slot
  let s := s.emit (.release s.now die n u.picture u.row u.bed)
  let s := s.setNext die n (u.picture, s.unitIndex n u.tile u.row + 1)
  if (s.slot n).kind = 2 then
    s.modSlot n (fun x => { x with dec := { x.dec with rows := addTo x.dec.rows (u.picture, u.row) } })
  else
    match s.picOf n u.picture with
    | none => s
    | some p =>
      let last := u.lastRow && decide (u.tile + 1 = s.gangSize n)
      let s := s.emitParts die n u.row u.tile u.length p (s.unitParts n u.row u.tile p last)
      let s := s.emitUnit die n u.row (unitPackets (s.cfgN 0x21 n 0x16) (s.cfgN 0x21 n 0x17) u) p last
      if last && decide ((s.slot n).metered ≤ u.picture) then
        s.meterPicture die n u.picture (p.hold || (s.twin n).holdPicture.any (fun h => decide (h = u.picture)))
      else s

/-- A Sieve instance emits a hold row in place of a unit (R247): one packet made from the stream's hold template. -/
def State.holdRow (s : State) (die n place : Nat) (pic : Pic) : State :=
  let rows := Nat.max 1 (s.rowsOfSlot n)
  let row := place % rows
  let s := s.emit (.holdRow s.now die n pic.no row)
  let s := s.setNext die n (pic.no, place + 1)
  let last := decide (row + 1 = rows)
  let length := Nat.max 1 (Config.holdBytes n (b2n last))
  let s := s.emitParts die n row (place / rows) length pic (s.holdParts n row (place / rows) pic)
  let size := if s.cfgN 0x21 n 0x16 = 2 then 1316 else length
  let s := s.emitUnit die n row [size] pic (decide (place + 1 = rows * s.gangSize n))
  if decide (place + 1 = rows * s.gangSize n) && decide ((s.slot n).metered ≤ pic.no) then s.meterPicture die n pic.no true
  else s

/-- Hold rows stand in for the units of a picture that an instance has not released. -/
def State.holdUnits (s : State) (die n units : Nat) (p : Pic) : State :=
  let next := if die = 0 then (s.twin n).next0 else (s.twin n).next1
  let first := if p.no = next.1 then next.2 else if next.1 < p.no then 0 else units
  (List.range (units - first)).foldl (fun (s : State) k => s.holdRow die n (first + k) p) s
/-- Hold rows in place of every unit of the pictures begun that an instance has not released (R246). -/
def State.holdRest (s : State) (die n : Nat) : State :=
  let units := s.rowsOfSlot n * s.gangSize n
  (s.slot n).pics.reverse.foldl (fun (s : State) p => s.holdUnits die n units p) s

end Sys2Proof.Machine
end

