-- ==== Sys2Proof/Machine/Reduction.lean ====
section
/-! DEFINITION. How a feed reduces the source to the pictures that its streams code (R187 to R189): scaling to a tier's size,
chroma, depth; and the lines that it sends as the source lines they need have been read. -/

namespace Sys2Proof.Machine

/-- A sample of a row or column of `n`, the outermost one repeated beyond an edge. -/
def edged (n : Nat) (c : Nat → Int) (k : Int) : Int := c (clip k 0 ((n : Int) - 1)).toNat
/-- From 4:4:4 to 4:2:2, along a row of `w` chroma samples (R188). -/
def chroma422 (w : Nat) (c : Nat → Int) (i : Nat) : Int :=
  (edged w c (2 * (i : Int) - 1) + 2 * edged w c (2 * (i : Int)) + edged w c (2 * (i : Int) + 1) + 2) / 4
/-- From 4:2:2 to 4:2:0, down a column of `h` chroma samples of the picture, or of the field (R188). -/
def chroma420 (h : Nat) (c : Nat → Int) (j : Nat) : Int :=
  (edged h c (2 * (j : Int) - 1) + 3 * edged h c (2 * (j : Int)) + 3 * edged h c (2 * (j : Int) + 1) +
    edged h c (2 * (j : Int) + 2) + 4) / 8
/-- A 12-bit sample at a coded depth (R189). -/
def reduceDepth (d x : Nat) : Nat := if 12 ≤ d then x else min ((x + 2 ^ (11 - d)) / 2 ^ (12 - d)) (2 ^ d - 1)

/-- A sample of the picture that a stream codes, made from a conditioned plane `src` of a source: scaled by TIER_FILTER when its
size differs, its chroma reduced at 12 bits, then its depth (R187). -/
def State.codedSample (s : State) (n sampling w h : Nat) (src : Nat → Nat → Nat → Int) (plane x y : Nat) : Nat :=
  let f := s.encodeFmt n
  let half := fun k => if plane ≠ 0 ∧ sampling ≠ 1 then k / 2 else k
  let v := scaledSample [] (s.cfgN 0x22 n 0x04) (half w) h (half f.w) f.lines (src plane)
  let c := if plane = 0 then v x y
    else match sampling, f.sampling with
      | 1, 0 => chroma422 f.w (fun i => v i y) x
      | 0, 2 => chroma420 f.lines (fun j => v x j) y
      | 1, 2 => chroma420 f.lines (fun j => chroma422 f.w (fun i => v i j) x) y
      | _, _ => v x y
  reduceDepth f.depth c.toNat
/-- Line `k` of a coded picture between two luma columns: luma, then Cb and Cr; a 4:2:0 picture's chroma row goes with the second
of its two lines. -/
def State.codedLine (s : State) (n c k x0 x1 : Nat) : List Nat :=
  let d := s.feedCond (s.anchorOf n) c
  let f := s.encodeFmt n
  let t := (s.intake c).readStore d
  let v := s.codedSample n d.sampling d.size.1 d.size.2 (fun plane x y => d.sample t plane x y)
  let row := fun (plane y a b : Nat) => (List.range (b - a)).map (fun j => v plane (a + j) y)
  row 0 k x0 x1 ++
    (if f.sampling = 1 then row 1 k x0 x1 ++ row 2 k x0 x1
     else if f.sampling = 0 then row 1 k (x0 / 2) (x1 / 2) ++ row 2 k (x0 / 2) (x1 / 2)
     else if k % 2 = 1 ∨ k + 1 = f.lines then row 1 (k / 2) (x0 / 2) (x1 / 2) ++ row 2 (k / 2) (x0 / 2) (x1 / 2)
     else [])
/-- The last source line that line `k` of a coded picture needs: its own, four more when the feed scales it vertically, one more
for the chroma of 4:2:0 (R187, R188). -/
def codedNeeds (src own sampling k : Nat) : Nat :=
  min (src - 1) (ceilDiv ((k + 1) * src) own - 1 + (if own = src then 0 else 4) + (if sampling = 2 then 1 else 0))
/-- A line of a coded picture goes over the Trellis to a bed, or is held while a link moves a lane (R20). -/
def State.sendCoded (s : State) (die n b line : Nat) (x : List Nat) : State :=
  if s.linkHolds (8 + die) (bedDie b) then s.hold (8 + die) (bedDie b) (.coded die n b line x)
  else s.emit (.coded s.now n b line x)
/-- The lines of a stream's coded picture that a source line completes go to every member, to a gang's by their tile columns;
the strip that R24 names goes to them as well (DEDUCED, log entry 129). -/
def State.sendReduced (s : State) (n c line : Nat) : State :=
  let a := s.anchorOf n
  let f := s.encodeFmt n
  let src := (s.feedCond a c).size.2
  ((List.range f.lines).filter (fun k => decide (codedNeeds src f.lines f.sampling k = line))).foldl (fun (s : State) k =>
    (s.members a).foldl (fun (s : State) b =>
      let r := stripSpan f.w (Nat.max 1 (s.cfgN 0x21 n 0x09)) (s.gangSize n) (((s.twin n).sideOf b).idxOf b)
      s.sendCoded (intakeDie c) n b k (s.codedLine n c k r.1 r.2)) s) s

/-! ## The source of the shared analysis (R190) -/

/-- Luma of a line of an espalier's source picture enters the shared analysis. -/
def State.analysisLine (s : State) (n c line : Nat) : State :=
  let d := s.feedCond n c
  let t := (s.intake c).readStore d
  let luma := (List.range d.size.1).map (fun x => (d.sample t 0 x line).toNat)
  let at_ := (s.feed n).picture
  s.modSlot n (fun x =>
    let a := x.analysis
    let pics := if a.pics.any (fun p => decide (p.instant = at_)) then a.pics else { instant := at_ : SourcePic } :: a.pics.take 2
    { x with analysis := { a with pics := pics.map (fun p =>
      if p.instant = at_ then { p with lines := tput (fun _ => []) p.lines line luma } else p) } })
/-- A received picture carries its source's 90 kHz timestamp (R181): of the channel's picture of that sampling instant. -/
def State.stampPicture (s : State) (n c : Nat) : State :=
  let at_ := (s.feed n).picture
  let i := s.intake c
  let r := rateOf (s.intakeFmt c).rate
  match [i.openTs, i.endedTs].filterMap (fun o => o.filter (fun ts => decide (gridNear r (instantOf s.now ts) = at_))) with
  | [] => s
  | ts :: _ => (s.ladder n).foldl (fun (s : State) m =>
      s.modSlot m (fun x => { x with pics := x.pics.map (fun p =>
        if p.instant = at_ ∧ !p.rep then { p with rtpTs := ts } else p) })) s
/-- A feed reads a line (R110): the strip to the beds, then what it completes of each coded picture (R187); line 0 fixes the
picture's timestamp. -/
def State.readLine (s : State) (n c : Nat) (storeError : Bool) : State :=
  let line := (s.feed n).line
  let s := if line = 0 then s.stampPicture n c else s
  let s := s.feedLine n c storeError
  let s := if (s.slot n).role = 1 then s.analysisLine n c line else s
  (s.ladder n).foldl (fun (s : State) m => s.sendReduced m c line) s

end Sys2Proof.Machine
end

