-- ==== Sys2Proof/Machine/TimeState.lean ====
section
/-! DEFINITION. Time states (20): FREE, ACQUIRING, LOCKED, HEDGE and HOLDOVER, and the choice of the slave port. -/

namespace Sys2Proof.Machine

/-- Change TIME_STATE (R470, R500): a change raises source 0x0220; leaving LOCKED or HEDGE starts HOLDOVER_SPEC. -/
def State.setTime (s : State) (st : TimeState) : State :=
  if s.clk.st = st then s
  else
    let c := s.clk
    let c := if c.st = .locked ∨ c.st = .hedge then { c with leftAt := s.now, specOver := false } else c
    let now := decide (st = .locked) || decide (st = .hedge)
    let c := if now && !s.traceable then { c with traceSince := s.now } else c
    let s := { s with clk := { c with st := st, ignoredRun := 0, good := 0, bad := 0 } }
    s.raise 0x0220
/-- The conditions of R472 for HEDGE. -/
def State.hedgeOk (s : State) : Bool :=
  decide (s.cfgN 0x03 0 0x19 = 1) && s.mod.ref10m && s.mod.pps && s.clk.ppsValid
/-- LOCKED is left (R472). -/
def State.leaveLocked (s : State) : State := s.setTime (if s.hedgeOk then .hedge else .holdover)

/-- clockClass announced (Table 20.5). -/
def State.clockClass (s : State) : Nat :=
  match s.clk.st with
  | .free => 248
  | .acquiring => 248
  | .locked => (s.clk.parent.map (·.clockClass)).getD 248
  | .hedge => 7
  | .holdover => if s.clk.specOver then 52 else 7

/-- The comparison of two datasets (IEEE 1588-2019, default BMCA): the first is better. -/
def isBetter (a b : Announce) : Bool :=
  let key := fun (x : Announce) =>
    [x.priority1, x.clockClass, x.accuracy, x.variance, x.priority2, x.gmId.toNat, x.stepsRemoved, x.senderId.toNat,
      x.senderPort]
  decide (key a < key b)
/-- The module's own dataset. (PRESUMED, log entry 36.) -/
def State.ownDataset (s : State) : Announce :=
  { priority1 := s.cfgN 0x03 0 0x11, clockClass := s.clockClass, priority2 := s.cfgN 0x03 0 0x12, gmId := clockId,
    senderId := clockId }

/-- A logical port is a PTP port now (Table 20.4): enabled, in LISTEN or FORWARDING, and PTP has started (R481). -/
def State.isPtpPort (s : State) (lp : Nat) : Bool :=
  s.clk.started && decide (s.cfgN 0x03 (0x1000 + lp) 0x01 = 1) &&
    ((s.port lp).st = .listen || (s.port lp).st = .forwarding)
/-- The port that the BMCA chooses as slave: the best Announce of a port that is not MASTER_ONLY, when it is better than the
module's own dataset. A module that announces clockClass 7 may still choose a slave, as Table 20.6 has it.
(DEDUCED, log entry 37.) -/
def State.bestPort (s : State) : Option (Nat × Announce) :=
  s.clk.ptp.foldl (fun (b : Option (Nat × Announce)) e =>
    match e.2.best with
    | none => b
    | some a =>
      if !s.isPtpPort e.1 || decide (s.cfgN 0x03 (0x1000 + e.1) 0x02 = 1) || !isBetter a s.ownDataset then b
      else match b with
        | none => some (e.1, a)
        | some x => if isBetter a x.2 then some (e.1, a) else b) none

/-- The state of a port that is not a slave: a port whose own Announce is better than the module's is PASSIVE. -/
def State.otherPtp (s : State) (lp : Nat) (parent : Option Announce) : Nat :=
  if !s.isPtpPort lp then 3
  else match parent, (s.ptpPort lp).best with
    | some _, some a => if isBetter a s.ownDataset && s.cfgN 0x03 (0x1000 + lp) 0x02 ≠ 1 then 7 else 6
    | _, _ => 6

/-- The slave port has gone, or another is chosen (R500). -/
def State.slaveChanged (s : State) (new : Option (Nat × Announce)) : State :=
  let c := s.clk
  let c := { c with measuring := false, measured := 0, measuredBad := false, good := 0, bad := 0 }
  match new with
  | some (lp, a) =>
    let s := { s with clk := { c with slave := lp, parent := some a } }
    match c.st with
    | .free => ({ s with clk := { s.clk with from_ := .free } }).setTime .acquiring
    | .hedge | .holdover => { s with clk := { s.clk with measuring := true } }
    | .acquiring | .locked => s
  | none =>
    let s := { s with clk := { c with slave := 0xFFFF, parent := none } }
    match c.st with
    | .locked => s.leaveLocked
    | .acquiring =>
      match c.from_ with
      | .free => s.setTime .free
      | .hedge => s.setTime (if s.hedgeOk then .hedge else .holdover)
      | _ => s.setTime .holdover
    | _ => s

/-- Dorsen runs the BMCA (R468); while the Shed restarts, port states stay as they were. (DEDUCED, log entry 37.).
(DEDUCED, log entry 92.) -/
def State.bmca (s : State) : State :=
  if !s.shedLive then s
  else
    let new := s.bestPort
    let s := if new.map (·.1) = (if s.clk.slave = 0xFFFF then none else some s.clk.slave) then
        { s with clk := { s.clk with parent := new.map (·.2) } } else s.slaveChanged new
    let ports := (List.range 1024).filter (fun lp =>
      s.isPtpPort lp || decide ((s.ptpPort lp).st ≠ 3))
    ports.foldl (fun (s : State) lp =>
      let st := if some lp = new.map (·.1) then 9 else s.otherPtp lp (new.map (·.2))
      s.modPtpPort lp (fun p => { p with st := st })) s

/-- The slave port is lost: its Announces have timed out, or its die is pruned (R468, R500). -/
def State.slaveLost (s : State) : State :=
  let lp := s.clk.slave
  if lp = 0xFFFF then s
  else
    let s := s.modPtpPort lp (fun p => { p with best := none })
    let s := if s.clk.st = .locked then s.leaveLocked else s
    let s := { s with clk := { s.clk with measuring := false, measured := 0, measuredBad := false } }
    s.bmca

end Sys2Proof.Machine
end

