-- ==== Sys2Proof/Machine/Flags.lean ====
section
/-! DEFINITION. The microword (05): its fields, which words are illegal, the fetch, the scalar unit with its flags, the
conditions of Table 05.4, the next micro-PC; and the bed counters (17) that watch them. -/

namespace Sys2Proof.Machine

/-! ## Fields (Table 05.2) -/

/-- Bits [hi:lo] of a microword. -/
def fld (w : Microword) (hi lo : Nat) : Nat := bits w.toNat hi lo
def wNext (w : Microword) : Nat := fld w 13 0
def wNsp (w : Microword) : Bool := bit w.toNat 14
def wMode (w : Microword) : Nat := fld w 17 15
/-- Condition selector `k`. -/
def wCs (w : Microword) (k : Nat) : Nat := fld w (23 + 6 * k) (18 + 6 * k)
def wWaitCond (w : Microword) : Nat := fld w 47 42
def wWaitTo (w : Microword) : Nat := fld w 50 48
def wWaitPol (w : Microword) : Bool := bit w.toNat 51
def wTrapEn (w : Microword) : Bool := bit w.toNat 52
def wScOp (w : Microword) : Nat := fld w 56 53
def wTpOp (w : Microword) : Nat := fld w 93 90
def wEcOp (w : Microword) : Nat := fld w 102 98
def wMeOp (w : Microword) : Nat := fld w 121 118
def wLsOp (w : Microword) : Nat := fld w 141 138
def wTag (w : Microword) : Nat := fld w 157 153
def wPb (w : Microword) : Bool := bit w.toNat 158

/-- The illegal words of R124. -/
def illegalWord (w : Microword) : Bool :=
  bit w.toNat 159 || decide (wMode w = 7) || decide (wScOp w = 15) || decide (8 ≤ wTpOp w) || decide (10 ≤ wEcOp w) ||
    decide (6 ≤ fld w 112 109) || decide (6 ≤ fld w 115 113) || decide (fld w 117 116 = 3) || decide (8 ≤ wMeOp w) ||
    decide (5 ≤ fld w 131 129) || decide (5 ≤ fld w 135 132) || decide (fld w 137 136 = 3) || decide (8 ≤ wLsOp w) ||
    (decide (wWaitCond w ≠ 0) && decide (2 ≤ wMode w))
/-- SWEEP, LOWRES and STREAM words are resumable (R134). -/
def resumable (w : Microword) : Bool := decide (wMeOp w = 1) || decide (wMeOp w = 7) || decide (wLsOp w = 5)
/-- Bed clocks of a timeout class (Table 05.5). -/
def waitClocks (cls : Nat) : Nat := 64 * 4 ^ cls

/-- The word at a bed's micro-PC (R131): from ROM through the match registers, the lowest first, or from the active patch
bank. Patch RAM beyond the words of the set reads zero (DESIGN CHOICE, log entry 29). -/
def Bed.word (b : Bed) : Microword :=
  if b.mic.space then b.patch.words.getD (b.mic.upc % 512) 0
  else match b.patch.matches_.find? (fun m => decide (m.1 = b.mic.upc)) with
    | some m => b.patch.words.getD m.2 0
    | none => Config.rom b.mic.upc

/-! ## Local store (Table 05.1) -/

/-- Bytes of a bed's local store, or of its reference cache, from an address on. -/
def storeBytes (t : List Host.Cell) (at_ len : Nat) : List Byte := (List.range len).map (fun i => tget (fun _ => 0) t (at_ + i))
/-- Write bytes into a bed's local store or reference cache. -/
def storePut (t : List Host.Cell) (at_ : Nat) (l : List Byte) : List Host.Cell :=
  l.zipIdx.foldl (fun t x => tput (fun _ => 0) t (at_ + x.2) x.1) t
/-- The word names an operation of a unit that writes the local store: Trellis port, local store, entropy coder, transform
unit, loop filter, in the order of R123. -/
def namesUnit (w : Microword) (k : Nat) : Bool :=
  match k with
  | 0 => decide (wTpOp w = 1) || decide (wTpOp w = 2) || decide (wTpOp w = 7)
  | 1 => decide (wLsOp w ≠ 0)
  | 2 => decide (wEcOp w ≠ 0)
  | 3 => decide (fld w 112 109 ≠ 0)
  | 4 => decide (fld w 135 132 ≠ 0)
  | _ => false
/-- The writes of a retiring word's units into the local store, served unit by unit in the order of R123. Where in it a unit
writes is the word's buffers', which the command carries (DESIGN CHOICE, log entry 122). -/
def serveWrites (t : List Host.Cell) (w : Microword) (l : List StoreWrite) : List Host.Cell :=
  (List.range 5).foldl (fun t k =>
    (l.filter (fun x => decide (x.unit = k) && namesUnit w k)).foldl (fun t x => storePut t x.at_ x.bytes) t) t

/-! ## The trap capsule (Table 05.8) -/

/-- Address of the capsule: bank 6, offset 0x7_FFA0 (R134). -/
def capsuleAt : Nat := 6 * 524288 + 0x7FFA0
/-- The 96 bytes of the capsule. Micro-stack entry 0 is the one pushed first, numbers are least significant byte first
(DEDUCED, log entry 123). -/
def Micro.capsule (m : Micro) : List Byte :=
  let stack := m.stack.reverse
  (List.range 16).flatMap (fun k => natLe 4 (m.ms.getD k 0).toNat) ++
    natLe 2 (m.upc % 16384 + 16384 * b2n m.space + 32768 * b2n m.inWord) ++
    (List.range 4).flatMap (fun k => natLe 2 (stack.getD k 0)) ++ (List.range 4).flatMap (fun k => natLe 2 (m.lc.getD k 0).toNat) ++
    natLe 1 (b2n m.z + 2 * b2n m.n + 4 * b2n m.c + 8 * b2n m.v + 16 * stack.length + 128 * b2n m.waiting) ++
    natLe 3 m.waited ++ natLe 10 m.progress.toNat
/-- The micro-state that a capsule restores. -/
def capsuleMicro (b : List Byte) : Micro :=
  let pc := fieldAt b 64 2
  let f := fieldAt b 82 1
  { ms := (List.range 16).map (fun k => BitVec.ofNat 32 (fieldAt b (4 * k) 4)),
    lc := (List.range 4).map (fun k => BitVec.ofNat 16 (fieldAt b (74 + 2 * k) 2)),
    z := bit f 0, n := bit f 1, c := bit f 2, v := bit f 3,
    stack := ((List.range (min 4 (bits f 6 4))).map (fun k => fieldAt b (66 + 2 * k) 2 % 32768)).reverse,
    upc := pc % 16384, space := bit pc 14, inWord := bit pc 15, waiting := bit f 7, waited := fieldAt b 83 3,
    progress := BitVec.ofNat 80 (fieldAt b 86 10) }

/-! ## Scalar unit -/

/-- Result of a scalar operation (Table 05.2); wrapping modulo 2^32. (DESIGN CHOICE, log entry 19.). (DEDUCED, log
entry 41.) -/
def scResult (op : Nat) (a b : BitVec 32) : BitVec 32 :=
  match op with
  | 1 => a + b
  | 2 => a - b
  | 3 => a &&& b
  | 4 => a ||| b
  | 5 => a ^^^ b
  | 6 => if b.toNat < 32 then a <<< b.toNat else Config.wideShift 6 a b
  | 7 => if b.toNat < 32 then a.sshiftRight b.toNat else Config.wideShift 7 a b
  | 8 => a * b
  | 9 => BitVec.ofInt 32 (a.toInt * b.toInt / 4294967296)
  | 10 => if a.toInt ≤ b.toInt then a else b
  | 11 => if a.toInt ≤ b.toInt then b else a
  | 12 => b
  | 13 => a - b
  | 14 => BitVec.ofNat 32 (if a.toNat = 0 then 32 else 31 - Nat.log2 a.toNat)
  | _ => 0
/-- Source A and source B of a word, as they stood before it issued (R122). -/
def Micro.srcA (m : Micro) (w : Microword) : BitVec 32 := m.ms.getD (fld w 64 61) 0
def Micro.srcB (m : Micro) (w : Microword) : BitVec 32 :=
  if bit w.toNat 69 then (BitVec.ofNat 16 (fld w 85 70)).signExtend 32 else m.ms.getD (fld w 68 65) 0
/-- The scalar operation of a retiring word: the register it writes and the flags it sets. -/
def Micro.scalar (m : Micro) (w : Microword) : Micro :=
  let op := wScOp w
  let a := m.srcA w
  let b := m.srcB w
  let r := scResult op a b
  if op = 0 then m
  else if op = 12 then { m with ms := m.ms.set (fld w 60 57) r }
  else if op = 13 then
    { m with z := decide (r = 0), n := r.msb, c := Config.cmpCarry a b,
             v := decide (a.msb ≠ b.msb) && decide (r.msb ≠ a.msb) }
  else { m with ms := m.ms.set (fld w 60 57) r, z := decide (r = 0), n := r.msb }
/-- LC_OP of a retiring word (R123): `old` is the micro-state before the word. -/
def Micro.loopOp (m old : Micro) (w : Microword) : Micro :=
  let k := fld w 89 88
  match fld w 87 86 with
  | 1 => { m with lc := m.lc.set k (BitVec.ofNat 16 (fld w 85 70)) }
  | 2 => { m with lc := m.lc.set k ((old.srcA w).truncate 16) }
  | 3 => { m with lc := m.lc.set k 0 }
  | _ => m

/-! ## Conditions (Table 05.4) -/

/-- Bytes free in an output FIFO of 512 KiB (R86). (DEDUCED, log entry 50.) -/
def Fifo.space (f : Fifo) : Nat := 524288 - (f.write - f.rel)
/-- Place of a bed in its side of a stream's twin: the tile column that it codes (R141). -/
def State.tileOf (s : State) (b n : Nat) : Nat := ((s.twin n).sideOf b).idxOf b
/-- First CTU column of a bed's tile of a stream, and the columns of it. -/
def State.tileSpan (s : State) (b n : Nat) : Nat × Nat :=
  let g := Nat.max 1 (s.gangSize n)
  (tileStart (s.columnsOf n) g (s.tileOf b n), tileWidth (s.columnsOf n) g (s.tileOf b n))
/-- Row and column of the CTU that a bed codes or decodes of a stream. -/
def State.ctuAt (s : State) (b n : Nat) : Nat × Nat :=
  if (s.slot n).kind = 2 then
    ((s.slot n).dec.ctuNo / Nat.max 1 (s.columnsOf n), (s.slot n).dec.ctuNo % Nat.max 1 (s.columnsOf n))
  else ((s.bed b).row, (s.tileSpan b n).1 + (s.bed b).ctu)
/-- The CTU is the last of its row, or of its row in the bed's tile. -/
def State.lastCtu (s : State) (b n : Nat) : Bool :=
  decide ((s.tileSpan b n).1 + (s.tileSpan b n).2 ≤ (s.ctuAt b n).2 + 1)
/-- The CTU lies in the refresh column of the picture in progress (R155). -/
def State.inRefresh (s : State) (b n : Nat) : Bool :=
  ((s.picOf n (s.slot n).codedNo).bind (·.phase)).any (fun p =>
    let c := refreshColumn (s.columnsOf n) p.1 p.2
    decide (c.1 ≤ (s.ctuAt b n).2) && decide ((s.ctuAt b n).2 < c.2))
/-- Every member of a bed's gang has finished loop filtering the row that the bed has (R143). -/
def State.gangReady (s : State) (b : Nat) : Bool :=
  (s.gangOf b).all (fun m => decide ((s.bed b).ready.1 < (s.bed m).ready.1) ||
    (decide ((s.bed b).ready.1 = (s.bed m).ready.1) && decide ((s.bed b).ready.2 ≤ (s.bed m).ready.2)))
/-- A picture, or a pending picture, is ready for a bed to start: its line 0 may be used, every member may take it from the
hold buffer (R111), or a chunk of the bitstream waits. -/
def State.pictureReady (s : State) (b : Nat) : Bool :=
  let x := s.bed b
  x.strips.any (fun l => l.usable && decide (l.line = 0)) || !x.chunks.isEmpty ||
    x.slots.any (fun n => (s.feed n).pend.isSome && (s.feed n).busy.isEmpty)
/-- Condition `k` of a bed (Table 05.4): the entropy decoder's syntax errors and the results of motion search and transform
(17, 19 to 21) are as the units last drove them, the others are what the state holds. (DESIGN CHOICE, log entry 44.) -/
def State.cond (s : State) (n k : Nat) : Bool :=
  let b := s.bed n
  let m := b.mic
  let cur := b.slotNow
  if k = 0 then false
  else if k = 1 then m.z
  else if k = 2 then m.n
  else if k = 3 then m.c
  else if k = 4 then m.v
  else if k ≤ 8 then decide (m.lc.getD (k - 5) 0 = 0)
  else if k = 9 then b.strips.any (·.usable)
  else if k = 10 then !b.chunks.isEmpty
  else if k = 11 then decide (4096 ≤ b.fifo.space)
  else if k = 12 then s.pictureReady n
  else if k = 13 then cur.any (fun x => !(s.slot x).shadow.isEmpty)
  else if k = 14 then cur.any (fun x => s.cutNext (s.anchorOf x))
  else if k = 15 then cur.any (fun x => (s.slot x).repeat_)
  else if k = 16 then cur.any (fun x => (s.slot x).rc.overCap)
  else if k = 18 then cur.any (fun x => (s.slot x).dec.overBudget)
  else if k = 22 then cur.any (fun x => s.lastCtu n x)
  else if k = 23 then cur.any (fun x => decide ((s.ctuAt n x).1 + 1 = s.rowsOfSlot x))
  else if k = 24 then cur.any (fun x => s.inRefresh n x)
  else if k = 25 then s.gangReady n
  else if k = 26 then !b.exchange.isEmpty
  else if k = 27 then b.trapHeld || b.conds.getLsbD 27
  else if k = 28 then !b.checks.isEmpty
  else if 29 ≤ k ∧ k < 32 then false
  else if 32 ≤ k ∧ k < 48 then (m.ms.getD (k - 32) 0).getLsbD 0
  else if 48 ≤ k ∧ k < 56 then (m.ms.getD 15 0).getLsbD (k - 47)
  else if 56 ≤ k ∧ k < 63 then false
  else if k = 63 then true
  else b.conds.getLsbD k

/-! ## Branching (Table 05.3) -/

/-- An address of the micro-stack: [13:0] address and [14] space. -/
def stackWord (upc : Nat) (space : Bool) : Nat := upc % 16384 + 16384 * b2n space
/-- The address after a word (R125). -/
def Micro.after (m : Micro) : Nat := if m.space then (m.upc + 1) % 512 else (m.upc + 1) % 16384
/-- Go to an address of a space; patch RAM uses its low nine bits. -/
def Micro.jump (m : Micro) (upc : Nat) (space : Bool) : Micro :=
  { m with upc := if space then upc % 512 else upc % 16384, space := space }
/-- Target of JUMP or MULTI: `c k` is the value that selector `k` selects; a selector of 0 contributes 0. -/
def target (w : Microword) (c : Nat → Bool) : Nat :=
  if wMode w = 1 then
    (List.range 4).foldl (fun n k => n ||| (if wCs w k ≠ 0 && c (wCs w k) then 2 ^ k else 0)) (wNext w)
  else wNext w
/-- The next micro-PC of a word that does not wait (Table 05.3), with the loop counters as they stood before the word;
none for a STACK error (R126). TRAP_RETURN is the trap logic's. -/
def Micro.next (m old : Micro) (w : Microword) (c : Nat → Bool) : Option Micro :=
  let k := fld w 89 88
  match wMode w with
  | 0 => some (m.jump (wNext w) (wNsp w))
  | 1 => some (m.jump (target w c) (wNsp w))
  | 2 => if 4 ≤ m.stack.length then none
    else some ({ m with stack := stackWord m.after m.space :: m.stack }.jump (wNext w) (wNsp w))
  | 3 => match m.stack with
    | [] => none
    | a :: rest => some ({ m with stack := rest }.jump (a % 16384) (decide (16384 ≤ a)))
  | 4 =>
    if old.lc.getD k 0 = 0 then some (m.jump m.after m.space)
    else
      -- LC_OP, when there is one, writes the counter after the branch has tested it (R123)
      let m := if fld w 87 86 = 0 then { m with lc := m.lc.set k (old.lc.getD k 0 - 1) } else m
      some (m.jump (wNext w) (wNsp w))
  | _ => some (m.jump m.after m.space)

/-! ## Bed counters (R403 to R408) -/

/-- COUNTER_SEL of a bed counter (E 43.0000.10–17): event, level mode, sampling, PRESET. -/
def State.counterSel (s : State) (i : Nat) : Nat × Bool × Bool × Nat :=
  let b := s.cfg 0x43 0 (0x10 + i)
  (fieldAt b 0 1, decide (fieldAt b 1 1 = 1), decide (fieldAt b 2 1 = 1), fieldAt b 3 8)
/-- Level of an event's signal (Table 17.1); the stack-wait and cache-miss signals are the bed's own and no command carries
them. -/
def State.bedLevel (s : State) (n ev : Nat) : Bool :=
  let b := s.bed n
  if ev = 0 then false
  else if ev < 0x20 then b.mic.inWord && decide (wTag b.issued = ev)
  else if 0x40 ≤ ev ∧ ev < 0x80 then s.cond n (ev - 0x40)
  else if ev = 0x80 then decide (b.st = .running)
  else if ev = 0x86 then b.mic.waiting
  else if ev = 0x87 then b.mic.inWord && decide (wTpOp b.issued = 3) && decide (b.fifo.space < 4096)
  else false
/-- Bed clocks (1.6 GHz) from one instant in ns to another. -/
def clocksBetween (a b : Nat) : Nat := b * 8 / 5 - a * 8 / 5
/-- Add to a bed counter of 48 bits. With SAMPLE set it reloads PRESET as it passes its top, and a sample is due (R407); an
overflow before the last sample was recorded is counted as missed (R408). -/
def Bed.add (b : Bed) (i n : Nat) (sample : Bool) (preset : Nat) : Bed :=
  let c := b.bc.getD i 0 + n
  if c < 281474976710656 then { b with bc := b.bc.set i c }
  else if !sample then { b with bc := b.bc.set i (c % 281474976710656) }
  else
    let b := { b with bc := b.bc.set i (preset + (c - 281474976710656) % (281474976710656 - preset)) }
    if i ∈ b.sampling then { b with missed := bumpAt b.missed i 1 } else { b with sampling := i :: b.sampling }
/-- Bring a bed's counters up to now: clocks of the levels that stood since its last event, and rising edges. -/
def State.tick (s : State) (n : Nat) : State :=
  let clocks := clocksBetween (s.bed n).since s.now
  let s := (List.range 8).foldl (fun (s : State) i =>
    let (ev, level, sample, preset) := s.counterSel i
    let was := (s.bed n).levels.getD i false
    let is := s.bedLevel n ev
    let add := if level then (if was then clocks else 0) else if 0x20 ≤ ev ∧ !was ∧ is then 1 else 0
    s.modBed n (fun b =>
      let b := if s.str.frozen || add = 0 then b else b.add i add sample preset
      { b with levels := b.levels.set i is })) s
  s.modBed n (fun b => { b with since := s.now })
/-- One pulse of an event at a bed; a CNT_EV tag counts words in edge mode only. (DEDUCED, log entry 42.) -/
def State.pulse (s : State) (n ev : Nat) : State :=
  if s.str.frozen || ev = 0 then s
  else (List.range 8).foldl (fun (s : State) i =>
    let (e, level, sample, preset) := s.counterSel i
    if e = ev ∧ (0x80 ≤ ev ∨ !level) then s.modBed n (fun b => b.add i 1 sample preset) else s) s

end Sys2Proof.Machine
end

