-- ==== Sys2Proof/Machine/Faults.lean ====
section
/-! DEFINITION. Faults and their reactions (15): what pruning does to each unit (Table 15.3), the twins that lose a member
(09), raises, forces, records, and the return of a unit by its reset (R379). -/

namespace Sys2Proof.Machine

/-! ## Beds and twins -/

/-- Code of a bed state (Table 05.10). -/
def BedState.code : BedState → Nat
  | .off => 0
  | .waking => 1
  | .idle => 2
  | .running => 3
  | .soilTest => 4
  | .pruned => 5
  | .sleeping => 6
/-- Change STATE of a bed; a change raises its source k = 0 (R147). -/
def State.setBed (s : State) (b : Nat) (st : BedState) : State :=
  if (s.bed b).st = st then s
  else (((s.tick b).modBed b (fun x => { x with st := st })).tick b).raise (0x1000 + 8 * b)

/-- Code of a twin state (Table 09.9). -/
def TwinState.code : TwinState → Nat
  | .none => 0
  | .whole => 1
  | .single => 2
  | .grafting => 3
  | .probation => 4
  | .contested => 5
  | .holding => 6
/-- Change TWIN_STATE; a change raises source 0x2000 + slot (R264). -/
def State.setTwin (s : State) (n : Nat) (st : TwinState) : State :=
  if (s.twin n).st = st then s
  else (s.modTwin n (fun w => { w with st := st })).raise (0x2000 + n)
/-- Change which member is excused; a change of EXCUSED raises the slot's source (R264). -/
def State.setExcused (s : State) (n : Nat) (b : Option Nat) : State :=
  let old := (s.twin n).excused
  let s := s.modTwin n (fun w => { w with excused := b, excusedAt := s.now })
  if old.isSome = b.isSome then s else s.raise (0x2000 + n)
/-- Count in E 24.ssss.10 + `i`. -/
def State.countTwin (s : State) (n i : Nat) : State := s.modTwin n (fun w => { w with counts := bumpAt w.counts i 1 })

/-- PROTECTED now, by the conditions of R232 on the twin alone (R259): WHOLE, CONTESTED, or within three picture periods of
an exposure. -/
def Twin.covered (w : Twin) : Bool :=
  w.st = .whole || w.st = .contested ||
    ((w.st = .single || w.st = .grafting || w.st = .probation) && w.exposed && !w.exposureOver)
/-- A channel's PEER entry names a channel (E 24.3ccc.01). -/
def State.peerOf (s : State) (c : Nat) : Option Nat :=
  let v := s.cfgN 0x24 (0x3000 + c) 0x01
  if v = 0xFFFF then none else some v
/-- A leg is received on each pipeline die, by a flow whose run names a channel and its PEER (R232). -/
def State.legsReach (s : State) (c p : Nat) : Bool :=
  let names := fun (l : List DeliveryWord) (ch : Nat) => l.any (fun e => decide (dType e = 2) && decide (dIntake e = ch))
  [0, 1].all (fun die => !s.diePruned die && (List.range 4).any (fun k => (s.pipe (4 * die + k)).flows.any (fun x =>
    !x.drop && (let d := (s.run die x.index []).dests; names d c && names d p))))
/-- The input conditions of R232: the legs reach the channel and its PEER on their own dies, and STANDBY names the PEER. -/
def State.inputProtected (s : State) (n : Nat) : Bool :=
  match (s.feed (s.anchorOf n)).source with
  | none => false
  | some c => match s.peerOf c with
    | none => false
    | some p => decide (intakeDie p ≠ intakeDie c) && s.legsReach c p &&
        decide (s.cfgN 0x24 (s.anchorOf n) 0x05 = p)
/-- A run names destinations on its own die only. -/
def State.ownDieRun (s : State) (die i : Nat) : Bool := (s.run die i []).dests.all (fun e => decide (dDie e = die))
/-- The outtake channels that name a decode stream (R228). -/
def State.outtakesOf (s : State) (n : Nat) : List Nat :=
  s.alm.store.filterMap (fun e =>
    let k := e.1
    if k / 16777216 = 0x20 ∧ k % 256 = 0x02 ∧ 0x1000 ≤ k / 256 % 65536 ∧ k / 256 % 65536 < 0x2000 ∧ leNat e.2 = n
    then some (k / 256 % 65536 - 0x1000) else none)
/-- R232 holds for a stream now (for a decode stream, with the outtake conditions of R262). -/
def State.isProtected (s : State) (n : Nat) : Bool :=
  let covered := s.protects n && (s.twin n).covered
  if (s.slot n).kind = 2 then
    let c := s.cfgN 0x23 n 0x09
    let oc := s.outtakesOf n
    let side := fun die => oc.any (fun o =>
      decide (outtakeDie o = die) && !(s.cfg 0x20 (0x1000 + o) 0x07).isEmpty && s.ownDieRun die (s.cfgN 0x20 (0x1000 + o) 0x07))
    covered && (match s.peerOf c with
      | none => false
      | some p => decide (intakeDie p ≠ intakeDie c) && s.legsReach c p) && side 0 && side 1
  else
    covered && s.inputProtected n && (match s.deliveryOf n 0, s.deliveryOf n 1 with
      | some i, some j => s.ownDieRun 0 i && s.ownDieRun 1 j
      | _, _ => false)
/-- Bring PROTECTED of a stream up to date (R232). -/
def State.judge (s : State) (n : Nat) : State :=
  if (s.twin n).st = .none then
    (if (s.twin n).protected_ then s.modTwin n (fun w => { w with protected_ := false }) else s)
  else
    let p := s.isProtected n
    s.modTwin n (fun w => { w with protected_ := p })
/-- Bring PROTECTED of every twin up to date. (DEDUCED, log entry 68.) -/
def State.judgeAll (s : State) : State := s.str.twins.foldl (fun (s : State) e => s.judge e.1) s

/-- The picture a stream is coding: the last one begun. -/
def State.currentPic (s : State) (n : Nat) : Nat := ((s.slot n).pics.head?.map (·.no)).getD 0

/-! ## Patch banks, and a bed that becomes free (R133, R138) -/

/-- PATCH_ACTIVE shows the new version once every powered bed that is neither PRUNED nor under test has switched (R133). -/
def State.patchSettled (s : State) : State :=
  if s.str.patchStandby ≠ 0 ∧ s.str.beds.all (fun e =>
      !(decide (e.2.st = .idle) || decide (e.2.st = .running)) || e.2.standby.isNone) then
    { s with str := { s.str with patchActive := s.str.patchStandby, patchStandby := 0 } }
  else s
/-- A bed switches banks: the standby set becomes active (R133, R147). (DEDUCED, log entry 47.) -/
def State.switchBank (s : State) (n : Nat) : State :=
  match (s.bed n).standby with
  | none => s
  | some p =>
    (s.modBed n (fun b => { b with patch := p, standby := none, bank := !b.bank })).raise (0x1000 + 8 * n + 3)
/-- A bed becomes IDLE without a sleep: it switches to the newest accepted set when it has another (R133, R147). -/
def State.freshPatch (s : State) (n : Nat) : State :=
  let s := s.modBed n (fun b =>
    { b with standby := if b.standby.isNone && decide (b.patch = s.str.patch) then none else some s.str.patch })
  (s.switchBank n).patchSettled
/-- A bed starts from its reset micro-state, its local store and reference cache at zero (R138). -/
def State.clearBed (s : State) (n : Nat) : State :=
  s.modBed n (fun b =>
    { b with mic := {}, issued := 0, store := [], trapped := false, trapHeld := false, stopped := false, fifo := {},
             unitStart := 0, unitFlag := false, flagged := [], strips := [], chunks := [], exchange := [], row := 0, ctu := 0,
             ready := (0, 0), closed := (0, 0), conds := 0, slotNow := none })
/-- The slots that a bed runs change; its sources' routes return to reset with a change of owner (R333). -/
def State.setSlots (s : State) (n : Nat) (f : List Nat → List Nat) : State :=
  (s.modBed n (fun b => { b with slots := f b.slots })).reowned s
/-- A bed no longer runs a stream. -/
def State.unassign (s : State) (n slot : Nat) : State :=
  let s := (s.setSlots n (fun l => removeFrom l slot)).modBed n (fun b =>
    { b with slotNow := if b.slotNow = some slot then none else b.slotNow })
  if (s.bed n).slots = [] ∧ (s.bed n).st = .running then
    (((s.clearBed n).modBed n (fun b => { b with idleSince := s.now })).setBed n .idle).freshPatch n
  else s

/-- Stop a contest: its retrial bed is free again (R245). -/
def State.endContest (s : State) (n : Nat) : State :=
  let w := s.twin n
  if w.contest.isNone then s
  else
    let s := if w.retrial then
        w.scion.foldl (fun (s : State) b => s.unassign b n) s
      else s
    s.modTwin n (fun w => { w with contest := none, scion := if w.retrial then [] else w.scion, retrial := false })

/-- A double fault of one stream (R246): its STATE becomes RESTARTING and its TWIN_STATE HOLDING; hold rows stand in for
the rest of the pictures begun, and members restart at the first boundary at least 1 ms later. -/
def State.doubleFaultOne (s : State) (n : Nat) : State :=
  if (s.twin n).st = .holding then s
  else
    let s := s.endContest n
    let s := (s.setTwin n .holding).countTwin n 7
    let s := s.modSlot n (fun x => { x with st := 5 })
    let s := s.modTwin n (fun w =>
      { w with protected_ := false, holdPicture := some (s.currentPic n), restartAt := s.now + 1000000,
               open_ := [], requested := [], decided := [], probation := none })
    let s := s.setExcused n none
    if (s.slot n).kind = 2 then s else [0, 1].foldl (fun (s : State) die => s.holdRest die n) s
/-- A double fault; every tier of an espalier holds together (R246). -/
def State.doubleFault (s : State) (n : Nat) : State :=
  let a := s.anchorOf n
  (if (s.slot n).role = 0 then [n] else s.ladder a).foldl (fun (s : State) k => s.doubleFaultOne k) s

/-- Release the units of the surviving member that wait for the pruned one, and free the pruned member's (R244, R251). -/
def State.flushOpen (s : State) (n : Nat) : State :=
  let w := s.twin n
  let keep := w.open_.filter (fun o => decide (o.copy.bed ∈ w.lead))
  let s := s.modTwin n (fun w => { w with open_ := [] })
  if keep.any (fun o => o.copy.flagged) then s.doubleFault n
  else keep.foldl (fun (s : State) o => s.releaseUnit o.die o.copy) s

/-- The fences of a decode stream are its regions (R216). -/
def State.refence (s : State) (n : Nat) : State :=
  if (s.slot n).kind ≠ 2 then s
  else
    s.modSlot n (fun x =>
      let fence := fun k => match x.regions[k]? with
        | some r => (r.1, r.2.1, r.2.1 + r.2.2)
        | none => ((0, 0, 0) : Nat × Nat × Nat)
      { x with dec := { x.dec with fence0 := fence 0, fence1 := fence 1 } })
/-- A stream keeps the regions on the dies of some beds only. -/
def State.keepRegions (s : State) (n : Nat) (beds : List Nat) : State :=
  (s.modSlot n (fun x => { x with regions := x.regions.filter (fun r =>
    beds.any (fun b => decide (bedDie b = r.1))) })).refence n
/-- A stream loses the member that a pruned bed belongs to (R238, R251, R259); `side` is that member. A stream with PROTECT 0
keeps naming its PRUNED bed (DEDUCED, log entry 140). -/
def State.loseMember (s : State) (n : Nat) (side : List Nat) : State :=
  let w := s.twin n
  let hit := fun (l : List Nat) => l.any (fun b => decide (b ∈ side))
  if w.st = .none then s
  else
    let drop := fun (s : State) => side.foldl (fun (s : State) b =>
      s.setSlots b (fun l => removeFrom l n)) s
    if hit w.scion then
      let s := drop (s.modTwin n (fun w =>
        { w with scion := [], retrial := false, probation := none, transplanted := none, loaded := none }))
      let s := s.keepRegions n (w.lead ++ w.partner)
      if w.st = .grafting ∨ w.st = .probation then s.setTwin n .single else s
    else if !hit w.lead && !hit w.partner then s
    else
      let rest := if hit w.lead then w.partner else w.lead
      let s := drop ((s.endContest n).countTwin n 0)
      let s := s.setExcused n none
      let s := s.modTwin n (fun w =>
        { w with lead := rest, partner := [], requested := [], lostDie := side.head?.map bedDie })
      let s := s.keepRegions n (rest ++ w.scion)
      if rest = [] then s.doubleFault n
      else
        let s := if w.st = .whole ∨ w.st = .contested then
            s.modTwin n (fun w => { w with exposed := true, exposedSince := s.now, exposureOver := false, tries := 0 })
          else s
        let s := if w.st = .holding then s else s.setTwin n .single
        (s.flushOpen n).judge n

/-! ## Prunes (Table 15.3) -/

/-- ALIVE groups (Table 15.4) that watch a domain. -/
def aliveGroup (d : Nat) : Option Nat :=
  if d < 8 then some (d / 2) else if d < 10 then some (d - 4) else if d = 10 ∨ d = 15 then some 6
  else if d = 11 ∨ d = 12 then some 7 else none
/-- A group has a PRUNED unit (R381). -/
def State.groupPruned (s : State) (g : Nat) : Bool :=
  s.flt.pruned.any (fun u => decide (aliveGroup u.1 = some g)) || (decide (g = 6) && !s.flt.viaTrellis.isEmpty)
/-- No further tick goes to a group with a PRUNED unit (R381). -/
def State.stopTicks (s : State) : State :=
  let run := (List.range 8).foldl (fun (r : BitVec 8) g =>
    if s.groupPruned g then r &&& ~~~(1#8 <<< g) else r) s.flt.aliveRun
  s.modFlt (fun f => { f with aliveRun := run })

/-- Put a unit into PRUNED; the ticks of its ALIVE group end (R381). -/
def State.markPruned (s : State) (d u : Nat) : State :=
  (s.modFlt (fun f => { f with pruned := addTo f.pruned (d, u),
                               resetting := removeFrom f.resetting (d, u) })).stopTicks
/-- A prune abandons a unit reset that was ordered in its cycle (R375). -/
def State.abandon (s : State) (d u : Nat) : State :=
  let hit := fun (x : Nat × Nat) => decide (x.1 = d) && (decide (x.2 = u) || decide (u = 0xFF))
  if s.flt.ordered.1 ≠ s.now / 2 then s
  else s.modFlt (fun f => { f with resetting := f.resetting.filter (fun x => !(hit x && decide (x ∈ f.ordered.2))) })
/-- Prune one bed (R251): it is fenced, its FIFO is flushed, and every stream on it loses a member. -/
def State.pruneBed (s : State) (b : Nat) : State :=
  if s.isPruned (bedDie b) (b % 36) then s
  else
    let slots := (s.bed b).slots
    let s := s.markPruned (bedDie b) (b % 36)
    let s := s.modBed b (fun x => { x with fifo := {}, unitFlag := false, spare := false, warm := false,
                                           trapHeld := false, wakeWaits := false })
    let s := s.setBed b .pruned
    slots.foldl (fun (s : State) n => s.loseMember n ((s.twin n).sideOf b)) s
/-- Prune a bed, or its gang. -/
def State.pruneGang (s : State) (b : Nat) : State := (s.gangOf b).foldl State.pruneBed s
/-- Prune every bed of a coding die. -/
def State.pruneBeds (s : State) (d : Nat) : State :=
  (List.range 36).foldl (fun (s : State) j => s.pruneBed (36 * d + j)) s

/-- The standby instance of a feed becomes active on the other die (R235): it resends the lines after its own mark. -/
def State.takeOver (s : State) (n : Nat) : State :=
  let f := s.feed n
  match f.source with
  | none => s
  | some c => match s.peerOf c with
    | none => s
    | some p =>
      if s.cfgN 0x24 n 0x05 ≠ p then s
      else
        let s := (s.setCfgN 0x24 n 0x05 2 (s.cfgN 0x24 (0x3000 + p) 0x01)).modFeed n (fun f =>
          { f with source := some p, activeDie := intakeDie p, mark := f.standbyMark, line := f.standbyMark, acks := [],
                   reading := f.reading.map (fun _ => p) })
        (s.members n).foldl (fun (s : State) b => s.modBed b (fun x =>
          { x with strips := x.strips.filter (fun l =>
            !(decide (l.slot = n) && decide (l.picture = f.picture) && decide (f.standbyMark ≤ l.line))) })) s
/-- Every protected feed whose active instance stood on a die is taken over. -/
def State.takeOverAll (s : State) (die : Nat) : State :=
  s.str.feeds.foldl (fun (s : State) e =>
    if e.2.source.any (fun c => decide (intakeDie c = die)) then s.takeOver e.1 else s) s
/-- The channel that feeds a decode stream: CHANNEL, or its PEER once CHANNEL's die is PRUNED (R235, R262). -/
def State.bitsFrom (s : State) (n : Nat) : Nat :=
  let c := s.cfgN 0x23 n 0x09
  if s.diePruned (intakeDie c) && s.protects n then (s.peerOf c).getD c else c
/-- The standby of a decode stream's channel goes on for it (R235, R262): the PEER takes the decisions that it has been told. -/
def State.takeOverBits (s : State) (n : Nat) : State :=
  let c := s.cfgN 0x23 n 0x09
  match s.peerOf c with
  | none => s
  | some p =>
    let i := s.intake c
    s.modIntake p (fun x =>
      { x with openTs := i.openTs, openSince := i.openSince, endedTs := i.endedTs, auSlot := i.auSlot, lastSlot := i.lastSlot,
               tags := i.tags, bits := i.bits, pmtPid := i.pmtPid })
/-- Every protected decode stream whose channel stood on a die is taken over. -/
def State.takeOverDecodes (s : State) (die : Nat) : State :=
  s.str.slots.foldl (fun (s : State) e =>
    if e.2.kind = 2 ∧ 2 ≤ e.2.st ∧ s.protects e.1 ∧ intakeDie (s.cfgN 0x23 e.1 0x09) = die then s.takeOverBits e.1 else s) s
/-- Crossing packets bound for a die are counted as crossing drops (R373). A packet in flight keeps its reference, for no
acknowledgement comes of it (DESIGN CHOICE, log entry 138). -/
def State.dropBound (s : State) (die : Nat) : State :=
  let c := s.cells (1 - die)
  let s := s.modCells (1 - die) (fun c => { c with waiting := [], inFlight := [] })
  let s := c.waiting.foldl (fun (s : State) x => (s.crossDrop die (plOf x.lp)).dropRef x.chain) s
  c.inFlight.foldl (fun (s : State) x => s.crossDrop die (plOf x.lp)) s
/-- Prune a pipeline die (Table 15.3). (DEDUCED, log entry 51.) -/
def State.pruneP (s : State) (p : Nat) : State :=
  if s.isPruned (8 + p) 0xFF then s
  else
    let s := s.markPruned (8 + p) 0xFF
    let s := (List.range 4).foldl (fun (s : State) i => s.modPipe (4 * p + i) (fun x => { x with released := false })) s
    let s := (((s.prunePorts (512 * p) 512).takeOverAll p).takeOverDecodes p).dropBound p
    let s := if s.clk.slave ≠ 0xFFFF ∧ dieOf s.clk.slave = p then s.slaveLost else s
    s.judgeAll
/-- Prune a coding die: every bed of it; its link is fenced (Table 15.3). (DEDUCED, log entry 51.) -/
def State.pruneC (s : State) (d : Nat) : State :=
  if s.isPruned d 0xFF then s else (s.markPruned d 0xFF).pruneBeds d
/-- Prune a pipeline (Table 15.3). -/
def State.prunePipe (s : State) (pl : Nat) : State :=
  if s.isPruned (8 + pl / 4) (pl % 4) then s
  else
    let s := (s.markPruned (8 + pl / 4) (pl % 4)).modPipe pl (fun x => { x with released := false })
    s.prunePorts (128 * pl) 128
/-- Prune a stack (R347): its state shows it, and the beds of its die or its pipeline die go with it. -/
def State.pruneStack (s : State) (m : Nat) : State :=
  if s.isPruned 12 m then s
  else
    let s := (s.markPruned 12 m).modStack m (fun x => { x with st := 3, holding := false })
    if m < 8 then s.pruneBeds m else s.pruneP ((m - 8) / 2)
/-- Prune an optical engine: its ports, and a calibration of its pairs (R390). -/
def State.pruneEngine (s : State) (k : Nat) : State :=
  if s.isPruned 11 k then s
  else
    let s := (s.markPruned 11 k).prunePorts (64 * k) 64
    let mine := fun (p : Nat) => decide (p / 8 = k)
    if !s.cal.running then s
    else
      let others := fun (l : List Nat) => if s.cal.kind = 0 then l.filter (fun p => !mine p) else l
      let s := { s with cal := { s.cal with todo := others s.cal.todo, batch := others s.cal.batch } }
      ((List.range 8).foldl (fun (s : State) j => s.modPair (8 * k + j) (fun x => { x with pending := none })) s).nextBatch
/-- Prune a core pair (Table 15.3): its active sources return to PENDING (R344). -/
def State.pruneCore (s : State) (p : Nat) : State :=
  if s.isPruned 10 p then s
  else
    let s := (s.markPruned 10 p).shedReturn p
    { s with shed := { s.shed with pairsDown := addTo s.shed.pairsDown p } }

/-! ## Feeds, phases and rails -/

/-- A feed may carry the load: in range and not isolated. -/
def Module.usable (m : Module) (f : Nat) : Bool :=
  if f = 0 then m.rangeA && m.feedA ≠ 4 else m.rangeB && m.feedB ≠ 4
/-- The load moves to a feed; a move while the module runs is a switch-over (R438). -/
def State.switchTo (s : State) (f : Nat) : State :=
  if s.mod.feedInUse = f then s
  else ({ s with mod := { s.mod with feedInUse := f, switchovers := inc64 s.mod.switchovers } }).raise 0x0211
/-- Prune a feed (R441): isolated, unless the other is out of range or isolated; then PRUNED and still connected. -/
def State.pruneFeed (s : State) (f : Nat) : State :=
  if s.isPruned 13 f then s
  else
    let s := s.markPruned 13 f
    let v := if s.mod.usable (1 - f) then 4 else 3
    let s := { s with mod := if f = 0 then { s.mod with feedA := v } else { s.mod with feedB := v } }
    if v = 4 ∧ s.mod.feedInUse = f then s.switchTo (1 - f) else s

/-- First phase and number of phases of a rail (Table 19.4). -/
def railPhases (r : Nat) : Nat × Nat :=
  [(0, 9), (9, 9), (18, 9), (27, 9), (36, 11), (47, 11), (58, 5), (63, 4), (67, 4), (71, 4), (75, 4), (79, 4), (83, 4),
    (87, 8), (95, 8), (103, 5), (108, 4)].getD r (0, 0)
/-- The rail of a phase. -/
def railOf (n : Nat) : Nat :=
  ((List.range 17).find? (fun r => decide ((railPhases r).1 ≤ n) && decide (n < (railPhases r).1 + (railPhases r).2))).getD 0
/-- Phases that a rail has left. -/
def State.phasesLeft (s : State) (r : Nat) : Nat :=
  (railPhases r).2 - (s.mod.phasesDown.filter (fun n => decide (railOf n = r))).length
/-- The module stops (R439, R444): every rail is off. KEEP and RG_KEEP hold the Cold Frame and the Rain Gauge. -/
def State.stopModule (s : State) : State :=
  let s := if s.mod.feedInUse = 2 then s else s.raise 0x0211
  { s with mod := { s.mod with on := false, rails := [], feedInUse := 2 }
           shed := {}
           alm := { s.alm with live := false }
           clk := { s.clk with power := [] }
           gauge := { s.gauge with flags := { s.gauge.flags with moduleOff := true }
                                   meter0 := [], meter1 := [], old0 := [], old1 := [] } }
/-- Prune every unit that a rail feeds (R444, Table 19.4); blocks of the rail are RAIL_OFF (R463). -/
def State.pruneRail (s : State) (r : Nat) : State :=
  let off := fun (s : State) (first n : Nat) => (List.range n).foldl (fun (s : State) k => s.setPower (first + k) 4) s
  if r < 4 then off ((s.pruneC (2 * r)).pruneC (2 * r + 1)) (72 * r) 72
  else if r < 6 then off (s.pruneP (r - 4)) (0x120 + 4 * (r - 4)) 4
  else if 7 ≤ r ∧ r < 13 then (s.pruneStack (2 * (r - 7))).pruneStack (2 * (r - 7) + 1)
  else if r = 13 ∨ r = 14 then
    off ((List.range 8).foldl (fun (s : State) k => s.pruneEngine (8 * (r - 13) + k)) s) (0x128 + 8 * (r - 13)) 8
  else s.stopModule

/-! ## Reactions (R372, R373) -/

/-- The unit that Table 15.1 names for a source, in the numbering of R379. -/
def unitOf (id : Nat) : Option (Nat × Nat) :=
  let d := id / 256
  let n := id % 256
  if d < 8 then
    if n < 0x24 then some (d, n) else if 0x40 ≤ n ∧ n < 0x64 then some (d, n - 0x40)
    else if n = 0x80 ∨ n = 0x81 then some (d, 0xFF) else none
  else if d < 10 then
    if n < 64 ∧ n % 16 = 2 then some (d, n / 16) else if n = 0x80 ∨ n = 0x81 then some (d, 0xFF) else none
  else if d = 10 then (if n < 16 then some (10, n) else none)
  else if d = 11 then (if n < 64 then some (11, n / 4) else none)
  else if d = 12 then (if n < 192 then some (12, n / 16) else none)
  else if d = 13 then (if n < 2 ∨ (0x10 ≤ n ∧ n < 0x80) then some (13, n) else none)
  else if d = 15 then (if n % 16 = 1 ∧ n / 16 < 10 then some (n / 16, 0xFF) else none)
  else none

/-- Pulse an alert output for 20 ms (R383). -/
def State.alert (s : State) (out : Nat) : State :=
  s.modFlt (fun f => if out = 0 then { f with pulse0 := s.now + 20000000 } else { f with pulse1 := s.now + 20000000 })
/-- Raise 0xD80 while a rail has only N phases left (R443). Its class is log or alert. -/
def State.sparesLost (s : State) : State :=
  let low := (List.range 17).any (fun r => decide (s.phasesLeft r = (railPhases r).2 - 2))
  let x := s.source 0xD80
  let s := s.modSource 0xD80 (fun x => { x with cause := low })
  if low && !x.live then
    let s := s.recordRaise 0xD80
    if s.classOf 0xD80 = 1 then s.alert 0 else s
  else s
/-- A phase is disabled (R443); a rail with fewer than N phases left is turned off (R444). -/
def State.phaseDown (s : State) (n : Nat) : State :=
  if n ∈ s.mod.phasesDown then s
  else
    let s := { s with mod := { s.mod with phasesDown := insertNat n s.mod.phasesDown } }
    let r := railOf n
    let s := s.sparesLost
    if s.phasesLeft r + 2 < (railPhases r).2 ∧ s.rail r ≠ 2 then (s.setRail r 2).pruneRail r else s

/-- Prune a unit in the numbering of R379 (Table 15.3). A unit that is already PRUNED is left as it is. -/
def State.pruneUnit (s : State) (d u : Nat) : State :=
  if d < 8 then (if u = 0xFF then s.pruneC d else s.pruneGang (36 * d + u))
  else if d < 10 then (if u = 0xFF then s.pruneP (d - 8) else s.prunePipe (4 * (d - 8) + u))
  else if d = 10 then s.pruneCore u
  else if d = 11 then s.pruneEngine u
  else if d = 12 then s.pruneStack u
  else if u < 2 then s.pruneFeed u
  else if s.isPruned 13 u then s
  else (s.markPruned 13 u).phaseDown (u - 0x10)

/-- The reaction of a class (Table 15.2). -/
def State.react (s : State) (id cls : Nat) : State :=
  match cls with
  | 0 => s
  | 1 => if id / 256 = 13 then s.alert 0 else if id / 256 = 14 then s.alert 1 else s
  | _ =>
    match unitOf id with
    | none => s
    | some (d, u) =>
      let s := if id / 256 = 15 then
          s.modFlt (fun f => { f with viaTrellis := addTo f.viaTrellis (id % 256 / 16) }) else s
      let u := if cls = 3 then 0xFF else u
      ((s.abandon d u).pruneUnit d u).stopTicks

/-- One raise (R370): the record and the reaction of the class in force. -/
def State.raised (s : State) (id : Nat) (forced : Bool) : State :=
  if !s.flt.recording || (sourceInfo id).isNone then s
  else (s.recordRaise id forced).react id (s.classOf id)
/-- A cause appears; a raise is a rising edge of LIVE (R370). -/
def State.raiseFault (s : State) (id : Nat) : State :=
  if (sourceInfo id).isNone then s
  else
    let was := (s.source id).live
    let s := s.modSource id (fun x => { x with cause := true })
    if was then s else s.raised id false
/-- A cause is gone (R370, R378). -/
def State.causeGone (s : State) (id : Nat) : State := s.modSource id (fun x => { x with cause := false })
/-- A cause that appears and is gone at once: it counts each time it appears (R370). -/
def State.pulseFault (s : State) (id : Nat) : State :=
  if (s.source id).live then s else s.raised id false

/-- FORCE of a source (R380): ignored and counted while INJECT_ENABLE is 0; a rising edge of LIVE is one raise, marked
FORCED; a forced bed self-check also flags the release unit that the bed writes. -/
def State.forceFault (s : State) (id : Nat) (on : Bool) : State :=
  if (sourceInfo id).isNone then s
  else if on && !s.flt.inject then s.modFlt (fun f => { f with forceRefused := inc64 f.forceRefused })
  else
    let was := (s.source id).live
    let s := s.modSource id (fun x => { x with force := on })
    if !on || was then s
    else
      let s := if id / 256 < 8 ∧ id % 256 < 36 then
          s.modBed (36 * (id / 256) + id % 256) (fun b => { b with unitFlag := true }) else s
      s.raised id true
/-- CLASS of a source (R371, R372): ignored for a fixed source, else clamped to its legal set. -/
def State.setClass (s : State) (id v : Nat) : State :=
  match sourceInfo id with
  | none => s
  | some i =>
    if i.fixed then s
    else
      let v := clampClass i v
      s.modSource id (fun x => { x with cls := if v = i.dflt then none else some v })
/-- INJECT_ENABLE (R380): writing 0 clears every FORCE bit. -/
def State.setInject (s : State) (on : Bool) : State :=
  if on then s.modFlt (fun f => { f with inject := true })
  else
    let s := s.flt.sources.foldl (fun (s : State) e => s.modSource e.1 (fun x => { x with force := false })) s
    s.modFlt (fun f => { f with inject := false })

/-- CLEAR of a first-error record (R377): every source of its scope that is LIVE is offered again, the lowest first. -/
def State.clearRecord (s : State) (r : Nat) : State :=
  let s := s.modErrRec r (fun x => { raises := x.raises })
  let live := s.flt.sources.filter (fun e => e.2.live && (decide (r = 16) || decide (e.1 / 256 = r)))
  live.foldl (fun (s : State) e =>
    s.modErrRec r (fun x => x.offer e.1 s.now (s.now / 2 + 1) s.traceable (e.2.force && !e.2.cause))) s

/-! ## Unit resets (R379) -/

/-- The units that return with a unit: a pipeline die's pipelines and stacks. -/
def subUnits (d u : Nat) : List (Nat × Nat) :=
  if (d = 8 ∨ d = 9) ∧ u = 0xFF then
    [(d, 0xFF), (d, 0), (d, 1), (d, 2), (d, 3), (12, 8 + 2 * (d - 8)), (12, 9 + 2 * (d - 8))]
  else [(d, u)]
/-- A source belongs to a unit or to one of its sub-units; a coding die's beds are its sub-units. -/
def sourceOfUnit (d u id : Nat) : Bool :=
  match unitOf id with
  | none => false
  | some x => decide (x ∈ subUnits d u) || (decide (d < 8) && decide (u = 0xFF) && decide (x.1 = d))
/-- Streams that name a bed of a unit, or have their region on its stack (for a coding die, the stack of the die). -/
def State.unitNamed (s : State) (d u : Nat) : Bool :=
  let beds := if d < 8 then (if u = 0xFF then (List.range 36).map (fun j => 36 * d + j) else [36 * d + u])
    else if d = 12 ∧ u < 8 then (List.range 36).map (fun j => 36 * u + j) else []
  let stack := decide (u < 8 ∧ d = 12) || decide (d < 8 ∧ u = 0xFF)
  beds.any (fun b => !(s.bed b).slots.isEmpty) ||
    (stack && s.str.slots.any (fun e => e.2.regions.any (fun r => decide (r.1 = if d = 12 then u else d))))
/-- Order a unit reset (R379); answers the status. The FORCE bits of the unit's sources clear first. -/
def State.orderReset (s : State) (d u : Nat) : Nat × State :=
  if !s.isPruned d u || s.unitNamed d u || (decide (d = 12) && decide (8 ≤ u)) then (3, s)
  else
    let s := s.flt.sources.foldl (fun (s : State) e =>
      if sourceOfUnit d u e.1 then s.modSource e.1 (fun x => { x with force := false }) else s) s
    let c := s.now / 2
    (0, s.modFlt (fun f => { f with resetting := addTo f.resetting (d, u)
                                    ordered := (c, (d, u) :: (if f.ordered.1 = c then f.ordered.2 else [])) }))
/-- A link is trained at its die's unit reset: every failed lane is back (R20). -/
def State.trainLink (s : State) (m : Nat) : State :=
  let s := (s.modLink m (fun _ => {})).causeGone (0xF00 + 16 * m)
  (s.causeGone (0xF01 + 16 * m)).modFlt (fun f => { f with viaTrellis := removeFrom f.viaTrellis m })
/-- What a unit's return does (R379, R44, R69, R261). -/
def State.returnUnit (s : State) (d u : Nat) : State :=
  -- a training puts a pipeline die's OP_POINT in force (R359); a coding stack's change that waits goes on waiting
  let retrain := fun (s : State) (m : Nat) =>
    let waits := decide (m ∈ s.mem.waiting)
    s.modStack m (fun x =>
      if m < 8 then { x with st := 1, holding := false, opState := b2n waits }
      else { x with st := 1, holding := false, active := x.target, opState := 0,
                    opAt := if x.active = x.target then x.opAt else s.now })
  if d < 8 then s
  else if d < 10 then
    let p := d - 8
    if u = 0xFF then
      let s := ((retrain (retrain s (8 + 2 * p)) (9 + 2 * p)).reloadCopy p).restoreCells p
      let s := (List.range 4).foldl (fun (s : State) i => s.reloadPipe (4 * p + i)) s
      let s := s.str.slots.foldl (fun (s : State) e =>
        if (s.deliveryOf e.1 p).isSome ∧ e.2.kind = 1 ∧ 2 ≤ e.2.st then
          s.modSlot e.1 (fun x => { x with resync := addTo x.resync p }) else s) s
      (s.returnPorts (512 * p) 512).judgeAll
    else (s.reloadPipe (4 * p + u)).returnPorts (128 * (4 * p + u)) 128
  else if d = 10 then { s with shed := { s.shed with pairsDown := removeFrom s.shed.pairsDown u } }
  else if d = 11 then s.returnPorts (64 * u) 64
  else if d = 12 then retrain s u
  else if u = 0 then { s with mod := { s.mod with feedA := if s.mod.rangeA then 1 else 2 } }
  else if u = 1 then { s with mod := { s.mod with feedB := if s.mod.rangeB then 1 else 2 } }
  else ({ s with mod := { s.mod with phasesDown := removeFrom s.mod.phasesDown (u - 0x10) } }).sparesLost
/-- A bed that has failed two soil tests in a row stays PRUNED until RETEST (R399). -/
def State.failedTwice (s : State) (d u : Nat) : Bool :=
  decide (d < 8) && decide (u < 36) && decide (2 ≤ (s.bed (36 * d + u)).soilFails)
/-- A unit reset ends (R379): the unit and its sub-units leave PRUNED, unless a source of theirs is LIVE. A pipeline's or
a pipeline die's return waits while the Shed restarts (R69). -/
def State.endReset (s : State) (d u : Nat) : State :=
  if !decide ((d, u) ∈ s.flt.resetting) || (decide (8 ≤ d) && decide (d < 10) && !s.shedLive) then s
  else
    let s := s.modFlt (fun f => { f with resetting := removeFrom f.resetting (d, u) })
    let s := if d < 10 ∧ u = 0xFF then s.trainLink d else s
    if s.failedTwice d u || s.flt.sources.any (fun e => sourceOfUnit d u e.1 && e.2.live) then
      s.modFlt (fun f => { f with resetFails := inc64 f.resetFails })
    else
      let back := subUnits d u
      let s := s.modFlt (fun f => { f with pruned := f.pruned.filter (fun x => !decide (x ∈ back)) })
      s.returnUnit d u

end Sys2Proof.Machine
end

