-- ==== Sys2Proof/Machine/Beds.lean ====
section
/-! DEFINITION. The beds (05): self-checks, issue, retirement, waits and micro-traps of the microsequencer, patch sets,
sleep and wake, and run bits. -/

namespace Sys2Proof.Machine

def State.modMic (s : State) (n : Nat) (f : Micro → Micro) : State := s.modBed n (fun b => { b with mic := f b.mic })
/-- A bed runs microcode: powered and neither fenced nor under test (Table 05.10). -/
def Bed.runs (b : Bed) : Bool := (decide (b.st = .idle) || decide (b.st = .running)) && !b.stopped
/-- The bed whose reports count for a stream: position 0 of its lead side. Its partner's are the same (R120, R213). -/
def State.speaks (s : State) (b n : Nat) : Bool := decide ((s.twin n).lead.head? = some b)

/-- A self-check (R130, R144): the cause shows in the bed's status, the units of its gang are flagged, and the fault
collector hears of it. (DEDUCED, log entry 50.) -/
def State.selfCheck (s : State) (n : Nat) (c : CheckCause) : State :=
  let s := s.modBed n (fun b => { b with checks := addTo b.checks c, selfChecks := inc64 b.selfChecks })
  let s := (s.gangOf n).foldl (fun (s : State) g => s.modBed g (fun b => { b with unitFlag := true })) s
  ((s.tick n).raise (0x1000 + 8 * n + 1)).raiseFault (256 * bedDie n + n % 36)

/-! ## Micro-traps (R134, R135) -/

/-- Take a trap: the micro-state goes into the capsule and the handler starts at ROM 0x3F00. -/
def State.takeTrap (s : State) (n : Nat) (progress : BitVec 80) : State :=
  let b := s.bed n
  let waited := if b.mic.waiting then b.mic.waited + clocksBetween b.waitSince s.now else 0
  let s := s.modBed n (fun b =>
    { b with store := storePut b.store capsuleAt ({ b.mic with waited := waited, progress := progress } : Micro).capsule,
             trapped := true, trapHeld := false, traps := inc64 b.traps,
             mic := { b.mic with upc := 0x3F00, space := false, inWord := false, waiting := false, waited := 0 } })
  (s.pulse n 0x84).tick n
/-- A trap request reaches a bed: from the Shed through a0's window, or from a gang member. -/
def State.trapRequest (s : State) (n : Nat) (progress : BitVec 80) : State :=
  let b := s.bed n
  if !b.runs then s
  else if b.trapped || (b.mic.inWord && !(resumable b.issued && wTrapEn b.issued)) then
    (s.modBed n (fun b => { b with trapHeld := true })).tick n
  else s.takeTrap n (if b.mic.inWord then progress else 0)
/-- A held request is taken as a word retires, unless the handler runs: between words there is no progress, and a word that
TRAP_RETURN has just resumed keeps the progress that it restored (R135, R136). -/
def State.heldTrap (s : State) (n : Nat) : State :=
  let b := s.bed n
  if b.trapHeld && !b.trapped && b.runs then s.takeTrap n (if b.mic.inWord then b.mic.progress else 0) else s
/-- TRAP_RETURN retires: the capsule is restored, the word that was stopped is in progress again, a resumed wait goes on with
the rest of its class, and a held request is taken. -/
def State.trapReturn (s : State) (n : Nat) : State :=
  let s := s.modBed n (fun b =>
    { b with mic := capsuleMicro (storeBytes b.store capsuleAt 96), trapped := false, waitSince := s.now })
  let s := s.modBed n (fun b => { b with issued := b.word })
  s.heldTrap n

/-! ## Words (R122 to R129) -/

/-- Luma pixels of CTUs 0 to `i` of a picture in raster order (R214). (DEDUCED, log entry 39.) -/
def pacePixels (w h c i : Nat) : Nat :=
  let cols := Nat.max 1 (ceilDiv w c)
  let row := i / cols
  min (row * c) h * w + min ((i % cols + 1) * c) w * (min ((row + 1) * c) h - min (row * c) h)
/-- The pace check of R214 stops the CTU about to start. (DEDUCED, log entry 39.) -/
def State.overPace (s : State) (n : Nat) : Bool :=
  let d := (s.slot n).dec
  let f := s.decodeFmt n
  decide (4 * pacePixels f.w f.lines d.ctu d.ctuNo / 5 + 4 * (f.w * d.ctu) / 5 < d.picTicks)
/-- A budget hit (R214): condition 18 is raised, and the event is counted once. -/
def State.budgetHit (s : State) (n : Nat) : State :=
  if (s.slot n).dec.overBudget then s
  else s.modSlot n (fun x => { x with dec := { x.dec with overBudget := true, counts := bumpAt x.dec.counts 5 1 } })
/-- A bed issues the word at its micro-PC, which it holds until it retires (R122, R124). -/
def State.issue (s : State) (n : Nat) : State :=
  let b := s.bed n
  if !b.runs || b.mic.inWord then s
  else if illegalWord b.word then s.selfCheck n .illegalWord
  else
    let s := match b.slotNow with
      | none => s
      | some k =>
        if decide (wEcOp b.word = 2) && decide ((s.slot k).kind = 2) && s.speaks n k && s.overPace k then s.budgetHit k else s
    let s := s.modBed n (fun b => { b with issued := b.word, mic := { b.mic with inWord := true, progress := 0 } })
    (((s.pulse n 0x81).pulse n (wTag b.word)).tick n)

/-- The word has retired; a trap that waited for that is taken. -/
def State.wordDone (s : State) (n : Nat) : State :=
  ((s.modMic n (fun m => { m with inWord := false, waiting := false, waited := 0 })).tick n).heldTrap n
/-- A wait ends (R127): the target's bit 0 is 1 on a timeout. -/
def State.endWait (s : State) (n : Nat) (timedOut : Bool) : State :=
  let w := (s.bed n).issued
  let t := target w (fun k => s.cond n k)
  let t := if wMode w = 1 ∧ wCs w 0 ≠ 0 then
      -- selector 0 is ignored in a waiting word
      (List.range 3).foldl (fun x k =>
        x ||| (if wCs w (k + 1) ≠ 0 && s.cond n (wCs w (k + 1)) then 2 ^ (k + 1) else 0)) (wNext w)
    else t
  (s.modMic n (fun m => m.jump (2 * (t / 2) + b2n timedOut) (wNsp w))).wordDone n
/-- The wait condition of a bed's word stands at its level. -/
def State.waitReached (s : State) (n : Nat) : Bool :=
  let w := (s.bed n).issued
  s.cond n (wWaitCond w) != wWaitPol w
/-- A word whose operations have finished: it waits, or takes its branch. -/
def State.leaveWord (s : State) (n : Nat) (old : Micro) : State :=
  let w := (s.bed n).issued
  if wWaitCond w ≠ 0 then
    if s.waitReached n then s.endWait n false
    else
      ((s.modBed n (fun b => { b with waitSince := s.now })).modMic n (fun m =>
        { m with waiting := true, waited := 0 })).tick n
  else if wMode w = 6 then (s.trapReturn n).tick n
  else match (s.bed n).mic.next old w (fun k => s.cond n k) with
    | none => (s.modBed n (fun b => { b with stopped := true })).selfCheck n .stack
    | some m => (s.modMic n (fun _ => m)).wordDone n
/-- Drop the first strip line that a bed may use: a STRIP_IN word has taken it. -/
def dropUsable : List Strip → List Strip
  | [] => []
  | x :: r => if x.usable then r else x :: dropUsable r
/-- What a retiring word's Trellis port has taken: STRIP_IN the next strip line that the bed may use (R24, R235), BITS_IN the
next chunk of the bitstream, GANG_RX the next boundary columns (R142). -/
def Bed.portTakes (b : Bed) : Bed :=
  match wTpOp b.issued with
  | 1 => { b with strips := dropUsable b.strips }
  | 2 => { b with chunks := b.chunks.tail }
  | 7 => { b with exchange := b.exchange.tail }
  | _ => b
/-- A word retires (R122): results are written, the local store's in the order of R123, `units` does what the bed's units
report, and then the conditions are sampled. -/
def State.retire (s : State) (n : Nat) (conds : BitVec 64) (writes : List StoreWrite) (units : State → State) : State :=
  let b := s.bed n
  let old := b.mic
  if !b.runs || !old.inWord || old.waiting then s
  else
    let s := s.modBed n (fun b =>
      { b.portTakes with conds := conds, mic := (old.scalar b.issued).loopOp old b.issued,
                         store := serveWrites b.store b.issued writes })
    let s := (units s).tick n
    if (s.bed n).runs then s.leaveWord n old else s

/-- A waiting word's condition reaches its level (R127). -/
def State.waitMet (s : State) (n : Nat) (conds : BitVec 64) : State :=
  let s := (s.modBed n (fun b => { b with conds := conds })).tick n
  let b := s.bed n
  if b.runs && b.mic.waiting && s.waitReached n then s.endWait n false else s
/-- What the handler of a timeout does (R128, R129, R215): the ROM's handlers raise TIMEOUT, but for the bitstream wait of
a decode routine; a full output FIFO is a FIFO_STALL, and the unit being written is discarded. (DEDUCED, log entry
49.) -/
def State.timeoutHandler (s : State) (n : Nat) (w : Microword) (rom : Bool) : State :=
  let b := s.bed n
  if wTpOp w = 3 ∧ wWaitCond w = 11 then
    (s.modBed n (fun b => { b with fifo := { b.fifo with write := b.unitStart } })).selfCheck n .fifoStall
  else match (if b.slotNow.isSome then b.slotNow else b.slots.head?) with
    | none => s
    | some k =>
      if !rom || (decide ((s.slot k).kind = 2) && decide (wWaitCond w = 10)) then s else s.selfCheck n .timeout
/-- A wait's timeout class elapses (R127, R128). (DEDUCED, log entry 49.) -/
def State.waitTimeout (s : State) (n : Nat) (conds : BitVec 64) : State :=
  let s := (s.modBed n (fun b => { b with conds := conds })).tick n
  let b := s.bed n
  let w := b.issued
  if !b.runs || !b.mic.waiting || s.waitReached n ||
      decide (b.mic.waited + clocksBetween b.waitSince s.now < waitClocks (wWaitTo w)) then s
  else
    let s := s.modBed n (fun b => { b with timeouts := inc64 b.timeouts,
                                           lastTimeout := (b.mic.upc, b.mic.space, wWaitTo w) })
    let s := ((s.pulse n 0x85).raise (0x1000 + 8 * n + 2)).timeoutHandler n w (!b.mic.space)
    if (s.bed n).runs then s.endWait n true else s

/-! ## Patch sets (R131 to R133) -/

/-- Statuses that a patch load answers (Table 11.6): 0 OK, 17 SIGNATURE, 18 ROM_MISMATCH, 4 FORMAT. (DEDUCED, log
entry 45.) -/
def patchStatus (b : List Byte) : Nat :=
  let words := fieldAt b 12 2
  let matches_ := fieldAt b 14 2
  if !Config.signatureOk (b.take (b.length - 96)) (b.drop (b.length - 96)) then 17
  else if fieldAt b 8 4 ≠ Config.romVersion then 18
  else if fieldAt b 0 4 ≠ 1 ∨ fieldAt b 4 4 = 0 ∨ 512 < words ∨ 32 < matches_ ∨ b.length ≠ 288 + 20 * words ∨
      (slice b 16 48).any (fun x => decide (x ≠ 0)) then 4
  else if (List.range 32).any (fun k =>
      if k < matches_ then decide (16384 ≤ fieldAt b (64 + 4 * k) 2) || decide (512 ≤ fieldAt b (66 + 4 * k) 2)
      else decide (fieldAt b (64 + 4 * k) 4 ≠ 0)) then 4
  else 0
/-- The patch set of Table 05.7. (DESIGN CHOICE, log entry 29.). (DEDUCED, log entry 46.) -/
def patchOf (b : List Byte) : PatchSet :=
  { version := fieldAt b 4 4,
    matches_ := (List.range (fieldAt b 14 2)).map (fun k => (fieldAt b (64 + 4 * k) 2, fieldAt b (66 + 4 * k) 2)),
    words := (List.range (fieldAt b 12 2)).map (fun k => BitVec.ofNat 160 (fieldAt b (192 + 20 * k) 20)) }
/-- PATCH_LOAD (R132, R133); answers the status. (DEDUCED, log entry 45.) -/
def State.loadPatch (s : State) (b : List Byte) : Nat × State :=
  let res := fun (s : State) (r : Nat) => { s with str := { s.str with loadResult := r } }
  if s.str.patchStandby ≠ 0 then (5, res s 4)
  else match patchStatus b with
    | 0 =>
      let p := patchOf b
      let s := res { s with str := { s.str with patch := p, patchAt := s.now, patchStandby := p.version } } 0
      let s := s.str.beds.foldl (fun (s : State) e =>
        if e.2.st = .idle ∨ e.2.st = .running then
          let s := s.modBed e.1 (fun x => { x with standby := some p })
          if (s.bed e.1).slots = [] then s.switchBank e.1 else s
        else s) s
      (0, s.patchSettled)
    | 17 => (17, res s 1)
    | 18 => (18, res s 2)
    | _ => (4, res s 3)
/-- A word with PB set retires at a boundary of a stream that comes after the load: its bed switches, as the other members
of its twin and gang do at the same boundary (R133). (DEDUCED, log entry 47.) -/
def State.patchPoint (s : State) (n : Nat) (boundary : Option (Nat × Nat)) : State :=
  match boundary with
  | none => s
  | some x => if s.str.patchAt < x.2 then (s.switchBank n).patchSettled else s
/-- A bed that wakes has the newest accepted set in its active bank (R138). -/
def State.wakePatch (s : State) (n : Nat) : State :=
  (s.modBed n (fun b => { b with patch := s.str.patch, standby := none })).patchSettled
/-! ## Sleep and wake (R137 to R139) -/

/-- The wake sequence starts (R466). -/
def State.startWake (s : State) (n : Nat) : State := (s.setBed n .waking).setPower n 1
/-- A wake request (R139). -/
def State.wakeBed (s : State) (n : Nat) : State :=
  match (s.bed n).st with
  | .off => if (s.power n).st = 4 then s else s.startWake n
  | .sleeping => s.modBed n (fun b => { b with wakeWaits := true })
  | _ => s
/-- A sleep request (R139). (DEDUCED, log entry 48.) -/
def State.sleepBed (s : State) (n : Nat) : State :=
  match (s.bed n).st with
  | .idle => s.setBed n .sleeping
  | .running | .soilTest | .pruned => s.modBed n (fun b => { b with sleepRefused := inc64 b.sleepRefused })
  | _ => s
/-- SLEEP_DELAY has passed over an unassigned bed that is not warm (R137). -/
def State.sleepDue (s : State) (n : Nat) : Bool :=
  let b := s.bed n
  decide (b.st = .idle) && b.slots.isEmpty && !b.warm && decide (b.idleSince + 1000 * s.cfgN 0x60 0 0x06 ≤ s.now)
/-- A sleeping bed is OFF; a wake request that waited starts its wake (R139). -/
def State.sleepEnds (s : State) (n : Nat) : State :=
  if (s.bed n).st ≠ .sleeping then s
  else
    let waits := (s.bed n).wakeWaits
    let s := ((s.setBed n .off).setPower n 0).modBed n (fun b => { b with wakeWaits := false })
    if waits then s.startWake n else s
/-- A waking bed is IDLE and ON (R138, R404, R466), and RUNNING when the Shed has assigned it meanwhile. -/
def State.wakeEnds (s : State) (n : Nat) : State :=
  if (s.bed n).st ≠ .waking then s
  else
    let s := (s.clearBed n).modBed n (fun b =>
      { b with bc := [0, 0, 0, 0, 0, 0, 0, 0], idleSince := s.now, since := s.now, levels := List.replicate 8 false })
    let s := ((s.wakePatch n).setBed n .idle).setPower n 3
    if (s.bed n).slots = [] then s else s.setBed n .running
/-- A bed is assigned to a stream: it runs at once when it is IDLE, and after its wake when it is not powered. -/
def State.assign (s : State) (n slot : Nat) : State :=
  let s := s.setSlots n (fun l => addTo l slot)
  match (s.bed n).st with
  | .idle => s.setBed n .running
  | _ => s.wakeBed n
/-! ## Run bits (R146) -/

/-- The run bit of one stream of allotment `a` after a write of its beds' run bits: the bit of its lead bed, else the last
one written for a bed of it. -/
def State.runBits (s : State) (a n : Nat) (l : List (Nat × Bool)) : State :=
  let w := s.twin n
  let mine := l.filter (fun e => decide (n ∈ (s.bed e.1).slots))
  let v := match mine.find? (fun e => decide (w.lead.head? = some e.1)) with
    | some e => some e.2
    | none => mine.getLast?.map (·.2)
  if (s.slot n).owner ≠ a then s
  else match v with
    | some v => s.modSlot n (fun x => { x with run := v })
    | none => s
/-- An allotment's run bits of some beds are written. For a stream of several beds, the bit of its lead's position 0 wins
when one write changes two members' bits, else the last that the write changes. -/
def State.writeRun (s : State) (a : Nat) (l : List (Nat × Bool)) : State :=
  let s := s.modAllot a (fun r => { r with runClear := l.foldl (fun c e =>
    if e.2 then removeFrom c e.1 else insertNat e.1 c) r.runClear })
  let slots := l.foldl (fun acc e => (s.bed e.1).slots.foldl addTo acc) []
  slots.foldl (fun (s : State) n => s.runBits a n l) s

end Sys2Proof.Machine
end

