-- ==== Sys2Proof/Machine/Streams.lean ====
section
/-! DEFINITION. Encode streams (06, 07): rate control, refresh phases, pots and reference lists, shadow configurations,
refresh groups, and what takes effect at a picture boundary. -/

namespace Sys2Proof.Machine

/-! ## Rate control (R165) -/

/-- e(x): the place of the leading 1. -/
def expOf (x : Nat) : Nat := Nat.log2 x
/-- m(x): the eight bits below the leading 1, padded with zeros. -/
def manOf (x : Nat) : Nat :=
  let e := expOf x
  (if e < 8 then x * 2 ^ (8 - e) else x / 2 ^ (e - 8)) % 256
/-- recip_tab[m]. -/
def recipTab (m : Nat) : Nat := 16777216 / (256 + m)
/-- log2_tab[m] = floor(256 × log2(1 + m/256) + 0.5), as the exact bound 2^(2k) ≤ 2 × ((256 + m)/256)^512. -/
def log2Tab (m : Nat) : Nat := (Nat.log2 (2 * (256 + m) ^ 512) - 4096) / 2
/-- log2q(x). -/
def log2q (x : Nat) : Int := if x = 0 then 0 else ((256 * expOf x + log2Tab (manOf x) : Nat) : Int)

/-- Limits of a stream's rate control: QP_MIN, QP_MAX and rows. -/
structure RcLimits where
  lo : Int
  hi : Int
  rows : Nat
  deriving DecidableEq, Repr

/-- State at admission and at a start picture (R164). -/
def Rate.init (r : Rate) (qpInit : Int) (rows : Nat) : Rate :=
  { r with acc := 0, debt := 0, spent := 0, planned := 0, qpBase := qpInit, costPrev := List.replicate rows 1,
           costNext := [], costNow := [], shares := [], ended := [] }
/-- Picture start (R165, R202). -/
def Rate.startPicture (r : Rate) (l : RcLimits) (lift : Int) (cut : Bool) : Rate :=
  let prev := if cut then List.replicate l.rows 1 else r.costPrev
  let lifted := cut && decide (8 ≤ r.sinceLift)
  let base := if lifted then clip (r.qpBase + lift) l.lo l.hi else r.qpBase
  let acc := r.acc + r.bitsRem
  let carry := decide (r.rateNum ≤ acc)
  let budget := r.bitsQ + b2n carry + (if cut then r.boostQ else 0)
  { r with costPrev := prev, qpBase := base, acc := if carry then acc - r.rateNum else acc, budget := budget,
           qpPic := clip (base + r.debt * r.kDebt / 16777216) l.lo l.hi, spent := 0, planned := 0, rowBits := 0,
           costNow := [], costNext := [], tileBits := [], shares := [], ended := [], overCap := false, cutPicture := cut,
           sinceLift := if lifted then 0 else min 8 (r.sinceLift + 1) }
/-- Row start, once the row's cost is known (R165). -/
def Rate.startRow (r : Rate) (l : RcLimits) (row cost : Nat) : Rate :=
  let sum := Nat.max 1 ((r.costPrev.take l.rows).foldl (· + ·) 0)
  let prev := r.costPrev.getD row 1
  let share := min 65536 (prev * recipTab (manOf sum) / 2 ^ expOf sum)
  let dq := clip ((r.spent - r.planned) * r.kRow / 16777216) (-6) 12
  let cplx := clip (6 * (log2q cost - log2q prev) / 256) (-6) 6
  { r with qpRow := clip (r.qpPic + dq + cplx) l.lo l.hi, planned := r.planned + r.budget * share / 65536, rowBits := 0,
           costNow := (r.costNow ++ List.replicate (row + 1 - r.costNow.length) 0).set row cost }
/-- Row end (R165). (DEDUCED, log entry 64.) -/
def Rate.endRow (r : Rate) (row : Nat) : Rate :=
  { r with spent := r.spent + r.rowBits, rowBits := 0,
           costNext := (r.costNext ++ List.replicate (row + 1 - r.costNext.length) 1).set row
             (Nat.max 1 (r.costNow.getD row 0)) }
/-- The budget that filler pads to: a cut picture's without its boost (R202). -/
def Rate.padTo (r : Rate) : Int := if r.cutPicture then r.budget - r.boostQ else r.budget
/-- Bytes of filler at the end of a picture in CBR mode (R167); in a gang the last tile's cap shortens it (R166). -/
def Rate.filler (r : Rate) (gang : Nat) : Nat :=
  let want := ((r.padTo - r.debt - r.spent) / 8).toNat
  let room := (4000000 - r.tileBits.getD (gang - 1) 0) / 8
  let n := if gang ≤ 1 then want else min want room
  if n < 3 then 0 else n
/-- Picture end (R165, R174, R202). -/
def Rate.endPicture (r : Rate) (l : RcLimits) (capped rep : Bool) : Rate :=
  let debt := r.debt + r.spent - r.padTo
  let debt := if capped && decide (debt < 0) then 0 else debt
  let r := { r with debt := debt }
  if rep then r
  else
    let step := clip (6 * (log2q r.spent.toNat - log2q r.budget.toNat) / 256) (-2) 2
    { r with qpBase := clip (r.qpBase + step) l.lo l.hi, costPrev := r.costNext }
/-- Bits that one CTU adds, with whether it was coded again and whether it became zero-residual (R166). (DESIGN
CHOICE, log entry 18.) -/
def ctuBits (cap : Int) (bits recode free : Nat) : Nat × Bool × Bool :=
  if (bits : Int) ≤ cap then (bits, false, false)
  else if (recode : Int) ≤ cap then (recode, true, false)
  else (free % 17, true, true)
/-- The cap of a CTU (R166, R168) that `following` CTUs follow in the picture, in a gang those of the member's own tile: from the
totals at the last row end, and within the tile's 4,000,000 bits. -/
def Rate.cap (r : Rate) (buffer gang tile following : Nat) : Int :=
  if gang ≤ 1 then (buffer : Int) - r.debt - r.spent - r.rowBits - 16 * following
  else min ((buffer : Int) - r.debt - r.spent - 16 * following) (4000000 - r.tileBits.getD tile 0 - 16 * following)
/-- A member of a gang of `gang` beds reports its share of a row's cost, and the row starts when every share is in (R168). -/
def Rate.shareRow (r : Rate) (l : RcLimits) (gang tile row cost : Nat) : Rate :=
  let shares := (tile, cost) :: r.shares.filter (fun x => !decide (x.1 = tile))
  if shares.length < Nat.max 1 gang then { r with shares := shares }
  else { r.startRow l row (shares.foldl (fun a x => a + x.2) 0) with shares := [], ended := [] }
/-- A member has committed the last CTU of a row: the row ends when every member has (R168). -/
def Rate.tileEnds (r : Rate) (gang tile row : Nat) : Rate :=
  let ended := addTo r.ended tile
  if ended.length < Nat.max 1 gang then { r with ended := ended } else { r.endRow row with ended := [] }

def State.rcLimits (s : State) (n : Nat) : RcLimits :=
  { lo := s.cfgI 0x21 n 0x12, hi := s.cfgI 0x21 n 0x13, rows := s.rowsOfSlot n }
def State.modRate (s : State) (n : Nat) (f : Rate → Rate) : State := s.modSlot n (fun x => { x with rc := f x.rc })
/-- Count in E 21.ssss.38 + `i`. -/
def State.countSlot (s : State) (n i k : Nat) : State := s.modSlot n (fun x => { x with counts := bumpAt x.counts i k })

/-- bits_q and bits_rem for a rate in kbit/s (Table 06.6). -/
def State.budgetOf (s : State) (n rate : Nat) : Nat × Nat :=
  let (num, den) := s.slotRate n
  (rate * 1000 * den / num, rate * 1000 * den % num)
/-- The Shed sets the scalars of Table 06.6 and boost_q from RATE, BUFFER and CUT_BOOST; a change of RATE clears acc
(R164). -/
def State.setRate (s : State) (n : Nat) (rateChanged : Bool) : State :=
  let (q, rem) := s.budgetOf n (s.cfgN 0x21 n 0x0E)
  s.modRate n (fun r =>
    { r with bitsQ := q, bitsRem := rem, rateNum := (s.slotRate n).1, kRow := 6 * 16777216 / Nat.max 1 q,
             kDebt := 12 * 16777216 / Nat.max 1 (s.cfgN 0x21 n 0x10), boostQ := q * s.cfgN 0x22 n 0x08 / 100,
             acc := if rateChanged then 0 else r.acc })
/-- RATE values that meet the two conditions of R166 with the other members in force: the lowest and the highest in
kbit/s. (DEDUCED, log entry 83.) -/
def State.rateWindow (s : State) (n : Nat) : Nat × Nat :=
  let (num, den) := s.slotRate n
  let ctus := s.ctusOf n
  let buffer := s.cfgN 0x21 n 0x10
  -- bits_q ≥ 16 × CTUs, and 2 × bits_q + 16 × CTUs ≤ BUFFER
  let top := (buffer - 16 * ctus) / 2 + 1
  (ceilDiv (16 * ctus * num) (1000 * den), (top * num - 1) / (1000 * den))
/-- The least BUFFER that R166 allows with the RATE in force. -/
def State.leastBuffer (s : State) (n : Nat) : Nat := 2 * (s.budgetOf n (s.cfgN 0x21 n 0x0E)).1 + 16 * s.ctusOf n

/-! ## Boundaries and refresh phases -/

/-- The first grid instant of a rate that is at or after `t` (R474). -/
def gridFrom (rate : Nat × Nat) (t : Nat) : Nat :=
  let k := t * rate.1 / (rate.2 * 1000000000)
  if t ≤ gridAt rate k then gridAt rate k else if t ≤ gridAt rate (k + 1) then gridAt rate (k + 1) else gridAt rate (k + 2)
/-- The first picture boundary of a stream at least 1 ms after now (R170). -/
def State.nextBoundary (s : State) (n : Nat) : Nat := gridFrom (s.slotRate n) (s.now + 1000000)

/-- Group phase of the slot sampled at `t` (R197). -/
def State.groupPhase (s : State) (g t : Nat) : Nat :=
  let r := rateOf (s.cfgN 0x22 (0x2000 + g) 0x02)
  let d : Int := (t : Int) - s.cfgN 0x22 (0x2000 + g) 0x05
  let n := (d * r.1 + r.2 * 500000000) / ((r.2 : Int) * 1000000000)
  (n % (s.cfgN 0x22 (0x2000 + g) 0x04 : Int)).toNat
/-- The first group boundary of phase 0 at or after `t`, under the period in force (R199). -/
def State.groupBoundary (s : State) (g t : Nat) : Nat :=
  let r := rateOf (s.cfgN 0x22 (0x2000 + g) 0x02)
  let k := gridFrom r t * r.1 / (r.2 * 1000000000)
  let at_ := fun j => gridFrom r (gridAt r (k + j))
  ((List.range 260).find? (fun j => decide (t ≤ at_ j) && decide (s.groupPhase g (at_ j) = 0))).elim t at_
/-- PERIOD of a group is written: it waits for its boundary (R199). Answers the boundary. -/
def State.writePeriod (s : State) (g v : Nat) : Nat × State :=
  let b := s.groupBoundary g (s.now + 1000000)
  (b, s.modGroup g (fun x => { x with pend := some (v, b) }))
/-- A group's new period takes effect at its boundary (R199). -/
def State.periodChange (s : State) (g : Nat) : State :=
  match (s.group g).pend with
  | none => s
  | some (v, b) =>
    if s.now < b then s
    else
      ((s.setCfgN 0x22 (0x2000 + g) 0x04 2 v).setCfgN 0x22 (0x2000 + g) 0x05 8 b).modGroup g (fun x =>
        { x with pend := none, periodAt := b })
/-- Members of a group (E 22.20gg.07): the streams whose GROUP names it, and the tiers of its anchors. -/
def State.groupMembers (s : State) (g : Nat) : List Nat :=
  s.str.slots.filterMap (fun e =>
    if e.2.kind = 1 && decide (s.groupOf e.1 = some g) then some e.1 else none)

/-- Phase of the picture begun now, and the phases after it (R154, R158, R197, R198). -/
def State.takePhase (s : State) (n : Nat) (start : Bool) : Option (Nat × Nat) × State :=
  match s.groupOf n with
  | some g =>
    (some (s.groupPhase g s.now, s.cfgN 0x22 (0x2000 + g) 0x04), s)
  | none =>
    let x := s.slot n
    let cra := start && decide (s.cfgN 0x21 n 0x05 = 0)
    let p := if start then 0 else x.nextPhase
    let due := x.pendPeriod.filter (fun q => decide (q.2 < s.now))
    let x := if p = 0 ∧ !cra then
        match due.getLast? with
        | some (v, _) => { x with period := v, pendPeriod := x.pendPeriod.filter (fun q => !decide (q.2 < s.now)) }
        | none => x
      else x
    let x := { x with nextPhase := if cra then 0 else (p + 1) % Nat.max 1 x.period }
    (if cra then none else some (p, x.period), s.modSlot n (fun _ => x))

/-! ## Shadow configuration (R169 to R171) -/

/-- A write to a non-structural member of a stream: live at once before admission, else into the shadow. Answers the
boundary at which it takes effect. -/
def State.shadowWrite (s : State) (n fam inst mem : Nat) (v : List Byte) : Nat × State :=
  if (s.slot n).st ≤ 1 then (s.now, s.setCfg fam inst mem v)
  else
    let b := s.nextBoundary n
    (b, s.modSlot n (fun x =>
      { x with shadow := x.shadow ++ [{ fam := fam, mem := mem, val := v, boundary := b }], configAt := b,
               pendPeriod := if fam = 0x21 ∧ mem = 0x14 then x.pendPeriod ++ [(leNat v, b)] else x.pendPeriod }))
/-- The shadow writes of a stream that are due become live (R170, R171). -/
def State.shadowLive (s : State) (n boundary : Nat) : State :=
  let due := (s.slot n).shadow.filter (fun w => decide (w.boundary ≤ boundary))
  if due.isEmpty then s
  else
    let s := s.modSlot n (fun x => { x with shadow := x.shadow.filter (fun w => !decide (w.boundary ≤ boundary)) })
    let s := due.foldl (fun (s : State) w =>
      s.setCfg w.fam (if w.fam = 0x20 then 0x2000 + n else n) w.mem w.val) s
    if (s.slot n).kind ≠ 1 then s
    else s.setRate n (due.any (fun w => decide (w.fam = 0x21) && decide (w.mem = 0x0E)))
/-- Entries of a stream that its cutting carries as CONFIG: families 21 to 24 of the slot, and its feed's (Table 09.3). -/
def State.liveConfig (s : State) (n : Nat) : List (Nat × List Byte) :=
  s.alm.store.filter (fun e =>
    (decide (0x21 ≤ e.1 / 16777216) && decide (e.1 / 16777216 ≤ 0x24) && decide (e.1 / 256 % 65536 = n)) ||
      (decide (e.1 / 16777216 = 0x20) && decide (e.1 / 256 % 65536 = 0x2000 + n)))
/-- The cutting that a bed writes for a stream at a boundary (R192, R242, Table 09.3). -/
def State.cutting (s : State) (b n boundary : Nat) : Cutting :=
  let x := s.slot n
  let p := x.pics.find? (fun p => decide (p.instant = boundary))
  { slot := n, picture := (p.map (·.no)).getD x.pictures, patchVersion := (s.bed b).patch.version, boundary := boundary,
    poc := (x.poc + 65535) % 65536, phase := ((p.bind (·.phase)).map (·.1)).getD x.nextPhase,
    start := (p.map (·.start)).getD x.startNext, deferred := x.deferred, cut := (p.map (·.cut)).getD false,
    config := s.liveConfig n, shadow := x.shadow, pots := x.pots, rate := if x.kind = 2 then {} else x.rc,
    params := if x.kind = 2 then some x.dec else none, working := (s.bed b).mic, analysis := (s.slot (s.anchorOf n)).analysis }
/-- A word with PB set retires in a bed of a stream (R133, R170, R242): the bed switches banks; with the lead's, the
shadows of every tier become live and the cuttings of the boundary are kept. -/
def State.pbPoint (s : State) (bed : Nat) (boundary : Option (Nat × Nat)) : State :=
  let s := s.patchPoint bed boundary
  match boundary with
  | none => s
  | some (n, t) =>
    if !s.speaks bed n then s
    else
      (s.ladder n).foldl (fun (s : State) m =>
        let s := s.shadowLive m t
        let c := s.cutting bed m t
        s.modTwin m (fun w => { w with lastCutting := t, cuttings := c :: w.cuttings.take 1 })) s

/-! ## Pots (R160 to R163) -/

/-- REF_PICS + 1 pots, the first of them CURRENT. -/
def newPots (n : Nat) : List Pot :=
  (List.range n).map (fun k => { pot := k, mark := if k = 0 then .current else .free })
/-- Reference pictures of a list, oldest first. -/
def refsOf (l : List Pot) : List Pot :=
  (l.filter (fun p => p.mark = .ref || p.mark = .named || p.mark = .held)).foldr (fun p acc =>
    (acc.takeWhile (fun q => decide (q.age < p.age))) ++ [p] ++ acc.dropWhile (fun q => decide (q.age < p.age))) []
/-- Step 2 of R162: the oldest of more than `limit` reference pictures becomes FREE, or is dropped when it is only a
name. -/
def retireRef (l : List Pot) (limit : Nat) : List Pot :=
  let refs := refsOf l
  if refs.length ≤ limit then l
  else match refs with
    | [] => l
    | o :: _ =>
      if o.mark = .named then l.filter (fun p => !(decide (p.mark = .named) && decide (p.age = o.age)))
      else l.map (fun p => if p.age = o.age ∧ p.mark ≠ .named ∧ p.pot = o.pot then { p with mark := .free } else p)
/-- Step 3 of R162: the lowest FREE pot becomes CURRENT. -/
def takeCurrent (l : List Pot) : List Pot :=
  match (l.filter (fun p => decide (p.mark = .free))).map (·.pot) with
  | [] => l
  | x :: r =>
    let k := r.foldl min x
    l.map (fun p => if p.pot = k ∧ p.mark = .free then { p with mark := .current } else p)
/-- The marks after a coded picture (R162, R163): `keeps` when it wrote no pot of its own; its place in the refresh, and whether it
is a wholly intra start picture (R156, R198). -/
def potsAfter (l : List Pot) (refPics poc age : Nat) (keeps : Bool) (sweep : Option (Nat × Nat × Nat)) (whole : Bool) :
    List Pot :=
  if keeps then
    let newest := (refsOf l).getLast?
    let t := match newest with
      | some p => if p.mark = .named then p.target else p.pot
      | none => 0
    retireRef (l ++ [{ pot := refPics + 1, mark := .named, poc := poc, target := t, age := age, sweep := sweep }]) refPics
  else
    takeCurrent (retireRef (l.map (fun p =>
      if p.mark = .current then { p with mark := .ref, poc := poc, age := age, sweep := sweep, whole := whole } else p)) refPics)

end Sys2Proof.Machine
end

