-- ==== Sys2Proof/Machine/Coding.lean ====
section
/-! DEFINITION. Coding a picture (06, 07): the shared analysis, rows and CTUs as a bed's units report them, the end of a picture,
and what takes effect at a picture boundary. -/

namespace Sys2Proof.Machine

/-! ## Shared analysis (R190 to R192, R201) -/

/-- The analysis of a band enters its source picture (R190): vectors stay within the anchor's ME_RANGE. -/
def State.bandDone (s : State) (n instant band : Nat) (blocks : List BlockCost) : State :=
  let r : Int := 64 * 2 ^ s.cfgN 0x21 n 0x15
  let blocks := blocks.map (fun b => { b with mvx := clip b.mvx (-r) r, mvy := clip b.mvy (-(r / 2)) (r / 2) })
  s.modSlot n (fun x =>
    { x with analysis := { x.analysis with pics := x.analysis.pics.map (fun p =>
      if p.instant = instant then { p with bands := tput (fun _ => []) p.bands band blocks } else p) } })
/-- The block cost: the smaller of the inter and the intra cost (R190); in a cut picture the intra cost (R201). -/
def blockCost (cut : Bool) (b : BlockCost) : Nat := if cut then b.intra else min b.inter b.intra
/-- Analysed bands of a source picture. -/
def Analysis.bandsOf (a : Analysis) (instant : Nat) : Tab (List BlockCost) :=
  ((a.pics.find? (fun p => decide (p.instant = instant))).map (·.bands)).getD []
/-- cost_now of a row of a tier (R191): the block costs of every block whose top-left sample lies in the source lines that the
row covers. -/
def State.tierCost (s : State) (n instant row : Nat) (cut : Bool) : Nat :=
  let a := s.anchorOf n
  let f := s.encodeFmt n
  let c := s.cfgN 0x21 n 0x09
  let src := match (s.feed a).source with
    | some ch => (s.conditioned ch).2
    | none => f.lines
  let bands := (s.slot a).analysis.bandsOf instant
  ((List.range (ceilDiv src 16)).filter (fun j =>
    decide (row * c * src ≤ 16 * j * f.lines) && decide (16 * j * f.lines < min f.lines ((row + 1) * c) * src))).foldl (fun t j =>
      (tget (fun _ => []) bands j).foldl (fun t b => t + blockCost cut b) t) 0
/-- A vector of the source scaled to a tier, rounded half away from zero to quarter-pel (R191). -/
def scaleMv (own src : Nat) (v : Int) : Int :=
  let k : Int := ((2 * v.natAbs * own + src) / (2 * Nat.max 1 src) : Nat)
  if v < 0 then -k else k
/-- Inter candidates of a tier's block (R191): the scaled vectors of the source blocks that it lies over, and the zero vector; in a
cut picture the zero vector alone (R201). -/
def State.candidates (s : State) (n instant : Nat) (cut : Bool) (q : Pred) : List (Int × Int) :=
  let a := s.anchorOf n
  let f := s.encodeFmt n
  match (s.feed a).source with
  | none => [(0, 0)]
  | some ch =>
    let (w, h) := s.conditioned ch
    let bands := (s.slot a).analysis.bandsOf instant
    let first := fun (v src own : Nat) => v * src / Nat.max 1 own / 16
    let last := fun (v src own : Nat) => (ceilDiv ((v + q.w) * src) own - 1) / 16
    let found := (List.range (last q.y h f.lines + 1 - first q.y h f.lines)).flatMap (fun j =>
      (((tget (fun _ => []) bands (first q.y h f.lines + j)).drop (first q.x w f.w)).take
        (last q.x w f.w + 1 - first q.x w f.w)).map (fun b => (scaleMv f.w w b.mvx, scaleMv f.lines h b.mvy)))
    (0, 0) :: (if cut then [] else found)
/-- The shared analysis at the end of a picture of an anchor (R190): the analysis pot holds the luma of a non-repeat picture from
then on; a repeat picture leaves it. -/
def Analysis.endPicture (a : Analysis) (instant : Nat) (rep : Bool) : Analysis :=
  let pot := if rep then a.pot else ((a.pics.find? (fun p => decide (p.instant = instant))).map (·.lines)).getD a.pot
  { a with pot := pot, pics := a.pics.filter (fun p => decide (instant ≤ p.instant)) }

/-! ## Coding a picture -/

/-- A repeat picture that writes no pot of its own: it has no refresh column (R163). -/
def State.keepsPot (s : State) (n : Nat) (p : Pic) : Bool :=
  let col := p.phase.map (fun q => refreshColumn (s.columnsOf n) q.1 q.2)
  p.rep && !p.start && !(col.any (fun c => decide (c.1 < c.2)))
/-- The picture's first word has retired: rate control starts it, with the steps of a cut when it is the first non-repeat
picture after one (R202, R203). -/
def State.codeStart (s : State) (n : Nat) : State :=
  match s.picOf n (s.slot n).codedNo with
  | none => s
  | some p =>
    let x := s.slot n
    let deferred := p.rep && p.cut
    let cut := !p.rep && (p.cut || x.deferred)
    let x := { x with deferred := if cut then false else x.deferred || deferred,
                      deferredCuts := if deferred then inc64 x.deferredCuts else x.deferredCuts,
                      repeat_ := p.rep, content := s.fresh, modes := [], stored := none, began := none }
    let rc := if p.start then x.rc.init (s.cfgI 0x21 n 0x11) (s.rowsOfSlot n) else x.rc
    let rc := rc.startPicture (s.rcLimits n) (s.cfgN 0x22 n 0x07) cut
    let pots := if p.start then newPots (s.cfgN 0x21 n 0x0C + 1) else x.pots
    (s.modSlot n (fun _ => { x with rc := rc, pots := pots })).refresh
/-- A member of the lead starts a row (R143, R165, R168): not before every member of its gang has finished the row above. The
contexts stored after the second CTU of the row above carry within a slice (R151). The cost of a tier's row comes from the
shared analysis (R191); in a cut picture it is the intra cost (R201). -/
def State.startRow (s : State) (b n row cost intra : Nat) : State :=
  if 1 < s.gangSize n ∧ row ≠ 0 ∧ !s.gangReady b then s
  else
    let x := s.slot n
    let instant := ((s.picOf n x.codedNo).map (·.instant)).getD 0
    let cost := if x.role ≠ 0 then s.tierCost n instant row x.rc.cutPicture else if x.rc.cutPicture then intra else cost
    s.modSlot n (fun x =>
      { x with rc := x.rc.shareRow (s.rcLimits n) (s.gangSize n) (s.tileOf b n) row cost,
               began := if s.contextsCarry n row then x.stored else none })
/-- The reference pictures of a stream, newest first (R162). -/
def Slot.refs (x : Slot) : List Pot := (refsOf x.pots).reverse
/-- A prediction is one that the bed may choose (R155, R156, R186, R191): of a listed reference, within ME_RANGE or of a tier's
candidates but for a merge candidate, and in the clean area left of the refresh column within R156. -/
def State.mayPredict (s : State) (n col : Nat) (p : Pic) (q : Pred) : Bool :=
  let x := s.slot n
  let r : Int := 64 * 2 ^ s.cfgN 0x21 n 0x15
  let found := q.merge ||
    (if x.role = 0 then decide (-r ≤ q.mvx) && decide (q.mvx ≤ r) && decide (-(r / 2) ≤ q.mvy) && decide (q.mvy ≤ r / 2)
     else (s.candidates n p.instant x.rc.cutPicture q).any (fun c =>
       decide ((q.mvx - c.1).natAbs ≤ 4) && decide ((q.mvy - c.2).natAbs ≤ 4)))
  let cutOk := !x.rc.cutPicture || q.merge || decide (x.role ≠ 0) || decide ((q.mvx, q.mvy) = (0, 0))
  let clean := fun (ref : Pot) => match p.phase with
    | none => true
    | some (k, period) =>
      decide ((refreshColumn (s.columnsOf n) k period).1 ≤ col) || s.cleanRead n p.sweep k ref q
  match x.refs[q.ref]? with
  | none => false
  | some ref => found && cutOk && clean ref
/-- The mode in which a CTU is coded (R154, R155, R156, R166, R173): intra in a wholly intra picture and in the refresh column,
where no reference sample lies right of the column; else skipped, in a repeat picture and as a zero-residual CTU; else as the
bed chose, where its predictions are ones it may choose (DEDUCED: a choice that breaks them is coded intra, log entry 130). -/
def State.ctuMode (s : State) (n col : Nat) (p : Pic) (zero : Bool) (m : CtuMode) : CtuMode :=
  let span := p.phase.map (fun q => refreshColumn (s.columnsOf n) q.1 q.2)
  let inside := span.any (fun c => decide (c.1 ≤ col) && decide (col < c.2))
  let bound := fun (reach : Nat) => match span with
    | some c => if inside then min reach (c.2 * s.cfgN 0x21 n 0x09 - 1) else reach
    | none => reach
  let here := fun (reach : Nat) => CtuMode.intra (bound reach)
  let edge := (col + 1) * s.cfgN 0x21 n 0x09 - 1
  if s.allIntra n p || inside then
    match m with
    | .intra reach => here reach
    | _ => here edge
  else if p.rep || zero then .skip
  else match m with
    | .intra reach => here reach
    | .skip => .skip
    | .inter l => if l.all (s.mayPredict n col p) then .inter l else here edge
/-- What a CTU of a pot holds; an alias holds what the pot that it names does. -/
def potFill (l : List Pot) (p : Pot) (i : Nat) : Nat :=
  let q := if p.mark = .named then (l.find? (fun q => decide (q.pot = p.target) && q.mark ≠ .named)).getD p else p
  tget (fun _ => 0) q.fills i
/-- A CTU of the picture in progress is written. -/
def fillCurrent (l : List Pot) (i v : Nat) : List Pot :=
  l.map (fun p => if p.mark = .current then { p with fills := tput (fun _ => 0) p.fills i v } else p)
/-- A member's next CTU is ready to commit (R166, R168): its bits within its cap, its mode, and what it writes in the pot; after the
second CTU of a row of an H.265 stream that is no gang the contexts are stored (R151). -/
def State.codeCtu (s : State) (b n bits recode : Nat) (mode : CtuMode) : State :=
  let g := s.gangSize n
  let tile := s.tileOf b n
  let (x0, width) := s.tileSpan b n
  let row := (s.bed b).row
  let ctu := (s.bed b).ctu
  let cols := if g ≤ 1 then s.columnsOf n else width
  let cap := (s.slot n).rc.cap (s.cfgN 0x21 n 0x10) g tile ((s.rowsOfSlot n - row) * cols - ctu - 1)
  let (k, again, zero) := ctuBits cap bits recode (Config.zeroResidual s.fresh)
  let s := if zero then (s.countSlot n 3 1).refresh else s
  let s := if again then s.countSlot n 2 1 else s
  let s := s.modRate n (fun r =>
    let tiles := r.tileBits ++ List.replicate (tile + 1 - r.tileBits.length) 0
    { r with rowBits := r.rowBits + k, tileBits := tiles.set tile (tiles.getD tile 0 + k), overCap := again })
  match s.picOf n (s.slot n).codedNo with
  | none => s
  | some p =>
    let i := row * s.columnsOf n + x0 + ctu
    let m := s.ctuMode n (x0 + ctu) p zero mode
    let store := decide (s.cfgN 0x21 n 0x05 = 0) && decide (g ≤ 1) && decide (ctu = 1)
    s.modSlot n (fun x =>
      let v := if m = .skip then (x.refs.head?.map (fun q => potFill x.pots q i)).getD 0 else x.content + 2
      { x with modes := tput (fun _ => .intra 0) x.modes i m, stored := if store then some row else x.stored,
               pots := if s.keepsPot n p then x.pots else fillCurrent x.pots i v })
/-- The picture's last row is done: filler, the picture's accounts, its marks, and the counts of Table 06.8. (DEDUCED,
log entry 64.) -/
def State.codeEnd (s : State) (n : Nat) : State :=
  match s.picOf n (s.slot n).codedNo with
  | none => s
  | some p =>
    let cbr := decide (s.cfgN 0x21 n 0x0D = 0) || decide (s.cfgN 0x21 n 0x16 = 1)
    let fill := if cbr then (s.slot n).rc.filler (s.gangSize n) else 0
    let s := if fill = 0 then s else s.countSlot n 4 fill
    let s := s.modRate n (fun r => { r with spent := r.spent + 8 * fill })
    let cut := (s.slot n).rc.cutPicture
    let bits := (s.slot n).rc.spent.toNat
    let s := s.modRate n (fun r => r.endPicture (s.rcLimits n) (!cbr) p.rep)
    let keeps := s.keepsPot n p
    let place := p.phase.map (fun q => (p.sweep, q.1, q.2))
    let whole := s.allIntra n p && (s.groupOf n).isSome
    let s := s.modSlot n (fun x =>
      { x with pots := potsAfter x.pots (s.cfgN 0x21 n 0x0C) (x.poc % 256) (p.no + 1) keeps place whole,
               poc := (x.poc + 1) % 65536, codedNo := p.no + 1, phase := (p.phase.map (·.1)).getD x.phase,
               cutPictures := if cut then inc64 x.cutPictures else x.cutPictures,
               lastCutBits := if cut then bits else x.lastCutBits, lastQp := x.rc.qpPic,
               fillers := if fill = 0 then x.fillers else (p.no, fill) :: x.fillers.take 3,
               analysis := if x.role = 1 then x.analysis.endPicture p.instant p.rep else x.analysis,
               repeat_ := x.pics.any (fun q => decide (q.no = p.no + 1) && q.rep) })
    let s := s.countSlot n 0 1
    if p.rep then s.countSlot n 1 1 else s

/-! ## Picture boundaries (R116, R146, R154, R246, R488) -/

/-- A stream's first output may start at this boundary (R488). -/
def State.mayStart (s : State) (n : Nat) : Bool :=
  s.traceable && decide (s.clk.traceSince + 1000000 ≤ s.now) && (s.slot n).startAt.any (fun a => decide (a ≤ s.now))
/-- A histogram's clear takes effect at a boundary of its stream (R411). -/
def State.clearHist (s : State) (n : Nat) : State :=
  if (s.slot n).histClear.isNone then s
  else s.modSlot n (fun x => { x with histClear := none, coding := {}, residence := {} })
/-- Emitters whose die has returned start at this boundary, with the live emitter's sequence number (R261). -/
def State.resyncSeq (s : State) (n : Nat) : State :=
  s.modSlot n (fun x => { x with resync := [], seq0 := if 0 ∈ x.resync then x.seq1 else x.seq0,
                                 seq1 := if 1 ∈ x.resync then x.seq0 else x.seq1 })
/-- One encode stream begins a picture at this boundary. -/
def State.beginPicture (s : State) (n : Nat) (start rep cut hold : Bool) (phase : Option (Nat × Nat)) : State :=
  let s := (s.clearHist n).resyncSeq n
  s.modSlot n (fun x =>
    let sweep := if start || phase.any (fun q => decide (q.1 = 0)) then x.sweep + 1 else x.sweep
    let p : Pic := { no := x.pictures, instant := s.now, rtpTs := rtpOf s.now, rep := rep, hold := hold, start := start,
                     cut := cut, phase := phase, poc := (x.poc + (x.pictures - x.codedNo)) % 65536, sweep := sweep }
    let pics := p :: x.pics.take 3
    let oldest := (pics.getLast?.map (·.instant)).getD 0
    { x with pictures := x.pictures + 1, pics := pics, sweep := sweep, startNext := false,
             anc := x.anc.filter (fun a => decide (oldest ≤ a.instant)),
             audio := x.audio.filter (fun a => decide (oldest ≤ a.slot)),
             repeat_ := if x.codedNo = x.pictures then rep else x.repeat_ })
/-- Hold pictures of a stream that restarts (R246, R247): the POC advances, and both Sieves emit hold rows. -/
def State.holdPicture (s : State) (n : Nat) : State :=
  let s := (s.beginPicture n false true false true none).countTwin n 8
  let s := s.modSlot n (fun x => { x with poc := (x.poc + 1) % 65536, codedNo := x.pictures })
  [0, 1].foldl (fun (s : State) die => s.holdRest die n) s
/-- A boundary of an encode stream that is not a tier: cuts, the run bit and the picture's kind take effect together for
every tier (R116, Table 07.1). -/
def State.encodeBoundary (s : State) (n : Nat) : State :=
  let x := s.slot n
  let all := s.ladder n
  if x.st = 5 then
    -- a cut that falls on a hold picture is deferred (R113, R203)
    let (cut, s) := s.takeCuts n
    all.foldl (fun (s : State) m =>
      let s := if cut then s.modSlot m (fun y => { y with deferred := true, deferredCuts := inc64 y.deferredCuts }) else s
      s.holdPicture m) s
  else if x.st < 2 ∨ (x.st = 2 ∧ !s.mayStart n) then s
  else
    let start := x.st = 2 || x.startNext
    let s := if x.st = 2 then
        all.foldl (fun (s : State) m => s.modSlot m (fun y => { y with seq0 := 0, seq1 := 0 })) s
      else s
    let (cut, s) := s.takeCuts n
    let (phase, s) := s.takePhase n start
    let rep := !x.run && !start
    let s := all.foldl (fun (s : State) m =>
      let own := if start && decide (s.cfgN 0x21 m 0x05 = 0) && (s.groupOf m).isNone then none else phase
      (s.beginPicture m start rep (cut && !start) false own).modSlot m (fun y => { y with st := if rep then 4 else 3 })) s
    let s := if phase.any (fun p => decide (p.1 = 0)) then s.modTwin n (fun w => { w with phase0s := w.phase0s + 1 }) else s
    (s.nextFeedPicture n).judge n
/-- A slot start of a decode stream: it starts its slots on the same condition; the run bit acts (R146, R488). -/
def State.decodeBoundary (s : State) (n : Nat) : State :=
  let x := s.slot n
  if x.st = 5 then (s.countTwin n 8).modSlot n (fun y => { y with pictures := y.pictures + 1 })
  else if x.st < 2 ∨ (x.st = 2 ∧ !s.mayStart n) then s
  else
    let s := (s.clearHist n).shadowLive n s.now
    -- a slot that no AU receives is a repeat slot (R224)
    let r := s.slotRate n
    let g := s.now - s.cfgN 0x23 n 0x10
    let k0 := g * r.1 / (r.2 * 1000000000)
    let k := if gridAt r (k0 + 1) ≤ g then k0 + 1 else k0
    let missed := !x.run || !decide (k ∈ (s.intake (s.bitsFrom n)).tags)
    let s := if missed then s.modSlot n (fun y => { y with dec := { y.dec with counts := bumpAt y.dec.counts 1 1 } }) else s
    let p : Pic := { no := x.pictures, instant := s.now, rtpTs := rtpOf s.now, rep := !x.run }
    (s.modSlot n (fun y => { y with st := if x.run then 3 else 4, repeat_ := !x.run, pictures := y.pictures + 1,
                                    pics := p :: y.pics.take 3 })).judge n
/-- A stream's picture boundary arrives. A tier has its anchor's. -/
def State.pictureBoundary (s : State) (n : Nat) : State :=
  let x := s.slot n
  if x.kind = 2 then s.decodeBoundary n
  else if x.kind = 1 ∧ x.role ≠ 2 then s.encodeBoundary n else s

end Sys2Proof.Machine
end

