-- ==== Sys2Proof/Machine/Admission.lean ====
section
/-! DEFINITION. Admission (06, 07, 08, 09, 12, 14): costs, levels, reservations and stream regions, placement, the spare
pool, and what admitting or releasing a stream does. -/

namespace Sys2Proof.Machine

/-! ## Costs (R193, R209) -/

/-- A pixel rate in 1/4004 of a pixel per second, exact for every rate code. -/
def pixelRate (pixels : Nat) (r : Nat × Nat) : Nat := pixels * r.1 * (4004 / r.2)
/-- 10^9 pixels per second. -/
def bedBudget : Nat := 1000000000 * 4004
/-- Cost of a stream that is not a tier, or of an espalier (R140, R193, R209). -/
def State.costOf (s : State) (n : Nat) : Nat :=
  let x := s.slot n
  let f := s.slotFmt n
  let own := pixelRate (f.w * f.lines) (rateOf f.rate)
  if x.kind = 2 then own / 2
  else if x.role = 1 then
    let tiers := (s.ladder n).foldl (fun a m => a + pixelRate ((s.encodeFmt m).w * (s.encodeFmt m).lines) (rateOf f.rate)) 0
    match (s.feed n).source with
    | some c => tiers + pixelRate ((s.conditioned c).1 * (s.conditioned c).2) (rateOf f.rate) / 4
    | none => tiers
  else if 1 < s.gangSize n then s.gangSize n * bedBudget
  else own
/-- What a stream takes of one bed's budget. -/
def State.shareOf (s : State) (n : Nat) : Nat :=
  let x := s.slot n
  if x.role = 2 then 0 else if 1 < s.gangSize n then bedBudget else x.cost
/-- Budget in use on a bed. -/
def State.bedLoad (s : State) (b : Nat) : Nat := (s.bed b).slots.foldl (fun a n => a + s.shareOf n) 0
/-- Admitted cost on a coding die. -/
def State.dieLoad (s : State) (d : Nat) : Nat := (List.range 36).foldl (fun a j => a + s.bedLoad (36 * d + j)) 0
/-- Cost that a die whose stack runs at 4 Gb/s may carry (R356). -/
def slowBudget : Nat := 28125000000 * 4004
/-- A die takes `more` cost at its stack's operating point (R356). -/
def State.dieFits (s : State) (d more : Nat) : Bool :=
  decide ((s.stack d).active ≠ 1) || decide (s.dieLoad d + more ≤ slowBudget)
/-- Members that a stream's cost counts for (R330). -/
def State.sidesOf (s : State) (n : Nat) : Nat := if s.protects n then 2 else 1
/-- Sum of an allotment's admitted costs (R330). -/
def State.budgetUsed (s : State) (a : Nat) : Nat :=
  s.str.slots.foldl (fun t e =>
    if e.2.owner = a ∧ 2 ≤ e.2.st ∧ e.2.role ≠ 2 then t + e.2.cost * s.sidesOf e.1 else t) 0

/-! ## Reservations (R160, R161, R194, R223) -/

/-- Bytes of a picture of `w` by `h` in 16-bit containers, by sampling code. -/
def picBytes (w h sampling : Nat) : Nat := w * h * (if sampling = 2 then 3 else if sampling = 0 then 4 else 6)
/-- Luma size of a pot: of an encode stream the coded size, a multiple of 8 each way, of a decode stream the FORMAT size (R161, R194,
R223). (DEDUCED, log entry 136.) -/
def State.potSize (s : State) (n : Nat) : Nat × Nat :=
  if (s.slot n).kind = 2 then ((s.slotFmt n).w, (s.slotFmt n).lines) else s.codedSize n
/-- Size of one pot of a stream (R161, R223). -/
def State.potBytes (s : State) (n : Nat) : Nat := picBytes (s.potSize n).1 (s.potSize n).2 (s.slotFmt n).sampling
/-- Pots per bed. -/
def State.potCount (s : State) (n : Nat) : Nat :=
  if (s.slot n).kind = 2 then s.cfgN 0x23 n 0x0D + 2 else s.cfgN 0x21 n 0x0C + 1
/-- Bytes of the two hold buffers that each bed of a stream keeps, at the conditioned source size (R111, R160). -/
def State.holdBytes (s : State) (n : Nat) : Nat :=
  match (s.slot n).kind, (s.feed n).source with
  | 1, some c => 2 * picBytes (s.conditioned c).1 (s.conditioned c).2 (s.intakeFmt c).sampling
  | _, _ => 0
/-- Bytes of an espalier's analysis pot, at its anchor (R194). -/
def State.analysisBytes (s : State) (n : Nat) : Nat :=
  match (s.slot n).role, (s.feed n).source with
  | 1, some c => 2 * (s.conditioned c).1 * (s.conditioned c).2
  | _, _ => 0
/-- Bytes of a stream's pots, or of a whole espalier's at its anchor. -/
def State.potsBytes (s : State) (n : Nat) : Nat :=
  if (s.slot n).kind = 2 then s.potCount n * s.potBytes n
  else (s.ladder n).foldl (fun a m => a + s.potCount m * s.potBytes m) 0
/-- Bytes that a stream, or a whole espalier at its anchor, has per bed (R160, R194): its pots and the bed's hold buffers. -/
def State.reserveBytes (s : State) (n : Nat) : Nat := s.potsBytes n + s.holdBytes n + s.analysisBytes n
/-- Bytes of a member's region on its die's stack: a gang keeps one set of pots, and hold buffers for each bed (R160). -/
def State.regionBytes (s : State) (n : Nat) : Nat :=
  s.potsBytes n + Nat.max 1 (s.gangSize n) * s.holdBytes n + s.analysisBytes n
/-- Where the pots of a stream begin in its member's region: a tier's after those of the streams before it (DESIGN CHOICE, log
entry 81). -/
def State.potsAt (s : State) (n : Nat) : Nat :=
  let l := s.ladder (s.anchorOf n)
  (l.take (l.idxOf n)).foldl (fun a m => a + s.potCount m * s.potBytes m) 0

/-- Size of the stream-region area of a coding stack (Table 14.1). (PRESUMED, log entry 72.) -/
def regionArea : Nat := 47 * 1073741824
/-- Rounded up to 2 MiB (R348). -/
def up2M (n : Nat) : Nat := ceilDiv n 2097152 * 2097152
/-- Runs of a stack's stream-region area that are taken: stream regions, and retired pages out of use (R348, R355). -/
def State.takenRuns (s : State) (d : Nat) : List (Nat × Nat) :=
  let regions := s.str.slots.flatMap (fun e =>
    (e.2.regions.filter (fun r => decide (r.1 = d))).map (fun r => (r.2.1, r.2.2)))
  let pages := (s.stack d).retired.filterMap (fun p => if 4096 * p < regionArea then some (4096 * p, 4096) else none)
  regions ++ pages
/-- The lowest free run of `size` bytes of a stack's area (R348). -/
def State.freeRun (s : State) (d size : Nat) : Option Nat :=
  let taken := s.takenRuns d
  let ok := fun base => decide (base + size ≤ regionArea) &&
    taken.all (fun r => decide (base + size ≤ r.1) || decide (r.1 + r.2 ≤ base))
  leastOf ((0 :: taken.map (fun r => up2M (r.1 + r.2))).filter ok)
/-- STACK_FREE (R348). -/
def State.stackFree (s : State) (d : Nat) : Nat :=
  if !(s.stack d).carved then 48 * 1073741824
  else
    let used := s.str.slots.foldl (fun a e =>
      (e.2.regions.filter (fun r => decide (r.1 = d))).foldl (fun a r => a + r.2.2) a) 0
    let inUse := fun (p : Nat) => s.str.slots.any (fun e =>
      e.2.regions.any (fun r => decide (r.1 = d) && decide (r.2.1 ≤ 4096 * p) && decide (4096 * p < r.2.1 + r.2.2)))
    let pages := (s.stack d).retired.filter (fun p => decide (4096 * p < regionArea) && !inUse p)
    regionArea - used - 4096 * pages.length

/-! ## Placement (R137, R140, R237, R239, R263, R349) -/

/-- A bed may hold a member of a new stream, by budget and slots. -/
def State.bedFits (s : State) (b share slots : Nat) : Bool :=
  let x := s.bed b
  !x.spare && !s.isPruned (bedDie b) (b % 36) && !s.isPruned (bedDie b) 0xFF && decide (x.st ≠ .soilTest) && !x.owed &&
    decide ((s.power b).st ≠ 4) && decide (s.bedLoad b + share ≤ bedBudget) && decide (x.slots.length + slots ≤ 64)
/-- The transplants of a bed's twinned streams fit in a picture period less 250 µs, at 100 GB/s (R239). -/
def State.graftFits (s : State) (b n bytes : Nat) : Bool :=
  let mine := (s.bed b).slots.filter (fun m => decide ((s.slot m).role ≠ 2))
  let total := mine.foldl (fun a m => if s.protects m then a + (s.slot m).reserved else a) (if s.protects n then bytes else 0)
  let period := mine.foldl (fun p m => min p (s.slotPeriod m)) (s.slotPeriod n)
  decide (total = 0) || decide (total ≤ 100 * (period - 250000))
/-- Sides that a member may take: one bed, or the first beds of a die that fit a gang. -/
def State.sideChoices (s : State) (g share slots : Nat) : List (List Nat) :=
  if g ≤ 1 then
    ((List.range 288).filter (fun b => s.bedFits b share slots && s.dieFits (bedDie b) share)).map (fun b => [b])
  else (List.range 8).filterMap (fun d =>
    let l := ((List.range 36).map (fun j => 36 * d + j)).filter (fun b => s.bedFits b share slots)
    if decide (g ≤ l.length) && s.dieFits d (g * share) then some (l.take g) else none)
/-- The beds that a stream is placed on: lead and partner sides; or the status that refuses it: 12 CAPACITY, 13
PLACEMENT. The lowest-numbered legal placement is taken. (DEDUCED, log entry 65.) -/
def State.place (s : State) (n : Nat) : Nat × List Nat × List Nat :=
  let g := s.gangSize n
  let cost := s.costOf n
  let share := if 1 < g then bedBudget else cost
  let slots := (s.ladder n).length
  let bytes := up2M (s.regionBytes n)
  let fits := s.sideChoices g share slots
  let legal := fits.filter (fun l =>
    l.all (fun b => s.graftFits b n (s.reserveBytes n)) && (s.freeRun (bedDie (l.headD 0)) bytes).isSome)
  if fits.length < s.sidesOf n then (12, [], [])
  else if !s.protects n then
    match legal with
    | [] => (13, [], [])
    | l :: _ => (0, l, [])
  else
    let pairs := legal.filterMap (fun l =>
      (legal.find? (fun p => decide (bedDomain (p.headD 0) ≠ bedDomain (l.headD 0)) && decide (l.headD 0 < p.headD 0))).map
        (fun p => (l, p)))
    match pairs with
    | [] => (13, [], [])
    | p :: _ => (0, p.1, p.2)

/-! ## The spare pool (R137, R263) -/

/-- Beds of the spare pool. -/
def State.spares (s : State) : List Nat :=
  (List.range 288).filter (fun b => (s.bed b).spare)
/-- WARM_BEDS spares are kept powered, taken in turn from the four coding power domains (R137). (DEDUCED, log entry 66.) -/
def State.keepWarm (s : State) : State :=
  let pool := s.spares
  let of := fun d => pool.filter (fun b => decide (bedDomain b = d))
  let turns := (List.range 72).flatMap (fun k => (List.range 4).filterMap (fun d => (of d)[k]?))
  let warm := turns.take (s.cfgN 0x60 0 0x07)
  (List.range 288).foldl (fun (s : State) b =>
    let is := decide (b ∈ warm)
    let s := if (s.bed b).warm = is then s else s.modBed b (fun x => { x with warm := is })
    if is && decide ((s.bed b).st = .off) then s.wakeBed b else s) s
/-- A bed that becomes free refills the pool first (R263). -/
def State.refill (s : State) (b : Nat) : State :=
  let x := s.bed b
  if x.slots.isEmpty && !x.spare && !x.owed && !s.isPruned (bedDie b) (b % 36) && decide (s.spares.length < s.cfgN 0x24 0x2000 0x01) then
    (s.modBed b (fun x => { x with spare := true })).keepWarm
  else s
/-- SPARE_POOL changes: surplus spares are freed at once, the lowest first; a larger pool fills from the free beds, the
highest first (R263). (DEDUCED, log entry 66.) -/
def State.sizePool (s : State) : State :=
  let want := s.cfgN 0x24 0x2000 0x01
  let have_ := s.spares
  let s := (have_.take (have_.length - want)).foldl (fun (s : State) b => s.modBed b (fun x => { x with spare := false })) s
  let s := (List.range 288).reverse.foldl (fun (s : State) b =>
    let x := s.bed b
    if s.spares.length < want && x.slots.isEmpty && !x.spare && !s.isPruned (bedDie b) (b % 36) &&
        !s.isPruned (bedDie b) 0xFF then
      s.modBed b (fun x => { x with spare := true })
    else s) s
  s.keepWarm

/-! ## Checks (R96, R98, R182, R186, R196, R210) -/

/-- Sample bits per second of a channel, times 2 den. -/
def sampleBits (f : Fmt) : Nat := f.w * f.lines * (if f.sampling = 0 then 4 else if f.sampling = 1 then 6 else 3) * f.depth
/-- A rate of sample bits is at most `limit` bits per second. -/
def within (limit : Nat) (l : List Fmt) : Bool :=
  decide (l.foldl (fun a f => a + sampleBits f * (rateOf f.rate).1 * (1001 / (rateOf f.rate).2)) 0 ≤ 2 * 1001 * limit)
/-- Channels of a die in raster mode. -/
def State.rasterChannels (s : State) (die : Nat) : List Nat :=
  s.alm.store.filterMap (fun e =>
    let c := e.1 / 256 % 65536
    if e.1 / 16777216 = 0x20 ∧ e.1 % 256 = 0x02 ∧ c < 0x800 ∧ intakeDie c = die ∧ leNat e.2 = 1 then some c else none)
/-- A channel's rates are within R96. -/
def State.intakeRates (s : State) (c : Nat) : Bool :=
  within 64000000000 [s.intakeFmt c] && within 4000000000000 ((s.rasterChannels (intakeDie c)).map s.intakeFmt)
/-- The outtake channels of a stream keep their dies within R96, each counted at the decoded depth, wherever its DEPTH
lowers it (DESIGN CHOICE, log entry 139). -/
def State.outtakeRates (s : State) (n : Nat) : Bool :=
  [0, 1].all (fun die =>
    within 8000000000000 ((s.str.slots.filter (fun e => decide (e.2.kind = 2) && (decide (2 ≤ e.2.st) || decide (e.1 = n)))).flatMap
      (fun e => ((s.outtakesOf e.1).filter (fun o => decide (outtakeDie o = die))).map (fun _ => s.decodeFmt e.1))))
/-- One stream of an espalier keeps Table 07.1. -/
def State.tierFits (s : State) (n c : Nat) : Bool :=
  let f := s.encodeFmt n
  let src := s.intakeFmt c
  let (w, h) := s.conditioned c
  decide (w ≤ 8 * f.w) && decide (f.w ≤ w) && decide (h ≤ 8 * f.lines) && decide (f.lines ≤ h) &&
    decide (f.scan = src.scan) && decide (f.rate = src.rate) && decide (s.cfgN 0x21 n 0x0A = 1) &&
    (decide (f.sampling = 1) || decide (f.w % 2 = 0))
/-- The stream of a slot matches its feed (R182) and, in an espalier, Table 07.1 (R186). -/
def State.formatFits (s : State) (n c : Nat) : Bool :=
  let f := s.encodeFmt n
  let src := s.intakeFmt c
  if (s.slot n).role = 1 then (s.ladder n).all (fun m => s.tierFits m c)
  else decide ((f.w, f.lines) = s.conditioned c) && decide (f.scan = src.scan) && decide (f.rate = src.rate)
/-- The group conditions of R196. -/
def State.groupFits (s : State) (n : Nat) : Bool :=
  match s.groupOf n with
  | none => true
  | some g => decide (s.cfgN 0x22 (0x2000 + g) 0x02 = (s.encodeFmt n).rate) &&
      decide (s.cfgN 0x22 (0x2000 + g) 0x03 = (s.encodeFmt n).scan)
/-- The allotment may read a channel's OWNER entry (R115). -/
def State.channelRights (s : State) (a c : Nat) : Bool := decide (s.intakeOwner c = a) || bit (s.cfgN 0x20 c 0x00) a
/-- A wrapper that a codec takes (Table 08.2). -/
def wrapperFits (codec wrapper : Nat) : Bool := decide (wrapper = 2) || decide (codec < 2)
/-- The rate conditions that admission requires (R166). -/
def State.rateFits (s : State) (n : Nat) : Bool :=
  let q := (s.budgetOf n (s.cfgN 0x21 n 0x0E)).1
  decide (s.leastBuffer n ≤ s.cfgN 0x21 n 0x10) && decide (16 * s.ctusOf n ≤ q)

/-- Status of an ADMIT = 1 before placement: 0 when the stream may be placed. (DEDUCED, log entry 63.). (DEDUCED, log
entry 65.) -/
def State.admitCheck (s : State) (n : Nat) : Nat :=
  let x := s.slot n
  if x.st ≠ 1 ∨ x.role = 2 ∨ (s.ladder n).any (fun m => decide ((s.slot m).st ≠ 1)) then 3
  else if x.kind = 2 then
    let c := s.cfgN 0x23 n 0x09
    if (s.cfg 0x23 n 0x09).isEmpty || decide (s.cfgN 0x20 c 0x02 ≠ 2) || !wrapperFits (s.cfgN 0x23 n 0x05) (s.cfgN 0x23 n 0x0A)
        || decide ((s.decodeFmt n).w = 0) then 4
    else if !s.channelRights x.owner c then 2
    else if s.protects n && (s.peerOf c).isNone then 13
    else if !s.outtakeRates n then 12
    else 0
  else match (s.feed n).source with
    | none => 4
    | some c =>
      if s.cfgN 0x20 c 0x02 ≠ 1 || !takesFormat (s.intakeFmt c) || !s.formatFits n c || !s.groupFits n then 4
      else if !s.channelRights x.owner c then 2
      else if (s.ladder n).any (fun m => match s.lowestLevel m with
          | none => true
          | some l => decide (s.cfgN 0x21 m 0x07 ≠ 0) && decide (s.cfgN 0x21 m 0x07 < l)) then 14
      else if (s.ladder n).any (fun m => !s.rateFits m) then 3
      else if s.protects n && (s.peerOf c).isNone then 13
      else if !s.intakeRates c then 12
      else if 1 < s.gangSize n ∧ 3500000 * s.gangSize n < (s.budgetOf n (s.cfgN 0x21 n 0x0E)).1 then 12
      else 0

/-! ## Admit and release (R183, R185, R238) -/

/-- Give a placed stream, or each tier of an espalier, its beds. -/
def State.takeBeds (s : State) (n : Nat) (lead partner : List Nat) : State :=
  let all := s.ladder n
  let s := all.foldl (fun (s : State) m =>
    (s.modTwin m (fun w =>
      { counts := w.counts, resends := w.resends, disagreements := w.disagreements, lead := lead, partner := partner,
        templates := true : Twin })).modSlot m (fun x =>
      { x with st := 2, startAt := none, pictures := 0, codedNo := 0, pics := [], poc := 0, nextPhase := 0, metered := 0,
               schedEnd0 := 0, schedEnd1 := 0, seq0 := 0, seq1 := 0, resync := [], deferred := false, repeat_ := false,
               startNext := true, pendPeriod := [], sweep := 0, anc := [], audio := [], fillers := [], digests := [],
               ring := [],               analysis := {}, tables0 := 0, tables1 := 0, level := s.levelFor m,
               run := !decide (lead.headD 0 ∈ (s.allot x.owner).runClear),
               period := match s.groupOf m with
                 | some g => s.cfgN 0x22 (0x2000 + g) 0x04
                 | none => s.cfgN 0x21 (s.anchorOf m) 0x14 })) s
  let g := lead.length
  let s := (lead.zipIdx ++ partner.zipIdx).foldl (fun (s : State) e =>
    let s := s.modBed e.1 (fun b => { b with gangPos := e.2, gangSize := if g ≤ 1 then 0 else g })
    all.foldl (fun (s : State) m => s.assign e.1 m) s) s
  s
/-- A stream's region on one die, where a run of `len` bytes is free. -/
def State.takeRegion (s : State) (n d len : Nat) : State :=
  match s.freeRun d len with
  | none => s
  | some base => s.modSlot n (fun x => { x with regions := x.regions ++ [(d, base, len)] })
/-- A stream's regions, one on the die of each of its members. (DEDUCED, log entry 40.) -/
def State.takeSides (s : State) (n len : Nat) (sides : List (List Nat)) : State :=
  sides.foldl (fun (s : State) l => s.takeRegion n (bedDie (l.headD 0)) len) s
/-- The stream's interrupt source, which it shares with its twin (R230). -/
def State.raiseSlot (s : State) (n : Nat) : State := s.raise (0x2000 + n)
/-- A decode stream starts afresh at admission: its counts stay, and a change of CLEAN, NO_SYNC or FORMAT_MISMATCH raises its source
(R221, R230). -/
def State.resetDec (s : State) (n : Nat) : State :=
  let d := (s.slot n).dec
  let s := s.modSlot n (fun x =>
    { x with dec := { counts := x.dec.counts, fenceHits := x.dec.fenceHits, lastClean := x.dec.lastClean : Dec } })
  if d.clean || !d.noSync || d.mismatch then s.raiseSlot n else s
/-- Reserve the region of each side (R160, R216, R348). -/
def State.takeRegions (s : State) (n : Nat) (lead partner : List Nat) : State :=
  let bytes := s.reserveBytes n
  let sides := if partner.isEmpty then [lead] else [lead, partner]
  let s := s.modSlot n (fun x => { x with cost := s.costOf n, reserved := bytes })
  let s := s.takeSides n (up2M (s.regionBytes n)) sides
  if (s.slot n).kind ≠ 2 then s
  else (s.resetDec n).refence n
/-- What the Shed sets at admission: ALIGN or OUT_ALIGN, unless they have been written, and the state of rate control
(R164); before its first SPS, a CTU of an H.264 stream is a macroblock of 16 (R208). -/
def State.admitDefaults (s : State) (n : Nat) : State :=
  if (s.slot n).kind = 2 then
    let c := s.cfgN 0x23 n 0x09
    let s := if s.cfgN 0x23 n 0x05 = 2 then s.modSlot n (fun x => { x with dec := { x.dec with ctu := 16 } }) else s
    let s := s.modIntake c (fun i =>
      { i with openTs := none, auSlot := none, lastSlot := none, tags := [], waiting := [], bits := [] })
    if s.cfgN 0x23 n 0x10 ≠ 0 then s else s.setCfgN 0x23 n 0x10 4 ((s.intake c).arrivalOffset + 20000)
  else
    let s := match (s.feed n).source with
      | some c => if s.align n ≠ 0 then s else s.setCfgN 0x20 (0x2000 + n) 0x04 4 ((s.intake c).arrivalOffset + 20000)
      | none => s
    (s.ladder n).foldl (fun (s : State) m =>
      (s.setRate m true).modRate m (fun r => r.init (s.cfgI 0x21 m 0x11) (s.rowsOfSlot m))) s
/-- ADMIT = 1 (R182, R330); answers the status. -/
def State.admitStream (s : State) (n : Nat) : Nat × State :=
  let c := s.admitCheck n
  let a := (s.slot n).owner
  if c ≠ 0 then (c, s)
  else if s.cfgN 0x04 a 0x05 * 1000 * 4004 < s.budgetUsed a + s.costOf n * s.sidesOf n then (12, s)
  else match s.place n with
    | (0, lead, partner) =>
      let old := s
      (0, ((((s.takeRegions n lead partner).admitDefaults n).takeBeds n lead partner).reowned old))
    | (st, _, _) => (st, s)
/-- An admitting stream's beds are awake and placed: its output may start (R33, R238). -/
def State.streamAdmitted (s : State) (n : Nat) : State :=
  let x := s.slot n
  let beds := s.members n
  if x.st ≠ 2 ∨ x.startAt.isSome ∨ x.role = 2 ∨ !beds.all (fun b => decide ((s.bed b).st = .running)) then s
  else
    (s.ladder n).foldl (fun (s : State) m =>
      let s := s.modSlot m (fun y => { y with startAt := some s.now })
      let s := if (s.twin m).partner.isEmpty then s else s.setTwin m .whole
      s.judge m) s
/-- Beds that a stream gives back refill the pool (R263). -/
def State.dropBeds (s : State) (n : Nat) : State :=
  let w := s.twin n
  let beds := w.lead ++ w.partner ++ w.scion
  let s := beds.foldl (fun (s : State) b => (s.unassign b n).modBed b (fun x =>
    if x.slots.isEmpty then { x with gangPos := 0, gangSize := 0 } else x)) s
  beds.foldl State.refill s
/-- ADMIT = 2 to an admitted stream: its beds and pots are released, and it stays CONFIGURED (R183). Writes that waited in
the shadow have been accepted and stand. -/
def State.releaseStream (s : State) (n : Nat) : State :=
  let old := s
  let s := (s.ladder n).foldl (fun (s : State) m =>
    let due := (s.slot m).shadow.foldl (fun b w => Nat.max b w.boundary) 0
    let s := (s.shadowLive m due).dropBeds m
    let s := s.setTwin m .none
    (s.modTwin m (fun w =>
      { counts := w.counts, resends := w.resends, disagreements := w.disagreements : Twin })).modSlot m (fun x =>
      { x with st := 1, startAt := none, regions := [], reserved := 0, cost := 0, pots := [], pics := [], shadow := [],
               repeat_ := false, resync := [], readmit := false })) s
  let s := s.modFeed n (fun f => { f with cuts := [], pend := none, toHold := false, busy := [], took := [], acks := [],
                                          reading := none, line := 0, picture := 0, mark := 0, standbyMark := 0 })
  s.reowned old
/-- Entries of a slot in families 21, 22 and 23 return to their defaults (R183), its histograms of family 43 stand. -/
def State.freeSlot (s : State) (n : Nat) : State :=
  let old := s
  let mine := fun (k : Nat) => (decide (k / 16777216 = 0x21) || decide (k / 16777216 = 0x22) || decide (k / 16777216 = 0x23)) &&
    decide (k / 256 % 65536 = n)
  let tiers := s.tiersOf n
  let s := { s with alm := { s.alm with store := s.alm.store.filter (fun e => !mine e.1) } }
  let s := tiers.foldl (fun (s : State) m => s.modSlot m (fun x => { x with role := 0, anchor := 0xFFFF })) s
  (s.modSlot n (fun x => { coding := x.coding, residence := x.residence, histClear := x.histClear : Slot })).reowned old
/-- ADMIT (R183, R185); answers the status. -/
def State.admit_ (s : State) (n v : Nat) : Nat × State :=
  let x := s.slot n
  if v = 1 then s.admitStream n
  else if x.role = 2 ∨ x.st = 0 then (3, s)
  else if x.st = 1 then (0, s.freeSlot n)
  else (0, s.releaseStream n)

end Sys2Proof.Machine
end

