-- ==== Sys2Proof/Machine/Soil.lean ====
section
/-! DEFINITION. Soil tests (16): which bed is due, the start and the end of a test, its abort, and the return of a pruned
bed by its unit reset (R252). -/

namespace Sys2Proof.Machine

/-- Count in TESTS (E 42.0000.03): 0 run, 1 passed, 2 failed, 3 aborted. -/
def State.countSoil (s : State) (i : Nat) : State := { s with str := { s.str with soilTests := bumpAt s.str.soilTests i 1 } }
/-- Beds of a die under test. -/
def State.testing (s : State) (d : Nat) : Nat :=
  ((List.range 36).filter (fun j => decide ((s.bed (36 * d + j)).st = .soilTest))).length
/-- A change of the die's stack is WAITING or running (R398). -/
def State.stackChanges (s : State) (d : Nat) : Bool := decide ((s.stack d).opState ≠ 0) || decide ((s.stack d).st = 2)
/-- A bed is due for a test (R397). -/
def State.soilDue (s : State) (b : Nat) : Bool :=
  let x := s.bed b
  decide (x.st = .idle) && x.slots.isEmpty &&
    (x.owed || x.untested || decide (x.lastPass + s.cfgN 0x42 0 0x01 * 3600000000000 < s.now))
/-- A test may start on a due bed: the lowest-numbered of its die, with room under SOIL_PARALLEL (R397, R398). -/
def State.soilMay (s : State) (b : Nat) : Bool :=
  let d := bedDie b
  s.soilDue b && decide (s.testing d < s.cfgN 0x42 0 0x02) && !s.stackChanges d &&
    (List.range (b % 36)).all (fun j => !s.soilDue (36 * d + j))
/-- A test starts (R396). -/
def State.soilStart (s : State) (b : Nat) : State := (s.countSoil 0).setBed b .soilTest
/-- A bed is tested by the Shed when it is due (R397). -/
def State.soilTest (s : State) (b : Nat) : State := if s.shedLive && s.soilMay b then s.soilStart b else s
/-- A bed returns to IDLE from its test, with the start conditions of R138. -/
def State.soilIdle (s : State) (b : Nat) : State :=
  ((((s.clearBed b).modBed b (fun x => { x with idleSince := s.now })).setBed b .idle).freshPatch b)
/-- A micro-trap request that was held is taken once the test has ended (R398). -/
def State.soilTrap (s : State) (b : Nat) (held : Bool) : State := if held then s.trapRequest b 0 else s
/-- A test ends: every step passed, or step `fail` failed (R396, R399). -/
def State.soilEnd (s : State) (b fail : Nat) : State :=
  let x := s.bed b
  if x.st ≠ .soilTest then s
  else if fail = 0 then
    let s := (s.countSoil 1).modBed b (fun x =>
      { x with untested := false, owed := false, lastPass := s.now, soilResult := 1, failStep := 0, soilFails := 0 })
    ((s.soilIdle b).refill b).soilTrap b x.trapHeld
  else
    let s := (s.countSoil 2).modBed b (fun x =>
      { x with soilResult := 2, failStep := fail, soilFails := x.soilFails + 1, owed := false })
    (s.pruneBed b).raiseFault (256 * bedDie b + b % 36)
/-- A test is aborted: for a graft, or because its stack becomes unavailable (R398). -/
def State.soilAbort (s : State) (b : Nat) : State :=
  let held := (s.bed b).trapHeld
  if (s.bed b).st ≠ .soilTest then s
  else
    let s := (s.countSoil 3).modBed b (fun x => { x with untested := true, soilResult := 3 })
    (s.soilIdle b).soilTrap b held

/-- A bed leaves PRUNED (R252): powered and idle, owed a soil test before it may take a stream. -/
def State.bedBack (s : State) (b : Nat) : State :=
  let s := s.modBed b (fun x => { x with owed := true, checks := [], spare := false })
  (s.soilIdle b).soilTest b
/-- The Shed resets a pruned bed that no stream names (R252, R379). -/
def State.bedReset (s : State) (b : Nat) : State :=
  let d := bedDie b
  if !s.shedLive || s.isPruned d 0xFF || s.isPruned 12 d || decide ((s.bed b).st ≠ .pruned) || s.failedTwice d (b % 36) then s
  else match s.orderReset d (b % 36) with
    | (0, s) =>
      let s := s.endReset d (b % 36)
      if s.isPruned d (b % 36) then s else s.bedBack b
    | (_, s) => s
/-- RETEST (R399): refused unless the bed is PRUNED after two failures; answers the status. -/
def State.retest (s : State) (b : Nat) : Nat × State :=
  let x := s.bed b
  if x.st ≠ .pruned ∨ x.soilFails < 2 then (3, s)
  else (0, (s.modBed b (fun x => { x with soilFails := 1 })).bedReset b)

end Sys2Proof.Machine
end

