-- ==== Sys2Proof/Machine/Twinning.lean ====
section
/-! DEFINITION. Twinning (09): the Sieve and its cases, prune requests, contests and votes, double faults, excuses, grafts,
cuttings, the common mark of a protected feed, and PEER entries. -/

namespace Sys2Proof.Machine

/-! ## Output FIFOs and Sieve instances -/

/-- FIFO operations (R86, R87). -/
def Fifo.readOn (f : Fifo) (n : Nat) : Fifo := { f with read := min f.write (f.read + n) }
def Fifo.freeOn (f : Fifo) (n : Nat) : Fifo :=
  let rel := min f.read (f.rel + n)
  { f with rel := rel, mark := f.mark.bind (fun m => if m < rel then none else some m) }
def Fifo.setMark (f : Fifo) : Fifo := { f with mark := some f.read }
/-- Rewind to the mark; with no valid mark nothing changes but the count. -/
def Fifo.rewind (f : Fifo) : Fifo :=
  match f.mark with
  | some m => if f.rel ≤ m ∧ m ≤ f.read then { f with read := m } else { f with rewinds := f.rewinds + 1 }
  | none => { f with rewinds := f.rewinds + 1 }
/-- The 32-byte header of a release unit (R240, Table 09.1). -/
def unitHeader (u : UnitCopy) : List Byte :=
  natLe 2 u.slot ++ natLe 1 0 ++ natLe 1 (u.tile % 4 + 4 * b2n u.lastRow + 8 * b2n u.flagged + 16 * b2n u.retrial) ++
    natLe 4 u.picture ++ natLe 4 u.length ++ natLe 2 u.row ++ natLe 2 0 ++ natLe 8 u.crc.toNat ++ natLe 8 u.digest.toNat
/-- Bytes of a release unit in a FIFO: its header and its payload (R240). -/
def unitBytes (u : UnitCopy) : Nat := 32 + u.length

/-- A die has a Sieve instance for a stream: it emits the output, or its outtake channels read the decoded rows. -/
def State.instanceOn (s : State) (die n : Nat) : Bool :=
  !s.diePruned die &&
    (if (s.slot n).kind = 2 then (s.outtakesOf n).any (fun o => decide (outtakeDie o = die)) else (s.deliveryOf n die).isSome)
/-- Dies whose instances decide a stream's units. -/
def State.instances (s : State) (n : Nat) : List Nat := [0, 1].filter (fun d => s.instanceOn d n)

/-- Two copies are of one unit. -/
def sameUnit (a b : UnitCopy) : Bool := decide ((a.slot, a.picture, a.row, a.tile) = (b.slot, b.picture, b.row, b.tile))
/-- Two copies match (R243). -/
def copiesMatch (a b : UnitCopy) : Bool := decide ((a.length, a.crc, a.digest) = (b.length, b.crc, b.digest))
/-- An instance has decided a unit. -/
def Twin.isDecided (w : Twin) (die : Nat) (u : UnitCopy) : Bool := decide ((die, u.picture, u.row, u.tile) ∈ w.decided)
/-- The copy of a unit open at an instance. -/
def Twin.openCopy (w : Twin) (die : Nat) (u : UnitCopy) : Option OpenUnit :=
  w.open_.find? (fun o => decide (o.die = die) && sameUnit o.copy u)
/-- A unit is no longer open at an instance. -/
def State.closeUnit (s : State) (die : Nat) (u : UnitCopy) : State :=
  s.modTwin u.slot (fun w => { w with open_ := w.open_.filter (fun o => !(decide (o.die = die) && sameUnit o.copy u)) })
/-- A unit opens at an instance with its first copy (R243). -/
def State.openUnit (s : State) (die : Nat) (u : UnitCopy) (released : Bool) : State :=
  s.modTwin u.slot (fun w => { w with open_ := w.open_ ++ [{ die := die, copy := u, t := s.now, released := released }] })
/-- Member ports release a unit from their FIFOs. -/
def State.portFree (s : State) (u : UnitCopy) (beds : List Nat) : State :=
  beds.foldl (fun (s : State) b => s.modBed b (fun x =>
    let f := x.fifo.freeOn (unitBytes u)
    { x with fifo := if f.rel < f.read then { f with mark := some f.rel } else f,
             flagged := x.flagged.filter (fun e => !decide (e = (u.slot, u.picture, u.row, u.tile))) })) s
/-- An instance has decided a unit; the ports release it once every instance has (R243). -/
def State.decide_ (s : State) (die : Nat) (u : UnitCopy) (beds : List Nat) : State :=
  if (s.twin u.slot).isDecided die u then s
  else
    let s := s.modTwin u.slot (fun w =>
      { w with decided := (die, u.picture, u.row, u.tile) :: w.decided.filter (fun d => decide (u.picture < d.2.1 + 2)) })
    if (s.instances u.slot).all (fun d => (s.twin u.slot).isDecided d u) then s.portFree u beds else s
/-- The first instance to decide a unit: what is counted for each unit is counted there. -/
def State.firstDecision (s : State) (u : UnitCopy) : Bool := !(s.twin u.slot).isDecided 0 u && !(s.twin u.slot).isDecided 1 u
/-- An instance releases a copy, and has decided its unit. -/
def State.release_ (s : State) (die : Nat) (u : UnitCopy) (beds : List Nat) : State :=
  (s.decide_ die u beds).releaseUnit die u

/-! ## Prune requests (R26, R244) -/

/-- Units open at an instance that wait for no other copy: released, or a double fault when flagged (Table 09.4). -/
def State.flushDie (s : State) (die n : Nat) : State :=
  let w := s.twin n
  let gone := fun (b : Nat) => decide ((die, b) ∈ w.requested)
  let mine := w.open_.filter (fun o => decide (o.die = die) && !o.released && !gone o.copy.bed)
  if mine.any (fun o => o.copy.flagged) then s.doubleFault n
  else mine.foldl (fun (s : State) o => (s.closeUnit die o.copy).release_ die o.copy [o.copy.bed]) s
/-- An instance sends a prune request for a bed's member and no longer waits for its copies (R244). The request itself
reaches the collector as PRUNE_REQUEST. -/
def State.askPrune (s : State) (die n b : Nat) : State :=
  let side := (s.twin n).sideOf b
  (s.modTwin n (fun w => { w with requested := side.foldl (fun l x => addTo l (die, x)) w.requested })).flushDie die n
/-- A prune request reaches the fault collector (R26): the first of a picture period prunes; a later one of the other die
for the other bed is a disagreement, reported as a Trellis fault of that die's link. The tiers of an espalier are one twin,
whose requests its anchor's record keeps. -/
def State.pruneAsked (s : State) (die n picture b : Nat) : State :=
  let w := s.twin n
  let k := s.anchorOf n
  let asked := (s.twin k).pruneReq
  let first := match asked with
    | some (p, _, _) => decide (p ≠ picture)
    | none => true
  if !decide (b ∈ w.lead ++ w.partner) || decide (w.st = .none) then s
  else if first then
    (s.modTwin k (fun w => { w with pruneReq := some (picture, die, b) })).pruneGang b
  else match asked with
    | some (_, d, x) =>
      if d = die ∨ x = b then s
      else (s.modTwin k (fun w => { w with disagreements := inc64 w.disagreements })).logFault (0xF00 + 16 * (8 + die) + 2)
    | none => s
/-- A prune request goes over the Trellis from a pipeline die to the fault collector in the hub, or is held while a link moves
a lane (R19, R20). -/
def State.pruneComes (s : State) (die n picture b : Nat) : State :=
  if s.linkHolds (8 + die) 10 then s.hold (8 + die) 10 (.prune die n picture b) else s.pruneAsked die n picture b

/-! ## Contests (R245) -/

/-- A difference with no flag makes a whole twin contested; a pending vote takes no new contest. -/
def State.startContest (s : State) (a b : UnitCopy) : State :=
  let n := a.slot
  let w := s.twin n
  if w.st ≠ .whole then s
  else
    let (l, p) := if a.bed ∈ w.lead then (a, b) else (b, a)
    let s := (s.countTwin n 5).modTwin n (fun w =>
      { w with contestAt := none,
               contest := some { picture := a.picture, row := a.row, tile := a.tile, leadCopy := l, partnerCopy := p,
                                 t := s.now,
                                 capsule := (s.slot n).ring.find? (fun r => decide ((r.picture, r.row) = (a.picture, a.row))) } })
    s.setTwin n .contested
/-- The retrial bed's copy of the disputed row decides the vote (R245): the odd member is pruned; when all three differ it
is a double fault. -/
def State.vote (s : State) (u : UnitCopy) : State :=
  let n := u.slot
  let w := s.twin n
  match w.contest with
  | none => s
  | some c =>
    if !decide (u.bed ∈ w.scion) || !sameUnit u c.leadCopy then s
    else match copiesMatch u c.leadCopy, copiesMatch u c.partnerCopy with
      | true, true => s
      | true, false => s.pruneGang (w.partner.headD 0)
      | false, true => s.pruneGang (w.lead.headD 0)
      | false, false => s.doubleFault n

/-! ## The cases of Table 09.4 -/

/-- The bed belongs to the excused member (R248). -/
def Twin.isExcused (w : Twin) (b : Nat) : Bool := w.excused.any (fun x => decide (b ∈ w.sideOf x))
/-- Both copies of a unit are at an instance: `o` came first. -/
def State.decidePair (s : State) (die : Nat) (o : OpenUnit) (u : UnitCopy) : State :=
  let n := u.slot
  let w := s.twin n
  let a := o.copy
  let beds := [a.bed, u.bed]
  let s := s.closeUnit die u
  let s := if (w.isExcused a.bed || w.isExcused u.bed) && decide (s.now ≤ o.t + 12000) then s.setExcused n none else s
  let free := fun (s : State) (x : UnitCopy) => if o.released then s.portFree x [u.bed] else s.release_ die x beds
  if a.flagged && u.flagged then s.doubleFault n
  else if a.flagged then (s.release_ die u beds).askPrune die n a.bed
  else if u.flagged then (free s a).askPrune die n u.bed
  else if copiesMatch a u && !decide (w.contestAt = some u.picture ∧ u.row = 0 ∧ u.tile = 0) then free s a
  else
    let lead := if a.bed ∈ w.lead then a else u
    let s := if s.firstDecision u && !o.released then s.countTwin n 4 else s
    (free s (if o.released then a else lead)).startContest a u

/-- A scion's copy of its probation picture, or the survivor's, is compared (R256, R257); `o` is the one that came first. -/
def State.probationPair (s : State) (die : Nat) (o : OpenUnit) (u : UnitCopy) : State :=
  let late := decide (u.bed ∈ (s.twin u.slot).scion) && decide (o.t + 12000 < s.now)
  let flagged := o.copy.flagged || u.flagged
  let s := s.closeUnit die u
  if copiesMatch o.copy u && !late && !flagged then s else s.modTwin u.slot (fun w => { w with probationBad := true })

/-- A member whose twin has no other releases on arrival; a flagged copy is a double fault (Table 09.4). A stream admitted
with PROTECT 0 has no comparison (R25). -/
def State.singleCopy (s : State) (die : Nat) (u : UnitCopy) : State :=
  let n := u.slot
  let w := s.twin n
  if w.st = .none then s.release_ die u [u.bed]
  else if u.flagged then s.doubleFault n
  else
    let s := s.release_ die u [u.bed]
    if w.probation ≠ some u.picture then s
    else match w.openCopy die u with
      | none => s.openUnit die u true
      | some o => s.probationPair die o u
/-- A copy of a scion on probation. -/
def State.scionCopy (s : State) (die : Nat) (u : UnitCopy) : State :=
  let w := s.twin u.slot
  let s := if (s.instances u.slot).getLast? = some die then s.portFree u [u.bed] else s
  if w.probation ≠ some u.picture then s
  else match w.openCopy die u with
    | none => s.openUnit die u false
    | some o => if o.copy.bed = u.bed then s else s.probationPair die o u
/-- The other members' copy that a new copy waits for has been given up at this instance. -/
def Twin.givenUp (w : Twin) (die b : Nat) : Bool :=
  let other := if b ∈ w.lead then w.partner else w.lead
  other.any (fun x => decide ((die, x) ∈ w.requested))
/-- A member's copy, of a twin of two. -/
def State.memberCopy (s : State) (die : Nat) (u : UnitCopy) : State :=
  let n := u.slot
  let w := s.twin n
  match w.openCopy die u with
  | some o => if o.copy.bed = u.bed then s else s.decidePair die o u
  | none =>
    if w.isDecided die u then s
    else if w.givenUp die u.bed then (if u.flagged then s.doubleFault n else s.release_ die u [u.bed])
    else if w.excused.isSome && !w.isExcused u.bed && !u.flagged then (s.release_ die u [u.bed]).openUnit die u true
    else s.openUnit die u false
/-- A release unit copy arrives at a Sieve instance (R243, R244). (DEDUCED, log entry 67.) -/
def State.copyArrive (s : State) (die : Nat) (u : UnitCopy) : State :=
  let n := u.slot
  let w := s.twin n
  if !s.instanceOn die n then s
  else
    let s := if (s.instances n).head? = some die then
        s.modBed u.bed (fun x =>
          { x with fifo := (if x.fifo.mark.isNone then x.fifo.setMark else x.fifo).readOn (unitBytes u) })
      else s
    if !u.crcOk then
      -- only the failed transfer is counted, and the port resends from its mark
      ((s.modTwin n (fun w => { w with resends := inc64 w.resends })).modBed u.bed (fun x =>
        { x with fifo := x.fifo.rewind })).logFault (0xF00 + 16 * bedDie u.bed + 3)
    else if u.retrial then s.vote u
    else if (die, u.bed) ∈ w.requested then s.modTwin n (fun w => { w with lateCopies := inc64 w.lateCopies })
    else if u.bed ∈ w.scion ∧ !w.retrial then s.scionCopy die u
    else if !decide (u.bed ∈ w.lead ++ w.partner) then s
    else if w.st = .holding then (if (s.instances n).getLast? = some die then s.portFree u [u.bed] else s)
    else if w.partner.isEmpty then (if w.isDecided die u then s else s.singleCopy die u)
    else s.memberCopy die u
/-- A tile's unit stays in its output FIFO until the members of the tiles to its left have closed their last unit of the
picture (R152). -/
def State.tileWaits (s : State) (u : UnitCopy) : Bool :=
  (((s.twin u.slot).sideOf u.bed).take u.tile).any (fun m =>
    let c := (s.bed m).closed
    !(decide (u.picture < c.1) || (decide (u.picture = c.1) && decide (s.rowsOfSlot u.slot ≤ c.2))))
/-- A release unit goes over the Trellis from its bed's die to a Sieve instance, with the flag that the bed's own self-checks
have set on it (R130), or is held while a link moves a lane (R19, R20). -/
def State.copyComes (s : State) (die : Nat) (u : UnitCopy) : State :=
  if s.tileWaits u then s
  else if s.linkHolds (bedDie u.bed) (8 + die) then s.hold (bedDie u.bed) (8 + die) (.copy die u)
  else
    let own := decide ((u.slot, u.picture, u.row, u.tile) ∈ (s.bed u.bed).flagged)
    let u := { u with flagged := u.flagged || own }
    (s.emit (.copy s.now die (unitHeader u))).copyArrive die u
/-- A hold window closes 12 µs after the first copy (R244): the arrived copy is released, and the prune of the late member
requested; a flagged one is a double fault. -/
def State.windowClose (s : State) (die n picture row tile : Nat) : State :=
  let w := s.twin n
  match w.open_.find? (fun o => decide ((o.die, o.copy.picture, o.copy.row, o.copy.tile) = (die, picture, row, tile))) with
  | none => s
  | some o =>
    if o.released || decide (s.now < o.t + 12000) || decide (o.copy.bed ∈ w.scion) || w.partner.isEmpty then s
    else if o.copy.flagged then s.doubleFault n
    else
      let other := if o.copy.bed ∈ w.lead then w.partner else w.lead
      let s := if s.firstDecision o.copy then s.countTwin n 3 else s
      ((s.closeUnit die o.copy).release_ die o.copy [o.copy.bed]).askPrune die n (other.headD 0)

/-! ## Choosing a spare (R245, R253) -/

/-- Rank of a spare that may be taken: IDLE, then OFF (or on its way from or to it), then SOIL_TEST; none when it may
not. -/
def State.spareRank (s : State) (b version : Nat) : Option Nat :=
  let x := s.bed b
  let d := bedDie b
  let v := if x.st = .idle ∨ x.st = .soilTest then x.patch.version else s.str.patch.version
  if !x.spare || !x.slots.isEmpty || x.owed || s.isPruned d (b % 36) || s.isPruned d 0xFF || s.isPruned 12 d ||
      decide ((s.power b).st = 4) || decide (v ≠ version) then none
  else match x.st with
    | .idle => some 0
    | .off | .waking | .sleeping => some 1
    | .soilTest => some 2
    | .running | .pruned => none
/-- The best of some beds: the lowest rank, then the lowest number. -/
def State.bestSpare (s : State) (version : Nat) (l : List Nat) : Option Nat :=
  (leastOf (l.filterMap (fun b => (s.spareRank b version).map (fun r => 512 * r + b)))).map (· % 512)
/-- A chosen bed joins a stream's work: a soil test on it is aborted, and it wakes when it is off. -/
def State.enlist (s : State) (b : Nat) (slots : List Nat) : State :=
  let s := s.soilAbort b
  slots.foldl (fun (s : State) m => s.assign b m) s
/-- The Shed chooses a retrial bed (R245): in a power domain that neither member uses where it can, else on a die that
neither uses. When the capsules differ, it is a double fault. -/
def State.retrialChoice (s : State) (n : Nat) (capsulesEqual : Bool) : State :=
  let w := s.twin n
  if w.contest.isNone || decide (w.st ≠ .contested) then s
  else if !capsulesEqual then s.doubleFault n
  else if !s.shedLive || !w.scion.isEmpty then s
  else
    let used := w.lead ++ w.partner
    let version := (s.bed (w.lead.headD 0)).patch.version
    let away := (List.range 288).filter (fun b => used.all (fun x => decide (bedDomain x ≠ bedDomain b)))
    let other := (List.range 288).filter (fun b => used.all (fun x => decide (bedDie x ≠ bedDie b)))
    match (s.bestSpare version away).orElse (fun _ => s.bestSpare version other) with
    | none => s
    | some b => (s.modTwin n (fun w => { w with scion := [b], retrial := true })).enlist b [n]
/-- No vote within three picture periods of the mismatch: the partner is pruned (R245). -/
def State.voteTimeout (s : State) (n : Nat) : State :=
  let w := s.twin n
  match w.contest with
  | none => s
  | some c => if s.now < c.t + 3 * s.slotPeriod n then s else s.pruneGang (w.partner.headD 0)

/-! ## Double faults and excuses (R246, R248) -/

/-- A new twin for a stream that has no member left: placed as at admission, on spares when nothing else is legal. -/
def State.placeAgain (s : State) (n : Nat) : State :=
  let clean := (s.ladder n).foldl (fun (s : State) m => s.modSlot m (fun x => { x with regions := [] })) s
  let open_ := (List.range 288).foldl (fun (s : State) b =>
    if (s.bed b).spare then s.modBed b (fun x => { x with spare := false }) else s) clean
  let take := fun (s : State) (lead partner : List Nat) =>
    let s := s.takeRegions n lead partner
    let s := (s.ladder n).foldl (fun (s : State) m => s.modTwin m (fun w => { w with lead := lead, partner := partner })) s
    (lead.zipIdx ++ partner.zipIdx).foldl (fun (s : State) e =>
      (s.modBed e.1 (fun x => { x with spare := false, gangPos := e.2,
                                       gangSize := if lead.length ≤ 1 then 0 else lead.length })).enlist e.1 (s.ladder n)) s
  match clean.place n with
  | (0, lead, partner) => take clean lead partner
  | _ => match open_.place n with
    | (0, lead, partner) => take clean lead partner
    | _ => s
/-- The members that are left restart with a start picture (R246); when none is left, a new twin is placed first. -/
def State.restart (s : State) (n : Nat) : State :=
  let x := s.slot n
  let w := s.twin n
  if x.st ≠ 5 ∨ x.role = 2 ∨ s.now < w.restartAt then s
  else if w.lead.isEmpty then (if s.shedLive then s.placeAgain n else s)
  else if !(w.lead ++ w.partner).all (fun b => decide ((s.bed b).st = .running)) then s
  else
    (s.ladder n).foldl (fun (s : State) m =>
      let s := if (s.slot m).kind = 2 ∧ !(s.slot m).dec.noSync then s.raiseSlot m else s
      let s := s.modSlot m (fun x =>
        { x with st := 3, startNext := true, deferred := false,
                 dec := { x.dec with noSync := true, params := false, au := none, rows := [], shows := [] } })
      let whole := !(s.twin m).partner.isEmpty
      let s := s.modTwin m (fun w =>
        { w with holdPicture := none, pruneReq := none, contestAt := none, exposed := w.exposed && !whole,
                 exposedSince := if whole then 0 else w.exposedSince, exposureOver := w.exposureOver && !whole })
      (s.setTwin m (if whole then .whole else .single)).judge m) s
/-- An excused member that is more than 2 ms behind is pruned (R248). -/
def State.excuseTimeout (s : State) (n : Nat) : State :=
  let w := s.twin n
  match w.excused with
  | none => s
  | some b => if s.now ≤ w.excusedAt + 2000000 then s else s.pruneGang b

/-! ## Grafts (R253 to R259) -/

/-- Sides that a scion may be, each with the worst rank of its beds: one bed, or a whole gang of a die. -/
def State.scionSides (s : State) (n g version bytes : Nat) : List (Nat × List Nat) :=
  let w := s.twin n
  let dom := bedDomain (w.lead.headD 0)
  let room := fun d => (s.freeRun d (up2M bytes)).isSome
  (List.range 8).flatMap (fun d =>
    if d / 2 = dom ∨ !room d then []
    else
      let beds := (List.range 36).filterMap (fun j => (s.spareRank (36 * d + j) version).map (fun r => (r, 36 * d + j)))
      let byRank := (List.range 3).flatMap (fun r => beds.filter (fun x => decide (x.1 = r)))
      if g ≤ 1 then beds.map (fun x => (x.1, [x.2]))
      else
        let t := byRank.take g
        if t.length < g then []
        else [(t.foldl (fun m x => Nat.max m x.1) 0, t.foldl (fun l x => insertNat x.2 l) [])])
/-- The best side: the lowest rank, then the lowest number. -/
def bestSide (l : List (Nat × List Nat)) : Option (List Nat) :=
  match l with
  | [] => none
  | x :: r => some (r.foldl (fun (b : Nat × List Nat) y =>
      if 512 * y.1 + y.2.headD 0 < 512 * b.1 + b.2.headD 0 then y else b) x).2
/-- A transplant starts once every bed of a scion runs (R254): REF pots are HELD, and it takes the region's bytes at
100 GB/s for each bed of the scion. -/
def State.startGraft (s : State) (n : Nat) : State :=
  let w := s.twin n
  if w.st ≠ .single || w.retrial || w.scion.isEmpty || !w.scion.all (fun b => decide ((s.bed b).st = .running)) then s
  else
    (s.ladder n).foldl (fun (s : State) m =>
      let s := s.modSlot m (fun x =>
        { x with pots := x.pots.map (fun p => if p.mark = .ref then { p with mark := .held } else p) })
      let s := s.modTwin m (fun w => { w with transplantAt := s.now + ceilDiv (s.regionBytes n) (100 * Nat.max 1 (s.gangSize n)), cuttingAt := 0 })
      s.setTwin m .grafting) s
/-- Transplants that wait for a bed's wake start (Table 09.8). -/
def State.startGrafts (s : State) (b : Nat) : State :=
  (s.bed b).slots.foldl (fun (s : State) n => if (s.slot n).role = 2 then s else s.startGraft n) s
/-- The Shed chooses a scion for a stream on one member (R253), while failed probations are fewer than GRAFT_TRIES. -/
def State.chooseScion (s : State) (n : Nat) : State :=
  let w := s.twin n
  let x := s.slot n
  if !s.shedLive || decide (w.st ≠ .single) || decide (x.role = 2) || !w.scion.isEmpty || w.lead.isEmpty ||
      decide (s.cfgN 0x24 0x2000 0x03 ≤ w.tries) then s
  else
    let sides := s.scionSides n (Nat.max 1 (s.gangSize n)) (s.bed (w.lead.headD 0)).patch.version (s.regionBytes n)
    let away := sides.filter (fun y => decide (some (bedDie (y.2.headD 0)) ≠ w.lostDie))
    match bestSide (if away.isEmpty then sides else away) with
    | none => s
    | some side =>
      let d := bedDie (side.headD 0)
      let s := match s.freeRun d (up2M (s.regionBytes n)) with
        | none => s
        | some base => (s.modSlot n (fun x => { x with regions := x.regions ++ [(d, base, up2M (s.regionBytes n))] })).refence n
      let s := (s.ladder n).foldl (fun (s : State) m =>
        s.modTwin m (fun w => { w with scion := side, retrial := false, cuttingAt := 0, transplantAt := 0,
                                       probation := none, probationBad := false })) s
      let s := side.zipIdx.foldl (fun (s : State) e =>
        (s.modBed e.1 (fun b => { b with spare := false, gangPos := e.2,
                                         gangSize := if side.length ≤ 1 then 0 else side.length })).enlist e.1
          (s.ladder n)) s
      (s.startGraft n).keepWarm
/-- Every exposed stream is grafted, in slot order (R30, R253). -/
def State.graftAll (s : State) : State := s.str.twins.foldl (fun (s : State) e => s.chooseScion e.1) s
/-- HELD pots act as REF again once the copy is over. -/
def State.unhold (s : State) (n : Nat) : State :=
  s.modSlot n (fun x => { x with pots := x.pots.map (fun p => if p.mark = .held then { p with mark := .ref } else p) })
/-- A scion is returned through unit reset and soil test (Table 14.2, R257). -/
def State.returnScion (s : State) (n : Nat) : State :=
  let side := (s.twin n).scion
  let all := s.ladder n
  let s := all.foldl (fun (s : State) m =>
    let s := side.foldl (fun (s : State) b => s.unassign b m) s
    let s := s.modTwin m (fun w => { w with scion := [], probation := none, cuttingAt := 0, transplantAt := 0,
                                            transplanted := none, loaded := none,
                                            open_ := w.open_.filter (fun o => !o.released && !decide (o.copy.bed ∈ side)) })
    ((s.unhold m).keepRegions m ((s.twin m).lead ++ (s.twin m).partner)).setTwin m .single) s
  side.foldl (fun (s : State) b => s.bedBack b) s
/-- A transplant ends: the cutting boundary is the first at least 1 ms later (R255). An uncorrectable read abandons the
graft (Table 14.2). -/
def State.transplantEnd (s : State) (n : Nat) (bad : Bool) : State :=
  let w := s.twin n
  if w.st ≠ .grafting || decide ((s.slot n).role = 2) || decide (w.cuttingAt ≠ 0) then s
  else if bad then (s.returnScion n).logFault (256 * bedDie (w.scion.headD 0) + 0x80)
  else if s.now < w.transplantAt then s
  else
    let b := s.nextBoundary n
    (s.ladder n).foldl (fun (s : State) m =>
      let x := s.slot m
      s.modTwin m (fun w => { w with cuttingAt := b, transplanted := some (x.pots, x.analysis.pot) })) s
/-- At the cutting boundary the survivor sends its cutting, and the scion starts its probation picture (R255). -/
def State.cuttingBoundary (s : State) (n : Nat) : State :=
  let w := s.twin n
  if w.st ≠ .grafting || decide ((s.slot n).role = 2) || decide (w.cuttingAt = 0) || decide (s.now < w.cuttingAt) then s
  else
    (s.ladder n).foldl (fun (s : State) m =>
      let x := s.slot m
      let no := ((x.pics.find? (fun p => decide (p.instant = w.cuttingAt))).map (·.no)).getD x.codedNo
      ((s.unhold m).modTwin m (fun w =>
        { w with probation := some no, probationBad := false,
                 loaded := some (s.cutting (w.lead.headD 0) m w.cuttingAt) })).setTwin m .probation) s
/-- A unit of the probation picture has no match at some instance. -/
def Twin.unmatched (w : Twin) : Bool := w.open_.any (fun o => decide (w.probation = some o.copy.picture))
/-- The boundary after the probation picture (R257): the twin is WHOLE, or the scion is returned; after GRAFT_TRIES
failures in a row a log-class fault is reported against the survivor. -/
def State.probationEnd (s : State) (n : Nat) : State :=
  let w := s.twin n
  if w.st ≠ .probation || decide ((s.slot n).role = 2) then s
  else if (s.ladder n).all (fun m => !(s.twin m).probationBad && !(s.twin m).unmatched) then
    (s.ladder n).foldl (fun (s : State) m =>
      let s := (s.countTwin m 1).modTwin m (fun w =>
        { w with partner := w.scion, scion := [], probation := none, cuttingAt := 0, transplantAt := 0, tries := 0,
                 transplanted := none, loaded := none,
                 exposed := false, exposedSince := 0, exposureOver := false, lostDie := none })
      (s.setTwin m .whole).judge m) s
  else
    let s := (s.ladder n).foldl (fun (s : State) m =>
      (s.countTwin m 2).modTwin m (fun w => { w with tries := w.tries + 1 })) s
    let s := s.returnScion n
    let b := w.lead.headD 0
    if s.cfgN 0x24 0x2000 0x03 ≤ (s.twin n).tries then s.recordRaise (256 * bedDie b + b % 36) else s
/-- An exposure outlasts three picture periods (R259). -/
def State.exposureLimit (s : State) (n : Nat) : State :=
  let w := s.twin n
  if !w.exposed || w.exposureOver || decide (s.now < w.exposedSince + 3 * s.slotPeriod n) then s
  else (s.modTwin n (fun w => { w with exposureOver := true })).judge n

/-! ## Cuttings (R242) -/

/-- The Shed compares the cuttings of a boundary: a difference of a section that is not live is counted, one of a live
section contests the stream at the first row of the picture begun next. (DEDUCED, log entry 67.) -/
def State.cuttingCompare (s : State) (n : Nat) (live other : Bool) : State :=
  let w := s.twin n
  let x := s.slot n
  let k := s.cfgN 0x24 0x2000 0x04
  let due := if x.kind = 2 then decide (x.pictures % 64 = 0) else decide (k ≠ 0) && decide (k ≤ w.phase0s)
  if !s.shedLive || !due || w.partner.isEmpty then s
  else
    let s := s.modTwin n (fun w => { w with phase0s := 0 })
    let s := if other then s.countTwin n 6 else s
    if live then s.modTwin n (fun w => { w with contestAt := some x.pictures }) else s

/-! ## The common mark (R235) -/

/-- A bed acknowledges a line of its feed: the common mark is the last line that every member has acknowledged, and the
standby instance learns it, then every member, which may use its lines up to the mark. -/
def State.lineAck (s : State) (n b line : Nat) : State :=
  let f := s.feed n
  let beds := s.members n
  if !decide (b ∈ beds) || decide (f.line ≤ line) then s
  else
    let acks := (b, Nat.max (line + 1) (((f.acks.find? (fun a => decide (a.1 = b))).map (·.2)).getD 0)) ::
      f.acks.filter (fun a => !decide (a.1 = b))
    let mark := (leastOf (beds.map (fun m => ((acks.find? (fun a => decide (a.1 = m))).map (·.2)).getD 0))).getD 0
    let mark := Nat.max f.mark mark
    let s := s.modFeed n (fun f => { f with acks := acks, mark := mark, standbyMark := mark })
    beds.foldl (fun (s : State) m => s.modBed m (fun x =>
      { x with strips := x.strips.map (fun l =>
        if l.slot = n ∧ l.picture = f.picture ∧ l.line < mark then { l with usable := true } else l) })) s

/-! ## PEER and STANDBY (R234, R265) -/

/-- A channel may be another's PEER (R234). (DEDUCED, log entry 68.) -/
def State.peerFits (s : State) (c p : Nat) : Bool :=
  let same := fun mem => decide (s.cfg 0x20 c mem = s.cfg 0x20 p mem)
  decide (p < 2048) && decide (intakeDie p ≠ intakeDie c) && decide (s.intakeOwner p = s.intakeOwner c) && same 0x03 &&
    same 0x05 && same 0x08 && same 0x0A && decide (s.crop c = s.crop p) && decide (s.conditioned c = s.conditioned p) &&
    s.str.slots.all (fun e =>
      !(decide (e.2.kind = 1) && decide (2 ≤ e.2.st) && s.protects e.1 && decide ((s.feed e.1).source = some c)) ||
        decide ((s.intake p).arrivalOffset ≤ s.align e.1))
/-- PEER entries that no longer meet R234 are cleared and counted. -/
def State.sweepPeers (s : State) : State :=
  s.alm.store.foldl (fun (s : State) e =>
    let inst := e.1 / 256 % 65536
    let c := inst - 0x3000
    if e.1 / 16777216 = 0x24 ∧ e.1 % 256 = 0x01 ∧ 0x3000 ≤ inst ∧ !s.peerFits c (leNat e.2) then
      let s := s.setCfgN 0x24 inst 0x01 2 0xFFFF
      { s with str := { s.str with peerClears := inc64 s.str.peerClears } }
    else s) s

end Sys2Proof.Machine
end

