-- ==== Sys2Proof/Machine/Decoding.lean ====
section
/-! DEFINITION. Decode streams (08): the compressed intake and its access units, what the units of a decode bed report,
the outtake's rows, and the dispatch of every bed report. -/

namespace Sys2Proof.Machine

/-! ## Access units (R211, R212, R224) -/

/-- The decode stream that a channel feeds: the lowest admitted one whose bitstream comes from it. (DEDUCED, log entry 69.) -/
def State.decodeOf (s : State) (c : Nat) : Option Nat :=
  (s.str.slots.find? (fun e => decide (e.2.kind = 2) && decide (2 ≤ e.2.st) && decide (s.bitsFrom e.1 = c))).map (·.1)
/-- Count in E 23.ssss.38 + `i`. -/
def State.countDec (s : State) (n i k : Nat) : State :=
  s.modSlot n (fun x => { x with dec := { x.dec with counts := bumpAt x.dec.counts i k } })
/-- Start S of output slot `k` (R224). -/
def State.slotStart (s : State) (n k : Nat) : Nat := gridAt (s.slotRate n) k + s.cfgN 0x23 n 0x10
/-- The first output slot whose start is at or after `t`. -/
def State.slotFrom (s : State) (n t : Nat) : Nat :=
  let r := s.slotRate n
  let k := (t - s.cfgN 0x23 n 0x10) * r.1 / (r.2 * 1000000000)
  if t ≤ s.slotStart n k then k else if t ≤ s.slotStart n (k + 1) then k + 1 else k + 2
/-- A chunk of a bitstream goes over the Trellis to a bed, and waits at its port (R27), or is held while a link moves a lane
(R20). -/
def State.sendChunk (s : State) (die n b label : Nat) : State :=
  if s.linkHolds (8 + die) (bedDie b) then s.hold (8 + die) (bedDie b) (.chunk die n b label)
  else s.modBed b (fun x => { x with chunks := x.chunks ++ [(n, label)] })
/-- Data enters the bitstream of a channel, and goes to every bed of its stream. -/
def State.intoBits (s : State) (c label : Nat) : State :=
  let s := s.modIntake c (fun i => { i with bits := i.bits ++ [label] })
  match s.decodeOf c with
  | none => s
  | some n => (s.members n).foldl (fun (s : State) b => s.sendChunk (intakeDie c) n b label) s
/-- A loss marker goes into the bitstream (R212). -/
def State.lossMarker (s : State) (c : Nat) : State := s.intoBits c 0
/-- The open AU ends. -/
def State.endAu (s : State) (c : Nat) : State :=
  s.modIntake c (fun i => { i with endedTs := i.openTs, openTs := none, auSlot := none, pictures := i.pictures + 1 })
/-- An AU opens with its first packet: it gets its slot, or is tagged decode only (R224), and its arrival is measured. -/
def State.openAu (s : State) (c n at_ : Nat) (ts : BitVec 32) : State :=
  let r := s.slotRate n
  let a := s.slotFrom n at_
  let i := s.intake c
  let slot := match i.lastSlot with
    | some l => if a + 1 ≤ l then none else some (Nat.max a (l + 1))
    | none => some a
  let s := s.countDec n 0 1
  let s := if slot.isNone then s.countDec n 2 1 else s
  let g := gridAt r (at_ * r.1 / (r.2 * 1000000000))
  let off := if at_ < g then at_ + periodNs r - g else at_ - g
  s.modIntake c (fun i =>
    { i with openTs := some ts, openSince := at_, auSlot := slot, lastSlot := if slot.isSome then slot else i.lastSlot,
             tags := match slot with
               | some k => k :: i.tags.take 63
               | none => i.tags,
             offsets := off :: i.offsets.take 63 })
/-- An AU takes data: the one in progress, or one that opens now; a loss marker goes before it where something is missing. -/
def State.auData (s : State) (c n at_ : Nat) (ts : BitVec 32) (starts lost : Bool) (label : Nat) : State :=
  let s := if (s.intake c).openTs.isSome ∧ starts then s.endAu c else s
  let s := if (s.intake c).openTs.isNone then s.openAu c n at_ ts else s
  let s := if lost then s.lossMarker c else s
  s.intoBits c label
/-- A packet of the RTP wrappers (R210 to R212): single NAL unit packets, aggregation packets and fragmentation units. A PACI
packet of HEVC is discarded and counted; a packet with a DONL is taken when DONL_ZERO is set. -/
def State.auRtp (s : State) (c n at_ : Nat) (p : IntakePkt) : State :=
  let i := s.intake c
  let old := i.endedTs.any (fun e => !newer32 p.ts.toNat e.toNat) || i.openTs.any (fun o => newer32 o.toNat p.ts.toNat)
  if p.form = .paci ∧ s.cfgN 0x23 n 0x05 = 0 then s.countDec n 9 1
  else if p.form = .paci ∨ p.form = .ts ∨ (p.donl ∧ s.cfgN 0x23 n 0x0C = 0) then s
  else if old then s.countDec n 8 1
  else
    let s := s.auData c n at_ p.ts (decide (i.openTs ≠ some p.ts)) p.fragGap p.label
    if p.marker then s.endAu c else s
/-- Stream type of a codec in a PMT (Table 08.2). -/
def streamType (codec : Nat) : Nat := [0x24, 0x33, 0x1B].getD codec 0
/-- The PID that video comes from: VIDEO_PID, or the one that a PMT has given (Table 08.2). -/
def State.videoPid (s : State) (c n : Nat) : Option Nat :=
  let v := s.cfgN 0x23 n 0x0B
  if v = 0 then (s.intake c).pmtPid else some v
/-- A TS packet (R210 to R212): scrambled ones are discarded and counted, a PMT names the video PID by its first entry that matches
CODEC, and all but the video PID is discarded. -/
def State.auTs (s : State) (c n at_ : Nat) (ts : BitVec 32) (t : TsPkt) : State :=
  if t.scrambled then s.countDec n 9 1
  else
    let found := t.pmt.bind (fun l => l.find? (fun e => decide (e.1 = streamType (s.cfgN 0x23 n 0x05))))
    let s := match found with
      | some e => s.modIntake c (fun i => { i with pmtPid := some e.2 })
      | none => s
    let i := s.intake c
    if s.videoPid c n ≠ some t.pid then s
    else if i.openTs.isNone && !t.pes then (if i.endedTs.isSome then s.countDec n 8 1 else s)
    else s.auData c n at_ ts t.pes t.ccJump t.label
/-- One packet enters the bitstream, in order (R210 to R212). One that the wrapper does not take, or whose payload type is not
PT, is left out (DESIGN CHOICE, log entry 131). -/
def State.auPacket (s : State) (c at_ : Nat) (p : IntakePkt) : State :=
  match s.decodeOf c with
  | none => s
  | some n =>
    if p.pt ≠ s.cfgN 0x23 n 0x0F then s
    else if s.cfgN 0x23 n 0x0A ≠ 2 then s.auRtp c n at_ p
    else if p.form ≠ .ts ∨ p.ts188.isEmpty ∨ 7 < p.ts188.length then s
    else
      let s := p.ts188.foldl (fun (s : State) t => s.auTs c n at_ p.ts t) s
      if p.marker && (s.intake c).openTs.isSome then s.endAu c else s
/-- Insert a packet by ESN. -/
def insertPkt (x : Nat × IntakePkt) : List (Nat × IntakePkt) → List (Nat × IntakePkt)
  | [] => [x]
  | y :: r => if newer32 y.2.esn x.2.esn then x :: y :: r else y :: insertPkt x r
/-- Packets before the merge's gap, if there is one, enter the bitstream. -/
def State.drainAu (s : State) (c : Nat) : State :=
  let i := s.intake c
  let ready := fun (x : Nat × IntakePkt) => !i.gapFrom.any (fun m => newer32 x.2.esn m)
  let s := s.modIntake c (fun i => { i with waiting := i.waiting.filter (fun x => !ready x) })
  (i.waiting.filter ready).foldl (fun (s : State) x => s.auPacket c x.1 x.2) s
/-- A compressed packet, first copy of its ESN, reaches its channel. -/
def State.compressedPacket (s : State) (c : Nat) (p : IntakePkt) : State :=
  (s.modIntake c (fun i => { i with waiting := insertPkt (s.now, p) i.waiting })).drainAu c
/-- MERGE_WAIT has run out on a gap (R100, R212). -/
def State.gapClosed (s : State) (c : Nat) : State :=
  if s.cfgN 0x20 c 0x02 ≠ 2 then
    let was := s.lineReady c 0
    ((s.releaseLines c).modIntake c Intake.closeGap).measureOffset c was
  else ((s.modIntake c Intake.closeGap).lossMarker c).drainAu c
/-- The slot that the open AU was given ends (R211, R212). -/
def State.auSlotEnd (s : State) (c : Nat) : State :=
  match s.decodeOf c, (s.intake c).openTs, (s.intake c).auSlot with
  | some n, some _, some k => if s.now < s.slotStart n (k + 1) then s else (s.lossMarker c).endAu c
  | _, _, _ => s

/-! ## Audio and ancillary data (R175) -/

/-- Instant of an audio sample on the 48 kHz RTP clock. -/
def audioInstant (now : Nat) (ts : BitVec 32) : Nat :=
  let n := now * 6 / 125000
  let d := toSigned 32 ((ts - BitVec.ofNat 32 n).toNat)
  (((n : Int) + d) * 125000 / 6).toNat
/-- Place of a UDP port in AUDIO_MAP or ANC_MAP, whose records have `size` bytes. -/
def mapPlace (b : List Byte) (size port : Nat) : Option Nat :=
  (List.range (b.length / size)).find? (fun k => decide (fieldAt b (size * k) 2 = port))
/-- What an intake channel has attached goes over the Trellis to a bed (R175), or is held while a link moves a lane (R20). -/
def State.sendEssence (s : State) (die n b instant label : Nat) : State :=
  if s.linkHolds (8 + die) (bedDie b) then s.hold (8 + die) (bedDie b) (.essence die n b instant label)
  else s.emit (.essence s.now n b instant label)
/-- An audio or ANC packet, or a part of it, is attached to the picture slot of a sampling instant, and goes to every bed. -/
def State.attached (s : State) (c n instant label : Nat) : State :=
  (s.members (s.anchorOf n)).foldl (fun (s : State) b => s.sendEssence (intakeDie c) n b instant label)
    (s.modIntake c (fun i => { i with attached := inc64 i.attached }))
/-- An ANC packet of the `k`th flow of ANC_MAP (R175, R176): in the RTP wrappers only captions and AFD are carried, and others are
dropped and counted; one that comes after the feed has read its picture's last line is late. -/
def State.attachAnc (s : State) (c n k : Nat) (p : IntakePkt) : State :=
  let f := s.feed (s.anchorOf n)
  let t := gridNear (s.slotRate n) (instantOf s.now p.ts)
  if s.cfgN 0x21 n 0x16 ≠ 2 ∧ !isCaption p.did p.sdid ∧ !isAfd p.did p.sdid then s.countSlot n 5 1
  else if t < f.picture ∨ (t = f.picture ∧ (s.conditioned c).2 ≤ f.line) then s.countSlot n 6 1
  else
    let a : AncPkt := { instant := t, flags := fieldAt (s.cfg 0x21 n 0x1E) (3 * k + 2) 1, did := p.did, sdid := p.sdid, label := p.label }
    (s.modSlot n (fun x => { x with anc := x.anc ++ [a] })).attached c n t p.label
/-- The sampling instant of the picture slot that a time lies in. -/
def slotAt (rate : Nat × Nat) (t : Nat) : Nat :=
  let k := t * rate.1 / (rate.2 * 1000000000)
  if gridAt rate (k + 1) ≤ t then gridAt rate (k + 1) else gridAt rate k
/-- Samples of a packet that lie in one picture slot: from the first of them on, its slot, and how many. -/
def slotRun (rate : Nat × Nat) (now : Nat) (ts : BitVec 32) : List Nat → List (Nat × Nat × Nat)
  | [] => []
  | j :: r =>
    let at_ := slotAt rate (audioInstant now (ts + BitVec.ofNat 32 j))
    match slotRun rate now ts r with
    | [] => [(at_, j, 1)]
    | (b, i, k) :: l => if b = at_ then (at_, j, k + 1) :: l else (at_, j, 1) :: (b, i, k) :: l
/-- Samples of a packet of 48 kHz PCM (R177): 1 ms or 125 µs, at 1 to 8 channels of 16 or 24 bits. -/
def audioSamples (channels bits octets : Nat) : Option Nat :=
  if channels = 0 ∨ 8 < channels ∨ (bits ≠ 16 ∧ bits ≠ 24) then none
  else [48, 6].find? (fun k => decide (octets = k * channels * (bits / 8)))
/-- A packet of the `k`th flow of AUDIO_MAP (R175, R177): each sample is attached to its picture slot, or dropped and counted as
late when that slot has been coded. Audio is carried in the transport stream wrapper alone. -/
def State.attachAudio (s : State) (c n k : Nat) (p : IntakePkt) : State :=
  let b := s.cfg 0x21 n 0x1D
  match (if s.cfgN 0x21 n 0x16 = 2 then audioSamples (fieldAt b (6 * k + 2) 1) (fieldAt b (6 * k + 3) 1) p.octets else none) with
  | none => s
  | some count =>
    (slotRun (s.slotRate n) s.now p.ts (List.range count)).foldl (fun (s : State) e =>
      let coded := (s.slot n).pics.any (fun q => decide (q.no < (s.slot n).codedNo) && decide (e.1 ≤ q.instant))
      if coded then s.countSlot n 6 e.2.2
      else
        let a : AudioPkt := { slot := e.1, flow := k, label := p.label, first := e.2.1, count := e.2.2,
                              instant := audioInstant s.now (p.ts + BitVec.ofNat 32 e.2.1) }
        (s.modSlot n (fun x => { x with audio := x.audio ++ [a] })).attached c n e.1 p.label) s
/-- An audio or ANC packet of a stream's current channel: the map that lists its port attaches it (R175). -/
def State.attachTo (s : State) (c n : Nat) (p : IntakePkt) : State :=
  if p.essence = .anc then
    match mapPlace (s.cfg 0x21 n 0x1E) 3 p.udpPort with
    | some k => s.attachAnc c n k p
    | none => s
  else match mapPlace (s.cfg 0x21 n 0x1D) 6 p.udpPort with
    | some k => s.attachAudio c n k p
    | none => s
/-- An audio or ANC packet reaches each stream whose map lists its port, by its feed's current channel (R175). -/
def State.attach (s : State) (c : Nat) (p : IntakePkt) : State :=
  let mine := s.str.slots.filter (fun e =>
    decide (e.2.kind = 1) && decide (2 ≤ e.2.st) && decide ((s.feed (s.anchorOf e.1)).source = some c))
  mine.foldl (fun (s : State) e => s.attachTo c e.1 p) s

/-- A raster channel takes a packet: its format is one of Table 04.1, and the packet has at most three sample row data headers
(R98). A packet it does not take is left out of the merge (DESIGN CHOICE, log entry 119). -/
def State.rasterTakes (s : State) (c : Nat) (p : IntakePkt) : Bool := takesFormat (s.intakeFmt c) && decide (p.segs.length ≤ 3)
/-- A packet reaches an intake channel (R99 to R102, R175, R211). Its cells are freed once it has been taken. -/
def State.intakeTakes (s : State) (c leg chain : Nat) (p : IntakePkt) : State :=
  let mode := s.cfgN 0x20 c 0x02
  let s := if mode = 0 ∨ s.diePruned (intakeDie c) then s
    else if p.essence ≠ .video then s.attach c p
    else if mode = 1 && !s.rasterTakes c p then s
    else
      let s := s.legSeen c leg
      match s.judgePacket c p with
      | 1 => s.countIntake c 0 1
      | 2 => s.countIntake c 1 1
      | _ =>
        let s := s.modIntake c (fun i => i.accept p s.now)
        if mode = 1 then s.rasterPacket c p else s.compressedPacket c p
  s.dropRef chain
/-- The picture of a raster channel has lasted its time (R102). -/
def State.pictureTimeout (s : State) (c : Nat) : State :=
  let i := s.intake c
  if s.cfgN 0x20 c 0x02 ≠ 1 ∨ i.openTs.isNone ∨
      s.now < i.openSince + periodNs (rateOf (s.intakeFmt c).rate) + s.mergeWait c then s
  else s.endPicture c
/-- No packet of the picture has come whose time is over: the one at the last grid instant a picture period and MERGE_WAIT
ago (R104). (DEDUCED, log entry 91.) -/
def State.missingPicture (s : State) (c : Nat) : State :=
  let r := rateOf (s.intakeFmt c).rate
  let due := s.now - periodNs r - s.mergeWait c
  let expected := gridAt r (due * r.1 / (r.2 * 1000000000))
  let i := s.intake c
  let seen := fun (o : Option (BitVec 32)) => o.any (fun ts => decide (gridNear r (instantOf s.now ts) = expected))
  if s.cfgN 0x20 c 0x02 ≠ 1 ∨ seen i.openTs ∨ seen i.endedTs ∨ i.missedAt = some expected then s
  else
    let s := (s.countIntake c 5 1).modIntake c (fun i => { i with missing := true, missedAt := some expected })
    let s := if i.openTs.isNone then s.applyIntake c else s
    s.str.feeds.foldl (fun (s : State) e =>
      if e.2.source = some c ∨ e.2.reading = some c then s.repeatPicture e.1 expected else s) s

/-! ## What a decode bed's units report (R208, R214 to R225) -/

def State.modDec (s : State) (n : Nat) (f : Dec → Dec) : State := s.modSlot n (fun x => { x with dec := f x.dec })
/-- Change NO_SYNC, CLEAN or FORMAT_MISMATCH; a change raises the slot's source (R230). -/
def State.setSync (s : State) (n : Nat) (v : Bool) : State :=
  if (s.slot n).dec.noSync = v then s else (s.modDec n (fun d => { d with noSync := v })).raiseSlot n
def State.setClean (s : State) (n : Nat) (v : Bool) : State :=
  if (s.slot n).dec.clean = v then s else (s.modDec n (fun d => { d with clean := v })).raiseSlot n
def State.setMismatch (s : State) (n : Nat) (v : Bool) : State :=
  if (s.slot n).dec.mismatch = v then s else (s.modDec n (fun d => { d with mismatch := v })).raiseSlot n

/-- An SPS signals nothing outside FORMAT, DPB_PICS and LEVEL (R222), nor a profile above PROFILE (DESIGN CHOICE, log
entry 131). -/
def State.spsFits (s : State) (n : Nat) (q : Sps) : Bool :=
  let f := s.decodeFmt n
  decide ((q.w, q.h, q.sampling, q.depth, q.scan) = (f.w, f.h, f.sampling, f.depth, f.scan)) &&
    decide (q.dpb ≤ s.cfgN 0x23 n 0x0D) && decide (q.level ≤ s.cfgN 0x23 n 0x07) && decide (q.profile ≤ s.cfgN 0x23 n 0x06)
/-- An SPS becomes active (R221, R222, R225): until the stream has synchronised it proposes the mode and the delay. An H.264
macroblock is a CTU of 16 (R208). -/
def State.newSps (s : State) (n : Nat) (q : Sps) : State :=
  let ctu := if s.cfgN 0x23 n 0x05 = 2 then 16 else q.ctu
  let fits := s.spsFits n q
  let delay := match q.reorder with
    | some 0 => 0
    | some r => r + 1
    | none => s.cfgN 0x23 n 0x0D + 1
  s.modDec n (fun d =>
    if d.modeSet then { d with params := true, ctu := ctu, fits := fits && decide (delay ≤ d.delay) }
    else { d with params := true, ctu := ctu, fits := fits, mode := if delay = 0 then 0 else 1, delay := delay })
/-- The picture that the bed is decoding takes a pot (R223). -/
def openPot (l : List Pot) (size no poc : Nat) (hidden : Bool) : List Pot :=
  let l := if l.isEmpty then newPots size else l
  let l := if l.any (fun p => p.mark = .current) then l else takeCurrent l
  l.map (fun p => if p.mark = .current then { p with poc := poc, age := no + 1, taint := [], hidden := hidden } else p)
/-- An AU starts decoding (R221). -/
def State.auStart (s : State) (n : Nat) (tag : Option Nat) (poc : Nat) (sync : Bool) : State :=
  let d := (s.slot n).dec
  if d.noSync && !(sync && d.params) then s.modDec n (fun d => { d with au := none })
  else
    let s := s.setSync n false
    (s.modSlot n (fun x =>
      let no := x.codedNo
      let shows := match tag with
        | some k => if x.dec.mode = 0 then (k, no, x.dec.fits) :: x.dec.shows.take 63 else x.dec.shows
        | none => x.dec.shows
      { x with pots := openPot x.pots (s.potCount n) no poc tag.isNone, content := s.fresh,
               dec := { x.dec with modeSet := true, au := some (tag, poc), picTicks := 0, ctuTicks := 0, ctuNo := 0,
                                   overBudget := false, concealTo := 0, shows := shows,
                                   rows := x.dec.rows.filter (fun r => decide (no < r.1 + 64)) } })).refresh
/-- Taint CTUs of the picture being decoded. -/
def taintCurrent (l : List Pot) (ctus : List Nat) : List Pot :=
  l.map (fun p => if p.mark = .current then { p with taint := ctus.foldl (fun t c => insertNat c t) p.taint } else p)
/-- Work is charged to the CTU being decoded (R214): over its cap, condition 18 is raised. -/
def State.charge (s : State) (n ticks : Nat) : State :=
  let s := s.modDec n (fun d => { d with picTicks := d.picTicks + ticks, ctuTicks := d.ctuTicks + ticks })
  let d := (s.slot n).dec
  if 16 * d.ctu * d.ctu / 5 < d.ctuTicks then s.budgetHit n else s
/-- The newest pot that holds a picture decoded or concealed in the stream (R218). -/
def newestPot (l : List Pot) : Option Pot :=
  (l.filter (fun p => decide (p.mark = .ref) || decide (p.mark = .held))).foldl (fun (b : Option Pot) p => match b with
    | none => some p
    | some q => if q.age < p.age then some p else b) none
/-- CTUs of the picture being decoded are concealed (R218): each has the samples of the newest pot's co-located CTU, or black. -/
def concealFills (l : List Pot) (ctus : List Nat) : List Pot :=
  ctus.foldl (fun l i => fillCurrent l i (((newestPot l).map (fun p => tget (fun _ => 0) p.fills i)).getD 1)) l
/-- CTUs are concealed (R217, R218, R220): copied, tainted, counted, and charged as Table 08.3 sets. -/
def State.conceal (s : State) (n first last : Nat) : State :=
  let k := last + 1 - first
  let s := (s.countDec n 3 k).countDec n 4 k
  s.modSlot n (fun x =>
    { x with pots := concealFills (taintCurrent x.pots ((List.range k).map (fun j => first + j)))
               ((List.range k).map (fun j => first + j)),
             dec := { x.dec with picTicks := x.dec.picTicks + k * (x.dec.ctu * x.dec.ctu / 16), ctuTicks := 0,
                                 ctuNo := last + 1, concealTo := last + 1, overBudget := false } })
/-- A CTU has been decoded (R220). -/
def State.ctuDecoded (s : State) (n ctu : Nat) (tainted : Bool) : State :=
  let s := s.modDec n (fun d => { d with ctuNo := ctu + 1, ctuTicks := 0, overBudget := false })
  let s := s.modSlot n (fun x => { x with pots := fillCurrent x.pots ctu (x.content + 2) })
  if tainted then (s.countDec n 4 1).modSlot n (fun x => { x with pots := taintCurrent x.pots [ctu] }) else s
/-- A reference picture is absent (R219): an alias of the newest pot stands for it. -/
def State.missingRef (s : State) (n poc : Nat) : State :=
  let s := s.countDec n 6 1
  s.modSlot n (fun x =>
    let newest := (refsOf x.pots).getLast?
    let t := match newest with
      | some p => if p.mark = .named then p.target else p.pot
      | none => 0
    { x with pots := x.pots ++ [{ pot := x.pots.length, mark := .named, poc := poc, target := t,
                                  age := (newest.map (·.age)).getD 0, hidden := true }] })
/-- The AU in progress is decoded (R223, R225): the pictures that the DPB keeps are marked REF, and the picture that it
releases takes its output slot. -/
def State.auDecoded (s : State) (n : Nat) (shows : Option Nat) (references : List Nat) : State :=
  match (s.slot n).dec.au with
  | none => s
  | some (tag, _) =>
    s.modSlot n (fun x =>
      let d := x.dec
      let out := shows.bind (fun poc => (x.pots.filter (fun p => decide (p.poc = poc) && decide (p.mark ≠ .free) &&
        decide (p.mark ≠ .named))).foldl (fun (b : Option Pot) p => match b with
          | none => some p
          | some q => if q.age < p.age then some p else b) none)
      let shows := match out with
        | none => d.shows
        | some p =>
          if d.mode = 0 || p.hidden then d.shows
          else
            let prev := (d.shows.head?.map (fun e => e.1 + 1)).getD 0
            let least := match tag with
              | some k => k + d.delay
              | none => 0
            (Nat.max prev least, p.age - 1, d.fits) :: d.shows.take 63
      let last := match d.mode, shows.head? with
        | 0, _ => x.codedNo
        | _, some e => e.2.1
        | _, none => x.codedNo
      let kept := fun (p : Pot) => decide (p.poc ∈ references) || decide (p.age = last + 1)
      let pots := (x.pots.filter (fun p => p.mark ≠ .named || decide (p.poc ∈ references))).map (fun p =>
        if p.mark = .current ∨ p.mark = .ref ∨ p.mark = .held then
          (if kept p then { p with mark := if p.mark = .held then .held else .ref } else { p with mark := .free })
        else p)
      { x with pots := pots, codedNo := x.codedNo + 1, pictures := Nat.max x.pictures (x.codedNo + 1),
               dec := { d with shows := shows, au := none } })
/-- A stack access of a decode bed outside its fence (R216, R230). -/
def State.fenceCheck (s : State) (b n addr : Nat) : State :=
  let d := (s.slot n).dec
  let (m, lo, hi) := if b ∈ (s.twin n).lead then d.fence0 else d.fence1
  if m = bedDie b ∧ lo ≤ addr ∧ addr < hi then s
  else
    let s := s.modDec n (fun d => { d with fenceHits := inc64 d.fenceHits })
    let s := s.modBed b (fun x => { x with unitFlag := true })
    (s.pulseFault (256 * bedDie b + 0x40 + b % 36)).raiseSlot n

/-! ## Row digests (R241) -/

/-- A sample of a coded picture's CTU that holds `fill`: a right-aligned value of the coded depth (R161, R218); none for one that
nothing has written since power-up. (DESIGN CHOICE, log entry 120.) -/
def fillSample (depth fill plane x y : Nat) : Option Nat :=
  if fill = 0 then none
  else if fill = 1 then some (if plane = 0 then 16 * 2 ^ (depth - 8) else 128 * 2 ^ (depth - 8))
  else some (Config.sample (fill - 2) plane x y % 2 ^ depth)
/-- Width and height of a plane of a picture (R161). -/
def planeSize (f : Fmt) (plane : Nat) : Nat × Nat :=
  (if plane ≠ 0 ∧ f.sampling ≠ 1 then f.w / 2 else f.w, if plane ≠ 0 ∧ f.sampling = 2 then f.lines / 2 else f.lines)
/-- The CTU of a sample of a plane. -/
def State.ctuOfSample (s : State) (n plane x y : Nat) : Nat :=
  let f := s.slotFmt n
  let c := Nat.max 1 (s.ctuOf n)
  let x := if plane ≠ 0 ∧ f.sampling ≠ 1 then 2 * x else x
  let y := if plane ≠ 0 ∧ f.sampling = 2 then 2 * y else y
  y / c * s.columnsOf n + x / c
/-- A sample of a pot of a stream. -/
def State.potSample (s : State) (n : Nat) (p : Pot) (plane x y : Nat) : Option Nat :=
  fillSample (s.slotFmt n).depth (potFill (s.slot n).pots p (s.ctuOfSample n plane x y)) plane x y
/-- A prediction in a digest. -/
def predBytes (q : Pred) : List Byte :=
  natLe 1 q.ref ++ natLe 2 q.x ++ natLe 2 q.y ++ natLe 2 q.w ++ natLe 2 (q.mvx % 65536).toNat ++ natLe 2 (q.mvy % 65536).toNat
/-- A CTU's mode in a digest. -/
def modeBytes : CtuMode → List Byte
  | .intra reach => natLe 1 0 ++ natLe 2 reach
  | .skip => natLe 1 1
  | .inter l => natLe 1 2 ++ l.flatMap predBytes
/-- The state of Table 06.6 with boost_q, in the table's order (R164, R241). -/
def Rate.bytes (r : Rate) : List Byte :=
  let int := fun (v : Int) => natLe 4 (v % 4294967296).toNat
  natLe 4 r.bitsQ ++ natLe 4 r.bitsRem ++ natLe 4 r.rateNum ++ natLe 4 r.kRow ++ natLe 4 r.kDebt ++ natLe 4 r.acc ++ int r.debt ++
    int r.qpBase ++ r.costPrev.flatMap (natLe 4) ++ r.costNext.flatMap (natLe 4) ++ int r.budget ++ int r.spent ++
    int r.planned ++ int r.rowBits ++ natLe 4 r.boostQ
/-- The live state that a row leaves behind in `width` CTU columns from `first` on, in the order of Table 09.2; the samples of the row, with the 8 lines above it
that its filtering may change. (DESIGN CHOICE, log entry 132.) -/
def State.liveState (s : State) (n row first width : Nat) : List Byte :=
  let x := s.slot n
  let f := s.slotFmt n
  let c := s.ctuOf n
  let decode := decide (x.kind = 2)
  let state := fun k => Config.rowState x.content k row
  let samples := match x.pots.find? (fun p => decide (p.mark = .current)) with
    | none => []
    | some p => (List.range 3).flatMap (fun plane =>
      let (w, h) := planeSize f plane
      let kx := if w = f.w then 1 else 2
      let ky := if h = f.lines then 1 else 2
      let y0 := (row * c - 8) / ky
      (List.range (min h ((row + 1) * c / ky) - y0)).flatMap (fun j =>
        (List.range (min w ((first + width) * c / kx) - first * c / kx)).flatMap (fun i =>
          natLe 2 ((s.potSample n p plane (first * c / kx + i) (y0 + j)).getD 0))))
  let ctus := (List.range width).map (fun k => row * s.columnsOf n + first + k)
  samples ++ state 0 ++ ctus.flatMap (fun k => modeBytes (tget (fun _ => .intra 0) x.modes k)) ++
    (if decode then state 1 else if s.contextsCarry n (row + 1) then state 2 else []) ++
    (if !decode && decide (s.cfgN 0x21 n 0x05 = 1) then state 3 else []) ++ (if decode then [] else x.rc.bytes) ++
    (if decode then ctus.map (fun k => BitVec.ofNat 8 (b2n (x.pots.any (fun p => decide (p.mark = .current) && decide (k ∈ p.taint)))))
     else [])
/-- DIGEST_OUT: a bed sends the digest of a row of its tile (R241); the members of a twin compute the same one. -/
def State.digestOut (s : State) (b n picture row : Nat) : State :=
  let tile := s.tileOf b n
  let known := (s.slot n).digests.find? (fun d => decide ((d.1, d.2.1, d.2.2.1) = (picture, row, tile)))
  match known with
  | some d => s.emit (.digest s.now b n picture row d.2.2.2)
  | none =>
    let (first, width) := if (s.slot n).kind = 2 then (0, s.columnsOf n) else s.tileSpan b n
    let v := crc64 (s.liveState n row first width)
    (s.modSlot n (fun x => { x with digests := (picture, row, tile, v) :: x.digests.take 7 })).emit (.digest s.now b n picture row v)
/-- A twin's members keep the row-start state and the strips of a row that starts in the retrial ring (R245). -/
def State.keepRow (s : State) (b n row : Nat) : State :=
  if (s.twin n).st = .none ∨ !s.speaks b n then s
  else
    let entry : RingRow :=
      { picture := (s.slot n).codedNo, row := row, state := if row = 0 then [] else s.liveState n (row - 1) 0 (s.columnsOf n),
        strips := (s.bed b).strips.filter (fun l => decide (l.slot = n)) }
    s.modSlot n (fun x => { x with ring := entry :: x.ring.take 3 })
/-- GANG_TX: the boundary columns of a row go to the member to the right, where GANG_RX takes them (R142). -/
def State.sendColumns (s : State) (b : Nat) (data : List Byte) : State :=
  match (s.bed b).slotNow with
  | none => s
  | some n =>
    let side := (s.twin n).sideOf b
    match side[side.idxOf b + 1]? with
    | none => s
    | some m => s.modBed m (fun x => { x with exchange := x.exchange ++ [data] })

/-! ## Bed reports -/

/-- The slot that a report is about. -/
def reportSlot : BedEvent → Option Nat
  | .pictureStart n | .rowStart n _ _ _ | .bandDone n _ _ _ | .ctuReady n _ _ _ | .rowEnd n _ | .pictureEnd n
  | .rowComplete n _ _ | .damage n _ _ | .ctuDecoded n _ _ | .charge n _ | .missingRef n _ | .hashMismatch n | .layerDiscard n
  | .activeSps n _ | .auStart n _ _ _ | .auDecoded n _ _ | .stackAccess n _ _ | .digestOut n _ _ | .codingSample n _ => some n
  | .detected _ | .corrected _ | .unitOut _ _ | .gangSend _ => none
/-- A report of a row or a CTU, which every member of a gang makes of its own tile (R141, R168). -/
def tileReport : BedEvent → Bool
  | .rowStart _ _ _ _ | .ctuReady _ _ _ _ | .rowEnd _ _ => true
  | _ => false
/-- A bed's report speaks for its stream: the lead's beds report what the other member's do, position 0 the whole picture, and
each its tile. -/
def State.hears (s : State) (b n : Nat) (e : BedEvent) : Bool :=
  if tileReport e then decide (b ∈ (s.twin n).lead) else s.speaks b n
/-- A row of a gang's tile waits until every member has finished the row above (R143, condition 25). -/
def State.rowWaits (s : State) (b : Nat) : BedEvent → Bool
  | .rowStart n row _ _ => decide (1 < s.gangSize n) && decide (row ≠ 0) && !s.gangReady b
  | _ => false
/-- What a report of bed `b` does to its stream. -/
def State.slotReport (s : State) (b : Nat) (e : BedEvent) : State :=
  match e with
  | .pictureStart n => if (s.slot n).kind = 1 then s.codeStart n else s
  | .rowStart n row cost intra => if (s.slot n).kind = 1 then (s.startRow b n row cost intra).keepRow b n row else s
  | .bandDone n instant band blocks => if (s.slot n).role = 1 then s.bandDone n instant band blocks else s
  | .ctuReady n bits recode mode => if (s.slot n).kind = 1 then s.codeCtu b n bits recode mode else s
  | .rowEnd n row => if (s.slot n).kind = 1 then s.modRate n (fun r => r.tileEnds (s.gangSize n) (s.tileOf b n) row) else s
  | .pictureEnd n => if (s.slot n).kind = 1 then s.codeEnd n else s
  | .rowComplete n picture row =>
    if (s.slot n).kind = 2 ∧ (s.twin n).st = .none then s.modDec n (fun d => { d with rows := addTo d.rows (picture, row) })
    else s
  | .damage n first last => if (s.slot n).kind = 2 then s.conceal n first last else s
  | .ctuDecoded n ctu tainted => if (s.slot n).kind = 2 then s.ctuDecoded n ctu tainted else s
  | .charge n ticks => if (s.slot n).kind = 2 then s.charge n ticks else s
  | .missingRef n poc => if (s.slot n).kind = 2 then s.missingRef n poc else s
  | .hashMismatch n => if (s.slot n).kind = 2 then s.countDec n 7 1 else s
  | .layerDiscard n => if (s.slot n).kind = 2 then s.countDec n 9 1 else s
  | .activeSps n sps => if (s.slot n).kind = 2 then s.newSps n sps else s
  | .auStart n tag poc sync => if (s.slot n).kind = 2 then s.auStart n tag poc sync else s
  | .auDecoded n shows references => if (s.slot n).kind = 2 then s.auDecoded n shows references else s
  | .codingSample n ns => s.sampleCoding n ns
  | .stackAccess _ _ _ | .detected _ | .corrected _ | .unitOut _ _ | .digestOut _ _ _ | .gangSend _ => s
/-- What a report does to the bed itself. -/
def State.ownReport (s : State) (b : Nat) (e : BedEvent) : State :=
  match e with
  | .rowStart n row _ _ =>
    let s := s.modBed b (fun x => { x with row := row, ctu := 0 })
    if row + 1 = s.rowsOfSlot n then s.lastRowStarted (s.anchorOf n) b else s
  | .rowComplete _ picture row => s.modBed b (fun x => { x with ready := (picture, row + 1) })
  | .digestOut n picture row => s.digestOut b n picture row
  | .gangSend data => s.sendColumns b data
  | .stackAccess n addr _ => if (s.slot n).kind = 2 then s.fenceCheck b n addr else s
  | .detected c => s.selfCheck b c
  | .corrected rom =>
    s.modBed b (fun x =>
      if rom then { x with romCorrected := min 65535 (x.romCorrected + 1) }
      else { x with storeCorrected := min 65535 (x.storeCorrected + 1) })
  | .unitOut bytes closes =>
    s.modBed b (fun x =>
      let f := { x.fifo with write := x.fifo.write + min bytes x.fifo.space }
      match closes with
      | none => { x with fifo := f }
      | some u =>
        { x with fifo := f, unitStart := f.write, unitFlag := false, closed := (u.2.1, u.2.2.1 + 1),
                 flagged := if x.unitFlag then u :: x.flagged else x.flagged })
  | _ => s
/-- A committed CTU is followed by the next of its row. -/
def State.nextCtu (s : State) (b : Nat) : BedEvent → State
  | .ctuReady _ _ _ _ => s.modBed b (fun x => { x with ctu := x.ctu + 1 })
  | _ => s
/-- One report of a bed's units, as its word retires. -/
def State.bedReport (s : State) (b : Nat) (e : BedEvent) : State :=
  match reportSlot e with
  | none => s.ownReport b e
  | some n =>
    if !decide (n ∈ (s.bed b).slots) || s.rowWaits b e then s
    else
      let s := s.modBed b (fun x => { x with slotNow := some n })
      let s := s.ownReport b e
      let s := if s.hears b n e then s.slotReport b e else s
      s.nextCtu b e
/-- A word of a bed retires, with its PB point and what its units report (R122, R170). -/
def State.wordRetires (s : State) (b : Nat) (info : RetireInfo) : State :=
  let pb := wPb (s.bed b).issued
  s.retire b info.conds info.writes (fun s =>
    let s := if pb then s.pbPoint b info.boundary else s
    info.events.foldl (fun (s : State) e => s.bedReport b e) s)

/-! ## Outtake (R117, R118, R226 to R228, R275) -/

/-- A pixel group of ST 2110-20: octets, pixels across and lines (sampling 0 4:2:2, 1 4:4:4, 2 4:2:0). (PRESUMED, log
entry 34.) -/
def pixelGroup (sampling depth : Nat) : Nat × Nat × Nat :=
  match sampling with
  | 0 => (if depth = 8 then 4 else if depth = 10 then 5 else 6, 2, 1)
  | 1 => if depth = 8 then (3, 1, 1) else if depth = 10 then (15, 4, 1) else (9, 2, 1)
  | _ => if depth = 8 then (6, 2, 2) else if depth = 10 then (15, 4, 2) else (9, 2, 2)
/-- Packets of one line, or line pair of 4:2:0, and the octets of each. (PRESUMED, log entry 34.) -/
def linePackets (f : Fmt) (depth max : Nat) (block : Bool) : List Nat :=
  let (oct, px, _) := pixelGroup f.sampling depth
  let groups := ceilDiv f.w px
  let per := Nat.max 1 ((if block then max / 180 * 180 else max) / oct)
  (List.range (ceilDiv groups per)).map (fun k => oct * min per (groups - k * per))
/-- Depth that an outtake emits: the decoded depth or lower (R118). -/
def State.outDepth (s : State) (oc n : Nat) : Nat :=
  let d := (s.decodeFmt n).depth
  let v := s.cfgN 0x20 (0x1000 + oc) 0x03
  if v = 0 then d else min v d
/-- A sample at a lower depth: rounded half up, and clipped (R118). -/
def lowerTo (depth lower x : Nat) : Nat :=
  if depth ≤ lower then x else min ((x + 2 ^ (depth - lower - 1)) / 2 ^ (depth - lower)) (2 ^ lower - 1)
/-- A sample that an outtake sends, of a CTU that holds `fill`. -/
def State.outSample (s : State) (oc n fill plane x y : Nat) : Option Nat :=
  (fillSample (s.decodeFmt n).depth fill plane x y).map (lowerTo (s.decodeFmt n).depth (s.outDepth oc n))
/-- What the CTUs of a row hold that an outtake sends: `source` 0 black, else one more than a picture (R226). -/
def State.rowFills (s : State) (n row source : Nat) : List Nat :=
  let l := (s.slot n).pots
  let pot := l.find? (fun p => decide (p.age = source) && decide (p.mark ≠ .free) && decide (p.mark ≠ .named))
  (List.range (s.columnsOf n)).map (fun k =>
    if source = 0 then 1 else (pot.map (fun p => potFill l p (row * s.columnsOf n + k))).getD 0)
/-- Read time of row `row` of output slot `k`, in ns times 25 × H × num (R226). -/
def State.readTime (s : State) (n k row : Nat) : Nat :=
  let r := s.slotRate n
  let h := Nat.max 1 (s.decodeFmt n).lines
  let d := (s.slot n).dec
  s.slotStart n k * (25 * h * r.1) + d.delay * r.2 * 1000000000 * (25 * h) +
    (d.ctu + 8 + row * d.ctu) * 24 * r.2 * 1000000000
/-- The output slot whose row `row` is read at `t`: the last one whose read time, rounded down to a ns (R493), has come. -/
def State.slotRead (s : State) (n row t : Nat) : Option Nat :=
  let r := s.slotRate n
  let top := t * r.1 / (r.2 * 1000000000) + 1
  let scale := 25 * Nat.max 1 (s.decodeFmt n).lines * r.1
  ((List.range 48).find? (fun j => decide (j ≤ top) && decide (s.readTime n (top - j) row / scale ≤ t))).map (fun j => top - j)
/-- The packets of a row leave through the outtake's run (R117, R118, R227, R275). (DEDUCED, log entry 35.) The 8 octets of the
ST 2110-20 payload header come on top of PAYLOAD_MAX (DESIGN CHOICE, log entry 133). -/
def State.sendRow (s : State) (oc n k row : Nat) : State :=
  let run := s.cfg 0x20 (0x1000 + oc) 0x07
  if run.isEmpty then s
  else
    let f := s.decodeFmt n
    let r := s.slotRate n
    let c := (s.slot n).dec.ctu
    let unit := (pixelGroup f.sampling (s.outDepth oc n)).2.2
    let line := linePackets f (s.outDepth oc n) (s.cfgN 0x20 (0x1000 + oc) 0x06)
      (decide (s.cfgN 0x20 (0x1000 + oc) 0x04 = 1))
    let first := row * c / unit
    let count := ceilDiv (min c (f.lines - row * c)) unit
    let total := Nat.max 1 (ceilDiv f.lines unit * line.length)
    let scale := 25 * Nat.max 1 f.lines * r.1
    let den := scale * total
    let start := (s.readTime n k 0 + 30000 * scale) * total
    let step := 24 * r.2 * 1000000000 * f.lines
    let owner := (s.slot n).owner
    let cmax := cmaxOf (s.cfgN 0x20 (0x1000 + oc) 0x05)
    let ts := BitVec.ofNat 32 (gridAt r k * 9 / 100000)
    (List.range (count * line.length)).foldl (fun (s : State) j =>
      let no := first * line.length + j
      let frame : Frame :=
        { len := headerOctets + 8 + line.getD (j % line.length) 0, ipv := 4, udp := true,
          ssrc := BitVec.ofNat 32 (s.cfgN 0x20 (0x1000 + oc) 0x08), seq := BitVec.ofNat 16 (s.outtake oc).seq, rtpTs := ts,
          pt := BitVec.ofNat 7 (s.cfgN 0x20 (0x1000 + oc) 0x09),
          marker := decide (no + 1 = total), label := n }
      let s := s.modOuttake oc (fun o => { o with seq := (o.seq + 1) % 65536, packets := inc64 o.packets })
      s.sendOwn (outtakeDie oc) (leNat run) frame
        { payer := owner, cls := s.serviceClass n, slot := n, pace := some (start + no * step, step, den, cmax) }) s
/-- The first outtake channel reads row 0 of slot `k`: its time is counted (R417), and a picture that does not fit is
replaced by a repeat (R222). -/
def State.showStarts (s : State) (die n k : Nat) (entry : Option (Nat × Nat × Bool)) (held : Bool) : State :=
  let s := s.modDec n (fun d => { d with late := false, slotBegun := some k })
  let s := s.meterPicture die n (s.slot n).metered held
  match entry with
  | none => s
  | some e => if e.2.2 then s.setMismatch n false else (s.countDec n 10 1).setMismatch n true
/-- The last row of a picture has been shown: CLEAN (R220). -/
def State.showEnds (s : State) (n k : Nat) (entry : Option (Nat × Nat × Bool)) : State :=
  let s := s.modDec n (fun d => { d with slotEnded := some k })
  match entry with
  | none => s
  | some e =>
    let clean := (s.slot n).pots.all (fun p => decide (p.age ≠ e.2.1 + 1) || p.mark = .free || p.taint.isEmpty)
    let s := s.setClean n clean
    if clean then s.modDec n (fun d => { d with lastClean := gridAt (s.slotRate n) k }) else s
/-- The last row of an output slot: the picture shown is kept, and the slot's report ends once. -/
def State.lastRow (s : State) (oc n k : Nat) (entry : Option (Nat × Nat × Bool)) (ended : Bool) : State :=
  let s := match entry with
    | some e => s.modOuttake oc (fun o => { o with shown := some (e.2.1 + 1) })
    | none => s
  if ended then s else s.showEnds n k entry
/-- The RTP timestamp of an instant of the 90 kHz clock (R226). -/
def rtpStamp (g : Nat) : Nat := g * 9 / 100000 % 4294967296
/-- A row of output slot `k` leaves an outtake: `source` 0 when nothing may be shown, else one more than the picture. -/
def State.rowGoes (s : State) (oc n k row source : Nat) (entry : Option (Nat × Nat × Bool)) (ended : Bool) : State :=
  let s := s.modOuttake oc (fun o => { o with slotNo := k })
  let s := s.emit (.row s.now oc n row source (rtpStamp (gridAt (s.slotRate n) k)) (s.rowFills n row source) (s.outDepth oc n))
  let s := s.sendRow oc n k row
  if row + 1 = s.rowsOfSlot n then s.lastRow oc n k entry ended else s
/-- The show of output slot `k` that the outtake looks for: none without sync, while held, or when the slot repeats.
(DEDUCED, log entry 69.) -/
def State.showOf (s : State) (n k : Nat) : Option (Nat × Nat × Bool) :=
  let x := s.slot n
  if x.dec.noSync || decide (x.st = 5) || x.pics.any (fun p => decide (p.instant = s.slotStart n k) && p.rep) then none
  else x.dec.shows.find? (fun e => decide (e.1 = k))
/-- The row of a show has been decoded. -/
def State.rowReady (s : State) (n row : Nat) (entry : Option (Nat × Nat × Bool)) : Bool :=
  entry.any (fun e => decide ((e.2.1, row) ∈ (s.slot n).dec.rows))
/-- What an outtake sends for a row: 0 black, else one more than a picture; a row not ready in time repeats what was shown. -/
def State.rowSource (s : State) (oc n row : Nat) (entry : Option (Nat × Nat × Bool)) : Nat :=
  let shown := ((s.outtake oc).shown).getD 0
  if (s.slot n).dec.noSync then 0
  else match entry with
    | some e => if s.rowReady n row entry then e.2.1 + 1 else shown
    | none => shown
/-- Row `row` of output slot `k` is read (R226 to R228). -/
def State.slotRow (s : State) (oc n k row : Nat) : State :=
  let x := s.slot n
  let found := s.showOf n k
  let entry := found.filter (fun e => e.2.2)
  let ready := s.rowReady n row entry
  let source := s.rowSource oc n row entry
  let s := if row = 0 ∧ x.dec.slotBegun ≠ some k then
      s.showStarts (outtakeDie oc) n k found (decide (x.st = 5) || decide (source = 0)) else s
  let s := if entry.isSome ∧ !ready then (s.modDec n (fun d => { d with late := true })).countDec n 11 1 else s
  s.rowGoes oc n k row source entry (decide (x.dec.slotEnded = some k))
/-- An outtake channel reads a row of the slot in progress (R226 to R228). -/
def State.outtakeRow (s : State) (oc row : Nat) : State :=
  let n := s.cfgN 0x20 (0x1000 + oc) 0x02
  let x := s.slot n
  if (s.cfg 0x20 (0x1000 + oc) 0x02).isEmpty || decide (x.kind ≠ 2) || decide (x.st < 3) ||
      s.diePruned (outtakeDie oc) || decide (s.rowsOfSlot n ≤ row) then s
  else match s.slotRead n row s.now with
    | none => s
    | some k => s.slotRow oc n k row

end Sys2Proof.Machine
end

