-- ==== Sys2Proof/Machine/Clocks.lean ====
section
/-! DEFINITION. Clocks and media time (20): the REFCLK monitor, PLLs and gated blocks, the PTP servo, Announce and delay
messages, and the Hedge's timing edges. -/

namespace Sys2Proof.Machine

/-! ## Clock sources (R458 to R462) -/

/-- The Cold Frame's clock source under CF_SOURCE (R459). -/
def State.cfSwitch (s : State) : State :=
  let c := s.clk
  let v := s.cfgN 0x03 0 0x01
  let to_ := if v = 0 then (if c.refReady then 1 else if c.backupReady then 2 else c.cfActive) else v
  { s with clk := { c with cfActive := to_ } }
/-- CF_SOURCE is written (R459, R460); answers the status. -/
def State.selectCf (s : State) (v : Nat) : Nat × State :=
  if (v = 1 ∧ !s.clk.refReady) ∨ (v = 2 ∧ !s.clk.backupReady) then (3, s)
  else (0, (s.setCfgN 0x03 0 0x01 1 v).cfSwitch)
/-- REFCLK is no longer ready (R461): every running PLL goes into holdover. -/
def State.refLost (s : State) : State :=
  if !s.clk.refReady then s
  else
    let s := { s with clk := { s.clk with refReady := false, holdover := s.clk.locked, refLosses := inc64 s.clk.refLosses } }
    (s.raiseFault 0xD04).cfSwitch
/-- REFCLK is ready again: PLLs in holdover track it (R461). -/
def State.refBack (s : State) : State :=
  if s.clk.refReady || decide (s.clk.refGood < 65536) then s
  else (({ s with clk := { s.clk with refReady := true, holdover := [] } }).causeGone 0xD04).cfSwitch
/-- A window of the monitor ends (R458): 320 backup cycles, a count of REFCLK cycles, and the backup's frequency. -/
def State.refWindow (s : State) (count hz : Nat) : State :=
  let good := decide (14500 ≤ count) && decide (count ≤ 16800)
  let s := if good then ({ s with clk := { s.clk with refGood := min 65536 (s.clk.refGood + count) } }).refBack
    else ({ s with clk := { s.clk with refGood := 0 } }).refLost
  let odd := s.clk.refReady && (decide (hz < 3040000) || decide (3360000 < hz))
  let b := if odd then 0 else min 4096 (s.clk.backupGood + 320)
  ({ s with clk := { s.clk with backupGood := b, backupReady := !odd && (s.clk.backupReady || decide (b = 4096)) } }).cfSwitch

/-- PLLs: 0 to 7 C0 to C7, 8 and 9 P0 and P1, 10 the hub, 11 + 2m + p stack m's point p, 35 + k engine k (DESIGN CHOICE, log entry 20).
A PLL that was started is judged locked (R462). -/
def State.pllLocked (s : State) (p : Nat) : State :=
  let c := s.clk
  if !c.refReady || !decide (p ∈ c.starting) then s
  else { s with clk := { c with starting := removeFrom c.starting p, locked := insertNat p c.locked } }
/-- A PLL is started, when it is not running already. -/
def State.startPll (s : State) (p : Nat) : State :=
  if p ∈ s.clk.locked then s else { s with clk := { s.clk with starting := insertNat p s.clk.starting } }
/-- A PLL is stopped. -/
def State.stopPll (s : State) (p : Nat) : State :=
  { s with clk := { s.clk with starting := removeFrom s.clk.starting p, locked := removeFrom s.clk.locked p,
                               holdover := removeFrom s.clk.holdover p } }

/-! ## Gated pipelines and engines (R463) -/

/-- Every logical port of some field ports is DISABLED. -/
def State.allDisabled (s : State) (first count : Nat) : Bool :=
  (List.range (16 * count)).all (fun k => (s.port (16 * first + k)).st = .disabled)
/-- Gate or wake one block as its ports stand: `gated` is its state while gated. -/
def State.regateBlock (s : State) (block first count gated : Nat) : State :=
  let v := (s.power block).st
  if v = 4 then s
  else if s.allDisabled first count then s.setPower block gated
  else if v = gated then s.setPower block 1
  else s
/-- The pipeline and the engine of a logical port. -/
def State.regate (s : State) (lp : Nat) : State :=
  (s.regateBlock (0x120 + plOf lp) (8 * plOf lp) 8 2).regateBlock (0x128 + fpOf lp / 4) (4 * (fpOf lp / 4)) 4 0
/-- A gated block has returned (Table 20.2); a bed by its own wake sequence (R466). -/
def State.blockAwake (s : State) (block : Nat) : State :=
  if block < 288 ∨ (s.power block).st ≠ 1 then s else s.setPower block 3

/-! ## PTP (R467 to R470, R500) -/

/-- A PTP step: gates are recomputed at the new time, and the step is counted (R282, R469). -/
def State.stepTime (s : State) (offset : Int) : State :=
  let s := { s with clk := { s.clk with steps := inc64 s.clk.steps } }
  (List.range 1024).foldl (fun (s : State) lp =>
    let s := s.modGate lp (fun g =>
      if g.isPending then
        let g := { g with lastWrite := ((g.lastWrite : Int) - offset).toNat }
        { g with changeAt := g.changeTime }
      else g)
    if s.gating lp then
      (s.gatesAt lp ((s.now : Int) - offset)).modGate lp
        (fun g => { g with steps := if s.inUse lp then inc64 g.steps else g.steps })
    else s) s
/-- The die whose timekeeper leads (R468): the slave port's, or P0. -/
def State.timeLead (s : State) : Nat := if s.clk.slave = 0xFFFF then 0 else dieOf s.clk.slave
/-- The rate of the time lead's timekeeper. -/
def State.leadFreq (s : State) : Int := if s.timeLead = 0 then s.clk.freq else s.clk.freq1
/-- Every timekeeper takes a rate (R468, R472): the followers track the lead, and that of a pruned die is out of use. -/
def State.setFreq (s : State) (v : Int) : State :=
  { s with clk := { s.clk with freq := if s.diePruned 0 then s.clk.freq else v
                               freq1 := if s.diePruned 1 then s.clk.freq1 else v
                               freqHub := v } }
/-- The servo acts on an offset (R469), in the time lead's hardware. (DESIGN CHOICE, log entry 15.) -/
def State.servo (s : State) (offset : Int) : State :=
  if (s.cfgN 0x03 0 0x17 : Int) < offset.natAbs then s.stepTime offset
  else
    let top : Int := s.cfgN 0x03 0 0x18
    s.setFreq (clip (Config.servo s.leadFreq offset) (-top) top)
/-- A Sync of the slave port has been measured. -/
def State.syncMeasured (s : State) (lp : Nat) (offset : Int) : State :=
  let c := s.clk
  if c.slave ≠ lp ∨ !s.isPtpPort lp then s
  else
    let good := decide (offset.natAbs < 1000)
    let s := { s with clk := { c with offset := offset } }
    match c.st with
    | .acquiring =>
      let s := s.servo offset
      let n := if good then c.good + 1 else 0
      if 16 ≤ n then s.setTime .locked else { s with clk := { s.clk with good := n } }
    | .locked =>
      let s := s.servo offset
      let n := if good then 0 else c.bad + 1
      if n < 4 then { s with clk := { s.clk with bad := n } }
      else
        -- the slave port stays chosen: the measurement starts with the next Sync
        let s := s.leaveLocked
        { s with clk := { s.clk with measuring := true, measured := 0, measuredBad := false } }
    | .hedge | .holdover =>
      if !c.measuring then s
      else
        let bad := c.measuredBad || !good
        if c.measured + 1 < 16 then { s with clk := { s.clk with measured := c.measured + 1, measuredBad := bad } }
        else
          let s := { s with clk := { s.clk with measuring := false, measured := 0, measuredBad := false, from_ := c.st } }
          s.setTime (if bad then .acquiring else .locked)
    | .free => s
/-- An Announce of a port: the best of each port is kept, one's own is ignored, and the BMCA runs (R468). -/
def State.announced (s : State) (lp : Nat) (d : Announce) : State :=
  if !s.isPtpPort lp || decide (d.senderId = clockId) then s
  else
    let old := (s.ptpPort lp).best
    let same := fun (o : Announce) => decide ((o.senderId, o.senderPort) = (d.senderId, d.senderPort))
    let take := match old with
      | none => true
      | some o => same o || isBetter d o
    (if take then s.modPtpPort lp (fun p => { p with best := some d }) else s).bmca
/-- A delay request is answered in kind by a master port (R467, Table 20.4); hardware does so while the Shed restarts. -/
def State.delayAsked (s : State) (lp : Nat) (multicast : Bool) : State :=
  if s.isPtpPort lp ∧ (s.ptpPort lp).st = 6 then s.emit (.ptp s.now lp 4 s.clockClass multicast) else s
/-- HOLDOVER_SPEC has passed since LOCKED or HEDGE was left (Table 20.5). -/
def State.specExpires (s : State) : State :=
  if s.clk.st = .holdover ∧ s.clk.leftAt + s.cfgN 0x03 0 0x1A * 1000000000 ≤ s.now then
    { s with clk := { s.clk with specOver := true } }
  else s
/-- A PTP port sends a message of its own (R467, R468): 0 Announce, 1 Sync with its Follow_Up (two-step), and from the
slave port 3 Delay_Req. -/
def State.ptpSends (s : State) (lp kind : Nat) : State :=
  if !s.isPtpPort lp then s
  else
    let st := (s.ptpPort lp).st
    if kind = 0 ∧ st = 6 then s.emit (.ptp s.now lp 0 s.clockClass)
    else if kind = 1 ∧ st = 6 then (s.emit (.ptp s.now lp 1 s.clockClass)).emit (.ptp s.now lp 2 s.clockClass)
    else if kind = 3 ∧ st = 9 then s.emit (.ptp s.now lp 3 s.clockClass)
    else s
/-- A management message (Table 20.4): a GET of defaultDS, currentDS, parentDS or timePropertiesDS (0 to 3) is answered;
a SET is refused and changes nothing. -/
def State.managed (s : State) (lp : Nat) (get : Bool) (id : Nat) : State :=
  if s.isPtpPort lp ∧ get ∧ id < 4 then s.emit (.ptp s.now lp 5 s.clockClass) else s

/-! ## The Hedge's timing inputs (R454, R471 to R473) -/

/-- The whole second nearest to an instant. -/
def nearestSecond (t : Int) : Int := (t + 500000000) / 1000000000 * 1000000000
/-- TIME_SET (R473): only in FREE with both Hedge inputs present; answers the status. -/
def State.orderTime (s : State) (v : Nat) : Nat × State :=
  if s.clk.st ≠ .free ∨ !s.mod.ref10m ∨ !s.mod.pps then (3, s)
  else (0, { s with clk := { s.clk with timeSet := some v } })
/-- A Hedge input is judged lost (R454): 0xE04 for 1PPS, 0xE03 for 10 MHz; HEDGE is left (R472). -/
def State.refInputLost (s : State) (pps : Bool) : State :=
  let s := if pps then ({ s with mod := { s.mod with pps := false } }).raiseFault 0xE04
    else ({ s with mod := { s.mod with ref10m := false } }).raiseFault 0xE03
  if s.clk.st = .hedge then s.setTime .holdover else s
/-- The mean of 64 measurements, rounded down. (DEDUCED, log entry 70.) -/
def meanOf (l : List Int) : Int := l.foldl (· + ·) 0 / 64
/-- A timing edge's phase acts on media time (R471, R472, R473). (DEDUCED, log entry 70.) -/
def State.edgeActs (s : State) (count : Nat) : State :=
  let off := s.cfgI 0x03 0 0x1B
  match s.clk.timeSet with
  | some _ =>
    ({ s with clk := { s.clk with timeSet := none, ignoredRun := 0 } }).setTime .hedge
  | none =>
    match s.clk.st with
    | .locked =>
      let m := (s.now : Int) - nearestSecond s.now
      let l := m :: s.clk.ppsSamples.take 63
      let s := { s with clk := { s.clk with ppsSamples := l } }
      if l.length < 64 then s
      else ({ s with clk := { s.clk with ppsValid := true } }).setCfg 0x03 0 0x1B (natLe 4 (ofSigned 32 (meanOf l)))
    | .hedge =>
      let err := (s.now : Int) - (nearestSecond ((s.now : Int) - off) + off)
      if 100000 < err.natAbs then
        let run := s.clk.ignoredRun + 1
        let s := { s with clk := { s.clk with edgesIgnored := inc64 s.clk.edgesIgnored, ignoredRun := run } }
        if 16 ≤ run then s.setTime .holdover else s
      else ({ s with clk := { s.clk with ignoredRun := 0, offset := err } }).setFreq ((10000000 - (count : Int)) * 100)
    | _ => s
/-- A 1PPS edge and the count of 10 MHz cycles since the last cross the barrier (R454); nothing crosses while the Hedge
(R450) or the module is without its supply. -/
def State.timingEdge (s : State) (count : Nat) : State :=
  if !s.mod.hedgeV || !s.mod.on then s
  else
  let s := { s with mod := { s.mod with pps := true, lastPps := s.now } }
  let s := s.causeGone 0xE04
  if count < 9999900 ∨ 10000100 < count then s.refInputLost false
  else
    let s := ({ s with mod := { s.mod with ref10m := true } }).causeGone 0xE03
    s.edgeActs count

end Sys2Proof.Machine
end

