-- ==== Sys2Proof/Machine/Supplies.lean ====
section
/-! DEFINITION. The module's supplies, its thermal limits and the Hedge (19), and the alive and alert outputs (15). -/

namespace Sys2Proof.Machine

/-! ## Feeds (R438 to R441) -/

/-- A feed is judged in range (R438, R441): the other feed, PRUNED and still connected, is isolated. -/
def State.feedIn (s : State) (f : Nat) : State :=
  let m := s.mod
  let m := if f = 0 then { m with rangeA := true, sinceA := s.now, feedA := if m.feedA < 3 then 1 else m.feedA }
    else { m with rangeB := true, sinceB := s.now, feedB := if m.feedB < 3 then 1 else m.feedB }
  let isolated := m.usable f && (if f = 0 then decide (m.feedB = 3) else decide (m.feedA = 3))
  let m := if !isolated then m else if f = 0 then { m with feedB := 4 } else { m with feedA := 4 }
  let s := ({ s with mod := m }).causeGone (0xD00 + f)
  if !m.on then s
  else if m.feedInUse < 2 ∧ m.usable m.feedInUse then s
  else if m.usable f then s.switchTo f else s
/-- A feed is judged out of range: the load moves to the other when it can (R438), and the source is raised (R441). -/
def State.feedOut (s : State) (f : Nat) : State :=
  let m := s.mod
  let m := if f = 0 then { m with rangeA := false, feedA := if m.feedA < 3 then 2 else m.feedA }
    else { m with rangeB := false, feedB := if m.feedB < 3 then 2 else m.feedB }
  let s := { s with mod := m }
  let s := if m.on ∧ m.feedInUse = f ∧ m.usable (1 - f) then s.switchTo (1 - f) else s
  s.raiseFault (0xD00 + f)
/-- The main feed has been in range for SWITCHBACK_DELAY and takes the load back (R438). -/
def State.switchback (s : State) : State :=
  let f := s.cfgN 0x02 0 0x01
  let wait := s.cfgN 0x02 0 0x02 * 1000000
  let since := if f = 0 then s.mod.sinceA else s.mod.sinceB
  if !s.mod.on || decide (wait = 0) || !s.mod.usable f || decide (s.now < since + wait) then s else s.switchTo f
/-- No feed has been in range for 50 µs (R439). -/
def State.feedsLost (s : State) : State :=
  if s.mod.rangeA || s.mod.rangeB || !s.mod.on then s else s.stopModule
/-- MAIN_FEED (R440); answers the status. -/
def State.chooseMain (s : State) (f : Nat) : Nat × State :=
  if !(if f = 0 then s.mod.rangeA else s.mod.rangeB) then (3, s)
  else
    let s := s.setCfgN 0x02 0 0x01 1 f
    (0, if s.mod.on && s.mod.usable f then s.switchTo f else s)
/-- A regulator phase fails (R443): it is disabled, whatever its class. -/
def State.phaseFails (s : State) (n : Nat) : State := (s.raiseFault (0xD10 + n)).phaseDown n
/-- KEEP is lost while no feed is in range (R446). -/
def State.keepLoss (s : State) : State :=
  if s.mod.rangeA || s.mod.rangeB then s else { s with mod := { s.mod with keepLost := true } }

/-! ## Temperature and life (R448, R449) -/

/-- A die sensor has crossed TEMP_WARN, or every one has fallen 5 K below it. -/
def State.tempCross (s : State) (above : Bool) : State :=
  if s.mod.tempWarned = above then s else ({ s with mod := { s.mod with tempWarned := above } }).raise 0x0210
/-- A thermal trip. -/
def State.trip (s : State) : State :=
  ({ s with mod := { s.mod with thermalTrips := inc64 s.mod.thermalTrips, tripped := true } }).stopModule
/-- An hour of service is binned by its hottest die sensor, in degrees. (DEDUCED, log entry 71.) -/
def State.lifeHour (s : State) (hottest : Int) : State :=
  let m := s.mod
  { s with mod := { m with hours := inc64 m.hours, hotHours := if 105 < hottest then inc64 m.hotHours else m.hotHours,
                           overHours := if 125 < hottest then inc64 m.overHours else m.overHours } }
/-- LIFE_USED in thousandths (R449). -/
def Module.lifeUsed (m : Module) : Nat := Nat.max (m.hours * 1000 / 219150) (m.hotHours * 1000 / 21915)

/-! ## The Hedge (R450 to R453) -/

/-- An input's change drives the tally bindings of the feeds that its owner or a peer of its owner's holds (R452,
R113). (DESIGN CHOICE, log entry 32.) -/
def State.tally (s : State) (g : Nat) (level : Bool) : State :=
  let owner := s.cfgN 0x51 (0x0100 + g) 0x01
  let peers := s.cfgN 0x51 (0x0100 + g) 0x00
  s.str.slots.foldl (fun (s : State) e =>
    let n := e.1
    if e.2.kind ≠ 1 ∨ (e.2.owner ≠ owner ∧ !bit peers e.2.owner) then s
    else
      let map := s.cfg 0x20 (0x2000 + n) 0x05
      (List.range (map.length / 4)).foldl (fun (s : State) k =>
        if fieldAt map (4 * k) 1 = g ∧ Config.tallyEdge (fieldAt map (4 * k + 1) 1) level then
          (s.orderCut n (fieldAt map (4 * k + 2) 2) s.now true).2
        else s) s) s
/-- A GPI is judged changed (R452), while the Hedge and the module are supplied (R450). (DEDUCED, log entry 104.) -/
def State.gpiChanged (s : State) (g : Nat) (level : Bool) : State :=
  if (s.gpi g).level = level ∨ !s.mod.hedgeV ∨ !s.mod.on then s
  else
    let s := s.modGpi g (fun x => { level := level, lastChange := s.now, changes := inc64 x.changes })
    let owner := s.cfgN 0x51 (0x0100 + g) 0x01
    let payload := g + 256 * b2n level + 65536 * s.now
    (s.event owner 1 0 0x40 0 payload).tally g level
/-- A GPO takes a level. -/
def State.driveGpo (s : State) (g : Nat) (level : Bool) : State :=
  s.modGpo g (fun x => { x with level := level, pend := none })
/-- SET of a GPO (R453): it crosses the barrier with its apply time; one received less than 100 µs ahead applies on receipt
(Table 19.8). The first one after ticks resume ends the GPO's fail-safe state; while that lasts, sets are ignored. -/
def State.orderGpo (s : State) (g : Nat) (level : Bool) (at_ : Nat) : State :=
  if !s.mod.hedgeV || ((s.gpo g).failsafe && !s.mod.ticked) then s
  else
    let s := (s.emit (.barrier s.now 2 g (b2n level + 2 * at_))).modGpo g
      (fun x => { x with failsafe := false, pend := some (level, at_) })
    if at_ < s.now + 100000 then s.driveGpo g level else s
/-- A pending set is applied at its time (R451). -/
def State.gpoDue (s : State) (g : Nat) : State :=
  match (s.gpo g).pend with
  | some (l, t) => if t ≤ s.now ∧ !(s.gpo g).failsafe then s.driveGpo g l else s
  | none => s
/-- Every GPO takes its FAILSAFE level: 0 open, 1 closed, 2 hold. HEDGE_V, when it had been lost, is back. -/
def State.gpoFailsafe (s : State) : State :=
  let s := { s with mod := { s.mod with hedgeV := true, ticked := false } }
  (List.range 32).foldl (fun (s : State) g =>
    let v := s.cfgN 0x51 (0x0200 + g) 0x04
    s.modGpo g (fun x => { level := if v = 0 then false else if v = 1 then true else x.level, pend := none,
                           failsafe := true })) s
/-- HEDGE_V is lost (R450): every contact of the Hedge is open. -/
def State.hedgeLoss (s : State) : State :=
  let s := { s with mod := { s.mod with hedgeV := false, ref10m := false, pps := false } }
  let s := (List.range 32).foldl (fun (s : State) g => s.modGpo g (fun x => { x with level := false, pend := none })) s
  let s := s.modFlt (fun f => { f with alive := 0 })
  if s.clk.st = .hedge then s.setTime .holdover else s
/-- A barrier message is discarded and counted; the eleventh of a second raises 0xE02 (R451). The seconds are those of PTP
time (DESIGN CHOICE, log entry 142). -/
def State.barrierError (s : State) : State :=
  let m := s.mod
  let sec := s.now / 1000000000
  let n := if m.errSecond = sec then m.errCount + 1 else 1
  let s := { s with mod := { m with linkErrors := inc64 m.linkErrors, errSecond := sec, errCount := n } }
  if n = 11 then s.pulseFault 0xE02 else s

/-! ## Alive and alert outputs (R381 to R383) -/

/-- Domains of an ALIVE group (Table 15.4). -/
def aliveDomains (g : Nat) : List Nat :=
  if g < 4 then [2 * g, 2 * g + 1] else if g < 6 then [g + 4] else if g = 6 then [10, 15] else [11, 12]
/-- The group's ticks go on, or resume (R381, R382). -/
def State.aliveOk (s : State) (g : Nat) : Bool :=
  !s.groupPruned g && (s.flt.aliveRun.getLsbD g || (aliveDomains g).all (fun d => !(s.errRec d).valid))
/-- An alive tick (R381). -/
def State.aliveTick (s : State) : State :=
  if !s.flt.ticking || !s.mod.on then s
  else
    (List.range 8).foldl (fun (s : State) g =>
      if s.aliveOk g then
        let s := if s.mod.hedgeV then
            { (s.emit (.barrier s.now 3 g 0)) with
              mod := { s.mod with ticked := true }
              flt := { s.flt with alive := s.flt.alive ^^^ (1#8 <<< g) } }
          else s
        s.modFlt (fun f => { f with aliveRun := f.aliveRun ||| (1#8 <<< g) })
      else s.modFlt (fun f => { f with aliveRun := f.aliveRun &&& ~~~(1#8 <<< g) })) s
/-- An alert output's pulse ends; the output follows its ALERT_SW bit from then on (R383). -/
def State.pulseEnds (s : State) (out : Nat) : State :=
  s.modFlt (fun f =>
    if out = 0 then (if f.pulse0 ≤ s.now then { f with pulse0 := 0 } else f)
    else if f.pulse1 ≤ s.now then { f with pulse1 := 0 } else f)

end Sys2Proof.Machine
end

