-- ==== Sys2Proof/Machine/Memory.lean ====
section
/-! DEFINITION. Memory stacks and DMA (14): uncorrectable bursts and retired pages, the patrol scrub, operating-point
changes, and the DMA channels with the exchange areas. -/

namespace Sys2Proof.Machine

/-! ## Uncorrectable bursts (R353 to R355) -/

/-- An uncorrectable burst of stack `d`: counted, logged as KIND 1 or 2, and raised as source `k` (R353, R368). -/
def State.stackError (s : State) (d kind requester address : Nat) (syndrome : BitVec 32) : State :=
  let s := s.modStack d (fun x => { x with uncorrectable := inc64 x.uncorrectable })
  (s.logStack d kind requester address syndrome).pulseFault (0xC00 + 16 * d + kind)
/-- Deep cells of a pipeline die's stack, by byte address: the second area of Table 14.1, half on each stack (R347).
(PRESUMED, log entry 72.) -/
def inDeepArea (address : Nat) : Bool := decide (1073741824 ≤ address) && decide (address < 17 * 1073741824)
/-- A page leaves use for good (R355): stream-region pages and deep cells; other areas are rewritten. A full list logs
KIND 4. (DEDUCED, log entry 73.) -/
def State.retirePage (s : State) (d requester address : Nat) (syndrome : BitVec 32) : State :=
  let page := address % 2 ^ 36 / 4096
  let x := s.stack d
  let kept := if d < 8 then decide (address % 2 ^ 36 < regionArea) else inDeepArea (address % 2 ^ 36)
  if !kept || decide (page ∈ x.retired) then s
  else if 256 ≤ x.retired.length then s.logStack d 4 requester address syndrome
  else
    let s := (s.modStack d (fun x => { x with retired := insertNat page x.retired })).logStack d 3 requester address syndrome
    if d < 8 then s
    else s.modCells ((d - 8) / 2) (fun c =>
      { c with deepFree := c.deepFree - 1, deepRetired := c.deepRetired + min 1 c.deepFree })
/-- An uncorrectable read whose address the requester's command does not carry (DESIGN CHOICE, log entry 12): it is logged, and its page
is retired. -/
def State.readError (s : State) (d requester : Nat) : State :=
  let a := Config.errorAddress s.fresh
  let y := Config.syndrome s.fresh
  ((s.refresh).stackError d 1 requester a y).retirePage d requester a y
/-- An uncorrectable read of a deep copy: its cell is retired when it is freed (R78), so only the page list grows here. -/
def State.deepReadError (s : State) (d requester : Nat) : State :=
  let a := Config.errorAddress s.fresh
  let y := Config.syndrome s.fresh
  let page := a % 2 ^ 36 / 4096
  let s := (s.refresh).stackError d 1 requester a y
  if page ∈ (s.stack d).retired then s
  else if 256 ≤ (s.stack d).retired.length then s.logStack d 4 requester a y
  else (s.modStack d (fun x => { x with retired := insertNat page x.retired })).logStack d 3 requester a y

/-- The failed delivery reads of the command are logged by the stack that holds their burst, one of the die's two (R68,
R353). -/
def State.logReads (s : State) : State :=
  let l := s.fwd.failedReads
  let s := { s with fwd := { s.fwd with failedReads := [] } }
  l.foldl (fun (s : State) e =>
    s.readError (8 + 2 * (e.2 / 33554432) + b2n (Config.deliveryStack (e.2 % 33554432))) (0x0300 + e.1)) s

/-- A corrected burst (R352): counted; more than CE_THRESHOLD in one hour raise k = 0. (DEDUCED, log entry 73.) -/
def State.correctedError (s : State) (d : Nat) : State :=
  let x := s.stack d
  let old := decide (s.now < x.hourStart + 3600000000000)
  let n := if old then x.hourCount + 1 else 1
  let s := if old then s else s.causeGone (0xC00 + 16 * d)
  let s := s.modStack d (fun x =>
    { x with corrected := inc64 x.corrected, hourStart := if old then x.hourStart else s.now, hourCount := n })
  if s.cfgN 0x30 d 0x0C < n then s.raiseFault (0xC00 + 16 * d) else s
/-- The patrol scrub reads a burst of a stack that serves requests (R352): outcome 0 good, 1 corrected, else
uncorrectable (k = 2). -/
def State.scrubBurst (s : State) (d address outcome : Nat) (syndrome : BitVec 32) : State :=
  if (s.stack d).st ≠ 1 ∨ 48 * 1073741824 ≤ address then s
  else
    let s := s.modStack d (fun x => { x with scrubAt := address })
    if outcome = 0 then s
    else if outcome = 1 then s.correctedError d
    else (s.stackError d 2 0x0C00 address syndrome).retirePage d 0x0C00 address syndrome
/-- LOG_CLEAR of a stack (R354). -/
def State.clearLog (s : State) (d : Nat) : State := s.modStack d (fun x => { x with log := [] })

/-! ## Operating points (R356 to R359) -/

/-- The PLL of an operating point of a stack (DESIGN CHOICE, log entry 20). -/
def stackPll (d v : Nat) : Nat := 11 + 2 * d + v
/-- A change of a stack that waits is dropped. -/
def State.dropChange (s : State) (d : Nat) : State :=
  { s with mem := { s.mem with waiting := removeFrom s.mem.waiting d } }
/-- OP_POINT of a pipeline die's stack waits for the next memory training of both stacks of the pair (R359). -/
def State.pairPoint (s : State) (d v : Nat) : State :=
  let p := 8 + 2 * ((d - 8) / 2)
  [p, p + 1].foldl (fun (s : State) m =>
    (s.setCfgN 0x30 m 0x02 1 v).modStack m (fun x =>
      { x with target := v, opState := if x.active = v then 0 else 3 })) s
/-- A write of OP_POINT (R356, R357): 4 Gb/s is refused above the slow budget; a write equal to the point in force cancels
a change that waits; any other waits with its PLL started. A change that runs already ends first. -/
def State.setPoint (s : State) (d v : Nat) : Nat × State :=
  if 8 ≤ d then (0, s.pairPoint d v)
  else if v = 1 ∧ slowBudget < s.dieLoad d then (12, s)
  else
    let x := s.stack d
    let running := decide (x.opState = 2)
    let force := if running then x.target else x.active
    let s := s.dropChange d
    if v = force then
      (0, if running then s else (s.modStack d (fun x => { x with opState := 0, target := v })).stopPll (stackPll d (1 - v)))
    else
      let s := { s with mem := { s.mem with waiting := s.mem.waiting ++ [d] } }
      let s := if running then s else s.modStack d (fun x => { x with opState := 1, target := v })
      (0, if running then s else s.startPll (stackPll d v))

/-- Every twin with a member on a coding stack is WHOLE (R357); no transplant reads or writes it then. -/
def State.twinsWhole (s : State) (d : Nat) : Bool :=
  s.str.twins.all (fun e =>
    let w := e.2
    !(w.lead ++ w.partner ++ w.scion).any (fun b => decide (bedDie b = d)) || decide (w.st = .whole) || decide (w.st = .none))
/-- The member of a whole twin on a stack's die is excused. -/
def State.excuseOn (s : State) (d n : Nat) (w : Twin) : State :=
  if w.st ≠ .whole then s
  else match (w.lead ++ w.partner).find? (fun b => decide (bedDie b = d)) with
    | some b => (s.setExcused n (some b)).countTwin n 9
    | none => s
/-- Every member on a stack is excused (R248, Table 14.4). -/
def State.excuseStack (s : State) (d : Nat) : State :=
  s.str.twins.foldl (fun (s : State) e => s.excuseOn d e.1 e.2) s
/-- The oldest change that waits finds its conditions met (R357): the members on its stack are excused, and the stack
stops accepting requests 10 µs later. (DEDUCED, log entry 74.) -/
def State.opStart (s : State) (d : Nat) : State :=
  let front := s.mem.waiting.find? (fun m => decide ((s.stack m).st = 1))
  let busy := (List.range 8).any (fun m => decide ((s.stack m).opState = 2))
  let x := s.stack d
  if front ≠ some d ∨ busy ∨ x.opState ≠ 1 ∨ stackPll d x.target ∉ s.clk.locked ∨ !s.twinsWhole d then s
  else (((s.dropChange d).modStack d (fun x => { x with opState := 2, u := s.now + 10000 }))).excuseStack d
/-- The instant U: new requests are held (Table 14.4), and soil tests on the die are aborted (R398). -/
def State.opHold (s : State) (d : Nat) : State :=
  let x := s.stack d
  if x.opState ≠ 2 ∨ x.holding ∨ s.now < x.u then s
  else
    let s := s.modStack d (fun x => { x with holding := true, st := 2 })
    (List.range 36).foldl (fun (s : State) j => s.soilAbort (36 * d + j)) s
/-- The change is complete (Table 14.4): the stack serves the held requests at its new point. (DEDUCED, log entry 74.) -/
def State.opDone (s : State) (d : Nat) : State :=
  let x := s.stack d
  if x.opState ≠ 2 ∨ !x.holding ∨ x.u + 28000 < s.now then s
  else
    let again := decide (d ∈ s.mem.waiting)
    let s := s.modStack d (fun x =>
      { x with active := x.target, opAt := s.now, st := 1, holding := false, opState := b2n again,
               target := if again then 1 - x.target else x.target })
    -- The PLL of the old point serves nothing, unless a later write asks for that point again.
    if again then s.startPll (stackPll d (1 - x.target)) else s.stopPll (stackPll d (1 - x.target))
/-- The stack is not available by U + 28 µs (R358): k = 3, and the stack is pruned. -/
def State.opTimeout (s : State) (d : Nat) : State :=
  let x := s.stack d
  if x.opState ≠ 2 ∨ !x.holding ∨ s.now < x.u + 28000 then s
  else ((s.modStack d (fun x => { x with opState := 0 })).raiseFault (0xC00 + 16 * d + 3)).pruneStack d

/-! ## Exchange areas (R361, R369) -/

/-- Size in MiB, die and undefined contents of an allotment's exchange area in force. -/
def State.area (s : State) (a : Nat) : Nat × Nat × Nat := tget (fun _ => (64, 0, 0)) s.mem.areas a
/-- What an unlisted byte of the exchange areas reads as (DESIGN CHOICE, log entry 6): 0, or the undefined contents of a changed area. -/
def Memory.unlisted (m : Memory) (k : Nat) : Byte :=
  let g := (tget (fun _ => (64, 0, 0)) m.areas (k / 2147483648)).2.2
  if g = 0 then 0 else Config.memoryUndefined g (k % 2147483648)
/-- The exchange areas' canonical form: addresses strictly rising, no entry equal to what it would read as unlisted. -/
def Memory.wf (m : Memory) : Bool := twf m.unlisted m.exchange
/-- A byte of an allotment's exchange area. (DESIGN CHOICE, log entry 6.) -/
def State.exchangeByte (s : State) (a off : Nat) : Byte := tget s.mem.unlisted s.mem.exchange (a * 2147483648 + off)
/-- Write a byte of an allotment's exchange area. -/
def State.setExchange (s : State) (a off : Nat) (b : Byte) : State :=
  { s with mem := { s.mem with exchange := tput s.mem.unlisted s.mem.exchange (a * 2147483648 + off) b } }
/-- Write bytes in ascending order. -/
def State.putExchange (s : State) (a : Nat) : Nat → List Byte → State
  | _, [] => s
  | off, b :: r => (s.setExchange a off b).putExchange a (off + 1) r
/-- A changed EXCHANGE_SIZE or EXCHANGE_DIE takes effect when none of the allotment's channels runs; the contents are then
undefined (R369). -/
def State.settleArea (s : State) (a : Nat) : State :=
  let want := (s.cfgN 0x31 a 0x02, s.cfgN 0x31 a 0x03)
  let x := s.area a
  let runs := (List.range 64).any (fun c => decide ((s.dmaCh (64 * a + c)).st = 1))
  if runs ∨ want = (x.1, x.2.1) then s
  else
    let areas := tput (fun _ => (64, 0, 0)) s.mem.areas a (want.1, want.2, s.fresh + 1)
    { s.refresh with
        mem := { s.mem with areas := areas
                            exchange := s.mem.exchange.filter (fun c => !decide (c.1 / 2147483648 = a)) } }
/-- EXCHANGE_SIZE that a write of an allotment is clamped to: 4 GiB in total on the die (R369). -/
def State.areaRoom (s : State) (a die : Nat) : Nat :=
  4096 - (List.range 16).foldl (fun t b =>
    if b ≠ a ∧ s.cfgN 0x31 b 0x03 = die then t + s.cfgN 0x31 b 0x02 else t) 0

/-! ## DMA channels (R361 to R367) -/

/-- A request of `len` bytes lies in its space (Table 14.5). -/
def State.dmaFits (s : State) (a space addr len : Nat) (write : Bool) : Bool :=
  if space = 0 then decide (addr + len ≤ 2 ^ 64)
  else if space = 1 then
    let n := addr / 2 ^ 40
    let lead := ((s.twin n).lead).headD 0
    !write && decide (n < 8192) && decide ((s.slot n).owner = a) && decide ((s.twin n).lead ≠ []) &&
      (s.slot n).regions.any (fun r => decide (r.1 = bedDie lead) && decide (addr % 2 ^ 40 + len ≤ r.2.2))
  else decide (addr + len ≤ (s.area a).1 * 1048576)
/-- A byte of a pot of a stream: its planes in turn, each sample right-aligned in a 16-bit container (R161), least significant byte
first; one that nothing has written is as it was (DESIGN CHOICE, log entry 120). -/
def State.potByte (s : State) (n off : Nat) : Byte :=
  let size := Nat.max 2 (s.potBytes n)
  let sampling := (s.slotFmt n).sampling
  let (w, h) := s.potSize n
  let cw := Nat.max 1 (if sampling = 1 then w else w / 2)
  let ch := Nat.max 1 (if sampling = 2 then h / 2 else h)
  let k := off % size / 2
  let (plane, j, w) := if k < w * h then (0, k, Nat.max 1 w) else ((k - w * h) / (cw * ch) + 1, (k - w * h) % (cw * ch), cw)
  match ((s.slot n).pots.find? (fun p => decide (p.pot = off / size) && decide (p.mark ≠ .named))).bind
      (fun p => s.potSample n p plane (j % w) (j / w)) with
  | some v => BitVec.ofNat 8 (if off % 2 = 0 then v else v / 256)
  | none => Config.potByte n off
/-- A byte of a stream's region: the pots of the stream, those of its tiers, the analysis pot, and the hold buffers (R160, R194;
their order is the model's, DESIGN CHOICE, log entry 81). -/
def State.regionByte (s : State) (n off : Nat) : Byte :=
  let pots := s.potsBytes n
  let w := match (s.feed n).source with
    | some c => (s.conditioned c).1
    | none => 0
  match (s.ladder n).find? (fun m => decide (s.potsAt m ≤ off) && decide (off < s.potsAt m + s.potCount m * s.potBytes m)) with
  | some m => s.potByte m (off - s.potsAt m)
  | none =>
    let k := (off - pots) / 2
    match (if off < pots + s.analysisBytes n then (tget (fun _ => []) (s.slot n).analysis.pot (k / Nat.max 1 w))[k % Nat.max 1 w]?
        else none) with
    | some v => BitVec.ofNat 8 (if off % 2 = 0 then v else v / 256)
    | none => Config.potByte n off
/-- The bytes of a request: the host's own, or those of the area as they stand. -/
def State.dmaSource (s : State) (a : Nat) (d : Dma) (offset : Nat) (data : List Byte) : List Byte :=
  if d.srcSpace = 0 then data
  else if d.srcSpace = 1 then
    (List.range data.length).map (fun i => s.regionByte (d.source / 2 ^ 40) (d.source % 2 ^ 40 + offset + i))
  else (List.range data.length).map (fun i => s.exchangeByte a (d.source + offset + i))
/-- Source of the message interrupts of a channel (R363). -/
def dmaIrq (c : Nat) : Nat := 0x4000 + c
/-- A channel enters DONE (R363). (DEDUCED, log entry 75.) -/
def State.dmaDone (s : State) (c : Nat) : State :=
  let d := s.dmaCh c
  let s := s.modDma c (fun d => { d with st := 2, doneCount := (d.doneCount + 1) % 4294967296 })
  let s := s.settleArea (c / 64)
  if d.irqDone then s.raise (dmaIrq c) else s
/-- A channel halts at a request (R365). -/
def State.dmaHalt (s : State) (c offset cause : Nat) (write : Bool) : State :=
  let d := s.dmaCh c
  let s := s.modDma c (fun d =>
    { d with st := 3, cause := cause, direction := write, retriesUsed := d.tried, early := [],
             faultAddr := ((if write then d.dest else d.source) + offset) % 2 ^ 64,
             remaining := BitVec.ofNat 32 (d.count - d.written) })
  let s := (s.modAllot (c / 64) (fun r => { r with dmaHalts := inc64 r.dmaHalts })).settleArea (c / 64)
  if d.irqHalt then s.raise (dmaIrq c) else s
/-- START (R362). An allotment without a window has no channels. -/
def State.dmaStart (s : State) (a c : Nat) : State :=
  let d := s.dmaCh c
  if c / 64 ≠ a ∨ !s.hasWindow (s.linkOf a) then s
  else if d.st ≠ 0 ∧ d.st ≠ 2 then s.modDma c (fun d => { d with startIgnored := inc64 d.startIgnored })
  else
    let s := s.modDma c (fun d =>
      { d with st := 1, written := 0, early := [], tried := 0, remaining := BitVec.ofNat 32 d.count })
    if d.count = 0 then s.dmaDone c else s
/-- Setting DISABLE (R364): data in flight is lost; REMAINING and the destination range are undefined. -/
def State.dmaDisable (s : State) (a c : Nat) : State :=
  let d := s.dmaCh c
  if c / 64 ≠ a ∨ !s.hasWindow (s.linkOf a) ∨ d.disable then s
  else
    let g := s.fresh
    let ran := decide (d.st = 1)
    let s := s.refresh.modDma c (fun d =>
      { d with disable := true, st := 4, early := [], remaining := Config.remainingUndefined g })
    let size := (s.area a).1 * 1048576
    let s := if ran ∧ 2 ≤ d.dstSpace then
        s.putExchange a d.dest ((List.range (min d.count (size - d.dest))).map (Config.memoryUndefined g))
      else s
    s.settleArea a
/-- Clearing DISABLE: the unit reset of the channel (R364). -/
def State.dmaClear (s : State) (a c : Nat) : State :=
  let d := s.dmaCh c
  if c / 64 ≠ a ∨ !d.disable then s
  else s.modDma c (fun d =>
    { d with disable := false, st := 0, cause := 0, direction := false, retriesUsed := 0, faultAddr := 0 })
/-- Write one run of bytes at the destination. -/
def State.dmaWrite (s : State) (c : Nat) (data : List Byte) : State :=
  let d := s.dmaCh c
  let addr := d.dest + d.written
  let s := if d.dstSpace = 0 then s.emit (.dmaHost s.now c addr data) else s.putExchange (c / 64) addr data
  let s := s.modDma c (fun d =>
    { d with written := d.written + data.length, tried := 0,
             remaining := BitVec.ofNat 32 (d.count - (d.written + data.length)) })
  s.modAllot (c / 64) (fun r => { r with dmaBytes := add64 r.dmaBytes data.length })
/-- Write every run that arrived early and whose turn has come (R363). -/
def State.dmaDrain (s : State) (c : Nat) : Nat → State
  | 0 => s
  | k + 1 =>
    match (s.dmaCh c).early.find? (fun e => decide (e.1 = (s.dmaCh c).written)) with
    | none => s
    | some e =>
      let s := s.modDma c (fun d => { d with early := d.early.filter (fun x => !decide (x.1 = e.1)) })
      (s.dmaWrite c e.2).dmaDrain c k
/-- A request completes: its bytes are written in ascending order (R361, R363). A request outside its space halts the
channel with cause SPACE (R365). -/
def State.dmaArrive (s : State) (c offset : Nat) (data : List Byte) : State :=
  let d := s.dmaCh c
  let a := c / 64
  let data := data.take (d.count - offset)
  let n := data.length
  if d.st ≠ 1 ∨ n = 0 ∨ offset < d.written ∨ d.early.any (fun e => decide (e.1 = offset)) then s
  else if !s.dmaFits a d.srcSpace (d.source + offset) n false then
    (if offset = d.written then s.dmaHalt c offset 5 false else s)
  else if !s.dmaFits a d.dstSpace (d.dest + offset) n true then
    (if offset = d.written then s.dmaHalt c offset 5 true else s)
  else
    let bytes := s.dmaSource a d offset data
    let s := s.modDma c (fun d => { d with early := (offset, bytes) :: d.early })
    let s := s.dmaDrain c (d.early.length + 1)
    if (s.dmaCh c).written = d.count then s.dmaDone c else s
/-- The stack that a channel's source byte lies on: the lead's, or one of a pipeline die's two, interleaved by 4 KiB. -/
def State.dmaStack (s : State) (a : Nat) (d : Dma) (offset : Nat) : Nat :=
  if d.srcSpace = 1 then bedDie (((s.twin (d.source / 2 ^ 40)).lead).headD 0)
  else 8 + 2 * (s.area a).2.1 + (d.source + offset) / 4096 % 2
/-- A request fails, every earlier byte having been written (R365, R366). (DEDUCED, log entry 75.). (DEDUCED, log
entry 76.) -/
def State.dmaFail (s : State) (c offset cause : Nat) : State :=
  let d := s.dmaCh c
  if d.st ≠ 1 ∨ offset ≠ d.written ∨ cause = 0 ∨ 7 ≤ cause then s
  else if d.retry ∧ cause ≤ 3 ∧ d.srcSpace = 0 ∧ d.tried < d.retries then
    s.modDma c (fun d => { d with tried := d.tried + 1, retriesTotal := inc64 d.retriesTotal })
  else
    let a := c / 64
    let s := if cause = 4 then s.readError (s.dmaStack a d offset) (0x0800 + c) else s
    let write :=
      if cause = 5 then s.dmaFits a d.srcSpace (d.source + offset) 1 false
      else decide (cause = 6) && decide (d.srcSpace ≠ 0)
    s.dmaHalt c offset cause write

end Sys2Proof.Machine
end

