-- ==== Sys2Proof/Machine/Calibration.lean ====
section
/-! DEFINITION. Calibration (16): measurements of fibre pairs and sensors, the trim epoch, and trim sets. -/

namespace Sys2Proof.Machine

/-! ## Sides -/

/-- The side of a fibre pair: 0 for pairs 0 to 63. -/
def pairSide (p : Nat) : Nat := p / 64
/-- The side that holds pending pair trims (E 41.0000.03); the pairs of one side only ever do. -/
def State.pendingSide (s : State) : Option Nat :=
  (s.cal.pairs.find? (fun e => e.2.pending.isSome)).map (fun e => pairSide e.1)
/-- The other side than `side` holds pending pair trims. -/
def State.otherPending (s : State) (side : Nat) : Bool :=
  s.cal.pairs.any (fun e => e.2.pending.isSome && decide (pairSide e.1 ≠ side))

/-! ## Running a calibration (R387 to R390) -/

/-- CAL_START (R387): refused for a list that mixes sides (FORMAT), a pair of a PRUNED engine (STATE), or a calibration
that runs or pending trims of the other side (BUSY). -/
def State.calStart (s : State) (b : List Byte) : Nat × State :=
  let kind := fieldAt b 0 1
  let n := fieldAt b 1 1
  let l := (b.drop 2).map (·.toNat)
  let side := pairSide (l.headD 0)
  if 2 ≤ kind ∨ n = 0 ∨ 145 ≤ n ∨ l.length ≠ n ∨ l.any (fun x => decide ((if kind = 0 then 128 else 144) ≤ x)) then (4, s)
  else if kind = 0 ∧ l.any (fun x => decide (pairSide x ≠ side)) then (4, s)
  else if kind = 0 ∧ l.any (fun x => s.isPruned 11 (x / 8)) then (3, s)
  else if s.cal.running ∨ (kind = 0 ∧ s.otherPending side) then (5, s)
  else
    let todo := l.foldl (fun t x => insertNat x t) []
    (0, ({ s with cal := { s.cal with running := true, kind := kind, todo := todo, batch := [] } }).nextBatch)

/-- The trims of a pair lie within Table 16.1. -/
def trimsInRange (l : List Int) : Bool :=
  decide (l.length = 16) && (List.range 16).all (fun k =>
    let v := l.getD k 0
    decide (0 ≤ v) && decide (v ≤ if k < 12 then 4095 else 255))
/-- The lanes of a measured pair are aligned again, unless the port's other pair is still being measured (R388). -/
def State.realign (s : State) (p : Nat) : State :=
  (s.pairPorts p).foldl (fun (s : State) lp =>
    if s.cal.batch.any (fun q => decide (lp ∈ s.pairPorts q)) then s
    else s.modPort lp (fun x => { x with interruptedTo := 0, aligned := true })) s
/-- A pair has been measured (R388): its values are staged and its lanes realign. Values out of range raise the engine's
source, stage nothing and abandon the engine's pairs (R390). -/
def State.pairMeasured (s : State) (p : Nat) (trims : List Int) : State :=
  if p ∉ s.cal.batch then s
  else
    let s := { s with cal := { s.cal with batch := removeFrom s.cal.batch p } }
    let s := (s.modPair p (fun x => { x with lastCal := s.now })).realign p
    let k := p / 8
    if trimsInRange trims then
      ((s.modPair p (fun x => { x with pending := some trims })).causeGone (0xB02 + 4 * k)).nextBatch
    else
      let s := s.cal.batch.foldl (fun (s : State) q =>
        if q / 8 = k then ({ s with cal := { s.cal with batch := removeFrom s.cal.batch q } }).realign q else s) s
      let s := { s with cal := { s.cal with todo := s.cal.todo.filter (fun q => !decide (q / 8 = k)) } }
      (s.raiseFault (0xB02 + 4 * k)).nextBatch
/-- The lanes are not aligned 100 µs after the interruption should have ended: R42 applies (R388). -/
def State.alignTimeout (s : State) (lp : Nat) : State :=
  let p := s.port lp
  if p.interruptedTo = 0 ∨ s.now < p.interruptedTo + 100000 then s
  else (s.modPort lp (fun x => { x with interruptedTo := 0 })).portLost lp
/-- A sensor's correction lies within Table 16.1. -/
def sensorInRange (o g : Int) : Bool :=
  decide (-2048 ≤ o) && decide (o ≤ 2047) && decide (-32768 ≤ g) && decide (g ≤ 32767)
/-- The calibration of a list of sensors ends, and stages its results (R387). (DEDUCED, log entry 77.) -/
def State.sensorsDone (s : State) (results : List (Nat × Int × Int)) : State :=
  if !s.cal.running ∨ s.cal.kind ≠ 1 then s
  else
    let todo := s.cal.todo
    let s := { s with cal := { s.cal with running := false, todo := [] } }
    results.foldl (fun (s : State) r =>
      if r.1 ∈ todo ∧ sensorInRange r.2.1 r.2.2 then s.modSensor r.1 (fun x => { x with pending := some r.2 }) else s) s

/-! ## The trim epoch (R391 to R393) -/

/-- The first whole millisecond at least 1 ms ahead. -/
def State.nextEpoch (s : State) : Nat := ceilDiv (s.now + 1000000) 1000000 * 1000000
/-- EPOCH (R391): 0 arms the next whole millisecond at least 1 ms ahead, and an earlier time is clamped to it. -/
def State.armEpoch (s : State) (a v : Nat) : State :=
  let early := decide (v ≠ 0) && decide (v < s.now + 1000000)
  let s := if early then s.clamp a else s
  { s with cal := { s.cal with armed := if v = 0 ∨ early then s.nextEpoch else v } }
/-- The Cold Frame writes its copy of the active banks (R393). -/
def State.saveTrims (s : State) : State :=
  { s with cal := { s.cal with
      savedPairs := s.cal.pairs.filterMap (fun e => if e.2.active = [] then none else some (e.1, e.2.active))
      savedSensors := s.cal.sensors.filterMap (fun e => if e.2.active = (0, 0) then none else some (e.1, e.2.active))
      saved := true } }
/-- The armed instant (R391, R392): pending values become active at once; a pair that is being measured keeps its own, and
a pair whose values change is interrupted for 20 µs. -/
def State.trimEpoch (s : State) : State :=
  if s.cal.armed = 0 ∨ s.now < s.cal.armed then s
  else
    let s := { s with cal := { s.cal with armed := 0 } }
    let pairs := s.cal.pairs.filter (fun e => e.2.pending.isSome && !decide (e.1 ∈ s.cal.batch))
    let sensors := s.cal.sensors.filter (fun e => e.2.pending.isSome)
    if pairs.isEmpty && sensors.isEmpty then { s with cal := { s.cal with emptyEpochs := inc64 s.cal.emptyEpochs } }
    else
      let s := pairs.foldl (fun (s : State) e =>
        let v := e.2.pending.getD []
        let s := s.modPair e.1 (fun x => { x with active := v, pending := none })
        if v = e.2.active then s else s.interruptPair e.1 (s.now + 20000)) s
      let s := sensors.foldl (fun (s : State) e =>
        s.modSensor e.1 (fun x => { active := e.2.pending.getD x.active, pending := none })) s
      ({ s with cal := { s.cal with epochAt := s.now } }).saveTrims
/-- DISCARD (R392). -/
def State.discardTrims (s : State) : State :=
  let s := { s with cal := { s.cal with armed := 0 } }
  let s := s.cal.pairs.foldl (fun (s : State) e => s.modPair e.1 (fun x => { x with pending := none })) s
  s.cal.sensors.foldl (fun (s : State) e => s.modSensor e.1 (fun x => { x with pending := none })) s

/-! ## Trim sets (R394, R395) -/

/-- Pair record of Table 16.2. -/
def pairRecord (l : List Int) : List Byte :=
  ((List.range 12).flatMap (fun k => natLe 2 (ofSigned 16 (l.getD k 0)))) ++
    ((List.range 4).flatMap (fun k => natLe 1 (ofSigned 8 (l.getD (12 + k) 0)))) ++ natLe 4 0
/-- A pair record read back. -/
def pairOf (b : List Byte) : List Int :=
  ((List.range 12).map (fun k => (fieldAt b (2 * k) 2 : Int))) ++ ((List.range 4).map (fun k => (fieldAt b (24 + k) 1 : Int)))
/-- Sensor record of Table 16.2. -/
def sensorRecord (x : Int × Int) : List Byte := natLe 2 (ofSigned 16 x.1) ++ natLe 2 (ofSigned 16 x.2)
/-- TRIM_SET (Table 16.2): the active banks. -/
def State.trimSet (s : State) : List Byte :=
  let body := natLe 4 1 ++ natLe 4 0 ++ natLe 8 s.now ++ natLe 8 (crc64 serialBytes).toNat ++ natLe 8 0 ++
    ((List.range 128).flatMap (fun p => pairRecord (s.pair p).active)) ++
    ((List.range 144).flatMap (fun n => sensorRecord (s.sensor n).active))
  body ++ natLe 8 (crc64 body).toNat
/-- Bring a pair's fields into their ranges (R302). -/
def clampPair (l : List Int) : List Int :=
  (List.range 16).map (fun k => clip (l.getD k 0) 0 (if k < 12 then 4095 else 255))
/-- TRIM_RESTORE (R395): stages one side's pairs, and side 0 every sensor. -/
def State.trimRestore (s : State) (a : Nat) (b : List Byte) : Nat × State :=
  let wide := decide (1 < fieldAt b 0 1)
  let side := min (fieldAt b 0 1) 1
  let set := b.drop 1
  if set.length ≠ 4712 ∨ fieldAt set 0 4 ≠ 1 ∨ fieldAt set 16 8 ≠ (crc64 serialBytes).toNat ∨
      fieldAt set 4704 8 ≠ (crc64 (set.take 4704)).toNat then (4, s)
  else if s.otherPending side ∨ s.cal.batch.any (fun p => decide (pairSide p = side)) then (5, s)
  else
    let pairs := (List.range 64).map (fun j => (64 * side + j, pairOf (slice set (32 + 32 * (64 * side + j)) 32)))
    let sensors := if side = 1 then [] else (List.range 144).map (fun n =>
      (n, toSigned 16 (fieldAt set (4128 + 4 * n) 2), toSigned 16 (fieldAt set (4130 + 4 * n) 2)))
    let wide := wide || pairs.any (fun x => decide (clampPair x.2 ≠ x.2)) ||
      sensors.any (fun x => decide (clip x.2.1 (-2048) 2047 ≠ x.2.1))
    let s := if wide then s.clamp a else s
    let s := pairs.foldl (fun (s : State) x => s.modPair x.1 (fun p => { p with pending := some (clampPair x.2) })) s
    (0, sensors.foldl (fun (s : State) x =>
      s.modSensor x.1 (fun p => { p with pending := some (clip x.2.1 (-2048) 2047, x.2.2) })) s)

end Sys2Proof.Machine
end

