-- ==== Sys2Proof/Machine/Counters.lean ====
section
/-! DEFINITION. Counters (17): the selection, freezing and snapshots of bed counters, overflow samples, harvest lists,
and harvests. -/

namespace Sys2Proof.Machine

/-! ## Bed counters (R404 to R408) -/

/-- Bring the counters of every bed up to now. -/
def State.tickAll (s : State) : State := s.str.beds.foldl (fun (s : State) e => s.tick e.1) s
/-- A COUNTER_SEL value in its legal range (Table 17.5, R403): reserved events become 0x00. -/
def legalCounter (b : List Byte) : List Byte :=
  let ev := fieldAt b 0 1
  let ok := decide (ev < 0x20) || (decide (0x40 ≤ ev) && decide (ev < 0x88))
  natLe 1 (if ok then ev else 0) ++ natLe 1 (min (fieldAt b 1 1) 1) ++ natLe 1 (min (fieldAt b 2 1) 1) ++
    natLe 8 (min (fieldAt b 3 8) (2 ^ 48 - 2))
/-- COUNTER_SEL of counter `i` reaches every bed (R404): the counter starts at 0, or at PRESET when sampling is on. -/
def State.selectCounter (s : State) (i : Nat) (b : List Byte) : State :=
  let s := s.tickAll.setCfg 0x43 0 (0x10 + i) b
  let (ev, _, sample, preset) := s.counterSel i
  let start := if sample then preset else 0
  (List.range 288).foldl (fun (s : State) n =>
    let level := s.bedLevel n ev
    s.modBed n (fun x => { x with bc := x.bc.set i start, missed := x.missed.set i 0, sampling := removeFrom x.sampling i,
                                  levels := x.levels.set i level })) s
/-- FREEZE stops or restarts all bed counters together (R405). -/
def State.freezeAll (s : State) (on : Bool) : State :=
  let s := s.tickAll
  { s with str := { s.str with frozen := on } }
/-- A snapshot of every bed counter of every powered bed (R406). -/
def State.snapshot (s : State) : State :=
  let s := s.tickAll
  let s := (List.range 288).foldl (fun (s : State) n =>
    if (s.bed n).st = .off ∨ (s.bed n).st = .waking then s else s.modBed n (fun x => { x with snap := x.bc })) s
  { s with str := { s.str with snapTime := s.now } }
/-- Payload of a sample entry (Table 17.2, from bit 96 up). -/
def samplePayload (bed counter upc : Nat) (space : Bool) (slot picture row ctu missed : Nat) : Nat :=
  bed % 512 + counter % 8 * 2 ^ 9 + upc % 16384 * 2 ^ 16 + b2n space * 2 ^ 30 + slot % 8192 * 2 ^ 32 +
    picture % 2 ^ 32 * 2 ^ 48 + row % 512 * 2 ^ 80 + min ctu 127 * 2 ^ 89 + saturate 32 missed * 2 ^ 96
/-- A sampling bed counter overflows (R407, R408): it reloads PRESET, and the sample of the recorded word is written to the
sample ring of a0. While frozen no sample is taken (R405). (DEDUCED, log entry 78.) -/
def State.counterSample (s : State) (n i upc : Nat) (space : Bool) (slot picture row ctu : Nat) : State :=
  let (_, _, sample, preset) := s.counterSel i
  let b := s.bed n
  if !sample || s.str.frozen || decide (b.st = .off) || decide (b.st = .waking) then s
  else
    let missed := b.missed.getD i 0
    let s := s.modBed n (fun x =>
      { x with bc := if i ∈ x.sampling then x.bc else x.bc.set i preset, missed := x.missed.set i 0,
               sampling := removeFrom x.sampling i })
    s.event 0 (s.cfgN 0x43 0 0x05) (0x1000 + 8 * n) 0x30 0
      (samplePayload n i upc space slot picture row ctu missed)

/-! ## Histograms (R409, R411) -/

/-- A histogram as its entry shows it (Table 17.5): 64 bins, SUM, MAX. -/
def Hist.record (h : Hist) : List Byte :=
  ((List.range 64).flatMap (fun b => natLe 4 (tget (fun _ => 0) h.bins b))) ++ natLe 8 h.sum ++ natLe 8 h.max
/-- HIST_CLEAR of a stream (R411): at its next boundary, or at once when it codes no pictures. -/
def State.orderHistClear (s : State) (n : Nat) : Nat × State :=
  if 3 ≤ (s.slot n).st then
    let b := s.nextBoundary n
    (b, s.modSlot n (fun x => { x with histClear := some b }))
  else (s.now, s.modSlot n (fun x => { x with histClear := none, coding := {}, residence := {} }))

/-! ## Harvests (R412 to R414) -/

/-- Where the object of a record stands (Table 17.4): its family and instance, its space and number. -/
def harvestObject (kind i : Nat) : Option (Nat × Nat × Space × Nat) :=
  let slot := fun fam base sp => if i < 8192 then some (fam, base + i, sp, i) else none
  match kind with
  | 1 => if i < 1024 then some (0x10, i, .lport, i) else none
  | 2 => if i < 262144 then some (0x12, i / 256, .queues, i / 256) else none
  | 3 => slot 0x21 0 .encode
  | 4 => slot 0x23 0 .decode
  | 5 => slot 0x24 0 .twin
  | 6 => if i < 2048 then some (0x20, i, .intake, i) else none
  | 7 => slot 0x20 0x2000 .feed
  | 8 => if i < 65536 then some (0x14, i, .policer, i) else none
  | 9 => if i < 288 then some (0x60, 0x1000 + i, .bed, i) else none
  | 10 => slot 0x43 0x1000 .hist
  | _ => none
/-- Record slots that a record takes. -/
def harvestSlots (kind : Nat) : Nat := if kind = 10 then 5 else 1
/-- An allotment may see an object (R413, R329); a bed while it runs a slot of the allotment. (DEDUCED, log entry 78.) -/
def State.harvestRight (s : State) (a kind i : Nat) : Bool :=
  match harvestObject kind i with
  | none => false
  | some (fam, inst, sp, n) =>
    decide (a = 0) ||
      (if kind = 9 then (s.bed i).slots.any (fun k => decide ((s.slot k).owner = a))
       else decide (s.ownerOf sp n = some a) ||
        (bit (s.cfgN 0x04 a 0x04) 1 && bit (s.cfgN fam inst 0) a))
/-- A list as its entry holds it: U8 KIND, U32 INSTANCE. -/
def harvestList (b : List Byte) : List (Nat × Nat) :=
  (List.range (b.length / 5)).map (fun k => (fieldAt b (5 * k) 1, fieldAt b (5 * k + 1) 4))
/-- The bytes of a list. -/
def harvestBytes (l : List (Nat × Nat)) : List Byte := l.flatMap (fun e => natLe 1 e.1 ++ natLe 4 e.2)
/-- HARVEST_LIST of an allotment (R413): a list too long, or an entry that names no object, is refused with FORMAT; an
object that the allotment may not see with RIGHTS. A bed belongs to nobody and may always be listed. -/
def State.setHarvest (s : State) (a : Nat) (b : List Byte) : Nat × State :=
  let l := harvestList b
  if b.length % 5 ≠ 0 ∨ 4032 < (l.map (fun e => harvestSlots e.1)).sum ∨ l.any (fun e => (harvestObject e.1 e.2).isNone) then
    (4, s)
  else if l.any (fun e => decide (e.1 ≠ 9) && !s.harvestRight a e.1 e.2) then (2, s)
  else (0, s.modHarvest a (fun h => { h with pend := some (l, s.now) }))

/-- Two U32 as one U64. -/
def pairUp : List Nat → List Nat
  | x :: y :: r => (x + 4294967296 * y) :: pairUp r
  | l => l
/-- Values of a record (Table 17.4). -/
def State.harvestValues (s : State) (kind i : Nat) : List Nat :=
  match kind with
  | 1 =>
    let c := (s.port i).cnt
    [c.framesRx, c.octetsRx, c.framesTx, c.octetsTx, add64 c.short (c.long + c.fcs), c.overruns, c.unknownMulticast,
     c.calDrops, c.pauseRx, c.pfcRx]
  | 2 => let q := s.queue i; [q.sent, q.dropFull, q.dropPolice, q.dropGate, q.late, q.gateWaits]
  | 3 => (s.slot i).counts
  | 4 => (s.slot i).dec.counts
  | 5 => (s.twin i).counts
  | 6 => (s.intake i).counts
  | 7 => (s.feed i).counts
  | 8 => let p := s.policer i; [p.green, p.yellow, p.red]
  | 9 => (s.bed i).snap
  | 10 =>
    let c := (s.slot i).coding
    let r := (s.slot i).residence
    let bins := fun (h : Hist) => (List.range 64).map (tget (fun _ => 0) h.bins)
    pairUp (bins c ++ bins r) ++ [c.sum, c.max, r.sum, r.max]
  | _ => []
/-- A record at the harvest instant (R413): VALID while the allotment may see the object, else every counter zero. -/
def State.harvestRecord (s : State) (a kind i : Nat) : HRecord :=
  let ok := s.harvestRight a kind i
  { kind := kind, inst := i, valid := ok, values := if ok then s.harvestValues kind i else [] }
/-- One allotment at a harvest instant (R412, R413): a harvest still being copied is abandoned, a list due takes effect,
and a new copy begins. -/
def State.harvestAllot (s : State) (a : Nat) : State :=
  let h := (s.allot a).harvest
  let due := h.pend.any (fun p => decide (p.2 + 1000000 ≤ s.now))
  let list := if due then (h.pend.map (·.1)).getD [] else h.list
  let image : HImage :=
    { time := s.now, records := list.map (fun e => s.harvestRecord a e.1 e.2), frozen := s.str.frozen,
      snapTime := s.str.snapTime, periodMs := s.str.harvestMs }
  s.modHarvest a (fun h =>
    { h with list := list, pend := if due then none else h.pend,
             listGen := if due then (h.listGen + 1) % 65536 else h.listGen,
             skipped := if h.copying.isSome then (h.skipped + 1) % 4294967296 else h.skipped,
             copying := some image })
/-- A harvest instant (R412): a multiple of the period in force. A new period takes effect here. -/
def State.harvest (s : State) : State :=
  if s.now % (s.str.harvestMs * 1000000) ≠ 0 then s
  else
    let s := (List.range 16).foldl State.harvestAllot s.snapshot
    { s with str := { s.str with harvestMs := s.cfgN 0x43 0 0x01 } }
/-- An allotment's copy is complete: its window switches banks (R412). -/
def State.harvestShown (s : State) (a : Nat) : State :=
  match (s.allot a).harvest.copying with
  | none => s
  | some image => s.modHarvest a (fun h => { h with image := image, copying := none, seq := inc64 h.seq })

/-- Bytes of a record and its further slots (Table 17.4): 128 bytes a slot. -/
def HRecord.bytes (r : HRecord) : List Byte :=
  let n := 128 * harvestSlots r.kind
  ((natLe 1 r.kind ++ natLe 3 (b2n r.valid) ++ natLe 4 r.inst ++ r.values.flatMap (natLe 8)) ++ List.replicate n 0).take n
/-- The harvest header and records as the counter pages show them (R414): the header fills 0x1000 bytes. -/
def Harvest.page (h : Harvest) : List Byte :=
  let slots := (h.image.records.map (fun r => harvestSlots r.kind)).sum
  let header := natLe 8 h.seq ++ natLe 8 h.image.time ++ natLe 4 h.image.periodMs ++ natLe 2 slots ++ natLe 2 h.listGen ++
    natLe 4 h.skipped ++ natLe 4 (b2n h.image.frozen) ++ natLe 8 h.image.snapTime
  (header ++ List.replicate 4096 0).take 4096 ++ h.image.records.flatMap HRecord.bytes

end Sys2Proof.Machine
end

