-- ==== Sys2Proof/Machine/Gauge.lean ====
section
/-! DEFINITION. The Rain Gauge (18): the meter blocks' increments, intervals, charges, records, its store, its seal and
its port. Gauge time is PTP time (DESIGN CHOICE, log entry 31). -/

namespace Sys2Proof.Machine

/-- Change the gauge. -/
def State.modGauge (s : State) (f : Gauge → Gauge) : State := { s with gauge := f s.gauge }

/-! ## Increments (R418, R421) -/

/-- Add one table of usage to another. -/
def mergeUsage (t u : Tab Usage) : Tab Usage := u.foldl (fun t e => addUsage t (e.1 / 8) (e.1 % 8) e.2) t
/-- The gauge counts nothing: it waits for time after a loss, or for the first boundary after it (R425). -/
def Gauge.idle (g : Gauge) : Bool := g.restarting || g.flags.gap
/-- A meter block sends its increments (R418): those of before the last boundary count in the interval being closed, or,
when that is closed already, in the open one as late increments. -/
def State.meterSend (s : State) (die : Nat) : State :=
  let g := s.gauge
  if !g.powered ∨ !s.mod.on ∨ s.rail (4 + die) ≠ 1 then s
  else
    let was := if die = 0 then g.old0 else g.old1
    let now_ := if die = 0 then g.meter0 else g.meter1
    let g := if die = 0 then { g with meter0 := [], old0 := [] } else { g with meter1 := [], old1 := [] }
    let g :=
      if was.isEmpty then g
      else match g.closing with
      | some c => { g with closing := some { c with usage := if c.flags.gap then c.usage else mergeUsage c.usage was } }
      | none => if g.idle then g else { g with usage := mergeUsage g.usage was, lateIncrements := g.lateIncrements + 1 }
    { s with gauge := if g.idle then g else { g with usage := mergeUsage g.usage now_ } }
/-- No increment of a powered die for 5 ms (R418). -/
def State.meterMissing (s : State) (die : Nat) : State :=
  if !s.gauge.powered ∨ !s.mod.on ∨ s.rail (4 + die) ≠ 1 then s
  else s.modGauge (fun g => { g with flags :=
    if die = 0 then { g.flags with missing0 := true } else { g.flags with missing1 := true } })

/-! ## Time (R420, R425) -/

/-- End of the last stored record. -/
def Gauge.lastEnd (g : Gauge) : Nat := (g.records.getLast?.map (fun r => r.start + r.length * 1000000000)).getD 0
/-- The hub's time reaches the gauge (R420): time that is not traceable leaves it free. After a loss, the open interval
becomes the GAP interval, from the end of the last stored record (R425). -/
def State.gaugeTime (s : State) : State :=
  if !s.gauge.powered ∨ !s.mod.on then s
  else
    let s := if s.traceable then s.modGauge (fun g => { g with lastHub := s.now })
      else s.modGauge (fun g => { g with flags := { g.flags with timeFree := true } })
    if !s.gauge.restarting then s
    else s.modGauge (fun g =>
      { g with restarting := false, usage := [], start := g.lastEnd, flags := { g.flags with gap := true } })
/-- The gauge runs free: no time for 10 s, or time that is not traceable (R420). -/
def State.gaugeFree (s : State) : Bool := !s.traceable || !s.mod.on || decide (s.gauge.lastHub + 10000000000 ≤ s.now)
/-- TIME_FREE in the current record (R420). -/
def State.gaugeTimeFree (s : State) : State :=
  if !s.gauge.powered ∨ !s.gaugeFree then s
  else s.modGauge (fun g => { g with flags := { g.flags with timeFree := true } })

/-! ## Records (R421 to R427) -/

/-- FLAGS of an interval (Table 18.2). -/
def GaugeFlags.bits (f : GaugeFlags) : Nat :=
  b2n f.sealOpen + 2 * b2n f.moduleOff + 4 * b2n f.timeFree + 8 * b2n f.gap + 16 * b2n f.missing0 + 32 * b2n f.missing1
/-- A rate of a tariff table: 0 bytes, 1 packets, 2 picture time (R426). -/
def tariffRate (t : List Byte) (c k : Nat) : Nat := fieldAt t (8 + 12 * c + 4 * k) 4
/-- The sum that an allotment's charge divides (R426). -/
def chargeSum (t : List Byte) (u : Tab Usage) (a carry : Nat) : Nat :=
  (List.range 5).foldl (fun n c =>
    let x := usageOf u a c
    n + x.bytes * tariffRate t c 0 + x.packets * tariffRate t c 1 + x.pictureUs * tariffRate t c 2) carry
/-- USAGE of an allotment (Table 18.2). -/
def usageBytes (u : Tab Usage) (a : Nat) : List Byte :=
  (List.range 5).flatMap (fun c =>
    let x := usageOf u a c
    natLe 8 x.packets ++ natLe 8 x.bytes ++ natLe 8 x.pictureUs ++ natLe 8 x.heldUs)
/-- A record up to its signature (Table 18.2). -/
def Gauge.recordBody (g : Gauge) (c : GaugeClosing) (seq length : Nat) (charges : List (Nat × Nat)) : List Byte :=
  natLe 4 1 ++ natLe 4 0 ++ natLe 8 seq ++ natLe 8 c.start ++ natLe 4 length ++ natLe 4 c.flags.bits ++
    natLe 8 (crc64 serialBytes).toNat ++ natLe 8 (crc64 c.tariff).toNat ++ natLe 4 g.lostUnread ++
    natLe 4 g.lateIncrements ++ natLe 8 0 ++ (List.range 16).flatMap (usageBytes c.usage) ++
    charges.flatMap (fun x => natLe 8 x.1 ++ natLe 8 x.2)
/-- Put a record into the store of 65,536 (R424): the newest overwrites the oldest. -/
def Gauge.store (g : Gauge) (r : GaugeRec) : Gauge :=
  if g.records.length < 65536 then { g with records := g.records ++ [r] }
  else
    let old := (g.records.head?.map (·.seq)).getD 0
    { g with records := g.records.drop 1 ++ [r], lostUnread := if g.ackSeq < old then g.lostUnread + 1 else g.lostUnread }
/-- Close an interval (R421, R426): charge, sign and store its record; its source is raised in the hub (R430). -/
def State.closeInterval (s : State) : State :=
  match s.gauge.closing with
  | none => s
  | some c =>
    let g := s.gauge
    let carry := fun a => tget (fun _ => 0) g.carry a
    let sums := (List.range 16).map (fun a => chargeSum c.tariff c.usage a (carry a))
    let charges := sums.map (fun n => (n / 1000000000, n % 1000000000))
    let seq := g.lastSeq + 1
    let length := (c.finish - c.start) / 1000000000
    let body := g.recordBody c seq length charges
    let rec_ : GaugeRec := { seq := seq, start := c.start, length := length, bytes := body ++ Config.gaugeSign body }
    let carries := (List.range 16).foldl (fun t a => tput (fun _ => 0) t a (charges.getD a (0, 0)).2) g.carry
    let g := { g with closing := none, carry := carries, lastSeq := seq, toSend := g.toSend ++ [seq] }
    let s := { s with gauge := g.store rec_ }
    if s.mod.on then s.raise 0x0200 else s
/-- A setting of the gauge as it stood when the decision slot in progress began: a boundary in the slot of a change closes
its interval first, under the old values (R427). -/
def State.gaugeSetting (s : State) (mem : Nat) : List Byte :=
  match s.alm.slotOld.find? (fun e => decide (e.1 = s.now / 10) && decide (e.2.1 = entryKey 0x50 0 mem)) with
  | some e => e.2.2
  | none => s.cfg 0x50 0 mem
/-- An interval boundary passes (R421): the interval waits to be closed, and the next begins under the settings that now
stand (R427). -/
def State.gaugeBoundary (s : State) : State :=
  let g := s.gauge
  if !g.powered ∨ g.restarting ∨ s.now % (g.interval * 1000000000) ≠ 0 ∨ s.now ≤ g.start then s
  else
    let s := s.closeInterval
    let g := s.gauge
    let closing : GaugeClosing :=
      { start := g.start, finish := s.now, usage := g.usage, flags := g.flags, tariff := g.tariff }
    let flags : GaugeFlags := { sealOpen := g.sealOpen, moduleOff := !s.mod.on, timeFree := s.gaugeFree }
    { s with gauge :=
      { g with closing := some closing, start := s.now, usage := [], flags := flags, interval := leNat (s.gaugeSetting 0x01),
               tariff := s.gaugeSetting 0x02, old0 := g.meter0, old1 := g.meter1, meter0 := [], meter1 := [] } }
/-- The gauge closes the record, 10 ms after the boundary or later (R421). -/
def State.gaugeClose (s : State) : State :=
  match s.gauge.closing with
  | none => s
  | some c => if !s.gauge.powered ∨ s.now < c.finish + 10000000 then s else s.closeInterval
/-- RECORD (Table 18.3): a stored record by its number. -/
def Gauge.find (g : Gauge) (seq : Nat) : Option GaugeRec := g.records.find? (fun r => decide (r.seq = seq))
/-- ACK_SEQ brought into its range (Table 18.3). -/
def Gauge.legalAck (g : Gauge) (v : Nat) : Nat := min (Nat.max v g.ackSeq) g.lastSeq

/-! ## Port, seal and supply (R425, R428, R429) -/

/-- The gauge port works: RG_KEEP and the Hedge's own supply are present. -/
def State.gaugePort (s : State) : Bool := s.gauge.powered && s.mod.hedgeV
/-- A frame of the gauge port (R455): 0x55, 0xAA, the type (1 key block, 2 record), the length, the payload, and the CRC-32 of the
bytes before it (DESIGN CHOICE, log entry 137). -/
def gaugeFrame (type : Nat) (payload : List Byte) : List Byte :=
  let head := natLe 1 0x55 ++ natLe 1 0xAA ++ natLe 2 type ++ natLe 2 payload.length ++ payload
  head ++ natLe 4 (crc32 head).toNat
/-- A record leaves the port: a replay's first, else the oldest new one (R429). -/
def State.gaugeSend (s : State) : State :=
  let out := fun (s : State) (seq : Nat) => match s.gauge.find seq with
    | some r => s.emit (.gauge s.now seq (gaugeFrame 2 r.bytes))
    | none => s
  if !s.gaugePort then s
  else match s.gauge.replay with
  | some (x :: r) => (out s x).modGauge (fun g => { g with replay := if r.isEmpty then none else some r })
  | _ => match s.gauge.toSend with
    | [] => s
    | x :: r => (out s x).modGauge (fun g => { g with toSend := r })
/-- A REPLAY edge (R429): the key block, then every stored record, oldest first. -/
def State.gaugeReplay (s : State) : State :=
  if !s.gaugePort then s
  else
    let l := s.gauge.records.map (·.seq)
    (s.emit (.gauge s.now 0 (gaugeFrame 1 Config.keyBlock))).modGauge (fun g => { g with replay := if l.isEmpty then none else some l })
/-- The sealed lid opens (R428): latched, ALERT1 is asserted and 0xE00 reported. -/
def State.sealOpens (s : State) : State :=
  if !s.gauge.powered then s
  else ((s.modGauge (fun g => { g with sealOpen := true, flags := { g.flags with sealOpen := true } })).alert 1).raiseFault 0xE00
/-- RG_KEEP is lost (R425): the counts of the open interval are gone. (DEDUCED, log entry 79.) -/
def State.gaugeLost (s : State) : State :=
  s.modGauge (fun g => { g with powered := false, usage := [], closing := none, replay := none })
/-- RG_KEEP returns (R425): the gauge waits for time, and the Cold Frame raises 0xE01. (DEDUCED, log entry 79.) -/
def State.gaugeReturns (s : State) : State :=
  if s.gauge.powered then s
  else
    let flags : GaugeFlags := { sealOpen := s.gauge.sealOpen, moduleOff := !s.mod.on }
    (s.modGauge (fun g => { g with powered := true, restarting := true, flags := flags })).pulseFault 0xE01

end Sys2Proof.Machine
end

