-- ==== Sys2Proof/Machine/PowerUp.lean ====
section
/-! DEFINITION. Power-up (21): what survives in the Cold Frame, the Rain Gauge, the Hedge and the start image, the
milestones of Table 21.1, and the readmission of streams. -/

namespace Sys2Proof.Machine

/-! ## What survives (R393, R446, R478, R479) -/

/-- Keep a table's entries under a change of each. -/
def tmap {α β : Type} [DecidableEq β] (d : Nat → β) (f : Nat → α → β) (t : Tab α) : Tab β :=
  t.foldl (fun r e => tput d r e.1 (f e.1 e.2)) []
/-- Entries accepted but not yet in force when power failed stand in the image: the shadows of streams, a group's pending
PERIOD, the conditioning of channels, and addresses. (DESIGN CHOICE, log entry 30.) -/
def State.imageStore (s : State) : Tab (List Byte) :=
  let s := s.str.slots.foldl (fun (s : State) e => e.2.shadow.foldl (fun (s : State) w =>
    s.setCfg w.fam (if w.fam = 0x20 then 0x2000 + e.1 else e.1) w.mem w.val) s) s
  let s := s.str.groups.foldl (fun (s : State) e => match e.2.pend with
    | some (v, _) => s.setCfgN 0x22 (0x2000 + e.1) 0x04 2 v
    | none => s) s
  let s := s.str.intakes.foldl (fun (s : State) e => e.2.pending.foldl (fun (s : State) w => s.setCfg 0x20 e.1 w.1 w.2) s) s
  let s := s.alm.addrPend.foldl (fun (s : State) e => s.setCfg 0x01 0 e.1 e.2.2) s
  s.alm.store
/-- A slot as the image holds it (R479): streams that were admitted wait to be readmitted. -/
def Slot.fromImage (x : Slot) : Slot :=
  { owner := x.owner, kind := x.kind, st := min x.st 1, readmit := x.readmit || decide (3 ≤ x.st), role := x.role,
    anchor := x.anchor }
/-- An allotment's record at power-up: its key and harvest list from the image; its session under KEEP (R297). -/
def State.allotFromImage (s : State) (lost : Bool) (a : Nat) (x : Allot) : Allot :=
  { session := if lost then 0 else x.session
    nextSeq := if lost then 0 else x.nextSeq
    key := x.key
    link := if lost then none else some (s.cfgN 0x04 a 0x03)
    harvest := { list := match x.harvest.pend with
                         | some (l, _) => l
                         | none => x.harvest.list } }
/-- A pipeline's configured records. -/
def Pipeline.fromImage (x : Pipeline) : Pipeline :=
  { flows := x.flows.map (fun f => { f with bad := false })
    l2 := (x.l2.filter (·.static)).map (fun e => { e with bad := false }) }
/-- The state that power-up starts from: State.reset, and what the stores keep. (DESIGN CHOICE, log entry 30.).
(DEDUCED, log entry 84.) -/
def State.kept (s : State) (lost : Bool) : State :=
  { now := s.now
    pending := s.pending
    answer := s.answer
    emits := s.emits
    fresh := s.fresh
    allots := tmap (fun _ => {}) (s.allotFromImage lost) ((List.range 16).map (fun a => (a, s.allot a)))
    alm := { store := s.imageStore, imaged := s.alm.imaged, credits := s.alm.credits, changeLog := s.alm.changeLog }
    fwd := { pipes := tmap (fun _ => {}) (fun _ => Pipeline.fromImage) s.fwd.pipes
             delivery0 := s.fwd.delivery0
             delivery1 := s.fwd.delivery1
             blocks := s.fwd.blocks }
    egr := { queues := tmap (fun _ => {}) (fun _ q =>
               { deep := q.deep, limit := q.limit, epolicer := q.epolicer, shaper := q.pend.getD q.shaper : Queue }) s.egr.queues
             groups := tmap (fun _ => {}) (fun _ g =>
               { shaper := g.pend.getD g.shaper, prio := g.prio, weight := g.weight : QGroup }) s.egr.groups
             gates := tmap (fun _ => {}) (fun _ g =>
               let g := if g.isPending then g.pending else g.active
               { active := g, pending := g : Gate }) s.egr.gates }
    str := { slots := tmap (fun _ => {}) (fun _ => Slot.fromImage) s.str.slots
             feeds := tmap (fun _ => {}) (fun _ f => { source := f.source : Feed }) s.str.feeds
             patch := s.str.patch
             patchActive := s.str.patch.version
             harvestMs := s.cfgN 0x43 0 0x01 }
    mem := { stackTab := tmap (fun _ => {}) (fun _ k => { retired := k.retired : Stack }) s.mem.stackTab
             areas := tmap (fun _ => (64, 0, 0)) (fun a _ => (s.cfgN 0x31 a 0x02, s.cfgN 0x31 a 0x03, 0))
               ((List.range 16).map (fun a => (a, a))) }
    flt := { pulse1 := s.flt.pulse1, alive := s.flt.alive, recording := true,
             sources := if s.gauge.sealOpen then [(0xE00, { cause := true })] else [] }
    cal := if lost then {} else
      { savedPairs := s.cal.savedPairs, savedSensors := s.cal.savedSensors, saved := s.cal.saved }
    gauge := s.gauge
    mod := { rangeA := s.mod.rangeA, rangeB := s.mod.rangeB, sinceA := s.mod.sinceA, sinceB := s.mod.sinceB,
             feedA := if s.mod.rangeA then 1 else s.mod.feedA % 3, feedB := if s.mod.rangeB then 1 else s.mod.feedB % 3,
             switchovers := s.mod.switchovers, thermalTrips := s.mod.thermalTrips, hedgeV := s.mod.hedgeV,
             hours := if lost then 0 else s.mod.hours, hotHours := if lost then 0 else s.mod.hotHours,
             overHours := if lost then 0 else s.mod.overHours, lifeValid := s.mod.lifeValid && !lost,
             gpis := s.mod.gpis,
             gpos := tmap (fun _ => {}) (fun _ g => { level := g.level : Gpo }) s.mod.gpos,
             ref10m := s.mod.ref10m, pps := s.mod.pps, lastPps := s.mod.lastPps }
    clk := if lost then {} else
      { refReady := s.clk.refReady, backupReady := s.clk.backupReady, refGood := s.clk.refGood,
        backupGood := s.clk.backupGood, cfActive := s.clk.cfActive, ppsValid := s.clk.ppsValid } }

/-! ## Milestones (R477, R491) -/

/-- Reach a milestone: its time from time zero. -/
def State.reach (s : State) (m : Nat) : State :=
  { s with boot := { s.boot with milestone := m, at_ := s.boot.at_.set (m - 1) (s.now - s.boot.zero) } }
/-- An engine has an enabled port (R463). -/
def State.engineWanted (s : State) (k : Nat) : Bool :=
  (List.range 64).any (fun j => decide (s.restingPort (64 * k + j) = .down))
/-- Time zero (R477): a feed is in range and sensor 86 reads at most 125 °C, or, after a thermal trip, below 90 °C. -/
def State.powersUp (s : State) (tempC : Int) (split : BitVec 4) : State :=
  let hot := decide (125 < tempC) || (s.mod.tripped && decide (90 ≤ tempC))
  if s.mod.on || hot || !(s.mod.rangeA || s.mod.rangeB) then s
  else
    let lost := s.mod.keepLost
    let s := s.kept lost
    let main := if lost then 0 else s.cfgN 0x02 0 0x01
    let use := if s.mod.usable main then main else 1 - main
    let s := { s with
      boot := { zero := s.now, coldOut := decide (tempC < -55), keepLost := lost }
      mod := { s.mod with on := true, feedInUse := use, split := split } }
    let s := (List.range 17).foldl (fun (s : State) r =>
      if r = 13 ∨ r = 14 then
        (if (List.range 8).any (fun k => s.engineWanted (8 * (r - 13) + k)) then s.setRail r 1 else s)
      else s.setRail r 1) s
    let s := (List.range 11).foldl State.startPll s
    let s := (List.range 12).foldl (fun (s : State) m => s.startPll (stackPll m (s.cfgN 0x30 m 0x02))) s
    let s := s.reach 1
    if lost then s.pulseFault 0xD02 else s
/-- Step 6 (R480): Dorsen runs from the newer bank when its signature holds; the training of the stacks begins. -/
def State.dorsenUp (s : State) (newerSigned : Bool) : State :=
  if !s.mod.on ∨ s.boot.step6.isSome then s
  else
    let bank := if newerSigned then Config.newerBank % 2 else 1 - Config.newerBank % 2
    { s with boot := { s.boot with step6 := some s.now, dorsenBank := decide (bank = 1) }
             shed := { s.shed with running := true } }
/-- Deep pages of a pipeline die's stacks on their retirement lists (R355). -/
def State.deepRetiredPages (s : State) (die : Nat) : Nat :=
  (((s.stack (8 + 2 * die)).retired ++ (s.stack (9 + 2 * die)).retired).filter (fun p => inDeepArea (4096 * p))).length
/-- Step 7 (R482): the trained stacks are carved and run at their OP_POINT; a stack that failed raises k = 4. -/
def State.memoryTrained (s : State) (failed : List Nat) : State :=
  if s.boot.step6.isNone ∨ s.boot.milestone ≠ 1 then s
  else
    let s := (List.range 12).foldl (fun (s : State) m =>
      if m ∈ failed then (s.raiseFault (0xC00 + 16 * m + 4)).modStack m (fun x => { x with st := 4 })
      else
        let v := s.cfgN 0x30 m 0x02
        s.modStack m (fun x => { x with st := if x.st = 3 then 3 else 1, carved := true, active := v, target := v, opState := 0 })) s
    let s := [0, 1].foldl (fun (s : State) d =>
      let n := s.deepRetiredPages d
      s.modCells d (fun c => { c with deepFree := Config.dieDeep - n, deepRetired := n })) s
    ({ s with boot := { s.boot with imageEmpty := !s.alm.imaged } }).reach 2
/-- Trims go to the active banks: the Cold Frame's copy, or the factory's (R393). -/
def State.loadTrims (s : State) : State :=
  let plan := s.cfgN 0x10 0x400 0x01
  let s := { s with boot := { s.boot with wavePlan := plan } }
  let saved := s.cal.saved
  let s := (List.range 128).foldl (fun (s : State) p =>
    let v := if saved then tget (fun _ => []) s.cal.savedPairs p else Config.factoryTrim plan p
    s.modPair p (fun x => { x with active := v })) s
  (List.range 144).foldl (fun (s : State) n =>
    let v := if saved then tget (fun _ => (0, 0)) s.cal.savedSensors n else Config.factorySensor n
    s.modSensor n (fun x => { x with active := v })) s
/-- Step 8 (R393): the trims are restored, the engines with enabled ports are on, and ports leave for DOWN. -/
def State.trimsBack (s : State) : State :=
  if s.boot.milestone ≠ 2 then s
  else
    let s := s.loadTrims
    let s := (List.range 16).foldl (fun (s : State) k =>
      if s.engineWanted k then (s.setPower (0x128 + k) 3).startPll (35 + k) else s) s
    let s := (List.range 8).foldl (fun (s : State) pl =>
      s.setPower (0x120 + pl) (if s.engineWanted (2 * pl) || s.engineWanted (2 * pl + 1) then 3 else 2)) s
    let s := (List.range 1024).foldl (fun (s : State) lp =>
      if (s.port lp).st = .pruned then s else s.setPort lp (s.restingPort lp)) s
    s.reach 3
/-- A PTP frame of the arrival hold: an Announce is heard; a timestamped message is stale, and counted. -/
def State.ptpHeld (s : State) (lp : Nat) (f : Frame) : State :=
  match f.announce with
  | some d => s.announced lp d
  | none =>
    if f.ptpType = 0 ∨ f.ptpType = 8 ∨ f.ptpType = 9 then
      { s with boot := { s.boot with stalePtp := s.boot.stalePtp + 1 } }
    else s.peerDelay f
/-- Held PTP messages at step 10 (R484): the BMCA uses the Announces, the timing messages are stale. -/
def State.drainPtp (s : State) : State :=
  let ptp := s.boot.hold.filter (fun h => decide (h.f.kind = .ptp))
  let s := { s with boot := { s.boot with hold := s.boot.hold.filter (fun h => !decide (h.f.kind = .ptp)) } }
  ptp.foldl (fun (s : State) h => s.ptpHeld h.lp h.f) s
/-- Steps 9 and 10 (R483): the pipelines are released, gates run and PTP ports start. -/
def State.pipelinesUp (s : State) : State :=
  if s.boot.milestone ≠ 3 then s
  else
    let s := (List.range 8).foldl (fun (s : State) pl =>
      if s.pipePruned pl then s else s.modPipe pl (fun x => { x with released := true })) s
    let s := (List.range 1024).foldl (fun (s : State) lp =>
      if s.gating lp then s.gatesAt lp s.now else s) s
    let s := ({ s with clk := { s.clk with started := true } }).reach 4
    s.drainPtp.bmca
/-- Step 11 (R485): the Almanac is live. -/
def State.almanacUp (s : State) : State :=
  if s.boot.milestone ≠ 4 then s
  else
    let s := { s with alm := { s.alm with live := true }, boot := { s.boot with imageOk := s.alm.imaged } }
    s.reach 5
/-- Readmit one stream (R487): every bed placed has passed a soil test; a failure leaves it CONFIGURED and raises its
source. -/
def State.readmit (s : State) (n : Nat) : State :=
  if (s.slot n).role = 2 then s
  else match s.admitStream n with
    | (0, s) =>
      (s.members n).foldl (fun (s : State) b =>
        ((s.countSoil 0).countSoil 1).modBed b (fun x =>
          { x with untested := false, owed := false, lastPass := s.now, soilResult := 1, failStep := 0, soilFails := 0 })) s
    | (_, s) =>
      (s.ladder n).foldl (fun (s : State) m =>
        (s.modSlot m (fun x => { x with readmit := false })).raise (0x2000 + m)) s
/-- Ticks begin for each group that has no PRUNED unit and whose records are clear: ALIVE_RUN shows it at once (R489). -/
def State.ticksStart (s : State) : State :=
  let s := s.modFlt (fun f => { f with ticking := true })
  (List.range 8).foldl (fun (s : State) g =>
    if s.aliveOk g then s.modFlt (fun f => { f with aliveRun := f.aliveRun ||| (1#8 <<< g) }) else s) s
/-- Step 12 (R487, R489): the spare pool, then the streams in order of slot, and alive ticks begin. -/
def State.fullyReady (s : State) : State :=
  if s.boot.milestone ≠ 5 then s
  else
    let slots := (s.str.slots.filter (fun e => e.2.readmit)).map (·.1)
    let s := (slots.foldl State.readmit s.sizePool).keepWarm
    s.ticksStart.reach 6

/-! ## PCI Express (R486) -/

/-- A PERST pin is released: its function's timer starts. -/
def State.perstReleased (s : State) (link : Nat) : State :=
  { s with boot := { s.boot with perst := tput (fun _ => none) s.boot.perst link (some s.now) } }
/-- A configuration request: Request Retry Status until 100 ms after the later of PERST and step 6. -/
def State.configRequest (s : State) (link : Nat) : State :=
  let ready := match tget (fun _ => none) s.boot.perst link, s.boot.step6 with
    | some p, some d => decide (max p d + 100000000 ≤ s.now)
    | _, _ => false
  s.emit (.config s.now link (!ready))

end Sys2Proof.Machine
end

