-- ==== Sys2Proof/Machine/Trellis.lean ====
section
/-! DEFINITION. The Trellis and the Shed's restarts (01, 11): lanes and spares of a link, and the start of a restart. -/

namespace Sys2Proof.Machine

/-- A lane of link `m` fails in a direction (R20): its traffic moves to a spare, while transfers are held; with no spare
left, the lane stays failed, and a link of 10 to 12 runs at reduced width. -/
def State.laneFails (s : State) (m dir : Nat) : State :=
  let l := s.link m
  let spare := if dir = 0 then l.spare0 else l.spare1
  if 0 < spare then
    let s := s.modLink m (fun l =>
      if dir = 0 then { l with spare0 := l.spare0 - 1, moving0 := l.moving0 + 1, holding := true }
      else { l with spare1 := l.spare1 - 1, moving1 := l.moving1 + 1, holding := true })
    s.raiseFault (0xF00 + 16 * m)
  else
    (s.modLink m (fun l => { l with dead := l.dead + 1, narrow := decide (10 ≤ m) })).raiseFault (0xF01 + 16 * m)
/-- Traffic class of a transfer (R19): release units, strips, bitstreams, audio and ancillary data are media, prune requests control. -/
def Transfer.cls : Transfer → TransferClass
  | .copy _ _ => .media
  | .strip _ _ _ _ _ => .media
  | .coded _ _ _ _ _ => .media
  | .chunk _ _ _ _ => .media
  | .essence _ _ _ _ _ => .media
  | .prune _ _ _ _ => .control
/-- A held transfer goes on; the link at its other end may hold it still. -/
def State.goesOn (s : State) : Transfer → State
  | .copy die u => s.copyComes die u
  | .strip die n b line x => s.sendStrip die n b line x
  | .coded die n b line x => s.sendCoded die n b line x
  | .chunk die n b label => s.sendChunk die n b label
  | .essence die n b instant label => s.sendEssence die n b instant label
  | .prune die n picture b => s.pruneComes die n picture b
/-- The transfers that a link held go on: control first, and in each class in the order in which they were sent (R19). -/
def State.resumeLink (s : State) (m : Nat) : State :=
  let l := (s.link m).held
  let s := s.modLink m (fun l => { l with holding := false, held := [] })
  (l.filter (fun x => decide (x.cls = .control)) ++ l.filter (fun x => !decide (x.cls = .control))).foldl
    (fun (s : State) x => s.goesOn x) s
/-- A lane's traffic has moved (R20): when no move is left, the held transfers resume and source 16m + 0 is not LIVE. -/
def State.laneMoved (s : State) (m dir : Nat) : State :=
  let l := s.link m
  if (if dir = 0 then l.moving0 else l.moving1) = 0 then s
  else
    let s := s.modLink m (fun l =>
      if dir = 0 then { l with moving0 := l.moving0 - 1 } else { l with moving1 := l.moving1 - 1 })
    if (s.link m).moving0 + (s.link m).moving1 ≠ 0 then s
    else (s.resumeLink m).causeGone (0xF00 + 16 * m)

/-- The engine's copy of every counter is refreshed (R310). (DEDUCED, log entry 102.) -/
def State.copyCounters (s : State) : State :=
  let c : CounterCopy :=
    { at_ := s.now, fwd := s.fwd, egr := s.egr, str := s.str, alm := s.alm, allots := s.allots, mem := s.mem,
      flt := s.flt, cal := s.cal, gauge := s.gauge, mod := s.mod, clk := s.clk }
  { s with copy := some c }
/-- A restart of one core pair (R309), or of all of Dorsen (R29, R310): sources active on the cores return to PENDING
(R344), and the engine copies its counters. -/
def State.restartShed (s : State) (pair : Option Nat) (readyAt : Nat) : State :=
  if !s.shed.running then s
  else match pair with
  | some p =>
    let s := s.shedReturn p
    { s with shed := { s.shed with pairsDown := addTo s.shed.pairsDown p, readyAt := readyAt } }
  | none =>
    let s := (List.range 16).foldl State.shedReturn s
    ({ s with shed := { s.shed with restarting := true, readyAt := readyAt } }).copyCounters

end Sys2Proof.Machine
end

