-- ==== Sys2Proof/Machine/EntryReads.lean ====
section
/-! DEFINITION. What a READ of an entry shows (11): the value that the engine holds, as it was last accepted, or what the
object's state makes of it. One function for each chapter's table; `mem` is the member. -/

namespace Sys2Proof.Machine

/-- An I32 or a Q16.16. -/
def i32 (x : Int) : List Byte := natLe 4 (ofSigned 32 x)
/-- An analogue reading that the spec does not compute (Tables 16.5, 19.9). (DESIGN CHOICE, log entry 11.) -/
def analogue (fam inst mem : Nat) : List Byte := natLe 4 (Config.reading fam inst mem).toNat
/-- Characters of a string in 32 bytes (Table 11.1). -/
def str32 (l : List Nat) : List Byte := (l.map (BitVec.ofNat 8) ++ List.replicate 32 0).take 32
/-- "SYM-8120". -/
def partName : List Byte := str32 [0x53, 0x59, 0x4D, 0x2D, 0x38, 0x31, 0x32, 0x30]

/-! ## Ports and forwarding (Tables 02.8, 02.9) -/

def State.readLport (s : State) (lp mem : Nat) : Option (List Byte) :=
  let p := s.port lp
  match mem with
  | 0x03 => some (natLe 1 p.st.code)
  | 0x09 => some (natLe 8 p.lastClean)
  | 0x0A => some (natLe 8 p.cnt.pauseRx)
  | 0x0B => some (natLe 8 p.cnt.pfcRx)
  | _ => none
def State.readFwd (s : State) (mem : Nat) : Option (List Byte) :=
  if 0x20 ≤ mem ∧ mem ≤ 0x27 then some (natLe 4 (s.pipe (mem - 0x20)).used)
  else if 0x28 ≤ mem ∧ mem ≤ 0x2F then some (natLe 4 (s.pipe (mem - 0x28)).learned)
  else none

/-! ## Intake, feeds (Table 04.4) -/

/-- The last accepted value of a conditioning entry that waits for its boundary (R119). (DEDUCED, log entry 103.) -/
def pendingOf (l : List (Nat × List Byte)) (mem : Nat) : Option (List Byte) :=
  ((l.filter (fun e => decide (e.1 = mem))).getLast?).map (·.2)
/-- CROP and SCALE show the whole picture and the cropped size until they are written. -/
def State.readCrop (s : State) (c : Nat) : List Byte :=
  let (x, y, w, h) := s.crop c
  natLe 2 x ++ natLe 2 y ++ natLe 2 w ++ natLe 2 h
def State.readIntake (s : State) (c mem : Nat) : Option (List Byte) :=
  let i := s.intake c
  match mem with
  | 0x06 => some ((pendingOf i.pending 0x06).getD (s.readCrop c))
  | 0x07 => some ((pendingOf i.pending 0x07).getD (natLe 2 (s.scale c).1 ++ natLe 2 (s.scale c).2))
  | 0x08 => pendingOf i.pending 0x08
  | 0x0A => pendingOf i.pending 0x0A
  | 0x10 => some (natLe 1 (b2n i.legA + 2 * b2n i.legB))
  | 0x11 => some (natLe 4 i.arrivalOffset)
  | 0x12 => some (natLe 4 (s.intakeLatency c))
  | _ => if 0x18 ≤ mem ∧ mem ≤ 0x1E then some (natLe 8 (i.counts.getD (mem - 0x18) 0)) else none
/-- The last accepted value of a member that waits in a stream's shadow (R170). (DEDUCED, log entry 103.) -/
def State.shadowOf (s : State) (n fam mem : Nat) : Option (List Byte) :=
  (((s.slot n).shadow.filter (fun w => decide (w.fam = fam) && decide (w.mem = mem))).getLast?).map (·.val)
def State.readFeed (s : State) (n mem : Nat) : Option (List Byte) :=
  let f := s.feed n
  match mem with
  | 0x01 => some (natLe 2 (f.source.getD (Config.unset (entryKey 0x20 (0x2000 + n) 0x01))))
  | 0x04 => s.shadowOf n 0x20 0x04
  | 0x06 => some (natLe 8 f.lastCut)
  | _ => if 0x10 ≤ mem ∧ mem ≤ 0x14 then some (natLe 8 (f.counts.getD (mem - 0x10) 0)) else none

/-! ## Beds (Table 05.11) -/

def State.readBedsAll (s : State) (mem : Nat) : Option (List Byte) :=
  match mem with
  | 0x01 => some (natLe 4 Config.romVersion)
  | 0x03 => some (natLe 4 s.str.patchActive)
  | 0x04 => some (natLe 4 s.str.patchStandby)
  | 0x05 => some (natLe 1 s.str.loadResult)
  | _ => none
def State.readBed (s : State) (b mem : Nat) : Option (List Byte) :=
  let x := s.bed b
  match mem with
  | 0x01 => some (natLe 1 x.st.code)
  | 0x02 => some (natLe 4 x.patch.version)
  | 0x04 => some (natLe 8 x.traps)
  | 0x05 => some (natLe 8 x.timeouts)
  | 0x06 => some (natLe 8 x.selfChecks)
  | _ => none

/-! ## Streams (Tables 06.8, 06.9, 07.4, 08.6) -/

/-- A cost in kpix/s, rounded up (R193, R330). -/
def kpix (cost : Nat) : Nat := ceilDiv cost 4004000
def State.readEncode (s : State) (n mem : Nat) : Option (List Byte) :=
  let x := s.slot n
  match mem with
  | 0x01 => some (natLe 1 x.owner)
  | 0x02 => some (natLe 1 x.st)
  | 0x30 => some (natLe 8 x.configAt)
  | 0x31 => some (natLe 2 x.phase)
  | 0x0D => if s.cfgN 0x21 n 0x16 = 1 then some (natLe 1 0) else s.shadowOf n 0x21 mem
  | 0x32 => some (i32 x.lastQp)
  | 0x33 => some (i32 x.rc.debt)
  | 0x34 => some (natLe 4 (s.latencyOf n))
  | 0x35 => some (natLe 1 x.kind)
  | _ => if 0x38 ≤ mem ∧ mem ≤ 0x3F then some (natLe 8 (x.counts.getD (mem - 0x38) 0)) else s.shadowOf n 0x21 mem
/-- Time from the read of row 0 to its first packet, 30 µs, and the offset of R226: DECODE_DELAY periods and (C + 8) line periods, in
ns, rounded down. -/
def State.showLatency (s : State) (n : Nat) : Nat :=
  let r := s.slotRate n
  let h := Nat.max 1 (s.decodeFmt n).lines
  let d := (s.slot n).dec
  30000 + (d.delay * 25 * h + (d.ctu + 8) * 24) * r.2 * 1000000000 / (25 * h * r.1)
def State.readDecode (s : State) (n mem : Nat) : Option (List Byte) :=
  let x := s.slot n
  match mem with
  | 0x01 => some (natLe 1 x.owner)
  | 0x02 => some (natLe 1 x.st)
  | 0x10 => s.shadowOf n 0x23 0x10
  | 0x30 => some (natLe 1 (if x.dec.modeSet then x.dec.mode else 0))
  | 0x31 => some (natLe 1 x.dec.delay)
  | 0x32 => some (natLe 4 (s.showLatency n))
  | 0x33 => some (natLe 8 x.dec.lastClean)
  | _ => if 0x38 ≤ mem ∧ mem ≤ 0x43 then some (natLe 8 (x.dec.counts.getD (mem - 0x38) 0)) else none
def State.readLadder (s : State) (n mem : Nat) : Option (List Byte) :=
  let x := s.slot n
  match mem with
  | 0x02 => some (natLe 1 x.role)
  | 0x03 => some (natLe 2 (if x.role = 1 then n else x.anchor))
  | 0x05 => some (natLe 4 (kpix x.cost))
  | 0x09 => some (natLe 8 x.cutPictures)
  | 0x0A => some (natLe 4 x.lastCutBits)
  | 0x0B => some (natLe 8 x.deferredCuts)
  | _ => s.shadowOf n 0x22 mem
def State.readGroup (s : State) (g mem : Nat) : Option (List Byte) :=
  match mem with
  | 0x04 => (s.group g).pend.map (fun p => natLe 2 p.1)
  | 0x06 => some (natLe 8 (s.group g).periodAt)
  | 0x07 => some ((s.groupMembers g).flatMap (natLe 2))
  | 0x08 => some (natLe 2 (s.groupMembers g).length)
  | _ => none
/-- Code of a pot mark, in the order of Table 06.5; a name that stands for another pot's picture is ALIAS, 3.
(DESIGN CHOICE, log entry 81.) -/
def Mark.code : Mark → Nat
  | .free => 0
  | .current => 1
  | .ref => 2
  | .named => 3
  | .held => 4
/-- The pot map (E 25.ssss.05): index, mark, POC LSB, alias target, and the pot's address in its stack. (DESIGN CHOICE, log
entry 81.) A tier's pots lie in its anchor's region. -/
def State.potMap (s : State) (n : Nat) : List Byte :=
  let base := ((s.slot (s.anchorOf n)).regions.head?.map (fun r => r.2.1)).getD 0 + s.potsAt n
  (s.slot n).pots.zipIdx.flatMap (fun (p, i) =>
    natLe 1 i ++ natLe 1 p.mark.code ++ natLe 1 (p.poc % 256) ++ natLe 1 p.target ++
      natLe 8 (base + p.pot * s.potBytes n))
def State.readPots (s : State) (n mem : Nat) : Option (List Byte) :=
  let x := s.slot n
  let known := decide (x.kind ≠ 0)
  match mem with
  | 0x01 => some (natLe 1 (if known then s.potCount n else 0))
  | 0x02 => some (natLe 4 (if known then s.potBytes n else 0))
  | 0x03 => some (natLe 8 (if x.role = 2 ∧ 2 ≤ x.st then s.potsBytes n else x.reserved))
  | 0x04 => some ((s.slot (s.anchorOf n)).regions.map (fun r => BitVec.ofNat 8 r.1))
  | 0x05 => some (s.potMap n)
  | _ => none
def State.readCodeStack (s : State) (d mem : Nat) : Option (List Byte) :=
  match mem with
  | 0x01 => some (natLe 8 (s.stackFree d))
  | 0x02 => some (natLe 4 (s.str.slots.foldl (fun n e =>
      n + ((s.slot (s.anchorOf e.1)).regions.filter (fun r => decide (r.1 = d))).length * s.potCount e.1) 0))
  | _ => none

/-! ## Twins (Table 09.10) -/

def firstBed (l : List Nat) : List Byte := natLe 2 (l.headD 0xFFFF)
def State.readTwin (s : State) (n mem : Nat) : Option (List Byte) :=
  let w := s.twin n
  match mem with
  | 0x01 => some (natLe 1 w.st.code)
  | 0x02 => some (firstBed w.lead)
  | 0x03 => some (firstBed w.partner)
  | 0x04 => some (firstBed w.scion)
  | 0x06 => some (natLe 1 (b2n w.protected_))
  | 0x07 => some (natLe 8 (if w.exposed then w.exposedSince else 0))
  | 0x08 => some (natLe 8 w.lastCutting)
  | _ => if 0x10 ≤ mem ∧ mem ≤ 0x19 then some (natLe 8 (w.counts.getD (mem - 0x10) 0)) else none
def State.readTwins (s : State) (mem : Nat) : Option (List Byte) :=
  if mem = 0x02 then some (natLe 2 s.spares.length) else none

/-! ## Egress (Table 10.5) -/

/-- A queue's record (Table 10.4), with the shaper last accepted. -/
def State.queueRecord (s : State) (q : Nat) : List Byte :=
  let x := s.queue q
  let p := x.pend.getD x.shaper
  natLe 1 (q % 256) ++ natLe 1 (b2n x.deep + 2 * b2n p.shape) ++ natLe 2 x.limit ++ natLe 2 p.refill ++ natLe 2 p.depth ++
    natLe 4 p.period ++ natLe 2 x.epolicer ++ natLe 2 0
/-- GROUPS of a port, with the shapers last accepted. -/
def State.groupsRecord (s : State) (lp : Nat) : List Byte :=
  (List.range 16).flatMap (fun g =>
    let x := s.qgroup (16 * lp + g)
    let p := x.pend.getD x.shaper
    natLe 1 x.prio ++ natLe 1 x.weight ++ natLe 1 (b2n p.shape) ++ natLe 1 0 ++ natLe 2 p.refill ++ natLe 2 p.depth ++
      natLe 4 p.period)
def State.readQueues (s : State) (lp mem : Nat) : Option (List Byte) :=
  if mem = 0x02 then some (s.groupsRecord lp) else none
/-- A gate list as its entry holds it. -/
def listBytes (l : List (Nat × Nat)) : List Byte := l.flatMap (fun e => natLe 2 e.1 ++ natLe 4 e.2)
def State.readGates (s : State) (lp mem : Nat) : Option (List Byte) :=
  let g := s.gate lp
  match mem with
  | 0x02 => some (natLe 4 g.pending.num ++ natLe 4 g.pending.den)
  | 0x03 => some (natLe 8 g.pending.base)
  | 0x04 => some (listBytes g.pending.list)
  | 0x05 => some (natLe 8 g.changeAt)
  | 0x07 => some (natLe 4 g.active.num ++ natLe 4 g.active.den ++ natLe 8 g.active.base ++ listBytes g.active.list)
  | 0x08 => some (natLe 8 g.steps)
  | _ => none
def State.readPolicer (s : State) (n mem : Nat) : Option (List Byte) :=
  let p := s.policer n
  match mem with
  | 0x10 => some (natLe 8 p.green)
  | 0x11 => some (natLe 8 p.yellow)
  | 0x12 => some (natLe 8 p.red)
  | _ => none

/-! ## The Almanac and the allotments (Tables 11.11, 12.5) -/

/-- ALMANAC_STATE (E 01.0000.07, R310): 3 until the journal is empty. -/
def State.almanacState (s : State) : Nat :=
  if !s.alm.live then 0
  else if s.shed.restarting || !s.shed.journal.isEmpty then 3
  else if s.shed.pairsDown.any (fun p => decide (tget (fun k => k) s.shed.takenBy p = p)) then 2
  else 1
/-- READY_AT (E 01.0000.08, R485): before time is traceable, the ns until the Almanac is expected, with bit 63 set.
(DESIGN CHOICE, log entry 16.) -/
def State.readyAt (s : State) : Nat :=
  match s.almanacState with
  | 1 => 0
  | 0 => if s.traceable then s.now + Config.expectedReady s.fresh else 2 ^ 63 + Config.expectedReady s.fresh % 2 ^ 63
  | _ => s.shed.readyAt
def State.readDevice (s : State) (mem : Nat) : Option (List Byte) :=
  match mem with
  | 0x01 => some partName
  | 0x02 => some serialBytes
  | 0x03 => some (natLe 4 (Config.siliconRev / 65536 % 65536 * 65536))
  | 0x05 => some (natLe 4 (Config.firmware (b2n s.boot.dorsenBank)))
  | 0x06 => some (natLe 8 s.now)
  | 0x07 => some (natLe 1 s.almanacState)
  | 0x08 => some (natLe 8 s.readyAt)
  | 0x09 => some (managementMac 0 ++ managementMac 1)
  | 0x18 => some s.alm.changeLog.flatten
  | 0x19 => some (s.alm.credits.map (BitVec.ofNat 8))
  | 0x1A => some (natLe 8 s.alm.badMessages)
  | 0x1B => some (natLe 8 s.alm.identifyDrops)
  | _ => ((s.alm.addrPend.filter (fun e => decide (e.1 = mem))).getLast?).map (fun e => e.2.2)
def State.readAlmRec (s : State) (a mem : Nat) : Option (List Byte) :=
  let r := s.allot a
  match mem with
  | 0x01 => some (natLe 4 r.session)
  | 0x02 => some (natLe 4 r.nextSeq)
  | 0x03 => some (natLe 8 r.authFails)
  | 0x04 => some (natLe 8 r.superseded)
  | 0x05 => some (natLe 8 r.gapDrops)
  | 0x06 => some (natLe 8 r.overloadDrops)
  | 0x07 => some (natLe 8 r.mailboxIgnored)
  | 0x08 => some (natLe 2 (s.shed.journal.filter (fun j => decide (j.a = a))).length)
  | 0x09 => some (natLe 8 r.seqDrops)
  | _ => none
def State.readAllot (s : State) (a mem : Nat) : Option (List Byte) :=
  let r := s.allot a
  match mem with
  | 0x02 => some (natLe 1 (b2n r.key.isSome))
  | 0x06 => some (natLe 4 (kpix (s.budgetUsed a)))
  | 0x0A => some (natLe 8 r.resets)
  | 0x0B => some (natLe 8 r.clamps)
  | 0x0C => some (natLe 8 r.regSuperseded)
  | _ => none

/-! ## Memory, DMA (Table 14.7) -/

def State.readStack (s : State) (d mem : Nat) : Option (List Byte) :=
  let x := s.stack d
  match mem with
  | 0x01 => some (natLe 1 x.st)
  | 0x03 => some (natLe 1 x.active)
  | 0x04 => some (natLe 1 x.opState)
  | 0x05 => some (natLe 8 x.opAt)
  | 0x06 => some (natLe 8 x.corrected)
  | 0x07 => some (natLe 8 x.uncorrectable)
  | 0x08 => some x.log.flatten
  | 0x09 => some (natLe 8 x.logLost)
  | 0x0B => some (x.retired.flatMap (natLe 4))
  | _ => none
def State.readDma (s : State) (a mem : Nat) : Option (List Byte) :=
  match mem with
  | 0x04 => some (natLe 8 (s.allot a).dmaBytes)
  | 0x05 => some (natLe 8 (s.allot a).dmaHalts)
  | _ => none

/-! ## Faults (Table 15.6) -/

/-- DOMAIN_FAULT (R384): bit `n` is VALID of domain n's record. -/
def State.domainFault (s : State) : Nat :=
  (List.range 16).foldl (fun n d => n + b2n (s.errRec d).valid * 2 ^ d) 0
def State.readFaults (s : State) (mem : Nat) : Option (List Byte) :=
  match mem with
  | 0x01 => some (natLe 1 (b2n s.flt.inject))
  | 0x02 => some (natLe 2 s.domainFault)
  | 0x03 => some (s.flt.pruned.flatMap (fun p => natLe 1 p.1 ++ natLe 1 p.2))
  | 0x04 => some (natLe 1 s.flt.aliveRun.toNat)
  | 0x06 => some (natLe 1 s.flt.alertSw.toNat)
  | 0x07 => some (natLe 8 s.flt.resetFails)
  | 0x08 => some (natLe 8 s.flt.forceRefused)
  | _ => none
def State.readErrRec (s : State) (r mem : Nat) : Option (List Byte) :=
  let x := s.errRec r
  match mem with
  | 0x01 => some (natLe 2 x.source ++
      natLe 1 (b2n x.valid + 2 * b2n x.overflow + 4 * b2n x.forced + 8 * b2n x.timeValid) ++ natLe 8 x.time)
  | 0x03 => some (natLe 8 x.raises)
  | _ => none
def State.readSource (s : State) (id mem : Nat) : Option (List Byte) :=
  let x := s.source id
  match mem with
  | 0x01 => some (natLe 1 (s.classOf id))
  | 0x02 => some (natLe 1 (b2n x.force))
  | 0x03 => some (natLe 1 (b2n x.live))
  | 0x04 => some (natLe 8 x.count)
  | _ => none

/-! ## Calibration and soil tests (Table 16.5) -/

def State.readCal (s : State) (mem : Nat) : Option (List Byte) :=
  match mem with
  | 0x02 => some (natLe 1 (b2n s.cal.running))
  | 0x03 => some (natLe 1 (s.pendingSide.getD 0xFF))
  | 0x04 => some (natLe 8 s.cal.armed)
  | 0x05 => some (natLe 8 s.cal.epochAt)
  | 0x06 => some s.trimSet
  | 0x09 => some (natLe 8 s.cal.emptyEpochs)
  | _ => none
def State.readPair (s : State) (p mem : Nat) : Option (List Byte) :=
  let x := s.pair p
  match mem with
  | 0x01 => some (pairRecord x.active)
  | 0x02 => some ((x.pending.map pairRecord).getD [])
  | 0x03 => some (natLe 8 x.lastCal)
  | 0x04 => some (natLe 8 x.interruptions)
  | _ => none
/-- READING and TRIM of a sensor: with none pending, the pending correction reads as the active one. -/
def State.readSensor (s : State) (n inst mem : Nat) : Option (List Byte) :=
  let x := s.sensor n
  match mem with
  | 0x01 => some (analogue 0x41 inst 0x01)
  | 0x02 => some (sensorRecord x.active ++ sensorRecord (x.pending.getD x.active))
  | _ => none
def State.readSoil (s : State) (mem : Nat) : Option (List Byte) :=
  if mem = 0x03 then some (s.str.soilTests.flatMap (natLe 8)) else none
def State.readSoilBed (s : State) (b mem : Nat) : Option (List Byte) :=
  let x := s.bed b
  match mem with
  | 0x01 => some (natLe 1 x.soilResult)
  | 0x02 => some (natLe 8 x.lastPass)
  | 0x03 => some (natLe 1 x.failStep)
  | _ => none

/-! ## Counters, the Rain Gauge (Tables 17.5, 18.3) -/

def State.readCounters (s : State) (mem : Nat) : Option (List Byte) :=
  match mem with
  | 0x02 => some (natLe 1 (b2n s.str.frozen))
  | 0x04 => some (natLe 8 s.str.snapTime)
  | _ => none
def State.readHarvest (s : State) (a mem : Nat) : Option (List Byte) :=
  let h := (s.allot a).harvest
  match mem with
  | 0x01 => some (harvestBytes ((h.pend.map (·.1)).getD h.list))
  | 0x02 => some (natLe 2 h.listGen)
  | _ => none
def State.readHist (s : State) (n mem : Nat) : Option (List Byte) :=
  match mem with
  | 0x01 => some (s.slot n).coding.record
  | 0x02 => some (s.slot n).residence.record
  | _ => none
def State.readGauge (s : State) (mem : Nat) : Option (List Byte) :=
  let g := s.gauge
  match mem with
  | 0x03 => some (natLe 8 g.lastSeq)
  | 0x04 => some (natLe 8 ((g.records.head?.map (·.seq)).getD 0))
  | 0x05 => some (natLe 8 g.ackSeq)
  | 0x07 => some (natLe 4 g.flags.bits)
  | 0x08 => some (natLe 1 (b2n g.sealOpen))
  | 0x09 => some Config.keyBlock
  | 0x0A => some (natLe 4 g.lostUnread)
  | _ => none
/-- OPEN_USAGE and LAST_CHARGE of an allotment: CHARGE and CARRY stand in the newest record (Table 18.2). -/
def State.readGaugeAllot (s : State) (a mem : Nat) : Option (List Byte) :=
  match mem with
  | 0x01 => some (usageBytes s.gauge.usage a)
  | 0x02 => some (match s.gauge.records.getLast? with
      | some r => natLe 8 r.seq ++ slice r.bytes (2624 + 16 * a) 16
      | none => List.replicate 24 0)
  | _ => none

/-! ## Supplies, the Hedge, clocks (Tables 19.9, 19.10, 20.7) -/

def State.readModule (s : State) (mem : Nat) : Option (List Byte) :=
  let m := s.mod
  match mem with
  | 0x03 => some (natLe 1 m.feedInUse)
  | 0x04 => some (natLe 8 m.switchovers)
  | 0x05 => some (analogue 0x02 0 0x05)
  | 0x07 => some (analogue 0x02 0 0x07)
  | 0x08 => some (natLe 8 m.thermalTrips)
  | 0x09 => some (natLe 8 m.hours ++ natLe 8 m.hotHours ++ natLe 8 m.overHours ++ natLe 2 m.lifeUsed ++
      natLe 1 (b2n m.lifeValid))
  | 0x0A => some (natLe 1 m.split.toNat)
  | _ => none
def State.readFeedIn (s : State) (f inst mem : Nat) : Option (List Byte) :=
  if mem = 0x03 then some (natLe 1 (if f = 0 then s.mod.feedA else s.mod.feedB)) else some (analogue 0x02 inst mem)
def State.readRail (s : State) (r inst mem : Nat) : Option (List Byte) :=
  match mem with
  | 0x01 => some (analogue 0x02 inst 0x01)
  | 0x02 => some (natLe 1 (s.phasesLeft r))
  | 0x03 => some (natLe 1 (s.rail r))
  | _ => none
def State.readHedge (s : State) (mem : Nat) : Option (List Byte) :=
  match mem with
  | 0x01 => some (natLe 1 (b2n s.mod.hedgeV))
  | 0x02 => some (natLe 8 s.mod.linkErrors)
  | 0x03 => some (natLe 1 (b2n s.mod.ref10m + 2 * b2n s.mod.pps))
  | 0x04 => some (natLe 8 s.mod.lastPps)
  | _ => none
def State.readGpi (s : State) (g mem : Nat) : Option (List Byte) :=
  let x := s.gpi g
  match mem with
  | 0x02 => some (natLe 1 (b2n x.level))
  | 0x04 => some (natLe 8 x.lastChange)
  | 0x05 => some (natLe 8 x.changes)
  | _ => none
def State.readGpo (s : State) (g mem : Nat) : Option (List Byte) :=
  if mem = 0x03 then some (natLe 1 (b2n (s.gpo g).level)) else none
/-- Code of TIME_STATE (Table 20.5). -/
def TimeState.code : TimeState → Nat
  | .free => 0
  | .acquiring => 1
  | .locked => 2
  | .hedge => 3
  | .holdover => 4
/-- PARENT: of a module with no parent, its own identity. (DEDUCED, log entry 87.) -/
def State.parentBytes (s : State) : List Byte :=
  let id := fun (x : BitVec 64) => (natLe 8 x.toNat).reverse
  match s.clk.parent with
  | some p => id p.senderId ++ natLe 2 p.senderPort ++ id p.gmId ++ natLe 1 p.clockClass
  | none => id clockId ++ natLe 2 0 ++ id clockId ++ natLe 1 s.clockClass
def State.readClock (s : State) (mem : Nat) : Option (List Byte) :=
  let k := s.clk
  match mem with
  | 0x02 => some (natLe 1 k.cfActive)
  | 0x03 => some (natLe 1 (b2n k.refReady + 2 * b2n k.backupReady))
  | 0x04 => some (natLe 8 k.refLosses)
  | 0x05 => some ((List.range 312).map (fun b => BitVec.ofNat 8 (s.power b).st))
  | 0x1C => some (natLe 1 (b2n k.ppsValid))
  | 0x20 => some (natLe 1 k.st.code)
  | 0x21 => some (i32 k.offset)
  | 0x22 => some (natLe 2 k.slave)
  | 0x23 => some s.parentBytes
  | 0x24 => some (natLe 8 k.steps)
  | 0x25 => some (natLe 8 clockId.toNat).reverse
  | _ => none
/-- PORT_STATE and MEAN_DELAY; a slave's mean delay is measured, which no rule computes. -/
def State.readPtp (s : State) (lp inst mem : Nat) : Option (List Byte) :=
  match mem with
  | 0x04 => some (natLe 1 (s.ptpPort lp).st)
  | 0x05 => some (if (s.ptpPort lp).st = 9 then analogue 0x03 inst 0x05 else i32 (s.ptpPort lp).meanDelay)
  | _ => none

/-! ## Every entry -/

/-- What the object's state makes of an entry; none where the engine's own value stands. (DEDUCED, log entry 84.) -/
def State.liveEntry (s : State) (inst mem : Nat) (sp : Space) (n : Nat) : Option (List Byte) :=
  match sp with
  | .lport => s.readLport n mem
  | .optics => if mem = 0x02 then some (natLe 1 s.boot.wavePlan) else none
  | .fwd => s.readFwd mem
  | .vlan => none
  | .intake => s.readIntake n mem
  | .feed => s.readFeed n mem
  | .outtake => none
  | .bedsAll => s.readBedsAll mem
  | .bed => s.readBed n mem
  | .encode => s.readEncode n mem
  | .pots => s.readPots n mem
  | .codeStack => s.readCodeStack n mem
  | .ladder => s.readLadder n mem
  | .group => s.readGroup n mem
  | .decode => s.readDecode n mem
  | .twin => s.readTwin n mem
  | .twins => s.readTwins mem
  | .peer => none
  | .queues => s.readQueues n mem
  | .gates => s.readGates n mem
  | .policer => s.readPolicer n mem
  | .device => s.readDevice mem
  | .almRec => s.readAlmRec n mem
  | .allot => s.readAllot n mem
  | .platform => if mem = 0x01 then some (natLe 8 s.alm.voteCorrections) else none
  | .stack => s.readStack n mem
  | .deep => none
  | .dma => s.readDma n mem
  | .faults => s.readFaults mem
  | .errRec => s.readErrRec n mem
  | .source => s.readSource n mem
  | .cal => s.readCal mem
  | .pair => s.readPair n mem
  | .temp => s.readSensor n inst mem
  | .volt => s.readSensor (96 + n) inst mem
  | .soil => s.readSoil mem
  | .soilBed => s.readSoilBed n mem
  | .counters => s.readCounters mem
  | .harvest => s.readHarvest n mem
  | .hist => s.readHist n mem
  | .gauge => s.readGauge mem
  | .gaugeAllot => s.readGaugeAllot n mem
  | .module => s.readModule mem
  | .feedIn => s.readFeedIn n inst mem
  | .rail => s.readRail n inst mem
  | .hedge => s.readHedge mem
  | .gpi => s.readGpi n mem
  | .gpo => s.readGpo n mem
  | .clock => s.readClock mem
  | .ptp => s.readPtp n inst mem

/-- The slot of a stream entry is of the other kind than the entry's family (R183): its members read as their defaults,
but for OWNER, PEERS, STATE and KIND, which are the slot's. (DEDUCED, log entry 82.) -/
def State.otherKind (s : State) (sp : Space) (n mem : Nat) : Bool :=
  match sp with
  | .encode => decide ((s.slot n).kind = 2) && !decide (mem ≤ 0x02) && !decide (mem = 0x35)
  | .ladder => decide ((s.slot n).kind = 2) && !decide (mem = 0)
  | .decode => decide ((s.slot n).kind = 1) && !decide (mem ≤ 0x02)
  | _ => false

/-- The value of an entry that takes no read argument. -/
def State.entryValue (s : State) (fam inst mem : Nat) (sp : Space) (n : Nat) : List Byte :=
  if s.otherKind sp n mem then entryDefault (entryKey fam inst mem)
  else
    let v := if mem = 0 then s.cfg fam inst 0 else (s.liveEntry inst mem sp n).getD (s.cfg fam inst mem)
    match rowOf sp mem with
    | some r => if v.isEmpty then natLe r.ty.width (Config.unset (entryKey fam inst mem)) else v
    | none => v

/-- A READ of an entry with its argument (Table 11.5, R497): status and value. -/
def State.entryRead (s : State) (a fam inst mem : Nat) (sp : Space) (n : Nat) (arg : List Byte) : Nat × List Byte :=
  match sp, mem with
  | .fwd, 0x12 => s.readFlow a arg
  | .fwd, 0x19 => if arg.length = 4 then s.readDelivery a (leNat arg) else (4, [])
  | .fwd, 0x1C =>
    if arg.length ≠ 2 then (4, [])
    else
      let b := s.block (leNat arg)
      if 8192 ≤ leNat arg then (1, [])
      else if !ownsRecord a b.owner then (2, [])
      else (0, arg ++ natLe 1 (b.owner.getD 0) ++ natLe 2 b.linkFrom.toNat)
  | .queues, 0x04 => if arg.length = 1 then (0, s.queueRecord (queueNo n (leNat arg))) else (4, [])
  | .gauge, 0x06 =>
    if arg.length ≠ 8 then (4, [])
    else match s.gauge.find (leNat arg) with
      | some r => (0, r.bytes)
      | none => (1, [])
  | _, _ =>
    let v := s.entryValue fam inst mem sp n
    let blob := match rowOf sp mem with
      | some r => decide (r.ty = Ty.blob)
      | none => false
    if arg.isEmpty then (0, v)
    else if blob && decide (arg.length = 8) then (0, slice v (fieldAt arg 0 4) (fieldAt arg 4 4))
    else (4, [])

end Sys2Proof.Machine
end

