-- ==== Sys2Proof/Machine/Allotments.lean ====
section
/-! DEFINITION. Allotments (12): register cycles and their conflicts (R323), the latches (R325 to R328), doorbells (R324),
allotment reset (R327) and resets of PCIe links (R314), and the scrub of voted fields (R322). -/

namespace Sys2Proof.Machine

/-! ## Windows and register cycles -/

/-- The allotment has a window on a link (R314, R315). -/
def State.windowOf (s : State) (a : Nat) : Bool := s.hasWindow (s.linkOf a)
/-- The allotment's window serves every register: until the Almanac is live it serves three things only (R486). -/
def State.serves (s : State) (a : Nat) : Bool := s.windowOf a && s.alm.live

/-- Names of the fields for which writes of two allotments can conflict (R323). -/
def fieldName (kind index field : Nat) : Nat := kind * 4294967296 + index * 64 + field
/-- Names of the fields of a latch command. (DEDUCED, log entry 89.) -/
def latchFields (n : Nat) : List Nat := [fieldName 1 n 0, fieldName 1 n 1, fieldName 1 n 2]
/-- Name of a run bit: it belongs to an allotment and a bed (R146). -/
def runField (a bed : Nat) : Nat := fieldName 2 (512 * a + bed) 0
/-- Name of a queue enable (R268). -/
def enableField (q : Nat) : Nat := fieldName 3 q 0

/-- A write of a lower-numbered allotment in this register cycle covers one of the fields (R323; log entry 7). -/
def State.loses (s : State) (a : Nat) (fields : List Nat) : Bool :=
  s.alm.cycleWrites.any (fun e => decide (e.1 = s.now / 2) && decide (e.2.2 < a) && decide (e.2.1 ∈ fields))
/-- Note the fields that a write covers in this register cycle. A message's operations run over at most 64 slots of 10 ns,
so older cycles are forgotten. (DESIGN CHOICE, log entry 7.) -/
def State.covers (s : State) (a : Nat) (fields : List Nat) : State :=
  let c := s.now / 2
  let l := fields.map (fun f => (c, f, a)) ++ s.alm.cycleWrites.filter (fun e => decide (c ≤ e.1 + 320))
  { s with alm := { s.alm with cycleWrites := l } }
/-- A window write that covers the fields: it takes effect, or is discarded whole and counted in REG_SUPERSEDED. -/
def State.windowWrite (s : State) (a : Nat) (fields : List Nat) (f : State → State) : State :=
  if s.loses a fields then s.modAllot a (fun x => { x with regSuperseded := inc64 x.regSuperseded })
  else f (s.covers a fields)

/-! ## Latches -/

/-- The allotment holds a grant to the latch, or is a0 (R325). -/
def State.latchGranted (s : State) (a n : Nat) : Bool :=
  decide (a = 0) || bit (s.cfgN 0x04 a 0x08) (n / 64) || decide (n / 64 ∈ (s.allot a).lingering)
/-- The allotment holds a latch of the block. -/
def State.holdsIn (s : State) (a block : Nat) : Bool :=
  s.alm.latches.any (fun e => decide (e.1 / 64 = block) && decide (e.2.holder = some a))
/-- Withdrawals whose allotment holds no latch of the block any more take effect (R325). -/
def State.settleGrants (s : State) (a : Nat) : State :=
  let kept := (s.allot a).lingering.filter (fun b => s.holdsIn a b)
  s.modAllot a (fun x => { x with lingering := kept })
/-- LATCH_GRANT: a grant withdrawn while the allotment holds a latch of the block stays in force (R325). -/
def State.grantLatches (s : State) (a v : Nat) : State :=
  let stays := (List.range 64).filter (fun b => !bit v b && s.latchGranted a (64 * b) && s.holdsIn a b)
  (s.setCfgN 0x04 a 0x08 8 v).modAllot a (fun x => { x with lingering := stays })
/-- Count a latch command refused or ignored (R326). -/
def State.latchRefuse (s : State) (a : Nat) : State :=
  s.modAllot a (fun x => { x with latchRefused := saturate 16 (x.latchRefused + 1) })
/-- RELEASE (R326, R328). -/
def State.releaseLatch (s : State) (a n : Nat) : State :=
  let l := s.latch n
  if l.holder = some a then
    (s.setLatch n { l with holder := none, torn := false, lastHolder := a }).settleGrants a
  else s.latchRefuse a
/-- ACQUIRE (R326): TORN stays set for the next holder (R328). -/
def State.acquireLatch (s : State) (a n : Nat) (tag : BitVec 16) : State :=
  let l := s.latch n
  if l.holder.isNone then s.setLatch n { l with holder := some a, tag := tag, used := true } else s.latchRefuse a
/-- A latch command: RELEASE is applied first (R326). -/
def State.latchCommand (s : State) (a n : Nat) (acquire release : Bool) (tag : BitVec 16) : State :=
  if !s.serves a then s
  else if !s.latchGranted a n then (if acquire || release then s.latchRefuse a else s)
  else s.windowWrite a (latchFields n) (fun s =>
    let s := if release then s.releaseLatch a n else s
    if acquire then s.acquireLatch a n tag else s)
/-- A forced release (R328). -/
def State.tearLatches (s : State) (a : Nat) : State :=
  (s.alm.latches.foldl (fun (s : State) e =>
    if e.2.holder = some a then s.setLatch e.1 { e.2 with holder := none, torn := true, lastHolder := a } else s)
    s).settleGrants a

/-! ## Doorbells -/

/-- Numbers that an allotment may raise (R324). -/
def doorbellAllowed (a number : Nat) : Bool :=
  decide (number ≠ 0xFFFF) &&
    (if a = 0 then decide (0x8000 ≤ number) && decide (number ≤ 0xFFFE)
     else decide (0x8000 + 2048 * a ≤ number) && decide (number ≤ 0x87FF + 2048 * a))
/-- A doorbell (R324). (DEDUCED, log entry 101.) -/
def State.ringDoorbell (s : State) (a number : Nat) : State :=
  if !s.serves a then s
  else if doorbellAllowed a number then s.raise number
  else s.modAllot a (fun x => { x with doorbellRefused := saturate 16 (x.doorbellRefused + 1) })

/-! ## Resets -/

/-- Mark of the way in of a mailbox request whose reply no mailbox waits for. -/
def noReply : Nat := 0xFFF

/-- A request in flight runs to its end, and its reply reaches no mailbox (Table 12.3). -/
def HeldReq.orphan (a : Nat) (h : HeldReq) : HeldReq := if h.port = 0xF00 + a then { h with port := noReply } else h
/-- An allotment reset (Table 12.3). (DEDUCED, log entry 89.) -/
def State.resetAllot (s : State) (a : Nat) : State :=
  let s := (List.range 64).foldl (fun (s : State) c => (s.dmaDisable a (64 * a + c)).dmaClear a (64 * a + c)) s
  let s := s.tearLatches a
  let s := s.modMbox a (fun m => { m with busy := false, reply := false })
  let s := (List.range 16).foldl (fun (s : State) r => (s.ringFlush a r).modRing a r (fun x => { x with enable := false })) s
  (s.resetView a).modAllot a (fun x =>
    { x with held := x.held.map (HeldReq.orphan a), waiting := x.waiting.map (HeldReq.orphan a), staging := [], qeDie := false, resets := inc64 x.resets })

/-- Bindings of a link that its hot reset or link-down puts in force (R314). (DEDUCED, log entry 85.) -/
def State.rebindLink (s : State) (link : Nat) : State :=
  (List.range 16).foldl (fun (s : State) a =>
    if s.cfgN 0x04 a 0x03 = link then s.modAllot a (fun x => { x with link := some link })
    else if s.linkOf a = link then s.modAllot a (fun x => { x with link := some 0 })
    else s) s

/-- A reset of a link: kind 0 function-level, 1 hot, 2 link-down (R314, R327, R343, R434). (PRESUMED, log entry 56.).
(DEDUCED, log entry 85.) -/
def State.resetLink (s : State) (link kind : Nat) : State :=
  if !s.hasWindow link then s
  else
    let s := match s.boundTo link with
      | some a => s.resetAllot a
      | none => s
    let s := (List.range 16).foldl (fun (s : State) v =>
      s.modVector (targetOf link v) (fun x => { x with masked := true, pending := false, addr := 0, data := 0 })) (s.modFunc link (fun _ => {}))
    let s := if kind = 0 then s else s.rebindLink link
    if kind = 2 then s.raiseFault (0xA27 + link) else s.causeGone (0xA27 + link)

/-- A scrub of voted fields: one correction for each field listed as (domain, field) (R322). (DESIGN CHOICE, log entry
86.) -/
def State.scrubVotes (s : State) (fields : List (Nat × Nat)) : State :=
  fields.foldl (fun (s : State) x =>
    ({ s with alm := { s.alm with voteCorrections := inc64 s.alm.voteCorrections } }).logFault (x.1 * 256 + 0xF0)) s

end Sys2Proof.Machine
end

