-- ==== Sys2Proof/Machine/EntryWrites.lean ====
section
/-! DEFINITION. What a WRITE of each entry does once the engine has found the entry and the right to it: its form
(R288, R303), its clamp (R302), the conditions of its chapter, and its effect. A result is (status, EFFECT_AT, state). -/

namespace Sys2Proof.Machine

/-! ## Answers and clamps -/

/-- Accepted, with effect now. -/
def State.ok (s : State) : Nat × Nat × State := (0, s.now, s)
/-- Accepted, with effect at a later time. -/
def State.okAt (s : State) (t : Nat) : Nat × Nat × State := (0, t, s)
/-- Refused: nothing changes (EFFECT_AT 0: DESIGN CHOICE, log entry 143). -/
def State.no (s : State) (status : Nat) : Nat × Nat × State := (status, 0, s)
/-- The answer of an operation that gives a status and a state. -/
def byStatus (r : Nat × State) : Nat × Nat × State := if r.1 = 0 then r.2.ok else (r.1, 0, r.2)
/-- Count a clamp when a BLOB's value differs from the one written (R302). -/
def State.clampIf (s : State) (a : Nat) (b : Bool) : State := if b then s.clamp a else s
/-- A number brought into a range. -/
def into (lo hi x : Nat) : Nat := min hi (Nat.max lo x)

/-! ## Limited-change entries (R304, R305) -/

/-- Place of an entry in Table 11.7, if it stands there. -/
def creditOf (fam inst mem : Nat) : Option Nat :=
  if fam = 0x50 ∧ inst = 0 ∧ mem = 0x01 then some 0
  else if fam = 0x50 ∧ inst = 0 ∧ mem = 0x02 then some 1
  else if fam = 0x04 ∧ inst = 0 ∧ mem = 0x01 then some 2
  else if fam = 0x01 ∧ inst = 0 ∧ mem = 0x04 then some 3
  else if fam = 0x10 ∧ inst = 0x400 ∧ mem = 0x01 then some 4
  else none
/-- Credits of a module as made (Table 11.7). -/
def creditsMade (k : Nat) : Nat := [8, 8, 16, 4, 2].getD k 0
/-- A change record (Table 11.8). -/
def changeRecord (fam inst mem a credit t : Nat) (v : List Byte) : List Byte :=
  natLe 1 fam ++ natLe 2 inst ++ natLe 1 mem ++ natLe 1 a ++ natLe 1 credit ++ natLe 1 1 ++ natLe 1 0 ++ natLe 8 t ++
    natLe 8 (crc64 v).toNat ++ natLe 8 0
/-- A write of a value that differs from the old one spends a credit; without one it is SPENT (R304). R305's three steps are
taken in one command (DESIGN CHOICE, log entry 141). -/
def State.spend (s : State) (a fam inst mem : Nat) (old v : List Byte) (f : State → Nat × Nat × State) :
    Nat × Nat × State :=
  match creditOf fam inst mem with
  | none => f s
  | some k =>
    let left := s.alm.credits.getD k 0
    if old = v then s.ok
    else if left = 0 then s.no 7
    else
      let r := changeRecord fam inst mem a (creditsMade k - left + 1) s.now v
      f { s with alm := { s.alm with credits := s.alm.credits.set k (left - 1), changeLog := s.alm.changeLog ++ [r] } }

/-! ## Owners (R289, R290, R333) -/

/-- PEERS of every instance of an object return to 0 when its owner changes (R290). -/
def State.clearPeers (s : State) (l : List (Nat × Nat)) : State :=
  l.foldl (fun (s : State) e => s.setCfgN e.1 e.2 0 2 0) s
/-- Every instance of a stream slot. -/
def slotInstances (n : Nat) : List (Nat × Nat) :=
  [(0x20, 0x2000 + n), (0x21, n), (0x22, n), (0x23, n), (0x24, n), (0x25, n), (0x43, 0x1000 + n)]
/-- Every instance of an object that has an OWNER member. -/
def instancesOf (sp : Space) (n : Nat) : List (Nat × Nat) :=
  match sp with
  | .lport => (List.range 16).flatMap (fun k =>
      [(0x10, n + k), (0x12, n + k), (0x13, n + k), (0x03, 0x1000 + n + k)])
  | .vlan => [(0x11, n + 1)]
  | .intake => [(0x20, n), (0x24, 0x3000 + n)]
  | .outtake => [(0x20, 0x1000 + n)]
  | .encode | .decode => slotInstances n
  | .group => [(0x22, 0x2000 + n)]
  | .policer => [(0x14, n)]
  | .gpi => [(0x51, 0x100 + n)]
  | .gpo => [(0x51, 0x200 + n)]
  | _ => []
/-- OWNER of an object is written. -/
def State.giveOwner (s : State) (fam inst mem : Nat) (sp : Space) (n v : Nat) : State :=
  if s.ownerOf sp n = some v then s
  else
    let old := s
    let s := match sp with
      | .encode | .decode => s.modSlot n (fun x => { x with owner := v })
      | _ => s.setCfgN fam inst mem 1 v
    ((s.clearPeers (instancesOf sp n)).reowned old).sweepPeers.judgeAll
/-- A slot takes its kind at the first structural write of its families (R183). -/
def State.takeKind (s : State) (sp : Space) (n : Nat) : State :=
  if (s.slot n).st ≠ 0 then s
  else match sp with
    | .encode | .ladder => s.modSlot n (fun x => { x with kind := 1, st := 1 })
    | .decode => s.modSlot n (fun x => { x with kind := 2, st := 1 })
    | _ => s

/-! ## Ranges that depend on other settings (R302) -/

/-- Ceiling of QP: 51 for H.265, 63 for H.266 (Table 06.8). -/
def State.qpTop (s : State) (n : Nat) : Int := if s.cfgN 0x21 n 0x05 = 0 then 51 else 63
/-- The legal ranges of a number with the other settings in force. -/
def State.legalNow (s : State) (sp : Space) (n mem : Nat) (r : Row) : List (Int × Int) :=
  match sp, mem with
  | .encode, 0x06 => [(0, if s.cfgN 0x21 n 0x05 = 0 then 5 else 3)]
  | .encode, 0x0D => if s.cfgN 0x21 n 0x16 = 1 then [(0, 0)] else r.legal
  | .encode, 0x0E =>
    let top := s.cfgN 0x21 n 0x0F
    let w := s.rateWindow n
    if (s.slot n).st ≤ 1 then [(500, top)] else [(Nat.max 500 w.1, min top w.2)]
  | .encode, 0x0F => [(500, min 800000 (s.levelTop n).1)]
  | .encode, 0x10 => [(s.leastBuffer n, (s.levelTop n).2)]
  | .encode, 0x11 => [(s.cfgI 0x21 n 0x12, s.cfgI 0x21 n 0x13)]
  | .encode, 0x12 =>
    [(-6 * (((profileRow (s.cfgN 0x21 n 0x05) (s.cfgN 0x21 n 0x06)).2 : Int) - 8), s.qpTop n)]
  | .encode, 0x13 => [(s.cfgI 0x21 n 0x12, s.qpTop n)]
  -- a source that Table 15.1 does not list takes every write, with no clamp (R371)
  | .source, 0x02 => if (sourceInfo n).isNone then [] else r.legal
  | .decode, 0x06 => [(0, if s.cfgN 0x23 n 0x05 = 2 then 2 else if s.cfgN 0x23 n 0x05 = 1 then 3 else 5)]
  | .policer, 0x06 => [(s.cfgN 0x14 n 0x04, 3200000000)]
  | .bedsAll, 0x07 => [(0, min 64 (s.cfgN 0x24 0x2000 0x01))]
  | .dma, 0x02 => [(0, min 1024 (s.areaRoom n (s.cfgN 0x31 n 0x03)))]
  | .gauge, 0x05 => [(s.gauge.ackSeq, s.gauge.lastSeq)]
  | _, _ => r.legal

/-! ## BLOBs -/

/-- FORMAT with a code that its entry does not allow is refused (R492): sampling, depth, scan, rate. -/
def formatOk (f : Fmt) (top : Nat) : Bool :=
  decide (f.sampling ≤ top) && decide (f.depth = 8 ∨ f.depth = 10 ∨ f.depth = 12) && decide (f.scan ≤ 1) &&
    decide (f.rate ≤ 10)
/-- Scan and rate codes of an encode stream's FORMAT (R492). -/
def encodeFormatOk (b : List Byte) : Bool :=
  decide (b.length = 6) && decide (fieldAt b 4 1 ≤ 1) && decide (fieldAt b 5 1 ≤ 10)

/-- A conditioning entry takes effect at the channel's next picture boundary; a channel that is off has none (R119). -/
def State.condition (s : State) (c mem : Nat) (v : List Byte) : State :=
  let s := if s.cfgN 0x20 c 0x02 = 0 then
      if mem = 0x09 then s.modIntake c (fun i => { i with coef := v }) else s.setCfg 0x20 c mem v
    else if mem = 0x09 then s.modIntake c (fun i => { i with coefPending := v })
    else s.modIntake c (fun i =>
      { i with pending := i.pending.filter (fun e => !decide (e.1 = mem)) ++ [(mem, v)] })
  s.sweepPeers

/-- CROP (R106), clamped whole. -/
def State.writeCrop (s : State) (a c : Nat) (b : List Byte) : Nat × Nat × State :=
  let f := s.intakeFmt c
  if b.length ≠ 8 then s.no 4
  else if f.w < 2 ∨ f.lines = 0 then s.no 3
  else
    let (l, t, w, h) := clampCrop f (fieldAt b 0 2, fieldAt b 2 2, fieldAt b 4 2, fieldAt b 6 2)
    let v := natLe 2 l ++ natLe 2 t ++ natLe 2 w ++ natLe 2 h
    ((s.clampIf a (decide (v ≠ b))).condition c 0x06 v).ok
/-- The crop rectangle last accepted of a channel. -/
def State.nextCrop (s : State) (c : Nat) : List Byte := (pendingOf (s.intake c).pending 0x06).getD (s.readCrop c)
/-- SCALE (R107): from one eighth to four times the cropped size on each axis. -/
def State.writeScale (s : State) (a c : Nat) (b : List Byte) : Nat × Nat × State :=
  let k := s.nextCrop c
  let w := fieldAt k 4 2
  let h := fieldAt k 6 2
  if b.length ≠ 4 then s.no 4
  else if w = 0 ∨ h = 0 then s.no 3
  else
    let v := natLe 2 (into (ceilDiv w 8) (4 * w) (fieldAt b 0 2)) ++ natLe 2 (into (ceilDiv h 8) (4 * h) (fieldAt b 2 2))
    ((s.clampIf a (decide (v ≠ b))).condition c 0x07 v).ok
/-- FILTER_COEF (R107): 64 phases of 8 horizontal and 6 vertical 10-bit taps, each group of which sums to 512. -/
def State.writeCoef (s : State) (a c : Nat) (b : List Byte) : Nat × Nat × State :=
  let taps := (List.range 896).map (fun k => clip (toSigned 16 (fieldAt b (2 * k) 2)) (-512) 511)
  let sums := (List.range 64).all (fun p =>
    decide (((taps.drop (14 * p)).take 8).sum = 512) && decide (((taps.drop (14 * p + 8)).take 6).sum = 512))
  if b.length ≠ 1792 ∨ !sums then s.no 4
  else
    let v := taps.flatMap (fun t => natLe 2 (ofSigned 16 t))
    ((s.clampIf a (decide (v ≠ b))).condition c 0x09 v).ok
/-- TALLY_MAP: up to eight of GPI, edge, channel. -/
def State.writeTally (s : State) (a n : Nat) (b : List Byte) : Nat × Nat × State :=
  if b.length % 4 ≠ 0 ∨ 32 < b.length then s.no 4
  else
    let v := (List.range (b.length / 4)).flatMap (fun k => natLe 1 (min 31 (fieldAt b (4 * k) 1)) ++ slice b (4 * k + 1) 3)
    ((s.clampIf a (decide (v ≠ b))).setCfg 0x20 (0x2000 + n) 0x05 v).ok
/-- TIERS (R185), written while the anchor and every slot listed are CONFIGURED and the slots listed are in no espalier, the old
list's included; the tiers of an anchor that is in a group join it (R196). -/
def State.writeTiers (s : State) (n : Nat) (b : List Byte) : Nat × Nat × State :=
  let l := (List.range (b.length / 2)).map (fun k => fieldAt b (2 * k) 2)
  let old := s.tiersOf n
  if b.length % 2 ≠ 0 ∨ 10 < b.length ∨ l.any (fun m => decide (8192 ≤ m)) then s.no 4
  else if l.any (fun m => decide ((s.slot m).owner ≠ (s.slot n).owner)) then s.no 2
  else if (s.slot n).st ≠ 1 ∨ (s.slot n).role = 2 ∨ !decide l.Nodup ∨ n ∈ l ∨
      l.any (fun m => decide ((s.slot m).st ≠ 1) || decide ((s.slot m).kind ≠ 1) || decide ((s.slot m).role ≠ 0)) then s.no 3
  else if (s.groupOf n).any (fun g => decide (1024 + old.length < (s.groupMembers g).length + l.length)) then s.no 12
  else
    let s := old.foldl (fun (s : State) m => s.modSlot m (fun x => { x with role := 0, anchor := 0xFFFF })) s
    let s := l.foldl (fun (s : State) m => s.modSlot m (fun x => { x with role := 2, anchor := n })) s
    let s := s.modSlot n (fun x => { x with role := if l.isEmpty then 0 else 1 })
    (s.setCfg 0x22 n 0x01 b).ok

/-- The shaper of six or more record bytes: flags' SHAPE, REFILL, DEPTH, PERIOD, in their ranges (Table 10.4). -/
def shaperOf (shape : Bool) (refill depth period : Nat) : Shaper :=
  let r := Nat.max 1 refill
  { shape := shape, refill := r, depth := Nat.max r depth, period := into 100 1000000 period }
/-- A shaper waits for its refill instant unless it is the one in force (R271). -/
def nextShaper (now new : Shaper) : Option Shaper := if new = now then none else some new
/-- QUEUE_WRITE (Table 10.4, R271, R272). -/
def State.writeQueue (s : State) (a lp : Nat) (b : List Byte) : Nat × Nat × State :=
  let q := queueNo lp (fieldAt b 0 1)
  let flags := fieldAt b 1 1
  let p := nearest [(0, 32767), (0xFFFF, 0xFFFF)] (fieldAt b 12 2 : Int)
  let pol := p.toNat
  let limit := Nat.max 1 (fieldAt b 2 2)
  let sh := shaperOf (bit flags 1) (fieldAt b 4 2) (fieldAt b 6 2) (fieldAt b 8 4)
  let clamped := decide (limit ≠ fieldAt b 2 2) || decide (pol ≠ fieldAt b 12 2) || decide (sh.refill ≠ fieldAt b 4 2) ||
    decide (sh.depth ≠ fieldAt b 6 2) || decide (sh.period ≠ fieldAt b 8 4)
  if b.length ≠ 16 then s.no 4
  else if pol ≠ 0xFFFF ∧ s.cfgN 0x14 (32768 * dieOf lp + pol) 0x01 ≠ s.portOwner lp then s.no 2
  else
    ((s.clampIf a clamped).modQueue q (fun x =>
      { x with deep := bit flags 0, limit := limit, epolicer := pol, pend := nextShaper x.shaper sh })).ok
/-- GROUPS: 16 scheduling groups. -/
def State.writeGroups (s : State) (a lp : Nat) (b : List Byte) : Nat × Nat × State :=
  let one := fun (g : Nat) =>
    let f := fun (o k : Nat) => fieldAt b (12 * g + o) k
    (min 3 (f 0 1), Nat.max 1 (f 1 1), shaperOf (decide (1 ≤ f 2 1)) (f 4 2) (f 6 2) (f 8 4))
  let wide := fun (g : Nat) =>
    let f := fun (o k : Nat) => fieldAt b (12 * g + o) k
    let x := one g
    decide (x.1 ≠ f 0 1) || decide (x.2.1 ≠ f 1 1) || decide (1 < f 2 1) || decide (x.2.2.refill ≠ f 4 2) ||
      decide (x.2.2.depth ≠ f 6 2) || decide (x.2.2.period ≠ f 8 4)
  if b.length ≠ 192 then s.no 4
  else
    ((List.range 16).foldl (fun (s : State) g =>
      let x := one g
      s.modQGroup (16 * lp + g) (fun y =>
        { y with prio := x.1, weight := x.2.1, pend := nextShaper y.shaper x.2.2 }))
      (s.clampIf a ((List.range 16).any wide))).ok
/-- CLASS_MODE: STRICT and WEIGHT of 16 classes. -/
def State.writeClassMode (s : State) (a lp : Nat) (b : List Byte) : Nat × Nat × State :=
  if b.length ≠ 32 then s.no 4
  else
    let v := (List.range 16).flatMap (fun c =>
      natLe 1 (min 1 (fieldAt b (2 * c) 1)) ++ natLe 1 (Nat.max 1 (fieldAt b (2 * c + 1) 1)))
    ((s.clampIf a (decide (v ≠ b))).setCfg 0x12 lp 0x05 v).ok

/-- A gate schedule is written to the pending bank (R282). -/
def State.writeGate (s : State) (lp : Nat) (f : Schedule → Schedule) : Nat × Nat × State :=
  let s := s.modGate lp (fun g =>
    let g := { g with pending := f g.pending, isPending := true, lastWrite := s.now }
    { g with changeAt := g.changeTime })
  s.okAt (s.gate lp).changeAt
/-- CYCLE (R280): from 10 µs to 1 s. -/
def State.writeCycle (s : State) (a lp : Nat) (b : List Byte) : Nat × Nat × State :=
  let num := fieldAt b 0 4
  let den := fieldAt b 4 4
  if b.length ≠ 8 ∨ den = 0 then s.no 4
  else
    let (n, d) := if 100000 * num < den then (1, 100000) else if den < num then (1, 1) else (num, den)
    (s.clampIf a (decide ((n, d) ≠ (num, den)))).writeGate lp (fun g => { g with num := n, den := d })
/-- LIST (R281): 1 to 256 entries of gates and an interval. -/
def State.writeList (s : State) (a lp : Nat) (b : List Byte) : Nat × Nat × State :=
  if b.length % 6 ≠ 0 ∨ b.length = 0 ∨ 1536 < b.length then s.no 4
  else
    let l := (List.range (b.length / 6)).map (fun k => (fieldAt b (6 * k) 2, into 1 1000000000 (fieldAt b (6 * k + 2) 4)))
    (s.clampIf a (decide (listBytes l ≠ b))).writeGate lp (fun g => { g with list := l })
/-- MAX_PACKET (R283). -/
def State.writeMaxPacket (s : State) (a lp : Nat) (b : List Byte) : Nat × Nat × State :=
  if b.length ≠ 32 then s.no 4
  else
    let v := (List.range 16).flatMap (fun c => natLe 2 (into 64 9216 (fieldAt b (2 * c) 2)))
    ((s.clampIf a (decide (v ≠ b))).setCfg 0x13 lp 0x06 v).ok
/-- ACTIONS: an action and a DSCP for green, yellow and red. -/
def State.writeActions (s : State) (a n : Nat) (b : List Byte) : Nat × Nat × State :=
  if b.length ≠ 6 then s.no 4
  else
    let v := (List.range 3).flatMap (fun k =>
      natLe 1 (min 2 (fieldAt b (2 * k) 1)) ++ natLe 1 (fieldAt b (2 * k + 1) 1 % 64))
    ((s.clampIf a ((List.range 3).any (fun k => decide (2 < fieldAt b (2 * k) 1)))).setCfg 0x14 n 0x08 v).ok
/-- SLOT_GRANT (Table 12.5). -/
def State.writeSlotGrant (s : State) (a who : Nat) (b : List Byte) : Nat × Nat × State :=
  let first := fieldAt b 0 2
  let count := Nat.max 1 (fieldAt b 2 2)
  let l := (List.range count).map (fun k => first + k)
  if b.length ≠ 4 ∨ 8192 < first + count then s.no 4
  else if l.any (fun n => decide ((s.slot n).st ≠ 0)) then s.no 3
  else
    (l.foldl (fun (s : State) n => s.giveOwner 0x21 n 0x01 .encode n who)
      (s.clampIf a (decide (fieldAt b 2 2 = 0)))).ok
/-- KEY (R296, R331): the old key holds for 1 s beside the new one. -/
def State.setKey (s : State) (n : Nat) (b : List Byte) : State :=
  s.modAllot n (fun x => { x with oldKey := x.key, key := some b, keyGrace := s.now + 1000000000 })
def State.writeKey (s : State) (a n : Nat) (b : List Byte) : Nat × Nat × State :=
  if b.length ≠ 32 then s.no 4
  else s.spend a 0x04 n 0x01 (((s.allot n).key).getD []) b (fun s => (s.setKey n b).ok)
/-- LINK (R314): a code that another allotment is bound to is refused. -/
def State.writeLink (s : State) (n v : Nat) : Nat × Nat × State :=
  if v ≠ 0 ∧ (List.range 16).any (fun b => decide (b ≠ n) && decide (s.cfgN 0x04 b 0x03 = v)) then s.no 4
  else (s.setCfgN 0x04 n 0x03 1 v).ok
/-- RUN (R331): the run bit of an allotment for a bed that runs its slot. -/
def State.writeRunEntry (s : State) (a n : Nat) (b : List Byte) : Nat × Nat × State :=
  let bed := fieldAt b 0 2
  let on := fieldAt b 2 1
  if b.length ≠ 3 then s.no 4
  else if 288 ≤ bed ∨ !(s.bed bed).slots.any (fun k => decide ((s.slot k).owner = n)) then s.no 2
  else ((s.clampIf a (decide (1 < on))).writeRun n [(bed, decide (on ≠ 0))]).ok
/-- QUEUE_ENABLE (R331): the enable of a queue of a port that the allotment holds. -/
def State.writeEnableEntry (s : State) (a n : Nat) (b : List Byte) : Nat × Nat × State :=
  let q := fieldAt b 0 4
  let on := fieldAt b 4 1
  if b.length ≠ 5 then s.no 4
  else if 262144 ≤ q ∨ s.portOwner (lpOfQueue q) ≠ n then s.no 2
  else ((s.clampIf a (decide (1 < on))).modQueue q (fun x => { x with enabled := decide (on ≠ 0) })).ok
/-- A change of the addresses of the Almanac waits 1 s (R312). -/
def State.writeAddress (s : State) (mem : Nat) (v : List Byte) : Nat × Nat × State :=
  let at_ := s.now + 1000000000
  ({ s with alm := { s.alm with
      addrPend := s.alm.addrPend.filter (fun (e : Nat × Nat × List Byte) => !decide (e.1 = mem)) ++ [(mem, at_, v)] } }).okAt at_
/-- INBAND_ADDR: up to 16 of VID and address. -/
def State.writeInband (s : State) (b : List Byte) : Nat × Nat × State :=
  if b.length % 18 ≠ 0 ∨ 288 < b.length then s.no 4 else s.writeAddress 0x13 b
/-- UNIT_RESET (R379): a bed's unit is the Shed's own reset of it (log). -/
def State.writeUnitReset (s : State) (a : Nat) (b : List Byte) : Nat × Nat × State :=
  let d := fieldAt b 0 1
  if b.length ≠ 2 then s.no 4
  else byStatus ((s.clampIf a (decide (13 < d))).orderReset (min 13 d) (fieldAt b 1 1))
/-- AUDIO_MAP: up to four of port, channels (1 to 8), bits (16 or 24) and PID (R177; clamped as R302 sets, DEDUCED, log entry
134). -/
def State.writeAudio (s : State) (a n : Nat) (b : List Byte) : Nat × Nat × State :=
  if b.length % 6 ≠ 0 ∨ 24 < b.length then s.no 4
  else
    let v := (List.range (b.length / 6)).flatMap (fun k =>
      slice b (6 * k) 2 ++ natLe 1 (into 1 8 (fieldAt b (6 * k + 2) 1)) ++ natLe 1 (if fieldAt b (6 * k + 3) 1 ≤ 20 then 16 else 24) ++
        slice b (6 * k + 4) 2)
    ((s.clampIf a (decide (v ≠ b))).setCfg 0x21 n 0x1D v).ok
/-- PIDS. -/
def State.writePids (s : State) (a n : Nat) (b : List Byte) : Nat × Nat × State :=
  if b.length ≠ 6 then s.no 4
  else
    let v := (List.range 3).flatMap (fun k => natLe 2 (into 0x10 0x1FFE (fieldAt b (2 * k) 2)))
    ((s.clampIf a (decide (v ≠ b))).setCfg 0x21 n 0x1F v).ok
/-- SET of a GPO (R453). -/
def State.writeSet (s : State) (a g : Nat) (b : List Byte) : Nat × Nat × State :=
  let at_ := fieldAt b 1 8
  if b.length ≠ 9 then s.no 4
  else ((s.clampIf a (decide (1 < fieldAt b 0 1))).orderGpo g (decide (fieldAt b 0 1 ≠ 0)) at_).okAt (Nat.max s.now at_)

/-- A WRITE of a BLOB entry. The conditioning entries of a channel are CROP, SCALE, FILTER, FILTER_COEF and ORIENT; FORMAT, COLOUR
and MERGE_WAIT act at once (DESIGN CHOICE, log entry 135). -/
def State.writeBlob (s : State) (a fam inst mem : Nat) (sp : Space) (n : Nat) (b : List Byte) : Nat × Nat × State :=
  match sp, mem with
  | .fwd, 0x10 => byStatus (s.writeFlow a b)
  | .fwd, 0x11 => byStatus (s.deleteFlow a b)
  | .fwd, 0x18 =>
    if b.length ≠ 68 then s.no 4 else byStatus (s.writeDelivery a (fieldAt b 0 4) (BitVec.ofNat 512 (fieldAt b 4 64)))
  | .fwd, 0x1C =>
    if b.length ≠ 5 then s.no 4 else byStatus (s.grantBlock a (fieldAt b 0 2) (fieldAt b 2 1) (fieldAt b 3 2))
  | .fwd, 0x1D =>
    if b.length ≠ 11 then s.no 4
    else byStatus (s.writeStatic a (fieldAt b 0 2) (BitVec.ofNat 48 (beNat (slice b 2 6))) (fieldAt b 8 2)
      (decide (fieldAt b 10 1 ≠ 0)))
  | .vlan, 0x02 => if b.length ≠ 128 then s.no 4 else (s.setCfg fam inst mem b).judgeAll.ok
  | .intake, 0x03 =>
    if b.length ≠ 8 ∨ !formatOk (fmtOf b) 1 then s.no 4 else (s.setCfg fam inst mem b).sweepPeers.judgeAll.ok
  | .intake, 0x04 => if b.length ≠ 3 then s.no 4 else (s.setCfg fam inst mem b).ok
  | .intake, 0x06 => s.writeCrop a n b
  | .intake, 0x07 => s.writeScale a n b
  | .intake, 0x09 => s.writeCoef a n b
  | .feed, 0x05 => s.writeTally a n b
  | .bedsAll, 0x02 => byStatus (s.loadPatch b)
  | .encode, 0x08 => if !encodeFormatOk b then s.no 4 else (s.setCfg fam inst mem b).ok
  | .encode, 0x1D => s.writeAudio a n b
  | .encode, 0x1E =>
    if b.length % 3 ≠ 0 ∨ 12 < b.length then s.no 4
    else (s.setCfg fam inst mem ((List.range (b.length / 3)).flatMap (fun k =>
      slice b (3 * k) 2 ++ natLe 1 (fieldAt b (3 * k + 2) 1 % 4)))).ok
  | .encode, 0x1F => s.writePids a n b
  | .ladder, 0x01 => s.writeTiers n b
  | .decode, 0x08 => if b.length ≠ 8 ∨ !formatOk (fmtOf b) 2 then s.no 4 else (s.setCfg fam inst mem b).ok
  | .queues, 0x02 => s.writeGroups a n b
  | .queues, 0x03 => s.writeQueue a n b
  | .queues, 0x05 => s.writeClassMode a n b
  | .gates, 0x02 => s.writeCycle a n b
  | .gates, 0x04 => s.writeList a n b
  | .gates, 0x06 => s.writeMaxPacket a n b
  | .policer, 0x08 => s.writeActions a n b
  | .device, 0x11 => if b.length ≠ 52 then s.no 4 else s.writeAddress 0x11 b
  | .device, 0x13 => s.writeInband b
  | .allot, 0x01 => s.writeKey a n b
  | .allot, 0x07 => s.writeSlotGrant a n b
  | .allot, 0x0D => s.writeRunEntry a n b
  | .allot, 0x0E => s.writeEnableEntry a n b
  | .faults, 0x05 => s.writeUnitReset a b
  | .cal, 0x01 => byStatus (s.calStart b)
  | .cal, 0x07 => byStatus (s.trimRestore a b)
  | .counters, _ =>
    if b.length ≠ 11 then s.no 4
    else ((s.clampIf a (decide (legalCounter b ≠ b))).selectCounter (mem - 0x10) (legalCounter b)).ok
  | .harvest, 0x01 => byStatus (s.setHarvest n b)
  | .gauge, 0x02 =>
    if b.length ≠ 68 ∨ fieldAt b 0 4 ≠ 1 then s.no 4
    else
      let v := natLe 4 1 ++ natLe 4 0 ++ b.drop 8
      s.spend a fam inst mem (s.cfg fam inst mem) v (fun s => (s.setCfg fam inst mem v).ok)
  | .gpo, 0x02 => s.writeSet a n b
  | _, _ => (s.setCfg fam inst mem b).ok

/-! ## Numbers -/

/-- MODE of an intake channel (R97): a channel that stops or changes mode starts afresh. -/
def State.writeMode (s : State) (c v : Nat) : State :=
  if s.cfgN 0x20 c 0x02 = v then s
  else
    let s := (s.applyIntake c).setCfgN 0x20 c 0x02 1 v
    (s.modIntake c (fun i =>
      { legA := i.legA, legB := i.legB, lastA := i.lastA, lastB := i.lastB, coef := i.coef, pictures := i.pictures,
        counts := i.counts })).sweepPeers.judgeAll
/-- CUT_TO (R113): CUT_AT is the order time of this write, and is used up. -/
def State.writeCut (s : State) (n c : Nat) : Nat × Nat × State :=
  let at_ := s.cfgN 0x20 (0x2000 + n) 0x03
  let time := if at_ = 0 then s.now else at_
  let s := s.setCfgN 0x20 (0x2000 + n) 0x03 8 0
  match s.orderCut n c time false with
  | (0, s) => s.okAt (if (s.slot n).st ≤ 1 then s.now else gridFrom (s.slotRate n) (Nat.max s.now (time + 50000)))
  | (st, s) => (st, 0, s)
/-- PEER (R234). -/
def State.writePeer (s : State) (c v : Nat) : Nat × Nat × State :=
  if v ≠ 0xFFFF ∧ !s.peerFits c v then s.no 16 else (s.setCfgN 0x24 (0x3000 + c) 0x01 2 v).judgeAll.ok
/-- STANDBY (R265). -/
def State.writeStandby (s : State) (n v : Nat) : Nat × Nat × State :=
  let peer := match (s.feed n).source with
    | some c => s.cfgN 0x24 (0x3000 + c) 0x01
    | none => 0xFFFF
  if v ≠ 0xFFFF ∧ v ≠ peer then s.no 16 else (s.setCfgN 0x24 n 0x05 2 v).judgeAll.ok
/-- GROUP of a stream (R196). -/
def State.writeGroupOf (s : State) (n v : Nat) : Nat × Nat × State :=
  if (s.slot n).role = 2 then s.no 3
  else if v ≠ 0xFFFF ∧ s.cfgN 0x22 (0x2000 + v) 0x01 ≠ (s.slot n).owner then s.no 2
  else if v ≠ 0xFFFF ∧ s.groupOf n ≠ some v ∧ 1024 < (s.groupMembers v).length + (s.ladder n).length then s.no 12
  else (s.setCfgN 0x22 n 0x06 2 v).ok
/-- EPOCH, RATE and SCAN of a group change only while no member runs (R199). -/
def State.writeGroupEntry (s : State) (g mem w v : Nat) : Nat × Nat × State :=
  if mem = 0x04 then
    let r := s.writePeriod g v
    r.2.okAt r.1
  else if (s.groupMembers g).any (fun n => decide (3 ≤ (s.slot n).st)) then s.no 3
  else (s.setCfgN 0x22 (0x2000 + g) mem w v).ok
/-- A non-structural member of an admitted stream goes to its shadow (R170). -/
def State.writeStream (s : State) (n fam inst mem : Nat) (v : List Byte) : Nat × Nat × State :=
  let r := s.shadowWrite n fam inst mem v
  r.2.okAt r.1

/-- OP_POINT of a stack (R357): a coding stack's entry holds it once accepted. -/
def State.writePoint (s : State) (n x fam inst : Nat) (b : List Byte) : Nat × Nat × State :=
  let r := s.setPoint n x
  if r.1 ≠ 0 then (r.1, 0, r.2) else (if n < 8 then r.2.setCfg fam inst 0x02 b else r.2).ok
/-- CLASS of a source (R371, R372). -/
def State.writeClass (s : State) (a n x : Nat) : Nat × Nat × State :=
  match sourceInfo n with
  | none => s.ok
  | some i => if i.fixed then s.ok else ((s.clampIf a (decide (clampClass i x ≠ x))).setClass n x).ok

/-- A WRITE of a number that the engine has brought into its range. -/
def State.writeNumber (s : State) (a fam inst mem : Nat) (sp : Space) (n : Nat) (r : Row) (v : Int) :
    Nat × Nat × State :=
  let x := v.toNat
  let b := r.ty.encode v
  let plain := s.setCfg fam inst mem b
  match sp, mem with
  | .lport, 0x01 =>
    let s := s.rebreak (fpOf n) x
    (((List.range 16).foldl (fun (s : State) k => s.regate (16 * fpOf n + k)) s).judgeAll).ok
  | .lport, 0x02 => ((plain.enableChanged n).regate n).judgeAll.ok
  | .lport, 0x04 => (s.giveOwner fam inst mem sp n x).ok
  | .vlan, 0x01 => (s.giveOwner fam inst mem sp n x).ok
  | .intake, 0x01 => (s.giveOwner fam inst mem sp n x).ok
  | .intake, 0x02 => (s.writeMode n x).ok
  | .intake, 0x05 => plain.sweepPeers.judgeAll.ok
  | .intake, 0x08 => (s.condition n mem b).ok
  | .intake, 0x0A => (s.condition n mem b).ok
  | .feed, 0x02 => s.writeCut n x
  | .feed, 0x04 =>
    let r := s.shadowWrite n fam inst mem b
    r.2.sweepPeers.judgeAll.okAt r.1
  | .outtake, 0x01 => (s.giveOwner fam inst mem sp n x).ok
  | .outtake, 0x02 => plain.judgeAll.ok
  | .outtake, 0x07 => plain.judgeAll.ok
  | .bedsAll, 0x07 => plain.keepWarm.ok
  | .bed, 0x03 => (if x = 1 then s.wakeBed n else s.sleepBed n).ok
  | .encode, 0x01 => (s.giveOwner fam inst mem sp n x).ok
  | .decode, 0x01 => (s.giveOwner fam inst mem sp n x).ok
  | .encode, 0x03 => byStatus (s.admit_ n x)
  | .decode, 0x03 => byStatus (s.admit_ n x)
  | .encode, 0x14 => if (s.groupOf n).isSome ∨ (s.slot n).role = 2 then s.no 3 else s.writeStream n fam inst mem b
  | .ladder, 0x06 => s.writeGroupOf n x
  | .group, 0x01 => (s.giveOwner fam inst mem sp n x).ok
  | .group, _ => s.writeGroupEntry n mem r.ty.width x
  | .twin, 0x05 => s.writeStandby n x
  | .twins, 0x01 => plain.sizePool.ok
  | .peer, 0x01 => s.writePeer n x
  | .gates, 0x01 => (plain.gatesAt n s.now).ok
  | .gates, 0x03 => s.writeGate n (fun g => { g with base := x })
  | .policer, 0x01 => (s.giveOwner fam inst mem sp n x).ok
  | .device, 0x10 => s.writeAddress 0x10 b
  | .allot, 0x03 => s.writeLink n x
  | .allot, 0x08 => (s.grantLatches n x).ok
  | .allot, 0x09 => (s.resetAllot n).ok
  | .stack, 0x02 => s.writePoint n x fam inst b
  | .stack, 0x0A => (s.clearLog n).ok
  | .dma, 0x02 => (plain.settleArea n).ok
  | .dma, 0x03 =>
    let size := s.cfgN 0x31 n 0x02
    let room := s.areaRoom n x
    -- a die without room for the area takes as much of it as fits (R369)
    let s := (if room < size then (plain.setCfgN 0x31 n 0x02 4 room).clamp a else plain)
    (s.settleArea n).ok
  | .faults, 0x01 => (s.setInject (decide (x = 1))).ok
  | .faults, 0x06 => (s.modFlt (fun f => { f with alertSw := BitVec.ofNat 2 x })).ok
  | .errRec, 0x02 => (s.clearRecord n).ok
  | .source, 0x01 => s.writeClass a n x
  | .source, 0x02 => (s.forceFault n (decide (x = 1))).ok
  | .cal, 0x04 =>
    let s := s.armEpoch a x
    s.okAt s.cal.armed
  | .cal, 0x08 => s.discardTrims.ok
  | .soilBed, 0x04 => byStatus (s.retest n)
  | .counters, 0x02 => (s.freezeAll (decide (x = 1))).ok
  | .counters, 0x03 => s.snapshot.ok
  | .hist, 0x03 =>
    let r := s.orderHistClear n
    r.2.okAt r.1
  | .gauge, 0x05 => ({ s with gauge := { s.gauge with ackSeq := x } }).ok
  | .module, 0x01 => byStatus (s.chooseMain x)
  | .gpi, 0x01 => (s.giveOwner fam inst mem sp n x).ok
  | .gpo, 0x01 => (s.giveOwner fam inst mem sp n x).ok
  | .clock, 0x01 => byStatus (s.selectCf x)
  | .clock, 0x10 => plain.bmca.ok
  | .clock, 0x11 => plain.bmca.ok
  | .clock, 0x12 => plain.bmca.ok
  | .clock, 0x1D => byStatus (s.orderTime x)
  | .ptp, 0x01 => plain.bmca.ok
  | .ptp, 0x02 => plain.bmca.ok
  | .encode, _ => if r.struct then plain.judgeAll.ok else s.writeStream n fam inst mem b
  | .ladder, _ => if r.struct then plain.ok else s.writeStream n fam inst mem b
  | .decode, _ => if r.struct then plain.judgeAll.ok else s.writeStream n fam inst mem b
  | _, _ => plain.ok

/-- A write of TIME_SET is brought to the nearest whole second (R473). -/
def wholeSecond (x : Int) : Int := nearestSecond x

/-- A WRITE of a number of the wrong length is malformed; one outside its range is clamped and counted; with no legal value
it is refused (R302, R303). -/
def State.writeScalar (s : State) (a fam inst mem : Nat) (sp : Space) (n : Nat) (r : Row) (b : List Byte) :
    Nat × Nat × State :=
  let x := r.ty.decode b
  let legal := s.legalNow sp n mem r
  if b.length ≠ r.ty.width then s.no 4
  else if legal.any (fun p => decide (p.2 < p.1)) then s.no 3
  else
    let y := if sp = .clock ∧ mem = 0x1D then wholeSecond x else if legal.isEmpty then x else nearest legal x
    let go := fun (s : State) => s.writeNumber a fam inst mem sp n r y
    let out := match creditOf fam inst mem with
      | some _ => s.spend a fam inst mem (s.cfg fam inst mem) (r.ty.encode y) go
      | none => go s
    -- a refusal does not count as a clamp (R303)
    if out.1 = 0 ∧ x ≠ y then (0, out.2.1, out.2.2.clamp a) else out

/-- A WRITE of a string (R288, R303). -/
def State.writeString (s : State) (a fam inst mem : Nat) (b : List Byte) : Nat × Nat × State :=
  if b.length ≠ 32 ∨ !isStr32 b then s.no 4
  else s.spend a fam inst mem (s.cfg fam inst mem) b (fun s => (s.setCfg fam inst mem b).ok)

/-- Owner of a stream slot, for an entry of its encode or decode family. -/
def State.slotOwner (s : State) (sp : Space) (n : Nat) : Nat :=
  match sp with
  | .encode | .decode => (s.slot n).owner
  | _ => 0
/-- What follows an accepted write: a structural one gives a FREE slot its kind (R183), and PEERS clear when the slot's owner
has changed (R290). -/
def afterWrite (sp : Space) (n : Nat) (r : Row) (was : Nat) (out : Nat × Nat × State) : Nat × Nat × State :=
  if out.1 ≠ 0 then out
  else
    let s := if r.struct then out.2.2.takeKind sp n else out.2.2
    (0, out.2.1, if s.slotOwner sp n ≠ was then s.clearPeers (slotInstances n) else s)

/-- A WRITE of an entry that exists, by an allotment that holds the right. Structural members may change only while the slot
is FREE or CONFIGURED (R169), and the first such write gives a FREE slot its kind (R183). (DEDUCED, log entry 83.).
(DEDUCED, log entry 90.). (DEDUCED, log entry 92.) -/
def State.entryWrite (s : State) (a fam inst mem : Nat) (sp : Space) (n : Nat) (r : Row) (b : List Byte) :
    Nat × Nat × State :=
  if mem = 0 then (if b.length ≠ 2 then s.no 4 else (s.setCfg fam inst 0 b).ok)
  else if s.otherKind sp n mem then s.no 3
  else if r.struct && decide (1 < (s.slot n).st) then s.no 3
  else
    match r.ty with
    | .blob => afterWrite sp n r (s.slotOwner sp n) (s.writeBlob a fam inst mem sp n b)
    | .str => afterWrite sp n r (s.slotOwner sp n) (s.writeString a fam inst mem b)
    | _ => afterWrite sp n r (s.slotOwner sp n) (s.writeScalar a fam inst mem sp n r b)

end Sys2Proof.Machine
end

