-- ==== Sys2Proof/Machine/Hmac.lean ====
section
/-! DEFINITION. HMAC-SHA-256, with which messages are tagged (R296): the hash of FIPS 180-4 and the construction of
RFC 2104. -/

namespace Sys2Proof.Machine

/-- The least `n` primes: the numbers from 2 on that no smaller prime divides. -/
def primes (n : Nat) : List Nat :=
  ((List.range (6 * n)).foldl (fun (l : List Nat) i => if l.all (fun p => decide ((i + 2) % p ≠ 0)) then l ++ [i + 2] else l) []).take n
/-- The whole part of the `k`th root of `x`, found bit by bit from bit `b` down. -/
def rootFrom (k x : Nat) : Nat → Nat → Nat
  | 0, r => r
  | b + 1, r => rootFrom k x b (if (r + 2 ^ b) ^ k ≤ x then r + 2 ^ b else r)
/-- The first 32 bits of the fraction of the `k`th root of a prime: what FIPS 180-4 makes its constants of. -/
def rootFraction (k p : Nat) : BitVec 32 := BitVec.ofNat 32 (rootFrom k (p * 2 ^ (32 * k)) 37 0)

/-- The working variables. -/
structure Sha where
  a : BitVec 32
  b : BitVec 32
  c : BitVec 32
  d : BitVec 32
  e : BitVec 32
  f : BitVec 32
  g : BitVec 32
  h : BitVec 32
  deriving DecidableEq, Repr

/-- The state of a hash, as its eight words. -/
def Sha.ofWords (l : List (BitVec 32)) : Sha :=
  let at_ := fun k => l.getD k 0
  { a := at_ 0, b := at_ 1, c := at_ 2, d := at_ 3, e := at_ 4, f := at_ 5, g := at_ 6, h := at_ 7 }
def Sha.words (s : Sha) : List (BitVec 32) := [s.a, s.b, s.c, s.d, s.e, s.f, s.g, s.h]
/-- Three rotations of a word, mixed. -/
def mixed (i j k : Nat) (x : BitVec 32) : BitVec 32 := x.rotateRight i ^^^ x.rotateRight j ^^^ x.rotateRight k
/-- A turn of the working variables by one word of the schedule, its constant added. -/
def Sha.turn (s : Sha) (x : BitVec 32) : Sha :=
  let choice := s.g ^^^ (s.e &&& (s.f ^^^ s.g))
  let most := (s.a &&& s.b) ||| (s.c &&& (s.a ||| s.b))
  let t := s.h + mixed 6 11 25 s.e + choice + x
  { a := t + mixed 2 13 22 s.a + most, b := s.a, c := s.b, d := s.c, e := s.d + t, f := s.e, g := s.f, h := s.g }
/-- The word that follows a window of sixteen words of the schedule. -/
def nextWord (w : List (BitVec 32)) : BitVec 32 :=
  let low := w.getD 1 0
  let high := w.getD 14 0
  w.getD 0 0 + (low.rotateRight 7 ^^^ low.rotateRight 18 ^^^ (low >>> 3)) + w.getD 9 0 +
    (high.rotateRight 17 ^^^ high.rotateRight 19 ^^^ (high >>> 10))
/-- All turns, a constant each, with the window of the schedule moving one word at a time. -/
def Sha.turns : List (BitVec 32) → List (BitVec 32) → Sha → Sha
  | [], _, s => s
  | k :: r, w, s => Sha.turns r (w.drop 1 ++ [nextWord w]) (s.turn (k + w.headD 0))
/-- Blocks of 64 bytes, one after the other. -/
def shaBlocks (consts : List (BitVec 32)) : List (List Byte) → List (BitVec 32) → List (BitVec 32)
  | [], h => h
  | b :: r, h =>
    let w := (List.range 16).map (fun k => BitVec.ofNat 32 (beNat (slice b (4 * k) 4)))
    shaBlocks consts r (List.zipWith (· + ·) h (Sha.turns consts w (Sha.ofWords h)).words)
/-- SHA-256 of bytes: the message, a 1 bit, zeros, and its length in bits. -/
def sha256 (m : List Byte) : List Byte :=
  let padded := m ++ [0x80] ++ List.replicate ((119 - m.length % 64) % 64) 0 ++ (natLe 8 (8 * m.length)).reverse
  let blocks := (List.range (padded.length / 64)).map (fun k => slice padded (64 * k) 64)
  let out := shaBlocks ((primes 64).map (rootFraction 3)) blocks ((primes 8).map (rootFraction 2))
  out.flatMap (fun x => (natLe 4 x.toNat).reverse)
/-- HMAC-SHA-256 with a key of at most 64 bytes. -/
def hmac (key m : List Byte) : List Byte :=
  let k := key ++ List.replicate (64 - key.length) 0
  sha256 (k.map (· ^^^ 0x5C) ++ sha256 (k.map (· ^^^ 0x36) ++ m))

end Sys2Proof.Machine
end

