-- ==== Sys2Proof/Machine/Almanac.lean ====
section
/-! DEFINITION. The Almanac engine (11): reads and writes in decision slots, the staging buffer, the journal of a restart,
and the messages that reach the engine over UDP and through the mailboxes. -/

namespace Sys2Proof.Machine

/-! ## Reads and writes in a decision slot -/

/-- Counters: entries that R401 governs and the U64 counts of a family's count table (R310). -/
def isCounter (sp : Space) (mem : Nat) : Bool :=
  let among := fun (lo hi : Nat) => decide (lo ≤ mem) && decide (mem ≤ hi)
  match sp with
  | .lport => among 0x0A 0x0B
  | .intake => among 0x18 0x1E
  | .feed => among 0x10 0x14
  | .bed => among 0x04 0x06
  | .encode => among 0x38 0x3F
  | .ladder => decide (mem = 0x09) || decide (mem = 0x0B)
  | .decode => among 0x38 0x43
  | .twin => among 0x10 0x19
  | .policer => among 0x10 0x12
  | .gates => decide (mem = 0x08)
  | .device => among 0x1A 0x1B
  | .almRec => among 0x03 0x07 || decide (mem = 0x09)
  | .allot => among 0x0A 0x0C
  | .platform => decide (mem = 0x01)
  | .stack => among 0x06 0x07 || decide (mem = 0x09)
  | .dma => among 0x04 0x05
  | .faults => among 0x07 0x08
  | .errRec => decide (mem = 0x03)
  | .source => decide (mem = 0x04)
  | .cal => decide (mem = 0x09)
  | .pair => decide (mem = 0x04)
  | .soil => decide (mem = 0x03)
  | .module => decide (mem = 0x04) || decide (mem = 0x08)
  | .hedge => decide (mem = 0x02)
  | .gpi => decide (mem = 0x05)
  | .clock => decide (mem = 0x04) || decide (mem = 0x24)
  | _ => false

/-- Entries whose owner class is judged for each record (R289): reads and writes. -/
def recordRead (sp : Space) (mem : Nat) : Bool :=
  decide (sp = .fwd) && (decide (mem = 0x12) || decide (mem = 0x19) || decide (mem = 0x1C))
def recordWrite (sp : Space) (mem : Nat) : Bool :=
  decide (sp = .fwd) && (decide (mem = 0x10) || decide (mem = 0x11) || decide (mem = 0x18) || decide (mem = 0x1D))

/-- The engine's copy of every counter (R310). -/
def State.fromCopy (s : State) : State :=
  match s.copy with
  | none => s
  | some c =>
    { s with fwd := c.fwd, egr := c.egr, str := c.str, alm := c.alm, allots := c.allots, mem := c.mem, flt := c.flt,
             cal := c.cal, gauge := c.gauge, mod := c.mod, clk := c.clk }

/-- Start of the decision slot in progress (R306). -/
def State.slotTime (s : State) : Nat := s.now / 10 * 10

/-- A READ (R287, R289, R307, R310, R497): status, EFFECT_AT, value. (DEDUCED, log entry 88.) -/
def State.readOp (s : State) (a fam inst mem : Nat) (arg : List Byte) : Nat × Nat × List Byte :=
  match spaceOf fam inst with
  | none => (1, 0, [])
  | some (sp, n) =>
    match entryRow sp n mem with
    | none => (1, 0, [])
    | some r =>
      if !recordRead sp mem && !canRead r.acc (s.rightsMask a fam inst sp n) then (2, 0, [])
      else
        match s.copy with
        | some c =>
          if isCounter sp mem then
            let x := s.fromCopy.entryRead a fam inst mem sp n arg
            (x.1, if x.1 = 0 then c.at_ else 0, x.2)
          else
            let x := s.entryRead a fam inst mem sp n arg
            (x.1, if x.1 = 0 then s.slotTime else 0, x.2)
        | none =>
          let x := s.entryRead a fam inst mem sp n arg
          let was := s.alm.slotOld.find? (fun e =>
            decide (e.1 = s.now / 10) && decide (e.2.1 = entryKey fam inst mem) && arg.isEmpty)
          let v := match was with
            | some w => w.2.2
            | none => x.2
          (x.1, if x.1 = 0 then s.slotTime else 0, if x.1 = 0 then v else x.2)

/-- What two writes must share to conflict (R306): the entry, or the record of a table that the value names. -/
def conflictKey (fam inst mem : Nat) (sp : Space) (b : List Byte) : Nat :=
  let part := fun (m len : Nat) => entryKey fam inst m + 2 ^ 48 * (1 + leNat (b.take len))
  match sp, mem with
  | .fwd, 0x10 => part 0x10 40
  | .fwd, 0x11 => part 0x10 40
  | .fwd, 0x18 => part 0x18 4
  | .fwd, 0x1C => part 0x1C 2
  | .fwd, 0x1D => part 0x1D 8
  | .queues, 0x03 => part 0x03 1
  | .allot, 0x0D => part 0x0D 2
  | .allot, 0x0E => part 0x0E 4
  | .faults, 0x05 => part 0x05 2
  | _, _ => entryKey fam inst mem

/-- Register fields that an entry shows, whose writes take the register path (R308). -/
def registerFields (sp : Space) (n mem : Nat) (b : List Byte) : List Nat :=
  match sp, mem with
  | .allot, 0x0D => [runField n (fieldAt b 0 2)]
  | .allot, 0x0E => [enableField (fieldAt b 0 4)]
  | .faults, 0x01 => [fieldName 4 0 0]
  | .faults, 0x06 => [fieldName 4 1 0]
  | .errRec, 0x02 => [fieldName 5 n 0]
  | .source, 0x01 => [fieldName 6 n 0]
  | .source, 0x02 => [fieldName 6 n 1]
  | _, _ => []

/-- Note a write accepted in its decision slot: what it conflicts over, and the value in force at the slot's start.
(DEDUCED, log entry 88.) -/
def State.noteWrite (s : State) (a fam inst mem key : Nat) (old : List Byte) : State :=
  let slot := s.now / 10
  let had := s.alm.slotOld.any (fun e => decide (e.1 = slot) && decide (e.2.1 = entryKey fam inst mem))
  let olds := s.alm.slotOld.filter (fun e => decide (slot ≤ e.1 + 64))
  let writes := (slot, key, a) :: s.alm.slotWrites.filter (fun e => decide (slot ≤ e.1 + 64))
  let olds := if had then olds else (slot, entryKey fam inst mem, old) :: olds
  { s with alm := { s.alm with slotWrites := writes, slotOld := olds, imaged := true } }

/-- A WRITE (R287, R289, R302 to R308): status, EFFECT_AT, state. (DESIGN CHOICE, log entry 7.) -/
def State.writeOp (s : State) (a fam inst mem : Nat) (b : List Byte) : Nat × Nat × State :=
  match spaceOf fam inst with
  | none => s.no 1
  | some (sp, n) =>
    match entryRow sp n mem with
    | none => s.no 1
    | some r =>
      if !recordWrite sp mem && !canWrite r.acc (s.rightsMask a fam inst sp n) then s.no 2
      else
        let out := s.entryWrite a fam inst mem sp n r b
        let key := conflictKey fam inst mem sp b
        let fields := registerFields sp n mem b
        -- only a write that would take effect contends (R306)
        if out.1 ≠ 0 then out
        else if s.alm.slotWrites.any (fun e => decide (e.1 = s.now / 10) && decide (e.2.1 = key) && decide (e.2.2 < a)) ||
            s.loses a fields then
          (s.modAllot a (fun x => { x with superseded := inc64 x.superseded })).no 6
        else
          let t := out.2.2.noteWrite a fam inst mem key (s.entryValue fam inst mem sp n)
          (0, out.2.1, if fields.isEmpty then t else t.covers a fields)

/-! ## Staging (R295) -/

/-- STAGE: bytes placed at an offset; a gap holds zeros. -/
def State.stageBytes (s : State) (a off : Nat) (b : List Byte) : Nat × State :=
  if b.isEmpty then (0, s)
  else if 1048576 < off + b.length then (4, s)
  else
    let old := (s.allot a).staging
    let long := old ++ List.replicate (off + b.length - old.length) 0
    (0, s.modAllot a (fun x => { x with staging := patchBytes long off b }))
/-- CLEAR_STAGE, and what WRITE_STAGED leaves. -/
def State.clearStage (s : State) (a : Nat) : State := s.modAllot a (fun x => { x with staging := [] })

/-! ## Operations -/

/-- An operation's answer: status, EFFECT_AT, data, and the state it leaves. -/
structure OpResult where
  status : Nat
  at_ : Nat := 0
  data : List Byte := []
  next : State
  deriving DecidableEq, Repr

/-- Requests are journalled: all of Dorsen restarts, or the journal has not yet drained (R310). -/
def State.journals (s : State) : Bool := s.shed.restarting || !s.shed.journal.isEmpty
/-- Operations that an allotment has in the journal (QUEUED_NOW). -/
def State.queuedOf (s : State) (a : Nat) : Nat := (s.shed.journal.filter (fun j => decide (j.a = a))).length
/-- The journal has room for `n` more operations of an allotment (R310). -/
def State.journalRoom (s : State) (a n : Nat) : Bool :=
  decide (s.shed.journal.length + n ≤ 16384) && decide (s.queuedOf a + n ≤ 1024)
/-- An operation is journalled and answered QUEUED; a journal that is full answers BUSY. -/
def State.queueOp (s : State) (j : JournalOp) : OpResult :=
  if s.journalRoom j.a 1 then
    { status := 9, next := { s with shed := { s.shed with journal := s.shed.journal ++ [j] } } }
  else { status := 5, next := s }

/-- A WRITE, at once or journalled. -/
def State.runWrite (s : State) (a seq idx fam inst mem : Nat) (b : List Byte) : OpResult :=
  if s.journals then
    s.queueOp { a := a, seq := seq, idx := idx, op := 2, fam := fam, inst := inst, mem := mem, val := b }
  else
    let r := s.writeOp a fam inst mem b
    { status := r.1, at_ := r.2.1, next := r.2.2 }
/-- A READ, at once, or behind the allotment's queued writes (R310). -/
def State.runRead (s : State) (a seq idx fam inst mem : Nat) (arg : List Byte) : OpResult :=
  if s.journals && decide (0 < s.queuedOf a) then
    s.queueOp { a := a, seq := seq, idx := idx, op := 1, fam := fam, inst := inst, mem := mem, val := arg }
  else
    let r := s.readOp a fam inst mem arg
    { status := r.1, at_ := r.2.1, data := r.2.2, next := s }
/-- WRITE_STAGED (R295): the buffer is emptied whatever the outcome. -/
def State.runStaged (s : State) (a seq idx fam inst mem len : Nat) (formOk : Bool) : OpResult :=
  let staged := (s.allot a).staging
  let s := s.clearStage a
  if !formOk || decide (staged.length < len) then { status := 4, next := s }
  else s.runWrite a seq idx fam inst mem (staged.take len)
/-- One operation (Table 11.5). Before the Almanac is live none runs. -/
def State.runOp (s : State) (a seq idx op fam inst mem : Nat) (d : List Byte) : OpResult :=
  if !s.alm.live then { status := 8, next := s }
  else match op with
    | 1 => s.runRead a seq idx fam inst mem d
    | 2 => s.runWrite a seq idx fam inst mem d
    | 3 => s.runStaged a seq idx fam inst mem (leNat (d.take 4)) (decide (d.length = 4))
    | 4 =>
      if d.length < 4 then { status := 4, next := s }
      else
        let r := s.stageBytes a (fieldAt d 0 4) (d.drop 4)
        { status := r.1, at_ := if r.1 = 0 then s.now else 0, next := r.2 }
    | 5 => { status := 0, at_ := s.now, next := s.clearStage a }
    | _ => { status := 4, next := s }

/-- The work of an allotment waits for a takeover: its core pair is down and no other pair has taken it (R309). -/
def State.waits (s : State) (a : Nat) : Bool :=
  decide (a ∈ s.shed.pairsDown) && decide (tget (fun k => k) s.shed.takenBy a = a) && !s.journals
/-- An operation commanded by itself, its answer shown; while the allotment's core pair restarts it waits unanswered. -/
def State.order (s : State) (a op fam inst mem : Nat) (d : List Byte) : State :=
  if s.alm.live && s.waits a then
    { s with shed := { s.shed with
        waiting := s.shed.waiting ++
          [{ a := a, seq := 0, idx := 0, op := op, fam := fam, inst := inst, mem := mem, val := d }] } }
  else
    let r := s.runOp a 0 0 op fam inst mem d
    r.next.say r.status r.data r.at_
/-- A WRITE commanded by itself. -/
def State.orderWrite (s : State) (a fam inst mem : Nat) (b : List Byte) : State := s.order a 2 fam inst mem b
/-- A WRITE of a number of `w` bytes. -/
def State.orderNumber (s : State) (a fam inst mem w v : Nat) : State := s.orderWrite a fam inst mem (natLe w v)
/-- A READ commanded by itself. -/
def State.orderRead (s : State) (a fam inst mem : Nat) (arg : List Byte) : State := s.order a 1 fam inst mem arg

/-! ## Messages (R293) -/

/-- A request operation (Table 11.3). -/
structure ReqOp where
  op : Nat
  fam : Nat
  inst : Nat
  mem : Nat
  data : List Byte
  deriving DecidableEq, Repr

/-- A message (Table 11.2) whose layout holds. -/
structure Msg where
  kind : Nat
  a : Nat
  session : Nat
  seq : Nat
  ops : List ReqOp
  /-- Bytes 0 to 23 + BODY_LENGTH, and the tag. -/
  signed : List Byte
  tag : List Byte
  deriving DecidableEq, Repr

/-- Length padded to a multiple of four. -/
def pad4 (n : Nat) : Nat := (n + 3) / 4 * 4
/-- The operations of a body, when they fill it exactly. -/
def parseOps : Nat → List Byte → Option (List ReqOp)
  | 0, b => if b.isEmpty then some [] else none
  | k + 1, b =>
    let len := fieldAt b 6 2
    if b.length < 8 ∨ b.length < 8 + pad4 len then none
    else
      let o : ReqOp :=
        { op := fieldAt b 0 1, fam := fieldAt b 1 1, inst := fieldAt b 2 2, mem := fieldAt b 4 1, data := slice b 8 len }
      (parseOps k (b.drop (8 + pad4 len))).map (fun l => o :: l)
/-- Parse a message; none when R293 discards it. Mailbox and identify messages carry no tag. -/
def parseMsg (b : List Byte) (mailbox : Bool) : Option Msg :=
  let kind := fieldAt b 1 1
  let n := fieldAt b 12 2
  let blen := fieldAt b 14 2
  let tag := if kind = 1 ∧ !mailbox then 32 else 0
  if b.length < 24 ∨ fieldAt b 0 1 ≠ 1 ∨ (kind ≠ 1 ∧ kind ≠ 3) ∨ n = 0 ∨ 64 < n ∨ b.length ≠ 24 + blen + tag then none
  else
    (parseOps n (slice b 24 blen)).map (fun ops =>
      { kind := kind, a := fieldAt b 2 1, session := fieldAt b 4 4, seq := fieldAt b 8 4, ops := ops,
        signed := b.take (24 + blen), tag := b.drop (24 + blen) })

/-- A reply operation (Table 11.4), padded. -/
def replyOp (o : ReqOp) (status at_ : Nat) (data : List Byte) : List Byte :=
  natLe 1 status ++ natLe 1 o.fam ++ natLe 2 o.inst ++ natLe 1 o.mem ++ natLe 1 0 ++ natLe 2 data.length ++ natLe 8 at_ ++
    data ++ List.replicate (pad4 data.length - data.length) 0
/-- A reply message without its tag (Table 11.2). -/
def replyMsg (kind a status session seq n readyAt : Nat) (body : List Byte) : List Byte :=
  natLe 1 1 ++ natLe 1 kind ++ natLe 1 a ++ natLe 1 status ++ natLe 4 session ++ natLe 4 seq ++ natLe 2 n ++
    natLe 2 body.length ++ natLe 8 readyAt ++ body

/-- Run the operations of a request one decision slot after the other (R294, R307), as long as the reply operations fit
8,192 bytes (R498). Answers the body, whether an operation was queued, and the state. (DEDUCED, log entry 93.) -/
def State.runOps (s : State) (run : State → Nat → ReqOp → OpResult) :
    Nat → List ReqOp → List Byte → Bool → List Byte × Bool × State
  | _, [], body, queued => (body, queued, s)
  | idx, o :: rest, body, queued =>
    let r := run s idx o
    let rep := replyOp o r.status r.at_ r.data
    if 8192 < 24 + body.length + rep.length + 16 * rest.length then
      (body ++ (o :: rest).flatMap (fun o => replyOp o 19 0 []), queued, s)
    else (r.next.at (s.now + 10)).runOps run (idx + 1) rest (body ++ rep) (queued || decide (r.status = 9))

/-- Way in of an allotment's mailbox. -/
def mailboxIn (a : Nat) : Nat := 0xF00 + a
/-- Send a reply: in the mailbox's reply buffer (R301), or over UDP with a tag (R296). -/
def State.reply (s : State) (a port : Nat) (body tag : List Byte) : State :=
  if port = noReply then s
  else if port = mailboxIn a then
    ((s.modMbox a (fun m => { m with busy := false, reply := true, replyData := body })).raise (0x0100 + a)).emit
      (.reply s.now port a body)
  else s.emit (.reply s.now port a (body ++ tag))
/-- A mailbox request is discarded without a reply (R301). -/
def State.mailboxDrop (s : State) (a port : Nat) : State :=
  if port = mailboxIn a then
    (s.modMbox a (fun m => { m with busy := false, discarded := true })).raise (0x0100 + a)
  else s

/-- Operations that a request would add to the journal: its writes, and reads behind a queued write (R310). -/
def journalNeed (had : Bool) : List ReqOp → Nat
  | [] => 0
  | o :: r =>
    if o.op = 2 ∨ o.op = 3 then 1 + journalNeed true r
    else if o.op = 1 ∧ had then 1 + journalNeed had r else journalNeed had r

/-- Run a request whose turn it is, keep its reply (R298) and send it. -/
def State.runRequest (s : State) (port : Nat) (m : Msg) (key : List Byte) : State :=
  let t := s.now
  let r := s.runOps (fun s idx o => s.runOp m.a m.seq idx o.op o.fam o.inst o.mem o.data) 0 m.ops [] false
  let s := r.2.2.at t
  let body := replyMsg 2 m.a 0 m.session m.seq m.ops.length (if r.2.1 then s.shed.readyAt else 0) r.1
  let s := s.modAllot m.a (fun x =>
    { x with cached := if x.session = m.session then ((m.seq, body) :: x.cached).take 256 else x.cached,
             unanswered := x.unanswered - 1 })
  s.reply m.a port body (hmac key body)

/-- A reply that carries no operations: BUSY and NOT_READY. -/
def emptyReply (m : Msg) (status readyAt : Nat) : List Byte := replyMsg 2 m.a status m.session m.seq 0 readyAt []

/-- A request in sequence runs, and then those that waited for it (R297, R298). It waits while the allotment's core pair
restarts (R309), and is answered BUSY when the journal has no room (R310). -/
def State.inSequence (s : State) (port : Nat) (m : Msg) (key : List Byte) : Nat → State
  | 0 => s
  | k + 1 =>
    if s.journals && !s.journalRoom m.a (journalNeed (decide (0 < s.queuedOf m.a)) m.ops) then
      let body := emptyReply m 5 s.shed.readyAt
      (s.modAllot m.a (fun x => { x with unanswered := x.unanswered - 1 })).reply m.a port body (hmac key body)
    else
      let s := s.modAllot m.a (fun x => { x with nextSeq := (m.seq + 1) % 4294967296 })
      let s := if s.waits m.a then
          s.modAllot m.a (fun x =>
            { x with waiting := x.waiting ++
                [{ seq := m.seq, t := s.now, port := port, bytes := m.signed, key := key }] })
        else s.runRequest port m key
      let next := (s.allot m.a).nextSeq
      match (s.allot m.a).held.find? (fun h => decide (h.seq = next)) with
      | none => s
      | some h =>
        let s := s.modAllot m.a (fun x => { x with held := x.held.filter (fun e => !decide (e.seq = next)) })
        match parseMsg h.bytes true with
        | none => s
        | some m' => s.inSequence h.port { m' with a := m.a } h.key k

/-- A greater SESSION opens a new one (R297). -/
def State.openSession (s : State) (m : Msg) : State :=
  let x := s.allot m.a
  let s := x.held.foldl (fun (s : State) h => s.mailboxDrop m.a h.port) s
  s.modAllot m.a (fun x =>
    { x with session := m.session, nextSeq := m.seq, held := [], cached := [],
             unanswered := x.unanswered - x.held.length })

/-- A request of an allotment takes its place in the sequence (R297 to R299). -/
def State.accept (s : State) (port : Nat) (m : Msg) (key : List Byte) : State :=
  let fresh := decide ((s.allot m.a).session < m.session)
  -- a mailbox request that waits while another way in opens a session is discarded with the old one
  let s := if fresh then s.openSession m else s
  let x := s.allot m.a
  let d := (m.seq + 4294967296 - x.nextSeq) % 4294967296
  let drop := (s.modAllot m.a (fun x => { x with seqDrops := inc64 x.seqDrops })).mailboxDrop m.a port
  if m.session < x.session then drop
  else if 64 < d then
    match x.cached.find? (fun c => decide (c.1 = m.seq)) with
    | some c => s.reply m.a port c.2 (hmac key c.2)
    | none => drop
  else if 256 ≤ x.unanswered then
    (s.modAllot m.a (fun x => { x with overloadDrops := inc64 x.overloadDrops })).mailboxDrop m.a port
  else if d = 0 then (s.modAllot m.a (fun x => { x with unanswered := x.unanswered + 1 })).inSequence port m key 65
  else if x.held.any (fun h => decide (h.seq = m.seq)) then drop
  else s.modAllot m.a (fun x =>
    { x with unanswered := x.unanswered + 1,
             held := x.held ++ [{ seq := m.seq, t := s.now, port := port, bytes := m.signed, key := key }] })

/-- A held request's gap has not been filled within 50 ms (R298). -/
def State.gapExpires (s : State) (a seq : Nat) : State :=
  match (s.allot a).held.find? (fun h => decide (h.seq = seq) && decide (h.t + 50000000 ≤ s.now)) with
  | none => s
  | some h =>
    let s := s.modAllot a (fun x =>
      { x with held := x.held.filter (fun e => !decide (e.seq = seq)), gapDrops := inc64 x.gapDrops,
               unanswered := x.unanswered - 1 })
    s.mailboxDrop a h.port

/-- The key under which a request's tag holds, if one does (R296, R331). -/
def State.keyFor (s : State) (m : Msg) : Option (List Byte) :=
  let x := s.allot m.a
  let holds := fun (k : Option (List Byte)) => match k with
    | some k => if hmac k m.signed = m.tag then some k else none
    | none => none
  match holds x.key with
  | some k => some k
  | none => if s.now < x.keyGrace then holds x.oldKey else none

/-- Count a malformed message (R292, R293). (DEDUCED, log entry 93.) -/
def State.badMessage (s : State) : State := { s with alm := { s.alm with badMessages := inc64 s.alm.badMessages } }
/-- A way in over UDP carries Almanac traffic: a port in LISTEN or FORWARDING with an in-band address, or a management port
that has an address (R291, R312). -/
def State.wayIn (s : State) (port : Nat) : Bool :=
  if port < 1024 then
    !(s.cfg 0x01 0 0x13).isEmpty && decide ((s.port port).st = .listen ∨ (s.port port).st = .forwarding)
  else
    let r := slice (s.cfg 0x01 0 0x11) (26 * (port - 1024)) 26
    decide (leNat (slice r 0 4) ≠ 0) || decide (leNat (slice r 5 16) ≠ 0)
/-- The front end runs from power-up step 6 (R485). -/
def State.frontEnd (s : State) : Bool := s.boot.step6.isSome
/-- The front end takes the oldest Almanac frame of a port from the arrival hold (R484). -/
def State.takeHeld (s : State) (port : Nat) : State :=
  match s.boot.hold.find? (fun h => decide (h.lp = port) && s.isAlmanac h.f) with
  | none => s
  | some h => { s with boot := { s.boot with hold := s.boot.hold.erase h } }

/-- A NOT_READY reply over UDP, at most 4,096 in a power-up (R485). -/
def State.notReady (s : State) (port : Nat) (m : Msg) : State :=
  if 4096 ≤ s.boot.notReadySent then
    { s with boot := { s.boot with notReadyDrops := inc64 s.boot.notReadyDrops } }
  else
    ({ s with boot := { s.boot with notReadySent := s.boot.notReadySent + 1 } }).reply m.a port
      (emptyReply m 8 s.readyAt) (List.replicate 32 0)

/-- An identify request's operation: a READ of E 01.0000.01 to 09 (R300). -/
def State.identifyOp (s : State) (o : ReqOp) : OpResult :=
  if o.op = 1 ∧ o.fam = 0x01 ∧ o.inst = 0 ∧ 1 ≤ o.mem ∧ o.mem ≤ 9 then
    let r := s.readOp 0 0x01 0 o.mem o.data
    { status := r.1, at_ := r.2.1, data := r.2.2, next := s }
  else { status := 2, next := s }
/-- Answer an identify request, untagged (R300). -/
def State.identify (s : State) (a port : Nat) (m : Msg) : State :=
  let t := s.now
  let r := s.runOps (fun s _ o => s.identifyOp o) 0 m.ops [] false
  (r.2.2.at t).reply a port (replyMsg 4 m.a 0 m.session m.seq m.ops.length 0 r.1) []
/-- An identify request carries ALLOTMENT 0xFF, SESSION 0 and SEQ 0 (R300). -/
def Msg.identifies (m : Msg) (mailbox : Bool) : Bool :=
  (mailbox || decide (m.a = 0xFF)) && decide (m.session = 0) && decide (m.seq = 0)

/-- An Almanac message over UDP (R291 to R293, R296). An identify request has a row of its own. -/
def State.udpMessage (s : State) (port : Nat) (b : List Byte) : State :=
  if !s.wayIn port || !s.frontEnd then s
  else
    let s := s.takeHeld port
    match (if 8224 < b.length then none else parseMsg b false) with
    | none => s.badMessage
    | some m =>
      if m.kind ≠ 1 ∨ 15 < m.a then s.badMessage
      else if !s.alm.live then s.notReady port m
      else match s.keyFor m with
        | none => s.modAllot m.a (fun x => { x with authFails := inc64 x.authFails })
        | some k => s.accept port m k
/-- An identify request over UDP: at most 100 in a PTP second for each management port and in-band address (R300). -/
def State.udpIdentify (s : State) (port addr : Nat) (b : List Byte) : State :=
  if !s.wayIn port || !s.frontEnd then s
  else
    let s := s.takeHeld port
    let who := if port < 1024 then addr else port
    let sec := s.now / 1000000000
    match (if 8224 < b.length then none else parseMsg b false) with
    | none => s.badMessage
    | some m =>
      if m.kind ≠ 3 ∨ !m.identifies false then s.badMessage
      else
        let n := match s.alm.identified.find? (fun e => decide (e.1 = who) && decide (e.2.1 = sec)) with
          | some e => e.2.2
          | none => 0
        if 100 ≤ n then { s with alm := { s.alm with identifyDrops := inc64 s.alm.identifyDrops } }
        else
          let seen := (who, sec, n + 1) :: s.alm.identified.filter (fun e => decide (e.2.1 = sec) && !decide (e.1 = who))
          ({ s with alm := { s.alm with identified := seen } }).identify 0 port m

/-! ## The mailbox (R301) -/

/-- GO (R301, R485). (DEDUCED, log entry 94.) -/
def State.mailboxGo (s : State) (a : Nat) : State :=
  let x := (s.allot a).mbox
  if !s.windowOf a || !s.frontEnd then s
  else if x.busy || x.reply then s.modAllot a (fun r => { r with mailboxIgnored := inc64 r.mailboxIgnored })
  else
    let s := s.modMbox a (fun m => { m with busy := true, discarded := false })
    let b := (x.request ++ List.replicate (x.length - x.request.length) 0).take x.length
    match parseMsg b true with
    | none => s.badMessage.mailboxDrop a (mailboxIn a)
    | some m =>
      if m.kind = 3 then
        if m.identifies true then s.identify a (mailboxIn a) m else s.badMessage.mailboxDrop a (mailboxIn a)
      else
        let m := { m with a := a }
        if !s.alm.live then s.reply a (mailboxIn a) (emptyReply m 8 s.readyAt) []
        else s.accept (mailboxIn a) m []
/-- ACK (R301). -/
def State.mailboxAck (s : State) (a : Nat) : State :=
  if !s.windowOf a || !s.frontEnd then s else s.modMbox a (fun m => { m with reply := false, discarded := false })

/-! ## Changes that take effect later -/

/-- A new UDP_PORT or address takes effect 1 s after its acknowledgement (R312). -/
def State.addressDue (s : State) (mem : Nat) : State :=
  match s.alm.addrPend.find? (fun e => decide (e.1 = mem) && decide (e.2.1 ≤ s.now)) with
  | none => s
  | some e =>
    let rest := s.alm.addrPend.filter (fun e => !decide (e.1 = mem))
    ({ s with alm := { s.alm with addrPend := rest } }).setCfg 0x01 0 mem e.2.2
/-- 1 s after a KEY write the old key stops being accepted (R331). -/
def State.keyGraceEnds (s : State) (a : Nat) : State :=
  if (s.allot a).keyGrace ≤ s.now then s.modAllot a (fun x => { x with oldKey := none }) else s

/-! ## The end of a restart (R309 to R311) -/

/-- The result of a queued operation in ring 0 of its allotment (R311, Table 11.10). -/
def State.queuedResult (s : State) (j : JournalOp) (r : OpResult) : State :=
  s.event j.a 0 (0x0100 + j.a) 0x20 0
    (j.seq + 2 ^ 32 * j.idx + 2 ^ 40 * r.status + 2 ^ 64 * r.at_ + 2 ^ 128 * j.fam + 2 ^ 136 * j.mem + 2 ^ 144 * j.inst)
/-- Apply the journal in acceptance order, one decision slot for each operation (R310). -/
def State.drain (s : State) : List JournalOp → State
  | [] => s
  | j :: r =>
    let s := { s with shed := { s.shed with journal := [] } }
    let out := s.runOp j.a j.seq j.idx j.op j.fam j.inst j.mem j.val
    ((out.next.queuedResult j out).at (s.now + 10)).drain r
/-- A request that waited for a takeover runs. -/
def State.runHeld (s : State) (a : Nat) (h : HeldReq) : State :=
  match parseMsg h.bytes true with
  | none => s
  | some m => s.runRequest h.port { m with a := a } h.key
/-- The work of an allotment that waited for a takeover runs, in its order (R309). (DEDUCED, log entry 94.) -/
def State.runWaiting (s : State) (a : Nat) : State :=
  let t := s.now
  let mine := s.shed.waiting.filter (fun j => decide (j.a = a))
  let s := { s with shed := { s.shed with waiting := s.shed.waiting.filter (fun j => !decide (j.a = a)) } }
  let s := mine.foldl (fun (s : State) j =>
    let r := s.runOp a j.seq j.idx j.op j.fam j.inst j.mem j.val
    (r.next.say r.status r.data r.at_).at (s.now + 10)) s
  let held := (s.allot a).waiting
  let s := s.modAllot a (fun x => { x with waiting := [] })
  (held.foldl (fun (s : State) h => s.runHeld a h) s).at t
/-- Another core pair takes over the interrupts and the allotment of a pair that is down (R309, R344). -/
def State.takeoverPair (s : State) (pair by_ : Nat) : State :=
  if pair ∉ s.shed.pairsDown ∨ by_ ∈ s.shed.pairsDown ∨ s.shed.restarting then s
  else
    let shed := s.irq.shed.foldl (fun t r =>
      let m := [2 * pair, 2 * pair + 1].foldl (fun m k =>
        if bit m k then
          let to_ := k - 2 * pair + 2 * by_
          let m := m - 2 ^ k
          if bit m to_ then m else m + 2 ^ to_
        else m) r.2.mask
      tput (fun _ => {}) t r.1 { r.2 with mask := m }) s.irq.shed
    let taken := tput (fun k => k) s.shed.takenBy pair by_
    { s with irq := { s.irq with shed := shed }, shed := { s.shed with takenBy := taken } }

end Sys2Proof.Machine
end

