-- ==== Sys2Proof/Machine/Windows.lean ====
section
/-! DEFINITION. The register window of an allotment (12, with the records of 03, 05, 08, 09, 10, 13, 14, 15, 17, 20 and 21):
what every register shows, and what a write of its bytes does. A register is handled in aligned blocks of eight bytes,
as a number of 64 bits (R499). -/

namespace Sys2Proof.Machine

/-- A register word from its fields: lowest bit and value of each. -/
def pack (l : List (Nat × Nat)) : Nat := l.foldl (fun n f => n + f.2 * 2 ^ f.1) 0
/-- Bits of a number from `lo`, `len` of them. -/
def cut (n lo len : Nat) : Nat := n / 2 ^ lo % 2 ^ len
/-- A count as a register of 32 bits shows it (R401). -/
def sat32 (n : Nat) : Nat := saturate 32 n

/-! ## What the window shows -/

/-- The window shows the enable of a queue (R319); a0's shows every one. (DEDUCED, log entry 60.) -/
def State.showsQueue (s : State) (a q : Nat) : Bool :=
  decide (q < 262144) && (decide (a = 0) || decide (s.portOwner (lpOfQueue q) = a))
/-- The window shows an allotment's run bit of a bed (R319). (DEDUCED, log entry 60.) -/
def State.showsRun (s : State) (a bed : Nat) : Bool :=
  decide (bed < 288) && (s.bed bed).slots.any (fun n => decide ((s.slot n).owner = a))
/-- Queue of bit `i` of enable word `w` (R318). -/
def State.enableQueue (s : State) (a w i : Nat) : Nat := 131072 * b2n (s.allot a).qeDie + 32 * w + i

/-- A word of the control page (R318). -/
def State.controlWord (s : State) (a off : Nat) : Nat :=
  let x := s.allot a
  let m := x.mbox
  if 0x400 ≤ off ∧ off < 0x424 then
    pack ((List.range 32).map (fun i =>
      let b := 8 * (off - 0x400) + i
      (i, b2n (s.showsRun a b && !decide (b ∈ x.runClear)))))
  else if 0x4000 ≤ off ∧ off < 0x8000 then
    pack ((List.range 32).map (fun i =>
      let q := s.enableQueue a ((off - 0x4000) / 4) i
      (i, b2n (s.showsQueue a q && (s.queue q).enabled))))
  else if 0x8000 ≤ off ∧ off < 0xA000 then fieldAt m.request (off - 0x8000) 4
  else if 0xA000 ≤ off ∧ off < 0xC000 then fieldAt m.replyData (off - 0xA000) 4
  else match off with
    | 0x0 => pack [(0, a), (4, s.linkOf a), (8, 1), (16, b2n (decide (a = 0)))]
    | 0x4 => pack [(0, b2n (decide (s.almanacState = 1))), (1, b2n (decide (2 ≤ s.almanacState))), (2, b2n x.key.isSome)]
    | 0x8 => s.cfgN 0x04 a 0x04
    | 0xC => sat32 x.clamps
    | 0x10 => sat32 x.regSuperseded
    | 0x14 => pack [(0, x.latchRefused), (16, x.doorbellRefused)]
    | 0x18 => b2n x.qeDie
    | 0xC000 => m.length
    | 0xC004 => pack [(0, b2n m.busy), (1, b2n m.reply), (2, b2n m.discarded), (16, m.replyData.length)]
    | _ => 0

/-- A word of a DMA channel's record (R367). -/
def State.dmaWord (s : State) (c off : Nat) : Nat :=
  let d := s.dmaCh c
  match off with
  | 0x00 => cut d.source 0 32
  | 0x04 => cut d.source 32 32
  | 0x08 => cut d.dest 0 32
  | 0x0C => cut d.dest 32 32
  | 0x10 => d.count
  | 0x14 => pack [(1, b2n d.disable), (2, b2n d.irqDone), (3, b2n d.irqHalt), (4, d.srcSpace), (6, d.dstSpace),
      (8, b2n d.retry), (9, d.retries)]
  | 0x18 => pack [(0, d.st), (4, d.cause), (7, b2n d.direction), (8, d.retriesUsed)]
  | 0x1C => d.remaining.toNat
  | 0x20 => cut d.faultAddr 0 32
  | 0x24 => cut d.faultAddr 32 32
  | 0x28 => pack [(0, saturate 16 d.startIgnored), (16, saturate 16 d.retriesTotal)]
  | 0x2C => d.doneCount % 4294967296
  | _ => 0

/-- The window's vectors within the host mask of a source (R345). -/
def State.windowMask (s : State) (a : Nat) : Nat :=
  if a = 0 then 2 ^ 128 - 1 else 65535 * 2 ^ (16 * (s.linkOf a - 1))
/-- The window shows the route of the source that SOURCE selects (R345). -/
def State.showsRoute (s : State) (a : Nat) : Bool :=
  decide (a = 0) || decide (s.sourceOwner (s.allot a).source = some a)
/-- A word of the interrupt view (R345). A read of CLAIM acts; it is a command of its own and shows nothing here. -/
def State.irqWord (s : State) (a off : Nat) : Nat :=
  let src := (s.allot a).source
  let r := s.route true src
  let shown := s.showsRoute a
  if off = 0 then src
  else if off = 0x4 then
    if !shown then 0
    else pack [(0, r.prio), (4, r.st), (8, if 2 ≤ r.st then r.on else 0), (16, 1)]
  else if 0x8 ≤ off ∧ off < 0x18 then
    if !shown then 0 else cut (r.mask &&& s.windowMask a) (8 * (off - 0x8)) 32
  else if off = 0x20 then sat32 (s.allot a).unrouted
  else if 0x1000 ≤ off ∧ off < 0x1100 then
    let t := targetOf (s.linkOf a) ((off - 0x1000) / 16)
    let v := s.vector t
    match off % 16 with
    | 0 => pack [(0, v.threshold), (8, s.running t), (12, min 15 (s.depth t)), (16, b2n (s.offer t).isSome)]
    | 12 => pack [(0, v.spurious), (16, v.ignored)]
    | _ => 0
  else if 0x2000 ≤ off ∧ off < 0x2100 then
    let v := s.vector (targetOf (s.linkOf a) ((off - 0x2000) / 16))
    match off % 16 with
    | 0 => cut v.addr 0 32
    | 4 => cut v.addr 32 32
    | 8 => v.data
    | _ => b2n v.masked
  else if off = 0x3000 then
    pack ((List.range 16).map (fun v => (v, b2n (s.vector (targetOf (s.linkOf a) v)).pending)))
  else 0

/-- What HOLDER shows of a latch that nobody holds: 0 before its first holder, and nothing the spec names after
(R326). (DESIGN CHOICE, log entry 33.) -/
def staleHolder (n : Nat) (l : Latch) : Nat := if l.used then Config.unset (2 ^ 40 + n) % 16 else 0
/-- A word of a latch (R325). -/
def State.latchWord (s : State) (a n off : Nat) : Nat :=
  let l := s.latch n
  if off = 4 ∨ !s.latchGranted a n then 0
  else pack [(0, b2n l.holder.isSome), (1, l.holder.getD (staleHolder n l)), (5, b2n l.torn), (6, 1), (8, l.lastHolder),
    (16, l.tag.toNat)]

/-- A word of an event ring (R89 to R94): words 1 to 7 of ENTRY show the latch. A read of word 0 acts; it is a command of its
own and shows the head here. -/
def State.ringWordOf (s : State) (a n off : Nat) : Nat :=
  let r := s.ring a n
  let head := r.entries.headD r.last
  match off with
  | 0x0 => pack [(0, r.entries.length), (13, b2n r.entries.isEmpty), (14, b2n (decide (4096 ≤ r.entries.length))),
      (15, b2n r.gap), (16, b2n r.underrun)]
  | 0x4 => pack [(0, b2n r.enable), (1, r.threshold)]
  | 0x8 => sat32 r.gapCount
  | 0x20 => cut head.toNat 0 32
  | _ => if 0x24 ≤ off ∧ off < 0x40 then cut r.latch.toNat (8 * (off - 0x20)) 32 else 0

/-- A block of the power view is ON (R9): a register of a gated block reads as zero. -/
def State.isOn (s : State) (block : Nat) : Bool := decide ((s.power block).st = 3)
/-- A word of a bed's record (R145). (DEDUCED, log entry 96.) -/
def State.bedWord (s : State) (a b off : Nat) : Nat :=
  let x := s.bed b
  if !s.isOn b ∨ (a ≠ 0 ∧ !s.showsRun a b) then 0
  else match off with
    | 0x0 => pack [(0, x.st.code), (3, b2n (!x.checks.isEmpty)), (4, b2n x.trapped), (5, b2n x.mic.waiting),
        (6, b2n x.untested), (7, b2n x.bank), (8, x.gangPos), (10, x.gangSize - 1), (16, x.firstSlot.getD 0),
        (29, b2n x.firstSlot.isSome)]
    | 0x4 => pack [(0, x.mic.upc), (14, b2n x.mic.space)]
    | 0xC => sat32 x.traps
    | 0x10 => sat32 x.timeouts
    | 0x14 => pack [(0, x.lastTimeout.1), (14, b2n x.lastTimeout.2.1), (15, x.lastTimeout.2.2)]
    | 0x18 => pack [(0, saturate 16 x.romCorrected), (16, saturate 16 x.storeCorrected)]
    | _ => 0
/-- The window shows the records of a stream slot (R229, R264). -/
def State.showsSlot (s : State) (a n : Nat) : Bool :=
  decide (n < 8192) && (decide (a = 0) || decide ((s.slot n).owner = a))
/-- A word of a decode stream's record (R229). -/
def State.decodeWord (s : State) (a n off : Nat) : Nat :=
  let x := s.slot n
  let d := x.dec
  let side := fun (f : Nat × Nat × Nat) (o : Nat) => match o with
    | 0x0 => cut f.2.1 0 32
    | 0x4 => cut f.2.1 32 4
    | 0x8 => cut f.2.2 0 32
    | _ => cut f.2.2 32 4
  if !s.showsSlot a n then 0
  else match off with
    | 0x0 => pack [(0, x.st), (3, d.mode), (4, b2n d.clean), (5, b2n d.noSync), (6, b2n d.mismatch), (7, b2n d.late)]
    | 0x4 => pack [(0, d.fence0.1), (8, d.fence1.1)]
    | 0x28 => sat32 (d.counts.getD 3 0)
    | 0x2C => sat32 d.fenceHits
    | 0x30 => sat32 (d.counts.getD 11 0)
    | _ =>
      if 0x8 ≤ off ∧ off < 0x18 then side d.fence0 (off - 0x8)
      else if 0x18 ≤ off ∧ off < 0x28 then side d.fence1 (off - 0x18) else 0
/-- A word of a twin record (R264). -/
def State.twinWord (s : State) (a n off : Nat) : Nat :=
  let w := s.twin n
  let bed := fun (l : List Nat) (at_ : Nat) => [(at_, l.headD 0), (at_ + 9, b2n (!l.isEmpty))]
  if !s.showsSlot a n then 0
  else match off with
    | 0x0 => pack [(0, w.st.code), (3, b2n w.exposed), (4, b2n w.excused.isSome)]
    | 0x4 => pack (bed w.lead 0 ++ bed w.partner 16)
    | 0x8 => pack (bed w.scion 0 ++ [(10, b2n w.retrial)])
    | 0xC => sat32 (w.counts.getD 4 0)
    | 0x10 => sat32 (w.counts.getD 3 0)
    | 0x14 => sat32 (w.counts.getD 6 0)
    | 0x18 => sat32 (w.counts.getD 8 0)
    | _ => 0

/-- A word of the power view (R465). -/
def State.powerWord (s : State) (b : Nat) : Nat :=
  let p := s.power b
  pack [(0, p.st), (16, p.transitions % 65536)]
/-- A word of the start status (R491). -/
def State.startWord (s : State) (off : Nat) : Nat :=
  let b := s.boot
  if off = 0 then
    pack [(0, b.milestone), (4, b2n b.imageOk), (5, b2n b.imageEmpty), (6, b2n b.keepLost), (7, b2n b.dorsenBank),
      (8, b2n b.coldOut)]
  else if 0x8 ≤ off ∧ off < 0x38 then cut (b.at_.getD ((off - 0x8) / 8) 0) (8 * (off % 8)) 32
  else match off with
    | 0x40 => b.notReadySent
    | 0x44 => sat32 b.notReadyDrops
    | 0x48 => b.holdPeak
    | 0x4C => sat32 b.holdDrops
    | 0x50 => sat32 b.stalePtp
    | _ => 0

/-- The window shows the port that QUEUE_PAGE selects (R285). -/
def State.showsPage (s : State) (a : Nat) : Bool :=
  decide (a = 0) || decide (s.portOwner (s.allot a).queuePage = a)
/-- A word of a queue's record (R285). -/
def State.queueWord (s : State) (lp k off : Nat) : Nat :=
  let q := queueNo lp k
  let x := s.queue q
  match off with
  | 0x0 => pack [(0, x.pkts.length), (16, b2n x.pkts.isEmpty), (17, b2n (s.catching q)), (18, b2n (s.isPaused lp (k % 16))),
      (19, b2n (s.gating lp && (s.gate lp).gates.getLsbD (k % 16)))]
  | 0x4 => x.tokens
  | 0x8 => sat32 x.sent
  | 0xC => sat32 x.dropFull
  | 0x10 => sat32 x.dropPolice
  | 0x14 => sat32 x.dropGate
  | 0x18 => sat32 x.late
  | 0x1C => sat32 x.gateWaits
  | _ => 0
/-- A word of the queue view (R285). (DEDUCED, log entry 96.) -/
def State.queueView (s : State) (a off : Nat) : Nat :=
  let lp := (s.allot a).queuePage
  let g := s.gate lp
  if off = 0 then lp
  else if !s.showsPage a || !s.isOn (0x120 + plOf lp) then 0
  else if 0x1000 ≤ off ∧ off < 0x3000 then s.queueWord lp ((off - 0x1000) / 32) (off % 32)
  else if 0x3000 ≤ off ∧ off < 0x3100 then
    let k := (off - 0x3000) / 16
    let x := s.qgroup (16 * lp + k)
    match off % 16 with
    | 0 => pack [(0, x.tokens), (24, b2n (s.groupEmpty lp k))]
    | 4 => sat32 x.sent
    | _ => 0
  else if off = 0x4000 then pack [(0, g.entry), (8, b2n g.isPending), (9, b2n g.bank), (16, g.gates.toNat)]
  else if off = 0x4004 then g.cycles % 4294967296
  else 0

/-- TARGET as a window shows it: a write held for the Shed reads back (R320). -/
def State.targetShown (s : State) (die p : Nat) : Nat :=
  let off := 0xBE0040 + 0x1000 * die + 8 * p
  match (s.shed.held.filter (fun h => decide (h.off = off))).getLast? with
  | some h => h.val
  | none => ((s.cells die).pool p).target
/-- A word of the cell and pool records of a die (R95). -/
def State.cellWord (s : State) (a die off : Nat) : Nat :=
  let c := s.cells die
  if off = 0 then c.free
  else if off = 0x4 then c.deepFree
  else if off = 0x8 then c.crossLimit
  else if 0x40 ≤ off ∧ off < 0x60 then
    let p := (off - 0x40) / 8
    if off % 8 = 0 then s.targetShown die p else (c.pool p).free
  else if 0x100 ≤ off ∧ off < 0x200 then
    let k := (off - 0x100) / 16
    let r := c.rec_ k
    let w := pack [(0, r.reserve), (20, r.cap), (40, r.deepCap), (64, r.used), (84, r.deepUsed),
      (127, b2n (c.pooled k))]
    if a ≠ 0 ∧ a ≠ k then 0 else cut w (8 * (off % 16)) 32
  else 0

/-- A word of the fault view, shown in a0's window only (R384). -/
def State.faultWord (s : State) (off : Nat) : Nat :=
  if off < 0x4000 then
    let id := off / 4
    match sourceInfo id with
    | none => 0
    | some i =>
      let x := s.source id
      let down := match unitOf id with
        | some u => s.isPruned u.1 u.2
        | none => false
      pack [(0, b2n x.live), (1, b2n x.force), (2, s.classOf id), (4, b2n i.fixed), (5, b2n down),
        (16, saturate 16 x.count)]
  else if 0x8000 ≤ off ∧ off < 0x8220 then
    let r := s.errRec ((off - 0x8000) / 32)
    match off % 32 with
    | 0x0 => pack [(0, r.source), (12, b2n r.valid), (13, b2n r.overflow), (14, b2n r.forced), (15, b2n r.timeValid)]
    | 0x4 => cut r.time 0 32
    | 0x8 => cut r.time 32 32
    | 0x14 => sat32 r.raises
    | _ => 0
  else if off = 0x8400 then
    let live := fun (n : Nat) => s.flt.sources.any (fun e => decide (e.1 / 256 = n) && e.2.live)
    pack ([(0, s.domainFault)] ++ (List.range 16).map (fun n => (16 + n, b2n (live n))))
  else if off = 0x8404 then
    pack [(0, s.flt.aliveRun.toNat), (8, b2n (decide (s.now < s.flt.pulse0))), (9, b2n (decide (s.now < s.flt.pulse1))),
      (10, s.flt.alertSw.toNat), (12, b2n s.flt.inject)]
  else 0

/-- A word of an allotment's window at an aligned offset (Table 12.2): what a read returns, less its effect. Reserved offsets
read as zero (R7). -/
def State.regWord (s : State) (a off : Nat) : Nat :=
  if !s.windowOf a then 0
  else if 0x7F0000 ≤ off ∧ off < 0x7F0000 + 4 * 312 then s.powerWord ((off - 0x7F0000) / 4)
  else if 0x7F1000 ≤ off ∧ off < 0x7F2000 then s.startWord (off - 0x7F1000)
  else if 0x8000 ≤ off ∧ off < 0x10000 then s.controlWord a off
  else if !s.alm.live then 0
  else if off < 0x8000 then s.controlWord a off
  else if 0x100000 ≤ off ∧ off < 0x101000 then s.dmaWord (64 * a + (off - 0x100000) / 64) (off % 64)
  else if 0x110000 ≤ off ∧ off < 0x114000 then s.irqWord a (off - 0x110000)
  else if 0x120000 ≤ off ∧ off < 0x128000 then s.latchWord a ((off - 0x120000) / 8) (off % 8)
  else if 0x140000 ≤ off ∧ off < 0x140400 then s.ringWordOf a ((off - 0x140000) / 64) (off % 64)
  else if 0x180000 ≤ off ∧ off < 0x200000 then fieldAt ((s.allot a).harvest.page) (off - 0x180000) 4
  else if 0x200000 ≤ off ∧ off < 0x400000 then
    let i := (off - 0x200000) / 4
    cut (s.controlWord a (i / 32 * 4)) (i % 32) 1
  else if 0x400000 ≤ off ∧ off < 0x400000 + 64 * 288 then s.bedWord a ((off - 0x400000) / 64) (off % 64)
  else if 0x440000 ≤ off ∧ off < 0x4C0000 then s.decodeWord a ((off - 0x440000) / 64) (off % 64)
  else if 0x4C0000 ≤ off ∧ off < 0x500000 then s.twinWord a ((off - 0x4C0000) / 32) (off % 32)
  else if 0x800000 ≤ off ∧ off < 0x805000 then s.queueView a (off - 0x800000)
  else if 0xBE0000 ≤ off ∧ off < 0xBE2000 then s.cellWord a ((off - 0xBE0000) / 0x1000) (off % 0x1000)
  else if 0xC00000 ≤ off ∧ off < 0xC09000 then (if a = 0 then s.faultWord (off - 0xC00000) else 0)
  else 0
/-- A word of BAR2: the counter pages while USER_COUNTERS is set, else zero; writes to it are ignored (R329). -/
def State.mirrorWord (s : State) (a off : Nat) : Nat :=
  if s.serves a && bit (s.cfgN 0x04 a 0x04) 0 && decide (off < 0x80000) then fieldAt ((s.allot a).harvest.page) off 4 else 0
/-- The block of eight bytes at an aligned offset. -/
def State.regBlock (s : State) (a off : Nat) : Nat := s.regWord a off + 2 ^ 32 * s.regWord a (off + 4)

/-! ## Writes -/

/-- A write of a block: the covered bits as a mask, and the block with the covered bits replaced. A strobe reads as 0, so its
bit is set in `new` only when a covered bit sets it. -/
structure Piece where
  cov : Nat
  new : Nat
  deriving DecidableEq, Repr
/-- The write covers a bit of a field. -/
def Piece.has (p : Piece) (lo len : Nat) : Bool := decide (cut p.cov lo len ≠ 0)
/-- A field's value after the write. -/
def Piece.get (p : Piece) (lo len : Nat) : Nat := cut p.new lo len
/-- A strobe is struck. -/
def Piece.strikes (p : Piece) (lo : Nat) : Bool := decide (cut p.new lo 1 = 1) && p.has lo 1

/-- Write the request buffer of a mailbox at an offset: the covered bytes. -/
def State.writeRequest (s : State) (a off : Nat) (p : Piece) : State :=
  let old := (s.allot a).mbox.request
  let long := old ++ List.replicate (off + 8 - old.length) 0
  s.modMbox a (fun m => { m with request := patchBytes long off (natLe 8 p.new) })
/-- Write the control page (R318, R319). -/
def State.writeControl (s : State) (a off : Nat) (p : Piece) : State :=
  if 0x400 ≤ off ∧ off < 0x428 then
    let mine := (List.range 64).filter (fun i => p.has i 1 && s.showsRun a (8 * (off - 0x400) + i))
    let bed := fun i => 8 * (off - 0x400) + i
    -- a bit left as it was has not been written (R146)
    let changed := (mine.filter (fun i =>
      decide (decide (p.get i 1 = 1) ≠ !decide (bed i ∈ (s.allot a).runClear)))).map (fun i => (bed i, decide (p.get i 1 = 1)))
    s.windowWrite a (mine.map (fun i => runField a (bed i))) (fun s => s.writeRun a changed)
  else if 0x4000 ≤ off ∧ off < 0x8000 then
    let queue := fun i => s.enableQueue a ((off - 0x4000) / 4) i
    let mine := (List.range 64).filter (fun i => p.has i 1 && s.showsQueue a (queue i))
    s.windowWrite a (mine.map (fun i => enableField (queue i))) (fun s =>
      mine.foldl (fun (s : State) i => s.modQueue (queue i) (fun x => { x with enabled := decide (p.get i 1 = 1) })) s)
  else if 0x8000 ≤ off ∧ off < 0xA000 then s.writeRequest a (off - 0x8000) p
  else match off with
    | 0x18 => if p.has 0 1 then s.modAllot a (fun x => { x with qeDie := decide (p.get 0 1 = 1) }) else s
    | 0x800 => if p.has 0 16 && decide (p.get 0 16 ≠ 0) then s.ringDoorbell a (p.get 0 16) else s
    | 0xC000 =>
      let len := p.get 0 14
      let legal := into 24 8192 len
      let s := if p.has 0 14 then
          (s.clampIf a (decide (legal ≠ len))).modMbox a (fun m => { m with length := legal })
        else s
      if p.strikes 16 then s.mailboxGo a else s
    | 0xC008 => if p.strikes 0 then s.mailboxAck a else s
    | _ => s

/-- Write a DMA channel's registers (R361, R362, R367). (DEDUCED, log entry 95.) -/
def State.writeDma (s : State) (a c off : Nat) (p : Piece) : State :=
  let runs := decide ((s.dmaCh c).st = 1)
  match off with
  | 0x00 => if runs then s else s.modDma c (fun d => { d with source := p.new })
  | 0x08 => if runs then s else s.modDma c (fun d => { d with dest := p.new })
  | 0x10 =>
    let src := p.get 36 2
    let dst := p.get 38 2
    let was := s.dmaCh c
    let s := if runs then s
      else
        let s := (s.clampIf a (decide (src = 3))).clampIf a (decide (dst = 3))
        s.modDma c (fun d =>
          { d with count := p.get 0 32, irqDone := decide (p.get 34 1 = 1), irqHalt := decide (p.get 35 1 = 1),
                   srcSpace := min src 2, dstSpace := min dst 2, retry := decide (p.get 40 1 = 1), retries := p.get 41 3 })
    let off_ := decide (p.get 33 1 = 1)
    let s := if !p.has 33 1 || off_ = was.disable then s else if off_ then s.dmaDisable a c else s.dmaClear a c
    if p.strikes 32 then s.dmaStart a c else s
  | _ => s

/-- A vector is unmasked (R341). -/
def State.unmask (s : State) (a v : Nat) : State :=
  if s.windowOf a && decide (v < 16) then
    let t := targetOf (s.linkOf a) v
    let x := s.vector t
    let s := s.modVector t (fun x => { x with masked := false })
    if x.pending then (s.modVector t (fun x => { x with signalled := false })).notify t else s.notify t
  else s
/-- Write an entry of the MSI-X table (R341): address and data, and the mask bit in bit 0 of the fourth word.
(PRESUMED, log entry 56.) -/
def State.writeMsix (s : State) (a v : Nat) (high : Bool) (p : Piece) : State :=
  let t := targetOf (s.linkOf a) v
  if !high then s.modVector t (fun x => { x with addr := p.new / 4 * 4 })
  else
    let s := s.modVector t (fun x => { x with data := p.get 0 32 })
    if !p.has 32 1 then s
    else if p.get 32 1 = 1 then s.modVector t (fun x => { x with masked := true }) else s.unmask a v

/-- A change of a source's host route, or of a vector's threshold, is noticed at once (R340). (DEDUCED, log entry 95.) -/
def State.writeIrq (s : State) (a off : Nat) (p : Piece) : State :=
  let src := (s.allot a).source
  if off = 0 then
    let s := if s.showsRoute a && p.has 32 4 then
        s.windowWrite a [fieldName 7 src 0] (fun s =>
          (s.modRoute true src (fun r => { r with prio := p.get 32 4 })).notifyAll)
      else s
    if p.has 0 16 then s.modAllot a (fun x => { x with source := p.get 0 16 }) else s
  else if off = 0x8 ∨ off = 0x10 then
    let sh := 8 * (off - 0x8)
    let allow := cut (s.windowMask a) sh 64
    let new := p.new &&& allow
    if !s.showsRoute a || (p.cov &&& allow) = 0 then s
    else s.windowWrite a [fieldName 7 src (1 + sh / 32)] (fun s =>
      (s.modRoute true src (fun r =>
        { r with mask := (r.mask - (r.mask &&& (allow * 2 ^ sh))) + new * 2 ^ sh })).notifyAll)
  else if off = 0x18 then
    if p.strikes 0 && s.showsRoute a then s.windowWrite a [fieldName 7 src 8] (fun s => s.clearSource src) else s
  else if 0x1000 ≤ off ∧ off < 0x1100 then
    let t := targetOf (s.linkOf a) ((off - 0x1000) / 16)
    if off % 16 = 0 then
      if p.has 0 4 then (s.modVector t (fun v => { v with threshold := p.get 0 4 })).notifyAll else s
    else if p.has 0 16 && decide (p.get 0 16 ≠ 0) then s.completeBy t (p.get 0 16) else s
  else if 0x2000 ≤ off ∧ off < 0x2100 then s.writeMsix a ((off - 0x2000) / 16) (decide (off % 16 = 8)) p
  else s

/-- Write an event ring's control (R93, R94): the new values first, then CONSUME, FLUSH and STATUS_RESET. -/
def State.writeRing (s : State) (a n : Nat) (p : Piece) : State :=
  let old := s.ring a n
  let th := p.get 33 13
  let legal := into 1 4096 th
  let s := if p.has 32 14 then
      ((if p.has 33 13 then s.clampIf a (decide (legal ≠ th)) else s).modRing a n (fun r =>
        { r with enable := decide (p.get 32 1 = 1), threshold := if p.has 33 13 then legal else r.threshold })).ringCheck
          old a n
    else s
  let s := if p.strikes 46 then s.ringConsume a n else s
  let s := if p.strikes 48 then s.ringFlush a n else s
  if p.strikes 47 then s.ringStatusReset a n else s

/-- A trap request from a0's window is held while the Shed, or a0's core pair, restarts (R31, R320). -/
def State.orderTrap (s : State) (b : Nat) (progress : BitVec 80) : State :=
  if s.shed.restarting || s.waits 0 then
    { s with shed := { s.shed with held := s.shed.held ++ [{ a := 0, off := 0x400008 + 64 * b, val := progress.toNat }] } }
  else s.trapRequest b progress
/-- Bed control, written only from a0's window (R145). The progress of a resumable word that TRAP_REQ stops is the bed's own, a
free value (DESIGN CHOICE, log entry 121). -/
def State.writeBed (s : State) (a b : Nat) (p : Piece) : State :=
  if a ≠ 0 then s
  else
    let s := if p.strikes 0 then (s.orderTrap b (Config.progress s.fresh)).refresh else s
    let s := if p.strikes 1 then s.wakeBed b else s
    if p.strikes 2 then s.sleepBed b else s

/-- The largest value of a die's field that keeps the shared area at zero or above, with its present value put back (R75). -/
def CellStore.roomFor (c : CellStore) (present : Nat) : Nat := (c.sharedArea + present).toNat
/-- The largest TARGET of a pool (R75, R85): 196,608 cells in all pools, and the shared area at zero or above. -/
def CellStore.topTarget (c : CellStore) (p : Nat) : Nat :=
  let others := (List.range 4).foldl (fun n k => if k = p then n else n + Nat.max (c.pool k).target (c.pool k).have_ * poolCells k) 0
  min (196608 - others) (786432 - others - c.crossLimit - c.reserved) / poolCells p
/-- TARGET takes effect, by the Shed, within what the other pools leave (R85). -/
def State.setTarget (s : State) (die p v : Nat) : State :=
  (s.modCells die (fun c => c.modPool p (fun q => { q with target := min v (c.topTarget p) }))).carve die
/-- A write that only the Shed can act on is held while the Shed, or the core pair of its allotment, restarts (R31). -/
def State.holdsWrites (s : State) (a : Nat) : Bool := s.shed.restarting || s.waits a
/-- Write the cell and pool records of a die (R74, R75, R83, R85, R95). -/
def State.writeCells (s : State) (a die off : Nat) (p : Piece) : State :=
  let c := s.cells die
  if off = 0x8 then
    if a ≠ 0 ∨ !p.has 0 20 then s
    else
      let v := min (p.get 0 20) (min 262144 (c.roomFor c.crossLimit))
      ((s.clampIf a (decide (v ≠ p.get 0 20))).modCells die (fun c => { c with crossLimit := v })).carve die
  else if 0x40 ≤ off ∧ off < 0x60 then
    let k := (off - 0x40) / 8
    if a ≠ 0 ∨ !p.has 0 18 then s
    else
      let v := min (p.get 0 18) (c.topTarget k)
      let s := s.clampIf a (decide (v ≠ p.get 0 18))
      if s.holdsWrites a then
        { s with shed := { s.shed with held := s.shed.held ++ [{ a := a, off := 0xBE0000 + 0x1000 * die + off, val := v }] } }
      else s.setTarget die k v
  else if 0x100 ≤ off ∧ off < 0x200 then
    let k := (off - 0x100) / 16
    if off % 16 = 0 then
      if a ≠ 0 ∨ !p.has 0 64 then s
      else
        let r := c.rec_ k
        let v := min (p.get 0 20) (c.roomFor r.reserve)
        let s := s.clampIf a (p.has 0 20 && decide (v ≠ p.get 0 20))
        (s.modCells die (fun c => c.modRec k (fun r =>
          { r with reserve := if p.has 0 20 then v else r.reserve, cap := p.get 20 20, deepCap := p.get 40 24 }))).carve die
    else if (a ≠ 0 ∧ a ≠ k) ∨ !p.has 63 1 then s
    else s.windowWrite a [fieldName 8 k die] (fun s => s.modCells die (fun c => c.setPooled k (decide (p.get 63 1 = 1))))
  else s

/-- Write a fault source's record: CLASS and FORCE (R371, R372, R380). -/
def State.writeSource (s : State) (a id lo : Nat) (p : Piece) : State :=
  match sourceInfo id with
  | none => s
  | some i =>
    let v := p.get (lo + 2) 2
    let s := if p.has (lo + 2) 2 && !i.fixed then (s.clampIf a (decide (clampClass i v ≠ v))).setClass id v else s
    if p.has (lo + 1) 1 then s.forceFault id (decide (p.get (lo + 1) 1 = 1)) else s
/-- Write the fault view, in a0's window only (R384). -/
def State.writeFaults (s : State) (a off : Nat) (p : Piece) : State :=
  if a ≠ 0 then s
  else if off < 0x4000 then (s.writeSource a (off / 4) 0 p).writeSource a (off / 4 + 1) 32 p
  else if 0x8000 ≤ off ∧ off < 0x8220 ∧ off % 32 = 16 then
    if p.strikes 0 then s.clearRecord ((off - 0x8000) / 32) else s
  else if off = 0x8400 ∧ p.has 42 2 then s.modFlt (fun f => { f with alertSw := BitVec.ofNat 2 (p.get 42 2) })
  else s

/-- A write of one block of a window, in one register cycle (R499). Before the Almanac is live only the mailbox is served
(R486); a write to a read-only, latched, live, voted or reserved field is ignored (R6, R7). -/
def State.writeBlock (s : State) (a off : Nat) (p : Piece) : State :=
  if !s.windowOf a then s
  else if 0x8000 ≤ off ∧ off < 0x10000 then s.writeControl a off p
  else if !s.alm.live then s
  else if off < 0x8000 then s.writeControl a off p
  else if 0x100000 ≤ off ∧ off < 0x101000 then s.writeDma a (64 * a + (off - 0x100000) / 64) (off % 64) p
  else if 0x110000 ≤ off ∧ off < 0x114000 then s.writeIrq a (off - 0x110000) p
  else if 0x120000 ≤ off ∧ off < 0x128000 then
    if p.strikes 32 || p.strikes 33 then
      s.latchCommand a ((off - 0x120000) / 8) (p.strikes 32) (p.strikes 33) (BitVec.ofNat 16 (p.get 48 16))
    else s
  else if 0x140000 ≤ off ∧ off < 0x140400 then
    if off % 64 = 0 then s.writeRing a ((off - 0x140000) / 64) p else s
  else if 0x400000 ≤ off ∧ off < 0x400000 + 64 * 288 then
    if off % 64 = 8 then s.writeBed a ((off - 0x400000) / 64) p else s
  else if off = 0x800000 then
    if p.has 0 10 then s.modAllot a (fun x => { x with queuePage := p.get 0 10 }) else s
  else if 0xBE0000 ≤ off ∧ off < 0xBE2000 then s.writeCells a ((off - 0xBE0000) / 0x1000) (off % 0x1000) p
  else if 0xC00000 ≤ off ∧ off < 0xC09000 then s.writeFaults a (off - 0xC00000) p
  else s

/-- The block as the strobes and rw fields stand, with the covered bits replaced. -/
def State.pieceOf (s : State) (a off cov data : Nat) : Piece :=
  let old := s.regBlock a off
  { cov := cov, new := (old - (old &&& cov)) + (data &&& cov) }

/-- A write to a bit alias: bit 0 of the data goes to one bit of the control page; the doorbell's aliases are ignored (R321). -/
def State.writeBit (s : State) (a off : Nat) (v : Bool) : State :=
  let i := (off - 0x200000) / 4
  let o := i / 32 * 4
  let k := i % 32 + 8 * (o % 8)
  if off < 0x200000 ∨ 0x400000 ≤ off ∨ o = 0x800 then s
  else s.writeBlock a (o / 8 * 8) (s.pieceOf a (o / 8 * 8) (2 ^ k) (if v then 2 ^ k else 0))
/-- A write of covered bytes of one block; in the alias region, of the aliases whose bit 0 it covers. -/
def State.writePiece (s : State) (a off cov data : Nat) : State :=
  if 0x200000 ≤ off ∧ off < 0x400000 then
    let s := if bit cov 0 then s.writeBit a off (bit data 0) else s
    if bit cov 32 then s.writeBit a (off + 4) (bit data 32) else s
  else s.writeBlock a off (s.pieceOf a off cov data)
/-- A write of any bytes of a window: aligned pieces of eight bytes in ascending order, one register cycle each (R499). -/
def State.writeWindow (s : State) (a off : Nat) (b : List Byte) : State :=
  if b.isEmpty then s
  else
    let t := s.now
    let first := off / 8
    let n := (off + b.length - 1) / 8 - first + 1
    ((List.range n).foldl (fun (s : State) k =>
      let base := 8 * (first + k)
      let inside := (List.range 8).filter (fun i => decide (off ≤ base + i) && decide (base + i < off + b.length))
      let cov := inside.foldl (fun m i => m + 255 * 256 ^ i) 0
      let data := inside.foldl (fun m i => m + (b.getD (base + i - off) 0).toNat * 256 ^ i) 0
      (s.at (t + 2 * k)).writePiece a base cov data) s).at t

/-! ## Commands of a register's own -/

/-- A ring of an allotment that has a window (R315). -/
def State.onRing (s : State) (a n : Nat) (f : State → State) : State := if s.serves a && decide (n < 16) then f s else s
/-- CLAIM (R338): answers the source. -/
def State.claimVector (s : State) (a v : Nat) : State :=
  if s.serves a && decide (v < 16) then
    let r := s.claimBy (targetOf (s.linkOf a) v)
    r.2.say 0 (natLe 2 r.1) s.now
  else s
/-- COMPLETE (R339). -/
def State.completeVector (s : State) (a v n : Nat) : State :=
  if s.serves a && decide (v < 16) && decide (n ≠ 0) then s.completeBy (targetOf (s.linkOf a) v) n else s
/-- CLEAR of the source selected (R336, R345). -/
def State.clearSelected (s : State) (a : Nat) : State :=
  let src := (s.allot a).source
  if s.serves a && s.showsRoute a then s.windowWrite a [fieldName 7 src 8] (fun s => s.clearSource src) else s
/-- MSI-X is enabled or disabled in the function (R342). -/
def State.enableMsix (s : State) (a : Nat) (on : Bool) : State :=
  if !s.windowOf a then s
  else
    let c := s.linkOf a
    let s := s.modFunc c (fun f => { f with enabled := on })
    (List.range 16).foldl (fun (s : State) v =>
      let t := targetOf c v
      let s := s.modVector t (fun x => { x with pending := false, signalled := if on then false else x.signalled })
      if on then s.notify t else s) s

/-! ## The Shed is live again (R30, R31, R310) -/

/-- A held write takes effect (R31). -/
def State.applyHeld (s : State) (h : HeldWrite) : State :=
  if h.off < 0x500000 then s.trapRequest ((h.off - 0x400000) / 64) (BitVec.ofNat 80 h.val)
  else
    let o := h.off - 0xBE0000
    s.setTarget (o / 0x1000) (o % 0x1000 / 8 - 8) h.val
/-- The held writes of an allotment whose work another core pair has taken over take effect, in their order (R31). -/
def State.applyTaken (s : State) : State :=
  let mine := s.shed.held.filter (fun h => !s.holdsWrites h.a)
  let s := { s with shed := { s.shed with held := s.shed.held.filter (fun h => s.holdsWrites h.a) } }
  mine.foldl (fun (s : State) h => s.applyHeld h) s
/-- Another core pair takes over an allotment's work: the held writes, then the operations that waited (R31, R309). -/
def State.pairTaken (s : State) (pair by_ : Nat) : State :=
  if pair ∉ s.shed.pairsDown ∨ by_ ∈ s.shed.pairsDown ∨ s.shed.restarting then s
  else ((s.takeoverPair pair by_).applyTaken).runWaiting pair
/-- The Shed is live: grafts first, then the held writes, then the work that waited, then the journal in acceptance order. A
core pair that is PRUNED stays down (R30, R31, R309, R310). -/
def State.comesLive (s : State) : State :=
  if !s.shed.running then s
  else
    let t := s.now
    let down := s.shed.pairsDown.filter (fun p => s.isPruned 10 p)
    let taken := s.shed.takenBy.filter (fun e => decide (e.1 ∈ down))
    let journal := s.shed.journal
    let held := s.shed.held
    let shed := { s.shed with restarting := false, pairsDown := down, takenBy := taken, journal := [], held := [] }
    let s := { s with shed := shed, copy := none }
    let s := s.graftAll
    let s := held.foldl (fun (s : State) h => s.applyHeld h) s
    let s := (s.carve 0).carve 1
    let s := (List.range 16).foldl (fun (s : State) a => if s.waits a then s else s.runWaiting a) s
    (s.drain journal).at t

end Sys2Proof.Machine
end

