-- ==== Sys2Proof/Machine/CommandForms.lean ====
section
/-! DEFINITION. Forms that the meanings of commands share: the instance an Almanac row names. -/

namespace Sys2Proof.Machine

/-- The instance of an entry that a row's operand names; an operand outside its range names no entry, which the Almanac
answers (R287, Table 11.5). (DESIGN CHOICE, log entry 8.). (DEDUCED, log entry 99.) -/
def named (ok : Bool) (inst : Nat) : Nat := if ok then inst else 0xFFFFFFFF

/-- An uncorrectable read of a burst that the command does not place: on one of a pipeline die's two stacks (R353).
(DESIGN CHOICE, log entry 12.) -/
def State.dieReadError (s : State) (die requester : Nat) : State :=
  s.readError (8 + 2 * die + Config.errorAddress s.fresh / 2 ^ 36 % 2) requester

end Sys2Proof.Machine
end

