-- ==== Sys2Proof/Machine/AlmanacCommands.lean ====
section
/-! DEFINITION. The commands of 11_almanac.md: messages, mailboxes, the six operations commanded by themselves, and keys. -/

namespace Sys2Proof.Machine

/-- ALMANAC_MESSAGE (R293): a message over UDP by a logical port or a management port. -/
def execAlmanacMessage (t port : Nat) (bytes : List Byte) (s : State) : Host.Outcome State Fault Refusal :=
  onUnit (isWayIn port) ((s.at t).udpMessage port bytes)
/-- IDENTIFY_REQUEST (R300). -/
def execIdentifyRequest (t port addr : Nat) (bytes : List Byte) (s : State) : Host.Outcome State Fault Refusal :=
  onUnit (isWayIn port && decide (addr < 16)) ((s.at t).udpIdentify port addr bytes)
/-- GO (R301). -/
def execGo (t a : Nat) (s : State) : Host.Outcome State Fault Refusal :=
  onUnit (isAllot a) ((s.at t).mailboxGo a)
/-- ACK (R301). -/
def execAck (t a : Nat) (s : State) : Host.Outcome State Fault Refusal :=
  onUnit (isAllot a) ((s.at t).mailboxAck a)
/-- GAP_TIMEOUT (R298). -/
def execGapTimeout (t a seq : Nat) (s : State) : Host.Outcome State Fault Refusal :=
  onUnit (isAllot a) ((s.at t).gapExpires a seq)
/-- READ (R307). -/
def execRead (t a fam inst mem : Nat) (arg : List Byte) (s : State) : Host.Outcome State Fault Refusal :=
  onUnit (isAllot a) ((s.at t).orderRead a fam inst mem arg)
/-- WRITE (R306). -/
def execWrite (t a fam inst mem : Nat) (val : List Byte) (s : State) : Host.Outcome State Fault Refusal :=
  onUnit (isAllot a) ((s.at t).orderWrite a fam inst mem val)
/-- WRITE_STAGED (R295): the data is the length. -/
def execWriteStaged (t a fam inst mem length : Nat) (s : State) : Host.Outcome State Fault Refusal :=
  onUnit (isAllot a) ((s.at t).order a 3 fam inst mem (natLe 4 length))
/-- STAGE (R295): the data is an offset and bytes. -/
def execStage (t a offset : Nat) (bytes : List Byte) (s : State) : Host.Outcome State Fault Refusal :=
  onUnit (isAllot a) ((s.at t).order a 4 0 0 0 (natLe 4 offset ++ bytes))
/-- CLEAR_STAGE (R295). -/
def execClearStage (t a : Nat) (s : State) : Host.Outcome State Fault Refusal :=
  onUnit (isAllot a) ((s.at t).order a 5 0 0 0 [])
/-- ADDRESS_CHANGE_EFFECT (R312). -/
def execAddressChangeEffect (t mem : Nat) (s : State) : Host.Outcome State Fault Refusal :=
  .next ((s.at t).addressDue mem)
/-- KEY (R331): E 04.000a.01 of the allotment named. -/
def execKey (t a allot : Nat) (val : List Byte) (s : State) : Host.Outcome State Fault Refusal :=
  onUnit (isAllot a) ((s.at t).orderWrite a 0x04 (named (isAllot allot) allot) 0x01 val)
/-- KEY_GRACE_END (R331). -/
def execKeyGraceEnd (t allot : Nat) (s : State) : Host.Outcome State Fault Refusal :=
  onUnit (isAllot allot) ((s.at t).keyGraceEnds allot)

end Sys2Proof.Machine
end

