-- ==== Sys2Proof/Machine/ArchitectureCommands.lean ====
section
/-! DEFINITION. The commands of 01_architecture.md: Trellis lanes, the Sieve's prune requests and the Shed's restarts. -/

namespace Sys2Proof.Machine

/-- LANE_FAIL (R20). -/
def execLaneFail (t link dir : Nat) (s : State) : Host.Outcome State Fault Refusal :=
  onUnit (isLink link && isSide dir) ((s.at t).laneFails link dir)
/-- LANE_MOVE_DONE (R20). -/
def execLaneMoveDone (t link dir : Nat) (s : State) : Host.Outcome State Fault Refusal :=
  onUnit (isLink link && isSide dir) ((s.at t).laneMoved link dir)
/-- PRUNE_REQUEST (R26). -/
def execPruneRequest (t die slot picture bed : Nat) (s : State) : Host.Outcome State Fault Refusal :=
  onUnit (isDie die && isSlot slot && isBed bed) ((s.at t).pruneComes die slot picture bed)
/-- SHED_RESTART (R29, R309, R310). -/
def execShedRestart (t : Nat) (pair : Option Nat) (readyAt : Nat) (s : State) : Host.Outcome State Fault Refusal :=
  onUnit (pair.all isPair) ((s.at t).restartShed pair readyAt)
/-- SHED_LIVE (R30, R31, R310). -/
def execShedLive (t : Nat) (s : State) : Host.Outcome State Fault Refusal := .next (s.at t).comesLive
/-- CORE_PAIR_TAKEOVER (R309). -/
def execCorePairTakeover (t pair byPair : Nat) (s : State) : Host.Outcome State Fault Refusal :=
  onUnit (isPair pair && isPair byPair) ((s.at t).pairTaken pair byPair)

end Sys2Proof.Machine
end

