-- ==== Sys2Proof/Machine/BedCommands.lean ====
section
/-! DEFINITION. The commands of 05_coding_beds.md: words, waits, micro-traps, patch sets, sleep and wake, and run bits. -/

namespace Sys2Proof.Machine

/-- WORD_ISSUE (R122, R124). -/
def execWordIssue (t bed : Nat) (s : State) : Host.Outcome State Fault Refusal :=
  onUnit (isBed bed) ((s.at t).issue bed)
/-- WORD_RETIRE (R122). (DESIGN CHOICE, log entry 43.) -/
def execWordRetire (t bed : Nat) (info : RetireInfo) (s : State) : Host.Outcome State Fault Refusal :=
  onUnit (isBed bed) ((s.at t).wordRetires bed info)
/-- WAIT_MET (R127). -/
def execWaitMet (t bed : Nat) (conds : BitVec 64) (s : State) : Host.Outcome State Fault Refusal :=
  onUnit (isBed bed) ((s.at t).waitMet bed conds)
/-- WAIT_TIMEOUT (R128). -/
def execWaitTimeout (t bed : Nat) (conds : BitVec 64) (s : State) : Host.Outcome State Fault Refusal :=
  onUnit (isBed bed) ((s.at t).waitTimeout bed conds)

/-- Act on a bed's BED_CONTROL, which only a0's window writes (R145). -/
def State.bedControl (s : State) (a bed : Nat) (f : State → State) : State :=
  if decide (a = 0) && s.serves 0 && isBed bed then f s else s
/-- A gang member asks a bed of its gang for a micro-trap (05, condition 27). (DEDUCED, log entry 100.) -/
def State.gangTrap (s : State) (bed : Nat) (progress : BitVec 80) : State :=
  if isBed bed && decide (1 < (s.gangOf bed).length) then s.trapRequest bed progress else s
/-- TRAP_REQ (R134): by the Shed through a0's window, or by a gang member. -/
def execTrapReq (t a bed : Nat) (gang : Bool) (progress : BitVec 80) (s : State) : Host.Outcome State Fault Refusal :=
  let s := s.at t
  onUnit (isAllot a)
    (if gang then s.gangTrap bed progress else s.bedControl a bed (fun s => s.orderTrap bed progress))
/-- PATCH_LOAD (R132): E 60.0000.02. -/
def execPatchLoad (t a : Nat) (set : List Byte) (s : State) : Host.Outcome State Fault Refusal :=
  onUnit (isAllot a) ((s.at t).orderWrite a 0x60 0 0x02 set)
/-- SLEEP_DELAY_EXPIRY (R137): changes nothing while the bed's delay has not passed. -/
def execSleepDelayExpiry (t bed : Nat) (s : State) : Host.Outcome State Fault Refusal :=
  let s := s.at t
  onUnit (isBed bed) (if s.sleepDue bed then s.sleepBed bed else s)
/-- SLEEP_DONE (R137, R139). -/
def execSleepDone (t bed : Nat) (s : State) : Host.Outcome State Fault Refusal :=
  onUnit (isBed bed) ((s.at t).sleepEnds bed)
/-- WAKE (R139), of BED_CONTROL. -/
def execWake (t a bed : Nat) (s : State) : Host.Outcome State Fault Refusal :=
  onUnit (isAllot a) ((s.at t).bedControl a bed (fun s => s.wakeBed bed))
/-- SLEEP (R139), of BED_CONTROL. -/
def execSleep (t a bed : Nat) (s : State) : Host.Outcome State Fault Refusal :=
  onUnit (isAllot a) ((s.at t).bedControl a bed (fun s => s.sleepBed bed))
/-- POWER_REQ (R139): E 60.1nnn.03. -/
def execPowerReq (t a bed val : Nat) (s : State) : Host.Outcome State Fault Refusal :=
  onUnit (isAllot a) ((s.at t).orderNumber a 0x60 (named (isBed bed) (0x1000 + bed)) 0x03 1 val)
/-- WAKE_DONE (R466): transplants that waited for the bed start (Table 09.8). -/
def execWakeDone (t bed : Nat) (s : State) : Host.Outcome State Fault Refusal :=
  let s := s.at t
  onUnit (isBed bed) (if (s.bed bed).st = .waking then (s.wakeEnds bed).startGrafts bed else s)
/-- RUN (R146): E 04.000a.0D of the allotment named. -/
def execRun (t a allot bed : Nat) (on : Bool) (s : State) : Host.Outcome State Fault Refusal :=
  onUnit (isAllot a) ((s.at t).orderWrite a 0x04 (named (isAllot allot) allot) 0x0D (natLe 2 bed ++ natLe 1 (b2n on)))

end Sys2Proof.Machine
end

