-- ==== Sys2Proof/Machine/CalibrationCommands.lean ====
section
/-! DEFINITION. The commands of 16_calibration_selftest.md: calibrations, trims and soil tests. -/

namespace Sys2Proof.Machine

/-- CAL_START (R387): E 41.0000.01. -/
def execCalStart (t a kind : Nat) (units : List Nat) (s : State) : Host.Outcome State Fault Refusal :=
  onUnit (isAllot a) ((s.at t).orderWrite a 0x41 0 0x01
    (natLe 1 kind ++ natLe 1 units.length ++ units.flatMap (fun u => natLe 1 u)))
/-- PAIR_MEASURE_DONE (R388, R390). -/
def execPairMeasureDone (t pair : Nat) (trims : List Int) (s : State) : Host.Outcome State Fault Refusal :=
  onUnit (isFibrePair pair) ((s.at t).pairMeasured pair trims)
/-- ALIGN_TIMEOUT (R388). -/
def execAlignTimeout (t lp : Nat) (s : State) : Host.Outcome State Fault Refusal :=
  onUnit (isLp lp) ((s.at t).alignTimeout lp)
/-- SENSOR_CAL_DONE (R387). -/
def execSensorCalDone (t : Nat) (results : List (Nat × Int × Int)) (s : State) : Host.Outcome State Fault Refusal :=
  .next ((s.at t).sensorsDone results)
/-- EPOCH (R391): E 41.0000.04. -/
def execEpoch (t a time : Nat) (s : State) : Host.Outcome State Fault Refusal :=
  onUnit (isAllot a) ((s.at t).orderNumber a 0x41 0 0x04 8 time)
/-- TRIM_EPOCH (R391). -/
def execTrimEpoch (t : Nat) (s : State) : Host.Outcome State Fault Refusal := .next (s.at t).trimEpoch
/-- DISCARD (R392): E 41.0000.08. -/
def execDiscard (t a : Nat) (s : State) : Host.Outcome State Fault Refusal :=
  onUnit (isAllot a) ((s.at t).orderNumber a 0x41 0 0x08 1 1)
/-- TRIM_SET (R394): a read of E 41.0000.06. -/
def execTrimSet (t a : Nat) (s : State) : Host.Outcome State Fault Refusal :=
  onUnit (isAllot a) ((s.at t).orderRead a 0x41 0 0x06 [])
/-- TRIM_RESTORE (R395): E 41.0000.07. -/
def execTrimRestore (t a side : Nat) (set : List Byte) (s : State) : Host.Outcome State Fault Refusal :=
  onUnit (isAllot a) ((s.at t).orderWrite a 0x41 0 0x07 (natLe 1 side ++ set))
/-- SOIL_TEST_START (R397). -/
def execSoilTestStart (t bed : Nat) (s : State) : Host.Outcome State Fault Refusal :=
  onUnit (isBed bed) ((s.at t).soilTest bed)
/-- SOIL_TEST_END (R396, R399): `failStep` 0 when every step passed. -/
def execSoilTestEnd (t bed failStep : Nat) (s : State) : Host.Outcome State Fault Refusal :=
  onUnit (isBed bed) ((s.at t).soilEnd bed failStep)
/-- RETEST (R399): E 42.1nnn.04. -/
def execRetest (t a bed : Nat) (s : State) : Host.Outcome State Fault Refusal :=
  onUnit (isAllot a) ((s.at t).orderNumber a 0x42 (named (isBed bed) (0x1000 + bed)) 0x04 1 1)

end Sys2Proof.Machine
end

