-- ==== Sys2Proof/Machine/ClockCommands.lean ====
section
/-! DEFINITION. The commands of 20_clocks_time.md: the reference clock, block wakes, PTP and time. -/

namespace Sys2Proof.Machine

/-- REFCLK_WINDOW (R458). -/
def execRefclkWindow (t count backupHz : Nat) (s : State) : Host.Outcome State Fault Refusal :=
  .next ((s.at t).refWindow count backupHz)
/-- CF_SOURCE (R460): E 03.0000.01. -/
def execCfSource (t a val : Nat) (s : State) : Host.Outcome State Fault Refusal :=
  onUnit (isAllot a) ((s.at t).orderNumber a 0x03 0 0x01 1 val)
/-- BLOCK_WAKE_DONE (R463). -/
def execBlockWakeDone (t block : Nat) (s : State) : Host.Outcome State Fault Refusal :=
  onUnit (isBlock block) ((s.at t).blockAwake block)
/-- PTP_SYNC (R469, R470). -/
def execPtpSync (t lp : Nat) (offset : Int) (s : State) : Host.Outcome State Fault Refusal :=
  onUnit (isLp lp) ((s.at t).syncMeasured lp offset)
/-- ANNOUNCE (R468). -/
def execAnnounce (t lp : Nat) (data : Announce) (s : State) : Host.Outcome State Fault Refusal :=
  onUnit (isLp lp) ((s.at t).announced lp data)
/-- ANNOUNCE_TIMEOUT (R500). -/
def execAnnounceTimeout (t : Nat) (s : State) : Host.Outcome State Fault Refusal := .next (s.at t).slaveLost
/-- DELAY_REQ (R467): answered as it came, by multicast or unicast. -/
def execDelayReq (t lp : Nat) (multicast : Bool) (s : State) : Host.Outcome State Fault Refusal :=
  onUnit (isLp lp) ((s.at t).delayAsked lp multicast)
/-- HOLDOVER_SPEC_EXPIRY (R470). -/
def execHoldoverSpecExpiry (t : Nat) (s : State) : Host.Outcome State Fault Refusal := .next (s.at t).specExpires
/-- TIME_SET (R473): E 03.0000.1D. -/
def execTimeSet (t a val : Nat) (s : State) : Host.Outcome State Fault Refusal :=
  onUnit (isAllot a) ((s.at t).orderNumber a 0x03 0 0x1D 8 val)
/-- PTP_MANAGEMENT (R467). -/
def execPtpManagement (t lp : Nat) (get : Bool) (id : Nat) (s : State) : Host.Outcome State Fault Refusal :=
  onUnit (isLp lp) ((s.at t).managed lp get id)
/-- SYNC_AND_ANNOUNCE_SEND (R468): kind 0 Announce, 1 Sync, 3 Delay_Req. -/
def execSyncAndAnnounceSend (t lp kind : Nat) (s : State) : Host.Outcome State Fault Refusal :=
  onUnit (isLp lp) ((s.at t).ptpSends lp kind)

end Sys2Proof.Machine
end

