-- ==== Sys2Proof/Machine/CounterCommands.lean ====
section
/-! DEFINITION. The commands of 17_counters.md: bed counters, samples, harvests and histograms. -/

namespace Sys2Proof.Machine

/-- COUNTER_SEL (R404): E 43.0000.10 to 17. -/
def execCounterSel (t a counter : Nat) (val : List Byte) (s : State) : Host.Outcome State Fault Refusal :=
  onUnit (isAllot a) ((s.at t).orderWrite a 0x43 (named (isBedCounter counter) 0) (0x10 + counter) val)
/-- FREEZE (R405): E 43.0000.02. -/
def execFreeze (t a val : Nat) (s : State) : Host.Outcome State Fault Refusal :=
  onUnit (isAllot a) ((s.at t).orderNumber a 0x43 0 0x02 1 val)
/-- SNAPSHOT (R406): E 43.0000.03. -/
def execSnapshot (t a : Nat) (s : State) : Host.Outcome State Fault Refusal :=
  onUnit (isAllot a) ((s.at t).orderNumber a 0x43 0 0x03 1 1)
/-- BED_COUNTER_OVERFLOW (R407, R408). -/
def execBedCounterOverflow (t bed counter upc : Nat) (space : Bool) (slot picture row ctu : Nat) (s : State) :
    Host.Outcome State Fault Refusal :=
  onUnit (isBed bed && isBedCounter counter && isSlot slot)
    ((s.at t).counterSample bed counter upc space slot picture row ctu)
/-- HARVEST_INSTANT (R412): while all of Dorsen restarts, the engine's copy of the counters is refreshed as well
(R310). (DEDUCED, log entry 102.) -/
def execHarvestInstant (t : Nat) (s : State) : Host.Outcome State Fault Refusal :=
  let u := (s.at t).harvest
  .next (if s.shed.restarting && decide (t % (s.str.harvestMs * 1000000) = 0) then u.copyCounters else u)
/-- HARVEST_COMPLETE (R412). -/
def execHarvestComplete (t a : Nat) (s : State) : Host.Outcome State Fault Refusal :=
  onUnit (isAllot a) ((s.at t).harvestShown a)
/-- HARVEST_LIST (R413): E 43.010a.01 of the allotment named. -/
def execHarvestList (t a allot : Nat) (list : List (Nat × Nat)) (s : State) : Host.Outcome State Fault Refusal :=
  onUnit (isAllot a) ((s.at t).orderWrite a 0x43 (named (isAllot allot) (0x100 + allot)) 0x01 (harvestBytes list))
/-- HIST_CLEAR (R411): E 43.(1000 + slot).03. -/
def execHistClear (t a slot : Nat) (s : State) : Host.Outcome State Fault Refusal :=
  onUnit (isAllot a) ((s.at t).orderNumber a 0x43 (named (isSlot slot) (0x1000 + slot)) 0x03 1 1)

end Sys2Proof.Machine
end

