-- ==== Sys2Proof/Machine/EgressCommands.lean ====
section
/-! DEFINITION. The commands of 10_egress.md: a port's frame starts and ends, refill instants, gate changes, and the queue
records. -/

namespace Sys2Proof.Machine

/-! ## Frames -/

/-- Take the tokens of the head packet of a queue: one of its group's shaper, and one of its own unless it catches up
(R266). -/
def State.takeTokens (s : State) (q : Nat) (late : Bool) : State :=
  let g := 16 * lpOfQueue q + q / 16 % 16
  let s := if (s.qgroup g).shaper.shape then s.modQGroup g (fun x => { x with tokens := x.tokens - 1 }) else s
  if (s.queue q).shaper.shape && !late then s.modQueue q (fun x => { x with tokens := x.tokens - 1 }) else s
/-- The read of the copy's cells has failed (R78): counted on the port, reported to the collector with class log, and its
cell retired when it is freed; a deep cell's stack logs it as well (R82). (DEDUCED, log entry 97.) -/
def State.cellFails (s : State) (lp : Nat) (x : QPkt) : State :=
  let die := dieOf lp
  let s := (s.countPort lp (fun c => { c with cellErrors := inc64 c.cellErrors })).logFault
    (256 * (8 + die) + 16 * (plOf lp % 4) + 1)
  if x.loc = 0 then s.breakCell x.chain
  else if x.loc = 1 then
    s.deepReadError (8 + 2 * die + Config.errorAddress s.fresh / 2 ^ 36 % 2) (0x0300 + plOf lp)
  else s
/-- Another copy of a chain has met a failed cell, which this copy reads as well (R78). -/
def State.cellBroken (s : State) (x : QPkt) : Bool := decide (x.loc = 0) && decide (0 < (s.chain x.chain).broken)
/-- The head packet of a queue leaves it for the port (R266, R278, R388, R410). (DEDUCED, log entry 97.) -/
def State.sendHead (s : State) (lp q : Nat) (x : QPkt) (cellError : Bool) : State :=
  let die := dieOf lp
  let late := x.late s.now
  let s := (s.takeTokens q late).takeHead q
  let s := if late then s.countQueue q (fun y => { y with late := inc64 y.late }) else s
  if (s.port lp).interruptedTo ≠ 0 then
    (s.countPort lp (fun c => { c with calDrops := inc64 c.calDrops })).releaseCopy die x.loc x.arg x.allot x.chain x.f.len
  else
    let s := s.countQueue q (fun y => { y with sent := inc64 y.sent })
    let s := s.countGroup (16 * lp + q / 16 % 16) (fun g => { g with sent := inc64 g.sent })
    let s := if x.loc = 1 then s.meterDeep die x.f.len else s
    let bad := cellError || s.cellBroken x
    let s := if bad then s.cellFails lp x else s
    let s := match x.slot with
      | some n => s.sampleResidence n (s.now - x.enq)
      | none => s
    let sending : Sending :=
      { queue := q, chain := x.chain, f := x.f, payer := x.payer, cls := x.cls, bad := bad, slot := x.slot, loc := x.loc,
        arg := x.arg, allot := x.allot }
    s.modPort lp (fun p => { p with sending := some sending })
/-- The queue chosen gives its head packet; the turns of the scheduler move on. -/
def State.startQueue (s : State) (lp q : Nat) (turns : Port) (cellError : Bool) : State :=
  match (s.queue q).pkts with
  | [] => s
  | x :: _ => (s.modPort lp (fun _ => turns)).sendHead lp q x cellError
/-- A logical port that forwards and sends nothing starts the next frame (R266). -/
def State.startFrame (s : State) (lp : Nat) (cellError : Bool) : State :=
  let p := s.port lp
  if p.st ≠ .forwarding ∨ !s.inUse lp ∨ p.sending.isSome then s
  else
    let s := (List.range 256).foldl (fun (s : State) k => s.trimHead (queueNo lp k)) s
    let s := s.countWaits lp
    match s.choose lp with
    | none => s
    | some c => s.startQueue lp c.1 c.2 cellError
/-- Class that the Rain Gauge counts a copy in (Table 18.1): PROTECTED is judged at departure. -/
def State.chargeClass (s : State) (x : Sending) : Nat :=
  match x.slot with
  | some n => (if x.cls < 3 then 1 else 3) + b2n (s.twin n).protected_
  | none => x.cls
/-- The last byte of the frame leaves the port (R76, R401, R416). A frame whose transmission has begun ends whatever its
port's state has become, and is counted while the port is in use (DESIGN CHOICE, log entry 111). -/
def State.endFrame (s : State) (lp : Nat) : State :=
  match (s.port lp).sending with
  | none => s
  | some x =>
    let die := dieOf lp
    let s := (s.modPort lp (fun p => { p with sending := none })).emit (.frame s.now lp x.queue x.f x.bad)
    let s := s.countPort lp (fun c => { c with framesTx := inc64 c.framesTx, octetsTx := add64 c.octetsTx x.f.len })
    let cls := s.chargeClass x
    let s := if x.bad ∨ x.cls = 5 then s else s.meter die x.payer cls { packets := 1, bytes := x.f.len }
    if x.bad ∧ x.loc = 1 then s.giveDeep die x.allot x.f.len true
    else if x.bad ∧ x.loc = 2 then s.breakBuffer die x.arg
    else s.releaseCopy die x.loc x.arg x.allot x.chain x.f.len
/-- PORT_FRAME_START (R266). -/
def execPortFrameStart (t lp : Nat) (cellError : Bool) (s : State) : Host.Outcome State Fault Refusal :=
  onUnit (isLp lp) ((s.at t).startFrame lp cellError)
/-- FRAME_TX_END (R76). -/
def execFrameTxEnd (t lp : Nat) (s : State) : Host.Outcome State Fault Refusal :=
  onUnit (isLp lp) ((s.at t).endFrame lp)

/-! ## Shapers and gates -/

/-- A bucket at a refill instant, under the parameters in force from it: clipped to DEPTH, then refilled (R269, R271). -/
def Shaper.refilled (p : Shaper) (tokens : Nat) : Nat := min p.depth (min p.depth tokens + p.refill)
/-- A refill instant of a queue's bucket, by the PERIOD in force. -/
def State.refillQueue (s : State) (q : Nat) : State :=
  let x := s.queue q
  if s.now % x.shaper.period ≠ 0 then s
  else
    let p := x.pend.getD x.shaper
    s.modQueue q (fun x => { x with shaper := p, pend := none, tokens := p.refilled x.tokens })
/-- A refill instant of a group's bucket. -/
def State.refillGroup (s : State) (g : Nat) : State :=
  let x := s.qgroup g
  if s.now % x.shaper.period ≠ 0 then s
  else
    let p := x.pend.getD x.shaper
    s.modQGroup g (fun x => { x with shaper := p, pend := none, tokens := p.refilled x.tokens })
/-- SHAPER_REFILL (R269, R271). -/
def execShaperRefill (t lp : Nat) (group : Bool) (index : Nat) (s : State) : Host.Outcome State Fault Refusal :=
  onUnit (isLp lp && (if group then isQGroup index else isPortQueue index))
    (if group then (s.at t).refillGroup (16 * lp + index) else (s.at t).refillQueue (queueNo lp index))
/-- The gate list moves to the entry of this instant (R280, R281); a cycle start is counted. -/
def State.gateMoves (s : State) (lp : Nat) : State :=
  if !s.gating lp then s
  else
    let g := (s.gate lp).active
    let s := s.gatesAt lp s.now
    if g.start (g.cycleAt s.now) = (s.now : Int) ∧ s.inUse lp then
      s.modGate lp (fun g => { g with cycles := (g.cycles + 1) % 4294967296 })
    else s
/-- GATE_ENTRY_CHANGE (R281). -/
def execGateEntryChange (t lp : Nat) (s : State) : Host.Outcome State Fault Refusal :=
  onUnit (isLp lp) ((s.at t).gateMoves lp)
/-- The pending schedule takes effect at its instant: source 0x5000 + 2 × lp + 1 is raised (R282, Table 13.1). -/
def State.gateChanges (s : State) (lp : Nat) : State :=
  let g := s.gate lp
  if !g.isPending ∨ s.now ≠ g.changeTime then s
  else
    let s := s.modGate lp (fun g =>
      { g with active := g.pending, isPending := false, bank := !g.bank, cycles := 0 })
    (s.gatesAt lp s.now).raise (0x5000 + 2 * lp + 1)
/-- GATE_SCHEDULE_CHANGE (R282). -/
def execGateScheduleChange (t lp : Nat) (s : State) : Host.Outcome State Fault Refusal :=
  onUnit (isLp lp) ((s.at t).gateChanges lp)
/-- DEEP_SHARE_INTERVAL (R360). -/
def execDeepShareInterval (t die : Nat) (s : State) : Host.Outcome State Fault Refusal :=
  onUnit (isDie die) ((s.at t).modCells die (fun c => { c with deepMeter := 0 }))

/-! ## Queue records -/

/-- QUEUE_WRITE (R286): E 12.llll.03, Table 10.4. -/
def execQueueWrite (t a lp : Nat) (rec : List Byte) (s : State) : Host.Outcome State Fault Refusal :=
  onUnit (isAllot a) ((s.at t).orderWrite a 0x12 (named (isLp lp) lp) 0x03 rec)
/-- QUEUE_READ (R286): E 12.llll.04. -/
def execQueueRead (t a lp index : Nat) (s : State) : Host.Outcome State Fault Refusal :=
  onUnit (isAllot a) ((s.at t).orderRead a 0x12 (named (isLp lp) lp) 0x04 (natLe 1 index))
/-- QUEUE_ENABLE (R268): E 04.000a.0E of the allotment named. -/
def execQueueEnable (t a allot queue : Nat) (on : Bool) (s : State) : Host.Outcome State Fault Refusal :=
  onUnit (isAllot a) ((s.at t).orderWrite a 0x04 (named (isAllot allot) allot) 0x0E (natLe 4 queue ++ natLe 1 (b2n on)))

end Sys2Proof.Machine
end

