-- ==== Sys2Proof/Machine/FaultCommands.lean ====
section
/-! DEFINITION. The commands of 15_faults.md: fault sources, injection, first-error records, unit resets, ticks and alerts. -/

namespace Sys2Proof.Machine

/-- FAULT_RAISE (R370). -/
def execFaultRaise (t id : Nat) (s : State) : Host.Outcome State Fault Refusal :=
  onUnit (isSource id) ((s.at t).raiseFault id)
/-- FAULT_CAUSE_GONE (R370). -/
def execFaultCauseGone (t id : Nat) (s : State) : Host.Outcome State Fault Refusal :=
  onUnit (isSource id) ((s.at t).causeGone id)
/-- FORCE (R380): E 40.1iii.02. -/
def execForce (t a id val : Nat) (s : State) : Host.Outcome State Fault Refusal :=
  onUnit (isAllot a) ((s.at t).orderNumber a 0x40 (named (isSource id) (0x1000 + id)) 0x02 1 val)
/-- CLASS (R372): E 40.1iii.01. -/
def execClass (t a id val : Nat) (s : State) : Host.Outcome State Fault Refusal :=
  onUnit (isAllot a) ((s.at t).orderNumber a 0x40 (named (isSource id) (0x1000 + id)) 0x01 1 val)
/-- RECORD_CLEAR (R377): E 40.01rr.02. -/
def execRecordClear (t a rec : Nat) (s : State) : Host.Outcome State Fault Refusal :=
  onUnit (isAllot a) ((s.at t).orderNumber a 0x40 (named (decide (rec < 17)) (0x100 + rec)) 0x02 1 1)
/-- UNIT_RESET (R379): E 40.0000.05. -/
def execUnitReset (t a domain unit : Nat) (s : State) : Host.Outcome State Fault Refusal :=
  onUnit (isAllot a) ((s.at t).orderWrite a 0x40 0 0x05 (natLe 1 domain ++ natLe 1 unit))
/-- A unit reset ends: a bed that left PRUNED is owed a soil test (R252, R379). (DEDUCED, log entry 100.) -/
def State.resetEnds (s : State) (d u : Nat) : State :=
  let was := decide ((d, u) ∈ s.flt.resetting)
  let s := s.endReset d u
  if was && decide (d < 8) && decide (u < 36) && !s.isPruned d u && !s.isPruned d 0xFF && !s.isPruned 12 d then
    s.bedBack (36 * d + u)
  else s
/-- UNIT_RESET_END (R379). -/
def execUnitResetEnd (t domain unit : Nat) (s : State) : Host.Outcome State Fault Refusal :=
  onUnit (decide (domain < 64)) ((s.at t).resetEnds domain unit)
/-- INJECT_ENABLE (R380): E 40.0000.01. -/
def execInjectEnable (t a val : Nat) (s : State) : Host.Outcome State Fault Refusal :=
  onUnit (isAllot a) ((s.at t).orderNumber a 0x40 0 0x01 1 val)
/-- ALERT_SW (R383): E 40.0000.06. -/
def execAlertSw (t a val : Nat) (s : State) : Host.Outcome State Fault Refusal :=
  onUnit (isAllot a) ((s.at t).orderNumber a 0x40 0 0x06 1 val)
/-- ALIVE_TICK (R381). -/
def execAliveTick (t : Nat) (s : State) : Host.Outcome State Fault Refusal := .next (s.at t).aliveTick
/-- ALERT_PULSE_END (R383). -/
def execAlertPulseEnd (t output : Nat) (s : State) : Host.Outcome State Fault Refusal :=
  onUnit (isSide output) ((s.at t).pulseEnds output)

end Sys2Proof.Machine
end

