-- ==== Sys2Proof/Machine/FeedCommands.lean ====
section
/-! DEFINITION. The commands of 04_raster_intake.md: intake channels, feeds and the outtake's reads. -/

namespace Sys2Proof.Machine

/-- INTAKE_PACKET (R99). -/
def execIntakePacket (t ch leg chain : Nat) (pkt : IntakePkt) (s : State) : Host.Outcome State Fault Refusal :=
  onUnit (isIntake ch && isSide leg) ((s.at t).intakeTakes ch leg chain pkt)
/-- MERGE_WAIT_EXPIRY (R100): changes nothing while no gap has waited its time. -/
def execMergeWaitExpiry (t ch : Nat) (s : State) : Host.Outcome State Fault Refusal :=
  let s := s.at t
  onUnit (isIntake ch) (if s.gapDue ch then s.gapClosed ch else s)
/-- LEG_TIMEOUT (R101). -/
def execLegTimeout (t ch leg : Nat) (s : State) : Host.Outcome State Fault Refusal :=
  onUnit (isIntake ch && isSide leg) ((s.at t).legDown ch leg)
/-- PICTURE_TIMEOUT (R102). -/
def execPictureTimeout (t ch : Nat) (s : State) : Host.Outcome State Fault Refusal :=
  onUnit (isIntake ch) ((s.at t).pictureTimeout ch)
/-- MISSING_PICTURE (R104). -/
def execMissingPicture (t ch : Nat) (s : State) : Host.Outcome State Fault Refusal :=
  onUnit (isIntake ch) ((s.at t).missingPicture ch)
/-- AU_SLOT_END (R211). -/
def execAuSlotEnd (t ch : Nat) (s : State) : Host.Outcome State Fault Refusal :=
  onUnit (isIntake ch) ((s.at t).auSlotEnd ch)

/-- A feed's line read (R110); the store's stack logs a read that failed (R353, Table 14.2). -/
def State.feedRead (s : State) (n : Nat) (storeError : Bool) : State :=
  let s := s.nextFeedPicture n
  match s.feedDue n with
  | none => s
  | some c =>
    let s := s.readLine n c storeError
    if storeError then s.dieReadError (intakeDie c) (0x1000 + c) else s
/-- FEED_LINE_READ (R110). -/
def execFeedLineRead (t slot : Nat) (storeError : Bool) (s : State) : Host.Outcome State Fault Refusal :=
  onUnit (isSlot slot) ((s.at t).feedRead slot storeError)
/-- PENDING_TAKE (R111). -/
def execPendingTake (t slot bed : Nat) (s : State) : Host.Outcome State Fault Refusal :=
  onUnit (isSlot slot && isBed bed) ((s.at t).takePending slot bed)
/-- LINE_ACK (R235). -/
def execLineAck (t slot bed line : Nat) (s : State) : Host.Outcome State Fault Refusal :=
  onUnit (isSlot slot && isBed bed) ((s.at t).lineAck slot bed line)
/-- CUT_TO (R113): E 20.2sss.02. -/
def execCutTo (t a slot ch : Nat) (s : State) : Host.Outcome State Fault Refusal :=
  onUnit (isAllot a) ((s.at t).orderNumber a 0x20 (named (isSlot slot) (0x2000 + slot)) 0x02 2 ch)
/-- PICTURE_BOUNDARY (R116). -/
def execPictureBoundary (t slot : Nat) (s : State) : Host.Outcome State Fault Refusal :=
  onUnit (isSlot slot) ((s.at t).pictureBoundary slot)
/-- OUTTAKE_ROW_READ (R226). -/
def execOuttakeRowRead (t oc row : Nat) (s : State) : Host.Outcome State Fault Refusal :=
  onUnit (isOuttake oc) ((s.at t).outtakeRow oc row)

end Sys2Proof.Machine
end

