-- ==== Sys2Proof/Machine/FieldCommands.lean ====
section
/-! DEFINITION. The commands of 02_field_ports.md: the ports, the pipelines, the crossings and the tables of forwarding. -/

namespace Sys2Proof.Machine

/-! ## Ports -/

/-- BREAKOUT (R36): E 10.16fp.01. -/
def execBreakout (t a fp code : Nat) (s : State) : Host.Outcome State Fault Refusal :=
  onUnit (isAllot a) ((s.at t).orderNumber a 0x10 (named (decide (fp < 64)) (16 * fp)) 0x01 1 code)
/-- ENABLE (R42): E 10.iiii.02. -/
def execEnable (t a lp val : Nat) (s : State) : Host.Outcome State Fault Refusal :=
  onUnit (isAllot a) ((s.at t).orderNumber a 0x10 (named (isLp lp) lp) 0x02 1 val)
/-- SIGNAL_LOSS (R42). -/
def execSignalLoss (t lp : Nat) (s : State) : Host.Outcome State Fault Refusal :=
  onUnit (isLp lp) ((s.at t).portLost lp)
/-- FEC_ALIGNED (R42). -/
def execFecAligned (t lp : Nat) (s : State) : Host.Outcome State Fault Refusal :=
  onUnit (isLp lp) ((s.at t).portAligned lp)
/-- FEC_INTERVAL_END (R43). -/
def execFecIntervalEnd (t lp corrected uncorrectable : Nat) (s : State) : Host.Outcome State Fault Refusal :=
  onUnit (isLp lp) ((s.at t).fecEnd lp corrected uncorrectable)
/-- PFC_PAUSE_END (R38): `cls` is the priority of the PFC frame, which names two classes (R267). -/
def execPfcPauseEnd (t lp cls : Nat) (s : State) : Host.Outcome State Fault Refusal :=
  onUnit (isLp lp && isPfcClass cls) ((s.at t).pfcEnd lp cls)

/-! ## Frames -/

/-- FRAME_ARRIVE (R45, R46). -/
def execFrameArrive (t lp : Nat) (frame : Frame) (s : State) : Host.Outcome State Fault Refusal :=
  onUnit (isLp lp) ((s.at t).arrive lp frame)
/-- PARSE_FRAME (R47). -/
def execParseFrame (t pl : Nat) (upset : Upset) (s : State) : Host.Outcome State Fault Refusal :=
  onUnit (isPl pl) ((s.at t).serve pl upset).logReads
/-- CROSSING_SEND (R22). -/
def execCrossingSend (t die : Nat) (s : State) : Host.Outcome State Fault Refusal :=
  onUnit (isDie die) ((s.at t).crossSend die)
/-- CROSSING_ARRIVE (R58). -/
def execCrossingArrive (t die : Nat) (upset : Upset) (s : State) : Host.Outcome State Fault Refusal :=
  onUnit (isDie die) ((s.at t).crossArrive die upset).logReads
/-- CROSSING_ACK (R76). -/
def execCrossingAck (t chain : Nat) (s : State) : Host.Outcome State Fault Refusal :=
  .next ((s.at t).dropRef chain)

/-! ## The Shed's repairs -/

/-- AGE_SCAN (R64): E 11.0000.01 gives the age. -/
def execAgeScan (t pl : Nat) (s : State) : Host.Outcome State Fault Refusal :=
  let s := s.at t
  onUnit (isPl pl) (s.modPipe pl (fun p => p.aged s.stampNow (s.cfgN 0x11 0 0x01)))
/-- PARITY_REWRITE (R67). -/
def execParityRewrite (t pl : Nat) (s : State) : Host.Outcome State Fault Refusal :=
  onUnit (isPl pl) ((s.at t).rewriteParity pl)
/-- DELIVERY_REWRITE (R68). -/
def execDeliveryRewrite (t die index : Nat) (s : State) : Host.Outcome State Fault Refusal :=
  onUnit (isDie die && isDelivery index) ((s.at t).rewriteDelivery die index)

/-! ## Tables, by the Almanac's family 11 -/

/-- FLOW_WRITE (R495): E 11.0000.10. -/
def execFlowWrite (t a : Nat) (rec : List Byte) (s : State) : Host.Outcome State Fault Refusal :=
  onUnit (isAllot a) ((s.at t).orderWrite a 0x11 0 0x10 rec)
/-- FLOW_DELETE (R495): E 11.0000.11. -/
def execFlowDelete (t a : Nat) (key : List Byte) (s : State) : Host.Outcome State Fault Refusal :=
  onUnit (isAllot a) ((s.at t).orderWrite a 0x11 0 0x11 key)
/-- FLOW_READ (R495): E 11.0000.12. -/
def execFlowRead (t a : Nat) (key : List Byte) (s : State) : Host.Outcome State Fault Refusal :=
  onUnit (isAllot a) ((s.at t).orderRead a 0x11 0 0x12 key)
/-- DELIVERY_WRITE (R21, R55, R56): E 11.0000.18, an index and an entry. -/
def execDeliveryWrite (t a index : Nat) (entry : DeliveryWord) (s : State) : Host.Outcome State Fault Refusal :=
  onUnit (isAllot a) ((s.at t).orderWrite a 0x11 0 0x18 (natLe 4 index ++ natLe 64 entry.toNat))
/-- DELIVERY_READ (R71): E 11.0000.19. -/
def execDeliveryRead (t a index : Nat) (s : State) : Host.Outcome State Fault Refusal :=
  onUnit (isAllot a) ((s.at t).orderRead a 0x11 0 0x19 (natLe 4 index))
/-- BLOCK_GRANT (R54): E 11.0000.1C. -/
def execBlockGrant (t a block owner linkFrom : Nat) (s : State) : Host.Outcome State Fault Refusal :=
  onUnit (isAllot a) ((s.at t).orderWrite a 0x11 0 0x1C (natLe 2 block ++ natLe 1 owner ++ natLe 2 linkFrom))
/-- STATIC_L2 (R65): E 11.0000.1D; the address stands in network order (R288). -/
def execStaticL2 (t a vid : Nat) (mac : Mac) (lp : Nat) (remove : Bool) (s : State) : Host.Outcome State Fault Refusal :=
  onUnit (isAllot a) ((s.at t).orderWrite a 0x11 0 0x1D
    (natLe 2 vid ++ (natLe 6 mac.toNat).reverse ++ natLe 2 lp ++ natLe 1 (b2n remove)))

end Sys2Proof.Machine
end

