-- ==== Sys2Proof/Machine/GaugeCommands.lean ====
section
/-! DEFINITION. The commands of 18_rain_gauge.md: meters, intervals, records and the seal. -/

namespace Sys2Proof.Machine

/-- METER_SEND (R418). -/
def execMeterSend (t die : Nat) (s : State) : Host.Outcome State Fault Refusal :=
  onUnit (isDie die) ((s.at t).meterSend die)
/-- METER_MISSING (R418). -/
def execMeterMissing (t die : Nat) (s : State) : Host.Outcome State Fault Refusal :=
  onUnit (isDie die) ((s.at t).meterMissing die)
/-- GAUGE_TIME (R420). -/
def execGaugeTime (t : Nat) (s : State) : Host.Outcome State Fault Refusal := .next (s.at t).gaugeTime
/-- GAUGE_TIME_FREE (R420). -/
def execGaugeTimeFree (t : Nat) (s : State) : Host.Outcome State Fault Refusal := .next (s.at t).gaugeTimeFree
/-- GAUGE_BOUNDARY (R421). -/
def execGaugeBoundary (t : Nat) (s : State) : Host.Outcome State Fault Refusal := .next (s.at t).gaugeBoundary
/-- GAUGE_CLOSE (R421, R422). -/
def execGaugeClose (t : Nat) (s : State) : Host.Outcome State Fault Refusal := .next (s.at t).gaugeClose
/-- GAUGE_RECORD_SEND (R429). -/
def execGaugeRecordSend (t : Nat) (s : State) : Host.Outcome State Fault Refusal := .next (s.at t).gaugeSend
/-- GAUGE_REPLAY (R429). -/
def execGaugeReplay (t : Nat) (s : State) : Host.Outcome State Fault Refusal := .next (s.at t).gaugeReplay
/-- SEAL_OPEN (R428). -/
def execSealOpen (t : Nat) (s : State) : Host.Outcome State Fault Refusal := .next (s.at t).sealOpens
/-- RG_KEEP_RETURN (R425). -/
def execRgKeepReturn (t : Nat) (s : State) : Host.Outcome State Fault Refusal := .next (s.at t).gaugeReturns
/-- RG_KEEP_LOSS (R425). -/
def execRgKeepLoss (t : Nat) (s : State) : Host.Outcome State Fault Refusal := .next (s.at t).gaugeLost
/-- INTERVAL (R427): E 50.0000.01. -/
def execInterval (t a val : Nat) (s : State) : Host.Outcome State Fault Refusal :=
  onUnit (isAllot a) ((s.at t).orderNumber a 0x50 0 0x01 4 val)
/-- TARIFF (R427): E 50.0000.02. -/
def execTariff (t a : Nat) (val : List Byte) (s : State) : Host.Outcome State Fault Refusal :=
  onUnit (isAllot a) ((s.at t).orderWrite a 0x50 0 0x02 val)
/-- RECORD (R422): a read of E 50.0000.06. -/
def execRecord (t a seq : Nat) (s : State) : Host.Outcome State Fault Refusal :=
  onUnit (isAllot a) ((s.at t).orderRead a 0x50 0 0x06 (natLe 8 seq))

end Sys2Proof.Machine
end

