-- ==== Sys2Proof/Machine/MemoryCommands.lean ====
section
/-! DEFINITION. The commands of 14_memory_dma.md: the patrol scrub, operating points, and the DMA channels. -/

namespace Sys2Proof.Machine

/-- SCRUB (R352): outcome 0 good, 1 corrected, else uncorrectable. -/
def execScrub (t stack address outcome : Nat) (syndrome : BitVec 32) (s : State) : Host.Outcome State Fault Refusal :=
  onUnit (isStack stack) ((s.at t).scrubBurst stack address outcome syndrome)
/-- LOG_CLEAR (R354): E 30.000d.0A. -/
def execLogClear (t a stack : Nat) (s : State) : Host.Outcome State Fault Refusal :=
  onUnit (isAllot a) ((s.at t).orderNumber a 0x30 (named (isStack stack) stack) 0x0A 1 1)
/-- OP_POINT (R356): E 30.000d.02. -/
def execOpPoint (t a stack val : Nat) (s : State) : Host.Outcome State Fault Refusal :=
  onUnit (isAllot a) ((s.at t).orderNumber a 0x30 (named (isStack stack) stack) 0x02 1 val)
/-- PLL_LOCK (R462). -/
def execPllLock (t pll : Nat) (s : State) : Host.Outcome State Fault Refusal :=
  onUnit (isPll pll) ((s.at t).pllLocked pll)
/-- OP_CHANGE_START (R357). -/
def execOpChangeStart (t stack : Nat) (s : State) : Host.Outcome State Fault Refusal :=
  onUnit (isStack stack) ((s.at t).opStart stack)
/-- STACK_HOLD (R358). -/
def execStackHold (t stack : Nat) (s : State) : Host.Outcome State Fault Refusal :=
  onUnit (isStack stack) ((s.at t).opHold stack)
/-- OP_CHANGE_DONE (R358). -/
def execOpChangeDone (t stack : Nat) (s : State) : Host.Outcome State Fault Refusal :=
  onUnit (isStack stack) ((s.at t).opDone stack)
/-- OP_CHANGE_TIMEOUT (R358). -/
def execOpChangeTimeout (t stack : Nat) (s : State) : Host.Outcome State Fault Refusal :=
  onUnit (isStack stack) ((s.at t).opTimeout stack)

/-- A command to a channel through its allotment's window (R362, R367). -/
def State.onChannel (s : State) (a c : Nat) (f : State → State) : State :=
  if s.serves a && decide (c / 64 = a) then f s else s
/-- START (R362). -/
def execStart (t a ch : Nat) (s : State) : Host.Outcome State Fault Refusal :=
  onUnit (isAllot a && isDma ch) ((s.at t).onChannel a ch (fun s => s.dmaStart a ch))
/-- DISABLE (R364). -/
def execDisable (t a ch : Nat) (s : State) : Host.Outcome State Fault Refusal :=
  onUnit (isAllot a && isDma ch) ((s.at t).onChannel a ch (fun s => s.dmaDisable a ch))
/-- DISABLE_CLEAR (R364). -/
def execDisableClear (t a ch : Nat) (s : State) : Host.Outcome State Fault Refusal :=
  onUnit (isAllot a && isDma ch) ((s.at t).onChannel a ch (fun s => s.dmaClear a ch))
/-- DMA_REQUEST_DONE (R363). -/
def execDmaRequestDone (t ch offset : Nat) (data : List Byte) (s : State) : Host.Outcome State Fault Refusal :=
  onUnit (isDma ch) ((s.at t).dmaArrive ch offset data)
/-- DMA_REQUEST_FAIL (R365). -/
def execDmaRequestFail (t ch offset cause : Nat) (s : State) : Host.Outcome State Fault Refusal :=
  onUnit (isDma ch) ((s.at t).dmaFail ch offset cause)

end Sys2Proof.Machine
end

