-- ==== Sys2Proof/Machine/PowerUpCommands.lean ====
section
/-! DEFINITION. The commands of 21_power_up.md: the steps from time zero to full readiness, and the PCI Express release. -/

namespace Sys2Proof.Machine

/-- POWER_UP (R477 to R479). -/
def execPowerUp (t : Nat) (tempC : Int) (split : BitVec 4) (s : State) : Host.Outcome State Fault Refusal :=
  .next ((s.at t).powersUp tempC split)
/-- MEMORY_TRAINING_DONE (R482). -/
def execMemoryTrainingDone (t : Nat) (failed : List Nat) (s : State) : Host.Outcome State Fault Refusal :=
  .next ((s.at t).memoryTrained failed)
/-- TRIMS_RESTORED (R393). -/
def execTrimsRestored (t : Nat) (s : State) : Host.Outcome State Fault Refusal := .next (s.at t).trimsBack
/-- PIPELINE_RELEASE (R483). -/
def execPipelineRelease (t : Nat) (s : State) : Host.Outcome State Fault Refusal := .next (s.at t).pipelinesUp
/-- ALMANAC_LIVE (R485). -/
def execAlmanacLive (t : Nat) (s : State) : Host.Outcome State Fault Refusal := .next (s.at t).almanacUp
/-- FULL_READINESS (R487). -/
def execFullReadiness (t : Nat) (s : State) : Host.Outcome State Fault Refusal := .next (s.at t).fullyReady
/-- PERST_RELEASE (R486). -/
def execPerstRelease (t link : Nat) (s : State) : Host.Outcome State Fault Refusal :=
  onUnit (isPcie link) ((s.at t).perstReleased link)
/-- DORSEN_RUNS (R480). -/
def execDorsenRuns (t : Nat) (newerSigned : Bool) (s : State) : Host.Outcome State Fault Refusal :=
  .next ((s.at t).dorsenUp newerSigned)
/-- CONFIGURATION_REQUEST (R486). -/
def execConfigurationRequest (t link : Nat) (s : State) : Host.Outcome State Fault Refusal :=
  onUnit (isPcie link) ((s.at t).configRequest link)

end Sys2Proof.Machine
end

