-- ==== Sys2Proof/Machine/RingCommands.lean ====
section
/-! DEFINITION. The commands of 03_cells_pools_fifos.md: the event rings of an allotment, through its window. -/

namespace Sys2Proof.Machine

/-- CONSUME (R91). -/
def execConsume (t a ring : Nat) (s : State) : Host.Outcome State Fault Refusal :=
  onUnit (isAllot a) ((s.at t).onRing a ring (fun s => s.ringConsume a ring))
/-- FLUSH (R94). -/
def execFlush (t a ring : Nat) (s : State) : Host.Outcome State Fault Refusal :=
  onUnit (isAllot a) ((s.at t).onRing a ring (fun s => s.ringFlush a ring))
/-- STATUS_RESET (R94). -/
def execStatusReset (t a ring : Nat) (s : State) : Host.Outcome State Fault Refusal :=
  onUnit (isAllot a) ((s.at t).onRing a ring (fun s => s.ringStatusReset a ring))
/-- ENTRY_READ (R92): a read of word 0 latches the eight words. -/
def execEntryRead (t a ring : Nat) (s : State) : Host.Outcome State Fault Refusal :=
  onUnit (isAllot a) ((s.at t).onRing a ring (fun s =>
    let s := s.ringRead a ring
    s.say 0 (natLe 32 (s.ring a ring).latch.toNat)))

end Sys2Proof.Machine
end

