-- ==== Sys2Proof/Machine/StreamCommands.lean ====
section
/-! DEFINITION. The commands of 06_encoding.md and 07_espalier.md: admission, slot grants and refresh groups. -/

namespace Sys2Proof.Machine

/-- ADMIT (R183): E 21.ssss.03 of an encode stream or E 23.ssss.03 of a decode stream. (DEDUCED, log entry 99.) -/
def execAdmit (t a fam slot val : Nat) (s : State) : Host.Outcome State Fault Refusal :=
  onUnit (isAllot a)
    ((s.at t).orderNumber a fam (named (isSlot slot && (decide (fam = 0x21) || decide (fam = 0x23))) slot) 0x03 1 val)
/-- STREAM_ADMITTED (R33). -/
def execStreamAdmitted (t slot : Nat) (s : State) : Host.Outcome State Fault Refusal :=
  onUnit (isSlot slot) ((s.at t).streamAdmitted slot)
/-- PERIOD_CHANGE (R199). -/
def execPeriodChange (t group : Nat) (s : State) : Host.Outcome State Fault Refusal :=
  onUnit (isGroup group) ((s.at t).periodChange group)
/-- SLOT_GRANT (R331): E 04.000a.07 of the allotment named. -/
def execSlotGrant (t a allot first count : Nat) (s : State) : Host.Outcome State Fault Refusal :=
  onUnit (isAllot a)
    ((s.at t).orderWrite a 0x04 (named (isAllot allot) allot) 0x07 (natLe 2 first ++ natLe 2 count))

end Sys2Proof.Machine
end

