-- ==== Sys2Proof/Machine/SupplyCommands.lean ====
section
/-! DEFINITION. The commands of 19_module_supplies_hedge.md: feeds, phases, KEEP, temperature, the Hedge's inputs and
outputs, and the barrier. -/

namespace Sys2Proof.Machine

/-- FEED_IN_RANGE (R438). -/
def execFeedInRange (t feed : Nat) (s : State) : Host.Outcome State Fault Refusal :=
  onUnit (isSide feed) ((s.at t).feedIn feed)
/-- FEED_OUT_OF_RANGE (R438). -/
def execFeedOutOfRange (t feed : Nat) (s : State) : Host.Outcome State Fault Refusal :=
  onUnit (isSide feed) ((s.at t).feedOut feed)
/-- SWITCHBACK (R438). -/
def execSwitchback (t : Nat) (s : State) : Host.Outcome State Fault Refusal := .next (s.at t).switchback
/-- FEEDS_LOST (R439). -/
def execFeedsLost (t : Nat) (s : State) : Host.Outcome State Fault Refusal := .next (s.at t).feedsLost
/-- MAIN_FEED (R440): E 02.0000.01. -/
def execMainFeed (t a val : Nat) (s : State) : Host.Outcome State Fault Refusal :=
  onUnit (isAllot a) ((s.at t).orderNumber a 0x02 0 0x01 1 val)
/-- PHASE_FAIL (R443). -/
def execPhaseFail (t phase : Nat) (s : State) : Host.Outcome State Fault Refusal :=
  onUnit (isPhase phase) ((s.at t).phaseFails phase)
/-- KEEP_LOSS (R446). -/
def execKeepLoss (t : Nat) (s : State) : Host.Outcome State Fault Refusal := .next (s.at t).keepLoss
/-- TEMP_WARN_CROSS (R448). -/
def execTempWarnCross (t : Nat) (above : Bool) (s : State) : Host.Outcome State Fault Refusal :=
  .next ((s.at t).tempCross above)
/-- THERMAL_TRIP (R448). -/
def execThermalTrip (t : Nat) (s : State) : Host.Outcome State Fault Refusal := .next (s.at t).trip
/-- LIFE_HOUR (R449). -/
def execLifeHour (t : Nat) (hottest : Int) (s : State) : Host.Outcome State Fault Refusal :=
  .next ((s.at t).lifeHour hottest)
/-- GPI_CHANGE (R452). -/
def execGpiChange (t gpi : Nat) (level : Bool) (s : State) : Host.Outcome State Fault Refusal :=
  onUnit (isGpio gpi) ((s.at t).gpiChanged gpi level)
/-- SET (R453): E 51.02nn.02, a level and an apply time. -/
def execSet (t a gpo : Nat) (level : Bool) (applyAt : Nat) (s : State) : Host.Outcome State Fault Refusal :=
  onUnit (isAllot a)
    ((s.at t).orderWrite a 0x51 (named (isGpio gpo) (0x200 + gpo)) 0x02 (natLe 1 (b2n level) ++ natLe 8 applyAt))
/-- GPO_APPLY (R451, R453). -/
def execGpoApply (t gpo : Nat) (s : State) : Host.Outcome State Fault Refusal :=
  onUnit (isGpio gpo) ((s.at t).gpoDue gpo)
/-- GPO_FAILSAFE (R453). -/
def execGpoFailsafe (t : Nat) (s : State) : Host.Outcome State Fault Refusal := .next (s.at t).gpoFailsafe
/-- TIMING_EDGE (R454). -/
def execTimingEdge (t count : Nat) (s : State) : Host.Outcome State Fault Refusal := .next ((s.at t).timingEdge count)
/-- REF_INPUT_LOST (R454). -/
def execRefInputLost (t : Nat) (pps : Bool) (s : State) : Host.Outcome State Fault Refusal :=
  .next ((s.at t).refInputLost pps)
/-- BARRIER_MESSAGE_ERROR (R451). -/
def execBarrierMessageError (t : Nat) (s : State) : Host.Outcome State Fault Refusal := .next (s.at t).barrierError
/-- HEDGE_V_LOSS (R450). -/
def execHedgeVLoss (t : Nat) (s : State) : Host.Outcome State Fault Refusal := .next (s.at t).hedgeLoss

end Sys2Proof.Machine
end

