-- ==== Sys2Proof/Machine/TwinCommands.lean ====
section
/-! DEFINITION. The commands of 09_twinning.md: the Sieve's copies, contests, double faults, grafts and peers. -/

namespace Sys2Proof.Machine

/-- SIEVE_COPY_ARRIVE (R243). -/
def execSieveCopyArrive (t die : Nat) (copy : UnitCopy) (s : State) : Host.Outcome State Fault Refusal :=
  onUnit (isDie die && isSlot copy.slot && isBed copy.bed) ((s.at t).copyComes die copy)
/-- SIEVE_WINDOW_CLOSE (R244). -/
def execSieveWindowClose (t die slot picture row tile : Nat) (s : State) : Host.Outcome State Fault Refusal :=
  onUnit (isDie die && isSlot slot) ((s.at t).windowClose die slot picture row tile)
/-- RETRIAL_CHOICE (R245). -/
def execRetrialChoice (t slot : Nat) (capsulesEqual : Bool) (s : State) : Host.Outcome State Fault Refusal :=
  onUnit (isSlot slot) ((s.at t).retrialChoice slot capsulesEqual)
/-- VOTE_TIMEOUT (R245). -/
def execVoteTimeout (t slot : Nat) (s : State) : Host.Outcome State Fault Refusal :=
  onUnit (isSlot slot) ((s.at t).voteTimeout slot)
/-- DOUBLE_FAULT_RESTART (R246). -/
def execDoubleFaultRestart (t slot : Nat) (s : State) : Host.Outcome State Fault Refusal :=
  onUnit (isSlot slot) ((s.at t).restart slot)
/-- EXCUSE_TIMEOUT (R248). -/
def execExcuseTimeout (t slot : Nat) (s : State) : Host.Outcome State Fault Refusal :=
  onUnit (isSlot slot) ((s.at t).excuseTimeout slot)
/-- SCION_CHOICE (R253). -/
def execScionChoice (t slot : Nat) (s : State) : Host.Outcome State Fault Refusal :=
  onUnit (isSlot slot) ((s.at t).chooseScion slot)
/-- The coding stack that a stream's running transplant reads, its survivor's (R254). -/
def State.transplantStack (s : State) (n : Nat) : Option Nat :=
  let w := s.twin n
  if w.st = .grafting ∧ (s.slot n).role ≠ 2 ∧ w.cuttingAt = 0 then some (bedDie (w.lead.headD 0)) else none
/-- A transplant ends; a read that failed is logged by the stack (R353, Table 14.2). -/
def State.transplantDone (s : State) (n : Nat) (bad : Bool) : State :=
  match bad, s.transplantStack n with
  | true, some d => (s.transplantEnd n true).readError d 0x0200
  | b, _ => s.transplantEnd n b
/-- TRANSPLANT_END (R254). -/
def execTransplantEnd (t slot : Nat) (uncorrectable : Bool) (s : State) : Host.Outcome State Fault Refusal :=
  onUnit (isSlot slot) ((s.at t).transplantDone slot uncorrectable)
/-- CUTTING_BOUNDARY (R255). -/
def execCuttingBoundary (t slot : Nat) (s : State) : Host.Outcome State Fault Refusal :=
  onUnit (isSlot slot) ((s.at t).cuttingBoundary slot)
/-- PROBATION_END (R257). -/
def execProbationEnd (t slot : Nat) (s : State) : Host.Outcome State Fault Refusal :=
  onUnit (isSlot slot) ((s.at t).probationEnd slot)
/-- EXPOSURE_LIMIT (R259). -/
def execExposureLimit (t slot : Nat) (s : State) : Host.Outcome State Fault Refusal :=
  onUnit (isSlot slot) ((s.at t).exposureLimit slot)
/-- BED_UNIT_RESET (R252). -/
def execBedUnitReset (t bed : Nat) (s : State) : Host.Outcome State Fault Refusal :=
  onUnit (isBed bed) ((s.at t).bedReset bed)
/-- CUTTING_COMPARE (R242). -/
def execCuttingCompare (t slot : Nat) (liveDiffers otherDiffers : Bool) (s : State) : Host.Outcome State Fault Refusal :=
  onUnit (isSlot slot) ((s.at t).cuttingCompare slot liveDiffers otherDiffers)
/-- SPARE_POOL (R263): E 24.2000.01. -/
def execSparePool (t a val : Nat) (s : State) : Host.Outcome State Fault Refusal :=
  onUnit (isAllot a) ((s.at t).orderNumber a 0x24 0x2000 0x01 2 val)
/-- PEER (R234): E 24.3ccc.01. -/
def execPeer (t a ch val : Nat) (s : State) : Host.Outcome State Fault Refusal :=
  onUnit (isAllot a) ((s.at t).orderNumber a 0x24 (named (isIntake ch) (0x3000 + ch)) 0x01 2 val)

end Sys2Proof.Machine
end

