-- ==== Sys2Proof/Machine/WindowCommands.lean ====
section
/-! DEFINITION. The commands of 12_allotments.md and 13_interrupts.md: register windows, doorbells, latches,
resets, and the claims of the interrupt controller. -/

namespace Sys2Proof.Machine

/-! ## Windows (12) -/

/-- REGISTER_WRITE (R499). -/
def execRegisterWrite (t a offset : Nat) (bytes : List Byte) (s : State) : Host.Outcome State Fault Refusal :=
  onUnit (isAllot a) ((s.at t).writeWindow a offset bytes)
/-- BIT_ALIAS_WRITE (R321): bit 0 of the data goes to the bit that the alias at `offset` of the window stands for. -/
def execBitAliasWrite (t a offset : Nat) (data : BitVec 32) (s : State) : Host.Outcome State Fault Refusal :=
  onUnit (isAllot a) ((s.at t).writeBit a offset (data.getLsbD 0))
/-- DOORBELL (R324): a number of 0 strikes nothing (R499). (DEDUCED, log entry 101.) -/
def execDoorbell (t a number : Nat) (s : State) : Host.Outcome State Fault Refusal :=
  let s := s.at t
  onUnit (isAllot a) (if number % 65536 = 0 then s else s.ringDoorbell a (number % 65536))
/-- A command to one of the 4,096 latches (R325). -/
def State.onLatch (s : State) (n : Nat) (f : State → State) : State := if n < 4096 then f s else s
/-- ACQUIRE (R326). -/
def execAcquire (t a latch : Nat) (tag : BitVec 16) (s : State) : Host.Outcome State Fault Refusal :=
  onUnit (isAllot a) ((s.at t).onLatch latch (fun s => s.latchCommand a latch true false tag))
/-- RELEASE (R326). -/
def execRelease (t a latch : Nat) (s : State) : Host.Outcome State Fault Refusal :=
  onUnit (isAllot a) ((s.at t).onLatch latch (fun s => s.latchCommand a latch false true 0))
/-- RESET (R327): E 04.000a.09 of the allotment named. -/
def execReset (t a allot : Nat) (s : State) : Host.Outcome State Fault Refusal :=
  onUnit (isAllot a) ((s.at t).orderNumber a 0x04 (named (isAllot allot) allot) 0x09 1 1)
/-- PCIE_LINK_RESET (R327, R314): kind 0 function-level reset, 1 hot reset, 2 link down. -/
def execPcieLinkReset (t link kind : Nat) (s : State) : Host.Outcome State Fault Refusal :=
  onUnit (isPcie link) ((s.at t).resetLink link kind)
/-- VOTE_SCRUB (R322): the fields of which a copy differed. -/
def execVoteScrub (t : Nat) (fields : List (Nat × Nat)) (s : State) : Host.Outcome State Fault Refusal :=
  .next ((s.at t).scrubVotes fields)

/-! ## Interrupts (13) -/

/-- CLAIM (R338). -/
def execClaim (t a vector : Nat) (s : State) : Host.Outcome State Fault Refusal :=
  onUnit (isAllot a) ((s.at t).claimVector a vector)
/-- COMPLETE (R339). -/
def execComplete (t a vector source : Nat) (s : State) : Host.Outcome State Fault Refusal :=
  onUnit (isAllot a) ((s.at t).completeVector a vector source)
/-- SOURCE_CLEAR (R336): CLEAR of the source that the window's SOURCE selects. -/
def execSourceClear (t a : Nat) (s : State) : Host.Outcome State Fault Refusal :=
  onUnit (isAllot a) ((s.at t).clearSelected a)
/-- MSIX_UNMASK (R341). -/
def execMsixUnmask (t a vector : Nat) (s : State) : Host.Outcome State Fault Refusal :=
  onUnit (isAllot a) ((s.at t).unmask a vector)
/-- MSIX_ENABLE (R342). -/
def execMsixEnable (t a : Nat) (on : Bool) (s : State) : Host.Outcome State Fault Refusal :=
  onUnit (isAllot a) ((s.at t).enableMsix a on)
/-- A core pair claims or completes (R344): a pair that runs, and whose cores agree; else its fault is reported.
(DEDUCED, log entry 98.) -/
def State.pairActs (s : State) (pair : Nat) (completes : Option Nat) (agree : Bool) : State :=
  if !s.shed.running || s.shed.restarting || decide (pair ∈ s.shed.pairsDown) || s.isPruned 10 pair then s
  else if !agree then s.pulseFault (0xA00 + pair)
  else match completes with
    | some n => s.shedCompleteBy pair n
    | none =>
      let r := s.shedClaimBy pair
      r.2.say 0 (natLe 2 r.1) s.now
/-- SHED_CLAIM (R344). -/
def execShedClaim (t pair : Nat) (completes : Option Nat) (agree : Bool) (s : State) : Host.Outcome State Fault Refusal :=
  onUnit (isPair pair) ((s.at t).pairActs pair completes agree)

end Sys2Proof.Machine
end

