-- ==== Sys2Proof/Machine/Dispatch.lean ====
section
/-! DEFINITION. The dispatch: one arm for each command, each a direct call of its meaning. -/

namespace Sys2Proof.Machine

def exec (i : Instr) (s : State) : Host.Outcome State Fault Refusal :=
  match i with
  | .laneFail t link dir => Sys2Proof.Machine.execLaneFail t link dir s
  | .laneMoveDone t link dir => Sys2Proof.Machine.execLaneMoveDone t link dir s
  | .pruneRequest t die slot picture bed => Sys2Proof.Machine.execPruneRequest t die slot picture bed s
  | .shedRestart t pair readyAt => Sys2Proof.Machine.execShedRestart t pair readyAt s
  | .shedLive t => Sys2Proof.Machine.execShedLive t s
  | .corePairTakeover t pair byPair => Sys2Proof.Machine.execCorePairTakeover t pair byPair s
  | .breakout t a fp code => Sys2Proof.Machine.execBreakout t a fp code s
  | .enable t a lp val => Sys2Proof.Machine.execEnable t a lp val s
  | .signalLoss t lp => Sys2Proof.Machine.execSignalLoss t lp s
  | .fecAligned t lp => Sys2Proof.Machine.execFecAligned t lp s
  | .fecIntervalEnd t lp corrected uncorrectable => Sys2Proof.Machine.execFecIntervalEnd t lp corrected uncorrectable s
  | .frameArrive t lp frame => Sys2Proof.Machine.execFrameArrive t lp frame s
  | .parseFrame t pl upset => Sys2Proof.Machine.execParseFrame t pl upset s
  | .pfcPauseEnd t lp cls => Sys2Proof.Machine.execPfcPauseEnd t lp cls s
  | .crossingSend t die => Sys2Proof.Machine.execCrossingSend t die s
  | .crossingArrive t die upset => Sys2Proof.Machine.execCrossingArrive t die upset s
  | .crossingAck t chain => Sys2Proof.Machine.execCrossingAck t chain s
  | .ageScan t pl => Sys2Proof.Machine.execAgeScan t pl s
  | .parityRewrite t pl => Sys2Proof.Machine.execParityRewrite t pl s
  | .deliveryRewrite t die index => Sys2Proof.Machine.execDeliveryRewrite t die index s
  | .flowWrite t a rec => Sys2Proof.Machine.execFlowWrite t a rec s
  | .flowDelete t a key => Sys2Proof.Machine.execFlowDelete t a key s
  | .flowRead t a key => Sys2Proof.Machine.execFlowRead t a key s
  | .deliveryWrite t a index entry => Sys2Proof.Machine.execDeliveryWrite t a index entry s
  | .deliveryRead t a index => Sys2Proof.Machine.execDeliveryRead t a index s
  | .blockGrant t a block owner linkFrom => Sys2Proof.Machine.execBlockGrant t a block owner linkFrom s
  | .staticL2 t a vid mac lp remove => Sys2Proof.Machine.execStaticL2 t a vid mac lp remove s
  | .portFrameStart t lp cellError => Sys2Proof.Machine.execPortFrameStart t lp cellError s
  | .frameTxEnd t lp => Sys2Proof.Machine.execFrameTxEnd t lp s
  | .shaperRefill t lp group index => Sys2Proof.Machine.execShaperRefill t lp group index s
  | .gateEntryChange t lp => Sys2Proof.Machine.execGateEntryChange t lp s
  | .gateScheduleChange t lp => Sys2Proof.Machine.execGateScheduleChange t lp s
  | .queueWrite t a lp rec => Sys2Proof.Machine.execQueueWrite t a lp rec s
  | .queueRead t a lp index => Sys2Proof.Machine.execQueueRead t a lp index s
  | .queueEnable t a allot queue on => Sys2Proof.Machine.execQueueEnable t a allot queue on s
  | .deepShareInterval t die => Sys2Proof.Machine.execDeepShareInterval t die s
  | .consume t a ring => Sys2Proof.Machine.execConsume t a ring s
  | .flush t a ring => Sys2Proof.Machine.execFlush t a ring s
  | .statusReset t a ring => Sys2Proof.Machine.execStatusReset t a ring s
  | .entryRead t a ring => Sys2Proof.Machine.execEntryRead t a ring s
  | .intakePacket t ch leg chain pkt => Sys2Proof.Machine.execIntakePacket t ch leg chain pkt s
  | .mergeWaitExpiry t ch => Sys2Proof.Machine.execMergeWaitExpiry t ch s
  | .legTimeout t ch leg => Sys2Proof.Machine.execLegTimeout t ch leg s
  | .pictureTimeout t ch => Sys2Proof.Machine.execPictureTimeout t ch s
  | .missingPicture t ch => Sys2Proof.Machine.execMissingPicture t ch s
  | .auSlotEnd t ch => Sys2Proof.Machine.execAuSlotEnd t ch s
  | .feedLineRead t slot storeError => Sys2Proof.Machine.execFeedLineRead t slot storeError s
  | .pendingTake t slot bed => Sys2Proof.Machine.execPendingTake t slot bed s
  | .lineAck t slot bed line => Sys2Proof.Machine.execLineAck t slot bed line s
  | .cutTo t a slot ch => Sys2Proof.Machine.execCutTo t a slot ch s
  | .pictureBoundary t slot => Sys2Proof.Machine.execPictureBoundary t slot s
  | .outtakeRowRead t oc row => Sys2Proof.Machine.execOuttakeRowRead t oc row s
  | .wordIssue t bed => Sys2Proof.Machine.execWordIssue t bed s
  | .wordRetire t bed info => Sys2Proof.Machine.execWordRetire t bed info s
  | .waitMet t bed conds => Sys2Proof.Machine.execWaitMet t bed conds s
  | .waitTimeout t bed conds => Sys2Proof.Machine.execWaitTimeout t bed conds s
  | .trapReq t a bed gang progress => Sys2Proof.Machine.execTrapReq t a bed gang progress s
  | .patchLoad t a xSet => Sys2Proof.Machine.execPatchLoad t a xSet s
  | .sleepDelayExpiry t bed => Sys2Proof.Machine.execSleepDelayExpiry t bed s
  | .sleepDone t bed => Sys2Proof.Machine.execSleepDone t bed s
  | .wake t a bed => Sys2Proof.Machine.execWake t a bed s
  | .sleep t a bed => Sys2Proof.Machine.execSleep t a bed s
  | .powerReq t a bed val => Sys2Proof.Machine.execPowerReq t a bed val s
  | .wakeDone t bed => Sys2Proof.Machine.execWakeDone t bed s
  | .run t a allot bed on => Sys2Proof.Machine.execRun t a allot bed on s
  | .admitSlot t a fam slot val => Sys2Proof.Machine.execAdmit t a fam slot val s
  | .streamAdmitted t slot => Sys2Proof.Machine.execStreamAdmitted t slot s
  | .periodChange t group => Sys2Proof.Machine.execPeriodChange t group s
  | .slotGrant t a allot first count => Sys2Proof.Machine.execSlotGrant t a allot first count s
  | .sieveCopyArrive t die copy => Sys2Proof.Machine.execSieveCopyArrive t die copy s
  | .sieveWindowClose t die slot picture row tile => Sys2Proof.Machine.execSieveWindowClose t die slot picture row tile s
  | .retrialChoice t slot capsulesEqual => Sys2Proof.Machine.execRetrialChoice t slot capsulesEqual s
  | .voteTimeout t slot => Sys2Proof.Machine.execVoteTimeout t slot s
  | .doubleFaultRestart t slot => Sys2Proof.Machine.execDoubleFaultRestart t slot s
  | .excuseTimeout t slot => Sys2Proof.Machine.execExcuseTimeout t slot s
  | .scionChoice t slot => Sys2Proof.Machine.execScionChoice t slot s
  | .transplantEnd t slot uncorrectable => Sys2Proof.Machine.execTransplantEnd t slot uncorrectable s
  | .cuttingBoundary t slot => Sys2Proof.Machine.execCuttingBoundary t slot s
  | .probationEnd t slot => Sys2Proof.Machine.execProbationEnd t slot s
  | .exposureLimit t slot => Sys2Proof.Machine.execExposureLimit t slot s
  | .bedUnitReset t bed => Sys2Proof.Machine.execBedUnitReset t bed s
  | .cuttingCompare t slot liveDiffers otherDiffers => Sys2Proof.Machine.execCuttingCompare t slot liveDiffers otherDiffers s
  | .sparePool t a val => Sys2Proof.Machine.execSparePool t a val s
  | .peer t a ch val => Sys2Proof.Machine.execPeer t a ch val s
  | .almanacMessage t port bytes => Sys2Proof.Machine.execAlmanacMessage t port bytes s
  | .identifyRequest t port addr bytes => Sys2Proof.Machine.execIdentifyRequest t port addr bytes s
  | .go t a => Sys2Proof.Machine.execGo t a s
  | .ack t a => Sys2Proof.Machine.execAck t a s
  | .gapTimeout t a seq => Sys2Proof.Machine.execGapTimeout t a seq s
  | .read t a fam inst mem arg => Sys2Proof.Machine.execRead t a fam inst mem arg s
  | .write t a fam inst mem val => Sys2Proof.Machine.execWrite t a fam inst mem val s
  | .writeStaged t a fam inst mem length => Sys2Proof.Machine.execWriteStaged t a fam inst mem length s
  | .stage t a offset bytes => Sys2Proof.Machine.execStage t a offset bytes s
  | .clearStage t a => Sys2Proof.Machine.execClearStage t a s
  | .addressChangeEffect t mem => Sys2Proof.Machine.execAddressChangeEffect t mem s
  | .key t a allot val => Sys2Proof.Machine.execKey t a allot val s
  | .keyGraceEnd t allot => Sys2Proof.Machine.execKeyGraceEnd t allot s
  | .registerWrite t a offset bytes => Sys2Proof.Machine.execRegisterWrite t a offset bytes s
  | .bitAliasWrite t a offset data => Sys2Proof.Machine.execBitAliasWrite t a offset data s
  | .doorbell t a number => Sys2Proof.Machine.execDoorbell t a number s
  | .acquire t a latch tag => Sys2Proof.Machine.execAcquire t a latch tag s
  | .release t a latch => Sys2Proof.Machine.execRelease t a latch s
  | .reset t a allot => Sys2Proof.Machine.execReset t a allot s
  | .pcieLinkReset t link kind => Sys2Proof.Machine.execPcieLinkReset t link kind s
  | .voteScrub t fields => Sys2Proof.Machine.execVoteScrub t fields s
  | .claim t a vector => Sys2Proof.Machine.execClaim t a vector s
  | .complete t a vector source => Sys2Proof.Machine.execComplete t a vector source s
  | .sourceClear t a => Sys2Proof.Machine.execSourceClear t a s
  | .msixUnmask t a vector => Sys2Proof.Machine.execMsixUnmask t a vector s
  | .msixEnable t a on => Sys2Proof.Machine.execMsixEnable t a on s
  | .shedClaim t pair completes agree => Sys2Proof.Machine.execShedClaim t pair completes agree s
  | .scrub t stack address outcome syndrome => Sys2Proof.Machine.execScrub t stack address outcome syndrome s
  | .logClear t a stack => Sys2Proof.Machine.execLogClear t a stack s
  | .opPoint t a stack val => Sys2Proof.Machine.execOpPoint t a stack val s
  | .pllLock t pll => Sys2Proof.Machine.execPllLock t pll s
  | .opChangeStart t stack => Sys2Proof.Machine.execOpChangeStart t stack s
  | .stackHold t stack => Sys2Proof.Machine.execStackHold t stack s
  | .opChangeDone t stack => Sys2Proof.Machine.execOpChangeDone t stack s
  | .opChangeTimeout t stack => Sys2Proof.Machine.execOpChangeTimeout t stack s
  | .start t a ch => Sys2Proof.Machine.execStart t a ch s
  | .disable t a ch => Sys2Proof.Machine.execDisable t a ch s
  | .disableClear t a ch => Sys2Proof.Machine.execDisableClear t a ch s
  | .dmaRequestDone t ch offset data => Sys2Proof.Machine.execDmaRequestDone t ch offset data s
  | .dmaRequestFail t ch offset cause => Sys2Proof.Machine.execDmaRequestFail t ch offset cause s
  | .faultRaise t id => Sys2Proof.Machine.execFaultRaise t id s
  | .faultCauseGone t id => Sys2Proof.Machine.execFaultCauseGone t id s
  | .force t a id val => Sys2Proof.Machine.execForce t a id val s
  | .classSet t a id val => Sys2Proof.Machine.execClass t a id val s
  | .recordClear t a rec => Sys2Proof.Machine.execRecordClear t a rec s
  | .unitReset t a domain unit => Sys2Proof.Machine.execUnitReset t a domain unit s
  | .unitResetEnd t domain unit => Sys2Proof.Machine.execUnitResetEnd t domain unit s
  | .injectEnable t a val => Sys2Proof.Machine.execInjectEnable t a val s
  | .alertSw t a val => Sys2Proof.Machine.execAlertSw t a val s
  | .aliveTick t => Sys2Proof.Machine.execAliveTick t s
  | .alertPulseEnd t output => Sys2Proof.Machine.execAlertPulseEnd t output s
  | .calStart t a kind units => Sys2Proof.Machine.execCalStart t a kind units s
  | .pairMeasureDone t pair trims => Sys2Proof.Machine.execPairMeasureDone t pair trims s
  | .alignTimeout t lp => Sys2Proof.Machine.execAlignTimeout t lp s
  | .sensorCalDone t results => Sys2Proof.Machine.execSensorCalDone t results s
  | .epoch t a time => Sys2Proof.Machine.execEpoch t a time s
  | .trimEpoch t => Sys2Proof.Machine.execTrimEpoch t s
  | .discard t a => Sys2Proof.Machine.execDiscard t a s
  | .trimSet t a => Sys2Proof.Machine.execTrimSet t a s
  | .trimRestore t a side xSet => Sys2Proof.Machine.execTrimRestore t a side xSet s
  | .soilTestStart t bed => Sys2Proof.Machine.execSoilTestStart t bed s
  | .soilTestEnd t bed failStep => Sys2Proof.Machine.execSoilTestEnd t bed failStep s
  | .retest t a bed => Sys2Proof.Machine.execRetest t a bed s
  | .counterSel t a counter val => Sys2Proof.Machine.execCounterSel t a counter val s
  | .freeze t a val => Sys2Proof.Machine.execFreeze t a val s
  | .snapshot t a => Sys2Proof.Machine.execSnapshot t a s
  | .bedCounterOverflow t bed counter upc space slot picture row ctu => Sys2Proof.Machine.execBedCounterOverflow t bed counter upc space slot picture row ctu s
  | .harvestInstant t => Sys2Proof.Machine.execHarvestInstant t s
  | .harvestComplete t a => Sys2Proof.Machine.execHarvestComplete t a s
  | .harvestList t a allot list => Sys2Proof.Machine.execHarvestList t a allot list s
  | .histClear t a slot => Sys2Proof.Machine.execHistClear t a slot s
  | .meterSend t die => Sys2Proof.Machine.execMeterSend t die s
  | .meterMissing t die => Sys2Proof.Machine.execMeterMissing t die s
  | .gaugeTime t => Sys2Proof.Machine.execGaugeTime t s
  | .gaugeTimeFree t => Sys2Proof.Machine.execGaugeTimeFree t s
  | .gaugeBoundary t => Sys2Proof.Machine.execGaugeBoundary t s
  | .gaugeClose t => Sys2Proof.Machine.execGaugeClose t s
  | .gaugeRecordSend t => Sys2Proof.Machine.execGaugeRecordSend t s
  | .gaugeReplay t => Sys2Proof.Machine.execGaugeReplay t s
  | .sealOpen t => Sys2Proof.Machine.execSealOpen t s
  | .rgKeepReturn t => Sys2Proof.Machine.execRgKeepReturn t s
  | .interval t a val => Sys2Proof.Machine.execInterval t a val s
  | .tariff t a val => Sys2Proof.Machine.execTariff t a val s
  | .record t a seq => Sys2Proof.Machine.execRecord t a seq s
  | .feedInRange t feed => Sys2Proof.Machine.execFeedInRange t feed s
  | .feedOutOfRange t feed => Sys2Proof.Machine.execFeedOutOfRange t feed s
  | .switchback t => Sys2Proof.Machine.execSwitchback t s
  | .feedsLost t => Sys2Proof.Machine.execFeedsLost t s
  | .mainFeed t a val => Sys2Proof.Machine.execMainFeed t a val s
  | .phaseFail t phase => Sys2Proof.Machine.execPhaseFail t phase s
  | .keepLoss t => Sys2Proof.Machine.execKeepLoss t s
  | .tempWarnCross t above => Sys2Proof.Machine.execTempWarnCross t above s
  | .thermalTrip t => Sys2Proof.Machine.execThermalTrip t s
  | .lifeHour t hottest => Sys2Proof.Machine.execLifeHour t hottest s
  | .gpiChange t gpi level => Sys2Proof.Machine.execGpiChange t gpi level s
  | .set t a gpo level applyAt => Sys2Proof.Machine.execSet t a gpo level applyAt s
  | .gpoApply t gpo => Sys2Proof.Machine.execGpoApply t gpo s
  | .gpoFailsafe t => Sys2Proof.Machine.execGpoFailsafe t s
  | .timingEdge t count => Sys2Proof.Machine.execTimingEdge t count s
  | .refInputLost t pps => Sys2Proof.Machine.execRefInputLost t pps s
  | .barrierMessageError t => Sys2Proof.Machine.execBarrierMessageError t s
  | .refclkWindow t count backupHz => Sys2Proof.Machine.execRefclkWindow t count backupHz s
  | .cfSource t a val => Sys2Proof.Machine.execCfSource t a val s
  | .blockWakeDone t block => Sys2Proof.Machine.execBlockWakeDone t block s
  | .ptpSync t lp offset => Sys2Proof.Machine.execPtpSync t lp offset s
  | .announce t lp data => Sys2Proof.Machine.execAnnounce t lp data s
  | .announceTimeout t => Sys2Proof.Machine.execAnnounceTimeout t s
  | .delayReq t lp multicast => Sys2Proof.Machine.execDelayReq t lp multicast s
  | .holdoverSpecExpiry t => Sys2Proof.Machine.execHoldoverSpecExpiry t s
  | .timeSet t a val => Sys2Proof.Machine.execTimeSet t a val s
  | .powerUp t tempC split => Sys2Proof.Machine.execPowerUp t tempC split s
  | .memoryTrainingDone t failed => Sys2Proof.Machine.execMemoryTrainingDone t failed s
  | .trimsRestored t => Sys2Proof.Machine.execTrimsRestored t s
  | .pipelineRelease t => Sys2Proof.Machine.execPipelineRelease t s
  | .almanacLive t => Sys2Proof.Machine.execAlmanacLive t s
  | .fullReadiness t => Sys2Proof.Machine.execFullReadiness t s
  | .perstRelease t link => Sys2Proof.Machine.execPerstRelease t link s
  | .rgKeepLoss t => Sys2Proof.Machine.execRgKeepLoss t s
  | .hedgeVLoss t => Sys2Proof.Machine.execHedgeVLoss t s
  | .dorsenRuns t newerSigned => Sys2Proof.Machine.execDorsenRuns t newerSigned s
  | .ptpManagement t lp get id => Sys2Proof.Machine.execPtpManagement t lp get id s
  | .syncAndAnnounceSend t lp kind => Sys2Proof.Machine.execSyncAndAnnounceSend t lp kind s
  | .configurationRequest t link => Sys2Proof.Machine.execConfigurationRequest t link s

end Sys2Proof.Machine
end

