-- ==== Sys2Proof/Safety.lean ====
section
/-! DEFINITION. What counts as a safe run, and the terms in which the claims speak of states: every waiting command names
units that exist; the Almanac takes an operation at once; an allotment has the right to an entry. -/

namespace Sys2Proof

/-- Every waiting command is well formed. -/
def safeQueue (s : Machine.State) : Bool := s.pending.all Instr.wellFormed

/-- At time `t` the Almanac takes an operation of allotment `a` at once: it is live, nothing of it restarts or waits in the
journal, and no other operation was accepted in the same decision slot or register cycle (R306, R309, R310). -/
structure takesAtOnce (s : Machine.State) (t a : Nat) : Prop where
  live : s.alm.live = true
  runs : s.shed.restarting = false
  drained : s.shed.journal = []
  up : a ∉ s.shed.pairsDown
  slots : ∀ e ∈ s.alm.slotWrites, e.1 ≠ t / 10
  olds : ∀ e ∈ s.alm.slotOld, e.1 ≠ t / 10
  cycles : ∀ e ∈ s.alm.cycleWrites, e.1 ≠ t / 2

/-- Allotment `a` may write the entry (R289), which exists (R287). -/
def mayWrite (s : Machine.State) (a fam inst mem : Nat) : Prop :=
  ∃ sp n r, Machine.spaceOf fam inst = some (sp, n) ∧ Machine.entryRow sp n mem = some r ∧
    Machine.canWrite r.acc (s.rightsMask a fam inst sp n) = true
/-- Allotment `a` may read the entry (R289), which exists (R287). -/
def mayRead (s : Machine.State) (a fam inst mem : Nat) : Prop :=
  ∃ sp n r, Machine.spaceOf fam inst = some (sp, n) ∧ Machine.entryRow sp n mem = some r ∧
    Machine.canRead r.acc (s.rightsMask a fam inst sp n) = true

/-- `v` is `u` as an accepted write leaves it: the notes of its decision slot and register cycle (R306), the image's
presence, and an answer of status OK with the time of its effect (R308). -/
def accepted (u v : Machine.State) (effectAt : Nat) : Prop :=
  let alm := { u.alm with slotWrites := v.alm.slotWrites, slotOld := v.alm.slotOld, cycleWrites := v.alm.cycleWrites, imaged := true }
  v = { u with answer := { status := 0, effectAt := effectAt, data := [] }, alm := alm }

end Sys2Proof
end

