-- ==== Sys2Proof/Certificates/Slice0/Obligations.lean ====
section
/-! DEFINITION. The statements for the provers. -/

open Sys2Proof Sys2Proof.Machine

/-- The block's queue: a step takes the command at the front and is exec of it on the state with the rest of the queue; on
an empty queue the block idles (log entry 5, the model's choice). -/
def Obligations.StepRunsFrontCommand : Prop :=
  ∀ (c : Instr) (q : List Instr) (s : State),
    step { s with pending := c :: q } = exec c { s with pending := q } ∧
    step { s with pending := [] } = .next { s with pending := [] }

/-- What reset leaves, where the spec gives it: no milestone reached (R491), the Almanac not live (R485), every bed OFF
(R137, Table 20.2), every stream slot FREE (R200), TIME_STATE FREE (R470) with no slave port, CF_ACTIVE the backup, ports
DISABLED (R42), every ring disabled and empty (R94), INJECT_ENABLE and FORCE clear (R380), no unit PRUNED, every stack
untrained, the GPOs in fail-safe (R489), no command waiting, and the exchange memory canonical and empty. Where the spec
leaves a value or an order open, the clauses follow the model's choice of log entry 1. -/
def Obligations.ResetState : Prop :=
  let s := State.reset
  s.boot.milestone = 0 ∧ s.boot.at_ = [0, 0, 0, 0, 0, 0] ∧ s.alm.live = false ∧ s.mod.on = false ∧
  (∀ b, (s.bed b).st = .off) ∧ (∀ n, (s.slot n).st = 0) ∧ s.clk.st = .free ∧ s.clk.slave = 0xFFFF ∧ s.clk.cfActive = 2 ∧
  (∀ lp, (s.port lp).st = .disabled) ∧ (∀ a n, (s.ring a n).enable = false ∧ (s.ring a n).entries = []) ∧
  s.flt.inject = false ∧ (∀ id, (s.source id).force = false ∧ (s.source id).cause = false) ∧ s.flt.pruned = [] ∧
  (∀ d un, s.isPruned d un = false) ∧ (∀ m, (s.stack m).st = 0) ∧ (∀ g, (s.gpo g).failsafe = true) ∧
  s.gauge.records = [] ∧ s.pending = [] ∧ s.mem.exchange = [] ∧ s.mem.wf = true

/-- Every command that names units the block has (R2) completes, whatever the state, and leaves the queue alone; one that
names a unit the block does not have stops with noSuchUnit (log entry 8, the model's choice). -/
def Obligations.CommandsComplete : Prop :=
  ∀ (c : Instr) (s : State),
    (c.wellFormed = true → ∃ u, exec c s = .next u ∧ u.pending = s.pending) ∧
    (c.wellFormed = false → exec c s = .fault .noSuchUnit)

/-- The exchange memory (R361, R369) keeps its canonical form, addresses strictly rising and no byte listed that reads as
an unlisted one, over every step from every state that has it. Where the spec leaves a value or an order open, the clauses
follow the model's choice of log entry 6. -/
def Obligations.ExchangeStaysCanonical : Prop :=
  ∀ s u : State, s.mem.wf = true → step s = .next u → u.mem.wf = true

/-- From R20, of a link and a direction that exist: a failed lane's traffic moves to a spare, transfers are held, and the
lane's source, of class log, is LIVE until the move ends; with no spare left the lane stays failed, and a link of 10 to 12
runs at reduced width. A move that leaves another one under way goes on holding; when none is left the link holds no more,
and what it held goes on. No other link changes, and no ring, no word of the exchange areas. R19, R20: a prune request is
held while a link on its way moves a lane. R26, of a bed that is a member of a twin: the first prune request of a picture
period prunes the bed with its gang, and is remembered for the twin, which the tiers of an espalier share; a later one of
the other die for another bed is counted as a disagreement and logged against the link of that die, and nothing is pruned
by it; a request of the same die, or for the same bed, or for a bed that is no member, changes nothing. -/
def Obligations.LinksAndPruneRequests : Prop :=
  (∀ (s : State) (t m dir : Nat), m < 13 → dir < 2 →
     (∃ u, exec (.laneFail t m dir) s = .next u ∧
       u.link m = (let l := s.link m
         if dir = 0 then
           (if 0 < l.spare0 then { l with spare0 := l.spare0 - 1, moving0 := l.moving0 + 1, holding := true }
            else { l with dead := l.dead + 1, narrow := decide (10 ≤ m) })
         else
           (if 0 < l.spare1 then { l with spare1 := l.spare1 - 1, moving1 := l.moving1 + 1, holding := true }
            else { l with dead := l.dead + 1, narrow := decide (10 ≤ m) })) ∧
       (∀ k, k ≠ m → u.link k = s.link k) ∧ u.rings = s.rings ∧ u.mem.exchange = s.mem.exchange ∧ u.boot = s.boot ∧
       (0 < (if dir = 0 then (s.link m).spare0 else (s.link m).spare1) → s.classOf (0xF00 + 16 * m) = 0 →
         (u.source (0xF00 + 16 * m)).cause = true ∧
         u = { s with now := t, links := u.links, flt := u.flt, irq := u.irq, allots := u.allots, emits := u.emits })) ∧
     (0 < (if dir = 0 then (s.link m).moving0 else (s.link m).moving1) →
       (let k := (let l := s.link m
          if dir = 0 then { l with moving0 := l.moving0 - 1 } else { l with moving1 := l.moving1 - 1 })
        (k.moving0 + k.moving1 ≠ 0 → ∃ u, exec (.laneMoveDone t m dir) s = .next u ∧ u.link m = k ∧
          (∀ j, j ≠ m → u.link j = s.link j) ∧ u = { s with now := t, links := u.links }) ∧
        (k.moving0 + k.moving1 = 0 → k.held = [] → ∃ u, exec (.laneMoveDone t m dir) s = .next u ∧
          u.link m = { k with holding := false } ∧ (u.source (0xF00 + 16 * m)).cause = false ∧
          (∀ j, j ≠ m → u.link j = s.link j) ∧ u = { s with now := t, links := u.links, flt := u.flt }) ∧
        (k.moving0 + k.moving1 = 0 → ∃ v, v.link m = { k with holding := false, held := [] } ∧
          (∀ j, j ≠ m → v.link j = s.link j) ∧ v = { s with now := t, links := v.links } ∧
          exec (.laneMoveDone t m dir) s = .next ((((k.held.filter (fun x => decide (x.cls = .control))) ++
            (k.held.filter (fun x => decide (x.cls ≠ .control)))).foldl State.goesOn v).causeGone (0xF00 + 16 * m))))) ∧
     ((if dir = 0 then (s.link m).moving0 else (s.link m).moving1) = 0 →
       exec (.laneMoveDone t m dir) s = .next (s.at t))) ∧
  (∀ (s : State) (t die n pic b : Nat), die < 2 → n < 8192 → b < 288 →
     ((s.link (8 + die)).holding = true ∨ (s.link 10).holding = true →
       (let m := if (s.link (8 + die)).holding then 8 + die else 10
        ∃ u, exec (.pruneRequest t die n pic b) s = .next u ∧
          u.link m = { s.link m with held := (s.link m).held ++ [.prune die n pic b] } ∧
          (∀ k, k ≠ m → u.link k = s.link k) ∧ u = { s with now := t, links := u.links })) ∧
     ((s.link (8 + die)).holding = false → (s.link 10).holding = false →
       (b ∉ (s.twin n).lead ++ (s.twin n).partner ∨ (s.twin n).st = .none →
         exec (.pruneRequest t die n pic b) s = .next (s.at t)) ∧
       (b ∈ (s.twin n).lead ++ (s.twin n).partner → (s.twin n).st ≠ .none →
         (let k := s.anchorOf n
          ((s.twin k).pruneReq.all (fun r => decide (r.1 ≠ pic)) = true →
            exec (.pruneRequest t die n pic b) s =
              .next (((s.at t).modTwin k (fun w => { w with pruneReq := some (pic, die, b) })).pruneGang b)) ∧
          (∀ d x, (s.twin k).pruneReq = some (pic, d, x) → d ≠ die → x ≠ b →
            ∃ u, exec (.pruneRequest t die n pic b) s = .next u ∧
            u.twin k = { s.twin k with disagreements := inc64 (s.twin k).disagreements } ∧
            (∀ j, j ≠ k → u.twin j = s.twin j) ∧ u.flt.pruned = s.flt.pruned ∧
            (s.flt.recording = true → (s.source (0xF82 + 16 * die)).live = false →
              (u.source (0xF82 + 16 * die)).count = inc64 (s.source (0xF82 + 16 * die)).count) ∧
            u.str.beds = s.str.beds) ∧
          (∀ d x, (s.twin k).pruneReq = some (pic, d, x) → d = die ∨ x = b →
            exec (.pruneRequest t die n pic b) s = .next (s.at t))))))

/-- From R29, R30, R309 and R310: a restart of all of Dorsen, and of one core pair, while Dorsen runs; the takeover of the
work of a pair that is down by one that is not, which first applies the writes held for it and then runs its waiting
operations, and which with nothing held or waiting changes the interrupt masks and the taker alone; and the end of a
restart, which leaves only PRUNED pairs down and forgets the copy of the counters. While Dorsen does not run nothing
restarts or ends. Where the spec leaves a value or an order open, the clauses follow the model's choice of log entries 94
and 102. -/
def Obligations.ShedRestarts : Prop :=
  ∀ (s : State) (t p q at_ : Nat), p < 16 → q < 16 →
    (s.shed.running = false → exec (.shedRestart t none at_) s = .next (s.at t) ∧
      exec (.shedRestart t (some p) at_) s = .next (s.at t) ∧ exec (.shedLive t) s = .next (s.at t)) ∧
    (s.shed.running = true → ∃ u, exec (.shedRestart t none at_) s = .next u ∧
      u.shed = { s.shed with restarting := true, readyAt := at_ } ∧ u.copy.map (·.at_) = some t ∧
      (∀ r ∈ u.irq.shed, r.2.on / 2 < 16 → r.2.st < 2) ∧ u.irq.host = s.irq.host ∧
      u = { s with now := t, irq := u.irq, shed := u.shed, copy := u.copy }) ∧
    (s.shed.running = true → ∃ u, exec (.shedRestart t (some p) at_) s = .next u ∧
      u.shed = { s.shed with pairsDown := addTo s.shed.pairsDown p, readyAt := at_ } ∧
      (∀ r ∈ u.irq.shed, r.2.on / 2 = p → r.2.st < 2) ∧ u.irq.host = s.irq.host ∧
      u = { s with now := t, irq := u.irq, shed := u.shed }) ∧
    (p ∉ s.shed.pairsDown ∨ q ∈ s.shed.pairsDown ∨ s.shed.restarting = true →
      exec (.corePairTakeover t p q) s = .next (s.at t)) ∧
    (p ∈ s.shed.pairsDown → q ∉ s.shed.pairsDown → s.shed.restarting = false →
      exec (.corePairTakeover t p q) s = .next ((((s.at t).takeoverPair p q).applyTaken).runWaiting p) ∧
      (s.shed.held = [] → (∀ j ∈ s.shed.waiting, j.a ≠ p) → (s.allot p).waiting = [] →
        ∃ u, exec (.corePairTakeover t p q) s = .next u ∧
          u.shed = { s.shed with takenBy := tput (fun k => k) s.shed.takenBy p q } ∧
          (∀ a, u.allot a = s.allot a) ∧ u.irq.host = s.irq.host ∧
          u = { s with now := t, shed := u.shed, irq := u.irq, allots := u.allots })) ∧
    (s.shed.running = true → s.shed.journal = [] → s.shed.held = [] → s.shed.waiting = [] →
      (∀ a, a < 16 → (s.allot a).waiting = []) →
      ∃ u, exec (.shedLive t) s = .next u ∧ u.now = t ∧ u.copy = none ∧
        u.shed = (let down := s.shed.pairsDown.filter (fun k => s.isPruned 10 k)
          let taken := s.shed.takenBy.filter (fun e => decide (e.1 ∈ down))
          { s.shed with restarting := false, pairsDown := down, takenBy := taken }))

/-- From R36, R42 and R44: ENABLE of a logical port and BREAKOUT of a field port, by an allotment that may write them.
ENABLE 0 holds a port that is not PRUNED in DISABLED; 1 brings a DISABLED port in use to DOWN; a new breakout puts every
port of the field port that is not PRUNED into DISABLED or, when it is now in use and enabled, DOWN. Where the spec leaves
a value or an order open, the clauses follow the model's choice of log entry 52. -/
def Obligations.PortRows : Prop :=
  ∀ (s : State) (t a : Nat), a < 16 → takesAtOnce s t a →
    (∀ lp v, lp < 1024 → v < 2 → mayWrite s a 0x10 lp 0x02 → ∃ u, exec (.enable t a lp v) s = .next u ∧
      u.answer = { status := 0, effectAt := t } ∧ u.cfgN 0x10 lp 0x02 = v ∧
      (u.port lp).st = (let st := (s.port lp).st
        if st = .pruned then .pruned
        else if v = 0 ∨ s.inUse lp = false then .disabled
        else if st = .disabled then .down else st) ∧
      (∀ k, k ≠ lp → u.port k = s.port k) ∧ u.rings = s.rings ∧ u.mem = s.mem ∧ u.gauge = s.gauge) ∧
    (∀ fp c, fp < 64 → c < 5 → c ≠ s.breakoutOf fp → mayWrite s a 0x10 (16 * fp) 0x01 →
      ∃ u, exec (.breakout t a fp c) s = .next u ∧ u.answer = { status := 0, effectAt := t } ∧ u.breakoutOf fp = c ∧
        (∀ j, j < 16 → (u.port (16 * fp + j)).st =
          (if (s.port (16 * fp + j)).st = .pruned then .pruned
           else if j < 2 ^ c ∧ s.portEnabled (16 * fp + j) = true then .down else .disabled)) ∧
        (∀ k, k / 16 ≠ fp → u.port k = s.port k) ∧ u.rings = s.rings ∧ u.mem = s.mem ∧ u.gauge = s.gauge)

/-- From R42, R43, R38 and R388, of a logical port: a loss of signal takes LISTEN and FORWARDING to DOWN unless a
calibration holds the port; alignment takes DOWN to LISTEN and ends an interruption; the end of an FEC interval counts its
uncorrectable codewords, and a clean one that began in LISTEN takes a port of a released pipeline to FORWARDING; the end of
a PFC pause frees the two classes whose time has run out. No other port changes, and nothing but the port and the
interrupts. Where the spec leaves a value or an order open, the clauses follow the model's choice of log entry 23. -/
def Obligations.PortEvents : Prop :=
  ∀ (s : State) (t lp : Nat), lp < 1024 →
    (∃ u, exec (.signalLoss t lp) s = .next u ∧
      u.port lp = (let p := s.port lp
        let down := p.interruptedTo = 0 ∧ (p.st = .listen ∨ p.st = .forwarding)
        { p with aligned := false, st := if down then .down else p.st }) ∧
      (∀ k, k ≠ lp → u.port k = s.port k) ∧
      u = { s with now := t, fwd := u.fwd, irq := u.irq, allots := u.allots, emits := u.emits }) ∧
    (∃ u, exec (.fecAligned t lp) s = .next u ∧
      u.port lp = (let p := s.port lp
        let q := { p with aligned := true, interruptedTo := 0 }
        if p.st = .down then { q with st := .listen, listenSince := t } else q) ∧
      (∀ k, k ≠ lp → u.port k = s.port k) ∧
      u = { s with now := t, fwd := u.fwd, irq := u.irq, allots := u.allots, emits := u.emits }) ∧
    (∀ c n, t % 1000000 ≠ 0 ∨ ((s.port lp).st ≠ .listen ∧ (s.port lp).st ≠ .forwarding) →
      exec (.fecIntervalEnd t lp c n) s = .next (s.at t)) ∧
    (∀ c n, t % 1000000 = 0 → (s.port lp).st = .listen ∨ (s.port lp).st = .forwarding →
      ∃ u, exec (.fecIntervalEnd t lp c n) s = .next u ∧
      u.port lp = (let p := s.port lp
        let q := if s.inUse lp then { p with cnt := { p.cnt with uncorrectable := add64 p.cnt.uncorrectable n } } else p
        let clean := n = 0 ∧ c ≤ s.cfgN 0x10 lp 0x06
        let goes := p.st = .listen ∧ p.listenSince + 1000000 ≤ t ∧ (s.pipe (lp / 128)).released = true
        if clean then { q with lastClean := t, st := if goes then .forwarding else p.st } else q) ∧
      (∀ k, k ≠ lp → u.port k = s.port k) ∧
      u = { s with now := t, fwd := u.fwd, irq := u.irq, allots := u.allots, emits := u.emits }) ∧
    (∀ c, c < 8 → ∃ u, exec (.pfcPauseEnd t lp c) s = .next u ∧
      u.port lp = (let p := s.port lp
        { p with paused := p.paused.filter (fun x => !(decide (x.1 / 2 = c) && decide (x.2 ≤ t))) }) ∧
      (∀ k, k ≠ lp → u.port k = s.port k) ∧ u = { s with now := t, fwd := u.fwd })

/-- From R3, R37, R39, R45, R46, R47 and R388: what a frame that arrives meets. One on a port that neither listens nor
forwards, or is not in use, leaves no trace; one of an interrupted port is a calibration drop; an LPI, a short, a long, a
damaged, a PAUSE and a PFC frame is counted under its cause and goes no further; of the whole frames a forwarding port's
takes the end of its field port's buffer when it fits, and is an overrun when it does not and is neither PTP nor an Almanac
frame for the block; a listening port's data frame is counted and discarded. And what the parser takes: the first frame of
the next field port that holds one, which leaves the buffer and is classified; nothing while the pipeline is not released. -/
def Obligations.FrameArrivals : Prop :=
  (∀ (s : State) (t lp : Nat) (f : Frame), lp < 1024 →
    ((s.port lp).st ≠ .listen ∧ (s.port lp).st ≠ .forwarding) ∨ s.inUse lp = false →
    exec (.frameArrive t lp f) s = .next (s.at t)) ∧
  (∀ (s : State) (t lp : Nat) (f : Frame), lp < 1024 → (s.port lp).st = .listen ∨ (s.port lp).st = .forwarding →
    s.inUse lp = true → 0 < (s.port lp).interruptedTo →
    exec (.frameArrive t lp f) s = .next ((s.at t).countPort lp (fun c => { c with calDrops := inc64 c.calDrops }))) ∧
  (∀ (s : State) (t lp : Nat) (f : Frame), lp < 1024 → (s.port lp).st = .forwarding → s.inUse lp = true →
    (s.port lp).interruptedTo = 0 → s.isUrgent f = false ∨ bufferBytes (s.buffer (lp / 16)) + f.len ≤ 262144 →
    ∃ u, exec (.frameArrive t lp f) s = .next u ∧
      (let c := (s.port lp).cnt
       let c := { c with framesRx := inc64 c.framesRx, octetsRx := add64 c.octetsRx f.len }
       let max := s.cfgN 0x10 lp 0x05
       let kept := u.buffer (lp / 16) = s.buffer (lp / 16)
       let whole := f.kind ≠ .lpi ∧ 64 ≤ f.len ∧ f.len ≤ max ∧ f.fcsOk = true
       (f.kind = .lpi → (u.port lp).cnt = { c with lpiRx := inc64 c.lpiRx } ∧ kept) ∧
       (f.kind ≠ .lpi → f.len < 64 → (u.port lp).cnt = { c with short := inc64 c.short } ∧ kept) ∧
       (f.kind ≠ .lpi → 64 ≤ f.len → max < f.len → (u.port lp).cnt = { c with long := inc64 c.long } ∧ kept) ∧
       (f.kind ≠ .lpi → 64 ≤ f.len → f.len ≤ max → f.fcsOk = false →
         (u.port lp).cnt = { c with fcs := inc64 c.fcs } ∧ kept) ∧
       (whole → f.kind = .pause → (u.port lp).cnt = { c with pauseRx := inc64 c.pauseRx } ∧ kept) ∧
       (whole → f.kind = .pfc → (u.port lp).cnt = { c with pfcRx := inc64 c.pfcRx } ∧ kept) ∧
       (whole → f.kind ≠ .pause → f.kind ≠ .pfc →
         (bufferBytes (s.buffer (lp / 16)) + f.len ≤ 262144 → (u.port lp).cnt = c ∧
           u.buffer (lp / 16) = s.buffer (lp / 16) ++ [{ lp := lp, t := t, f := f }]) ∧
         (262144 < bufferBytes (s.buffer (lp / 16)) + f.len →
           (u.port lp).cnt = { c with overruns := inc64 c.overruns } ∧ kept))) ∧
      (∀ k, k ≠ lp → u.port k = s.port k) ∧ (∀ k, k ≠ lp / 16 → u.buffer k = s.buffer k) ∧
      u = { s with now := t, fwd := u.fwd }) ∧
  (∀ (s : State) (t lp : Nat) (f : Frame), lp < 1024 → (s.port lp).st = .listen → s.inUse lp = true →
    (s.port lp).interruptedTo = 0 → f.kind ≠ .lpi →
    f.len < 64 ∨ s.cfgN 0x10 lp 0x05 < f.len ∨ f.fcsOk = false ∨ (f.kind = .data ∧ s.isAlmanac f = false) →
    ∃ u, exec (.frameArrive t lp f) s = .next u ∧
      (let c := (s.port lp).cnt
       let c := { c with framesRx := inc64 c.framesRx, octetsRx := add64 c.octetsRx f.len }
       (u.port lp).cnt = (if f.len < 64 then { c with short := inc64 c.short }
         else if s.cfgN 0x10 lp 0x05 < f.len then { c with long := inc64 c.long }
         else if f.fcsOk = false then { c with fcs := inc64 c.fcs }
         else { c with listenDiscards := inc64 c.listenDiscards })) ∧ (∀ k, k ≠ lp → u.port k = s.port k) ∧
      (∀ k, u.buffer k = s.buffer k) ∧ u = { s with now := t, fwd := u.fwd }) ∧
  (∀ (s : State) (t pl : Nat) (up : Upset), pl < 8 →
    ((s.pipe pl).released = false → s.fwd.failedReads = [] → exec (.parseFrame t pl up) s = .next (s.at t)) ∧
    (∀ k x rest, (s.pipe pl).released = true → s.pipePruned pl = false →
      ((List.range 8).map (fun j => ((s.pipe pl).rr + j) % 8)).find? (fun j => (s.nextOf (8 * pl + j)).isSome) = some k →
      s.nextOf (8 * pl + k) = some (x, rest) →
      exec (.parseFrame t pl up) s =
        .next ((((s.at t).setBuffer (8 * pl + k) rest).modPipe pl
          (fun p => { p with rr := (k + 1) % 8 })).classify pl x.lp x.f up).logReads))

/-- From R20, R22, R58 and R76: the oldest waiting packet of a die goes into flight, while no link between the pipeline
dies holds its transfers, unless the other die is PRUNED, when it is a crossing drop of that die and its reference is
dropped. The oldest packet in flight to a die is a crossing drop when the die is PRUNED or has no room for it; else it is
stored as a chain of its own, goes to its destinations of that die (the run of its entry, the ports of a flood, one L2
port), and the reference of the walk is dropped. With nothing waiting, nothing in flight, or a link that holds, nothing
happens. An acknowledgement takes one reference of the chain, and the last frees it. Where the spec leaves a value or an
order open, the clauses follow the model's choice of log entries 21 and 115. -/
def Obligations.Crossings : Prop :=
  (∀ (s : State) (t d : Nat), d < 2 →
    ((s.cells d).waiting = [] ∨ (s.link 8).holding = true ∨ (s.link 9).holding = true →
      exec (.crossingSend t d) s = .next (s.at t)) ∧
    (∀ up, s.fwd.failedReads = [] →
      (s.cells (1 - d)).inFlight = [] ∨ (s.link 8).holding = true ∨ (s.link 9).holding = true →
      exec (.crossingArrive t d up) s = .next (s.at t))) ∧
  (∀ (s : State) (t d : Nat) (x : Crossing) (r : List Crossing), d < 2 → (s.cells d).waiting = x :: r →
    (s.link 8).holding = false → (s.link 9).holding = false →
    (s.isPruned (8 + (1 - d)) 0xFF = false → ∃ u, exec (.crossingSend t d) s = .next u ∧
      u.cells d = { s.cells d with waiting := r, inFlight := (s.cells d).inFlight ++ [x] } ∧
      u.cells (1 - d) = s.cells (1 - d) ∧ u = { s with now := t, egr := u.egr }) ∧
    (s.isPruned (8 + (1 - d)) 0xFF = true → ∃ u, exec (.crossingSend t d) s = .next u ∧
      (u.cells d).waiting = r ∧ (u.cells (1 - d)).crossDrops = inc64 (s.cells (1 - d)).crossDrops ∧
      ((s.chain x.chain).refs ≠ 1 → u.chain x.chain =
        { s.chain x.chain with refs := (s.chain x.chain).refs - 1 }) ∧
      ((s.chain x.chain).refs = 1 → u.chain x.chain = {}) ∧ (∀ j, j ≠ x.chain → u.chain j = s.chain j) ∧
      u = { s with now := t, egr := u.egr, irq := u.irq, allots := u.allots, emits := u.emits })) ∧
  (∀ (s : State) (t d : Nat) (x : Crossing) (r : List Crossing) (up : Upset), d < 2 → (s.cells (1 - d)).inFlight = x :: r →
    (s.link 8).holding = false → (s.link 9).holding = false → s.fwd.failedReads = [] →
    (let v := (s.at t).modCells (1 - d) (fun c => { c with inFlight := r })
     let fits := v.cellsFit d x.allot (cellsOf x.f.len) true
     (s.isPruned (8 + d) 0xFF = true ∨ fits = false → ∃ u, exec (.crossingArrive t d up) s = .next u ∧
       (u.cells (1 - d)).inFlight = r ∧ (u.cells d).crossDrops = inc64 (s.cells d).crossDrops ∧
       (u.cells d).free = (s.cells d).free ∧
       u = { s with now := t, egr := u.egr, irq := u.irq, allots := u.allots, emits := u.emits }) ∧
     (s.isPruned (8 + d) 0xFF = false → fits = true →
       (let k := s.egr.nextChain
        let w := (v.newChain d x.allot (cellsOf x.f.len) true).2
        (∀ p, x.dest = .l2 p → exec (.crossingArrive t d up) s =
          .next (((if p / 512 = d then w.deliverL2 k x.lp x.allot (vidOf x.f) x.f p else w).dropRef k).logReads)) ∧
        (∀ vid, x.dest = .flood vid → up.vlan = false → vid ∉ (s.pipe (x.lp / 128)).badVlans →
          exec (.crossingArrive t d up) s = .next (((((w.floodSet vid).filter (fun p => decide (p / 512 = d))).foldl
            (fun y p => y.deliverL2 k x.lp x.allot vid x.f p) w).dropRef k).logReads)) ∧
        (∀ i, x.dest = .run i → (w.run d i up.delivery).limited = false →
          exec (.crossingArrive t d up) s = .next ((((w.run d i up.delivery).dests.foldl
            (fun y e => y.deliver d k x.lp x.allot x.f e x.own)
            (w.noteFailed d (x.lp / 128) (w.run d i up.delivery).failed)).dropRef k).logReads)))))) ∧
  (∀ (s : State) (t k : Nat), (s.chain k).refs = 0 ∨ 2 ≤ (s.chain k).refs → ∃ u, exec (.crossingAck t k) s = .next u ∧
    u.chain k = { s.chain k with refs := (s.chain k).refs - 1 } ∧ (∀ j, j ≠ k → u.chain j = s.chain j) ∧
    u = { s with now := t, egr := u.egr }) ∧
  (∀ (s : State) (t k : Nat), (s.chain k).refs = 1 → ∃ u, exec (.crossingAck t k) s = .next u ∧
    u.chain k = {} ∧ (∀ j, j ≠ k → u.chain j = s.chain j) ∧ u = { s with now := t, egr := u.egr })

/-- From R64, R67 and R68: the age scan keeps the static entries, and of the learned ones those at most AGE and two seconds
old; while the Shed is live it rewrites failed flow, static and VLAN entries, and an uncorrectable delivery entry from the
other die's copy; while it restarts nothing is rewritten, nor is an entry that has not failed. -/
def Obligations.ForwardingRepairs : Prop :=
  ∀ (s : State) (t pl : Nat), pl < 8 →
    (∃ u, exec (.ageScan t pl) s = .next u ∧
      (u.pipe pl).l2 = (s.pipe pl).l2.filter (fun e => e.static ||
        decide ((t / 1000000000 % 65536 + 65536 - e.stamp) % 65536 ≤ s.cfgN 0x11 0 0x01 + 2)) ∧
      (u.pipe pl).flows = (s.pipe pl).flows ∧ (∀ k, k ≠ pl → u.pipe k = s.pipe k) ∧ u = { s with now := t, fwd := u.fwd }) ∧
    (s.shedLive = false → exec (.parityRewrite t pl) s = .next (s.at t)) ∧
    (∀ d i, d < 2 → i < 33554432 → s.shedLive = false ∨ 33554432 * d + i ∉ s.fwd.badDelivery →
      exec (.deliveryRewrite t d i) s = .next (s.at t)) ∧
    (s.shedLive = true → ∃ u, exec (.parityRewrite t pl) s = .next u ∧
      (∀ x ∈ (u.pipe pl).flows, x.bad = false) ∧ (∀ e ∈ (u.pipe pl).l2, e.bad = false) ∧ (u.pipe pl).badVlans = [] ∧
      (u.pipe pl).flows.length = (s.pipe pl).flows.length ∧ (∀ k, k ≠ pl → u.pipe k = s.pipe k) ∧
      u = { s with now := t, fwd := u.fwd }) ∧
    (∀ d i, d < 2 → i < 33554432 → s.shedLive = true → 33554432 * d + i ∈ s.fwd.badDelivery →
      ∃ u, exec (.deliveryRewrite t d i) s = .next u ∧ u.delivery d i = s.delivery (1 - d) i ∧
        (∀ e k, (e ≠ d ∧ e < 2) ∨ k ≠ i → u.delivery e k = s.delivery e k) ∧
        33554432 * d + i ∉ u.fwd.badDelivery ∧ u = { s with now := t, fwd := u.fwd })

/-- From R51, R54, R55, R65 and R495: the records of family 11 that the Almanac takes at once from an allotment that owns
them or is the keeper. A flow record replaces the flow of its key or is added while the table has room; FLOW_DELETE removes
it; FLOW_READ and DELIVERY_READ answer the record; DELIVERY_WRITE changes both dies' copies alike; BLOCK_GRANT gives a
block; STATIC_L2 enters an address in all eight pipelines, or removes it from them. Where the spec leaves a value or an
order open, the clauses follow the model's choice of log entries 14, 57, 58 and 113. -/
def Obligations.ForwardingRows : Prop :=
  ∀ (s : State) (t a : Nat), a < 16 → takesAtOnce s t a →
    (∀ rec : List Byte, rec.length = 64 → flowClamped rec = false →
      (let x := flowOf rec a
       let p := s.pipe (x.lp / 128)
       ownsRecord a (some (s.portOwner x.lp)) = true → x.policer = 0xFFFF → p.used + x.slots ≤ 3670016 →
       ∃ u, exec (.flowWrite t a rec) s = .next u ∧
         (u.pipe (x.lp / 128)).flows = (if p.flows.any (fun y => y.sameKey x) then
            p.flows.map (fun y => if y.sameKey x then x else y) else p.flows ++ [x]) ∧
         (∀ k, k ≠ x.lp / 128 → u.pipe k = s.pipe k) ∧ accepted { s.at t with fwd := u.fwd } u t)) ∧
    (∀ key : List Byte, key.length = 40 →
      (let x := flowOf key a
       let p := s.pipe (x.lp / 128)
       ownsRecord a (some (s.portOwner x.lp)) = true → p.flows.any (fun y => y.sameKey x) = true →
       (∃ u, exec (.flowDelete t a key) s = .next u ∧
         (u.pipe (x.lp / 128)).flows = p.flows.filter (fun y => !y.sameKey x) ∧
         (∀ k, k ≠ x.lp / 128 → u.pipe k = s.pipe k) ∧ accepted { s.at t with fwd := u.fwd } u t) ∧
       (∀ y, s.copy = none → p.flows.find? (fun y => y.sameKey x) = some y → exec (.flowRead t a key) s =
         .next ((s.at t).say 0 y.record (t / 10 * 10))))) ∧
    (∀ i, i < 33554432 → ownsRecord a (s.block (i / 4096)).owner = true →
      (s.copy = none → exec (.deliveryRead t a i) s = .next ((s.at t).say 0 (natLe 64 (s.delivery 0 i).toNat) (t / 10 * 10))) ∧
      (∀ w, s.entryAllowed a w = true →
        ¬ (1 ≤ dType (s.delivery 0 i) ∧ dType (s.delivery 0 i) ≤ 2 ∧ 1 ≤ dType w ∧ dType w ≤ 2 ∧
          dDie (s.delivery 0 i) ≠ dDie w) →
        ∃ u, exec (.deliveryWrite t a i w) s = .next u ∧
          u.delivery 0 i = storedEntry a w ∧ u.delivery 1 i = storedEntry a w ∧
          (∀ d k, k ≠ i → u.delivery d k = s.delivery d k) ∧ accepted { s.at t with fwd := u.fwd } u t)) ∧
    (∀ b o l, b < 8192 → o < 16 → l < 65536 → mayWrite s a 0x11 0 0x1C → ∃ u, exec (.blockGrant t a b o l) s = .next u ∧
      u.block b = { owner := some o, linkFrom := BitVec.ofNat 16 l } ∧ (∀ k, k ≠ b → u.block k = s.block k) ∧
      accepted { s.at t with fwd := u.fwd } u t) ∧
    (∀ v m lp, 1 ≤ v → v ≤ 4094 → lp < 1024 → ownsRecord a (some (s.vlanOwner v)) = true →
      ∃ u, exec (.staticL2 t a v m lp false) s = .next u ∧
        (∀ k, k < 8 → (u.pipe k).l2 = (s.pipe k).l2.filter (fun e => !(decide (e.vid = v) && decide (e.mac = m))) ++
          [{ vid := v, mac := m, lp := lp, stamp := t / 1000000000 % 65536, static := true }]) ∧
        accepted { s.at t with fwd := u.fwd } u t) ∧
    (∀ v m lp, 1 ≤ v → v ≤ 4094 → lp < 1024 → ownsRecord a (some (s.vlanOwner v)) = true →
      (s.pipe 0).l2.any (fun e => e.static && decide (e.vid = v) && decide (e.mac = m)) = true →
      ∃ u, exec (.staticL2 t a v m lp true) s = .next u ∧
        (∀ k, k < 8 → (u.pipe k).l2 =
          (s.pipe k).l2.filter (fun e => !(e.static && decide (e.vid = v) && decide (e.mac = m)))) ∧
        accepted { s.at t with fwd := u.fwd } u t)

/-- From R3, R266, R388 and R76: a port that is not FORWARDING, not in use, or already sends, starts nothing, nor does one
with empty queues; when the scheduler chooses no queue only the gate drops and the gate waits are done. The queue that it
chooses gives its head packet, which a port that no calibration interrupts begins to send, and an interrupted one drops.
When the last byte leaves, the frame is sent, counted while the port is in use, whatever its port's state (log entry 111),
and an on-die copy's chain has one reference fewer; a port that sends nothing ends nothing. Where the spec leaves a value
or an order open, the clauses follow the model's choice of log entries 55 and 111. -/
def Obligations.PortFrames : Prop :=
  ∀ (s : State) (t lp : Nat) (e : Bool), lp < 1024 →
    ((s.port lp).st ≠ .forwarding ∨ s.inUse lp = false ∨ (s.port lp).sending.isSome = true ∨
        (∀ k, k < 256 → (s.queue (256 * lp + k)).pkts = []) → exec (.portFrameStart t lp e) s = .next (s.at t)) ∧
    ((s.port lp).st = .forwarding → s.inUse lp = true → (s.port lp).sending = none →
      (let v := ((List.range 256).foldl (fun (s : State) k => s.trimHead (256 * lp + k)) (s.at t)).countWaits lp
       (v.choose lp = none → exec (.portFrameStart t lp e) s = .next v) ∧
       (∀ q turns x r, v.choose lp = some (q, turns) → (v.queue q).pkts = x :: r →
         (turns.interruptedTo = 0 → ∃ u, exec (.portFrameStart t lp e) s = .next u ∧ (u.queue q).pkts = r ∧
           (u.queue q).sent = inc64 (v.queue q).sent ∧
           (u.port lp).sending.map (fun y => (y.queue, y.chain, y.f)) = some (q, x.chain, x.f) ∧ u.now = t) ∧
         (turns.interruptedTo ≠ 0 → ∃ u, exec (.portFrameStart t lp e) s = .next u ∧ (u.queue q).pkts = r ∧
           (u.queue q).sent = (v.queue q).sent ∧ (u.port lp).sending = none ∧
           (u.port lp).cnt.calDrops = inc64 (v.port lp).cnt.calDrops ∧ u.now = t)))) ∧
    ((s.port lp).sending = none → exec (.frameTxEnd t lp) s = .next (s.at t)) ∧
    (∀ x, (s.port lp).sending = some x →
      ∃ u, exec (.frameTxEnd t lp) s = .next u ∧ (u.port lp).sending = none ∧ (u.port lp).st = (s.port lp).st ∧
        (s.inUse lp = true → (u.port lp).cnt.framesTx = inc64 (s.port lp).cnt.framesTx ∧
          (u.port lp).cnt.octetsTx = add64 (s.port lp).cnt.octetsTx x.f.len) ∧
        (s.inUse lp = false → (u.port lp).cnt = (s.port lp).cnt) ∧
        u.emits = .frame t lp x.queue x.f x.bad :: s.emits ∧
        (x.loc = 0 → (s.chain x.chain).refs ≠ 1 →
          u.chain x.chain = { s.chain x.chain with refs := (s.chain x.chain).refs - 1 }) ∧
        (x.loc = 0 → (s.chain x.chain).refs = 1 → u.chain x.chain = {}) ∧
        (∀ j, x.loc ≠ 0 ∨ j ≠ x.chain → u.chain j = s.chain j) ∧
        (∀ k, k ≠ lp → u.port k = s.port k) ∧ (∀ q, u.queue q = s.queue q) ∧
        u = { s with now := t, fwd := u.fwd, egr := u.egr, emits := u.emits, gauge := u.gauge })

/-- From R3, R269 to R271, R280 to R282 and R360: at a refill instant of a queue's or a group's bucket the parameters
written before it come into force, and the bucket is clipped to DEPTH and gains REFILL; at a change of gate entry the gate
bits are those of the schedule at that time; at its change time the pending schedule becomes the active one; each
microsecond of the deep share starts with no bytes. A cycle start counts in CYCLES of a port in use. Away from its instant
a refill changes nothing, nor does an entry change while gating is off, nor a schedule change when none is due. Where the
spec leaves a value or an order open, the clauses follow the model's choice of log entries 22 and 55. -/
def Obligations.ShapersAndGates : Prop :=
  ∀ (s : State) (t lp k : Nat), lp < 1024 →
    (k < 256 → t % (s.queue (256 * lp + k)).shaper.period = 0 → ∃ u, exec (.shaperRefill t lp false k) s = .next u ∧
      u.queue (256 * lp + k) = (let x := s.queue (256 * lp + k)
        let p := x.pend.getD x.shaper
        { x with shaper := p, pend := none, tokens := min p.depth (min p.depth x.tokens + p.refill) }) ∧
      (∀ j, j ≠ 256 * lp + k → u.queue j = s.queue j) ∧ u = { s with now := t, egr := u.egr }) ∧
    (k < 16 → t % (s.qgroup (16 * lp + k)).shaper.period = 0 → ∃ u, exec (.shaperRefill t lp true k) s = .next u ∧
      u.qgroup (16 * lp + k) = (let x := s.qgroup (16 * lp + k)
        let p := x.pend.getD x.shaper
        { x with shaper := p, pend := none, tokens := min p.depth (min p.depth x.tokens + p.refill) }) ∧
      (∀ j, j ≠ 16 * lp + k → u.qgroup j = s.qgroup j) ∧ u = { s with now := t, egr := u.egr }) ∧
    (k < 256 → t % (s.queue (256 * lp + k)).shaper.period ≠ 0 → exec (.shaperRefill t lp false k) s = .next (s.at t)) ∧
    (k < 16 → t % (s.qgroup (16 * lp + k)).shaper.period ≠ 0 → exec (.shaperRefill t lp true k) s = .next (s.at t)) ∧
    (s.gating lp = false → exec (.gateEntryChange t lp) s = .next (s.at t)) ∧
    ((s.gate lp).isPending = false ∨ t ≠ (s.gate lp).changeTime → exec (.gateScheduleChange t lp) s = .next (s.at t)) ∧
    (s.gating lp = true → ∃ u, exec (.gateEntryChange t lp) s = .next u ∧
      (u.gate lp).entry = ((s.gate lp).active.at t).1 ∧
      (u.gate lp).gates = BitVec.ofNat 16 ((s.gate lp).active.at t).2.1 ∧ (u.gate lp).active = (s.gate lp).active ∧
      (u.gate lp).cycles = (let g := (s.gate lp).active
        if g.start (g.cycleAt t) = (t : Int) ∧ s.inUse lp = true then ((s.gate lp).cycles + 1) % 4294967296
        else (s.gate lp).cycles) ∧
      (∀ j, j ≠ lp → u.gate j = s.gate j) ∧ u = { s with now := t, egr := u.egr }) ∧
    ((s.gate lp).isPending = true → t = (s.gate lp).changeTime → ∃ u, exec (.gateScheduleChange t lp) s = .next u ∧
      (u.gate lp).active = (s.gate lp).pending ∧ (u.gate lp).isPending = false ∧ (u.gate lp).cycles = 0 ∧
      (u.gate lp).bank = !(s.gate lp).bank ∧ (∀ j, j ≠ lp → u.gate j = s.gate j) ∧
      u = { s with now := t, egr := u.egr, irq := u.irq, allots := u.allots, emits := u.emits }) ∧
    (∀ d, d < 2 → ∃ u, exec (.deepShareInterval t d) s = .next u ∧ u.cells d = { s.cells d with deepMeter := 0 } ∧
      u.cells (1 - d) = s.cells (1 - d) ∧ u = { s with now := t, egr := u.egr })

/-- From R268, R271, R272 and R286: a queue record in its ranges, written by the owner of the port, takes effect at once
but for its shaper, which waits for its refill instant; a read of a queue answers its record; and the enable of a queue of
a port that the allotment holds. No other queue changes, and nothing outside the egress but the notes and the answer. -/
def Obligations.QueueRows : Prop :=
  ∀ (s : State) (t a : Nat), a < 16 → takesAtOnce s t a →
    (∀ lp (b : List Byte), lp < 1024 → b.length = 16 → mayWrite s a 0x12 lp 0x03 →
      1 ≤ fieldAt b 2 2 → 
      fieldAt b 12 2 = 0xFFFF ∨
        (fieldAt b 12 2 ≤ 32767 ∧ s.cfgN 0x14 (32768 * (lp / 512) + fieldAt b 12 2) 0x01 = s.portOwner lp) →
      1 ≤ fieldAt b 4 2 → fieldAt b 4 2 ≤ fieldAt b 6 2 →
      100 ≤ fieldAt b 8 4 → fieldAt b 8 4 ≤ 1000000 →
      ∃ u, exec (.queueWrite t a lp b) s = .next u ∧
        u.queue (256 * lp + fieldAt b 0 1) = (let x := s.queue (256 * lp + fieldAt b 0 1)
          let sh : Shaper := { shape := (fieldAt b 1 1).testBit 1, refill := fieldAt b 4 2, depth := fieldAt b 6 2, period := fieldAt b 8 4 }
          let wait := if sh = x.shaper then none else some sh
          { x with deep := (fieldAt b 1 1).testBit 0, limit := fieldAt b 2 2, epolicer := fieldAt b 12 2, pend := wait }) ∧
        (∀ j, j ≠ 256 * lp + fieldAt b 0 1 → u.queue j = s.queue j) ∧ accepted { s.at t with egr := u.egr } u t) ∧
    (∀ lp k, lp < 1024 → k < 256 → mayRead s a 0x12 lp 0x04 → s.copy = none → exec (.queueRead t a lp k) s =
      .next ((s.at t).say 0 (s.queueRecord (256 * lp + k)) (t / 10 * 10))) ∧
    (∀ b q on, b < 16 → q < 262144 → s.portOwner (q / 256) = b → mayWrite s a 0x04 b 0x0E →
      ∃ u, exec (.queueEnable t a b q on) s = .next u ∧ u.queue q = { s.queue q with enabled := on } ∧
        (∀ j, j ≠ q → u.queue j = s.queue j) ∧ accepted { s.at t with egr := u.egr } u t)

/-- From R91, R92 and R94, of an allotment that is served (R315) and a ring of it: CONSUME releases the head entry, and of
an empty ring sets UNDERRUN; a pending gap marker is written as soon as a slot is free (R90); FLUSH discards every entry
and the pending marker; STATUS_RESET clears GAP and UNDERRUN; a read of word 0 of ENTRY latches the head and answers it,
and of an empty ring sets UNDERRUN and answers the entry last released, or zeros when none has been since reset or FLUSH;
words 1 to 7 show the latch, EMPTY shows an empty ring, and an entry that arrives in one is its head. No other ring
changes, and nothing outside the rings but interrupts and the messages they send. -/
def Obligations.RingCommands : Prop :=
  ∀ (s : State) (t a n : Nat), a < 16 → n < 16 → s.serves a = true →
    (∀ e r, (s.ring a n).entries = e :: r → (s.ring a n).gapCount = 0 → ∃ u, exec (.consume t a n) s = .next u ∧
      u.ring a n = { s.ring a n with entries := r, last := e }) ∧
    (∀ e r, (s.ring a n).entries = e :: r → (s.ring a n).gapCount ≠ 0 → r.length < 4096 →
      ∃ u, exec (.consume t a n) s = .next u ∧ (u.ring a n).entries = r ++ [(s.ring a n).marker] ∧
        (u.ring a n).gapCount = 0 ∧ (u.ring a n).last = e) ∧
    ((s.ring a n).entries = [] → ∃ u, exec (.consume t a n) s = .next u ∧
      u.ring a n = { s.ring a n with underrun := true }) ∧
    (∃ u, exec (.flush t a n) s = .next u ∧ (u.ring a n).entries = [] ∧ (u.ring a n).gapCount = 0 ∧
      (u.ring a n).last = 0 ∧ (u.ring a n).gap = (s.ring a n).gap ∧ (u.ring a n).underrun = (s.ring a n).underrun) ∧
    (∃ u, exec (.statusReset t a n) s = .next u ∧ u.ring a n = { s.ring a n with gap := false, underrun := false }) ∧
    (∀ e r, (s.ring a n).entries = e :: r → ∃ u, exec (.entryRead t a n) s = .next u ∧
      u.ring a n = { s.ring a n with latch := e } ∧ u.answer.status = 0 ∧ u.answer.data = natLe 32 e.toNat) ∧
    ((s.ring a n).entries = [] → ∃ u, exec (.entryRead t a n) s = .next u ∧
      u.ring a n = { s.ring a n with underrun := true, latch := (s.ring a n).last } ∧
      u.answer.data = natLe 32 (s.ring a n).last.toNat) ∧
    (∀ r : Ring, s.ring a n = r → bit (s.ringWordOf a n 0) 13 = r.entries.isEmpty ∧
      (∀ k, 1 ≤ k → k < 8 → s.ringWordOf a n (0x20 + 4 * k) = r.latch.toNat / 2 ^ (32 * k) % 2 ^ 32)) ∧
    (∀ w : RingWord, (s.ring a n).entries = [] → (s.ring a n).enable = true →
      ((s.ringPut a n w).ring a n).entries = [w]) ∧
    (State.reset.ring a n).last = 0 ∧
    (∀ c u, c ∈ [Instr.consume t a n, .flush t a n, .statusReset t a n, .entryRead t a n] → exec c s = .next u →
      (∀ b m, m < 16 → (b, m) ≠ (a, n) → u.ring b m = s.ring b m) ∧
      u = { s with now := u.now, rings := u.rings, irq := u.irq, emits := u.emits, allots := u.allots, answer := u.answer })

/-- From R98 to R101, R175 and R212, of a packet at an intake channel: one of a channel that is off or on a PRUNED die, and
a raster packet outside Table 04.1 or with more than three sample row headers (log entry 119), only gives its chain's
reference back; an audio or ANC packet is attached. Any other puts its leg up. Then a second copy of an ESN is a duplicate;
one older than the oldest ESN, and of no line still open, is late, and nothing else of either is used; a first copy goes to
the store or to the bitstream. MERGE_WAIT past a gap makes what is older late: lines are released and line 0 measured, or a
loss is marked; before it nothing changes. A leg silent for 1 ms is down and counted; before that nothing changes. Where
the spec leaves a value or an order open, the clauses follow the model's choice of log entries 116 and 119. -/
def Obligations.IntakeMerge : Prop :=
  ∀ (s : State) (t ch leg k : Nat) (p : IntakePkt), ch < 2048 → leg < 2 →
    (s.cfgN 0x20 ch 0x02 = 0 ∨ s.diePruned (intakeDie ch) = true →
      exec (.intakePacket t ch leg k p) s = .next ((s.at t).dropRef k)) ∧
    (s.cfgN 0x20 ch 0x02 ≠ 0 → s.diePruned (intakeDie ch) = false →
      (p.essence ≠ .video → exec (.intakePacket t ch leg k p) s = .next (((s.at t).attach ch p).dropRef k)) ∧
      (p.essence = .video → s.cfgN 0x20 ch 0x02 = 1 → takesFormat (s.intakeFmt ch) = false ∨ 3 < p.segs.length →
        exec (.intakePacket t ch leg k p) s = .next ((s.at t).dropRef k)) ∧
      (p.essence = .video → (s.cfgN 0x20 ch 0x02 = 1 → takesFormat (s.intakeFmt ch) = true ∧ p.segs.length ≤ 3) →
        (let i := s.intake ch
         let up := if leg = 0 then { i with legA := true, lastA := t } else { i with legB := true, lastB := t }
         (p.esn ∈ i.seen → ∃ u, exec (.intakePacket t ch leg k p) s = .next u ∧
           u.intake ch = { up with counts := bumpAt i.counts 0 1 } ∧ (∀ j, j ≠ ch → u.intake j = s.intake j) ∧
           u = { s with now := t, str := u.str, egr := u.egr }) ∧
         (p.esn ∉ i.seen → newer32 i.oldest p.esn = true → s.ofOpenLine ch p = false →
           ∃ u, exec (.intakePacket t ch leg k p) s = .next u ∧
           u.intake ch = { up with counts := bumpAt i.counts 1 1 } ∧ (∀ j, j ≠ ch → u.intake j = s.intake j) ∧
           u = { s with now := t, str := u.str, egr := u.egr }) ∧
         (p.esn ∉ i.seen → newer32 i.oldest p.esn = false ∨ s.ofOpenLine ch p = true →
           (let v := ((s.at t).legSeen ch leg).modIntake ch (fun i => i.accept p t)
            exec (.intakePacket t ch leg k p) s =
              .next ((if s.cfgN 0x20 ch 0x02 = 1 then v.rasterPacket ch p else v.compressedPacket ch p).dropRef k)))))) ∧
    ((s.intake ch).gapFrom = none ∨ t < (s.intake ch).gapSince + 1000 * s.cfgN 0x20 ch 0x05 →
      exec (.mergeWaitExpiry t ch) s = .next (s.at t)) ∧
    ((s.intake ch).gapFrom.isSome = true → (s.intake ch).gapSince + 1000 * s.cfgN 0x20 ch 0x05 ≤ t →
      (s.cfgN 0x20 ch 0x02 = 2 →
        exec (.mergeWaitExpiry t ch) s = .next ((((s.at t).modIntake ch Intake.closeGap).lossMarker ch).drainAu ch)) ∧
      (s.cfgN 0x20 ch 0x02 ≠ 2 → ∃ u, exec (.mergeWaitExpiry t ch) s = .next u ∧
        (let i := (s.intake ch).closeGap
         u.intake ch = { i with store := ((s.releaseLines ch).intake ch).store,
                                offsets := (((s.at t).releaseLines ch).measureOffset ch (s.lineReady ch 0) |>.intake ch).offsets }) ∧
        (∀ j, j ≠ ch → u.intake j = s.intake j) ∧ u = { s with now := t, str := u.str })) ∧
    ((s.intake ch).legA = false ∨ t < (s.intake ch).lastA + 1000000 → exec (.legTimeout t ch 0) s = .next (s.at t)) ∧
    ((s.intake ch).legB = false ∨ t < (s.intake ch).lastB + 1000000 → exec (.legTimeout t ch 1) s = .next (s.at t)) ∧
    ((s.intake ch).legA = true → (s.intake ch).lastA + 1000000 ≤ t → ∃ u, exec (.legTimeout t ch 0) s = .next u ∧
      u.intake ch = { s.intake ch with legA := false, counts := bumpAt (s.intake ch).counts 6 1 } ∧
      (∀ j, j ≠ ch → u.intake j = s.intake j) ∧ u = { s with now := t, str := u.str }) ∧
    ((s.intake ch).legB = true → (s.intake ch).lastB + 1000000 ≤ t → ∃ u, exec (.legTimeout t ch 1) s = .next u ∧
      u.intake ch = { s.intake ch with legB := false, counts := bumpAt (s.intake ch).counts 6 1 } ∧
      (∀ j, j ≠ ch → u.intake j = s.intake j) ∧ u = { s with now := t, str := u.str })

/-- From R102 to R104, R112 and R211: the picture of a raster channel ends when its period and MERGE_WAIT have passed since
its first packet, and each line with a sample missing is counted. The picture of the last grid instant a period and
MERGE_WAIT ago, of which no packet has come, is missing: counted once, and a repeat picture of every feed that names the
channel (that it is judged by this instant is log entry 91). The slot of an open AU ends it once it is over. A time-out
that is not due changes nothing. Where the spec leaves a value or an order open, the clauses follow the model's choice of
log entry 91. -/
def Obligations.PicturesEnd : Prop :=
  ∀ (s : State) (t ch : Nat), ch < 2048 →
    (let i := s.intake ch
     let r := rateOf (s.intakeFmt ch).rate
     let due := i.openSince + periodNs r + 1000 * s.cfgN 0x20 ch 0x05
     let filled := ((List.range (s.crop ch).2.2.2).filter (fun k => !s.lineWhole ch k)).length
     let last := gridAt r ((t - periodNs r - 1000 * s.cfgN 0x20 ch 0x05) * r.1 / (r.2 * 1000000000))
     let seen := fun (o : Option (BitVec 32)) => o.any (fun ts => decide (gridNear r (instantOf t ts) = last))
     (s.cfgN 0x20 ch 0x02 ≠ 1 ∨ i.openTs = none ∨ t < due → exec (.pictureTimeout t ch) s = .next (s.at t)) ∧
     (∀ ts, s.cfgN 0x20 ch 0x02 = 1 → i.openTs = some ts → due ≤ t →
       ∃ u, exec (.pictureTimeout t ch) s = .next u ∧ (u.intake ch).openTs = none ∧ (u.intake ch).endedTs = some ts ∧
         (u.intake ch).pictures = i.pictures + 1 ∧ (u.intake ch).held = true ∧
         (u.intake ch).counts = (if filled = 0 then i.counts else bumpAt i.counts 2 filled) ∧
         (u.intake ch).store2 = (u.intake ch).store ∧
         (∀ j, j ≠ ch → u.intake j = s.intake j) ∧ u = { s with now := t, str := u.str }) ∧
     (s.cfgN 0x20 ch 0x02 ≠ 1 ∨ seen i.openTs = true ∨ seen i.endedTs = true ∨ i.missedAt = some last →
       exec (.missingPicture t ch) s = .next (s.at t)) ∧
     (s.cfgN 0x20 ch 0x02 = 1 → seen i.openTs = false → seen i.endedTs = false → i.missedAt ≠ some last →
       ∃ u, exec (.missingPicture t ch) s = .next u ∧ (u.intake ch).missing = true ∧ (u.intake ch).missedAt = some last ∧
         (u.intake ch).counts = bumpAt i.counts 5 1 ∧ (∀ j, j ≠ ch → u.intake j = s.intake j) ∧
         (∀ e ∈ s.str.feeds, e.2.source = some ch ∨ e.2.reading = some ch →
           ∀ q ∈ (u.slot e.1).pics, q.instant = last → q.rep = true) ∧
         u = { s with now := t, str := u.str, alm := u.alm })) ∧
    (s.decodeOf ch = none ∨ (s.intake ch).openTs = none ∨ (s.intake ch).auSlot = none →
      exec (.auSlotEnd t ch) s = .next (s.at t)) ∧
    (∀ n k, s.decodeOf ch = some n → (s.intake ch).openTs.isSome = true → (s.intake ch).auSlot = some k →
      (t < s.slotStart n (k + 1) → exec (.auSlotEnd t ch) s = .next (s.at t)) ∧
      (s.slotStart n (k + 1) ≤ t → exec (.auSlotEnd t ch) s = .next (((s.at t).lossMarker ch).endAu ch)))

/-- From R110, R111, R112 and R235: a feed whose next line is due reads it, counts it late when it is not in the store or
its read failed (the stack then logs the read), and sends it as a strip to every member; on a die whose links move a lane
it is held. Before its time, on a PRUNED die, or with no picture to read, no line is read. A member takes the pending
picture once, when every member has started its last CTU row, and binds the others to it. An acknowledgement moves the
common mark to the last line that every member has acknowledged, and never back, and makes each member's lines below it
usable. Where the spec leaves a value or an order open, the clauses follow the model's choice of log entries 118 and 129. -/
def Obligations.FeedLines : Prop :=
  ∀ (s : State) (t n : Nat) (e : Bool), n < 8192 →
    (let v := (s.at t).nextFeedPicture n
     (v.feedDue n = none → exec (.feedLineRead t n e) s = .next v) ∧
     (∀ c, v.feedDue n = some c → exec (.feedLineRead t n e) s =
       .next (if e then (v.readLine n c true).dieReadError (intakeDie c) (0x1000 + c) else v.readLine n c false))) ∧
    ((s.feed n).reading = none → (s.slot n).pics = [] → exec (.feedLineRead t n e) s = .next (s.at t)) ∧
    (∀ c, (s.feed n).reading = some c → (s.feed n).line < (s.feedCond n c).size.2 →
      (t < s.lineTime n (s.feed n).line (s.feedCond n c) ∨ s.diePruned (intakeDie c) = true →
        exec (.feedLineRead t n e) s = .next (s.at t)) ∧
      (0 < (s.feed n).line → s.lineTime n (s.feed n).line (s.feedCond n c) ≤ t → s.diePruned (intakeDie c) = false →
        ∃ u, exec (.feedLineRead t n e) s = .next u ∧ (u.feed n).line = (s.feed n).line + 1 ∧
          (u.feed n).picture = (s.feed n).picture ∧ (u.feed n).pend = (s.feed n).pend ∧ (u.feed n).busy = (s.feed n).busy ∧
          (u.feed n).counts = (if e || !(s.at t).lineInStore c (s.feed n).picture (s.feed n).line (s.feedCond n c) then
            bumpAt (s.feed n).counts 2 1 else (s.feed n).counts) ∧
          (∀ j, j ≠ n → u.feed j = s.feed j) ∧
          (∀ b ∈ s.members n, s.linkHolds (8 + intakeDie c) (bedDie b) = false →
            ∃ x ∈ (u.bed b).strips, x.slot = n ∧ x.picture = (s.feed n).picture ∧ x.line = (s.feed n).line ∧
              x.usable = (s.twin n).partner.isEmpty) ∧
          (e = false → u = { s with now := t, str := u.str, emits := u.emits, links := u.links }))) ∧
    (∀ b, b < 288 →
      (let f := s.feed n
       let all := s.members n
       (b ∉ all ∨ b ∈ f.took ∨ (f.took = [] ∧ (f.pend = none ∨ f.busy ≠ [])) →
         exec (.pendingTake t n b) s = .next (s.at t)) ∧
       (b ∈ all → b ∉ f.took → f.took ≠ [] ∨ (f.pend.isSome = true ∧ f.busy = []) →
         ∃ u, exec (.pendingTake t n b) s = .next u ∧
           u.feed n = (if f.took = [] then
               { f with pend := none, toHold := false, busy := all, took := if all.all (fun m => decide (m = b)) then [] else [b] }
             else { f with took := if all.all (fun m => decide (m ∈ b :: f.took)) then [] else b :: f.took }) ∧
           (∀ j, j ≠ n → u.feed j = s.feed j) ∧ u = { s with now := t, str := u.str }))) ∧
    (∀ b l, b < 288 →
      (b ∉ s.members n ∨ (s.feed n).line ≤ l → exec (.lineAck t n b l) s = .next (s.at t)) ∧
      (b ∈ s.members n → l < (s.feed n).line →
        (let told := fun m => ((((s.feed n).acks.find? (fun a => decide (a.1 = m))).map (·.2)).getD 0)
         let has := fun m => if m = b then Nat.max (l + 1) (told b) else told m
         ∃ u, exec (.lineAck t n b l) s = .next u ∧ (u.feed n).standbyMark = (u.feed n).mark ∧
           (∃ m ∈ s.members n, (u.feed n).mark = Nat.max (s.feed n).mark (has m)) ∧
           (∀ m ∈ s.members n, (u.feed n).mark ≤ Nat.max (s.feed n).mark (has m)) ∧
           (∀ m ∈ s.members n, ∀ x ∈ (u.bed m).strips, x.slot = n → x.picture = (s.feed n).picture →
             x.line < (u.feed n).mark → x.usable = true) ∧
           (∀ m, m ∉ s.members n → u.bed m = s.bed m) ∧ (∀ j, j ≠ n → u.feed j = s.feed j) ∧
           u = { s with now := t, str := u.str })))

/-- From R113, R115, R116, R146, R226, R246 and R488: a cut order of an admitted stream to a channel that fits waits for
its boundary, of its CUT_AT time or of now; before admission it names the channel at once (log entry 28). One that is
refused is counted and changes no order. A boundary of a slot that is not admitted does nothing, nor one before the stream
may start; of an encode stream with no tiers and no cut waiting it begins the next picture: a start picture, a repeat
picture while the run bit is 0, or a hold picture in a restart; of a decode stream it begins the next slot. An outtake
channel whose stream is no admitted decode stream, on a PRUNED die, or with no slot in progress reads no row. Where the
spec leaves a value or an order open, the clauses follow the model's choice of log entries 28 and 91. -/
def Obligations.CutsAndBoundaries : Prop :=
  (∀ (s : State) (t a n c : Nat), a < 16 → n < 8192 → c < 2048 → takesAtOnce s t a → mayWrite s a 0x20 (0x2000 + n) 0x02 →
    (let why := if (s.slot n).role = 2 then 3
       else if s.cfgN 0x21 n 0x04 = 1 ∧ 2 ≤ (s.slot n).st ∧ s.cfgN 0x24 (0x3000 + c) 0x01 = 0xFFFF then 16
       else (s.setCfgN 0x20 (0x2000 + n) 0x03 8 0).cutRefusal n c
     let at_ := if s.cfgN 0x20 (0x2000 + n) 0x03 = 0 then t else s.cfgN 0x20 (0x2000 + n) 0x03
     ∃ u, exec (.cutTo t a n c) s = .next u ∧ u.answer.status = why ∧
       u.feed n = (let f := s.feed n
         if why ≠ 0 then { f with counts := bumpAt f.counts 4 1 }
         else if (s.slot n).st ≤ 1 then { f with source := some c }
         else { f with cuts := f.cuts ++ [{ orderTime := at_, tally := false, ch := c }] }) ∧
       (∀ j, j ≠ n → u.feed j = s.feed j) ∧ u.str.slots = s.str.slots)) ∧
  (∀ (s : State) (t n : Nat), n < 8192 →
    ((s.slot n).kind = 0 ∨ (s.slot n).st < 2 ∨ ((s.slot n).kind = 1 ∧ (s.slot n).role = 2) ∨
        ((s.slot n).st = 2 ∧ (s.at t).mayStart n = false) →
      exec (.pictureBoundary t n) s = .next (s.at t)) ∧
    ((s.slot n).kind = 1 → (s.slot n).role ≠ 2 → (s.slot n).st = 2 → (s.at t).mayStart n = true →
      s.cfg 0x22 n 0x01 = [] → (s.feed n).cuts = [] →
      ∃ u, exec (.pictureBoundary t n) s = .next u ∧ (u.slot n).st = 3 ∧ (u.slot n).pictures = (s.slot n).pictures + 1 ∧
        (u.slot n).pics.head?.map (fun p => (p.no, p.instant, p.start, p.rep)) = some ((s.slot n).pictures, t, true, false) ∧
        (∀ j, j ≠ n → u.slot j = s.slot j) ∧ (∀ j, u.bed j = s.bed j)) ∧
    ((s.slot n).kind = 1 → (s.slot n).role ≠ 2 → (s.slot n).st = 3 ∨ (s.slot n).st = 4 →
      s.cfg 0x22 n 0x01 = [] → (s.feed n).cuts = [] →
      ∃ u, exec (.pictureBoundary t n) s = .next u ∧
        (let rep := !(s.slot n).run && !(s.slot n).startNext
         (u.slot n).pictures = (s.slot n).pictures + 1 ∧ (u.slot n).st = (if rep then 4 else 3) ∧
         (u.slot n).pics.head?.map (fun p => (p.no, p.instant, p.start, p.rep)) =
           some ((s.slot n).pictures, t, (s.slot n).startNext, rep)) ∧
        (∀ j, j ≠ n → u.slot j = s.slot j) ∧ (∀ j, u.bed j = s.bed j)) ∧
    ((s.slot n).kind = 1 → (s.slot n).role ≠ 2 → (s.slot n).st = 5 → s.cfg 0x22 n 0x01 = [] → (s.feed n).cuts = [] →
      ∃ u, exec (.pictureBoundary t n) s = .next u ∧ (u.slot n).st = 5 ∧ (u.slot n).pictures = (s.slot n).pictures + 1 ∧
        (u.slot n).pics.head?.map (fun p => (p.no, p.instant, p.hold)) = some ((s.slot n).pictures, t, true) ∧
        (u.slot n).poc = ((s.slot n).poc + 1) % 65536) ∧
    ((s.slot n).kind = 2 → (s.slot n).st = 3 ∨ (s.slot n).st = 4 ∨ ((s.slot n).st = 2 ∧ (s.at t).mayStart n = true) →
      ∃ u, exec (.pictureBoundary t n) s = .next u ∧
        (u.slot n).pictures = (s.slot n).pictures + 1 ∧ (u.slot n).st = (if (s.slot n).run then 3 else 4) ∧
        (u.slot n).repeat_ = (!(s.slot n).run) ∧
        (u.slot n).pics.head?.map (fun p => (p.no, p.instant, p.rep)) = some ((s.slot n).pictures, t, !(s.slot n).run) ∧
        (∀ j, j ≠ n → u.slot j = s.slot j) ∧ (∀ j, u.bed j = s.bed j)) ∧
    ((s.slot n).kind = 2 → (s.slot n).st = 5 → ∃ u, exec (.pictureBoundary t n) s = .next u ∧
      u.slot n = { s.slot n with pictures := (s.slot n).pictures + 1 } ∧ (∀ j, j ≠ n → u.slot j = s.slot j))) ∧
  (∀ (s : State) (t o r : Nat), o < 4096 →
    (let n := s.cfgN 0x20 (0x1000 + o) 0x02
     let off := s.cfg 0x20 (0x1000 + o) 0x02 = [] ∨ (s.slot n).kind ≠ 2 ∨ (s.slot n).st < 3 ∨
       s.diePruned (outtakeDie o) = true ∨ s.rowsOfSlot n ≤ r
     (off ∨ s.slotRead n r t = none → exec (.outtakeRowRead t o r) s = .next (s.at t)) ∧
     (∀ k, ¬ off → s.slotRead n r t = some k →
       ∃ u, exec (.outtakeRowRead t o r) s = .next u ∧ u = (s.at t).slotRow o n k r ∧ (u.outtake o).slotNo = k ∧
         (∃ m ∈ u.emits, m = .row t o n r (s.rowSource o n r ((s.showOf n k).filter (fun x => x.2.2)))
           (rtpStamp (gridAt (s.slotRate n) k))
           (u.rowFills n r (s.rowSource o n r ((s.showOf n k).filter (fun x => x.2.2)))) (s.outDepth o n)))))

/-- From R122 to R127, R130 and R214, of a bed: its next word issues only while the bed runs and no word is in it; an
illegal one is a self-check of the cause ILLEGAL_WORD, and a legal one is held until it retires, with no progress made. A
word retires only while it is in a bed that runs and does not wait: its scalar and loop operations and its store writes are
done, then its PB point and what its units report, `v`; if the bed still runs, it leaves by its branch mode, waits for its
condition unless it stands, restores the capsule for TRAP_RETURN, or stops at a STACK error. A held trap is taken as the
word ends. Where the spec leaves a value or an order open, the clauses follow the model's choice of log entries 19, 41, 43,
44 and 122. -/
def Obligations.MicrocodeWords : Prop :=
  ∀ (s : State) (t b : Nat), b < 288 →
    ((s.bed b).runs = false ∨ (s.bed b).mic.inWord = true → exec (.wordIssue t b) s = .next (s.at t)) ∧
    ((s.bed b).runs = true → (s.bed b).mic.inWord = false → illegalWord (s.bed b).word = true →
      exec (.wordIssue t b) s = .next ((s.at t).selfCheck b .illegalWord)) ∧
    ((s.bed b).runs = true → (s.bed b).mic.inWord = false → illegalWord (s.bed b).word = false →
      ∃ u, exec (.wordIssue t b) s = .next u ∧ (u.bed b).mic = { (s.bed b).mic with inWord := true, progress := 0 } ∧
        (u.bed b).issued = (s.bed b).word ∧ (∀ k, k ≠ b → u.bed k = s.bed k) ∧
        (∀ k, (s.bed b).slotNow = some k → wEcOp (s.bed b).word = 2 → (s.slot k).kind = 2 → s.speaks b k = true →
          s.overPace k = true → (u.slot k).dec.overBudget = true) ∧
        (∀ k, (s.bed b).slotNow ≠ some k ∨ wEcOp (s.bed b).word ≠ 2 ∨ (s.slot k).kind ≠ 2 ∨ s.overPace k = false →
          u.slot k = s.slot k) ∧ u = { s with now := t, str := u.str }) ∧
    (∀ info, (s.bed b).runs = false ∨ (s.bed b).mic.inWord = false ∨ (s.bed b).mic.waiting = true →
      exec (.wordRetire t b info) s = .next (s.at t)) ∧
    (∀ info, (s.bed b).runs = true → (s.bed b).mic.inWord = true → (s.bed b).mic.waiting = false →
      (let old := (s.bed b).mic
       let w := (s.bed b).issued
       let done := (s.at t).modBed b (fun x => { x.portTakes with conds := info.conds, mic := (old.scalar w).loopOp old w,
                                                                  store := serveWrites x.store w info.writes })
       let v := (info.events.foldl (fun (s : State) e => s.bedReport b e)
         (if wPb w then done.pbPoint b info.boundary else done)).tick b
       let x := v.bed b
       let i := x.issued
       (wPb w = false → info.events = [] → x.mic = (old.scalar w).loopOp old w ∧ i = w ∧ x.conds = info.conds ∧
         (∀ k, k ≠ b → v.bed k = s.bed k) ∧ v.str.slots = s.str.slots ∧ v = { s with now := t, str := v.str }) ∧
       (x.runs = false → exec (.wordRetire t b info) s = .next v) ∧
       (x.runs = true → wWaitCond i ≠ 0 → v.waitReached b = false →
         ∃ u, exec (.wordRetire t b info) s = .next u ∧
           (u.bed b).mic = { x.mic with waiting := true, waited := 0 } ∧ (u.bed b).waitSince = t ∧
           (∀ k, k ≠ b → u.bed k = v.bed k) ∧ u = { v with str := u.str }) ∧
       (x.runs = true → wWaitCond i ≠ 0 → v.waitReached b = true →
         exec (.wordRetire t b info) s = .next (v.endWait b false)) ∧
       (x.runs = true → wWaitCond i = 0 → wMode i = 6 → x.trapHeld = false →
         ∃ u, exec (.wordRetire t b info) s = .next u ∧ (u.bed b).mic = capsuleMicro (storeBytes x.store capsuleAt 96) ∧
           (u.bed b).trapped = false ∧ (∀ k, k ≠ b → u.bed k = v.bed k) ∧ u = { v with str := u.str }) ∧
       (x.runs = true → wWaitCond i = 0 → wMode i ≠ 6 → x.mic.next old i (fun k => v.cond b k) = none →
         exec (.wordRetire t b info) s = .next ((v.modBed b (fun y => { y with stopped := true })).selfCheck b .stack)) ∧
       (∀ m, x.runs = true → wWaitCond i = 0 → wMode i ≠ 6 → x.mic.next old i (fun k => v.cond b k) = some m →
         (x.trapHeld = false ∨ x.trapped = true → ∃ u, exec (.wordRetire t b info) s = .next u ∧
           (u.bed b).mic = { m with inWord := false, waiting := false, waited := 0 } ∧
           (∀ k, k ≠ b → u.bed k = v.bed k) ∧ u = { v with str := u.str }) ∧
         (x.trapHeld = true → x.trapped = false → ∃ u, exec (.wordRetire t b info) s = .next u ∧
           (u.bed b).mic.upc = 0x3F00 ∧ (u.bed b).mic.space = false ∧ (u.bed b).trapped = true ∧ (u.bed b).trapHeld = false ∧
           (u.bed b).store = storePut x.store capsuleAt
             ({ m with inWord := false, waiting := false, waited := 0, progress := 0 } : Micro).capsule ∧
           (∀ k, k ≠ b → u.bed k = v.bed k) ∧ u = { v with str := u.str }))))

/-- From R127 to R129, R134 and R135, of a bed: conditions that leave a wait unfinished change only what the bed sees; a
wait whose condition reaches its level ends, with bit 0 of its target 0 and bits 1 to 3 as MULTI's selectors say. A timeout
before its class has elapsed ends nothing; one that has elapsed is counted, shown with its address and handled: a full
output FIFO discards its unit, the ROM raises TIMEOUT for a stream but for a decoder's bitstream wait, and the wait ends
with bit 0 set. A trap that the Shed requests through a0's window, or a gang member, is taken at once at ROM address 0x3F00
with the micro-state in the capsule, and is held while the handler runs or while a word that is not resumable is in the
bed. Nobody else's request does anything; the Shed's is kept while it restarts. Where the spec leaves a value or an order
open, the clauses follow the model's choice of log entries 44, 49 and 96. -/
def Obligations.WaitsAndTraps : Prop :=
  ∀ (s : State) (t b : Nat), b < 288 →
    (∀ conds,
      (let v := ((s.at t).modBed b (fun x => { x with conds := conds })).tick b
       let x := v.bed b
       let w := x.issued
       let multi := fun (sel : Nat → Nat) => (List.range 3).foldl (fun n k =>
         n ||| (if sel (k + 1) ≠ 0 && v.cond b (sel (k + 1)) then 2 ^ (k + 1) else 0)) (wNext w)
       let goes := fun (bit : Nat) =>
         { x.mic.jump (2 * ((if wMode w = 1 then multi (wCs w) else wNext w) / 2) + bit) (wNsp w) with
           inWord := false, waiting := false, waited := 0 }
       let elapsed := waitClocks (wWaitTo w) ≤ x.mic.waited + clocksBetween x.waitSince t
       (x.conds = conds ∧ x.mic = (s.bed b).mic ∧ w = (s.bed b).issued ∧ x.timeouts = (s.bed b).timeouts ∧
         (∀ k, k ≠ b → v.bed k = s.bed k) ∧ v.str.slots = s.str.slots ∧ v = { s with now := t, str := v.str }) ∧
       (x.runs = false ∨ x.mic.waiting = false ∨ v.waitReached b = false → exec (.waitMet t b conds) s = .next v) ∧
       (x.runs = true → x.mic.waiting = true → v.waitReached b = true →
         (x.trapHeld = false ∨ x.trapped = true → ∃ u, exec (.waitMet t b conds) s = .next u ∧
           (u.bed b).mic = goes 0 ∧ (∀ k, k ≠ b → u.bed k = s.bed k) ∧ u.str.slots = s.str.slots ∧
           u = { s with now := t, str := u.str }) ∧
         (x.trapHeld = true → x.trapped = false → ∃ u, exec (.waitMet t b conds) s = .next u ∧
           (u.bed b).trapped = true ∧ (u.bed b).mic.upc = 0x3F00 ∧
           (u.bed b).store = storePut x.store capsuleAt ({ goes 0 with progress := 0 } : Micro).capsule ∧
           (∀ k, k ≠ b → u.bed k = s.bed k) ∧ u = { s with now := t, str := u.str })) ∧
       (x.runs = false ∨ x.mic.waiting = false ∨ v.waitReached b = true ∨ ¬ elapsed →
         exec (.waitTimeout t b conds) s = .next v) ∧
       (x.runs = true → x.mic.waiting = true → v.waitReached b = false → elapsed →
         (let shown := fun (x : Bed) => { x with timeouts := inc64 x.timeouts, lastTimeout := (x.mic.upc, x.mic.space, wWaitTo w) }
          let y := ((v.modBed b shown).pulse b 0x85).raise (0x1000 + 8 * b + 2)
          let z := if wTpOp w = 3 ∧ wWaitCond w = 11 then
              (y.modBed b (fun x => { x with fifo := { x.fifo with write := x.unitStart } })).selfCheck b .fifoStall
            else match (if x.slotNow.isSome then x.slotNow else x.slots.head?) with
              | none => y
              | some k => if x.mic.space = true ∨ ((s.slot k).kind = 2 ∧ wWaitCond w = 10) then y else y.selfCheck b .timeout
          (y.bed b).timeouts = inc64 (s.bed b).timeouts ∧
          (y.bed b).lastTimeout = ((s.bed b).mic.upc, (s.bed b).mic.space, wWaitTo w) ∧
          ((z.bed b).runs = false → exec (.waitTimeout t b conds) s = .next z) ∧
          ((z.bed b).runs = true → exec (.waitTimeout t b conds) s = .next (z.endWait b true)) ∧
          (z = y → x.trapHeld = false ∨ x.trapped = true → ∃ u, exec (.waitTimeout t b conds) s = .next u ∧
            (u.bed b).mic = goes 1 ∧ (∀ k, k ≠ b → u.bed k = s.bed k) ∧ u.str.slots = s.str.slots))))) ∧
    (∀ a gang p, a < 16 →
      (let x := s.bed b
       let asked := if gang then 1 < (s.gangOf b).length else a = 0 ∧ s.serves 0 = true ∧ s.shed.restarting = false ∧
         s.waits 0 = false
       let stays := x.trapped = true ∨ (x.mic.inWord = true ∧ ¬ (resumable x.issued = true ∧ wTrapEn x.issued = true))
       (gang = true → (s.gangOf b).length ≤ 1 → exec (.trapReq t a b gang p) s = .next (s.at t)) ∧
       (gang = false → a ≠ 0 ∨ s.serves 0 = false → exec (.trapReq t a b gang p) s = .next (s.at t)) ∧
       (gang = false → a = 0 → s.serves 0 = true → s.shed.restarting = true ∨ s.waits 0 = true →
         ∃ u, exec (.trapReq t a b gang p) s = .next u ∧ u.str = s.str ∧ u.shed.held.length = s.shed.held.length + 1 ∧
           u = { s with now := t, shed := { s.shed with held := u.shed.held } }) ∧
       (asked → x.runs = false → exec (.trapReq t a b gang p) s = .next (s.at t)) ∧
       (asked → x.runs = true → stays → ∃ u, exec (.trapReq t a b gang p) s = .next u ∧
         (u.bed b).trapHeld = true ∧ (u.bed b).mic = x.mic ∧ (u.bed b).store = x.store ∧
         (∀ k, k ≠ b → u.bed k = s.bed k) ∧ u = { s with now := t, str := u.str }) ∧
       (asked → x.runs = true → ¬ stays → ∃ u, exec (.trapReq t a b gang p) s = .next u ∧
         (u.bed b).trapped = true ∧ (u.bed b).trapHeld = false ∧ (u.bed b).traps = inc64 x.traps ∧
         (u.bed b).mic = { x.mic with upc := 0x3F00, space := false, inWord := false, waiting := false, waited := 0 } ∧
         (u.bed b).store = storePut x.store capsuleAt
           ({ x.mic with waited := if x.mic.waiting then x.mic.waited + clocksBetween x.waitSince t else 0,
                         progress := if x.mic.inWord then p else 0 } : Micro).capsule ∧
         (∀ k, k ≠ b → u.bed k = s.bed k) ∧ u = { s with now := t, str := u.str })))

/-- From R137, R138, R139 and R466: a bed that is not assigned, not warm and has been idle for SLEEP_DELAY begins to sleep;
a sleeping bed goes OFF, and to WAKING when a wake waited; an OFF bed whose supply has not failed wakes, and one that
sleeps remembers the request; an IDLE bed sleeps when asked, and one that runs, is tested or is PRUNED refuses and counts
it; any other bed changes nothing. A woken bed is ON at its reset micro-state, IDLE, or RUNNING when it was assigned
meanwhile. Only a0's window asks, and only while it is served. Where the spec leaves a value or an order open, the clauses
follow the model's choice of log entry 48. -/
def Obligations.BedPower : Prop :=
  ∀ (s : State) (t b : Nat), b < 288 →
    ((s.bed b).st ≠ .idle ∨ (s.bed b).slots ≠ [] ∨ (s.bed b).warm = true ∨
      t < (s.bed b).idleSince + 1000 * s.cfgN 0x60 0 0x06 → exec (.sleepDelayExpiry t b) s = .next (s.at t)) ∧
    ((s.bed b).st = .idle → (s.bed b).slots = [] → (s.bed b).warm = false →
      (s.bed b).idleSince + 1000 * s.cfgN 0x60 0 0x06 ≤ t →
      exec (.sleepDelayExpiry t b) s = .next ((s.at t).setBed b .sleeping)) ∧
    ((s.bed b).st = .sleeping → (s.bed b).wakeWaits = false →
      ∃ u, exec (.sleepDone t b) s = .next u ∧ (u.bed b).st = .off ∧ (u.power b).st = 0) ∧
    ((s.bed b).st = .sleeping → (s.bed b).wakeWaits = true →
      ∃ u, exec (.sleepDone t b) s = .next u ∧ (u.bed b).st = .waking ∧ (u.power b).st = 1 ∧ (u.bed b).wakeWaits = false) ∧
    ((s.bed b).st ≠ .sleeping → exec (.sleepDone t b) s = .next (s.at t)) ∧
    (s.serves 0 = true →
      ((s.bed b).st = .off → (s.power b).st ≠ 4 →
        exec (.wake t 0 b) s = .next (((s.at t).setBed b .waking).setPower b 1)) ∧
      ((s.bed b).st = .sleeping → ∃ u, exec (.wake t 0 b) s = .next u ∧
        (u.bed b) = { s.bed b with wakeWaits := true } ∧ (∀ k, k ≠ b → u.bed k = s.bed k) ∧
        u = { s with now := t, str := u.str }) ∧
      (((s.bed b).st = .off ∧ (s.power b).st = 4) ∨ ((s.bed b).st ≠ .off ∧ (s.bed b).st ≠ .sleeping) →
        exec (.wake t 0 b) s = .next (s.at t)) ∧
      ((s.bed b).st = .idle → exec (.sleep t 0 b) s = .next ((s.at t).setBed b .sleeping)) ∧
      ((s.bed b).st = .running ∨ (s.bed b).st = .soilTest ∨ (s.bed b).st = .pruned → ∃ u, exec (.sleep t 0 b) s = .next u ∧
        (u.bed b) = { s.bed b with sleepRefused := inc64 (s.bed b).sleepRefused } ∧
        (∀ k, k ≠ b → u.bed k = s.bed k) ∧ u = { s with now := t, str := u.str }) ∧
      ((s.bed b).st = .off ∨ (s.bed b).st = .waking ∨ (s.bed b).st = .sleeping →
        exec (.sleep t 0 b) s = .next (s.at t))) ∧
    ((s.bed b).st = .waking →
      ∃ u, exec (.wakeDone t b) s = .next u ∧ (u.bed b).st = (if (s.bed b).slots = [] then .idle else .running) ∧
        (u.power b).st = 3 ∧ (u.bed b).mic = {} ∧ (u.bed b).store = []) ∧
    ((s.bed b).st ≠ .waking → exec (.wakeDone t b) s = .next (s.at t)) ∧
    (∀ a, a < 16 → a ≠ 0 ∨ s.serves 0 = false →
      exec (.wake t a b) s = .next (s.at t) ∧ exec (.sleep t a b) s = .next (s.at t))

/-- From R132, R133, R139 and R146: the writes of family 60 and the run bit that the Almanac takes at once, by an allotment
that may write the entry. POWER 1 wakes a bed and 2 puts it to sleep, as BED_CONTROL does. A patch set is refused as BUSY
while the last one is standby; else one whose status is OK is the newest accepted set, which each powered bed that no
stream uses has at once and every other has standby, and one of another status changes no bed. RUN gives each stream of the
bed that the allotment owns its run bit, and is refused as RIGHTS where it owns none of them. Where the spec leaves a value
or an order open, the clauses follow the model's choice of log entry 45. -/
def Obligations.BedOrders : Prop :=
  ∀ (s : State) (t a b : Nat), a < 16 → b < 288 → takesAtOnce s t a →
    (mayWrite s a 0x60 (0x1000 + b) 0x03 →
      (∃ u, exec (.powerReq t a b 1) s = .next u ∧ accepted
        (if (s.bed b).st = .off ∧ (s.power b).st ≠ 4 then ((s.at t).setBed b .waking).setPower b 1
         else if (s.bed b).st = .sleeping then (s.at t).modBed b (fun x => { x with wakeWaits := true }) else s.at t) u t) ∧
      (∃ u, exec (.powerReq t a b 2) s = .next u ∧ accepted
        (if (s.bed b).st = .idle then (s.at t).setBed b .sleeping
         else if (s.bed b).st = .running ∨ (s.bed b).st = .soilTest ∨ (s.bed b).st = .pruned then
           (s.at t).modBed b (fun x => { x with sleepRefused := inc64 x.sleepRefused }) else s.at t) u t)) ∧
    (∀ set, mayWrite s a 0x60 0 0x02 →
      (s.str.patchStandby ≠ 0 → ∃ u, exec (.patchLoad t a set) s = .next u ∧ u.answer.status = 5 ∧ u.str.loadResult = 4 ∧
        u.str.beds = s.str.beds ∧ u.str.patch = s.str.patch) ∧
      (s.str.patchStandby = 0 → ∃ u, exec (.patchLoad t a set) s = .next u ∧ u.answer.status = patchStatus set ∧
        (patchStatus set = 0 → u.str.patch = patchOf set ∧ u.str.patchAt = t ∧ u.str.loadResult = 0 ∧
          (∀ e ∈ s.str.beds, e.2 = s.bed e.1 → e.2.st = .idle ∨ e.2.st = .running →
            if e.2.slots = [] then (u.bed e.1).patch = patchOf set ∧ (u.bed e.1).standby = none
            else (u.bed e.1).standby = some (patchOf set) ∧ (u.bed e.1).patch = e.2.patch) ∧
          accepted ((s.at t).loadPatch set).2 u t) ∧
        (patchStatus set ≠ 0 → u.str.patch = s.str.patch ∧ u.str.beds = s.str.beds ∧ 0 < u.str.loadResult))) ∧
    (∀ c on, c < 16 → mayWrite s a 0x04 c 0x0D →
      ((s.bed b).slots.any (fun n => decide ((s.slot n).owner = c)) = true →
        ∃ u, exec (.run t a c b on) s = .next u ∧
          (∀ k, u.slot k = if k ∈ (s.bed b).slots ∧ (s.slot k).owner = c then { s.slot k with run := on } else s.slot k) ∧
          (∀ k, k ≠ c → u.allot k = s.allot k) ∧ accepted { s.at t with str := u.str, allots := u.allots } u t) ∧
      ((s.bed b).slots.any (fun n => decide ((s.slot n).owner = c)) = false →
        ∃ u, exec (.run t a c b on) s = .next u ∧ u.answer.status = 2 ∧ u.str = s.str ∧ u.allots = s.allots))

/-- From R182, R183 and R330, of ADMIT of a stream slot of its own family, written by an allotment that may write it: an
ADMIT of 1 that a condition of admission refuses, that exceeds the allotment's budget or that finds no placement is
answered with the status of that condition and changes nothing; any other makes the stream and its tiers ADMITTING on the
beds of that placement; an ADMIT of 2 of a CONFIGURED stream that is no tier frees its slot, of an admitted one leaves it
and its tiers CONFIGURED with neither beds nor regions, and of a tier or a FREE slot is refused as STATE. Where the spec
leaves a value or an order open, the clauses follow the model's choice of log entries 63, 65 and 143. -/
def Obligations.Admissions : Prop :=
  ∀ (s : State) (t a fam n : Nat), a < 16 → n < 8192 → takesAtOnce s t a →
    (fam = 0x21 ∧ (s.slot n).kind = 1 ∨ fam = 0x23 ∧ (s.slot n).kind = 2) → mayWrite s a fam n 0x03 →
    (∀ c, (s.at t).admitCheck n = c → c ≠ 0 → exec (.admitSlot t a fam n 1) s = .next ((s.at t).say c [] 0)) ∧
    ((s.at t).admitCheck n = 0 →
      s.cfgN 0x04 (s.slot n).owner 0x05 * 1000 * 4004 < s.budgetUsed (s.slot n).owner + s.costOf n * s.sidesOf n →
      exec (.admitSlot t a fam n 1) s = .next ((s.at t).say 12 [] 0)) ∧
    (∀ c lead partner, (s.at t).admitCheck n = 0 → (s.at t).place n = (c, lead, partner) → c ≠ 0 →
      s.budgetUsed (s.slot n).owner + s.costOf n * s.sidesOf n ≤ s.cfgN 0x04 (s.slot n).owner 0x05 * 1000 * 4004 →
      exec (.admitSlot t a fam n 1) s = .next ((s.at t).say c [] 0)) ∧
    (∀ lead partner, (s.at t).admitCheck n = 0 → (s.at t).place n = (0, lead, partner) →
      s.budgetUsed (s.slot n).owner + s.costOf n * s.sidesOf n ≤ s.cfgN 0x04 (s.slot n).owner 0x05 * 1000 * 4004 →
      ∃ u, exec (.admitSlot t a fam n 1) s = .next u ∧ u.answer = { status := 0, effectAt := t, data := [] } ∧
        (∀ m ∈ s.ladder n, (u.slot m).st = 2 ∧ (u.slot m).startAt = none ∧ (u.twin m).lead = lead ∧
          (u.twin m).partner = partner ∧ (∀ b ∈ lead ++ partner, m ∈ (u.bed b).slots)) ∧ u.rings = s.rings ∧ u.mem.exchange = s.mem.exchange) ∧
    ((s.slot n).st = 1 → (s.slot n).role ≠ 2 → ∃ u, exec (.admitSlot t a fam n 2) s = .next u ∧
      u.answer = { status := 0, effectAt := t, data := [] } ∧
      (u.slot n).st = 0 ∧ (u.slot n).kind = 0 ∧ (u.slot n).owner = 0 ∧ u.str.beds = s.str.beds ∧
      u.rings = s.rings ∧ u.mem.exchange = s.mem.exchange) ∧
    ((s.slot n).role = 2 ∨ (s.slot n).st = 0 → exec (.admitSlot t a fam n 2) s = .next ((s.at t).say 3 [] 0)) ∧
    (2 ≤ (s.slot n).st → (s.slot n).role ≠ 2 → ∃ u, exec (.admitSlot t a fam n 2) s = .next u ∧
      u.answer = { status := 0, effectAt := t, data := [] } ∧
      (∀ m ∈ s.ladder n, (u.slot m).st = 1 ∧ (u.slot m).regions = [] ∧ (u.slot m).owner = (s.slot m).owner ∧
        (u.twin m).lead = [] ∧ (u.twin m).partner = [] ∧ (u.twin m).st = .none) ∧ u.rings = s.rings ∧ u.mem.exchange = s.mem.exchange)

/-- From R33, R199 and R331: a placed stream whose beds all run may start its output, with its tiers, and its twin is WHOLE
when it has two members; while a bed does not run, and for a slot that is not placed, has started or is a tier, nothing
changes. A group's new period takes effect at its boundary and not before. A grant of free slots gives them their owner;
one that names a slot in use is refused as STATE, one past the last slot as FORMAT. Where the spec leaves a value or an
order open, the clauses follow the model's choice of log entry 143. -/
def Obligations.StreamTimes : Prop :=
  ∀ (s : State) (t : Nat),
    (∀ n, n < 8192 →
      ((s.slot n).st ≠ 2 ∨ (s.slot n).startAt.isSome = true ∨ (s.slot n).role = 2 ∨ (∃ b ∈ s.members n, (s.bed b).st ≠ .running) →
        exec (.streamAdmitted t n) s = .next (s.at t)) ∧
      ((s.slot n).st = 2 → (s.slot n).startAt = none → (s.slot n).role ≠ 2 → (∀ b ∈ s.members n, (s.bed b).st = .running) →
        ∃ u, exec (.streamAdmitted t n) s = .next u ∧
        (∀ k, u.slot k = if k ∈ s.ladder n then { s.slot k with startAt := some t } else s.slot k) ∧
        (∀ m ∈ s.ladder n, (u.twin m).st = (if (s.twin m).partner = [] then (s.twin m).st else .whole)) ∧
        (∀ k, k ∉ s.ladder n → u.twin k = s.twin k) ∧ u.str.beds = s.str.beds ∧
        u = { s with now := t, str := u.str, irq := u.irq, allots := u.allots, emits := u.emits })) ∧
    (∀ g, g < 256 →
      ((s.group g).pend = none → exec (.periodChange t g) s = .next (s.at t)) ∧
      (∀ v b, (s.group g).pend = some (v, b) →
        (t < b → exec (.periodChange t g) s = .next (s.at t)) ∧
        (b ≤ t → ∃ u, exec (.periodChange t g) s = .next u ∧
          u.cfgN 0x22 (0x2000 + g) 0x04 = v % 65536 ∧ u.cfgN 0x22 (0x2000 + g) 0x05 = b % 18446744073709551616 ∧
          u.group g = { s.group g with pend := none, periodAt := b } ∧ (∀ k, k ≠ g → u.group k = s.group k) ∧
          u = { s with now := t, str := u.str, alm := u.alm }))) ∧
    (∀ a c first count, a < 16 → c < 16 → first < 65536 → count < 65536 → takesAtOnce s t a → mayWrite s a 0x04 c 0x07 →
      (let n := Nat.max 1 count
       (8192 < first + n → exec (.slotGrant t a c first count) s = .next ((s.at t).say 4 [] 0)) ∧
       (first + n ≤ 8192 → (∃ k, first ≤ k ∧ k < first + n ∧ (s.slot k).st ≠ 0) →
         exec (.slotGrant t a c first count) s = .next ((s.at t).say 3 [] 0)) ∧
       (first + n ≤ 8192 → (∀ k, first ≤ k → k < first + n → (s.slot k).st = 0) →
         ∃ u, exec (.slotGrant t a c first count) s = .next u ∧ u.answer = { status := 0, effectAt := t, data := [] } ∧
           (∀ k, u.slot k = if first ≤ k ∧ k < first + n then { s.slot k with owner := c } else s.slot k) ∧
           u.str.beds = s.str.beds)))

/-- From R240, R243, R244, R248 and R256, of the copy of a release unit that comes to a die: it waits for the tiles to its
left and for a link that moves a lane; a flag of its bed's self-checks goes with it. Where the die has no Sieve instance
for the stream nothing more happens; at one, a copy that failed its CRC is counted and opens nothing, and any other is a
vote, a late copy, a scion's, or a member's. The first good copy of a twin of two opens its unit; the second closes it: two
that match and are not flagged are released, one of them flagged asks for that member's prune, both are a double fault, and
a difference of a WHOLE twin is a contest. A hold window that has passed releases the copy that waits and asks for the
prune of the late member; before that, or with no unit open, nothing changes. Where the spec leaves a value or an order
open, the clauses follow the model's choice of log entry 67. -/
def Obligations.SieveCopies : Prop :=
  ∀ (s : State) (t die : Nat) (c : UnitCopy), die < 2 → c.slot < 8192 → c.bed < 288 →
    (let n := c.slot
     let w := s.twin n
     let goes := fun u => exec (.sieveCopyArrive t die c) s = .next u
     let x := { c with flagged := c.flagged || decide ((n, c.picture, c.row, c.tile) ∈ (s.bed c.bed).flagged) }
     let sent := (s.at t).emit (.copy t die (unitHeader x))
     let read := fun (y : Bed) => { y with fifo := (if y.fifo.mark.isNone then y.fifo.setMark else y.fifo).readOn (unitBytes x) }
     let v := if (s.instances n).head? = some die then sent.modBed c.bed read else sent
     let comes := s.tileWaits c = false ∧ s.linkHolds (bedDie c.bed) (8 + die) = false ∧ s.instanceOn die n = true
     let good := comes ∧ c.crcOk = true ∧ c.retrial = false ∧ (die, c.bed) ∉ w.requested
     let member := good ∧ (c.bed ∉ w.scion ∨ w.retrial = true) ∧ c.bed ∈ w.lead ++ w.partner
     let two := member ∧ w.st ≠ .holding ∧ w.partner ≠ []
     (s.tileWaits c = true → goes (s.at t)) ∧
     (s.tileWaits c = false → s.linkHolds (bedDie c.bed) (8 + die) = true →
       ∃ u, goes u ∧ u = { s with now := t, links := u.links }) ∧
     (s.tileWaits c = false → s.linkHolds (bedDie c.bed) (8 + die) = false → s.instanceOn die n = false → goes sent) ∧
     (comes → c.crcOk = false → ∃ u, goes u ∧ u.twin n = { w with resends := inc64 w.resends } ∧ u.str.slots = s.str.slots ∧
       (∀ k, k ≠ n → u.twin k = s.twin k) ∧ (∀ k, k ≠ c.bed → u.bed k = s.bed k)) ∧
     (comes → c.crcOk = true → c.retrial = true → goes (v.vote x)) ∧
     (comes → c.crcOk = true → c.retrial = false → (die, c.bed) ∈ w.requested →
       goes (v.modTwin n (fun w => { w with lateCopies := inc64 w.lateCopies }))) ∧
     (good → c.bed ∈ w.scion → w.retrial = false → goes (v.scionCopy die x)) ∧
     (good → c.bed ∉ w.scion ∨ w.retrial = true → c.bed ∉ w.lead ++ w.partner → goes v) ∧
     (member → w.st = .holding → goes (if (s.instances n).getLast? = some die then v.portFree x [c.bed] else v)) ∧
     (member → w.st ≠ .holding → w.partner = [] → goes (if w.isDecided die c then v else v.singleCopy die x)) ∧
     (two → w.openCopy die c = none →
       (w.isDecided die c = true → goes v) ∧
       (w.isDecided die c = false → w.givenUp die c.bed = true →
         goes (if x.flagged then v.doubleFault n else v.release_ die x [c.bed])) ∧
       (w.isDecided die c = false → w.givenUp die c.bed = false → w.excused.isSome = true → w.isExcused c.bed = false →
         x.flagged = false → goes ((v.release_ die x [c.bed]).openUnit die x true)) ∧
       (w.isDecided die c = false → w.givenUp die c.bed = false →
         w.excused = none ∨ w.isExcused c.bed = true ∨ x.flagged = true → ∃ u, goes u ∧
         u.twin n = { w with open_ := w.open_ ++ [{ die := die, copy := x, t := t, released := false }] } ∧
         (∀ k, k ≠ n → u.twin k = s.twin k) ∧ (∀ k, k ≠ c.bed → u.bed k = s.bed k) ∧ u.str.slots = s.str.slots ∧
         u = { s with now := t, str := u.str, emits := u.emits })) ∧
     (∀ o, two → w.openCopy die c = some o →
       (let a := o.copy
        let shut := v.closeUnit die x
        let y := if (w.isExcused a.bed || w.isExcused c.bed) && decide (t ≤ o.t + 12000) then shut.setExcused n none else shut
        let free := fun (z : UnitCopy) => if o.released then y.portFree z [c.bed] else y.release_ die z [a.bed, c.bed]
        (a.bed = c.bed → goes v) ∧
        (a.bed ≠ c.bed → a.flagged = true → x.flagged = true → goes (y.doubleFault n)) ∧
        (a.bed ≠ c.bed → a.flagged = true → x.flagged = false → goes ((y.release_ die x [a.bed, c.bed]).askPrune die n a.bed)) ∧
        (a.bed ≠ c.bed → a.flagged = false → x.flagged = true → goes ((free a).askPrune die n c.bed)) ∧
        (a.bed ≠ c.bed → a.flagged = false → x.flagged = false →
          (copiesMatch a c = true → w.contestAt ≠ some c.picture ∨ c.row ≠ 0 ∨ c.tile ≠ 0 → goes (free a)) ∧
          (copiesMatch a c = false ∨ (w.contestAt = some c.picture ∧ c.row = 0 ∧ c.tile = 0) → w.st = .whole →
            ∃ u, goes u ∧ (u.twin n).st = .contested ∧ (u.twin n).contest.isSome = true ∧
              (∀ k, k ≠ n → u.twin k = s.twin k))))) ∧
     (∀ p r i,
       (let o? := w.open_.find? (fun o => decide ((o.die, o.copy.picture, o.copy.row, o.copy.tile) = (die, p, r, i)))
        (o? = none → exec (.sieveWindowClose t die n p r i) s = .next (s.at t)) ∧
        (∀ o, o? = some o →
          (o.released = true ∨ t < o.t + 12000 ∨ o.copy.bed ∈ w.scion ∨ w.partner = [] →
            exec (.sieveWindowClose t die n p r i) s = .next (s.at t)) ∧
          (o.released = false → o.t + 12000 ≤ t → o.copy.bed ∉ w.scion → w.partner ≠ [] →
            (o.copy.flagged = true → exec (.sieveWindowClose t die n p r i) s = .next ((s.at t).doubleFault n)) ∧
            (o.copy.flagged = false →
              (let y := if s.firstDecision o.copy then (s.at t).countTwin n 3 else s.at t
               let other := if o.copy.bed ∈ w.lead then w.partner else w.lead
               exec (.sieveWindowClose t die n p r i) s =
                 .next (((y.closeUnit die o.copy).release_ die o.copy [o.copy.bed]).askPrune die n (other.headD 0)))))))))

/-- From R245, R246, R248 and R259, of the twin of a slot: the Shed's choice of a retrial bed, in another power domain
where it can, else on another die; a difference of the two capsules is a double fault. A vote that does not come within
three picture periods prunes the partner. A double fault's stream restarts with a start picture, its tiers with it, once
its beds run, or is placed again when it has none. A member excused for more than 2 ms is pruned, and an exposure of more
than three picture periods is marked. Before its time, and without its cause, each of them changes nothing. Where the spec
leaves a value or an order open, the clauses follow the model's choice of log entry 67. -/
def Obligations.Contests : Prop :=
  ∀ (s : State) (t n : Nat), n < 8192 →
    (let w := s.twin n
     let used := w.lead ++ w.partner
     let best := fun (unit : Nat → Nat) => s.bestSpare (s.bed (w.lead.headD 0)).patch.version
       ((List.range 288).filter (fun b => used.all (fun x => decide (unit x ≠ unit b))))
     let chosen := (best bedDomain).orElse (fun _ => best bedDie)
     (w.contest = none ∨ w.st ≠ .contested → ∀ e, exec (.retrialChoice t n e) s = .next (s.at t)) ∧
     (w.contest.isSome = true → w.st = .contested →
       exec (.retrialChoice t n false) s = .next ((s.at t).doubleFault n) ∧
       (s.shedLive = false ∨ w.scion ≠ [] ∨ chosen = none → exec (.retrialChoice t n true) s = .next (s.at t)) ∧
       (∀ b, s.shedLive = true → w.scion = [] → chosen = some b →
         ∃ u, exec (.retrialChoice t n true) s = .next u ∧ u.twin n = { w with scion := [b], retrial := true } ∧
           n ∈ (u.bed b).slots ∧ (∀ k, k ≠ n → u.twin k = s.twin k))) ∧
     (w.contest = none → exec (.voteTimeout t n) s = .next (s.at t)) ∧
     (∀ c, w.contest = some c →
       (t < c.t + 3 * s.slotPeriod n → exec (.voteTimeout t n) s = .next (s.at t)) ∧
       (c.t + 3 * s.slotPeriod n ≤ t → exec (.voteTimeout t n) s = .next ((s.at t).pruneGang (w.partner.headD 0)))) ∧
     ((s.slot n).st ≠ 5 ∨ t < w.restartAt ∨ (s.slot n).role = 2 ∨ (w.lead = [] ∧ s.shedLive = false) ∨
         (w.lead ≠ [] ∧ ∃ b ∈ used, (s.bed b).st ≠ .running) →
       exec (.doubleFaultRestart t n) s = .next (s.at t)) ∧
     ((s.slot n).st = 5 → (s.slot n).role ≠ 2 → w.restartAt ≤ t →
       (w.lead = [] → s.shedLive = true → exec (.doubleFaultRestart t n) s = .next ((s.at t).placeAgain n)) ∧
       (w.lead ≠ [] → (∀ b ∈ used, (s.bed b).st = .running) → ∃ u, exec (.doubleFaultRestart t n) s = .next u ∧
         (∀ m ∈ s.ladder n, (u.slot m).st = 3 ∧ (u.slot m).startNext = true ∧ (u.slot m).dec.noSync = true ∧
           (u.twin m).lead = (s.twin m).lead ∧ (u.twin m).partner = (s.twin m).partner ∧
           (u.twin m).st = (if (s.twin m).partner = [] then .single else .whole) ∧ (u.twin m).holdPicture = none) ∧
         (∀ k, k ∉ s.ladder n → u.slot k = s.slot k ∧ u.twin k = s.twin k))) ∧
     (w.excused = none → exec (.excuseTimeout t n) s = .next (s.at t)) ∧
     (∀ b, w.excused = some b →
       (t ≤ w.excusedAt + 2000000 → exec (.excuseTimeout t n) s = .next (s.at t)) ∧
       (w.excusedAt + 2000000 < t → exec (.excuseTimeout t n) s = .next ((s.at t).pruneGang b))) ∧
     (w.exposed = false ∨ w.exposureOver = true ∨ t < w.exposedSince + 3 * s.slotPeriod n →
       exec (.exposureLimit t n) s = .next (s.at t)) ∧
     (w.exposed = true → w.exposureOver = false → w.exposedSince + 3 * s.slotPeriod n ≤ t →
       ∃ u, exec (.exposureLimit t n) s = .next u ∧
         (u.twin n).exposureOver = true ∧ (u.twin n).exposed = true ∧ (u.twin n).st = w.st ∧
         (∀ k, k ≠ n → u.twin k = s.twin k) ∧ u.str.slots = s.str.slots ∧ u = { s with now := t, str := u.str }))

/-- From R242 and R253 to R257, of a stream and its tiers: the Shed chooses the best side of spares for a stream on one
member, on another die than the lost one where it can, which is its scion; the end of the transplant sets the cutting
boundary, or the graft is abandoned when a read failed; at the cutting boundary the twin is on PROBATION; at the end of a
good probation the scion is the partner of a WHOLE twin, and after a bad one it is given back and counted. A comparison of
cuttings that is due counts a difference of a part that is not live, and one of a live part contests the next picture. A
tier, and a twin in another state or before its time, changes nothing. Where the spec leaves a value or an order open, the
clauses follow the model's choice of log entry 66. -/
def Obligations.Grafts : Prop :=
  ∀ (s : State) (t n : Nat), n < 8192 →
    (let w := s.twin n
     let sides := s.scionSides n (Nat.max 1 (s.gangSize n)) (s.bed (w.lead.headD 0)).patch.version (s.regionBytes n)
     let away := sides.filter (fun y => decide (some (bedDie (y.2.headD 0)) ≠ w.lostDie))
     let best := bestSide (if away.isEmpty then sides else away)
     let no := fun m => (((s.slot m).pics.find? (fun p => decide (p.instant = w.cuttingAt))).map (·.no)).getD (s.slot m).codedNo
     let due := if (s.slot n).kind = 2 then (s.slot n).pictures % 64 = 0
       else s.cfgN 0x24 0x2000 0x04 ≠ 0 ∧ s.cfgN 0x24 0x2000 0x04 ≤ w.phase0s
     (s.shedLive = false ∨ w.st ≠ .single ∨ (s.slot n).role = 2 ∨ w.scion ≠ [] ∨ w.lead = [] ∨
         s.cfgN 0x24 0x2000 0x03 ≤ w.tries ∨ best = none →
       exec (.scionChoice t n) s = .next (s.at t)) ∧
     (∀ side, s.shedLive = true → w.st = .single → (s.slot n).role ≠ 2 → w.scion = [] → w.lead ≠ [] →
       w.tries < s.cfgN 0x24 0x2000 0x03 → best = some side →
       ∃ u, exec (.scionChoice t n) s = .next u ∧
         (∀ m ∈ s.ladder n, (u.twin m).scion = side ∧ (u.twin m).lead = (s.twin m).lead ∧ (u.twin m).retrial = false ∧
           (∀ b ∈ side, m ∈ (u.bed b).slots))) ∧
     (w.st ≠ .grafting ∨ (s.slot n).role = 2 ∨ w.cuttingAt ≠ 0 → ∀ bad, exec (.transplantEnd t n bad) s = .next (s.at t)) ∧
     (w.st = .grafting → (s.slot n).role ≠ 2 → w.cuttingAt = 0 →
       (t < w.transplantAt → exec (.transplantEnd t n false) s = .next (s.at t)) ∧
       (w.transplantAt ≤ t → ∃ u, exec (.transplantEnd t n false) s = .next u ∧
         (let b := (s.at t).nextBoundary n
          let whole := fun m => some ((s.slot m).pots, (s.slot m).analysis.pot)
          ∀ m, u.twin m =
            if m ∈ s.ladder n then { s.twin m with cuttingAt := b, transplanted := whole m } else s.twin m) ∧
         u.str.slots = s.str.slots ∧ u = { s with now := t, str := u.str }) ∧
       exec (.transplantEnd t n true) s =
         .next (((s.at t).transplantEnd n true).readError (bedDie (w.lead.headD 0)) 0x0200)) ∧
     (w.st ≠ .grafting ∨ (s.slot n).role = 2 ∨ w.cuttingAt = 0 ∨ t < w.cuttingAt →
       exec (.cuttingBoundary t n) s = .next (s.at t)) ∧
     (w.st = .grafting → (s.slot n).role ≠ 2 → w.cuttingAt ≠ 0 → w.cuttingAt ≤ t →
       ∃ u, exec (.cuttingBoundary t n) s = .next u ∧
         (∀ m ∈ s.ladder n, (u.twin m).st = .probation ∧ (u.twin m).probation = some (no m) ∧
           (u.twin m).probationBad = false ∧ (u.twin m).loaded.isSome = true) ∧
         (∀ k, k ∉ s.ladder n → u.twin k = s.twin k)) ∧
     (w.st ≠ .probation ∨ (s.slot n).role = 2 → exec (.probationEnd t n) s = .next (s.at t)) ∧
     (w.st = .probation → (s.slot n).role ≠ 2 →
       (∀ m ∈ s.ladder n, (s.twin m).probationBad = false ∧ (s.twin m).unmatched = false) →
       ∃ u, exec (.probationEnd t n) s = .next u ∧
         (∀ m ∈ s.ladder n, (u.twin m).st = .whole ∧ (u.twin m).lead = (s.twin m).lead ∧ (u.twin m).scion = [] ∧
           (u.twin m).tries = 0 ∧ (u.twin m).exposed = false ∧
           ((s.ladder n).Nodup → (u.twin m).partner = (s.twin m).scion ∧
             (u.twin m).counts = bumpAt (s.twin m).counts 1 1)) ∧
         (∀ k, k ∉ s.ladder n → u.twin k = s.twin k) ∧ u.str.slots = s.str.slots) ∧
     (w.st = .probation → (s.slot n).role ≠ 2 →
       (∃ m ∈ s.ladder n, (s.twin m).probationBad = true ∨ (s.twin m).unmatched = true) →
       ∃ u, exec (.probationEnd t n) s = .next u ∧
         (∀ m ∈ s.ladder n, (u.twin m).st = .single ∧ (u.twin m).lead = (s.twin m).lead ∧ (u.twin m).scion = [] ∧
           ((s.ladder n).Nodup → (u.twin m).tries = (s.twin m).tries + 1 ∧
             (u.twin m).counts = bumpAt (s.twin m).counts 2 1))) ∧
     (∀ live other,
       (s.shedLive = false ∨ ¬ due ∨ w.partner = [] → exec (.cuttingCompare t n live other) s = .next (s.at t)) ∧
       (s.shedLive = true → due → w.partner ≠ [] → ∃ u, exec (.cuttingCompare t n live other) s = .next u ∧
         u.twin n = { w with phase0s := 0, counts := if other then bumpAt w.counts 6 1 else w.counts,
                             contestAt := if live then some (s.slot n).pictures else w.contestAt } ∧
         (∀ k, k ≠ n → u.twin k = s.twin k) ∧ u = { s with now := t, str := u.str })))

/-- From R234, R252 and R263: SPARE_POOL in its range is stored and the pool brought to its size; PEER of a channel is
stored when the two channels meet its conditions, and refused as MISMATCH when they do not; a unit reset of a bed that is
not PRUNED, that a stream names, that failed two soil tests or whose die or stack is PRUNED changes nothing, and one of any
other bed no source of which is LIVE returns it, owed a soil test. Where the spec leaves a value or an order open, the
clauses follow the model's choice of log entries 66, 68 and 143. -/
def Obligations.SparesAndPeers : Prop :=
  (∀ (s : State) (t a v : Nat), a < 16 → takesAtOnce s t a → 16 ≤ v → v ≤ 64 → mayWrite s a 0x24 0x2000 0x01 →
    ∃ u, exec (.sparePool t a v) s = .next u ∧ accepted ((s.at t).setCfg 0x24 0x2000 0x01 (natLe 2 v)).sizePool u t) ∧
  (∀ (s : State) (t a c p : Nat), a < 16 → c < 2048 → p < 65536 → takesAtOnce s t a → mayWrite s a 0x24 (0x3000 + c) 0x01 →
    ((p = 0xFFFF ∨ (s.at t).peerFits c p = true) → ∃ u, exec (.peer t a c p) s = .next u ∧
      accepted ((s.at t).setCfgN 0x24 (0x3000 + c) 0x01 2 p).judgeAll u t) ∧
    (p ≠ 0xFFFF → (s.at t).peerFits c p = false → exec (.peer t a c p) s = .next ((s.at t).say 16 [] 0))) ∧
  (∀ (s : State) (t b : Nat), b < 288 →
    ((s.bed b).st ≠ .pruned ∨ s.shedLive = false ∨ s.isPruned (bedDie b) 0xFF = true ∨ s.isPruned 12 (bedDie b) = true ∨
      s.isPruned (bedDie b) (b % 36) = false ∨ s.unitNamed (bedDie b) (b % 36) = true ∨
      s.failedTwice (bedDie b) (b % 36) = true → exec (.bedUnitReset t b) s = .next (s.at t)) ∧
    ((s.bed b).st = .pruned → s.shedLive = true → s.isPruned (bedDie b) 0xFF = false → s.isPruned 12 (bedDie b) = false →
      s.isPruned (bedDie b) (b % 36) = true → s.unitNamed (bedDie b) (b % 36) = false →
      s.failedTwice (bedDie b) (b % 36) = false → (∀ e ∈ s.flt.sources, sourceOfUnit (bedDie b) (b % 36) e.1 = true → e.2.live = false) →
      ∃ u, exec (.bedUnitReset t b) s = .next u ∧ u.isPruned (bedDie b) (b % 36) = false ∧ (u.bed b).owed = true ∧
        (u.bed b).st ≠ .pruned ∧ (u.bed b).checks = [] ∧ (∀ k, k ≠ b → (u.bed k).st = (s.bed k).st)))

/-- From R287, R289, R306, R307 and R310, of a READ and a WRITE that a live Almanac runs: an entry that no table names, or
whose instance is out of range, is answered NOT_FOUND and one without the right RIGHTS, with nothing changed; a READ
answers the entry's value at the start of its decision slot, or a counter from the copy of a restart, or the status that
refuses it, and changes nothing; a WRITE that the entry takes is accepted, and one that it refuses is answered with its
status. When a lower-numbered allotment has written the entry in the same decision slot, or its field in the same register
cycle, the write is SUPERSEDED and counted. Where the spec leaves a value or an order open, the clauses follow the model's
choice of log entries 88, 99, 103 and 143. -/
def Obligations.AlmanacReadsAndWrites : Prop :=
  ∀ (s : State) (t a fam inst mem : Nat) (b : List Byte), a < 16 → s.alm.live = true → s.shed.restarting = false →
    s.shed.journal = [] → s.waits a = false →
    (spaceOf fam inst = none → exec (.read t a fam inst mem b) s = .next ((s.at t).say 1 [] 0) ∧
      exec (.write t a fam inst mem b) s = .next ((s.at t).say 1 [] 0)) ∧
    (∀ sp n, spaceOf fam inst = some (sp, n) → entryRow sp n mem = none →
      exec (.read t a fam inst mem b) s = .next ((s.at t).say 1 [] 0) ∧
      exec (.write t a fam inst mem b) s = .next ((s.at t).say 1 [] 0)) ∧
    (∀ sp n r, spaceOf fam inst = some (sp, n) → entryRow sp n mem = some r →
      (let reads := recordRead sp mem = true ∨ canRead r.acc (s.rightsMask a fam inst sp n) = true
       let writes := recordWrite sp mem = true ∨ canWrite r.acc (s.rightsMask a fam inst sp n) = true
       let was := s.alm.slotOld.find? (fun e =>
         decide (e.1 = t / 10) && decide (e.2.1 = entryKey fam inst mem) && b.isEmpty)
       (¬ reads → exec (.read t a fam inst mem b) s = .next ((s.at t).say 2 [] 0)) ∧
       (¬ writes → exec (.write t a fam inst mem b) s = .next ((s.at t).say 2 [] 0)) ∧
       (∀ v, reads → s.copy = none → (s.at t).entryRead a fam inst mem sp n b = (0, v) →
         exec (.read t a fam inst mem b) s = .next ((s.at t).say 0 ((was.map (·.2.2)).getD v) (t / 10 * 10))) ∧
       (∀ st v, reads → s.copy = none → st ≠ 0 → (s.at t).entryRead a fam inst mem sp n b = (st, v) →
         exec (.read t a fam inst mem b) s = .next ((s.at t).say st v 0)) ∧
       (∀ c v, reads → s.copy = some c → isCounter sp mem = true →
         (s.at t).fromCopy.entryRead a fam inst mem sp n b = (0, v) →
         exec (.read t a fam inst mem b) s = .next ((s.at t).say 0 v c.at_)) ∧
       (∀ e u, takesAtOnce s t a → writes → (s.at t).entryWrite a fam inst mem sp n r b = (0, e, u) →
         ∃ v, exec (.write t a fam inst mem b) s = .next v ∧ accepted u v e) ∧
       (∀ st e u, writes → st ≠ 0 → (s.at t).entryWrite a fam inst mem sp n r b = (st, e, u) →
         exec (.write t a fam inst mem b) s = .next (u.say st [] e)) ∧
       (∀ e u, writes → (∃ c, c < a ∧ (t / 10, conflictKey fam inst mem sp b, c) ∈ s.alm.slotWrites) ∨
           (s.at t).loses a (registerFields sp n mem b) = true →
         (s.at t).entryWrite a fam inst mem sp n r b = (0, e, u) →
         exec (.write t a fam inst mem b) s =
           .next (((s.at t).modAllot a (fun x => { x with superseded := inc64 x.superseded })).say 6 [] 0))))

/-- From R295, R309, R310 and R485, of a live Almanac: STAGE places its bytes in the allotment's buffer, with zeros in a
gap, and refuses more than 1 MiB; CLEAR_STAGE empties it; WRITE_STAGED writes the first bytes of the buffer, which it
empties, and is refused when the buffer holds fewer. While all of Dorsen restarts, or the journal is not drained, a WRITE
is journalled as QUEUED, with a READ behind one, or answered BUSY when the journal has no room. While the allotment's core
pair restarts every operation waits, with no answer. Before the Almanac is live every operation is answered NOT_READY.
Where the spec leaves a value or an order open, the clauses follow the model's choice of log entries 16, 93 and 143. -/
def Obligations.StagingAndJournal : Prop :=
  ∀ (s : State) (t a : Nat), a < 16 →
    (s.alm.live = true → s.waits a = false →
      (∀ off bytes, bytes ≠ [] → off + bytes.length ≤ 1048576 → ∃ u, exec (.stage t a off bytes) s = .next u ∧
        u.answer = { status := 0, effectAt := t, data := [] } ∧
        (u.allot a).staging = (let old := (s.allot a).staging
          patchBytes (old ++ List.replicate (off + bytes.length - old.length) 0) off bytes) ∧
        (∀ c, c ≠ a → u.allot c = s.allot c) ∧ u = { s with now := t, allots := u.allots, answer := u.answer }) ∧
      (∀ off, exec (.stage t a off []) s = .next ((s.at t).say 0 [] t)) ∧
      (∀ off bytes, off < 4294967296 → bytes ≠ [] → 1048576 < off + bytes.length →
        exec (.stage t a off bytes) s = .next ((s.at t).say 4 [] 0)) ∧
      (∃ u, exec (.clearStage t a) s = .next u ∧ u.answer = { status := 0, effectAt := t, data := [] } ∧
        (u.allot a).staging = [] ∧ (∀ c, c ≠ a → u.allot c = s.allot c) ∧
        u = { s with now := t, allots := u.allots, answer := u.answer }) ∧
      (∀ fam inst mem len, len < 4294967296 →
        (len ≤ (s.allot a).staging.length → exec (.writeStaged t a fam inst mem len) s =
          exec (.write t a fam inst mem ((s.allot a).staging.take len)) (s.clearStage a)) ∧
        ((s.allot a).staging.length < len →
          exec (.writeStaged t a fam inst mem len) s = .next (((s.at t).clearStage a).say 4 [] 0))) ∧
      (∀ fam inst mem b, s.shed.restarting = true ∨ s.shed.journal ≠ [] →
        (let queued := fun (op : Nat) (u : State) => u.answer = { status := 9, effectAt := 0, data := [] } ∧
           u.shed.journal = s.shed.journal ++
             [{ a := a, seq := 0, idx := 0, op := op, fam := fam, inst := inst, mem := mem, val := b }] ∧
           u = { s with now := t, shed := { s.shed with journal := u.shed.journal }, answer := u.answer }
         (s.journalRoom a 1 = true → ∃ u, exec (.write t a fam inst mem b) s = .next u ∧ queued 2 u) ∧
         (s.journalRoom a 1 = false → exec (.write t a fam inst mem b) s = .next ((s.at t).say 5 [] 0)) ∧
         (0 < s.queuedOf a → s.journalRoom a 1 = true → ∃ u, exec (.read t a fam inst mem b) s = .next u ∧ queued 1 u) ∧
         (0 < s.queuedOf a → s.journalRoom a 1 = false →
           exec (.read t a fam inst mem b) s = .next ((s.at t).say 5 [] 0))))) ∧
    (s.alm.live = true → s.waits a = true → ∀ fam inst mem b len off,
      (let keeps := fun (op f i m : Nat) (v : List Byte) =>
         { s.at t with shed := { s.shed with waiting := s.shed.waiting ++
           [{ a := a, seq := 0, idx := 0, op := op, fam := f, inst := i, mem := m, val := v }] } }
       exec (.read t a fam inst mem b) s = .next (keeps 1 fam inst mem b) ∧
       exec (.write t a fam inst mem b) s = .next (keeps 2 fam inst mem b) ∧
       exec (.writeStaged t a fam inst mem len) s = .next (keeps 3 fam inst mem (natLe 4 len)) ∧
       exec (.stage t a off b) s = .next (keeps 4 0 0 0 (natLe 4 off ++ b)) ∧
       exec (.clearStage t a) s = .next (keeps 5 0 0 0 []))) ∧
    (s.alm.live = false → ∀ fam inst mem b len off,
      exec (.read t a fam inst mem b) s = .next ((s.at t).say 8 [] 0) ∧
      exec (.write t a fam inst mem b) s = .next ((s.at t).say 8 [] 0) ∧
      exec (.writeStaged t a fam inst mem len) s = .next ((s.at t).say 8 [] 0) ∧
      exec (.stage t a off b) s = .next ((s.at t).say 8 [] 0) ∧
      exec (.clearStage t a) s = .next ((s.at t).say 8 [] 0))

/-- From R297 to R301 and R485, of the mailbox of an allotment: without a window, or before power-up step 6, GO and ACK do
nothing. GO is ignored and counted while a request is busy or a reply waits; a malformed request is counted and discarded;
an identify request is answered; before the Almanac is live a request is answered NOT_READY; one of an older session, and
one too far ahead, is discarded and counted; one ahead of its turn is held; one in its turn runs, its reply is kept for
repetition and placed in the reply buffer. ACK clears the reply. A held request whose gap has lasted 50 ms is dropped.
Where the spec leaves a value or an order open, the clauses follow the model's choice of log entry 94. -/
def Obligations.MailboxRequests : Prop :=
  ∀ (s : State) (t a : Nat), a < 16 →
    (s.windowOf a = false ∨ s.frontEnd = false →
      exec (.go t a) s = .next (s.at t) ∧ exec (.ack t a) s = .next (s.at t)) ∧
    (s.windowOf a = true → s.frontEnd = true →
     let x := s.allot a
     let b := (x.mbox.request ++ List.replicate (x.mbox.length - x.mbox.request.length) 0).take x.mbox.length
     (x.mbox.busy = true ∨ x.mbox.reply = true → ∃ u, exec (.go t a) s = .next u ∧
       u.allot a = { x with mailboxIgnored := inc64 x.mailboxIgnored } ∧ (∀ c, c ≠ a → u.allot c = s.allot c) ∧
       u = { s with now := t, allots := u.allots }) ∧
     (∃ u, exec (.ack t a) s = .next u ∧ u.allot a = { x with mbox := { x.mbox with reply := false, discarded := false } } ∧
       (∀ c, c ≠ a → u.allot c = s.allot c) ∧ u = { s with now := t, allots := u.allots }) ∧
     (x.mbox.busy = false → x.mbox.reply = false →
       (parseMsg b true = none → ∃ u, exec (.go t a) s = .next u ∧ u.alm.badMessages = inc64 s.alm.badMessages ∧
         (u.allot a).mbox = { x.mbox with busy := false, discarded := true } ∧
         u = { s with now := t, alm := u.alm, allots := u.allots, irq := u.irq, emits := u.emits }) ∧
       (let busy := (s.at t).modMbox a (fun m => { m with busy := true, discarded := false })
        ∀ m, parseMsg b true = some m →
          (m.kind = 3 → exec (.go t a) s = .next (if m.identifies true then busy.identify a (mailboxIn a) m
            else busy.badMessage.mailboxDrop a (mailboxIn a))) ∧
          (m.kind = 1 → s.alm.live = false →
            exec (.go t a) s = .next (busy.reply a (mailboxIn a) (emptyReply { m with a := a } 8 (s.at t).readyAt) [])) ∧
          (m.kind = 1 → s.alm.live = true → exec (.go t a) s = .next (busy.accept (mailboxIn a) { m with a := a } []))) ∧
       (∀ m, parseMsg b true = some m → m.kind = 1 → s.alm.live = true →
         (∀ d, m.session = x.session → m.seq = x.nextSeq + d → 64 < d → m.seq < 4294967296 →
           x.cached.find? (fun c => decide (c.1 = m.seq)) = none → ∃ u, exec (.go t a) s = .next u ∧
           (u.allot a).seqDrops = inc64 x.seqDrops ∧ (u.allot a).mbox = { x.mbox with busy := false, discarded := true } ∧
           (u.allot a).nextSeq = x.nextSeq) ∧
         (m.session < x.session → ∃ u, exec (.go t a) s = .next u ∧ (u.allot a).seqDrops = inc64 x.seqDrops ∧
           (u.allot a).mbox = { x.mbox with busy := false, discarded := true } ∧ (u.allot a).nextSeq = x.nextSeq ∧
           u = { s with now := t, allots := u.allots, irq := u.irq, emits := u.emits }) ∧
         (∀ d, m.session = x.session → m.seq = x.nextSeq + d → m.seq < 4294967296 → x.held = [] → x.unanswered < 256 →
           (1 ≤ d → d ≤ 64 → ∃ u, exec (.go t a) s = .next u ∧ (u.allot a).mbox.busy = true ∧
             (u.allot a).held = [{ seq := m.seq, t := t, port := 0xF00 + a, bytes := m.signed, key := [] }] ∧
             (u.allot a).unanswered = x.unanswered + 1 ∧ (u.allot a).nextSeq = x.nextSeq ∧
             (∀ c, c ≠ a → u.allot c = s.allot c) ∧ u = { s with now := t, allots := u.allots }) ∧
           (∀ o, d = 0 → m.ops = [o] → o.op = 5 → s.shed.restarting = false → s.shed.journal = [] → a ∉ s.shed.pairsDown →
             ∃ u, exec (.go t a) s = .next u ∧ (u.allot a).nextSeq = (m.seq + 1) % 4294967296 ∧ (u.allot a).staging = [] ∧
               (u.allot a).unanswered = x.unanswered ∧
               (let body := replyMsg 2 a 0 m.session m.seq 1 0 (replyOp o 0 t [])
                (u.allot a).mbox = { x.mbox with busy := false, reply := true, discarded := false, replyData := body } ∧
                (u.allot a).cached = ((m.seq, body) :: x.cached).take 256) ∧
               u = { s with now := t, allots := u.allots, irq := u.irq, emits := u.emits })))) ∧
     (∀ q, (x.held.find? (fun h => decide (h.seq = q) && decide (h.t + 50000000 ≤ t)) = none →
         exec (.gapTimeout t a q) s = .next (s.at t)) ∧
       (∀ h, x.held.find? (fun h => decide (h.seq = q) && decide (h.t + 50000000 ≤ t)) = some h →
         ∃ u, exec (.gapTimeout t a q) s = .next u ∧ (u.allot a).gapDrops = inc64 x.gapDrops ∧
           (u.allot a).held = x.held.filter (fun e => !decide (e.seq = q)) ∧
           (u.allot a).mbox = (if h.port = 0xF00 + a then { x.mbox with busy := false, discarded := true } else x.mbox) ∧
           u = { s with now := t, allots := u.allots, irq := u.irq, emits := u.emits })))

/-- From R291, R293, R296, R300, R484 and R485, of a message over UDP by a way in that carries Almanac traffic after
power-up step 6, which leaves the arrival hold: one that is longer than 8,224 bytes, malformed or of another kind is
counted; before the Almanac is live a request is answered NOT_READY; one whose tag holds under no key of its allotment is
counted there, and one whose tag holds under a key takes its place in the sequence. An identify request is answered with
the identity it reads, at most 100 in a PTP second by a management port or an in-band address. A message by any other way
in has no effect. Where the spec leaves a value or an order open, the clauses follow the model's choice of log entry 93. -/
def Obligations.UdpMessages : Prop :=
  ∀ (s : State) (t port k : Nat) (b : List Byte), port < 1026 → k < 16 →
    (s.wayIn port = false ∨ s.frontEnd = false → exec (.almanacMessage t port b) s = .next (s.at t) ∧
      exec (.identifyRequest t port k b) s = .next (s.at t)) ∧
    (s.wayIn port = true → s.frontEnd = true →
      (let v := (s.at t).takeHeld port
       let bad := { v with alm := { v.alm with badMessages := inc64 s.alm.badMessages } }
       (s.boot.hold = [] → v = s.at t) ∧
       (8224 < b.length ∨ parseMsg b false = none →
         exec (.almanacMessage t port b) s = .next bad ∧ exec (.identifyRequest t port k b) s = .next bad) ∧
       (∀ m, b.length ≤ 8224 → parseMsg b false = some m →
         (m.kind ≠ 1 ∨ 15 < m.a → exec (.almanacMessage t port b) s = .next bad) ∧
         (m.kind = 1 → m.a < 16 → s.alm.live = false → exec (.almanacMessage t port b) s = .next (v.notReady port m)) ∧
         (m.kind = 1 → m.a < 16 → s.alm.live = true →
           ((s.at t).keyFor m = none → ∃ u, exec (.almanacMessage t port b) s = .next u ∧
             u.allot m.a = { s.allot m.a with authFails := inc64 (s.allot m.a).authFails } ∧
             (∀ c, c ≠ m.a → u.allot c = s.allot c) ∧ u = { v with allots := u.allots }) ∧
           (∀ k, (s.at t).keyFor m = some k → exec (.almanacMessage t port b) s = .next (v.accept port m k))) ∧
         (m.kind ≠ 3 ∨ m.identifies false = false → exec (.identifyRequest t port k b) s = .next bad) ∧
         (m.kind = 3 → m.identifies false = true →
           (let who := if port < 1024 then k else port
            let sec := t / 1000000000
            let n := ((s.alm.identified.find? (fun e => decide (e.1 = who) && decide (e.2.1 = sec))).map (·.2.2)).getD 0
            let seen := (who, sec, n + 1) :: s.alm.identified.filter (fun e => decide (e.2.1 = sec) && !decide (e.1 = who))
            let w := { v with alm := { v.alm with identified := seen } }
            (100 ≤ n → exec (.identifyRequest t port k b) s =
              .next { v with alm := { v.alm with identifyDrops := inc64 s.alm.identifyDrops } }) ∧
            (n < 100 → exec (.identifyRequest t port k b) s = .next (w.identify 0 port m)) ∧
            (∀ o, n < 100 → m.ops = [o] → o.op = 1 → o.fam = 0x01 → o.inst = 0 → 1 ≤ o.mem → o.mem ≤ 9 →
              (let r := w.readOp 0 0x01 0 o.mem o.data
               r.2.2.length ≤ 8000 → ∃ u, exec (.identifyRequest t port k b) s = .next u ∧
                 u = { w with emits := .reply t port 0 (replyMsg 4 0xFF 0 0 0 1 0 (replyOp o r.1 r.2.1 r.2.2)) :: s.emits })))))))

/-- From R304, R312 and R331: a KEY that the Almanac takes at once is in force beside the old one for a second, the
keeper's spending a credit when it differs; one of another length is refused as FORMAT; after that second the old key is
forgotten, and not before. A change of an address of the Almanac that has waited its second takes effect. Where the spec
leaves a value or an order open, the clauses follow the model's choice of log entry 143. -/
def Obligations.KeysAndAddresses : Prop :=
  ∀ (s : State) (t : Nat),
    (∀ a c val, a < 16 → c < 16 → takesAtOnce s t a → mayWrite s a 0x04 c 0x01 → val.length ≠ 32 →
      exec (.key t a c val) s = .next ((s.at t).say 4 [] 0)) ∧
    (∀ a c val, a < 16 → c < 16 → takesAtOnce s t a → mayWrite s a 0x04 c 0x01 → val.length = 32 →
      (c ≠ 0 → ∃ u, exec (.key t a c val) s = .next u ∧
        u.allot c = { s.allot c with oldKey := (s.allot c).key, key := some val, keyGrace := t + 1000000000 } ∧
        (∀ k, k ≠ c → u.allot k = s.allot k) ∧ accepted { s.at t with allots := u.allots } u t) ∧
      (c = 0 → ((s.allot 0).key).getD [] = val → ∃ u, exec (.key t a 0 val) s = .next u ∧ accepted (s.at t) u t) ∧
      (c = 0 → ((s.allot 0).key).getD [] ≠ val →
        (s.alm.credits.getD 2 0 = 0 → exec (.key t a 0 val) s = .next ((s.at t).say 7 [] 0)) ∧
        (0 < s.alm.credits.getD 2 0 → ∃ u, exec (.key t a 0 val) s = .next u ∧
          u.allot 0 = { s.allot 0 with oldKey := (s.allot 0).key, key := some val, keyGrace := t + 1000000000 } ∧
          u.alm.credits = s.alm.credits.set 2 (s.alm.credits.getD 2 0 - 1) ∧
          u.alm.changeLog.length = s.alm.changeLog.length + 1 ∧ u.answer = { status := 0, effectAt := t, data := [] }))) ∧
    (∀ c, c < 16 → ((s.allot c).keyGrace ≤ t → ∃ u, exec (.keyGraceEnd t c) s = .next u ∧
        u.allot c = { s.allot c with oldKey := none } ∧ (∀ k, k ≠ c → u.allot k = s.allot k) ∧
        u = { s with now := t, allots := u.allots }) ∧
      (t < (s.allot c).keyGrace → exec (.keyGraceEnd t c) s = .next (s.at t))) ∧
    (∀ mem, (s.alm.addrPend.find? (fun e => decide (e.1 = mem) && decide (e.2.1 ≤ t)) = none →
        exec (.addressChangeEffect t mem) s = .next (s.at t)) ∧
      (∀ e, s.alm.addrPend.find? (fun e => decide (e.1 = mem) && decide (e.2.1 ≤ t)) = some e →
        ∃ u, exec (.addressChangeEffect t mem) s = .next u ∧ u.cfg 0x01 0 mem = e.2.2 ∧
          u.alm.addrPend = s.alm.addrPend.filter (fun e => !decide (e.1 = mem)) ∧
          (∀ k, k ≠ mem → u.cfg 0x01 0 k = s.cfg 0x01 0 k) ∧
          u = { s with now := t, alm := { s.alm with store := u.alm.store, addrPend := u.alm.addrPend } }))

/-- From R6, R314, R315, R318, R320, R321, R486 and R499: a write by an allotment that has no window, one of no bytes, and
one beyond the last register page change nothing. An aligned write of eight bytes by a window that serves its registers
goes to the part of the window that its offset names, and to no other; before the Almanac is live only the mailbox takes
one. A write of QUEUE_PAGE, and one of SOURCE, changes that field and nothing else. A bit alias takes bit 0 of the data for
its bit of the control page, and an alias outside the alias region, or of the doorbell, takes nothing. Where the spec
leaves a value or an order open, the clauses follow the model's choice of log entries 95 and 96. -/
def Obligations.RegisterWindows : Prop :=
  ∀ (s : State) (t a : Nat), a < 16 →
    (∀ off b, s.windowOf a = false ∨ b = [] ∨ 0xC10000 ≤ off → exec (.registerWrite t a off b) s = .next (s.at t)) ∧
    (∀ k b, b.length = 8 → s.windowOf a = true →
      (let off := 8 * k
       let v := s.at t
       let p := v.pieceOf a off 18446744073709551615 (leNat b)
       let goes := fun u => exec (.registerWrite t a off b) s = .next (State.at u t)
       (0x8000 ≤ off ∧ off < 0x10000 → goes (v.writeControl a off p)) ∧
       (s.alm.live = false → off < 0x8000 ∨ (0x10000 ≤ off ∧ (off < 0x200000 ∨ 0x400000 ≤ off)) → goes v) ∧
       (s.alm.live = true →
         (off < 0x8000 → goes (v.writeControl a off p)) ∧
         (0x100000 ≤ off → off < 0x101000 → goes (v.writeDma a (64 * a + (off - 0x100000) / 64) (off % 64) p)) ∧
         (0x110000 ≤ off → off < 0x114000 → goes (v.writeIrq a (off - 0x110000) p)) ∧
         (0x120000 ≤ off → off < 0x128000 → goes (if p.strikes 32 || p.strikes 33 then
           v.latchCommand a ((off - 0x120000) / 8) (p.strikes 32) (p.strikes 33) (BitVec.ofNat 16 (p.get 48 16)) else v)) ∧
         (0x140000 ≤ off → off < 0x140400 →
           goes (if off % 64 = 0 then v.writeRing a ((off - 0x140000) / 64) p else v)) ∧
         (0x400000 ≤ off → off < 0x404800 →
           goes (if off % 64 = 8 then v.writeBed a ((off - 0x400000) / 64) p else v)) ∧
         (0xBE0000 ≤ off → off < 0xBE2000 → goes (v.writeCells a ((off - 0xBE0000) / 0x1000) (off % 0x1000) p)) ∧
         (0xC00000 ≤ off → off < 0xC09000 → goes (v.writeFaults a (off - 0xC00000) p)) ∧
         (0x10000 ≤ off ∧ off < 0x100000 ∨ 0x101000 ≤ off ∧ off < 0x110000 ∨ 0x114000 ≤ off ∧ off < 0x120000 ∨
           0x128000 ≤ off ∧ off < 0x140000 ∨ 0x140400 ≤ off ∧ off < 0x200000 ∨ 0x404800 ≤ off ∧ off < 0x800000 ∨
           0x800000 < off ∧ off < 0xBE0000 ∨ 0xBE2000 ≤ off ∧ off < 0xC00000 → goes v)))) ∧
    (s.serves a = true → ∀ x y : Byte,
      (∃ u, exec (.registerWrite t a 0x800000 [x, y]) s = .next u ∧
        u.allot a = { s.allot a with queuePage := (x.toNat + 256 * y.toNat) % 1024 } ∧
        (∀ c, c ≠ a → u.allot c = s.allot c) ∧ u = { s with now := t, allots := u.allots }) ∧
      (∃ u, exec (.registerWrite t a 0x110000 [x, y]) s = .next u ∧
        u.allot a = { s.allot a with source := x.toNat + 256 * y.toNat } ∧
        (∀ c, c ≠ a → u.allot c = s.allot c) ∧ u = { s with now := t, allots := u.allots })) ∧
    (∀ d : BitVec 32,
      (∀ off, off < 0x200000 ∨ 0x400000 ≤ off ∨ (off - 0x200000) / 128 * 4 = 0x800 ∨ s.windowOf a = false →
        exec (.bitAliasWrite t a off d) s = .next (s.at t)) ∧
      (∀ off, 0x200000 ≤ off → off < 0x400000 → (off - 0x200000) / 128 * 4 ≠ 0x800 →
        (let at_ := (off - 0x200000) / 128 * 4
         let bit_ := (off - 0x200000) / 4 % 32 + 8 * (at_ % 8)
         exec (.bitAliasWrite t a off d) s = .next ((s.at t).writeBlock a (at_ / 8 * 8)
           ((s.at t).pieceOf a (at_ / 8 * 8) (2 ^ bit_) (if d.getLsbD 0 then 2 ^ bit_ else 0))))) ∧
      (s.serves a = true → ∃ u, exec (.bitAliasWrite t a (0x200000 + 4 * (8 * 0x18)) d) s = .next u ∧
        u.allot a = { s.allot a with qeDie := d.getLsbD 0 } ∧
        (∀ c, c ≠ a → u.allot c = s.allot c) ∧ u = { s with now := t, allots := u.allots }))

/-- From R323 to R326 and R328, of an allotment: a doorbell of a number that it may raise raises that source and no other,
one of another number is refused and counted, and 0, or a window that does not serve its registers, strikes nothing. With a
grant, ACQUIRE takes a free latch and RELEASE gives back one that it holds, and each is refused and counted on any other
latch; without a grant both are; when a lower-numbered allotment has written the latch in the register cycle both are
discarded and counted. No other latch changes. Where the spec leaves a value or an order open, the clauses follow the
model's choice of log entries 89 and 101. -/
def Obligations.LatchesAndDoorbells : Prop :=
  ∀ (s : State) (t a : Nat), a < 16 →
    (∀ n, n < 65536 → (n = 0 ∨ s.serves a = false → exec (.doorbell t a n) s = .next (s.at t)) ∧
      (n ≠ 0 → s.serves a = true → doorbellAllowed a n = true → ∃ u, exec (.doorbell t a n) s = .next u ∧
        u.route true n = (s.route true n).raised ∧ u.route false n = (s.route false n).raised ∧
        (∀ h k, k ≠ n → u.route h k = s.route h k) ∧
        u = { s with now := t, irq := u.irq, allots := u.allots, emits := u.emits }) ∧
      (n ≠ 0 → s.serves a = true → doorbellAllowed a n = false → ∃ u, exec (.doorbell t a n) s = .next u ∧
        u.allot a = { s.allot a with doorbellRefused := min ((s.allot a).doorbellRefused + 1) 65535 } ∧
        (∀ c, c ≠ a → u.allot c = s.allot c) ∧ u = { s with now := t, allots := u.allots })) ∧
    (∀ n tag, 4096 ≤ n ∨ s.serves a = false → exec (.acquire t a n tag) s = .next (s.at t) ∧
      exec (.release t a n) s = .next (s.at t)) ∧
    (∀ n tag, n < 4096 → s.serves a = true →
      (let refused := { s.allot a with latchRefused := min ((s.allot a).latchRefused + 1) 65535 }
       (s.latchGranted a n = false → (∃ u, exec (.acquire t a n tag) s = .next u ∧ u.allot a = refused ∧
           (∀ k, u.latch k = s.latch k) ∧ u = { s with now := t, allots := u.allots }) ∧
         ∃ u, exec (.release t a n) s = .next u ∧ u.allot a = refused ∧
           (∀ k, u.latch k = s.latch k) ∧ u = { s with now := t, allots := u.allots }) ∧
       (s.latchGranted a n = true → (s.at t).loses a (latchFields n) = true →
         (let lost := (s.at t).modAllot a (fun x => { x with regSuperseded := inc64 x.regSuperseded })
          exec (.acquire t a n tag) s = .next lost ∧ exec (.release t a n) s = .next lost)) ∧
       (s.latchGranted a n = true → (s.at t).loses a (latchFields n) = false →
         ((s.latch n).holder = none → ∃ u, exec (.acquire t a n tag) s = .next u ∧
           u.latch n = { s.latch n with holder := some a, tag := tag, used := true } ∧
           (∀ k, k ≠ n → u.latch k = s.latch k) ∧ u = { s with now := t, alm := u.alm }) ∧
         (∀ c, (s.latch n).holder = some c → ∃ u, exec (.acquire t a n tag) s = .next u ∧ u.allot a = refused ∧
           (∀ k, u.latch k = s.latch k) ∧ u = { s with now := t, alm := u.alm, allots := u.allots }) ∧
         ((s.latch n).holder = some a → ∃ u, exec (.release t a n) s = .next u ∧
           u.latch n = { s.latch n with holder := none, torn := false, lastHolder := a } ∧
           (∀ k, k ≠ n → u.latch k = s.latch k) ∧ u = { s with now := t, alm := u.alm, allots := u.allots }) ∧
         ((s.latch n).holder ≠ some a → ∃ u, exec (.release t a n) s = .next u ∧ u.allot a = refused ∧
           (∀ k, u.latch k = s.latch k) ∧ u = { s with now := t, alm := u.alm, allots := u.allots }))))

/-- From R314, R322, R327 and R343: RESET of an allotment by one that may write it empties its staging buffer and its
rings, which it disables, ends its mailbox request, clears QE_DIE and is counted; no other allotment's rings change. A
reset of a PCIe link that has a window resets the allotment bound to it, masks its vectors and disables its MSI-X; hot
reset puts the bindings that name the link in force, and a function-level reset leaves the bindings. A vote scrub counts
one correction for each field, none for no field, and logs each one's domain. Where the spec leaves a value or an order
open, the clauses follow the model's choice of log entries 56, 85, 86 and 125. -/
def Obligations.ResetsAndVotes : Prop :=
  (∀ (s : State) (t a c : Nat), a < 16 → c < 16 → takesAtOnce s t a → mayWrite s a 0x04 c 0x09 →
    ∃ u, exec (.reset t a c) s = .next u ∧ u.answer = { status := 0, effectAt := t, data := [] } ∧
      (u.allot c).staging = [] ∧ (u.allot c).qeDie = false ∧ (u.allot c).resets = inc64 (s.allot c).resets ∧
      (u.allot c).mbox = { (s.allot c).mbox with busy := false, reply := false } ∧
      (∀ n, n < 16 → (u.ring c n).entries = [] ∧ (u.ring c n).enable = false) ∧
      (∀ k n, k ≠ c → n < 16 → u.ring k n = s.ring k n) ∧ u.str.slots = s.str.slots ∧ u.mem.exchange = s.mem.exchange) ∧
  (∀ (s : State) (t link kind : Nat), 1 ≤ link → link ≤ 8 → kind < 3 →
    (s.hasWindow link = false → exec (.pcieLinkReset t link kind) s = .next (s.at t)) ∧
    (s.hasWindow link = true → ∃ u, exec (.pcieLinkReset t link kind) s = .next u ∧ u.func link = {} ∧
      (∀ v, v < 16 → (u.vector (targetOf link v)).masked = true ∧ (u.vector (targetOf link v)).pending = false) ∧
      (∀ a, s.boundTo link = some a → (u.allot a).staging = [] ∧ (u.allot a).qeDie = false ∧
        (u.allot a).resets = inc64 (s.allot a).resets ∧
        (∀ n, n < 16 → (u.ring a n).entries = [] ∧ (u.ring a n).enable = false)) ∧
      (kind = 0 → ∀ a, a < 16 → u.linkOf a = s.linkOf a) ∧
      (kind ≠ 0 → ∀ a, a < 16 → s.cfgN 0x04 a 0x03 = link → u.linkOf a = link) ∧
      (kind = 2 → (u.source (0xA27 + link)).cause = true) ∧
      (kind ≠ 2 → (u.source (0xA27 + link)).cause = false) ∧ u.str.slots = s.str.slots ∧
      u.mem.exchange = s.mem.exchange)) ∧
  (∀ (s : State) (t : Nat) (fields : List (Nat × Nat)),
    ∃ u, exec (.voteScrub t fields) s = .next u ∧
      u.alm.voteCorrections = fields.foldl (fun n _ => inc64 n) s.alm.voteCorrections ∧ (fields = [] → u = s.at t) ∧
      (∀ d f, fields = [(d, f)] → u = ({ s.at t with alm := { s.alm with voteCorrections := inc64 s.alm.voteCorrections } }).logFault
        (d * 256 + 0xF0)) ∧ u.str = s.str ∧ u.mem = s.mem ∧ u.rings = s.rings ∧ u.shed = s.shed)

/-- From R336, R338 and R339, of the host target of a vector of a window that serves its registers: a claim with nothing
offered answers 0xFFFF and counts as spurious; else it answers the source offered, which becomes ACTIVE on the target. A
completion of a source active on the target ends it, or returns it to PENDING when it was raised again; any other is
ignored and counted. CLEAR of the source that SOURCE selects, where the window shows its route, takes back what is pending
of it; when a lower-numbered allotment has cleared it in the register cycle it is discarded and counted. No other route
changes. -/
def Obligations.ClaimsAndCompletions : Prop :=
  ∀ (s : State) (t a v : Nat), a < 16 → v < 16 →
    (s.serves a = false → ∀ n, exec (.claim t a v) s = .next (s.at t) ∧ exec (.complete t a v n) s = .next (s.at t) ∧
      exec (.sourceClear t a) s = .next (s.at t)) ∧
    (s.serves a = true →
      (let w := targetOf (s.linkOf a) v
       (s.offer w = none → ∃ u, exec (.claim t a v) s = .next u ∧
         u.answer = { status := 0, effectAt := t, data := natLe 2 0xFFFF } ∧
         (u.vector w).spurious = min ((s.vector w).spurious + 1) 65535 ∧ (∀ h k, u.route h k = s.route h k) ∧
         u = { s with now := t, irq := u.irq, emits := u.emits, answer := u.answer }) ∧
       (∀ n, s.offer w = some n → ∃ u, exec (.claim t a v) s = .next u ∧
         u.answer = { status := 0, effectAt := t, data := natLe 2 n } ∧
         u.route true n = { s.route true n with st := 2, on := w } ∧
         (∀ h k, (h, k) ≠ (true, n) → u.route h k = s.route h k) ∧
         u = { s with now := t, irq := u.irq, emits := u.emits, answer := u.answer }) ∧
       (∀ n, n ≠ 0 → ∃ u, exec (.complete t a v n) s = .next u ∧
         (let r := s.route true n
          u.route true n = (if r.st = 2 ∧ r.on = w then { r with st := 0, on := 0 }
            else if r.st = 3 ∧ r.on = w then { r with st := 1, on := 0 } else r) ∧
          (u.vector w).ignored = (if (r.st = 2 ∨ r.st = 3) ∧ r.on = w then (s.vector w).ignored
            else min ((s.vector w).ignored + 1) 65535)) ∧
         (∀ h k, (h, k) ≠ (true, n) → u.route h k = s.route h k) ∧
         u = { s with now := t, irq := u.irq, emits := u.emits }))) ∧
    (s.serves a = true → exec (.complete t a v 0) s = .next (s.at t)) ∧
    (s.showsRoute a = false → exec (.sourceClear t a) s = .next (s.at t)) ∧
    (s.serves a = true → s.showsRoute a = true → (s.at t).loses a [fieldName 7 (s.allot a).source 8] = true →
      exec (.sourceClear t a) s = .next ((s.at t).modAllot a (fun x => { x with regSuperseded := inc64 x.regSuperseded }))) ∧
    (s.serves a = true → s.showsRoute a = true → (s.at t).loses a [fieldName 7 (s.allot a).source 8] = false →
      ∃ u, exec (.sourceClear t a) s = .next u ∧
        (let n := (s.allot a).source
         let r := s.route true n
         u.route true n = (if r.st = 1 then { r with st := 0 } else if r.st = 3 then { r with st := 2 } else r) ∧
         (∀ h k, (h, k) ≠ (true, n) → u.route h k = s.route h k)) ∧
        u = { s with now := t, irq := u.irq, emits := u.emits, alm := u.alm })

/-- From R341, R342 and R344: an unmasked vector with a pending bit and a source offered, in a function whose MSI-X is
enabled and not masked, sends its message; enabling or disabling MSI-X changes no route, and clears the pending bits. A
core pair that runs and whose cores agree claims the source offered to it, or completes one that is active on it; cores
that disagree report the fault of the pair; a pair that does not run changes nothing. Where the spec leaves a value or an
order open, the clauses follow the model's choice of log entries 56 and 98. -/
def Obligations.MessagesAndCores : Prop :=
  (∀ (s : State) (t a v : Nat), a < 16 → v < 16 →
    (s.windowOf a = false → exec (.msixUnmask t a v) s = .next (s.at t) ∧
      ∀ on, exec (.msixEnable t a on) s = .next (s.at t)) ∧
    (s.windowOf a = true →
      (let c := s.linkOf a
       let w := targetOf c v
       (∃ u, exec (.msixUnmask t a v) s = .next u ∧ (u.vector w).masked = false ∧ (u.vector w).threshold = (s.vector w).threshold ∧
         (∀ h k, u.route h k = s.route h k) ∧ (∀ k, k ≠ w → u.vector k = s.vector k) ∧
         ((s.func c).enabled = true → (s.func c).funcMask = false → (s.vector w).pending = true → (s.offer w).isSome = true →
           u.emits = .msix t c v (s.vector w).addr (s.vector w).data :: s.emits ∧ (u.vector w).pending = false) ∧
         u = { s with now := t, irq := u.irq, emits := u.emits }) ∧
       (∀ on, ∃ u, exec (.msixEnable t a on) s = .next u ∧ (u.func c).enabled = on ∧
         (∀ k, k ≠ c → u.func k = s.func k) ∧ (∀ h k, u.route h k = s.route h k) ∧
         (on = false → (u.vector w).pending = false ∧ u.emits = s.emits) ∧
         u = { s with now := t, irq := u.irq, emits := u.emits })))) ∧
  (∀ (s : State) (t p : Nat) (n : Option Nat), p < 16 →
    (s.shed.running = false ∨ s.shed.restarting = true ∨ p ∈ s.shed.pairsDown ∨ s.isPruned 10 p = true → ∀ b,
      exec (.shedClaim t p n b) s = .next (s.at t)) ∧
    (s.shed.running = true → s.shed.restarting = false → p ∉ s.shed.pairsDown → s.isPruned 10 p = false →
      exec (.shedClaim t p n false) s = .next ((s.at t).pulseFault (0xA00 + p)) ∧
      (n = none → s.shedOffer p = none → exec (.shedClaim t p n true) s = .next ((s.at t).say 0 (natLe 2 0xFFFF) t)) ∧
      (∀ k, n = none → s.shedOffer p = some k → ∃ u, exec (.shedClaim t p n true) s = .next u ∧
        u.answer = { status := 0, effectAt := t, data := natLe 2 k } ∧
        u.route false k = { s.route false k with st := 2, on := 2 * p } ∧
        (∀ h j, (h, j) ≠ (false, k) → u.route h j = s.route h j) ∧ u = { s with now := t, irq := u.irq, answer := u.answer }) ∧
      (∀ k, n = some k → ∃ u, exec (.shedClaim t p n true) s = .next u ∧
        u.route false k = (let r := s.route false k
          if r.on / 2 = p ∧ r.st = 2 then { r with st := 0, on := 0 }
          else if r.on / 2 = p ∧ r.st = 3 then { r with st := 1, on := 0 } else r) ∧
        (∀ h j, (h, j) ≠ (false, k) → u.route h j = s.route h j) ∧ u = { s with now := t, irq := u.irq })))

/-- From R352 to R355: a scrub of a stack that does not serve requests, or beyond its 48 GiB, does nothing; a good burst
only moves the scrub; a corrected one is counted, and in its hour, which starts anew when an hour is over (log entry 73),
and more of them in the hour than CE_THRESHOLD raise the stack's k = 0; an uncorrectable one is counted, logged and raised
as k = 2, and its page is retired: of a coding die's stream region the page joins the list of retired pages. LOG_CLEAR
empties the stack's log. Where the spec leaves a value or an order open, the clauses follow the model's choice of log
entries 12 and 73. -/
def Obligations.PatrolScrub : Prop :=
  ∀ (s : State) (t d adr : Nat) (y : BitVec 32), d < 12 →
    ((s.stack d).st ≠ 1 ∨ 51539607552 ≤ adr → ∀ o, exec (.scrub t d adr o y) s = .next (s.at t)) ∧
    ((s.stack d).st = 1 → adr < 51539607552 →
      (∃ u, exec (.scrub t d adr 0 y) s = .next u ∧ u.stack d = { s.stack d with scrubAt := adr } ∧
        (∀ k, k ≠ d → u.stack k = s.stack k) ∧ u = { s with now := t, mem := u.mem } ∧ u.mem.exchange = s.mem.exchange) ∧
      (let old := decide (t < (s.stack d).hourStart + 3600000000000)
       let n := if old then (s.stack d).hourCount + 1 else 1
       ∃ v : State, exec (.scrub t d adr 1 y) s =
           .next (if s.cfgN 0x30 d 0x0C < n then v.raiseFault (0xC00 + 16 * d) else v) ∧
         v.stack d = { s.stack d with scrubAt := adr, corrected := inc64 (s.stack d).corrected, hourCount := n,
                                      hourStart := if old then (s.stack d).hourStart else t } ∧
         (∀ k, k ≠ d → v.stack k = s.stack k) ∧ (old = true → v.flt = s.flt) ∧
         (old = false → (v.source (0xC00 + 16 * d)).cause = false) ∧ v.flt.pruned = s.flt.pruned ∧
         v = { s with now := t, mem := v.mem, flt := v.flt } ∧ v.mem.exchange = s.mem.exchange) ∧
      (∀ o, 2 ≤ o → exec (.scrub t d adr o y) s =
        .next ((((s.at t).modStack d (fun x => { x with scrubAt := adr })).stackError d 2 0x0C00 adr y).retirePage
          d 0x0C00 adr y)) ∧
      (∀ o, 2 ≤ o → d < 8 → adr < 50465865728 → (s.stack d).retired.length < 256 → (s.stack d).log.length < 1023 →
        s.classOf (0xC00 + 16 * d + 2) = 0 → adr / 4096 ∉ (s.stack d).retired →
        ∃ u, exec (.scrub t d adr o y) s = .next u ∧
          (u.stack d).uncorrectable = inc64 (s.stack d).uncorrectable ∧
          (u.stack d).retired = insertNat (adr / 4096) (s.stack d).retired ∧
          (u.stack d).log.length = (s.stack d).log.length + 2 ∧ (u.stack d).st = 1 ∧
          (∀ k, k ≠ d → u.stack k = s.stack k) ∧ u.flt.pruned = s.flt.pruned ∧ u.mem.exchange = s.mem.exchange)) ∧
    (∀ a, a < 16 → takesAtOnce s t a → mayWrite s a 0x30 d 0x0A → ∃ u, exec (.logClear t a d) s = .next u ∧
      accepted ((s.at t).modStack d (fun x => { x with log := [] })) u t)

/-- From R356 to R359 and R462. OP_POINT of a coding stack: 4 Gb/s is refused above the slow budget; the point that will be
in force cancels a change that waits, and stops the PLL it started; any other waits, behind the change that runs if one
does, with its PLL started. OP_POINT of a pipeline die's stack is of both stacks of the pair and waits for their next
training. A PLL that was started locks while REFCLK is ready. The oldest change that waits on a stack that serves requests
starts when its PLL is locked, no other change runs and every twin on the stack is whole; requests are held from the
instant U and not before; a change done by U + 28 µs leaves the stack ready at its new point, and turns to the change that
waits behind it if one does; one not done by then ends in a prune. Where the spec leaves a value or an order open, the
clauses follow the model's choice of log entries 20, 74 and 143. -/
def Obligations.OperatingPoints : Prop :=
  (∀ (s : State) (t d a v : Nat), 8 ≤ d → d < 12 → a < 16 → v < 2 → takesAtOnce s t a → mayWrite s a 0x30 d 0x02 →
     ∃ u, exec (.opPoint t a d v) s = .next u ∧ u.answer = { status := 0, effectAt := t, data := [] } ∧
       (∀ m, m / 2 = d / 2 → u.cfgN 0x30 m 0x02 = v ∧ u.stack m =
         (let x := s.stack m
          { x with target := v, opState := if x.active = v then 0 else 3 })) ∧
       (∀ m, m / 2 ≠ d / 2 → u.stack m = s.stack m) ∧ u.mem.exchange = s.mem.exchange ∧ u.str = s.str ∧ u.clk = s.clk) ∧
  (∀ (s : State) (t p : Nat), p < 51 →
     (s.clk.refReady = false ∨ p ∉ s.clk.starting → exec (.pllLock t p) s = .next (s.at t)) ∧
     (s.clk.refReady = true → p ∈ s.clk.starting → ∃ u, exec (.pllLock t p) s = .next u ∧
       u.clk.starting = removeFrom s.clk.starting p ∧ u.clk.locked = insertNat p s.clk.locked ∧
       u = { s with now := t, clk := { s.clk with starting := u.clk.starting, locked := u.clk.locked } })) ∧
  ∀ (s : State) (t d : Nat), d < 8 →
    (let x := s.stack d
     (∀ a v, a < 16 → v < 2 → takesAtOnce s t a → mayWrite s a 0x30 d 0x02 → (v = 0 ∨ s.dieLoad d ≤ slowBudget) →
       ∃ u, exec (.opPoint t a d v) s = .next u ∧ u.answer = { status := 0, effectAt := t, data := [] } ∧
         u.cfgN 0x30 d 0x02 = v ∧ (∀ k, k ≠ d → u.stack k = s.stack k) ∧ u.str = s.str ∧
         (x.opState ≠ 2 → v = x.active → u.stack d = { x with opState := 0, target := v } ∧
           u.mem.waiting = removeFrom s.mem.waiting d ∧ 11 + 2 * d + (1 - v) ∉ u.clk.starting ∧
           11 + 2 * d + (1 - v) ∉ u.clk.locked) ∧
         (x.opState ≠ 2 → v ≠ x.active → u.stack d = { x with opState := 1, target := v } ∧
           u.mem.waiting = removeFrom s.mem.waiting d ++ [d] ∧
           (11 + 2 * d + v ∈ u.clk.starting ∨ 11 + 2 * d + v ∈ u.clk.locked)) ∧
         (x.opState = 2 → u.stack d = x ∧ u.clk = s.clk ∧
           u.mem.waiting = (if v = x.target then removeFrom s.mem.waiting d else removeFrom s.mem.waiting d ++ [d]))) ∧
     (∀ a, a < 16 → takesAtOnce s t a → mayWrite s a 0x30 d 0x02 → slowBudget < s.dieLoad d →
       exec (.opPoint t a d 1) s = .next ((s.at t).say 12 [] 0)) ∧
     (x.opState ≠ 1 ∨ 11 + 2 * d + x.target ∉ s.clk.locked ∨ s.twinsWhole d = false ∨ (∃ m, m < 8 ∧ (s.stack m).opState = 2) ∨
       s.mem.waiting.find? (fun m => decide ((s.stack m).st = 1)) ≠ some d →
       exec (.opChangeStart t d) s = .next (s.at t)) ∧
     (x.opState = 1 → 11 + 2 * d + x.target ∈ s.clk.locked → s.twinsWhole d = true →
       s.mem.waiting.find? (fun m => decide ((s.stack m).st = 1)) = some d →
       (∀ m, m < 8 → (s.stack m).opState ≠ 2) → ∃ v : State, exec (.opChangeStart t d) s = .next (v.excuseStack d) ∧
         v.stack d = { x with opState := 2, u := t + 10000 } ∧ v.mem.waiting = removeFrom s.mem.waiting d ∧
         (∀ k, k ≠ d → v.stack k = s.stack k) ∧ v = { s with now := t, mem := v.mem } ∧
         (∀ k, (v.excuseStack d).stack k = v.stack k) ∧ (v.excuseStack d).str.beds = s.str.beds) ∧
     (x.opState ≠ 2 ∨ x.holding = true ∨ t < x.u → exec (.stackHold t d) s = .next (s.at t)) ∧
     (x.opState = 2 → x.holding = false → x.u ≤ t → ∃ u, exec (.stackHold t d) s = .next u ∧
       u.stack d = { x with holding := true, st := 2 } ∧ (∀ k, k ≠ d → u.stack k = s.stack k) ∧
       (∀ b, bedDie b = d → b < 288 → (s.bed b).st = .soilTest → (u.bed b).untested = true ∧ (u.bed b).soilResult = 3) ∧
       (∀ b, bedDie b ≠ d ∨ (s.bed b).st ≠ .soilTest → u.bed b = s.bed b)) ∧
     (x.opState ≠ 2 ∨ x.holding = false ∨ x.u + 28000 < t → exec (.opChangeDone t d) s = .next (s.at t)) ∧
     (x.opState = 2 → x.holding = true → t ≤ x.u + 28000 → ∃ u, exec (.opChangeDone t d) s = .next u ∧
       (d ∉ s.mem.waiting →
         u.stack d = { x with active := x.target, opAt := t, st := 1, holding := false, opState := 0 } ∧
         11 + 2 * d + (1 - x.target) ∉ u.clk.locked ∧ 11 + 2 * d + (1 - x.target) ∉ u.clk.starting) ∧
       (d ∈ s.mem.waiting →
         u.stack d = { x with active := x.target, target := 1 - x.target, opAt := t, st := 1, holding := false, opState := 1 } ∧
         (11 + 2 * d + (1 - x.target) ∈ u.clk.locked ∨ 11 + 2 * d + (1 - x.target) ∈ u.clk.starting)) ∧
       u.mem.waiting = s.mem.waiting ∧ (∀ k, k ≠ d → u.stack k = s.stack k) ∧
       u = { s with now := t, mem := u.mem, clk := u.clk } ∧ u.mem.exchange = s.mem.exchange) ∧
     (x.opState ≠ 2 ∨ x.holding = false ∨ t < x.u + 28000 → exec (.opChangeTimeout t d) s = .next (s.at t)) ∧
     (x.opState = 2 → x.holding = true → x.u + 28000 ≤ t → exec (.opChangeTimeout t d) s =
       .next ((((s.at t).modStack d (fun x => { x with opState := 0 })).raiseFault (0xC00 + 16 * d + 3)).pruneStack d)))

/-- From R361 to R367, of a channel. A command to the channels of an allotment whose window does not serve its registers,
or to a channel of another allotment, does nothing. START of an idle channel runs it, or ends at once when COUNT is 0, and
of any other is ignored and counted. DISABLE stops a channel, with REMAINING undefined and, when it ran, the destination
range in the exchange area undefined, and clearing DISABLE leaves it idle. Of a running channel a request's data is cut at
COUNT; data already written or held is ignored; a request outside its space halts the channel with cause 5 when its turn
has come; data that comes early is held, and data is written in ascending order; the last of it ends the transfer. A failed
request is ignored unless its turn has come, is tried again while RETRY and RETRIES allow when it is a read of the host
that failed with cause 1 to 3, and else halts the channel with its cause. A change of the exchange area settles when no
channel of the allotment runs (R369, log entry 75). Where the spec leaves a value or an order open, the clauses follow the
model's choice of log entries 6, 13 and 75. -/
def Obligations.DmaChannels : Prop :=
  (∀ (s : State) (t a c : Nat), a < 16 → c < 1024 → s.serves a = false ∨ c / 64 ≠ a →
     exec (.start t a c) s = .next (s.at t) ∧ exec (.disable t a c) s = .next (s.at t) ∧
     exec (.disableClear t a c) s = .next (s.at t)) ∧
  ∀ (s : State) (t c : Nat), c < 1024 →
    (let d := s.dmaCh c
     let settled := (s.cfgN 0x31 (c / 64) 0x02, s.cfgN 0x31 (c / 64) 0x03) = ((s.area (c / 64)).1, (s.area (c / 64)).2.1)
     (s.serves (c / 64) = true →
       (d.st = 0 ∨ d.st = 2 → d.count ≠ 0 → ∃ u, exec (.start t (c / 64) c) s = .next u ∧
         u.dmaCh c = { d with st := 1, written := 0, early := [], tried := 0, remaining := BitVec.ofNat 32 d.count } ∧
         (∀ k, k ≠ c → u.dmaCh k = s.dmaCh k) ∧ u = { s with now := t, mem := u.mem } ∧ u.mem.exchange = s.mem.exchange) ∧
       (d.st = 0 ∨ d.st = 2 → d.count = 0 → ∃ v : State, exec (.start t (c / 64) c) s = .next (v.dmaDone c) ∧
         v.dmaCh c = { d with st := 1, written := 0, early := [], tried := 0, remaining := 0 } ∧
         (∀ k, k ≠ c → v.dmaCh k = s.dmaCh k) ∧ v = { s with now := t, mem := v.mem } ∧
         v.mem.exchange = s.mem.exchange ∧ ((v.dmaDone c).dmaCh c).st = 2 ∧
         ((v.dmaDone c).dmaCh c).doneCount = (d.doneCount + 1) % 4294967296) ∧
       (d.st ≠ 0 → d.st ≠ 2 → ∃ u, exec (.start t (c / 64) c) s = .next u ∧
         u.dmaCh c = { d with startIgnored := inc64 d.startIgnored } ∧ (∀ k, k ≠ c → u.dmaCh k = s.dmaCh k) ∧
         u = { s with now := t, mem := u.mem } ∧ u.mem.exchange = s.mem.exchange) ∧
       (d.disable = false → ∃ u, exec (.disable t (c / 64) c) s = .next u ∧
         u.dmaCh c = { d with disable := true, st := 4, early := [], remaining := Config.remainingUndefined s.fresh } ∧
         (∀ k, k ≠ c → u.dmaCh k = s.dmaCh k) ∧ u = { s with now := t, fresh := u.fresh, mem := u.mem } ∧
         (settled → d.st ≠ 1 ∨ d.dstSpace < 2 → u.mem.exchange = s.mem.exchange) ∧
         (settled → d.st = 1 → 2 ≤ d.dstSpace → ∀ b k, k < 2147483648 →
           d.dest + d.count ≤ (s.area (c / 64)).1 * 1048576 → (s.area (c / 64)).1 ≤ 2048 →
           u.exchangeByte b k = (if b = c / 64 ∧ d.dest ≤ k ∧ k < d.dest + d.count then Config.memoryUndefined s.fresh (k - d.dest)
             else s.exchangeByte b k)) ∧
         (∀ k < 1024, k / 64 = c / 64 → k ≠ c → (s.dmaCh k).st ≠ 1) →
           u.area (c / 64) = (if settled then s.area (c / 64) else
             (s.cfgN 0x31 (c / 64) 0x02, s.cfgN 0x31 (c / 64) 0x03, s.fresh + 2))) ∧
       (d.disable = true → exec (.disable t (c / 64) c) s = .next (s.at t) ∧
         ∃ u, exec (.disableClear t (c / 64) c) s = .next u ∧
           u.dmaCh c = { d with disable := false, st := 0, cause := 0, direction := false, retriesUsed := 0, faultAddr := 0 } ∧
           (∀ k, k ≠ c → u.dmaCh k = s.dmaCh k) ∧ u = { s with now := t, mem := u.mem } ∧ u.mem.exchange = s.mem.exchange) ∧
       (d.disable = false → exec (.disableClear t (c / 64) c) s = .next (s.at t))) ∧
     (d.st ≠ 1 → ∀ o l k, exec (.dmaRequestDone t c o l) s = .next (s.at t) ∧
       exec (.dmaRequestFail t c o k) s = .next (s.at t)) ∧
     (d.st = 1 →
       (∀ o l, l = [] ∨ d.count ≤ o ∨ o < d.written ∨ (∃ e ∈ d.early, e.1 = o) →
         exec (.dmaRequestDone t c o l) s = .next (s.at t)) ∧
       (∀ o (l : List Byte), l ≠ [] → d.written ≤ o → o < d.count → (∀ e ∈ d.early, e.1 ≠ o) →
         (let n := (l.take (d.count - o)).length
          let reads := s.dmaFits (c / 64) d.srcSpace (d.source + o) n false
          let writes := s.dmaFits (c / 64) d.dstSpace (d.dest + o) n true
          (reads = false ∨ writes = false → exec (.dmaRequestDone t c o l) s =
            .next (if o = d.written then (s.at t).dmaHalt c o 5 reads else s.at t)) ∧
          (reads = true → writes = true → ∃ v : State, v.dmaCh c =
              { d with early := (o, s.dmaSource (c / 64) d o (l.take (d.count - o))) :: d.early } ∧
            (∀ k, k ≠ c → v.dmaCh k = s.dmaCh k) ∧ v = { s with now := t, mem := v.mem } ∧ v.mem.exchange = s.mem.exchange ∧
            exec (.dmaRequestDone t c o l) s =
              .next (let w := v.dmaDrain c (d.early.length + 1)
                if (w.dmaCh c).written = d.count then w.dmaDone c else w) ∧
            (o ≠ d.written → (∀ e ∈ d.early, e.1 ≠ d.written) → exec (.dmaRequestDone t c o l) s = .next v) ∧
            (d.early = [] → o = d.written → d.dstSpace = 0 → n < d.count - o → ∃ u,
              exec (.dmaRequestDone t c o l) s = .next u ∧ (u.dmaCh c).written = o + n ∧ (u.dmaCh c).st = 1 ∧
              u.emits = .dmaHost t c (d.dest + o) (s.dmaSource (c / 64) d o (l.take (d.count - o))) :: s.emits ∧
              u.mem.exchange = s.mem.exchange)))) ∧
       (∀ l : List Byte, settled → d.srcSpace = 0 → d.dstSpace = 2 → d.early = [] → l ≠ [] →
         d.written + l.length ≤ d.count → d.count < 4294967296 → d.source + d.count ≤ 2 ^ 64 →
         d.dest + d.count ≤ (s.area (c / 64)).1 * 1048576 →
         ∃ u, exec (.dmaRequestDone t c d.written l) s = .next u ∧ (u.dmaCh c).written = d.written + l.length ∧
           (u.dmaCh c).st = (if d.written + l.length = d.count then 2 else 1) ∧
           (u.dmaCh c).doneCount = (if d.written + l.length = d.count then (d.doneCount + 1) % 4294967296 else d.doneCount) ∧
           (∀ i, i < l.length → u.exchangeByte (c / 64) (d.dest + d.written + i) = l.getD i 0) ∧
           (∀ b k, b * 2147483648 + k < c / 64 * 2147483648 + d.dest + d.written ∨
               c / 64 * 2147483648 + d.dest + d.written + l.length ≤ b * 2147483648 + k →
             u.exchangeByte b k = s.exchangeByte b k) ∧
           (∀ k, k ≠ c → u.dmaCh k = s.dmaCh k) ∧
           u = { s with now := t, mem := u.mem, allots := u.allots, irq := u.irq, emits := u.emits }) ∧
       (∀ o k, o ≠ d.written ∨ k = 0 ∨ 7 ≤ k → exec (.dmaRequestFail t c o k) s = .next (s.at t)) ∧
       (∀ k, 1 ≤ k → k ≤ 3 → d.srcSpace = 0 → d.retry = true → d.tried < d.retries →
         ∃ u, exec (.dmaRequestFail t c d.written k) s = .next u ∧
           u.dmaCh c = { d with tried := d.tried + 1, retriesTotal := inc64 d.retriesTotal } ∧
           (∀ k, k ≠ c → u.dmaCh k = s.dmaCh k) ∧ u = { s with now := t, mem := u.mem } ∧
           u.mem.exchange = s.mem.exchange) ∧
       (∀ k, 1 ≤ k → k < 7 → d.retry = false ∨ 3 < k ∨ d.srcSpace ≠ 0 ∨ d.retries ≤ d.tried →
         (let write := if k = 5 then s.dmaFits (c / 64) d.srcSpace (d.source + d.written) 1 false
            else decide (k = 6) && decide (d.srcSpace ≠ 0)
          (k ≠ 4 → exec (.dmaRequestFail t c d.written k) s = .next ((s.at t).dmaHalt c d.written k write)) ∧
          (k = 4 → exec (.dmaRequestFail t c d.written k) s = .next
            (((s.at t).readError (s.dmaStack (c / 64) d d.written) (0x0800 + c)).dmaHalt c d.written 4 false)) ∧
          (k ≠ 4 → settled → ∃ u, exec (.dmaRequestFail t c d.written k) s = .next u ∧
            u.dmaCh c = { d with st := 3, cause := k, direction := write, retriesUsed := d.tried, early := [],
                                 faultAddr := ((if write then d.dest else d.source) + d.written) % 2 ^ 64,
                                 remaining := BitVec.ofNat 32 (d.count - d.written) } ∧
            (∀ k, k ≠ c → u.dmaCh k = s.dmaCh k) ∧ u.mem.exchange = s.mem.exchange ∧
            u = { s with now := t, mem := u.mem, allots := u.allots, irq := u.irq, emits := u.emits })))))

/-- From R372, R377, R379, R380 and R383: the writes of family 40 that the Almanac takes at once, by an allotment that may
write the entry. INJECT_ENABLE (0 clears every FORCE bit), ALERT_SW, CLASS of a source (clamped to its legal codes, and
ignored for a fixed one), FORCE (ignored and counted while INJECT_ENABLE is 0), both of them ignored for an id that Table
15.1 does not list, CLEAR of a record, which offers every LIVE source of its scope again, and UNIT_RESET of a PRUNED unit
that no stream names; of a unit that is not PRUNED or is named, and of a pipeline die's stack, it is refused. Nothing
changes outside the fault collector but the notes of the slot and the answer. Where the spec leaves a value or an order
open, the clauses follow the model's choice of log entry 143. -/
def Obligations.FaultRows : Prop :=
  ∀ (s : State) (t a : Nat), a < 16 → takesAtOnce s t a →
    (∀ v, v < 2 → mayWrite s a 0x40 0 0x01 → ∃ u, exec (.injectEnable t a v) s = .next u ∧
      u.flt.inject = decide (v = 1) ∧ (v = 0 → ∀ id, (u.source id).force = false) ∧
      accepted { s.at t with flt := u.flt } u t) ∧
    (∀ v, v < 4 → mayWrite s a 0x40 0 0x06 → ∃ u, exec (.alertSw t a v) s = .next u ∧
      accepted { s.at t with flt := { s.flt with alertSw := BitVec.ofNat 2 v } } u t) ∧
    (∀ id i v, id < 4096 → sourceInfo id = some i → i.fixed = false → v ∈ i.legal → v < 256 →
      mayWrite s a 0x40 (0x1000 + id) 0x01 → ∃ u, exec (.classSet t a id v) s = .next u ∧
      u.classOf id = v ∧ (∀ k, k ≠ id → u.source k = s.source k) ∧ accepted { s.at t with flt := u.flt } u t) ∧
    (∀ id i v, id < 4096 → sourceInfo id = some i → i.fixed = false → v ∉ i.legal → v < 256 →
      mayWrite s a 0x40 (0x1000 + id) 0x01 → ∃ u, exec (.classSet t a id v) s = .next u ∧
      u.classOf id = clampClass i v ∧ (u.allot a).clamps = inc64 (s.allot a).clamps ∧
      accepted { s.at t with flt := u.flt, allots := u.allots } u t) ∧
    (∀ id v, id < 4096 → (∀ i, sourceInfo id = some i → i.fixed = true) → v < 256 →
      mayWrite s a 0x40 (0x1000 + id) 0x01 → ∃ u, exec (.classSet t a id v) s = .next u ∧ accepted (s.at t) u t) ∧
    (∀ id v, id < 4096 → sourceInfo id = none → v < 256 → mayWrite s a 0x40 (0x1000 + id) 0x02 →
      ∃ u, exec (.force t a id v) s = .next u ∧ accepted (s.at t) u t) ∧
    (∀ id, id < 4096 → (sourceInfo id).isSome = true → s.flt.inject = false →
      mayWrite s a 0x40 (0x1000 + id) 0x02 → ∃ u, exec (.force t a id 1) s = .next u ∧
      accepted { s.at t with flt := { s.flt with forceRefused := inc64 s.flt.forceRefused } } u t) ∧
    (∀ id, id < 4096 → (sourceInfo id).isSome = true →
      mayWrite s a 0x40 (0x1000 + id) 0x02 → ∃ u, exec (.force t a id 0) s = .next u ∧
      u.source id = { s.source id with force := false } ∧ accepted { s.at t with flt := u.flt } u t) ∧
    (∀ r, r < 17 → mayWrite s a 0x40 (0x100 + r) 0x02 → ∃ u, exec (.recordClear t a r) s = .next u ∧
      u.errRec r = (s.flt.sources.filter (fun e => e.2.live && (decide (r = 16) || decide (e.1 / 256 = r)))).foldl
        (fun x e => x.offer e.1 t (t / 2 + 1) s.traceable (e.2.force && !e.2.cause)) { raises := (s.errRec r).raises } ∧
      (∀ k, k ≠ r → u.errRec k = s.errRec k) ∧
      accepted { s.at t with flt := u.flt } u t) ∧
    (∀ d un, d ≤ 13 → un < 256 → s.isPruned d un = true → s.unitNamed d un = false → ¬ (d = 12 ∧ 8 ≤ un) →
      mayWrite s a 0x40 0 0x05 → ∃ u, exec (.unitReset t a d un) s = .next u ∧
      (d, un) ∈ u.flt.resetting ∧ (∀ id, sourceOfUnit d un id = true → (u.source id).force = false) ∧
      u.flt.pruned = s.flt.pruned ∧ accepted { s.at t with flt := u.flt } u t) ∧
    (∀ d un, d ≤ 13 → un < 256 → s.isPruned d un = false ∨ s.unitNamed d un = true ∨ (d = 12 ∧ 8 ≤ un) →
      mayWrite s a 0x40 0 0x05 → exec (.unitReset t a d un) s = .next ((s.at t).say 3 [] 0))

/-- From R370 and R378, of a source of Table 15.1: LIVE is cause or FORCE; a cause that appears, or a FORCE bit that is set
while INJECT_ENABLE is 1, of a source that is not LIVE is, while the collector records, counted, offered to the records of
its domain and of the device, raises source 0x6000 + id, and takes the reaction of the source's class (none for class log),
and a forced self-check of a bed flags the release unit that the bed writes; while the collector does not record (R489) the
cause or the bit is only noted; a cause or FORCE of a source that is LIVE already is only noted; a cause that is gone
leaves LIVE to FORCE, and nothing else changes: COUNT, the records, the interrupt source and the prunes remain. A source
that the table does not list (R371) is never raised. -/
def Obligations.FaultSources : Prop :=
  (∀ x : Source, x.live = (x.cause || x.force)) ∧ (∀ (v : State) (id : Nat), v.react id 0 = v) ∧
  (∀ (s : State) (t id : Nat), id < 4096 → sourceInfo id = none → exec (.faultRaise t id) s = .next (s.at t)) ∧
  (∀ (s : State) (t id : Nat), id < 4096 → (sourceInfo id).isSome = true → s.flt.recording = false →
    ∃ u, exec (.faultRaise t id) s = .next u ∧ u.source id = { s.source id with cause := true } ∧
      (∀ k, k ≠ id → u.source k = s.source k) ∧ u = { s with now := t, flt := u.flt } ∧
      u.flt = { s.flt with sources := u.flt.sources }) ∧
  ∀ (s : State) (t id : Nat), id < 4096 → (sourceInfo id).isSome = true →
    (s.flt.recording = true → (s.source id).live = false → ∃ v : State, exec (.faultRaise t id) s = .next (v.react id (s.classOf id)) ∧
      v.source id = { s.source id with cause := true, count := inc64 (s.source id).count } ∧
      v.errRec (id / 256) = ((s.errRec (id / 256)).count).offer id t (t / 2) s.traceable false ∧
      v.errRec 16 = ((s.errRec 16).count).offer id t (t / 2) s.traceable false ∧
      v.route true (0x6000 + id) = (s.route true (0x6000 + id)).raised ∧
      v.route false (0x6000 + id) = (s.route false (0x6000 + id)).raised ∧
      v.flt.pruned = s.flt.pruned ∧
      v = { s with now := t, flt := v.flt, irq := v.irq, allots := v.allots, emits := v.emits }) ∧
    (∀ a, a < 16 → takesAtOnce s t a → mayWrite s a 0x40 (0x1000 + id) 0x02 → s.flt.inject = true →
      (s.source id).live = true → ∃ u, exec (.force t a id 1) s = .next u ∧
        u.source id = { s.source id with force := true } ∧ (∀ k, k ≠ id → u.source k = s.source k) ∧
        (let f := { s.flt with sources := u.flt.sources }
         accepted { s.at t with flt := f } u t)) ∧
    (∀ a, a < 16 → takesAtOnce s t a → mayWrite s a 0x40 (0x1000 + id) 0x02 → s.flt.inject = true →
      s.flt.recording = true → (s.source id).live = false → ∃ u v : State, exec (.force t a id 1) s = .next u ∧
        v.source id = { s.source id with force := true, count := inc64 (s.source id).count } ∧
        v.errRec (id / 256) = ((s.errRec (id / 256)).count).offer id t (t / 2) s.traceable true ∧
        v.errRec 16 = ((s.errRec 16).count).offer id t (t / 2) s.traceable true ∧
        v.route true (0x6000 + id) = (s.route true (0x6000 + id)).raised ∧
        (8 ≤ id / 256 ∨ 36 ≤ id % 256 → v.str = s.str) ∧
        (id / 256 < 8 → id % 256 < 36 → (let n := 36 * (id / 256) + id % 256
          v.bed n = { s.bed n with unitFlag := true } ∧ ∀ k, k ≠ n → v.bed k = s.bed k)) ∧
        v = { s with now := t, str := v.str, flt := v.flt, irq := v.irq, allots := v.allots, emits := v.emits } ∧
        accepted (v.react id (s.classOf id)) u t) ∧
    ((s.source id).live = true → ∃ u, exec (.faultRaise t id) s = .next u ∧
      u.source id = { s.source id with cause := true } ∧ u = { s with now := t, flt := u.flt } ∧
      u.flt = { s.flt with sources := u.flt.sources }) ∧
    (∃ u, exec (.faultCauseGone t id) s = .next u ∧ u.source id = { s.source id with cause := false } ∧
      (u.source id).live = (s.source id).force ∧ (∀ k, k ≠ id → u.source k = s.source k) ∧
      u.flt = { s.flt with sources := u.flt.sources } ∧ u = { s with now := t, flt := u.flt })

/-- From R379, R381 and R383: a tick of a module that runs, while the ticks run, shows in ALIVE_RUN every group that has no
PRUNED unit and runs or has clear records, and toggles its ALIVE output when the hedge is supplied; the end of an alert
pulse, and not before; and the end of a unit reset that was ordered, of a pipeline or a pipeline die only while Dorsen runs
(R69), after which the unit and its sub-units are not PRUNED, unless a source of theirs is LIVE or the bed has failed two
soil tests in a row (R399, log entry 100), which is counted. -/
def Obligations.AliveTicksAndReturns : Prop :=
  ∀ (s : State) (t : Nat),
    (s.flt.ticking = false ∨ s.mod.on = false → exec (.aliveTick t) s = .next (s.at t)) ∧
    (s.flt.ticking = true → s.mod.on = true → ∃ u, exec (.aliveTick t) s = .next u ∧
      (∀ g, g < 8 → u.flt.aliveRun.getLsbD g = s.aliveOk g ∧
        u.flt.alive.getLsbD g = (s.flt.alive.getLsbD g ^^ (s.mod.hedgeV && s.aliveOk g))) ∧
      (s.mod.hedgeV = false → u.mod = s.mod ∧ u.emits = s.emits) ∧
      u = { s with now := t, flt := u.flt, mod := u.mod, emits := u.emits }) ∧
    (∀ o, o < 2 → exec (.alertPulseEnd t o) s = .next
      (let f := s.flt
       let f := if o = 0 ∧ f.pulse0 ≤ t then { f with pulse0 := 0 } else f
       let f := if o = 1 ∧ f.pulse1 ≤ t then { f with pulse1 := 0 } else f
       { s with now := t, flt := f })) ∧
    (∀ d un, d < 64 → (d, un) ∉ s.flt.resetting ∨ (8 ≤ d ∧ d < 10 ∧ s.shedLive = false) →
      exec (.unitResetEnd t d un) s = .next (s.at t)) ∧
    (∀ d un, d < 14 → un < 256 → (d, un) ∈ s.flt.resetting → (8 ≤ d → d < 10 → s.shedLive = true) →
      s.failedTwice d un = false → (∀ e ∈ s.flt.sources, sourceOfUnit d un e.1 = true → e.2.live = false) →
      ∃ u, exec (.unitResetEnd t d un) s = .next u ∧ (d, un) ∉ u.flt.resetting ∧
        (∀ x, x ∈ u.flt.pruned ↔ x ∈ s.flt.pruned ∧ x ∉ subUnits d un) ∧
        u.rings = s.rings ∧ u.alm = s.alm ∧ u.cal = s.cal ∧ u.gauge = s.gauge ∧ u.clk = s.clk) ∧
    (∀ d un, d < 14 → un < 256 → (d, un) ∈ s.flt.resetting → (d < 10 → un ≠ 0xFF) → (8 ≤ d → d < 10 → s.shedLive = true) →
      (d < 8 → un < 36 → s.isPruned d un = true) → (s.failedTwice d un = true ∨
      (∃ e ∈ s.flt.sources, sourceOfUnit d un e.1 = true ∧ e.2.live = true)) →
      ∃ u, exec (.unitResetEnd t d un) s = .next u ∧ u.flt.pruned = s.flt.pruned ∧ (d, un) ∉ u.flt.resetting ∧
        u.flt.resetFails = inc64 s.flt.resetFails ∧ u = { s with now := t, flt := u.flt }) ∧
    (∀ d, d < 10 → (d, 0xFF) ∈ s.flt.resetting → (8 ≤ d → s.shedLive = true) →
      (∃ e ∈ s.flt.sources, sourceOfUnit d 0xFF e.1 = true ∧ e.2.live = true ∧ e.1 ≠ 0xF00 + 16 * d ∧
        e.1 ≠ 0xF01 + 16 * d) →
      ∃ u, exec (.unitResetEnd t d 0xFF) s = .next u ∧ u.flt.pruned = s.flt.pruned ∧ (d, 0xFF) ∉ u.flt.resetting ∧
        u.flt.resetFails = inc64 s.flt.resetFails ∧ u.link d = {} ∧
        u = { s with now := t, flt := u.flt, links := u.links })

/-- From R387, R388 and R390, of a calibration: CAL_START that the Almanac takes from an allotment that may write it is
refused FORMAT for a list that is empty, too long, of no unit or mixed in its sides, STATE for a pair of a PRUNED engine,
and BUSY while one runs or the other side holds pending trims; else it runs a list of sensors, or interrupts and measures
the first eight of a list of pairs (log entry 77). A pair's values in range are staged and its ports realign; values out of
range raise the engine's source and abandon the engine's pairs; the last pair ends the calibration. The results of a list
of sensors are staged and end it. A port that is not aligned 100 µs after its interruption loses its signal, and not
before. Where the spec leaves a value or an order open, the clauses follow the model's choice of log entries 77 and 143. -/
def Obligations.CalibrationRuns : Prop :=
  ∀ (s : State) (t a : Nat), a < 16 →
    (takesAtOnce s t a → mayWrite s a 0x41 0 0x01 →
      (∀ k (l : List Nat), k < 256 → l.length < 256 → (∀ x ∈ l, x < 256) →
        (let bad := 2 ≤ k ∨ l = [] ∨ 145 ≤ l.length ∨ (∃ x ∈ l, (if k = 0 then 128 else 144) ≤ x) ∨
            (k = 0 ∧ ∃ x ∈ l, x / 64 ≠ l.headD 0 / 64)
         let pruned := k = 0 ∧ ∃ x ∈ l, s.isPruned 11 (x / 8) = true
         let busy := s.cal.running = true ∨ (k = 0 ∧ s.otherPending (l.headD 0 / 64) = true)
         (bad → exec (.calStart t a k l) s = .next ((s.at t).say 4 [] 0)) ∧
         (¬ bad → pruned → exec (.calStart t a k l) s = .next ((s.at t).say 3 [] 0)) ∧
         (¬ bad → ¬ pruned → busy → exec (.calStart t a k l) s = .next ((s.at t).say 5 [] 0)) ∧
         (¬ bad → ¬ pruned → ¬ busy → ∃ u v : State, exec (.calStart t a k l) s = .next u ∧
           (let cal := { s.cal with running := true, kind := k, todo := l.foldl (fun k x => insertNat x k) [], batch := [] }
            v = { s.at t with cal := cal }) ∧ accepted v.nextBatch u t))) ∧
      (∀ l : List Nat, l ≠ [] → l.length ≤ 144 → (∀ x ∈ l, x < 144) → s.cal.running = false →
        ∃ u, exec (.calStart t a 1 l) s = .next u ∧
          (let todo := l.foldl (fun k x => insertNat x k) []
           let cal := { s.cal with running := true, kind := 1, todo := todo, batch := [] }
           accepted { s.at t with cal := cal } u t)) ∧
      (∀ p, p < 128 → s.isPruned 11 (p / 8) = false → s.cal.running = false → s.otherPending (p / 64) = false →
        ∃ u, exec (.calStart t a 0 [p]) s = .next u ∧ u.cal.running = true ∧ u.cal.batch = [p] ∧ u.cal.todo = [] ∧
          (u.pair p).interruptions = inc64 (s.pair p).interruptions ∧ (u.pair p).active = (s.pair p).active ∧
          (∀ lp, (u.port lp).interruptedTo = (if lp ∈ s.pairPorts p then t + 350000 else (s.port lp).interruptedTo)) ∧
          accepted { s.at t with cal := u.cal, fwd := u.fwd } u t)) ∧
    (∀ p l, p < 128 → (p ∉ s.cal.batch → exec (.pairMeasureDone t p l) s = .next (s.at t)) ∧
      (p ∈ s.cal.batch → trimsInRange l = true → ∃ v : State, exec (.pairMeasureDone t p l) s = .next v.nextBatch ∧
        v.cal.batch = removeFrom s.cal.batch p ∧ v.cal.todo = s.cal.todo ∧ v.cal.running = s.cal.running ∧
        v.pair p = { s.pair p with lastCal := t, pending := some l } ∧ (∀ q, q ≠ p → v.pair q = s.pair q) ∧
        (v.source (0xB02 + 4 * (p / 8))).cause = false ∧
        (∀ lp, v.port lp = (let x := s.port lp
          if lp ∈ s.pairPorts p ∧ ∀ q ∈ removeFrom s.cal.batch p, lp ∉ s.pairPorts q then
            { x with interruptedTo := 0, aligned := true } else x)) ∧
        v = { s with now := t, cal := v.cal, fwd := v.fwd, flt := v.flt }) ∧
      (p ∈ s.cal.batch → trimsInRange l = false → ∃ v : State, exec (.pairMeasureDone t p l) s =
          .next (v.raiseFault (0xB02 + 4 * (p / 8))).nextBatch ∧
        v.cal.batch = s.cal.batch.filter (fun q => !decide (q = p) && !decide (q / 8 = p / 8)) ∧
        v.cal.todo = s.cal.todo.filter (fun q => !decide (q / 8 = p / 8)) ∧
        v.pair p = { s.pair p with lastCal := t } ∧ (∀ q, q ≠ p → v.pair q = s.pair q) ∧
        v = { s with now := t, cal := v.cal, fwd := v.fwd }) ∧
      (s.cal.batch = [p] → s.cal.todo = [] → s.cal.running = true → s.cal.kind = 0 → trimsInRange l = true →
        ∃ u, exec (.pairMeasureDone t p l) s = .next u ∧ u.cal.running = false ∧ u.cal.batch = [] ∧
          u.pair p = { s.pair p with lastCal := t, pending := some l } ∧ (∀ q, q ≠ p → u.pair q = s.pair q) ∧
          (∀ lp, lp ∈ s.pairPorts p → (u.port lp).interruptedTo = 0 ∧ (u.port lp).aligned = true) ∧
          u = { s with now := t, cal := u.cal, fwd := u.fwd, flt := u.flt })) ∧
    (∀ lp, lp < 1024 → ((s.port lp).interruptedTo = 0 ∨ t < (s.port lp).interruptedTo + 100000 →
        exec (.alignTimeout t lp) s = .next (s.at t)) ∧
      ((s.port lp).interruptedTo ≠ 0 → (s.port lp).interruptedTo + 100000 ≤ t → ∃ u, exec (.alignTimeout t lp) s = .next u ∧
        (let p := s.port lp
         let lost := p.st = .listen ∨ p.st = .forwarding
         u.port lp = { p with interruptedTo := 0, aligned := false, st := if lost then .down else p.st }) ∧
        (∀ k, k ≠ lp → u.port k = s.port k) ∧
        u = { s with now := t, fwd := u.fwd, irq := u.irq, allots := u.allots, emits := u.emits })) ∧
    (∀ l, (s.cal.running = false ∨ s.cal.kind ≠ 1 → exec (.sensorCalDone t l) s = .next (s.at t)) ∧
      (s.cal.running = true → s.cal.kind = 1 → ∃ u, exec (.sensorCalDone t l) s = .next u ∧
        u.cal.running = false ∧ u.cal.todo = [] ∧
        (∀ k, u.sensor k = l.foldl (fun x r => if r.1 = k ∧ k ∈ s.cal.todo ∧ sensorInRange r.2.1 r.2.2 = true then
          { x with pending := some r.2 } else x) (s.sensor k)) ∧
        u.cal.pairs = s.cal.pairs ∧ u = { s with now := t, cal := u.cal }))

/-- From R391, R392, R394 and R395: EPOCH arms a time at least 1 ms ahead, and 0 the first whole millisecond at least 1 ms
ahead, to which an earlier time is clamped; nothing happens before the armed instant; at it, with nothing pending, an empty
epoch is counted; else every pending value, but for the pairs that are being measured, becomes active, a pair whose values
change is interrupted for 20 µs, and the active banks are saved. DISCARD forgets what is pending and armed and leaves what
is active. TRIM_SET answers the active banks; TRIM_RESTORE stages a set that is whole and refuses one of another length.
Where the spec leaves a value or an order open, the clauses follow the model's choice of log entries 77 and 143. -/
def Obligations.TrimEpochs : Prop :=
  ∀ (s : State) (t a : Nat), a < 16 →
    (takesAtOnce s t a → mayWrite s a 0x41 0 0x04 →
      (∀ v, t + 1000000 ≤ v → v < 2 ^ 64 → ∃ u, exec (.epoch t a v) s = .next u ∧
        (let cal := { s.cal with armed := v }
         accepted { s.at t with cal := cal } u v)) ∧
      (∀ v, v ≠ 0 → v < t + 1000000 → ∃ u, exec (.epoch t a v) s = .next u ∧
        (let v := (t + 1000000 + 999999) / 1000000 * 1000000
         let cal := { s.cal with armed := v }
         (u.allot a).clamps = inc64 (s.allot a).clamps ∧ accepted { s.at t with cal := cal, allots := u.allots } u v)) ∧
      (∃ u, exec (.epoch t a 0) s = .next u ∧
        (let v := (t + 1000000 + 999999) / 1000000 * 1000000
         let cal := { s.cal with armed := v }
         accepted { s.at t with cal := cal } u v))) ∧
    (s.cal.armed = 0 ∨ t < s.cal.armed → exec (.trimEpoch t) s = .next (s.at t)) ∧
    (s.cal.armed ≠ 0 → s.cal.armed ≤ t →
      ((∀ e ∈ s.cal.pairs, e.2.pending = none) → (∀ e ∈ s.cal.sensors, e.2.pending = none) →
        ∃ u, exec (.trimEpoch t) s = .next u ∧
          (let cal := { s.cal with armed := 0, emptyEpochs := inc64 s.cal.emptyEpochs }
           u = { s with now := t, cal := cal })) ∧
      ((∃ e ∈ s.cal.pairs, e.2.pending.isSome = true ∧ e.1 ∉ s.cal.batch) ∨ (∃ e ∈ s.cal.sensors, e.2.pending.isSome = true) →
        (s.cal.pairs.map (·.1)).Nodup → (s.cal.sensors.map (·.1)).Nodup → ∃ u, exec (.trimEpoch t) s = .next u ∧
          (∀ p, (u.pair p).active = (if p ∈ s.cal.batch then (s.pair p).active else (s.pair p).pending.getD (s.pair p).active) ∧
            ((u.pair p).pending = if p ∈ s.cal.batch then (s.pair p).pending else none)) ∧
          (∀ n, (u.sensor n).active = (s.sensor n).pending.getD (s.sensor n).active ∧ (u.sensor n).pending = none) ∧
          u.cal.armed = 0 ∧ u.cal.epochAt = t ∧ u.cal.saved = true ∧ u.cal.emptyEpochs = s.cal.emptyEpochs ∧
          u = { s with now := t, cal := u.cal, fwd := u.fwd }) ∧
      (∀ p x v, s.cal.pairs = [(p, x)] → s.cal.sensors = [] → s.cal.batch = [] → x.pending = some v → v ≠ x.active →
        ∃ u, exec (.trimEpoch t) s = .next u ∧ (u.pair p).active = v ∧ (u.pair p).pending = none ∧
          (u.pair p).interruptions = inc64 x.interruptions ∧ u.cal.armed = 0 ∧ u.cal.epochAt = t ∧ u.cal.saved = true ∧
          (∀ lp, lp ∈ s.pairPorts p → (u.port lp).interruptedTo = t + 20000) ∧
          u = { s with now := t, cal := u.cal, fwd := u.fwd })) ∧
    (takesAtOnce s t a → mayWrite s a 0x41 0 0x08 → ∃ u, exec (.discard t a) s = .next u ∧ u.cal.armed = 0 ∧
      (∀ p, (u.pair p).pending = none ∧ (u.pair p).active = (s.pair p).active) ∧
      (∀ n, (u.sensor n).pending = none ∧ (u.sensor n).active = (s.sensor n).active) ∧
      accepted { s.at t with cal := u.cal } u t) ∧
    (takesAtOnce s t a → mayRead s a 0x41 0 0x06 →
      exec (.trimSet t a) s = .next ((s.at t).say 0 (s.at t).trimSet (t / 10 * 10))) ∧
    (∀ side set, takesAtOnce s t a → mayWrite s a 0x41 0 0x07 →
      (set.length ≠ 4712 → exec (.trimRestore t a side set) s = .next ((s.at t).say 4 [] 0)) ∧
      (∃ u, exec (.trimRestore t a side set) s = .next u ∧
        (let r := (s.at t).trimRestore a (natLe 1 side ++ set)
         u.answer.status = r.1 ∧ (r.1 = 0 → accepted r.2 u t) ∧
         (∀ p, (u.pair p).active = (s.pair p).active) ∧ (∀ n, (u.sensor n).active = (s.sensor n).active))))

/-- From R396, R397 and R399, of a bed: the Shed starts a test on a bed that is due and may be tested, which is counted,
and on no other; a test that every step passed leaves it IDLE and tested, after which a trap request that was held is
taken; one that failed a step leaves it PRUNED with that step; RETEST of a bed that has not failed twice and been PRUNED is
refused. Where the spec leaves a value or an order open, the clauses follow the model's choice of log entry 143. -/
def Obligations.SoilTests : Prop :=
  ∀ (s : State) (t b : Nat), b < 288 →
    ((s.shedLive = false ∨ (s.at t).soilMay b = false) → exec (.soilTestStart t b) s = .next (s.at t)) ∧
    (s.shedLive = true → (s.at t).soilMay b = true → ∃ u, exec (.soilTestStart t b) s = .next u ∧
      (u.bed b).st = .soilTest ∧ u.str.soilTests = bumpAt s.str.soilTests 0 1 ∧ (∀ k, k ≠ b → u.bed k = s.bed k) ∧
      u = { s with now := t, str := u.str, irq := u.irq, allots := u.allots, emits := u.emits }) ∧
    ((s.bed b).st ≠ .soilTest → ∀ k, exec (.soilTestEnd t b k) s = .next (s.at t)) ∧
    ((s.bed b).st = .soilTest → (s.bed b).trapHeld = true → ∃ v : State, exec (.soilTestEnd t b 0) s = .next (v.trapRequest b 0) ∧
      (v.bed b).st = .idle ∧ (v.bed b).untested = false ∧ (v.bed b).owed = false ∧ (v.bed b).lastPass = t ∧
      (v.bed b).soilResult = 1 ∧ (v.bed b).soilFails = 0 ∧ v.str.soilTests = bumpAt s.str.soilTests 1 1) ∧
    ((s.bed b).st = .soilTest → (s.bed b).trapHeld = false → ∃ u, exec (.soilTestEnd t b 0) s = .next u ∧
      (u.bed b).st = .idle ∧ (u.bed b).untested = false ∧ (u.bed b).owed = false ∧ (u.bed b).lastPass = t ∧
      (u.bed b).soilResult = 1 ∧ (u.bed b).soilFails = 0 ∧ u.str.soilTests = bumpAt s.str.soilTests 1 1) ∧
    (∀ k, k ≠ 0 → (s.bed b).st = .soilTest → s.isPruned (bedDie b) (b % 36) = false →
      ∃ u, exec (.soilTestEnd t b k) s = .next u ∧ (u.bed b).st = .pruned ∧ (u.bed b).soilResult = 2 ∧
        (u.bed b).failStep = k ∧ (u.bed b).soilFails = (s.bed b).soilFails + 1 ∧
        u.isPruned (bedDie b) (b % 36) = true ∧ u.str.soilTests = bumpAt s.str.soilTests 2 1) ∧
    (∀ a, a < 16 → takesAtOnce s t a → mayWrite s a 0x42 (0x1000 + b) 0x04 →
      ((s.bed b).st ≠ .pruned ∨ (s.bed b).soilFails < 2 → exec (.retest t a b) s = .next ((s.at t).say 3 [] 0)) ∧
      ((s.bed b).st = .pruned → 2 ≤ (s.bed b).soilFails → ∃ u, exec (.retest t a b) s = .next u ∧
        accepted (((s.at t).modBed b (fun x => { x with soilFails := 1 })).bedReset b) u t))

/-- From R404 to R408 and R411: a COUNTER_SEL, FREEZE, SNAPSHOT or HIST_CLEAR that the Almanac takes at once. A selection
of another length is refused with FORMAT; of a value outside its range it is clamped; a selection starts the counter of
every bed at 0, or at PRESET when it samples; FREEZE stops or restarts all counters; SNAPSHOT stamps its time and copies
the counters of every bed that is neither OFF nor WAKING; HIST_CLEAR empties the histograms of a stream that codes no
pictures, and of one that does at its next boundary. A counter that does not sample, or of a bed that is OFF or WAKING,
takes no sample; one that samples and is not frozen reloads PRESET, unless the model already reloaded it when it passed the
end (log entry 78), and enters its sample in the ring of a0. Where the spec leaves a value or an order open, the clauses
follow the model's choice of log entries 78 and 143. -/
def Obligations.BedCounters : Prop :=
  ∀ (s : State) (t a : Nat), a < 16 → takesAtOnce s t a →
    (∀ i v, i < 8 → mayWrite s a 0x43 0 (0x10 + i) → v.length = 11 → legalCounter v = v →
      ∃ u, exec (.counterSel t a i v) s = .next u ∧ u.cfg 0x43 0 (0x10 + i) = v ∧
        (∀ b, b < 288 → (s.bed b).bc.length = 8 →
          (u.bed b).bc.getD i 0 = (if fieldAt v 2 1 = 1 then fieldAt v 3 8 else 0) ∧ i ∉ (u.bed b).sampling) ∧
        (∀ b, (u.bed b).st = (s.bed b).st ∧ (u.bed b).mic = (s.bed b).mic) ∧ u.str.slots = s.str.slots) ∧
    (∀ i v, i < 8 → mayWrite s a 0x43 0 (0x10 + i) → v.length ≠ 11 → exec (.counterSel t a i v) s = .next ((s.at t).say 4 [] 0)) ∧
    (∀ i v, i < 8 → mayWrite s a 0x43 0 (0x10 + i) → v.length = 11 → legalCounter v ≠ v →
      ∃ u, exec (.counterSel t a i v) s = .next u ∧ u.cfg 0x43 0 (0x10 + i) = legalCounter v ∧
        u.answer.status = 0 ∧ (u.allot a).clamps = inc64 (s.allot a).clamps ∧
        (∀ b, (u.bed b).st = (s.bed b).st ∧ (u.bed b).mic = (s.bed b).mic) ∧ u.str.slots = s.str.slots) ∧
    (∀ v, v < 2 → mayWrite s a 0x43 0 0x02 → ∃ u, exec (.freeze t a v) s = .next u ∧ u.str.frozen = decide (v = 1) ∧
      (∀ b, (u.bed b).st = (s.bed b).st ∧ (u.bed b).mic = (s.bed b).mic) ∧ accepted { s.at t with str := u.str } u t) ∧
    (mayWrite s a 0x43 0 0x03 → ∃ u, exec (.snapshot t a) s = .next u ∧ u.str.snapTime = t ∧
      (∀ b, b < 288 → (u.bed b).snap =
        (if (s.bed b).st = .off ∨ (s.bed b).st = .waking then (s.bed b).snap else (u.bed b).bc)) ∧
      accepted { s.at t with str := u.str } u t) ∧
    (∀ n, n < 8192 → mayWrite s a 0x43 (0x1000 + n) 0x03 → (s.slot n).st < 3 → ∃ u, exec (.histClear t a n) s = .next u ∧
      u.slot n = { s.slot n with histClear := none, coding := {}, residence := {} } ∧ (∀ k, k ≠ n → u.slot k = s.slot k) ∧
      accepted { s.at t with str := u.str } u t) ∧
    (∀ n, n < 8192 → mayWrite s a 0x43 (0x1000 + n) 0x03 → 3 ≤ (s.slot n).st → ∃ u, exec (.histClear t a n) s = .next u ∧
      u.slot n = { s.slot n with histClear := some ((s.at t).nextBoundary n) } ∧ (∀ k, k ≠ n → u.slot k = s.slot k) ∧
      accepted { s.at t with str := u.str } u ((s.at t).nextBoundary n)) ∧
    (∀ b i pc sp n p r c, b < 288 → i < 8 → n < 8192 →
      ((s.counterSel i).2.2.1 = false ∨ s.str.frozen = true ∨ (s.bed b).st = .off ∨ (s.bed b).st = .waking → exec (.bedCounterOverflow t b i pc sp n p r c) s = .next (s.at t)) ∧
      ((s.counterSel i).2.2.1 = true → s.str.frozen = false → (s.bed b).st ≠ .off → (s.bed b).st ≠ .waking →
        ∃ v : State, exec (.bedCounterOverflow t b i pc sp n p r c) s = .next (v.event 0 (s.cfgN 0x43 0 0x05)
            (0x1000 + 8 * b) 0x30 0 (samplePayload b i pc sp n p r c ((s.bed b).missed.getD i 0))) ∧
          (let x := s.bed b
           let bc := if i ∈ x.sampling then x.bc else x.bc.set i (s.counterSel i).2.2.2
           v.bed b = { x with bc := bc, missed := x.missed.set i 0, sampling := removeFrom x.sampling i }) ∧
          (∀ k, k ≠ b → v.bed k = s.bed k) ∧ v = { s with now := t, str := v.str }) ∧
      ((s.counterSel i).2.2.1 = true → s.str.frozen = false → (s.bed b).st = .running → i ∉ (s.bed b).sampling →
        (s.bed b).bc.length = 8 → (s.ring 0 (s.cfgN 0x43 0 0x05)).enable = true →
        (s.ring 0 (s.cfgN 0x43 0 0x05)).entries.length < 4096 →
        ∃ u, exec (.bedCounterOverflow t b i pc sp n p r c) s = .next u ∧
          (u.bed b).bc = (s.bed b).bc.set i (s.counterSel i).2.2.2 ∧ (u.bed b).mic = (s.bed b).mic ∧
          (u.ring 0 (s.cfgN 0x43 0 0x05)).entries = (s.ring 0 (s.cfgN 0x43 0 0x05)).entries ++
            [ringWord t (0x1000 + 8 * b) 0x30 0 (samplePayload b i pc sp n p r c ((s.bed b).missed.getD i 0))] ∧
          (∀ k, k ≠ b → u.bed k = s.bed k)))

/-- From R412 and R413: a harvest list that names objects which the allotment may see, beds among them (log entry 78),
waits to take effect; one that is too long or names none is refused with FORMAT, and one of an object that the allotment
may not see with RIGHTS; at an instant that is no multiple of the harvest period nothing is harvested; at one that is,
every allotment's list that is due takes effect, the counters it names are imaged together, a copy that had not ended is
abandoned and counted, and while all of Dorsen restarts the copy of the counters is taken again (R310). The end of a copy
shows it. Where the spec leaves a value or an order open, the clauses follow the model's choice of log entries 78, 102 and
143. -/
def Obligations.Harvests : Prop :=
  (∀ (s : State) (t a c : Nat) (l : List (Nat × Nat)), a < 16 → c < 16 → takesAtOnce s t a →
    mayWrite s a 0x43 (0x100 + c) 0x01 → (∀ e ∈ l, e.1 < 256 ∧ e.2 < 4294967296) →
    ((l.map (fun e => harvestSlots e.1)).sum ≤ 4032 → (∀ e ∈ l, (harvestObject e.1 e.2).isSome = true) →
      ((∀ e ∈ l, e.1 = 9 ∨ s.harvestRight c e.1 e.2 = true) → ∃ u, exec (.harvestList t a c l) s = .next u ∧
        (u.allot c).harvest = { (s.allot c).harvest with pend := some (l, t) } ∧ (∀ k, k ≠ c → u.allot k = s.allot k) ∧
        accepted { s.at t with allots := u.allots } u t) ∧
      ((∃ e ∈ l, e.1 ≠ 9 ∧ s.harvestRight c e.1 e.2 = false) →
        exec (.harvestList t a c l) s = .next ((s.at t).say 2 [] 0))) ∧
    (4032 < (l.map (fun e => harvestSlots e.1)).sum ∨ (∃ e ∈ l, harvestObject e.1 e.2 = none) →
      exec (.harvestList t a c l) s = .next ((s.at t).say 4 [] 0))) ∧
  (∀ (s : State) (t : Nat),
    (t % (s.str.harvestMs * 1000000) ≠ 0 → exec (.harvestInstant t) s = .next (s.at t)) ∧
    (t % (s.str.harvestMs * 1000000) = 0 → ∃ u : State,
      exec (.harvestInstant t) s = .next (if s.shed.restarting then u.copyCounters else u) ∧
      u.str.harvestMs = s.cfgN 0x43 0 0x01 ∧ u.str.snapTime = t ∧
      (∀ a, a < 16 → (u.allot a).harvest =
        (let h := (s.allot a).harvest
         let due := h.pend.any (fun p => decide (p.2 + 1000000 ≤ t))
         let list := if due then (h.pend.map (·.1)).getD [] else h.list
         let image : HImage :=
           { time := t, records := list.map (fun e => ((s.at t).snapshot).harvestRecord a e.1 e.2), frozen := s.str.frozen,
             snapTime := t, periodMs := s.str.harvestMs }
         { h with list := list, pend := if due then none else h.pend,
                  listGen := if due then (h.listGen + 1) % 65536 else h.listGen,
                  skipped := if h.copying.isSome then (h.skipped + 1) % 4294967296 else h.skipped,
                  copying := some image })) ∧
      u = { s with now := t, str := u.str, allots := u.allots })) ∧
  (∀ (s : State) (t a : Nat), a < 16 →
    ((s.allot a).harvest.copying = none → exec (.harvestComplete t a) s = .next (s.at t)) ∧
    (∀ i, (s.allot a).harvest.copying = some i → ∃ u, exec (.harvestComplete t a) s = .next u ∧
      (let h := (s.allot a).harvest
       (u.allot a).harvest = { h with image := i, copying := none, seq := inc64 h.seq }) ∧
      (∀ k, k ≠ a → u.allot k = s.allot k) ∧ u = { s with now := t, allots := u.allots }))

/-- From R418, R420, R421, R425 and R427, of a Rain Gauge. Without RG_KEEP it does nothing, and without the module, or the
die's rail, no increment or time comes. A meter block sends what it has counted: what it counted before the last boundary
goes to the interval that waits to be closed, or, when that is closed, into the open one as a late increment; the rest into
the open one; a gauge that waits for time, or for the first boundary after a loss, counts nothing. A block that sends
nothing is noted as missing. Time that is traceable is the gauge's, and time that is not leaves it free; after a loss it
makes the open interval the GAP interval. At a whole number of intervals the interval that waits is closed, the open one
waits and the next begins under the settings that stand, and at no other instant; the record is stored 10 ms after its
boundary and not before, numbered by the next SEQ, in place of the oldest when the store is full. Gauge time is PTP time
(log entry 31, the model's choice). Where the spec leaves a value or an order open, the clauses follow the model's choice
of log entries 31 and 79. -/
def Obligations.GaugeIntervals : Prop :=
  ∀ (s : State) (t : Nat),
    (s.gauge.powered = false ∨ s.mod.on = false → exec (.gaugeTime t) s = .next (s.at t)) ∧
    (s.gauge.powered = false ∨ (s.at t).gaugeFree = false → exec (.gaugeTimeFree t) s = .next (s.at t)) ∧
    (s.gauge.powered = false ∨ s.gauge.restarting = true ∨ t % (s.gauge.interval * 1000000000) ≠ 0 ∨ t ≤ s.gauge.start →
      exec (.gaugeBoundary t) s = .next (s.at t)) ∧
    (∀ die, die < 2 →
      (s.gauge.powered = false ∨ s.mod.on = false ∨ s.rail (4 + die) ≠ 1 → exec (.meterSend t die) s = .next (s.at t) ∧
        exec (.meterMissing t die) s = .next (s.at t)) ∧
      (s.gauge.powered = true → s.mod.on = true → s.rail (4 + die) = 1 →
        (∃ u, exec (.meterSend t die) s = .next u ∧
          (let g := s.gauge
           let was := if die = 0 then g.old0 else g.old1
           let new := if die = 0 then g.meter0 else g.meter1
           let idle := g.restarting || g.flags.gap
           let late := decide (was ≠ []) && decide (g.closing = none) && !idle
           let usage := if idle then g.usage else mergeUsage (if late then mergeUsage g.usage was else g.usage) new
           let closing := g.closing.map (fun c =>
             { c with usage := if c.flags.gap then c.usage else mergeUsage c.usage was })
           let g := { g with usage := usage, closing := closing, lateIncrements := g.lateIncrements + (if late then 1 else 0) }
           let g := if die = 0 then { g with meter0 := [], old0 := [] } else { g with meter1 := [], old1 := [] }
           u = { s with now := t, gauge := g })) ∧
        (∃ u, exec (.meterMissing t die) s = .next u ∧
          (let f := s.gauge.flags
           let f := if die = 0 then { f with missing0 := true } else { f with missing1 := true }
           let g := { s.gauge with flags := f }
           u = { s with now := t, gauge := g })))) ∧
    (s.gauge.powered = true → s.mod.on = true → ∃ u, exec (.gaugeTime t) s = .next u ∧
      (let g := if s.traceable then { s.gauge with lastHub := t } else
         (let f := { s.gauge.flags with timeFree := true }
          { s.gauge with flags := f })
       let gap := { g.flags with gap := true }
       let g := if g.restarting then { g with restarting := false, usage := [], start := g.lastEnd, flags := gap } else g
       u = { s with now := t, gauge := g })) ∧
    (s.gauge.powered = true → (s.at t).gaugeFree = true → ∃ u, exec (.gaugeTimeFree t) s = .next u ∧
      (let f := { s.gauge.flags with timeFree := true }
       let g := { s.gauge with flags := f }
       u = { s with now := t, gauge := g })) ∧
    (s.gauge.powered = true → s.gauge.restarting = false → t % (s.gauge.interval * 1000000000) = 0 → s.gauge.start < t →
      ∃ u, exec (.gaugeBoundary t) s = .next u ∧
        (let v := (s.at t).closeInterval
         let closing : GaugeClosing :=
           { start := s.gauge.start, finish := t, usage := s.gauge.usage, flags := s.gauge.flags, tariff := s.gauge.tariff }
         let flags : GaugeFlags := { sealOpen := s.gauge.sealOpen, moduleOff := !s.mod.on, timeFree := v.gaugeFree }
         let g := { v.gauge with closing := some closing, start := t, usage := [], flags := flags,
                                 interval := leNat ((s.at t).gaugeSetting 0x01), tariff := (s.at t).gaugeSetting 0x02,
                                 old0 := s.gauge.meter0, old1 := s.gauge.meter1, meter0 := [], meter1 := [] }
         u = { v with gauge := g }) ∧
        (s.gauge.closing = none → u.gauge.records = s.gauge.records ∧ u = { s with now := t, gauge := u.gauge }) ∧
        ((∀ e ∈ s.alm.slotOld, e.1 ≠ t / 10) →
          u.gauge.interval = s.cfgN 0x50 0 0x01 ∧ u.gauge.tariff = s.cfg 0x50 0 0x02)) ∧
    (s.gauge.closing = none ∨ s.gauge.powered = false → exec (.gaugeClose t) s = .next (s.at t)) ∧
    (∀ c, s.gauge.closing = some c → s.gauge.powered = true →
      (t < c.finish + 10000000 → exec (.gaugeClose t) s = .next (s.at t)) ∧
      (c.finish + 10000000 ≤ t → ∃ u, exec (.gaugeClose t) s = .next u ∧
        (let sums := (List.range 16).map (fun a => chargeSum c.tariff c.usage a (tget (fun _ => 0) s.gauge.carry a))
         let charges := sums.map (fun n => (n / 1000000000, n % 1000000000))
         let seq := s.gauge.lastSeq + 1
         let length := (c.finish - c.start) / 1000000000
         let body := s.gauge.recordBody c seq length charges
         let r : GaugeRec := { seq := seq, start := c.start, length := length, bytes := body ++ Config.gaugeSign body }
         u.gauge.records = (if s.gauge.records.length < 65536 then s.gauge.records else s.gauge.records.drop 1) ++ [r] ∧
         u.gauge.lastSeq = seq ∧ u.gauge.toSend = s.gauge.toSend ++ [seq]) ∧
        u.gauge.closing = none ∧ u.gauge.usage = s.gauge.usage ∧
        u.gauge.lostUnread = (if 65536 ≤ s.gauge.records.length ∧
            s.gauge.ackSeq < (s.gauge.records.head?.map (·.seq)).getD 0 then s.gauge.lostUnread + 1 else s.gauge.lostUnread) ∧
        (∀ a, a < 16 → tget (fun _ => 0) u.gauge.carry a =
          chargeSum c.tariff c.usage a (tget (fun _ => 0) s.gauge.carry a) % 1000000000) ∧
        (s.mod.on = true → u.route true 0x0200 = (s.route true 0x0200).raised) ∧
        (s.mod.on = false → u.irq = s.irq) ∧
        u = { s with now := t, gauge := u.gauge, irq := u.irq, allots := u.allots, emits := u.emits }))

/-- From R425, R428, R429 and R455: with the gauge and the Hedge's supply under power the oldest record that waits leaves
the port in its frame, a replay's first, and a record no longer stored is passed over; a replay sends the key block and
then every record; without them nothing is sent. The opened seal is latched, pulses ALERT1 and raises 0xE00. The loss of
RG_KEEP loses the open interval, and its return makes the gauge wait for time and raises 0xE01. The frame is 0x55, 0xAA,
the type, the length, the payload and a CRC-32 of what stands before it (log entry 137, the model's choice). Where the spec
leaves a value or an order open, the clauses follow the model's choice of log entries 79 and 137. -/
def Obligations.GaugePortAndSeal : Prop :=
  (∀ (k : Nat) (l : List Byte), ∃ h, gaugeFrame k l = h ++ natLe 4 (crc32 h).toNat ∧
    h = natLe 1 0x55 ++ natLe 1 0xAA ++ natLe 2 k ++ natLe 2 l.length ++ l) ∧
  ∀ (s : State) (t : Nat),
    (s.gauge.powered = false ∨ s.mod.hedgeV = false → exec (.gaugeRecordSend t) s = .next (s.at t) ∧
      exec (.gaugeReplay t) s = .next (s.at t)) ∧
    (s.gauge.powered = true → s.mod.hedgeV = true →
      (s.gauge.replay = none ∨ s.gauge.replay = some [] →
        (s.gauge.toSend = [] → exec (.gaugeRecordSend t) s = .next (s.at t)) ∧
        (∀ x r, s.gauge.toSend = x :: r → ∃ u, exec (.gaugeRecordSend t) s = .next u ∧
          (let g := { s.gauge with toSend := r }
           (s.gauge.find x = none → u = { s with now := t, gauge := g }) ∧
           (∀ k, s.gauge.find x = some k →
             u = { s with now := t, gauge := g, emits := .gauge t x (gaugeFrame 2 k.bytes) :: s.emits })))) ∧
      (∀ x r, s.gauge.replay = some (x :: r) → ∃ u, exec (.gaugeRecordSend t) s = .next u ∧
          (let g := { s.gauge with replay := if r = [] then none else some r }
           (s.gauge.find x = none → u = { s with now := t, gauge := g }) ∧
           (∀ k, s.gauge.find x = some k →
             u = { s with now := t, gauge := g, emits := .gauge t x (gaugeFrame 2 k.bytes) :: s.emits }))) ∧
      (∃ u, exec (.gaugeReplay t) s = .next u ∧
        (let g := { s.gauge with replay := if s.gauge.records = [] then none else some (s.gauge.records.map (·.seq)) }
         u = { s with now := t, gauge := g, emits := .gauge t 0 (gaugeFrame 1 Config.keyBlock) :: s.emits }))) ∧
    (s.gauge.powered = false → exec (.sealOpen t) s = .next (s.at t)) ∧
    (s.gauge.powered = true → ∃ v : State, exec (.sealOpen t) s = .next (v.raiseFault 0xE00) ∧
      v.gauge.sealOpen = true ∧ v.gauge.flags.sealOpen = true ∧ v.gauge.usage = s.gauge.usage ∧
      v.flt.pulse1 = t + 20000000 ∧ v.flt.sources = s.flt.sources ∧ v = { s with now := t, gauge := v.gauge, flt := v.flt }) ∧
    (s.gauge.powered = true → s.classOf 0xE00 = 0 ∨ s.classOf 0xE00 = 1 → ∃ u, exec (.sealOpen t) s = .next u ∧
      u.gauge.sealOpen = true ∧ u.gauge.flags.sealOpen = true ∧ u.gauge.usage = s.gauge.usage ∧
      u.flt.pulse1 = t + 20000000 ∧ (u.source 0xE00).cause = true ∧
      u = { s with now := t, gauge := u.gauge, flt := u.flt, irq := u.irq, allots := u.allots, emits := u.emits }) ∧
    (∃ u, exec (.rgKeepLoss t) s = .next u ∧
      (let g := { s.gauge with powered := false, usage := [], closing := none, replay := none }
       u = { s with now := t, gauge := g })) ∧
    (s.gauge.powered = true → exec (.rgKeepReturn t) s = .next (s.at t)) ∧
    (s.gauge.powered = false → ∃ v : State, exec (.rgKeepReturn t) s = .next (v.pulseFault 0xE01) ∧
      (let flags : GaugeFlags := { sealOpen := s.gauge.sealOpen, moduleOff := !s.mod.on }
       let g := { s.gauge with powered := true, restarting := true, flags := flags }
       v = { s with now := t, gauge := g }) ∧
      (v.pulseFault 0xE01).gauge = v.gauge)

/-- From R302, R304, R422 and R427: INTERVAL, clamped to its range, and a TARIFF of version 1, written by an allotment that
may write them, are stored and each change spends a credit, without which it is SPENT; the value that already stands is
taken without one; a TARIFF of another length or version is refused with FORMAT; the settings in force change only at a
boundary. RECORD answers a stored record by its number, and NO_ENTRY for one that is not stored. Where the spec leaves a
value or an order open, the clauses follow the model's choice of log entry 143. -/
def Obligations.GaugeEntries : Prop :=
  ∀ (s : State) (t a : Nat), a < 16 → takesAtOnce s t a →
    (∀ v, 10 ≤ v → v ≤ 3600 → mayWrite s a 0x50 0 0x01 →
      (s.cfg 0x50 0 0x01 = natLe 4 v → ∃ u, exec (.interval t a v) s = .next u ∧ accepted (s.at t) u t) ∧
      (s.cfg 0x50 0 0x01 ≠ natLe 4 v →
        (s.alm.credits.getD 0 0 = 0 → exec (.interval t a v) s = .next ((s.at t).say 7 [] 0)) ∧
        (0 < s.alm.credits.getD 0 0 → ∃ u, exec (.interval t a v) s = .next u ∧ u.cfgN 0x50 0 0x01 = v ∧
          u.alm.credits = s.alm.credits.set 0 (s.alm.credits.getD 0 0 - 1) ∧ u.gauge = s.gauge ∧
          u.answer = { status := 0, effectAt := t, data := [] } ∧ u = { s.at t with alm := u.alm, answer := u.answer }))) ∧
    (∀ v, v < 4294967296 → v < 10 ∨ 3600 < v → mayWrite s a 0x50 0 0x01 →
      (let w := if v < 10 then 10 else 3600
       s.cfg 0x50 0 0x01 ≠ natLe 4 w →
       (s.alm.credits.getD 0 0 = 0 → exec (.interval t a v) s = .next ((s.at t).say 7 [] 0)) ∧
       (0 < s.alm.credits.getD 0 0 → ∃ u, exec (.interval t a v) s = .next u ∧ u.cfgN 0x50 0 0x01 = w ∧
         (u.allot a).clamps = inc64 (s.allot a).clamps ∧ u.gauge = s.gauge ∧
         u = { s.at t with alm := u.alm, answer := u.answer, allots := u.allots }))) ∧
    (∀ b : List Byte, mayWrite s a 0x50 0 0x02 →
      (b.length ≠ 68 ∨ fieldAt b 0 4 ≠ 1 → exec (.tariff t a b) s = .next ((s.at t).say 4 [] 0)) ∧
      (b.length = 68 → fieldAt b 0 4 = 1 → s.cfg 0x50 0 0x02 = natLe 4 1 ++ natLe 4 0 ++ b.drop 8 →
        ∃ u, exec (.tariff t a b) s = .next u ∧ accepted (s.at t) u t) ∧
      (b.length = 68 → fieldAt b 0 4 = 1 → s.cfg 0x50 0 0x02 ≠ natLe 4 1 ++ natLe 4 0 ++ b.drop 8 →
        (s.alm.credits.getD 1 0 = 0 → exec (.tariff t a b) s = .next ((s.at t).say 7 [] 0)) ∧
        (0 < s.alm.credits.getD 1 0 → ∃ u, exec (.tariff t a b) s = .next u ∧
          u.cfg 0x50 0 0x02 = natLe 4 1 ++ natLe 4 0 ++ b.drop 8 ∧
          u.alm.credits = s.alm.credits.set 1 (s.alm.credits.getD 1 0 - 1) ∧ u.gauge = s.gauge ∧
          u = { s.at t with alm := u.alm, answer := { status := 0, effectAt := t, data := [] } }))) ∧
    (∀ q, q < 2 ^ 64 → mayRead s a 0x50 0 0x06 →
      (∀ r, s.gauge.find q = some r → exec (.record t a q) s = .next ((s.at t).say 0 r.bytes (t / 10 * 10))) ∧
      (s.gauge.find q = none → exec (.record t a q) s = .next ((s.at t).say 1 [] 0)))

/-- From R438 to R441, R443, R444 and R446 to R449: a feed judged in or out of range changes its STATE, raises its source
when it goes out, and the load moves to the other feed, which raises 0x0211, when the one in use cannot hold it and the
other can; a feed PRUNED but connected is isolated when the other is in range. The main feed takes the load back after
SWITCHBACK_DELAY and not before; without a feed in range the module stops. MAIN_FEED names a feed in range, or is refused
with STATE. A failed phase is disabled (of class prune unit it is PRUNED too), and its rail stays on while N phases remain;
with fewer the rail is off and every unit it feeds is PRUNED, or, for the rails of the module itself, the module stops.
KEEP is lost only while no feed is in range; a crossing of TEMP_WARN raises source 0x0210 once, a thermal trip is counted
and stops the module, and an hour of service is binned by its hottest sensor. Where the spec leaves a value or an order
open, the clauses follow the model's choice of log entries 71 and 143. -/
def Obligations.FeedsAndPhases : Prop :=
  ∀ (s : State) (t : Nat),
    (∀ f, f < 2 → ∃ u, exec (.feedInRange t f) s = .next u ∧
      (f = 0 → u.mod.rangeA = true ∧ u.mod.sinceA = t ∧ u.mod.feedA = (if s.mod.feedA < 3 then 1 else s.mod.feedA) ∧
        u.mod.feedB = (if s.mod.feedB = 3 ∧ s.mod.feedA ≠ 4 then 4 else s.mod.feedB) ∧ u.mod.rangeB = s.mod.rangeB) ∧
      (f = 1 → u.mod.rangeB = true ∧ u.mod.sinceB = t ∧ u.mod.feedB = (if s.mod.feedB < 3 then 1 else s.mod.feedB) ∧
        u.mod.feedA = (if s.mod.feedA = 3 ∧ s.mod.feedB ≠ 4 then 4 else s.mod.feedA) ∧ u.mod.rangeA = s.mod.rangeA) ∧
      (u.source (0xD00 + f)).cause = false ∧
      u.mod.feedInUse = (if s.mod.on = false ∨ (s.mod.feedInUse < 2 ∧ u.mod.usable s.mod.feedInUse = true) then s.mod.feedInUse
        else if u.mod.usable f = true then f else s.mod.feedInUse) ∧
      u.mod.switchovers = (if u.mod.feedInUse = s.mod.feedInUse then s.mod.switchovers else inc64 s.mod.switchovers) ∧
      (u.mod.feedInUse ≠ s.mod.feedInUse → u.route true 0x0211 = (s.route true 0x0211).raised) ∧
      u = { s with now := t, mod := u.mod, flt := u.flt, irq := u.irq, allots := u.allots, emits := u.emits }) ∧
    (∀ f, f < 2 → ∃ v : State, exec (.feedOutOfRange t f) s = .next (v.raiseFault (0xD00 + f)) ∧
      (f = 0 → v.mod.rangeA = false ∧ v.mod.feedA = (if s.mod.feedA < 3 then 2 else s.mod.feedA) ∧
        v.mod.feedB = s.mod.feedB) ∧
      (f = 1 → v.mod.rangeB = false ∧ v.mod.feedB = (if s.mod.feedB < 3 then 2 else s.mod.feedB) ∧
        v.mod.feedA = s.mod.feedA) ∧
      v.mod.feedInUse = (if s.mod.on = true ∧ s.mod.feedInUse = f ∧ s.mod.usable (1 - f) = true then 1 - f
        else s.mod.feedInUse) ∧
      v = { s with now := t, mod := v.mod, irq := v.irq, allots := v.allots, emits := v.emits } ∧
      (s.classOf (0xD00 + f) = 0 ∨ s.classOf (0xD00 + f) = 1 → (v.raiseFault (0xD00 + f)).mod = v.mod)) ∧
    (let f := s.cfgN 0x02 0 0x01
     let due := (if f = 0 then s.mod.sinceA else s.mod.sinceB) + s.cfgN 0x02 0 0x02 * 1000000
     (s.mod.on = false ∨ s.mod.usable f = false ∨ s.cfgN 0x02 0 0x02 = 0 ∨ t < due →
        exec (.switchback t) s = .next (s.at t)) ∧
     (s.mod.on = true → s.mod.usable f = true → s.cfgN 0x02 0 0x02 ≠ 0 → due ≤ t →
        (s.mod.feedInUse = f → exec (.switchback t) s = .next (s.at t)) ∧
        (s.mod.feedInUse ≠ f → exec (.switchback t) s = .next ((s.at t).switchTo f) ∧
          ((s.at t).switchTo f).mod.feedInUse = f ∧ ((s.at t).switchTo f).mod.switchovers = inc64 s.mod.switchovers))) ∧
    (s.mod.rangeA = true ∨ s.mod.rangeB = true ∨ s.mod.on = false → exec (.feedsLost t) s = .next (s.at t)) ∧
    (s.mod.rangeA = false → s.mod.rangeB = false → s.mod.on = true → ∃ u, exec (.feedsLost t) s = .next u ∧
      u.mod.on = false ∧ (∀ r, u.rail r = 0) ∧ u.mod.feedInUse = 2 ∧ u.alm.live = false ∧ u.shed.running = false ∧
      u.gauge.usage = s.gauge.usage ∧ u.gauge.powered = s.gauge.powered ∧ u.cal = s.cal ∧ u.alm.store = s.alm.store) ∧
    (∀ a f, a < 16 → f < 2 → takesAtOnce s t a → mayWrite s a 0x02 0 0x01 →
      ((if f = 0 then s.mod.rangeA else s.mod.rangeB) = false →
        exec (.mainFeed t a f) s = .next ((s.at t).say 3 [] 0)) ∧
      ((if f = 0 then s.mod.rangeA else s.mod.rangeB) = true → ∃ u, exec (.mainFeed t a f) s = .next u ∧
        u.cfgN 0x02 0 0x01 = f ∧
        u.mod.feedInUse = (if s.mod.on = true ∧ s.mod.usable f = true then f else s.mod.feedInUse) ∧
        u.answer = { status := 0, effectAt := t, data := [] } ∧
        u = { s with now := t, mod := u.mod, alm := u.alm, irq := u.irq, allots := u.allots, emits := u.emits,
                     answer := u.answer })) ∧
    (∀ n, n < 112 → n ∉ s.mod.phasesDown → s.classOf (0xD10 + n) ≤ 2 →
      (let r := railOf n
       (railPhases r).2 ≤ s.phasesLeft r + 1 → ∃ u, exec (.phaseFail t n) s = .next u ∧
         u.mod = { s.mod with phasesDown := insertNat n s.mod.phasesDown } ∧ (u.source (0xD10 + n)).cause = true ∧
         (s.classOf (0xD10 + n) = 2 → s.flt.recording = true → (s.source (0xD10 + n)).live = false →
           u.isPruned 13 (0x10 + n) = true) ∧
         u = { s with now := t, mod := u.mod, flt := u.flt, irq := u.irq, allots := u.allots, emits := u.emits })) ∧
    (∀ n, n < 112 → n ∈ s.mod.phasesDown → s.classOf (0xD10 + n) ≤ 2 → ∃ u, exec (.phaseFail t n) s = .next u ∧
      u = (s.at t).raiseFault (0xD10 + n) ∧ u.mod.phasesDown = s.mod.phasesDown) ∧
    (∀ n, n < 112 → n ∉ s.mod.phasesDown → s.classOf (0xD10 + n) ≤ 1 →
      (let r := railOf n
       s.phasesLeft r + 1 < (railPhases r).2 → s.rail r ≠ 2 → ∃ u, exec (.phaseFail t n) s = .next u ∧
         (r < 4 → u.isPruned (2 * r) 0xFF = true ∧ u.isPruned (2 * r + 1) 0xFF = true) ∧
         (4 ≤ r → r < 6 → u.isPruned (r + 4) 0xFF = true) ∧
         (7 ≤ r → r < 13 → u.isPruned 12 (2 * (r - 7)) = true ∧ u.isPruned 12 (2 * (r - 7) + 1) = true) ∧
         (r = 13 ∨ r = 14 → ∀ k, k < 8 → u.isPruned 11 (8 * (r - 13) + k) = true) ∧
         (r = 6 ∨ 15 ≤ r → u.mod.on = false ∧ ∀ k, u.rail k = 0) ∧
         (r ≠ 6 → r < 15 → u.rail r = 2))) ∧
    (s.mod.rangeA = true ∨ s.mod.rangeB = true → exec (.keepLoss t) s = .next (s.at t)) ∧
    (s.mod.rangeA = false → s.mod.rangeB = false → ∃ u, exec (.keepLoss t) s = .next u ∧
      (let m := { s.mod with keepLost := true }
       u = { s with now := t, mod := m })) ∧
    (∀ above, (s.mod.tempWarned = above → exec (.tempWarnCross t above) s = .next (s.at t)) ∧
      (s.mod.tempWarned ≠ above → ∃ u, exec (.tempWarnCross t above) s = .next u ∧
        u.mod = { s.mod with tempWarned := above } ∧ u.route true 0x0210 = (s.route true 0x0210).raised ∧
        u = { s with now := t, mod := u.mod, irq := u.irq, allots := u.allots, emits := u.emits })) ∧
    (∃ u, exec (.thermalTrip t) s = .next u ∧ u.mod.thermalTrips = inc64 s.mod.thermalTrips ∧ u.mod.on = false ∧
      (∀ r, u.rail r = 0) ∧ u.alm.live = false ∧ u.alm.store = s.alm.store ∧ u.cal = s.cal) ∧
    (∀ d : Int, ∃ u, exec (.lifeHour t d) s = .next u ∧ u.mod.hours = inc64 s.mod.hours ∧
      u.mod.hotHours = (if 105 < d then inc64 s.mod.hotHours else s.mod.hotHours) ∧
      u.mod.overHours = (if 125 < d then inc64 s.mod.overHours else s.mod.overHours) ∧
      (let m := { s.mod with hours := u.mod.hours, hotHours := u.mod.hotHours, overHours := u.mod.overHours }
       u = { s with now := t, mod := m }))

/-- From R450 to R454, R471, R472 and Table 19.8, while the Hedge and the module are supplied, where nothing of it happens
without: a GPI whose level has not changed does nothing, and one that has takes it, its time and a count, writes an entry
of KIND 0x40 to ring 1 of its owner, and drives the tally bindings of its owner's and peers' feeds. A GPO's set crosses the
barrier with its apply time; one received less than 100 µs ahead of it applies on receipt, another waits for its time, and
sets are ignored while the fail-safe state lasts without a tick; each GPO takes its FAILSAFE level when ticks stop. The
loss of HEDGE_V opens every contact. A timing edge whose 10 MHz count departs by more than 100 loses that input; in LOCKED
an edge is a measurement of PPS_OFFSET, the mean of 64 (log entry 70); in HEDGE one more than 100 µs from its second is
ignored and counted, the sixteenth in a row leaves HEDGE, and another disciplines the frequency of every timekeeper. The
eleventh link error of a second (log entry 142) raises 0xE02. Where the spec leaves a value or an order open, the clauses
follow the model's choice of log entries 104 and 142. -/
def Obligations.HedgeInputsAndOutputs : Prop :=
  ∀ (s : State) (t : Nat),
    (∀ g level, g < 32 →
      ((s.gpi g).level = level ∨ s.mod.hedgeV = false ∨ s.mod.on = false →
        exec (.gpiChange t g level) s = .next (s.at t)) ∧
      ((s.gpi g).level ≠ level → s.mod.hedgeV = true → s.mod.on = true → ∃ v : State,
        exec (.gpiChange t g level) s = .next ((v.event (s.cfgN 0x51 (0x100 + g) 0x01) 1 0 0x40 0
          (g + 256 * (if level then 1 else 0) + 65536 * t)).tally g level) ∧
        v.gpi g = { level := level, lastChange := t, changes := inc64 (s.gpi g).changes } ∧
        (∀ k, k ≠ g → v.gpi k = s.gpi k) ∧ v = { s with now := t, mod := v.mod }) ∧
      ((s.gpi g).level ≠ level → s.mod.hedgeV = true → s.mod.on = true →
        (∀ e ∈ s.str.slots, e.2.kind ≠ 1 ∨ e.2.owner ≠ s.cfgN 0x51 (0x100 + g) 0x01 ∧
          bit (s.cfgN 0x51 (0x100 + g) 0x00) e.2.owner = false) → ∃ u, exec (.gpiChange t g level) s = .next u ∧
        u.gpi g = { level := level, lastChange := t, changes := inc64 (s.gpi g).changes } ∧
        (∀ k, k ≠ g → u.gpi k = s.gpi k) ∧
        ((s.ring (s.cfgN 0x51 (0x100 + g) 0x01) 1).enable = true →
          (s.ring (s.cfgN 0x51 (0x100 + g) 0x01) 1).entries.length < 4096 →
          (u.ring (s.cfgN 0x51 (0x100 + g) 0x01) 1).entries = (s.ring (s.cfgN 0x51 (0x100 + g) 0x01) 1).entries ++
            [ringWord t 0 0x40 0 (g + 256 * (if level then 1 else 0) + 65536 * t)]) ∧
        u = { s with now := t, mod := u.mod, rings := u.rings, irq := u.irq, allots := u.allots, emits := u.emits })) ∧
    (∀ a g level at_, a < 16 → g < 32 → at_ < 2 ^ 64 → takesAtOnce s t a → mayWrite s a 0x51 (0x200 + g) 0x02 →
      (s.mod.hedgeV = false ∨ ((s.gpo g).failsafe = true ∧ s.mod.ticked = false) →
        ∃ u, exec (.set t a g level at_) s = .next u ∧ accepted (s.at t) u (max t at_)) ∧
      (s.mod.hedgeV = true → (s.gpo g).failsafe = false ∨ s.mod.ticked = true → ∃ u, exec (.set t a g level at_) s = .next u ∧
        u.gpo g = (if at_ < t + 100000 then { level := level, pend := none, failsafe := false }
          else { level := (s.gpo g).level, pend := some (level, at_), failsafe := false }) ∧
        (∀ k, k ≠ g → u.gpo k = s.gpo k) ∧
        accepted { s.at t with mod := u.mod, emits := .barrier t 2 g ((if level then 1 else 0) + 2 * at_) :: s.emits } u
          (max t at_))) ∧
    (∀ g, g < 32 → ((s.gpo g).pend = none → exec (.gpoApply t g) s = .next (s.at t)) ∧
      (∀ level at_, (s.gpo g).pend = some (level, at_) →
        (t < at_ ∨ (s.gpo g).failsafe = true → exec (.gpoApply t g) s = .next (s.at t)) ∧
        (at_ ≤ t → (s.gpo g).failsafe = false → ∃ u, exec (.gpoApply t g) s = .next u ∧
          u.gpo g = { s.gpo g with level := level, pend := none } ∧ (∀ k, k ≠ g → u.gpo k = s.gpo k) ∧
          u = { s with now := t, mod := u.mod }))) ∧
    (∃ u, exec (.gpoFailsafe t) s = .next u ∧ u.mod.ticked = false ∧ u.mod.hedgeV = true ∧
      (∀ g, g < 32 → (u.gpo g).pend = none ∧ (u.gpo g).failsafe = true ∧ (u.gpo g).level =
        (let v := s.cfgN 0x51 (0x200 + g) 0x04
         if v = 0 then false else if v = 1 then true else (s.gpo g).level)) ∧
      u = { s with now := t, mod := u.mod }) ∧
    (∃ u, exec (.hedgeVLoss t) s = .next u ∧ u.mod.hedgeV = false ∧ u.mod.ref10m = false ∧ u.mod.pps = false ∧
      (∀ g, g < 32 → (u.gpo g).level = false ∧ (u.gpo g).pend = none) ∧ u.flt.alive = 0 ∧
      u.clk.st = (if s.clk.st = .hedge then .holdover else s.clk.st) ∧
      u = { s with now := t, mod := u.mod, flt := u.flt, clk := u.clk, irq := u.irq, allots := u.allots, emits := u.emits }) ∧
    (∀ pps, ∃ v : State, exec (.refInputLost t pps) s = .next (if v.clk.st = .hedge then v.setTime .holdover else v) ∧
        v.mod = (if pps then { s.mod with pps := false } else { s.mod with ref10m := false }) ∧
        (v.source (if pps then 0xE04 else 0xE03)).cause = true ∧ v.clk = s.clk ∧
        v = { s with now := t, mod := v.mod, flt := v.flt, irq := v.irq, allots := v.allots, emits := v.emits }) ∧
    (∀ count, s.mod.hedgeV = false ∨ s.mod.on = false → exec (.timingEdge t count) s = .next (s.at t)) ∧
    (∀ count, s.mod.hedgeV = true → s.mod.on = true → count < 9999900 ∨ 10000100 < count →
      ∃ u, exec (.timingEdge t count) s = .next u ∧
        u.mod = { s.mod with pps := true, lastPps := t, ref10m := false } ∧ (u.source 0xE03).cause = true ∧
        (u.source 0xE04).cause = false ∧ u.clk.st = (if s.clk.st = .hedge then .holdover else s.clk.st) ∧
        u = { s with now := t, mod := u.mod, flt := u.flt, clk := u.clk, irq := u.irq, allots := u.allots, emits := u.emits }) ∧
    (∀ count, s.mod.hedgeV = true → s.mod.on = true → 9999900 ≤ count → count ≤ 10000100 → s.clk.timeSet = none →
      ∃ u, exec (.timingEdge t count) s = .next u ∧ u.mod = { s.mod with pps := true, lastPps := t, ref10m := true } ∧
        (u.source 0xE03).cause = false ∧ (u.source 0xE04).cause = false ∧
        (s.clk.st ≠ .locked → s.clk.st ≠ .hedge → u = { s with now := t, mod := u.mod, flt := u.flt }) ∧
        (s.clk.st = .locked →
          (let l := ((t : Int) - nearestSecond t) :: s.clk.ppsSamples.take 63
           (l.length < 64 → u.cfg 0x03 0 0x1B = s.cfg 0x03 0 0x1B ∧
             (let c := { s.clk with ppsSamples := l }
              u = { s with now := t, mod := u.mod, flt := u.flt, clk := c })) ∧
           (l.length = 64 → u.cfg 0x03 0 0x1B = natLe 4 (ofSigned 32 (meanOf l)) ∧
             (let c := { s.clk with ppsSamples := l, ppsValid := true }
              u = { s with now := t, mod := u.mod, flt := u.flt, clk := c, alm := u.alm })))) ∧
        (s.clk.st = .hedge →
          (let off := s.cfgI 0x03 0 0x1B
           let err := (t : Int) - (nearestSecond ((t : Int) - off) + off)
           (err.natAbs ≤ 100000 →
             (let c := { s.clk with ignoredRun := 0, offset := err,
                                    freq := if s.diePruned 0 then s.clk.freq else (10000000 - (count : Int)) * 100,
                                    freq1 := if s.diePruned 1 then s.clk.freq1 else (10000000 - (count : Int)) * 100,
                                    freqHub := (10000000 - (count : Int)) * 100 }
              u = { s with now := t, mod := u.mod, flt := u.flt, clk := c })) ∧
           (100000 < err.natAbs → s.clk.ignoredRun + 1 < 16 →
             (let c := { s.clk with edgesIgnored := inc64 s.clk.edgesIgnored, ignoredRun := s.clk.ignoredRun + 1 }
              u = { s with now := t, mod := u.mod, flt := u.flt, clk := c })) ∧
           (100000 < err.natAbs → 16 ≤ s.clk.ignoredRun + 1 → u.clk.st = .holdover ∧ u.clk.leftAt = t ∧
             u.clk.edgesIgnored = inc64 s.clk.edgesIgnored ∧ u.clk.freq = s.clk.freq ∧
             u = { s with now := t, mod := u.mod, flt := u.flt, clk := u.clk, irq := u.irq, allots := u.allots,
                          emits := u.emits })))) ∧
    (let m := { s.mod with linkErrors := inc64 s.mod.linkErrors }
     (s.mod.errSecond ≠ t / 1000000000 → ∃ u, exec (.barrierMessageError t) s = .next u ∧
       (let n := { m with errSecond := t / 1000000000, errCount := 1 }
        u = { s with now := t, mod := n })) ∧
     (s.mod.errSecond = t / 1000000000 → s.mod.errCount + 1 ≠ 11 → ∃ u, exec (.barrierMessageError t) s = .next u ∧
       (let n := { m with errCount := s.mod.errCount + 1 }
        u = { s with now := t, mod := n })) ∧
     (s.mod.errSecond = t / 1000000000 → s.mod.errCount = 10 → ∃ u, exec (.barrierMessageError t) s = .next u ∧
         u.mod = { m with errCount := 11 } ∧ ((s.source 0xE02).live = false → s.flt.recording = true →
           (u.source 0xE02).count = inc64 (s.source 0xE02).count) ∧
         ((s.source 0xE02).live = true ∨ s.flt.recording = false → u.flt = s.flt) ∧
         u = { s with now := t, mod := u.mod, flt := u.flt, irq := u.irq, allots := u.allots, emits := u.emits }))

/-- From R458 to R461, R463 and R491: a window of the REFCLK monitor outside 14,500 to 16,800 cycles clears REFCLK_READY
and its count, and every locked PLL then goes into holdover and 0xD04 is raised; 65,536 good cycles make it ready, and the
PLLs track it again; a frequency of the backup outside 3.04 to 3.36 MHz, while REFCLK is ready, clears BACKUP_READY. The
Cold Frame runs from the source that CF_SOURCE names, in auto from REFCLK when it is ready and else from the backup, and
stays while neither is ready. CF_SOURCE of a source that is not ready is refused with STATE. A gated block that was waking
has returned. Where the spec leaves a value or an order open, the clauses follow the model's choice of log entries 20 and
143. -/
def Obligations.ClockSources : Prop :=
  ∀ (s : State) (t : Nat),
    (∀ count hz, ∃ u, exec (.refclkWindow t count hz) s = .next u ∧
      (count < 14500 ∨ 16800 < count → u.clk.refReady = false ∧ u.clk.refGood = 0 ∧
        (s.clk.refReady = true → u.clk.holdover = s.clk.locked ∧ u.clk.refLosses = inc64 s.clk.refLosses ∧
          (u.source 0xD04).cause = true) ∧
        (s.clk.refReady = false → u.clk.holdover = s.clk.holdover ∧ u.clk.refLosses = s.clk.refLosses ∧ u.flt = s.flt)) ∧
      (14500 ≤ count → count ≤ 16800 → u.clk.refGood = min 65536 (s.clk.refGood + count) ∧
        u.clk.refReady = (s.clk.refReady || decide (65536 ≤ s.clk.refGood + count)) ∧
        u.clk.refLosses = s.clk.refLosses ∧
        (s.clk.refReady = false → u.clk.refReady = true → u.clk.holdover = [] ∧ (u.source 0xD04).cause = false)) ∧
      (u.clk.refReady = true ∧ (hz < 3040000 ∨ 3360000 < hz) → u.clk.backupReady = false ∧ u.clk.backupGood = 0) ∧
      (u.clk.refReady = false ∨ 3040000 ≤ hz ∧ hz ≤ 3360000 → u.clk.backupGood = min 4096 (s.clk.backupGood + 320) ∧
        u.clk.backupReady = (s.clk.backupReady || decide (4096 ≤ s.clk.backupGood + 320))) ∧
      (s.cfgN 0x03 0 0x01 = 0 → (u.clk.refReady = true → u.clk.cfActive = 1) ∧
        (u.clk.refReady = false → u.clk.backupReady = true → u.clk.cfActive = 2) ∧
        (u.clk.refReady = false → u.clk.backupReady = false → u.clk.cfActive = s.clk.cfActive)) ∧
      (s.cfgN 0x03 0 0x01 ≠ 0 → u.clk.cfActive = s.cfgN 0x03 0 0x01) ∧ u.clk.locked = s.clk.locked ∧
      u = { s with now := t, clk := u.clk, flt := u.flt, irq := u.irq, allots := u.allots, emits := u.emits }) ∧
    (∀ a v, a < 16 → v < 3 → takesAtOnce s t a → mayWrite s a 0x03 0 0x01 →
      (v = 1 ∧ s.clk.refReady = false ∨ v = 2 ∧ s.clk.backupReady = false →
        exec (.cfSource t a v) s = .next ((s.at t).say 3 [] 0)) ∧
      (¬ (v = 1 ∧ s.clk.refReady = false ∨ v = 2 ∧ s.clk.backupReady = false) → ∃ u,
        exec (.cfSource t a v) s = .next u ∧ u.cfgN 0x03 0 0x01 = v ∧
        u.clk = { s.clk with cfActive := if v = 0 then
          (if s.clk.refReady then 1 else if s.clk.backupReady then 2 else s.clk.cfActive) else v } ∧
        u.answer = { status := 0, effectAt := t, data := [] } ∧
        u = { s with now := t, clk := u.clk, alm := u.alm, answer := u.answer })) ∧
    (∀ b, b < 312 → (b < 288 ∨ (s.power b).st ≠ 1 → exec (.blockWakeDone t b) s = .next (s.at t)) ∧
      (288 ≤ b → (s.power b).st = 1 → ∃ u, exec (.blockWakeDone t b) s = .next u ∧
        u.power b = { st := 3, transitions := ((s.power b).transitions + 1) % 65536 } ∧
        (∀ k, k ≠ b → u.power k = s.power k) ∧ u = { s with now := t, clk := { s.clk with power := u.clk.power } }))

/-- From R468 to R473 and R500, of a Sync of the slave port (one of another port, or of no PTP port, does nothing). In
ACQUIRING and LOCKED the servo acts: an offset beyond STEP_LIMIT steps the time once and counts it, another sets the rate
of every timekeeper that is not of a pruned die, from that of the time lead (log entry 15). In ACQUIRING the sixteenth of
16 Syncs in a row below 1 µs makes the state LOCKED; in LOCKED the fourth bad one in a row leaves it, for HEDGE when R472
allows, else for HOLDOVER, and the measurement of 16 Syncs begins; the measurement acts on nothing and ends in LOCKED, or
in ACQUIRING when one was bad; in FREE the offset alone is noted. HOLDOVER_SPEC expires in its time. TIME_SET, of a whole
second, needs FREE and both Hedge inputs; the next edge then enters HEDGE. Where the spec leaves a value or an order open,
the clauses follow the model's choice of log entries 15, 31 and 143. -/
def Obligations.TimeStates : Prop :=
  ∀ (s : State) (t lp : Nat) (off : Int), lp < 1024 →
    (s.clk.slave ≠ lp ∨ s.isPtpPort lp = false → exec (.ptpSync t lp off) s = .next (s.at t)) ∧
    (s.clk.slave = lp → s.isPtpPort lp = true →
      let freq := clip (Config.servo (if s.timeLead = 0 then s.clk.freq else s.clk.freq1) off)
        (-(s.cfgN 0x03 0 0x18 : Int)) (s.cfgN 0x03 0 0x18)
      let tuned := { s.clk with offset := off, freq := if s.diePruned 0 then s.clk.freq else freq,
                                freq1 := if s.diePruned 1 then s.clk.freq1 else freq, freqHub := freq }
      let served := fun (v : State) => v.clk = (if s.cfgN 0x03 0 0x17 < off.natAbs then
          { s.clk with offset := off, steps := inc64 s.clk.steps } else tuned) ∧
        (off.natAbs ≤ s.cfgN 0x03 0 0x17 → v.egr = s.egr) ∧ v = { s with now := t, clk := v.clk, egr := v.egr }
      (s.clk.st = .acquiring → ∃ v : State, served v ∧ exec (.ptpSync t lp off) s = .next
        (if off.natAbs < 1000 ∧ 15 ≤ s.clk.good then v.setTime .locked else
          (let c := { v.clk with good := if off.natAbs < 1000 then s.clk.good + 1 else 0 }
           { v with clk := c }))) ∧
      (s.clk.st = .locked → ∃ v : State, served v ∧ exec (.ptpSync t lp off) s = .next
        (if off.natAbs < 1000 ∨ s.clk.bad + 1 < 4 then
          (let c := { v.clk with bad := if off.natAbs < 1000 then 0 else s.clk.bad + 1 }
           { v with clk := c }) else
          (let w := v.leaveLocked
           let c := { w.clk with measuring := true, measured := 0, measuredBad := false }
           { w with clk := c }))) ∧
      (off.natAbs ≤ s.cfgN 0x03 0 0x17 → s.clk.st = .acquiring → off.natAbs < 1000 → 15 ≤ s.clk.good →
        ∃ u, exec (.ptpSync t lp off) s = .next u ∧ u.clk.st = .locked ∧
          u.clk.offset = off ∧ u.clk.freq = tuned.freq ∧ u.clk.traceSince = t ∧
          u.route true 0x0220 = (s.route true 0x0220).raised ∧
          u = { s with now := t, clk := u.clk, irq := u.irq, allots := u.allots, emits := u.emits }) ∧
      (off.natAbs ≤ s.cfgN 0x03 0 0x17 → s.clk.st = .locked → 1000 ≤ off.natAbs → 3 ≤ s.clk.bad →
        ∃ u, exec (.ptpSync t lp off) s = .next u ∧
          u.clk.st = (if s.cfgN 0x03 0 0x19 = 1 ∧ s.mod.ref10m = true ∧ s.mod.pps = true ∧ s.clk.ppsValid = true
            then .hedge else .holdover) ∧ u.clk.leftAt = t ∧ u.clk.measuring = true ∧ u.clk.measured = 0 ∧
          u.clk.slave = lp ∧ u.clk.specOver = false ∧ u.route true 0x0220 = (s.route true 0x0220).raised ∧
          u = { s with now := t, clk := u.clk, irq := u.irq, allots := u.allots, emits := u.emits }) ∧
      (s.clk.st = .free → ∃ u, exec (.ptpSync t lp off) s = .next u ∧
        (let c := { s.clk with offset := off }
         u = { s with now := t, clk := c })) ∧
      (s.clk.st = .hedge ∨ s.clk.st = .holdover →
        (s.clk.measuring = false → ∃ u, exec (.ptpSync t lp off) s = .next u ∧
          (let c := { s.clk with offset := off }
           u = { s with now := t, clk := c })) ∧
        (s.clk.measuring = true → s.clk.measured + 1 < 16 → ∃ u, exec (.ptpSync t lp off) s = .next u ∧
          (let c := { s.clk with offset := off, measured := s.clk.measured + 1,
                                 measuredBad := s.clk.measuredBad || decide (1000 ≤ off.natAbs) }
           u = { s with now := t, clk := c })) ∧
        (s.clk.measuring = true → 15 ≤ s.clk.measured → ∃ u, exec (.ptpSync t lp off) s = .next u ∧
          u.clk.st = (if s.clk.measuredBad = true ∨ 1000 ≤ off.natAbs then .acquiring else .locked) ∧
          u.clk.measuring = false ∧ u.clk.from_ = s.clk.st ∧ u.clk.freq = s.clk.freq ∧ u.clk.steps = s.clk.steps ∧
          u = { s with now := t, clk := u.clk, irq := u.irq, allots := u.allots, emits := u.emits }))) ∧
    (let due := s.clk.st = .holdover ∧ s.clk.leftAt + s.cfgN 0x03 0 0x1A * 1000000000 ≤ t
     (¬ due → exec (.holdoverSpecExpiry t) s = .next (s.at t)) ∧
     (due → ∃ u, exec (.holdoverSpecExpiry t) s = .next u ∧ u.clockClass = 52 ∧
       (let c := { s.clk with specOver := true }
        u = { s with now := t, clk := c }))) ∧
    (∀ a v, a < 16 → v < 2 ^ 64 → takesAtOnce s t a → mayWrite s a 0x03 0 0x1D →
      (¬ (s.clk.st = .free ∧ s.mod.ref10m = true ∧ s.mod.pps = true) →
        exec (.timeSet t a v) s = .next ((s.at t).say 3 [] 0)) ∧
      (s.clk.st = .free → s.mod.ref10m = true → s.mod.pps = true → ∃ u, exec (.timeSet t a v) s = .next u ∧
        (let c := { s.clk with timeSet := some (wholeSecond v).toNat }
         (v % 1000000000 = 0 → u.clk.timeSet = some v ∧ accepted { s.at t with clk := c } u t) ∧
         (v % 1000000000 ≠ 0 → (u.allot a).clamps = inc64 (s.allot a).clamps ∧
           accepted { s.at t with clk := c, allots := u.allots } u t)))) ∧
    (∀ v count, 9999900 ≤ count → count ≤ 10000100 → s.mod.hedgeV = true → s.mod.on = true → s.clk.timeSet = some v → ∃ u,
      exec (.timingEdge t count) s = .next u ∧ u.clk.st = .hedge ∧ u.clk.timeSet = none ∧
      u.mod = { s.mod with pps := true, lastPps := t, ref10m := true } ∧
      u = { s with now := t, mod := u.mod, flt := u.flt, clk := u.clk, irq := u.irq, allots := u.allots, emits := u.emits })

/-- From R467, R468 and R500: an Announce of the module itself, or at a port that is no PTP port, is ignored; one that is
better than the port's own (or of the same sender) is kept, the BMCA then runs, and while the Shed restarts nothing else
changes; the Shed makes the port of the only Announce that is better than the module's dataset its slave port, and FREE
then becomes ACQUIRING. The announce timeout of the slave port ends its role, while the Shed restarts but for the choice of
another. A port in the master role answers delay requests in kind and sends Announce, Sync and Follow_Up; the slave port
sends delay requests, and no port sends what is not its role's; a management GET of the four datasets is answered, and a
SET is not. Where the spec leaves a value or an order open, the clauses follow the model's choice of log entries 36, 37 and
92. -/
def Obligations.PtpMessages : Prop :=
  ∀ (s : State) (t lp : Nat), lp < 1024 →
    (∀ d, s.isPtpPort lp = false ∨ d.senderId = clockId → exec (.announce t lp d) s = .next (s.at t)) ∧
    (∀ d, s.isPtpPort lp = true → d.senderId ≠ clockId →
      ((∀ o, (s.ptpPort lp).best = some o →
          (o.senderId = d.senderId ∧ o.senderPort = d.senderPort) ∨ isBetter d o = true) →
        exec (.announce t lp d) s = .next ((s.at t).modPtpPort lp (fun p => { p with best := some d })).bmca) ∧
      (∀ o, (s.ptpPort lp).best = some o → (o.senderId, o.senderPort) ≠ (d.senderId, d.senderPort) → isBetter d o = false →
        exec (.announce t lp d) s = .next (s.at t).bmca) ∧
      (s.shedLive = false → (s.at t).bmca = s.at t) ∧
      (∀ o, (s.ptpPort lp).best = some o → (o.senderId, o.senderPort) ≠ (d.senderId, d.senderPort) → isBetter d o = false →
        s.shedLive = false → exec (.announce t lp d) s = .next (s.at t)) ∧
      ((s.ptpPort lp).best = none → s.shedLive = false → ∃ u, exec (.announce t lp d) s = .next u ∧
        u.ptpPort lp = { s.ptpPort lp with best := some d } ∧ (∀ k, k ≠ lp → u.ptpPort k = s.ptpPort k) ∧
        u = { s with now := t, clk := { s.clk with ptp := u.clk.ptp } }) ∧
      (s.shedLive = true → (∀ e ∈ s.clk.ptp, e.2.best = none) → isBetter d s.ownDataset = true →
        s.cfgN 0x03 (0x1000 + lp) 0x02 ≠ 1 → s.clk.slave = 0xFFFF → s.clk.st = .free →
        ∃ u, exec (.announce t lp d) s = .next u ∧ u.clk.slave = lp ∧ u.clk.parent = some d ∧ u.clk.st = .acquiring ∧
          u.clk.from_ = .free ∧ (u.ptpPort lp).st = 9 ∧ (u.ptpPort lp).best = some d ∧
          (∀ k, k < 1024 → k ≠ lp → (u.ptpPort k).st = (if s.isPtpPort k then 6 else 3)) ∧
          u.route true 0x0220 = (s.route true 0x0220).raised ∧
          u = { s with now := t, clk := u.clk, irq := u.irq, allots := u.allots, emits := u.emits })) ∧
    (s.clk.slave = 0xFFFF → exec (.announceTimeout t) s = .next (s.at t)) ∧
    (s.clk.slave = lp → s.shedLive = false → ∃ u, exec (.announceTimeout t) s = .next u ∧ u.clk.slave = lp ∧
      u.clk.measuring = false ∧ u.clk.measured = 0 ∧ u.ptpPort lp = { s.ptpPort lp with best := none } ∧
      (∀ k, k ≠ lp → u.ptpPort k = s.ptpPort k) ∧
      u.clk.st = (if s.clk.st = .locked then (if s.hedgeOk then .hedge else .holdover) else s.clk.st) ∧
      u = { s with now := t, clk := u.clk, irq := u.irq, allots := u.allots, emits := u.emits }) ∧
    (s.clk.slave = lp → s.shedLive = true →
      (∀ e ∈ (s.modPtpPort lp (fun p => { p with best := none })).clk.ptp, e.2.best = none) → ∃ u,
      exec (.announceTimeout t) s = .next u ∧ u.clk.slave = 0xFFFF ∧ u.clk.parent = none ∧ u.clk.measuring = false ∧
      u.clk.st = (match s.clk.st with
        | .locked => if s.hedgeOk then .hedge else .holdover
        | .acquiring => (match s.clk.from_ with
          | .free => .free
          | .hedge => if s.hedgeOk then .hedge else .holdover
          | _ => .holdover)
        | x => x) ∧ (u.ptpPort lp).best = none ∧
      (∀ k, k < 1024 → (u.ptpPort k).st = (if s.isPtpPort k then 6 else 3)) ∧
      u = { s with now := t, clk := u.clk, irq := u.irq, allots := u.allots, emits := u.emits }) ∧
    (∀ mc, (s.isPtpPort lp = false ∨ (s.ptpPort lp).st ≠ 6 → exec (.delayReq t lp mc) s = .next (s.at t)) ∧
      (s.isPtpPort lp = true → (s.ptpPort lp).st = 6 → ∃ u, exec (.delayReq t lp mc) s = .next u ∧
        u = { s with now := t, emits := .ptp t lp 4 s.clockClass mc :: s.emits })) ∧
    (∀ get id, (s.isPtpPort lp = false ∨ get = false ∨ 4 ≤ id →
        exec (.ptpManagement t lp get id) s = .next (s.at t)) ∧
      (s.isPtpPort lp = true → get = true → id < 4 → ∃ u, exec (.ptpManagement t lp get id) s = .next u ∧
        u = { s with now := t, emits := .ptp t lp 5 s.clockClass :: s.emits })) ∧
    (s.isPtpPort lp = true →
      ((s.ptpPort lp).st = 6 → (∃ u, exec (.syncAndAnnounceSend t lp 0) s = .next u ∧
          u = { s with now := t, emits := .ptp t lp 0 s.clockClass :: s.emits }) ∧
        (∃ u, exec (.syncAndAnnounceSend t lp 1) s = .next u ∧
          u = { s with now := t, emits := .ptp t lp 2 s.clockClass :: .ptp t lp 1 s.clockClass :: s.emits })) ∧
      ((s.ptpPort lp).st = 9 → ∃ u, exec (.syncAndAnnounceSend t lp 3) s = .next u ∧
        u = { s with now := t, emits := .ptp t lp 3 s.clockClass :: s.emits })) ∧
    (∀ k, s.isPtpPort lp = false ∨ ¬ ((s.ptpPort lp).st = 6 ∧ k < 2 ∨ (s.ptpPort lp).st = 9 ∧ k = 3) →
      exec (.syncAndAnnounceSend t lp k) s = .next (s.at t))

/-- From R446, R448, R477, R478, R480, R482, R483, R485 and R491: power-up begins when a feed is in range and sensor 86
reads at most 125 °C (below 90 °C after a thermal trip), and not while the module is on; it is time zero and milestone 1,
and sessions and saved trims survive unless KEEP was lost, while the streams' beds, the rings and the exchange memory start
afresh. Dorsen runs once; the trained stacks are carved and run at their OP_POINT; the trims are restored and each port
that is not PRUNED rests; the pipelines are released and PTP starts; the Almanac is live; alive ticks begin. Each step
follows its milestone, does nothing at another, and records the time from time zero. Where the spec leaves a value or an
order open, the clauses follow the model's choice of log entries 30 and 80. -/
def Obligations.PowerUpSteps : Prop :=
  ∀ (s : State) (t : Nat),
    (∀ c sp, s.mod.on = true ∨ 125 < c ∨ (s.mod.tripped = true ∧ 90 ≤ c) ∨ (s.mod.rangeA = false ∧ s.mod.rangeB = false) →
      exec (.powerUp t c sp) s = .next (s.at t)) ∧
    (∀ c sp, s.mod.on = false → c ≤ 125 → (s.mod.tripped = false ∨ c < 90) → s.mod.rangeA = true ∨ s.mod.rangeB = true →
      ∃ u, exec (.powerUp t c sp) s = .next u ∧ u.mod.on = true ∧ u.mod.split = sp ∧ u.boot.milestone = 1 ∧
        u.boot.zero = t ∧ u.boot.keepLost = s.mod.keepLost ∧ u.boot.coldOut = decide (c < -55) ∧ u.boot.step6 = none ∧
        u.mod.tripped = false ∧ u.mod.keepLost = false ∧ u.alm.live = false ∧ u.shed = {} ∧ u.pending = s.pending ∧
        u.gauge = s.gauge ∧ u.rings = [] ∧ u.mem.exchange = [] ∧ (∀ b, u.bed b = {}) ∧ u.clk.st = .free ∧
        u.mod.hours = (if s.mod.keepLost then 0 else s.mod.hours) ∧
        (∀ a, a < 16 → (u.allot a).session = (if s.mod.keepLost then 0 else (s.allot a).session) ∧
          (u.allot a).key = (s.allot a).key ∧ (u.allot a).staging = []) ∧
        (s.mod.keepLost = false → u.cal.savedPairs = s.cal.savedPairs ∧ u.cal.savedSensors = s.cal.savedSensors ∧
          u.cal.saved = s.cal.saved) ∧ (s.mod.keepLost = true → u.cal = {}) ∧
        (∀ n x, s.str.slots = [(n, x)] → (u.slot n).owner = x.owner ∧ (u.slot n).st = min x.st 1 ∧
          (u.slot n).readmit = (x.readmit || decide (3 ≤ x.st)))) ∧
    (∀ b, (s.mod.on = false ∨ s.boot.step6.isSome = true → exec (.dorsenRuns t b) s = .next (s.at t)) ∧
      (s.mod.on = true → s.boot.step6 = none → ∃ u, exec (.dorsenRuns t b) s = .next u ∧
        (let boot := { s.boot with step6 := some t, dorsenBank := u.boot.dorsenBank }
         u = { s with now := t, boot := boot, shed := { s.shed with running := true } }))) ∧
    (∀ l, s.boot.step6 = none ∨ s.boot.milestone ≠ 1 → exec (.memoryTrainingDone t l) s = .next (s.at t)) ∧
    (s.boot.step6.isSome = true → s.boot.milestone = 1 → ∃ u, exec (.memoryTrainingDone t []) s = .next u ∧
      u.boot.milestone = 2 ∧ u.boot.at_ = s.boot.at_.set 1 (t - s.boot.zero) ∧
      u.boot.imageEmpty = !s.alm.imaged ∧
      (∀ m, m < 12 → (u.stack m).st = (if (s.stack m).st = 3 then 3 else 1) ∧ (u.stack m).carved = true ∧
        (u.stack m).active = s.cfgN 0x30 m 0x02 ∧ (u.stack m).target = s.cfgN 0x30 m 0x02 ∧
        (u.stack m).retired = (s.stack m).retired) ∧
      (u.egr.cells0.deepFree = Config.dieDeep - s.deepRetiredPages 0 ∧
        u.egr.cells1.deepFree = Config.dieDeep - s.deepRetiredPages 1) ∧
      (let e := { s.egr with cells0 := u.egr.cells0, cells1 := u.egr.cells1 }
       u = { s with now := t, boot := u.boot, mem := u.mem, egr := e })) ∧
    (s.boot.step6.isSome = true → s.boot.milestone = 1 → ∀ m, m < 12 → ∃ u,
      exec (.memoryTrainingDone t [m]) s = .next u ∧ (u.stack m).st = 4 ∧ (u.source (0xC00 + 16 * m + 4)).cause = true ∧
      u.boot.milestone = 2 ∧ (s.classOf (0xC00 + 16 * m + 4) = 0 ∨ s.classOf (0xC00 + 16 * m + 4) = 1 →
        ∀ k, k < 12 → k ≠ m → (u.stack k).st = (if (s.stack k).st = 3 then 3 else 1))) ∧
    (s.boot.milestone ≠ 2 → exec (.trimsRestored t) s = .next (s.at t)) ∧
    (s.boot.milestone = 2 → ∃ u, exec (.trimsRestored t) s = .next u ∧ u.boot.milestone = 3 ∧
      u.boot.at_ = s.boot.at_.set 2 (t - s.boot.zero) ∧
      (∀ p, p < 128 → s.cal.saved = true → (u.pair p).active = tget (fun _ => []) s.cal.savedPairs p) ∧
      (∀ k, k < 16 → s.engineWanted k = true → (u.power (0x128 + k)).st = 3) ∧
      (∀ lp, lp < 1024 → (u.port lp).st = (if (s.port lp).st = .pruned then .pruned else s.restingPort lp)) ∧
      u = { s with now := t, boot := u.boot, cal := u.cal, clk := u.clk, fwd := u.fwd, irq := u.irq, allots := u.allots,
                   emits := u.emits }) ∧
    (s.boot.milestone ≠ 3 → exec (.pipelineRelease t) s = .next (s.at t)) ∧
    (s.boot.milestone = 3 → ∃ u, exec (.pipelineRelease t) s = .next u ∧ u.boot.milestone = 4 ∧
      u.boot.at_ = s.boot.at_.set 3 (t - s.boot.zero) ∧ u.clk.started = true ∧
      (∀ pl, pl < 8 → (u.pipe pl).released = (if s.pipePruned pl then (s.pipe pl).released else true)) ∧
      (∀ h ∈ u.boot.hold, h.f.kind ≠ .ptp)) ∧
    (s.boot.milestone ≠ 4 → exec (.almanacLive t) s = .next (s.at t)) ∧
    (s.boot.milestone = 4 → ∃ u, exec (.almanacLive t) s = .next u ∧
      (let alm := { s.alm with live := true }
       let boot := { s.boot with milestone := 5, at_ := s.boot.at_.set 4 (t - s.boot.zero), imageOk := s.alm.imaged }
       u = { s with now := t, alm := alm, boot := boot })) ∧
    (s.boot.milestone ≠ 5 → exec (.fullReadiness t) s = .next (s.at t)) ∧
    (s.boot.milestone = 5 → ∃ u, exec (.fullReadiness t) s = .next u ∧ u.boot.milestone = 6 ∧
      u.boot.at_ = s.boot.at_.set 5 (t - s.boot.zero) ∧ u.flt.ticking = true) ∧
    (∀ link, 1 ≤ link → link ≤ 8 →
      (∃ u, exec (.perstRelease t link) s = .next u ∧
        tget (fun _ => none) u.boot.perst link = some t ∧
        (∀ k, k ≠ link → tget (fun _ => none) u.boot.perst k = tget (fun _ => none) s.boot.perst k) ∧
        u = { s with now := t, boot := { s.boot with perst := u.boot.perst } }) ∧
      (∀ p d, tget (fun _ => none) s.boot.perst link = some p → s.boot.step6 = some d → ∃ u,
        exec (.configurationRequest t link) s = .next u ∧
        u = { s with now := t, emits := .config t link (decide (t < max p d + 100000000)) :: s.emits }) ∧
      (tget (fun _ => none) s.boot.perst link = none ∨ s.boot.step6 = none → ∃ u,
        exec (.configurationRequest t link) s = .next u ∧ u = { s with now := t, emits := .config t link true :: s.emits }))
end

