-- ==== Sys2Proof/Laws/Tables.lean ====
section
/-! SUPPORT. The laws of sparse tables: a read after a write, and that a write and a filter keep the canonical form. -/

set_option linter.unusedSimpArgs false

namespace Sys2Proof.Machine

theorem tget_tdel_self {α : Type} (d : Nat → α) (k : Nat) (t : Tab α) : tget d (tdel k t) k = d k := by
  induction t with
  | nil => rfl
  | cons e r ih =>
    obtain ⟨j, v⟩ := e
    by_cases h : k = j <;> simp [tdel, tget, h, ih]
    · simpa [h] using ih

theorem tget_tdel_other {α : Type} (d : Nat → α) {j k : Nat} (hne : j ≠ k) (t : Tab α) :
    tget d (tdel k t) j = tget d t j := by
  induction t with
  | nil => rfl
  | cons e r ih =>
    obtain ⟨i, v⟩ := e
    by_cases h : k = i
    · subst h; simp [tdel, tget, hne, ih]
    · simp [tdel, tget, h, ih]

theorem tget_tins_self {α : Type} (d : Nat → α) (k : Nat) (v : α) (t : Tab α) : tget d (tins k v t) k = v := by
  induction t with
  | nil => simp [tins, tget]
  | cons e r ih =>
    obtain ⟨j, w⟩ := e
    simp only [tins]
    split
    · simp [tget]
    · split <;> simp_all [tget]

theorem tget_tins_other {α : Type} (d : Nat → α) {j k : Nat} (hne : j ≠ k) (v : α) (t : Tab α) :
    tget d (tins k v t) j = tget d t j := by
  induction t with
  | nil => simp [tins, tget, hne]
  | cons e r ih =>
    obtain ⟨i, w⟩ := e
    simp only [tins]
    split
    · simp [tget, hne]
    · split
      · rename_i hk; subst hk; simp [tget, hne]
      · simp [tget, ih]

/-- A read of the key just written gives the value written. -/
@[simp] theorem tget_tput_self {α : Type} [DecidableEq α] (d : Nat → α) (t : Tab α) (k : Nat) (v : α) :
    tget d (tput d t k v) k = v := by
  simp only [tput]
  split
  · rename_i h; rw [tget_tdel_self, h]
  · exact tget_tins_self d k v t

/-- A write leaves every other key alone. -/
theorem tget_tput_other {α : Type} [DecidableEq α] (d : Nat → α) (t : Tab α) {j k : Nat} (v : α) (hne : j ≠ k) :
    tget d (tput d t k v) j = tget d t j := by
  simp only [tput]
  split
  · exact tget_tdel_other d hne t
  · exact tget_tins_other d hne v t

/-- A read after a write, at any key. -/
theorem tget_tput {α : Type} [DecidableEq α] (d : Nat → α) (t : Tab α) (k j : Nat) (v : α) :
    tget d (tput d t k v) j = if j = k then v else tget d t j := by
  by_cases h : j = k
  · subst h; simp
  · simp [h, tget_tput_other d t v h]

theorem keysAbove_mono {α : Type} {a b : Nat} (hab : a ≤ b) (t : Tab α) (h : keysAbove b t = true) :
    keysAbove a t = true := by
  induction t with
  | nil => rfl
  | cons e r ih =>
    simp only [keysAbove, Bool.and_eq_true, decide_eq_true_eq] at h ⊢
    exact ⟨by omega, ih h.2⟩

theorem keysAbove_tins {α : Type} {b k : Nat} (v : α) (t : Tab α) (hk : b < k) (h : keysAbove b t = true) :
    keysAbove b (tins k v t) = true := by
  induction t with
  | nil => simp [tins, keysAbove, hk]
  | cons e r ih =>
    simp only [keysAbove, Bool.and_eq_true, decide_eq_true_eq] at h
    simp only [tins]
    split
    · simp [keysAbove, hk, h]
    · split <;> simp [keysAbove, hk, h, ih h.2]

theorem keysAbove_filter {α : Type} {b : Nat} (p : Nat × α → Bool) (t : Tab α) (h : keysAbove b t = true) :
    keysAbove b (t.filter p) = true := by
  induction t with
  | nil => rfl
  | cons e r ih =>
    simp only [keysAbove, Bool.and_eq_true, decide_eq_true_eq] at h
    by_cases hp : p e = true <;> simp [List.filter_cons, hp, keysAbove, h.1, ih h.2]

/-- Removing every entry that fails a test keeps the canonical form; the defaults may change where nothing is kept. -/
theorem twf_filter {α : Type} [DecidableEq α] (d e : Nat → α) (p : Nat × α → Bool) (t : Tab α)
    (hd : ∀ k v, p (k, v) = true → e k = d k) (h : twf d t = true) : twf e (t.filter p) = true := by
  induction t with
  | nil => rfl
  | cons x r ih =>
    obtain ⟨k, v⟩ := x
    simp only [twf, Bool.and_eq_true] at h
    by_cases hp : p (k, v) = true
    · have hk := hd k v hp
      have ha := h.1.1
      simp only [List.filter_cons, hp, if_true, twf, Bool.and_eq_true]
      exact ⟨⟨by rw [hk]; exact ha, keysAbove_filter p r h.1.2⟩, ih h.2⟩
    · simpa [List.filter_cons, hp] using ih h.2

theorem tdel_eq_filter {α : Type} (k : Nat) (t : Tab α) : tdel k t = t.filter (fun e => !decide (k = e.1)) := by
  induction t with
  | nil => rfl
  | cons e r ih =>
    obtain ⟨j, v⟩ := e
    by_cases h : k = j <;> simp [tdel, List.filter_cons, h, ih]
    · simpa [h] using ih

theorem twf_tins {α : Type} [DecidableEq α] (d : Nat → α) (k : Nat) (v : α) (t : Tab α) (hv : v ≠ d k)
    (h : twf d t = true) : twf d (tins k v t) = true := by
  induction t with
  | nil => simp [tins, twf, keysAbove, hv]
  | cons e r ih =>
    obtain ⟨j, w⟩ := e
    simp only [twf, Bool.and_eq_true] at h
    simp only [tins]
    split
    · rename_i hlt
      simp only [twf, keysAbove, Bool.and_eq_true, decide_eq_true_eq]
      exact ⟨⟨by simp [hv], hlt, keysAbove_mono (Nat.le_of_lt hlt) r h.1.2⟩, ⟨h.1.1, h.1.2⟩, h.2⟩
    · split
      · rename_i hk
        subst hk
        simp only [twf, Bool.and_eq_true]
        exact ⟨⟨by simp [hv], h.1.2⟩, h.2⟩
      · simp only [twf, Bool.and_eq_true]
        exact ⟨⟨h.1.1, keysAbove_tins v r (by omega) h.1.2⟩, ih h.2⟩

/-- A write keeps the canonical form. -/
theorem twf_tput {α : Type} [DecidableEq α] (d : Nat → α) (t : Tab α) (k : Nat) (v : α) (h : twf d t = true) :
    twf d (tput d t k v) = true := by
  simp only [tput]
  split
  · rw [tdel_eq_filter]; exact twf_filter d d _ t (fun _ _ _ => rfl) h
  · rename_i hv; exact twf_tins d k v t hv h

end Sys2Proof.Machine
end

