-- ==== Sys2Proof/Laws/State.lean ====
section
/-! SUPPORT. One accessor and one updater for each table of the state: what a read gives after a write, and the parts of the
state that a write leaves alone. -/

namespace Sys2Proof.Machine

variable (s : State)

/-! ## Reads after writes -/

@[simp] theorem State.link_modLink (k j : Nat) (f : _ → _) :
    (s.modLink k f).link j = if j = k then f (s.link k) else s.link j := by
  simp [State.link, State.modLink, tget_tput]
@[simp] theorem State.port_modPort (k j : Nat) (f : _ → _) :
    (s.modPort k f).port j = if j = k then f (s.port k) else s.port j := by
  simp [State.port, State.modPort, tget_tput]
@[simp] theorem State.pipe_modPipe (k j : Nat) (f : _ → _) :
    (s.modPipe k f).pipe j = if j = k then f (s.pipe k) else s.pipe j := by
  simp [State.pipe, State.modPipe, tget_tput]
@[simp] theorem State.vlan_modVlan (k j : Nat) (f : _ → _) :
    (s.modVlan k f).vlan j = if j = k then f (s.vlan k) else s.vlan j := by
  simp [State.vlan, State.modVlan, tget_tput]
@[simp] theorem State.slot_modSlot (k j : Nat) (f : _ → _) :
    (s.modSlot k f).slot j = if j = k then f (s.slot k) else s.slot j := by
  simp [State.slot, State.modSlot, tget_tput]
@[simp] theorem State.twin_modTwin (k j : Nat) (f : _ → _) :
    (s.modTwin k f).twin j = if j = k then f (s.twin k) else s.twin j := by
  simp [State.twin, State.modTwin, tget_tput]
@[simp] theorem State.feed_modFeed (k j : Nat) (f : _ → _) :
    (s.modFeed k f).feed j = if j = k then f (s.feed k) else s.feed j := by
  simp [State.feed, State.modFeed, tget_tput]
@[simp] theorem State.group_modGroup (k j : Nat) (f : _ → _) :
    (s.modGroup k f).group j = if j = k then f (s.group k) else s.group j := by
  simp [State.group, State.modGroup, tget_tput]
@[simp] theorem State.intake_modIntake (k j : Nat) (f : _ → _) :
    (s.modIntake k f).intake j = if j = k then f (s.intake k) else s.intake j := by
  simp [State.intake, State.modIntake, tget_tput]
@[simp] theorem State.outtake_modOuttake (k j : Nat) (f : _ → _) :
    (s.modOuttake k f).outtake j = if j = k then f (s.outtake k) else s.outtake j := by
  simp [State.outtake, State.modOuttake, tget_tput]
@[simp] theorem State.bed_modBed (k j : Nat) (f : _ → _) :
    (s.modBed k f).bed j = if j = k then f (s.bed k) else s.bed j := by
  simp [State.bed, State.modBed, tget_tput]
@[simp] theorem State.queue_modQueue (k j : Nat) (f : _ → _) :
    (s.modQueue k f).queue j = if j = k then f (s.queue k) else s.queue j := by
  simp [State.queue, State.modQueue, tget_tput]
@[simp] theorem State.qgroup_modQGroup (k j : Nat) (f : _ → _) :
    (s.modQGroup k f).qgroup j = if j = k then f (s.qgroup k) else s.qgroup j := by
  simp [State.qgroup, State.modQGroup, tget_tput]
@[simp] theorem State.gate_modGate (k j : Nat) (f : _ → _) :
    (s.modGate k f).gate j = if j = k then f (s.gate k) else s.gate j := by
  simp [State.gate, State.modGate, tget_tput]
@[simp] theorem State.policer_modPolicer (k j : Nat) (f : _ → _) :
    (s.modPolicer k f).policer j = if j = k then f (s.policer k) else s.policer j := by
  simp [State.policer, State.modPolicer, tget_tput]
@[simp] theorem State.allot_modAllot (k j : Nat) (f : _ → _) :
    (s.modAllot k f).allot j = if j = k then f (s.allot k) else s.allot j := by
  simp [State.allot, State.modAllot, tget_tput]
@[simp] theorem State.vector_modVector (k j : Nat) (f : _ → _) :
    (s.modVector k f).vector j = if j = k then f (s.vector k) else s.vector j := by
  simp [State.vector, State.modVector, tget_tput]
@[simp] theorem State.func_modFunc (k j : Nat) (f : _ → _) :
    (s.modFunc k f).func j = if j = k then f (s.func k) else s.func j := by
  simp [State.func, State.modFunc, tget_tput]
@[simp] theorem State.stack_modStack (k j : Nat) (f : _ → _) :
    (s.modStack k f).stack j = if j = k then f (s.stack k) else s.stack j := by
  simp [State.stack, State.modStack, tget_tput]
@[simp] theorem State.dmaCh_modDma (k j : Nat) (f : _ → _) :
    (s.modDma k f).dmaCh j = if j = k then f (s.dmaCh k) else s.dmaCh j := by
  simp [State.dmaCh, State.modDma, tget_tput]
@[simp] theorem State.source_modSource (k j : Nat) (f : _ → _) :
    (s.modSource k f).source j = if j = k then f (s.source k) else s.source j := by
  simp [State.source, State.modSource, tget_tput]
@[simp] theorem State.errRec_modErrRec (k j : Nat) (f : _ → _) :
    (s.modErrRec k f).errRec j = if j = k then f (s.errRec k) else s.errRec j := by
  simp [State.errRec, State.modErrRec, tget_tput]
@[simp] theorem State.pair_modPair (k j : Nat) (f : _ → _) :
    (s.modPair k f).pair j = if j = k then f (s.pair k) else s.pair j := by
  simp [State.pair, State.modPair, tget_tput]
@[simp] theorem State.sensor_modSensor (k j : Nat) (f : _ → _) :
    (s.modSensor k f).sensor j = if j = k then f (s.sensor k) else s.sensor j := by
  simp [State.sensor, State.modSensor, tget_tput]
@[simp] theorem State.gpi_modGpi (k j : Nat) (f : _ → _) :
    (s.modGpi k f).gpi j = if j = k then f (s.gpi k) else s.gpi j := by
  simp [State.gpi, State.modGpi, tget_tput]
@[simp] theorem State.gpo_modGpo (k j : Nat) (f : _ → _) :
    (s.modGpo k f).gpo j = if j = k then f (s.gpo k) else s.gpo j := by
  simp [State.gpo, State.modGpo, tget_tput]
@[simp] theorem State.ptpPort_modPtpPort (k j : Nat) (f : _ → _) :
    (s.modPtpPort k f).ptpPort j = if j = k then f (s.ptpPort k) else s.ptpPort j := by
  simp [State.ptpPort, State.modPtpPort, tget_tput]
@[simp] theorem State.buffer_setBuffer (k j : Nat) (v : _) :
    (s.setBuffer k v).buffer j = if j = k then v else s.buffer j := by
  simp [State.buffer, State.setBuffer, tget_tput]
@[simp] theorem State.block_setBlock (k j : Nat) (v : _) :
    (s.setBlock k v).block j = if j = k then v else s.block j := by
  simp [State.block, State.setBlock, tget_tput]
@[simp] theorem State.chain_setChain (k j : Nat) (v : _) :
    (s.setChain k v).chain j = if j = k then v else s.chain j := by
  simp [State.chain, State.setChain, tget_tput]
@[simp] theorem State.latch_setLatch (k j : Nat) (v : _) :
    (s.setLatch k v).latch j = if j = k then v else s.latch j := by
  simp [State.latch, State.setLatch, tget_tput]
@[simp] theorem State.rail_setRail (k j : Nat) (v : _) :
    (s.setRail k v).rail j = if j = k then v else s.rail j := by
  simp [State.rail, State.setRail, tget_tput]
@[simp] theorem State.delivery_setDelivery (d e i j : Nat) (w : DeliveryWord) (hd : d < 2) (he : e < 2) :
    (s.setDelivery d i w).delivery e j = if e = d ∧ j = i then w else s.delivery e j := by
  have hd' : d = 0 ∨ d = 1 := by omega
  have he' : e = 0 ∨ e = 1 := by omega
  rcases hd' with rfl | rfl <;> rcases he' with rfl | rfl <;> simp [State.delivery, State.setDelivery, tget_tput]
@[simp] theorem State.ring_modRing (a n b m : Nat) (f : Ring → Ring) :
    (s.modRing a n f).ring b m = if 16 * b + m = 16 * a + n then f (s.ring a n) else s.ring b m := by
  simp [State.ring, State.modRing, tget_tput]
@[simp] theorem State.route_modRoute (h g : Bool) (n m : Nat) (f : Route → Route) :
    (s.modRoute h n f).route g m = if g = h ∧ m = n then f (s.route h n) else s.route g m := by
  cases h <;> cases g <;> simp [State.route, State.modRoute, tget_tput]
@[simp] theorem State.cells_modCells (d e : Nat) (f : CellStore → CellStore) (hd : d < 2) (he : e < 2) :
    (s.modCells d f).cells e = if e = d then f (s.cells d) else s.cells e := by
  have hd' : d = 0 ∨ d = 1 := by omega
  have he' : e = 0 ∨ e = 1 := by omega
  rcases hd' with rfl | rfl <;> rcases he' with rfl | rfl <;> simp [State.cells, State.modCells]
@[simp] theorem CellStore.pool_modPool (c : CellStore) (p q : Nat) (f : Pool → Pool) :
    (c.modPool p f).pool q = if q = p then f (c.pool p) else c.pool q := by
  simp [CellStore.pool, CellStore.modPool, tget_tput]
@[simp] theorem CellStore.rec_modRec (c : CellStore) (a b : Nat) (f : BufRec → BufRec) :
    (c.modRec a f).rec_ b = if b = a then f (c.rec_ a) else c.rec_ b := by
  simp [CellStore.rec_, CellStore.modRec, tget_tput]

/-! ## What writes leave alone -/

@[simp] theorem State.modLink_now (k : Nat) (f : _ → _) : (s.modLink k f).now = s.now := (rfl)
@[simp] theorem State.modLink_pending (k : Nat) (f : _ → _) : (s.modLink k f).pending = s.pending := (rfl)
@[simp] theorem State.modLink_answer (k : Nat) (f : _ → _) : (s.modLink k f).answer = s.answer := (rfl)
@[simp] theorem State.modLink_emits (k : Nat) (f : _ → _) : (s.modLink k f).emits = s.emits := (rfl)
@[simp] theorem State.modLink_fresh (k : Nat) (f : _ → _) : (s.modLink k f).fresh = s.fresh := (rfl)
@[simp] theorem State.modLink_shed (k : Nat) (f : _ → _) : (s.modLink k f).shed = s.shed := (rfl)
@[simp] theorem State.modLink_copy (k : Nat) (f : _ → _) : (s.modLink k f).copy = s.copy := (rfl)
@[simp] theorem State.modLink_fwd (k : Nat) (f : _ → _) : (s.modLink k f).fwd = s.fwd := (rfl)
@[simp] theorem State.modLink_rings (k : Nat) (f : _ → _) : (s.modLink k f).rings = s.rings := (rfl)
@[simp] theorem State.modLink_str (k : Nat) (f : _ → _) : (s.modLink k f).str = s.str := (rfl)
@[simp] theorem State.modLink_egr (k : Nat) (f : _ → _) : (s.modLink k f).egr = s.egr := (rfl)
@[simp] theorem State.modLink_alm (k : Nat) (f : _ → _) : (s.modLink k f).alm = s.alm := (rfl)
@[simp] theorem State.modLink_allots (k : Nat) (f : _ → _) : (s.modLink k f).allots = s.allots := (rfl)
@[simp] theorem State.modLink_irq (k : Nat) (f : _ → _) : (s.modLink k f).irq = s.irq := (rfl)
@[simp] theorem State.modLink_mem (k : Nat) (f : _ → _) : (s.modLink k f).mem = s.mem := (rfl)
@[simp] theorem State.modLink_flt (k : Nat) (f : _ → _) : (s.modLink k f).flt = s.flt := (rfl)
@[simp] theorem State.modLink_cal (k : Nat) (f : _ → _) : (s.modLink k f).cal = s.cal := (rfl)
@[simp] theorem State.modLink_gauge (k : Nat) (f : _ → _) : (s.modLink k f).gauge = s.gauge := (rfl)
@[simp] theorem State.modLink_mod (k : Nat) (f : _ → _) : (s.modLink k f).mod = s.mod := (rfl)
@[simp] theorem State.modLink_clk (k : Nat) (f : _ → _) : (s.modLink k f).clk = s.clk := (rfl)
@[simp] theorem State.modLink_boot (k : Nat) (f : _ → _) : (s.modLink k f).boot = s.boot := (rfl)

@[simp] theorem State.modPort_now (k : Nat) (f : _ → _) : (s.modPort k f).now = s.now := (rfl)
@[simp] theorem State.modPort_pending (k : Nat) (f : _ → _) : (s.modPort k f).pending = s.pending := (rfl)
@[simp] theorem State.modPort_answer (k : Nat) (f : _ → _) : (s.modPort k f).answer = s.answer := (rfl)
@[simp] theorem State.modPort_emits (k : Nat) (f : _ → _) : (s.modPort k f).emits = s.emits := (rfl)
@[simp] theorem State.modPort_fresh (k : Nat) (f : _ → _) : (s.modPort k f).fresh = s.fresh := (rfl)
@[simp] theorem State.modPort_links (k : Nat) (f : _ → _) : (s.modPort k f).links = s.links := (rfl)
@[simp] theorem State.modPort_shed (k : Nat) (f : _ → _) : (s.modPort k f).shed = s.shed := (rfl)
@[simp] theorem State.modPort_copy (k : Nat) (f : _ → _) : (s.modPort k f).copy = s.copy := (rfl)
@[simp] theorem State.modPort_rings (k : Nat) (f : _ → _) : (s.modPort k f).rings = s.rings := (rfl)
@[simp] theorem State.modPort_str (k : Nat) (f : _ → _) : (s.modPort k f).str = s.str := (rfl)
@[simp] theorem State.modPort_egr (k : Nat) (f : _ → _) : (s.modPort k f).egr = s.egr := (rfl)
@[simp] theorem State.modPort_alm (k : Nat) (f : _ → _) : (s.modPort k f).alm = s.alm := (rfl)
@[simp] theorem State.modPort_allots (k : Nat) (f : _ → _) : (s.modPort k f).allots = s.allots := (rfl)
@[simp] theorem State.modPort_irq (k : Nat) (f : _ → _) : (s.modPort k f).irq = s.irq := (rfl)
@[simp] theorem State.modPort_mem (k : Nat) (f : _ → _) : (s.modPort k f).mem = s.mem := (rfl)
@[simp] theorem State.modPort_flt (k : Nat) (f : _ → _) : (s.modPort k f).flt = s.flt := (rfl)
@[simp] theorem State.modPort_cal (k : Nat) (f : _ → _) : (s.modPort k f).cal = s.cal := (rfl)
@[simp] theorem State.modPort_gauge (k : Nat) (f : _ → _) : (s.modPort k f).gauge = s.gauge := (rfl)
@[simp] theorem State.modPort_mod (k : Nat) (f : _ → _) : (s.modPort k f).mod = s.mod := (rfl)
@[simp] theorem State.modPort_clk (k : Nat) (f : _ → _) : (s.modPort k f).clk = s.clk := (rfl)
@[simp] theorem State.modPort_boot (k : Nat) (f : _ → _) : (s.modPort k f).boot = s.boot := (rfl)
@[simp] theorem State.modPort_fwd_ingress (k : Nat) (f : _ → _) : (s.modPort k f).fwd.ingress = s.fwd.ingress := (rfl)
@[simp] theorem State.modPort_fwd_pipes (k : Nat) (f : _ → _) : (s.modPort k f).fwd.pipes = s.fwd.pipes := (rfl)
@[simp] theorem State.modPort_fwd_delivery0 (k : Nat) (f : _ → _) :
    (s.modPort k f).fwd.delivery0 = s.fwd.delivery0 := (rfl)
@[simp] theorem State.modPort_fwd_delivery1 (k : Nat) (f : _ → _) :
    (s.modPort k f).fwd.delivery1 = s.fwd.delivery1 := (rfl)
@[simp] theorem State.modPort_fwd_badDelivery (k : Nat) (f : _ → _) :
    (s.modPort k f).fwd.badDelivery = s.fwd.badDelivery := (rfl)
@[simp] theorem State.modPort_fwd_failedReads (k : Nat) (f : _ → _) :
    (s.modPort k f).fwd.failedReads = s.fwd.failedReads := (rfl)
@[simp] theorem State.modPort_fwd_blocks (k : Nat) (f : _ → _) : (s.modPort k f).fwd.blocks = s.fwd.blocks := (rfl)
@[simp] theorem State.modPort_fwd_vlans (k : Nat) (f : _ → _) : (s.modPort k f).fwd.vlans = s.fwd.vlans := (rfl)

@[simp] theorem State.modPipe_now (k : Nat) (f : _ → _) : (s.modPipe k f).now = s.now := (rfl)
@[simp] theorem State.modPipe_pending (k : Nat) (f : _ → _) : (s.modPipe k f).pending = s.pending := (rfl)
@[simp] theorem State.modPipe_answer (k : Nat) (f : _ → _) : (s.modPipe k f).answer = s.answer := (rfl)
@[simp] theorem State.modPipe_emits (k : Nat) (f : _ → _) : (s.modPipe k f).emits = s.emits := (rfl)
@[simp] theorem State.modPipe_fresh (k : Nat) (f : _ → _) : (s.modPipe k f).fresh = s.fresh := (rfl)
@[simp] theorem State.modPipe_links (k : Nat) (f : _ → _) : (s.modPipe k f).links = s.links := (rfl)
@[simp] theorem State.modPipe_shed (k : Nat) (f : _ → _) : (s.modPipe k f).shed = s.shed := (rfl)
@[simp] theorem State.modPipe_copy (k : Nat) (f : _ → _) : (s.modPipe k f).copy = s.copy := (rfl)
@[simp] theorem State.modPipe_rings (k : Nat) (f : _ → _) : (s.modPipe k f).rings = s.rings := (rfl)
@[simp] theorem State.modPipe_str (k : Nat) (f : _ → _) : (s.modPipe k f).str = s.str := (rfl)
@[simp] theorem State.modPipe_egr (k : Nat) (f : _ → _) : (s.modPipe k f).egr = s.egr := (rfl)
@[simp] theorem State.modPipe_alm (k : Nat) (f : _ → _) : (s.modPipe k f).alm = s.alm := (rfl)
@[simp] theorem State.modPipe_allots (k : Nat) (f : _ → _) : (s.modPipe k f).allots = s.allots := (rfl)
@[simp] theorem State.modPipe_irq (k : Nat) (f : _ → _) : (s.modPipe k f).irq = s.irq := (rfl)
@[simp] theorem State.modPipe_mem (k : Nat) (f : _ → _) : (s.modPipe k f).mem = s.mem := (rfl)
@[simp] theorem State.modPipe_flt (k : Nat) (f : _ → _) : (s.modPipe k f).flt = s.flt := (rfl)
@[simp] theorem State.modPipe_cal (k : Nat) (f : _ → _) : (s.modPipe k f).cal = s.cal := (rfl)
@[simp] theorem State.modPipe_gauge (k : Nat) (f : _ → _) : (s.modPipe k f).gauge = s.gauge := (rfl)
@[simp] theorem State.modPipe_mod (k : Nat) (f : _ → _) : (s.modPipe k f).mod = s.mod := (rfl)
@[simp] theorem State.modPipe_clk (k : Nat) (f : _ → _) : (s.modPipe k f).clk = s.clk := (rfl)
@[simp] theorem State.modPipe_boot (k : Nat) (f : _ → _) : (s.modPipe k f).boot = s.boot := (rfl)
@[simp] theorem State.modPipe_fwd_ports (k : Nat) (f : _ → _) : (s.modPipe k f).fwd.ports = s.fwd.ports := (rfl)
@[simp] theorem State.modPipe_fwd_ingress (k : Nat) (f : _ → _) : (s.modPipe k f).fwd.ingress = s.fwd.ingress := (rfl)
@[simp] theorem State.modPipe_fwd_delivery0 (k : Nat) (f : _ → _) :
    (s.modPipe k f).fwd.delivery0 = s.fwd.delivery0 := (rfl)
@[simp] theorem State.modPipe_fwd_delivery1 (k : Nat) (f : _ → _) :
    (s.modPipe k f).fwd.delivery1 = s.fwd.delivery1 := (rfl)
@[simp] theorem State.modPipe_fwd_badDelivery (k : Nat) (f : _ → _) :
    (s.modPipe k f).fwd.badDelivery = s.fwd.badDelivery := (rfl)
@[simp] theorem State.modPipe_fwd_failedReads (k : Nat) (f : _ → _) :
    (s.modPipe k f).fwd.failedReads = s.fwd.failedReads := (rfl)
@[simp] theorem State.modPipe_fwd_blocks (k : Nat) (f : _ → _) : (s.modPipe k f).fwd.blocks = s.fwd.blocks := (rfl)
@[simp] theorem State.modPipe_fwd_vlans (k : Nat) (f : _ → _) : (s.modPipe k f).fwd.vlans = s.fwd.vlans := (rfl)

@[simp] theorem State.modVlan_now (k : Nat) (f : _ → _) : (s.modVlan k f).now = s.now := (rfl)
@[simp] theorem State.modVlan_pending (k : Nat) (f : _ → _) : (s.modVlan k f).pending = s.pending := (rfl)
@[simp] theorem State.modVlan_answer (k : Nat) (f : _ → _) : (s.modVlan k f).answer = s.answer := (rfl)
@[simp] theorem State.modVlan_emits (k : Nat) (f : _ → _) : (s.modVlan k f).emits = s.emits := (rfl)
@[simp] theorem State.modVlan_fresh (k : Nat) (f : _ → _) : (s.modVlan k f).fresh = s.fresh := (rfl)
@[simp] theorem State.modVlan_links (k : Nat) (f : _ → _) : (s.modVlan k f).links = s.links := (rfl)
@[simp] theorem State.modVlan_shed (k : Nat) (f : _ → _) : (s.modVlan k f).shed = s.shed := (rfl)
@[simp] theorem State.modVlan_copy (k : Nat) (f : _ → _) : (s.modVlan k f).copy = s.copy := (rfl)
@[simp] theorem State.modVlan_rings (k : Nat) (f : _ → _) : (s.modVlan k f).rings = s.rings := (rfl)
@[simp] theorem State.modVlan_str (k : Nat) (f : _ → _) : (s.modVlan k f).str = s.str := (rfl)
@[simp] theorem State.modVlan_egr (k : Nat) (f : _ → _) : (s.modVlan k f).egr = s.egr := (rfl)
@[simp] theorem State.modVlan_alm (k : Nat) (f : _ → _) : (s.modVlan k f).alm = s.alm := (rfl)
@[simp] theorem State.modVlan_allots (k : Nat) (f : _ → _) : (s.modVlan k f).allots = s.allots := (rfl)
@[simp] theorem State.modVlan_irq (k : Nat) (f : _ → _) : (s.modVlan k f).irq = s.irq := (rfl)
@[simp] theorem State.modVlan_mem (k : Nat) (f : _ → _) : (s.modVlan k f).mem = s.mem := (rfl)
@[simp] theorem State.modVlan_flt (k : Nat) (f : _ → _) : (s.modVlan k f).flt = s.flt := (rfl)
@[simp] theorem State.modVlan_cal (k : Nat) (f : _ → _) : (s.modVlan k f).cal = s.cal := (rfl)
@[simp] theorem State.modVlan_gauge (k : Nat) (f : _ → _) : (s.modVlan k f).gauge = s.gauge := (rfl)
@[simp] theorem State.modVlan_mod (k : Nat) (f : _ → _) : (s.modVlan k f).mod = s.mod := (rfl)
@[simp] theorem State.modVlan_clk (k : Nat) (f : _ → _) : (s.modVlan k f).clk = s.clk := (rfl)
@[simp] theorem State.modVlan_boot (k : Nat) (f : _ → _) : (s.modVlan k f).boot = s.boot := (rfl)
@[simp] theorem State.modVlan_fwd_ports (k : Nat) (f : _ → _) : (s.modVlan k f).fwd.ports = s.fwd.ports := (rfl)
@[simp] theorem State.modVlan_fwd_ingress (k : Nat) (f : _ → _) : (s.modVlan k f).fwd.ingress = s.fwd.ingress := (rfl)
@[simp] theorem State.modVlan_fwd_pipes (k : Nat) (f : _ → _) : (s.modVlan k f).fwd.pipes = s.fwd.pipes := (rfl)
@[simp] theorem State.modVlan_fwd_delivery0 (k : Nat) (f : _ → _) :
    (s.modVlan k f).fwd.delivery0 = s.fwd.delivery0 := (rfl)
@[simp] theorem State.modVlan_fwd_delivery1 (k : Nat) (f : _ → _) :
    (s.modVlan k f).fwd.delivery1 = s.fwd.delivery1 := (rfl)
@[simp] theorem State.modVlan_fwd_badDelivery (k : Nat) (f : _ → _) :
    (s.modVlan k f).fwd.badDelivery = s.fwd.badDelivery := (rfl)
@[simp] theorem State.modVlan_fwd_failedReads (k : Nat) (f : _ → _) :
    (s.modVlan k f).fwd.failedReads = s.fwd.failedReads := (rfl)
@[simp] theorem State.modVlan_fwd_blocks (k : Nat) (f : _ → _) : (s.modVlan k f).fwd.blocks = s.fwd.blocks := (rfl)

@[simp] theorem State.modSlot_now (k : Nat) (f : _ → _) : (s.modSlot k f).now = s.now := (rfl)
@[simp] theorem State.modSlot_pending (k : Nat) (f : _ → _) : (s.modSlot k f).pending = s.pending := (rfl)
@[simp] theorem State.modSlot_answer (k : Nat) (f : _ → _) : (s.modSlot k f).answer = s.answer := (rfl)
@[simp] theorem State.modSlot_emits (k : Nat) (f : _ → _) : (s.modSlot k f).emits = s.emits := (rfl)
@[simp] theorem State.modSlot_fresh (k : Nat) (f : _ → _) : (s.modSlot k f).fresh = s.fresh := (rfl)
@[simp] theorem State.modSlot_links (k : Nat) (f : _ → _) : (s.modSlot k f).links = s.links := (rfl)
@[simp] theorem State.modSlot_shed (k : Nat) (f : _ → _) : (s.modSlot k f).shed = s.shed := (rfl)
@[simp] theorem State.modSlot_copy (k : Nat) (f : _ → _) : (s.modSlot k f).copy = s.copy := (rfl)
@[simp] theorem State.modSlot_fwd (k : Nat) (f : _ → _) : (s.modSlot k f).fwd = s.fwd := (rfl)
@[simp] theorem State.modSlot_rings (k : Nat) (f : _ → _) : (s.modSlot k f).rings = s.rings := (rfl)
@[simp] theorem State.modSlot_egr (k : Nat) (f : _ → _) : (s.modSlot k f).egr = s.egr := (rfl)
@[simp] theorem State.modSlot_alm (k : Nat) (f : _ → _) : (s.modSlot k f).alm = s.alm := (rfl)
@[simp] theorem State.modSlot_allots (k : Nat) (f : _ → _) : (s.modSlot k f).allots = s.allots := (rfl)
@[simp] theorem State.modSlot_irq (k : Nat) (f : _ → _) : (s.modSlot k f).irq = s.irq := (rfl)
@[simp] theorem State.modSlot_mem (k : Nat) (f : _ → _) : (s.modSlot k f).mem = s.mem := (rfl)
@[simp] theorem State.modSlot_flt (k : Nat) (f : _ → _) : (s.modSlot k f).flt = s.flt := (rfl)
@[simp] theorem State.modSlot_cal (k : Nat) (f : _ → _) : (s.modSlot k f).cal = s.cal := (rfl)
@[simp] theorem State.modSlot_gauge (k : Nat) (f : _ → _) : (s.modSlot k f).gauge = s.gauge := (rfl)
@[simp] theorem State.modSlot_mod (k : Nat) (f : _ → _) : (s.modSlot k f).mod = s.mod := (rfl)
@[simp] theorem State.modSlot_clk (k : Nat) (f : _ → _) : (s.modSlot k f).clk = s.clk := (rfl)
@[simp] theorem State.modSlot_boot (k : Nat) (f : _ → _) : (s.modSlot k f).boot = s.boot := (rfl)
@[simp] theorem State.modSlot_str_twins (k : Nat) (f : _ → _) : (s.modSlot k f).str.twins = s.str.twins := (rfl)
@[simp] theorem State.modSlot_str_feeds (k : Nat) (f : _ → _) : (s.modSlot k f).str.feeds = s.str.feeds := (rfl)
@[simp] theorem State.modSlot_str_groups (k : Nat) (f : _ → _) : (s.modSlot k f).str.groups = s.str.groups := (rfl)
@[simp] theorem State.modSlot_str_intakes (k : Nat) (f : _ → _) : (s.modSlot k f).str.intakes = s.str.intakes := (rfl)
@[simp] theorem State.modSlot_str_outtakes (k : Nat) (f : _ → _) : (s.modSlot k f).str.outtakes = s.str.outtakes := (rfl)
@[simp] theorem State.modSlot_str_beds (k : Nat) (f : _ → _) : (s.modSlot k f).str.beds = s.str.beds := (rfl)
@[simp] theorem State.modSlot_str_peerClears (k : Nat) (f : _ → _) :
    (s.modSlot k f).str.peerClears = s.str.peerClears := (rfl)
@[simp] theorem State.modSlot_str_patch (k : Nat) (f : _ → _) : (s.modSlot k f).str.patch = s.str.patch := (rfl)
@[simp] theorem State.modSlot_str_patchAt (k : Nat) (f : _ → _) : (s.modSlot k f).str.patchAt = s.str.patchAt := (rfl)
@[simp] theorem State.modSlot_str_patchActive (k : Nat) (f : _ → _) :
    (s.modSlot k f).str.patchActive = s.str.patchActive := (rfl)
@[simp] theorem State.modSlot_str_patchStandby (k : Nat) (f : _ → _) :
    (s.modSlot k f).str.patchStandby = s.str.patchStandby := (rfl)
@[simp] theorem State.modSlot_str_loadResult (k : Nat) (f : _ → _) :
    (s.modSlot k f).str.loadResult = s.str.loadResult := (rfl)
@[simp] theorem State.modSlot_str_soilTests (k : Nat) (f : _ → _) :
    (s.modSlot k f).str.soilTests = s.str.soilTests := (rfl)
@[simp] theorem State.modSlot_str_frozen (k : Nat) (f : _ → _) : (s.modSlot k f).str.frozen = s.str.frozen := (rfl)
@[simp] theorem State.modSlot_str_snapTime (k : Nat) (f : _ → _) : (s.modSlot k f).str.snapTime = s.str.snapTime := (rfl)
@[simp] theorem State.modSlot_str_harvestMs (k : Nat) (f : _ → _) :
    (s.modSlot k f).str.harvestMs = s.str.harvestMs := (rfl)

@[simp] theorem State.modTwin_now (k : Nat) (f : _ → _) : (s.modTwin k f).now = s.now := (rfl)
@[simp] theorem State.modTwin_pending (k : Nat) (f : _ → _) : (s.modTwin k f).pending = s.pending := (rfl)
@[simp] theorem State.modTwin_answer (k : Nat) (f : _ → _) : (s.modTwin k f).answer = s.answer := (rfl)
@[simp] theorem State.modTwin_emits (k : Nat) (f : _ → _) : (s.modTwin k f).emits = s.emits := (rfl)
@[simp] theorem State.modTwin_fresh (k : Nat) (f : _ → _) : (s.modTwin k f).fresh = s.fresh := (rfl)
@[simp] theorem State.modTwin_links (k : Nat) (f : _ → _) : (s.modTwin k f).links = s.links := (rfl)
@[simp] theorem State.modTwin_shed (k : Nat) (f : _ → _) : (s.modTwin k f).shed = s.shed := (rfl)
@[simp] theorem State.modTwin_copy (k : Nat) (f : _ → _) : (s.modTwin k f).copy = s.copy := (rfl)
@[simp] theorem State.modTwin_fwd (k : Nat) (f : _ → _) : (s.modTwin k f).fwd = s.fwd := (rfl)
@[simp] theorem State.modTwin_rings (k : Nat) (f : _ → _) : (s.modTwin k f).rings = s.rings := (rfl)
@[simp] theorem State.modTwin_egr (k : Nat) (f : _ → _) : (s.modTwin k f).egr = s.egr := (rfl)
@[simp] theorem State.modTwin_alm (k : Nat) (f : _ → _) : (s.modTwin k f).alm = s.alm := (rfl)
@[simp] theorem State.modTwin_allots (k : Nat) (f : _ → _) : (s.modTwin k f).allots = s.allots := (rfl)
@[simp] theorem State.modTwin_irq (k : Nat) (f : _ → _) : (s.modTwin k f).irq = s.irq := (rfl)
@[simp] theorem State.modTwin_mem (k : Nat) (f : _ → _) : (s.modTwin k f).mem = s.mem := (rfl)
@[simp] theorem State.modTwin_flt (k : Nat) (f : _ → _) : (s.modTwin k f).flt = s.flt := (rfl)
@[simp] theorem State.modTwin_cal (k : Nat) (f : _ → _) : (s.modTwin k f).cal = s.cal := (rfl)
@[simp] theorem State.modTwin_gauge (k : Nat) (f : _ → _) : (s.modTwin k f).gauge = s.gauge := (rfl)
@[simp] theorem State.modTwin_mod (k : Nat) (f : _ → _) : (s.modTwin k f).mod = s.mod := (rfl)
@[simp] theorem State.modTwin_clk (k : Nat) (f : _ → _) : (s.modTwin k f).clk = s.clk := (rfl)
@[simp] theorem State.modTwin_boot (k : Nat) (f : _ → _) : (s.modTwin k f).boot = s.boot := (rfl)
@[simp] theorem State.modTwin_str_slots (k : Nat) (f : _ → _) : (s.modTwin k f).str.slots = s.str.slots := (rfl)
@[simp] theorem State.modTwin_str_feeds (k : Nat) (f : _ → _) : (s.modTwin k f).str.feeds = s.str.feeds := (rfl)
@[simp] theorem State.modTwin_str_groups (k : Nat) (f : _ → _) : (s.modTwin k f).str.groups = s.str.groups := (rfl)
@[simp] theorem State.modTwin_str_intakes (k : Nat) (f : _ → _) : (s.modTwin k f).str.intakes = s.str.intakes := (rfl)
@[simp] theorem State.modTwin_str_outtakes (k : Nat) (f : _ → _) : (s.modTwin k f).str.outtakes = s.str.outtakes := (rfl)
@[simp] theorem State.modTwin_str_beds (k : Nat) (f : _ → _) : (s.modTwin k f).str.beds = s.str.beds := (rfl)
@[simp] theorem State.modTwin_str_peerClears (k : Nat) (f : _ → _) :
    (s.modTwin k f).str.peerClears = s.str.peerClears := (rfl)
@[simp] theorem State.modTwin_str_patch (k : Nat) (f : _ → _) : (s.modTwin k f).str.patch = s.str.patch := (rfl)
@[simp] theorem State.modTwin_str_patchAt (k : Nat) (f : _ → _) : (s.modTwin k f).str.patchAt = s.str.patchAt := (rfl)
@[simp] theorem State.modTwin_str_patchActive (k : Nat) (f : _ → _) :
    (s.modTwin k f).str.patchActive = s.str.patchActive := (rfl)
@[simp] theorem State.modTwin_str_patchStandby (k : Nat) (f : _ → _) :
    (s.modTwin k f).str.patchStandby = s.str.patchStandby := (rfl)
@[simp] theorem State.modTwin_str_loadResult (k : Nat) (f : _ → _) :
    (s.modTwin k f).str.loadResult = s.str.loadResult := (rfl)
@[simp] theorem State.modTwin_str_soilTests (k : Nat) (f : _ → _) :
    (s.modTwin k f).str.soilTests = s.str.soilTests := (rfl)
@[simp] theorem State.modTwin_str_frozen (k : Nat) (f : _ → _) : (s.modTwin k f).str.frozen = s.str.frozen := (rfl)
@[simp] theorem State.modTwin_str_snapTime (k : Nat) (f : _ → _) : (s.modTwin k f).str.snapTime = s.str.snapTime := (rfl)
@[simp] theorem State.modTwin_str_harvestMs (k : Nat) (f : _ → _) :
    (s.modTwin k f).str.harvestMs = s.str.harvestMs := (rfl)

@[simp] theorem State.modFeed_now (k : Nat) (f : _ → _) : (s.modFeed k f).now = s.now := (rfl)
@[simp] theorem State.modFeed_pending (k : Nat) (f : _ → _) : (s.modFeed k f).pending = s.pending := (rfl)
@[simp] theorem State.modFeed_answer (k : Nat) (f : _ → _) : (s.modFeed k f).answer = s.answer := (rfl)
@[simp] theorem State.modFeed_emits (k : Nat) (f : _ → _) : (s.modFeed k f).emits = s.emits := (rfl)
@[simp] theorem State.modFeed_fresh (k : Nat) (f : _ → _) : (s.modFeed k f).fresh = s.fresh := (rfl)
@[simp] theorem State.modFeed_links (k : Nat) (f : _ → _) : (s.modFeed k f).links = s.links := (rfl)
@[simp] theorem State.modFeed_shed (k : Nat) (f : _ → _) : (s.modFeed k f).shed = s.shed := (rfl)
@[simp] theorem State.modFeed_copy (k : Nat) (f : _ → _) : (s.modFeed k f).copy = s.copy := (rfl)
@[simp] theorem State.modFeed_fwd (k : Nat) (f : _ → _) : (s.modFeed k f).fwd = s.fwd := (rfl)
@[simp] theorem State.modFeed_rings (k : Nat) (f : _ → _) : (s.modFeed k f).rings = s.rings := (rfl)
@[simp] theorem State.modFeed_egr (k : Nat) (f : _ → _) : (s.modFeed k f).egr = s.egr := (rfl)
@[simp] theorem State.modFeed_alm (k : Nat) (f : _ → _) : (s.modFeed k f).alm = s.alm := (rfl)
@[simp] theorem State.modFeed_allots (k : Nat) (f : _ → _) : (s.modFeed k f).allots = s.allots := (rfl)
@[simp] theorem State.modFeed_irq (k : Nat) (f : _ → _) : (s.modFeed k f).irq = s.irq := (rfl)
@[simp] theorem State.modFeed_mem (k : Nat) (f : _ → _) : (s.modFeed k f).mem = s.mem := (rfl)
@[simp] theorem State.modFeed_flt (k : Nat) (f : _ → _) : (s.modFeed k f).flt = s.flt := (rfl)
@[simp] theorem State.modFeed_cal (k : Nat) (f : _ → _) : (s.modFeed k f).cal = s.cal := (rfl)
@[simp] theorem State.modFeed_gauge (k : Nat) (f : _ → _) : (s.modFeed k f).gauge = s.gauge := (rfl)
@[simp] theorem State.modFeed_mod (k : Nat) (f : _ → _) : (s.modFeed k f).mod = s.mod := (rfl)
@[simp] theorem State.modFeed_clk (k : Nat) (f : _ → _) : (s.modFeed k f).clk = s.clk := (rfl)
@[simp] theorem State.modFeed_boot (k : Nat) (f : _ → _) : (s.modFeed k f).boot = s.boot := (rfl)
@[simp] theorem State.modFeed_str_slots (k : Nat) (f : _ → _) : (s.modFeed k f).str.slots = s.str.slots := (rfl)
@[simp] theorem State.modFeed_str_twins (k : Nat) (f : _ → _) : (s.modFeed k f).str.twins = s.str.twins := (rfl)
@[simp] theorem State.modFeed_str_groups (k : Nat) (f : _ → _) : (s.modFeed k f).str.groups = s.str.groups := (rfl)
@[simp] theorem State.modFeed_str_intakes (k : Nat) (f : _ → _) : (s.modFeed k f).str.intakes = s.str.intakes := (rfl)
@[simp] theorem State.modFeed_str_outtakes (k : Nat) (f : _ → _) : (s.modFeed k f).str.outtakes = s.str.outtakes := (rfl)
@[simp] theorem State.modFeed_str_beds (k : Nat) (f : _ → _) : (s.modFeed k f).str.beds = s.str.beds := (rfl)
@[simp] theorem State.modFeed_str_peerClears (k : Nat) (f : _ → _) :
    (s.modFeed k f).str.peerClears = s.str.peerClears := (rfl)
@[simp] theorem State.modFeed_str_patch (k : Nat) (f : _ → _) : (s.modFeed k f).str.patch = s.str.patch := (rfl)
@[simp] theorem State.modFeed_str_patchAt (k : Nat) (f : _ → _) : (s.modFeed k f).str.patchAt = s.str.patchAt := (rfl)
@[simp] theorem State.modFeed_str_patchActive (k : Nat) (f : _ → _) :
    (s.modFeed k f).str.patchActive = s.str.patchActive := (rfl)
@[simp] theorem State.modFeed_str_patchStandby (k : Nat) (f : _ → _) :
    (s.modFeed k f).str.patchStandby = s.str.patchStandby := (rfl)
@[simp] theorem State.modFeed_str_loadResult (k : Nat) (f : _ → _) :
    (s.modFeed k f).str.loadResult = s.str.loadResult := (rfl)
@[simp] theorem State.modFeed_str_soilTests (k : Nat) (f : _ → _) :
    (s.modFeed k f).str.soilTests = s.str.soilTests := (rfl)
@[simp] theorem State.modFeed_str_frozen (k : Nat) (f : _ → _) : (s.modFeed k f).str.frozen = s.str.frozen := (rfl)
@[simp] theorem State.modFeed_str_snapTime (k : Nat) (f : _ → _) : (s.modFeed k f).str.snapTime = s.str.snapTime := (rfl)
@[simp] theorem State.modFeed_str_harvestMs (k : Nat) (f : _ → _) :
    (s.modFeed k f).str.harvestMs = s.str.harvestMs := (rfl)

@[simp] theorem State.modGroup_now (k : Nat) (f : _ → _) : (s.modGroup k f).now = s.now := (rfl)
@[simp] theorem State.modGroup_pending (k : Nat) (f : _ → _) : (s.modGroup k f).pending = s.pending := (rfl)
@[simp] theorem State.modGroup_answer (k : Nat) (f : _ → _) : (s.modGroup k f).answer = s.answer := (rfl)
@[simp] theorem State.modGroup_emits (k : Nat) (f : _ → _) : (s.modGroup k f).emits = s.emits := (rfl)
@[simp] theorem State.modGroup_fresh (k : Nat) (f : _ → _) : (s.modGroup k f).fresh = s.fresh := (rfl)
@[simp] theorem State.modGroup_links (k : Nat) (f : _ → _) : (s.modGroup k f).links = s.links := (rfl)
@[simp] theorem State.modGroup_shed (k : Nat) (f : _ → _) : (s.modGroup k f).shed = s.shed := (rfl)
@[simp] theorem State.modGroup_copy (k : Nat) (f : _ → _) : (s.modGroup k f).copy = s.copy := (rfl)
@[simp] theorem State.modGroup_fwd (k : Nat) (f : _ → _) : (s.modGroup k f).fwd = s.fwd := (rfl)
@[simp] theorem State.modGroup_rings (k : Nat) (f : _ → _) : (s.modGroup k f).rings = s.rings := (rfl)
@[simp] theorem State.modGroup_egr (k : Nat) (f : _ → _) : (s.modGroup k f).egr = s.egr := (rfl)
@[simp] theorem State.modGroup_alm (k : Nat) (f : _ → _) : (s.modGroup k f).alm = s.alm := (rfl)
@[simp] theorem State.modGroup_allots (k : Nat) (f : _ → _) : (s.modGroup k f).allots = s.allots := (rfl)
@[simp] theorem State.modGroup_irq (k : Nat) (f : _ → _) : (s.modGroup k f).irq = s.irq := (rfl)
@[simp] theorem State.modGroup_mem (k : Nat) (f : _ → _) : (s.modGroup k f).mem = s.mem := (rfl)
@[simp] theorem State.modGroup_flt (k : Nat) (f : _ → _) : (s.modGroup k f).flt = s.flt := (rfl)
@[simp] theorem State.modGroup_cal (k : Nat) (f : _ → _) : (s.modGroup k f).cal = s.cal := (rfl)
@[simp] theorem State.modGroup_gauge (k : Nat) (f : _ → _) : (s.modGroup k f).gauge = s.gauge := (rfl)
@[simp] theorem State.modGroup_mod (k : Nat) (f : _ → _) : (s.modGroup k f).mod = s.mod := (rfl)
@[simp] theorem State.modGroup_clk (k : Nat) (f : _ → _) : (s.modGroup k f).clk = s.clk := (rfl)
@[simp] theorem State.modGroup_boot (k : Nat) (f : _ → _) : (s.modGroup k f).boot = s.boot := (rfl)
@[simp] theorem State.modGroup_str_slots (k : Nat) (f : _ → _) : (s.modGroup k f).str.slots = s.str.slots := (rfl)
@[simp] theorem State.modGroup_str_twins (k : Nat) (f : _ → _) : (s.modGroup k f).str.twins = s.str.twins := (rfl)
@[simp] theorem State.modGroup_str_feeds (k : Nat) (f : _ → _) : (s.modGroup k f).str.feeds = s.str.feeds := (rfl)
@[simp] theorem State.modGroup_str_intakes (k : Nat) (f : _ → _) : (s.modGroup k f).str.intakes = s.str.intakes := (rfl)
@[simp] theorem State.modGroup_str_outtakes (k : Nat) (f : _ → _) :
    (s.modGroup k f).str.outtakes = s.str.outtakes := (rfl)
@[simp] theorem State.modGroup_str_beds (k : Nat) (f : _ → _) : (s.modGroup k f).str.beds = s.str.beds := (rfl)
@[simp] theorem State.modGroup_str_peerClears (k : Nat) (f : _ → _) :
    (s.modGroup k f).str.peerClears = s.str.peerClears := (rfl)
@[simp] theorem State.modGroup_str_patch (k : Nat) (f : _ → _) : (s.modGroup k f).str.patch = s.str.patch := (rfl)
@[simp] theorem State.modGroup_str_patchAt (k : Nat) (f : _ → _) : (s.modGroup k f).str.patchAt = s.str.patchAt := (rfl)
@[simp] theorem State.modGroup_str_patchActive (k : Nat) (f : _ → _) :
    (s.modGroup k f).str.patchActive = s.str.patchActive := (rfl)
@[simp] theorem State.modGroup_str_patchStandby (k : Nat) (f : _ → _) :
    (s.modGroup k f).str.patchStandby = s.str.patchStandby := (rfl)
@[simp] theorem State.modGroup_str_loadResult (k : Nat) (f : _ → _) :
    (s.modGroup k f).str.loadResult = s.str.loadResult := (rfl)
@[simp] theorem State.modGroup_str_soilTests (k : Nat) (f : _ → _) :
    (s.modGroup k f).str.soilTests = s.str.soilTests := (rfl)
@[simp] theorem State.modGroup_str_frozen (k : Nat) (f : _ → _) : (s.modGroup k f).str.frozen = s.str.frozen := (rfl)
@[simp] theorem State.modGroup_str_snapTime (k : Nat) (f : _ → _) :
    (s.modGroup k f).str.snapTime = s.str.snapTime := (rfl)
@[simp] theorem State.modGroup_str_harvestMs (k : Nat) (f : _ → _) :
    (s.modGroup k f).str.harvestMs = s.str.harvestMs := (rfl)

@[simp] theorem State.modIntake_now (k : Nat) (f : _ → _) : (s.modIntake k f).now = s.now := (rfl)
@[simp] theorem State.modIntake_pending (k : Nat) (f : _ → _) : (s.modIntake k f).pending = s.pending := (rfl)
@[simp] theorem State.modIntake_answer (k : Nat) (f : _ → _) : (s.modIntake k f).answer = s.answer := (rfl)
@[simp] theorem State.modIntake_emits (k : Nat) (f : _ → _) : (s.modIntake k f).emits = s.emits := (rfl)
@[simp] theorem State.modIntake_fresh (k : Nat) (f : _ → _) : (s.modIntake k f).fresh = s.fresh := (rfl)
@[simp] theorem State.modIntake_links (k : Nat) (f : _ → _) : (s.modIntake k f).links = s.links := (rfl)
@[simp] theorem State.modIntake_shed (k : Nat) (f : _ → _) : (s.modIntake k f).shed = s.shed := (rfl)
@[simp] theorem State.modIntake_copy (k : Nat) (f : _ → _) : (s.modIntake k f).copy = s.copy := (rfl)
@[simp] theorem State.modIntake_fwd (k : Nat) (f : _ → _) : (s.modIntake k f).fwd = s.fwd := (rfl)
@[simp] theorem State.modIntake_rings (k : Nat) (f : _ → _) : (s.modIntake k f).rings = s.rings := (rfl)
@[simp] theorem State.modIntake_egr (k : Nat) (f : _ → _) : (s.modIntake k f).egr = s.egr := (rfl)
@[simp] theorem State.modIntake_alm (k : Nat) (f : _ → _) : (s.modIntake k f).alm = s.alm := (rfl)
@[simp] theorem State.modIntake_allots (k : Nat) (f : _ → _) : (s.modIntake k f).allots = s.allots := (rfl)
@[simp] theorem State.modIntake_irq (k : Nat) (f : _ → _) : (s.modIntake k f).irq = s.irq := (rfl)
@[simp] theorem State.modIntake_mem (k : Nat) (f : _ → _) : (s.modIntake k f).mem = s.mem := (rfl)
@[simp] theorem State.modIntake_flt (k : Nat) (f : _ → _) : (s.modIntake k f).flt = s.flt := (rfl)
@[simp] theorem State.modIntake_cal (k : Nat) (f : _ → _) : (s.modIntake k f).cal = s.cal := (rfl)
@[simp] theorem State.modIntake_gauge (k : Nat) (f : _ → _) : (s.modIntake k f).gauge = s.gauge := (rfl)
@[simp] theorem State.modIntake_mod (k : Nat) (f : _ → _) : (s.modIntake k f).mod = s.mod := (rfl)
@[simp] theorem State.modIntake_clk (k : Nat) (f : _ → _) : (s.modIntake k f).clk = s.clk := (rfl)
@[simp] theorem State.modIntake_boot (k : Nat) (f : _ → _) : (s.modIntake k f).boot = s.boot := (rfl)
@[simp] theorem State.modIntake_str_slots (k : Nat) (f : _ → _) : (s.modIntake k f).str.slots = s.str.slots := (rfl)
@[simp] theorem State.modIntake_str_twins (k : Nat) (f : _ → _) : (s.modIntake k f).str.twins = s.str.twins := (rfl)
@[simp] theorem State.modIntake_str_feeds (k : Nat) (f : _ → _) : (s.modIntake k f).str.feeds = s.str.feeds := (rfl)
@[simp] theorem State.modIntake_str_groups (k : Nat) (f : _ → _) : (s.modIntake k f).str.groups = s.str.groups := (rfl)
@[simp] theorem State.modIntake_str_outtakes (k : Nat) (f : _ → _) :
    (s.modIntake k f).str.outtakes = s.str.outtakes := (rfl)
@[simp] theorem State.modIntake_str_beds (k : Nat) (f : _ → _) : (s.modIntake k f).str.beds = s.str.beds := (rfl)
@[simp] theorem State.modIntake_str_peerClears (k : Nat) (f : _ → _) :
    (s.modIntake k f).str.peerClears = s.str.peerClears := (rfl)
@[simp] theorem State.modIntake_str_patch (k : Nat) (f : _ → _) : (s.modIntake k f).str.patch = s.str.patch := (rfl)
@[simp] theorem State.modIntake_str_patchAt (k : Nat) (f : _ → _) : (s.modIntake k f).str.patchAt = s.str.patchAt := (rfl)
@[simp] theorem State.modIntake_str_patchActive (k : Nat) (f : _ → _) :
    (s.modIntake k f).str.patchActive = s.str.patchActive := (rfl)
@[simp] theorem State.modIntake_str_patchStandby (k : Nat) (f : _ → _) :
    (s.modIntake k f).str.patchStandby = s.str.patchStandby := (rfl)
@[simp] theorem State.modIntake_str_loadResult (k : Nat) (f : _ → _) :
    (s.modIntake k f).str.loadResult = s.str.loadResult := (rfl)
@[simp] theorem State.modIntake_str_soilTests (k : Nat) (f : _ → _) :
    (s.modIntake k f).str.soilTests = s.str.soilTests := (rfl)
@[simp] theorem State.modIntake_str_frozen (k : Nat) (f : _ → _) : (s.modIntake k f).str.frozen = s.str.frozen := (rfl)
@[simp] theorem State.modIntake_str_snapTime (k : Nat) (f : _ → _) :
    (s.modIntake k f).str.snapTime = s.str.snapTime := (rfl)
@[simp] theorem State.modIntake_str_harvestMs (k : Nat) (f : _ → _) :
    (s.modIntake k f).str.harvestMs = s.str.harvestMs := (rfl)

@[simp] theorem State.modOuttake_now (k : Nat) (f : _ → _) : (s.modOuttake k f).now = s.now := (rfl)
@[simp] theorem State.modOuttake_pending (k : Nat) (f : _ → _) : (s.modOuttake k f).pending = s.pending := (rfl)
@[simp] theorem State.modOuttake_answer (k : Nat) (f : _ → _) : (s.modOuttake k f).answer = s.answer := (rfl)
@[simp] theorem State.modOuttake_emits (k : Nat) (f : _ → _) : (s.modOuttake k f).emits = s.emits := (rfl)
@[simp] theorem State.modOuttake_fresh (k : Nat) (f : _ → _) : (s.modOuttake k f).fresh = s.fresh := (rfl)
@[simp] theorem State.modOuttake_links (k : Nat) (f : _ → _) : (s.modOuttake k f).links = s.links := (rfl)
@[simp] theorem State.modOuttake_shed (k : Nat) (f : _ → _) : (s.modOuttake k f).shed = s.shed := (rfl)
@[simp] theorem State.modOuttake_copy (k : Nat) (f : _ → _) : (s.modOuttake k f).copy = s.copy := (rfl)
@[simp] theorem State.modOuttake_fwd (k : Nat) (f : _ → _) : (s.modOuttake k f).fwd = s.fwd := (rfl)
@[simp] theorem State.modOuttake_rings (k : Nat) (f : _ → _) : (s.modOuttake k f).rings = s.rings := (rfl)
@[simp] theorem State.modOuttake_egr (k : Nat) (f : _ → _) : (s.modOuttake k f).egr = s.egr := (rfl)
@[simp] theorem State.modOuttake_alm (k : Nat) (f : _ → _) : (s.modOuttake k f).alm = s.alm := (rfl)
@[simp] theorem State.modOuttake_allots (k : Nat) (f : _ → _) : (s.modOuttake k f).allots = s.allots := (rfl)
@[simp] theorem State.modOuttake_irq (k : Nat) (f : _ → _) : (s.modOuttake k f).irq = s.irq := (rfl)
@[simp] theorem State.modOuttake_mem (k : Nat) (f : _ → _) : (s.modOuttake k f).mem = s.mem := (rfl)
@[simp] theorem State.modOuttake_flt (k : Nat) (f : _ → _) : (s.modOuttake k f).flt = s.flt := (rfl)
@[simp] theorem State.modOuttake_cal (k : Nat) (f : _ → _) : (s.modOuttake k f).cal = s.cal := (rfl)
@[simp] theorem State.modOuttake_gauge (k : Nat) (f : _ → _) : (s.modOuttake k f).gauge = s.gauge := (rfl)
@[simp] theorem State.modOuttake_mod (k : Nat) (f : _ → _) : (s.modOuttake k f).mod = s.mod := (rfl)
@[simp] theorem State.modOuttake_clk (k : Nat) (f : _ → _) : (s.modOuttake k f).clk = s.clk := (rfl)
@[simp] theorem State.modOuttake_boot (k : Nat) (f : _ → _) : (s.modOuttake k f).boot = s.boot := (rfl)
@[simp] theorem State.modOuttake_str_slots (k : Nat) (f : _ → _) : (s.modOuttake k f).str.slots = s.str.slots := (rfl)
@[simp] theorem State.modOuttake_str_twins (k : Nat) (f : _ → _) : (s.modOuttake k f).str.twins = s.str.twins := (rfl)
@[simp] theorem State.modOuttake_str_feeds (k : Nat) (f : _ → _) : (s.modOuttake k f).str.feeds = s.str.feeds := (rfl)
@[simp] theorem State.modOuttake_str_groups (k : Nat) (f : _ → _) : (s.modOuttake k f).str.groups = s.str.groups := (rfl)
@[simp] theorem State.modOuttake_str_intakes (k : Nat) (f : _ → _) :
    (s.modOuttake k f).str.intakes = s.str.intakes := (rfl)
@[simp] theorem State.modOuttake_str_beds (k : Nat) (f : _ → _) : (s.modOuttake k f).str.beds = s.str.beds := (rfl)
@[simp] theorem State.modOuttake_str_peerClears (k : Nat) (f : _ → _) :
    (s.modOuttake k f).str.peerClears = s.str.peerClears := (rfl)
@[simp] theorem State.modOuttake_str_patch (k : Nat) (f : _ → _) : (s.modOuttake k f).str.patch = s.str.patch := (rfl)
@[simp] theorem State.modOuttake_str_patchAt (k : Nat) (f : _ → _) :
    (s.modOuttake k f).str.patchAt = s.str.patchAt := (rfl)
@[simp] theorem State.modOuttake_str_patchActive (k : Nat) (f : _ → _) :
    (s.modOuttake k f).str.patchActive = s.str.patchActive := (rfl)
@[simp] theorem State.modOuttake_str_patchStandby (k : Nat) (f : _ → _) :
    (s.modOuttake k f).str.patchStandby = s.str.patchStandby := (rfl)
@[simp] theorem State.modOuttake_str_loadResult (k : Nat) (f : _ → _) :
    (s.modOuttake k f).str.loadResult = s.str.loadResult := (rfl)
@[simp] theorem State.modOuttake_str_soilTests (k : Nat) (f : _ → _) :
    (s.modOuttake k f).str.soilTests = s.str.soilTests := (rfl)
@[simp] theorem State.modOuttake_str_frozen (k : Nat) (f : _ → _) : (s.modOuttake k f).str.frozen = s.str.frozen := (rfl)
@[simp] theorem State.modOuttake_str_snapTime (k : Nat) (f : _ → _) :
    (s.modOuttake k f).str.snapTime = s.str.snapTime := (rfl)
@[simp] theorem State.modOuttake_str_harvestMs (k : Nat) (f : _ → _) :
    (s.modOuttake k f).str.harvestMs = s.str.harvestMs := (rfl)

@[simp] theorem State.modBed_now (k : Nat) (f : _ → _) : (s.modBed k f).now = s.now := (rfl)
@[simp] theorem State.modBed_pending (k : Nat) (f : _ → _) : (s.modBed k f).pending = s.pending := (rfl)
@[simp] theorem State.modBed_answer (k : Nat) (f : _ → _) : (s.modBed k f).answer = s.answer := (rfl)
@[simp] theorem State.modBed_emits (k : Nat) (f : _ → _) : (s.modBed k f).emits = s.emits := (rfl)
@[simp] theorem State.modBed_fresh (k : Nat) (f : _ → _) : (s.modBed k f).fresh = s.fresh := (rfl)
@[simp] theorem State.modBed_links (k : Nat) (f : _ → _) : (s.modBed k f).links = s.links := (rfl)
@[simp] theorem State.modBed_shed (k : Nat) (f : _ → _) : (s.modBed k f).shed = s.shed := (rfl)
@[simp] theorem State.modBed_copy (k : Nat) (f : _ → _) : (s.modBed k f).copy = s.copy := (rfl)
@[simp] theorem State.modBed_fwd (k : Nat) (f : _ → _) : (s.modBed k f).fwd = s.fwd := (rfl)
@[simp] theorem State.modBed_rings (k : Nat) (f : _ → _) : (s.modBed k f).rings = s.rings := (rfl)
@[simp] theorem State.modBed_egr (k : Nat) (f : _ → _) : (s.modBed k f).egr = s.egr := (rfl)
@[simp] theorem State.modBed_alm (k : Nat) (f : _ → _) : (s.modBed k f).alm = s.alm := (rfl)
@[simp] theorem State.modBed_allots (k : Nat) (f : _ → _) : (s.modBed k f).allots = s.allots := (rfl)
@[simp] theorem State.modBed_irq (k : Nat) (f : _ → _) : (s.modBed k f).irq = s.irq := (rfl)
@[simp] theorem State.modBed_mem (k : Nat) (f : _ → _) : (s.modBed k f).mem = s.mem := (rfl)
@[simp] theorem State.modBed_flt (k : Nat) (f : _ → _) : (s.modBed k f).flt = s.flt := (rfl)
@[simp] theorem State.modBed_cal (k : Nat) (f : _ → _) : (s.modBed k f).cal = s.cal := (rfl)
@[simp] theorem State.modBed_gauge (k : Nat) (f : _ → _) : (s.modBed k f).gauge = s.gauge := (rfl)
@[simp] theorem State.modBed_mod (k : Nat) (f : _ → _) : (s.modBed k f).mod = s.mod := (rfl)
@[simp] theorem State.modBed_clk (k : Nat) (f : _ → _) : (s.modBed k f).clk = s.clk := (rfl)
@[simp] theorem State.modBed_boot (k : Nat) (f : _ → _) : (s.modBed k f).boot = s.boot := (rfl)
@[simp] theorem State.modBed_str_slots (k : Nat) (f : _ → _) : (s.modBed k f).str.slots = s.str.slots := (rfl)
@[simp] theorem State.modBed_str_twins (k : Nat) (f : _ → _) : (s.modBed k f).str.twins = s.str.twins := (rfl)
@[simp] theorem State.modBed_str_feeds (k : Nat) (f : _ → _) : (s.modBed k f).str.feeds = s.str.feeds := (rfl)
@[simp] theorem State.modBed_str_groups (k : Nat) (f : _ → _) : (s.modBed k f).str.groups = s.str.groups := (rfl)
@[simp] theorem State.modBed_str_intakes (k : Nat) (f : _ → _) : (s.modBed k f).str.intakes = s.str.intakes := (rfl)
@[simp] theorem State.modBed_str_outtakes (k : Nat) (f : _ → _) : (s.modBed k f).str.outtakes = s.str.outtakes := (rfl)
@[simp] theorem State.modBed_str_peerClears (k : Nat) (f : _ → _) :
    (s.modBed k f).str.peerClears = s.str.peerClears := (rfl)
@[simp] theorem State.modBed_str_patch (k : Nat) (f : _ → _) : (s.modBed k f).str.patch = s.str.patch := (rfl)
@[simp] theorem State.modBed_str_patchAt (k : Nat) (f : _ → _) : (s.modBed k f).str.patchAt = s.str.patchAt := (rfl)
@[simp] theorem State.modBed_str_patchActive (k : Nat) (f : _ → _) :
    (s.modBed k f).str.patchActive = s.str.patchActive := (rfl)
@[simp] theorem State.modBed_str_patchStandby (k : Nat) (f : _ → _) :
    (s.modBed k f).str.patchStandby = s.str.patchStandby := (rfl)
@[simp] theorem State.modBed_str_loadResult (k : Nat) (f : _ → _) :
    (s.modBed k f).str.loadResult = s.str.loadResult := (rfl)
@[simp] theorem State.modBed_str_soilTests (k : Nat) (f : _ → _) : (s.modBed k f).str.soilTests = s.str.soilTests := (rfl)
@[simp] theorem State.modBed_str_frozen (k : Nat) (f : _ → _) : (s.modBed k f).str.frozen = s.str.frozen := (rfl)
@[simp] theorem State.modBed_str_snapTime (k : Nat) (f : _ → _) : (s.modBed k f).str.snapTime = s.str.snapTime := (rfl)
@[simp] theorem State.modBed_str_harvestMs (k : Nat) (f : _ → _) : (s.modBed k f).str.harvestMs = s.str.harvestMs := (rfl)

@[simp] theorem State.modQueue_now (k : Nat) (f : _ → _) : (s.modQueue k f).now = s.now := (rfl)
@[simp] theorem State.modQueue_pending (k : Nat) (f : _ → _) : (s.modQueue k f).pending = s.pending := (rfl)
@[simp] theorem State.modQueue_answer (k : Nat) (f : _ → _) : (s.modQueue k f).answer = s.answer := (rfl)
@[simp] theorem State.modQueue_emits (k : Nat) (f : _ → _) : (s.modQueue k f).emits = s.emits := (rfl)
@[simp] theorem State.modQueue_fresh (k : Nat) (f : _ → _) : (s.modQueue k f).fresh = s.fresh := (rfl)
@[simp] theorem State.modQueue_links (k : Nat) (f : _ → _) : (s.modQueue k f).links = s.links := (rfl)
@[simp] theorem State.modQueue_shed (k : Nat) (f : _ → _) : (s.modQueue k f).shed = s.shed := (rfl)
@[simp] theorem State.modQueue_copy (k : Nat) (f : _ → _) : (s.modQueue k f).copy = s.copy := (rfl)
@[simp] theorem State.modQueue_fwd (k : Nat) (f : _ → _) : (s.modQueue k f).fwd = s.fwd := (rfl)
@[simp] theorem State.modQueue_rings (k : Nat) (f : _ → _) : (s.modQueue k f).rings = s.rings := (rfl)
@[simp] theorem State.modQueue_str (k : Nat) (f : _ → _) : (s.modQueue k f).str = s.str := (rfl)
@[simp] theorem State.modQueue_alm (k : Nat) (f : _ → _) : (s.modQueue k f).alm = s.alm := (rfl)
@[simp] theorem State.modQueue_allots (k : Nat) (f : _ → _) : (s.modQueue k f).allots = s.allots := (rfl)
@[simp] theorem State.modQueue_irq (k : Nat) (f : _ → _) : (s.modQueue k f).irq = s.irq := (rfl)
@[simp] theorem State.modQueue_mem (k : Nat) (f : _ → _) : (s.modQueue k f).mem = s.mem := (rfl)
@[simp] theorem State.modQueue_flt (k : Nat) (f : _ → _) : (s.modQueue k f).flt = s.flt := (rfl)
@[simp] theorem State.modQueue_cal (k : Nat) (f : _ → _) : (s.modQueue k f).cal = s.cal := (rfl)
@[simp] theorem State.modQueue_gauge (k : Nat) (f : _ → _) : (s.modQueue k f).gauge = s.gauge := (rfl)
@[simp] theorem State.modQueue_mod (k : Nat) (f : _ → _) : (s.modQueue k f).mod = s.mod := (rfl)
@[simp] theorem State.modQueue_clk (k : Nat) (f : _ → _) : (s.modQueue k f).clk = s.clk := (rfl)
@[simp] theorem State.modQueue_boot (k : Nat) (f : _ → _) : (s.modQueue k f).boot = s.boot := (rfl)
@[simp] theorem State.modQueue_egr_groups (k : Nat) (f : _ → _) : (s.modQueue k f).egr.groups = s.egr.groups := (rfl)
@[simp] theorem State.modQueue_egr_gates (k : Nat) (f : _ → _) : (s.modQueue k f).egr.gates = s.egr.gates := (rfl)
@[simp] theorem State.modQueue_egr_policers (k : Nat) (f : _ → _) :
    (s.modQueue k f).egr.policers = s.egr.policers := (rfl)
@[simp] theorem State.modQueue_egr_cells0 (k : Nat) (f : _ → _) : (s.modQueue k f).egr.cells0 = s.egr.cells0 := (rfl)
@[simp] theorem State.modQueue_egr_cells1 (k : Nat) (f : _ → _) : (s.modQueue k f).egr.cells1 = s.egr.cells1 := (rfl)
@[simp] theorem State.modQueue_egr_chains (k : Nat) (f : _ → _) : (s.modQueue k f).egr.chains = s.egr.chains := (rfl)
@[simp] theorem State.modQueue_egr_nextChain (k : Nat) (f : _ → _) :
    (s.modQueue k f).egr.nextChain = s.egr.nextChain := (rfl)

@[simp] theorem State.modQGroup_now (k : Nat) (f : _ → _) : (s.modQGroup k f).now = s.now := (rfl)
@[simp] theorem State.modQGroup_pending (k : Nat) (f : _ → _) : (s.modQGroup k f).pending = s.pending := (rfl)
@[simp] theorem State.modQGroup_answer (k : Nat) (f : _ → _) : (s.modQGroup k f).answer = s.answer := (rfl)
@[simp] theorem State.modQGroup_emits (k : Nat) (f : _ → _) : (s.modQGroup k f).emits = s.emits := (rfl)
@[simp] theorem State.modQGroup_fresh (k : Nat) (f : _ → _) : (s.modQGroup k f).fresh = s.fresh := (rfl)
@[simp] theorem State.modQGroup_links (k : Nat) (f : _ → _) : (s.modQGroup k f).links = s.links := (rfl)
@[simp] theorem State.modQGroup_shed (k : Nat) (f : _ → _) : (s.modQGroup k f).shed = s.shed := (rfl)
@[simp] theorem State.modQGroup_copy (k : Nat) (f : _ → _) : (s.modQGroup k f).copy = s.copy := (rfl)
@[simp] theorem State.modQGroup_fwd (k : Nat) (f : _ → _) : (s.modQGroup k f).fwd = s.fwd := (rfl)
@[simp] theorem State.modQGroup_rings (k : Nat) (f : _ → _) : (s.modQGroup k f).rings = s.rings := (rfl)
@[simp] theorem State.modQGroup_str (k : Nat) (f : _ → _) : (s.modQGroup k f).str = s.str := (rfl)
@[simp] theorem State.modQGroup_alm (k : Nat) (f : _ → _) : (s.modQGroup k f).alm = s.alm := (rfl)
@[simp] theorem State.modQGroup_allots (k : Nat) (f : _ → _) : (s.modQGroup k f).allots = s.allots := (rfl)
@[simp] theorem State.modQGroup_irq (k : Nat) (f : _ → _) : (s.modQGroup k f).irq = s.irq := (rfl)
@[simp] theorem State.modQGroup_mem (k : Nat) (f : _ → _) : (s.modQGroup k f).mem = s.mem := (rfl)
@[simp] theorem State.modQGroup_flt (k : Nat) (f : _ → _) : (s.modQGroup k f).flt = s.flt := (rfl)
@[simp] theorem State.modQGroup_cal (k : Nat) (f : _ → _) : (s.modQGroup k f).cal = s.cal := (rfl)
@[simp] theorem State.modQGroup_gauge (k : Nat) (f : _ → _) : (s.modQGroup k f).gauge = s.gauge := (rfl)
@[simp] theorem State.modQGroup_mod (k : Nat) (f : _ → _) : (s.modQGroup k f).mod = s.mod := (rfl)
@[simp] theorem State.modQGroup_clk (k : Nat) (f : _ → _) : (s.modQGroup k f).clk = s.clk := (rfl)
@[simp] theorem State.modQGroup_boot (k : Nat) (f : _ → _) : (s.modQGroup k f).boot = s.boot := (rfl)
@[simp] theorem State.modQGroup_egr_queues (k : Nat) (f : _ → _) : (s.modQGroup k f).egr.queues = s.egr.queues := (rfl)
@[simp] theorem State.modQGroup_egr_gates (k : Nat) (f : _ → _) : (s.modQGroup k f).egr.gates = s.egr.gates := (rfl)
@[simp] theorem State.modQGroup_egr_policers (k : Nat) (f : _ → _) :
    (s.modQGroup k f).egr.policers = s.egr.policers := (rfl)
@[simp] theorem State.modQGroup_egr_cells0 (k : Nat) (f : _ → _) : (s.modQGroup k f).egr.cells0 = s.egr.cells0 := (rfl)
@[simp] theorem State.modQGroup_egr_cells1 (k : Nat) (f : _ → _) : (s.modQGroup k f).egr.cells1 = s.egr.cells1 := (rfl)
@[simp] theorem State.modQGroup_egr_chains (k : Nat) (f : _ → _) : (s.modQGroup k f).egr.chains = s.egr.chains := (rfl)
@[simp] theorem State.modQGroup_egr_nextChain (k : Nat) (f : _ → _) :
    (s.modQGroup k f).egr.nextChain = s.egr.nextChain := (rfl)

@[simp] theorem State.modGate_now (k : Nat) (f : _ → _) : (s.modGate k f).now = s.now := (rfl)
@[simp] theorem State.modGate_pending (k : Nat) (f : _ → _) : (s.modGate k f).pending = s.pending := (rfl)
@[simp] theorem State.modGate_answer (k : Nat) (f : _ → _) : (s.modGate k f).answer = s.answer := (rfl)
@[simp] theorem State.modGate_emits (k : Nat) (f : _ → _) : (s.modGate k f).emits = s.emits := (rfl)
@[simp] theorem State.modGate_fresh (k : Nat) (f : _ → _) : (s.modGate k f).fresh = s.fresh := (rfl)
@[simp] theorem State.modGate_links (k : Nat) (f : _ → _) : (s.modGate k f).links = s.links := (rfl)
@[simp] theorem State.modGate_shed (k : Nat) (f : _ → _) : (s.modGate k f).shed = s.shed := (rfl)
@[simp] theorem State.modGate_copy (k : Nat) (f : _ → _) : (s.modGate k f).copy = s.copy := (rfl)
@[simp] theorem State.modGate_fwd (k : Nat) (f : _ → _) : (s.modGate k f).fwd = s.fwd := (rfl)
@[simp] theorem State.modGate_rings (k : Nat) (f : _ → _) : (s.modGate k f).rings = s.rings := (rfl)
@[simp] theorem State.modGate_str (k : Nat) (f : _ → _) : (s.modGate k f).str = s.str := (rfl)
@[simp] theorem State.modGate_alm (k : Nat) (f : _ → _) : (s.modGate k f).alm = s.alm := (rfl)
@[simp] theorem State.modGate_allots (k : Nat) (f : _ → _) : (s.modGate k f).allots = s.allots := (rfl)
@[simp] theorem State.modGate_irq (k : Nat) (f : _ → _) : (s.modGate k f).irq = s.irq := (rfl)
@[simp] theorem State.modGate_mem (k : Nat) (f : _ → _) : (s.modGate k f).mem = s.mem := (rfl)
@[simp] theorem State.modGate_flt (k : Nat) (f : _ → _) : (s.modGate k f).flt = s.flt := (rfl)
@[simp] theorem State.modGate_cal (k : Nat) (f : _ → _) : (s.modGate k f).cal = s.cal := (rfl)
@[simp] theorem State.modGate_gauge (k : Nat) (f : _ → _) : (s.modGate k f).gauge = s.gauge := (rfl)
@[simp] theorem State.modGate_mod (k : Nat) (f : _ → _) : (s.modGate k f).mod = s.mod := (rfl)
@[simp] theorem State.modGate_clk (k : Nat) (f : _ → _) : (s.modGate k f).clk = s.clk := (rfl)
@[simp] theorem State.modGate_boot (k : Nat) (f : _ → _) : (s.modGate k f).boot = s.boot := (rfl)
@[simp] theorem State.modGate_egr_queues (k : Nat) (f : _ → _) : (s.modGate k f).egr.queues = s.egr.queues := (rfl)
@[simp] theorem State.modGate_egr_groups (k : Nat) (f : _ → _) : (s.modGate k f).egr.groups = s.egr.groups := (rfl)
@[simp] theorem State.modGate_egr_policers (k : Nat) (f : _ → _) : (s.modGate k f).egr.policers = s.egr.policers := (rfl)
@[simp] theorem State.modGate_egr_cells0 (k : Nat) (f : _ → _) : (s.modGate k f).egr.cells0 = s.egr.cells0 := (rfl)
@[simp] theorem State.modGate_egr_cells1 (k : Nat) (f : _ → _) : (s.modGate k f).egr.cells1 = s.egr.cells1 := (rfl)
@[simp] theorem State.modGate_egr_chains (k : Nat) (f : _ → _) : (s.modGate k f).egr.chains = s.egr.chains := (rfl)
@[simp] theorem State.modGate_egr_nextChain (k : Nat) (f : _ → _) :
    (s.modGate k f).egr.nextChain = s.egr.nextChain := (rfl)

@[simp] theorem State.modPolicer_now (k : Nat) (f : _ → _) : (s.modPolicer k f).now = s.now := (rfl)
@[simp] theorem State.modPolicer_pending (k : Nat) (f : _ → _) : (s.modPolicer k f).pending = s.pending := (rfl)
@[simp] theorem State.modPolicer_answer (k : Nat) (f : _ → _) : (s.modPolicer k f).answer = s.answer := (rfl)
@[simp] theorem State.modPolicer_emits (k : Nat) (f : _ → _) : (s.modPolicer k f).emits = s.emits := (rfl)
@[simp] theorem State.modPolicer_fresh (k : Nat) (f : _ → _) : (s.modPolicer k f).fresh = s.fresh := (rfl)
@[simp] theorem State.modPolicer_links (k : Nat) (f : _ → _) : (s.modPolicer k f).links = s.links := (rfl)
@[simp] theorem State.modPolicer_shed (k : Nat) (f : _ → _) : (s.modPolicer k f).shed = s.shed := (rfl)
@[simp] theorem State.modPolicer_copy (k : Nat) (f : _ → _) : (s.modPolicer k f).copy = s.copy := (rfl)
@[simp] theorem State.modPolicer_fwd (k : Nat) (f : _ → _) : (s.modPolicer k f).fwd = s.fwd := (rfl)
@[simp] theorem State.modPolicer_rings (k : Nat) (f : _ → _) : (s.modPolicer k f).rings = s.rings := (rfl)
@[simp] theorem State.modPolicer_str (k : Nat) (f : _ → _) : (s.modPolicer k f).str = s.str := (rfl)
@[simp] theorem State.modPolicer_alm (k : Nat) (f : _ → _) : (s.modPolicer k f).alm = s.alm := (rfl)
@[simp] theorem State.modPolicer_allots (k : Nat) (f : _ → _) : (s.modPolicer k f).allots = s.allots := (rfl)
@[simp] theorem State.modPolicer_irq (k : Nat) (f : _ → _) : (s.modPolicer k f).irq = s.irq := (rfl)
@[simp] theorem State.modPolicer_mem (k : Nat) (f : _ → _) : (s.modPolicer k f).mem = s.mem := (rfl)
@[simp] theorem State.modPolicer_flt (k : Nat) (f : _ → _) : (s.modPolicer k f).flt = s.flt := (rfl)
@[simp] theorem State.modPolicer_cal (k : Nat) (f : _ → _) : (s.modPolicer k f).cal = s.cal := (rfl)
@[simp] theorem State.modPolicer_gauge (k : Nat) (f : _ → _) : (s.modPolicer k f).gauge = s.gauge := (rfl)
@[simp] theorem State.modPolicer_mod (k : Nat) (f : _ → _) : (s.modPolicer k f).mod = s.mod := (rfl)
@[simp] theorem State.modPolicer_clk (k : Nat) (f : _ → _) : (s.modPolicer k f).clk = s.clk := (rfl)
@[simp] theorem State.modPolicer_boot (k : Nat) (f : _ → _) : (s.modPolicer k f).boot = s.boot := (rfl)
@[simp] theorem State.modPolicer_egr_queues (k : Nat) (f : _ → _) : (s.modPolicer k f).egr.queues = s.egr.queues := (rfl)
@[simp] theorem State.modPolicer_egr_groups (k : Nat) (f : _ → _) : (s.modPolicer k f).egr.groups = s.egr.groups := (rfl)
@[simp] theorem State.modPolicer_egr_gates (k : Nat) (f : _ → _) : (s.modPolicer k f).egr.gates = s.egr.gates := (rfl)
@[simp] theorem State.modPolicer_egr_cells0 (k : Nat) (f : _ → _) : (s.modPolicer k f).egr.cells0 = s.egr.cells0 := (rfl)
@[simp] theorem State.modPolicer_egr_cells1 (k : Nat) (f : _ → _) : (s.modPolicer k f).egr.cells1 = s.egr.cells1 := (rfl)
@[simp] theorem State.modPolicer_egr_chains (k : Nat) (f : _ → _) : (s.modPolicer k f).egr.chains = s.egr.chains := (rfl)
@[simp] theorem State.modPolicer_egr_nextChain (k : Nat) (f : _ → _) :
    (s.modPolicer k f).egr.nextChain = s.egr.nextChain := (rfl)

@[simp] theorem State.modAllot_now (k : Nat) (f : _ → _) : (s.modAllot k f).now = s.now := (rfl)
@[simp] theorem State.modAllot_pending (k : Nat) (f : _ → _) : (s.modAllot k f).pending = s.pending := (rfl)
@[simp] theorem State.modAllot_answer (k : Nat) (f : _ → _) : (s.modAllot k f).answer = s.answer := (rfl)
@[simp] theorem State.modAllot_emits (k : Nat) (f : _ → _) : (s.modAllot k f).emits = s.emits := (rfl)
@[simp] theorem State.modAllot_fresh (k : Nat) (f : _ → _) : (s.modAllot k f).fresh = s.fresh := (rfl)
@[simp] theorem State.modAllot_links (k : Nat) (f : _ → _) : (s.modAllot k f).links = s.links := (rfl)
@[simp] theorem State.modAllot_shed (k : Nat) (f : _ → _) : (s.modAllot k f).shed = s.shed := (rfl)
@[simp] theorem State.modAllot_copy (k : Nat) (f : _ → _) : (s.modAllot k f).copy = s.copy := (rfl)
@[simp] theorem State.modAllot_fwd (k : Nat) (f : _ → _) : (s.modAllot k f).fwd = s.fwd := (rfl)
@[simp] theorem State.modAllot_rings (k : Nat) (f : _ → _) : (s.modAllot k f).rings = s.rings := (rfl)
@[simp] theorem State.modAllot_str (k : Nat) (f : _ → _) : (s.modAllot k f).str = s.str := (rfl)
@[simp] theorem State.modAllot_egr (k : Nat) (f : _ → _) : (s.modAllot k f).egr = s.egr := (rfl)
@[simp] theorem State.modAllot_alm (k : Nat) (f : _ → _) : (s.modAllot k f).alm = s.alm := (rfl)
@[simp] theorem State.modAllot_irq (k : Nat) (f : _ → _) : (s.modAllot k f).irq = s.irq := (rfl)
@[simp] theorem State.modAllot_mem (k : Nat) (f : _ → _) : (s.modAllot k f).mem = s.mem := (rfl)
@[simp] theorem State.modAllot_flt (k : Nat) (f : _ → _) : (s.modAllot k f).flt = s.flt := (rfl)
@[simp] theorem State.modAllot_cal (k : Nat) (f : _ → _) : (s.modAllot k f).cal = s.cal := (rfl)
@[simp] theorem State.modAllot_gauge (k : Nat) (f : _ → _) : (s.modAllot k f).gauge = s.gauge := (rfl)
@[simp] theorem State.modAllot_mod (k : Nat) (f : _ → _) : (s.modAllot k f).mod = s.mod := (rfl)
@[simp] theorem State.modAllot_clk (k : Nat) (f : _ → _) : (s.modAllot k f).clk = s.clk := (rfl)
@[simp] theorem State.modAllot_boot (k : Nat) (f : _ → _) : (s.modAllot k f).boot = s.boot := (rfl)

@[simp] theorem State.modVector_now (k : Nat) (f : _ → _) : (s.modVector k f).now = s.now := (rfl)
@[simp] theorem State.modVector_pending (k : Nat) (f : _ → _) : (s.modVector k f).pending = s.pending := (rfl)
@[simp] theorem State.modVector_answer (k : Nat) (f : _ → _) : (s.modVector k f).answer = s.answer := (rfl)
@[simp] theorem State.modVector_emits (k : Nat) (f : _ → _) : (s.modVector k f).emits = s.emits := (rfl)
@[simp] theorem State.modVector_fresh (k : Nat) (f : _ → _) : (s.modVector k f).fresh = s.fresh := (rfl)
@[simp] theorem State.modVector_links (k : Nat) (f : _ → _) : (s.modVector k f).links = s.links := (rfl)
@[simp] theorem State.modVector_shed (k : Nat) (f : _ → _) : (s.modVector k f).shed = s.shed := (rfl)
@[simp] theorem State.modVector_copy (k : Nat) (f : _ → _) : (s.modVector k f).copy = s.copy := (rfl)
@[simp] theorem State.modVector_fwd (k : Nat) (f : _ → _) : (s.modVector k f).fwd = s.fwd := (rfl)
@[simp] theorem State.modVector_rings (k : Nat) (f : _ → _) : (s.modVector k f).rings = s.rings := (rfl)
@[simp] theorem State.modVector_str (k : Nat) (f : _ → _) : (s.modVector k f).str = s.str := (rfl)
@[simp] theorem State.modVector_egr (k : Nat) (f : _ → _) : (s.modVector k f).egr = s.egr := (rfl)
@[simp] theorem State.modVector_alm (k : Nat) (f : _ → _) : (s.modVector k f).alm = s.alm := (rfl)
@[simp] theorem State.modVector_allots (k : Nat) (f : _ → _) : (s.modVector k f).allots = s.allots := (rfl)
@[simp] theorem State.modVector_mem (k : Nat) (f : _ → _) : (s.modVector k f).mem = s.mem := (rfl)
@[simp] theorem State.modVector_flt (k : Nat) (f : _ → _) : (s.modVector k f).flt = s.flt := (rfl)
@[simp] theorem State.modVector_cal (k : Nat) (f : _ → _) : (s.modVector k f).cal = s.cal := (rfl)
@[simp] theorem State.modVector_gauge (k : Nat) (f : _ → _) : (s.modVector k f).gauge = s.gauge := (rfl)
@[simp] theorem State.modVector_mod (k : Nat) (f : _ → _) : (s.modVector k f).mod = s.mod := (rfl)
@[simp] theorem State.modVector_clk (k : Nat) (f : _ → _) : (s.modVector k f).clk = s.clk := (rfl)
@[simp] theorem State.modVector_boot (k : Nat) (f : _ → _) : (s.modVector k f).boot = s.boot := (rfl)
@[simp] theorem State.modVector_irq_host (k : Nat) (f : _ → _) : (s.modVector k f).irq.host = s.irq.host := (rfl)
@[simp] theorem State.modVector_irq_shed (k : Nat) (f : _ → _) : (s.modVector k f).irq.shed = s.irq.shed := (rfl)
@[simp] theorem State.modVector_irq_funcs (k : Nat) (f : _ → _) : (s.modVector k f).irq.funcs = s.irq.funcs := (rfl)
@[simp] theorem State.modVector_irq_raised (k : Nat) (f : _ → _) : (s.modVector k f).irq.raised = s.irq.raised := (rfl)

@[simp] theorem State.modFunc_now (k : Nat) (f : _ → _) : (s.modFunc k f).now = s.now := (rfl)
@[simp] theorem State.modFunc_pending (k : Nat) (f : _ → _) : (s.modFunc k f).pending = s.pending := (rfl)
@[simp] theorem State.modFunc_answer (k : Nat) (f : _ → _) : (s.modFunc k f).answer = s.answer := (rfl)
@[simp] theorem State.modFunc_emits (k : Nat) (f : _ → _) : (s.modFunc k f).emits = s.emits := (rfl)
@[simp] theorem State.modFunc_fresh (k : Nat) (f : _ → _) : (s.modFunc k f).fresh = s.fresh := (rfl)
@[simp] theorem State.modFunc_links (k : Nat) (f : _ → _) : (s.modFunc k f).links = s.links := (rfl)
@[simp] theorem State.modFunc_shed (k : Nat) (f : _ → _) : (s.modFunc k f).shed = s.shed := (rfl)
@[simp] theorem State.modFunc_copy (k : Nat) (f : _ → _) : (s.modFunc k f).copy = s.copy := (rfl)
@[simp] theorem State.modFunc_fwd (k : Nat) (f : _ → _) : (s.modFunc k f).fwd = s.fwd := (rfl)
@[simp] theorem State.modFunc_rings (k : Nat) (f : _ → _) : (s.modFunc k f).rings = s.rings := (rfl)
@[simp] theorem State.modFunc_str (k : Nat) (f : _ → _) : (s.modFunc k f).str = s.str := (rfl)
@[simp] theorem State.modFunc_egr (k : Nat) (f : _ → _) : (s.modFunc k f).egr = s.egr := (rfl)
@[simp] theorem State.modFunc_alm (k : Nat) (f : _ → _) : (s.modFunc k f).alm = s.alm := (rfl)
@[simp] theorem State.modFunc_allots (k : Nat) (f : _ → _) : (s.modFunc k f).allots = s.allots := (rfl)
@[simp] theorem State.modFunc_mem (k : Nat) (f : _ → _) : (s.modFunc k f).mem = s.mem := (rfl)
@[simp] theorem State.modFunc_flt (k : Nat) (f : _ → _) : (s.modFunc k f).flt = s.flt := (rfl)
@[simp] theorem State.modFunc_cal (k : Nat) (f : _ → _) : (s.modFunc k f).cal = s.cal := (rfl)
@[simp] theorem State.modFunc_gauge (k : Nat) (f : _ → _) : (s.modFunc k f).gauge = s.gauge := (rfl)
@[simp] theorem State.modFunc_mod (k : Nat) (f : _ → _) : (s.modFunc k f).mod = s.mod := (rfl)
@[simp] theorem State.modFunc_clk (k : Nat) (f : _ → _) : (s.modFunc k f).clk = s.clk := (rfl)
@[simp] theorem State.modFunc_boot (k : Nat) (f : _ → _) : (s.modFunc k f).boot = s.boot := (rfl)
@[simp] theorem State.modFunc_irq_host (k : Nat) (f : _ → _) : (s.modFunc k f).irq.host = s.irq.host := (rfl)
@[simp] theorem State.modFunc_irq_shed (k : Nat) (f : _ → _) : (s.modFunc k f).irq.shed = s.irq.shed := (rfl)
@[simp] theorem State.modFunc_irq_vectors (k : Nat) (f : _ → _) : (s.modFunc k f).irq.vectors = s.irq.vectors := (rfl)
@[simp] theorem State.modFunc_irq_raised (k : Nat) (f : _ → _) : (s.modFunc k f).irq.raised = s.irq.raised := (rfl)

@[simp] theorem State.modStack_now (k : Nat) (f : _ → _) : (s.modStack k f).now = s.now := (rfl)
@[simp] theorem State.modStack_pending (k : Nat) (f : _ → _) : (s.modStack k f).pending = s.pending := (rfl)
@[simp] theorem State.modStack_answer (k : Nat) (f : _ → _) : (s.modStack k f).answer = s.answer := (rfl)
@[simp] theorem State.modStack_emits (k : Nat) (f : _ → _) : (s.modStack k f).emits = s.emits := (rfl)
@[simp] theorem State.modStack_fresh (k : Nat) (f : _ → _) : (s.modStack k f).fresh = s.fresh := (rfl)
@[simp] theorem State.modStack_links (k : Nat) (f : _ → _) : (s.modStack k f).links = s.links := (rfl)
@[simp] theorem State.modStack_shed (k : Nat) (f : _ → _) : (s.modStack k f).shed = s.shed := (rfl)
@[simp] theorem State.modStack_copy (k : Nat) (f : _ → _) : (s.modStack k f).copy = s.copy := (rfl)
@[simp] theorem State.modStack_fwd (k : Nat) (f : _ → _) : (s.modStack k f).fwd = s.fwd := (rfl)
@[simp] theorem State.modStack_rings (k : Nat) (f : _ → _) : (s.modStack k f).rings = s.rings := (rfl)
@[simp] theorem State.modStack_str (k : Nat) (f : _ → _) : (s.modStack k f).str = s.str := (rfl)
@[simp] theorem State.modStack_egr (k : Nat) (f : _ → _) : (s.modStack k f).egr = s.egr := (rfl)
@[simp] theorem State.modStack_alm (k : Nat) (f : _ → _) : (s.modStack k f).alm = s.alm := (rfl)
@[simp] theorem State.modStack_allots (k : Nat) (f : _ → _) : (s.modStack k f).allots = s.allots := (rfl)
@[simp] theorem State.modStack_irq (k : Nat) (f : _ → _) : (s.modStack k f).irq = s.irq := (rfl)
@[simp] theorem State.modStack_flt (k : Nat) (f : _ → _) : (s.modStack k f).flt = s.flt := (rfl)
@[simp] theorem State.modStack_cal (k : Nat) (f : _ → _) : (s.modStack k f).cal = s.cal := (rfl)
@[simp] theorem State.modStack_gauge (k : Nat) (f : _ → _) : (s.modStack k f).gauge = s.gauge := (rfl)
@[simp] theorem State.modStack_mod (k : Nat) (f : _ → _) : (s.modStack k f).mod = s.mod := (rfl)
@[simp] theorem State.modStack_clk (k : Nat) (f : _ → _) : (s.modStack k f).clk = s.clk := (rfl)
@[simp] theorem State.modStack_boot (k : Nat) (f : _ → _) : (s.modStack k f).boot = s.boot := (rfl)
@[simp] theorem State.modStack_mem_waiting (k : Nat) (f : _ → _) : (s.modStack k f).mem.waiting = s.mem.waiting := (rfl)
@[simp] theorem State.modStack_mem_dma (k : Nat) (f : _ → _) : (s.modStack k f).mem.dma = s.mem.dma := (rfl)
@[simp] theorem State.modStack_mem_exchange (k : Nat) (f : _ → _) :
    (s.modStack k f).mem.exchange = s.mem.exchange := (rfl)
@[simp] theorem State.modStack_mem_areas (k : Nat) (f : _ → _) : (s.modStack k f).mem.areas = s.mem.areas := (rfl)

@[simp] theorem State.modDma_now (k : Nat) (f : _ → _) : (s.modDma k f).now = s.now := (rfl)
@[simp] theorem State.modDma_pending (k : Nat) (f : _ → _) : (s.modDma k f).pending = s.pending := (rfl)
@[simp] theorem State.modDma_answer (k : Nat) (f : _ → _) : (s.modDma k f).answer = s.answer := (rfl)
@[simp] theorem State.modDma_emits (k : Nat) (f : _ → _) : (s.modDma k f).emits = s.emits := (rfl)
@[simp] theorem State.modDma_fresh (k : Nat) (f : _ → _) : (s.modDma k f).fresh = s.fresh := (rfl)
@[simp] theorem State.modDma_links (k : Nat) (f : _ → _) : (s.modDma k f).links = s.links := (rfl)
@[simp] theorem State.modDma_shed (k : Nat) (f : _ → _) : (s.modDma k f).shed = s.shed := (rfl)
@[simp] theorem State.modDma_copy (k : Nat) (f : _ → _) : (s.modDma k f).copy = s.copy := (rfl)
@[simp] theorem State.modDma_fwd (k : Nat) (f : _ → _) : (s.modDma k f).fwd = s.fwd := (rfl)
@[simp] theorem State.modDma_rings (k : Nat) (f : _ → _) : (s.modDma k f).rings = s.rings := (rfl)
@[simp] theorem State.modDma_str (k : Nat) (f : _ → _) : (s.modDma k f).str = s.str := (rfl)
@[simp] theorem State.modDma_egr (k : Nat) (f : _ → _) : (s.modDma k f).egr = s.egr := (rfl)
@[simp] theorem State.modDma_alm (k : Nat) (f : _ → _) : (s.modDma k f).alm = s.alm := (rfl)
@[simp] theorem State.modDma_allots (k : Nat) (f : _ → _) : (s.modDma k f).allots = s.allots := (rfl)
@[simp] theorem State.modDma_irq (k : Nat) (f : _ → _) : (s.modDma k f).irq = s.irq := (rfl)
@[simp] theorem State.modDma_flt (k : Nat) (f : _ → _) : (s.modDma k f).flt = s.flt := (rfl)
@[simp] theorem State.modDma_cal (k : Nat) (f : _ → _) : (s.modDma k f).cal = s.cal := (rfl)
@[simp] theorem State.modDma_gauge (k : Nat) (f : _ → _) : (s.modDma k f).gauge = s.gauge := (rfl)
@[simp] theorem State.modDma_mod (k : Nat) (f : _ → _) : (s.modDma k f).mod = s.mod := (rfl)
@[simp] theorem State.modDma_clk (k : Nat) (f : _ → _) : (s.modDma k f).clk = s.clk := (rfl)
@[simp] theorem State.modDma_boot (k : Nat) (f : _ → _) : (s.modDma k f).boot = s.boot := (rfl)
@[simp] theorem State.modDma_mem_stackTab (k : Nat) (f : _ → _) : (s.modDma k f).mem.stackTab = s.mem.stackTab := (rfl)
@[simp] theorem State.modDma_mem_waiting (k : Nat) (f : _ → _) : (s.modDma k f).mem.waiting = s.mem.waiting := (rfl)
@[simp] theorem State.modDma_mem_exchange (k : Nat) (f : _ → _) : (s.modDma k f).mem.exchange = s.mem.exchange := (rfl)
@[simp] theorem State.modDma_mem_areas (k : Nat) (f : _ → _) : (s.modDma k f).mem.areas = s.mem.areas := (rfl)

@[simp] theorem State.modSource_now (k : Nat) (f : _ → _) : (s.modSource k f).now = s.now := (rfl)
@[simp] theorem State.modSource_pending (k : Nat) (f : _ → _) : (s.modSource k f).pending = s.pending := (rfl)
@[simp] theorem State.modSource_answer (k : Nat) (f : _ → _) : (s.modSource k f).answer = s.answer := (rfl)
@[simp] theorem State.modSource_emits (k : Nat) (f : _ → _) : (s.modSource k f).emits = s.emits := (rfl)
@[simp] theorem State.modSource_fresh (k : Nat) (f : _ → _) : (s.modSource k f).fresh = s.fresh := (rfl)
@[simp] theorem State.modSource_links (k : Nat) (f : _ → _) : (s.modSource k f).links = s.links := (rfl)
@[simp] theorem State.modSource_shed (k : Nat) (f : _ → _) : (s.modSource k f).shed = s.shed := (rfl)
@[simp] theorem State.modSource_copy (k : Nat) (f : _ → _) : (s.modSource k f).copy = s.copy := (rfl)
@[simp] theorem State.modSource_fwd (k : Nat) (f : _ → _) : (s.modSource k f).fwd = s.fwd := (rfl)
@[simp] theorem State.modSource_rings (k : Nat) (f : _ → _) : (s.modSource k f).rings = s.rings := (rfl)
@[simp] theorem State.modSource_str (k : Nat) (f : _ → _) : (s.modSource k f).str = s.str := (rfl)
@[simp] theorem State.modSource_egr (k : Nat) (f : _ → _) : (s.modSource k f).egr = s.egr := (rfl)
@[simp] theorem State.modSource_alm (k : Nat) (f : _ → _) : (s.modSource k f).alm = s.alm := (rfl)
@[simp] theorem State.modSource_allots (k : Nat) (f : _ → _) : (s.modSource k f).allots = s.allots := (rfl)
@[simp] theorem State.modSource_irq (k : Nat) (f : _ → _) : (s.modSource k f).irq = s.irq := (rfl)
@[simp] theorem State.modSource_mem (k : Nat) (f : _ → _) : (s.modSource k f).mem = s.mem := (rfl)
@[simp] theorem State.modSource_cal (k : Nat) (f : _ → _) : (s.modSource k f).cal = s.cal := (rfl)
@[simp] theorem State.modSource_gauge (k : Nat) (f : _ → _) : (s.modSource k f).gauge = s.gauge := (rfl)
@[simp] theorem State.modSource_mod (k : Nat) (f : _ → _) : (s.modSource k f).mod = s.mod := (rfl)
@[simp] theorem State.modSource_clk (k : Nat) (f : _ → _) : (s.modSource k f).clk = s.clk := (rfl)
@[simp] theorem State.modSource_boot (k : Nat) (f : _ → _) : (s.modSource k f).boot = s.boot := (rfl)
@[simp] theorem State.modSource_flt_recs (k : Nat) (f : _ → _) : (s.modSource k f).flt.recs = s.flt.recs := (rfl)
@[simp] theorem State.modSource_flt_pruned (k : Nat) (f : _ → _) : (s.modSource k f).flt.pruned = s.flt.pruned := (rfl)
@[simp] theorem State.modSource_flt_viaTrellis (k : Nat) (f : _ → _) :
    (s.modSource k f).flt.viaTrellis = s.flt.viaTrellis := (rfl)
@[simp] theorem State.modSource_flt_resetting (k : Nat) (f : _ → _) :
    (s.modSource k f).flt.resetting = s.flt.resetting := (rfl)
@[simp] theorem State.modSource_flt_inject (k : Nat) (f : _ → _) : (s.modSource k f).flt.inject = s.flt.inject := (rfl)
@[simp] theorem State.modSource_flt_resetFails (k : Nat) (f : _ → _) :
    (s.modSource k f).flt.resetFails = s.flt.resetFails := (rfl)
@[simp] theorem State.modSource_flt_forceRefused (k : Nat) (f : _ → _) :
    (s.modSource k f).flt.forceRefused = s.flt.forceRefused := (rfl)
@[simp] theorem State.modSource_flt_alertSw (k : Nat) (f : _ → _) : (s.modSource k f).flt.alertSw = s.flt.alertSw := (rfl)
@[simp] theorem State.modSource_flt_pulse0 (k : Nat) (f : _ → _) : (s.modSource k f).flt.pulse0 = s.flt.pulse0 := (rfl)
@[simp] theorem State.modSource_flt_pulse1 (k : Nat) (f : _ → _) : (s.modSource k f).flt.pulse1 = s.flt.pulse1 := (rfl)
@[simp] theorem State.modSource_flt_aliveRun (k : Nat) (f : _ → _) :
    (s.modSource k f).flt.aliveRun = s.flt.aliveRun := (rfl)
@[simp] theorem State.modSource_flt_alive (k : Nat) (f : _ → _) : (s.modSource k f).flt.alive = s.flt.alive := (rfl)
@[simp] theorem State.modSource_flt_ticking (k : Nat) (f : _ → _) : (s.modSource k f).flt.ticking = s.flt.ticking := (rfl)
@[simp] theorem State.modSource_flt_recording (k : Nat) (f : _ → _) :
    (s.modSource k f).flt.recording = s.flt.recording := (rfl)
@[simp] theorem State.modSource_flt_ordered (k : Nat) (f : _ → _) : (s.modSource k f).flt.ordered = s.flt.ordered := (rfl)

@[simp] theorem State.modErrRec_now (k : Nat) (f : _ → _) : (s.modErrRec k f).now = s.now := (rfl)
@[simp] theorem State.modErrRec_pending (k : Nat) (f : _ → _) : (s.modErrRec k f).pending = s.pending := (rfl)
@[simp] theorem State.modErrRec_answer (k : Nat) (f : _ → _) : (s.modErrRec k f).answer = s.answer := (rfl)
@[simp] theorem State.modErrRec_emits (k : Nat) (f : _ → _) : (s.modErrRec k f).emits = s.emits := (rfl)
@[simp] theorem State.modErrRec_fresh (k : Nat) (f : _ → _) : (s.modErrRec k f).fresh = s.fresh := (rfl)
@[simp] theorem State.modErrRec_links (k : Nat) (f : _ → _) : (s.modErrRec k f).links = s.links := (rfl)
@[simp] theorem State.modErrRec_shed (k : Nat) (f : _ → _) : (s.modErrRec k f).shed = s.shed := (rfl)
@[simp] theorem State.modErrRec_copy (k : Nat) (f : _ → _) : (s.modErrRec k f).copy = s.copy := (rfl)
@[simp] theorem State.modErrRec_fwd (k : Nat) (f : _ → _) : (s.modErrRec k f).fwd = s.fwd := (rfl)
@[simp] theorem State.modErrRec_rings (k : Nat) (f : _ → _) : (s.modErrRec k f).rings = s.rings := (rfl)
@[simp] theorem State.modErrRec_str (k : Nat) (f : _ → _) : (s.modErrRec k f).str = s.str := (rfl)
@[simp] theorem State.modErrRec_egr (k : Nat) (f : _ → _) : (s.modErrRec k f).egr = s.egr := (rfl)
@[simp] theorem State.modErrRec_alm (k : Nat) (f : _ → _) : (s.modErrRec k f).alm = s.alm := (rfl)
@[simp] theorem State.modErrRec_allots (k : Nat) (f : _ → _) : (s.modErrRec k f).allots = s.allots := (rfl)
@[simp] theorem State.modErrRec_irq (k : Nat) (f : _ → _) : (s.modErrRec k f).irq = s.irq := (rfl)
@[simp] theorem State.modErrRec_mem (k : Nat) (f : _ → _) : (s.modErrRec k f).mem = s.mem := (rfl)
@[simp] theorem State.modErrRec_cal (k : Nat) (f : _ → _) : (s.modErrRec k f).cal = s.cal := (rfl)
@[simp] theorem State.modErrRec_gauge (k : Nat) (f : _ → _) : (s.modErrRec k f).gauge = s.gauge := (rfl)
@[simp] theorem State.modErrRec_mod (k : Nat) (f : _ → _) : (s.modErrRec k f).mod = s.mod := (rfl)
@[simp] theorem State.modErrRec_clk (k : Nat) (f : _ → _) : (s.modErrRec k f).clk = s.clk := (rfl)
@[simp] theorem State.modErrRec_boot (k : Nat) (f : _ → _) : (s.modErrRec k f).boot = s.boot := (rfl)
@[simp] theorem State.modErrRec_flt_sources (k : Nat) (f : _ → _) : (s.modErrRec k f).flt.sources = s.flt.sources := (rfl)
@[simp] theorem State.modErrRec_flt_pruned (k : Nat) (f : _ → _) : (s.modErrRec k f).flt.pruned = s.flt.pruned := (rfl)
@[simp] theorem State.modErrRec_flt_viaTrellis (k : Nat) (f : _ → _) :
    (s.modErrRec k f).flt.viaTrellis = s.flt.viaTrellis := (rfl)
@[simp] theorem State.modErrRec_flt_resetting (k : Nat) (f : _ → _) :
    (s.modErrRec k f).flt.resetting = s.flt.resetting := (rfl)
@[simp] theorem State.modErrRec_flt_inject (k : Nat) (f : _ → _) : (s.modErrRec k f).flt.inject = s.flt.inject := (rfl)
@[simp] theorem State.modErrRec_flt_resetFails (k : Nat) (f : _ → _) :
    (s.modErrRec k f).flt.resetFails = s.flt.resetFails := (rfl)
@[simp] theorem State.modErrRec_flt_forceRefused (k : Nat) (f : _ → _) :
    (s.modErrRec k f).flt.forceRefused = s.flt.forceRefused := (rfl)
@[simp] theorem State.modErrRec_flt_alertSw (k : Nat) (f : _ → _) : (s.modErrRec k f).flt.alertSw = s.flt.alertSw := (rfl)
@[simp] theorem State.modErrRec_flt_pulse0 (k : Nat) (f : _ → _) : (s.modErrRec k f).flt.pulse0 = s.flt.pulse0 := (rfl)
@[simp] theorem State.modErrRec_flt_pulse1 (k : Nat) (f : _ → _) : (s.modErrRec k f).flt.pulse1 = s.flt.pulse1 := (rfl)
@[simp] theorem State.modErrRec_flt_aliveRun (k : Nat) (f : _ → _) :
    (s.modErrRec k f).flt.aliveRun = s.flt.aliveRun := (rfl)
@[simp] theorem State.modErrRec_flt_alive (k : Nat) (f : _ → _) : (s.modErrRec k f).flt.alive = s.flt.alive := (rfl)
@[simp] theorem State.modErrRec_flt_ticking (k : Nat) (f : _ → _) : (s.modErrRec k f).flt.ticking = s.flt.ticking := (rfl)
@[simp] theorem State.modErrRec_flt_recording (k : Nat) (f : _ → _) :
    (s.modErrRec k f).flt.recording = s.flt.recording := (rfl)
@[simp] theorem State.modErrRec_flt_ordered (k : Nat) (f : _ → _) : (s.modErrRec k f).flt.ordered = s.flt.ordered := (rfl)

@[simp] theorem State.modPair_now (k : Nat) (f : _ → _) : (s.modPair k f).now = s.now := (rfl)
@[simp] theorem State.modPair_pending (k : Nat) (f : _ → _) : (s.modPair k f).pending = s.pending := (rfl)
@[simp] theorem State.modPair_answer (k : Nat) (f : _ → _) : (s.modPair k f).answer = s.answer := (rfl)
@[simp] theorem State.modPair_emits (k : Nat) (f : _ → _) : (s.modPair k f).emits = s.emits := (rfl)
@[simp] theorem State.modPair_fresh (k : Nat) (f : _ → _) : (s.modPair k f).fresh = s.fresh := (rfl)
@[simp] theorem State.modPair_links (k : Nat) (f : _ → _) : (s.modPair k f).links = s.links := (rfl)
@[simp] theorem State.modPair_shed (k : Nat) (f : _ → _) : (s.modPair k f).shed = s.shed := (rfl)
@[simp] theorem State.modPair_copy (k : Nat) (f : _ → _) : (s.modPair k f).copy = s.copy := (rfl)
@[simp] theorem State.modPair_fwd (k : Nat) (f : _ → _) : (s.modPair k f).fwd = s.fwd := (rfl)
@[simp] theorem State.modPair_rings (k : Nat) (f : _ → _) : (s.modPair k f).rings = s.rings := (rfl)
@[simp] theorem State.modPair_str (k : Nat) (f : _ → _) : (s.modPair k f).str = s.str := (rfl)
@[simp] theorem State.modPair_egr (k : Nat) (f : _ → _) : (s.modPair k f).egr = s.egr := (rfl)
@[simp] theorem State.modPair_alm (k : Nat) (f : _ → _) : (s.modPair k f).alm = s.alm := (rfl)
@[simp] theorem State.modPair_allots (k : Nat) (f : _ → _) : (s.modPair k f).allots = s.allots := (rfl)
@[simp] theorem State.modPair_irq (k : Nat) (f : _ → _) : (s.modPair k f).irq = s.irq := (rfl)
@[simp] theorem State.modPair_mem (k : Nat) (f : _ → _) : (s.modPair k f).mem = s.mem := (rfl)
@[simp] theorem State.modPair_flt (k : Nat) (f : _ → _) : (s.modPair k f).flt = s.flt := (rfl)
@[simp] theorem State.modPair_gauge (k : Nat) (f : _ → _) : (s.modPair k f).gauge = s.gauge := (rfl)
@[simp] theorem State.modPair_mod (k : Nat) (f : _ → _) : (s.modPair k f).mod = s.mod := (rfl)
@[simp] theorem State.modPair_clk (k : Nat) (f : _ → _) : (s.modPair k f).clk = s.clk := (rfl)
@[simp] theorem State.modPair_boot (k : Nat) (f : _ → _) : (s.modPair k f).boot = s.boot := (rfl)
@[simp] theorem State.modPair_cal_sensors (k : Nat) (f : _ → _) : (s.modPair k f).cal.sensors = s.cal.sensors := (rfl)
@[simp] theorem State.modPair_cal_running (k : Nat) (f : _ → _) : (s.modPair k f).cal.running = s.cal.running := (rfl)
@[simp] theorem State.modPair_cal_kind (k : Nat) (f : _ → _) : (s.modPair k f).cal.kind = s.cal.kind := (rfl)
@[simp] theorem State.modPair_cal_todo (k : Nat) (f : _ → _) : (s.modPair k f).cal.todo = s.cal.todo := (rfl)
@[simp] theorem State.modPair_cal_batch (k : Nat) (f : _ → _) : (s.modPair k f).cal.batch = s.cal.batch := (rfl)
@[simp] theorem State.modPair_cal_armed (k : Nat) (f : _ → _) : (s.modPair k f).cal.armed = s.cal.armed := (rfl)
@[simp] theorem State.modPair_cal_epochAt (k : Nat) (f : _ → _) : (s.modPair k f).cal.epochAt = s.cal.epochAt := (rfl)
@[simp] theorem State.modPair_cal_emptyEpochs (k : Nat) (f : _ → _) :
    (s.modPair k f).cal.emptyEpochs = s.cal.emptyEpochs := (rfl)
@[simp] theorem State.modPair_cal_savedPairs (k : Nat) (f : _ → _) :
    (s.modPair k f).cal.savedPairs = s.cal.savedPairs := (rfl)
@[simp] theorem State.modPair_cal_savedSensors (k : Nat) (f : _ → _) :
    (s.modPair k f).cal.savedSensors = s.cal.savedSensors := (rfl)
@[simp] theorem State.modPair_cal_saved (k : Nat) (f : _ → _) : (s.modPair k f).cal.saved = s.cal.saved := (rfl)

@[simp] theorem State.modSensor_now (k : Nat) (f : _ → _) : (s.modSensor k f).now = s.now := (rfl)
@[simp] theorem State.modSensor_pending (k : Nat) (f : _ → _) : (s.modSensor k f).pending = s.pending := (rfl)
@[simp] theorem State.modSensor_answer (k : Nat) (f : _ → _) : (s.modSensor k f).answer = s.answer := (rfl)
@[simp] theorem State.modSensor_emits (k : Nat) (f : _ → _) : (s.modSensor k f).emits = s.emits := (rfl)
@[simp] theorem State.modSensor_fresh (k : Nat) (f : _ → _) : (s.modSensor k f).fresh = s.fresh := (rfl)
@[simp] theorem State.modSensor_links (k : Nat) (f : _ → _) : (s.modSensor k f).links = s.links := (rfl)
@[simp] theorem State.modSensor_shed (k : Nat) (f : _ → _) : (s.modSensor k f).shed = s.shed := (rfl)
@[simp] theorem State.modSensor_copy (k : Nat) (f : _ → _) : (s.modSensor k f).copy = s.copy := (rfl)
@[simp] theorem State.modSensor_fwd (k : Nat) (f : _ → _) : (s.modSensor k f).fwd = s.fwd := (rfl)
@[simp] theorem State.modSensor_rings (k : Nat) (f : _ → _) : (s.modSensor k f).rings = s.rings := (rfl)
@[simp] theorem State.modSensor_str (k : Nat) (f : _ → _) : (s.modSensor k f).str = s.str := (rfl)
@[simp] theorem State.modSensor_egr (k : Nat) (f : _ → _) : (s.modSensor k f).egr = s.egr := (rfl)
@[simp] theorem State.modSensor_alm (k : Nat) (f : _ → _) : (s.modSensor k f).alm = s.alm := (rfl)
@[simp] theorem State.modSensor_allots (k : Nat) (f : _ → _) : (s.modSensor k f).allots = s.allots := (rfl)
@[simp] theorem State.modSensor_irq (k : Nat) (f : _ → _) : (s.modSensor k f).irq = s.irq := (rfl)
@[simp] theorem State.modSensor_mem (k : Nat) (f : _ → _) : (s.modSensor k f).mem = s.mem := (rfl)
@[simp] theorem State.modSensor_flt (k : Nat) (f : _ → _) : (s.modSensor k f).flt = s.flt := (rfl)
@[simp] theorem State.modSensor_gauge (k : Nat) (f : _ → _) : (s.modSensor k f).gauge = s.gauge := (rfl)
@[simp] theorem State.modSensor_mod (k : Nat) (f : _ → _) : (s.modSensor k f).mod = s.mod := (rfl)
@[simp] theorem State.modSensor_clk (k : Nat) (f : _ → _) : (s.modSensor k f).clk = s.clk := (rfl)
@[simp] theorem State.modSensor_boot (k : Nat) (f : _ → _) : (s.modSensor k f).boot = s.boot := (rfl)
@[simp] theorem State.modSensor_cal_pairs (k : Nat) (f : _ → _) : (s.modSensor k f).cal.pairs = s.cal.pairs := (rfl)
@[simp] theorem State.modSensor_cal_running (k : Nat) (f : _ → _) : (s.modSensor k f).cal.running = s.cal.running := (rfl)
@[simp] theorem State.modSensor_cal_kind (k : Nat) (f : _ → _) : (s.modSensor k f).cal.kind = s.cal.kind := (rfl)
@[simp] theorem State.modSensor_cal_todo (k : Nat) (f : _ → _) : (s.modSensor k f).cal.todo = s.cal.todo := (rfl)
@[simp] theorem State.modSensor_cal_batch (k : Nat) (f : _ → _) : (s.modSensor k f).cal.batch = s.cal.batch := (rfl)
@[simp] theorem State.modSensor_cal_armed (k : Nat) (f : _ → _) : (s.modSensor k f).cal.armed = s.cal.armed := (rfl)
@[simp] theorem State.modSensor_cal_epochAt (k : Nat) (f : _ → _) : (s.modSensor k f).cal.epochAt = s.cal.epochAt := (rfl)
@[simp] theorem State.modSensor_cal_emptyEpochs (k : Nat) (f : _ → _) :
    (s.modSensor k f).cal.emptyEpochs = s.cal.emptyEpochs := (rfl)
@[simp] theorem State.modSensor_cal_savedPairs (k : Nat) (f : _ → _) :
    (s.modSensor k f).cal.savedPairs = s.cal.savedPairs := (rfl)
@[simp] theorem State.modSensor_cal_savedSensors (k : Nat) (f : _ → _) :
    (s.modSensor k f).cal.savedSensors = s.cal.savedSensors := (rfl)
@[simp] theorem State.modSensor_cal_saved (k : Nat) (f : _ → _) : (s.modSensor k f).cal.saved = s.cal.saved := (rfl)

@[simp] theorem State.modGpi_now (k : Nat) (f : _ → _) : (s.modGpi k f).now = s.now := (rfl)
@[simp] theorem State.modGpi_pending (k : Nat) (f : _ → _) : (s.modGpi k f).pending = s.pending := (rfl)
@[simp] theorem State.modGpi_answer (k : Nat) (f : _ → _) : (s.modGpi k f).answer = s.answer := (rfl)
@[simp] theorem State.modGpi_emits (k : Nat) (f : _ → _) : (s.modGpi k f).emits = s.emits := (rfl)
@[simp] theorem State.modGpi_fresh (k : Nat) (f : _ → _) : (s.modGpi k f).fresh = s.fresh := (rfl)
@[simp] theorem State.modGpi_links (k : Nat) (f : _ → _) : (s.modGpi k f).links = s.links := (rfl)
@[simp] theorem State.modGpi_shed (k : Nat) (f : _ → _) : (s.modGpi k f).shed = s.shed := (rfl)
@[simp] theorem State.modGpi_copy (k : Nat) (f : _ → _) : (s.modGpi k f).copy = s.copy := (rfl)
@[simp] theorem State.modGpi_fwd (k : Nat) (f : _ → _) : (s.modGpi k f).fwd = s.fwd := (rfl)
@[simp] theorem State.modGpi_rings (k : Nat) (f : _ → _) : (s.modGpi k f).rings = s.rings := (rfl)
@[simp] theorem State.modGpi_str (k : Nat) (f : _ → _) : (s.modGpi k f).str = s.str := (rfl)
@[simp] theorem State.modGpi_egr (k : Nat) (f : _ → _) : (s.modGpi k f).egr = s.egr := (rfl)
@[simp] theorem State.modGpi_alm (k : Nat) (f : _ → _) : (s.modGpi k f).alm = s.alm := (rfl)
@[simp] theorem State.modGpi_allots (k : Nat) (f : _ → _) : (s.modGpi k f).allots = s.allots := (rfl)
@[simp] theorem State.modGpi_irq (k : Nat) (f : _ → _) : (s.modGpi k f).irq = s.irq := (rfl)
@[simp] theorem State.modGpi_mem (k : Nat) (f : _ → _) : (s.modGpi k f).mem = s.mem := (rfl)
@[simp] theorem State.modGpi_flt (k : Nat) (f : _ → _) : (s.modGpi k f).flt = s.flt := (rfl)
@[simp] theorem State.modGpi_cal (k : Nat) (f : _ → _) : (s.modGpi k f).cal = s.cal := (rfl)
@[simp] theorem State.modGpi_gauge (k : Nat) (f : _ → _) : (s.modGpi k f).gauge = s.gauge := (rfl)
@[simp] theorem State.modGpi_clk (k : Nat) (f : _ → _) : (s.modGpi k f).clk = s.clk := (rfl)
@[simp] theorem State.modGpi_boot (k : Nat) (f : _ → _) : (s.modGpi k f).boot = s.boot := (rfl)
@[simp] theorem State.modGpi_mod_feedA (k : Nat) (f : _ → _) : (s.modGpi k f).mod.feedA = s.mod.feedA := (rfl)
@[simp] theorem State.modGpi_mod_feedB (k : Nat) (f : _ → _) : (s.modGpi k f).mod.feedB = s.mod.feedB := (rfl)
@[simp] theorem State.modGpi_mod_rangeA (k : Nat) (f : _ → _) : (s.modGpi k f).mod.rangeA = s.mod.rangeA := (rfl)
@[simp] theorem State.modGpi_mod_rangeB (k : Nat) (f : _ → _) : (s.modGpi k f).mod.rangeB = s.mod.rangeB := (rfl)
@[simp] theorem State.modGpi_mod_sinceA (k : Nat) (f : _ → _) : (s.modGpi k f).mod.sinceA = s.mod.sinceA := (rfl)
@[simp] theorem State.modGpi_mod_sinceB (k : Nat) (f : _ → _) : (s.modGpi k f).mod.sinceB = s.mod.sinceB := (rfl)
@[simp] theorem State.modGpi_mod_feedInUse (k : Nat) (f : _ → _) : (s.modGpi k f).mod.feedInUse = s.mod.feedInUse := (rfl)
@[simp] theorem State.modGpi_mod_on (k : Nat) (f : _ → _) : (s.modGpi k f).mod.on = s.mod.on := (rfl)
@[simp] theorem State.modGpi_mod_switchovers (k : Nat) (f : _ → _) :
    (s.modGpi k f).mod.switchovers = s.mod.switchovers := (rfl)
@[simp] theorem State.modGpi_mod_thermalTrips (k : Nat) (f : _ → _) :
    (s.modGpi k f).mod.thermalTrips = s.mod.thermalTrips := (rfl)
@[simp] theorem State.modGpi_mod_phasesDown (k : Nat) (f : _ → _) :
    (s.modGpi k f).mod.phasesDown = s.mod.phasesDown := (rfl)
@[simp] theorem State.modGpi_mod_rails (k : Nat) (f : _ → _) : (s.modGpi k f).mod.rails = s.mod.rails := (rfl)
@[simp] theorem State.modGpi_mod_keepLost (k : Nat) (f : _ → _) : (s.modGpi k f).mod.keepLost = s.mod.keepLost := (rfl)
@[simp] theorem State.modGpi_mod_hedgeV (k : Nat) (f : _ → _) : (s.modGpi k f).mod.hedgeV = s.mod.hedgeV := (rfl)
@[simp] theorem State.modGpi_mod_hours (k : Nat) (f : _ → _) : (s.modGpi k f).mod.hours = s.mod.hours := (rfl)
@[simp] theorem State.modGpi_mod_hotHours (k : Nat) (f : _ → _) : (s.modGpi k f).mod.hotHours = s.mod.hotHours := (rfl)
@[simp] theorem State.modGpi_mod_overHours (k : Nat) (f : _ → _) : (s.modGpi k f).mod.overHours = s.mod.overHours := (rfl)
@[simp] theorem State.modGpi_mod_lifeValid (k : Nat) (f : _ → _) : (s.modGpi k f).mod.lifeValid = s.mod.lifeValid := (rfl)
@[simp] theorem State.modGpi_mod_tempWarned (k : Nat) (f : _ → _) :
    (s.modGpi k f).mod.tempWarned = s.mod.tempWarned := (rfl)
@[simp] theorem State.modGpi_mod_tripped (k : Nat) (f : _ → _) : (s.modGpi k f).mod.tripped = s.mod.tripped := (rfl)
@[simp] theorem State.modGpi_mod_split (k : Nat) (f : _ → _) : (s.modGpi k f).mod.split = s.mod.split := (rfl)
@[simp] theorem State.modGpi_mod_gpos (k : Nat) (f : _ → _) : (s.modGpi k f).mod.gpos = s.mod.gpos := (rfl)
@[simp] theorem State.modGpi_mod_ticked (k : Nat) (f : _ → _) : (s.modGpi k f).mod.ticked = s.mod.ticked := (rfl)
@[simp] theorem State.modGpi_mod_linkErrors (k : Nat) (f : _ → _) :
    (s.modGpi k f).mod.linkErrors = s.mod.linkErrors := (rfl)
@[simp] theorem State.modGpi_mod_errSecond (k : Nat) (f : _ → _) : (s.modGpi k f).mod.errSecond = s.mod.errSecond := (rfl)
@[simp] theorem State.modGpi_mod_errCount (k : Nat) (f : _ → _) : (s.modGpi k f).mod.errCount = s.mod.errCount := (rfl)
@[simp] theorem State.modGpi_mod_ref10m (k : Nat) (f : _ → _) : (s.modGpi k f).mod.ref10m = s.mod.ref10m := (rfl)
@[simp] theorem State.modGpi_mod_pps (k : Nat) (f : _ → _) : (s.modGpi k f).mod.pps = s.mod.pps := (rfl)
@[simp] theorem State.modGpi_mod_lastPps (k : Nat) (f : _ → _) : (s.modGpi k f).mod.lastPps = s.mod.lastPps := (rfl)

@[simp] theorem State.modGpo_now (k : Nat) (f : _ → _) : (s.modGpo k f).now = s.now := (rfl)
@[simp] theorem State.modGpo_pending (k : Nat) (f : _ → _) : (s.modGpo k f).pending = s.pending := (rfl)
@[simp] theorem State.modGpo_answer (k : Nat) (f : _ → _) : (s.modGpo k f).answer = s.answer := (rfl)
@[simp] theorem State.modGpo_emits (k : Nat) (f : _ → _) : (s.modGpo k f).emits = s.emits := (rfl)
@[simp] theorem State.modGpo_fresh (k : Nat) (f : _ → _) : (s.modGpo k f).fresh = s.fresh := (rfl)
@[simp] theorem State.modGpo_links (k : Nat) (f : _ → _) : (s.modGpo k f).links = s.links := (rfl)
@[simp] theorem State.modGpo_shed (k : Nat) (f : _ → _) : (s.modGpo k f).shed = s.shed := (rfl)
@[simp] theorem State.modGpo_copy (k : Nat) (f : _ → _) : (s.modGpo k f).copy = s.copy := (rfl)
@[simp] theorem State.modGpo_fwd (k : Nat) (f : _ → _) : (s.modGpo k f).fwd = s.fwd := (rfl)
@[simp] theorem State.modGpo_rings (k : Nat) (f : _ → _) : (s.modGpo k f).rings = s.rings := (rfl)
@[simp] theorem State.modGpo_str (k : Nat) (f : _ → _) : (s.modGpo k f).str = s.str := (rfl)
@[simp] theorem State.modGpo_egr (k : Nat) (f : _ → _) : (s.modGpo k f).egr = s.egr := (rfl)
@[simp] theorem State.modGpo_alm (k : Nat) (f : _ → _) : (s.modGpo k f).alm = s.alm := (rfl)
@[simp] theorem State.modGpo_allots (k : Nat) (f : _ → _) : (s.modGpo k f).allots = s.allots := (rfl)
@[simp] theorem State.modGpo_irq (k : Nat) (f : _ → _) : (s.modGpo k f).irq = s.irq := (rfl)
@[simp] theorem State.modGpo_mem (k : Nat) (f : _ → _) : (s.modGpo k f).mem = s.mem := (rfl)
@[simp] theorem State.modGpo_flt (k : Nat) (f : _ → _) : (s.modGpo k f).flt = s.flt := (rfl)
@[simp] theorem State.modGpo_cal (k : Nat) (f : _ → _) : (s.modGpo k f).cal = s.cal := (rfl)
@[simp] theorem State.modGpo_gauge (k : Nat) (f : _ → _) : (s.modGpo k f).gauge = s.gauge := (rfl)
@[simp] theorem State.modGpo_clk (k : Nat) (f : _ → _) : (s.modGpo k f).clk = s.clk := (rfl)
@[simp] theorem State.modGpo_boot (k : Nat) (f : _ → _) : (s.modGpo k f).boot = s.boot := (rfl)
@[simp] theorem State.modGpo_mod_feedA (k : Nat) (f : _ → _) : (s.modGpo k f).mod.feedA = s.mod.feedA := (rfl)
@[simp] theorem State.modGpo_mod_feedB (k : Nat) (f : _ → _) : (s.modGpo k f).mod.feedB = s.mod.feedB := (rfl)
@[simp] theorem State.modGpo_mod_rangeA (k : Nat) (f : _ → _) : (s.modGpo k f).mod.rangeA = s.mod.rangeA := (rfl)
@[simp] theorem State.modGpo_mod_rangeB (k : Nat) (f : _ → _) : (s.modGpo k f).mod.rangeB = s.mod.rangeB := (rfl)
@[simp] theorem State.modGpo_mod_sinceA (k : Nat) (f : _ → _) : (s.modGpo k f).mod.sinceA = s.mod.sinceA := (rfl)
@[simp] theorem State.modGpo_mod_sinceB (k : Nat) (f : _ → _) : (s.modGpo k f).mod.sinceB = s.mod.sinceB := (rfl)
@[simp] theorem State.modGpo_mod_feedInUse (k : Nat) (f : _ → _) : (s.modGpo k f).mod.feedInUse = s.mod.feedInUse := (rfl)
@[simp] theorem State.modGpo_mod_on (k : Nat) (f : _ → _) : (s.modGpo k f).mod.on = s.mod.on := (rfl)
@[simp] theorem State.modGpo_mod_switchovers (k : Nat) (f : _ → _) :
    (s.modGpo k f).mod.switchovers = s.mod.switchovers := (rfl)
@[simp] theorem State.modGpo_mod_thermalTrips (k : Nat) (f : _ → _) :
    (s.modGpo k f).mod.thermalTrips = s.mod.thermalTrips := (rfl)
@[simp] theorem State.modGpo_mod_phasesDown (k : Nat) (f : _ → _) :
    (s.modGpo k f).mod.phasesDown = s.mod.phasesDown := (rfl)
@[simp] theorem State.modGpo_mod_rails (k : Nat) (f : _ → _) : (s.modGpo k f).mod.rails = s.mod.rails := (rfl)
@[simp] theorem State.modGpo_mod_keepLost (k : Nat) (f : _ → _) : (s.modGpo k f).mod.keepLost = s.mod.keepLost := (rfl)
@[simp] theorem State.modGpo_mod_hedgeV (k : Nat) (f : _ → _) : (s.modGpo k f).mod.hedgeV = s.mod.hedgeV := (rfl)
@[simp] theorem State.modGpo_mod_hours (k : Nat) (f : _ → _) : (s.modGpo k f).mod.hours = s.mod.hours := (rfl)
@[simp] theorem State.modGpo_mod_hotHours (k : Nat) (f : _ → _) : (s.modGpo k f).mod.hotHours = s.mod.hotHours := (rfl)
@[simp] theorem State.modGpo_mod_overHours (k : Nat) (f : _ → _) : (s.modGpo k f).mod.overHours = s.mod.overHours := (rfl)
@[simp] theorem State.modGpo_mod_lifeValid (k : Nat) (f : _ → _) : (s.modGpo k f).mod.lifeValid = s.mod.lifeValid := (rfl)
@[simp] theorem State.modGpo_mod_tempWarned (k : Nat) (f : _ → _) :
    (s.modGpo k f).mod.tempWarned = s.mod.tempWarned := (rfl)
@[simp] theorem State.modGpo_mod_tripped (k : Nat) (f : _ → _) : (s.modGpo k f).mod.tripped = s.mod.tripped := (rfl)
@[simp] theorem State.modGpo_mod_split (k : Nat) (f : _ → _) : (s.modGpo k f).mod.split = s.mod.split := (rfl)
@[simp] theorem State.modGpo_mod_gpis (k : Nat) (f : _ → _) : (s.modGpo k f).mod.gpis = s.mod.gpis := (rfl)
@[simp] theorem State.modGpo_mod_ticked (k : Nat) (f : _ → _) : (s.modGpo k f).mod.ticked = s.mod.ticked := (rfl)
@[simp] theorem State.modGpo_mod_linkErrors (k : Nat) (f : _ → _) :
    (s.modGpo k f).mod.linkErrors = s.mod.linkErrors := (rfl)
@[simp] theorem State.modGpo_mod_errSecond (k : Nat) (f : _ → _) : (s.modGpo k f).mod.errSecond = s.mod.errSecond := (rfl)
@[simp] theorem State.modGpo_mod_errCount (k : Nat) (f : _ → _) : (s.modGpo k f).mod.errCount = s.mod.errCount := (rfl)
@[simp] theorem State.modGpo_mod_ref10m (k : Nat) (f : _ → _) : (s.modGpo k f).mod.ref10m = s.mod.ref10m := (rfl)
@[simp] theorem State.modGpo_mod_pps (k : Nat) (f : _ → _) : (s.modGpo k f).mod.pps = s.mod.pps := (rfl)
@[simp] theorem State.modGpo_mod_lastPps (k : Nat) (f : _ → _) : (s.modGpo k f).mod.lastPps = s.mod.lastPps := (rfl)

@[simp] theorem State.modPtpPort_now (k : Nat) (f : _ → _) : (s.modPtpPort k f).now = s.now := (rfl)
@[simp] theorem State.modPtpPort_pending (k : Nat) (f : _ → _) : (s.modPtpPort k f).pending = s.pending := (rfl)
@[simp] theorem State.modPtpPort_answer (k : Nat) (f : _ → _) : (s.modPtpPort k f).answer = s.answer := (rfl)
@[simp] theorem State.modPtpPort_emits (k : Nat) (f : _ → _) : (s.modPtpPort k f).emits = s.emits := (rfl)
@[simp] theorem State.modPtpPort_fresh (k : Nat) (f : _ → _) : (s.modPtpPort k f).fresh = s.fresh := (rfl)
@[simp] theorem State.modPtpPort_links (k : Nat) (f : _ → _) : (s.modPtpPort k f).links = s.links := (rfl)
@[simp] theorem State.modPtpPort_shed (k : Nat) (f : _ → _) : (s.modPtpPort k f).shed = s.shed := (rfl)
@[simp] theorem State.modPtpPort_copy (k : Nat) (f : _ → _) : (s.modPtpPort k f).copy = s.copy := (rfl)
@[simp] theorem State.modPtpPort_fwd (k : Nat) (f : _ → _) : (s.modPtpPort k f).fwd = s.fwd := (rfl)
@[simp] theorem State.modPtpPort_rings (k : Nat) (f : _ → _) : (s.modPtpPort k f).rings = s.rings := (rfl)
@[simp] theorem State.modPtpPort_str (k : Nat) (f : _ → _) : (s.modPtpPort k f).str = s.str := (rfl)
@[simp] theorem State.modPtpPort_egr (k : Nat) (f : _ → _) : (s.modPtpPort k f).egr = s.egr := (rfl)
@[simp] theorem State.modPtpPort_alm (k : Nat) (f : _ → _) : (s.modPtpPort k f).alm = s.alm := (rfl)
@[simp] theorem State.modPtpPort_allots (k : Nat) (f : _ → _) : (s.modPtpPort k f).allots = s.allots := (rfl)
@[simp] theorem State.modPtpPort_irq (k : Nat) (f : _ → _) : (s.modPtpPort k f).irq = s.irq := (rfl)
@[simp] theorem State.modPtpPort_mem (k : Nat) (f : _ → _) : (s.modPtpPort k f).mem = s.mem := (rfl)
@[simp] theorem State.modPtpPort_flt (k : Nat) (f : _ → _) : (s.modPtpPort k f).flt = s.flt := (rfl)
@[simp] theorem State.modPtpPort_cal (k : Nat) (f : _ → _) : (s.modPtpPort k f).cal = s.cal := (rfl)
@[simp] theorem State.modPtpPort_gauge (k : Nat) (f : _ → _) : (s.modPtpPort k f).gauge = s.gauge := (rfl)
@[simp] theorem State.modPtpPort_mod (k : Nat) (f : _ → _) : (s.modPtpPort k f).mod = s.mod := (rfl)
@[simp] theorem State.modPtpPort_boot (k : Nat) (f : _ → _) : (s.modPtpPort k f).boot = s.boot := (rfl)
@[simp] theorem State.modPtpPort_clk_refReady (k : Nat) (f : _ → _) :
    (s.modPtpPort k f).clk.refReady = s.clk.refReady := (rfl)
@[simp] theorem State.modPtpPort_clk_backupReady (k : Nat) (f : _ → _) :
    (s.modPtpPort k f).clk.backupReady = s.clk.backupReady := (rfl)
@[simp] theorem State.modPtpPort_clk_refGood (k : Nat) (f : _ → _) :
    (s.modPtpPort k f).clk.refGood = s.clk.refGood := (rfl)
@[simp] theorem State.modPtpPort_clk_backupGood (k : Nat) (f : _ → _) :
    (s.modPtpPort k f).clk.backupGood = s.clk.backupGood := (rfl)
@[simp] theorem State.modPtpPort_clk_cfActive (k : Nat) (f : _ → _) :
    (s.modPtpPort k f).clk.cfActive = s.clk.cfActive := (rfl)
@[simp] theorem State.modPtpPort_clk_refLosses (k : Nat) (f : _ → _) :
    (s.modPtpPort k f).clk.refLosses = s.clk.refLosses := (rfl)
@[simp] theorem State.modPtpPort_clk_locked (k : Nat) (f : _ → _) : (s.modPtpPort k f).clk.locked = s.clk.locked := (rfl)
@[simp] theorem State.modPtpPort_clk_starting (k : Nat) (f : _ → _) :
    (s.modPtpPort k f).clk.starting = s.clk.starting := (rfl)
@[simp] theorem State.modPtpPort_clk_holdover (k : Nat) (f : _ → _) :
    (s.modPtpPort k f).clk.holdover = s.clk.holdover := (rfl)
@[simp] theorem State.modPtpPort_clk_power (k : Nat) (f : _ → _) : (s.modPtpPort k f).clk.power = s.clk.power := (rfl)
@[simp] theorem State.modPtpPort_clk_slave (k : Nat) (f : _ → _) : (s.modPtpPort k f).clk.slave = s.clk.slave := (rfl)
@[simp] theorem State.modPtpPort_clk_parent (k : Nat) (f : _ → _) : (s.modPtpPort k f).clk.parent = s.clk.parent := (rfl)
@[simp] theorem State.modPtpPort_clk_st (k : Nat) (f : _ → _) : (s.modPtpPort k f).clk.st = s.clk.st := (rfl)
@[simp] theorem State.modPtpPort_clk_from (k : Nat) (f : _ → _) : (s.modPtpPort k f).clk.from_ = s.clk.from_ := (rfl)
@[simp] theorem State.modPtpPort_clk_good (k : Nat) (f : _ → _) : (s.modPtpPort k f).clk.good = s.clk.good := (rfl)
@[simp] theorem State.modPtpPort_clk_bad (k : Nat) (f : _ → _) : (s.modPtpPort k f).clk.bad = s.clk.bad := (rfl)
@[simp] theorem State.modPtpPort_clk_measuring (k : Nat) (f : _ → _) :
    (s.modPtpPort k f).clk.measuring = s.clk.measuring := (rfl)
@[simp] theorem State.modPtpPort_clk_measured (k : Nat) (f : _ → _) :
    (s.modPtpPort k f).clk.measured = s.clk.measured := (rfl)
@[simp] theorem State.modPtpPort_clk_measuredBad (k : Nat) (f : _ → _) :
    (s.modPtpPort k f).clk.measuredBad = s.clk.measuredBad := (rfl)
@[simp] theorem State.modPtpPort_clk_offset (k : Nat) (f : _ → _) : (s.modPtpPort k f).clk.offset = s.clk.offset := (rfl)
@[simp] theorem State.modPtpPort_clk_steps (k : Nat) (f : _ → _) : (s.modPtpPort k f).clk.steps = s.clk.steps := (rfl)
@[simp] theorem State.modPtpPort_clk_freq (k : Nat) (f : _ → _) : (s.modPtpPort k f).clk.freq = s.clk.freq := (rfl)
@[simp] theorem State.modPtpPort_clk_ppsValid (k : Nat) (f : _ → _) :
    (s.modPtpPort k f).clk.ppsValid = s.clk.ppsValid := (rfl)
@[simp] theorem State.modPtpPort_clk_ppsSamples (k : Nat) (f : _ → _) :
    (s.modPtpPort k f).clk.ppsSamples = s.clk.ppsSamples := (rfl)
@[simp] theorem State.modPtpPort_clk_edgesIgnored (k : Nat) (f : _ → _) :
    (s.modPtpPort k f).clk.edgesIgnored = s.clk.edgesIgnored := (rfl)
@[simp] theorem State.modPtpPort_clk_ignoredRun (k : Nat) (f : _ → _) :
    (s.modPtpPort k f).clk.ignoredRun = s.clk.ignoredRun := (rfl)
@[simp] theorem State.modPtpPort_clk_leftAt (k : Nat) (f : _ → _) : (s.modPtpPort k f).clk.leftAt = s.clk.leftAt := (rfl)
@[simp] theorem State.modPtpPort_clk_traceSince (k : Nat) (f : _ → _) :
    (s.modPtpPort k f).clk.traceSince = s.clk.traceSince := (rfl)
@[simp] theorem State.modPtpPort_clk_specOver (k : Nat) (f : _ → _) :
    (s.modPtpPort k f).clk.specOver = s.clk.specOver := (rfl)
@[simp] theorem State.modPtpPort_clk_timeSet (k : Nat) (f : _ → _) :
    (s.modPtpPort k f).clk.timeSet = s.clk.timeSet := (rfl)
@[simp] theorem State.modPtpPort_clk_started (k : Nat) (f : _ → _) :
    (s.modPtpPort k f).clk.started = s.clk.started := (rfl)
@[simp] theorem State.modPtpPort_clk_discarded (k : Nat) (f : _ → _) :
    (s.modPtpPort k f).clk.discarded = s.clk.discarded := (rfl)
@[simp] theorem State.modPtpPort_clk_freqHub (k : Nat) (f : _ → _) :
    (s.modPtpPort k f).clk.freqHub = s.clk.freqHub := (rfl)
@[simp] theorem State.modPtpPort_clk_freq1 (k : Nat) (f : _ → _) : (s.modPtpPort k f).clk.freq1 = s.clk.freq1 := (rfl)

@[simp] theorem State.setBuffer_now (k : Nat) (v : _) : (s.setBuffer k v).now = s.now := (rfl)
@[simp] theorem State.setBuffer_pending (k : Nat) (v : _) : (s.setBuffer k v).pending = s.pending := (rfl)
@[simp] theorem State.setBuffer_answer (k : Nat) (v : _) : (s.setBuffer k v).answer = s.answer := (rfl)
@[simp] theorem State.setBuffer_emits (k : Nat) (v : _) : (s.setBuffer k v).emits = s.emits := (rfl)
@[simp] theorem State.setBuffer_fresh (k : Nat) (v : _) : (s.setBuffer k v).fresh = s.fresh := (rfl)
@[simp] theorem State.setBuffer_links (k : Nat) (v : _) : (s.setBuffer k v).links = s.links := (rfl)
@[simp] theorem State.setBuffer_shed (k : Nat) (v : _) : (s.setBuffer k v).shed = s.shed := (rfl)
@[simp] theorem State.setBuffer_copy (k : Nat) (v : _) : (s.setBuffer k v).copy = s.copy := (rfl)
@[simp] theorem State.setBuffer_rings (k : Nat) (v : _) : (s.setBuffer k v).rings = s.rings := (rfl)
@[simp] theorem State.setBuffer_str (k : Nat) (v : _) : (s.setBuffer k v).str = s.str := (rfl)
@[simp] theorem State.setBuffer_egr (k : Nat) (v : _) : (s.setBuffer k v).egr = s.egr := (rfl)
@[simp] theorem State.setBuffer_alm (k : Nat) (v : _) : (s.setBuffer k v).alm = s.alm := (rfl)
@[simp] theorem State.setBuffer_allots (k : Nat) (v : _) : (s.setBuffer k v).allots = s.allots := (rfl)
@[simp] theorem State.setBuffer_irq (k : Nat) (v : _) : (s.setBuffer k v).irq = s.irq := (rfl)
@[simp] theorem State.setBuffer_mem (k : Nat) (v : _) : (s.setBuffer k v).mem = s.mem := (rfl)
@[simp] theorem State.setBuffer_flt (k : Nat) (v : _) : (s.setBuffer k v).flt = s.flt := (rfl)
@[simp] theorem State.setBuffer_cal (k : Nat) (v : _) : (s.setBuffer k v).cal = s.cal := (rfl)
@[simp] theorem State.setBuffer_gauge (k : Nat) (v : _) : (s.setBuffer k v).gauge = s.gauge := (rfl)
@[simp] theorem State.setBuffer_mod (k : Nat) (v : _) : (s.setBuffer k v).mod = s.mod := (rfl)
@[simp] theorem State.setBuffer_clk (k : Nat) (v : _) : (s.setBuffer k v).clk = s.clk := (rfl)
@[simp] theorem State.setBuffer_boot (k : Nat) (v : _) : (s.setBuffer k v).boot = s.boot := (rfl)

@[simp] theorem State.setBlock_now (k : Nat) (v : _) : (s.setBlock k v).now = s.now := (rfl)
@[simp] theorem State.setBlock_pending (k : Nat) (v : _) : (s.setBlock k v).pending = s.pending := (rfl)
@[simp] theorem State.setBlock_answer (k : Nat) (v : _) : (s.setBlock k v).answer = s.answer := (rfl)
@[simp] theorem State.setBlock_emits (k : Nat) (v : _) : (s.setBlock k v).emits = s.emits := (rfl)
@[simp] theorem State.setBlock_fresh (k : Nat) (v : _) : (s.setBlock k v).fresh = s.fresh := (rfl)
@[simp] theorem State.setBlock_links (k : Nat) (v : _) : (s.setBlock k v).links = s.links := (rfl)
@[simp] theorem State.setBlock_shed (k : Nat) (v : _) : (s.setBlock k v).shed = s.shed := (rfl)
@[simp] theorem State.setBlock_copy (k : Nat) (v : _) : (s.setBlock k v).copy = s.copy := (rfl)
@[simp] theorem State.setBlock_rings (k : Nat) (v : _) : (s.setBlock k v).rings = s.rings := (rfl)
@[simp] theorem State.setBlock_str (k : Nat) (v : _) : (s.setBlock k v).str = s.str := (rfl)
@[simp] theorem State.setBlock_egr (k : Nat) (v : _) : (s.setBlock k v).egr = s.egr := (rfl)
@[simp] theorem State.setBlock_alm (k : Nat) (v : _) : (s.setBlock k v).alm = s.alm := (rfl)
@[simp] theorem State.setBlock_allots (k : Nat) (v : _) : (s.setBlock k v).allots = s.allots := (rfl)
@[simp] theorem State.setBlock_irq (k : Nat) (v : _) : (s.setBlock k v).irq = s.irq := (rfl)
@[simp] theorem State.setBlock_mem (k : Nat) (v : _) : (s.setBlock k v).mem = s.mem := (rfl)
@[simp] theorem State.setBlock_flt (k : Nat) (v : _) : (s.setBlock k v).flt = s.flt := (rfl)
@[simp] theorem State.setBlock_cal (k : Nat) (v : _) : (s.setBlock k v).cal = s.cal := (rfl)
@[simp] theorem State.setBlock_gauge (k : Nat) (v : _) : (s.setBlock k v).gauge = s.gauge := (rfl)
@[simp] theorem State.setBlock_mod (k : Nat) (v : _) : (s.setBlock k v).mod = s.mod := (rfl)
@[simp] theorem State.setBlock_clk (k : Nat) (v : _) : (s.setBlock k v).clk = s.clk := (rfl)
@[simp] theorem State.setBlock_boot (k : Nat) (v : _) : (s.setBlock k v).boot = s.boot := (rfl)

@[simp] theorem State.setChain_now (k : Nat) (v : _) : (s.setChain k v).now = s.now := (rfl)
@[simp] theorem State.setChain_pending (k : Nat) (v : _) : (s.setChain k v).pending = s.pending := (rfl)
@[simp] theorem State.setChain_answer (k : Nat) (v : _) : (s.setChain k v).answer = s.answer := (rfl)
@[simp] theorem State.setChain_emits (k : Nat) (v : _) : (s.setChain k v).emits = s.emits := (rfl)
@[simp] theorem State.setChain_fresh (k : Nat) (v : _) : (s.setChain k v).fresh = s.fresh := (rfl)
@[simp] theorem State.setChain_links (k : Nat) (v : _) : (s.setChain k v).links = s.links := (rfl)
@[simp] theorem State.setChain_shed (k : Nat) (v : _) : (s.setChain k v).shed = s.shed := (rfl)
@[simp] theorem State.setChain_copy (k : Nat) (v : _) : (s.setChain k v).copy = s.copy := (rfl)
@[simp] theorem State.setChain_fwd (k : Nat) (v : _) : (s.setChain k v).fwd = s.fwd := (rfl)
@[simp] theorem State.setChain_rings (k : Nat) (v : _) : (s.setChain k v).rings = s.rings := (rfl)
@[simp] theorem State.setChain_str (k : Nat) (v : _) : (s.setChain k v).str = s.str := (rfl)
@[simp] theorem State.setChain_alm (k : Nat) (v : _) : (s.setChain k v).alm = s.alm := (rfl)
@[simp] theorem State.setChain_allots (k : Nat) (v : _) : (s.setChain k v).allots = s.allots := (rfl)
@[simp] theorem State.setChain_irq (k : Nat) (v : _) : (s.setChain k v).irq = s.irq := (rfl)
@[simp] theorem State.setChain_mem (k : Nat) (v : _) : (s.setChain k v).mem = s.mem := (rfl)
@[simp] theorem State.setChain_flt (k : Nat) (v : _) : (s.setChain k v).flt = s.flt := (rfl)
@[simp] theorem State.setChain_cal (k : Nat) (v : _) : (s.setChain k v).cal = s.cal := (rfl)
@[simp] theorem State.setChain_gauge (k : Nat) (v : _) : (s.setChain k v).gauge = s.gauge := (rfl)
@[simp] theorem State.setChain_mod (k : Nat) (v : _) : (s.setChain k v).mod = s.mod := (rfl)
@[simp] theorem State.setChain_clk (k : Nat) (v : _) : (s.setChain k v).clk = s.clk := (rfl)
@[simp] theorem State.setChain_boot (k : Nat) (v : _) : (s.setChain k v).boot = s.boot := (rfl)

@[simp] theorem State.setLatch_now (k : Nat) (v : _) : (s.setLatch k v).now = s.now := (rfl)
@[simp] theorem State.setLatch_pending (k : Nat) (v : _) : (s.setLatch k v).pending = s.pending := (rfl)
@[simp] theorem State.setLatch_answer (k : Nat) (v : _) : (s.setLatch k v).answer = s.answer := (rfl)
@[simp] theorem State.setLatch_emits (k : Nat) (v : _) : (s.setLatch k v).emits = s.emits := (rfl)
@[simp] theorem State.setLatch_fresh (k : Nat) (v : _) : (s.setLatch k v).fresh = s.fresh := (rfl)
@[simp] theorem State.setLatch_links (k : Nat) (v : _) : (s.setLatch k v).links = s.links := (rfl)
@[simp] theorem State.setLatch_shed (k : Nat) (v : _) : (s.setLatch k v).shed = s.shed := (rfl)
@[simp] theorem State.setLatch_copy (k : Nat) (v : _) : (s.setLatch k v).copy = s.copy := (rfl)
@[simp] theorem State.setLatch_fwd (k : Nat) (v : _) : (s.setLatch k v).fwd = s.fwd := (rfl)
@[simp] theorem State.setLatch_rings (k : Nat) (v : _) : (s.setLatch k v).rings = s.rings := (rfl)
@[simp] theorem State.setLatch_str (k : Nat) (v : _) : (s.setLatch k v).str = s.str := (rfl)
@[simp] theorem State.setLatch_egr (k : Nat) (v : _) : (s.setLatch k v).egr = s.egr := (rfl)
@[simp] theorem State.setLatch_allots (k : Nat) (v : _) : (s.setLatch k v).allots = s.allots := (rfl)
@[simp] theorem State.setLatch_irq (k : Nat) (v : _) : (s.setLatch k v).irq = s.irq := (rfl)
@[simp] theorem State.setLatch_mem (k : Nat) (v : _) : (s.setLatch k v).mem = s.mem := (rfl)
@[simp] theorem State.setLatch_flt (k : Nat) (v : _) : (s.setLatch k v).flt = s.flt := (rfl)
@[simp] theorem State.setLatch_cal (k : Nat) (v : _) : (s.setLatch k v).cal = s.cal := (rfl)
@[simp] theorem State.setLatch_gauge (k : Nat) (v : _) : (s.setLatch k v).gauge = s.gauge := (rfl)
@[simp] theorem State.setLatch_mod (k : Nat) (v : _) : (s.setLatch k v).mod = s.mod := (rfl)
@[simp] theorem State.setLatch_clk (k : Nat) (v : _) : (s.setLatch k v).clk = s.clk := (rfl)
@[simp] theorem State.setLatch_boot (k : Nat) (v : _) : (s.setLatch k v).boot = s.boot := (rfl)

@[simp] theorem State.setRail_now (k : Nat) (v : _) : (s.setRail k v).now = s.now := (rfl)
@[simp] theorem State.setRail_pending (k : Nat) (v : _) : (s.setRail k v).pending = s.pending := (rfl)
@[simp] theorem State.setRail_answer (k : Nat) (v : _) : (s.setRail k v).answer = s.answer := (rfl)
@[simp] theorem State.setRail_emits (k : Nat) (v : _) : (s.setRail k v).emits = s.emits := (rfl)
@[simp] theorem State.setRail_fresh (k : Nat) (v : _) : (s.setRail k v).fresh = s.fresh := (rfl)
@[simp] theorem State.setRail_links (k : Nat) (v : _) : (s.setRail k v).links = s.links := (rfl)
@[simp] theorem State.setRail_shed (k : Nat) (v : _) : (s.setRail k v).shed = s.shed := (rfl)
@[simp] theorem State.setRail_copy (k : Nat) (v : _) : (s.setRail k v).copy = s.copy := (rfl)
@[simp] theorem State.setRail_fwd (k : Nat) (v : _) : (s.setRail k v).fwd = s.fwd := (rfl)
@[simp] theorem State.setRail_rings (k : Nat) (v : _) : (s.setRail k v).rings = s.rings := (rfl)
@[simp] theorem State.setRail_str (k : Nat) (v : _) : (s.setRail k v).str = s.str := (rfl)
@[simp] theorem State.setRail_egr (k : Nat) (v : _) : (s.setRail k v).egr = s.egr := (rfl)
@[simp] theorem State.setRail_alm (k : Nat) (v : _) : (s.setRail k v).alm = s.alm := (rfl)
@[simp] theorem State.setRail_allots (k : Nat) (v : _) : (s.setRail k v).allots = s.allots := (rfl)
@[simp] theorem State.setRail_irq (k : Nat) (v : _) : (s.setRail k v).irq = s.irq := (rfl)
@[simp] theorem State.setRail_mem (k : Nat) (v : _) : (s.setRail k v).mem = s.mem := (rfl)
@[simp] theorem State.setRail_flt (k : Nat) (v : _) : (s.setRail k v).flt = s.flt := (rfl)
@[simp] theorem State.setRail_cal (k : Nat) (v : _) : (s.setRail k v).cal = s.cal := (rfl)
@[simp] theorem State.setRail_gauge (k : Nat) (v : _) : (s.setRail k v).gauge = s.gauge := (rfl)
@[simp] theorem State.setRail_clk (k : Nat) (v : _) : (s.setRail k v).clk = s.clk := (rfl)
@[simp] theorem State.setRail_boot (k : Nat) (v : _) : (s.setRail k v).boot = s.boot := (rfl)

@[simp] theorem State.setDelivery_now (d i : Nat) (w : DeliveryWord) :
    (s.setDelivery d i w).now = s.now := by simp only [State.setDelivery]; split <;> rfl
@[simp] theorem State.setDelivery_pending (d i : Nat) (w : DeliveryWord) :
    (s.setDelivery d i w).pending = s.pending := by simp only [State.setDelivery]; split <;> rfl
@[simp] theorem State.setDelivery_answer (d i : Nat) (w : DeliveryWord) :
    (s.setDelivery d i w).answer = s.answer := by simp only [State.setDelivery]; split <;> rfl
@[simp] theorem State.setDelivery_emits (d i : Nat) (w : DeliveryWord) :
    (s.setDelivery d i w).emits = s.emits := by simp only [State.setDelivery]; split <;> rfl
@[simp] theorem State.setDelivery_fresh (d i : Nat) (w : DeliveryWord) :
    (s.setDelivery d i w).fresh = s.fresh := by simp only [State.setDelivery]; split <;> rfl
@[simp] theorem State.setDelivery_links (d i : Nat) (w : DeliveryWord) :
    (s.setDelivery d i w).links = s.links := by simp only [State.setDelivery]; split <;> rfl
@[simp] theorem State.setDelivery_shed (d i : Nat) (w : DeliveryWord) :
    (s.setDelivery d i w).shed = s.shed := by simp only [State.setDelivery]; split <;> rfl
@[simp] theorem State.setDelivery_copy (d i : Nat) (w : DeliveryWord) :
    (s.setDelivery d i w).copy = s.copy := by simp only [State.setDelivery]; split <;> rfl
@[simp] theorem State.setDelivery_rings (d i : Nat) (w : DeliveryWord) :
    (s.setDelivery d i w).rings = s.rings := by simp only [State.setDelivery]; split <;> rfl
@[simp] theorem State.setDelivery_str (d i : Nat) (w : DeliveryWord) :
    (s.setDelivery d i w).str = s.str := by simp only [State.setDelivery]; split <;> rfl
@[simp] theorem State.setDelivery_egr (d i : Nat) (w : DeliveryWord) :
    (s.setDelivery d i w).egr = s.egr := by simp only [State.setDelivery]; split <;> rfl
@[simp] theorem State.setDelivery_alm (d i : Nat) (w : DeliveryWord) :
    (s.setDelivery d i w).alm = s.alm := by simp only [State.setDelivery]; split <;> rfl
@[simp] theorem State.setDelivery_allots (d i : Nat) (w : DeliveryWord) :
    (s.setDelivery d i w).allots = s.allots := by simp only [State.setDelivery]; split <;> rfl
@[simp] theorem State.setDelivery_irq (d i : Nat) (w : DeliveryWord) :
    (s.setDelivery d i w).irq = s.irq := by simp only [State.setDelivery]; split <;> rfl
@[simp] theorem State.setDelivery_mem (d i : Nat) (w : DeliveryWord) :
    (s.setDelivery d i w).mem = s.mem := by simp only [State.setDelivery]; split <;> rfl
@[simp] theorem State.setDelivery_flt (d i : Nat) (w : DeliveryWord) :
    (s.setDelivery d i w).flt = s.flt := by simp only [State.setDelivery]; split <;> rfl
@[simp] theorem State.setDelivery_cal (d i : Nat) (w : DeliveryWord) :
    (s.setDelivery d i w).cal = s.cal := by simp only [State.setDelivery]; split <;> rfl
@[simp] theorem State.setDelivery_gauge (d i : Nat) (w : DeliveryWord) :
    (s.setDelivery d i w).gauge = s.gauge := by simp only [State.setDelivery]; split <;> rfl
@[simp] theorem State.setDelivery_mod (d i : Nat) (w : DeliveryWord) :
    (s.setDelivery d i w).mod = s.mod := by simp only [State.setDelivery]; split <;> rfl
@[simp] theorem State.setDelivery_clk (d i : Nat) (w : DeliveryWord) :
    (s.setDelivery d i w).clk = s.clk := by simp only [State.setDelivery]; split <;> rfl
@[simp] theorem State.setDelivery_boot (d i : Nat) (w : DeliveryWord) :
    (s.setDelivery d i w).boot = s.boot := by simp only [State.setDelivery]; split <;> rfl

@[simp] theorem State.modCells_now (d : Nat) (f : CellStore → CellStore) :
    (s.modCells d f).now = s.now := by simp only [State.modCells]; split <;> rfl
@[simp] theorem State.modCells_pending (d : Nat) (f : CellStore → CellStore) :
    (s.modCells d f).pending = s.pending := by simp only [State.modCells]; split <;> rfl
@[simp] theorem State.modCells_answer (d : Nat) (f : CellStore → CellStore) :
    (s.modCells d f).answer = s.answer := by simp only [State.modCells]; split <;> rfl
@[simp] theorem State.modCells_emits (d : Nat) (f : CellStore → CellStore) :
    (s.modCells d f).emits = s.emits := by simp only [State.modCells]; split <;> rfl
@[simp] theorem State.modCells_fresh (d : Nat) (f : CellStore → CellStore) :
    (s.modCells d f).fresh = s.fresh := by simp only [State.modCells]; split <;> rfl
@[simp] theorem State.modCells_links (d : Nat) (f : CellStore → CellStore) :
    (s.modCells d f).links = s.links := by simp only [State.modCells]; split <;> rfl
@[simp] theorem State.modCells_shed (d : Nat) (f : CellStore → CellStore) :
    (s.modCells d f).shed = s.shed := by simp only [State.modCells]; split <;> rfl
@[simp] theorem State.modCells_copy (d : Nat) (f : CellStore → CellStore) :
    (s.modCells d f).copy = s.copy := by simp only [State.modCells]; split <;> rfl
@[simp] theorem State.modCells_fwd (d : Nat) (f : CellStore → CellStore) :
    (s.modCells d f).fwd = s.fwd := by simp only [State.modCells]; split <;> rfl
@[simp] theorem State.modCells_rings (d : Nat) (f : CellStore → CellStore) :
    (s.modCells d f).rings = s.rings := by simp only [State.modCells]; split <;> rfl
@[simp] theorem State.modCells_str (d : Nat) (f : CellStore → CellStore) :
    (s.modCells d f).str = s.str := by simp only [State.modCells]; split <;> rfl
@[simp] theorem State.modCells_alm (d : Nat) (f : CellStore → CellStore) :
    (s.modCells d f).alm = s.alm := by simp only [State.modCells]; split <;> rfl
@[simp] theorem State.modCells_allots (d : Nat) (f : CellStore → CellStore) :
    (s.modCells d f).allots = s.allots := by simp only [State.modCells]; split <;> rfl
@[simp] theorem State.modCells_irq (d : Nat) (f : CellStore → CellStore) :
    (s.modCells d f).irq = s.irq := by simp only [State.modCells]; split <;> rfl
@[simp] theorem State.modCells_mem (d : Nat) (f : CellStore → CellStore) :
    (s.modCells d f).mem = s.mem := by simp only [State.modCells]; split <;> rfl
@[simp] theorem State.modCells_flt (d : Nat) (f : CellStore → CellStore) :
    (s.modCells d f).flt = s.flt := by simp only [State.modCells]; split <;> rfl
@[simp] theorem State.modCells_cal (d : Nat) (f : CellStore → CellStore) :
    (s.modCells d f).cal = s.cal := by simp only [State.modCells]; split <;> rfl
@[simp] theorem State.modCells_gauge (d : Nat) (f : CellStore → CellStore) :
    (s.modCells d f).gauge = s.gauge := by simp only [State.modCells]; split <;> rfl
@[simp] theorem State.modCells_mod (d : Nat) (f : CellStore → CellStore) :
    (s.modCells d f).mod = s.mod := by simp only [State.modCells]; split <;> rfl
@[simp] theorem State.modCells_clk (d : Nat) (f : CellStore → CellStore) :
    (s.modCells d f).clk = s.clk := by simp only [State.modCells]; split <;> rfl
@[simp] theorem State.modCells_boot (d : Nat) (f : CellStore → CellStore) :
    (s.modCells d f).boot = s.boot := by simp only [State.modCells]; split <;> rfl

@[simp] theorem State.modRoute_now (h : Bool) (n : Nat) (f : Route → Route) :
    (s.modRoute h n f).now = s.now := by simp only [State.modRoute]; split <;> rfl
@[simp] theorem State.modRoute_pending (h : Bool) (n : Nat) (f : Route → Route) :
    (s.modRoute h n f).pending = s.pending := by simp only [State.modRoute]; split <;> rfl
@[simp] theorem State.modRoute_answer (h : Bool) (n : Nat) (f : Route → Route) :
    (s.modRoute h n f).answer = s.answer := by simp only [State.modRoute]; split <;> rfl
@[simp] theorem State.modRoute_emits (h : Bool) (n : Nat) (f : Route → Route) :
    (s.modRoute h n f).emits = s.emits := by simp only [State.modRoute]; split <;> rfl
@[simp] theorem State.modRoute_fresh (h : Bool) (n : Nat) (f : Route → Route) :
    (s.modRoute h n f).fresh = s.fresh := by simp only [State.modRoute]; split <;> rfl
@[simp] theorem State.modRoute_links (h : Bool) (n : Nat) (f : Route → Route) :
    (s.modRoute h n f).links = s.links := by simp only [State.modRoute]; split <;> rfl
@[simp] theorem State.modRoute_shed (h : Bool) (n : Nat) (f : Route → Route) :
    (s.modRoute h n f).shed = s.shed := by simp only [State.modRoute]; split <;> rfl
@[simp] theorem State.modRoute_copy (h : Bool) (n : Nat) (f : Route → Route) :
    (s.modRoute h n f).copy = s.copy := by simp only [State.modRoute]; split <;> rfl
@[simp] theorem State.modRoute_fwd (h : Bool) (n : Nat) (f : Route → Route) :
    (s.modRoute h n f).fwd = s.fwd := by simp only [State.modRoute]; split <;> rfl
@[simp] theorem State.modRoute_rings (h : Bool) (n : Nat) (f : Route → Route) :
    (s.modRoute h n f).rings = s.rings := by simp only [State.modRoute]; split <;> rfl
@[simp] theorem State.modRoute_str (h : Bool) (n : Nat) (f : Route → Route) :
    (s.modRoute h n f).str = s.str := by simp only [State.modRoute]; split <;> rfl
@[simp] theorem State.modRoute_egr (h : Bool) (n : Nat) (f : Route → Route) :
    (s.modRoute h n f).egr = s.egr := by simp only [State.modRoute]; split <;> rfl
@[simp] theorem State.modRoute_alm (h : Bool) (n : Nat) (f : Route → Route) :
    (s.modRoute h n f).alm = s.alm := by simp only [State.modRoute]; split <;> rfl
@[simp] theorem State.modRoute_allots (h : Bool) (n : Nat) (f : Route → Route) :
    (s.modRoute h n f).allots = s.allots := by simp only [State.modRoute]; split <;> rfl
@[simp] theorem State.modRoute_mem (h : Bool) (n : Nat) (f : Route → Route) :
    (s.modRoute h n f).mem = s.mem := by simp only [State.modRoute]; split <;> rfl
@[simp] theorem State.modRoute_flt (h : Bool) (n : Nat) (f : Route → Route) :
    (s.modRoute h n f).flt = s.flt := by simp only [State.modRoute]; split <;> rfl
@[simp] theorem State.modRoute_cal (h : Bool) (n : Nat) (f : Route → Route) :
    (s.modRoute h n f).cal = s.cal := by simp only [State.modRoute]; split <;> rfl
@[simp] theorem State.modRoute_gauge (h : Bool) (n : Nat) (f : Route → Route) :
    (s.modRoute h n f).gauge = s.gauge := by simp only [State.modRoute]; split <;> rfl
@[simp] theorem State.modRoute_mod (h : Bool) (n : Nat) (f : Route → Route) :
    (s.modRoute h n f).mod = s.mod := by simp only [State.modRoute]; split <;> rfl
@[simp] theorem State.modRoute_clk (h : Bool) (n : Nat) (f : Route → Route) :
    (s.modRoute h n f).clk = s.clk := by simp only [State.modRoute]; split <;> rfl
@[simp] theorem State.modRoute_boot (h : Bool) (n : Nat) (f : Route → Route) :
    (s.modRoute h n f).boot = s.boot := by simp only [State.modRoute]; split <;> rfl

@[simp] theorem State.setPower_now (b v : Nat) :
    (s.setPower b v).now = s.now := by simp only [State.setPower]; split <;> rfl
@[simp] theorem State.setPower_pending (b v : Nat) :
    (s.setPower b v).pending = s.pending := by simp only [State.setPower]; split <;> rfl
@[simp] theorem State.setPower_answer (b v : Nat) :
    (s.setPower b v).answer = s.answer := by simp only [State.setPower]; split <;> rfl
@[simp] theorem State.setPower_emits (b v : Nat) :
    (s.setPower b v).emits = s.emits := by simp only [State.setPower]; split <;> rfl
@[simp] theorem State.setPower_fresh (b v : Nat) :
    (s.setPower b v).fresh = s.fresh := by simp only [State.setPower]; split <;> rfl
@[simp] theorem State.setPower_links (b v : Nat) :
    (s.setPower b v).links = s.links := by simp only [State.setPower]; split <;> rfl
@[simp] theorem State.setPower_shed (b v : Nat) :
    (s.setPower b v).shed = s.shed := by simp only [State.setPower]; split <;> rfl
@[simp] theorem State.setPower_copy (b v : Nat) :
    (s.setPower b v).copy = s.copy := by simp only [State.setPower]; split <;> rfl
@[simp] theorem State.setPower_fwd (b v : Nat) :
    (s.setPower b v).fwd = s.fwd := by simp only [State.setPower]; split <;> rfl
@[simp] theorem State.setPower_rings (b v : Nat) :
    (s.setPower b v).rings = s.rings := by simp only [State.setPower]; split <;> rfl
@[simp] theorem State.setPower_str (b v : Nat) :
    (s.setPower b v).str = s.str := by simp only [State.setPower]; split <;> rfl
@[simp] theorem State.setPower_egr (b v : Nat) :
    (s.setPower b v).egr = s.egr := by simp only [State.setPower]; split <;> rfl
@[simp] theorem State.setPower_alm (b v : Nat) :
    (s.setPower b v).alm = s.alm := by simp only [State.setPower]; split <;> rfl
@[simp] theorem State.setPower_allots (b v : Nat) :
    (s.setPower b v).allots = s.allots := by simp only [State.setPower]; split <;> rfl
@[simp] theorem State.setPower_irq (b v : Nat) :
    (s.setPower b v).irq = s.irq := by simp only [State.setPower]; split <;> rfl
@[simp] theorem State.setPower_mem (b v : Nat) :
    (s.setPower b v).mem = s.mem := by simp only [State.setPower]; split <;> rfl
@[simp] theorem State.setPower_flt (b v : Nat) :
    (s.setPower b v).flt = s.flt := by simp only [State.setPower]; split <;> rfl
@[simp] theorem State.setPower_cal (b v : Nat) :
    (s.setPower b v).cal = s.cal := by simp only [State.setPower]; split <;> rfl
@[simp] theorem State.setPower_gauge (b v : Nat) :
    (s.setPower b v).gauge = s.gauge := by simp only [State.setPower]; split <;> rfl
@[simp] theorem State.setPower_mod (b v : Nat) :
    (s.setPower b v).mod = s.mod := by simp only [State.setPower]; split <;> rfl
@[simp] theorem State.setPower_boot (b v : Nat) :
    (s.setPower b v).boot = s.boot := by simp only [State.setPower]; split <;> rfl

@[simp] theorem State.modRing_now (a n : Nat) (f : Ring → Ring) : (s.modRing a n f).now = s.now := (rfl)
@[simp] theorem State.modRing_pending (a n : Nat) (f : Ring → Ring) : (s.modRing a n f).pending = s.pending := (rfl)
@[simp] theorem State.modRing_answer (a n : Nat) (f : Ring → Ring) : (s.modRing a n f).answer = s.answer := (rfl)
@[simp] theorem State.modRing_emits (a n : Nat) (f : Ring → Ring) : (s.modRing a n f).emits = s.emits := (rfl)
@[simp] theorem State.modRing_fresh (a n : Nat) (f : Ring → Ring) : (s.modRing a n f).fresh = s.fresh := (rfl)
@[simp] theorem State.modRing_links (a n : Nat) (f : Ring → Ring) : (s.modRing a n f).links = s.links := (rfl)
@[simp] theorem State.modRing_shed (a n : Nat) (f : Ring → Ring) : (s.modRing a n f).shed = s.shed := (rfl)
@[simp] theorem State.modRing_copy (a n : Nat) (f : Ring → Ring) : (s.modRing a n f).copy = s.copy := (rfl)
@[simp] theorem State.modRing_fwd (a n : Nat) (f : Ring → Ring) : (s.modRing a n f).fwd = s.fwd := (rfl)
@[simp] theorem State.modRing_str (a n : Nat) (f : Ring → Ring) : (s.modRing a n f).str = s.str := (rfl)
@[simp] theorem State.modRing_egr (a n : Nat) (f : Ring → Ring) : (s.modRing a n f).egr = s.egr := (rfl)
@[simp] theorem State.modRing_alm (a n : Nat) (f : Ring → Ring) : (s.modRing a n f).alm = s.alm := (rfl)
@[simp] theorem State.modRing_allots (a n : Nat) (f : Ring → Ring) : (s.modRing a n f).allots = s.allots := (rfl)
@[simp] theorem State.modRing_irq (a n : Nat) (f : Ring → Ring) : (s.modRing a n f).irq = s.irq := (rfl)
@[simp] theorem State.modRing_mem (a n : Nat) (f : Ring → Ring) : (s.modRing a n f).mem = s.mem := (rfl)
@[simp] theorem State.modRing_flt (a n : Nat) (f : Ring → Ring) : (s.modRing a n f).flt = s.flt := (rfl)
@[simp] theorem State.modRing_cal (a n : Nat) (f : Ring → Ring) : (s.modRing a n f).cal = s.cal := (rfl)
@[simp] theorem State.modRing_gauge (a n : Nat) (f : Ring → Ring) : (s.modRing a n f).gauge = s.gauge := (rfl)
@[simp] theorem State.modRing_mod (a n : Nat) (f : Ring → Ring) : (s.modRing a n f).mod = s.mod := (rfl)
@[simp] theorem State.modRing_clk (a n : Nat) (f : Ring → Ring) : (s.modRing a n f).clk = s.clk := (rfl)
@[simp] theorem State.modRing_boot (a n : Nat) (f : Ring → Ring) : (s.modRing a n f).boot = s.boot := (rfl)

@[simp] theorem State.at_pending (t : Nat) : (s.at t).pending = s.pending := (rfl)
@[simp] theorem State.at_answer (t : Nat) : (s.at t).answer = s.answer := (rfl)
@[simp] theorem State.at_emits (t : Nat) : (s.at t).emits = s.emits := (rfl)
@[simp] theorem State.at_fresh (t : Nat) : (s.at t).fresh = s.fresh := (rfl)
@[simp] theorem State.at_links (t : Nat) : (s.at t).links = s.links := (rfl)
@[simp] theorem State.at_shed (t : Nat) : (s.at t).shed = s.shed := (rfl)
@[simp] theorem State.at_copy (t : Nat) : (s.at t).copy = s.copy := (rfl)
@[simp] theorem State.at_fwd (t : Nat) : (s.at t).fwd = s.fwd := (rfl)
@[simp] theorem State.at_rings (t : Nat) : (s.at t).rings = s.rings := (rfl)
@[simp] theorem State.at_str (t : Nat) : (s.at t).str = s.str := (rfl)
@[simp] theorem State.at_egr (t : Nat) : (s.at t).egr = s.egr := (rfl)
@[simp] theorem State.at_alm (t : Nat) : (s.at t).alm = s.alm := (rfl)
@[simp] theorem State.at_allots (t : Nat) : (s.at t).allots = s.allots := (rfl)
@[simp] theorem State.at_irq (t : Nat) : (s.at t).irq = s.irq := (rfl)
@[simp] theorem State.at_mem (t : Nat) : (s.at t).mem = s.mem := (rfl)
@[simp] theorem State.at_flt (t : Nat) : (s.at t).flt = s.flt := (rfl)
@[simp] theorem State.at_cal (t : Nat) : (s.at t).cal = s.cal := (rfl)
@[simp] theorem State.at_gauge (t : Nat) : (s.at t).gauge = s.gauge := (rfl)
@[simp] theorem State.at_mod (t : Nat) : (s.at t).mod = s.mod := (rfl)
@[simp] theorem State.at_clk (t : Nat) : (s.at t).clk = s.clk := (rfl)
@[simp] theorem State.at_boot (t : Nat) : (s.at t).boot = s.boot := (rfl)

@[simp] theorem State.say_now (st e : Nat) (d : List Byte) : (s.say st d e).now = s.now := (rfl)
@[simp] theorem State.say_pending (st e : Nat) (d : List Byte) : (s.say st d e).pending = s.pending := (rfl)
@[simp] theorem State.say_emits (st e : Nat) (d : List Byte) : (s.say st d e).emits = s.emits := (rfl)
@[simp] theorem State.say_fresh (st e : Nat) (d : List Byte) : (s.say st d e).fresh = s.fresh := (rfl)
@[simp] theorem State.say_links (st e : Nat) (d : List Byte) : (s.say st d e).links = s.links := (rfl)
@[simp] theorem State.say_shed (st e : Nat) (d : List Byte) : (s.say st d e).shed = s.shed := (rfl)
@[simp] theorem State.say_copy (st e : Nat) (d : List Byte) : (s.say st d e).copy = s.copy := (rfl)
@[simp] theorem State.say_fwd (st e : Nat) (d : List Byte) : (s.say st d e).fwd = s.fwd := (rfl)
@[simp] theorem State.say_rings (st e : Nat) (d : List Byte) : (s.say st d e).rings = s.rings := (rfl)
@[simp] theorem State.say_str (st e : Nat) (d : List Byte) : (s.say st d e).str = s.str := (rfl)
@[simp] theorem State.say_egr (st e : Nat) (d : List Byte) : (s.say st d e).egr = s.egr := (rfl)
@[simp] theorem State.say_alm (st e : Nat) (d : List Byte) : (s.say st d e).alm = s.alm := (rfl)
@[simp] theorem State.say_allots (st e : Nat) (d : List Byte) : (s.say st d e).allots = s.allots := (rfl)
@[simp] theorem State.say_irq (st e : Nat) (d : List Byte) : (s.say st d e).irq = s.irq := (rfl)
@[simp] theorem State.say_mem (st e : Nat) (d : List Byte) : (s.say st d e).mem = s.mem := (rfl)
@[simp] theorem State.say_flt (st e : Nat) (d : List Byte) : (s.say st d e).flt = s.flt := (rfl)
@[simp] theorem State.say_cal (st e : Nat) (d : List Byte) : (s.say st d e).cal = s.cal := (rfl)
@[simp] theorem State.say_gauge (st e : Nat) (d : List Byte) : (s.say st d e).gauge = s.gauge := (rfl)
@[simp] theorem State.say_mod (st e : Nat) (d : List Byte) : (s.say st d e).mod = s.mod := (rfl)
@[simp] theorem State.say_clk (st e : Nat) (d : List Byte) : (s.say st d e).clk = s.clk := (rfl)
@[simp] theorem State.say_boot (st e : Nat) (d : List Byte) : (s.say st d e).boot = s.boot := (rfl)

@[simp] theorem State.emit_now (e : Emit) : (s.emit e).now = s.now := (rfl)
@[simp] theorem State.emit_pending (e : Emit) : (s.emit e).pending = s.pending := (rfl)
@[simp] theorem State.emit_answer (e : Emit) : (s.emit e).answer = s.answer := (rfl)
@[simp] theorem State.emit_fresh (e : Emit) : (s.emit e).fresh = s.fresh := (rfl)
@[simp] theorem State.emit_links (e : Emit) : (s.emit e).links = s.links := (rfl)
@[simp] theorem State.emit_shed (e : Emit) : (s.emit e).shed = s.shed := (rfl)
@[simp] theorem State.emit_copy (e : Emit) : (s.emit e).copy = s.copy := (rfl)
@[simp] theorem State.emit_fwd (e : Emit) : (s.emit e).fwd = s.fwd := (rfl)
@[simp] theorem State.emit_rings (e : Emit) : (s.emit e).rings = s.rings := (rfl)
@[simp] theorem State.emit_str (e : Emit) : (s.emit e).str = s.str := (rfl)
@[simp] theorem State.emit_egr (e : Emit) : (s.emit e).egr = s.egr := (rfl)
@[simp] theorem State.emit_alm (e : Emit) : (s.emit e).alm = s.alm := (rfl)
@[simp] theorem State.emit_allots (e : Emit) : (s.emit e).allots = s.allots := (rfl)
@[simp] theorem State.emit_irq (e : Emit) : (s.emit e).irq = s.irq := (rfl)
@[simp] theorem State.emit_mem (e : Emit) : (s.emit e).mem = s.mem := (rfl)
@[simp] theorem State.emit_flt (e : Emit) : (s.emit e).flt = s.flt := (rfl)
@[simp] theorem State.emit_cal (e : Emit) : (s.emit e).cal = s.cal := (rfl)
@[simp] theorem State.emit_gauge (e : Emit) : (s.emit e).gauge = s.gauge := (rfl)
@[simp] theorem State.emit_mod (e : Emit) : (s.emit e).mod = s.mod := (rfl)
@[simp] theorem State.emit_clk (e : Emit) : (s.emit e).clk = s.clk := (rfl)
@[simp] theorem State.emit_boot (e : Emit) : (s.emit e).boot = s.boot := (rfl)

@[simp] theorem State.refresh_now : (s.refresh).now = s.now := (rfl)
@[simp] theorem State.refresh_pending : (s.refresh).pending = s.pending := (rfl)
@[simp] theorem State.refresh_answer : (s.refresh).answer = s.answer := (rfl)
@[simp] theorem State.refresh_emits : (s.refresh).emits = s.emits := (rfl)
@[simp] theorem State.refresh_links : (s.refresh).links = s.links := (rfl)
@[simp] theorem State.refresh_shed : (s.refresh).shed = s.shed := (rfl)
@[simp] theorem State.refresh_copy : (s.refresh).copy = s.copy := (rfl)
@[simp] theorem State.refresh_fwd : (s.refresh).fwd = s.fwd := (rfl)
@[simp] theorem State.refresh_rings : (s.refresh).rings = s.rings := (rfl)
@[simp] theorem State.refresh_str : (s.refresh).str = s.str := (rfl)
@[simp] theorem State.refresh_egr : (s.refresh).egr = s.egr := (rfl)
@[simp] theorem State.refresh_alm : (s.refresh).alm = s.alm := (rfl)
@[simp] theorem State.refresh_allots : (s.refresh).allots = s.allots := (rfl)
@[simp] theorem State.refresh_irq : (s.refresh).irq = s.irq := (rfl)
@[simp] theorem State.refresh_mem : (s.refresh).mem = s.mem := (rfl)
@[simp] theorem State.refresh_flt : (s.refresh).flt = s.flt := (rfl)
@[simp] theorem State.refresh_cal : (s.refresh).cal = s.cal := (rfl)
@[simp] theorem State.refresh_gauge : (s.refresh).gauge = s.gauge := (rfl)
@[simp] theorem State.refresh_mod : (s.refresh).mod = s.mod := (rfl)
@[simp] theorem State.refresh_clk : (s.refresh).clk = s.clk := (rfl)
@[simp] theorem State.refresh_boot : (s.refresh).boot = s.boot := (rfl)

@[simp] theorem State.modFlt_now (f : Faults → Faults) : (s.modFlt f).now = s.now := (rfl)
@[simp] theorem State.modFlt_pending (f : Faults → Faults) : (s.modFlt f).pending = s.pending := (rfl)
@[simp] theorem State.modFlt_answer (f : Faults → Faults) : (s.modFlt f).answer = s.answer := (rfl)
@[simp] theorem State.modFlt_emits (f : Faults → Faults) : (s.modFlt f).emits = s.emits := (rfl)
@[simp] theorem State.modFlt_fresh (f : Faults → Faults) : (s.modFlt f).fresh = s.fresh := (rfl)
@[simp] theorem State.modFlt_links (f : Faults → Faults) : (s.modFlt f).links = s.links := (rfl)
@[simp] theorem State.modFlt_shed (f : Faults → Faults) : (s.modFlt f).shed = s.shed := (rfl)
@[simp] theorem State.modFlt_copy (f : Faults → Faults) : (s.modFlt f).copy = s.copy := (rfl)
@[simp] theorem State.modFlt_fwd (f : Faults → Faults) : (s.modFlt f).fwd = s.fwd := (rfl)
@[simp] theorem State.modFlt_rings (f : Faults → Faults) : (s.modFlt f).rings = s.rings := (rfl)
@[simp] theorem State.modFlt_str (f : Faults → Faults) : (s.modFlt f).str = s.str := (rfl)
@[simp] theorem State.modFlt_egr (f : Faults → Faults) : (s.modFlt f).egr = s.egr := (rfl)
@[simp] theorem State.modFlt_alm (f : Faults → Faults) : (s.modFlt f).alm = s.alm := (rfl)
@[simp] theorem State.modFlt_allots (f : Faults → Faults) : (s.modFlt f).allots = s.allots := (rfl)
@[simp] theorem State.modFlt_irq (f : Faults → Faults) : (s.modFlt f).irq = s.irq := (rfl)
@[simp] theorem State.modFlt_mem (f : Faults → Faults) : (s.modFlt f).mem = s.mem := (rfl)
@[simp] theorem State.modFlt_cal (f : Faults → Faults) : (s.modFlt f).cal = s.cal := (rfl)
@[simp] theorem State.modFlt_gauge (f : Faults → Faults) : (s.modFlt f).gauge = s.gauge := (rfl)
@[simp] theorem State.modFlt_mod (f : Faults → Faults) : (s.modFlt f).mod = s.mod := (rfl)
@[simp] theorem State.modFlt_clk (f : Faults → Faults) : (s.modFlt f).clk = s.clk := (rfl)
@[simp] theorem State.modFlt_boot (f : Faults → Faults) : (s.modFlt f).boot = s.boot := (rfl)

@[simp] theorem State.at_now (t : Nat) : (s.at t).now = t := rfl
@[simp] theorem State.say_answer (st e : Nat) (d : List Byte) :
    (s.say st d e).answer = { status := st, effectAt := e, data := d } := rfl
@[simp] theorem State.emit_emits (e : Emit) : (s.emit e).emits = e :: s.emits := rfl
@[simp] theorem State.refresh_fresh : s.refresh.fresh = s.fresh + 1 := rfl
@[simp] theorem State.modFlt_flt (f : Faults → Faults) : (s.modFlt f).flt = f s.flt := rfl

end Sys2Proof.Machine
end

