-- ==== Sys2Proof/Laws/FramesBase.lean ====
section
/-! SUPPORT. The parts of the state that the basic operations, the interrupt controller, the event rings and the fault records leave alone: one lemma for each operation, by its parts. -/

set_option linter.unusedSimpArgs false

namespace Sys2Proof.Machine

/-! ## Ops.lean -/

/-- Every part of the state that an if answers is the if of the parts. -/
theorem State.ite_kept (c : Prop) [Decidable c] (a b : State) :
    (if c then a else b).now = (if c then a.now else b.now) ∧
    (if c then a else b).pending = (if c then a.pending else b.pending) ∧
    (if c then a else b).answer = (if c then a.answer else b.answer) ∧
    (if c then a else b).emits = (if c then a.emits else b.emits) ∧
    (if c then a else b).fresh = (if c then a.fresh else b.fresh) ∧
    (if c then a else b).links = (if c then a.links else b.links) ∧
    (if c then a else b).shed = (if c then a.shed else b.shed) ∧
    (if c then a else b).copy = (if c then a.copy else b.copy) ∧
    (if c then a else b).fwd = (if c then a.fwd else b.fwd) ∧
    (if c then a else b).rings = (if c then a.rings else b.rings) ∧
    (if c then a else b).str = (if c then a.str else b.str) ∧
    (if c then a else b).egr = (if c then a.egr else b.egr) ∧
    (if c then a else b).alm = (if c then a.alm else b.alm) ∧
    (if c then a else b).allots = (if c then a.allots else b.allots) ∧
    (if c then a else b).irq = (if c then a.irq else b.irq) ∧
    (if c then a else b).mem = (if c then a.mem else b.mem) ∧
    (if c then a else b).flt = (if c then a.flt else b.flt) ∧
    (if c then a else b).cal = (if c then a.cal else b.cal) ∧
    (if c then a else b).gauge = (if c then a.gauge else b.gauge) ∧
    (if c then a else b).mod = (if c then a.mod else b.mod) ∧
    (if c then a else b).clk = (if c then a.clk else b.clk) ∧
    (if c then a else b).boot = (if c then a.boot else b.boot) := by
  split <;> simp
@[simp] theorem ite_exchange (c : Prop) [Decidable c] (a b : Memory) :
    (if c then a else b).exchange = if c then a.exchange else b.exchange := by split <;> rfl
@[simp] theorem ite_areas (c : Prop) [Decidable c] (a b : Memory) :
    (if c then a else b).areas = if c then a.areas else b.areas := by split <;> rfl
@[simp] theorem ite_snd {α β : Type} (c : Prop) [Decidable c] (a b : α × β) :
    (if c then a else b).2 = if c then a.2 else b.2 := by split <;> rfl
@[simp] theorem foldl_now {β : Type} (f : State → β → State) (h : ∀ s x, (f s x).now = s.now) (l : List β)
    (s : State) : (l.foldl f s).now = s.now := by
  induction l generalizing s with
  | nil => rfl
  | cons x r ih => rw [List.foldl_cons, ih, h]
@[simp] theorem foldl_pending {β : Type} (f : State → β → State) (h : ∀ s x, (f s x).pending = s.pending) (l : List β)
    (s : State) : (l.foldl f s).pending = s.pending := by
  induction l generalizing s with
  | nil => rfl
  | cons x r ih => rw [List.foldl_cons, ih, h]
@[simp] theorem foldl_answer {β : Type} (f : State → β → State) (h : ∀ s x, (f s x).answer = s.answer) (l : List β)
    (s : State) : (l.foldl f s).answer = s.answer := by
  induction l generalizing s with
  | nil => rfl
  | cons x r ih => rw [List.foldl_cons, ih, h]
@[simp] theorem foldl_emits {β : Type} (f : State → β → State) (h : ∀ s x, (f s x).emits = s.emits) (l : List β)
    (s : State) : (l.foldl f s).emits = s.emits := by
  induction l generalizing s with
  | nil => rfl
  | cons x r ih => rw [List.foldl_cons, ih, h]
@[simp] theorem foldl_fresh {β : Type} (f : State → β → State) (h : ∀ s x, (f s x).fresh = s.fresh) (l : List β)
    (s : State) : (l.foldl f s).fresh = s.fresh := by
  induction l generalizing s with
  | nil => rfl
  | cons x r ih => rw [List.foldl_cons, ih, h]
@[simp] theorem foldl_links {β : Type} (f : State → β → State) (h : ∀ s x, (f s x).links = s.links) (l : List β)
    (s : State) : (l.foldl f s).links = s.links := by
  induction l generalizing s with
  | nil => rfl
  | cons x r ih => rw [List.foldl_cons, ih, h]
@[simp] theorem foldl_shed {β : Type} (f : State → β → State) (h : ∀ s x, (f s x).shed = s.shed) (l : List β)
    (s : State) : (l.foldl f s).shed = s.shed := by
  induction l generalizing s with
  | nil => rfl
  | cons x r ih => rw [List.foldl_cons, ih, h]
@[simp] theorem foldl_copy {β : Type} (f : State → β → State) (h : ∀ s x, (f s x).copy = s.copy) (l : List β)
    (s : State) : (l.foldl f s).copy = s.copy := by
  induction l generalizing s with
  | nil => rfl
  | cons x r ih => rw [List.foldl_cons, ih, h]
@[simp] theorem foldl_fwd {β : Type} (f : State → β → State) (h : ∀ s x, (f s x).fwd = s.fwd) (l : List β)
    (s : State) : (l.foldl f s).fwd = s.fwd := by
  induction l generalizing s with
  | nil => rfl
  | cons x r ih => rw [List.foldl_cons, ih, h]
@[simp] theorem foldl_rings {β : Type} (f : State → β → State) (h : ∀ s x, (f s x).rings = s.rings) (l : List β)
    (s : State) : (l.foldl f s).rings = s.rings := by
  induction l generalizing s with
  | nil => rfl
  | cons x r ih => rw [List.foldl_cons, ih, h]
@[simp] theorem foldl_str {β : Type} (f : State → β → State) (h : ∀ s x, (f s x).str = s.str) (l : List β)
    (s : State) : (l.foldl f s).str = s.str := by
  induction l generalizing s with
  | nil => rfl
  | cons x r ih => rw [List.foldl_cons, ih, h]
@[simp] theorem foldl_egr {β : Type} (f : State → β → State) (h : ∀ s x, (f s x).egr = s.egr) (l : List β)
    (s : State) : (l.foldl f s).egr = s.egr := by
  induction l generalizing s with
  | nil => rfl
  | cons x r ih => rw [List.foldl_cons, ih, h]
@[simp] theorem foldl_alm {β : Type} (f : State → β → State) (h : ∀ s x, (f s x).alm = s.alm) (l : List β)
    (s : State) : (l.foldl f s).alm = s.alm := by
  induction l generalizing s with
  | nil => rfl
  | cons x r ih => rw [List.foldl_cons, ih, h]
@[simp] theorem foldl_allots {β : Type} (f : State → β → State) (h : ∀ s x, (f s x).allots = s.allots) (l : List β)
    (s : State) : (l.foldl f s).allots = s.allots := by
  induction l generalizing s with
  | nil => rfl
  | cons x r ih => rw [List.foldl_cons, ih, h]
@[simp] theorem foldl_irq {β : Type} (f : State → β → State) (h : ∀ s x, (f s x).irq = s.irq) (l : List β)
    (s : State) : (l.foldl f s).irq = s.irq := by
  induction l generalizing s with
  | nil => rfl
  | cons x r ih => rw [List.foldl_cons, ih, h]
@[simp] theorem foldl_mem {β : Type} (f : State → β → State) (h : ∀ s x, (f s x).mem = s.mem) (l : List β)
    (s : State) : (l.foldl f s).mem = s.mem := by
  induction l generalizing s with
  | nil => rfl
  | cons x r ih => rw [List.foldl_cons, ih, h]
@[simp] theorem foldl_flt {β : Type} (f : State → β → State) (h : ∀ s x, (f s x).flt = s.flt) (l : List β)
    (s : State) : (l.foldl f s).flt = s.flt := by
  induction l generalizing s with
  | nil => rfl
  | cons x r ih => rw [List.foldl_cons, ih, h]
@[simp] theorem foldl_cal {β : Type} (f : State → β → State) (h : ∀ s x, (f s x).cal = s.cal) (l : List β)
    (s : State) : (l.foldl f s).cal = s.cal := by
  induction l generalizing s with
  | nil => rfl
  | cons x r ih => rw [List.foldl_cons, ih, h]
@[simp] theorem foldl_gauge {β : Type} (f : State → β → State) (h : ∀ s x, (f s x).gauge = s.gauge) (l : List β)
    (s : State) : (l.foldl f s).gauge = s.gauge := by
  induction l generalizing s with
  | nil => rfl
  | cons x r ih => rw [List.foldl_cons, ih, h]
@[simp] theorem foldl_mod {β : Type} (f : State → β → State) (h : ∀ s x, (f s x).mod = s.mod) (l : List β)
    (s : State) : (l.foldl f s).mod = s.mod := by
  induction l generalizing s with
  | nil => rfl
  | cons x r ih => rw [List.foldl_cons, ih, h]
@[simp] theorem foldl_clk {β : Type} (f : State → β → State) (h : ∀ s x, (f s x).clk = s.clk) (l : List β)
    (s : State) : (l.foldl f s).clk = s.clk := by
  induction l generalizing s with
  | nil => rfl
  | cons x r ih => rw [List.foldl_cons, ih, h]
@[simp] theorem foldl_boot {β : Type} (f : State → β → State) (h : ∀ s x, (f s x).boot = s.boot) (l : List β)
    (s : State) : (l.foldl f s).boot = s.boot := by
  induction l generalizing s with
  | nil => rfl
  | cons x r ih => rw [List.foldl_cons, ih, h]
@[simp] theorem foldl_exchange {β : Type} (f : State → β → State) (h : ∀ s x, (f s x).mem.exchange = s.mem.exchange) (l : List β)
    (s : State) : (l.foldl f s).mem.exchange = s.mem.exchange := by
  induction l generalizing s with
  | nil => rfl
  | cons x r ih => rw [List.foldl_cons, ih, h]
@[simp] theorem foldl_areas {β : Type} (f : State → β → State) (h : ∀ s x, (f s x).mem.areas = s.mem.areas) (l : List β)
    (s : State) : (l.foldl f s).mem.areas = s.mem.areas := by
  induction l generalizing s with
  | nil => rfl
  | cons x r ih => rw [List.foldl_cons, ih, h]
theorem State.say_kept (s : State) (status : Nat) (data : List Byte) (effectAt : Nat) :
    (s.say status data effectAt).now = s.now ∧ (s.say status data effectAt).pending = s.pending ∧
    (s.say status data effectAt).emits = s.emits ∧ (s.say status data effectAt).fresh = s.fresh ∧
    (s.say status data effectAt).links = s.links ∧ (s.say status data effectAt).shed = s.shed ∧
    (s.say status data effectAt).copy = s.copy ∧ (s.say status data effectAt).fwd = s.fwd ∧
    (s.say status data effectAt).rings = s.rings ∧ (s.say status data effectAt).str = s.str ∧
    (s.say status data effectAt).egr = s.egr ∧ (s.say status data effectAt).alm = s.alm ∧
    (s.say status data effectAt).allots = s.allots ∧ (s.say status data effectAt).irq = s.irq ∧
    (s.say status data effectAt).mem = s.mem ∧ (s.say status data effectAt).flt = s.flt ∧
    (s.say status data effectAt).cal = s.cal ∧ (s.say status data effectAt).gauge = s.gauge ∧
    (s.say status data effectAt).mod = s.mod ∧ (s.say status data effectAt).clk = s.clk ∧
    (s.say status data effectAt).boot = s.boot := by
  simp [State.say]
@[simp] theorem State.emit_kept (s : State) (e : Emit) :
    (s.emit e).now = s.now ∧ (s.emit e).pending = s.pending ∧ (s.emit e).answer = s.answer ∧
    (s.emit e).fresh = s.fresh ∧ (s.emit e).links = s.links ∧ (s.emit e).shed = s.shed ∧ (s.emit e).copy = s.copy ∧
    (s.emit e).fwd = s.fwd ∧ (s.emit e).rings = s.rings ∧ (s.emit e).str = s.str ∧ (s.emit e).egr = s.egr ∧
    (s.emit e).alm = s.alm ∧ (s.emit e).allots = s.allots ∧ (s.emit e).irq = s.irq ∧ (s.emit e).mem = s.mem ∧
    (s.emit e).flt = s.flt ∧ (s.emit e).cal = s.cal ∧ (s.emit e).gauge = s.gauge ∧ (s.emit e).mod = s.mod ∧
    (s.emit e).clk = s.clk ∧ (s.emit e).boot = s.boot := by
  simp [State.emit]
@[simp] theorem State.refresh_kept (s : State) :
    s.refresh.now = s.now ∧ s.refresh.pending = s.pending ∧ s.refresh.answer = s.answer ∧ s.refresh.emits = s.emits ∧
    s.refresh.links = s.links ∧ s.refresh.shed = s.shed ∧ s.refresh.copy = s.copy ∧ s.refresh.fwd = s.fwd ∧
    s.refresh.rings = s.rings ∧ s.refresh.str = s.str ∧ s.refresh.egr = s.egr ∧ s.refresh.alm = s.alm ∧
    s.refresh.allots = s.allots ∧ s.refresh.irq = s.irq ∧ s.refresh.mem = s.mem ∧ s.refresh.flt = s.flt ∧
    s.refresh.cal = s.cal ∧ s.refresh.gauge = s.gauge ∧ s.refresh.mod = s.mod ∧ s.refresh.clk = s.clk ∧
    s.refresh.boot = s.boot := by
  simp [State.refresh]
@[simp] theorem State.modLink_kept (s : State) (m : Nat) (f : Link → Link) :
    (s.modLink m f).now = s.now ∧ (s.modLink m f).pending = s.pending ∧ (s.modLink m f).answer = s.answer ∧
    (s.modLink m f).emits = s.emits ∧ (s.modLink m f).fresh = s.fresh ∧ (s.modLink m f).shed = s.shed ∧
    (s.modLink m f).copy = s.copy ∧ (s.modLink m f).fwd = s.fwd ∧ (s.modLink m f).rings = s.rings ∧
    (s.modLink m f).str = s.str ∧ (s.modLink m f).egr = s.egr ∧ (s.modLink m f).alm = s.alm ∧
    (s.modLink m f).allots = s.allots ∧ (s.modLink m f).irq = s.irq ∧ (s.modLink m f).mem = s.mem ∧
    (s.modLink m f).flt = s.flt ∧ (s.modLink m f).cal = s.cal ∧ (s.modLink m f).gauge = s.gauge ∧
    (s.modLink m f).mod = s.mod ∧ (s.modLink m f).clk = s.clk ∧ (s.modLink m f).boot = s.boot := by
  simp [State.modLink]
@[simp] theorem State.modPort_kept (s : State) (lp : Nat) (f : Port → Port) :
    (s.modPort lp f).now = s.now ∧ (s.modPort lp f).pending = s.pending ∧ (s.modPort lp f).answer = s.answer ∧
    (s.modPort lp f).emits = s.emits ∧ (s.modPort lp f).fresh = s.fresh ∧ (s.modPort lp f).links = s.links ∧
    (s.modPort lp f).shed = s.shed ∧ (s.modPort lp f).copy = s.copy ∧ (s.modPort lp f).rings = s.rings ∧
    (s.modPort lp f).str = s.str ∧ (s.modPort lp f).egr = s.egr ∧ (s.modPort lp f).alm = s.alm ∧
    (s.modPort lp f).allots = s.allots ∧ (s.modPort lp f).irq = s.irq ∧ (s.modPort lp f).mem = s.mem ∧
    (s.modPort lp f).flt = s.flt ∧ (s.modPort lp f).cal = s.cal ∧ (s.modPort lp f).gauge = s.gauge ∧
    (s.modPort lp f).mod = s.mod ∧ (s.modPort lp f).clk = s.clk ∧ (s.modPort lp f).boot = s.boot := by
  simp [State.modPort]
@[simp] theorem State.setBuffer_kept (s : State) (fp : Nat) (l : List InFrame) :
    (s.setBuffer fp l).now = s.now ∧ (s.setBuffer fp l).pending = s.pending ∧ (s.setBuffer fp l).answer = s.answer ∧
    (s.setBuffer fp l).emits = s.emits ∧ (s.setBuffer fp l).fresh = s.fresh ∧ (s.setBuffer fp l).links = s.links ∧
    (s.setBuffer fp l).shed = s.shed ∧ (s.setBuffer fp l).copy = s.copy ∧ (s.setBuffer fp l).rings = s.rings ∧
    (s.setBuffer fp l).str = s.str ∧ (s.setBuffer fp l).egr = s.egr ∧ (s.setBuffer fp l).alm = s.alm ∧
    (s.setBuffer fp l).allots = s.allots ∧ (s.setBuffer fp l).irq = s.irq ∧ (s.setBuffer fp l).mem = s.mem ∧
    (s.setBuffer fp l).flt = s.flt ∧ (s.setBuffer fp l).cal = s.cal ∧ (s.setBuffer fp l).gauge = s.gauge ∧
    (s.setBuffer fp l).mod = s.mod ∧ (s.setBuffer fp l).clk = s.clk ∧ (s.setBuffer fp l).boot = s.boot := by
  simp [State.setBuffer]
@[simp] theorem State.modPipe_kept (s : State) (pl : Nat) (f : Pipeline → Pipeline) :
    (s.modPipe pl f).now = s.now ∧ (s.modPipe pl f).pending = s.pending ∧ (s.modPipe pl f).answer = s.answer ∧
    (s.modPipe pl f).emits = s.emits ∧ (s.modPipe pl f).fresh = s.fresh ∧ (s.modPipe pl f).links = s.links ∧
    (s.modPipe pl f).shed = s.shed ∧ (s.modPipe pl f).copy = s.copy ∧ (s.modPipe pl f).rings = s.rings ∧
    (s.modPipe pl f).str = s.str ∧ (s.modPipe pl f).egr = s.egr ∧ (s.modPipe pl f).alm = s.alm ∧
    (s.modPipe pl f).allots = s.allots ∧ (s.modPipe pl f).irq = s.irq ∧ (s.modPipe pl f).mem = s.mem ∧
    (s.modPipe pl f).flt = s.flt ∧ (s.modPipe pl f).cal = s.cal ∧ (s.modPipe pl f).gauge = s.gauge ∧
    (s.modPipe pl f).mod = s.mod ∧ (s.modPipe pl f).clk = s.clk ∧ (s.modPipe pl f).boot = s.boot := by
  simp [State.modPipe]
@[simp] theorem State.modVlan_kept (s : State) (v : Nat) (f : VlanCounts → VlanCounts) :
    (s.modVlan v f).now = s.now ∧ (s.modVlan v f).pending = s.pending ∧ (s.modVlan v f).answer = s.answer ∧
    (s.modVlan v f).emits = s.emits ∧ (s.modVlan v f).fresh = s.fresh ∧ (s.modVlan v f).links = s.links ∧
    (s.modVlan v f).shed = s.shed ∧ (s.modVlan v f).copy = s.copy ∧ (s.modVlan v f).rings = s.rings ∧
    (s.modVlan v f).str = s.str ∧ (s.modVlan v f).egr = s.egr ∧ (s.modVlan v f).alm = s.alm ∧
    (s.modVlan v f).allots = s.allots ∧ (s.modVlan v f).irq = s.irq ∧ (s.modVlan v f).mem = s.mem ∧
    (s.modVlan v f).flt = s.flt ∧ (s.modVlan v f).cal = s.cal ∧ (s.modVlan v f).gauge = s.gauge ∧
    (s.modVlan v f).mod = s.mod ∧ (s.modVlan v f).clk = s.clk ∧ (s.modVlan v f).boot = s.boot := by
  simp [State.modVlan]
@[simp] theorem State.setDelivery_kept (s : State) (die : Nat) (i : Nat) (w : DeliveryWord) :
    (s.setDelivery die i w).now = s.now ∧ (s.setDelivery die i w).pending = s.pending ∧
    (s.setDelivery die i w).answer = s.answer ∧ (s.setDelivery die i w).emits = s.emits ∧
    (s.setDelivery die i w).fresh = s.fresh ∧ (s.setDelivery die i w).links = s.links ∧
    (s.setDelivery die i w).shed = s.shed ∧ (s.setDelivery die i w).copy = s.copy ∧
    (s.setDelivery die i w).rings = s.rings ∧ (s.setDelivery die i w).str = s.str ∧
    (s.setDelivery die i w).egr = s.egr ∧ (s.setDelivery die i w).alm = s.alm ∧
    (s.setDelivery die i w).allots = s.allots ∧ (s.setDelivery die i w).irq = s.irq ∧
    (s.setDelivery die i w).mem = s.mem ∧ (s.setDelivery die i w).flt = s.flt ∧ (s.setDelivery die i w).cal = s.cal ∧
    (s.setDelivery die i w).gauge = s.gauge ∧ (s.setDelivery die i w).mod = s.mod ∧
    (s.setDelivery die i w).clk = s.clk ∧ (s.setDelivery die i w).boot = s.boot := by
  simp [State.ite_kept .., State.setDelivery]
@[simp] theorem State.setBlock_kept (s : State) (b : Nat) (v : Block) :
    (s.setBlock b v).now = s.now ∧ (s.setBlock b v).pending = s.pending ∧ (s.setBlock b v).answer = s.answer ∧
    (s.setBlock b v).emits = s.emits ∧ (s.setBlock b v).fresh = s.fresh ∧ (s.setBlock b v).links = s.links ∧
    (s.setBlock b v).shed = s.shed ∧ (s.setBlock b v).copy = s.copy ∧ (s.setBlock b v).rings = s.rings ∧
    (s.setBlock b v).str = s.str ∧ (s.setBlock b v).egr = s.egr ∧ (s.setBlock b v).alm = s.alm ∧
    (s.setBlock b v).allots = s.allots ∧ (s.setBlock b v).irq = s.irq ∧ (s.setBlock b v).mem = s.mem ∧
    (s.setBlock b v).flt = s.flt ∧ (s.setBlock b v).cal = s.cal ∧ (s.setBlock b v).gauge = s.gauge ∧
    (s.setBlock b v).mod = s.mod ∧ (s.setBlock b v).clk = s.clk ∧ (s.setBlock b v).boot = s.boot := by
  simp [State.setBlock]
@[simp] theorem State.modRing_kept (s : State) (a : Nat) (n : Nat) (f : Ring → Ring) :
    (s.modRing a n f).now = s.now ∧ (s.modRing a n f).pending = s.pending ∧ (s.modRing a n f).answer = s.answer ∧
    (s.modRing a n f).emits = s.emits ∧ (s.modRing a n f).fresh = s.fresh ∧ (s.modRing a n f).links = s.links ∧
    (s.modRing a n f).shed = s.shed ∧ (s.modRing a n f).copy = s.copy ∧ (s.modRing a n f).fwd = s.fwd ∧
    (s.modRing a n f).str = s.str ∧ (s.modRing a n f).egr = s.egr ∧ (s.modRing a n f).alm = s.alm ∧
    (s.modRing a n f).allots = s.allots ∧ (s.modRing a n f).irq = s.irq ∧ (s.modRing a n f).mem = s.mem ∧
    (s.modRing a n f).flt = s.flt ∧ (s.modRing a n f).cal = s.cal ∧ (s.modRing a n f).gauge = s.gauge ∧
    (s.modRing a n f).mod = s.mod ∧ (s.modRing a n f).clk = s.clk ∧ (s.modRing a n f).boot = s.boot := by
  simp [State.modRing]
@[simp] theorem State.modSlot_kept (s : State) (n : Nat) (f : Slot → Slot) :
    (s.modSlot n f).now = s.now ∧ (s.modSlot n f).pending = s.pending ∧ (s.modSlot n f).answer = s.answer ∧
    (s.modSlot n f).emits = s.emits ∧ (s.modSlot n f).fresh = s.fresh ∧ (s.modSlot n f).links = s.links ∧
    (s.modSlot n f).shed = s.shed ∧ (s.modSlot n f).copy = s.copy ∧ (s.modSlot n f).fwd = s.fwd ∧
    (s.modSlot n f).rings = s.rings ∧ (s.modSlot n f).egr = s.egr ∧ (s.modSlot n f).alm = s.alm ∧
    (s.modSlot n f).allots = s.allots ∧ (s.modSlot n f).irq = s.irq ∧ (s.modSlot n f).mem = s.mem ∧
    (s.modSlot n f).flt = s.flt ∧ (s.modSlot n f).cal = s.cal ∧ (s.modSlot n f).gauge = s.gauge ∧
    (s.modSlot n f).mod = s.mod ∧ (s.modSlot n f).clk = s.clk ∧ (s.modSlot n f).boot = s.boot := by
  simp [State.modSlot]
@[simp] theorem State.modTwin_kept (s : State) (n : Nat) (f : Twin → Twin) :
    (s.modTwin n f).now = s.now ∧ (s.modTwin n f).pending = s.pending ∧ (s.modTwin n f).answer = s.answer ∧
    (s.modTwin n f).emits = s.emits ∧ (s.modTwin n f).fresh = s.fresh ∧ (s.modTwin n f).links = s.links ∧
    (s.modTwin n f).shed = s.shed ∧ (s.modTwin n f).copy = s.copy ∧ (s.modTwin n f).fwd = s.fwd ∧
    (s.modTwin n f).rings = s.rings ∧ (s.modTwin n f).egr = s.egr ∧ (s.modTwin n f).alm = s.alm ∧
    (s.modTwin n f).allots = s.allots ∧ (s.modTwin n f).irq = s.irq ∧ (s.modTwin n f).mem = s.mem ∧
    (s.modTwin n f).flt = s.flt ∧ (s.modTwin n f).cal = s.cal ∧ (s.modTwin n f).gauge = s.gauge ∧
    (s.modTwin n f).mod = s.mod ∧ (s.modTwin n f).clk = s.clk ∧ (s.modTwin n f).boot = s.boot := by
  simp [State.modTwin]
@[simp] theorem State.modFeed_kept (s : State) (n : Nat) (f : Feed → Feed) :
    (s.modFeed n f).now = s.now ∧ (s.modFeed n f).pending = s.pending ∧ (s.modFeed n f).answer = s.answer ∧
    (s.modFeed n f).emits = s.emits ∧ (s.modFeed n f).fresh = s.fresh ∧ (s.modFeed n f).links = s.links ∧
    (s.modFeed n f).shed = s.shed ∧ (s.modFeed n f).copy = s.copy ∧ (s.modFeed n f).fwd = s.fwd ∧
    (s.modFeed n f).rings = s.rings ∧ (s.modFeed n f).egr = s.egr ∧ (s.modFeed n f).alm = s.alm ∧
    (s.modFeed n f).allots = s.allots ∧ (s.modFeed n f).irq = s.irq ∧ (s.modFeed n f).mem = s.mem ∧
    (s.modFeed n f).flt = s.flt ∧ (s.modFeed n f).cal = s.cal ∧ (s.modFeed n f).gauge = s.gauge ∧
    (s.modFeed n f).mod = s.mod ∧ (s.modFeed n f).clk = s.clk ∧ (s.modFeed n f).boot = s.boot := by
  simp [State.modFeed]
@[simp] theorem State.modGroup_kept (s : State) (n : Nat) (f : Group → Group) :
    (s.modGroup n f).now = s.now ∧ (s.modGroup n f).pending = s.pending ∧ (s.modGroup n f).answer = s.answer ∧
    (s.modGroup n f).emits = s.emits ∧ (s.modGroup n f).fresh = s.fresh ∧ (s.modGroup n f).links = s.links ∧
    (s.modGroup n f).shed = s.shed ∧ (s.modGroup n f).copy = s.copy ∧ (s.modGroup n f).fwd = s.fwd ∧
    (s.modGroup n f).rings = s.rings ∧ (s.modGroup n f).egr = s.egr ∧ (s.modGroup n f).alm = s.alm ∧
    (s.modGroup n f).allots = s.allots ∧ (s.modGroup n f).irq = s.irq ∧ (s.modGroup n f).mem = s.mem ∧
    (s.modGroup n f).flt = s.flt ∧ (s.modGroup n f).cal = s.cal ∧ (s.modGroup n f).gauge = s.gauge ∧
    (s.modGroup n f).mod = s.mod ∧ (s.modGroup n f).clk = s.clk ∧ (s.modGroup n f).boot = s.boot := by
  simp [State.modGroup]
@[simp] theorem State.modIntake_kept (s : State) (n : Nat) (f : Intake → Intake) :
    (s.modIntake n f).now = s.now ∧ (s.modIntake n f).pending = s.pending ∧ (s.modIntake n f).answer = s.answer ∧
    (s.modIntake n f).emits = s.emits ∧ (s.modIntake n f).fresh = s.fresh ∧ (s.modIntake n f).links = s.links ∧
    (s.modIntake n f).shed = s.shed ∧ (s.modIntake n f).copy = s.copy ∧ (s.modIntake n f).fwd = s.fwd ∧
    (s.modIntake n f).rings = s.rings ∧ (s.modIntake n f).egr = s.egr ∧ (s.modIntake n f).alm = s.alm ∧
    (s.modIntake n f).allots = s.allots ∧ (s.modIntake n f).irq = s.irq ∧ (s.modIntake n f).mem = s.mem ∧
    (s.modIntake n f).flt = s.flt ∧ (s.modIntake n f).cal = s.cal ∧ (s.modIntake n f).gauge = s.gauge ∧
    (s.modIntake n f).mod = s.mod ∧ (s.modIntake n f).clk = s.clk ∧ (s.modIntake n f).boot = s.boot := by
  simp [State.modIntake]
theorem State.countIntake_kept (s : State) (n : Nat) (i : Nat) (k : Nat) :
    (s.countIntake n i k).now = s.now ∧ (s.countIntake n i k).pending = s.pending ∧
    (s.countIntake n i k).answer = s.answer ∧ (s.countIntake n i k).emits = s.emits ∧
    (s.countIntake n i k).fresh = s.fresh ∧ (s.countIntake n i k).links = s.links ∧
    (s.countIntake n i k).shed = s.shed ∧ (s.countIntake n i k).copy = s.copy ∧ (s.countIntake n i k).fwd = s.fwd ∧
    (s.countIntake n i k).rings = s.rings ∧ (s.countIntake n i k).egr = s.egr ∧ (s.countIntake n i k).alm = s.alm ∧
    (s.countIntake n i k).allots = s.allots ∧ (s.countIntake n i k).irq = s.irq ∧ (s.countIntake n i k).mem = s.mem ∧
    (s.countIntake n i k).flt = s.flt ∧ (s.countIntake n i k).cal = s.cal ∧ (s.countIntake n i k).gauge = s.gauge ∧
    (s.countIntake n i k).mod = s.mod ∧ (s.countIntake n i k).clk = s.clk ∧ (s.countIntake n i k).boot = s.boot := by
  simp [State.modIntake, State.countIntake]
@[simp] theorem State.modOuttake_kept (s : State) (n : Nat) (f : Outtake → Outtake) :
    (s.modOuttake n f).now = s.now ∧ (s.modOuttake n f).pending = s.pending ∧ (s.modOuttake n f).answer = s.answer ∧
    (s.modOuttake n f).emits = s.emits ∧ (s.modOuttake n f).fresh = s.fresh ∧ (s.modOuttake n f).links = s.links ∧
    (s.modOuttake n f).shed = s.shed ∧ (s.modOuttake n f).copy = s.copy ∧ (s.modOuttake n f).fwd = s.fwd ∧
    (s.modOuttake n f).rings = s.rings ∧ (s.modOuttake n f).egr = s.egr ∧ (s.modOuttake n f).alm = s.alm ∧
    (s.modOuttake n f).allots = s.allots ∧ (s.modOuttake n f).irq = s.irq ∧ (s.modOuttake n f).mem = s.mem ∧
    (s.modOuttake n f).flt = s.flt ∧ (s.modOuttake n f).cal = s.cal ∧ (s.modOuttake n f).gauge = s.gauge ∧
    (s.modOuttake n f).mod = s.mod ∧ (s.modOuttake n f).clk = s.clk ∧ (s.modOuttake n f).boot = s.boot := by
  simp [State.modOuttake]
@[simp] theorem State.modBed_kept (s : State) (n : Nat) (f : Bed → Bed) :
    (s.modBed n f).now = s.now ∧ (s.modBed n f).pending = s.pending ∧ (s.modBed n f).answer = s.answer ∧
    (s.modBed n f).emits = s.emits ∧ (s.modBed n f).fresh = s.fresh ∧ (s.modBed n f).links = s.links ∧
    (s.modBed n f).shed = s.shed ∧ (s.modBed n f).copy = s.copy ∧ (s.modBed n f).fwd = s.fwd ∧
    (s.modBed n f).rings = s.rings ∧ (s.modBed n f).egr = s.egr ∧ (s.modBed n f).alm = s.alm ∧
    (s.modBed n f).allots = s.allots ∧ (s.modBed n f).irq = s.irq ∧ (s.modBed n f).mem = s.mem ∧
    (s.modBed n f).flt = s.flt ∧ (s.modBed n f).cal = s.cal ∧ (s.modBed n f).gauge = s.gauge ∧
    (s.modBed n f).mod = s.mod ∧ (s.modBed n f).clk = s.clk ∧ (s.modBed n f).boot = s.boot := by
  simp [State.modBed]
@[simp] theorem State.modQueue_kept (s : State) (q : Nat) (f : Queue → Queue) :
    (s.modQueue q f).now = s.now ∧ (s.modQueue q f).pending = s.pending ∧ (s.modQueue q f).answer = s.answer ∧
    (s.modQueue q f).emits = s.emits ∧ (s.modQueue q f).fresh = s.fresh ∧ (s.modQueue q f).links = s.links ∧
    (s.modQueue q f).shed = s.shed ∧ (s.modQueue q f).copy = s.copy ∧ (s.modQueue q f).fwd = s.fwd ∧
    (s.modQueue q f).rings = s.rings ∧ (s.modQueue q f).str = s.str ∧ (s.modQueue q f).alm = s.alm ∧
    (s.modQueue q f).allots = s.allots ∧ (s.modQueue q f).irq = s.irq ∧ (s.modQueue q f).mem = s.mem ∧
    (s.modQueue q f).flt = s.flt ∧ (s.modQueue q f).cal = s.cal ∧ (s.modQueue q f).gauge = s.gauge ∧
    (s.modQueue q f).mod = s.mod ∧ (s.modQueue q f).clk = s.clk ∧ (s.modQueue q f).boot = s.boot := by
  simp [State.modQueue]
@[simp] theorem State.modQGroup_kept (s : State) (k : Nat) (f : QGroup → QGroup) :
    (s.modQGroup k f).now = s.now ∧ (s.modQGroup k f).pending = s.pending ∧ (s.modQGroup k f).answer = s.answer ∧
    (s.modQGroup k f).emits = s.emits ∧ (s.modQGroup k f).fresh = s.fresh ∧ (s.modQGroup k f).links = s.links ∧
    (s.modQGroup k f).shed = s.shed ∧ (s.modQGroup k f).copy = s.copy ∧ (s.modQGroup k f).fwd = s.fwd ∧
    (s.modQGroup k f).rings = s.rings ∧ (s.modQGroup k f).str = s.str ∧ (s.modQGroup k f).alm = s.alm ∧
    (s.modQGroup k f).allots = s.allots ∧ (s.modQGroup k f).irq = s.irq ∧ (s.modQGroup k f).mem = s.mem ∧
    (s.modQGroup k f).flt = s.flt ∧ (s.modQGroup k f).cal = s.cal ∧ (s.modQGroup k f).gauge = s.gauge ∧
    (s.modQGroup k f).mod = s.mod ∧ (s.modQGroup k f).clk = s.clk ∧ (s.modQGroup k f).boot = s.boot := by
  simp [State.modQGroup]
@[simp] theorem State.modGate_kept (s : State) (lp : Nat) (f : Gate → Gate) :
    (s.modGate lp f).now = s.now ∧ (s.modGate lp f).pending = s.pending ∧ (s.modGate lp f).answer = s.answer ∧
    (s.modGate lp f).emits = s.emits ∧ (s.modGate lp f).fresh = s.fresh ∧ (s.modGate lp f).links = s.links ∧
    (s.modGate lp f).shed = s.shed ∧ (s.modGate lp f).copy = s.copy ∧ (s.modGate lp f).fwd = s.fwd ∧
    (s.modGate lp f).rings = s.rings ∧ (s.modGate lp f).str = s.str ∧ (s.modGate lp f).alm = s.alm ∧
    (s.modGate lp f).allots = s.allots ∧ (s.modGate lp f).irq = s.irq ∧ (s.modGate lp f).mem = s.mem ∧
    (s.modGate lp f).flt = s.flt ∧ (s.modGate lp f).cal = s.cal ∧ (s.modGate lp f).gauge = s.gauge ∧
    (s.modGate lp f).mod = s.mod ∧ (s.modGate lp f).clk = s.clk ∧ (s.modGate lp f).boot = s.boot := by
  simp [State.modGate]
@[simp] theorem State.modPolicer_kept (s : State) (n : Nat) (f : Policer → Policer) :
    (s.modPolicer n f).now = s.now ∧ (s.modPolicer n f).pending = s.pending ∧ (s.modPolicer n f).answer = s.answer ∧
    (s.modPolicer n f).emits = s.emits ∧ (s.modPolicer n f).fresh = s.fresh ∧ (s.modPolicer n f).links = s.links ∧
    (s.modPolicer n f).shed = s.shed ∧ (s.modPolicer n f).copy = s.copy ∧ (s.modPolicer n f).fwd = s.fwd ∧
    (s.modPolicer n f).rings = s.rings ∧ (s.modPolicer n f).str = s.str ∧ (s.modPolicer n f).alm = s.alm ∧
    (s.modPolicer n f).allots = s.allots ∧ (s.modPolicer n f).irq = s.irq ∧ (s.modPolicer n f).mem = s.mem ∧
    (s.modPolicer n f).flt = s.flt ∧ (s.modPolicer n f).cal = s.cal ∧ (s.modPolicer n f).gauge = s.gauge ∧
    (s.modPolicer n f).mod = s.mod ∧ (s.modPolicer n f).clk = s.clk ∧ (s.modPolicer n f).boot = s.boot := by
  simp [State.modPolicer]
@[simp] theorem State.modCells_kept (s : State) (die : Nat) (f : CellStore → CellStore) :
    (s.modCells die f).now = s.now ∧ (s.modCells die f).pending = s.pending ∧ (s.modCells die f).answer = s.answer ∧
    (s.modCells die f).emits = s.emits ∧ (s.modCells die f).fresh = s.fresh ∧ (s.modCells die f).links = s.links ∧
    (s.modCells die f).shed = s.shed ∧ (s.modCells die f).copy = s.copy ∧ (s.modCells die f).fwd = s.fwd ∧
    (s.modCells die f).rings = s.rings ∧ (s.modCells die f).str = s.str ∧ (s.modCells die f).alm = s.alm ∧
    (s.modCells die f).allots = s.allots ∧ (s.modCells die f).irq = s.irq ∧ (s.modCells die f).mem = s.mem ∧
    (s.modCells die f).flt = s.flt ∧ (s.modCells die f).cal = s.cal ∧ (s.modCells die f).gauge = s.gauge ∧
    (s.modCells die f).mod = s.mod ∧ (s.modCells die f).clk = s.clk ∧ (s.modCells die f).boot = s.boot := by
  simp [State.ite_kept .., State.modCells]
@[simp] theorem State.setChain_kept (s : State) (n : Nat) (c : Chain) :
    (s.setChain n c).now = s.now ∧ (s.setChain n c).pending = s.pending ∧ (s.setChain n c).answer = s.answer ∧
    (s.setChain n c).emits = s.emits ∧ (s.setChain n c).fresh = s.fresh ∧ (s.setChain n c).links = s.links ∧
    (s.setChain n c).shed = s.shed ∧ (s.setChain n c).copy = s.copy ∧ (s.setChain n c).fwd = s.fwd ∧
    (s.setChain n c).rings = s.rings ∧ (s.setChain n c).str = s.str ∧ (s.setChain n c).alm = s.alm ∧
    (s.setChain n c).allots = s.allots ∧ (s.setChain n c).irq = s.irq ∧ (s.setChain n c).mem = s.mem ∧
    (s.setChain n c).flt = s.flt ∧ (s.setChain n c).cal = s.cal ∧ (s.setChain n c).gauge = s.gauge ∧
    (s.setChain n c).mod = s.mod ∧ (s.setChain n c).clk = s.clk ∧ (s.setChain n c).boot = s.boot := by
  simp [State.setChain]
@[simp] theorem State.modAllot_kept (s : State) (a : Nat) (f : Allot → Allot) :
    (s.modAllot a f).now = s.now ∧ (s.modAllot a f).pending = s.pending ∧ (s.modAllot a f).answer = s.answer ∧
    (s.modAllot a f).emits = s.emits ∧ (s.modAllot a f).fresh = s.fresh ∧ (s.modAllot a f).links = s.links ∧
    (s.modAllot a f).shed = s.shed ∧ (s.modAllot a f).copy = s.copy ∧ (s.modAllot a f).fwd = s.fwd ∧
    (s.modAllot a f).rings = s.rings ∧ (s.modAllot a f).str = s.str ∧ (s.modAllot a f).egr = s.egr ∧
    (s.modAllot a f).alm = s.alm ∧ (s.modAllot a f).irq = s.irq ∧ (s.modAllot a f).mem = s.mem ∧
    (s.modAllot a f).flt = s.flt ∧ (s.modAllot a f).cal = s.cal ∧ (s.modAllot a f).gauge = s.gauge ∧
    (s.modAllot a f).mod = s.mod ∧ (s.modAllot a f).clk = s.clk ∧ (s.modAllot a f).boot = s.boot := by
  simp [State.modAllot]
theorem State.clamp_kept (s : State) (a : Nat) :
    (s.clamp a).now = s.now ∧ (s.clamp a).pending = s.pending ∧ (s.clamp a).answer = s.answer ∧
    (s.clamp a).emits = s.emits ∧ (s.clamp a).fresh = s.fresh ∧ (s.clamp a).links = s.links ∧
    (s.clamp a).shed = s.shed ∧ (s.clamp a).copy = s.copy ∧ (s.clamp a).fwd = s.fwd ∧ (s.clamp a).rings = s.rings ∧
    (s.clamp a).str = s.str ∧ (s.clamp a).egr = s.egr ∧ (s.clamp a).alm = s.alm ∧ (s.clamp a).irq = s.irq ∧
    (s.clamp a).mem = s.mem ∧ (s.clamp a).flt = s.flt ∧ (s.clamp a).cal = s.cal ∧ (s.clamp a).gauge = s.gauge ∧
    (s.clamp a).mod = s.mod ∧ (s.clamp a).clk = s.clk ∧ (s.clamp a).boot = s.boot := by
  simp [State.modAllot, State.clamp]
theorem State.modMbox_kept (s : State) (a : Nat) (f : Mailbox → Mailbox) :
    (s.modMbox a f).now = s.now ∧ (s.modMbox a f).pending = s.pending ∧ (s.modMbox a f).answer = s.answer ∧
    (s.modMbox a f).emits = s.emits ∧ (s.modMbox a f).fresh = s.fresh ∧ (s.modMbox a f).links = s.links ∧
    (s.modMbox a f).shed = s.shed ∧ (s.modMbox a f).copy = s.copy ∧ (s.modMbox a f).fwd = s.fwd ∧
    (s.modMbox a f).rings = s.rings ∧ (s.modMbox a f).str = s.str ∧ (s.modMbox a f).egr = s.egr ∧
    (s.modMbox a f).alm = s.alm ∧ (s.modMbox a f).irq = s.irq ∧ (s.modMbox a f).mem = s.mem ∧
    (s.modMbox a f).flt = s.flt ∧ (s.modMbox a f).cal = s.cal ∧ (s.modMbox a f).gauge = s.gauge ∧
    (s.modMbox a f).mod = s.mod ∧ (s.modMbox a f).clk = s.clk ∧ (s.modMbox a f).boot = s.boot := by
  simp [State.modAllot, State.modMbox]
theorem State.modHarvest_kept (s : State) (a : Nat) (f : Harvest → Harvest) :
    (s.modHarvest a f).now = s.now ∧ (s.modHarvest a f).pending = s.pending ∧ (s.modHarvest a f).answer = s.answer ∧
    (s.modHarvest a f).emits = s.emits ∧ (s.modHarvest a f).fresh = s.fresh ∧ (s.modHarvest a f).links = s.links ∧
    (s.modHarvest a f).shed = s.shed ∧ (s.modHarvest a f).copy = s.copy ∧ (s.modHarvest a f).fwd = s.fwd ∧
    (s.modHarvest a f).rings = s.rings ∧ (s.modHarvest a f).str = s.str ∧ (s.modHarvest a f).egr = s.egr ∧
    (s.modHarvest a f).alm = s.alm ∧ (s.modHarvest a f).irq = s.irq ∧ (s.modHarvest a f).mem = s.mem ∧
    (s.modHarvest a f).flt = s.flt ∧ (s.modHarvest a f).cal = s.cal ∧ (s.modHarvest a f).gauge = s.gauge ∧
    (s.modHarvest a f).mod = s.mod ∧ (s.modHarvest a f).clk = s.clk ∧ (s.modHarvest a f).boot = s.boot := by
  simp [State.modAllot, State.modHarvest]
@[simp] theorem State.setLatch_kept (s : State) (n : Nat) (l : Latch) :
    (s.setLatch n l).now = s.now ∧ (s.setLatch n l).pending = s.pending ∧ (s.setLatch n l).answer = s.answer ∧
    (s.setLatch n l).emits = s.emits ∧ (s.setLatch n l).fresh = s.fresh ∧ (s.setLatch n l).links = s.links ∧
    (s.setLatch n l).shed = s.shed ∧ (s.setLatch n l).copy = s.copy ∧ (s.setLatch n l).fwd = s.fwd ∧
    (s.setLatch n l).rings = s.rings ∧ (s.setLatch n l).str = s.str ∧ (s.setLatch n l).egr = s.egr ∧
    (s.setLatch n l).allots = s.allots ∧ (s.setLatch n l).irq = s.irq ∧ (s.setLatch n l).mem = s.mem ∧
    (s.setLatch n l).flt = s.flt ∧ (s.setLatch n l).cal = s.cal ∧ (s.setLatch n l).gauge = s.gauge ∧
    (s.setLatch n l).mod = s.mod ∧ (s.setLatch n l).clk = s.clk ∧ (s.setLatch n l).boot = s.boot := by
  simp [State.setLatch]
@[simp] theorem State.modRoute_kept (s : State) (host : Bool) (n : Nat) (f : Route → Route) :
    (s.modRoute host n f).now = s.now ∧ (s.modRoute host n f).pending = s.pending ∧
    (s.modRoute host n f).answer = s.answer ∧ (s.modRoute host n f).emits = s.emits ∧
    (s.modRoute host n f).fresh = s.fresh ∧ (s.modRoute host n f).links = s.links ∧
    (s.modRoute host n f).shed = s.shed ∧ (s.modRoute host n f).copy = s.copy ∧ (s.modRoute host n f).fwd = s.fwd ∧
    (s.modRoute host n f).rings = s.rings ∧ (s.modRoute host n f).str = s.str ∧ (s.modRoute host n f).egr = s.egr ∧
    (s.modRoute host n f).alm = s.alm ∧ (s.modRoute host n f).allots = s.allots ∧ (s.modRoute host n f).mem = s.mem ∧
    (s.modRoute host n f).flt = s.flt ∧ (s.modRoute host n f).cal = s.cal ∧ (s.modRoute host n f).gauge = s.gauge ∧
    (s.modRoute host n f).mod = s.mod ∧ (s.modRoute host n f).clk = s.clk ∧ (s.modRoute host n f).boot = s.boot := by
  simp [State.ite_kept .., State.modRoute]
@[simp] theorem State.modVector_kept (s : State) (t : Nat) (f : Vector → Vector) :
    (s.modVector t f).now = s.now ∧ (s.modVector t f).pending = s.pending ∧ (s.modVector t f).answer = s.answer ∧
    (s.modVector t f).emits = s.emits ∧ (s.modVector t f).fresh = s.fresh ∧ (s.modVector t f).links = s.links ∧
    (s.modVector t f).shed = s.shed ∧ (s.modVector t f).copy = s.copy ∧ (s.modVector t f).fwd = s.fwd ∧
    (s.modVector t f).rings = s.rings ∧ (s.modVector t f).str = s.str ∧ (s.modVector t f).egr = s.egr ∧
    (s.modVector t f).alm = s.alm ∧ (s.modVector t f).allots = s.allots ∧ (s.modVector t f).mem = s.mem ∧
    (s.modVector t f).flt = s.flt ∧ (s.modVector t f).cal = s.cal ∧ (s.modVector t f).gauge = s.gauge ∧
    (s.modVector t f).mod = s.mod ∧ (s.modVector t f).clk = s.clk ∧ (s.modVector t f).boot = s.boot := by
  simp [State.modVector]
@[simp] theorem State.modFunc_kept (s : State) (c : Nat) (f : Msix → Msix) :
    (s.modFunc c f).now = s.now ∧ (s.modFunc c f).pending = s.pending ∧ (s.modFunc c f).answer = s.answer ∧
    (s.modFunc c f).emits = s.emits ∧ (s.modFunc c f).fresh = s.fresh ∧ (s.modFunc c f).links = s.links ∧
    (s.modFunc c f).shed = s.shed ∧ (s.modFunc c f).copy = s.copy ∧ (s.modFunc c f).fwd = s.fwd ∧
    (s.modFunc c f).rings = s.rings ∧ (s.modFunc c f).str = s.str ∧ (s.modFunc c f).egr = s.egr ∧
    (s.modFunc c f).alm = s.alm ∧ (s.modFunc c f).allots = s.allots ∧ (s.modFunc c f).mem = s.mem ∧
    (s.modFunc c f).flt = s.flt ∧ (s.modFunc c f).cal = s.cal ∧ (s.modFunc c f).gauge = s.gauge ∧
    (s.modFunc c f).mod = s.mod ∧ (s.modFunc c f).clk = s.clk ∧ (s.modFunc c f).boot = s.boot := by
  simp [State.modFunc]
@[simp] theorem State.modStack_kept (s : State) (d : Nat) (f : Stack → Stack) :
    (s.modStack d f).now = s.now ∧ (s.modStack d f).pending = s.pending ∧ (s.modStack d f).answer = s.answer ∧
    (s.modStack d f).emits = s.emits ∧ (s.modStack d f).fresh = s.fresh ∧ (s.modStack d f).links = s.links ∧
    (s.modStack d f).shed = s.shed ∧ (s.modStack d f).copy = s.copy ∧ (s.modStack d f).fwd = s.fwd ∧
    (s.modStack d f).rings = s.rings ∧ (s.modStack d f).str = s.str ∧ (s.modStack d f).egr = s.egr ∧
    (s.modStack d f).alm = s.alm ∧ (s.modStack d f).allots = s.allots ∧ (s.modStack d f).irq = s.irq ∧
    (s.modStack d f).flt = s.flt ∧ (s.modStack d f).cal = s.cal ∧ (s.modStack d f).gauge = s.gauge ∧
    (s.modStack d f).mod = s.mod ∧ (s.modStack d f).clk = s.clk ∧ (s.modStack d f).boot = s.boot ∧
    (s.modStack d f).mem.exchange = s.mem.exchange ∧ (s.modStack d f).mem.areas = s.mem.areas := by
  simp [State.modStack]
@[simp] theorem State.modDma_kept (s : State) (c : Nat) (f : Dma → Dma) :
    (s.modDma c f).now = s.now ∧ (s.modDma c f).pending = s.pending ∧ (s.modDma c f).answer = s.answer ∧
    (s.modDma c f).emits = s.emits ∧ (s.modDma c f).fresh = s.fresh ∧ (s.modDma c f).links = s.links ∧
    (s.modDma c f).shed = s.shed ∧ (s.modDma c f).copy = s.copy ∧ (s.modDma c f).fwd = s.fwd ∧
    (s.modDma c f).rings = s.rings ∧ (s.modDma c f).str = s.str ∧ (s.modDma c f).egr = s.egr ∧
    (s.modDma c f).alm = s.alm ∧ (s.modDma c f).allots = s.allots ∧ (s.modDma c f).irq = s.irq ∧
    (s.modDma c f).flt = s.flt ∧ (s.modDma c f).cal = s.cal ∧ (s.modDma c f).gauge = s.gauge ∧
    (s.modDma c f).mod = s.mod ∧ (s.modDma c f).clk = s.clk ∧ (s.modDma c f).boot = s.boot ∧
    (s.modDma c f).mem.exchange = s.mem.exchange ∧ (s.modDma c f).mem.areas = s.mem.areas := by
  simp [State.modDma]
@[simp] theorem State.modSource_kept (s : State) (id : Nat) (f : Source → Source) :
    (s.modSource id f).now = s.now ∧ (s.modSource id f).pending = s.pending ∧ (s.modSource id f).answer = s.answer ∧
    (s.modSource id f).emits = s.emits ∧ (s.modSource id f).fresh = s.fresh ∧ (s.modSource id f).links = s.links ∧
    (s.modSource id f).shed = s.shed ∧ (s.modSource id f).copy = s.copy ∧ (s.modSource id f).fwd = s.fwd ∧
    (s.modSource id f).rings = s.rings ∧ (s.modSource id f).str = s.str ∧ (s.modSource id f).egr = s.egr ∧
    (s.modSource id f).alm = s.alm ∧ (s.modSource id f).allots = s.allots ∧ (s.modSource id f).irq = s.irq ∧
    (s.modSource id f).mem = s.mem ∧ (s.modSource id f).cal = s.cal ∧ (s.modSource id f).gauge = s.gauge ∧
    (s.modSource id f).mod = s.mod ∧ (s.modSource id f).clk = s.clk ∧ (s.modSource id f).boot = s.boot := by
  simp [State.modSource]
@[simp] theorem State.modErrRec_kept (s : State) (r : Nat) (f : ErrRec → ErrRec) :
    (s.modErrRec r f).now = s.now ∧ (s.modErrRec r f).pending = s.pending ∧ (s.modErrRec r f).answer = s.answer ∧
    (s.modErrRec r f).emits = s.emits ∧ (s.modErrRec r f).fresh = s.fresh ∧ (s.modErrRec r f).links = s.links ∧
    (s.modErrRec r f).shed = s.shed ∧ (s.modErrRec r f).copy = s.copy ∧ (s.modErrRec r f).fwd = s.fwd ∧
    (s.modErrRec r f).rings = s.rings ∧ (s.modErrRec r f).str = s.str ∧ (s.modErrRec r f).egr = s.egr ∧
    (s.modErrRec r f).alm = s.alm ∧ (s.modErrRec r f).allots = s.allots ∧ (s.modErrRec r f).irq = s.irq ∧
    (s.modErrRec r f).mem = s.mem ∧ (s.modErrRec r f).cal = s.cal ∧ (s.modErrRec r f).gauge = s.gauge ∧
    (s.modErrRec r f).mod = s.mod ∧ (s.modErrRec r f).clk = s.clk ∧ (s.modErrRec r f).boot = s.boot := by
  simp [State.modErrRec]
@[simp] theorem State.modFlt_kept (s : State) (f : Faults → Faults) :
    (s.modFlt f).now = s.now ∧ (s.modFlt f).pending = s.pending ∧ (s.modFlt f).answer = s.answer ∧
    (s.modFlt f).emits = s.emits ∧ (s.modFlt f).fresh = s.fresh ∧ (s.modFlt f).links = s.links ∧
    (s.modFlt f).shed = s.shed ∧ (s.modFlt f).copy = s.copy ∧ (s.modFlt f).fwd = s.fwd ∧
    (s.modFlt f).rings = s.rings ∧ (s.modFlt f).str = s.str ∧ (s.modFlt f).egr = s.egr ∧ (s.modFlt f).alm = s.alm ∧
    (s.modFlt f).allots = s.allots ∧ (s.modFlt f).irq = s.irq ∧ (s.modFlt f).mem = s.mem ∧ (s.modFlt f).cal = s.cal ∧
    (s.modFlt f).gauge = s.gauge ∧ (s.modFlt f).mod = s.mod ∧ (s.modFlt f).clk = s.clk ∧
    (s.modFlt f).boot = s.boot := by
  simp [State.modFlt]
@[simp] theorem State.modPair_kept (s : State) (p : Nat) (f : PairTrim → PairTrim) :
    (s.modPair p f).now = s.now ∧ (s.modPair p f).pending = s.pending ∧ (s.modPair p f).answer = s.answer ∧
    (s.modPair p f).emits = s.emits ∧ (s.modPair p f).fresh = s.fresh ∧ (s.modPair p f).links = s.links ∧
    (s.modPair p f).shed = s.shed ∧ (s.modPair p f).copy = s.copy ∧ (s.modPair p f).fwd = s.fwd ∧
    (s.modPair p f).rings = s.rings ∧ (s.modPair p f).str = s.str ∧ (s.modPair p f).egr = s.egr ∧
    (s.modPair p f).alm = s.alm ∧ (s.modPair p f).allots = s.allots ∧ (s.modPair p f).irq = s.irq ∧
    (s.modPair p f).mem = s.mem ∧ (s.modPair p f).flt = s.flt ∧ (s.modPair p f).gauge = s.gauge ∧
    (s.modPair p f).mod = s.mod ∧ (s.modPair p f).clk = s.clk ∧ (s.modPair p f).boot = s.boot := by
  simp [State.modPair]
@[simp] theorem State.modSensor_kept (s : State) (n : Nat) (f : Sensor → Sensor) :
    (s.modSensor n f).now = s.now ∧ (s.modSensor n f).pending = s.pending ∧ (s.modSensor n f).answer = s.answer ∧
    (s.modSensor n f).emits = s.emits ∧ (s.modSensor n f).fresh = s.fresh ∧ (s.modSensor n f).links = s.links ∧
    (s.modSensor n f).shed = s.shed ∧ (s.modSensor n f).copy = s.copy ∧ (s.modSensor n f).fwd = s.fwd ∧
    (s.modSensor n f).rings = s.rings ∧ (s.modSensor n f).str = s.str ∧ (s.modSensor n f).egr = s.egr ∧
    (s.modSensor n f).alm = s.alm ∧ (s.modSensor n f).allots = s.allots ∧ (s.modSensor n f).irq = s.irq ∧
    (s.modSensor n f).mem = s.mem ∧ (s.modSensor n f).flt = s.flt ∧ (s.modSensor n f).gauge = s.gauge ∧
    (s.modSensor n f).mod = s.mod ∧ (s.modSensor n f).clk = s.clk ∧ (s.modSensor n f).boot = s.boot := by
  simp [State.modSensor]
@[simp] theorem State.modGpi_kept (s : State) (g : Nat) (f : Gpi → Gpi) :
    (s.modGpi g f).now = s.now ∧ (s.modGpi g f).pending = s.pending ∧ (s.modGpi g f).answer = s.answer ∧
    (s.modGpi g f).emits = s.emits ∧ (s.modGpi g f).fresh = s.fresh ∧ (s.modGpi g f).links = s.links ∧
    (s.modGpi g f).shed = s.shed ∧ (s.modGpi g f).copy = s.copy ∧ (s.modGpi g f).fwd = s.fwd ∧
    (s.modGpi g f).rings = s.rings ∧ (s.modGpi g f).str = s.str ∧ (s.modGpi g f).egr = s.egr ∧
    (s.modGpi g f).alm = s.alm ∧ (s.modGpi g f).allots = s.allots ∧ (s.modGpi g f).irq = s.irq ∧
    (s.modGpi g f).mem = s.mem ∧ (s.modGpi g f).flt = s.flt ∧ (s.modGpi g f).cal = s.cal ∧
    (s.modGpi g f).gauge = s.gauge ∧ (s.modGpi g f).clk = s.clk ∧ (s.modGpi g f).boot = s.boot := by
  simp [State.modGpi]
@[simp] theorem State.modGpo_kept (s : State) (g : Nat) (f : Gpo → Gpo) :
    (s.modGpo g f).now = s.now ∧ (s.modGpo g f).pending = s.pending ∧ (s.modGpo g f).answer = s.answer ∧
    (s.modGpo g f).emits = s.emits ∧ (s.modGpo g f).fresh = s.fresh ∧ (s.modGpo g f).links = s.links ∧
    (s.modGpo g f).shed = s.shed ∧ (s.modGpo g f).copy = s.copy ∧ (s.modGpo g f).fwd = s.fwd ∧
    (s.modGpo g f).rings = s.rings ∧ (s.modGpo g f).str = s.str ∧ (s.modGpo g f).egr = s.egr ∧
    (s.modGpo g f).alm = s.alm ∧ (s.modGpo g f).allots = s.allots ∧ (s.modGpo g f).irq = s.irq ∧
    (s.modGpo g f).mem = s.mem ∧ (s.modGpo g f).flt = s.flt ∧ (s.modGpo g f).cal = s.cal ∧
    (s.modGpo g f).gauge = s.gauge ∧ (s.modGpo g f).clk = s.clk ∧ (s.modGpo g f).boot = s.boot := by
  simp [State.modGpo]
@[simp] theorem State.setRail_kept (s : State) (r : Nat) (v : Nat) :
    (s.setRail r v).now = s.now ∧ (s.setRail r v).pending = s.pending ∧ (s.setRail r v).answer = s.answer ∧
    (s.setRail r v).emits = s.emits ∧ (s.setRail r v).fresh = s.fresh ∧ (s.setRail r v).links = s.links ∧
    (s.setRail r v).shed = s.shed ∧ (s.setRail r v).copy = s.copy ∧ (s.setRail r v).fwd = s.fwd ∧
    (s.setRail r v).rings = s.rings ∧ (s.setRail r v).str = s.str ∧ (s.setRail r v).egr = s.egr ∧
    (s.setRail r v).alm = s.alm ∧ (s.setRail r v).allots = s.allots ∧ (s.setRail r v).irq = s.irq ∧
    (s.setRail r v).mem = s.mem ∧ (s.setRail r v).flt = s.flt ∧ (s.setRail r v).cal = s.cal ∧
    (s.setRail r v).gauge = s.gauge ∧ (s.setRail r v).clk = s.clk ∧ (s.setRail r v).boot = s.boot := by
  simp [State.setRail]
@[simp] theorem State.setPower_kept (s : State) (b : Nat) (v : Nat) :
    (s.setPower b v).now = s.now ∧ (s.setPower b v).pending = s.pending ∧ (s.setPower b v).answer = s.answer ∧
    (s.setPower b v).emits = s.emits ∧ (s.setPower b v).fresh = s.fresh ∧ (s.setPower b v).links = s.links ∧
    (s.setPower b v).shed = s.shed ∧ (s.setPower b v).copy = s.copy ∧ (s.setPower b v).fwd = s.fwd ∧
    (s.setPower b v).rings = s.rings ∧ (s.setPower b v).str = s.str ∧ (s.setPower b v).egr = s.egr ∧
    (s.setPower b v).alm = s.alm ∧ (s.setPower b v).allots = s.allots ∧ (s.setPower b v).irq = s.irq ∧
    (s.setPower b v).mem = s.mem ∧ (s.setPower b v).flt = s.flt ∧ (s.setPower b v).cal = s.cal ∧
    (s.setPower b v).gauge = s.gauge ∧ (s.setPower b v).mod = s.mod ∧ (s.setPower b v).boot = s.boot := by
  simp [State.ite_kept .., State.setPower]
@[simp] theorem State.modPtpPort_kept (s : State) (lp : Nat) (f : PtpPort → PtpPort) :
    (s.modPtpPort lp f).now = s.now ∧ (s.modPtpPort lp f).pending = s.pending ∧
    (s.modPtpPort lp f).answer = s.answer ∧ (s.modPtpPort lp f).emits = s.emits ∧
    (s.modPtpPort lp f).fresh = s.fresh ∧ (s.modPtpPort lp f).links = s.links ∧ (s.modPtpPort lp f).shed = s.shed ∧
    (s.modPtpPort lp f).copy = s.copy ∧ (s.modPtpPort lp f).fwd = s.fwd ∧ (s.modPtpPort lp f).rings = s.rings ∧
    (s.modPtpPort lp f).str = s.str ∧ (s.modPtpPort lp f).egr = s.egr ∧ (s.modPtpPort lp f).alm = s.alm ∧
    (s.modPtpPort lp f).allots = s.allots ∧ (s.modPtpPort lp f).irq = s.irq ∧ (s.modPtpPort lp f).mem = s.mem ∧
    (s.modPtpPort lp f).flt = s.flt ∧ (s.modPtpPort lp f).cal = s.cal ∧ (s.modPtpPort lp f).gauge = s.gauge ∧
    (s.modPtpPort lp f).mod = s.mod ∧ (s.modPtpPort lp f).boot = s.boot := by
  simp [State.modPtpPort]

/-! ## Entries.lean -/

theorem State.setCfg_kept (s : State) (fam : Nat) (inst : Nat) (mem : Nat) (v : List Byte) :
    (s.setCfg fam inst mem v).now = s.now ∧ (s.setCfg fam inst mem v).pending = s.pending ∧
    (s.setCfg fam inst mem v).answer = s.answer ∧ (s.setCfg fam inst mem v).emits = s.emits ∧
    (s.setCfg fam inst mem v).fresh = s.fresh ∧ (s.setCfg fam inst mem v).links = s.links ∧
    (s.setCfg fam inst mem v).shed = s.shed ∧ (s.setCfg fam inst mem v).copy = s.copy ∧
    (s.setCfg fam inst mem v).fwd = s.fwd ∧ (s.setCfg fam inst mem v).rings = s.rings ∧
    (s.setCfg fam inst mem v).str = s.str ∧ (s.setCfg fam inst mem v).egr = s.egr ∧
    (s.setCfg fam inst mem v).allots = s.allots ∧ (s.setCfg fam inst mem v).irq = s.irq ∧
    (s.setCfg fam inst mem v).mem = s.mem ∧ (s.setCfg fam inst mem v).flt = s.flt ∧
    (s.setCfg fam inst mem v).cal = s.cal ∧ (s.setCfg fam inst mem v).gauge = s.gauge ∧
    (s.setCfg fam inst mem v).mod = s.mod ∧ (s.setCfg fam inst mem v).clk = s.clk ∧
    (s.setCfg fam inst mem v).boot = s.boot := by
  simp [State.setCfg]
theorem State.setCfgN_kept (s : State) (fam : Nat) (inst : Nat) (mem : Nat) (w : Nat) (v : Nat) :
    (s.setCfgN fam inst mem w v).now = s.now ∧ (s.setCfgN fam inst mem w v).pending = s.pending ∧
    (s.setCfgN fam inst mem w v).answer = s.answer ∧ (s.setCfgN fam inst mem w v).emits = s.emits ∧
    (s.setCfgN fam inst mem w v).fresh = s.fresh ∧ (s.setCfgN fam inst mem w v).links = s.links ∧
    (s.setCfgN fam inst mem w v).shed = s.shed ∧ (s.setCfgN fam inst mem w v).copy = s.copy ∧
    (s.setCfgN fam inst mem w v).fwd = s.fwd ∧ (s.setCfgN fam inst mem w v).rings = s.rings ∧
    (s.setCfgN fam inst mem w v).str = s.str ∧ (s.setCfgN fam inst mem w v).egr = s.egr ∧
    (s.setCfgN fam inst mem w v).allots = s.allots ∧ (s.setCfgN fam inst mem w v).irq = s.irq ∧
    (s.setCfgN fam inst mem w v).mem = s.mem ∧ (s.setCfgN fam inst mem w v).flt = s.flt ∧
    (s.setCfgN fam inst mem w v).cal = s.cal ∧ (s.setCfgN fam inst mem w v).gauge = s.gauge ∧
    (s.setCfgN fam inst mem w v).mod = s.mod ∧ (s.setCfgN fam inst mem w v).clk = s.clk ∧
    (s.setCfgN fam inst mem w v).boot = s.boot := by
  simp [State.setCfgN, State.setCfg_kept ..]

/-! ## Interrupts.lean -/

theorem State.notify_kept (s : State) (t : Nat) :
    (s.notify t).now = s.now ∧ (s.notify t).pending = s.pending ∧ (s.notify t).answer = s.answer ∧
    (s.notify t).fresh = s.fresh ∧ (s.notify t).links = s.links ∧ (s.notify t).shed = s.shed ∧
    (s.notify t).copy = s.copy ∧ (s.notify t).fwd = s.fwd ∧ (s.notify t).rings = s.rings ∧ (s.notify t).str = s.str ∧
    (s.notify t).egr = s.egr ∧ (s.notify t).alm = s.alm ∧ (s.notify t).allots = s.allots ∧ (s.notify t).mem = s.mem ∧
    (s.notify t).flt = s.flt ∧ (s.notify t).cal = s.cal ∧ (s.notify t).gauge = s.gauge ∧ (s.notify t).mod = s.mod ∧
    (s.notify t).clk = s.clk ∧ (s.notify t).boot = s.boot := by
  simp [State.ite_kept .., State.emit, State.modVector, State.notify]
theorem State.notifyAll_kept (s : State) :
    s.notifyAll.now = s.now ∧ s.notifyAll.pending = s.pending ∧ s.notifyAll.answer = s.answer ∧
    s.notifyAll.fresh = s.fresh ∧ s.notifyAll.links = s.links ∧ s.notifyAll.shed = s.shed ∧
    s.notifyAll.copy = s.copy ∧ s.notifyAll.fwd = s.fwd ∧ s.notifyAll.rings = s.rings ∧ s.notifyAll.str = s.str ∧
    s.notifyAll.egr = s.egr ∧ s.notifyAll.alm = s.alm ∧ s.notifyAll.allots = s.allots ∧ s.notifyAll.mem = s.mem ∧
    s.notifyAll.flt = s.flt ∧ s.notifyAll.cal = s.cal ∧ s.notifyAll.gauge = s.gauge ∧ s.notifyAll.mod = s.mod ∧
    s.notifyAll.clk = s.clk ∧ s.notifyAll.boot = s.boot := by
  simp [State.ite_kept .., State.notifyAll, State.notify_kept ..]
theorem State.noteRaise_kept (s : State) (n : Nat) :
    (s.noteRaise n).now = s.now ∧ (s.noteRaise n).pending = s.pending ∧ (s.noteRaise n).answer = s.answer ∧
    (s.noteRaise n).emits = s.emits ∧ (s.noteRaise n).fresh = s.fresh ∧ (s.noteRaise n).links = s.links ∧
    (s.noteRaise n).shed = s.shed ∧ (s.noteRaise n).copy = s.copy ∧ (s.noteRaise n).fwd = s.fwd ∧
    (s.noteRaise n).rings = s.rings ∧ (s.noteRaise n).str = s.str ∧ (s.noteRaise n).egr = s.egr ∧
    (s.noteRaise n).alm = s.alm ∧ (s.noteRaise n).allots = s.allots ∧ (s.noteRaise n).mem = s.mem ∧
    (s.noteRaise n).flt = s.flt ∧ (s.noteRaise n).cal = s.cal ∧ (s.noteRaise n).gauge = s.gauge ∧
    (s.noteRaise n).mod = s.mod ∧ (s.noteRaise n).clk = s.clk ∧ (s.noteRaise n).boot = s.boot := by
  simp [State.ite_kept .., State.noteRaise]
theorem State.raise_kept (s : State) (n : Nat) :
    (s.raise n).now = s.now ∧ (s.raise n).pending = s.pending ∧ (s.raise n).answer = s.answer ∧
    (s.raise n).fresh = s.fresh ∧ (s.raise n).links = s.links ∧ (s.raise n).shed = s.shed ∧
    (s.raise n).copy = s.copy ∧ (s.raise n).fwd = s.fwd ∧ (s.raise n).rings = s.rings ∧ (s.raise n).str = s.str ∧
    (s.raise n).egr = s.egr ∧ (s.raise n).alm = s.alm ∧ (s.raise n).mem = s.mem ∧ (s.raise n).flt = s.flt ∧
    (s.raise n).cal = s.cal ∧ (s.raise n).gauge = s.gauge ∧ (s.raise n).mod = s.mod ∧ (s.raise n).clk = s.clk ∧
    (s.raise n).boot = s.boot := by
  simp only [State.raise]; (repeat' split) <;> simp [State.ite_kept .., State.modAllot, State.modRoute,
  State.noteRaise_kept .., State.notifyAll_kept ..]
theorem State.claimBy_kept (s : State) (t : Nat) :
    (s.claimBy t).2.now = s.now ∧ (s.claimBy t).2.pending = s.pending ∧ (s.claimBy t).2.answer = s.answer ∧
    (s.claimBy t).2.fresh = s.fresh ∧ (s.claimBy t).2.links = s.links ∧ (s.claimBy t).2.shed = s.shed ∧
    (s.claimBy t).2.copy = s.copy ∧ (s.claimBy t).2.fwd = s.fwd ∧ (s.claimBy t).2.rings = s.rings ∧
    (s.claimBy t).2.str = s.str ∧ (s.claimBy t).2.egr = s.egr ∧ (s.claimBy t).2.alm = s.alm ∧
    (s.claimBy t).2.allots = s.allots ∧ (s.claimBy t).2.mem = s.mem ∧ (s.claimBy t).2.flt = s.flt ∧
    (s.claimBy t).2.cal = s.cal ∧ (s.claimBy t).2.gauge = s.gauge ∧ (s.claimBy t).2.mod = s.mod ∧
    (s.claimBy t).2.clk = s.clk ∧ (s.claimBy t).2.boot = s.boot := by
  simp only [State.claimBy]; split <;> simp [State.modVector, State.notifyAll_kept ..]
theorem State.completeBy_kept (s : State) (t : Nat) (n : Nat) :
    (s.completeBy t n).now = s.now ∧ (s.completeBy t n).pending = s.pending ∧ (s.completeBy t n).answer = s.answer ∧
    (s.completeBy t n).fresh = s.fresh ∧ (s.completeBy t n).links = s.links ∧ (s.completeBy t n).shed = s.shed ∧
    (s.completeBy t n).copy = s.copy ∧ (s.completeBy t n).fwd = s.fwd ∧ (s.completeBy t n).rings = s.rings ∧
    (s.completeBy t n).str = s.str ∧ (s.completeBy t n).egr = s.egr ∧ (s.completeBy t n).alm = s.alm ∧
    (s.completeBy t n).allots = s.allots ∧ (s.completeBy t n).mem = s.mem ∧ (s.completeBy t n).flt = s.flt ∧
    (s.completeBy t n).cal = s.cal ∧ (s.completeBy t n).gauge = s.gauge ∧ (s.completeBy t n).mod = s.mod ∧
    (s.completeBy t n).clk = s.clk ∧ (s.completeBy t n).boot = s.boot := by
  simp [State.ite_kept .., State.modVector, State.completeBy, State.notifyAll_kept ..]
theorem State.clearSource_kept (s : State) (n : Nat) :
    (s.clearSource n).now = s.now ∧ (s.clearSource n).pending = s.pending ∧ (s.clearSource n).answer = s.answer ∧
    (s.clearSource n).fresh = s.fresh ∧ (s.clearSource n).links = s.links ∧ (s.clearSource n).shed = s.shed ∧
    (s.clearSource n).copy = s.copy ∧ (s.clearSource n).fwd = s.fwd ∧ (s.clearSource n).rings = s.rings ∧
    (s.clearSource n).str = s.str ∧ (s.clearSource n).egr = s.egr ∧ (s.clearSource n).alm = s.alm ∧
    (s.clearSource n).allots = s.allots ∧ (s.clearSource n).mem = s.mem ∧ (s.clearSource n).flt = s.flt ∧
    (s.clearSource n).cal = s.cal ∧ (s.clearSource n).gauge = s.gauge ∧ (s.clearSource n).mod = s.mod ∧
    (s.clearSource n).clk = s.clk ∧ (s.clearSource n).boot = s.boot := by
  simp [State.ite_kept .., State.clearSource, State.notifyAll_kept ..]
theorem State.reowned_kept (s : State) (old : State) :
    (s.reowned old).now = s.now ∧ (s.reowned old).pending = s.pending ∧ (s.reowned old).answer = s.answer ∧
    (s.reowned old).emits = s.emits ∧ (s.reowned old).fresh = s.fresh ∧ (s.reowned old).links = s.links ∧
    (s.reowned old).shed = s.shed ∧ (s.reowned old).copy = s.copy ∧ (s.reowned old).fwd = s.fwd ∧
    (s.reowned old).rings = s.rings ∧ (s.reowned old).str = s.str ∧ (s.reowned old).egr = s.egr ∧
    (s.reowned old).alm = s.alm ∧ (s.reowned old).allots = s.allots ∧ (s.reowned old).mem = s.mem ∧
    (s.reowned old).flt = s.flt ∧ (s.reowned old).cal = s.cal ∧ (s.reowned old).gauge = s.gauge ∧
    (s.reowned old).mod = s.mod ∧ (s.reowned old).clk = s.clk ∧ (s.reowned old).boot = s.boot := by
  simp [State.reowned]
theorem State.shedReturn_kept (s : State) (p : Nat) :
    (s.shedReturn p).now = s.now ∧ (s.shedReturn p).pending = s.pending ∧ (s.shedReturn p).answer = s.answer ∧
    (s.shedReturn p).emits = s.emits ∧ (s.shedReturn p).fresh = s.fresh ∧ (s.shedReturn p).links = s.links ∧
    (s.shedReturn p).shed = s.shed ∧ (s.shedReturn p).copy = s.copy ∧ (s.shedReturn p).fwd = s.fwd ∧
    (s.shedReturn p).rings = s.rings ∧ (s.shedReturn p).str = s.str ∧ (s.shedReturn p).egr = s.egr ∧
    (s.shedReturn p).alm = s.alm ∧ (s.shedReturn p).allots = s.allots ∧ (s.shedReturn p).mem = s.mem ∧
    (s.shedReturn p).flt = s.flt ∧ (s.shedReturn p).cal = s.cal ∧ (s.shedReturn p).gauge = s.gauge ∧
    (s.shedReturn p).mod = s.mod ∧ (s.shedReturn p).clk = s.clk ∧ (s.shedReturn p).boot = s.boot := by
  simp [State.shedReturn]
theorem State.shedClaimBy_kept (s : State) (p : Nat) :
    (s.shedClaimBy p).2.now = s.now ∧ (s.shedClaimBy p).2.pending = s.pending ∧
    (s.shedClaimBy p).2.answer = s.answer ∧ (s.shedClaimBy p).2.emits = s.emits ∧
    (s.shedClaimBy p).2.fresh = s.fresh ∧ (s.shedClaimBy p).2.links = s.links ∧ (s.shedClaimBy p).2.shed = s.shed ∧
    (s.shedClaimBy p).2.copy = s.copy ∧ (s.shedClaimBy p).2.fwd = s.fwd ∧ (s.shedClaimBy p).2.rings = s.rings ∧
    (s.shedClaimBy p).2.str = s.str ∧ (s.shedClaimBy p).2.egr = s.egr ∧ (s.shedClaimBy p).2.alm = s.alm ∧
    (s.shedClaimBy p).2.allots = s.allots ∧ (s.shedClaimBy p).2.mem = s.mem ∧ (s.shedClaimBy p).2.flt = s.flt ∧
    (s.shedClaimBy p).2.cal = s.cal ∧ (s.shedClaimBy p).2.gauge = s.gauge ∧ (s.shedClaimBy p).2.mod = s.mod ∧
    (s.shedClaimBy p).2.clk = s.clk ∧ (s.shedClaimBy p).2.boot = s.boot := by
  simp only [State.shedClaimBy]; split <;> simp
theorem State.shedCompleteBy_kept (s : State) (p : Nat) (n : Nat) :
    (s.shedCompleteBy p n).now = s.now ∧ (s.shedCompleteBy p n).pending = s.pending ∧
    (s.shedCompleteBy p n).answer = s.answer ∧ (s.shedCompleteBy p n).emits = s.emits ∧
    (s.shedCompleteBy p n).fresh = s.fresh ∧ (s.shedCompleteBy p n).links = s.links ∧
    (s.shedCompleteBy p n).shed = s.shed ∧ (s.shedCompleteBy p n).copy = s.copy ∧ (s.shedCompleteBy p n).fwd = s.fwd ∧
    (s.shedCompleteBy p n).rings = s.rings ∧ (s.shedCompleteBy p n).str = s.str ∧ (s.shedCompleteBy p n).egr = s.egr ∧
    (s.shedCompleteBy p n).alm = s.alm ∧ (s.shedCompleteBy p n).allots = s.allots ∧
    (s.shedCompleteBy p n).mem = s.mem ∧ (s.shedCompleteBy p n).flt = s.flt ∧ (s.shedCompleteBy p n).cal = s.cal ∧
    (s.shedCompleteBy p n).gauge = s.gauge ∧ (s.shedCompleteBy p n).mod = s.mod ∧ (s.shedCompleteBy p n).clk = s.clk ∧
    (s.shedCompleteBy p n).boot = s.boot := by
  simp [State.ite_kept .., State.shedCompleteBy]
theorem State.resetView_kept (s : State) (a : Nat) :
    (s.resetView a).now = s.now ∧ (s.resetView a).pending = s.pending ∧ (s.resetView a).answer = s.answer ∧
    (s.resetView a).fresh = s.fresh ∧ (s.resetView a).links = s.links ∧ (s.resetView a).shed = s.shed ∧
    (s.resetView a).copy = s.copy ∧ (s.resetView a).fwd = s.fwd ∧ (s.resetView a).rings = s.rings ∧
    (s.resetView a).str = s.str ∧ (s.resetView a).egr = s.egr ∧ (s.resetView a).alm = s.alm ∧
    (s.resetView a).allots = s.allots ∧ (s.resetView a).mem = s.mem ∧ (s.resetView a).flt = s.flt ∧
    (s.resetView a).cal = s.cal ∧ (s.resetView a).gauge = s.gauge ∧ (s.resetView a).mod = s.mod ∧
    (s.resetView a).clk = s.clk ∧ (s.resetView a).boot = s.boot := by
  simp [State.ite_kept .., State.resetView, State.notifyAll_kept ..]
theorem State.ringCheck_kept (s : State) (old : Ring) (a : Nat) (n : Nat) :
    (s.ringCheck old a n).now = s.now ∧ (s.ringCheck old a n).pending = s.pending ∧
    (s.ringCheck old a n).answer = s.answer ∧ (s.ringCheck old a n).fresh = s.fresh ∧
    (s.ringCheck old a n).links = s.links ∧ (s.ringCheck old a n).shed = s.shed ∧
    (s.ringCheck old a n).copy = s.copy ∧ (s.ringCheck old a n).fwd = s.fwd ∧ (s.ringCheck old a n).rings = s.rings ∧
    (s.ringCheck old a n).str = s.str ∧ (s.ringCheck old a n).egr = s.egr ∧ (s.ringCheck old a n).alm = s.alm ∧
    (s.ringCheck old a n).mem = s.mem ∧ (s.ringCheck old a n).flt = s.flt ∧ (s.ringCheck old a n).cal = s.cal ∧
    (s.ringCheck old a n).gauge = s.gauge ∧ (s.ringCheck old a n).mod = s.mod ∧ (s.ringCheck old a n).clk = s.clk ∧
    (s.ringCheck old a n).boot = s.boot := by
  simp [State.ite_kept .., State.ringCheck, State.raise_kept ..]
theorem State.ringPut_kept (s : State) (a : Nat) (n : Nat) (w : RingWord) :
    (s.ringPut a n w).now = s.now ∧ (s.ringPut a n w).pending = s.pending ∧ (s.ringPut a n w).answer = s.answer ∧
    (s.ringPut a n w).fresh = s.fresh ∧ (s.ringPut a n w).links = s.links ∧ (s.ringPut a n w).shed = s.shed ∧
    (s.ringPut a n w).copy = s.copy ∧ (s.ringPut a n w).fwd = s.fwd ∧ (s.ringPut a n w).str = s.str ∧
    (s.ringPut a n w).egr = s.egr ∧ (s.ringPut a n w).alm = s.alm ∧ (s.ringPut a n w).mem = s.mem ∧
    (s.ringPut a n w).flt = s.flt ∧ (s.ringPut a n w).cal = s.cal ∧ (s.ringPut a n w).gauge = s.gauge ∧
    (s.ringPut a n w).mod = s.mod ∧ (s.ringPut a n w).clk = s.clk ∧ (s.ringPut a n w).boot = s.boot := by
  simp [State.ite_kept .., State.modRing, State.ringPut, State.raise_kept .., State.ringCheck_kept ..]
theorem State.ringMark_kept (s : State) (a : Nat) (n : Nat) :
    (s.ringMark a n).now = s.now ∧ (s.ringMark a n).pending = s.pending ∧ (s.ringMark a n).answer = s.answer ∧
    (s.ringMark a n).fresh = s.fresh ∧ (s.ringMark a n).links = s.links ∧ (s.ringMark a n).shed = s.shed ∧
    (s.ringMark a n).copy = s.copy ∧ (s.ringMark a n).fwd = s.fwd ∧ (s.ringMark a n).str = s.str ∧
    (s.ringMark a n).egr = s.egr ∧ (s.ringMark a n).alm = s.alm ∧ (s.ringMark a n).mem = s.mem ∧
    (s.ringMark a n).flt = s.flt ∧ (s.ringMark a n).cal = s.cal ∧ (s.ringMark a n).gauge = s.gauge ∧
    (s.ringMark a n).mod = s.mod ∧ (s.ringMark a n).clk = s.clk ∧ (s.ringMark a n).boot = s.boot := by
  simp [State.ite_kept .., State.modRing, State.ringMark, State.ringCheck_kept ..]
theorem State.ringConsume_kept (s : State) (a : Nat) (n : Nat) :
    (s.ringConsume a n).now = s.now ∧ (s.ringConsume a n).pending = s.pending ∧
    (s.ringConsume a n).answer = s.answer ∧ (s.ringConsume a n).fresh = s.fresh ∧
    (s.ringConsume a n).links = s.links ∧ (s.ringConsume a n).shed = s.shed ∧ (s.ringConsume a n).copy = s.copy ∧
    (s.ringConsume a n).fwd = s.fwd ∧ (s.ringConsume a n).str = s.str ∧ (s.ringConsume a n).egr = s.egr ∧
    (s.ringConsume a n).alm = s.alm ∧ (s.ringConsume a n).mem = s.mem ∧ (s.ringConsume a n).flt = s.flt ∧
    (s.ringConsume a n).cal = s.cal ∧ (s.ringConsume a n).gauge = s.gauge ∧ (s.ringConsume a n).mod = s.mod ∧
    (s.ringConsume a n).clk = s.clk ∧ (s.ringConsume a n).boot = s.boot := by
  simp only [State.ringConsume]; split <;> simp [State.modRing, State.raise_kept .., State.ringMark_kept ..]
theorem State.ringFlush_kept (s : State) (a : Nat) (n : Nat) :
    (s.ringFlush a n).now = s.now ∧ (s.ringFlush a n).pending = s.pending ∧ (s.ringFlush a n).answer = s.answer ∧
    (s.ringFlush a n).emits = s.emits ∧ (s.ringFlush a n).fresh = s.fresh ∧ (s.ringFlush a n).links = s.links ∧
    (s.ringFlush a n).shed = s.shed ∧ (s.ringFlush a n).copy = s.copy ∧ (s.ringFlush a n).fwd = s.fwd ∧
    (s.ringFlush a n).str = s.str ∧ (s.ringFlush a n).egr = s.egr ∧ (s.ringFlush a n).alm = s.alm ∧
    (s.ringFlush a n).allots = s.allots ∧ (s.ringFlush a n).irq = s.irq ∧ (s.ringFlush a n).mem = s.mem ∧
    (s.ringFlush a n).flt = s.flt ∧ (s.ringFlush a n).cal = s.cal ∧ (s.ringFlush a n).gauge = s.gauge ∧
    (s.ringFlush a n).mod = s.mod ∧ (s.ringFlush a n).clk = s.clk ∧ (s.ringFlush a n).boot = s.boot := by
  simp [State.modRing, State.ringFlush]
theorem State.ringStatusReset_kept (s : State) (a : Nat) (n : Nat) :
    (s.ringStatusReset a n).now = s.now ∧ (s.ringStatusReset a n).pending = s.pending ∧
    (s.ringStatusReset a n).answer = s.answer ∧ (s.ringStatusReset a n).emits = s.emits ∧
    (s.ringStatusReset a n).fresh = s.fresh ∧ (s.ringStatusReset a n).links = s.links ∧
    (s.ringStatusReset a n).shed = s.shed ∧ (s.ringStatusReset a n).copy = s.copy ∧
    (s.ringStatusReset a n).fwd = s.fwd ∧ (s.ringStatusReset a n).str = s.str ∧ (s.ringStatusReset a n).egr = s.egr ∧
    (s.ringStatusReset a n).alm = s.alm ∧ (s.ringStatusReset a n).allots = s.allots ∧
    (s.ringStatusReset a n).irq = s.irq ∧ (s.ringStatusReset a n).mem = s.mem ∧ (s.ringStatusReset a n).flt = s.flt ∧
    (s.ringStatusReset a n).cal = s.cal ∧ (s.ringStatusReset a n).gauge = s.gauge ∧
    (s.ringStatusReset a n).mod = s.mod ∧ (s.ringStatusReset a n).clk = s.clk ∧
    (s.ringStatusReset a n).boot = s.boot := by
  simp [State.modRing, State.ringStatusReset]
theorem State.ringRead_kept (s : State) (a : Nat) (n : Nat) :
    (s.ringRead a n).now = s.now ∧ (s.ringRead a n).pending = s.pending ∧ (s.ringRead a n).answer = s.answer ∧
    (s.ringRead a n).fresh = s.fresh ∧ (s.ringRead a n).links = s.links ∧ (s.ringRead a n).shed = s.shed ∧
    (s.ringRead a n).copy = s.copy ∧ (s.ringRead a n).fwd = s.fwd ∧ (s.ringRead a n).str = s.str ∧
    (s.ringRead a n).egr = s.egr ∧ (s.ringRead a n).alm = s.alm ∧ (s.ringRead a n).mem = s.mem ∧
    (s.ringRead a n).flt = s.flt ∧ (s.ringRead a n).cal = s.cal ∧ (s.ringRead a n).gauge = s.gauge ∧
    (s.ringRead a n).mod = s.mod ∧ (s.ringRead a n).clk = s.clk ∧ (s.ringRead a n).boot = s.boot := by
  simp only [State.ringRead]; split <;> simp [State.modRing, State.raise_kept ..]
theorem State.event_kept (s : State) (a : Nat) (n : Nat) (source : Nat) (kind : Nat) (flags : Nat) (payload : Nat) :
    (s.event a n source kind flags payload).now = s.now ∧
    (s.event a n source kind flags payload).pending = s.pending ∧
    (s.event a n source kind flags payload).answer = s.answer ∧
    (s.event a n source kind flags payload).fresh = s.fresh ∧
    (s.event a n source kind flags payload).links = s.links ∧ (s.event a n source kind flags payload).shed = s.shed ∧
    (s.event a n source kind flags payload).copy = s.copy ∧ (s.event a n source kind flags payload).fwd = s.fwd ∧
    (s.event a n source kind flags payload).str = s.str ∧ (s.event a n source kind flags payload).egr = s.egr ∧
    (s.event a n source kind flags payload).alm = s.alm ∧ (s.event a n source kind flags payload).mem = s.mem ∧
    (s.event a n source kind flags payload).flt = s.flt ∧ (s.event a n source kind flags payload).cal = s.cal ∧
    (s.event a n source kind flags payload).gauge = s.gauge ∧ (s.event a n source kind flags payload).mod = s.mod ∧
    (s.event a n source kind flags payload).clk = s.clk ∧ (s.event a n source kind flags payload).boot = s.boot := by
  simp [State.event, State.ringPut_kept ..]

/-! ## FaultRecords.lean -/

theorem State.recordRaise_kept (s : State) (id : Nat) (forced : Bool) :
    (s.recordRaise id forced).now = s.now ∧ (s.recordRaise id forced).pending = s.pending ∧
    (s.recordRaise id forced).answer = s.answer ∧ (s.recordRaise id forced).fresh = s.fresh ∧
    (s.recordRaise id forced).links = s.links ∧ (s.recordRaise id forced).shed = s.shed ∧
    (s.recordRaise id forced).copy = s.copy ∧ (s.recordRaise id forced).fwd = s.fwd ∧
    (s.recordRaise id forced).rings = s.rings ∧ (s.recordRaise id forced).str = s.str ∧
    (s.recordRaise id forced).egr = s.egr ∧ (s.recordRaise id forced).alm = s.alm ∧
    (s.recordRaise id forced).mem = s.mem ∧ (s.recordRaise id forced).cal = s.cal ∧
    (s.recordRaise id forced).gauge = s.gauge ∧ (s.recordRaise id forced).mod = s.mod ∧
    (s.recordRaise id forced).clk = s.clk ∧ (s.recordRaise id forced).boot = s.boot := by
  simp [State.ite_kept .., State.modErrRec, State.modSource, State.recordRaise, State.raise_kept ..]
theorem State.logFault_kept (s : State) (id : Nat) :
    (s.logFault id).now = s.now ∧ (s.logFault id).pending = s.pending ∧ (s.logFault id).answer = s.answer ∧
    (s.logFault id).fresh = s.fresh ∧ (s.logFault id).links = s.links ∧ (s.logFault id).shed = s.shed ∧
    (s.logFault id).copy = s.copy ∧ (s.logFault id).fwd = s.fwd ∧ (s.logFault id).rings = s.rings ∧
    (s.logFault id).str = s.str ∧ (s.logFault id).egr = s.egr ∧ (s.logFault id).alm = s.alm ∧
    (s.logFault id).mem = s.mem ∧ (s.logFault id).cal = s.cal ∧ (s.logFault id).gauge = s.gauge ∧
    (s.logFault id).mod = s.mod ∧ (s.logFault id).clk = s.clk ∧ (s.logFault id).boot = s.boot := by
  simp [State.ite_kept .., State.logFault, State.recordRaise_kept ..]

end Sys2Proof.Machine
end

