-- ==== Sys2Proof/Laws/Interrupts.lean ====
section
/-! SUPPORT. What signalling and raises can change: the routes, the vectors, the UNROUTED counts and the messages sent; all
other parts of the state stay (13). -/

namespace Sys2Proof.Machine

/-- Two states that differ only where interrupts act: `irq`, `emits`, and the UNROUTED counts of `allots`. -/
structure SameButIrq (s t : State) : Prop where
  now : t.now = s.now
  pending : t.pending = s.pending
  answer : t.answer = s.answer
  fresh : t.fresh = s.fresh
  links : t.links = s.links
  shed : t.shed = s.shed
  copy : t.copy = s.copy
  fwd : t.fwd = s.fwd
  rings : t.rings = s.rings
  str : t.str = s.str
  egr : t.egr = s.egr
  alm : t.alm = s.alm
  mem : t.mem = s.mem
  flt : t.flt = s.flt
  cal : t.cal = s.cal
  gauge : t.gauge = s.gauge
  mod : t.mod = s.mod
  clk : t.clk = s.clk
  boot : t.boot = s.boot
  allot : ∀ a, { t.allot a with unrouted := (s.allot a).unrouted } = s.allot a

theorem SameButIrq.refl (s : State) : SameButIrq s s := by constructor <;> simp
theorem SameButIrq.trans {s t u : State} (h : SameButIrq s t) (k : SameButIrq t u) : SameButIrq s u := by
  constructor
  case allot =>
    intro a
    have h1 := h.allot a
    have h2 := k.allot a
    rw [← h1, ← h2]
  all_goals first
    | rw [k.now, h.now] | rw [k.pending, h.pending] | rw [k.answer, h.answer] | rw [k.fresh, h.fresh]
    | rw [k.links, h.links] | rw [k.shed, h.shed] | rw [k.copy, h.copy] | rw [k.fwd, h.fwd] | rw [k.rings, h.rings]
    | rw [k.str, h.str] | rw [k.egr, h.egr] | rw [k.alm, h.alm] | rw [k.mem, h.mem] | rw [k.flt, h.flt]
    | rw [k.cal, h.cal] | rw [k.gauge, h.gauge] | rw [k.mod, h.mod] | rw [k.clk, h.clk] | rw [k.boot, h.boot]

theorem sameButIrq_modVector (s : State) (t : Nat) (f : Vector → Vector) : SameButIrq s (s.modVector t f) := by
  constructor <;> simp [State.allot]
theorem sameButIrq_modRoute (s : State) (h : Bool) (n : Nat) (f : Route → Route) : SameButIrq s (s.modRoute h n f) := by
  constructor <;> simp [State.allot]
theorem sameButIrq_emit (s : State) (e : Emit) : SameButIrq s (s.emit e) := by constructor <;> simp [State.allot]
theorem sameButIrq_noteRaise (s : State) (n : Nat) : SameButIrq s (s.noteRaise n) := by
  constructor <;> simp [State.noteRaise, State.allot]
theorem sameButIrq_unrouted (s : State) (o n : Nat) :
    SameButIrq s (s.modAllot o (fun a => { a with unrouted := n })) := by
  constructor <;> simp
  intro a; split <;> simp_all

theorem foldl_sameButIrq {α : Type} (f : State → α → State) (hf : ∀ s x, SameButIrq s (f s x)) (l : List α) (s : State) :
    SameButIrq s (l.foldl f s) := by
  induction l generalizing s with
  | nil => exact .refl s
  | cons x r ih => exact (hf s x).trans (ih (f s x))

theorem sameButIrq_notify (s : State) (t : Nat) : SameButIrq s (s.notify t) := by
  simp only [State.notify]
  split
  · exact .refl s
  · split
    · split
      · exact .refl s
      · split
        · exact sameButIrq_modVector ..
        · exact (sameButIrq_modVector ..).trans (sameButIrq_emit ..)
    · split
      · exact sameButIrq_modVector ..
      · exact .refl s
theorem sameButIrq_notifyAll (s : State) : SameButIrq s s.notifyAll := by
  refine foldl_sameButIrq _ (fun s f => ?_) _ s
  split
  · exact foldl_sameButIrq _ (fun s v => sameButIrq_notify s _) _ s
  · exact .refl s
/-- A raise changes nothing but the interrupt controller, the UNROUTED counts and the messages sent (R335, R336, R341). -/
theorem sameButIrq_raise (s : State) (n : Nat) : SameButIrq s (s.raise n) := by
  simp only [State.raise]
  split
  · exact .refl s
  · split
    · exact ((((sameButIrq_unrouted s _ _).trans (sameButIrq_noteRaise ..)).trans (sameButIrq_modRoute ..)).trans
        (sameButIrq_modRoute ..)).trans (sameButIrq_notifyAll _)
    · exact (((sameButIrq_noteRaise ..).trans (sameButIrq_modRoute ..)).trans (sameButIrq_modRoute ..)).trans
        (sameButIrq_notifyAll _)

end Sys2Proof.Machine
end

