-- ==== Sys2Proof/Laws/Access.lean ====
section
/-! SUPPORT. Two states whose parts agree are equal; and what the accessors read after the operations that nearly every
command performs: the step of time, an answer, a message sent, a raise. -/

set_option linter.unusedSimpArgs false

namespace Sys2Proof.Machine

/-- A state is known by its parts. -/
theorem State.parts {s u : State} : u = s ↔
    u.now = s.now ∧ u.pending = s.pending ∧ u.answer = s.answer ∧ u.emits = s.emits ∧
    u.fresh = s.fresh ∧ u.links = s.links ∧ u.shed = s.shed ∧
    u.copy = s.copy ∧ u.fwd = s.fwd ∧ u.rings = s.rings ∧ u.str = s.str ∧ u.egr = s.egr ∧ u.alm = s.alm ∧
    u.allots = s.allots ∧ u.irq = s.irq ∧ u.mem = s.mem ∧ u.flt = s.flt ∧ u.cal = s.cal ∧
    u.gauge = s.gauge ∧ u.mod = s.mod ∧ u.clk = s.clk ∧ u.boot = s.boot := by
  cases s; cases u; simp

/-! ## at -/

@[simp] theorem State.link_at (s : State) (t : Nat) (k : Nat) : (s.at t).link k = s.link k := rfl
@[simp] theorem State.port_at (s : State) (t : Nat) (k : Nat) : (s.at t).port k = s.port k := rfl
@[simp] theorem State.pipe_at (s : State) (t : Nat) (k : Nat) : (s.at t).pipe k = s.pipe k := rfl
@[simp] theorem State.vlan_at (s : State) (t : Nat) (k : Nat) : (s.at t).vlan k = s.vlan k := rfl
@[simp] theorem State.buffer_at (s : State) (t : Nat) (k : Nat) : (s.at t).buffer k = s.buffer k := rfl
@[simp] theorem State.block_at (s : State) (t : Nat) (k : Nat) : (s.at t).block k = s.block k := rfl
@[simp] theorem State.delivery_at (s : State) (t : Nat) (d i : Nat) : (s.at t).delivery d i = s.delivery d i := rfl
@[simp] theorem State.ring_at (s : State) (t : Nat) (a n : Nat) : (s.at t).ring a n = s.ring a n := rfl
@[simp] theorem State.slot_at (s : State) (t : Nat) (k : Nat) : (s.at t).slot k = s.slot k := rfl
@[simp] theorem State.twin_at (s : State) (t : Nat) (k : Nat) : (s.at t).twin k = s.twin k := rfl
@[simp] theorem State.feed_at (s : State) (t : Nat) (k : Nat) : (s.at t).feed k = s.feed k := rfl
@[simp] theorem State.group_at (s : State) (t : Nat) (k : Nat) : (s.at t).group k = s.group k := rfl
@[simp] theorem State.intake_at (s : State) (t : Nat) (k : Nat) : (s.at t).intake k = s.intake k := rfl
@[simp] theorem State.outtake_at (s : State) (t : Nat) (k : Nat) : (s.at t).outtake k = s.outtake k := rfl
@[simp] theorem State.bed_at (s : State) (t : Nat) (k : Nat) : (s.at t).bed k = s.bed k := rfl
@[simp] theorem State.queue_at (s : State) (t : Nat) (k : Nat) : (s.at t).queue k = s.queue k := rfl
@[simp] theorem State.qgroup_at (s : State) (t : Nat) (k : Nat) : (s.at t).qgroup k = s.qgroup k := rfl
@[simp] theorem State.gate_at (s : State) (t : Nat) (k : Nat) : (s.at t).gate k = s.gate k := rfl
@[simp] theorem State.policer_at (s : State) (t : Nat) (k : Nat) : (s.at t).policer k = s.policer k := rfl
@[simp] theorem State.cells_at (s : State) (t : Nat) (d : Nat) : (s.at t).cells d = s.cells d := rfl
@[simp] theorem State.chain_at (s : State) (t : Nat) (k : Nat) : (s.at t).chain k = s.chain k := rfl
@[simp] theorem State.allot_at (s : State) (t : Nat) (a : Nat) : (s.at t).allot a = s.allot a := rfl
@[simp] theorem State.latch_at (s : State) (t : Nat) (k : Nat) : (s.at t).latch k = s.latch k := rfl
@[simp] theorem State.route_at (s : State) (t : Nat) (h : Bool) (n : Nat) : (s.at t).route h n = s.route h n := rfl
@[simp] theorem State.vector_at (s : State) (t : Nat) (k : Nat) : (s.at t).vector k = s.vector k := rfl
@[simp] theorem State.func_at (s : State) (t : Nat) (k : Nat) : (s.at t).func k = s.func k := rfl
@[simp] theorem State.stack_at (s : State) (t : Nat) (k : Nat) : (s.at t).stack k = s.stack k := rfl
@[simp] theorem State.dmaCh_at (s : State) (t : Nat) (k : Nat) : (s.at t).dmaCh k = s.dmaCh k := rfl
@[simp] theorem State.source_at (s : State) (t : Nat) (k : Nat) : (s.at t).source k = s.source k := rfl
@[simp] theorem State.errRec_at (s : State) (t : Nat) (k : Nat) : (s.at t).errRec k = s.errRec k := rfl
@[simp] theorem State.pair_at (s : State) (t : Nat) (k : Nat) : (s.at t).pair k = s.pair k := rfl
@[simp] theorem State.sensor_at (s : State) (t : Nat) (k : Nat) : (s.at t).sensor k = s.sensor k := rfl
@[simp] theorem State.gpi_at (s : State) (t : Nat) (k : Nat) : (s.at t).gpi k = s.gpi k := rfl
@[simp] theorem State.gpo_at (s : State) (t : Nat) (k : Nat) : (s.at t).gpo k = s.gpo k := rfl
@[simp] theorem State.rail_at (s : State) (t : Nat) (k : Nat) : (s.at t).rail k = s.rail k := rfl
@[simp] theorem State.power_at (s : State) (t : Nat) (k : Nat) : (s.at t).power k = s.power k := rfl
@[simp] theorem State.ptpPort_at (s : State) (t : Nat) (k : Nat) : (s.at t).ptpPort k = s.ptpPort k := rfl
@[simp] theorem State.cfg_at (s : State) (t : Nat) (f i m : Nat) : (s.at t).cfg f i m = s.cfg f i m := rfl
@[simp] theorem State.cfgN_at (s : State) (t : Nat) (f i m : Nat) : (s.at t).cfgN f i m = s.cfgN f i m := rfl
@[simp] theorem State.linkOf_at (s : State) (t : Nat) (a : Nat) : (s.at t).linkOf a = s.linkOf a := rfl

/-! ## say -/

@[simp] theorem State.link_say (s : State) (st : Nat) (l : List Byte) (e : Nat) (k : Nat) : (s.say st l e).link k = s.link k := rfl
@[simp] theorem State.port_say (s : State) (st : Nat) (l : List Byte) (e : Nat) (k : Nat) : (s.say st l e).port k = s.port k := rfl
@[simp] theorem State.pipe_say (s : State) (st : Nat) (l : List Byte) (e : Nat) (k : Nat) : (s.say st l e).pipe k = s.pipe k := rfl
@[simp] theorem State.vlan_say (s : State) (st : Nat) (l : List Byte) (e : Nat) (k : Nat) : (s.say st l e).vlan k = s.vlan k := rfl
@[simp] theorem State.buffer_say (s : State) (st : Nat) (l : List Byte) (e : Nat) (k : Nat) : (s.say st l e).buffer k = s.buffer k := rfl
@[simp] theorem State.block_say (s : State) (st : Nat) (l : List Byte) (e : Nat) (k : Nat) : (s.say st l e).block k = s.block k := rfl
@[simp] theorem State.delivery_say (s : State) (st : Nat) (l : List Byte) (e : Nat) (d i : Nat) : (s.say st l e).delivery d i = s.delivery d i := rfl
@[simp] theorem State.ring_say (s : State) (st : Nat) (l : List Byte) (e : Nat) (a n : Nat) : (s.say st l e).ring a n = s.ring a n := rfl
@[simp] theorem State.slot_say (s : State) (st : Nat) (l : List Byte) (e : Nat) (k : Nat) : (s.say st l e).slot k = s.slot k := rfl
@[simp] theorem State.twin_say (s : State) (st : Nat) (l : List Byte) (e : Nat) (k : Nat) : (s.say st l e).twin k = s.twin k := rfl
@[simp] theorem State.feed_say (s : State) (st : Nat) (l : List Byte) (e : Nat) (k : Nat) : (s.say st l e).feed k = s.feed k := rfl
@[simp] theorem State.group_say (s : State) (st : Nat) (l : List Byte) (e : Nat) (k : Nat) : (s.say st l e).group k = s.group k := rfl
@[simp] theorem State.intake_say (s : State) (st : Nat) (l : List Byte) (e : Nat) (k : Nat) : (s.say st l e).intake k = s.intake k := rfl
@[simp] theorem State.outtake_say (s : State) (st : Nat) (l : List Byte) (e : Nat) (k : Nat) : (s.say st l e).outtake k = s.outtake k := rfl
@[simp] theorem State.bed_say (s : State) (st : Nat) (l : List Byte) (e : Nat) (k : Nat) : (s.say st l e).bed k = s.bed k := rfl
@[simp] theorem State.queue_say (s : State) (st : Nat) (l : List Byte) (e : Nat) (k : Nat) : (s.say st l e).queue k = s.queue k := rfl
@[simp] theorem State.qgroup_say (s : State) (st : Nat) (l : List Byte) (e : Nat) (k : Nat) : (s.say st l e).qgroup k = s.qgroup k := rfl
@[simp] theorem State.gate_say (s : State) (st : Nat) (l : List Byte) (e : Nat) (k : Nat) : (s.say st l e).gate k = s.gate k := rfl
@[simp] theorem State.policer_say (s : State) (st : Nat) (l : List Byte) (e : Nat) (k : Nat) : (s.say st l e).policer k = s.policer k := rfl
@[simp] theorem State.cells_say (s : State) (st : Nat) (l : List Byte) (e : Nat) (d : Nat) : (s.say st l e).cells d = s.cells d := rfl
@[simp] theorem State.chain_say (s : State) (st : Nat) (l : List Byte) (e : Nat) (k : Nat) : (s.say st l e).chain k = s.chain k := rfl
@[simp] theorem State.allot_say (s : State) (st : Nat) (l : List Byte) (e : Nat) (a : Nat) : (s.say st l e).allot a = s.allot a := rfl
@[simp] theorem State.latch_say (s : State) (st : Nat) (l : List Byte) (e : Nat) (k : Nat) : (s.say st l e).latch k = s.latch k := rfl
@[simp] theorem State.route_say (s : State) (st : Nat) (l : List Byte) (e : Nat) (h : Bool) (n : Nat) : (s.say st l e).route h n = s.route h n := rfl
@[simp] theorem State.vector_say (s : State) (st : Nat) (l : List Byte) (e : Nat) (k : Nat) : (s.say st l e).vector k = s.vector k := rfl
@[simp] theorem State.func_say (s : State) (st : Nat) (l : List Byte) (e : Nat) (k : Nat) : (s.say st l e).func k = s.func k := rfl
@[simp] theorem State.stack_say (s : State) (st : Nat) (l : List Byte) (e : Nat) (k : Nat) : (s.say st l e).stack k = s.stack k := rfl
@[simp] theorem State.dmaCh_say (s : State) (st : Nat) (l : List Byte) (e : Nat) (k : Nat) : (s.say st l e).dmaCh k = s.dmaCh k := rfl
@[simp] theorem State.source_say (s : State) (st : Nat) (l : List Byte) (e : Nat) (k : Nat) : (s.say st l e).source k = s.source k := rfl
@[simp] theorem State.errRec_say (s : State) (st : Nat) (l : List Byte) (e : Nat) (k : Nat) : (s.say st l e).errRec k = s.errRec k := rfl
@[simp] theorem State.pair_say (s : State) (st : Nat) (l : List Byte) (e : Nat) (k : Nat) : (s.say st l e).pair k = s.pair k := rfl
@[simp] theorem State.sensor_say (s : State) (st : Nat) (l : List Byte) (e : Nat) (k : Nat) : (s.say st l e).sensor k = s.sensor k := rfl
@[simp] theorem State.gpi_say (s : State) (st : Nat) (l : List Byte) (e : Nat) (k : Nat) : (s.say st l e).gpi k = s.gpi k := rfl
@[simp] theorem State.gpo_say (s : State) (st : Nat) (l : List Byte) (e : Nat) (k : Nat) : (s.say st l e).gpo k = s.gpo k := rfl
@[simp] theorem State.rail_say (s : State) (st : Nat) (l : List Byte) (e : Nat) (k : Nat) : (s.say st l e).rail k = s.rail k := rfl
@[simp] theorem State.power_say (s : State) (st : Nat) (l : List Byte) (e : Nat) (k : Nat) : (s.say st l e).power k = s.power k := rfl
@[simp] theorem State.ptpPort_say (s : State) (st : Nat) (l : List Byte) (e : Nat) (k : Nat) : (s.say st l e).ptpPort k = s.ptpPort k := rfl
@[simp] theorem State.cfg_say (s : State) (st : Nat) (l : List Byte) (e : Nat) (f i m : Nat) : (s.say st l e).cfg f i m = s.cfg f i m := rfl
@[simp] theorem State.cfgN_say (s : State) (st : Nat) (l : List Byte) (e : Nat) (f i m : Nat) : (s.say st l e).cfgN f i m = s.cfgN f i m := rfl
@[simp] theorem State.linkOf_say (s : State) (st : Nat) (l : List Byte) (e : Nat) (a : Nat) : (s.say st l e).linkOf a = s.linkOf a := rfl

/-! ## emit -/

@[simp] theorem State.link_emit (s : State) (x : Emit) (k : Nat) : (s.emit x).link k = s.link k := rfl
@[simp] theorem State.port_emit (s : State) (x : Emit) (k : Nat) : (s.emit x).port k = s.port k := rfl
@[simp] theorem State.pipe_emit (s : State) (x : Emit) (k : Nat) : (s.emit x).pipe k = s.pipe k := rfl
@[simp] theorem State.vlan_emit (s : State) (x : Emit) (k : Nat) : (s.emit x).vlan k = s.vlan k := rfl
@[simp] theorem State.buffer_emit (s : State) (x : Emit) (k : Nat) : (s.emit x).buffer k = s.buffer k := rfl
@[simp] theorem State.block_emit (s : State) (x : Emit) (k : Nat) : (s.emit x).block k = s.block k := rfl
@[simp] theorem State.delivery_emit (s : State) (x : Emit) (d i : Nat) : (s.emit x).delivery d i = s.delivery d i := rfl
@[simp] theorem State.ring_emit (s : State) (x : Emit) (a n : Nat) : (s.emit x).ring a n = s.ring a n := rfl
@[simp] theorem State.slot_emit (s : State) (x : Emit) (k : Nat) : (s.emit x).slot k = s.slot k := rfl
@[simp] theorem State.twin_emit (s : State) (x : Emit) (k : Nat) : (s.emit x).twin k = s.twin k := rfl
@[simp] theorem State.feed_emit (s : State) (x : Emit) (k : Nat) : (s.emit x).feed k = s.feed k := rfl
@[simp] theorem State.group_emit (s : State) (x : Emit) (k : Nat) : (s.emit x).group k = s.group k := rfl
@[simp] theorem State.intake_emit (s : State) (x : Emit) (k : Nat) : (s.emit x).intake k = s.intake k := rfl
@[simp] theorem State.outtake_emit (s : State) (x : Emit) (k : Nat) : (s.emit x).outtake k = s.outtake k := rfl
@[simp] theorem State.bed_emit (s : State) (x : Emit) (k : Nat) : (s.emit x).bed k = s.bed k := rfl
@[simp] theorem State.queue_emit (s : State) (x : Emit) (k : Nat) : (s.emit x).queue k = s.queue k := rfl
@[simp] theorem State.qgroup_emit (s : State) (x : Emit) (k : Nat) : (s.emit x).qgroup k = s.qgroup k := rfl
@[simp] theorem State.gate_emit (s : State) (x : Emit) (k : Nat) : (s.emit x).gate k = s.gate k := rfl
@[simp] theorem State.policer_emit (s : State) (x : Emit) (k : Nat) : (s.emit x).policer k = s.policer k := rfl
@[simp] theorem State.cells_emit (s : State) (x : Emit) (d : Nat) : (s.emit x).cells d = s.cells d := rfl
@[simp] theorem State.chain_emit (s : State) (x : Emit) (k : Nat) : (s.emit x).chain k = s.chain k := rfl
@[simp] theorem State.allot_emit (s : State) (x : Emit) (a : Nat) : (s.emit x).allot a = s.allot a := rfl
@[simp] theorem State.latch_emit (s : State) (x : Emit) (k : Nat) : (s.emit x).latch k = s.latch k := rfl
@[simp] theorem State.route_emit (s : State) (x : Emit) (h : Bool) (n : Nat) : (s.emit x).route h n = s.route h n := rfl
@[simp] theorem State.vector_emit (s : State) (x : Emit) (k : Nat) : (s.emit x).vector k = s.vector k := rfl
@[simp] theorem State.func_emit (s : State) (x : Emit) (k : Nat) : (s.emit x).func k = s.func k := rfl
@[simp] theorem State.stack_emit (s : State) (x : Emit) (k : Nat) : (s.emit x).stack k = s.stack k := rfl
@[simp] theorem State.dmaCh_emit (s : State) (x : Emit) (k : Nat) : (s.emit x).dmaCh k = s.dmaCh k := rfl
@[simp] theorem State.source_emit (s : State) (x : Emit) (k : Nat) : (s.emit x).source k = s.source k := rfl
@[simp] theorem State.errRec_emit (s : State) (x : Emit) (k : Nat) : (s.emit x).errRec k = s.errRec k := rfl
@[simp] theorem State.pair_emit (s : State) (x : Emit) (k : Nat) : (s.emit x).pair k = s.pair k := rfl
@[simp] theorem State.sensor_emit (s : State) (x : Emit) (k : Nat) : (s.emit x).sensor k = s.sensor k := rfl
@[simp] theorem State.gpi_emit (s : State) (x : Emit) (k : Nat) : (s.emit x).gpi k = s.gpi k := rfl
@[simp] theorem State.gpo_emit (s : State) (x : Emit) (k : Nat) : (s.emit x).gpo k = s.gpo k := rfl
@[simp] theorem State.rail_emit (s : State) (x : Emit) (k : Nat) : (s.emit x).rail k = s.rail k := rfl
@[simp] theorem State.power_emit (s : State) (x : Emit) (k : Nat) : (s.emit x).power k = s.power k := rfl
@[simp] theorem State.ptpPort_emit (s : State) (x : Emit) (k : Nat) : (s.emit x).ptpPort k = s.ptpPort k := rfl
@[simp] theorem State.cfg_emit (s : State) (x : Emit) (f i m : Nat) : (s.emit x).cfg f i m = s.cfg f i m := rfl
@[simp] theorem State.cfgN_emit (s : State) (x : Emit) (f i m : Nat) : (s.emit x).cfgN f i m = s.cfgN f i m := rfl
@[simp] theorem State.linkOf_emit (s : State) (x : Emit) (a : Nat) : (s.emit x).linkOf a = s.linkOf a := rfl

/-! ## refresh -/

@[simp] theorem State.link_refresh (s : State)  (k : Nat) : s.refresh.link k = s.link k := rfl
@[simp] theorem State.port_refresh (s : State)  (k : Nat) : s.refresh.port k = s.port k := rfl
@[simp] theorem State.pipe_refresh (s : State)  (k : Nat) : s.refresh.pipe k = s.pipe k := rfl
@[simp] theorem State.vlan_refresh (s : State)  (k : Nat) : s.refresh.vlan k = s.vlan k := rfl
@[simp] theorem State.buffer_refresh (s : State)  (k : Nat) : s.refresh.buffer k = s.buffer k := rfl
@[simp] theorem State.block_refresh (s : State)  (k : Nat) : s.refresh.block k = s.block k := rfl
@[simp] theorem State.delivery_refresh (s : State)  (d i : Nat) : s.refresh.delivery d i = s.delivery d i := rfl
@[simp] theorem State.ring_refresh (s : State)  (a n : Nat) : s.refresh.ring a n = s.ring a n := rfl
@[simp] theorem State.slot_refresh (s : State)  (k : Nat) : s.refresh.slot k = s.slot k := rfl
@[simp] theorem State.twin_refresh (s : State)  (k : Nat) : s.refresh.twin k = s.twin k := rfl
@[simp] theorem State.feed_refresh (s : State)  (k : Nat) : s.refresh.feed k = s.feed k := rfl
@[simp] theorem State.group_refresh (s : State)  (k : Nat) : s.refresh.group k = s.group k := rfl
@[simp] theorem State.intake_refresh (s : State)  (k : Nat) : s.refresh.intake k = s.intake k := rfl
@[simp] theorem State.outtake_refresh (s : State)  (k : Nat) : s.refresh.outtake k = s.outtake k := rfl
@[simp] theorem State.bed_refresh (s : State)  (k : Nat) : s.refresh.bed k = s.bed k := rfl
@[simp] theorem State.queue_refresh (s : State)  (k : Nat) : s.refresh.queue k = s.queue k := rfl
@[simp] theorem State.qgroup_refresh (s : State)  (k : Nat) : s.refresh.qgroup k = s.qgroup k := rfl
@[simp] theorem State.gate_refresh (s : State)  (k : Nat) : s.refresh.gate k = s.gate k := rfl
@[simp] theorem State.policer_refresh (s : State)  (k : Nat) : s.refresh.policer k = s.policer k := rfl
@[simp] theorem State.cells_refresh (s : State)  (d : Nat) : s.refresh.cells d = s.cells d := rfl
@[simp] theorem State.chain_refresh (s : State)  (k : Nat) : s.refresh.chain k = s.chain k := rfl
@[simp] theorem State.allot_refresh (s : State)  (a : Nat) : s.refresh.allot a = s.allot a := rfl
@[simp] theorem State.latch_refresh (s : State)  (k : Nat) : s.refresh.latch k = s.latch k := rfl
@[simp] theorem State.route_refresh (s : State)  (h : Bool) (n : Nat) : s.refresh.route h n = s.route h n := rfl
@[simp] theorem State.vector_refresh (s : State)  (k : Nat) : s.refresh.vector k = s.vector k := rfl
@[simp] theorem State.func_refresh (s : State)  (k : Nat) : s.refresh.func k = s.func k := rfl
@[simp] theorem State.stack_refresh (s : State)  (k : Nat) : s.refresh.stack k = s.stack k := rfl
@[simp] theorem State.dmaCh_refresh (s : State)  (k : Nat) : s.refresh.dmaCh k = s.dmaCh k := rfl
@[simp] theorem State.source_refresh (s : State)  (k : Nat) : s.refresh.source k = s.source k := rfl
@[simp] theorem State.errRec_refresh (s : State)  (k : Nat) : s.refresh.errRec k = s.errRec k := rfl
@[simp] theorem State.pair_refresh (s : State)  (k : Nat) : s.refresh.pair k = s.pair k := rfl
@[simp] theorem State.sensor_refresh (s : State)  (k : Nat) : s.refresh.sensor k = s.sensor k := rfl
@[simp] theorem State.gpi_refresh (s : State)  (k : Nat) : s.refresh.gpi k = s.gpi k := rfl
@[simp] theorem State.gpo_refresh (s : State)  (k : Nat) : s.refresh.gpo k = s.gpo k := rfl
@[simp] theorem State.rail_refresh (s : State)  (k : Nat) : s.refresh.rail k = s.rail k := rfl
@[simp] theorem State.power_refresh (s : State)  (k : Nat) : s.refresh.power k = s.power k := rfl
@[simp] theorem State.ptpPort_refresh (s : State)  (k : Nat) : s.refresh.ptpPort k = s.ptpPort k := rfl
@[simp] theorem State.cfg_refresh (s : State)  (f i m : Nat) : s.refresh.cfg f i m = s.cfg f i m := rfl
@[simp] theorem State.cfgN_refresh (s : State)  (f i m : Nat) : s.refresh.cfgN f i m = s.cfgN f i m := rfl
@[simp] theorem State.linkOf_refresh (s : State)  (a : Nat) : s.refresh.linkOf a = s.linkOf a := rfl

/-! ## raise -/

@[simp] theorem State.link_raise (s : State) (x : Nat) (k : Nat) : (s.raise x).link k = s.link k := by simp [State.link, State.raise_kept ..]
@[simp] theorem State.port_raise (s : State) (x : Nat) (k : Nat) : (s.raise x).port k = s.port k := by simp [State.port, State.raise_kept ..]
@[simp] theorem State.pipe_raise (s : State) (x : Nat) (k : Nat) : (s.raise x).pipe k = s.pipe k := by simp [State.pipe, State.raise_kept ..]
@[simp] theorem State.vlan_raise (s : State) (x : Nat) (k : Nat) : (s.raise x).vlan k = s.vlan k := by simp [State.vlan, State.raise_kept ..]
@[simp] theorem State.buffer_raise (s : State) (x : Nat) (k : Nat) : (s.raise x).buffer k = s.buffer k := by simp [State.buffer, State.raise_kept ..]
@[simp] theorem State.block_raise (s : State) (x : Nat) (k : Nat) : (s.raise x).block k = s.block k := by simp [State.block, State.raise_kept ..]
@[simp] theorem State.delivery_raise (s : State) (x : Nat) (d i : Nat) : (s.raise x).delivery d i = s.delivery d i := by simp [State.delivery, State.raise_kept ..]
@[simp] theorem State.ring_raise (s : State) (x : Nat) (a n : Nat) : (s.raise x).ring a n = s.ring a n := by simp [State.ring, State.raise_kept ..]
@[simp] theorem State.slot_raise (s : State) (x : Nat) (k : Nat) : (s.raise x).slot k = s.slot k := by simp [State.slot, State.raise_kept ..]
@[simp] theorem State.twin_raise (s : State) (x : Nat) (k : Nat) : (s.raise x).twin k = s.twin k := by simp [State.twin, State.raise_kept ..]
@[simp] theorem State.feed_raise (s : State) (x : Nat) (k : Nat) : (s.raise x).feed k = s.feed k := by simp [State.feed, State.raise_kept ..]
@[simp] theorem State.group_raise (s : State) (x : Nat) (k : Nat) : (s.raise x).group k = s.group k := by simp [State.group, State.raise_kept ..]
@[simp] theorem State.intake_raise (s : State) (x : Nat) (k : Nat) : (s.raise x).intake k = s.intake k := by simp [State.intake, State.raise_kept ..]
@[simp] theorem State.outtake_raise (s : State) (x : Nat) (k : Nat) : (s.raise x).outtake k = s.outtake k := by simp [State.outtake, State.raise_kept ..]
@[simp] theorem State.bed_raise (s : State) (x : Nat) (k : Nat) : (s.raise x).bed k = s.bed k := by simp [State.bed, State.raise_kept ..]
@[simp] theorem State.queue_raise (s : State) (x : Nat) (k : Nat) : (s.raise x).queue k = s.queue k := by simp [State.queue, State.raise_kept ..]
@[simp] theorem State.qgroup_raise (s : State) (x : Nat) (k : Nat) : (s.raise x).qgroup k = s.qgroup k := by simp [State.qgroup, State.raise_kept ..]
@[simp] theorem State.gate_raise (s : State) (x : Nat) (k : Nat) : (s.raise x).gate k = s.gate k := by simp [State.gate, State.raise_kept ..]
@[simp] theorem State.policer_raise (s : State) (x : Nat) (k : Nat) : (s.raise x).policer k = s.policer k := by simp [State.policer, State.raise_kept ..]
@[simp] theorem State.cells_raise (s : State) (x : Nat) (d : Nat) : (s.raise x).cells d = s.cells d := by simp [State.cells, State.raise_kept ..]
@[simp] theorem State.chain_raise (s : State) (x : Nat) (k : Nat) : (s.raise x).chain k = s.chain k := by simp [State.chain, State.raise_kept ..]
@[simp] theorem State.latch_raise (s : State) (x : Nat) (k : Nat) : (s.raise x).latch k = s.latch k := by simp [State.latch, State.raise_kept ..]
@[simp] theorem State.stack_raise (s : State) (x : Nat) (k : Nat) : (s.raise x).stack k = s.stack k := by simp [State.stack, State.raise_kept ..]
@[simp] theorem State.dmaCh_raise (s : State) (x : Nat) (k : Nat) : (s.raise x).dmaCh k = s.dmaCh k := by simp [State.dmaCh, State.raise_kept ..]
@[simp] theorem State.source_raise (s : State) (x : Nat) (k : Nat) : (s.raise x).source k = s.source k := by simp [State.source, State.raise_kept ..]
@[simp] theorem State.errRec_raise (s : State) (x : Nat) (k : Nat) : (s.raise x).errRec k = s.errRec k := by simp [State.errRec, State.raise_kept ..]
@[simp] theorem State.pair_raise (s : State) (x : Nat) (k : Nat) : (s.raise x).pair k = s.pair k := by simp [State.pair, State.raise_kept ..]
@[simp] theorem State.sensor_raise (s : State) (x : Nat) (k : Nat) : (s.raise x).sensor k = s.sensor k := by simp [State.sensor, State.raise_kept ..]
@[simp] theorem State.gpi_raise (s : State) (x : Nat) (k : Nat) : (s.raise x).gpi k = s.gpi k := by simp [State.gpi, State.raise_kept ..]
@[simp] theorem State.gpo_raise (s : State) (x : Nat) (k : Nat) : (s.raise x).gpo k = s.gpo k := by simp [State.gpo, State.raise_kept ..]
@[simp] theorem State.rail_raise (s : State) (x : Nat) (k : Nat) : (s.raise x).rail k = s.rail k := by simp [State.rail, State.raise_kept ..]
@[simp] theorem State.power_raise (s : State) (x : Nat) (k : Nat) : (s.raise x).power k = s.power k := by simp [State.power, State.raise_kept ..]
@[simp] theorem State.ptpPort_raise (s : State) (x : Nat) (k : Nat) : (s.raise x).ptpPort k = s.ptpPort k := by simp [State.ptpPort, State.raise_kept ..]
@[simp] theorem State.cfg_raise (s : State) (x : Nat) (f i m : Nat) : (s.raise x).cfg f i m = s.cfg f i m := by simp [State.cfg, State.raise_kept ..]
@[simp] theorem State.cfgN_raise (s : State) (x : Nat) (f i m : Nat) : (s.raise x).cfgN f i m = s.cfgN f i m := by simp [State.cfgN, State.cfg, State.raise_kept ..]

/-! ## notify -/

@[simp] theorem State.link_notify (s : State) (x : Nat) (k : Nat) : (s.notify x).link k = s.link k := by simp [State.link, State.notify_kept ..]
@[simp] theorem State.port_notify (s : State) (x : Nat) (k : Nat) : (s.notify x).port k = s.port k := by simp [State.port, State.notify_kept ..]
@[simp] theorem State.pipe_notify (s : State) (x : Nat) (k : Nat) : (s.notify x).pipe k = s.pipe k := by simp [State.pipe, State.notify_kept ..]
@[simp] theorem State.vlan_notify (s : State) (x : Nat) (k : Nat) : (s.notify x).vlan k = s.vlan k := by simp [State.vlan, State.notify_kept ..]
@[simp] theorem State.buffer_notify (s : State) (x : Nat) (k : Nat) : (s.notify x).buffer k = s.buffer k := by simp [State.buffer, State.notify_kept ..]
@[simp] theorem State.block_notify (s : State) (x : Nat) (k : Nat) : (s.notify x).block k = s.block k := by simp [State.block, State.notify_kept ..]
@[simp] theorem State.delivery_notify (s : State) (x : Nat) (d i : Nat) : (s.notify x).delivery d i = s.delivery d i := by simp [State.delivery, State.notify_kept ..]
@[simp] theorem State.ring_notify (s : State) (x : Nat) (a n : Nat) : (s.notify x).ring a n = s.ring a n := by simp [State.ring, State.notify_kept ..]
@[simp] theorem State.slot_notify (s : State) (x : Nat) (k : Nat) : (s.notify x).slot k = s.slot k := by simp [State.slot, State.notify_kept ..]
@[simp] theorem State.twin_notify (s : State) (x : Nat) (k : Nat) : (s.notify x).twin k = s.twin k := by simp [State.twin, State.notify_kept ..]
@[simp] theorem State.feed_notify (s : State) (x : Nat) (k : Nat) : (s.notify x).feed k = s.feed k := by simp [State.feed, State.notify_kept ..]
@[simp] theorem State.group_notify (s : State) (x : Nat) (k : Nat) : (s.notify x).group k = s.group k := by simp [State.group, State.notify_kept ..]
@[simp] theorem State.intake_notify (s : State) (x : Nat) (k : Nat) : (s.notify x).intake k = s.intake k := by simp [State.intake, State.notify_kept ..]
@[simp] theorem State.outtake_notify (s : State) (x : Nat) (k : Nat) : (s.notify x).outtake k = s.outtake k := by simp [State.outtake, State.notify_kept ..]
@[simp] theorem State.bed_notify (s : State) (x : Nat) (k : Nat) : (s.notify x).bed k = s.bed k := by simp [State.bed, State.notify_kept ..]
@[simp] theorem State.queue_notify (s : State) (x : Nat) (k : Nat) : (s.notify x).queue k = s.queue k := by simp [State.queue, State.notify_kept ..]
@[simp] theorem State.qgroup_notify (s : State) (x : Nat) (k : Nat) : (s.notify x).qgroup k = s.qgroup k := by simp [State.qgroup, State.notify_kept ..]
@[simp] theorem State.gate_notify (s : State) (x : Nat) (k : Nat) : (s.notify x).gate k = s.gate k := by simp [State.gate, State.notify_kept ..]
@[simp] theorem State.policer_notify (s : State) (x : Nat) (k : Nat) : (s.notify x).policer k = s.policer k := by simp [State.policer, State.notify_kept ..]
@[simp] theorem State.cells_notify (s : State) (x : Nat) (d : Nat) : (s.notify x).cells d = s.cells d := by simp [State.cells, State.notify_kept ..]
@[simp] theorem State.chain_notify (s : State) (x : Nat) (k : Nat) : (s.notify x).chain k = s.chain k := by simp [State.chain, State.notify_kept ..]
@[simp] theorem State.allot_notify (s : State) (x : Nat) (a : Nat) : (s.notify x).allot a = s.allot a := by simp [State.allot, State.notify_kept ..]
@[simp] theorem State.latch_notify (s : State) (x : Nat) (k : Nat) : (s.notify x).latch k = s.latch k := by simp [State.latch, State.notify_kept ..]
@[simp] theorem State.stack_notify (s : State) (x : Nat) (k : Nat) : (s.notify x).stack k = s.stack k := by simp [State.stack, State.notify_kept ..]
@[simp] theorem State.dmaCh_notify (s : State) (x : Nat) (k : Nat) : (s.notify x).dmaCh k = s.dmaCh k := by simp [State.dmaCh, State.notify_kept ..]
@[simp] theorem State.source_notify (s : State) (x : Nat) (k : Nat) : (s.notify x).source k = s.source k := by simp [State.source, State.notify_kept ..]
@[simp] theorem State.errRec_notify (s : State) (x : Nat) (k : Nat) : (s.notify x).errRec k = s.errRec k := by simp [State.errRec, State.notify_kept ..]
@[simp] theorem State.pair_notify (s : State) (x : Nat) (k : Nat) : (s.notify x).pair k = s.pair k := by simp [State.pair, State.notify_kept ..]
@[simp] theorem State.sensor_notify (s : State) (x : Nat) (k : Nat) : (s.notify x).sensor k = s.sensor k := by simp [State.sensor, State.notify_kept ..]
@[simp] theorem State.gpi_notify (s : State) (x : Nat) (k : Nat) : (s.notify x).gpi k = s.gpi k := by simp [State.gpi, State.notify_kept ..]
@[simp] theorem State.gpo_notify (s : State) (x : Nat) (k : Nat) : (s.notify x).gpo k = s.gpo k := by simp [State.gpo, State.notify_kept ..]
@[simp] theorem State.rail_notify (s : State) (x : Nat) (k : Nat) : (s.notify x).rail k = s.rail k := by simp [State.rail, State.notify_kept ..]
@[simp] theorem State.power_notify (s : State) (x : Nat) (k : Nat) : (s.notify x).power k = s.power k := by simp [State.power, State.notify_kept ..]
@[simp] theorem State.ptpPort_notify (s : State) (x : Nat) (k : Nat) : (s.notify x).ptpPort k = s.ptpPort k := by simp [State.ptpPort, State.notify_kept ..]
@[simp] theorem State.cfg_notify (s : State) (x : Nat) (f i m : Nat) : (s.notify x).cfg f i m = s.cfg f i m := by simp [State.cfg, State.notify_kept ..]
@[simp] theorem State.cfgN_notify (s : State) (x : Nat) (f i m : Nat) : (s.notify x).cfgN f i m = s.cfgN f i m := by simp [State.cfgN, State.cfg, State.notify_kept ..]
@[simp] theorem State.linkOf_notify (s : State) (x : Nat) (a : Nat) : (s.notify x).linkOf a = s.linkOf a := by simp [State.linkOf]

/-! ## notifyAll -/

@[simp] theorem State.link_notifyAll (s : State)  (k : Nat) : s.notifyAll.link k = s.link k := by simp [State.link, State.notifyAll_kept ..]
@[simp] theorem State.port_notifyAll (s : State)  (k : Nat) : s.notifyAll.port k = s.port k := by simp [State.port, State.notifyAll_kept ..]
@[simp] theorem State.pipe_notifyAll (s : State)  (k : Nat) : s.notifyAll.pipe k = s.pipe k := by simp [State.pipe, State.notifyAll_kept ..]
@[simp] theorem State.vlan_notifyAll (s : State)  (k : Nat) : s.notifyAll.vlan k = s.vlan k := by simp [State.vlan, State.notifyAll_kept ..]
@[simp] theorem State.buffer_notifyAll (s : State)  (k : Nat) : s.notifyAll.buffer k = s.buffer k := by simp [State.buffer, State.notifyAll_kept ..]
@[simp] theorem State.block_notifyAll (s : State)  (k : Nat) : s.notifyAll.block k = s.block k := by simp [State.block, State.notifyAll_kept ..]
@[simp] theorem State.delivery_notifyAll (s : State)  (d i : Nat) : s.notifyAll.delivery d i = s.delivery d i := by simp [State.delivery, State.notifyAll_kept ..]
@[simp] theorem State.ring_notifyAll (s : State)  (a n : Nat) : s.notifyAll.ring a n = s.ring a n := by simp [State.ring, State.notifyAll_kept ..]
@[simp] theorem State.slot_notifyAll (s : State)  (k : Nat) : s.notifyAll.slot k = s.slot k := by simp [State.slot, State.notifyAll_kept ..]
@[simp] theorem State.twin_notifyAll (s : State)  (k : Nat) : s.notifyAll.twin k = s.twin k := by simp [State.twin, State.notifyAll_kept ..]
@[simp] theorem State.feed_notifyAll (s : State)  (k : Nat) : s.notifyAll.feed k = s.feed k := by simp [State.feed, State.notifyAll_kept ..]
@[simp] theorem State.group_notifyAll (s : State)  (k : Nat) : s.notifyAll.group k = s.group k := by simp [State.group, State.notifyAll_kept ..]
@[simp] theorem State.intake_notifyAll (s : State)  (k : Nat) : s.notifyAll.intake k = s.intake k := by simp [State.intake, State.notifyAll_kept ..]
@[simp] theorem State.outtake_notifyAll (s : State)  (k : Nat) : s.notifyAll.outtake k = s.outtake k := by simp [State.outtake, State.notifyAll_kept ..]
@[simp] theorem State.bed_notifyAll (s : State)  (k : Nat) : s.notifyAll.bed k = s.bed k := by simp [State.bed, State.notifyAll_kept ..]
@[simp] theorem State.queue_notifyAll (s : State)  (k : Nat) : s.notifyAll.queue k = s.queue k := by simp [State.queue, State.notifyAll_kept ..]
@[simp] theorem State.qgroup_notifyAll (s : State)  (k : Nat) : s.notifyAll.qgroup k = s.qgroup k := by simp [State.qgroup, State.notifyAll_kept ..]
@[simp] theorem State.gate_notifyAll (s : State)  (k : Nat) : s.notifyAll.gate k = s.gate k := by simp [State.gate, State.notifyAll_kept ..]
@[simp] theorem State.policer_notifyAll (s : State)  (k : Nat) : s.notifyAll.policer k = s.policer k := by simp [State.policer, State.notifyAll_kept ..]
@[simp] theorem State.cells_notifyAll (s : State)  (d : Nat) : s.notifyAll.cells d = s.cells d := by simp [State.cells, State.notifyAll_kept ..]
@[simp] theorem State.chain_notifyAll (s : State)  (k : Nat) : s.notifyAll.chain k = s.chain k := by simp [State.chain, State.notifyAll_kept ..]
@[simp] theorem State.allot_notifyAll (s : State)  (a : Nat) : s.notifyAll.allot a = s.allot a := by simp [State.allot, State.notifyAll_kept ..]
@[simp] theorem State.latch_notifyAll (s : State)  (k : Nat) : s.notifyAll.latch k = s.latch k := by simp [State.latch, State.notifyAll_kept ..]
@[simp] theorem State.stack_notifyAll (s : State)  (k : Nat) : s.notifyAll.stack k = s.stack k := by simp [State.stack, State.notifyAll_kept ..]
@[simp] theorem State.dmaCh_notifyAll (s : State)  (k : Nat) : s.notifyAll.dmaCh k = s.dmaCh k := by simp [State.dmaCh, State.notifyAll_kept ..]
@[simp] theorem State.source_notifyAll (s : State)  (k : Nat) : s.notifyAll.source k = s.source k := by simp [State.source, State.notifyAll_kept ..]
@[simp] theorem State.errRec_notifyAll (s : State)  (k : Nat) : s.notifyAll.errRec k = s.errRec k := by simp [State.errRec, State.notifyAll_kept ..]
@[simp] theorem State.pair_notifyAll (s : State)  (k : Nat) : s.notifyAll.pair k = s.pair k := by simp [State.pair, State.notifyAll_kept ..]
@[simp] theorem State.sensor_notifyAll (s : State)  (k : Nat) : s.notifyAll.sensor k = s.sensor k := by simp [State.sensor, State.notifyAll_kept ..]
@[simp] theorem State.gpi_notifyAll (s : State)  (k : Nat) : s.notifyAll.gpi k = s.gpi k := by simp [State.gpi, State.notifyAll_kept ..]
@[simp] theorem State.gpo_notifyAll (s : State)  (k : Nat) : s.notifyAll.gpo k = s.gpo k := by simp [State.gpo, State.notifyAll_kept ..]
@[simp] theorem State.rail_notifyAll (s : State)  (k : Nat) : s.notifyAll.rail k = s.rail k := by simp [State.rail, State.notifyAll_kept ..]
@[simp] theorem State.power_notifyAll (s : State)  (k : Nat) : s.notifyAll.power k = s.power k := by simp [State.power, State.notifyAll_kept ..]
@[simp] theorem State.ptpPort_notifyAll (s : State)  (k : Nat) : s.notifyAll.ptpPort k = s.ptpPort k := by simp [State.ptpPort, State.notifyAll_kept ..]
@[simp] theorem State.cfg_notifyAll (s : State)  (f i m : Nat) : s.notifyAll.cfg f i m = s.cfg f i m := by simp [State.cfg, State.notifyAll_kept ..]
@[simp] theorem State.cfgN_notifyAll (s : State)  (f i m : Nat) : s.notifyAll.cfgN f i m = s.cfgN f i m := by simp [State.cfgN, State.cfg, State.notifyAll_kept ..]
@[simp] theorem State.linkOf_notifyAll (s : State)  (a : Nat) : s.notifyAll.linkOf a = s.linkOf a := by simp [State.linkOf]

/-! ## recordRaise -/

@[simp] theorem State.link_recordRaise (s : State) (x : Nat) (b : Bool) (k : Nat) : (s.recordRaise x b).link k = s.link k := by simp [State.link, State.recordRaise_kept ..]
@[simp] theorem State.port_recordRaise (s : State) (x : Nat) (b : Bool) (k : Nat) : (s.recordRaise x b).port k = s.port k := by simp [State.port, State.recordRaise_kept ..]
@[simp] theorem State.pipe_recordRaise (s : State) (x : Nat) (b : Bool) (k : Nat) : (s.recordRaise x b).pipe k = s.pipe k := by simp [State.pipe, State.recordRaise_kept ..]
@[simp] theorem State.vlan_recordRaise (s : State) (x : Nat) (b : Bool) (k : Nat) : (s.recordRaise x b).vlan k = s.vlan k := by simp [State.vlan, State.recordRaise_kept ..]
@[simp] theorem State.buffer_recordRaise (s : State) (x : Nat) (b : Bool) (k : Nat) : (s.recordRaise x b).buffer k = s.buffer k := by simp [State.buffer, State.recordRaise_kept ..]
@[simp] theorem State.block_recordRaise (s : State) (x : Nat) (b : Bool) (k : Nat) : (s.recordRaise x b).block k = s.block k := by simp [State.block, State.recordRaise_kept ..]
@[simp] theorem State.delivery_recordRaise (s : State) (x : Nat) (b : Bool) (d i : Nat) : (s.recordRaise x b).delivery d i = s.delivery d i := by simp [State.delivery, State.recordRaise_kept ..]
@[simp] theorem State.ring_recordRaise (s : State) (x : Nat) (b : Bool) (a n : Nat) : (s.recordRaise x b).ring a n = s.ring a n := by simp [State.ring, State.recordRaise_kept ..]
@[simp] theorem State.slot_recordRaise (s : State) (x : Nat) (b : Bool) (k : Nat) : (s.recordRaise x b).slot k = s.slot k := by simp [State.slot, State.recordRaise_kept ..]
@[simp] theorem State.twin_recordRaise (s : State) (x : Nat) (b : Bool) (k : Nat) : (s.recordRaise x b).twin k = s.twin k := by simp [State.twin, State.recordRaise_kept ..]
@[simp] theorem State.feed_recordRaise (s : State) (x : Nat) (b : Bool) (k : Nat) : (s.recordRaise x b).feed k = s.feed k := by simp [State.feed, State.recordRaise_kept ..]
@[simp] theorem State.group_recordRaise (s : State) (x : Nat) (b : Bool) (k : Nat) : (s.recordRaise x b).group k = s.group k := by simp [State.group, State.recordRaise_kept ..]
@[simp] theorem State.intake_recordRaise (s : State) (x : Nat) (b : Bool) (k : Nat) : (s.recordRaise x b).intake k = s.intake k := by simp [State.intake, State.recordRaise_kept ..]
@[simp] theorem State.outtake_recordRaise (s : State) (x : Nat) (b : Bool) (k : Nat) : (s.recordRaise x b).outtake k = s.outtake k := by simp [State.outtake, State.recordRaise_kept ..]
@[simp] theorem State.bed_recordRaise (s : State) (x : Nat) (b : Bool) (k : Nat) : (s.recordRaise x b).bed k = s.bed k := by simp [State.bed, State.recordRaise_kept ..]
@[simp] theorem State.queue_recordRaise (s : State) (x : Nat) (b : Bool) (k : Nat) : (s.recordRaise x b).queue k = s.queue k := by simp [State.queue, State.recordRaise_kept ..]
@[simp] theorem State.qgroup_recordRaise (s : State) (x : Nat) (b : Bool) (k : Nat) : (s.recordRaise x b).qgroup k = s.qgroup k := by simp [State.qgroup, State.recordRaise_kept ..]
@[simp] theorem State.gate_recordRaise (s : State) (x : Nat) (b : Bool) (k : Nat) : (s.recordRaise x b).gate k = s.gate k := by simp [State.gate, State.recordRaise_kept ..]
@[simp] theorem State.policer_recordRaise (s : State) (x : Nat) (b : Bool) (k : Nat) : (s.recordRaise x b).policer k = s.policer k := by simp [State.policer, State.recordRaise_kept ..]
@[simp] theorem State.cells_recordRaise (s : State) (x : Nat) (b : Bool) (d : Nat) : (s.recordRaise x b).cells d = s.cells d := by simp [State.cells, State.recordRaise_kept ..]
@[simp] theorem State.chain_recordRaise (s : State) (x : Nat) (b : Bool) (k : Nat) : (s.recordRaise x b).chain k = s.chain k := by simp [State.chain, State.recordRaise_kept ..]
@[simp] theorem State.latch_recordRaise (s : State) (x : Nat) (b : Bool) (k : Nat) : (s.recordRaise x b).latch k = s.latch k := by simp [State.latch, State.recordRaise_kept ..]
@[simp] theorem State.stack_recordRaise (s : State) (x : Nat) (b : Bool) (k : Nat) : (s.recordRaise x b).stack k = s.stack k := by simp [State.stack, State.recordRaise_kept ..]
@[simp] theorem State.dmaCh_recordRaise (s : State) (x : Nat) (b : Bool) (k : Nat) : (s.recordRaise x b).dmaCh k = s.dmaCh k := by simp [State.dmaCh, State.recordRaise_kept ..]
@[simp] theorem State.pair_recordRaise (s : State) (x : Nat) (b : Bool) (k : Nat) : (s.recordRaise x b).pair k = s.pair k := by simp [State.pair, State.recordRaise_kept ..]
@[simp] theorem State.sensor_recordRaise (s : State) (x : Nat) (b : Bool) (k : Nat) : (s.recordRaise x b).sensor k = s.sensor k := by simp [State.sensor, State.recordRaise_kept ..]
@[simp] theorem State.gpi_recordRaise (s : State) (x : Nat) (b : Bool) (k : Nat) : (s.recordRaise x b).gpi k = s.gpi k := by simp [State.gpi, State.recordRaise_kept ..]
@[simp] theorem State.gpo_recordRaise (s : State) (x : Nat) (b : Bool) (k : Nat) : (s.recordRaise x b).gpo k = s.gpo k := by simp [State.gpo, State.recordRaise_kept ..]
@[simp] theorem State.rail_recordRaise (s : State) (x : Nat) (b : Bool) (k : Nat) : (s.recordRaise x b).rail k = s.rail k := by simp [State.rail, State.recordRaise_kept ..]
@[simp] theorem State.power_recordRaise (s : State) (x : Nat) (b : Bool) (k : Nat) : (s.recordRaise x b).power k = s.power k := by simp [State.power, State.recordRaise_kept ..]
@[simp] theorem State.ptpPort_recordRaise (s : State) (x : Nat) (b : Bool) (k : Nat) : (s.recordRaise x b).ptpPort k = s.ptpPort k := by simp [State.ptpPort, State.recordRaise_kept ..]
@[simp] theorem State.cfg_recordRaise (s : State) (x : Nat) (b : Bool) (f i m : Nat) : (s.recordRaise x b).cfg f i m = s.cfg f i m := by simp [State.cfg, State.recordRaise_kept ..]
@[simp] theorem State.cfgN_recordRaise (s : State) (x : Nat) (b : Bool) (f i m : Nat) : (s.recordRaise x b).cfgN f i m = s.cfgN f i m := by simp [State.cfgN, State.cfg, State.recordRaise_kept ..]

/-! ## logFault -/

@[simp] theorem State.link_logFault (s : State) (x : Nat) (k : Nat) : (s.logFault x).link k = s.link k := by simp [State.link, State.logFault_kept ..]
@[simp] theorem State.port_logFault (s : State) (x : Nat) (k : Nat) : (s.logFault x).port k = s.port k := by simp [State.port, State.logFault_kept ..]
@[simp] theorem State.pipe_logFault (s : State) (x : Nat) (k : Nat) : (s.logFault x).pipe k = s.pipe k := by simp [State.pipe, State.logFault_kept ..]
@[simp] theorem State.vlan_logFault (s : State) (x : Nat) (k : Nat) : (s.logFault x).vlan k = s.vlan k := by simp [State.vlan, State.logFault_kept ..]
@[simp] theorem State.buffer_logFault (s : State) (x : Nat) (k : Nat) : (s.logFault x).buffer k = s.buffer k := by simp [State.buffer, State.logFault_kept ..]
@[simp] theorem State.block_logFault (s : State) (x : Nat) (k : Nat) : (s.logFault x).block k = s.block k := by simp [State.block, State.logFault_kept ..]
@[simp] theorem State.delivery_logFault (s : State) (x : Nat) (d i : Nat) : (s.logFault x).delivery d i = s.delivery d i := by simp [State.delivery, State.logFault_kept ..]
@[simp] theorem State.ring_logFault (s : State) (x : Nat) (a n : Nat) : (s.logFault x).ring a n = s.ring a n := by simp [State.ring, State.logFault_kept ..]
@[simp] theorem State.slot_logFault (s : State) (x : Nat) (k : Nat) : (s.logFault x).slot k = s.slot k := by simp [State.slot, State.logFault_kept ..]
@[simp] theorem State.twin_logFault (s : State) (x : Nat) (k : Nat) : (s.logFault x).twin k = s.twin k := by simp [State.twin, State.logFault_kept ..]
@[simp] theorem State.feed_logFault (s : State) (x : Nat) (k : Nat) : (s.logFault x).feed k = s.feed k := by simp [State.feed, State.logFault_kept ..]
@[simp] theorem State.group_logFault (s : State) (x : Nat) (k : Nat) : (s.logFault x).group k = s.group k := by simp [State.group, State.logFault_kept ..]
@[simp] theorem State.intake_logFault (s : State) (x : Nat) (k : Nat) : (s.logFault x).intake k = s.intake k := by simp [State.intake, State.logFault_kept ..]
@[simp] theorem State.outtake_logFault (s : State) (x : Nat) (k : Nat) : (s.logFault x).outtake k = s.outtake k := by simp [State.outtake, State.logFault_kept ..]
@[simp] theorem State.bed_logFault (s : State) (x : Nat) (k : Nat) : (s.logFault x).bed k = s.bed k := by simp [State.bed, State.logFault_kept ..]
@[simp] theorem State.queue_logFault (s : State) (x : Nat) (k : Nat) : (s.logFault x).queue k = s.queue k := by simp [State.queue, State.logFault_kept ..]
@[simp] theorem State.qgroup_logFault (s : State) (x : Nat) (k : Nat) : (s.logFault x).qgroup k = s.qgroup k := by simp [State.qgroup, State.logFault_kept ..]
@[simp] theorem State.gate_logFault (s : State) (x : Nat) (k : Nat) : (s.logFault x).gate k = s.gate k := by simp [State.gate, State.logFault_kept ..]
@[simp] theorem State.policer_logFault (s : State) (x : Nat) (k : Nat) : (s.logFault x).policer k = s.policer k := by simp [State.policer, State.logFault_kept ..]
@[simp] theorem State.cells_logFault (s : State) (x : Nat) (d : Nat) : (s.logFault x).cells d = s.cells d := by simp [State.cells, State.logFault_kept ..]
@[simp] theorem State.chain_logFault (s : State) (x : Nat) (k : Nat) : (s.logFault x).chain k = s.chain k := by simp [State.chain, State.logFault_kept ..]
@[simp] theorem State.latch_logFault (s : State) (x : Nat) (k : Nat) : (s.logFault x).latch k = s.latch k := by simp [State.latch, State.logFault_kept ..]
@[simp] theorem State.stack_logFault (s : State) (x : Nat) (k : Nat) : (s.logFault x).stack k = s.stack k := by simp [State.stack, State.logFault_kept ..]
@[simp] theorem State.dmaCh_logFault (s : State) (x : Nat) (k : Nat) : (s.logFault x).dmaCh k = s.dmaCh k := by simp [State.dmaCh, State.logFault_kept ..]
@[simp] theorem State.pair_logFault (s : State) (x : Nat) (k : Nat) : (s.logFault x).pair k = s.pair k := by simp [State.pair, State.logFault_kept ..]
@[simp] theorem State.sensor_logFault (s : State) (x : Nat) (k : Nat) : (s.logFault x).sensor k = s.sensor k := by simp [State.sensor, State.logFault_kept ..]
@[simp] theorem State.gpi_logFault (s : State) (x : Nat) (k : Nat) : (s.logFault x).gpi k = s.gpi k := by simp [State.gpi, State.logFault_kept ..]
@[simp] theorem State.gpo_logFault (s : State) (x : Nat) (k : Nat) : (s.logFault x).gpo k = s.gpo k := by simp [State.gpo, State.logFault_kept ..]
@[simp] theorem State.rail_logFault (s : State) (x : Nat) (k : Nat) : (s.logFault x).rail k = s.rail k := by simp [State.rail, State.logFault_kept ..]
@[simp] theorem State.power_logFault (s : State) (x : Nat) (k : Nat) : (s.logFault x).power k = s.power k := by simp [State.power, State.logFault_kept ..]
@[simp] theorem State.ptpPort_logFault (s : State) (x : Nat) (k : Nat) : (s.logFault x).ptpPort k = s.ptpPort k := by simp [State.ptpPort, State.logFault_kept ..]
@[simp] theorem State.cfg_logFault (s : State) (x : Nat) (f i m : Nat) : (s.logFault x).cfg f i m = s.cfg f i m := by simp [State.cfg, State.logFault_kept ..]
@[simp] theorem State.cfgN_logFault (s : State) (x : Nat) (f i m : Nat) : (s.logFault x).cfgN f i m = s.cfgN f i m := by simp [State.cfgN, State.cfg, State.logFault_kept ..]

/-- A raise changes no register of an allotment but the UNROUTED count. -/
theorem State.allot_raise (s : State) (x a : Nat) :
    { (s.raise x).allot a with unrouted := (s.allot a).unrouted } = s.allot a := (sameButIrq_raise s x).allot a
@[simp] theorem State.allot_raise_session (s : State) (x a : Nat) : ((s.raise x).allot a).session = (s.allot a).session := by
  have h := congrArg (fun y : Allot => y.session) (s.allot_raise x a); exact h
@[simp] theorem State.allot_raise_nextSeq (s : State) (x a : Nat) : ((s.raise x).allot a).nextSeq = (s.allot a).nextSeq := by
  have h := congrArg (fun y : Allot => y.nextSeq) (s.allot_raise x a); exact h
@[simp] theorem State.allot_raise_held (s : State) (x a : Nat) : ((s.raise x).allot a).held = (s.allot a).held := by
  have h := congrArg (fun y : Allot => y.held) (s.allot_raise x a); exact h
@[simp] theorem State.allot_raise_cached (s : State) (x a : Nat) : ((s.raise x).allot a).cached = (s.allot a).cached := by
  have h := congrArg (fun y : Allot => y.cached) (s.allot_raise x a); exact h
@[simp] theorem State.allot_raise_waiting (s : State) (x a : Nat) : ((s.raise x).allot a).waiting = (s.allot a).waiting := by
  have h := congrArg (fun y : Allot => y.waiting) (s.allot_raise x a); exact h
@[simp] theorem State.allot_raise_unanswered (s : State) (x a : Nat) : ((s.raise x).allot a).unanswered = (s.allot a).unanswered := by
  have h := congrArg (fun y : Allot => y.unanswered) (s.allot_raise x a); exact h
@[simp] theorem State.allot_raise_staging (s : State) (x a : Nat) : ((s.raise x).allot a).staging = (s.allot a).staging := by
  have h := congrArg (fun y : Allot => y.staging) (s.allot_raise x a); exact h
@[simp] theorem State.allot_raise_key (s : State) (x a : Nat) : ((s.raise x).allot a).key = (s.allot a).key := by
  have h := congrArg (fun y : Allot => y.key) (s.allot_raise x a); exact h
@[simp] theorem State.allot_raise_oldKey (s : State) (x a : Nat) : ((s.raise x).allot a).oldKey = (s.allot a).oldKey := by
  have h := congrArg (fun y : Allot => y.oldKey) (s.allot_raise x a); exact h
@[simp] theorem State.allot_raise_keyGrace (s : State) (x a : Nat) : ((s.raise x).allot a).keyGrace = (s.allot a).keyGrace := by
  have h := congrArg (fun y : Allot => y.keyGrace) (s.allot_raise x a); exact h
@[simp] theorem State.allot_raise_authFails (s : State) (x a : Nat) : ((s.raise x).allot a).authFails = (s.allot a).authFails := by
  have h := congrArg (fun y : Allot => y.authFails) (s.allot_raise x a); exact h
@[simp] theorem State.allot_raise_superseded (s : State) (x a : Nat) : ((s.raise x).allot a).superseded = (s.allot a).superseded := by
  have h := congrArg (fun y : Allot => y.superseded) (s.allot_raise x a); exact h
@[simp] theorem State.allot_raise_gapDrops (s : State) (x a : Nat) : ((s.raise x).allot a).gapDrops = (s.allot a).gapDrops := by
  have h := congrArg (fun y : Allot => y.gapDrops) (s.allot_raise x a); exact h
@[simp] theorem State.allot_raise_overloadDrops (s : State) (x a : Nat) : ((s.raise x).allot a).overloadDrops = (s.allot a).overloadDrops := by
  have h := congrArg (fun y : Allot => y.overloadDrops) (s.allot_raise x a); exact h
@[simp] theorem State.allot_raise_mailboxIgnored (s : State) (x a : Nat) : ((s.raise x).allot a).mailboxIgnored = (s.allot a).mailboxIgnored := by
  have h := congrArg (fun y : Allot => y.mailboxIgnored) (s.allot_raise x a); exact h
@[simp] theorem State.allot_raise_seqDrops (s : State) (x a : Nat) : ((s.raise x).allot a).seqDrops = (s.allot a).seqDrops := by
  have h := congrArg (fun y : Allot => y.seqDrops) (s.allot_raise x a); exact h
@[simp] theorem State.allot_raise_clamps (s : State) (x a : Nat) : ((s.raise x).allot a).clamps = (s.allot a).clamps := by
  have h := congrArg (fun y : Allot => y.clamps) (s.allot_raise x a); exact h
@[simp] theorem State.allot_raise_regSuperseded (s : State) (x a : Nat) : ((s.raise x).allot a).regSuperseded = (s.allot a).regSuperseded := by
  have h := congrArg (fun y : Allot => y.regSuperseded) (s.allot_raise x a); exact h
@[simp] theorem State.allot_raise_resets (s : State) (x a : Nat) : ((s.raise x).allot a).resets = (s.allot a).resets := by
  have h := congrArg (fun y : Allot => y.resets) (s.allot_raise x a); exact h
@[simp] theorem State.allot_raise_latchRefused (s : State) (x a : Nat) : ((s.raise x).allot a).latchRefused = (s.allot a).latchRefused := by
  have h := congrArg (fun y : Allot => y.latchRefused) (s.allot_raise x a); exact h
@[simp] theorem State.allot_raise_doorbellRefused (s : State) (x a : Nat) : ((s.raise x).allot a).doorbellRefused = (s.allot a).doorbellRefused := by
  have h := congrArg (fun y : Allot => y.doorbellRefused) (s.allot_raise x a); exact h
@[simp] theorem State.allot_raise_mbox (s : State) (x a : Nat) : ((s.raise x).allot a).mbox = (s.allot a).mbox := by
  have h := congrArg (fun y : Allot => y.mbox) (s.allot_raise x a); exact h
@[simp] theorem State.allot_raise_qeDie (s : State) (x a : Nat) : ((s.raise x).allot a).qeDie = (s.allot a).qeDie := by
  have h := congrArg (fun y : Allot => y.qeDie) (s.allot_raise x a); exact h
@[simp] theorem State.allot_raise_source (s : State) (x a : Nat) : ((s.raise x).allot a).source = (s.allot a).source := by
  have h := congrArg (fun y : Allot => y.source) (s.allot_raise x a); exact h
@[simp] theorem State.allot_raise_queuePage (s : State) (x a : Nat) : ((s.raise x).allot a).queuePage = (s.allot a).queuePage := by
  have h := congrArg (fun y : Allot => y.queuePage) (s.allot_raise x a); exact h
@[simp] theorem State.allot_raise_runClear (s : State) (x a : Nat) : ((s.raise x).allot a).runClear = (s.allot a).runClear := by
  have h := congrArg (fun y : Allot => y.runClear) (s.allot_raise x a); exact h
@[simp] theorem State.allot_raise_lingering (s : State) (x a : Nat) : ((s.raise x).allot a).lingering = (s.allot a).lingering := by
  have h := congrArg (fun y : Allot => y.lingering) (s.allot_raise x a); exact h
@[simp] theorem State.allot_raise_link (s : State) (x a : Nat) : ((s.raise x).allot a).link = (s.allot a).link := by
  have h := congrArg (fun y : Allot => y.link) (s.allot_raise x a); exact h
@[simp] theorem State.allot_raise_harvest (s : State) (x a : Nat) : ((s.raise x).allot a).harvest = (s.allot a).harvest := by
  have h := congrArg (fun y : Allot => y.harvest) (s.allot_raise x a); exact h
@[simp] theorem State.allot_raise_dmaBytes (s : State) (x a : Nat) : ((s.raise x).allot a).dmaBytes = (s.allot a).dmaBytes := by
  have h := congrArg (fun y : Allot => y.dmaBytes) (s.allot_raise x a); exact h
@[simp] theorem State.allot_raise_dmaHalts (s : State) (x a : Nat) : ((s.raise x).allot a).dmaHalts = (s.allot a).dmaHalts := by
  have h := congrArg (fun y : Allot => y.dmaHalts) (s.allot_raise x a); exact h

end Sys2Proof.Machine
end

