-- ==== Sys2Proof/Laws/Almanac.lean ====
section
/-! SUPPORT. What an operation that the Almanac takes at once does: the entry's own effect, the note of it for the decision
slot, and the answer (11). -/

namespace Sys2Proof.Machine

theorem State.at_journals (s : State) (t : Nat) : (s.at t).journals = s.journals := rfl
theorem State.at_waits (s : State) (t a : Nat) : (s.at t).waits a = s.waits a := rfl

theorem atOnce_journals {s : State} {t a : Nat} (h : takesAtOnce s t a) : s.journals = false := by
  simp [State.journals, h.runs, h.drained]
theorem atOnce_waits {s : State} {t a : Nat} (h : takesAtOnce s t a) : s.waits a = false := by
  simp [State.waits, h.up]

theorem atOnce_freeCycle {s : State} {t a : Nat} (h : takesAtOnce s t a) (fields : List Nat) :
    (s.at t).loses a fields = false := by
  simp only [State.loses, List.any_eq_false]
  intro e he
  simp [h.cycles e he]

/-- A WRITE that the Almanac takes at once and that its entry accepts (R287, R289, R306): the entry's effect, noted for the
slot, and an answer of status OK. -/
theorem orderWrite_accepted {s : State} {t a fam inst mem : Nat} {b : List Byte} {sp : Space} {n : Nat} {r : Row}
    (h : takesAtOnce s t a) (hs : spaceOf fam inst = some (sp, n)) (hr : entryRow sp n mem = some r)
    (hw : recordWrite sp mem = true ∨ canWrite r.acc (s.rightsMask a fam inst sp n) = true)
    {e : Nat} {u : State} (hu : (s.at t).entryWrite a fam inst mem sp n r b = (0, e, u)) :
    (s.at t).orderWrite a fam inst mem b =
      (let v := u.noteWrite a fam inst mem (conflictKey fam inst mem sp b) ((s.at t).entryValue fam inst mem sp n)
       let fields := registerFields sp n mem b
       (if fields.isEmpty then v else v.covers a fields).say 0 [] e) := by
  have hright : (!recordWrite sp mem && !canWrite r.acc ((s.at t).rightsMask a fam inst sp n)) = false := by
    have : (s.at t).rightsMask a fam inst sp n = s.rightsMask a fam inst sp n := rfl
    rcases hw with hw | hw <;> simp [this, hw]
  have hj : (s.at t).journals = false := (State.at_journals s t).trans (atOnce_journals h)
  have hwait : (s.at t).waits a = false := (State.at_waits s t a).trans (atOnce_waits h)
  have hop : (s.at t).writeOp a fam inst mem b =
      (0, e,
        let v := u.noteWrite a fam inst mem (conflictKey fam inst mem sp b) ((s.at t).entryValue fam inst mem sp n)
        let fields := registerFields sp n mem b
        if fields.isEmpty then v else v.covers a fields) := by
    have hslot' : (s.at t).alm.slotWrites.any (fun e => decide (e.1 = (s.at t).now / 10) &&
        decide (e.2.1 = conflictKey fam inst mem sp b) && decide (e.2.2 < a)) = false := by
      rw [List.any_eq_false]
      intro e he
      have : e.1 ≠ (s.at t).now / 10 := h.slots e he
      simp only [decide_eq_false this, Bool.false_and, Bool.false_eq_true, not_false_eq_true]
    simp only [State.writeOp, hs, hr, hright, hu, atOnce_freeCycle h, hslot', Bool.or_false, Bool.false_eq_true, if_false,
      ne_eq, not_true_eq_false]
  have hlive : (s.at t).alm.live = true := h.live
  have hrun : (s.at t).runOp a 0 0 2 fam inst mem b =
      { status := 0, at_ := e, next := (
        let v := u.noteWrite a fam inst mem (conflictKey fam inst mem sp b) ((s.at t).entryValue fam inst mem sp n)
        let fields := registerFields sp n mem b
        if fields.isEmpty then v else v.covers a fields) } := by
    simp only [State.runOp, hlive, Bool.not_true, Bool.false_eq_true, if_false, State.runWrite, hj]
    rw [hop]
  simp only [State.orderWrite, State.order, hwait, Bool.and_false, Bool.false_eq_true, if_false]
  rw [hrun]

/-- A READ that the Almanac takes at once answers the entry's value, and changes nothing (R287, R289, R307). -/
theorem orderRead_answers {s : State} {t a fam inst mem : Nat} {arg : List Byte} {sp : Space} {n : Nat} {r : Row}
    (h : takesAtOnce s t a) (hc : s.copy = none) (hs : spaceOf fam inst = some (sp, n))
    (hr : entryRow sp n mem = some r)
    (hw : recordRead sp mem = true ∨ canRead r.acc (s.rightsMask a fam inst sp n) = true)
    {v : List Byte} (hv : (s.at t).entryRead a fam inst mem sp n arg = (0, v)) :
    (s.at t).orderRead a fam inst mem arg = (s.at t).say 0 v (t / 10 * 10) := by
  have hright : (!recordRead sp mem && !canRead r.acc ((s.at t).rightsMask a fam inst sp n)) = false := by
    have : (s.at t).rightsMask a fam inst sp n = s.rightsMask a fam inst sp n := rfl
    rcases hw with hw | hw <;> simp [this, hw]
  have hj : (s.at t).journals = false := (State.at_journals s t).trans (atOnce_journals h)
  have hwait : (s.at t).waits a = false := (State.at_waits s t a).trans (atOnce_waits h)
  have hold : (s.at t).alm.slotOld.find? (fun e =>
      decide (e.1 = (s.at t).now / 10) && decide (e.2.1 = entryKey fam inst mem) && arg.isEmpty) = none := by
    rw [List.find?_eq_none]
    intro e he
    simp [h.olds e he]
  have hop : (s.at t).readOp a fam inst mem arg = (0, t / 10 * 10, v) := by
    have hc' : (s.at t).copy = none := hc
    simp only [State.readOp, hs, hr, hright, hc', hv, hold, Bool.false_eq_true, if_false, if_true]
    rfl
  have hlive : (s.at t).alm.live = true := h.live
  have hrun : (s.at t).runOp a 0 0 1 fam inst mem arg = { status := 0, at_ := t / 10 * 10, data := v, next := s.at t } := by
    simp only [State.runOp, hlive, Bool.not_true, Bool.false_eq_true, if_false, State.runRead, hj, Bool.false_and]
    rw [hop]
  simp only [State.orderRead, State.order, hwait, Bool.and_false, Bool.false_eq_true, if_false]
  rw [hrun]

/-! ## What the note and the answer leave alone -/

theorem State.noteWrite_frame (s : State) (a fam inst mem key : Nat) (old : List Byte) :
    (s.noteWrite a fam inst mem key old).now = s.now ∧ (s.noteWrite a fam inst mem key old).pending = s.pending ∧
    (s.noteWrite a fam inst mem key old).emits = s.emits ∧ (s.noteWrite a fam inst mem key old).fresh = s.fresh ∧
    (s.noteWrite a fam inst mem key old).links = s.links ∧ (s.noteWrite a fam inst mem key old).shed = s.shed ∧
    (s.noteWrite a fam inst mem key old).copy = s.copy ∧ (s.noteWrite a fam inst mem key old).fwd = s.fwd ∧
    (s.noteWrite a fam inst mem key old).rings = s.rings ∧ (s.noteWrite a fam inst mem key old).str = s.str ∧
    (s.noteWrite a fam inst mem key old).egr = s.egr ∧ (s.noteWrite a fam inst mem key old).allots = s.allots ∧
    (s.noteWrite a fam inst mem key old).irq = s.irq ∧ (s.noteWrite a fam inst mem key old).mem = s.mem ∧
    (s.noteWrite a fam inst mem key old).flt = s.flt ∧ (s.noteWrite a fam inst mem key old).cal = s.cal ∧
    (s.noteWrite a fam inst mem key old).gauge = s.gauge ∧ (s.noteWrite a fam inst mem key old).mod = s.mod ∧
    (s.noteWrite a fam inst mem key old).clk = s.clk ∧ (s.noteWrite a fam inst mem key old).boot = s.boot ∧
    (s.noteWrite a fam inst mem key old).alm.store = s.alm.store :=
  ⟨rfl, rfl, rfl, rfl, rfl, rfl, rfl, rfl, rfl, rfl, rfl, rfl, rfl, rfl, rfl, rfl, rfl, rfl, rfl, rfl, rfl⟩
theorem State.covers_frame (s : State) (a : Nat) (l : List Nat) :
    (s.covers a l).now = s.now ∧ (s.covers a l).pending = s.pending ∧ (s.covers a l).emits = s.emits ∧
    (s.covers a l).fresh = s.fresh ∧ (s.covers a l).links = s.links ∧ (s.covers a l).shed = s.shed ∧
    (s.covers a l).copy = s.copy ∧ (s.covers a l).fwd = s.fwd ∧ (s.covers a l).rings = s.rings ∧
    (s.covers a l).str = s.str ∧ (s.covers a l).egr = s.egr ∧ (s.covers a l).allots = s.allots ∧
    (s.covers a l).irq = s.irq ∧ (s.covers a l).mem = s.mem ∧ (s.covers a l).flt = s.flt ∧
    (s.covers a l).cal = s.cal ∧ (s.covers a l).gauge = s.gauge ∧ (s.covers a l).mod = s.mod ∧
    (s.covers a l).clk = s.clk ∧ (s.covers a l).boot = s.boot ∧ (s.covers a l).alm.store = s.alm.store :=
  ⟨rfl, rfl, rfl, rfl, rfl, rfl, rfl, rfl, rfl, rfl, rfl, rfl, rfl, rfl, rfl, rfl, rfl, rfl, rfl, rfl, rfl⟩

/-- The engine's value of an entry after a write of it, and of another. -/
theorem State.cfg_setCfg (s : State) (f i m g j n : Nat) (v : List Byte) :
    (s.setCfg f i m v).cfg g j n = if entryKey g j n = entryKey f i m then v else s.cfg g j n := by
  simp [State.cfg, State.setCfg, tget_tput]
@[simp] theorem State.cfg_setCfg_self (s : State) (f i m : Nat) (v : List Byte) : (s.setCfg f i m v).cfg f i m = v := by
  simp [State.cfg_setCfg]

/-- A number that fits its bytes is read back (R288). -/
theorem leNat_natLe (k n : Nat) : leNat (natLe k n) = n % 256 ^ k := by
  induction k generalizing n with
  | zero => simp [natLe, leNat, Nat.mod_one]
  | succ k ih =>
    simp only [natLe, leNat, ih, BitVec.toNat_ofNat]
    have hk : (256 : Nat) ^ (k + 1) = 256 * 256 ^ k := by rw [Nat.pow_succ, Nat.mul_comm]
    rw [hk, Nat.mod_mul (x := n) (a := 256) (b := 256 ^ k)]
@[simp] theorem natLe_length (k n : Nat) : (natLe k n).length = k := by
  induction k generalizing n with
  | zero => rfl
  | succ k ih => simp [natLe, ih]

end Sys2Proof.Machine
end

