-- ==== Sys2Proof/Laws/FramesField.lean ====
section
/-! SUPPORT. The parts of the state that cells, queues, ports and forwarding leave alone: one lemma for each operation, by its parts. -/

set_option linter.unusedSimpArgs false

namespace Sys2Proof.Machine

/-! ## Cells.lean -/

theorem State.newChain_kept (s : State) (die : Nat) (a : Nat) (n : Nat) (crossing : Bool) :
    (s.newChain die a n crossing).2.now = s.now ∧ (s.newChain die a n crossing).2.pending = s.pending ∧
    (s.newChain die a n crossing).2.answer = s.answer ∧ (s.newChain die a n crossing).2.emits = s.emits ∧
    (s.newChain die a n crossing).2.fresh = s.fresh ∧ (s.newChain die a n crossing).2.links = s.links ∧
    (s.newChain die a n crossing).2.shed = s.shed ∧ (s.newChain die a n crossing).2.copy = s.copy ∧
    (s.newChain die a n crossing).2.fwd = s.fwd ∧ (s.newChain die a n crossing).2.rings = s.rings ∧
    (s.newChain die a n crossing).2.str = s.str ∧ (s.newChain die a n crossing).2.alm = s.alm ∧
    (s.newChain die a n crossing).2.allots = s.allots ∧ (s.newChain die a n crossing).2.irq = s.irq ∧
    (s.newChain die a n crossing).2.mem = s.mem ∧ (s.newChain die a n crossing).2.flt = s.flt ∧
    (s.newChain die a n crossing).2.cal = s.cal ∧ (s.newChain die a n crossing).2.gauge = s.gauge ∧
    (s.newChain die a n crossing).2.mod = s.mod ∧ (s.newChain die a n crossing).2.clk = s.clk ∧
    (s.newChain die a n crossing).2.boot = s.boot := by
  simp [State.setChain, State.newChain]
theorem State.carve_kept (s : State) (die : Nat) :
    (s.carve die).now = s.now ∧ (s.carve die).pending = s.pending ∧ (s.carve die).answer = s.answer ∧
    (s.carve die).emits = s.emits ∧ (s.carve die).fresh = s.fresh ∧ (s.carve die).links = s.links ∧
    (s.carve die).shed = s.shed ∧ (s.carve die).copy = s.copy ∧ (s.carve die).fwd = s.fwd ∧
    (s.carve die).rings = s.rings ∧ (s.carve die).str = s.str ∧ (s.carve die).alm = s.alm ∧
    (s.carve die).allots = s.allots ∧ (s.carve die).irq = s.irq ∧ (s.carve die).mem = s.mem ∧
    (s.carve die).flt = s.flt ∧ (s.carve die).cal = s.cal ∧ (s.carve die).gauge = s.gauge ∧
    (s.carve die).mod = s.mod ∧ (s.carve die).clk = s.clk ∧ (s.carve die).boot = s.boot := by
  simp [State.ite_kept .., State.carve]
theorem State.freeChain_kept (s : State) (k : Nat) :
    (s.freeChain k).now = s.now ∧ (s.freeChain k).pending = s.pending ∧ (s.freeChain k).answer = s.answer ∧
    (s.freeChain k).emits = s.emits ∧ (s.freeChain k).fresh = s.fresh ∧ (s.freeChain k).links = s.links ∧
    (s.freeChain k).shed = s.shed ∧ (s.freeChain k).copy = s.copy ∧ (s.freeChain k).fwd = s.fwd ∧
    (s.freeChain k).rings = s.rings ∧ (s.freeChain k).str = s.str ∧ (s.freeChain k).alm = s.alm ∧
    (s.freeChain k).allots = s.allots ∧ (s.freeChain k).irq = s.irq ∧ (s.freeChain k).mem = s.mem ∧
    (s.freeChain k).flt = s.flt ∧ (s.freeChain k).cal = s.cal ∧ (s.freeChain k).gauge = s.gauge ∧
    (s.freeChain k).mod = s.mod ∧ (s.freeChain k).clk = s.clk ∧ (s.freeChain k).boot = s.boot := by
  simp [State.setChain, State.freeChain, State.carve_kept ..]
theorem State.addRef_kept (s : State) (k : Nat) :
    (s.addRef k).now = s.now ∧ (s.addRef k).pending = s.pending ∧ (s.addRef k).answer = s.answer ∧
    (s.addRef k).emits = s.emits ∧ (s.addRef k).fresh = s.fresh ∧ (s.addRef k).links = s.links ∧
    (s.addRef k).shed = s.shed ∧ (s.addRef k).copy = s.copy ∧ (s.addRef k).fwd = s.fwd ∧
    (s.addRef k).rings = s.rings ∧ (s.addRef k).str = s.str ∧ (s.addRef k).alm = s.alm ∧
    (s.addRef k).allots = s.allots ∧ (s.addRef k).irq = s.irq ∧ (s.addRef k).mem = s.mem ∧ (s.addRef k).flt = s.flt ∧
    (s.addRef k).cal = s.cal ∧ (s.addRef k).gauge = s.gauge ∧ (s.addRef k).mod = s.mod ∧ (s.addRef k).clk = s.clk ∧
    (s.addRef k).boot = s.boot := by
  simp [State.ite_kept .., State.setChain, State.addRef]
theorem State.dropRef_kept (s : State) (k : Nat) :
    (s.dropRef k).now = s.now ∧ (s.dropRef k).pending = s.pending ∧ (s.dropRef k).answer = s.answer ∧
    (s.dropRef k).emits = s.emits ∧ (s.dropRef k).fresh = s.fresh ∧ (s.dropRef k).links = s.links ∧
    (s.dropRef k).shed = s.shed ∧ (s.dropRef k).copy = s.copy ∧ (s.dropRef k).fwd = s.fwd ∧
    (s.dropRef k).rings = s.rings ∧ (s.dropRef k).str = s.str ∧ (s.dropRef k).alm = s.alm ∧
    (s.dropRef k).allots = s.allots ∧ (s.dropRef k).irq = s.irq ∧ (s.dropRef k).mem = s.mem ∧
    (s.dropRef k).flt = s.flt ∧ (s.dropRef k).cal = s.cal ∧ (s.dropRef k).gauge = s.gauge ∧
    (s.dropRef k).mod = s.mod ∧ (s.dropRef k).clk = s.clk ∧ (s.dropRef k).boot = s.boot := by
  simp [State.ite_kept .., State.setChain, State.dropRef, State.freeChain_kept ..]
theorem State.breakCell_kept (s : State) (k : Nat) :
    (s.breakCell k).now = s.now ∧ (s.breakCell k).pending = s.pending ∧ (s.breakCell k).answer = s.answer ∧
    (s.breakCell k).emits = s.emits ∧ (s.breakCell k).fresh = s.fresh ∧ (s.breakCell k).links = s.links ∧
    (s.breakCell k).shed = s.shed ∧ (s.breakCell k).copy = s.copy ∧ (s.breakCell k).fwd = s.fwd ∧
    (s.breakCell k).rings = s.rings ∧ (s.breakCell k).str = s.str ∧ (s.breakCell k).alm = s.alm ∧
    (s.breakCell k).allots = s.allots ∧ (s.breakCell k).irq = s.irq ∧ (s.breakCell k).mem = s.mem ∧
    (s.breakCell k).flt = s.flt ∧ (s.breakCell k).cal = s.cal ∧ (s.breakCell k).gauge = s.gauge ∧
    (s.breakCell k).mod = s.mod ∧ (s.breakCell k).clk = s.clk ∧ (s.breakCell k).boot = s.boot := by
  simp [State.ite_kept .., State.setChain, State.breakCell]
theorem State.restoreCells_kept (s : State) (die : Nat) :
    (s.restoreCells die).now = s.now ∧ (s.restoreCells die).pending = s.pending ∧
    (s.restoreCells die).answer = s.answer ∧ (s.restoreCells die).emits = s.emits ∧
    (s.restoreCells die).fresh = s.fresh ∧ (s.restoreCells die).links = s.links ∧
    (s.restoreCells die).shed = s.shed ∧ (s.restoreCells die).copy = s.copy ∧ (s.restoreCells die).fwd = s.fwd ∧
    (s.restoreCells die).rings = s.rings ∧ (s.restoreCells die).str = s.str ∧ (s.restoreCells die).alm = s.alm ∧
    (s.restoreCells die).allots = s.allots ∧ (s.restoreCells die).irq = s.irq ∧ (s.restoreCells die).mem = s.mem ∧
    (s.restoreCells die).flt = s.flt ∧ (s.restoreCells die).cal = s.cal ∧ (s.restoreCells die).gauge = s.gauge ∧
    (s.restoreCells die).mod = s.mod ∧ (s.restoreCells die).clk = s.clk ∧ (s.restoreCells die).boot = s.boot := by
  simp [State.ite_kept .., State.restoreCells, State.modCells]
theorem State.takeDeep_kept (s : State) (die : Nat) (a : Nat) (n : Nat) :
    (s.takeDeep die a n).now = s.now ∧ (s.takeDeep die a n).pending = s.pending ∧
    (s.takeDeep die a n).answer = s.answer ∧ (s.takeDeep die a n).emits = s.emits ∧
    (s.takeDeep die a n).fresh = s.fresh ∧ (s.takeDeep die a n).links = s.links ∧ (s.takeDeep die a n).shed = s.shed ∧
    (s.takeDeep die a n).copy = s.copy ∧ (s.takeDeep die a n).fwd = s.fwd ∧ (s.takeDeep die a n).rings = s.rings ∧
    (s.takeDeep die a n).str = s.str ∧ (s.takeDeep die a n).alm = s.alm ∧ (s.takeDeep die a n).allots = s.allots ∧
    (s.takeDeep die a n).irq = s.irq ∧ (s.takeDeep die a n).mem = s.mem ∧ (s.takeDeep die a n).flt = s.flt ∧
    (s.takeDeep die a n).cal = s.cal ∧ (s.takeDeep die a n).gauge = s.gauge ∧ (s.takeDeep die a n).mod = s.mod ∧
    (s.takeDeep die a n).clk = s.clk ∧ (s.takeDeep die a n).boot = s.boot := by
  simp [State.takeDeep]
theorem State.giveDeep_kept (s : State) (die : Nat) (a : Nat) (n : Nat) (failed : Bool) :
    (s.giveDeep die a n failed).now = s.now ∧ (s.giveDeep die a n failed).pending = s.pending ∧
    (s.giveDeep die a n failed).answer = s.answer ∧ (s.giveDeep die a n failed).emits = s.emits ∧
    (s.giveDeep die a n failed).fresh = s.fresh ∧ (s.giveDeep die a n failed).links = s.links ∧
    (s.giveDeep die a n failed).shed = s.shed ∧ (s.giveDeep die a n failed).copy = s.copy ∧
    (s.giveDeep die a n failed).fwd = s.fwd ∧ (s.giveDeep die a n failed).rings = s.rings ∧
    (s.giveDeep die a n failed).str = s.str ∧ (s.giveDeep die a n failed).alm = s.alm ∧
    (s.giveDeep die a n failed).allots = s.allots ∧ (s.giveDeep die a n failed).irq = s.irq ∧
    (s.giveDeep die a n failed).mem = s.mem ∧ (s.giveDeep die a n failed).flt = s.flt ∧
    (s.giveDeep die a n failed).cal = s.cal ∧ (s.giveDeep die a n failed).gauge = s.gauge ∧
    (s.giveDeep die a n failed).mod = s.mod ∧ (s.giveDeep die a n failed).clk = s.clk ∧
    (s.giveDeep die a n failed).boot = s.boot := by
  simp [State.giveDeep]
theorem State.meterDeep_kept (s : State) (die : Nat) (n : Nat) :
    (s.meterDeep die n).now = s.now ∧ (s.meterDeep die n).pending = s.pending ∧
    (s.meterDeep die n).answer = s.answer ∧ (s.meterDeep die n).emits = s.emits ∧
    (s.meterDeep die n).fresh = s.fresh ∧ (s.meterDeep die n).links = s.links ∧ (s.meterDeep die n).shed = s.shed ∧
    (s.meterDeep die n).copy = s.copy ∧ (s.meterDeep die n).fwd = s.fwd ∧ (s.meterDeep die n).rings = s.rings ∧
    (s.meterDeep die n).str = s.str ∧ (s.meterDeep die n).alm = s.alm ∧ (s.meterDeep die n).allots = s.allots ∧
    (s.meterDeep die n).irq = s.irq ∧ (s.meterDeep die n).mem = s.mem ∧ (s.meterDeep die n).flt = s.flt ∧
    (s.meterDeep die n).cal = s.cal ∧ (s.meterDeep die n).gauge = s.gauge ∧ (s.meterDeep die n).mod = s.mod ∧
    (s.meterDeep die n).clk = s.clk ∧ (s.meterDeep die n).boot = s.boot := by
  simp [State.meterDeep]
theorem State.takeBuffer_kept (s : State) (die : Nat) (p : Nat) :
    (s.takeBuffer die p).now = s.now ∧ (s.takeBuffer die p).pending = s.pending ∧
    (s.takeBuffer die p).answer = s.answer ∧ (s.takeBuffer die p).emits = s.emits ∧
    (s.takeBuffer die p).fresh = s.fresh ∧ (s.takeBuffer die p).links = s.links ∧ (s.takeBuffer die p).shed = s.shed ∧
    (s.takeBuffer die p).copy = s.copy ∧ (s.takeBuffer die p).fwd = s.fwd ∧ (s.takeBuffer die p).rings = s.rings ∧
    (s.takeBuffer die p).str = s.str ∧ (s.takeBuffer die p).alm = s.alm ∧ (s.takeBuffer die p).allots = s.allots ∧
    (s.takeBuffer die p).irq = s.irq ∧ (s.takeBuffer die p).mem = s.mem ∧ (s.takeBuffer die p).flt = s.flt ∧
    (s.takeBuffer die p).cal = s.cal ∧ (s.takeBuffer die p).gauge = s.gauge ∧ (s.takeBuffer die p).mod = s.mod ∧
    (s.takeBuffer die p).clk = s.clk ∧ (s.takeBuffer die p).boot = s.boot := by
  simp [State.takeBuffer]
theorem State.giveBuffer_kept (s : State) (die : Nat) (p : Nat) :
    (s.giveBuffer die p).now = s.now ∧ (s.giveBuffer die p).pending = s.pending ∧
    (s.giveBuffer die p).answer = s.answer ∧ (s.giveBuffer die p).emits = s.emits ∧
    (s.giveBuffer die p).fresh = s.fresh ∧ (s.giveBuffer die p).links = s.links ∧ (s.giveBuffer die p).shed = s.shed ∧
    (s.giveBuffer die p).copy = s.copy ∧ (s.giveBuffer die p).fwd = s.fwd ∧ (s.giveBuffer die p).rings = s.rings ∧
    (s.giveBuffer die p).str = s.str ∧ (s.giveBuffer die p).alm = s.alm ∧ (s.giveBuffer die p).allots = s.allots ∧
    (s.giveBuffer die p).irq = s.irq ∧ (s.giveBuffer die p).mem = s.mem ∧ (s.giveBuffer die p).flt = s.flt ∧
    (s.giveBuffer die p).cal = s.cal ∧ (s.giveBuffer die p).gauge = s.gauge ∧ (s.giveBuffer die p).mod = s.mod ∧
    (s.giveBuffer die p).clk = s.clk ∧ (s.giveBuffer die p).boot = s.boot := by
  simp [State.giveBuffer, State.carve_kept ..]
theorem State.breakBuffer_kept (s : State) (die : Nat) (p : Nat) :
    (s.breakBuffer die p).now = s.now ∧ (s.breakBuffer die p).pending = s.pending ∧
    (s.breakBuffer die p).answer = s.answer ∧ (s.breakBuffer die p).emits = s.emits ∧
    (s.breakBuffer die p).fresh = s.fresh ∧ (s.breakBuffer die p).links = s.links ∧
    (s.breakBuffer die p).shed = s.shed ∧ (s.breakBuffer die p).copy = s.copy ∧ (s.breakBuffer die p).fwd = s.fwd ∧
    (s.breakBuffer die p).rings = s.rings ∧ (s.breakBuffer die p).str = s.str ∧ (s.breakBuffer die p).alm = s.alm ∧
    (s.breakBuffer die p).allots = s.allots ∧ (s.breakBuffer die p).irq = s.irq ∧ (s.breakBuffer die p).mem = s.mem ∧
    (s.breakBuffer die p).flt = s.flt ∧ (s.breakBuffer die p).cal = s.cal ∧ (s.breakBuffer die p).gauge = s.gauge ∧
    (s.breakBuffer die p).mod = s.mod ∧ (s.breakBuffer die p).clk = s.clk ∧ (s.breakBuffer die p).boot = s.boot := by
  simp [State.breakBuffer, State.carve_kept ..]
theorem State.releaseCopy_kept (s : State) (die : Nat) (loc : Nat) (arg : Nat) (allot : Nat) (chain : Nat) (n : Nat) :
    (s.releaseCopy die loc arg allot chain n).now = s.now ∧
    (s.releaseCopy die loc arg allot chain n).pending = s.pending ∧
    (s.releaseCopy die loc arg allot chain n).answer = s.answer ∧
    (s.releaseCopy die loc arg allot chain n).emits = s.emits ∧
    (s.releaseCopy die loc arg allot chain n).fresh = s.fresh ∧
    (s.releaseCopy die loc arg allot chain n).links = s.links ∧
    (s.releaseCopy die loc arg allot chain n).shed = s.shed ∧
    (s.releaseCopy die loc arg allot chain n).copy = s.copy ∧ (s.releaseCopy die loc arg allot chain n).fwd = s.fwd ∧
    (s.releaseCopy die loc arg allot chain n).rings = s.rings ∧
    (s.releaseCopy die loc arg allot chain n).str = s.str ∧ (s.releaseCopy die loc arg allot chain n).alm = s.alm ∧
    (s.releaseCopy die loc arg allot chain n).allots = s.allots ∧
    (s.releaseCopy die loc arg allot chain n).irq = s.irq ∧ (s.releaseCopy die loc arg allot chain n).mem = s.mem ∧
    (s.releaseCopy die loc arg allot chain n).flt = s.flt ∧ (s.releaseCopy die loc arg allot chain n).cal = s.cal ∧
    (s.releaseCopy die loc arg allot chain n).gauge = s.gauge ∧
    (s.releaseCopy die loc arg allot chain n).mod = s.mod ∧ (s.releaseCopy die loc arg allot chain n).clk = s.clk ∧
    (s.releaseCopy die loc arg allot chain n).boot = s.boot := by
  simp [State.ite_kept .., State.releaseCopy, State.dropRef_kept .., State.giveBuffer_kept .., State.giveDeep_kept ..]
theorem State.logStack_kept (s : State) (d : Nat) (kind : Nat) (requester : Nat) (address : Nat) (syndrome : BitVec 32) :
    (s.logStack d kind requester address syndrome).now = s.now ∧
    (s.logStack d kind requester address syndrome).pending = s.pending ∧
    (s.logStack d kind requester address syndrome).answer = s.answer ∧
    (s.logStack d kind requester address syndrome).emits = s.emits ∧
    (s.logStack d kind requester address syndrome).fresh = s.fresh ∧
    (s.logStack d kind requester address syndrome).links = s.links ∧
    (s.logStack d kind requester address syndrome).shed = s.shed ∧
    (s.logStack d kind requester address syndrome).copy = s.copy ∧
    (s.logStack d kind requester address syndrome).fwd = s.fwd ∧
    (s.logStack d kind requester address syndrome).rings = s.rings ∧
    (s.logStack d kind requester address syndrome).str = s.str ∧
    (s.logStack d kind requester address syndrome).egr = s.egr ∧
    (s.logStack d kind requester address syndrome).alm = s.alm ∧
    (s.logStack d kind requester address syndrome).allots = s.allots ∧
    (s.logStack d kind requester address syndrome).irq = s.irq ∧
    (s.logStack d kind requester address syndrome).flt = s.flt ∧
    (s.logStack d kind requester address syndrome).cal = s.cal ∧
    (s.logStack d kind requester address syndrome).gauge = s.gauge ∧
    (s.logStack d kind requester address syndrome).mod = s.mod ∧
    (s.logStack d kind requester address syndrome).clk = s.clk ∧
    (s.logStack d kind requester address syndrome).boot = s.boot ∧
    (s.logStack d kind requester address syndrome).mem.exchange = s.mem.exchange ∧
    (s.logStack d kind requester address syndrome).mem.areas = s.mem.areas := by
  simp [State.modStack, State.logStack]
theorem State.sampleCoding_kept (s : State) (slot : Nat) (v : Nat) :
    (s.sampleCoding slot v).now = s.now ∧ (s.sampleCoding slot v).pending = s.pending ∧
    (s.sampleCoding slot v).answer = s.answer ∧ (s.sampleCoding slot v).emits = s.emits ∧
    (s.sampleCoding slot v).fresh = s.fresh ∧ (s.sampleCoding slot v).links = s.links ∧
    (s.sampleCoding slot v).shed = s.shed ∧ (s.sampleCoding slot v).copy = s.copy ∧
    (s.sampleCoding slot v).fwd = s.fwd ∧ (s.sampleCoding slot v).rings = s.rings ∧
    (s.sampleCoding slot v).egr = s.egr ∧ (s.sampleCoding slot v).alm = s.alm ∧
    (s.sampleCoding slot v).allots = s.allots ∧ (s.sampleCoding slot v).irq = s.irq ∧
    (s.sampleCoding slot v).mem = s.mem ∧ (s.sampleCoding slot v).flt = s.flt ∧ (s.sampleCoding slot v).cal = s.cal ∧
    (s.sampleCoding slot v).gauge = s.gauge ∧ (s.sampleCoding slot v).mod = s.mod ∧
    (s.sampleCoding slot v).clk = s.clk ∧ (s.sampleCoding slot v).boot = s.boot := by
  simp [State.modSlot, State.sampleCoding]
theorem State.sampleResidence_kept (s : State) (slot : Nat) (v : Nat) :
    (s.sampleResidence slot v).now = s.now ∧ (s.sampleResidence slot v).pending = s.pending ∧
    (s.sampleResidence slot v).answer = s.answer ∧ (s.sampleResidence slot v).emits = s.emits ∧
    (s.sampleResidence slot v).fresh = s.fresh ∧ (s.sampleResidence slot v).links = s.links ∧
    (s.sampleResidence slot v).shed = s.shed ∧ (s.sampleResidence slot v).copy = s.copy ∧
    (s.sampleResidence slot v).fwd = s.fwd ∧ (s.sampleResidence slot v).rings = s.rings ∧
    (s.sampleResidence slot v).egr = s.egr ∧ (s.sampleResidence slot v).alm = s.alm ∧
    (s.sampleResidence slot v).allots = s.allots ∧ (s.sampleResidence slot v).irq = s.irq ∧
    (s.sampleResidence slot v).mem = s.mem ∧ (s.sampleResidence slot v).flt = s.flt ∧
    (s.sampleResidence slot v).cal = s.cal ∧ (s.sampleResidence slot v).gauge = s.gauge ∧
    (s.sampleResidence slot v).mod = s.mod ∧ (s.sampleResidence slot v).clk = s.clk ∧
    (s.sampleResidence slot v).boot = s.boot := by
  simp [State.modSlot, State.sampleResidence]

/-! ## Egress.lean -/
theorem State.countPort_kept (s : State) (lp : Nat) (f : PortCounts → PortCounts) :
    (s.countPort lp f).now = s.now ∧ (s.countPort lp f).pending = s.pending ∧
    (s.countPort lp f).answer = s.answer ∧ (s.countPort lp f).emits = s.emits ∧
    (s.countPort lp f).fresh = s.fresh ∧ (s.countPort lp f).links = s.links ∧ (s.countPort lp f).shed = s.shed ∧
    (s.countPort lp f).copy = s.copy ∧ (s.countPort lp f).rings = s.rings ∧ (s.countPort lp f).str = s.str ∧
    (s.countPort lp f).egr = s.egr ∧ (s.countPort lp f).alm = s.alm ∧ (s.countPort lp f).allots = s.allots ∧
    (s.countPort lp f).irq = s.irq ∧ (s.countPort lp f).mem = s.mem ∧ (s.countPort lp f).flt = s.flt ∧
    (s.countPort lp f).cal = s.cal ∧ (s.countPort lp f).gauge = s.gauge ∧ (s.countPort lp f).mod = s.mod ∧
    (s.countPort lp f).clk = s.clk ∧ (s.countPort lp f).boot = s.boot := by
  simp [State.ite_kept .., State.countPort, State.modPort]
theorem State.countQueue_kept (s : State) (q : Nat) (f : Queue → Queue) :
    (s.countQueue q f).now = s.now ∧ (s.countQueue q f).pending = s.pending ∧
    (s.countQueue q f).answer = s.answer ∧ (s.countQueue q f).emits = s.emits ∧
    (s.countQueue q f).fresh = s.fresh ∧ (s.countQueue q f).links = s.links ∧ (s.countQueue q f).shed = s.shed ∧
    (s.countQueue q f).copy = s.copy ∧ (s.countQueue q f).fwd = s.fwd ∧ (s.countQueue q f).rings = s.rings ∧
    (s.countQueue q f).str = s.str ∧ (s.countQueue q f).alm = s.alm ∧ (s.countQueue q f).allots = s.allots ∧
    (s.countQueue q f).irq = s.irq ∧ (s.countQueue q f).mem = s.mem ∧ (s.countQueue q f).flt = s.flt ∧
    (s.countQueue q f).cal = s.cal ∧ (s.countQueue q f).gauge = s.gauge ∧ (s.countQueue q f).mod = s.mod ∧
    (s.countQueue q f).clk = s.clk ∧ (s.countQueue q f).boot = s.boot := by
  simp [State.ite_kept .., State.countQueue, State.modQueue]
theorem State.countGroup_kept (s : State) (k : Nat) (f : QGroup → QGroup) :
    (s.countGroup k f).now = s.now ∧ (s.countGroup k f).pending = s.pending ∧
    (s.countGroup k f).answer = s.answer ∧ (s.countGroup k f).emits = s.emits ∧
    (s.countGroup k f).fresh = s.fresh ∧ (s.countGroup k f).links = s.links ∧ (s.countGroup k f).shed = s.shed ∧
    (s.countGroup k f).copy = s.copy ∧ (s.countGroup k f).fwd = s.fwd ∧ (s.countGroup k f).rings = s.rings ∧
    (s.countGroup k f).str = s.str ∧ (s.countGroup k f).alm = s.alm ∧ (s.countGroup k f).allots = s.allots ∧
    (s.countGroup k f).irq = s.irq ∧ (s.countGroup k f).mem = s.mem ∧ (s.countGroup k f).flt = s.flt ∧
    (s.countGroup k f).cal = s.cal ∧ (s.countGroup k f).gauge = s.gauge ∧ (s.countGroup k f).mod = s.mod ∧
    (s.countGroup k f).clk = s.clk ∧ (s.countGroup k f).boot = s.boot := by
  simp [State.ite_kept .., State.countGroup, State.modQGroup]
theorem State.police_kept (s : State) (n : Nat) (f : Frame) :
    (s.police n f).2.now = s.now ∧ (s.police n f).2.pending = s.pending ∧ (s.police n f).2.answer = s.answer ∧
    (s.police n f).2.emits = s.emits ∧ (s.police n f).2.fresh = s.fresh ∧ (s.police n f).2.links = s.links ∧
    (s.police n f).2.shed = s.shed ∧ (s.police n f).2.copy = s.copy ∧ (s.police n f).2.fwd = s.fwd ∧
    (s.police n f).2.rings = s.rings ∧ (s.police n f).2.str = s.str ∧ (s.police n f).2.alm = s.alm ∧
    (s.police n f).2.allots = s.allots ∧ (s.police n f).2.irq = s.irq ∧ (s.police n f).2.mem = s.mem ∧
    (s.police n f).2.flt = s.flt ∧ (s.police n f).2.cal = s.cal ∧ (s.police n f).2.gauge = s.gauge ∧
    (s.police n f).2.mod = s.mod ∧ (s.police n f).2.clk = s.clk ∧ (s.police n f).2.boot = s.boot := by
  simp [State.modPolicer, State.police]
theorem State.gatesAt_kept (s : State) (lp : Nat) (t : Int) :
    (s.gatesAt lp t).pending = s.pending ∧ (s.gatesAt lp t).answer = s.answer ∧ (s.gatesAt lp t).emits = s.emits ∧
    (s.gatesAt lp t).fresh = s.fresh ∧ (s.gatesAt lp t).links = s.links ∧ (s.gatesAt lp t).shed = s.shed ∧
    (s.gatesAt lp t).copy = s.copy ∧ (s.gatesAt lp t).fwd = s.fwd ∧ (s.gatesAt lp t).rings = s.rings ∧
    (s.gatesAt lp t).str = s.str ∧ (s.gatesAt lp t).alm = s.alm ∧ (s.gatesAt lp t).allots = s.allots ∧
    (s.gatesAt lp t).irq = s.irq ∧ (s.gatesAt lp t).mem = s.mem ∧ (s.gatesAt lp t).flt = s.flt ∧
    (s.gatesAt lp t).cal = s.cal ∧ (s.gatesAt lp t).gauge = s.gauge ∧ (s.gatesAt lp t).mod = s.mod ∧
    (s.gatesAt lp t).clk = s.clk ∧ (s.gatesAt lp t).boot = s.boot := by
  simp [State.modGate, State.gatesAt]
theorem State.takeHead_kept (s : State) (q : Nat) :
    (s.takeHead q).now = s.now ∧ (s.takeHead q).pending = s.pending ∧ (s.takeHead q).answer = s.answer ∧
    (s.takeHead q).emits = s.emits ∧ (s.takeHead q).fresh = s.fresh ∧ (s.takeHead q).links = s.links ∧
    (s.takeHead q).shed = s.shed ∧ (s.takeHead q).copy = s.copy ∧ (s.takeHead q).fwd = s.fwd ∧
    (s.takeHead q).rings = s.rings ∧ (s.takeHead q).str = s.str ∧ (s.takeHead q).alm = s.alm ∧
    (s.takeHead q).allots = s.allots ∧ (s.takeHead q).irq = s.irq ∧ (s.takeHead q).mem = s.mem ∧
    (s.takeHead q).flt = s.flt ∧ (s.takeHead q).cal = s.cal ∧ (s.takeHead q).gauge = s.gauge ∧
    (s.takeHead q).mod = s.mod ∧ (s.takeHead q).clk = s.clk ∧ (s.takeHead q).boot = s.boot := by
  simp [State.ite_kept .., State.modQGroup, State.modQueue, State.takeHead]
theorem State.gateTrim_kept (s : State) (q : Nat) (k : Nat) :
    (s.gateTrim q k).now = s.now ∧ (s.gateTrim q k).pending = s.pending ∧ (s.gateTrim q k).answer = s.answer ∧
    (s.gateTrim q k).emits = s.emits ∧ (s.gateTrim q k).fresh = s.fresh ∧ (s.gateTrim q k).links = s.links ∧
    (s.gateTrim q k).shed = s.shed ∧ (s.gateTrim q k).copy = s.copy ∧ (s.gateTrim q k).fwd = s.fwd ∧
    (s.gateTrim q k).rings = s.rings ∧ (s.gateTrim q k).str = s.str ∧ (s.gateTrim q k).alm = s.alm ∧
    (s.gateTrim q k).allots = s.allots ∧ (s.gateTrim q k).irq = s.irq ∧ (s.gateTrim q k).mem = s.mem ∧
    (s.gateTrim q k).flt = s.flt ∧ (s.gateTrim q k).cal = s.cal ∧ (s.gateTrim q k).gauge = s.gauge ∧
    (s.gateTrim q k).mod = s.mod ∧ (s.gateTrim q k).clk = s.clk ∧ (s.gateTrim q k).boot = s.boot := by
  induction k generalizing s with
  | zero => simp [State.gateTrim]
  | succ k ih => simp only [State.gateTrim]; (repeat' split) <;> simp_all [State.ite_kept ..,
  State.takeHead_kept .., State.countQueue_kept .., State.releaseCopy_kept ..]
theorem State.trimHead_kept (s : State) (q : Nat) :
    (s.trimHead q).now = s.now ∧ (s.trimHead q).pending = s.pending ∧ (s.trimHead q).answer = s.answer ∧
    (s.trimHead q).emits = s.emits ∧ (s.trimHead q).fresh = s.fresh ∧ (s.trimHead q).links = s.links ∧
    (s.trimHead q).shed = s.shed ∧ (s.trimHead q).copy = s.copy ∧ (s.trimHead q).fwd = s.fwd ∧
    (s.trimHead q).rings = s.rings ∧ (s.trimHead q).str = s.str ∧ (s.trimHead q).alm = s.alm ∧
    (s.trimHead q).allots = s.allots ∧ (s.trimHead q).irq = s.irq ∧ (s.trimHead q).mem = s.mem ∧
    (s.trimHead q).flt = s.flt ∧ (s.trimHead q).cal = s.cal ∧ (s.trimHead q).gauge = s.gauge ∧
    (s.trimHead q).mod = s.mod ∧ (s.trimHead q).clk = s.clk ∧ (s.trimHead q).boot = s.boot := by
  simp [State.trimHead, State.gateTrim_kept ..]
theorem State.dropFull_kept (s : State) (q : Nat) :
    (s.dropFull q).now = s.now ∧ (s.dropFull q).pending = s.pending ∧ (s.dropFull q).answer = s.answer ∧
    (s.dropFull q).emits = s.emits ∧ (s.dropFull q).fresh = s.fresh ∧ (s.dropFull q).links = s.links ∧
    (s.dropFull q).shed = s.shed ∧ (s.dropFull q).copy = s.copy ∧ (s.dropFull q).fwd = s.fwd ∧
    (s.dropFull q).rings = s.rings ∧ (s.dropFull q).str = s.str ∧ (s.dropFull q).alm = s.alm ∧
    (s.dropFull q).allots = s.allots ∧ (s.dropFull q).irq = s.irq ∧ (s.dropFull q).mem = s.mem ∧
    (s.dropFull q).flt = s.flt ∧ (s.dropFull q).cal = s.cal ∧ (s.dropFull q).gauge = s.gauge ∧
    (s.dropFull q).mod = s.mod ∧ (s.dropFull q).clk = s.clk ∧ (s.dropFull q).boot = s.boot := by
  simp [State.ite_kept .., State.dropFull, State.countQueue_kept ..]
theorem State.putTail_kept (s : State) (q : Nat) (p : QPkt) :
    (s.putTail q p).now = s.now ∧ (s.putTail q p).pending = s.pending ∧ (s.putTail q p).answer = s.answer ∧
    (s.putTail q p).emits = s.emits ∧ (s.putTail q p).fresh = s.fresh ∧ (s.putTail q p).links = s.links ∧
    (s.putTail q p).shed = s.shed ∧ (s.putTail q p).copy = s.copy ∧ (s.putTail q p).fwd = s.fwd ∧
    (s.putTail q p).rings = s.rings ∧ (s.putTail q p).str = s.str ∧ (s.putTail q p).alm = s.alm ∧
    (s.putTail q p).allots = s.allots ∧ (s.putTail q p).irq = s.irq ∧ (s.putTail q p).mem = s.mem ∧
    (s.putTail q p).flt = s.flt ∧ (s.putTail q p).cal = s.cal ∧ (s.putTail q p).gauge = s.gauge ∧
    (s.putTail q p).mod = s.mod ∧ (s.putTail q p).clk = s.clk ∧ (s.putTail q p).boot = s.boot := by
  simp [State.ite_kept .., State.modQGroup, State.modQueue, State.putTail, State.trimHead_kept ..]
theorem State.enqueue_kept (s : State) (q : Nat) (p : QPkt) (ingress : Nat) :
    (s.enqueue q p ingress).now = s.now ∧ (s.enqueue q p ingress).pending = s.pending ∧
    (s.enqueue q p ingress).answer = s.answer ∧ (s.enqueue q p ingress).emits = s.emits ∧
    (s.enqueue q p ingress).fresh = s.fresh ∧ (s.enqueue q p ingress).links = s.links ∧
    (s.enqueue q p ingress).shed = s.shed ∧ (s.enqueue q p ingress).copy = s.copy ∧
    (s.enqueue q p ingress).rings = s.rings ∧ (s.enqueue q p ingress).str = s.str ∧
    (s.enqueue q p ingress).alm = s.alm ∧ (s.enqueue q p ingress).allots = s.allots ∧
    (s.enqueue q p ingress).irq = s.irq ∧ (s.enqueue q p ingress).mem = s.mem ∧
    (s.enqueue q p ingress).flt = s.flt ∧ (s.enqueue q p ingress).cal = s.cal ∧
    (s.enqueue q p ingress).gauge = s.gauge ∧ (s.enqueue q p ingress).mod = s.mod ∧
    (s.enqueue q p ingress).clk = s.clk ∧ (s.enqueue q p ingress).boot = s.boot := by
  simp only [State.enqueue]; (repeat' split) <;> simp [State.ite_kept .., State.dropFull_kept ..,
  State.dropRef_kept .., State.police_kept .., State.countQueue_kept .., State.countPort_kept ..,
  State.takeBuffer_kept .., State.putTail_kept .., State.takeDeep_kept ..]
theorem State.countWaits_kept (s : State) (lp : Nat) :
    (s.countWaits lp).now = s.now ∧ (s.countWaits lp).pending = s.pending ∧ (s.countWaits lp).answer = s.answer ∧
    (s.countWaits lp).emits = s.emits ∧ (s.countWaits lp).fresh = s.fresh ∧ (s.countWaits lp).links = s.links ∧
    (s.countWaits lp).shed = s.shed ∧ (s.countWaits lp).copy = s.copy ∧ (s.countWaits lp).fwd = s.fwd ∧
    (s.countWaits lp).rings = s.rings ∧ (s.countWaits lp).str = s.str ∧ (s.countWaits lp).alm = s.alm ∧
    (s.countWaits lp).allots = s.allots ∧ (s.countWaits lp).irq = s.irq ∧ (s.countWaits lp).mem = s.mem ∧
    (s.countWaits lp).flt = s.flt ∧ (s.countWaits lp).cal = s.cal ∧ (s.countWaits lp).gauge = s.gauge ∧
    (s.countWaits lp).mod = s.mod ∧ (s.countWaits lp).clk = s.clk ∧ (s.countWaits lp).boot = s.boot := by
  simp [State.ite_kept .., State.countWaits, State.countQueue_kept ..]

/-! ## Ports.lean -/
theorem State.signalFault_kept (s : State) (lp : Nat) (old : PortState) (new : PortState) :
    (s.signalFault lp old new).now = s.now ∧ (s.signalFault lp old new).pending = s.pending ∧
    (s.signalFault lp old new).answer = s.answer ∧ (s.signalFault lp old new).fresh = s.fresh ∧
    (s.signalFault lp old new).links = s.links ∧ (s.signalFault lp old new).shed = s.shed ∧
    (s.signalFault lp old new).copy = s.copy ∧ (s.signalFault lp old new).fwd = s.fwd ∧
    (s.signalFault lp old new).rings = s.rings ∧ (s.signalFault lp old new).str = s.str ∧
    (s.signalFault lp old new).egr = s.egr ∧ (s.signalFault lp old new).alm = s.alm ∧
    (s.signalFault lp old new).allots = s.allots ∧ (s.signalFault lp old new).irq = s.irq ∧
    (s.signalFault lp old new).mem = s.mem ∧ (s.signalFault lp old new).flt = s.flt ∧
    (s.signalFault lp old new).cal = s.cal ∧ (s.signalFault lp old new).gauge = s.gauge ∧
    (s.signalFault lp old new).mod = s.mod ∧ (s.signalFault lp old new).clk = s.clk ∧
    (s.signalFault lp old new).boot = s.boot := by
  simp [State.ite_kept .., State.signalFault, State.emit_kept ..]
theorem State.setPort_kept (s : State) (lp : Nat) (st : PortState) :
    (s.setPort lp st).now = s.now ∧ (s.setPort lp st).pending = s.pending ∧ (s.setPort lp st).answer = s.answer ∧
    (s.setPort lp st).fresh = s.fresh ∧ (s.setPort lp st).links = s.links ∧ (s.setPort lp st).shed = s.shed ∧
    (s.setPort lp st).copy = s.copy ∧ (s.setPort lp st).rings = s.rings ∧ (s.setPort lp st).str = s.str ∧
    (s.setPort lp st).egr = s.egr ∧ (s.setPort lp st).alm = s.alm ∧ (s.setPort lp st).mem = s.mem ∧
    (s.setPort lp st).flt = s.flt ∧ (s.setPort lp st).cal = s.cal ∧ (s.setPort lp st).gauge = s.gauge ∧
    (s.setPort lp st).mod = s.mod ∧ (s.setPort lp st).clk = s.clk ∧ (s.setPort lp st).boot = s.boot := by
  simp [State.ite_kept .., State.setPort, State.modPort, State.signalFault_kept .., State.raise_kept ..]
theorem State.enableChanged_kept (s : State) (lp : Nat) :
    (s.enableChanged lp).now = s.now ∧ (s.enableChanged lp).pending = s.pending ∧
    (s.enableChanged lp).answer = s.answer ∧ (s.enableChanged lp).fresh = s.fresh ∧
    (s.enableChanged lp).links = s.links ∧ (s.enableChanged lp).shed = s.shed ∧ (s.enableChanged lp).copy = s.copy ∧
    (s.enableChanged lp).rings = s.rings ∧ (s.enableChanged lp).str = s.str ∧ (s.enableChanged lp).egr = s.egr ∧
    (s.enableChanged lp).alm = s.alm ∧ (s.enableChanged lp).mem = s.mem ∧ (s.enableChanged lp).flt = s.flt ∧
    (s.enableChanged lp).cal = s.cal ∧ (s.enableChanged lp).gauge = s.gauge ∧ (s.enableChanged lp).mod = s.mod ∧
    (s.enableChanged lp).clk = s.clk ∧ (s.enableChanged lp).boot = s.boot := by
  simp [State.ite_kept .., State.enableChanged, State.setPort_kept ..]
theorem State.prunePorts_kept (s : State) (first : Nat) (count : Nat) :
    (s.prunePorts first count).now = s.now ∧ (s.prunePorts first count).pending = s.pending ∧
    (s.prunePorts first count).answer = s.answer ∧ (s.prunePorts first count).fresh = s.fresh ∧
    (s.prunePorts first count).links = s.links ∧ (s.prunePorts first count).shed = s.shed ∧
    (s.prunePorts first count).copy = s.copy ∧ (s.prunePorts first count).rings = s.rings ∧
    (s.prunePorts first count).str = s.str ∧ (s.prunePorts first count).egr = s.egr ∧
    (s.prunePorts first count).alm = s.alm ∧ (s.prunePorts first count).mem = s.mem ∧
    (s.prunePorts first count).flt = s.flt ∧ (s.prunePorts first count).cal = s.cal ∧
    (s.prunePorts first count).gauge = s.gauge ∧ (s.prunePorts first count).mod = s.mod ∧
    (s.prunePorts first count).clk = s.clk ∧ (s.prunePorts first count).boot = s.boot := by
  simp [State.prunePorts, State.setPort_kept ..]
theorem State.returnPorts_kept (s : State) (first : Nat) (count : Nat) :
    (s.returnPorts first count).now = s.now ∧ (s.returnPorts first count).pending = s.pending ∧
    (s.returnPorts first count).answer = s.answer ∧ (s.returnPorts first count).fresh = s.fresh ∧
    (s.returnPorts first count).links = s.links ∧ (s.returnPorts first count).shed = s.shed ∧
    (s.returnPorts first count).copy = s.copy ∧ (s.returnPorts first count).rings = s.rings ∧
    (s.returnPorts first count).str = s.str ∧ (s.returnPorts first count).egr = s.egr ∧
    (s.returnPorts first count).alm = s.alm ∧ (s.returnPorts first count).mem = s.mem ∧
    (s.returnPorts first count).flt = s.flt ∧ (s.returnPorts first count).cal = s.cal ∧
    (s.returnPorts first count).gauge = s.gauge ∧ (s.returnPorts first count).mod = s.mod ∧
    (s.returnPorts first count).clk = s.clk ∧ (s.returnPorts first count).boot = s.boot := by
  simp [State.ite_kept .., State.returnPorts, State.setPort_kept ..]
theorem State.zeroUnused_kept (s : State) (lp : Nat) :
    (s.zeroUnused lp).now = s.now ∧ (s.zeroUnused lp).pending = s.pending ∧ (s.zeroUnused lp).answer = s.answer ∧
    (s.zeroUnused lp).emits = s.emits ∧ (s.zeroUnused lp).fresh = s.fresh ∧ (s.zeroUnused lp).links = s.links ∧
    (s.zeroUnused lp).shed = s.shed ∧ (s.zeroUnused lp).copy = s.copy ∧ (s.zeroUnused lp).rings = s.rings ∧
    (s.zeroUnused lp).str = s.str ∧ (s.zeroUnused lp).alm = s.alm ∧ (s.zeroUnused lp).allots = s.allots ∧
    (s.zeroUnused lp).irq = s.irq ∧ (s.zeroUnused lp).mem = s.mem ∧ (s.zeroUnused lp).flt = s.flt ∧
    (s.zeroUnused lp).cal = s.cal ∧ (s.zeroUnused lp).gauge = s.gauge ∧ (s.zeroUnused lp).mod = s.mod ∧
    (s.zeroUnused lp).clk = s.clk ∧ (s.zeroUnused lp).boot = s.boot := by
  simp [State.ite_kept .., State.zeroUnused]
theorem State.rebreak_kept (s : State) (fp : Nat) (code : Nat) :
    (s.rebreak fp code).now = s.now ∧ (s.rebreak fp code).pending = s.pending ∧
    (s.rebreak fp code).answer = s.answer ∧ (s.rebreak fp code).fresh = s.fresh ∧
    (s.rebreak fp code).links = s.links ∧ (s.rebreak fp code).shed = s.shed ∧ (s.rebreak fp code).copy = s.copy ∧
    (s.rebreak fp code).rings = s.rings ∧ (s.rebreak fp code).str = s.str ∧ (s.rebreak fp code).mem = s.mem ∧
    (s.rebreak fp code).flt = s.flt ∧ (s.rebreak fp code).cal = s.cal ∧ (s.rebreak fp code).gauge = s.gauge ∧
    (s.rebreak fp code).mod = s.mod ∧ (s.rebreak fp code).clk = s.clk ∧ (s.rebreak fp code).boot = s.boot := by
  simp [State.ite_kept .., State.rebreak, State.setCfgN_kept .., State.setPort_kept .., State.zeroUnused_kept ..]
theorem State.portLost_kept (s : State) (lp : Nat) :
    (s.portLost lp).now = s.now ∧ (s.portLost lp).pending = s.pending ∧ (s.portLost lp).answer = s.answer ∧
    (s.portLost lp).fresh = s.fresh ∧ (s.portLost lp).links = s.links ∧ (s.portLost lp).shed = s.shed ∧
    (s.portLost lp).copy = s.copy ∧ (s.portLost lp).rings = s.rings ∧ (s.portLost lp).str = s.str ∧
    (s.portLost lp).egr = s.egr ∧ (s.portLost lp).alm = s.alm ∧ (s.portLost lp).mem = s.mem ∧
    (s.portLost lp).flt = s.flt ∧ (s.portLost lp).cal = s.cal ∧ (s.portLost lp).gauge = s.gauge ∧
    (s.portLost lp).mod = s.mod ∧ (s.portLost lp).clk = s.clk ∧ (s.portLost lp).boot = s.boot := by
  simp only [State.portLost]; (repeat' split) <;> simp [State.modPort, State.setPort_kept ..]
theorem State.portAligned_kept (s : State) (lp : Nat) :
    (s.portAligned lp).now = s.now ∧ (s.portAligned lp).pending = s.pending ∧ (s.portAligned lp).answer = s.answer ∧
    (s.portAligned lp).fresh = s.fresh ∧ (s.portAligned lp).links = s.links ∧ (s.portAligned lp).shed = s.shed ∧
    (s.portAligned lp).copy = s.copy ∧ (s.portAligned lp).rings = s.rings ∧ (s.portAligned lp).str = s.str ∧
    (s.portAligned lp).egr = s.egr ∧ (s.portAligned lp).alm = s.alm ∧ (s.portAligned lp).mem = s.mem ∧
    (s.portAligned lp).flt = s.flt ∧ (s.portAligned lp).cal = s.cal ∧ (s.portAligned lp).gauge = s.gauge ∧
    (s.portAligned lp).mod = s.mod ∧ (s.portAligned lp).clk = s.clk ∧ (s.portAligned lp).boot = s.boot := by
  simp [State.ite_kept .., State.portAligned, State.setPort_kept ..]
theorem State.interruptPair_kept (s : State) (p : Nat) (until_ : Nat) :
    (s.interruptPair p until_).now = s.now ∧ (s.interruptPair p until_).pending = s.pending ∧
    (s.interruptPair p until_).answer = s.answer ∧ (s.interruptPair p until_).emits = s.emits ∧
    (s.interruptPair p until_).fresh = s.fresh ∧ (s.interruptPair p until_).links = s.links ∧
    (s.interruptPair p until_).shed = s.shed ∧ (s.interruptPair p until_).copy = s.copy ∧
    (s.interruptPair p until_).rings = s.rings ∧ (s.interruptPair p until_).str = s.str ∧
    (s.interruptPair p until_).egr = s.egr ∧ (s.interruptPair p until_).alm = s.alm ∧
    (s.interruptPair p until_).allots = s.allots ∧ (s.interruptPair p until_).irq = s.irq ∧
    (s.interruptPair p until_).mem = s.mem ∧ (s.interruptPair p until_).flt = s.flt ∧
    (s.interruptPair p until_).gauge = s.gauge ∧ (s.interruptPair p until_).mod = s.mod ∧
    (s.interruptPair p until_).clk = s.clk ∧ (s.interruptPair p until_).boot = s.boot := by
  simp [State.interruptPair]
theorem State.nextBatch_kept (s : State) :
    s.nextBatch.now = s.now ∧ s.nextBatch.pending = s.pending ∧ s.nextBatch.answer = s.answer ∧
    s.nextBatch.emits = s.emits ∧ s.nextBatch.fresh = s.fresh ∧ s.nextBatch.links = s.links ∧
    s.nextBatch.shed = s.shed ∧ s.nextBatch.copy = s.copy ∧ s.nextBatch.rings = s.rings ∧ s.nextBatch.str = s.str ∧
    s.nextBatch.egr = s.egr ∧ s.nextBatch.alm = s.alm ∧ s.nextBatch.allots = s.allots ∧ s.nextBatch.irq = s.irq ∧
    s.nextBatch.mem = s.mem ∧ s.nextBatch.flt = s.flt ∧ s.nextBatch.gauge = s.gauge ∧ s.nextBatch.mod = s.mod ∧
    s.nextBatch.clk = s.clk ∧ s.nextBatch.boot = s.boot := by
  simp [State.ite_kept .., State.nextBatch, State.interruptPair_kept ..]
theorem State.fecEnd_kept (s : State) (lp : Nat) (corrected : Nat) (uncorrectable : Nat) :
    (s.fecEnd lp corrected uncorrectable).now = s.now ∧ (s.fecEnd lp corrected uncorrectable).pending = s.pending ∧
    (s.fecEnd lp corrected uncorrectable).answer = s.answer ∧ (s.fecEnd lp corrected uncorrectable).fresh = s.fresh ∧
    (s.fecEnd lp corrected uncorrectable).links = s.links ∧ (s.fecEnd lp corrected uncorrectable).shed = s.shed ∧
    (s.fecEnd lp corrected uncorrectable).copy = s.copy ∧ (s.fecEnd lp corrected uncorrectable).rings = s.rings ∧
    (s.fecEnd lp corrected uncorrectable).str = s.str ∧ (s.fecEnd lp corrected uncorrectable).egr = s.egr ∧
    (s.fecEnd lp corrected uncorrectable).alm = s.alm ∧ (s.fecEnd lp corrected uncorrectable).mem = s.mem ∧
    (s.fecEnd lp corrected uncorrectable).flt = s.flt ∧ (s.fecEnd lp corrected uncorrectable).cal = s.cal ∧
    (s.fecEnd lp corrected uncorrectable).gauge = s.gauge ∧ (s.fecEnd lp corrected uncorrectable).mod = s.mod ∧
    (s.fecEnd lp corrected uncorrectable).clk = s.clk ∧ (s.fecEnd lp corrected uncorrectable).boot = s.boot := by
  simp [State.ite_kept .., State.modPort, State.fecEnd, State.countPort_kept .., State.setPort_kept ..]
theorem State.pfcArrived_kept (s : State) (lp : Nat) (pfc : List (Nat × Nat)) :
    (s.pfcArrived lp pfc).now = s.now ∧ (s.pfcArrived lp pfc).pending = s.pending ∧
    (s.pfcArrived lp pfc).answer = s.answer ∧ (s.pfcArrived lp pfc).emits = s.emits ∧
    (s.pfcArrived lp pfc).fresh = s.fresh ∧ (s.pfcArrived lp pfc).links = s.links ∧
    (s.pfcArrived lp pfc).shed = s.shed ∧ (s.pfcArrived lp pfc).copy = s.copy ∧
    (s.pfcArrived lp pfc).rings = s.rings ∧ (s.pfcArrived lp pfc).str = s.str ∧ (s.pfcArrived lp pfc).egr = s.egr ∧
    (s.pfcArrived lp pfc).alm = s.alm ∧ (s.pfcArrived lp pfc).allots = s.allots ∧ (s.pfcArrived lp pfc).irq = s.irq ∧
    (s.pfcArrived lp pfc).mem = s.mem ∧ (s.pfcArrived lp pfc).flt = s.flt ∧ (s.pfcArrived lp pfc).cal = s.cal ∧
    (s.pfcArrived lp pfc).gauge = s.gauge ∧ (s.pfcArrived lp pfc).mod = s.mod ∧ (s.pfcArrived lp pfc).clk = s.clk ∧
    (s.pfcArrived lp pfc).boot = s.boot := by
  simp [State.ite_kept .., State.pfcArrived]
theorem State.pfcEnd_kept (s : State) (lp : Nat) (prio : Nat) :
    (s.pfcEnd lp prio).now = s.now ∧ (s.pfcEnd lp prio).pending = s.pending ∧ (s.pfcEnd lp prio).answer = s.answer ∧
    (s.pfcEnd lp prio).emits = s.emits ∧ (s.pfcEnd lp prio).fresh = s.fresh ∧ (s.pfcEnd lp prio).links = s.links ∧
    (s.pfcEnd lp prio).shed = s.shed ∧ (s.pfcEnd lp prio).copy = s.copy ∧ (s.pfcEnd lp prio).rings = s.rings ∧
    (s.pfcEnd lp prio).str = s.str ∧ (s.pfcEnd lp prio).egr = s.egr ∧ (s.pfcEnd lp prio).alm = s.alm ∧
    (s.pfcEnd lp prio).allots = s.allots ∧ (s.pfcEnd lp prio).irq = s.irq ∧ (s.pfcEnd lp prio).mem = s.mem ∧
    (s.pfcEnd lp prio).flt = s.flt ∧ (s.pfcEnd lp prio).cal = s.cal ∧ (s.pfcEnd lp prio).gauge = s.gauge ∧
    (s.pfcEnd lp prio).mod = s.mod ∧ (s.pfcEnd lp prio).clk = s.clk ∧ (s.pfcEnd lp prio).boot = s.boot := by
  simp [State.modPort, State.pfcEnd]

/-! ## Forwarding.lean -/
theorem State.peerDelay_kept (s : State) (f : Frame) :
    (s.peerDelay f).now = s.now ∧ (s.peerDelay f).pending = s.pending ∧ (s.peerDelay f).answer = s.answer ∧
    (s.peerDelay f).emits = s.emits ∧ (s.peerDelay f).fresh = s.fresh ∧ (s.peerDelay f).links = s.links ∧
    (s.peerDelay f).shed = s.shed ∧ (s.peerDelay f).copy = s.copy ∧ (s.peerDelay f).fwd = s.fwd ∧
    (s.peerDelay f).rings = s.rings ∧ (s.peerDelay f).str = s.str ∧ (s.peerDelay f).egr = s.egr ∧
    (s.peerDelay f).alm = s.alm ∧ (s.peerDelay f).allots = s.allots ∧ (s.peerDelay f).irq = s.irq ∧
    (s.peerDelay f).mem = s.mem ∧ (s.peerDelay f).flt = s.flt ∧ (s.peerDelay f).cal = s.cal ∧
    (s.peerDelay f).gauge = s.gauge ∧ (s.peerDelay f).mod = s.mod ∧ (s.peerDelay f).boot = s.boot := by
  simp [State.ite_kept .., State.peerDelay]
theorem State.ptpFrame_kept (s : State) (lp : Nat) (f : Frame) :
    (s.ptpFrame lp f).now = s.now ∧ (s.ptpFrame lp f).pending = s.pending ∧ (s.ptpFrame lp f).answer = s.answer ∧
    (s.ptpFrame lp f).fresh = s.fresh ∧ (s.ptpFrame lp f).links = s.links ∧ (s.ptpFrame lp f).shed = s.shed ∧
    (s.ptpFrame lp f).copy = s.copy ∧ (s.ptpFrame lp f).fwd = s.fwd ∧ (s.ptpFrame lp f).rings = s.rings ∧
    (s.ptpFrame lp f).str = s.str ∧ (s.ptpFrame lp f).egr = s.egr ∧ (s.ptpFrame lp f).alm = s.alm ∧
    (s.ptpFrame lp f).allots = s.allots ∧ (s.ptpFrame lp f).irq = s.irq ∧ (s.ptpFrame lp f).mem = s.mem ∧
    (s.ptpFrame lp f).flt = s.flt ∧ (s.ptpFrame lp f).cal = s.cal ∧ (s.ptpFrame lp f).gauge = s.gauge ∧
    (s.ptpFrame lp f).mod = s.mod ∧ (s.ptpFrame lp f).boot = s.boot := by
  simp [State.ite_kept .., State.ptpFrame, State.peerDelay_kept .., State.emit_kept ..]
theorem State.deliver_kept (s : State) (die : Nat) (chain : Nat) (ingress : Nat) (allot : Nat) (f : Frame) (w : DeliveryWord) (own : Option Own) :
    (s.deliver die chain ingress allot f w own).now = s.now ∧
    (s.deliver die chain ingress allot f w own).pending = s.pending ∧
    (s.deliver die chain ingress allot f w own).answer = s.answer ∧
    (s.deliver die chain ingress allot f w own).emits = s.emits ∧
    (s.deliver die chain ingress allot f w own).links = s.links ∧
    (s.deliver die chain ingress allot f w own).shed = s.shed ∧
    (s.deliver die chain ingress allot f w own).copy = s.copy ∧
    (s.deliver die chain ingress allot f w own).rings = s.rings ∧
    (s.deliver die chain ingress allot f w own).str = s.str ∧
    (s.deliver die chain ingress allot f w own).alm = s.alm ∧
    (s.deliver die chain ingress allot f w own).allots = s.allots ∧
    (s.deliver die chain ingress allot f w own).irq = s.irq ∧
    (s.deliver die chain ingress allot f w own).mem = s.mem ∧
    (s.deliver die chain ingress allot f w own).flt = s.flt ∧
    (s.deliver die chain ingress allot f w own).cal = s.cal ∧
    (s.deliver die chain ingress allot f w own).gauge = s.gauge ∧
    (s.deliver die chain ingress allot f w own).mod = s.mod ∧
    (s.deliver die chain ingress allot f w own).clk = s.clk ∧
    (s.deliver die chain ingress allot f w own).boot = s.boot := by
  simp [State.ite_kept .., State.refresh, State.deliver, State.addRef_kept .., State.enqueue_kept ..]
theorem State.noteFailed_kept (s : State) (die : Nat) (pl : Nat) (failed : List Nat) :
    (s.noteFailed die pl failed).now = s.now ∧ (s.noteFailed die pl failed).pending = s.pending ∧
    (s.noteFailed die pl failed).answer = s.answer ∧ (s.noteFailed die pl failed).emits = s.emits ∧
    (s.noteFailed die pl failed).fresh = s.fresh ∧ (s.noteFailed die pl failed).links = s.links ∧
    (s.noteFailed die pl failed).shed = s.shed ∧ (s.noteFailed die pl failed).copy = s.copy ∧
    (s.noteFailed die pl failed).rings = s.rings ∧ (s.noteFailed die pl failed).str = s.str ∧
    (s.noteFailed die pl failed).egr = s.egr ∧ (s.noteFailed die pl failed).alm = s.alm ∧
    (s.noteFailed die pl failed).allots = s.allots ∧ (s.noteFailed die pl failed).irq = s.irq ∧
    (s.noteFailed die pl failed).mem = s.mem ∧ (s.noteFailed die pl failed).flt = s.flt ∧
    (s.noteFailed die pl failed).cal = s.cal ∧ (s.noteFailed die pl failed).gauge = s.gauge ∧
    (s.noteFailed die pl failed).mod = s.mod ∧ (s.noteFailed die pl failed).clk = s.clk ∧
    (s.noteFailed die pl failed).boot = s.boot := by
  simp [State.noteFailed]
theorem State.crossDrop_kept (s : State) (toDie : Nat) (pl : Nat) :
    (s.crossDrop toDie pl).now = s.now ∧ (s.crossDrop toDie pl).pending = s.pending ∧
    (s.crossDrop toDie pl).answer = s.answer ∧ (s.crossDrop toDie pl).fresh = s.fresh ∧
    (s.crossDrop toDie pl).links = s.links ∧ (s.crossDrop toDie pl).shed = s.shed ∧
    (s.crossDrop toDie pl).copy = s.copy ∧ (s.crossDrop toDie pl).fwd = s.fwd ∧
    (s.crossDrop toDie pl).rings = s.rings ∧ (s.crossDrop toDie pl).str = s.str ∧ (s.crossDrop toDie pl).alm = s.alm ∧
    (s.crossDrop toDie pl).mem = s.mem ∧ (s.crossDrop toDie pl).flt = s.flt ∧ (s.crossDrop toDie pl).cal = s.cal ∧
    (s.crossDrop toDie pl).gauge = s.gauge ∧ (s.crossDrop toDie pl).mod = s.mod ∧ (s.crossDrop toDie pl).clk = s.clk ∧
    (s.crossDrop toDie pl).boot = s.boot := by
  simp [State.crossDrop, State.raise_kept ..]
theorem State.cross_kept (s : State) (die : Nat) (chain : Nat) (lp : Nat) (allot : Nat) (f : Frame) (d : CrossDest) (own : Option Own) :
    (s.cross die chain lp allot f d own).now = s.now ∧ (s.cross die chain lp allot f d own).pending = s.pending ∧
    (s.cross die chain lp allot f d own).answer = s.answer ∧ (s.cross die chain lp allot f d own).fresh = s.fresh ∧
    (s.cross die chain lp allot f d own).links = s.links ∧ (s.cross die chain lp allot f d own).shed = s.shed ∧
    (s.cross die chain lp allot f d own).copy = s.copy ∧ (s.cross die chain lp allot f d own).fwd = s.fwd ∧
    (s.cross die chain lp allot f d own).rings = s.rings ∧ (s.cross die chain lp allot f d own).str = s.str ∧
    (s.cross die chain lp allot f d own).alm = s.alm ∧ (s.cross die chain lp allot f d own).mem = s.mem ∧
    (s.cross die chain lp allot f d own).flt = s.flt ∧ (s.cross die chain lp allot f d own).cal = s.cal ∧
    (s.cross die chain lp allot f d own).gauge = s.gauge ∧ (s.cross die chain lp allot f d own).mod = s.mod ∧
    (s.cross die chain lp allot f d own).clk = s.clk ∧ (s.cross die chain lp allot f d own).boot = s.boot := by
  simp [State.ite_kept .., State.cross, State.addRef_kept .., State.crossDrop_kept ..]
theorem State.store_kept {s : State} {lp : Nat} {f : Frame} {r : Nat × State} (h : s.store lp f = some r) :
    r.2.now = s.now ∧
    r.2.pending = s.pending ∧
    r.2.answer = s.answer ∧
    r.2.emits = s.emits ∧
    r.2.fresh = s.fresh ∧
    r.2.links = s.links ∧
    r.2.shed = s.shed ∧
    r.2.copy = s.copy ∧
    r.2.fwd = s.fwd ∧
    r.2.rings = s.rings ∧
    r.2.str = s.str ∧
    r.2.alm = s.alm ∧
    r.2.allots = s.allots ∧
    r.2.irq = s.irq ∧
    r.2.mem = s.mem ∧
    r.2.flt = s.flt ∧
    r.2.cal = s.cal ∧
    r.2.gauge = s.gauge ∧
    r.2.mod = s.mod ∧
    r.2.clk = s.clk ∧
    r.2.boot = s.boot := by
  simp only [State.store] at h
  split at h
  · cases h; simp [State.newChain_kept ..]
  · cases h
theorem State.storeDrop_kept (s : State) (lp : Nat) :
    (s.storeDrop lp).now = s.now ∧ (s.storeDrop lp).pending = s.pending ∧ (s.storeDrop lp).answer = s.answer ∧
    (s.storeDrop lp).emits = s.emits ∧ (s.storeDrop lp).fresh = s.fresh ∧ (s.storeDrop lp).links = s.links ∧
    (s.storeDrop lp).shed = s.shed ∧ (s.storeDrop lp).copy = s.copy ∧ (s.storeDrop lp).rings = s.rings ∧
    (s.storeDrop lp).str = s.str ∧ (s.storeDrop lp).egr = s.egr ∧ (s.storeDrop lp).alm = s.alm ∧
    (s.storeDrop lp).allots = s.allots ∧ (s.storeDrop lp).irq = s.irq ∧ (s.storeDrop lp).mem = s.mem ∧
    (s.storeDrop lp).flt = s.flt ∧ (s.storeDrop lp).cal = s.cal ∧ (s.storeDrop lp).gauge = s.gauge ∧
    (s.storeDrop lp).mod = s.mod ∧ (s.storeDrop lp).clk = s.clk ∧ (s.storeDrop lp).boot = s.boot := by
  simp [State.storeDrop, State.countPort_kept ..]
theorem State.forwardFlow_kept (s : State) (pl : Nat) (lp : Nat) (x : Flow) (f : Frame) (upset : List Nat) :
    (s.forwardFlow pl lp x f upset).now = s.now ∧ (s.forwardFlow pl lp x f upset).pending = s.pending ∧
    (s.forwardFlow pl lp x f upset).answer = s.answer ∧ (s.forwardFlow pl lp x f upset).links = s.links ∧
    (s.forwardFlow pl lp x f upset).shed = s.shed ∧ (s.forwardFlow pl lp x f upset).copy = s.copy ∧
    (s.forwardFlow pl lp x f upset).rings = s.rings ∧ (s.forwardFlow pl lp x f upset).str = s.str ∧
    (s.forwardFlow pl lp x f upset).alm = s.alm ∧ (s.forwardFlow pl lp x f upset).mem = s.mem ∧
    (s.forwardFlow pl lp x f upset).flt = s.flt ∧ (s.forwardFlow pl lp x f upset).cal = s.cal ∧
    (s.forwardFlow pl lp x f upset).gauge = s.gauge ∧ (s.forwardFlow pl lp x f upset).mod = s.mod ∧
    (s.forwardFlow pl lp x f upset).clk = s.clk ∧ (s.forwardFlow pl lp x f upset).boot = s.boot := by
  simp only [State.forwardFlow]
  split
  · simp [State.cross_kept .., State.deliver_kept .., State.dropRef_kept .., State.noteFailed_kept ..,
      State.police_kept ..,
      State.storeDrop_kept ..]
  · rename_i h
    have k := State.store_kept h
    (repeat' split) <;> simp_all [State.cross_kept .., State.deliver_kept .., State.dropRef_kept ..,
        State.noteFailed_kept ..,
        State.police_kept .., State.storeDrop_kept ..]
theorem State.deliverL2_kept (s : State) (chain : Nat) (ingress : Nat) (allot : Nat) (vid : Nat) (f : Frame) (dst : Nat) :
    (s.deliverL2 chain ingress allot vid f dst).now = s.now ∧
    (s.deliverL2 chain ingress allot vid f dst).pending = s.pending ∧
    (s.deliverL2 chain ingress allot vid f dst).answer = s.answer ∧
    (s.deliverL2 chain ingress allot vid f dst).emits = s.emits ∧
    (s.deliverL2 chain ingress allot vid f dst).fresh = s.fresh ∧
    (s.deliverL2 chain ingress allot vid f dst).links = s.links ∧
    (s.deliverL2 chain ingress allot vid f dst).shed = s.shed ∧
    (s.deliverL2 chain ingress allot vid f dst).copy = s.copy ∧
    (s.deliverL2 chain ingress allot vid f dst).rings = s.rings ∧
    (s.deliverL2 chain ingress allot vid f dst).str = s.str ∧
    (s.deliverL2 chain ingress allot vid f dst).alm = s.alm ∧
    (s.deliverL2 chain ingress allot vid f dst).allots = s.allots ∧
    (s.deliverL2 chain ingress allot vid f dst).irq = s.irq ∧
    (s.deliverL2 chain ingress allot vid f dst).mem = s.mem ∧
    (s.deliverL2 chain ingress allot vid f dst).flt = s.flt ∧
    (s.deliverL2 chain ingress allot vid f dst).cal = s.cal ∧
    (s.deliverL2 chain ingress allot vid f dst).gauge = s.gauge ∧
    (s.deliverL2 chain ingress allot vid f dst).mod = s.mod ∧
    (s.deliverL2 chain ingress allot vid f dst).clk = s.clk ∧
    (s.deliverL2 chain ingress allot vid f dst).boot = s.boot := by
  simp [State.ite_kept .., State.deliverL2, State.addRef_kept .., State.enqueue_kept ..]
theorem State.floodAllowed_kept (s : State) (vid : Nat) :
    (s.floodAllowed vid).2.now = s.now ∧ (s.floodAllowed vid).2.pending = s.pending ∧
    (s.floodAllowed vid).2.answer = s.answer ∧ (s.floodAllowed vid).2.emits = s.emits ∧
    (s.floodAllowed vid).2.fresh = s.fresh ∧ (s.floodAllowed vid).2.links = s.links ∧
    (s.floodAllowed vid).2.shed = s.shed ∧ (s.floodAllowed vid).2.copy = s.copy ∧
    (s.floodAllowed vid).2.rings = s.rings ∧ (s.floodAllowed vid).2.str = s.str ∧ (s.floodAllowed vid).2.egr = s.egr ∧
    (s.floodAllowed vid).2.alm = s.alm ∧ (s.floodAllowed vid).2.allots = s.allots ∧
    (s.floodAllowed vid).2.irq = s.irq ∧ (s.floodAllowed vid).2.mem = s.mem ∧ (s.floodAllowed vid).2.flt = s.flt ∧
    (s.floodAllowed vid).2.cal = s.cal ∧ (s.floodAllowed vid).2.gauge = s.gauge ∧ (s.floodAllowed vid).2.mod = s.mod ∧
    (s.floodAllowed vid).2.clk = s.clk ∧ (s.floodAllowed vid).2.boot = s.boot := by
  simp [State.ite_kept .., State.modVlan, State.floodAllowed]
theorem State.forwardL2_kept (s : State) (lp : Nat) (vid : Nat) (f : Frame) (ports : List Nat) (d : CrossDest) :
    (s.forwardL2 lp vid f ports d).now = s.now ∧ (s.forwardL2 lp vid f ports d).pending = s.pending ∧
    (s.forwardL2 lp vid f ports d).answer = s.answer ∧ (s.forwardL2 lp vid f ports d).fresh = s.fresh ∧
    (s.forwardL2 lp vid f ports d).links = s.links ∧ (s.forwardL2 lp vid f ports d).shed = s.shed ∧
    (s.forwardL2 lp vid f ports d).copy = s.copy ∧ (s.forwardL2 lp vid f ports d).rings = s.rings ∧
    (s.forwardL2 lp vid f ports d).str = s.str ∧ (s.forwardL2 lp vid f ports d).alm = s.alm ∧
    (s.forwardL2 lp vid f ports d).mem = s.mem ∧ (s.forwardL2 lp vid f ports d).flt = s.flt ∧
    (s.forwardL2 lp vid f ports d).cal = s.cal ∧ (s.forwardL2 lp vid f ports d).gauge = s.gauge ∧
    (s.forwardL2 lp vid f ports d).mod = s.mod ∧ (s.forwardL2 lp vid f ports d).clk = s.clk ∧
    (s.forwardL2 lp vid f ports d).boot = s.boot := by
  simp only [State.forwardL2]
  split
  · simp [State.cross_kept .., State.deliverL2_kept .., State.dropRef_kept .., State.storeDrop_kept ..]
  · rename_i h
    have k := State.store_kept h
    (repeat' split) <;> simp_all [State.cross_kept .., State.deliverL2_kept .., State.dropRef_kept ..,
        State.storeDrop_kept ..]
theorem State.flood_kept (s : State) (lp : Nat) (f : Frame) (lost : Bool) :
    (s.flood lp f lost).now = s.now ∧ (s.flood lp f lost).pending = s.pending ∧
    (s.flood lp f lost).answer = s.answer ∧ (s.flood lp f lost).fresh = s.fresh ∧
    (s.flood lp f lost).links = s.links ∧ (s.flood lp f lost).shed = s.shed ∧ (s.flood lp f lost).copy = s.copy ∧
    (s.flood lp f lost).rings = s.rings ∧ (s.flood lp f lost).str = s.str ∧ (s.flood lp f lost).alm = s.alm ∧
    (s.flood lp f lost).mem = s.mem ∧ (s.flood lp f lost).flt = s.flt ∧ (s.flood lp f lost).cal = s.cal ∧
    (s.flood lp f lost).gauge = s.gauge ∧ (s.flood lp f lost).mod = s.mod ∧ (s.flood lp f lost).clk = s.clk ∧
    (s.flood lp f lost).boot = s.boot := by
  simp [State.ite_kept .., State.flood, State.floodAllowed_kept .., State.forwardL2_kept ..]
theorem State.learnNew_kept (s : State) (pl : Nat) (lp : Nat) (f : Frame) :
    (s.learnNew pl lp f).now = s.now ∧ (s.learnNew pl lp f).pending = s.pending ∧
    (s.learnNew pl lp f).answer = s.answer ∧ (s.learnNew pl lp f).fresh = s.fresh ∧
    (s.learnNew pl lp f).links = s.links ∧ (s.learnNew pl lp f).shed = s.shed ∧
    (s.learnNew pl lp f).copy = s.copy ∧ (s.learnNew pl lp f).rings = s.rings ∧ (s.learnNew pl lp f).str = s.str ∧
    (s.learnNew pl lp f).egr = s.egr ∧ (s.learnNew pl lp f).alm = s.alm ∧ (s.learnNew pl lp f).mem = s.mem ∧
    (s.learnNew pl lp f).flt = s.flt ∧ (s.learnNew pl lp f).cal = s.cal ∧ (s.learnNew pl lp f).gauge = s.gauge ∧
    (s.learnNew pl lp f).mod = s.mod ∧ (s.learnNew pl lp f).clk = s.clk ∧ (s.learnNew pl lp f).boot = s.boot := by
  simp [State.ite_kept .., State.learnNew, State.modPipe, State.raise_kept ..]
theorem State.parityMiss_kept (s : State) (pl : Nat) :
    (s.parityMiss pl).now = s.now ∧ (s.parityMiss pl).pending = s.pending ∧ (s.parityMiss pl).answer = s.answer ∧
    (s.parityMiss pl).fresh = s.fresh ∧ (s.parityMiss pl).links = s.links ∧ (s.parityMiss pl).shed = s.shed ∧
    (s.parityMiss pl).copy = s.copy ∧ (s.parityMiss pl).rings = s.rings ∧ (s.parityMiss pl).str = s.str ∧
    (s.parityMiss pl).egr = s.egr ∧ (s.parityMiss pl).alm = s.alm ∧ (s.parityMiss pl).mem = s.mem ∧
    (s.parityMiss pl).cal = s.cal ∧ (s.parityMiss pl).gauge = s.gauge ∧ (s.parityMiss pl).mod = s.mod ∧
    (s.parityMiss pl).clk = s.clk ∧ (s.parityMiss pl).boot = s.boot := by
  simp [State.modPipe, State.parityMiss, State.logFault_kept .., State.raise_kept ..]
theorem State.l2Lost_kept (s : State) (pl : Nat) (vid : Nat) (m : Mac) (static : Bool) :
    (s.l2Lost pl vid m static).now = s.now ∧ (s.l2Lost pl vid m static).pending = s.pending ∧
    (s.l2Lost pl vid m static).answer = s.answer ∧ (s.l2Lost pl vid m static).fresh = s.fresh ∧
    (s.l2Lost pl vid m static).links = s.links ∧ (s.l2Lost pl vid m static).shed = s.shed ∧
    (s.l2Lost pl vid m static).copy = s.copy ∧ (s.l2Lost pl vid m static).rings = s.rings ∧
    (s.l2Lost pl vid m static).str = s.str ∧ (s.l2Lost pl vid m static).egr = s.egr ∧
    (s.l2Lost pl vid m static).alm = s.alm ∧ (s.l2Lost pl vid m static).mem = s.mem ∧
    (s.l2Lost pl vid m static).cal = s.cal ∧ (s.l2Lost pl vid m static).gauge = s.gauge ∧
    (s.l2Lost pl vid m static).mod = s.mod ∧ (s.l2Lost pl vid m static).clk = s.clk ∧
    (s.l2Lost pl vid m static).boot = s.boot := by
  simp [State.ite_kept .., State.l2Lost, State.modPipe, State.parityMiss_kept ..]
theorem State.learn_kept (s : State) (pl : Nat) (lp : Nat) (f : Frame) (lost : Bool) :
    (s.learn pl lp f lost).now = s.now ∧ (s.learn pl lp f lost).pending = s.pending ∧
    (s.learn pl lp f lost).answer = s.answer ∧ (s.learn pl lp f lost).fresh = s.fresh ∧
    (s.learn pl lp f lost).links = s.links ∧ (s.learn pl lp f lost).shed = s.shed ∧
    (s.learn pl lp f lost).copy = s.copy ∧ (s.learn pl lp f lost).rings = s.rings ∧
    (s.learn pl lp f lost).str = s.str ∧ (s.learn pl lp f lost).egr = s.egr ∧ (s.learn pl lp f lost).alm = s.alm ∧
    (s.learn pl lp f lost).mem = s.mem ∧ (s.learn pl lp f lost).cal = s.cal ∧
    (s.learn pl lp f lost).gauge = s.gauge ∧ (s.learn pl lp f lost).mod = s.mod ∧
    (s.learn pl lp f lost).clk = s.clk ∧ (s.learn pl lp f lost).boot = s.boot := by
  simp only [State.learn]; (repeat' split) <;> simp [State.ite_kept .., State.modPipe, State.l2Lost_kept ..,
  State.learnNew_kept ..]
theorem State.floodFrom_kept (s : State) (pl : Nat) (lp : Nat) (f : Frame) (lost : Bool) :
    (s.floodFrom pl lp f lost).now = s.now ∧ (s.floodFrom pl lp f lost).pending = s.pending ∧
    (s.floodFrom pl lp f lost).answer = s.answer ∧ (s.floodFrom pl lp f lost).fresh = s.fresh ∧
    (s.floodFrom pl lp f lost).links = s.links ∧ (s.floodFrom pl lp f lost).shed = s.shed ∧
    (s.floodFrom pl lp f lost).copy = s.copy ∧ (s.floodFrom pl lp f lost).rings = s.rings ∧
    (s.floodFrom pl lp f lost).str = s.str ∧ (s.floodFrom pl lp f lost).alm = s.alm ∧
    (s.floodFrom pl lp f lost).mem = s.mem ∧ (s.floodFrom pl lp f lost).cal = s.cal ∧
    (s.floodFrom pl lp f lost).gauge = s.gauge ∧ (s.floodFrom pl lp f lost).mod = s.mod ∧
    (s.floodFrom pl lp f lost).clk = s.clk ∧ (s.floodFrom pl lp f lost).boot = s.boot := by
  simp [State.ite_kept .., State.modPipe, State.floodFrom, State.flood_kept .., State.parityMiss_kept ..]
theorem State.l2Hit_kept (s : State) (pl : Nat) (lp : Nat) (f : Frame) (e : L2Entry) (bad : Bool) (lost : Bool) :
    (s.l2Hit pl lp f e bad lost).now = s.now ∧ (s.l2Hit pl lp f e bad lost).pending = s.pending ∧
    (s.l2Hit pl lp f e bad lost).answer = s.answer ∧ (s.l2Hit pl lp f e bad lost).fresh = s.fresh ∧
    (s.l2Hit pl lp f e bad lost).links = s.links ∧ (s.l2Hit pl lp f e bad lost).shed = s.shed ∧
    (s.l2Hit pl lp f e bad lost).copy = s.copy ∧ (s.l2Hit pl lp f e bad lost).rings = s.rings ∧
    (s.l2Hit pl lp f e bad lost).str = s.str ∧ (s.l2Hit pl lp f e bad lost).alm = s.alm ∧
    (s.l2Hit pl lp f e bad lost).mem = s.mem ∧ (s.l2Hit pl lp f e bad lost).cal = s.cal ∧
    (s.l2Hit pl lp f e bad lost).gauge = s.gauge ∧ (s.l2Hit pl lp f e bad lost).mod = s.mod ∧
    (s.l2Hit pl lp f e bad lost).clk = s.clk ∧ (s.l2Hit pl lp f e bad lost).boot = s.boot := by
  simp [State.ite_kept .., State.l2Hit, State.modPipe, State.l2Lost_kept .., State.floodFrom_kept ..,
  State.forwardL2_kept ..]
theorem State.reportGroup_kept (s : State) (lp : Nat) (f : Frame) :
    (s.reportGroup lp f).now = s.now ∧ (s.reportGroup lp f).pending = s.pending ∧
    (s.reportGroup lp f).answer = s.answer ∧ (s.reportGroup lp f).fresh = s.fresh ∧
    (s.reportGroup lp f).links = s.links ∧ (s.reportGroup lp f).shed = s.shed ∧
    (s.reportGroup lp f).copy = s.copy ∧ (s.reportGroup lp f).fwd = s.fwd ∧ (s.reportGroup lp f).rings = s.rings ∧
    (s.reportGroup lp f).str = s.str ∧ (s.reportGroup lp f).egr = s.egr ∧ (s.reportGroup lp f).alm = s.alm ∧
    (s.reportGroup lp f).allots = s.allots ∧ (s.reportGroup lp f).irq = s.irq ∧ (s.reportGroup lp f).mem = s.mem ∧
    (s.reportGroup lp f).flt = s.flt ∧ (s.reportGroup lp f).cal = s.cal ∧ (s.reportGroup lp f).gauge = s.gauge ∧
    (s.reportGroup lp f).mod = s.mod ∧ (s.reportGroup lp f).clk = s.clk ∧ (s.reportGroup lp f).boot = s.boot := by
  simp [State.ite_kept .., State.reportGroup, State.emit_kept ..]
theorem State.classify_kept (s : State) (pl : Nat) (lp : Nat) (f : Frame) (upset : Upset) :
    (s.classify pl lp f upset).now = s.now ∧ (s.classify pl lp f upset).pending = s.pending ∧
    (s.classify pl lp f upset).answer = s.answer ∧ (s.classify pl lp f upset).links = s.links ∧
    (s.classify pl lp f upset).shed = s.shed ∧ (s.classify pl lp f upset).copy = s.copy ∧
    (s.classify pl lp f upset).rings = s.rings ∧ (s.classify pl lp f upset).str = s.str ∧
    (s.classify pl lp f upset).alm = s.alm ∧ (s.classify pl lp f upset).mem = s.mem ∧
    (s.classify pl lp f upset).cal = s.cal ∧ (s.classify pl lp f upset).gauge = s.gauge ∧
    (s.classify pl lp f upset).mod = s.mod ∧ (s.classify pl lp f upset).boot = s.boot := by
  simp only [State.classify]; (repeat' split) <;> simp [State.ite_kept .., State.modPipe, State.learn_kept ..,
  State.ptpFrame_kept .., State.emit_kept .., State.countPort_kept .., State.reportGroup_kept ..,
  State.parityMiss_kept .., State.forwardFlow_kept .., State.floodFrom_kept .., State.l2Hit_kept ..]
theorem State.serve_kept (s : State) (pl : Nat) (upset : Upset) :
    (s.serve pl upset).now = s.now ∧ (s.serve pl upset).pending = s.pending ∧
    (s.serve pl upset).answer = s.answer ∧ (s.serve pl upset).links = s.links ∧ (s.serve pl upset).shed = s.shed ∧
    (s.serve pl upset).copy = s.copy ∧ (s.serve pl upset).rings = s.rings ∧ (s.serve pl upset).str = s.str ∧
    (s.serve pl upset).alm = s.alm ∧ (s.serve pl upset).mem = s.mem ∧ (s.serve pl upset).cal = s.cal ∧
    (s.serve pl upset).gauge = s.gauge ∧ (s.serve pl upset).mod = s.mod ∧ (s.serve pl upset).boot = s.boot := by
  simp only [State.serve]; (repeat' split) <;> simp [State.ite_kept .., State.setBuffer, State.modPipe,
  State.classify_kept ..]
theorem State.buffered_kept (s : State) (x : InFrame) (k : Nat) :
    (s.buffered x k).now = s.now ∧ (s.buffered x k).pending = s.pending ∧ (s.buffered x k).answer = s.answer ∧
    (s.buffered x k).emits = s.emits ∧ (s.buffered x k).fresh = s.fresh ∧ (s.buffered x k).links = s.links ∧
    (s.buffered x k).shed = s.shed ∧ (s.buffered x k).copy = s.copy ∧ (s.buffered x k).rings = s.rings ∧
    (s.buffered x k).str = s.str ∧ (s.buffered x k).egr = s.egr ∧ (s.buffered x k).alm = s.alm ∧
    (s.buffered x k).allots = s.allots ∧ (s.buffered x k).irq = s.irq ∧ (s.buffered x k).mem = s.mem ∧
    (s.buffered x k).flt = s.flt ∧ (s.buffered x k).cal = s.cal ∧ (s.buffered x k).gauge = s.gauge ∧
    (s.buffered x k).mod = s.mod ∧ (s.buffered x k).clk = s.clk ∧ (s.buffered x k).boot = s.boot := by
  induction k generalizing s with
  | zero => simp [State.setBuffer, State.buffered, State.countPort_kept ..]
  | succ k ih => simp only [State.buffered]; (repeat' split) <;> simp_all [State.setBuffer, State.countPort_kept ..]
theorem State.toHold_kept (s : State) (lp : Nat) (f : Frame) :
    (s.toHold lp f).now = s.now ∧ (s.toHold lp f).pending = s.pending ∧ (s.toHold lp f).answer = s.answer ∧
    (s.toHold lp f).emits = s.emits ∧ (s.toHold lp f).fresh = s.fresh ∧ (s.toHold lp f).links = s.links ∧
    (s.toHold lp f).shed = s.shed ∧ (s.toHold lp f).copy = s.copy ∧ (s.toHold lp f).fwd = s.fwd ∧
    (s.toHold lp f).rings = s.rings ∧ (s.toHold lp f).str = s.str ∧ (s.toHold lp f).egr = s.egr ∧
    (s.toHold lp f).alm = s.alm ∧ (s.toHold lp f).allots = s.allots ∧ (s.toHold lp f).irq = s.irq ∧
    (s.toHold lp f).mem = s.mem ∧ (s.toHold lp f).flt = s.flt ∧ (s.toHold lp f).cal = s.cal ∧
    (s.toHold lp f).gauge = s.gauge ∧ (s.toHold lp f).mod = s.mod ∧ (s.toHold lp f).clk = s.clk := by
  simp [State.ite_kept .., State.toHold]
theorem State.listenFrame_kept (s : State) (lp : Nat) (f : Frame) :
    (s.listenFrame lp f).now = s.now ∧ (s.listenFrame lp f).pending = s.pending ∧
    (s.listenFrame lp f).answer = s.answer ∧ (s.listenFrame lp f).fresh = s.fresh ∧
    (s.listenFrame lp f).links = s.links ∧ (s.listenFrame lp f).shed = s.shed ∧
    (s.listenFrame lp f).copy = s.copy ∧ (s.listenFrame lp f).rings = s.rings ∧ (s.listenFrame lp f).str = s.str ∧
    (s.listenFrame lp f).egr = s.egr ∧ (s.listenFrame lp f).alm = s.alm ∧ (s.listenFrame lp f).allots = s.allots ∧
    (s.listenFrame lp f).irq = s.irq ∧ (s.listenFrame lp f).mem = s.mem ∧ (s.listenFrame lp f).flt = s.flt ∧
    (s.listenFrame lp f).cal = s.cal ∧ (s.listenFrame lp f).gauge = s.gauge ∧ (s.listenFrame lp f).mod = s.mod := by
  simp [State.ite_kept .., State.listenFrame, State.ptpFrame_kept .., State.toHold_kept .., State.emit_kept ..,
  State.countPort_kept ..]
theorem State.arrive_kept (s : State) (lp : Nat) (f : Frame) :
    (s.arrive lp f).now = s.now ∧ (s.arrive lp f).pending = s.pending ∧ (s.arrive lp f).answer = s.answer ∧
    (s.arrive lp f).fresh = s.fresh ∧ (s.arrive lp f).links = s.links ∧ (s.arrive lp f).shed = s.shed ∧
    (s.arrive lp f).copy = s.copy ∧ (s.arrive lp f).rings = s.rings ∧ (s.arrive lp f).str = s.str ∧
    (s.arrive lp f).egr = s.egr ∧ (s.arrive lp f).alm = s.alm ∧ (s.arrive lp f).allots = s.allots ∧
    (s.arrive lp f).irq = s.irq ∧ (s.arrive lp f).mem = s.mem ∧ (s.arrive lp f).flt = s.flt ∧
    (s.arrive lp f).cal = s.cal ∧ (s.arrive lp f).gauge = s.gauge ∧ (s.arrive lp f).mod = s.mod := by
  simp [State.ite_kept .., State.arrive, State.countPort_kept .., State.pfcArrived_kept ..,
  State.listenFrame_kept .., State.buffered_kept ..]
theorem State.hold_kept (s : State) (a : Nat) (b : Nat) (x : Transfer) :
    (s.hold a b x).now = s.now ∧ (s.hold a b x).pending = s.pending ∧ (s.hold a b x).answer = s.answer ∧
    (s.hold a b x).emits = s.emits ∧ (s.hold a b x).fresh = s.fresh ∧ (s.hold a b x).shed = s.shed ∧
    (s.hold a b x).copy = s.copy ∧ (s.hold a b x).fwd = s.fwd ∧ (s.hold a b x).rings = s.rings ∧
    (s.hold a b x).str = s.str ∧ (s.hold a b x).egr = s.egr ∧ (s.hold a b x).alm = s.alm ∧
    (s.hold a b x).allots = s.allots ∧ (s.hold a b x).irq = s.irq ∧ (s.hold a b x).mem = s.mem ∧
    (s.hold a b x).flt = s.flt ∧ (s.hold a b x).cal = s.cal ∧ (s.hold a b x).gauge = s.gauge ∧
    (s.hold a b x).mod = s.mod ∧ (s.hold a b x).clk = s.clk ∧ (s.hold a b x).boot = s.boot := by
  simp [State.ite_kept .., State.hold, State.modLink]
theorem State.crossSend_kept (s : State) (die : Nat) :
    (s.crossSend die).now = s.now ∧ (s.crossSend die).pending = s.pending ∧ (s.crossSend die).answer = s.answer ∧
    (s.crossSend die).fresh = s.fresh ∧ (s.crossSend die).links = s.links ∧ (s.crossSend die).shed = s.shed ∧
    (s.crossSend die).copy = s.copy ∧ (s.crossSend die).fwd = s.fwd ∧ (s.crossSend die).rings = s.rings ∧
    (s.crossSend die).str = s.str ∧ (s.crossSend die).alm = s.alm ∧ (s.crossSend die).mem = s.mem ∧
    (s.crossSend die).flt = s.flt ∧ (s.crossSend die).cal = s.cal ∧ (s.crossSend die).gauge = s.gauge ∧
    (s.crossSend die).mod = s.mod ∧ (s.crossSend die).clk = s.clk ∧ (s.crossSend die).boot = s.boot := by
  simp only [State.crossSend]; split <;> simp [State.ite_kept .., State.crossDrop_kept .., State.dropRef_kept ..]
theorem State.crossFlood_kept (s : State) (die : Nat) (lp : Nat) (vid : Nat) (lost : Bool) :
    (s.crossFlood die lp vid lost).2.now = s.now ∧ (s.crossFlood die lp vid lost).2.pending = s.pending ∧
    (s.crossFlood die lp vid lost).2.answer = s.answer ∧ (s.crossFlood die lp vid lost).2.fresh = s.fresh ∧
    (s.crossFlood die lp vid lost).2.links = s.links ∧ (s.crossFlood die lp vid lost).2.shed = s.shed ∧
    (s.crossFlood die lp vid lost).2.copy = s.copy ∧ (s.crossFlood die lp vid lost).2.rings = s.rings ∧
    (s.crossFlood die lp vid lost).2.str = s.str ∧ (s.crossFlood die lp vid lost).2.egr = s.egr ∧
    (s.crossFlood die lp vid lost).2.alm = s.alm ∧ (s.crossFlood die lp vid lost).2.mem = s.mem ∧
    (s.crossFlood die lp vid lost).2.cal = s.cal ∧ (s.crossFlood die lp vid lost).2.gauge = s.gauge ∧
    (s.crossFlood die lp vid lost).2.mod = s.mod ∧ (s.crossFlood die lp vid lost).2.clk = s.clk ∧
    (s.crossFlood die lp vid lost).2.boot = s.boot := by
  simp [State.ite_kept .., State.crossFlood, State.modPipe, State.parityMiss_kept ..]
theorem State.crossArrive_kept (s : State) (die : Nat) (upset : Upset) :
    (s.crossArrive die upset).now = s.now ∧ (s.crossArrive die upset).pending = s.pending ∧
    (s.crossArrive die upset).answer = s.answer ∧ (s.crossArrive die upset).links = s.links ∧
    (s.crossArrive die upset).shed = s.shed ∧ (s.crossArrive die upset).copy = s.copy ∧
    (s.crossArrive die upset).rings = s.rings ∧ (s.crossArrive die upset).str = s.str ∧
    (s.crossArrive die upset).alm = s.alm ∧ (s.crossArrive die upset).mem = s.mem ∧
    (s.crossArrive die upset).cal = s.cal ∧ (s.crossArrive die upset).gauge = s.gauge ∧
    (s.crossArrive die upset).mod = s.mod ∧ (s.crossArrive die upset).clk = s.clk ∧
    (s.crossArrive die upset).boot = s.boot := by
  simp only [State.crossArrive]; (repeat' split) <;> simp [State.ite_kept .., State.modCells, State.modPipe,
  State.crossDrop_kept .., State.newChain_kept .., State.noteFailed_kept .., State.deliver_kept ..,
  State.flood_kept .., State.crossFlood_kept .., State.deliverL2_kept .., State.dropRef_kept ..]
theorem State.writeFlow_kept (s : State) (a : Nat) (b : List Byte) :
    (s.writeFlow a b).2.now = s.now ∧ (s.writeFlow a b).2.pending = s.pending ∧
    (s.writeFlow a b).2.answer = s.answer ∧ (s.writeFlow a b).2.links = s.links ∧ (s.writeFlow a b).2.shed = s.shed ∧
    (s.writeFlow a b).2.copy = s.copy ∧ (s.writeFlow a b).2.rings = s.rings ∧ (s.writeFlow a b).2.str = s.str ∧
    (s.writeFlow a b).2.egr = s.egr ∧ (s.writeFlow a b).2.alm = s.alm ∧ (s.writeFlow a b).2.mem = s.mem ∧
    (s.writeFlow a b).2.flt = s.flt ∧ (s.writeFlow a b).2.cal = s.cal ∧ (s.writeFlow a b).2.gauge = s.gauge ∧
    (s.writeFlow a b).2.mod = s.mod ∧ (s.writeFlow a b).2.clk = s.clk ∧ (s.writeFlow a b).2.boot = s.boot := by
  simp [State.ite_kept .., State.modPipe, State.refresh, State.writeFlow, State.clamp_kept .., State.raise_kept ..]
theorem State.deleteFlow_kept (s : State) (a : Nat) (b : List Byte) :
    (s.deleteFlow a b).2.now = s.now ∧ (s.deleteFlow a b).2.pending = s.pending ∧
    (s.deleteFlow a b).2.answer = s.answer ∧ (s.deleteFlow a b).2.emits = s.emits ∧
    (s.deleteFlow a b).2.fresh = s.fresh ∧ (s.deleteFlow a b).2.links = s.links ∧ (s.deleteFlow a b).2.shed = s.shed ∧
    (s.deleteFlow a b).2.copy = s.copy ∧ (s.deleteFlow a b).2.rings = s.rings ∧ (s.deleteFlow a b).2.str = s.str ∧
    (s.deleteFlow a b).2.egr = s.egr ∧ (s.deleteFlow a b).2.alm = s.alm ∧ (s.deleteFlow a b).2.allots = s.allots ∧
    (s.deleteFlow a b).2.irq = s.irq ∧ (s.deleteFlow a b).2.mem = s.mem ∧ (s.deleteFlow a b).2.flt = s.flt ∧
    (s.deleteFlow a b).2.cal = s.cal ∧ (s.deleteFlow a b).2.gauge = s.gauge ∧ (s.deleteFlow a b).2.mod = s.mod ∧
    (s.deleteFlow a b).2.clk = s.clk ∧ (s.deleteFlow a b).2.boot = s.boot := by
  simp [State.ite_kept .., State.modPipe, State.deleteFlow]
theorem State.writeDelivery_kept (s : State) (a : Nat) (i : Nat) (w : DeliveryWord) :
    (s.writeDelivery a i w).2.now = s.now ∧ (s.writeDelivery a i w).2.pending = s.pending ∧
    (s.writeDelivery a i w).2.answer = s.answer ∧ (s.writeDelivery a i w).2.emits = s.emits ∧
    (s.writeDelivery a i w).2.fresh = s.fresh ∧ (s.writeDelivery a i w).2.links = s.links ∧
    (s.writeDelivery a i w).2.shed = s.shed ∧ (s.writeDelivery a i w).2.copy = s.copy ∧
    (s.writeDelivery a i w).2.rings = s.rings ∧ (s.writeDelivery a i w).2.str = s.str ∧
    (s.writeDelivery a i w).2.egr = s.egr ∧ (s.writeDelivery a i w).2.alm = s.alm ∧
    (s.writeDelivery a i w).2.allots = s.allots ∧ (s.writeDelivery a i w).2.irq = s.irq ∧
    (s.writeDelivery a i w).2.mem = s.mem ∧ (s.writeDelivery a i w).2.flt = s.flt ∧
    (s.writeDelivery a i w).2.cal = s.cal ∧ (s.writeDelivery a i w).2.gauge = s.gauge ∧
    (s.writeDelivery a i w).2.mod = s.mod ∧ (s.writeDelivery a i w).2.clk = s.clk ∧
    (s.writeDelivery a i w).2.boot = s.boot := by
  simp [State.ite_kept .., State.writeDelivery]
theorem State.grantBlock_kept (s : State) (a : Nat) (b : Nat) (owner : Nat) (link : Nat) :
    (s.grantBlock a b owner link).2.now = s.now ∧ (s.grantBlock a b owner link).2.pending = s.pending ∧
    (s.grantBlock a b owner link).2.answer = s.answer ∧ (s.grantBlock a b owner link).2.emits = s.emits ∧
    (s.grantBlock a b owner link).2.fresh = s.fresh ∧ (s.grantBlock a b owner link).2.links = s.links ∧
    (s.grantBlock a b owner link).2.shed = s.shed ∧ (s.grantBlock a b owner link).2.copy = s.copy ∧
    (s.grantBlock a b owner link).2.rings = s.rings ∧ (s.grantBlock a b owner link).2.str = s.str ∧
    (s.grantBlock a b owner link).2.egr = s.egr ∧ (s.grantBlock a b owner link).2.alm = s.alm ∧
    (s.grantBlock a b owner link).2.irq = s.irq ∧ (s.grantBlock a b owner link).2.mem = s.mem ∧
    (s.grantBlock a b owner link).2.flt = s.flt ∧ (s.grantBlock a b owner link).2.cal = s.cal ∧
    (s.grantBlock a b owner link).2.gauge = s.gauge ∧ (s.grantBlock a b owner link).2.mod = s.mod ∧
    (s.grantBlock a b owner link).2.clk = s.clk ∧ (s.grantBlock a b owner link).2.boot = s.boot := by
  simp [State.ite_kept .., State.setBlock, State.grantBlock, State.clamp_kept ..]
theorem State.writeStatic_kept (s : State) (a : Nat) (vid : Nat) (m : Mac) (lp : Nat) (remove : Bool) :
    (s.writeStatic a vid m lp remove).2.now = s.now ∧ (s.writeStatic a vid m lp remove).2.pending = s.pending ∧
    (s.writeStatic a vid m lp remove).2.answer = s.answer ∧ (s.writeStatic a vid m lp remove).2.emits = s.emits ∧
    (s.writeStatic a vid m lp remove).2.fresh = s.fresh ∧ (s.writeStatic a vid m lp remove).2.links = s.links ∧
    (s.writeStatic a vid m lp remove).2.shed = s.shed ∧ (s.writeStatic a vid m lp remove).2.copy = s.copy ∧
    (s.writeStatic a vid m lp remove).2.rings = s.rings ∧ (s.writeStatic a vid m lp remove).2.str = s.str ∧
    (s.writeStatic a vid m lp remove).2.egr = s.egr ∧ (s.writeStatic a vid m lp remove).2.alm = s.alm ∧
    (s.writeStatic a vid m lp remove).2.allots = s.allots ∧ (s.writeStatic a vid m lp remove).2.irq = s.irq ∧
    (s.writeStatic a vid m lp remove).2.mem = s.mem ∧ (s.writeStatic a vid m lp remove).2.flt = s.flt ∧
    (s.writeStatic a vid m lp remove).2.cal = s.cal ∧ (s.writeStatic a vid m lp remove).2.gauge = s.gauge ∧
    (s.writeStatic a vid m lp remove).2.mod = s.mod ∧ (s.writeStatic a vid m lp remove).2.clk = s.clk ∧
    (s.writeStatic a vid m lp remove).2.boot = s.boot := by
  simp [State.ite_kept .., State.writeStatic]
theorem State.rewriteParity_kept (s : State) (pl : Nat) :
    (s.rewriteParity pl).now = s.now ∧ (s.rewriteParity pl).pending = s.pending ∧
    (s.rewriteParity pl).answer = s.answer ∧ (s.rewriteParity pl).emits = s.emits ∧
    (s.rewriteParity pl).fresh = s.fresh ∧ (s.rewriteParity pl).links = s.links ∧ (s.rewriteParity pl).shed = s.shed ∧
    (s.rewriteParity pl).copy = s.copy ∧ (s.rewriteParity pl).rings = s.rings ∧ (s.rewriteParity pl).str = s.str ∧
    (s.rewriteParity pl).egr = s.egr ∧ (s.rewriteParity pl).alm = s.alm ∧ (s.rewriteParity pl).allots = s.allots ∧
    (s.rewriteParity pl).irq = s.irq ∧ (s.rewriteParity pl).mem = s.mem ∧ (s.rewriteParity pl).flt = s.flt ∧
    (s.rewriteParity pl).cal = s.cal ∧ (s.rewriteParity pl).gauge = s.gauge ∧ (s.rewriteParity pl).mod = s.mod ∧
    (s.rewriteParity pl).clk = s.clk ∧ (s.rewriteParity pl).boot = s.boot := by
  simp [State.ite_kept .., State.modPipe, State.rewriteParity]
theorem State.rewriteDelivery_kept (s : State) (die : Nat) (i : Nat) :
    (s.rewriteDelivery die i).now = s.now ∧ (s.rewriteDelivery die i).pending = s.pending ∧
    (s.rewriteDelivery die i).answer = s.answer ∧ (s.rewriteDelivery die i).emits = s.emits ∧
    (s.rewriteDelivery die i).fresh = s.fresh ∧ (s.rewriteDelivery die i).links = s.links ∧
    (s.rewriteDelivery die i).shed = s.shed ∧ (s.rewriteDelivery die i).copy = s.copy ∧
    (s.rewriteDelivery die i).rings = s.rings ∧ (s.rewriteDelivery die i).str = s.str ∧
    (s.rewriteDelivery die i).egr = s.egr ∧ (s.rewriteDelivery die i).alm = s.alm ∧
    (s.rewriteDelivery die i).allots = s.allots ∧ (s.rewriteDelivery die i).irq = s.irq ∧
    (s.rewriteDelivery die i).mem = s.mem ∧ (s.rewriteDelivery die i).flt = s.flt ∧
    (s.rewriteDelivery die i).cal = s.cal ∧ (s.rewriteDelivery die i).gauge = s.gauge ∧
    (s.rewriteDelivery die i).mod = s.mod ∧ (s.rewriteDelivery die i).clk = s.clk ∧
    (s.rewriteDelivery die i).boot = s.boot := by
  simp [State.ite_kept .., State.rewriteDelivery]
theorem State.reloadPipe_kept (s : State) (pl : Nat) :
    (s.reloadPipe pl).now = s.now ∧ (s.reloadPipe pl).pending = s.pending ∧ (s.reloadPipe pl).answer = s.answer ∧
    (s.reloadPipe pl).emits = s.emits ∧ (s.reloadPipe pl).fresh = s.fresh ∧ (s.reloadPipe pl).links = s.links ∧
    (s.reloadPipe pl).shed = s.shed ∧ (s.reloadPipe pl).copy = s.copy ∧ (s.reloadPipe pl).rings = s.rings ∧
    (s.reloadPipe pl).str = s.str ∧ (s.reloadPipe pl).egr = s.egr ∧ (s.reloadPipe pl).alm = s.alm ∧
    (s.reloadPipe pl).allots = s.allots ∧ (s.reloadPipe pl).irq = s.irq ∧ (s.reloadPipe pl).mem = s.mem ∧
    (s.reloadPipe pl).flt = s.flt ∧ (s.reloadPipe pl).cal = s.cal ∧ (s.reloadPipe pl).gauge = s.gauge ∧
    (s.reloadPipe pl).mod = s.mod ∧ (s.reloadPipe pl).clk = s.clk ∧ (s.reloadPipe pl).boot = s.boot := by
  simp [State.modPipe, State.reloadPipe]
theorem State.reloadCopy_kept (s : State) (die : Nat) :
    (s.reloadCopy die).now = s.now ∧ (s.reloadCopy die).pending = s.pending ∧ (s.reloadCopy die).answer = s.answer ∧
    (s.reloadCopy die).emits = s.emits ∧ (s.reloadCopy die).fresh = s.fresh ∧ (s.reloadCopy die).links = s.links ∧
    (s.reloadCopy die).shed = s.shed ∧ (s.reloadCopy die).copy = s.copy ∧ (s.reloadCopy die).rings = s.rings ∧
    (s.reloadCopy die).str = s.str ∧ (s.reloadCopy die).egr = s.egr ∧ (s.reloadCopy die).alm = s.alm ∧
    (s.reloadCopy die).allots = s.allots ∧ (s.reloadCopy die).irq = s.irq ∧ (s.reloadCopy die).mem = s.mem ∧
    (s.reloadCopy die).flt = s.flt ∧ (s.reloadCopy die).cal = s.cal ∧ (s.reloadCopy die).gauge = s.gauge ∧
    (s.reloadCopy die).mod = s.mod ∧ (s.reloadCopy die).clk = s.clk ∧ (s.reloadCopy die).boot = s.boot := by
  simp [State.ite_kept .., State.reloadCopy]
end Sys2Proof.Machine
end

