-- ==== Sys2Proof/Laws/FramesStreams.lean ====
section
/-! SUPPORT. The parts of the state that intake channels, released units and time leave alone: one lemma for each operation, by its parts. -/

set_option linter.unusedSimpArgs false

namespace Sys2Proof.Machine

/-! ## Intake.lean -/

theorem State.writeSeg_kept (s : State) (c : Nat) (g : Seg) :
    (s.writeSeg c g).now = s.now ∧ (s.writeSeg c g).pending = s.pending ∧ (s.writeSeg c g).answer = s.answer ∧
    (s.writeSeg c g).emits = s.emits ∧ (s.writeSeg c g).fresh = s.fresh ∧ (s.writeSeg c g).links = s.links ∧
    (s.writeSeg c g).shed = s.shed ∧ (s.writeSeg c g).copy = s.copy ∧ (s.writeSeg c g).fwd = s.fwd ∧
    (s.writeSeg c g).rings = s.rings ∧ (s.writeSeg c g).alm = s.alm ∧ (s.writeSeg c g).allots = s.allots ∧
    (s.writeSeg c g).irq = s.irq ∧ (s.writeSeg c g).mem = s.mem ∧ (s.writeSeg c g).flt = s.flt ∧
    (s.writeSeg c g).cal = s.cal ∧ (s.writeSeg c g).gauge = s.gauge ∧ (s.writeSeg c g).mod = s.mod ∧
    (s.writeSeg c g).clk = s.clk ∧ (s.writeSeg c g).boot = s.boot := by
  simp [State.ite_kept .., State.modIntake, State.writeSeg, State.countIntake_kept ..]
theorem State.applyIntake_kept (s : State) (c : Nat) :
    (s.applyIntake c).now = s.now ∧ (s.applyIntake c).pending = s.pending ∧ (s.applyIntake c).answer = s.answer ∧
    (s.applyIntake c).emits = s.emits ∧ (s.applyIntake c).fresh = s.fresh ∧ (s.applyIntake c).links = s.links ∧
    (s.applyIntake c).shed = s.shed ∧ (s.applyIntake c).copy = s.copy ∧ (s.applyIntake c).fwd = s.fwd ∧
    (s.applyIntake c).rings = s.rings ∧ (s.applyIntake c).egr = s.egr ∧ (s.applyIntake c).allots = s.allots ∧
    (s.applyIntake c).irq = s.irq ∧ (s.applyIntake c).mem = s.mem ∧ (s.applyIntake c).flt = s.flt ∧
    (s.applyIntake c).cal = s.cal ∧ (s.applyIntake c).gauge = s.gauge ∧ (s.applyIntake c).mod = s.mod ∧
    (s.applyIntake c).clk = s.clk ∧ (s.applyIntake c).boot = s.boot := by
  simp [State.applyIntake, State.setCfg_kept ..]
theorem State.endPicture_kept (s : State) (c : Nat) :
    (s.endPicture c).now = s.now ∧ (s.endPicture c).pending = s.pending ∧ (s.endPicture c).answer = s.answer ∧
    (s.endPicture c).emits = s.emits ∧ (s.endPicture c).fresh = s.fresh ∧ (s.endPicture c).links = s.links ∧
    (s.endPicture c).shed = s.shed ∧ (s.endPicture c).copy = s.copy ∧ (s.endPicture c).fwd = s.fwd ∧
    (s.endPicture c).rings = s.rings ∧ (s.endPicture c).allots = s.allots ∧ (s.endPicture c).irq = s.irq ∧
    (s.endPicture c).mem = s.mem ∧ (s.endPicture c).flt = s.flt ∧ (s.endPicture c).cal = s.cal ∧
    (s.endPicture c).gauge = s.gauge ∧ (s.endPicture c).mod = s.mod ∧ (s.endPicture c).clk = s.clk ∧
    (s.endPicture c).boot = s.boot := by
  simp only [State.endPicture]; split <;> simp [State.ite_kept .., State.modIntake, State.applyIntake_kept ..,
      State.countIntake_kept ..]
theorem State.openPicture_kept (s : State) (c : Nat) (ts : BitVec 32) :
    (s.openPicture c ts).now = s.now ∧ (s.openPicture c ts).pending = s.pending ∧
    (s.openPicture c ts).answer = s.answer ∧ (s.openPicture c ts).emits = s.emits ∧
    (s.openPicture c ts).fresh = s.fresh ∧ (s.openPicture c ts).links = s.links ∧
    (s.openPicture c ts).shed = s.shed ∧ (s.openPicture c ts).copy = s.copy ∧ (s.openPicture c ts).fwd = s.fwd ∧
    (s.openPicture c ts).rings = s.rings ∧ (s.openPicture c ts).egr = s.egr ∧
    (s.openPicture c ts).allots = s.allots ∧ (s.openPicture c ts).irq = s.irq ∧ (s.openPicture c ts).mem = s.mem ∧
    (s.openPicture c ts).flt = s.flt ∧ (s.openPicture c ts).cal = s.cal ∧ (s.openPicture c ts).gauge = s.gauge ∧
    (s.openPicture c ts).mod = s.mod ∧ (s.openPicture c ts).clk = s.clk ∧ (s.openPicture c ts).boot = s.boot := by
  simp [State.ite_kept .., State.openPicture, State.modIntake, State.applyIntake_kept ..]
theorem State.measureOffset_kept (s : State) (c : Nat) (was : Bool) :
    (s.measureOffset c was).now = s.now ∧ (s.measureOffset c was).pending = s.pending ∧
    (s.measureOffset c was).answer = s.answer ∧ (s.measureOffset c was).emits = s.emits ∧
    (s.measureOffset c was).fresh = s.fresh ∧ (s.measureOffset c was).links = s.links ∧
    (s.measureOffset c was).shed = s.shed ∧ (s.measureOffset c was).copy = s.copy ∧
    (s.measureOffset c was).fwd = s.fwd ∧ (s.measureOffset c was).rings = s.rings ∧
    (s.measureOffset c was).egr = s.egr ∧ (s.measureOffset c was).alm = s.alm ∧
    (s.measureOffset c was).allots = s.allots ∧ (s.measureOffset c was).irq = s.irq ∧
    (s.measureOffset c was).mem = s.mem ∧ (s.measureOffset c was).flt = s.flt ∧ (s.measureOffset c was).cal = s.cal ∧
    (s.measureOffset c was).gauge = s.gauge ∧ (s.measureOffset c was).mod = s.mod ∧
    (s.measureOffset c was).clk = s.clk ∧ (s.measureOffset c was).boot = s.boot := by
  simp only [State.measureOffset]; (repeat' split) <;> simp [State.modIntake]
theorem State.rasterPacket_kept (s : State) (c : Nat) (p : IntakePkt) :
    (s.rasterPacket c p).now = s.now ∧ (s.rasterPacket c p).pending = s.pending ∧
    (s.rasterPacket c p).answer = s.answer ∧ (s.rasterPacket c p).emits = s.emits ∧
    (s.rasterPacket c p).fresh = s.fresh ∧ (s.rasterPacket c p).links = s.links ∧ (s.rasterPacket c p).shed = s.shed ∧
    (s.rasterPacket c p).copy = s.copy ∧ (s.rasterPacket c p).fwd = s.fwd ∧ (s.rasterPacket c p).rings = s.rings ∧
    (s.rasterPacket c p).allots = s.allots ∧ (s.rasterPacket c p).irq = s.irq ∧ (s.rasterPacket c p).mem = s.mem ∧
    (s.rasterPacket c p).flt = s.flt ∧ (s.rasterPacket c p).cal = s.cal ∧ (s.rasterPacket c p).gauge = s.gauge ∧
    (s.rasterPacket c p).mod = s.mod ∧ (s.rasterPacket c p).clk = s.clk ∧ (s.rasterPacket c p).boot = s.boot := by
  simp [State.ite_kept .., State.rasterPacket, State.countIntake_kept .., State.endPicture_kept ..,
      State.measureOffset_kept ..,
      State.openPicture_kept .., State.writeSeg_kept ..]
theorem State.legSeen_kept (s : State) (c : Nat) (leg : Nat) :
    (s.legSeen c leg).now = s.now ∧ (s.legSeen c leg).pending = s.pending ∧ (s.legSeen c leg).answer = s.answer ∧
    (s.legSeen c leg).emits = s.emits ∧ (s.legSeen c leg).fresh = s.fresh ∧ (s.legSeen c leg).links = s.links ∧
    (s.legSeen c leg).shed = s.shed ∧ (s.legSeen c leg).copy = s.copy ∧ (s.legSeen c leg).fwd = s.fwd ∧
    (s.legSeen c leg).rings = s.rings ∧ (s.legSeen c leg).egr = s.egr ∧ (s.legSeen c leg).alm = s.alm ∧
    (s.legSeen c leg).allots = s.allots ∧ (s.legSeen c leg).irq = s.irq ∧ (s.legSeen c leg).mem = s.mem ∧
    (s.legSeen c leg).flt = s.flt ∧ (s.legSeen c leg).cal = s.cal ∧ (s.legSeen c leg).gauge = s.gauge ∧
    (s.legSeen c leg).mod = s.mod ∧ (s.legSeen c leg).clk = s.clk ∧ (s.legSeen c leg).boot = s.boot := by
  simp [State.modIntake, State.legSeen]
theorem State.legDown_kept (s : State) (c : Nat) (leg : Nat) :
    (s.legDown c leg).now = s.now ∧ (s.legDown c leg).pending = s.pending ∧ (s.legDown c leg).answer = s.answer ∧
    (s.legDown c leg).emits = s.emits ∧ (s.legDown c leg).fresh = s.fresh ∧ (s.legDown c leg).links = s.links ∧
    (s.legDown c leg).shed = s.shed ∧ (s.legDown c leg).copy = s.copy ∧ (s.legDown c leg).fwd = s.fwd ∧
    (s.legDown c leg).rings = s.rings ∧ (s.legDown c leg).egr = s.egr ∧ (s.legDown c leg).alm = s.alm ∧
    (s.legDown c leg).allots = s.allots ∧ (s.legDown c leg).irq = s.irq ∧ (s.legDown c leg).mem = s.mem ∧
    (s.legDown c leg).flt = s.flt ∧ (s.legDown c leg).cal = s.cal ∧ (s.legDown c leg).gauge = s.gauge ∧
    (s.legDown c leg).mod = s.mod ∧ (s.legDown c leg).clk = s.clk ∧ (s.legDown c leg).boot = s.boot := by
  simp [State.ite_kept .., State.modIntake, State.legDown, State.countIntake_kept ..]
theorem State.releaseLines_kept (s : State) (c : Nat) :
    (s.releaseLines c).now = s.now ∧ (s.releaseLines c).pending = s.pending ∧
    (s.releaseLines c).answer = s.answer ∧ (s.releaseLines c).emits = s.emits ∧
    (s.releaseLines c).fresh = s.fresh ∧ (s.releaseLines c).links = s.links ∧ (s.releaseLines c).shed = s.shed ∧
    (s.releaseLines c).copy = s.copy ∧ (s.releaseLines c).fwd = s.fwd ∧ (s.releaseLines c).rings = s.rings ∧
    (s.releaseLines c).egr = s.egr ∧ (s.releaseLines c).alm = s.alm ∧ (s.releaseLines c).allots = s.allots ∧
    (s.releaseLines c).irq = s.irq ∧ (s.releaseLines c).mem = s.mem ∧ (s.releaseLines c).flt = s.flt ∧
    (s.releaseLines c).cal = s.cal ∧ (s.releaseLines c).gauge = s.gauge ∧ (s.releaseLines c).mod = s.mod ∧
    (s.releaseLines c).clk = s.clk ∧ (s.releaseLines c).boot = s.boot := by
  simp only [State.releaseLines]; (repeat' split) <;> simp [State.ite_kept .., State.modIntake]
theorem State.countFeed_kept (s : State) (n : Nat) (i : Nat) (k : Nat) :
    (s.countFeed n i k).now = s.now ∧ (s.countFeed n i k).pending = s.pending ∧
    (s.countFeed n i k).answer = s.answer ∧ (s.countFeed n i k).emits = s.emits ∧
    (s.countFeed n i k).fresh = s.fresh ∧ (s.countFeed n i k).links = s.links ∧ (s.countFeed n i k).shed = s.shed ∧
    (s.countFeed n i k).copy = s.copy ∧ (s.countFeed n i k).fwd = s.fwd ∧ (s.countFeed n i k).rings = s.rings ∧
    (s.countFeed n i k).egr = s.egr ∧ (s.countFeed n i k).alm = s.alm ∧ (s.countFeed n i k).allots = s.allots ∧
    (s.countFeed n i k).irq = s.irq ∧ (s.countFeed n i k).mem = s.mem ∧ (s.countFeed n i k).flt = s.flt ∧
    (s.countFeed n i k).cal = s.cal ∧ (s.countFeed n i k).gauge = s.gauge ∧ (s.countFeed n i k).mod = s.mod ∧
    (s.countFeed n i k).clk = s.clk ∧ (s.countFeed n i k).boot = s.boot := by
  simp [State.modFeed, State.countFeed]
theorem State.repeatPicture_kept (s : State) (n : Nat) (instant : Nat) :
    (s.repeatPicture n instant).now = s.now ∧ (s.repeatPicture n instant).pending = s.pending ∧
    (s.repeatPicture n instant).answer = s.answer ∧ (s.repeatPicture n instant).emits = s.emits ∧
    (s.repeatPicture n instant).fresh = s.fresh ∧ (s.repeatPicture n instant).links = s.links ∧
    (s.repeatPicture n instant).shed = s.shed ∧ (s.repeatPicture n instant).copy = s.copy ∧
    (s.repeatPicture n instant).fwd = s.fwd ∧ (s.repeatPicture n instant).rings = s.rings ∧
    (s.repeatPicture n instant).egr = s.egr ∧ (s.repeatPicture n instant).alm = s.alm ∧
    (s.repeatPicture n instant).allots = s.allots ∧ (s.repeatPicture n instant).irq = s.irq ∧
    (s.repeatPicture n instant).mem = s.mem ∧ (s.repeatPicture n instant).flt = s.flt ∧
    (s.repeatPicture n instant).cal = s.cal ∧ (s.repeatPicture n instant).gauge = s.gauge ∧
    (s.repeatPicture n instant).mod = s.mod ∧ (s.repeatPicture n instant).clk = s.clk ∧
    (s.repeatPicture n instant).boot = s.boot := by
  simp [State.repeatPicture, State.countFeed_kept ..]
theorem State.nextFeedPicture_kept (s : State) (n : Nat) :
    (s.nextFeedPicture n).now = s.now ∧ (s.nextFeedPicture n).pending = s.pending ∧
    (s.nextFeedPicture n).answer = s.answer ∧ (s.nextFeedPicture n).emits = s.emits ∧
    (s.nextFeedPicture n).fresh = s.fresh ∧ (s.nextFeedPicture n).links = s.links ∧
    (s.nextFeedPicture n).shed = s.shed ∧ (s.nextFeedPicture n).copy = s.copy ∧ (s.nextFeedPicture n).fwd = s.fwd ∧
    (s.nextFeedPicture n).rings = s.rings ∧ (s.nextFeedPicture n).egr = s.egr ∧ (s.nextFeedPicture n).alm = s.alm ∧
    (s.nextFeedPicture n).allots = s.allots ∧ (s.nextFeedPicture n).irq = s.irq ∧ (s.nextFeedPicture n).mem = s.mem ∧
    (s.nextFeedPicture n).flt = s.flt ∧ (s.nextFeedPicture n).cal = s.cal ∧ (s.nextFeedPicture n).gauge = s.gauge ∧
    (s.nextFeedPicture n).mod = s.mod ∧ (s.nextFeedPicture n).clk = s.clk ∧ (s.nextFeedPicture n).boot = s.boot := by
  simp only [State.nextFeedPicture]; (repeat' split) <;> simp [State.modFeed]
theorem State.sendStrip_kept (s : State) (die : Nat) (n : Nat) (b : Nat) (line : Nat) (x : List Nat) :
    (s.sendStrip die n b line x).now = s.now ∧ (s.sendStrip die n b line x).pending = s.pending ∧
    (s.sendStrip die n b line x).answer = s.answer ∧ (s.sendStrip die n b line x).fresh = s.fresh ∧
    (s.sendStrip die n b line x).shed = s.shed ∧ (s.sendStrip die n b line x).copy = s.copy ∧
    (s.sendStrip die n b line x).fwd = s.fwd ∧ (s.sendStrip die n b line x).rings = s.rings ∧
    (s.sendStrip die n b line x).egr = s.egr ∧ (s.sendStrip die n b line x).alm = s.alm ∧
    (s.sendStrip die n b line x).allots = s.allots ∧ (s.sendStrip die n b line x).irq = s.irq ∧
    (s.sendStrip die n b line x).mem = s.mem ∧ (s.sendStrip die n b line x).flt = s.flt ∧
    (s.sendStrip die n b line x).cal = s.cal ∧ (s.sendStrip die n b line x).gauge = s.gauge ∧
    (s.sendStrip die n b line x).mod = s.mod ∧ (s.sendStrip die n b line x).clk = s.clk ∧
    (s.sendStrip die n b line x).boot = s.boot := by
  simp [State.ite_kept .., State.sendStrip, State.modBed, State.hold_kept .., State.emit_kept ..]
theorem State.feedStarts_kept (s : State) (n : Nat) :
    (s.feedStarts n).now = s.now ∧ (s.feedStarts n).pending = s.pending ∧ (s.feedStarts n).answer = s.answer ∧
    (s.feedStarts n).emits = s.emits ∧ (s.feedStarts n).fresh = s.fresh ∧ (s.feedStarts n).links = s.links ∧
    (s.feedStarts n).shed = s.shed ∧ (s.feedStarts n).copy = s.copy ∧ (s.feedStarts n).fwd = s.fwd ∧
    (s.feedStarts n).rings = s.rings ∧ (s.feedStarts n).egr = s.egr ∧ (s.feedStarts n).alm = s.alm ∧
    (s.feedStarts n).allots = s.allots ∧ (s.feedStarts n).irq = s.irq ∧ (s.feedStarts n).mem = s.mem ∧
    (s.feedStarts n).flt = s.flt ∧ (s.feedStarts n).cal = s.cal ∧ (s.feedStarts n).gauge = s.gauge ∧
    (s.feedStarts n).mod = s.mod ∧ (s.feedStarts n).clk = s.clk ∧ (s.feedStarts n).boot = s.boot := by
  simp only [State.feedStarts]; (repeat' split) <;> simp [State.ite_kept .., State.modFeed,
  State.repeatPicture_kept .., State.countFeed_kept ..]
theorem State.feedLine_kept (s : State) (n : Nat) (c : Nat) (storeError : Bool) :
    (s.feedLine n c storeError).now = s.now ∧ (s.feedLine n c storeError).pending = s.pending ∧
    (s.feedLine n c storeError).answer = s.answer ∧ (s.feedLine n c storeError).fresh = s.fresh ∧
    (s.feedLine n c storeError).shed = s.shed ∧ (s.feedLine n c storeError).copy = s.copy ∧
    (s.feedLine n c storeError).fwd = s.fwd ∧ (s.feedLine n c storeError).rings = s.rings ∧
    (s.feedLine n c storeError).egr = s.egr ∧ (s.feedLine n c storeError).alm = s.alm ∧
    (s.feedLine n c storeError).allots = s.allots ∧ (s.feedLine n c storeError).irq = s.irq ∧
    (s.feedLine n c storeError).mem = s.mem ∧ (s.feedLine n c storeError).flt = s.flt ∧
    (s.feedLine n c storeError).cal = s.cal ∧ (s.feedLine n c storeError).gauge = s.gauge ∧
    (s.feedLine n c storeError).mod = s.mod ∧ (s.feedLine n c storeError).clk = s.clk := by
  simp [State.ite_kept .., State.feedLine, State.modFeed, State.feedStarts_kept .., State.countFeed_kept ..,
  State.sendStrip_kept ..]
theorem State.takePending_kept (s : State) (n : Nat) (b : Nat) :
    (s.takePending n b).now = s.now ∧ (s.takePending n b).pending = s.pending ∧
    (s.takePending n b).answer = s.answer ∧ (s.takePending n b).emits = s.emits ∧
    (s.takePending n b).fresh = s.fresh ∧ (s.takePending n b).links = s.links ∧ (s.takePending n b).shed = s.shed ∧
    (s.takePending n b).copy = s.copy ∧ (s.takePending n b).fwd = s.fwd ∧ (s.takePending n b).rings = s.rings ∧
    (s.takePending n b).egr = s.egr ∧ (s.takePending n b).alm = s.alm ∧ (s.takePending n b).allots = s.allots ∧
    (s.takePending n b).irq = s.irq ∧ (s.takePending n b).mem = s.mem ∧ (s.takePending n b).flt = s.flt ∧
    (s.takePending n b).cal = s.cal ∧ (s.takePending n b).gauge = s.gauge ∧ (s.takePending n b).mod = s.mod ∧
    (s.takePending n b).clk = s.clk := by
  simp [State.ite_kept .., State.modFeed, State.takePending]
theorem State.lastRowStarted_kept (s : State) (n : Nat) (b : Nat) :
    (s.lastRowStarted n b).now = s.now ∧ (s.lastRowStarted n b).pending = s.pending ∧
    (s.lastRowStarted n b).answer = s.answer ∧ (s.lastRowStarted n b).emits = s.emits ∧
    (s.lastRowStarted n b).fresh = s.fresh ∧ (s.lastRowStarted n b).links = s.links ∧
    (s.lastRowStarted n b).shed = s.shed ∧ (s.lastRowStarted n b).copy = s.copy ∧ (s.lastRowStarted n b).fwd = s.fwd ∧
    (s.lastRowStarted n b).rings = s.rings ∧ (s.lastRowStarted n b).egr = s.egr ∧ (s.lastRowStarted n b).alm = s.alm ∧
    (s.lastRowStarted n b).allots = s.allots ∧ (s.lastRowStarted n b).irq = s.irq ∧
    (s.lastRowStarted n b).mem = s.mem ∧ (s.lastRowStarted n b).flt = s.flt ∧ (s.lastRowStarted n b).cal = s.cal ∧
    (s.lastRowStarted n b).gauge = s.gauge ∧ (s.lastRowStarted n b).mod = s.mod ∧ (s.lastRowStarted n b).clk = s.clk ∧
    (s.lastRowStarted n b).boot = s.boot := by
  simp [State.modFeed, State.lastRowStarted]
theorem State.orderCut_kept (s : State) (n : Nat) (c : Nat) (time : Nat) (tally : Bool) :
    (s.orderCut n c time tally).2.now = s.now ∧ (s.orderCut n c time tally).2.pending = s.pending ∧
    (s.orderCut n c time tally).2.answer = s.answer ∧ (s.orderCut n c time tally).2.emits = s.emits ∧
    (s.orderCut n c time tally).2.fresh = s.fresh ∧ (s.orderCut n c time tally).2.links = s.links ∧
    (s.orderCut n c time tally).2.shed = s.shed ∧ (s.orderCut n c time tally).2.copy = s.copy ∧
    (s.orderCut n c time tally).2.fwd = s.fwd ∧ (s.orderCut n c time tally).2.rings = s.rings ∧
    (s.orderCut n c time tally).2.egr = s.egr ∧ (s.orderCut n c time tally).2.alm = s.alm ∧
    (s.orderCut n c time tally).2.allots = s.allots ∧ (s.orderCut n c time tally).2.irq = s.irq ∧
    (s.orderCut n c time tally).2.mem = s.mem ∧ (s.orderCut n c time tally).2.flt = s.flt ∧
    (s.orderCut n c time tally).2.cal = s.cal ∧ (s.orderCut n c time tally).2.gauge = s.gauge ∧
    (s.orderCut n c time tally).2.mod = s.mod ∧ (s.orderCut n c time tally).2.clk = s.clk ∧
    (s.orderCut n c time tally).2.boot = s.boot := by
  simp [State.ite_kept .., State.modFeed, State.orderCut, State.countFeed_kept ..]
theorem State.takeCuts_kept (s : State) (n : Nat) :
    (s.takeCuts n).2.now = s.now ∧ (s.takeCuts n).2.pending = s.pending ∧ (s.takeCuts n).2.answer = s.answer ∧
    (s.takeCuts n).2.emits = s.emits ∧ (s.takeCuts n).2.fresh = s.fresh ∧ (s.takeCuts n).2.links = s.links ∧
    (s.takeCuts n).2.shed = s.shed ∧ (s.takeCuts n).2.copy = s.copy ∧ (s.takeCuts n).2.fwd = s.fwd ∧
    (s.takeCuts n).2.rings = s.rings ∧ (s.takeCuts n).2.egr = s.egr ∧ (s.takeCuts n).2.allots = s.allots ∧
    (s.takeCuts n).2.irq = s.irq ∧ (s.takeCuts n).2.mem = s.mem ∧ (s.takeCuts n).2.flt = s.flt ∧
    (s.takeCuts n).2.cal = s.cal ∧ (s.takeCuts n).2.gauge = s.gauge ∧ (s.takeCuts n).2.mod = s.mod ∧
    (s.takeCuts n).2.clk = s.clk ∧ (s.takeCuts n).2.boot = s.boot := by
  simp only [State.takeCuts]; split <;> simp [State.ite_kept .., State.modFeed, State.countFeed_kept ..,
      State.setCfgN_kept ..]

/-! ## Stream.lean -/

theorem State.meter_kept (s : State) (die : Nat) (a : Nat) (cls : Nat) (u : Usage) :
    (s.meter die a cls u).now = s.now ∧ (s.meter die a cls u).pending = s.pending ∧
    (s.meter die a cls u).answer = s.answer ∧ (s.meter die a cls u).emits = s.emits ∧
    (s.meter die a cls u).fresh = s.fresh ∧ (s.meter die a cls u).links = s.links ∧
    (s.meter die a cls u).shed = s.shed ∧ (s.meter die a cls u).copy = s.copy ∧ (s.meter die a cls u).fwd = s.fwd ∧
    (s.meter die a cls u).rings = s.rings ∧ (s.meter die a cls u).str = s.str ∧ (s.meter die a cls u).egr = s.egr ∧
    (s.meter die a cls u).alm = s.alm ∧ (s.meter die a cls u).allots = s.allots ∧ (s.meter die a cls u).irq = s.irq ∧
    (s.meter die a cls u).mem = s.mem ∧ (s.meter die a cls u).flt = s.flt ∧ (s.meter die a cls u).cal = s.cal ∧
    (s.meter die a cls u).mod = s.mod ∧ (s.meter die a cls u).clk = s.clk ∧ (s.meter die a cls u).boot = s.boot := by
  simp [State.ite_kept .., State.meter]
theorem State.meterPicture_kept (s : State) (die : Nat) (n : Nat) (k : Nat) (held : Bool) :
    (s.meterPicture die n k held).now = s.now ∧ (s.meterPicture die n k held).pending = s.pending ∧
    (s.meterPicture die n k held).answer = s.answer ∧ (s.meterPicture die n k held).emits = s.emits ∧
    (s.meterPicture die n k held).fresh = s.fresh ∧ (s.meterPicture die n k held).links = s.links ∧
    (s.meterPicture die n k held).shed = s.shed ∧ (s.meterPicture die n k held).copy = s.copy ∧
    (s.meterPicture die n k held).fwd = s.fwd ∧ (s.meterPicture die n k held).rings = s.rings ∧
    (s.meterPicture die n k held).egr = s.egr ∧ (s.meterPicture die n k held).alm = s.alm ∧
    (s.meterPicture die n k held).allots = s.allots ∧ (s.meterPicture die n k held).irq = s.irq ∧
    (s.meterPicture die n k held).mem = s.mem ∧ (s.meterPicture die n k held).flt = s.flt ∧
    (s.meterPicture die n k held).cal = s.cal ∧ (s.meterPicture die n k held).mod = s.mod ∧
    (s.meterPicture die n k held).clk = s.clk ∧ (s.meterPicture die n k held).boot = s.boot := by
  simp [State.modSlot, State.meterPicture, State.meter_kept ..]

/-! ## Emission.lean -/

theorem State.sendOwn_kept (s : State) (die : Nat) (index : Nat) (f : Frame) (o : Own) :
    (s.sendOwn die index f o).now = s.now ∧ (s.sendOwn die index f o).pending = s.pending ∧
    (s.sendOwn die index f o).answer = s.answer ∧ (s.sendOwn die index f o).links = s.links ∧
    (s.sendOwn die index f o).shed = s.shed ∧ (s.sendOwn die index f o).copy = s.copy ∧
    (s.sendOwn die index f o).rings = s.rings ∧ (s.sendOwn die index f o).str = s.str ∧
    (s.sendOwn die index f o).alm = s.alm ∧ (s.sendOwn die index f o).mem = s.mem ∧
    (s.sendOwn die index f o).flt = s.flt ∧ (s.sendOwn die index f o).cal = s.cal ∧
    (s.sendOwn die index f o).gauge = s.gauge ∧ (s.sendOwn die index f o).mod = s.mod ∧
    (s.sendOwn die index f o).clk = s.clk ∧ (s.sendOwn die index f o).boot = s.boot := by
  simp [State.ite_kept .., State.sendOwn, State.cross_kept .., State.deliver_kept .., State.dropRef_kept ..,
      State.newChain_kept ..]
theorem State.emitParts_kept (s : State) (die : Nat) (n : Nat) (row : Nat) (tile : Nat) (length : Nat) (p : Pic) (body : List Part) :
    (s.emitParts die n row tile length p body).now = s.now ∧
    (s.emitParts die n row tile length p body).pending = s.pending ∧
    (s.emitParts die n row tile length p body).answer = s.answer ∧
    (s.emitParts die n row tile length p body).fresh = s.fresh ∧
    (s.emitParts die n row tile length p body).links = s.links ∧
    (s.emitParts die n row tile length p body).shed = s.shed ∧
    (s.emitParts die n row tile length p body).copy = s.copy ∧
    (s.emitParts die n row tile length p body).fwd = s.fwd ∧
    (s.emitParts die n row tile length p body).rings = s.rings ∧
    (s.emitParts die n row tile length p body).egr = s.egr ∧
    (s.emitParts die n row tile length p body).alm = s.alm ∧
    (s.emitParts die n row tile length p body).allots = s.allots ∧
    (s.emitParts die n row tile length p body).irq = s.irq ∧
    (s.emitParts die n row tile length p body).mem = s.mem ∧
    (s.emitParts die n row tile length p body).flt = s.flt ∧
    (s.emitParts die n row tile length p body).cal = s.cal ∧
    (s.emitParts die n row tile length p body).gauge = s.gauge ∧
    (s.emitParts die n row tile length p body).mod = s.mod ∧
    (s.emitParts die n row tile length p body).clk = s.clk ∧
    (s.emitParts die n row tile length p body).boot = s.boot := by
  simp [State.ite_kept .., State.emitParts, State.modSlot, State.emit_kept ..]
theorem State.emitUnit_kept (s : State) (die : Nat) (n : Nat) (row : Nat) (sizes : List Nat) (pic : Pic) (last : Bool) :
    (s.emitUnit die n row sizes pic last).now = s.now ∧
    (s.emitUnit die n row sizes pic last).pending = s.pending ∧
    (s.emitUnit die n row sizes pic last).answer = s.answer ∧
    (s.emitUnit die n row sizes pic last).links = s.links ∧ (s.emitUnit die n row sizes pic last).shed = s.shed ∧
    (s.emitUnit die n row sizes pic last).copy = s.copy ∧ (s.emitUnit die n row sizes pic last).rings = s.rings ∧
    (s.emitUnit die n row sizes pic last).alm = s.alm ∧ (s.emitUnit die n row sizes pic last).mem = s.mem ∧
    (s.emitUnit die n row sizes pic last).flt = s.flt ∧ (s.emitUnit die n row sizes pic last).cal = s.cal ∧
    (s.emitUnit die n row sizes pic last).gauge = s.gauge ∧ (s.emitUnit die n row sizes pic last).mod = s.mod ∧
    (s.emitUnit die n row sizes pic last).clk = s.clk ∧ (s.emitUnit die n row sizes pic last).boot = s.boot := by
  simp only [State.emitUnit]; (repeat' split) <;> simp [State.ite_kept .., State.sendOwn_kept ..]
theorem State.setNext_kept (s : State) (die : Nat) (n : Nat) (at_ : Nat × Nat) :
    (s.setNext die n at_).now = s.now ∧ (s.setNext die n at_).pending = s.pending ∧
    (s.setNext die n at_).answer = s.answer ∧ (s.setNext die n at_).emits = s.emits ∧
    (s.setNext die n at_).fresh = s.fresh ∧ (s.setNext die n at_).links = s.links ∧
    (s.setNext die n at_).shed = s.shed ∧ (s.setNext die n at_).copy = s.copy ∧ (s.setNext die n at_).fwd = s.fwd ∧
    (s.setNext die n at_).rings = s.rings ∧ (s.setNext die n at_).egr = s.egr ∧ (s.setNext die n at_).alm = s.alm ∧
    (s.setNext die n at_).allots = s.allots ∧ (s.setNext die n at_).irq = s.irq ∧ (s.setNext die n at_).mem = s.mem ∧
    (s.setNext die n at_).flt = s.flt ∧ (s.setNext die n at_).cal = s.cal ∧ (s.setNext die n at_).gauge = s.gauge ∧
    (s.setNext die n at_).mod = s.mod ∧ (s.setNext die n at_).clk = s.clk ∧ (s.setNext die n at_).boot = s.boot := by
  simp [State.modTwin, State.setNext]
theorem State.releaseUnit_kept (s : State) (die : Nat) (u : UnitCopy) :
    (s.releaseUnit die u).now = s.now ∧ (s.releaseUnit die u).pending = s.pending ∧
    (s.releaseUnit die u).answer = s.answer ∧ (s.releaseUnit die u).links = s.links ∧
    (s.releaseUnit die u).shed = s.shed ∧ (s.releaseUnit die u).copy = s.copy ∧
    (s.releaseUnit die u).rings = s.rings ∧ (s.releaseUnit die u).alm = s.alm ∧
    (s.releaseUnit die u).mem = s.mem ∧ (s.releaseUnit die u).flt = s.flt ∧ (s.releaseUnit die u).cal = s.cal ∧
    (s.releaseUnit die u).mod = s.mod ∧ (s.releaseUnit die u).clk = s.clk ∧ (s.releaseUnit die u).boot = s.boot := by
  simp only [State.releaseUnit]; (repeat' split) <;> simp [State.ite_kept .., State.modSlot, State.emit_kept ..,
  State.setNext_kept .., State.emitParts_kept .., State.emitUnit_kept .., State.meterPicture_kept ..,
  State.hold_kept ..]
theorem State.holdRow_kept (s : State) (die : Nat) (n : Nat) (place : Nat) (pic : Pic) :
    (s.holdRow die n place pic).now = s.now ∧ (s.holdRow die n place pic).pending = s.pending ∧
    (s.holdRow die n place pic).answer = s.answer ∧ (s.holdRow die n place pic).links = s.links ∧
    (s.holdRow die n place pic).shed = s.shed ∧ (s.holdRow die n place pic).copy = s.copy ∧
    (s.holdRow die n place pic).rings = s.rings ∧ (s.holdRow die n place pic).alm = s.alm ∧
    (s.holdRow die n place pic).mem = s.mem ∧ (s.holdRow die n place pic).flt = s.flt ∧
    (s.holdRow die n place pic).cal = s.cal ∧ (s.holdRow die n place pic).mod = s.mod ∧
    (s.holdRow die n place pic).clk = s.clk ∧ (s.holdRow die n place pic).boot = s.boot := by
  simp [State.ite_kept .., State.holdRow, State.emit_kept .., State.setNext_kept .., State.emitParts_kept ..,
  State.emitUnit_kept .., State.meterPicture_kept ..]
theorem State.holdUnits_kept (s : State) (die : Nat) (n : Nat) (units : Nat) (p : Pic) :
    (s.holdUnits die n units p).now = s.now ∧ (s.holdUnits die n units p).pending = s.pending ∧
    (s.holdUnits die n units p).answer = s.answer ∧ (s.holdUnits die n units p).links = s.links ∧
    (s.holdUnits die n units p).shed = s.shed ∧ (s.holdUnits die n units p).copy = s.copy ∧
    (s.holdUnits die n units p).rings = s.rings ∧ (s.holdUnits die n units p).alm = s.alm ∧
    (s.holdUnits die n units p).mem = s.mem ∧ (s.holdUnits die n units p).flt = s.flt ∧
    (s.holdUnits die n units p).cal = s.cal ∧ (s.holdUnits die n units p).mod = s.mod ∧
    (s.holdUnits die n units p).clk = s.clk ∧ (s.holdUnits die n units p).boot = s.boot := by
  simp [State.holdUnits, State.holdRow_kept ..]
theorem State.holdRest_kept (s : State) (die : Nat) (n : Nat) :
    (s.holdRest die n).now = s.now ∧ (s.holdRest die n).pending = s.pending ∧ (s.holdRest die n).answer = s.answer ∧
    (s.holdRest die n).links = s.links ∧ (s.holdRest die n).shed = s.shed ∧ (s.holdRest die n).copy = s.copy ∧
    (s.holdRest die n).rings = s.rings ∧ (s.holdRest die n).alm = s.alm ∧ (s.holdRest die n).mem = s.mem ∧
    (s.holdRest die n).flt = s.flt ∧ (s.holdRest die n).cal = s.cal ∧ (s.holdRest die n).mod = s.mod ∧
    (s.holdRest die n).clk = s.clk ∧ (s.holdRest die n).boot = s.boot := by
  simp [State.holdRest, -List.foldl_reverse, State.holdUnits_kept ..]

/-! ## Reduction.lean -/
theorem State.sendCoded_kept (s : State) (die : Nat) (n : Nat) (b : Nat) (line : Nat) (x : List Nat) :
    (s.sendCoded die n b line x).now = s.now ∧ (s.sendCoded die n b line x).pending = s.pending ∧
    (s.sendCoded die n b line x).answer = s.answer ∧ (s.sendCoded die n b line x).fresh = s.fresh ∧
    (s.sendCoded die n b line x).shed = s.shed ∧ (s.sendCoded die n b line x).copy = s.copy ∧
    (s.sendCoded die n b line x).fwd = s.fwd ∧ (s.sendCoded die n b line x).rings = s.rings ∧
    (s.sendCoded die n b line x).str = s.str ∧ (s.sendCoded die n b line x).egr = s.egr ∧
    (s.sendCoded die n b line x).alm = s.alm ∧ (s.sendCoded die n b line x).allots = s.allots ∧
    (s.sendCoded die n b line x).irq = s.irq ∧ (s.sendCoded die n b line x).mem = s.mem ∧
    (s.sendCoded die n b line x).flt = s.flt ∧ (s.sendCoded die n b line x).cal = s.cal ∧
    (s.sendCoded die n b line x).gauge = s.gauge ∧ (s.sendCoded die n b line x).mod = s.mod ∧
    (s.sendCoded die n b line x).clk = s.clk ∧ (s.sendCoded die n b line x).boot = s.boot := by
  simp [State.ite_kept .., State.sendCoded, State.hold_kept .., State.emit_kept ..]
theorem State.sendReduced_kept (s : State) (n : Nat) (c : Nat) (line : Nat) :
    (s.sendReduced n c line).now = s.now ∧ (s.sendReduced n c line).pending = s.pending ∧
    (s.sendReduced n c line).answer = s.answer ∧ (s.sendReduced n c line).fresh = s.fresh ∧
    (s.sendReduced n c line).shed = s.shed ∧ (s.sendReduced n c line).copy = s.copy ∧
    (s.sendReduced n c line).fwd = s.fwd ∧ (s.sendReduced n c line).rings = s.rings ∧
    (s.sendReduced n c line).str = s.str ∧ (s.sendReduced n c line).egr = s.egr ∧
    (s.sendReduced n c line).alm = s.alm ∧ (s.sendReduced n c line).allots = s.allots ∧
    (s.sendReduced n c line).irq = s.irq ∧ (s.sendReduced n c line).mem = s.mem ∧
    (s.sendReduced n c line).flt = s.flt ∧ (s.sendReduced n c line).cal = s.cal ∧
    (s.sendReduced n c line).gauge = s.gauge ∧ (s.sendReduced n c line).mod = s.mod ∧
    (s.sendReduced n c line).clk = s.clk ∧ (s.sendReduced n c line).boot = s.boot := by
  simp [State.ite_kept .., State.sendReduced, State.sendCoded_kept ..]
theorem State.analysisLine_kept (s : State) (n : Nat) (c : Nat) (line : Nat) :
    (s.analysisLine n c line).now = s.now ∧ (s.analysisLine n c line).pending = s.pending ∧
    (s.analysisLine n c line).answer = s.answer ∧ (s.analysisLine n c line).emits = s.emits ∧
    (s.analysisLine n c line).fresh = s.fresh ∧ (s.analysisLine n c line).links = s.links ∧
    (s.analysisLine n c line).shed = s.shed ∧ (s.analysisLine n c line).copy = s.copy ∧
    (s.analysisLine n c line).fwd = s.fwd ∧ (s.analysisLine n c line).rings = s.rings ∧
    (s.analysisLine n c line).egr = s.egr ∧ (s.analysisLine n c line).alm = s.alm ∧
    (s.analysisLine n c line).allots = s.allots ∧ (s.analysisLine n c line).irq = s.irq ∧
    (s.analysisLine n c line).mem = s.mem ∧ (s.analysisLine n c line).flt = s.flt ∧
    (s.analysisLine n c line).cal = s.cal ∧ (s.analysisLine n c line).gauge = s.gauge ∧
    (s.analysisLine n c line).mod = s.mod ∧ (s.analysisLine n c line).clk = s.clk ∧
    (s.analysisLine n c line).boot = s.boot := by
  simp [State.ite_kept .., State.analysisLine, State.modSlot]
theorem State.stampPicture_kept (s : State) (n : Nat) (c : Nat) :
    (s.stampPicture n c).now = s.now ∧ (s.stampPicture n c).pending = s.pending ∧
    (s.stampPicture n c).answer = s.answer ∧ (s.stampPicture n c).emits = s.emits ∧
    (s.stampPicture n c).fresh = s.fresh ∧ (s.stampPicture n c).links = s.links ∧
    (s.stampPicture n c).shed = s.shed ∧ (s.stampPicture n c).copy = s.copy ∧ (s.stampPicture n c).fwd = s.fwd ∧
    (s.stampPicture n c).rings = s.rings ∧ (s.stampPicture n c).egr = s.egr ∧ (s.stampPicture n c).alm = s.alm ∧
    (s.stampPicture n c).allots = s.allots ∧ (s.stampPicture n c).irq = s.irq ∧ (s.stampPicture n c).mem = s.mem ∧
    (s.stampPicture n c).flt = s.flt ∧ (s.stampPicture n c).cal = s.cal ∧ (s.stampPicture n c).gauge = s.gauge ∧
    (s.stampPicture n c).mod = s.mod ∧ (s.stampPicture n c).clk = s.clk ∧ (s.stampPicture n c).boot = s.boot := by
  simp only [State.stampPicture]; (repeat' split) <;> simp [State.ite_kept .., State.modSlot]
theorem State.readLine_kept (s : State) (n : Nat) (c : Nat) (storeError : Bool) :
    (s.readLine n c storeError).now = s.now ∧ (s.readLine n c storeError).pending = s.pending ∧
    (s.readLine n c storeError).answer = s.answer ∧ (s.readLine n c storeError).fresh = s.fresh ∧
    (s.readLine n c storeError).shed = s.shed ∧ (s.readLine n c storeError).copy = s.copy ∧
    (s.readLine n c storeError).fwd = s.fwd ∧ (s.readLine n c storeError).rings = s.rings ∧
    (s.readLine n c storeError).egr = s.egr ∧ (s.readLine n c storeError).alm = s.alm ∧
    (s.readLine n c storeError).allots = s.allots ∧ (s.readLine n c storeError).irq = s.irq ∧
    (s.readLine n c storeError).mem = s.mem ∧ (s.readLine n c storeError).flt = s.flt ∧
    (s.readLine n c storeError).cal = s.cal ∧ (s.readLine n c storeError).gauge = s.gauge ∧
    (s.readLine n c storeError).mod = s.mod ∧ (s.readLine n c storeError).clk = s.clk := by
  simp [State.ite_kept .., State.readLine, State.stampPicture_kept .., State.feedLine_kept ..,
  State.analysisLine_kept .., State.sendReduced_kept ..]

/-! ## TimeState.lean -/

theorem State.setTime_kept (s : State) (st : TimeState) :
    (s.setTime st).now = s.now ∧ (s.setTime st).pending = s.pending ∧ (s.setTime st).answer = s.answer ∧
    (s.setTime st).fresh = s.fresh ∧ (s.setTime st).links = s.links ∧ (s.setTime st).shed = s.shed ∧
    (s.setTime st).copy = s.copy ∧ (s.setTime st).fwd = s.fwd ∧ (s.setTime st).rings = s.rings ∧
    (s.setTime st).str = s.str ∧ (s.setTime st).egr = s.egr ∧ (s.setTime st).alm = s.alm ∧
    (s.setTime st).mem = s.mem ∧ (s.setTime st).flt = s.flt ∧ (s.setTime st).cal = s.cal ∧
    (s.setTime st).gauge = s.gauge ∧ (s.setTime st).mod = s.mod ∧ (s.setTime st).boot = s.boot := by
  simp [State.ite_kept .., State.setTime, State.raise_kept ..]
theorem State.leaveLocked_kept (s : State) :
    s.leaveLocked.now = s.now ∧ s.leaveLocked.pending = s.pending ∧ s.leaveLocked.answer = s.answer ∧
    s.leaveLocked.fresh = s.fresh ∧ s.leaveLocked.links = s.links ∧ s.leaveLocked.shed = s.shed ∧
    s.leaveLocked.copy = s.copy ∧ s.leaveLocked.fwd = s.fwd ∧ s.leaveLocked.rings = s.rings ∧
    s.leaveLocked.str = s.str ∧ s.leaveLocked.egr = s.egr ∧ s.leaveLocked.alm = s.alm ∧ s.leaveLocked.mem = s.mem ∧
    s.leaveLocked.flt = s.flt ∧ s.leaveLocked.cal = s.cal ∧ s.leaveLocked.gauge = s.gauge ∧
    s.leaveLocked.mod = s.mod ∧ s.leaveLocked.boot = s.boot := by
  simp [State.leaveLocked, State.setTime_kept ..]
theorem State.slaveChanged_kept (s : State) (new : Option (Nat × Announce)) :
    (s.slaveChanged new).now = s.now ∧ (s.slaveChanged new).pending = s.pending ∧
    (s.slaveChanged new).answer = s.answer ∧ (s.slaveChanged new).fresh = s.fresh ∧
    (s.slaveChanged new).links = s.links ∧ (s.slaveChanged new).shed = s.shed ∧ (s.slaveChanged new).copy = s.copy ∧
    (s.slaveChanged new).fwd = s.fwd ∧ (s.slaveChanged new).rings = s.rings ∧ (s.slaveChanged new).str = s.str ∧
    (s.slaveChanged new).egr = s.egr ∧ (s.slaveChanged new).alm = s.alm ∧ (s.slaveChanged new).mem = s.mem ∧
    (s.slaveChanged new).flt = s.flt ∧ (s.slaveChanged new).cal = s.cal ∧ (s.slaveChanged new).gauge = s.gauge ∧
    (s.slaveChanged new).mod = s.mod ∧ (s.slaveChanged new).boot = s.boot := by
  simp only [State.slaveChanged]; (repeat' split) <;> simp [State.leaveLocked_kept .., State.setTime_kept ..]
theorem State.bmca_kept (s : State) :
    s.bmca.now = s.now ∧ s.bmca.pending = s.pending ∧ s.bmca.answer = s.answer ∧ s.bmca.fresh = s.fresh ∧
    s.bmca.links = s.links ∧ s.bmca.shed = s.shed ∧ s.bmca.copy = s.copy ∧ s.bmca.fwd = s.fwd ∧
    s.bmca.rings = s.rings ∧ s.bmca.str = s.str ∧ s.bmca.egr = s.egr ∧ s.bmca.alm = s.alm ∧ s.bmca.mem = s.mem ∧
    s.bmca.flt = s.flt ∧ s.bmca.cal = s.cal ∧ s.bmca.gauge = s.gauge ∧ s.bmca.mod = s.mod ∧ s.bmca.boot = s.boot := by
  simp [State.ite_kept .., State.bmca, State.slaveChanged_kept ..]
theorem State.slaveLost_kept (s : State) :
    s.slaveLost.now = s.now ∧ s.slaveLost.pending = s.pending ∧ s.slaveLost.answer = s.answer ∧
    s.slaveLost.fresh = s.fresh ∧ s.slaveLost.links = s.links ∧ s.slaveLost.shed = s.shed ∧
    s.slaveLost.copy = s.copy ∧ s.slaveLost.fwd = s.fwd ∧ s.slaveLost.rings = s.rings ∧ s.slaveLost.str = s.str ∧
    s.slaveLost.egr = s.egr ∧ s.slaveLost.alm = s.alm ∧ s.slaveLost.mem = s.mem ∧ s.slaveLost.flt = s.flt ∧
    s.slaveLost.cal = s.cal ∧ s.slaveLost.gauge = s.gauge ∧ s.slaveLost.mod = s.mod ∧ s.slaveLost.boot = s.boot := by
  simp [State.ite_kept .., State.slaveLost, State.bmca_kept .., State.leaveLocked_kept ..]

/-! ## Flags.lean -/

theorem State.tick_kept (s : State) (n : Nat) :
    (s.tick n).now = s.now ∧ (s.tick n).pending = s.pending ∧ (s.tick n).answer = s.answer ∧
    (s.tick n).emits = s.emits ∧ (s.tick n).fresh = s.fresh ∧ (s.tick n).links = s.links ∧ (s.tick n).shed = s.shed ∧
    (s.tick n).copy = s.copy ∧ (s.tick n).fwd = s.fwd ∧ (s.tick n).rings = s.rings ∧ (s.tick n).egr = s.egr ∧
    (s.tick n).alm = s.alm ∧ (s.tick n).allots = s.allots ∧ (s.tick n).irq = s.irq ∧ (s.tick n).mem = s.mem ∧
    (s.tick n).flt = s.flt ∧ (s.tick n).cal = s.cal ∧ (s.tick n).gauge = s.gauge ∧ (s.tick n).mod = s.mod ∧
    (s.tick n).clk = s.clk ∧ (s.tick n).boot = s.boot := by
  simp [State.tick]
theorem State.pulse_kept (s : State) (n : Nat) (ev : Nat) :
    (s.pulse n ev).now = s.now ∧ (s.pulse n ev).pending = s.pending ∧ (s.pulse n ev).answer = s.answer ∧
    (s.pulse n ev).emits = s.emits ∧ (s.pulse n ev).fresh = s.fresh ∧ (s.pulse n ev).links = s.links ∧
    (s.pulse n ev).shed = s.shed ∧ (s.pulse n ev).copy = s.copy ∧ (s.pulse n ev).fwd = s.fwd ∧
    (s.pulse n ev).rings = s.rings ∧ (s.pulse n ev).egr = s.egr ∧ (s.pulse n ev).alm = s.alm ∧
    (s.pulse n ev).allots = s.allots ∧ (s.pulse n ev).irq = s.irq ∧ (s.pulse n ev).mem = s.mem ∧
    (s.pulse n ev).flt = s.flt ∧ (s.pulse n ev).cal = s.cal ∧ (s.pulse n ev).gauge = s.gauge ∧
    (s.pulse n ev).mod = s.mod ∧ (s.pulse n ev).clk = s.clk ∧ (s.pulse n ev).boot = s.boot := by
  simp [State.ite_kept .., State.pulse]
end Sys2Proof.Machine
end

