-- ==== Sys2Proof/Laws/FramesFaults.lean ====
section
/-! SUPPORT. The parts of the state that prunes, reactions and unit resets leave alone: one lemma for each operation, by its parts. -/

set_option linter.unusedSimpArgs false

namespace Sys2Proof.Machine

/-! ## Faults.lean -/

theorem State.setBed_kept (s : State) (b : Nat) (st : BedState) :
    (s.setBed b st).now = s.now ∧ (s.setBed b st).pending = s.pending ∧ (s.setBed b st).answer = s.answer ∧
    (s.setBed b st).fresh = s.fresh ∧ (s.setBed b st).links = s.links ∧ (s.setBed b st).shed = s.shed ∧
    (s.setBed b st).copy = s.copy ∧ (s.setBed b st).fwd = s.fwd ∧ (s.setBed b st).rings = s.rings ∧
    (s.setBed b st).egr = s.egr ∧ (s.setBed b st).alm = s.alm ∧ (s.setBed b st).mem = s.mem ∧
    (s.setBed b st).flt = s.flt ∧ (s.setBed b st).cal = s.cal ∧ (s.setBed b st).gauge = s.gauge ∧
    (s.setBed b st).mod = s.mod ∧ (s.setBed b st).clk = s.clk ∧ (s.setBed b st).boot = s.boot := by
  simp [State.ite_kept .., State.modBed, State.setBed, State.raise_kept .., State.tick_kept ..]
theorem State.setTwin_kept (s : State) (n : Nat) (st : TwinState) :
    (s.setTwin n st).now = s.now ∧ (s.setTwin n st).pending = s.pending ∧ (s.setTwin n st).answer = s.answer ∧
    (s.setTwin n st).fresh = s.fresh ∧ (s.setTwin n st).links = s.links ∧ (s.setTwin n st).shed = s.shed ∧
    (s.setTwin n st).copy = s.copy ∧ (s.setTwin n st).fwd = s.fwd ∧ (s.setTwin n st).rings = s.rings ∧
    (s.setTwin n st).egr = s.egr ∧ (s.setTwin n st).alm = s.alm ∧ (s.setTwin n st).mem = s.mem ∧
    (s.setTwin n st).flt = s.flt ∧ (s.setTwin n st).cal = s.cal ∧ (s.setTwin n st).gauge = s.gauge ∧
    (s.setTwin n st).mod = s.mod ∧ (s.setTwin n st).clk = s.clk ∧ (s.setTwin n st).boot = s.boot := by
  simp [State.ite_kept .., State.modTwin, State.setTwin, State.raise_kept ..]
theorem State.setExcused_kept (s : State) (n : Nat) (b : Option Nat) :
    (s.setExcused n b).now = s.now ∧ (s.setExcused n b).pending = s.pending ∧ (s.setExcused n b).answer = s.answer ∧
    (s.setExcused n b).fresh = s.fresh ∧ (s.setExcused n b).links = s.links ∧ (s.setExcused n b).shed = s.shed ∧
    (s.setExcused n b).copy = s.copy ∧ (s.setExcused n b).fwd = s.fwd ∧ (s.setExcused n b).rings = s.rings ∧
    (s.setExcused n b).egr = s.egr ∧ (s.setExcused n b).alm = s.alm ∧ (s.setExcused n b).mem = s.mem ∧
    (s.setExcused n b).flt = s.flt ∧ (s.setExcused n b).cal = s.cal ∧ (s.setExcused n b).gauge = s.gauge ∧
    (s.setExcused n b).mod = s.mod ∧ (s.setExcused n b).clk = s.clk ∧ (s.setExcused n b).boot = s.boot := by
  simp [State.ite_kept .., State.modTwin, State.setExcused, State.raise_kept ..]
theorem State.countTwin_kept (s : State) (n : Nat) (i : Nat) :
    (s.countTwin n i).now = s.now ∧ (s.countTwin n i).pending = s.pending ∧ (s.countTwin n i).answer = s.answer ∧
    (s.countTwin n i).emits = s.emits ∧ (s.countTwin n i).fresh = s.fresh ∧ (s.countTwin n i).links = s.links ∧
    (s.countTwin n i).shed = s.shed ∧ (s.countTwin n i).copy = s.copy ∧ (s.countTwin n i).fwd = s.fwd ∧
    (s.countTwin n i).rings = s.rings ∧ (s.countTwin n i).egr = s.egr ∧ (s.countTwin n i).alm = s.alm ∧
    (s.countTwin n i).allots = s.allots ∧ (s.countTwin n i).irq = s.irq ∧ (s.countTwin n i).mem = s.mem ∧
    (s.countTwin n i).flt = s.flt ∧ (s.countTwin n i).cal = s.cal ∧ (s.countTwin n i).gauge = s.gauge ∧
    (s.countTwin n i).mod = s.mod ∧ (s.countTwin n i).clk = s.clk ∧ (s.countTwin n i).boot = s.boot := by
  simp [State.modTwin, State.countTwin]
theorem State.judge_kept (s : State) (n : Nat) :
    (s.judge n).now = s.now ∧ (s.judge n).pending = s.pending ∧ (s.judge n).answer = s.answer ∧
    (s.judge n).emits = s.emits ∧ (s.judge n).fresh = s.fresh ∧ (s.judge n).links = s.links ∧
    (s.judge n).shed = s.shed ∧ (s.judge n).copy = s.copy ∧ (s.judge n).fwd = s.fwd ∧ (s.judge n).rings = s.rings ∧
    (s.judge n).egr = s.egr ∧ (s.judge n).alm = s.alm ∧ (s.judge n).allots = s.allots ∧ (s.judge n).irq = s.irq ∧
    (s.judge n).mem = s.mem ∧ (s.judge n).flt = s.flt ∧ (s.judge n).cal = s.cal ∧ (s.judge n).gauge = s.gauge ∧
    (s.judge n).mod = s.mod ∧ (s.judge n).clk = s.clk ∧ (s.judge n).boot = s.boot := by
  simp [State.ite_kept .., State.modTwin, State.judge]
theorem State.judgeAll_kept (s : State) :
    s.judgeAll.now = s.now ∧ s.judgeAll.pending = s.pending ∧ s.judgeAll.answer = s.answer ∧
    s.judgeAll.emits = s.emits ∧ s.judgeAll.fresh = s.fresh ∧ s.judgeAll.links = s.links ∧ s.judgeAll.shed = s.shed ∧
    s.judgeAll.copy = s.copy ∧ s.judgeAll.fwd = s.fwd ∧ s.judgeAll.rings = s.rings ∧ s.judgeAll.egr = s.egr ∧
    s.judgeAll.alm = s.alm ∧ s.judgeAll.allots = s.allots ∧ s.judgeAll.irq = s.irq ∧ s.judgeAll.mem = s.mem ∧
    s.judgeAll.flt = s.flt ∧ s.judgeAll.cal = s.cal ∧ s.judgeAll.gauge = s.gauge ∧ s.judgeAll.mod = s.mod ∧
    s.judgeAll.clk = s.clk ∧ s.judgeAll.boot = s.boot := by
  simp [State.judgeAll, State.judge_kept ..]
theorem State.patchSettled_kept (s : State)  :
    s.patchSettled.now = s.now ∧ s.patchSettled.pending = s.pending ∧ s.patchSettled.answer = s.answer ∧
    s.patchSettled.emits = s.emits ∧ s.patchSettled.fresh = s.fresh ∧ s.patchSettled.links = s.links ∧
    s.patchSettled.shed = s.shed ∧ s.patchSettled.copy = s.copy ∧ s.patchSettled.fwd = s.fwd ∧
    s.patchSettled.rings = s.rings ∧ s.patchSettled.egr = s.egr ∧ s.patchSettled.alm = s.alm ∧
    s.patchSettled.allots = s.allots ∧ s.patchSettled.irq = s.irq ∧ s.patchSettled.mem = s.mem ∧
    s.patchSettled.flt = s.flt ∧ s.patchSettled.cal = s.cal ∧ s.patchSettled.gauge = s.gauge ∧
    s.patchSettled.mod = s.mod ∧ s.patchSettled.clk = s.clk ∧ s.patchSettled.boot = s.boot := by
  simp [State.ite_kept .., State.patchSettled]
theorem State.switchBank_kept (s : State) (n : Nat) :
    (s.switchBank n).now = s.now ∧ (s.switchBank n).pending = s.pending ∧ (s.switchBank n).answer = s.answer ∧
    (s.switchBank n).fresh = s.fresh ∧ (s.switchBank n).links = s.links ∧ (s.switchBank n).shed = s.shed ∧
    (s.switchBank n).copy = s.copy ∧ (s.switchBank n).fwd = s.fwd ∧ (s.switchBank n).rings = s.rings ∧
    (s.switchBank n).egr = s.egr ∧ (s.switchBank n).alm = s.alm ∧ (s.switchBank n).mem = s.mem ∧
    (s.switchBank n).flt = s.flt ∧ (s.switchBank n).cal = s.cal ∧ (s.switchBank n).gauge = s.gauge ∧
    (s.switchBank n).mod = s.mod ∧ (s.switchBank n).clk = s.clk ∧ (s.switchBank n).boot = s.boot := by
  simp only [State.switchBank]; (repeat' split) <;> simp [State.ite_kept .., State.modBed, State.raise_kept ..]
theorem State.freshPatch_kept (s : State) (n : Nat) :
    (s.freshPatch n).now = s.now ∧ (s.freshPatch n).pending = s.pending ∧ (s.freshPatch n).answer = s.answer ∧
    (s.freshPatch n).fresh = s.fresh ∧ (s.freshPatch n).links = s.links ∧ (s.freshPatch n).shed = s.shed ∧
    (s.freshPatch n).copy = s.copy ∧ (s.freshPatch n).fwd = s.fwd ∧ (s.freshPatch n).rings = s.rings ∧
    (s.freshPatch n).egr = s.egr ∧ (s.freshPatch n).alm = s.alm ∧ (s.freshPatch n).mem = s.mem ∧
    (s.freshPatch n).flt = s.flt ∧ (s.freshPatch n).cal = s.cal ∧ (s.freshPatch n).gauge = s.gauge ∧
    (s.freshPatch n).mod = s.mod ∧ (s.freshPatch n).clk = s.clk ∧ (s.freshPatch n).boot = s.boot := by
  simp [State.ite_kept .., State.freshPatch, State.modBed, State.switchBank_kept .., State.patchSettled_kept ..]
theorem State.clearBed_kept (s : State) (n : Nat) :
    (s.clearBed n).now = s.now ∧ (s.clearBed n).pending = s.pending ∧ (s.clearBed n).answer = s.answer ∧
    (s.clearBed n).emits = s.emits ∧ (s.clearBed n).fresh = s.fresh ∧ (s.clearBed n).links = s.links ∧
    (s.clearBed n).shed = s.shed ∧ (s.clearBed n).copy = s.copy ∧ (s.clearBed n).fwd = s.fwd ∧
    (s.clearBed n).rings = s.rings ∧ (s.clearBed n).egr = s.egr ∧ (s.clearBed n).alm = s.alm ∧
    (s.clearBed n).allots = s.allots ∧ (s.clearBed n).irq = s.irq ∧ (s.clearBed n).mem = s.mem ∧
    (s.clearBed n).flt = s.flt ∧ (s.clearBed n).cal = s.cal ∧ (s.clearBed n).gauge = s.gauge ∧
    (s.clearBed n).mod = s.mod ∧ (s.clearBed n).clk = s.clk ∧ (s.clearBed n).boot = s.boot := by
  simp [State.ite_kept .., State.clearBed, State.modBed]
theorem State.setSlots_kept (s : State) (n : Nat) (f : List Nat → List Nat) :
    (s.setSlots n f).now = s.now ∧ (s.setSlots n f).pending = s.pending ∧ (s.setSlots n f).answer = s.answer ∧
    (s.setSlots n f).emits = s.emits ∧ (s.setSlots n f).fresh = s.fresh ∧ (s.setSlots n f).links = s.links ∧
    (s.setSlots n f).shed = s.shed ∧ (s.setSlots n f).copy = s.copy ∧ (s.setSlots n f).fwd = s.fwd ∧
    (s.setSlots n f).rings = s.rings ∧ (s.setSlots n f).egr = s.egr ∧ (s.setSlots n f).alm = s.alm ∧
    (s.setSlots n f).allots = s.allots ∧ (s.setSlots n f).mem = s.mem ∧ (s.setSlots n f).flt = s.flt ∧
    (s.setSlots n f).cal = s.cal ∧ (s.setSlots n f).gauge = s.gauge ∧ (s.setSlots n f).mod = s.mod ∧
    (s.setSlots n f).clk = s.clk ∧ (s.setSlots n f).boot = s.boot := by
  simp [State.ite_kept .., State.setSlots, State.modBed, State.reowned_kept ..]
theorem State.unassign_kept (s : State) (n : Nat) (slot : Nat) :
    (s.unassign n slot).now = s.now ∧ (s.unassign n slot).pending = s.pending ∧
    (s.unassign n slot).answer = s.answer ∧ (s.unassign n slot).fresh = s.fresh ∧
    (s.unassign n slot).links = s.links ∧ (s.unassign n slot).shed = s.shed ∧ (s.unassign n slot).copy = s.copy ∧
    (s.unassign n slot).fwd = s.fwd ∧ (s.unassign n slot).rings = s.rings ∧ (s.unassign n slot).egr = s.egr ∧
    (s.unassign n slot).alm = s.alm ∧ (s.unassign n slot).mem = s.mem ∧ (s.unassign n slot).flt = s.flt ∧
    (s.unassign n slot).cal = s.cal ∧ (s.unassign n slot).gauge = s.gauge ∧ (s.unassign n slot).mod = s.mod ∧
    (s.unassign n slot).clk = s.clk ∧ (s.unassign n slot).boot = s.boot := by
  simp [State.ite_kept .., State.unassign, State.modBed, State.setSlots_kept .., State.clearBed_kept ..,
  State.setBed_kept .., State.freshPatch_kept ..]
theorem State.endContest_kept (s : State) (n : Nat) :
    (s.endContest n).now = s.now ∧ (s.endContest n).pending = s.pending ∧ (s.endContest n).answer = s.answer ∧
    (s.endContest n).fresh = s.fresh ∧ (s.endContest n).links = s.links ∧ (s.endContest n).shed = s.shed ∧
    (s.endContest n).copy = s.copy ∧ (s.endContest n).fwd = s.fwd ∧ (s.endContest n).rings = s.rings ∧
    (s.endContest n).egr = s.egr ∧ (s.endContest n).alm = s.alm ∧ (s.endContest n).mem = s.mem ∧
    (s.endContest n).flt = s.flt ∧ (s.endContest n).cal = s.cal ∧ (s.endContest n).gauge = s.gauge ∧
    (s.endContest n).mod = s.mod ∧ (s.endContest n).clk = s.clk ∧ (s.endContest n).boot = s.boot := by
  simp [State.ite_kept .., State.endContest, State.modTwin, State.unassign_kept ..]
theorem State.doubleFaultOne_kept (s : State) (n : Nat) :
    (s.doubleFaultOne n).now = s.now ∧ (s.doubleFaultOne n).pending = s.pending ∧
    (s.doubleFaultOne n).answer = s.answer ∧ (s.doubleFaultOne n).links = s.links ∧
    (s.doubleFaultOne n).shed = s.shed ∧ (s.doubleFaultOne n).copy = s.copy ∧ (s.doubleFaultOne n).rings = s.rings ∧
    (s.doubleFaultOne n).alm = s.alm ∧ (s.doubleFaultOne n).mem = s.mem ∧ (s.doubleFaultOne n).flt = s.flt ∧
    (s.doubleFaultOne n).cal = s.cal ∧ (s.doubleFaultOne n).mod = s.mod ∧ (s.doubleFaultOne n).clk = s.clk ∧
    (s.doubleFaultOne n).boot = s.boot := by
  simp [State.ite_kept .., State.modSlot, State.modTwin, State.doubleFaultOne, State.countTwin_kept ..,
      State.endContest_kept ..,
      State.holdRest_kept ..,
      State.setExcused_kept ..,
      State.setTwin_kept ..]
theorem State.doubleFault_kept (s : State) (n : Nat) :
    (s.doubleFault n).now = s.now ∧ (s.doubleFault n).pending = s.pending ∧ (s.doubleFault n).answer = s.answer ∧
    (s.doubleFault n).links = s.links ∧ (s.doubleFault n).shed = s.shed ∧ (s.doubleFault n).copy = s.copy ∧
    (s.doubleFault n).rings = s.rings ∧ (s.doubleFault n).alm = s.alm ∧ (s.doubleFault n).mem = s.mem ∧
    (s.doubleFault n).flt = s.flt ∧ (s.doubleFault n).cal = s.cal ∧ (s.doubleFault n).mod = s.mod ∧
    (s.doubleFault n).clk = s.clk ∧ (s.doubleFault n).boot = s.boot := by
  simp [State.doubleFault, State.doubleFaultOne_kept ..]
theorem State.flushOpen_kept (s : State) (n : Nat) :
    (s.flushOpen n).now = s.now ∧ (s.flushOpen n).pending = s.pending ∧ (s.flushOpen n).answer = s.answer ∧
    (s.flushOpen n).links = s.links ∧ (s.flushOpen n).shed = s.shed ∧ (s.flushOpen n).copy = s.copy ∧
    (s.flushOpen n).rings = s.rings ∧ (s.flushOpen n).alm = s.alm ∧ (s.flushOpen n).mem = s.mem ∧
    (s.flushOpen n).flt = s.flt ∧ (s.flushOpen n).cal = s.cal ∧ (s.flushOpen n).mod = s.mod ∧
    (s.flushOpen n).clk = s.clk ∧ (s.flushOpen n).boot = s.boot := by
  simp [State.ite_kept .., State.flushOpen, State.doubleFault_kept .., State.releaseUnit_kept ..]
theorem State.refence_kept (s : State) (n : Nat) :
    (s.refence n).now = s.now ∧ (s.refence n).pending = s.pending ∧ (s.refence n).answer = s.answer ∧
    (s.refence n).emits = s.emits ∧ (s.refence n).fresh = s.fresh ∧ (s.refence n).links = s.links ∧
    (s.refence n).shed = s.shed ∧ (s.refence n).copy = s.copy ∧ (s.refence n).fwd = s.fwd ∧
    (s.refence n).rings = s.rings ∧ (s.refence n).egr = s.egr ∧ (s.refence n).alm = s.alm ∧
    (s.refence n).allots = s.allots ∧ (s.refence n).irq = s.irq ∧ (s.refence n).mem = s.mem ∧
    (s.refence n).flt = s.flt ∧ (s.refence n).cal = s.cal ∧ (s.refence n).gauge = s.gauge ∧
    (s.refence n).mod = s.mod ∧ (s.refence n).clk = s.clk ∧ (s.refence n).boot = s.boot := by
  simp [State.ite_kept .., State.modSlot, State.refence]
theorem State.keepRegions_kept (s : State) (n : Nat) (beds : List Nat) :
    (s.keepRegions n beds).now = s.now ∧ (s.keepRegions n beds).pending = s.pending ∧
    (s.keepRegions n beds).answer = s.answer ∧ (s.keepRegions n beds).emits = s.emits ∧
    (s.keepRegions n beds).fresh = s.fresh ∧ (s.keepRegions n beds).links = s.links ∧
    (s.keepRegions n beds).shed = s.shed ∧ (s.keepRegions n beds).copy = s.copy ∧ (s.keepRegions n beds).fwd = s.fwd ∧
    (s.keepRegions n beds).rings = s.rings ∧ (s.keepRegions n beds).egr = s.egr ∧ (s.keepRegions n beds).alm = s.alm ∧
    (s.keepRegions n beds).allots = s.allots ∧ (s.keepRegions n beds).irq = s.irq ∧
    (s.keepRegions n beds).mem = s.mem ∧ (s.keepRegions n beds).flt = s.flt ∧ (s.keepRegions n beds).cal = s.cal ∧
    (s.keepRegions n beds).gauge = s.gauge ∧ (s.keepRegions n beds).mod = s.mod ∧ (s.keepRegions n beds).clk = s.clk ∧
    (s.keepRegions n beds).boot = s.boot := by
  simp [State.modSlot, State.keepRegions, State.refence_kept ..]
theorem State.loseMember_kept (s : State) (n : Nat) (side : List Nat) :
    (s.loseMember n side).now = s.now ∧ (s.loseMember n side).pending = s.pending ∧
    (s.loseMember n side).answer = s.answer ∧ (s.loseMember n side).links = s.links ∧
    (s.loseMember n side).shed = s.shed ∧ (s.loseMember n side).copy = s.copy ∧
    (s.loseMember n side).rings = s.rings ∧ (s.loseMember n side).alm = s.alm ∧
    (s.loseMember n side).mem = s.mem ∧ (s.loseMember n side).flt = s.flt ∧ (s.loseMember n side).cal = s.cal ∧
    (s.loseMember n side).mod = s.mod ∧ (s.loseMember n side).clk = s.clk ∧ (s.loseMember n side).boot = s.boot := by
  simp [State.ite_kept .., State.loseMember, State.modTwin, State.setSlots_kept .., State.keepRegions_kept ..,
  State.setTwin_kept .., State.endContest_kept .., State.countTwin_kept .., State.setExcused_kept ..,
  State.doubleFault_kept .., State.flushOpen_kept .., State.judge_kept ..]
theorem State.stopTicks_kept (s : State) :
    s.stopTicks.now = s.now ∧ s.stopTicks.pending = s.pending ∧ s.stopTicks.answer = s.answer ∧
    s.stopTicks.emits = s.emits ∧ s.stopTicks.fresh = s.fresh ∧ s.stopTicks.links = s.links ∧
    s.stopTicks.shed = s.shed ∧ s.stopTicks.copy = s.copy ∧ s.stopTicks.fwd = s.fwd ∧ s.stopTicks.rings = s.rings ∧
    s.stopTicks.str = s.str ∧ s.stopTicks.egr = s.egr ∧ s.stopTicks.alm = s.alm ∧ s.stopTicks.allots = s.allots ∧
    s.stopTicks.irq = s.irq ∧ s.stopTicks.mem = s.mem ∧ s.stopTicks.cal = s.cal ∧ s.stopTicks.gauge = s.gauge ∧
    s.stopTicks.mod = s.mod ∧ s.stopTicks.clk = s.clk ∧ s.stopTicks.boot = s.boot := by
  simp [State.modFlt, State.stopTicks]
theorem State.markPruned_kept (s : State) (d : Nat) (u : Nat) :
    (s.markPruned d u).now = s.now ∧ (s.markPruned d u).pending = s.pending ∧
    (s.markPruned d u).answer = s.answer ∧ (s.markPruned d u).emits = s.emits ∧
    (s.markPruned d u).fresh = s.fresh ∧ (s.markPruned d u).links = s.links ∧ (s.markPruned d u).shed = s.shed ∧
    (s.markPruned d u).copy = s.copy ∧ (s.markPruned d u).fwd = s.fwd ∧ (s.markPruned d u).rings = s.rings ∧
    (s.markPruned d u).str = s.str ∧ (s.markPruned d u).egr = s.egr ∧ (s.markPruned d u).alm = s.alm ∧
    (s.markPruned d u).allots = s.allots ∧ (s.markPruned d u).irq = s.irq ∧ (s.markPruned d u).mem = s.mem ∧
    (s.markPruned d u).cal = s.cal ∧ (s.markPruned d u).gauge = s.gauge ∧ (s.markPruned d u).mod = s.mod ∧
    (s.markPruned d u).clk = s.clk ∧ (s.markPruned d u).boot = s.boot := by
  simp [State.ite_kept .., State.markPruned, State.modFlt, State.stopTicks_kept ..]
theorem State.abandon_kept (s : State) (d : Nat) (u : Nat) :
    (s.abandon d u).now = s.now ∧ (s.abandon d u).pending = s.pending ∧ (s.abandon d u).answer = s.answer ∧
    (s.abandon d u).emits = s.emits ∧ (s.abandon d u).fresh = s.fresh ∧ (s.abandon d u).links = s.links ∧
    (s.abandon d u).shed = s.shed ∧ (s.abandon d u).copy = s.copy ∧ (s.abandon d u).fwd = s.fwd ∧
    (s.abandon d u).rings = s.rings ∧ (s.abandon d u).str = s.str ∧ (s.abandon d u).egr = s.egr ∧
    (s.abandon d u).alm = s.alm ∧ (s.abandon d u).allots = s.allots ∧ (s.abandon d u).irq = s.irq ∧
    (s.abandon d u).mem = s.mem ∧ (s.abandon d u).cal = s.cal ∧ (s.abandon d u).gauge = s.gauge ∧
    (s.abandon d u).mod = s.mod ∧ (s.abandon d u).clk = s.clk ∧ (s.abandon d u).boot = s.boot := by
  simp [State.ite_kept .., State.abandon, State.modFlt]
theorem State.pruneBed_kept (s : State) (b : Nat) :
    (s.pruneBed b).now = s.now ∧ (s.pruneBed b).pending = s.pending ∧ (s.pruneBed b).answer = s.answer ∧
    (s.pruneBed b).links = s.links ∧ (s.pruneBed b).shed = s.shed ∧ (s.pruneBed b).copy = s.copy ∧
    (s.pruneBed b).rings = s.rings ∧ (s.pruneBed b).alm = s.alm ∧ (s.pruneBed b).mem = s.mem ∧
    (s.pruneBed b).cal = s.cal ∧ (s.pruneBed b).mod = s.mod ∧ (s.pruneBed b).clk = s.clk ∧
    (s.pruneBed b).boot = s.boot := by
  simp [State.ite_kept .., State.pruneBed, State.loseMember_kept .., State.markPruned_kept .., State.setBed_kept ..]
theorem State.pruneGang_kept (s : State) (b : Nat) :
    (s.pruneGang b).now = s.now ∧ (s.pruneGang b).pending = s.pending ∧ (s.pruneGang b).answer = s.answer ∧
    (s.pruneGang b).links = s.links ∧ (s.pruneGang b).shed = s.shed ∧ (s.pruneGang b).copy = s.copy ∧
    (s.pruneGang b).rings = s.rings ∧ (s.pruneGang b).alm = s.alm ∧ (s.pruneGang b).mem = s.mem ∧
    (s.pruneGang b).cal = s.cal ∧ (s.pruneGang b).mod = s.mod ∧ (s.pruneGang b).clk = s.clk ∧
    (s.pruneGang b).boot = s.boot := by
  simp [State.pruneGang, State.pruneBed_kept ..]
theorem State.pruneBeds_kept (s : State) (d : Nat) :
    (s.pruneBeds d).now = s.now ∧ (s.pruneBeds d).pending = s.pending ∧ (s.pruneBeds d).answer = s.answer ∧
    (s.pruneBeds d).links = s.links ∧ (s.pruneBeds d).shed = s.shed ∧ (s.pruneBeds d).copy = s.copy ∧
    (s.pruneBeds d).rings = s.rings ∧ (s.pruneBeds d).alm = s.alm ∧ (s.pruneBeds d).mem = s.mem ∧
    (s.pruneBeds d).cal = s.cal ∧ (s.pruneBeds d).mod = s.mod ∧ (s.pruneBeds d).clk = s.clk ∧
    (s.pruneBeds d).boot = s.boot := by
  simp [State.pruneBeds, State.pruneBed_kept ..]
theorem State.takeOver_kept (s : State) (n : Nat) :
    (s.takeOver n).now = s.now ∧ (s.takeOver n).pending = s.pending ∧ (s.takeOver n).answer = s.answer ∧
    (s.takeOver n).emits = s.emits ∧ (s.takeOver n).fresh = s.fresh ∧ (s.takeOver n).links = s.links ∧
    (s.takeOver n).shed = s.shed ∧ (s.takeOver n).copy = s.copy ∧ (s.takeOver n).fwd = s.fwd ∧
    (s.takeOver n).rings = s.rings ∧ (s.takeOver n).egr = s.egr ∧ (s.takeOver n).allots = s.allots ∧
    (s.takeOver n).irq = s.irq ∧ (s.takeOver n).mem = s.mem ∧ (s.takeOver n).flt = s.flt ∧
    (s.takeOver n).cal = s.cal ∧ (s.takeOver n).gauge = s.gauge ∧ (s.takeOver n).mod = s.mod ∧
    (s.takeOver n).clk = s.clk ∧ (s.takeOver n).boot = s.boot := by
  simp only [State.takeOver]; (repeat' split) <;> simp [State.modFeed, State.setCfgN_kept ..]
theorem State.takeOverAll_kept (s : State) (die : Nat) :
    (s.takeOverAll die).now = s.now ∧ (s.takeOverAll die).pending = s.pending ∧
    (s.takeOverAll die).answer = s.answer ∧ (s.takeOverAll die).emits = s.emits ∧
    (s.takeOverAll die).fresh = s.fresh ∧ (s.takeOverAll die).links = s.links ∧ (s.takeOverAll die).shed = s.shed ∧
    (s.takeOverAll die).copy = s.copy ∧ (s.takeOverAll die).fwd = s.fwd ∧ (s.takeOverAll die).rings = s.rings ∧
    (s.takeOverAll die).egr = s.egr ∧ (s.takeOverAll die).allots = s.allots ∧ (s.takeOverAll die).irq = s.irq ∧
    (s.takeOverAll die).mem = s.mem ∧ (s.takeOverAll die).flt = s.flt ∧ (s.takeOverAll die).cal = s.cal ∧
    (s.takeOverAll die).gauge = s.gauge ∧ (s.takeOverAll die).mod = s.mod ∧ (s.takeOverAll die).clk = s.clk ∧
    (s.takeOverAll die).boot = s.boot := by
  simp [State.ite_kept .., State.takeOverAll, State.takeOver_kept ..]
theorem State.takeOverBits_kept (s : State) (n : Nat) :
    (s.takeOverBits n).now = s.now ∧ (s.takeOverBits n).pending = s.pending ∧
    (s.takeOverBits n).answer = s.answer ∧ (s.takeOverBits n).emits = s.emits ∧
    (s.takeOverBits n).fresh = s.fresh ∧ (s.takeOverBits n).links = s.links ∧ (s.takeOverBits n).shed = s.shed ∧
    (s.takeOverBits n).copy = s.copy ∧ (s.takeOverBits n).fwd = s.fwd ∧ (s.takeOverBits n).rings = s.rings ∧
    (s.takeOverBits n).egr = s.egr ∧ (s.takeOverBits n).alm = s.alm ∧ (s.takeOverBits n).allots = s.allots ∧
    (s.takeOverBits n).irq = s.irq ∧ (s.takeOverBits n).mem = s.mem ∧ (s.takeOverBits n).flt = s.flt ∧
    (s.takeOverBits n).cal = s.cal ∧ (s.takeOverBits n).gauge = s.gauge ∧ (s.takeOverBits n).mod = s.mod ∧
    (s.takeOverBits n).clk = s.clk ∧ (s.takeOverBits n).boot = s.boot := by
  simp only [State.takeOverBits]; (repeat' split) <;> simp [State.ite_kept .., State.modIntake]
theorem State.takeOverDecodes_kept (s : State) (die : Nat) :
    (s.takeOverDecodes die).now = s.now ∧ (s.takeOverDecodes die).pending = s.pending ∧
    (s.takeOverDecodes die).answer = s.answer ∧ (s.takeOverDecodes die).emits = s.emits ∧
    (s.takeOverDecodes die).fresh = s.fresh ∧ (s.takeOverDecodes die).links = s.links ∧
    (s.takeOverDecodes die).shed = s.shed ∧ (s.takeOverDecodes die).copy = s.copy ∧
    (s.takeOverDecodes die).fwd = s.fwd ∧ (s.takeOverDecodes die).rings = s.rings ∧
    (s.takeOverDecodes die).egr = s.egr ∧ (s.takeOverDecodes die).alm = s.alm ∧
    (s.takeOverDecodes die).allots = s.allots ∧ (s.takeOverDecodes die).irq = s.irq ∧
    (s.takeOverDecodes die).mem = s.mem ∧ (s.takeOverDecodes die).flt = s.flt ∧
    (s.takeOverDecodes die).cal = s.cal ∧ (s.takeOverDecodes die).gauge = s.gauge ∧
    (s.takeOverDecodes die).mod = s.mod ∧ (s.takeOverDecodes die).clk = s.clk ∧
    (s.takeOverDecodes die).boot = s.boot := by
  simp [State.ite_kept .., State.takeOverDecodes, State.takeOverBits_kept ..]
theorem State.dropBound_kept (s : State) (die : Nat) :
    (s.dropBound die).now = s.now ∧ (s.dropBound die).pending = s.pending ∧ (s.dropBound die).answer = s.answer ∧
    (s.dropBound die).fresh = s.fresh ∧ (s.dropBound die).links = s.links ∧ (s.dropBound die).shed = s.shed ∧
    (s.dropBound die).copy = s.copy ∧ (s.dropBound die).fwd = s.fwd ∧ (s.dropBound die).rings = s.rings ∧
    (s.dropBound die).str = s.str ∧ (s.dropBound die).alm = s.alm ∧ (s.dropBound die).mem = s.mem ∧
    (s.dropBound die).flt = s.flt ∧ (s.dropBound die).cal = s.cal ∧ (s.dropBound die).gauge = s.gauge ∧
    (s.dropBound die).mod = s.mod ∧ (s.dropBound die).clk = s.clk ∧ (s.dropBound die).boot = s.boot := by
  simp [State.dropBound, State.crossDrop_kept .., State.dropRef_kept ..]
theorem State.pruneP_kept (s : State) (p : Nat) :
    (s.pruneP p).now = s.now ∧ (s.pruneP p).pending = s.pending ∧ (s.pruneP p).answer = s.answer ∧
    (s.pruneP p).fresh = s.fresh ∧ (s.pruneP p).links = s.links ∧ (s.pruneP p).shed = s.shed ∧
    (s.pruneP p).copy = s.copy ∧ (s.pruneP p).rings = s.rings ∧ (s.pruneP p).mem = s.mem ∧
    (s.pruneP p).cal = s.cal ∧ (s.pruneP p).gauge = s.gauge ∧ (s.pruneP p).mod = s.mod ∧
    (s.pruneP p).boot = s.boot := by
  simp [State.ite_kept .., State.pruneP, State.modPipe, State.markPruned_kept .., State.prunePorts_kept ..,
  State.takeOverAll_kept .., State.takeOverDecodes_kept .., State.dropBound_kept .., State.slaveLost_kept ..,
  State.judgeAll_kept ..]
theorem State.pruneC_kept (s : State) (d : Nat) :
    (s.pruneC d).now = s.now ∧ (s.pruneC d).pending = s.pending ∧ (s.pruneC d).answer = s.answer ∧
    (s.pruneC d).links = s.links ∧ (s.pruneC d).shed = s.shed ∧ (s.pruneC d).copy = s.copy ∧
    (s.pruneC d).rings = s.rings ∧ (s.pruneC d).alm = s.alm ∧ (s.pruneC d).mem = s.mem ∧ (s.pruneC d).cal = s.cal ∧
    (s.pruneC d).mod = s.mod ∧ (s.pruneC d).clk = s.clk ∧ (s.pruneC d).boot = s.boot := by
  simp [State.ite_kept .., State.pruneC, State.markPruned_kept .., State.pruneBeds_kept ..]
theorem State.prunePipe_kept (s : State) (pl : Nat) :
    (s.prunePipe pl).now = s.now ∧ (s.prunePipe pl).pending = s.pending ∧ (s.prunePipe pl).answer = s.answer ∧
    (s.prunePipe pl).fresh = s.fresh ∧ (s.prunePipe pl).links = s.links ∧ (s.prunePipe pl).shed = s.shed ∧
    (s.prunePipe pl).copy = s.copy ∧ (s.prunePipe pl).rings = s.rings ∧ (s.prunePipe pl).str = s.str ∧
    (s.prunePipe pl).egr = s.egr ∧ (s.prunePipe pl).alm = s.alm ∧ (s.prunePipe pl).mem = s.mem ∧
    (s.prunePipe pl).cal = s.cal ∧ (s.prunePipe pl).gauge = s.gauge ∧ (s.prunePipe pl).mod = s.mod ∧
    (s.prunePipe pl).clk = s.clk ∧ (s.prunePipe pl).boot = s.boot := by
  simp [State.ite_kept .., State.modPipe, State.prunePipe, State.markPruned_kept .., State.prunePorts_kept ..]
theorem State.pruneStack_kept (s : State) (m : Nat) :
    (s.pruneStack m).now = s.now ∧ (s.pruneStack m).pending = s.pending ∧ (s.pruneStack m).answer = s.answer ∧
    (s.pruneStack m).links = s.links ∧ (s.pruneStack m).shed = s.shed ∧ (s.pruneStack m).copy = s.copy ∧
    (s.pruneStack m).rings = s.rings ∧ (s.pruneStack m).cal = s.cal ∧ (s.pruneStack m).mod = s.mod ∧
    (s.pruneStack m).boot = s.boot ∧ (s.pruneStack m).mem.exchange = s.mem.exchange ∧
    (s.pruneStack m).mem.areas = s.mem.areas := by
  simp [State.ite_kept .., State.modStack, State.pruneStack, State.markPruned_kept .., State.pruneBeds_kept ..,
      State.pruneP_kept ..]
theorem State.pruneEngine_kept (s : State) (k : Nat) :
    (s.pruneEngine k).now = s.now ∧ (s.pruneEngine k).pending = s.pending ∧ (s.pruneEngine k).answer = s.answer ∧
    (s.pruneEngine k).fresh = s.fresh ∧ (s.pruneEngine k).links = s.links ∧ (s.pruneEngine k).shed = s.shed ∧
    (s.pruneEngine k).copy = s.copy ∧ (s.pruneEngine k).rings = s.rings ∧ (s.pruneEngine k).str = s.str ∧
    (s.pruneEngine k).egr = s.egr ∧ (s.pruneEngine k).alm = s.alm ∧ (s.pruneEngine k).mem = s.mem ∧
    (s.pruneEngine k).gauge = s.gauge ∧ (s.pruneEngine k).mod = s.mod ∧ (s.pruneEngine k).clk = s.clk ∧
    (s.pruneEngine k).boot = s.boot := by
  simp [State.ite_kept .., State.pruneEngine, State.markPruned_kept .., State.nextBatch_kept .., State.prunePorts_kept ..]
theorem State.pruneCore_kept (s : State) (p : Nat) :
    (s.pruneCore p).now = s.now ∧ (s.pruneCore p).pending = s.pending ∧ (s.pruneCore p).answer = s.answer ∧
    (s.pruneCore p).emits = s.emits ∧ (s.pruneCore p).fresh = s.fresh ∧ (s.pruneCore p).links = s.links ∧
    (s.pruneCore p).copy = s.copy ∧ (s.pruneCore p).fwd = s.fwd ∧ (s.pruneCore p).rings = s.rings ∧
    (s.pruneCore p).str = s.str ∧ (s.pruneCore p).egr = s.egr ∧ (s.pruneCore p).alm = s.alm ∧
    (s.pruneCore p).allots = s.allots ∧ (s.pruneCore p).mem = s.mem ∧ (s.pruneCore p).cal = s.cal ∧
    (s.pruneCore p).gauge = s.gauge ∧ (s.pruneCore p).mod = s.mod ∧ (s.pruneCore p).clk = s.clk ∧
    (s.pruneCore p).boot = s.boot := by
  simp [State.ite_kept .., State.pruneCore, State.markPruned_kept .., State.shedReturn_kept ..]
theorem State.switchTo_kept (s : State) (f : Nat) :
    (s.switchTo f).now = s.now ∧ (s.switchTo f).pending = s.pending ∧ (s.switchTo f).answer = s.answer ∧
    (s.switchTo f).fresh = s.fresh ∧ (s.switchTo f).links = s.links ∧ (s.switchTo f).shed = s.shed ∧
    (s.switchTo f).copy = s.copy ∧ (s.switchTo f).fwd = s.fwd ∧ (s.switchTo f).rings = s.rings ∧
    (s.switchTo f).str = s.str ∧ (s.switchTo f).egr = s.egr ∧ (s.switchTo f).alm = s.alm ∧
    (s.switchTo f).mem = s.mem ∧ (s.switchTo f).flt = s.flt ∧ (s.switchTo f).cal = s.cal ∧
    (s.switchTo f).gauge = s.gauge ∧ (s.switchTo f).clk = s.clk ∧ (s.switchTo f).boot = s.boot := by
  simp [State.ite_kept .., State.switchTo, State.raise_kept ..]
theorem State.pruneFeed_kept (s : State) (f : Nat) :
    (s.pruneFeed f).now = s.now ∧ (s.pruneFeed f).pending = s.pending ∧ (s.pruneFeed f).answer = s.answer ∧
    (s.pruneFeed f).fresh = s.fresh ∧ (s.pruneFeed f).links = s.links ∧ (s.pruneFeed f).shed = s.shed ∧
    (s.pruneFeed f).copy = s.copy ∧ (s.pruneFeed f).fwd = s.fwd ∧ (s.pruneFeed f).rings = s.rings ∧
    (s.pruneFeed f).str = s.str ∧ (s.pruneFeed f).egr = s.egr ∧ (s.pruneFeed f).alm = s.alm ∧
    (s.pruneFeed f).mem = s.mem ∧ (s.pruneFeed f).cal = s.cal ∧ (s.pruneFeed f).gauge = s.gauge ∧
    (s.pruneFeed f).clk = s.clk ∧ (s.pruneFeed f).boot = s.boot := by
  simp [State.ite_kept .., State.pruneFeed, State.markPruned_kept .., State.switchTo_kept ..]
theorem State.stopModule_kept (s : State) :
    s.stopModule.now = s.now ∧ s.stopModule.pending = s.pending ∧ s.stopModule.answer = s.answer ∧
    s.stopModule.fresh = s.fresh ∧ s.stopModule.links = s.links ∧ s.stopModule.copy = s.copy ∧
    s.stopModule.fwd = s.fwd ∧ s.stopModule.rings = s.rings ∧ s.stopModule.str = s.str ∧ s.stopModule.egr = s.egr ∧
    s.stopModule.mem = s.mem ∧ s.stopModule.flt = s.flt ∧ s.stopModule.cal = s.cal ∧ s.stopModule.boot = s.boot := by
  simp [State.ite_kept .., State.stopModule, State.raise_kept ..]
theorem State.pruneRail_kept (s : State) (r : Nat) :
    (s.pruneRail r).now = s.now ∧ (s.pruneRail r).pending = s.pending ∧ (s.pruneRail r).answer = s.answer ∧
    (s.pruneRail r).links = s.links ∧ (s.pruneRail r).copy = s.copy ∧ (s.pruneRail r).rings = s.rings ∧
    (s.pruneRail r).boot = s.boot ∧ (s.pruneRail r).mem.exchange = s.mem.exchange ∧
    (s.pruneRail r).mem.areas = s.mem.areas := by
  simp [State.ite_kept .., State.pruneRail, State.pruneC_kept .., State.pruneEngine_kept .., State.pruneP_kept ..,
      State.pruneStack_kept ..,
      State.stopModule_kept ..]
theorem State.alert_kept (s : State) (out : Nat) :
    (s.alert out).now = s.now ∧ (s.alert out).pending = s.pending ∧ (s.alert out).answer = s.answer ∧
    (s.alert out).emits = s.emits ∧ (s.alert out).fresh = s.fresh ∧ (s.alert out).links = s.links ∧
    (s.alert out).shed = s.shed ∧ (s.alert out).copy = s.copy ∧ (s.alert out).fwd = s.fwd ∧
    (s.alert out).rings = s.rings ∧ (s.alert out).str = s.str ∧ (s.alert out).egr = s.egr ∧
    (s.alert out).alm = s.alm ∧ (s.alert out).allots = s.allots ∧ (s.alert out).irq = s.irq ∧
    (s.alert out).mem = s.mem ∧ (s.alert out).cal = s.cal ∧ (s.alert out).gauge = s.gauge ∧
    (s.alert out).mod = s.mod ∧ (s.alert out).clk = s.clk ∧ (s.alert out).boot = s.boot := by
  simp [State.modFlt, State.alert]
theorem State.sparesLost_kept (s : State) :
    s.sparesLost.now = s.now ∧ s.sparesLost.pending = s.pending ∧ s.sparesLost.answer = s.answer ∧
    s.sparesLost.fresh = s.fresh ∧ s.sparesLost.links = s.links ∧ s.sparesLost.shed = s.shed ∧
    s.sparesLost.copy = s.copy ∧ s.sparesLost.fwd = s.fwd ∧ s.sparesLost.rings = s.rings ∧ s.sparesLost.str = s.str ∧
    s.sparesLost.egr = s.egr ∧ s.sparesLost.alm = s.alm ∧ s.sparesLost.mem = s.mem ∧ s.sparesLost.cal = s.cal ∧
    s.sparesLost.gauge = s.gauge ∧ s.sparesLost.mod = s.mod ∧ s.sparesLost.clk = s.clk ∧
    s.sparesLost.boot = s.boot := by
  simp [State.ite_kept .., State.sparesLost, State.alert_kept .., State.recordRaise_kept ..]
theorem State.phaseDown_kept (s : State) (n : Nat) :
    (s.phaseDown n).now = s.now ∧ (s.phaseDown n).pending = s.pending ∧ (s.phaseDown n).answer = s.answer ∧
    (s.phaseDown n).links = s.links ∧ (s.phaseDown n).copy = s.copy ∧ (s.phaseDown n).rings = s.rings ∧
    (s.phaseDown n).boot = s.boot ∧ (s.phaseDown n).mem.exchange = s.mem.exchange ∧
    (s.phaseDown n).mem.areas = s.mem.areas := by
  simp [State.ite_kept .., State.setRail, State.phaseDown, State.pruneRail_kept .., State.sparesLost_kept ..]
theorem State.pruneUnit_kept (s : State) (d : Nat) (u : Nat) :
    (s.pruneUnit d u).now = s.now ∧ (s.pruneUnit d u).pending = s.pending ∧ (s.pruneUnit d u).answer = s.answer ∧
    (s.pruneUnit d u).links = s.links ∧ (s.pruneUnit d u).copy = s.copy ∧ (s.pruneUnit d u).rings = s.rings ∧
    (s.pruneUnit d u).boot = s.boot ∧ (s.pruneUnit d u).mem.exchange = s.mem.exchange ∧
    (s.pruneUnit d u).mem.areas = s.mem.areas := by
  simp [State.ite_kept .., State.pruneUnit, State.markPruned_kept .., State.phaseDown_kept .., State.pruneC_kept ..,
      State.pruneCore_kept ..,
      State.pruneEngine_kept .., State.pruneFeed_kept .., State.pruneGang_kept .., State.pruneP_kept ..,
          State.prunePipe_kept ..,
      State.pruneStack_kept ..]
theorem State.react_kept (s : State) (id : Nat) (cls : Nat) :
    (s.react id cls).now = s.now ∧ (s.react id cls).pending = s.pending ∧ (s.react id cls).answer = s.answer ∧
    (s.react id cls).links = s.links ∧ (s.react id cls).copy = s.copy ∧ (s.react id cls).rings = s.rings ∧
    (s.react id cls).boot = s.boot ∧ (s.react id cls).mem.exchange = s.mem.exchange ∧
    (s.react id cls).mem.areas = s.mem.areas := by
  simp only [State.react]; (repeat' split) <;> simp [State.ite_kept .., State.modFlt, State.alert_kept ..,
  State.abandon_kept .., State.pruneUnit_kept .., State.stopTicks_kept ..]
theorem State.raised_kept (s : State) (id : Nat) (forced : Bool) :
    (s.raised id forced).now = s.now ∧ (s.raised id forced).pending = s.pending ∧
    (s.raised id forced).answer = s.answer ∧ (s.raised id forced).links = s.links ∧
    (s.raised id forced).copy = s.copy ∧ (s.raised id forced).rings = s.rings ∧ (s.raised id forced).boot = s.boot ∧
    (s.raised id forced).mem.exchange = s.mem.exchange ∧ (s.raised id forced).mem.areas = s.mem.areas := by
  simp [State.ite_kept .., State.raised, State.react_kept .., State.recordRaise_kept ..]
theorem State.raiseFault_kept (s : State) (id : Nat) :
    (s.raiseFault id).now = s.now ∧ (s.raiseFault id).pending = s.pending ∧ (s.raiseFault id).answer = s.answer ∧
    (s.raiseFault id).links = s.links ∧ (s.raiseFault id).copy = s.copy ∧ (s.raiseFault id).rings = s.rings ∧
    (s.raiseFault id).boot = s.boot ∧ (s.raiseFault id).mem.exchange = s.mem.exchange ∧
    (s.raiseFault id).mem.areas = s.mem.areas := by
  simp [State.ite_kept .., State.modSource, State.raiseFault, State.raised_kept ..]
theorem State.causeGone_kept (s : State) (id : Nat) :
    (s.causeGone id).now = s.now ∧ (s.causeGone id).pending = s.pending ∧ (s.causeGone id).answer = s.answer ∧
    (s.causeGone id).emits = s.emits ∧ (s.causeGone id).fresh = s.fresh ∧ (s.causeGone id).links = s.links ∧
    (s.causeGone id).shed = s.shed ∧ (s.causeGone id).copy = s.copy ∧ (s.causeGone id).fwd = s.fwd ∧
    (s.causeGone id).rings = s.rings ∧ (s.causeGone id).str = s.str ∧ (s.causeGone id).egr = s.egr ∧
    (s.causeGone id).alm = s.alm ∧ (s.causeGone id).allots = s.allots ∧ (s.causeGone id).irq = s.irq ∧
    (s.causeGone id).mem = s.mem ∧ (s.causeGone id).cal = s.cal ∧ (s.causeGone id).gauge = s.gauge ∧
    (s.causeGone id).mod = s.mod ∧ (s.causeGone id).clk = s.clk ∧ (s.causeGone id).boot = s.boot := by
  simp [State.modSource, State.causeGone]
theorem State.pulseFault_kept (s : State) (id : Nat) :
    (s.pulseFault id).now = s.now ∧ (s.pulseFault id).pending = s.pending ∧ (s.pulseFault id).answer = s.answer ∧
    (s.pulseFault id).links = s.links ∧ (s.pulseFault id).copy = s.copy ∧ (s.pulseFault id).rings = s.rings ∧
    (s.pulseFault id).boot = s.boot ∧ (s.pulseFault id).mem.exchange = s.mem.exchange ∧
    (s.pulseFault id).mem.areas = s.mem.areas := by
  simp [State.ite_kept .., State.pulseFault, State.raised_kept ..]
theorem State.forceFault_kept (s : State) (id : Nat) (on : Bool) :
    (s.forceFault id on).now = s.now ∧ (s.forceFault id on).pending = s.pending ∧
    (s.forceFault id on).answer = s.answer ∧ (s.forceFault id on).links = s.links ∧
    (s.forceFault id on).copy = s.copy ∧ (s.forceFault id on).rings = s.rings ∧ (s.forceFault id on).boot = s.boot ∧
    (s.forceFault id on).mem.exchange = s.mem.exchange ∧ (s.forceFault id on).mem.areas = s.mem.areas := by
  simp [State.ite_kept .., State.modBed, State.modFlt, State.modSource, State.forceFault, State.raised_kept ..]
theorem State.setClass_kept (s : State) (id : Nat) (v : Nat) :
    (s.setClass id v).now = s.now ∧ (s.setClass id v).pending = s.pending ∧ (s.setClass id v).answer = s.answer ∧
    (s.setClass id v).emits = s.emits ∧ (s.setClass id v).fresh = s.fresh ∧ (s.setClass id v).links = s.links ∧
    (s.setClass id v).shed = s.shed ∧ (s.setClass id v).copy = s.copy ∧ (s.setClass id v).fwd = s.fwd ∧
    (s.setClass id v).rings = s.rings ∧ (s.setClass id v).str = s.str ∧ (s.setClass id v).egr = s.egr ∧
    (s.setClass id v).alm = s.alm ∧ (s.setClass id v).allots = s.allots ∧ (s.setClass id v).irq = s.irq ∧
    (s.setClass id v).mem = s.mem ∧ (s.setClass id v).cal = s.cal ∧ (s.setClass id v).gauge = s.gauge ∧
    (s.setClass id v).mod = s.mod ∧ (s.setClass id v).clk = s.clk ∧ (s.setClass id v).boot = s.boot := by
  simp only [State.setClass]; split <;> simp [State.ite_kept .., State.modSource]
theorem State.setInject_kept (s : State) (on : Bool) :
    (s.setInject on).now = s.now ∧ (s.setInject on).pending = s.pending ∧ (s.setInject on).answer = s.answer ∧
    (s.setInject on).emits = s.emits ∧ (s.setInject on).fresh = s.fresh ∧ (s.setInject on).links = s.links ∧
    (s.setInject on).shed = s.shed ∧ (s.setInject on).copy = s.copy ∧ (s.setInject on).fwd = s.fwd ∧
    (s.setInject on).rings = s.rings ∧ (s.setInject on).str = s.str ∧ (s.setInject on).egr = s.egr ∧
    (s.setInject on).alm = s.alm ∧ (s.setInject on).allots = s.allots ∧ (s.setInject on).irq = s.irq ∧
    (s.setInject on).mem = s.mem ∧ (s.setInject on).cal = s.cal ∧ (s.setInject on).gauge = s.gauge ∧
    (s.setInject on).mod = s.mod ∧ (s.setInject on).clk = s.clk ∧ (s.setInject on).boot = s.boot := by
  simp [State.ite_kept .., State.setInject]
theorem State.clearRecord_kept (s : State) (r : Nat) :
    (s.clearRecord r).now = s.now ∧ (s.clearRecord r).pending = s.pending ∧ (s.clearRecord r).answer = s.answer ∧
    (s.clearRecord r).emits = s.emits ∧ (s.clearRecord r).fresh = s.fresh ∧ (s.clearRecord r).links = s.links ∧
    (s.clearRecord r).shed = s.shed ∧ (s.clearRecord r).copy = s.copy ∧ (s.clearRecord r).fwd = s.fwd ∧
    (s.clearRecord r).rings = s.rings ∧ (s.clearRecord r).str = s.str ∧ (s.clearRecord r).egr = s.egr ∧
    (s.clearRecord r).alm = s.alm ∧ (s.clearRecord r).allots = s.allots ∧ (s.clearRecord r).irq = s.irq ∧
    (s.clearRecord r).mem = s.mem ∧ (s.clearRecord r).cal = s.cal ∧ (s.clearRecord r).gauge = s.gauge ∧
    (s.clearRecord r).mod = s.mod ∧ (s.clearRecord r).clk = s.clk ∧ (s.clearRecord r).boot = s.boot := by
  simp [State.clearRecord]
theorem State.orderReset_kept (s : State) (d : Nat) (u : Nat) :
    (s.orderReset d u).2.now = s.now ∧ (s.orderReset d u).2.pending = s.pending ∧
    (s.orderReset d u).2.answer = s.answer ∧ (s.orderReset d u).2.emits = s.emits ∧
    (s.orderReset d u).2.fresh = s.fresh ∧ (s.orderReset d u).2.links = s.links ∧ (s.orderReset d u).2.shed = s.shed ∧
    (s.orderReset d u).2.copy = s.copy ∧ (s.orderReset d u).2.fwd = s.fwd ∧ (s.orderReset d u).2.rings = s.rings ∧
    (s.orderReset d u).2.str = s.str ∧ (s.orderReset d u).2.egr = s.egr ∧ (s.orderReset d u).2.alm = s.alm ∧
    (s.orderReset d u).2.allots = s.allots ∧ (s.orderReset d u).2.irq = s.irq ∧ (s.orderReset d u).2.mem = s.mem ∧
    (s.orderReset d u).2.cal = s.cal ∧ (s.orderReset d u).2.gauge = s.gauge ∧ (s.orderReset d u).2.mod = s.mod ∧
    (s.orderReset d u).2.clk = s.clk ∧ (s.orderReset d u).2.boot = s.boot := by
  simp [State.ite_kept .., State.orderReset]
theorem State.trainLink_kept (s : State) (m : Nat) :
    (s.trainLink m).now = s.now ∧ (s.trainLink m).pending = s.pending ∧ (s.trainLink m).answer = s.answer ∧
    (s.trainLink m).emits = s.emits ∧ (s.trainLink m).fresh = s.fresh ∧ (s.trainLink m).shed = s.shed ∧
    (s.trainLink m).copy = s.copy ∧ (s.trainLink m).fwd = s.fwd ∧ (s.trainLink m).rings = s.rings ∧
    (s.trainLink m).str = s.str ∧ (s.trainLink m).egr = s.egr ∧ (s.trainLink m).alm = s.alm ∧
    (s.trainLink m).allots = s.allots ∧ (s.trainLink m).irq = s.irq ∧ (s.trainLink m).mem = s.mem ∧
    (s.trainLink m).cal = s.cal ∧ (s.trainLink m).gauge = s.gauge ∧ (s.trainLink m).mod = s.mod ∧
    (s.trainLink m).clk = s.clk ∧ (s.trainLink m).boot = s.boot := by
  simp [State.modFlt, State.modLink, State.trainLink, State.causeGone_kept ..]
theorem State.returnUnit_kept (s : State) (d : Nat) (u : Nat) :
    (s.returnUnit d u).now = s.now ∧ (s.returnUnit d u).pending = s.pending ∧
    (s.returnUnit d u).answer = s.answer ∧ (s.returnUnit d u).fresh = s.fresh ∧
    (s.returnUnit d u).links = s.links ∧ (s.returnUnit d u).copy = s.copy ∧ (s.returnUnit d u).rings = s.rings ∧
    (s.returnUnit d u).alm = s.alm ∧ (s.returnUnit d u).cal = s.cal ∧ (s.returnUnit d u).gauge = s.gauge ∧
    (s.returnUnit d u).clk = s.clk ∧ (s.returnUnit d u).boot = s.boot ∧
    (s.returnUnit d u).mem.exchange = s.mem.exchange ∧ (s.returnUnit d u).mem.areas = s.mem.areas := by
  simp [State.ite_kept .., State.returnUnit, State.modStack, State.modSlot, State.reloadCopy_kept ..,
  State.restoreCells_kept .., State.reloadPipe_kept .., State.returnPorts_kept .., State.judgeAll_kept ..,
  State.sparesLost_kept ..]
theorem State.endReset_kept (s : State) (d : Nat) (u : Nat) :
    (s.endReset d u).now = s.now ∧ (s.endReset d u).pending = s.pending ∧ (s.endReset d u).answer = s.answer ∧
    (s.endReset d u).fresh = s.fresh ∧ (s.endReset d u).copy = s.copy ∧ (s.endReset d u).rings = s.rings ∧
    (s.endReset d u).alm = s.alm ∧ (s.endReset d u).cal = s.cal ∧ (s.endReset d u).gauge = s.gauge ∧
    (s.endReset d u).clk = s.clk ∧ (s.endReset d u).boot = s.boot ∧
    (s.endReset d u).mem.exchange = s.mem.exchange ∧ (s.endReset d u).mem.areas = s.mem.areas := by
  simp only [State.endReset]; (repeat' split) <;> simp [State.ite_kept .., State.modFlt, State.trainLink_kept ..,
  State.returnUnit_kept ..]
end Sys2Proof.Machine
end

