-- ==== Sys2Proof/Laws/FramesBeds.lean ====
section
/-! SUPPORT. The parts of the state that beds, pictures, admission and soil tests leave alone: one lemma for each operation, by its parts. -/

set_option linter.unusedSimpArgs false

namespace Sys2Proof.Machine

/-! ## Beds.lean -/

theorem State.modMic_kept (s : State) (n : Nat) (f : Micro → Micro) :
    (s.modMic n f).now = s.now ∧ (s.modMic n f).pending = s.pending ∧ (s.modMic n f).answer = s.answer ∧
    (s.modMic n f).emits = s.emits ∧ (s.modMic n f).fresh = s.fresh ∧ (s.modMic n f).links = s.links ∧
    (s.modMic n f).shed = s.shed ∧ (s.modMic n f).copy = s.copy ∧ (s.modMic n f).fwd = s.fwd ∧
    (s.modMic n f).rings = s.rings ∧ (s.modMic n f).egr = s.egr ∧ (s.modMic n f).alm = s.alm ∧
    (s.modMic n f).allots = s.allots ∧ (s.modMic n f).irq = s.irq ∧ (s.modMic n f).mem = s.mem ∧
    (s.modMic n f).flt = s.flt ∧ (s.modMic n f).cal = s.cal ∧ (s.modMic n f).gauge = s.gauge ∧
    (s.modMic n f).mod = s.mod ∧ (s.modMic n f).clk = s.clk ∧ (s.modMic n f).boot = s.boot := by
  simp [State.modBed, State.modMic]
theorem State.selfCheck_kept (s : State) (n : Nat) (c : CheckCause) :
    (s.selfCheck n c).now = s.now ∧ (s.selfCheck n c).pending = s.pending ∧ (s.selfCheck n c).answer = s.answer ∧
    (s.selfCheck n c).links = s.links ∧ (s.selfCheck n c).copy = s.copy ∧ (s.selfCheck n c).rings = s.rings ∧
    (s.selfCheck n c).boot = s.boot ∧ (s.selfCheck n c).mem.exchange = s.mem.exchange ∧
    (s.selfCheck n c).mem.areas = s.mem.areas := by
  simp [State.selfCheck, State.raiseFault_kept .., State.raise_kept .., State.tick_kept ..]
theorem State.takeTrap_kept (s : State) (n : Nat) (progress : BitVec 80) :
    (s.takeTrap n progress).now = s.now ∧ (s.takeTrap n progress).pending = s.pending ∧
    (s.takeTrap n progress).answer = s.answer ∧ (s.takeTrap n progress).emits = s.emits ∧
    (s.takeTrap n progress).fresh = s.fresh ∧ (s.takeTrap n progress).links = s.links ∧
    (s.takeTrap n progress).shed = s.shed ∧ (s.takeTrap n progress).copy = s.copy ∧
    (s.takeTrap n progress).fwd = s.fwd ∧ (s.takeTrap n progress).rings = s.rings ∧
    (s.takeTrap n progress).egr = s.egr ∧ (s.takeTrap n progress).alm = s.alm ∧
    (s.takeTrap n progress).allots = s.allots ∧ (s.takeTrap n progress).irq = s.irq ∧
    (s.takeTrap n progress).mem = s.mem ∧ (s.takeTrap n progress).flt = s.flt ∧ (s.takeTrap n progress).cal = s.cal ∧
    (s.takeTrap n progress).gauge = s.gauge ∧ (s.takeTrap n progress).mod = s.mod ∧
    (s.takeTrap n progress).clk = s.clk ∧ (s.takeTrap n progress).boot = s.boot := by
  simp [State.modBed, State.takeTrap, State.pulse_kept .., State.tick_kept ..]
theorem State.trapRequest_kept (s : State) (n : Nat) (progress : BitVec 80) :
    (s.trapRequest n progress).now = s.now ∧ (s.trapRequest n progress).pending = s.pending ∧
    (s.trapRequest n progress).answer = s.answer ∧ (s.trapRequest n progress).emits = s.emits ∧
    (s.trapRequest n progress).fresh = s.fresh ∧ (s.trapRequest n progress).links = s.links ∧
    (s.trapRequest n progress).shed = s.shed ∧ (s.trapRequest n progress).copy = s.copy ∧
    (s.trapRequest n progress).fwd = s.fwd ∧ (s.trapRequest n progress).rings = s.rings ∧
    (s.trapRequest n progress).egr = s.egr ∧ (s.trapRequest n progress).alm = s.alm ∧
    (s.trapRequest n progress).allots = s.allots ∧ (s.trapRequest n progress).irq = s.irq ∧
    (s.trapRequest n progress).mem = s.mem ∧ (s.trapRequest n progress).flt = s.flt ∧
    (s.trapRequest n progress).cal = s.cal ∧ (s.trapRequest n progress).gauge = s.gauge ∧
    (s.trapRequest n progress).mod = s.mod ∧ (s.trapRequest n progress).clk = s.clk ∧
    (s.trapRequest n progress).boot = s.boot := by
  simp [State.ite_kept .., State.modBed, State.trapRequest, State.takeTrap_kept .., State.tick_kept ..]
theorem State.heldTrap_kept (s : State) (n : Nat) :
    (s.heldTrap n).now = s.now ∧ (s.heldTrap n).pending = s.pending ∧ (s.heldTrap n).answer = s.answer ∧
    (s.heldTrap n).emits = s.emits ∧ (s.heldTrap n).fresh = s.fresh ∧ (s.heldTrap n).links = s.links ∧
    (s.heldTrap n).shed = s.shed ∧ (s.heldTrap n).copy = s.copy ∧ (s.heldTrap n).fwd = s.fwd ∧
    (s.heldTrap n).rings = s.rings ∧ (s.heldTrap n).egr = s.egr ∧ (s.heldTrap n).alm = s.alm ∧
    (s.heldTrap n).allots = s.allots ∧ (s.heldTrap n).irq = s.irq ∧ (s.heldTrap n).mem = s.mem ∧
    (s.heldTrap n).flt = s.flt ∧ (s.heldTrap n).cal = s.cal ∧ (s.heldTrap n).gauge = s.gauge ∧
    (s.heldTrap n).mod = s.mod ∧ (s.heldTrap n).clk = s.clk ∧ (s.heldTrap n).boot = s.boot := by
  simp [State.ite_kept .., State.heldTrap, State.takeTrap_kept ..]
theorem State.trapReturn_kept (s : State) (n : Nat) :
    (s.trapReturn n).now = s.now ∧ (s.trapReturn n).pending = s.pending ∧ (s.trapReturn n).answer = s.answer ∧
    (s.trapReturn n).emits = s.emits ∧ (s.trapReturn n).fresh = s.fresh ∧ (s.trapReturn n).links = s.links ∧
    (s.trapReturn n).shed = s.shed ∧ (s.trapReturn n).copy = s.copy ∧ (s.trapReturn n).fwd = s.fwd ∧
    (s.trapReturn n).rings = s.rings ∧ (s.trapReturn n).egr = s.egr ∧ (s.trapReturn n).alm = s.alm ∧
    (s.trapReturn n).allots = s.allots ∧ (s.trapReturn n).irq = s.irq ∧ (s.trapReturn n).mem = s.mem ∧
    (s.trapReturn n).flt = s.flt ∧ (s.trapReturn n).cal = s.cal ∧ (s.trapReturn n).gauge = s.gauge ∧
    (s.trapReturn n).mod = s.mod ∧ (s.trapReturn n).clk = s.clk ∧ (s.trapReturn n).boot = s.boot := by
  simp [State.modBed, State.trapReturn, State.heldTrap_kept ..]
theorem State.budgetHit_kept (s : State) (n : Nat) :
    (s.budgetHit n).now = s.now ∧ (s.budgetHit n).pending = s.pending ∧ (s.budgetHit n).answer = s.answer ∧
    (s.budgetHit n).emits = s.emits ∧ (s.budgetHit n).fresh = s.fresh ∧ (s.budgetHit n).links = s.links ∧
    (s.budgetHit n).shed = s.shed ∧ (s.budgetHit n).copy = s.copy ∧ (s.budgetHit n).fwd = s.fwd ∧
    (s.budgetHit n).rings = s.rings ∧ (s.budgetHit n).egr = s.egr ∧ (s.budgetHit n).alm = s.alm ∧
    (s.budgetHit n).allots = s.allots ∧ (s.budgetHit n).irq = s.irq ∧ (s.budgetHit n).mem = s.mem ∧
    (s.budgetHit n).flt = s.flt ∧ (s.budgetHit n).cal = s.cal ∧ (s.budgetHit n).gauge = s.gauge ∧
    (s.budgetHit n).mod = s.mod ∧ (s.budgetHit n).clk = s.clk ∧ (s.budgetHit n).boot = s.boot := by
  simp [State.ite_kept .., State.modSlot, State.budgetHit]
theorem State.issue_kept (s : State) (n : Nat) :
    (s.issue n).now = s.now ∧ (s.issue n).pending = s.pending ∧ (s.issue n).answer = s.answer ∧
    (s.issue n).links = s.links ∧ (s.issue n).copy = s.copy ∧ (s.issue n).rings = s.rings ∧
    (s.issue n).boot = s.boot ∧ (s.issue n).mem.exchange = s.mem.exchange ∧ (s.issue n).mem.areas = s.mem.areas := by
  simp only [State.issue]; (repeat' split) <;> simp [State.budgetHit_kept .., State.modMic_kept .., State.pulse_kept ..,
      State.selfCheck_kept .., State.tick_kept ..]
theorem State.wordDone_kept (s : State) (n : Nat) :
    (s.wordDone n).now = s.now ∧ (s.wordDone n).pending = s.pending ∧ (s.wordDone n).answer = s.answer ∧
    (s.wordDone n).emits = s.emits ∧ (s.wordDone n).fresh = s.fresh ∧ (s.wordDone n).links = s.links ∧
    (s.wordDone n).shed = s.shed ∧ (s.wordDone n).copy = s.copy ∧ (s.wordDone n).fwd = s.fwd ∧
    (s.wordDone n).rings = s.rings ∧ (s.wordDone n).egr = s.egr ∧ (s.wordDone n).alm = s.alm ∧
    (s.wordDone n).allots = s.allots ∧ (s.wordDone n).irq = s.irq ∧ (s.wordDone n).mem = s.mem ∧
    (s.wordDone n).flt = s.flt ∧ (s.wordDone n).cal = s.cal ∧ (s.wordDone n).gauge = s.gauge ∧
    (s.wordDone n).mod = s.mod ∧ (s.wordDone n).clk = s.clk ∧ (s.wordDone n).boot = s.boot := by
  simp [State.wordDone, State.heldTrap_kept .., State.modMic_kept .., State.tick_kept ..]
theorem State.endWait_kept (s : State) (n : Nat) (timedOut : Bool) :
    (s.endWait n timedOut).now = s.now ∧ (s.endWait n timedOut).pending = s.pending ∧
    (s.endWait n timedOut).answer = s.answer ∧ (s.endWait n timedOut).emits = s.emits ∧
    (s.endWait n timedOut).fresh = s.fresh ∧ (s.endWait n timedOut).links = s.links ∧
    (s.endWait n timedOut).shed = s.shed ∧ (s.endWait n timedOut).copy = s.copy ∧ (s.endWait n timedOut).fwd = s.fwd ∧
    (s.endWait n timedOut).rings = s.rings ∧ (s.endWait n timedOut).egr = s.egr ∧ (s.endWait n timedOut).alm = s.alm ∧
    (s.endWait n timedOut).allots = s.allots ∧ (s.endWait n timedOut).irq = s.irq ∧
    (s.endWait n timedOut).mem = s.mem ∧ (s.endWait n timedOut).flt = s.flt ∧ (s.endWait n timedOut).cal = s.cal ∧
    (s.endWait n timedOut).gauge = s.gauge ∧ (s.endWait n timedOut).mod = s.mod ∧ (s.endWait n timedOut).clk = s.clk ∧
    (s.endWait n timedOut).boot = s.boot := by
  simp [State.endWait, State.modMic_kept .., State.wordDone_kept ..]
theorem State.leaveWord_kept (s : State) (n : Nat) (old : Micro) :
    (s.leaveWord n old).now = s.now ∧ (s.leaveWord n old).pending = s.pending ∧
    (s.leaveWord n old).answer = s.answer ∧ (s.leaveWord n old).links = s.links ∧ (s.leaveWord n old).copy = s.copy ∧
    (s.leaveWord n old).rings = s.rings ∧ (s.leaveWord n old).boot = s.boot ∧
    (s.leaveWord n old).mem.exchange = s.mem.exchange ∧ (s.leaveWord n old).mem.areas = s.mem.areas := by
  simp only [State.leaveWord]; (repeat' split) <;> simp [State.modBed, State.endWait_kept .., State.modMic_kept ..,
      State.selfCheck_kept ..,
      State.tick_kept .., State.trapReturn_kept .., State.wordDone_kept ..]
theorem State.waitMet_kept (s : State) (n : Nat) (conds : BitVec 64) :
    (s.waitMet n conds).now = s.now ∧ (s.waitMet n conds).pending = s.pending ∧
    (s.waitMet n conds).answer = s.answer ∧ (s.waitMet n conds).emits = s.emits ∧
    (s.waitMet n conds).fresh = s.fresh ∧ (s.waitMet n conds).links = s.links ∧ (s.waitMet n conds).shed = s.shed ∧
    (s.waitMet n conds).copy = s.copy ∧ (s.waitMet n conds).fwd = s.fwd ∧ (s.waitMet n conds).rings = s.rings ∧
    (s.waitMet n conds).egr = s.egr ∧ (s.waitMet n conds).alm = s.alm ∧ (s.waitMet n conds).allots = s.allots ∧
    (s.waitMet n conds).irq = s.irq ∧ (s.waitMet n conds).mem = s.mem ∧ (s.waitMet n conds).flt = s.flt ∧
    (s.waitMet n conds).cal = s.cal ∧ (s.waitMet n conds).gauge = s.gauge ∧ (s.waitMet n conds).mod = s.mod ∧
    (s.waitMet n conds).clk = s.clk ∧ (s.waitMet n conds).boot = s.boot := by
  simp [State.ite_kept .., State.modBed, State.waitMet, State.endWait_kept .., State.tick_kept ..]
theorem State.timeoutHandler_kept (s : State) (n : Nat) (w : Microword) (rom : Bool) :
    (s.timeoutHandler n w rom).now = s.now ∧ (s.timeoutHandler n w rom).pending = s.pending ∧
    (s.timeoutHandler n w rom).answer = s.answer ∧ (s.timeoutHandler n w rom).links = s.links ∧
    (s.timeoutHandler n w rom).copy = s.copy ∧ (s.timeoutHandler n w rom).rings = s.rings ∧
    (s.timeoutHandler n w rom).boot = s.boot ∧ (s.timeoutHandler n w rom).mem.exchange = s.mem.exchange ∧
    (s.timeoutHandler n w rom).mem.areas = s.mem.areas := by
  simp only [State.timeoutHandler]; (repeat' split) <;> simp [State.modBed, State.selfCheck_kept ..]
theorem State.waitTimeout_kept (s : State) (n : Nat) (conds : BitVec 64) :
    (s.waitTimeout n conds).now = s.now ∧ (s.waitTimeout n conds).pending = s.pending ∧
    (s.waitTimeout n conds).answer = s.answer ∧ (s.waitTimeout n conds).links = s.links ∧
    (s.waitTimeout n conds).copy = s.copy ∧ (s.waitTimeout n conds).rings = s.rings ∧
    (s.waitTimeout n conds).boot = s.boot ∧ (s.waitTimeout n conds).mem.exchange = s.mem.exchange ∧
    (s.waitTimeout n conds).mem.areas = s.mem.areas := by
  simp [State.ite_kept .., State.modBed, State.waitTimeout, State.endWait_kept .., State.pulse_kept ..,
      State.raise_kept ..,
      State.tick_kept ..,
      State.timeoutHandler_kept ..]
theorem State.loadPatch_kept (s : State) (b : List Byte) :
    (s.loadPatch b).2.now = s.now ∧ (s.loadPatch b).2.pending = s.pending ∧ (s.loadPatch b).2.answer = s.answer ∧
    (s.loadPatch b).2.fresh = s.fresh ∧ (s.loadPatch b).2.links = s.links ∧ (s.loadPatch b).2.shed = s.shed ∧
    (s.loadPatch b).2.copy = s.copy ∧ (s.loadPatch b).2.fwd = s.fwd ∧ (s.loadPatch b).2.rings = s.rings ∧
    (s.loadPatch b).2.egr = s.egr ∧ (s.loadPatch b).2.alm = s.alm ∧ (s.loadPatch b).2.mem = s.mem ∧
    (s.loadPatch b).2.flt = s.flt ∧ (s.loadPatch b).2.cal = s.cal ∧ (s.loadPatch b).2.gauge = s.gauge ∧
    (s.loadPatch b).2.mod = s.mod ∧ (s.loadPatch b).2.clk = s.clk ∧ (s.loadPatch b).2.boot = s.boot := by
  simp only [State.loadPatch]; (repeat' split) <;> simp [State.ite_kept .., State.patchSettled_kept ..,
      State.switchBank_kept ..]
theorem State.patchPoint_kept (s : State) (n : Nat) (boundary : Option (Nat × Nat)) :
    (s.patchPoint n boundary).now = s.now ∧ (s.patchPoint n boundary).pending = s.pending ∧
    (s.patchPoint n boundary).answer = s.answer ∧ (s.patchPoint n boundary).fresh = s.fresh ∧
    (s.patchPoint n boundary).links = s.links ∧ (s.patchPoint n boundary).shed = s.shed ∧
    (s.patchPoint n boundary).copy = s.copy ∧ (s.patchPoint n boundary).fwd = s.fwd ∧
    (s.patchPoint n boundary).rings = s.rings ∧ (s.patchPoint n boundary).egr = s.egr ∧
    (s.patchPoint n boundary).alm = s.alm ∧ (s.patchPoint n boundary).mem = s.mem ∧
    (s.patchPoint n boundary).flt = s.flt ∧ (s.patchPoint n boundary).cal = s.cal ∧
    (s.patchPoint n boundary).gauge = s.gauge ∧ (s.patchPoint n boundary).mod = s.mod ∧
    (s.patchPoint n boundary).clk = s.clk ∧ (s.patchPoint n boundary).boot = s.boot := by
  simp only [State.patchPoint]; split <;> simp [State.ite_kept .., State.patchSettled_kept .., State.switchBank_kept ..]
theorem State.wakePatch_kept (s : State) (n : Nat) :
    (s.wakePatch n).now = s.now ∧ (s.wakePatch n).pending = s.pending ∧ (s.wakePatch n).answer = s.answer ∧
    (s.wakePatch n).emits = s.emits ∧ (s.wakePatch n).fresh = s.fresh ∧ (s.wakePatch n).links = s.links ∧
    (s.wakePatch n).shed = s.shed ∧ (s.wakePatch n).copy = s.copy ∧ (s.wakePatch n).fwd = s.fwd ∧
    (s.wakePatch n).rings = s.rings ∧ (s.wakePatch n).egr = s.egr ∧ (s.wakePatch n).alm = s.alm ∧
    (s.wakePatch n).allots = s.allots ∧ (s.wakePatch n).irq = s.irq ∧ (s.wakePatch n).mem = s.mem ∧
    (s.wakePatch n).flt = s.flt ∧ (s.wakePatch n).cal = s.cal ∧ (s.wakePatch n).gauge = s.gauge ∧
    (s.wakePatch n).mod = s.mod ∧ (s.wakePatch n).clk = s.clk ∧ (s.wakePatch n).boot = s.boot := by
  simp [State.ite_kept .., State.wakePatch, State.modBed, State.patchSettled_kept ..]
theorem State.startWake_kept (s : State) (n : Nat) :
    (s.startWake n).now = s.now ∧ (s.startWake n).pending = s.pending ∧ (s.startWake n).answer = s.answer ∧
    (s.startWake n).fresh = s.fresh ∧ (s.startWake n).links = s.links ∧ (s.startWake n).shed = s.shed ∧
    (s.startWake n).copy = s.copy ∧ (s.startWake n).fwd = s.fwd ∧ (s.startWake n).rings = s.rings ∧
    (s.startWake n).egr = s.egr ∧ (s.startWake n).alm = s.alm ∧ (s.startWake n).mem = s.mem ∧
    (s.startWake n).flt = s.flt ∧ (s.startWake n).cal = s.cal ∧ (s.startWake n).gauge = s.gauge ∧
    (s.startWake n).mod = s.mod ∧ (s.startWake n).boot = s.boot := by
  simp [State.startWake, State.setBed_kept ..]
theorem State.wakeBed_kept (s : State) (n : Nat) :
    (s.wakeBed n).now = s.now ∧ (s.wakeBed n).pending = s.pending ∧ (s.wakeBed n).answer = s.answer ∧
    (s.wakeBed n).fresh = s.fresh ∧ (s.wakeBed n).links = s.links ∧ (s.wakeBed n).shed = s.shed ∧
    (s.wakeBed n).copy = s.copy ∧ (s.wakeBed n).fwd = s.fwd ∧ (s.wakeBed n).rings = s.rings ∧
    (s.wakeBed n).egr = s.egr ∧ (s.wakeBed n).alm = s.alm ∧ (s.wakeBed n).mem = s.mem ∧ (s.wakeBed n).flt = s.flt ∧
    (s.wakeBed n).cal = s.cal ∧ (s.wakeBed n).gauge = s.gauge ∧ (s.wakeBed n).mod = s.mod ∧
    (s.wakeBed n).boot = s.boot := by
  simp only [State.wakeBed]; split <;> simp [State.ite_kept .., State.modBed, State.startWake_kept ..]
theorem State.sleepBed_kept (s : State) (n : Nat) :
    (s.sleepBed n).now = s.now ∧ (s.sleepBed n).pending = s.pending ∧ (s.sleepBed n).answer = s.answer ∧
    (s.sleepBed n).fresh = s.fresh ∧ (s.sleepBed n).links = s.links ∧ (s.sleepBed n).shed = s.shed ∧
    (s.sleepBed n).copy = s.copy ∧ (s.sleepBed n).fwd = s.fwd ∧ (s.sleepBed n).rings = s.rings ∧
    (s.sleepBed n).egr = s.egr ∧ (s.sleepBed n).alm = s.alm ∧ (s.sleepBed n).mem = s.mem ∧
    (s.sleepBed n).flt = s.flt ∧ (s.sleepBed n).cal = s.cal ∧ (s.sleepBed n).gauge = s.gauge ∧
    (s.sleepBed n).mod = s.mod ∧ (s.sleepBed n).clk = s.clk ∧ (s.sleepBed n).boot = s.boot := by
  simp only [State.sleepBed]; split <;> simp [State.modBed, State.setBed_kept ..]
theorem State.sleepEnds_kept (s : State) (n : Nat) :
    (s.sleepEnds n).now = s.now ∧ (s.sleepEnds n).pending = s.pending ∧ (s.sleepEnds n).answer = s.answer ∧
    (s.sleepEnds n).fresh = s.fresh ∧ (s.sleepEnds n).links = s.links ∧ (s.sleepEnds n).shed = s.shed ∧
    (s.sleepEnds n).copy = s.copy ∧ (s.sleepEnds n).fwd = s.fwd ∧ (s.sleepEnds n).rings = s.rings ∧
    (s.sleepEnds n).egr = s.egr ∧ (s.sleepEnds n).alm = s.alm ∧ (s.sleepEnds n).mem = s.mem ∧
    (s.sleepEnds n).flt = s.flt ∧ (s.sleepEnds n).cal = s.cal ∧ (s.sleepEnds n).gauge = s.gauge ∧
    (s.sleepEnds n).mod = s.mod ∧ (s.sleepEnds n).boot = s.boot := by
  simp [State.ite_kept .., State.modBed, State.sleepEnds, State.setBed_kept .., State.startWake_kept ..]
theorem State.wakeEnds_kept (s : State) (n : Nat) :
    (s.wakeEnds n).now = s.now ∧ (s.wakeEnds n).pending = s.pending ∧ (s.wakeEnds n).answer = s.answer ∧
    (s.wakeEnds n).fresh = s.fresh ∧ (s.wakeEnds n).links = s.links ∧ (s.wakeEnds n).shed = s.shed ∧
    (s.wakeEnds n).copy = s.copy ∧ (s.wakeEnds n).fwd = s.fwd ∧ (s.wakeEnds n).rings = s.rings ∧
    (s.wakeEnds n).egr = s.egr ∧ (s.wakeEnds n).alm = s.alm ∧ (s.wakeEnds n).mem = s.mem ∧
    (s.wakeEnds n).flt = s.flt ∧ (s.wakeEnds n).cal = s.cal ∧ (s.wakeEnds n).gauge = s.gauge ∧
    (s.wakeEnds n).mod = s.mod ∧ (s.wakeEnds n).boot = s.boot := by
  simp [State.ite_kept .., State.wakeEnds, State.modBed, State.setPower, State.clearBed_kept ..,
  State.wakePatch_kept .., State.setBed_kept ..]
theorem State.assign_kept (s : State) (n : Nat) (slot : Nat) :
    (s.assign n slot).now = s.now ∧ (s.assign n slot).pending = s.pending ∧ (s.assign n slot).answer = s.answer ∧
    (s.assign n slot).fresh = s.fresh ∧ (s.assign n slot).links = s.links ∧ (s.assign n slot).shed = s.shed ∧
    (s.assign n slot).copy = s.copy ∧ (s.assign n slot).fwd = s.fwd ∧ (s.assign n slot).rings = s.rings ∧
    (s.assign n slot).egr = s.egr ∧ (s.assign n slot).alm = s.alm ∧ (s.assign n slot).mem = s.mem ∧
    (s.assign n slot).flt = s.flt ∧ (s.assign n slot).cal = s.cal ∧ (s.assign n slot).gauge = s.gauge ∧
    (s.assign n slot).mod = s.mod ∧ (s.assign n slot).boot = s.boot := by
  simp only [State.assign]; (repeat' split) <;> simp [State.ite_kept .., State.setSlots_kept ..,
  State.setBed_kept .., State.wakeBed_kept ..]
theorem State.runBits_kept (s : State) (a : Nat) (n : Nat) (l : List (Nat × Bool)) :
    (s.runBits a n l).now = s.now ∧ (s.runBits a n l).pending = s.pending ∧ (s.runBits a n l).answer = s.answer ∧
    (s.runBits a n l).emits = s.emits ∧ (s.runBits a n l).fresh = s.fresh ∧ (s.runBits a n l).links = s.links ∧
    (s.runBits a n l).shed = s.shed ∧ (s.runBits a n l).copy = s.copy ∧ (s.runBits a n l).fwd = s.fwd ∧
    (s.runBits a n l).rings = s.rings ∧ (s.runBits a n l).egr = s.egr ∧ (s.runBits a n l).alm = s.alm ∧
    (s.runBits a n l).allots = s.allots ∧ (s.runBits a n l).irq = s.irq ∧ (s.runBits a n l).mem = s.mem ∧
    (s.runBits a n l).flt = s.flt ∧ (s.runBits a n l).cal = s.cal ∧ (s.runBits a n l).gauge = s.gauge ∧
    (s.runBits a n l).mod = s.mod ∧ (s.runBits a n l).clk = s.clk ∧ (s.runBits a n l).boot = s.boot := by
  simp only [State.runBits]; (repeat' split) <;> simp [State.modSlot]
theorem State.writeRun_kept (s : State) (a : Nat) (l : List (Nat × Bool)) :
    (s.writeRun a l).now = s.now ∧ (s.writeRun a l).pending = s.pending ∧ (s.writeRun a l).answer = s.answer ∧
    (s.writeRun a l).emits = s.emits ∧ (s.writeRun a l).fresh = s.fresh ∧ (s.writeRun a l).links = s.links ∧
    (s.writeRun a l).shed = s.shed ∧ (s.writeRun a l).copy = s.copy ∧ (s.writeRun a l).fwd = s.fwd ∧
    (s.writeRun a l).rings = s.rings ∧ (s.writeRun a l).egr = s.egr ∧ (s.writeRun a l).alm = s.alm ∧
    (s.writeRun a l).irq = s.irq ∧ (s.writeRun a l).mem = s.mem ∧ (s.writeRun a l).flt = s.flt ∧
    (s.writeRun a l).cal = s.cal ∧ (s.writeRun a l).gauge = s.gauge ∧ (s.writeRun a l).mod = s.mod ∧
    (s.writeRun a l).clk = s.clk ∧ (s.writeRun a l).boot = s.boot := by
  simp [State.writeRun, State.runBits_kept ..]

/-! ## Streams.lean -/

theorem State.modRate_kept (s : State) (n : Nat) (f : Rate → Rate) :
    (s.modRate n f).now = s.now ∧ (s.modRate n f).pending = s.pending ∧ (s.modRate n f).answer = s.answer ∧
    (s.modRate n f).emits = s.emits ∧ (s.modRate n f).fresh = s.fresh ∧ (s.modRate n f).links = s.links ∧
    (s.modRate n f).shed = s.shed ∧ (s.modRate n f).copy = s.copy ∧ (s.modRate n f).fwd = s.fwd ∧
    (s.modRate n f).rings = s.rings ∧ (s.modRate n f).egr = s.egr ∧ (s.modRate n f).alm = s.alm ∧
    (s.modRate n f).allots = s.allots ∧ (s.modRate n f).irq = s.irq ∧ (s.modRate n f).mem = s.mem ∧
    (s.modRate n f).flt = s.flt ∧ (s.modRate n f).cal = s.cal ∧ (s.modRate n f).gauge = s.gauge ∧
    (s.modRate n f).mod = s.mod ∧ (s.modRate n f).clk = s.clk ∧ (s.modRate n f).boot = s.boot := by
  simp [State.modSlot, State.modRate]
theorem State.countSlot_kept (s : State) (n : Nat) (i : Nat) (k : Nat) :
    (s.countSlot n i k).now = s.now ∧ (s.countSlot n i k).pending = s.pending ∧
    (s.countSlot n i k).answer = s.answer ∧ (s.countSlot n i k).emits = s.emits ∧
    (s.countSlot n i k).fresh = s.fresh ∧ (s.countSlot n i k).links = s.links ∧ (s.countSlot n i k).shed = s.shed ∧
    (s.countSlot n i k).copy = s.copy ∧ (s.countSlot n i k).fwd = s.fwd ∧ (s.countSlot n i k).rings = s.rings ∧
    (s.countSlot n i k).egr = s.egr ∧ (s.countSlot n i k).alm = s.alm ∧ (s.countSlot n i k).allots = s.allots ∧
    (s.countSlot n i k).irq = s.irq ∧ (s.countSlot n i k).mem = s.mem ∧ (s.countSlot n i k).flt = s.flt ∧
    (s.countSlot n i k).cal = s.cal ∧ (s.countSlot n i k).gauge = s.gauge ∧ (s.countSlot n i k).mod = s.mod ∧
    (s.countSlot n i k).clk = s.clk ∧ (s.countSlot n i k).boot = s.boot := by
  simp [State.modSlot, State.countSlot]
theorem State.setRate_kept (s : State) (n : Nat) (rateChanged : Bool) :
    (s.setRate n rateChanged).now = s.now ∧ (s.setRate n rateChanged).pending = s.pending ∧
    (s.setRate n rateChanged).answer = s.answer ∧ (s.setRate n rateChanged).emits = s.emits ∧
    (s.setRate n rateChanged).fresh = s.fresh ∧ (s.setRate n rateChanged).links = s.links ∧
    (s.setRate n rateChanged).shed = s.shed ∧ (s.setRate n rateChanged).copy = s.copy ∧
    (s.setRate n rateChanged).fwd = s.fwd ∧ (s.setRate n rateChanged).rings = s.rings ∧
    (s.setRate n rateChanged).egr = s.egr ∧ (s.setRate n rateChanged).alm = s.alm ∧
    (s.setRate n rateChanged).allots = s.allots ∧ (s.setRate n rateChanged).irq = s.irq ∧
    (s.setRate n rateChanged).mem = s.mem ∧ (s.setRate n rateChanged).flt = s.flt ∧
    (s.setRate n rateChanged).cal = s.cal ∧ (s.setRate n rateChanged).gauge = s.gauge ∧
    (s.setRate n rateChanged).mod = s.mod ∧ (s.setRate n rateChanged).clk = s.clk ∧
    (s.setRate n rateChanged).boot = s.boot := by
  simp [State.setRate, State.modRate_kept ..]
theorem State.writePeriod_kept (s : State) (g : Nat) (v : Nat) :
    (s.writePeriod g v).2.now = s.now ∧ (s.writePeriod g v).2.pending = s.pending ∧
    (s.writePeriod g v).2.answer = s.answer ∧ (s.writePeriod g v).2.emits = s.emits ∧
    (s.writePeriod g v).2.fresh = s.fresh ∧ (s.writePeriod g v).2.links = s.links ∧
    (s.writePeriod g v).2.shed = s.shed ∧ (s.writePeriod g v).2.copy = s.copy ∧ (s.writePeriod g v).2.fwd = s.fwd ∧
    (s.writePeriod g v).2.rings = s.rings ∧ (s.writePeriod g v).2.egr = s.egr ∧ (s.writePeriod g v).2.alm = s.alm ∧
    (s.writePeriod g v).2.allots = s.allots ∧ (s.writePeriod g v).2.irq = s.irq ∧ (s.writePeriod g v).2.mem = s.mem ∧
    (s.writePeriod g v).2.flt = s.flt ∧ (s.writePeriod g v).2.cal = s.cal ∧ (s.writePeriod g v).2.gauge = s.gauge ∧
    (s.writePeriod g v).2.mod = s.mod ∧ (s.writePeriod g v).2.clk = s.clk ∧ (s.writePeriod g v).2.boot = s.boot := by
  simp [State.modGroup, State.writePeriod]
theorem State.periodChange_kept (s : State) (g : Nat) :
    (s.periodChange g).now = s.now ∧ (s.periodChange g).pending = s.pending ∧ (s.periodChange g).answer = s.answer ∧
    (s.periodChange g).emits = s.emits ∧ (s.periodChange g).fresh = s.fresh ∧ (s.periodChange g).links = s.links ∧
    (s.periodChange g).shed = s.shed ∧ (s.periodChange g).copy = s.copy ∧ (s.periodChange g).fwd = s.fwd ∧
    (s.periodChange g).rings = s.rings ∧ (s.periodChange g).egr = s.egr ∧ (s.periodChange g).allots = s.allots ∧
    (s.periodChange g).irq = s.irq ∧ (s.periodChange g).mem = s.mem ∧ (s.periodChange g).flt = s.flt ∧
    (s.periodChange g).cal = s.cal ∧ (s.periodChange g).gauge = s.gauge ∧ (s.periodChange g).mod = s.mod ∧
    (s.periodChange g).clk = s.clk ∧ (s.periodChange g).boot = s.boot := by
  simp only [State.periodChange]; split <;> simp [State.ite_kept .., State.modGroup, State.setCfgN_kept ..]
theorem State.takePhase_kept (s : State) (n : Nat) (start : Bool) :
    (s.takePhase n start).2.now = s.now ∧ (s.takePhase n start).2.pending = s.pending ∧
    (s.takePhase n start).2.answer = s.answer ∧ (s.takePhase n start).2.emits = s.emits ∧
    (s.takePhase n start).2.fresh = s.fresh ∧ (s.takePhase n start).2.links = s.links ∧
    (s.takePhase n start).2.shed = s.shed ∧ (s.takePhase n start).2.copy = s.copy ∧
    (s.takePhase n start).2.fwd = s.fwd ∧ (s.takePhase n start).2.rings = s.rings ∧
    (s.takePhase n start).2.egr = s.egr ∧ (s.takePhase n start).2.alm = s.alm ∧
    (s.takePhase n start).2.allots = s.allots ∧ (s.takePhase n start).2.irq = s.irq ∧
    (s.takePhase n start).2.mem = s.mem ∧ (s.takePhase n start).2.flt = s.flt ∧ (s.takePhase n start).2.cal = s.cal ∧
    (s.takePhase n start).2.gauge = s.gauge ∧ (s.takePhase n start).2.mod = s.mod ∧
    (s.takePhase n start).2.clk = s.clk ∧ (s.takePhase n start).2.boot = s.boot := by
  simp only [State.takePhase]; split <;> simp [State.modSlot]
theorem State.shadowWrite_kept (s : State) (n : Nat) (fam : Nat) (inst : Nat) (mem : Nat) (v : List Byte) :
    (s.shadowWrite n fam inst mem v).2.now = s.now ∧ (s.shadowWrite n fam inst mem v).2.pending = s.pending ∧
    (s.shadowWrite n fam inst mem v).2.answer = s.answer ∧ (s.shadowWrite n fam inst mem v).2.emits = s.emits ∧
    (s.shadowWrite n fam inst mem v).2.fresh = s.fresh ∧ (s.shadowWrite n fam inst mem v).2.links = s.links ∧
    (s.shadowWrite n fam inst mem v).2.shed = s.shed ∧ (s.shadowWrite n fam inst mem v).2.copy = s.copy ∧
    (s.shadowWrite n fam inst mem v).2.fwd = s.fwd ∧ (s.shadowWrite n fam inst mem v).2.rings = s.rings ∧
    (s.shadowWrite n fam inst mem v).2.egr = s.egr ∧ (s.shadowWrite n fam inst mem v).2.allots = s.allots ∧
    (s.shadowWrite n fam inst mem v).2.irq = s.irq ∧ (s.shadowWrite n fam inst mem v).2.mem = s.mem ∧
    (s.shadowWrite n fam inst mem v).2.flt = s.flt ∧ (s.shadowWrite n fam inst mem v).2.cal = s.cal ∧
    (s.shadowWrite n fam inst mem v).2.gauge = s.gauge ∧ (s.shadowWrite n fam inst mem v).2.mod = s.mod ∧
    (s.shadowWrite n fam inst mem v).2.clk = s.clk ∧ (s.shadowWrite n fam inst mem v).2.boot = s.boot := by
  simp [State.ite_kept .., State.modSlot, State.shadowWrite, State.setCfg_kept ..]
theorem State.shadowLive_kept (s : State) (n : Nat) (boundary : Nat) :
    (s.shadowLive n boundary).now = s.now ∧ (s.shadowLive n boundary).pending = s.pending ∧
    (s.shadowLive n boundary).answer = s.answer ∧ (s.shadowLive n boundary).emits = s.emits ∧
    (s.shadowLive n boundary).fresh = s.fresh ∧ (s.shadowLive n boundary).links = s.links ∧
    (s.shadowLive n boundary).shed = s.shed ∧ (s.shadowLive n boundary).copy = s.copy ∧
    (s.shadowLive n boundary).fwd = s.fwd ∧ (s.shadowLive n boundary).rings = s.rings ∧
    (s.shadowLive n boundary).egr = s.egr ∧ (s.shadowLive n boundary).allots = s.allots ∧
    (s.shadowLive n boundary).irq = s.irq ∧ (s.shadowLive n boundary).mem = s.mem ∧
    (s.shadowLive n boundary).flt = s.flt ∧ (s.shadowLive n boundary).cal = s.cal ∧
    (s.shadowLive n boundary).gauge = s.gauge ∧ (s.shadowLive n boundary).mod = s.mod ∧
    (s.shadowLive n boundary).clk = s.clk ∧ (s.shadowLive n boundary).boot = s.boot := by
  simp [State.ite_kept .., State.shadowLive, State.setCfg_kept .., State.setRate_kept ..]
theorem State.pbPoint_kept (s : State) (bed : Nat) (boundary : Option (Nat × Nat)) :
    (s.pbPoint bed boundary).now = s.now ∧ (s.pbPoint bed boundary).pending = s.pending ∧
    (s.pbPoint bed boundary).answer = s.answer ∧ (s.pbPoint bed boundary).fresh = s.fresh ∧
    (s.pbPoint bed boundary).links = s.links ∧ (s.pbPoint bed boundary).shed = s.shed ∧
    (s.pbPoint bed boundary).copy = s.copy ∧ (s.pbPoint bed boundary).fwd = s.fwd ∧
    (s.pbPoint bed boundary).rings = s.rings ∧ (s.pbPoint bed boundary).egr = s.egr ∧
    (s.pbPoint bed boundary).mem = s.mem ∧ (s.pbPoint bed boundary).flt = s.flt ∧
    (s.pbPoint bed boundary).cal = s.cal ∧ (s.pbPoint bed boundary).gauge = s.gauge ∧
    (s.pbPoint bed boundary).mod = s.mod ∧ (s.pbPoint bed boundary).clk = s.clk ∧
    (s.pbPoint bed boundary).boot = s.boot := by
  simp only [State.pbPoint]; split <;> simp [State.ite_kept .., State.patchPoint_kept .., State.shadowLive_kept ..]

/-! ## Coding.lean -/
theorem State.bandDone_kept (s : State) (n : Nat) (instant : Nat) (band : Nat) (blocks : List BlockCost) :
    (s.bandDone n instant band blocks).now = s.now ∧ (s.bandDone n instant band blocks).pending = s.pending ∧
    (s.bandDone n instant band blocks).answer = s.answer ∧ (s.bandDone n instant band blocks).emits = s.emits ∧
    (s.bandDone n instant band blocks).fresh = s.fresh ∧ (s.bandDone n instant band blocks).links = s.links ∧
    (s.bandDone n instant band blocks).shed = s.shed ∧ (s.bandDone n instant band blocks).copy = s.copy ∧
    (s.bandDone n instant band blocks).fwd = s.fwd ∧ (s.bandDone n instant band blocks).rings = s.rings ∧
    (s.bandDone n instant band blocks).egr = s.egr ∧ (s.bandDone n instant band blocks).alm = s.alm ∧
    (s.bandDone n instant band blocks).allots = s.allots ∧ (s.bandDone n instant band blocks).irq = s.irq ∧
    (s.bandDone n instant band blocks).mem = s.mem ∧ (s.bandDone n instant band blocks).flt = s.flt ∧
    (s.bandDone n instant band blocks).cal = s.cal ∧ (s.bandDone n instant band blocks).gauge = s.gauge ∧
    (s.bandDone n instant band blocks).mod = s.mod ∧ (s.bandDone n instant band blocks).clk = s.clk ∧
    (s.bandDone n instant band blocks).boot = s.boot := by
  simp [State.ite_kept .., State.bandDone, State.modSlot]
theorem State.codeStart_kept (s : State) (n : Nat) :
    (s.codeStart n).now = s.now ∧ (s.codeStart n).pending = s.pending ∧ (s.codeStart n).answer = s.answer ∧
    (s.codeStart n).emits = s.emits ∧ (s.codeStart n).links = s.links ∧ (s.codeStart n).shed = s.shed ∧
    (s.codeStart n).copy = s.copy ∧ (s.codeStart n).fwd = s.fwd ∧ (s.codeStart n).rings = s.rings ∧
    (s.codeStart n).egr = s.egr ∧ (s.codeStart n).alm = s.alm ∧ (s.codeStart n).allots = s.allots ∧
    (s.codeStart n).irq = s.irq ∧ (s.codeStart n).mem = s.mem ∧ (s.codeStart n).flt = s.flt ∧
    (s.codeStart n).cal = s.cal ∧ (s.codeStart n).gauge = s.gauge ∧ (s.codeStart n).mod = s.mod ∧
    (s.codeStart n).clk = s.clk ∧ (s.codeStart n).boot = s.boot := by
  simp only [State.codeStart]; (repeat' split) <;> simp [State.ite_kept .., State.modSlot, State.refresh_kept ..]
theorem State.startRow_kept (s : State) (b : Nat) (n : Nat) (row : Nat) (cost : Nat) (intra : Nat) :
    (s.startRow b n row cost intra).now = s.now ∧ (s.startRow b n row cost intra).pending = s.pending ∧
    (s.startRow b n row cost intra).answer = s.answer ∧ (s.startRow b n row cost intra).emits = s.emits ∧
    (s.startRow b n row cost intra).fresh = s.fresh ∧ (s.startRow b n row cost intra).links = s.links ∧
    (s.startRow b n row cost intra).shed = s.shed ∧ (s.startRow b n row cost intra).copy = s.copy ∧
    (s.startRow b n row cost intra).fwd = s.fwd ∧ (s.startRow b n row cost intra).rings = s.rings ∧
    (s.startRow b n row cost intra).egr = s.egr ∧ (s.startRow b n row cost intra).alm = s.alm ∧
    (s.startRow b n row cost intra).allots = s.allots ∧ (s.startRow b n row cost intra).irq = s.irq ∧
    (s.startRow b n row cost intra).mem = s.mem ∧ (s.startRow b n row cost intra).flt = s.flt ∧
    (s.startRow b n row cost intra).cal = s.cal ∧ (s.startRow b n row cost intra).gauge = s.gauge ∧
    (s.startRow b n row cost intra).mod = s.mod ∧ (s.startRow b n row cost intra).clk = s.clk ∧
    (s.startRow b n row cost intra).boot = s.boot := by
  simp [State.ite_kept .., State.startRow, State.modSlot]
theorem State.codeCtu_kept (s : State) (b : Nat) (n : Nat) (bits : Nat) (recode : Nat) (mode : CtuMode) :
    (s.codeCtu b n bits recode mode).now = s.now ∧ (s.codeCtu b n bits recode mode).pending = s.pending ∧
    (s.codeCtu b n bits recode mode).answer = s.answer ∧ (s.codeCtu b n bits recode mode).emits = s.emits ∧
    (s.codeCtu b n bits recode mode).links = s.links ∧ (s.codeCtu b n bits recode mode).shed = s.shed ∧
    (s.codeCtu b n bits recode mode).copy = s.copy ∧ (s.codeCtu b n bits recode mode).fwd = s.fwd ∧
    (s.codeCtu b n bits recode mode).rings = s.rings ∧ (s.codeCtu b n bits recode mode).egr = s.egr ∧
    (s.codeCtu b n bits recode mode).alm = s.alm ∧ (s.codeCtu b n bits recode mode).allots = s.allots ∧
    (s.codeCtu b n bits recode mode).irq = s.irq ∧ (s.codeCtu b n bits recode mode).mem = s.mem ∧
    (s.codeCtu b n bits recode mode).flt = s.flt ∧ (s.codeCtu b n bits recode mode).cal = s.cal ∧
    (s.codeCtu b n bits recode mode).gauge = s.gauge ∧ (s.codeCtu b n bits recode mode).mod = s.mod ∧
    (s.codeCtu b n bits recode mode).clk = s.clk ∧ (s.codeCtu b n bits recode mode).boot = s.boot := by
  simp only [State.codeCtu]; generalize ctuBits _ _ _ _ = p; split <;> simp [State.ite_kept .., State.countSlot,
  State.refresh, State.modRate, State.modSlot]
theorem State.codeEnd_kept (s : State) (n : Nat) :
    (s.codeEnd n).now = s.now ∧ (s.codeEnd n).pending = s.pending ∧ (s.codeEnd n).answer = s.answer ∧
    (s.codeEnd n).emits = s.emits ∧ (s.codeEnd n).fresh = s.fresh ∧ (s.codeEnd n).links = s.links ∧
    (s.codeEnd n).shed = s.shed ∧ (s.codeEnd n).copy = s.copy ∧ (s.codeEnd n).fwd = s.fwd ∧
    (s.codeEnd n).rings = s.rings ∧ (s.codeEnd n).allots = s.allots ∧ (s.codeEnd n).irq = s.irq ∧
    (s.codeEnd n).mem = s.mem ∧ (s.codeEnd n).flt = s.flt ∧ (s.codeEnd n).cal = s.cal ∧
    (s.codeEnd n).gauge = s.gauge ∧ (s.codeEnd n).mod = s.mod ∧ (s.codeEnd n).clk = s.clk ∧
    (s.codeEnd n).boot = s.boot := by
  simp only [State.codeEnd]; split <;> simp [State.ite_kept .., State.modSlot, State.countSlot_kept ..,
      State.modRate_kept ..]
theorem State.clearHist_kept (s : State) (n : Nat) :
    (s.clearHist n).now = s.now ∧ (s.clearHist n).pending = s.pending ∧ (s.clearHist n).answer = s.answer ∧
    (s.clearHist n).emits = s.emits ∧ (s.clearHist n).fresh = s.fresh ∧ (s.clearHist n).links = s.links ∧
    (s.clearHist n).shed = s.shed ∧ (s.clearHist n).copy = s.copy ∧ (s.clearHist n).fwd = s.fwd ∧
    (s.clearHist n).rings = s.rings ∧ (s.clearHist n).egr = s.egr ∧ (s.clearHist n).alm = s.alm ∧
    (s.clearHist n).allots = s.allots ∧ (s.clearHist n).irq = s.irq ∧ (s.clearHist n).mem = s.mem ∧
    (s.clearHist n).flt = s.flt ∧ (s.clearHist n).cal = s.cal ∧ (s.clearHist n).gauge = s.gauge ∧
    (s.clearHist n).mod = s.mod ∧ (s.clearHist n).clk = s.clk ∧ (s.clearHist n).boot = s.boot := by
  simp [State.ite_kept .., State.modSlot, State.clearHist]
theorem State.resyncSeq_kept (s : State) (n : Nat) :
    (s.resyncSeq n).now = s.now ∧ (s.resyncSeq n).pending = s.pending ∧ (s.resyncSeq n).answer = s.answer ∧
    (s.resyncSeq n).emits = s.emits ∧ (s.resyncSeq n).fresh = s.fresh ∧ (s.resyncSeq n).links = s.links ∧
    (s.resyncSeq n).shed = s.shed ∧ (s.resyncSeq n).copy = s.copy ∧ (s.resyncSeq n).fwd = s.fwd ∧
    (s.resyncSeq n).rings = s.rings ∧ (s.resyncSeq n).egr = s.egr ∧ (s.resyncSeq n).alm = s.alm ∧
    (s.resyncSeq n).allots = s.allots ∧ (s.resyncSeq n).irq = s.irq ∧ (s.resyncSeq n).mem = s.mem ∧
    (s.resyncSeq n).flt = s.flt ∧ (s.resyncSeq n).cal = s.cal ∧ (s.resyncSeq n).gauge = s.gauge ∧
    (s.resyncSeq n).mod = s.mod ∧ (s.resyncSeq n).clk = s.clk ∧ (s.resyncSeq n).boot = s.boot := by
  simp [State.modSlot, State.resyncSeq]
theorem State.beginPicture_kept (s : State) (n : Nat) (start : Bool) (rep : Bool) (cut : Bool) (hold : Bool) (phase : Option (Nat × Nat)) :
    (s.beginPicture n start rep cut hold phase).now = s.now ∧
    (s.beginPicture n start rep cut hold phase).pending = s.pending ∧
    (s.beginPicture n start rep cut hold phase).answer = s.answer ∧
    (s.beginPicture n start rep cut hold phase).emits = s.emits ∧
    (s.beginPicture n start rep cut hold phase).fresh = s.fresh ∧
    (s.beginPicture n start rep cut hold phase).links = s.links ∧
    (s.beginPicture n start rep cut hold phase).shed = s.shed ∧
    (s.beginPicture n start rep cut hold phase).copy = s.copy ∧
    (s.beginPicture n start rep cut hold phase).fwd = s.fwd ∧
    (s.beginPicture n start rep cut hold phase).rings = s.rings ∧
    (s.beginPicture n start rep cut hold phase).egr = s.egr ∧
    (s.beginPicture n start rep cut hold phase).alm = s.alm ∧
    (s.beginPicture n start rep cut hold phase).allots = s.allots ∧
    (s.beginPicture n start rep cut hold phase).irq = s.irq ∧
    (s.beginPicture n start rep cut hold phase).mem = s.mem ∧
    (s.beginPicture n start rep cut hold phase).flt = s.flt ∧
    (s.beginPicture n start rep cut hold phase).cal = s.cal ∧
    (s.beginPicture n start rep cut hold phase).gauge = s.gauge ∧
    (s.beginPicture n start rep cut hold phase).mod = s.mod ∧
    (s.beginPicture n start rep cut hold phase).clk = s.clk ∧
    (s.beginPicture n start rep cut hold phase).boot = s.boot := by
  simp [State.modSlot, State.beginPicture, State.clearHist_kept .., State.resyncSeq_kept ..]
theorem State.holdPicture_kept (s : State) (n : Nat) :
    (s.holdPicture n).now = s.now ∧ (s.holdPicture n).pending = s.pending ∧ (s.holdPicture n).answer = s.answer ∧
    (s.holdPicture n).links = s.links ∧ (s.holdPicture n).shed = s.shed ∧ (s.holdPicture n).copy = s.copy ∧
    (s.holdPicture n).rings = s.rings ∧ (s.holdPicture n).alm = s.alm ∧ (s.holdPicture n).mem = s.mem ∧
    (s.holdPicture n).flt = s.flt ∧ (s.holdPicture n).cal = s.cal ∧ (s.holdPicture n).mod = s.mod ∧
    (s.holdPicture n).clk = s.clk ∧ (s.holdPicture n).boot = s.boot := by
  simp [State.modSlot, State.holdPicture, State.beginPicture_kept .., State.countTwin_kept .., State.holdRest_kept ..]
theorem State.encodeBoundary_kept (s : State) (n : Nat) :
    (s.encodeBoundary n).now = s.now ∧ (s.encodeBoundary n).pending = s.pending ∧
    (s.encodeBoundary n).answer = s.answer ∧ (s.encodeBoundary n).links = s.links ∧
    (s.encodeBoundary n).shed = s.shed ∧ (s.encodeBoundary n).copy = s.copy ∧ (s.encodeBoundary n).rings = s.rings ∧
    (s.encodeBoundary n).mem = s.mem ∧ (s.encodeBoundary n).flt = s.flt ∧ (s.encodeBoundary n).cal = s.cal ∧
    (s.encodeBoundary n).mod = s.mod ∧ (s.encodeBoundary n).clk = s.clk ∧ (s.encodeBoundary n).boot = s.boot := by
  simp [State.ite_kept .., State.encodeBoundary, State.beginPicture_kept .., State.holdPicture_kept ..,
      State.judge_kept ..,
      State.nextFeedPicture_kept .., State.takeCuts_kept .., State.takePhase_kept ..]
theorem State.decodeBoundary_kept (s : State) (n : Nat) :
    (s.decodeBoundary n).now = s.now ∧ (s.decodeBoundary n).pending = s.pending ∧
    (s.decodeBoundary n).answer = s.answer ∧ (s.decodeBoundary n).emits = s.emits ∧
    (s.decodeBoundary n).fresh = s.fresh ∧ (s.decodeBoundary n).links = s.links ∧ (s.decodeBoundary n).shed = s.shed ∧
    (s.decodeBoundary n).copy = s.copy ∧ (s.decodeBoundary n).fwd = s.fwd ∧ (s.decodeBoundary n).rings = s.rings ∧
    (s.decodeBoundary n).egr = s.egr ∧ (s.decodeBoundary n).allots = s.allots ∧ (s.decodeBoundary n).irq = s.irq ∧
    (s.decodeBoundary n).mem = s.mem ∧ (s.decodeBoundary n).flt = s.flt ∧ (s.decodeBoundary n).cal = s.cal ∧
    (s.decodeBoundary n).gauge = s.gauge ∧ (s.decodeBoundary n).mod = s.mod ∧ (s.decodeBoundary n).clk = s.clk ∧
    (s.decodeBoundary n).boot = s.boot := by
  simp [State.ite_kept .., State.modSlot, State.decodeBoundary, State.clearHist_kept .., State.countTwin_kept ..,
      State.judge_kept ..,
      State.shadowLive_kept ..]
theorem State.pictureBoundary_kept (s : State) (n : Nat) :
    (s.pictureBoundary n).now = s.now ∧ (s.pictureBoundary n).pending = s.pending ∧
    (s.pictureBoundary n).answer = s.answer ∧ (s.pictureBoundary n).links = s.links ∧
    (s.pictureBoundary n).shed = s.shed ∧ (s.pictureBoundary n).copy = s.copy ∧
    (s.pictureBoundary n).rings = s.rings ∧ (s.pictureBoundary n).mem = s.mem ∧ (s.pictureBoundary n).flt = s.flt ∧
    (s.pictureBoundary n).cal = s.cal ∧ (s.pictureBoundary n).mod = s.mod ∧ (s.pictureBoundary n).clk = s.clk ∧
    (s.pictureBoundary n).boot = s.boot := by
  simp [State.ite_kept .., State.pictureBoundary, State.decodeBoundary_kept .., State.encodeBoundary_kept ..]

/-! ## Admission.lean -/

theorem State.keepWarm_kept (s : State) :
    s.keepWarm.now = s.now ∧ s.keepWarm.pending = s.pending ∧ s.keepWarm.answer = s.answer ∧
    s.keepWarm.fresh = s.fresh ∧ s.keepWarm.links = s.links ∧ s.keepWarm.shed = s.shed ∧ s.keepWarm.copy = s.copy ∧
    s.keepWarm.fwd = s.fwd ∧ s.keepWarm.rings = s.rings ∧ s.keepWarm.egr = s.egr ∧ s.keepWarm.alm = s.alm ∧
    s.keepWarm.mem = s.mem ∧ s.keepWarm.flt = s.flt ∧ s.keepWarm.cal = s.cal ∧ s.keepWarm.gauge = s.gauge ∧
    s.keepWarm.mod = s.mod ∧ s.keepWarm.boot = s.boot := by
  simp [State.ite_kept .., State.keepWarm, State.wakeBed_kept ..]
theorem State.refill_kept (s : State) (b : Nat) :
    (s.refill b).now = s.now ∧ (s.refill b).pending = s.pending ∧ (s.refill b).answer = s.answer ∧
    (s.refill b).fresh = s.fresh ∧ (s.refill b).links = s.links ∧ (s.refill b).shed = s.shed ∧
    (s.refill b).copy = s.copy ∧ (s.refill b).fwd = s.fwd ∧ (s.refill b).rings = s.rings ∧ (s.refill b).egr = s.egr ∧
    (s.refill b).alm = s.alm ∧ (s.refill b).mem = s.mem ∧ (s.refill b).flt = s.flt ∧ (s.refill b).cal = s.cal ∧
    (s.refill b).gauge = s.gauge ∧ (s.refill b).mod = s.mod ∧ (s.refill b).boot = s.boot := by
  simp [State.ite_kept .., State.modBed, State.refill, State.keepWarm_kept ..]
theorem State.sizePool_kept (s : State) :
    s.sizePool.now = s.now ∧ s.sizePool.pending = s.pending ∧ s.sizePool.answer = s.answer ∧
    s.sizePool.fresh = s.fresh ∧ s.sizePool.links = s.links ∧ s.sizePool.shed = s.shed ∧ s.sizePool.copy = s.copy ∧
    s.sizePool.fwd = s.fwd ∧ s.sizePool.rings = s.rings ∧ s.sizePool.egr = s.egr ∧ s.sizePool.alm = s.alm ∧
    s.sizePool.mem = s.mem ∧ s.sizePool.flt = s.flt ∧ s.sizePool.cal = s.cal ∧ s.sizePool.gauge = s.gauge ∧
    s.sizePool.mod = s.mod ∧ s.sizePool.boot = s.boot := by
  simp [State.ite_kept .., State.sizePool, -List.foldl_reverse, State.keepWarm_kept ..]
theorem State.takeBeds_kept (s : State) (n : Nat) (lead : List Nat) (partner : List Nat) :
    (s.takeBeds n lead partner).now = s.now ∧ (s.takeBeds n lead partner).pending = s.pending ∧
    (s.takeBeds n lead partner).answer = s.answer ∧ (s.takeBeds n lead partner).fresh = s.fresh ∧
    (s.takeBeds n lead partner).links = s.links ∧ (s.takeBeds n lead partner).shed = s.shed ∧
    (s.takeBeds n lead partner).copy = s.copy ∧ (s.takeBeds n lead partner).fwd = s.fwd ∧
    (s.takeBeds n lead partner).rings = s.rings ∧ (s.takeBeds n lead partner).egr = s.egr ∧
    (s.takeBeds n lead partner).alm = s.alm ∧ (s.takeBeds n lead partner).mem = s.mem ∧
    (s.takeBeds n lead partner).flt = s.flt ∧ (s.takeBeds n lead partner).cal = s.cal ∧
    (s.takeBeds n lead partner).gauge = s.gauge ∧ (s.takeBeds n lead partner).mod = s.mod ∧
    (s.takeBeds n lead partner).boot = s.boot := by
  simp [State.takeBeds, State.assign_kept ..]
theorem State.takeRegion_kept (s : State) (n : Nat) (d : Nat) (len : Nat) :
    (s.takeRegion n d len).now = s.now ∧ (s.takeRegion n d len).pending = s.pending ∧
    (s.takeRegion n d len).answer = s.answer ∧ (s.takeRegion n d len).emits = s.emits ∧
    (s.takeRegion n d len).fresh = s.fresh ∧ (s.takeRegion n d len).links = s.links ∧
    (s.takeRegion n d len).shed = s.shed ∧ (s.takeRegion n d len).copy = s.copy ∧ (s.takeRegion n d len).fwd = s.fwd ∧
    (s.takeRegion n d len).rings = s.rings ∧ (s.takeRegion n d len).egr = s.egr ∧ (s.takeRegion n d len).alm = s.alm ∧
    (s.takeRegion n d len).allots = s.allots ∧ (s.takeRegion n d len).irq = s.irq ∧
    (s.takeRegion n d len).mem = s.mem ∧ (s.takeRegion n d len).flt = s.flt ∧ (s.takeRegion n d len).cal = s.cal ∧
    (s.takeRegion n d len).gauge = s.gauge ∧ (s.takeRegion n d len).mod = s.mod ∧ (s.takeRegion n d len).clk = s.clk ∧
    (s.takeRegion n d len).boot = s.boot := by
  simp only [State.takeRegion]; split <;> simp [State.modSlot]
theorem State.takeSides_kept (s : State) (n : Nat) (len : Nat) (sides : List (List Nat)) :
    (s.takeSides n len sides).now = s.now ∧ (s.takeSides n len sides).pending = s.pending ∧
    (s.takeSides n len sides).answer = s.answer ∧ (s.takeSides n len sides).emits = s.emits ∧
    (s.takeSides n len sides).fresh = s.fresh ∧ (s.takeSides n len sides).links = s.links ∧
    (s.takeSides n len sides).shed = s.shed ∧ (s.takeSides n len sides).copy = s.copy ∧
    (s.takeSides n len sides).fwd = s.fwd ∧ (s.takeSides n len sides).rings = s.rings ∧
    (s.takeSides n len sides).egr = s.egr ∧ (s.takeSides n len sides).alm = s.alm ∧
    (s.takeSides n len sides).allots = s.allots ∧ (s.takeSides n len sides).irq = s.irq ∧
    (s.takeSides n len sides).mem = s.mem ∧ (s.takeSides n len sides).flt = s.flt ∧
    (s.takeSides n len sides).cal = s.cal ∧ (s.takeSides n len sides).gauge = s.gauge ∧
    (s.takeSides n len sides).mod = s.mod ∧ (s.takeSides n len sides).clk = s.clk ∧
    (s.takeSides n len sides).boot = s.boot := by
  simp [State.takeSides, State.takeRegion_kept ..]
theorem State.raiseSlot_kept (s : State) (n : Nat) :
    (s.raiseSlot n).now = s.now ∧ (s.raiseSlot n).pending = s.pending ∧ (s.raiseSlot n).answer = s.answer ∧
    (s.raiseSlot n).fresh = s.fresh ∧ (s.raiseSlot n).links = s.links ∧ (s.raiseSlot n).shed = s.shed ∧
    (s.raiseSlot n).copy = s.copy ∧ (s.raiseSlot n).fwd = s.fwd ∧ (s.raiseSlot n).rings = s.rings ∧
    (s.raiseSlot n).str = s.str ∧ (s.raiseSlot n).egr = s.egr ∧ (s.raiseSlot n).alm = s.alm ∧
    (s.raiseSlot n).mem = s.mem ∧ (s.raiseSlot n).flt = s.flt ∧ (s.raiseSlot n).cal = s.cal ∧
    (s.raiseSlot n).gauge = s.gauge ∧ (s.raiseSlot n).mod = s.mod ∧ (s.raiseSlot n).clk = s.clk ∧
    (s.raiseSlot n).boot = s.boot := by
  simp [State.ite_kept .., State.raiseSlot, State.raise_kept ..]
theorem State.resetDec_kept (s : State) (n : Nat) :
    (s.resetDec n).now = s.now ∧ (s.resetDec n).pending = s.pending ∧ (s.resetDec n).answer = s.answer ∧
    (s.resetDec n).fresh = s.fresh ∧ (s.resetDec n).links = s.links ∧ (s.resetDec n).shed = s.shed ∧
    (s.resetDec n).copy = s.copy ∧ (s.resetDec n).fwd = s.fwd ∧ (s.resetDec n).rings = s.rings ∧
    (s.resetDec n).egr = s.egr ∧ (s.resetDec n).alm = s.alm ∧ (s.resetDec n).mem = s.mem ∧
    (s.resetDec n).flt = s.flt ∧ (s.resetDec n).cal = s.cal ∧ (s.resetDec n).gauge = s.gauge ∧
    (s.resetDec n).mod = s.mod ∧ (s.resetDec n).clk = s.clk ∧ (s.resetDec n).boot = s.boot := by
  simp [State.ite_kept .., State.resetDec, State.modSlot, State.raiseSlot_kept ..]
theorem State.takeRegions_kept (s : State) (n : Nat) (lead : List Nat) (partner : List Nat) :
    (s.takeRegions n lead partner).now = s.now ∧ (s.takeRegions n lead partner).pending = s.pending ∧
    (s.takeRegions n lead partner).answer = s.answer ∧ (s.takeRegions n lead partner).fresh = s.fresh ∧
    (s.takeRegions n lead partner).links = s.links ∧ (s.takeRegions n lead partner).shed = s.shed ∧
    (s.takeRegions n lead partner).copy = s.copy ∧ (s.takeRegions n lead partner).fwd = s.fwd ∧
    (s.takeRegions n lead partner).rings = s.rings ∧ (s.takeRegions n lead partner).egr = s.egr ∧
    (s.takeRegions n lead partner).alm = s.alm ∧ (s.takeRegions n lead partner).mem = s.mem ∧
    (s.takeRegions n lead partner).flt = s.flt ∧ (s.takeRegions n lead partner).cal = s.cal ∧
    (s.takeRegions n lead partner).gauge = s.gauge ∧ (s.takeRegions n lead partner).mod = s.mod ∧
    (s.takeRegions n lead partner).clk = s.clk ∧ (s.takeRegions n lead partner).boot = s.boot := by
  simp [State.ite_kept .., State.takeRegions, State.modSlot, State.takeSides_kept .., State.resetDec_kept ..,
  State.refence_kept ..]
theorem State.admitDefaults_kept (s : State) (n : Nat) :
    (s.admitDefaults n).now = s.now ∧ (s.admitDefaults n).pending = s.pending ∧
    (s.admitDefaults n).answer = s.answer ∧ (s.admitDefaults n).emits = s.emits ∧
    (s.admitDefaults n).fresh = s.fresh ∧ (s.admitDefaults n).links = s.links ∧
    (s.admitDefaults n).shed = s.shed ∧ (s.admitDefaults n).copy = s.copy ∧ (s.admitDefaults n).fwd = s.fwd ∧
    (s.admitDefaults n).rings = s.rings ∧ (s.admitDefaults n).egr = s.egr ∧
    (s.admitDefaults n).allots = s.allots ∧ (s.admitDefaults n).irq = s.irq ∧ (s.admitDefaults n).mem = s.mem ∧
    (s.admitDefaults n).flt = s.flt ∧ (s.admitDefaults n).cal = s.cal ∧ (s.admitDefaults n).gauge = s.gauge ∧
    (s.admitDefaults n).mod = s.mod ∧ (s.admitDefaults n).clk = s.clk ∧ (s.admitDefaults n).boot = s.boot := by
  simp only [State.admitDefaults]; (repeat' split) <;> simp [State.ite_kept .., State.modSlot, State.modIntake,
  State.setCfgN_kept .., State.setRate_kept .., State.modRate_kept ..]
theorem State.admitStream_kept (s : State) (n : Nat) :
    (s.admitStream n).2.now = s.now ∧ (s.admitStream n).2.pending = s.pending ∧
    (s.admitStream n).2.answer = s.answer ∧ (s.admitStream n).2.fresh = s.fresh ∧
    (s.admitStream n).2.links = s.links ∧ (s.admitStream n).2.shed = s.shed ∧ (s.admitStream n).2.copy = s.copy ∧
    (s.admitStream n).2.fwd = s.fwd ∧ (s.admitStream n).2.rings = s.rings ∧ (s.admitStream n).2.egr = s.egr ∧
    (s.admitStream n).2.mem = s.mem ∧ (s.admitStream n).2.flt = s.flt ∧ (s.admitStream n).2.cal = s.cal ∧
    (s.admitStream n).2.gauge = s.gauge ∧ (s.admitStream n).2.mod = s.mod ∧ (s.admitStream n).2.boot = s.boot := by
  simp only [State.admitStream]; (repeat' split) <;> simp [State.admitDefaults_kept .., State.reowned_kept ..,
      State.takeBeds_kept .., State.takeRegions_kept ..]
theorem State.streamAdmitted_kept (s : State) (n : Nat) :
    (s.streamAdmitted n).now = s.now ∧ (s.streamAdmitted n).pending = s.pending ∧
    (s.streamAdmitted n).answer = s.answer ∧ (s.streamAdmitted n).fresh = s.fresh ∧
    (s.streamAdmitted n).links = s.links ∧ (s.streamAdmitted n).shed = s.shed ∧ (s.streamAdmitted n).copy = s.copy ∧
    (s.streamAdmitted n).fwd = s.fwd ∧ (s.streamAdmitted n).rings = s.rings ∧ (s.streamAdmitted n).egr = s.egr ∧
    (s.streamAdmitted n).alm = s.alm ∧ (s.streamAdmitted n).mem = s.mem ∧ (s.streamAdmitted n).flt = s.flt ∧
    (s.streamAdmitted n).cal = s.cal ∧ (s.streamAdmitted n).gauge = s.gauge ∧ (s.streamAdmitted n).mod = s.mod ∧
    (s.streamAdmitted n).clk = s.clk ∧ (s.streamAdmitted n).boot = s.boot := by
  simp [State.ite_kept .., State.streamAdmitted, State.judge_kept .., State.setTwin_kept ..]
theorem State.dropBeds_kept (s : State) (n : Nat) :
    (s.dropBeds n).now = s.now ∧ (s.dropBeds n).pending = s.pending ∧ (s.dropBeds n).answer = s.answer ∧
    (s.dropBeds n).fresh = s.fresh ∧ (s.dropBeds n).links = s.links ∧ (s.dropBeds n).shed = s.shed ∧
    (s.dropBeds n).copy = s.copy ∧ (s.dropBeds n).fwd = s.fwd ∧ (s.dropBeds n).rings = s.rings ∧
    (s.dropBeds n).egr = s.egr ∧ (s.dropBeds n).alm = s.alm ∧ (s.dropBeds n).mem = s.mem ∧
    (s.dropBeds n).flt = s.flt ∧ (s.dropBeds n).cal = s.cal ∧ (s.dropBeds n).gauge = s.gauge ∧
    (s.dropBeds n).mod = s.mod ∧ (s.dropBeds n).boot = s.boot := by
  simp [State.dropBeds, State.refill_kept .., State.unassign_kept ..]
theorem State.releaseStream_kept (s : State) (n : Nat) :
    (s.releaseStream n).now = s.now ∧ (s.releaseStream n).pending = s.pending ∧
    (s.releaseStream n).answer = s.answer ∧ (s.releaseStream n).fresh = s.fresh ∧
    (s.releaseStream n).links = s.links ∧ (s.releaseStream n).shed = s.shed ∧ (s.releaseStream n).copy = s.copy ∧
    (s.releaseStream n).fwd = s.fwd ∧ (s.releaseStream n).rings = s.rings ∧ (s.releaseStream n).egr = s.egr ∧
    (s.releaseStream n).mem = s.mem ∧ (s.releaseStream n).flt = s.flt ∧ (s.releaseStream n).cal = s.cal ∧
    (s.releaseStream n).gauge = s.gauge ∧ (s.releaseStream n).mod = s.mod := by
  simp [State.releaseStream, State.dropBeds_kept .., State.reowned_kept .., State.setTwin_kept ..,
      State.shadowLive_kept ..]
theorem State.freeSlot_kept (s : State) (n : Nat) :
    (s.freeSlot n).now = s.now ∧ (s.freeSlot n).pending = s.pending ∧ (s.freeSlot n).answer = s.answer ∧
    (s.freeSlot n).emits = s.emits ∧ (s.freeSlot n).fresh = s.fresh ∧ (s.freeSlot n).links = s.links ∧
    (s.freeSlot n).shed = s.shed ∧ (s.freeSlot n).copy = s.copy ∧ (s.freeSlot n).fwd = s.fwd ∧
    (s.freeSlot n).rings = s.rings ∧ (s.freeSlot n).allots = s.allots ∧ (s.freeSlot n).mem = s.mem ∧
    (s.freeSlot n).flt = s.flt ∧ (s.freeSlot n).cal = s.cal ∧ (s.freeSlot n).gauge = s.gauge ∧
    (s.freeSlot n).mod = s.mod ∧ (s.freeSlot n).clk = s.clk ∧ (s.freeSlot n).boot = s.boot := by
  simp [State.freeSlot, State.reowned_kept ..]
theorem State.admitOp_kept (s : State) (n : Nat) (v : Nat) :
    (s.admit_ n v).2.now = s.now ∧ (s.admit_ n v).2.pending = s.pending ∧ (s.admit_ n v).2.answer = s.answer ∧
    (s.admit_ n v).2.fresh = s.fresh ∧ (s.admit_ n v).2.links = s.links ∧ (s.admit_ n v).2.shed = s.shed ∧
    (s.admit_ n v).2.copy = s.copy ∧ (s.admit_ n v).2.fwd = s.fwd ∧ (s.admit_ n v).2.rings = s.rings ∧
    (s.admit_ n v).2.mem = s.mem ∧ (s.admit_ n v).2.flt = s.flt ∧ (s.admit_ n v).2.cal = s.cal ∧
    (s.admit_ n v).2.gauge = s.gauge ∧ (s.admit_ n v).2.mod = s.mod := by
  simp [State.ite_kept .., State.admit_, State.admitStream_kept .., State.freeSlot_kept ..,
  State.releaseStream_kept ..]

/-! ## Soil.lean -/

theorem State.countSoil_kept (s : State) (i : Nat) :
    (s.countSoil i).now = s.now ∧ (s.countSoil i).pending = s.pending ∧ (s.countSoil i).answer = s.answer ∧
    (s.countSoil i).emits = s.emits ∧ (s.countSoil i).fresh = s.fresh ∧ (s.countSoil i).links = s.links ∧
    (s.countSoil i).shed = s.shed ∧ (s.countSoil i).copy = s.copy ∧ (s.countSoil i).fwd = s.fwd ∧
    (s.countSoil i).rings = s.rings ∧ (s.countSoil i).egr = s.egr ∧ (s.countSoil i).alm = s.alm ∧
    (s.countSoil i).allots = s.allots ∧ (s.countSoil i).irq = s.irq ∧ (s.countSoil i).mem = s.mem ∧
    (s.countSoil i).flt = s.flt ∧ (s.countSoil i).cal = s.cal ∧ (s.countSoil i).gauge = s.gauge ∧
    (s.countSoil i).mod = s.mod ∧ (s.countSoil i).clk = s.clk ∧ (s.countSoil i).boot = s.boot := by
  simp [State.countSoil]
theorem State.soilStart_kept (s : State) (b : Nat) :
    (s.soilStart b).now = s.now ∧ (s.soilStart b).pending = s.pending ∧ (s.soilStart b).answer = s.answer ∧
    (s.soilStart b).fresh = s.fresh ∧ (s.soilStart b).links = s.links ∧ (s.soilStart b).shed = s.shed ∧
    (s.soilStart b).copy = s.copy ∧ (s.soilStart b).fwd = s.fwd ∧ (s.soilStart b).rings = s.rings ∧
    (s.soilStart b).egr = s.egr ∧ (s.soilStart b).alm = s.alm ∧ (s.soilStart b).mem = s.mem ∧
    (s.soilStart b).flt = s.flt ∧ (s.soilStart b).cal = s.cal ∧ (s.soilStart b).gauge = s.gauge ∧
    (s.soilStart b).mod = s.mod ∧ (s.soilStart b).clk = s.clk ∧ (s.soilStart b).boot = s.boot := by
  simp [State.soilStart, State.countSoil_kept .., State.setBed_kept ..]
theorem State.soilTest_kept (s : State) (b : Nat) :
    (s.soilTest b).now = s.now ∧ (s.soilTest b).pending = s.pending ∧ (s.soilTest b).answer = s.answer ∧
    (s.soilTest b).fresh = s.fresh ∧ (s.soilTest b).links = s.links ∧ (s.soilTest b).shed = s.shed ∧
    (s.soilTest b).copy = s.copy ∧ (s.soilTest b).fwd = s.fwd ∧ (s.soilTest b).rings = s.rings ∧
    (s.soilTest b).egr = s.egr ∧ (s.soilTest b).alm = s.alm ∧ (s.soilTest b).mem = s.mem ∧
    (s.soilTest b).flt = s.flt ∧ (s.soilTest b).cal = s.cal ∧ (s.soilTest b).gauge = s.gauge ∧
    (s.soilTest b).mod = s.mod ∧ (s.soilTest b).clk = s.clk ∧ (s.soilTest b).boot = s.boot := by
  simp [State.ite_kept .., State.soilTest, State.soilStart_kept ..]
theorem State.soilIdle_kept (s : State) (b : Nat) :
    (s.soilIdle b).now = s.now ∧ (s.soilIdle b).pending = s.pending ∧ (s.soilIdle b).answer = s.answer ∧
    (s.soilIdle b).fresh = s.fresh ∧ (s.soilIdle b).links = s.links ∧ (s.soilIdle b).shed = s.shed ∧
    (s.soilIdle b).copy = s.copy ∧ (s.soilIdle b).fwd = s.fwd ∧ (s.soilIdle b).rings = s.rings ∧
    (s.soilIdle b).egr = s.egr ∧ (s.soilIdle b).alm = s.alm ∧ (s.soilIdle b).mem = s.mem ∧
    (s.soilIdle b).flt = s.flt ∧ (s.soilIdle b).cal = s.cal ∧ (s.soilIdle b).gauge = s.gauge ∧
    (s.soilIdle b).mod = s.mod ∧ (s.soilIdle b).clk = s.clk ∧ (s.soilIdle b).boot = s.boot := by
  simp [State.modBed, State.soilIdle, State.clearBed_kept .., State.freshPatch_kept .., State.setBed_kept ..]
theorem State.soilTrap_kept (s : State) (b : Nat) (held : Bool) :
    (s.soilTrap b held).now = s.now ∧ (s.soilTrap b held).pending = s.pending ∧
    (s.soilTrap b held).answer = s.answer ∧ (s.soilTrap b held).emits = s.emits ∧
    (s.soilTrap b held).fresh = s.fresh ∧ (s.soilTrap b held).links = s.links ∧ (s.soilTrap b held).shed = s.shed ∧
    (s.soilTrap b held).copy = s.copy ∧ (s.soilTrap b held).fwd = s.fwd ∧ (s.soilTrap b held).rings = s.rings ∧
    (s.soilTrap b held).egr = s.egr ∧ (s.soilTrap b held).alm = s.alm ∧ (s.soilTrap b held).allots = s.allots ∧
    (s.soilTrap b held).irq = s.irq ∧ (s.soilTrap b held).mem = s.mem ∧ (s.soilTrap b held).flt = s.flt ∧
    (s.soilTrap b held).cal = s.cal ∧ (s.soilTrap b held).gauge = s.gauge ∧ (s.soilTrap b held).mod = s.mod ∧
    (s.soilTrap b held).clk = s.clk ∧ (s.soilTrap b held).boot = s.boot := by
  simp [State.ite_kept .., State.soilTrap, State.trapRequest_kept ..]
theorem State.soilEnd_kept (s : State) (b : Nat) (fail : Nat) :
    (s.soilEnd b fail).now = s.now ∧ (s.soilEnd b fail).pending = s.pending ∧ (s.soilEnd b fail).answer = s.answer ∧
    (s.soilEnd b fail).links = s.links ∧ (s.soilEnd b fail).copy = s.copy ∧ (s.soilEnd b fail).rings = s.rings ∧
    (s.soilEnd b fail).boot = s.boot ∧ (s.soilEnd b fail).mem.exchange = s.mem.exchange ∧
    (s.soilEnd b fail).mem.areas = s.mem.areas := by
  simp [State.ite_kept .., State.modBed, State.soilEnd, State.countSoil_kept .., State.pruneBed_kept ..,
      State.raiseFault_kept ..,
      State.refill_kept ..,
      State.soilIdle_kept .., State.soilTrap_kept ..]
theorem State.soilAbort_kept (s : State) (b : Nat) :
    (s.soilAbort b).now = s.now ∧ (s.soilAbort b).pending = s.pending ∧ (s.soilAbort b).answer = s.answer ∧
    (s.soilAbort b).fresh = s.fresh ∧ (s.soilAbort b).links = s.links ∧ (s.soilAbort b).shed = s.shed ∧
    (s.soilAbort b).copy = s.copy ∧ (s.soilAbort b).fwd = s.fwd ∧ (s.soilAbort b).rings = s.rings ∧
    (s.soilAbort b).egr = s.egr ∧ (s.soilAbort b).alm = s.alm ∧ (s.soilAbort b).mem = s.mem ∧
    (s.soilAbort b).flt = s.flt ∧ (s.soilAbort b).cal = s.cal ∧ (s.soilAbort b).gauge = s.gauge ∧
    (s.soilAbort b).mod = s.mod ∧ (s.soilAbort b).clk = s.clk ∧ (s.soilAbort b).boot = s.boot := by
  simp [State.ite_kept .., State.modBed, State.soilAbort, State.countSoil_kept .., State.soilIdle_kept ..,
      State.soilTrap_kept ..]
theorem State.bedBack_kept (s : State) (b : Nat) :
    (s.bedBack b).now = s.now ∧ (s.bedBack b).pending = s.pending ∧ (s.bedBack b).answer = s.answer ∧
    (s.bedBack b).fresh = s.fresh ∧ (s.bedBack b).links = s.links ∧ (s.bedBack b).shed = s.shed ∧
    (s.bedBack b).copy = s.copy ∧ (s.bedBack b).fwd = s.fwd ∧ (s.bedBack b).rings = s.rings ∧
    (s.bedBack b).egr = s.egr ∧ (s.bedBack b).alm = s.alm ∧ (s.bedBack b).mem = s.mem ∧ (s.bedBack b).flt = s.flt ∧
    (s.bedBack b).cal = s.cal ∧ (s.bedBack b).gauge = s.gauge ∧ (s.bedBack b).mod = s.mod ∧
    (s.bedBack b).clk = s.clk ∧ (s.bedBack b).boot = s.boot := by
  simp [State.modBed, State.bedBack, State.soilIdle_kept .., State.soilTest_kept ..]
theorem State.bedReset_kept (s : State) (b : Nat) :
    (s.bedReset b).now = s.now ∧ (s.bedReset b).pending = s.pending ∧ (s.bedReset b).answer = s.answer ∧
    (s.bedReset b).fresh = s.fresh ∧ (s.bedReset b).copy = s.copy ∧ (s.bedReset b).rings = s.rings ∧
    (s.bedReset b).alm = s.alm ∧ (s.bedReset b).cal = s.cal ∧ (s.bedReset b).gauge = s.gauge ∧
    (s.bedReset b).clk = s.clk ∧ (s.bedReset b).boot = s.boot ∧ (s.bedReset b).mem.exchange = s.mem.exchange ∧
    (s.bedReset b).mem.areas = s.mem.areas := by
  simp only [State.bedReset]
  split
  · simp [State.ite_kept .., State.bedBack_kept .., State.endReset_kept .., State.orderReset_kept ..]
  · split <;> (rename_i h; have k := State.orderReset_kept s (bedDie b) (b % 36); simp only [h] at k; simp [State.ite_kept .., k,
      State.bedBack_kept .., State.endReset_kept .., State.orderReset_kept ..])
theorem State.retest_kept (s : State) (b : Nat) :
    (s.retest b).2.now = s.now ∧ (s.retest b).2.pending = s.pending ∧ (s.retest b).2.answer = s.answer ∧
    (s.retest b).2.fresh = s.fresh ∧ (s.retest b).2.copy = s.copy ∧ (s.retest b).2.rings = s.rings ∧
    (s.retest b).2.alm = s.alm ∧ (s.retest b).2.cal = s.cal ∧ (s.retest b).2.gauge = s.gauge ∧
    (s.retest b).2.clk = s.clk ∧ (s.retest b).2.boot = s.boot ∧ (s.retest b).2.mem.exchange = s.mem.exchange ∧
    (s.retest b).2.mem.areas = s.mem.areas := by
  simp [State.ite_kept .., State.retest, State.modBed, State.bedReset_kept ..]
end Sys2Proof.Machine
end

