-- ==== Sys2Proof/Laws/FramesTwins.lean ====
section
/-! SUPPORT. The parts of the state that the Sieves, grafts and decode streams leave alone: one lemma for each operation, by its parts. -/

set_option linter.unusedSimpArgs false

namespace Sys2Proof.Machine

/-! ## Twinning.lean -/

theorem State.closeUnit_kept (s : State) (die : Nat) (u : UnitCopy) :
    (s.closeUnit die u).now = s.now ∧ (s.closeUnit die u).pending = s.pending ∧
    (s.closeUnit die u).answer = s.answer ∧ (s.closeUnit die u).emits = s.emits ∧
    (s.closeUnit die u).fresh = s.fresh ∧ (s.closeUnit die u).links = s.links ∧ (s.closeUnit die u).shed = s.shed ∧
    (s.closeUnit die u).copy = s.copy ∧ (s.closeUnit die u).fwd = s.fwd ∧ (s.closeUnit die u).rings = s.rings ∧
    (s.closeUnit die u).egr = s.egr ∧ (s.closeUnit die u).alm = s.alm ∧ (s.closeUnit die u).allots = s.allots ∧
    (s.closeUnit die u).irq = s.irq ∧ (s.closeUnit die u).mem = s.mem ∧ (s.closeUnit die u).flt = s.flt ∧
    (s.closeUnit die u).cal = s.cal ∧ (s.closeUnit die u).gauge = s.gauge ∧ (s.closeUnit die u).mod = s.mod ∧
    (s.closeUnit die u).clk = s.clk ∧ (s.closeUnit die u).boot = s.boot := by
  simp [State.modTwin, State.closeUnit]
theorem State.openUnit_kept (s : State) (die : Nat) (u : UnitCopy) (released : Bool) :
    (s.openUnit die u released).now = s.now ∧ (s.openUnit die u released).pending = s.pending ∧
    (s.openUnit die u released).answer = s.answer ∧ (s.openUnit die u released).emits = s.emits ∧
    (s.openUnit die u released).fresh = s.fresh ∧ (s.openUnit die u released).links = s.links ∧
    (s.openUnit die u released).shed = s.shed ∧ (s.openUnit die u released).copy = s.copy ∧
    (s.openUnit die u released).fwd = s.fwd ∧ (s.openUnit die u released).rings = s.rings ∧
    (s.openUnit die u released).egr = s.egr ∧ (s.openUnit die u released).alm = s.alm ∧
    (s.openUnit die u released).allots = s.allots ∧ (s.openUnit die u released).irq = s.irq ∧
    (s.openUnit die u released).mem = s.mem ∧ (s.openUnit die u released).flt = s.flt ∧
    (s.openUnit die u released).cal = s.cal ∧ (s.openUnit die u released).gauge = s.gauge ∧
    (s.openUnit die u released).mod = s.mod ∧ (s.openUnit die u released).clk = s.clk ∧
    (s.openUnit die u released).boot = s.boot := by
  simp [State.modTwin, State.openUnit]
theorem State.portFree_kept (s : State) (u : UnitCopy) (beds : List Nat) :
    (s.portFree u beds).now = s.now ∧ (s.portFree u beds).pending = s.pending ∧
    (s.portFree u beds).answer = s.answer ∧ (s.portFree u beds).emits = s.emits ∧
    (s.portFree u beds).fresh = s.fresh ∧ (s.portFree u beds).links = s.links ∧ (s.portFree u beds).shed = s.shed ∧
    (s.portFree u beds).copy = s.copy ∧ (s.portFree u beds).fwd = s.fwd ∧ (s.portFree u beds).rings = s.rings ∧
    (s.portFree u beds).egr = s.egr ∧ (s.portFree u beds).alm = s.alm ∧ (s.portFree u beds).allots = s.allots ∧
    (s.portFree u beds).irq = s.irq ∧ (s.portFree u beds).mem = s.mem ∧ (s.portFree u beds).flt = s.flt ∧
    (s.portFree u beds).cal = s.cal ∧ (s.portFree u beds).gauge = s.gauge ∧ (s.portFree u beds).mod = s.mod ∧
    (s.portFree u beds).clk = s.clk ∧ (s.portFree u beds).boot = s.boot := by
  simp [State.portFree]
theorem State.decideOp_kept (s : State) (die : Nat) (u : UnitCopy) (beds : List Nat) :
    (s.decide_ die u beds).now = s.now ∧ (s.decide_ die u beds).pending = s.pending ∧
    (s.decide_ die u beds).answer = s.answer ∧ (s.decide_ die u beds).emits = s.emits ∧
    (s.decide_ die u beds).fresh = s.fresh ∧ (s.decide_ die u beds).links = s.links ∧
    (s.decide_ die u beds).shed = s.shed ∧ (s.decide_ die u beds).copy = s.copy ∧
    (s.decide_ die u beds).fwd = s.fwd ∧ (s.decide_ die u beds).rings = s.rings ∧
    (s.decide_ die u beds).egr = s.egr ∧ (s.decide_ die u beds).alm = s.alm ∧
    (s.decide_ die u beds).allots = s.allots ∧ (s.decide_ die u beds).irq = s.irq ∧
    (s.decide_ die u beds).mem = s.mem ∧ (s.decide_ die u beds).flt = s.flt ∧ (s.decide_ die u beds).cal = s.cal ∧
    (s.decide_ die u beds).gauge = s.gauge ∧ (s.decide_ die u beds).mod = s.mod ∧
    (s.decide_ die u beds).clk = s.clk ∧ (s.decide_ die u beds).boot = s.boot := by
  simp [State.ite_kept .., State.decide_, State.modTwin, State.portFree_kept ..]
theorem State.releaseOp_kept (s : State) (die : Nat) (u : UnitCopy) (beds : List Nat) :
    (s.release_ die u beds).now = s.now ∧ (s.release_ die u beds).pending = s.pending ∧
    (s.release_ die u beds).answer = s.answer ∧ (s.release_ die u beds).links = s.links ∧
    (s.release_ die u beds).shed = s.shed ∧ (s.release_ die u beds).copy = s.copy ∧
    (s.release_ die u beds).rings = s.rings ∧ (s.release_ die u beds).alm = s.alm ∧
    (s.release_ die u beds).mem = s.mem ∧ (s.release_ die u beds).flt = s.flt ∧
    (s.release_ die u beds).cal = s.cal ∧ (s.release_ die u beds).mod = s.mod ∧
    (s.release_ die u beds).clk = s.clk ∧ (s.release_ die u beds).boot = s.boot := by
  simp [State.ite_kept .., State.release_, State.decideOp_kept .., State.releaseUnit_kept ..]
theorem State.flushDie_kept (s : State) (die : Nat) (n : Nat) :
    (s.flushDie die n).now = s.now ∧ (s.flushDie die n).pending = s.pending ∧
    (s.flushDie die n).answer = s.answer ∧ (s.flushDie die n).links = s.links ∧ (s.flushDie die n).shed = s.shed ∧
    (s.flushDie die n).copy = s.copy ∧ (s.flushDie die n).rings = s.rings ∧ (s.flushDie die n).alm = s.alm ∧
    (s.flushDie die n).mem = s.mem ∧ (s.flushDie die n).flt = s.flt ∧ (s.flushDie die n).cal = s.cal ∧
    (s.flushDie die n).mod = s.mod ∧ (s.flushDie die n).clk = s.clk ∧ (s.flushDie die n).boot = s.boot := by
  simp [State.ite_kept .., State.flushDie, State.doubleFault_kept .., State.closeUnit_kept .., State.releaseOp_kept ..]
theorem State.askPrune_kept (s : State) (die : Nat) (n : Nat) (b : Nat) :
    (s.askPrune die n b).now = s.now ∧ (s.askPrune die n b).pending = s.pending ∧
    (s.askPrune die n b).answer = s.answer ∧ (s.askPrune die n b).links = s.links ∧
    (s.askPrune die n b).shed = s.shed ∧ (s.askPrune die n b).copy = s.copy ∧ (s.askPrune die n b).rings = s.rings ∧
    (s.askPrune die n b).alm = s.alm ∧ (s.askPrune die n b).mem = s.mem ∧ (s.askPrune die n b).flt = s.flt ∧
    (s.askPrune die n b).cal = s.cal ∧ (s.askPrune die n b).mod = s.mod ∧ (s.askPrune die n b).clk = s.clk ∧
    (s.askPrune die n b).boot = s.boot := by
  simp [State.modTwin, State.askPrune, State.flushDie_kept ..]
theorem State.pruneAsked_kept (s : State) (die : Nat) (n : Nat) (picture : Nat) (b : Nat) :
    (s.pruneAsked die n picture b).now = s.now ∧ (s.pruneAsked die n picture b).pending = s.pending ∧
    (s.pruneAsked die n picture b).answer = s.answer ∧ (s.pruneAsked die n picture b).links = s.links ∧
    (s.pruneAsked die n picture b).shed = s.shed ∧ (s.pruneAsked die n picture b).copy = s.copy ∧
    (s.pruneAsked die n picture b).rings = s.rings ∧ (s.pruneAsked die n picture b).alm = s.alm ∧
    (s.pruneAsked die n picture b).mem = s.mem ∧ (s.pruneAsked die n picture b).cal = s.cal ∧
    (s.pruneAsked die n picture b).mod = s.mod ∧ (s.pruneAsked die n picture b).clk = s.clk ∧
    (s.pruneAsked die n picture b).boot = s.boot := by
  simp only [State.pruneAsked]; (repeat' split) <;> simp [State.modTwin, State.logFault_kept .., State.pruneGang_kept ..,
      State.stopTicks_kept ..]
theorem State.pruneComes_kept (s : State) (die : Nat) (n : Nat) (picture : Nat) (b : Nat) :
    (s.pruneComes die n picture b).now = s.now ∧ (s.pruneComes die n picture b).pending = s.pending ∧
    (s.pruneComes die n picture b).answer = s.answer ∧ (s.pruneComes die n picture b).shed = s.shed ∧
    (s.pruneComes die n picture b).copy = s.copy ∧ (s.pruneComes die n picture b).rings = s.rings ∧
    (s.pruneComes die n picture b).alm = s.alm ∧ (s.pruneComes die n picture b).mem = s.mem ∧
    (s.pruneComes die n picture b).cal = s.cal ∧ (s.pruneComes die n picture b).mod = s.mod ∧
    (s.pruneComes die n picture b).clk = s.clk ∧ (s.pruneComes die n picture b).boot = s.boot := by
  simp [State.ite_kept .., State.pruneComes, State.hold_kept .., State.pruneAsked_kept ..]
theorem State.startContest_kept (s : State) (a : UnitCopy) (b : UnitCopy) :
    (s.startContest a b).now = s.now ∧ (s.startContest a b).pending = s.pending ∧
    (s.startContest a b).answer = s.answer ∧ (s.startContest a b).fresh = s.fresh ∧
    (s.startContest a b).links = s.links ∧ (s.startContest a b).shed = s.shed ∧ (s.startContest a b).copy = s.copy ∧
    (s.startContest a b).fwd = s.fwd ∧ (s.startContest a b).rings = s.rings ∧ (s.startContest a b).egr = s.egr ∧
    (s.startContest a b).alm = s.alm ∧ (s.startContest a b).mem = s.mem ∧ (s.startContest a b).flt = s.flt ∧
    (s.startContest a b).cal = s.cal ∧ (s.startContest a b).gauge = s.gauge ∧ (s.startContest a b).mod = s.mod ∧
    (s.startContest a b).clk = s.clk ∧ (s.startContest a b).boot = s.boot := by
  simp [State.ite_kept .., State.modTwin, State.startContest, State.countTwin_kept .., State.setTwin_kept ..]
theorem State.vote_kept (s : State) (u : UnitCopy) :
    (s.vote u).now = s.now ∧ (s.vote u).pending = s.pending ∧ (s.vote u).answer = s.answer ∧
    (s.vote u).links = s.links ∧ (s.vote u).shed = s.shed ∧ (s.vote u).copy = s.copy ∧ (s.vote u).rings = s.rings ∧
    (s.vote u).alm = s.alm ∧ (s.vote u).mem = s.mem ∧ (s.vote u).cal = s.cal ∧ (s.vote u).mod = s.mod ∧
    (s.vote u).clk = s.clk ∧ (s.vote u).boot = s.boot := by
  simp only [State.vote]; (repeat' split) <;> simp [State.doubleFault_kept .., State.pruneGang_kept ..,
      State.stopTicks_kept ..]
theorem State.decidePair_kept (s : State) (die : Nat) (o : OpenUnit) (u : UnitCopy) :
    (s.decidePair die o u).now = s.now ∧ (s.decidePair die o u).pending = s.pending ∧
    (s.decidePair die o u).answer = s.answer ∧ (s.decidePair die o u).links = s.links ∧
    (s.decidePair die o u).shed = s.shed ∧ (s.decidePair die o u).copy = s.copy ∧
    (s.decidePair die o u).rings = s.rings ∧ (s.decidePair die o u).alm = s.alm ∧
    (s.decidePair die o u).mem = s.mem ∧ (s.decidePair die o u).flt = s.flt ∧ (s.decidePair die o u).cal = s.cal ∧
    (s.decidePair die o u).mod = s.mod ∧ (s.decidePair die o u).clk = s.clk ∧
    (s.decidePair die o u).boot = s.boot := by
  simp [State.ite_kept .., State.decidePair, State.closeUnit_kept .., State.setExcused_kept ..,
  State.portFree_kept .., State.releaseOp_kept .., State.doubleFault_kept .., State.askPrune_kept ..,
  State.countTwin_kept .., State.startContest_kept ..]
theorem State.probationPair_kept (s : State) (die : Nat) (o : OpenUnit) (u : UnitCopy) :
    (s.probationPair die o u).now = s.now ∧ (s.probationPair die o u).pending = s.pending ∧
    (s.probationPair die o u).answer = s.answer ∧ (s.probationPair die o u).emits = s.emits ∧
    (s.probationPair die o u).fresh = s.fresh ∧ (s.probationPair die o u).links = s.links ∧
    (s.probationPair die o u).shed = s.shed ∧ (s.probationPair die o u).copy = s.copy ∧
    (s.probationPair die o u).fwd = s.fwd ∧ (s.probationPair die o u).rings = s.rings ∧
    (s.probationPair die o u).egr = s.egr ∧ (s.probationPair die o u).alm = s.alm ∧
    (s.probationPair die o u).allots = s.allots ∧ (s.probationPair die o u).irq = s.irq ∧
    (s.probationPair die o u).mem = s.mem ∧ (s.probationPair die o u).flt = s.flt ∧
    (s.probationPair die o u).cal = s.cal ∧ (s.probationPair die o u).gauge = s.gauge ∧
    (s.probationPair die o u).mod = s.mod ∧ (s.probationPair die o u).clk = s.clk ∧
    (s.probationPair die o u).boot = s.boot := by
  simp [State.ite_kept .., State.modTwin, State.probationPair, State.closeUnit_kept ..]
theorem State.singleCopy_kept (s : State) (die : Nat) (u : UnitCopy) :
    (s.singleCopy die u).now = s.now ∧ (s.singleCopy die u).pending = s.pending ∧
    (s.singleCopy die u).answer = s.answer ∧ (s.singleCopy die u).links = s.links ∧
    (s.singleCopy die u).shed = s.shed ∧ (s.singleCopy die u).copy = s.copy ∧
    (s.singleCopy die u).rings = s.rings ∧ (s.singleCopy die u).alm = s.alm ∧ (s.singleCopy die u).mem = s.mem ∧
    (s.singleCopy die u).flt = s.flt ∧ (s.singleCopy die u).cal = s.cal ∧ (s.singleCopy die u).mod = s.mod ∧
    (s.singleCopy die u).clk = s.clk ∧ (s.singleCopy die u).boot = s.boot := by
  simp only [State.singleCopy]; (repeat' split) <;> simp [State.ite_kept .., State.releaseOp_kept ..,
  State.doubleFault_kept .., State.openUnit_kept .., State.probationPair_kept ..]
theorem State.scionCopy_kept (s : State) (die : Nat) (u : UnitCopy) :
    (s.scionCopy die u).now = s.now ∧ (s.scionCopy die u).pending = s.pending ∧
    (s.scionCopy die u).answer = s.answer ∧ (s.scionCopy die u).emits = s.emits ∧
    (s.scionCopy die u).fresh = s.fresh ∧ (s.scionCopy die u).links = s.links ∧ (s.scionCopy die u).shed = s.shed ∧
    (s.scionCopy die u).copy = s.copy ∧ (s.scionCopy die u).fwd = s.fwd ∧ (s.scionCopy die u).rings = s.rings ∧
    (s.scionCopy die u).egr = s.egr ∧ (s.scionCopy die u).alm = s.alm ∧ (s.scionCopy die u).allots = s.allots ∧
    (s.scionCopy die u).irq = s.irq ∧ (s.scionCopy die u).mem = s.mem ∧ (s.scionCopy die u).flt = s.flt ∧
    (s.scionCopy die u).cal = s.cal ∧ (s.scionCopy die u).gauge = s.gauge ∧ (s.scionCopy die u).mod = s.mod ∧
    (s.scionCopy die u).clk = s.clk ∧ (s.scionCopy die u).boot = s.boot := by
  simp only [State.scionCopy]; (repeat' split) <;> simp [State.openUnit_kept .., State.portFree_kept ..,
      State.probationPair_kept ..]
theorem State.memberCopy_kept (s : State) (die : Nat) (u : UnitCopy) :
    (s.memberCopy die u).now = s.now ∧ (s.memberCopy die u).pending = s.pending ∧
    (s.memberCopy die u).answer = s.answer ∧ (s.memberCopy die u).links = s.links ∧
    (s.memberCopy die u).shed = s.shed ∧ (s.memberCopy die u).copy = s.copy ∧
    (s.memberCopy die u).rings = s.rings ∧ (s.memberCopy die u).alm = s.alm ∧ (s.memberCopy die u).mem = s.mem ∧
    (s.memberCopy die u).flt = s.flt ∧ (s.memberCopy die u).cal = s.cal ∧ (s.memberCopy die u).mod = s.mod ∧
    (s.memberCopy die u).clk = s.clk ∧ (s.memberCopy die u).boot = s.boot := by
  simp only [State.memberCopy]; (repeat' split) <;> simp [State.ite_kept .., State.decidePair_kept ..,
  State.doubleFault_kept .., State.releaseOp_kept .., State.openUnit_kept ..]
theorem State.copyArrive_kept (s : State) (die : Nat) (u : UnitCopy) :
    (s.copyArrive die u).now = s.now ∧ (s.copyArrive die u).pending = s.pending ∧
    (s.copyArrive die u).answer = s.answer ∧ (s.copyArrive die u).links = s.links ∧
    (s.copyArrive die u).shed = s.shed ∧ (s.copyArrive die u).copy = s.copy ∧ (s.copyArrive die u).rings = s.rings ∧
    (s.copyArrive die u).alm = s.alm ∧ (s.copyArrive die u).mem = s.mem ∧ (s.copyArrive die u).cal = s.cal ∧
    (s.copyArrive die u).mod = s.mod ∧ (s.copyArrive die u).clk = s.clk ∧ (s.copyArrive die u).boot = s.boot := by
  simp [State.ite_kept .., State.modBed, State.modTwin, State.copyArrive, State.logFault_kept ..,
      State.memberCopy_kept ..,
      State.portFree_kept ..,
      State.scionCopy_kept ..,
      State.singleCopy_kept .., State.vote_kept ..]
theorem State.copyComes_kept (s : State) (die : Nat) (u : UnitCopy) :
    (s.copyComes die u).now = s.now ∧ (s.copyComes die u).pending = s.pending ∧
    (s.copyComes die u).answer = s.answer ∧ (s.copyComes die u).shed = s.shed ∧
    (s.copyComes die u).copy = s.copy ∧ (s.copyComes die u).rings = s.rings ∧ (s.copyComes die u).alm = s.alm ∧
    (s.copyComes die u).mem = s.mem ∧ (s.copyComes die u).cal = s.cal ∧ (s.copyComes die u).mod = s.mod ∧
    (s.copyComes die u).clk = s.clk ∧ (s.copyComes die u).boot = s.boot := by
  simp [State.ite_kept .., State.copyComes, State.hold_kept .., State.emit_kept .., State.copyArrive_kept ..]
theorem State.windowClose_kept (s : State) (die : Nat) (n : Nat) (picture : Nat) (row : Nat) (tile : Nat) :
    (s.windowClose die n picture row tile).now = s.now ∧
    (s.windowClose die n picture row tile).pending = s.pending ∧
    (s.windowClose die n picture row tile).answer = s.answer ∧
    (s.windowClose die n picture row tile).links = s.links ∧
    (s.windowClose die n picture row tile).shed = s.shed ∧ (s.windowClose die n picture row tile).copy = s.copy ∧
    (s.windowClose die n picture row tile).rings = s.rings ∧ (s.windowClose die n picture row tile).alm = s.alm ∧
    (s.windowClose die n picture row tile).mem = s.mem ∧ (s.windowClose die n picture row tile).flt = s.flt ∧
    (s.windowClose die n picture row tile).cal = s.cal ∧ (s.windowClose die n picture row tile).mod = s.mod ∧
    (s.windowClose die n picture row tile).clk = s.clk ∧ (s.windowClose die n picture row tile).boot = s.boot := by
  simp only [State.windowClose]; (repeat' split) <;> simp [State.ite_kept .., State.doubleFault_kept ..,
  State.countTwin_kept .., State.closeUnit_kept .., State.releaseOp_kept .., State.askPrune_kept ..]
theorem State.enlist_kept (s : State) (b : Nat) (slots : List Nat) :
    (s.enlist b slots).now = s.now ∧ (s.enlist b slots).pending = s.pending ∧ (s.enlist b slots).answer = s.answer ∧
    (s.enlist b slots).fresh = s.fresh ∧ (s.enlist b slots).links = s.links ∧ (s.enlist b slots).shed = s.shed ∧
    (s.enlist b slots).copy = s.copy ∧ (s.enlist b slots).fwd = s.fwd ∧ (s.enlist b slots).rings = s.rings ∧
    (s.enlist b slots).egr = s.egr ∧ (s.enlist b slots).alm = s.alm ∧ (s.enlist b slots).mem = s.mem ∧
    (s.enlist b slots).flt = s.flt ∧ (s.enlist b slots).cal = s.cal ∧ (s.enlist b slots).gauge = s.gauge ∧
    (s.enlist b slots).mod = s.mod ∧ (s.enlist b slots).boot = s.boot := by
  simp [State.enlist, State.assign_kept .., State.soilAbort_kept ..]
theorem State.retrialChoice_kept (s : State) (n : Nat) (capsulesEqual : Bool) :
    (s.retrialChoice n capsulesEqual).now = s.now ∧ (s.retrialChoice n capsulesEqual).pending = s.pending ∧
    (s.retrialChoice n capsulesEqual).answer = s.answer ∧ (s.retrialChoice n capsulesEqual).links = s.links ∧
    (s.retrialChoice n capsulesEqual).shed = s.shed ∧ (s.retrialChoice n capsulesEqual).copy = s.copy ∧
    (s.retrialChoice n capsulesEqual).rings = s.rings ∧ (s.retrialChoice n capsulesEqual).alm = s.alm ∧
    (s.retrialChoice n capsulesEqual).mem = s.mem ∧ (s.retrialChoice n capsulesEqual).flt = s.flt ∧
    (s.retrialChoice n capsulesEqual).cal = s.cal ∧ (s.retrialChoice n capsulesEqual).mod = s.mod ∧
    (s.retrialChoice n capsulesEqual).boot = s.boot := by
  simp only [State.retrialChoice]; (repeat' split) <;> simp [State.modTwin, State.doubleFault_kept ..,
      State.enlist_kept ..]
theorem State.voteTimeout_kept (s : State) (n : Nat) :
    (s.voteTimeout n).now = s.now ∧ (s.voteTimeout n).pending = s.pending ∧ (s.voteTimeout n).answer = s.answer ∧
    (s.voteTimeout n).links = s.links ∧ (s.voteTimeout n).shed = s.shed ∧ (s.voteTimeout n).copy = s.copy ∧
    (s.voteTimeout n).rings = s.rings ∧ (s.voteTimeout n).alm = s.alm ∧ (s.voteTimeout n).mem = s.mem ∧
    (s.voteTimeout n).cal = s.cal ∧ (s.voteTimeout n).mod = s.mod ∧ (s.voteTimeout n).clk = s.clk ∧
    (s.voteTimeout n).boot = s.boot := by
  simp only [State.voteTimeout]; split <;> simp [State.ite_kept .., State.pruneGang_kept .., State.stopTicks_kept ..]
theorem State.placeAgain_kept (s : State) (n : Nat) :
    (s.placeAgain n).now = s.now ∧ (s.placeAgain n).pending = s.pending ∧ (s.placeAgain n).answer = s.answer ∧
    (s.placeAgain n).fresh = s.fresh ∧ (s.placeAgain n).links = s.links ∧ (s.placeAgain n).shed = s.shed ∧
    (s.placeAgain n).copy = s.copy ∧ (s.placeAgain n).fwd = s.fwd ∧ (s.placeAgain n).rings = s.rings ∧
    (s.placeAgain n).egr = s.egr ∧ (s.placeAgain n).alm = s.alm ∧ (s.placeAgain n).mem = s.mem ∧
    (s.placeAgain n).flt = s.flt ∧ (s.placeAgain n).cal = s.cal ∧ (s.placeAgain n).gauge = s.gauge ∧
    (s.placeAgain n).mod = s.mod ∧ (s.placeAgain n).boot = s.boot := by
  simp only [State.placeAgain]; (repeat' split) <;> simp [State.enlist_kept .., State.takeRegions_kept ..]
theorem State.restart_kept (s : State) (n : Nat) :
    (s.restart n).now = s.now ∧ (s.restart n).pending = s.pending ∧ (s.restart n).answer = s.answer ∧
    (s.restart n).links = s.links ∧ (s.restart n).shed = s.shed ∧ (s.restart n).copy = s.copy ∧
    (s.restart n).rings = s.rings ∧ (s.restart n).alm = s.alm ∧ (s.restart n).mem = s.mem ∧
    (s.restart n).flt = s.flt ∧ (s.restart n).cal = s.cal ∧ (s.restart n).mod = s.mod ∧
    (s.restart n).boot = s.boot := by
  simp [State.ite_kept .., State.restart, State.modSlot, State.modTwin, State.placeAgain_kept ..,
  State.raiseSlot_kept .., State.setTwin_kept .., State.judge_kept ..]
theorem State.excuseTimeout_kept (s : State) (n : Nat) :
    (s.excuseTimeout n).now = s.now ∧ (s.excuseTimeout n).pending = s.pending ∧
    (s.excuseTimeout n).answer = s.answer ∧ (s.excuseTimeout n).links = s.links ∧ (s.excuseTimeout n).shed = s.shed ∧
    (s.excuseTimeout n).copy = s.copy ∧ (s.excuseTimeout n).rings = s.rings ∧ (s.excuseTimeout n).alm = s.alm ∧
    (s.excuseTimeout n).mem = s.mem ∧ (s.excuseTimeout n).cal = s.cal ∧ (s.excuseTimeout n).mod = s.mod ∧
    (s.excuseTimeout n).clk = s.clk ∧ (s.excuseTimeout n).boot = s.boot := by
  simp only [State.excuseTimeout]; split <;> simp [State.ite_kept .., State.pruneGang_kept .., State.stopTicks_kept ..]
theorem State.startGraft_kept (s : State) (n : Nat) :
    (s.startGraft n).now = s.now ∧ (s.startGraft n).pending = s.pending ∧ (s.startGraft n).answer = s.answer ∧
    (s.startGraft n).fresh = s.fresh ∧ (s.startGraft n).links = s.links ∧ (s.startGraft n).shed = s.shed ∧
    (s.startGraft n).copy = s.copy ∧ (s.startGraft n).fwd = s.fwd ∧ (s.startGraft n).rings = s.rings ∧
    (s.startGraft n).egr = s.egr ∧ (s.startGraft n).alm = s.alm ∧ (s.startGraft n).mem = s.mem ∧
    (s.startGraft n).flt = s.flt ∧ (s.startGraft n).cal = s.cal ∧ (s.startGraft n).gauge = s.gauge ∧
    (s.startGraft n).mod = s.mod ∧ (s.startGraft n).clk = s.clk ∧ (s.startGraft n).boot = s.boot := by
  simp [State.ite_kept .., State.startGraft, State.setTwin_kept ..]
theorem State.startGrafts_kept (s : State) (b : Nat) :
    (s.startGrafts b).now = s.now ∧ (s.startGrafts b).pending = s.pending ∧ (s.startGrafts b).answer = s.answer ∧
    (s.startGrafts b).fresh = s.fresh ∧ (s.startGrafts b).links = s.links ∧ (s.startGrafts b).shed = s.shed ∧
    (s.startGrafts b).copy = s.copy ∧ (s.startGrafts b).fwd = s.fwd ∧ (s.startGrafts b).rings = s.rings ∧
    (s.startGrafts b).egr = s.egr ∧ (s.startGrafts b).alm = s.alm ∧ (s.startGrafts b).mem = s.mem ∧
    (s.startGrafts b).flt = s.flt ∧ (s.startGrafts b).cal = s.cal ∧ (s.startGrafts b).gauge = s.gauge ∧
    (s.startGrafts b).mod = s.mod ∧ (s.startGrafts b).clk = s.clk ∧ (s.startGrafts b).boot = s.boot := by
  simp [State.ite_kept .., State.startGrafts, State.startGraft_kept ..]
theorem State.chooseScion_kept (s : State) (n : Nat) :
    (s.chooseScion n).now = s.now ∧ (s.chooseScion n).pending = s.pending ∧ (s.chooseScion n).answer = s.answer ∧
    (s.chooseScion n).fresh = s.fresh ∧ (s.chooseScion n).links = s.links ∧ (s.chooseScion n).shed = s.shed ∧
    (s.chooseScion n).copy = s.copy ∧ (s.chooseScion n).fwd = s.fwd ∧ (s.chooseScion n).rings = s.rings ∧
    (s.chooseScion n).egr = s.egr ∧ (s.chooseScion n).alm = s.alm ∧ (s.chooseScion n).mem = s.mem ∧
    (s.chooseScion n).flt = s.flt ∧ (s.chooseScion n).cal = s.cal ∧ (s.chooseScion n).gauge = s.gauge ∧
    (s.chooseScion n).mod = s.mod ∧ (s.chooseScion n).boot = s.boot := by
  simp only [State.chooseScion]; (repeat' split) <;> simp [State.enlist_kept .., State.keepWarm_kept ..,
      State.refence_kept ..,
      State.startGraft_kept ..]
theorem State.graftAll_kept (s : State) :
    s.graftAll.now = s.now ∧ s.graftAll.pending = s.pending ∧ s.graftAll.answer = s.answer ∧
    s.graftAll.fresh = s.fresh ∧ s.graftAll.links = s.links ∧ s.graftAll.shed = s.shed ∧ s.graftAll.copy = s.copy ∧
    s.graftAll.fwd = s.fwd ∧ s.graftAll.rings = s.rings ∧ s.graftAll.egr = s.egr ∧ s.graftAll.alm = s.alm ∧
    s.graftAll.mem = s.mem ∧ s.graftAll.flt = s.flt ∧ s.graftAll.cal = s.cal ∧ s.graftAll.gauge = s.gauge ∧
    s.graftAll.mod = s.mod ∧ s.graftAll.boot = s.boot := by
  simp [State.graftAll, State.chooseScion_kept ..]
theorem State.unhold_kept (s : State) (n : Nat) :
    (s.unhold n).now = s.now ∧ (s.unhold n).pending = s.pending ∧ (s.unhold n).answer = s.answer ∧
    (s.unhold n).emits = s.emits ∧ (s.unhold n).fresh = s.fresh ∧ (s.unhold n).links = s.links ∧
    (s.unhold n).shed = s.shed ∧ (s.unhold n).copy = s.copy ∧ (s.unhold n).fwd = s.fwd ∧
    (s.unhold n).rings = s.rings ∧ (s.unhold n).egr = s.egr ∧ (s.unhold n).alm = s.alm ∧
    (s.unhold n).allots = s.allots ∧ (s.unhold n).irq = s.irq ∧ (s.unhold n).mem = s.mem ∧ (s.unhold n).flt = s.flt ∧
    (s.unhold n).cal = s.cal ∧ (s.unhold n).gauge = s.gauge ∧ (s.unhold n).mod = s.mod ∧ (s.unhold n).clk = s.clk ∧
    (s.unhold n).boot = s.boot := by
  simp [State.modSlot, State.unhold]
theorem State.returnScion_kept (s : State) (n : Nat) :
    (s.returnScion n).now = s.now ∧ (s.returnScion n).pending = s.pending ∧ (s.returnScion n).answer = s.answer ∧
    (s.returnScion n).fresh = s.fresh ∧ (s.returnScion n).links = s.links ∧ (s.returnScion n).shed = s.shed ∧
    (s.returnScion n).copy = s.copy ∧ (s.returnScion n).fwd = s.fwd ∧ (s.returnScion n).rings = s.rings ∧
    (s.returnScion n).egr = s.egr ∧ (s.returnScion n).alm = s.alm ∧ (s.returnScion n).mem = s.mem ∧
    (s.returnScion n).flt = s.flt ∧ (s.returnScion n).cal = s.cal ∧ (s.returnScion n).gauge = s.gauge ∧
    (s.returnScion n).mod = s.mod ∧ (s.returnScion n).clk = s.clk ∧ (s.returnScion n).boot = s.boot := by
  simp [State.returnScion, State.bedBack_kept .., State.keepRegions_kept .., State.setTwin_kept ..,
      State.unassign_kept ..,
      State.unhold_kept ..]
theorem State.transplantEnd_kept (s : State) (n : Nat) (bad : Bool) :
    (s.transplantEnd n bad).now = s.now ∧ (s.transplantEnd n bad).pending = s.pending ∧
    (s.transplantEnd n bad).answer = s.answer ∧ (s.transplantEnd n bad).fresh = s.fresh ∧
    (s.transplantEnd n bad).links = s.links ∧ (s.transplantEnd n bad).shed = s.shed ∧
    (s.transplantEnd n bad).copy = s.copy ∧ (s.transplantEnd n bad).fwd = s.fwd ∧
    (s.transplantEnd n bad).rings = s.rings ∧ (s.transplantEnd n bad).egr = s.egr ∧
    (s.transplantEnd n bad).alm = s.alm ∧ (s.transplantEnd n bad).mem = s.mem ∧ (s.transplantEnd n bad).cal = s.cal ∧
    (s.transplantEnd n bad).gauge = s.gauge ∧ (s.transplantEnd n bad).mod = s.mod ∧
    (s.transplantEnd n bad).clk = s.clk ∧ (s.transplantEnd n bad).boot = s.boot := by
  simp [State.ite_kept .., State.transplantEnd, State.logFault_kept .., State.returnScion_kept ..]
theorem State.cuttingBoundary_kept (s : State) (n : Nat) :
    (s.cuttingBoundary n).now = s.now ∧ (s.cuttingBoundary n).pending = s.pending ∧
    (s.cuttingBoundary n).answer = s.answer ∧ (s.cuttingBoundary n).fresh = s.fresh ∧
    (s.cuttingBoundary n).links = s.links ∧ (s.cuttingBoundary n).shed = s.shed ∧
    (s.cuttingBoundary n).copy = s.copy ∧ (s.cuttingBoundary n).fwd = s.fwd ∧ (s.cuttingBoundary n).rings = s.rings ∧
    (s.cuttingBoundary n).egr = s.egr ∧ (s.cuttingBoundary n).alm = s.alm ∧ (s.cuttingBoundary n).mem = s.mem ∧
    (s.cuttingBoundary n).flt = s.flt ∧ (s.cuttingBoundary n).cal = s.cal ∧ (s.cuttingBoundary n).gauge = s.gauge ∧
    (s.cuttingBoundary n).mod = s.mod ∧ (s.cuttingBoundary n).clk = s.clk ∧ (s.cuttingBoundary n).boot = s.boot := by
  simp [State.ite_kept .., State.cuttingBoundary, State.setTwin_kept .., State.unhold_kept ..]
theorem State.probationEnd_kept (s : State) (n : Nat) :
    (s.probationEnd n).now = s.now ∧ (s.probationEnd n).pending = s.pending ∧ (s.probationEnd n).answer = s.answer ∧
    (s.probationEnd n).fresh = s.fresh ∧ (s.probationEnd n).links = s.links ∧ (s.probationEnd n).shed = s.shed ∧
    (s.probationEnd n).copy = s.copy ∧ (s.probationEnd n).fwd = s.fwd ∧ (s.probationEnd n).rings = s.rings ∧
    (s.probationEnd n).egr = s.egr ∧ (s.probationEnd n).alm = s.alm ∧ (s.probationEnd n).mem = s.mem ∧
    (s.probationEnd n).cal = s.cal ∧ (s.probationEnd n).gauge = s.gauge ∧ (s.probationEnd n).mod = s.mod ∧
    (s.probationEnd n).clk = s.clk ∧ (s.probationEnd n).boot = s.boot := by
  simp [State.ite_kept .., State.probationEnd, State.countTwin_kept .., State.judge_kept .., State.recordRaise_kept ..,
      State.returnScion_kept ..,
      State.setTwin_kept ..]
theorem State.exposureLimit_kept (s : State) (n : Nat) :
    (s.exposureLimit n).now = s.now ∧ (s.exposureLimit n).pending = s.pending ∧
    (s.exposureLimit n).answer = s.answer ∧ (s.exposureLimit n).emits = s.emits ∧
    (s.exposureLimit n).fresh = s.fresh ∧ (s.exposureLimit n).links = s.links ∧ (s.exposureLimit n).shed = s.shed ∧
    (s.exposureLimit n).copy = s.copy ∧ (s.exposureLimit n).fwd = s.fwd ∧ (s.exposureLimit n).rings = s.rings ∧
    (s.exposureLimit n).egr = s.egr ∧ (s.exposureLimit n).alm = s.alm ∧ (s.exposureLimit n).allots = s.allots ∧
    (s.exposureLimit n).irq = s.irq ∧ (s.exposureLimit n).mem = s.mem ∧ (s.exposureLimit n).flt = s.flt ∧
    (s.exposureLimit n).cal = s.cal ∧ (s.exposureLimit n).gauge = s.gauge ∧ (s.exposureLimit n).mod = s.mod ∧
    (s.exposureLimit n).clk = s.clk ∧ (s.exposureLimit n).boot = s.boot := by
  simp [State.ite_kept .., State.modTwin, State.exposureLimit, State.judge_kept ..]
theorem State.cuttingCompare_kept (s : State) (n : Nat) (live : Bool) (other : Bool) :
    (s.cuttingCompare n live other).now = s.now ∧ (s.cuttingCompare n live other).pending = s.pending ∧
    (s.cuttingCompare n live other).answer = s.answer ∧ (s.cuttingCompare n live other).emits = s.emits ∧
    (s.cuttingCompare n live other).fresh = s.fresh ∧ (s.cuttingCompare n live other).links = s.links ∧
    (s.cuttingCompare n live other).shed = s.shed ∧ (s.cuttingCompare n live other).copy = s.copy ∧
    (s.cuttingCompare n live other).fwd = s.fwd ∧ (s.cuttingCompare n live other).rings = s.rings ∧
    (s.cuttingCompare n live other).egr = s.egr ∧ (s.cuttingCompare n live other).alm = s.alm ∧
    (s.cuttingCompare n live other).allots = s.allots ∧ (s.cuttingCompare n live other).irq = s.irq ∧
    (s.cuttingCompare n live other).mem = s.mem ∧ (s.cuttingCompare n live other).flt = s.flt ∧
    (s.cuttingCompare n live other).cal = s.cal ∧ (s.cuttingCompare n live other).gauge = s.gauge ∧
    (s.cuttingCompare n live other).mod = s.mod ∧ (s.cuttingCompare n live other).clk = s.clk ∧
    (s.cuttingCompare n live other).boot = s.boot := by
  simp [State.ite_kept .., State.modTwin, State.cuttingCompare, State.countTwin_kept ..]
theorem State.lineAck_kept (s : State) (n : Nat) (b : Nat) (line : Nat) :
    (s.lineAck n b line).now = s.now ∧ (s.lineAck n b line).pending = s.pending ∧
    (s.lineAck n b line).answer = s.answer ∧ (s.lineAck n b line).emits = s.emits ∧
    (s.lineAck n b line).fresh = s.fresh ∧ (s.lineAck n b line).links = s.links ∧ (s.lineAck n b line).shed = s.shed ∧
    (s.lineAck n b line).copy = s.copy ∧ (s.lineAck n b line).fwd = s.fwd ∧ (s.lineAck n b line).rings = s.rings ∧
    (s.lineAck n b line).egr = s.egr ∧ (s.lineAck n b line).alm = s.alm ∧ (s.lineAck n b line).allots = s.allots ∧
    (s.lineAck n b line).irq = s.irq ∧ (s.lineAck n b line).mem = s.mem ∧ (s.lineAck n b line).flt = s.flt ∧
    (s.lineAck n b line).cal = s.cal ∧ (s.lineAck n b line).gauge = s.gauge ∧ (s.lineAck n b line).mod = s.mod ∧
    (s.lineAck n b line).clk = s.clk ∧ (s.lineAck n b line).boot = s.boot := by
  simp [State.ite_kept .., State.modFeed, State.lineAck]
theorem State.sweepPeers_kept (s : State) :
    s.sweepPeers.now = s.now ∧ s.sweepPeers.pending = s.pending ∧ s.sweepPeers.answer = s.answer ∧
    s.sweepPeers.emits = s.emits ∧ s.sweepPeers.fresh = s.fresh ∧ s.sweepPeers.links = s.links ∧
    s.sweepPeers.shed = s.shed ∧ s.sweepPeers.copy = s.copy ∧ s.sweepPeers.fwd = s.fwd ∧
    s.sweepPeers.rings = s.rings ∧ s.sweepPeers.allots = s.allots ∧ s.sweepPeers.irq = s.irq ∧
    s.sweepPeers.mem = s.mem ∧ s.sweepPeers.flt = s.flt ∧ s.sweepPeers.cal = s.cal ∧ s.sweepPeers.gauge = s.gauge ∧
    s.sweepPeers.mod = s.mod ∧ s.sweepPeers.clk = s.clk ∧ s.sweepPeers.boot = s.boot := by
  simp [State.ite_kept .., State.sweepPeers, State.setCfgN_kept ..]

/-! ## Decoding.lean -/

theorem State.countDec_kept (s : State) (n : Nat) (i : Nat) (k : Nat) :
    (s.countDec n i k).now = s.now ∧ (s.countDec n i k).pending = s.pending ∧ (s.countDec n i k).answer = s.answer ∧
    (s.countDec n i k).emits = s.emits ∧ (s.countDec n i k).fresh = s.fresh ∧ (s.countDec n i k).links = s.links ∧
    (s.countDec n i k).shed = s.shed ∧ (s.countDec n i k).copy = s.copy ∧ (s.countDec n i k).fwd = s.fwd ∧
    (s.countDec n i k).rings = s.rings ∧ (s.countDec n i k).egr = s.egr ∧ (s.countDec n i k).alm = s.alm ∧
    (s.countDec n i k).allots = s.allots ∧ (s.countDec n i k).irq = s.irq ∧ (s.countDec n i k).mem = s.mem ∧
    (s.countDec n i k).flt = s.flt ∧ (s.countDec n i k).cal = s.cal ∧ (s.countDec n i k).gauge = s.gauge ∧
    (s.countDec n i k).mod = s.mod ∧ (s.countDec n i k).clk = s.clk ∧ (s.countDec n i k).boot = s.boot := by
  simp [State.modSlot, State.countDec]
theorem State.sendChunk_kept (s : State) (die : Nat) (n : Nat) (b : Nat) (label : Nat) :
    (s.sendChunk die n b label).now = s.now ∧ (s.sendChunk die n b label).pending = s.pending ∧
    (s.sendChunk die n b label).answer = s.answer ∧ (s.sendChunk die n b label).emits = s.emits ∧
    (s.sendChunk die n b label).fresh = s.fresh ∧ (s.sendChunk die n b label).shed = s.shed ∧
    (s.sendChunk die n b label).copy = s.copy ∧ (s.sendChunk die n b label).fwd = s.fwd ∧
    (s.sendChunk die n b label).rings = s.rings ∧ (s.sendChunk die n b label).egr = s.egr ∧
    (s.sendChunk die n b label).alm = s.alm ∧ (s.sendChunk die n b label).allots = s.allots ∧
    (s.sendChunk die n b label).irq = s.irq ∧ (s.sendChunk die n b label).mem = s.mem ∧
    (s.sendChunk die n b label).flt = s.flt ∧ (s.sendChunk die n b label).cal = s.cal ∧
    (s.sendChunk die n b label).gauge = s.gauge ∧ (s.sendChunk die n b label).mod = s.mod ∧
    (s.sendChunk die n b label).clk = s.clk ∧ (s.sendChunk die n b label).boot = s.boot := by
  simp [State.ite_kept .., State.sendChunk, State.modBed, State.hold_kept ..]
theorem State.intoBits_kept (s : State) (c : Nat) (label : Nat) :
    (s.intoBits c label).now = s.now ∧ (s.intoBits c label).pending = s.pending ∧
    (s.intoBits c label).answer = s.answer ∧ (s.intoBits c label).emits = s.emits ∧
    (s.intoBits c label).fresh = s.fresh ∧ (s.intoBits c label).shed = s.shed ∧
    (s.intoBits c label).copy = s.copy ∧ (s.intoBits c label).fwd = s.fwd ∧ (s.intoBits c label).rings = s.rings ∧
    (s.intoBits c label).egr = s.egr ∧ (s.intoBits c label).alm = s.alm ∧ (s.intoBits c label).allots = s.allots ∧
    (s.intoBits c label).irq = s.irq ∧ (s.intoBits c label).mem = s.mem ∧ (s.intoBits c label).flt = s.flt ∧
    (s.intoBits c label).cal = s.cal ∧ (s.intoBits c label).gauge = s.gauge ∧ (s.intoBits c label).mod = s.mod ∧
    (s.intoBits c label).clk = s.clk ∧ (s.intoBits c label).boot = s.boot := by
  simp only [State.intoBits]; (repeat' split) <;> simp [State.ite_kept .., State.modIntake, State.sendChunk_kept ..]
theorem State.lossMarker_kept (s : State) (c : Nat) :
    (s.lossMarker c).now = s.now ∧ (s.lossMarker c).pending = s.pending ∧ (s.lossMarker c).answer = s.answer ∧
    (s.lossMarker c).emits = s.emits ∧ (s.lossMarker c).fresh = s.fresh ∧ (s.lossMarker c).shed = s.shed ∧
    (s.lossMarker c).copy = s.copy ∧ (s.lossMarker c).fwd = s.fwd ∧ (s.lossMarker c).rings = s.rings ∧
    (s.lossMarker c).egr = s.egr ∧ (s.lossMarker c).alm = s.alm ∧ (s.lossMarker c).allots = s.allots ∧
    (s.lossMarker c).irq = s.irq ∧ (s.lossMarker c).mem = s.mem ∧ (s.lossMarker c).flt = s.flt ∧
    (s.lossMarker c).cal = s.cal ∧ (s.lossMarker c).gauge = s.gauge ∧ (s.lossMarker c).mod = s.mod ∧
    (s.lossMarker c).clk = s.clk ∧ (s.lossMarker c).boot = s.boot := by
  simp [State.ite_kept .., State.lossMarker, State.intoBits_kept ..]
theorem State.endAu_kept (s : State) (c : Nat) :
    (s.endAu c).now = s.now ∧ (s.endAu c).pending = s.pending ∧ (s.endAu c).answer = s.answer ∧
    (s.endAu c).emits = s.emits ∧ (s.endAu c).fresh = s.fresh ∧ (s.endAu c).links = s.links ∧
    (s.endAu c).shed = s.shed ∧ (s.endAu c).copy = s.copy ∧ (s.endAu c).fwd = s.fwd ∧ (s.endAu c).rings = s.rings ∧
    (s.endAu c).egr = s.egr ∧ (s.endAu c).alm = s.alm ∧ (s.endAu c).allots = s.allots ∧ (s.endAu c).irq = s.irq ∧
    (s.endAu c).mem = s.mem ∧ (s.endAu c).flt = s.flt ∧ (s.endAu c).cal = s.cal ∧ (s.endAu c).gauge = s.gauge ∧
    (s.endAu c).mod = s.mod ∧ (s.endAu c).clk = s.clk ∧ (s.endAu c).boot = s.boot := by
  simp [State.modIntake, State.endAu]
theorem State.openAu_kept (s : State) (c : Nat) (n : Nat) (at_ : Nat) (ts : BitVec 32) :
    (s.openAu c n at_ ts).now = s.now ∧ (s.openAu c n at_ ts).pending = s.pending ∧
    (s.openAu c n at_ ts).answer = s.answer ∧ (s.openAu c n at_ ts).emits = s.emits ∧
    (s.openAu c n at_ ts).fresh = s.fresh ∧ (s.openAu c n at_ ts).links = s.links ∧
    (s.openAu c n at_ ts).shed = s.shed ∧ (s.openAu c n at_ ts).copy = s.copy ∧ (s.openAu c n at_ ts).fwd = s.fwd ∧
    (s.openAu c n at_ ts).rings = s.rings ∧ (s.openAu c n at_ ts).egr = s.egr ∧ (s.openAu c n at_ ts).alm = s.alm ∧
    (s.openAu c n at_ ts).allots = s.allots ∧ (s.openAu c n at_ ts).irq = s.irq ∧ (s.openAu c n at_ ts).mem = s.mem ∧
    (s.openAu c n at_ ts).flt = s.flt ∧ (s.openAu c n at_ ts).cal = s.cal ∧ (s.openAu c n at_ ts).gauge = s.gauge ∧
    (s.openAu c n at_ ts).mod = s.mod ∧ (s.openAu c n at_ ts).clk = s.clk ∧ (s.openAu c n at_ ts).boot = s.boot := by
  simp [State.ite_kept .., State.modIntake, State.openAu, State.countDec_kept ..]
theorem State.auData_kept (s : State) (c : Nat) (n : Nat) (at_ : Nat) (ts : BitVec 32) (starts : Bool) (lost : Bool) (label : Nat) :
    (s.auData c n at_ ts starts lost label).now = s.now ∧
    (s.auData c n at_ ts starts lost label).pending = s.pending ∧
    (s.auData c n at_ ts starts lost label).answer = s.answer ∧
    (s.auData c n at_ ts starts lost label).emits = s.emits ∧
    (s.auData c n at_ ts starts lost label).fresh = s.fresh ∧
    (s.auData c n at_ ts starts lost label).shed = s.shed ∧
    (s.auData c n at_ ts starts lost label).copy = s.copy ∧ (s.auData c n at_ ts starts lost label).fwd = s.fwd ∧
    (s.auData c n at_ ts starts lost label).rings = s.rings ∧
    (s.auData c n at_ ts starts lost label).egr = s.egr ∧ (s.auData c n at_ ts starts lost label).alm = s.alm ∧
    (s.auData c n at_ ts starts lost label).allots = s.allots ∧
    (s.auData c n at_ ts starts lost label).irq = s.irq ∧ (s.auData c n at_ ts starts lost label).mem = s.mem ∧
    (s.auData c n at_ ts starts lost label).flt = s.flt ∧ (s.auData c n at_ ts starts lost label).cal = s.cal ∧
    (s.auData c n at_ ts starts lost label).gauge = s.gauge ∧
    (s.auData c n at_ ts starts lost label).mod = s.mod ∧ (s.auData c n at_ ts starts lost label).clk = s.clk ∧
    (s.auData c n at_ ts starts lost label).boot = s.boot := by
  simp [State.ite_kept .., State.auData, State.endAu_kept .., State.openAu_kept .., State.lossMarker_kept ..,
  State.intoBits_kept ..]
theorem State.auRtp_kept (s : State) (c : Nat) (n : Nat) (at_ : Nat) (p : IntakePkt) :
    (s.auRtp c n at_ p).now = s.now ∧ (s.auRtp c n at_ p).pending = s.pending ∧
    (s.auRtp c n at_ p).answer = s.answer ∧ (s.auRtp c n at_ p).emits = s.emits ∧
    (s.auRtp c n at_ p).fresh = s.fresh ∧ (s.auRtp c n at_ p).shed = s.shed ∧ (s.auRtp c n at_ p).copy = s.copy ∧
    (s.auRtp c n at_ p).fwd = s.fwd ∧ (s.auRtp c n at_ p).rings = s.rings ∧ (s.auRtp c n at_ p).egr = s.egr ∧
    (s.auRtp c n at_ p).alm = s.alm ∧ (s.auRtp c n at_ p).allots = s.allots ∧ (s.auRtp c n at_ p).irq = s.irq ∧
    (s.auRtp c n at_ p).mem = s.mem ∧ (s.auRtp c n at_ p).flt = s.flt ∧ (s.auRtp c n at_ p).cal = s.cal ∧
    (s.auRtp c n at_ p).gauge = s.gauge ∧ (s.auRtp c n at_ p).mod = s.mod ∧ (s.auRtp c n at_ p).clk = s.clk ∧
    (s.auRtp c n at_ p).boot = s.boot := by
  simp [State.ite_kept .., State.auRtp, State.countDec_kept .., State.auData_kept .., State.endAu_kept ..]
theorem State.auTs_kept (s : State) (c : Nat) (n : Nat) (at_ : Nat) (ts : BitVec 32) (t : TsPkt) :
    (s.auTs c n at_ ts t).now = s.now ∧ (s.auTs c n at_ ts t).pending = s.pending ∧
    (s.auTs c n at_ ts t).answer = s.answer ∧ (s.auTs c n at_ ts t).emits = s.emits ∧
    (s.auTs c n at_ ts t).fresh = s.fresh ∧ (s.auTs c n at_ ts t).shed = s.shed ∧
    (s.auTs c n at_ ts t).copy = s.copy ∧ (s.auTs c n at_ ts t).fwd = s.fwd ∧
    (s.auTs c n at_ ts t).rings = s.rings ∧ (s.auTs c n at_ ts t).egr = s.egr ∧
    (s.auTs c n at_ ts t).alm = s.alm ∧ (s.auTs c n at_ ts t).allots = s.allots ∧
    (s.auTs c n at_ ts t).irq = s.irq ∧ (s.auTs c n at_ ts t).mem = s.mem ∧ (s.auTs c n at_ ts t).flt = s.flt ∧
    (s.auTs c n at_ ts t).cal = s.cal ∧ (s.auTs c n at_ ts t).gauge = s.gauge ∧
    (s.auTs c n at_ ts t).mod = s.mod ∧ (s.auTs c n at_ ts t).clk = s.clk ∧ (s.auTs c n at_ ts t).boot = s.boot := by
  simp only [State.auTs]; (repeat' split) <;> simp [State.ite_kept .., State.modIntake, State.countDec_kept ..,
  State.auData_kept ..]
theorem State.auPacket_kept (s : State) (c : Nat) (at_ : Nat) (p : IntakePkt) :
    (s.auPacket c at_ p).now = s.now ∧ (s.auPacket c at_ p).pending = s.pending ∧
    (s.auPacket c at_ p).answer = s.answer ∧ (s.auPacket c at_ p).emits = s.emits ∧
    (s.auPacket c at_ p).fresh = s.fresh ∧ (s.auPacket c at_ p).shed = s.shed ∧
    (s.auPacket c at_ p).copy = s.copy ∧ (s.auPacket c at_ p).fwd = s.fwd ∧ (s.auPacket c at_ p).rings = s.rings ∧
    (s.auPacket c at_ p).egr = s.egr ∧ (s.auPacket c at_ p).alm = s.alm ∧ (s.auPacket c at_ p).allots = s.allots ∧
    (s.auPacket c at_ p).irq = s.irq ∧ (s.auPacket c at_ p).mem = s.mem ∧ (s.auPacket c at_ p).flt = s.flt ∧
    (s.auPacket c at_ p).cal = s.cal ∧ (s.auPacket c at_ p).gauge = s.gauge ∧ (s.auPacket c at_ p).mod = s.mod ∧
    (s.auPacket c at_ p).clk = s.clk ∧ (s.auPacket c at_ p).boot = s.boot := by
  simp only [State.auPacket]; (repeat' split) <;> simp [State.ite_kept .., State.auRtp_kept .., State.auTs_kept ..,
  State.endAu_kept ..]
theorem State.drainAu_kept (s : State) (c : Nat) :
    (s.drainAu c).now = s.now ∧ (s.drainAu c).pending = s.pending ∧ (s.drainAu c).answer = s.answer ∧
    (s.drainAu c).emits = s.emits ∧ (s.drainAu c).fresh = s.fresh ∧ (s.drainAu c).shed = s.shed ∧
    (s.drainAu c).copy = s.copy ∧ (s.drainAu c).fwd = s.fwd ∧ (s.drainAu c).rings = s.rings ∧
    (s.drainAu c).egr = s.egr ∧ (s.drainAu c).alm = s.alm ∧ (s.drainAu c).allots = s.allots ∧
    (s.drainAu c).irq = s.irq ∧ (s.drainAu c).mem = s.mem ∧ (s.drainAu c).flt = s.flt ∧
    (s.drainAu c).cal = s.cal ∧ (s.drainAu c).gauge = s.gauge ∧ (s.drainAu c).mod = s.mod ∧
    (s.drainAu c).clk = s.clk ∧ (s.drainAu c).boot = s.boot := by
  simp [State.ite_kept .., State.drainAu, State.modIntake, State.auPacket_kept ..]
theorem State.compressedPacket_kept (s : State) (c : Nat) (p : IntakePkt) :
    (s.compressedPacket c p).now = s.now ∧ (s.compressedPacket c p).pending = s.pending ∧
    (s.compressedPacket c p).answer = s.answer ∧ (s.compressedPacket c p).emits = s.emits ∧
    (s.compressedPacket c p).fresh = s.fresh ∧ (s.compressedPacket c p).shed = s.shed ∧
    (s.compressedPacket c p).copy = s.copy ∧ (s.compressedPacket c p).fwd = s.fwd ∧
    (s.compressedPacket c p).rings = s.rings ∧ (s.compressedPacket c p).egr = s.egr ∧
    (s.compressedPacket c p).alm = s.alm ∧ (s.compressedPacket c p).allots = s.allots ∧
    (s.compressedPacket c p).irq = s.irq ∧ (s.compressedPacket c p).mem = s.mem ∧
    (s.compressedPacket c p).flt = s.flt ∧ (s.compressedPacket c p).cal = s.cal ∧
    (s.compressedPacket c p).gauge = s.gauge ∧ (s.compressedPacket c p).mod = s.mod ∧
    (s.compressedPacket c p).clk = s.clk ∧ (s.compressedPacket c p).boot = s.boot := by
  simp [State.ite_kept .., State.compressedPacket, State.modIntake, State.drainAu_kept ..]
theorem State.gapClosed_kept (s : State) (c : Nat) :
    (s.gapClosed c).now = s.now ∧ (s.gapClosed c).pending = s.pending ∧ (s.gapClosed c).answer = s.answer ∧
    (s.gapClosed c).emits = s.emits ∧ (s.gapClosed c).fresh = s.fresh ∧ (s.gapClosed c).shed = s.shed ∧
    (s.gapClosed c).copy = s.copy ∧ (s.gapClosed c).fwd = s.fwd ∧ (s.gapClosed c).rings = s.rings ∧
    (s.gapClosed c).egr = s.egr ∧ (s.gapClosed c).alm = s.alm ∧ (s.gapClosed c).allots = s.allots ∧
    (s.gapClosed c).irq = s.irq ∧ (s.gapClosed c).mem = s.mem ∧ (s.gapClosed c).flt = s.flt ∧
    (s.gapClosed c).cal = s.cal ∧ (s.gapClosed c).gauge = s.gauge ∧ (s.gapClosed c).mod = s.mod ∧
    (s.gapClosed c).clk = s.clk ∧ (s.gapClosed c).boot = s.boot := by
  simp [State.ite_kept .., State.gapClosed, State.modIntake, State.releaseLines_kept ..,
  State.measureOffset_kept .., State.lossMarker_kept .., State.drainAu_kept ..]
theorem State.auSlotEnd_kept (s : State) (c : Nat) :
    (s.auSlotEnd c).now = s.now ∧ (s.auSlotEnd c).pending = s.pending ∧ (s.auSlotEnd c).answer = s.answer ∧
    (s.auSlotEnd c).emits = s.emits ∧ (s.auSlotEnd c).fresh = s.fresh ∧ (s.auSlotEnd c).shed = s.shed ∧
    (s.auSlotEnd c).copy = s.copy ∧ (s.auSlotEnd c).fwd = s.fwd ∧ (s.auSlotEnd c).rings = s.rings ∧
    (s.auSlotEnd c).egr = s.egr ∧ (s.auSlotEnd c).alm = s.alm ∧ (s.auSlotEnd c).allots = s.allots ∧
    (s.auSlotEnd c).irq = s.irq ∧ (s.auSlotEnd c).mem = s.mem ∧ (s.auSlotEnd c).flt = s.flt ∧
    (s.auSlotEnd c).cal = s.cal ∧ (s.auSlotEnd c).gauge = s.gauge ∧ (s.auSlotEnd c).mod = s.mod ∧
    (s.auSlotEnd c).clk = s.clk ∧ (s.auSlotEnd c).boot = s.boot := by
  simp only [State.auSlotEnd]; (repeat' split) <;> simp [State.ite_kept .., State.lossMarker_kept ..,
  State.endAu_kept ..]
theorem State.sendEssence_kept (s : State) (die : Nat) (n : Nat) (b : Nat) (instant : Nat) (label : Nat) :
    (s.sendEssence die n b instant label).now = s.now ∧
    (s.sendEssence die n b instant label).pending = s.pending ∧
    (s.sendEssence die n b instant label).answer = s.answer ∧
    (s.sendEssence die n b instant label).fresh = s.fresh ∧ (s.sendEssence die n b instant label).shed = s.shed ∧
    (s.sendEssence die n b instant label).copy = s.copy ∧ (s.sendEssence die n b instant label).fwd = s.fwd ∧
    (s.sendEssence die n b instant label).rings = s.rings ∧ (s.sendEssence die n b instant label).str = s.str ∧
    (s.sendEssence die n b instant label).egr = s.egr ∧ (s.sendEssence die n b instant label).alm = s.alm ∧
    (s.sendEssence die n b instant label).allots = s.allots ∧ (s.sendEssence die n b instant label).irq = s.irq ∧
    (s.sendEssence die n b instant label).mem = s.mem ∧ (s.sendEssence die n b instant label).flt = s.flt ∧
    (s.sendEssence die n b instant label).cal = s.cal ∧ (s.sendEssence die n b instant label).gauge = s.gauge ∧
    (s.sendEssence die n b instant label).mod = s.mod ∧ (s.sendEssence die n b instant label).clk = s.clk ∧
    (s.sendEssence die n b instant label).boot = s.boot := by
  simp [State.ite_kept .., State.sendEssence, State.hold_kept .., State.emit_kept ..]
theorem State.attached_kept (s : State) (c : Nat) (n : Nat) (instant : Nat) (label : Nat) :
    (s.attached c n instant label).now = s.now ∧ (s.attached c n instant label).pending = s.pending ∧
    (s.attached c n instant label).answer = s.answer ∧ (s.attached c n instant label).fresh = s.fresh ∧
    (s.attached c n instant label).shed = s.shed ∧ (s.attached c n instant label).copy = s.copy ∧
    (s.attached c n instant label).fwd = s.fwd ∧ (s.attached c n instant label).rings = s.rings ∧
    (s.attached c n instant label).egr = s.egr ∧ (s.attached c n instant label).alm = s.alm ∧
    (s.attached c n instant label).allots = s.allots ∧ (s.attached c n instant label).irq = s.irq ∧
    (s.attached c n instant label).mem = s.mem ∧ (s.attached c n instant label).flt = s.flt ∧
    (s.attached c n instant label).cal = s.cal ∧ (s.attached c n instant label).gauge = s.gauge ∧
    (s.attached c n instant label).mod = s.mod ∧ (s.attached c n instant label).clk = s.clk ∧
    (s.attached c n instant label).boot = s.boot := by
  simp [State.ite_kept .., State.attached, State.modIntake, State.sendEssence_kept ..]
theorem State.attachAnc_kept (s : State) (c : Nat) (n : Nat) (k : Nat) (p : IntakePkt) :
    (s.attachAnc c n k p).now = s.now ∧ (s.attachAnc c n k p).pending = s.pending ∧
    (s.attachAnc c n k p).answer = s.answer ∧ (s.attachAnc c n k p).fresh = s.fresh ∧
    (s.attachAnc c n k p).shed = s.shed ∧ (s.attachAnc c n k p).copy = s.copy ∧
    (s.attachAnc c n k p).fwd = s.fwd ∧ (s.attachAnc c n k p).rings = s.rings ∧
    (s.attachAnc c n k p).egr = s.egr ∧ (s.attachAnc c n k p).alm = s.alm ∧
    (s.attachAnc c n k p).allots = s.allots ∧ (s.attachAnc c n k p).irq = s.irq ∧
    (s.attachAnc c n k p).mem = s.mem ∧ (s.attachAnc c n k p).flt = s.flt ∧ (s.attachAnc c n k p).cal = s.cal ∧
    (s.attachAnc c n k p).gauge = s.gauge ∧ (s.attachAnc c n k p).mod = s.mod ∧
    (s.attachAnc c n k p).clk = s.clk ∧ (s.attachAnc c n k p).boot = s.boot := by
  simp [State.ite_kept .., State.attachAnc, State.modSlot, State.countSlot_kept .., State.attached_kept ..]
theorem State.attachAudio_kept (s : State) (c : Nat) (n : Nat) (k : Nat) (p : IntakePkt) :
    (s.attachAudio c n k p).now = s.now ∧ (s.attachAudio c n k p).pending = s.pending ∧
    (s.attachAudio c n k p).answer = s.answer ∧ (s.attachAudio c n k p).fresh = s.fresh ∧
    (s.attachAudio c n k p).shed = s.shed ∧ (s.attachAudio c n k p).copy = s.copy ∧
    (s.attachAudio c n k p).fwd = s.fwd ∧ (s.attachAudio c n k p).rings = s.rings ∧
    (s.attachAudio c n k p).egr = s.egr ∧ (s.attachAudio c n k p).alm = s.alm ∧
    (s.attachAudio c n k p).allots = s.allots ∧ (s.attachAudio c n k p).irq = s.irq ∧
    (s.attachAudio c n k p).mem = s.mem ∧ (s.attachAudio c n k p).flt = s.flt ∧
    (s.attachAudio c n k p).cal = s.cal ∧ (s.attachAudio c n k p).gauge = s.gauge ∧
    (s.attachAudio c n k p).mod = s.mod ∧ (s.attachAudio c n k p).clk = s.clk ∧
    (s.attachAudio c n k p).boot = s.boot := by
  simp only [State.attachAudio]; (repeat' split) <;> simp [State.ite_kept .., State.modSlot,
  State.countSlot_kept .., State.attached_kept ..]
theorem State.attachTo_kept (s : State) (c : Nat) (n : Nat) (p : IntakePkt) :
    (s.attachTo c n p).now = s.now ∧ (s.attachTo c n p).pending = s.pending ∧
    (s.attachTo c n p).answer = s.answer ∧ (s.attachTo c n p).fresh = s.fresh ∧ (s.attachTo c n p).shed = s.shed ∧
    (s.attachTo c n p).copy = s.copy ∧ (s.attachTo c n p).fwd = s.fwd ∧ (s.attachTo c n p).rings = s.rings ∧
    (s.attachTo c n p).egr = s.egr ∧ (s.attachTo c n p).alm = s.alm ∧ (s.attachTo c n p).allots = s.allots ∧
    (s.attachTo c n p).irq = s.irq ∧ (s.attachTo c n p).mem = s.mem ∧ (s.attachTo c n p).flt = s.flt ∧
    (s.attachTo c n p).cal = s.cal ∧ (s.attachTo c n p).gauge = s.gauge ∧ (s.attachTo c n p).mod = s.mod ∧
    (s.attachTo c n p).clk = s.clk ∧ (s.attachTo c n p).boot = s.boot := by
  simp only [State.attachTo]; (repeat' split) <;> simp [State.ite_kept .., State.attachAnc_kept ..,
  State.attachAudio_kept ..]
theorem State.attach_kept (s : State) (c : Nat) (p : IntakePkt) :
    (s.attach c p).now = s.now ∧ (s.attach c p).pending = s.pending ∧ (s.attach c p).answer = s.answer ∧
    (s.attach c p).fresh = s.fresh ∧ (s.attach c p).shed = s.shed ∧ (s.attach c p).copy = s.copy ∧
    (s.attach c p).fwd = s.fwd ∧ (s.attach c p).rings = s.rings ∧ (s.attach c p).egr = s.egr ∧
    (s.attach c p).alm = s.alm ∧ (s.attach c p).allots = s.allots ∧ (s.attach c p).irq = s.irq ∧
    (s.attach c p).mem = s.mem ∧ (s.attach c p).flt = s.flt ∧ (s.attach c p).cal = s.cal ∧
    (s.attach c p).gauge = s.gauge ∧ (s.attach c p).mod = s.mod ∧ (s.attach c p).clk = s.clk ∧
    (s.attach c p).boot = s.boot := by
  simp [State.ite_kept .., State.attach, State.attachTo_kept ..]
theorem State.intakeTakes_kept (s : State) (c : Nat) (leg : Nat) (chain : Nat) (p : IntakePkt) :
    (s.intakeTakes c leg chain p).now = s.now ∧ (s.intakeTakes c leg chain p).pending = s.pending ∧
    (s.intakeTakes c leg chain p).answer = s.answer ∧ (s.intakeTakes c leg chain p).fresh = s.fresh ∧
    (s.intakeTakes c leg chain p).shed = s.shed ∧ (s.intakeTakes c leg chain p).copy = s.copy ∧
    (s.intakeTakes c leg chain p).fwd = s.fwd ∧ (s.intakeTakes c leg chain p).rings = s.rings ∧
    (s.intakeTakes c leg chain p).allots = s.allots ∧ (s.intakeTakes c leg chain p).irq = s.irq ∧
    (s.intakeTakes c leg chain p).mem = s.mem ∧ (s.intakeTakes c leg chain p).flt = s.flt ∧
    (s.intakeTakes c leg chain p).cal = s.cal ∧ (s.intakeTakes c leg chain p).gauge = s.gauge ∧
    (s.intakeTakes c leg chain p).mod = s.mod ∧ (s.intakeTakes c leg chain p).clk = s.clk ∧
    (s.intakeTakes c leg chain p).boot = s.boot := by
  simp only [State.intakeTakes]; (repeat' split) <;> simp [State.ite_kept .., State.modIntake, State.attach_kept ..,
  State.legSeen_kept .., State.countIntake_kept .., State.rasterPacket_kept .., State.compressedPacket_kept ..,
  State.dropRef_kept ..]
theorem State.pictureTimeout_kept (s : State) (c : Nat) :
    (s.pictureTimeout c).now = s.now ∧ (s.pictureTimeout c).pending = s.pending ∧
    (s.pictureTimeout c).answer = s.answer ∧ (s.pictureTimeout c).emits = s.emits ∧
    (s.pictureTimeout c).fresh = s.fresh ∧ (s.pictureTimeout c).links = s.links ∧ (s.pictureTimeout c).shed = s.shed ∧
    (s.pictureTimeout c).copy = s.copy ∧ (s.pictureTimeout c).fwd = s.fwd ∧ (s.pictureTimeout c).rings = s.rings ∧
    (s.pictureTimeout c).allots = s.allots ∧ (s.pictureTimeout c).irq = s.irq ∧ (s.pictureTimeout c).mem = s.mem ∧
    (s.pictureTimeout c).flt = s.flt ∧ (s.pictureTimeout c).cal = s.cal ∧ (s.pictureTimeout c).gauge = s.gauge ∧
    (s.pictureTimeout c).mod = s.mod ∧ (s.pictureTimeout c).clk = s.clk ∧ (s.pictureTimeout c).boot = s.boot := by
  simp [State.ite_kept .., State.pictureTimeout, State.endPicture_kept ..]
theorem State.missingPicture_kept (s : State) (c : Nat) :
    (s.missingPicture c).now = s.now ∧ (s.missingPicture c).pending = s.pending ∧
    (s.missingPicture c).answer = s.answer ∧ (s.missingPicture c).emits = s.emits ∧
    (s.missingPicture c).fresh = s.fresh ∧ (s.missingPicture c).links = s.links ∧
    (s.missingPicture c).shed = s.shed ∧ (s.missingPicture c).copy = s.copy ∧ (s.missingPicture c).fwd = s.fwd ∧
    (s.missingPicture c).rings = s.rings ∧ (s.missingPicture c).egr = s.egr ∧
    (s.missingPicture c).allots = s.allots ∧ (s.missingPicture c).irq = s.irq ∧ (s.missingPicture c).mem = s.mem ∧
    (s.missingPicture c).flt = s.flt ∧ (s.missingPicture c).cal = s.cal ∧ (s.missingPicture c).gauge = s.gauge ∧
    (s.missingPicture c).mod = s.mod ∧ (s.missingPicture c).clk = s.clk ∧ (s.missingPicture c).boot = s.boot := by
  simp [State.ite_kept .., State.missingPicture, State.modIntake, State.countIntake_kept ..,
  State.applyIntake_kept .., State.repeatPicture_kept ..]
theorem State.modDec_kept (s : State) (n : Nat) (f : Dec → Dec) :
    (s.modDec n f).now = s.now ∧ (s.modDec n f).pending = s.pending ∧ (s.modDec n f).answer = s.answer ∧
    (s.modDec n f).emits = s.emits ∧ (s.modDec n f).fresh = s.fresh ∧ (s.modDec n f).links = s.links ∧
    (s.modDec n f).shed = s.shed ∧ (s.modDec n f).copy = s.copy ∧ (s.modDec n f).fwd = s.fwd ∧
    (s.modDec n f).rings = s.rings ∧ (s.modDec n f).egr = s.egr ∧ (s.modDec n f).alm = s.alm ∧
    (s.modDec n f).allots = s.allots ∧ (s.modDec n f).irq = s.irq ∧ (s.modDec n f).mem = s.mem ∧
    (s.modDec n f).flt = s.flt ∧ (s.modDec n f).cal = s.cal ∧ (s.modDec n f).gauge = s.gauge ∧
    (s.modDec n f).mod = s.mod ∧ (s.modDec n f).clk = s.clk ∧ (s.modDec n f).boot = s.boot := by
  simp [State.modSlot, State.modDec]
theorem State.setSync_kept (s : State) (n : Nat) (v : Bool) :
    (s.setSync n v).now = s.now ∧ (s.setSync n v).pending = s.pending ∧ (s.setSync n v).answer = s.answer ∧
    (s.setSync n v).fresh = s.fresh ∧ (s.setSync n v).links = s.links ∧ (s.setSync n v).shed = s.shed ∧
    (s.setSync n v).copy = s.copy ∧ (s.setSync n v).fwd = s.fwd ∧ (s.setSync n v).rings = s.rings ∧
    (s.setSync n v).egr = s.egr ∧ (s.setSync n v).alm = s.alm ∧ (s.setSync n v).mem = s.mem ∧
    (s.setSync n v).flt = s.flt ∧ (s.setSync n v).cal = s.cal ∧ (s.setSync n v).gauge = s.gauge ∧
    (s.setSync n v).mod = s.mod ∧ (s.setSync n v).clk = s.clk ∧ (s.setSync n v).boot = s.boot := by
  simp [State.ite_kept .., State.setSync, State.modDec_kept .., State.raiseSlot_kept ..]
theorem State.setClean_kept (s : State) (n : Nat) (v : Bool) :
    (s.setClean n v).now = s.now ∧ (s.setClean n v).pending = s.pending ∧ (s.setClean n v).answer = s.answer ∧
    (s.setClean n v).fresh = s.fresh ∧ (s.setClean n v).links = s.links ∧ (s.setClean n v).shed = s.shed ∧
    (s.setClean n v).copy = s.copy ∧ (s.setClean n v).fwd = s.fwd ∧ (s.setClean n v).rings = s.rings ∧
    (s.setClean n v).egr = s.egr ∧ (s.setClean n v).alm = s.alm ∧ (s.setClean n v).mem = s.mem ∧
    (s.setClean n v).flt = s.flt ∧ (s.setClean n v).cal = s.cal ∧ (s.setClean n v).gauge = s.gauge ∧
    (s.setClean n v).mod = s.mod ∧ (s.setClean n v).clk = s.clk ∧ (s.setClean n v).boot = s.boot := by
  simp [State.ite_kept .., State.setClean, State.modDec_kept .., State.raiseSlot_kept ..]
theorem State.setMismatch_kept (s : State) (n : Nat) (v : Bool) :
    (s.setMismatch n v).now = s.now ∧ (s.setMismatch n v).pending = s.pending ∧
    (s.setMismatch n v).answer = s.answer ∧ (s.setMismatch n v).fresh = s.fresh ∧
    (s.setMismatch n v).links = s.links ∧ (s.setMismatch n v).shed = s.shed ∧ (s.setMismatch n v).copy = s.copy ∧
    (s.setMismatch n v).fwd = s.fwd ∧ (s.setMismatch n v).rings = s.rings ∧ (s.setMismatch n v).egr = s.egr ∧
    (s.setMismatch n v).alm = s.alm ∧ (s.setMismatch n v).mem = s.mem ∧ (s.setMismatch n v).flt = s.flt ∧
    (s.setMismatch n v).cal = s.cal ∧ (s.setMismatch n v).gauge = s.gauge ∧ (s.setMismatch n v).mod = s.mod ∧
    (s.setMismatch n v).clk = s.clk ∧ (s.setMismatch n v).boot = s.boot := by
  simp [State.ite_kept .., State.setMismatch, State.modDec_kept .., State.raiseSlot_kept ..]
theorem State.newSps_kept (s : State) (n : Nat) (q : Sps) :
    (s.newSps n q).now = s.now ∧ (s.newSps n q).pending = s.pending ∧ (s.newSps n q).answer = s.answer ∧
    (s.newSps n q).emits = s.emits ∧ (s.newSps n q).fresh = s.fresh ∧ (s.newSps n q).links = s.links ∧
    (s.newSps n q).shed = s.shed ∧ (s.newSps n q).copy = s.copy ∧ (s.newSps n q).fwd = s.fwd ∧
    (s.newSps n q).rings = s.rings ∧ (s.newSps n q).egr = s.egr ∧ (s.newSps n q).alm = s.alm ∧
    (s.newSps n q).allots = s.allots ∧ (s.newSps n q).irq = s.irq ∧ (s.newSps n q).mem = s.mem ∧
    (s.newSps n q).flt = s.flt ∧ (s.newSps n q).cal = s.cal ∧ (s.newSps n q).gauge = s.gauge ∧
    (s.newSps n q).mod = s.mod ∧ (s.newSps n q).clk = s.clk ∧ (s.newSps n q).boot = s.boot := by
  simp [State.ite_kept .., State.newSps, State.modDec_kept ..]
theorem State.auStart_kept (s : State) (n : Nat) (tag : Option Nat) (poc : Nat) (sync : Bool) :
    (s.auStart n tag poc sync).now = s.now ∧ (s.auStart n tag poc sync).pending = s.pending ∧
    (s.auStart n tag poc sync).answer = s.answer ∧ (s.auStart n tag poc sync).links = s.links ∧
    (s.auStart n tag poc sync).shed = s.shed ∧ (s.auStart n tag poc sync).copy = s.copy ∧
    (s.auStart n tag poc sync).fwd = s.fwd ∧ (s.auStart n tag poc sync).rings = s.rings ∧
    (s.auStart n tag poc sync).egr = s.egr ∧ (s.auStart n tag poc sync).alm = s.alm ∧
    (s.auStart n tag poc sync).mem = s.mem ∧ (s.auStart n tag poc sync).flt = s.flt ∧
    (s.auStart n tag poc sync).cal = s.cal ∧ (s.auStart n tag poc sync).gauge = s.gauge ∧
    (s.auStart n tag poc sync).mod = s.mod ∧ (s.auStart n tag poc sync).clk = s.clk ∧
    (s.auStart n tag poc sync).boot = s.boot := by
  simp [State.ite_kept .., State.auStart, State.modSlot, State.modDec_kept .., State.setSync_kept ..,
  State.refresh_kept ..]
theorem State.charge_kept (s : State) (n : Nat) (ticks : Nat) :
    (s.charge n ticks).now = s.now ∧ (s.charge n ticks).pending = s.pending ∧ (s.charge n ticks).answer = s.answer ∧
    (s.charge n ticks).emits = s.emits ∧ (s.charge n ticks).fresh = s.fresh ∧ (s.charge n ticks).links = s.links ∧
    (s.charge n ticks).shed = s.shed ∧ (s.charge n ticks).copy = s.copy ∧ (s.charge n ticks).fwd = s.fwd ∧
    (s.charge n ticks).rings = s.rings ∧ (s.charge n ticks).egr = s.egr ∧ (s.charge n ticks).alm = s.alm ∧
    (s.charge n ticks).allots = s.allots ∧ (s.charge n ticks).irq = s.irq ∧ (s.charge n ticks).mem = s.mem ∧
    (s.charge n ticks).flt = s.flt ∧ (s.charge n ticks).cal = s.cal ∧ (s.charge n ticks).gauge = s.gauge ∧
    (s.charge n ticks).mod = s.mod ∧ (s.charge n ticks).clk = s.clk ∧ (s.charge n ticks).boot = s.boot := by
  simp [State.ite_kept .., State.charge, State.budgetHit_kept .., State.modDec_kept ..]
theorem State.conceal_kept (s : State) (n : Nat) (first : Nat) (last : Nat) :
    (s.conceal n first last).now = s.now ∧ (s.conceal n first last).pending = s.pending ∧
    (s.conceal n first last).answer = s.answer ∧ (s.conceal n first last).emits = s.emits ∧
    (s.conceal n first last).fresh = s.fresh ∧ (s.conceal n first last).links = s.links ∧
    (s.conceal n first last).shed = s.shed ∧ (s.conceal n first last).copy = s.copy ∧
    (s.conceal n first last).fwd = s.fwd ∧ (s.conceal n first last).rings = s.rings ∧
    (s.conceal n first last).egr = s.egr ∧ (s.conceal n first last).alm = s.alm ∧
    (s.conceal n first last).allots = s.allots ∧ (s.conceal n first last).irq = s.irq ∧
    (s.conceal n first last).mem = s.mem ∧ (s.conceal n first last).flt = s.flt ∧
    (s.conceal n first last).cal = s.cal ∧ (s.conceal n first last).gauge = s.gauge ∧
    (s.conceal n first last).mod = s.mod ∧ (s.conceal n first last).clk = s.clk ∧
    (s.conceal n first last).boot = s.boot := by
  simp [State.modSlot, State.conceal, State.countDec_kept ..]
theorem State.ctuDecoded_kept (s : State) (n : Nat) (ctu : Nat) (tainted : Bool) :
    (s.ctuDecoded n ctu tainted).now = s.now ∧ (s.ctuDecoded n ctu tainted).pending = s.pending ∧
    (s.ctuDecoded n ctu tainted).answer = s.answer ∧ (s.ctuDecoded n ctu tainted).emits = s.emits ∧
    (s.ctuDecoded n ctu tainted).fresh = s.fresh ∧ (s.ctuDecoded n ctu tainted).links = s.links ∧
    (s.ctuDecoded n ctu tainted).shed = s.shed ∧ (s.ctuDecoded n ctu tainted).copy = s.copy ∧
    (s.ctuDecoded n ctu tainted).fwd = s.fwd ∧ (s.ctuDecoded n ctu tainted).rings = s.rings ∧
    (s.ctuDecoded n ctu tainted).egr = s.egr ∧ (s.ctuDecoded n ctu tainted).alm = s.alm ∧
    (s.ctuDecoded n ctu tainted).allots = s.allots ∧ (s.ctuDecoded n ctu tainted).irq = s.irq ∧
    (s.ctuDecoded n ctu tainted).mem = s.mem ∧ (s.ctuDecoded n ctu tainted).flt = s.flt ∧
    (s.ctuDecoded n ctu tainted).cal = s.cal ∧ (s.ctuDecoded n ctu tainted).gauge = s.gauge ∧
    (s.ctuDecoded n ctu tainted).mod = s.mod ∧ (s.ctuDecoded n ctu tainted).clk = s.clk ∧
    (s.ctuDecoded n ctu tainted).boot = s.boot := by
  simp [State.ite_kept .., State.modSlot, State.ctuDecoded, State.countDec_kept .., State.modDec_kept ..]
theorem State.missingRef_kept (s : State) (n : Nat) (poc : Nat) :
    (s.missingRef n poc).now = s.now ∧ (s.missingRef n poc).pending = s.pending ∧
    (s.missingRef n poc).answer = s.answer ∧ (s.missingRef n poc).emits = s.emits ∧
    (s.missingRef n poc).fresh = s.fresh ∧ (s.missingRef n poc).links = s.links ∧ (s.missingRef n poc).shed = s.shed ∧
    (s.missingRef n poc).copy = s.copy ∧ (s.missingRef n poc).fwd = s.fwd ∧ (s.missingRef n poc).rings = s.rings ∧
    (s.missingRef n poc).egr = s.egr ∧ (s.missingRef n poc).alm = s.alm ∧ (s.missingRef n poc).allots = s.allots ∧
    (s.missingRef n poc).irq = s.irq ∧ (s.missingRef n poc).mem = s.mem ∧ (s.missingRef n poc).flt = s.flt ∧
    (s.missingRef n poc).cal = s.cal ∧ (s.missingRef n poc).gauge = s.gauge ∧ (s.missingRef n poc).mod = s.mod ∧
    (s.missingRef n poc).clk = s.clk ∧ (s.missingRef n poc).boot = s.boot := by
  simp [State.modSlot, State.missingRef, State.countDec_kept ..]
theorem State.auDecoded_kept (s : State) (n : Nat) (shows : Option Nat) (references : List Nat) :
    (s.auDecoded n shows references).now = s.now ∧ (s.auDecoded n shows references).pending = s.pending ∧
    (s.auDecoded n shows references).answer = s.answer ∧ (s.auDecoded n shows references).emits = s.emits ∧
    (s.auDecoded n shows references).fresh = s.fresh ∧ (s.auDecoded n shows references).links = s.links ∧
    (s.auDecoded n shows references).shed = s.shed ∧ (s.auDecoded n shows references).copy = s.copy ∧
    (s.auDecoded n shows references).fwd = s.fwd ∧ (s.auDecoded n shows references).rings = s.rings ∧
    (s.auDecoded n shows references).egr = s.egr ∧ (s.auDecoded n shows references).alm = s.alm ∧
    (s.auDecoded n shows references).allots = s.allots ∧ (s.auDecoded n shows references).irq = s.irq ∧
    (s.auDecoded n shows references).mem = s.mem ∧ (s.auDecoded n shows references).flt = s.flt ∧
    (s.auDecoded n shows references).cal = s.cal ∧ (s.auDecoded n shows references).gauge = s.gauge ∧
    (s.auDecoded n shows references).mod = s.mod ∧ (s.auDecoded n shows references).clk = s.clk ∧
    (s.auDecoded n shows references).boot = s.boot := by
  simp only [State.auDecoded]; split <;> simp [State.modSlot]
theorem State.fenceCheck_kept (s : State) (b : Nat) (n : Nat) (addr : Nat) :
    (s.fenceCheck b n addr).now = s.now ∧ (s.fenceCheck b n addr).pending = s.pending ∧
    (s.fenceCheck b n addr).answer = s.answer ∧ (s.fenceCheck b n addr).links = s.links ∧
    (s.fenceCheck b n addr).copy = s.copy ∧ (s.fenceCheck b n addr).rings = s.rings ∧
    (s.fenceCheck b n addr).boot = s.boot ∧ (s.fenceCheck b n addr).mem.exchange = s.mem.exchange ∧
    (s.fenceCheck b n addr).mem.areas = s.mem.areas := by
  simp [State.ite_kept .., State.modBed, State.fenceCheck, State.modDec_kept .., State.pulseFault_kept ..,
      State.raiseSlot_kept ..]
theorem State.digestOut_kept (s : State) (b : Nat) (n : Nat) (picture : Nat) (row : Nat) :
    (s.digestOut b n picture row).now = s.now ∧ (s.digestOut b n picture row).pending = s.pending ∧
    (s.digestOut b n picture row).answer = s.answer ∧ (s.digestOut b n picture row).fresh = s.fresh ∧
    (s.digestOut b n picture row).links = s.links ∧ (s.digestOut b n picture row).shed = s.shed ∧
    (s.digestOut b n picture row).copy = s.copy ∧ (s.digestOut b n picture row).fwd = s.fwd ∧
    (s.digestOut b n picture row).rings = s.rings ∧ (s.digestOut b n picture row).egr = s.egr ∧
    (s.digestOut b n picture row).alm = s.alm ∧ (s.digestOut b n picture row).allots = s.allots ∧
    (s.digestOut b n picture row).irq = s.irq ∧ (s.digestOut b n picture row).mem = s.mem ∧
    (s.digestOut b n picture row).flt = s.flt ∧ (s.digestOut b n picture row).cal = s.cal ∧
    (s.digestOut b n picture row).gauge = s.gauge ∧ (s.digestOut b n picture row).mod = s.mod ∧
    (s.digestOut b n picture row).clk = s.clk ∧ (s.digestOut b n picture row).boot = s.boot := by
  simp only [State.digestOut]; (repeat' split) <;> simp [State.ite_kept .., State.modSlot, State.emit_kept ..]
theorem State.keepRow_kept (s : State) (b : Nat) (n : Nat) (row : Nat) :
    (s.keepRow b n row).now = s.now ∧ (s.keepRow b n row).pending = s.pending ∧
    (s.keepRow b n row).answer = s.answer ∧ (s.keepRow b n row).emits = s.emits ∧
    (s.keepRow b n row).fresh = s.fresh ∧ (s.keepRow b n row).links = s.links ∧
    (s.keepRow b n row).shed = s.shed ∧ (s.keepRow b n row).copy = s.copy ∧ (s.keepRow b n row).fwd = s.fwd ∧
    (s.keepRow b n row).rings = s.rings ∧ (s.keepRow b n row).egr = s.egr ∧ (s.keepRow b n row).alm = s.alm ∧
    (s.keepRow b n row).allots = s.allots ∧ (s.keepRow b n row).irq = s.irq ∧ (s.keepRow b n row).mem = s.mem ∧
    (s.keepRow b n row).flt = s.flt ∧ (s.keepRow b n row).cal = s.cal ∧ (s.keepRow b n row).gauge = s.gauge ∧
    (s.keepRow b n row).mod = s.mod ∧ (s.keepRow b n row).clk = s.clk ∧ (s.keepRow b n row).boot = s.boot := by
  simp [State.ite_kept .., State.keepRow, State.modSlot]
theorem State.sendColumns_kept (s : State) (b : Nat) (data : List Byte) :
    (s.sendColumns b data).now = s.now ∧ (s.sendColumns b data).pending = s.pending ∧
    (s.sendColumns b data).answer = s.answer ∧ (s.sendColumns b data).emits = s.emits ∧
    (s.sendColumns b data).fresh = s.fresh ∧ (s.sendColumns b data).links = s.links ∧
    (s.sendColumns b data).shed = s.shed ∧ (s.sendColumns b data).copy = s.copy ∧
    (s.sendColumns b data).fwd = s.fwd ∧ (s.sendColumns b data).rings = s.rings ∧
    (s.sendColumns b data).egr = s.egr ∧ (s.sendColumns b data).alm = s.alm ∧
    (s.sendColumns b data).allots = s.allots ∧ (s.sendColumns b data).irq = s.irq ∧
    (s.sendColumns b data).mem = s.mem ∧ (s.sendColumns b data).flt = s.flt ∧ (s.sendColumns b data).cal = s.cal ∧
    (s.sendColumns b data).gauge = s.gauge ∧ (s.sendColumns b data).mod = s.mod ∧
    (s.sendColumns b data).clk = s.clk ∧ (s.sendColumns b data).boot = s.boot := by
  simp only [State.sendColumns]; (repeat' split) <;> simp [State.ite_kept .., State.modBed]
theorem State.slotReport_kept (s : State) (b : Nat) (e : BedEvent) :
    (s.slotReport b e).now = s.now ∧ (s.slotReport b e).pending = s.pending ∧
    (s.slotReport b e).answer = s.answer ∧ (s.slotReport b e).links = s.links ∧ (s.slotReport b e).shed = s.shed ∧
    (s.slotReport b e).copy = s.copy ∧ (s.slotReport b e).fwd = s.fwd ∧ (s.slotReport b e).rings = s.rings ∧
    (s.slotReport b e).mem = s.mem ∧ (s.slotReport b e).flt = s.flt ∧ (s.slotReport b e).cal = s.cal ∧
    (s.slotReport b e).gauge = s.gauge ∧ (s.slotReport b e).mod = s.mod ∧ (s.slotReport b e).clk = s.clk ∧
    (s.slotReport b e).boot = s.boot := by
  simp only [State.slotReport]; (repeat' split) <;> simp [State.ite_kept .., State.codeStart_kept ..,
  State.startRow_kept .., State.keepRow_kept .., State.bandDone_kept .., State.codeCtu_kept ..,
  State.modRate_kept .., State.codeEnd_kept .., State.modDec_kept .., State.conceal_kept ..,
  State.ctuDecoded_kept .., State.charge_kept .., State.missingRef_kept .., State.countDec_kept ..,
  State.newSps_kept .., State.auStart_kept .., State.auDecoded_kept .., State.sampleCoding_kept ..,
  State.digestOut_kept ..]
theorem State.ownReport_kept (s : State) (b : Nat) (e : BedEvent) :
    (s.ownReport b e).now = s.now ∧ (s.ownReport b e).pending = s.pending ∧ (s.ownReport b e).answer = s.answer ∧
    (s.ownReport b e).links = s.links ∧ (s.ownReport b e).copy = s.copy ∧ (s.ownReport b e).rings = s.rings ∧
    (s.ownReport b e).boot = s.boot ∧ (s.ownReport b e).mem.exchange = s.mem.exchange ∧
    (s.ownReport b e).mem.areas = s.mem.areas := by
  simp only [State.ownReport]; (repeat' split) <;> simp [State.ite_kept .., State.modBed,
  State.lastRowStarted_kept .., State.digestOut_kept .., State.sendColumns_kept .., State.fenceCheck_kept ..,
  State.selfCheck_kept ..]
theorem State.nextCtu_kept (s : State) (b : Nat) (k : BedEvent) :
    (s.nextCtu b k).now = s.now ∧ (s.nextCtu b k).pending = s.pending ∧ (s.nextCtu b k).answer = s.answer ∧
    (s.nextCtu b k).emits = s.emits ∧ (s.nextCtu b k).fresh = s.fresh ∧ (s.nextCtu b k).links = s.links ∧
    (s.nextCtu b k).shed = s.shed ∧ (s.nextCtu b k).copy = s.copy ∧ (s.nextCtu b k).fwd = s.fwd ∧
    (s.nextCtu b k).rings = s.rings ∧ (s.nextCtu b k).egr = s.egr ∧ (s.nextCtu b k).alm = s.alm ∧
    (s.nextCtu b k).allots = s.allots ∧ (s.nextCtu b k).irq = s.irq ∧ (s.nextCtu b k).mem = s.mem ∧
    (s.nextCtu b k).flt = s.flt ∧ (s.nextCtu b k).cal = s.cal ∧ (s.nextCtu b k).gauge = s.gauge ∧
    (s.nextCtu b k).mod = s.mod ∧ (s.nextCtu b k).clk = s.clk ∧ (s.nextCtu b k).boot = s.boot := by
  cases k <;> simp [State.ite_kept .., State.nextCtu, State.modBed]
theorem State.bedReport_kept (s : State) (b : Nat) (e : BedEvent) :
    (s.bedReport b e).now = s.now ∧ (s.bedReport b e).pending = s.pending ∧ (s.bedReport b e).answer = s.answer ∧
    (s.bedReport b e).links = s.links ∧ (s.bedReport b e).copy = s.copy ∧ (s.bedReport b e).rings = s.rings ∧
    (s.bedReport b e).boot = s.boot ∧ (s.bedReport b e).mem.exchange = s.mem.exchange ∧
    (s.bedReport b e).mem.areas = s.mem.areas := by
  simp only [State.bedReport]; (repeat' split) <;> simp [State.ite_kept .., State.modBed, State.ownReport_kept ..,
  State.slotReport_kept .., State.nextCtu_kept ..]
theorem State.retire_kept (s : State) (n : Nat) (conds : BitVec 64) (writes : List StoreWrite) (units : State → State)
    (h : ∀ t : State, (units t).now = t.now ∧
    (units t).pending = t.pending ∧
    (units t).answer = t.answer ∧
    (units t).links = t.links ∧
    (units t).copy = t.copy ∧
    (units t).rings = t.rings ∧
    (units t).boot = t.boot ∧
    (units t).mem.exchange = t.mem.exchange ∧
    (units t).mem.areas = t.mem.areas) :
    (s.retire n conds writes units).now = s.now ∧
    (s.retire n conds writes units).pending = s.pending ∧
    (s.retire n conds writes units).answer = s.answer ∧
    (s.retire n conds writes units).links = s.links ∧
    (s.retire n conds writes units).copy = s.copy ∧
    (s.retire n conds writes units).rings = s.rings ∧
    (s.retire n conds writes units).boot = s.boot ∧
    (s.retire n conds writes units).mem.exchange = s.mem.exchange ∧
    (s.retire n conds writes units).mem.areas = s.mem.areas := by
  simp only [State.retire]
  split
  · simp [State.modBed, State.leaveWord_kept .., State.tick_kept ..]
  · split <;> simp [State.modBed, h, State.leaveWord_kept .., State.tick_kept ..]
theorem State.wordRetires_kept (s : State) (b : Nat) (info : RetireInfo) :
    (s.wordRetires b info).now = s.now ∧ (s.wordRetires b info).pending = s.pending ∧
    (s.wordRetires b info).answer = s.answer ∧ (s.wordRetires b info).links = s.links ∧
    (s.wordRetires b info).copy = s.copy ∧ (s.wordRetires b info).rings = s.rings ∧
    (s.wordRetires b info).boot = s.boot ∧ (s.wordRetires b info).mem.exchange = s.mem.exchange ∧
    (s.wordRetires b info).mem.areas = s.mem.areas := by
  unfold State.wordRetires
  exact State.retire_kept _ _ _ _ _ (fun t => by split <;> simp [State.bedReport_kept .., State.pbPoint_kept ..])
theorem State.sendRow_kept (s : State) (oc : Nat) (n : Nat) (k : Nat) (row : Nat) :
    (s.sendRow oc n k row).now = s.now ∧ (s.sendRow oc n k row).pending = s.pending ∧
    (s.sendRow oc n k row).answer = s.answer ∧ (s.sendRow oc n k row).links = s.links ∧
    (s.sendRow oc n k row).shed = s.shed ∧ (s.sendRow oc n k row).copy = s.copy ∧
    (s.sendRow oc n k row).rings = s.rings ∧ (s.sendRow oc n k row).alm = s.alm ∧ (s.sendRow oc n k row).mem = s.mem ∧
    (s.sendRow oc n k row).flt = s.flt ∧ (s.sendRow oc n k row).cal = s.cal ∧ (s.sendRow oc n k row).gauge = s.gauge ∧
    (s.sendRow oc n k row).mod = s.mod ∧ (s.sendRow oc n k row).clk = s.clk ∧
    (s.sendRow oc n k row).boot = s.boot := by
  simp [State.ite_kept .., State.sendRow, State.sendOwn_kept ..]
theorem State.showStarts_kept (s : State) (die : Nat) (n : Nat) (k : Nat) (entry : Option (Nat × Nat × Bool)) (held : Bool) :
    (s.showStarts die n k entry held).now = s.now ∧ (s.showStarts die n k entry held).pending = s.pending ∧
    (s.showStarts die n k entry held).answer = s.answer ∧ (s.showStarts die n k entry held).fresh = s.fresh ∧
    (s.showStarts die n k entry held).links = s.links ∧ (s.showStarts die n k entry held).shed = s.shed ∧
    (s.showStarts die n k entry held).copy = s.copy ∧ (s.showStarts die n k entry held).fwd = s.fwd ∧
    (s.showStarts die n k entry held).rings = s.rings ∧ (s.showStarts die n k entry held).egr = s.egr ∧
    (s.showStarts die n k entry held).alm = s.alm ∧ (s.showStarts die n k entry held).mem = s.mem ∧
    (s.showStarts die n k entry held).flt = s.flt ∧ (s.showStarts die n k entry held).cal = s.cal ∧
    (s.showStarts die n k entry held).mod = s.mod ∧ (s.showStarts die n k entry held).clk = s.clk ∧
    (s.showStarts die n k entry held).boot = s.boot := by
  simp only [State.showStarts]; split <;> simp [State.ite_kept .., State.countDec_kept .., State.meterPicture_kept ..,
      State.modDec_kept ..,
      State.setMismatch_kept ..]
theorem State.showEnds_kept (s : State) (n : Nat) (k : Nat) (entry : Option (Nat × Nat × Bool)) :
    (s.showEnds n k entry).now = s.now ∧ (s.showEnds n k entry).pending = s.pending ∧
    (s.showEnds n k entry).answer = s.answer ∧ (s.showEnds n k entry).fresh = s.fresh ∧
    (s.showEnds n k entry).links = s.links ∧ (s.showEnds n k entry).shed = s.shed ∧
    (s.showEnds n k entry).copy = s.copy ∧ (s.showEnds n k entry).fwd = s.fwd ∧
    (s.showEnds n k entry).rings = s.rings ∧ (s.showEnds n k entry).egr = s.egr ∧ (s.showEnds n k entry).alm = s.alm ∧
    (s.showEnds n k entry).mem = s.mem ∧ (s.showEnds n k entry).flt = s.flt ∧ (s.showEnds n k entry).cal = s.cal ∧
    (s.showEnds n k entry).gauge = s.gauge ∧ (s.showEnds n k entry).mod = s.mod ∧ (s.showEnds n k entry).clk = s.clk ∧
    (s.showEnds n k entry).boot = s.boot := by
  simp only [State.showEnds]; split <;> simp [State.ite_kept .., State.modDec_kept .., State.setClean_kept ..]
theorem State.lastRow_kept (s : State) (oc : Nat) (n : Nat) (k : Nat) (entry : Option (Nat × Nat × Bool)) (ended : Bool) :
    (s.lastRow oc n k entry ended).now = s.now ∧ (s.lastRow oc n k entry ended).pending = s.pending ∧
    (s.lastRow oc n k entry ended).answer = s.answer ∧ (s.lastRow oc n k entry ended).fresh = s.fresh ∧
    (s.lastRow oc n k entry ended).links = s.links ∧ (s.lastRow oc n k entry ended).shed = s.shed ∧
    (s.lastRow oc n k entry ended).copy = s.copy ∧ (s.lastRow oc n k entry ended).fwd = s.fwd ∧
    (s.lastRow oc n k entry ended).rings = s.rings ∧ (s.lastRow oc n k entry ended).egr = s.egr ∧
    (s.lastRow oc n k entry ended).alm = s.alm ∧ (s.lastRow oc n k entry ended).mem = s.mem ∧
    (s.lastRow oc n k entry ended).flt = s.flt ∧ (s.lastRow oc n k entry ended).cal = s.cal ∧
    (s.lastRow oc n k entry ended).gauge = s.gauge ∧ (s.lastRow oc n k entry ended).mod = s.mod ∧
    (s.lastRow oc n k entry ended).clk = s.clk ∧ (s.lastRow oc n k entry ended).boot = s.boot := by
  simp only [State.lastRow]; (repeat' split) <;> simp [State.modOuttake, State.showEnds_kept ..]
theorem State.rowGoes_kept (s : State) (oc : Nat) (n : Nat) (k : Nat) (row : Nat) (source : Nat) (entry : Option (Nat × Nat × Bool)) (ended : Bool) :
    (s.rowGoes oc n k row source entry ended).now = s.now ∧
    (s.rowGoes oc n k row source entry ended).pending = s.pending ∧
    (s.rowGoes oc n k row source entry ended).answer = s.answer ∧
    (s.rowGoes oc n k row source entry ended).links = s.links ∧
    (s.rowGoes oc n k row source entry ended).shed = s.shed ∧
    (s.rowGoes oc n k row source entry ended).copy = s.copy ∧
    (s.rowGoes oc n k row source entry ended).rings = s.rings ∧
    (s.rowGoes oc n k row source entry ended).alm = s.alm ∧ (s.rowGoes oc n k row source entry ended).mem = s.mem ∧
    (s.rowGoes oc n k row source entry ended).flt = s.flt ∧ (s.rowGoes oc n k row source entry ended).cal = s.cal ∧
    (s.rowGoes oc n k row source entry ended).gauge = s.gauge ∧
    (s.rowGoes oc n k row source entry ended).mod = s.mod ∧ (s.rowGoes oc n k row source entry ended).clk = s.clk ∧
    (s.rowGoes oc n k row source entry ended).boot = s.boot := by
  simp [State.ite_kept .., State.rowGoes, State.lastRow_kept .., State.sendRow_kept ..]
theorem State.slotRow_kept (s : State) (oc : Nat) (n : Nat) (k : Nat) (row : Nat) :
    (s.slotRow oc n k row).now = s.now ∧ (s.slotRow oc n k row).pending = s.pending ∧
    (s.slotRow oc n k row).answer = s.answer ∧ (s.slotRow oc n k row).links = s.links ∧
    (s.slotRow oc n k row).shed = s.shed ∧ (s.slotRow oc n k row).copy = s.copy ∧
    (s.slotRow oc n k row).rings = s.rings ∧ (s.slotRow oc n k row).alm = s.alm ∧ (s.slotRow oc n k row).mem = s.mem ∧
    (s.slotRow oc n k row).flt = s.flt ∧ (s.slotRow oc n k row).cal = s.cal ∧ (s.slotRow oc n k row).mod = s.mod ∧
    (s.slotRow oc n k row).clk = s.clk ∧ (s.slotRow oc n k row).boot = s.boot := by
  simp [State.ite_kept .., State.slotRow, State.countDec_kept .., State.modDec_kept .., State.rowGoes_kept ..,
      State.showStarts_kept ..]
theorem State.outtakeRow_kept (s : State) (oc : Nat) (row : Nat) :
    (s.outtakeRow oc row).now = s.now ∧ (s.outtakeRow oc row).pending = s.pending ∧
    (s.outtakeRow oc row).answer = s.answer ∧ (s.outtakeRow oc row).links = s.links ∧
    (s.outtakeRow oc row).shed = s.shed ∧ (s.outtakeRow oc row).copy = s.copy ∧
    (s.outtakeRow oc row).rings = s.rings ∧ (s.outtakeRow oc row).alm = s.alm ∧ (s.outtakeRow oc row).mem = s.mem ∧
    (s.outtakeRow oc row).flt = s.flt ∧ (s.outtakeRow oc row).cal = s.cal ∧ (s.outtakeRow oc row).mod = s.mod ∧
    (s.outtakeRow oc row).clk = s.clk ∧ (s.outtakeRow oc row).boot = s.boot := by
  simp only [State.outtakeRow]; (repeat' split) <;> simp [State.slotRow_kept ..]
end Sys2Proof.Machine
end

