-- ==== Sys2Proof/Laws/FramesModule.lean ====
section
/-! SUPPORT. The parts of the state that clocks, supplies, stacks, DMA, trims, counters and the Rain Gauge leave alone: one lemma for each operation, by its parts. -/

set_option linter.unusedSimpArgs false

namespace Sys2Proof.Machine

/-! ## Clocks.lean -/

theorem State.cfSwitch_kept (s : State) :
    s.cfSwitch.now = s.now ∧ s.cfSwitch.pending = s.pending ∧ s.cfSwitch.answer = s.answer ∧
    s.cfSwitch.emits = s.emits ∧ s.cfSwitch.fresh = s.fresh ∧ s.cfSwitch.links = s.links ∧ s.cfSwitch.shed = s.shed ∧
    s.cfSwitch.copy = s.copy ∧ s.cfSwitch.fwd = s.fwd ∧ s.cfSwitch.rings = s.rings ∧ s.cfSwitch.str = s.str ∧
    s.cfSwitch.egr = s.egr ∧ s.cfSwitch.alm = s.alm ∧ s.cfSwitch.allots = s.allots ∧ s.cfSwitch.irq = s.irq ∧
    s.cfSwitch.mem = s.mem ∧ s.cfSwitch.flt = s.flt ∧ s.cfSwitch.cal = s.cal ∧ s.cfSwitch.gauge = s.gauge ∧
    s.cfSwitch.mod = s.mod ∧ s.cfSwitch.boot = s.boot := by
  simp [State.cfSwitch]
theorem State.selectCf_kept (s : State) (v : Nat) :
    (s.selectCf v).2.now = s.now ∧ (s.selectCf v).2.pending = s.pending ∧ (s.selectCf v).2.answer = s.answer ∧
    (s.selectCf v).2.emits = s.emits ∧ (s.selectCf v).2.fresh = s.fresh ∧ (s.selectCf v).2.links = s.links ∧
    (s.selectCf v).2.shed = s.shed ∧ (s.selectCf v).2.copy = s.copy ∧ (s.selectCf v).2.fwd = s.fwd ∧
    (s.selectCf v).2.rings = s.rings ∧ (s.selectCf v).2.str = s.str ∧ (s.selectCf v).2.egr = s.egr ∧
    (s.selectCf v).2.allots = s.allots ∧ (s.selectCf v).2.irq = s.irq ∧ (s.selectCf v).2.mem = s.mem ∧
    (s.selectCf v).2.flt = s.flt ∧ (s.selectCf v).2.cal = s.cal ∧ (s.selectCf v).2.gauge = s.gauge ∧
    (s.selectCf v).2.mod = s.mod ∧ (s.selectCf v).2.boot = s.boot := by
  simp [State.ite_kept .., State.selectCf, State.cfSwitch_kept .., State.setCfgN_kept ..]
theorem State.refLost_kept (s : State) :
    s.refLost.now = s.now ∧ s.refLost.pending = s.pending ∧ s.refLost.answer = s.answer ∧ s.refLost.links = s.links ∧
    s.refLost.copy = s.copy ∧ s.refLost.rings = s.rings ∧ s.refLost.boot = s.boot ∧
    s.refLost.mem.exchange = s.mem.exchange ∧ s.refLost.mem.areas = s.mem.areas := by
  simp [State.ite_kept .., State.refLost, State.cfSwitch_kept .., State.raiseFault_kept ..]
theorem State.refBack_kept (s : State) :
    s.refBack.now = s.now ∧ s.refBack.pending = s.pending ∧ s.refBack.answer = s.answer ∧ s.refBack.emits = s.emits ∧
    s.refBack.fresh = s.fresh ∧ s.refBack.links = s.links ∧ s.refBack.shed = s.shed ∧ s.refBack.copy = s.copy ∧
    s.refBack.fwd = s.fwd ∧ s.refBack.rings = s.rings ∧ s.refBack.str = s.str ∧ s.refBack.egr = s.egr ∧
    s.refBack.alm = s.alm ∧ s.refBack.allots = s.allots ∧ s.refBack.irq = s.irq ∧ s.refBack.mem = s.mem ∧
    s.refBack.cal = s.cal ∧ s.refBack.gauge = s.gauge ∧ s.refBack.mod = s.mod ∧ s.refBack.boot = s.boot := by
  simp [State.ite_kept .., State.refBack, State.causeGone_kept .., State.cfSwitch_kept ..]
theorem State.refWindow_kept (s : State) (count : Nat) (hz : Nat) :
    (s.refWindow count hz).now = s.now ∧ (s.refWindow count hz).pending = s.pending ∧
    (s.refWindow count hz).answer = s.answer ∧ (s.refWindow count hz).links = s.links ∧
    (s.refWindow count hz).copy = s.copy ∧ (s.refWindow count hz).rings = s.rings ∧
    (s.refWindow count hz).boot = s.boot ∧ (s.refWindow count hz).mem.exchange = s.mem.exchange ∧
    (s.refWindow count hz).mem.areas = s.mem.areas := by
  simp [State.ite_kept .., State.refWindow, State.cfSwitch_kept .., State.refBack_kept .., State.refLost_kept ..]
theorem State.pllLocked_kept (s : State) (p : Nat) :
    (s.pllLocked p).now = s.now ∧ (s.pllLocked p).pending = s.pending ∧ (s.pllLocked p).answer = s.answer ∧
    (s.pllLocked p).emits = s.emits ∧ (s.pllLocked p).fresh = s.fresh ∧ (s.pllLocked p).links = s.links ∧
    (s.pllLocked p).shed = s.shed ∧ (s.pllLocked p).copy = s.copy ∧ (s.pllLocked p).fwd = s.fwd ∧
    (s.pllLocked p).rings = s.rings ∧ (s.pllLocked p).str = s.str ∧ (s.pllLocked p).egr = s.egr ∧
    (s.pllLocked p).alm = s.alm ∧ (s.pllLocked p).allots = s.allots ∧ (s.pllLocked p).irq = s.irq ∧
    (s.pllLocked p).mem = s.mem ∧ (s.pllLocked p).flt = s.flt ∧ (s.pllLocked p).cal = s.cal ∧
    (s.pllLocked p).gauge = s.gauge ∧ (s.pllLocked p).mod = s.mod ∧ (s.pllLocked p).boot = s.boot := by
  simp [State.ite_kept .., State.pllLocked]
theorem State.startPll_kept (s : State) (p : Nat) :
    (s.startPll p).now = s.now ∧ (s.startPll p).pending = s.pending ∧ (s.startPll p).answer = s.answer ∧
    (s.startPll p).emits = s.emits ∧ (s.startPll p).fresh = s.fresh ∧ (s.startPll p).links = s.links ∧
    (s.startPll p).shed = s.shed ∧ (s.startPll p).copy = s.copy ∧ (s.startPll p).fwd = s.fwd ∧
    (s.startPll p).rings = s.rings ∧ (s.startPll p).str = s.str ∧ (s.startPll p).egr = s.egr ∧
    (s.startPll p).alm = s.alm ∧ (s.startPll p).allots = s.allots ∧ (s.startPll p).irq = s.irq ∧
    (s.startPll p).mem = s.mem ∧ (s.startPll p).flt = s.flt ∧ (s.startPll p).cal = s.cal ∧
    (s.startPll p).gauge = s.gauge ∧ (s.startPll p).mod = s.mod ∧ (s.startPll p).boot = s.boot := by
  simp [State.ite_kept .., State.startPll]
theorem State.stopPll_kept (s : State) (p : Nat) :
    (s.stopPll p).now = s.now ∧ (s.stopPll p).pending = s.pending ∧ (s.stopPll p).answer = s.answer ∧
    (s.stopPll p).emits = s.emits ∧ (s.stopPll p).fresh = s.fresh ∧ (s.stopPll p).links = s.links ∧
    (s.stopPll p).shed = s.shed ∧ (s.stopPll p).copy = s.copy ∧ (s.stopPll p).fwd = s.fwd ∧
    (s.stopPll p).rings = s.rings ∧ (s.stopPll p).str = s.str ∧ (s.stopPll p).egr = s.egr ∧
    (s.stopPll p).alm = s.alm ∧ (s.stopPll p).allots = s.allots ∧ (s.stopPll p).irq = s.irq ∧
    (s.stopPll p).mem = s.mem ∧ (s.stopPll p).flt = s.flt ∧ (s.stopPll p).cal = s.cal ∧
    (s.stopPll p).gauge = s.gauge ∧ (s.stopPll p).mod = s.mod ∧ (s.stopPll p).boot = s.boot := by
  simp [State.stopPll]
theorem State.regateBlock_kept (s : State) (block : Nat) (first : Nat) (count : Nat) (gated : Nat) :
    (s.regateBlock block first count gated).now = s.now ∧
    (s.regateBlock block first count gated).pending = s.pending ∧
    (s.regateBlock block first count gated).answer = s.answer ∧
    (s.regateBlock block first count gated).emits = s.emits ∧
    (s.regateBlock block first count gated).fresh = s.fresh ∧
    (s.regateBlock block first count gated).links = s.links ∧ (s.regateBlock block first count gated).shed = s.shed ∧
    (s.regateBlock block first count gated).copy = s.copy ∧ (s.regateBlock block first count gated).fwd = s.fwd ∧
    (s.regateBlock block first count gated).rings = s.rings ∧ (s.regateBlock block first count gated).str = s.str ∧
    (s.regateBlock block first count gated).egr = s.egr ∧ (s.regateBlock block first count gated).alm = s.alm ∧
    (s.regateBlock block first count gated).allots = s.allots ∧ (s.regateBlock block first count gated).irq = s.irq ∧
    (s.regateBlock block first count gated).mem = s.mem ∧ (s.regateBlock block first count gated).flt = s.flt ∧
    (s.regateBlock block first count gated).cal = s.cal ∧ (s.regateBlock block first count gated).gauge = s.gauge ∧
    (s.regateBlock block first count gated).mod = s.mod ∧ (s.regateBlock block first count gated).boot = s.boot := by
  simp [State.ite_kept .., State.regateBlock]
theorem State.regate_kept (s : State) (lp : Nat) :
    (s.regate lp).now = s.now ∧ (s.regate lp).pending = s.pending ∧ (s.regate lp).answer = s.answer ∧
    (s.regate lp).emits = s.emits ∧ (s.regate lp).fresh = s.fresh ∧ (s.regate lp).links = s.links ∧
    (s.regate lp).shed = s.shed ∧ (s.regate lp).copy = s.copy ∧ (s.regate lp).fwd = s.fwd ∧
    (s.regate lp).rings = s.rings ∧ (s.regate lp).str = s.str ∧ (s.regate lp).egr = s.egr ∧
    (s.regate lp).alm = s.alm ∧ (s.regate lp).allots = s.allots ∧ (s.regate lp).irq = s.irq ∧
    (s.regate lp).mem = s.mem ∧ (s.regate lp).flt = s.flt ∧ (s.regate lp).cal = s.cal ∧
    (s.regate lp).gauge = s.gauge ∧ (s.regate lp).mod = s.mod ∧ (s.regate lp).boot = s.boot := by
  simp [State.regate, State.regateBlock_kept ..]
theorem State.blockAwake_kept (s : State) (block : Nat) :
    (s.blockAwake block).now = s.now ∧ (s.blockAwake block).pending = s.pending ∧
    (s.blockAwake block).answer = s.answer ∧ (s.blockAwake block).emits = s.emits ∧
    (s.blockAwake block).fresh = s.fresh ∧ (s.blockAwake block).links = s.links ∧ (s.blockAwake block).shed = s.shed ∧
    (s.blockAwake block).copy = s.copy ∧ (s.blockAwake block).fwd = s.fwd ∧ (s.blockAwake block).rings = s.rings ∧
    (s.blockAwake block).str = s.str ∧ (s.blockAwake block).egr = s.egr ∧ (s.blockAwake block).alm = s.alm ∧
    (s.blockAwake block).allots = s.allots ∧ (s.blockAwake block).irq = s.irq ∧ (s.blockAwake block).mem = s.mem ∧
    (s.blockAwake block).flt = s.flt ∧ (s.blockAwake block).cal = s.cal ∧ (s.blockAwake block).gauge = s.gauge ∧
    (s.blockAwake block).mod = s.mod ∧ (s.blockAwake block).boot = s.boot := by
  simp [State.ite_kept .., State.blockAwake]
theorem State.stepTime_kept (s : State) (offset : Int) :
    (s.stepTime offset).pending = s.pending ∧ (s.stepTime offset).answer = s.answer ∧
    (s.stepTime offset).emits = s.emits ∧ (s.stepTime offset).fresh = s.fresh ∧ (s.stepTime offset).links = s.links ∧
    (s.stepTime offset).shed = s.shed ∧ (s.stepTime offset).copy = s.copy ∧ (s.stepTime offset).fwd = s.fwd ∧
    (s.stepTime offset).rings = s.rings ∧ (s.stepTime offset).str = s.str ∧ (s.stepTime offset).alm = s.alm ∧
    (s.stepTime offset).allots = s.allots ∧ (s.stepTime offset).irq = s.irq ∧ (s.stepTime offset).mem = s.mem ∧
    (s.stepTime offset).flt = s.flt ∧ (s.stepTime offset).cal = s.cal ∧ (s.stepTime offset).gauge = s.gauge ∧
    (s.stepTime offset).mod = s.mod ∧ (s.stepTime offset).boot = s.boot := by
  simp [State.ite_kept .., State.stepTime, State.gatesAt_kept ..]
theorem State.setFreq_kept (s : State) (v : Int) :
    (s.setFreq v).now = s.now ∧ (s.setFreq v).pending = s.pending ∧ (s.setFreq v).answer = s.answer ∧
    (s.setFreq v).emits = s.emits ∧ (s.setFreq v).fresh = s.fresh ∧ (s.setFreq v).links = s.links ∧
    (s.setFreq v).shed = s.shed ∧ (s.setFreq v).copy = s.copy ∧ (s.setFreq v).fwd = s.fwd ∧
    (s.setFreq v).rings = s.rings ∧ (s.setFreq v).str = s.str ∧ (s.setFreq v).egr = s.egr ∧
    (s.setFreq v).alm = s.alm ∧ (s.setFreq v).allots = s.allots ∧ (s.setFreq v).irq = s.irq ∧
    (s.setFreq v).mem = s.mem ∧ (s.setFreq v).flt = s.flt ∧ (s.setFreq v).cal = s.cal ∧
    (s.setFreq v).gauge = s.gauge ∧ (s.setFreq v).mod = s.mod ∧ (s.setFreq v).boot = s.boot := by
  simp [State.ite_kept .., State.setFreq]
theorem State.servo_kept (s : State) (offset : Int) :
    (s.servo offset).pending = s.pending ∧ (s.servo offset).answer = s.answer ∧ (s.servo offset).emits = s.emits ∧
    (s.servo offset).fresh = s.fresh ∧ (s.servo offset).links = s.links ∧ (s.servo offset).shed = s.shed ∧
    (s.servo offset).copy = s.copy ∧ (s.servo offset).fwd = s.fwd ∧ (s.servo offset).rings = s.rings ∧
    (s.servo offset).str = s.str ∧ (s.servo offset).alm = s.alm ∧ (s.servo offset).allots = s.allots ∧
    (s.servo offset).irq = s.irq ∧ (s.servo offset).mem = s.mem ∧ (s.servo offset).flt = s.flt ∧
    (s.servo offset).cal = s.cal ∧ (s.servo offset).gauge = s.gauge ∧ (s.servo offset).mod = s.mod ∧
    (s.servo offset).boot = s.boot := by
  simp [State.ite_kept .., State.servo, State.stepTime_kept .., State.setFreq_kept ..]
theorem State.syncMeasured_kept (s : State) (lp : Nat) (offset : Int) :
    (s.syncMeasured lp offset).pending = s.pending ∧ (s.syncMeasured lp offset).answer = s.answer ∧
    (s.syncMeasured lp offset).fresh = s.fresh ∧ (s.syncMeasured lp offset).links = s.links ∧
    (s.syncMeasured lp offset).shed = s.shed ∧ (s.syncMeasured lp offset).copy = s.copy ∧
    (s.syncMeasured lp offset).fwd = s.fwd ∧ (s.syncMeasured lp offset).rings = s.rings ∧
    (s.syncMeasured lp offset).str = s.str ∧ (s.syncMeasured lp offset).alm = s.alm ∧
    (s.syncMeasured lp offset).mem = s.mem ∧ (s.syncMeasured lp offset).flt = s.flt ∧
    (s.syncMeasured lp offset).cal = s.cal ∧ (s.syncMeasured lp offset).gauge = s.gauge ∧
    (s.syncMeasured lp offset).mod = s.mod ∧ (s.syncMeasured lp offset).boot = s.boot := by
  simp only [State.syncMeasured]; (repeat' split) <;> simp [State.leaveLocked_kept .., State.servo_kept ..,
      State.setTime_kept ..]
theorem State.announced_kept (s : State) (lp : Nat) (d : Announce) :
    (s.announced lp d).now = s.now ∧ (s.announced lp d).pending = s.pending ∧ (s.announced lp d).answer = s.answer ∧
    (s.announced lp d).fresh = s.fresh ∧ (s.announced lp d).links = s.links ∧ (s.announced lp d).shed = s.shed ∧
    (s.announced lp d).copy = s.copy ∧ (s.announced lp d).fwd = s.fwd ∧ (s.announced lp d).rings = s.rings ∧
    (s.announced lp d).str = s.str ∧ (s.announced lp d).egr = s.egr ∧ (s.announced lp d).alm = s.alm ∧
    (s.announced lp d).mem = s.mem ∧ (s.announced lp d).flt = s.flt ∧ (s.announced lp d).cal = s.cal ∧
    (s.announced lp d).gauge = s.gauge ∧ (s.announced lp d).mod = s.mod ∧ (s.announced lp d).boot = s.boot := by
  simp [State.ite_kept .., State.modPtpPort, State.announced, State.bmca_kept ..]
theorem State.delayAsked_kept (s : State) (lp : Nat) (multicast : Bool) :
    (s.delayAsked lp multicast).now = s.now ∧ (s.delayAsked lp multicast).pending = s.pending ∧
    (s.delayAsked lp multicast).answer = s.answer ∧ (s.delayAsked lp multicast).fresh = s.fresh ∧
    (s.delayAsked lp multicast).links = s.links ∧ (s.delayAsked lp multicast).shed = s.shed ∧
    (s.delayAsked lp multicast).copy = s.copy ∧ (s.delayAsked lp multicast).fwd = s.fwd ∧
    (s.delayAsked lp multicast).rings = s.rings ∧ (s.delayAsked lp multicast).str = s.str ∧
    (s.delayAsked lp multicast).egr = s.egr ∧ (s.delayAsked lp multicast).alm = s.alm ∧
    (s.delayAsked lp multicast).allots = s.allots ∧ (s.delayAsked lp multicast).irq = s.irq ∧
    (s.delayAsked lp multicast).mem = s.mem ∧ (s.delayAsked lp multicast).flt = s.flt ∧
    (s.delayAsked lp multicast).cal = s.cal ∧ (s.delayAsked lp multicast).gauge = s.gauge ∧
    (s.delayAsked lp multicast).mod = s.mod ∧ (s.delayAsked lp multicast).clk = s.clk ∧
    (s.delayAsked lp multicast).boot = s.boot := by
  simp [State.ite_kept .., State.emit, State.delayAsked]
theorem State.specExpires_kept (s : State) :
    s.specExpires.now = s.now ∧ s.specExpires.pending = s.pending ∧ s.specExpires.answer = s.answer ∧
    s.specExpires.emits = s.emits ∧ s.specExpires.fresh = s.fresh ∧ s.specExpires.links = s.links ∧
    s.specExpires.shed = s.shed ∧ s.specExpires.copy = s.copy ∧ s.specExpires.fwd = s.fwd ∧
    s.specExpires.rings = s.rings ∧ s.specExpires.str = s.str ∧ s.specExpires.egr = s.egr ∧
    s.specExpires.alm = s.alm ∧ s.specExpires.allots = s.allots ∧ s.specExpires.irq = s.irq ∧
    s.specExpires.mem = s.mem ∧ s.specExpires.flt = s.flt ∧ s.specExpires.cal = s.cal ∧
    s.specExpires.gauge = s.gauge ∧ s.specExpires.mod = s.mod ∧ s.specExpires.boot = s.boot := by
  simp [State.ite_kept .., State.specExpires]
theorem State.ptpSends_kept (s : State) (lp : Nat) (kind : Nat) :
    (s.ptpSends lp kind).now = s.now ∧ (s.ptpSends lp kind).pending = s.pending ∧
    (s.ptpSends lp kind).answer = s.answer ∧ (s.ptpSends lp kind).fresh = s.fresh ∧
    (s.ptpSends lp kind).links = s.links ∧ (s.ptpSends lp kind).shed = s.shed ∧ (s.ptpSends lp kind).copy = s.copy ∧
    (s.ptpSends lp kind).fwd = s.fwd ∧ (s.ptpSends lp kind).rings = s.rings ∧ (s.ptpSends lp kind).str = s.str ∧
    (s.ptpSends lp kind).egr = s.egr ∧ (s.ptpSends lp kind).alm = s.alm ∧ (s.ptpSends lp kind).allots = s.allots ∧
    (s.ptpSends lp kind).irq = s.irq ∧ (s.ptpSends lp kind).mem = s.mem ∧ (s.ptpSends lp kind).flt = s.flt ∧
    (s.ptpSends lp kind).cal = s.cal ∧ (s.ptpSends lp kind).gauge = s.gauge ∧ (s.ptpSends lp kind).mod = s.mod ∧
    (s.ptpSends lp kind).clk = s.clk ∧ (s.ptpSends lp kind).boot = s.boot := by
  simp [State.ite_kept .., State.emit, State.ptpSends]
theorem State.managed_kept (s : State) (lp : Nat) (get : Bool) (id : Nat) :
    (s.managed lp get id).now = s.now ∧ (s.managed lp get id).pending = s.pending ∧
    (s.managed lp get id).answer = s.answer ∧ (s.managed lp get id).fresh = s.fresh ∧
    (s.managed lp get id).links = s.links ∧ (s.managed lp get id).shed = s.shed ∧
    (s.managed lp get id).copy = s.copy ∧ (s.managed lp get id).fwd = s.fwd ∧ (s.managed lp get id).rings = s.rings ∧
    (s.managed lp get id).str = s.str ∧ (s.managed lp get id).egr = s.egr ∧ (s.managed lp get id).alm = s.alm ∧
    (s.managed lp get id).allots = s.allots ∧ (s.managed lp get id).irq = s.irq ∧ (s.managed lp get id).mem = s.mem ∧
    (s.managed lp get id).flt = s.flt ∧ (s.managed lp get id).cal = s.cal ∧ (s.managed lp get id).gauge = s.gauge ∧
    (s.managed lp get id).mod = s.mod ∧ (s.managed lp get id).clk = s.clk ∧ (s.managed lp get id).boot = s.boot := by
  simp [State.ite_kept .., State.emit, State.managed]
theorem State.orderTime_kept (s : State) (v : Nat) :
    (s.orderTime v).2.now = s.now ∧ (s.orderTime v).2.pending = s.pending ∧ (s.orderTime v).2.answer = s.answer ∧
    (s.orderTime v).2.emits = s.emits ∧ (s.orderTime v).2.fresh = s.fresh ∧ (s.orderTime v).2.links = s.links ∧
    (s.orderTime v).2.shed = s.shed ∧ (s.orderTime v).2.copy = s.copy ∧ (s.orderTime v).2.fwd = s.fwd ∧
    (s.orderTime v).2.rings = s.rings ∧ (s.orderTime v).2.str = s.str ∧ (s.orderTime v).2.egr = s.egr ∧
    (s.orderTime v).2.alm = s.alm ∧ (s.orderTime v).2.allots = s.allots ∧ (s.orderTime v).2.irq = s.irq ∧
    (s.orderTime v).2.mem = s.mem ∧ (s.orderTime v).2.flt = s.flt ∧ (s.orderTime v).2.cal = s.cal ∧
    (s.orderTime v).2.gauge = s.gauge ∧ (s.orderTime v).2.mod = s.mod ∧ (s.orderTime v).2.boot = s.boot := by
  simp [State.ite_kept .., State.orderTime]
theorem State.refInputLost_kept (s : State) (pps : Bool) :
    (s.refInputLost pps).now = s.now ∧ (s.refInputLost pps).pending = s.pending ∧
    (s.refInputLost pps).answer = s.answer ∧ (s.refInputLost pps).links = s.links ∧
    (s.refInputLost pps).copy = s.copy ∧ (s.refInputLost pps).rings = s.rings ∧ (s.refInputLost pps).boot = s.boot ∧
    (s.refInputLost pps).mem.exchange = s.mem.exchange ∧ (s.refInputLost pps).mem.areas = s.mem.areas := by
  simp [State.ite_kept .., State.refInputLost, State.raiseFault_kept .., State.setTime_kept ..]
theorem State.edgeActs_kept (s : State) (count : Nat) :
    (s.edgeActs count).now = s.now ∧ (s.edgeActs count).pending = s.pending ∧
    (s.edgeActs count).answer = s.answer ∧ (s.edgeActs count).fresh = s.fresh ∧
    (s.edgeActs count).links = s.links ∧ (s.edgeActs count).shed = s.shed ∧ (s.edgeActs count).copy = s.copy ∧
    (s.edgeActs count).fwd = s.fwd ∧ (s.edgeActs count).rings = s.rings ∧ (s.edgeActs count).str = s.str ∧
    (s.edgeActs count).egr = s.egr ∧ (s.edgeActs count).mem = s.mem ∧ (s.edgeActs count).flt = s.flt ∧
    (s.edgeActs count).cal = s.cal ∧ (s.edgeActs count).gauge = s.gauge ∧ (s.edgeActs count).mod = s.mod ∧
    (s.edgeActs count).boot = s.boot := by
  simp only [State.edgeActs]; (repeat' split) <;> simp [State.ite_kept .., State.setTime_kept ..,
  State.setCfg_kept .., State.setFreq_kept ..]
theorem State.timingEdge_kept (s : State) (count : Nat) :
    (s.timingEdge count).now = s.now ∧ (s.timingEdge count).pending = s.pending ∧
    (s.timingEdge count).answer = s.answer ∧ (s.timingEdge count).links = s.links ∧
    (s.timingEdge count).copy = s.copy ∧ (s.timingEdge count).rings = s.rings ∧ (s.timingEdge count).boot = s.boot ∧
    (s.timingEdge count).mem.exchange = s.mem.exchange ∧ (s.timingEdge count).mem.areas = s.mem.areas := by
  simp [State.ite_kept .., State.timingEdge, State.causeGone_kept .., State.edgeActs_kept .., State.refInputLost_kept ..]

/-! ## Supplies.lean -/

theorem State.feedIn_kept (s : State) (f : Nat) :
    (s.feedIn f).now = s.now ∧ (s.feedIn f).pending = s.pending ∧ (s.feedIn f).answer = s.answer ∧
    (s.feedIn f).fresh = s.fresh ∧ (s.feedIn f).links = s.links ∧ (s.feedIn f).shed = s.shed ∧
    (s.feedIn f).copy = s.copy ∧ (s.feedIn f).fwd = s.fwd ∧ (s.feedIn f).rings = s.rings ∧ (s.feedIn f).str = s.str ∧
    (s.feedIn f).egr = s.egr ∧ (s.feedIn f).alm = s.alm ∧ (s.feedIn f).mem = s.mem ∧ (s.feedIn f).cal = s.cal ∧
    (s.feedIn f).gauge = s.gauge ∧ (s.feedIn f).clk = s.clk ∧ (s.feedIn f).boot = s.boot := by
  simp [State.ite_kept .., State.feedIn, State.causeGone_kept .., State.switchTo_kept ..]
theorem State.feedOut_kept (s : State) (f : Nat) :
    (s.feedOut f).now = s.now ∧ (s.feedOut f).pending = s.pending ∧ (s.feedOut f).answer = s.answer ∧
    (s.feedOut f).links = s.links ∧ (s.feedOut f).copy = s.copy ∧ (s.feedOut f).rings = s.rings ∧
    (s.feedOut f).boot = s.boot ∧ (s.feedOut f).mem.exchange = s.mem.exchange ∧
    (s.feedOut f).mem.areas = s.mem.areas := by
  simp [State.ite_kept .., State.feedOut, State.raiseFault_kept .., State.switchTo_kept ..]
theorem State.switchback_kept (s : State) :
    s.switchback.now = s.now ∧ s.switchback.pending = s.pending ∧ s.switchback.answer = s.answer ∧
    s.switchback.fresh = s.fresh ∧ s.switchback.links = s.links ∧ s.switchback.shed = s.shed ∧
    s.switchback.copy = s.copy ∧ s.switchback.fwd = s.fwd ∧ s.switchback.rings = s.rings ∧ s.switchback.str = s.str ∧
    s.switchback.egr = s.egr ∧ s.switchback.alm = s.alm ∧ s.switchback.mem = s.mem ∧ s.switchback.flt = s.flt ∧
    s.switchback.cal = s.cal ∧ s.switchback.gauge = s.gauge ∧ s.switchback.clk = s.clk ∧
    s.switchback.boot = s.boot := by
  simp [State.ite_kept .., State.switchback, State.switchTo_kept ..]
theorem State.feedsLost_kept (s : State) :
    s.feedsLost.now = s.now ∧ s.feedsLost.pending = s.pending ∧ s.feedsLost.answer = s.answer ∧
    s.feedsLost.fresh = s.fresh ∧ s.feedsLost.links = s.links ∧ s.feedsLost.copy = s.copy ∧ s.feedsLost.fwd = s.fwd ∧
    s.feedsLost.rings = s.rings ∧ s.feedsLost.str = s.str ∧ s.feedsLost.egr = s.egr ∧ s.feedsLost.mem = s.mem ∧
    s.feedsLost.flt = s.flt ∧ s.feedsLost.cal = s.cal ∧ s.feedsLost.boot = s.boot := by
  simp [State.ite_kept .., State.feedsLost, State.stopModule_kept ..]
theorem State.chooseMain_kept (s : State) (f : Nat) :
    (s.chooseMain f).2.now = s.now ∧ (s.chooseMain f).2.pending = s.pending ∧ (s.chooseMain f).2.answer = s.answer ∧
    (s.chooseMain f).2.fresh = s.fresh ∧ (s.chooseMain f).2.links = s.links ∧ (s.chooseMain f).2.shed = s.shed ∧
    (s.chooseMain f).2.copy = s.copy ∧ (s.chooseMain f).2.fwd = s.fwd ∧ (s.chooseMain f).2.rings = s.rings ∧
    (s.chooseMain f).2.str = s.str ∧ (s.chooseMain f).2.egr = s.egr ∧ (s.chooseMain f).2.mem = s.mem ∧
    (s.chooseMain f).2.flt = s.flt ∧ (s.chooseMain f).2.cal = s.cal ∧ (s.chooseMain f).2.gauge = s.gauge ∧
    (s.chooseMain f).2.clk = s.clk ∧ (s.chooseMain f).2.boot = s.boot := by
  simp [State.ite_kept .., State.chooseMain, State.setCfgN_kept .., State.switchTo_kept ..]
theorem State.phaseFails_kept (s : State) (n : Nat) :
    (s.phaseFails n).now = s.now ∧ (s.phaseFails n).pending = s.pending ∧ (s.phaseFails n).answer = s.answer ∧
    (s.phaseFails n).links = s.links ∧ (s.phaseFails n).copy = s.copy ∧ (s.phaseFails n).rings = s.rings ∧
    (s.phaseFails n).boot = s.boot ∧ (s.phaseFails n).mem.exchange = s.mem.exchange ∧
    (s.phaseFails n).mem.areas = s.mem.areas := by
  simp [State.phaseFails, State.phaseDown_kept .., State.raiseFault_kept ..]
theorem State.keepLoss_kept (s : State) :
    s.keepLoss.now = s.now ∧ s.keepLoss.pending = s.pending ∧ s.keepLoss.answer = s.answer ∧
    s.keepLoss.emits = s.emits ∧ s.keepLoss.fresh = s.fresh ∧ s.keepLoss.links = s.links ∧ s.keepLoss.shed = s.shed ∧
    s.keepLoss.copy = s.copy ∧ s.keepLoss.fwd = s.fwd ∧ s.keepLoss.rings = s.rings ∧ s.keepLoss.str = s.str ∧
    s.keepLoss.egr = s.egr ∧ s.keepLoss.alm = s.alm ∧ s.keepLoss.allots = s.allots ∧ s.keepLoss.irq = s.irq ∧
    s.keepLoss.mem = s.mem ∧ s.keepLoss.flt = s.flt ∧ s.keepLoss.cal = s.cal ∧ s.keepLoss.gauge = s.gauge ∧
    s.keepLoss.clk = s.clk ∧ s.keepLoss.boot = s.boot := by
  simp [State.ite_kept .., State.keepLoss]
theorem State.tempCross_kept (s : State) (above : Bool) :
    (s.tempCross above).now = s.now ∧ (s.tempCross above).pending = s.pending ∧
    (s.tempCross above).answer = s.answer ∧ (s.tempCross above).fresh = s.fresh ∧
    (s.tempCross above).links = s.links ∧ (s.tempCross above).shed = s.shed ∧ (s.tempCross above).copy = s.copy ∧
    (s.tempCross above).fwd = s.fwd ∧ (s.tempCross above).rings = s.rings ∧ (s.tempCross above).str = s.str ∧
    (s.tempCross above).egr = s.egr ∧ (s.tempCross above).alm = s.alm ∧ (s.tempCross above).mem = s.mem ∧
    (s.tempCross above).flt = s.flt ∧ (s.tempCross above).cal = s.cal ∧ (s.tempCross above).gauge = s.gauge ∧
    (s.tempCross above).clk = s.clk ∧ (s.tempCross above).boot = s.boot := by
  simp [State.ite_kept .., State.tempCross, State.raise_kept ..]
theorem State.trip_kept (s : State) :
    s.trip.now = s.now ∧ s.trip.pending = s.pending ∧ s.trip.answer = s.answer ∧ s.trip.fresh = s.fresh ∧
    s.trip.links = s.links ∧ s.trip.copy = s.copy ∧ s.trip.fwd = s.fwd ∧ s.trip.rings = s.rings ∧ s.trip.str = s.str ∧
    s.trip.egr = s.egr ∧ s.trip.mem = s.mem ∧ s.trip.flt = s.flt ∧ s.trip.cal = s.cal ∧ s.trip.boot = s.boot := by
  simp [State.trip, State.stopModule_kept ..]
theorem State.lifeHour_kept (s : State) (hottest : Int) :
    (s.lifeHour hottest).now = s.now ∧ (s.lifeHour hottest).pending = s.pending ∧
    (s.lifeHour hottest).answer = s.answer ∧ (s.lifeHour hottest).emits = s.emits ∧
    (s.lifeHour hottest).fresh = s.fresh ∧ (s.lifeHour hottest).links = s.links ∧ (s.lifeHour hottest).shed = s.shed ∧
    (s.lifeHour hottest).copy = s.copy ∧ (s.lifeHour hottest).fwd = s.fwd ∧ (s.lifeHour hottest).rings = s.rings ∧
    (s.lifeHour hottest).str = s.str ∧ (s.lifeHour hottest).egr = s.egr ∧ (s.lifeHour hottest).alm = s.alm ∧
    (s.lifeHour hottest).allots = s.allots ∧ (s.lifeHour hottest).irq = s.irq ∧ (s.lifeHour hottest).mem = s.mem ∧
    (s.lifeHour hottest).flt = s.flt ∧ (s.lifeHour hottest).cal = s.cal ∧ (s.lifeHour hottest).gauge = s.gauge ∧
    (s.lifeHour hottest).clk = s.clk ∧ (s.lifeHour hottest).boot = s.boot := by
  simp [State.lifeHour]
theorem State.tally_kept (s : State) (g : Nat) (level : Bool) :
    (s.tally g level).now = s.now ∧ (s.tally g level).pending = s.pending ∧ (s.tally g level).answer = s.answer ∧
    (s.tally g level).emits = s.emits ∧ (s.tally g level).fresh = s.fresh ∧ (s.tally g level).links = s.links ∧
    (s.tally g level).shed = s.shed ∧ (s.tally g level).copy = s.copy ∧ (s.tally g level).fwd = s.fwd ∧
    (s.tally g level).rings = s.rings ∧ (s.tally g level).egr = s.egr ∧ (s.tally g level).alm = s.alm ∧
    (s.tally g level).allots = s.allots ∧ (s.tally g level).irq = s.irq ∧ (s.tally g level).mem = s.mem ∧
    (s.tally g level).flt = s.flt ∧ (s.tally g level).cal = s.cal ∧ (s.tally g level).gauge = s.gauge ∧
    (s.tally g level).mod = s.mod ∧ (s.tally g level).clk = s.clk ∧ (s.tally g level).boot = s.boot := by
  simp [State.ite_kept .., State.tally, State.orderCut_kept ..]
theorem State.gpiChanged_kept (s : State) (g : Nat) (level : Bool) :
    (s.gpiChanged g level).now = s.now ∧ (s.gpiChanged g level).pending = s.pending ∧
    (s.gpiChanged g level).answer = s.answer ∧ (s.gpiChanged g level).fresh = s.fresh ∧
    (s.gpiChanged g level).links = s.links ∧ (s.gpiChanged g level).shed = s.shed ∧
    (s.gpiChanged g level).copy = s.copy ∧ (s.gpiChanged g level).fwd = s.fwd ∧ (s.gpiChanged g level).egr = s.egr ∧
    (s.gpiChanged g level).alm = s.alm ∧ (s.gpiChanged g level).mem = s.mem ∧ (s.gpiChanged g level).flt = s.flt ∧
    (s.gpiChanged g level).cal = s.cal ∧ (s.gpiChanged g level).gauge = s.gauge ∧ (s.gpiChanged g level).clk = s.clk ∧
    (s.gpiChanged g level).boot = s.boot := by
  simp [State.ite_kept .., State.modGpi, State.gpiChanged, State.event_kept .., State.tally_kept ..]
theorem State.driveGpo_kept (s : State) (g : Nat) (level : Bool) :
    (s.driveGpo g level).now = s.now ∧ (s.driveGpo g level).pending = s.pending ∧
    (s.driveGpo g level).answer = s.answer ∧ (s.driveGpo g level).fresh = s.fresh ∧
    (s.driveGpo g level).links = s.links ∧ (s.driveGpo g level).shed = s.shed ∧ (s.driveGpo g level).copy = s.copy ∧
    (s.driveGpo g level).fwd = s.fwd ∧ (s.driveGpo g level).rings = s.rings ∧ (s.driveGpo g level).str = s.str ∧
    (s.driveGpo g level).egr = s.egr ∧ (s.driveGpo g level).alm = s.alm ∧ (s.driveGpo g level).allots = s.allots ∧
    (s.driveGpo g level).irq = s.irq ∧ (s.driveGpo g level).mem = s.mem ∧ (s.driveGpo g level).flt = s.flt ∧
    (s.driveGpo g level).cal = s.cal ∧ (s.driveGpo g level).gauge = s.gauge ∧ (s.driveGpo g level).clk = s.clk ∧
    (s.driveGpo g level).boot = s.boot := by
  simp [State.emit, State.modGpo, State.driveGpo]
theorem State.orderGpo_kept (s : State) (g : Nat) (level : Bool) (at_ : Nat) :
    (s.orderGpo g level at_).now = s.now ∧ (s.orderGpo g level at_).pending = s.pending ∧
    (s.orderGpo g level at_).answer = s.answer ∧ (s.orderGpo g level at_).fresh = s.fresh ∧
    (s.orderGpo g level at_).links = s.links ∧ (s.orderGpo g level at_).shed = s.shed ∧
    (s.orderGpo g level at_).copy = s.copy ∧ (s.orderGpo g level at_).fwd = s.fwd ∧
    (s.orderGpo g level at_).rings = s.rings ∧ (s.orderGpo g level at_).str = s.str ∧
    (s.orderGpo g level at_).egr = s.egr ∧ (s.orderGpo g level at_).alm = s.alm ∧
    (s.orderGpo g level at_).allots = s.allots ∧ (s.orderGpo g level at_).irq = s.irq ∧
    (s.orderGpo g level at_).mem = s.mem ∧ (s.orderGpo g level at_).flt = s.flt ∧
    (s.orderGpo g level at_).cal = s.cal ∧ (s.orderGpo g level at_).gauge = s.gauge ∧
    (s.orderGpo g level at_).clk = s.clk ∧ (s.orderGpo g level at_).boot = s.boot := by
  simp [State.ite_kept .., State.orderGpo, State.driveGpo_kept ..]
theorem State.gpoDue_kept (s : State) (g : Nat) :
    (s.gpoDue g).now = s.now ∧ (s.gpoDue g).pending = s.pending ∧ (s.gpoDue g).answer = s.answer ∧
    (s.gpoDue g).fresh = s.fresh ∧ (s.gpoDue g).links = s.links ∧ (s.gpoDue g).shed = s.shed ∧
    (s.gpoDue g).copy = s.copy ∧ (s.gpoDue g).fwd = s.fwd ∧ (s.gpoDue g).rings = s.rings ∧ (s.gpoDue g).str = s.str ∧
    (s.gpoDue g).egr = s.egr ∧ (s.gpoDue g).alm = s.alm ∧ (s.gpoDue g).allots = s.allots ∧ (s.gpoDue g).irq = s.irq ∧
    (s.gpoDue g).mem = s.mem ∧ (s.gpoDue g).flt = s.flt ∧ (s.gpoDue g).cal = s.cal ∧ (s.gpoDue g).gauge = s.gauge ∧
    (s.gpoDue g).clk = s.clk ∧ (s.gpoDue g).boot = s.boot := by
  simp only [State.gpoDue]; split <;> simp [State.ite_kept .., State.driveGpo_kept ..]
theorem State.gpoFailsafe_kept (s : State) :
    s.gpoFailsafe.now = s.now ∧ s.gpoFailsafe.pending = s.pending ∧ s.gpoFailsafe.answer = s.answer ∧
    s.gpoFailsafe.emits = s.emits ∧ s.gpoFailsafe.fresh = s.fresh ∧ s.gpoFailsafe.links = s.links ∧
    s.gpoFailsafe.shed = s.shed ∧ s.gpoFailsafe.copy = s.copy ∧ s.gpoFailsafe.fwd = s.fwd ∧
    s.gpoFailsafe.rings = s.rings ∧ s.gpoFailsafe.str = s.str ∧ s.gpoFailsafe.egr = s.egr ∧
    s.gpoFailsafe.alm = s.alm ∧ s.gpoFailsafe.allots = s.allots ∧ s.gpoFailsafe.irq = s.irq ∧
    s.gpoFailsafe.mem = s.mem ∧ s.gpoFailsafe.flt = s.flt ∧ s.gpoFailsafe.cal = s.cal ∧
    s.gpoFailsafe.gauge = s.gauge ∧ s.gpoFailsafe.clk = s.clk ∧ s.gpoFailsafe.boot = s.boot := by
  simp [State.gpoFailsafe]
theorem State.hedgeLoss_kept (s : State) :
    s.hedgeLoss.now = s.now ∧ s.hedgeLoss.pending = s.pending ∧ s.hedgeLoss.answer = s.answer ∧
    s.hedgeLoss.fresh = s.fresh ∧ s.hedgeLoss.links = s.links ∧ s.hedgeLoss.shed = s.shed ∧
    s.hedgeLoss.copy = s.copy ∧ s.hedgeLoss.fwd = s.fwd ∧ s.hedgeLoss.rings = s.rings ∧ s.hedgeLoss.str = s.str ∧
    s.hedgeLoss.egr = s.egr ∧ s.hedgeLoss.alm = s.alm ∧ s.hedgeLoss.mem = s.mem ∧ s.hedgeLoss.cal = s.cal ∧
    s.hedgeLoss.gauge = s.gauge ∧ s.hedgeLoss.boot = s.boot := by
  simp [State.ite_kept .., State.hedgeLoss, State.setTime_kept ..]
theorem State.barrierError_kept (s : State) :
    s.barrierError.now = s.now ∧ s.barrierError.pending = s.pending ∧ s.barrierError.answer = s.answer ∧
    s.barrierError.links = s.links ∧ s.barrierError.copy = s.copy ∧ s.barrierError.rings = s.rings ∧
    s.barrierError.boot = s.boot ∧ s.barrierError.mem.exchange = s.mem.exchange ∧
    s.barrierError.mem.areas = s.mem.areas := by
  simp [State.ite_kept .., State.barrierError, State.pulseFault_kept ..]
theorem State.aliveTick_kept (s : State) :
    s.aliveTick.now = s.now ∧ s.aliveTick.pending = s.pending ∧ s.aliveTick.answer = s.answer ∧
    s.aliveTick.fresh = s.fresh ∧ s.aliveTick.links = s.links ∧ s.aliveTick.shed = s.shed ∧
    s.aliveTick.copy = s.copy ∧ s.aliveTick.fwd = s.fwd ∧ s.aliveTick.rings = s.rings ∧ s.aliveTick.str = s.str ∧
    s.aliveTick.egr = s.egr ∧ s.aliveTick.alm = s.alm ∧ s.aliveTick.allots = s.allots ∧ s.aliveTick.irq = s.irq ∧
    s.aliveTick.mem = s.mem ∧ s.aliveTick.cal = s.cal ∧ s.aliveTick.gauge = s.gauge ∧ s.aliveTick.clk = s.clk ∧
    s.aliveTick.boot = s.boot := by
  simp [State.ite_kept .., State.aliveTick]
theorem State.pulseEnds_kept (s : State) (out : Nat) :
    (s.pulseEnds out).now = s.now ∧ (s.pulseEnds out).pending = s.pending ∧ (s.pulseEnds out).answer = s.answer ∧
    (s.pulseEnds out).emits = s.emits ∧ (s.pulseEnds out).fresh = s.fresh ∧ (s.pulseEnds out).links = s.links ∧
    (s.pulseEnds out).shed = s.shed ∧ (s.pulseEnds out).copy = s.copy ∧ (s.pulseEnds out).fwd = s.fwd ∧
    (s.pulseEnds out).rings = s.rings ∧ (s.pulseEnds out).str = s.str ∧ (s.pulseEnds out).egr = s.egr ∧
    (s.pulseEnds out).alm = s.alm ∧ (s.pulseEnds out).allots = s.allots ∧ (s.pulseEnds out).irq = s.irq ∧
    (s.pulseEnds out).mem = s.mem ∧ (s.pulseEnds out).cal = s.cal ∧ (s.pulseEnds out).gauge = s.gauge ∧
    (s.pulseEnds out).mod = s.mod ∧ (s.pulseEnds out).clk = s.clk ∧ (s.pulseEnds out).boot = s.boot := by
  simp [State.modFlt, State.pulseEnds]

/-! ## Memory.lean -/

theorem State.stackError_kept (s : State) (d : Nat) (kind : Nat) (requester : Nat) (address : Nat) (syndrome : BitVec 32) :
    (s.stackError d kind requester address syndrome).now = s.now ∧
    (s.stackError d kind requester address syndrome).pending = s.pending ∧
    (s.stackError d kind requester address syndrome).answer = s.answer ∧
    (s.stackError d kind requester address syndrome).links = s.links ∧
    (s.stackError d kind requester address syndrome).copy = s.copy ∧
    (s.stackError d kind requester address syndrome).rings = s.rings ∧
    (s.stackError d kind requester address syndrome).boot = s.boot ∧
    (s.stackError d kind requester address syndrome).mem.exchange = s.mem.exchange ∧
    (s.stackError d kind requester address syndrome).mem.areas = s.mem.areas := by
  simp [State.modStack, State.stackError, State.logStack_kept .., State.pulseFault_kept ..]
theorem State.retirePage_kept (s : State) (d : Nat) (requester : Nat) (address : Nat) (syndrome : BitVec 32) :
    (s.retirePage d requester address syndrome).now = s.now ∧
    (s.retirePage d requester address syndrome).pending = s.pending ∧
    (s.retirePage d requester address syndrome).answer = s.answer ∧
    (s.retirePage d requester address syndrome).emits = s.emits ∧
    (s.retirePage d requester address syndrome).fresh = s.fresh ∧
    (s.retirePage d requester address syndrome).links = s.links ∧
    (s.retirePage d requester address syndrome).shed = s.shed ∧
    (s.retirePage d requester address syndrome).copy = s.copy ∧
    (s.retirePage d requester address syndrome).fwd = s.fwd ∧
    (s.retirePage d requester address syndrome).rings = s.rings ∧
    (s.retirePage d requester address syndrome).str = s.str ∧
    (s.retirePage d requester address syndrome).alm = s.alm ∧
    (s.retirePage d requester address syndrome).allots = s.allots ∧
    (s.retirePage d requester address syndrome).irq = s.irq ∧
    (s.retirePage d requester address syndrome).flt = s.flt ∧
    (s.retirePage d requester address syndrome).cal = s.cal ∧
    (s.retirePage d requester address syndrome).gauge = s.gauge ∧
    (s.retirePage d requester address syndrome).mod = s.mod ∧
    (s.retirePage d requester address syndrome).clk = s.clk ∧
    (s.retirePage d requester address syndrome).boot = s.boot ∧
    (s.retirePage d requester address syndrome).mem.exchange = s.mem.exchange ∧
    (s.retirePage d requester address syndrome).mem.areas = s.mem.areas := by
  simp [State.ite_kept .., State.modStack, State.retirePage, State.logStack_kept ..]
theorem State.readError_kept (s : State) (d : Nat) (requester : Nat) :
    (s.readError d requester).now = s.now ∧ (s.readError d requester).pending = s.pending ∧
    (s.readError d requester).answer = s.answer ∧ (s.readError d requester).links = s.links ∧
    (s.readError d requester).copy = s.copy ∧ (s.readError d requester).rings = s.rings ∧
    (s.readError d requester).boot = s.boot ∧ (s.readError d requester).mem.exchange = s.mem.exchange ∧
    (s.readError d requester).mem.areas = s.mem.areas := by
  simp [State.refresh, State.readError, State.retirePage_kept .., State.stackError_kept ..]
theorem State.deepReadError_kept (s : State) (d : Nat) (requester : Nat) :
    (s.deepReadError d requester).now = s.now ∧ (s.deepReadError d requester).pending = s.pending ∧
    (s.deepReadError d requester).answer = s.answer ∧ (s.deepReadError d requester).links = s.links ∧
    (s.deepReadError d requester).copy = s.copy ∧ (s.deepReadError d requester).rings = s.rings ∧
    (s.deepReadError d requester).boot = s.boot ∧ (s.deepReadError d requester).mem.exchange = s.mem.exchange ∧
    (s.deepReadError d requester).mem.areas = s.mem.areas := by
  simp [State.ite_kept .., State.modStack, State.refresh, State.deepReadError, State.logStack_kept ..,
      State.stackError_kept ..]
theorem State.logReads_kept (s : State) :
    s.logReads.now = s.now ∧ s.logReads.pending = s.pending ∧ s.logReads.answer = s.answer ∧
    s.logReads.links = s.links ∧ s.logReads.copy = s.copy ∧ s.logReads.rings = s.rings ∧ s.logReads.boot = s.boot ∧
    s.logReads.mem.exchange = s.mem.exchange ∧ s.logReads.mem.areas = s.mem.areas := by
  simp [State.logReads, State.readError_kept ..]
theorem State.correctedError_kept (s : State) (d : Nat) :
    (s.correctedError d).now = s.now ∧ (s.correctedError d).pending = s.pending ∧
    (s.correctedError d).answer = s.answer ∧ (s.correctedError d).links = s.links ∧
    (s.correctedError d).copy = s.copy ∧ (s.correctedError d).rings = s.rings ∧ (s.correctedError d).boot = s.boot ∧
    (s.correctedError d).mem.exchange = s.mem.exchange ∧ (s.correctedError d).mem.areas = s.mem.areas := by
  simp [State.ite_kept .., State.correctedError, State.causeGone_kept .., State.raiseFault_kept ..]
theorem State.scrubBurst_kept (s : State) (d : Nat) (address : Nat) (outcome : Nat) (syndrome : BitVec 32) :
    (s.scrubBurst d address outcome syndrome).now = s.now ∧
    (s.scrubBurst d address outcome syndrome).pending = s.pending ∧
    (s.scrubBurst d address outcome syndrome).answer = s.answer ∧
    (s.scrubBurst d address outcome syndrome).links = s.links ∧
    (s.scrubBurst d address outcome syndrome).copy = s.copy ∧
    (s.scrubBurst d address outcome syndrome).rings = s.rings ∧
    (s.scrubBurst d address outcome syndrome).boot = s.boot ∧
    (s.scrubBurst d address outcome syndrome).mem.exchange = s.mem.exchange ∧
    (s.scrubBurst d address outcome syndrome).mem.areas = s.mem.areas := by
  simp [State.ite_kept .., State.modStack, State.scrubBurst, State.correctedError_kept .., State.retirePage_kept ..,
      State.stackError_kept ..]
theorem State.clearLog_kept (s : State) (d : Nat) :
    (s.clearLog d).now = s.now ∧ (s.clearLog d).pending = s.pending ∧ (s.clearLog d).answer = s.answer ∧
    (s.clearLog d).emits = s.emits ∧ (s.clearLog d).fresh = s.fresh ∧ (s.clearLog d).links = s.links ∧
    (s.clearLog d).shed = s.shed ∧ (s.clearLog d).copy = s.copy ∧ (s.clearLog d).fwd = s.fwd ∧
    (s.clearLog d).rings = s.rings ∧ (s.clearLog d).str = s.str ∧ (s.clearLog d).egr = s.egr ∧
    (s.clearLog d).alm = s.alm ∧ (s.clearLog d).allots = s.allots ∧ (s.clearLog d).irq = s.irq ∧
    (s.clearLog d).flt = s.flt ∧ (s.clearLog d).cal = s.cal ∧ (s.clearLog d).gauge = s.gauge ∧
    (s.clearLog d).mod = s.mod ∧ (s.clearLog d).clk = s.clk ∧ (s.clearLog d).boot = s.boot ∧
    (s.clearLog d).mem.exchange = s.mem.exchange ∧ (s.clearLog d).mem.areas = s.mem.areas := by
  simp [State.modStack, State.clearLog]
theorem State.dropChange_kept (s : State) (d : Nat) :
    (s.dropChange d).now = s.now ∧ (s.dropChange d).pending = s.pending ∧ (s.dropChange d).answer = s.answer ∧
    (s.dropChange d).emits = s.emits ∧ (s.dropChange d).fresh = s.fresh ∧ (s.dropChange d).links = s.links ∧
    (s.dropChange d).shed = s.shed ∧ (s.dropChange d).copy = s.copy ∧ (s.dropChange d).fwd = s.fwd ∧
    (s.dropChange d).rings = s.rings ∧ (s.dropChange d).str = s.str ∧ (s.dropChange d).egr = s.egr ∧
    (s.dropChange d).alm = s.alm ∧ (s.dropChange d).allots = s.allots ∧ (s.dropChange d).irq = s.irq ∧
    (s.dropChange d).flt = s.flt ∧ (s.dropChange d).cal = s.cal ∧ (s.dropChange d).gauge = s.gauge ∧
    (s.dropChange d).mod = s.mod ∧ (s.dropChange d).clk = s.clk ∧ (s.dropChange d).boot = s.boot ∧
    (s.dropChange d).mem.exchange = s.mem.exchange ∧ (s.dropChange d).mem.areas = s.mem.areas := by
  simp [State.dropChange]
theorem State.pairPoint_kept (s : State) (d : Nat) (v : Nat) :
    (s.pairPoint d v).now = s.now ∧ (s.pairPoint d v).pending = s.pending ∧ (s.pairPoint d v).answer = s.answer ∧
    (s.pairPoint d v).emits = s.emits ∧ (s.pairPoint d v).fresh = s.fresh ∧ (s.pairPoint d v).links = s.links ∧
    (s.pairPoint d v).shed = s.shed ∧ (s.pairPoint d v).copy = s.copy ∧ (s.pairPoint d v).fwd = s.fwd ∧
    (s.pairPoint d v).rings = s.rings ∧ (s.pairPoint d v).str = s.str ∧ (s.pairPoint d v).egr = s.egr ∧
    (s.pairPoint d v).allots = s.allots ∧ (s.pairPoint d v).irq = s.irq ∧ (s.pairPoint d v).flt = s.flt ∧
    (s.pairPoint d v).cal = s.cal ∧ (s.pairPoint d v).gauge = s.gauge ∧ (s.pairPoint d v).mod = s.mod ∧
    (s.pairPoint d v).clk = s.clk ∧ (s.pairPoint d v).boot = s.boot ∧
    (s.pairPoint d v).mem.exchange = s.mem.exchange ∧ (s.pairPoint d v).mem.areas = s.mem.areas := by
  simp [State.modStack, State.pairPoint, State.setCfgN_kept ..]
theorem State.setPoint_kept (s : State) (d : Nat) (v : Nat) :
    (s.setPoint d v).2.now = s.now ∧ (s.setPoint d v).2.pending = s.pending ∧ (s.setPoint d v).2.answer = s.answer ∧
    (s.setPoint d v).2.emits = s.emits ∧ (s.setPoint d v).2.fresh = s.fresh ∧ (s.setPoint d v).2.links = s.links ∧
    (s.setPoint d v).2.shed = s.shed ∧ (s.setPoint d v).2.copy = s.copy ∧ (s.setPoint d v).2.fwd = s.fwd ∧
    (s.setPoint d v).2.rings = s.rings ∧ (s.setPoint d v).2.str = s.str ∧ (s.setPoint d v).2.egr = s.egr ∧
    (s.setPoint d v).2.allots = s.allots ∧ (s.setPoint d v).2.irq = s.irq ∧ (s.setPoint d v).2.flt = s.flt ∧
    (s.setPoint d v).2.cal = s.cal ∧ (s.setPoint d v).2.gauge = s.gauge ∧ (s.setPoint d v).2.mod = s.mod ∧
    (s.setPoint d v).2.boot = s.boot ∧ (s.setPoint d v).2.mem.exchange = s.mem.exchange ∧
    (s.setPoint d v).2.mem.areas = s.mem.areas := by
  simp [State.ite_kept .., State.modStack, State.setPoint, State.dropChange_kept .., State.pairPoint_kept ..,
      State.startPll_kept ..,
      State.stopPll_kept ..]
theorem State.excuseOn_kept (s : State) (d : Nat) (n : Nat) (w : Twin) :
    (s.excuseOn d n w).now = s.now ∧ (s.excuseOn d n w).pending = s.pending ∧ (s.excuseOn d n w).answer = s.answer ∧
    (s.excuseOn d n w).fresh = s.fresh ∧ (s.excuseOn d n w).links = s.links ∧ (s.excuseOn d n w).shed = s.shed ∧
    (s.excuseOn d n w).copy = s.copy ∧ (s.excuseOn d n w).fwd = s.fwd ∧ (s.excuseOn d n w).rings = s.rings ∧
    (s.excuseOn d n w).egr = s.egr ∧ (s.excuseOn d n w).alm = s.alm ∧ (s.excuseOn d n w).mem = s.mem ∧
    (s.excuseOn d n w).flt = s.flt ∧ (s.excuseOn d n w).cal = s.cal ∧ (s.excuseOn d n w).gauge = s.gauge ∧
    (s.excuseOn d n w).mod = s.mod ∧ (s.excuseOn d n w).clk = s.clk ∧ (s.excuseOn d n w).boot = s.boot := by
  simp only [State.excuseOn]; (repeat' split) <;> simp [State.countTwin_kept .., State.setExcused_kept ..]
theorem State.excuseStack_kept (s : State) (d : Nat) :
    (s.excuseStack d).now = s.now ∧ (s.excuseStack d).pending = s.pending ∧ (s.excuseStack d).answer = s.answer ∧
    (s.excuseStack d).fresh = s.fresh ∧ (s.excuseStack d).links = s.links ∧ (s.excuseStack d).shed = s.shed ∧
    (s.excuseStack d).copy = s.copy ∧ (s.excuseStack d).fwd = s.fwd ∧ (s.excuseStack d).rings = s.rings ∧
    (s.excuseStack d).egr = s.egr ∧ (s.excuseStack d).alm = s.alm ∧ (s.excuseStack d).mem = s.mem ∧
    (s.excuseStack d).flt = s.flt ∧ (s.excuseStack d).cal = s.cal ∧ (s.excuseStack d).gauge = s.gauge ∧
    (s.excuseStack d).mod = s.mod ∧ (s.excuseStack d).clk = s.clk ∧ (s.excuseStack d).boot = s.boot := by
  simp [State.excuseStack, State.excuseOn_kept ..]
theorem State.opStart_kept (s : State) (d : Nat) :
    (s.opStart d).now = s.now ∧ (s.opStart d).pending = s.pending ∧ (s.opStart d).answer = s.answer ∧
    (s.opStart d).fresh = s.fresh ∧ (s.opStart d).links = s.links ∧ (s.opStart d).shed = s.shed ∧
    (s.opStart d).copy = s.copy ∧ (s.opStart d).fwd = s.fwd ∧ (s.opStart d).rings = s.rings ∧
    (s.opStart d).egr = s.egr ∧ (s.opStart d).alm = s.alm ∧ (s.opStart d).flt = s.flt ∧ (s.opStart d).cal = s.cal ∧
    (s.opStart d).gauge = s.gauge ∧ (s.opStart d).mod = s.mod ∧ (s.opStart d).clk = s.clk ∧
    (s.opStart d).boot = s.boot ∧ (s.opStart d).mem.exchange = s.mem.exchange ∧
    (s.opStart d).mem.areas = s.mem.areas := by
  simp [State.ite_kept .., State.modStack, State.opStart, State.dropChange_kept .., State.excuseStack_kept ..]
theorem State.opHold_kept (s : State) (d : Nat) :
    (s.opHold d).now = s.now ∧ (s.opHold d).pending = s.pending ∧ (s.opHold d).answer = s.answer ∧
    (s.opHold d).fresh = s.fresh ∧ (s.opHold d).links = s.links ∧ (s.opHold d).shed = s.shed ∧
    (s.opHold d).copy = s.copy ∧ (s.opHold d).fwd = s.fwd ∧ (s.opHold d).rings = s.rings ∧ (s.opHold d).egr = s.egr ∧
    (s.opHold d).alm = s.alm ∧ (s.opHold d).flt = s.flt ∧ (s.opHold d).cal = s.cal ∧ (s.opHold d).gauge = s.gauge ∧
    (s.opHold d).mod = s.mod ∧ (s.opHold d).clk = s.clk ∧ (s.opHold d).boot = s.boot ∧
    (s.opHold d).mem.exchange = s.mem.exchange ∧ (s.opHold d).mem.areas = s.mem.areas := by
  simp [State.ite_kept .., State.opHold, State.soilAbort_kept ..]
theorem State.opDone_kept (s : State) (d : Nat) :
    (s.opDone d).now = s.now ∧ (s.opDone d).pending = s.pending ∧ (s.opDone d).answer = s.answer ∧
    (s.opDone d).emits = s.emits ∧ (s.opDone d).fresh = s.fresh ∧ (s.opDone d).links = s.links ∧
    (s.opDone d).shed = s.shed ∧ (s.opDone d).copy = s.copy ∧ (s.opDone d).fwd = s.fwd ∧
    (s.opDone d).rings = s.rings ∧ (s.opDone d).str = s.str ∧ (s.opDone d).egr = s.egr ∧ (s.opDone d).alm = s.alm ∧
    (s.opDone d).allots = s.allots ∧ (s.opDone d).irq = s.irq ∧ (s.opDone d).flt = s.flt ∧ (s.opDone d).cal = s.cal ∧
    (s.opDone d).gauge = s.gauge ∧ (s.opDone d).mod = s.mod ∧ (s.opDone d).boot = s.boot ∧
    (s.opDone d).mem.exchange = s.mem.exchange ∧ (s.opDone d).mem.areas = s.mem.areas := by
  simp [State.ite_kept .., State.modStack, State.opDone, State.startPll_kept .., State.stopPll_kept ..]
theorem State.opTimeout_kept (s : State) (d : Nat) :
    (s.opTimeout d).now = s.now ∧ (s.opTimeout d).pending = s.pending ∧ (s.opTimeout d).answer = s.answer ∧
    (s.opTimeout d).links = s.links ∧ (s.opTimeout d).copy = s.copy ∧ (s.opTimeout d).rings = s.rings ∧
    (s.opTimeout d).boot = s.boot ∧ (s.opTimeout d).mem.exchange = s.mem.exchange ∧
    (s.opTimeout d).mem.areas = s.mem.areas := by
  simp [State.ite_kept .., State.modStack, State.opTimeout, State.pruneStack_kept .., State.raiseFault_kept ..]
theorem State.setExchange_kept (s : State) (a : Nat) (off : Nat) (b : Byte) :
    (s.setExchange a off b).now = s.now ∧ (s.setExchange a off b).pending = s.pending ∧
    (s.setExchange a off b).answer = s.answer ∧ (s.setExchange a off b).emits = s.emits ∧
    (s.setExchange a off b).fresh = s.fresh ∧ (s.setExchange a off b).links = s.links ∧
    (s.setExchange a off b).shed = s.shed ∧ (s.setExchange a off b).copy = s.copy ∧
    (s.setExchange a off b).fwd = s.fwd ∧ (s.setExchange a off b).rings = s.rings ∧
    (s.setExchange a off b).str = s.str ∧ (s.setExchange a off b).egr = s.egr ∧ (s.setExchange a off b).alm = s.alm ∧
    (s.setExchange a off b).allots = s.allots ∧ (s.setExchange a off b).irq = s.irq ∧
    (s.setExchange a off b).flt = s.flt ∧ (s.setExchange a off b).cal = s.cal ∧
    (s.setExchange a off b).gauge = s.gauge ∧ (s.setExchange a off b).mod = s.mod ∧
    (s.setExchange a off b).clk = s.clk ∧ (s.setExchange a off b).boot = s.boot := by
  simp [State.setExchange]
theorem State.putExchange_kept (s : State) (a : Nat) (k : Nat) (l : List Byte) :
    (s.putExchange a k l).now = s.now ∧ (s.putExchange a k l).pending = s.pending ∧
    (s.putExchange a k l).answer = s.answer ∧ (s.putExchange a k l).emits = s.emits ∧
    (s.putExchange a k l).fresh = s.fresh ∧ (s.putExchange a k l).links = s.links ∧
    (s.putExchange a k l).shed = s.shed ∧ (s.putExchange a k l).copy = s.copy ∧ (s.putExchange a k l).fwd = s.fwd ∧
    (s.putExchange a k l).rings = s.rings ∧ (s.putExchange a k l).str = s.str ∧ (s.putExchange a k l).egr = s.egr ∧
    (s.putExchange a k l).alm = s.alm ∧ (s.putExchange a k l).allots = s.allots ∧ (s.putExchange a k l).irq = s.irq ∧
    (s.putExchange a k l).flt = s.flt ∧ (s.putExchange a k l).cal = s.cal ∧ (s.putExchange a k l).gauge = s.gauge ∧
    (s.putExchange a k l).mod = s.mod ∧ (s.putExchange a k l).clk = s.clk ∧ (s.putExchange a k l).boot = s.boot := by
  induction l generalizing s k with
  | nil => simp [State.putExchange]
  | cons b r ih => simp [State.putExchange, ih, State.setExchange]
theorem State.settleArea_kept (s : State) (a : Nat) :
    (s.settleArea a).now = s.now ∧ (s.settleArea a).pending = s.pending ∧ (s.settleArea a).answer = s.answer ∧
    (s.settleArea a).emits = s.emits ∧ (s.settleArea a).links = s.links ∧ (s.settleArea a).shed = s.shed ∧
    (s.settleArea a).copy = s.copy ∧ (s.settleArea a).fwd = s.fwd ∧ (s.settleArea a).rings = s.rings ∧
    (s.settleArea a).str = s.str ∧ (s.settleArea a).egr = s.egr ∧ (s.settleArea a).alm = s.alm ∧
    (s.settleArea a).allots = s.allots ∧ (s.settleArea a).irq = s.irq ∧ (s.settleArea a).flt = s.flt ∧
    (s.settleArea a).cal = s.cal ∧ (s.settleArea a).gauge = s.gauge ∧ (s.settleArea a).mod = s.mod ∧
    (s.settleArea a).clk = s.clk ∧ (s.settleArea a).boot = s.boot := by
  simp [State.ite_kept .., State.refresh, State.settleArea]
theorem State.dmaDone_kept (s : State) (c : Nat) :
    (s.dmaDone c).now = s.now ∧ (s.dmaDone c).pending = s.pending ∧ (s.dmaDone c).answer = s.answer ∧
    (s.dmaDone c).links = s.links ∧ (s.dmaDone c).shed = s.shed ∧ (s.dmaDone c).copy = s.copy ∧
    (s.dmaDone c).fwd = s.fwd ∧ (s.dmaDone c).rings = s.rings ∧ (s.dmaDone c).str = s.str ∧
    (s.dmaDone c).egr = s.egr ∧ (s.dmaDone c).alm = s.alm ∧ (s.dmaDone c).flt = s.flt ∧ (s.dmaDone c).cal = s.cal ∧
    (s.dmaDone c).gauge = s.gauge ∧ (s.dmaDone c).mod = s.mod ∧ (s.dmaDone c).clk = s.clk ∧
    (s.dmaDone c).boot = s.boot := by
  simp [State.ite_kept .., State.modDma, State.dmaDone, State.raise_kept .., State.settleArea_kept ..]
theorem State.dmaHalt_kept (s : State) (c : Nat) (offset : Nat) (cause : Nat) (write : Bool) :
    (s.dmaHalt c offset cause write).now = s.now ∧ (s.dmaHalt c offset cause write).pending = s.pending ∧
    (s.dmaHalt c offset cause write).answer = s.answer ∧ (s.dmaHalt c offset cause write).links = s.links ∧
    (s.dmaHalt c offset cause write).shed = s.shed ∧ (s.dmaHalt c offset cause write).copy = s.copy ∧
    (s.dmaHalt c offset cause write).fwd = s.fwd ∧ (s.dmaHalt c offset cause write).rings = s.rings ∧
    (s.dmaHalt c offset cause write).str = s.str ∧ (s.dmaHalt c offset cause write).egr = s.egr ∧
    (s.dmaHalt c offset cause write).alm = s.alm ∧ (s.dmaHalt c offset cause write).flt = s.flt ∧
    (s.dmaHalt c offset cause write).cal = s.cal ∧ (s.dmaHalt c offset cause write).gauge = s.gauge ∧
    (s.dmaHalt c offset cause write).mod = s.mod ∧ (s.dmaHalt c offset cause write).clk = s.clk ∧
    (s.dmaHalt c offset cause write).boot = s.boot := by
  simp [State.ite_kept .., State.modAllot, State.modDma, State.dmaHalt, State.raise_kept .., State.settleArea_kept ..]
theorem State.dmaStart_kept (s : State) (a : Nat) (c : Nat) :
    (s.dmaStart a c).now = s.now ∧ (s.dmaStart a c).pending = s.pending ∧ (s.dmaStart a c).answer = s.answer ∧
    (s.dmaStart a c).links = s.links ∧ (s.dmaStart a c).shed = s.shed ∧ (s.dmaStart a c).copy = s.copy ∧
    (s.dmaStart a c).fwd = s.fwd ∧ (s.dmaStart a c).rings = s.rings ∧ (s.dmaStart a c).str = s.str ∧
    (s.dmaStart a c).egr = s.egr ∧ (s.dmaStart a c).alm = s.alm ∧ (s.dmaStart a c).flt = s.flt ∧
    (s.dmaStart a c).cal = s.cal ∧ (s.dmaStart a c).gauge = s.gauge ∧ (s.dmaStart a c).mod = s.mod ∧
    (s.dmaStart a c).clk = s.clk ∧ (s.dmaStart a c).boot = s.boot := by
  simp [State.ite_kept .., State.modDma, State.dmaStart, State.dmaDone_kept ..]
theorem State.dmaDisable_kept (s : State) (a : Nat) (c : Nat) :
    (s.dmaDisable a c).now = s.now ∧ (s.dmaDisable a c).pending = s.pending ∧ (s.dmaDisable a c).answer = s.answer ∧
    (s.dmaDisable a c).emits = s.emits ∧ (s.dmaDisable a c).links = s.links ∧ (s.dmaDisable a c).shed = s.shed ∧
    (s.dmaDisable a c).copy = s.copy ∧ (s.dmaDisable a c).fwd = s.fwd ∧ (s.dmaDisable a c).rings = s.rings ∧
    (s.dmaDisable a c).str = s.str ∧ (s.dmaDisable a c).egr = s.egr ∧ (s.dmaDisable a c).alm = s.alm ∧
    (s.dmaDisable a c).allots = s.allots ∧ (s.dmaDisable a c).irq = s.irq ∧ (s.dmaDisable a c).flt = s.flt ∧
    (s.dmaDisable a c).cal = s.cal ∧ (s.dmaDisable a c).gauge = s.gauge ∧ (s.dmaDisable a c).mod = s.mod ∧
    (s.dmaDisable a c).clk = s.clk ∧ (s.dmaDisable a c).boot = s.boot := by
  simp [State.ite_kept .., State.modDma, State.refresh, State.dmaDisable, State.putExchange_kept ..,
      State.settleArea_kept ..]
theorem State.dmaClear_kept (s : State) (a : Nat) (c : Nat) :
    (s.dmaClear a c).now = s.now ∧ (s.dmaClear a c).pending = s.pending ∧ (s.dmaClear a c).answer = s.answer ∧
    (s.dmaClear a c).emits = s.emits ∧ (s.dmaClear a c).fresh = s.fresh ∧ (s.dmaClear a c).links = s.links ∧
    (s.dmaClear a c).shed = s.shed ∧ (s.dmaClear a c).copy = s.copy ∧ (s.dmaClear a c).fwd = s.fwd ∧
    (s.dmaClear a c).rings = s.rings ∧ (s.dmaClear a c).str = s.str ∧ (s.dmaClear a c).egr = s.egr ∧
    (s.dmaClear a c).alm = s.alm ∧ (s.dmaClear a c).allots = s.allots ∧ (s.dmaClear a c).irq = s.irq ∧
    (s.dmaClear a c).flt = s.flt ∧ (s.dmaClear a c).cal = s.cal ∧ (s.dmaClear a c).gauge = s.gauge ∧
    (s.dmaClear a c).mod = s.mod ∧ (s.dmaClear a c).clk = s.clk ∧ (s.dmaClear a c).boot = s.boot ∧
    (s.dmaClear a c).mem.exchange = s.mem.exchange ∧ (s.dmaClear a c).mem.areas = s.mem.areas := by
  simp [State.ite_kept .., State.modDma, State.dmaClear]
theorem State.dmaWrite_kept (s : State) (c : Nat) (data : List Byte) :
    (s.dmaWrite c data).now = s.now ∧ (s.dmaWrite c data).pending = s.pending ∧
    (s.dmaWrite c data).answer = s.answer ∧ (s.dmaWrite c data).fresh = s.fresh ∧
    (s.dmaWrite c data).links = s.links ∧ (s.dmaWrite c data).shed = s.shed ∧ (s.dmaWrite c data).copy = s.copy ∧
    (s.dmaWrite c data).fwd = s.fwd ∧ (s.dmaWrite c data).rings = s.rings ∧ (s.dmaWrite c data).str = s.str ∧
    (s.dmaWrite c data).egr = s.egr ∧ (s.dmaWrite c data).alm = s.alm ∧ (s.dmaWrite c data).irq = s.irq ∧
    (s.dmaWrite c data).flt = s.flt ∧ (s.dmaWrite c data).cal = s.cal ∧ (s.dmaWrite c data).gauge = s.gauge ∧
    (s.dmaWrite c data).mod = s.mod ∧ (s.dmaWrite c data).clk = s.clk ∧ (s.dmaWrite c data).boot = s.boot := by
  simp [State.ite_kept .., State.emit, State.modAllot, State.modDma, State.dmaWrite, State.putExchange_kept ..]
theorem State.dmaDrain_kept (s : State) (c : Nat) (k : Nat) :
    (s.dmaDrain c k).now = s.now ∧ (s.dmaDrain c k).pending = s.pending ∧ (s.dmaDrain c k).answer = s.answer ∧
    (s.dmaDrain c k).fresh = s.fresh ∧ (s.dmaDrain c k).links = s.links ∧ (s.dmaDrain c k).shed = s.shed ∧
    (s.dmaDrain c k).copy = s.copy ∧ (s.dmaDrain c k).fwd = s.fwd ∧ (s.dmaDrain c k).rings = s.rings ∧
    (s.dmaDrain c k).str = s.str ∧ (s.dmaDrain c k).egr = s.egr ∧ (s.dmaDrain c k).alm = s.alm ∧
    (s.dmaDrain c k).irq = s.irq ∧ (s.dmaDrain c k).flt = s.flt ∧ (s.dmaDrain c k).cal = s.cal ∧
    (s.dmaDrain c k).gauge = s.gauge ∧ (s.dmaDrain c k).mod = s.mod ∧ (s.dmaDrain c k).clk = s.clk ∧
    (s.dmaDrain c k).boot = s.boot := by
  induction k generalizing s with
  | zero => simp [State.modDma, State.dmaDrain, State.dmaWrite_kept ..]
  | succ k ih => simp only [State.dmaDrain]; (repeat' split) <;> simp_all [State.modDma, State.dmaWrite_kept ..]
theorem State.dmaArrive_kept (s : State) (c : Nat) (offset : Nat) (data : List Byte) :
    (s.dmaArrive c offset data).now = s.now ∧ (s.dmaArrive c offset data).pending = s.pending ∧
    (s.dmaArrive c offset data).answer = s.answer ∧ (s.dmaArrive c offset data).links = s.links ∧
    (s.dmaArrive c offset data).shed = s.shed ∧ (s.dmaArrive c offset data).copy = s.copy ∧
    (s.dmaArrive c offset data).fwd = s.fwd ∧ (s.dmaArrive c offset data).rings = s.rings ∧
    (s.dmaArrive c offset data).str = s.str ∧ (s.dmaArrive c offset data).egr = s.egr ∧
    (s.dmaArrive c offset data).alm = s.alm ∧ (s.dmaArrive c offset data).flt = s.flt ∧
    (s.dmaArrive c offset data).cal = s.cal ∧ (s.dmaArrive c offset data).gauge = s.gauge ∧
    (s.dmaArrive c offset data).mod = s.mod ∧ (s.dmaArrive c offset data).clk = s.clk ∧
    (s.dmaArrive c offset data).boot = s.boot := by
  simp [State.ite_kept .., State.dmaArrive, State.dmaDone_kept .., State.dmaDrain_kept .., State.dmaHalt_kept ..]
theorem State.dmaFail_kept (s : State) (c : Nat) (offset : Nat) (cause : Nat) :
    (s.dmaFail c offset cause).now = s.now ∧ (s.dmaFail c offset cause).pending = s.pending ∧
    (s.dmaFail c offset cause).answer = s.answer ∧ (s.dmaFail c offset cause).links = s.links ∧
    (s.dmaFail c offset cause).copy = s.copy ∧ (s.dmaFail c offset cause).rings = s.rings ∧
    (s.dmaFail c offset cause).boot = s.boot := by
  simp [State.ite_kept .., State.modDma, State.dmaFail, State.dmaHalt_kept .., State.readError_kept ..]

/-! ## Calibration.lean -/

theorem State.calStart_kept (s : State) (b : List Byte) :
    (s.calStart b).2.now = s.now ∧ (s.calStart b).2.pending = s.pending ∧ (s.calStart b).2.answer = s.answer ∧
    (s.calStart b).2.emits = s.emits ∧ (s.calStart b).2.fresh = s.fresh ∧ (s.calStart b).2.links = s.links ∧
    (s.calStart b).2.shed = s.shed ∧ (s.calStart b).2.copy = s.copy ∧ (s.calStart b).2.rings = s.rings ∧
    (s.calStart b).2.str = s.str ∧ (s.calStart b).2.egr = s.egr ∧ (s.calStart b).2.alm = s.alm ∧
    (s.calStart b).2.allots = s.allots ∧ (s.calStart b).2.irq = s.irq ∧ (s.calStart b).2.mem = s.mem ∧
    (s.calStart b).2.flt = s.flt ∧ (s.calStart b).2.gauge = s.gauge ∧ (s.calStart b).2.mod = s.mod ∧
    (s.calStart b).2.clk = s.clk ∧ (s.calStart b).2.boot = s.boot := by
  simp [State.ite_kept .., State.calStart, State.nextBatch_kept ..]
theorem State.realign_kept (s : State) (p : Nat) :
    (s.realign p).now = s.now ∧ (s.realign p).pending = s.pending ∧ (s.realign p).answer = s.answer ∧
    (s.realign p).emits = s.emits ∧ (s.realign p).fresh = s.fresh ∧ (s.realign p).links = s.links ∧
    (s.realign p).shed = s.shed ∧ (s.realign p).copy = s.copy ∧ (s.realign p).rings = s.rings ∧
    (s.realign p).str = s.str ∧ (s.realign p).egr = s.egr ∧ (s.realign p).alm = s.alm ∧
    (s.realign p).allots = s.allots ∧ (s.realign p).irq = s.irq ∧ (s.realign p).mem = s.mem ∧
    (s.realign p).flt = s.flt ∧ (s.realign p).cal = s.cal ∧ (s.realign p).gauge = s.gauge ∧
    (s.realign p).mod = s.mod ∧ (s.realign p).clk = s.clk ∧ (s.realign p).boot = s.boot := by
  simp [State.ite_kept .., State.realign]
theorem State.pairMeasured_kept (s : State) (p : Nat) (trims : List Int) :
    (s.pairMeasured p trims).now = s.now ∧ (s.pairMeasured p trims).pending = s.pending ∧
    (s.pairMeasured p trims).answer = s.answer ∧ (s.pairMeasured p trims).links = s.links ∧
    (s.pairMeasured p trims).copy = s.copy ∧ (s.pairMeasured p trims).rings = s.rings ∧
    (s.pairMeasured p trims).boot = s.boot ∧ (s.pairMeasured p trims).mem.exchange = s.mem.exchange ∧
    (s.pairMeasured p trims).mem.areas = s.mem.areas := by
  simp [State.ite_kept .., State.pairMeasured, State.causeGone_kept .., State.nextBatch_kept .., State.raiseFault_kept ..,
      State.realign_kept ..]
theorem State.alignTimeout_kept (s : State) (lp : Nat) :
    (s.alignTimeout lp).now = s.now ∧ (s.alignTimeout lp).pending = s.pending ∧
    (s.alignTimeout lp).answer = s.answer ∧ (s.alignTimeout lp).fresh = s.fresh ∧
    (s.alignTimeout lp).links = s.links ∧ (s.alignTimeout lp).shed = s.shed ∧ (s.alignTimeout lp).copy = s.copy ∧
    (s.alignTimeout lp).rings = s.rings ∧ (s.alignTimeout lp).str = s.str ∧ (s.alignTimeout lp).egr = s.egr ∧
    (s.alignTimeout lp).alm = s.alm ∧ (s.alignTimeout lp).mem = s.mem ∧ (s.alignTimeout lp).flt = s.flt ∧
    (s.alignTimeout lp).cal = s.cal ∧ (s.alignTimeout lp).gauge = s.gauge ∧ (s.alignTimeout lp).mod = s.mod ∧
    (s.alignTimeout lp).clk = s.clk ∧ (s.alignTimeout lp).boot = s.boot := by
  simp [State.ite_kept .., State.modPort, State.alignTimeout, State.portLost_kept ..]
theorem State.sensorsDone_kept (s : State) (results : List (Nat × Int × Int)) :
    (s.sensorsDone results).now = s.now ∧ (s.sensorsDone results).pending = s.pending ∧
    (s.sensorsDone results).answer = s.answer ∧ (s.sensorsDone results).emits = s.emits ∧
    (s.sensorsDone results).fresh = s.fresh ∧ (s.sensorsDone results).links = s.links ∧
    (s.sensorsDone results).shed = s.shed ∧ (s.sensorsDone results).copy = s.copy ∧
    (s.sensorsDone results).fwd = s.fwd ∧ (s.sensorsDone results).rings = s.rings ∧
    (s.sensorsDone results).str = s.str ∧ (s.sensorsDone results).egr = s.egr ∧ (s.sensorsDone results).alm = s.alm ∧
    (s.sensorsDone results).allots = s.allots ∧ (s.sensorsDone results).irq = s.irq ∧
    (s.sensorsDone results).mem = s.mem ∧ (s.sensorsDone results).flt = s.flt ∧
    (s.sensorsDone results).gauge = s.gauge ∧ (s.sensorsDone results).mod = s.mod ∧
    (s.sensorsDone results).clk = s.clk ∧ (s.sensorsDone results).boot = s.boot := by
  simp [State.ite_kept .., State.sensorsDone]
theorem State.armEpoch_kept (s : State) (a : Nat) (v : Nat) :
    (s.armEpoch a v).now = s.now ∧ (s.armEpoch a v).pending = s.pending ∧ (s.armEpoch a v).answer = s.answer ∧
    (s.armEpoch a v).emits = s.emits ∧ (s.armEpoch a v).fresh = s.fresh ∧ (s.armEpoch a v).links = s.links ∧
    (s.armEpoch a v).shed = s.shed ∧ (s.armEpoch a v).copy = s.copy ∧ (s.armEpoch a v).fwd = s.fwd ∧
    (s.armEpoch a v).rings = s.rings ∧ (s.armEpoch a v).str = s.str ∧ (s.armEpoch a v).egr = s.egr ∧
    (s.armEpoch a v).alm = s.alm ∧ (s.armEpoch a v).irq = s.irq ∧ (s.armEpoch a v).mem = s.mem ∧
    (s.armEpoch a v).flt = s.flt ∧ (s.armEpoch a v).gauge = s.gauge ∧ (s.armEpoch a v).mod = s.mod ∧
    (s.armEpoch a v).clk = s.clk ∧ (s.armEpoch a v).boot = s.boot := by
  simp [State.ite_kept .., State.armEpoch, State.clamp_kept ..]
theorem State.saveTrims_kept (s : State) :
    s.saveTrims.now = s.now ∧ s.saveTrims.pending = s.pending ∧ s.saveTrims.answer = s.answer ∧
    s.saveTrims.emits = s.emits ∧ s.saveTrims.fresh = s.fresh ∧ s.saveTrims.links = s.links ∧
    s.saveTrims.shed = s.shed ∧ s.saveTrims.copy = s.copy ∧ s.saveTrims.fwd = s.fwd ∧ s.saveTrims.rings = s.rings ∧
    s.saveTrims.str = s.str ∧ s.saveTrims.egr = s.egr ∧ s.saveTrims.alm = s.alm ∧ s.saveTrims.allots = s.allots ∧
    s.saveTrims.irq = s.irq ∧ s.saveTrims.mem = s.mem ∧ s.saveTrims.flt = s.flt ∧ s.saveTrims.gauge = s.gauge ∧
    s.saveTrims.mod = s.mod ∧ s.saveTrims.clk = s.clk ∧ s.saveTrims.boot = s.boot := by
  simp [State.saveTrims]
theorem State.trimEpoch_kept (s : State) :
    s.trimEpoch.now = s.now ∧ s.trimEpoch.pending = s.pending ∧ s.trimEpoch.answer = s.answer ∧
    s.trimEpoch.emits = s.emits ∧ s.trimEpoch.fresh = s.fresh ∧ s.trimEpoch.links = s.links ∧
    s.trimEpoch.shed = s.shed ∧ s.trimEpoch.copy = s.copy ∧ s.trimEpoch.rings = s.rings ∧ s.trimEpoch.str = s.str ∧
    s.trimEpoch.egr = s.egr ∧ s.trimEpoch.alm = s.alm ∧ s.trimEpoch.allots = s.allots ∧ s.trimEpoch.irq = s.irq ∧
    s.trimEpoch.mem = s.mem ∧ s.trimEpoch.flt = s.flt ∧ s.trimEpoch.gauge = s.gauge ∧ s.trimEpoch.mod = s.mod ∧
    s.trimEpoch.clk = s.clk ∧ s.trimEpoch.boot = s.boot := by
  simp [State.ite_kept .., State.trimEpoch, State.interruptPair_kept .., State.saveTrims_kept ..]
theorem State.discardTrims_kept (s : State) :
    s.discardTrims.now = s.now ∧ s.discardTrims.pending = s.pending ∧ s.discardTrims.answer = s.answer ∧
    s.discardTrims.emits = s.emits ∧ s.discardTrims.fresh = s.fresh ∧ s.discardTrims.links = s.links ∧
    s.discardTrims.shed = s.shed ∧ s.discardTrims.copy = s.copy ∧ s.discardTrims.fwd = s.fwd ∧
    s.discardTrims.rings = s.rings ∧ s.discardTrims.str = s.str ∧ s.discardTrims.egr = s.egr ∧
    s.discardTrims.alm = s.alm ∧ s.discardTrims.allots = s.allots ∧ s.discardTrims.irq = s.irq ∧
    s.discardTrims.mem = s.mem ∧ s.discardTrims.flt = s.flt ∧ s.discardTrims.gauge = s.gauge ∧
    s.discardTrims.mod = s.mod ∧ s.discardTrims.clk = s.clk ∧ s.discardTrims.boot = s.boot := by
  simp [State.discardTrims]
theorem State.trimRestore_kept (s : State) (a : Nat) (b : List Byte) :
    (s.trimRestore a b).2.now = s.now ∧ (s.trimRestore a b).2.pending = s.pending ∧
    (s.trimRestore a b).2.answer = s.answer ∧ (s.trimRestore a b).2.emits = s.emits ∧
    (s.trimRestore a b).2.fresh = s.fresh ∧ (s.trimRestore a b).2.links = s.links ∧
    (s.trimRestore a b).2.shed = s.shed ∧ (s.trimRestore a b).2.copy = s.copy ∧ (s.trimRestore a b).2.fwd = s.fwd ∧
    (s.trimRestore a b).2.rings = s.rings ∧ (s.trimRestore a b).2.str = s.str ∧ (s.trimRestore a b).2.egr = s.egr ∧
    (s.trimRestore a b).2.alm = s.alm ∧ (s.trimRestore a b).2.irq = s.irq ∧ (s.trimRestore a b).2.mem = s.mem ∧
    (s.trimRestore a b).2.flt = s.flt ∧ (s.trimRestore a b).2.gauge = s.gauge ∧ (s.trimRestore a b).2.mod = s.mod ∧
    (s.trimRestore a b).2.clk = s.clk ∧ (s.trimRestore a b).2.boot = s.boot := by
  simp [State.ite_kept .., State.trimRestore, State.clamp_kept ..]

/-! ## Counters.lean -/

theorem State.tickAll_kept (s : State) :
    s.tickAll.now = s.now ∧ s.tickAll.pending = s.pending ∧ s.tickAll.answer = s.answer ∧ s.tickAll.emits = s.emits ∧
    s.tickAll.fresh = s.fresh ∧ s.tickAll.links = s.links ∧ s.tickAll.shed = s.shed ∧ s.tickAll.copy = s.copy ∧
    s.tickAll.fwd = s.fwd ∧ s.tickAll.rings = s.rings ∧ s.tickAll.egr = s.egr ∧ s.tickAll.alm = s.alm ∧
    s.tickAll.allots = s.allots ∧ s.tickAll.irq = s.irq ∧ s.tickAll.mem = s.mem ∧ s.tickAll.flt = s.flt ∧
    s.tickAll.cal = s.cal ∧ s.tickAll.gauge = s.gauge ∧ s.tickAll.mod = s.mod ∧ s.tickAll.clk = s.clk ∧
    s.tickAll.boot = s.boot := by
  simp [State.tickAll, State.tick_kept ..]
theorem State.selectCounter_kept (s : State) (i : Nat) (b : List Byte) :
    (s.selectCounter i b).now = s.now ∧ (s.selectCounter i b).pending = s.pending ∧
    (s.selectCounter i b).answer = s.answer ∧ (s.selectCounter i b).emits = s.emits ∧
    (s.selectCounter i b).fresh = s.fresh ∧ (s.selectCounter i b).links = s.links ∧
    (s.selectCounter i b).shed = s.shed ∧ (s.selectCounter i b).copy = s.copy ∧ (s.selectCounter i b).fwd = s.fwd ∧
    (s.selectCounter i b).rings = s.rings ∧ (s.selectCounter i b).egr = s.egr ∧
    (s.selectCounter i b).allots = s.allots ∧ (s.selectCounter i b).irq = s.irq ∧ (s.selectCounter i b).mem = s.mem ∧
    (s.selectCounter i b).flt = s.flt ∧ (s.selectCounter i b).cal = s.cal ∧ (s.selectCounter i b).gauge = s.gauge ∧
    (s.selectCounter i b).mod = s.mod ∧ (s.selectCounter i b).clk = s.clk ∧ (s.selectCounter i b).boot = s.boot := by
  simp [State.selectCounter, State.setCfg_kept .., State.tickAll_kept ..]
theorem State.freezeAll_kept (s : State) (on : Bool) :
    (s.freezeAll on).now = s.now ∧ (s.freezeAll on).pending = s.pending ∧ (s.freezeAll on).answer = s.answer ∧
    (s.freezeAll on).emits = s.emits ∧ (s.freezeAll on).fresh = s.fresh ∧ (s.freezeAll on).links = s.links ∧
    (s.freezeAll on).shed = s.shed ∧ (s.freezeAll on).copy = s.copy ∧ (s.freezeAll on).fwd = s.fwd ∧
    (s.freezeAll on).rings = s.rings ∧ (s.freezeAll on).egr = s.egr ∧ (s.freezeAll on).alm = s.alm ∧
    (s.freezeAll on).allots = s.allots ∧ (s.freezeAll on).irq = s.irq ∧ (s.freezeAll on).mem = s.mem ∧
    (s.freezeAll on).flt = s.flt ∧ (s.freezeAll on).cal = s.cal ∧ (s.freezeAll on).gauge = s.gauge ∧
    (s.freezeAll on).mod = s.mod ∧ (s.freezeAll on).clk = s.clk ∧ (s.freezeAll on).boot = s.boot := by
  simp [State.freezeAll, State.tickAll_kept ..]
theorem State.snapshot_kept (s : State) :
    s.snapshot.now = s.now ∧ s.snapshot.pending = s.pending ∧ s.snapshot.answer = s.answer ∧
    s.snapshot.emits = s.emits ∧ s.snapshot.fresh = s.fresh ∧ s.snapshot.links = s.links ∧ s.snapshot.shed = s.shed ∧
    s.snapshot.copy = s.copy ∧ s.snapshot.fwd = s.fwd ∧ s.snapshot.rings = s.rings ∧ s.snapshot.egr = s.egr ∧
    s.snapshot.alm = s.alm ∧ s.snapshot.allots = s.allots ∧ s.snapshot.irq = s.irq ∧ s.snapshot.mem = s.mem ∧
    s.snapshot.flt = s.flt ∧ s.snapshot.cal = s.cal ∧ s.snapshot.gauge = s.gauge ∧ s.snapshot.mod = s.mod ∧
    s.snapshot.clk = s.clk ∧ s.snapshot.boot = s.boot := by
  simp [State.ite_kept .., State.snapshot, State.tickAll_kept ..]
theorem State.counterSample_kept (s : State) (n : Nat) (i : Nat) (upc : Nat) (space : Bool) (slot : Nat) (picture : Nat) (row : Nat) (ctu : Nat) :
    (s.counterSample n i upc space slot picture row ctu).now = s.now ∧
    (s.counterSample n i upc space slot picture row ctu).pending = s.pending ∧
    (s.counterSample n i upc space slot picture row ctu).answer = s.answer ∧
    (s.counterSample n i upc space slot picture row ctu).fresh = s.fresh ∧
    (s.counterSample n i upc space slot picture row ctu).links = s.links ∧
    (s.counterSample n i upc space slot picture row ctu).shed = s.shed ∧
    (s.counterSample n i upc space slot picture row ctu).copy = s.copy ∧
    (s.counterSample n i upc space slot picture row ctu).fwd = s.fwd ∧
    (s.counterSample n i upc space slot picture row ctu).egr = s.egr ∧
    (s.counterSample n i upc space slot picture row ctu).alm = s.alm ∧
    (s.counterSample n i upc space slot picture row ctu).mem = s.mem ∧
    (s.counterSample n i upc space slot picture row ctu).flt = s.flt ∧
    (s.counterSample n i upc space slot picture row ctu).cal = s.cal ∧
    (s.counterSample n i upc space slot picture row ctu).gauge = s.gauge ∧
    (s.counterSample n i upc space slot picture row ctu).mod = s.mod ∧
    (s.counterSample n i upc space slot picture row ctu).clk = s.clk ∧
    (s.counterSample n i upc space slot picture row ctu).boot = s.boot := by
  simp [State.ite_kept .., State.modBed, State.counterSample, State.event_kept ..]
theorem State.orderHistClear_kept (s : State) (n : Nat) :
    (s.orderHistClear n).2.now = s.now ∧ (s.orderHistClear n).2.pending = s.pending ∧
    (s.orderHistClear n).2.answer = s.answer ∧ (s.orderHistClear n).2.emits = s.emits ∧
    (s.orderHistClear n).2.fresh = s.fresh ∧ (s.orderHistClear n).2.links = s.links ∧
    (s.orderHistClear n).2.shed = s.shed ∧ (s.orderHistClear n).2.copy = s.copy ∧ (s.orderHistClear n).2.fwd = s.fwd ∧
    (s.orderHistClear n).2.rings = s.rings ∧ (s.orderHistClear n).2.egr = s.egr ∧ (s.orderHistClear n).2.alm = s.alm ∧
    (s.orderHistClear n).2.allots = s.allots ∧ (s.orderHistClear n).2.irq = s.irq ∧
    (s.orderHistClear n).2.mem = s.mem ∧ (s.orderHistClear n).2.flt = s.flt ∧ (s.orderHistClear n).2.cal = s.cal ∧
    (s.orderHistClear n).2.gauge = s.gauge ∧ (s.orderHistClear n).2.mod = s.mod ∧ (s.orderHistClear n).2.clk = s.clk ∧
    (s.orderHistClear n).2.boot = s.boot := by
  simp [State.ite_kept .., State.modSlot, State.orderHistClear]
theorem State.setHarvest_kept (s : State) (a : Nat) (b : List Byte) :
    (s.setHarvest a b).2.now = s.now ∧ (s.setHarvest a b).2.pending = s.pending ∧
    (s.setHarvest a b).2.answer = s.answer ∧ (s.setHarvest a b).2.emits = s.emits ∧
    (s.setHarvest a b).2.fresh = s.fresh ∧ (s.setHarvest a b).2.links = s.links ∧ (s.setHarvest a b).2.shed = s.shed ∧
    (s.setHarvest a b).2.copy = s.copy ∧ (s.setHarvest a b).2.fwd = s.fwd ∧ (s.setHarvest a b).2.rings = s.rings ∧
    (s.setHarvest a b).2.str = s.str ∧ (s.setHarvest a b).2.egr = s.egr ∧ (s.setHarvest a b).2.alm = s.alm ∧
    (s.setHarvest a b).2.irq = s.irq ∧ (s.setHarvest a b).2.mem = s.mem ∧ (s.setHarvest a b).2.flt = s.flt ∧
    (s.setHarvest a b).2.cal = s.cal ∧ (s.setHarvest a b).2.gauge = s.gauge ∧ (s.setHarvest a b).2.mod = s.mod ∧
    (s.setHarvest a b).2.clk = s.clk ∧ (s.setHarvest a b).2.boot = s.boot := by
  simp [State.ite_kept .., State.setHarvest, State.modHarvest_kept ..]
theorem State.harvestAllot_kept (s : State) (a : Nat) :
    (s.harvestAllot a).now = s.now ∧ (s.harvestAllot a).pending = s.pending ∧ (s.harvestAllot a).answer = s.answer ∧
    (s.harvestAllot a).emits = s.emits ∧ (s.harvestAllot a).fresh = s.fresh ∧ (s.harvestAllot a).links = s.links ∧
    (s.harvestAllot a).shed = s.shed ∧ (s.harvestAllot a).copy = s.copy ∧ (s.harvestAllot a).fwd = s.fwd ∧
    (s.harvestAllot a).rings = s.rings ∧ (s.harvestAllot a).str = s.str ∧ (s.harvestAllot a).egr = s.egr ∧
    (s.harvestAllot a).alm = s.alm ∧ (s.harvestAllot a).irq = s.irq ∧ (s.harvestAllot a).mem = s.mem ∧
    (s.harvestAllot a).flt = s.flt ∧ (s.harvestAllot a).cal = s.cal ∧ (s.harvestAllot a).gauge = s.gauge ∧
    (s.harvestAllot a).mod = s.mod ∧ (s.harvestAllot a).clk = s.clk ∧ (s.harvestAllot a).boot = s.boot := by
  simp [State.harvestAllot, State.modHarvest_kept ..]
theorem State.harvest_kept (s : State) :
    s.harvest.now = s.now ∧ s.harvest.pending = s.pending ∧ s.harvest.answer = s.answer ∧ s.harvest.emits = s.emits ∧
    s.harvest.fresh = s.fresh ∧ s.harvest.links = s.links ∧ s.harvest.shed = s.shed ∧ s.harvest.copy = s.copy ∧
    s.harvest.fwd = s.fwd ∧ s.harvest.rings = s.rings ∧ s.harvest.egr = s.egr ∧ s.harvest.alm = s.alm ∧
    s.harvest.irq = s.irq ∧ s.harvest.mem = s.mem ∧ s.harvest.flt = s.flt ∧ s.harvest.cal = s.cal ∧
    s.harvest.gauge = s.gauge ∧ s.harvest.mod = s.mod ∧ s.harvest.clk = s.clk ∧ s.harvest.boot = s.boot := by
  simp [State.ite_kept .., State.harvest, State.harvestAllot_kept .., State.snapshot_kept ..]
theorem State.harvestShown_kept (s : State) (a : Nat) :
    (s.harvestShown a).now = s.now ∧ (s.harvestShown a).pending = s.pending ∧ (s.harvestShown a).answer = s.answer ∧
    (s.harvestShown a).emits = s.emits ∧ (s.harvestShown a).fresh = s.fresh ∧ (s.harvestShown a).links = s.links ∧
    (s.harvestShown a).shed = s.shed ∧ (s.harvestShown a).copy = s.copy ∧ (s.harvestShown a).fwd = s.fwd ∧
    (s.harvestShown a).rings = s.rings ∧ (s.harvestShown a).egr = s.egr ∧ (s.harvestShown a).alm = s.alm ∧
    (s.harvestShown a).irq = s.irq ∧ (s.harvestShown a).mem = s.mem ∧ (s.harvestShown a).flt = s.flt ∧
    (s.harvestShown a).cal = s.cal ∧ (s.harvestShown a).gauge = s.gauge ∧ (s.harvestShown a).mod = s.mod ∧
    (s.harvestShown a).clk = s.clk ∧ (s.harvestShown a).boot = s.boot := by
  simp only [State.harvestShown]; split <;> simp [State.modHarvest_kept ..]

/-! ## Gauge.lean -/

theorem State.modGauge_kept (s : State) (f : Gauge → Gauge) :
    (s.modGauge f).now = s.now ∧ (s.modGauge f).pending = s.pending ∧ (s.modGauge f).answer = s.answer ∧
    (s.modGauge f).emits = s.emits ∧ (s.modGauge f).fresh = s.fresh ∧ (s.modGauge f).links = s.links ∧
    (s.modGauge f).shed = s.shed ∧ (s.modGauge f).copy = s.copy ∧ (s.modGauge f).fwd = s.fwd ∧
    (s.modGauge f).rings = s.rings ∧ (s.modGauge f).str = s.str ∧ (s.modGauge f).egr = s.egr ∧
    (s.modGauge f).alm = s.alm ∧ (s.modGauge f).allots = s.allots ∧ (s.modGauge f).irq = s.irq ∧
    (s.modGauge f).mem = s.mem ∧ (s.modGauge f).flt = s.flt ∧ (s.modGauge f).cal = s.cal ∧
    (s.modGauge f).mod = s.mod ∧ (s.modGauge f).clk = s.clk ∧ (s.modGauge f).boot = s.boot := by
  simp [State.modGauge]
theorem State.meterSend_kept (s : State) (die : Nat) :
    (s.meterSend die).now = s.now ∧ (s.meterSend die).pending = s.pending ∧ (s.meterSend die).answer = s.answer ∧
    (s.meterSend die).emits = s.emits ∧ (s.meterSend die).fresh = s.fresh ∧ (s.meterSend die).links = s.links ∧
    (s.meterSend die).shed = s.shed ∧ (s.meterSend die).copy = s.copy ∧ (s.meterSend die).fwd = s.fwd ∧
    (s.meterSend die).rings = s.rings ∧ (s.meterSend die).str = s.str ∧ (s.meterSend die).egr = s.egr ∧
    (s.meterSend die).alm = s.alm ∧ (s.meterSend die).allots = s.allots ∧ (s.meterSend die).irq = s.irq ∧
    (s.meterSend die).mem = s.mem ∧ (s.meterSend die).flt = s.flt ∧ (s.meterSend die).cal = s.cal ∧
    (s.meterSend die).mod = s.mod ∧ (s.meterSend die).clk = s.clk ∧ (s.meterSend die).boot = s.boot := by
  simp [State.ite_kept .., State.meterSend]
theorem State.meterMissing_kept (s : State) (die : Nat) :
    (s.meterMissing die).now = s.now ∧ (s.meterMissing die).pending = s.pending ∧
    (s.meterMissing die).answer = s.answer ∧ (s.meterMissing die).emits = s.emits ∧
    (s.meterMissing die).fresh = s.fresh ∧ (s.meterMissing die).links = s.links ∧ (s.meterMissing die).shed = s.shed ∧
    (s.meterMissing die).copy = s.copy ∧ (s.meterMissing die).fwd = s.fwd ∧ (s.meterMissing die).rings = s.rings ∧
    (s.meterMissing die).str = s.str ∧ (s.meterMissing die).egr = s.egr ∧ (s.meterMissing die).alm = s.alm ∧
    (s.meterMissing die).allots = s.allots ∧ (s.meterMissing die).irq = s.irq ∧ (s.meterMissing die).mem = s.mem ∧
    (s.meterMissing die).flt = s.flt ∧ (s.meterMissing die).cal = s.cal ∧ (s.meterMissing die).mod = s.mod ∧
    (s.meterMissing die).clk = s.clk ∧ (s.meterMissing die).boot = s.boot := by
  simp [State.ite_kept .., State.meterMissing, State.modGauge_kept ..]
theorem State.gaugeTime_kept (s : State) :
    s.gaugeTime.now = s.now ∧ s.gaugeTime.pending = s.pending ∧ s.gaugeTime.answer = s.answer ∧
    s.gaugeTime.emits = s.emits ∧ s.gaugeTime.fresh = s.fresh ∧ s.gaugeTime.links = s.links ∧
    s.gaugeTime.shed = s.shed ∧ s.gaugeTime.copy = s.copy ∧ s.gaugeTime.fwd = s.fwd ∧ s.gaugeTime.rings = s.rings ∧
    s.gaugeTime.str = s.str ∧ s.gaugeTime.egr = s.egr ∧ s.gaugeTime.alm = s.alm ∧ s.gaugeTime.allots = s.allots ∧
    s.gaugeTime.irq = s.irq ∧ s.gaugeTime.mem = s.mem ∧ s.gaugeTime.flt = s.flt ∧ s.gaugeTime.cal = s.cal ∧
    s.gaugeTime.mod = s.mod ∧ s.gaugeTime.clk = s.clk ∧ s.gaugeTime.boot = s.boot := by
  simp [State.ite_kept .., State.gaugeTime, State.modGauge_kept ..]
theorem State.gaugeTimeFree_kept (s : State) :
    s.gaugeTimeFree.now = s.now ∧ s.gaugeTimeFree.pending = s.pending ∧ s.gaugeTimeFree.answer = s.answer ∧
    s.gaugeTimeFree.emits = s.emits ∧ s.gaugeTimeFree.fresh = s.fresh ∧ s.gaugeTimeFree.links = s.links ∧
    s.gaugeTimeFree.shed = s.shed ∧ s.gaugeTimeFree.copy = s.copy ∧ s.gaugeTimeFree.fwd = s.fwd ∧
    s.gaugeTimeFree.rings = s.rings ∧ s.gaugeTimeFree.str = s.str ∧ s.gaugeTimeFree.egr = s.egr ∧
    s.gaugeTimeFree.alm = s.alm ∧ s.gaugeTimeFree.allots = s.allots ∧ s.gaugeTimeFree.irq = s.irq ∧
    s.gaugeTimeFree.mem = s.mem ∧ s.gaugeTimeFree.flt = s.flt ∧ s.gaugeTimeFree.cal = s.cal ∧
    s.gaugeTimeFree.mod = s.mod ∧ s.gaugeTimeFree.clk = s.clk ∧ s.gaugeTimeFree.boot = s.boot := by
  simp [State.ite_kept .., State.gaugeTimeFree, State.modGauge_kept ..]
theorem State.closeInterval_kept (s : State) :
    s.closeInterval.now = s.now ∧ s.closeInterval.pending = s.pending ∧ s.closeInterval.answer = s.answer ∧
    s.closeInterval.fresh = s.fresh ∧ s.closeInterval.links = s.links ∧ s.closeInterval.shed = s.shed ∧
    s.closeInterval.copy = s.copy ∧ s.closeInterval.fwd = s.fwd ∧ s.closeInterval.rings = s.rings ∧
    s.closeInterval.str = s.str ∧ s.closeInterval.alm = s.alm ∧ s.closeInterval.mem = s.mem ∧
    s.closeInterval.flt = s.flt ∧ s.closeInterval.cal = s.cal ∧ s.closeInterval.mod = s.mod ∧
    s.closeInterval.clk = s.clk ∧ s.closeInterval.boot = s.boot := by
  simp only [State.closeInterval]; split <;> simp [State.ite_kept .., State.raise_kept ..]
theorem State.gaugeBoundary_kept (s : State) :
    s.gaugeBoundary.now = s.now ∧ s.gaugeBoundary.pending = s.pending ∧ s.gaugeBoundary.answer = s.answer ∧
    s.gaugeBoundary.fresh = s.fresh ∧ s.gaugeBoundary.links = s.links ∧ s.gaugeBoundary.shed = s.shed ∧
    s.gaugeBoundary.copy = s.copy ∧ s.gaugeBoundary.fwd = s.fwd ∧ s.gaugeBoundary.rings = s.rings ∧
    s.gaugeBoundary.str = s.str ∧ s.gaugeBoundary.alm = s.alm ∧ s.gaugeBoundary.mem = s.mem ∧
    s.gaugeBoundary.flt = s.flt ∧ s.gaugeBoundary.cal = s.cal ∧ s.gaugeBoundary.mod = s.mod ∧
    s.gaugeBoundary.clk = s.clk ∧ s.gaugeBoundary.boot = s.boot := by
  simp [State.ite_kept .., State.gaugeBoundary, State.closeInterval_kept ..]
theorem State.gaugeClose_kept (s : State) :
    s.gaugeClose.now = s.now ∧ s.gaugeClose.pending = s.pending ∧ s.gaugeClose.answer = s.answer ∧
    s.gaugeClose.fresh = s.fresh ∧ s.gaugeClose.links = s.links ∧ s.gaugeClose.shed = s.shed ∧
    s.gaugeClose.copy = s.copy ∧ s.gaugeClose.fwd = s.fwd ∧ s.gaugeClose.rings = s.rings ∧ s.gaugeClose.str = s.str ∧
    s.gaugeClose.alm = s.alm ∧ s.gaugeClose.mem = s.mem ∧ s.gaugeClose.flt = s.flt ∧ s.gaugeClose.cal = s.cal ∧
    s.gaugeClose.mod = s.mod ∧ s.gaugeClose.clk = s.clk ∧ s.gaugeClose.boot = s.boot := by
  simp only [State.gaugeClose]; split <;> simp [State.ite_kept .., State.closeInterval_kept ..]
theorem State.gaugeSend_kept (s : State) :
    s.gaugeSend.now = s.now ∧ s.gaugeSend.pending = s.pending ∧ s.gaugeSend.answer = s.answer ∧
    s.gaugeSend.fresh = s.fresh ∧ s.gaugeSend.links = s.links ∧ s.gaugeSend.shed = s.shed ∧
    s.gaugeSend.copy = s.copy ∧ s.gaugeSend.fwd = s.fwd ∧ s.gaugeSend.rings = s.rings ∧ s.gaugeSend.str = s.str ∧
    s.gaugeSend.egr = s.egr ∧ s.gaugeSend.alm = s.alm ∧ s.gaugeSend.allots = s.allots ∧ s.gaugeSend.irq = s.irq ∧
    s.gaugeSend.mem = s.mem ∧ s.gaugeSend.flt = s.flt ∧ s.gaugeSend.cal = s.cal ∧ s.gaugeSend.mod = s.mod ∧
    s.gaugeSend.clk = s.clk ∧ s.gaugeSend.boot = s.boot := by
  simp only [State.gaugeSend]; (repeat' split) <;> simp [State.emit, State.modGauge_kept ..]
theorem State.gaugeReplay_kept (s : State) :
    s.gaugeReplay.now = s.now ∧ s.gaugeReplay.pending = s.pending ∧ s.gaugeReplay.answer = s.answer ∧
    s.gaugeReplay.fresh = s.fresh ∧ s.gaugeReplay.links = s.links ∧ s.gaugeReplay.shed = s.shed ∧
    s.gaugeReplay.copy = s.copy ∧ s.gaugeReplay.fwd = s.fwd ∧ s.gaugeReplay.rings = s.rings ∧
    s.gaugeReplay.str = s.str ∧ s.gaugeReplay.egr = s.egr ∧ s.gaugeReplay.alm = s.alm ∧
    s.gaugeReplay.allots = s.allots ∧ s.gaugeReplay.irq = s.irq ∧ s.gaugeReplay.mem = s.mem ∧
    s.gaugeReplay.flt = s.flt ∧ s.gaugeReplay.cal = s.cal ∧ s.gaugeReplay.mod = s.mod ∧ s.gaugeReplay.clk = s.clk ∧
    s.gaugeReplay.boot = s.boot := by
  simp [State.ite_kept .., State.emit, State.gaugeReplay, State.modGauge_kept ..]
theorem State.sealOpens_kept (s : State) :
    s.sealOpens.now = s.now ∧ s.sealOpens.pending = s.pending ∧ s.sealOpens.answer = s.answer ∧
    s.sealOpens.links = s.links ∧ s.sealOpens.copy = s.copy ∧ s.sealOpens.rings = s.rings ∧
    s.sealOpens.boot = s.boot ∧ s.sealOpens.mem.exchange = s.mem.exchange ∧ s.sealOpens.mem.areas = s.mem.areas := by
  simp [State.ite_kept .., State.sealOpens, State.alert_kept .., State.modGauge_kept .., State.raiseFault_kept ..]
theorem State.gaugeLost_kept (s : State) :
    s.gaugeLost.now = s.now ∧ s.gaugeLost.pending = s.pending ∧ s.gaugeLost.answer = s.answer ∧
    s.gaugeLost.emits = s.emits ∧ s.gaugeLost.fresh = s.fresh ∧ s.gaugeLost.links = s.links ∧
    s.gaugeLost.shed = s.shed ∧ s.gaugeLost.copy = s.copy ∧ s.gaugeLost.fwd = s.fwd ∧ s.gaugeLost.rings = s.rings ∧
    s.gaugeLost.str = s.str ∧ s.gaugeLost.egr = s.egr ∧ s.gaugeLost.alm = s.alm ∧ s.gaugeLost.allots = s.allots ∧
    s.gaugeLost.irq = s.irq ∧ s.gaugeLost.mem = s.mem ∧ s.gaugeLost.flt = s.flt ∧ s.gaugeLost.cal = s.cal ∧
    s.gaugeLost.mod = s.mod ∧ s.gaugeLost.clk = s.clk ∧ s.gaugeLost.boot = s.boot := by
  simp [State.gaugeLost, State.modGauge_kept ..]
theorem State.gaugeReturns_kept (s : State) :
    s.gaugeReturns.now = s.now ∧ s.gaugeReturns.pending = s.pending ∧ s.gaugeReturns.answer = s.answer ∧
    s.gaugeReturns.links = s.links ∧ s.gaugeReturns.copy = s.copy ∧ s.gaugeReturns.rings = s.rings ∧
    s.gaugeReturns.boot = s.boot ∧ s.gaugeReturns.mem.exchange = s.mem.exchange ∧
    s.gaugeReturns.mem.areas = s.mem.areas := by
  simp [State.ite_kept .., State.gaugeReturns, State.modGauge_kept .., State.pulseFault_kept ..]
end Sys2Proof.Machine
end

