-- ==== Sys2Proof/Laws/FramesPower.lean ====
section
/-! SUPPORT. The parts of the state that the power-up steps and the Trellis leave alone: one lemma for each operation, by its parts. -/

set_option linter.unusedSimpArgs false

namespace Sys2Proof.Machine

/-! ## PowerUp.lean -/

theorem State.kept_kept (s : State) (lost : Bool) :
    (s.kept lost).now = s.now ∧ (s.kept lost).pending = s.pending ∧ (s.kept lost).answer = s.answer ∧
    (s.kept lost).emits = s.emits ∧ (s.kept lost).fresh = s.fresh := by
  simp [State.kept]
theorem State.reach_kept (s : State) (m : Nat) :
    (s.reach m).now = s.now ∧ (s.reach m).pending = s.pending ∧ (s.reach m).answer = s.answer ∧
    (s.reach m).emits = s.emits ∧ (s.reach m).fresh = s.fresh ∧ (s.reach m).links = s.links ∧
    (s.reach m).shed = s.shed ∧ (s.reach m).copy = s.copy ∧ (s.reach m).fwd = s.fwd ∧ (s.reach m).rings = s.rings ∧
    (s.reach m).str = s.str ∧ (s.reach m).egr = s.egr ∧ (s.reach m).alm = s.alm ∧ (s.reach m).allots = s.allots ∧
    (s.reach m).irq = s.irq ∧ (s.reach m).mem = s.mem ∧ (s.reach m).flt = s.flt ∧ (s.reach m).cal = s.cal ∧
    (s.reach m).gauge = s.gauge ∧ (s.reach m).mod = s.mod ∧ (s.reach m).clk = s.clk := by
  simp [State.reach]
theorem State.powersUp_kept (s : State) (tempC : Int) (split : BitVec 4) :
    (s.powersUp tempC split).now = s.now ∧ (s.powersUp tempC split).pending = s.pending ∧
    (s.powersUp tempC split).answer = s.answer := by
  simp [State.ite_kept .., State.powersUp, State.kept_kept .., State.pulseFault_kept .., State.reach_kept ..,
      State.startPll_kept ..]
theorem State.dorsenUp_kept (s : State) (newerSigned : Bool) :
    (s.dorsenUp newerSigned).now = s.now ∧ (s.dorsenUp newerSigned).pending = s.pending ∧
    (s.dorsenUp newerSigned).answer = s.answer ∧ (s.dorsenUp newerSigned).emits = s.emits ∧
    (s.dorsenUp newerSigned).fresh = s.fresh ∧ (s.dorsenUp newerSigned).links = s.links ∧
    (s.dorsenUp newerSigned).copy = s.copy ∧ (s.dorsenUp newerSigned).fwd = s.fwd ∧
    (s.dorsenUp newerSigned).rings = s.rings ∧ (s.dorsenUp newerSigned).str = s.str ∧
    (s.dorsenUp newerSigned).egr = s.egr ∧ (s.dorsenUp newerSigned).alm = s.alm ∧
    (s.dorsenUp newerSigned).allots = s.allots ∧ (s.dorsenUp newerSigned).irq = s.irq ∧
    (s.dorsenUp newerSigned).mem = s.mem ∧ (s.dorsenUp newerSigned).flt = s.flt ∧
    (s.dorsenUp newerSigned).cal = s.cal ∧ (s.dorsenUp newerSigned).gauge = s.gauge ∧
    (s.dorsenUp newerSigned).mod = s.mod ∧ (s.dorsenUp newerSigned).clk = s.clk := by
  simp [State.ite_kept .., State.dorsenUp]
theorem State.memoryTrained_kept (s : State) (failed : List Nat) :
    (s.memoryTrained failed).now = s.now ∧ (s.memoryTrained failed).pending = s.pending ∧
    (s.memoryTrained failed).answer = s.answer ∧ (s.memoryTrained failed).links = s.links ∧
    (s.memoryTrained failed).copy = s.copy ∧ (s.memoryTrained failed).rings = s.rings ∧
    (s.memoryTrained failed).mem.exchange = s.mem.exchange ∧ (s.memoryTrained failed).mem.areas = s.mem.areas := by
  simp [State.ite_kept .., State.memoryTrained, State.raiseFault_kept .., State.reach_kept ..]
theorem State.loadTrims_kept (s : State) :
    s.loadTrims.now = s.now ∧ s.loadTrims.pending = s.pending ∧ s.loadTrims.answer = s.answer ∧
    s.loadTrims.emits = s.emits ∧ s.loadTrims.fresh = s.fresh ∧ s.loadTrims.links = s.links ∧
    s.loadTrims.shed = s.shed ∧ s.loadTrims.copy = s.copy ∧ s.loadTrims.fwd = s.fwd ∧ s.loadTrims.rings = s.rings ∧
    s.loadTrims.str = s.str ∧ s.loadTrims.egr = s.egr ∧ s.loadTrims.alm = s.alm ∧ s.loadTrims.allots = s.allots ∧
    s.loadTrims.irq = s.irq ∧ s.loadTrims.mem = s.mem ∧ s.loadTrims.flt = s.flt ∧ s.loadTrims.gauge = s.gauge ∧
    s.loadTrims.mod = s.mod ∧ s.loadTrims.clk = s.clk := by
  simp [State.loadTrims]
theorem State.trimsBack_kept (s : State) :
    s.trimsBack.now = s.now ∧ s.trimsBack.pending = s.pending ∧ s.trimsBack.answer = s.answer ∧
    s.trimsBack.fresh = s.fresh ∧ s.trimsBack.links = s.links ∧ s.trimsBack.shed = s.shed ∧
    s.trimsBack.copy = s.copy ∧ s.trimsBack.rings = s.rings ∧ s.trimsBack.str = s.str ∧ s.trimsBack.egr = s.egr ∧
    s.trimsBack.alm = s.alm ∧ s.trimsBack.mem = s.mem ∧ s.trimsBack.flt = s.flt ∧ s.trimsBack.gauge = s.gauge ∧
    s.trimsBack.mod = s.mod := by
  simp [State.ite_kept .., State.trimsBack, State.loadTrims_kept .., State.reach_kept .., State.setPort_kept ..,
      State.startPll_kept ..]
theorem State.ptpHeld_kept (s : State) (lp : Nat) (f : Frame) :
    (s.ptpHeld lp f).now = s.now ∧ (s.ptpHeld lp f).pending = s.pending ∧ (s.ptpHeld lp f).answer = s.answer ∧
    (s.ptpHeld lp f).fresh = s.fresh ∧ (s.ptpHeld lp f).links = s.links ∧ (s.ptpHeld lp f).shed = s.shed ∧
    (s.ptpHeld lp f).copy = s.copy ∧ (s.ptpHeld lp f).fwd = s.fwd ∧ (s.ptpHeld lp f).rings = s.rings ∧
    (s.ptpHeld lp f).str = s.str ∧ (s.ptpHeld lp f).egr = s.egr ∧ (s.ptpHeld lp f).alm = s.alm ∧
    (s.ptpHeld lp f).mem = s.mem ∧ (s.ptpHeld lp f).flt = s.flt ∧ (s.ptpHeld lp f).cal = s.cal ∧
    (s.ptpHeld lp f).gauge = s.gauge ∧ (s.ptpHeld lp f).mod = s.mod := by
  simp only [State.ptpHeld]; (repeat' split) <;> simp [State.ite_kept .., State.announced_kept ..,
  State.peerDelay_kept ..]
theorem State.drainPtp_kept (s : State) :
    s.drainPtp.now = s.now ∧ s.drainPtp.pending = s.pending ∧ s.drainPtp.answer = s.answer ∧
    s.drainPtp.fresh = s.fresh ∧ s.drainPtp.links = s.links ∧ s.drainPtp.shed = s.shed ∧ s.drainPtp.copy = s.copy ∧
    s.drainPtp.fwd = s.fwd ∧ s.drainPtp.rings = s.rings ∧ s.drainPtp.str = s.str ∧ s.drainPtp.egr = s.egr ∧
    s.drainPtp.alm = s.alm ∧ s.drainPtp.mem = s.mem ∧ s.drainPtp.flt = s.flt ∧ s.drainPtp.cal = s.cal ∧
    s.drainPtp.gauge = s.gauge ∧ s.drainPtp.mod = s.mod := by
  simp [State.drainPtp, State.ptpHeld_kept ..]
theorem State.pipelinesUp_kept (s : State) :
    s.pipelinesUp.pending = s.pending ∧ s.pipelinesUp.answer = s.answer ∧ s.pipelinesUp.fresh = s.fresh ∧
    s.pipelinesUp.links = s.links ∧ s.pipelinesUp.shed = s.shed ∧ s.pipelinesUp.copy = s.copy ∧
    s.pipelinesUp.rings = s.rings ∧ s.pipelinesUp.str = s.str ∧ s.pipelinesUp.alm = s.alm ∧
    s.pipelinesUp.mem = s.mem ∧ s.pipelinesUp.flt = s.flt ∧ s.pipelinesUp.cal = s.cal ∧
    s.pipelinesUp.gauge = s.gauge ∧ s.pipelinesUp.mod = s.mod := by
  simp [State.ite_kept .., State.pipelinesUp, State.bmca_kept .., State.drainPtp_kept .., State.gatesAt_kept ..,
      State.reach_kept ..]
theorem State.almanacUp_kept (s : State) :
    s.almanacUp.now = s.now ∧ s.almanacUp.pending = s.pending ∧ s.almanacUp.answer = s.answer ∧
    s.almanacUp.emits = s.emits ∧ s.almanacUp.fresh = s.fresh ∧ s.almanacUp.links = s.links ∧
    s.almanacUp.shed = s.shed ∧ s.almanacUp.copy = s.copy ∧ s.almanacUp.fwd = s.fwd ∧ s.almanacUp.rings = s.rings ∧
    s.almanacUp.str = s.str ∧ s.almanacUp.egr = s.egr ∧ s.almanacUp.allots = s.allots ∧ s.almanacUp.irq = s.irq ∧
    s.almanacUp.mem = s.mem ∧ s.almanacUp.flt = s.flt ∧ s.almanacUp.cal = s.cal ∧ s.almanacUp.gauge = s.gauge ∧
    s.almanacUp.mod = s.mod ∧ s.almanacUp.clk = s.clk := by
  simp [State.ite_kept .., State.almanacUp, State.reach_kept ..]
theorem State.readmit_kept (s : State) (n : Nat) :
    (s.readmit n).now = s.now ∧ (s.readmit n).pending = s.pending ∧ (s.readmit n).answer = s.answer ∧
    (s.readmit n).fresh = s.fresh ∧ (s.readmit n).links = s.links ∧ (s.readmit n).shed = s.shed ∧
    (s.readmit n).copy = s.copy ∧ (s.readmit n).fwd = s.fwd ∧ (s.readmit n).rings = s.rings ∧
    (s.readmit n).egr = s.egr ∧ (s.readmit n).mem = s.mem ∧ (s.readmit n).flt = s.flt ∧ (s.readmit n).cal = s.cal ∧
    (s.readmit n).gauge = s.gauge ∧ (s.readmit n).mod = s.mod ∧ (s.readmit n).boot = s.boot := by
  simp only [State.readmit]
  split
  · simp [State.admitStream_kept .., State.countSoil_kept .., State.raise_kept ..]
  · split <;> (rename_i h; have k := State.admitStream_kept s n; simp only [h] at k; simp [k, State.admitStream_kept ..,
      State.countSoil_kept .., State.raise_kept ..])
theorem State.ticksStart_kept (s : State) :
    s.ticksStart.now = s.now ∧ s.ticksStart.pending = s.pending ∧ s.ticksStart.answer = s.answer ∧
    s.ticksStart.emits = s.emits ∧ s.ticksStart.fresh = s.fresh ∧ s.ticksStart.links = s.links ∧
    s.ticksStart.shed = s.shed ∧ s.ticksStart.copy = s.copy ∧ s.ticksStart.fwd = s.fwd ∧
    s.ticksStart.rings = s.rings ∧ s.ticksStart.str = s.str ∧ s.ticksStart.egr = s.egr ∧ s.ticksStart.alm = s.alm ∧
    s.ticksStart.allots = s.allots ∧ s.ticksStart.irq = s.irq ∧ s.ticksStart.mem = s.mem ∧ s.ticksStart.cal = s.cal ∧
    s.ticksStart.gauge = s.gauge ∧ s.ticksStart.mod = s.mod ∧ s.ticksStart.clk = s.clk ∧
    s.ticksStart.boot = s.boot := by
  simp [State.ite_kept .., State.ticksStart]
theorem State.fullyReady_kept (s : State) :
    s.fullyReady.now = s.now ∧ s.fullyReady.pending = s.pending ∧ s.fullyReady.answer = s.answer ∧
    s.fullyReady.fresh = s.fresh ∧ s.fullyReady.links = s.links ∧ s.fullyReady.shed = s.shed ∧
    s.fullyReady.copy = s.copy ∧ s.fullyReady.fwd = s.fwd ∧ s.fullyReady.rings = s.rings ∧ s.fullyReady.egr = s.egr ∧
    s.fullyReady.mem = s.mem ∧ s.fullyReady.cal = s.cal ∧ s.fullyReady.gauge = s.gauge ∧
    s.fullyReady.mod = s.mod := by
  simp [State.ite_kept .., State.fullyReady, State.keepWarm_kept .., State.reach_kept .., State.readmit_kept ..,
      State.sizePool_kept ..,
      State.ticksStart_kept ..]
theorem State.perstReleased_kept (s : State) (link : Nat) :
    (s.perstReleased link).now = s.now ∧ (s.perstReleased link).pending = s.pending ∧
    (s.perstReleased link).answer = s.answer ∧ (s.perstReleased link).emits = s.emits ∧
    (s.perstReleased link).fresh = s.fresh ∧ (s.perstReleased link).links = s.links ∧
    (s.perstReleased link).shed = s.shed ∧ (s.perstReleased link).copy = s.copy ∧ (s.perstReleased link).fwd = s.fwd ∧
    (s.perstReleased link).rings = s.rings ∧ (s.perstReleased link).str = s.str ∧ (s.perstReleased link).egr = s.egr ∧
    (s.perstReleased link).alm = s.alm ∧ (s.perstReleased link).allots = s.allots ∧
    (s.perstReleased link).irq = s.irq ∧ (s.perstReleased link).mem = s.mem ∧ (s.perstReleased link).flt = s.flt ∧
    (s.perstReleased link).cal = s.cal ∧ (s.perstReleased link).gauge = s.gauge ∧ (s.perstReleased link).mod = s.mod ∧
    (s.perstReleased link).clk = s.clk := by
  simp [State.perstReleased]
theorem State.configRequest_kept (s : State) (link : Nat) :
    (s.configRequest link).now = s.now ∧ (s.configRequest link).pending = s.pending ∧
    (s.configRequest link).answer = s.answer ∧ (s.configRequest link).fresh = s.fresh ∧
    (s.configRequest link).links = s.links ∧ (s.configRequest link).shed = s.shed ∧
    (s.configRequest link).copy = s.copy ∧ (s.configRequest link).fwd = s.fwd ∧
    (s.configRequest link).rings = s.rings ∧ (s.configRequest link).str = s.str ∧ (s.configRequest link).egr = s.egr ∧
    (s.configRequest link).alm = s.alm ∧ (s.configRequest link).allots = s.allots ∧
    (s.configRequest link).irq = s.irq ∧ (s.configRequest link).mem = s.mem ∧ (s.configRequest link).flt = s.flt ∧
    (s.configRequest link).cal = s.cal ∧ (s.configRequest link).gauge = s.gauge ∧ (s.configRequest link).mod = s.mod ∧
    (s.configRequest link).clk = s.clk ∧ (s.configRequest link).boot = s.boot := by
  simp [State.emit, State.configRequest]

/-! ## Trellis.lean -/

theorem State.laneFails_kept (s : State) (m : Nat) (dir : Nat) :
    (s.laneFails m dir).now = s.now ∧ (s.laneFails m dir).pending = s.pending ∧
    (s.laneFails m dir).answer = s.answer ∧ (s.laneFails m dir).copy = s.copy ∧ (s.laneFails m dir).rings = s.rings ∧
    (s.laneFails m dir).boot = s.boot ∧ (s.laneFails m dir).mem.exchange = s.mem.exchange ∧
    (s.laneFails m dir).mem.areas = s.mem.areas := by
  simp [State.ite_kept .., State.modLink, State.laneFails, State.raiseFault_kept ..]
theorem State.goesOn_kept (s : State) (k : Transfer) :
    (s.goesOn k).now = s.now ∧ (s.goesOn k).pending = s.pending ∧ (s.goesOn k).answer = s.answer ∧
    (s.goesOn k).shed = s.shed ∧ (s.goesOn k).copy = s.copy ∧ (s.goesOn k).rings = s.rings ∧
    (s.goesOn k).alm = s.alm ∧ (s.goesOn k).mem = s.mem ∧ (s.goesOn k).cal = s.cal ∧ (s.goesOn k).mod = s.mod ∧
    (s.goesOn k).clk = s.clk ∧ (s.goesOn k).boot = s.boot := by
  cases k <;> simp [State.ite_kept .., State.goesOn, State.copyComes_kept .., State.sendStrip_kept ..,
  State.sendCoded_kept .., State.sendChunk_kept .., State.sendEssence_kept .., State.pruneComes_kept ..]
theorem State.resumeLink_kept (s : State) (m : Nat) :
    (s.resumeLink m).now = s.now ∧ (s.resumeLink m).pending = s.pending ∧ (s.resumeLink m).answer = s.answer ∧
    (s.resumeLink m).shed = s.shed ∧ (s.resumeLink m).copy = s.copy ∧ (s.resumeLink m).rings = s.rings ∧
    (s.resumeLink m).alm = s.alm ∧ (s.resumeLink m).mem = s.mem ∧ (s.resumeLink m).cal = s.cal ∧
    (s.resumeLink m).mod = s.mod ∧ (s.resumeLink m).clk = s.clk ∧ (s.resumeLink m).boot = s.boot := by
  simp [State.ite_kept .., State.resumeLink, State.modLink, State.goesOn_kept ..]
theorem State.laneMoved_kept (s : State) (m : Nat) (dir : Nat) :
    (s.laneMoved m dir).now = s.now ∧ (s.laneMoved m dir).pending = s.pending ∧
    (s.laneMoved m dir).answer = s.answer ∧ (s.laneMoved m dir).shed = s.shed ∧
    (s.laneMoved m dir).copy = s.copy ∧ (s.laneMoved m dir).rings = s.rings ∧ (s.laneMoved m dir).alm = s.alm ∧
    (s.laneMoved m dir).mem = s.mem ∧ (s.laneMoved m dir).cal = s.cal ∧ (s.laneMoved m dir).mod = s.mod ∧
    (s.laneMoved m dir).clk = s.clk ∧ (s.laneMoved m dir).boot = s.boot := by
  simp [State.ite_kept .., State.laneMoved, State.modLink, State.resumeLink_kept .., State.causeGone_kept ..]
theorem State.copyCounters_kept (s : State) :
    s.copyCounters.now = s.now ∧ s.copyCounters.pending = s.pending ∧ s.copyCounters.answer = s.answer ∧
    s.copyCounters.emits = s.emits ∧ s.copyCounters.fresh = s.fresh ∧ s.copyCounters.links = s.links ∧
    s.copyCounters.shed = s.shed ∧ s.copyCounters.fwd = s.fwd ∧ s.copyCounters.rings = s.rings ∧
    s.copyCounters.str = s.str ∧ s.copyCounters.egr = s.egr ∧ s.copyCounters.alm = s.alm ∧
    s.copyCounters.allots = s.allots ∧ s.copyCounters.irq = s.irq ∧ s.copyCounters.mem = s.mem ∧
    s.copyCounters.flt = s.flt ∧ s.copyCounters.cal = s.cal ∧ s.copyCounters.gauge = s.gauge ∧
    s.copyCounters.mod = s.mod ∧ s.copyCounters.clk = s.clk ∧ s.copyCounters.boot = s.boot := by
  simp [State.copyCounters]
theorem State.restartShed_kept (s : State) (pair : Option Nat) (readyAt : Nat) :
    (s.restartShed pair readyAt).now = s.now ∧ (s.restartShed pair readyAt).pending = s.pending ∧
    (s.restartShed pair readyAt).answer = s.answer ∧ (s.restartShed pair readyAt).emits = s.emits ∧
    (s.restartShed pair readyAt).fresh = s.fresh ∧ (s.restartShed pair readyAt).links = s.links ∧
    (s.restartShed pair readyAt).fwd = s.fwd ∧ (s.restartShed pair readyAt).rings = s.rings ∧
    (s.restartShed pair readyAt).str = s.str ∧ (s.restartShed pair readyAt).egr = s.egr ∧
    (s.restartShed pair readyAt).alm = s.alm ∧ (s.restartShed pair readyAt).allots = s.allots ∧
    (s.restartShed pair readyAt).mem = s.mem ∧ (s.restartShed pair readyAt).flt = s.flt ∧
    (s.restartShed pair readyAt).cal = s.cal ∧ (s.restartShed pair readyAt).gauge = s.gauge ∧
    (s.restartShed pair readyAt).mod = s.mod ∧ (s.restartShed pair readyAt).clk = s.clk ∧
    (s.restartShed pair readyAt).boot = s.boot := by
  simp only [State.restartShed]; (repeat' split) <;> simp [State.copyCounters_kept .., State.shedReturn_kept ..]
end Sys2Proof.Machine
end

