-- ==== Sys2Proof/Laws/FramesEntries.lean ====
section
/-! SUPPORT. The parts of the state that allotments and the writes of Almanac entries leave alone: one lemma for each operation, by its parts. -/

set_option linter.unusedSimpArgs false

namespace Sys2Proof.Machine

/-! ## Allotments.lean -/

theorem State.covers_kept (s : State) (a : Nat) (fields : List Nat) :
    (s.covers a fields).now = s.now ∧ (s.covers a fields).pending = s.pending ∧
    (s.covers a fields).answer = s.answer ∧ (s.covers a fields).emits = s.emits ∧
    (s.covers a fields).fresh = s.fresh ∧ (s.covers a fields).links = s.links ∧ (s.covers a fields).shed = s.shed ∧
    (s.covers a fields).copy = s.copy ∧ (s.covers a fields).fwd = s.fwd ∧ (s.covers a fields).rings = s.rings ∧
    (s.covers a fields).str = s.str ∧ (s.covers a fields).egr = s.egr ∧ (s.covers a fields).allots = s.allots ∧
    (s.covers a fields).irq = s.irq ∧ (s.covers a fields).mem = s.mem ∧ (s.covers a fields).flt = s.flt ∧
    (s.covers a fields).cal = s.cal ∧ (s.covers a fields).gauge = s.gauge ∧ (s.covers a fields).mod = s.mod ∧
    (s.covers a fields).clk = s.clk ∧ (s.covers a fields).boot = s.boot := by
  simp [State.covers]
theorem State.settleGrants_kept (s : State) (a : Nat) :
    (s.settleGrants a).now = s.now ∧ (s.settleGrants a).pending = s.pending ∧ (s.settleGrants a).answer = s.answer ∧
    (s.settleGrants a).emits = s.emits ∧ (s.settleGrants a).fresh = s.fresh ∧
    (s.settleGrants a).mem.exchange = s.mem.exchange ∧ (s.settleGrants a).mem.areas = s.mem.areas := by
  simp [State.modAllot, State.settleGrants]
theorem State.grantLatches_kept (s : State) (a : Nat) (v : Nat) :
    (s.grantLatches a v).now = s.now ∧ (s.grantLatches a v).pending = s.pending ∧
    (s.grantLatches a v).answer = s.answer ∧ (s.grantLatches a v).emits = s.emits ∧
    (s.grantLatches a v).fresh = s.fresh ∧ (s.grantLatches a v).links = s.links ∧ (s.grantLatches a v).shed = s.shed ∧
    (s.grantLatches a v).copy = s.copy ∧ (s.grantLatches a v).fwd = s.fwd ∧ (s.grantLatches a v).rings = s.rings ∧
    (s.grantLatches a v).str = s.str ∧ (s.grantLatches a v).egr = s.egr ∧ (s.grantLatches a v).irq = s.irq ∧
    (s.grantLatches a v).mem = s.mem ∧ (s.grantLatches a v).flt = s.flt ∧ (s.grantLatches a v).cal = s.cal ∧
    (s.grantLatches a v).gauge = s.gauge ∧ (s.grantLatches a v).mod = s.mod ∧ (s.grantLatches a v).clk = s.clk ∧
    (s.grantLatches a v).boot = s.boot := by
  simp [State.modAllot, State.grantLatches, State.setCfgN_kept ..]
theorem State.latchRefuse_kept (s : State) (a : Nat) :
    (s.latchRefuse a).now = s.now ∧ (s.latchRefuse a).pending = s.pending ∧ (s.latchRefuse a).answer = s.answer ∧
    (s.latchRefuse a).emits = s.emits ∧ (s.latchRefuse a).fresh = s.fresh ∧ (s.latchRefuse a).links = s.links ∧
    (s.latchRefuse a).shed = s.shed ∧ (s.latchRefuse a).copy = s.copy ∧ (s.latchRefuse a).fwd = s.fwd ∧
    (s.latchRefuse a).rings = s.rings ∧ (s.latchRefuse a).str = s.str ∧ (s.latchRefuse a).egr = s.egr ∧
    (s.latchRefuse a).alm = s.alm ∧ (s.latchRefuse a).irq = s.irq ∧ (s.latchRefuse a).mem = s.mem ∧
    (s.latchRefuse a).flt = s.flt ∧ (s.latchRefuse a).cal = s.cal ∧ (s.latchRefuse a).gauge = s.gauge ∧
    (s.latchRefuse a).mod = s.mod ∧ (s.latchRefuse a).clk = s.clk ∧ (s.latchRefuse a).boot = s.boot := by
  simp [State.modAllot, State.latchRefuse]
theorem State.releaseLatch_kept (s : State) (a : Nat) (n : Nat) :
    (s.releaseLatch a n).now = s.now ∧ (s.releaseLatch a n).pending = s.pending ∧
    (s.releaseLatch a n).answer = s.answer ∧ (s.releaseLatch a n).emits = s.emits ∧
    (s.releaseLatch a n).fresh = s.fresh ∧ (s.releaseLatch a n).mem.exchange = s.mem.exchange ∧
    (s.releaseLatch a n).mem.areas = s.mem.areas := by
  simp [State.ite_kept .., State.setLatch, State.releaseLatch, State.latchRefuse_kept .., State.settleGrants_kept ..]
theorem State.acquireLatch_kept (s : State) (a : Nat) (n : Nat) (tag : BitVec 16) :
    (s.acquireLatch a n tag).now = s.now ∧ (s.acquireLatch a n tag).pending = s.pending ∧
    (s.acquireLatch a n tag).answer = s.answer ∧ (s.acquireLatch a n tag).emits = s.emits ∧
    (s.acquireLatch a n tag).fresh = s.fresh ∧ (s.acquireLatch a n tag).links = s.links ∧
    (s.acquireLatch a n tag).shed = s.shed ∧ (s.acquireLatch a n tag).copy = s.copy ∧
    (s.acquireLatch a n tag).fwd = s.fwd ∧ (s.acquireLatch a n tag).rings = s.rings ∧
    (s.acquireLatch a n tag).str = s.str ∧ (s.acquireLatch a n tag).egr = s.egr ∧
    (s.acquireLatch a n tag).irq = s.irq ∧ (s.acquireLatch a n tag).mem = s.mem ∧
    (s.acquireLatch a n tag).flt = s.flt ∧ (s.acquireLatch a n tag).cal = s.cal ∧
    (s.acquireLatch a n tag).gauge = s.gauge ∧ (s.acquireLatch a n tag).mod = s.mod ∧
    (s.acquireLatch a n tag).clk = s.clk ∧ (s.acquireLatch a n tag).boot = s.boot := by
  simp [State.ite_kept .., State.setLatch, State.acquireLatch, State.latchRefuse_kept ..]
@[simp] theorem State.windowWrite_now (s : State) (a : Nat) (l : List Nat) (f : State → State)
    (h : ∀ t : State, (f t).now = t.now) :
    (s.windowWrite a l f).now = s.now := by
  simp only [State.windowWrite]; split <;> simp [h, State.covers_kept ..]
@[simp] theorem State.windowWrite_pending (s : State) (a : Nat) (l : List Nat) (f : State → State)
    (h : ∀ t : State, (f t).pending = t.pending) :
    (s.windowWrite a l f).pending = s.pending := by
  simp only [State.windowWrite]; split <;> simp [h, State.covers_kept ..]
@[simp] theorem State.windowWrite_answer (s : State) (a : Nat) (l : List Nat) (f : State → State)
    (h : ∀ t : State, (f t).answer = t.answer) :
    (s.windowWrite a l f).answer = s.answer := by
  simp only [State.windowWrite]; split <;> simp [h, State.covers_kept ..]
@[simp] theorem State.windowWrite_emits (s : State) (a : Nat) (l : List Nat) (f : State → State)
    (h : ∀ t : State, (f t).emits = t.emits) :
    (s.windowWrite a l f).emits = s.emits := by
  simp only [State.windowWrite]; split <;> simp [h, State.covers_kept ..]
@[simp] theorem State.windowWrite_fresh (s : State) (a : Nat) (l : List Nat) (f : State → State)
    (h : ∀ t : State, (f t).fresh = t.fresh) :
    (s.windowWrite a l f).fresh = s.fresh := by
  simp only [State.windowWrite]; split <;> simp [h, State.covers_kept ..]
@[simp] theorem State.windowWrite_links (s : State) (a : Nat) (l : List Nat) (f : State → State)
    (h : ∀ t : State, (f t).links = t.links) :
    (s.windowWrite a l f).links = s.links := by
  simp only [State.windowWrite]; split <;> simp [h, State.covers_kept ..]
@[simp] theorem State.windowWrite_shed (s : State) (a : Nat) (l : List Nat) (f : State → State)
    (h : ∀ t : State, (f t).shed = t.shed) :
    (s.windowWrite a l f).shed = s.shed := by
  simp only [State.windowWrite]; split <;> simp [h, State.covers_kept ..]
@[simp] theorem State.windowWrite_copy (s : State) (a : Nat) (l : List Nat) (f : State → State)
    (h : ∀ t : State, (f t).copy = t.copy) :
    (s.windowWrite a l f).copy = s.copy := by
  simp only [State.windowWrite]; split <;> simp [h, State.covers_kept ..]
@[simp] theorem State.windowWrite_fwd (s : State) (a : Nat) (l : List Nat) (f : State → State)
    (h : ∀ t : State, (f t).fwd = t.fwd) :
    (s.windowWrite a l f).fwd = s.fwd := by
  simp only [State.windowWrite]; split <;> simp [h, State.covers_kept ..]
@[simp] theorem State.windowWrite_rings (s : State) (a : Nat) (l : List Nat) (f : State → State)
    (h : ∀ t : State, (f t).rings = t.rings) :
    (s.windowWrite a l f).rings = s.rings := by
  simp only [State.windowWrite]; split <;> simp [h, State.covers_kept ..]
@[simp] theorem State.windowWrite_str (s : State) (a : Nat) (l : List Nat) (f : State → State)
    (h : ∀ t : State, (f t).str = t.str) :
    (s.windowWrite a l f).str = s.str := by
  simp only [State.windowWrite]; split <;> simp [h, State.covers_kept ..]
@[simp] theorem State.windowWrite_egr (s : State) (a : Nat) (l : List Nat) (f : State → State)
    (h : ∀ t : State, (f t).egr = t.egr) :
    (s.windowWrite a l f).egr = s.egr := by
  simp only [State.windowWrite]; split <;> simp [h, State.covers_kept ..]
@[simp] theorem State.windowWrite_irq (s : State) (a : Nat) (l : List Nat) (f : State → State)
    (h : ∀ t : State, (f t).irq = t.irq) :
    (s.windowWrite a l f).irq = s.irq := by
  simp only [State.windowWrite]; split <;> simp [h, State.covers_kept ..]
@[simp] theorem State.windowWrite_mem (s : State) (a : Nat) (l : List Nat) (f : State → State)
    (h : ∀ t : State, (f t).mem = t.mem) :
    (s.windowWrite a l f).mem = s.mem := by
  simp only [State.windowWrite]; split <;> simp [h, State.covers_kept ..]
@[simp] theorem State.windowWrite_flt (s : State) (a : Nat) (l : List Nat) (f : State → State)
    (h : ∀ t : State, (f t).flt = t.flt) :
    (s.windowWrite a l f).flt = s.flt := by
  simp only [State.windowWrite]; split <;> simp [h, State.covers_kept ..]
@[simp] theorem State.windowWrite_cal (s : State) (a : Nat) (l : List Nat) (f : State → State)
    (h : ∀ t : State, (f t).cal = t.cal) :
    (s.windowWrite a l f).cal = s.cal := by
  simp only [State.windowWrite]; split <;> simp [h, State.covers_kept ..]
@[simp] theorem State.windowWrite_gauge (s : State) (a : Nat) (l : List Nat) (f : State → State)
    (h : ∀ t : State, (f t).gauge = t.gauge) :
    (s.windowWrite a l f).gauge = s.gauge := by
  simp only [State.windowWrite]; split <;> simp [h, State.covers_kept ..]
@[simp] theorem State.windowWrite_mod (s : State) (a : Nat) (l : List Nat) (f : State → State)
    (h : ∀ t : State, (f t).mod = t.mod) :
    (s.windowWrite a l f).mod = s.mod := by
  simp only [State.windowWrite]; split <;> simp [h, State.covers_kept ..]
@[simp] theorem State.windowWrite_clk (s : State) (a : Nat) (l : List Nat) (f : State → State)
    (h : ∀ t : State, (f t).clk = t.clk) :
    (s.windowWrite a l f).clk = s.clk := by
  simp only [State.windowWrite]; split <;> simp [h, State.covers_kept ..]
@[simp] theorem State.windowWrite_boot (s : State) (a : Nat) (l : List Nat) (f : State → State)
    (h : ∀ t : State, (f t).boot = t.boot) :
    (s.windowWrite a l f).boot = s.boot := by
  simp only [State.windowWrite]; split <;> simp [h, State.covers_kept ..]
@[simp] theorem State.windowWrite_exchange (s : State) (a : Nat) (l : List Nat) (f : State → State)
    (h : ∀ t : State, (f t).mem.exchange = t.mem.exchange) :
    (s.windowWrite a l f).mem.exchange = s.mem.exchange := by
  simp only [State.windowWrite]; split <;> simp [h, State.covers_kept ..]
@[simp] theorem State.windowWrite_areas (s : State) (a : Nat) (l : List Nat) (f : State → State)
    (h : ∀ t : State, (f t).mem.areas = t.mem.areas) :
    (s.windowWrite a l f).mem.areas = s.mem.areas := by
  simp only [State.windowWrite]; split <;> simp [h, State.covers_kept ..]
theorem State.latchCommand_kept (s : State) (a : Nat) (n : Nat) (acquire : Bool) (release : Bool) (tag : BitVec 16) :
    (s.latchCommand a n acquire release tag).now = s.now ∧
    (s.latchCommand a n acquire release tag).pending = s.pending ∧
    (s.latchCommand a n acquire release tag).answer = s.answer ∧
    (s.latchCommand a n acquire release tag).emits = s.emits ∧
    (s.latchCommand a n acquire release tag).fresh = s.fresh ∧
    (s.latchCommand a n acquire release tag).mem.exchange = s.mem.exchange ∧
    (s.latchCommand a n acquire release tag).mem.areas = s.mem.areas := by
  simp [State.ite_kept .., State.latchCommand, State.acquireLatch_kept .., State.latchRefuse_kept ..,
      State.releaseLatch_kept ..]
theorem State.tearLatches_kept (s : State) (a : Nat) :
    (s.tearLatches a).now = s.now ∧ (s.tearLatches a).pending = s.pending ∧ (s.tearLatches a).answer = s.answer ∧
    (s.tearLatches a).emits = s.emits ∧ (s.tearLatches a).fresh = s.fresh ∧
    (s.tearLatches a).mem.exchange = s.mem.exchange ∧ (s.tearLatches a).mem.areas = s.mem.areas := by
  simp [State.ite_kept .., State.tearLatches, State.settleGrants_kept ..]
theorem State.ringDoorbell_kept (s : State) (a : Nat) (number : Nat) :
    (s.ringDoorbell a number).now = s.now ∧ (s.ringDoorbell a number).pending = s.pending ∧
    (s.ringDoorbell a number).answer = s.answer ∧ (s.ringDoorbell a number).fresh = s.fresh ∧
    (s.ringDoorbell a number).links = s.links ∧ (s.ringDoorbell a number).shed = s.shed ∧
    (s.ringDoorbell a number).copy = s.copy ∧ (s.ringDoorbell a number).fwd = s.fwd ∧
    (s.ringDoorbell a number).rings = s.rings ∧ (s.ringDoorbell a number).str = s.str ∧
    (s.ringDoorbell a number).egr = s.egr ∧ (s.ringDoorbell a number).alm = s.alm ∧
    (s.ringDoorbell a number).mem = s.mem ∧ (s.ringDoorbell a number).flt = s.flt ∧
    (s.ringDoorbell a number).cal = s.cal ∧ (s.ringDoorbell a number).gauge = s.gauge ∧
    (s.ringDoorbell a number).mod = s.mod ∧ (s.ringDoorbell a number).clk = s.clk ∧
    (s.ringDoorbell a number).boot = s.boot := by
  simp [State.ite_kept .., State.modAllot, State.ringDoorbell, State.raise_kept ..]
theorem State.resetAllot_kept (s : State) (a : Nat) :
    (s.resetAllot a).now = s.now ∧ (s.resetAllot a).pending = s.pending ∧ (s.resetAllot a).answer = s.answer := by
  simp [State.resetAllot, State.dmaClear_kept .., State.dmaDisable_kept .., State.modMbox_kept ..,
      State.resetView_kept ..,
      State.ringFlush_kept .., State.tearLatches_kept ..]
theorem State.rebindLink_kept (s : State) (link : Nat) :
    (s.rebindLink link).now = s.now ∧ (s.rebindLink link).pending = s.pending ∧
    (s.rebindLink link).answer = s.answer ∧ (s.rebindLink link).emits = s.emits ∧
    (s.rebindLink link).fresh = s.fresh ∧ (s.rebindLink link).links = s.links ∧ (s.rebindLink link).shed = s.shed ∧
    (s.rebindLink link).copy = s.copy ∧ (s.rebindLink link).fwd = s.fwd ∧ (s.rebindLink link).rings = s.rings ∧
    (s.rebindLink link).str = s.str ∧ (s.rebindLink link).egr = s.egr ∧ (s.rebindLink link).alm = s.alm ∧
    (s.rebindLink link).irq = s.irq ∧ (s.rebindLink link).mem = s.mem ∧ (s.rebindLink link).flt = s.flt ∧
    (s.rebindLink link).cal = s.cal ∧ (s.rebindLink link).gauge = s.gauge ∧ (s.rebindLink link).mod = s.mod ∧
    (s.rebindLink link).clk = s.clk ∧ (s.rebindLink link).boot = s.boot := by
  simp [State.ite_kept .., State.rebindLink]
theorem State.resetLink_kept (s : State) (link : Nat) (kind : Nat) :
    (s.resetLink link kind).now = s.now ∧ (s.resetLink link kind).pending = s.pending ∧
    (s.resetLink link kind).answer = s.answer := by
  simp only [State.resetLink]; (repeat' split) <;> simp [State.causeGone_kept .., State.raiseFault_kept ..,
      State.rebindLink_kept .., State.resetAllot_kept ..]
theorem State.scrubVotes_kept (s : State) (fields : List (Nat × Nat)) :
    (s.scrubVotes fields).now = s.now ∧ (s.scrubVotes fields).pending = s.pending ∧
    (s.scrubVotes fields).answer = s.answer ∧ (s.scrubVotes fields).fresh = s.fresh ∧
    (s.scrubVotes fields).links = s.links ∧ (s.scrubVotes fields).shed = s.shed ∧
    (s.scrubVotes fields).copy = s.copy ∧ (s.scrubVotes fields).fwd = s.fwd ∧ (s.scrubVotes fields).rings = s.rings ∧
    (s.scrubVotes fields).str = s.str ∧ (s.scrubVotes fields).egr = s.egr ∧ (s.scrubVotes fields).mem = s.mem ∧
    (s.scrubVotes fields).cal = s.cal ∧ (s.scrubVotes fields).gauge = s.gauge ∧ (s.scrubVotes fields).mod = s.mod ∧
    (s.scrubVotes fields).clk = s.clk ∧ (s.scrubVotes fields).boot = s.boot := by
  simp [State.scrubVotes, State.logFault_kept ..]

/-! ## EntryWrites.lean -/

theorem State.ok_kept (s : State) :
    s.ok.2.2.now = s.now ∧ s.ok.2.2.pending = s.pending ∧ s.ok.2.2.answer = s.answer ∧ s.ok.2.2.emits = s.emits ∧
    s.ok.2.2.fresh = s.fresh ∧ s.ok.2.2.links = s.links ∧ s.ok.2.2.shed = s.shed ∧ s.ok.2.2.copy = s.copy ∧
    s.ok.2.2.fwd = s.fwd ∧ s.ok.2.2.rings = s.rings ∧ s.ok.2.2.str = s.str ∧ s.ok.2.2.egr = s.egr ∧
    s.ok.2.2.alm = s.alm ∧ s.ok.2.2.allots = s.allots ∧ s.ok.2.2.irq = s.irq ∧ s.ok.2.2.mem = s.mem ∧
    s.ok.2.2.flt = s.flt ∧ s.ok.2.2.cal = s.cal ∧ s.ok.2.2.gauge = s.gauge ∧ s.ok.2.2.mod = s.mod ∧
    s.ok.2.2.clk = s.clk ∧ s.ok.2.2.boot = s.boot := by
  simp [State.ok]
theorem State.okAt_kept (s : State) (t : Nat) :
    (s.okAt t).2.2.now = s.now ∧ (s.okAt t).2.2.pending = s.pending ∧ (s.okAt t).2.2.answer = s.answer ∧
    (s.okAt t).2.2.emits = s.emits ∧ (s.okAt t).2.2.fresh = s.fresh ∧ (s.okAt t).2.2.links = s.links ∧
    (s.okAt t).2.2.shed = s.shed ∧ (s.okAt t).2.2.copy = s.copy ∧ (s.okAt t).2.2.fwd = s.fwd ∧
    (s.okAt t).2.2.rings = s.rings ∧ (s.okAt t).2.2.str = s.str ∧ (s.okAt t).2.2.egr = s.egr ∧
    (s.okAt t).2.2.alm = s.alm ∧ (s.okAt t).2.2.allots = s.allots ∧ (s.okAt t).2.2.irq = s.irq ∧
    (s.okAt t).2.2.mem = s.mem ∧ (s.okAt t).2.2.flt = s.flt ∧ (s.okAt t).2.2.cal = s.cal ∧
    (s.okAt t).2.2.gauge = s.gauge ∧ (s.okAt t).2.2.mod = s.mod ∧ (s.okAt t).2.2.clk = s.clk ∧
    (s.okAt t).2.2.boot = s.boot := by
  simp [State.okAt]
theorem State.no_kept (s : State) (status : Nat) :
    (s.no status).2.2.now = s.now ∧ (s.no status).2.2.pending = s.pending ∧ (s.no status).2.2.answer = s.answer ∧
    (s.no status).2.2.emits = s.emits ∧ (s.no status).2.2.fresh = s.fresh ∧ (s.no status).2.2.links = s.links ∧
    (s.no status).2.2.shed = s.shed ∧ (s.no status).2.2.copy = s.copy ∧ (s.no status).2.2.fwd = s.fwd ∧
    (s.no status).2.2.rings = s.rings ∧ (s.no status).2.2.str = s.str ∧ (s.no status).2.2.egr = s.egr ∧
    (s.no status).2.2.alm = s.alm ∧ (s.no status).2.2.allots = s.allots ∧ (s.no status).2.2.irq = s.irq ∧
    (s.no status).2.2.mem = s.mem ∧ (s.no status).2.2.flt = s.flt ∧ (s.no status).2.2.cal = s.cal ∧
    (s.no status).2.2.gauge = s.gauge ∧ (s.no status).2.2.mod = s.mod ∧ (s.no status).2.2.clk = s.clk ∧
    (s.no status).2.2.boot = s.boot := by
  simp [State.no]
theorem State.clampIf_kept (s : State) (a : Nat) (b : Bool) :
    (s.clampIf a b).now = s.now ∧ (s.clampIf a b).pending = s.pending ∧ (s.clampIf a b).answer = s.answer ∧
    (s.clampIf a b).emits = s.emits ∧ (s.clampIf a b).fresh = s.fresh ∧ (s.clampIf a b).links = s.links ∧
    (s.clampIf a b).shed = s.shed ∧ (s.clampIf a b).copy = s.copy ∧ (s.clampIf a b).fwd = s.fwd ∧
    (s.clampIf a b).rings = s.rings ∧ (s.clampIf a b).str = s.str ∧ (s.clampIf a b).egr = s.egr ∧
    (s.clampIf a b).alm = s.alm ∧ (s.clampIf a b).irq = s.irq ∧ (s.clampIf a b).mem = s.mem ∧
    (s.clampIf a b).flt = s.flt ∧ (s.clampIf a b).cal = s.cal ∧ (s.clampIf a b).gauge = s.gauge ∧
    (s.clampIf a b).mod = s.mod ∧ (s.clampIf a b).clk = s.clk ∧ (s.clampIf a b).boot = s.boot := by
  simp [State.ite_kept .., State.clampIf, State.clamp_kept ..]
theorem State.clearPeers_kept (s : State) (l : List (Nat × Nat)) :
    (s.clearPeers l).now = s.now ∧ (s.clearPeers l).pending = s.pending ∧ (s.clearPeers l).answer = s.answer ∧
    (s.clearPeers l).emits = s.emits ∧ (s.clearPeers l).fresh = s.fresh ∧ (s.clearPeers l).links = s.links ∧
    (s.clearPeers l).shed = s.shed ∧ (s.clearPeers l).copy = s.copy ∧ (s.clearPeers l).fwd = s.fwd ∧
    (s.clearPeers l).rings = s.rings ∧ (s.clearPeers l).str = s.str ∧ (s.clearPeers l).egr = s.egr ∧
    (s.clearPeers l).allots = s.allots ∧ (s.clearPeers l).irq = s.irq ∧ (s.clearPeers l).mem = s.mem ∧
    (s.clearPeers l).flt = s.flt ∧ (s.clearPeers l).cal = s.cal ∧ (s.clearPeers l).gauge = s.gauge ∧
    (s.clearPeers l).mod = s.mod ∧ (s.clearPeers l).clk = s.clk ∧ (s.clearPeers l).boot = s.boot := by
  simp [State.clearPeers, State.setCfgN_kept ..]
theorem State.giveOwner_kept (s : State) (fam : Nat) (inst : Nat) (mem : Nat) (sp : Space) (n : Nat) (v : Nat) :
    (s.giveOwner fam inst mem sp n v).now = s.now ∧ (s.giveOwner fam inst mem sp n v).pending = s.pending ∧
    (s.giveOwner fam inst mem sp n v).answer = s.answer ∧ (s.giveOwner fam inst mem sp n v).emits = s.emits ∧
    (s.giveOwner fam inst mem sp n v).fresh = s.fresh ∧ (s.giveOwner fam inst mem sp n v).links = s.links ∧
    (s.giveOwner fam inst mem sp n v).shed = s.shed ∧ (s.giveOwner fam inst mem sp n v).copy = s.copy ∧
    (s.giveOwner fam inst mem sp n v).fwd = s.fwd ∧ (s.giveOwner fam inst mem sp n v).rings = s.rings ∧
    (s.giveOwner fam inst mem sp n v).allots = s.allots ∧ (s.giveOwner fam inst mem sp n v).mem = s.mem ∧
    (s.giveOwner fam inst mem sp n v).flt = s.flt ∧ (s.giveOwner fam inst mem sp n v).cal = s.cal ∧
    (s.giveOwner fam inst mem sp n v).gauge = s.gauge ∧ (s.giveOwner fam inst mem sp n v).mod = s.mod ∧
    (s.giveOwner fam inst mem sp n v).clk = s.clk ∧ (s.giveOwner fam inst mem sp n v).boot = s.boot := by
  simp only [State.giveOwner]; (repeat' split) <;> simp [State.modSlot, State.clearPeers_kept .., State.judgeAll_kept ..,
      State.reowned_kept .., State.setCfgN_kept .., State.sweepPeers_kept ..]
theorem State.takeKind_kept (s : State) (sp : Space) (n : Nat) :
    (s.takeKind sp n).now = s.now ∧ (s.takeKind sp n).pending = s.pending ∧ (s.takeKind sp n).answer = s.answer ∧
    (s.takeKind sp n).emits = s.emits ∧ (s.takeKind sp n).fresh = s.fresh ∧ (s.takeKind sp n).links = s.links ∧
    (s.takeKind sp n).shed = s.shed ∧ (s.takeKind sp n).copy = s.copy ∧ (s.takeKind sp n).fwd = s.fwd ∧
    (s.takeKind sp n).rings = s.rings ∧ (s.takeKind sp n).egr = s.egr ∧ (s.takeKind sp n).alm = s.alm ∧
    (s.takeKind sp n).allots = s.allots ∧ (s.takeKind sp n).irq = s.irq ∧ (s.takeKind sp n).mem = s.mem ∧
    (s.takeKind sp n).flt = s.flt ∧ (s.takeKind sp n).cal = s.cal ∧ (s.takeKind sp n).gauge = s.gauge ∧
    (s.takeKind sp n).mod = s.mod ∧ (s.takeKind sp n).clk = s.clk ∧ (s.takeKind sp n).boot = s.boot := by
  simp only [State.takeKind]; (repeat' split) <;> simp [State.modSlot]
theorem State.condition_kept (s : State) (c : Nat) (mem : Nat) (v : List Byte) :
    (s.condition c mem v).now = s.now ∧ (s.condition c mem v).pending = s.pending ∧
    (s.condition c mem v).answer = s.answer ∧ (s.condition c mem v).emits = s.emits ∧
    (s.condition c mem v).fresh = s.fresh ∧ (s.condition c mem v).links = s.links ∧
    (s.condition c mem v).shed = s.shed ∧ (s.condition c mem v).copy = s.copy ∧ (s.condition c mem v).fwd = s.fwd ∧
    (s.condition c mem v).rings = s.rings ∧ (s.condition c mem v).allots = s.allots ∧
    (s.condition c mem v).irq = s.irq ∧ (s.condition c mem v).mem = s.mem ∧ (s.condition c mem v).flt = s.flt ∧
    (s.condition c mem v).cal = s.cal ∧ (s.condition c mem v).gauge = s.gauge ∧ (s.condition c mem v).mod = s.mod ∧
    (s.condition c mem v).clk = s.clk ∧ (s.condition c mem v).boot = s.boot := by
  simp [State.ite_kept .., State.modIntake, State.condition, State.setCfg_kept .., State.sweepPeers_kept ..]
theorem State.writeCrop_kept (s : State) (a : Nat) (c : Nat) (b : List Byte) :
    (s.writeCrop a c b).2.2.now = s.now ∧ (s.writeCrop a c b).2.2.pending = s.pending ∧
    (s.writeCrop a c b).2.2.answer = s.answer ∧ (s.writeCrop a c b).2.2.emits = s.emits ∧
    (s.writeCrop a c b).2.2.fresh = s.fresh ∧ (s.writeCrop a c b).2.2.links = s.links ∧
    (s.writeCrop a c b).2.2.shed = s.shed ∧ (s.writeCrop a c b).2.2.copy = s.copy ∧
    (s.writeCrop a c b).2.2.fwd = s.fwd ∧ (s.writeCrop a c b).2.2.rings = s.rings ∧
    (s.writeCrop a c b).2.2.irq = s.irq ∧ (s.writeCrop a c b).2.2.mem = s.mem ∧ (s.writeCrop a c b).2.2.flt = s.flt ∧
    (s.writeCrop a c b).2.2.cal = s.cal ∧ (s.writeCrop a c b).2.2.gauge = s.gauge ∧
    (s.writeCrop a c b).2.2.mod = s.mod ∧ (s.writeCrop a c b).2.2.clk = s.clk ∧
    (s.writeCrop a c b).2.2.boot = s.boot := by
  simp [State.ite_kept .., State.writeCrop, State.clampIf_kept .., State.condition_kept .., State.no_kept ..,
      State.ok_kept ..]
theorem State.writeScale_kept (s : State) (a : Nat) (c : Nat) (b : List Byte) :
    (s.writeScale a c b).2.2.now = s.now ∧ (s.writeScale a c b).2.2.pending = s.pending ∧
    (s.writeScale a c b).2.2.answer = s.answer ∧ (s.writeScale a c b).2.2.emits = s.emits ∧
    (s.writeScale a c b).2.2.fresh = s.fresh ∧ (s.writeScale a c b).2.2.links = s.links ∧
    (s.writeScale a c b).2.2.shed = s.shed ∧ (s.writeScale a c b).2.2.copy = s.copy ∧
    (s.writeScale a c b).2.2.fwd = s.fwd ∧ (s.writeScale a c b).2.2.rings = s.rings ∧
    (s.writeScale a c b).2.2.irq = s.irq ∧ (s.writeScale a c b).2.2.mem = s.mem ∧
    (s.writeScale a c b).2.2.flt = s.flt ∧ (s.writeScale a c b).2.2.cal = s.cal ∧
    (s.writeScale a c b).2.2.gauge = s.gauge ∧ (s.writeScale a c b).2.2.mod = s.mod ∧
    (s.writeScale a c b).2.2.clk = s.clk ∧ (s.writeScale a c b).2.2.boot = s.boot := by
  simp [State.ite_kept .., State.writeScale, State.clampIf_kept .., State.condition_kept .., State.no_kept ..,
      State.ok_kept ..]
theorem State.writeCoef_kept (s : State) (a : Nat) (c : Nat) (b : List Byte) :
    (s.writeCoef a c b).2.2.now = s.now ∧ (s.writeCoef a c b).2.2.pending = s.pending ∧
    (s.writeCoef a c b).2.2.answer = s.answer ∧ (s.writeCoef a c b).2.2.emits = s.emits ∧
    (s.writeCoef a c b).2.2.fresh = s.fresh ∧ (s.writeCoef a c b).2.2.links = s.links ∧
    (s.writeCoef a c b).2.2.shed = s.shed ∧ (s.writeCoef a c b).2.2.copy = s.copy ∧
    (s.writeCoef a c b).2.2.fwd = s.fwd ∧ (s.writeCoef a c b).2.2.rings = s.rings ∧
    (s.writeCoef a c b).2.2.irq = s.irq ∧ (s.writeCoef a c b).2.2.mem = s.mem ∧ (s.writeCoef a c b).2.2.flt = s.flt ∧
    (s.writeCoef a c b).2.2.cal = s.cal ∧ (s.writeCoef a c b).2.2.gauge = s.gauge ∧
    (s.writeCoef a c b).2.2.mod = s.mod ∧ (s.writeCoef a c b).2.2.clk = s.clk ∧
    (s.writeCoef a c b).2.2.boot = s.boot := by
  simp [State.ite_kept .., State.writeCoef, State.clampIf_kept .., State.condition_kept .., State.no_kept ..,
      State.ok_kept ..]
theorem State.writeTally_kept (s : State) (a : Nat) (n : Nat) (b : List Byte) :
    (s.writeTally a n b).2.2.now = s.now ∧ (s.writeTally a n b).2.2.pending = s.pending ∧
    (s.writeTally a n b).2.2.answer = s.answer ∧ (s.writeTally a n b).2.2.emits = s.emits ∧
    (s.writeTally a n b).2.2.fresh = s.fresh ∧ (s.writeTally a n b).2.2.links = s.links ∧
    (s.writeTally a n b).2.2.shed = s.shed ∧ (s.writeTally a n b).2.2.copy = s.copy ∧
    (s.writeTally a n b).2.2.fwd = s.fwd ∧ (s.writeTally a n b).2.2.rings = s.rings ∧
    (s.writeTally a n b).2.2.str = s.str ∧ (s.writeTally a n b).2.2.egr = s.egr ∧
    (s.writeTally a n b).2.2.irq = s.irq ∧ (s.writeTally a n b).2.2.mem = s.mem ∧
    (s.writeTally a n b).2.2.flt = s.flt ∧ (s.writeTally a n b).2.2.cal = s.cal ∧
    (s.writeTally a n b).2.2.gauge = s.gauge ∧ (s.writeTally a n b).2.2.mod = s.mod ∧
    (s.writeTally a n b).2.2.clk = s.clk ∧ (s.writeTally a n b).2.2.boot = s.boot := by
  simp [State.ite_kept .., State.writeTally, State.clampIf_kept .., State.no_kept .., State.ok_kept ..,
      State.setCfg_kept ..]
theorem State.writeTiers_kept (s : State) (n : Nat) (b : List Byte) :
    (s.writeTiers n b).2.2.now = s.now ∧ (s.writeTiers n b).2.2.pending = s.pending ∧
    (s.writeTiers n b).2.2.answer = s.answer ∧ (s.writeTiers n b).2.2.emits = s.emits ∧
    (s.writeTiers n b).2.2.fresh = s.fresh ∧ (s.writeTiers n b).2.2.links = s.links ∧
    (s.writeTiers n b).2.2.shed = s.shed ∧ (s.writeTiers n b).2.2.copy = s.copy ∧ (s.writeTiers n b).2.2.fwd = s.fwd ∧
    (s.writeTiers n b).2.2.rings = s.rings ∧ (s.writeTiers n b).2.2.egr = s.egr ∧
    (s.writeTiers n b).2.2.allots = s.allots ∧ (s.writeTiers n b).2.2.irq = s.irq ∧
    (s.writeTiers n b).2.2.mem = s.mem ∧ (s.writeTiers n b).2.2.flt = s.flt ∧ (s.writeTiers n b).2.2.cal = s.cal ∧
    (s.writeTiers n b).2.2.gauge = s.gauge ∧ (s.writeTiers n b).2.2.mod = s.mod ∧ (s.writeTiers n b).2.2.clk = s.clk ∧
    (s.writeTiers n b).2.2.boot = s.boot := by
  simp [State.ite_kept .., State.writeTiers, State.no_kept .., State.ok_kept .., State.setCfg_kept ..]
theorem State.writeQueue_kept (s : State) (a : Nat) (lp : Nat) (b : List Byte) :
    (s.writeQueue a lp b).2.2.now = s.now ∧ (s.writeQueue a lp b).2.2.pending = s.pending ∧
    (s.writeQueue a lp b).2.2.answer = s.answer ∧ (s.writeQueue a lp b).2.2.fresh = s.fresh ∧
    (s.writeQueue a lp b).2.2.links = s.links ∧ (s.writeQueue a lp b).2.2.shed = s.shed ∧
    (s.writeQueue a lp b).2.2.copy = s.copy ∧ (s.writeQueue a lp b).2.2.fwd = s.fwd ∧
    (s.writeQueue a lp b).2.2.rings = s.rings ∧ (s.writeQueue a lp b).2.2.alm = s.alm ∧
    (s.writeQueue a lp b).2.2.mem = s.mem ∧ (s.writeQueue a lp b).2.2.flt = s.flt ∧
    (s.writeQueue a lp b).2.2.cal = s.cal ∧ (s.writeQueue a lp b).2.2.gauge = s.gauge ∧
    (s.writeQueue a lp b).2.2.mod = s.mod ∧ (s.writeQueue a lp b).2.2.boot = s.boot := by
  simp [State.ite_kept .., State.modQueue, State.writeQueue, State.clampIf_kept .., State.no_kept .., State.ok_kept ..]
theorem State.writeGroups_kept (s : State) (a : Nat) (lp : Nat) (b : List Byte) :
    (s.writeGroups a lp b).2.2.now = s.now ∧ (s.writeGroups a lp b).2.2.pending = s.pending ∧
    (s.writeGroups a lp b).2.2.answer = s.answer ∧ (s.writeGroups a lp b).2.2.fresh = s.fresh ∧
    (s.writeGroups a lp b).2.2.links = s.links ∧ (s.writeGroups a lp b).2.2.shed = s.shed ∧
    (s.writeGroups a lp b).2.2.copy = s.copy ∧ (s.writeGroups a lp b).2.2.fwd = s.fwd ∧
    (s.writeGroups a lp b).2.2.rings = s.rings ∧ (s.writeGroups a lp b).2.2.alm = s.alm ∧
    (s.writeGroups a lp b).2.2.mem = s.mem ∧ (s.writeGroups a lp b).2.2.flt = s.flt ∧
    (s.writeGroups a lp b).2.2.cal = s.cal ∧ (s.writeGroups a lp b).2.2.gauge = s.gauge ∧
    (s.writeGroups a lp b).2.2.mod = s.mod ∧ (s.writeGroups a lp b).2.2.boot = s.boot := by
  simp [State.ite_kept .., State.writeGroups, State.clampIf_kept .., State.no_kept .., State.ok_kept ..]
theorem State.writeClassMode_kept (s : State) (a : Nat) (lp : Nat) (b : List Byte) :
    (s.writeClassMode a lp b).2.2.now = s.now ∧ (s.writeClassMode a lp b).2.2.pending = s.pending ∧
    (s.writeClassMode a lp b).2.2.answer = s.answer ∧ (s.writeClassMode a lp b).2.2.emits = s.emits ∧
    (s.writeClassMode a lp b).2.2.fresh = s.fresh ∧ (s.writeClassMode a lp b).2.2.links = s.links ∧
    (s.writeClassMode a lp b).2.2.shed = s.shed ∧ (s.writeClassMode a lp b).2.2.copy = s.copy ∧
    (s.writeClassMode a lp b).2.2.fwd = s.fwd ∧ (s.writeClassMode a lp b).2.2.rings = s.rings ∧
    (s.writeClassMode a lp b).2.2.str = s.str ∧ (s.writeClassMode a lp b).2.2.egr = s.egr ∧
    (s.writeClassMode a lp b).2.2.irq = s.irq ∧ (s.writeClassMode a lp b).2.2.mem = s.mem ∧
    (s.writeClassMode a lp b).2.2.flt = s.flt ∧ (s.writeClassMode a lp b).2.2.cal = s.cal ∧
    (s.writeClassMode a lp b).2.2.gauge = s.gauge ∧ (s.writeClassMode a lp b).2.2.mod = s.mod ∧
    (s.writeClassMode a lp b).2.2.clk = s.clk ∧ (s.writeClassMode a lp b).2.2.boot = s.boot := by
  simp [State.ite_kept .., State.writeClassMode, State.clampIf_kept .., State.no_kept .., State.ok_kept ..,
      State.setCfg_kept ..]
theorem State.writeGate_kept (s : State) (lp : Nat) (f : Schedule → Schedule) :
    (s.writeGate lp f).2.2.now = s.now ∧ (s.writeGate lp f).2.2.pending = s.pending ∧
    (s.writeGate lp f).2.2.answer = s.answer ∧ (s.writeGate lp f).2.2.emits = s.emits ∧
    (s.writeGate lp f).2.2.fresh = s.fresh ∧ (s.writeGate lp f).2.2.links = s.links ∧
    (s.writeGate lp f).2.2.shed = s.shed ∧ (s.writeGate lp f).2.2.copy = s.copy ∧ (s.writeGate lp f).2.2.fwd = s.fwd ∧
    (s.writeGate lp f).2.2.rings = s.rings ∧ (s.writeGate lp f).2.2.str = s.str ∧ (s.writeGate lp f).2.2.alm = s.alm ∧
    (s.writeGate lp f).2.2.allots = s.allots ∧ (s.writeGate lp f).2.2.irq = s.irq ∧
    (s.writeGate lp f).2.2.mem = s.mem ∧ (s.writeGate lp f).2.2.flt = s.flt ∧ (s.writeGate lp f).2.2.cal = s.cal ∧
    (s.writeGate lp f).2.2.gauge = s.gauge ∧ (s.writeGate lp f).2.2.mod = s.mod ∧ (s.writeGate lp f).2.2.clk = s.clk ∧
    (s.writeGate lp f).2.2.boot = s.boot := by
  simp [State.modGate, State.writeGate, State.okAt_kept ..]
theorem State.writeCycle_kept (s : State) (a : Nat) (lp : Nat) (b : List Byte) :
    (s.writeCycle a lp b).2.2.now = s.now ∧ (s.writeCycle a lp b).2.2.pending = s.pending ∧
    (s.writeCycle a lp b).2.2.answer = s.answer ∧ (s.writeCycle a lp b).2.2.emits = s.emits ∧
    (s.writeCycle a lp b).2.2.fresh = s.fresh ∧ (s.writeCycle a lp b).2.2.links = s.links ∧
    (s.writeCycle a lp b).2.2.shed = s.shed ∧ (s.writeCycle a lp b).2.2.copy = s.copy ∧
    (s.writeCycle a lp b).2.2.fwd = s.fwd ∧ (s.writeCycle a lp b).2.2.rings = s.rings ∧
    (s.writeCycle a lp b).2.2.str = s.str ∧ (s.writeCycle a lp b).2.2.alm = s.alm ∧
    (s.writeCycle a lp b).2.2.irq = s.irq ∧ (s.writeCycle a lp b).2.2.mem = s.mem ∧
    (s.writeCycle a lp b).2.2.flt = s.flt ∧ (s.writeCycle a lp b).2.2.cal = s.cal ∧
    (s.writeCycle a lp b).2.2.gauge = s.gauge ∧ (s.writeCycle a lp b).2.2.mod = s.mod ∧
    (s.writeCycle a lp b).2.2.clk = s.clk ∧ (s.writeCycle a lp b).2.2.boot = s.boot := by
  simp [State.ite_kept .., State.writeCycle, State.clampIf_kept .., State.no_kept .., State.writeGate_kept ..]
theorem State.writeList_kept (s : State) (a : Nat) (lp : Nat) (b : List Byte) :
    (s.writeList a lp b).2.2.now = s.now ∧ (s.writeList a lp b).2.2.pending = s.pending ∧
    (s.writeList a lp b).2.2.answer = s.answer ∧ (s.writeList a lp b).2.2.emits = s.emits ∧
    (s.writeList a lp b).2.2.fresh = s.fresh ∧ (s.writeList a lp b).2.2.links = s.links ∧
    (s.writeList a lp b).2.2.shed = s.shed ∧ (s.writeList a lp b).2.2.copy = s.copy ∧
    (s.writeList a lp b).2.2.fwd = s.fwd ∧ (s.writeList a lp b).2.2.rings = s.rings ∧
    (s.writeList a lp b).2.2.str = s.str ∧ (s.writeList a lp b).2.2.alm = s.alm ∧
    (s.writeList a lp b).2.2.irq = s.irq ∧ (s.writeList a lp b).2.2.mem = s.mem ∧
    (s.writeList a lp b).2.2.flt = s.flt ∧ (s.writeList a lp b).2.2.cal = s.cal ∧
    (s.writeList a lp b).2.2.gauge = s.gauge ∧ (s.writeList a lp b).2.2.mod = s.mod ∧
    (s.writeList a lp b).2.2.clk = s.clk ∧ (s.writeList a lp b).2.2.boot = s.boot := by
  simp [State.ite_kept .., State.writeList, State.clampIf_kept .., State.no_kept .., State.writeGate_kept ..]
theorem State.writeMaxPacket_kept (s : State) (a : Nat) (lp : Nat) (b : List Byte) :
    (s.writeMaxPacket a lp b).2.2.now = s.now ∧ (s.writeMaxPacket a lp b).2.2.pending = s.pending ∧
    (s.writeMaxPacket a lp b).2.2.answer = s.answer ∧ (s.writeMaxPacket a lp b).2.2.emits = s.emits ∧
    (s.writeMaxPacket a lp b).2.2.fresh = s.fresh ∧ (s.writeMaxPacket a lp b).2.2.links = s.links ∧
    (s.writeMaxPacket a lp b).2.2.shed = s.shed ∧ (s.writeMaxPacket a lp b).2.2.copy = s.copy ∧
    (s.writeMaxPacket a lp b).2.2.fwd = s.fwd ∧ (s.writeMaxPacket a lp b).2.2.rings = s.rings ∧
    (s.writeMaxPacket a lp b).2.2.str = s.str ∧ (s.writeMaxPacket a lp b).2.2.egr = s.egr ∧
    (s.writeMaxPacket a lp b).2.2.irq = s.irq ∧ (s.writeMaxPacket a lp b).2.2.mem = s.mem ∧
    (s.writeMaxPacket a lp b).2.2.flt = s.flt ∧ (s.writeMaxPacket a lp b).2.2.cal = s.cal ∧
    (s.writeMaxPacket a lp b).2.2.gauge = s.gauge ∧ (s.writeMaxPacket a lp b).2.2.mod = s.mod ∧
    (s.writeMaxPacket a lp b).2.2.clk = s.clk ∧ (s.writeMaxPacket a lp b).2.2.boot = s.boot := by
  simp [State.ite_kept .., State.writeMaxPacket, State.clampIf_kept .., State.no_kept .., State.ok_kept ..,
      State.setCfg_kept ..]
theorem State.writeActions_kept (s : State) (a : Nat) (n : Nat) (b : List Byte) :
    (s.writeActions a n b).2.2.now = s.now ∧ (s.writeActions a n b).2.2.pending = s.pending ∧
    (s.writeActions a n b).2.2.answer = s.answer ∧ (s.writeActions a n b).2.2.emits = s.emits ∧
    (s.writeActions a n b).2.2.fresh = s.fresh ∧ (s.writeActions a n b).2.2.links = s.links ∧
    (s.writeActions a n b).2.2.shed = s.shed ∧ (s.writeActions a n b).2.2.copy = s.copy ∧
    (s.writeActions a n b).2.2.fwd = s.fwd ∧ (s.writeActions a n b).2.2.rings = s.rings ∧
    (s.writeActions a n b).2.2.str = s.str ∧ (s.writeActions a n b).2.2.egr = s.egr ∧
    (s.writeActions a n b).2.2.irq = s.irq ∧ (s.writeActions a n b).2.2.mem = s.mem ∧
    (s.writeActions a n b).2.2.flt = s.flt ∧ (s.writeActions a n b).2.2.cal = s.cal ∧
    (s.writeActions a n b).2.2.gauge = s.gauge ∧ (s.writeActions a n b).2.2.mod = s.mod ∧
    (s.writeActions a n b).2.2.clk = s.clk ∧ (s.writeActions a n b).2.2.boot = s.boot := by
  simp [State.ite_kept .., State.writeActions, State.clampIf_kept .., State.no_kept .., State.ok_kept ..,
      State.setCfg_kept ..]
theorem State.writeSlotGrant_kept (s : State) (a : Nat) (who : Nat) (b : List Byte) :
    (s.writeSlotGrant a who b).2.2.now = s.now ∧ (s.writeSlotGrant a who b).2.2.pending = s.pending ∧
    (s.writeSlotGrant a who b).2.2.answer = s.answer ∧ (s.writeSlotGrant a who b).2.2.emits = s.emits ∧
    (s.writeSlotGrant a who b).2.2.fresh = s.fresh ∧ (s.writeSlotGrant a who b).2.2.links = s.links ∧
    (s.writeSlotGrant a who b).2.2.shed = s.shed ∧ (s.writeSlotGrant a who b).2.2.copy = s.copy ∧
    (s.writeSlotGrant a who b).2.2.fwd = s.fwd ∧ (s.writeSlotGrant a who b).2.2.rings = s.rings ∧
    (s.writeSlotGrant a who b).2.2.mem = s.mem ∧ (s.writeSlotGrant a who b).2.2.flt = s.flt ∧
    (s.writeSlotGrant a who b).2.2.cal = s.cal ∧ (s.writeSlotGrant a who b).2.2.gauge = s.gauge ∧
    (s.writeSlotGrant a who b).2.2.mod = s.mod ∧ (s.writeSlotGrant a who b).2.2.clk = s.clk ∧
    (s.writeSlotGrant a who b).2.2.boot = s.boot := by
  simp [State.ite_kept .., State.writeSlotGrant, State.clampIf_kept .., State.giveOwner_kept .., State.no_kept ..,
      State.ok_kept ..]
theorem State.setKey_kept (s : State) (n : Nat) (b : List Byte) :
    (s.setKey n b).now = s.now ∧ (s.setKey n b).pending = s.pending ∧ (s.setKey n b).answer = s.answer ∧
    (s.setKey n b).emits = s.emits ∧ (s.setKey n b).fresh = s.fresh ∧ (s.setKey n b).links = s.links ∧
    (s.setKey n b).shed = s.shed ∧ (s.setKey n b).copy = s.copy ∧ (s.setKey n b).fwd = s.fwd ∧
    (s.setKey n b).rings = s.rings ∧ (s.setKey n b).str = s.str ∧ (s.setKey n b).egr = s.egr ∧
    (s.setKey n b).alm = s.alm ∧ (s.setKey n b).irq = s.irq ∧ (s.setKey n b).mem = s.mem ∧
    (s.setKey n b).flt = s.flt ∧ (s.setKey n b).cal = s.cal ∧ (s.setKey n b).gauge = s.gauge ∧
    (s.setKey n b).mod = s.mod ∧ (s.setKey n b).clk = s.clk ∧ (s.setKey n b).boot = s.boot := by
  simp [State.modAllot, State.setKey]
@[simp] theorem byStatus_state (r : Nat × State) : (byStatus r).2.2 = r.2 := by
  simp only [byStatus, State.ok]; split <;> rfl
@[simp] theorem State.spend_now (s : State) (a fam inst mem : Nat) (old v : List Byte)
    (f : State → Nat × Nat × State)
    (h : ∀ t : State, (f t).2.2.now = t.now) :
    (s.spend a fam inst mem old v f).2.2.now = s.now := by
  simp only [State.spend]; (repeat' split) <;> simp [h, State.ok, State.no]
@[simp] theorem State.spend_pending (s : State) (a fam inst mem : Nat) (old v : List Byte)
    (f : State → Nat × Nat × State)
    (h : ∀ t : State, (f t).2.2.pending = t.pending) :
    (s.spend a fam inst mem old v f).2.2.pending = s.pending := by
  simp only [State.spend]; (repeat' split) <;> simp [h, State.ok, State.no]
@[simp] theorem State.spend_answer (s : State) (a fam inst mem : Nat) (old v : List Byte)
    (f : State → Nat × Nat × State)
    (h : ∀ t : State, (f t).2.2.answer = t.answer) :
    (s.spend a fam inst mem old v f).2.2.answer = s.answer := by
  simp only [State.spend]; (repeat' split) <;> simp [h, State.ok, State.no]
@[simp] theorem State.spend_emits (s : State) (a fam inst mem : Nat) (old v : List Byte)
    (f : State → Nat × Nat × State)
    (h : ∀ t : State, (f t).2.2.emits = t.emits) :
    (s.spend a fam inst mem old v f).2.2.emits = s.emits := by
  simp only [State.spend]; (repeat' split) <;> simp [h, State.ok, State.no]
@[simp] theorem State.spend_fresh (s : State) (a fam inst mem : Nat) (old v : List Byte)
    (f : State → Nat × Nat × State)
    (h : ∀ t : State, (f t).2.2.fresh = t.fresh) :
    (s.spend a fam inst mem old v f).2.2.fresh = s.fresh := by
  simp only [State.spend]; (repeat' split) <;> simp [h, State.ok, State.no]
@[simp] theorem State.spend_links (s : State) (a fam inst mem : Nat) (old v : List Byte)
    (f : State → Nat × Nat × State)
    (h : ∀ t : State, (f t).2.2.links = t.links) :
    (s.spend a fam inst mem old v f).2.2.links = s.links := by
  simp only [State.spend]; (repeat' split) <;> simp [h, State.ok, State.no]
@[simp] theorem State.spend_shed (s : State) (a fam inst mem : Nat) (old v : List Byte)
    (f : State → Nat × Nat × State)
    (h : ∀ t : State, (f t).2.2.shed = t.shed) :
    (s.spend a fam inst mem old v f).2.2.shed = s.shed := by
  simp only [State.spend]; (repeat' split) <;> simp [h, State.ok, State.no]
@[simp] theorem State.spend_copy (s : State) (a fam inst mem : Nat) (old v : List Byte)
    (f : State → Nat × Nat × State)
    (h : ∀ t : State, (f t).2.2.copy = t.copy) :
    (s.spend a fam inst mem old v f).2.2.copy = s.copy := by
  simp only [State.spend]; (repeat' split) <;> simp [h, State.ok, State.no]
@[simp] theorem State.spend_fwd (s : State) (a fam inst mem : Nat) (old v : List Byte)
    (f : State → Nat × Nat × State)
    (h : ∀ t : State, (f t).2.2.fwd = t.fwd) :
    (s.spend a fam inst mem old v f).2.2.fwd = s.fwd := by
  simp only [State.spend]; (repeat' split) <;> simp [h, State.ok, State.no]
@[simp] theorem State.spend_rings (s : State) (a fam inst mem : Nat) (old v : List Byte)
    (f : State → Nat × Nat × State)
    (h : ∀ t : State, (f t).2.2.rings = t.rings) :
    (s.spend a fam inst mem old v f).2.2.rings = s.rings := by
  simp only [State.spend]; (repeat' split) <;> simp [h, State.ok, State.no]
@[simp] theorem State.spend_str (s : State) (a fam inst mem : Nat) (old v : List Byte)
    (f : State → Nat × Nat × State)
    (h : ∀ t : State, (f t).2.2.str = t.str) :
    (s.spend a fam inst mem old v f).2.2.str = s.str := by
  simp only [State.spend]; (repeat' split) <;> simp [h, State.ok, State.no]
@[simp] theorem State.spend_egr (s : State) (a fam inst mem : Nat) (old v : List Byte)
    (f : State → Nat × Nat × State)
    (h : ∀ t : State, (f t).2.2.egr = t.egr) :
    (s.spend a fam inst mem old v f).2.2.egr = s.egr := by
  simp only [State.spend]; (repeat' split) <;> simp [h, State.ok, State.no]
@[simp] theorem State.spend_allots (s : State) (a fam inst mem : Nat) (old v : List Byte)
    (f : State → Nat × Nat × State)
    (h : ∀ t : State, (f t).2.2.allots = t.allots) :
    (s.spend a fam inst mem old v f).2.2.allots = s.allots := by
  simp only [State.spend]; (repeat' split) <;> simp [h, State.ok, State.no]
@[simp] theorem State.spend_irq (s : State) (a fam inst mem : Nat) (old v : List Byte)
    (f : State → Nat × Nat × State)
    (h : ∀ t : State, (f t).2.2.irq = t.irq) :
    (s.spend a fam inst mem old v f).2.2.irq = s.irq := by
  simp only [State.spend]; (repeat' split) <;> simp [h, State.ok, State.no]
@[simp] theorem State.spend_mem (s : State) (a fam inst mem : Nat) (old v : List Byte)
    (f : State → Nat × Nat × State)
    (h : ∀ t : State, (f t).2.2.mem = t.mem) :
    (s.spend a fam inst mem old v f).2.2.mem = s.mem := by
  simp only [State.spend]; (repeat' split) <;> simp [h, State.ok, State.no]
@[simp] theorem State.spend_flt (s : State) (a fam inst mem : Nat) (old v : List Byte)
    (f : State → Nat × Nat × State)
    (h : ∀ t : State, (f t).2.2.flt = t.flt) :
    (s.spend a fam inst mem old v f).2.2.flt = s.flt := by
  simp only [State.spend]; (repeat' split) <;> simp [h, State.ok, State.no]
@[simp] theorem State.spend_cal (s : State) (a fam inst mem : Nat) (old v : List Byte)
    (f : State → Nat × Nat × State)
    (h : ∀ t : State, (f t).2.2.cal = t.cal) :
    (s.spend a fam inst mem old v f).2.2.cal = s.cal := by
  simp only [State.spend]; (repeat' split) <;> simp [h, State.ok, State.no]
@[simp] theorem State.spend_gauge (s : State) (a fam inst mem : Nat) (old v : List Byte)
    (f : State → Nat × Nat × State)
    (h : ∀ t : State, (f t).2.2.gauge = t.gauge) :
    (s.spend a fam inst mem old v f).2.2.gauge = s.gauge := by
  simp only [State.spend]; (repeat' split) <;> simp [h, State.ok, State.no]
@[simp] theorem State.spend_mod (s : State) (a fam inst mem : Nat) (old v : List Byte)
    (f : State → Nat × Nat × State)
    (h : ∀ t : State, (f t).2.2.mod = t.mod) :
    (s.spend a fam inst mem old v f).2.2.mod = s.mod := by
  simp only [State.spend]; (repeat' split) <;> simp [h, State.ok, State.no]
@[simp] theorem State.spend_clk (s : State) (a fam inst mem : Nat) (old v : List Byte)
    (f : State → Nat × Nat × State)
    (h : ∀ t : State, (f t).2.2.clk = t.clk) :
    (s.spend a fam inst mem old v f).2.2.clk = s.clk := by
  simp only [State.spend]; (repeat' split) <;> simp [h, State.ok, State.no]
@[simp] theorem State.spend_boot (s : State) (a fam inst mem : Nat) (old v : List Byte)
    (f : State → Nat × Nat × State)
    (h : ∀ t : State, (f t).2.2.boot = t.boot) :
    (s.spend a fam inst mem old v f).2.2.boot = s.boot := by
  simp only [State.spend]; (repeat' split) <;> simp [h, State.ok, State.no]
@[simp] theorem State.spend_exchange (s : State) (a fam inst mem : Nat) (old v : List Byte)
    (f : State → Nat × Nat × State)
    (h : ∀ t : State, (f t).2.2.mem.exchange = t.mem.exchange) :
    (s.spend a fam inst mem old v f).2.2.mem.exchange = s.mem.exchange := by
  simp only [State.spend]; (repeat' split) <;> simp [h, State.ok, State.no]
@[simp] theorem State.spend_areas (s : State) (a fam inst mem : Nat) (old v : List Byte)
    (f : State → Nat × Nat × State)
    (h : ∀ t : State, (f t).2.2.mem.areas = t.mem.areas) :
    (s.spend a fam inst mem old v f).2.2.mem.areas = s.mem.areas := by
  simp only [State.spend]; (repeat' split) <;> simp [h, State.ok, State.no]
theorem State.writeKey_kept (s : State) (a : Nat) (n : Nat) (b : List Byte) :
    (s.writeKey a n b).2.2.now = s.now ∧ (s.writeKey a n b).2.2.pending = s.pending ∧
    (s.writeKey a n b).2.2.answer = s.answer ∧ (s.writeKey a n b).2.2.emits = s.emits ∧
    (s.writeKey a n b).2.2.fresh = s.fresh ∧ (s.writeKey a n b).2.2.links = s.links ∧
    (s.writeKey a n b).2.2.shed = s.shed ∧ (s.writeKey a n b).2.2.copy = s.copy ∧ (s.writeKey a n b).2.2.fwd = s.fwd ∧
    (s.writeKey a n b).2.2.rings = s.rings ∧ (s.writeKey a n b).2.2.str = s.str ∧ (s.writeKey a n b).2.2.egr = s.egr ∧
    (s.writeKey a n b).2.2.irq = s.irq ∧ (s.writeKey a n b).2.2.mem = s.mem ∧ (s.writeKey a n b).2.2.flt = s.flt ∧
    (s.writeKey a n b).2.2.cal = s.cal ∧ (s.writeKey a n b).2.2.gauge = s.gauge ∧ (s.writeKey a n b).2.2.mod = s.mod ∧
    (s.writeKey a n b).2.2.clk = s.clk ∧ (s.writeKey a n b).2.2.boot = s.boot := by
  simp [State.ite_kept .., State.writeKey, State.no_kept .., State.ok_kept .., State.setKey_kept ..]
theorem State.writeLink_kept (s : State) (n : Nat) (v : Nat) :
    (s.writeLink n v).2.2.now = s.now ∧ (s.writeLink n v).2.2.pending = s.pending ∧
    (s.writeLink n v).2.2.answer = s.answer ∧ (s.writeLink n v).2.2.emits = s.emits ∧
    (s.writeLink n v).2.2.fresh = s.fresh ∧ (s.writeLink n v).2.2.links = s.links ∧
    (s.writeLink n v).2.2.shed = s.shed ∧ (s.writeLink n v).2.2.copy = s.copy ∧ (s.writeLink n v).2.2.fwd = s.fwd ∧
    (s.writeLink n v).2.2.rings = s.rings ∧ (s.writeLink n v).2.2.str = s.str ∧ (s.writeLink n v).2.2.egr = s.egr ∧
    (s.writeLink n v).2.2.allots = s.allots ∧ (s.writeLink n v).2.2.irq = s.irq ∧ (s.writeLink n v).2.2.mem = s.mem ∧
    (s.writeLink n v).2.2.flt = s.flt ∧ (s.writeLink n v).2.2.cal = s.cal ∧ (s.writeLink n v).2.2.gauge = s.gauge ∧
    (s.writeLink n v).2.2.mod = s.mod ∧ (s.writeLink n v).2.2.clk = s.clk ∧ (s.writeLink n v).2.2.boot = s.boot := by
  simp [State.ite_kept .., State.writeLink, State.no_kept .., State.ok_kept .., State.setCfgN_kept ..]
theorem State.writeRunEntry_kept (s : State) (a : Nat) (n : Nat) (b : List Byte) :
    (s.writeRunEntry a n b).2.2.now = s.now ∧ (s.writeRunEntry a n b).2.2.pending = s.pending ∧
    (s.writeRunEntry a n b).2.2.answer = s.answer ∧ (s.writeRunEntry a n b).2.2.emits = s.emits ∧
    (s.writeRunEntry a n b).2.2.fresh = s.fresh ∧ (s.writeRunEntry a n b).2.2.links = s.links ∧
    (s.writeRunEntry a n b).2.2.shed = s.shed ∧ (s.writeRunEntry a n b).2.2.copy = s.copy ∧
    (s.writeRunEntry a n b).2.2.fwd = s.fwd ∧ (s.writeRunEntry a n b).2.2.rings = s.rings ∧
    (s.writeRunEntry a n b).2.2.egr = s.egr ∧ (s.writeRunEntry a n b).2.2.alm = s.alm ∧
    (s.writeRunEntry a n b).2.2.irq = s.irq ∧ (s.writeRunEntry a n b).2.2.mem = s.mem ∧
    (s.writeRunEntry a n b).2.2.flt = s.flt ∧ (s.writeRunEntry a n b).2.2.cal = s.cal ∧
    (s.writeRunEntry a n b).2.2.gauge = s.gauge ∧ (s.writeRunEntry a n b).2.2.mod = s.mod ∧
    (s.writeRunEntry a n b).2.2.clk = s.clk ∧ (s.writeRunEntry a n b).2.2.boot = s.boot := by
  simp [State.ite_kept .., State.writeRunEntry, State.clampIf_kept .., State.no_kept .., State.ok_kept ..,
      State.writeRun_kept ..]
theorem State.writeEnableEntry_kept (s : State) (a : Nat) (n : Nat) (b : List Byte) :
    (s.writeEnableEntry a n b).2.2.now = s.now ∧ (s.writeEnableEntry a n b).2.2.pending = s.pending ∧
    (s.writeEnableEntry a n b).2.2.answer = s.answer ∧ (s.writeEnableEntry a n b).2.2.emits = s.emits ∧
    (s.writeEnableEntry a n b).2.2.fresh = s.fresh ∧ (s.writeEnableEntry a n b).2.2.links = s.links ∧
    (s.writeEnableEntry a n b).2.2.shed = s.shed ∧ (s.writeEnableEntry a n b).2.2.copy = s.copy ∧
    (s.writeEnableEntry a n b).2.2.fwd = s.fwd ∧ (s.writeEnableEntry a n b).2.2.rings = s.rings ∧
    (s.writeEnableEntry a n b).2.2.str = s.str ∧ (s.writeEnableEntry a n b).2.2.alm = s.alm ∧
    (s.writeEnableEntry a n b).2.2.irq = s.irq ∧ (s.writeEnableEntry a n b).2.2.mem = s.mem ∧
    (s.writeEnableEntry a n b).2.2.flt = s.flt ∧ (s.writeEnableEntry a n b).2.2.cal = s.cal ∧
    (s.writeEnableEntry a n b).2.2.gauge = s.gauge ∧ (s.writeEnableEntry a n b).2.2.mod = s.mod ∧
    (s.writeEnableEntry a n b).2.2.clk = s.clk ∧ (s.writeEnableEntry a n b).2.2.boot = s.boot := by
  simp [State.ite_kept .., State.modQueue, State.writeEnableEntry, State.clampIf_kept .., State.no_kept ..,
      State.ok_kept ..]
theorem State.writeAddress_kept (s : State) (mem : Nat) (v : List Byte) :
    (s.writeAddress mem v).2.2.now = s.now ∧ (s.writeAddress mem v).2.2.pending = s.pending ∧
    (s.writeAddress mem v).2.2.answer = s.answer ∧ (s.writeAddress mem v).2.2.emits = s.emits ∧
    (s.writeAddress mem v).2.2.fresh = s.fresh ∧ (s.writeAddress mem v).2.2.links = s.links ∧
    (s.writeAddress mem v).2.2.shed = s.shed ∧ (s.writeAddress mem v).2.2.copy = s.copy ∧
    (s.writeAddress mem v).2.2.fwd = s.fwd ∧ (s.writeAddress mem v).2.2.rings = s.rings ∧
    (s.writeAddress mem v).2.2.str = s.str ∧ (s.writeAddress mem v).2.2.egr = s.egr ∧
    (s.writeAddress mem v).2.2.allots = s.allots ∧ (s.writeAddress mem v).2.2.irq = s.irq ∧
    (s.writeAddress mem v).2.2.mem = s.mem ∧ (s.writeAddress mem v).2.2.flt = s.flt ∧
    (s.writeAddress mem v).2.2.cal = s.cal ∧ (s.writeAddress mem v).2.2.gauge = s.gauge ∧
    (s.writeAddress mem v).2.2.mod = s.mod ∧ (s.writeAddress mem v).2.2.clk = s.clk ∧
    (s.writeAddress mem v).2.2.boot = s.boot := by
  simp [State.writeAddress, State.okAt_kept ..]
theorem State.writeInband_kept (s : State) (b : List Byte) :
    (s.writeInband b).2.2.now = s.now ∧ (s.writeInband b).2.2.pending = s.pending ∧
    (s.writeInband b).2.2.answer = s.answer ∧ (s.writeInband b).2.2.emits = s.emits ∧
    (s.writeInband b).2.2.fresh = s.fresh ∧ (s.writeInband b).2.2.links = s.links ∧
    (s.writeInband b).2.2.shed = s.shed ∧ (s.writeInband b).2.2.copy = s.copy ∧ (s.writeInband b).2.2.fwd = s.fwd ∧
    (s.writeInband b).2.2.rings = s.rings ∧ (s.writeInband b).2.2.str = s.str ∧ (s.writeInband b).2.2.egr = s.egr ∧
    (s.writeInband b).2.2.allots = s.allots ∧ (s.writeInband b).2.2.irq = s.irq ∧ (s.writeInband b).2.2.mem = s.mem ∧
    (s.writeInband b).2.2.flt = s.flt ∧ (s.writeInband b).2.2.cal = s.cal ∧ (s.writeInband b).2.2.gauge = s.gauge ∧
    (s.writeInband b).2.2.mod = s.mod ∧ (s.writeInband b).2.2.clk = s.clk ∧ (s.writeInband b).2.2.boot = s.boot := by
  simp [State.ite_kept .., State.writeInband, State.no_kept .., State.writeAddress_kept ..]
theorem State.writeUnitReset_kept (s : State) (a : Nat) (b : List Byte) :
    (s.writeUnitReset a b).2.2.now = s.now ∧ (s.writeUnitReset a b).2.2.pending = s.pending ∧
    (s.writeUnitReset a b).2.2.answer = s.answer ∧ (s.writeUnitReset a b).2.2.emits = s.emits ∧
    (s.writeUnitReset a b).2.2.fresh = s.fresh ∧ (s.writeUnitReset a b).2.2.links = s.links ∧
    (s.writeUnitReset a b).2.2.shed = s.shed ∧ (s.writeUnitReset a b).2.2.copy = s.copy ∧
    (s.writeUnitReset a b).2.2.fwd = s.fwd ∧ (s.writeUnitReset a b).2.2.rings = s.rings ∧
    (s.writeUnitReset a b).2.2.str = s.str ∧ (s.writeUnitReset a b).2.2.egr = s.egr ∧
    (s.writeUnitReset a b).2.2.alm = s.alm ∧ (s.writeUnitReset a b).2.2.irq = s.irq ∧
    (s.writeUnitReset a b).2.2.mem = s.mem ∧ (s.writeUnitReset a b).2.2.cal = s.cal ∧
    (s.writeUnitReset a b).2.2.gauge = s.gauge ∧ (s.writeUnitReset a b).2.2.mod = s.mod ∧
    (s.writeUnitReset a b).2.2.clk = s.clk ∧ (s.writeUnitReset a b).2.2.boot = s.boot := by
  simp [State.ite_kept .., State.writeUnitReset, State.clampIf_kept .., State.no_kept .., State.orderReset_kept ..]
theorem State.writeAudio_kept (s : State) (a : Nat) (n : Nat) (b : List Byte) :
    (s.writeAudio a n b).2.2.now = s.now ∧ (s.writeAudio a n b).2.2.pending = s.pending ∧
    (s.writeAudio a n b).2.2.answer = s.answer ∧ (s.writeAudio a n b).2.2.emits = s.emits ∧
    (s.writeAudio a n b).2.2.fresh = s.fresh ∧ (s.writeAudio a n b).2.2.links = s.links ∧
    (s.writeAudio a n b).2.2.shed = s.shed ∧ (s.writeAudio a n b).2.2.copy = s.copy ∧
    (s.writeAudio a n b).2.2.fwd = s.fwd ∧ (s.writeAudio a n b).2.2.rings = s.rings ∧
    (s.writeAudio a n b).2.2.str = s.str ∧ (s.writeAudio a n b).2.2.egr = s.egr ∧
    (s.writeAudio a n b).2.2.irq = s.irq ∧ (s.writeAudio a n b).2.2.mem = s.mem ∧
    (s.writeAudio a n b).2.2.flt = s.flt ∧ (s.writeAudio a n b).2.2.cal = s.cal ∧
    (s.writeAudio a n b).2.2.gauge = s.gauge ∧ (s.writeAudio a n b).2.2.mod = s.mod ∧
    (s.writeAudio a n b).2.2.clk = s.clk ∧ (s.writeAudio a n b).2.2.boot = s.boot := by
  simp [State.ite_kept .., State.writeAudio, State.no_kept .., State.clampIf_kept .., State.setCfg_kept ..,
  State.ok_kept ..]
theorem State.writePids_kept (s : State) (a : Nat) (n : Nat) (b : List Byte) :
    (s.writePids a n b).2.2.now = s.now ∧ (s.writePids a n b).2.2.pending = s.pending ∧
    (s.writePids a n b).2.2.answer = s.answer ∧ (s.writePids a n b).2.2.emits = s.emits ∧
    (s.writePids a n b).2.2.fresh = s.fresh ∧ (s.writePids a n b).2.2.links = s.links ∧
    (s.writePids a n b).2.2.shed = s.shed ∧ (s.writePids a n b).2.2.copy = s.copy ∧
    (s.writePids a n b).2.2.fwd = s.fwd ∧ (s.writePids a n b).2.2.rings = s.rings ∧
    (s.writePids a n b).2.2.str = s.str ∧ (s.writePids a n b).2.2.egr = s.egr ∧ (s.writePids a n b).2.2.irq = s.irq ∧
    (s.writePids a n b).2.2.mem = s.mem ∧ (s.writePids a n b).2.2.flt = s.flt ∧ (s.writePids a n b).2.2.cal = s.cal ∧
    (s.writePids a n b).2.2.gauge = s.gauge ∧ (s.writePids a n b).2.2.mod = s.mod ∧
    (s.writePids a n b).2.2.clk = s.clk ∧ (s.writePids a n b).2.2.boot = s.boot := by
  simp [State.ite_kept .., State.writePids, State.clampIf_kept .., State.no_kept .., State.ok_kept ..,
      State.setCfg_kept ..]
theorem State.writeSet_kept (s : State) (a : Nat) (g : Nat) (b : List Byte) :
    (s.writeSet a g b).2.2.now = s.now ∧ (s.writeSet a g b).2.2.pending = s.pending ∧
    (s.writeSet a g b).2.2.answer = s.answer ∧ (s.writeSet a g b).2.2.fresh = s.fresh ∧
    (s.writeSet a g b).2.2.links = s.links ∧ (s.writeSet a g b).2.2.shed = s.shed ∧
    (s.writeSet a g b).2.2.copy = s.copy ∧ (s.writeSet a g b).2.2.fwd = s.fwd ∧
    (s.writeSet a g b).2.2.rings = s.rings ∧ (s.writeSet a g b).2.2.str = s.str ∧ (s.writeSet a g b).2.2.egr = s.egr ∧
    (s.writeSet a g b).2.2.alm = s.alm ∧ (s.writeSet a g b).2.2.irq = s.irq ∧ (s.writeSet a g b).2.2.mem = s.mem ∧
    (s.writeSet a g b).2.2.flt = s.flt ∧ (s.writeSet a g b).2.2.cal = s.cal ∧ (s.writeSet a g b).2.2.gauge = s.gauge ∧
    (s.writeSet a g b).2.2.clk = s.clk ∧ (s.writeSet a g b).2.2.boot = s.boot := by
  simp [State.ite_kept .., State.writeSet, State.clampIf_kept .., State.no_kept .., State.okAt_kept ..,
      State.orderGpo_kept ..]
theorem State.writeBlob_kept (s : State) (a : Nat) (fam : Nat) (inst : Nat) (mem : Nat) (sp : Space) (n : Nat) (b : List Byte) :
    (s.writeBlob a fam inst mem sp n b).2.2.now = s.now ∧
    (s.writeBlob a fam inst mem sp n b).2.2.pending = s.pending ∧
    (s.writeBlob a fam inst mem sp n b).2.2.answer = s.answer ∧
    (s.writeBlob a fam inst mem sp n b).2.2.links = s.links ∧
    (s.writeBlob a fam inst mem sp n b).2.2.shed = s.shed ∧
    (s.writeBlob a fam inst mem sp n b).2.2.copy = s.copy ∧
    (s.writeBlob a fam inst mem sp n b).2.2.rings = s.rings ∧
    (s.writeBlob a fam inst mem sp n b).2.2.mem = s.mem ∧
    (s.writeBlob a fam inst mem sp n b).2.2.gauge = s.gauge ∧
    (s.writeBlob a fam inst mem sp n b).2.2.boot = s.boot := by
  simp only [State.writeBlob]; (repeat' split) <;> simp [State.ite_kept .., byStatus, State.writeFlow_kept ..,
  State.deleteFlow_kept .., State.no_kept .., State.writeDelivery_kept .., State.grantBlock_kept ..,
  State.writeStatic_kept .., State.setCfg_kept .., State.judgeAll_kept .., State.ok_kept ..,
  State.sweepPeers_kept .., State.writeCrop_kept .., State.writeScale_kept .., State.writeCoef_kept ..,
  State.writeTally_kept .., State.loadPatch_kept .., State.writeAudio_kept .., State.writePids_kept ..,
  State.writeTiers_kept .., State.writeGroups_kept .., State.writeQueue_kept .., State.writeClassMode_kept ..,
  State.writeCycle_kept .., State.writeList_kept .., State.writeMaxPacket_kept .., State.writeActions_kept ..,
  State.writeAddress_kept .., State.writeInband_kept .., State.writeKey_kept .., State.writeSlotGrant_kept ..,
  State.writeRunEntry_kept .., State.writeEnableEntry_kept .., State.writeUnitReset_kept .., State.calStart_kept ..,
  State.trimRestore_kept .., State.clampIf_kept .., State.selectCounter_kept .., State.harvest_kept ..,
  State.setHarvest_kept .., State.writeSet_kept ..]
theorem State.writeMode_kept (s : State) (c : Nat) (v : Nat) :
    (s.writeMode c v).now = s.now ∧ (s.writeMode c v).pending = s.pending ∧ (s.writeMode c v).answer = s.answer ∧
    (s.writeMode c v).emits = s.emits ∧ (s.writeMode c v).fresh = s.fresh ∧ (s.writeMode c v).links = s.links ∧
    (s.writeMode c v).shed = s.shed ∧ (s.writeMode c v).copy = s.copy ∧ (s.writeMode c v).fwd = s.fwd ∧
    (s.writeMode c v).rings = s.rings ∧ (s.writeMode c v).allots = s.allots ∧ (s.writeMode c v).irq = s.irq ∧
    (s.writeMode c v).mem = s.mem ∧ (s.writeMode c v).flt = s.flt ∧ (s.writeMode c v).cal = s.cal ∧
    (s.writeMode c v).gauge = s.gauge ∧ (s.writeMode c v).mod = s.mod ∧ (s.writeMode c v).clk = s.clk ∧
    (s.writeMode c v).boot = s.boot := by
  simp [State.ite_kept .., State.modIntake, State.writeMode, State.applyIntake_kept .., State.judgeAll_kept ..,
      State.setCfgN_kept ..,
      State.sweepPeers_kept ..]
theorem State.writeCut_kept (s : State) (n : Nat) (c : Nat) :
    (s.writeCut n c).2.2.now = s.now ∧ (s.writeCut n c).2.2.pending = s.pending ∧
    (s.writeCut n c).2.2.answer = s.answer ∧ (s.writeCut n c).2.2.emits = s.emits ∧
    (s.writeCut n c).2.2.fresh = s.fresh ∧ (s.writeCut n c).2.2.links = s.links ∧ (s.writeCut n c).2.2.shed = s.shed ∧
    (s.writeCut n c).2.2.copy = s.copy ∧ (s.writeCut n c).2.2.fwd = s.fwd ∧ (s.writeCut n c).2.2.rings = s.rings ∧
    (s.writeCut n c).2.2.egr = s.egr ∧ (s.writeCut n c).2.2.allots = s.allots ∧ (s.writeCut n c).2.2.irq = s.irq ∧
    (s.writeCut n c).2.2.mem = s.mem ∧ (s.writeCut n c).2.2.flt = s.flt ∧ (s.writeCut n c).2.2.cal = s.cal ∧
    (s.writeCut n c).2.2.gauge = s.gauge ∧ (s.writeCut n c).2.2.mod = s.mod ∧ (s.writeCut n c).2.2.clk = s.clk ∧
    (s.writeCut n c).2.2.boot = s.boot := by
  simp only [State.writeCut]
  split <;> (rename_i h; have k := State.orderCut_kept (s.setCfgN 0x20 (0x2000 + n) 0x03 8 0) n c
               (if s.cfgN 0x20 (0x2000 + n) 0x03 = 0 then s.now else s.cfgN 0x20 (0x2000 + n) 0x03) false;
             simp only [h] at k; simp [k, State.okAt_kept .., State.orderCut_kept .., State.setCfgN_kept ..])
theorem State.writePeer_kept (s : State) (c : Nat) (v : Nat) :
    (s.writePeer c v).2.2.now = s.now ∧ (s.writePeer c v).2.2.pending = s.pending ∧
    (s.writePeer c v).2.2.answer = s.answer ∧ (s.writePeer c v).2.2.emits = s.emits ∧
    (s.writePeer c v).2.2.fresh = s.fresh ∧ (s.writePeer c v).2.2.links = s.links ∧
    (s.writePeer c v).2.2.shed = s.shed ∧ (s.writePeer c v).2.2.copy = s.copy ∧ (s.writePeer c v).2.2.fwd = s.fwd ∧
    (s.writePeer c v).2.2.rings = s.rings ∧ (s.writePeer c v).2.2.egr = s.egr ∧
    (s.writePeer c v).2.2.allots = s.allots ∧ (s.writePeer c v).2.2.irq = s.irq ∧ (s.writePeer c v).2.2.mem = s.mem ∧
    (s.writePeer c v).2.2.flt = s.flt ∧ (s.writePeer c v).2.2.cal = s.cal ∧ (s.writePeer c v).2.2.gauge = s.gauge ∧
    (s.writePeer c v).2.2.mod = s.mod ∧ (s.writePeer c v).2.2.clk = s.clk ∧ (s.writePeer c v).2.2.boot = s.boot := by
  simp [State.ite_kept .., State.writePeer, State.judgeAll_kept .., State.no_kept .., State.ok_kept ..,
      State.setCfgN_kept ..]
theorem State.writeStandby_kept (s : State) (n : Nat) (v : Nat) :
    (s.writeStandby n v).2.2.now = s.now ∧ (s.writeStandby n v).2.2.pending = s.pending ∧
    (s.writeStandby n v).2.2.answer = s.answer ∧ (s.writeStandby n v).2.2.emits = s.emits ∧
    (s.writeStandby n v).2.2.fresh = s.fresh ∧ (s.writeStandby n v).2.2.links = s.links ∧
    (s.writeStandby n v).2.2.shed = s.shed ∧ (s.writeStandby n v).2.2.copy = s.copy ∧
    (s.writeStandby n v).2.2.fwd = s.fwd ∧ (s.writeStandby n v).2.2.rings = s.rings ∧
    (s.writeStandby n v).2.2.egr = s.egr ∧ (s.writeStandby n v).2.2.allots = s.allots ∧
    (s.writeStandby n v).2.2.irq = s.irq ∧ (s.writeStandby n v).2.2.mem = s.mem ∧
    (s.writeStandby n v).2.2.flt = s.flt ∧ (s.writeStandby n v).2.2.cal = s.cal ∧
    (s.writeStandby n v).2.2.gauge = s.gauge ∧ (s.writeStandby n v).2.2.mod = s.mod ∧
    (s.writeStandby n v).2.2.clk = s.clk ∧ (s.writeStandby n v).2.2.boot = s.boot := by
  simp [State.ite_kept .., State.writeStandby, State.judgeAll_kept .., State.no_kept .., State.ok_kept ..,
      State.setCfgN_kept ..]
theorem State.writeGroupOf_kept (s : State) (n : Nat) (v : Nat) :
    (s.writeGroupOf n v).2.2.now = s.now ∧ (s.writeGroupOf n v).2.2.pending = s.pending ∧
    (s.writeGroupOf n v).2.2.answer = s.answer ∧ (s.writeGroupOf n v).2.2.emits = s.emits ∧
    (s.writeGroupOf n v).2.2.fresh = s.fresh ∧ (s.writeGroupOf n v).2.2.links = s.links ∧
    (s.writeGroupOf n v).2.2.shed = s.shed ∧ (s.writeGroupOf n v).2.2.copy = s.copy ∧
    (s.writeGroupOf n v).2.2.fwd = s.fwd ∧ (s.writeGroupOf n v).2.2.rings = s.rings ∧
    (s.writeGroupOf n v).2.2.str = s.str ∧ (s.writeGroupOf n v).2.2.egr = s.egr ∧
    (s.writeGroupOf n v).2.2.allots = s.allots ∧ (s.writeGroupOf n v).2.2.irq = s.irq ∧
    (s.writeGroupOf n v).2.2.mem = s.mem ∧ (s.writeGroupOf n v).2.2.flt = s.flt ∧
    (s.writeGroupOf n v).2.2.cal = s.cal ∧ (s.writeGroupOf n v).2.2.gauge = s.gauge ∧
    (s.writeGroupOf n v).2.2.mod = s.mod ∧ (s.writeGroupOf n v).2.2.clk = s.clk ∧
    (s.writeGroupOf n v).2.2.boot = s.boot := by
  simp [State.ite_kept .., State.writeGroupOf, State.no_kept .., State.ok_kept .., State.setCfgN_kept ..]
theorem State.writeGroupEntry_kept (s : State) (g : Nat) (mem : Nat) (w : Nat) (v : Nat) :
    (s.writeGroupEntry g mem w v).2.2.now = s.now ∧ (s.writeGroupEntry g mem w v).2.2.pending = s.pending ∧
    (s.writeGroupEntry g mem w v).2.2.answer = s.answer ∧ (s.writeGroupEntry g mem w v).2.2.emits = s.emits ∧
    (s.writeGroupEntry g mem w v).2.2.fresh = s.fresh ∧ (s.writeGroupEntry g mem w v).2.2.links = s.links ∧
    (s.writeGroupEntry g mem w v).2.2.shed = s.shed ∧ (s.writeGroupEntry g mem w v).2.2.copy = s.copy ∧
    (s.writeGroupEntry g mem w v).2.2.fwd = s.fwd ∧ (s.writeGroupEntry g mem w v).2.2.rings = s.rings ∧
    (s.writeGroupEntry g mem w v).2.2.egr = s.egr ∧ (s.writeGroupEntry g mem w v).2.2.allots = s.allots ∧
    (s.writeGroupEntry g mem w v).2.2.irq = s.irq ∧ (s.writeGroupEntry g mem w v).2.2.mem = s.mem ∧
    (s.writeGroupEntry g mem w v).2.2.flt = s.flt ∧ (s.writeGroupEntry g mem w v).2.2.cal = s.cal ∧
    (s.writeGroupEntry g mem w v).2.2.gauge = s.gauge ∧ (s.writeGroupEntry g mem w v).2.2.mod = s.mod ∧
    (s.writeGroupEntry g mem w v).2.2.clk = s.clk ∧ (s.writeGroupEntry g mem w v).2.2.boot = s.boot := by
  simp [State.ite_kept .., State.writeGroupEntry, State.no_kept .., State.okAt_kept .., State.ok_kept ..,
      State.setCfgN_kept ..,
      State.writePeriod_kept ..]
theorem State.writeStream_kept (s : State) (n : Nat) (fam : Nat) (inst : Nat) (mem : Nat) (v : List Byte) :
    (s.writeStream n fam inst mem v).2.2.now = s.now ∧ (s.writeStream n fam inst mem v).2.2.pending = s.pending ∧
    (s.writeStream n fam inst mem v).2.2.answer = s.answer ∧ (s.writeStream n fam inst mem v).2.2.emits = s.emits ∧
    (s.writeStream n fam inst mem v).2.2.fresh = s.fresh ∧ (s.writeStream n fam inst mem v).2.2.links = s.links ∧
    (s.writeStream n fam inst mem v).2.2.shed = s.shed ∧ (s.writeStream n fam inst mem v).2.2.copy = s.copy ∧
    (s.writeStream n fam inst mem v).2.2.fwd = s.fwd ∧ (s.writeStream n fam inst mem v).2.2.rings = s.rings ∧
    (s.writeStream n fam inst mem v).2.2.egr = s.egr ∧ (s.writeStream n fam inst mem v).2.2.allots = s.allots ∧
    (s.writeStream n fam inst mem v).2.2.irq = s.irq ∧ (s.writeStream n fam inst mem v).2.2.mem = s.mem ∧
    (s.writeStream n fam inst mem v).2.2.flt = s.flt ∧ (s.writeStream n fam inst mem v).2.2.cal = s.cal ∧
    (s.writeStream n fam inst mem v).2.2.gauge = s.gauge ∧ (s.writeStream n fam inst mem v).2.2.mod = s.mod ∧
    (s.writeStream n fam inst mem v).2.2.clk = s.clk ∧ (s.writeStream n fam inst mem v).2.2.boot = s.boot := by
  simp [State.writeStream, State.okAt_kept .., State.shadowWrite_kept ..]
theorem State.writePoint_kept (s : State) (n : Nat) (x : Nat) (fam : Nat) (inst : Nat) (b : List Byte) :
    (s.writePoint n x fam inst b).2.2.now = s.now ∧ (s.writePoint n x fam inst b).2.2.pending = s.pending ∧
    (s.writePoint n x fam inst b).2.2.answer = s.answer ∧ (s.writePoint n x fam inst b).2.2.emits = s.emits ∧
    (s.writePoint n x fam inst b).2.2.fresh = s.fresh ∧ (s.writePoint n x fam inst b).2.2.links = s.links ∧
    (s.writePoint n x fam inst b).2.2.shed = s.shed ∧ (s.writePoint n x fam inst b).2.2.copy = s.copy ∧
    (s.writePoint n x fam inst b).2.2.fwd = s.fwd ∧ (s.writePoint n x fam inst b).2.2.rings = s.rings ∧
    (s.writePoint n x fam inst b).2.2.str = s.str ∧ (s.writePoint n x fam inst b).2.2.egr = s.egr ∧
    (s.writePoint n x fam inst b).2.2.allots = s.allots ∧ (s.writePoint n x fam inst b).2.2.irq = s.irq ∧
    (s.writePoint n x fam inst b).2.2.flt = s.flt ∧ (s.writePoint n x fam inst b).2.2.cal = s.cal ∧
    (s.writePoint n x fam inst b).2.2.gauge = s.gauge ∧ (s.writePoint n x fam inst b).2.2.mod = s.mod ∧
    (s.writePoint n x fam inst b).2.2.boot = s.boot ∧
    (s.writePoint n x fam inst b).2.2.mem.exchange = s.mem.exchange ∧
    (s.writePoint n x fam inst b).2.2.mem.areas = s.mem.areas := by
  simp [State.ite_kept .., State.writePoint, State.ok_kept .., State.setCfg_kept .., State.setPoint_kept ..]
theorem State.writeClass_kept (s : State) (a : Nat) (n : Nat) (x : Nat) :
    (s.writeClass a n x).2.2.now = s.now ∧ (s.writeClass a n x).2.2.pending = s.pending ∧
    (s.writeClass a n x).2.2.answer = s.answer ∧ (s.writeClass a n x).2.2.emits = s.emits ∧
    (s.writeClass a n x).2.2.fresh = s.fresh ∧ (s.writeClass a n x).2.2.links = s.links ∧
    (s.writeClass a n x).2.2.shed = s.shed ∧ (s.writeClass a n x).2.2.copy = s.copy ∧
    (s.writeClass a n x).2.2.fwd = s.fwd ∧ (s.writeClass a n x).2.2.rings = s.rings ∧
    (s.writeClass a n x).2.2.str = s.str ∧ (s.writeClass a n x).2.2.egr = s.egr ∧
    (s.writeClass a n x).2.2.alm = s.alm ∧ (s.writeClass a n x).2.2.irq = s.irq ∧
    (s.writeClass a n x).2.2.mem = s.mem ∧ (s.writeClass a n x).2.2.cal = s.cal ∧
    (s.writeClass a n x).2.2.gauge = s.gauge ∧ (s.writeClass a n x).2.2.mod = s.mod ∧
    (s.writeClass a n x).2.2.clk = s.clk ∧ (s.writeClass a n x).2.2.boot = s.boot := by
  simp only [State.writeClass]; split <;> simp [State.ite_kept .., State.clampIf_kept .., State.ok_kept ..,
      State.setClass_kept ..]
theorem State.writeNumber_kept (s : State) (a : Nat) (fam : Nat) (inst : Nat) (mem : Nat) (sp : Space) (n : Nat) (r : Row) (v : Int) :
    (s.writeNumber a fam inst mem sp n r v).2.2.pending = s.pending ∧
    (s.writeNumber a fam inst mem sp n r v).2.2.answer = s.answer := by
  simp only [State.writeNumber]; (repeat' split) <;> simp [State.ite_kept .., State.modFlt, byStatus,
  State.setCfg_kept .., State.rebreak_kept .., State.regate_kept .., State.judgeAll_kept .., State.ok_kept ..,
  State.enableChanged_kept .., State.giveOwner_kept .., State.writeMode_kept .., State.sweepPeers_kept ..,
  State.condition_kept .., State.writeCut_kept .., State.shadowWrite_kept .., State.okAt_kept ..,
  State.keepWarm_kept .., State.wakeBed_kept .., State.sleepBed_kept .., State.admitOp_kept .., State.no_kept ..,
  State.writeStream_kept .., State.writeGroupOf_kept .., State.writeGroupEntry_kept .., State.writeStandby_kept ..,
  State.sizePool_kept .., State.writePeer_kept .., State.gatesAt_kept .., State.writeGate_kept ..,
  State.writeAddress_kept .., State.writeLink_kept .., State.grantLatches_kept .., State.resetAllot_kept ..,
  State.writePoint_kept .., State.clearLog_kept .., State.settleArea_kept .., State.setCfgN_kept ..,
  State.clamp_kept .., State.setInject_kept .., State.clearRecord_kept .., State.writeClass_kept ..,
  State.forceFault_kept .., State.armEpoch_kept .., State.discardTrims_kept .., State.retest_kept ..,
  State.freezeAll_kept .., State.snapshot_kept .., State.orderHistClear_kept .., State.chooseMain_kept ..,
  State.selectCf_kept .., State.bmca_kept .., State.orderTime_kept ..]
theorem State.writeScalar_kept (s : State) (a : Nat) (fam : Nat) (inst : Nat) (mem : Nat) (sp : Space) (n : Nat) (r : Row) (b : List Byte) :
    (s.writeScalar a fam inst mem sp n r b).2.2.pending = s.pending ∧
    (s.writeScalar a fam inst mem sp n r b).2.2.answer = s.answer := by
  simp only [State.writeScalar]; (repeat' split) <;> simp [State.clamp_kept .., State.no_kept ..,
      State.writeNumber_kept ..]
theorem State.writeString_kept (s : State) (a : Nat) (fam : Nat) (inst : Nat) (mem : Nat) (b : List Byte) :
    (s.writeString a fam inst mem b).2.2.now = s.now ∧ (s.writeString a fam inst mem b).2.2.pending = s.pending ∧
    (s.writeString a fam inst mem b).2.2.answer = s.answer ∧ (s.writeString a fam inst mem b).2.2.emits = s.emits ∧
    (s.writeString a fam inst mem b).2.2.fresh = s.fresh ∧ (s.writeString a fam inst mem b).2.2.links = s.links ∧
    (s.writeString a fam inst mem b).2.2.shed = s.shed ∧ (s.writeString a fam inst mem b).2.2.copy = s.copy ∧
    (s.writeString a fam inst mem b).2.2.fwd = s.fwd ∧ (s.writeString a fam inst mem b).2.2.rings = s.rings ∧
    (s.writeString a fam inst mem b).2.2.str = s.str ∧ (s.writeString a fam inst mem b).2.2.egr = s.egr ∧
    (s.writeString a fam inst mem b).2.2.allots = s.allots ∧ (s.writeString a fam inst mem b).2.2.irq = s.irq ∧
    (s.writeString a fam inst mem b).2.2.mem = s.mem ∧ (s.writeString a fam inst mem b).2.2.flt = s.flt ∧
    (s.writeString a fam inst mem b).2.2.cal = s.cal ∧ (s.writeString a fam inst mem b).2.2.gauge = s.gauge ∧
    (s.writeString a fam inst mem b).2.2.mod = s.mod ∧ (s.writeString a fam inst mem b).2.2.clk = s.clk ∧
    (s.writeString a fam inst mem b).2.2.boot = s.boot := by
  simp [State.ite_kept .., State.writeString, State.no_kept .., State.ok_kept .., State.setCfg_kept ..]
@[simp] theorem afterWrite_now (sp : Space) (n : Nat) (r : Row) (w : Nat) (x : Nat × Nat × State) :
    (afterWrite sp n r w x).2.2.now = x.2.2.now := by
  simp only [afterWrite]; (repeat' split) <;> simp [State.clearPeers_kept .., State.takeKind_kept ..]
@[simp] theorem afterWrite_pending (sp : Space) (n : Nat) (r : Row) (w : Nat) (x : Nat × Nat × State) :
    (afterWrite sp n r w x).2.2.pending = x.2.2.pending := by
  simp only [afterWrite]; (repeat' split) <;> simp [State.clearPeers_kept .., State.takeKind_kept ..]
@[simp] theorem afterWrite_answer (sp : Space) (n : Nat) (r : Row) (w : Nat) (x : Nat × Nat × State) :
    (afterWrite sp n r w x).2.2.answer = x.2.2.answer := by
  simp only [afterWrite]; (repeat' split) <;> simp [State.clearPeers_kept .., State.takeKind_kept ..]
@[simp] theorem afterWrite_emits (sp : Space) (n : Nat) (r : Row) (w : Nat) (x : Nat × Nat × State) :
    (afterWrite sp n r w x).2.2.emits = x.2.2.emits := by
  simp only [afterWrite]; (repeat' split) <;> simp [State.clearPeers_kept .., State.takeKind_kept ..]
@[simp] theorem afterWrite_fresh (sp : Space) (n : Nat) (r : Row) (w : Nat) (x : Nat × Nat × State) :
    (afterWrite sp n r w x).2.2.fresh = x.2.2.fresh := by
  simp only [afterWrite]; (repeat' split) <;> simp [State.clearPeers_kept .., State.takeKind_kept ..]
@[simp] theorem afterWrite_links (sp : Space) (n : Nat) (r : Row) (w : Nat) (x : Nat × Nat × State) :
    (afterWrite sp n r w x).2.2.links = x.2.2.links := by
  simp only [afterWrite]; (repeat' split) <;> simp [State.clearPeers_kept .., State.takeKind_kept ..]
@[simp] theorem afterWrite_shed (sp : Space) (n : Nat) (r : Row) (w : Nat) (x : Nat × Nat × State) :
    (afterWrite sp n r w x).2.2.shed = x.2.2.shed := by
  simp only [afterWrite]; (repeat' split) <;> simp [State.clearPeers_kept .., State.takeKind_kept ..]
@[simp] theorem afterWrite_copy (sp : Space) (n : Nat) (r : Row) (w : Nat) (x : Nat × Nat × State) :
    (afterWrite sp n r w x).2.2.copy = x.2.2.copy := by
  simp only [afterWrite]; (repeat' split) <;> simp [State.clearPeers_kept .., State.takeKind_kept ..]
@[simp] theorem afterWrite_fwd (sp : Space) (n : Nat) (r : Row) (w : Nat) (x : Nat × Nat × State) :
    (afterWrite sp n r w x).2.2.fwd = x.2.2.fwd := by
  simp only [afterWrite]; (repeat' split) <;> simp [State.clearPeers_kept .., State.takeKind_kept ..]
@[simp] theorem afterWrite_rings (sp : Space) (n : Nat) (r : Row) (w : Nat) (x : Nat × Nat × State) :
    (afterWrite sp n r w x).2.2.rings = x.2.2.rings := by
  simp only [afterWrite]; (repeat' split) <;> simp [State.clearPeers_kept .., State.takeKind_kept ..]
@[simp] theorem afterWrite_egr (sp : Space) (n : Nat) (r : Row) (w : Nat) (x : Nat × Nat × State) :
    (afterWrite sp n r w x).2.2.egr = x.2.2.egr := by
  simp only [afterWrite]; (repeat' split) <;> simp [State.clearPeers_kept .., State.takeKind_kept ..]
@[simp] theorem afterWrite_allots (sp : Space) (n : Nat) (r : Row) (w : Nat) (x : Nat × Nat × State) :
    (afterWrite sp n r w x).2.2.allots = x.2.2.allots := by
  simp only [afterWrite]; (repeat' split) <;> simp [State.clearPeers_kept .., State.takeKind_kept ..]
@[simp] theorem afterWrite_irq (sp : Space) (n : Nat) (r : Row) (w : Nat) (x : Nat × Nat × State) :
    (afterWrite sp n r w x).2.2.irq = x.2.2.irq := by
  simp only [afterWrite]; (repeat' split) <;> simp [State.clearPeers_kept .., State.takeKind_kept ..]
@[simp] theorem afterWrite_mem (sp : Space) (n : Nat) (r : Row) (w : Nat) (x : Nat × Nat × State) :
    (afterWrite sp n r w x).2.2.mem = x.2.2.mem := by
  simp only [afterWrite]; (repeat' split) <;> simp [State.clearPeers_kept .., State.takeKind_kept ..]
@[simp] theorem afterWrite_flt (sp : Space) (n : Nat) (r : Row) (w : Nat) (x : Nat × Nat × State) :
    (afterWrite sp n r w x).2.2.flt = x.2.2.flt := by
  simp only [afterWrite]; (repeat' split) <;> simp [State.clearPeers_kept .., State.takeKind_kept ..]
@[simp] theorem afterWrite_cal (sp : Space) (n : Nat) (r : Row) (w : Nat) (x : Nat × Nat × State) :
    (afterWrite sp n r w x).2.2.cal = x.2.2.cal := by
  simp only [afterWrite]; (repeat' split) <;> simp [State.clearPeers_kept .., State.takeKind_kept ..]
@[simp] theorem afterWrite_gauge (sp : Space) (n : Nat) (r : Row) (w : Nat) (x : Nat × Nat × State) :
    (afterWrite sp n r w x).2.2.gauge = x.2.2.gauge := by
  simp only [afterWrite]; (repeat' split) <;> simp [State.clearPeers_kept .., State.takeKind_kept ..]
@[simp] theorem afterWrite_mod (sp : Space) (n : Nat) (r : Row) (w : Nat) (x : Nat × Nat × State) :
    (afterWrite sp n r w x).2.2.mod = x.2.2.mod := by
  simp only [afterWrite]; (repeat' split) <;> simp [State.clearPeers_kept .., State.takeKind_kept ..]
@[simp] theorem afterWrite_clk (sp : Space) (n : Nat) (r : Row) (w : Nat) (x : Nat × Nat × State) :
    (afterWrite sp n r w x).2.2.clk = x.2.2.clk := by
  simp only [afterWrite]; (repeat' split) <;> simp [State.clearPeers_kept .., State.takeKind_kept ..]
@[simp] theorem afterWrite_boot (sp : Space) (n : Nat) (r : Row) (w : Nat) (x : Nat × Nat × State) :
    (afterWrite sp n r w x).2.2.boot = x.2.2.boot := by
  simp only [afterWrite]; (repeat' split) <;> simp [State.clearPeers_kept .., State.takeKind_kept ..]
@[simp] theorem afterWrite_exchange (sp : Space) (n : Nat) (r : Row) (w : Nat) (x : Nat × Nat × State) :
    (afterWrite sp n r w x).2.2.mem.exchange = x.2.2.mem.exchange := by
  simp only [afterWrite]; (repeat' split) <;> simp [State.clearPeers_kept .., State.takeKind_kept ..]
@[simp] theorem afterWrite_areas (sp : Space) (n : Nat) (r : Row) (w : Nat) (x : Nat × Nat × State) :
    (afterWrite sp n r w x).2.2.mem.areas = x.2.2.mem.areas := by
  simp only [afterWrite]; (repeat' split) <;> simp [State.clearPeers_kept .., State.takeKind_kept ..]
theorem State.entryWrite_kept (s : State) (a : Nat) (fam : Nat) (inst : Nat) (mem : Nat) (sp : Space) (n : Nat) (r : Row) (b : List Byte) :
    (s.entryWrite a fam inst mem sp n r b).2.2.pending = s.pending ∧
    (s.entryWrite a fam inst mem sp n r b).2.2.answer = s.answer := by
  simp only [State.entryWrite]; (repeat' split) <;> simp [State.no_kept .., State.ok_kept .., State.setCfg_kept ..,
      State.writeBlob_kept .., State.writeScalar_kept .., State.writeString_kept ..]
end Sys2Proof.Machine
end

