-- ==== Sys2Proof/Laws/FramesAlmanac.lean ====
section
/-! SUPPORT. The parts of the state that the Almanac engine and the register windows leave alone: one lemma for each operation, by its parts. -/

set_option linter.unusedSimpArgs false

namespace Sys2Proof.Machine

/-! ## Almanac.lean -/

theorem State.fromCopy_kept (s : State) :
    s.fromCopy.now = s.now ∧ s.fromCopy.pending = s.pending ∧ s.fromCopy.answer = s.answer ∧
    s.fromCopy.emits = s.emits ∧ s.fromCopy.fresh = s.fresh ∧ s.fromCopy.links = s.links ∧ s.fromCopy.shed = s.shed ∧
    s.fromCopy.copy = s.copy ∧ s.fromCopy.rings = s.rings ∧ s.fromCopy.irq = s.irq ∧ s.fromCopy.boot = s.boot := by
  simp only [State.fromCopy]; split <;> simp
theorem State.noteWrite_kept (s : State) (a : Nat) (fam : Nat) (inst : Nat) (mem : Nat) (key : Nat) (old : List Byte) :
    (s.noteWrite a fam inst mem key old).now = s.now ∧ (s.noteWrite a fam inst mem key old).pending = s.pending ∧
    (s.noteWrite a fam inst mem key old).answer = s.answer ∧ (s.noteWrite a fam inst mem key old).emits = s.emits ∧
    (s.noteWrite a fam inst mem key old).fresh = s.fresh ∧ (s.noteWrite a fam inst mem key old).links = s.links ∧
    (s.noteWrite a fam inst mem key old).shed = s.shed ∧ (s.noteWrite a fam inst mem key old).copy = s.copy ∧
    (s.noteWrite a fam inst mem key old).fwd = s.fwd ∧ (s.noteWrite a fam inst mem key old).rings = s.rings ∧
    (s.noteWrite a fam inst mem key old).str = s.str ∧ (s.noteWrite a fam inst mem key old).egr = s.egr ∧
    (s.noteWrite a fam inst mem key old).allots = s.allots ∧ (s.noteWrite a fam inst mem key old).irq = s.irq ∧
    (s.noteWrite a fam inst mem key old).mem = s.mem ∧ (s.noteWrite a fam inst mem key old).flt = s.flt ∧
    (s.noteWrite a fam inst mem key old).cal = s.cal ∧ (s.noteWrite a fam inst mem key old).gauge = s.gauge ∧
    (s.noteWrite a fam inst mem key old).mod = s.mod ∧ (s.noteWrite a fam inst mem key old).clk = s.clk ∧
    (s.noteWrite a fam inst mem key old).boot = s.boot := by
  simp [State.noteWrite]
theorem State.writeOp_kept (s : State) (a : Nat) (fam : Nat) (inst : Nat) (mem : Nat) (b : List Byte) :
    (s.writeOp a fam inst mem b).2.2.pending = s.pending ∧ (s.writeOp a fam inst mem b).2.2.answer = s.answer := by
  simp only [State.writeOp]; (repeat' split) <;> simp [State.modAllot, State.covers_kept .., State.covers_kept ..,
      State.entryWrite_kept ..,
      State.no_kept .., State.noteWrite_kept .., State.noteWrite_kept ..]
theorem State.stageBytes_kept (s : State) (a : Nat) (off : Nat) (b : List Byte) :
    (s.stageBytes a off b).2.now = s.now ∧ (s.stageBytes a off b).2.pending = s.pending ∧
    (s.stageBytes a off b).2.answer = s.answer ∧ (s.stageBytes a off b).2.emits = s.emits ∧
    (s.stageBytes a off b).2.fresh = s.fresh ∧ (s.stageBytes a off b).2.links = s.links ∧
    (s.stageBytes a off b).2.shed = s.shed ∧ (s.stageBytes a off b).2.copy = s.copy ∧
    (s.stageBytes a off b).2.fwd = s.fwd ∧ (s.stageBytes a off b).2.rings = s.rings ∧
    (s.stageBytes a off b).2.str = s.str ∧ (s.stageBytes a off b).2.egr = s.egr ∧
    (s.stageBytes a off b).2.alm = s.alm ∧ (s.stageBytes a off b).2.irq = s.irq ∧
    (s.stageBytes a off b).2.mem = s.mem ∧ (s.stageBytes a off b).2.flt = s.flt ∧
    (s.stageBytes a off b).2.cal = s.cal ∧ (s.stageBytes a off b).2.gauge = s.gauge ∧
    (s.stageBytes a off b).2.mod = s.mod ∧ (s.stageBytes a off b).2.clk = s.clk ∧
    (s.stageBytes a off b).2.boot = s.boot := by
  simp [State.ite_kept .., State.modAllot, State.stageBytes]
theorem State.clearStage_kept (s : State) (a : Nat) :
    (s.clearStage a).now = s.now ∧ (s.clearStage a).pending = s.pending ∧ (s.clearStage a).answer = s.answer ∧
    (s.clearStage a).emits = s.emits ∧ (s.clearStage a).fresh = s.fresh ∧ (s.clearStage a).links = s.links ∧
    (s.clearStage a).shed = s.shed ∧ (s.clearStage a).copy = s.copy ∧ (s.clearStage a).fwd = s.fwd ∧
    (s.clearStage a).rings = s.rings ∧ (s.clearStage a).str = s.str ∧ (s.clearStage a).egr = s.egr ∧
    (s.clearStage a).alm = s.alm ∧ (s.clearStage a).irq = s.irq ∧ (s.clearStage a).mem = s.mem ∧
    (s.clearStage a).flt = s.flt ∧ (s.clearStage a).cal = s.cal ∧ (s.clearStage a).gauge = s.gauge ∧
    (s.clearStage a).mod = s.mod ∧ (s.clearStage a).clk = s.clk ∧ (s.clearStage a).boot = s.boot := by
  simp [State.modAllot, State.clearStage]
theorem State.queueOp_kept (s : State) (j : JournalOp) :
    (s.queueOp j).next.now = s.now ∧ (s.queueOp j).next.pending = s.pending ∧ (s.queueOp j).next.answer = s.answer ∧
    (s.queueOp j).next.emits = s.emits ∧ (s.queueOp j).next.fresh = s.fresh ∧ (s.queueOp j).next.links = s.links ∧
    (s.queueOp j).next.copy = s.copy ∧ (s.queueOp j).next.fwd = s.fwd ∧ (s.queueOp j).next.rings = s.rings ∧
    (s.queueOp j).next.str = s.str ∧ (s.queueOp j).next.egr = s.egr ∧ (s.queueOp j).next.alm = s.alm ∧
    (s.queueOp j).next.allots = s.allots ∧ (s.queueOp j).next.irq = s.irq ∧ (s.queueOp j).next.mem = s.mem ∧
    (s.queueOp j).next.flt = s.flt ∧ (s.queueOp j).next.cal = s.cal ∧ (s.queueOp j).next.gauge = s.gauge ∧
    (s.queueOp j).next.mod = s.mod ∧ (s.queueOp j).next.clk = s.clk ∧ (s.queueOp j).next.boot = s.boot := by
  simp only [State.queueOp]; split <;> simp
theorem State.runWrite_kept (s : State) (a : Nat) (seq : Nat) (idx : Nat) (fam : Nat) (inst : Nat) (mem : Nat) (b : List Byte) :
    (s.runWrite a seq idx fam inst mem b).next.pending = s.pending ∧
    (s.runWrite a seq idx fam inst mem b).next.answer = s.answer := by
  simp only [State.runWrite]; split <;> simp [State.queueOp_kept .., State.writeOp_kept ..]
theorem State.runRead_kept (s : State) (a : Nat) (seq : Nat) (idx : Nat) (fam : Nat) (inst : Nat) (mem : Nat) (arg : List Byte) :
    (s.runRead a seq idx fam inst mem arg).next.now = s.now ∧
    (s.runRead a seq idx fam inst mem arg).next.pending = s.pending ∧
    (s.runRead a seq idx fam inst mem arg).next.answer = s.answer ∧
    (s.runRead a seq idx fam inst mem arg).next.emits = s.emits ∧
    (s.runRead a seq idx fam inst mem arg).next.fresh = s.fresh ∧
    (s.runRead a seq idx fam inst mem arg).next.links = s.links ∧
    (s.runRead a seq idx fam inst mem arg).next.copy = s.copy ∧
    (s.runRead a seq idx fam inst mem arg).next.fwd = s.fwd ∧
    (s.runRead a seq idx fam inst mem arg).next.rings = s.rings ∧
    (s.runRead a seq idx fam inst mem arg).next.str = s.str ∧
    (s.runRead a seq idx fam inst mem arg).next.egr = s.egr ∧
    (s.runRead a seq idx fam inst mem arg).next.alm = s.alm ∧
    (s.runRead a seq idx fam inst mem arg).next.allots = s.allots ∧
    (s.runRead a seq idx fam inst mem arg).next.irq = s.irq ∧
    (s.runRead a seq idx fam inst mem arg).next.mem = s.mem ∧
    (s.runRead a seq idx fam inst mem arg).next.flt = s.flt ∧
    (s.runRead a seq idx fam inst mem arg).next.cal = s.cal ∧
    (s.runRead a seq idx fam inst mem arg).next.gauge = s.gauge ∧
    (s.runRead a seq idx fam inst mem arg).next.mod = s.mod ∧
    (s.runRead a seq idx fam inst mem arg).next.clk = s.clk ∧
    (s.runRead a seq idx fam inst mem arg).next.boot = s.boot := by
  simp only [State.runRead]; split <;> simp [State.queueOp_kept ..]
theorem State.runStaged_kept (s : State) (a : Nat) (seq : Nat) (idx : Nat) (fam : Nat) (inst : Nat) (mem : Nat) (len : Nat) (formOk : Bool) :
    (s.runStaged a seq idx fam inst mem len formOk).next.pending = s.pending ∧
    (s.runStaged a seq idx fam inst mem len formOk).next.answer = s.answer := by
  simp only [State.runStaged]; split <;> simp [State.clearStage_kept .., State.runWrite_kept ..]
theorem State.runOp_kept (s : State) (a : Nat) (seq : Nat) (idx : Nat) (op : Nat) (fam : Nat) (inst : Nat) (mem : Nat) (d : List Byte) :
    (s.runOp a seq idx op fam inst mem d).next.pending = s.pending ∧
    (s.runOp a seq idx op fam inst mem d).next.answer = s.answer := by
  simp only [State.runOp]; (repeat' split) <;> simp [State.clearStage_kept .., State.runRead_kept ..,
      State.runStaged_kept ..,
      State.runWrite_kept .., State.stageBytes_kept ..]
@[simp] theorem State.order_kept (s : State) (a : Nat) (op : Nat) (fam : Nat) (inst : Nat) (mem : Nat) (d : List Byte) :
    (s.order a op fam inst mem d).pending = s.pending := by
  simp [State.ite_kept .., State.say, State.order, State.runOp_kept ..]
@[simp] theorem State.orderWrite_kept (s : State) (a : Nat) (fam : Nat) (inst : Nat) (mem : Nat) (b : List Byte) :
    (s.orderWrite a fam inst mem b).pending = s.pending := by
  simp [State.orderWrite]
@[simp] theorem State.orderNumber_kept (s : State) (a : Nat) (fam : Nat) (inst : Nat) (mem : Nat) (w : Nat) (v : Nat) :
    (s.orderNumber a fam inst mem w v).pending = s.pending := by
  simp [State.orderNumber]
@[simp] theorem State.orderRead_kept (s : State) (a : Nat) (fam : Nat) (inst : Nat) (mem : Nat) (arg : List Byte) :
    (s.orderRead a fam inst mem arg).pending = s.pending := by
  simp [State.orderRead]
theorem State.reply_kept (s : State) (a : Nat) (port : Nat) (body : List Byte) (tag : List Byte) :
    (s.reply a port body tag).now = s.now ∧ (s.reply a port body tag).pending = s.pending ∧
    (s.reply a port body tag).answer = s.answer ∧ (s.reply a port body tag).fresh = s.fresh ∧
    (s.reply a port body tag).links = s.links ∧ (s.reply a port body tag).shed = s.shed ∧
    (s.reply a port body tag).copy = s.copy ∧ (s.reply a port body tag).fwd = s.fwd ∧
    (s.reply a port body tag).rings = s.rings ∧ (s.reply a port body tag).str = s.str ∧
    (s.reply a port body tag).egr = s.egr ∧ (s.reply a port body tag).alm = s.alm ∧
    (s.reply a port body tag).mem = s.mem ∧ (s.reply a port body tag).flt = s.flt ∧
    (s.reply a port body tag).cal = s.cal ∧ (s.reply a port body tag).gauge = s.gauge ∧
    (s.reply a port body tag).mod = s.mod ∧ (s.reply a port body tag).clk = s.clk ∧
    (s.reply a port body tag).boot = s.boot := by
  simp [State.ite_kept .., State.emit, State.reply, State.modMbox_kept .., State.raise_kept ..]
theorem State.mailboxDrop_kept (s : State) (a : Nat) (port : Nat) :
    (s.mailboxDrop a port).now = s.now ∧ (s.mailboxDrop a port).pending = s.pending ∧
    (s.mailboxDrop a port).answer = s.answer ∧ (s.mailboxDrop a port).fresh = s.fresh ∧
    (s.mailboxDrop a port).links = s.links ∧ (s.mailboxDrop a port).shed = s.shed ∧
    (s.mailboxDrop a port).copy = s.copy ∧ (s.mailboxDrop a port).fwd = s.fwd ∧
    (s.mailboxDrop a port).rings = s.rings ∧ (s.mailboxDrop a port).str = s.str ∧ (s.mailboxDrop a port).egr = s.egr ∧
    (s.mailboxDrop a port).alm = s.alm ∧ (s.mailboxDrop a port).mem = s.mem ∧ (s.mailboxDrop a port).flt = s.flt ∧
    (s.mailboxDrop a port).cal = s.cal ∧ (s.mailboxDrop a port).gauge = s.gauge ∧ (s.mailboxDrop a port).mod = s.mod ∧
    (s.mailboxDrop a port).clk = s.clk ∧ (s.mailboxDrop a port).boot = s.boot := by
  simp [State.ite_kept .., State.mailboxDrop, State.modMbox_kept .., State.raise_kept ..]
@[simp] theorem State.runOps_pending (s : State) (run : State → Nat → ReqOp → OpResult) (k : Nat)
    (ops : List ReqOp) (b : List Byte) (q : Bool)
    (h : ∀ (t : State) (i : Nat) (o : ReqOp), (run t i o).next.pending = t.pending) :
    (s.runOps run k ops b q).2.2.pending = s.pending := by
  induction ops generalizing s k b q with
  | nil => simp [State.runOps]
  | cons o r ih => simp only [State.runOps]; split <;> simp [ih, h]
@[simp] theorem State.runOps_answer (s : State) (run : State → Nat → ReqOp → OpResult) (k : Nat)
    (ops : List ReqOp) (b : List Byte) (q : Bool)
    (h : ∀ (t : State) (i : Nat) (o : ReqOp), (run t i o).next.answer = t.answer) :
    (s.runOps run k ops b q).2.2.answer = s.answer := by
  induction ops generalizing s k b q with
  | nil => simp [State.runOps]
  | cons o r ih => simp only [State.runOps]; split <;> simp [ih, h]
@[simp] theorem State.runOps_emits (s : State) (run : State → Nat → ReqOp → OpResult) (k : Nat)
    (ops : List ReqOp) (b : List Byte) (q : Bool)
    (h : ∀ (t : State) (i : Nat) (o : ReqOp), (run t i o).next.emits = t.emits) :
    (s.runOps run k ops b q).2.2.emits = s.emits := by
  induction ops generalizing s k b q with
  | nil => simp [State.runOps]
  | cons o r ih => simp only [State.runOps]; split <;> simp [ih, h]
@[simp] theorem State.runOps_fresh (s : State) (run : State → Nat → ReqOp → OpResult) (k : Nat)
    (ops : List ReqOp) (b : List Byte) (q : Bool)
    (h : ∀ (t : State) (i : Nat) (o : ReqOp), (run t i o).next.fresh = t.fresh) :
    (s.runOps run k ops b q).2.2.fresh = s.fresh := by
  induction ops generalizing s k b q with
  | nil => simp [State.runOps]
  | cons o r ih => simp only [State.runOps]; split <;> simp [ih, h]
@[simp] theorem State.runOps_links (s : State) (run : State → Nat → ReqOp → OpResult) (k : Nat)
    (ops : List ReqOp) (b : List Byte) (q : Bool)
    (h : ∀ (t : State) (i : Nat) (o : ReqOp), (run t i o).next.links = t.links) :
    (s.runOps run k ops b q).2.2.links = s.links := by
  induction ops generalizing s k b q with
  | nil => simp [State.runOps]
  | cons o r ih => simp only [State.runOps]; split <;> simp [ih, h]
@[simp] theorem State.runOps_shed (s : State) (run : State → Nat → ReqOp → OpResult) (k : Nat)
    (ops : List ReqOp) (b : List Byte) (q : Bool)
    (h : ∀ (t : State) (i : Nat) (o : ReqOp), (run t i o).next.shed = t.shed) :
    (s.runOps run k ops b q).2.2.shed = s.shed := by
  induction ops generalizing s k b q with
  | nil => simp [State.runOps]
  | cons o r ih => simp only [State.runOps]; split <;> simp [ih, h]
@[simp] theorem State.runOps_copy (s : State) (run : State → Nat → ReqOp → OpResult) (k : Nat)
    (ops : List ReqOp) (b : List Byte) (q : Bool)
    (h : ∀ (t : State) (i : Nat) (o : ReqOp), (run t i o).next.copy = t.copy) :
    (s.runOps run k ops b q).2.2.copy = s.copy := by
  induction ops generalizing s k b q with
  | nil => simp [State.runOps]
  | cons o r ih => simp only [State.runOps]; split <;> simp [ih, h]
@[simp] theorem State.runOps_fwd (s : State) (run : State → Nat → ReqOp → OpResult) (k : Nat)
    (ops : List ReqOp) (b : List Byte) (q : Bool)
    (h : ∀ (t : State) (i : Nat) (o : ReqOp), (run t i o).next.fwd = t.fwd) :
    (s.runOps run k ops b q).2.2.fwd = s.fwd := by
  induction ops generalizing s k b q with
  | nil => simp [State.runOps]
  | cons o r ih => simp only [State.runOps]; split <;> simp [ih, h]
@[simp] theorem State.runOps_rings (s : State) (run : State → Nat → ReqOp → OpResult) (k : Nat)
    (ops : List ReqOp) (b : List Byte) (q : Bool)
    (h : ∀ (t : State) (i : Nat) (o : ReqOp), (run t i o).next.rings = t.rings) :
    (s.runOps run k ops b q).2.2.rings = s.rings := by
  induction ops generalizing s k b q with
  | nil => simp [State.runOps]
  | cons o r ih => simp only [State.runOps]; split <;> simp [ih, h]
@[simp] theorem State.runOps_str (s : State) (run : State → Nat → ReqOp → OpResult) (k : Nat)
    (ops : List ReqOp) (b : List Byte) (q : Bool)
    (h : ∀ (t : State) (i : Nat) (o : ReqOp), (run t i o).next.str = t.str) :
    (s.runOps run k ops b q).2.2.str = s.str := by
  induction ops generalizing s k b q with
  | nil => simp [State.runOps]
  | cons o r ih => simp only [State.runOps]; split <;> simp [ih, h]
@[simp] theorem State.runOps_egr (s : State) (run : State → Nat → ReqOp → OpResult) (k : Nat)
    (ops : List ReqOp) (b : List Byte) (q : Bool)
    (h : ∀ (t : State) (i : Nat) (o : ReqOp), (run t i o).next.egr = t.egr) :
    (s.runOps run k ops b q).2.2.egr = s.egr := by
  induction ops generalizing s k b q with
  | nil => simp [State.runOps]
  | cons o r ih => simp only [State.runOps]; split <;> simp [ih, h]
@[simp] theorem State.runOps_alm (s : State) (run : State → Nat → ReqOp → OpResult) (k : Nat)
    (ops : List ReqOp) (b : List Byte) (q : Bool)
    (h : ∀ (t : State) (i : Nat) (o : ReqOp), (run t i o).next.alm = t.alm) :
    (s.runOps run k ops b q).2.2.alm = s.alm := by
  induction ops generalizing s k b q with
  | nil => simp [State.runOps]
  | cons o r ih => simp only [State.runOps]; split <;> simp [ih, h]
@[simp] theorem State.runOps_allots (s : State) (run : State → Nat → ReqOp → OpResult) (k : Nat)
    (ops : List ReqOp) (b : List Byte) (q : Bool)
    (h : ∀ (t : State) (i : Nat) (o : ReqOp), (run t i o).next.allots = t.allots) :
    (s.runOps run k ops b q).2.2.allots = s.allots := by
  induction ops generalizing s k b q with
  | nil => simp [State.runOps]
  | cons o r ih => simp only [State.runOps]; split <;> simp [ih, h]
@[simp] theorem State.runOps_irq (s : State) (run : State → Nat → ReqOp → OpResult) (k : Nat)
    (ops : List ReqOp) (b : List Byte) (q : Bool)
    (h : ∀ (t : State) (i : Nat) (o : ReqOp), (run t i o).next.irq = t.irq) :
    (s.runOps run k ops b q).2.2.irq = s.irq := by
  induction ops generalizing s k b q with
  | nil => simp [State.runOps]
  | cons o r ih => simp only [State.runOps]; split <;> simp [ih, h]
@[simp] theorem State.runOps_mem (s : State) (run : State → Nat → ReqOp → OpResult) (k : Nat)
    (ops : List ReqOp) (b : List Byte) (q : Bool)
    (h : ∀ (t : State) (i : Nat) (o : ReqOp), (run t i o).next.mem = t.mem) :
    (s.runOps run k ops b q).2.2.mem = s.mem := by
  induction ops generalizing s k b q with
  | nil => simp [State.runOps]
  | cons o r ih => simp only [State.runOps]; split <;> simp [ih, h]
@[simp] theorem State.runOps_flt (s : State) (run : State → Nat → ReqOp → OpResult) (k : Nat)
    (ops : List ReqOp) (b : List Byte) (q : Bool)
    (h : ∀ (t : State) (i : Nat) (o : ReqOp), (run t i o).next.flt = t.flt) :
    (s.runOps run k ops b q).2.2.flt = s.flt := by
  induction ops generalizing s k b q with
  | nil => simp [State.runOps]
  | cons o r ih => simp only [State.runOps]; split <;> simp [ih, h]
@[simp] theorem State.runOps_cal (s : State) (run : State → Nat → ReqOp → OpResult) (k : Nat)
    (ops : List ReqOp) (b : List Byte) (q : Bool)
    (h : ∀ (t : State) (i : Nat) (o : ReqOp), (run t i o).next.cal = t.cal) :
    (s.runOps run k ops b q).2.2.cal = s.cal := by
  induction ops generalizing s k b q with
  | nil => simp [State.runOps]
  | cons o r ih => simp only [State.runOps]; split <;> simp [ih, h]
@[simp] theorem State.runOps_gauge (s : State) (run : State → Nat → ReqOp → OpResult) (k : Nat)
    (ops : List ReqOp) (b : List Byte) (q : Bool)
    (h : ∀ (t : State) (i : Nat) (o : ReqOp), (run t i o).next.gauge = t.gauge) :
    (s.runOps run k ops b q).2.2.gauge = s.gauge := by
  induction ops generalizing s k b q with
  | nil => simp [State.runOps]
  | cons o r ih => simp only [State.runOps]; split <;> simp [ih, h]
@[simp] theorem State.runOps_mod (s : State) (run : State → Nat → ReqOp → OpResult) (k : Nat)
    (ops : List ReqOp) (b : List Byte) (q : Bool)
    (h : ∀ (t : State) (i : Nat) (o : ReqOp), (run t i o).next.mod = t.mod) :
    (s.runOps run k ops b q).2.2.mod = s.mod := by
  induction ops generalizing s k b q with
  | nil => simp [State.runOps]
  | cons o r ih => simp only [State.runOps]; split <;> simp [ih, h]
@[simp] theorem State.runOps_clk (s : State) (run : State → Nat → ReqOp → OpResult) (k : Nat)
    (ops : List ReqOp) (b : List Byte) (q : Bool)
    (h : ∀ (t : State) (i : Nat) (o : ReqOp), (run t i o).next.clk = t.clk) :
    (s.runOps run k ops b q).2.2.clk = s.clk := by
  induction ops generalizing s k b q with
  | nil => simp [State.runOps]
  | cons o r ih => simp only [State.runOps]; split <;> simp [ih, h]
@[simp] theorem State.runOps_boot (s : State) (run : State → Nat → ReqOp → OpResult) (k : Nat)
    (ops : List ReqOp) (b : List Byte) (q : Bool)
    (h : ∀ (t : State) (i : Nat) (o : ReqOp), (run t i o).next.boot = t.boot) :
    (s.runOps run k ops b q).2.2.boot = s.boot := by
  induction ops generalizing s k b q with
  | nil => simp [State.runOps]
  | cons o r ih => simp only [State.runOps]; split <;> simp [ih, h]
@[simp] theorem State.runOps_exchange (s : State) (run : State → Nat → ReqOp → OpResult) (k : Nat)
    (ops : List ReqOp) (b : List Byte) (q : Bool)
    (h : ∀ (t : State) (i : Nat) (o : ReqOp), (run t i o).next.mem.exchange = t.mem.exchange) :
    (s.runOps run k ops b q).2.2.mem.exchange = s.mem.exchange := by
  induction ops generalizing s k b q with
  | nil => simp [State.runOps]
  | cons o r ih => simp only [State.runOps]; split <;> simp [ih, h]
@[simp] theorem State.runOps_areas (s : State) (run : State → Nat → ReqOp → OpResult) (k : Nat)
    (ops : List ReqOp) (b : List Byte) (q : Bool)
    (h : ∀ (t : State) (i : Nat) (o : ReqOp), (run t i o).next.mem.areas = t.mem.areas) :
    (s.runOps run k ops b q).2.2.mem.areas = s.mem.areas := by
  induction ops generalizing s k b q with
  | nil => simp [State.runOps]
  | cons o r ih => simp only [State.runOps]; split <;> simp [ih, h]
theorem State.runRequest_kept (s : State) (port : Nat) (m : Msg) (key : List Byte) :
    (s.runRequest port m key).pending = s.pending ∧ (s.runRequest port m key).answer = s.answer := by
  simp [State.at, State.modAllot, State.runRequest, State.reply_kept .., State.runOp_kept ..]
theorem State.inSequence_kept (s : State) (port : Nat) (m : Msg) (key : List Byte) (k : Nat) :
    (s.inSequence port m key k).pending = s.pending ∧ (s.inSequence port m key k).answer = s.answer := by
  induction k generalizing s port m key with
  | zero => simp [State.modAllot, State.inSequence, State.reply_kept .., State.runRequest_kept ..]
  | succ k ih => simp only [State.inSequence]; (repeat' split) <;> simp_all [State.modAllot, State.reply_kept ..,
      State.runRequest_kept ..]
theorem State.openSession_kept (s : State) (m : Msg) :
    (s.openSession m).now = s.now ∧ (s.openSession m).pending = s.pending ∧ (s.openSession m).answer = s.answer ∧
    (s.openSession m).fresh = s.fresh ∧ (s.openSession m).links = s.links ∧ (s.openSession m).shed = s.shed ∧
    (s.openSession m).copy = s.copy ∧ (s.openSession m).fwd = s.fwd ∧ (s.openSession m).rings = s.rings ∧
    (s.openSession m).str = s.str ∧ (s.openSession m).egr = s.egr ∧ (s.openSession m).alm = s.alm ∧
    (s.openSession m).mem = s.mem ∧ (s.openSession m).flt = s.flt ∧ (s.openSession m).cal = s.cal ∧
    (s.openSession m).gauge = s.gauge ∧ (s.openSession m).mod = s.mod ∧ (s.openSession m).clk = s.clk ∧
    (s.openSession m).boot = s.boot := by
  simp [State.openSession, State.mailboxDrop_kept ..]
theorem State.accept_kept (s : State) (port : Nat) (m : Msg) (key : List Byte) :
    (s.accept port m key).pending = s.pending ∧ (s.accept port m key).answer = s.answer := by
  simp only [State.accept]; (repeat' split) <;> simp [State.modAllot, State.inSequence_kept .., State.mailboxDrop_kept ..,
      State.openSession_kept .., State.reply_kept ..]
theorem State.gapExpires_kept (s : State) (a : Nat) (seq : Nat) :
    (s.gapExpires a seq).now = s.now ∧ (s.gapExpires a seq).pending = s.pending ∧
    (s.gapExpires a seq).answer = s.answer ∧ (s.gapExpires a seq).fresh = s.fresh ∧
    (s.gapExpires a seq).links = s.links ∧ (s.gapExpires a seq).shed = s.shed ∧ (s.gapExpires a seq).copy = s.copy ∧
    (s.gapExpires a seq).fwd = s.fwd ∧ (s.gapExpires a seq).rings = s.rings ∧ (s.gapExpires a seq).str = s.str ∧
    (s.gapExpires a seq).egr = s.egr ∧ (s.gapExpires a seq).alm = s.alm ∧ (s.gapExpires a seq).mem = s.mem ∧
    (s.gapExpires a seq).flt = s.flt ∧ (s.gapExpires a seq).cal = s.cal ∧ (s.gapExpires a seq).gauge = s.gauge ∧
    (s.gapExpires a seq).mod = s.mod ∧ (s.gapExpires a seq).clk = s.clk ∧ (s.gapExpires a seq).boot = s.boot := by
  simp only [State.gapExpires]; split <;> simp [State.modAllot, State.mailboxDrop_kept ..]
theorem State.badMessage_kept (s : State) :
    s.badMessage.now = s.now ∧ s.badMessage.pending = s.pending ∧ s.badMessage.answer = s.answer ∧
    s.badMessage.emits = s.emits ∧ s.badMessage.fresh = s.fresh ∧ s.badMessage.links = s.links ∧
    s.badMessage.shed = s.shed ∧ s.badMessage.copy = s.copy ∧ s.badMessage.fwd = s.fwd ∧
    s.badMessage.rings = s.rings ∧ s.badMessage.str = s.str ∧ s.badMessage.egr = s.egr ∧
    s.badMessage.allots = s.allots ∧ s.badMessage.irq = s.irq ∧ s.badMessage.mem = s.mem ∧ s.badMessage.flt = s.flt ∧
    s.badMessage.cal = s.cal ∧ s.badMessage.gauge = s.gauge ∧ s.badMessage.mod = s.mod ∧ s.badMessage.clk = s.clk ∧
    s.badMessage.boot = s.boot := by
  simp [State.badMessage]
theorem State.takeHeld_kept (s : State) (port : Nat) :
    (s.takeHeld port).now = s.now ∧ (s.takeHeld port).pending = s.pending ∧ (s.takeHeld port).answer = s.answer ∧
    (s.takeHeld port).emits = s.emits ∧ (s.takeHeld port).fresh = s.fresh ∧ (s.takeHeld port).links = s.links ∧
    (s.takeHeld port).shed = s.shed ∧ (s.takeHeld port).copy = s.copy ∧ (s.takeHeld port).fwd = s.fwd ∧
    (s.takeHeld port).rings = s.rings ∧ (s.takeHeld port).str = s.str ∧ (s.takeHeld port).egr = s.egr ∧
    (s.takeHeld port).alm = s.alm ∧ (s.takeHeld port).allots = s.allots ∧ (s.takeHeld port).irq = s.irq ∧
    (s.takeHeld port).mem = s.mem ∧ (s.takeHeld port).flt = s.flt ∧ (s.takeHeld port).cal = s.cal ∧
    (s.takeHeld port).gauge = s.gauge ∧ (s.takeHeld port).mod = s.mod ∧ (s.takeHeld port).clk = s.clk := by
  simp only [State.takeHeld]; split <;> simp
theorem State.notReady_kept (s : State) (port : Nat) (m : Msg) :
    (s.notReady port m).now = s.now ∧ (s.notReady port m).pending = s.pending ∧
    (s.notReady port m).answer = s.answer ∧ (s.notReady port m).fresh = s.fresh ∧
    (s.notReady port m).links = s.links ∧ (s.notReady port m).shed = s.shed ∧ (s.notReady port m).copy = s.copy ∧
    (s.notReady port m).fwd = s.fwd ∧ (s.notReady port m).rings = s.rings ∧ (s.notReady port m).str = s.str ∧
    (s.notReady port m).egr = s.egr ∧ (s.notReady port m).alm = s.alm ∧ (s.notReady port m).mem = s.mem ∧
    (s.notReady port m).flt = s.flt ∧ (s.notReady port m).cal = s.cal ∧ (s.notReady port m).gauge = s.gauge ∧
    (s.notReady port m).mod = s.mod ∧ (s.notReady port m).clk = s.clk := by
  simp [State.ite_kept .., State.notReady, State.reply_kept ..]
theorem State.identifyOp_kept (s : State) (o : ReqOp) :
    (s.identifyOp o).next.now = s.now ∧ (s.identifyOp o).next.pending = s.pending ∧
    (s.identifyOp o).next.answer = s.answer ∧ (s.identifyOp o).next.emits = s.emits ∧
    (s.identifyOp o).next.fresh = s.fresh ∧ (s.identifyOp o).next.links = s.links ∧
    (s.identifyOp o).next.shed = s.shed ∧ (s.identifyOp o).next.copy = s.copy ∧ (s.identifyOp o).next.fwd = s.fwd ∧
    (s.identifyOp o).next.rings = s.rings ∧ (s.identifyOp o).next.str = s.str ∧ (s.identifyOp o).next.egr = s.egr ∧
    (s.identifyOp o).next.alm = s.alm ∧ (s.identifyOp o).next.allots = s.allots ∧ (s.identifyOp o).next.irq = s.irq ∧
    (s.identifyOp o).next.mem = s.mem ∧ (s.identifyOp o).next.flt = s.flt ∧ (s.identifyOp o).next.cal = s.cal ∧
    (s.identifyOp o).next.gauge = s.gauge ∧ (s.identifyOp o).next.mod = s.mod ∧ (s.identifyOp o).next.clk = s.clk ∧
    (s.identifyOp o).next.boot = s.boot := by
  simp only [State.identifyOp]; split <;> simp
theorem State.identify_kept (s : State) (a : Nat) (port : Nat) (m : Msg) :
    (s.identify a port m).pending = s.pending ∧ (s.identify a port m).answer = s.answer ∧
    (s.identify a port m).fresh = s.fresh ∧ (s.identify a port m).links = s.links ∧
    (s.identify a port m).shed = s.shed ∧ (s.identify a port m).copy = s.copy ∧ (s.identify a port m).fwd = s.fwd ∧
    (s.identify a port m).rings = s.rings ∧ (s.identify a port m).str = s.str ∧ (s.identify a port m).egr = s.egr ∧
    (s.identify a port m).alm = s.alm ∧ (s.identify a port m).mem = s.mem ∧ (s.identify a port m).flt = s.flt ∧
    (s.identify a port m).cal = s.cal ∧ (s.identify a port m).gauge = s.gauge ∧ (s.identify a port m).mod = s.mod ∧
    (s.identify a port m).clk = s.clk ∧ (s.identify a port m).boot = s.boot := by
  simp [State.at, State.identify, State.identifyOp_kept .., State.reply_kept ..]
theorem State.udpMessage_kept (s : State) (port : Nat) (b : List Byte) :
    (s.udpMessage port b).pending = s.pending ∧ (s.udpMessage port b).answer = s.answer := by
  simp only [State.udpMessage]; (repeat' split) <;> simp [State.modAllot, State.accept_kept .., State.badMessage_kept ..,
      State.notReady_kept .., State.takeHeld_kept ..]
theorem State.udpIdentify_kept (s : State) (port : Nat) (addr : Nat) (b : List Byte) :
    (s.udpIdentify port addr b).pending = s.pending ∧ (s.udpIdentify port addr b).answer = s.answer ∧
    (s.udpIdentify port addr b).fresh = s.fresh ∧ (s.udpIdentify port addr b).links = s.links ∧
    (s.udpIdentify port addr b).shed = s.shed ∧ (s.udpIdentify port addr b).copy = s.copy ∧
    (s.udpIdentify port addr b).fwd = s.fwd ∧ (s.udpIdentify port addr b).rings = s.rings ∧
    (s.udpIdentify port addr b).str = s.str ∧ (s.udpIdentify port addr b).egr = s.egr ∧
    (s.udpIdentify port addr b).mem = s.mem ∧ (s.udpIdentify port addr b).flt = s.flt ∧
    (s.udpIdentify port addr b).cal = s.cal ∧ (s.udpIdentify port addr b).gauge = s.gauge ∧
    (s.udpIdentify port addr b).mod = s.mod ∧ (s.udpIdentify port addr b).clk = s.clk := by
  simp only [State.udpIdentify]; (repeat' split) <;> simp [State.badMessage_kept .., State.identify_kept ..,
      State.takeHeld_kept ..]
theorem State.mailboxGo_kept (s : State) (a : Nat) :
    (s.mailboxGo a).pending = s.pending ∧ (s.mailboxGo a).answer = s.answer := by
  simp only [State.mailboxGo]; (repeat' split) <;> simp [State.modAllot, State.accept_kept .., State.badMessage_kept ..,
      State.identify_kept ..,
      State.mailboxDrop_kept .., State.modMbox_kept .., State.reply_kept ..]
theorem State.mailboxAck_kept (s : State) (a : Nat) :
    (s.mailboxAck a).now = s.now ∧ (s.mailboxAck a).pending = s.pending ∧ (s.mailboxAck a).answer = s.answer ∧
    (s.mailboxAck a).fresh = s.fresh ∧ (s.mailboxAck a).links = s.links ∧ (s.mailboxAck a).shed = s.shed ∧
    (s.mailboxAck a).copy = s.copy ∧ (s.mailboxAck a).fwd = s.fwd ∧ (s.mailboxAck a).rings = s.rings ∧
    (s.mailboxAck a).str = s.str ∧ (s.mailboxAck a).egr = s.egr ∧ (s.mailboxAck a).alm = s.alm ∧
    (s.mailboxAck a).mem = s.mem ∧ (s.mailboxAck a).flt = s.flt ∧ (s.mailboxAck a).cal = s.cal ∧
    (s.mailboxAck a).gauge = s.gauge ∧ (s.mailboxAck a).mod = s.mod ∧ (s.mailboxAck a).clk = s.clk ∧
    (s.mailboxAck a).boot = s.boot := by
  simp [State.ite_kept .., State.mailboxAck, State.modMbox_kept ..]
theorem State.addressDue_kept (s : State) (mem : Nat) :
    (s.addressDue mem).now = s.now ∧ (s.addressDue mem).pending = s.pending ∧ (s.addressDue mem).answer = s.answer ∧
    (s.addressDue mem).emits = s.emits ∧ (s.addressDue mem).fresh = s.fresh ∧ (s.addressDue mem).links = s.links ∧
    (s.addressDue mem).shed = s.shed ∧ (s.addressDue mem).copy = s.copy ∧ (s.addressDue mem).fwd = s.fwd ∧
    (s.addressDue mem).rings = s.rings ∧ (s.addressDue mem).str = s.str ∧ (s.addressDue mem).egr = s.egr ∧
    (s.addressDue mem).allots = s.allots ∧ (s.addressDue mem).irq = s.irq ∧ (s.addressDue mem).mem = s.mem ∧
    (s.addressDue mem).flt = s.flt ∧ (s.addressDue mem).cal = s.cal ∧ (s.addressDue mem).gauge = s.gauge ∧
    (s.addressDue mem).mod = s.mod ∧ (s.addressDue mem).clk = s.clk ∧ (s.addressDue mem).boot = s.boot := by
  simp only [State.addressDue]; split <;> simp [State.setCfg_kept ..]
theorem State.keyGraceEnds_kept (s : State) (a : Nat) :
    (s.keyGraceEnds a).now = s.now ∧ (s.keyGraceEnds a).pending = s.pending ∧ (s.keyGraceEnds a).answer = s.answer ∧
    (s.keyGraceEnds a).emits = s.emits ∧ (s.keyGraceEnds a).fresh = s.fresh ∧ (s.keyGraceEnds a).links = s.links ∧
    (s.keyGraceEnds a).shed = s.shed ∧ (s.keyGraceEnds a).copy = s.copy ∧ (s.keyGraceEnds a).fwd = s.fwd ∧
    (s.keyGraceEnds a).rings = s.rings ∧ (s.keyGraceEnds a).str = s.str ∧ (s.keyGraceEnds a).egr = s.egr ∧
    (s.keyGraceEnds a).alm = s.alm ∧ (s.keyGraceEnds a).irq = s.irq ∧ (s.keyGraceEnds a).mem = s.mem ∧
    (s.keyGraceEnds a).flt = s.flt ∧ (s.keyGraceEnds a).cal = s.cal ∧ (s.keyGraceEnds a).gauge = s.gauge ∧
    (s.keyGraceEnds a).mod = s.mod ∧ (s.keyGraceEnds a).clk = s.clk ∧ (s.keyGraceEnds a).boot = s.boot := by
  simp [State.ite_kept .., State.modAllot, State.keyGraceEnds]
theorem State.queuedResult_kept (s : State) (j : JournalOp) (r : OpResult) :
    (s.queuedResult j r).now = s.now ∧ (s.queuedResult j r).pending = s.pending ∧
    (s.queuedResult j r).answer = s.answer ∧ (s.queuedResult j r).fresh = s.fresh ∧
    (s.queuedResult j r).links = s.links ∧ (s.queuedResult j r).shed = s.shed ∧ (s.queuedResult j r).copy = s.copy ∧
    (s.queuedResult j r).fwd = s.fwd ∧ (s.queuedResult j r).str = s.str ∧ (s.queuedResult j r).egr = s.egr ∧
    (s.queuedResult j r).alm = s.alm ∧ (s.queuedResult j r).mem = s.mem ∧ (s.queuedResult j r).flt = s.flt ∧
    (s.queuedResult j r).cal = s.cal ∧ (s.queuedResult j r).gauge = s.gauge ∧ (s.queuedResult j r).mod = s.mod ∧
    (s.queuedResult j r).clk = s.clk ∧ (s.queuedResult j r).boot = s.boot := by
  simp [State.queuedResult, State.event_kept ..]
theorem State.drain_kept (s : State) (l : List JournalOp) :
    (s.drain l).pending = s.pending ∧ (s.drain l).answer = s.answer := by
  induction l generalizing s with
  | nil => simp [State.at, State.drain, State.queuedResult_kept .., State.runOp_kept ..]
  | cons j r ih => simp [State.at, State.drain, ih, State.queuedResult_kept .., State.runOp_kept ..]
theorem State.runHeld_kept (s : State) (a : Nat) (h : HeldReq) :
    (s.runHeld a h).pending = s.pending ∧ (s.runHeld a h).answer = s.answer := by
  simp only [State.runHeld]; split <;> simp [State.runRequest_kept ..]
@[simp] theorem State.runWaiting_kept (s : State) (a : Nat) :
    (s.runWaiting a).pending = s.pending := by
  simp [State.runWaiting, State.runHeld_kept .., State.runOp_kept ..]
@[simp] theorem State.takeoverPair_kept (s : State) (pair : Nat) (by_ : Nat) :
    (s.takeoverPair pair by_).pending = s.pending := by
  simp [State.ite_kept .., State.takeoverPair]

/-! ## Windows.lean -/

theorem State.writeRequest_kept (s : State) (a : Nat) (off : Nat) (p : Piece) :
    (s.writeRequest a off p).now = s.now ∧ (s.writeRequest a off p).pending = s.pending ∧
    (s.writeRequest a off p).answer = s.answer ∧ (s.writeRequest a off p).emits = s.emits ∧
    (s.writeRequest a off p).fresh = s.fresh ∧ (s.writeRequest a off p).links = s.links ∧
    (s.writeRequest a off p).shed = s.shed ∧ (s.writeRequest a off p).copy = s.copy ∧
    (s.writeRequest a off p).fwd = s.fwd ∧ (s.writeRequest a off p).rings = s.rings ∧
    (s.writeRequest a off p).str = s.str ∧ (s.writeRequest a off p).egr = s.egr ∧
    (s.writeRequest a off p).alm = s.alm ∧ (s.writeRequest a off p).irq = s.irq ∧
    (s.writeRequest a off p).mem = s.mem ∧ (s.writeRequest a off p).flt = s.flt ∧
    (s.writeRequest a off p).cal = s.cal ∧ (s.writeRequest a off p).gauge = s.gauge ∧
    (s.writeRequest a off p).mod = s.mod ∧ (s.writeRequest a off p).clk = s.clk ∧
    (s.writeRequest a off p).boot = s.boot := by
  simp [State.writeRequest, State.modMbox_kept ..]
theorem State.writeControl_kept (s : State) (a : Nat) (off : Nat) (p : Piece) :
    (s.writeControl a off p).pending = s.pending ∧ (s.writeControl a off p).answer = s.answer := by
  simp only [State.writeControl]; (repeat' split) <;> simp [State.clampIf_kept .., State.mailboxAck_kept ..,
      State.mailboxGo_kept .., State.modMbox_kept .., State.ringDoorbell_kept .., State.writeRequest_kept ..,
          State.writeRun_kept ..]
theorem State.writeDma_kept (s : State) (a : Nat) (c : Nat) (off : Nat) (p : Piece) :
    (s.writeDma a c off p).now = s.now ∧ (s.writeDma a c off p).pending = s.pending ∧
    (s.writeDma a c off p).answer = s.answer ∧ (s.writeDma a c off p).links = s.links ∧
    (s.writeDma a c off p).shed = s.shed ∧ (s.writeDma a c off p).copy = s.copy ∧ (s.writeDma a c off p).fwd = s.fwd ∧
    (s.writeDma a c off p).rings = s.rings ∧ (s.writeDma a c off p).str = s.str ∧ (s.writeDma a c off p).egr = s.egr ∧
    (s.writeDma a c off p).alm = s.alm ∧ (s.writeDma a c off p).flt = s.flt ∧ (s.writeDma a c off p).cal = s.cal ∧
    (s.writeDma a c off p).gauge = s.gauge ∧ (s.writeDma a c off p).mod = s.mod ∧ (s.writeDma a c off p).clk = s.clk ∧
    (s.writeDma a c off p).boot = s.boot := by
  simp only [State.writeDma]; split <;> simp [State.ite_kept .., State.modDma, State.clampIf_kept ..,
      State.dmaClear_kept ..,
      State.dmaDisable_kept ..,
      State.dmaStart_kept ..]
theorem State.unmask_kept (s : State) (a : Nat) (v : Nat) :
    (s.unmask a v).now = s.now ∧ (s.unmask a v).pending = s.pending ∧ (s.unmask a v).answer = s.answer ∧
    (s.unmask a v).fresh = s.fresh ∧ (s.unmask a v).links = s.links ∧ (s.unmask a v).shed = s.shed ∧
    (s.unmask a v).copy = s.copy ∧ (s.unmask a v).fwd = s.fwd ∧ (s.unmask a v).rings = s.rings ∧
    (s.unmask a v).str = s.str ∧ (s.unmask a v).egr = s.egr ∧ (s.unmask a v).alm = s.alm ∧
    (s.unmask a v).allots = s.allots ∧ (s.unmask a v).mem = s.mem ∧ (s.unmask a v).flt = s.flt ∧
    (s.unmask a v).cal = s.cal ∧ (s.unmask a v).gauge = s.gauge ∧ (s.unmask a v).mod = s.mod ∧
    (s.unmask a v).clk = s.clk ∧ (s.unmask a v).boot = s.boot := by
  simp [State.ite_kept .., State.modVector, State.unmask, State.notify_kept ..]
theorem State.writeMsix_kept (s : State) (a : Nat) (v : Nat) (high : Bool) (p : Piece) :
    (s.writeMsix a v high p).now = s.now ∧ (s.writeMsix a v high p).pending = s.pending ∧
    (s.writeMsix a v high p).answer = s.answer ∧ (s.writeMsix a v high p).fresh = s.fresh ∧
    (s.writeMsix a v high p).links = s.links ∧ (s.writeMsix a v high p).shed = s.shed ∧
    (s.writeMsix a v high p).copy = s.copy ∧ (s.writeMsix a v high p).fwd = s.fwd ∧
    (s.writeMsix a v high p).rings = s.rings ∧ (s.writeMsix a v high p).str = s.str ∧
    (s.writeMsix a v high p).egr = s.egr ∧ (s.writeMsix a v high p).alm = s.alm ∧
    (s.writeMsix a v high p).allots = s.allots ∧ (s.writeMsix a v high p).mem = s.mem ∧
    (s.writeMsix a v high p).flt = s.flt ∧ (s.writeMsix a v high p).cal = s.cal ∧
    (s.writeMsix a v high p).gauge = s.gauge ∧ (s.writeMsix a v high p).mod = s.mod ∧
    (s.writeMsix a v high p).clk = s.clk ∧ (s.writeMsix a v high p).boot = s.boot := by
  simp [State.ite_kept .., State.modVector, State.writeMsix, State.unmask_kept ..]
theorem State.writeIrq_kept (s : State) (a : Nat) (off : Nat) (p : Piece) :
    (s.writeIrq a off p).now = s.now ∧ (s.writeIrq a off p).pending = s.pending ∧
    (s.writeIrq a off p).answer = s.answer ∧ (s.writeIrq a off p).fresh = s.fresh ∧
    (s.writeIrq a off p).links = s.links ∧ (s.writeIrq a off p).shed = s.shed ∧ (s.writeIrq a off p).copy = s.copy ∧
    (s.writeIrq a off p).fwd = s.fwd ∧ (s.writeIrq a off p).rings = s.rings ∧ (s.writeIrq a off p).str = s.str ∧
    (s.writeIrq a off p).egr = s.egr ∧ (s.writeIrq a off p).mem = s.mem ∧ (s.writeIrq a off p).flt = s.flt ∧
    (s.writeIrq a off p).cal = s.cal ∧ (s.writeIrq a off p).gauge = s.gauge ∧ (s.writeIrq a off p).mod = s.mod ∧
    (s.writeIrq a off p).clk = s.clk ∧ (s.writeIrq a off p).boot = s.boot := by
  simp [State.ite_kept .., State.modAllot, State.modVector, State.writeIrq, State.clearSource_kept ..,
      State.completeBy_kept ..,
      State.notifyAll_kept ..,
      State.writeMsix_kept ..]
theorem State.writeRing_kept (s : State) (a : Nat) (n : Nat) (p : Piece) :
    (s.writeRing a n p).now = s.now ∧ (s.writeRing a n p).pending = s.pending ∧
    (s.writeRing a n p).answer = s.answer ∧ (s.writeRing a n p).fresh = s.fresh ∧
    (s.writeRing a n p).links = s.links ∧ (s.writeRing a n p).shed = s.shed ∧ (s.writeRing a n p).copy = s.copy ∧
    (s.writeRing a n p).fwd = s.fwd ∧ (s.writeRing a n p).str = s.str ∧ (s.writeRing a n p).egr = s.egr ∧
    (s.writeRing a n p).alm = s.alm ∧ (s.writeRing a n p).mem = s.mem ∧ (s.writeRing a n p).flt = s.flt ∧
    (s.writeRing a n p).cal = s.cal ∧ (s.writeRing a n p).gauge = s.gauge ∧ (s.writeRing a n p).mod = s.mod ∧
    (s.writeRing a n p).clk = s.clk ∧ (s.writeRing a n p).boot = s.boot := by
  simp [State.ite_kept .., State.modRing, State.writeRing, State.clampIf_kept .., State.ringCheck_kept ..,
      State.ringConsume_kept ..,
      State.ringFlush_kept ..,
      State.ringStatusReset_kept ..]
theorem State.orderTrap_kept (s : State) (b : Nat) (progress : BitVec 80) :
    (s.orderTrap b progress).now = s.now ∧ (s.orderTrap b progress).pending = s.pending ∧
    (s.orderTrap b progress).answer = s.answer ∧ (s.orderTrap b progress).emits = s.emits ∧
    (s.orderTrap b progress).fresh = s.fresh ∧ (s.orderTrap b progress).links = s.links ∧
    (s.orderTrap b progress).copy = s.copy ∧ (s.orderTrap b progress).fwd = s.fwd ∧
    (s.orderTrap b progress).rings = s.rings ∧ (s.orderTrap b progress).egr = s.egr ∧
    (s.orderTrap b progress).alm = s.alm ∧ (s.orderTrap b progress).allots = s.allots ∧
    (s.orderTrap b progress).irq = s.irq ∧ (s.orderTrap b progress).mem = s.mem ∧
    (s.orderTrap b progress).flt = s.flt ∧ (s.orderTrap b progress).cal = s.cal ∧
    (s.orderTrap b progress).gauge = s.gauge ∧ (s.orderTrap b progress).mod = s.mod ∧
    (s.orderTrap b progress).clk = s.clk ∧ (s.orderTrap b progress).boot = s.boot := by
  simp [State.ite_kept .., State.orderTrap, State.trapRequest_kept ..]
theorem State.writeBed_kept (s : State) (a : Nat) (b : Nat) (p : Piece) :
    (s.writeBed a b p).now = s.now ∧ (s.writeBed a b p).pending = s.pending ∧
    (s.writeBed a b p).answer = s.answer ∧ (s.writeBed a b p).links = s.links ∧ (s.writeBed a b p).copy = s.copy ∧
    (s.writeBed a b p).fwd = s.fwd ∧ (s.writeBed a b p).rings = s.rings ∧ (s.writeBed a b p).egr = s.egr ∧
    (s.writeBed a b p).alm = s.alm ∧ (s.writeBed a b p).mem = s.mem ∧ (s.writeBed a b p).flt = s.flt ∧
    (s.writeBed a b p).cal = s.cal ∧ (s.writeBed a b p).gauge = s.gauge ∧ (s.writeBed a b p).mod = s.mod ∧
    (s.writeBed a b p).boot = s.boot := by
  simp [State.ite_kept .., State.writeBed, State.orderTrap_kept .., State.refresh_kept .., State.wakeBed_kept ..,
  State.sleepBed_kept ..]
theorem State.setTarget_kept (s : State) (die : Nat) (p : Nat) (v : Nat) :
    (s.setTarget die p v).now = s.now ∧ (s.setTarget die p v).pending = s.pending ∧
    (s.setTarget die p v).answer = s.answer ∧ (s.setTarget die p v).emits = s.emits ∧
    (s.setTarget die p v).fresh = s.fresh ∧ (s.setTarget die p v).links = s.links ∧
    (s.setTarget die p v).shed = s.shed ∧ (s.setTarget die p v).copy = s.copy ∧ (s.setTarget die p v).fwd = s.fwd ∧
    (s.setTarget die p v).rings = s.rings ∧ (s.setTarget die p v).str = s.str ∧ (s.setTarget die p v).alm = s.alm ∧
    (s.setTarget die p v).allots = s.allots ∧ (s.setTarget die p v).irq = s.irq ∧ (s.setTarget die p v).mem = s.mem ∧
    (s.setTarget die p v).flt = s.flt ∧ (s.setTarget die p v).cal = s.cal ∧ (s.setTarget die p v).gauge = s.gauge ∧
    (s.setTarget die p v).mod = s.mod ∧ (s.setTarget die p v).clk = s.clk ∧ (s.setTarget die p v).boot = s.boot := by
  simp [State.setTarget, State.carve_kept ..]
theorem State.writeCells_kept (s : State) (a : Nat) (die : Nat) (off : Nat) (p : Piece) :
    (s.writeCells a die off p).now = s.now ∧ (s.writeCells a die off p).pending = s.pending ∧
    (s.writeCells a die off p).answer = s.answer ∧ (s.writeCells a die off p).emits = s.emits ∧
    (s.writeCells a die off p).fresh = s.fresh ∧ (s.writeCells a die off p).links = s.links ∧
    (s.writeCells a die off p).copy = s.copy ∧ (s.writeCells a die off p).fwd = s.fwd ∧
    (s.writeCells a die off p).rings = s.rings ∧ (s.writeCells a die off p).str = s.str ∧
    (s.writeCells a die off p).irq = s.irq ∧ (s.writeCells a die off p).mem = s.mem ∧
    (s.writeCells a die off p).flt = s.flt ∧ (s.writeCells a die off p).cal = s.cal ∧
    (s.writeCells a die off p).gauge = s.gauge ∧ (s.writeCells a die off p).mod = s.mod ∧
    (s.writeCells a die off p).clk = s.clk ∧ (s.writeCells a die off p).boot = s.boot := by
  simp [State.ite_kept .., State.writeCells, State.carve_kept .., State.clampIf_kept .., State.setTarget_kept ..]
theorem State.writeSource_kept (s : State) (a : Nat) (id : Nat) (lo : Nat) (p : Piece) :
    (s.writeSource a id lo p).now = s.now ∧ (s.writeSource a id lo p).pending = s.pending ∧
    (s.writeSource a id lo p).answer = s.answer ∧ (s.writeSource a id lo p).links = s.links ∧
    (s.writeSource a id lo p).copy = s.copy ∧ (s.writeSource a id lo p).rings = s.rings ∧
    (s.writeSource a id lo p).boot = s.boot ∧ (s.writeSource a id lo p).mem.exchange = s.mem.exchange ∧
    (s.writeSource a id lo p).mem.areas = s.mem.areas := by
  simp only [State.writeSource]; split <;> simp [State.ite_kept .., State.clampIf_kept .., State.forceFault_kept ..,
      State.setClass_kept ..]
theorem State.writeFaults_kept (s : State) (a : Nat) (off : Nat) (p : Piece) :
    (s.writeFaults a off p).now = s.now ∧ (s.writeFaults a off p).pending = s.pending ∧
    (s.writeFaults a off p).answer = s.answer ∧ (s.writeFaults a off p).links = s.links ∧
    (s.writeFaults a off p).copy = s.copy ∧ (s.writeFaults a off p).rings = s.rings ∧
    (s.writeFaults a off p).boot = s.boot ∧ (s.writeFaults a off p).mem.exchange = s.mem.exchange ∧
    (s.writeFaults a off p).mem.areas = s.mem.areas := by
  simp [State.ite_kept .., State.modFlt, State.writeFaults, State.clearRecord_kept .., State.writeSource_kept ..]
theorem State.writeBlock_kept (s : State) (a : Nat) (off : Nat) (p : Piece) :
    (s.writeBlock a off p).pending = s.pending ∧ (s.writeBlock a off p).answer = s.answer := by
  simp [State.ite_kept .., State.modAllot, State.writeBlock, State.latchCommand_kept .., State.writeBed_kept ..,
      State.writeCells_kept ..,
      State.writeControl_kept ..,
      State.writeDma_kept .., State.writeFaults_kept .., State.writeIrq_kept .., State.writeRing_kept ..]
theorem State.writeBit_kept (s : State) (a : Nat) (off : Nat) (v : Bool) :
    (s.writeBit a off v).pending = s.pending ∧ (s.writeBit a off v).answer = s.answer := by
  simp [State.ite_kept .., State.writeBit, State.writeBlock_kept ..]
theorem State.writePiece_kept (s : State) (a : Nat) (off : Nat) (cov : Nat) (data : Nat) :
    (s.writePiece a off cov data).pending = s.pending ∧ (s.writePiece a off cov data).answer = s.answer := by
  simp [State.ite_kept .., State.writePiece, State.writeBit_kept .., State.writeBlock_kept ..]
theorem State.writeWindow_kept (s : State) (a : Nat) (off : Nat) (b : List Byte) :
    (s.writeWindow a off b).pending = s.pending ∧ (s.writeWindow a off b).answer = s.answer := by
  simp [State.ite_kept .., State.writeWindow, State.writePiece_kept ..]
theorem State.claimVector_kept (s : State) (a : Nat) (v : Nat) :
    (s.claimVector a v).now = s.now ∧ (s.claimVector a v).pending = s.pending ∧ (s.claimVector a v).fresh = s.fresh ∧
    (s.claimVector a v).links = s.links ∧ (s.claimVector a v).shed = s.shed ∧ (s.claimVector a v).copy = s.copy ∧
    (s.claimVector a v).fwd = s.fwd ∧ (s.claimVector a v).rings = s.rings ∧ (s.claimVector a v).str = s.str ∧
    (s.claimVector a v).egr = s.egr ∧ (s.claimVector a v).alm = s.alm ∧ (s.claimVector a v).allots = s.allots ∧
    (s.claimVector a v).mem = s.mem ∧ (s.claimVector a v).flt = s.flt ∧ (s.claimVector a v).cal = s.cal ∧
    (s.claimVector a v).gauge = s.gauge ∧ (s.claimVector a v).mod = s.mod ∧ (s.claimVector a v).clk = s.clk ∧
    (s.claimVector a v).boot = s.boot := by
  simp [State.ite_kept .., State.say, State.claimVector, State.claimBy_kept ..]
theorem State.completeVector_kept (s : State) (a : Nat) (v : Nat) (n : Nat) :
    (s.completeVector a v n).now = s.now ∧ (s.completeVector a v n).pending = s.pending ∧
    (s.completeVector a v n).answer = s.answer ∧ (s.completeVector a v n).fresh = s.fresh ∧
    (s.completeVector a v n).links = s.links ∧ (s.completeVector a v n).shed = s.shed ∧
    (s.completeVector a v n).copy = s.copy ∧ (s.completeVector a v n).fwd = s.fwd ∧
    (s.completeVector a v n).rings = s.rings ∧ (s.completeVector a v n).str = s.str ∧
    (s.completeVector a v n).egr = s.egr ∧ (s.completeVector a v n).alm = s.alm ∧
    (s.completeVector a v n).allots = s.allots ∧ (s.completeVector a v n).mem = s.mem ∧
    (s.completeVector a v n).flt = s.flt ∧ (s.completeVector a v n).cal = s.cal ∧
    (s.completeVector a v n).gauge = s.gauge ∧ (s.completeVector a v n).mod = s.mod ∧
    (s.completeVector a v n).clk = s.clk ∧ (s.completeVector a v n).boot = s.boot := by
  simp [State.ite_kept .., State.completeVector, State.completeBy_kept ..]
theorem State.clearSelected_kept (s : State) (a : Nat) :
    (s.clearSelected a).now = s.now ∧ (s.clearSelected a).pending = s.pending ∧
    (s.clearSelected a).answer = s.answer ∧ (s.clearSelected a).fresh = s.fresh ∧
    (s.clearSelected a).links = s.links ∧ (s.clearSelected a).shed = s.shed ∧ (s.clearSelected a).copy = s.copy ∧
    (s.clearSelected a).fwd = s.fwd ∧ (s.clearSelected a).rings = s.rings ∧ (s.clearSelected a).str = s.str ∧
    (s.clearSelected a).egr = s.egr ∧ (s.clearSelected a).mem = s.mem ∧ (s.clearSelected a).flt = s.flt ∧
    (s.clearSelected a).cal = s.cal ∧ (s.clearSelected a).gauge = s.gauge ∧ (s.clearSelected a).mod = s.mod ∧
    (s.clearSelected a).clk = s.clk ∧ (s.clearSelected a).boot = s.boot := by
  simp [State.ite_kept .., State.clearSelected, State.clearSource_kept ..]
theorem State.enableMsix_kept (s : State) (a : Nat) (on : Bool) :
    (s.enableMsix a on).now = s.now ∧ (s.enableMsix a on).pending = s.pending ∧
    (s.enableMsix a on).answer = s.answer ∧ (s.enableMsix a on).fresh = s.fresh ∧
    (s.enableMsix a on).links = s.links ∧ (s.enableMsix a on).shed = s.shed ∧ (s.enableMsix a on).copy = s.copy ∧
    (s.enableMsix a on).fwd = s.fwd ∧ (s.enableMsix a on).rings = s.rings ∧ (s.enableMsix a on).str = s.str ∧
    (s.enableMsix a on).egr = s.egr ∧ (s.enableMsix a on).alm = s.alm ∧ (s.enableMsix a on).allots = s.allots ∧
    (s.enableMsix a on).mem = s.mem ∧ (s.enableMsix a on).flt = s.flt ∧ (s.enableMsix a on).cal = s.cal ∧
    (s.enableMsix a on).gauge = s.gauge ∧ (s.enableMsix a on).mod = s.mod ∧ (s.enableMsix a on).clk = s.clk ∧
    (s.enableMsix a on).boot = s.boot := by
  simp [State.ite_kept .., State.enableMsix, State.notify_kept ..]
theorem State.applyHeld_kept (s : State) (h : HeldWrite) :
    (s.applyHeld h).now = s.now ∧ (s.applyHeld h).pending = s.pending ∧ (s.applyHeld h).answer = s.answer ∧
    (s.applyHeld h).emits = s.emits ∧ (s.applyHeld h).fresh = s.fresh ∧ (s.applyHeld h).links = s.links ∧
    (s.applyHeld h).shed = s.shed ∧ (s.applyHeld h).copy = s.copy ∧ (s.applyHeld h).fwd = s.fwd ∧
    (s.applyHeld h).rings = s.rings ∧ (s.applyHeld h).alm = s.alm ∧ (s.applyHeld h).allots = s.allots ∧
    (s.applyHeld h).irq = s.irq ∧ (s.applyHeld h).mem = s.mem ∧ (s.applyHeld h).flt = s.flt ∧
    (s.applyHeld h).cal = s.cal ∧ (s.applyHeld h).gauge = s.gauge ∧ (s.applyHeld h).mod = s.mod ∧
    (s.applyHeld h).clk = s.clk ∧ (s.applyHeld h).boot = s.boot := by
  simp [State.ite_kept .., State.applyHeld, State.setTarget_kept .., State.trapRequest_kept ..]
theorem State.applyTaken_kept (s : State)  :
    s.applyTaken.now = s.now ∧ s.applyTaken.pending = s.pending ∧ s.applyTaken.answer = s.answer ∧
    s.applyTaken.emits = s.emits ∧ s.applyTaken.fresh = s.fresh ∧ s.applyTaken.links = s.links ∧
    s.applyTaken.copy = s.copy ∧ s.applyTaken.fwd = s.fwd ∧ s.applyTaken.rings = s.rings ∧
    s.applyTaken.alm = s.alm ∧ s.applyTaken.allots = s.allots ∧ s.applyTaken.irq = s.irq ∧
    s.applyTaken.mem = s.mem ∧ s.applyTaken.flt = s.flt ∧ s.applyTaken.cal = s.cal ∧
    s.applyTaken.gauge = s.gauge ∧ s.applyTaken.mod = s.mod ∧ s.applyTaken.clk = s.clk ∧
    s.applyTaken.boot = s.boot := by
  simp [State.ite_kept .., State.applyTaken, State.applyHeld_kept ..]
theorem State.pairTaken_kept (s : State) (pair : Nat) (by_ : Nat) :
    (s.pairTaken pair by_).pending = s.pending := by
  simp [State.ite_kept .., State.pairTaken, State.takeoverPair_kept .., State.applyTaken_kept ..,
  State.runWaiting_kept ..]
@[simp] theorem State.comesLive_kept (s : State) :
    s.comesLive.pending = s.pending := by
  simp [State.ite_kept .., State.comesLive, State.applyHeld_kept .., State.carve_kept .., State.drain_kept ..,
      State.graftAll_kept ..]
end Sys2Proof.Machine
end

