-- ==== Sys2Proof/Laws/FramesCommands.lean ====
section
/-! SUPPORT. The parts of the state that the helpers of the command files leave alone: one lemma for each operation, by its parts. -/

set_option linter.unusedSimpArgs false

namespace Sys2Proof.Machine

/-! ## CommandForms.lean -/

theorem State.dieReadError_kept (s : State) (die : Nat) (requester : Nat) :
    (s.dieReadError die requester).now = s.now ∧ (s.dieReadError die requester).pending = s.pending ∧
    (s.dieReadError die requester).answer = s.answer ∧ (s.dieReadError die requester).links = s.links ∧
    (s.dieReadError die requester).copy = s.copy ∧ (s.dieReadError die requester).rings = s.rings ∧
    (s.dieReadError die requester).boot = s.boot ∧ (s.dieReadError die requester).mem.exchange = s.mem.exchange ∧
    (s.dieReadError die requester).mem.areas = s.mem.areas := by
  simp [State.dieReadError, State.readError_kept ..]

/-! ## BedCommands.lean -/

theorem State.gangTrap_kept (s : State) (bed : Nat) (progress : BitVec 80) :
    (s.gangTrap bed progress).now = s.now ∧ (s.gangTrap bed progress).pending = s.pending ∧
    (s.gangTrap bed progress).answer = s.answer ∧ (s.gangTrap bed progress).emits = s.emits ∧
    (s.gangTrap bed progress).fresh = s.fresh ∧ (s.gangTrap bed progress).links = s.links ∧
    (s.gangTrap bed progress).shed = s.shed ∧ (s.gangTrap bed progress).copy = s.copy ∧
    (s.gangTrap bed progress).fwd = s.fwd ∧ (s.gangTrap bed progress).rings = s.rings ∧
    (s.gangTrap bed progress).egr = s.egr ∧ (s.gangTrap bed progress).alm = s.alm ∧
    (s.gangTrap bed progress).allots = s.allots ∧ (s.gangTrap bed progress).irq = s.irq ∧
    (s.gangTrap bed progress).mem = s.mem ∧ (s.gangTrap bed progress).flt = s.flt ∧
    (s.gangTrap bed progress).cal = s.cal ∧ (s.gangTrap bed progress).gauge = s.gauge ∧
    (s.gangTrap bed progress).mod = s.mod ∧ (s.gangTrap bed progress).clk = s.clk ∧
    (s.gangTrap bed progress).boot = s.boot := by
  simp [State.ite_kept .., State.gangTrap, State.trapRequest_kept ..]

/-! ## EgressCommands.lean -/

theorem State.takeTokens_kept (s : State) (q : Nat) (late : Bool) :
    (s.takeTokens q late).now = s.now ∧ (s.takeTokens q late).pending = s.pending ∧
    (s.takeTokens q late).answer = s.answer ∧ (s.takeTokens q late).emits = s.emits ∧
    (s.takeTokens q late).fresh = s.fresh ∧ (s.takeTokens q late).links = s.links ∧
    (s.takeTokens q late).shed = s.shed ∧ (s.takeTokens q late).copy = s.copy ∧ (s.takeTokens q late).fwd = s.fwd ∧
    (s.takeTokens q late).rings = s.rings ∧ (s.takeTokens q late).str = s.str ∧ (s.takeTokens q late).alm = s.alm ∧
    (s.takeTokens q late).allots = s.allots ∧ (s.takeTokens q late).irq = s.irq ∧ (s.takeTokens q late).mem = s.mem ∧
    (s.takeTokens q late).flt = s.flt ∧ (s.takeTokens q late).cal = s.cal ∧ (s.takeTokens q late).gauge = s.gauge ∧
    (s.takeTokens q late).mod = s.mod ∧ (s.takeTokens q late).clk = s.clk ∧ (s.takeTokens q late).boot = s.boot := by
  simp [State.ite_kept .., State.modQGroup, State.modQueue, State.takeTokens]
theorem State.cellFails_kept (s : State) (lp : Nat) (x : QPkt) :
    (s.cellFails lp x).now = s.now ∧ (s.cellFails lp x).pending = s.pending ∧ (s.cellFails lp x).answer = s.answer ∧
    (s.cellFails lp x).links = s.links ∧ (s.cellFails lp x).copy = s.copy ∧ (s.cellFails lp x).rings = s.rings ∧
    (s.cellFails lp x).boot = s.boot ∧ (s.cellFails lp x).mem.exchange = s.mem.exchange ∧
    (s.cellFails lp x).mem.areas = s.mem.areas := by
  simp [State.ite_kept .., State.cellFails, State.breakCell_kept .., State.countPort_kept .., State.deepReadError_kept ..,
      State.logFault_kept ..]
theorem State.sendHead_kept (s : State) (lp : Nat) (q : Nat) (x : QPkt) (cellError : Bool) :
    (s.sendHead lp q x cellError).now = s.now ∧ (s.sendHead lp q x cellError).pending = s.pending ∧
    (s.sendHead lp q x cellError).answer = s.answer ∧ (s.sendHead lp q x cellError).links = s.links ∧
    (s.sendHead lp q x cellError).copy = s.copy ∧ (s.sendHead lp q x cellError).rings = s.rings ∧
    (s.sendHead lp q x cellError).boot = s.boot ∧ (s.sendHead lp q x cellError).mem.exchange = s.mem.exchange ∧
    (s.sendHead lp q x cellError).mem.areas = s.mem.areas := by
  simp only [State.sendHead]; (repeat' split) <;> simp [State.ite_kept .., State.modPort, State.takeTokens_kept ..,
  State.takeHead_kept .., State.countQueue_kept .., State.countPort_kept .., State.releaseCopy_kept ..,
  State.countGroup_kept .., State.meterDeep_kept .., State.cellFails_kept .., State.sampleResidence_kept ..]
theorem State.startQueue_kept (s : State) (lp : Nat) (q : Nat) (turns : Port) (cellError : Bool) :
    (s.startQueue lp q turns cellError).now = s.now ∧ (s.startQueue lp q turns cellError).pending = s.pending ∧
    (s.startQueue lp q turns cellError).answer = s.answer ∧ (s.startQueue lp q turns cellError).links = s.links ∧
    (s.startQueue lp q turns cellError).copy = s.copy ∧ (s.startQueue lp q turns cellError).rings = s.rings ∧
    (s.startQueue lp q turns cellError).boot = s.boot ∧
    (s.startQueue lp q turns cellError).mem.exchange = s.mem.exchange ∧
    (s.startQueue lp q turns cellError).mem.areas = s.mem.areas := by
  simp only [State.startQueue]; split <;> simp [State.modPort, State.sendHead_kept ..]
theorem State.startFrame_kept (s : State) (lp : Nat) (cellError : Bool) :
    (s.startFrame lp cellError).now = s.now ∧ (s.startFrame lp cellError).pending = s.pending ∧
    (s.startFrame lp cellError).answer = s.answer ∧ (s.startFrame lp cellError).links = s.links ∧
    (s.startFrame lp cellError).copy = s.copy ∧ (s.startFrame lp cellError).rings = s.rings ∧
    (s.startFrame lp cellError).boot = s.boot ∧ (s.startFrame lp cellError).mem.exchange = s.mem.exchange ∧
    (s.startFrame lp cellError).mem.areas = s.mem.areas := by
  simp only [State.startFrame]; (repeat' split) <;> simp [State.countWaits_kept .., State.startQueue_kept ..,
      State.trimHead_kept ..]
theorem State.endFrame_kept (s : State) (lp : Nat) :
    (s.endFrame lp).now = s.now ∧ (s.endFrame lp).pending = s.pending ∧ (s.endFrame lp).answer = s.answer ∧
    (s.endFrame lp).fresh = s.fresh ∧ (s.endFrame lp).links = s.links ∧ (s.endFrame lp).shed = s.shed ∧
    (s.endFrame lp).copy = s.copy ∧ (s.endFrame lp).rings = s.rings ∧ (s.endFrame lp).str = s.str ∧
    (s.endFrame lp).alm = s.alm ∧ (s.endFrame lp).allots = s.allots ∧ (s.endFrame lp).irq = s.irq ∧
    (s.endFrame lp).mem = s.mem ∧ (s.endFrame lp).flt = s.flt ∧ (s.endFrame lp).cal = s.cal ∧
    (s.endFrame lp).mod = s.mod ∧ (s.endFrame lp).clk = s.clk ∧ (s.endFrame lp).boot = s.boot := by
  simp only [State.endFrame]; split <;> simp [State.ite_kept .., State.emit, State.modPort, State.breakBuffer_kept ..,
      State.countPort_kept .., State.giveDeep_kept ..,
      State.meter_kept .., State.releaseCopy_kept ..]
theorem State.refillQueue_kept (s : State) (q : Nat) :
    (s.refillQueue q).now = s.now ∧ (s.refillQueue q).pending = s.pending ∧ (s.refillQueue q).answer = s.answer ∧
    (s.refillQueue q).emits = s.emits ∧ (s.refillQueue q).fresh = s.fresh ∧ (s.refillQueue q).links = s.links ∧
    (s.refillQueue q).shed = s.shed ∧ (s.refillQueue q).copy = s.copy ∧ (s.refillQueue q).fwd = s.fwd ∧
    (s.refillQueue q).rings = s.rings ∧ (s.refillQueue q).str = s.str ∧ (s.refillQueue q).alm = s.alm ∧
    (s.refillQueue q).allots = s.allots ∧ (s.refillQueue q).irq = s.irq ∧ (s.refillQueue q).mem = s.mem ∧
    (s.refillQueue q).flt = s.flt ∧ (s.refillQueue q).cal = s.cal ∧ (s.refillQueue q).gauge = s.gauge ∧
    (s.refillQueue q).mod = s.mod ∧ (s.refillQueue q).clk = s.clk ∧ (s.refillQueue q).boot = s.boot := by
  simp [State.ite_kept .., State.modQueue, State.refillQueue]
theorem State.refillGroup_kept (s : State) (g : Nat) :
    (s.refillGroup g).now = s.now ∧ (s.refillGroup g).pending = s.pending ∧ (s.refillGroup g).answer = s.answer ∧
    (s.refillGroup g).emits = s.emits ∧ (s.refillGroup g).fresh = s.fresh ∧ (s.refillGroup g).links = s.links ∧
    (s.refillGroup g).shed = s.shed ∧ (s.refillGroup g).copy = s.copy ∧ (s.refillGroup g).fwd = s.fwd ∧
    (s.refillGroup g).rings = s.rings ∧ (s.refillGroup g).str = s.str ∧ (s.refillGroup g).alm = s.alm ∧
    (s.refillGroup g).allots = s.allots ∧ (s.refillGroup g).irq = s.irq ∧ (s.refillGroup g).mem = s.mem ∧
    (s.refillGroup g).flt = s.flt ∧ (s.refillGroup g).cal = s.cal ∧ (s.refillGroup g).gauge = s.gauge ∧
    (s.refillGroup g).mod = s.mod ∧ (s.refillGroup g).clk = s.clk ∧ (s.refillGroup g).boot = s.boot := by
  simp [State.ite_kept .., State.modQGroup, State.refillGroup]
theorem State.gateMoves_kept (s : State) (lp : Nat) :
    (s.gateMoves lp).pending = s.pending ∧ (s.gateMoves lp).answer = s.answer ∧ (s.gateMoves lp).emits = s.emits ∧
    (s.gateMoves lp).fresh = s.fresh ∧ (s.gateMoves lp).links = s.links ∧ (s.gateMoves lp).shed = s.shed ∧
    (s.gateMoves lp).copy = s.copy ∧ (s.gateMoves lp).fwd = s.fwd ∧ (s.gateMoves lp).rings = s.rings ∧
    (s.gateMoves lp).str = s.str ∧ (s.gateMoves lp).alm = s.alm ∧ (s.gateMoves lp).allots = s.allots ∧
    (s.gateMoves lp).irq = s.irq ∧ (s.gateMoves lp).mem = s.mem ∧ (s.gateMoves lp).flt = s.flt ∧
    (s.gateMoves lp).cal = s.cal ∧ (s.gateMoves lp).gauge = s.gauge ∧ (s.gateMoves lp).mod = s.mod ∧
    (s.gateMoves lp).clk = s.clk ∧ (s.gateMoves lp).boot = s.boot := by
  simp [State.ite_kept .., State.modGate, State.gateMoves, State.gatesAt_kept ..]
theorem State.gateChanges_kept (s : State) (lp : Nat) :
    (s.gateChanges lp).pending = s.pending ∧ (s.gateChanges lp).answer = s.answer ∧
    (s.gateChanges lp).fresh = s.fresh ∧ (s.gateChanges lp).links = s.links ∧ (s.gateChanges lp).shed = s.shed ∧
    (s.gateChanges lp).copy = s.copy ∧ (s.gateChanges lp).fwd = s.fwd ∧ (s.gateChanges lp).rings = s.rings ∧
    (s.gateChanges lp).str = s.str ∧ (s.gateChanges lp).alm = s.alm ∧ (s.gateChanges lp).mem = s.mem ∧
    (s.gateChanges lp).flt = s.flt ∧ (s.gateChanges lp).cal = s.cal ∧ (s.gateChanges lp).gauge = s.gauge ∧
    (s.gateChanges lp).mod = s.mod ∧ (s.gateChanges lp).clk = s.clk ∧ (s.gateChanges lp).boot = s.boot := by
  simp [State.ite_kept .., State.modGate, State.gateChanges, State.gatesAt_kept .., State.raise_kept ..]

/-! ## FaultCommands.lean -/

theorem State.resetEnds_kept (s : State) (d : Nat) (u : Nat) :
    (s.resetEnds d u).now = s.now ∧ (s.resetEnds d u).pending = s.pending ∧ (s.resetEnds d u).answer = s.answer ∧
    (s.resetEnds d u).fresh = s.fresh ∧ (s.resetEnds d u).copy = s.copy ∧ (s.resetEnds d u).rings = s.rings ∧
    (s.resetEnds d u).alm = s.alm ∧ (s.resetEnds d u).cal = s.cal ∧ (s.resetEnds d u).gauge = s.gauge ∧
    (s.resetEnds d u).clk = s.clk ∧ (s.resetEnds d u).boot = s.boot ∧
    (s.resetEnds d u).mem.exchange = s.mem.exchange ∧ (s.resetEnds d u).mem.areas = s.mem.areas := by
  simp [State.ite_kept .., State.resetEnds, State.endReset_kept .., State.bedBack_kept ..]

/-! ## FeedCommands.lean -/

theorem State.feedRead_kept (s : State) (n : Nat) (storeError : Bool) :
    (s.feedRead n storeError).now = s.now ∧ (s.feedRead n storeError).pending = s.pending ∧
    (s.feedRead n storeError).answer = s.answer ∧ (s.feedRead n storeError).copy = s.copy ∧
    (s.feedRead n storeError).rings = s.rings ∧ (s.feedRead n storeError).mem.exchange = s.mem.exchange ∧
    (s.feedRead n storeError).mem.areas = s.mem.areas := by
  simp only [State.feedRead]; (repeat' split) <;> simp [State.ite_kept .., State.nextFeedPicture_kept ..,
  State.readLine_kept .., State.dieReadError_kept ..]

/-! ## TwinCommands.lean -/

theorem State.transplantDone_kept (s : State) (n : Nat) (bad : Bool) :
    (s.transplantDone n bad).now = s.now ∧ (s.transplantDone n bad).pending = s.pending ∧
    (s.transplantDone n bad).answer = s.answer ∧ (s.transplantDone n bad).links = s.links ∧
    (s.transplantDone n bad).copy = s.copy ∧ (s.transplantDone n bad).rings = s.rings ∧
    (s.transplantDone n bad).boot = s.boot ∧ (s.transplantDone n bad).mem.exchange = s.mem.exchange ∧
    (s.transplantDone n bad).mem.areas = s.mem.areas := by
  simp only [State.transplantDone]; split <;> simp [State.readError_kept .., State.transplantEnd_kept ..]

/-! ## WindowCommands.lean -/

theorem State.pairActs_kept (s : State) (pair : Nat) (completes : Option Nat) (agree : Bool) :
    (s.pairActs pair completes agree).now = s.now ∧ (s.pairActs pair completes agree).pending = s.pending ∧
    (s.pairActs pair completes agree).links = s.links ∧ (s.pairActs pair completes agree).copy = s.copy ∧
    (s.pairActs pair completes agree).rings = s.rings ∧ (s.pairActs pair completes agree).boot = s.boot ∧
    (s.pairActs pair completes agree).mem.exchange = s.mem.exchange ∧
    (s.pairActs pair completes agree).mem.areas = s.mem.areas := by
  simp only [State.pairActs]; (repeat' split) <;> simp [State.say, State.pulseFault_kept .., State.shedClaimBy_kept ..,
      State.shedCompleteBy_kept ..]

/-! ## Step.lean -/

theorem State.withFetchWord_kept (s : State) (nbits : Nat) (w : Nat) :
    (s.withFetchWord nbits w).now = s.now ∧ (s.withFetchWord nbits w).answer = s.answer ∧
    (s.withFetchWord nbits w).emits = s.emits ∧ (s.withFetchWord nbits w).fresh = s.fresh ∧
    (s.withFetchWord nbits w).links = s.links ∧ (s.withFetchWord nbits w).shed = s.shed ∧
    (s.withFetchWord nbits w).copy = s.copy ∧ (s.withFetchWord nbits w).fwd = s.fwd ∧
    (s.withFetchWord nbits w).rings = s.rings ∧ (s.withFetchWord nbits w).str = s.str ∧
    (s.withFetchWord nbits w).egr = s.egr ∧ (s.withFetchWord nbits w).alm = s.alm ∧
    (s.withFetchWord nbits w).allots = s.allots ∧ (s.withFetchWord nbits w).irq = s.irq ∧
    (s.withFetchWord nbits w).mem = s.mem ∧ (s.withFetchWord nbits w).flt = s.flt ∧
    (s.withFetchWord nbits w).cal = s.cal ∧ (s.withFetchWord nbits w).gauge = s.gauge ∧
    (s.withFetchWord nbits w).mod = s.mod ∧ (s.withFetchWord nbits w).clk = s.clk ∧
    (s.withFetchWord nbits w).boot = s.boot := by
  simp only [State.withFetchWord]; split <;> simp
end Sys2Proof.Machine
end

