-- ==== Sys2Proof/Laws/FramesExec.lean ====
section
/-! SUPPORT. The parts of the state that each command leaves alone when it answers a next state, and what no command ever
changes: the queue. -/

set_option linter.unusedSimpArgs false

namespace Sys2Proof.Machine

theorem onUnit_next {ok : Bool} {s u : State} : onUnit ok s = .next u ↔ ok = true ∧ u = s := by
  cases ok <;> simp [onUnit, eq_comm]

theorem execAlmanacMessage_kept {t port : Nat} {bytes : List Byte} {s u : State}
    (h : execAlmanacMessage t port bytes s = .next u) :
    u.pending = s.pending ∧ u.answer = s.answer := by
  obtain ⟨_, rfl⟩ := onUnit_next.1 h
  simp [State.udpMessage_kept ..]
theorem execIdentifyRequest_kept {t port addr : Nat} {bytes : List Byte} {s u : State}
    (h : execIdentifyRequest t port addr bytes s = .next u) :
    u.pending = s.pending ∧ u.answer = s.answer ∧ u.fresh = s.fresh ∧ u.links = s.links ∧ u.shed = s.shed ∧
    u.copy = s.copy ∧ u.fwd = s.fwd ∧ u.rings = s.rings ∧ u.str = s.str ∧ u.egr = s.egr ∧ u.mem = s.mem ∧
    u.flt = s.flt ∧ u.cal = s.cal ∧ u.gauge = s.gauge ∧ u.mod = s.mod ∧ u.clk = s.clk := by
  obtain ⟨_, rfl⟩ := onUnit_next.1 h
  simp [State.udpIdentify_kept ..]
theorem execGo_kept {t a : Nat} {s u : State}
    (h : execGo t a s = .next u) :
    u.pending = s.pending ∧ u.answer = s.answer := by
  obtain ⟨_, rfl⟩ := onUnit_next.1 h
  simp [State.mailboxGo_kept ..]
theorem execAck_kept {t a : Nat} {s u : State}
    (h : execAck t a s = .next u) :
    u.pending = s.pending ∧ u.answer = s.answer ∧ u.fresh = s.fresh ∧ u.links = s.links ∧ u.shed = s.shed ∧
    u.copy = s.copy ∧ u.fwd = s.fwd ∧ u.rings = s.rings ∧ u.str = s.str ∧ u.egr = s.egr ∧ u.alm = s.alm ∧
    u.mem = s.mem ∧ u.flt = s.flt ∧ u.cal = s.cal ∧ u.gauge = s.gauge ∧ u.mod = s.mod ∧ u.clk = s.clk ∧
    u.boot = s.boot := by
  obtain ⟨_, rfl⟩ := onUnit_next.1 h
  simp [State.mailboxAck_kept ..]
theorem execGapTimeout_kept {t a seq : Nat} {s u : State}
    (h : execGapTimeout t a seq s = .next u) :
    u.pending = s.pending ∧ u.answer = s.answer ∧ u.fresh = s.fresh ∧ u.links = s.links ∧ u.shed = s.shed ∧
    u.copy = s.copy ∧ u.fwd = s.fwd ∧ u.rings = s.rings ∧ u.str = s.str ∧ u.egr = s.egr ∧ u.alm = s.alm ∧
    u.mem = s.mem ∧ u.flt = s.flt ∧ u.cal = s.cal ∧ u.gauge = s.gauge ∧ u.mod = s.mod ∧ u.clk = s.clk ∧
    u.boot = s.boot := by
  obtain ⟨_, rfl⟩ := onUnit_next.1 h
  simp [State.gapExpires_kept ..]
theorem execRead_kept {t a fam inst mem : Nat} {arg : List Byte} {s u : State}
    (h : execRead t a fam inst mem arg s = .next u) :
    u.pending = s.pending := by
  obtain ⟨_, rfl⟩ := onUnit_next.1 h
  simp
theorem execWrite_kept {t a fam inst mem : Nat} {val : List Byte} {s u : State}
    (h : execWrite t a fam inst mem val s = .next u) :
    u.pending = s.pending := by
  obtain ⟨_, rfl⟩ := onUnit_next.1 h
  simp
theorem execWriteStaged_kept {t a fam inst mem length : Nat} {s u : State}
    (h : execWriteStaged t a fam inst mem length s = .next u) :
    u.pending = s.pending := by
  obtain ⟨_, rfl⟩ := onUnit_next.1 h
  simp
theorem execStage_kept {t a offset : Nat} {bytes : List Byte} {s u : State}
    (h : execStage t a offset bytes s = .next u) :
    u.pending = s.pending := by
  obtain ⟨_, rfl⟩ := onUnit_next.1 h
  simp
theorem execClearStage_kept {t a : Nat} {s u : State}
    (h : execClearStage t a s = .next u) :
    u.pending = s.pending := by
  obtain ⟨_, rfl⟩ := onUnit_next.1 h
  simp
theorem execAddressChangeEffect_kept {t mem : Nat} {s u : State}
    (h : execAddressChangeEffect t mem s = .next u) :
    u.pending = s.pending ∧ u.answer = s.answer ∧ u.emits = s.emits ∧ u.fresh = s.fresh ∧ u.links = s.links ∧
    u.shed = s.shed ∧ u.copy = s.copy ∧ u.fwd = s.fwd ∧ u.rings = s.rings ∧ u.str = s.str ∧ u.egr = s.egr ∧
    u.allots = s.allots ∧ u.irq = s.irq ∧ u.mem = s.mem ∧ u.flt = s.flt ∧ u.cal = s.cal ∧ u.gauge = s.gauge ∧
    u.mod = s.mod ∧ u.clk = s.clk ∧ u.boot = s.boot := by
  cases h
  simp [State.addressDue_kept ..]
theorem execKey_kept {t a allot : Nat} {val : List Byte} {s u : State}
    (h : execKey t a allot val s = .next u) :
    u.pending = s.pending := by
  obtain ⟨_, rfl⟩ := onUnit_next.1 h
  simp
theorem execKeyGraceEnd_kept {t allot : Nat} {s u : State}
    (h : execKeyGraceEnd t allot s = .next u) :
    u.pending = s.pending ∧ u.answer = s.answer ∧ u.emits = s.emits ∧ u.fresh = s.fresh ∧ u.links = s.links ∧
    u.shed = s.shed ∧ u.copy = s.copy ∧ u.fwd = s.fwd ∧ u.rings = s.rings ∧ u.str = s.str ∧ u.egr = s.egr ∧
    u.alm = s.alm ∧ u.irq = s.irq ∧ u.mem = s.mem ∧ u.flt = s.flt ∧ u.cal = s.cal ∧ u.gauge = s.gauge ∧
    u.mod = s.mod ∧ u.clk = s.clk ∧ u.boot = s.boot := by
  obtain ⟨_, rfl⟩ := onUnit_next.1 h
  simp [State.keyGraceEnds_kept ..]
theorem execLaneFail_kept {t link dir : Nat} {s u : State}
    (h : execLaneFail t link dir s = .next u) :
    u.pending = s.pending ∧ u.answer = s.answer ∧ u.copy = s.copy ∧ u.rings = s.rings ∧ u.boot = s.boot ∧
    u.mem.exchange = s.mem.exchange ∧ u.mem.areas = s.mem.areas := by
  obtain ⟨_, rfl⟩ := onUnit_next.1 h
  simp [State.laneFails_kept ..]
theorem execLaneMoveDone_kept {t link dir : Nat} {s u : State}
    (h : execLaneMoveDone t link dir s = .next u) :
    u.pending = s.pending ∧ u.answer = s.answer ∧ u.shed = s.shed ∧ u.copy = s.copy ∧ u.rings = s.rings ∧
    u.alm = s.alm ∧ u.mem = s.mem ∧ u.cal = s.cal ∧ u.mod = s.mod ∧ u.clk = s.clk ∧ u.boot = s.boot := by
  obtain ⟨_, rfl⟩ := onUnit_next.1 h
  simp [State.ite_kept .., State.laneMoved_kept ..]
theorem execPruneRequest_kept {t die slot picture bed : Nat} {s u : State}
    (h : execPruneRequest t die slot picture bed s = .next u) :
    u.pending = s.pending ∧ u.answer = s.answer ∧ u.shed = s.shed ∧ u.copy = s.copy ∧ u.rings = s.rings ∧
    u.alm = s.alm ∧ u.mem = s.mem ∧ u.cal = s.cal ∧ u.mod = s.mod ∧ u.clk = s.clk ∧ u.boot = s.boot := by
  obtain ⟨_, rfl⟩ := onUnit_next.1 h
  simp [State.ite_kept .., State.pruneComes_kept ..]
theorem execShedRestart_kept {t : Nat} {pair : Option Nat} {readyAt : Nat} {s u : State}
    (h : execShedRestart t pair readyAt s = .next u) :
    u.pending = s.pending ∧ u.answer = s.answer ∧ u.emits = s.emits ∧ u.fresh = s.fresh ∧ u.links = s.links ∧
    u.fwd = s.fwd ∧ u.rings = s.rings ∧ u.str = s.str ∧ u.egr = s.egr ∧ u.alm = s.alm ∧ u.allots = s.allots ∧
    u.mem = s.mem ∧ u.flt = s.flt ∧ u.cal = s.cal ∧ u.gauge = s.gauge ∧ u.mod = s.mod ∧ u.clk = s.clk ∧
    u.boot = s.boot := by
  obtain ⟨_, rfl⟩ := onUnit_next.1 h
  simp [State.restartShed_kept ..]
theorem execShedLive_kept {t : Nat} {s u : State}
    (h : execShedLive t s = .next u) :
    u.pending = s.pending := by
  cases h
  simp
theorem execCorePairTakeover_kept {t pair byPair : Nat} {s u : State}
    (h : execCorePairTakeover t pair byPair s = .next u) :
    u.pending = s.pending := by
  obtain ⟨_, rfl⟩ := onUnit_next.1 h
  simp [State.ite_kept .., State.pairTaken_kept ..]
theorem execWordIssue_kept {t bed : Nat} {s u : State}
    (h : execWordIssue t bed s = .next u) :
    u.pending = s.pending ∧ u.answer = s.answer ∧ u.links = s.links ∧ u.copy = s.copy ∧ u.rings = s.rings ∧
    u.boot = s.boot ∧ u.mem.exchange = s.mem.exchange ∧ u.mem.areas = s.mem.areas := by
  obtain ⟨_, rfl⟩ := onUnit_next.1 h
  simp [State.issue_kept ..]
theorem execWordRetire_kept {t bed : Nat} {info : RetireInfo} {s u : State}
    (h : execWordRetire t bed info s = .next u) :
    u.pending = s.pending ∧ u.answer = s.answer ∧ u.links = s.links ∧ u.copy = s.copy ∧ u.rings = s.rings ∧
    u.boot = s.boot ∧ u.mem.exchange = s.mem.exchange ∧ u.mem.areas = s.mem.areas := by
  obtain ⟨_, rfl⟩ := onUnit_next.1 h
  simp [State.wordRetires_kept ..]
theorem execWaitMet_kept {t bed : Nat} {conds : BitVec 64} {s u : State}
    (h : execWaitMet t bed conds s = .next u) :
    u.pending = s.pending ∧ u.answer = s.answer ∧ u.emits = s.emits ∧ u.fresh = s.fresh ∧ u.links = s.links ∧
    u.shed = s.shed ∧ u.copy = s.copy ∧ u.fwd = s.fwd ∧ u.rings = s.rings ∧ u.egr = s.egr ∧ u.alm = s.alm ∧
    u.allots = s.allots ∧ u.irq = s.irq ∧ u.mem = s.mem ∧ u.flt = s.flt ∧ u.cal = s.cal ∧ u.gauge = s.gauge ∧
    u.mod = s.mod ∧ u.clk = s.clk ∧ u.boot = s.boot := by
  obtain ⟨_, rfl⟩ := onUnit_next.1 h
  simp [State.waitMet_kept ..]
theorem execWaitTimeout_kept {t bed : Nat} {conds : BitVec 64} {s u : State}
    (h : execWaitTimeout t bed conds s = .next u) :
    u.pending = s.pending ∧ u.answer = s.answer ∧ u.links = s.links ∧ u.copy = s.copy ∧ u.rings = s.rings ∧
    u.boot = s.boot ∧ u.mem.exchange = s.mem.exchange ∧ u.mem.areas = s.mem.areas := by
  obtain ⟨_, rfl⟩ := onUnit_next.1 h
  simp [State.waitTimeout_kept ..]
theorem execTrapReq_kept {t a bed : Nat} {gang : Bool} {progress : BitVec 80} {s u : State}
    (h : execTrapReq t a bed gang progress s = .next u) :
    u.pending = s.pending ∧ u.answer = s.answer ∧ u.emits = s.emits ∧ u.fresh = s.fresh ∧ u.links = s.links ∧
    u.copy = s.copy ∧ u.fwd = s.fwd ∧ u.rings = s.rings ∧ u.egr = s.egr ∧ u.alm = s.alm ∧ u.allots = s.allots ∧
    u.irq = s.irq ∧ u.mem = s.mem ∧ u.flt = s.flt ∧ u.cal = s.cal ∧ u.gauge = s.gauge ∧ u.mod = s.mod ∧
    u.clk = s.clk ∧ u.boot = s.boot := by
  obtain ⟨_, rfl⟩ := onUnit_next.1 h
  simp only [State.bedControl]
  (repeat' split) <;> simp [State.gangTrap_kept .., State.orderTrap_kept ..]
theorem execPatchLoad_kept {t a : Nat} {set : List Byte} {s u : State}
    (h : execPatchLoad t a set s = .next u) :
    u.pending = s.pending := by
  obtain ⟨_, rfl⟩ := onUnit_next.1 h
  simp
theorem execSleepDelayExpiry_kept {t bed : Nat} {s u : State}
    (h : execSleepDelayExpiry t bed s = .next u) :
    u.pending = s.pending ∧ u.answer = s.answer ∧ u.fresh = s.fresh ∧ u.links = s.links ∧ u.shed = s.shed ∧
    u.copy = s.copy ∧ u.fwd = s.fwd ∧ u.rings = s.rings ∧ u.egr = s.egr ∧ u.alm = s.alm ∧ u.mem = s.mem ∧
    u.flt = s.flt ∧ u.cal = s.cal ∧ u.gauge = s.gauge ∧ u.mod = s.mod ∧ u.clk = s.clk ∧ u.boot = s.boot := by
  obtain ⟨_, rfl⟩ := onUnit_next.1 h
  simp [State.ite_kept .., State.sleepBed_kept ..]
theorem execSleepDone_kept {t bed : Nat} {s u : State}
    (h : execSleepDone t bed s = .next u) :
    u.pending = s.pending ∧ u.answer = s.answer ∧ u.fresh = s.fresh ∧ u.links = s.links ∧ u.shed = s.shed ∧
    u.copy = s.copy ∧ u.fwd = s.fwd ∧ u.rings = s.rings ∧ u.egr = s.egr ∧ u.alm = s.alm ∧ u.mem = s.mem ∧
    u.flt = s.flt ∧ u.cal = s.cal ∧ u.gauge = s.gauge ∧ u.mod = s.mod ∧ u.boot = s.boot := by
  obtain ⟨_, rfl⟩ := onUnit_next.1 h
  simp [State.sleepEnds_kept ..]
theorem execWake_kept {t a bed : Nat} {s u : State}
    (h : execWake t a bed s = .next u) :
    u.pending = s.pending ∧ u.answer = s.answer ∧ u.fresh = s.fresh ∧ u.links = s.links ∧ u.shed = s.shed ∧
    u.copy = s.copy ∧ u.fwd = s.fwd ∧ u.rings = s.rings ∧ u.egr = s.egr ∧ u.alm = s.alm ∧ u.mem = s.mem ∧
    u.flt = s.flt ∧ u.cal = s.cal ∧ u.gauge = s.gauge ∧ u.mod = s.mod ∧ u.boot = s.boot := by
  obtain ⟨_, rfl⟩ := onUnit_next.1 h
  simp only [State.bedControl]
  (repeat' split) <;> simp [State.wakeBed_kept ..]
theorem execSleep_kept {t a bed : Nat} {s u : State}
    (h : execSleep t a bed s = .next u) :
    u.pending = s.pending ∧ u.answer = s.answer ∧ u.fresh = s.fresh ∧ u.links = s.links ∧ u.shed = s.shed ∧
    u.copy = s.copy ∧ u.fwd = s.fwd ∧ u.rings = s.rings ∧ u.egr = s.egr ∧ u.alm = s.alm ∧ u.mem = s.mem ∧
    u.flt = s.flt ∧ u.cal = s.cal ∧ u.gauge = s.gauge ∧ u.mod = s.mod ∧ u.clk = s.clk ∧ u.boot = s.boot := by
  obtain ⟨_, rfl⟩ := onUnit_next.1 h
  simp only [State.bedControl]
  (repeat' split) <;> simp [State.sleepBed_kept ..]
theorem execPowerReq_kept {t a bed val : Nat} {s u : State}
    (h : execPowerReq t a bed val s = .next u) :
    u.pending = s.pending := by
  obtain ⟨_, rfl⟩ := onUnit_next.1 h
  simp
theorem execWakeDone_kept {t bed : Nat} {s u : State}
    (h : execWakeDone t bed s = .next u) :
    u.pending = s.pending ∧ u.answer = s.answer ∧ u.fresh = s.fresh ∧ u.links = s.links ∧ u.shed = s.shed ∧
    u.copy = s.copy ∧ u.fwd = s.fwd ∧ u.rings = s.rings ∧ u.egr = s.egr ∧ u.alm = s.alm ∧ u.mem = s.mem ∧
    u.flt = s.flt ∧ u.cal = s.cal ∧ u.gauge = s.gauge ∧ u.mod = s.mod ∧ u.boot = s.boot := by
  obtain ⟨_, rfl⟩ := onUnit_next.1 h
  (repeat' split) <;> simp [State.startGrafts_kept .., State.wakeEnds_kept ..]
theorem execRun_kept {t a allot bed : Nat} {on : Bool} {s u : State}
    (h : execRun t a allot bed on s = .next u) :
    u.pending = s.pending := by
  obtain ⟨_, rfl⟩ := onUnit_next.1 h
  simp
theorem execCalStart_kept {t a kind : Nat} {units : List Nat} {s u : State}
    (h : execCalStart t a kind units s = .next u) :
    u.pending = s.pending := by
  obtain ⟨_, rfl⟩ := onUnit_next.1 h
  simp
theorem execPairMeasureDone_kept {t pair : Nat} {trims : List Int} {s u : State}
    (h : execPairMeasureDone t pair trims s = .next u) :
    u.pending = s.pending ∧ u.answer = s.answer ∧ u.links = s.links ∧ u.copy = s.copy ∧ u.rings = s.rings ∧
    u.boot = s.boot ∧ u.mem.exchange = s.mem.exchange ∧ u.mem.areas = s.mem.areas := by
  obtain ⟨_, rfl⟩ := onUnit_next.1 h
  simp [State.pairMeasured_kept ..]
theorem execAlignTimeout_kept {t lp : Nat} {s u : State}
    (h : execAlignTimeout t lp s = .next u) :
    u.pending = s.pending ∧ u.answer = s.answer ∧ u.fresh = s.fresh ∧ u.links = s.links ∧ u.shed = s.shed ∧
    u.copy = s.copy ∧ u.rings = s.rings ∧ u.str = s.str ∧ u.egr = s.egr ∧ u.alm = s.alm ∧ u.mem = s.mem ∧
    u.flt = s.flt ∧ u.cal = s.cal ∧ u.gauge = s.gauge ∧ u.mod = s.mod ∧ u.clk = s.clk ∧ u.boot = s.boot := by
  obtain ⟨_, rfl⟩ := onUnit_next.1 h
  simp [State.alignTimeout_kept ..]
theorem execSensorCalDone_kept {t : Nat} {results : List (Nat × Int × Int)} {s u : State}
    (h : execSensorCalDone t results s = .next u) :
    u.pending = s.pending ∧ u.answer = s.answer ∧ u.emits = s.emits ∧ u.fresh = s.fresh ∧ u.links = s.links ∧
    u.shed = s.shed ∧ u.copy = s.copy ∧ u.fwd = s.fwd ∧ u.rings = s.rings ∧ u.str = s.str ∧ u.egr = s.egr ∧
    u.alm = s.alm ∧ u.allots = s.allots ∧ u.irq = s.irq ∧ u.mem = s.mem ∧ u.flt = s.flt ∧ u.gauge = s.gauge ∧
    u.mod = s.mod ∧ u.clk = s.clk ∧ u.boot = s.boot := by
  cases h
  simp [State.sensorsDone_kept ..]
theorem execEpoch_kept {t a time : Nat} {s u : State}
    (h : execEpoch t a time s = .next u) :
    u.pending = s.pending := by
  obtain ⟨_, rfl⟩ := onUnit_next.1 h
  simp
theorem execTrimEpoch_kept {t : Nat} {s u : State}
    (h : execTrimEpoch t s = .next u) :
    u.pending = s.pending ∧ u.answer = s.answer ∧ u.emits = s.emits ∧ u.fresh = s.fresh ∧ u.links = s.links ∧
    u.shed = s.shed ∧ u.copy = s.copy ∧ u.rings = s.rings ∧ u.str = s.str ∧ u.egr = s.egr ∧ u.alm = s.alm ∧
    u.allots = s.allots ∧ u.irq = s.irq ∧ u.mem = s.mem ∧ u.flt = s.flt ∧ u.gauge = s.gauge ∧ u.mod = s.mod ∧
    u.clk = s.clk ∧ u.boot = s.boot := by
  cases h
  simp [State.trimEpoch_kept ..]
theorem execDiscard_kept {t a : Nat} {s u : State}
    (h : execDiscard t a s = .next u) :
    u.pending = s.pending := by
  obtain ⟨_, rfl⟩ := onUnit_next.1 h
  simp
theorem execTrimSet_kept {t a : Nat} {s u : State}
    (h : execTrimSet t a s = .next u) :
    u.pending = s.pending := by
  obtain ⟨_, rfl⟩ := onUnit_next.1 h
  simp
theorem execTrimRestore_kept {t a side : Nat} {set : List Byte} {s u : State}
    (h : execTrimRestore t a side set s = .next u) :
    u.pending = s.pending := by
  obtain ⟨_, rfl⟩ := onUnit_next.1 h
  simp
theorem execSoilTestStart_kept {t bed : Nat} {s u : State}
    (h : execSoilTestStart t bed s = .next u) :
    u.pending = s.pending ∧ u.answer = s.answer ∧ u.fresh = s.fresh ∧ u.links = s.links ∧ u.shed = s.shed ∧
    u.copy = s.copy ∧ u.fwd = s.fwd ∧ u.rings = s.rings ∧ u.egr = s.egr ∧ u.alm = s.alm ∧ u.mem = s.mem ∧
    u.flt = s.flt ∧ u.cal = s.cal ∧ u.gauge = s.gauge ∧ u.mod = s.mod ∧ u.clk = s.clk ∧ u.boot = s.boot := by
  obtain ⟨_, rfl⟩ := onUnit_next.1 h
  simp [State.soilTest_kept ..]
theorem execSoilTestEnd_kept {t bed failStep : Nat} {s u : State}
    (h : execSoilTestEnd t bed failStep s = .next u) :
    u.pending = s.pending ∧ u.answer = s.answer ∧ u.links = s.links ∧ u.copy = s.copy ∧ u.rings = s.rings ∧
    u.boot = s.boot ∧ u.mem.exchange = s.mem.exchange ∧ u.mem.areas = s.mem.areas := by
  obtain ⟨_, rfl⟩ := onUnit_next.1 h
  simp [State.soilEnd_kept ..]
theorem execRetest_kept {t a bed : Nat} {s u : State}
    (h : execRetest t a bed s = .next u) :
    u.pending = s.pending := by
  obtain ⟨_, rfl⟩ := onUnit_next.1 h
  simp
theorem execRefclkWindow_kept {t count backupHz : Nat} {s u : State}
    (h : execRefclkWindow t count backupHz s = .next u) :
    u.pending = s.pending ∧ u.answer = s.answer ∧ u.links = s.links ∧ u.copy = s.copy ∧ u.rings = s.rings ∧
    u.boot = s.boot ∧ u.mem.exchange = s.mem.exchange ∧ u.mem.areas = s.mem.areas := by
  cases h
  simp [State.refWindow_kept ..]
theorem execCfSource_kept {t a val : Nat} {s u : State}
    (h : execCfSource t a val s = .next u) :
    u.pending = s.pending := by
  obtain ⟨_, rfl⟩ := onUnit_next.1 h
  simp
theorem execBlockWakeDone_kept {t block : Nat} {s u : State}
    (h : execBlockWakeDone t block s = .next u) :
    u.pending = s.pending ∧ u.answer = s.answer ∧ u.emits = s.emits ∧ u.fresh = s.fresh ∧ u.links = s.links ∧
    u.shed = s.shed ∧ u.copy = s.copy ∧ u.fwd = s.fwd ∧ u.rings = s.rings ∧ u.str = s.str ∧ u.egr = s.egr ∧
    u.alm = s.alm ∧ u.allots = s.allots ∧ u.irq = s.irq ∧ u.mem = s.mem ∧ u.flt = s.flt ∧ u.cal = s.cal ∧
    u.gauge = s.gauge ∧ u.mod = s.mod ∧ u.boot = s.boot := by
  obtain ⟨_, rfl⟩ := onUnit_next.1 h
  simp [State.blockAwake_kept ..]
theorem execPtpSync_kept {t lp : Nat} {offset : Int} {s u : State}
    (h : execPtpSync t lp offset s = .next u) :
    u.pending = s.pending ∧ u.answer = s.answer ∧ u.fresh = s.fresh ∧ u.links = s.links ∧ u.shed = s.shed ∧
    u.copy = s.copy ∧ u.fwd = s.fwd ∧ u.rings = s.rings ∧ u.str = s.str ∧ u.alm = s.alm ∧ u.mem = s.mem ∧
    u.flt = s.flt ∧ u.cal = s.cal ∧ u.gauge = s.gauge ∧ u.mod = s.mod ∧ u.boot = s.boot := by
  obtain ⟨_, rfl⟩ := onUnit_next.1 h
  simp [State.syncMeasured_kept ..]
theorem execAnnounce_kept {t lp : Nat} {data : Announce} {s u : State}
    (h : execAnnounce t lp data s = .next u) :
    u.pending = s.pending ∧ u.answer = s.answer ∧ u.fresh = s.fresh ∧ u.links = s.links ∧ u.shed = s.shed ∧
    u.copy = s.copy ∧ u.fwd = s.fwd ∧ u.rings = s.rings ∧ u.str = s.str ∧ u.egr = s.egr ∧ u.alm = s.alm ∧
    u.mem = s.mem ∧ u.flt = s.flt ∧ u.cal = s.cal ∧ u.gauge = s.gauge ∧ u.mod = s.mod ∧ u.boot = s.boot := by
  obtain ⟨_, rfl⟩ := onUnit_next.1 h
  simp [State.announced_kept ..]
theorem execAnnounceTimeout_kept {t : Nat} {s u : State}
    (h : execAnnounceTimeout t s = .next u) :
    u.pending = s.pending ∧ u.answer = s.answer ∧ u.fresh = s.fresh ∧ u.links = s.links ∧ u.shed = s.shed ∧
    u.copy = s.copy ∧ u.fwd = s.fwd ∧ u.rings = s.rings ∧ u.str = s.str ∧ u.egr = s.egr ∧ u.alm = s.alm ∧
    u.mem = s.mem ∧ u.flt = s.flt ∧ u.cal = s.cal ∧ u.gauge = s.gauge ∧ u.mod = s.mod ∧ u.boot = s.boot := by
  cases h
  simp [State.slaveLost_kept ..]
theorem execDelayReq_kept {t lp : Nat} {multicast : Bool} {s u : State}
    (h : execDelayReq t lp multicast s = .next u) :
    u.pending = s.pending ∧ u.answer = s.answer ∧ u.fresh = s.fresh ∧ u.links = s.links ∧ u.shed = s.shed ∧
    u.copy = s.copy ∧ u.fwd = s.fwd ∧ u.rings = s.rings ∧ u.str = s.str ∧ u.egr = s.egr ∧ u.alm = s.alm ∧
    u.allots = s.allots ∧ u.irq = s.irq ∧ u.mem = s.mem ∧ u.flt = s.flt ∧ u.cal = s.cal ∧ u.gauge = s.gauge ∧
    u.mod = s.mod ∧ u.clk = s.clk ∧ u.boot = s.boot := by
  obtain ⟨_, rfl⟩ := onUnit_next.1 h
  simp [State.delayAsked_kept ..]
theorem execHoldoverSpecExpiry_kept {t : Nat} {s u : State}
    (h : execHoldoverSpecExpiry t s = .next u) :
    u.pending = s.pending ∧ u.answer = s.answer ∧ u.emits = s.emits ∧ u.fresh = s.fresh ∧ u.links = s.links ∧
    u.shed = s.shed ∧ u.copy = s.copy ∧ u.fwd = s.fwd ∧ u.rings = s.rings ∧ u.str = s.str ∧ u.egr = s.egr ∧
    u.alm = s.alm ∧ u.allots = s.allots ∧ u.irq = s.irq ∧ u.mem = s.mem ∧ u.flt = s.flt ∧ u.cal = s.cal ∧
    u.gauge = s.gauge ∧ u.mod = s.mod ∧ u.boot = s.boot := by
  cases h
  simp [State.specExpires_kept ..]
theorem execTimeSet_kept {t a val : Nat} {s u : State}
    (h : execTimeSet t a val s = .next u) :
    u.pending = s.pending := by
  obtain ⟨_, rfl⟩ := onUnit_next.1 h
  simp
theorem execPtpManagement_kept {t lp : Nat} {get : Bool} {id : Nat} {s u : State}
    (h : execPtpManagement t lp get id s = .next u) :
    u.pending = s.pending ∧ u.answer = s.answer ∧ u.fresh = s.fresh ∧ u.links = s.links ∧ u.shed = s.shed ∧
    u.copy = s.copy ∧ u.fwd = s.fwd ∧ u.rings = s.rings ∧ u.str = s.str ∧ u.egr = s.egr ∧ u.alm = s.alm ∧
    u.allots = s.allots ∧ u.irq = s.irq ∧ u.mem = s.mem ∧ u.flt = s.flt ∧ u.cal = s.cal ∧ u.gauge = s.gauge ∧
    u.mod = s.mod ∧ u.clk = s.clk ∧ u.boot = s.boot := by
  obtain ⟨_, rfl⟩ := onUnit_next.1 h
  simp [State.managed_kept ..]
theorem execSyncAndAnnounceSend_kept {t lp kind : Nat} {s u : State}
    (h : execSyncAndAnnounceSend t lp kind s = .next u) :
    u.pending = s.pending ∧ u.answer = s.answer ∧ u.fresh = s.fresh ∧ u.links = s.links ∧ u.shed = s.shed ∧
    u.copy = s.copy ∧ u.fwd = s.fwd ∧ u.rings = s.rings ∧ u.str = s.str ∧ u.egr = s.egr ∧ u.alm = s.alm ∧
    u.allots = s.allots ∧ u.irq = s.irq ∧ u.mem = s.mem ∧ u.flt = s.flt ∧ u.cal = s.cal ∧ u.gauge = s.gauge ∧
    u.mod = s.mod ∧ u.clk = s.clk ∧ u.boot = s.boot := by
  obtain ⟨_, rfl⟩ := onUnit_next.1 h
  simp [State.ptpSends_kept ..]
theorem execCounterSel_kept {t a counter : Nat} {val : List Byte} {s u : State}
    (h : execCounterSel t a counter val s = .next u) :
    u.pending = s.pending := by
  obtain ⟨_, rfl⟩ := onUnit_next.1 h
  simp
theorem execFreeze_kept {t a val : Nat} {s u : State}
    (h : execFreeze t a val s = .next u) :
    u.pending = s.pending := by
  obtain ⟨_, rfl⟩ := onUnit_next.1 h
  simp
theorem execSnapshot_kept {t a : Nat} {s u : State}
    (h : execSnapshot t a s = .next u) :
    u.pending = s.pending := by
  obtain ⟨_, rfl⟩ := onUnit_next.1 h
  simp
theorem execBedCounterOverflow_kept {t bed counter upc : Nat} {space : Bool} {slot picture row ctu : Nat} {s u : State}
    (h : execBedCounterOverflow t bed counter upc space slot picture row ctu s = .next u) :
    u.pending = s.pending ∧ u.answer = s.answer ∧ u.fresh = s.fresh ∧ u.links = s.links ∧ u.shed = s.shed ∧
    u.copy = s.copy ∧ u.fwd = s.fwd ∧ u.egr = s.egr ∧ u.alm = s.alm ∧ u.mem = s.mem ∧ u.flt = s.flt ∧ u.cal = s.cal ∧
    u.gauge = s.gauge ∧ u.mod = s.mod ∧ u.clk = s.clk ∧ u.boot = s.boot := by
  obtain ⟨_, rfl⟩ := onUnit_next.1 h
  simp [State.counterSample_kept ..]
theorem execHarvestInstant_kept {t : Nat} {s u : State}
    (h : execHarvestInstant t s = .next u) :
    u.pending = s.pending ∧ u.answer = s.answer ∧ u.emits = s.emits ∧ u.fresh = s.fresh ∧ u.links = s.links ∧
    u.shed = s.shed ∧ u.fwd = s.fwd ∧ u.rings = s.rings ∧ u.egr = s.egr ∧ u.alm = s.alm ∧ u.irq = s.irq ∧
    u.mem = s.mem ∧ u.flt = s.flt ∧ u.cal = s.cal ∧ u.gauge = s.gauge ∧ u.mod = s.mod ∧ u.clk = s.clk ∧
    u.boot = s.boot := by
  cases h
  simp [State.ite_kept .., State.copyCounters_kept .., State.harvest_kept ..]
theorem execHarvestComplete_kept {t a : Nat} {s u : State}
    (h : execHarvestComplete t a s = .next u) :
    u.pending = s.pending ∧ u.answer = s.answer ∧ u.emits = s.emits ∧ u.fresh = s.fresh ∧ u.links = s.links ∧
    u.shed = s.shed ∧ u.copy = s.copy ∧ u.fwd = s.fwd ∧ u.rings = s.rings ∧ u.egr = s.egr ∧ u.alm = s.alm ∧
    u.irq = s.irq ∧ u.mem = s.mem ∧ u.flt = s.flt ∧ u.cal = s.cal ∧ u.gauge = s.gauge ∧ u.mod = s.mod ∧
    u.clk = s.clk ∧ u.boot = s.boot := by
  obtain ⟨_, rfl⟩ := onUnit_next.1 h
  simp [State.harvestShown_kept ..]
theorem execHarvestList_kept {t a allot : Nat} {list : List (Nat × Nat)} {s u : State}
    (h : execHarvestList t a allot list s = .next u) :
    u.pending = s.pending := by
  obtain ⟨_, rfl⟩ := onUnit_next.1 h
  simp
theorem execHistClear_kept {t a slot : Nat} {s u : State}
    (h : execHistClear t a slot s = .next u) :
    u.pending = s.pending := by
  obtain ⟨_, rfl⟩ := onUnit_next.1 h
  simp
theorem execPortFrameStart_kept {t lp : Nat} {cellError : Bool} {s u : State}
    (h : execPortFrameStart t lp cellError s = .next u) :
    u.pending = s.pending ∧ u.answer = s.answer ∧ u.links = s.links ∧ u.copy = s.copy ∧ u.rings = s.rings ∧
    u.boot = s.boot ∧ u.mem.exchange = s.mem.exchange ∧ u.mem.areas = s.mem.areas := by
  obtain ⟨_, rfl⟩ := onUnit_next.1 h
  simp [State.startFrame_kept ..]
theorem execFrameTxEnd_kept {t lp : Nat} {s u : State}
    (h : execFrameTxEnd t lp s = .next u) :
    u.pending = s.pending ∧ u.answer = s.answer ∧ u.fresh = s.fresh ∧ u.links = s.links ∧ u.shed = s.shed ∧
    u.copy = s.copy ∧ u.rings = s.rings ∧ u.str = s.str ∧ u.alm = s.alm ∧ u.allots = s.allots ∧ u.irq = s.irq ∧
    u.mem = s.mem ∧ u.flt = s.flt ∧ u.cal = s.cal ∧ u.mod = s.mod ∧ u.clk = s.clk ∧ u.boot = s.boot := by
  obtain ⟨_, rfl⟩ := onUnit_next.1 h
  simp [State.endFrame_kept ..]
theorem execShaperRefill_kept {t lp : Nat} {group : Bool} {index : Nat} {s u : State}
    (h : execShaperRefill t lp group index s = .next u) :
    u.pending = s.pending ∧ u.answer = s.answer ∧ u.emits = s.emits ∧ u.fresh = s.fresh ∧ u.links = s.links ∧
    u.shed = s.shed ∧ u.copy = s.copy ∧ u.fwd = s.fwd ∧ u.rings = s.rings ∧ u.str = s.str ∧ u.alm = s.alm ∧
    u.allots = s.allots ∧ u.irq = s.irq ∧ u.mem = s.mem ∧ u.flt = s.flt ∧ u.cal = s.cal ∧ u.gauge = s.gauge ∧
    u.mod = s.mod ∧ u.clk = s.clk ∧ u.boot = s.boot := by
  obtain ⟨_, rfl⟩ := onUnit_next.1 h
  simp [State.ite_kept .., State.refillGroup_kept .., State.refillQueue_kept ..]
theorem execGateEntryChange_kept {t lp : Nat} {s u : State}
    (h : execGateEntryChange t lp s = .next u) :
    u.pending = s.pending ∧ u.answer = s.answer ∧ u.emits = s.emits ∧ u.fresh = s.fresh ∧ u.links = s.links ∧
    u.shed = s.shed ∧ u.copy = s.copy ∧ u.fwd = s.fwd ∧ u.rings = s.rings ∧ u.str = s.str ∧ u.alm = s.alm ∧
    u.allots = s.allots ∧ u.irq = s.irq ∧ u.mem = s.mem ∧ u.flt = s.flt ∧ u.cal = s.cal ∧ u.gauge = s.gauge ∧
    u.mod = s.mod ∧ u.clk = s.clk ∧ u.boot = s.boot := by
  obtain ⟨_, rfl⟩ := onUnit_next.1 h
  simp [State.gateMoves_kept ..]
theorem execGateScheduleChange_kept {t lp : Nat} {s u : State}
    (h : execGateScheduleChange t lp s = .next u) :
    u.pending = s.pending ∧ u.answer = s.answer ∧ u.fresh = s.fresh ∧ u.links = s.links ∧ u.shed = s.shed ∧
    u.copy = s.copy ∧ u.fwd = s.fwd ∧ u.rings = s.rings ∧ u.str = s.str ∧ u.alm = s.alm ∧ u.mem = s.mem ∧
    u.flt = s.flt ∧ u.cal = s.cal ∧ u.gauge = s.gauge ∧ u.mod = s.mod ∧ u.clk = s.clk ∧ u.boot = s.boot := by
  obtain ⟨_, rfl⟩ := onUnit_next.1 h
  simp [State.gateChanges_kept ..]
theorem execDeepShareInterval_kept {t die : Nat} {s u : State}
    (h : execDeepShareInterval t die s = .next u) :
    u.pending = s.pending ∧ u.answer = s.answer ∧ u.emits = s.emits ∧ u.fresh = s.fresh ∧ u.links = s.links ∧
    u.shed = s.shed ∧ u.copy = s.copy ∧ u.fwd = s.fwd ∧ u.rings = s.rings ∧ u.str = s.str ∧ u.alm = s.alm ∧
    u.allots = s.allots ∧ u.irq = s.irq ∧ u.mem = s.mem ∧ u.flt = s.flt ∧ u.cal = s.cal ∧ u.gauge = s.gauge ∧
    u.mod = s.mod ∧ u.clk = s.clk ∧ u.boot = s.boot := by
  obtain ⟨_, rfl⟩ := onUnit_next.1 h
  simp
theorem execQueueWrite_kept {t a lp : Nat} {rec : List Byte} {s u : State}
    (h : execQueueWrite t a lp rec s = .next u) :
    u.pending = s.pending := by
  obtain ⟨_, rfl⟩ := onUnit_next.1 h
  simp
theorem execQueueRead_kept {t a lp index : Nat} {s u : State}
    (h : execQueueRead t a lp index s = .next u) :
    u.pending = s.pending := by
  obtain ⟨_, rfl⟩ := onUnit_next.1 h
  simp
theorem execQueueEnable_kept {t a allot queue : Nat} {on : Bool} {s u : State}
    (h : execQueueEnable t a allot queue on s = .next u) :
    u.pending = s.pending := by
  obtain ⟨_, rfl⟩ := onUnit_next.1 h
  simp
theorem execFaultRaise_kept {t id : Nat} {s u : State}
    (h : execFaultRaise t id s = .next u) :
    u.pending = s.pending ∧ u.answer = s.answer ∧ u.links = s.links ∧ u.copy = s.copy ∧ u.rings = s.rings ∧
    u.boot = s.boot ∧ u.mem.exchange = s.mem.exchange ∧ u.mem.areas = s.mem.areas := by
  obtain ⟨_, rfl⟩ := onUnit_next.1 h
  simp [State.raiseFault_kept ..]
theorem execFaultCauseGone_kept {t id : Nat} {s u : State}
    (h : execFaultCauseGone t id s = .next u) :
    u.pending = s.pending ∧ u.answer = s.answer ∧ u.emits = s.emits ∧ u.fresh = s.fresh ∧ u.links = s.links ∧
    u.shed = s.shed ∧ u.copy = s.copy ∧ u.fwd = s.fwd ∧ u.rings = s.rings ∧ u.str = s.str ∧ u.egr = s.egr ∧
    u.alm = s.alm ∧ u.allots = s.allots ∧ u.irq = s.irq ∧ u.mem = s.mem ∧ u.cal = s.cal ∧ u.gauge = s.gauge ∧
    u.mod = s.mod ∧ u.clk = s.clk ∧ u.boot = s.boot := by
  obtain ⟨_, rfl⟩ := onUnit_next.1 h
  simp [State.causeGone_kept ..]
theorem execForce_kept {t a id val : Nat} {s u : State}
    (h : execForce t a id val s = .next u) :
    u.pending = s.pending := by
  obtain ⟨_, rfl⟩ := onUnit_next.1 h
  simp
theorem execClass_kept {t a id val : Nat} {s u : State}
    (h : execClass t a id val s = .next u) :
    u.pending = s.pending := by
  obtain ⟨_, rfl⟩ := onUnit_next.1 h
  simp
theorem execRecordClear_kept {t a rec : Nat} {s u : State}
    (h : execRecordClear t a rec s = .next u) :
    u.pending = s.pending := by
  obtain ⟨_, rfl⟩ := onUnit_next.1 h
  simp
theorem execUnitReset_kept {t a domain unit : Nat} {s u : State}
    (h : execUnitReset t a domain unit s = .next u) :
    u.pending = s.pending := by
  obtain ⟨_, rfl⟩ := onUnit_next.1 h
  simp
theorem execUnitResetEnd_kept {t domain unit : Nat} {s u : State}
    (h : execUnitResetEnd t domain unit s = .next u) :
    u.pending = s.pending ∧ u.answer = s.answer ∧ u.fresh = s.fresh ∧ u.copy = s.copy ∧ u.rings = s.rings ∧
    u.alm = s.alm ∧ u.cal = s.cal ∧ u.gauge = s.gauge ∧ u.clk = s.clk ∧ u.boot = s.boot ∧
    u.mem.exchange = s.mem.exchange ∧ u.mem.areas = s.mem.areas := by
  obtain ⟨_, rfl⟩ := onUnit_next.1 h
  simp [State.ite_kept .., State.resetEnds_kept ..]
theorem execInjectEnable_kept {t a val : Nat} {s u : State}
    (h : execInjectEnable t a val s = .next u) :
    u.pending = s.pending := by
  obtain ⟨_, rfl⟩ := onUnit_next.1 h
  simp
theorem execAlertSw_kept {t a val : Nat} {s u : State}
    (h : execAlertSw t a val s = .next u) :
    u.pending = s.pending := by
  obtain ⟨_, rfl⟩ := onUnit_next.1 h
  simp
theorem execAliveTick_kept {t : Nat} {s u : State}
    (h : execAliveTick t s = .next u) :
    u.pending = s.pending ∧ u.answer = s.answer ∧ u.fresh = s.fresh ∧ u.links = s.links ∧ u.shed = s.shed ∧
    u.copy = s.copy ∧ u.fwd = s.fwd ∧ u.rings = s.rings ∧ u.str = s.str ∧ u.egr = s.egr ∧ u.alm = s.alm ∧
    u.allots = s.allots ∧ u.irq = s.irq ∧ u.mem = s.mem ∧ u.cal = s.cal ∧ u.gauge = s.gauge ∧ u.clk = s.clk ∧
    u.boot = s.boot := by
  cases h
  simp [State.aliveTick_kept ..]
theorem execAlertPulseEnd_kept {t output : Nat} {s u : State}
    (h : execAlertPulseEnd t output s = .next u) :
    u.pending = s.pending ∧ u.answer = s.answer ∧ u.emits = s.emits ∧ u.fresh = s.fresh ∧ u.links = s.links ∧
    u.shed = s.shed ∧ u.copy = s.copy ∧ u.fwd = s.fwd ∧ u.rings = s.rings ∧ u.str = s.str ∧ u.egr = s.egr ∧
    u.alm = s.alm ∧ u.allots = s.allots ∧ u.irq = s.irq ∧ u.mem = s.mem ∧ u.cal = s.cal ∧ u.gauge = s.gauge ∧
    u.mod = s.mod ∧ u.clk = s.clk ∧ u.boot = s.boot := by
  obtain ⟨_, rfl⟩ := onUnit_next.1 h
  simp [State.pulseEnds_kept ..]
theorem execIntakePacket_kept {t ch leg chain : Nat} {pkt : IntakePkt} {s u : State}
    (h : execIntakePacket t ch leg chain pkt s = .next u) :
    u.pending = s.pending ∧ u.answer = s.answer ∧ u.fresh = s.fresh ∧ u.shed = s.shed ∧ u.copy = s.copy ∧
    u.fwd = s.fwd ∧ u.rings = s.rings ∧ u.allots = s.allots ∧ u.irq = s.irq ∧ u.mem = s.mem ∧ u.flt = s.flt ∧
    u.cal = s.cal ∧ u.gauge = s.gauge ∧ u.mod = s.mod ∧ u.clk = s.clk ∧ u.boot = s.boot := by
  obtain ⟨_, rfl⟩ := onUnit_next.1 h
  simp [State.ite_kept .., State.intakeTakes_kept ..]
theorem execMergeWaitExpiry_kept {t ch : Nat} {s u : State}
    (h : execMergeWaitExpiry t ch s = .next u) :
    u.pending = s.pending ∧ u.answer = s.answer ∧ u.emits = s.emits ∧ u.fresh = s.fresh ∧ u.shed = s.shed ∧
    u.copy = s.copy ∧ u.fwd = s.fwd ∧ u.rings = s.rings ∧ u.egr = s.egr ∧ u.alm = s.alm ∧ u.allots = s.allots ∧
    u.irq = s.irq ∧ u.mem = s.mem ∧ u.flt = s.flt ∧ u.cal = s.cal ∧ u.gauge = s.gauge ∧ u.mod = s.mod ∧
    u.clk = s.clk ∧ u.boot = s.boot := by
  obtain ⟨_, rfl⟩ := onUnit_next.1 h
  simp [State.ite_kept .., State.gapClosed_kept ..]
theorem execLegTimeout_kept {t ch leg : Nat} {s u : State}
    (h : execLegTimeout t ch leg s = .next u) :
    u.pending = s.pending ∧ u.answer = s.answer ∧ u.emits = s.emits ∧ u.fresh = s.fresh ∧ u.links = s.links ∧
    u.shed = s.shed ∧ u.copy = s.copy ∧ u.fwd = s.fwd ∧ u.rings = s.rings ∧ u.egr = s.egr ∧ u.alm = s.alm ∧
    u.allots = s.allots ∧ u.irq = s.irq ∧ u.mem = s.mem ∧ u.flt = s.flt ∧ u.cal = s.cal ∧ u.gauge = s.gauge ∧
    u.mod = s.mod ∧ u.clk = s.clk ∧ u.boot = s.boot := by
  obtain ⟨_, rfl⟩ := onUnit_next.1 h
  simp [State.legDown_kept ..]
theorem execPictureTimeout_kept {t ch : Nat} {s u : State}
    (h : execPictureTimeout t ch s = .next u) :
    u.pending = s.pending ∧ u.answer = s.answer ∧ u.emits = s.emits ∧ u.fresh = s.fresh ∧ u.links = s.links ∧
    u.shed = s.shed ∧ u.copy = s.copy ∧ u.fwd = s.fwd ∧ u.rings = s.rings ∧ u.allots = s.allots ∧ u.irq = s.irq ∧
    u.mem = s.mem ∧ u.flt = s.flt ∧ u.cal = s.cal ∧ u.gauge = s.gauge ∧ u.mod = s.mod ∧ u.clk = s.clk ∧
    u.boot = s.boot := by
  obtain ⟨_, rfl⟩ := onUnit_next.1 h
  simp [State.pictureTimeout_kept ..]
theorem execMissingPicture_kept {t ch : Nat} {s u : State}
    (h : execMissingPicture t ch s = .next u) :
    u.pending = s.pending ∧ u.answer = s.answer ∧ u.emits = s.emits ∧ u.fresh = s.fresh ∧ u.links = s.links ∧
    u.shed = s.shed ∧ u.copy = s.copy ∧ u.fwd = s.fwd ∧ u.rings = s.rings ∧ u.egr = s.egr ∧ u.allots = s.allots ∧
    u.irq = s.irq ∧ u.mem = s.mem ∧ u.flt = s.flt ∧ u.cal = s.cal ∧ u.gauge = s.gauge ∧ u.mod = s.mod ∧
    u.clk = s.clk ∧ u.boot = s.boot := by
  obtain ⟨_, rfl⟩ := onUnit_next.1 h
  simp [State.ite_kept .., State.missingPicture_kept ..]
theorem execAuSlotEnd_kept {t ch : Nat} {s u : State}
    (h : execAuSlotEnd t ch s = .next u) :
    u.pending = s.pending ∧ u.answer = s.answer ∧ u.emits = s.emits ∧ u.fresh = s.fresh ∧ u.shed = s.shed ∧
    u.copy = s.copy ∧ u.fwd = s.fwd ∧ u.rings = s.rings ∧ u.egr = s.egr ∧ u.alm = s.alm ∧ u.allots = s.allots ∧
    u.irq = s.irq ∧ u.mem = s.mem ∧ u.flt = s.flt ∧ u.cal = s.cal ∧ u.gauge = s.gauge ∧ u.mod = s.mod ∧
    u.clk = s.clk ∧ u.boot = s.boot := by
  obtain ⟨_, rfl⟩ := onUnit_next.1 h
  simp [State.ite_kept .., State.auSlotEnd_kept ..]
theorem execFeedLineRead_kept {t slot : Nat} {storeError : Bool} {s u : State}
    (h : execFeedLineRead t slot storeError s = .next u) :
    u.pending = s.pending ∧ u.answer = s.answer ∧ u.copy = s.copy ∧ u.rings = s.rings ∧
    u.mem.exchange = s.mem.exchange ∧ u.mem.areas = s.mem.areas := by
  obtain ⟨_, rfl⟩ := onUnit_next.1 h
  simp [State.ite_kept .., State.feedRead_kept ..]
theorem execPendingTake_kept {t slot bed : Nat} {s u : State}
    (h : execPendingTake t slot bed s = .next u) :
    u.pending = s.pending ∧ u.answer = s.answer ∧ u.emits = s.emits ∧ u.fresh = s.fresh ∧ u.links = s.links ∧
    u.shed = s.shed ∧ u.copy = s.copy ∧ u.fwd = s.fwd ∧ u.rings = s.rings ∧ u.egr = s.egr ∧ u.alm = s.alm ∧
    u.allots = s.allots ∧ u.irq = s.irq ∧ u.mem = s.mem ∧ u.flt = s.flt ∧ u.cal = s.cal ∧ u.gauge = s.gauge ∧
    u.mod = s.mod ∧ u.clk = s.clk := by
  obtain ⟨_, rfl⟩ := onUnit_next.1 h
  simp [State.takePending_kept ..]
theorem execLineAck_kept {t slot bed line : Nat} {s u : State}
    (h : execLineAck t slot bed line s = .next u) :
    u.pending = s.pending ∧ u.answer = s.answer ∧ u.emits = s.emits ∧ u.fresh = s.fresh ∧ u.links = s.links ∧
    u.shed = s.shed ∧ u.copy = s.copy ∧ u.fwd = s.fwd ∧ u.rings = s.rings ∧ u.egr = s.egr ∧ u.alm = s.alm ∧
    u.allots = s.allots ∧ u.irq = s.irq ∧ u.mem = s.mem ∧ u.flt = s.flt ∧ u.cal = s.cal ∧ u.gauge = s.gauge ∧
    u.mod = s.mod ∧ u.clk = s.clk ∧ u.boot = s.boot := by
  obtain ⟨_, rfl⟩ := onUnit_next.1 h
  simp [State.lineAck_kept ..]
theorem execCutTo_kept {t a slot ch : Nat} {s u : State}
    (h : execCutTo t a slot ch s = .next u) :
    u.pending = s.pending := by
  obtain ⟨_, rfl⟩ := onUnit_next.1 h
  simp
theorem execPictureBoundary_kept {t slot : Nat} {s u : State}
    (h : execPictureBoundary t slot s = .next u) :
    u.pending = s.pending ∧ u.answer = s.answer ∧ u.links = s.links ∧ u.shed = s.shed ∧ u.copy = s.copy ∧
    u.rings = s.rings ∧ u.mem = s.mem ∧ u.flt = s.flt ∧ u.cal = s.cal ∧ u.mod = s.mod ∧ u.clk = s.clk ∧
    u.boot = s.boot := by
  obtain ⟨_, rfl⟩ := onUnit_next.1 h
  simp [State.pictureBoundary_kept ..]
theorem execOuttakeRowRead_kept {t oc row : Nat} {s u : State}
    (h : execOuttakeRowRead t oc row s = .next u) :
    u.pending = s.pending ∧ u.answer = s.answer ∧ u.links = s.links ∧ u.shed = s.shed ∧ u.copy = s.copy ∧
    u.rings = s.rings ∧ u.alm = s.alm ∧ u.mem = s.mem ∧ u.flt = s.flt ∧ u.cal = s.cal ∧ u.mod = s.mod ∧
    u.clk = s.clk ∧ u.boot = s.boot := by
  obtain ⟨_, rfl⟩ := onUnit_next.1 h
  simp [State.outtakeRow_kept ..]
theorem execBreakout_kept {t a fp code : Nat} {s u : State}
    (h : execBreakout t a fp code s = .next u) :
    u.pending = s.pending := by
  obtain ⟨_, rfl⟩ := onUnit_next.1 h
  simp
theorem execEnable_kept {t a lp val : Nat} {s u : State}
    (h : execEnable t a lp val s = .next u) :
    u.pending = s.pending := by
  obtain ⟨_, rfl⟩ := onUnit_next.1 h
  simp
theorem execSignalLoss_kept {t lp : Nat} {s u : State}
    (h : execSignalLoss t lp s = .next u) :
    u.pending = s.pending ∧ u.answer = s.answer ∧ u.fresh = s.fresh ∧ u.links = s.links ∧ u.shed = s.shed ∧
    u.copy = s.copy ∧ u.rings = s.rings ∧ u.str = s.str ∧ u.egr = s.egr ∧ u.alm = s.alm ∧ u.mem = s.mem ∧
    u.flt = s.flt ∧ u.cal = s.cal ∧ u.gauge = s.gauge ∧ u.mod = s.mod ∧ u.clk = s.clk ∧ u.boot = s.boot := by
  obtain ⟨_, rfl⟩ := onUnit_next.1 h
  simp [State.portLost_kept ..]
theorem execFecAligned_kept {t lp : Nat} {s u : State}
    (h : execFecAligned t lp s = .next u) :
    u.pending = s.pending ∧ u.answer = s.answer ∧ u.fresh = s.fresh ∧ u.links = s.links ∧ u.shed = s.shed ∧
    u.copy = s.copy ∧ u.rings = s.rings ∧ u.str = s.str ∧ u.egr = s.egr ∧ u.alm = s.alm ∧ u.mem = s.mem ∧
    u.flt = s.flt ∧ u.cal = s.cal ∧ u.gauge = s.gauge ∧ u.mod = s.mod ∧ u.clk = s.clk ∧ u.boot = s.boot := by
  obtain ⟨_, rfl⟩ := onUnit_next.1 h
  simp [State.portAligned_kept ..]
theorem execFecIntervalEnd_kept {t lp corrected uncorrectable : Nat} {s u : State}
    (h : execFecIntervalEnd t lp corrected uncorrectable s = .next u) :
    u.pending = s.pending ∧ u.answer = s.answer ∧ u.fresh = s.fresh ∧ u.links = s.links ∧ u.shed = s.shed ∧
    u.copy = s.copy ∧ u.rings = s.rings ∧ u.str = s.str ∧ u.egr = s.egr ∧ u.alm = s.alm ∧ u.mem = s.mem ∧
    u.flt = s.flt ∧ u.cal = s.cal ∧ u.gauge = s.gauge ∧ u.mod = s.mod ∧ u.clk = s.clk ∧ u.boot = s.boot := by
  obtain ⟨_, rfl⟩ := onUnit_next.1 h
  simp [State.fecEnd_kept ..]
theorem execPfcPauseEnd_kept {t lp cls : Nat} {s u : State}
    (h : execPfcPauseEnd t lp cls s = .next u) :
    u.pending = s.pending ∧ u.answer = s.answer ∧ u.emits = s.emits ∧ u.fresh = s.fresh ∧ u.links = s.links ∧
    u.shed = s.shed ∧ u.copy = s.copy ∧ u.rings = s.rings ∧ u.str = s.str ∧ u.egr = s.egr ∧ u.alm = s.alm ∧
    u.allots = s.allots ∧ u.irq = s.irq ∧ u.mem = s.mem ∧ u.flt = s.flt ∧ u.cal = s.cal ∧ u.gauge = s.gauge ∧
    u.mod = s.mod ∧ u.clk = s.clk ∧ u.boot = s.boot := by
  obtain ⟨_, rfl⟩ := onUnit_next.1 h
  simp [State.pfcEnd_kept ..]
theorem execFrameArrive_kept {t lp : Nat} {frame : Frame} {s u : State}
    (h : execFrameArrive t lp frame s = .next u) :
    u.pending = s.pending ∧ u.answer = s.answer ∧ u.fresh = s.fresh ∧ u.links = s.links ∧ u.shed = s.shed ∧
    u.copy = s.copy ∧ u.rings = s.rings ∧ u.str = s.str ∧ u.egr = s.egr ∧ u.alm = s.alm ∧ u.allots = s.allots ∧
    u.irq = s.irq ∧ u.mem = s.mem ∧ u.flt = s.flt ∧ u.cal = s.cal ∧ u.gauge = s.gauge ∧ u.mod = s.mod := by
  obtain ⟨_, rfl⟩ := onUnit_next.1 h
  simp [State.ite_kept .., State.arrive_kept ..]
theorem execParseFrame_kept {t pl : Nat} {upset : Upset} {s u : State}
    (h : execParseFrame t pl upset s = .next u) :
    u.pending = s.pending ∧ u.answer = s.answer ∧ u.links = s.links ∧ u.copy = s.copy ∧ u.rings = s.rings ∧
    u.boot = s.boot ∧ u.mem.exchange = s.mem.exchange ∧ u.mem.areas = s.mem.areas := by
  obtain ⟨_, rfl⟩ := onUnit_next.1 h
  simp [State.logReads_kept .., State.serve_kept ..]
theorem execCrossingSend_kept {t die : Nat} {s u : State}
    (h : execCrossingSend t die s = .next u) :
    u.pending = s.pending ∧ u.answer = s.answer ∧ u.fresh = s.fresh ∧ u.links = s.links ∧ u.shed = s.shed ∧
    u.copy = s.copy ∧ u.fwd = s.fwd ∧ u.rings = s.rings ∧ u.str = s.str ∧ u.alm = s.alm ∧ u.mem = s.mem ∧
    u.flt = s.flt ∧ u.cal = s.cal ∧ u.gauge = s.gauge ∧ u.mod = s.mod ∧ u.clk = s.clk ∧ u.boot = s.boot := by
  obtain ⟨_, rfl⟩ := onUnit_next.1 h
  simp [State.crossSend_kept ..]
theorem execCrossingArrive_kept {t die : Nat} {upset : Upset} {s u : State}
    (h : execCrossingArrive t die upset s = .next u) :
    u.pending = s.pending ∧ u.answer = s.answer ∧ u.links = s.links ∧ u.copy = s.copy ∧ u.rings = s.rings ∧
    u.boot = s.boot ∧ u.mem.exchange = s.mem.exchange ∧ u.mem.areas = s.mem.areas := by
  obtain ⟨_, rfl⟩ := onUnit_next.1 h
  simp [State.crossArrive_kept .., State.logReads_kept ..]
theorem execCrossingAck_kept {t chain : Nat} {s u : State}
    (h : execCrossingAck t chain s = .next u) :
    u.pending = s.pending ∧ u.answer = s.answer ∧ u.emits = s.emits ∧ u.fresh = s.fresh ∧ u.links = s.links ∧
    u.shed = s.shed ∧ u.copy = s.copy ∧ u.fwd = s.fwd ∧ u.rings = s.rings ∧ u.str = s.str ∧ u.alm = s.alm ∧
    u.allots = s.allots ∧ u.irq = s.irq ∧ u.mem = s.mem ∧ u.flt = s.flt ∧ u.cal = s.cal ∧ u.gauge = s.gauge ∧
    u.mod = s.mod ∧ u.clk = s.clk ∧ u.boot = s.boot := by
  cases h
  simp [State.dropRef_kept ..]
theorem execAgeScan_kept {t pl : Nat} {s u : State}
    (h : execAgeScan t pl s = .next u) :
    u.pending = s.pending ∧ u.answer = s.answer ∧ u.emits = s.emits ∧ u.fresh = s.fresh ∧ u.links = s.links ∧
    u.shed = s.shed ∧ u.copy = s.copy ∧ u.rings = s.rings ∧ u.str = s.str ∧ u.egr = s.egr ∧ u.alm = s.alm ∧
    u.allots = s.allots ∧ u.irq = s.irq ∧ u.mem = s.mem ∧ u.flt = s.flt ∧ u.cal = s.cal ∧ u.gauge = s.gauge ∧
    u.mod = s.mod ∧ u.clk = s.clk ∧ u.boot = s.boot := by
  obtain ⟨_, rfl⟩ := onUnit_next.1 h
  simp
theorem execParityRewrite_kept {t pl : Nat} {s u : State}
    (h : execParityRewrite t pl s = .next u) :
    u.pending = s.pending ∧ u.answer = s.answer ∧ u.emits = s.emits ∧ u.fresh = s.fresh ∧ u.links = s.links ∧
    u.shed = s.shed ∧ u.copy = s.copy ∧ u.rings = s.rings ∧ u.str = s.str ∧ u.egr = s.egr ∧ u.alm = s.alm ∧
    u.allots = s.allots ∧ u.irq = s.irq ∧ u.mem = s.mem ∧ u.flt = s.flt ∧ u.cal = s.cal ∧ u.gauge = s.gauge ∧
    u.mod = s.mod ∧ u.clk = s.clk ∧ u.boot = s.boot := by
  obtain ⟨_, rfl⟩ := onUnit_next.1 h
  simp [State.rewriteParity_kept ..]
theorem execDeliveryRewrite_kept {t die index : Nat} {s u : State}
    (h : execDeliveryRewrite t die index s = .next u) :
    u.pending = s.pending ∧ u.answer = s.answer ∧ u.emits = s.emits ∧ u.fresh = s.fresh ∧ u.links = s.links ∧
    u.shed = s.shed ∧ u.copy = s.copy ∧ u.rings = s.rings ∧ u.str = s.str ∧ u.egr = s.egr ∧ u.alm = s.alm ∧
    u.allots = s.allots ∧ u.irq = s.irq ∧ u.mem = s.mem ∧ u.flt = s.flt ∧ u.cal = s.cal ∧ u.gauge = s.gauge ∧
    u.mod = s.mod ∧ u.clk = s.clk ∧ u.boot = s.boot := by
  obtain ⟨_, rfl⟩ := onUnit_next.1 h
  simp [State.rewriteDelivery_kept ..]
theorem execFlowWrite_kept {t a : Nat} {rec : List Byte} {s u : State}
    (h : execFlowWrite t a rec s = .next u) :
    u.pending = s.pending := by
  obtain ⟨_, rfl⟩ := onUnit_next.1 h
  simp
theorem execFlowDelete_kept {t a : Nat} {key : List Byte} {s u : State}
    (h : execFlowDelete t a key s = .next u) :
    u.pending = s.pending := by
  obtain ⟨_, rfl⟩ := onUnit_next.1 h
  simp
theorem execFlowRead_kept {t a : Nat} {key : List Byte} {s u : State}
    (h : execFlowRead t a key s = .next u) :
    u.pending = s.pending := by
  obtain ⟨_, rfl⟩ := onUnit_next.1 h
  simp
theorem execDeliveryWrite_kept {t a index : Nat} {entry : DeliveryWord} {s u : State}
    (h : execDeliveryWrite t a index entry s = .next u) :
    u.pending = s.pending := by
  obtain ⟨_, rfl⟩ := onUnit_next.1 h
  simp
theorem execDeliveryRead_kept {t a index : Nat} {s u : State}
    (h : execDeliveryRead t a index s = .next u) :
    u.pending = s.pending := by
  obtain ⟨_, rfl⟩ := onUnit_next.1 h
  simp
theorem execBlockGrant_kept {t a block owner linkFrom : Nat} {s u : State}
    (h : execBlockGrant t a block owner linkFrom s = .next u) :
    u.pending = s.pending := by
  obtain ⟨_, rfl⟩ := onUnit_next.1 h
  simp
theorem execStaticL2_kept {t a vid : Nat} {mac : Mac} {lp : Nat} {remove : Bool} {s u : State}
    (h : execStaticL2 t a vid mac lp remove s = .next u) :
    u.pending = s.pending := by
  obtain ⟨_, rfl⟩ := onUnit_next.1 h
  simp
theorem execMeterSend_kept {t die : Nat} {s u : State}
    (h : execMeterSend t die s = .next u) :
    u.pending = s.pending ∧ u.answer = s.answer ∧ u.emits = s.emits ∧ u.fresh = s.fresh ∧ u.links = s.links ∧
    u.shed = s.shed ∧ u.copy = s.copy ∧ u.fwd = s.fwd ∧ u.rings = s.rings ∧ u.str = s.str ∧ u.egr = s.egr ∧
    u.alm = s.alm ∧ u.allots = s.allots ∧ u.irq = s.irq ∧ u.mem = s.mem ∧ u.flt = s.flt ∧ u.cal = s.cal ∧
    u.mod = s.mod ∧ u.clk = s.clk ∧ u.boot = s.boot := by
  obtain ⟨_, rfl⟩ := onUnit_next.1 h
  simp [State.meterSend_kept ..]
theorem execMeterMissing_kept {t die : Nat} {s u : State}
    (h : execMeterMissing t die s = .next u) :
    u.pending = s.pending ∧ u.answer = s.answer ∧ u.emits = s.emits ∧ u.fresh = s.fresh ∧ u.links = s.links ∧
    u.shed = s.shed ∧ u.copy = s.copy ∧ u.fwd = s.fwd ∧ u.rings = s.rings ∧ u.str = s.str ∧ u.egr = s.egr ∧
    u.alm = s.alm ∧ u.allots = s.allots ∧ u.irq = s.irq ∧ u.mem = s.mem ∧ u.flt = s.flt ∧ u.cal = s.cal ∧
    u.mod = s.mod ∧ u.clk = s.clk ∧ u.boot = s.boot := by
  obtain ⟨_, rfl⟩ := onUnit_next.1 h
  simp [State.meterMissing_kept ..]
theorem execGaugeTime_kept {t : Nat} {s u : State}
    (h : execGaugeTime t s = .next u) :
    u.pending = s.pending ∧ u.answer = s.answer ∧ u.emits = s.emits ∧ u.fresh = s.fresh ∧ u.links = s.links ∧
    u.shed = s.shed ∧ u.copy = s.copy ∧ u.fwd = s.fwd ∧ u.rings = s.rings ∧ u.str = s.str ∧ u.egr = s.egr ∧
    u.alm = s.alm ∧ u.allots = s.allots ∧ u.irq = s.irq ∧ u.mem = s.mem ∧ u.flt = s.flt ∧ u.cal = s.cal ∧
    u.mod = s.mod ∧ u.clk = s.clk ∧ u.boot = s.boot := by
  cases h
  simp [State.gaugeTime_kept ..]
theorem execGaugeTimeFree_kept {t : Nat} {s u : State}
    (h : execGaugeTimeFree t s = .next u) :
    u.pending = s.pending ∧ u.answer = s.answer ∧ u.emits = s.emits ∧ u.fresh = s.fresh ∧ u.links = s.links ∧
    u.shed = s.shed ∧ u.copy = s.copy ∧ u.fwd = s.fwd ∧ u.rings = s.rings ∧ u.str = s.str ∧ u.egr = s.egr ∧
    u.alm = s.alm ∧ u.allots = s.allots ∧ u.irq = s.irq ∧ u.mem = s.mem ∧ u.flt = s.flt ∧ u.cal = s.cal ∧
    u.mod = s.mod ∧ u.clk = s.clk ∧ u.boot = s.boot := by
  cases h
  simp [State.gaugeTimeFree_kept ..]
theorem execGaugeBoundary_kept {t : Nat} {s u : State}
    (h : execGaugeBoundary t s = .next u) :
    u.pending = s.pending ∧ u.answer = s.answer ∧ u.fresh = s.fresh ∧ u.links = s.links ∧ u.shed = s.shed ∧
    u.copy = s.copy ∧ u.fwd = s.fwd ∧ u.rings = s.rings ∧ u.str = s.str ∧ u.alm = s.alm ∧ u.mem = s.mem ∧
    u.flt = s.flt ∧ u.cal = s.cal ∧ u.mod = s.mod ∧ u.clk = s.clk ∧ u.boot = s.boot := by
  cases h
  simp [State.gaugeBoundary_kept ..]
theorem execGaugeClose_kept {t : Nat} {s u : State}
    (h : execGaugeClose t s = .next u) :
    u.pending = s.pending ∧ u.answer = s.answer ∧ u.fresh = s.fresh ∧ u.links = s.links ∧ u.shed = s.shed ∧
    u.copy = s.copy ∧ u.fwd = s.fwd ∧ u.rings = s.rings ∧ u.str = s.str ∧ u.alm = s.alm ∧ u.mem = s.mem ∧
    u.flt = s.flt ∧ u.cal = s.cal ∧ u.mod = s.mod ∧ u.clk = s.clk ∧ u.boot = s.boot := by
  cases h
  simp [State.gaugeClose_kept ..]
theorem execGaugeRecordSend_kept {t : Nat} {s u : State}
    (h : execGaugeRecordSend t s = .next u) :
    u.pending = s.pending ∧ u.answer = s.answer ∧ u.fresh = s.fresh ∧ u.links = s.links ∧ u.shed = s.shed ∧
    u.copy = s.copy ∧ u.fwd = s.fwd ∧ u.rings = s.rings ∧ u.str = s.str ∧ u.egr = s.egr ∧ u.alm = s.alm ∧
    u.allots = s.allots ∧ u.irq = s.irq ∧ u.mem = s.mem ∧ u.flt = s.flt ∧ u.cal = s.cal ∧ u.mod = s.mod ∧
    u.clk = s.clk ∧ u.boot = s.boot := by
  cases h
  simp [State.gaugeSend_kept ..]
theorem execGaugeReplay_kept {t : Nat} {s u : State}
    (h : execGaugeReplay t s = .next u) :
    u.pending = s.pending ∧ u.answer = s.answer ∧ u.fresh = s.fresh ∧ u.links = s.links ∧ u.shed = s.shed ∧
    u.copy = s.copy ∧ u.fwd = s.fwd ∧ u.rings = s.rings ∧ u.str = s.str ∧ u.egr = s.egr ∧ u.alm = s.alm ∧
    u.allots = s.allots ∧ u.irq = s.irq ∧ u.mem = s.mem ∧ u.flt = s.flt ∧ u.cal = s.cal ∧ u.mod = s.mod ∧
    u.clk = s.clk ∧ u.boot = s.boot := by
  cases h
  simp [State.gaugeReplay_kept ..]
theorem execSealOpen_kept {t : Nat} {s u : State}
    (h : execSealOpen t s = .next u) :
    u.pending = s.pending ∧ u.answer = s.answer ∧ u.links = s.links ∧ u.copy = s.copy ∧ u.rings = s.rings ∧
    u.boot = s.boot ∧ u.mem.exchange = s.mem.exchange ∧ u.mem.areas = s.mem.areas := by
  cases h
  simp [State.sealOpens_kept ..]
theorem execRgKeepReturn_kept {t : Nat} {s u : State}
    (h : execRgKeepReturn t s = .next u) :
    u.pending = s.pending ∧ u.answer = s.answer ∧ u.links = s.links ∧ u.copy = s.copy ∧ u.rings = s.rings ∧
    u.boot = s.boot ∧ u.mem.exchange = s.mem.exchange ∧ u.mem.areas = s.mem.areas := by
  cases h
  simp [State.gaugeReturns_kept ..]
theorem execRgKeepLoss_kept {t : Nat} {s u : State}
    (h : execRgKeepLoss t s = .next u) :
    u.pending = s.pending ∧ u.answer = s.answer ∧ u.emits = s.emits ∧ u.fresh = s.fresh ∧ u.links = s.links ∧
    u.shed = s.shed ∧ u.copy = s.copy ∧ u.fwd = s.fwd ∧ u.rings = s.rings ∧ u.str = s.str ∧ u.egr = s.egr ∧
    u.alm = s.alm ∧ u.allots = s.allots ∧ u.irq = s.irq ∧ u.mem = s.mem ∧ u.flt = s.flt ∧ u.cal = s.cal ∧
    u.mod = s.mod ∧ u.clk = s.clk ∧ u.boot = s.boot := by
  cases h
  simp [State.gaugeLost_kept ..]
theorem execInterval_kept {t a val : Nat} {s u : State}
    (h : execInterval t a val s = .next u) :
    u.pending = s.pending := by
  obtain ⟨_, rfl⟩ := onUnit_next.1 h
  simp
theorem execTariff_kept {t a : Nat} {val : List Byte} {s u : State}
    (h : execTariff t a val s = .next u) :
    u.pending = s.pending := by
  obtain ⟨_, rfl⟩ := onUnit_next.1 h
  simp
theorem execRecord_kept {t a seq : Nat} {s u : State}
    (h : execRecord t a seq s = .next u) :
    u.pending = s.pending := by
  obtain ⟨_, rfl⟩ := onUnit_next.1 h
  simp
theorem execScrub_kept {t stack address outcome : Nat} {syndrome : BitVec 32} {s u : State}
    (h : execScrub t stack address outcome syndrome s = .next u) :
    u.pending = s.pending ∧ u.answer = s.answer ∧ u.links = s.links ∧ u.copy = s.copy ∧ u.rings = s.rings ∧
    u.boot = s.boot ∧ u.mem.exchange = s.mem.exchange ∧ u.mem.areas = s.mem.areas := by
  obtain ⟨_, rfl⟩ := onUnit_next.1 h
  simp [State.scrubBurst_kept ..]
theorem execLogClear_kept {t a stack : Nat} {s u : State}
    (h : execLogClear t a stack s = .next u) :
    u.pending = s.pending := by
  obtain ⟨_, rfl⟩ := onUnit_next.1 h
  simp
theorem execOpPoint_kept {t a stack val : Nat} {s u : State}
    (h : execOpPoint t a stack val s = .next u) :
    u.pending = s.pending := by
  obtain ⟨_, rfl⟩ := onUnit_next.1 h
  simp
theorem execPllLock_kept {t pll : Nat} {s u : State}
    (h : execPllLock t pll s = .next u) :
    u.pending = s.pending ∧ u.answer = s.answer ∧ u.emits = s.emits ∧ u.fresh = s.fresh ∧ u.links = s.links ∧
    u.shed = s.shed ∧ u.copy = s.copy ∧ u.fwd = s.fwd ∧ u.rings = s.rings ∧ u.str = s.str ∧ u.egr = s.egr ∧
    u.alm = s.alm ∧ u.allots = s.allots ∧ u.irq = s.irq ∧ u.mem = s.mem ∧ u.flt = s.flt ∧ u.cal = s.cal ∧
    u.gauge = s.gauge ∧ u.mod = s.mod ∧ u.boot = s.boot := by
  obtain ⟨_, rfl⟩ := onUnit_next.1 h
  simp [State.pllLocked_kept ..]
theorem execOpChangeStart_kept {t stack : Nat} {s u : State}
    (h : execOpChangeStart t stack s = .next u) :
    u.pending = s.pending ∧ u.answer = s.answer ∧ u.fresh = s.fresh ∧ u.links = s.links ∧ u.shed = s.shed ∧
    u.copy = s.copy ∧ u.fwd = s.fwd ∧ u.rings = s.rings ∧ u.egr = s.egr ∧ u.alm = s.alm ∧ u.flt = s.flt ∧
    u.cal = s.cal ∧ u.gauge = s.gauge ∧ u.mod = s.mod ∧ u.clk = s.clk ∧ u.boot = s.boot ∧
    u.mem.exchange = s.mem.exchange ∧ u.mem.areas = s.mem.areas := by
  obtain ⟨_, rfl⟩ := onUnit_next.1 h
  simp [State.opStart_kept ..]
theorem execStackHold_kept {t stack : Nat} {s u : State}
    (h : execStackHold t stack s = .next u) :
    u.pending = s.pending ∧ u.answer = s.answer ∧ u.fresh = s.fresh ∧ u.links = s.links ∧ u.shed = s.shed ∧
    u.copy = s.copy ∧ u.fwd = s.fwd ∧ u.rings = s.rings ∧ u.egr = s.egr ∧ u.alm = s.alm ∧ u.flt = s.flt ∧
    u.cal = s.cal ∧ u.gauge = s.gauge ∧ u.mod = s.mod ∧ u.clk = s.clk ∧ u.boot = s.boot ∧
    u.mem.exchange = s.mem.exchange ∧ u.mem.areas = s.mem.areas := by
  obtain ⟨_, rfl⟩ := onUnit_next.1 h
  simp [State.opHold_kept ..]
theorem execOpChangeDone_kept {t stack : Nat} {s u : State}
    (h : execOpChangeDone t stack s = .next u) :
    u.pending = s.pending ∧ u.answer = s.answer ∧ u.emits = s.emits ∧ u.fresh = s.fresh ∧ u.links = s.links ∧
    u.shed = s.shed ∧ u.copy = s.copy ∧ u.fwd = s.fwd ∧ u.rings = s.rings ∧ u.str = s.str ∧ u.egr = s.egr ∧
    u.alm = s.alm ∧ u.allots = s.allots ∧ u.irq = s.irq ∧ u.flt = s.flt ∧ u.cal = s.cal ∧ u.gauge = s.gauge ∧
    u.mod = s.mod ∧ u.boot = s.boot ∧ u.mem.exchange = s.mem.exchange ∧ u.mem.areas = s.mem.areas := by
  obtain ⟨_, rfl⟩ := onUnit_next.1 h
  simp [State.opDone_kept ..]
theorem execOpChangeTimeout_kept {t stack : Nat} {s u : State}
    (h : execOpChangeTimeout t stack s = .next u) :
    u.pending = s.pending ∧ u.answer = s.answer ∧ u.links = s.links ∧ u.copy = s.copy ∧ u.rings = s.rings ∧
    u.boot = s.boot ∧ u.mem.exchange = s.mem.exchange ∧ u.mem.areas = s.mem.areas := by
  obtain ⟨_, rfl⟩ := onUnit_next.1 h
  simp [State.opTimeout_kept ..]
theorem execStart_kept {t a ch : Nat} {s u : State}
    (h : execStart t a ch s = .next u) :
    u.pending = s.pending ∧ u.answer = s.answer ∧ u.links = s.links ∧ u.shed = s.shed ∧ u.copy = s.copy ∧
    u.fwd = s.fwd ∧ u.rings = s.rings ∧ u.str = s.str ∧ u.egr = s.egr ∧ u.alm = s.alm ∧ u.flt = s.flt ∧
    u.cal = s.cal ∧ u.gauge = s.gauge ∧ u.mod = s.mod ∧ u.clk = s.clk ∧ u.boot = s.boot := by
  obtain ⟨_, rfl⟩ := onUnit_next.1 h
  simp only [State.onChannel]
  (repeat' split) <;> simp [State.dmaStart_kept ..]
theorem execDisable_kept {t a ch : Nat} {s u : State}
    (h : execDisable t a ch s = .next u) :
    u.pending = s.pending ∧ u.answer = s.answer ∧ u.emits = s.emits ∧ u.links = s.links ∧ u.shed = s.shed ∧
    u.copy = s.copy ∧ u.fwd = s.fwd ∧ u.rings = s.rings ∧ u.str = s.str ∧ u.egr = s.egr ∧ u.alm = s.alm ∧
    u.allots = s.allots ∧ u.irq = s.irq ∧ u.flt = s.flt ∧ u.cal = s.cal ∧ u.gauge = s.gauge ∧ u.mod = s.mod ∧
    u.clk = s.clk ∧ u.boot = s.boot := by
  obtain ⟨_, rfl⟩ := onUnit_next.1 h
  simp only [State.onChannel]
  (repeat' split) <;> simp [State.dmaDisable_kept ..]
theorem execDisableClear_kept {t a ch : Nat} {s u : State}
    (h : execDisableClear t a ch s = .next u) :
    u.pending = s.pending ∧ u.answer = s.answer ∧ u.emits = s.emits ∧ u.fresh = s.fresh ∧ u.links = s.links ∧
    u.shed = s.shed ∧ u.copy = s.copy ∧ u.fwd = s.fwd ∧ u.rings = s.rings ∧ u.str = s.str ∧ u.egr = s.egr ∧
    u.alm = s.alm ∧ u.allots = s.allots ∧ u.irq = s.irq ∧ u.flt = s.flt ∧ u.cal = s.cal ∧ u.gauge = s.gauge ∧
    u.mod = s.mod ∧ u.clk = s.clk ∧ u.boot = s.boot ∧ u.mem.exchange = s.mem.exchange ∧
    u.mem.areas = s.mem.areas := by
  obtain ⟨_, rfl⟩ := onUnit_next.1 h
  simp only [State.onChannel]
  (repeat' split) <;> simp [State.dmaClear_kept ..]
theorem execDmaRequestDone_kept {t ch offset : Nat} {data : List Byte} {s u : State}
    (h : execDmaRequestDone t ch offset data s = .next u) :
    u.pending = s.pending ∧ u.answer = s.answer ∧ u.links = s.links ∧ u.shed = s.shed ∧ u.copy = s.copy ∧
    u.fwd = s.fwd ∧ u.rings = s.rings ∧ u.str = s.str ∧ u.egr = s.egr ∧ u.alm = s.alm ∧ u.flt = s.flt ∧
    u.cal = s.cal ∧ u.gauge = s.gauge ∧ u.mod = s.mod ∧ u.clk = s.clk ∧ u.boot = s.boot := by
  obtain ⟨_, rfl⟩ := onUnit_next.1 h
  simp [State.dmaArrive_kept ..]
theorem execDmaRequestFail_kept {t ch offset cause : Nat} {s u : State}
    (h : execDmaRequestFail t ch offset cause s = .next u) :
    u.pending = s.pending ∧ u.answer = s.answer ∧ u.links = s.links ∧ u.copy = s.copy ∧ u.rings = s.rings ∧
    u.boot = s.boot := by
  obtain ⟨_, rfl⟩ := onUnit_next.1 h
  simp [State.dmaFail_kept ..]
theorem execPowerUp_kept {t : Nat} {tempC : Int} {split : BitVec 4} {s u : State}
    (h : execPowerUp t tempC split s = .next u) :
    u.pending = s.pending ∧ u.answer = s.answer := by
  cases h
  simp [State.powersUp_kept ..]
theorem execMemoryTrainingDone_kept {t : Nat} {failed : List Nat} {s u : State}
    (h : execMemoryTrainingDone t failed s = .next u) :
    u.pending = s.pending ∧ u.answer = s.answer ∧ u.links = s.links ∧ u.copy = s.copy ∧ u.rings = s.rings ∧
    u.mem.exchange = s.mem.exchange ∧ u.mem.areas = s.mem.areas := by
  cases h
  simp [State.memoryTrained_kept ..]
theorem execTrimsRestored_kept {t : Nat} {s u : State}
    (h : execTrimsRestored t s = .next u) :
    u.pending = s.pending ∧ u.answer = s.answer ∧ u.fresh = s.fresh ∧ u.links = s.links ∧ u.shed = s.shed ∧
    u.copy = s.copy ∧ u.rings = s.rings ∧ u.str = s.str ∧ u.egr = s.egr ∧ u.alm = s.alm ∧ u.mem = s.mem ∧
    u.flt = s.flt ∧ u.gauge = s.gauge ∧ u.mod = s.mod := by
  cases h
  simp [State.trimsBack_kept ..]
theorem execPipelineRelease_kept {t : Nat} {s u : State}
    (h : execPipelineRelease t s = .next u) :
    u.pending = s.pending ∧ u.answer = s.answer ∧ u.fresh = s.fresh ∧ u.links = s.links ∧ u.shed = s.shed ∧
    u.copy = s.copy ∧ u.rings = s.rings ∧ u.str = s.str ∧ u.alm = s.alm ∧ u.mem = s.mem ∧ u.flt = s.flt ∧
    u.cal = s.cal ∧ u.gauge = s.gauge ∧ u.mod = s.mod := by
  cases h
  simp [State.pipelinesUp_kept ..]
theorem execAlmanacLive_kept {t : Nat} {s u : State}
    (h : execAlmanacLive t s = .next u) :
    u.pending = s.pending ∧ u.answer = s.answer ∧ u.emits = s.emits ∧ u.fresh = s.fresh ∧ u.links = s.links ∧
    u.shed = s.shed ∧ u.copy = s.copy ∧ u.fwd = s.fwd ∧ u.rings = s.rings ∧ u.str = s.str ∧ u.egr = s.egr ∧
    u.allots = s.allots ∧ u.irq = s.irq ∧ u.mem = s.mem ∧ u.flt = s.flt ∧ u.cal = s.cal ∧ u.gauge = s.gauge ∧
    u.mod = s.mod ∧ u.clk = s.clk := by
  cases h
  simp [State.almanacUp_kept ..]
theorem execFullReadiness_kept {t : Nat} {s u : State}
    (h : execFullReadiness t s = .next u) :
    u.pending = s.pending ∧ u.answer = s.answer ∧ u.fresh = s.fresh ∧ u.links = s.links ∧ u.shed = s.shed ∧
    u.copy = s.copy ∧ u.fwd = s.fwd ∧ u.rings = s.rings ∧ u.egr = s.egr ∧ u.mem = s.mem ∧ u.cal = s.cal ∧
    u.gauge = s.gauge ∧ u.mod = s.mod := by
  cases h
  simp [State.fullyReady_kept ..]
theorem execPerstRelease_kept {t link : Nat} {s u : State}
    (h : execPerstRelease t link s = .next u) :
    u.pending = s.pending ∧ u.answer = s.answer ∧ u.emits = s.emits ∧ u.fresh = s.fresh ∧ u.links = s.links ∧
    u.shed = s.shed ∧ u.copy = s.copy ∧ u.fwd = s.fwd ∧ u.rings = s.rings ∧ u.str = s.str ∧ u.egr = s.egr ∧
    u.alm = s.alm ∧ u.allots = s.allots ∧ u.irq = s.irq ∧ u.mem = s.mem ∧ u.flt = s.flt ∧ u.cal = s.cal ∧
    u.gauge = s.gauge ∧ u.mod = s.mod ∧ u.clk = s.clk := by
  obtain ⟨_, rfl⟩ := onUnit_next.1 h
  simp [State.perstReleased_kept ..]
theorem execDorsenRuns_kept {t : Nat} {newerSigned : Bool} {s u : State}
    (h : execDorsenRuns t newerSigned s = .next u) :
    u.pending = s.pending ∧ u.answer = s.answer ∧ u.emits = s.emits ∧ u.fresh = s.fresh ∧ u.links = s.links ∧
    u.copy = s.copy ∧ u.fwd = s.fwd ∧ u.rings = s.rings ∧ u.str = s.str ∧ u.egr = s.egr ∧ u.alm = s.alm ∧
    u.allots = s.allots ∧ u.irq = s.irq ∧ u.mem = s.mem ∧ u.flt = s.flt ∧ u.cal = s.cal ∧ u.gauge = s.gauge ∧
    u.mod = s.mod ∧ u.clk = s.clk := by
  cases h
  simp [State.dorsenUp_kept ..]
theorem execConfigurationRequest_kept {t link : Nat} {s u : State}
    (h : execConfigurationRequest t link s = .next u) :
    u.pending = s.pending ∧ u.answer = s.answer ∧ u.fresh = s.fresh ∧ u.links = s.links ∧ u.shed = s.shed ∧
    u.copy = s.copy ∧ u.fwd = s.fwd ∧ u.rings = s.rings ∧ u.str = s.str ∧ u.egr = s.egr ∧ u.alm = s.alm ∧
    u.allots = s.allots ∧ u.irq = s.irq ∧ u.mem = s.mem ∧ u.flt = s.flt ∧ u.cal = s.cal ∧ u.gauge = s.gauge ∧
    u.mod = s.mod ∧ u.clk = s.clk ∧ u.boot = s.boot := by
  obtain ⟨_, rfl⟩ := onUnit_next.1 h
  simp [State.configRequest_kept ..]
theorem execConsume_kept {t a ring : Nat} {s u : State}
    (h : execConsume t a ring s = .next u) :
    u.pending = s.pending ∧ u.answer = s.answer ∧ u.fresh = s.fresh ∧ u.links = s.links ∧ u.shed = s.shed ∧
    u.copy = s.copy ∧ u.fwd = s.fwd ∧ u.str = s.str ∧ u.egr = s.egr ∧ u.alm = s.alm ∧ u.mem = s.mem ∧ u.flt = s.flt ∧
    u.cal = s.cal ∧ u.gauge = s.gauge ∧ u.mod = s.mod ∧ u.clk = s.clk ∧ u.boot = s.boot := by
  obtain ⟨_, rfl⟩ := onUnit_next.1 h
  simp only [State.onRing]
  (repeat' split) <;> simp [State.ringConsume_kept ..]
theorem execFlush_kept {t a ring : Nat} {s u : State}
    (h : execFlush t a ring s = .next u) :
    u.pending = s.pending ∧ u.answer = s.answer ∧ u.emits = s.emits ∧ u.fresh = s.fresh ∧ u.links = s.links ∧
    u.shed = s.shed ∧ u.copy = s.copy ∧ u.fwd = s.fwd ∧ u.str = s.str ∧ u.egr = s.egr ∧ u.alm = s.alm ∧
    u.allots = s.allots ∧ u.irq = s.irq ∧ u.mem = s.mem ∧ u.flt = s.flt ∧ u.cal = s.cal ∧ u.gauge = s.gauge ∧
    u.mod = s.mod ∧ u.clk = s.clk ∧ u.boot = s.boot := by
  obtain ⟨_, rfl⟩ := onUnit_next.1 h
  simp only [State.onRing]
  (repeat' split) <;> simp [State.ringFlush_kept ..]
theorem execStatusReset_kept {t a ring : Nat} {s u : State}
    (h : execStatusReset t a ring s = .next u) :
    u.pending = s.pending ∧ u.answer = s.answer ∧ u.emits = s.emits ∧ u.fresh = s.fresh ∧ u.links = s.links ∧
    u.shed = s.shed ∧ u.copy = s.copy ∧ u.fwd = s.fwd ∧ u.str = s.str ∧ u.egr = s.egr ∧ u.alm = s.alm ∧
    u.allots = s.allots ∧ u.irq = s.irq ∧ u.mem = s.mem ∧ u.flt = s.flt ∧ u.cal = s.cal ∧ u.gauge = s.gauge ∧
    u.mod = s.mod ∧ u.clk = s.clk ∧ u.boot = s.boot := by
  obtain ⟨_, rfl⟩ := onUnit_next.1 h
  simp only [State.onRing]
  (repeat' split) <;> simp [State.ringStatusReset_kept ..]
theorem execEntryRead_kept {t a ring : Nat} {s u : State}
    (h : execEntryRead t a ring s = .next u) :
    u.pending = s.pending ∧ u.fresh = s.fresh ∧ u.links = s.links ∧ u.shed = s.shed ∧ u.copy = s.copy ∧
    u.fwd = s.fwd ∧ u.str = s.str ∧ u.egr = s.egr ∧ u.alm = s.alm ∧ u.mem = s.mem ∧ u.flt = s.flt ∧ u.cal = s.cal ∧
    u.gauge = s.gauge ∧ u.mod = s.mod ∧ u.clk = s.clk ∧ u.boot = s.boot := by
  obtain ⟨_, rfl⟩ := onUnit_next.1 h
  simp only [State.onRing]
  (repeat' split) <;> simp [State.ringRead_kept ..]
theorem execAdmit_kept {t a fam slot val : Nat} {s u : State}
    (h : execAdmit t a fam slot val s = .next u) :
    u.pending = s.pending := by
  obtain ⟨_, rfl⟩ := onUnit_next.1 h
  simp
theorem execStreamAdmitted_kept {t slot : Nat} {s u : State}
    (h : execStreamAdmitted t slot s = .next u) :
    u.pending = s.pending ∧ u.answer = s.answer ∧ u.fresh = s.fresh ∧ u.links = s.links ∧ u.shed = s.shed ∧
    u.copy = s.copy ∧ u.fwd = s.fwd ∧ u.rings = s.rings ∧ u.egr = s.egr ∧ u.alm = s.alm ∧ u.mem = s.mem ∧
    u.flt = s.flt ∧ u.cal = s.cal ∧ u.gauge = s.gauge ∧ u.mod = s.mod ∧ u.clk = s.clk ∧ u.boot = s.boot := by
  obtain ⟨_, rfl⟩ := onUnit_next.1 h
  simp [State.streamAdmitted_kept ..]
theorem execPeriodChange_kept {t group : Nat} {s u : State}
    (h : execPeriodChange t group s = .next u) :
    u.pending = s.pending ∧ u.answer = s.answer ∧ u.emits = s.emits ∧ u.fresh = s.fresh ∧ u.links = s.links ∧
    u.shed = s.shed ∧ u.copy = s.copy ∧ u.fwd = s.fwd ∧ u.rings = s.rings ∧ u.egr = s.egr ∧ u.allots = s.allots ∧
    u.irq = s.irq ∧ u.mem = s.mem ∧ u.flt = s.flt ∧ u.cal = s.cal ∧ u.gauge = s.gauge ∧ u.mod = s.mod ∧
    u.clk = s.clk ∧ u.boot = s.boot := by
  obtain ⟨_, rfl⟩ := onUnit_next.1 h
  simp [State.periodChange_kept ..]
theorem execSlotGrant_kept {t a allot first count : Nat} {s u : State}
    (h : execSlotGrant t a allot first count s = .next u) :
    u.pending = s.pending := by
  obtain ⟨_, rfl⟩ := onUnit_next.1 h
  simp
theorem execFeedInRange_kept {t feed : Nat} {s u : State}
    (h : execFeedInRange t feed s = .next u) :
    u.pending = s.pending ∧ u.answer = s.answer ∧ u.fresh = s.fresh ∧ u.links = s.links ∧ u.shed = s.shed ∧
    u.copy = s.copy ∧ u.fwd = s.fwd ∧ u.rings = s.rings ∧ u.str = s.str ∧ u.egr = s.egr ∧ u.alm = s.alm ∧
    u.mem = s.mem ∧ u.cal = s.cal ∧ u.gauge = s.gauge ∧ u.clk = s.clk ∧ u.boot = s.boot := by
  obtain ⟨_, rfl⟩ := onUnit_next.1 h
  simp [State.feedIn_kept ..]
theorem execFeedOutOfRange_kept {t feed : Nat} {s u : State}
    (h : execFeedOutOfRange t feed s = .next u) :
    u.pending = s.pending ∧ u.answer = s.answer ∧ u.links = s.links ∧ u.copy = s.copy ∧ u.rings = s.rings ∧
    u.boot = s.boot ∧ u.mem.exchange = s.mem.exchange ∧ u.mem.areas = s.mem.areas := by
  obtain ⟨_, rfl⟩ := onUnit_next.1 h
  simp [State.feedOut_kept ..]
theorem execSwitchback_kept {t : Nat} {s u : State}
    (h : execSwitchback t s = .next u) :
    u.pending = s.pending ∧ u.answer = s.answer ∧ u.fresh = s.fresh ∧ u.links = s.links ∧ u.shed = s.shed ∧
    u.copy = s.copy ∧ u.fwd = s.fwd ∧ u.rings = s.rings ∧ u.str = s.str ∧ u.egr = s.egr ∧ u.alm = s.alm ∧
    u.mem = s.mem ∧ u.flt = s.flt ∧ u.cal = s.cal ∧ u.gauge = s.gauge ∧ u.clk = s.clk ∧ u.boot = s.boot := by
  cases h
  simp [State.switchback_kept ..]
theorem execFeedsLost_kept {t : Nat} {s u : State}
    (h : execFeedsLost t s = .next u) :
    u.pending = s.pending ∧ u.answer = s.answer ∧ u.fresh = s.fresh ∧ u.links = s.links ∧ u.copy = s.copy ∧
    u.fwd = s.fwd ∧ u.rings = s.rings ∧ u.str = s.str ∧ u.egr = s.egr ∧ u.mem = s.mem ∧ u.flt = s.flt ∧
    u.cal = s.cal ∧ u.boot = s.boot := by
  cases h
  simp [State.feedsLost_kept ..]
theorem execMainFeed_kept {t a val : Nat} {s u : State}
    (h : execMainFeed t a val s = .next u) :
    u.pending = s.pending := by
  obtain ⟨_, rfl⟩ := onUnit_next.1 h
  simp
theorem execPhaseFail_kept {t phase : Nat} {s u : State}
    (h : execPhaseFail t phase s = .next u) :
    u.pending = s.pending ∧ u.answer = s.answer ∧ u.links = s.links ∧ u.copy = s.copy ∧ u.rings = s.rings ∧
    u.boot = s.boot ∧ u.mem.exchange = s.mem.exchange ∧ u.mem.areas = s.mem.areas := by
  obtain ⟨_, rfl⟩ := onUnit_next.1 h
  simp [State.phaseFails_kept ..]
theorem execKeepLoss_kept {t : Nat} {s u : State}
    (h : execKeepLoss t s = .next u) :
    u.pending = s.pending ∧ u.answer = s.answer ∧ u.emits = s.emits ∧ u.fresh = s.fresh ∧ u.links = s.links ∧
    u.shed = s.shed ∧ u.copy = s.copy ∧ u.fwd = s.fwd ∧ u.rings = s.rings ∧ u.str = s.str ∧ u.egr = s.egr ∧
    u.alm = s.alm ∧ u.allots = s.allots ∧ u.irq = s.irq ∧ u.mem = s.mem ∧ u.flt = s.flt ∧ u.cal = s.cal ∧
    u.gauge = s.gauge ∧ u.clk = s.clk ∧ u.boot = s.boot := by
  cases h
  simp [State.keepLoss_kept ..]
theorem execTempWarnCross_kept {t : Nat} {above : Bool} {s u : State}
    (h : execTempWarnCross t above s = .next u) :
    u.pending = s.pending ∧ u.answer = s.answer ∧ u.fresh = s.fresh ∧ u.links = s.links ∧ u.shed = s.shed ∧
    u.copy = s.copy ∧ u.fwd = s.fwd ∧ u.rings = s.rings ∧ u.str = s.str ∧ u.egr = s.egr ∧ u.alm = s.alm ∧
    u.mem = s.mem ∧ u.flt = s.flt ∧ u.cal = s.cal ∧ u.gauge = s.gauge ∧ u.clk = s.clk ∧ u.boot = s.boot := by
  cases h
  simp [State.tempCross_kept ..]
theorem execThermalTrip_kept {t : Nat} {s u : State}
    (h : execThermalTrip t s = .next u) :
    u.pending = s.pending ∧ u.answer = s.answer ∧ u.fresh = s.fresh ∧ u.links = s.links ∧ u.copy = s.copy ∧
    u.fwd = s.fwd ∧ u.rings = s.rings ∧ u.str = s.str ∧ u.egr = s.egr ∧ u.mem = s.mem ∧ u.flt = s.flt ∧
    u.cal = s.cal ∧ u.boot = s.boot := by
  cases h
  simp [State.trip_kept ..]
theorem execLifeHour_kept {t : Nat} {hottest : Int} {s u : State}
    (h : execLifeHour t hottest s = .next u) :
    u.pending = s.pending ∧ u.answer = s.answer ∧ u.emits = s.emits ∧ u.fresh = s.fresh ∧ u.links = s.links ∧
    u.shed = s.shed ∧ u.copy = s.copy ∧ u.fwd = s.fwd ∧ u.rings = s.rings ∧ u.str = s.str ∧ u.egr = s.egr ∧
    u.alm = s.alm ∧ u.allots = s.allots ∧ u.irq = s.irq ∧ u.mem = s.mem ∧ u.flt = s.flt ∧ u.cal = s.cal ∧
    u.gauge = s.gauge ∧ u.clk = s.clk ∧ u.boot = s.boot := by
  cases h
  simp [State.lifeHour_kept ..]
theorem execGpiChange_kept {t gpi : Nat} {level : Bool} {s u : State}
    (h : execGpiChange t gpi level s = .next u) :
    u.pending = s.pending ∧ u.answer = s.answer ∧ u.fresh = s.fresh ∧ u.links = s.links ∧ u.shed = s.shed ∧
    u.copy = s.copy ∧ u.fwd = s.fwd ∧ u.egr = s.egr ∧ u.alm = s.alm ∧ u.mem = s.mem ∧ u.flt = s.flt ∧ u.cal = s.cal ∧
    u.gauge = s.gauge ∧ u.clk = s.clk ∧ u.boot = s.boot := by
  obtain ⟨_, rfl⟩ := onUnit_next.1 h
  simp [State.gpiChanged_kept ..]
theorem execSet_kept {t a gpo : Nat} {level : Bool} {applyAt : Nat} {s u : State}
    (h : execSet t a gpo level applyAt s = .next u) :
    u.pending = s.pending := by
  obtain ⟨_, rfl⟩ := onUnit_next.1 h
  simp
theorem execGpoApply_kept {t gpo : Nat} {s u : State}
    (h : execGpoApply t gpo s = .next u) :
    u.pending = s.pending ∧ u.answer = s.answer ∧ u.fresh = s.fresh ∧ u.links = s.links ∧ u.shed = s.shed ∧
    u.copy = s.copy ∧ u.fwd = s.fwd ∧ u.rings = s.rings ∧ u.str = s.str ∧ u.egr = s.egr ∧ u.alm = s.alm ∧
    u.allots = s.allots ∧ u.irq = s.irq ∧ u.mem = s.mem ∧ u.flt = s.flt ∧ u.cal = s.cal ∧ u.gauge = s.gauge ∧
    u.clk = s.clk ∧ u.boot = s.boot := by
  obtain ⟨_, rfl⟩ := onUnit_next.1 h
  simp [State.gpoDue_kept ..]
theorem execGpoFailsafe_kept {t : Nat} {s u : State}
    (h : execGpoFailsafe t s = .next u) :
    u.pending = s.pending ∧ u.answer = s.answer ∧ u.emits = s.emits ∧ u.fresh = s.fresh ∧ u.links = s.links ∧
    u.shed = s.shed ∧ u.copy = s.copy ∧ u.fwd = s.fwd ∧ u.rings = s.rings ∧ u.str = s.str ∧ u.egr = s.egr ∧
    u.alm = s.alm ∧ u.allots = s.allots ∧ u.irq = s.irq ∧ u.mem = s.mem ∧ u.flt = s.flt ∧ u.cal = s.cal ∧
    u.gauge = s.gauge ∧ u.clk = s.clk ∧ u.boot = s.boot := by
  cases h
  simp [State.gpoFailsafe_kept ..]
theorem execTimingEdge_kept {t count : Nat} {s u : State}
    (h : execTimingEdge t count s = .next u) :
    u.pending = s.pending ∧ u.answer = s.answer ∧ u.links = s.links ∧ u.copy = s.copy ∧ u.rings = s.rings ∧
    u.boot = s.boot ∧ u.mem.exchange = s.mem.exchange ∧ u.mem.areas = s.mem.areas := by
  cases h
  simp [State.timingEdge_kept ..]
theorem execRefInputLost_kept {t : Nat} {pps : Bool} {s u : State}
    (h : execRefInputLost t pps s = .next u) :
    u.pending = s.pending ∧ u.answer = s.answer ∧ u.links = s.links ∧ u.copy = s.copy ∧ u.rings = s.rings ∧
    u.boot = s.boot ∧ u.mem.exchange = s.mem.exchange ∧ u.mem.areas = s.mem.areas := by
  cases h
  simp [State.refInputLost_kept ..]
theorem execBarrierMessageError_kept {t : Nat} {s u : State}
    (h : execBarrierMessageError t s = .next u) :
    u.pending = s.pending ∧ u.answer = s.answer ∧ u.links = s.links ∧ u.copy = s.copy ∧ u.rings = s.rings ∧
    u.boot = s.boot ∧ u.mem.exchange = s.mem.exchange ∧ u.mem.areas = s.mem.areas := by
  cases h
  simp [State.barrierError_kept ..]
theorem execHedgeVLoss_kept {t : Nat} {s u : State}
    (h : execHedgeVLoss t s = .next u) :
    u.pending = s.pending ∧ u.answer = s.answer ∧ u.fresh = s.fresh ∧ u.links = s.links ∧ u.shed = s.shed ∧
    u.copy = s.copy ∧ u.fwd = s.fwd ∧ u.rings = s.rings ∧ u.str = s.str ∧ u.egr = s.egr ∧ u.alm = s.alm ∧
    u.mem = s.mem ∧ u.cal = s.cal ∧ u.gauge = s.gauge ∧ u.boot = s.boot := by
  cases h
  simp [State.hedgeLoss_kept ..]
theorem execSieveCopyArrive_kept {t die : Nat} {copy : UnitCopy} {s u : State}
    (h : execSieveCopyArrive t die copy s = .next u) :
    u.pending = s.pending ∧ u.answer = s.answer ∧ u.shed = s.shed ∧ u.copy = s.copy ∧ u.rings = s.rings ∧
    u.alm = s.alm ∧ u.mem = s.mem ∧ u.cal = s.cal ∧ u.mod = s.mod ∧ u.clk = s.clk ∧ u.boot = s.boot := by
  obtain ⟨_, rfl⟩ := onUnit_next.1 h
  simp [State.ite_kept .., State.copyComes_kept ..]
theorem execSieveWindowClose_kept {t die slot picture row tile : Nat} {s u : State}
    (h : execSieveWindowClose t die slot picture row tile s = .next u) :
    u.pending = s.pending ∧ u.answer = s.answer ∧ u.links = s.links ∧ u.shed = s.shed ∧ u.copy = s.copy ∧
    u.rings = s.rings ∧ u.alm = s.alm ∧ u.mem = s.mem ∧ u.flt = s.flt ∧ u.cal = s.cal ∧ u.mod = s.mod ∧
    u.clk = s.clk ∧ u.boot = s.boot := by
  obtain ⟨_, rfl⟩ := onUnit_next.1 h
  simp [State.windowClose_kept ..]
theorem execRetrialChoice_kept {t slot : Nat} {capsulesEqual : Bool} {s u : State}
    (h : execRetrialChoice t slot capsulesEqual s = .next u) :
    u.pending = s.pending ∧ u.answer = s.answer ∧ u.links = s.links ∧ u.shed = s.shed ∧ u.copy = s.copy ∧
    u.rings = s.rings ∧ u.alm = s.alm ∧ u.mem = s.mem ∧ u.flt = s.flt ∧ u.cal = s.cal ∧ u.mod = s.mod ∧
    u.boot = s.boot := by
  obtain ⟨_, rfl⟩ := onUnit_next.1 h
  simp [State.retrialChoice_kept ..]
theorem execVoteTimeout_kept {t slot : Nat} {s u : State}
    (h : execVoteTimeout t slot s = .next u) :
    u.pending = s.pending ∧ u.answer = s.answer ∧ u.links = s.links ∧ u.shed = s.shed ∧ u.copy = s.copy ∧
    u.rings = s.rings ∧ u.alm = s.alm ∧ u.mem = s.mem ∧ u.cal = s.cal ∧ u.mod = s.mod ∧ u.clk = s.clk ∧
    u.boot = s.boot := by
  obtain ⟨_, rfl⟩ := onUnit_next.1 h
  simp [State.voteTimeout_kept ..]
theorem execDoubleFaultRestart_kept {t slot : Nat} {s u : State}
    (h : execDoubleFaultRestart t slot s = .next u) :
    u.pending = s.pending ∧ u.answer = s.answer ∧ u.links = s.links ∧ u.shed = s.shed ∧ u.copy = s.copy ∧
    u.rings = s.rings ∧ u.alm = s.alm ∧ u.mem = s.mem ∧ u.flt = s.flt ∧ u.cal = s.cal ∧ u.mod = s.mod ∧
    u.boot = s.boot := by
  obtain ⟨_, rfl⟩ := onUnit_next.1 h
  simp [State.restart_kept ..]
theorem execExcuseTimeout_kept {t slot : Nat} {s u : State}
    (h : execExcuseTimeout t slot s = .next u) :
    u.pending = s.pending ∧ u.answer = s.answer ∧ u.links = s.links ∧ u.shed = s.shed ∧ u.copy = s.copy ∧
    u.rings = s.rings ∧ u.alm = s.alm ∧ u.mem = s.mem ∧ u.cal = s.cal ∧ u.mod = s.mod ∧ u.clk = s.clk ∧
    u.boot = s.boot := by
  obtain ⟨_, rfl⟩ := onUnit_next.1 h
  simp [State.excuseTimeout_kept ..]
theorem execScionChoice_kept {t slot : Nat} {s u : State}
    (h : execScionChoice t slot s = .next u) :
    u.pending = s.pending ∧ u.answer = s.answer ∧ u.fresh = s.fresh ∧ u.links = s.links ∧ u.shed = s.shed ∧
    u.copy = s.copy ∧ u.fwd = s.fwd ∧ u.rings = s.rings ∧ u.egr = s.egr ∧ u.alm = s.alm ∧ u.mem = s.mem ∧
    u.flt = s.flt ∧ u.cal = s.cal ∧ u.gauge = s.gauge ∧ u.mod = s.mod ∧ u.boot = s.boot := by
  obtain ⟨_, rfl⟩ := onUnit_next.1 h
  simp [State.chooseScion_kept ..]
theorem execTransplantEnd_kept {t slot : Nat} {uncorrectable : Bool} {s u : State}
    (h : execTransplantEnd t slot uncorrectable s = .next u) :
    u.pending = s.pending ∧ u.answer = s.answer ∧ u.links = s.links ∧ u.copy = s.copy ∧ u.rings = s.rings ∧
    u.boot = s.boot ∧ u.mem.exchange = s.mem.exchange ∧ u.mem.areas = s.mem.areas := by
  obtain ⟨_, rfl⟩ := onUnit_next.1 h
  simp [State.transplantDone_kept ..]
theorem execCuttingBoundary_kept {t slot : Nat} {s u : State}
    (h : execCuttingBoundary t slot s = .next u) :
    u.pending = s.pending ∧ u.answer = s.answer ∧ u.fresh = s.fresh ∧ u.links = s.links ∧ u.shed = s.shed ∧
    u.copy = s.copy ∧ u.fwd = s.fwd ∧ u.rings = s.rings ∧ u.egr = s.egr ∧ u.alm = s.alm ∧ u.mem = s.mem ∧
    u.flt = s.flt ∧ u.cal = s.cal ∧ u.gauge = s.gauge ∧ u.mod = s.mod ∧ u.clk = s.clk ∧ u.boot = s.boot := by
  obtain ⟨_, rfl⟩ := onUnit_next.1 h
  simp [State.cuttingBoundary_kept ..]
theorem execProbationEnd_kept {t slot : Nat} {s u : State}
    (h : execProbationEnd t slot s = .next u) :
    u.pending = s.pending ∧ u.answer = s.answer ∧ u.fresh = s.fresh ∧ u.links = s.links ∧ u.shed = s.shed ∧
    u.copy = s.copy ∧ u.fwd = s.fwd ∧ u.rings = s.rings ∧ u.egr = s.egr ∧ u.alm = s.alm ∧ u.mem = s.mem ∧
    u.cal = s.cal ∧ u.gauge = s.gauge ∧ u.mod = s.mod ∧ u.clk = s.clk ∧ u.boot = s.boot := by
  obtain ⟨_, rfl⟩ := onUnit_next.1 h
  simp [State.probationEnd_kept ..]
theorem execExposureLimit_kept {t slot : Nat} {s u : State}
    (h : execExposureLimit t slot s = .next u) :
    u.pending = s.pending ∧ u.answer = s.answer ∧ u.emits = s.emits ∧ u.fresh = s.fresh ∧ u.links = s.links ∧
    u.shed = s.shed ∧ u.copy = s.copy ∧ u.fwd = s.fwd ∧ u.rings = s.rings ∧ u.egr = s.egr ∧ u.alm = s.alm ∧
    u.allots = s.allots ∧ u.irq = s.irq ∧ u.mem = s.mem ∧ u.flt = s.flt ∧ u.cal = s.cal ∧ u.gauge = s.gauge ∧
    u.mod = s.mod ∧ u.clk = s.clk ∧ u.boot = s.boot := by
  obtain ⟨_, rfl⟩ := onUnit_next.1 h
  simp [State.exposureLimit_kept ..]
theorem execBedUnitReset_kept {t bed : Nat} {s u : State}
    (h : execBedUnitReset t bed s = .next u) :
    u.pending = s.pending ∧ u.answer = s.answer ∧ u.fresh = s.fresh ∧ u.copy = s.copy ∧ u.rings = s.rings ∧
    u.alm = s.alm ∧ u.cal = s.cal ∧ u.gauge = s.gauge ∧ u.clk = s.clk ∧ u.boot = s.boot ∧
    u.mem.exchange = s.mem.exchange ∧ u.mem.areas = s.mem.areas := by
  obtain ⟨_, rfl⟩ := onUnit_next.1 h
  simp [State.ite_kept .., State.bedReset_kept ..]
theorem execCuttingCompare_kept {t slot : Nat} {liveDiffers otherDiffers : Bool} {s u : State}
    (h : execCuttingCompare t slot liveDiffers otherDiffers s = .next u) :
    u.pending = s.pending ∧ u.answer = s.answer ∧ u.emits = s.emits ∧ u.fresh = s.fresh ∧ u.links = s.links ∧
    u.shed = s.shed ∧ u.copy = s.copy ∧ u.fwd = s.fwd ∧ u.rings = s.rings ∧ u.egr = s.egr ∧ u.alm = s.alm ∧
    u.allots = s.allots ∧ u.irq = s.irq ∧ u.mem = s.mem ∧ u.flt = s.flt ∧ u.cal = s.cal ∧ u.gauge = s.gauge ∧
    u.mod = s.mod ∧ u.clk = s.clk ∧ u.boot = s.boot := by
  obtain ⟨_, rfl⟩ := onUnit_next.1 h
  simp [State.cuttingCompare_kept ..]
theorem execSparePool_kept {t a val : Nat} {s u : State}
    (h : execSparePool t a val s = .next u) :
    u.pending = s.pending := by
  obtain ⟨_, rfl⟩ := onUnit_next.1 h
  simp
theorem execPeer_kept {t a ch val : Nat} {s u : State}
    (h : execPeer t a ch val s = .next u) :
    u.pending = s.pending := by
  obtain ⟨_, rfl⟩ := onUnit_next.1 h
  simp
theorem execRegisterWrite_kept {t a offset : Nat} {bytes : List Byte} {s u : State}
    (h : execRegisterWrite t a offset bytes s = .next u) :
    u.pending = s.pending ∧ u.answer = s.answer := by
  obtain ⟨_, rfl⟩ := onUnit_next.1 h
  simp [State.writeWindow_kept ..]
theorem execBitAliasWrite_kept {t a offset : Nat} {data : BitVec 32} {s u : State}
    (h : execBitAliasWrite t a offset data s = .next u) :
    u.pending = s.pending ∧ u.answer = s.answer := by
  obtain ⟨_, rfl⟩ := onUnit_next.1 h
  simp [State.writeBit_kept ..]
theorem execDoorbell_kept {t a number : Nat} {s u : State}
    (h : execDoorbell t a number s = .next u) :
    u.pending = s.pending ∧ u.answer = s.answer ∧ u.fresh = s.fresh ∧ u.links = s.links ∧ u.shed = s.shed ∧
    u.copy = s.copy ∧ u.fwd = s.fwd ∧ u.rings = s.rings ∧ u.str = s.str ∧ u.egr = s.egr ∧ u.alm = s.alm ∧
    u.mem = s.mem ∧ u.flt = s.flt ∧ u.cal = s.cal ∧ u.gauge = s.gauge ∧ u.mod = s.mod ∧ u.clk = s.clk ∧
    u.boot = s.boot := by
  obtain ⟨_, rfl⟩ := onUnit_next.1 h
  simp [State.ite_kept .., State.ringDoorbell_kept ..]
theorem execAcquire_kept {t a latch : Nat} {tag : BitVec 16} {s u : State}
    (h : execAcquire t a latch tag s = .next u) :
    u.pending = s.pending ∧ u.answer = s.answer ∧ u.emits = s.emits ∧ u.fresh = s.fresh ∧
    u.mem.exchange = s.mem.exchange ∧ u.mem.areas = s.mem.areas := by
  obtain ⟨_, rfl⟩ := onUnit_next.1 h
  simp only [State.onLatch]
  (repeat' split) <;> simp [State.latchCommand_kept ..]
theorem execRelease_kept {t a latch : Nat} {s u : State}
    (h : execRelease t a latch s = .next u) :
    u.pending = s.pending ∧ u.answer = s.answer ∧ u.emits = s.emits ∧ u.fresh = s.fresh ∧
    u.mem.exchange = s.mem.exchange ∧ u.mem.areas = s.mem.areas := by
  obtain ⟨_, rfl⟩ := onUnit_next.1 h
  simp only [State.onLatch]
  (repeat' split) <;> simp [State.latchCommand_kept ..]
theorem execReset_kept {t a allot : Nat} {s u : State}
    (h : execReset t a allot s = .next u) :
    u.pending = s.pending := by
  obtain ⟨_, rfl⟩ := onUnit_next.1 h
  simp
theorem execPcieLinkReset_kept {t link kind : Nat} {s u : State}
    (h : execPcieLinkReset t link kind s = .next u) :
    u.pending = s.pending ∧ u.answer = s.answer := by
  obtain ⟨_, rfl⟩ := onUnit_next.1 h
  simp [State.resetLink_kept ..]
theorem execVoteScrub_kept {t : Nat} {fields : List (Nat × Nat)} {s u : State}
    (h : execVoteScrub t fields s = .next u) :
    u.pending = s.pending ∧ u.answer = s.answer ∧ u.fresh = s.fresh ∧ u.links = s.links ∧ u.shed = s.shed ∧
    u.copy = s.copy ∧ u.fwd = s.fwd ∧ u.rings = s.rings ∧ u.str = s.str ∧ u.egr = s.egr ∧ u.mem = s.mem ∧
    u.cal = s.cal ∧ u.gauge = s.gauge ∧ u.mod = s.mod ∧ u.clk = s.clk ∧ u.boot = s.boot := by
  cases h
  simp [State.scrubVotes_kept ..]
theorem execClaim_kept {t a vector : Nat} {s u : State}
    (h : execClaim t a vector s = .next u) :
    u.pending = s.pending ∧ u.fresh = s.fresh ∧ u.links = s.links ∧ u.shed = s.shed ∧ u.copy = s.copy ∧
    u.fwd = s.fwd ∧ u.rings = s.rings ∧ u.str = s.str ∧ u.egr = s.egr ∧ u.alm = s.alm ∧ u.allots = s.allots ∧
    u.mem = s.mem ∧ u.flt = s.flt ∧ u.cal = s.cal ∧ u.gauge = s.gauge ∧ u.mod = s.mod ∧ u.clk = s.clk ∧
    u.boot = s.boot := by
  obtain ⟨_, rfl⟩ := onUnit_next.1 h
  simp [State.claimVector_kept ..]
theorem execComplete_kept {t a vector source : Nat} {s u : State}
    (h : execComplete t a vector source s = .next u) :
    u.pending = s.pending ∧ u.answer = s.answer ∧ u.fresh = s.fresh ∧ u.links = s.links ∧ u.shed = s.shed ∧
    u.copy = s.copy ∧ u.fwd = s.fwd ∧ u.rings = s.rings ∧ u.str = s.str ∧ u.egr = s.egr ∧ u.alm = s.alm ∧
    u.allots = s.allots ∧ u.mem = s.mem ∧ u.flt = s.flt ∧ u.cal = s.cal ∧ u.gauge = s.gauge ∧ u.mod = s.mod ∧
    u.clk = s.clk ∧ u.boot = s.boot := by
  obtain ⟨_, rfl⟩ := onUnit_next.1 h
  simp [State.completeVector_kept ..]
theorem execSourceClear_kept {t a : Nat} {s u : State}
    (h : execSourceClear t a s = .next u) :
    u.pending = s.pending ∧ u.answer = s.answer ∧ u.fresh = s.fresh ∧ u.links = s.links ∧ u.shed = s.shed ∧
    u.copy = s.copy ∧ u.fwd = s.fwd ∧ u.rings = s.rings ∧ u.str = s.str ∧ u.egr = s.egr ∧ u.mem = s.mem ∧
    u.flt = s.flt ∧ u.cal = s.cal ∧ u.gauge = s.gauge ∧ u.mod = s.mod ∧ u.clk = s.clk ∧ u.boot = s.boot := by
  obtain ⟨_, rfl⟩ := onUnit_next.1 h
  simp [State.clearSelected_kept ..]
theorem execMsixUnmask_kept {t a vector : Nat} {s u : State}
    (h : execMsixUnmask t a vector s = .next u) :
    u.pending = s.pending ∧ u.answer = s.answer ∧ u.fresh = s.fresh ∧ u.links = s.links ∧ u.shed = s.shed ∧
    u.copy = s.copy ∧ u.fwd = s.fwd ∧ u.rings = s.rings ∧ u.str = s.str ∧ u.egr = s.egr ∧ u.alm = s.alm ∧
    u.allots = s.allots ∧ u.mem = s.mem ∧ u.flt = s.flt ∧ u.cal = s.cal ∧ u.gauge = s.gauge ∧ u.mod = s.mod ∧
    u.clk = s.clk ∧ u.boot = s.boot := by
  obtain ⟨_, rfl⟩ := onUnit_next.1 h
  simp [State.unmask_kept ..]
theorem execMsixEnable_kept {t a : Nat} {on : Bool} {s u : State}
    (h : execMsixEnable t a on s = .next u) :
    u.pending = s.pending ∧ u.answer = s.answer ∧ u.fresh = s.fresh ∧ u.links = s.links ∧ u.shed = s.shed ∧
    u.copy = s.copy ∧ u.fwd = s.fwd ∧ u.rings = s.rings ∧ u.str = s.str ∧ u.egr = s.egr ∧ u.alm = s.alm ∧
    u.allots = s.allots ∧ u.mem = s.mem ∧ u.flt = s.flt ∧ u.cal = s.cal ∧ u.gauge = s.gauge ∧ u.mod = s.mod ∧
    u.clk = s.clk ∧ u.boot = s.boot := by
  obtain ⟨_, rfl⟩ := onUnit_next.1 h
  simp [State.enableMsix_kept ..]
theorem execShedClaim_kept {t pair : Nat} {completes : Option Nat} {agree : Bool} {s u : State}
    (h : execShedClaim t pair completes agree s = .next u) :
    u.pending = s.pending ∧ u.links = s.links ∧ u.copy = s.copy ∧ u.rings = s.rings ∧ u.boot = s.boot ∧
    u.mem.exchange = s.mem.exchange ∧ u.mem.areas = s.mem.areas := by
  obtain ⟨_, rfl⟩ := onUnit_next.1 h
  simp [State.pairActs_kept ..]

end Sys2Proof.Machine
end

