-- ==== Sys2Proof/Laws/Memory.lean ====
section
/-! SUPPORT. The exchange areas (14): a read after a write, and that every operation that can reach them keeps their
canonical form. -/

set_option linter.unusedSimpArgs false

namespace Sys2Proof.Machine

/-! ## Bytes of the areas -/

/-- A read of a byte after a write of one. -/
theorem State.exchangeByte_setExchange (s : State) (a b off j : Nat) (v : Byte) :
    (s.setExchange a off v).exchangeByte b j =
      if b * 2147483648 + j = a * 2147483648 + off then v else s.exchangeByte b j := by
  simp only [State.exchangeByte, State.setExchange]
  exact tget_tput s.mem.unlisted s.mem.exchange _ _ v
/-- A write of bytes leaves every other byte alone. -/
theorem State.exchangeByte_putExchange (s : State) (a b off j : Nat) (l : List Byte)
    (h : b * 2147483648 + j < a * 2147483648 + off ∨ a * 2147483648 + off + l.length ≤ b * 2147483648 + j) :
    (s.putExchange a off l).exchangeByte b j = s.exchangeByte b j := by
  induction l generalizing s off with
  | nil => rfl
  | cons x r ih =>
    simp only [List.length_cons] at h
    simp only [State.putExchange]
    rw [ih _ _ (by omega), State.exchangeByte_setExchange, if_neg (by omega)]
/-- A write of bytes is read back. -/
theorem State.exchangeByte_putExchange_self (s : State) (a off i : Nat) (l : List Byte) (h : i < l.length) :
    (s.putExchange a off l).exchangeByte a (off + i) = l[i] := by
  induction l generalizing s off i with
  | nil => exact absurd h (Nat.not_lt_zero i)
  | cons x r ih =>
    simp only [State.putExchange]
    cases i with
    | zero =>
      rw [State.exchangeByte_putExchange _ _ _ _ _ _ (by omega), State.exchangeByte_setExchange]
      simp
    | succ i =>
      have := ih (s.setExchange a off x) (off + 1) i (by simpa using h)
      rw [show off + (i + 1) = off + 1 + i by omega, this]
      rfl

/-! ## The canonical form -/

/-- Nothing that the canonical form depends on has changed. -/
theorem wf_of_same {s u : State} (h1 : u.mem.exchange = s.mem.exchange) (h2 : u.mem.areas = s.mem.areas)
    (h : s.mem.wf = true) : u.mem.wf = true := by
  have : u.mem.unlisted = s.mem.unlisted := by funext k; simp only [Memory.unlisted, h2]
  simp only [Memory.wf] at h ⊢
  rw [this, h1]; exact h

theorem wf_raise (s : State) (n : Nat) : (s.raise n).mem.wf = s.mem.wf := by simp [State.raise_kept ..]
theorem wf_clamp (s : State) (a : Nat) : (s.clamp a).mem.wf = s.mem.wf := by simp [State.clamp_kept ..]
theorem setExchange_wf (s : State) (a off : Nat) (b : Byte) (h : s.mem.wf = true) :
    (s.setExchange a off b).mem.wf = true := twf_tput _ _ _ _ h
theorem putExchange_wf (s : State) (a off : Nat) (l : List Byte) (h : s.mem.wf = true) :
    (s.putExchange a off l).mem.wf = true := by
  induction l generalizing s off with
  | nil => exact h
  | cons b r ih => exact ih _ _ (setExchange_wf s a off b h)
/-- A changed area empties; the others keep their bytes. -/
theorem settleArea_wf (s : State) (a : Nat) (h : s.mem.wf = true) : (s.settleArea a).mem.wf = true := by
  simp only [State.settleArea]
  split
  · exact h
  · refine twf_filter s.mem.unlisted _ _ _ (fun k v hk => ?_) h
    have hne : k / 2147483648 ≠ a := by simpa using hk
    simp only [Memory.unlisted]
    rw [tget_tput_other _ _ _ hne]

/-! ## DMA channels -/

theorem dmaDone_wf (s : State) (c : Nat) (h : s.mem.wf = true) : (s.dmaDone c).mem.wf = true := by
  simp only [State.dmaDone]
  have k := settleArea_wf (s.modDma c (fun d => { d with st := 2, doneCount := (d.doneCount + 1) % 4294967296 })) (c / 64)
    (wf_of_same (by simp [State.raise_kept ..]) (by simp [State.raise_kept ..]) h)
  split
  · exact wf_of_same (by simp [State.raise_kept ..]) (by simp [State.raise_kept ..]) k
  · exact k
theorem dmaHalt_wf (s : State) (c offset cause : Nat) (write : Bool) (h : s.mem.wf = true) :
    (s.dmaHalt c offset cause write).mem.wf = true := by
  simp only [State.dmaHalt]
  split
  · rw [wf_raise]; exact settleArea_wf _ _ (wf_of_same (by simp) (by simp) h)
  · exact settleArea_wf _ _ (wf_of_same (by simp) (by simp) h)
theorem dmaStart_wf (s : State) (a c : Nat) (h : s.mem.wf = true) : (s.dmaStart a c).mem.wf = true := by
  simp only [State.dmaStart]
  split
  · exact h
  · split
    · exact wf_of_same (by simp) (by simp) h
    · split
      · exact dmaDone_wf _ _ (wf_of_same (by simp) (by simp) h)
      · exact wf_of_same (by simp) (by simp) h
theorem dmaDisable_wf (s : State) (a c : Nat) (h : s.mem.wf = true) : (s.dmaDisable a c).mem.wf = true := by
  simp only [State.dmaDisable]
  split
  · exact h
  · refine settleArea_wf _ _ ?_
    split
    · exact putExchange_wf _ _ _ _ (wf_of_same (by simp) (by simp) h)
    · exact wf_of_same (by simp) (by simp) h
theorem dmaWrite_wf (s : State) (c : Nat) (l : List Byte) (h : s.mem.wf = true) : (s.dmaWrite c l).mem.wf = true := by
  simp only [State.dmaWrite]
  have k := putExchange_wf s (c / 64) ((s.dmaCh c).dest + (s.dmaCh c).written) l h
  split
  · exact wf_of_same (by simp) (by simp) h
  · exact wf_of_same (by simp) (by simp) k
theorem dmaDrain_wf (s : State) (c k : Nat) (h : s.mem.wf = true) : (s.dmaDrain c k).mem.wf = true := by
  induction k generalizing s with
  | zero => exact h
  | succ k ih =>
    simp only [State.dmaDrain]
    split
    · exact h
    · exact ih _ (dmaWrite_wf _ _ _ (wf_of_same (by simp) (by simp) h))
theorem dmaArrive_wf (s : State) (c offset : Nat) (l : List Byte) (h : s.mem.wf = true) :
    (s.dmaArrive c offset l).mem.wf = true := by
  simp only [State.dmaArrive]
  split
  · exact h
  · split
    · split
      · exact dmaHalt_wf _ _ _ _ _ h
      · exact h
    · split
      · split
        · exact dmaHalt_wf _ _ _ _ _ h
        · exact h
      · split
        · exact dmaDone_wf _ _ (dmaDrain_wf _ _ _ (wf_of_same (by simp) (by simp) h))
        · exact dmaDrain_wf _ _ _ (wf_of_same (by simp) (by simp) h)
theorem dmaFail_wf (s : State) (c offset cause : Nat) (h : s.mem.wf = true) :
    (s.dmaFail c offset cause).mem.wf = true := by
  simp only [State.dmaFail]
  split
  · exact h
  · split
    · exact wf_of_same (by simp [State.readError_kept ..]) (by simp [State.readError_kept ..]) h
    · refine dmaHalt_wf _ _ _ _ _ ?_
      split
      · exact wf_of_same (by simp [State.readError_kept ..]) (by simp [State.readError_kept ..]) h
      · exact h

/-! ## Folds, resets and power-up -/

theorem foldl_wf {β : Type} (f : State → β → State) (hf : ∀ s x, s.mem.wf = true → (f s x).mem.wf = true) (l : List β)
    (s : State) (h : s.mem.wf = true) : (l.foldl f s).mem.wf = true := by
  induction l generalizing s with
  | nil => exact h
  | cons x r ih => exact ih _ (hf s x h)
theorem resetAllot_wf (s : State) (a : Nat) (h : s.mem.wf = true) : (s.resetAllot a).mem.wf = true := by
  simp only [State.resetAllot]
  have k := foldl_wf (fun (s : State) c => (s.dmaDisable a (64 * a + c)).dmaClear a (64 * a + c)) (fun s c h => by
    have k := dmaDisable_wf s a (64 * a + c) h
    exact wf_of_same (by simp [State.dmaClear_kept .., State.modMbox_kept .., State.resetView_kept ..,
        State.ringFlush_kept ..,
        State.tearLatches_kept ..]) (by simp [State.dmaClear_kept .., State.modMbox_kept .., State.resetView_kept ..,
        State.ringFlush_kept .., State.tearLatches_kept ..]) k) (List.range 64) s h
  exact wf_of_same (by simp [State.dmaClear_kept .., State.modMbox_kept .., State.resetView_kept ..,
      State.ringFlush_kept ..,
      State.tearLatches_kept ..]) (by simp [State.dmaClear_kept .., State.modMbox_kept .., State.resetView_kept ..,
      State.ringFlush_kept .., State.tearLatches_kept ..]) k
theorem resetLink_wf (s : State) (link kind : Nat) (h : s.mem.wf = true) : (s.resetLink link kind).mem.wf = true := by
  simp only [State.resetLink]
  split
  · exact h
  · cases hb : s.boundTo link with
    | none => dsimp only; (repeat' split) <;> exact wf_of_same (by simp [State.causeGone_kept ..,
        State.raiseFault_kept ..,
        State.rebindLink_kept ..]) (by simp [State.causeGone_kept .., State.raiseFault_kept ..,
            State.rebindLink_kept ..]) h
    | some a => dsimp only; have k := resetAllot_wf s a h; (repeat' split) <;> exact wf_of_same (by simp [State.causeGone_kept .., State.raiseFault_kept .., State.rebindLink_kept ..]) (by simp [State.causeGone_kept .., State.raiseFault_kept .., State.rebindLink_kept ..]) k
theorem kept_wf (s : State) (lost : Bool) : (s.kept lost).mem.wf = true := rfl
theorem powersUp_wf (s : State) (temp : Int) (split_ : BitVec 4) (h : s.mem.wf = true) :
    (s.powersUp temp split_).mem.wf = true := by
  simp only [State.powersUp]
  split
  · exact h
  · have k := kept_wf s s.mod.keepLost
    split <;> exact wf_of_same (by simp [State.ite_kept .., State.kept_kept .., State.pulseFault_kept ..,
        State.reach_kept ..,
        State.startPll_kept ..]) (by simp [State.ite_kept .., State.kept_kept .., State.pulseFault_kept ..,
            State.reach_kept ..,
            State.startPll_kept ..]) k

/-! ## The Almanac's writes -/

theorem grantLatches_wf (s : State) (a v : Nat) (h : s.mem.wf = true) : (s.grantLatches a v).mem.wf = true :=
  wf_of_same (by simp [State.grantLatches_kept ..]) (by simp [State.grantLatches_kept ..]) h
theorem writeNumber_wf (s : State) (a fam inst mem : Nat) (sp : Space) (n : Nat) (r : Row) (v : Int)
    (h : s.mem.wf = true) : (s.writeNumber a fam inst mem sp n r v).2.2.mem.wf = true := by
  unfold State.writeNumber
  dsimp only
  split
  all_goals try dsimp only [State.ok]
  all_goals first
    | with_reducible exact resetAllot_wf _ _ h
    | with_reducible exact settleArea_wf _ _ (wf_of_same (by simp [State.ite_kept .., State.admitOp_kept ..,
        State.armEpoch_kept ..,
        State.bmca_kept .., State.chooseMain_kept .., State.clamp_kept .., State.clearLog_kept ..,
            State.clearRecord_kept ..,
        State.condition_kept .., State.discardTrims_kept .., State.enableChanged_kept .., State.forceFault_kept ..,
        State.freezeAll_kept .., State.gatesAt_kept .., State.giveOwner_kept .., State.grantLatches_kept ..,
            State.judgeAll_kept ..,
        State.keepWarm_kept .., State.no_kept .., State.okAt_kept .., State.orderHistClear_kept ..,
            State.orderTime_kept ..,
        State.rebreak_kept .., State.regate_kept .., State.retest_kept .., State.selectCf_kept .., State.setCfgN_kept ..,
        State.setCfg_kept .., State.setInject_kept .., State.shadowWrite_kept .., State.sizePool_kept ..,
            State.sleepBed_kept ..,
        State.snapshot_kept .., State.sweepPeers_kept .., State.wakeBed_kept .., State.writeAddress_kept ..,
            State.writeClass_kept ..,
        State.writeCut_kept .., State.writeGate_kept .., State.writeGroupEntry_kept .., State.writeGroupOf_kept ..,
        State.writeLink_kept .., State.writeMode_kept .., State.writePeer_kept .., State.writePoint_kept ..,
        State.writeStandby_kept .., State.writeStream_kept ..]) (by simp [State.ite_kept .., State.admitOp_kept ..,
            State.armEpoch_kept ..,
        State.bmca_kept .., State.chooseMain_kept .., State.clamp_kept .., State.clearLog_kept ..,
            State.clearRecord_kept ..,
        State.condition_kept .., State.discardTrims_kept .., State.enableChanged_kept .., State.forceFault_kept ..,
        State.freezeAll_kept .., State.gatesAt_kept .., State.giveOwner_kept .., State.grantLatches_kept ..,
            State.judgeAll_kept ..,
        State.keepWarm_kept .., State.no_kept .., State.okAt_kept .., State.orderHistClear_kept ..,
            State.orderTime_kept ..,
        State.rebreak_kept .., State.regate_kept .., State.retest_kept .., State.selectCf_kept .., State.setCfgN_kept ..,
        State.setCfg_kept .., State.setInject_kept .., State.shadowWrite_kept .., State.sizePool_kept ..,
            State.sleepBed_kept ..,
        State.snapshot_kept .., State.sweepPeers_kept .., State.wakeBed_kept .., State.writeAddress_kept ..,
            State.writeClass_kept ..,
        State.writeCut_kept .., State.writeGate_kept .., State.writeGroupEntry_kept .., State.writeGroupOf_kept ..,
        State.writeLink_kept .., State.writeMode_kept .., State.writePeer_kept .., State.writePoint_kept ..,
        State.writeStandby_kept .., State.writeStream_kept ..]) h)
    | exact wf_of_same (by simp [State.ite_kept .., State.admitOp_kept .., State.armEpoch_kept .., State.bmca_kept ..,
        State.chooseMain_kept ..,
        State.clamp_kept .., State.clearLog_kept .., State.clearRecord_kept .., State.condition_kept ..,
            State.discardTrims_kept ..,
        State.enableChanged_kept .., State.forceFault_kept .., State.freezeAll_kept .., State.gatesAt_kept ..,
        State.giveOwner_kept .., State.grantLatches_kept .., State.judgeAll_kept .., State.keepWarm_kept ..,
            State.no_kept ..,
        State.okAt_kept .., State.orderHistClear_kept .., State.orderTime_kept .., State.rebreak_kept ..,
            State.regate_kept ..,
        State.retest_kept .., State.selectCf_kept .., State.setCfgN_kept .., State.setCfg_kept ..,
            State.setInject_kept ..,
        State.shadowWrite_kept .., State.sizePool_kept .., State.sleepBed_kept .., State.snapshot_kept ..,
            State.sweepPeers_kept ..,
        State.wakeBed_kept .., State.writeAddress_kept .., State.writeClass_kept .., State.writeCut_kept ..,
            State.writeGate_kept ..,
        State.writeGroupEntry_kept .., State.writeGroupOf_kept .., State.writeLink_kept .., State.writeMode_kept ..,
        State.writePeer_kept .., State.writePoint_kept .., State.writeStandby_kept ..,
        State.writeStream_kept ..]) (by simp [State.ite_kept .., State.admitOp_kept .., State.armEpoch_kept ..,
            State.bmca_kept ..,
        State.chooseMain_kept .., State.clamp_kept .., State.clearLog_kept .., State.clearRecord_kept ..,
            State.condition_kept ..,
        State.discardTrims_kept .., State.enableChanged_kept .., State.forceFault_kept .., State.freezeAll_kept ..,
        State.gatesAt_kept .., State.giveOwner_kept .., State.grantLatches_kept .., State.judgeAll_kept ..,
            State.keepWarm_kept ..,
        State.no_kept .., State.okAt_kept .., State.orderHistClear_kept .., State.orderTime_kept ..,
            State.rebreak_kept ..,
        State.regate_kept .., State.retest_kept .., State.selectCf_kept .., State.setCfgN_kept .., State.setCfg_kept ..,
        State.setInject_kept .., State.shadowWrite_kept .., State.sizePool_kept .., State.sleepBed_kept ..,
            State.snapshot_kept ..,
        State.sweepPeers_kept .., State.wakeBed_kept .., State.writeAddress_kept .., State.writeClass_kept ..,
            State.writeCut_kept ..,
        State.writeGate_kept .., State.writeGroupEntry_kept .., State.writeGroupOf_kept .., State.writeLink_kept ..,
        State.writeMode_kept .., State.writePeer_kept .., State.writePoint_kept .., State.writeStandby_kept ..,
        State.writeStream_kept ..]) h
theorem spend_wf (s : State) (a fam inst mem : Nat) (old v : List Byte) (f : State → Nat × Nat × State)
    (hf : ∀ t : State, t.mem.wf = true → (f t).2.2.mem.wf = true) (h : s.mem.wf = true) :
    (s.spend a fam inst mem old v f).2.2.mem.wf = true := by
  simp only [State.spend]
  split
  · exact hf _ h
  · split
    · exact h
    · split
      · exact h
      · exact hf _ (wf_of_same rfl rfl h)
theorem writeScalar_wf (s : State) (a fam inst mem : Nat) (sp : Space) (n : Nat) (r : Row) (b : List Byte)
    (h : s.mem.wf = true) : (s.writeScalar a fam inst mem sp n r b).2.2.mem.wf = true := by
  simp only [State.writeScalar]
  split
  · exact h
  · split
    · exact h
    · have k : ∀ (p : Prop) [Decidable p] (out : Nat × Nat × State), out.2.2.mem.wf = true →
          (if out.1 = 0 ∧ p then (0, out.2.1, out.2.2.clamp a) else out).2.2.mem.wf = true := by
        intro p _ out ho
        split
        · exact (wf_clamp _ _).trans ho
        · exact ho
      refine k _ _ ?_
      split
      · exact spend_wf _ _ _ _ _ _ _ _ (fun t ht => writeNumber_wf t _ _ _ _ _ _ _ _ ht) h
      · exact writeNumber_wf _ _ _ _ _ _ _ _ _ h
theorem afterWrite_wf (sp : Space) (n : Nat) (r : Row) (w : Nat) (x : Nat × Nat × State) (h : x.2.2.mem.wf = true) :
    (afterWrite sp n r w x).2.2.mem.wf = true := wf_of_same (by simp) (by simp) h
theorem entryWrite_wf (s : State) (a fam inst mem : Nat) (sp : Space) (n : Nat) (r : Row) (b : List Byte)
    (h : s.mem.wf = true) : (s.entryWrite a fam inst mem sp n r b).2.2.mem.wf = true := by
  unfold State.entryWrite
  split
  · exact wf_of_same (by simp [State.ite_kept .., State.no_kept .., State.ok_kept .., State.setCfg_kept ..,
      State.writeBlob_kept ..,
      State.writeString_kept ..]) (by simp [State.ite_kept .., State.no_kept .., State.ok_kept .., State.setCfg_kept ..,
          State.writeBlob_kept ..,
      State.writeString_kept ..]) h
  · split
    · exact h
    · split
      · exact h
      · split
        · exact afterWrite_wf _ _ _ _ _ (wf_of_same (by simp [State.ite_kept .., State.no_kept .., State.ok_kept ..,
            State.setCfg_kept ..,
            State.writeBlob_kept .., State.writeString_kept ..]) (by simp [State.ite_kept .., State.no_kept ..,
                State.ok_kept ..,
                State.setCfg_kept ..,
            State.writeBlob_kept .., State.writeString_kept ..]) h)
        · exact afterWrite_wf _ _ _ _ _ (wf_of_same (by simp [State.ite_kept .., State.no_kept .., State.ok_kept ..,
            State.setCfg_kept ..,
            State.writeBlob_kept .., State.writeString_kept ..]) (by simp [State.ite_kept .., State.no_kept ..,
                State.ok_kept ..,
                State.setCfg_kept ..,
            State.writeBlob_kept .., State.writeString_kept ..]) h)
        · exact afterWrite_wf _ _ _ _ _ (writeScalar_wf s a fam inst mem sp n r b h)

/-! ## Operations, messages and windows -/

theorem writeOp_wf (s : State) (a fam inst mem : Nat) (b : List Byte) (h : s.mem.wf = true) :
    (s.writeOp a fam inst mem b).2.2.mem.wf = true := by
  simp only [State.writeOp]
  split
  · exact h
  · split
    · exact h
    · rename_i sp n _ _ r _
      have k := entryWrite_wf s a fam inst mem sp n r b h
      split
      · exact h
      · split
        · exact k
        · split
          · exact wf_of_same (by simp [State.ite_kept .., State.covers_kept .., State.no_kept ..,
              State.noteWrite_kept ..]) (by simp [State.ite_kept .., State.covers_kept .., State.no_kept ..,
                  State.noteWrite_kept ..]) h
          · exact wf_of_same (by simp [State.ite_kept .., State.covers_kept .., State.no_kept ..,
              State.noteWrite_kept ..]) (by simp [State.ite_kept .., State.covers_kept .., State.no_kept ..,
                  State.noteWrite_kept ..]) k
theorem runWrite_wf (s : State) (a seq idx fam inst mem : Nat) (b : List Byte) (h : s.mem.wf = true) :
    (s.runWrite a seq idx fam inst mem b).next.mem.wf = true := by
  simp only [State.runWrite]
  split
  · exact wf_of_same (by simp [State.queueOp_kept ..]) (by simp [State.queueOp_kept ..]) h
  · exact writeOp_wf s a fam inst mem b h
theorem runStaged_wf (s : State) (a seq idx fam inst mem len : Nat) (ok : Bool) (h : s.mem.wf = true) :
    (s.runStaged a seq idx fam inst mem len ok).next.mem.wf = true := by
  simp only [State.runStaged]
  split
  · exact wf_of_same (by simp [State.clearStage_kept ..]) (by simp [State.clearStage_kept ..]) h
  · exact runWrite_wf _ _ _ _ _ _ _ _ (wf_of_same (by simp [State.clearStage_kept ..]) (by simp [State.clearStage_kept ..]) h)
theorem runOp_wf (s : State) (a seq idx op fam inst mem : Nat) (d : List Byte) (h : s.mem.wf = true) :
    (s.runOp a seq idx op fam inst mem d).next.mem.wf = true := by
  simp only [State.runOp]
  split
  · exact h
  · split
    · exact wf_of_same (by simp [State.clearStage_kept .., State.runRead_kept ..,
        State.stageBytes_kept ..]) (by simp [State.clearStage_kept .., State.runRead_kept .., State.stageBytes_kept ..]) h
    · exact runWrite_wf s a seq idx fam inst mem d h
    · exact runStaged_wf s a seq idx fam inst mem _ _ h
    · split
      · exact h
      · exact wf_of_same (by simp [State.clearStage_kept .., State.runRead_kept ..,
          State.stageBytes_kept ..]) (by simp [State.clearStage_kept .., State.runRead_kept ..,
              State.stageBytes_kept ..]) h
    · exact wf_of_same (by simp [State.clearStage_kept .., State.runRead_kept ..,
        State.stageBytes_kept ..]) (by simp [State.clearStage_kept .., State.runRead_kept .., State.stageBytes_kept ..]) h
    · exact h
theorem order_wf (s : State) (a op fam inst mem : Nat) (d : List Byte) (h : s.mem.wf = true) :
    (s.order a op fam inst mem d).mem.wf = true := by
  simp only [State.order]
  split
  · exact h
  · exact runOp_wf s a 0 0 op fam inst mem d h
theorem runOps_wf (s : State) (run : State → Nat → ReqOp → OpResult) (k : Nat) (ops : List ReqOp) (b : List Byte) (q : Bool)
    (hr : ∀ (t : State) (i : Nat) (o : ReqOp), t.mem.wf = true → (run t i o).next.mem.wf = true) (h : s.mem.wf = true) :
    (s.runOps run k ops b q).2.2.mem.wf = true := by
  induction ops generalizing s k b q with
  | nil => exact h
  | cons o r ih =>
    simp only [State.runOps]
    split
    · exact h
    · exact ih _ _ _ _ (hr s k o h)
theorem runRequest_wf (s : State) (port : Nat) (m : Msg) (key : List Byte) (h : s.mem.wf = true) :
    (s.runRequest port m key).mem.wf = true := by
  simp only [State.runRequest]
  have k := runOps_wf s (fun s idx o => s.runOp m.a m.seq idx o.op o.fam o.inst o.mem o.data) 0 m.ops [] false
    (fun t i o ht => runOp_wf t m.a m.seq i o.op o.fam o.inst o.mem o.data ht) h
  exact wf_of_same (by simp [State.reply_kept ..]) (by simp [State.reply_kept ..]) k
theorem inSequence_wf (s : State) (port : Nat) (m : Msg) (key : List Byte) (k : Nat) (h : s.mem.wf = true) :
    (s.inSequence port m key k).mem.wf = true := by
  induction k generalizing s port m key with
  | zero => exact h
  | succ k ih =>
    have hk : ∀ t : State, t.mem.wf = true →
        (if t.waits m.a then t.modAllot m.a (fun x =>
            { x with waiting := x.waiting ++ [{ seq := m.seq, t := t.now, port := port, bytes := m.signed, key := key }] })
          else t.runRequest port m key).mem.wf = true := by
      intro t ht
      split
      · exact wf_of_same (by simp [State.reply_kept ..]) (by simp [State.reply_kept ..]) ht
      · exact runRequest_wf t port m key ht
    have k2 := hk (s.modAllot m.a (fun x => { x with nextSeq := (m.seq + 1) % 4294967296 }))
      (wf_of_same (by simp [State.reply_kept ..]) (by simp [State.reply_kept ..]) h)
    simp only [State.inSequence]
    split
    · exact wf_of_same (by simp [State.reply_kept ..]) (by simp [State.reply_kept ..]) h
    · split
      · exact k2
      · split
        · exact k2
        · exact ih _ _ _ _ k2
theorem accept_wf (s : State) (port : Nat) (m : Msg) (key : List Byte) (h : s.mem.wf = true) :
    (s.accept port m key).mem.wf = true := by
  simp only [State.accept]
  (repeat' split) <;> first
    | exact wf_of_same (by simp [State.mailboxDrop_kept .., State.openSession_kept ..,
        State.reply_kept ..]) (by simp [State.mailboxDrop_kept .., State.openSession_kept .., State.reply_kept ..]) h
    | exact inSequence_wf _ _ _ _ _ (wf_of_same (by simp [State.mailboxDrop_kept .., State.openSession_kept ..,
        State.reply_kept ..]) (by simp [State.mailboxDrop_kept .., State.openSession_kept .., State.reply_kept ..]) h)

theorem udpMessage_wf (s : State) (port : Nat) (b : List Byte) (h : s.mem.wf = true) :
    (s.udpMessage port b).mem.wf = true := by
  simp only [State.udpMessage]
  (repeat' split) <;> first
    | with_reducible exact accept_wf _ _ _ _ (wf_of_same (by simp [State.badMessage_kept .., State.notReady_kept ..,
        State.takeHeld_kept ..]) (by simp [State.badMessage_kept .., State.notReady_kept .., State.takeHeld_kept ..]) h)
    | exact wf_of_same (by simp [State.badMessage_kept .., State.notReady_kept ..,
        State.takeHeld_kept ..]) (by simp [State.badMessage_kept .., State.notReady_kept .., State.takeHeld_kept ..]) h
theorem mailboxGo_wf (s : State) (a : Nat) (h : s.mem.wf = true) : (s.mailboxGo a).mem.wf = true := by
  simp only [State.mailboxGo]
  (repeat' split) <;> first
    | with_reducible exact accept_wf _ _ _ _ (wf_of_same (by simp [State.badMessage_kept .., State.identify_kept ..,
        State.mailboxDrop_kept .., State.modMbox_kept .., State.reply_kept ..]) (by simp [State.badMessage_kept ..,
        State.identify_kept .., State.mailboxDrop_kept .., State.modMbox_kept .., State.reply_kept ..]) h)
    | exact wf_of_same (by simp [State.badMessage_kept .., State.identify_kept .., State.mailboxDrop_kept ..,
        State.modMbox_kept .., State.reply_kept ..]) (by simp [State.badMessage_kept .., State.identify_kept ..,
        State.mailboxDrop_kept .., State.modMbox_kept .., State.reply_kept ..]) h
theorem runHeld_wf (s : State) (a : Nat) (x : HeldReq) (h : s.mem.wf = true) : (s.runHeld a x).mem.wf = true := by
  simp only [State.runHeld]
  split
  · exact h
  · exact runRequest_wf _ _ _ _ h
theorem runWaiting_wf (s : State) (a : Nat) (h : s.mem.wf = true) : (s.runWaiting a).mem.wf = true := by
  simp only [State.runWaiting]
  refine foldl_wf _ (fun s x hs => runHeld_wf s a x hs) _ _ ?_
  change (State.mem (List.foldl _ _ _)).wf = true
  refine foldl_wf _ (fun s j hs => ?_) _ _ h
  exact runOp_wf s a _ _ _ _ _ _ _ hs
theorem takeoverPair_wf (s : State) (p q : Nat) (h : s.mem.wf = true) : (s.takeoverPair p q).mem.wf = true := by
  simp only [State.takeoverPair]
  split
  · exact h
  · exact wf_of_same rfl rfl h
theorem drain_wf (s : State) (l : List JournalOp) (h : s.mem.wf = true) : (s.drain l).mem.wf = true := by
  induction l generalizing s with
  | nil => exact h
  | cons j r ih =>
    simp only [State.drain]
    have k := runOp_wf { s with shed := { s.shed with journal := [] } } j.a j.seq j.idx j.op j.fam j.inst j.mem j.val
      (wf_of_same rfl rfl h)
    exact ih _ (wf_of_same (by simp [State.queuedResult_kept ..]) (by simp [State.queuedResult_kept ..]) k)
theorem pairTaken_wf (s : State) (p q : Nat) (h : s.mem.wf = true) : (s.pairTaken p q).mem.wf = true := by
  simp only [State.pairTaken]
  split
  · exact h
  · have k := takeoverPair_wf s p q h
    exact runWaiting_wf _ _ (wf_of_same (by simp [State.applyTaken_kept ..]) (by simp [State.applyTaken_kept ..]) k)
theorem comesLive_wf (s : State) (h : s.mem.wf = true) : s.comesLive.mem.wf = true := by
  simp only [State.comesLive]
  split
  · exact h
  · refine drain_wf _ _ (foldl_wf _ (fun s a hs => ?_) _ _ (wf_of_same (by simp [State.applyHeld_kept ..,
      State.carve_kept .., State.graftAll_kept ..]) (by simp [State.applyHeld_kept .., State.carve_kept ..,
          State.graftAll_kept ..]) h))
    split
    · exact hs
    · exact runWaiting_wf s a hs
theorem windowWrite_wf (s : State) (a : Nat) (l : List Nat) (f : State → State)
    (hf : ∀ t : State, t.mem.wf = true → (f t).mem.wf = true) (h : s.mem.wf = true) : (s.windowWrite a l f).mem.wf = true := by
  simp only [State.windowWrite]
  split
  · exact wf_of_same (by simp [State.covers_kept ..]) (by simp [State.covers_kept ..]) h
  · exact hf _ (wf_of_same (by simp [State.covers_kept ..]) (by simp [State.covers_kept ..]) h)
theorem writeControl_wf (s : State) (a off : Nat) (p : Piece) (h : s.mem.wf = true) :
    (s.writeControl a off p).mem.wf = true := by
  simp only [State.writeControl]
  (repeat' split) <;> first
    | with_reducible exact mailboxGo_wf _ _ (wf_of_same (by simp [State.clampIf_kept .., State.mailboxAck_kept ..,
        State.modMbox_kept .., State.ringDoorbell_kept .., State.writeRequest_kept ..,
        State.writeRun_kept ..]) (by simp [State.clampIf_kept .., State.mailboxAck_kept .., State.modMbox_kept ..,
        State.ringDoorbell_kept .., State.writeRequest_kept .., State.writeRun_kept ..]) h)
    | exact wf_of_same (by simp [State.clampIf_kept .., State.mailboxAck_kept .., State.modMbox_kept ..,
        State.ringDoorbell_kept .., State.writeRequest_kept .., State.writeRun_kept ..]) (by simp [State.clampIf_kept ..,
        State.mailboxAck_kept .., State.modMbox_kept .., State.ringDoorbell_kept .., State.writeRequest_kept ..,
        State.writeRun_kept ..]) h
theorem writeDma_wf (s : State) (a c off : Nat) (p : Piece) (h : s.mem.wf = true) : (s.writeDma a c off p).mem.wf = true := by
  have hs : ∀ (t : State) (q : Prop) [Decidable q],
      t.mem.wf = true → (if q then t.dmaStart a c else t).mem.wf = true := by
    intro t q _ ht
    split
    · exact dmaStart_wf _ _ _ ht
    · exact ht
  have hd : ∀ (t : State) (q r : Prop) [Decidable q] [Decidable r], t.mem.wf = true →
      (if q then t else if r then t.dmaDisable a c else t.dmaClear a c).mem.wf = true := by
    intro t q r _ _ ht
    split
    · exact ht
    · split
      · exact dmaDisable_wf _ _ _ ht
      · exact wf_of_same (by simp [State.ite_kept .., State.clampIf_kept ..,
          State.dmaClear_kept ..]) (by simp [State.ite_kept .., State.clampIf_kept ..,
          State.dmaClear_kept ..]) ht
  unfold State.writeDma
  dsimp only
  split
  · exact wf_of_same (by simp [State.ite_kept .., State.clampIf_kept ..,
      State.dmaClear_kept ..]) (by simp [State.ite_kept .., State.clampIf_kept ..,
      State.dmaClear_kept ..]) h
  · exact wf_of_same (by simp [State.ite_kept .., State.clampIf_kept ..,
      State.dmaClear_kept ..]) (by simp [State.ite_kept .., State.clampIf_kept ..,
      State.dmaClear_kept ..]) h
  · exact hs _ _ (hd _ _ _ (wf_of_same (by simp [State.ite_kept .., State.clampIf_kept ..,
      State.dmaClear_kept ..]) (by simp [State.ite_kept .., State.clampIf_kept .., State.dmaClear_kept ..]) h))
  · exact h
theorem wf_ite {c : Prop} [Decidable c] {a b : State} (ha : a.mem.wf = true) (hb : b.mem.wf = true) :
    (if c then a else b).mem.wf = true := by split <;> assumption
theorem writeBlock_wf (s : State) (a off : Nat) (p : Piece) (h : s.mem.wf = true) : (s.writeBlock a off p).mem.wf = true := by
  unfold State.writeBlock
  exact wf_ite h (wf_ite (writeControl_wf _ _ _ _ h) (wf_ite h (wf_ite (writeControl_wf _ _ _ _ h)
    (wf_ite (writeDma_wf _ _ _ _ _ h) (wf_of_same (by simp [State.ite_kept .., State.latchCommand_kept ..,
        State.writeBed_kept ..,
        State.writeCells_kept .., State.writeFaults_kept .., State.writeIrq_kept ..,
        State.writeRing_kept ..]) (by simp [State.ite_kept .., State.latchCommand_kept .., State.writeBed_kept ..,
            State.writeCells_kept ..,
        State.writeFaults_kept .., State.writeIrq_kept .., State.writeRing_kept ..]) h)))))
theorem writeBit_wf (s : State) (a off : Nat) (v : Bool) (h : s.mem.wf = true) : (s.writeBit a off v).mem.wf = true := by
  simp only [State.writeBit]
  split
  · exact h
  · exact writeBlock_wf _ _ _ _ h
theorem writePiece_wf (s : State) (a off cov data : Nat) (h : s.mem.wf = true) :
    (s.writePiece a off cov data).mem.wf = true := by
  simp only [State.writePiece]
  (repeat' split) <;> first
    | with_reducible exact writeBit_wf _ _ _ _ (writeBit_wf _ _ _ _ h)
    | with_reducible exact writeBit_wf _ _ _ _ h
    | with_reducible exact writeBlock_wf _ _ _ _ h
    | exact h
theorem writeWindow_wf (s : State) (a off : Nat) (b : List Byte) (h : s.mem.wf = true) :
    (s.writeWindow a off b).mem.wf = true := by
  simp only [State.writeWindow]
  split
  · exact h
  · refine foldl_wf _ (fun t k ht => ?_) _ _ h
    exact writePiece_wf _ _ _ _ _ (wf_of_same (s := t) rfl rfl ht)

end Sys2Proof.Machine
end

