-- ==== Sys2Proof/Laws/MemoryExec.lean ====
section
/-! SUPPORT. The commands that can reach the exchange areas keep their canonical form (14). -/

namespace Sys2Proof.Machine

theorem execAlmanacMessage_wf {t port : Nat} {bytes : List Byte} {s u : State}
    (h : execAlmanacMessage t port bytes s = .next u) (hw : s.mem.wf = true) :
    u.mem.wf = true := by
  obtain ⟨_, rfl⟩ := onUnit_next.1 h
  exact udpMessage_wf _ _ _ hw
theorem execGo_wf {t a : Nat} {s u : State}
    (h : execGo t a s = .next u) (hw : s.mem.wf = true) :
    u.mem.wf = true := by
  obtain ⟨_, rfl⟩ := onUnit_next.1 h
  exact mailboxGo_wf _ _ hw
theorem execRead_wf {t a fam inst mem : Nat} {arg : List Byte} {s u : State}
    (h : execRead t a fam inst mem arg s = .next u) (hw : s.mem.wf = true) :
    u.mem.wf = true := by
  obtain ⟨_, rfl⟩ := onUnit_next.1 h
  exact order_wf _ _ _ _ _ _ _ hw
theorem execWrite_wf {t a fam inst mem : Nat} {val : List Byte} {s u : State}
    (h : execWrite t a fam inst mem val s = .next u) (hw : s.mem.wf = true) :
    u.mem.wf = true := by
  obtain ⟨_, rfl⟩ := onUnit_next.1 h
  exact order_wf _ _ _ _ _ _ _ hw
theorem execWriteStaged_wf {t a fam inst mem length : Nat} {s u : State}
    (h : execWriteStaged t a fam inst mem length s = .next u) (hw : s.mem.wf = true) :
    u.mem.wf = true := by
  obtain ⟨_, rfl⟩ := onUnit_next.1 h
  exact order_wf _ _ _ _ _ _ _ hw
theorem execStage_wf {t a offset : Nat} {bytes : List Byte} {s u : State}
    (h : execStage t a offset bytes s = .next u) (hw : s.mem.wf = true) :
    u.mem.wf = true := by
  obtain ⟨_, rfl⟩ := onUnit_next.1 h
  exact order_wf _ _ _ _ _ _ _ hw
theorem execClearStage_wf {t a : Nat} {s u : State}
    (h : execClearStage t a s = .next u) (hw : s.mem.wf = true) :
    u.mem.wf = true := by
  obtain ⟨_, rfl⟩ := onUnit_next.1 h
  exact order_wf _ _ _ _ _ _ _ hw
theorem execKey_wf {t a allot : Nat} {val : List Byte} {s u : State}
    (h : execKey t a allot val s = .next u) (hw : s.mem.wf = true) :
    u.mem.wf = true := by
  obtain ⟨_, rfl⟩ := onUnit_next.1 h
  exact order_wf _ _ _ _ _ _ _ hw
theorem execShedLive_wf {t : Nat} {s u : State}
    (h : execShedLive t s = .next u) (hw : s.mem.wf = true) :
    u.mem.wf = true := by
  cases h
  exact comesLive_wf _ hw
theorem execCorePairTakeover_wf {t pair byPair : Nat} {s u : State}
    (h : execCorePairTakeover t pair byPair s = .next u) (hw : s.mem.wf = true) :
    u.mem.wf = true := by
  obtain ⟨_, rfl⟩ := onUnit_next.1 h
  exact pairTaken_wf _ _ _ hw
theorem execPatchLoad_wf {t a : Nat} {set : List Byte} {s u : State}
    (h : execPatchLoad t a set s = .next u) (hw : s.mem.wf = true) :
    u.mem.wf = true := by
  obtain ⟨_, rfl⟩ := onUnit_next.1 h
  exact order_wf _ _ _ _ _ _ _ hw
theorem execPowerReq_wf {t a bed val : Nat} {s u : State}
    (h : execPowerReq t a bed val s = .next u) (hw : s.mem.wf = true) :
    u.mem.wf = true := by
  obtain ⟨_, rfl⟩ := onUnit_next.1 h
  exact order_wf _ _ _ _ _ _ _ hw
theorem execRun_wf {t a allot bed : Nat} {on : Bool} {s u : State}
    (h : execRun t a allot bed on s = .next u) (hw : s.mem.wf = true) :
    u.mem.wf = true := by
  obtain ⟨_, rfl⟩ := onUnit_next.1 h
  exact order_wf _ _ _ _ _ _ _ hw
theorem execCalStart_wf {t a kind : Nat} {units : List Nat} {s u : State}
    (h : execCalStart t a kind units s = .next u) (hw : s.mem.wf = true) :
    u.mem.wf = true := by
  obtain ⟨_, rfl⟩ := onUnit_next.1 h
  exact order_wf _ _ _ _ _ _ _ hw
theorem execEpoch_wf {t a time : Nat} {s u : State}
    (h : execEpoch t a time s = .next u) (hw : s.mem.wf = true) :
    u.mem.wf = true := by
  obtain ⟨_, rfl⟩ := onUnit_next.1 h
  exact order_wf _ _ _ _ _ _ _ hw
theorem execDiscard_wf {t a : Nat} {s u : State}
    (h : execDiscard t a s = .next u) (hw : s.mem.wf = true) :
    u.mem.wf = true := by
  obtain ⟨_, rfl⟩ := onUnit_next.1 h
  exact order_wf _ _ _ _ _ _ _ hw
theorem execTrimSet_wf {t a : Nat} {s u : State}
    (h : execTrimSet t a s = .next u) (hw : s.mem.wf = true) :
    u.mem.wf = true := by
  obtain ⟨_, rfl⟩ := onUnit_next.1 h
  exact order_wf _ _ _ _ _ _ _ hw
theorem execTrimRestore_wf {t a side : Nat} {set : List Byte} {s u : State}
    (h : execTrimRestore t a side set s = .next u) (hw : s.mem.wf = true) :
    u.mem.wf = true := by
  obtain ⟨_, rfl⟩ := onUnit_next.1 h
  exact order_wf _ _ _ _ _ _ _ hw
theorem execRetest_wf {t a bed : Nat} {s u : State}
    (h : execRetest t a bed s = .next u) (hw : s.mem.wf = true) :
    u.mem.wf = true := by
  obtain ⟨_, rfl⟩ := onUnit_next.1 h
  exact order_wf _ _ _ _ _ _ _ hw
theorem execCfSource_wf {t a val : Nat} {s u : State}
    (h : execCfSource t a val s = .next u) (hw : s.mem.wf = true) :
    u.mem.wf = true := by
  obtain ⟨_, rfl⟩ := onUnit_next.1 h
  exact order_wf _ _ _ _ _ _ _ hw
theorem execTimeSet_wf {t a val : Nat} {s u : State}
    (h : execTimeSet t a val s = .next u) (hw : s.mem.wf = true) :
    u.mem.wf = true := by
  obtain ⟨_, rfl⟩ := onUnit_next.1 h
  exact order_wf _ _ _ _ _ _ _ hw
theorem execCounterSel_wf {t a counter : Nat} {val : List Byte} {s u : State}
    (h : execCounterSel t a counter val s = .next u) (hw : s.mem.wf = true) :
    u.mem.wf = true := by
  obtain ⟨_, rfl⟩ := onUnit_next.1 h
  exact order_wf _ _ _ _ _ _ _ hw
theorem execFreeze_wf {t a val : Nat} {s u : State}
    (h : execFreeze t a val s = .next u) (hw : s.mem.wf = true) :
    u.mem.wf = true := by
  obtain ⟨_, rfl⟩ := onUnit_next.1 h
  exact order_wf _ _ _ _ _ _ _ hw
theorem execSnapshot_wf {t a : Nat} {s u : State}
    (h : execSnapshot t a s = .next u) (hw : s.mem.wf = true) :
    u.mem.wf = true := by
  obtain ⟨_, rfl⟩ := onUnit_next.1 h
  exact order_wf _ _ _ _ _ _ _ hw
theorem execHarvestList_wf {t a allot : Nat} {list : List (Nat × Nat)} {s u : State}
    (h : execHarvestList t a allot list s = .next u) (hw : s.mem.wf = true) :
    u.mem.wf = true := by
  obtain ⟨_, rfl⟩ := onUnit_next.1 h
  exact order_wf _ _ _ _ _ _ _ hw
theorem execHistClear_wf {t a slot : Nat} {s u : State}
    (h : execHistClear t a slot s = .next u) (hw : s.mem.wf = true) :
    u.mem.wf = true := by
  obtain ⟨_, rfl⟩ := onUnit_next.1 h
  exact order_wf _ _ _ _ _ _ _ hw
theorem execQueueWrite_wf {t a lp : Nat} {rec : List Byte} {s u : State}
    (h : execQueueWrite t a lp rec s = .next u) (hw : s.mem.wf = true) :
    u.mem.wf = true := by
  obtain ⟨_, rfl⟩ := onUnit_next.1 h
  exact order_wf _ _ _ _ _ _ _ hw
theorem execQueueRead_wf {t a lp index : Nat} {s u : State}
    (h : execQueueRead t a lp index s = .next u) (hw : s.mem.wf = true) :
    u.mem.wf = true := by
  obtain ⟨_, rfl⟩ := onUnit_next.1 h
  exact order_wf _ _ _ _ _ _ _ hw
theorem execQueueEnable_wf {t a allot queue : Nat} {on : Bool} {s u : State}
    (h : execQueueEnable t a allot queue on s = .next u) (hw : s.mem.wf = true) :
    u.mem.wf = true := by
  obtain ⟨_, rfl⟩ := onUnit_next.1 h
  exact order_wf _ _ _ _ _ _ _ hw
theorem execForce_wf {t a id val : Nat} {s u : State}
    (h : execForce t a id val s = .next u) (hw : s.mem.wf = true) :
    u.mem.wf = true := by
  obtain ⟨_, rfl⟩ := onUnit_next.1 h
  exact order_wf _ _ _ _ _ _ _ hw
theorem execClass_wf {t a id val : Nat} {s u : State}
    (h : execClass t a id val s = .next u) (hw : s.mem.wf = true) :
    u.mem.wf = true := by
  obtain ⟨_, rfl⟩ := onUnit_next.1 h
  exact order_wf _ _ _ _ _ _ _ hw
theorem execRecordClear_wf {t a rec : Nat} {s u : State}
    (h : execRecordClear t a rec s = .next u) (hw : s.mem.wf = true) :
    u.mem.wf = true := by
  obtain ⟨_, rfl⟩ := onUnit_next.1 h
  exact order_wf _ _ _ _ _ _ _ hw
theorem execUnitReset_wf {t a domain unit : Nat} {s u : State}
    (h : execUnitReset t a domain unit s = .next u) (hw : s.mem.wf = true) :
    u.mem.wf = true := by
  obtain ⟨_, rfl⟩ := onUnit_next.1 h
  exact order_wf _ _ _ _ _ _ _ hw
theorem execInjectEnable_wf {t a val : Nat} {s u : State}
    (h : execInjectEnable t a val s = .next u) (hw : s.mem.wf = true) :
    u.mem.wf = true := by
  obtain ⟨_, rfl⟩ := onUnit_next.1 h
  exact order_wf _ _ _ _ _ _ _ hw
theorem execAlertSw_wf {t a val : Nat} {s u : State}
    (h : execAlertSw t a val s = .next u) (hw : s.mem.wf = true) :
    u.mem.wf = true := by
  obtain ⟨_, rfl⟩ := onUnit_next.1 h
  exact order_wf _ _ _ _ _ _ _ hw
theorem execCutTo_wf {t a slot ch : Nat} {s u : State}
    (h : execCutTo t a slot ch s = .next u) (hw : s.mem.wf = true) :
    u.mem.wf = true := by
  obtain ⟨_, rfl⟩ := onUnit_next.1 h
  exact order_wf _ _ _ _ _ _ _ hw
theorem execBreakout_wf {t a fp code : Nat} {s u : State}
    (h : execBreakout t a fp code s = .next u) (hw : s.mem.wf = true) :
    u.mem.wf = true := by
  obtain ⟨_, rfl⟩ := onUnit_next.1 h
  exact order_wf _ _ _ _ _ _ _ hw
theorem execEnable_wf {t a lp val : Nat} {s u : State}
    (h : execEnable t a lp val s = .next u) (hw : s.mem.wf = true) :
    u.mem.wf = true := by
  obtain ⟨_, rfl⟩ := onUnit_next.1 h
  exact order_wf _ _ _ _ _ _ _ hw
theorem execFlowWrite_wf {t a : Nat} {rec : List Byte} {s u : State}
    (h : execFlowWrite t a rec s = .next u) (hw : s.mem.wf = true) :
    u.mem.wf = true := by
  obtain ⟨_, rfl⟩ := onUnit_next.1 h
  exact order_wf _ _ _ _ _ _ _ hw
theorem execFlowDelete_wf {t a : Nat} {key : List Byte} {s u : State}
    (h : execFlowDelete t a key s = .next u) (hw : s.mem.wf = true) :
    u.mem.wf = true := by
  obtain ⟨_, rfl⟩ := onUnit_next.1 h
  exact order_wf _ _ _ _ _ _ _ hw
theorem execFlowRead_wf {t a : Nat} {key : List Byte} {s u : State}
    (h : execFlowRead t a key s = .next u) (hw : s.mem.wf = true) :
    u.mem.wf = true := by
  obtain ⟨_, rfl⟩ := onUnit_next.1 h
  exact order_wf _ _ _ _ _ _ _ hw
theorem execDeliveryWrite_wf {t a index : Nat} {entry : DeliveryWord} {s u : State}
    (h : execDeliveryWrite t a index entry s = .next u) (hw : s.mem.wf = true) :
    u.mem.wf = true := by
  obtain ⟨_, rfl⟩ := onUnit_next.1 h
  exact order_wf _ _ _ _ _ _ _ hw
theorem execDeliveryRead_wf {t a index : Nat} {s u : State}
    (h : execDeliveryRead t a index s = .next u) (hw : s.mem.wf = true) :
    u.mem.wf = true := by
  obtain ⟨_, rfl⟩ := onUnit_next.1 h
  exact order_wf _ _ _ _ _ _ _ hw
theorem execBlockGrant_wf {t a block owner linkFrom : Nat} {s u : State}
    (h : execBlockGrant t a block owner linkFrom s = .next u) (hw : s.mem.wf = true) :
    u.mem.wf = true := by
  obtain ⟨_, rfl⟩ := onUnit_next.1 h
  exact order_wf _ _ _ _ _ _ _ hw
theorem execStaticL2_wf {t a vid : Nat} {mac : Mac} {lp : Nat} {remove : Bool} {s u : State}
    (h : execStaticL2 t a vid mac lp remove s = .next u) (hw : s.mem.wf = true) :
    u.mem.wf = true := by
  obtain ⟨_, rfl⟩ := onUnit_next.1 h
  exact order_wf _ _ _ _ _ _ _ hw
theorem execInterval_wf {t a val : Nat} {s u : State}
    (h : execInterval t a val s = .next u) (hw : s.mem.wf = true) :
    u.mem.wf = true := by
  obtain ⟨_, rfl⟩ := onUnit_next.1 h
  exact order_wf _ _ _ _ _ _ _ hw
theorem execTariff_wf {t a : Nat} {val : List Byte} {s u : State}
    (h : execTariff t a val s = .next u) (hw : s.mem.wf = true) :
    u.mem.wf = true := by
  obtain ⟨_, rfl⟩ := onUnit_next.1 h
  exact order_wf _ _ _ _ _ _ _ hw
theorem execRecord_wf {t a seq : Nat} {s u : State}
    (h : execRecord t a seq s = .next u) (hw : s.mem.wf = true) :
    u.mem.wf = true := by
  obtain ⟨_, rfl⟩ := onUnit_next.1 h
  exact order_wf _ _ _ _ _ _ _ hw
theorem execLogClear_wf {t a stack : Nat} {s u : State}
    (h : execLogClear t a stack s = .next u) (hw : s.mem.wf = true) :
    u.mem.wf = true := by
  obtain ⟨_, rfl⟩ := onUnit_next.1 h
  exact order_wf _ _ _ _ _ _ _ hw
theorem execOpPoint_wf {t a stack val : Nat} {s u : State}
    (h : execOpPoint t a stack val s = .next u) (hw : s.mem.wf = true) :
    u.mem.wf = true := by
  obtain ⟨_, rfl⟩ := onUnit_next.1 h
  exact order_wf _ _ _ _ _ _ _ hw
theorem execStart_wf {t a ch : Nat} {s u : State}
    (h : execStart t a ch s = .next u) (hw : s.mem.wf = true) :
    u.mem.wf = true := by
  obtain ⟨_, rfl⟩ := onUnit_next.1 h
  simp only [State.onChannel]
  exact wf_ite (dmaStart_wf _ _ _ hw) hw
theorem execDisable_wf {t a ch : Nat} {s u : State}
    (h : execDisable t a ch s = .next u) (hw : s.mem.wf = true) :
    u.mem.wf = true := by
  obtain ⟨_, rfl⟩ := onUnit_next.1 h
  simp only [State.onChannel]
  exact wf_ite (dmaDisable_wf _ _ _ hw) hw
theorem execDmaRequestDone_wf {t ch offset : Nat} {data : List Byte} {s u : State}
    (h : execDmaRequestDone t ch offset data s = .next u) (hw : s.mem.wf = true) :
    u.mem.wf = true := by
  obtain ⟨_, rfl⟩ := onUnit_next.1 h
  exact dmaArrive_wf _ _ _ _ hw
theorem execDmaRequestFail_wf {t ch offset cause : Nat} {s u : State}
    (h : execDmaRequestFail t ch offset cause s = .next u) (hw : s.mem.wf = true) :
    u.mem.wf = true := by
  obtain ⟨_, rfl⟩ := onUnit_next.1 h
  exact dmaFail_wf _ _ _ _ hw
theorem execPowerUp_wf {t : Nat} {tempC : Int} {split : BitVec 4} {s u : State}
    (h : execPowerUp t tempC split s = .next u) (hw : s.mem.wf = true) :
    u.mem.wf = true := by
  cases h
  exact powersUp_wf _ _ _ hw
theorem execAdmit_wf {t a fam slot val : Nat} {s u : State}
    (h : execAdmit t a fam slot val s = .next u) (hw : s.mem.wf = true) :
    u.mem.wf = true := by
  obtain ⟨_, rfl⟩ := onUnit_next.1 h
  exact order_wf _ _ _ _ _ _ _ hw
theorem execSlotGrant_wf {t a allot first count : Nat} {s u : State}
    (h : execSlotGrant t a allot first count s = .next u) (hw : s.mem.wf = true) :
    u.mem.wf = true := by
  obtain ⟨_, rfl⟩ := onUnit_next.1 h
  exact order_wf _ _ _ _ _ _ _ hw
theorem execMainFeed_wf {t a val : Nat} {s u : State}
    (h : execMainFeed t a val s = .next u) (hw : s.mem.wf = true) :
    u.mem.wf = true := by
  obtain ⟨_, rfl⟩ := onUnit_next.1 h
  exact order_wf _ _ _ _ _ _ _ hw
theorem execSet_wf {t a gpo : Nat} {level : Bool} {applyAt : Nat} {s u : State}
    (h : execSet t a gpo level applyAt s = .next u) (hw : s.mem.wf = true) :
    u.mem.wf = true := by
  obtain ⟨_, rfl⟩ := onUnit_next.1 h
  exact order_wf _ _ _ _ _ _ _ hw
theorem execSparePool_wf {t a val : Nat} {s u : State}
    (h : execSparePool t a val s = .next u) (hw : s.mem.wf = true) :
    u.mem.wf = true := by
  obtain ⟨_, rfl⟩ := onUnit_next.1 h
  exact order_wf _ _ _ _ _ _ _ hw
theorem execPeer_wf {t a ch val : Nat} {s u : State}
    (h : execPeer t a ch val s = .next u) (hw : s.mem.wf = true) :
    u.mem.wf = true := by
  obtain ⟨_, rfl⟩ := onUnit_next.1 h
  exact order_wf _ _ _ _ _ _ _ hw
theorem execRegisterWrite_wf {t a offset : Nat} {bytes : List Byte} {s u : State}
    (h : execRegisterWrite t a offset bytes s = .next u) (hw : s.mem.wf = true) :
    u.mem.wf = true := by
  obtain ⟨_, rfl⟩ := onUnit_next.1 h
  exact writeWindow_wf _ _ _ _ hw
theorem execBitAliasWrite_wf {t a offset : Nat} {data : BitVec 32} {s u : State}
    (h : execBitAliasWrite t a offset data s = .next u) (hw : s.mem.wf = true) :
    u.mem.wf = true := by
  obtain ⟨_, rfl⟩ := onUnit_next.1 h
  exact writeBit_wf _ _ _ _ hw
theorem execReset_wf {t a allot : Nat} {s u : State}
    (h : execReset t a allot s = .next u) (hw : s.mem.wf = true) :
    u.mem.wf = true := by
  obtain ⟨_, rfl⟩ := onUnit_next.1 h
  exact order_wf _ _ _ _ _ _ _ hw
theorem execPcieLinkReset_wf {t link kind : Nat} {s u : State}
    (h : execPcieLinkReset t link kind s = .next u) (hw : s.mem.wf = true) :
    u.mem.wf = true := by
  obtain ⟨_, rfl⟩ := onUnit_next.1 h
  exact resetLink_wf _ _ _ hw

end Sys2Proof.Machine
end

