-- ==== Sys2Proof/Laws/PerInstr.lean ====
section
/-! SUPPORT. What holds of every command as syntax, one lemma for each constructor: a well-formed command that acts
for an allotment acts for one of the 16 (R2). -/

namespace Sys2Proof.Laws.WellFormed

/-- The allotment a command acts for: the writer through a window or of an entry, or the one whose mailbox or harvest it is. -/
def ofAllot : Instr → Option Nat
  | .laneFail _ _ _ => none
  | .laneMoveDone _ _ _ => none
  | .pruneRequest _ _ _ _ _ => none
  | .shedRestart _ _ _ => none
  | .shedLive _ => none
  | .corePairTakeover _ _ _ => none
  | .breakout _ a _ _ => some a
  | .enable _ a _ _ => some a
  | .signalLoss _ _ => none
  | .fecAligned _ _ => none
  | .fecIntervalEnd _ _ _ _ => none
  | .frameArrive _ _ _ => none
  | .parseFrame _ _ _ => none
  | .pfcPauseEnd _ _ _ => none
  | .crossingSend _ _ => none
  | .crossingArrive _ _ _ => none
  | .crossingAck _ _ => none
  | .ageScan _ _ => none
  | .parityRewrite _ _ => none
  | .deliveryRewrite _ _ _ => none
  | .flowWrite _ a _ => some a
  | .flowDelete _ a _ => some a
  | .flowRead _ a _ => some a
  | .deliveryWrite _ a _ _ => some a
  | .deliveryRead _ a _ => some a
  | .blockGrant _ a _ _ _ => some a
  | .staticL2 _ a _ _ _ _ => some a
  | .portFrameStart _ _ _ => none
  | .frameTxEnd _ _ => none
  | .shaperRefill _ _ _ _ => none
  | .gateEntryChange _ _ => none
  | .gateScheduleChange _ _ => none
  | .queueWrite _ a _ _ => some a
  | .queueRead _ a _ _ => some a
  | .queueEnable _ a _ _ _ => some a
  | .deepShareInterval _ _ => none
  | .consume _ a _ => some a
  | .flush _ a _ => some a
  | .statusReset _ a _ => some a
  | .entryRead _ a _ => some a
  | .intakePacket _ _ _ _ _ => none
  | .mergeWaitExpiry _ _ => none
  | .legTimeout _ _ _ => none
  | .pictureTimeout _ _ => none
  | .missingPicture _ _ => none
  | .auSlotEnd _ _ => none
  | .feedLineRead _ _ _ => none
  | .pendingTake _ _ _ => none
  | .lineAck _ _ _ _ => none
  | .cutTo _ a _ _ => some a
  | .pictureBoundary _ _ => none
  | .outtakeRowRead _ _ _ => none
  | .wordIssue _ _ => none
  | .wordRetire _ _ _ => none
  | .waitMet _ _ _ => none
  | .waitTimeout _ _ _ => none
  | .trapReq _ a _ _ _ => some a
  | .patchLoad _ a _ => some a
  | .sleepDelayExpiry _ _ => none
  | .sleepDone _ _ => none
  | .wake _ a _ => some a
  | .sleep _ a _ => some a
  | .powerReq _ a _ _ => some a
  | .wakeDone _ _ => none
  | .run _ a _ _ _ => some a
  | .admitSlot _ a _ _ _ => some a
  | .streamAdmitted _ _ => none
  | .periodChange _ _ => none
  | .slotGrant _ a _ _ _ => some a
  | .sieveCopyArrive _ _ _ => none
  | .sieveWindowClose _ _ _ _ _ _ => none
  | .retrialChoice _ _ _ => none
  | .voteTimeout _ _ => none
  | .doubleFaultRestart _ _ => none
  | .excuseTimeout _ _ => none
  | .scionChoice _ _ => none
  | .transplantEnd _ _ _ => none
  | .cuttingBoundary _ _ => none
  | .probationEnd _ _ => none
  | .exposureLimit _ _ => none
  | .bedUnitReset _ _ => none
  | .cuttingCompare _ _ _ _ => none
  | .sparePool _ a _ => some a
  | .peer _ a _ _ => some a
  | .almanacMessage _ _ _ => none
  | .identifyRequest _ _ _ _ => none
  | .go _ a => some a
  | .ack _ a => some a
  | .gapTimeout _ a _ => some a
  | .read _ a _ _ _ _ => some a
  | .write _ a _ _ _ _ => some a
  | .writeStaged _ a _ _ _ _ => some a
  | .stage _ a _ _ => some a
  | .clearStage _ a => some a
  | .addressChangeEffect _ _ => none
  | .key _ a _ _ => some a
  | .keyGraceEnd _ _ => none
  | .registerWrite _ a _ _ => some a
  | .bitAliasWrite _ a _ _ => some a
  | .doorbell _ a _ => some a
  | .acquire _ a _ _ => some a
  | .release _ a _ => some a
  | .reset _ a _ => some a
  | .pcieLinkReset _ _ _ => none
  | .voteScrub _ _ => none
  | .claim _ a _ => some a
  | .complete _ a _ _ => some a
  | .sourceClear _ a => some a
  | .msixUnmask _ a _ => some a
  | .msixEnable _ a _ => some a
  | .shedClaim _ _ _ _ => none
  | .scrub _ _ _ _ _ => none
  | .logClear _ a _ => some a
  | .opPoint _ a _ _ => some a
  | .pllLock _ _ => none
  | .opChangeStart _ _ => none
  | .stackHold _ _ => none
  | .opChangeDone _ _ => none
  | .opChangeTimeout _ _ => none
  | .start _ a _ => some a
  | .disable _ a _ => some a
  | .disableClear _ a _ => some a
  | .dmaRequestDone _ _ _ _ => none
  | .dmaRequestFail _ _ _ _ => none
  | .faultRaise _ _ => none
  | .faultCauseGone _ _ => none
  | .force _ a _ _ => some a
  | .classSet _ a _ _ => some a
  | .recordClear _ a _ => some a
  | .unitReset _ a _ _ => some a
  | .unitResetEnd _ _ _ => none
  | .injectEnable _ a _ => some a
  | .alertSw _ a _ => some a
  | .aliveTick _ => none
  | .alertPulseEnd _ _ => none
  | .calStart _ a _ _ => some a
  | .pairMeasureDone _ _ _ => none
  | .alignTimeout _ _ => none
  | .sensorCalDone _ _ => none
  | .epoch _ a _ => some a
  | .trimEpoch _ => none
  | .discard _ a => some a
  | .trimSet _ a => some a
  | .trimRestore _ a _ _ => some a
  | .soilTestStart _ _ => none
  | .soilTestEnd _ _ _ => none
  | .retest _ a _ => some a
  | .counterSel _ a _ _ => some a
  | .freeze _ a _ => some a
  | .snapshot _ a => some a
  | .bedCounterOverflow _ _ _ _ _ _ _ _ _ => none
  | .harvestInstant _ => none
  | .harvestComplete _ a => some a
  | .harvestList _ a _ _ => some a
  | .histClear _ a _ => some a
  | .meterSend _ _ => none
  | .meterMissing _ _ => none
  | .gaugeTime _ => none
  | .gaugeTimeFree _ => none
  | .gaugeBoundary _ => none
  | .gaugeClose _ => none
  | .gaugeRecordSend _ => none
  | .gaugeReplay _ => none
  | .sealOpen _ => none
  | .rgKeepReturn _ => none
  | .interval _ a _ => some a
  | .tariff _ a _ => some a
  | .record _ a _ => some a
  | .feedInRange _ _ => none
  | .feedOutOfRange _ _ => none
  | .switchback _ => none
  | .feedsLost _ => none
  | .mainFeed _ a _ => some a
  | .phaseFail _ _ => none
  | .keepLoss _ => none
  | .tempWarnCross _ _ => none
  | .thermalTrip _ => none
  | .lifeHour _ _ => none
  | .gpiChange _ _ _ => none
  | .set _ a _ _ _ => some a
  | .gpoApply _ _ => none
  | .gpoFailsafe _ => none
  | .timingEdge _ _ => none
  | .refInputLost _ _ => none
  | .barrierMessageError _ => none
  | .refclkWindow _ _ _ => none
  | .cfSource _ a _ => some a
  | .blockWakeDone _ _ => none
  | .ptpSync _ _ _ => none
  | .announce _ _ _ => none
  | .announceTimeout _ => none
  | .delayReq _ _ _ => none
  | .holdoverSpecExpiry _ => none
  | .timeSet _ a _ => some a
  | .powerUp _ _ _ => none
  | .memoryTrainingDone _ _ => none
  | .trimsRestored _ => none
  | .pipelineRelease _ => none
  | .almanacLive _ => none
  | .fullReadiness _ => none
  | .perstRelease _ _ => none
  | .rgKeepLoss _ => none
  | .hedgeVLoss _ => none
  | .dorsenRuns _ _ => none
  | .ptpManagement _ _ _ _ => none
  | .syncAndAnnounceSend _ _ _ => none
  | .configurationRequest _ _ => none

/-- A well-formed command that an allotment issues names an allotment that exists. -/
def Statement (i : Instr) : Prop := i.wellFormed = true → ∀ a, ofAllot i = some a → a < 16
theorem inRange {a n : Nat} (h : isAllot a = true) (e : some a = some n) : n < 16 := by
  cases e
  exact of_decide_eq_true h
theorem and_left {a b : Bool} (h : (a && b) = true) : a = true := (Bool.and_eq_true a b ▸ h).1

theorem laneFail (x0 : Nat) (x1 : Nat) (x2 : Nat) : Statement (.laneFail x0 x1 x2) := fun _ _ e => nomatch e
theorem laneMoveDone (x0 : Nat) (x1 : Nat) (x2 : Nat) : Statement (.laneMoveDone x0 x1 x2) := fun _ _ e => nomatch e
theorem pruneRequest (x0 : Nat) (x1 : Nat) (x2 : Nat) (x3 : Nat) (x4 : Nat) : Statement (.pruneRequest x0 x1 x2 x3 x4) := fun _ _ e => nomatch e
theorem shedRestart (x0 : Nat) (x1 : Option Nat) (x2 : Nat) : Statement (.shedRestart x0 x1 x2) := fun _ _ e => nomatch e
theorem shedLive (x0 : Nat) : Statement (.shedLive x0) := fun _ _ e => nomatch e
theorem corePairTakeover (x0 : Nat) (x1 : Nat) (x2 : Nat) : Statement (.corePairTakeover x0 x1 x2) := fun _ _ e => nomatch e
theorem breakout (x0 : Nat) (x1 : Nat) (x2 : Nat) (x3 : Nat) : Statement (.breakout x0 x1 x2 x3) := fun h _ e => inRange h e
theorem enable (x0 : Nat) (x1 : Nat) (x2 : Nat) (x3 : Nat) : Statement (.enable x0 x1 x2 x3) := fun h _ e => inRange h e
theorem signalLoss (x0 : Nat) (x1 : Nat) : Statement (.signalLoss x0 x1) := fun _ _ e => nomatch e
theorem fecAligned (x0 : Nat) (x1 : Nat) : Statement (.fecAligned x0 x1) := fun _ _ e => nomatch e
theorem fecIntervalEnd (x0 : Nat) (x1 : Nat) (x2 : Nat) (x3 : Nat) : Statement (.fecIntervalEnd x0 x1 x2 x3) := fun _ _ e => nomatch e
theorem frameArrive (x0 : Nat) (x1 : Nat) (x2 : Frame) : Statement (.frameArrive x0 x1 x2) := fun _ _ e => nomatch e
theorem parseFrame (x0 : Nat) (x1 : Nat) (x2 : Upset) : Statement (.parseFrame x0 x1 x2) := fun _ _ e => nomatch e
theorem pfcPauseEnd (x0 : Nat) (x1 : Nat) (x2 : Nat) : Statement (.pfcPauseEnd x0 x1 x2) := fun _ _ e => nomatch e
theorem crossingSend (x0 : Nat) (x1 : Nat) : Statement (.crossingSend x0 x1) := fun _ _ e => nomatch e
theorem crossingArrive (x0 : Nat) (x1 : Nat) (x2 : Upset) : Statement (.crossingArrive x0 x1 x2) := fun _ _ e => nomatch e
theorem crossingAck (x0 : Nat) (x1 : Nat) : Statement (.crossingAck x0 x1) := fun _ _ e => nomatch e
theorem ageScan (x0 : Nat) (x1 : Nat) : Statement (.ageScan x0 x1) := fun _ _ e => nomatch e
theorem parityRewrite (x0 : Nat) (x1 : Nat) : Statement (.parityRewrite x0 x1) := fun _ _ e => nomatch e
theorem deliveryRewrite (x0 : Nat) (x1 : Nat) (x2 : Nat) : Statement (.deliveryRewrite x0 x1 x2) := fun _ _ e => nomatch e
theorem flowWrite (x0 : Nat) (x1 : Nat) (x2 : List Byte) : Statement (.flowWrite x0 x1 x2) := fun h _ e => inRange h e
theorem flowDelete (x0 : Nat) (x1 : Nat) (x2 : List Byte) : Statement (.flowDelete x0 x1 x2) := fun h _ e => inRange h e
theorem flowRead (x0 : Nat) (x1 : Nat) (x2 : List Byte) : Statement (.flowRead x0 x1 x2) := fun h _ e => inRange h e
theorem deliveryWrite (x0 : Nat) (x1 : Nat) (x2 : Nat) (x3 : DeliveryWord) : Statement (.deliveryWrite x0 x1 x2 x3) := fun h _ e => inRange h e
theorem deliveryRead (x0 : Nat) (x1 : Nat) (x2 : Nat) : Statement (.deliveryRead x0 x1 x2) := fun h _ e => inRange h e
theorem blockGrant (x0 : Nat) (x1 : Nat) (x2 : Nat) (x3 : Nat) (x4 : Nat) : Statement (.blockGrant x0 x1 x2 x3 x4) := fun h _ e => inRange h e
theorem staticL2 (x0 : Nat) (x1 : Nat) (x2 : Nat) (x3 : Mac) (x4 : Nat) (x5 : Bool) : Statement (.staticL2 x0 x1 x2 x3 x4 x5) := fun h _ e => inRange h e
theorem portFrameStart (x0 : Nat) (x1 : Nat) (x2 : Bool) : Statement (.portFrameStart x0 x1 x2) := fun _ _ e => nomatch e
theorem frameTxEnd (x0 : Nat) (x1 : Nat) : Statement (.frameTxEnd x0 x1) := fun _ _ e => nomatch e
theorem shaperRefill (x0 : Nat) (x1 : Nat) (x2 : Bool) (x3 : Nat) : Statement (.shaperRefill x0 x1 x2 x3) := fun _ _ e => nomatch e
theorem gateEntryChange (x0 : Nat) (x1 : Nat) : Statement (.gateEntryChange x0 x1) := fun _ _ e => nomatch e
theorem gateScheduleChange (x0 : Nat) (x1 : Nat) : Statement (.gateScheduleChange x0 x1) := fun _ _ e => nomatch e
theorem queueWrite (x0 : Nat) (x1 : Nat) (x2 : Nat) (x3 : List Byte) : Statement (.queueWrite x0 x1 x2 x3) := fun h _ e => inRange h e
theorem queueRead (x0 : Nat) (x1 : Nat) (x2 : Nat) (x3 : Nat) : Statement (.queueRead x0 x1 x2 x3) := fun h _ e => inRange h e
theorem queueEnable (x0 : Nat) (x1 : Nat) (x2 : Nat) (x3 : Nat) (x4 : Bool) : Statement (.queueEnable x0 x1 x2 x3 x4) := fun h _ e => inRange h e
theorem deepShareInterval (x0 : Nat) (x1 : Nat) : Statement (.deepShareInterval x0 x1) := fun _ _ e => nomatch e
theorem consume (x0 : Nat) (x1 : Nat) (x2 : Nat) : Statement (.consume x0 x1 x2) := fun h _ e => inRange h e
theorem flush (x0 : Nat) (x1 : Nat) (x2 : Nat) : Statement (.flush x0 x1 x2) := fun h _ e => inRange h e
theorem statusReset (x0 : Nat) (x1 : Nat) (x2 : Nat) : Statement (.statusReset x0 x1 x2) := fun h _ e => inRange h e
theorem entryRead (x0 : Nat) (x1 : Nat) (x2 : Nat) : Statement (.entryRead x0 x1 x2) := fun h _ e => inRange h e
theorem intakePacket (x0 : Nat) (x1 : Nat) (x2 : Nat) (x3 : Nat) (x4 : IntakePkt) : Statement (.intakePacket x0 x1 x2 x3 x4) := fun _ _ e => nomatch e
theorem mergeWaitExpiry (x0 : Nat) (x1 : Nat) : Statement (.mergeWaitExpiry x0 x1) := fun _ _ e => nomatch e
theorem legTimeout (x0 : Nat) (x1 : Nat) (x2 : Nat) : Statement (.legTimeout x0 x1 x2) := fun _ _ e => nomatch e
theorem pictureTimeout (x0 : Nat) (x1 : Nat) : Statement (.pictureTimeout x0 x1) := fun _ _ e => nomatch e
theorem missingPicture (x0 : Nat) (x1 : Nat) : Statement (.missingPicture x0 x1) := fun _ _ e => nomatch e
theorem auSlotEnd (x0 : Nat) (x1 : Nat) : Statement (.auSlotEnd x0 x1) := fun _ _ e => nomatch e
theorem feedLineRead (x0 : Nat) (x1 : Nat) (x2 : Bool) : Statement (.feedLineRead x0 x1 x2) := fun _ _ e => nomatch e
theorem pendingTake (x0 : Nat) (x1 : Nat) (x2 : Nat) : Statement (.pendingTake x0 x1 x2) := fun _ _ e => nomatch e
theorem lineAck (x0 : Nat) (x1 : Nat) (x2 : Nat) (x3 : Nat) : Statement (.lineAck x0 x1 x2 x3) := fun _ _ e => nomatch e
theorem cutTo (x0 : Nat) (x1 : Nat) (x2 : Nat) (x3 : Nat) : Statement (.cutTo x0 x1 x2 x3) := fun h _ e => inRange h e
theorem pictureBoundary (x0 : Nat) (x1 : Nat) : Statement (.pictureBoundary x0 x1) := fun _ _ e => nomatch e
theorem outtakeRowRead (x0 : Nat) (x1 : Nat) (x2 : Nat) : Statement (.outtakeRowRead x0 x1 x2) := fun _ _ e => nomatch e
theorem wordIssue (x0 : Nat) (x1 : Nat) : Statement (.wordIssue x0 x1) := fun _ _ e => nomatch e
theorem wordRetire (x0 : Nat) (x1 : Nat) (x2 : RetireInfo) : Statement (.wordRetire x0 x1 x2) := fun _ _ e => nomatch e
theorem waitMet (x0 : Nat) (x1 : Nat) (x2 : BitVec 64) : Statement (.waitMet x0 x1 x2) := fun _ _ e => nomatch e
theorem waitTimeout (x0 : Nat) (x1 : Nat) (x2 : BitVec 64) : Statement (.waitTimeout x0 x1 x2) := fun _ _ e => nomatch e
theorem trapReq (x0 : Nat) (x1 : Nat) (x2 : Nat) (x3 : Bool) (x4 : BitVec 80) : Statement (.trapReq x0 x1 x2 x3 x4) := fun h _ e => inRange h e
theorem patchLoad (x0 : Nat) (x1 : Nat) (x2 : List Byte) : Statement (.patchLoad x0 x1 x2) := fun h _ e => inRange h e
theorem sleepDelayExpiry (x0 : Nat) (x1 : Nat) : Statement (.sleepDelayExpiry x0 x1) := fun _ _ e => nomatch e
theorem sleepDone (x0 : Nat) (x1 : Nat) : Statement (.sleepDone x0 x1) := fun _ _ e => nomatch e
theorem wake (x0 : Nat) (x1 : Nat) (x2 : Nat) : Statement (.wake x0 x1 x2) := fun h _ e => inRange h e
theorem sleep (x0 : Nat) (x1 : Nat) (x2 : Nat) : Statement (.sleep x0 x1 x2) := fun h _ e => inRange h e
theorem powerReq (x0 : Nat) (x1 : Nat) (x2 : Nat) (x3 : Nat) : Statement (.powerReq x0 x1 x2 x3) := fun h _ e => inRange h e
theorem wakeDone (x0 : Nat) (x1 : Nat) : Statement (.wakeDone x0 x1) := fun _ _ e => nomatch e
theorem run (x0 : Nat) (x1 : Nat) (x2 : Nat) (x3 : Nat) (x4 : Bool) : Statement (.run x0 x1 x2 x3 x4) := fun h _ e => inRange h e
theorem admitSlot (x0 : Nat) (x1 : Nat) (x2 : Nat) (x3 : Nat) (x4 : Nat) : Statement (.admitSlot x0 x1 x2 x3 x4) := fun h _ e => inRange h e
theorem streamAdmitted (x0 : Nat) (x1 : Nat) : Statement (.streamAdmitted x0 x1) := fun _ _ e => nomatch e
theorem periodChange (x0 : Nat) (x1 : Nat) : Statement (.periodChange x0 x1) := fun _ _ e => nomatch e
theorem slotGrant (x0 : Nat) (x1 : Nat) (x2 : Nat) (x3 : Nat) (x4 : Nat) : Statement (.slotGrant x0 x1 x2 x3 x4) := fun h _ e => inRange h e
theorem sieveCopyArrive (x0 : Nat) (x1 : Nat) (x2 : UnitCopy) : Statement (.sieveCopyArrive x0 x1 x2) := fun _ _ e => nomatch e
theorem sieveWindowClose (x0 : Nat) (x1 : Nat) (x2 : Nat) (x3 : Nat) (x4 : Nat) (x5 : Nat) : Statement (.sieveWindowClose x0 x1 x2 x3 x4 x5) := fun _ _ e => nomatch e
theorem retrialChoice (x0 : Nat) (x1 : Nat) (x2 : Bool) : Statement (.retrialChoice x0 x1 x2) := fun _ _ e => nomatch e
theorem voteTimeout (x0 : Nat) (x1 : Nat) : Statement (.voteTimeout x0 x1) := fun _ _ e => nomatch e
theorem doubleFaultRestart (x0 : Nat) (x1 : Nat) : Statement (.doubleFaultRestart x0 x1) := fun _ _ e => nomatch e
theorem excuseTimeout (x0 : Nat) (x1 : Nat) : Statement (.excuseTimeout x0 x1) := fun _ _ e => nomatch e
theorem scionChoice (x0 : Nat) (x1 : Nat) : Statement (.scionChoice x0 x1) := fun _ _ e => nomatch e
theorem transplantEnd (x0 : Nat) (x1 : Nat) (x2 : Bool) : Statement (.transplantEnd x0 x1 x2) := fun _ _ e => nomatch e
theorem cuttingBoundary (x0 : Nat) (x1 : Nat) : Statement (.cuttingBoundary x0 x1) := fun _ _ e => nomatch e
theorem probationEnd (x0 : Nat) (x1 : Nat) : Statement (.probationEnd x0 x1) := fun _ _ e => nomatch e
theorem exposureLimit (x0 : Nat) (x1 : Nat) : Statement (.exposureLimit x0 x1) := fun _ _ e => nomatch e
theorem bedUnitReset (x0 : Nat) (x1 : Nat) : Statement (.bedUnitReset x0 x1) := fun _ _ e => nomatch e
theorem cuttingCompare (x0 : Nat) (x1 : Nat) (x2 : Bool) (x3 : Bool) : Statement (.cuttingCompare x0 x1 x2 x3) := fun _ _ e => nomatch e
theorem sparePool (x0 : Nat) (x1 : Nat) (x2 : Nat) : Statement (.sparePool x0 x1 x2) := fun h _ e => inRange h e
theorem peer (x0 : Nat) (x1 : Nat) (x2 : Nat) (x3 : Nat) : Statement (.peer x0 x1 x2 x3) := fun h _ e => inRange h e
theorem almanacMessage (x0 : Nat) (x1 : Nat) (x2 : List Byte) : Statement (.almanacMessage x0 x1 x2) := fun _ _ e => nomatch e
theorem identifyRequest (x0 : Nat) (x1 : Nat) (x2 : Nat) (x3 : List Byte) : Statement (.identifyRequest x0 x1 x2 x3) := fun _ _ e => nomatch e
theorem go (x0 : Nat) (x1 : Nat) : Statement (.go x0 x1) := fun h _ e => inRange h e
theorem ack (x0 : Nat) (x1 : Nat) : Statement (.ack x0 x1) := fun h _ e => inRange h e
theorem gapTimeout (x0 : Nat) (x1 : Nat) (x2 : Nat) : Statement (.gapTimeout x0 x1 x2) := fun h _ e => inRange h e
theorem read (x0 : Nat) (x1 : Nat) (x2 : Nat) (x3 : Nat) (x4 : Nat) (x5 : List Byte) : Statement (.read x0 x1 x2 x3 x4 x5) := fun h _ e => inRange h e
theorem write (x0 : Nat) (x1 : Nat) (x2 : Nat) (x3 : Nat) (x4 : Nat) (x5 : List Byte) : Statement (.write x0 x1 x2 x3 x4 x5) := fun h _ e => inRange h e
theorem writeStaged (x0 : Nat) (x1 : Nat) (x2 : Nat) (x3 : Nat) (x4 : Nat) (x5 : Nat) : Statement (.writeStaged x0 x1 x2 x3 x4 x5) := fun h _ e => inRange h e
theorem stage (x0 : Nat) (x1 : Nat) (x2 : Nat) (x3 : List Byte) : Statement (.stage x0 x1 x2 x3) := fun h _ e => inRange h e
theorem clearStage (x0 : Nat) (x1 : Nat) : Statement (.clearStage x0 x1) := fun h _ e => inRange h e
theorem addressChangeEffect (x0 : Nat) (x1 : Nat) : Statement (.addressChangeEffect x0 x1) := fun _ _ e => nomatch e
theorem key (x0 : Nat) (x1 : Nat) (x2 : Nat) (x3 : List Byte) : Statement (.key x0 x1 x2 x3) := fun h _ e => inRange h e
theorem keyGraceEnd (x0 : Nat) (x1 : Nat) : Statement (.keyGraceEnd x0 x1) := fun _ _ e => nomatch e
theorem registerWrite (x0 : Nat) (x1 : Nat) (x2 : Nat) (x3 : List Byte) : Statement (.registerWrite x0 x1 x2 x3) := fun h _ e => inRange h e
theorem bitAliasWrite (x0 : Nat) (x1 : Nat) (x2 : Nat) (x3 : BitVec 32) : Statement (.bitAliasWrite x0 x1 x2 x3) := fun h _ e => inRange h e
theorem doorbell (x0 : Nat) (x1 : Nat) (x2 : Nat) : Statement (.doorbell x0 x1 x2) := fun h _ e => inRange h e
theorem acquire (x0 : Nat) (x1 : Nat) (x2 : Nat) (x3 : BitVec 16) : Statement (.acquire x0 x1 x2 x3) := fun h _ e => inRange h e
theorem release (x0 : Nat) (x1 : Nat) (x2 : Nat) : Statement (.release x0 x1 x2) := fun h _ e => inRange h e
theorem reset (x0 : Nat) (x1 : Nat) (x2 : Nat) : Statement (.reset x0 x1 x2) := fun h _ e => inRange h e
theorem pcieLinkReset (x0 : Nat) (x1 : Nat) (x2 : Nat) : Statement (.pcieLinkReset x0 x1 x2) := fun _ _ e => nomatch e
theorem voteScrub (x0 : Nat) (x1 : List (Nat × Nat)) : Statement (.voteScrub x0 x1) := fun _ _ e => nomatch e
theorem claim (x0 : Nat) (x1 : Nat) (x2 : Nat) : Statement (.claim x0 x1 x2) := fun h _ e => inRange h e
theorem complete (x0 : Nat) (x1 : Nat) (x2 : Nat) (x3 : Nat) : Statement (.complete x0 x1 x2 x3) := fun h _ e => inRange h e
theorem sourceClear (x0 : Nat) (x1 : Nat) : Statement (.sourceClear x0 x1) := fun h _ e => inRange h e
theorem msixUnmask (x0 : Nat) (x1 : Nat) (x2 : Nat) : Statement (.msixUnmask x0 x1 x2) := fun h _ e => inRange h e
theorem msixEnable (x0 : Nat) (x1 : Nat) (x2 : Bool) : Statement (.msixEnable x0 x1 x2) := fun h _ e => inRange h e
theorem shedClaim (x0 : Nat) (x1 : Nat) (x2 : Option Nat) (x3 : Bool) : Statement (.shedClaim x0 x1 x2 x3) := fun _ _ e => nomatch e
theorem scrub (x0 : Nat) (x1 : Nat) (x2 : Nat) (x3 : Nat) (x4 : BitVec 32) : Statement (.scrub x0 x1 x2 x3 x4) := fun _ _ e => nomatch e
theorem logClear (x0 : Nat) (x1 : Nat) (x2 : Nat) : Statement (.logClear x0 x1 x2) := fun h _ e => inRange h e
theorem opPoint (x0 : Nat) (x1 : Nat) (x2 : Nat) (x3 : Nat) : Statement (.opPoint x0 x1 x2 x3) := fun h _ e => inRange h e
theorem pllLock (x0 : Nat) (x1 : Nat) : Statement (.pllLock x0 x1) := fun _ _ e => nomatch e
theorem opChangeStart (x0 : Nat) (x1 : Nat) : Statement (.opChangeStart x0 x1) := fun _ _ e => nomatch e
theorem stackHold (x0 : Nat) (x1 : Nat) : Statement (.stackHold x0 x1) := fun _ _ e => nomatch e
theorem opChangeDone (x0 : Nat) (x1 : Nat) : Statement (.opChangeDone x0 x1) := fun _ _ e => nomatch e
theorem opChangeTimeout (x0 : Nat) (x1 : Nat) : Statement (.opChangeTimeout x0 x1) := fun _ _ e => nomatch e
theorem start (x0 : Nat) (x1 : Nat) (x2 : Nat) : Statement (.start x0 x1 x2) := fun h _ e => inRange (and_left h) e
theorem disable (x0 : Nat) (x1 : Nat) (x2 : Nat) : Statement (.disable x0 x1 x2) := fun h _ e => inRange (and_left h) e
theorem disableClear (x0 : Nat) (x1 : Nat) (x2 : Nat) : Statement (.disableClear x0 x1 x2) := fun h _ e => inRange (and_left h) e
theorem dmaRequestDone (x0 : Nat) (x1 : Nat) (x2 : Nat) (x3 : List Byte) : Statement (.dmaRequestDone x0 x1 x2 x3) := fun _ _ e => nomatch e
theorem dmaRequestFail (x0 : Nat) (x1 : Nat) (x2 : Nat) (x3 : Nat) : Statement (.dmaRequestFail x0 x1 x2 x3) := fun _ _ e => nomatch e
theorem faultRaise (x0 : Nat) (x1 : Nat) : Statement (.faultRaise x0 x1) := fun _ _ e => nomatch e
theorem faultCauseGone (x0 : Nat) (x1 : Nat) : Statement (.faultCauseGone x0 x1) := fun _ _ e => nomatch e
theorem force (x0 : Nat) (x1 : Nat) (x2 : Nat) (x3 : Nat) : Statement (.force x0 x1 x2 x3) := fun h _ e => inRange h e
theorem classSet (x0 : Nat) (x1 : Nat) (x2 : Nat) (x3 : Nat) : Statement (.classSet x0 x1 x2 x3) := fun h _ e => inRange h e
theorem recordClear (x0 : Nat) (x1 : Nat) (x2 : Nat) : Statement (.recordClear x0 x1 x2) := fun h _ e => inRange h e
theorem unitReset (x0 : Nat) (x1 : Nat) (x2 : Nat) (x3 : Nat) : Statement (.unitReset x0 x1 x2 x3) := fun h _ e => inRange h e
theorem unitResetEnd (x0 : Nat) (x1 : Nat) (x2 : Nat) : Statement (.unitResetEnd x0 x1 x2) := fun _ _ e => nomatch e
theorem injectEnable (x0 : Nat) (x1 : Nat) (x2 : Nat) : Statement (.injectEnable x0 x1 x2) := fun h _ e => inRange h e
theorem alertSw (x0 : Nat) (x1 : Nat) (x2 : Nat) : Statement (.alertSw x0 x1 x2) := fun h _ e => inRange h e
theorem aliveTick (x0 : Nat) : Statement (.aliveTick x0) := fun _ _ e => nomatch e
theorem alertPulseEnd (x0 : Nat) (x1 : Nat) : Statement (.alertPulseEnd x0 x1) := fun _ _ e => nomatch e
theorem calStart (x0 : Nat) (x1 : Nat) (x2 : Nat) (x3 : List Nat) : Statement (.calStart x0 x1 x2 x3) := fun h _ e => inRange h e
theorem pairMeasureDone (x0 : Nat) (x1 : Nat) (x2 : List Int) : Statement (.pairMeasureDone x0 x1 x2) := fun _ _ e => nomatch e
theorem alignTimeout (x0 : Nat) (x1 : Nat) : Statement (.alignTimeout x0 x1) := fun _ _ e => nomatch e
theorem sensorCalDone (x0 : Nat) (x1 : List (Nat × Int × Int)) : Statement (.sensorCalDone x0 x1) := fun _ _ e => nomatch e
theorem epoch (x0 : Nat) (x1 : Nat) (x2 : Nat) : Statement (.epoch x0 x1 x2) := fun h _ e => inRange h e
theorem trimEpoch (x0 : Nat) : Statement (.trimEpoch x0) := fun _ _ e => nomatch e
theorem discard (x0 : Nat) (x1 : Nat) : Statement (.discard x0 x1) := fun h _ e => inRange h e
theorem trimSet (x0 : Nat) (x1 : Nat) : Statement (.trimSet x0 x1) := fun h _ e => inRange h e
theorem trimRestore (x0 : Nat) (x1 : Nat) (x2 : Nat) (x3 : List Byte) : Statement (.trimRestore x0 x1 x2 x3) := fun h _ e => inRange h e
theorem soilTestStart (x0 : Nat) (x1 : Nat) : Statement (.soilTestStart x0 x1) := fun _ _ e => nomatch e
theorem soilTestEnd (x0 : Nat) (x1 : Nat) (x2 : Nat) : Statement (.soilTestEnd x0 x1 x2) := fun _ _ e => nomatch e
theorem retest (x0 : Nat) (x1 : Nat) (x2 : Nat) : Statement (.retest x0 x1 x2) := fun h _ e => inRange h e
theorem counterSel (x0 : Nat) (x1 : Nat) (x2 : Nat) (x3 : List Byte) : Statement (.counterSel x0 x1 x2 x3) := fun h _ e => inRange h e
theorem freeze (x0 : Nat) (x1 : Nat) (x2 : Nat) : Statement (.freeze x0 x1 x2) := fun h _ e => inRange h e
theorem snapshot (x0 : Nat) (x1 : Nat) : Statement (.snapshot x0 x1) := fun h _ e => inRange h e
theorem bedCounterOverflow (x0 : Nat) (x1 : Nat) (x2 : Nat) (x3 : Nat) (x4 : Bool) (x5 : Nat) (x6 : Nat) (x7 : Nat) (x8 : Nat) : Statement (.bedCounterOverflow x0 x1 x2 x3 x4 x5 x6 x7 x8) := fun _ _ e => nomatch e
theorem harvestInstant (x0 : Nat) : Statement (.harvestInstant x0) := fun _ _ e => nomatch e
theorem harvestComplete (x0 : Nat) (x1 : Nat) : Statement (.harvestComplete x0 x1) := fun h _ e => inRange h e
theorem harvestList (x0 : Nat) (x1 : Nat) (x2 : Nat) (x3 : List (Nat × Nat)) : Statement (.harvestList x0 x1 x2 x3) := fun h _ e => inRange h e
theorem histClear (x0 : Nat) (x1 : Nat) (x2 : Nat) : Statement (.histClear x0 x1 x2) := fun h _ e => inRange h e
theorem meterSend (x0 : Nat) (x1 : Nat) : Statement (.meterSend x0 x1) := fun _ _ e => nomatch e
theorem meterMissing (x0 : Nat) (x1 : Nat) : Statement (.meterMissing x0 x1) := fun _ _ e => nomatch e
theorem gaugeTime (x0 : Nat) : Statement (.gaugeTime x0) := fun _ _ e => nomatch e
theorem gaugeTimeFree (x0 : Nat) : Statement (.gaugeTimeFree x0) := fun _ _ e => nomatch e
theorem gaugeBoundary (x0 : Nat) : Statement (.gaugeBoundary x0) := fun _ _ e => nomatch e
theorem gaugeClose (x0 : Nat) : Statement (.gaugeClose x0) := fun _ _ e => nomatch e
theorem gaugeRecordSend (x0 : Nat) : Statement (.gaugeRecordSend x0) := fun _ _ e => nomatch e
theorem gaugeReplay (x0 : Nat) : Statement (.gaugeReplay x0) := fun _ _ e => nomatch e
theorem sealOpen (x0 : Nat) : Statement (.sealOpen x0) := fun _ _ e => nomatch e
theorem rgKeepReturn (x0 : Nat) : Statement (.rgKeepReturn x0) := fun _ _ e => nomatch e
theorem interval (x0 : Nat) (x1 : Nat) (x2 : Nat) : Statement (.interval x0 x1 x2) := fun h _ e => inRange h e
theorem tariff (x0 : Nat) (x1 : Nat) (x2 : List Byte) : Statement (.tariff x0 x1 x2) := fun h _ e => inRange h e
theorem record (x0 : Nat) (x1 : Nat) (x2 : Nat) : Statement (.record x0 x1 x2) := fun h _ e => inRange h e
theorem feedInRange (x0 : Nat) (x1 : Nat) : Statement (.feedInRange x0 x1) := fun _ _ e => nomatch e
theorem feedOutOfRange (x0 : Nat) (x1 : Nat) : Statement (.feedOutOfRange x0 x1) := fun _ _ e => nomatch e
theorem switchback (x0 : Nat) : Statement (.switchback x0) := fun _ _ e => nomatch e
theorem feedsLost (x0 : Nat) : Statement (.feedsLost x0) := fun _ _ e => nomatch e
theorem mainFeed (x0 : Nat) (x1 : Nat) (x2 : Nat) : Statement (.mainFeed x0 x1 x2) := fun h _ e => inRange h e
theorem phaseFail (x0 : Nat) (x1 : Nat) : Statement (.phaseFail x0 x1) := fun _ _ e => nomatch e
theorem keepLoss (x0 : Nat) : Statement (.keepLoss x0) := fun _ _ e => nomatch e
theorem tempWarnCross (x0 : Nat) (x1 : Bool) : Statement (.tempWarnCross x0 x1) := fun _ _ e => nomatch e
theorem thermalTrip (x0 : Nat) : Statement (.thermalTrip x0) := fun _ _ e => nomatch e
theorem lifeHour (x0 : Nat) (x1 : Int) : Statement (.lifeHour x0 x1) := fun _ _ e => nomatch e
theorem gpiChange (x0 : Nat) (x1 : Nat) (x2 : Bool) : Statement (.gpiChange x0 x1 x2) := fun _ _ e => nomatch e
theorem set (x0 : Nat) (x1 : Nat) (x2 : Nat) (x3 : Bool) (x4 : Nat) : Statement (.set x0 x1 x2 x3 x4) := fun h _ e => inRange h e
theorem gpoApply (x0 : Nat) (x1 : Nat) : Statement (.gpoApply x0 x1) := fun _ _ e => nomatch e
theorem gpoFailsafe (x0 : Nat) : Statement (.gpoFailsafe x0) := fun _ _ e => nomatch e
theorem timingEdge (x0 : Nat) (x1 : Nat) : Statement (.timingEdge x0 x1) := fun _ _ e => nomatch e
theorem refInputLost (x0 : Nat) (x1 : Bool) : Statement (.refInputLost x0 x1) := fun _ _ e => nomatch e
theorem barrierMessageError (x0 : Nat) : Statement (.barrierMessageError x0) := fun _ _ e => nomatch e
theorem refclkWindow (x0 : Nat) (x1 : Nat) (x2 : Nat) : Statement (.refclkWindow x0 x1 x2) := fun _ _ e => nomatch e
theorem cfSource (x0 : Nat) (x1 : Nat) (x2 : Nat) : Statement (.cfSource x0 x1 x2) := fun h _ e => inRange h e
theorem blockWakeDone (x0 : Nat) (x1 : Nat) : Statement (.blockWakeDone x0 x1) := fun _ _ e => nomatch e
theorem ptpSync (x0 : Nat) (x1 : Nat) (x2 : Int) : Statement (.ptpSync x0 x1 x2) := fun _ _ e => nomatch e
theorem announce (x0 : Nat) (x1 : Nat) (x2 : Announce) : Statement (.announce x0 x1 x2) := fun _ _ e => nomatch e
theorem announceTimeout (x0 : Nat) : Statement (.announceTimeout x0) := fun _ _ e => nomatch e
theorem delayReq (x0 : Nat) (x1 : Nat) (x2 : Bool) : Statement (.delayReq x0 x1 x2) := fun _ _ e => nomatch e
theorem holdoverSpecExpiry (x0 : Nat) : Statement (.holdoverSpecExpiry x0) := fun _ _ e => nomatch e
theorem timeSet (x0 : Nat) (x1 : Nat) (x2 : Nat) : Statement (.timeSet x0 x1 x2) := fun h _ e => inRange h e
theorem powerUp (x0 : Nat) (x1 : Int) (x2 : BitVec 4) : Statement (.powerUp x0 x1 x2) := fun _ _ e => nomatch e
theorem memoryTrainingDone (x0 : Nat) (x1 : List Nat) : Statement (.memoryTrainingDone x0 x1) := fun _ _ e => nomatch e
theorem trimsRestored (x0 : Nat) : Statement (.trimsRestored x0) := fun _ _ e => nomatch e
theorem pipelineRelease (x0 : Nat) : Statement (.pipelineRelease x0) := fun _ _ e => nomatch e
theorem almanacLive (x0 : Nat) : Statement (.almanacLive x0) := fun _ _ e => nomatch e
theorem fullReadiness (x0 : Nat) : Statement (.fullReadiness x0) := fun _ _ e => nomatch e
theorem perstRelease (x0 : Nat) (x1 : Nat) : Statement (.perstRelease x0 x1) := fun _ _ e => nomatch e
theorem rgKeepLoss (x0 : Nat) : Statement (.rgKeepLoss x0) := fun _ _ e => nomatch e
theorem hedgeVLoss (x0 : Nat) : Statement (.hedgeVLoss x0) := fun _ _ e => nomatch e
theorem dorsenRuns (x0 : Nat) (x1 : Bool) : Statement (.dorsenRuns x0 x1) := fun _ _ e => nomatch e
theorem ptpManagement (x0 : Nat) (x1 : Nat) (x2 : Bool) (x3 : Nat) : Statement (.ptpManagement x0 x1 x2 x3) := fun _ _ e => nomatch e
theorem syncAndAnnounceSend (x0 : Nat) (x1 : Nat) (x2 : Nat) : Statement (.syncAndAnnounceSend x0 x1 x2) := fun _ _ e => nomatch e
theorem configurationRequest (x0 : Nat) (x1 : Nat) : Statement (.configurationRequest x0 x1) := fun _ _ e => nomatch e

end Sys2Proof.Laws.WellFormed
end

