-- ==== Sys2Proof/Laws/Rows.lean ====
section
/-! SUPPORT. The rows of the command table that write an entry of the Almanac: what an accepted one leaves (11). -/

namespace Sys2Proof.Machine

/-- An allotment that may write an entry whose space and row are known. -/
theorem mayWrite_right {s : State} {a fam inst mem : Nat} (h : mayWrite s a fam inst mem) {sp : Space} {n : Nat} {r : Row}
    (hs : spaceOf fam inst = some (sp, n)) (hr : entryRow sp n mem = some r) :
    canWrite r.acc (s.rightsMask a fam inst sp n) = true := by
  obtain ⟨sp', n', r', h1, h2, h3⟩ := h
  rw [hs] at h1
  obtain ⟨rfl, rfl⟩ := Prod.mk.inj (Option.some.inj h1)
  rw [hr] at h2
  cases h2
  exact h3

/-- An accepted write of a row: its entry's effect, the notes and the answer, and nothing else. -/
theorem row_accepted {s : State} {t a fam inst mem : Nat} {b : List Byte} {sp : Space} {n : Nat} {r : Row}
    (h : takesAtOnce s t a) (hs : spaceOf fam inst = some (sp, n)) (hr : entryRow sp n mem = some r)
    (hw : recordWrite sp mem = true ∨ canWrite r.acc (s.rightsMask a fam inst sp n) = true)
    {e : Nat} {u : State} (hu : (s.at t).entryWrite a fam inst mem sp n r b = (0, e, u)) :
    accepted u ((s.at t).orderWrite a fam inst mem b) e := by
  rw [orderWrite_accepted h hs hr hw hu]
  simp only [accepted, State.say]
  split <;> simp only [State.covers, State.noteWrite]

/-- A number in its range is what its entry takes (R302). -/
theorem nearest_self {x : Int} {lo hi : Int} (h1 : lo ≤ x) (h2 : x ≤ hi) : nearest [(lo, hi)] x = x := by
  simp [nearest, clip]; omega

/-- A write of a number in its range, of an entry that is neither structural nor limited-change. -/
theorem entryWrite_number {s : State} {a fam inst mem : Nat} {sp : Space} {n : Nat} {r : Row} {w v : Nat}
    (hm : mem ≠ 0) (ho : s.otherKind sp n mem = false) (hstr : r.struct = false) (hty : r.ty = .u w)
    (hv : v < 256 ^ w) (hl : ∀ p ∈ s.legalNow sp n mem r, ¬ p.2 < p.1)
    (hn : (if (s.legalNow sp n mem r).isEmpty then (v : Int) else nearest (s.legalNow sp n mem r) v) = v)
    (hc : creditOf fam inst mem = none) (hk : ¬ (sp = .clock ∧ mem = 0x1D)) :
    s.entryWrite a fam inst mem sp n r (natLe w v) =
      afterWrite sp n r (s.slotOwner sp n) (s.writeNumber a fam inst mem sp n r v) := by
  have hd : (leNat (natLe w v) : Int) = v := by rw [leNat_natLe, Nat.mod_eq_of_lt hv]
  have hany : (s.legalNow sp n mem r).any (fun p => decide (p.2 < p.1)) = false := by
    rw [List.any_eq_false]; intro p hp; simpa using hl p hp
  have hscal : s.writeScalar a fam inst mem sp n r (natLe w v) = s.writeNumber a fam inst mem sp n r v := by
    simp only [State.writeScalar, hty, Ty.decode, Ty.width, natLe_length, hd, hany, hc, hk, hn, ne_eq, not_true_eq_false,
      if_false, Bool.false_eq_true, and_false]
  simp only [State.entryWrite, hm, ho, hstr, hty, if_false, Bool.false_and, Bool.false_eq_true]
  rw [hscal]

/-- What follows a write accepted for an entry that is not a stream's. -/
theorem afterWrite_plain {sp : Space} {n : Nat} {r : Row} {e : Nat} {s u : State} (hstr : r.struct = false)
    (he : sp ≠ .encode) (hd : sp ≠ .decode) : afterWrite sp n r (s.slotOwner sp n) (0, e, u) = (0, e, u) := by
  cases sp <;> simp_all [afterWrite, State.slotOwner]

/-- An accepted write of a number, of an entry that is not a stream's. -/
theorem row_number {s : State} {t a fam inst mem w v : Nat} {sp : Space} {n : Nat} {r : Row} {e : Nat} {u : State}
    (h : takesAtOnce s t a) (hw : mayWrite s a fam inst mem) (hs : spaceOf fam inst = some (sp, n))
    (hr : entryRow sp n mem = some r) (hp : sp ≠ .encode ∧ sp ≠ .decode ∧ sp ≠ .ladder)
    (hm : mem ≠ 0) (hstr : r.struct = false) (hty : r.ty = .u w)
    (hv : v < 256 ^ w) (hl : ∀ p ∈ (s.at t).legalNow sp n mem r, ¬ p.2 < p.1)
    (hn : (if ((s.at t).legalNow sp n mem r).isEmpty then (v : Int) else nearest ((s.at t).legalNow sp n mem r) v) = v)
    (hc : creditOf fam inst mem = none) (hk : ¬ (sp = .clock ∧ mem = 0x1D))
    (hu : (s.at t).writeNumber a fam inst mem sp n r v = (0, e, u)) :
    accepted u ((s.at t).orderNumber a fam inst mem w v) e := by
  refine row_accepted h hs hr (.inr (mayWrite_right hw hs hr)) ?_
  have ho : (s.at t).otherKind sp n mem = false := by
    obtain ⟨h1, h2, h3⟩ := hp
    cases sp <;> simp_all [State.otherKind]
  rw [entryWrite_number hm ho hstr hty hv hl hn hc hk, hu]
  exact afterWrite_plain hstr hp.1 hp.2.1

/-- An accepted write of a BLOB, of an entry that is not a stream's. -/
theorem row_blob {s : State} {t a fam inst mem : Nat} {b : List Byte} {sp : Space} {n : Nat} {r : Row} {e : Nat} {u : State}
    (h : takesAtOnce s t a) (hs : spaceOf fam inst = some (sp, n)) (hr : entryRow sp n mem = some r)
    (hw : recordWrite sp mem = true ∨ mayWrite s a fam inst mem) (hp : sp ≠ .encode ∧ sp ≠ .decode ∧ sp ≠ .ladder)
    (hm : mem ≠ 0) (hstr : r.struct = false) (hty : r.ty = .blob)
    (hu : (s.at t).writeBlob a fam inst mem sp n b = (0, e, u)) :
    accepted u ((s.at t).orderWrite a fam inst mem b) e := by
  refine row_accepted h hs hr (hw.imp id (fun k => mayWrite_right k hs hr)) ?_
  have ho : (s.at t).otherKind sp n mem = false := by
    obtain ⟨h1, h2, h3⟩ := hp
    cases sp <;> simp_all [State.otherKind]
  simp only [State.entryWrite, hm, ho, hstr, hty, if_false, Bool.false_and, Bool.false_eq_true]
  rw [hu]
  exact afterWrite_plain hstr hp.1 hp.2.1

end Sys2Proof.Machine
end

