-- ==== Sys2Proof/Tests/Slice0.lean ====
section
/-! SUPPORT. Tests: a smoke test of each well-formedness check, for every statement with hypotheses a theorem
`witness_<statement>` that meets them (one conjunct for each clause), and single steps whose results are the spec's. Where
a hypothesis of a statement speaks of a value that the spec leaves free (a signature that holds, an identity), the witness
meets what stands before it. -/

open Sys2Proof Sys2Proof.Machine

namespace Sys2Proof.Tests

set_option Elab.async false

/-! ## Well-formedness: one ill-formed term for each check -/

theorem test_wf_link : (Instr.laneFail 0 13 0).wellFormed = false := by decide
theorem test_wf_side : (Instr.laneFail 0 12 2).wellFormed = false := by decide
theorem test_wf_die : (Instr.pruneRequest 0 2 0 0 0).wellFormed = false := by decide
theorem test_wf_slot : (Instr.pruneRequest 0 1 8192 0 0).wellFormed = false := by decide
theorem test_wf_bed : (Instr.pruneRequest 0 1 8191 0 288).wellFormed = false := by decide
theorem test_wf_pair : (Instr.shedRestart 0 (some 16) 0).wellFormed = false := by decide
theorem test_wf_allot : (Instr.enable 0 16 0 0).wellFormed = false := by decide
theorem test_wf_port : (Instr.signalLoss 0 1024).wellFormed = false := by decide
theorem test_wf_pipeline : (Instr.parseFrame 0 8 {}).wellFormed = false := by decide
theorem test_wf_pfc_class : (Instr.pfcPauseEnd 0 0 8).wellFormed = false := by decide
theorem test_wf_delivery : (Instr.deliveryRewrite 0 0 33554432).wellFormed = false := by decide
theorem test_wf_group_of_port : (Instr.shaperRefill 0 0 true 16).wellFormed = false := by decide
theorem test_wf_queue_of_port : (Instr.shaperRefill 0 0 false 256).wellFormed = false := by decide
theorem test_wf_intake : (Instr.mergeWaitExpiry 0 2048).wellFormed = false := by decide
theorem test_wf_outtake : (Instr.outtakeRowRead 0 4096 0).wellFormed = false := by decide
theorem test_wf_refresh_group : (Instr.periodChange 0 256).wellFormed = false := by decide
theorem test_wf_way_in : (Instr.almanacMessage 0 1026 []).wellFormed = false := by decide
theorem test_wf_address : (Instr.identifyRequest 0 0 16 []).wellFormed = false := by decide
theorem test_wf_pcie : (Instr.perstRelease 0 9).wellFormed = false ∧ (Instr.perstRelease 0 0).wellFormed = false := by decide
theorem test_wf_stack : (Instr.opChangeStart 0 12).wellFormed = false := by decide
theorem test_wf_pll : (Instr.pllLock 0 51).wellFormed = false := by decide
theorem test_wf_dma : (Instr.start 0 0 1024).wellFormed = false := by decide
theorem test_wf_source : (Instr.faultRaise 0 4096).wellFormed = false := by decide
theorem test_wf_domain : (Instr.unitResetEnd 0 64 0).wellFormed = false := by decide
theorem test_wf_fibre_pair : (Instr.pairMeasureDone 0 128 []).wellFormed = false := by decide
theorem test_wf_bed_counter : (Instr.bedCounterOverflow 0 0 8 0 false 0 0 0 0).wellFormed = false := by decide
theorem test_wf_phase : (Instr.phaseFail 0 112).wellFormed = false := by decide
theorem test_wf_gpio : (Instr.gpiChange 0 32 true).wellFormed = false := by decide
theorem test_wf_block : (Instr.blockWakeDone 0 312).wellFormed = false := by decide
/-- The hypotheses of CommandsComplete: a command of units that exist, and one of a unit that does not, which stops. -/
theorem witness_CommandsComplete : (Instr.laneFail 0 12 1).wellFormed = true ∧
    exec (.laneFail 0 13 0) State.reset = .fault .noSuchUnit := ⟨by decide, rfl⟩

/-! ## Witnesses of the statements' hypotheses -/

/-- Whether the Almanac takes an operation at once, in a state that has noted no write yet. -/
def takesNow (s : State) (a : Nat) : Bool :=
  s.alm.live && !s.shed.restarting && s.shed.journal.isEmpty && !decide (a ∈ s.shed.pairsDown) &&
    s.alm.slotWrites.isEmpty && s.alm.slotOld.isEmpty && s.alm.cycleWrites.isEmpty
/-- The right to write an entry, as a decision. -/
def writable (s : State) (a fam inst mem : Nat) : Bool :=
  match spaceOf fam inst with
  | none => false
  | some x => match entryRow x.1 x.2 mem with
    | none => false
    | some r => canWrite r.acc (s.rightsMask a fam inst x.1 x.2)
/-- The right to read an entry, as a decision. -/
def readable (s : State) (a fam inst mem : Nat) : Bool :=
  match spaceOf fam inst with
  | none => false
  | some x => match entryRow x.1 x.2 mem with
    | none => false
    | some r => canRead r.acc (s.rightsMask a fam inst x.1 x.2)
theorem takes_of {s : State} {t a : Nat} (h : takesNow s a = true) : takesAtOnce s t a := by
  simp only [takesNow, Bool.and_eq_true, Bool.not_eq_true', decide_eq_false_iff_not, List.isEmpty_iff] at h
  obtain ⟨⟨⟨⟨⟨⟨h1, h2⟩, h3⟩, h4⟩, h5⟩, h6⟩, h7⟩ := h
  exact ⟨h1, h2, h3, h4, by simp [h5], by simp [h6], by simp [h7]⟩
theorem write_of {s : State} {a f i m : Nat} (h : writable s a f i m = true) : mayWrite s a f i m := by
  unfold writable at h
  split at h
  · cases h
  · next x hx =>
    split at h
    · cases h
    · next r hr => exact ⟨x.1, x.2, r, hx, hr, h⟩
theorem read_of {s : State} {a f i m : Nat} (h : readable s a f i m = true) : mayRead s a f i m := by
  unfold readable at h
  split at h
  · cases h
  · next x hx =>
    split at h
    · cases h
    · next r hr => exact ⟨x.1, x.2, r, hx, hr, h⟩

/-- Two seconds of PTP time. -/
def T : Nat := 2000000000
/-- A small state in which the module is on, Dorsen runs and the Almanac is live. -/
def live : State :=
  let s := State.reset
  { s with alm := { s.alm with live := true }, shed := { s.shed with running := true }, boot := { s.boot with step6 := some 0 },
           flt := { s.flt with recording := true }, mod := { s.mod with on := true, hedgeV := true, split := 15 } }
/-- A command answers a next state. -/
def answers (o : Host.Outcome State Fault Refusal) : Bool :=
  match o with
  | .next _ => true
  | _ => false

theorem witness_ExchangeStaysCanonical : State.reset.mem.wf = true ∧ ∃ u, step State.reset = .next u := ⟨by decide, _, rfl⟩

def linkMoves (a b : Nat) (h : List Transfer) : State :=
  live.modLink 11 (fun l => { l with moving0 := a, moving1 := b, holding := true, held := h })

def twinned : State := live.modTwin 7 (fun w => { w with st := .whole, lead := [3], partner := [40] })

def asked : State :=
  { twinned.modTwin 7 (fun w => { w with pruneReq := some (5, 0, 3) }) with flt := { live.flt with recording := true } }

theorem witness_LinksAndPruneRequests :
    (0 < (live.link 12).spare0 ∧ live.classOf (0xF00 + 16 * 12) = 0) ∧
    (0 < (live.link 12).spare1) ∧
    (0 < ((linkMoves 1 1 []).link 11).moving0 ∧ (1 - 1) + ((linkMoves 1 1 []).link 11).moving1 ≠ 0) ∧
    (0 < ((linkMoves 1 0 []).link 11).moving0 ∧ (1 - 1) + ((linkMoves 1 0 []).link 11).moving1 = 0 ∧ ((linkMoves 1 0 []).link 11).held = []) ∧
    (0 < ((linkMoves 0 1 [.prune 0 7 5 3]).link 11).moving1 ∧ ((linkMoves 0 1 [.prune 0 7 5 3]).link 11).moving0 + (1 - 1) = 0) ∧
    (((linkMoves 0 1 []).link 11).moving0 = 0) ∧
    (((live.modLink 9 (fun l => { l with holding := true })).link (8 + 1)).holding = true) ∧
    ((asked.link (8 + 1)).holding = false ∧ (asked.link 10).holding = false) ∧
    (41 ∉ (asked.twin 7).lead ++ (asked.twin 7).partner) ∧
    (3 ∈ (twinned.twin 7).lead ++ (twinned.twin 7).partner ∧ (twinned.twin 7).st ≠ .none ∧ twinned.anchorOf 7 = 7 ∧
  (twinned.twin 7).pruneReq.all (fun r => decide (r.1 ≠ 5)) = true) ∧
    (40 ∈ (asked.twin 7).lead ++ (asked.twin 7).partner ∧ (asked.twin 7).pruneReq = some (5, 0, 3) ∧ 0 ≠ 1 ∧ 3 ≠ 40 ∧
  asked.flt.recording = true ∧ (asked.source (0xF82 + 16 * 1)).live = false) ∧
    (3 ∈ (asked.twin 7).lead ++ (asked.twin 7).partner ∧ (asked.twin 7).pruneReq = some (5, 0, 3)) := by
  and_intros <;> first
    | exact takes_of (by decide +kernel)
    | exact write_of (by decide +kernel)
    | exact read_of (by decide +kernel)
    | decide +kernel

def pairDown : State :=
  let s := live
  { s with shed := { s.shed with pairsDown := [15] } }

theorem witness_ShedRestarts :
    (State.reset.shed.running = false) ∧
    (live.shed.running = true) ∧
    (15 ∉ live.shed.pairsDown) ∧
    (15 ∈ pairDown.shed.pairsDown ∧ 0 ∉ pairDown.shed.pairsDown ∧ pairDown.shed.restarting = false ∧
  pairDown.shed.held = [] ∧ (∀ j ∈ pairDown.shed.waiting, j.a ≠ 15) ∧ (pairDown.allot 15).waiting = []) ∧
    (live.shed.journal = [] ∧ live.shed.held = [] ∧ live.shed.waiting = [] ∧ (∀ a, a < 16 → (live.allot a).waiting = [])) := by
  and_intros <;> first
    | exact takes_of (by decide +kernel)
    | exact write_of (by decide +kernel)
    | exact read_of (by decide +kernel)
    | decide +kernel

theorem witness_PortRows :
    (takesAtOnce live T 0 ∧ mayWrite live 0 0x10 1023 0x02) ∧
    (mayWrite live 0 0x10 1008 0x01 ∧ 4 ≠ live.breakoutOf 63) := by
  and_intros <;> first
    | exact takes_of (by decide +kernel)
    | exact write_of (by decide +kernel)
    | exact read_of (by decide +kernel)
    | decide +kernel

def listens : State := live.modPort 1023 (fun p => { p with st := .listen })

theorem witness_PortEvents :
    ((T + 1) % 1000000 ≠ 0) ∧
    (T % 1000000 = 0 ∧ ((listens.port 1023).st = .listen ∨ (listens.port 1023).st = .forwarding)) := by
  and_intros <;> first
    | exact takes_of (by decide +kernel)
    | exact write_of (by decide +kernel)
    | exact read_of (by decide +kernel)
    | decide +kernel

def fwdPort : State := live.modPort 16 (fun p => { p with st := .forwarding, interruptedTo := 0 })

def heldPort : State := live.modPort 16 (fun p => { p with st := .forwarding, interruptedTo := 7 })

def lstPort : State := live.modPort 1008 (fun p => { p with st := .listen })

def oneFrame : State :=
  (live.modPipe 7 (fun p => { p with released := true })).setBuffer 57 [{ lp := 912, t := 5, f := {} }]

theorem witness_FrameArrivals :
    ((live.port 9).st ≠ .listen ∧ (live.port 9).st ≠ .forwarding ∧ live.inUse 17 = false) ∧
    ((heldPort.port 16).st = .forwarding ∧ 0 < (heldPort.port 16).interruptedTo ∧ heldPort.inUse 16 = true) ∧
    ((fwdPort.port 16).st = .forwarding ∧ fwdPort.inUse 16 = true ∧ (fwdPort.port 16).interruptedTo = 0 ∧
  fwdPort.isUrgent ({} : Frame) = false) ∧
    (({ kind := .lpi } : Frame).kind = .lpi) ∧
    (({ len := 63 } : Frame).kind ≠ .lpi ∧ ({ len := 63 } : Frame).len < 64) ∧
    (64 ≤ ({ len := 9217 } : Frame).len ∧ fwdPort.cfgN 0x10 16 0x05 < ({ len := 9217 } : Frame).len) ∧
    (({ len := 64, fcsOk := false } : Frame).len ≤ fwdPort.cfgN 0x10 16 0x05 ∧ ({ len := 64, fcsOk := false } : Frame).fcsOk = false) ∧
    (64 ≤ ({} : Frame).len ∧ ({} : Frame).len ≤ fwdPort.cfgN 0x10 16 0x05 ∧ ({} : Frame).fcsOk = true ∧ ({} : Frame).kind ≠ .lpi ∧
  ({} : Frame).kind ≠ .pause ∧ ({} : Frame).kind ≠ .pfc ∧ bufferBytes (fwdPort.buffer (16 / 16)) + ({} : Frame).len ≤ 262144) ∧
    (({ kind := .pause } : Frame).kind = .pause ∧ ({ kind := .pfc } : Frame).kind = .pfc) ∧
    (262144 < bufferBytes ((fwdPort.setBuffer 1 [{ lp := 16, t := 5, f := { len := 262144 } }]).buffer (16 / 16)) + ({} : Frame).len) ∧
    ((lstPort.port 1008).st = .listen ∧ lstPort.inUse 1008 = true ∧ (lstPort.port 1008).interruptedTo = 0 ∧
  ({ len := 63 } : Frame).kind ≠ .lpi ∧ ({ len := 63 } : Frame).len < 64) ∧
    (lstPort.cfgN 0x10 1008 0x05 < ({ len := 9217 } : Frame).len ∧ ({ fcsOk := false } : Frame).fcsOk = false ∧
  ({} : Frame).kind = .data ∧ lstPort.isAlmanac ({} : Frame) = false) ∧
    (live.fwd.failedReads = [] ∧ (live.pipe 7).released = false) ∧
    ((oneFrame.pipe 7).released = true ∧ oneFrame.pipePruned 7 = false ∧
  ((List.range 8).map (fun j => ((oneFrame.pipe 7).rr + j) % 8)).find? (fun j => (oneFrame.nextOf (8 * 7 + j)).isSome) = some 1 ∧
  oneFrame.nextOf (8 * 7 + 1) = some ({ lp := 912, t := 5, f := {} }, [])) := by
  and_intros <;> first
    | exact takes_of (by decide +kernel)
    | exact write_of (by decide +kernel)
    | exact read_of (by decide +kernel)
    | decide +kernel

def crossing (d : CrossDest) : Crossing := { chain := 1, dest := d, lp := 0, allot := 0, f := {} }

def waits : State := live.modCells 0 (fun c => { c with waiting := [crossing (.l2 600)] })

def waitsPruned : State :=
  { waits.setChain 1 { refs := 1 } with flt := { waits.flt with pruned := [(9, 0xFF)] } }

def flies (d : CrossDest) : State := live.modCells 0 (fun c => { c with inFlight := [crossing d] })

def fliesToPruned : State := { flies (.l2 600) with flt := { live.flt with pruned := [(9, 0xFF)] } }

def landed (d : CrossDest) : State := ((flies d).at T).modCells (1 - 1) (fun c => { c with inFlight := [] })

theorem witness_Crossings :
    ((live.cells 1).waiting = [] ∧ (live.cells (1 - 1)).inFlight = [] ∧ live.fwd.failedReads = []) ∧
    ((waits.cells 0).waiting = [crossing (.l2 600)] ∧ waits.isPruned (8 + (1 - 0)) 0xFF = false ∧
  (waits.link 8).holding = false ∧ (waits.link 9).holding = false) ∧
    ((waitsPruned.cells 0).waiting = [crossing (.l2 600)] ∧ waitsPruned.isPruned (8 + (1 - 0)) 0xFF = true ∧
  (waitsPruned.chain 1).refs = 1 ∧ (waitsPruned.link 8).holding = false ∧ (waitsPruned.link 9).holding = false) ∧
    ((waits.chain 1).refs ≠ 1) ∧
    ((fliesToPruned.cells (1 - 1)).inFlight = [crossing (.l2 600)] ∧ fliesToPruned.fwd.failedReads = [] ∧
  (fliesToPruned.link 8).holding = false ∧ (fliesToPruned.link 9).holding = false ∧ fliesToPruned.isPruned (8 + 1) 0xFF = true) ∧
    (((flies (.l2 600)).cells (1 - 1)).inFlight = [crossing (.l2 600)] ∧ (flies (.l2 600)).isPruned (8 + 1) 0xFF = false ∧
  (landed (.l2 600)).cellsFit 1 0 (cellsOf ({} : Frame).len) true = true) ∧
    (((flies (.flood 4094)).cells (1 - 1)).inFlight = [crossing (.flood 4094)] ∧ ({} : Upset).vlan = false ∧
  4094 ∉ ((flies (.flood 4094)).pipe (0 / 128)).badVlans ∧ (landed (.flood 4094)).cellsFit 1 0 (cellsOf ({} : Frame).len) true = true) ∧
    (((flies (.run 33554431)).cells (1 - 1)).inFlight = [crossing (.run 33554431)] ∧
  (((landed (.run 33554431)).newChain 1 0 (cellsOf ({} : Frame).len) true).2.run 1 33554431 []).limited = false) ∧
    ((live.chain 4).refs = 0 ∧ ((live.setChain 4 { refs := 2 }).chain 4).refs = 2) ∧
    (((live.setChain 4 { refs := 1 }).chain 4).refs = 1) := by
  and_intros <;> first
    | exact takes_of (by decide +kernel)
    | exact write_of (by decide +kernel)
    | exact read_of (by decide +kernel)
    | decide +kernel

def badEntry : State := { live with fwd := { live.fwd with badDelivery := [33554432 * 1 + 33554431] } }

theorem witness_ForwardingRepairs :
    (State.reset.shedLive = false) ∧
    (live.shedLive = true) ∧
    (badEntry.shedLive = true ∧ 33554432 * 1 + 33554431 ∈ badEntry.fwd.badDelivery) := by
  and_intros <;> first
    | exact takes_of (by decide +kernel)
    | exact write_of (by decide +kernel)
    | exact read_of (by decide +kernel)
    | decide +kernel

def flowBytes : List Byte := List.replicate 44 0 ++ [0xFF, 0xFF] ++ List.replicate 18 0

def flowKey : List Byte := flowBytes.take 40

def oneFlow : State := live.modPipe 0 (fun p => { p with flows := [flowOf flowBytes 0] })

def oneBlock : State := live.setBlock 0 { owner := some 0 }

theorem witness_ForwardingRows :
    (takesAtOnce live T 0) ∧
    (flowBytes.length = 64 ∧ flowClamped flowBytes = false) ∧
    (ownsRecord 0 (some (live.portOwner (flowOf flowBytes 0).lp)) = true ∧ (flowOf flowBytes 0).policer = 0xFFFF ∧
  (live.pipe ((flowOf flowBytes 0).lp / 128)).used + (flowOf flowBytes 0).slots ≤ 3670016) ∧
    (flowKey.length = 40 ∧ oneFlow.copy = none ∧ ownsRecord 0 (some (oneFlow.portOwner (flowOf flowKey 0).lp)) = true ∧
  (oneFlow.pipe ((flowOf flowKey 0).lp / 128)).flows.any (fun y => y.sameKey (flowOf flowKey 0)) = true) ∧
    ((oneFlow.pipe ((flowOf flowKey 0).lp / 128)).flows.find? (fun y => y.sameKey (flowOf flowKey 0)) = some (flowOf flowBytes 0)) ∧
    (ownsRecord 0 (oneBlock.block (4095 / 4096)).owner = true ∧ oneBlock.copy = none ∧ oneBlock.entryAllowed 0 0 = true ∧
  ¬ (1 ≤ dType (oneBlock.delivery 0 4095) ∧ dType (oneBlock.delivery 0 4095) ≤ 2 ∧ 1 ≤ dType 0 ∧ dType 0 ≤ 2 ∧
  dDie (oneBlock.delivery 0 4095) ≠ dDie 0)) ∧
    (mayWrite live 0 0x11 0 0x1C) ∧
    (ownsRecord 0 (some (live.vlanOwner 4094)) = true) ∧
    ((live.modPipe 0 (fun p => { p with l2 := [{ vid := 4094, mac := 5, lp := 1023, stamp := 0, static := true }] })).vlanOwner 4094 = 0 ∧
  ((live.modPipe 0 (fun p => { p with l2 := [{ vid := 4094, mac := 5, lp := 1023, stamp := 0, static := true }] })).pipe 0).l2.any
  (fun e => e.static && decide (e.vid = 4094) && decide (e.mac = 5)) = true) := by
  and_intros <;> first
    | exact takes_of (by decide +kernel)
    | exact write_of (by decide +kernel)
    | exact read_of (by decide +kernel)
    | decide +kernel

def copyOf (k : Nat) : QPkt := { chain := k, f := {} }

def sends : Sending := { queue := 0, chain := 4, f := {}, payer := 0, cls := 5, bad := false }

def queuedAt (to_ : Nat) : State :=
  ((live.modPort 0 (fun p => { p with st := .forwarding, interruptedTo := to_ })).setChain 4 { cells := 1, refs := 2 }).modQueue 5
    (fun q => { q with pkts := [copyOf 4] })

def sending (refs : Nat) : State :=
  (live.modPort 0 (fun p => { p with st := .forwarding, sending := some sends })).setChain 4 { refs := refs }

def trimmed (s : State) : State := ((List.range 256).foldl (fun (s : State) k => s.trimHead (256 * 0 + k)) (s.at T)).countWaits 0

def shutGates : State :=
  (queuedAt 0).setCfgN 0x13 0 0x01 1 1 |>.modGate 0 (fun g => { g with active := { num := 1, den := 1000, list := [(0, 1000000)] } })

set_option maxRecDepth 100000 in
theorem witness_PortFrames :
    ((live.port 1023).st ≠ .forwarding) ∧
    ((live.port 3).sending = none) ∧
    (((sending 2).port 0).sending = some sends ∧ (sending 2).inUse 0 = true ∧ sends.loc = 0 ∧ ((sending 2).chain sends.chain).refs ≠ 1) ∧
    (((sending 1).port 0).sending = some sends ∧ ((sending 1).chain sends.chain).refs = 1) ∧
    ((((sending 2).modPort 1 (fun p => { p with sending := some { sends with loc := 1 } })).port 1).sending = some { sends with loc := 1 } ∧
  (sending 2).inUse 1 = false) ∧
    (((queuedAt 0).port 0).st = .forwarding ∧ (queuedAt 0).inUse 0 = true ∧ ((queuedAt 0).port 0).sending = none ∧
  ((trimmed (queuedAt 0)).choose 0).isSome = true ∧
  ((trimmed (queuedAt 0)).choose 0).all (fun c => c.1 = 5 && decide (c.2.interruptedTo = 0)) = true ∧
  ((trimmed (queuedAt 0)).queue 5).pkts = [copyOf 4]) ∧
    (((trimmed (queuedAt 7)).choose 0).all (fun c => c.1 = 5 && decide (c.2.interruptedTo ≠ 0)) = true ∧
  ((trimmed (queuedAt 7)).queue 5).pkts = [copyOf 4] ∧ ((queuedAt 7).port 0).sending = none) ∧
    ((shutGates.port 0).st = .forwarding ∧ (trimmed shutGates).choose 0 = none) := by
  and_intros <;> first
    | exact takes_of (by decide +kernel)
    | exact write_of (by decide +kernel)
    | exact read_of (by decide +kernel)
    | decide +kernel

def gated : State := (live.setCfgN 0x13 1023 0x01 1 1).modGate 1023 (fun g => { g with isPending := true })

theorem witness_ShapersAndGates :
    (T % (live.queue (256 * 1023 + 255)).shaper.period = 0) ∧
    (T % (live.qgroup (16 * 1023 + 15)).shaper.period = 0) ∧
    ((T + 1) % (live.queue (256 * 1023 + 255)).shaper.period ≠ 0 ∧ (T + 1) % (live.qgroup (16 * 1023 + 15)).shaper.period ≠ 0) ∧
    (live.gating 1023 = false ∧ (live.gate 1023).isPending = false) ∧
    (gated.gating 1023 = true) ∧
    ((gated.gate 1023).isPending = true ∧ 1000000 = (gated.gate 1023).changeTime) := by
  and_intros <;> first
    | exact takes_of (by decide +kernel)
    | exact write_of (by decide +kernel)
    | exact read_of (by decide +kernel)
    | decide +kernel

def queueBytes : List Byte := [255, 0, 1, 0, 1, 0, 1, 0, 100, 0, 0, 0, 0xFF, 0xFF, 0, 0]

def meteredBytes : List Byte := [255, 3, 255, 255, 1, 0, 255, 255, 64, 66, 15, 0, 0xFF, 0x7F, 0, 0]

theorem witness_QueueRows :
    (takesAtOnce live T 0 ∧ mayWrite live 0 0x12 1023 0x03 ∧ queueBytes.length = 16 ∧ 1 ≤ fieldAt queueBytes 2 2 ∧
  fieldAt queueBytes 12 2 = 0xFFFF ∧ 1 ≤ fieldAt queueBytes 4 2 ∧ fieldAt queueBytes 4 2 ≤ fieldAt queueBytes 6 2 ∧
  100 ≤ fieldAt queueBytes 8 4 ∧ fieldAt queueBytes 8 4 ≤ 1000000) ∧
    (meteredBytes.length = 16 ∧ fieldAt meteredBytes 12 2 ≤ 32767 ∧
  live.cfgN 0x14 (32768 * (1023 / 512) + fieldAt meteredBytes 12 2) 0x01 = live.portOwner 1023 ∧
  fieldAt meteredBytes 4 2 ≤ fieldAt meteredBytes 6 2 ∧ fieldAt meteredBytes 8 4 ≤ 1000000) ∧
    (mayRead live 0 0x12 1023 0x04 ∧ live.copy = none) ∧
    (live.portOwner (262143 / 256) = 0 ∧ mayWrite live 0 0x04 0 0x0E) := by
  and_intros <;> first
    | exact takes_of (by decide +kernel)
    | exact write_of (by decide +kernel)
    | exact read_of (by decide +kernel)
    | decide +kernel

def ringed : State := live.modRing 15 15 (fun r => { r with enable := true, entries := [7, 8] })

def gapped : State := live.modRing 0 1 (fun r => { r with enable := true, entries := [7], gapCount := 3 })

theorem witness_RingCommands :
    (live.serves 0 = true ∧ (live.ring 0 0).entries = []) ∧
    (gapped.serves 0 = true ∧ (gapped.ring 0 1).entries = [7] ∧ (gapped.ring 0 1).gapCount ≠ 0 ∧ ([] : List RingWord).length < 4096) ∧
    (((ringed.modAllot 15 (fun x => { x with link := some 2 })).serves 15 = true ∧
  ((ringed.modAllot 15 (fun x => { x with link := some 2 })).ring 15 15).entries = [7, 8] ∧
  ((ringed.modAllot 15 (fun x => { x with link := some 2 })).ring 15 15).gapCount = 0)) ∧
    (((live.modRing 0 0 (fun r => { r with enable := true })).ring 0 0).entries = [] ∧
  ((live.modRing 0 0 (fun r => { r with enable := true })).ring 0 0).enable = true) ∧
    (Instr.entryRead T 0 0 ∈ [Instr.consume T 0 0, .flush T 0 0, .statusReset T 0 0, .entryRead T 0 0] ∧
  answers (exec (.entryRead T 0 0) live) = true) := by
  and_intros <;> first
    | exact takes_of (by decide +kernel)
    | exact write_of (by decide +kernel)
    | exact read_of (by decide +kernel)
    | decide +kernel

def confStore : Tab (List Byte) :=
  [(268484610, [1]), (268640258, [1]), (536947714, [1]), (536947715, [0, 15, 112, 8, 0, 12, 0, 5]),
    (537209858, [1]), (537209859, [0, 15, 112, 8, 0, 12, 0, 5]), (554042372, [0]), (554042374, [4]), (554042376, [0, 15, 112, 8, 0, 5]),
    (554042377, [64]), (554042381, [1]), (554042382, [160, 134, 1, 0]), (554042383, [240, 73, 2, 0]),
    (554042384, [32, 20, 93, 0]), (554042388, [5, 0]), (554042391, [196, 34]), (554042392, [0, 0, 0, 0]),
    (554042393, [0, 16, 0, 0]), (606076929, [64, 0])]

def conf : State :=
  let s := { live with alm := { live.alm with store := confStore } }
  let m := { s.mem with stackTab := (List.range 12).map (fun d => (d, { st := 1, carved := true })) }
  ({ s with mem := m }.modSlot 1540 (fun x => { x with kind := 1, st := 1 })).modFeed 1540 (fun f => { f with source := some 300 })

def seg (row off : Nat) : Seg := { row := row, off := off, samples := [] }

def raster : State := live.setCfgN 0x20 1024 0x02 1 1

def chan (f : Intake → Intake) : State := conf.modIntake 1324 f

def chOpen : State :=
  chan (fun i => { i with seen := [9], oldest := 5, gapFrom := some 7, gapSince := 3, legA := true, legB := true })

def auGap : State := chOpen.setCfgN 0x20 1324 0x02 1 2

theorem witness_IntakeMerge :
    (live.cfgN 0x20 2047 0x02 = 0) ∧
    (conf.cfgN 0x20 1324 0x02 = 1 ∧ conf.diePruned (intakeDie 1324) = false ∧ ({ essence := .anc, esn := 9, ts := 0 } : IntakePkt).essence ≠ .video) ∧
    (({ esn := 9, ts := 0 } : IntakePkt).essence = .video ∧ raster.cfgN 0x20 1024 0x02 = 1 ∧
  takesFormat (raster.intakeFmt 1024) = false) ∧
    (3 < ({ esn := 9, ts := 0, segs := List.replicate 4 (seg 0 0) } : IntakePkt).segs.length) ∧
    (takesFormat (chOpen.intakeFmt 1324) = true ∧ ({ esn := 9, ts := 0 } : IntakePkt).segs.length ≤ 3 ∧
  ({ esn := 9, ts := 0 } : IntakePkt).esn ∈ (chOpen.intake 1324).seen) ∧
    (({ esn := 4, ts := 0 } : IntakePkt).esn ∉ (chOpen.intake 1324).seen ∧ newer32 (chOpen.intake 1324).oldest 4 = true ∧
  chOpen.ofOpenLine 1324 { esn := 4, ts := 0 } = false) ∧
    (({ esn := 6, ts := 0 } : IntakePkt).esn ∉ (chOpen.intake 1324).seen ∧ newer32 (chOpen.intake 1324).oldest 6 = false) ∧
    ((live.intake 5).gapFrom = none) ∧
    ((auGap.intake 1324).gapFrom.isSome = true ∧ (auGap.intake 1324).gapSince + 1000 * auGap.cfgN 0x20 1324 0x05 ≤ T ∧
  auGap.cfgN 0x20 1324 0x02 = 2) ∧
    (chOpen.cfgN 0x20 1324 0x02 ≠ 2 ∧ (chOpen.intake 1324).gapFrom.isSome = true ∧
  (chOpen.intake 1324).gapSince + 1000 * chOpen.cfgN 0x20 1324 0x05 ≤ T) ∧
    ((live.intake 5).legA = false ∧ (live.intake 5).legB = false) ∧
    ((chOpen.intake 1324).legA = true ∧ (chOpen.intake 1324).lastA + 1000000 ≤ T) ∧
    ((chOpen.intake 1324).legB = true ∧ (chOpen.intake 1324).lastB + 1000000 ≤ T) := by
  and_intros <;> first
    | exact takes_of (by decide +kernel)
    | exact write_of (by decide +kernel)
    | exact read_of (by decide +kernel)
    | decide +kernel

def pic : State := chan (fun i => { i with openTs := some 90, openSince := 5 })

def auOpen : State :=
  ((raster.modIntake 1024 (fun i => { i with openTs := some 90, auSlot := some 3 })).setCfgN 0x23 6 0x09 2 1024).modSlot 6
    (fun x => { x with kind := 2, st := 3 })

theorem witness_PicturesEnd :
    ((live.intake 7).openTs = none ∧ live.cfgN 0x20 7 0x02 ≠ 1) ∧
    (pic.cfgN 0x20 1324 0x02 = 1 ∧ (pic.intake 1324).openTs = some 90 ∧
  (pic.intake 1324).openSince + periodNs (rateOf (pic.intakeFmt 1324).rate) + 1000 * pic.cfgN 0x20 1324 0x05 ≤ T) ∧
    (conf.cfgN 0x20 1324 0x02 = 1 ∧ (conf.intake 1324).openTs = none ∧ (conf.intake 1324).endedTs = none ∧ (conf.intake 1324).missedAt = none) ∧
    (live.decodeOf 1024 = none) ∧
    (auOpen.decodeOf 1024 = some 6 ∧ (auOpen.intake 1024).openTs.isSome = true ∧ (auOpen.intake 1024).auSlot = some 3) ∧
    (0 < auOpen.slotStart 6 (3 + 1) ∧ auOpen.slotStart 6 (3 + 1) ≤ T) := by
  and_intros <;> first
    | exact takes_of (by decide +kernel)
    | exact write_of (by decide +kernel)
    | exact read_of (by decide +kernel)
    | decide +kernel

def feeds : State :=
  (conf.modFeed 8191 (fun f => { f with reading := some 300, line := 1, picture := 10, pend := some 9 })).modTwin 8191 (fun w => { w with lead := [287] })

theorem witness_FeedLines :
    (((live.at T).nextFeedPicture 8191).feedDue 8191 = none) ∧
    (((feeds.at T).nextFeedPicture 8191).feedDue 8191 = some 300) ∧
    ((live.feed 8191).reading = none ∧ (live.slot 8191).pics = []) ∧
    ((feeds.feed 8191).reading = some 300 ∧ (feeds.feed 8191).line < (feeds.feedCond 8191 300).size.2 ∧
  0 < feeds.lineTime 8191 (feeds.feed 8191).line (feeds.feedCond 8191 300)) ∧
    (0 < (feeds.feed 8191).line ∧ feeds.lineTime 8191 (feeds.feed 8191).line (feeds.feedCond 8191 300) ≤ T ∧
  feeds.diePruned (intakeDie 300) = false) ∧
    (287 ∈ feeds.members 8191 ∧ feeds.linkHolds (8 + intakeDie 300) (bedDie 287) = false) ∧
    (287 ∈ feeds.members 8191 ∧ 287 ∉ (feeds.feed 8191).took ∧ (feeds.feed 8191).pend.isSome = true ∧ (feeds.feed 8191).busy = []) ∧
    ((feeds.modFeed 8191 (fun f => { f with took := [5] }) |>.feed 8191).took ≠ []) ∧
    (0 ∉ live.members 8191 ∧ (live.feed 8191).line ≤ 0) ∧
    (287 ∈ feeds.members 8191 ∧ 0 < (feeds.feed 8191).line) := by
  and_intros <;> first
    | exact takes_of (by decide +kernel)
    | exact write_of (by decide +kernel)
    | exact read_of (by decide +kernel)
    | decide +kernel

def running : State := conf.modSlot 1540 (fun x => { x with st := 3 })

def traced : State :=
  let s := { conf with clk := { conf.clk with st := .locked, traceSince := 0 } }
  s.modSlot 1540 (fun x => { x with st := 2, startAt := some T })

def decoding : State :=
  ((live.setCfgN 0x20 0x1FFF 0x02 2 9).setCfg 0x23 9 0x08 [0, 15, 112, 8, 0, 5]).modSlot 9 (fun x => { x with kind := 2, st := 3 })

def inState (s : State) (n st : Nat) : State := s.modSlot n (fun x => { x with st := st })

set_option maxRecDepth 100000 in
theorem witness_CutsAndBoundaries :
    (takesAtOnce conf T 0 ∧ mayWrite conf 0 0x20 (0x2000 + 1540) 0x02) ∧
    ((live.slot 8191).kind = 0) ∧
    ((traced.slot 1540).kind = 1 ∧ (traced.slot 1540).role ≠ 2 ∧ (traced.slot 1540).st = 2 ∧ (traced.at T).mayStart 1540 = true ∧
  traced.cfg 0x22 1540 0x01 = [] ∧ (traced.feed 1540).cuts = []) ∧
    ((traced.at (T - 1)).mayStart 1540 = false) ∧
    ((running.slot 1540).kind = 1 ∧ (running.slot 1540).role ≠ 2 ∧ (running.slot 1540).st = 3 ∧ running.cfg 0x22 1540 0x01 = [] ∧
  (running.feed 1540).cuts = []) ∧
    (((inState running 1540 5).slot 1540).st = 5 ∧ ((inState running 1540 4).slot 1540).st = 4) ∧
    ((decoding.slot 9).kind = 2 ∧ (decoding.slot 9).st = 3 ∧ ((inState decoding 9 5).slot 9).st = 5) ∧
    (live.cfg 0x20 (0x1000 + 4095) 0x02 = []) ∧
    (decoding.cfgN 0x20 (0x1000 + 4095) 0x02 = 9 ∧ ¬ (decoding.cfg 0x20 (0x1000 + 4095) 0x02 = [] ∨ (decoding.slot 9).kind ≠ 2 ∨
  (decoding.slot 9).st < 3 ∨ decoding.diePruned (outtakeDie 4095) = true ∨ decoding.rowsOfSlot 9 ≤ 0) ∧
  (decoding.slotRead 9 0 T).isSome = true) ∧
    (decoding.slotRead 9 0 0 = none) := by
  and_intros <;> first
    | exact takes_of (by decide +kernel)
    | exact write_of (by decide +kernel)
    | exact read_of (by decide +kernel)
    | decide +kernel

def word (l : List (Nat × Nat)) : Microword := l.foldl (fun w e => w ||| (BitVec.ofNat 160 e.1 <<< e.2)) 0

def bedWith (w : Microword) (m : Micro) : State :=
  live.modBed 287 (fun b => { b with st := .running, mic := { m with space := true }, issued := w, patch := { words := [w] } })

def inWord (w : Microword) (conds : Nat) : State :=
  (bedWith w { inWord := true }).modBed 287 (fun b => { b with conds := BitVec.ofNat 64 conds })
/-- Bed 287 when its units have reported. -/

def reported (s : State) (info : RetireInfo) : State :=
  let old := (s.bed 287).mic
  let w := (s.bed 287).issued
  let done := (s.at T).modBed 287 (fun x =>
    { x.portTakes with conds := info.conds, mic := (old.scalar w).loopOp old w, store := serveWrites x.store w info.writes })
  (info.events.foldl (fun (s : State) e => s.bedReport 287 e) (if wPb w then done.pbPoint 287 info.boundary else done)).tick 287

def paced : State :=
  ((decoding.modSlot 9 (fun x => { x with dec := { x.dec with picTicks := 1000000 } })).modTwin 9 (fun w => { w with lead := [287] })).modBed 287
    (fun b => { b with st := .running, mic := { space := true }, slotNow := some 9, patch := { words := [word [(2, 98)]] } })

def nextOfBed (s : State) (info : RetireInfo) : Option Micro :=
  ((reported s info).bed 287).mic.next (s.bed 287).mic ((reported s info).bed 287).issued (fun k => (reported s info).cond 287 k)

theorem witness_MicrocodeWords :
    ((live.bed 0).runs = false ∧ (live.bed 0).mic.inWord = false) ∧
    (((bedWith (word [(1, 159)]) {}).bed 287).runs = true ∧ ((bedWith (word [(1, 159)]) {}).bed 287).mic.inWord = false ∧
  illegalWord ((bedWith (word [(1, 159)]) {}).bed 287).word = true) ∧
    (((bedWith 0 {}).bed 287).runs = true ∧ illegalWord ((bedWith 0 {}).bed 287).word = false ∧ ((bedWith 0 {}).bed 287).slotNow = none) ∧
    ((paced.bed 287).runs = true ∧ (paced.bed 287).mic.inWord = false ∧ illegalWord (paced.bed 287).word = false ∧
  (paced.bed 287).slotNow = some 9 ∧ wEcOp (paced.bed 287).word = 2 ∧ (paced.slot 9).kind = 2 ∧ paced.speaks 287 9 = true ∧
  paced.overPace 9 = true) ∧
    (((inWord 0 0).bed 287).runs = true ∧ ((inWord 0 0).bed 287).mic.inWord = true ∧ ((inWord 0 0).bed 287).mic.waiting = false ∧
  wPb ((inWord 0 0).bed 287).issued = false ∧ ({} : RetireInfo).events = []) ∧
    (((reported (inWord 0 0) { events := [.detected .storeEcc] }).bed 287).runs = false) ∧
    (wWaitCond ((reported (inWord (word [(63, 42), (1, 51)]) 0) {}).bed 287).issued ≠ 0 ∧
  ((reported (inWord (word [(63, 42), (1, 51)]) 0) {}).bed 287).runs = true ∧
  (reported (inWord (word [(63, 42), (1, 51)]) 0) {}).waitReached 287 = false) ∧
    ((reported (inWord (word [(63, 42), (0, 51)]) 0) {}).waitReached 287 = true) ∧
    (wWaitCond ((reported (inWord (word [(6, 15)]) 0) {}).bed 287).issued = 0 ∧
  wMode ((reported (inWord (word [(6, 15)]) 0) {}).bed 287).issued = 6 ∧
  ((reported (inWord (word [(6, 15)]) 0) {}).bed 287).trapHeld = false) ∧
    (wMode ((reported (inWord (word [(3, 15)]) 0) {}).bed 287).issued ≠ 6 ∧ nextOfBed (inWord (word [(3, 15)]) 0) {} = none) ∧
    ((nextOfBed (inWord 0 0) {}).isSome = true ∧ ((reported (inWord 0 0) {}).bed 287).trapHeld = false) ∧
    (((reported ((inWord 0 0).modBed 287 (fun b => { b with trapHeld := true })) {}).bed 287).trapHeld = true ∧
  ((reported ((inWord 0 0).modBed 287 (fun b => { b with trapHeld := true })) {}).bed 287).trapped = false) := by
  and_intros <;> first
    | exact takes_of (by decide +kernel)
    | exact write_of (by decide +kernel)
    | exact read_of (by decide +kernel)
    | decide +kernel

def waitWord (pol : Nat) : Microword := word [(63, 42), (pol, 51), (77, 0)]

def waitBed (pol : Nat) : State :=
  (bedWith (waitWord pol) { inWord := true, waiting := true }).modBed 287 (fun b => { b with waitSince := 0 })

def sampled (s : State) (t : Nat) : State := ((s.at t).modBed 287 (fun x => { x with conds := 0 })).tick 287

def heldBed (pol : Nat) : State := (waitBed pol).modBed 287 (fun b => { b with trapHeld := true })

def gangBed (m : Micro) : State :=
  (bedWith 0 m).modBed 287 (fun b => { b with slots := [7] }) |>.modTwin 7 (fun w => { w with lead := [286, 287] })

theorem witness_WaitsAndTraps :
    (((sampled live T).bed 287).runs = false ∧ ((sampled live T).bed 287).mic.waiting = false) ∧
    (((sampled (waitBed 0) T).bed 287).runs = true ∧ ((sampled (waitBed 0) T).bed 287).mic.waiting = true ∧
  (sampled (waitBed 0) T).waitReached 287 = true ∧ ((sampled (waitBed 0) T).bed 287).trapHeld = false) ∧
    (((sampled (heldBed 0) T).bed 287).trapHeld = true ∧ ((sampled (heldBed 0) T).bed 287).trapped = false ∧
  (sampled (heldBed 0) T).waitReached 287 = true) ∧
    (¬ waitClocks (wWaitTo ((sampled (waitBed 1) 1).bed 287).issued) ≤
  ((sampled (waitBed 1) 1).bed 287).mic.waited + clocksBetween ((sampled (waitBed 1) 1).bed 287).waitSince 1) ∧
    (((sampled (waitBed 1) T).bed 287).runs = true ∧ ((sampled (waitBed 1) T).bed 287).mic.waiting = true ∧
  (sampled (waitBed 1) T).waitReached 287 = false ∧ waitClocks (wWaitTo ((sampled (waitBed 1) T).bed 287).issued) ≤
  ((sampled (waitBed 1) T).bed 287).mic.waited + clocksBetween ((sampled (waitBed 1) T).bed 287).waitSince T ∧
  wTpOp ((sampled (waitBed 1) T).bed 287).issued ≠ 3 ∧ ((sampled (waitBed 1) T).bed 287).slotNow = none ∧
  ((sampled (waitBed 1) T).bed 287).slots = []) ∧
    (((bedWith 0 {}).gangOf 287).length ≤ 1 ∧ 1 < ((gangBed {}).gangOf 287).length ∧ 15 ≠ 0) ∧
    (live.serves 0 = true ∧ (live.bed 287).runs = false ∧ live.shed.restarting = false ∧ live.waits 0 = false) ∧
    (({ live with shed := { live.shed with restarting := true } } : State).serves 0 = true ∧
  ({ live with shed := { live.shed with restarting := true } } : State).shed.restarting = true) ∧
    (((bedWith 0 { inWord := true }).bed 287).runs = true ∧ ((bedWith 0 { inWord := true }).bed 287).mic.inWord = true ∧
  ¬ (resumable ((bedWith 0 { inWord := true }).bed 287).issued = true ∧ wTrapEn ((bedWith 0 { inWord := true }).bed 287).issued = true)) ∧
    (((bedWith 0 {}).bed 287).runs = true ∧ ((bedWith 0 {}).bed 287).trapped = false ∧ ((bedWith 0 {}).bed 287).mic.inWord = false ∧
  (bedWith 0 {}).serves 0 = true ∧ (bedWith 0 {}).waits 0 = false) := by
  and_intros <;> first
    | exact takes_of (by decide +kernel)
    | exact write_of (by decide +kernel)
    | exact read_of (by decide +kernel)
    | decide +kernel

def bedIn (st : BedState) : State := live.modBed 287 (fun b => { b with st := st })

theorem witness_BedPower :
    ((live.bed 0).st ≠ .idle ∧ (live.bed 0).st = .off ∧ (live.power 0).st ≠ 4 ∧ live.serves 0 = true ∧ (live.bed 0).st ≠ .waking) ∧
    (((bedIn .idle).bed 287).st = .idle ∧ ((bedIn .idle).bed 287).slots = [] ∧ ((bedIn .idle).bed 287).warm = false ∧
  ((bedIn .idle).bed 287).idleSince + 1000 * (bedIn .idle).cfgN 0x60 0 0x06 ≤ T) ∧
    (((bedIn .sleeping).bed 287).st = .sleeping ∧ ((bedIn .sleeping).bed 287).wakeWaits = false) ∧
    ((((bedIn .sleeping).modBed 287 (fun b => { b with wakeWaits := true })).bed 287).wakeWaits = true) ∧
    (((live.setPower 287 4).bed 287).st = .off ∧ ((live.setPower 287 4).power 287).st = 4) ∧
    (((bedIn .waking).bed 287).st = .waking ∧ ((bedIn .waking).bed 287).slots = []) ∧
    (((bedIn .soilTest).bed 287).st = .soilTest ∧ 15 ≠ 0) := by
  and_intros <;> first
    | exact takes_of (by decide +kernel)
    | exact write_of (by decide +kernel)
    | exact read_of (by decide +kernel)
    | decide +kernel

def standby : State := let s := live; { s with str := { s.str with patchStandby := 4 } }

theorem witness_BedOrders :
    (takesAtOnce live T 0 ∧ mayWrite live 0 0x60 (0x1000 + 287) 0x03 ∧ (live.bed 287).st = .off ∧ (live.power 287).st ≠ 4) ∧
    (((bedIn .idle).bed 287).st = .idle ∧ takesAtOnce (bedIn .idle) T 0) ∧
    (mayWrite standby 0 0x60 0 0x02 ∧ standby.str.patchStandby ≠ 0 ∧ live.str.patchStandby = 0 ∧ mayWrite live 0 0x60 0 0x02) ∧
    (mayWrite live 0 0x04 0 0x0D ∧
  ((live.modBed 287 (fun b => { b with slots := [5] })).bed 287).slots.any (fun n => decide ((live.slot n).owner = 0)) = true) ∧
    ((live.bed 287).slots.any (fun n => decide ((live.slot n).owner = 0)) = false) := by
  and_intros <;> first
    | exact takes_of (by decide +kernel)
    | exact write_of (by decide +kernel)
    | exact read_of (by decide +kernel)
    | decide +kernel

def admitted : State :=
  (conf.modSlot 1540 (fun x => { x with st := 2 })).modTwin 1540 (fun w => { w with lead := [0] })

def noFeed : State := conf.modFeed 1540 (fun f => { f with source := none })

def inBudget (s : State) : Bool :=
  decide (s.budgetUsed (s.slot 1540).owner + s.costOf 1540 * s.sidesOf 1540 ≤ s.cfgN 0x04 (s.slot 1540).owner 0x05 * 1000 * 4004)

def poor : State := conf.setCfgN 0x04 0 0x05 4 0

def bedless : State := { conf with flt := { conf.flt with pruned := (List.range 8).map (fun d => (d, 0xFF)) } }

set_option maxRecDepth 100000 in
theorem witness_Admissions :
    ((conf.slot 1540).kind = 1 ∧ mayWrite conf 0 0x21 1540 0x03 ∧ takesAtOnce conf T 0) ∧
    ((decoding.slot 9).kind = 2 ∧ mayWrite decoding 0 0x23 9 0x03) ∧
    ((noFeed.at T).admitCheck 1540 ≠ 0) ∧
    ((poor.at T).admitCheck 1540 = 0 ∧ poor.cfgN 0x04 (poor.slot 1540).owner 0x05 * 1000 * 4004 <
  poor.budgetUsed (poor.slot 1540).owner + poor.costOf 1540 * poor.sidesOf 1540) ∧
    ((bedless.at T).admitCheck 1540 = 0 ∧ ((bedless.at T).place 1540).1 ≠ 0 ∧ inBudget bedless = true) ∧
    ((conf.at T).admitCheck 1540 = 0 ∧ ((conf.at T).place 1540).1 = 0 ∧ inBudget conf = true) ∧
    ((conf.slot 1540).st = 1 ∧ (conf.slot 1540).role ≠ 2 ∧ (live.slot 1540).st = 0) ∧
    (2 ≤ (admitted.slot 1540).st ∧ (admitted.slot 1540).role ≠ 2) := by
  and_intros <;> first
    | exact takes_of (by decide +kernel)
    | exact write_of (by decide +kernel)
    | exact read_of (by decide +kernel)
    | decide +kernel

def awake : State := admitted.modBed 0 (fun b => { b with st := .running, slots := [1540] })

def periods : State := live.modGroup 255 (fun g => { g with pend := some (65535, T) })

theorem witness_StreamTimes :
    ((awake.slot 1540).st = 2 ∧ (awake.slot 1540).startAt = none ∧ (awake.slot 1540).role ≠ 2 ∧
  (∀ b ∈ awake.members 1540, (awake.bed b).st = .running)) ∧
    ((live.slot 0).st ≠ 2 ∧ (live.group 0).pend = none) ∧
    (∃ b ∈ admitted.members 1540, (admitted.bed b).st ≠ .running) ∧
    ((periods.group 255).pend = some (65535, T) ∧ T - 1 < T) ∧
    (takesAtOnce live T 0 ∧ mayWrite live 0 0x04 15 0x07 ∧ 8191 + Nat.max 1 1 ≤ 8192 ∧
  (∀ j, j < 1 → (live.slot (8191 + j)).st = 0)) ∧
    (8192 < 8192 + Nat.max 1 0) ∧
    (1540 + Nat.max 1 65 ≤ 8192 ∧ (conf.slot 1540).st ≠ 0) := by
  and_intros <;> first
    | exact takes_of (by decide +kernel)
    | exact write_of (by decide +kernel)
    | exact read_of (by decide +kernel)
    | decide +kernel

def unitCopy (bed : Nat) : UnitCopy := { slot := 1540, bed := bed, picture := 0, row := 0, length := 100, crc := 5, digest := 6 }

def twin1540 : State :=
  (((running.setCfgN 0x21 1540 0x18 4 0).setDelivery 0 0 0xC005).setDelivery 1 0 0xC005).modTwin 1540
    (fun w => { w with st := .whole, lead := [0], partner := [72] })

def twinWith (f : Twin → Twin) : State := twin1540.modTwin 1540 f

def opened : State := twinWith (fun w => { w with open_ := [{ die := 1, copy := unitCopy 0, t := T }] })

def openBad : State := twinWith (fun w => { w with open_ := [{ die := 1, copy := { unitCopy 0 with flagged := true }, t := T }] })
/-- The copy reaches its instance, and is a good one of a member. -/

def comes (s : State) (c : UnitCopy) : Bool :=
  !s.tileWaits c && !s.linkHolds (bedDie c.bed) (8 + 1) && s.instanceOn 1 c.slot

def memberOf (s : State) (c : UnitCopy) : Bool :=
  let w := s.twin c.slot
  comes s c && c.crcOk && !c.retrial && decide ((1, c.bed) ∉ w.requested) && (decide (c.bed ∉ w.scion) || w.retrial) &&
    decide (c.bed ∈ w.lead ++ w.partner)

def ofTwo (s : State) (c : UnitCopy) : Bool :=
  memberOf s c && decide ((s.twin c.slot).st ≠ .holding) && decide ((s.twin c.slot).partner ≠ [])

set_option maxRecDepth 100000 in
theorem witness_SieveCopies :
    ((twinWith (fun w => { w with lead := [0, 1] })).tileWaits { unitCopy 1 with tile := 1 } = true) ∧
    ((twin1540.modLink 9 (fun l => { l with holding := true })).tileWaits (unitCopy 0) = false ∧
  (twin1540.modLink 9 (fun l => { l with holding := true })).linkHolds (bedDie 0) (8 + 1) = true) ∧
    (live.instanceOn 1 8191 = false ∧ live.linkHolds (bedDie 287) (8 + 1) = false ∧
  live.tileWaits { unitCopy 287 with slot := 8191 } = false) ∧
    (comes twin1540 { unitCopy 0 with crcOk := false } = true ∧ comes twin1540 { unitCopy 0 with retrial := true } = true) ∧
    (comes (twinWith (fun w => { w with requested := [(1, 0)] })) (unitCopy 0) = true) ∧
    (comes twin1540 (unitCopy 150) = true ∧ 150 ∉ (twin1540.twin 1540).lead ++ (twin1540.twin 1540).partner ∧
  150 ∉ (twin1540.twin 1540).scion ∧ (1, 150) ∉ (twin1540.twin 1540).requested) ∧
    (comes (twinWith (fun w => { w with scion := [150] })) (unitCopy 150) = true ∧
  ((twinWith (fun w => { w with scion := [150] })).twin 1540).retrial = false) ∧
    (memberOf (twinWith (fun w => { w with st := .holding })) (unitCopy 72) = true) ∧
    (memberOf (twinWith (fun w => { w with partner := [] })) (unitCopy 0) = true) ∧
    (ofTwo twin1540 (unitCopy 0) = true ∧ (twin1540.twin 1540).openCopy 1 (unitCopy 0) = none ∧
  (twin1540.twin 1540).isDecided 1 (unitCopy 0) = false ∧ (twin1540.twin 1540).givenUp 1 0 = false ∧ (twin1540.twin 1540).excused = none) ∧
    (ofTwo (twinWith (fun w => { w with decided := [(1, 0, 0, 0)] })) (unitCopy 0) = true ∧
  ((twinWith (fun w => { w with decided := [(1, 0, 0, 0)] })).twin 1540).isDecided 1 (unitCopy 0) = true) ∧
    (ofTwo (twinWith (fun w => { w with requested := [(1, 72)] })) (unitCopy 0) = true ∧
  ((twinWith (fun w => { w with requested := [(1, 72)] })).twin 1540).givenUp 1 0 = true) ∧
    (((twinWith (fun w => { w with excused := some 72 })).twin 1540).excused.isSome = true ∧
  ((twinWith (fun w => { w with excused := some 72 })).twin 1540).isExcused 0 = false) ∧
    (ofTwo opened (unitCopy 72) = true ∧ (opened.twin 1540).openCopy 1 (unitCopy 72) = some { die := 1, copy := unitCopy 0, t := T } ∧
  copiesMatch (unitCopy 0) (unitCopy 72) = true ∧ (unitCopy 0).bed ≠ (unitCopy 72).bed ∧ (unitCopy 0).flagged = false ∧
  (opened.twin 1540).contestAt ≠ some 0) ∧
    (ofTwo openBad (unitCopy 72) = true ∧ ((openBad.twin 1540).openCopy 1 (unitCopy 72)).map (fun o => o.copy.flagged) = some true ∧
  ({ unitCopy 72 with flagged := true } : UnitCopy).flagged = true) ∧
    (copiesMatch (unitCopy 0) { unitCopy 72 with crc := 4 } = false ∧ (opened.twin 1540).st = .whole) ∧
    ((opened.twin 1540).open_.find? (fun o => decide ((o.die, o.copy.picture, o.copy.row, o.copy.tile) = (1, 0, 0, 0))) =
  some { die := 1, copy := unitCopy 0, t := T } ∧ T + 11999 < T + 12000 ∧ (unitCopy 0).bed ∉ (opened.twin 1540).scion ∧
  (opened.twin 1540).partner ≠ []) ∧
    ((openBad.twin 1540).open_.find? (fun o => decide ((o.die, o.copy.picture, o.copy.row, o.copy.tile) = (1, 0, 0, 0))) =
  some { die := 1, copy := { unitCopy 0 with flagged := true }, t := T }) ∧
    ((live.twin 8191).open_.find? (fun o => decide ((o.die, o.copy.picture, o.copy.row, o.copy.tile) = (0, 0, 0, 0))) = none) := by
  and_intros <;> first
    | exact takes_of (by decide +kernel)
    | exact write_of (by decide +kernel)
    | exact read_of (by decide +kernel)
    | decide +kernel

def dispute : Contest := { picture := 0, row := 0, tile := 0, leadCopy := unitCopy 0, partnerCopy := unitCopy 72, t := 0 }

def contested : State := twinWith (fun w => { w with st := .contested, contest := some dispute })

def spareAt (s : State) (b : Nat) : State := s.modBed b (fun x => { x with st := .idle, spare := true })

def restarting : State :=
  (awake.modSlot 1540 (fun x => { x with st := 5 })).modTwin 1540 (fun w => { w with restartAt := T })

def chosenOf (s : State) : Option Nat :=
  let used := (s.twin 1540).lead ++ (s.twin 1540).partner
  let best := fun (unit : Nat → Nat) => s.bestSpare (s.bed ((s.twin 1540).lead.headD 0)).patch.version
    ((List.range 288).filter (fun b => used.all (fun x => decide (unit x ≠ unit b))))
  (best bedDomain).orElse (fun _ => best bedDie)

set_option maxRecDepth 100000 in
theorem witness_Contests :
    ((live.twin 0).contest = none ∧ (live.twin 0).exposed = false) ∧
    ((contested.twin 1540).contest.isSome = true ∧ (contested.twin 1540).st = .contested ∧ chosenOf contested = none) ∧
    ((spareAt contested 150).shedLive = true ∧ ((spareAt contested 150).twin 1540).scion = [] ∧
  chosenOf (spareAt contested 150) = some 150) ∧
    ((contested.twin 1540).contest = some dispute ∧ dispute.t + 3 * contested.slotPeriod 1540 ≤ T ∧
  0 < dispute.t + 3 * contested.slotPeriod 1540) ∧
    ((restarting.slot 1540).st = 5 ∧ (restarting.slot 1540).role ≠ 2 ∧ (restarting.twin 1540).restartAt ≤ T ∧
  (restarting.twin 1540).lead ≠ [] ∧
  (∀ b ∈ (restarting.twin 1540).lead ++ (restarting.twin 1540).partner, (restarting.bed b).st = .running)) ∧
    (((restarting.modTwin 1540 (fun w => { w with lead := [] })).twin 1540).lead = [] ∧ restarting.shedLive = true) ∧
    ((live.slot 0).st ≠ 5 ∧ (live.twin 0).excused = none) ∧
    (((twinWith (fun w => { w with excused := some 72, excusedAt := 5 })).twin 1540).excused = some 72 ∧ 5 + 2000000 < T) ∧
    (((twinWith (fun w => { w with exposed := true })).twin 1540).exposed = true ∧
  ((twinWith (fun w => { w with exposed := true })).twin 1540).exposureOver = false ∧ 0 + 3 * twin1540.slotPeriod 1540 ≤ T) := by
  and_intros <;> first
    | exact takes_of (by decide +kernel)
    | exact write_of (by decide +kernel)
    | exact read_of (by decide +kernel)
    | decide +kernel

def single : State := spareAt (running.modTwin 1540 (fun w => { w with st := .single, lead := [0] })) 150

def grafting : State := running.modTwin 1540 (fun w => { w with st := .grafting, lead := [0], scion := [150], transplantAt := T })

def cutting : State := grafting.modTwin 1540 (fun w => { w with cuttingAt := T })

def probation (bad : Bool) : State :=
  running.modTwin 1540 (fun w => { w with st := .probation, lead := [0], scion := [150], probationBad := bad })

def sideFor (s : State) : Option (List Nat) :=
  let w := s.twin 1540
  let sides := s.scionSides 1540 (Nat.max 1 (s.gangSize 1540)) (s.bed (w.lead.headD 0)).patch.version (s.regionBytes 1540)
  let away := sides.filter (fun y => decide (some (bedDie (y.2.headD 0)) ≠ w.lostDie))
  bestSide (if away.isEmpty then sides else away)

set_option maxRecDepth 100000 in
theorem witness_Grafts :
    ((running.twin 1540).st ≠ .single ∧ (running.twin 1540).st ≠ .grafting ∧ (running.twin 1540).st ≠ .probation ∧
  (running.twin 1540).partner = []) ∧
    (single.shedLive = true ∧ (single.twin 1540).st = .single ∧ (single.slot 1540).role ≠ 2 ∧ (single.twin 1540).scion = [] ∧
  (single.twin 1540).lead ≠ [] ∧ (single.twin 1540).tries < single.cfgN 0x24 0x2000 0x03 ∧ (sideFor single).isSome = true) ∧
    ((grafting.twin 1540).st = .grafting ∧ (grafting.slot 1540).role ≠ 2 ∧ (grafting.twin 1540).cuttingAt = 0 ∧
  (grafting.twin 1540).transplantAt ≤ T ∧ T - 1 < (grafting.twin 1540).transplantAt) ∧
    ((cutting.twin 1540).st = .grafting ∧ (cutting.twin 1540).cuttingAt ≠ 0 ∧ T - 1 < (cutting.twin 1540).cuttingAt ∧
  (cutting.twin 1540).cuttingAt ≤ T) ∧
    (((probation false).twin 1540).st = .probation ∧ (∀ m ∈ (probation false).ladder 1540,
  ((probation false).twin m).probationBad = false ∧ ((probation false).twin m).unmatched = false) ∧ ((probation false).ladder 1540).Nodup) ∧
    (∃ m ∈ (probation true).ladder 1540, ((probation true).twin m).probationBad = true ∨ ((probation true).twin m).unmatched = true) ∧
    ((decoding.slot 9).kind = 2 ∧ (decoding.slot 9).pictures % 64 = 0 ∧ decoding.shedLive = true ∧
  ((decoding.modTwin 9 (fun w => { w with partner := [72] })).twin 9).partner ≠ []) := by
  and_intros <;> first
    | exact takes_of (by decide +kernel)
    | exact write_of (by decide +kernel)
    | exact read_of (by decide +kernel)
    | decide +kernel

def prunedBed : State :=
  let s := live.modBed 287 (fun b => { b with st := .pruned })
  { s with flt := { s.flt with pruned := [(7, 35)] } }

set_option maxRecDepth 100000 in
theorem witness_SparesAndPeers :
    (takesAtOnce live T 0 ∧ 16 ≤ 64 ∧ mayWrite live 0 0x24 0x2000 0x01) ∧
    (mayWrite conf 0 0x24 (0x3000 + 300) 0x01 ∧ (conf.at T).peerFits 300 1324 = true) ∧
    (7 ≠ 0xFFFF ∧ (conf.at T).peerFits 300 7 = false) ∧
    ((live.bed 0).st ≠ .pruned) ∧
    ((prunedBed.bed 287).st = .pruned ∧ prunedBed.shedLive = true ∧ prunedBed.isPruned (bedDie 287) 0xFF = false ∧
  prunedBed.isPruned 12 (bedDie 287) = false ∧ prunedBed.isPruned (bedDie 287) (287 % 36) = true ∧
  prunedBed.unitNamed (bedDie 287) (287 % 36) = false ∧ prunedBed.failedTwice (bedDie 287) (287 % 36) = false ∧
  (∀ e ∈ prunedBed.flt.sources, sourceOfUnit (bedDie 287) (287 % 36) e.1 = true → e.2.live = false)) := by
  and_intros <;> first
    | exact takes_of (by decide +kernel)
    | exact write_of (by decide +kernel)
    | exact read_of (by decide +kernel)
    | decide +kernel

def noted : State :=
  { live with alm := { live.alm with slotWrites := [(200000000, conflictKey 4 2 1 .allot (List.replicate 32 7), 1)] } }

def copied : State := live.copyCounters

set_option maxRecDepth 100000 in
theorem witness_AlmanacReadsAndWrites :
    (live.alm.live = true ∧ live.shed.restarting = false ∧ live.shed.journal = [] ∧ live.waits 15 = false ∧ live.copy = none) ∧
    (spaceOf 0x77 0 = none) ∧
    ((spaceOf 0x01 0).isSome = true ∧ (spaceOf 0x01 0).all (fun x => (entryRow x.1 x.2 0xEE).isNone) = true) ∧
    ((spaceOf 0x04 2).all (fun x => (entryRow x.1 x.2 0x01).any (fun r => !canWrite r.acc (live.rightsMask 3 0x04 2 x.1 x.2)) &&
  !recordWrite x.1 0x01) = true) ∧
    ((spaceOf 0x04 2).all (fun x => (entryRow x.1 x.2 0x01).any (fun r => !canRead r.acc (live.rightsMask 3 0x04 2 x.1 x.2)) &&
  !recordRead x.1 0x01) = true) ∧
    (takesAtOnce live T 0 ∧ mayRead live 0 0x30 11 0x02 ∧ mayWrite live 0 0x30 11 0x02) ∧
    ((spaceOf 0x30 0).all (fun x => decide (((live.at T).entryRead 0 0x30 0 0x02 x.1 x.2 []).1 = 0)) = true) ∧
    ((spaceOf 0x50 0).all (fun x => decide (((live.at T).entryRead 0 0x50 0 0x06 x.1 x.2 (natLe 8 9)).1 ≠ 0)) = true) ∧
    (copied.copy.isSome = true ∧ (spaceOf 0x10 1023).all (fun x => ((List.range 256).any (fun m => isCounter x.1 m &&
  (entryRow x.1 x.2 m).any (fun r => canRead r.acc (copied.rightsMask 0 0x10 1023 x.1 x.2)) &&
  decide (((copied.at T).fromCopy.entryRead 0 0x10 1023 m x.1 x.2 []).1 = 0)))) = true) ∧
    ((spaceOf 0x30 0).all (fun x => (entryRow x.1 x.2 0x0C).all
  (fun r => decide (((live.at T).entryWrite 0 0x30 0 0x0C x.1 x.2 r [5, 0, 0, 0]).1 = 0))) = true) ∧
    ((spaceOf 0x30 0).all (fun x => (entryRow x.1 x.2 0x0C).all
  (fun r => decide (((live.at T).entryWrite 0 0x30 0 0x0C x.1 x.2 r [5]).1 ≠ 0))) = true) ∧
    (1 < 2 ∧ (T / 10, conflictKey 4 2 1 .allot (List.replicate 32 7), 1) ∈ noted.alm.slotWrites ∧
  (spaceOf 4 2).all (fun x => decide (x.1 = .allot) && (entryRow x.1 x.2 1).all (fun r =>
  canWrite r.acc (noted.rightsMask 2 4 2 x.1 x.2) &&
  decide (((noted.at T).entryWrite 2 4 2 1 x.1 x.2 r (List.replicate 32 7)).1 = 0))) = true) := by
  and_intros <;> first
    | exact takes_of (by decide +kernel)
    | exact write_of (by decide +kernel)
    | exact read_of (by decide +kernel)
    | decide +kernel

def restartingShed : State :=
  let s := live
  { s with shed := { s.shed with restarting := true } }

def queuedShed : State :=
  { restartingShed with shed :=
    { restartingShed.shed with journal := [{ a := 15, seq := 0, idx := 0, op := 2, fam := 1, inst := 0, mem := 1, val := [] }] } }

theorem witness_StagingAndJournal :
    (live.alm.live = true ∧ live.waits 15 = false ∧ ([9] : List Byte) ≠ [] ∧ 1048575 + 1 ≤ 1048576 ∧ 1048576 < 1048576 + 1) ∧
    (0 ≤ (live.allot 0).staging.length ∧ (live.allot 0).staging.length < 1048576) ∧
    (restartingShed.alm.live = true ∧ restartingShed.waits 15 = false ∧ restartingShed.shed.restarting = true ∧
  restartingShed.journalRoom 15 1 = true) ∧
    (queuedShed.shed.journal ≠ [] ∧ 0 < queuedShed.queuedOf 15 ∧ queuedShed.journalRoom 15 1 = true) ∧
    (pairDown.alm.live = true ∧ pairDown.waits 15 = true) ∧
    (State.reset.alm.live = false) := by
  and_intros <;> first
    | exact takes_of (by decide +kernel)
    | exact write_of (by decide +kernel)
    | exact read_of (by decide +kernel)
    | decide +kernel

def op5 : List Byte := [5, 0, 0, 0, 0, 0, 0, 0]

def request (kind session seq n : Nat) (ops : List Byte) : List Byte :=
  natLe 1 1 ++ natLe 1 kind ++ natLe 1 2 ++ natLe 1 0 ++ natLe 4 session ++ natLe 4 seq ++ natLe 2 n ++
    natLe 2 ops.length ++ natLe 8 0 ++ ops

def identifying : List Byte :=
  [1, 3, 0xFF, 0, 0, 0, 0, 0, 0, 0, 0, 0, 1, 0, 8, 0, 0, 0, 0, 0, 0, 0, 0, 0] ++ [1, 1, 0, 0, 1, 0, 0, 0]

def boxed (b : List Byte) : State :=
  live.modAllot 2 (fun x => { x with session := 4, nextSeq := 9, mbox := { x.mbox with request := b, length := b.length } })
/-- The message that GO of allotment 2 finds in its mailbox. -/

def boxedMsg (s : State) : Option Msg :=
  let x := s.allot 2
  parseMsg ((x.mbox.request ++ List.replicate (x.mbox.length - x.mbox.request.length) 0).take x.mbox.length) true

def heldReq : HeldReq := { seq := 12, t := 0, port := 0xF02, bytes := [] }

set_option maxRecDepth 100000 in
theorem witness_MailboxRequests :
    (live.windowOf 15 = false ∧ (boxed op5).windowOf 2 = true ∧ (boxed op5).frontEnd = true) ∧
    (((live.modMbox 2 (fun m => { m with busy := true })).allot 2).mbox.busy = true) ∧
    (((boxed [1]).allot 2).mbox.busy = false ∧ ((boxed [1]).allot 2).mbox.reply = false ∧ boxedMsg (boxed [1]) = none) ∧
    ((boxedMsg (boxed identifying)).any (fun m => decide (m.kind = 3)) = true) ∧
    (({ boxed (request 1 4 9 1 op5) with alm := { live.alm with live := false } } : State).alm.live = false ∧
  (boxedMsg (boxed (request 1 4 9 1 op5))).any (fun m => decide (m.kind = 1)) = true) ∧
    ((boxedMsg (boxed (request 1 3 9 1 op5))).any (fun m => decide (m.kind = 1) && decide (m.session < 4)) = true) ∧
    ((boxedMsg (boxed (request 1 4 74 1 op5))).any (fun m => decide (m.kind = 1) && decide (m.session = 4) && decide (m.seq = 9 + 65)) = true ∧
  64 < 65 ∧ ((boxed (request 1 4 74 1 op5)).allot 2).cached.find? (fun c => decide (c.1 = 74)) = none) ∧
    ((boxedMsg (boxed (request 1 4 73 1 op5))).any (fun m => decide (m.kind = 1) && decide (m.session = 4) && decide (m.seq = 9 + 64)) = true) ∧
    ((boxedMsg (boxed (request 1 4 9 1 op5))).any (fun m => decide (m.kind = 1) && decide (m.session = 4) && decide (m.seq = 9) &&
  decide (m.ops.map (·.op) = [5])) = true) ∧
    (((boxed op5).allot 2).held = [] ∧ ((boxed op5).allot 2).unanswered < 256 ∧ (boxed op5).alm.live = true ∧
  ((boxed op5).allot 2).session = 4 ∧ ((boxed op5).allot 2).nextSeq = 9 ∧ 2 ∉ (boxed op5).shed.pairsDown) ∧
    (((boxed op5).allot 2).held.find? (fun h => decide (h.seq = 12) && decide (h.t + 50000000 ≤ T)) = none) ∧
    (((live.modAllot 2 (fun x => { x with held := [heldReq] })).allot 2).held.find?
  (fun h => decide (h.seq = 12) && decide (h.t + 50000000 ≤ T)) = some heldReq) := by
  and_intros <;> first
    | exact takes_of (by decide +kernel)
    | exact write_of (by decide +kernel)
    | exact read_of (by decide +kernel)
    | decide +kernel

def wayOpen : State :=
  (live.setCfg 0x01 0 0x11 ([1] ++ List.replicate 51 0)).modAllot 2 (fun x => { x with key := some (List.replicate 32 7) })

def tagged : List Byte := request 1 4 9 1 op5 ++ hmac (List.replicate 32 7) (request 1 4 9 1 op5)

set_option maxRecDepth 100000 in
theorem witness_UdpMessages :
    (wayOpen.wayIn 1024 = true ∧ wayOpen.frontEnd = true ∧ wayOpen.boot.hold = []) ∧
    (live.wayIn 0 = false) ∧
    (parseMsg [1] false = none ∧ 8224 < (List.replicate 8225 (0 : Byte)).length) ∧
    (tagged.length ≤ 8224 ∧ (parseMsg tagged false).any (fun m => decide (m.kind = 1) && decide (m.a < 16) && ((wayOpen.at T).keyFor m).isSome) = true) ∧
    (({ wayOpen with alm := { live.alm with live := false } } : State).alm.live = false) ∧
    ((parseMsg (request 1 4 9 1 op5 ++ List.replicate 32 0) false).any (fun m => decide (m.kind = 1) && decide (m.a < 16) &&
  decide ((wayOpen.at T).keyFor m = none)) = true) ∧
    ((parseMsg identifying false).any (fun m => decide (m.kind = 3) && m.identifies false &&
  decide (m.ops.map (fun o => (o.op, o.fam, o.inst, o.mem)) = [(1, 1, 0, 1)])) = true) ∧
    ((parseMsg identifying false).any (fun m => decide (m.kind ≠ 1)) = true ∧ (parseMsg tagged false).any (fun m => decide (m.kind ≠ 3)) = true) ∧
    (({ wayOpen with alm := { wayOpen.alm with identified := [(1024, 2, 100)] } } : State).alm.identified.find?
  (fun e => decide (e.1 = 1024) && decide (e.2.1 = T / 1000000000)) = some (1024, 2, 100)) ∧
    (((wayOpen.at T).readOp 0 0x01 0 1 []).2.2.length ≤ 8000) := by
  and_intros <;> first
    | exact takes_of (by decide +kernel)
    | exact write_of (by decide +kernel)
    | exact read_of (by decide +kernel)
    | decide +kernel

def keyed : State := live.modAllot 15 (fun x => { x with oldKey := some [], keyGrace := T })

def moving : State := { live with alm := { live.alm with addrPend := [(0x10, T, [5, 0])] } }

theorem witness_KeysAndAddresses :
    (takesAtOnce live T 0 ∧ mayWrite live 0 0x04 15 0x01 ∧ mayWrite live 0 0x04 0 0x01 ∧ (List.replicate 32 (7 : Byte)).length = 32 ∧
  ((live.allot 0).key).getD [] ≠ List.replicate 32 7 ∧ 0 < live.alm.credits.getD 2 0 ∧ ([1] : List Byte).length ≠ 32) ∧
    ((((live.modAllot 0 (fun x => { x with key := some (List.replicate 32 7) })).allot 0).key).getD [] = List.replicate 32 7) ∧
    (({ live with alm := { live.alm with credits := [8, 8, 0, 4, 2] } } : State).alm.credits.getD 2 0 = 0) ∧
    ((keyed.allot 15).keyGrace ≤ T ∧ T - 1 < (keyed.allot 15).keyGrace) ∧
    (moving.alm.addrPend.find? (fun e => decide (e.1 = 0x10) && decide (e.2.1 ≤ T)) = some (0x10, T, [5, 0]) ∧
  moving.alm.addrPend.find? (fun e => decide (e.1 = 0x10) && decide (e.2.1 ≤ T - 1)) = none) := by
  and_intros <;> first
    | exact takes_of (by decide +kernel)
    | exact write_of (by decide +kernel)
    | exact read_of (by decide +kernel)
    | decide +kernel

theorem witness_RegisterWindows :
    (live.windowOf 15 = false ∧ live.serves 7 = true ∧ live.windowOf 7 = true ∧ live.alm.live = true) ∧
    (0x8000 ≤ 8 * 0x1000 ∧ 8 * 0x1FFF < 0x10000 ∧ State.reset.alm.live = false) ∧
    (0x100000 ≤ 8 * 0x201FF ∧ 8 * 0x201FF < 0x101000 ∧ 8 * 0x227FF < 0x114000 ∧ 8 * 0x24FFF < 0x128000 ∧ 8 * 0x2807F < 0x140400 ∧
  8 * 0x808FF < 0x404800 ∧ 8 * 0x17C3FF < 0xBE2000 ∧ 8 * 0x1811FF < 0xC09000) ∧
    (0x1FFFFF < 0x200000 ∧ 0x200000 ≤ 0x3FFFFF ∧ (0x3FFFFF - 0x200000) / 128 * 4 ≠ 0x800) ∧
    ((0x210000 - 0x200000) / 128 * 4 = 0x800) := by
  and_intros <;> first
    | exact takes_of (by decide +kernel)
    | exact write_of (by decide +kernel)
    | exact read_of (by decide +kernel)
    | decide +kernel

def lostLatch : State := { live with alm := { live.alm with cycleWrites := (latchFields 4095).map (fun f => (T / 2, f, 0)) } }

set_option maxRecDepth 100000 in
theorem witness_LatchesAndDoorbells :
    (live.serves 15 = false ∧ live.serves 3 = true ∧ 1 ≠ 0 ∧ doorbellAllowed 3 1 = false ∧ doorbellAllowed 3 0x9800 = true) ∧
    (live.latchGranted 3 4095 = false ∧ live.latchGranted 0 4095 = true ∧ (live.at T).loses 0 (latchFields 4095) = false ∧
  (live.latch 4095).holder = none) ∧
    (lostLatch.serves 3 = true ∧ (lostLatch.setCfgN 0x04 3 0x08 8 (2 ^ 63)).latchGranted 3 4095 = true ∧
  (lostLatch.at T).loses 3 (latchFields 4095) = true) ∧
    (((live.setLatch 4095 { holder := some 3 }).latch 4095).holder = some 3 ∧ some 3 ≠ some 0) ∧
    (((live.setLatch 4095 { holder := some 0 }).latch 4095).holder = some 0) := by
  and_intros <;> first
    | exact takes_of (by decide +kernel)
    | exact write_of (by decide +kernel)
    | exact read_of (by decide +kernel)
    | decide +kernel

theorem witness_ResetsAndVotes :
    (takesAtOnce live T 0 ∧ mayWrite live 0 0x04 15 0x09) ∧
    (live.hasWindow 8 = true ∧ State.reset.hasWindow 8 = false) ∧
    (live.boundTo 1 = some 0) := by
  and_intros <;> first
    | exact takes_of (by decide +kernel)
    | exact write_of (by decide +kernel)
    | exact read_of (by decide +kernel)
    | decide +kernel

def offered : State := (live.modRoute true 0x8001 (fun r => { r with prio := 5, mask := 2 ^ 1, st := 1 })).modAllot 0 (fun x => { x with source := 0x8001 })

def lostSource : State :=
  { live.modAllot 3 (fun x => { x with source := 0x9800 }) with alm := { live.alm with cycleWrites := [(T / 2, fieldName 7 0x9800 8, 0)] } }

theorem witness_ClaimsAndCompletions :
    (live.serves 15 = false ∧ offered.serves 0 = true ∧ offered.offer (targetOf (offered.linkOf 0) 1) = some 0x8001) ∧
    (live.offer (targetOf (live.linkOf 0) 1) = none ∧ 0xFFFF ≠ 0) ∧
    ((live.modAllot 3 (fun x => { x with source := 0x8001 })).showsRoute 3 = false) ∧
    (offered.showsRoute 0 = true ∧ (offered.at T).loses 0 [fieldName 7 (offered.allot 0).source 8] = false ∧
  (offered.route true (offered.allot 0).source).st = 1) ∧
    (lostSource.showsRoute 3 = true ∧ (lostSource.at T).loses 3 [fieldName 7 (lostSource.allot 3).source 8] = true) := by
  and_intros <;> first
    | exact takes_of (by decide +kernel)
    | exact write_of (by decide +kernel)
    | exact read_of (by decide +kernel)
    | decide +kernel

def msixOn : State := (offered.modFunc 1 (fun f => { f with enabled := true })).modVector 33 (fun v => { v with pending := true })

def shedOffered : State := live.modRoute false 0x8001 (fun r => { r with prio := 3, mask := 1, st := 1 })

theorem witness_MessagesAndCores :
    (live.windowOf 15 = false ∧ msixOn.windowOf 0 = true ∧ msixOn.linkOf 0 = 1 ∧ targetOf 1 1 = 33 ∧ (msixOn.func 1).enabled = true ∧
  (msixOn.func 1).funcMask = false ∧ (msixOn.vector 33).pending = true ∧ (msixOn.offer 33).isSome = true) ∧
    (live.shed.running = true ∧ live.shed.restarting = false ∧ 15 ∉ live.shed.pairsDown ∧ live.isPruned 10 15 = false ∧
  live.shedOffer 15 = none) ∧
    (shedOffered.shedOffer 0 = some 0x8001 ∧ State.reset.shed.running = false) := by
  and_intros <;> first
    | exact takes_of (by decide +kernel)
    | exact write_of (by decide +kernel)
    | exact read_of (by decide +kernel)
    | decide +kernel

def scrubbed : State := (live.modStack 11 (fun x => { x with st := 1, hourCount := 5, hourStart := 0 })).setCfgN 0x30 11 0x0C 4 5

def ready (d : Nat) : State := live.modStack d (fun x => { x with st := 1 })

theorem witness_PatrolScrub :
    ((live.stack 11).st ≠ 1 ∧ 51539607552 ≤ 51539607552) ∧
    (((ready 11).stack 11).st = 1 ∧ 51539607551 < 51539607552 ∧ 0 < ((ready 11).stack 11).hourStart + 3600000000000 ∧
  ((ready 11).stack 11).hourCount + 1 ≤ (ready 11).cfgN 0x30 11 0x0C) ∧
    (7 < 8 ∧ 50465865727 < 50465865728 ∧ ((ready 7).stack 7).st = 1 ∧ ((ready 7).stack 7).retired.length < 256 ∧
  ((ready 7).stack 7).log.length < 1023 ∧ 50465865727 / 4096 ∉ ((ready 7).stack 7).retired) ∧
    (({ ready 7 with flt := { live.flt with sources := [(0xC00 + 16 * 7 + 2, { cls := some 0 })] } } : State).classOf (0xC00 + 16 * 7 + 2) = 0) ∧
    (takesAtOnce live T 0 ∧ mayWrite live 0 0x30 11 0x0A) ∧
    (scrubbed.cfgN 0x30 11 0x0C < (scrubbed.stack 11).hourCount + 1 ∧ 60000000000 < (scrubbed.stack 11).hourStart + 3600000000000 ∧
  ¬ (3600000000000 < (scrubbed.stack 11).hourStart + 3600000000000) ∧ 2 ≤ 2) := by
  and_intros <;> first
    | exact takes_of (by decide +kernel)
    | exact write_of (by decide +kernel)
    | exact read_of (by decide +kernel)
    | decide +kernel

def changing (k : Nat) (hold : Bool) : State :=
  let s := live.modStack 7 (fun x => { x with st := 1, opState := k, target := 1, u := T, holding := hold })
  { s with clk := { s.clk with locked := [26], refReady := true }, mem := { s.mem with waiting := if k = 1 then [7] else [] } }

def starting : State := { live with clk := { live.clk with starting := [50], refReady := true } }

set_option maxRecDepth 100000 in
theorem witness_OperatingPoints :
    (takesAtOnce live T 0 ∧ mayWrite live 0 0x30 7 0x02 ∧ (live.stack 7).opState ≠ 2 ∧ 1 ≠ (live.stack 7).active ∧
  live.dieLoad 7 ≤ slowBudget) ∧
    (slowBudget < (((live.modSlot 9 (fun x => { x with kind := 1, st := 3, cost := slowBudget + 1 })).modBed 252
  (fun b => { b with slots := [9] })).modTwin 9 (fun w => { w with lead := [252] })).dieLoad 7) ∧
    (live.clk.refReady = false ∧ starting.clk.refReady = true ∧ 50 ∈ starting.clk.starting) ∧
    ((live.stack 7).opState ≠ 1 ∧ ((changing 1 false).stack 7).opState = 1 ∧
  11 + 2 * 7 + ((changing 1 false).stack 7).target ∈ (changing 1 false).clk.locked ∧ (changing 1 false).twinsWhole 7 = true ∧
  (changing 1 false).mem.waiting = [7] ∧ ((changing 1 false).stack 7).st = 1 ∧ (∀ m, m < 8 → ((changing 1 false).stack m).opState ≠ 2)) ∧
    (((changing 2 false).stack 7).opState = 2 ∧ ((changing 2 false).stack 7).holding = false ∧ ((changing 2 false).stack 7).u ≤ T) ∧
    (((changing 2 true).stack 7).opState = 2 ∧ ((changing 2 true).stack 7).holding = true ∧
  T + 28000 ≤ ((changing 2 true).stack 7).u + 28000 ∧ 7 ∉ (changing 2 true).mem.waiting) ∧
    (((changing 2 true).stack 7).u + 28000 ≤ T + 28000 ∧ T + 27999 < ((changing 2 true).stack 7).u + 28000) ∧
    (takesAtOnce live T 0 ∧ 8 ≤ 11 ∧ 11 < 12 ∧ mayWrite live 0 0x30 11 0x02 ∧ 10 / 2 = 11 / 2 ∧ 9 / 2 ≠ 11 / 2 ∧ (live.stack 11).active ≠ 1) ∧
    (takesAtOnce (changing 2 true) T 0 ∧ mayWrite (changing 2 true) 0 0x30 7 0x02 ∧ ((changing 2 true).stack 7).opState = 2 ∧
  1 = ((changing 2 true).stack 7).target ∧ 0 ≠ ((changing 2 true).stack 7).target ∧ (live.stack 7).opState ≠ 2 ∧ 0 = (live.stack 7).active) ∧
    ((changing 1 false).mem.waiting.find? (fun m => decide (((changing 1 false).stack m).st = 1)) = some 7 ∧
  (live.mem.waiting.find? (fun m => decide ((live.stack m).st = 1)) ≠ some 7) ∧ 11 + 2 * 7 + (live.stack 7).target ∉ live.clk.locked) ∧
    (((changing 2 false).stack 7).holding = false ∧ T - 1 < ((changing 2 false).stack 7).u ∧ 7 / 1 < 8 ∧
  (((changing 2 false).modBed 287 (fun b => { b with st := .soilTest })).bed 287).st = .soilTest ∧ bedDie 287 = 7) ∧
    (7 ∈ ({ changing 2 true with mem := { (changing 2 true).mem with waiting := [7] } } : State).mem.waiting) := by
  and_intros <;> first
    | exact takes_of (by decide +kernel)
    | exact write_of (by decide +kernel)
    | exact read_of (by decide +kernel)
    | decide +kernel

def dma (f : Dma → Dma) : State := live.modDma 511 (fun d => f { d with count := 8, dstSpace := 2 })

theorem witness_DmaChannels :
    (live.serves (511 / 64) = true ∧
  (live.cfgN 0x31 (511 / 64) 0x02, live.cfgN 0x31 (511 / 64) 0x03) = ((live.area (511 / 64)).1, (live.area (511 / 64)).2.1)) ∧
    (((dma id).dmaCh 511).st = 0 ∧ ((dma id).dmaCh 511).count ≠ 0) ∧
    (((dma (fun d => { d with st := 3 })).dmaCh 511).st ≠ 0 ∧ ((dma (fun d => { d with st := 3 })).dmaCh 511).st ≠ 2) ∧
    ((live.dmaCh 511).disable = false ∧ (live.dmaCh 511).dstSpace < 2 ∧ (live.dmaCh 511).st ≠ 1) ∧
    (((dma (fun d => { d with disable := true })).dmaCh 511).disable = true) ∧
    (((dma (fun d => { d with st := 1 })).dmaCh 511).st = 1 ∧ ((dma (fun d => { d with st := 1 })).dmaCh 511).srcSpace = 0 ∧
  ((dma (fun d => { d with st := 1 })).dmaCh 511).dstSpace = 2 ∧ ((dma (fun d => { d with st := 1 })).dmaCh 511).early = [] ∧
  ([1, 2, 3, 4, 5, 6, 7, 8] : List Byte) ≠ [] ∧
  ((dma (fun d => { d with st := 1 })).dmaCh 511).written + ([1, 2, 3, 4, 5, 6, 7, 8] : List Byte).length ≤
  ((dma (fun d => { d with st := 1 })).dmaCh 511).count ∧ 0 + 8 ≤ 2 ^ 64 ∧ 0 + 8 ≤ ((dma id).area (511 / 64)).1 * 1048576) ∧
    (((dma (fun d => { d with st := 1, retry := true, retries := 1 })).dmaCh 511).retry = true ∧
  ((dma (fun d => { d with st := 1, retry := true, retries := 1 })).dmaCh 511).tried <
  ((dma (fun d => { d with st := 1, retry := true, retries := 1 })).dmaCh 511).retries ∧ 1 ≤ 3) ∧
    (((dma (fun d => { d with st := 1 })).dmaCh 511).retry = false) ∧
    (State.reset.serves 15 = false ∧ 64 / 64 ≠ 0 ∧ live.serves (511 / 64) = true) ∧
    ((live.dmaCh 511).count = 0 ∧ (live.dmaCh 511).st = 0 ∧ ((dma (fun d => { d with st := 2 })).dmaCh 511).st = 2 ∧
  ((dma (fun d => { d with st := 1 })).dmaCh 511).st = 1 ∧ 2 ≤ ((dma (fun d => { d with st := 1 })).dmaCh 511).dstSpace) ∧
    (live.serves (511 / 64) = true ∧ ((dma (fun d => { d with st := 1 })).dmaCh 511).st = 1 ∧ 0 + 8 ≤ ((dma id).area (511 / 64)).1 * 1048576 ∧
  ((dma id).area (511 / 64)).1 ≤ 2048 ∧ ((dma id).cfgN 0x31 (511 / 64) 0x02, (dma id).cfgN 0x31 (511 / 64) 0x03) =
  (((dma id).area (511 / 64)).1, ((dma id).area (511 / 64)).2.1)) ∧
    ((((dma id).setCfgN 0x31 7 0x02 8 5).cfgN 0x31 (511 / 64) 0x02, ((dma id).setCfgN 0x31 7 0x02 8 5).cfgN 0x31 (511 / 64) 0x03) ≠
  ((((dma id).setCfgN 0x31 7 0x02 8 5).area (511 / 64)).1, (((dma id).setCfgN 0x31 7 0x02 8 5).area (511 / 64)).2.1)) ∧
    (((dma (fun d => { d with st := 1, written := 4 })).dmaCh 511).count ≤ 8 ∧ 3 < ((dma (fun d => { d with st := 1, written := 4 })).dmaCh 511).written ∧
  (∃ e ∈ ((dma (fun d => { d with st := 1, early := [(4, [1])] })).dmaCh 511).early, e.1 = 4)) ∧
    (((dma (fun d => { d with st := 1 })).dmaCh 511).written ≤ 4 ∧ 4 < ((dma (fun d => { d with st := 1 })).dmaCh 511).count ∧
  (∀ e ∈ ((dma (fun d => { d with st := 1 })).dmaCh 511).early, e.1 ≠ 4) ∧ (dma id).dmaFits 7 0 (0 + 4) 4 false = true ∧
  (dma id).dmaFits 7 2 (0 + 4) 4 true = true ∧ (dma id).dmaFits 7 0 (2 ^ 64) 4 false = false ∧ (dma id).dmaFits 7 1 0 4 true = false) ∧
    (4 ≠ ((dma (fun d => { d with st := 1 })).dmaCh 511).written ∧ ((dma (fun d => { d with st := 1, dstSpace := 0 })).dmaCh 511).dstSpace = 0 ∧
  ((dma (fun d => { d with st := 1, dstSpace := 0 })).dmaCh 511).early = [] ∧ (([1, 2] : List Byte).take (8 - 0)).length < 8 - 0) ∧
    (7 ≤ 7 ∧ 1 ≤ 6 ∧ 6 < 7 ∧ 3 < 4 ∧ ((dma (fun d => { d with st := 1, retry := true, retries := 1, tried := 1 })).dmaCh 511).retries ≤
  ((dma (fun d => { d with st := 1, retry := true, retries := 1, tried := 1 })).dmaCh 511).tried) := by
  and_intros <;> first
    | exact takes_of (by decide +kernel)
    | exact write_of (by decide +kernel)
    | exact read_of (by decide +kernel)
    | decide +kernel

def prunedUnit : State := { live with flt := { live.flt with pruned := [(13, 255)] } }

theorem witness_FaultRows :
    (takesAtOnce live T 0 ∧ mayWrite live 0 0x40 0 0x01 ∧ mayWrite live 0 0x40 0 0x06 ∧ mayWrite live 0 0x40 0 0x05) ∧
    ((sourceInfo 0xC00).any (fun i => !i.fixed && decide (0 ∈ i.legal)) = true ∧ mayWrite live 0 0x40 (0x1000 + 0xC00) 0x01) ∧
    ((sourceInfo 0xC00).isSome = true ∧ live.flt.inject = false ∧ mayWrite live 0 0x40 (0x1000 + 0xC00) 0x02) ∧
    ((∀ e ∈ live.flt.sources, e.2.live = true → 16 ≠ 16 ∧ e.1 / 256 ≠ 16) ∧ mayWrite live 0 0x40 (0x100 + 16) 0x02) ∧
    (prunedUnit.isPruned 13 255 = true ∧ prunedUnit.unitNamed 13 255 = false ∧ ¬ (13 = 12 ∧ 8 ≤ 255)) ∧
    (takesAtOnce live T 0 ∧ (sourceInfo 0xC00).any (fun i => !i.fixed && !decide (200 ∈ i.legal)) = true ∧
  (sourceInfo 0xF01).all (fun i => i.fixed) = true ∧ mayWrite live 0 0x40 (0x1000 + 0xF01) 0x01 ∧ 200 < 256) ∧
    (sourceInfo 0xFFF = none ∧ mayWrite live 0 0x40 (0x1000 + 0xFFF) 0x02 ∧ mayWrite live 0 0x40 (0x100 + 16) 0x02) ∧
    (live.isPruned 13 255 = false ∧ 8 ≤ 255 ∧ mayWrite live 0 0x40 0 0x05) := by
  and_intros <;> first
    | exact takes_of (by decide +kernel)
    | exact write_of (by decide +kernel)
    | exact read_of (by decide +kernel)
    | decide +kernel

def injecting : State := { live with flt := { live.flt with inject := true } }

theorem witness_FaultSources :
    ((sourceInfo 0xC00).isSome = true ∧ live.flt.recording = true ∧ (live.source 0xC00).live = false) ∧
    (takesAtOnce injecting T 0 ∧ mayWrite injecting 0 0x40 (0x1000 + 0xC00) 0x02 ∧ injecting.flt.inject = true ∧
  (injecting.source 0xC00).live = false ∧ 8 ≤ 0xC00 / 256) ∧
    (((live.modSource 0xC00 (fun x => { x with force := true })).source 0xC00).live = true) ∧
    (sourceInfo 0xFFF = none ∧ State.reset.flt.recording = false ∧ (sourceInfo 0xC00).isSome = true) ∧
    (((injecting.modSource 0xC00 (fun x => { x with force := true })).source 0xC00).live = true ∧
  takesAtOnce (injecting.modSource 0xC00 (fun x => { x with force := true })) T 0 ∧
  mayWrite (injecting.modSource 0xC00 (fun x => { x with force := true })) 0 0x40 (0x1000 + 0xC00) 0x02) ∧
    ((sourceInfo 0x723).isSome = true ∧ (injecting.source 0x723).live = false ∧ injecting.flt.recording = true ∧ 0x723 / 256 < 8 ∧
  0x723 % 256 < 36 ∧ mayWrite injecting 0 0x40 (0x1000 + 0x723) 0x02) := by
  and_intros <;> first
    | exact takes_of (by decide +kernel)
    | exact write_of (by decide +kernel)
    | exact read_of (by decide +kernel)
    | decide +kernel

def ticking : State := { live with flt := { live.flt with ticking := true } }

def resetting (l : Tab Source) : State := { live with flt := { live.flt with resetting := [(13, 255)], sources := l } }

theorem witness_AliveTicksAndReturns :
    (ticking.flt.ticking = true ∧ ticking.mod.on = true ∧ ticking.mod.hedgeV = true) ∧
    (live.flt.pulse0 ≤ T ∧ live.flt.pulse1 ≤ T) ∧
    ((13, 255) ∈ (resetting []).flt.resetting ∧ (resetting []).shedLive = true ∧
  (∀ e ∈ (resetting []).flt.sources, sourceOfUnit 13 255 e.1 = true → e.2.live = false)) ∧
    ((12, 0) ∈ ({ live with flt := { live.flt with resetting := [(12, 0)], sources := [(0xC00, { cause := true })] } } : State).flt.resetting ∧
  (∃ e ∈ ([(0xC00, { cause := true })] : Tab Source), sourceOfUnit 12 0 e.1 = true ∧ e.2.live = true)) ∧
    (live.flt.ticking = false ∧ (13, 255) ∉ live.flt.resetting ∧ State.reset.shedLive = false ∧ 9 < 10) ∧
    ((resetting []).failedTwice 13 255 = false ∧ 255 < 256 ∧ live.shedLive = true) ∧
    ((7, 0xFF) ∈ ({ live with flt := { live.flt with resetting := [(7, 0xFF)], sources := [(0x700, { cause := true })] } } : State).flt.resetting ∧
  (∃ e ∈ ([(0x700, { cause := true })] : Tab Source), sourceOfUnit 7 0xFF e.1 = true ∧ e.2.live = true ∧ e.1 ≠ 0xF00 + 16 * 7 ∧
  e.1 ≠ 0xF01 + 16 * 7)) := by
  and_intros <;> first
    | exact takes_of (by decide +kernel)
    | exact write_of (by decide +kernel)
    | exact read_of (by decide +kernel)
    | decide +kernel

def measuring : State :=
  let s := live
  { s with cal := { s.cal with running := true, batch := [127] } }

def sensing : State :=
  let s := live
  { s with cal := { s.cal with running := true, kind := 1, todo := [143] } }

def cut0 : State := live.modPort 1023 (fun p => { p with interruptedTo := 5 })

theorem witness_CalibrationRuns :
    (takesAtOnce live T 0 ∧ mayWrite live 0 0x41 0 0x01 ∧ ([143] : List Nat) ≠ [] ∧ (∀ x ∈ [143], x < 144) ∧ live.cal.running = false) ∧
    (live.isPruned 11 (127 / 8) = false ∧ live.otherPending (127 / 64) = false ∧ measuring.cal.running = true) ∧
    (0 ∉ live.cal.batch ∧ measuring.cal.batch = [127] ∧ measuring.cal.todo = [] ∧ measuring.cal.kind = 0 ∧
  trimsInRange (List.replicate 16 255) = true) ∧
    ((live.port 1023).interruptedTo = 0 ∧ (cut0.port 1023).interruptedTo ≠ 0 ∧ (cut0.port 1023).interruptedTo + 100000 ≤ T ∧
  4 + 100000 < (cut0.port 1023).interruptedTo + 100000) ∧
    (sensing.cal.running = true ∧ sensing.cal.kind = 1 ∧ 143 ∈ sensing.cal.todo ∧ sensorInRange 2047 (-32768) = true) ∧
    (2 ≤ 2 ∧ (∃ x ∈ [128], (if (0 : Nat) = 0 then 128 else 144) ≤ x) ∧ (∃ x ∈ [63, 64], x / 64 ≠ [63, 64].headD 0 / 64) ∧ 145 ≤ 145) ∧
    (({ live with flt := { live.flt with pruned := [(11, 15)] } } : State).isPruned 11 (127 / 8) = true ∧ sensing.cal.running = true) ∧
    (127 ∈ measuring.cal.batch ∧ trimsInRange (List.replicate 16 255) = true ∧ trimsInRange [999] = false) := by
  and_intros <;> first
    | exact takes_of (by decide +kernel)
    | exact write_of (by decide +kernel)
    | exact read_of (by decide +kernel)
    | decide +kernel

def armed (l : Tab PairTrim) : State :=
  let s := live
  { s with cal := { s.cal with armed := T, pairs := l } }

theorem witness_TrimEpochs :
    (takesAtOnce live T 0 ∧ mayWrite live 0 0x41 0 0x04 ∧ T + 1000000 ≤ T + 1000000 ∧ T + 1000000 < 2 ^ 64 ∧ live.cal.armed = 0) ∧
    ((armed []).cal.armed ≠ 0 ∧ T - 1 < (armed []).cal.armed ∧ (armed []).cal.armed ≤ T ∧
  (∀ e ∈ (armed []).cal.pairs, e.2.pending = none) ∧ (∀ e ∈ (armed []).cal.sensors, e.2.pending = none)) ∧
    ((armed [(127, { pending := some [1] })]).cal.pairs = [(127, { pending := some [1] })] ∧
  (armed [(127, { pending := some [1] })]).cal.sensors = [] ∧ (armed [(127, { pending := some [1] })]).cal.batch = [] ∧
  ([1] : List Int) ≠ ({ pending := some [1] } : PairTrim).active) ∧
    (mayWrite live 0 0x41 0 0x08 ∧ mayRead live 0 0x41 0 0x06 ∧ live.copy = none ∧ mayWrite live 0 0x41 0 0x07 ∧
  ([1] : List Byte).length ≠ 4712) ∧
    (T + 1 ≠ 0 ∧ T + 1 < T + 1000000 ∧ T + 1000000 < 2 ^ 64) ∧
    ((∃ e ∈ (armed [(127, { pending := some [1] })]).cal.pairs, e.2.pending.isSome = true ∧ e.1 ∉ (armed [(127, { pending := some [1] })]).cal.batch) ∧
  ((armed [(127, { pending := some [1] })]).cal.pairs.map (·.1)).Nodup ∧ ((armed [(127, { pending := some [1] })]).cal.sensors.map (·.1)).Nodup) := by
  and_intros <;> first
    | exact takes_of (by decide +kernel)
    | exact write_of (by decide +kernel)
    | exact read_of (by decide +kernel)
    | decide +kernel

def due : State := (bedIn .idle).modBed 287 (fun b => { b with owed := true })

set_option maxRecDepth 100000 in
theorem witness_SoilTests :
    (State.reset.shedLive = false ∧ due.shedLive = true ∧ (due.at T).soilMay 287 = true) ∧
    ((live.bed 0).st ≠ .soilTest ∧ ((bedIn .soilTest).bed 287).st = .soilTest ∧ ((bedIn .soilTest).bed 287).trapHeld = false ∧
  (bedIn .soilTest).isPruned (bedDie 287) (287 % 36) = false ∧ 4 ≠ 0) ∧
    (takesAtOnce prunedBed T 0 ∧ mayWrite prunedBed 0 0x42 (0x1000 + 287) 0x04 ∧ (prunedBed.bed 287).soilFails < 2) ∧
    ((((prunedBed.modBed 287 (fun b => { b with soilFails := 2 }))).bed 287).st = .pruned ∧
  2 ≤ (((prunedBed.modBed 287 (fun b => { b with soilFails := 2 }))).bed 287).soilFails) ∧
    (((bedIn .soilTest).modBed 287 (fun b => { b with trapHeld := true })).bed 287 = { (bedIn .soilTest).bed 287 with trapHeld := true } ∧
  ((bedIn .soilTest).bed 287).st = .soilTest ∧ mayWrite live 0 0x42 (0x1000 + 287) 0x04 ∧ (live.bed 287).st ≠ .pruned) := by
  and_intros <;> first
    | exact takes_of (by decide +kernel)
    | exact write_of (by decide +kernel)
    | exact read_of (by decide +kernel)
    | decide +kernel

def sel : List Byte := [0x87, 1, 1, 0xFE, 0xFF, 0xFF, 0xFF, 0xFF, 0xFF, 0, 0]

def samples : State :=
  ((bedIn .running).setCfg 0x43 0 0x17 sel).modRing 0 ((bedIn .running).cfgN 0x43 0 0x05) (fun r => { r with enable := true })

theorem witness_BedCounters :
    (takesAtOnce live T 0 ∧ mayWrite live 0 0x43 0 0x17 ∧ sel.length = 11 ∧ legalCounter sel = sel ∧ mayWrite live 0 0x43 0 0x02 ∧
  mayWrite live 0 0x43 0 0x03) ∧
    (mayWrite live 0 0x43 (0x1000 + 8191) 0x03 ∧ (live.slot 8191).st < 3) ∧
    ((live.counterSel 7).2.2.1 = false ∧ (samples.counterSel 7).2.2.1 = true ∧ samples.str.frozen = false ∧
  (samples.bed 287).st = .running ∧ 7 ∉ (samples.bed 287).sampling ∧ (samples.bed 287).bc.length = 8 ∧
  (samples.ring 0 (samples.cfgN 0x43 0 0x05)).enable = true ∧ (samples.ring 0 (samples.cfgN 0x43 0 0x05)).entries.length < 4096) ∧
    (([1] : List Byte).length ≠ 11 ∧ ([0x20, 2, 1, 0, 0, 0, 0, 0, 0, 0, 0] : List Byte).length = 11 ∧
  legalCounter [0x20, 2, 1, 0, 0, 0, 0, 0, 0, 0, 0] ≠ [0x20, 2, 1, 0, 0, 0, 0, 0, 0, 0, 0]) ∧
    (3 ≤ ((live.modSlot 8191 (fun x => { x with st := 3 })).slot 8191).st ∧
  mayWrite (live.modSlot 8191 (fun x => { x with st := 3 })) 0 0x43 (0x1000 + 8191) 0x03 ∧
  takesAtOnce (live.modSlot 8191 (fun x => { x with st := 3 })) T 0) ∧
    ((live.bed 287).st = .off ∧ (samples.bed 287).st ≠ .waking ∧ fieldAt sel 2 1 = 1 ∧ (samples.bed 287).st ≠ .off) := by
  and_intros <;> first
    | exact takes_of (by decide +kernel)
    | exact write_of (by decide +kernel)
    | exact read_of (by decide +kernel)
    | decide +kernel

def imaging : State := live.modHarvest 15 (fun h => { h with copying := some {} })

def newList : State := live.modHarvest 15 (fun h => { h with pend := some ([(1, 1023)], 0) })

theorem witness_Harvests :
    (takesAtOnce live T 0 ∧ mayWrite live 0 0x43 (0x100 + 0) 0x01 ∧ (∀ e ∈ [(1, 1023)], e.1 < 256 ∧ e.2 < 4294967296) ∧
  ([(1, 1023)].map (fun e => harvestSlots e.1)).sum ≤ 4032 ∧ (∀ e ∈ [(1, 1023)], live.harvestRight 0 e.1 e.2 = true)) ∧
    ((∃ e ∈ [(1, 1024)], harvestObject e.1 e.2 = none)) ∧
    (live.shed.restarting = false ∧ T % (live.str.harvestMs * 1000000) = 0 ∧ (T + 1) % (live.str.harvestMs * 1000000) ≠ 0) ∧
    ((live.allot 15).harvest.pend = none ∧ (live.allot 15).harvest.copying = none ∧ (imaging.allot 15).harvest.copying = some {}) ∧
    ((newList.allot 15).harvest.pend = some ([(1, 1023)], 0) ∧ 0 + 1000000 ≤ T) ∧
    (live.harvestRight 3 3 1540 = false ∧ 3 ≠ 9 ∧ (harvestObject 3 1540).isSome = true ∧ mayWrite live 0 0x43 (0x100 + 3) 0x01) ∧
    (4032 < ((List.replicate 807 (10, 0)).map (fun e => harvestSlots e.1)).sum ∧ (∀ e ∈ ([(9, 287)] : List (Nat × Nat)), e.1 = 9 ∨ live.harvestRight 3 e.1 e.2 = true)) ∧
    (live.shed.restarting = false ∧ ({ live with shed := { live.shed with restarting := true } } : State).shed.restarting = true) := by
  and_intros <;> first
    | exact takes_of (by decide +kernel)
    | exact write_of (by decide +kernel)
    | exact read_of (by decide +kernel)
    | decide +kernel

def unpowered0 : State := live.modGauge (fun g => { g with powered := false })

def metered : State := (live.setRail 4 1).setRail 5 1

def gauged (f : Gauge → Gauge) : State := metered.modGauge (fun g => f { g with flags := { g.flags with gap := false } })

def closing : GaugeClosing := { start := 0, finish := T - 10000000, usage := [], flags := {}, tariff := [] }

theorem witness_GaugeIntervals :
    ((gauged id).gauge.powered = true ∧ (gauged id).gauge.restarting = false ∧ (gauged id).mod.on = true ∧ (gauged id).rail 4 = 1 ∧
  (gauged id).rail 5 = 1 ∧ (gauged id).gauge.flags.gap = false ∧ (gauged id).gauge.old0 = [] ∧ (gauged id).gauge.old1 = []) ∧
    (live.gauge.powered = true ∧ live.gauge.restarting = false ∧ live.rail (4 + 1) ≠ 1 ∧ live.traceable = false ∧
  (live.at T).gaugeFree = true) ∧
    (({ live with clk := { live.clk with st := .locked } } : State).traceable = true ∧
  (({ live with clk := { live.clk with st := .locked } } : State).at T).gaugeFree = false) ∧
    ((T + 1) % (live.gauge.interval * 1000000000) ≠ 0 ∧ 60000000000 % (live.gauge.interval * 1000000000) = 0 ∧
  live.gauge.start < 60000000000 ∧ live.gauge.closing = none) ∧
    (((gauged (fun g => { g with closing := some closing })).gauge.closing) = some closing ∧ closing.finish + 10000000 ≤ T ∧
  T - 1 < closing.finish + 10000000 ∧ (gauged id).gauge.records.length < 65536) ∧
    (unpowered0.gauge.powered = false ∧ State.reset.mod.on = false ∧ ({ live with gauge := { live.gauge with restarting := true } } : State).gauge.restarting = true) ∧
    ((∀ e ∈ live.alm.slotOld, e.1 ≠ 60000000000 / 10) ∧ 1 < 2 ∧ live.rail 4 ≠ 1) ∧
    (65536 ≤ (List.range 65536).length ∧ live.gauge.ackSeq < 1) := by
  and_intros <;> first
    | exact takes_of (by decide +kernel)
    | exact write_of (by decide +kernel)
    | exact read_of (by decide +kernel)
    | decide +kernel

def gaugeRec (n : Nat) : GaugeRec := { seq := n, start := 0, length := 60, bytes := [7] }

def recorded : State := live.modGauge (fun g => { g with records := [gaugeRec 1, gaugeRec 2], toSend := [1, 2] })

def replaying : State := recorded.modGauge (fun g => { g with replay := some [1, 2] })

def unpowered : State := live.modGauge (fun g => { g with powered := false })

theorem witness_GaugePortAndSeal :
    (unpowered.gauge.powered = false ∧ live.gauge.powered = true ∧ live.mod.hedgeV = true) ∧
    (recorded.gauge.replay = none ∧ recorded.gauge.toSend = [1, 2] ∧ recorded.gauge.find 1 = some (gaugeRec 1)) ∧
    (replaying.gauge.replay = some [1, 2] ∧ replaying.gauge.find 1 = some (gaugeRec 1) ∧ recorded.gauge.records ≠ []) ∧
    (live.classOf 0xE00 = 0 ∨ live.classOf 0xE00 = 1) ∧
    (live.gauge.toSend = [] ∧ recorded.gauge.find 3 = none ∧ recorded.gauge.replay = none ∧ unpowered.mod.hedgeV = true) := by
  and_intros <;> first
    | exact takes_of (by decide +kernel)
    | exact write_of (by decide +kernel)
    | exact read_of (by decide +kernel)
    | decide +kernel

def tariffBytes : List Byte := [1, 0, 0, 0] ++ List.replicate 64 0

theorem witness_GaugeEntries :
    (takesAtOnce live T 0 ∧ 10 ≤ 3600 ∧ 3600 ≤ 3600 ∧ mayWrite live 0 0x50 0 0x01 ∧ live.cfg 0x50 0 0x01 ≠ natLe 4 10 ∧
  0 < live.alm.credits.getD 0 0) ∧
    (({ live with alm := { live.alm with credits := [0, 8, 16, 4, 2] } } : State).alm.credits.getD 0 0 = 0) ∧
    (mayWrite live 0 0x50 0 0x02 ∧ ([1] : List Byte).length ≠ 68 ∧ 0 < live.alm.credits.getD 1 0) ∧
    (([1, 0, 0, 0, 0, 0, 0, 0] ++ List.replicate 60 (3 : Byte)).length = 68 ∧
  fieldAt ([1, 0, 0, 0, 0, 0, 0, 0] ++ List.replicate 60 (3 : Byte)) 0 4 = 1 ∧
  fieldAt ([1, 0, 0, 0, 0, 0, 0, 0] ++ List.replicate 60 (3 : Byte)) 4 4 = 0 ∧
  live.cfg 0x50 0 0x02 ≠ natLe 4 1 ++ natLe 4 0 ++ ([1, 0, 0, 0, 0, 0, 0, 0] ++ List.replicate 60 (3 : Byte)).drop 8) ∧
    (mayRead recorded 0 0x50 0 0x06 ∧ recorded.copy = none ∧ recorded.gauge.find 2 = some (gaugeRec 2) ∧ 2 < 2 ^ 64) ∧
    (takesAtOnce live T 0 ∧ 9 < 10 ∧ 3600 < 3601 ∧ live.cfg 0x50 0 0x01 ≠ natLe 4 10 ∧ 4294967295 < 4294967296) ∧
    (recorded.gauge.find 3 = none ∧ live.alm.credits.getD 1 0 ≠ 0) ∧
    ((live.setCfgN 0x50 0 0x01 4 3600).cfg 0x50 0 0x01 = natLe 4 3600 ∧ ({ live with alm := { live.alm with credits := [0, 0, 16, 4, 2] } } : State).alm.credits.getD 1 0 = 0) := by
  and_intros <;> first
    | exact takes_of (by decide +kernel)
    | exact write_of (by decide +kernel)
    | exact read_of (by decide +kernel)
    | decide +kernel

def fed (a b : Nat) : State :=
  let s := live
  { s with mod := { s.mod with rangeA := true, rangeB := true, feedA := a, feedB := b, feedInUse := 1 } }

theorem witness_FeedsAndPhases :
    (live.mod.on = true ∧ (fed 1 1).mod.feedInUse = 1 ∧ (fed 1 1).mod.usable 1 = true ∧ (fed 1 1).mod.feedB ≠ 3) ∧
    ((fed 1 3).mod.on = true ∧ (fed 1 3).mod.feedInUse = 1 ∧ (fed 1 3).mod.feedB = 3 ∧ (fed 1 3).mod.feedA ≠ 4) ∧
    (live.classOf 0xD00 = 0 ∨ live.classOf 0xD00 = 1) ∧
    (live.classOf 0xD01 = 0 ∨ live.classOf 0xD01 = 1) ∧
    ((fed 1 1).mod.usable ((fed 1 1).cfgN 0x02 0 0x01) = true ∧ (fed 1 1).cfgN 0x02 0 0x02 ≠ 0 ∧
  (fed 1 1).mod.sinceA + (fed 1 1).cfgN 0x02 0 0x02 * 1000000 ≤ 60000000000 ∧ (fed 1 1).mod.feedInUse ≠ (fed 1 1).cfgN 0x02 0 0x01 ∧
  0 < (fed 1 1).mod.sinceA + (fed 1 1).cfgN 0x02 0 0x02 * 1000000) ∧
    ((fed 1 1).mod.rangeA = true ∧ live.mod.rangeA = false ∧ live.mod.rangeB = false) ∧
    (takesAtOnce live T 0 ∧ mayWrite live 0 0x02 0 0x01 ∧ mayWrite (fed 1 1) 0 0x02 0 0x01) ∧
    (111 ∉ live.mod.phasesDown ∧ live.classOf (0xD10 + 111) ≤ 2 ∧
  (railPhases (railOf 111)).2 ≤ live.phasesLeft (railOf 111) + 1 ∧ live.flt.recording = true ∧ (live.source (0xD10 + 111)).live = false) ∧
    (live.mod.tempWarned = false ∧ live.mod.tempWarned ≠ true) ∧
    ((fed 1 1).mod.usable (1 - 1) = true ∧ (fed 1 1).mod.feedInUse = 1 ∧ live.mod.usable 0 = false ∧ live.mod.on = true ∧ 1 < 2) ∧
    (takesAtOnce live T 0 ∧ live.mod.rangeA = false ∧ takesAtOnce (fed 1 1) T 0) ∧
    (railOf 111 < 20 ∧ 111 ∈ ({ live.mod with phasesDown := [111] } : Module).phasesDown ∧ live.classOf (0xD10 + 111) ≤ 2) ∧
    (0 ∉ ({ live.mod with phasesDown := [1, 2, 3, 4, 5, 6, 7] } : Module).phasesDown ∧
  ({ live with mod := { live.mod with phasesDown := [1, 2, 3, 4, 5, 6, 7] } } : State).phasesLeft (railOf 0) + 1 < (railPhases (railOf 0)).2 ∧
  live.rail (railOf 0) ≠ 2 ∧
  ({ live with flt := { live.flt with sources := [(0xD10, { cls := some 1 })] } } : State).classOf (0xD10 + 0) ≤ 1 ∧ (105 : Int) < 106 ∧ (125 : Int) < 126) := by
  and_intros <;> first
    | exact takes_of (by decide +kernel)
    | exact write_of (by decide +kernel)
    | exact read_of (by decide +kernel)
    | decide +kernel

def tallied : State := live.modRing (live.cfgN 0x51 (0x100 + 31) 0x01) 1 (fun r => { r with enable := true })

def gpoWaits : State := live.modGpo 31 (fun g => { g with failsafe := false, pend := some (true, T) })

def inHedge : State := { live with clk := { live.clk with st := .hedge } }

set_option maxRecDepth 100000 in
theorem witness_HedgeInputsAndOutputs :
    ((live.gpi 31).level = false ∧ (tallied.gpi 31).level ≠ true ∧
  (∀ e ∈ tallied.str.slots, e.2.kind ≠ 1 ∨ e.2.owner ≠ tallied.cfgN 0x51 (0x100 + 31) 0x01 ∧
  bit (tallied.cfgN 0x51 (0x100 + 31) 0x00) e.2.owner = false) ∧
  (tallied.ring (tallied.cfgN 0x51 (0x100 + 31) 0x01) 1).enable = true ∧
  (tallied.ring (tallied.cfgN 0x51 (0x100 + 31) 0x01) 1).entries.length < 4096) ∧
    (takesAtOnce gpoWaits T 0 ∧ mayWrite gpoWaits 0 0x51 (0x200 + 31) 0x02 ∧ gpoWaits.mod.hedgeV = true ∧
  ((gpoWaits.gpo 31).failsafe = false ∨ gpoWaits.mod.ticked = true) ∧ T < T + 1 ∧ T ≤ T) ∧
    ((live.gpo 31).pend = none ∧ (gpoWaits.gpo 31).pend = some (true, T) ∧ T - 1 < T ∧ (gpoWaits.gpo 31).failsafe = false) ∧
    ((live.classOf 0xE03 = 0 ∨ live.classOf 0xE03 = 1) ∧ (live.classOf 0xE04 = 0 ∨ live.classOf 0xE04 = 1)) ∧
    (9999899 < 9999900 ∧ 10000100 < 10000101 ∧ inHedge.clk.timeSet = none ∧ inHedge.clk.st = .hedge) ∧
    (((T : Int) - (nearestSecond ((T : Int) - inHedge.cfgI 0x03 0 0x1B) + inHedge.cfgI 0x03 0 0x1B)).natAbs ≤ 100000 ∧
  100000 < (((T + 100001 : Nat) : Int) - (nearestSecond (((T + 100001 : Nat) : Int) - inHedge.cfgI 0x03 0 0x1B) +
  inHedge.cfgI 0x03 0 0x1B)).natAbs ∧ inHedge.clk.ignoredRun + 1 < 16) ∧
    (live.mod.errSecond ≠ T / 1000000000 ∧ live.mod.errSecond = 5 / 1000000000 ∧ live.mod.errCount + 1 ≠ 11) ∧
    (({ live.mod with errCount := 10 } : Module).errCount = 10 ∧ (live.source 0xE02).live = false ∧ live.flt.recording = true ∧
  (live.classOf 0xE02 = 0 ∨ live.classOf 0xE02 = 1)) ∧
    (takesAtOnce live T 0 ∧ mayWrite live 0 0x51 (0x200 + 31) 0x02 ∧ (live.gpo 31).failsafe = true ∧ live.mod.ticked = false ∧
  ({ live with mod := { live.mod with hedgeV := false } } : State).mod.hedgeV = false ∧ T + 99999 < T + 100000) ∧
    (live.mod.hedgeV = true ∧ live.mod.on = true ∧ 9999900 ≤ 9999900 ∧ 10000100 ≤ 10000100 ∧ live.clk.timeSet = none ∧
  ({ live with clk := { live.clk with st := .locked } } : State).clk.st = .locked ∧ (((T : Int) - nearestSecond T) :: List.replicate 63 0).length = 64) ∧
    (16 ≤ ({ inHedge.clk with ignoredRun := 15 } : Clocks).ignoredRun + 1 ∧ State.reset.flt.recording = false ∧
  T - 1 < T ∧ T ≤ T) := by
  and_intros <;> first
    | exact takes_of (by decide +kernel)
    | exact write_of (by decide +kernel)
    | exact read_of (by decide +kernel)
    | decide +kernel

def alerted : State := { live with flt := { live.flt with sources := [(0xD04, { cls := some 1 })] } }

def refReadyState : State := { live with clk := { live.clk with refReady := true, backupReady := true } }

def wakesBlock : State := live.setPower 311 1

theorem witness_ClockSources :
    (alerted.classOf 0xD04 = 1 ∧ 14499 < 14500 ∧ 16800 < 16801 ∧ alerted.clk.refReady = false ∧ refReadyState.clk.refReady = true) ∧
    (live.cfgN 0x03 0 0x01 = 0 ∧ (live.setCfgN 0x03 0 0x01 1 2).cfgN 0x03 0 0x01 ≠ 0) ∧
    (takesAtOnce live T 0 ∧ mayWrite live 0 0x03 0 0x01 ∧ (1 = 1 ∧ live.clk.refReady = false ∨ 1 = 2 ∧ live.clk.backupReady = false)) ∧
    (takesAtOnce refReadyState T 0 ∧ mayWrite refReadyState 0 0x03 0 0x01 ∧
  ¬ (2 = 1 ∧ refReadyState.clk.refReady = false ∨ 2 = 2 ∧ refReadyState.clk.backupReady = false)) ∧
    ((live.power 288).st ≠ 1 ∧ 288 ≤ 311 ∧ (wakesBlock.power 311).st = 1) ∧
    (65536 ≤ ({ live.clk with refGood := 50000 } : Clocks).refGood + 16800 ∧ 3040000 ≤ 3040000 ∧ 3360000 ≤ 3360000 ∧ 3360000 < 3360001 ∧
  4096 ≤ ({ live.clk with backupGood := 4000 } : Clocks).backupGood + 320 ∧ 287 < 288) := by
  and_intros <;> first
    | exact takes_of (by decide +kernel)
    | exact write_of (by decide +kernel)
    | exact read_of (by decide +kernel)
    | decide +kernel

def ptp (st : TimeState) (f : Clocks → Clocks) : State :=
  let s := (live.setCfgN 0x03 (0x1000 + 1008) 0x01 1 1).modPort 1008 (fun p => { p with st := .forwarding })
  { s with clk := f { s.clk with started := true, slave := 1008, st := st } }

def edges : State := { live with mod := { live.mod with ref10m := true, pps := true } }

set_option maxRecDepth 100000 in
theorem witness_TimeStates :
    (live.clk.slave ≠ 0 ∧ live.isPtpPort 0 = false) ∧
    ((ptp .acquiring id).clk.slave = 1008 ∧ (ptp .acquiring id).isPtpPort 1008 = true ∧ (ptp .acquiring id).clk.st = .acquiring ∧
  (999 : Int).natAbs ≤ (ptp .acquiring id).cfgN 0x03 0 0x17 ∧ (999 : Int).natAbs < 1000 ∧ (ptp .acquiring id).clk.good + 1 < 16) ∧
    (15 ≤ (ptp .acquiring (fun c => { c with good := 15 })).clk.good) ∧
    ((ptp .locked id).clk.slave = 1008 ∧ (ptp .locked id).isPtpPort 1008 = true ∧ (ptp .locked id).clk.st = .locked ∧
  (ptp .locked id).clk.bad + 1 < 4 ∧ 1000 ≤ (-1000 : Int).natAbs ∧ 3 ≤ (ptp .locked (fun c => { c with bad := 3 })).clk.bad) ∧
    ((ptp .locked id).cfgN 0x03 0 0x17 < ((2 ^ 40 : Nat) : Int).natAbs ∧ (∀ k, k < 1024 → (ptp .locked id).gating k = false)) ∧
    ((ptp .holdover id).clk.st = .holdover ∧ (ptp .holdover id).clk.measuring = false ∧
  (ptp .holdover (fun c => { c with measuring := true })).clk.measured + 1 < 16 ∧
  (ptp .holdover (fun c => { c with measuring := true, measured := 15 })).clk.measured = 15) ∧
    ((ptp .holdover id).clk.leftAt + (ptp .holdover id).cfgN 0x03 0 0x1A * 1000000000 ≤ 2 ^ 63 ∧
  ¬ ((ptp .holdover id).clk.leftAt + (ptp .holdover id).cfgN 0x03 0 0x1A * 1000000000 ≤ 5)) ∧
    (takesAtOnce live T 0 ∧ mayWrite live 0 0x03 0 0x1D ∧ T % 1000000000 = 0 ∧ T < 2 ^ 64 ∧
  ¬ (live.clk.st = .free ∧ live.mod.ref10m = true ∧ live.mod.pps = true)) ∧
    (takesAtOnce edges T 0 ∧ mayWrite edges 0 0x03 0 0x1D ∧ edges.clk.st = .free ∧ edges.mod.ref10m = true ∧ edges.mod.pps = true) ∧
    (({ live.clk with timeSet := some T } : Clocks).timeSet = some T ∧ live.clk.st ≠ .hedge ∧ 9999900 ≤ 10000100) ∧
    ((1000 : Int).natAbs = 1000 ∧ 15 ≤ (ptp .holdover (fun c => { c with measuring := true, measured := 15 })).clk.measured ∧ (ptp .free id).clk.st = .free ∧ (ptp .hedge id).clk.st = .hedge) ∧
    (takesAtOnce edges T 0 ∧ (T + 1) % 1000000000 ≠ 0 ∧ live.mod.hedgeV = true ∧ live.mod.on = true) := by
  and_intros <;> first
    | exact takes_of (by decide +kernel)
    | exact write_of (by decide +kernel)
    | exact read_of (by decide +kernel)
    | decide +kernel

def fedReset : State := { State.reset with mod := { State.reset.mod with rangeA := true } }

def at_ (k : Nat) : State := { live with boot := { live.boot with milestone := k } }

def released : State := { live with boot := { live.boot with perst := [(8, some 5)] } }

theorem witness_PowerUpSteps :
    (live.mod.on = true ∧ (125 : Int) < 126) ∧
    (fedReset.mod.on = false ∧ (125 : Int) ≤ 125 ∧ fedReset.mod.tripped = false ∧ (fedReset.mod.rangeA = true ∨ fedReset.mod.rangeB = true)) ∧
    (live.boot.step6.isSome = true ∧ State.reset.mod.on = false ∧
  (let b := { live.boot with step6 := none }; let s := { live with boot := b }; s.mod.on = true ∧ s.boot.step6 = none)) ∧
    (State.reset.boot.step6 = none ∧ (at_ 1).boot.step6.isSome = true ∧ (at_ 1).boot.milestone = 1 ∧
  ((at_ 1).stack 11).st ≠ 3) ∧
    ((at_ 1).boot.milestone ≠ 2 ∧ (at_ 2).boot.milestone = 2 ∧ (at_ 2).boot.milestone ≠ 3 ∧ (at_ 3).boot.milestone = 3 ∧
  (at_ 3).boot.milestone ≠ 4 ∧ (at_ 4).boot.milestone = 4 ∧ (at_ 4).boot.milestone ≠ 5 ∧ (at_ 5).boot.milestone = 5) ∧
    (tget (fun _ => none) released.boot.perst 8 = some 5 ∧ released.boot.step6 = some 0 ∧ tget (fun _ => none) live.boot.perst 1 = none) ∧
    (fedReset.mod.keepLost = false ∧ ({ fedReset.mod with tripped := true } : Module).tripped = true ∧ (90 : Int) ≤ 90 ∧ ¬ ((90 : Int) < 90) ∧ (-56 : Int) < -55) ∧
    (([(8191, { owner := 3, st := 4 })] : Tab Slot) = [(8191, { owner := 3, st := 4 })] ∧ min 4 1 = 1 ∧ 8 ≤ 8) ∧
    (tget (fun _ => none) live.boot.perst 8 = none ∧
  ({ at_ 1 with flt := { live.flt with sources := [(0xCB4, { cls := some 0 })] } } : State).classOf (0xC00 + 16 * 11 + 4) = 0) := by
  and_intros <;> first
    | exact takes_of (by decide +kernel)
    | exact write_of (by decide +kernel)
    | exact read_of (by decide +kernel)
    | decide +kernel

def announced (p : Nat) : Announce :=
  { priority1 := p, clockClass := 6, priority2 := 128, gmId := 1, senderId := clockId + 1 }

theorem announced_foreign (p : Nat) : (announced p).senderId ≠ clockId := by
  simp only [announced, ne_eq]
  bv_omega

def worse : Announce := { announced 2 with senderPort := 1 }

theorem witness_PtpMessages_kept : ((announced 1).senderId, (announced 1).senderPort) ≠ (worse.senderId, worse.senderPort) ∧
    isBetter worse (announced 1) = false :=
  ⟨by simp [announced, worse], by decide +kernel⟩

def master : State := (ptp .free (fun c => { c with slave := 0xFFFF })).modPtpPort 1008 (fun p => { p with st := 6 })

def slaved : State := (ptp .locked id).modPtpPort 1008 (fun p => { p with st := 9, best := some (announced 1) })

theorem witness_PtpMessages :
    (live.isPtpPort 0 = false) ∧
    (master.isPtpPort 1008 = true ∧ (master.ptpPort 1008).best = none ∧ State.reset.shedLive = false) ∧
    (master.shedLive = true ∧ (∀ e ∈ master.clk.ptp, e.2.best = none) ∧ isBetter (announced 1) master.ownDataset = true ∧
  master.cfgN 0x03 (0x1000 + 1008) 0x02 ≠ 1 ∧ master.clk.slave = 0xFFFF ∧ master.clk.st = .free) ∧
    ((slaved.ptpPort 1008).best.isSome = true ∧ slaved.clk.slave = 1008 ∧ slaved.shedLive = true ∧
  (∀ e ∈ (slaved.modPtpPort 1008 (fun p => { p with best := none })).clk.ptp, e.2.best = none)) ∧
    ((master.ptpPort 1008).st = 6 ∧ (slaved.ptpPort 1008).st = 9 ∧ slaved.isPtpPort 1008 = true) ∧
    ((ptp .free (fun c => { c with slave := 0xFFFF })).clk.slave = 0xFFFF ∧ slaved.clk.slave = 1008 ∧ slaved.clk.st = .locked ∧ 4 ≤ 4 ∧ 3 < 4) ∧
    (({ slaved with alm := State.reset.alm, shed := State.reset.shed } : State).shedLive = false ∧
  ({ slaved with alm := State.reset.alm, shed := State.reset.shed } : State).clk.slave = 1008) ∧
    (¬ ((slaved.ptpPort 1008).st = 6 ∧ 0 < 2 ∨ (slaved.ptpPort 1008).st = 9 ∧ 0 = 3) ∧ master.isPtpPort 1008 = true) := by
  and_intros <;> first
    | exact takes_of (by decide +kernel)
    | exact write_of (by decide +kernel)
    | exact read_of (by decide +kernel)
    | decide +kernel

/-! ## Numbers of the worked examples -/

/-- 00, Worked example: numbering one output: group 5, class 2 of lp594 is queue 0x25252. -/
theorem test_queue_number : queueNo 594 (16 * 5 + 2) = 0x25252 := by decide
/-- R72: a 64-byte frame takes one cell, a 9,216-byte frame 36; 03, worked example: 1,240 bytes take five. -/
theorem test_cells : cellsOf 64 = 1 ∧ cellsOf 9216 = 36 ∧ cellsOf 1240 = 5 := by decide
/-- 10, worked example: cycle 0 of CYCLE = 1/56,250 s starts at 0 and cycle 1 at 17,777 ns. -/
theorem test_gate_cycle : ({ num := 1, den := 56250 } : Schedule).start 0 = 0 ∧
    ({ num := 1, den := 56250 } : Schedule).start 1 = 17777 := by decide
/-- 17, worked example: 989,400 ns enters bin 39, and 2,000 ns bin 3. -/
theorem test_histogram_bins : histBin 989400 = 39 ∧ histBin 2000 = 3 := by decide +kernel
/-- 18, worked example: *n* is 126,844,806,840,000,000. -/
theorem test_charge :
    chargeSum (List.replicate 32 0 ++ natLe 4 40000000 ++ natLe 4 1000 ++ natLe 4 500000000 ++ List.replicate 24 0)
      [(8 * 3 + 2, { packets := 1920000, bytes := 2421120123, pictureUs := 60000000 })] 3 0 = 126844806840000000 := by
  decide +kernel
/-- 06, worked example: s1540 at 150,000 kbit/s has bits_q 3,000,000, bits_rem 0, k_row 33 and k_debt 33. -/
def rated : State := (conf.setCfgN 0x21 1540 0x0E 4 150000).setRate 1540 true
theorem test_budget : (rated.slot 1540).rc.bitsQ = 3000000 ∧ (rated.slot 1540).rc.bitsRem = 0 ∧
    (rated.slot 1540).rc.kRow = 33 ∧ (rated.slot 1540).rc.kDebt = 33 := by decide +kernel
/-- Table 06.4: E of 1080p60 with CTU 32 is 785.0 µs, of 4320p60 in a gang of 2 with CTU 64 554.6 µs. -/
def coded (s : State) (n w h rate ctu : Nat) : State :=
  ((s.setCfg 0x21 n 0x08 (natLe 2 w ++ natLe 2 h ++ [0, BitVec.ofNat 8 rate])).setCfgN 0x21 n 0x09 1 ctu).modSlot n (fun x =>
    { x with kind := 1, st := 3 })
theorem test_latency : (coded live 9 1920 1080 7 32).latencyOf 9 = 785051 ∧
    ((coded live 9 7680 4320 7 64).setCfgN 0x21 9 0x0A 1 2).latencyOf 9 = 554556 := by decide +kernel
/-- 07, worked example (Table 07.3): row 0 of the tiers of camera 0860 ends at 853.7, 930.5 and 1,368.7 µs. -/
def camera0860 : State :=
  let s := (live.setCfgN 0x20 300 0x02 1 1).setCfg 0x20 300 0x03 [0, 15, 112, 8, 0, 2, 0, 7]
  let s := coded (coded (coded s 3000 3840 2160 7 64) 3001 1920 1080 7 32) 3002 1280 720 7 32
  let s := ((s.modSlot 3000 (fun x => { x with role := 1 })).modSlot 3001 (fun x => { x with role := 2, anchor := 3000 })).modSlot
    3002 (fun x => { x with role := 2, anchor := 3000 })
  let s := (s.setCfg 0x22 3000 0x01 (natLe 2 3001 ++ natLe 2 3002)).modFeed 3000 (fun f => { f with source := some 300 })
  let s := [3000, 3001, 3002].foldl (fun (s : State) n => s.modTwin n (fun w => { w with lead := [12], partner := [160] })) s
  s.modBed 12 (fun b => { b with slots := [3000, 3001, 3002] })
theorem test_ladder : [3000, 3001, 3002].map (fun n => (camera0860.ladderRow n).1 / (camera0860.ladderRow n).2) =
    [853712, 930512, 1368746] := by decide +kernel
/-- 07, worked example: camera 0860 reserves 215,654,400 bytes a bed and costs 801,792 kpix/s. -/
theorem test_reservation :
    (let s := ((camera0860.setCfgN 0x21 3000 0x05 1 1).setCfgN 0x21 3000 0x06 1 3).setCfgN 0x21 3001 0x06 1 3
     let s := s.setCfgN 0x21 3002 0x06 1 0
     (s.reserveBytes 3000, kpix (s.costOf 3000)) = (215654400, 801792)) := by decide +kernel
/-- 06, worked example: BUFFER must be at least 6,032,640 bits. -/
theorem test_least_buffer : (conf.setCfgN 0x21 1540 0x0E 4 150000).leastBuffer 1540 = 6032640 := by decide +kernel
/-- R296 names HMAC-SHA-256; the value is that of RFC 4231, test case 2. -/
theorem test_hmac :
    (hmac ([0x4a, 0x65, 0x66, 0x65]) ([0x77, 0x68, 0x61, 0x74, 0x20, 0x64, 0x6f, 0x20, 0x79, 0x61, 0x20, 0x77, 0x61, 0x6e,
      0x74, 0x20, 0x66, 0x6f, 0x72, 0x20, 0x6e, 0x6f, 0x74, 0x68, 0x69, 0x6e, 0x67, 0x3f])).take 8 =
      [0x5b, 0xdc, 0xc1, 0x46, 0xbf, 0x60, 0x75, 0x4e] := by decide +kernel

/-! ## Single steps: the state after a command -/

/-- The state after a command that completes. -/
def after (c : Instr) (s : State) : State := match exec c s with | .next u => u | _ => State.reset

/-- R20: a failed outward lane takes a spare, of which a link has two each way, and transfers are held. -/
theorem test_lane_fail : ((after (.laneFail T 12 0) live).link 12).spare0 = 1 ∧ ((after (.laneFail T 12 0) live).link 12).holding = true := by
  decide +kernel
/-- R42: ENABLE = 1 takes a DISABLED port to DOWN. -/
theorem test_enable : ((after (.enable T 0 1008 1) live).port 1008).st = .down := by decide +kernel
/-- R43: alignment takes DOWN to LISTEN. -/
theorem test_fec_aligned : ((after (.fecAligned T 9) (live.modPort 9 (fun p => { p with st := .down }))).port 9).st = .listen := by
  decide +kernel
/-- R76: an acknowledgement takes one reference of the chain. -/
theorem test_crossing_ack : ((after (.crossingAck T 4) (live.setChain 4 { refs := 3 })).chain 4).refs = 2 := by decide +kernel
/-- R54: the keeper grants block 6,000 to a7 with LINK_FROM bit 2 (02, worked example). -/
theorem test_block_grant : (after (.blockGrant T 0 6000 7 4) live).block 6000 = { owner := some 7, linkFrom := 4 } := by decide +kernel
/-- R269: at its refill instant a bucket gains REFILL, up to DEPTH. -/
theorem test_shaper_refill :
    ((after (.shaperRefill T 5 false 9) (live.modQueue (256 * 5 + 9) (fun q =>
      { q with shaper := { q.shaper with refill := 7, depth := 10 }, tokens := 5 }))).queue (256 * 5 + 9)).tokens = 10 := by
  decide +kernel
/-- R91: CONSUME of an empty ring sets UNDERRUN; R92: a read of word 0 of ENTRY latches the head. -/
theorem test_consume_empty : ((after (.consume T 0 3) live).ring 0 3).underrun = true := by decide +kernel
theorem test_entry_read : ((after (.entryRead T 0 1) (live.modRing 0 1 (fun r => { r with entries := [7, 8] }))).ring 0 1).latch = 7 := by
  decide +kernel
/-- R101: a leg silent for 1 ms is down and counted. -/
theorem test_leg_timeout : ((after (.legTimeout T 1324 0) chOpen).intake 1324).legA = false ∧
    ((after (.legTimeout T 1324 0) chOpen).intake 1324).counts.getD 6 0 = 1 := by decide +kernel
/-- R111: a member takes the pending picture, and with the last of them the hold buffer is free. -/
theorem test_pending_take : ((after (.pendingTake T 8191 287) feeds).feed 8191).pend = none := by decide +kernel
/-- R113: a cut order of a stream that is not admitted names the channel at once. -/
theorem test_cut_to : ((after (.cutTo T 0 1540 1324) conf).feed 1540).source = some 1324 := by decide +kernel
/-- R124 and R130: a word with its reserved bit 159 set is a self-check. -/
theorem test_illegal_word : CheckCause.illegalWord ∈ ((after (.wordIssue T 287) (bedWith (word [(1, 159)]) {})).bed 287).checks := by
  decide +kernel
/-- R134 and Table 05.9: the trap handler stands at 0x3F00 of the ROM. -/
theorem test_trap : ((after (.trapReq T 0 287 false 0) (bedWith 0 {})).bed 287).mic.upc = 0x3F00 := by decide +kernel
/-- R137 and R139: WAKE of an OFF bed by a0. -/
theorem test_wake : ((after (.wake T 0 287) live).bed 287).st = .waking := by decide +kernel
/-- R331: a grant of a free slot gives it its owner. -/
theorem test_slot_grant : ((after (.slotGrant T 0 3 1540 1) live).slot 1540).owner = 3 := by decide +kernel
/-- R183: an ADMIT of 2 of a CONFIGURED stream frees its slot. -/
theorem test_admit_release : ((after (.admitSlot T 0 0x21 1540 2) conf).slot 1540).st = 0 := by decide +kernel
/-- R248: a member excused for 2 ms and no more is not yet pruned. -/
theorem test_excuse : (after (.excuseTimeout 2000005 1540) (twin1540.modTwin 1540 (fun w => { w with excused := some 72, excusedAt := 5 }))).flt.pruned = [] := by
  decide +kernel
/-- R254 and R255: the end of a transplant sets the cutting boundary. -/
theorem test_transplant_end : 0 < ((after (.transplantEnd T 1540 false) grafting).twin 1540).cuttingAt := by decide +kernel
/-- R287: the default of UDP_PORT (E 01.0000.10) is 7,620; an entry that no table names is answered NOT_FOUND. -/
theorem test_read_udp_port : (after (.read T 0 0x01 0 0x10 []) live).answer.data = natLe 2 7620 := by decide +kernel
theorem test_read_not_found : (after (.read T 0 0x77 0 0x01 []) live).answer.status = 1 := by decide +kernel
/-- R306 and Table 11.9: a write that a lower-numbered allotment's write covers is SUPERSEDED and counted. -/
theorem test_superseded : (after (.write T 2 4 2 1 (List.replicate 32 7)) noted).answer.status = 6 ∧
    ((after (.write T 2 4 2 1 (List.replicate 32 7)) noted).allot 2).superseded = 1 := by decide +kernel
/-- R304 and R331: a key is in force beside the old one for a second. -/
theorem test_key : ((after (.key T 0 15 (List.replicate 32 7)) live).allot 15).keyGrace = 3000000000 := by decide +kernel
/-- R326, Table 12.4: the reset of a holder leaves the latch TORN with LAST_HOLDER; the next ACQUIRE takes it with its TAG. -/
def heldLatch : State := live.setLatch 2050 { holder := some 7, tag := 0x21, used := true }
theorem test_torn_latch : (heldLatch.tearLatches 7).latch 2050 =
    { holder := none, torn := true, lastHolder := 7, tag := 0x21, used := true } := by decide +kernel
theorem test_acquire : let l := (after (.acquire T 0 2050 0x11) (live.setLatch 2050 { torn := true, lastHolder := 7, used := true })).latch 2050
    l.holder = some 0 ∧ l.tag = 0x11 ∧ l.torn = true := by decide +kernel
/-- Table 13.3, steps 2 and 7: the claim of vector 2 gets 0x40C5; the completion of an ACTIVE_PENDING source makes it PENDING. -/
def dmaOffered : State := live.modRoute true 0x40C5 (fun r => { r with prio := 4, mask := 2 ^ 50, st := 1 })
def twinActive : State := live.modRoute true 0x2604 (fun r => { r with prio := 12, mask := 3 * 2 ^ 50, st := 3, on := 83 })
theorem test_claim : (after (.claim T 3 2) dmaOffered).answer.data = natLe 2 0x40C5 := by decide +kernel
theorem test_complete : ((after (.complete T 3 3 0x2604) twinActive).route true 0x2604).st = 1 := by decide +kernel
/-- 14, worked example: OP_POINT 4 Gb/s is refused with CAPACITY while the die carries 31.2 × 10^9 pixels per second. -/
def loaded : State :=
  ((live.modSlot 9 (fun x => { x with kind := 1, st := 3, cost := 31200000000 * 4004 })).modBed 216 (fun b => { b with slots := [9] })).modTwin 9
    (fun w => { w with lead := [216] })
theorem test_op_point : (after (.opPoint T 0 6 1) loaded).answer.status = 12 := by decide +kernel
/-- 14, worked example: U is 10 µs after the start of the excuse. -/
theorem test_op_change_start : ((after (.opChangeStart T 7) (changing 1 false)).stack 7).u = T + 10000 := by decide +kernel
/-- R363: the bytes of a request to the exchange area are stored in ascending order, and the transfer ends. -/
def oneTransfer : State := live.modDma 0 (fun d => { d with count := 2, dstSpace := 2, st := 1 })
theorem test_dma : (after (.dmaRequestDone T 0 0 [5, 6]) oneTransfer).exchangeByte 0 1 = 6 ∧
    ((after (.dmaRequestDone T 0 0 [5, 6]) oneTransfer).dmaCh 0).st = 2 := by decide +kernel
/-- Table 15.5, step 1: FORCE of 0xC64: LIVE, COUNT 1, and both records take it with FORCED set. -/
theorem test_force : let u := after (.force T 0 0xC64 1) injecting
    (u.source 0xC64).count = 1 ∧ (u.errRec 12).source = 0xC64 ∧ (u.errRec 16).source = 0xC64 ∧ (u.errRec 12).forced = true := by
  decide +kernel
/-- R390 and Table 16.3: the interruption of pair 24 of fp12 in 2 × 800G ends 350 µs after the measurement's start. -/
theorem test_cal_start : (after (.calStart T 0 0 [24]) live).cal.batch = [24] := by decide +kernel
/-- R394: EPOCH 0 arms the first whole millisecond at least 1 ms ahead. -/
theorem test_epoch : (after (.epoch (T + 1) 0 0) live).cal.armed = T + 2000000 := by decide +kernel
/-- R396: a test that every step passed leaves the bed IDLE and tested. -/
theorem test_soil_end : ((after (.soilTestEnd T 287 0) (bedIn .soilTest)).bed 287).st = .idle := by decide +kernel
/-- R405: FREEZE. -/
theorem test_freeze : (after (.freeze T 0 1) live).str.frozen = true := by decide +kernel
/-- R421: the record of an interval is stored 10 ms after its boundary, and numbered. -/
theorem test_gauge_boundary : (after (.gaugeBoundary 60000000000) live).gauge.start = 60000000000 := by decide +kernel
/-- R438: a feed that leaves its range gives its load to the other. -/
theorem test_feed_out : (after (.feedOutOfRange T 1) (fed 1 1)).mod.feedInUse = 0 := by decide +kernel
/-- R453: a set whose time has passed applies on receipt. -/
theorem test_gpo_set : ((after (.set T 0 31 true 0) gpoWaits).gpo 31).level = true := by decide +kernel
/-- R459: a window of 14,499 cycles clears REFCLK_READY. -/
theorem test_refclk : (after (.refclkWindow T 14499 100000000) refReadyState).clk.refReady = false := by decide +kernel
/-- Table 20.6, step 2: the announce timeout in LOCKED with a valid Hedge and HOLDOVER_SOURCE 1 gives HEDGE. -/
def withHedge : State :=
  let s := slaved.setCfgN 0x03 0 0x19 1 1
  { s with mod := { s.mod with ref10m := true, pps := true }, clk := { s.clk with ppsValid := true } }
theorem test_announce_timeout : (after (.announceTimeout 750000000) withHedge).clk.st = .hedge := by decide +kernel
/-- R485: milestone 5 makes the Almanac live. -/
theorem test_almanac_live : (after (.almanacLive T) (at_ 4)).alm.live = true ∧ (after (.almanacLive T) (at_ 4)).boot.milestone = 5 := by
  decide +kernel

end Sys2Proof.Tests
end

section
/-! PROOFS. The field ports (02): what a frame that arrives meets (R37 to R39, R45, R46, R388), and what the parser takes
from the buffers (R45, R47). -/

namespace Sys2Proof.Machine

/-! ## Counting on a port -/

theorem State.countPort_of_inUse {s : State} {lp : Nat} (hu : s.inUse lp = true) (g : PortCounts → PortCounts) :
    s.countPort lp g = s.modPort lp (fun p => { p with cnt := g p.cnt }) := if_pos hu

/-- `u` is `s` but for its logical port `lp`, whose counters are now `c`. -/
structure PortCounted (s u : State) (lp : Nat) (c : PortCounts) : Prop where
  cnt : (u.port lp).cnt = c
  ports : ∀ k, k ≠ lp → u.port k = s.port k
  buffers : ∀ k, u.buffer k = s.buffer k
  frame : u = { s with fwd := u.fwd }

section
variable {s u : State} {lp : Nat} {c d : PortCounts}

theorem PortCounted.refl (s : State) (lp : Nat) : PortCounted s s lp (s.port lp).cnt :=
  ⟨rfl, fun _ _ => rfl, fun _ => rfl, rfl⟩

theorem PortCounted.modPort (h : PortCounted s u lp c) {g : Port → Port} (hg : (g (u.port lp)).cnt = d) :
    PortCounted s (u.modPort lp g) lp d where
  cnt := by simpa using hg
  ports k hk := by simpa [hk] using h.ports k hk
  buffers := h.buffers
  frame := congrArg (fun v : State => { v with fwd := (u.modPort lp g).fwd }) h.frame

theorem PortCounted.now (h : PortCounted s u lp c) : u.now = s.now := by rw [h.frame]

theorem PortCounted.cfgN (h : PortCounted s u lp c) (fam inst mem : Nat) : u.cfgN fam inst mem = s.cfgN fam inst mem := by
  rw [h.frame]; rfl

theorem PortCounted.inUse (h : PortCounted s u lp c) (k : Nat) : u.inUse k = s.inUse k := by
  rw [h.frame]; rfl

theorem PortCounted.isAlmanac (h : PortCounted s u lp c) (f : Frame) : u.isAlmanac f = s.isAlmanac f := by
  rw [h.frame]; rfl

theorem PortCounted.isUrgent (h : PortCounted s u lp c) (f : Frame) : u.isUrgent f = s.isUrgent f := by
  rw [h.frame]; rfl

theorem PortCounted.countPort (h : PortCounted s u lp c) (hu : s.inUse lp = true) (g : PortCounts → PortCounts) :
    PortCounted s (u.countPort lp g) lp (g c) := by
  rw [State.countPort_of_inUse ((h.inUse lp).trans hu)]
  exact h.modPort (congrArg g h.cnt)

/-- A PFC frame only sets pauses of its port (R38). -/
theorem PortCounted.pfcArrived (h : PortCounted s u lp c) (pfc : List (Nat × Nat)) :
    PortCounted s (u.pfcArrived lp pfc) lp c := by
  refine List.foldlRecOn (motive := fun v => PortCounted s v lp c) pfc _ h fun v hv e _ =>
    List.foldlRecOn (motive := fun v => PortCounted s v lp c) _ _ hv fun w hw cls _ => ?_
  split
  · exact hw.modPort hw.cnt
  · exact hw

end

/-! ## Into the buffer of the field port (R45, R46) -/

theorem State.buffered_of_fits {s : State} {x : InFrame} (n : Nat)
    (h : bufferBytes (s.buffer (fpOf x.lp)) + x.f.len ≤ 262144) :
    s.buffered x (n + 1) = s.setBuffer (fpOf x.lp) (s.buffer (fpOf x.lp) ++ [x]) := by
  simp [State.buffered, h]

theorem State.buffered_of_full {s : State} {x : InFrame} (n : Nat)
    (h : 262144 < bufferBytes (s.buffer (fpOf x.lp)) + x.f.len) (hx : s.isUrgent x.f = false) :
    s.buffered x (n + 1) = s.countPort x.lp (fun c => { c with overruns := inc64 c.overruns }) := by
  simp [State.buffered, Nat.not_le.2 h, hx]

theorem State.listenFrame_of_data {s : State} {f : Frame} (lp : Nat) (hk : f.kind = .data) (ha : s.isAlmanac f = false) :
    s.listenFrame lp f = s.countPort lp (fun c => { c with listenDiscards := inc64 c.listenDiscards }) := by
  simp [State.listenFrame, hk, ha]

/-! ## What an arriving frame meets -/

/-- The counters of a port that has received a frame of `n` bytes. -/
def PortCounts.received (c : PortCounts) (n : Nat) : PortCounts :=
  { c with framesRx := inc64 c.framesRx, octetsRx := add64 c.octetsRx n }

/-- The port takes the frame off the line. -/
def State.received (s : State) (lp : Nat) (f : Frame) : State := s.countPort lp (fun c => c.received f.len)

/-- The count under which a port with this maximum frame size keeps a frame to itself (R37 to R39); none when the frame
goes further. -/
def keptCause (max : Nat) (f : Frame) : Option (PortCounts → PortCounts) :=
  if f.kind = .lpi then some fun c => { c with lpiRx := inc64 c.lpiRx }
  else if f.len < 64 then some fun c => { c with short := inc64 c.short }
  else if max < f.len then some fun c => { c with long := inc64 c.long }
  else if f.fcsOk = false then some fun c => { c with fcs := inc64 c.fcs }
  else if f.kind = .pause then some fun c => { c with pauseRx := inc64 c.pauseRx }
  else if f.kind = .pfc then some fun c => { c with pfcRx := inc64 c.pfcRx }
  else none

section
variable {max : Nat} {f : Frame}

theorem keptCause_lpi (h : f.kind = .lpi) : keptCause max f = some fun c => { c with lpiRx := inc64 c.lpiRx } := if_pos h

theorem keptCause_short (hk : f.kind ≠ .lpi) (h : f.len < 64) :
    keptCause max f = some fun c => { c with short := inc64 c.short } := by
  simp [keptCause, hk, h]

theorem keptCause_long (hk : f.kind ≠ .lpi) (hmin : 64 ≤ f.len) (h : max < f.len) :
    keptCause max f = some fun c => { c with long := inc64 c.long } := by
  simp [keptCause, hk, hmin.not_gt, h]

theorem keptCause_fcs (hk : f.kind ≠ .lpi) (hmin : 64 ≤ f.len) (hmax : f.len ≤ max) (h : f.fcsOk = false) :
    keptCause max f = some fun c => { c with fcs := inc64 c.fcs } := by
  simp [keptCause, hk, hmin.not_gt, hmax.not_gt, h]

theorem keptCause_pause (hmin : 64 ≤ f.len) (hmax : f.len ≤ max) (hfcs : f.fcsOk = true) (h : f.kind = .pause) :
    keptCause max f = some fun c => { c with pauseRx := inc64 c.pauseRx } := by
  simp [keptCause, hmin.not_gt, hmax.not_gt, hfcs, h]

theorem keptCause_pfc (hmin : 64 ≤ f.len) (hmax : f.len ≤ max) (hfcs : f.fcsOk = true) (h : f.kind = .pfc) :
    keptCause max f = some fun c => { c with pfcRx := inc64 c.pfcRx } := by
  simp [keptCause, hmin.not_gt, hmax.not_gt, hfcs, h]

theorem keptCause_none (hk : f.kind ≠ .lpi) (hmin : 64 ≤ f.len) (hmax : f.len ≤ max) (hfcs : f.fcsOk = true)
    (hpause : f.kind ≠ .pause) (hpfc : f.kind ≠ .pfc) : keptCause max f = none := by
  simp [keptCause, hk, hmin.not_gt, hmax.not_gt, hfcs, hpause, hpfc]

end

theorem State.arrive_of_deaf {s : State} {lp : Nat} (f : Frame)
    (h : ((s.port lp).st ≠ .listen ∧ (s.port lp).st ≠ .forwarding) ∨ s.inUse lp = false) : s.arrive lp f = s :=
  if_pos (h.imp_right fun hu => by simp [hu])

section
variable {s : State} {lp : Nat} {f : Frame}

/-- A port that is in use and listens or forwards takes frames: the first guard of an arrival fails. -/
theorem State.not_deaf (hst : (s.port lp).st = .listen ∨ (s.port lp).st = .forwarding) (hu : s.inUse lp = true) :
    ¬(((s.port lp).st ≠ .listen ∧ (s.port lp).st ≠ .forwarding) ∨ (!s.inUse lp) = true) := by
  rcases hst with h | h <;> simp [h, hu]

theorem State.arrive_of_interrupted (hst : (s.port lp).st = .listen ∨ (s.port lp).st = .forwarding)
    (hu : s.inUse lp = true) (hi : 0 < (s.port lp).interruptedTo) :
    s.arrive lp f = s.countPort lp (fun c => { c with calDrops := inc64 c.calDrops }) := by
  exact (if_neg (State.not_deaf hst hu)).trans (if_pos (by omega))

variable (hst : (s.port lp).st = .listen ∨ (s.port lp).st = .forwarding) (hu : s.inUse lp = true)
  (hi : (s.port lp).interruptedTo = 0)

theorem State.received_counted (f : Frame) (hu : s.inUse lp = true) :
    PortCounted s (s.received lp f) lp ((s.port lp).cnt.received f.len) :=
  (PortCounted.refl s lp).countPort hu _

include hst hu hi

/-- The branches of an arrival at a port that is in use and carries frames. -/
theorem State.arrive_of_live : s.arrive lp f =
    (let r := s.received lp f
     if f.kind = .lpi then r.countPort lp (fun c => { c with lpiRx := inc64 c.lpiRx })
     else if f.len < 64 then r.countPort lp (fun c => { c with short := inc64 c.short })
     else if s.cfgN 0x10 lp 0x05 < f.len then r.countPort lp (fun c => { c with long := inc64 c.long })
     else if f.fcsOk = false then r.countPort lp (fun c => { c with fcs := inc64 c.fcs })
     else if f.kind = .pause then r.countPort lp (fun c => { c with pauseRx := inc64 c.pauseRx })
     else if f.kind = .pfc then (r.countPort lp (fun c => { c with pfcRx := inc64 c.pfcRx })).pfcArrived lp f.pfc
     else if (s.port lp).st = .listen then r.listenFrame lp f
     else r.buffered { lp := lp, t := r.now, f := f } ((r.buffer (fpOf lp)).length + 1)) := by
  rw [← (State.received_counted f hu).cfgN 0x10 lp 0x05]
  unfold State.arrive
  rw [if_neg (State.not_deaf hst hu), if_neg (by omega)]
  simp only [Bool.not_eq_true']
  rfl

/-- A frame that the port keeps to itself is received and counted under its cause, and changes nothing else. -/
theorem State.arrive_of_kept {g : PortCounts → PortCounts} (hc : keptCause (s.cfgN 0x10 lp 0x05) f = some g) :
    PortCounted s (s.arrive lp f) lp (g ((s.port lp).cnt.received f.len)) := by
  have hr := State.received_counted f hu
  rw [State.arrive_of_live hst hu hi]
  unfold keptCause at hc
  split_ifs at hc ⊢ <;> obtain rfl := Option.some.inj hc
  on_goal 6 => exact (hr.countPort hu _).pfcArrived f.pfc
  all_goals exact hr.countPort hu _

/-- A frame that the port does not keep to itself goes on by the port's state. -/
theorem State.arrive_of_passed (hc : keptCause (s.cfgN 0x10 lp 0x05) f = none) : s.arrive lp f =
    (let r := s.received lp f
     if (s.port lp).st = .listen then r.listenFrame lp f
     else r.buffered { lp := lp, t := r.now, f := f } ((r.buffer (fpOf lp)).length + 1)) := by
  rw [State.arrive_of_live hst hu hi]
  unfold keptCause at hc
  dsimp only
  split_ifs at hc ⊢ <;> rfl

end

section
variable {s : State} {lp : Nat} {f : Frame} (hst : (s.port lp).st = .forwarding) (hu : s.inUse lp = true)
  (hi : (s.port lp).interruptedTo = 0)
include hst hu hi

theorem State.arrive_of_fits (hc : keptCause (s.cfgN 0x10 lp 0x05) f = none)
    (hfit : bufferBytes (s.buffer (lp / 16)) + f.len ≤ 262144) :
    s.arrive lp f = (s.received lp f).setBuffer (lp / 16) (s.buffer (lp / 16) ++ [{ lp := lp, t := s.now, f := f }]) := by
  have hr := State.received_counted f hu
  rw [State.arrive_of_passed (.inr hst) hu hi hc, ← hr.buffers, ← hr.now]
  rw [← hr.buffers] at hfit
  dsimp only
  rw [hst, if_neg nofun]
  exact State.buffered_of_fits _ hfit

theorem State.arrive_of_overrun (hc : keptCause (s.cfgN 0x10 lp 0x05) f = none)
    (hfull : 262144 < bufferBytes (s.buffer (lp / 16)) + f.len) (hx : s.isUrgent f = false) :
    PortCounted s (s.arrive lp f) lp
      ((fun c : PortCounts => { c with overruns := inc64 c.overruns }) ((s.port lp).cnt.received f.len)) := by
  have hr := State.received_counted f hu
  rw [← hr.buffers] at hfull
  rw [← hr.isUrgent] at hx
  rw [State.arrive_of_passed (.inr hst) hu hi hc, hst]
  dsimp only
  rw [if_neg nofun, State.buffered_of_full _ hfull hx]
  exact hr.countPort hu _

/-- Whatever a frame meets at a forwarding port, short of displacing others, only its port and its field port's buffer can
change. -/
theorem State.arrive_leaves (hroom : s.isUrgent f = false ∨ bufferBytes (s.buffer (lp / 16)) + f.len ≤ 262144) :
    (∀ k, k ≠ lp → (s.arrive lp f).port k = s.port k) ∧
    (∀ k, k ≠ lp / 16 → (s.arrive lp f).buffer k = s.buffer k) ∧
    s.arrive lp f = { s with fwd := (s.arrive lp f).fwd } := by
  cases hc : keptCause (s.cfgN 0x10 lp 0x05) f with
  | some g =>
    have h := State.arrive_of_kept (.inr hst) hu hi hc
    exact ⟨h.ports, fun k _ => h.buffers k, h.frame⟩
  | none =>
    rcases Nat.lt_or_ge 262144 (bufferBytes (s.buffer (lp / 16)) + f.len) with hfull | hfit
    · have h := State.arrive_of_overrun hst hu hi hc hfull (hroom.resolve_right (by omega))
      exact ⟨h.ports, fun k _ => h.buffers k, h.frame⟩
    · have hr := State.received_counted f hu
      rw [State.arrive_of_fits hst hu hi hc hfit]
      refine ⟨hr.ports, fun k hk => ?_, ?_⟩
      · simpa [hk] using hr.buffers k
      · exact congrArg (fun v : State => v.setBuffer (lp / 16) _) hr.frame

end

/-- A frame that a listening port discards: damaged, or data that is not for the block. -/
theorem State.arrive_of_listening {s : State} {lp : Nat} {f : Frame} (hst : (s.port lp).st = .listen)
    (hu : s.inUse lp = true) (hi : (s.port lp).interruptedTo = 0) (hlpi : f.kind ≠ .lpi)
    (hf : f.len < 64 ∨ s.cfgN 0x10 lp 0x05 < f.len ∨ f.fcsOk = false ∨ (f.kind = .data ∧ s.isAlmanac f = false)) :
    PortCounted s (s.arrive lp f) lp
      (let c := (s.port lp).cnt.received f.len
       if f.len < 64 then { c with short := inc64 c.short }
       else if s.cfgN 0x10 lp 0x05 < f.len then { c with long := inc64 c.long }
       else if f.fcsOk = false then { c with fcs := inc64 c.fcs }
       else { c with listenDiscards := inc64 c.listenDiscards }) := by
  have hr := State.received_counted f hu
  have kept {g} := State.arrive_of_kept (f := f) (g := g) (.inl hst) hu hi
  dsimp only
  split_ifs with hshort hlong hfcs
  · exact kept (keptCause_short hlpi hshort)
  · exact kept (keptCause_long hlpi (not_lt.1 hshort) hlong)
  · exact kept (keptCause_fcs hlpi (not_lt.1 hshort) (not_lt.1 hlong) hfcs)
  · obtain ⟨hdata, halm⟩ := ((hf.resolve_left hshort).resolve_left hlong).resolve_left hfcs
    have hc : keptCause (s.cfgN 0x10 lp 0x05) f = none :=
      keptCause_none hlpi (not_lt.1 hshort) (not_lt.1 hlong) (by simpa using hfcs) (by simp [hdata]) (by simp [hdata])
    rw [State.arrive_of_passed (.inl hst) hu hi hc]
    dsimp only
    rw [if_pos hst, State.listenFrame_of_data lp hdata ((hr.isAlmanac f).trans halm)]
    exact hr.countPort hu _

theorem exec_frameArrive {lp : Nat} (t : Nat) (f : Frame) (s : State) (h : lp < 1024) :
    exec (.frameArrive t lp f) s = .next ((s.at t).arrive lp f) := if_pos (decide_eq_true h)

/-! ## What the parser takes -/

theorem State.serve_of_unreleased {s : State} {pl : Nat} (up : Upset) (h : (s.pipe pl).released = false) :
    s.serve pl up = s := if_pos (by simp [h])

theorem State.serve_of_next {s : State} {pl k : Nat} {x : InFrame} {rest : List InFrame} (up : Upset)
    (hrel : (s.pipe pl).released = true) (hlive : s.pipePruned pl = false)
    (hk : ((List.range 8).map (fun j => ((s.pipe pl).rr + j) % 8)).find? (fun j => (s.nextOf (8 * pl + j)).isSome) = some k)
    (hx : s.nextOf (8 * pl + k) = some (x, rest)) :
    s.serve pl up = ((s.setBuffer (8 * pl + k) rest).modPipe pl (fun p => { p with rr := (k + 1) % 8 })).classify
      pl x.lp x.f up := by
  simp only [State.serve, hrel, hlive, hk, hx, Bool.not_true, Bool.or_false, Bool.false_eq_true, if_false]

theorem State.logReads_of_none {s : State} (h : s.fwd.failedReads = []) : s.logReads = s := by
  have hfwd : { s.fwd with failedReads := [] } = s.fwd := by rw [← h]
  simp only [State.logReads, h, List.foldl_nil, hfwd]

theorem exec_parseFrame {pl : Nat} (t : Nat) (up : Upset) (s : State) (h : pl < 8) :
    exec (.parseFrame t pl up) s = .next ((s.at t).serve pl up).logReads := if_pos (decide_eq_true h)

/-- Settles O9: the causes under which a port keeps a frame to itself, and the room in the buffer for the others. -/
theorem frameArrivals : Obligations.FrameArrivals := by
  unfold Obligations.FrameArrivals
  refine ⟨?deaf, ?interrupted, ?forwarding, ?listening, ?parser⟩
  case deaf =>
    intro s t lp f hlp h
    rw [exec_frameArrive t f s hlp, State.arrive_of_deaf (s := s.at t) f h]
  case interrupted =>
    intro s t lp f hlp hst hu hi
    rw [exec_frameArrive t f s hlp, State.arrive_of_interrupted (s := s.at t) hst hu hi]
  case forwarding =>
    intro s t lp f hlp hst hu hi hroom
    have kept {g} (hc : keptCause (s.cfgN 0x10 lp 0x05) f = some g) :=
      have h := State.arrive_of_kept (s := s.at t) (.inr hst) hu hi hc
      And.intro h.cnt (h.buffers (lp / 16))
    refine ⟨_, exec_frameArrive t f s hlp, ⟨?lpi, ?short, ?long, ?fcs, ?pause, ?pfc, ?passed⟩,
      State.arrive_leaves (s := s.at t) hst hu hi hroom⟩
    case lpi => exact fun hk => kept (keptCause_lpi hk)
    case short => exact fun hk hlen => kept (keptCause_short hk hlen)
    case long => exact fun hk hmin hlen => kept (keptCause_long hk hmin hlen)
    case fcs => exact fun hk hmin hmax hfcs => kept (keptCause_fcs hk hmin hmax hfcs)
    case pause => exact fun ⟨_, hmin, hmax, hfcs⟩ hk => kept (keptCause_pause hmin hmax hfcs hk)
    case pfc => exact fun ⟨_, hmin, hmax, hfcs⟩ hk => kept (keptCause_pfc hmin hmax hfcs hk)
    case passed =>
      intro ⟨hlpi, hmin, hmax, hfcs⟩ hpause hpfc
      have hc := keptCause_none hlpi hmin hmax hfcs hpause hpfc
      refine ⟨fun hfit => ?_, fun hfull => ?_⟩
      · have hr := State.received_counted (s := s.at t) f hu
        rw [State.arrive_of_fits (s := s.at t) hst hu hi hc hfit]
        exact ⟨hr.cnt, (State.buffer_setBuffer ..).trans (if_pos rfl)⟩
      · have h := State.arrive_of_overrun (s := s.at t) hst hu hi hc hfull (hroom.resolve_right (by omega))
        exact ⟨h.cnt, h.buffers _⟩
  case listening =>
    intro s t lp f hlp hst hu hi hlpi hf
    have h := State.arrive_of_listening (s := s.at t) hst hu hi hlpi hf
    exact ⟨_, exec_frameArrive t f s hlp, h.cnt, h.ports, h.buffers, h.frame⟩
  case parser =>
    intro s t pl up hpl
    refine ⟨fun hrel hreads => ?_, fun k x rest hrel hlive hk hx => ?_⟩
    · rw [exec_parseFrame t up s hpl, State.serve_of_unreleased (s := s.at t) up hrel,
        State.logReads_of_none (s := s.at t) hreads]
    · rw [exec_parseFrame t up s hpl, State.serve_of_next (s := s.at t) up hrel hlive hk hx]

end Sys2Proof.Machine
end

section
/-! PROOFS. The event rings (03): what each command of a ring does to it (R90 to R92, R94) and leaves alone, and what bit 13
of its status word shows. -/

namespace Sys2Proof.Machine

/-! ## Moves of one ring -/

/-- `u` is `s` but for ring `n` of allotment `a`, which is now `r`, and for time, interrupts, messages and the answer. -/
structure RingMoved (s u : State) (a n : Nat) (r : Ring) : Prop where
  ring : u.ring a n = r
  others : ∀ b m, m < 16 → (b, m) ≠ (a, n) → u.ring b m = s.ring b m
  frame :
    u = { s with now := u.now, rings := u.rings, irq := u.irq, emits := u.emits, allots := u.allots, answer := u.answer }

theorem ringMoved_at (s : State) (t a n : Nat) : RingMoved s (s.at t) a n (s.ring a n) := ⟨rfl, fun _ _ _ _ => rfl, rfl⟩

section
variable {s u : State} {a n : Nat} {r q : Ring}

/-- The rings of a window are numbered 16 × a + n: two pairs with n below 16 name two rings. -/
theorem ringKey_ne {b m : Nat} (hn : n < 16) (hm : m < 16) (hne : (b, m) ≠ (a, n)) : 16 * b + m ≠ 16 * a + n := by
  intro h
  exact hne (Prod.ext (by omega) (by omega))

theorem RingMoved.modRing (h : RingMoved s u a n r) (hn : n < 16) {f : Ring → Ring} (hf : f r = q) :
    RingMoved s (u.modRing a n f) a n q where
  ring := by rw [State.ring_modRing, if_pos rfl, h.ring, hf]
  others b m hm hne := by rw [State.ring_modRing, if_neg (ringKey_ne hn hm hne), h.others b m hm hne]
  frame := congrArg (fun v : State => { v with rings := (u.modRing a n f).rings }) h.frame

theorem RingMoved.raise (h : RingMoved s u a n r) (k : Nat) : RingMoved s (u.raise k) a n r where
  ring := (State.ring_raise ..).trans h.ring
  others b m hm hne := (State.ring_raise ..).trans (h.others b m hm hne)
  frame := by
    have hu : u.raise k = { u with irq := (u.raise k).irq, emits := (u.raise k).emits, allots := (u.raise k).allots } :=
      State.parts.2 (by simp [State.raise_kept ..])
    rw [hu, h.frame]

theorem RingMoved.say (h : RingMoved s u a n r) (st : Nat) (d : List Byte) (e : Nat) :
    RingMoved s (u.say st d e) a n r where
  ring := h.ring
  others := h.others
  frame := congrArg (fun v : State => { v with answer := (u.say st d e).answer }) h.frame

theorem RingMoved.ringCheck (h : RingMoved s u a n r) (old : Ring) : RingMoved s (u.ringCheck old a n) a n r := by
  unfold State.ringCheck
  split
  · exact h.raise _
  · exact h

/-- A ring as the write of its pending gap marker leaves it (R90). -/
def Ring.marked (r : Ring) : Ring :=
  { r with entries := r.entries ++ [r.marker], gapCount := 0, gapFirst := 0, gapLast := 0 }

theorem RingMoved.ringMark_of_noGap (h : RingMoved s u a n r) (hg : r.gapCount = 0) :
    RingMoved s (u.ringMark a n) a n r := by
  have hmark : u.ringMark a n = u := if_neg fun hc => hc.1 (by rw [h.ring, hg])
  rwa [hmark]

theorem RingMoved.ringMark_of_gap (h : RingMoved s u a n r) (hn : n < 16) (hg : r.gapCount ≠ 0)
    (hfree : r.entries.length < 4096) : RingMoved s (u.ringMark a n) a n r.marked := by
  have hdue : (u.ring a n).gapCount ≠ 0 ∧ (u.ring a n).entries.length < 4096 := by rw [h.ring]; exact ⟨hg, hfree⟩
  simp only [State.ringMark, if_pos hdue]
  exact (h.modRing hn rfl).ringCheck _

theorem RingMoved.ringPut_of_free (h : RingMoved s u a n r) (hn : n < 16) (w : RingWord) (hon : r.enable = true)
    (hfree : r.entries.length < 4096) : RingMoved s (u.ringPut a n w) a n { r with entries := r.entries ++ [w] } := by
  rw [← h.ring] at hon hfree
  simp only [State.ringPut, hon, Bool.not_true, Bool.false_eq_true, if_false, if_neg hfree.not_ge]
  exact (h.modRing hn rfl).ringCheck _

/-! ## The commands -/

theorem RingMoved.ringConsume_of_empty (h : RingMoved s u a n r) (hn : n < 16) (he : r.entries = []) :
    RingMoved s (u.ringConsume a n) a n { r with underrun := true } := by
  rw [← h.ring] at he
  simp only [State.ringConsume, he]
  exact (h.modRing hn rfl).raise _

theorem RingMoved.ringConsume_of_noGap (h : RingMoved s u a n r) (hn : n < 16) {e : RingWord} {l : List RingWord}
    (he : r.entries = e :: l) (hg : r.gapCount = 0) :
    RingMoved s (u.ringConsume a n) a n { r with entries := l, last := e } := by
  rw [← h.ring] at he
  simp only [State.ringConsume, he]
  exact (h.modRing hn rfl).ringMark_of_noGap hg

theorem RingMoved.ringConsume_of_gap (h : RingMoved s u a n r) (hn : n < 16) {e : RingWord} {l : List RingWord}
    (he : r.entries = e :: l) (hg : r.gapCount ≠ 0) (hfree : l.length < 4096) :
    RingMoved s (u.ringConsume a n) a n ({ r with entries := l, last := e } : Ring).marked := by
  rw [← h.ring] at he
  simp only [State.ringConsume, he]
  exact (h.modRing hn rfl).ringMark_of_gap hn hg hfree

theorem RingMoved.ringFlush (h : RingMoved s u a n r) (hn : n < 16) : RingMoved s (u.ringFlush a n) a n
    { r with entries := [], gapCount := 0, gapFirst := 0, gapLast := 0, last := 0 } := h.modRing hn rfl

theorem RingMoved.ringStatusReset (h : RingMoved s u a n r) (hn : n < 16) :
    RingMoved s (u.ringStatusReset a n) a n { r with gap := false, underrun := false } := h.modRing hn rfl

theorem RingMoved.ringRead_of_empty (h : RingMoved s u a n r) (hn : n < 16) (he : r.entries = []) :
    RingMoved s (u.ringRead a n) a n { r with underrun := true, latch := r.last } := by
  rw [← h.ring] at he
  simp only [State.ringRead, he]
  exact (h.modRing hn rfl).raise _

theorem RingMoved.ringRead_of_head (h : RingMoved s u a n r) (hn : n < 16) {e : RingWord} {l : List RingWord}
    (he : r.entries = e :: l) : RingMoved s (u.ringRead a n) a n { r with latch := e } := by
  rw [← h.ring] at he
  simp only [State.ringRead, he]
  exact h.modRing hn rfl

end

/-! ## A command to a ring of a served allotment (R315) -/

theorem State.onRing_of_served {s : State} {a n : Nat} (hs : s.serves a = true) (hn : n < 16) (f : State → State) :
    s.onRing a n f = f s := if_pos (by simp [hs, hn])

section
variable {s : State} {a n : Nat} (t : Nat) (ha : a < 16) (hn : n < 16) (hs : s.serves a = true)
include ha hn hs

theorem onUnit_onRing (f : State → State) : onUnit (isAllot a) ((s.at t).onRing a n f) = .next (f (s.at t)) :=
  onUnit_next.2 ⟨decide_eq_true ha, (State.onRing_of_served (s := s.at t) hs hn f).symm⟩

theorem exec_consume : exec (.consume t a n) s = .next ((s.at t).ringConsume a n) := onUnit_onRing t ha hn hs _

theorem exec_flush : exec (.flush t a n) s = .next ((s.at t).ringFlush a n) := onUnit_onRing t ha hn hs _

theorem exec_statusReset : exec (.statusReset t a n) s = .next ((s.at t).ringStatusReset a n) :=
  onUnit_onRing t ha hn hs _

theorem exec_entryRead : exec (.entryRead t a n) s =
    .next (((s.at t).ringRead a n).say 0 (natLe 32 (((s.at t).ringRead a n).ring a n).latch.toNat)) :=
  onUnit_onRing t ha hn hs _

end

/-! ## What the window shows of a ring -/

/-- Bit 13 of the status word. COUNT has the 13 bits below it, which the 4,096 entries of R89 never fill; a longer list of
entries would spill into bit 13. -/
theorem State.ringWordOf_bit13 (s : State) (a n : Nat) : bit (s.ringWordOf a n 0) 13 =
    ((s.ring a n).entries.isEmpty || (s.ring a n).entries.length.testBit 13) := by
  simp only [State.ringWordOf, pack, List.foldl, bit, Nat.testBit_eq_decide_div_mod_eq]
  generalize b2n (decide (4096 ≤ (s.ring a n).entries.length)) = full, b2n (s.ring a n).gap = gap,
    b2n (s.ring a n).underrun = underrun
  cases (s.ring a n).entries with
  | nil => simp [b2n]; omega
  | cons e l => simp [b2n]; omega

theorem State.ringWordOf_empty {s : State} {a n : Nat} (h : (s.ring a n).entries.length ≤ 4096) :
    bit (s.ringWordOf a n 0) 13 = (s.ring a n).entries.isEmpty := by
  rw [State.ringWordOf_bit13, Nat.testBit_lt_two_pow (by omega), Bool.or_false]

theorem State.ringWordOf_latch (s : State) (a n : Nat) {k : Nat} (h1 : 1 ≤ k) (h8 : k < 8) :
    s.ringWordOf a n (0x20 + 4 * k) = (s.ring a n).latch.toNat / 2 ^ (32 * k) % 2 ^ 32 := by
  interval_cases k <;> rfl

/-! ## What a command to a ring leaves alone -/

section
variable {s u : State} {a n : Nat} {r : Ring} (h : RingMoved s u a n r) (hn : n < 16)
include h hn

theorem RingMoved.ringConsume (hlen : r.entries.length ≤ 4096) : ∃ q, RingMoved s (u.ringConsume a n) a n q := by
  cases he : r.entries with
  | nil => exact ⟨_, h.ringConsume_of_empty hn he⟩
  | cons e l =>
    by_cases hg : r.gapCount = 0
    · exact ⟨_, h.ringConsume_of_noGap hn he hg⟩
    · exact ⟨_, h.ringConsume_of_gap hn he hg (by simpa [he] using hlen)⟩

theorem RingMoved.ringRead : ∃ q, RingMoved s (u.ringRead a n) a n q := by
  cases he : r.entries with
  | nil => exact ⟨_, h.ringRead_of_empty hn he⟩
  | cons e l => exact ⟨_, h.ringRead_of_head hn he⟩

end

theorem exec_ring_moved {s : State} (t : Nat) {a n : Nat} (ha : a < 16) (hn : n < 16) (hs : s.serves a = true)
    (hlen : (s.ring a n).entries.length ≤ 4096) {c : Instr} {u : State}
    (hc : c ∈ [Instr.consume t a n, .flush t a n, .statusReset t a n, .entryRead t a n]) (hu : exec c s = .next u) :
    ∃ r, RingMoved s u a n r := by
  have h := ringMoved_at s t a n
  simp only [List.mem_cons, List.not_mem_nil, or_false] at hc
  obtain rfl | rfl | rfl | rfl := hc
  · obtain rfl := Host.Outcome.next.inj ((exec_consume t ha hn hs).symm.trans hu)
    exact h.ringConsume hn hlen
  · obtain rfl := Host.Outcome.next.inj ((exec_flush t ha hn hs).symm.trans hu)
    exact ⟨_, h.ringFlush hn⟩
  · obtain rfl := Host.Outcome.next.inj ((exec_statusReset t ha hn hs).symm.trans hu)
    exact ⟨_, h.ringStatusReset hn⟩
  · obtain rfl := Host.Outcome.next.inj ((exec_entryRead t ha hn hs).symm.trans hu)
    obtain ⟨q, hq⟩ := h.ringRead hn
    exact ⟨q, hq.say ..⟩

/-! ## Settling O16 -/

/-- What O16 says, of a ring within the 4,096 entries of R89: that bound is all that O16 lacks. -/
theorem ringCommands_of_length_le {s : State} (t : Nat) {a n : Nat} (ha : a < 16) (hn : n < 16)
    (hs : s.serves a = true) (hlen : (s.ring a n).entries.length ≤ 4096) :
    (∀ e r, (s.ring a n).entries = e :: r → (s.ring a n).gapCount = 0 → ∃ u, exec (.consume t a n) s = .next u ∧
      u.ring a n = { s.ring a n with entries := r, last := e }) ∧
    (∀ e r, (s.ring a n).entries = e :: r → (s.ring a n).gapCount ≠ 0 →
      ∃ u, exec (.consume t a n) s = .next u ∧ (u.ring a n).entries = r ++ [(s.ring a n).marker] ∧
        (u.ring a n).gapCount = 0 ∧ (u.ring a n).last = e) ∧
    ((s.ring a n).entries = [] → ∃ u, exec (.consume t a n) s = .next u ∧
      u.ring a n = { s.ring a n with underrun := true }) ∧
    (∃ u, exec (.flush t a n) s = .next u ∧ (u.ring a n).entries = [] ∧ (u.ring a n).gapCount = 0 ∧
      (u.ring a n).last = 0 ∧ (u.ring a n).gap = (s.ring a n).gap ∧ (u.ring a n).underrun = (s.ring a n).underrun) ∧
    (∃ u, exec (.statusReset t a n) s = .next u ∧ u.ring a n = { s.ring a n with gap := false, underrun := false }) ∧
    (∀ e r, (s.ring a n).entries = e :: r → ∃ u, exec (.entryRead t a n) s = .next u ∧
      u.ring a n = { s.ring a n with latch := e } ∧ u.answer.status = 0 ∧ u.answer.data = natLe 32 e.toNat) ∧
    ((s.ring a n).entries = [] → ∃ u, exec (.entryRead t a n) s = .next u ∧
      u.ring a n = { s.ring a n with underrun := true, latch := (s.ring a n).last } ∧
      u.answer.data = natLe 32 (s.ring a n).last.toNat) ∧
    (∀ r : Ring, s.ring a n = r → bit (s.ringWordOf a n 0) 13 = r.entries.isEmpty ∧
      (∀ k, 1 ≤ k → k < 8 → s.ringWordOf a n (0x20 + 4 * k) = r.latch.toNat / 2 ^ (32 * k) % 2 ^ 32)) ∧
    (∀ w : RingWord, (s.ring a n).entries = [] → (s.ring a n).enable = true →
      ((s.ringPut a n w).ring a n).entries = [w]) ∧
    (State.reset.ring a n).last = 0 ∧
    (∀ c u, c ∈ [Instr.consume t a n, .flush t a n, .statusReset t a n, .entryRead t a n] → exec c s = .next u →
      (∀ b m, m < 16 → (b, m) ≠ (a, n) → u.ring b m = s.ring b m) ∧
      u = { s with
        now := u.now, rings := u.rings, irq := u.irq, emits := u.emits, allots := u.allots, answer := u.answer }) := by
  have h0 := ringMoved_at s t a n
  have hfree {e r} (he : (s.ring a n).entries = e :: r) : r.length < 4096 := by simpa [he] using hlen
  refine ⟨fun e r he hg => ?release, fun e r he hg => ?mark, fun he => ?under, ?flush, ?reset, fun e r he => ?head,
    fun he => ?stale, ?word, fun w he hon => ?arrival, rfl, fun c u hc hu => ?leaves⟩
  case release => exact ⟨_, exec_consume t ha hn hs, (h0.ringConsume_of_noGap hn he hg).ring⟩
  case mark =>
    have h := (h0.ringConsume_of_gap hn he hg (hfree he)).ring
    exact ⟨_, exec_consume t ha hn hs, by rw [h]; rfl, by rw [h]; rfl, by rw [h]; rfl⟩
  case under => exact ⟨_, exec_consume t ha hn hs, (h0.ringConsume_of_empty hn he).ring⟩
  case flush =>
    have h := (h0.ringFlush hn).ring
    exact ⟨_, exec_flush t ha hn hs, by rw [h], by rw [h], by rw [h], by rw [h], by rw [h]⟩
  case reset => exact ⟨_, exec_statusReset t ha hn hs, (h0.ringStatusReset hn).ring⟩
  case head =>
    have h := (h0.ringRead_of_head hn he).ring
    exact ⟨_, exec_entryRead t ha hn hs, h, rfl, by rw [h]; rfl⟩
  case stale =>
    have h := (h0.ringRead_of_empty hn he).ring
    exact ⟨_, exec_entryRead t ha hn hs, h, by rw [h]; rfl⟩
  case word =>
    rintro r rfl
    exact ⟨State.ringWordOf_empty hlen, fun k h1 h8 => State.ringWordOf_latch s a n h1 h8⟩
  case arrival =>
    have h := (ringMoved_at s s.now a n).ringPut_of_free hn w hon (by simp [he])
    exact (congrArg Ring.entries h.ring).trans (congrArg (· ++ [w]) he)
  case leaves =>
    obtain ⟨r, h⟩ := exec_ring_moved t ha hn hs hlen hc hu
    exact ⟨h.others, h.frame⟩

/-- A served ring that lists 8,192 entries, twice the 4,096 of R89: no ring fills so far (R90), but it is a `State`. -/
def overfullRing : State :=
  { State.reset with
    alm := { State.reset.alm with live := true }
    rings := [(0, { entries := List.replicate 8192 0 })] }

theorem overfullRing_serves : overfullRing.serves 0 = true := by decide

theorem overfullRing_entries : (overfullRing.ring 0 0).entries = List.replicate 8192 0 := rfl

theorem overfullRing_bit13 : bit (overfullRing.ringWordOf 0 0 0) 13 = true := by
  rw [State.ringWordOf_bit13, overfullRing_entries, List.length_replicate]
  decide

/-- Refutes O16: the statement speaks of every state, also of one whose ring lists more entries than the 4,096 of R89. With
8,192 entries COUNT spills into bit 13, and the status word shows EMPTY of a ring that is not empty. Of a ring within the
4,096 entries everything it says holds: `ringCommands_of_length_le`. -/
theorem not_ringCommands : ¬ Obligations.RingCommands := by
  unfold Obligations.RingCommands
  intro h
  obtain ⟨-, -, -, -, -, -, -, hword, -⟩ := h overfullRing 0 0 0 (by decide) (by decide) overfullRing_serves
  have hempty := (hword _ rfl).1
  rw [overfullRing_bit13, overfullRing_entries] at hempty
  exact absurd hempty (by decide)

end Sys2Proof.Machine
end

section
/-! PROOFS. The fault sources (15): what a cause, a FORCE bit and the end of a cause do to a source of Table 15.1 (R370,
R371, R378, R380), and what a raise records (R376, R489). -/

namespace Sys2Proof.Machine

/-! ## The routes of a source that is raised -/

/-- Signalling leaves every route as it is: it acts on the vectors (R341). -/
@[simp] theorem State.route_notify (s : State) (t : Nat) (h : Bool) (n : Nat) : (s.notify t).route h n = s.route h n := by
  have hhost : (s.notify t).irq.host = s.irq.host := by unfold State.notify; dsimp only; split_ifs <;> simp
  have hshed : (s.notify t).irq.shed = s.irq.shed := by unfold State.notify; dsimp only; split_ifs <;> simp
  simp [State.route, hhost, hshed]

@[simp] theorem State.route_notifyAll (s : State) (h : Bool) (n : Nat) : s.notifyAll.route h n = s.route h n := by
  refine List.foldlRecOn (motive := fun u : State => u.route h n = s.route h n) _ _ rfl fun u hu f _ => ?_
  split
  · exact List.foldlRecOn (motive := fun v : State => v.route h n = s.route h n) _ _ hu fun v hv k _ =>
      (v.route_notify (targetOf f.1 k) h n).trans hv
  · exact hu

/-- A raise of a source that has an owner moves both its routes (R335, Table 13.2). -/
theorem State.route_raise_self {s : State} {n o : Nat} (ho : s.sourceOwner n = some o) (h : Bool) :
    (s.raise n).route h n = (s.route h n).raised := by
  have hnote (u : State) : (u.noteRaise n).route h n = u.route h n := rfl
  have hcount (p : Prop) [Decidable p] (f : Allot → Allot) :
      (if p then s.modAllot o f else s).route h n = s.route h n := by split <;> rfl
  simp only [State.raise, ho, State.route_notifyAll, State.route_modRoute]
  cases h <;> simp [hnote, hcount]

/-- Allotment 0 owns the source of every fault (Table 13.1). -/
theorem State.sourceOwner_fault (s : State) {id : Nat} (hid : id < 4096) : s.sourceOwner (0x6000 + id) = some 0 := by
  unfold State.sourceOwner
  repeat rw [if_neg (by omega)]
  exact if_pos (by omega)

/-! ## What a raise records -/

@[simp] theorem State.errRec_modSource (s : State) (id r : Nat) (f : Source → Source) :
    (s.modSource id f).errRec r = s.errRec r := rfl

@[simp] theorem State.source_modErrRec (s : State) (r id : Nat) (f : ErrRec → ErrRec) :
    (s.modErrRec r f).source id = s.source id := rfl

/-- `u` is `s` with one more raise of source `id` recorded (R370): in its COUNT, in the records of its domain and of the
device, and on the routes of its interrupt source. -/
structure FaultRecorded (s u : State) (id : Nat) (forced : Bool) : Prop where
  source : u.source id = { s.source id with count := inc64 (s.source id).count }
  domain : u.errRec (id / 256) = ((s.errRec (id / 256)).count).offer id s.now (s.now / 2) s.traceable forced
  device : u.errRec 16 = ((s.errRec 16).count).offer id s.now (s.now / 2) s.traceable forced
  routes : ∀ h, u.route h (0x6000 + id) = (s.route h (0x6000 + id)).raised
  pruned : u.flt.pruned = s.flt.pruned
  frame : u = { s with str := u.str, flt := u.flt, irq := u.irq, allots := u.allots, emits := u.emits }

section
variable {s : State} {id : Nat}

theorem State.recordRaise_of_recording (hin : (sourceInfo id).isSome = true) (hrec : s.flt.recording = true)
    (forced : Bool) : s.recordRaise id forced =
      (((s.modSource id (fun x => { x with count := inc64 x.count })).modErrRec (id / 256)
        (fun r => (r.count).offer id s.now (s.now / 2) s.traceable forced)).modErrRec 16
        (fun r => (r.count).offer id s.now (s.now / 2) s.traceable forced)).raise (0x6000 + id) :=
  if_neg (by simp [hrec, Option.isSome_iff_ne_none.1 hin])

theorem State.str_recordRaise (s : State) (id : Nat) (forced : Bool) : (s.recordRaise id forced).str = s.str := by
  simp [State.recordRaise_kept ..]

/-- The record of a domain is never the device's, so a raise is offered to each of the two once. -/
theorem State.recordRaise_recorded (hid : id < 4096) (hin : (sourceInfo id).isSome = true)
    (hrec : s.flt.recording = true) (forced : Bool) : FaultRecorded s (s.recordRaise id forced) id forced := by
  have hdom : id / 256 ≠ 16 := by omega
  rw [State.recordRaise_of_recording hin hrec]
  constructor
  case source => simp
  case domain => simp [hdom]
  case device => simp [hdom.symm]
  case routes => exact State.route_raise_self (State.sourceOwner_fault _ hid)
  case pruned => simp [State.raise_kept ..]
  case frame => exact State.parts.2 (by simp [State.raise_kept ..])

/-- Once the collector records, a raise of a listed source is recorded, and the class in force reacts. -/
theorem State.raised_of_recording (hin : (sourceInfo id).isSome = true) (hrec : s.flt.recording = true) (forced : Bool) :
    s.raised id forced = (s.recordRaise id forced).react id (s.classOf id) :=
  if_neg (by simp [hrec, Option.isSome_iff_ne_none.1 hin])

theorem State.raised_of_deaf (hrec : s.flt.recording = false) (forced : Bool) : s.raised id forced = s :=
  if_pos (by simp [hrec])

/-! ## A bit of a source -/

/-- The cause of a source is present. -/
def State.causeSet (s : State) (id : Nat) : State := s.modSource id (fun x => { x with cause := true })
/-- The FORCE bit of a source is set. -/
def State.forceSet (s : State) (id : Nat) : State := s.modSource id (fun x => { x with force := true })

@[simp] theorem State.source_causeSet (s : State) (id k : Nat) :
    (s.causeSet id).source k = if k = id then { s.source id with cause := true } else s.source k :=
  State.source_modSource ..

@[simp] theorem State.source_forceSet (s : State) (id k : Nat) :
    (s.forceSet id).source k = if k = id then { s.source id with force := true } else s.source k :=
  State.source_modSource ..

/-- A cause does not change the class in force. -/
theorem State.classOf_causeSet (s : State) (id : Nat) : (s.causeSet id).classOf id = s.classOf id := by
  simp [State.classOf]

/-- A FORCE bit does not change the class in force. -/
theorem State.classOf_forceSet (s : State) (id : Nat) : (s.forceSet id).classOf id = s.classOf id := by
  simp [State.classOf]

/-! ## A cause that appears -/

theorem State.raiseFault_of_unlisted (hin : sourceInfo id = none) : s.raiseFault id = s := if_pos (by simp [hin])

theorem State.raiseFault_of_listed (hin : (sourceInfo id).isSome = true) : s.raiseFault id =
    (let w := s.causeSet id
     if (s.source id).live then w else w.raised id false) :=
  if_neg (by simp [Option.isSome_iff_ne_none.1 hin])

/-- A cause of a source that is LIVE already, or that appears before the collector records, is only noted. -/
theorem State.raiseFault_of_noted (hin : (sourceInfo id).isSome = true)
    (hn : (s.source id).live = true ∨ s.flt.recording = false) :
    s.raiseFault id = s.causeSet id := by
  rw [State.raiseFault_of_listed hin]
  rcases hn with hlive | hrec
  · exact if_pos hlive
  · exact ite_eq_left_iff.2 fun _ => State.raised_of_deaf (s := s.causeSet id) hrec false

theorem State.raiseFault_of_rise (hin : (sourceInfo id).isSome = true) (hrec : s.flt.recording = true)
    (hlive : (s.source id).live = false) : s.raiseFault id =
      ((s.causeSet id).recordRaise id false).react id (s.classOf id) := by
  rw [State.raiseFault_of_listed hin, hlive, ← State.classOf_causeSet]
  exact State.raised_of_recording (s := s.causeSet id) hin hrec false

/-! ## A FORCE bit that is set -/

/-- A forced self-check of a bed flags the release unit that the bed writes (R380). -/
def State.flagForced (s : State) (id : Nat) : State :=
  if id / 256 < 8 ∧ id % 256 < 36 then
    s.modBed (36 * (id / 256) + id % 256) (fun b => { b with unitFlag := true })
  else s

theorem State.flagForced_frame (s : State) (id : Nat) : s.flagForced id = { s with str := (s.flagForced id).str } := by
  unfold State.flagForced; split <;> rfl

theorem State.recording_flagForced (s : State) (id : Nat) : (s.flagForced id).flt.recording = s.flt.recording := by
  rw [State.flagForced_frame]

theorem State.classOf_flagForced (s : State) (id k : Nat) : (s.flagForced id).classOf k = s.classOf k := by
  rw [State.flagForced_frame]; rfl

theorem State.bed_flagForced_self (s : State) {id : Nat} (hd : id / 256 < 8) (hb : id % 256 < 36) :
    (s.flagForced id).bed (36 * (id / 256) + id % 256) =
      { s.bed (36 * (id / 256) + id % 256) with unitFlag := true } := by
  rw [State.flagForced, if_pos ⟨hd, hb⟩, State.bed_modBed, if_pos rfl]

theorem State.bed_flagForced_other (s : State) {id k : Nat} (hk : k ≠ 36 * (id / 256) + id % 256) :
    (s.flagForced id).bed k = s.bed k := by
  unfold State.flagForced
  split
  · rw [State.bed_modBed, if_neg hk]
  · rfl

theorem State.str_flagForced_of_other (s : State) {id : Nat} (h : 8 ≤ id / 256 ∨ 36 ≤ id % 256) :
    (s.flagForced id).str = s.str := by
  rw [State.flagForced, if_neg (by omega)]

/-- The flag of a bed is no part of what a raise records. -/
theorem FaultRecorded.of_flagForced {u : State} {forced : Bool} (h : FaultRecorded (s.flagForced id) u id forced) :
    FaultRecorded s u id forced := by
  have hw := s.flagForced_frame id
  generalize s.flagForced id = w at h hw
  rw [hw] at h
  exact ⟨h.source, h.domain, h.device, h.routes, h.pruned, h.frame⟩

theorem State.forceFault_of_enabled (hin : (sourceInfo id).isSome = true) (hinj : s.flt.inject = true) :
    s.forceFault id true =
      (let w := s.forceSet id
       if (s.source id).live then w else (w.flagForced id).raised id true) := by
  unfold State.forceFault
  rw [if_neg (by simp [Option.isSome_iff_ne_none.1 hin]), if_neg (by simp [hinj])]
  rfl

theorem State.forceFault_of_live (hin : (sourceInfo id).isSome = true) (hinj : s.flt.inject = true)
    (hlive : (s.source id).live = true) : s.forceFault id true = s.forceSet id :=
  (State.forceFault_of_enabled hin hinj).trans (if_pos hlive)

theorem State.forceFault_of_rise (hin : (sourceInfo id).isSome = true) (hinj : s.flt.inject = true)
    (hrec : s.flt.recording = true) (hlive : (s.source id).live = false) : s.forceFault id true =
      (((s.forceSet id).flagForced id).recordRaise id true).react id (s.classOf id) := by
  have hrec' : ((s.forceSet id).flagForced id).flt.recording = true := (State.recording_flagForced ..).trans hrec
  rw [State.forceFault_of_enabled hin hinj, hlive, ← State.classOf_forceSet, ← State.classOf_flagForced]
  exact State.raised_of_recording hin hrec' true

end

/-! ## The commands -/

theorem exec_faultRaise {id : Nat} (t : Nat) (s : State) (h : id < 4096) :
    exec (.faultRaise t id) s = .next ((s.at t).raiseFault id) := if_pos (decide_eq_true h)

theorem exec_faultCauseGone {id : Nat} (t : Nat) (s : State) (h : id < 4096) :
    exec (.faultCauseGone t id) s = .next ((s.at t).causeGone id) := if_pos (decide_eq_true h)

theorem exec_force {a : Nat} (t id val : Nat) (s : State) (h : a < 16) : exec (.force t a id val) s =
    .next ((s.at t).orderNumber a 0x40 (named (isSource id) (0x1000 + id)) 0x02 1 val) := if_pos (decide_eq_true h)

theorem spaceOf_source {id : Nat} (hid : id < 4096) : spaceOf 0x40 (0x1000 + id) = some (.source, id) := by
  have hnot : ¬(0x1000 + id ≤ 0x110) ∧ ¬(0x1000 + id = 0) := by omega
  have hin : 0x1000 ≤ 0x1000 + id ∧ 0x1000 + id ≤ 0x1FFF := by omega
  simp [spaceOf, spacesOf, hnot, hin]

/-- The row of FORCE (Table 15.6). -/
def forceRow : Row := { m0 := 0x02, m1 := 0x02, ty := .u 1, acc := 3, legal := [(0, 1)] }

theorem entryRow_force (id : Nat) : entryRow .source id 0x02 = some forceRow := rfl

section
variable {s : State} {a id inst : Nat} (hin : (sourceInfo id).isSome = true)
include hin

theorem State.legalNow_force : s.legalNow .source id 0x02 forceRow = [(0, 1)] :=
  if_neg (by simp [Option.isSome_iff_ne_none.1 hin])

/-- A 1 written to FORCE is in its range, so that nothing is clamped. -/
theorem State.writeScalar_force :
    s.writeScalar a 0x40 inst 0x02 .source id forceRow (natLe 1 1) = (0, s.now, s.forceFault id true) := by
  have hnow : (s.forceFault id true).now = s.now := (State.forceFault_kept s id true).1
  unfold State.writeScalar
  rw [State.legalNow_force hin, ← hnow]
  rfl

theorem State.entryWrite_force :
    s.entryWrite a 0x40 inst 0x02 .source id forceRow (natLe 1 1) = (0, s.now, s.forceFault id true) := by
  show afterWrite .source id forceRow 0 (s.writeScalar a 0x40 inst 0x02 .source id forceRow (natLe 1 1)) = _
  rw [State.writeScalar_force hin]
  rfl

end

theorem accepted_noted (u : State) (a fam inst mem key : Nat) (old : List Byte) (fields : List Nat) (e : Nat) :
    accepted u (((u.noteWrite a fam inst mem key old).covers a fields).say 0 [] e) e := rfl

theorem accepted_flt {u v : State} {e : Nat} (h : accepted u v e) : v.flt = u.flt := by rw [h]

theorem accepted_source {u v : State} {e : Nat} (h : accepted u v e) (k : Nat) : v.source k = u.source k := by
  simp [State.source, accepted_flt h]

/-- A FORCE bit of a listed source that the Almanac takes at once is set with the write's own time of effect. -/
theorem exec_force_accepted {s : State} {t a id : Nat} (hid : id < 4096) (hin : (sourceInfo id).isSome = true)
    (ha : a < 16) (hs : takesAtOnce s t a) (hw : mayWrite s a 0x40 (0x1000 + id) 0x02) :
    ∃ u, exec (.force t a id 1) s = .next u ∧ accepted ((s.at t).forceFault id true) u t := by
  obtain ⟨sp, n, r, hsp, hr, hright⟩ := hw
  obtain ⟨rfl, rfl⟩ : Space.source = sp ∧ id = n := by simpa [spaceOf_source hid] using hsp
  have hnamed : named (isSource id) (0x1000 + id) = 0x1000 + id := if_pos (decide_eq_true hid)
  obtain rfl : forceRow = r := Option.some.inj ((entryRow_force id).symm.trans hr)
  refine ⟨_, exec_force t id 1 s ha, ?_⟩
  rw [hnamed, State.orderNumber, orderWrite_accepted hs hsp hr (.inr hright) (State.entryWrite_force hin)]
  exact accepted_noted ..

section
variable {s : State} {t id : Nat} (hid : id < 4096) (hin : (sourceInfo id).isSome = true)
include hid hin

/-- A cause that is only noted. -/
theorem exec_faultRaise_noted (hn : (s.source id).live = true ∨ s.flt.recording = false) :
    ∃ u, exec (.faultRaise t id) s = .next u ∧ u.source id = { s.source id with cause := true } ∧
      (∀ k, k ≠ id → u.source k = s.source k) ∧ u = { s with now := t, flt := u.flt } ∧
      u.flt = { s.flt with sources := u.flt.sources } := by
  refine ⟨_, exec_faultRaise t s hid, ?_⟩
  rw [State.raiseFault_of_noted (s := s.at t) hin hn]
  exact ⟨by simp, fun k hk => by simp [hk], rfl, rfl⟩

end

/-- Settles O45, from what each command does to the bits of its source and from what a raise records. -/
theorem faultSources : Obligations.FaultSources := by
  unfold Obligations.FaultSources
  refine ⟨fun _ => rfl, fun _ _ => rfl, ?unlisted, ?deaf, fun s t id hid hin =>
    ⟨?cause, ?forceLive, ?forceRise, ?causeLive, ?gone⟩⟩
  case unlisted =>
    intro s t id hid hin
    rw [exec_faultRaise t s hid, State.raiseFault_of_unlisted hin]
  case deaf => exact fun s t id hid hin hrec => exec_faultRaise_noted hid hin (.inr hrec)
  case cause =>
    intro hrec hlive
    have h := State.recordRaise_recorded (s := (s.at t).causeSet id) hid hin hrec false
    have hstr := ((s.at t).causeSet id).str_recordRaise id false
    have hexec := (exec_faultRaise t s hid).trans (congrArg _ (State.raiseFault_of_rise (s := s.at t) hin hrec hlive))
    exact ⟨_, hexec, h.source.trans (by simp), h.domain, h.device, h.routes true, h.routes false, h.pruned,
      hstr ▸ h.frame⟩
  case forceLive =>
    intro a ha hs hw hinj hlive
    obtain ⟨u, hexec, hu⟩ := exec_force_accepted hid hin ha hs hw
    rw [State.forceFault_of_live (s := s.at t) hin hinj hlive] at hu
    refine ⟨u, hexec, (accepted_source hu id).trans (by simp),
      fun k hk => (accepted_source hu k).trans (by simp [hk]), ?_⟩
    rw [accepted_flt hu]
    exact hu
  case forceRise =>
    intro a ha hs hw hinj hrec hlive
    obtain ⟨u, hexec, hu⟩ := exec_force_accepted hid hin ha hs hw
    rw [State.forceFault_of_rise (s := s.at t) hin hinj hrec hlive] at hu
    have h := (State.recordRaise_recorded (s := ((s.at t).forceSet id).flagForced id) hid hin
      ((State.recording_flagForced ..).trans hrec) true).of_flagForced
    refine ⟨u, _, hexec, h.source.trans (by simp), h.domain, h.device, h.routes true, fun hother => ?_, fun hd hb => ?_,
      h.frame, hu⟩
    · exact (State.str_recordRaise ..).trans (State.str_flagForced_of_other _ hother)
    · exact ⟨(State.bed_recordRaise ..).trans (State.bed_flagForced_self _ hd hb),
        fun k hk => (State.bed_recordRaise ..).trans (State.bed_flagForced_other _ hk)⟩
  case causeLive =>
    intro hlive
    obtain ⟨u, hexec, hsrc, -, hframe⟩ := exec_faultRaise_noted hid hin (.inl hlive)
    exact ⟨u, hexec, hsrc, hframe⟩
  case gone =>
    exact ⟨_, exec_faultCauseGone t s hid, by simp [State.causeGone], by simp [State.causeGone, Source.live],
      fun k hk => by simp [State.causeGone, hk], rfl, rfl⟩

end Sys2Proof.Machine
end

section
/-! PROOFS. What holds of every command and of the step: it completes when it names units of the block (R2), and the exchange
areas keep their canonical form (R361, R369). -/

namespace Sys2Proof.Machine

/-! ## Every command completes or names no unit -/

/-- A command is the state that its meaning computes, guarded by the units that it names (log entry 8). -/
theorem exec_eq_onUnit (c : Instr) (s : State) : ∃ u, exec c s = onUnit c.wellFormed u := by
  cases c <;> exact ⟨_, rfl⟩

/-- No command reads or writes the queue. -/
theorem exec_pending {c : Instr} {s u : State} (h : exec c s = .next u) : u.pending = s.pending := by
  cases c with
  | laneFail => exact (execLaneFail_kept h).1
  | laneMoveDone => exact (execLaneMoveDone_kept h).1
  | pruneRequest => exact (execPruneRequest_kept h).1
  | shedRestart => exact (execShedRestart_kept h).1
  | shedLive => exact execShedLive_kept h
  | corePairTakeover => exact execCorePairTakeover_kept h
  | breakout => exact execBreakout_kept h
  | enable => exact execEnable_kept h
  | signalLoss => exact (execSignalLoss_kept h).1
  | fecAligned => exact (execFecAligned_kept h).1
  | fecIntervalEnd => exact (execFecIntervalEnd_kept h).1
  | frameArrive => exact (execFrameArrive_kept h).1
  | parseFrame => exact (execParseFrame_kept h).1
  | pfcPauseEnd => exact (execPfcPauseEnd_kept h).1
  | crossingSend => exact (execCrossingSend_kept h).1
  | crossingArrive => exact (execCrossingArrive_kept h).1
  | crossingAck => exact (execCrossingAck_kept h).1
  | ageScan => exact (execAgeScan_kept h).1
  | parityRewrite => exact (execParityRewrite_kept h).1
  | deliveryRewrite => exact (execDeliveryRewrite_kept h).1
  | flowWrite => exact execFlowWrite_kept h
  | flowDelete => exact execFlowDelete_kept h
  | flowRead => exact execFlowRead_kept h
  | deliveryWrite => exact execDeliveryWrite_kept h
  | deliveryRead => exact execDeliveryRead_kept h
  | blockGrant => exact execBlockGrant_kept h
  | staticL2 => exact execStaticL2_kept h
  | portFrameStart => exact (execPortFrameStart_kept h).1
  | frameTxEnd => exact (execFrameTxEnd_kept h).1
  | shaperRefill => exact (execShaperRefill_kept h).1
  | gateEntryChange => exact (execGateEntryChange_kept h).1
  | gateScheduleChange => exact (execGateScheduleChange_kept h).1
  | queueWrite => exact execQueueWrite_kept h
  | queueRead => exact execQueueRead_kept h
  | queueEnable => exact execQueueEnable_kept h
  | deepShareInterval => exact (execDeepShareInterval_kept h).1
  | consume => exact (execConsume_kept h).1
  | flush => exact (execFlush_kept h).1
  | statusReset => exact (execStatusReset_kept h).1
  | entryRead => exact (execEntryRead_kept h).1
  | intakePacket => exact (execIntakePacket_kept h).1
  | mergeWaitExpiry => exact (execMergeWaitExpiry_kept h).1
  | legTimeout => exact (execLegTimeout_kept h).1
  | pictureTimeout => exact (execPictureTimeout_kept h).1
  | missingPicture => exact (execMissingPicture_kept h).1
  | auSlotEnd => exact (execAuSlotEnd_kept h).1
  | feedLineRead => exact (execFeedLineRead_kept h).1
  | pendingTake => exact (execPendingTake_kept h).1
  | lineAck => exact (execLineAck_kept h).1
  | cutTo => exact execCutTo_kept h
  | pictureBoundary => exact (execPictureBoundary_kept h).1
  | outtakeRowRead => exact (execOuttakeRowRead_kept h).1
  | wordIssue => exact (execWordIssue_kept h).1
  | wordRetire => exact (execWordRetire_kept h).1
  | waitMet => exact (execWaitMet_kept h).1
  | waitTimeout => exact (execWaitTimeout_kept h).1
  | trapReq => exact (execTrapReq_kept h).1
  | patchLoad => exact execPatchLoad_kept h
  | sleepDelayExpiry => exact (execSleepDelayExpiry_kept h).1
  | sleepDone => exact (execSleepDone_kept h).1
  | wake => exact (execWake_kept h).1
  | sleep => exact (execSleep_kept h).1
  | powerReq => exact execPowerReq_kept h
  | wakeDone => exact (execWakeDone_kept h).1
  | run => exact execRun_kept h
  | admitSlot => exact execAdmit_kept h
  | streamAdmitted => exact (execStreamAdmitted_kept h).1
  | periodChange => exact (execPeriodChange_kept h).1
  | slotGrant => exact execSlotGrant_kept h
  | sieveCopyArrive => exact (execSieveCopyArrive_kept h).1
  | sieveWindowClose => exact (execSieveWindowClose_kept h).1
  | retrialChoice => exact (execRetrialChoice_kept h).1
  | voteTimeout => exact (execVoteTimeout_kept h).1
  | doubleFaultRestart => exact (execDoubleFaultRestart_kept h).1
  | excuseTimeout => exact (execExcuseTimeout_kept h).1
  | scionChoice => exact (execScionChoice_kept h).1
  | transplantEnd => exact (execTransplantEnd_kept h).1
  | cuttingBoundary => exact (execCuttingBoundary_kept h).1
  | probationEnd => exact (execProbationEnd_kept h).1
  | exposureLimit => exact (execExposureLimit_kept h).1
  | bedUnitReset => exact (execBedUnitReset_kept h).1
  | cuttingCompare => exact (execCuttingCompare_kept h).1
  | sparePool => exact execSparePool_kept h
  | peer => exact execPeer_kept h
  | almanacMessage => exact (execAlmanacMessage_kept h).1
  | identifyRequest => exact (execIdentifyRequest_kept h).1
  | go => exact (execGo_kept h).1
  | ack => exact (execAck_kept h).1
  | gapTimeout => exact (execGapTimeout_kept h).1
  | read => exact execRead_kept h
  | write => exact execWrite_kept h
  | writeStaged => exact execWriteStaged_kept h
  | stage => exact execStage_kept h
  | clearStage => exact execClearStage_kept h
  | addressChangeEffect => exact (execAddressChangeEffect_kept h).1
  | key => exact execKey_kept h
  | keyGraceEnd => exact (execKeyGraceEnd_kept h).1
  | registerWrite => exact (execRegisterWrite_kept h).1
  | bitAliasWrite => exact (execBitAliasWrite_kept h).1
  | doorbell => exact (execDoorbell_kept h).1
  | acquire => exact (execAcquire_kept h).1
  | release => exact (execRelease_kept h).1
  | reset => exact execReset_kept h
  | pcieLinkReset => exact (execPcieLinkReset_kept h).1
  | voteScrub => exact (execVoteScrub_kept h).1
  | claim => exact (execClaim_kept h).1
  | complete => exact (execComplete_kept h).1
  | sourceClear => exact (execSourceClear_kept h).1
  | msixUnmask => exact (execMsixUnmask_kept h).1
  | msixEnable => exact (execMsixEnable_kept h).1
  | shedClaim => exact (execShedClaim_kept h).1
  | scrub => exact (execScrub_kept h).1
  | logClear => exact execLogClear_kept h
  | opPoint => exact execOpPoint_kept h
  | pllLock => exact (execPllLock_kept h).1
  | opChangeStart => exact (execOpChangeStart_kept h).1
  | stackHold => exact (execStackHold_kept h).1
  | opChangeDone => exact (execOpChangeDone_kept h).1
  | opChangeTimeout => exact (execOpChangeTimeout_kept h).1
  | start => exact (execStart_kept h).1
  | disable => exact (execDisable_kept h).1
  | disableClear => exact (execDisableClear_kept h).1
  | dmaRequestDone => exact (execDmaRequestDone_kept h).1
  | dmaRequestFail => exact (execDmaRequestFail_kept h).1
  | faultRaise => exact (execFaultRaise_kept h).1
  | faultCauseGone => exact (execFaultCauseGone_kept h).1
  | force => exact execForce_kept h
  | classSet => exact execClass_kept h
  | recordClear => exact execRecordClear_kept h
  | unitReset => exact execUnitReset_kept h
  | unitResetEnd => exact (execUnitResetEnd_kept h).1
  | injectEnable => exact execInjectEnable_kept h
  | alertSw => exact execAlertSw_kept h
  | aliveTick => exact (execAliveTick_kept h).1
  | alertPulseEnd => exact (execAlertPulseEnd_kept h).1
  | calStart => exact execCalStart_kept h
  | pairMeasureDone => exact (execPairMeasureDone_kept h).1
  | alignTimeout => exact (execAlignTimeout_kept h).1
  | sensorCalDone => exact (execSensorCalDone_kept h).1
  | epoch => exact execEpoch_kept h
  | trimEpoch => exact (execTrimEpoch_kept h).1
  | discard => exact execDiscard_kept h
  | trimSet => exact execTrimSet_kept h
  | trimRestore => exact execTrimRestore_kept h
  | soilTestStart => exact (execSoilTestStart_kept h).1
  | soilTestEnd => exact (execSoilTestEnd_kept h).1
  | retest => exact execRetest_kept h
  | counterSel => exact execCounterSel_kept h
  | freeze => exact execFreeze_kept h
  | snapshot => exact execSnapshot_kept h
  | bedCounterOverflow => exact (execBedCounterOverflow_kept h).1
  | harvestInstant => exact (execHarvestInstant_kept h).1
  | harvestComplete => exact (execHarvestComplete_kept h).1
  | harvestList => exact execHarvestList_kept h
  | histClear => exact execHistClear_kept h
  | meterSend => exact (execMeterSend_kept h).1
  | meterMissing => exact (execMeterMissing_kept h).1
  | gaugeTime => exact (execGaugeTime_kept h).1
  | gaugeTimeFree => exact (execGaugeTimeFree_kept h).1
  | gaugeBoundary => exact (execGaugeBoundary_kept h).1
  | gaugeClose => exact (execGaugeClose_kept h).1
  | gaugeRecordSend => exact (execGaugeRecordSend_kept h).1
  | gaugeReplay => exact (execGaugeReplay_kept h).1
  | sealOpen => exact (execSealOpen_kept h).1
  | rgKeepReturn => exact (execRgKeepReturn_kept h).1
  | interval => exact execInterval_kept h
  | tariff => exact execTariff_kept h
  | record => exact execRecord_kept h
  | feedInRange => exact (execFeedInRange_kept h).1
  | feedOutOfRange => exact (execFeedOutOfRange_kept h).1
  | switchback => exact (execSwitchback_kept h).1
  | feedsLost => exact (execFeedsLost_kept h).1
  | mainFeed => exact execMainFeed_kept h
  | phaseFail => exact (execPhaseFail_kept h).1
  | keepLoss => exact (execKeepLoss_kept h).1
  | tempWarnCross => exact (execTempWarnCross_kept h).1
  | thermalTrip => exact (execThermalTrip_kept h).1
  | lifeHour => exact (execLifeHour_kept h).1
  | gpiChange => exact (execGpiChange_kept h).1
  | set => exact execSet_kept h
  | gpoApply => exact (execGpoApply_kept h).1
  | gpoFailsafe => exact (execGpoFailsafe_kept h).1
  | timingEdge => exact (execTimingEdge_kept h).1
  | refInputLost => exact (execRefInputLost_kept h).1
  | barrierMessageError => exact (execBarrierMessageError_kept h).1
  | refclkWindow => exact (execRefclkWindow_kept h).1
  | cfSource => exact execCfSource_kept h
  | blockWakeDone => exact (execBlockWakeDone_kept h).1
  | ptpSync => exact (execPtpSync_kept h).1
  | announce => exact (execAnnounce_kept h).1
  | announceTimeout => exact (execAnnounceTimeout_kept h).1
  | delayReq => exact (execDelayReq_kept h).1
  | holdoverSpecExpiry => exact (execHoldoverSpecExpiry_kept h).1
  | timeSet => exact execTimeSet_kept h
  | powerUp => exact (execPowerUp_kept h).1
  | memoryTrainingDone => exact (execMemoryTrainingDone_kept h).1
  | trimsRestored => exact (execTrimsRestored_kept h).1
  | pipelineRelease => exact (execPipelineRelease_kept h).1
  | almanacLive => exact (execAlmanacLive_kept h).1
  | fullReadiness => exact (execFullReadiness_kept h).1
  | perstRelease => exact (execPerstRelease_kept h).1
  | rgKeepLoss => exact (execRgKeepLoss_kept h).1
  | hedgeVLoss => exact (execHedgeVLoss_kept h).1
  | dorsenRuns => exact (execDorsenRuns_kept h).1
  | ptpManagement => exact (execPtpManagement_kept h).1
  | syncAndAnnounceSend => exact (execSyncAndAnnounceSend_kept h).1
  | configurationRequest => exact (execConfigurationRequest_kept h).1

/-! ## The exchange areas keep their canonical form -/

theorem wf_of_mem {s u : State} (h : u.mem = s.mem) (hw : s.mem.wf = true) : u.mem.wf = true := h ▸ hw

/-- A command either leaves the exchange areas alone, or writes bytes of them in their canonical form. -/
theorem exec_wf {c : Instr} {s u : State} (h : exec c s = .next u) (hw : s.mem.wf = true) : u.mem.wf = true := by
  cases c with
  | laneFail => exact wf_of_same (by simp [execLaneFail_kept h]) (by simp [execLaneFail_kept h]) hw
  | laneMoveDone => exact wf_of_mem (by simp [execLaneMoveDone_kept h]) hw
  | pruneRequest => exact wf_of_mem (by simp [execPruneRequest_kept h]) hw
  | shedRestart => exact wf_of_mem (by simp [execShedRestart_kept h]) hw
  | shedLive => exact execShedLive_wf h hw
  | corePairTakeover => exact execCorePairTakeover_wf h hw
  | breakout => exact execBreakout_wf h hw
  | enable => exact execEnable_wf h hw
  | signalLoss => exact wf_of_mem (by simp [execSignalLoss_kept h]) hw
  | fecAligned => exact wf_of_mem (by simp [execFecAligned_kept h]) hw
  | fecIntervalEnd => exact wf_of_mem (by simp [execFecIntervalEnd_kept h]) hw
  | frameArrive => exact wf_of_mem (by simp [execFrameArrive_kept h]) hw
  | parseFrame => exact wf_of_same (by simp [execParseFrame_kept h]) (by simp [execParseFrame_kept h]) hw
  | pfcPauseEnd => exact wf_of_mem (by simp [execPfcPauseEnd_kept h]) hw
  | crossingSend => exact wf_of_mem (by simp [execCrossingSend_kept h]) hw
  | crossingArrive => exact wf_of_same (by simp [execCrossingArrive_kept h]) (by simp [execCrossingArrive_kept h]) hw
  | crossingAck => exact wf_of_mem (by simp [execCrossingAck_kept h]) hw
  | ageScan => exact wf_of_mem (by simp [execAgeScan_kept h]) hw
  | parityRewrite => exact wf_of_mem (by simp [execParityRewrite_kept h]) hw
  | deliveryRewrite => exact wf_of_mem (by simp [execDeliveryRewrite_kept h]) hw
  | flowWrite => exact execFlowWrite_wf h hw
  | flowDelete => exact execFlowDelete_wf h hw
  | flowRead => exact execFlowRead_wf h hw
  | deliveryWrite => exact execDeliveryWrite_wf h hw
  | deliveryRead => exact execDeliveryRead_wf h hw
  | blockGrant => exact execBlockGrant_wf h hw
  | staticL2 => exact execStaticL2_wf h hw
  | portFrameStart => exact wf_of_same (by simp [execPortFrameStart_kept h]) (by simp [execPortFrameStart_kept h]) hw
  | frameTxEnd => exact wf_of_mem (by simp [execFrameTxEnd_kept h]) hw
  | shaperRefill => exact wf_of_mem (by simp [execShaperRefill_kept h]) hw
  | gateEntryChange => exact wf_of_mem (by simp [execGateEntryChange_kept h]) hw
  | gateScheduleChange => exact wf_of_mem (by simp [execGateScheduleChange_kept h]) hw
  | queueWrite => exact execQueueWrite_wf h hw
  | queueRead => exact execQueueRead_wf h hw
  | queueEnable => exact execQueueEnable_wf h hw
  | deepShareInterval => exact wf_of_mem (by simp [execDeepShareInterval_kept h]) hw
  | consume => exact wf_of_mem (by simp [execConsume_kept h]) hw
  | flush => exact wf_of_mem (by simp [execFlush_kept h]) hw
  | statusReset => exact wf_of_mem (by simp [execStatusReset_kept h]) hw
  | entryRead => exact wf_of_mem (by simp [execEntryRead_kept h]) hw
  | intakePacket => exact wf_of_mem (by simp [execIntakePacket_kept h]) hw
  | mergeWaitExpiry => exact wf_of_mem (by simp [execMergeWaitExpiry_kept h]) hw
  | legTimeout => exact wf_of_mem (by simp [execLegTimeout_kept h]) hw
  | pictureTimeout => exact wf_of_mem (by simp [execPictureTimeout_kept h]) hw
  | missingPicture => exact wf_of_mem (by simp [execMissingPicture_kept h]) hw
  | auSlotEnd => exact wf_of_mem (by simp [execAuSlotEnd_kept h]) hw
  | feedLineRead => exact wf_of_same (by simp [execFeedLineRead_kept h]) (by simp [execFeedLineRead_kept h]) hw
  | pendingTake => exact wf_of_mem (by simp [execPendingTake_kept h]) hw
  | lineAck => exact wf_of_mem (by simp [execLineAck_kept h]) hw
  | cutTo => exact execCutTo_wf h hw
  | pictureBoundary => exact wf_of_mem (by simp [execPictureBoundary_kept h]) hw
  | outtakeRowRead => exact wf_of_mem (by simp [execOuttakeRowRead_kept h]) hw
  | wordIssue => exact wf_of_same (by simp [execWordIssue_kept h]) (by simp [execWordIssue_kept h]) hw
  | wordRetire => exact wf_of_same (by simp [execWordRetire_kept h]) (by simp [execWordRetire_kept h]) hw
  | waitMet => exact wf_of_mem (by simp [execWaitMet_kept h]) hw
  | waitTimeout => exact wf_of_same (by simp [execWaitTimeout_kept h]) (by simp [execWaitTimeout_kept h]) hw
  | trapReq => exact wf_of_mem (by simp [execTrapReq_kept h]) hw
  | patchLoad => exact execPatchLoad_wf h hw
  | sleepDelayExpiry => exact wf_of_mem (by simp [execSleepDelayExpiry_kept h]) hw
  | sleepDone => exact wf_of_mem (by simp [execSleepDone_kept h]) hw
  | wake => exact wf_of_mem (by simp [execWake_kept h]) hw
  | sleep => exact wf_of_mem (by simp [execSleep_kept h]) hw
  | powerReq => exact execPowerReq_wf h hw
  | wakeDone => exact wf_of_mem (by simp [execWakeDone_kept h]) hw
  | run => exact execRun_wf h hw
  | admitSlot => exact execAdmit_wf h hw
  | streamAdmitted => exact wf_of_mem (by simp [execStreamAdmitted_kept h]) hw
  | periodChange => exact wf_of_mem (by simp [execPeriodChange_kept h]) hw
  | slotGrant => exact execSlotGrant_wf h hw
  | sieveCopyArrive => exact wf_of_mem (by simp [execSieveCopyArrive_kept h]) hw
  | sieveWindowClose => exact wf_of_mem (by simp [execSieveWindowClose_kept h]) hw
  | retrialChoice => exact wf_of_mem (by simp [execRetrialChoice_kept h]) hw
  | voteTimeout => exact wf_of_mem (by simp [execVoteTimeout_kept h]) hw
  | doubleFaultRestart => exact wf_of_mem (by simp [execDoubleFaultRestart_kept h]) hw
  | excuseTimeout => exact wf_of_mem (by simp [execExcuseTimeout_kept h]) hw
  | scionChoice => exact wf_of_mem (by simp [execScionChoice_kept h]) hw
  | transplantEnd => exact wf_of_same (by simp [execTransplantEnd_kept h]) (by simp [execTransplantEnd_kept h]) hw
  | cuttingBoundary => exact wf_of_mem (by simp [execCuttingBoundary_kept h]) hw
  | probationEnd => exact wf_of_mem (by simp [execProbationEnd_kept h]) hw
  | exposureLimit => exact wf_of_mem (by simp [execExposureLimit_kept h]) hw
  | bedUnitReset => exact wf_of_same (by simp [execBedUnitReset_kept h]) (by simp [execBedUnitReset_kept h]) hw
  | cuttingCompare => exact wf_of_mem (by simp [execCuttingCompare_kept h]) hw
  | sparePool => exact execSparePool_wf h hw
  | peer => exact execPeer_wf h hw
  | almanacMessage => exact execAlmanacMessage_wf h hw
  | identifyRequest => exact wf_of_mem (by simp [execIdentifyRequest_kept h]) hw
  | go => exact execGo_wf h hw
  | ack => exact wf_of_mem (by simp [execAck_kept h]) hw
  | gapTimeout => exact wf_of_mem (by simp [execGapTimeout_kept h]) hw
  | read => exact execRead_wf h hw
  | write => exact execWrite_wf h hw
  | writeStaged => exact execWriteStaged_wf h hw
  | stage => exact execStage_wf h hw
  | clearStage => exact execClearStage_wf h hw
  | addressChangeEffect => exact wf_of_mem (by simp [execAddressChangeEffect_kept h]) hw
  | key => exact execKey_wf h hw
  | keyGraceEnd => exact wf_of_mem (by simp [execKeyGraceEnd_kept h]) hw
  | registerWrite => exact execRegisterWrite_wf h hw
  | bitAliasWrite => exact execBitAliasWrite_wf h hw
  | doorbell => exact wf_of_mem (by simp [execDoorbell_kept h]) hw
  | acquire => exact wf_of_same (by simp [execAcquire_kept h]) (by simp [execAcquire_kept h]) hw
  | release => exact wf_of_same (by simp [execRelease_kept h]) (by simp [execRelease_kept h]) hw
  | reset => exact execReset_wf h hw
  | pcieLinkReset => exact execPcieLinkReset_wf h hw
  | voteScrub => exact wf_of_mem (by simp [execVoteScrub_kept h]) hw
  | claim => exact wf_of_mem (by simp [execClaim_kept h]) hw
  | complete => exact wf_of_mem (by simp [execComplete_kept h]) hw
  | sourceClear => exact wf_of_mem (by simp [execSourceClear_kept h]) hw
  | msixUnmask => exact wf_of_mem (by simp [execMsixUnmask_kept h]) hw
  | msixEnable => exact wf_of_mem (by simp [execMsixEnable_kept h]) hw
  | shedClaim => exact wf_of_same (by simp [execShedClaim_kept h]) (by simp [execShedClaim_kept h]) hw
  | scrub => exact wf_of_same (by simp [execScrub_kept h]) (by simp [execScrub_kept h]) hw
  | logClear => exact execLogClear_wf h hw
  | opPoint => exact execOpPoint_wf h hw
  | pllLock => exact wf_of_mem (by simp [execPllLock_kept h]) hw
  | opChangeStart => exact wf_of_same (by simp [execOpChangeStart_kept h]) (by simp [execOpChangeStart_kept h]) hw
  | stackHold => exact wf_of_same (by simp [execStackHold_kept h]) (by simp [execStackHold_kept h]) hw
  | opChangeDone => exact wf_of_same (by simp [execOpChangeDone_kept h]) (by simp [execOpChangeDone_kept h]) hw
  | opChangeTimeout => exact wf_of_same (by simp [execOpChangeTimeout_kept h]) (by simp [execOpChangeTimeout_kept h]) hw
  | start => exact execStart_wf h hw
  | disable => exact execDisable_wf h hw
  | disableClear => exact wf_of_same (by simp [execDisableClear_kept h]) (by simp [execDisableClear_kept h]) hw
  | dmaRequestDone => exact execDmaRequestDone_wf h hw
  | dmaRequestFail => exact execDmaRequestFail_wf h hw
  | faultRaise => exact wf_of_same (by simp [execFaultRaise_kept h]) (by simp [execFaultRaise_kept h]) hw
  | faultCauseGone => exact wf_of_mem (by simp [execFaultCauseGone_kept h]) hw
  | force => exact execForce_wf h hw
  | classSet => exact execClass_wf h hw
  | recordClear => exact execRecordClear_wf h hw
  | unitReset => exact execUnitReset_wf h hw
  | unitResetEnd => exact wf_of_same (by simp [execUnitResetEnd_kept h]) (by simp [execUnitResetEnd_kept h]) hw
  | injectEnable => exact execInjectEnable_wf h hw
  | alertSw => exact execAlertSw_wf h hw
  | aliveTick => exact wf_of_mem (by simp [execAliveTick_kept h]) hw
  | alertPulseEnd => exact wf_of_mem (by simp [execAlertPulseEnd_kept h]) hw
  | calStart => exact execCalStart_wf h hw
  | pairMeasureDone => exact wf_of_same (by simp [execPairMeasureDone_kept h]) (by simp [execPairMeasureDone_kept h]) hw
  | alignTimeout => exact wf_of_mem (by simp [execAlignTimeout_kept h]) hw
  | sensorCalDone => exact wf_of_mem (by simp [execSensorCalDone_kept h]) hw
  | epoch => exact execEpoch_wf h hw
  | trimEpoch => exact wf_of_mem (by simp [execTrimEpoch_kept h]) hw
  | discard => exact execDiscard_wf h hw
  | trimSet => exact execTrimSet_wf h hw
  | trimRestore => exact execTrimRestore_wf h hw
  | soilTestStart => exact wf_of_mem (by simp [execSoilTestStart_kept h]) hw
  | soilTestEnd => exact wf_of_same (by simp [execSoilTestEnd_kept h]) (by simp [execSoilTestEnd_kept h]) hw
  | retest => exact execRetest_wf h hw
  | counterSel => exact execCounterSel_wf h hw
  | freeze => exact execFreeze_wf h hw
  | snapshot => exact execSnapshot_wf h hw
  | bedCounterOverflow => exact wf_of_mem (by simp [execBedCounterOverflow_kept h]) hw
  | harvestInstant => exact wf_of_mem (by simp [execHarvestInstant_kept h]) hw
  | harvestComplete => exact wf_of_mem (by simp [execHarvestComplete_kept h]) hw
  | harvestList => exact execHarvestList_wf h hw
  | histClear => exact execHistClear_wf h hw
  | meterSend => exact wf_of_mem (by simp [execMeterSend_kept h]) hw
  | meterMissing => exact wf_of_mem (by simp [execMeterMissing_kept h]) hw
  | gaugeTime => exact wf_of_mem (by simp [execGaugeTime_kept h]) hw
  | gaugeTimeFree => exact wf_of_mem (by simp [execGaugeTimeFree_kept h]) hw
  | gaugeBoundary => exact wf_of_mem (by simp [execGaugeBoundary_kept h]) hw
  | gaugeClose => exact wf_of_mem (by simp [execGaugeClose_kept h]) hw
  | gaugeRecordSend => exact wf_of_mem (by simp [execGaugeRecordSend_kept h]) hw
  | gaugeReplay => exact wf_of_mem (by simp [execGaugeReplay_kept h]) hw
  | sealOpen => exact wf_of_same (by simp [execSealOpen_kept h]) (by simp [execSealOpen_kept h]) hw
  | rgKeepReturn => exact wf_of_same (by simp [execRgKeepReturn_kept h]) (by simp [execRgKeepReturn_kept h]) hw
  | interval => exact execInterval_wf h hw
  | tariff => exact execTariff_wf h hw
  | record => exact execRecord_wf h hw
  | feedInRange => exact wf_of_mem (by simp [execFeedInRange_kept h]) hw
  | feedOutOfRange => exact wf_of_same (by simp [execFeedOutOfRange_kept h]) (by simp [execFeedOutOfRange_kept h]) hw
  | switchback => exact wf_of_mem (by simp [execSwitchback_kept h]) hw
  | feedsLost => exact wf_of_mem (by simp [execFeedsLost_kept h]) hw
  | mainFeed => exact execMainFeed_wf h hw
  | phaseFail => exact wf_of_same (by simp [execPhaseFail_kept h]) (by simp [execPhaseFail_kept h]) hw
  | keepLoss => exact wf_of_mem (by simp [execKeepLoss_kept h]) hw
  | tempWarnCross => exact wf_of_mem (by simp [execTempWarnCross_kept h]) hw
  | thermalTrip => exact wf_of_mem (by simp [execThermalTrip_kept h]) hw
  | lifeHour => exact wf_of_mem (by simp [execLifeHour_kept h]) hw
  | gpiChange => exact wf_of_mem (by simp [execGpiChange_kept h]) hw
  | set => exact execSet_wf h hw
  | gpoApply => exact wf_of_mem (by simp [execGpoApply_kept h]) hw
  | gpoFailsafe => exact wf_of_mem (by simp [execGpoFailsafe_kept h]) hw
  | timingEdge => exact wf_of_same (by simp [execTimingEdge_kept h]) (by simp [execTimingEdge_kept h]) hw
  | refInputLost => exact wf_of_same (by simp [execRefInputLost_kept h]) (by simp [execRefInputLost_kept h]) hw
  | barrierMessageError => exact wf_of_same (by simp [execBarrierMessageError_kept h]) (by simp [execBarrierMessageError_kept h]) hw
  | refclkWindow => exact wf_of_same (by simp [execRefclkWindow_kept h]) (by simp [execRefclkWindow_kept h]) hw
  | cfSource => exact execCfSource_wf h hw
  | blockWakeDone => exact wf_of_mem (by simp [execBlockWakeDone_kept h]) hw
  | ptpSync => exact wf_of_mem (by simp [execPtpSync_kept h]) hw
  | announce => exact wf_of_mem (by simp [execAnnounce_kept h]) hw
  | announceTimeout => exact wf_of_mem (by simp [execAnnounceTimeout_kept h]) hw
  | delayReq => exact wf_of_mem (by simp [execDelayReq_kept h]) hw
  | holdoverSpecExpiry => exact wf_of_mem (by simp [execHoldoverSpecExpiry_kept h]) hw
  | timeSet => exact execTimeSet_wf h hw
  | powerUp => exact execPowerUp_wf h hw
  | memoryTrainingDone => exact wf_of_same (by simp [execMemoryTrainingDone_kept h]) (by simp [execMemoryTrainingDone_kept h]) hw
  | trimsRestored => exact wf_of_mem (by simp [execTrimsRestored_kept h]) hw
  | pipelineRelease => exact wf_of_mem (by simp [execPipelineRelease_kept h]) hw
  | almanacLive => exact wf_of_mem (by simp [execAlmanacLive_kept h]) hw
  | fullReadiness => exact wf_of_mem (by simp [execFullReadiness_kept h]) hw
  | perstRelease => exact wf_of_mem (by simp [execPerstRelease_kept h]) hw
  | rgKeepLoss => exact wf_of_mem (by simp [execRgKeepLoss_kept h]) hw
  | hedgeVLoss => exact wf_of_mem (by simp [execHedgeVLoss_kept h]) hw
  | dorsenRuns => exact wf_of_mem (by simp [execDorsenRuns_kept h]) hw
  | ptpManagement => exact wf_of_mem (by simp [execPtpManagement_kept h]) hw
  | syncAndAnnounceSend => exact wf_of_mem (by simp [execSyncAndAnnounceSend_kept h]) hw
  | configurationRequest => exact wf_of_mem (by simp [execConfigurationRequest_kept h]) hw

/-- Settles O1: both arms of the step. -/
theorem stepRunsFrontCommand : Obligations.StepRunsFrontCommand := by
  unfold Obligations.StepRunsFrontCommand
  exact fun c q s => ⟨rfl, rfl⟩

/-- Settles O2: every field of the reset state reads the value that its table or record starts with. -/
theorem resetState : Obligations.ResetState := by
  unfold Obligations.ResetState
  refine ⟨rfl, rfl, rfl, rfl, fun _ => rfl, fun _ => rfl, rfl, rfl, rfl, fun _ => rfl, fun _ _ => ⟨rfl, rfl⟩, rfl,
    fun _ => ⟨rfl, rfl⟩, rfl, fun _ _ => rfl, fun _ => rfl, fun _ => rfl, rfl, rfl, rfl, rfl⟩

/-- Settles O3: a command that names units of the block completes and does not touch the queue. -/
theorem commandsComplete : Obligations.CommandsComplete := by
  unfold Obligations.CommandsComplete
  intro c s
  obtain ⟨u, hu⟩ := exec_eq_onUnit c s
  refine ⟨fun hwf => ?named, fun hwf => ?unnamed⟩
  case named =>
    have hnext : exec c s = .next u := hu.trans (onUnit_next.2 ⟨hwf, rfl⟩)
    exact ⟨u, hnext, exec_pending hnext⟩
  case unnamed => rw [hu, hwf]; rfl

/-- Settles O4: an idle step changes nothing, and any other is a command on the state with the rest of the queue. -/
theorem exchangeStaysCanonical : Obligations.ExchangeStaysCanonical := by
  unfold Obligations.ExchangeStaysCanonical
  intro s u hw hstep
  unfold step at hstep
  split at hstep
  case h_1 => exact Host.Outcome.next.inj hstep ▸ hw
  case h_2 c rest _ => exact exec_wf (s := { s with pending := rest }) hstep hw

end Sys2Proof.Machine
end

section
/-! PROOFS. Numbers that the Almanac takes at once (11), and the states of the field ports (02): ENABLE and BREAKOUT (R36,
R42, R44), loss of signal, alignment, FEC intervals and PFC pauses (R38, R42, R43, R388). -/

namespace Sys2Proof.Machine

/-! ## Loops -/

/-- What no step of a loop changes, the loop does not change. -/
theorem foldl_keeps {σ α β : Type} (R : σ → β) (f : σ → α → σ) (l : List α) (h : ∀ s, ∀ x ∈ l, R (f s x) = R s) (s : σ) :
    R (l.foldl f s) = R s := by
  induction l generalizing s with
  | nil => rfl
  | cons x r ih =>
    rw [List.foldl_cons, ih (fun s y hy => h s y (List.mem_cons_of_mem x hy)), h s x List.mem_cons_self]

/-- A loop over distinct keys, each step of which changes its own key of a reading by `g`, under an invariant `I`. -/
theorem foldl_pointwise {σ β : Type} (R : σ → Nat → β) (f : σ → Nat → σ) (g : Nat → β → β) (I : σ → Prop)
    (hI : ∀ s x, I s → I (f s x)) (hself : ∀ s x, I s → R (f s x) x = g x (R s x))
    (hother : ∀ s x k, k ≠ x → R (f s x) k = R s k) {l : List Nat} (hl : l.Nodup) {s : σ} (hs : I s) {k : Nat}
    (hk : k ∈ l) : R (l.foldl f s) k = g k (R s k) := by
  induction l generalizing s with
  | nil => exact absurd hk List.not_mem_nil
  | cons x r ih =>
    obtain ⟨hx, hr⟩ := List.nodup_cons.1 hl
    rw [List.foldl_cons]
    rcases List.mem_cons.1 hk with rfl | hk'
    · rw [foldl_keeps (R · k) f r (fun s y hy => hother s y k (fun h => hx (h ▸ hy))), hself s k hs]
    · rw [ih hr (hI s x hs) hk', hother s x k (fun h => hx (h ▸ hk'))]

/-! ## What an accepted write leaves -/

section
variable {u v : State} {e : Nat} (h : accepted u v e)
include h

theorem accepted_answer : v.answer = { status := 0, effectAt := e, data := [] } := by rw [h]

/-- The parts that the notes of a slot and the answer leave alone. -/
theorem accepted_kept : v.now = u.now ∧ v.pending = u.pending ∧ v.emits = u.emits ∧ v.fresh = u.fresh ∧
    v.links = u.links ∧ v.shed = u.shed ∧ v.copy = u.copy ∧ v.fwd = u.fwd ∧ v.rings = u.rings ∧ v.str = u.str ∧
    v.egr = u.egr ∧ v.allots = u.allots ∧ v.irq = u.irq ∧ v.mem = u.mem ∧ v.flt = u.flt ∧ v.cal = u.cal ∧
    v.gauge = u.gauge ∧ v.mod = u.mod ∧ v.clk = u.clk ∧ v.boot = u.boot ∧ v.alm.store = u.alm.store := by
  rw [h]; simp

theorem accepted_cfg (fam inst mem : Nat) : v.cfg fam inst mem = u.cfg fam inst mem := by
  simp [State.cfg, accepted_kept h]

theorem accepted_cfgN (fam inst mem : Nat) : v.cfgN fam inst mem = u.cfgN fam inst mem := by
  simp [State.cfgN, accepted_cfg h]

theorem accepted_port (k : Nat) : v.port k = u.port k := by simp [State.port, accepted_kept h]

end

/-! ## Numbers in their range -/

/-- An accepted write of a number in the one range of its entry, of an entry that is not a stream's. -/
theorem row_number_inRange {s : State} {t a fam inst mem w v : Nat} {sp : Space} {n : Nat} {r : Row} {lo hi : Int}
    (h : takesAtOnce s t a) (hw : mayWrite s a fam inst mem) (hs : spaceOf fam inst = some (sp, n))
    (hr : entryRow sp n mem = some r) (hp : sp ≠ .encode ∧ sp ≠ .decode ∧ sp ≠ .ladder)
    (hm : mem ≠ 0) (hstr : r.struct = false) (hty : r.ty = .u w) (hv : v < 256 ^ w)
    (hl : (s.at t).legalNow sp n mem r = [(lo, hi)]) (hlo : lo ≤ v) (hhi : (v : Int) ≤ hi)
    (hc : creditOf fam inst mem = none) (hk : ¬ (sp = .clock ∧ mem = 0x1D)) {e : Nat} {u : State}
    (hu : (s.at t).writeNumber a fam inst mem sp n r v = (0, e, u)) :
    accepted u ((s.at t).orderNumber a fam inst mem w v) e := by
  refine row_number h hw hs hr hp hm hstr hty hv ?ranges ?nearest hc hk hu
  case ranges => simp only [hl, List.mem_singleton, forall_eq]; omega
  case nearest => simp only [hl, List.isEmpty_cons, Bool.false_eq_true, if_false, nearest_self hlo hhi]

/-- The bytes of a number that fits its type (R288). -/
theorem Ty.encode_u {w v : Nat} (hv : v < 256 ^ w) : (Ty.u w).encode (v : Int) = natLe w v := by
  have hpow : 2 ^ (8 * w) = 256 ^ w := by rw [Nat.pow_mul]
  rw [Ty.encode, Ty.width, ofSigned, hpow, ← Int.natCast_mod, Int.toNat_natCast, Nat.mod_eq_of_lt hv]

/-! ## States of a port -/

@[simp] theorem State.port_signalFault (s : State) (lp k : Nat) (old new : PortState) :
    (s.signalFault lp old new).port k = s.port k := by
  unfold State.signalFault; split <;> rfl

/-- A port is put into a state; every other keeps its own. -/
@[simp] theorem State.port_setPort (s : State) (lp k : Nat) (st : PortState) :
    (s.setPort lp st).port k = if k = lp then { s.port lp with st := st } else s.port k := by
  unfold State.setPort
  split
  case isTrue h =>
    subst h
    split
    · next hk => rw [hk]
    · rfl
  case isFalse => simp

theorem State.raise_frame (s : State) (n : Nat) :
    s.raise n = { s with irq := (s.raise n).irq, allots := (s.raise n).allots, emits := (s.raise n).emits } :=
  State.parts.2 (by simp [State.raise_kept ..])

theorem State.setPort_frame (s : State) (lp : Nat) (st : PortState) : s.setPort lp st =
    { s with fwd := (s.setPort lp st).fwd, irq := (s.setPort lp st).irq, allots := (s.setPort lp st).allots,
             emits := (s.setPort lp st).emits } := State.parts.2 (by simp [State.setPort_kept ..])

/-! ## Events of a port (R38, R42, R43, R388) -/

/-- What an event of a port may change besides the port: the interrupts and what leaves the block. -/
structure PortMoved (s u : State) (lp : Nat) (p : Port) : Prop where
  port : u.port lp = p
  others : ∀ k, k ≠ lp → u.port k = s.port k
  frame : u = { s with fwd := u.fwd, irq := u.irq, allots := u.allots, emits := u.emits }

section
variable {s u : State} {lp : Nat} {p q : Port}

theorem PortMoved.refl (s : State) (lp : Nat) : PortMoved s s lp (s.port lp) := ⟨rfl, fun _ _ => rfl, rfl⟩

theorem PortMoved.modPort (h : PortMoved s u lp p) {f : Port → Port} (hf : f p = q) :
    PortMoved s (u.modPort lp f) lp q where
  port := by rw [State.port_modPort, if_pos rfl, h.port, hf]
  others k hk := by rw [State.port_modPort, if_neg hk, h.others k hk]
  frame := congrArg (fun v : State => { v with fwd := (u.modPort lp f).fwd }) h.frame

theorem PortMoved.setPort (h : PortMoved s u lp p) (st : PortState) :
    PortMoved s (u.setPort lp st) lp { p with st := st } where
  port := by rw [State.port_setPort, if_pos rfl, h.port]
  others k hk := by rw [State.port_setPort, if_neg hk, h.others k hk]
  frame := by
    have hu := u.setPort_frame lp st
    generalize u.setPort lp st = v at hu ⊢
    rw [hu, h.frame]

theorem PortMoved.countPort (h : PortMoved s u lp p) (f : PortCounts → PortCounts) :
    PortMoved s (u.countPort lp f) lp (if s.inUse lp then { p with cnt := f p.cnt } else p) := by
  have hu : u.inUse lp = s.inUse lp := by rw [h.frame]; rfl
  unfold State.countPort
  rw [hu]
  split
  · exact h.modPort rfl
  · exact h

theorem PortMoved.cfgN (h : PortMoved s u lp p) (fam inst mem : Nat) : u.cfgN fam inst mem = s.cfgN fam inst mem := by
  rw [h.frame]; rfl

theorem PortMoved.now (h : PortMoved s u lp p) : u.now = s.now := by rw [h.frame]

theorem PortMoved.cast (h : PortMoved s u lp p) (he : p = q) : PortMoved s u lp q := he ▸ h

end

/-- A port that no calibration holds leaves LISTEN and FORWARDING for DOWN (R42, R388). -/
theorem State.portLost_moved (s : State) (lp : Nat) : PortMoved s (s.portLost lp) lp
    (let p := s.port lp
     let down := p.interruptedTo = 0 ∧ (p.st = .listen ∨ p.st = .forwarding)
     { p with aligned := false, st := if down then .down else p.st }) := by
  have h := (PortMoved.refl s lp).modPort (f := fun p => { p with aligned := false }) rfl
  have hp := h.port
  unfold State.portLost
  dsimp only
  by_cases hi : (s.port lp).interruptedTo = 0
  · rw [if_neg (by rw [hp]; simpa using hi)]
    split <;> rename_i hst <;> rw [hp] at hst
    · exact (h.setPort .down).cast (by simp_all)
    · exact (h.setPort .down).cast (by simp_all)
    · exact h.cast (by simp_all)
  · rw [if_pos (by rw [hp]; exact hi)]
    exact h.cast (by simp [hi])

theorem State.portAligned_moved (s : State) (lp : Nat) : PortMoved s (s.portAligned lp) lp
    (let p := s.port lp
     let q := { p with aligned := true, interruptedTo := 0 }
     if p.st = .down then { q with st := .listen, listenSince := s.now } else q) := by
  have h := (PortMoved.refl s lp).modPort (f := fun p => { p with aligned := true, interruptedTo := 0 }) rfl
  unfold State.portAligned
  simp only [h.port]
  split
  · exact (h.modPort rfl).setPort .listen
  · exact h

@[simp] theorem State.pipe_modPort (s : State) (lp k : Nat) (f : Port → Port) : (s.modPort lp f).pipe k = s.pipe k := rfl

@[simp] theorem State.pipe_countPort (s : State) (lp k : Nat) (f : PortCounts → PortCounts) :
    (s.countPort lp f).pipe k = s.pipe k := by
  unfold State.countPort; split <;> rfl

/-- The end of an interval that is judged (R43). -/
theorem State.fecEnd_moved {s : State} {lp : Nat} (c n : Nat) (ht : s.now % 1000000 = 0)
    (hst : (s.port lp).st = .listen ∨ (s.port lp).st = .forwarding) : PortMoved s (s.fecEnd lp c n) lp
    (let p := s.port lp
     let q := if s.inUse lp then { p with cnt := { p.cnt with uncorrectable := add64 p.cnt.uncorrectable n } } else p
     let clean := n = 0 ∧ c ≤ s.cfgN 0x10 lp 0x06
     let goes := p.st = .listen ∧ p.listenSince + 1000000 ≤ s.now ∧ (s.pipe (lp / 128)).released = true
     if clean then { q with lastClean := s.now, st := if goes then .forwarding else p.st } else q) := by
  have hdue : ¬(s.now % 1000000 ≠ 0 ∨ ((s.port lp).st ≠ .listen ∧ (s.port lp).st ≠ .forwarding)) := by
    rcases hst with hst | hst <;> simp [ht, hst]
  have h := (PortMoved.refl s lp).countPort (fun c => { c with uncorrectable := add64 c.uncorrectable n })
  have hclean := h.modPort (f := fun p => { p with lastClean := s.now }) rfl
  have hst' : (if s.inUse lp then { s.port lp with cnt :=
      { (s.port lp).cnt with uncorrectable := add64 (s.port lp).cnt.uncorrectable n } } else s.port lp).st =
        (s.port lp).st := by split <;> rfl
  unfold State.fecEnd
  simp only [if_neg hdue, h.cfgN, h.now, hclean.now, State.pipe_modPort, State.pipe_countPort, plOf]
  generalize (if s.inUse lp then _ else _ : Port) = q at h hclean hst' ⊢
  by_cases hc : n = 0 ∧ c ≤ s.cfgN 0x10 lp 0x06
  · simp only [if_pos hc]
    split
    · exact hclean.setPort .forwarding
    · exact hclean.cast (by rw [← hst'])
  · simp only [if_neg hc]
    exact h

theorem State.fecEnd_of_unjudged {s : State} {lp : Nat} (c n : Nat)
    (h : s.now % 1000000 ≠ 0 ∨ ((s.port lp).st ≠ .listen ∧ (s.port lp).st ≠ .forwarding)) : s.fecEnd lp c n = s :=
  if_pos h

/-! ## The commands -/

section
variable {lp : Nat} (t : Nat) (s : State) (h : lp < 1024)
include h

theorem exec_signalLoss : exec (.signalLoss t lp) s = .next ((s.at t).portLost lp) := if_pos (decide_eq_true h)

theorem exec_fecAligned : exec (.fecAligned t lp) s = .next ((s.at t).portAligned lp) := if_pos (decide_eq_true h)

theorem exec_fecIntervalEnd (c n : Nat) : exec (.fecIntervalEnd t lp c n) s = .next ((s.at t).fecEnd lp c n) :=
  if_pos (decide_eq_true h)

theorem exec_pfcPauseEnd {c : Nat} (hc : c < 8) : exec (.pfcPauseEnd t lp c) s = .next ((s.at t).pfcEnd lp c) :=
  if_pos (by simp [isLp, isPfcClass, h, hc])

end

/-- Settles O8: each event moves its port as the model's rule for it says. -/
theorem portEvents : Obligations.PortEvents := by
  unfold Obligations.PortEvents
  intro s t lp hlp
  refine ⟨?loss, ?aligned, ?unjudged, ?judged, ?pfc⟩
  case loss =>
    have h := (s.at t).portLost_moved lp
    exact ⟨_, exec_signalLoss t s hlp, h.port, h.others, h.frame⟩
  case aligned =>
    have h := (s.at t).portAligned_moved lp
    exact ⟨_, exec_fecAligned t s hlp, h.port, h.others, h.frame⟩
  case unjudged =>
    intro c n h
    rw [exec_fecIntervalEnd t s hlp, State.fecEnd_of_unjudged (s := s.at t) c n h]
  case judged =>
    intro c n ht hst
    have h := State.fecEnd_moved (s := s.at t) c n ht hst
    exact ⟨_, exec_fecIntervalEnd t s hlp c n, h.port, h.others, h.frame⟩
  case pfc =>
    intro c hc
    have h := (PortMoved.refl (s.at t) lp).modPort (f := fun p =>
      { p with paused := p.paused.filter (fun x => !(decide (x.1 / 2 = c) && decide (x.2 ≤ t))) }) rfl
    exact ⟨_, exec_pfcPauseEnd t s hlp hc, h.port, h.others, rfl⟩

/-! ## ENABLE and BREAKOUT (R36, R42, R44) -/

theorem spaceOf_lport {lp : Nat} (h : lp < 1024) : spaceOf 0x10 lp = some (.lport, lp) := by
  have hle : lp ≤ 0x3FF := by omega
  simp [spaceOf, spacesOf, hle]

/-- The row of ENABLE (Table 02.8). -/
def enableRow : Row := { m0 := 0x02, m1 := 0x02, ty := .u 1, acc := 15, legal := [(0, 1)] }
/-- The row of BREAKOUT (Table 02.8). -/
def breakoutRow : Row := { m0 := 0x01, m1 := 0x01, ty := .u 1, acc := 7, legal := [(0, 4)] }

theorem entryRow_enable (lp : Nat) : entryRow .lport lp 0x02 = some enableRow := rfl

theorem entryRow_breakout (fp : Nat) : entryRow .lport (16 * fp) 0x01 = some breakoutRow := by
  simp [entryRow, Nat.mul_mod_right]; rfl

@[simp] theorem State.port_regate (s : State) (lp k : Nat) : (s.regate lp).port k = s.port k := by
  simp [State.port, State.regate_kept ..]

@[simp] theorem State.port_judgeAll (s : State) (k : Nat) : s.judgeAll.port k = s.port k := by
  simp [State.port, State.judgeAll_kept ..]

@[simp] theorem State.port_setCfg (s : State) (f i m : Nat) (b : List Byte) (k : Nat) :
    (s.setCfg f i m b).port k = s.port k := rfl

theorem State.cfgN_of_store {s u : State} (h : u.alm.store = s.alm.store) (f i m : Nat) : u.cfgN f i m = s.cfgN f i m := by
  simp [State.cfgN, State.cfg, h]

/-- A change of ENABLE: the port goes where it rests, but for a PRUNED one and one that is up already (R42, R44). -/
theorem State.enableChanged_moved (s : State) (lp : Nat) : PortMoved s (s.enableChanged lp) lp
    { s.port lp with st :=
        if (s.port lp).st = .pruned then .pruned
        else if s.restingPort lp = .disabled then .disabled
        else if (s.port lp).st = .disabled then .down else (s.port lp).st } := by
  have h := PortMoved.refl s lp
  unfold State.enableChanged
  split
  · next hp => exact h.cast (by rw [← hp])
  · split
    · exact h.setPort .disabled
    · split
      · exact h.setPort .down
      · exact h

/-- A port rests in DISABLED when it is not in use or not enabled (R42). -/
theorem State.restingPort_eq_disabled (s : State) (lp : Nat) :
    s.restingPort lp = .disabled ↔ s.inUse lp = false ∨ s.portEnabled lp = false := by
  unfold State.restingPort
  cases s.inUse lp <;> cases s.portEnabled lp <;> simp

theorem State.cfg_setCfg_of_ne (s : State) {f i m g j n : Nat} (v : List Byte) (h : entryKey g j n ≠ entryKey f i m) :
    (s.setCfg f i m v).cfg g j n = s.cfg g j n := by
  rw [State.cfg_setCfg, if_neg h]

theorem State.cfgN_setCfg_of_ne (s : State) {f i m g j n : Nat} (v : List Byte) (h : entryKey g j n ≠ entryKey f i m) :
    (s.setCfg f i m v).cfgN g j n = s.cfgN g j n := congrArg leNat (s.cfg_setCfg_of_ne v h)

theorem State.inUse_of_breakout {s u : State} {k : Nat} (h : u.breakoutOf (fpOf k) = s.breakoutOf (fpOf k)) :
    u.inUse k = s.inUse k := congrArg (fun c => decide (k % 16 < 2 ^ c)) h

theorem State.inUse_setCfg_enable (s : State) {lp k : Nat} (b : List Byte) :
    (s.setCfg 0x10 lp 0x02 b).inUse k = s.inUse k :=
  State.inUse_of_breakout (s.cfgN_setCfg_of_ne b (by simp only [entryKey]; omega))

theorem leNat_one {v : Nat} (hv : v < 256) : leNat (natLe 1 v) = v := by
  rw [leNat_natLe]; omega

theorem exec_enable (t a v : Nat) (s : State) {lp : Nat} (ha : a < 16) (hlp : lp < 1024) :
    exec (.enable t a lp v) s = .next ((s.at t).orderNumber a 0x10 lp 0x02 1 v) :=
  (if_pos (decide_eq_true ha)).trans (by simp [named, isLp, hlp])

theorem exec_breakout (t a c : Nat) (s : State) {fp : Nat} (ha : a < 16) (hfp : fp < 64) :
    exec (.breakout t a fp c) s = .next ((s.at t).orderNumber a 0x10 (16 * fp) 0x01 1 c) :=
  (if_pos (decide_eq_true ha)).trans (by simp [named, hfp])

theorem creditOf_lport {inst mem : Nat} (h : inst < 1024) : creditOf 0x10 inst mem = none := by
  simp [creditOf]; omega

/-- What a write of ENABLE leaves, before the notes of the slot. -/
def State.enabledAs (s : State) (lp v : Nat) : State :=
  (((s.setCfg 0x10 lp 0x02 (natLe 1 v)).enableChanged lp).regate lp).judgeAll

theorem State.writeNumber_enable (s : State) (a lp : Nat) {v : Nat} (hv : v < 256) :
    s.writeNumber a 0x10 lp 0x02 .lport lp enableRow v = (0, s.now, s.enabledAs lp v) := by
  have hnow : (s.enabledAs lp v).now = s.now := by
    simp [State.enabledAs, State.judgeAll_kept .., State.regate_kept .., State.enableChanged_kept .., State.setCfg]
  have hb : enableRow.ty.encode v = natLe 1 v := Ty.encode_u (by simpa using hv)
  rw [← hnow, State.enabledAs, ← hb]
  rfl

theorem exec_enable_accepted {s : State} {t a lp v : Nat} (ha : a < 16) (hs : takesAtOnce s t a) (hlp : lp < 1024)
    (hv : v < 2) (hw : mayWrite s a 0x10 lp 0x02) :
    ∃ u, exec (.enable t a lp v) s = .next u ∧ accepted ((s.at t).enabledAs lp v) u t :=
  ⟨_, exec_enable t a v s ha hlp, row_number_inRange hs hw (spaceOf_lport hlp) (entryRow_enable lp) (by simp) (by simp)
    rfl rfl (by omega) rfl (by omega) (by omega) (creditOf_lport hlp) (by simp)
    ((s.at t).writeNumber_enable a lp (by omega))⟩

theorem State.enabledAs_kept (s : State) (lp v : Nat) :
    (s.enabledAs lp v).rings = s.rings ∧ (s.enabledAs lp v).mem = s.mem ∧ (s.enabledAs lp v).gauge = s.gauge ∧
    (s.enabledAs lp v).alm = (s.setCfg 0x10 lp 0x02 (natLe 1 v)).alm := by
  simp [State.enabledAs, State.judgeAll_kept .., State.regate_kept .., State.enableChanged_kept .., State.setCfg]

theorem State.port_enabledAs (s : State) (lp v k : Nat) :
    (s.enabledAs lp v).port k = ((s.setCfg 0x10 lp 0x02 (natLe 1 v)).enableChanged lp).port k := by
  simp [State.enabledAs]

theorem State.cfgN_enabledAs (s : State) (lp : Nat) {v : Nat} (hv : v < 256) :
    (s.enabledAs lp v).cfgN 0x10 lp 0x02 = v := by
  rw [State.cfgN_of_store (s := s.setCfg 0x10 lp 0x02 (natLe 1 v)) (congrArg _ (s.enabledAs_kept lp v).2.2.2)]
  rw [State.cfgN, State.cfg_setCfg_self, leNat_one hv]

/-- Where a port rests once its ENABLE is `v`. -/
theorem State.restingPort_enabled (s : State) (lp : Nat) {v : Nat} (hv : v < 2) :
    (s.setCfg 0x10 lp 0x02 (natLe 1 v)).restingPort lp = .disabled ↔ v = 0 ∨ s.inUse lp = false := by
  have hon : (s.setCfg 0x10 lp 0x02 (natLe 1 v)).portEnabled lp = decide (v = 1) := by
    simp only [State.portEnabled, State.cfgN, State.cfg_setCfg_self, leNat_one (Nat.lt_trans hv (by decide : 2 < 256))]
  rw [State.restingPort_eq_disabled, State.inUse_setCfg_enable, hon, or_comm, decide_eq_false_iff_not]
  exact or_congr_left (by omega)

/-! ### The three loops of a breakout -/

/-- The logical ports of a field port (R34). -/
def portsOf (fp : Nat) : List Nat := (List.range 16).map (fun k => 16 * fp + k)

theorem portsOf_nodup (fp : Nat) : (portsOf fp).Nodup :=
  List.Nodup.map (fun a b (h : 16 * fp + a = 16 * fp + b) => Nat.add_left_cancel h) List.nodup_range

theorem mem_portsOf {fp k : Nat} : k ∈ portsOf fp ↔ k / 16 = fp := by
  simp only [portsOf, List.mem_map, List.mem_range]
  constructor
  · rintro ⟨j, hj, rfl⟩; omega
  · exact fun h => ⟨k % 16, by omega, by omega⟩

/-- Put a port that is not PRUNED into a state. -/
def State.holdPort (s : State) (lp : Nat) (st : PortState) : State :=
  if (s.port lp).st = .pruned then s else s.setPort lp st

theorem State.port_holdPort_other (s : State) {lp k : Nat} (st : PortState) (h : k ≠ lp) :
    (s.holdPort lp st).port k = s.port k := by
  unfold State.holdPort; split <;> simp [h]

theorem State.st_holdPort_self (s : State) (lp : Nat) (st : PortState) :
    ((s.holdPort lp st).port lp).st = if (s.port lp).st = .pruned then .pruned else st := by
  unfold State.holdPort; split <;> simp [*]

theorem State.store_holdPort (s : State) (lp : Nat) (st : PortState) : (s.holdPort lp st).alm.store = s.alm.store := by
  unfold State.holdPort; split <;> simp [State.setPort_kept ..]

theorem State.restingPort_of_store {s u : State} (h : u.alm.store = s.alm.store) (k : Nat) :
    u.restingPort k = s.restingPort k := by
  have huse : u.inUse k = s.inUse k := State.inUse_of_breakout (State.cfgN_of_store h ..)
  unfold State.restingPort State.portEnabled
  rw [huse, State.cfgN_of_store h]

theorem State.port_foldl_modQueue (s : State) (key : Nat → Nat) (g : Queue → Queue) (l : List Nat) (k : Nat) :
    (l.foldl (fun s j => s.modQueue (key j) g) s).port k = s.port k :=
  foldl_keeps (State.port · k) (fun (s : State) j => s.modQueue (key j) g) l (fun _ _ _ => rfl) s

theorem State.port_foldl_modQGroup (s : State) (key : Nat → Nat) (g : QGroup → QGroup) (l : List Nat) (k : Nat) :
    (l.foldl (fun s j => s.modQGroup (key j) g) s).port k = s.port k :=
  foldl_keeps (State.port · k) (fun (s : State) j => s.modQGroup (key j) g) l (fun _ _ _ => rfl) s

/-- Zeroing the counters of a port that is not in use leaves every other port, and every port's state. -/
theorem State.port_zeroUnused (s : State) (lp k : Nat) : ((s.zeroUnused lp).port k).st = (s.port k).st ∧
    (k ≠ lp → (s.zeroUnused lp).port k = s.port k) := by
  unfold State.zeroUnused
  split
  · exact ⟨rfl, fun _ => rfl⟩
  · have hread (u : State) (g : Gate → Gate) : (u.modGate lp g).port k = u.port k := rfl
    dsimp only
    rw [hread, State.port_foldl_modQGroup, State.port_foldl_modQueue, State.port_modPort]
    split <;> simp [*]

/-- Put a port that is not PRUNED where it rests. -/
def State.restPort (s : State) (lp : Nat) : State := s.holdPort lp (s.restingPort lp)
/-- Put a port that is not PRUNED into DISABLED. -/
def State.stopPort (s : State) (lp : Nat) : State := s.holdPort lp .disabled
/-- The state in which a new breakout comes into force: every port of the field port is stopped. -/
def State.stopped (s : State) (fp : Nat) : State := (portsOf fp).foldl State.stopPort s
/-- The new breakout is in force, and the ports that it leaves unused hold their counters at zero. -/
def State.assigned (s : State) (fp c : Nat) : State :=
  (portsOf fp).foldl State.zeroUnused ((s.stopped fp).setCfgN 0x10 (16 * fp) 0x01 1 c)

/-- What a new breakout leaves, before gates and judgements: the three loops of R36. -/
theorem State.rebreak_of_new {s : State} {fp c : Nat} (h : s.breakoutOf fp ≠ c) :
    s.rebreak fp c = (portsOf fp).foldl State.restPort (s.assigned fp c) := by
  unfold State.rebreak
  rw [if_neg h]
  rfl

theorem State.store_stopped (s : State) (fp : Nat) : (s.stopped fp).alm.store = s.alm.store := by
  rw [State.stopped, foldl_keeps (fun s : State => s.alm.store) State.stopPort _ (fun s lp _ => s.store_holdPort lp _)]

theorem State.store_assigned (s : State) (fp c : Nat) :
    (s.assigned fp c).alm.store = (s.setCfgN 0x10 (16 * fp) 0x01 1 c).alm.store := by
  rw [State.assigned, foldl_keeps (fun s : State => s.alm.store) State.zeroUnused _
    (fun s lp _ => by simp [State.zeroUnused_kept ..])]
  simp only [State.setCfgN, State.setCfg, s.store_stopped]

theorem State.st_stopped (s : State) {fp k : Nat} (hk : k / 16 = fp) :
    ((s.stopped fp).port k).st = if (s.port k).st = .pruned then .pruned else .disabled := by
  rw [State.stopped]
  exact foldl_pointwise (fun (s : State) k => (s.port k).st) State.stopPort
    (fun _ st => if st = .pruned then .pruned else .disabled) (fun _ => True)
    (fun _ _ _ => trivial) (fun s lp _ => s.st_holdPort_self lp _)
    (fun s _ _ h => congrArg Port.st (s.port_holdPort_other _ h)) (portsOf_nodup fp) trivial (mem_portsOf.2 hk)

theorem State.st_assigned (s : State) (fp c k : Nat) : ((s.assigned fp c).port k).st = ((s.stopped fp).port k).st := by
  rw [State.assigned, foldl_keeps (fun s : State => (s.port k).st) State.zeroUnused _
    (fun s lp _ => (s.port_zeroUnused lp k).1), State.setCfgN, State.port_setCfg]

section
variable {s : State} {fp c : Nat} (hnew : s.breakoutOf fp ≠ c)
include hnew

theorem State.port_rebreak_other {k : Nat} (hk : k / 16 ≠ fp) : (s.rebreak fp c).port k = s.port k := by
  have hne : ∀ lp ∈ portsOf fp, k ≠ lp := fun lp hlp h => hk (h ▸ mem_portsOf.1 hlp)
  rw [State.rebreak_of_new hnew,
    foldl_keeps (State.port · k) State.restPort _ (fun s lp hlp => s.port_holdPort_other _ (hne lp hlp)), State.assigned,
    foldl_keeps (State.port · k) State.zeroUnused _ (fun s lp hlp => (s.port_zeroUnused lp k).2 (hne lp hlp)),
    State.setCfgN, State.port_setCfg, State.stopped,
    foldl_keeps (State.port · k) State.stopPort _ (fun s lp hlp => s.port_holdPort_other _ (hne lp hlp))]

theorem State.store_rebreak : (s.rebreak fp c).alm.store = (s.setCfgN 0x10 (16 * fp) 0x01 1 c).alm.store := by
  rw [State.rebreak_of_new hnew,
    foldl_keeps (fun s : State => s.alm.store) State.restPort _ (fun s lp _ => s.store_holdPort lp _), State.store_assigned]

/-- Each port of the field port that is not PRUNED ends where it rests under the new breakout. -/
theorem State.st_rebreak {k : Nat} (hk : k / 16 = fp) : ((s.rebreak fp c).port k).st =
    if (s.port k).st = .pruned then .pruned else (s.setCfgN 0x10 (16 * fp) 0x01 1 c).restingPort k := by
  have hloop := foldl_pointwise (fun (s : State) k => (s.port k).st) State.restPort
    (fun k st => if st = .pruned then .pruned else (s.setCfgN 0x10 (16 * fp) 0x01 1 c).restingPort k)
    (fun u => u.alm.store = (s.setCfgN 0x10 (16 * fp) 0x01 1 c).alm.store)
    (fun u lp hu => (u.store_holdPort lp _).trans hu)
    (fun u lp hu => by rw [← State.restingPort_of_store hu]; exact u.st_holdPort_self lp _)
    (fun u _ _ h => congrArg Port.st (u.port_holdPort_other _ h)) (portsOf_nodup fp) (s.store_assigned fp c)
    (mem_portsOf.2 hk)
  rw [State.rebreak_of_new hnew, hloop, State.st_assigned, s.st_stopped hk]
  by_cases h : (s.port k).st = .pruned <;> simp [h]

end

/-! ### The write of BREAKOUT -/

/-- What a write of BREAKOUT leaves, before the notes of the slot. -/
def State.brokenAs (s : State) (fp c : Nat) : State :=
  ((List.range 16).foldl (fun (s : State) k => s.regate (16 * fp + k)) (s.rebreak fp c)).judgeAll

theorem State.brokenAs_kept (s : State) (fp c : Nat) :
    (s.brokenAs fp c).now = s.now ∧ (s.brokenAs fp c).fwd = (s.rebreak fp c).fwd ∧
    (s.brokenAs fp c).rings = s.rings ∧ (s.brokenAs fp c).mem = s.mem ∧ (s.brokenAs fp c).gauge = s.gauge ∧
    (s.brokenAs fp c).alm = (s.rebreak fp c).alm := by
  simp [State.brokenAs, State.judgeAll_kept .., State.regate_kept .., State.rebreak_kept ..]

theorem State.writeNumber_breakout (s : State) (a c : Nat) (fp : Nat) :
    s.writeNumber a 0x10 (16 * fp) 0x01 .lport (16 * fp) breakoutRow c = (0, s.now, s.brokenAs fp c) := by
  have hfp : fpOf (16 * fp) = fp := by simp [fpOf]
  have hdef : s.writeNumber a 0x10 (16 * fp) 0x01 .lport (16 * fp) breakoutRow c =
      (s.brokenAs (fpOf (16 * fp)) c).ok := rfl
  rw [hdef, hfp, State.ok, (s.brokenAs_kept fp c).1]

theorem exec_breakout_accepted {s : State} {t a fp c : Nat} (ha : a < 16) (hs : takesAtOnce s t a) (hfp : fp < 64)
    (hc : c < 5) (hw : mayWrite s a 0x10 (16 * fp) 0x01) :
    ∃ u, exec (.breakout t a fp c) s = .next u ∧ accepted ((s.at t).brokenAs fp c) u t :=
  ⟨_, exec_breakout t a c s ha hfp, row_number_inRange hs hw (spaceOf_lport (by omega)) (entryRow_breakout fp) (by simp)
    (by simp) rfl rfl (by omega) rfl (by omega) (by omega) (creditOf_lport (by omega)) (by simp)
    ((s.at t).writeNumber_breakout a c fp)⟩

/-- Under a new breakout a port of the field port rests in DOWN when it has a lane and is enabled (R36, R42). -/
theorem State.restingPort_broken (s : State) {fp c j : Nat} (hc : c < 5) (hj : j < 16) :
    (s.setCfgN 0x10 (16 * fp) 0x01 1 c).restingPort (16 * fp + j) =
      if j < 2 ^ c ∧ s.portEnabled (16 * fp + j) = true then .down else .disabled := by
  have hfp : fpOf (16 * fp + j) = fp := by simp only [fpOf]; omega
  have hcode : (s.setCfgN 0x10 (16 * fp) 0x01 1 c).breakoutOf (fpOf (16 * fp + j)) = c := by
    rw [hfp, State.breakoutOf, State.cfgN, State.setCfgN, State.cfg_setCfg_self, leNat_one (by omega)]
  have huse : (s.setCfgN 0x10 (16 * fp) 0x01 1 c).inUse (16 * fp + j) = decide (j < 2 ^ c) := by
    rw [State.inUse, hcode]
    exact congrArg (fun k => decide (k < 2 ^ c)) (by omega)
  have hon : (s.setCfgN 0x10 (16 * fp) 0x01 1 c).portEnabled (16 * fp + j) = s.portEnabled (16 * fp + j) :=
    congrArg (fun n => decide (n = 1)) (s.cfgN_setCfg_of_ne _ (by simp only [entryKey]; omega))
  simp [State.restingPort, huse, hon]

/-- Settles O7: ENABLE moves one port, BREAKOUT the ports of its field port. -/
theorem portRows : Obligations.PortRows := by
  unfold Obligations.PortRows
  intro s t a ha hs
  refine ⟨?enable, ?breakout⟩
  case enable =>
    intro lp v hlp hv hw
    obtain ⟨u, hexec, hu⟩ := exec_enable_accepted ha hs hlp hv hw
    have hmoved := ((s.at t).setCfg 0x10 lp 0x02 (natLe 1 v)).enableChanged_moved lp
    have hport (k : Nat) : u.port k = (((s.at t).setCfg 0x10 lp 0x02 (natLe 1 v)).enableChanged lp).port k :=
      (accepted_port hu k).trans (State.port_enabledAs ..)
    refine ⟨u, hexec, accepted_answer hu, ?_, ?_, fun k hk => ?_, ?_⟩
    · rw [accepted_cfgN hu, State.cfgN_enabledAs _ _ (by omega)]
    · rw [hport, hmoved.port]
      simp only [State.restingPort_enabled _ _ hv]
      rfl
    · rw [hport, hmoved.others k hk]; rfl
    · simp [accepted_kept hu, State.enabledAs_kept]
  case breakout =>
    intro fp c hfp hc hnew hw
    have hnew' : (s.at t).breakoutOf fp ≠ c := fun h => hnew h.symm
    obtain ⟨u, hexec, hu⟩ := exec_breakout_accepted ha hs hfp hc hw
    have hkept := (s.at t).brokenAs_kept fp c
    have hport (k : Nat) : u.port k = ((s.at t).rebreak fp c).port k := by simp [State.port, accepted_kept hu, hkept]
    refine ⟨u, hexec, accepted_answer hu, ?_, fun j hj => ?_, fun k hk => ?_, ?_⟩
    · rw [State.breakoutOf, accepted_cfgN hu, State.cfgN_of_store (congrArg _ hkept.2.2.2.2.2),
        State.cfgN_of_store (State.store_rebreak hnew'), State.cfgN, State.setCfgN, State.cfg_setCfg_self,
        leNat_one (by omega)]
    · rw [hport, State.st_rebreak hnew' (by omega), State.restingPort_broken _ hc hj]; rfl
    · rw [hport, State.port_rebreak_other hnew' hk]; rfl
    · simp [accepted_kept hu, hkept]

end Sys2Proof.Machine
end

section
/-! PROOFS. The forwarding tables (02): the records that the Almanac takes at once (R51, R54, R55, R65, R495), the age scan
and the rewrites of failed entries (R64, R67, R68). -/

namespace Sys2Proof.Machine

/-! ## Fields of records (R288) -/

theorem slice_append_left (a r : List Byte) : slice (a ++ r) 0 a.length = a := by simp [slice]

theorem slice_append_right (a r : List Byte) (off len : Nat) : slice (a ++ r) (a.length + off) len = slice r off len := by
  simp [slice, List.drop_append, List.drop_eq_nil_of_le (Nat.le_add_right a.length off)]

/-- The number that stands first in a record. -/
theorem fieldAt_natLe (k n : Nat) (r : List Byte) : fieldAt (natLe k n ++ r) 0 k = n % 256 ^ k := by
  have h := slice_append_left (natLe k n) r
  rw [natLe_length] at h
  rw [fieldAt, h, leNat_natLe]

theorem fieldAt_natLe_last (k n : Nat) : fieldAt (natLe k n) 0 k = n % 256 ^ k := by
  simpa using fieldAt_natLe k n []

/-- A field that stands behind the first number of a record. -/
theorem fieldAt_skip (k n : Nat) (r : List Byte) {off len : Nat} (h : k ≤ off) :
    fieldAt (natLe k n ++ r) off len = fieldAt r (off - k) len := by
  obtain ⟨j, rfl⟩ := Nat.exists_eq_add_of_le h
  have hs := slice_append_right (natLe k n) r j len
  rw [natLe_length] at hs
  rw [fieldAt, hs, Nat.add_sub_cancel_left, fieldAt]

/-! ## Records written and read -/

/-- An accepted write of a BLOB, of an entry that is not a stream's, for any row of that form. -/
theorem blob_accepted {s : State} {t a fam inst mem : Nat} {b : List Byte} {sp : Space} {n : Nat}
    (h : takesAtOnce s t a) (hs : spaceOf fam inst = some (sp, n))
    (hr : ∃ r, entryRow sp n mem = some r ∧ r.struct = false ∧ r.ty = .blob)
    (hw : recordWrite sp mem = true ∨ mayWrite s a fam inst mem) (hp : sp ≠ .encode ∧ sp ≠ .decode ∧ sp ≠ .ladder)
    (hm : mem ≠ 0) {e : Nat} {u : State} (hu : (s.at t).writeBlob a fam inst mem sp n b = (0, e, u)) :
    accepted u ((s.at t).orderWrite a fam inst mem b) e := by
  obtain ⟨r, hrow, hstr, hty⟩ := hr
  exact row_blob h hs hrow hw hp hm hstr hty hu

/-- A record that family 11 takes changes the tables of the forwarding plane and nothing else. -/
theorem fwd_accepted {s : State} {t a mem : Nat} {b : List Byte} (h : takesAtOnce s t a)
    (hw : recordWrite .fwd mem = true ∨ mayWrite s a 0x11 0 mem)
    (hr : ∃ r, entryRow .fwd 0 mem = some r ∧ r.struct = false ∧ r.ty = .blob) (hm : mem ≠ 0) {v : State}
    (hv : (s.at t).writeBlob a 0x11 0 mem .fwd 0 b = byStatus (0, v)) (hframe : v = { s.at t with fwd := v.fwd }) :
    (∀ k, ((s.at t).orderWrite a 0x11 0 mem b).pipe k = v.pipe k) ∧
    (∀ d k, ((s.at t).orderWrite a 0x11 0 mem b).delivery d k = v.delivery d k) ∧
    (∀ k, ((s.at t).orderWrite a 0x11 0 mem b).block k = v.block k) ∧
    accepted { s.at t with fwd := ((s.at t).orderWrite a 0x11 0 mem b).fwd } ((s.at t).orderWrite a 0x11 0 mem b) t := by
  have hnow : v.now = t := by rw [hframe]; rfl
  have hacc : accepted v ((s.at t).orderWrite a 0x11 0 mem b) t :=
    blob_accepted h rfl hr hw (by simp) hm (hv.trans (by rw [← hnow]; rfl))
  have hfwd := (accepted_kept hacc).2.2.2.2.2.2.2.1
  refine ⟨fun k => by rw [State.pipe, hfwd]; rfl, fun d k => by rw [State.delivery, hfwd]; rfl,
    fun k => by rw [State.block, hfwd]; rfl, ?_⟩
  rw [hfwd, ← hframe]
  exact hacc

/-! ## Flow records (R51, R495) -/

theorem Flow.slots_pos (x : Flow) : 1 ≤ x.slots := by
  unfold Flow.slots; split <;> omega

/-- The flows with one more: it replaces the flow of its key, or is added (R495). -/
def entered (l : List Flow) (x : Flow) : List Flow :=
  if l.any (fun y => y.sameKey x) then l.map (fun y => if y.sameKey x then x else y) else l ++ [x]

/-- A record in its ranges, by the owner of its port, with room in the table. -/
theorem State.writeFlow_of_room {s : State} {a : Nat} {b : List Byte} (hlen : b.length = 64) (hcl : flowClamped b = false)
    (hown : ownsRecord a (some (s.portOwner (flowOf b a).lp)) = true)
    (hpol : (flowOf b a).policer = 0xFFFF)
    (hroom : (s.pipe ((flowOf b a).lp / 128)).used + (flowOf b a).slots ≤ 3670016) :
    s.writeFlow a b = (0, s.modPipe ((flowOf b a).lp / 128)
      (fun p => { p with flows := entered p.flows (flowOf b a) })) := by
  have hslots := (flowOf b a).slots_pos
  simp only [State.writeFlow, plOf, hcl, Bool.false_eq_true, if_false]
  rw [if_neg (by simp [hlen]), if_neg (by simp [hown]), if_neg (by simp [hpol]),
    if_neg (fun h => by rcases h.2 with h | ⟨h, _⟩ <;> omega)]
  split
  · next hin => simp [State.modPipe, entered, hin]
  · next hin =>
    rw [if_neg (by omega), if_neg (by omega)]
    simp [State.modPipe, entered, hin]

theorem State.deleteFlow_of_entered {s : State} {a : Nat} {b : List Byte} (hlen : b.length = 40)
    (hown : ownsRecord a (some (s.portOwner (flowOf b a).lp)) = true)
    (hin : (s.pipe ((flowOf b a).lp / 128)).flows.any (fun y => y.sameKey (flowOf b a)) = true) :
    s.deleteFlow a b = (0, s.modPipe ((flowOf b a).lp / 128) (fun p =>
      { p with flows := p.flows.filter (fun y => !y.sameKey (flowOf b a)) })) := by
  simp only [State.deleteFlow, plOf]
  rw [if_neg (by simp [hlen]), if_neg (by simp [hown])]
  exact if_pos hin

theorem State.readFlow_of_entered {s : State} {a : Nat} {b : List Byte} {y : Flow} (hlen : b.length = 40)
    (hown : ownsRecord a (some (s.portOwner (flowOf b a).lp)) = true)
    (hin : (s.pipe ((flowOf b a).lp / 128)).flows.find? (fun y => y.sameKey (flowOf b a)) = some y) :
    s.readFlow a b = (0, y.record) := by
  simp only [State.readFlow, plOf]
  rw [if_neg (by simp [hlen]), if_neg (by simp [hown]), hin]

/-! ## Delivery entries and blocks (R21, R54, R55) -/

theorem State.delivery_setDelivery_other (s : State) {d e i j : Nat} (w : DeliveryWord) (h : j ≠ i) :
    (s.setDelivery d i w).delivery e j = s.delivery e j := by
  unfold State.setDelivery
  split <;> simp only [State.delivery] <;> split <;> simp [tget_tput, h]

/-- Both copies hold the entry, and its failed reads are forgotten. -/
def State.putEntry (s : State) (i : Nat) (e : DeliveryWord) : State :=
  let s := (s.setDelivery 0 i e).setDelivery 1 i e
  { s with fwd := { s.fwd with badDelivery := s.fwd.badDelivery.filter (fun k => !decide (k % 33554432 = i)) } }

theorem State.delivery_putEntry (s : State) (d i j : Nat) (e : DeliveryWord) : (s.putEntry i e).delivery d j =
    ((s.setDelivery 0 i e).setDelivery 1 i e).delivery d j := rfl

theorem State.putEntry_frame (s : State) (i : Nat) (e : DeliveryWord) :
    s.putEntry i e = { s with fwd := (s.putEntry i e).fwd } := rfl

theorem State.writeDelivery_of_allowed {s : State} {a i : Nat} {w : DeliveryWord} (hi : i < 33554432)
    (hown : ownsRecord a (s.block (i / 4096)).owner = true) (hok : s.entryAllowed a w = true)
    (hdie : ¬ (1 ≤ dType (s.delivery 0 i) ∧ dType (s.delivery 0 i) ≤ 2 ∧ 1 ≤ dType w ∧ dType w ≤ 2 ∧
      dDie (s.delivery 0 i) ≠ dDie w)) : s.writeDelivery a i w = (0, s.putEntry i (storedEntry a w)) := by
  unfold State.writeDelivery
  rw [if_neg (by omega), if_neg (by simp [hown, hok])]
  dsimp only
  rw [if_neg]
  · rfl
  · simp only [Bool.and_eq_true, Bool.or_eq_true, decide_eq_true_eq]
    rintro ⟨⟨hold, hnew⟩, hne⟩
    exact hdie ⟨by omega, by omega, by omega, by omega, hne⟩

/-- The bytes of a word are read back (R288). -/
theorem ofNat_natLe (k : Nat) (w : BitVec (8 * k)) : BitVec.ofNat (8 * k) (leNat (natLe k w.toNat)) = w := by
  have hlt : w.toNat < 256 ^ k := lt_of_lt_of_eq w.isLt (Nat.pow_mul 2 8 k)
  rw [leNat_natLe, Nat.mod_eq_of_lt hlt, BitVec.ofNat_toNat, BitVec.setWidth_eq]

/-! ## Static addresses (R65) -/

theorem State.pipe_foldl_modPipe (s : State) (f : Pipeline → Pipeline) {l : List Nat} (hl : l.Nodup) {k : Nat} (hk : k ∈ l) :
    (l.foldl (fun s j => s.modPipe j f) s).pipe k = f (s.pipe k) :=
  foldl_pointwise State.pipe (fun (s : State) j => s.modPipe j f) (fun _ p => f p) (fun _ => True)
    (fun _ _ _ => trivial) (fun _ _ _ => by simp) (fun _ _ _ h => by simp [h]) hl trivial hk

theorem State.foldl_modPipe_frame (s : State) (f : Pipeline → Pipeline) (l : List Nat) :
    l.foldl (fun s j => s.modPipe j f) s = { s with fwd := (l.foldl (fun s j => s.modPipe j f) s).fwd } := by
  induction l generalizing s with
  | nil => rfl
  | cons x r ih => rw [List.foldl_cons, ih]; rfl

/-- A loop over pipelines that reads the clock reads one time. -/
theorem State.foldl_modPipe_stamped (s : State) {u : State} (g : Nat → Pipeline → Pipeline) (h : u.now = s.now) (l : List Nat) :
    l.foldl (fun s j => s.modPipe j (g s.stampNow)) u = l.foldl (fun u j => u.modPipe j (g s.stampNow)) u := by
  induction l generalizing u with
  | nil => rfl
  | cons x r ih =>
    have hstamp : u.stampNow = s.stampNow := congrArg (fun n => n / 1000000000 % 65536) h
    rw [List.foldl_cons, List.foldl_cons, hstamp]
    exact ih (u := u.modPipe x _) h

/-- Every pipeline is changed alike. -/
def State.modPipes (s : State) (f : Pipeline → Pipeline) : State := (List.range 8).foldl (fun s j => s.modPipe j f) s

theorem State.pipe_modPipes (s : State) (f : Pipeline → Pipeline) {k : Nat} (hk : k < 8) :
    (s.modPipes f).pipe k = f (s.pipe k) := by
  rw [State.modPipes, State.pipe_foldl_modPipe s f List.nodup_range (List.mem_range.2 hk)]

theorem State.modPipes_frame (s : State) (f : Pipeline → Pipeline) :
    s.modPipes f = { s with fwd := (s.modPipes f).fwd } := s.foldl_modPipe_frame f _

/-- The record of STATIC_L2 for an address (Table 02.9). -/
def staticRecord (v : Nat) (m : Mac) (lp : Nat) (remove : Bool) : List Byte :=
  natLe 2 v ++ (natLe 6 m.toNat).reverse ++ natLe 2 lp ++ natLe 1 (b2n remove)

theorem leNat_append (a b : List Byte) : leNat (a ++ b) = leNat a + 256 ^ a.length * leNat b := by
  induction a with
  | nil => simp [leNat]
  | cons x r ih => simp only [List.cons_append, leNat, ih, List.length_cons, Nat.pow_succ]; ring

/-- The address of a record of STATIC_L2, which stands in network order, is read back (R288). -/
theorem slice_staticRecord_mac (v : Nat) (m : Mac) (lp : Nat) (remove : Bool) :
    BitVec.ofNat 48 (beNat (slice (staticRecord v m lp remove) 2 6)) = m := by
  have hslice : slice (staticRecord v m lp remove) 2 6 = (natLe 6 m.toNat).reverse := by
    have h1 := slice_append_right (natLe 2 v) ((natLe 6 m.toNat).reverse ++ (natLe 2 lp ++ natLe 1 (b2n remove))) 0 6
    have h2 := slice_append_left (natLe 6 m.toNat).reverse (natLe 2 lp ++ natLe 1 (b2n remove))
    simp only [natLe_length, List.length_reverse, Nat.add_zero] at h1 h2
    rw [staticRecord, List.append_assoc, List.append_assoc, h1, h2]
  rw [hslice, beNat, List.reverse_reverse]
  exact ofNat_natLe 6 m

theorem fieldAt_staticRecord_vid {v : Nat} (hv : v < 65536) (m : Mac) (lp : Nat) (remove : Bool) :
    fieldAt (staticRecord v m lp remove) 0 2 = v := by
  rw [staticRecord, List.append_assoc, List.append_assoc, fieldAt_natLe]
  exact Nat.mod_eq_of_lt hv

/-- What stands behind the address in a record of STATIC_L2. -/
theorem fieldAt_staticRecord_tail (v : Nat) (m : Mac) (lp : Nat) (remove : Bool) (off len : Nat) :
    fieldAt (staticRecord v m lp remove) (8 + off) len = fieldAt (natLe 2 lp ++ natLe 1 (b2n remove)) off len := by
  have h := slice_append_right (natLe 2 v ++ (natLe 6 m.toNat).reverse) (natLe 2 lp ++ natLe 1 (b2n remove)) off len
  simp only [List.length_append, natLe_length, List.length_reverse] at h
  rw [fieldAt, staticRecord, List.append_assoc, h, fieldAt]

theorem fieldAt_staticRecord_lp (v : Nat) (m : Mac) {lp : Nat} (hlp : lp < 65536) (remove : Bool) :
    fieldAt (staticRecord v m lp remove) 8 2 = lp := by
  rw [fieldAt_staticRecord_tail (off := 0), fieldAt_natLe]
  exact Nat.mod_eq_of_lt hlp

theorem fieldAt_staticRecord_remove (v : Nat) (m : Mac) (lp : Nat) (remove : Bool) :
    fieldAt (staticRecord v m lp remove) 10 1 = b2n remove := by
  rw [fieldAt_staticRecord_tail (off := 2), fieldAt_skip 2 lp _ (by omega), fieldAt_natLe_last]
  cases remove <;> rfl

theorem State.writeBlob_staticL2 (s : State) (a : Nat) (b : List Byte) : s.writeBlob a 0x11 0 0x1D .fwd 0 b =
    if b.length ≠ 11 then s.no 4
    else byStatus (s.writeStatic a (fieldAt b 0 2) (BitVec.ofNat 48 (beNat (slice b 2 6))) (fieldAt b 8 2)
      (decide (fieldAt b 10 1 ≠ 0))) := rfl

theorem State.writeBlob_deliveryWrite (s : State) (a : Nat) (b : List Byte) : s.writeBlob a 0x11 0 0x18 .fwd 0 b =
    if b.length ≠ 68 then s.no 4
    else byStatus (s.writeDelivery a (fieldAt b 0 4) (BitVec.ofNat 512 (fieldAt b 4 64))) := rfl

theorem State.writeBlob_blockGrant (s : State) (a : Nat) (b : List Byte) : s.writeBlob a 0x11 0 0x1C .fwd 0 b =
    if b.length ≠ 5 then s.no 4
    else byStatus (s.grantBlock a (fieldAt b 0 2) (fieldAt b 2 1) (fieldAt b 3 2)) := rfl

theorem State.entryRead_delivery (s : State) (a : Nat) (b : List Byte) : s.entryRead a 0x11 0 0x19 .fwd 0 b =
    if b.length = 4 then s.readDelivery a (leNat b) else (4, []) := rfl

section
variable {s : State} {a v lp : Nat} {m : Mac} (h1 : 1 ≤ v) (h2 : v ≤ 4094) (hlp : lp < 1024)
include h1 h2 hlp

theorem State.writeStatic_enter (hown : ownsRecord a (some (s.vlanOwner v)) = true) : s.writeStatic a v m lp false = (0, s.modPipes (fun p =>
    { p with l2 := (p.l2.filter (fun e => !(decide (e.vid = v) && decide (e.mac = m)))) ++
      [{ vid := v, mac := m, lp := lp, stamp := s.stampNow, static := true }] })) := by
  unfold State.writeStatic
  rw [if_neg (by omega), if_neg (by simp [hown]), if_neg Bool.false_ne_true, State.modPipes]
  exact congrArg (Prod.mk 0) (s.foldl_modPipe_stamped (fun stamp p =>
    { p with l2 := (p.l2.filter (fun e => !(decide (e.vid = v) && decide (e.mac = m)))) ++
      [{ vid := v, mac := m, lp := lp, stamp := stamp, static := true }] }) rfl _)

theorem State.writeStatic_remove (hown : ownsRecord a (some (s.vlanOwner v)) = true)
    (hin : (s.pipe 0).l2.any (fun e => e.static && decide (e.vid = v) && decide (e.mac = m)) = true) :
    s.writeStatic a v m lp true = (0, s.modPipes (fun p =>
      { p with l2 := p.l2.filter (fun e => !(e.static && decide (e.vid = v) && decide (e.mac = m))) })) := by
  unfold State.writeStatic
  rw [if_neg (by omega), if_neg (by simp [hown]), if_pos rfl, State.modPipes]
  exact if_pos hin

theorem State.writeBlob_static (remove : Bool) :
    s.writeBlob a 0x11 0 0x1D .fwd 0 (staticRecord v m lp remove) = byStatus (s.writeStatic a v m lp remove) := by
  have hlen : (staticRecord v m lp remove).length = 11 := by simp [staticRecord]
  rw [State.writeBlob_staticL2, if_neg (by simp [hlen]), slice_staticRecord_mac, fieldAt_staticRecord_vid (by omega),
    fieldAt_staticRecord_lp v m (by omega), fieldAt_staticRecord_remove]
  cases remove <;> rfl

end

/-! ## The commands -/

section
variable {a : Nat} (t : Nat) (s : State) (ha : a < 16)
include ha

theorem exec_flowWrite (b : List Byte) :
    exec (.flowWrite t a b) s = .next ((s.at t).orderWrite a 0x11 0 0x10 b) := if_pos (decide_eq_true ha)

theorem exec_flowDelete (b : List Byte) :
    exec (.flowDelete t a b) s = .next ((s.at t).orderWrite a 0x11 0 0x11 b) := if_pos (decide_eq_true ha)

theorem exec_flowRead (b : List Byte) :
    exec (.flowRead t a b) s = .next ((s.at t).orderRead a 0x11 0 0x12 b) := if_pos (decide_eq_true ha)

theorem exec_deliveryWrite (i : Nat) (w : DeliveryWord) : exec (.deliveryWrite t a i w) s =
    .next ((s.at t).orderWrite a 0x11 0 0x18 (natLe 4 i ++ natLe 64 w.toNat)) := if_pos (decide_eq_true ha)

theorem exec_deliveryRead (i : Nat) :
    exec (.deliveryRead t a i) s = .next ((s.at t).orderRead a 0x11 0 0x19 (natLe 4 i)) := if_pos (decide_eq_true ha)

theorem exec_blockGrant (b o l : Nat) : exec (.blockGrant t a b o l) s =
    .next ((s.at t).orderWrite a 0x11 0 0x1C (natLe 2 b ++ natLe 1 o ++ natLe 2 l)) := if_pos (decide_eq_true ha)

theorem exec_staticL2 (v : Nat) (m : Mac) (lp : Nat) (remove : Bool) : exec (.staticL2 t a v m lp remove) s =
    .next ((s.at t).orderWrite a 0x11 0 0x1D (staticRecord v m lp remove)) := if_pos (decide_eq_true ha)

end

theorem State.writeBlob_delivery (s : State) (a : Nat) {i : Nat} (hi : i < 33554432) (w : DeliveryWord) :
    s.writeBlob a 0x11 0 0x18 .fwd 0 (natLe 4 i ++ natLe 64 w.toNat) = byStatus (s.writeDelivery a i w) := by
  have hindex : fieldAt (natLe 4 i ++ natLe 64 w.toNat) 0 4 = i := by rw [fieldAt_natLe]; omega
  have hword : fieldAt (natLe 4 i ++ natLe 64 w.toNat) 4 64 = leNat (natLe 64 w.toNat) := by
    rw [fieldAt_skip 4 i _ (le_refl 4), fieldAt_natLe_last, leNat_natLe]
  rw [State.writeBlob_deliveryWrite, if_neg (by simp), hindex, hword]
  exact congrArg (fun w => byStatus (s.writeDelivery a i w)) (ofNat_natLe 64 w)

theorem State.writeBlob_grant (s : State) (a : Nat) {b o l : Nat} (hb : b < 8192) (ho : o < 16) (hl : l < 65536) :
    s.writeBlob a 0x11 0 0x1C .fwd 0 (natLe 2 b ++ natLe 1 o ++ natLe 2 l) =
      byStatus (0, s.setBlock b { owner := some o, linkFrom := BitVec.ofNat 16 l }) := by
  have hblock : fieldAt (natLe 2 b ++ natLe 1 o ++ natLe 2 l) 0 2 = b := by
    rw [List.append_assoc, fieldAt_natLe]; omega
  have howner : fieldAt (natLe 2 b ++ natLe 1 o ++ natLe 2 l) 2 1 = o := by
    rw [List.append_assoc, fieldAt_skip 2 b _ (le_refl 2), fieldAt_natLe]; omega
  have hlink : fieldAt (natLe 2 b ++ natLe 1 o ++ natLe 2 l) 3 2 = l := by
    rw [List.append_assoc, fieldAt_skip 2 b _ (by omega), fieldAt_skip 1 o _ (le_refl 1), fieldAt_natLe_last]; omega
  rw [State.writeBlob_blockGrant, if_neg (by simp), hblock, howner, hlink, State.grantBlock, if_neg (by omega), Nat.min_eq_left (by omega),
    Nat.min_eq_left (by omega)]

/-- A record of family 11 is read by its owner, at once. -/
theorem fwd_read {s : State} {t a mem : Nat} {arg v : List Byte} (h : takesAtOnce s t a) (hc : s.copy = none)
    (hrec : recordRead .fwd mem = true) (hr : ∃ r, entryRow .fwd 0 mem = some r)
    (hv : (s.at t).entryRead a 0x11 0 mem .fwd 0 arg = (0, v)) :
    (s.at t).orderRead a 0x11 0 mem arg = (s.at t).say 0 v (t / 10 * 10) := by
  obtain ⟨r, hrow⟩ := hr
  exact orderRead_answers h hc rfl hrow (.inl hrec) hv

/-- Settles O12: what each record of family 11 does to the tables, once the engine has taken it. -/
theorem forwardingRows : Obligations.ForwardingRows := by
  unfold Obligations.ForwardingRows
  intro s t a ha hs
  refine ⟨?flowWrite, ?flowKey, ?delivery, ?grant, ?enter, ?remove⟩
  case flowWrite =>
    intro b hlen hcl x p hown hpol hroom
    obtain ⟨hpipe, -, -, hacc⟩ := fwd_accepted (mem := 0x10) hs (.inl rfl) ⟨_, rfl, rfl, rfl⟩ (by simp)
      (congrArg byStatus (State.writeFlow_of_room (s := s.at t) hlen hcl hown hpol hroom)) rfl
    refine ⟨_, exec_flowWrite t s ha b, ?_, fun k hk => ?_, hacc⟩
    · rw [hpipe, State.pipe_modPipe, if_pos rfl]; rfl
    · rw [hpipe, State.pipe_modPipe, if_neg hk]; rfl
  case flowKey =>
    intro key hlen x p hown hin
    refine ⟨?_, fun y hc hy => ?_⟩
    · obtain ⟨hpipe, -, -, hacc⟩ := fwd_accepted (mem := 0x11) hs (.inl rfl) ⟨_, rfl, rfl, rfl⟩ (by simp)
        (congrArg byStatus (State.deleteFlow_of_entered (s := s.at t) hlen hown hin)) rfl
      refine ⟨_, exec_flowDelete t s ha key, ?_, fun k hk => ?_, hacc⟩
      · rw [hpipe, State.pipe_modPipe, if_pos rfl]; rfl
      · rw [hpipe, State.pipe_modPipe, if_neg hk]; rfl
    · rw [exec_flowRead t s ha, fwd_read (mem := 0x12) (arg := key) hs hc rfl ⟨_, rfl⟩ (State.readFlow_of_entered (s := s.at t) hlen hown hy)]
  case delivery =>
    intro i hi hown
    refine ⟨fun hc => ?_, fun w hok hdie => ?_⟩
    · have hindex : leNat (natLe 4 i) = i := by rw [leNat_natLe]; omega
      have hread : (s.at t).entryRead a 0x11 0 0x19 .fwd 0 (natLe 4 i) = (0, natLe 64 (s.delivery 0 i).toNat) := by
        rw [State.entryRead_delivery, if_pos (natLe_length 4 i), hindex, State.readDelivery, if_neg (by omega)]
        exact if_neg (by simpa using hown)
      rw [exec_deliveryRead t s ha, fwd_read hs hc rfl ⟨_, rfl⟩ hread]
    · obtain ⟨-, hdel, -, hacc⟩ := fwd_accepted (mem := 0x18) hs (.inl rfl) ⟨_, rfl, rfl, rfl⟩ (by simp)
        (((s.at t).writeBlob_delivery a hi w).trans
          (congrArg byStatus (State.writeDelivery_of_allowed (s := s.at t) hi hown hok hdie))) rfl
      refine ⟨_, exec_deliveryWrite t s ha i w, ?_, ?_, fun d k hk => ?_, hacc⟩
      · rw [hdel, State.delivery_putEntry, State.delivery_setDelivery _ 1 0 _ _ _ (by omega) (by omega)]
        simp
      · rw [hdel, State.delivery_putEntry, State.delivery_setDelivery _ 1 1 _ _ _ (by omega) (by omega)]
        simp
      · rw [hdel, State.delivery_putEntry, State.delivery_setDelivery_other _ _ hk,
          State.delivery_setDelivery_other _ _ hk]
        rfl
  case grant =>
    intro b o l hb ho hl hw
    obtain ⟨-, -, hblock, hacc⟩ := fwd_accepted hs (.inr hw) ⟨_, rfl, rfl, rfl⟩ (by simp)
      ((s.at t).writeBlob_grant a hb ho hl) rfl
    refine ⟨_, exec_blockGrant t s ha b o l, ?_, fun k hk => ?_, hacc⟩
    · rw [hblock, State.block_setBlock, if_pos rfl]
    · rw [hblock, State.block_setBlock, if_neg hk]; rfl
  case enter =>
    intro v m lp h1 h2 hlp hown
    obtain ⟨hpipe, -, -, hacc⟩ := fwd_accepted hs (.inl rfl) ⟨_, rfl, rfl, rfl⟩ (by simp)
      ((State.writeBlob_static (s := s.at t) h1 h2 hlp false).trans
        (congrArg byStatus (State.writeStatic_enter (s := s.at t) h1 h2 hlp hown))) (State.modPipes_frame ..)
    exact ⟨_, exec_staticL2 t s ha v m lp false, fun k hk => by rw [hpipe, State.pipe_modPipes _ _ hk]; rfl, hacc⟩
  case remove =>
    intro v m lp h1 h2 hlp hown hin
    obtain ⟨hpipe, -, -, hacc⟩ := fwd_accepted hs (.inl rfl) ⟨_, rfl, rfl, rfl⟩ (by simp)
      ((State.writeBlob_static (s := s.at t) h1 h2 hlp true).trans
        (congrArg byStatus (State.writeStatic_remove (s := s.at t) h1 h2 hlp hown hin))) (State.modPipes_frame ..)
    exact ⟨_, exec_staticL2 t s ha v m lp true, fun k hk => by rw [hpipe, State.pipe_modPipes _ _ hk]; rfl, hacc⟩

/-! ## Age scan and rewrites (R64, R67, R68) -/

theorem State.rewriteParity_of_live {s : State} {pl : Nat} (h : s.shedLive = true) : s.rewriteParity pl =
    s.modPipe pl (fun p => { p with flows := p.flows.map (fun x => { x with bad := false }),
                                    l2 := p.l2.map (fun e => { e with bad := false }), badVlans := [] }) := by
  simp [State.rewriteParity, h]

theorem State.rewriteDelivery_of_failed {s : State} {d i : Nat} (h : s.shedLive = true)
    (hbad : 33554432 * d + i ∈ s.fwd.badDelivery) : s.rewriteDelivery d i =
      (let u := s.setDelivery d i (s.delivery (1 - d) i)
       { u with fwd := { u.fwd with badDelivery := removeFrom u.fwd.badDelivery (33554432 * d + i) } }) := by
  simp [State.rewriteDelivery, h, hbad]

/-- Settles O11: the age scan, and what the Shed rewrites while it is live. -/
theorem forwardingRepairs : Obligations.ForwardingRepairs := by
  unfold Obligations.ForwardingRepairs
  intro s t pl hpl
  have hexec : exec (.parityRewrite t pl) s = .next ((s.at t).rewriteParity pl) := if_pos (decide_eq_true hpl)
  have hdel {d i : Nat} (hd : d < 2) (hi : i < 33554432) :
      exec (.deliveryRewrite t d i) s = .next ((s.at t).rewriteDelivery d i) := if_pos (by simp [isDie, isDelivery, hd, hi])
  refine ⟨?age, fun hdead => ?_, fun d i hd hi h => ?_, fun hlive => ?parity, fun d i hd hi hlive hbad => ?delivery⟩
  case age =>
    refine ⟨_, if_pos (decide_eq_true hpl), ?_, ?_, fun k hk => ?_, rfl⟩
    · rw [State.pipe_modPipe, if_pos rfl]; rfl
    · rw [State.pipe_modPipe, if_pos rfl]; rfl
    · rw [State.pipe_modPipe, if_neg hk]; rfl
  · have hdead' : (s.at t).shedLive = false := hdead
    rw [hexec, State.rewriteParity, if_pos (by simp [hdead'])]
  · have h' : (s.at t).shedLive = false ∨ 33554432 * d + i ∉ (s.at t).fwd.badDelivery := h
    rw [hdel hd hi, State.rewriteDelivery, if_pos (by simpa using h')]
  case parity =>
    refine ⟨_, hexec, ?_⟩
    rw [State.rewriteParity_of_live (s := s.at t) hlive]
    refine ⟨?_, ?_, ?_, ?_, fun k hk => ?_, rfl⟩
    · simp
    · simp
    · simp
    · simp
    · rw [State.pipe_modPipe, if_neg hk]; rfl
  case delivery =>
    refine ⟨_, hdel hd hi, ?_⟩
    rw [State.rewriteDelivery_of_failed (s := s.at t) hlive hbad]
    have hread (v : State) (e k : Nat) (l : List Nat) :
        ({ v with fwd := { v.fwd with badDelivery := l } } : State).delivery e k = v.delivery e k := rfl
    refine ⟨?_, fun e k h => ?_, by simp [removeFrom], ?_⟩
    · rw [hread, State.delivery_setDelivery _ _ _ _ _ _ hd hd, if_pos ⟨rfl, rfl⟩]; rfl
    · rw [hread]
      rcases h with ⟨he, he2⟩ | hk
      · rw [State.delivery_setDelivery _ _ _ _ _ _ hd he2, if_neg (fun h => he h.1)]; rfl
      · rw [State.delivery_setDelivery_other _ _ hk]; rfl
    · unfold State.setDelivery; split <;> rfl

end Sys2Proof.Machine
end

section
/-! PROOFS. Crossings between the pipeline dies (02), and the references of their chains (R20, R22, R58, R76). -/

namespace Sys2Proof.Machine

/-! ## Cell stores and chains -/

theorem State.modCells_frame (s : State) (d : Nat) (f : CellStore → CellStore) :
    s.modCells d f = { s with egr := (s.modCells d f).egr } := by unfold State.modCells; split <;> rfl

@[simp] theorem State.chain_modCells (s : State) (d k : Nat) (f : CellStore → CellStore) :
    (s.modCells d f).chain k = s.chain k := by unfold State.modCells; split <;> rfl

@[simp] theorem State.nextChain_modCells (s : State) (d : Nat) (f : CellStore → CellStore) :
    (s.modCells d f).egr.nextChain = s.egr.nextChain := by unfold State.modCells; split <;> rfl

@[simp] theorem State.cells_setChain (s : State) (k : Nat) (c : Chain) (d : Nat) : (s.setChain k c).cells d = s.cells d := rfl

/-- A part of a cell store that no change of one touches stays, whatever the die. -/
theorem State.cells_modCells_keeps {β : Type} (R : CellStore → β) (s : State) (d e : Nat) {f : CellStore → CellStore}
    (hf : ∀ c, R (f c) = R c) : R ((s.modCells d f).cells e) = R (s.cells e) := by
  unfold State.modCells
  split <;> simp only [State.cells] <;> split <;> simp [hf]

/-- What carving pools changes of a store: its pools and its free cells. -/
theorem State.cells_carve_keeps {β : Type} (R : CellStore → β) (hR : ∀ c p n, R { c with pools := p, free := n } = R c)
    (s : State) (d e : Nat) : R ((s.carve d).cells e) = R (s.cells e) := by
  unfold State.carve
  split
  · rfl
  · refine foldl_keeps (fun s : State => R (s.cells e)) _ _ (fun s p _ => ?_) s
    dsimp only
    split
    · exact s.cells_modCells_keeps R d e (fun c => hR c _ _)
    · exact s.cells_modCells_keeps R d e (fun c => hR c _ _)

@[simp] theorem State.chain_carve (s : State) (d k : Nat) : (s.carve d).chain k = s.chain k := by
  unfold State.carve
  split
  · rfl
  · refine foldl_keeps (State.chain · k) _ _ (fun s p _ => ?_) s
    dsimp only
    split <;> simp

/-- What a chain's end changes of a store: records, free, retired and crossing cells, and pools. -/
theorem State.cells_dropRef_keeps {β : Type} (R : CellStore → β)
    (hR : ∀ c a n m x p, R { c with recs := a, free := n, retired := m, crossUsed := x, pools := p } = R c)
    (s : State) (k e : Nat) : R ((s.dropRef k).cells e) = R (s.cells e) := by
  unfold State.dropRef
  dsimp only
  split
  · rfl
  · split
    · unfold State.freeChain
      dsimp only
      rw [State.cells_carve_keeps R (fun c p n => hR c c.recs n c.retired c.crossUsed p), State.cells_setChain]
      exact s.cells_modCells_keeps R _ e (fun c => hR c _ _ _ _ c.pools)
    · rfl

/-- A reference that is dropped: the last one frees the chain (R76). -/
theorem State.chain_dropRef (s : State) (k j : Nat) : (s.dropRef k).chain j =
    if j = k then (if (s.chain k).refs = 1 then {} else { s.chain k with refs := (s.chain k).refs - 1 })
    else s.chain j := by
  unfold State.dropRef
  dsimp only
  by_cases hj : j = k
  · subst hj
    rw [if_pos rfl]
    split
    · next h0 => rw [if_neg (by omega), h0]; exact congrArg (fun n => { s.chain j with refs := n }) h0
    · split <;> simp [State.freeChain]
  · rw [if_neg hj]
    split
    · rfl
    · split <;> simp [State.freeChain, hj]

theorem State.dropRef_frame (s : State) (k : Nat) : s.dropRef k = { s with egr := (s.dropRef k).egr } :=
  State.parts.2 (by simp [State.dropRef_kept ..])

theorem State.newChain_fst (s : State) (d a n : Nat) (x : Bool) : (s.newChain d a n x).1 = s.egr.nextChain := rfl

/-! ## Crossing drops (R58) -/

theorem State.crossDrop_frame (s : State) (d pl : Nat) : s.crossDrop d pl =
    { s with egr := (s.crossDrop d pl).egr, irq := (s.crossDrop d pl).irq, allots := (s.crossDrop d pl).allots,
             emits := (s.crossDrop d pl).emits } := State.parts.2 (by simp [State.crossDrop_kept ..])

theorem State.cells_crossDrop (s : State) {d e : Nat} (pl : Nat) (hd : d < 2) (he : e < 2) :
    (s.crossDrop d pl).cells e =
      if e = d then { s.cells d with crossDrops := inc64 (s.cells d).crossDrops } else s.cells e := by
  rw [State.crossDrop, State.cells_raise, State.cells_modCells s d e _ hd he]

theorem State.chain_crossDrop (s : State) (d pl k : Nat) : (s.crossDrop d pl).chain k = s.chain k := by
  simp [State.crossDrop]

/-! ## A packet that leaves a die (R20, R22) -/

theorem State.crossHeld_iff (s : State) : s.crossHeld = true ↔ (s.link 8).holding = true ∨ (s.link 9).holding = true := by
  simp [State.crossHeld, State.linkHolds]

theorem State.crossHeld_false {s : State} (h8 : (s.link 8).holding = false) (h9 : (s.link 9).holding = false) :
    s.crossHeld = false := by simp [State.crossHeld, State.linkHolds, h8, h9]

theorem State.crossSend_of_idle {s : State} {d : Nat} (h : (s.cells d).waiting = [] ∨ s.crossHeld = true) :
    s.crossSend d = s := by
  unfold State.crossSend
  rcases h with h | h
  · simp only [h]
  · cases hw : (s.cells d).waiting <;> simp only [h]

theorem State.crossArrive_of_idle {s : State} {d : Nat} (up : Upset)
    (h : (s.cells (1 - d)).inFlight = [] ∨ s.crossHeld = true) : s.crossArrive d up = s := by
  unfold State.crossArrive
  rcases h with h | h
  · simp only [h]
  · cases hw : (s.cells (1 - d)).inFlight <;> simp only [h]

theorem State.crossSend_of_free {s : State} {d : Nat} {x : Crossing} {r : List Crossing}
    (hw : (s.cells d).waiting = x :: r) (hheld : s.crossHeld = false) : s.crossSend d =
      (let v := s.modCells d (fun c => { c with waiting := r })
       if s.diePruned (1 - d) then (v.crossDrop (1 - d) (plOf x.lp)).dropRef x.chain
       else v.modCells d (fun c => { c with inFlight := c.inFlight ++ [x] })) := by
  have hp : (s.modCells d (fun c => { c with waiting := r })).diePruned (1 - d) = s.diePruned (1 - d) := by
    rw [State.modCells_frame]; rfl
  simp only [State.crossSend, hw, hheld, hp]

/-! ## A packet that reaches a die (R58) -/

/-- The packet that has reached a die of room for it is stored, goes to its destinations, and its walk's reference is
dropped. -/
def State.crossWalk (s : State) (d : Nat) (up : Upset) (x : Crossing) : State :=
  let k := (s.newChain d x.allot (cellsOf x.f.len) true).1
  let w := (s.newChain d x.allot (cellsOf x.f.len) true).2
  (match x.dest with
    | .run i =>
      let y := if (w.run d i up.delivery).limited then w.modPipe (plOf x.lp) (fun p => { p with walkLimits := inc64 p.walkLimits })
        else w
      (w.run d i up.delivery).dests.foldl (fun (y : State) e => y.deliver d k x.lp x.allot x.f e x.own)
        (y.noteFailed d (plOf x.lp) (w.run d i up.delivery).failed)
    | .flood v => (w.crossFlood d x.lp v up.vlan).1.foldl (fun (y : State) p => y.deliverL2 k x.lp x.allot v x.f p)
        (w.crossFlood d x.lp v up.vlan).2
    | .l2 p => if dieOf p = d then w.deliverL2 k x.lp x.allot (vidOf x.f) x.f p else w).dropRef k

theorem State.crossArrive_of_free {s : State} {d : Nat} {x : Crossing} {r : List Crossing} (up : Upset)
    (hw : (s.cells (1 - d)).inFlight = x :: r) (hheld : s.crossHeld = false) : s.crossArrive d up =
      (let v := s.modCells (1 - d) (fun c => { c with inFlight := r })
       if v.diePruned d || !v.cellsFit d x.allot (cellsOf x.f.len) true then v.crossDrop d (plOf x.lp)
       else v.crossWalk d up x) := by
  simp only [State.crossArrive, hw, hheld]
  rfl

/-! ## The commands -/

section
variable {d : Nat} (t : Nat) (s : State) (hd : d < 2)
include hd

theorem exec_crossingSend : exec (.crossingSend t d) s = .next ((s.at t).crossSend d) := if_pos (decide_eq_true hd)

theorem exec_crossingArrive (up : Upset) :
    exec (.crossingArrive t d up) s = .next ((s.at t).crossArrive d up).logReads := if_pos (decide_eq_true hd)

end

theorem exec_crossingAck (t k : Nat) (s : State) : exec (.crossingAck t k) s = .next ((s.at t).dropRef k) := rfl

/-- A reference dropped with nothing else (R76). -/
theorem exec_crossingAck_frame (t k : Nat) (s : State) (h : (s.chain k).refs ≠ 1) :
    ((s.at t).dropRef k).chain k = { s.chain k with refs := (s.chain k).refs - 1 } := by
  rw [State.chain_dropRef, if_pos rfl]
  exact if_neg h

/-- Settles O10: what leaves a die, what reaches one, and the references of chains. -/
theorem crossings : Obligations.Crossings := by
  unfold Obligations.Crossings
  refine ⟨?idle, ?send, ?arrive, ?ack, ?lastAck⟩
  case idle =>
    intro s t d hd
    refine ⟨fun h => ?_, fun up hreads h => ?_⟩
    · rw [exec_crossingSend t s hd, State.crossSend_of_idle (s := s.at t) (h.imp id (s.at t).crossHeld_iff.2)]
    · rw [exec_crossingArrive t s hd, State.crossArrive_of_idle (s := s.at t) up (h.imp id (s.at t).crossHeld_iff.2),
        State.logReads_of_none (s := s.at t) hreads]
  case send =>
    intro s t d x r hd hw h8 h9
    have hd' : 1 - d < 2 := by omega
    have hne : 1 - d ≠ d := by omega
    have hsend := State.crossSend_of_free (s := s.at t) hw (State.crossHeld_false (s := s.at t) h8 h9)
    refine ⟨fun hlive => ⟨_, exec_crossingSend t s hd, ?_⟩, fun hpr => ⟨_, exec_crossingSend t s hd, ?_⟩⟩
    · have hlive' : (s.at t).diePruned (1 - d) = false := hlive
      rw [hsend, hlive']
      refine ⟨?_, ?_, ?_⟩
      · simp [State.cells_modCells _ _ _ _ hd hd]
      · simp [State.cells_modCells _ _ _ _ hd hd', hne]
      · simp only [Bool.false_eq_true, if_false]
        rw [State.modCells_frame, State.modCells_frame (s.at t)]
        rfl
    · have hpr' : (s.at t).diePruned (1 - d) = true := hpr
      rw [hsend, hpr']
      simp only [if_true]
      set v := (s.at t).modCells d (fun c => { c with waiting := r }) with hv
      have hchain (k : Nat) : (v.crossDrop (1 - d) (plOf x.lp)).chain k = s.chain k := by
        rw [State.chain_crossDrop, hv, State.chain_modCells, State.chain_at]
      refine ⟨?_, ?_, fun h => ?_, fun h => ?_, fun j hj => ?_, ?_⟩
      · rw [State.cells_dropRef_keeps CellStore.waiting (fun _ _ _ _ _ _ => rfl), State.cells_crossDrop _ _ hd' hd,
          if_neg hne.symm, hv, State.cells_modCells _ _ _ _ hd hd, if_pos rfl]
      · rw [State.cells_dropRef_keeps CellStore.crossDrops (fun _ _ _ _ _ _ => rfl), State.cells_crossDrop _ _ hd' hd',
          if_pos rfl, hv, State.cells_modCells _ _ _ _ hd hd', if_neg hne]
        rfl
      · rw [State.chain_dropRef, if_pos rfl, hchain, if_neg h]
      · rw [State.chain_dropRef, if_pos rfl, hchain, if_pos h]
      · rw [State.chain_dropRef, if_neg hj, hchain]
      · rw [State.dropRef_frame, State.crossDrop_frame, hv, State.modCells_frame]
        rfl
  case arrive =>
    intro s t d x r up hd hw h8 h9 hreads v fits
    have hd' : 1 - d < 2 := by omega
    have hne : 1 - d ≠ d := by omega
    have harr := State.crossArrive_of_free (s := s.at t) up hw (State.crossHeld_false (s := s.at t) h8 h9)
    have hframe : v = { s.at t with egr := v.egr } := State.modCells_frame ..
    have hprune : v.diePruned d = s.isPruned (8 + d) 0xFF := by rw [hframe]; rfl
    have hnext : v.egr.nextChain = s.egr.nextChain := State.nextChain_modCells ..
    refine ⟨fun h => ?_, fun hlive hfits => ?_⟩
    · have hdrop : (s.at t).crossArrive d up = v.crossDrop d (plOf x.lp) := by
        rw [harr]
        refine if_pos ?_
        rw [hprune]
        rcases h with h | h
        · rw [h]; rfl
        · exact Bool.or_eq_true_iff.2 (.inr (by simp [fits, v] at h; simp [h]))
      have hreads' : (v.crossDrop d (plOf x.lp)).fwd.failedReads = [] := by
        rw [State.crossDrop_frame, hframe]; exact hreads
      refine ⟨_, (exec_crossingArrive t s hd up).trans (by rw [hdrop, State.logReads_of_none hreads']), ?_, ?_, ?_, ?_⟩
      · rw [State.cells_crossDrop _ _ hd hd', if_neg hne, State.cells_modCells _ _ _ _ hd' hd', if_pos rfl]
      · rw [State.cells_crossDrop _ _ hd hd, if_pos rfl, State.cells_modCells _ _ _ _ hd' hd, if_neg hne.symm]; rfl
      · rw [State.cells_crossDrop _ _ hd hd, if_pos rfl, State.cells_modCells _ _ _ _ hd' hd, if_neg hne.symm]; rfl
      · rw [State.crossDrop_frame, hframe]; rfl
    · have hwalk : (s.at t).crossArrive d up = v.crossWalk d up x := by
        rw [harr]
        refine if_neg ?_
        rw [hprune, hlive]
        simpa using hfits
      have hk : (v.newChain d x.allot (cellsOf x.f.len) true).1 = s.egr.nextChain := hnext
      intro k w
      rw [exec_crossingArrive t s hd, hwalk]
      refine ⟨fun p hdest => by simp only [State.crossWalk, hk, hdest]; rfl, fun vid hdest hvlan hvid => ?_, fun i hdest hlim => ?_⟩
      · have hpipe : w.pipe (plOf x.lp) = s.pipe (x.lp / 128) := by
          have hw : w.fwd = v.fwd := (State.newChain_kept ..).2.2.2.2.2.2.2.2.1
          rw [State.pipe, hw, hframe]; rfl
        have hflood : w.crossFlood d x.lp vid up.vlan =
            ((w.floodSet vid).filter (fun p => decide (p / 512 = d)), w) := by
          rw [State.crossFlood, hpipe]
          exact if_neg (by simp [hvlan, hvid])
        simp only [State.crossWalk, hk, hdest]
        rw [hflood]
      · simp only [State.crossWalk, hk, hdest]
        rw [hlim]
        rfl
  case ack =>
    intro s t k h
    exact ⟨_, exec_crossingAck t k s, exec_crossingAck_frame t k s (by omega),
      fun j hj => by rw [State.chain_dropRef, if_neg hj]; rfl, State.dropRef_frame ..⟩
  case lastAck =>
    intro s t k h
    refine ⟨_, exec_crossingAck t k s, ?_, fun j hj => by rw [State.chain_dropRef, if_neg hj]; rfl,
      State.dropRef_frame ..⟩
    rw [State.chain_dropRef, if_pos rfl]
    exact if_pos h

end Sys2Proof.Machine
end

section
/-! PROOFS. Egress (10): shaper refills, gate entries and schedules, the deep share, queue records and enables (R268 to R272,
R280 to R282, R286, R360). -/

namespace Sys2Proof.Machine

/-! ## Refill instants (R269, R271) -/

theorem queueNo_eq (lp k : Nat) : queueNo lp k = 256 * lp + k := rfl

theorem exec_refill_queue (t lp k : Nat) (s : State) (hlp : lp < 1024) (hk : k < 256) :
    exec (.shaperRefill t lp false k) s = .next ((s.at t).refillQueue (256 * lp + k)) :=
  if_pos (by simp [isLp, isPortQueue, hlp, hk])

theorem exec_refill_group (t lp k : Nat) (s : State) (hlp : lp < 1024) (hk : k < 16) :
    exec (.shaperRefill t lp true k) s = .next ((s.at t).refillGroup (16 * lp + k)) :=
  if_pos (by simp [isLp, isQGroup, hlp, hk])

/-! ## Gates (R280 to R282) -/

theorem State.gatesAt_on {s : State} {lp : Nat} (t : Int) (h : s.gating lp = true) : s.gatesAt lp t =
    s.modGate lp (fun g => { g with entry := (g.active.at t).1, gates := BitVec.ofNat 16 (g.active.at t).2.1 }) := by
  simp only [State.gatesAt, h, if_true]

/-- The gates of a port move to an entry: its schedules, its bank and its cycles stay. -/
theorem State.gate_gatesAt (s : State) (lp : Nat) (t : Int) :
    ((s.gatesAt lp t).gate lp).active = (s.gate lp).active ∧ ((s.gatesAt lp t).gate lp).isPending = (s.gate lp).isPending ∧
    ((s.gatesAt lp t).gate lp).cycles = (s.gate lp).cycles ∧ ((s.gatesAt lp t).gate lp).bank = (s.gate lp).bank ∧
    ∀ j, j ≠ lp → (s.gatesAt lp t).gate j = s.gate j := by
  simp only [State.gatesAt, State.gate_modGate, if_true]
  refine ⟨?_, ?_, ?_, ?_, fun j hj => if_neg hj⟩ <;> split <;> rfl

/-- A change of entry while gating is on; a cycle that starts now is counted (R281). -/
theorem State.gateMoves_on {s : State} {lp : Nat} (h : s.gating lp = true) : s.gateMoves lp =
    if (s.gate lp).active.start ((s.gate lp).active.cycleAt s.now) = (s.now : Int) ∧ s.inUse lp = true then
      (s.gatesAt lp s.now).modGate lp (fun g => { g with cycles := (g.cycles + 1) % 4294967296 })
    else s.gatesAt lp s.now := by
  rw [State.gateMoves, h]
  rfl

theorem exec_gateEntryChange (t : Nat) (s : State) {lp : Nat} (h : lp < 1024) :
    exec (.gateEntryChange t lp) s = .next ((s.at t).gateMoves lp) := if_pos (decide_eq_true h)

theorem exec_gateScheduleChange (t : Nat) (s : State) {lp : Nat} (h : lp < 1024) :
    exec (.gateScheduleChange t lp) s = .next ((s.at t).gateChanges lp) := if_pos (decide_eq_true h)

/-- Settles O14: what each instant of a shaper, a gate list and the deep share leaves. -/
theorem shapersAndGates : Obligations.ShapersAndGates := by
  unfold Obligations.ShapersAndGates
  intro s t lp k hlp
  refine ⟨fun hk hdue => ?queue, fun hk hdue => ?group, fun hk hdue => ?queueEarly, fun hk hdue => ?groupEarly,
    fun hoff => ?off, fun hnone => ?noChange, fun hon => ?entry, fun hpend hnow => ?schedule, fun d hd => ?deep⟩
  case queue =>
    refine ⟨_, exec_refill_queue t lp k s hlp hk, ?_⟩
    rw [State.refillQueue, if_neg (by simpa using hdue)]
    exact ⟨by rw [State.queue_modQueue, if_pos rfl]; rfl, fun j hj => by rw [State.queue_modQueue, if_neg hj]; rfl, rfl⟩
  case group =>
    refine ⟨_, exec_refill_group t lp k s hlp hk, ?_⟩
    rw [State.refillGroup, if_neg (by simpa using hdue)]
    exact ⟨by rw [State.qgroup_modQGroup, if_pos rfl]; rfl, fun j hj => by rw [State.qgroup_modQGroup, if_neg hj]; rfl, rfl⟩
  case queueEarly => rw [exec_refill_queue t lp k s hlp hk, State.refillQueue, if_pos (by simpa using hdue)]
  case groupEarly => rw [exec_refill_group t lp k s hlp hk, State.refillGroup, if_pos (by simpa using hdue)]
  case off =>
    have hoff' : (s.at t).gating lp = false := hoff
    rw [exec_gateEntryChange t s hlp, State.gateMoves, hoff']
    rfl
  case noChange =>
    rw [exec_gateScheduleChange t s hlp, State.gateChanges]
    exact congrArg _ (if_pos (by simpa using hnone))
  case entry =>
    have hon' : (s.at t).gating lp = true := hon
    refine ⟨_, exec_gateEntryChange t s hlp, ?_⟩
    have hframe : (s.at t).gatesAt lp t = { s.at t with egr := ((s.at t).gatesAt lp t).egr } := rfl
    obtain ⟨hactive, -, hcycles, -, hother⟩ := (s.at t).gate_gatesAt lp t
    have hentry : (((s.at t).gatesAt lp t).gate lp).entry = ((s.gate lp).active.at t).1 ∧
        (((s.at t).gatesAt lp t).gate lp).gates = BitVec.ofNat 16 ((s.gate lp).active.at t).2.1 := by
      rw [State.gatesAt_on _ hon', State.gate_modGate, if_pos rfl]
      exact ⟨rfl, rfl⟩
    rw [State.gateMoves_on hon']
    have hnow : (s.at t).now = t := rfl
    rw [hnow]
    generalize (s.at t).gatesAt lp t = v at hactive hcycles hother hentry hframe ⊢
    by_cases hstart : (s.gate lp).active.start ((s.gate lp).active.cycleAt t) = (t : Int) ∧ s.inUse lp = true
    · rw [show (if ((s.at t).gate lp).active.start (((s.at t).gate lp).active.cycleAt t) = (t : Int) ∧
        (s.at t).inUse lp = true then v.modGate lp (fun g => { g with cycles := (g.cycles + 1) % 4294967296 }) else v) =
        v.modGate lp (fun g => { g with cycles := (g.cycles + 1) % 4294967296 }) from if_pos hstart, if_pos hstart]
      refine ⟨?_, ?_, ?_, ?_, fun j hj => ?_, by rw [hframe]; rfl⟩
      · simpa using hentry.1
      · simpa using hentry.2
      · simpa using hactive
      · simpa using congrArg (fun n => (n + 1) % 4294967296) hcycles
      · rw [State.gate_modGate, if_neg hj, hother j hj]; rfl
    · rw [show (if ((s.at t).gate lp).active.start (((s.at t).gate lp).active.cycleAt t) = (t : Int) ∧
        (s.at t).inUse lp = true then v.modGate lp (fun g => { g with cycles := (g.cycles + 1) % 4294967296 }) else v) =
        v from if_neg hstart, if_neg hstart]
      exact ⟨hentry.1, hentry.2, hactive, hcycles, hother, hframe⟩
  case schedule =>
    have hdue : ¬((!((s.at t).gate lp).isPending) = true ∨ (s.at t).now ≠ ((s.at t).gate lp).changeTime) := by
      simpa [hpend] using hnow
    refine ⟨_, exec_gateScheduleChange t s hlp, ?_⟩
    rw [State.gateChanges]
    simp only [if_neg hdue]
    obtain ⟨hactive, hpending, hcycles, hbank, hother⟩ := ((s.at t).modGate lp (fun g =>
      { g with active := g.pending, isPending := false, bank := !g.bank, cycles := 0 })).gate_gatesAt lp t
    simp only [State.gate_modGate, if_true] at hactive hpending hcycles hbank
    refine ⟨?_, ?_, ?_, ?_, fun j hj => ?_, by rw [State.raise_frame]; rfl⟩
    · rw [State.gate_raise]; exact hactive
    · rw [State.gate_raise]; exact hpending
    · rw [State.gate_raise]; exact hcycles
    · rw [State.gate_raise]; exact hbank
    · rw [State.gate_raise]; exact (hother j hj).trans (by rw [State.gate_modGate, if_neg hj]; rfl)
  case deep =>
    refine ⟨_, if_pos (decide_eq_true hd), ?_, ?_, State.modCells_frame ..⟩
    · rw [State.cells_modCells _ _ _ _ hd hd, if_pos rfl]; rfl
    · rw [State.cells_modCells _ _ _ _ hd (by omega), if_neg (by omega)]; rfl

/-! ## Queue records (R268, R286) -/

/-- An allotment that may read an entry whose space and row are known. -/
theorem mayRead_right {s : State} {a fam inst mem : Nat} (h : mayRead s a fam inst mem) {sp : Space} {n : Nat} {r : Row}
    (hs : spaceOf fam inst = some (sp, n)) (hr : entryRow sp n mem = some r) :
    canRead r.acc (s.rightsMask a fam inst sp n) = true := by
  obtain ⟨sp', n', r', h1, h2, h3⟩ := h
  obtain ⟨rfl, rfl⟩ : sp = sp' ∧ n = n' := by simpa [hs] using h1
  obtain rfl : r = r' := by simpa [hr] using h2
  exact h3

theorem spaceOf_queues {lp : Nat} (h : lp < 1024) : spaceOf 0x12 lp = some (.queues, lp) := by
  have hle : lp ≤ 0x3FF := by omega
  simp [spaceOf, spacesOf, hle]

theorem spaceOf_allot {a : Nat} (h : a < 16) : spaceOf 0x04 a = some (.allot, a) := by
  have hle : a ≤ 0xF := by omega
  simp [spaceOf, spacesOf, hle]

/-- A POLICER field that names a policer or none is in its ranges (R302). -/
theorem nearest_policer {p : Nat} (h : p = 0xFFFF ∨ p ≤ 32767) : nearest [(0, 32767), (0xFFFF, 0xFFFF)] (p : Int) = p := by
  rcases h with rfl | h
  · rfl
  · have hlow : clip (p : Int) 0 32767 = p := by simp only [clip]; omega
    show (if (clip (p : Int) 0xFFFF 0xFFFF - p).natAbs < (clip (p : Int) 0 32767 - p).natAbs then
      clip (p : Int) 0xFFFF 0xFFFF else clip (p : Int) 0 32767) = p
    rw [hlow, if_neg (by simp)]

/-- The shaper of a queue record (Table 10.4). -/
def recordShaper (b : List Byte) : Shaper :=
  { shape := (fieldAt b 1 1).testBit 1, refill := fieldAt b 4 2, depth := fieldAt b 6 2, period := fieldAt b 8 4 }

/-- A queue as a record in its ranges leaves it: its shaper waits for the refill instant (R271). -/
def Queue.written (x : Queue) (b : List Byte) : Queue :=
  { x with deep := (fieldAt b 1 1).testBit 0, limit := fieldAt b 2 2, epolicer := fieldAt b 12 2,
           pend := nextShaper x.shaper (recordShaper b) }

/-- A queue record in its ranges, of a policer of the port's owner or none. -/
theorem State.writeQueue_inRange {s : State} {a lp : Nat} {b : List Byte} (hlen : b.length = 16)
    (hlimit : 1 ≤ fieldAt b 2 2)
    (hpol : fieldAt b 12 2 = 0xFFFF ∨
      (fieldAt b 12 2 ≤ 32767 ∧ s.cfgN 0x14 (32768 * (lp / 512) + fieldAt b 12 2) 0x01 = s.portOwner lp))
    (hrefill : 1 ≤ fieldAt b 4 2) (hdepth : fieldAt b 4 2 ≤ fieldAt b 6 2)
    (hp1 : 100 ≤ fieldAt b 8 4) (hp2 : fieldAt b 8 4 ≤ 1000000) :
    s.writeQueue a lp b = (s.modQueue (256 * lp + fieldAt b 0 1) (fun x => x.written b)).ok := by
  have hnear := nearest_policer (hpol.imp id And.left)
  have hl : Nat.max 1 (fieldAt b 2 2) = fieldAt b 2 2 := Nat.max_eq_right hlimit
  have hsh (on : Bool) : shaperOf on (fieldAt b 4 2) (fieldAt b 6 2) (fieldAt b 8 4) =
      { shape := on, refill := fieldAt b 4 2, depth := fieldAt b 6 2, period := fieldAt b 8 4 } := by
    have h1 : Nat.max 1 (fieldAt b 4 2) = fieldAt b 4 2 := Nat.max_eq_right hrefill
    have h2 : Nat.max (fieldAt b 4 2) (fieldAt b 6 2) = fieldAt b 6 2 := Nat.max_eq_right hdepth
    have h3 : into 100 1000000 (fieldAt b 8 4) = fieldAt b 8 4 := by
      have hmax : Nat.max 100 (fieldAt b 8 4) = fieldAt b 8 4 := Nat.max_eq_right hp1
      rw [into, hmax, Nat.min_eq_right hp2]
    rw [shaperOf, h1, h2, h3]
  have hown : ¬(fieldAt b 12 2 ≠ 0xFFFF ∧ s.cfgN 0x14 (32768 * dieOf lp + fieldAt b 12 2) 0x01 ≠ s.portOwner lp) := by
    rintro ⟨h1, h2⟩
    exact hpol.elim h1 (fun h => h2 h.2)
  simp only [State.writeQueue, hnear, Int.toNat_natCast, hl, hsh]
  rw [if_neg (by simp [hlen]), if_neg hown]
  simp [State.clampIf, bit, queueNo_eq, Queue.written, recordShaper]

theorem exec_queueWrite (t a : Nat) (s : State) {lp : Nat} (b : List Byte) (ha : a < 16) (hlp : lp < 1024) :
    exec (.queueWrite t a lp b) s = .next ((s.at t).orderWrite a 0x12 lp 0x03 b) :=
  (if_pos (decide_eq_true ha)).trans (by simp [named, isLp, hlp])

theorem exec_queueRead (t a k : Nat) (s : State) {lp : Nat} (ha : a < 16) (hlp : lp < 1024) :
    exec (.queueRead t a lp k) s = .next ((s.at t).orderRead a 0x12 lp 0x04 (natLe 1 k)) :=
  (if_pos (decide_eq_true ha)).trans (by simp [named, isLp, hlp])

theorem exec_queueEnable (t a q : Nat) (on : Bool) (s : State) {b : Nat} (ha : a < 16) (hb : b < 16) :
    exec (.queueEnable t a b q on) s = .next ((s.at t).orderWrite a 0x04 b 0x0E (natLe 4 q ++ natLe 1 (b2n on))) :=
  (if_pos (decide_eq_true ha)).trans (by simp [named, isAllot, hb])

theorem State.writeEnableEntry_owned {s : State} {a n q : Nat} (hq : q < 262144) (hown : s.portOwner (q / 256) = n)
    (on : Bool) : s.writeEnableEntry a n (natLe 4 q ++ natLe 1 (b2n on)) =
      (s.modQueue q (fun x => { x with enabled := on })).ok := by
  have hqueue : fieldAt (natLe 4 q ++ natLe 1 (b2n on)) 0 4 = q := by rw [fieldAt_natLe]; omega
  have hon : fieldAt (natLe 4 q ++ natLe 1 (b2n on)) 4 1 = b2n on := by
    rw [fieldAt_skip 4 q _ (le_refl 4), fieldAt_natLe_last]; cases on <;> rfl
  have howner : ¬(262144 ≤ q ∨ s.portOwner (lpOfQueue q) ≠ n) := by
    rintro (h | h)
    · omega
    · exact h hown
  simp only [State.writeEnableEntry, hqueue, hon]
  rw [if_neg (by simp), if_neg howner]
  cases on <;> rfl

/-- A write whose entry only changes one queue. -/
theorem queue_accepted {s u : State} {t q : Nat} {f : Queue → Queue} (h : accepted ((s.at t).modQueue q f) u t) :
    u.queue q = f (s.queue q) ∧ (∀ j, j ≠ q → u.queue j = s.queue j) ∧ accepted { s.at t with egr := u.egr } u t := by
  have hegr : u.egr = ((s.at t).modQueue q f).egr := by rw [h]
  refine ⟨?_, fun j hj => ?_, by rw [hegr]; exact h⟩
  · rw [State.queue, hegr]; exact (State.queue_modQueue ..).trans (if_pos rfl)
  · rw [State.queue, hegr]; exact (State.queue_modQueue ..).trans (if_neg hj)

/-- Settles O15: a queue record, a read of one, and an enable. -/
theorem queueRows : Obligations.QueueRows := by
  unfold Obligations.QueueRows
  intro s t a ha hs
  refine ⟨fun lp b hlp hlen hw hlimit hpol hrefill hdepth hp1 hp2 => ?write, fun lp k hlp hk hr hc => ?read,
    fun b q on hb hq hown hw => ?enable⟩
  case write =>
    have hwrite := State.writeQueue_inRange (s := s.at t) (a := a) hlen hlimit hpol hrefill hdepth hp1 hp2
    have h := queue_accepted (blob_accepted hs (spaceOf_queues hlp) ⟨_, rfl, rfl, rfl⟩ (.inr hw) (by simp) (by simp) hwrite)
    exact ⟨_, exec_queueWrite t a s b ha hlp, h⟩
  case read =>
    have hread : (s.at t).entryRead a 0x12 lp 0x04 .queues lp (natLe 1 k) = (0, s.queueRecord (256 * lp + k)) := by
      have hindex : leNat (natLe 1 k) = k := leNat_one hk
      show (if (natLe 1 k).length = 1 then (0, (s.at t).queueRecord (queueNo lp (leNat (natLe 1 k)))) else (4, [])) = _
      rw [if_pos (natLe_length 1 k), hindex]
      rfl
    rw [exec_queueRead t a k s ha hlp, orderRead_answers hs hc (spaceOf_queues hlp) rfl
      (.inr (mayRead_right hr (spaceOf_queues hlp) rfl)) hread]
  case enable =>
    have hwrite := State.writeEnableEntry_owned (s := s.at t) (a := a) hq hown on
    have h := queue_accepted (blob_accepted (b := natLe 4 q ++ natLe 1 (b2n on)) hs (spaceOf_allot hb) ⟨_, rfl, rfl, rfl⟩
      (.inr hw) (by simp) (by simp) hwrite)
    exact ⟨_, exec_queueEnable t a q on s ha hb, h⟩

end Sys2Proof.Machine
end

section
/-! PROOFS. Frames (10, 03): what a port starts to send, and what the end of a frame leaves (R3, R76, R266, R388). -/

namespace Sys2Proof.Machine

/-! ## What leaves the queues as they are -/

theorem State.queues_modCells (s : State) (d : Nat) (f : CellStore → CellStore) :
    (s.modCells d f).egr.queues = s.egr.queues := by unfold State.modCells; split <;> rfl

theorem State.queues_carve (s : State) (d : Nat) : (s.carve d).egr.queues = s.egr.queues := by
  unfold State.carve
  split
  · rfl
  · refine foldl_keeps (fun s : State => s.egr.queues) _ _ (fun s p _ => ?_) s
    dsimp only
    split <;> exact State.queues_modCells ..

theorem State.queues_dropRef (s : State) (k : Nat) : (s.dropRef k).egr.queues = s.egr.queues := by
  unfold State.dropRef
  dsimp only
  split
  · rfl
  · split
    · exact (State.queues_carve ..).trans (State.queues_modCells ..)
    · rfl

/-- A copy that is released gives back cells, a buffer or a reference; no queue changes. -/
theorem State.queues_releaseCopy (s : State) (die loc arg allot chain n : Nat) :
    (s.releaseCopy die loc arg allot chain n).egr.queues = s.egr.queues := by
  unfold State.releaseCopy
  split
  · exact s.queues_dropRef chain
  · split
    · exact State.queues_modCells ..
    · exact (State.queues_carve ..).trans (State.queues_modCells ..)

theorem State.queues_crossDrop (s : State) (d pl : Nat) : (s.crossDrop d pl).egr.queues = s.egr.queues := by
  simp [State.crossDrop, State.raise_kept .., State.queues_modCells]

theorem State.queues_dropBound (s : State) (d : Nat) : (s.dropBound d).egr.queues = s.egr.queues := by
  unfold State.dropBound
  dsimp only
  rw [foldl_keeps (fun s : State => s.egr.queues) _ _ (fun s x _ => s.queues_crossDrop d _),
    foldl_keeps (fun s : State => s.egr.queues) _ _
      (fun s x _ => (State.queues_dropRef ..).trans (s.queues_crossDrop d _)), State.queues_modCells]

theorem State.queues_pruneP (s : State) (p : Nat) : (s.pruneP p).egr.queues = s.egr.queues := by
  unfold State.pruneP
  split
  · rfl
  · have hslave : ∀ (c : Prop) [Decidable c] (u : State), (if c then u.slaveLost else u).egr = u.egr := fun c _ u => by
      split <;> simp [State.slaveLost_kept ..]
    dsimp only
    rw [(State.judgeAll_kept ..).2.2.2.2.2.2.2.2.2.2.1, hslave, State.queues_dropBound]
    simp [State.takeOverDecodes_kept .., State.takeOverAll_kept .., State.prunePorts_kept .., State.markPruned_kept ..]

/-- A stack of a pipeline die, or a number past the last one, has no beds that go with it. -/
theorem State.queues_pruneStack (s : State) {m : Nat} (hm : 8 ≤ m) : (s.pruneStack m).egr.queues = s.egr.queues := by
  unfold State.pruneStack
  split
  · rfl
  · dsimp only
    rw [if_neg (by omega), State.queues_pruneP]
    simp [State.markPruned_kept ..]

/-- The reaction to a read error of a stack of a pipeline die: whatever its class, no queue changes. -/
theorem State.queues_react_deep (s : State) {d : Nat} (cls : Nat) (h8 : 8 ≤ d) (h12 : d < 12) :
    (s.react (0xC00 + 16 * d + 1) cls).egr.queues = s.egr.queues := by
  have hdom : (0xC00 + 16 * d + 1) / 256 = 12 := by omega
  have hunit : unitOf (0xC00 + 16 * d + 1) = some (12, d) := by
    have hn : (0xC00 + 16 * d + 1) % 256 = 16 * d + 1 := by omega
    have hd : (16 * d + 1) / 16 = d := by omega
    simp [unitOf, hdom, hn, hd, show 16 * d + 1 < 192 by omega]
  match cls with
  | 0 => rfl
  | 1 => simp [State.react, hdom]
  | n + 2 =>
    simp only [State.react, hunit, hdom, State.pruneUnit]
    rw [if_neg (by decide), if_neg (by decide), if_neg (by decide), if_neg (by decide), if_pos trivial]
    rw [(State.stopTicks_kept ..).2.2.2.2.2.2.2.2.2.2.2.1, State.queues_pruneStack _ (by split <;> omega)]
    simp [State.abandon_kept ..]

theorem State.queues_pulse_deep (s : State) {d : Nat} (h8 : 8 ≤ d) (h12 : d < 12) :
    (s.pulseFault (0xC00 + 16 * d + 1)).egr.queues = s.egr.queues := by
  unfold State.pulseFault State.raised
  split
  · rfl
  · split
    · rfl
    · rw [State.queues_react_deep _ _ h8 h12]
      simp [State.recordRaise_kept ..]

theorem State.queues_deepReadError (s : State) {d : Nat} (r : Nat) (h8 : 8 ≤ d) (h12 : d < 12) :
    (s.deepReadError d r).egr.queues = s.egr.queues := by
  have herr : ∀ (u : State) (a : Nat) (y : BitVec 32), (u.stackError d 1 r a y).egr.queues = u.egr.queues := fun u a y => by
    rw [State.stackError, State.queues_pulse_deep _ h8 h12]
    simp [State.logStack_kept ..]
  unfold State.deepReadError
  dsimp only
  split
  · exact herr ..
  · split <;> simp [State.logStack_kept .., herr]

theorem State.queues_breakCell (s : State) (k : Nat) : (s.breakCell k).egr.queues = s.egr.queues := by
  unfold State.breakCell
  dsimp only
  split <;> rfl

/-- A failed read of a copy's cells: counted, logged and reported, and no queue changes. -/
theorem State.queues_cellFails (s : State) {lp : Nat} (x : QPkt) (hlp : lp < 1024) :
    (s.cellFails lp x).egr.queues = s.egr.queues := by
  have hdie : dieOf lp < 2 := by unfold dieOf; omega
  have hlog : ∀ (f : PortCounts → PortCounts) (n : Nat), ((s.countPort lp f).logFault n).egr = s.egr := fun f n => by
    simp [State.logFault_kept .., State.countPort_kept ..]
  unfold State.cellFails
  dsimp only
  split
  · rw [State.queues_breakCell, hlog]
  · split
    · rw [State.queues_deepReadError _ _ (by omega) (by omega), hlog]
    · rw [hlog]

/-! ## The scheduler's choice (R266) -/

/-- The member whose turn it is is one of those that take turns. -/
theorem wrr_lt {n m : Nat} {cand : Nat → Bool} {weight : Nat → Nat} {turn t : Nat × Nat}
    (h : wrr n cand weight turn = some (m, t)) : m < n := by
  unfold wrr at h
  dsimp only at h
  split at h
  · cases h
  · next k hk =>
    obtain ⟨rfl, -⟩ := by simpa using h
    obtain ⟨j, hj, rfl⟩ := List.mem_map.1 (List.mem_of_find?_eq_some hk)
    exact Nat.mod_lt _ (by have := List.mem_range.1 hj; omega)

theorem wrr_none {n : Nat} {cand : Nat → Bool} (weight : Nat → Nat) (turn : Nat × Nat) (h : ∀ m, m < n → cand m = false) :
    wrr n cand weight turn = none := by
  have hfind : ((List.range n).map (fun k => (turn.1 + k) % n)).find? cand = none := by
    refine List.find?_eq_none.2 fun m hm => ?_
    obtain ⟨j, hj, rfl⟩ := List.mem_map.1 hm
    simp [h _ (Nat.mod_lt _ (by have := List.mem_range.1 hj; omega))]
  simp only [wrr, hfind]

/-- The queue chosen is one of the port's, and of the port only the turns move on. -/
theorem State.choose_spec {s : State} {lp q : Nat} {p : Port} (h : s.choose lp = some (q, p)) :
    (∃ k, k < 256 ∧ q = 256 * lp + k) ∧
      ∃ a b c, p = { s.port lp with rrCatch := a, rrGroup := b, rrClass := c } := by
  unfold State.choose at h
  dsimp only at h
  split at h
  · next k t hk =>
    obtain ⟨rfl, rfl⟩ := by simpa using h
    exact ⟨⟨k, wrr_lt hk, rfl⟩, _, _, _, rfl⟩
  · split at h
    · cases h
    · split at h
      · cases h
      · next g tg hg =>
        have hg := wrr_lt hg
        split at h
        · next c hc =>
          obtain ⟨rfl, rfl⟩ := by simpa using h
          have hc : c < 16 := by simpa using List.mem_of_find?_eq_some hc
          exact ⟨⟨16 * g + c, by omega, rfl⟩, _, _, _, rfl⟩
        · split at h
          · cases h
          · next c tc hc =>
            obtain ⟨rfl, rfl⟩ := by simpa using h
            have hc := wrr_lt hc
            exact ⟨⟨16 * g + c, by omega, rfl⟩, _, _, _, rfl⟩

/-- With every queue of the port empty the scheduler chooses none. -/
theorem State.choose_empty {s : State} {lp : Nat} (h : ∀ k, k < 256 → (s.queue (256 * lp + k)).pkts = []) :
    s.choose lp = none := by
  have hc : ∀ k, k < 256 → s.candidate (queueNo lp k) = false := fun k hk => by
    simp [State.candidate, queueNo, h k hk]
  have hgroup : ∀ g, g < 16 → (List.range 16).any (fun c => s.candidate (queueNo lp (16 * g + c))) = false := fun g hg => by
    refine List.any_eq_false.2 fun c hm => ?_
    simp [hc (16 * g + c) (by have := List.mem_range.1 hm; omega)]
  have hlevel : ∀ l, (List.range 16).any (fun g => decide ((s.qgroup (16 * lp + g)).prio = l) &&
      (List.range 16).any (fun c => s.candidate (queueNo lp (16 * g + c)))) = false := fun l => by
    refine List.any_eq_false.2 fun g hm => ?_
    simp [hgroup g (List.mem_range.1 hm)]
  unfold State.choose
  dsimp only
  rw [wrr_none _ _ fun k hk => by rw [hc k hk, Bool.false_and]]
  simp only [hlevel, List.find?]

/-! ## The head packet leaves its queue (R266, R388) -/

theorem State.inUse_of_alm {s u : State} (h : u.alm = s.alm) (lp : Nat) : u.inUse lp = s.inUse lp := by
  unfold State.inUse State.breakoutOf State.cfgN State.cfg
  rw [h]

theorem State.port_of_fwd {s u : State} (h : u.fwd = s.fwd) (lp : Nat) : u.port lp = s.port lp :=
  congrArg (fun f : Forwarding => tget (fun _ => ({} : Port)) f.ports lp) h

theorem State.countQueue_of_inUse {s : State} {q : Nat} (hu : s.inUse (lpOfQueue q) = true) (f : Queue → Queue) :
    s.countQueue q f = s.modQueue q f := if_pos hu

theorem State.queue_takeTokens (s : State) (q j : Nat) (late : Bool) :
    ∃ n, (s.takeTokens q late).queue j = { s.queue j with tokens := n } := by
  have hown : ∀ (c : Prop) [Decidable c] (u : State), u.queue j = s.queue j →
      ∃ n, (if c then u.modQueue q (fun x => { x with tokens := x.tokens - 1 }) else u).queue j =
        { s.queue j with tokens := n } := fun c _ u hu => by
    split
    · rw [State.queue_modQueue]
      split
      · next hj => subst hj; rw [hu]; exact ⟨_, rfl⟩
      · exact ⟨_, hu⟩
    · exact ⟨_, hu⟩
  unfold State.takeTokens
  dsimp only
  split
  · exact hown _ _ rfl
  · exact hown _ _ rfl

theorem State.queue_takeHead (s : State) (q : Nat) :
    ∃ n, (s.takeHead q).queue q = { s.queue q with pkts := (s.queue q).pkts.drop 1, waitCounted := false, tokens := n } := by
  have hkeep : ∀ (u : State) (k : Nat) (f : QGroup → QGroup), (u.modQGroup k f).queue q = u.queue q := fun _ _ _ => rfl
  unfold State.takeHead
  dsimp only
  split
  · rw [hkeep, State.queue_modQueue, if_pos rfl]; exact ⟨_, rfl⟩
  · split
    · rw [hkeep, State.queue_modQueue, if_pos rfl]; exact ⟨_, rfl⟩
    · rw [State.queue_modQueue, if_pos rfl]; exact ⟨_, rfl⟩

/-- The head packet is taken from its queue, with its tokens; a late one is counted (R266, R278). -/
def State.taken (s : State) (q : Nat) (late : Bool) : State :=
  let s := (s.takeTokens q late).takeHead q
  if late then s.countQueue q (fun y => { y with late := inc64 y.late }) else s

/-- What taking the head packet leaves: the rest of its queue, and everything outside the egress. -/
theorem State.taken_leaves (s : State) (q : Nat) (late : Bool) :
    ((s.taken q late).queue q).pkts = (s.queue q).pkts.drop 1 ∧ ((s.taken q late).queue q).sent = (s.queue q).sent ∧
      (s.taken q late).fwd = s.fwd ∧ (s.taken q late).alm = s.alm ∧ (s.taken q late).now = s.now := by
  obtain ⟨n, hn⟩ := s.queue_takeTokens q q late
  obtain ⟨m, hm⟩ := (s.takeTokens q late).queue_takeHead q
  rw [hn] at hm
  refine ⟨?_, ?_, ?_, ?_, ?_⟩ <;> unfold State.taken <;> dsimp only <;> split
  · unfold State.countQueue
    split
    · rw [State.queue_modQueue, if_pos rfl, hm]
    · rw [hm]
  · rw [hm]
  · unfold State.countQueue
    split
    · rw [State.queue_modQueue, if_pos rfl, hm]
    · rw [hm]
  · rw [hm]
  all_goals simp [State.countQueue_kept .., State.takeHead_kept .., State.takeTokens_kept ..]

/-- The port's part of sending a packet that has been taken (R266, R410). -/
def State.sendTaken (s : State) (lp q : Nat) (x : QPkt) (cellError : Bool) : State :=
  let die := dieOf lp
  let s := s.countQueue q (fun y => { y with sent := inc64 y.sent })
  let s := s.countGroup (16 * lp + q / 16 % 16) (fun g => { g with sent := inc64 g.sent })
  let s := if x.loc = 1 then s.meterDeep die x.f.len else s
  let bad := cellError || s.cellBroken x
  let s := if bad then s.cellFails lp x else s
  let s := match x.slot with
    | some n => s.sampleResidence n (s.now - x.enq)
    | none => s
  let sending : Sending :=
    { queue := q, chain := x.chain, f := x.f, payer := x.payer, cls := x.cls, bad := bad, slot := x.slot, loc := x.loc,
      arg := x.arg, allot := x.allot }
  s.modPort lp (fun p => { p with sending := some sending })

theorem State.sendHead_eq (s : State) (lp q : Nat) (x : QPkt) (e : Bool) : s.sendHead lp q x e =
    if ((s.taken q (x.late s.now)).port lp).interruptedTo ≠ 0 then
      ((s.taken q (x.late s.now)).countPort lp (fun c => { c with calDrops := inc64 c.calDrops })).releaseCopy (dieOf lp)
        x.loc x.arg x.allot x.chain x.f.len
    else (s.taken q (x.late s.now)).sendTaken lp q x e := rfl

theorem State.queue_of_queues {s u : State} {q : Nat} (h : u.egr.queues = s.egr.queues) : u.queue q = s.queue q :=
  congrArg (fun t : Tab Queue => tget (fun _ => ({} : Queue)) t q) h

theorem ite_keeps {σ β : Type} (R : σ → β) {c : Prop} [Decidable c] {a b : σ} (h : R a = R b) :
    R (if c then a else b) = R b := by
  split
  · exact h
  · rfl

/-- What no group count, deep meter, failed cell, residence sample or port changes, sending changes only by the queue's
count. -/
theorem State.sendTaken_keeps {β : Type} (R : State → β) {lp : Nat} {x : QPkt}
    (hgroup : ∀ (u : State) k f, R (u.countGroup k f) = R u) (hdeep : ∀ (u : State) d n, R (u.meterDeep d n) = R u)
    (hfail : ∀ u : State, R (u.cellFails lp x) = R u) (hres : ∀ (u : State) n v, R (u.sampleResidence n v) = R u)
    (hport : ∀ (u : State) f, R (u.modPort lp f) = R u) (s : State) (q : Nat) (e : Bool) :
    R (s.sendTaken lp q x e) = R (s.countQueue q (fun y => { y with sent := inc64 y.sent })) := by
  unfold State.sendTaken
  dsimp only
  rw [hport]
  cases x.slot with
  | none => exact (ite_keeps R (hfail _)).trans ((ite_keeps R (hdeep ..)).trans (hgroup ..))
  | some n =>
    dsimp only
    rw [hres]
    exact (ite_keeps R (hfail _)).trans ((ite_keeps R (hdeep ..)).trans (hgroup ..))

theorem State.queues_countGroup (s : State) (k : Nat) (f : QGroup → QGroup) :
    (s.countGroup k f).egr.queues = s.egr.queues := by unfold State.countGroup; split <;> rfl

theorem State.sendTaken_leaves (s : State) {lp q : Nat} (x : QPkt) (e : Bool) (hlp : lp < 1024)
    (hu : s.inUse (lpOfQueue q) = true) :
    ((s.sendTaken lp q x e).queue q).pkts = (s.queue q).pkts ∧
      ((s.sendTaken lp q x e).queue q).sent = inc64 (s.queue q).sent ∧
      ((s.sendTaken lp q x e).port lp).sending.map (fun y => (y.queue, y.chain, y.f)) = some (q, x.chain, x.f) ∧
      (s.sendTaken lp q x e).now = s.now := by
  rw [State.queue_of_queues (State.sendTaken_keeps (fun u => u.egr.queues)
    State.queues_countGroup (fun u d n => u.queues_modCells d _) (fun u => u.queues_cellFails x hlp)
    (fun u n v => by simp [State.sampleResidence_kept ..]) (fun _ _ => rfl) s q e), State.countQueue_of_inUse hu, State.queue_modQueue, if_pos rfl]
  refine ⟨rfl, rfl, ?_, ?_⟩
  · rw [State.sendTaken, State.port_modPort, if_pos rfl]; rfl
  · rw [State.sendTaken_keeps State.now (fun _ _ _ => by simp [State.countGroup_kept ..])
      (fun _ _ _ => by simp [State.meterDeep_kept ..]) (fun _ => by simp [State.cellFails_kept ..])
      (fun _ _ _ => by simp [State.sampleResidence_kept ..]) (fun _ _ => rfl)]
    simp [State.countQueue_kept ..]

/-! ## A port starts a frame -/

/-- What the port does before it chooses: the gate drops of its queues, and the gate waits (R284). -/
def State.trimmed (s : State) (lp : Nat) : State :=
  ((List.range 256).foldl (fun (s : State) k => s.trimHead (queueNo lp k)) s).countWaits lp

theorem State.trimmed_kept (s : State) (lp : Nat) :
    (s.trimmed lp).fwd = s.fwd ∧ (s.trimmed lp).alm = s.alm ∧ (s.trimmed lp).now = s.now := by
  unfold State.trimmed
  refine ⟨?_, ?_, ?_⟩
  · rw [(State.countWaits_kept ..).2.2.2.2.2.2.2.2.1]
    exact foldl_keeps State.fwd _ _ (fun u k _ => by simp [State.trimHead_kept ..]) s
  · rw [(State.countWaits_kept ..).2.2.2.2.2.2.2.2.2.2.2.1]
    exact foldl_keeps State.alm _ _ (fun u k _ => by simp [State.trimHead_kept ..]) s
  · rw [(State.countWaits_kept ..).1]
    exact foldl_keeps State.now _ _ (fun u k _ => by simp [State.trimHead_kept ..]) s

theorem State.trimHead_empty {s : State} {q : Nat} (h : (s.queue q).pkts = []) : s.trimHead q = s := by
  simp only [State.trimHead, State.gateTrim, h]

/-- A step that does nothing at the states that satisfy what it starts from leaves a fold there. -/
theorem foldl_idle {σ α : Type} (f : σ → α → σ) (s : σ) (l : List α) (h : ∀ x ∈ l, f s x = s) : l.foldl f s = s := by
  induction l with
  | nil => rfl
  | cons x xs ih => rw [List.foldl_cons, h x (by simp), ih fun y hy => h y (List.mem_cons_of_mem _ hy)]

theorem State.trimmed_empty {s : State} {lp : Nat} (h : ∀ k, k < 256 → (s.queue (256 * lp + k)).pkts = []) :
    s.trimmed lp = s := by
  unfold State.trimmed State.countWaits
  rw [foldl_idle (fun (u : State) k => u.trimHead (queueNo lp k)) s _ fun k hk =>
    State.trimHead_empty (h k (List.mem_range.1 hk))]
  exact foldl_idle _ s _ fun k hk => by simp [queueNo, h k (List.mem_range.1 hk)]

theorem exec_portFrameStart (t : Nat) (e : Bool) (s : State) {lp : Nat} (h : lp < 1024) :
    exec (.portFrameStart t lp e) s = .next ((s.at t).startFrame lp e) := if_pos (decide_eq_true h)

theorem exec_frameTxEnd (t : Nat) (s : State) {lp : Nat} (h : lp < 1024) :
    exec (.frameTxEnd t lp) s = .next ((s.at t).endFrame lp) := if_pos (decide_eq_true h)

theorem State.startFrame_rests {s : State} {lp : Nat} (e : Bool)
    (h : (s.port lp).st ≠ .forwarding ∨ s.inUse lp = false ∨ (s.port lp).sending.isSome = true) :
    s.startFrame lp e = s := by
  unfold State.startFrame
  dsimp only
  rw [if_pos (by simpa using h)]

section
variable {s : State} {lp : Nat} (e : Bool) (hst : (s.port lp).st = .forwarding) (hu : s.inUse lp = true)
  (hsend : (s.port lp).sending = none)
include hst hu hsend

theorem State.startFrame_none (h : (s.trimmed lp).choose lp = none) : s.startFrame lp e = s.trimmed lp := by
  unfold State.trimmed at h ⊢
  unfold State.startFrame
  dsimp only
  rw [if_neg (by simp [hst, hu, hsend]), h]

theorem State.startFrame_some {c : Nat × Port} (h : (s.trimmed lp).choose lp = some c) :
    s.startFrame lp e = (s.trimmed lp).startQueue lp c.1 c.2 e := by
  unfold State.trimmed at h ⊢
  unfold State.startFrame
  dsimp only
  rw [if_neg (by simp [hst, hu, hsend]), h]

end

theorem State.startQueue_head {s : State} {lp q : Nat} {turns : Port} {e : Bool} {x : QPkt} {r : List QPkt}
    (h : (s.queue q).pkts = x :: r) :
    s.startQueue lp q turns e = (s.modPort lp (fun _ => turns)).sendHead lp q x e := by
  simp only [State.startQueue, h]

/-! ## The last byte leaves (R76) -/

theorem State.endFrame_none {s : State} {lp : Nat} (h : (s.port lp).sending = none) : s.endFrame lp = s := by
  simp only [State.endFrame, h]

/-- The frame has left: it is emitted, and counted while the port is in use. -/
def State.frameLeft (s : State) (lp : Nat) (x : Sending) : State :=
  ((s.modPort lp (fun p => { p with sending := none })).emit (.frame s.now lp x.queue x.f x.bad)).countPort lp
    (fun c => { c with framesTx := inc64 c.framesTx, octetsTx := add64 c.octetsTx x.f.len })
/-- A good frame that is not the module's own counts on the meter of its die (R401, R416). -/
def State.frameMetered (s : State) (lp : Nat) (x : Sending) : State :=
  if x.bad ∨ x.cls = 5 then s
  else s.meter (dieOf lp) x.payer (s.chargeClass x) { packets := 1, bytes := x.f.len }
/-- The copy of the frame is given back: a failed cell or buffer is retired. -/
def State.copyDone (s : State) (lp : Nat) (x : Sending) : State :=
  if x.bad ∧ x.loc = 1 then s.giveDeep (dieOf lp) x.allot x.f.len true
  else if x.bad ∧ x.loc = 2 then s.breakBuffer (dieOf lp) x.arg
  else s.releaseCopy (dieOf lp) x.loc x.arg x.allot x.chain x.f.len

theorem State.endFrame_some {s : State} {lp : Nat} {x : Sending} (h : (s.port lp).sending = some x) :
    s.endFrame lp = ((s.frameLeft lp x).frameMetered lp x).copyDone lp x := by
  simp only [State.endFrame, h]
  rfl

/-- What a frame that has left changes: its port is free and has counted it, and it is emitted. -/
theorem State.frameLeft_leaves (s : State) (lp : Nat) (x : Sending) :
    (s.frameLeft lp x).port lp =
      { s.port lp with sending := none, cnt := if s.inUse lp then
          { (s.port lp).cnt with framesTx := inc64 (s.port lp).cnt.framesTx,
                                 octetsTx := add64 (s.port lp).cnt.octetsTx x.f.len }
        else (s.port lp).cnt } ∧
    (∀ k, k ≠ lp → (s.frameLeft lp x).port k = s.port k) ∧
    s.frameLeft lp x = { s with fwd := (s.frameLeft lp x).fwd, emits := .frame s.now lp x.queue x.f x.bad :: s.emits } := by
  have hin : ((s.modPort lp (fun p => { p with sending := none })).emit (.frame s.now lp x.queue x.f x.bad)).inUse lp =
      s.inUse lp := State.inUse_of_alm rfl lp
  unfold State.frameLeft State.countPort
  rw [hin]
  split
  · exact ⟨by simp, fun k hk => by simp [hk], rfl⟩
  · exact ⟨by simp, fun k hk => by simp [hk], rfl⟩

theorem State.frameMetered_frame (s : State) (lp : Nat) (x : Sending) :
    s.frameMetered lp x = { s with gauge := (s.frameMetered lp x).gauge } := by
  unfold State.frameMetered
  split
  · rfl
  · exact State.parts.2 (by simp [State.meter_kept ..])

theorem State.copyDone_keeps (s : State) (lp : Nat) (x : Sending) :
    (s.copyDone lp x).egr.queues = s.egr.queues ∧ s.copyDone lp x = { s with egr := (s.copyDone lp x).egr } := by
  unfold State.copyDone
  split
  · exact ⟨State.queues_modCells .., State.modCells_frame ..⟩
  · split
    · exact ⟨(State.queues_carve ..).trans (State.queues_modCells ..), State.parts.2 (by simp [State.breakBuffer_kept ..])⟩
    · exact ⟨State.queues_releaseCopy .., State.parts.2 (by simp [State.releaseCopy_kept ..])⟩

/-- Only an on-die copy's chain changes: it has one reference fewer, and its last frees it. -/
theorem State.chain_copyDone (s : State) (lp j : Nat) (x : Sending) : (s.copyDone lp x).chain j =
    if x.loc = 0 then (s.dropRef x.chain).chain j else s.chain j := by
  unfold State.copyDone State.breakBuffer State.giveDeep State.releaseCopy State.giveBuffer
  split
  · next h => rw [if_neg (by omega), State.chain_modCells]
  · split
    · next h => rw [if_neg (by omega), State.chain_carve, State.chain_modCells]
    · split
      · rfl
      · split
        · rw [State.giveDeep, State.chain_modCells]
        · rw [State.chain_carve, State.chain_modCells]

/-- A head packet of a port that a calibration interrupts is dropped: its queue has lost it, and it counts on the port. -/
theorem State.interrupted_leaves {m : State} {lp q : Nat} {turns : Port} {r : List QPkt} {sent t : Nat} {n : Nat}
    {die loc arg allot chain len : Nat} (hu : m.inUse lp = true) (hr : (m.queue q).pkts = r) (hs : (m.queue q).sent = sent)
    (hp : m.port lp = turns) (hidle : turns.sending = none) (hn : turns.cnt.calDrops = n) (ht : m.now = t) :
    let u := (m.countPort lp (fun c => { c with calDrops := inc64 c.calDrops })).releaseCopy die loc arg allot chain len
    (u.queue q).pkts = r ∧ (u.queue q).sent = sent ∧ (u.port lp).sending = none ∧
      (u.port lp).cnt.calDrops = inc64 n ∧ u.now = t := by
  intro u
  have hq : u.queue q = m.queue q := State.queue_of_queues ((State.queues_releaseCopy ..).trans
    (congrArg Egress.queues (by simp [State.countPort_kept ..])))
  have hport : u.port lp = { turns with cnt := { turns.cnt with calDrops := inc64 n } } := by
    rw [State.port_of_fwd (State.releaseCopy_kept ..).2.2.2.2.2.2.2.2.1, State.countPort_of_inUse hu, State.port_modPort,
      if_pos rfl, hp, hn]
  rw [hq, hport]
  exact ⟨hr, hs, hidle, rfl, by simpa [u, State.releaseCopy_kept .., State.countPort_kept ..] using ht⟩

/-- The queue that the scheduler chose gives its head packet: it is sent, or dropped while a calibration interrupts the port
(R266, R388). -/
theorem State.startQueue_leaves {v : State} {lp q : Nat} {turns : Port} {x : QPkt} {r : List QPkt} (e : Bool)
    (hlp : lp < 1024) (h : v.choose lp = some (q, turns)) (hpkts : (v.queue q).pkts = x :: r) (hu : v.inUse lp = true)
    (hsend : (v.port lp).sending = none) :
    let u := v.startQueue lp q turns e
    (turns.interruptedTo = 0 → (u.queue q).pkts = r ∧ (u.queue q).sent = inc64 (v.queue q).sent ∧
      (u.port lp).sending.map (fun y => (y.queue, y.chain, y.f)) = some (q, x.chain, x.f) ∧ u.now = v.now) ∧
    (turns.interruptedTo ≠ 0 → (u.queue q).pkts = r ∧ (u.queue q).sent = (v.queue q).sent ∧
      (u.port lp).sending = none ∧ (u.port lp).cnt.calDrops = inc64 (v.port lp).cnt.calDrops ∧ u.now = v.now) := by
  obtain ⟨⟨k, hk, hqk⟩, a, b, c, hturns⟩ := State.choose_spec h
  have hq : lpOfQueue q = lp := by rw [hqk, lpOfQueue]; omega
  obtain ⟨hmp, hms, hmf, hma, hmn⟩ := (v.modPort lp (fun _ => turns)).taken_leaves q (x.late (v.modPort lp (fun _ => turns)).now)
  have hsplit := State.sendHead_eq (v.modPort lp (fun _ => turns)) lp q x e
  rw [← State.startQueue_head hpkts] at hsplit
  generalize (v.modPort lp (fun _ => turns)).taken q (x.late (v.modPort lp (fun _ => turns)).now) = m at *
  have hmport : m.port lp = turns :=
    (State.port_of_fwd hmf lp).trans ((State.port_modPort ..).trans (if_pos rfl))
  have hmu : m.inUse lp = true := (State.inUse_of_alm hma lp).trans ((State.inUse_of_alm rfl lp).trans hu)
  have hmr : (m.queue q).pkts = r := hmp.trans (congrArg (List.drop 1) hpkts)
  rw [hmport] at hsplit
  refine ⟨fun hi => ?_, fun hi => ?_⟩
  · rw [hsplit, if_neg (by simpa using hi)]
    obtain ⟨h1, h2, h3, h4⟩ := m.sendTaken_leaves x e hlp (hq.symm ▸ hmu)
    exact ⟨h1.trans hmr, h2.trans (congrArg inc64 hms), h3, h4.trans hmn⟩
  · rw [hsplit, if_pos hi]
    exact State.interrupted_leaves hmu hmr hms hmport (by rw [hturns]; exact hsend) (by rw [hturns]) hmn

/-- Settles O13: what a port starts to send, and what the end of a frame leaves. -/
theorem portFrames : Obligations.PortFrames := by
  unfold Obligations.PortFrames
  intro s t lp e hlp
  have hat : (s.at t).inUse lp = s.inUse lp := State.inUse_of_alm rfl lp
  rw [exec_portFrameStart t e s hlp, exec_frameTxEnd t s hlp]
  refine ⟨fun h => ?rests, fun hst hu hsend => ?starts, fun h => congrArg _ (State.endFrame_none h), fun x hx => ?ends⟩
  case rests =>
    obtain h | h | h | h := h
    · rw [State.startFrame_rests (s := s.at t) e (.inl h)]
    · rw [State.startFrame_rests (s := s.at t) e (.inr (.inl (hat.trans h)))]
    · rw [State.startFrame_rests (s := s.at t) e (.inr (.inr h))]
    · by_cases hrest : (s.port lp).st ≠ .forwarding ∨ s.inUse lp = false ∨ (s.port lp).sending.isSome = true
      · rw [State.startFrame_rests (s := s.at t) e (hat.symm ▸ hrest)]
      · obtain ⟨hst, hu, hsend⟩ : (s.port lp).st = .forwarding ∧ s.inUse lp = true ∧ (s.port lp).sending = none := by
          simpa using hrest
        have htrim := State.trimmed_empty (s := s.at t) (lp := lp) h
        rw [State.startFrame_none (s := s.at t) e hst (hat.trans hu) hsend (by rw [htrim]; exact State.choose_empty h), htrim]
  case starts =>
    intro v
    replace hu := hat.trans hu
    have hv : v = (s.at t).trimmed lp := rfl
    clear_value v
    obtain ⟨hfwd, halm, hnow⟩ := (s.at t).trimmed_kept lp
    rw [← hv] at hfwd halm hnow
    replace hnow : v.now = t := hnow
    refine ⟨fun h => by rw [State.startFrame_none (s := s.at t) e hst hu hsend (hv ▸ h), hv], fun q turns x r h hpkts => ?_⟩
    rw [State.startFrame_some (s := s.at t) e hst hu hsend (hv ▸ h), ← hv]
    have hport : v.port lp = s.port lp := State.port_of_fwd hfwd lp
    obtain ⟨hsends, hdrops⟩ := State.startQueue_leaves e hlp h hpkts ((State.inUse_of_alm halm lp).trans hu) (hport ▸ hsend)
    rw [hnow] at hsends hdrops
    exact ⟨fun hi => ⟨_, rfl, hsends hi⟩, fun hi => ⟨_, rfl, hdrops hi⟩⟩
  case ends =>
    obtain ⟨hvp, hvo, hv⟩ := (s.at t).frameLeft_leaves lp x
    rw [hat] at hvp
    have hw := ((s.at t).frameLeft lp x).frameMetered_frame lp x
    rw [State.endFrame_some (s := s.at t) hx]
    generalize (s.at t).frameLeft lp x = v at *
    generalize v.frameMetered lp x = w at *
    obtain ⟨hq, hu⟩ := w.copyDone_keeps lp x
    refine ⟨_, rfl, ?_⟩
    have hchain := fun j => w.chain_copyDone lp j x
    generalize w.copyDone lp x = u at *
    have huv : u = { v with egr := u.egr, gauge := u.gauge } := by
      rw [hu, hw]
    have hport : ∀ k, u.port k = v.port k := fun k => by rw [huv]; rfl
    have hwchain : ∀ j, w.chain j = s.chain j := fun j => by rw [hw, hv]; rfl
    simp only [State.chain_dropRef, hwchain] at hchain
    refine ⟨by rw [hport, hvp], by rw [hport, hvp]; rfl, fun hin => ?_, fun hout => ?_, by rw [huv, hv]; rfl,
      fun h0 h1 => ?_, fun h0 h1 => ?_, fun j hj => ?_, fun k hk => by rw [hport, hvo k hk]; rfl,
      fun q => State.queue_of_queues (hq.trans (by rw [hw, hv]; rfl)), by rw [huv, hv]; rfl⟩
    · rw [hport, hvp, if_pos hin]
      exact ⟨rfl, rfl⟩
    · rw [hport, hvp, if_neg (by simp [hout])]
      rfl
    · rw [hchain, if_pos h0, if_pos rfl, if_neg h1]
    · rw [hchain, if_pos h0, if_pos rfl, if_pos h1]
    · rw [hchain]
      split
      · next h0 => rw [if_neg (hj.resolve_left (fun h => h h0))]
      · rfl

end Sys2Proof.Machine
end

section
/-! PROOFS. The Trellis and the prune requests of the Sieve dies (01): lanes, moves and held transfers (R19, R20, R26). -/

namespace Sys2Proof.Machine

/-! ## A source of class log -/

/-- A cause of a source of class log is recorded, and nothing reacts: its cause is present, and only the collector and the
interrupts change. -/
theorem State.raiseFault_of_log {s : State} {id : Nat} (hin : (sourceInfo id).isSome = true) (hc : s.classOf id = 0) :
    ((s.raiseFault id).source id).cause = true ∧
      s.raiseFault id = { s with flt := (s.raiseFault id).flt, irq := (s.raiseFault id).irq,
                                 allots := (s.raiseFault id).allots, emits := (s.raiseFault id).emits } := by
  by_cases hn : (s.source id).live = true ∨ s.flt.recording = false
  · rw [State.raiseFault_of_noted hin hn]
    exact ⟨by simp, rfl⟩
  · obtain ⟨hlive, hrec⟩ : (s.source id).live = false ∧ s.flt.recording = true := by simpa using hn
    rw [State.raiseFault_of_rise hin hrec hlive, hc]
    refine ⟨?_, State.parts.2 (by simp [State.react, State.recordRaise_kept .., State.causeSet])⟩
    rw [State.react, State.recordRaise_of_recording (s := s.causeSet id) hin hrec]
    simp

/-- A fault that is only logged prunes nothing. -/
theorem State.pruned_logFault (s : State) (id : Nat) : (s.logFault id).flt.pruned = s.flt.pruned := by
  unfold State.logFault State.recordRaise
  dsimp only
  split
  · rfl
  · split
    · rfl
    · simp [State.raise_kept ..]

theorem State.count_logFault {s : State} {id : Nat} (hid : id < 4096) (hin : (sourceInfo id).isSome = true)
    (hrec : s.flt.recording = true) (hlive : (s.source id).live = false) :
    ((s.logFault id).source id).count = inc64 (s.source id).count := by
  rw [State.logFault, if_neg (by simp [hlive]), (State.recordRaise_recorded hid hin hrec false).source]

theorem sourceInfo_linkMove {m : Nat} (hm : m < 13) : (sourceInfo (0xF00 + 16 * m)).isSome = true := by
  interval_cases m <;> rfl

theorem sourceInfo_disagreement {die : Nat} (hd : die < 2) : (sourceInfo (0xF82 + 16 * die)).isSome = true := by
  interval_cases die <;> rfl

/-! ## Lanes (R20) -/

theorem exec_laneFail (t : Nat) (s : State) {m dir : Nat} (hm : m < 13) (hd : dir < 2) :
    exec (.laneFail t m dir) s = .next ((s.at t).laneFails m dir) :=
  if_pos (by simp [isLink, isSide, hm, hd])

theorem exec_laneMoveDone (t : Nat) (s : State) {m dir : Nat} (hm : m < 13) (hd : dir < 2) :
    exec (.laneMoveDone t m dir) s = .next ((s.at t).laneMoved m dir) :=
  if_pos (by simp [isLink, isSide, hm, hd])

/-- A link once a lane of it has failed in a direction: its traffic moves to a spare, or the lane stays failed. -/
def Link.failed (l : Link) (m dir : Nat) : Link :=
  if dir = 0 then
    (if 0 < l.spare0 then { l with spare0 := l.spare0 - 1, moving0 := l.moving0 + 1, holding := true }
     else { l with dead := l.dead + 1, narrow := decide (10 ≤ m) })
  else
    (if 0 < l.spare1 then { l with spare1 := l.spare1 - 1, moving1 := l.moving1 + 1, holding := true }
     else { l with dead := l.dead + 1, narrow := decide (10 ≤ m) })

/-- Spares that a link has left in a direction. -/
def Link.spare (l : Link) (dir : Nat) : Nat := if dir = 0 then l.spare0 else l.spare1

theorem State.laneFails_eq (s : State) (m dir : Nat) : s.laneFails m dir =
    (s.modLink m (fun l => l.failed m dir)).raiseFault
      (if 0 < (s.link m).spare dir then 0xF00 + 16 * m else 0xF01 + 16 * m) := by
  have hmod : ∀ f g : Link → Link, f (s.link m) = g (s.link m) → s.modLink m f = s.modLink m g := fun f g h =>
    congrArg (fun l => { s with links := tput (fun _ => {}) s.links m l }) h
  unfold State.laneFails
  dsimp only
  rw [show (if dir = 0 then (s.link m).spare0 else (s.link m).spare1) = (s.link m).spare dir from rfl]
  split
  · next h =>
    refine congrArg (State.raiseFault · _) (hmod _ _ ?_)
    unfold Link.failed
    unfold Link.spare at h
    split at h <;> simp [*]
  · next h =>
    refine congrArg (State.raiseFault · _) (hmod _ _ ?_)
    unfold Link.failed
    unfold Link.spare at h
    split at h <;> simp [*]

/-- A link once one of its moves in a direction is done. -/
def Link.moved (l : Link) (dir : Nat) : Link :=
  if dir = 0 then { l with moving0 := l.moving0 - 1 } else { l with moving1 := l.moving1 - 1 }

/-- Moves under way on a link in a direction. -/
def Link.moving (l : Link) (dir : Nat) : Nat := if dir = 0 then l.moving0 else l.moving1

theorem State.laneMoved_none {s : State} {m dir : Nat} (h : (s.link m).moving dir = 0) : s.laneMoved m dir = s := if_pos h

theorem State.laneMoved_some {s : State} {m dir : Nat} (h : (s.link m).moving dir ≠ 0) : s.laneMoved m dir =
    (let k := (s.link m).moved dir
     if k.moving0 + k.moving1 ≠ 0 then s.modLink m (Link.moved · dir)
     else ((s.modLink m (Link.moved · dir)).resumeLink m).causeGone (0xF00 + 16 * m)) := by
  have hl : (s.modLink m (Link.moved · dir)).link m = (s.link m).moved dir := (State.link_modLink ..).trans (if_pos rfl)
  rw [← hl]
  exact if_neg h

/-- What a link held goes on, control first (R19). -/
theorem State.resumeLink_eq (s : State) (m : Nat) : s.resumeLink m =
    (((s.link m).held.filter (fun x => decide (x.cls = .control))) ++
      ((s.link m).held.filter (fun x => decide (x.cls ≠ .control)))).foldl State.goesOn
      (s.modLink m (fun l => { l with holding := false, held := [] })) := by
  simp only [State.resumeLink, decide_not]

/-- A link that held nothing goes on without it. -/
theorem State.resumeLink_empty {s : State} {m : Nat} (h : (s.link m).held = []) : s.resumeLink m =
    s.modLink m (fun l => { l with holding := false, held := [] }) := by
  rw [State.resumeLink_eq, h]
  rfl

theorem State.link_causeGone (s : State) (id k : Nat) : (s.causeGone id).link k = s.link k := rfl

/-! ## Prune requests (R26) -/

theorem exec_pruneRequest (t pic : Nat) (s : State) {die n b : Nat} (hd : die < 2) (hn : n < 8192) (hb : b < 288) :
    exec (.pruneRequest t die n pic b) s = .next ((s.at t).pruneComes die n pic b) :=
  if_pos (by simp [isDie, isSlot, isBed, hd, hn, hb])

section
variable {s : State} {die n pic b : Nat}

theorem State.pruneComes_held (h : (s.link (8 + die)).holding = true ∨ (s.link 10).holding = true) :
    s.pruneComes die n pic b = s.hold (8 + die) 10 (.prune die n pic b) :=
  if_pos (by simpa [State.linkHolds] using h)

theorem State.pruneComes_asked (h8 : (s.link (8 + die)).holding = false) (h10 : (s.link 10).holding = false) :
    s.pruneComes die n pic b = s.pruneAsked die n pic b :=
  if_neg (by simp [State.linkHolds, h8, h10])

theorem State.pruneAsked_stranger (h : b ∉ (s.twin n).lead ++ (s.twin n).partner ∨ (s.twin n).st = .none) :
    s.pruneAsked die n pic b = s :=
  if_pos (by simpa only [Bool.or_eq_true, Bool.not_eq_true', decide_eq_false_iff_not, decide_eq_true_eq] using h)

variable (hb : b ∈ (s.twin n).lead ++ (s.twin n).partner) (hst : (s.twin n).st ≠ .none)
include hb hst

theorem State.pruneAsked_first (h : (s.twin (s.anchorOf n)).pruneReq.all (fun r => decide (r.1 ≠ pic)) = true) :
    s.pruneAsked die n pic b =
      (s.modTwin (s.anchorOf n) (fun w => { w with pruneReq := some (pic, die, b) })).pruneGang b := by
  unfold State.pruneAsked
  dsimp only
  rw [if_neg (by rw [decide_eq_true hb, decide_eq_false hst]; decide)]
  cases hreq : (s.twin (s.anchorOf n)).pruneReq with
  | none => rfl
  | some r =>
    rw [hreq] at h
    exact if_pos h

theorem State.pruneAsked_later {d x : Nat} (h : (s.twin (s.anchorOf n)).pruneReq = some (pic, d, x)) :
    s.pruneAsked die n pic b = if d = die ∨ x = b then s
      else (s.modTwin (s.anchorOf n) (fun w => { w with disagreements := inc64 w.disagreements })).logFault
        (0xF00 + 16 * (8 + die) + 2) := by
  unfold State.pruneAsked
  dsimp only
  rw [if_neg (by rw [decide_eq_true hb, decide_eq_false hst]; decide), h]
  exact if_neg (by simp)

end

/-- Settles O5: lane failures and moves, and what comes of a prune request. -/
theorem linksAndPruneRequests : Obligations.LinksAndPruneRequests := by
  unfold Obligations.LinksAndPruneRequests
  refine ⟨fun s t m dir hm hdir => ⟨?fails, fun hmoving => ?moves, fun h => ?idle⟩,
    fun s t die n pic b hdie hn hb => ⟨fun h => ?held, fun h8 h10 => ⟨fun h => ?stranger, fun hmem hst => ?member⟩⟩⟩
  case fails =>
    rw [exec_laneFail t s hm hdir, State.laneFails_eq]
    have hlink : ∀ (v : State) (id k : Nat), (v.raiseFault id).link k = v.link k := fun v id k => by
      simp [State.link, State.raiseFault_kept ..]
    refine ⟨_, rfl, ?_, fun k hk => ?_, ?_, ?_, ?_, fun hs hc => ?_⟩
    · rw [hlink, State.link_modLink, if_pos rfl]
      rfl
    · rw [hlink, State.link_modLink, if_neg hk]
      rfl
    · simp [State.raiseFault_kept ..]
    · simp [State.raiseFault_kept ..]
    · simp [State.raiseFault_kept ..]
    · rw [if_pos (show 0 < ((s.at t).link m).spare dir from hs)]
      obtain ⟨hcause, hframe⟩ := State.raiseFault_of_log (s := (s.at t).modLink m (fun l => l.failed m dir))
        (sourceInfo_linkMove hm) hc
      refine ⟨hcause, hframe.trans ?_⟩
      rw [show ∀ (v : State) id, (v.raiseFault id).links = v.links from fun (v : State) id => by simp [State.raiseFault_kept ..]]
      rfl
  case moves =>
    rw [exec_laneMoveDone t s hm hdir, State.laneMoved_some (s := s.at t) (Nat.pos_iff_ne_zero.1 hmoving)]
    intro k
    have hm' : ((s.at t).modLink m (Link.moved · dir)).link m = k := (State.link_modLink ..).trans (if_pos rfl)
    refine ⟨fun hk => ⟨_, congrArg _ (if_pos hk), (State.link_modLink ..).trans (if_pos rfl),
      fun j hj => (State.link_modLink ..).trans (if_neg hj), rfl⟩, fun hk hheld => ?_, fun hk => ?_⟩
    · refine ⟨_, congrArg _ ((if_neg (not_not.2 hk)).trans (congrArg (State.causeGone · _)
        (State.resumeLink_empty (by rw [hm', hheld])))), ?_, ?_, fun j hj => ?_, rfl⟩
      · rw [State.link_causeGone, State.link_modLink, if_pos rfl, hm', ← hheld]
      · simp [State.causeGone]
      · simp [State.link_causeGone, hj]
    · refine ⟨((s.at t).modLink m (Link.moved · dir)).modLink m (fun l => { l with holding := false, held := [] }),
        ?_, fun j hj => by simp [hj], rfl, congrArg _ ((if_neg (not_not.2 hk)).trans (congrArg (State.causeGone · _) ?_))⟩
      · rw [State.link_modLink, if_pos rfl, hm']
      · rw [State.resumeLink_eq, hm']
  case idle => rw [exec_laneMoveDone t s hm hdir, State.laneMoved_none (s := s.at t) h]
  case held =>
    rw [exec_pruneRequest t pic s hdie hn hb, State.pruneComes_held (s := s.at t) h]
    exact ⟨_, rfl, (State.link_modLink ..).trans (if_pos rfl), fun k hk => (State.link_modLink ..).trans (if_neg hk), rfl⟩
  case stranger =>
    rw [exec_pruneRequest t pic s hdie hn hb, State.pruneComes_asked (s := s.at t) h8 h10,
      State.pruneAsked_stranger (s := s.at t) h]
  case member =>
    rw [exec_pruneRequest t pic s hdie hn hb, State.pruneComes_asked (s := s.at t) h8 h10]
    intro k
    refine ⟨fun h => congrArg _ (State.pruneAsked_first (s := s.at t) hmem hst h), fun d x hreq hd hx => ?_,
      fun d x hreq hdx => congrArg _ ((State.pruneAsked_later (s := s.at t) hmem hst hreq).trans (if_pos hdx))⟩
    rw [State.pruneAsked_later (s := s.at t) hmem hst hreq, if_neg (by simp [hd, hx]), show (s.at t).anchorOf n = k from rfl,
      show 0xF00 + 16 * (8 + die) + 2 = 0xF82 + 16 * die by omega]
    refine ⟨_, rfl, ?_, fun j hj => ?_, ?_, fun hrec hlive => ?_, ?_⟩
    · simp
    · simp [hj]
    · exact State.pruned_logFault ..
    · exact State.count_logFault (by omega) (sourceInfo_disagreement hdie) hrec hlive
    · rw [(State.logFault_kept ..).2.2.2.2.2.2.2.2.2.1]
      rfl

end Sys2Proof.Machine
end

section
/-! PROOFS. Restarts of the Shed (01, 11, 12): of all of Dorsen and of one core pair, the takeover of a pair's work, and the end
of a restart (R29, R30, R309, R310). -/

namespace Sys2Proof.Machine

/-! ## Requests that wait for a takeover

Only an interrupt that nobody routes counts on an allotment while grafts are chosen: the requests that wait stay. -/

/-- The requests that wait on each allotment. -/
def State.waitingOn (s : State) (a : Nat) : List HeldReq := (s.allot a).waiting

theorem State.waitingOn_of_allots {s u : State} (h : u.allots = s.allots) : u.waitingOn = s.waitingOn := by
  unfold State.waitingOn State.allot
  rw [h]

theorem State.waitingOn_raise (s : State) (n : Nat) : (s.raise n).waitingOn = s.waitingOn :=
  funext fun a => s.allot_raise_waiting n a

theorem State.waitingOn_setTwin (s : State) (n : Nat) (st : TwinState) : (s.setTwin n st).waitingOn = s.waitingOn := by
  unfold State.setTwin
  split
  · rfl
  · exact State.waitingOn_raise ..

theorem State.waitingOn_setBed (s : State) (b : Nat) (st : BedState) : (s.setBed b st).waitingOn = s.waitingOn := by
  unfold State.setBed
  split
  · rfl
  · rw [State.waitingOn_raise]
    exact State.waitingOn_of_allots (by simp [State.tick_kept ..])

theorem State.waitingOn_wakeBed (s : State) (b : Nat) : (s.wakeBed b).waitingOn = s.waitingOn := by
  unfold State.wakeBed
  split
  · split
    · rfl
    · refine (State.waitingOn_of_allots (s := s.setBed b .waking) ?_).trans (s.waitingOn_setBed b .waking)
      simp [State.startWake]
  · rfl
  · rfl

theorem State.waitingOn_assign (s : State) (b n : Nat) : (s.assign b n).waitingOn = s.waitingOn := by
  have hslots : (s.setSlots b (fun l => addTo l n)).waitingOn = s.waitingOn :=
    State.waitingOn_of_allots (by simp [State.setSlots_kept ..])
  unfold State.assign
  dsimp only
  split
  · exact (State.waitingOn_setBed ..).trans hslots
  · exact (State.waitingOn_wakeBed ..).trans hslots

theorem State.waitingOn_freshPatch (s : State) (b : Nat) : (s.freshPatch b).waitingOn = s.waitingOn := by
  have hsettled : ∀ u : State, u.patchSettled.waitingOn = u.waitingOn := fun u =>
    State.waitingOn_of_allots (by simp [State.patchSettled_kept ..])
  unfold State.freshPatch
  dsimp only
  rw [hsettled]
  unfold State.switchBank
  split
  · rfl
  · exact State.waitingOn_raise ..

theorem State.waitingOn_soilAbort (s : State) (b : Nat) : (s.soilAbort b).waitingOn = s.waitingOn := by
  unfold State.soilAbort
  dsimp only
  split
  · rfl
  · have htrap : ∀ (u : State) (h : Bool), (u.soilTrap b h).waitingOn = u.waitingOn := fun u h =>
      State.waitingOn_of_allots (by simp [State.soilTrap_kept ..])
    rw [htrap, State.soilIdle, State.waitingOn_freshPatch, State.waitingOn_setBed]
    exact State.waitingOn_of_allots (by simp [State.clearBed, State.countSoil_kept ..])

theorem State.waitingOn_enlist (s : State) (b : Nat) (l : List Nat) : (s.enlist b l).waitingOn = s.waitingOn := by
  rw [State.enlist, foldl_keeps State.waitingOn _ l (fun s m _ => s.waitingOn_assign b m)]
  exact s.waitingOn_soilAbort b

theorem State.waitingOn_startGraft (s : State) (n : Nat) : (s.startGraft n).waitingOn = s.waitingOn := by
  unfold State.startGraft
  dsimp only
  split
  · rfl
  · rw [foldl_keeps State.waitingOn]
    exact fun s m _ => (State.waitingOn_setTwin ..).trans rfl

/-- What `keepWarm` does to one bed. -/
def State.warmOne (s : State) (warm : List Nat) (b : Nat) : State :=
  let is := decide (b ∈ warm)
  let s := if (s.bed b).warm = is then s else s.modBed b (fun x => { x with warm := is })
  if is && decide ((s.bed b).st = .off) then s.wakeBed b else s

theorem State.waitingOn_warmOne (s : State) (warm : List Nat) (b : Nat) : (s.warmOne warm b).waitingOn = s.waitingOn := by
  have hwarm : (if (s.bed b).warm = decide (b ∈ warm) then s
      else s.modBed b (fun x => { x with warm := decide (b ∈ warm) })).waitingOn = s.waitingOn := by split <;> rfl
  exact (ite_keeps State.waitingOn (State.waitingOn_wakeBed ..)).trans hwarm

theorem State.waitingOn_keepWarm (s : State) : s.keepWarm.waitingOn = s.waitingOn := by
  unfold State.keepWarm
  dsimp only
  rw [foldl_keeps State.waitingOn]
  exact fun s b _ => s.waitingOn_warmOne _ b

theorem State.waitingOn_chooseScion (s : State) (n : Nat) : (s.chooseScion n).waitingOn = s.waitingOn := by
  unfold State.chooseScion
  dsimp only
  split
  · rfl
  · split
    · rfl
    · rw [State.waitingOn_keepWarm, State.waitingOn_startGraft, foldl_keeps State.waitingOn (h := ?enlist),
        foldl_keeps State.waitingOn (h := ?retwin)]
      case retwin => exact fun _ _ _ => rfl
      case enlist => exact fun s e _ => (State.waitingOn_enlist ..).trans rfl
      split
      · rfl
      · exact State.waitingOn_of_allots (by simp [State.refence_kept ..])

theorem State.waitingOn_graftAll (s : State) : s.graftAll.waitingOn = s.waitingOn :=
  foldl_keeps State.waitingOn _ _ (fun s _ _ => s.waitingOn_chooseScion _) s

/-! ## Sources active on the cores return to PENDING (R344) -/

/-- A source that was active on the cores of pair `p` is PENDING again. -/
def Route.returned (p : Nat) (r : Nat × Route) : Nat × Route :=
  if 2 ≤ r.2.st ∧ r.2.on / 2 = p then (r.1, { r.2 with st := 1, on := 0 }) else r

theorem State.shed_shedReturn (s : State) (p : Nat) : (s.shedReturn p).irq.shed = s.irq.shed.map (Route.returned p) := rfl

theorem Route.returned_idle (p : Nat) (r : Nat × Route) : (Route.returned p r).2.on / 2 = p → (Route.returned p r).2.st < 2 := by
  unfold Route.returned
  split
  · simp
  · intro h; omega

/-- A source that is not active on the cores of one pair stays so as another pair's return. -/
theorem Route.returned_keeps (p q : Nat) {r : Nat × Route} (h : r.2.on / 2 = q → r.2.st < 2) :
    (Route.returned p r).2.on / 2 = q → (Route.returned p r).2.st < 2 := by
  unfold Route.returned
  split
  · simp
  · exact h

/-- After the pairs of a list have returned, nothing is active on their cores, and only the cores' routes have changed. -/
theorem State.foldl_shedReturn (l : List Nat) (s : State) :
    (∀ r ∈ (l.foldl State.shedReturn s).irq.shed, ∀ q, q ∈ l ∨ (∀ x ∈ s.irq.shed, x.2.on / 2 = q → x.2.st < 2) →
      r.2.on / 2 = q → r.2.st < 2) ∧
    (l.foldl State.shedReturn s).irq.host = s.irq.host ∧
    l.foldl State.shedReturn s = { s with irq := (l.foldl State.shedReturn s).irq } := by
  induction l generalizing s with
  | nil => exact ⟨fun r hr q hq => (hq.resolve_left (by simp)) r hr, rfl, rfl⟩
  | cons p ps ih =>
    obtain ⟨h1, h2, h3⟩ := ih (s.shedReturn p)
    refine ⟨fun r hr q hq => h1 r hr q ?_, h2, h3⟩
    rw [State.shed_shedReturn]
    simp only [List.mem_map, forall_exists_index, and_imp, forall_apply_eq_imp_iff₂]
    obtain hq | hq := hq
    · obtain rfl | hq := List.mem_cons.1 hq
      · exact .inr fun x _ => Route.returned_idle q x
      · exact .inl hq
    · exact .inr fun x hx => Route.returned_keeps p q (hq x hx)

/-! ## A takeover and the end of a restart (R309, R310) -/

/-- With nothing that waits on an allotment, nothing of it runs. -/
theorem State.runWaiting_idle {s : State} {a : Nat} (hw : ∀ j ∈ s.shed.waiting, j.a ≠ a) (ha : (s.allot a).waiting = []) :
    s.runWaiting a = s.modAllot a (fun x => { x with waiting := [] }) := by
  have hmine : s.shed.waiting.filter (fun j => decide (j.a = a)) = [] := List.filter_eq_nil_iff.2 (by simpa using hw)
  have hrest : s.shed.waiting.filter (fun j => !decide (j.a = a)) = s.shed.waiting :=
    List.filter_eq_self.2 (by simpa using hw)
  unfold State.runWaiting
  simp only [hmine, hrest, List.foldl_nil]
  rw [show ({ s with shed := { s.shed with waiting := s.shed.waiting } } : State).allot a = s.allot a from rfl, ha]
  rfl

theorem State.allot_runWaiting_idle {s : State} {a : Nat} (ha : (s.allot a).waiting = []) (b : Nat) :
    (s.modAllot a (fun x => { x with waiting := [] })).allot b = s.allot b := by
  rw [State.allot_modAllot]
  split
  · next h => rw [h, ← ha]
  · rfl

theorem State.applyTaken_idle {s : State} (h : s.shed.held = []) : s.applyTaken = s := by
  unfold State.applyTaken
  simp only [h, List.filter_nil, List.foldl_nil]
  rw [← h]

theorem State.restartShed_stopped {s : State} (h : s.shed.running = false) (o : Option Nat) (r : Nat) :
    s.restartShed o r = s := if_pos (by simp [h])

theorem State.comesLive_stopped {s : State} (h : s.shed.running = false) : s.comesLive = s := if_pos (by simp [h])

theorem State.restartShed_all {s : State} (h : s.shed.running = true) (r : Nat) : s.restartShed none r =
    (let v := (List.range 16).foldl State.shedReturn s
     ({ v with shed := { v.shed with restarting := true, readyAt := r } }).copyCounters) := if_neg (by simp [h])

theorem State.restartShed_pair {s : State} (h : s.shed.running = true) (p r : Nat) : s.restartShed (some p) r =
    (let v := s.shedReturn p
     { v with shed := { v.shed with pairsDown := addTo v.shed.pairsDown p, readyAt := r } }) := if_neg (by simp [h])

theorem exec_shedRestart (t at_ : Nat) (s : State) {o : Option Nat} (h : o.all isPair = true) :
    exec (.shedRestart t o at_) s = .next ((s.at t).restartShed o at_) := if_pos h

theorem exec_corePairTakeover (t : Nat) (s : State) {p q : Nat} (hp : p < 16) (hq : q < 16) :
    exec (.corePairTakeover t p q) s = .next ((s.at t).pairTaken p q) := if_pos (by simp [isPair, hp, hq])

theorem exec_shedLive (t : Nat) (s : State) : exec (.shedLive t) s = .next (s.at t).comesLive := rfl

theorem State.pairTaken_refused {s : State} {p q : Nat}
    (h : p ∉ s.shed.pairsDown ∨ q ∈ s.shed.pairsDown ∨ s.shed.restarting = true) : s.pairTaken p q = s := if_pos h

theorem State.pairTaken_taken {s : State} {p q : Nat} (hp : p ∈ s.shed.pairsDown) (hq : q ∉ s.shed.pairsDown)
    (hr : s.shed.restarting = false) : s.pairTaken p q = ((s.takeoverPair p q).applyTaken).runWaiting p :=
  if_neg (by simp [hp, hq, hr])

/-- The interrupts of a pair go to its taker: only the masks of the cores' routes and the taker change. -/
theorem State.takeoverPair_leaves {s : State} {p q : Nat} (hp : p ∈ s.shed.pairsDown) (hq : q ∉ s.shed.pairsDown)
    (hr : s.shed.restarting = false) :
    (s.takeoverPair p q).shed = { s.shed with takenBy := tput (fun k => k) s.shed.takenBy p q } ∧
      (s.takeoverPair p q).irq.host = s.irq.host ∧
      s.takeoverPair p q = { s with irq := (s.takeoverPair p q).irq, shed := (s.takeoverPair p q).shed } := by
  unfold State.takeoverPair
  rw [if_neg (by simp [hp, hq, hr])]
  exact ⟨rfl, rfl, rfl⟩

/-- What the end of a restart leaves of the Shed: only PRUNED pairs are down. -/
def State.shedBack (s : State) : Shed :=
  let down := s.shed.pairsDown.filter (fun k => s.isPruned 10 k)
  { s.shed with restarting := false, pairsDown := down,
                takenBy := s.shed.takenBy.filter (fun e => decide (e.1 ∈ down)) }

/-- The work that waited, where none waits: the Shed, the time and the copy stay as they are. -/
theorem State.waitingRuns_idle {sh : Shed} {t : Nat} (hw : sh.waiting = []) (l : List Nat) {s : State} (hl : ∀ a ∈ l, a < 16)
    (h : s.shed = sh ∧ s.now = t ∧ s.copy = none ∧ ∀ a, a < 16 → s.waitingOn a = []) :
    let u := l.foldl (fun (s : State) a => if s.waits a then s else s.runWaiting a) s
    u.shed = sh ∧ u.now = t ∧ u.copy = none ∧ ∀ a, a < 16 → u.waitingOn a = [] := by
  induction l generalizing s with
  | nil => exact h
  | cons a r ih =>
    obtain ⟨hsh, hnow, hcopy, hwait⟩ := h
    have ha : (s.allot a).waiting = [] := hwait a (hl a (by simp))
    have hr : ∀ b ∈ r, b < 16 := fun b hb => hl b (List.mem_cons_of_mem _ hb)
    dsimp only
    rw [List.foldl_cons]
    by_cases hwaits : s.waits a = true
    · rw [if_pos hwaits]
      exact ih hr ⟨hsh, hnow, hcopy, hwait⟩
    · rw [if_neg hwaits, State.runWaiting_idle (by simp [hsh, hw]) ha]
      refine ih hr ⟨hsh, hnow, hcopy, fun b hb => ?_⟩
      rw [State.waitingOn, State.allot_runWaiting_idle ha]
      exact hwait b hb

/-- The end of a restart with nothing held, queued or waiting. -/
theorem State.comesLive_idle {s : State} (hrun : s.shed.running = true) (hj : s.shed.journal = []) (hh : s.shed.held = [])
    (hw : s.shed.waiting = []) (ha : ∀ a, a < 16 → (s.allot a).waiting = []) :
    s.comesLive.now = s.now ∧ s.comesLive.copy = none ∧ s.comesLive.shed = s.shedBack := by
  have hgraft : ∀ u : State, u.graftAll.shed = u.shed ∧ u.graftAll.now = u.now ∧ u.graftAll.copy = u.copy :=
    fun u => by simp [State.graftAll_kept ..]
  have hcarve : ∀ (u : State) d, (u.carve d).shed = u.shed ∧ (u.carve d).now = u.now ∧ (u.carve d).copy = u.copy ∧
      (u.carve d).waitingOn = u.waitingOn := fun u d =>
    ⟨by simp [State.carve_kept ..], by simp [State.carve_kept ..], by simp [State.carve_kept ..],
      State.waitingOn_of_allots (by simp [State.carve_kept ..])⟩
  have hback : ({ s.shedBack with journal := [], held := [] } : Shed) = s.shedBack := by
    rw [show s.shedBack = { s.shedBack with journal := s.shed.journal, held := s.shed.held } from rfl, hj, hh]
  have hlive : s.comesLive = ((List.range 16).foldl (fun (s : State) a => if s.waits a then s else s.runWaiting a)
      ((({ s with shed := { s.shedBack with journal := [], held := [] }, copy := none } : State).graftAll.carve 0).carve 1)).at
        s.now := by
    unfold State.comesLive
    rw [if_neg (by simp [hrun])]
    simp only [hj, hh, List.foldl_nil, State.drain]
    rfl
  rw [hback] at hlive
  obtain ⟨hs0, hn0, hc0⟩ := hgraft { s with shed := s.shedBack, copy := none }
  have hw0 := State.waitingOn_graftAll { s with shed := s.shedBack, copy := none }
  generalize ({ s with shed := s.shedBack, copy := none } : State).graftAll = g at *
  obtain ⟨hs1, hn1, hc1, hw1⟩ := hcarve g 0
  obtain ⟨hs2, hn2, hc2, hw2⟩ := hcarve (g.carve 0) 1
  obtain ⟨hsh, -, hcopy, -⟩ := State.waitingRuns_idle (sh := s.shedBack) (t := s.now) hw (List.range 16)
    (s := (g.carve 0).carve 1) (fun a h => List.mem_range.1 h)
    ⟨hs2.trans (hs1.trans hs0), hn2.trans (hn1.trans hn0), hc2.trans (hc1.trans hc0), fun a h => by
      rw [hw2, hw1, hw0]; exact ha a h⟩
  have hat : ∀ (u : State) (t : Nat), (u.at t).now = t ∧ (u.at t).copy = u.copy ∧ (u.at t).shed = u.shed := fun _ _ =>
    ⟨rfl, rfl, rfl⟩
  obtain ⟨hn, hc, hs⟩ := hat ((List.range 16).foldl (fun (s : State) a => if s.waits a then s else s.runWaiting a)
    ((g.carve 0).carve 1)) s.now
  exact hlive ▸ ⟨hn, hc.trans hcopy, hs.trans hsh⟩

/-- Settles O6: restarts of Dorsen and of a core pair, takeover, and the end of a restart. -/
theorem shedRestarts : Obligations.ShedRestarts := by
  unfold Obligations.ShedRestarts
  intro s t p q at_ hp hq
  rw [exec_shedRestart t at_ s (o := none) rfl, exec_shedRestart t at_ s (o := some p) (by simp [isPair, hp]),
    exec_corePairTakeover t s hp hq, exec_shedLive]
  refine ⟨fun h => ⟨?_, ?_, ?_⟩, fun h => ?all, fun h => ?pair, fun h => congrArg _ (State.pairTaken_refused h),
    fun hp hq hr => ⟨congrArg _ (State.pairTaken_taken hp hq hr), fun hh hw ha => ?taken⟩, fun hrun hj hh hw ha => ?live⟩
  · rw [State.restartShed_stopped (s := s.at t) h]
  · rw [State.restartShed_stopped (s := s.at t) h]
  · rw [State.comesLive_stopped (s := s.at t) h]
  case all =>
    obtain ⟨hret, hhost, hframe⟩ := State.foldl_shedReturn (List.range 16) (s.at t)
    rw [State.restartShed_all (s := s.at t) h]
    generalize (List.range 16).foldl State.shedReturn (s.at t) = v at *
    refine ⟨_, rfl, by rw [hframe]; rfl, by rw [hframe]; rfl, fun r hr hlt => ?_, hhost, by rw [hframe]; rfl⟩
    exact hret r hr _ (.inl (List.mem_range.2 hlt)) rfl
  case pair =>
    obtain ⟨hret, hhost, hframe⟩ := State.foldl_shedReturn [p] (s.at t)
    refine ⟨_, congrArg _ (State.restartShed_pair (s := s.at t) h p at_), rfl, fun r hr he => ?_, rfl, rfl⟩
    exact hret r hr p (.inl (by simp)) he
  case taken =>
    obtain ⟨hsh, hhost, hframe⟩ := State.takeoverPair_leaves (s := s.at t) hp hq hr
    rw [State.pairTaken_taken (s := s.at t) hp hq hr]
    generalize (s.at t).takeoverPair p q = v at *
    have hva : ∀ a, v.allot a = s.allot a := fun a => by rw [hframe]; rfl
    have ha' : (v.allot p).waiting = [] := (hva p).symm ▸ ha
    rw [State.applyTaken_idle (by rw [hsh]; exact hh), State.runWaiting_idle (by rw [hsh]; exact hw) ha']
    refine ⟨_, rfl, hsh, fun a => (State.allot_runWaiting_idle ha' a).trans (hva a), hhost, by rw [hframe]; rfl⟩
  case live =>
    obtain ⟨hnow, hcopy, hshed⟩ := State.comesLive_idle (s := s.at t) hrun hj hh hw ha
    exact ⟨_, rfl, hnow, hcopy, hshed⟩

end Sys2Proof.Machine
end

section
/-! PROOFS. Raster and compressed intake (04, 08): the merge of the two legs, and the ends of pictures and access units (R98 to
R104, R112, R211). -/

namespace Sys2Proof.Machine

/-! ## A change of one intake channel -/

/-- From `s` to `u` channel `c` has become `i`; nothing else of the state has changed. -/
structure IntakeMoved (s u : State) (c : Nat) (i : Intake) : Prop where
  intake : u.intake c = i
  others : ∀ k, k ≠ c → u.intake k = s.intake k
  frame : u = { s with str := u.str }

section
variable {s u : State} {c : Nat} {i j : Intake}

theorem IntakeMoved.refl (s : State) (c : Nat) : IntakeMoved s s c (s.intake c) := ⟨rfl, fun _ _ => rfl, rfl⟩

theorem IntakeMoved.modIntake (h : IntakeMoved s u c i) {f : Intake → Intake} (hf : f i = j) :
    IntakeMoved s (u.modIntake c f) c j where
  intake := by rw [State.intake_modIntake, if_pos rfl, h.intake, hf]
  others k hk := by rw [State.intake_modIntake, if_neg hk, h.others k hk]
  frame := congrArg (fun v : State => { v with str := (u.modIntake c f).str }) h.frame

theorem IntakeMoved.countIntake (h : IntakeMoved s u c i) (n k : Nat) :
    IntakeMoved s (u.countIntake c n k) c { i with counts := bumpAt i.counts n k } := h.modIntake rfl

theorem IntakeMoved.cfg (h : IntakeMoved s u c i) (fam inst mem : Nat) : u.cfg fam inst mem = s.cfg fam inst mem := by
  rw [h.frame]; rfl

theorem IntakeMoved.now (h : IntakeMoved s u c i) : u.now = s.now := by rw [h.frame]

theorem IntakeMoved.cast (h : IntakeMoved s u c i) (he : i = j) : IntakeMoved s u c j := he ▸ h

end

/-! ## The merge (R98 to R101) -/

theorem exec_intakePacket (t k : Nat) (p : IntakePkt) (s : State) {ch leg : Nat} (hc : ch < 2048) (hl : leg < 2) :
    exec (.intakePacket t ch leg k p) s = .next ((s.at t).intakeTakes ch leg k p) :=
  if_pos (by simp [isIntake, isSide, hc, hl])

theorem exec_mergeWaitExpiry (t : Nat) (s : State) {ch : Nat} (hc : ch < 2048) :
    exec (.mergeWaitExpiry t ch) s = .next (if (s.at t).gapDue ch then (s.at t).gapClosed ch else s.at t) :=
  if_pos (decide_eq_true hc)

theorem exec_legTimeout (t : Nat) (s : State) {ch leg : Nat} (hc : ch < 2048) (hl : leg < 2) :
    exec (.legTimeout t ch leg) s = .next ((s.at t).legDown ch leg) :=
  if_pos (by simp [isIntake, isSide, hc, hl])

/-- What the merge makes of a packet by its verdict: a duplicate and a late packet count, a first copy is used. -/
def State.judged (s : State) (mode c : Nat) (p : IntakePkt) (verdict : Nat) : State :=
  match verdict with
  | 1 => s.countIntake c 0 1
  | 2 => s.countIntake c 1 1
  | _ =>
    let s := s.modIntake c (fun i => i.accept p s.now)
    if mode = 1 then s.rasterPacket c p else s.compressedPacket c p

section
variable {s : State} {c leg k : Nat} {p : IntakePkt}

theorem State.intakeTakes_off (h : s.cfgN 0x20 c 0x02 = 0 ∨ s.diePruned (intakeDie c) = true) :
    s.intakeTakes c leg k p = s.dropRef k := by
  unfold State.intakeTakes
  exact congrArg (State.dropRef · k) (if_pos h)

variable (hon : s.cfgN 0x20 c 0x02 ≠ 0) (hdie : s.diePruned (intakeDie c) = false)
include hon hdie

theorem State.intakeTakes_essence (h : p.essence ≠ .video) : s.intakeTakes c leg k p = (s.attach c p).dropRef k := by
  unfold State.intakeTakes
  exact congrArg (State.dropRef · k) ((if_neg (by simp [hon, hdie])).trans (if_pos h))

variable (hv : p.essence = .video)
include hv

theorem State.intakeTakes_unfit (h1 : s.cfgN 0x20 c 0x02 = 1) (h : takesFormat (s.intakeFmt c) = false ∨ 3 < p.segs.length) :
    s.intakeTakes c leg k p = s.dropRef k := by
  have hfit : s.rasterTakes c p = false := by
    simp only [State.rasterTakes, Bool.and_eq_false_iff, decide_eq_false_iff_not, Nat.not_le]; exact h
  unfold State.intakeTakes
  refine congrArg (State.dropRef · k) ((if_neg (by simp [hon, hdie])).trans ((if_neg (by simp [hv])).trans (if_pos ?_)))
  rw [hfit]; simp [h1]

variable (hfit : s.cfgN 0x20 c 0x02 = 1 → takesFormat (s.intakeFmt c) = true ∧ p.segs.length ≤ 3)
include hfit

/-- A video packet that its channel takes puts its leg up and is judged. -/
theorem State.intakeTakes_video : s.intakeTakes c leg k p =
    ((s.legSeen c leg).judged (s.cfgN 0x20 c 0x02) c p ((s.legSeen c leg).judgePacket c p)).dropRef k := by
  unfold State.intakeTakes
  dsimp only
  rw [if_neg (by simp [hon, hdie]), if_neg (by simp [hv]), if_neg]
  · rfl
  by_cases h1 : s.cfgN 0x20 c 0x02 = 1
  · obtain ⟨hf, hs⟩ := hfit h1
    simp [State.rasterTakes, hf, hs]
  · simp [h1]

end

/-! ### What a packet is judged by -/

theorem State.intakeFmt_of_alm {s u : State} (h : u.alm = s.alm) (c : Nat) : u.intakeFmt c = s.intakeFmt c := by
  unfold State.intakeFmt State.cfg
  rw [h]

theorem State.crop_of_alm {s u : State} (h : u.alm = s.alm) (c : Nat) : u.crop c = s.crop c := by
  unfold State.crop State.intakeFmt State.cfg
  rw [h]

theorem State.lineWhole_congr {s u : State} {c : Nat} (ha : u.alm = s.alm) (hs : (u.intake c).store = (s.intake c).store)
    (k : Nat) : u.lineWhole c k = s.lineWhole c k := by
  unfold State.lineWhole
  rw [State.crop_of_alm ha, State.intakeFmt_of_alm ha, hs]

theorem State.lineReady_congr {s u : State} {c : Nat} (ha : u.alm = s.alm) (hs : (u.intake c).store = (s.intake c).store)
    (k : Nat) : u.lineReady c k = s.lineReady c k := by
  unfold State.lineReady
  rw [State.lineWhole_congr ha hs, hs]

theorem State.ofOpenLine_congr {s u : State} {c : Nat} (ha : u.alm = s.alm) (hs : (u.intake c).store = (s.intake c).store)
    (ho : (u.intake c).openTs = (s.intake c).openTs) (p : IntakePkt) : u.ofOpenLine c p = s.ofOpenLine c p := by
  unfold State.ofOpenLine
  rw [State.crop_of_alm ha, ho]
  simp only [State.lineReady_congr ha hs]

/-- A channel once a leg has delivered a packet. -/
def Intake.up (i : Intake) (leg t : Nat) : Intake :=
  if leg = 0 then { i with legA := true, lastA := t } else { i with legB := true, lastB := t }

theorem State.legSeen_moved (s : State) (c leg : Nat) :
    IntakeMoved s (s.legSeen c leg) c ((s.intake c).up leg s.now) := (IntakeMoved.refl s c).modIntake rfl

/-- A leg that comes up changes nothing that the merge judges a packet by. -/
theorem State.judgePacket_legSeen (s : State) (c leg : Nat) (p : IntakePkt) :
    (s.legSeen c leg).judgePacket c p = s.judgePacket c p := by
  obtain ⟨hi, -, hf⟩ := s.legSeen_moved c leg
  have hup : ((s.intake c).up leg s.now).seen = (s.intake c).seen ∧
      ((s.intake c).up leg s.now).oldest = (s.intake c).oldest ∧
      ((s.intake c).up leg s.now).openTs = (s.intake c).openTs ∧
      ((s.intake c).up leg s.now).store = (s.intake c).store := by
    unfold Intake.up; split <;> exact ⟨rfl, rfl, rfl, rfl⟩
  obtain ⟨hseen, hold, hopen, hstore⟩ := hup
  rw [← hi] at hseen hold hopen hstore
  unfold State.judgePacket
  dsimp only
  rw [State.ofOpenLine_congr (by rw [hf]) hstore hopen, hseen, hold]

/-- What a merged packet that is not used leaves: its channel, and its chain's reference. -/
theorem State.dropRef_intake (s : State) (k : Nat) :
    (∀ j, (s.dropRef k).intake j = s.intake j) ∧ s.dropRef k = { s with egr := (s.dropRef k).egr } := by
  have h := s.dropRef_frame k
  refine ⟨fun j => ?_, h⟩
  rw [h]
  rfl

/-! ### The wait past a gap (R100) -/

theorem Intake.regap_frame (i : Intake) : i.regap =
    { i with oldest := i.regap.oldest, gapFrom := i.regap.gapFrom, gapSince := i.regap.gapSince,
             behind := i.regap.behind } := by
  unfold Intake.regap
  dsimp only
  split <;> rfl

theorem Intake.closeGap_frame (i : Intake) : i.closeGap =
    { i with oldest := i.closeGap.oldest, gapFrom := i.closeGap.gapFrom, gapSince := i.closeGap.gapSince,
             behind := i.closeGap.behind } := by
  unfold Intake.closeGap
  split
  · exact Intake.regap_frame _
  · rfl

theorem Intake.regap_store (i : Intake) (t : Tab StoreLine) :
    ({ i with store := t } : Intake).regap = { i.regap with store := t } := by
  unfold Intake.regap
  dsimp only
  generalize List.filter _ i.behind = l
  cases l <;> rfl

theorem Intake.closeGap_of_open {i : Intake} (h : i.gapFrom = none ∨ i.afterGap = none) : i.closeGap = i := by
  unfold Intake.closeGap
  obtain h | h := h
  · rw [h]
  · rw [h]
    cases i.gapFrom <;> rfl

theorem Intake.closeGap_of_gap {i : Intake} {g : Nat} {b : Behind} (hg : i.gapFrom = some g) (hb : i.afterGap = some b) :
    i.closeGap = Intake.regap { i with oldest := b.esn } := by
  unfold Intake.closeGap
  rw [hg, hb]

/-- Closing a gap does not look at the store. -/
theorem Intake.closeGap_store (i : Intake) (t : Tab StoreLine) :
    ({ i with store := t } : Intake).closeGap = { i.closeGap with store := t } := by
  have hafter : ({ i with store := t } : Intake).afterGap = i.afterGap := rfl
  obtain hg | ⟨g, hg⟩ := Option.eq_none_or_eq_some i.gapFrom
  · rw [Intake.closeGap_of_open (.inl hg), Intake.closeGap_of_open (i := { i with store := t }) (.inl hg)]
  obtain hb | ⟨b, hb⟩ := Option.eq_none_or_eq_some i.afterGap
  · rw [Intake.closeGap_of_open (.inr hb), Intake.closeGap_of_open (.inr (hafter.trans hb))]
  · rw [Intake.closeGap_of_gap hg hb, Intake.closeGap_of_gap (i := { i with store := t }) hg (hafter.trans hb)]
    exact Intake.regap_store { i with oldest := b.esn } t

/-- Of a channel, the release of lines changes the store alone. -/
theorem State.releaseLines_moved (s : State) (c : Nat) :
    IntakeMoved s (s.releaseLines c) c { s.intake c with store := ((s.releaseLines c).intake c).store } := by
  have hstore : ∀ t : Tab StoreLine, IntakeMoved s (s.modIntake c (fun i => { i with store := t })) c
      { s.intake c with store := t } := fun t => (IntakeMoved.refl s c).modIntake rfl
  unfold State.releaseLines
  dsimp only
  split
  · split
    · exact IntakeMoved.refl s c
    · rw [State.intake_modIntake, if_pos rfl]
      exact hstore _
  · exact IntakeMoved.refl s c

theorem State.releaseLines_at (s : State) (t c : Nat) : (s.at t).releaseLines c = (s.releaseLines c).at t := by
  unfold State.releaseLines
  rw [State.crop_of_alm (s := s) (u := s.at t) rfl, State.intake_at]
  dsimp only
  cases (s.intake c).gapFrom with
  | none => rfl
  | some g =>
    cases (s.intake c).afterGap with
    | none => rfl
    | some b =>
      dsimp only
      split <;> rfl

/-- The offsets of a channel once line 0 has been measured. -/
def State.offsetsAt (s : State) (c : Nat) (was : Bool) : List Nat :=
  if !was && s.lineReady c 0 then
    match s.openInstant c with
    | none => (s.intake c).offsets
    | some b => (s.now - b) :: (s.intake c).offsets.take 63
  else (s.intake c).offsets

theorem State.measureOffset_moved (s : State) (c : Nat) (was : Bool) :
    IntakeMoved s (s.measureOffset c was) c { s.intake c with offsets := s.offsetsAt c was } := by
  unfold State.measureOffset State.offsetsAt
  by_cases h : (!was && s.lineReady c 0) = true
  · rw [if_pos h, if_pos h]
    cases s.openInstant c with
    | none => exact IntakeMoved.refl s c
    | some b => exact (IntakeMoved.refl s c).modIntake rfl
  · rw [if_neg h, if_neg h]
    exact IntakeMoved.refl s c

theorem IntakeMoved.trans {s u v : State} {c : Nat} {i j : Intake} (h : IntakeMoved s u c i) (g : IntakeMoved u v c j) :
    IntakeMoved s v c j where
  intake := g.intake
  others k hk := (g.others k hk).trans (h.others k hk)
  frame := g.frame.trans (congrArg (fun w : State => { w with str := v.str }) h.frame)

/-- The offset that is measured depends on the store, the open picture and the offsets before. -/
theorem State.offsetsAt_congr {s u : State} {c : Nat} (hn : u.now = s.now) (ha : u.alm = s.alm)
    (hs : (u.intake c).store = (s.intake c).store) (ho : (u.intake c).openTs = (s.intake c).openTs)
    (hf : (u.intake c).offsets = (s.intake c).offsets) (was : Bool) : u.offsetsAt c was = s.offsetsAt c was := by
  unfold State.offsetsAt State.openInstant
  rw [State.lineReady_congr ha hs, ho, hf, hn]

/-- The end of the wait past a gap of a channel that carries no bitstream: its lines are released, what came before is
late, and line 0 is measured. -/
theorem State.gapClosed_raster {s : State} {c : Nat} (h : s.cfgN 0x20 c 0x02 ≠ 2) :
    IntakeMoved s (s.gapClosed c) c { (s.intake c).closeGap with
      store := ((s.releaseLines c).intake c).store,
      offsets := (((s.releaseLines c).measureOffset c (s.lineReady c 0)).intake c).offsets } := by
  have hr := s.releaseLines_moved c
  have hc : IntakeMoved s ((s.releaseLines c).modIntake c Intake.closeGap) c
      { (s.intake c).closeGap with store := ((s.releaseLines c).intake c).store } :=
    hr.modIntake (Intake.closeGap_store ..)
  have hm := (s.releaseLines c).measureOffset_moved c (s.lineReady c 0)
  have hfin := ((s.releaseLines c).modIntake c Intake.closeGap).measureOffset_moved c (s.lineReady c 0)
  have hsame : ((s.releaseLines c).modIntake c Intake.closeGap).offsetsAt c (s.lineReady c 0) =
      (s.releaseLines c).offsetsAt c (s.lineReady c 0) := by
    refine State.offsetsAt_congr (s := s.releaseLines c) (by simp) (by simp) ?_ ?_ ?_ _ <;>
      rw [State.intake_modIntake, if_pos rfl, Intake.closeGap_frame]
  rw [hsame, hc.intake] at hfin
  rw [hm.intake, State.gapClosed, if_pos h]
  exact hc.trans hfin

theorem State.gapClosed_bits {s : State} {c : Nat} (h : s.cfgN 0x20 c 0x02 = 2) :
    s.gapClosed c = ((s.modIntake c Intake.closeGap).lossMarker c).drainAu c := if_neg (not_not.2 h)

theorem State.gapDue_iff (s : State) (c : Nat) : s.gapDue c = true ↔
    (s.intake c).gapFrom.isSome = true ∧ (s.intake c).gapSince + 1000 * s.cfgN 0x20 c 0x05 ≤ s.now := by
  simp [State.gapDue, State.mergeWait, Nat.mul_comm]

/-! ### Silent legs (R101) -/

/-- A leg is up, and when it last delivered a packet. -/
def Intake.leg (i : Intake) (leg : Nat) : Bool × Nat := if leg = 0 then (i.legA, i.lastA) else (i.legB, i.lastB)

theorem State.legDown_early {s : State} {c leg : Nat}
    (h : ((s.intake c).leg leg).1 = false ∨ s.now < ((s.intake c).leg leg).2 + 1000000) : s.legDown c leg = s := by
  unfold Intake.leg at h
  unfold State.legDown
  dsimp only
  refine if_neg fun hd => ?_
  split at h <;> simp_all <;> omega

theorem State.legDown_due {s : State} {c leg : Nat} (hup : ((s.intake c).leg leg).1 = true)
    (hd : ((s.intake c).leg leg).2 + 1000000 ≤ s.now) : IntakeMoved s (s.legDown c leg) c
      (if leg = 0 then { s.intake c with legA := false, counts := bumpAt (s.intake c).counts 6 1 }
       else { s.intake c with legB := false, counts := bumpAt (s.intake c).counts 6 1 }) := by
  unfold Intake.leg at hup hd
  have hdown : s.legDown c leg =
      (s.modIntake c (fun i => if leg = 0 then { i with legA := false } else { i with legB := false })).countIntake c 6 1 := by
    unfold State.legDown
    refine if_pos ?_
    split at hup <;> simp_all
  rw [hdown]
  refine (((IntakeMoved.refl s c).modIntake rfl).countIntake 6 1).cast ?_
  split <;> rfl

/-- Settles O17: the merge of the two legs of an intake channel. -/
theorem intakeMerge : Obligations.IntakeMerge := by
  unfold Obligations.IntakeMerge
  intro s t ch leg k p hch hleg
  rw [exec_intakePacket t k p s hch hleg, exec_mergeWaitExpiry t s hch, exec_legTimeout t s hch (by decide),
    exec_legTimeout t s hch (by decide)]
  refine ⟨fun h => congrArg _ (State.intakeTakes_off (s := s.at t) h), fun hon hdie =>
    ⟨fun h => congrArg _ (State.intakeTakes_essence (s := s.at t) hon hdie h),
     fun hv h1 h => congrArg _ (State.intakeTakes_unfit (s := s.at t) hon hdie hv h1 h), fun hv hfit => ?video⟩,
    fun h => ?waits, fun hg hd => ⟨fun h2 => ?bits, fun h2 => ?raster⟩, fun h => ?earlyA, fun h => ?earlyB,
    fun hup hd => ?downA, fun hup hd => ?downB⟩
  case video =>
    intro i up
    have hup : IntakeMoved (s.at t) ((s.at t).legSeen ch leg) ch up := (s.at t).legSeen_moved ch leg
    have hcounts : up.counts = i.counts := by
      simp only [up, i]
      split <;> rfl
    have hunused : ∀ n, ∃ u, (((s.at t).legSeen ch leg).countIntake ch n 1).dropRef k = u ∧
        u.intake ch = { up with counts := bumpAt i.counts n 1 } ∧ (∀ j, j ≠ ch → u.intake j = s.intake j) ∧
        u = { s with now := t, str := u.str, egr := u.egr } := fun n => by
      obtain ⟨h1, h2, h3⟩ := hup.countIntake n 1
      rw [hcounts] at h1
      obtain ⟨hi, hf⟩ := State.dropRef_intake (((s.at t).legSeen ch leg).countIntake ch n 1) k
      generalize ((s.at t).legSeen ch leg).countIntake ch n 1 = v at *
      refine ⟨_, rfl, (hi ch).trans h1, fun j hj => (hi j).trans (h2 j hj), ?_⟩
      rw [hf, h3]
      rfl
    rw [State.intakeTakes_video (s := s.at t) hon hdie hv hfit, State.judgePacket_legSeen]
    refine ⟨fun hseen => ?_, fun hseen hold hopen => ?_, fun hseen hnew => ?_⟩
    · rw [show (s.at t).judgePacket ch p = 1 from if_pos hseen]
      obtain ⟨u, rfl, h⟩ := hunused 0
      exact ⟨_, rfl, h⟩
    · have hlate : (newer32 i.oldest p.esn && !(s.at t).ofOpenLine ch p) = true := by
        rw [State.ofOpenLine_congr (s := s) (u := s.at t) rfl rfl rfl, hold, hopen]; rfl
      rw [show (s.at t).judgePacket ch p = 2 from (if_neg hseen).trans (if_pos hlate)]
      obtain ⟨u, rfl, h⟩ := hunused 1
      exact ⟨_, rfl, h⟩
    · have hused : ¬ (newer32 i.oldest p.esn && !(s.at t).ofOpenLine ch p) = true := by
        rw [State.ofOpenLine_congr (s := s) (u := s.at t) rfl rfl rfl]
        obtain h | h := hnew <;> simp [h]
      rw [show (s.at t).judgePacket ch p = 0 from (if_neg hseen).trans (if_neg hused)]
      rfl
  case waits =>
    refine congrArg _ (if_neg fun hg => ?_)
    obtain ⟨h1, h2⟩ := ((s.at t).gapDue_iff ch).1 hg
    obtain h | h := h
    · simp [h] at h1
    · exact absurd h2 (Nat.not_le.2 h)
  case bits => rw [if_pos (((s.at t).gapDue_iff ch).2 ⟨hg, hd⟩), State.gapClosed_bits (s := s.at t) h2]
  case raster =>
    rw [if_pos (((s.at t).gapDue_iff ch).2 ⟨hg, hd⟩)]
    obtain ⟨h1, h2, h3⟩ := State.gapClosed_raster (s := s.at t) h2
    rw [State.lineReady_congr (s := s) (u := s.at t) rfl rfl] at h1
    refine ⟨_, rfl, h1.trans ?_, h2, h3⟩
    rw [show ((s.at t).releaseLines ch).intake ch = (s.releaseLines ch).intake ch by rw [State.releaseLines_at]; rfl]
    rfl
  case earlyA => exact congrArg _ (State.legDown_early (s := s.at t) (leg := 0) h)
  case earlyB => exact congrArg _ (State.legDown_early (s := s.at t) (leg := 1) h)
  case downA =>
    obtain ⟨h1, h2, h3⟩ := State.legDown_due (s := s.at t) (c := ch) (leg := 0) hup hd
    exact ⟨_, rfl, h1, h2, h3⟩
  case downB =>
    obtain ⟨h1, h2, h3⟩ := State.legDown_due (s := s.at t) (c := ch) (leg := 1) hup hd
    exact ⟨_, rfl, h1, h2, h3⟩

end Sys2Proof.Machine
end

section
/-! PROOFS. The ends of pictures and access units by time (04, 08): R102 to R104, R112, R211. -/

namespace Sys2Proof.Machine

theorem exec_pictureTimeout (t : Nat) (s : State) {ch : Nat} (hc : ch < 2048) :
    exec (.pictureTimeout t ch) s = .next ((s.at t).pictureTimeout ch) := if_pos (decide_eq_true hc)

theorem exec_missingPicture (t : Nat) (s : State) {ch : Nat} (hc : ch < 2048) :
    exec (.missingPicture t ch) s = .next ((s.at t).missingPicture ch) := if_pos (decide_eq_true hc)

theorem exec_auSlotEnd (t : Nat) (s : State) {ch : Nat} (hc : ch < 2048) :
    exec (.auSlotEnd t ch) s = .next ((s.at t).auSlotEnd ch) := if_pos (decide_eq_true hc)

/-! ## The end of an access unit (R211) -/

theorem State.decodeOf_at (s : State) (t c : Nat) : (s.at t).decodeOf c = s.decodeOf c := rfl

theorem State.slotStart_at (s : State) (t n k : Nat) : (s.at t).slotStart n k = s.slotStart n k := rfl

theorem State.auSlotEnd_idle {s : State} {c : Nat}
    (h : s.decodeOf c = none ∨ (s.intake c).openTs = none ∨ (s.intake c).auSlot = none) : s.auSlotEnd c = s := by
  unfold State.auSlotEnd
  split
  · next h1 h2 h3 => simp_all
  · rfl

theorem State.auSlotEnd_open {s : State} {c n k : Nat} (hd : s.decodeOf c = some n)
    (ho : (s.intake c).openTs.isSome = true) (hk : (s.intake c).auSlot = some k) :
    s.auSlotEnd c = if s.now < s.slotStart n (k + 1) then s else (s.lossMarker c).endAu c := by
  obtain ⟨ts, hts⟩ := Option.isSome_iff_exists.1 ho
  simp only [State.auSlotEnd, hd, hts, hk]

/-! ## The end of a picture (R102, R103) -/

/-- Lines of the open picture with a sample missing. -/
def State.filledLines (s : State) (c : Nat) : Nat :=
  ((List.range (s.crop c).2.2.2).filter (fun k => !s.lineWhole c k)).length

theorem State.endPicture_open {s : State} {c : Nat} {ts : BitVec 32} (h : (s.intake c).openTs = some ts) :
    ∃ i, IntakeMoved s (s.endPicture c) c i ∧ i.openTs = none ∧ i.endedTs = some ts ∧
      i.pictures = (s.intake c).pictures + 1 ∧ i.held = true ∧ i.store2 = i.store ∧
      i.counts = if s.filledLines c = 0 then (s.intake c).counts else bumpAt (s.intake c).counts 2 (s.filledLines c) := by
  have hend : s.endPicture c = (if s.filledLines c = 0 then s else s.countIntake c 2 (s.filledLines c)).modIntake c (fun i =>
      let done := i.store.map (fun e => (e.1, { e.2 with got := 0, released := false }))
      { i with store := done.filter (fun e => !decide (e.2 = {})), store2 := done.filter (fun e => !decide (e.2 = {})),
               openTs := none, endedTs := some ts, held := true, pictures := i.pictures + 1, extraRows := [],
               longRows := [] }) := by
    simp only [State.endPicture, h]
    rfl
  rw [hend]
  split
  · exact ⟨_, (IntakeMoved.refl s c).modIntake rfl, rfl, rfl, rfl, rfl, rfl, rfl⟩
  · exact ⟨_, ((IntakeMoved.refl s c).countIntake 2 _).modIntake rfl, rfl, rfl, rfl, rfl, rfl, rfl⟩

theorem State.pictureTimeout_idle {s : State} {c : Nat} (h : s.cfgN 0x20 c 0x02 ≠ 1 ∨ (s.intake c).openTs = none ∨
    s.now < (s.intake c).openSince + periodNs (rateOf (s.intakeFmt c).rate) + 1000 * s.cfgN 0x20 c 0x05) :
    s.pictureTimeout c = s := by
  refine if_pos ?_
  rw [State.mergeWait, Nat.mul_comm, Option.isNone_iff_eq_none]
  exact h

theorem State.pictureTimeout_due {s : State} {c : Nat} {ts : BitVec 32} (h1 : s.cfgN 0x20 c 0x02 = 1)
    (ho : (s.intake c).openTs = some ts)
    (hd : (s.intake c).openSince + periodNs (rateOf (s.intakeFmt c).rate) + 1000 * s.cfgN 0x20 c 0x05 ≤ s.now) :
    s.pictureTimeout c = s.endPicture c := by
  refine if_neg ?_
  rw [State.mergeWait, Nat.mul_comm, Option.isNone_iff_eq_none]
  simp [h1, ho, hd]

/-! ## Repeat pictures (R104, R112) -/

/-- Every picture of a slot with this sampling instant is a repeat picture. -/
def Slot.repeats (x : Slot) (instant : Nat) : Prop := ∀ q ∈ x.pics, q.instant = instant → q.rep = true

/-- A slot whose pictures of an instant become repeat pictures. -/
def Slot.repeated (x : Slot) (instant : Nat) : Slot :=
  let pics := x.pics.map (fun p => if p.instant = instant then { p with rep := true } else p)
  { x with pics := pics, repeat_ := pics.any (fun p => decide (p.no = x.codedNo) && p.rep) }

theorem Slot.repeats_repeated (x : Slot) (instant : Nat) : (x.repeated instant).repeats instant := by
  intro q hq hi
  obtain ⟨p, -, rfl⟩ := List.mem_map.1 hq
  by_cases hp : p.instant = instant
  · rw [if_pos hp]
  · rw [if_neg hp] at hi
    exact absurd hi hp

/-- Slots repeat an instant's pictures one after the other: each of them does afterwards, and none loses a repeat. -/
theorem State.foldl_repeated (instant : Nat) (l : List Nat) (s : State) (m : Nat) :
    (m ∈ l ∨ (s.slot m).repeats instant →
      ((l.foldl (fun (s : State) m => s.modSlot m (·.repeated instant)) s).slot m).repeats instant) := by
  induction l generalizing s with
  | nil => exact fun h => h.resolve_left (by simp)
  | cons k r ih =>
    intro h
    refine ih _ ?_
    by_cases hk : m = k
    · right
      rw [State.slot_modSlot, if_pos hk]
      exact Slot.repeats_repeated _ _
    · rw [State.slot_modSlot, if_neg hk]
      exact h.imp_left fun hm => (List.mem_cons.1 hm).resolve_left hk

/-- The slots that repeat with a feed: its own, and the tiers of its espalier. -/
def State.repeatSlots (s : State) (n : Nat) : List Nat :=
  n :: (List.range (s.cfg 0x22 n 0x01).length).filterMap (fun k =>
    if k % 2 = 0 then some (fieldAt (s.cfg 0x22 n 0x01) k 2) else none)

theorem State.repeatPicture_eq (s : State) (n instant : Nat) : s.repeatPicture n instant =
    (s.repeatSlots n).foldl (fun (s : State) m => s.modSlot m (·.repeated instant)) (s.countFeed n 1 1) := rfl

theorem State.repeatPicture_repeats (s : State) (n instant m : Nat) (h : m = n ∨ (s.slot m).repeats instant) :
    ((s.repeatPicture n instant).slot m).repeats instant := by
  rw [State.repeatPicture_eq]
  refine State.foldl_repeated instant _ _ m (h.imp_left ?_)
  rintro rfl
  exact List.mem_cons_self ..

theorem State.intakes_repeatPicture (s : State) (n instant : Nat) :
    (s.repeatPicture n instant).str.intakes = s.str.intakes := by
  rw [State.repeatPicture_eq, foldl_keeps (fun s : State => s.str.intakes)]
  · rfl
  · exact fun _ _ _ => rfl

/-- Every feed of a list that names the channel repeats the instant's pictures. -/
theorem State.foldl_repeatPicture (c instant : Nat) (l : List (Nat × Feed)) (s : State) :
    let u := l.foldl (fun (s : State) e =>
      if e.2.source = some c ∨ e.2.reading = some c then s.repeatPicture e.1 instant else s) s
    (∀ m, (∃ e ∈ l, e.1 = m ∧ (e.2.source = some c ∨ e.2.reading = some c)) ∨ (s.slot m).repeats instant →
      (u.slot m).repeats instant) ∧ u.str.intakes = s.str.intakes ∧ u = { s with str := u.str } := by
  induction l generalizing s with
  | nil => exact ⟨fun m h => h.resolve_left (by simp), rfl, rfl⟩
  | cons e r ih =>
    have hstr : ∀ n, s.repeatPicture n instant = { s with str := (s.repeatPicture n instant).str } := fun n =>
      State.parts.2 (by simp [State.repeatPicture_kept ..])
    dsimp only
    rw [List.foldl_cons]
    by_cases he : e.2.source = some c ∨ e.2.reading = some c
    · rw [if_pos he]
      obtain ⟨h1, h2, h3⟩ := ih (s.repeatPicture e.1 instant)
      refine ⟨fun m h => h1 m ?_, h2.trans (s.intakes_repeatPicture e.1 instant), h3.trans (by rw [hstr])⟩
      obtain ⟨x, hx, hm, hc⟩ | h := h
      · obtain rfl | hx := List.mem_cons.1 hx
        · exact .inr (s.repeatPicture_repeats _ instant m (.inl hm.symm))
        · exact .inl ⟨x, hx, hm, hc⟩
      · exact .inr (s.repeatPicture_repeats _ instant m (.inr h))
    · rw [if_neg he]
      obtain ⟨h1, h2, h3⟩ := ih s
      refine ⟨fun m h => h1 m (h.imp_left ?_), h2, h3⟩
      rintro ⟨x, hx, hm, hc⟩
      obtain rfl | hx := List.mem_cons.1 hx
      · exact absurd hc he
      · exact ⟨x, hx, hm, hc⟩

/-! ## A picture that is missing (R104) -/

/-- Configurations that take effect leave the pictures of the channel, and every other one. -/
theorem State.applyIntake_moved (s : State) (c : Nat) :
    (((s.applyIntake c).intake c).missing = (s.intake c).missing ∧
        ((s.applyIntake c).intake c).missedAt = (s.intake c).missedAt ∧
        ((s.applyIntake c).intake c).counts = (s.intake c).counts) ∧
      (∀ j, j ≠ c → (s.applyIntake c).intake j = s.intake j) ∧ (s.applyIntake c).str.feeds = s.str.feeds ∧
      s.applyIntake c = { s with str := (s.applyIntake c).str, alm := (s.applyIntake c).alm } := by
  have hcfg : ((s.intake c).pending.foldl (fun s e => s.setCfg 0x20 c e.1 e.2) s).str = s.str :=
    foldl_keeps State.str _ _ (fun s e _ => by simp [State.setCfg_kept ..]) s
  have hin : ∀ j, ((s.intake c).pending.foldl (fun s e => s.setCfg 0x20 c e.1 e.2) s).intake j = s.intake j := fun j => by
    unfold State.intake at hcfg ⊢
    rw [hcfg]
  have hframe : s.applyIntake c = { s with str := (s.applyIntake c).str, alm := (s.applyIntake c).alm } :=
    State.parts.2 (by simp [State.applyIntake_kept ..])
  refine ⟨?_, fun j hj => ?_, ?_, hframe⟩
  · unfold State.applyIntake
    dsimp only
    rw [State.intake_modIntake, if_pos rfl, hin]
    exact ⟨rfl, rfl, rfl⟩
  · unfold State.applyIntake
    dsimp only
    rw [State.intake_modIntake, if_neg hj, hin]
  · have hfeeds : ((s.intake c).pending.foldl (fun s e => s.setCfg 0x20 c e.1 e.2) s).str.feeds = s.str.feeds := by rw [hcfg]
    exact hfeeds

/-- The sampling instant of the picture whose time is over (R104). -/
def State.lastInstant (s : State) (c : Nat) : Nat :=
  let r := rateOf (s.intakeFmt c).rate
  gridAt r ((s.now - periodNs r - s.mergeWait c) * r.1 / (r.2 * 1000000000))

/-- A picture of the channel with that instant has been received, or has been found missing. -/
def State.pictureSeen (s : State) (c : Nat) (o : Option (BitVec 32)) : Bool :=
  o.any (fun ts => decide (gridNear (rateOf (s.intakeFmt c).rate) (instantOf s.now ts) = s.lastInstant c))

theorem State.missingPicture_eq (s : State) (c : Nat) : s.missingPicture c =
    if s.cfgN 0x20 c 0x02 ≠ 1 ∨ s.pictureSeen c (s.intake c).openTs = true ∨ s.pictureSeen c (s.intake c).endedTs = true ∨
        (s.intake c).missedAt = some (s.lastInstant c) then s
    else
      let v := (s.countIntake c 5 1).modIntake c (fun i => { i with missing := true, missedAt := some (s.lastInstant c) })
      let w := if (s.intake c).openTs.isNone then v.applyIntake c else v
      w.str.feeds.foldl (fun (s' : State) e =>
        if e.2.source = some c ∨ e.2.reading = some c then s'.repeatPicture e.1 (s.lastInstant c) else s') w := rfl

/-- A missing picture is counted once, and every feed that names the channel repeats it. -/
theorem State.missingPicture_due {s : State} {c : Nat} (h1 : s.cfgN 0x20 c 0x02 = 1)
    (ho : s.pictureSeen c (s.intake c).openTs = false) (he : s.pictureSeen c (s.intake c).endedTs = false)
    (hm : (s.intake c).missedAt ≠ some (s.lastInstant c)) :
    let u := s.missingPicture c
    ((u.intake c).missing = true ∧ (u.intake c).missedAt = some (s.lastInstant c) ∧
      (u.intake c).counts = bumpAt (s.intake c).counts 5 1) ∧ (∀ j, j ≠ c → u.intake j = s.intake j) ∧
    (∀ e ∈ s.str.feeds, e.2.source = some c ∨ e.2.reading = some c → (u.slot e.1).repeats (s.lastInstant c)) ∧
    u = { s with str := u.str, alm := u.alm } := by
  have hv := ((IntakeMoved.refl s c).countIntake 5 1).modIntake
    (f := fun i => { i with missing := true, missedAt := some (s.lastInstant c) }) rfl
  have hvf : ((s.countIntake c 5 1).modIntake c (fun i =>
      { i with missing := true, missedAt := some (s.lastInstant c) })).str.feeds = s.str.feeds := rfl
  rw [State.missingPicture_eq, if_neg (by simp [h1, ho, he, hm])]
  generalize (s.countIntake c 5 1).modIntake c (fun i => { i with missing := true, missedAt := some (s.lastInstant c) }) = v
    at hv hvf
  have hw : ∃ w, (if (s.intake c).openTs.isNone then v.applyIntake c else v) = w ∧ ((w.intake c).missing = true ∧
      (w.intake c).missedAt = some (s.lastInstant c) ∧ (w.intake c).counts = bumpAt (s.intake c).counts 5 1) ∧
      (∀ j, j ≠ c → w.intake j = s.intake j) ∧ w.str.feeds = s.str.feeds ∧ w = { s with str := w.str, alm := w.alm } := by
    refine ⟨_, rfl, ?_⟩
    split
    · obtain ⟨⟨hmis, hat, hcnt⟩, hother, hfeeds, hframe⟩ := v.applyIntake_moved c
      rw [hv.intake] at hmis hat hcnt
      refine ⟨⟨hmis, hat, hcnt⟩, fun j hj => (hother j hj).trans (hv.others j hj), hfeeds.trans hvf, ?_⟩
      rw [hframe, hv.frame]
    · exact ⟨by rw [hv.intake]; exact ⟨rfl, rfl, rfl⟩, hv.others, hvf, by rw [hv.frame]⟩
  obtain ⟨w, hwe, hwc, hother, hfeeds, hframe⟩ := hw
  obtain ⟨hrep, hintakes, hfold⟩ := State.foldl_repeatPicture c (s.lastInstant c) w.str.feeds w
  dsimp only
  rw [hwe]
  generalize List.foldl _ w w.str.feeds = u at *
  have hin : ∀ j, u.intake j = w.intake j := fun j => congrArg (fun t : Tab Intake => tget (fun _ => ({} : Intake)) t j) hintakes
  refine ⟨by rw [hin]; exact hwc, fun j hj => (hin j).trans (hother j hj), fun e he hc => ?_, by rw [hfold, hframe]⟩
  exact hrep e.1 (.inl ⟨e, hfeeds ▸ he, rfl, hc⟩)

/-- Settles O18: how pictures and access units end by time. -/
theorem picturesEnd : Obligations.PicturesEnd := by
  unfold Obligations.PicturesEnd
  intro s t ch hch
  rw [exec_pictureTimeout t s hch, exec_missingPicture t s hch, exec_auSlotEnd t s hch]
  refine ⟨?_, fun h => congrArg _ (State.auSlotEnd_idle (s := s.at t) h), fun n k hd ho hk => ?_⟩
  · have hmerge : 1000 * s.cfgN 0x20 ch 0x05 = (s.at t).mergeWait ch := Nat.mul_comm ..
    rw [hmerge]
    intro i r due filled last seen
    have hdue : due = i.openSince + periodNs r + 1000 * s.cfgN 0x20 ch 0x05 := by rw [hmerge]
    have hfilled : (s.at t).filledLines ch = filled := rfl
    have hlast : (s.at t).lastInstant ch = last := rfl
    have hseen : ∀ o, (s.at t).pictureSeen ch o = seen o := fun o => rfl
    refine ⟨fun h => congrArg _ (State.pictureTimeout_idle (s := s.at t) ?_), fun ts h1 ho hd => ?ends, fun h => ?known,
      fun h1 hno hne hm => ?missing⟩
    · exact hdue ▸ h
    case ends =>
      rw [hdue] at hd
      rw [State.pictureTimeout_due (s := s.at t) h1 ho hd]
      obtain ⟨j, ⟨hj, hother, hframe⟩, hopen, hended, hpics, hheld, hstore, hcounts⟩ :=
        State.endPicture_open (s := s.at t) ho
      rw [← hj] at hopen hended hpics hheld hstore hcounts
      exact ⟨_, rfl, hopen, hended, hpics, hheld, hcounts, hstore, hother, hframe⟩
    case known =>
      rw [← hseen, ← hseen, ← hlast] at h
      rw [State.missingPicture_eq]
      exact congrArg _ (if_pos h)
    case missing =>
      rw [← hseen] at hno hne
      rw [← hlast] at hm ⊢
      have hmiss := State.missingPicture_due (s := s.at t) h1 hno hne hm
      obtain ⟨⟨hmis, hat, hcnt⟩, hother, hrep, hframe⟩ := hmiss
      exact ⟨_, rfl, hmis, hat, hcnt, hother, hrep, hframe⟩
  · have h := State.auSlotEnd_open (s := s.at t) hd ho hk
    exact ⟨fun hlt => congrArg _ (h.trans (if_pos hlt)), fun hle => congrArg _ (h.trans (if_neg (Nat.not_lt.2 hle)))⟩

end Sys2Proof.Machine
end

section
/-! PROOFS. Feeds (04, 09): a line whose read fails on a stack of class prune is read again by the feed's standby (R110, R235,
R353, R372), so the feed's line need not move on. -/

namespace Sys2Proof.Machine

/-! ## What a prune of a pipeline die leaves of the feeds -/

theorem State.feeds_takeOverDecodes (s : State) (d : Nat) : (s.takeOverDecodes d).str.feeds = s.str.feeds := by
  have hbits : ∀ (u : State) n, (u.takeOverBits n).str.feeds = u.str.feeds := fun u n => by
    unfold State.takeOverBits
    dsimp only
    split <;> rfl
  rw [State.takeOverDecodes, foldl_keeps (fun s : State => s.str.feeds)]
  intro u e _
  exact ite_keeps (fun s : State => s.str.feeds) (hbits u e.1)

theorem State.feeds_judgeAll (s : State) : s.judgeAll.str.feeds = s.str.feeds := by
  rw [State.judgeAll, foldl_keeps (fun s : State => s.str.feeds)]
  intro u e _
  unfold State.judge
  split
  · split <;> rfl
  · rfl

/-- The feeds after a prune of a pipeline die are those that its takeovers leave. -/
theorem State.feeds_pruneP {s : State} {p : Nat} (h : s.isPruned (8 + p) 0xFF = false) :
    ∃ v : State, v.str = s.str ∧ v.alm = s.alm ∧ (s.pruneP p).str.feeds = (v.takeOverAll p).str.feeds := by
  have hpipes : ∀ u : State, ((List.range 4).foldl
      (fun (s : State) i => s.modPipe (4 * p + i) (fun x => { x with released := false })) u).str = u.str ∧
      ((List.range 4).foldl
      (fun (s : State) i => s.modPipe (4 * p + i) (fun x => { x with released := false })) u).alm = u.alm := fun u =>
    ⟨by rw [foldl_keeps State.str]; exact fun _ _ _ => rfl, by rw [foldl_keeps State.alm]; exact fun _ _ _ => rfl⟩
  have hslave : ∀ (c : Prop) [Decidable c] (u : State), (if c then u.slaveLost else u).str = u.str := fun c _ u =>
    ite_keeps State.str (by simp [State.slaveLost_kept ..])
  refine ⟨((List.range 4).foldl (fun (s : State) i => s.modPipe (4 * p + i) (fun x => { x with released := false }))
    (s.markPruned (8 + p) 0xFF)).prunePorts (512 * p) 512, ?_, ?_, ?_⟩
  · rw [show ∀ u : State, (u.prunePorts (512 * p) 512).str = u.str from fun u => by simp [State.prunePorts_kept ..], (hpipes _).1]
    simp [State.markPruned_kept ..]
  · rw [show ∀ u : State, (u.prunePorts (512 * p) 512).alm = u.alm from fun u => by simp [State.prunePorts_kept ..], (hpipes _).2]
    simp [State.markPruned_kept ..]
  · unfold State.pruneP
    rw [if_neg (by simp [h])]
    dsimp only
    rw [State.feeds_judgeAll, hslave, show ∀ u : State, (u.dropBound p).str = u.str from fun u => by
      simp [State.dropBound_kept ..], State.feeds_takeOverDecodes]

/-- A source of class prune unit of a stack of a pipeline die prunes the stack, and its die with it. -/
theorem State.feeds_react_stack {s : State} {d : Nat} (h8 : 8 ≤ d) (h12 : d < 12) (hp : s.flt.pruned = []) :
    ∃ v : State, v.str = s.str ∧ v.alm = s.alm ∧
      (s.react (0xC00 + 16 * d + 1) 2).str.feeds = (v.takeOverAll ((d - 8) / 2)).str.feeds := by
  have hunit : unitOf (0xC00 + 16 * d + 1) = some (12, d) := by interval_cases d <;> rfl
  have hdom : (0xC00 + 16 * d + 1) / 256 = 12 := by omega
  have hab : (s.abandon 12 d).flt.pruned = [] ∧ (s.abandon 12 d).str = s.str ∧ (s.abandon 12 d).alm = s.alm := by
    refine ⟨?_, by simp [State.abandon_kept ..], by simp [State.abandon_kept ..]⟩
    unfold State.abandon
    dsimp only
    split
    · exact hp
    · exact hp
  have hreact : s.react (0xC00 + 16 * d + 1) 2 = ((s.abandon 12 d).pruneStack d).stopTicks := by
    simp only [State.react, hunit, hdom]
    rfl
  have hstop : ∀ u : State, u.stopTicks.str = u.str := fun u => by simp [State.stopTicks_kept ..]
  rw [hreact, hstop]
  generalize s.abandon 12 d = a at hab
  obtain ⟨hap, hastr, haalm⟩ := hab
  unfold State.pruneStack
  rw [if_neg (by simp [State.isPruned, hap])]
  dsimp only
  rw [if_neg (by omega)]
  have hnot : ((a.markPruned 12 d).modStack d (fun x => { x with st := 3, holding := false })).isPruned
      (8 + (d - 8) / 2) 0xFF = false := by
    have hstops : ∀ u : State, u.stopTicks.flt.pruned = u.flt.pruned := fun _ => rfl
    have hmark : (a.markPruned 12 d).flt.pruned = [(12, d)] := by
      rw [State.markPruned, hstops, show (a.modFlt _).flt.pruned = addTo a.flt.pruned (12, d) from rfl, hap]
      rfl
    refine decide_eq_false fun hm => ?_
    rw [State.modStack_flt, hmark, List.mem_singleton, Prod.mk.injEq] at hm
    omega
  obtain ⟨v, hv1, hv2, hv3⟩ := State.feeds_pruneP hnot
  refine ⟨v, hv1.trans ?_, hv2.trans ?_, hv3⟩
  · simp [State.markPruned_kept .., hastr]
  · simp [State.markPruned_kept .., haalm]

/-- A read error of a stack of a pipeline die whose source is of class prune: the die is pruned, and its feeds are taken
over (R353, R372, R235). -/
theorem State.feeds_readError {s : State} {die : Nat} (r : Nat) (hd : die < 2) (hrec : s.flt.recording = true)
    (hsrc : ∀ k, k < 2 → s.source (0xC00 + 16 * (8 + 2 * die + k) + 1) = { cls := some 2 }) (hpruned : s.flt.pruned = []) :
    ∃ v : State, v.str = s.str ∧ v.alm = s.alm ∧ (s.dieReadError die r).str.feeds = (v.takeOverAll die).str.feeds := by
  obtain ⟨k, hk, hke⟩ : ∃ k, k < 2 ∧ Config.errorAddress s.fresh / 2 ^ 36 % 2 = k := ⟨_, Nat.mod_lt _ (by decide), rfl⟩
  unfold State.dieReadError State.readError
  dsimp only
  have hretire : ∀ (u : State) m a y, (u.retirePage m r a y).str = u.str := fun u m a y => by simp [State.retirePage_kept ..]
  rw [hke, hretire, State.stackError]
  have hx : ∀ (a : Nat) (y : BitVec 32), ∃ x : State, (s.refresh.modStack (8 + 2 * die + k) (fun x =>
      { x with uncorrectable := inc64 x.uncorrectable })).logStack (8 + 2 * die + k) 1 r a y = x ∧
      x.str = s.str ∧ x.alm = s.alm ∧ x.flt = s.flt := fun a y =>
    ⟨_, rfl, by simp [State.logStack_kept ..], by simp [State.logStack_kept ..], by simp [State.logStack_kept ..]⟩
  obtain ⟨x, hxe, hxs, hxa, hxf⟩ := hx (Config.errorAddress s.fresh) (Config.syndrome s.fresh)
  have hsource : x.source (0xC00 + 16 * (8 + 2 * die + k) + 1) = { cls := some 2 } := by
    rw [← hsrc k hk, State.source, State.source, hxf]
  have hlisted : (sourceInfo (0xC00 + 16 * (8 + 2 * die + k) + 1)).isSome = true := by
    interval_cases die <;> interval_cases k <;> rfl
  have hxrec : x.flt.recording = true := hxf ▸ hrec
  rw [hxe, State.pulseFault, if_neg (by rw [hsource]; decide), State.raised_of_recording hlisted hxrec,
    show x.classOf (0xC00 + 16 * (8 + 2 * die + k) + 1) = 2 by rw [State.classOf, hsource]]
  have hrecorded := (State.recordRaise_recorded (by omega) hlisted hxrec false).pruned
  obtain ⟨v, hv1, hv2, hv3⟩ := State.feeds_react_stack (s := x.recordRaise (0xC00 + 16 * (8 + 2 * die + k) + 1) false)
    (d := 8 + 2 * die + k) (by omega) (by omega) (hrecorded.trans (hxf ▸ hpruned))
  rw [show (8 + 2 * die + k - 8) / 2 = die by omega] at hv3
  refine ⟨v, hv1.trans ?_, hv2.trans ?_, hv3⟩
  · rw [State.str_recordRaise, hxs]
  · simp [State.recordRaise_kept .., hxa]

/-! ## The feed of a counterexample -/

/-- Feed 0 reads line 1 of a picture of channel 0, whose peer is channel 1024 on the other die; both stacks of P0 are of class
prune for uncorrectable reads. -/
def readingFeed : Feed :=
  { source := some 0, reading := some 0, line := 1,
    cond := some { sampling := 1, rate := 1, w := 256, h := 144, sw := 256, sh := 144, orient := 0, filter := 0, coef := [] } }
def readingState : State :=
  { ((({} : State).setCfg 0x24 0x3000 0x01 (natLe 2 1024)).setCfg 0x24 0 0x05 (natLe 2 1024)) with
    str := { feeds := [(0, readingFeed)] }
    flt := { recording := true, sources := [(0xC81, { cls := some 2 }), (0xC91, { cls := some 2 })] } }

/-- The feed once its line has been read, late. -/
def readFeed : Feed := { readingFeed with line := 2, counts := [0, 0, 1, 0, 0] }
/-- The feed once its standby on the other die has taken it over: it reads from the mark that it was told. -/
def takenFeed : Feed := { readFeed with line := 0, source := some 1024, reading := some 1024, activeDie := 1 }

theorem readingState_lineRead : ((readingState.at 1000000000000).readLine 0 0 true).str.feeds =
    [(0, readFeed)] := by
  decide

theorem exec_feedLineRead (t : Nat) (e : Bool) (s : State) {n : Nat} (hn : n < 8192) :
    exec (.feedLineRead t n e) s = .next ((s.at t).feedRead n e) := if_pos (decide_eq_true hn)

theorem readingState_exec : exec (.feedLineRead 1000000000000 0 true) readingState =
    .next (((readingState.at 1000000000000).readLine 0 0 true).dieReadError 0 0x1000) := by
  have hnext : (readingState.at 1000000000000).nextFeedPicture 0 = readingState.at 1000000000000 := rfl
  have hdue : (readingState.at 1000000000000).feedDue 0 = some 0 := by decide
  have hread : (readingState.at 1000000000000).feedRead 0 true =
      ((readingState.at 1000000000000).readLine 0 0 true).dieReadError 0 0x1000 := by
    simp only [State.feedRead, hnext, hdue]
    rfl
  exact (exec_feedLineRead _ _ _ (by decide)).trans (congrArg _ hread)

/-- The takeover of the feed: its standby reads from the mark that it was told, which is 0. -/
theorem readingState_takenOver {v : State}
    (hf : v.str.feeds = [(0, readFeed)]) (ha : v.alm = readingState.alm) :
    (v.takeOverAll 0).feed 0 = takenFeed := by
  have hcfg : ∀ fam inst mem, v.cfgN fam inst mem = readingState.cfgN fam inst mem := fun fam inst mem => by
    unfold State.cfgN State.cfg
    rw [ha]
  have hpeer : v.peerOf 0 = some 1024 := by
    unfold State.peerOf
    rw [hcfg]
    decide
  have hfeed : v.feed 0 = readFeed := by
    unfold State.feed
    rw [hf]
    decide
  have htake : v.takeOverAll 0 = v.takeOver 0 := by
    rw [State.takeOverAll, hf]
    have hon : readFeed.source.any (fun c => decide (intakeDie c = 0)) = true := by decide
    rw [List.foldl_cons, List.foldl_nil]
    dsimp only
    rw [if_pos hon]
  rw [htake, State.takeOver, hfeed, show readFeed.source = some 0 from rfl]
  dsimp only
  rw [hpeer]
  dsimp only
  rw [if_neg (by rw [hcfg]; decide), foldl_keeps (State.feed · 0)]
  · rw [State.feed_modFeed, if_pos rfl, show ∀ x, (v.setCfgN 0x24 0 0x05 2 x).feed 0 = v.feed 0 from fun _ => rfl, hfeed]
    rfl
  · exact fun _ _ _ => rfl

/-- Refutes O19: the uncorrectable read of line 1 prunes P0, whose feed is taken over and reads from its standby's mark
again, line 0, where the statement has the next line, 2. -/
theorem not_feedLines : ¬ Obligations.FeedLines := by
  unfold Obligations.FeedLines
  intro h
  obtain ⟨-, -, h3, -, -⟩ := h readingState 1000000000000 0 true (by decide)
  obtain ⟨-, hread⟩ := h3 0 rfl (by decide)
  obtain ⟨u, hu, hline, -⟩ := hread (by decide) (by decide) (by decide)
  rw [readingState_exec] at hu
  cases hu
  obtain ⟨v, hstr, halm, hfeeds⟩ := State.feeds_readError (s := (readingState.at 1000000000000).readLine 0 0 true) (die := 0)
    0x1000 (by decide) (by decide) (by decide) (by decide)
  have hv : (v.takeOverAll 0).feed 0 = takenFeed := readingState_takenOver (hstr ▸ readingState_lineRead) (halm.trans (by rfl))
  have hfeed : (((readingState.at 1000000000000).readLine 0 0 true).dieReadError 0 0x1000).feed 0 = (v.takeOverAll 0).feed 0 :=
    congrArg (fun t : Tab Feed => tget (fun _ => ({} : Feed)) t 0) hfeeds
  rw [hfeed, hv] at hline
  exact absurd hline (by decide)

end Sys2Proof.Machine
end

section
/-! PROOFS. A write that its entry refuses: the state the entry leaves, and the answer of its status (R289, R302). -/

namespace Sys2Proof.Machine

/-- A WRITE that the Almanac runs at once and that its entry refuses is answered with the entry's status. -/
theorem orderWrite_refused {s : State} {t a fam inst mem : Nat} {b : List Byte} {sp : Space} {n : Nat} {r : Row}
    (h : takesAtOnce s t a) (hs : spaceOf fam inst = some (sp, n)) (hr : entryRow sp n mem = some r)
    (hw : recordWrite sp mem = true ∨ canWrite r.acc (s.rightsMask a fam inst sp n) = true)
    {st e : Nat} {u : State} (hst : st ≠ 0)
    (hu : (s.at t).entryWrite a fam inst mem sp n r b = (st, e, u)) :
    (s.at t).orderWrite a fam inst mem b = u.say st [] e := by
  have hright : (!recordWrite sp mem && !canWrite r.acc ((s.at t).rightsMask a fam inst sp n)) = false := by
    have : (s.at t).rightsMask a fam inst sp n = s.rightsMask a fam inst sp n := rfl
    rcases hw with hw | hw <;> simp [this, hw]
  have hj : (s.at t).journals = false := (State.at_journals s t).trans (atOnce_journals h)
  have hwait : (s.at t).waits a = false := (State.at_waits s t a).trans (atOnce_waits h)
  have hop : (s.at t).writeOp a fam inst mem b = (st, e, u) := by
    simp only [State.writeOp, hs, hr, hright, hu, Bool.false_eq_true, if_false, ne_eq, hst, not_false_eq_true, if_true]
  have hlive : (s.at t).alm.live = true := h.live
  have hrun : (s.at t).runOp a 0 0 2 fam inst mem b = { status := st, at_ := e, next := u } := by
    simp only [State.runOp, hlive, Bool.not_true, Bool.false_eq_true, if_false, State.runWrite, hj]
    rw [hop]
  simp only [State.orderWrite, State.order, hwait, Bool.and_false, Bool.false_eq_true, if_false]
  rw [hrun]

/-- What follows a write that its entry refuses: nothing. -/
theorem afterWrite_refused (sp : Space) (n : Nat) (r : Row) (was : Nat) {st e : Nat} {u : State} (hst : st ≠ 0) :
    afterWrite sp n r was (st, e, u) = (st, e, u) := if_pos hst

theorem State.otherKind_plain (s : State) {sp : Space} (n mem : Nat) (hp : sp ≠ .encode ∧ sp ≠ .decode ∧ sp ≠ .ladder) :
    s.otherKind sp n mem = false := by
  obtain ⟨h1, h2, h3⟩ := hp
  cases sp <;> simp_all [State.otherKind]

/-- A number in the one range of its entry that the entry refuses. -/
theorem row_number_refused {s : State} {t a fam inst mem w v : Nat} {sp : Space} {n : Nat} {r : Row} {lo hi : Int}
    (h : takesAtOnce s t a) (hw : mayWrite s a fam inst mem) (hs : spaceOf fam inst = some (sp, n))
    (hr : entryRow sp n mem = some r) (hp : sp ≠ .encode ∧ sp ≠ .decode ∧ sp ≠ .ladder)
    (hm : mem ≠ 0) (hstr : r.struct = false) (hty : r.ty = .u w) (hv : v < 256 ^ w)
    (hl : (s.at t).legalNow sp n mem r = [(lo, hi)]) (hlo : lo ≤ v) (hhi : (v : Int) ≤ hi)
    (hc : creditOf fam inst mem = none) (hk : ¬ (sp = .clock ∧ mem = 0x1D)) {st e : Nat} {u : State} (hst : st ≠ 0)
    (hu : (s.at t).writeNumber a fam inst mem sp n r v = (st, e, u)) :
    (s.at t).orderNumber a fam inst mem w v = u.say st [] e := by
  refine orderWrite_refused h hs hr (.inr (mayWrite_right hw hs hr)) hst ?_
  rw [entryWrite_number hm ((s.at t).otherKind_plain n mem hp) hstr hty hv ?ranges ?nearest hc hk, hu]
  · exact afterWrite_refused sp n r _ hst
  case ranges => simp only [hl, List.mem_singleton, forall_eq]; omega
  case nearest => simp only [hl, List.isEmpty_cons, Bool.false_eq_true, if_false, nearest_self hlo hhi]

/-- A BLOB that its entry refuses. -/
theorem row_blob_refused {s : State} {t a fam inst mem : Nat} {b : List Byte} {sp : Space} {n : Nat} {r : Row}
    (h : takesAtOnce s t a) (hs : spaceOf fam inst = some (sp, n)) (hr : entryRow sp n mem = some r)
    (hw : recordWrite sp mem = true ∨ mayWrite s a fam inst mem) (hp : sp ≠ .encode ∧ sp ≠ .decode ∧ sp ≠ .ladder)
    (hm : mem ≠ 0) (hstr : r.struct = false) (hty : r.ty = .blob) {st e : Nat} {u : State} (hst : st ≠ 0)
    (hu : (s.at t).writeBlob a fam inst mem sp n b = (st, e, u)) :
    (s.at t).orderWrite a fam inst mem b = u.say st [] e := by
  refine orderWrite_refused h hs hr (hw.imp id (fun k => mayWrite_right k hs hr)) hst ?_
  have ho := (s.at t).otherKind_plain n mem hp
  simp only [State.entryWrite, hm, ho, hstr, hty, if_false, Bool.false_and, Bool.false_eq_true]
  rw [hu]
  exact afterWrite_refused sp n r _ hst

end Sys2Proof.Machine
end

section
/-! PROOFS. Cut orders, picture boundaries and outtake rows (R113 to R116, R226, R246, R488). -/

namespace Sys2Proof.Machine

/-! ## Cut orders -/

theorem spaceOf_feed {n : Nat} (h : n < 8192) : spaceOf 0x20 (0x2000 + n) = some (.feed, n) := by
  have h1 : ¬ (0x2000 + n ≤ 0x7FF) := by omega
  have h2 : 0x2000 + n ≤ 0x3FFF := by omega
  have h3 : ¬ (0x2000 + n ≤ 0x1FFF) := by omega
  simp [spaceOf, spacesOf, List.find?, h1, h2]

theorem State.setCfgN_cfgN_of_ne (s : State) {f i m g j n : Nat} (w v : Nat) (h : entryKey g j n ≠ entryKey f i m) :
    (s.setCfgN f i m w v).cfgN g j n = s.cfgN g j n := by
  simp only [State.cfgN, State.setCfgN, State.cfg_setCfg_of_ne s _ h]

/-- The status of a cut order (R115, Table 07.1). -/
def State.cutStatus (s : State) (n c : Nat) : Nat :=
  if (s.slot n).role = 2 then 3
  else if s.cfgN 0x21 n 0x04 = 1 ∧ 2 ≤ (s.slot n).st ∧ s.cfgN 0x24 (0x3000 + c) 0x01 = 0xFFFF then 16
  else (s.setCfgN 0x20 (0x2000 + n) 0x03 8 0).cutRefusal n c

/-- What a cut order makes of its feed. -/
def State.cutFeed (s : State) (n c time : Nat) : Feed :=
  if s.cutStatus n c ≠ 0 then { s.feed n with counts := bumpAt (s.feed n).counts 4 1 }
  else if (s.slot n).st ≤ 1 then { s.feed n with source := some c }
  else { s.feed n with cuts := (s.feed n).cuts ++ [{ orderTime := time, tally := false, ch := c }] }

theorem State.orderCut_cleared (s : State) {n c : Nat} (_hn : n < 8192) (time : Nat) :
    (s.setCfgN 0x20 (0x2000 + n) 0x03 8 0).orderCut n c time false =
      (s.cutStatus n c, (s.setCfgN 0x20 (0x2000 + n) 0x03 8 0).modFeed n (fun _ => s.cutFeed n c time)) := by
  have h1 : (s.setCfgN 0x20 (0x2000 + n) 0x03 8 0).cfgN 0x21 n 0x04 = s.cfgN 0x21 n 0x04 :=
    s.setCfgN_cfgN_of_ne _ _ (by simp only [entryKey]; omega)
  have h2 : (s.setCfgN 0x20 (0x2000 + n) 0x03 8 0).cfgN 0x24 (0x3000 + c) 0x01 = s.cfgN 0x24 (0x3000 + c) 0x01 :=
    s.setCfgN_cfgN_of_ne _ _ (by simp only [entryKey]; omega)
  have hwhy : (if ((s.setCfgN 0x20 (0x2000 + n) 0x03 8 0).slot n).role = 2 then 3
      else if s.cfgN 0x21 n 0x04 = 1 ∧ 2 ≤ ((s.setCfgN 0x20 (0x2000 + n) 0x03 8 0).slot n).st ∧
        s.cfgN 0x24 (0x3000 + c) 0x01 = 0xFFFF then 16
      else (s.setCfgN 0x20 (0x2000 + n) 0x03 8 0).cutRefusal n c) = s.cutStatus n c := rfl
  simp only [State.orderCut, h1, h2, hwhy, State.cutFeed]
  by_cases h : s.cutStatus n c = 0
  · by_cases hst : (s.slot n).st ≤ 1
    · have hst' : ((s.setCfgN 0x20 (0x2000 + n) 0x03 8 0).slot n).st ≤ 1 := hst
      simp only [h, hst, hst', ne_eq, not_true_eq_false, if_false, if_true]
      rfl
    · have hst' : ¬ ((s.setCfgN 0x20 (0x2000 + n) 0x03 8 0).slot n).st ≤ 1 := hst
      simp only [h, hst, hst', ne_eq, not_true_eq_false, if_false]
      rfl
  · simp only [ne_eq, h, not_false_eq_true, if_true]
    rfl

/-- The order time of a cut (R113). -/
def State.cutTime (s : State) (n : Nat) : Nat :=
  if s.cfgN 0x20 (0x2000 + n) 0x03 = 0 then s.now else s.cfgN 0x20 (0x2000 + n) 0x03

/-- The state that a cut order leaves: CUT_AT is used up, and its feed holds the order or counts its refusal. -/
def State.cutOrdered (s : State) (n c : Nat) : State :=
  (s.setCfgN 0x20 (0x2000 + n) 0x03 8 0).modFeed n (fun _ => s.cutFeed n c (s.cutTime n))

theorem State.writeCut_eq (s : State) {n c : Nat} (hn : n < 8192) :
    ∃ e, s.writeCut n c = (s.cutStatus n c, e, s.cutOrdered n c) := by
  have horder := s.orderCut_cleared (c := c) hn (s.cutTime n)
  unfold State.writeCut
  dsimp only
  unfold State.cutTime at horder
  rw [horder]
  rcases Nat.eq_zero_or_pos (s.cutStatus n c) with h | h
  · exact ⟨_, by rw [h]; rfl⟩
  · obtain ⟨k, hk⟩ := Nat.exists_eq_succ_of_ne_zero (Nat.pos_iff_ne_zero.mp h)
    exact ⟨_, by rw [hk]; rfl⟩

theorem exec_cutTo {a n : Nat} (t c : Nat) (s : State) (ha : a < 16) (hn : n < 8192) :
    exec (.cutTo t a n c) s = .next ((s.at t).orderNumber a 0x20 (0x2000 + n) 0x02 2 c) :=
  (if_pos (decide_eq_true ha)).trans (by simp [named, isSlot, hn])

/-- A cut order is answered with its status, and changes its feed alone. -/
theorem cutTo_orders {s : State} {t a n c : Nat} (hn : n < 8192) (hc : c < 2048)
    (h : takesAtOnce s t a) (hw : mayWrite s a 0x20 (0x2000 + n) 0x02) :
    let v := (s.at t).orderNumber a 0x20 (0x2000 + n) 0x02 2 c
    v.answer.status = s.cutStatus n c ∧ v.str = ((s.at t).cutOrdered n c).str := by
  obtain ⟨e, he⟩ := (s.at t).writeCut_eq (c := c) hn
  have hr : entryRow .feed n 0x02 = some { m0 := 0x02, m1 := 0x02, ty := .u 2, acc := 8, legal := [(0, 2047)] } := rfl
  have hcr : creditOf 0x20 (0x2000 + n) 0x02 = none := by simp [creditOf]
  by_cases hst : s.cutStatus n c = 0
  · have hu : (s.at t).writeCut n c = (0, e, (s.at t).cutOrdered n c) :=
      he.trans (congrArg (fun x => (x, e, (s.at t).cutOrdered n c)) hst)
    have hv := row_number_inRange (s := s) (t := t) h hw (spaceOf_feed hn) hr (by simp) (by simp) rfl rfl
      (by omega) rfl (by omega) (by omega) hcr (by simp) (e := e) (u := (s.at t).cutOrdered n c) hu
    exact ⟨by rw [accepted_answer hv, hst], by rw [(accepted_kept hv).2.2.2.2.2.2.2.2.2.1]⟩
  · have hv := row_number_refused (s := s) (t := t) h hw (spaceOf_feed hn) hr (by simp) (by simp) rfl rfl
      (by omega) rfl (by omega) (by omega) hcr (by simp) (e := e) (u := (s.at t).cutOrdered n c) hst he
    exact ⟨by rw [hv]; rfl, by rw [hv]; rfl⟩

/-! ## What a boundary leaves of a slot -/

/-- What the clauses on boundaries say of a slot. -/
def Slot.place (x : Slot) : Nat × Nat × List Pic × Nat × Bool × Bool :=
  (x.st, x.pictures, x.pics, x.poc, x.startNext, x.run)

theorem Slot.place_eq {x y : Slot} (h : x.place = y.place) : x.st = y.st ∧ x.pictures = y.pictures ∧ x.pics = y.pics ∧
    x.poc = y.poc ∧ x.startNext = y.startNext ∧ x.run = y.run := by
  simpa only [Slot.place, Prod.mk.injEq] using h

theorem State.place_modSlot (s : State) (n m : Nat) (f : Slot → Slot) (h : (f (s.slot n)).place = (s.slot n).place) :
    ((s.modSlot n f).slot m).place = (s.slot m).place := by
  rw [State.slot_modSlot]
  split
  · next hm => subst hm; exact h
  · rfl

theorem State.slot_of_slots {s u : State} (h : u.str.slots = s.str.slots) (m : Nat) : u.slot m = s.slot m := by
  simp only [State.slot, h]
theorem State.slot_of_str {s u : State} (h : u.str = s.str) (m : Nat) : u.slot m = s.slot m :=
  State.slot_of_slots (by rw [h]) m

theorem State.place_of_str {s u : State} (h : u.str = s.str) (m : Nat) : (u.slot m).place = (s.slot m).place := by
  simp only [State.slot, h]

theorem State.emitParts_place (s : State) (die n row tile length : Nat) (p : Pic) (body : List Part) (m : Nat) :
    ((s.emitParts die n row tile length p body).slot m).place = (s.slot m).place := by
  simp only [State.emitParts, State.slot_emit]
  refine ite_keeps (fun u : State => (u.slot m).place) (s.place_modSlot n m _ ?_)
  split <;> rfl

theorem State.sendOwn_place (s : State) (die index : Nat) (f : Frame) (o : Own) (m : Nat) :
    ((s.sendOwn die index f o).slot m).place = (s.slot m).place :=
  State.place_of_str (by simp only [State.sendOwn_kept ..]) m

theorem State.emitUnit_place (s : State) (die n row : Nat) (sizes : List Nat) (pic : Pic) (last : Bool) (m : Nat) :
    ((s.emitUnit die n row sizes pic last).slot m).place = (s.slot m).place := by
  unfold State.emitUnit
  split
  · rfl
  · split
    · rfl
    · dsimp only
      rw [foldl_keeps (fun u : State => (u.slot m).place)]
      · refine State.place_modSlot _ n m _ ?_
        split <;> rfl
      · intro u j _
        refine (State.sendOwn_place _ die _ _ _ m).trans (State.place_modSlot u n m _ ?_)
        split <;> rfl

theorem State.meterPicture_place (s : State) (die n k : Nat) (held : Bool) (m : Nat) :
    ((s.meterPicture die n k held).slot m).place = (s.slot m).place :=
  (State.place_modSlot _ n m _ rfl).trans (State.place_of_str (by simp only [State.meter_kept ..]) m)

theorem State.holdRow_place (s : State) (die n place : Nat) (pic : Pic) (m : Nat) :
    ((s.holdRow die n place pic).slot m).place = (s.slot m).place := by
  unfold State.holdRow
  dsimp only
  rw [ite_keeps (fun u : State => (u.slot m).place) (State.meterPicture_place _ die n pic.no true m),
    State.emitUnit_place, State.emitParts_place]
  rfl

theorem State.holdRest_place (s : State) (die n m : Nat) : ((s.holdRest die n).slot m).place = (s.slot m).place := by
  unfold State.holdRest
  dsimp only
  rw [foldl_keeps (fun u : State => (u.slot m).place)]
  intro u p _
  unfold State.holdUnits
  dsimp only
  rw [foldl_keeps (fun u : State => (u.slot m).place)]
  exact fun v k _ => v.holdRow_place die n _ p m

/-! ## Picture boundaries -/

theorem exec_pictureBoundary {n : Nat} (t : Nat) (s : State) (hn : n < 8192) :
    exec (.pictureBoundary t n) s = .next ((s.at t).pictureBoundary n) := if_pos (decide_eq_true hn)

theorem State.pictureBoundary_rests (s : State) (n : Nat)
    (h : (s.slot n).kind = 0 ∨ (s.slot n).st < 2 ∨ ((s.slot n).kind = 1 ∧ (s.slot n).role = 2) ∨
      ((s.slot n).st = 2 ∧ s.mayStart n = false)) : s.pictureBoundary n = s := by
  have hrest : (s.slot n).st < 2 ∨ ((s.slot n).st = 2 ∧ s.mayStart n = false) →
      s.encodeBoundary n = s ∧ s.decodeBoundary n = s := by
    intro hr
    have h5 : ¬ (s.slot n).st = 5 := by omega
    have hr' : (s.slot n).st < 2 ∨ ((s.slot n).st = 2 ∧ (!s.mayStart n) = true) := by simpa using hr
    unfold State.encodeBoundary State.decodeBoundary
    dsimp only
    rw [if_neg h5, if_pos hr', if_neg h5, if_pos hr']
    exact ⟨rfl, rfl⟩
  unfold State.pictureBoundary
  dsimp only
  rcases h with h | h | ⟨hk, hr⟩ | h
  · rw [h, if_neg (by decide), if_neg (by simp)]
  · split
    · exact (hrest (.inl h)).2
    · split
      · exact (hrest (.inl h)).1
      · rfl
  · rw [hk, if_neg (by decide), if_neg (by simp [hr])]
  · split
    · exact (hrest (.inr h)).2
    · split
      · exact (hrest (.inr h)).1
      · rfl

theorem State.ladder_single {s : State} {n : Nat} (h : s.cfg 0x22 n 0x01 = []) : s.ladder n = [n] := by
  simp [State.ladder, State.tiersOf, h]

theorem State.takeCuts_idle {s : State} {n : Nat} (h : (s.feed n).cuts = []) : s.takeCuts n = (false, s) := by
  simp [State.takeCuts, Feed.dueCut, h]

/-- A step of a boundary that touches one slot and no bed. -/
structure SlotMoved (s u : State) (n : Nat) : Prop where
  others : ∀ j, j ≠ n → u.slot j = s.slot j
  beds : u.str.beds = s.str.beds
  now : u.now = s.now

theorem SlotMoved.refl (s : State) (n : Nat) : SlotMoved s s n := ⟨fun _ _ => rfl, rfl, rfl⟩
theorem SlotMoved.trans {s u v : State} {n : Nat} (h : SlotMoved s u n) (k : SlotMoved u v n) : SlotMoved s v n :=
  ⟨fun j hj => (k.others j hj).trans (h.others j hj), k.beds.trans h.beds, k.now.trans h.now⟩
theorem SlotMoved.bed {s u : State} {n : Nat} (h : SlotMoved s u n) (j : Nat) : u.bed j = s.bed j := by
  simp only [State.bed, h.beds]
theorem State.moved_modSlot (s : State) (n : Nat) (f : Slot → Slot) : SlotMoved s (s.modSlot n f) n :=
  ⟨fun j hj => by rw [State.slot_modSlot, if_neg hj], rfl, rfl⟩
theorem SlotMoved.modSlot {s u : State} {n : Nat} (h : SlotMoved s u n) (f : Slot → Slot) :
    SlotMoved s (u.modSlot n f) n := h.trans (u.moved_modSlot n f)

/-- The slots, the beds and the time stay. -/
theorem SlotMoved.of_slots {s u : State} {n : Nat} (h : u.str.slots = s.str.slots) (hb : u.str.beds = s.str.beds)
    (hnow : u.now = s.now) : SlotMoved s u n :=
  ⟨fun j _ => by simp only [State.slot, h], hb, hnow⟩

theorem State.takePhase_moves (s : State) (n : Nat) (start : Bool) :
    SlotMoved s (s.takePhase n start).2 n ∧ ((s.takePhase n start).2.slot n).place = (s.slot n).place := by
  unfold State.takePhase
  split
  · exact ⟨.refl s n, rfl⟩
  · dsimp only
    refine ⟨s.moved_modSlot n _, State.place_modSlot s n n _ ?_⟩
    generalize List.getLast? _ = due
    rcases due with _ | ⟨v, k⟩
    · dsimp only
      rw [ite_self]
      rfl
    · by_cases h : (if start = true then 0 else (s.slot n).nextPhase) = 0 ∧
          (!(start && decide (s.cfgN 33 n 5 = 0))) = true
      · simp only [if_pos h]
        rfl
      · simp only [if_neg h]
        rfl

theorem State.clearHist_moves (s : State) (n : Nat) :
    SlotMoved s (s.clearHist n) n ∧ ((s.clearHist n).slot n).place = (s.slot n).place := by
  unfold State.clearHist
  split
  · exact ⟨.refl s n, rfl⟩
  · exact ⟨s.moved_modSlot n _, State.place_modSlot s n n _ rfl⟩

/-- The picture that a boundary begins, as the clauses show it. -/
def Pic.shown (p : Pic) : Nat × Nat × Bool × Bool × Bool := (p.no, p.instant, p.start, p.rep, p.hold)

theorem State.beginPicture_moves (s : State) (n : Nat) (start rep cut hold : Bool) (phase : Option (Nat × Nat)) :
    let u := s.beginPicture n start rep cut hold phase
    SlotMoved s u n ∧ (u.slot n).st = (s.slot n).st ∧ (u.slot n).pictures = (s.slot n).pictures + 1 ∧
      (u.slot n).poc = (s.slot n).poc ∧
      (u.slot n).pics.head?.map Pic.shown = some ((s.slot n).pictures, s.now, start, rep, hold) := by
  obtain ⟨hmoved, hplace⟩ := s.clearHist_moves n
  have hseq : SlotMoved s ((s.clearHist n).resyncSeq n) n ∧
      (((s.clearHist n).resyncSeq n).slot n).place = (s.slot n).place :=
    ⟨hmoved.modSlot _, (State.place_modSlot _ n n _ rfl).trans hplace⟩
  obtain ⟨hst, hpictures, -, hpoc, -, -⟩ := Slot.place_eq hseq.2
  have hnow := hseq.1.now
  unfold State.beginPicture
  dsimp only
  refine ⟨hseq.1.modSlot _, ?_⟩
  rw [State.slot_modSlot, if_pos rfl]
  dsimp only [List.head?_cons, Option.map_some, Pic.shown]
  rw [hst, hpictures, hpoc, hnow]
  exact ⟨rfl, rfl, rfl, rfl⟩

theorem State.nextFeedPicture_slots (s : State) (n : Nat) :
    (s.nextFeedPicture n).str.slots = s.str.slots ∧ (s.nextFeedPicture n).str.beds = s.str.beds := by
  unfold State.nextFeedPicture
  dsimp only
  repeat' split
  all_goals exact ⟨rfl, rfl⟩

theorem State.judge_slots (s : State) (n : Nat) :
    (s.judge n).str.slots = s.str.slots ∧ (s.judge n).str.beds = s.str.beds ∧ (s.judge n).now = s.now := by
  unfold State.judge
  split
  · split <;> exact ⟨rfl, rfl, rfl⟩
  · exact ⟨rfl, rfl, rfl⟩

/-- What ends a boundary leaves the slots and the beds. -/
theorem State.boundaryEnd_moves (s : State) (n : Nat) (due : Bool) (f : Twin → Twin) :
    let u := (((if due then s.modTwin n f else s).nextFeedPicture n).judge n)
    SlotMoved s u n ∧ u.slot n = s.slot n := by
  intro u
  have htwin : (if due then s.modTwin n f else s).str.slots = s.str.slots ∧
      (if due then s.modTwin n f else s).str.beds = s.str.beds ∧ (if due then s.modTwin n f else s).now = s.now := by
    split <;> exact ⟨rfl, rfl, rfl⟩
  obtain ⟨hslots, hbeds, hnow⟩ := htwin
  generalize hv : (if due then s.modTwin n f else s) = v at hslots hbeds hnow
  have hu : u = (v.nextFeedPicture n).judge n := by rw [← hv]
  obtain ⟨hfslots, hfbeds⟩ := v.nextFeedPicture_slots n
  obtain ⟨hjslots, hjbeds, hjnow⟩ := (v.nextFeedPicture n).judge_slots n
  have hs : u.str.slots = s.str.slots := by rw [hu, hjslots, hfslots, hslots]
  refine ⟨.of_slots hs (by rw [hu, hjbeds, hfbeds, hbeds]) ?_, by simp only [State.slot, hs]⟩
  rw [hu, hjnow, ← hnow]
  simp only [State.nextFeedPicture_kept ..]

/-- The stream may begin at a boundary, as `encodeBoundary` and `decodeBoundary` ask it. -/
theorem State.mayBegin {s : State} {n : Nat}
    (hst : (s.slot n).st = 3 ∨ (s.slot n).st = 4 ∨ ((s.slot n).st = 2 ∧ s.mayStart n = true)) :
    (s.slot n).st ≠ 5 ∧ ¬ ((s.slot n).st < 2 ∨ ((s.slot n).st = 2 ∧ (!s.mayStart n) = true)) := by
  rcases hst with h | h | ⟨h, hm⟩
  · simp [h]
  · simp [h]
  · simp [h, hm]

/-- A stream's sequence numbers start at 0 with its first picture. -/
def State.sequenceStart (s : State) (n : Nat) : State :=
  if (s.slot n).st = 2 then s.modSlot n (fun y => { y with seq0 := 0, seq1 := 0 }) else s

/-- A picture begins in its refresh phase, the feed turns to it and the twin is judged. -/
def State.pictureIn (s : State) (n : Nat) (start rep : Bool) (phase : Option (Nat × Nat)) (phase0 : Bool) : State :=
  let begun := (s.beginPicture n start rep false false phase).modSlot n (fun y => { y with st := if rep then 4 else 3 })
  ((if phase0 then begun.modTwin n (fun w => { w with phase0s := w.phase0s + 1 }) else begun).nextFeedPicture n).judge n

/-- The picture that a boundary with no cut and no tiers begins. -/
def State.pictureBegun (s : State) (n : Nat) (start rep : Bool) : State :=
  let phased := s.takePhase n start
  phased.2.pictureIn n start rep
    (if start && decide (phased.2.cfgN 0x21 n 0x05 = 0) && (phased.2.groupOf n).isNone then none else phased.1)
    (phased.1.any (fun p => decide (p.1 = 0)))

theorem State.encodeBoundary_begins {s : State} {n : Nat}
    (hst : (s.slot n).st = 3 ∨ (s.slot n).st = 4 ∨ ((s.slot n).st = 2 ∧ s.mayStart n = true))
    (hladder : s.cfg 0x22 n 0x01 = []) (hcuts : (s.feed n).cuts = []) :
    s.encodeBoundary n = (s.sequenceStart n).pictureBegun n (decide ((s.slot n).st = 2) || (s.slot n).startNext)
      (!(s.slot n).run && !(decide ((s.slot n).st = 2) || (s.slot n).startNext)) := by
  obtain ⟨h5, hgo⟩ := State.mayBegin hst
  have hcut : (s.sequenceStart n).takeCuts n = (false, s.sequenceStart n) := by
    apply State.takeCuts_idle
    unfold State.sequenceStart
    split <;> exact hcuts
  unfold State.sequenceStart at hcut
  unfold State.encodeBoundary
  dsimp only
  rw [if_neg h5, if_neg hgo, State.ladder_single hladder]
  simp only [List.foldl_cons, List.foldl_nil, hcut]
  rfl

theorem State.pictureIn_moves (s : State) (n : Nat) (start rep : Bool) (phase : Option (Nat × Nat)) (phase0 : Bool) :
    let u := s.pictureIn n start rep phase phase0
    SlotMoved s u n ∧ (u.slot n).st = (if rep then 4 else 3) ∧ (u.slot n).pictures = (s.slot n).pictures + 1 ∧
      (u.slot n).pics.head?.map Pic.shown = some ((s.slot n).pictures, s.now, start, rep, false) := by
  obtain ⟨hbegin, -, hpictures, -, hpics⟩ := s.beginPicture_moves n start rep false false phase
  obtain ⟨hend, hslot⟩ := State.boundaryEnd_moves
    ((s.beginPicture n start rep false false phase).modSlot n (fun y => { y with st := if rep then 4 else 3 }))
    n phase0 (fun w => { w with phase0s := w.phase0s + 1 })
  unfold State.pictureIn
  dsimp only
  rw [hslot, State.slot_modSlot, if_pos rfl]
  exact ⟨(hbegin.modSlot _).trans hend, rfl, hpictures, hpics⟩

/-- What a boundary leaves that begins a picture. -/
theorem State.pictureBegun_moves (s : State) (n : Nat) (start rep : Bool) :
    let u := s.pictureBegun n start rep
    SlotMoved s u n ∧ (u.slot n).st = (if rep then 4 else 3) ∧ (u.slot n).pictures = (s.slot n).pictures + 1 ∧
      (u.slot n).pics.head?.map Pic.shown = some ((s.slot n).pictures, s.now, start, rep, false) := by
  obtain ⟨hphase, hplace⟩ := s.takePhase_moves n start
  obtain ⟨-, hpictures, -⟩ := Slot.place_eq hplace
  have hin : SlotMoved (s.takePhase n start).2 (s.pictureBegun n start rep) n ∧
      ((s.pictureBegun n start rep).slot n).st = (if rep then 4 else 3) ∧
      ((s.pictureBegun n start rep).slot n).pictures = ((s.takePhase n start).2.slot n).pictures + 1 ∧
      ((s.pictureBegun n start rep).slot n).pics.head?.map Pic.shown =
        some (((s.takePhase n start).2.slot n).pictures, (s.takePhase n start).2.now, start, rep, false) :=
    State.pictureIn_moves _ n start rep _ _
  obtain ⟨hmoved, hst, hp, hpics⟩ := hin
  rw [hpictures] at hp hpics
  rw [hphase.now] at hpics
  exact ⟨hphase.trans hmoved, hst, hp, hpics⟩

theorem State.sequenceStart_moves (s : State) (n : Nat) :
    SlotMoved s (s.sequenceStart n) n ∧ ((s.sequenceStart n).slot n).place = (s.slot n).place := by
  unfold State.sequenceStart
  split
  · exact ⟨s.moved_modSlot n _, s.place_modSlot n n _ rfl⟩
  · exact ⟨.refl s n, rfl⟩

/-- A boundary of an encode stream with no tiers and no cut, that begins its next picture (R116). -/
theorem State.encodeBoundary_moves {s : State} {n : Nat}
    (hst : (s.slot n).st = 3 ∨ (s.slot n).st = 4 ∨ ((s.slot n).st = 2 ∧ s.mayStart n = true))
    (hladder : s.cfg 0x22 n 0x01 = []) (hcuts : (s.feed n).cuts = []) :
    let start := decide ((s.slot n).st = 2) || (s.slot n).startNext
    let rep := !(s.slot n).run && !start
    let u := s.encodeBoundary n
    SlotMoved s u n ∧ (u.slot n).st = (if rep then 4 else 3) ∧ (u.slot n).pictures = (s.slot n).pictures + 1 ∧
      (u.slot n).pics.head?.map Pic.shown = some ((s.slot n).pictures, s.now, start, rep, false) := by
  intro start rep u
  obtain ⟨hseq, hplace⟩ := s.sequenceStart_moves n
  obtain ⟨-, hpictures, -⟩ := Slot.place_eq hplace
  have hu : u = (s.sequenceStart n).pictureBegun n start rep := State.encodeBoundary_begins hst hladder hcuts
  obtain ⟨hmoved, hs, hp, hpics⟩ := (s.sequenceStart n).pictureBegun_moves n start rep
  rw [hpictures] at hp hpics
  rw [hseq.now] at hpics
  rw [hu]
  exact ⟨hseq.trans hmoved, hs, hp, hpics⟩

/-- A boundary of an encode stream that restarts, with no tiers and no cut, codes a hold picture (R246). -/
theorem State.encodeBoundary_holds {s : State} {n : Nat} (hst : (s.slot n).st = 5) (hladder : s.cfg 0x22 n 0x01 = [])
    (hcuts : (s.feed n).cuts = []) : s.encodeBoundary n = s.holdPicture n := by
  unfold State.encodeBoundary
  dsimp only
  rw [if_pos hst, State.ladder_single hladder, State.takeCuts_idle hcuts]
  simp only [List.foldl_cons, List.foldl_nil, Bool.false_eq_true, if_false]

/-- The hold picture begun, its rows not yet emitted. -/
def State.heldPicture (s : State) (n : Nat) : State :=
  ((s.beginPicture n false true false true none).countTwin n 8).modSlot n
    (fun x => { x with poc := (x.poc + 1) % 65536, codedNo := x.pictures })

theorem State.holdPicture_eq (s : State) (n : Nat) :
    s.holdPicture n = ((s.heldPicture n).holdRest 0 n).holdRest 1 n := by
  simp only [State.holdPicture, State.heldPicture, List.foldl_cons, List.foldl_nil]

theorem State.heldPicture_moves (s : State) (n : Nat) :
    ((s.heldPicture n).slot n).st = (s.slot n).st ∧
      ((s.heldPicture n).slot n).pictures = (s.slot n).pictures + 1 ∧
      ((s.heldPicture n).slot n).poc = ((s.slot n).poc + 1) % 65536 ∧
      ((s.heldPicture n).slot n).pics.head?.map Pic.shown = some ((s.slot n).pictures, s.now, false, true, true) := by
  obtain ⟨-, hst, hpictures, hpoc, hpics⟩ := s.beginPicture_moves n false true false true none
  have htwin : ((s.beginPicture n false true false true none).countTwin n 8).slot n =
    (s.beginPicture n false true false true none).slot n := rfl
  unfold State.heldPicture
  rw [State.slot_modSlot, if_pos rfl, htwin]
  dsimp only
  rw [hpoc]
  exact ⟨hst, hpictures, rfl, hpics⟩

theorem State.holdPicture_moves (s : State) (n : Nat) :
    ((s.holdPicture n).slot n).st = (s.slot n).st ∧
      ((s.holdPicture n).slot n).pictures = (s.slot n).pictures + 1 ∧
      ((s.holdPicture n).slot n).poc = ((s.slot n).poc + 1) % 65536 ∧
      ((s.holdPicture n).slot n).pics.head?.map Pic.shown = some ((s.slot n).pictures, s.now, false, true, true) := by
  have hplace : ((s.holdPicture n).slot n).place = ((s.heldPicture n).slot n).place := by
    rw [State.holdPicture_eq, State.holdRest_place, State.holdRest_place]
  obtain ⟨h1, h2, h3, h4, -, -⟩ := Slot.place_eq hplace
  rw [h1, h2, h3, h4]
  exact s.heldPicture_moves n

/-! ## Slot starts of decode streams -/

/-- Shadow writes that take effect at a boundary of a slot. -/
def State.liveWrites (s : State) (n : Nat) (l : List Shadow) : State :=
  l.foldl (fun (s : State) w => s.setCfg w.fam (if w.fam = 0x20 then 0x2000 + n else n) w.mem w.val) s

theorem State.liveWrites_kept (s : State) (n : Nat) (l : List Shadow) :
    (s.liveWrites n l).str = s.str ∧ (s.liveWrites n l).now = s.now := by
  unfold State.liveWrites
  rw [foldl_keeps (fun s : State => s.str), foldl_keeps (fun s : State => s.now)]
  · exact ⟨rfl, rfl⟩
  · exact fun _ _ _ => rfl
  · exact fun _ _ _ => rfl

theorem State.shadowLive_moves {s : State} {n : Nat} (hk : (s.slot n).kind = 2) (b : Nat) :
    SlotMoved s (s.shadowLive n b) n ∧ ((s.shadowLive n b).slot n).place = (s.slot n).place := by
  unfold State.shadowLive
  dsimp only
  split
  · exact ⟨.refl s n, rfl⟩
  · obtain ⟨hstr, hnow⟩ := State.liveWrites_kept
      (s.modSlot n (fun x => { x with shadow := x.shadow.filter (fun w => !decide (w.boundary ≤ b)) })) n
      ((s.slot n).shadow.filter (fun w => decide (w.boundary ≤ b)))
    have hkind : ((State.liveWrites
        (s.modSlot n (fun x => { x with shadow := x.shadow.filter (fun w => !decide (w.boundary ≤ b)) })) n
        ((s.slot n).shadow.filter (fun w => decide (w.boundary ≤ b)))).slot n).kind ≠ 1 := by
      rw [State.slot_of_str hstr, State.slot_modSlot, if_pos rfl]
      simp [hk]
    rw [← State.liveWrites, if_pos hkind]
    refine ⟨(s.moved_modSlot n _).trans (.of_slots (by rw [hstr]) (by rw [hstr]) hnow),
      (State.place_of_str hstr n).trans (s.place_modSlot n n _ rfl)⟩

/-- The slot that a decode stream's boundary begins. -/
def State.slotBegun (s : State) (n : Nat) (x : Slot) : State :=
  (s.modSlot n (fun y =>
    { y with st := if x.run then 3 else 4, repeat_ := !x.run, pictures := y.pictures + 1,
             pics := { no := x.pictures, instant := s.now, rtpTs := rtpOf s.now, rep := !x.run } ::
               y.pics.take 3 })).judge n

theorem State.slotBegun_moves (s : State) (n : Nat) (x : Slot) :
    let u := s.slotBegun n x
    SlotMoved s u n ∧ (u.slot n).pictures = (s.slot n).pictures + 1 ∧ (u.slot n).st = (if x.run then 3 else 4) ∧
      (u.slot n).repeat_ = (!x.run) ∧
      (u.slot n).pics.head?.map Pic.shown = some (x.pictures, s.now, false, !x.run, false) := by
  intro u
  obtain ⟨hslots, hbeds, hnow⟩ := State.judge_slots (s.modSlot n (fun y =>
    { y with st := if x.run then 3 else 4, repeat_ := !x.run, pictures := y.pictures + 1,
             pics := { no := x.pictures, instant := s.now, rtpTs := rtpOf s.now, rep := !x.run } ::
               y.pics.take 3 })) n
  have hslot := State.slot_of_slots hslots n
  rw [State.slot_modSlot, if_pos rfl] at hslot
  have hu : u.slot n = _ := hslot
  rw [hu]
  exact ⟨(s.moved_modSlot n _).trans (.of_slots hslots hbeds hnow), rfl, rfl, rfl, rfl⟩

/-- A slot that no AU receives is counted (R224). -/
def State.slotMissed (s : State) (n : Nat) (missed : Bool) : State :=
  if missed then s.modSlot n (fun y => { y with dec := { y.dec with counts := bumpAt y.dec.counts 1 1 } }) else s

theorem State.slotMissed_moves (s : State) (n : Nat) (missed : Bool) :
    SlotMoved s (s.slotMissed n missed) n ∧ ((s.slotMissed n missed).slot n).place = (s.slot n).place := by
  unfold State.slotMissed
  split
  · exact ⟨s.moved_modSlot n _, s.place_modSlot n n _ rfl⟩
  · exact ⟨.refl s n, rfl⟩

/-- What a slot start leaves of a decode stream that starts its slots (R488). -/
theorem State.decodeBoundary_begins {s : State} {n : Nat} (hk : (s.slot n).kind = 2)
    (hst : (s.slot n).st = 3 ∨ (s.slot n).st = 4 ∨ ((s.slot n).st = 2 ∧ s.mayStart n = true)) :
    ∃ v, SlotMoved s v n ∧ (v.slot n).place = (s.slot n).place ∧ s.decodeBoundary n = v.slotBegun n (s.slot n) := by
  obtain ⟨h5, hgo⟩ := State.mayBegin hst
  obtain ⟨hclear, hcplace⟩ := s.clearHist_moves n
  have hkind : ((s.clearHist n).slot n).kind = 2 := by
    unfold State.clearHist
    split
    · exact hk
    · rw [State.slot_modSlot, if_pos rfl]; exact hk
  obtain ⟨hlive, hlplace⟩ := State.shadowLive_moves hkind s.now
  obtain ⟨missed, heq⟩ : ∃ b, s.decodeBoundary n =
      (((s.clearHist n).shadowLive n s.now).slotMissed n b).slotBegun n (s.slot n) := by
    unfold State.decodeBoundary
    dsimp only
    rw [if_neg h5, if_neg hgo]
    exact ⟨_, rfl⟩
  refine ⟨_, (hclear.trans hlive).trans (State.slotMissed_moves _ n missed).1,
    (State.slotMissed_moves _ n missed).2.trans (hlplace.trans hcplace), ?_⟩
  rw [heq]

/-! ## What is sent stays sent -/

theorem List.suffix_foldl {σ α β : Type} (g : σ → List β) (f : σ → α → σ) (h : ∀ u x, g u <:+ g (f u x)) (l : List α)
    (s : σ) : g s <:+ g (l.foldl f s) := by
  induction l generalizing s with
  | nil => exact List.suffix_refl _
  | cons x r ih => exact (h s x).trans (ih (f s x))

theorem State.notify_sends (s : State) (t : Nat) : s.emits <:+ (s.notify t).emits := by
  unfold State.notify
  dsimp only
  split
  · exact List.suffix_refl _
  · split
    · split
      · exact List.suffix_refl _
      · split
        · exact List.suffix_refl _
        · exact List.suffix_cons _ _
    · split <;> exact List.suffix_refl _

theorem State.sends_of_emits {s u : State} (h : u.emits = s.emits) : s.emits <:+ u.emits := h ▸ List.suffix_refl _

theorem State.notifyAll_sends (s : State) : s.emits <:+ s.notifyAll.emits := by
  refine List.suffix_foldl State.emits _ (fun u f => ?_) _ s
  split
  · exact List.suffix_foldl State.emits _ (fun v k => v.notify_sends _) _ u
  · exact List.suffix_refl _

theorem State.raise_sends (s : State) (n : Nat) : s.emits <:+ (s.raise n).emits := by
  unfold State.raise
  split
  · exact List.suffix_refl _
  · exact (State.sends_of_emits (by simp [State.ite_kept .., State.noteRaise_kept ..])).trans (State.notifyAll_sends _)

theorem State.crossDrop_sends (s : State) (die pl : Nat) : s.emits <:+ (s.crossDrop die pl).emits :=
  (State.sends_of_emits (by simp)).trans (State.raise_sends _ _)

theorem State.cross_sends (s : State) (die chain lp allot : Nat) (f : Frame) (d : CrossDest) (own : Option Own) :
    s.emits <:+ (s.cross die chain lp allot f d own).emits := by
  unfold State.cross
  dsimp only
  split
  · exact s.crossDrop_sends _ _
  · exact State.sends_of_emits (by simp [State.addRef_kept ..])

/-- The copies of a packet on its own die. -/
theorem State.deliverAll_emits (s : State) (die k ingress allot : Nat) (f : Frame) (own : Option Own)
    (l : List DeliveryWord) :
    (l.foldl (fun (s : State) e => s.deliver die k ingress allot f e own) s).emits = s.emits := by
  rw [foldl_keeps State.emits]
  exact fun u e _ => by simp only [State.deliver_kept ..]

theorem State.sendOwn_sends (s : State) (die index : Nat) (f : Frame) (o : Own) :
    s.emits <:+ (s.sendOwn die index f o).emits := by
  unfold State.sendOwn
  split
  · exact List.suffix_refl _
  · have hdrop : ∀ (u : State) k, u.emits <:+ (u.dropRef k).emits :=
      fun u k => State.sends_of_emits (by simp only [State.dropRef_kept ..])
    have hsent : ∀ k, s.emits <:+ (((s.newChain die o.payer (cellsOf f.len) false).2.run die index []).dests.foldl
        (fun (s : State) e => s.deliver die k 1024 o.payer f e (some o))
        (s.newChain die o.payer (cellsOf f.len) false).2).emits :=
      fun k => State.sends_of_emits ((State.deliverAll_emits _ die k 1024 o.payer f (some o) _).trans
        (by simp only [State.newChain_kept ..]))
    dsimp only
    refine (hsent (s.newChain die o.payer (cellsOf f.len) false).1).trans (List.IsSuffix.trans ?_ (hdrop _ _))
    split
    · exact State.cross_sends ..
    · exact List.suffix_refl _

/-! ## Outtake rows -/

/-- What a row reads of a slot. -/
def Slot.drawn (x : Slot) : Nat × Nat × List Pot := (x.kind, x.dec.ctu, x.pots)

/-- A step that leaves what an outtake's rows read, and the row it has sent. -/
structure RowKept (s u : State) (oc : Nat) : Prop where
  sends : s.emits <:+ u.emits
  now : u.now = s.now
  alm : u.alm = s.alm
  slotNo : (u.outtake oc).slotNo = (s.outtake oc).slotNo
  drawn : ∀ m, (u.slot m).drawn = (s.slot m).drawn

theorem RowKept.refl (s : State) (oc : Nat) : RowKept s s oc := ⟨List.suffix_refl _, rfl, rfl, rfl, fun _ => rfl⟩
theorem RowKept.trans {s u v : State} {oc : Nat} (h : RowKept s u oc) (k : RowKept u v oc) : RowKept s v oc :=
  ⟨h.sends.trans k.sends, k.now.trans h.now, k.alm.trans h.alm, k.slotNo.trans h.slotNo,
    fun m => (k.drawn m).trans (h.drawn m)⟩

theorem RowKept.of_str {s u : State} {oc : Nat} (hs : s.emits <:+ u.emits) (hnow : u.now = s.now) (ha : u.alm = s.alm)
    (h : u.str = s.str) : RowKept s u oc :=
  ⟨hs, hnow, ha, by simp only [State.outtake, h], fun m => by rw [State.slot_of_str h]⟩

theorem State.rowKept_modSlot (s : State) (oc n : Nat) (f : Slot → Slot) (h : (f (s.slot n)).drawn = (s.slot n).drawn) :
    RowKept s (s.modSlot n f) oc := by
  refine ⟨List.suffix_refl _, rfl, rfl, rfl, fun m => ?_⟩
  rw [State.slot_modSlot]
  split
  · next hm => subst hm; exact h
  · rfl

theorem State.rowKept_raiseSlot (s : State) (oc n : Nat) : RowKept s (s.raiseSlot n) oc :=
  .of_str (s.raise_sends _) (by simp only [State.raiseSlot_kept ..]) (by simp only [State.raiseSlot_kept ..])
    (by simp only [State.raiseSlot_kept ..])

theorem State.rowKept_sendOwn (s : State) (oc die index : Nat) (f : Frame) (o : Own) :
    RowKept s (s.sendOwn die index f o) oc :=
  .of_str (s.sendOwn_sends die index f o) (by simp only [State.sendOwn_kept ..]) (by simp only [State.sendOwn_kept ..])
    (by simp only [State.sendOwn_kept ..])

theorem State.rowKept_modOuttake (s : State) (oc : Nat) (f : Outtake → Outtake)
    (h : (f (s.outtake oc)).slotNo = (s.outtake oc).slotNo) : RowKept s (s.modOuttake oc f) oc :=
  ⟨List.suffix_refl _, rfl, rfl, by rw [State.outtake_modOuttake, if_pos rfl]; exact h, fun _ => rfl⟩

theorem RowKept.foldl {α : Type} {oc : Nat} {f : State → α → State} (h : ∀ u x, RowKept u (f u x) oc) (l : List α)
    (s : State) : RowKept s (l.foldl f s) oc := by
  induction l generalizing s with
  | nil => exact .refl s oc
  | cons x r ih => exact (h s x).trans (ih (f s x))

theorem State.rowKept_sendRow (s : State) (oc n k row : Nat) : RowKept s (s.sendRow oc n k row) oc := by
  unfold State.sendRow
  dsimp only
  split
  · exact .refl s oc
  · exact .foldl (fun u j => (u.rowKept_modOuttake oc _ rfl).trans (State.rowKept_sendOwn _ oc _ _ _ _)) _ s

theorem State.rowKept_modDec (s : State) (oc n : Nat) (f : Dec → Dec) (h : (f (s.slot n).dec).ctu = (s.slot n).dec.ctu) :
    RowKept s (s.modDec n f) oc := s.rowKept_modSlot oc n _ (by simp only [Slot.drawn, h])

theorem State.rowKept_setClean (s : State) (oc n : Nat) (v : Bool) : RowKept s (s.setClean n v) oc := by
  unfold State.setClean
  split
  · exact .refl s oc
  · exact (s.rowKept_modDec oc n _ rfl).trans (State.rowKept_raiseSlot _ oc n)

theorem State.rowKept_setMismatch (s : State) (oc n : Nat) (v : Bool) : RowKept s (s.setMismatch n v) oc := by
  unfold State.setMismatch
  split
  · exact .refl s oc
  · exact (s.rowKept_modDec oc n _ rfl).trans (State.rowKept_raiseSlot _ oc n)

theorem State.rowKept_meterPicture (s : State) (oc die n k : Nat) (held : Bool) :
    RowKept s (s.meterPicture die n k held) oc := by
  have hmeter : ∀ die a cls u, RowKept s (s.meter die a cls u) oc := fun die a cls u =>
    .of_str (State.sends_of_emits (by simp only [State.meter_kept ..])) (by simp only [State.meter_kept ..])
      (by simp only [State.meter_kept ..]) (by simp only [State.meter_kept ..])
  unfold State.meterPicture
  exact (hmeter _ _ _ _).trans (State.rowKept_modSlot _ oc n _ rfl)

theorem State.rowKept_showStarts (s : State) (oc die n k : Nat) (entry : Option (Nat × Nat × Bool)) (held : Bool) :
    RowKept s (s.showStarts die n k entry held) oc := by
  have hbegun := (s.rowKept_modDec oc n (fun d => { d with late := false, slotBegun := some k }) rfl).trans
    (State.rowKept_meterPicture _ oc die n
      ((s.modDec n (fun d => { d with late := false, slotBegun := some k })).slot n).metered held)
  unfold State.showStarts
  dsimp only
  cases entry with
  | none => exact hbegun
  | some e =>
    dsimp only
    split
    · exact hbegun.trans (State.rowKept_setMismatch _ oc n false)
    · exact hbegun.trans ((State.rowKept_modSlot _ oc n _ rfl).trans (State.rowKept_setMismatch _ oc n true))

theorem State.rowKept_showEnds (s : State) (oc n k : Nat) (entry : Option (Nat × Nat × Bool)) :
    RowKept s (s.showEnds n k entry) oc := by
  have hended := s.rowKept_modDec oc n (fun d => { d with slotEnded := some k }) rfl
  unfold State.showEnds
  dsimp only
  cases entry with
  | none => exact hended
  | some e =>
    dsimp only
    split
    · exact hended.trans ((State.rowKept_setClean _ oc n _).trans (State.rowKept_modDec _ oc n _ rfl))
    · exact hended.trans (State.rowKept_setClean _ oc n _)

theorem State.rowKept_lastRow (s : State) (oc n k : Nat) (entry : Option (Nat × Nat × Bool)) (ended : Bool) :
    RowKept s (s.lastRow oc n k entry ended) oc := by
  have hshown : RowKept s (match entry with
      | some e => s.modOuttake oc (fun o => { o with shown := some (e.2.1 + 1) })
      | none => s) oc := by
    cases entry with
    | none => exact .refl s oc
    | some e => exact s.rowKept_modOuttake oc _ rfl
  unfold State.lastRow
  dsimp only
  split
  · exact hshown
  · exact hshown.trans (State.rowKept_showEnds _ oc n k entry)

/-- What the rows of an outtake are drawn from stays. -/
theorem RowKept.drawing {s u : State} {oc n : Nat} (h : RowKept s u oc) (hk : (s.slot n).kind = 2) (row source : Nat) :
    u.rowFills n row source = s.rowFills n row source ∧ u.outDepth oc n = s.outDepth oc n ∧
      u.slotRate n = s.slotRate n ∧ u.rowsOfSlot n = s.rowsOfSlot n := by
  obtain ⟨-, -, halm, -, hdrawn⟩ := h
  have hslot := hdrawn n
  simp only [Slot.drawn, Prod.mk.injEq] at hslot
  obtain ⟨hkind, hctu, hpots⟩ := hslot
  have hcfg : ∀ f i m, u.cfg f i m = s.cfg f i m := fun f i m => by simp only [State.cfg, halm]
  have hcfgN : ∀ f i m, u.cfgN f i m = s.cfgN f i m := fun f i m => by simp only [State.cfgN, hcfg]
  have hfmt : u.slotFmt n = s.slotFmt n := by
    simp only [State.slotFmt, State.decodeFmt, hkind, hk, if_true, hcfg]
  have hctuOf : u.ctuOf n = s.ctuOf n := by simp only [State.ctuOf, hkind, hk, if_true, hctu]
  refine ⟨?_, ?_, ?_, ?_⟩
  · simp only [State.rowFills, hpots, State.columnsOf, hfmt, hctuOf]
  · simp only [State.outDepth, State.decodeFmt, hcfg, hcfgN]
  · simp only [State.slotRate, hfmt]
  · simp only [State.rowsOfSlot, hfmt, hctuOf]

/-- The row that leaves stays sent. -/
theorem State.rowGoes_sends (s : State) (oc n k row source : Nat) (entry : Option (Nat × Nat × Bool)) (ended : Bool) :
    let sent := (s.modOuttake oc (fun o => { o with slotNo := k })).emit
      (.row s.now oc n row source (rtpStamp (gridAt (s.slotRate n) k)) (s.rowFills n row source) (s.outDepth oc n))
    RowKept sent (s.rowGoes oc n k row source entry ended) oc := by
  intro sent
  have hrow : RowKept sent (sent.sendRow oc n k row) oc := State.rowKept_sendRow _ oc n k row
  have hgoes : s.rowGoes oc n k row source entry ended =
      if row + 1 = (sent.sendRow oc n k row).rowsOfSlot n then (sent.sendRow oc n k row).lastRow oc n k entry ended
      else sent.sendRow oc n k row := rfl
  rw [hgoes]
  split
  · exact hrow.trans (State.rowKept_lastRow _ oc n k entry ended)
  · exact hrow

/-- The state in which row `row` of output slot `k` leaves: the slot's show has started, or the row is late. -/
def State.rowPrepared (s : State) (oc n k row : Nat) : State :=
  let entry := (s.showOf n k).filter (fun e => e.2.2)
  let started := if row = 0 ∧ (s.slot n).dec.slotBegun ≠ some k then
      s.showStarts (outtakeDie oc) n k (s.showOf n k)
        (decide ((s.slot n).st = 5) || decide (s.rowSource oc n row entry = 0)) else s
  if entry.isSome ∧ !s.rowReady n row entry then (started.modDec n (fun d => { d with late := true })).countDec n 11 1
  else started

theorem State.slotRow_eq (s : State) (oc n k row : Nat) :
    s.slotRow oc n k row = (s.rowPrepared oc n k row).rowGoes oc n k row
      (s.rowSource oc n row ((s.showOf n k).filter (fun e => e.2.2))) ((s.showOf n k).filter (fun e => e.2.2))
      (decide ((s.slot n).dec.slotEnded = some k)) := rfl

theorem State.rowKept_rowPrepared (s : State) (oc n k row : Nat) : RowKept s (s.rowPrepared oc n k row) oc := by
  have hstart : RowKept s (if row = 0 ∧ (s.slot n).dec.slotBegun ≠ some k then
      s.showStarts (outtakeDie oc) n k (s.showOf n k) (decide ((s.slot n).st = 5) ||
        decide (s.rowSource oc n row ((s.showOf n k).filter (fun e => e.2.2)) = 0)) else s) oc := by
    split
    · exact s.rowKept_showStarts oc _ n k _ _
    · exact .refl s oc
  unfold State.rowPrepared
  dsimp only
  split
  · exact hstart.trans ((State.rowKept_modDec _ oc n _ rfl).trans (State.rowKept_modSlot _ oc n _ rfl))
  · exact hstart

theorem exec_outtakeRowRead {o : Nat} (t r : Nat) (s : State) (ho : o < 4096) :
    exec (.outtakeRowRead t o r) s = .next ((s.at t).outtakeRow o r) := if_pos (decide_eq_true ho)

/-- Row `r` of output slot `k` leaves (R226). -/
theorem State.slotRow_sends (s : State) {n : Nat} (hk : (s.slot n).kind = 2) (o k r : Nat) :
    let u := s.slotRow o n k r
    (u.outtake o).slotNo = k ∧
      .row s.now o n r (s.rowSource o n r ((s.showOf n k).filter (fun x => x.2.2))) (rtpStamp (gridAt (s.slotRate n) k))
        (u.rowFills n r (s.rowSource o n r ((s.showOf n k).filter (fun x => x.2.2)))) (s.outDepth o n) ∈ u.emits := by
  intro u
  have hprep := s.rowKept_rowPrepared o n k r
  have hgoes := State.rowGoes_sends (s.rowPrepared o n k r) o n k r
    (s.rowSource o n r ((s.showOf n k).filter (fun e => e.2.2))) ((s.showOf n k).filter (fun e => e.2.2))
    (decide ((s.slot n).dec.slotEnded = some k))
  rw [← State.slotRow_eq] at hgoes
  have hkp : ((s.rowPrepared o n k r).slot n).kind = 2 := by
    have h := hprep.drawn n
    simp only [Slot.drawn, Prod.mk.injEq] at h
    rw [h.1, hk]
  generalize s.rowSource o n r ((s.showOf n k).filter (fun x => x.2.2)) = source at hgoes ⊢
  obtain ⟨hfills, -, -, -⟩ := hgoes.drawing (n := n) hkp r source
  obtain ⟨-, hdepth, hrate, -⟩ := hprep.drawing hk r source
  refine ⟨?_, ?_⟩
  · refine hgoes.slotNo.trans ?_
    rw [State.outtake_emit, State.outtake_modOuttake, if_pos rfl]
  · refine hgoes.sends.subset ?_
    rw [hfills, ← hprep.now, ← hdepth, ← hrate]
    exact List.mem_cons_self

theorem State.outtakeRow_off {s : State} {o r : Nat} (h : let n := s.cfgN 0x20 (0x1000 + o) 0x02
    s.cfg 0x20 (0x1000 + o) 0x02 = [] ∨ (s.slot n).kind ≠ 2 ∨ (s.slot n).st < 3 ∨ s.diePruned (outtakeDie o) = true ∨
      s.rowsOfSlot n ≤ r) : s.outtakeRow o r = s := by
  unfold State.outtakeRow
  dsimp only
  rw [if_pos]
  simpa only [Bool.or_eq_true, decide_eq_true_eq, List.isEmpty_iff, or_assoc] using h

theorem State.outtakeRow_on {s : State} {o r : Nat} (h : let n := s.cfgN 0x20 (0x1000 + o) 0x02
    ¬ (s.cfg 0x20 (0x1000 + o) 0x02 = [] ∨ (s.slot n).kind ≠ 2 ∨ (s.slot n).st < 3 ∨
      s.diePruned (outtakeDie o) = true ∨ s.rowsOfSlot n ≤ r)) :
    s.outtakeRow o r = ((s.slotRead (s.cfgN 0x20 (0x1000 + o) 0x02) r s.now).map (fun k =>
      s.slotRow o (s.cfgN 0x20 (0x1000 + o) 0x02) k r)).getD s := by
  unfold State.outtakeRow
  dsimp only
  rw [if_neg]
  · cases s.slotRead (s.cfgN 0x20 (0x1000 + o) 0x02) r s.now <;> rfl
  · simpa only [Bool.or_eq_true, decide_eq_true_eq, List.isEmpty_iff, or_assoc] using h

/-! ## The obligation -/

theorem State.pictureBoundary_encode {s : State} {n : Nat} (hk : (s.slot n).kind = 1) (hr : (s.slot n).role ≠ 2) :
    s.pictureBoundary n = s.encodeBoundary n := by
  unfold State.pictureBoundary
  dsimp only
  rw [if_neg (by rw [hk]; decide), if_pos ⟨hk, hr⟩]

theorem State.pictureBoundary_decode {s : State} {n : Nat} (hk : (s.slot n).kind = 2) :
    s.pictureBoundary n = s.decodeBoundary n := if_pos hk

/-- A decode stream that restarts counts its slots (R246). -/
theorem State.decodeBoundary_repeats {s : State} {n : Nat} (hst : (s.slot n).st = 5) :
    s.decodeBoundary n = (s.countTwin n 8).modSlot n (fun y => { y with pictures := y.pictures + 1 }) := if_pos hst

/-- What a boundary shows of the picture it begins. -/
theorem head_shown {l : List Pic} {no i : Nat} {start rep hold : Bool}
    (h : l.head?.map Pic.shown = some (no, i, start, rep, hold)) :
    l.head?.map (fun p => (p.no, p.instant, p.start, p.rep)) = some (no, i, start, rep) ∧
      l.head?.map (fun p => (p.no, p.instant, p.hold)) = some (no, i, hold) ∧
      l.head?.map (fun p => (p.no, p.instant, p.rep)) = some (no, i, rep) := by
  cases l with
  | nil => simp at h
  | cons p r =>
    simp only [List.head?_cons, Option.map_some, Pic.shown, Option.some.injEq, Prod.mk.injEq] at h
    simp [h]

/-- Settles O20: a cut order changes its feed alone, a boundary its slot alone, and a row that leaves an outtake stays
sent. -/
theorem cutsAndBoundaries : Obligations.CutsAndBoundaries := by
  unfold Obligations.CutsAndBoundaries
  refine ⟨fun s t a n c ha hn hc h hw => ?cut, fun s t n hn => ?boundary, fun s t o r ho => ?row⟩
  case cut =>
    intro why at_
    obtain ⟨hstatus, hstr⟩ := cutTo_orders hn hc h hw
    have hfeed : ∀ j, ((s.at t).orderNumber a 0x20 (0x2000 + n) 0x02 2 c).feed j =
        if j = n then s.cutFeed n c at_ else s.feed j := fun j => by
      rw [State.feed, hstr]
      exact State.feed_modFeed ..
    refine ⟨_, exec_cutTo t c s ha hn, hstatus, ?_, fun j hj => (hfeed j).trans (if_neg hj), by rw [hstr]; rfl⟩
    rw [hfeed n, if_pos rfl]
    rfl
  case boundary =>
    have hexec := exec_pictureBoundary t s hn
    refine ⟨fun h => ?rests, fun hk hr hst hm hl hc => ?starts, fun hk hr hst hl hc => ?goes,
      fun hk hr hst hl hc => ?holds, fun hk hst => ?decodes, fun hk hst => ?repeats⟩
    case rests => exact hexec.trans (congrArg _ ((s.at t).pictureBoundary_rests n h))
    case starts =>
      have hb : (s.at t).pictureBoundary n = (s.at t).encodeBoundary n :=
        State.pictureBoundary_encode (s := s.at t) hk hr
      obtain ⟨hmoved, hs, hp, hpics⟩ := State.encodeBoundary_moves (s := s.at t) (n := n) (.inr (.inr ⟨hst, hm⟩)) hl hc
      have hstart : decide (((s.at t).slot n).st = 2) = true := decide_eq_true hst
      simp only [hstart, Bool.true_or, Bool.not_true, Bool.and_false, Bool.false_eq_true, if_false] at hs hpics
      exact ⟨_, hexec.trans (congrArg _ hb), hs, hp, (head_shown hpics).1, hmoved.others, hmoved.bed⟩
    case goes =>
      have hb : (s.at t).pictureBoundary n = (s.at t).encodeBoundary n :=
        State.pictureBoundary_encode (s := s.at t) hk hr
      obtain ⟨hmoved, hs, hp, hpics⟩ := State.encodeBoundary_moves (s := s.at t) (n := n)
        (hst.elim .inl (fun h => .inr (.inl h))) hl hc
      have hstart : decide (((s.at t).slot n).st = 2) = false := decide_eq_false (by rw [State.slot_at]; omega)
      simp only [hstart, Bool.false_or] at hs hpics
      exact ⟨_, hexec.trans (congrArg _ hb), ⟨hp, hs, (head_shown hpics).1⟩, hmoved.others, hmoved.bed⟩
    case holds =>
      have hb : (s.at t).pictureBoundary n = (s.at t).holdPicture n :=
        (State.pictureBoundary_encode (s := s.at t) hk hr).trans (State.encodeBoundary_holds (s := s.at t) hst hl hc)
      obtain ⟨hs, hp, hpoc, hpics⟩ := (s.at t).holdPicture_moves n
      exact ⟨_, hexec.trans (congrArg _ hb), hs.trans hst, hp, (head_shown hpics).2.1, hpoc⟩
    case decodes =>
      obtain ⟨v, hv, hplace, hbegins⟩ := State.decodeBoundary_begins (s := s.at t) (n := n) hk (by
        rcases hst with h | h | h
        · exact .inl h
        · exact .inr (.inl h)
        · exact .inr (.inr h))
      obtain ⟨hmoved, hp, hs, hrep, hpics⟩ := v.slotBegun_moves n ((s.at t).slot n)
      have hb := (State.pictureBoundary_decode (s := s.at t) hk).trans hbegins
      have hpictures := (Slot.place_eq hplace).2.1
      rw [hpictures] at hp
      rw [hv.now] at hpics
      exact ⟨_, hexec.trans (congrArg _ hb), hp, hs, hrep, (head_shown hpics).2.2, (hv.trans hmoved).others,
        (hv.trans hmoved).bed⟩
    case repeats =>
      have hb := (State.pictureBoundary_decode (s := s.at t) hk).trans (State.decodeBoundary_repeats (s := s.at t) hst)
      refine ⟨_, hexec.trans (congrArg _ hb), ?_, fun j hj => ?_⟩
      · rw [State.slot_modSlot, if_pos rfl]
        rfl
      · rw [State.slot_modSlot, if_neg hj]
        rfl
  case row =>
    intro n off
    have hexec := exec_outtakeRowRead t r s ho
    refine ⟨fun h => hexec.trans (congrArg _ ?_), fun k hoff hk => ?_⟩
    · by_cases hoff : off
      · exact State.outtakeRow_off (s := s.at t) hoff
      · have hnone : (s.at t).slotRead n r (s.at t).now = none := h.resolve_left hoff
        rw [State.outtakeRow_on (s := s.at t) hoff]
        exact congrArg (fun x => (x.map (fun k => (s.at t).slotRow o n k r)).getD (s.at t)) hnone
    · have hgoes : (s.at t).outtakeRow o r = (s.at t).slotRow o n k r := by
        rw [State.outtakeRow_on (s := s.at t) hoff]
        exact congrArg (fun x => (x.map (fun k => (s.at t).slotRow o n k r)).getD (s.at t)) hk
      have hkind : ((s.at t).slot n).kind = 2 := by
        simp only [off, not_or, not_not] at hoff
        exact hoff.2.1
      obtain ⟨hno, hsent⟩ := (s.at t).slotRow_sends hkind o k r
      exact ⟨_, hexec.trans (congrArg _ hgoes), rfl, hno, _, hsent, rfl⟩

end Sys2Proof.Machine
end

section
/-! PROOFS. Sleep and wake of beds, power orders, patch sets and run bits (R132, R133, R137 to R139, R146, R466). -/

namespace Sys2Proof.Machine

/-! ## A change of a bed's state -/

/-- A bed without its eight counters (R403). -/
def Bed.uncounted (b : Bed) : Bed := { b with bc := [], levels := [], missed := [], sampling := [], since := 0 }

theorem Bed.uncounted_add (b : Bed) (i n : Nat) (sample : Bool) (preset : Nat) :
    (b.add i n sample preset).uncounted = b.uncounted := by
  unfold Bed.add
  dsimp only
  split
  · rfl
  · split
    · rfl
    · split <;> rfl

/-- What one bed's change leaves of all of them, but for the counters. -/
theorem State.uncounted_modBed (s : State) (n k : Nat) (f : Bed → Bed) (h : (f (s.bed n)).uncounted = (s.bed n).uncounted) :
    ((s.modBed n f).bed k).uncounted = (s.bed k).uncounted := by
  rw [State.bed_modBed]
  split
  · next hk => subst hk; exact h
  · rfl

theorem State.uncounted_tick (s : State) (n k : Nat) : ((s.tick n).bed k).uncounted = (s.bed k).uncounted := by
  unfold State.tick
  dsimp only
  rw [State.uncounted_modBed _ n k _ rfl, foldl_keeps (fun u : State => (u.bed k).uncounted)]
  intro u i _
  refine State.uncounted_modBed u n k _ ?_
  generalize (u.str.frozen || _) = still
  cases still
  · exact Bed.uncounted_add ..
  · rfl

theorem State.bed_tick_other (s : State) {n k : Nat} (hk : k ≠ n) : (s.tick n).bed k = s.bed k := by
  unfold State.tick
  dsimp only
  rw [State.bed_modBed, if_neg hk, foldl_keeps (fun u : State => u.bed k)]
  intro u i _
  rw [State.bed_modBed, if_neg hk]

theorem State.bed_setBed_other (s : State) {n k : Nat} (st : BedState) (hk : k ≠ n) : (s.setBed n st).bed k = s.bed k := by
  unfold State.setBed
  split
  · rfl
  · rw [State.bed_raise, State.bed_tick_other _ hk, State.bed_modBed, if_neg hk, State.bed_tick_other _ hk]

/-- A bed enters a state; its counters run up to that instant, and all else of it stays (R147, R403). -/
theorem State.bed_setBed (s : State) (n : Nat) (st : BedState) :
    ((s.setBed n st).bed n).uncounted = { (s.bed n).uncounted with st := st } := by
  unfold State.setBed
  split
  · next h => rw [← h]; rfl
  · rw [State.bed_raise, State.uncounted_tick, State.bed_modBed, if_pos rfl]
    show { ((s.tick n).bed n).uncounted with st := st } = _
    rw [State.uncounted_tick]

theorem State.st_setBed (s : State) (n : Nat) (st : BedState) : ((s.setBed n st).bed n).st = st :=
  congrArg Bed.st (s.bed_setBed n st)

theorem State.power_setPower (s : State) (n v : Nat) : ((s.setPower n v).power n).st = v := by
  unfold State.setPower
  dsimp only
  split
  · assumption
  · simp [State.power]

theorem State.bed_setPower (s : State) (n v k : Nat) : (s.setPower n v).bed k = s.bed k := by
  simp only [State.bed, State.setPower_str]

theorem State.power_of_clk {s u : State} (h : u.clk = s.clk) (k : Nat) : u.power k = s.power k := by
  simp only [State.power, h]

theorem State.power_setBed (s : State) (n k : Nat) (st : BedState) : (s.setBed n st).power k = s.power k :=
  State.power_of_clk (by simp only [State.setBed_kept ..]) k

/-! ## Sleep and wake -/

theorem exec_sleepDelayExpiry {b : Nat} (t : Nat) (s : State) (hb : b < 288) :
    exec (.sleepDelayExpiry t b) s = .next (if (s.at t).sleepDue b then (s.at t).sleepBed b else s.at t) :=
  if_pos (decide_eq_true hb)
theorem exec_sleepDone {b : Nat} (t : Nat) (s : State) (hb : b < 288) :
    exec (.sleepDone t b) s = .next ((s.at t).sleepEnds b) := if_pos (decide_eq_true hb)
theorem exec_wakeDone {b : Nat} (t : Nat) (s : State) (hb : b < 288) :
    exec (.wakeDone t b) s =
      .next (if (s.bed b).st = .waking then ((s.at t).wakeEnds b).startGrafts b else s.at t) :=
  if_pos (decide_eq_true hb)
theorem exec_wake {a : Nat} (t b : Nat) (s : State) (ha : a < 16) :
    exec (.wake t a b) s = .next ((s.at t).bedControl a b (fun s => s.wakeBed b)) := if_pos (decide_eq_true ha)
theorem exec_sleep {a : Nat} (t b : Nat) (s : State) (ha : a < 16) :
    exec (.sleep t a b) s = .next ((s.at t).bedControl a b (fun s => s.sleepBed b)) := if_pos (decide_eq_true ha)

theorem State.bedControl_served {s : State} {b : Nat} (hb : b < 288) (hs : s.serves 0 = true) (f : State → State) :
    s.bedControl 0 b f = f s := by
  have hbed : isBed b = true := decide_eq_true hb
  rw [State.bedControl, hs, hbed]
  rfl

theorem State.bedControl_other {s : State} {a : Nat} (h : a ≠ 0 ∨ s.serves 0 = false) (b : Nat) (f : State → State) :
    s.bedControl a b f = s := by
  refine if_neg ?_
  rcases h with h | h <;> simp [h]

theorem State.sleepBed_idle {s : State} {b : Nat} (h : (s.bed b).st = .idle) : s.sleepBed b = s.setBed b .sleeping := by
  simp only [State.sleepBed, h]
theorem State.sleepBed_refused {s : State} {b : Nat}
    (h : (s.bed b).st = .running ∨ (s.bed b).st = .soilTest ∨ (s.bed b).st = .pruned) :
    s.sleepBed b = s.modBed b (fun x => { x with sleepRefused := inc64 x.sleepRefused }) := by
  rcases h with h | h | h <;> simp only [State.sleepBed, h]
theorem State.sleepBed_asleep {s : State} {b : Nat}
    (h : (s.bed b).st = .off ∨ (s.bed b).st = .waking ∨ (s.bed b).st = .sleeping) : s.sleepBed b = s := by
  rcases h with h | h | h <;> simp only [State.sleepBed, h]
theorem State.wakeBed_off {s : State} {b : Nat} (h : (s.bed b).st = .off) (hp : (s.power b).st ≠ 4) :
    s.wakeBed b = (s.setBed b .waking).setPower b 1 := by
  simp only [State.wakeBed, h, hp, if_false, State.startWake]
theorem State.wakeBed_sleeping {s : State} {b : Nat} (h : (s.bed b).st = .sleeping) :
    s.wakeBed b = s.modBed b (fun x => { x with wakeWaits := true }) := by
  simp only [State.wakeBed, h]
theorem State.wakeBed_none {s : State} {b : Nat}
    (h : ((s.bed b).st = .off ∧ (s.power b).st = 4) ∨ ((s.bed b).st ≠ .off ∧ (s.bed b).st ≠ .sleeping)) :
    s.wakeBed b = s := by
  unfold State.wakeBed
  rcases h with ⟨h, hp⟩ | ⟨h1, h2⟩
  · simp only [h, hp, if_true]
  · split
    · next h => exact absurd h h1
    · next h => exact absurd h h2
    · rfl

/-- A bed that is OFF with no wake waiting any more. -/
def State.sleptOff (s : State) (b : Nat) : State :=
  ((s.setBed b .off).setPower b 0).modBed b (fun x => { x with wakeWaits := false })

theorem State.sleepEnds_eq {s : State} {b : Nat} (h : (s.bed b).st = .sleeping) :
    s.sleepEnds b = if (s.bed b).wakeWaits then (s.sleptOff b).startWake b else s.sleptOff b := by
  unfold State.sleepEnds
  rw [if_neg (not_not.2 h)]
  rfl

theorem State.sleptOff_moves (s : State) (b : Nat) :
    ((s.sleptOff b).bed b).st = .off ∧ ((s.sleptOff b).power b).st = 0 ∧ ((s.sleptOff b).bed b).wakeWaits = false := by
  unfold State.sleptOff
  rw [State.bed_modBed, if_pos rfl, State.bed_setPower]
  exact ⟨s.st_setBed b .off, State.power_setPower _ b 0, rfl⟩

theorem State.startWake_moves (s : State) (b : Nat) :
    ((s.startWake b).bed b).st = .waking ∧ ((s.startWake b).power b).st = 1 ∧
      ((s.startWake b).bed b).wakeWaits = (s.bed b).wakeWaits := by
  unfold State.startWake
  rw [State.bed_setPower]
  have hwaits := congrArg Bed.wakeWaits (s.bed_setBed b .waking)
  exact ⟨s.st_setBed b .waking, State.power_setPower _ b 1, hwaits⟩

theorem State.bed_patchSettled (s : State) (k : Nat) : s.patchSettled.bed k = s.bed k := by
  unfold State.patchSettled
  split <;> rfl

/-- What a bed wakes with: its reset micro-state and an empty store, in the newest patch set (R138). -/
def State.wokenBed (s : State) (b : Nat) : State :=
  ((s.clearBed b).modBed b (fun x =>
    { x with bc := [0, 0, 0, 0, 0, 0, 0, 0], idleSince := s.now, since := s.now, levels := List.replicate 8 false })).wakePatch b

theorem State.wokenBed_bed (s : State) (b : Nat) :
    ((s.wokenBed b).bed b).mic = {} ∧ ((s.wokenBed b).bed b).store = [] ∧ ((s.wokenBed b).bed b).slots = (s.bed b).slots := by
  unfold State.wokenBed State.wakePatch
  rw [State.bed_patchSettled, State.bed_modBed, if_pos rfl, State.bed_modBed, if_pos rfl, State.clearBed, State.bed_modBed,
    if_pos rfl]
  exact ⟨rfl, rfl, rfl⟩

/-- A bed that is on, IDLE. -/
def State.onIdle (s : State) (b : Nat) : State := ((s.wokenBed b).setBed b .idle).setPower b 3

theorem State.wakeEnds_eq {s : State} {b : Nat} (h : (s.bed b).st = .waking) :
    s.wakeEnds b = if ((s.onIdle b).bed b).slots = [] then s.onIdle b else (s.onIdle b).setBed b .running := by
  unfold State.wakeEnds
  rw [if_neg (not_not.2 h)]
  rfl

/-- What a change of state leaves of a bed. -/
theorem State.setBed_leaves (s : State) (b : Nat) (st : BedState) :
    ((s.setBed b st).bed b).mic = (s.bed b).mic ∧ ((s.setBed b st).bed b).store = (s.bed b).store ∧
      ((s.setBed b st).bed b).slots = (s.bed b).slots := by
  have h := s.bed_setBed b st
  have hmic := congrArg Bed.mic h
  have hstore := congrArg Bed.store h
  have hslots := congrArg Bed.slots h
  exact ⟨hmic, hstore, hslots⟩

theorem State.onIdle_moves (s : State) (b : Nat) :
    ((s.onIdle b).bed b).st = .idle ∧ ((s.onIdle b).power b).st = 3 ∧ ((s.onIdle b).bed b).mic = {} ∧
      ((s.onIdle b).bed b).store = [] ∧ ((s.onIdle b).bed b).slots = (s.bed b).slots := by
  obtain ⟨hmic, hstore, hslots⟩ := s.wokenBed_bed b
  obtain ⟨hm, hst, hsl⟩ := (s.wokenBed b).setBed_leaves b .idle
  unfold State.onIdle
  rw [State.bed_setPower]
  exact ⟨State.st_setBed _ b .idle, State.power_setPower _ b 3, hm.trans hmic, hst.trans hstore, hsl.trans hslots⟩

theorem State.wakeEnds_moves {s : State} {b : Nat} (h : (s.bed b).st = .waking) :
    ((s.wakeEnds b).bed b).st = (if (s.bed b).slots = [] then .idle else .running) ∧ ((s.wakeEnds b).power b).st = 3 ∧
      ((s.wakeEnds b).bed b).mic = {} ∧ ((s.wakeEnds b).bed b).store = [] := by
  obtain ⟨hst, hpower, hmic, hstore, hslots⟩ := s.onIdle_moves b
  obtain ⟨hm, hs, -⟩ := (s.onIdle b).setBed_leaves b .running
  rw [State.wakeEnds_eq h, hslots]
  split
  · exact ⟨hst, hpower, hmic, hstore⟩
  · exact ⟨State.st_setBed _ b .running, (congrArg Power.st (State.power_setBed _ b b .running)).trans hpower,
      hm.trans hmic, hs.trans hstore⟩

/-! ## What a woken scion starts -/

theorem State.beds_setTwin (s : State) (n : Nat) (st : TwinState) : (s.setTwin n st).str.beds = s.str.beds := by
  unfold State.setTwin
  split
  · rfl
  · simp only [State.raise_kept ..]
    rfl

theorem State.startGraft_leaves (s : State) (n : Nat) :
    (s.startGraft n).str.beds = s.str.beds ∧ (s.startGraft n).clk = s.clk := by
  unfold State.startGraft
  dsimp only
  split
  · exact ⟨rfl, rfl⟩
  · rw [foldl_keeps (fun u : State => u.str.beds), foldl_keeps (fun u : State => u.clk)]
    · exact ⟨rfl, rfl⟩
    · intro u m _
      simp only [State.setTwin_kept ..]
      rfl
    · intro u m _
      rw [State.beds_setTwin]
      rfl

theorem State.startGrafts_leaves (s : State) (b : Nat) :
    (s.startGrafts b).str.beds = s.str.beds ∧ (s.startGrafts b).clk = s.clk := by
  have hstep : ∀ (u : State) n, (if (u.slot n).role = 2 then u else u.startGraft n).str.beds = u.str.beds ∧
      (if (u.slot n).role = 2 then u else u.startGraft n).clk = u.clk := fun u n => by
    split
    · exact ⟨rfl, rfl⟩
    · exact u.startGraft_leaves n
  unfold State.startGrafts
  rw [foldl_keeps (fun u : State => u.str.beds), foldl_keeps (fun u : State => u.clk)]
  · exact ⟨rfl, rfl⟩
  · exact fun u n _ => (hstep u n).2
  · exact fun u n _ => (hstep u n).1

theorem State.sleepDue_iff (s : State) (b : Nat) : s.sleepDue b = true ↔ (s.bed b).st = .idle ∧ (s.bed b).slots = [] ∧
    (s.bed b).warm = false ∧ (s.bed b).idleSince + 1000 * s.cfgN 0x60 0 0x06 ≤ s.now := by
  simp [State.sleepDue, and_assoc]

/-- A change of one bed that a request counts or remembers. -/
theorem State.modBed_alone (s : State) (b : Nat) (f : Bed → Bed) : ((s.modBed b f).bed b) = f (s.bed b) ∧
    (∀ k, k ≠ b → (s.modBed b f).bed k = s.bed k) ∧ s.modBed b f = { s with str := (s.modBed b f).str } :=
  ⟨by rw [State.bed_modBed, if_pos rfl], fun k hk => by rw [State.bed_modBed, if_neg hk], rfl⟩

/-- Settles O23: each request and each end of a bed's sleep and wake sequences over the bed's states. -/
theorem bedPower : Obligations.BedPower := by
  unfold Obligations.BedPower
  intro s t b hb
  refine ⟨fun h => ?rests, fun hst hsl hw ht => ?falls, fun hst hw => ?off, fun hst hw => ?waking, fun h => ?awake,
    fun hs => ?served, fun hst => ?wakes, fun h => ?notWaking, fun a ha h => ?unserved⟩
  case rests =>
    refine (exec_sleepDelayExpiry t s hb).trans (congrArg _ (if_neg ?_))
    rw [State.sleepDue_iff]
    rintro ⟨h1, h2, h3, h4⟩
    rcases h with h | h | h | h
    · exact h h1
    · exact h h2
    · rw [State.bed_at] at h3; rw [h3] at h; exact absurd h (by decide)
    · exact absurd h4 (Nat.not_le_of_lt h)
  case falls =>
    refine (exec_sleepDelayExpiry t s hb).trans (congrArg _ ((if_pos ?_).trans (State.sleepBed_idle (s := s.at t) hst)))
    rw [State.sleepDue_iff]
    exact ⟨hst, hsl, hw, ht⟩
  case off =>
    obtain ⟨h1, h2, -⟩ := (s.at t).sleptOff_moves b
    have hends : (s.at t).sleepEnds b = (s.at t).sleptOff b :=
      (State.sleepEnds_eq (s := s.at t) hst).trans (if_neg (by rw [State.bed_at, hw]; decide))
    exact ⟨_, (exec_sleepDone t s hb).trans (congrArg _ hends), h1, h2⟩
  case waking =>
    obtain ⟨-, -, h3⟩ := (s.at t).sleptOff_moves b
    obtain ⟨h4, h5, h6⟩ := ((s.at t).sleptOff b).startWake_moves b
    have hends : (s.at t).sleepEnds b = ((s.at t).sleptOff b).startWake b :=
      (State.sleepEnds_eq (s := s.at t) hst).trans (if_pos hw)
    exact ⟨_, (exec_sleepDone t s hb).trans (congrArg _ hends), h4, h5, h6.trans h3⟩
  case awake => exact (exec_sleepDone t s hb).trans (congrArg _ (if_pos h))
  case served =>
    have hwake := (exec_wake (a := 0) t b s (by decide)).trans
      (congrArg _ (State.bedControl_served (s := s.at t) hb hs (fun s => s.wakeBed b)))
    have hsleep := (exec_sleep (a := 0) t b s (by decide)).trans
      (congrArg _ (State.bedControl_served (s := s.at t) hb hs (fun s => s.sleepBed b)))
    refine ⟨fun h hp => ?_, fun h => ?_, fun h => ?_, fun h => ?_, fun h => ?_, fun h => ?_⟩
    · exact hwake.trans (congrArg _ (State.wakeBed_off (s := s.at t) h hp))
    · exact ⟨_, hwake.trans (congrArg _ (State.wakeBed_sleeping (s := s.at t) h)), State.modBed_alone (s.at t) b _⟩
    · exact hwake.trans (congrArg _ (State.wakeBed_none (s := s.at t) h))
    · exact hsleep.trans (congrArg _ (State.sleepBed_idle (s := s.at t) h))
    · exact ⟨_, hsleep.trans (congrArg _ (State.sleepBed_refused (s := s.at t) h)), State.modBed_alone (s.at t) b _⟩
    · exact hsleep.trans (congrArg _ (State.sleepBed_asleep (s := s.at t) h))
  case wakes =>
    obtain ⟨h1, h2, h3, h4⟩ := State.wakeEnds_moves (s := s.at t) hst
    obtain ⟨hbeds, hclk⟩ := ((s.at t).wakeEnds b).startGrafts_leaves b
    have hbed : (((s.at t).wakeEnds b).startGrafts b).bed b = ((s.at t).wakeEnds b).bed b := by
      simp only [State.bed, hbeds]
    refine ⟨_, (exec_wakeDone t s hb).trans (congrArg _ (if_pos hst)), ?_⟩
    rw [hbed, State.power_of_clk hclk]
    exact ⟨h1, h2, h3, h4⟩
  case notWaking => exact (exec_wakeDone t s hb).trans (congrArg _ (if_neg h))
  case unserved =>
    exact ⟨(exec_wake t b s ha).trans (congrArg _ (State.bedControl_other (s := s.at t) h b _)),
      (exec_sleep t b s ha).trans (congrArg _ (State.bedControl_other (s := s.at t) h b _))⟩

end Sys2Proof.Machine
end

section
/-! PROOFS. Power orders, patch sets and run bits of the Almanac (R132, R133, R139, R146). -/

namespace Sys2Proof.Machine

/-! ## POWER -/

theorem spaceOf_bed {b : Nat} (h : b < 288) : spaceOf 0x60 (0x1000 + b) = some (.bed, b) := by
  have h1 : 0x1000 + b ≤ 0x111F := by omega
  simp [spaceOf, spacesOf, List.find?, h1]

theorem exec_powerReq {a b : Nat} (t v : Nat) (s : State) (ha : a < 16) (hb : b < 288) :
    exec (.powerReq t a b v) s = .next ((s.at t).orderNumber a 0x60 (0x1000 + b) 0x03 1 v) :=
  (if_pos (decide_eq_true ha)).trans (by simp [named, isBed, hb])

/-- A POWER request is accepted (R139). -/
theorem powerReq_accepted {s : State} {t a b v : Nat} (hb : b < 288) (h : takesAtOnce s t a)
    (hw : mayWrite s a 0x60 (0x1000 + b) 0x03) (hv : v = 1 ∨ v = 2) {u : State}
    (hu : (if v = 1 then (s.at t).wakeBed b else (s.at t).sleepBed b) = u) (hnow : u.now = t) :
    accepted u ((s.at t).orderNumber a 0x60 (0x1000 + b) 0x03 1 v) t := by
  have hr : entryRow .bed b 0x03 = some { m0 := 0x03, m1 := 0x03, ty := .u 1, acc := 2, legal := [(1, 2)] } := rfl
  refine row_number_inRange (s := s) (t := t) h hw (spaceOf_bed hb) hr (by simp) (by simp) rfl rfl (by omega) rfl
    (by omega) (by omega) (by simp [creditOf]) (by simp) ?_
  have hrow : ∀ x : State, x.writeNumber a 0x60 (0x1000 + b) 0x03 .bed b
      { m0 := 0x03, m1 := 0x03, ty := .u 1, acc := 2, legal := [(1, 2)] } v =
      (if v = 1 then x.wakeBed b else x.sleepBed b).ok := fun _ => rfl
  rw [hrow, hu, State.ok, hnow]

theorem State.now_wakeBed (s : State) (b : Nat) : (s.wakeBed b).now = s.now := by simp only [State.wakeBed_kept ..]
theorem State.now_sleepBed (s : State) (b : Nat) : (s.sleepBed b).now = s.now := by simp only [State.sleepBed_kept ..]

/-- A wake request over the states of its bed (R139). -/
theorem State.wakeBed_eq (s : State) (b : Nat) : s.wakeBed b =
    if (s.bed b).st = .off ∧ (s.power b).st ≠ 4 then (s.setBed b .waking).setPower b 1
    else if (s.bed b).st = .sleeping then s.modBed b (fun x => { x with wakeWaits := true }) else s := by
  split
  · next h => exact State.wakeBed_off h.1 h.2
  · next h =>
    split
    · next hs => exact State.wakeBed_sleeping hs
    · next hs =>
      refine State.wakeBed_none ?_
      by_cases hoff : (s.bed b).st = .off
      · exact .inl ⟨hoff, not_not.1 (fun hp => h ⟨hoff, hp⟩)⟩
      · exact .inr ⟨hoff, hs⟩

/-- A sleep request over the states of its bed (R139). -/
theorem State.sleepBed_eq (s : State) (b : Nat) : s.sleepBed b =
    if (s.bed b).st = .idle then s.setBed b .sleeping
    else if (s.bed b).st = .running ∨ (s.bed b).st = .soilTest ∨ (s.bed b).st = .pruned then
      s.modBed b (fun x => { x with sleepRefused := inc64 x.sleepRefused }) else s := by
  split
  · next h => exact State.sleepBed_idle h
  · split
    · next h => exact State.sleepBed_refused h
    · unfold State.sleepBed
      split <;> simp_all

/-! ## Patch sets -/

theorem exec_patchLoad {a : Nat} (t : Nat) (set : List Byte) (s : State) (ha : a < 16) :
    exec (.patchLoad t a set) s = .next ((s.at t).orderWrite a 0x60 0 0x02 set) := if_pos (decide_eq_true ha)

/-- One bed of the table takes an accepted patch set. -/
def State.patchBed (s : State) (p : PatchSet) (e : Nat × Bed) : State :=
  if e.2.st = .idle ∨ e.2.st = .running then
    let s := s.modBed e.1 (fun x => { x with standby := some p })
    if (s.bed e.1).slots = [] then s.switchBank e.1 else s
  else s

/-- A patch set whose status is OK takes its place (R132). -/
def State.patchTaken (s : State) (set : List Byte) : State :=
  { s with str := { s.str with patch := patchOf set, patchAt := s.now, patchStandby := (patchOf set).version,
                               loadResult := 0 } }

theorem State.loadPatch_busy {s : State} (set : List Byte) (h : s.str.patchStandby ≠ 0) :
    s.loadPatch set = (5, { s with str := { s.str with loadResult := 4 } }) := by
  unfold State.loadPatch
  rw [if_pos h]

theorem State.loadPatch_ok {s : State} {set : List Byte} (h : s.str.patchStandby = 0) (hst : patchStatus set = 0) :
    s.loadPatch set = (0, (s.str.beds.foldl (State.patchBed · (patchOf set) ·) (s.patchTaken set)).patchSettled) := by
  unfold State.loadPatch
  rw [if_neg (not_not.2 h), hst]
  rfl

theorem patchStatus_cases (set : List Byte) :
    patchStatus set = 0 ∨ patchStatus set = 17 ∨ patchStatus set = 18 ∨ patchStatus set = 4 := by
  unfold patchStatus
  dsimp only
  repeat' split
  all_goals simp

theorem State.loadPatch_bad {s : State} {set : List Byte} (h : s.str.patchStandby = 0) (hst : patchStatus set ≠ 0) :
    ∃ r, 0 < r ∧ s.loadPatch set = (patchStatus set, { s with str := { s.str with loadResult := r } }) := by
  unfold State.loadPatch
  rw [if_neg (not_not.2 h)]
  rcases patchStatus_cases set with k | k | k | k
  · exact absurd k hst
  · exact ⟨1, by decide, by rw [k]; rfl⟩
  · exact ⟨2, by decide, by rw [k]; rfl⟩
  · exact ⟨3, by decide, by rw [k]; rfl⟩

/-- A bed to which a patch set has come: it has it at once, or standby while a stream uses it (R133). -/
def Bed.patched (x : Bed) (p : PatchSet) : Bed :=
  if x.slots = [] then { x with patch := p, standby := none, bank := !x.bank } else { x with standby := some p }

/-- What a patch set that is loaded leaves of a bed `y` of the state before. -/
def Bed.HasSet (y x : Bed) (p : PatchSet) : Prop :=
  if y.slots = [] then x.patch = p ∧ x.standby = none else x.standby = some p ∧ x.patch = y.patch

/-- What loading leaves of a bed `y` at any time. -/
def Bed.Loading (y x : Bed) : Prop := x.slots = y.slots ∧ (y.slots ≠ [] → x.patch = y.patch)

theorem Bed.patched_loads {y x : Bed} (h : y.Loading x) (p : PatchSet) :
    y.Loading (x.patched p) ∧ y.HasSet (x.patched p) p := by
  obtain ⟨hslots, hpatch⟩ := h
  unfold Bed.Loading Bed.HasSet Bed.patched
  rw [hslots]
  by_cases hy : y.slots = []
  · simp [hy]
  · simp [hy, hpatch hy]

theorem State.switchBank_some {s : State} {n : Nat} {p : PatchSet} (h : (s.bed n).standby = some p) :
    s.switchBank n =
      (s.modBed n (fun b => { b with patch := p, standby := none, bank := !b.bank })).raise (0x1000 + 8 * n + 3) := by
  simp only [State.switchBank, h]

theorem State.patchBed_idle {s : State} {p : PatchSet} {e : Nat × Bed} (h : ¬ (e.2.st = .idle ∨ e.2.st = .running)) :
    s.patchBed p e = s := if_neg h

theorem State.patchBed_bed {s : State} {p : PatchSet} {e : Nat × Bed} (h : e.2.st = .idle ∨ e.2.st = .running) (k : Nat) :
    (s.patchBed p e).bed k = if k = e.1 then (s.bed k).patched p else s.bed k := by
  unfold State.patchBed
  rw [if_pos h]
  dsimp only
  generalize hm : s.modBed e.1 (fun x => { x with standby := some p }) = m
  have hbed : ∀ j, m.bed j = if j = e.1 then { s.bed e.1 with standby := some p } else s.bed j := fun j => by
    rw [← hm, State.bed_modBed]
  have hself : m.bed e.1 = { s.bed e.1 with standby := some p } := (hbed e.1).trans (if_pos rfl)
  have hslots : (m.bed e.1).slots = (s.bed e.1).slots := by rw [hself]
  unfold Bed.patched
  by_cases hsl : (s.bed e.1).slots = []
  · rw [if_pos (hslots.trans hsl), State.switchBank_some (by rw [hself]), State.bed_raise, State.bed_modBed, hself]
    split
    · next hk => rw [hk, if_pos hsl]
    · next hk => rw [hbed, if_neg hk]
  · rw [if_neg (fun h => hsl (hslots.symm.trans h)), hbed]
    split
    · next hk => rw [hk, if_neg hsl]
    · rfl

theorem State.patchBeds_loads (p : PatchSet) (y : Bed) (k : Nat) (l : List (Nat × Bed)) (s : State)
    (h : y.Loading (s.bed k))
    (hset : y.HasSet (s.bed k) p ∨ ∃ e ∈ l, e.1 = k ∧ (e.2.st = .idle ∨ e.2.st = .running)) :
    y.HasSet ((l.foldl (State.patchBed · p ·) s).bed k) p := by
  induction l generalizing s with
  | nil => exact hset.resolve_right (by simp)
  | cons e r ih =>
    by_cases hst : e.2.st = .idle ∨ e.2.st = .running
    · have hbed := State.patchBed_bed (s := s) (p := p) hst k
      by_cases hk : k = e.1
      · rw [if_pos hk] at hbed
        obtain ⟨hloads, hhas⟩ := Bed.patched_loads h p
        exact ih _ (hbed ▸ hloads) (.inl (hbed ▸ hhas))
      · rw [if_neg hk] at hbed
        refine ih _ (hbed ▸ h) ?_
        rw [hbed]
        refine hset.imp id ?_
        rintro ⟨x, hx, hxk, hxst⟩
        refine ⟨x, (List.mem_cons.1 hx).resolve_left (fun hxe => hk ?_), hxk, hxst⟩
        rw [← hxk, hxe]
    · rw [List.foldl_cons, State.patchBed_idle hst]
      refine ih _ h (hset.imp id ?_)
      rintro ⟨x, hx, hxk, hxst⟩
      exact ⟨x, (List.mem_cons.1 hx).resolve_left (fun hxe => hst (hxe ▸ hxst)), hxk, hxst⟩

/-- Loading changes no more of the streams than the beds and PATCH_ACTIVE (R132). -/
theorem State.patchBed_str (s : State) (p : PatchSet) (e : Nat × Bed) :
    (s.patchBed p e).str.patch = s.str.patch ∧ (s.patchBed p e).str.patchAt = s.str.patchAt ∧
      (s.patchBed p e).str.loadResult = s.str.loadResult := by
  by_cases hst : e.2.st = .idle ∨ e.2.st = .running
  · unfold State.patchBed
    rw [if_pos hst]
    dsimp only
    split
    · rw [State.switchBank_some (by rw [State.bed_modBed, if_pos rfl])]
      simp only [State.raise_kept ..]
      exact ⟨rfl, rfl, rfl⟩
    · exact ⟨rfl, rfl, rfl⟩
  · rw [State.patchBed_idle hst]
    exact ⟨rfl, rfl, rfl⟩

theorem State.patchSettled_str (s : State) :
    s.patchSettled.str.patch = s.str.patch ∧ s.patchSettled.str.patchAt = s.str.patchAt ∧
      s.patchSettled.str.loadResult = s.str.loadResult := by
  unfold State.patchSettled
  split <;> exact ⟨rfl, rfl, rfl⟩

theorem State.patchAll_str (s : State) (p : PatchSet) (l : List (Nat × Bed)) :
    let u := (l.foldl (State.patchBed · p ·) s).patchSettled
    u.str.patch = s.str.patch ∧ u.str.patchAt = s.str.patchAt ∧ u.str.loadResult = s.str.loadResult := by
  intro u
  obtain ⟨h1, h2, h3⟩ := (l.foldl (State.patchBed · p ·) s).patchSettled_str
  rw [foldl_keeps (fun u : State => u.str.patch) _ l (fun u e _ => (u.patchBed_str p e).1)] at h1
  rw [foldl_keeps (fun u : State => u.str.patchAt) _ l (fun u e _ => (u.patchBed_str p e).2.1)] at h2
  rw [foldl_keeps (fun u : State => u.str.loadResult) _ l (fun u e _ => (u.patchBed_str p e).2.2)] at h3
  exact ⟨h1, h2, h3⟩

/-! ## Run bits -/

theorem mem_foldl_addTo {l acc : List Nat} {k : Nat} : k ∈ l.foldl addTo acc ↔ k ∈ acc ∨ k ∈ l := by
  induction l generalizing acc with
  | nil => simp
  | cons x r ih =>
    have hadd : k ∈ addTo acc x ↔ k ∈ acc ∨ k = x := by
      unfold addTo
      split
      · next h => exact ⟨.inl, fun hk => hk.elim id (fun hx => hx ▸ h)⟩
      · simp
    rw [List.foldl_cons, ih, hadd, List.mem_cons, or_assoc]

/-- The run bit of a bed's stream, when one bed is written (R146). -/
theorem State.runBits_one {s : State} {b n : Nat} (h : n ∈ (s.bed b).slots) (c : Nat) (on : Bool) :
    s.runBits c n [(b, on)] = if (s.slot n).owner = c then s.modSlot n (fun x => { x with run := on }) else s := by
  have hv : (match [(b, on)].find? (fun e => decide ((s.twin n).lead.head? = some e.1)) with
      | some e => some e.2
      | none => [(b, on)].getLast?.map (·.2)) = some on := by
    by_cases hb : (s.twin n).lead.head? = some b <;> simp [hb]
  have hmine : [(b, on)].filter (fun e => decide (n ∈ (s.bed e.1).slots)) = [(b, on)] := by simp [h]
  unfold State.runBits
  dsimp only
  rw [hmine]
  by_cases ho : (s.slot n).owner = c
  · rw [if_pos ho, if_neg (not_not.2 ho)]
    by_cases hb : (s.twin n).lead.head? = some b <;> simp [hb]
  · rw [if_neg ho, if_pos ho]

/-- A stream's run bit is written. -/
def Slot.withRun (x : Slot) (on : Bool) : Slot := { x with run := on }

theorem State.runBits_slot {s : State} {b n : Nat} (h : n ∈ (s.bed b).slots) (c : Nat) (on : Bool) (k : Nat) :
    (s.runBits c n [(b, on)]).slot k = if k = n ∧ (s.slot k).owner = c then (s.slot k).withRun on else s.slot k := by
  rw [State.runBits_one h]
  by_cases ho : (s.slot n).owner = c
  · rw [if_pos ho, State.slot_modSlot]
    by_cases hk : k = n
    · rw [if_pos hk, if_pos ⟨hk, hk ▸ ho⟩, hk]
      rfl
    · rw [if_neg hk, if_neg (fun h => hk h.1)]
  · have hno : ¬ (k = n ∧ (s.slot k).owner = c) := fun h => ho (h.1 ▸ h.2)
    rw [if_neg ho, if_neg hno]

theorem State.runAll_slots (b c : Nat) (on : Bool) (l : List Nat) (s : State) (hl : ∀ n ∈ l, n ∈ (s.bed b).slots)
    (k : Nat) : (l.foldl (fun (s : State) n => s.runBits c n [(b, on)]) s).slot k =
      if k ∈ l ∧ (s.slot k).owner = c then (s.slot k).withRun on else s.slot k := by
  induction l generalizing s with
  | nil => simp
  | cons n r ih =>
    have hn := hl n List.mem_cons_self
    have hbed : (s.runBits c n [(b, on)]).bed b = s.bed b := by
      rw [State.runBits_one hn]
      split <;> rfl
    have hslot := State.runBits_slot hn c on k
    rw [List.foldl_cons, ih _ (fun m hm => by rw [hbed]; exact hl m (List.mem_cons_of_mem n hm)), hslot]
    by_cases ho : (s.slot k).owner = c
    · have ho' : ((s.slot k).withRun on).owner = c := ho
      by_cases hk : k = n
      · simp only [hk, hk ▸ ho, hk ▸ ho', and_self, if_true, List.mem_cons, true_or, and_true]
        exact ite_self _
      · simp only [hk, ho, if_false, and_true, List.mem_cons, false_or]
    · have hno : ¬ (k = n ∧ (s.slot k).owner = c) := fun h => ho h.2
      rw [if_neg hno, if_neg (fun h => ho h.2), if_neg (fun h => ho h.2)]

theorem exec_run {a c : Nat} (t b : Nat) (on : Bool) (s : State) (ha : a < 16) (hc : c < 16) :
    exec (.run t a c b on) s = .next ((s.at t).orderWrite a 0x04 c 0x0D (natLe 2 b ++ natLe 1 (b2n on))) :=
  (if_pos (decide_eq_true ha)).trans (by simp [named, isAllot, hc])

theorem State.writeRunEntry_eq (s : State) {a c b : Nat} (on : Bool) (hb : b < 288) :
    s.writeRunEntry a c (natLe 2 b ++ natLe 1 (b2n on)) =
      if (s.bed b).slots.any (fun k => decide ((s.slot k).owner = c)) then (s.writeRun c [(b, on)]).ok else s.no 2 := by
  have hbed : fieldAt (natLe 2 b ++ natLe 1 (b2n on)) 0 2 = b := by
    rw [fieldAt_natLe, Nat.mod_eq_of_lt (by omega)]
  have hon : fieldAt (natLe 2 b ++ natLe 1 (b2n on)) 2 1 = b2n on := by
    rw [fieldAt_skip 2 b _ (by decide)]
    cases on <;> decide
  unfold State.writeRunEntry
  rw [hbed, hon]
  dsimp only
  rw [if_neg (by simp [natLe_length])]
  by_cases hany : (s.bed b).slots.any (fun k => decide ((s.slot k).owner = c)) = true
  · rw [if_neg (by rw [hany]; simp; omega), if_pos hany]
    cases on <;> rfl
  · rw [if_pos (.inr (by simpa using hany)), if_neg hany]

/-- The run bits of one bed of an allotment (R146). -/
theorem State.writeRun_one (s : State) (b c : Nat) (on : Bool) :
    (∀ k, (s.writeRun c [(b, on)]).slot k =
        if k ∈ (s.bed b).slots ∧ (s.slot k).owner = c then (s.slot k).withRun on else s.slot k) ∧
      (∀ k, k ≠ c → (s.writeRun c [(b, on)]).allot k = s.allot k) := by
  have hslots : ∀ (u : State) k,
      k ∈ [(b, on)].foldl (fun acc e => (u.bed e.1).slots.foldl addTo acc) [] ↔ k ∈ (u.bed b).slots := by
    intro u k
    simp only [List.foldl_cons, List.foldl_nil, mem_foldl_addTo, List.not_mem_nil, false_or]
  refine ⟨fun k => ?_, fun k hk => ?_⟩
  · unfold State.writeRun
    dsimp only
    refine (State.runAll_slots b c on _ (s.modAllot c _) (fun n hn => (hslots _ n).1 hn) k).trans ?_
    simp only [hslots]
    rfl
  · unfold State.writeRun
    dsimp only
    rw [foldl_keeps (fun u : State => u.allot k)]
    · rw [State.allot_modAllot, if_neg hk]
    · intro u n _
      simp only [State.allot, State.runBits_kept ..]

/-! ## The obligation -/

/-- A request that its bed's entry accepts. -/
theorem powerReq_next {s : State} {t a b v : Nat} (ha : a < 16) (hb : b < 288) (h : takesAtOnce s t a)
    (hw : mayWrite s a 0x60 (0x1000 + b) 0x03) (hv : v = 1 ∨ v = 2) :
    ∃ u, exec (.powerReq t a b v) s = .next u ∧
      accepted (if v = 1 then (s.at t).wakeBed b else (s.at t).sleepBed b) u t := by
  refine ⟨_, exec_powerReq t v s ha hb, powerReq_accepted hb h hw hv rfl ?_⟩
  split
  · exact (s.at t).now_wakeBed b
  · exact (s.at t).now_sleepBed b

theorem spaceOf_bedsAll : spaceOf 0x60 0 = some (.bedsAll, 0) := by decide

/-- A patch set, as the entry takes it. -/
theorem patchLoad_answers {s : State} {t a : Nat} {set : List Byte} (h : takesAtOnce s t a)
    (hw : mayWrite s a 0x60 0 0x02) :
    let out := (s.at t).loadPatch set
    let v := (s.at t).orderWrite a 0x60 0 0x02 set
    v.answer.status = out.1 ∧ v.str = out.2.str ∧ (out.1 = 0 → accepted out.2 v t) := by
  intro out v
  have hrow : entryRow .bedsAll 0 0x02 = some { m0 := 0x02, m1 := 0x02, ty := .blob, acc := 2 } := rfl
  have hblob : (s.at t).writeBlob a 0x60 0 0x02 .bedsAll 0 set = byStatus out := rfl
  have hnow : out.2.now = t := by
    have : ((s.at t).loadPatch set).2.now = (s.at t).now := by simp only [State.loadPatch_kept ..]
    exact this
  by_cases hst : out.1 = 0
  · have hv : accepted out.2 v t := by
      refine row_blob (s := s) (t := t) h spaceOf_bedsAll hrow (.inr hw) (by simp) (by simp) rfl rfl ?_
      rw [hblob, byStatus, if_pos hst, State.ok, hnow]
    exact ⟨by rw [accepted_answer hv, hst], (accepted_kept hv).2.2.2.2.2.2.2.2.2.1, fun _ => hv⟩
  · have hv : v = out.2.say out.1 [] 0 := by
      refine row_blob_refused (s := s) (t := t) h spaceOf_bedsAll hrow (.inr hw) (by simp) (by simp) rfl rfl hst ?_
      rw [hblob, byStatus, if_neg hst]
    exact ⟨by rw [hv]; rfl, by rw [hv]; rfl, fun h => absurd h hst⟩

/-- Settles O24: POWER is a request of BED_CONTROL, a patch set reaches every powered bed, and RUN the streams of a bed. -/
theorem bedOrders : Obligations.BedOrders := by
  unfold Obligations.BedOrders
  intro s t a b ha hb htake
  refine ⟨fun hw => ⟨?wake, ?sleep⟩, fun set hw => ⟨fun hbusy => ?busy, fun hfree => ?load⟩,
    fun c on hc hw => ⟨fun hany => ?run, fun hnone => ?refused⟩⟩
  case wake =>
    obtain ⟨u, hexec, hu⟩ := powerReq_next ha hb htake hw (.inl rfl)
    refine ⟨u, hexec, ?_⟩
    rw [if_pos rfl, State.wakeBed_eq] at hu
    exact hu
  case sleep =>
    obtain ⟨u, hexec, hu⟩ := powerReq_next ha hb htake hw (.inr rfl)
    refine ⟨u, hexec, ?_⟩
    rw [if_neg (by decide), State.sleepBed_eq] at hu
    exact hu
  case busy =>
    obtain ⟨hstatus, hstr, -⟩ := patchLoad_answers (set := set) htake hw
    have hload := State.loadPatch_busy (s := s.at t) set hbusy
    rw [hload] at hstatus hstr
    refine ⟨_, exec_patchLoad t set s ha, hstatus, ?_⟩
    rw [hstr]
    exact ⟨rfl, rfl, rfl⟩
  case load =>
    obtain ⟨hstatus, hstr, hacc⟩ := patchLoad_answers (set := set) htake hw
    refine ⟨_, exec_patchLoad t set s ha, ?_⟩
    by_cases hst : patchStatus set = 0
    · have hload := State.loadPatch_ok (s := s.at t) hfree hst
      obtain ⟨h1, h2, h3⟩ := ((s.at t).patchTaken set).patchAll_str (patchOf set) s.str.beds
      have hbed : ∀ k, ((s.at t).orderWrite a 0x60 0 0x02 set).bed k =
          ((s.str.beds.foldl (State.patchBed · (patchOf set) ·) ((s.at t).patchTaken set))).bed k := fun k => by
        refine Eq.trans ?_ (State.bed_patchSettled _ k)
        rw [State.bed, hstr, hload]
        rfl
      rw [hload] at hstatus hstr
      refine ⟨hstatus.trans hst.symm, fun _ => ⟨by rw [hstr]; exact h1, by rw [hstr]; exact h2, by rw [hstr]; exact h3,
        fun e he hreal hpowered => ?_, hacc (by rw [hload])⟩, fun h => absurd hst h⟩
      have hset := State.patchBeds_loads (patchOf set) e.2 e.1 s.str.beds ((s.at t).patchTaken set)
        (by rw [hreal]; exact ⟨rfl, fun _ => rfl⟩) (.inr ⟨e, he, rfl, hpowered⟩)
      rw [← hbed] at hset
      exact hset
    · obtain ⟨r, hr, hload⟩ := State.loadPatch_bad (s := s.at t) hfree hst
      rw [hload] at hstatus hstr
      refine ⟨hstatus, fun h => absurd h hst, fun _ => ?_⟩
      rw [hstr]
      exact ⟨rfl, rfl, hr⟩
  case run =>
    have hrow : entryRow .allot c 0x0D = some { m0 := 0x0D, m1 := 0x0D, ty := .blob, acc := 10 } := rfl
    have hentry := (s.at t).writeRunEntry_eq (a := a) (c := c) on hb
    have hany' : ((s.at t).bed b).slots.any (fun k => decide (((s.at t).slot k).owner = c)) = true := hany
    rw [if_pos hany'] at hentry
    have hacc : accepted ((s.at t).writeRun c [(b, on)])
        ((s.at t).orderWrite a 0x04 c 0x0D (natLe 2 b ++ natLe 1 (b2n on))) t := by
      refine row_blob (s := s) (t := t) htake (spaceOf_allot hc) hrow (.inr hw) (by simp) (by simp) rfl rfl ?_
      have hnow : ((s.at t).writeRun c [(b, on)]).now = (s.at t).now := by simp only [State.writeRun_kept ..]
      refine Eq.trans (b := (s.at t).writeRunEntry a c (natLe 2 b ++ natLe 1 (b2n on))) rfl ?_
      rw [hentry, State.ok, hnow]
      rfl
    obtain ⟨hslots, hallots⟩ := (s.at t).writeRun_one b c on
    have hstr : ((s.at t).orderWrite a 0x04 c 0x0D (natLe 2 b ++ natLe 1 (b2n on))).str =
        ((s.at t).writeRun c [(b, on)]).str := by simp only [accepted_kept hacc]
    have hall : ((s.at t).orderWrite a 0x04 c 0x0D (natLe 2 b ++ natLe 1 (b2n on))).allots =
        ((s.at t).writeRun c [(b, on)]).allots := by simp only [accepted_kept hacc]
    refine ⟨_, exec_run t b on s ha hc, fun k => ?_, fun k hk => ?_, ?_⟩
    · rw [State.slot_of_str hstr, hslots]
      rfl
    · have := hallots k hk
      rw [State.allot] at this ⊢
      rw [hall, this]
      rfl
    · rw [hstr, hall]
      have hframe : (s.at t).writeRun c [(b, on)] = { s.at t with
          str := ((s.at t).writeRun c [(b, on)]).str, allots := ((s.at t).writeRun c [(b, on)]).allots } :=
        State.parts.2 (by simp [State.writeRun_kept ..])
      rw [← hframe]
      exact hacc
  case refused =>
    have hrow : entryRow .allot c 0x0D = some { m0 := 0x0D, m1 := 0x0D, ty := .blob, acc := 10 } := rfl
    have hentry := (s.at t).writeRunEntry_eq (a := a) (c := c) on hb
    have hnone' : ¬ ((s.at t).bed b).slots.any (fun k => decide (((s.at t).slot k).owner = c)) = true := by
      rw [Bool.not_eq_true]; exact hnone
    rw [if_neg hnone'] at hentry
    have hv : (s.at t).orderWrite a 0x04 c 0x0D (natLe 2 b ++ natLe 1 (b2n on)) = (s.at t).say 2 [] 0 :=
      row_blob_refused (s := s) (t := t) htake (spaceOf_allot hc) hrow (.inr hw) (by simp) (by simp) rfl rfl (by simp)
        hentry
    refine ⟨_, exec_run t b on s ha hc, ?_⟩
    rw [hv]
    exact ⟨rfl, rfl, rfl⟩

end Sys2Proof.Machine
end

section
/-! PROOFS. ADMIT of a stream slot (R182, R183, R330). -/

namespace Sys2Proof.Machine

/-! ## What work on beds leaves of the streams -/

/-- The slots and the twins stay. -/
structure SameStreams (s u : State) : Prop where
  slots : u.str.slots = s.str.slots
  twins : u.str.twins = s.str.twins

theorem SameStreams.refl (s : State) : SameStreams s s := ⟨rfl, rfl⟩
theorem SameStreams.trans {s u v : State} (h : SameStreams s u) (k : SameStreams u v) : SameStreams s v :=
  ⟨k.slots.trans h.slots, k.twins.trans h.twins⟩
theorem SameStreams.of_str {s u : State} (h : u.str = s.str) : SameStreams s u := ⟨by rw [h], by rw [h]⟩
theorem SameStreams.slot {s u : State} (h : SameStreams s u) (k : Nat) : u.slot k = s.slot k := by
  simp only [State.slot, h.slots]
theorem SameStreams.twin {s u : State} (h : SameStreams s u) (k : Nat) : u.twin k = s.twin k := by
  simp only [State.twin, h.twins]
theorem SameStreams.foldl {α : Type} {f : State → α → State} (h : ∀ u x, SameStreams u (f u x)) (l : List α) (s : State) :
    SameStreams s (l.foldl f s) := by
  induction l generalizing s with
  | nil => exact .refl s
  | cons x r ih => exact (h s x).trans (ih (f s x))

theorem State.sameStreams_modBed (s : State) (b : Nat) (f : Bed → Bed) : SameStreams s (s.modBed b f) := ⟨rfl, rfl⟩
theorem State.sameStreams_raise (s : State) (n : Nat) : SameStreams s (s.raise n) :=
  .of_str (by simp only [State.raise_kept ..])
theorem State.sameStreams_reowned (s old : State) : SameStreams s (s.reowned old) :=
  .of_str (by simp only [State.reowned_kept ..])
theorem State.sameStreams_tick (s : State) (b : Nat) : SameStreams s (s.tick b) := by
  unfold State.tick
  dsimp only
  exact (SameStreams.foldl (fun u i => u.sameStreams_modBed b _) _ s).trans (State.sameStreams_modBed _ b _)

theorem State.sameStreams_setBed (s : State) (b : Nat) (st : BedState) : SameStreams s (s.setBed b st) := by
  unfold State.setBed
  split
  · exact .refl s
  · exact (s.sameStreams_tick b).trans ((State.sameStreams_modBed _ b _).trans
      ((State.sameStreams_tick _ b).trans (State.sameStreams_raise _ _)))

theorem State.sameStreams_wakeBed (s : State) (b : Nat) : SameStreams s (s.wakeBed b) := by
  rw [State.wakeBed_eq]
  split
  · exact (s.sameStreams_setBed b .waking).trans (.of_str (by simp only [State.setPower_str]))
  · split
    · exact ⟨rfl, rfl⟩
    · exact .refl s

theorem State.sameStreams_setSlots (s : State) (b : Nat) (f : List Nat → List Nat) : SameStreams s (s.setSlots b f) :=
  (s.sameStreams_modBed b _).trans (State.sameStreams_reowned _ s)

theorem State.sameStreams_assign (s : State) (b n : Nat) : SameStreams s (s.assign b n) := by
  refine (s.sameStreams_setSlots b (fun l => addTo l n)).trans ?_
  unfold State.assign
  dsimp only
  split
  · exact State.sameStreams_setBed _ b .running
  · exact State.sameStreams_wakeBed _ b

theorem State.sameStreams_patchSettled (s : State) : SameStreams s s.patchSettled := by
  unfold State.patchSettled
  split <;> exact ⟨rfl, rfl⟩

theorem State.sameStreams_switchBank (s : State) (b : Nat) : SameStreams s (s.switchBank b) := by
  unfold State.switchBank
  split
  · exact .refl s
  · exact (s.sameStreams_modBed b _).trans (State.sameStreams_raise _ _)

theorem State.sameStreams_freshPatch (s : State) (b : Nat) : SameStreams s (s.freshPatch b) := by
  unfold State.freshPatch
  exact ((s.sameStreams_modBed b _).trans (State.sameStreams_switchBank _ b)).trans (State.sameStreams_patchSettled _)

theorem State.sameStreams_unassign (s : State) (b n : Nat) : SameStreams s (s.unassign b n) := by
  have hfree := (s.sameStreams_setSlots b (fun l => removeFrom l n)).trans (State.sameStreams_modBed _ b
    (fun x => { x with slotNow := if x.slotNow = some n then none else x.slotNow }))
  unfold State.unassign
  dsimp only
  split
  · exact hfree.trans ((State.sameStreams_modBed _ b _).trans ((State.sameStreams_modBed _ b _).trans
      ((State.sameStreams_setBed _ b .idle).trans (State.sameStreams_freshPatch _ b))))
  · exact hfree

theorem State.sameStreams_keepWarm (s : State) : SameStreams s s.keepWarm := by
  refine SameStreams.foldl (fun u b => ?_) _ s
  dsimp only
  generalize decide (b ∈ (_ : List Nat)) = is
  generalize hm : (if (u.bed b).warm = is then u else u.modBed b (fun x => { x with warm := is })) = m
  have hmod : SameStreams u m := by
    rw [← hm]
    split <;> exact ⟨rfl, rfl⟩
  split
  · exact hmod.trans (State.sameStreams_wakeBed m b)
  · exact hmod

theorem State.sameStreams_refill (s : State) (b : Nat) : SameStreams s (s.refill b) := by
  unfold State.refill
  dsimp only
  split
  · exact (s.sameStreams_modBed b _).trans (State.sameStreams_keepWarm _)
  · exact .refl s

theorem State.sameStreams_dropBeds (s : State) (n : Nat) : SameStreams s (s.dropBeds n) := by
  unfold State.dropBeds
  dsimp only
  exact (SameStreams.foldl (fun u b => (u.sameStreams_unassign b n).trans (State.sameStreams_modBed _ b _)) _ s).trans
    (SameStreams.foldl (fun u b => u.sameStreams_refill b) _ _)

/-! ## The beds of a placement -/

theorem State.bedSlots_setBed (s : State) (b k : Nat) (st : BedState) : ((s.setBed b st).bed k).slots = (s.bed k).slots := by
  by_cases hk : k = b
  · rw [hk]
    exact (s.setBed_leaves b st).2.2
  · rw [s.bed_setBed_other st hk]

theorem State.bedSlots_wakeBed (s : State) (b k : Nat) : ((s.wakeBed b).bed k).slots = (s.bed k).slots := by
  rw [State.wakeBed_eq]
  split
  · rw [State.bed_setPower, State.bedSlots_setBed]
  · split
    · rw [State.bed_modBed]
      split
      · next hk => rw [hk]
      · rfl
    · rfl

theorem State.bedSlots_assign (s : State) (b n k : Nat) :
    ((s.assign b n).bed k).slots = if k = b then addTo (s.bed k).slots n else (s.bed k).slots := by
  have hset : ((s.setSlots b (fun l => addTo l n)).bed k).slots =
      if k = b then addTo (s.bed k).slots n else (s.bed k).slots := by
    have hstr : (s.setSlots b (fun l => addTo l n)).bed k =
        (s.modBed b (fun x => { x with slots := addTo x.slots n })).bed k := by
      simp only [State.bed, State.setSlots, State.reowned_kept ..]
    rw [hstr, State.bed_modBed]
    split
    · next hk => rw [hk]
    · rfl
  rw [← hset]
  unfold State.assign
  dsimp only
  split
  · exact State.bedSlots_setBed _ b k .running
  · exact State.bedSlots_wakeBed _ b k

theorem mem_addTo {l : List Nat} {x k : Nat} : k ∈ addTo l x ↔ k ∈ l ∨ k = x := by
  unfold addTo
  split
  · next h => exact ⟨.inl, fun hk => hk.elim id (fun hx => hx ▸ h)⟩
  · simp

theorem State.bedSlots_modBed (s : State) (b k : Nat) {f : Bed → Bed} (h : (f (s.bed b)).slots = (s.bed b).slots) :
    ((s.modBed b f).bed k).slots = (s.bed k).slots := by
  rw [State.bed_modBed]
  split
  · next hk => rw [hk]; exact h
  · rfl

/-- Streams assigned to a bed in turn. -/
theorem State.assignAll_slots (b : Nat) (l : List Nat) (s : State) (k m : Nat) :
    m ∈ ((l.foldl (fun (s : State) m => s.assign b m) s).bed k).slots ↔ m ∈ (s.bed k).slots ∨ (k = b ∧ m ∈ l) := by
  induction l generalizing s with
  | nil => simp
  | cons n r ih =>
    rw [List.foldl_cons, ih, State.bedSlots_assign, List.mem_cons]
    split
    · next hk => rw [mem_addTo]; tauto
    · next hk => tauto

/-- One bed of a placement takes its place in its gang and the streams. -/
def State.seat (s : State) (g : Nat) (all : List Nat) (e : Nat × Nat) : State :=
  all.foldl (fun (s : State) m => s.assign e.1 m)
    (s.modBed e.1 (fun b => { b with gangPos := e.2, gangSize := if g ≤ 1 then 0 else g }))

theorem State.seat_slots (s : State) (g : Nat) (all : List Nat) (e : Nat × Nat) (k m : Nat) :
    m ∈ ((s.seat g all e).bed k).slots ↔ m ∈ (s.bed k).slots ∨ (k = e.1 ∧ m ∈ all) := by
  unfold State.seat
  rw [State.assignAll_slots, State.bedSlots_modBed s e.1 k (f := fun b =>
    { b with gangPos := e.2, gangSize := if g ≤ 1 then 0 else g }) rfl]

theorem State.seatAll_slots (g : Nat) (all : List Nat) (l : List (Nat × Nat)) (s : State) (k m : Nat) :
    m ∈ ((l.foldl (State.seat · g all ·) s).bed k).slots ↔ m ∈ (s.bed k).slots ∨ ((∃ e ∈ l, k = e.1) ∧ m ∈ all) := by
  induction l generalizing s with
  | nil => simp
  | cons e r ih =>
    rw [List.foldl_cons, ih, State.seat_slots]
    simp only [List.mem_cons, exists_eq_or_imp]
    tauto

theorem State.sameStreams_seat (s : State) (g : Nat) (all : List Nat) (e : Nat × Nat) :
    SameStreams s (s.seat g all e) :=
  (s.sameStreams_modBed e.1 _).trans (SameStreams.foldl (fun u m => u.sameStreams_assign e.1 m) _ _)

/-- What admission makes of one stream (R182). -/
def State.admitted (s : State) (lead partner : List Nat) (m : Nat) : State :=
  (s.modTwin m (fun w =>
    { counts := w.counts, resends := w.resends, disagreements := w.disagreements, lead := lead, partner := partner,
      templates := true : Twin })).modSlot m (fun x =>
    { x with st := 2, startAt := none, pictures := 0, codedNo := 0, pics := [], poc := 0, nextPhase := 0, metered := 0,
             schedEnd0 := 0, schedEnd1 := 0, seq0 := 0, seq1 := 0, resync := [], deferred := false, repeat_ := false,
             startNext := true, pendPeriod := [], sweep := 0, anc := [], audio := [], fillers := [], digests := [],
             ring := [], analysis := {}, tables0 := 0, tables1 := 0, level := s.levelFor m,
             run := !decide (lead.headD 0 ∈ (s.allot x.owner).runClear),
             period := match s.groupOf m with
               | some g => s.cfgN 0x22 (0x2000 + g) 0x04
               | none => s.cfgN 0x21 (s.anchorOf m) 0x14 })

theorem State.takeBeds_eq (s : State) (n : Nat) (lead partner : List Nat) : s.takeBeds n lead partner =
    (lead.zipIdx ++ partner.zipIdx).foldl (State.seat · lead.length (s.ladder n) ·)
      ((s.ladder n).foldl (State.admitted · lead partner ·) s) := rfl

/-- A stream that admission has placed on its sides. -/
def State.Placed (s : State) (lead partner : List Nat) (m : Nat) : Prop :=
  (s.slot m).st = 2 ∧ (s.slot m).startAt = none ∧ (s.twin m).lead = lead ∧ (s.twin m).partner = partner

theorem State.twin_modSlot (s : State) (m k : Nat) (f : Slot → Slot) : (s.modSlot m f).twin k = s.twin k := rfl
theorem State.slot_modTwin (s : State) (m k : Nat) (f : Twin → Twin) : (s.modTwin m f).slot k = s.slot k := rfl

theorem State.admitted_placed (s : State) (lead partner : List Nat) (m : Nat) :
    (s.admitted lead partner m).Placed lead partner m := by
  unfold State.Placed State.admitted
  rw [State.slot_modSlot, if_pos rfl, State.twin_modSlot, State.twin_modTwin, if_pos rfl]
  exact ⟨rfl, rfl, rfl, rfl⟩

theorem State.admitted_other (s : State) (lead partner : List Nat) {m k : Nat} (hk : k ≠ m) :
    (s.admitted lead partner m).slot k = s.slot k ∧ (s.admitted lead partner m).twin k = s.twin k := by
  unfold State.admitted
  rw [State.slot_modSlot, if_neg hk, State.twin_modSlot, State.twin_modTwin, if_neg hk, State.slot_modTwin]
  exact ⟨rfl, rfl⟩

/-- A property of one place that each step gives the place it names and leaves to every other. -/
theorem foldl_gives {σ : Type} {P : σ → Nat → Prop} {f : σ → Nat → σ} (hself : ∀ s m, P (f s m) m)
    (hother : ∀ s m k, k ≠ m → P s k → P (f s m) k) (l : List Nat) (s : σ) {k : Nat} (h : P s k ∨ k ∈ l) :
    P (l.foldl f s) k := by
  induction l generalizing s with
  | nil => exact h.resolve_right List.not_mem_nil
  | cons m r ih =>
    refine ih (f s m) ?_
    by_cases hk : k = m
    · exact .inl (hk ▸ hself s m)
    · exact h.imp (hother s m k hk) (fun h => (List.mem_cons.1 h).resolve_left hk)

theorem State.takeBeds_places (s : State) (n : Nat) (lead partner : List Nat) {m : Nat} (hm : m ∈ s.ladder n) :
    (s.takeBeds n lead partner).Placed lead partner m ∧
      ∀ b ∈ lead ++ partner, m ∈ ((s.takeBeds n lead partner).bed b).slots := by
  rw [State.takeBeds_eq]
  have hall : ((s.ladder n).foldl (State.admitted · lead partner ·) s).Placed lead partner m :=
    foldl_gives (P := fun (s : State) m => s.Placed lead partner m) (fun u m => u.admitted_placed lead partner m)
      (fun u j k hk h => by
        obtain ⟨hslot, htwin⟩ := u.admitted_other lead partner hk
        unfold State.Placed
        rw [hslot, htwin]
        exact h) _ _ (.inr hm)
  have hsame := SameStreams.foldl (fun u e => u.sameStreams_seat lead.length (s.ladder n) e)
    (lead.zipIdx ++ partner.zipIdx) ((s.ladder n).foldl (State.admitted · lead partner ·) s)
  refine ⟨?_, fun b hb => ?_⟩
  · unfold State.Placed
    rw [hsame.slot, hsame.twin]
    exact hall
  · rw [State.seatAll_slots]
    refine .inr ⟨?_, hm⟩
    have hzip : ∀ l : List Nat, b ∈ l → ∃ e ∈ l.zipIdx, b = e.1 := fun l hl => by
      rw [← List.zipIdx_map_fst 0 l] at hl
      obtain ⟨e, he, rfl⟩ := List.mem_map.1 hl
      exact ⟨e, he, rfl⟩
    rcases List.mem_append.1 hb with hb | hb
    · obtain ⟨e, he, hbe⟩ := hzip lead hb
      exact ⟨e, List.mem_append_left _ he, hbe⟩
    · obtain ⟨e, he, hbe⟩ := hzip partner hb
      exact ⟨e, List.mem_append_right _ he, hbe⟩

/-! ## A stream that is released -/

/-- One stream of a ladder is released (R183). -/
def State.released (s : State) (m : Nat) : State :=
  let due := (s.slot m).shadow.foldl (fun b w => Nat.max b w.boundary) 0
  let s := (s.shadowLive m due).dropBeds m
  let s := s.setTwin m .none
  (s.modTwin m (fun w =>
    { counts := w.counts, resends := w.resends, disagreements := w.disagreements : Twin })).modSlot m (fun x =>
    { x with st := 1, startAt := none, regions := [], reserved := 0, cost := 0, pots := [], pics := [], shadow := [],
             repeat_ := false, resync := [], readmit := false })

/-- What the release of a stream leaves of it. -/
def State.Released (s : State) (owner : Nat → Nat) (m : Nat) : Prop :=
  (s.slot m).st = 1 ∧ (s.slot m).regions = [] ∧ (s.slot m).owner = owner m ∧
    (s.twin m).lead = [] ∧ (s.twin m).partner = [] ∧ (s.twin m).st = .none

/-- A feed whose stream is released keeps its channel and its counts. -/
def Feed.released (f : Feed) : Feed :=
  { f with cuts := [], pend := none, toHold := false, busy := [], took := [], acks := [], reading := none, line := 0,
           picture := 0, mark := 0, standbyMark := 0 }

theorem State.releaseStream_eq (s : State) (n : Nat) :
    s.releaseStream n = (((s.ladder n).foldl State.released s).modFeed n Feed.released).reowned s := rfl

theorem State.setTwin_other (s : State) {m k : Nat} (st : TwinState) (hk : k ≠ m) : (s.setTwin m st).twin k = s.twin k := by
  unfold State.setTwin
  split
  · rfl
  · rw [State.twin_raise, State.twin_modTwin, if_neg hk]

theorem State.setTwin_slots (s : State) (m : Nat) (st : TwinState) : (s.setTwin m st).str.slots = s.str.slots := by
  unfold State.setTwin
  split
  · rfl
  · simp only [State.raise_kept ..]
    rfl

/-- What shadow writes that take effect leave: the twins, the other slots and the slot's owner. -/
theorem State.shadowLive_leaves (s : State) (m b : Nat) : (s.shadowLive m b).str.twins = s.str.twins ∧
    (∀ k, k ≠ m → (s.shadowLive m b).slot k = s.slot k) ∧
    ((s.shadowLive m b).slot m).owner = (s.slot m).owner := by
  unfold State.shadowLive
  dsimp only
  split
  · exact ⟨rfl, fun _ _ => rfl, rfl⟩
  · rw [← State.liveWrites]
    generalize hv : s.modSlot m (fun x => { x with shadow := x.shadow.filter (fun w => !decide (w.boundary ≤ b)) }) = v
    have hvs : ∀ k, k ≠ m → v.slot k = s.slot k := fun k hk => by rw [← hv, State.slot_modSlot, if_neg hk]
    have hvo : (v.slot m).owner = (s.slot m).owner := by rw [← hv, State.slot_modSlot, if_pos rfl]
    have hvt : v.str.twins = s.str.twins := by rw [← hv]; rfl
    obtain ⟨hstr, -⟩ := v.liveWrites_kept m ((s.slot m).shadow.filter (fun w => decide (w.boundary ≤ b)))
    generalize v.liveWrites m _ = w at hstr
    have hws : ∀ k, w.slot k = v.slot k := State.slot_of_str hstr
    split
    · exact ⟨by rw [hstr, hvt], fun k hk => (hws k).trans (hvs k hk), (congrArg Slot.owner (hws m)).trans hvo⟩
    · have hrate : ∀ c, (w.setRate m c).str.twins = w.str.twins ∧ (∀ k, k ≠ m → (w.setRate m c).slot k = w.slot k) ∧
          ((w.setRate m c).slot m).owner = (w.slot m).owner := fun c => by
        refine ⟨rfl, fun k hk => ?_, ?_⟩
        · unfold State.setRate State.modRate
          rw [State.slot_modSlot, if_neg hk]
        · unfold State.setRate State.modRate
          rw [State.slot_modSlot, if_pos rfl]
      obtain ⟨h1, h2, h3⟩ := hrate _
      exact ⟨by rw [h1, hstr, hvt], fun k hk => (h2 k hk).trans ((hws k).trans (hvs k hk)),
        h3.trans ((congrArg Slot.owner (hws m)).trans hvo)⟩

/-- The release of a stream up to its own entries: its beds are dropped and its twin is NONE. -/
def State.unmanned (s : State) (m : Nat) : State :=
  ((s.shadowLive m ((s.slot m).shadow.foldl (fun b w => Nat.max b w.boundary) 0)).dropBeds m).setTwin m .none

theorem State.unmanned_leaves (s : State) (m : Nat) : (∀ k, k ≠ m → (s.unmanned m).slot k = s.slot k) ∧
    ((s.unmanned m).slot m).owner = (s.slot m).owner ∧ (∀ k, k ≠ m → (s.unmanned m).twin k = s.twin k) := by
  unfold State.unmanned
  generalize Nat.max = mx
  obtain ⟨htwins, hslots, howner⟩ := s.shadowLive_leaves m ((s.slot m).shadow.foldl (fun b w => mx b w.boundary) 0)
  generalize s.shadowLive m _ = v at htwins hslots howner
  have hdrop := v.sameStreams_dropBeds m
  have hset := (v.dropBeds m).setTwin_slots m .none
  have hslot : ∀ k, ((v.dropBeds m).setTwin m .none).slot k = v.slot k := fun k =>
    (State.slot_of_slots hset k).trans (hdrop.slot k)
  refine ⟨fun k hk => (hslot k).trans (hslots k hk), (congrArg Slot.owner (hslot m)).trans howner, fun k hk => ?_⟩
  rw [State.setTwin_other _ .none hk, hdrop.twin]
  simp only [State.twin, htwins]

theorem State.released_eq (s : State) (m : Nat) : s.released m =
    ((s.unmanned m).modTwin m (fun w =>
      { counts := w.counts, resends := w.resends, disagreements := w.disagreements : Twin })).modSlot m (fun x =>
      { x with st := 1, startAt := none, regions := [], reserved := 0, cost := 0, pots := [], pics := [], shadow := [],
               repeat_ := false, resync := [], readmit := false }) := rfl

theorem State.released_self (s : State) (m : Nat) : (s.released m).Released (fun k => (s.slot k).owner) m := by
  obtain ⟨-, howner, -⟩ := s.unmanned_leaves m
  rw [State.released_eq]
  unfold State.Released
  rw [State.slot_modSlot, if_pos rfl, State.twin_modSlot, State.twin_modTwin, if_pos rfl, State.slot_modTwin]
  exact ⟨rfl, rfl, howner, rfl, rfl, rfl⟩

theorem State.released_other (s : State) {m k : Nat} (hk : k ≠ m) :
    (s.released m).slot k = s.slot k ∧ (s.released m).twin k = s.twin k := by
  obtain ⟨hslot, -, htwin⟩ := s.unmanned_leaves m
  rw [State.released_eq, State.slot_modSlot, if_neg hk, State.twin_modSlot, State.twin_modTwin, if_neg hk,
    State.slot_modTwin]
  exact ⟨hslot k hk, htwin k hk⟩

theorem State.released_owner (s : State) (m k : Nat) : ((s.released m).slot k).owner = (s.slot k).owner := by
  by_cases hk : k = m
  · rw [hk]
    exact (s.released_self m).2.2.1
  · rw [(s.released_other hk).1]

theorem State.releaseAll (owner : Nat → Nat) (l : List Nat) (s : State) (ho : ∀ k, (s.slot k).owner = owner k) {m : Nat}
    (h : s.Released owner m ∨ m ∈ l) : (l.foldl State.released s).Released owner m := by
  induction l generalizing s with
  | nil => exact h.resolve_right List.not_mem_nil
  | cons n r ih =>
    refine ih _ (fun k => (s.released_owner n k).trans (ho k)) ?_
    by_cases hm : m = n
    · subst hm
      have hself := s.released_self m
      unfold State.Released at hself ⊢
      rw [← ho m]
      exact .inl hself
    · refine h.imp (fun h => ?_) (fun h => (List.mem_cons.1 h).resolve_left hm)
      obtain ⟨hslot, htwin⟩ := s.released_other hm
      unfold State.Released
      rw [hslot, htwin]
      exact h

theorem State.Released.congr {u v : State} {owner : Nat → Nat} {m : Nat} (h : SameStreams u v) (hu : u.Released owner m) :
    v.Released owner m := by
  unfold State.Released at hu ⊢
  rw [h.slot, h.twin]
  exact hu

theorem State.sameStreams_modFeed (s : State) (n : Nat) (f : Feed → Feed) : SameStreams s (s.modFeed n f) := ⟨rfl, rfl⟩

theorem State.releaseStream_releases (s : State) (n : Nat) {m : Nat} (hm : m ∈ s.ladder n) :
    (s.releaseStream n).Released (fun k => (s.slot k).owner) m := by
  rw [State.releaseStream_eq]
  exact (State.releaseAll (fun k => (s.slot k).owner) (s.ladder n) s (fun _ => rfl) (.inr hm)).congr
    ((State.sameStreams_modFeed _ n _).trans (State.sameStreams_reowned _ s))

/-! ## A slot that is freed -/

theorem State.freeSlot_frees (s : State) (n : Nat) :
    ((s.freeSlot n).slot n).st = 0 ∧ ((s.freeSlot n).slot n).kind = 0 ∧ ((s.freeSlot n).slot n).owner = 0 ∧
      (s.freeSlot n).str.beds = s.str.beds := by
  unfold State.freeSlot
  dsimp only
  have hsame := State.sameStreams_reowned
  refine ⟨?_, ?_, ?_, ?_⟩
  · rw [(hsame _ s).slot, State.slot_modSlot, if_pos rfl]
  · rw [(hsame _ s).slot, State.slot_modSlot, if_pos rfl]
  · rw [(hsame _ s).slot, State.slot_modSlot, if_pos rfl]
  · simp only [State.reowned_kept .., State.modSlot_str_beds]
    rw [foldl_keeps (fun u : State => u.str.beds)]
    exact fun u m _ => rfl

/-! ## Admission -/

theorem State.ladder_of_cfg {s u : State} {n : Nat} (h : u.cfg 0x22 n 0x01 = s.cfg 0x22 n 0x01) : u.ladder n = s.ladder n := by
  simp only [State.ladder, State.tiersOf, h]

theorem State.ladder_of_store {s u : State} (h : u.alm.store = s.alm.store) (n : Nat) : u.ladder n = s.ladder n :=
  State.ladder_of_cfg (by simp only [State.cfg, h])

theorem State.ladder_setCfgN (s : State) {f i m n : Nat} (w v : Nat) (h : entryKey 0x22 n 0x01 ≠ entryKey f i m) :
    (s.setCfgN f i m w v).ladder n = s.ladder n := State.ladder_of_cfg (s.cfg_setCfg_of_ne _ h)

/-- The state of rate control with which a ladder is admitted (R164). -/
theorem State.ratesInit_alm (s : State) (l : List Nat) : (l.foldl (fun (s : State) m =>
    (s.setRate m true).modRate m (fun r => r.init (s.cfgI 0x21 m 0x11) (s.rowsOfSlot m))) s).alm = s.alm := by
  rw [foldl_keeps State.alm]
  exact fun u m _ => rfl

theorem State.admitDefaults_ladder (s : State) {n : Nat} (_hn : n < 8192) : (s.admitDefaults n).ladder n = s.ladder n := by
  unfold State.admitDefaults
  split
  · have hset : ∀ (u : State) v, (if u.cfgN 0x23 n 0x10 ≠ 0 then u else u.setCfgN 0x23 n 0x10 4 v).ladder n = u.ladder n :=
      fun u v => by
        split
        · rfl
        · exact State.ladder_setCfgN _ _ _ (by simp only [entryKey]; omega)
    refine (hset _ _).trans (State.ladder_of_store ?_ n)
    split <;> rfl
  · refine (State.ladder_of_store (congrArg Almanac.store (State.ratesInit_alm _ _)) n).trans ?_
    split
    · split
      · rfl
      · exact State.ladder_setCfgN _ _ _ (by simp only [entryKey]; omega)
    · rfl

theorem State.admitStream_refused {s : State} {n c : Nat} (h : s.admitCheck n = c) (hc : c ≠ 0) :
    s.admitStream n = (c, s) := by
  unfold State.admitStream
  dsimp only
  rw [h, if_pos hc]

theorem State.admitStream_over {s : State} {n : Nat} (h : s.admitCheck n = 0)
    (hb : s.cfgN 0x04 (s.slot n).owner 0x05 * 1000 * 4004 < s.budgetUsed (s.slot n).owner + s.costOf n * s.sidesOf n) :
    s.admitStream n = (12, s) := by
  unfold State.admitStream
  dsimp only
  rw [if_neg (not_not.2 h), if_pos hb]

theorem State.admitStream_unplaced {s : State} {n c : Nat} {lead partner : List Nat} (h : s.admitCheck n = 0)
    (hb : s.budgetUsed (s.slot n).owner + s.costOf n * s.sidesOf n ≤ s.cfgN 0x04 (s.slot n).owner 0x05 * 1000 * 4004)
    (hp : s.place n = (c, lead, partner)) (hc : c ≠ 0) : s.admitStream n = (c, s) := by
  obtain ⟨k, rfl⟩ := Nat.exists_eq_succ_of_ne_zero hc
  unfold State.admitStream
  dsimp only
  rw [if_neg (not_not.2 h), if_neg (Nat.not_lt.2 hb), hp]
  rfl

theorem State.admitStream_placed {s : State} {n : Nat} {lead partner : List Nat} (h : s.admitCheck n = 0)
    (hb : s.budgetUsed (s.slot n).owner + s.costOf n * s.sidesOf n ≤ s.cfgN 0x04 (s.slot n).owner 0x05 * 1000 * 4004)
    (hp : s.place n = (0, lead, partner)) : s.admitStream n =
      (0, ((((s.takeRegions n lead partner).admitDefaults n).takeBeds n lead partner).reowned s)) := by
  unfold State.admitStream
  dsimp only
  rw [if_neg (not_not.2 h), if_neg (Nat.not_lt.2 hb), hp]
  rfl

theorem State.admitStream_places (s : State) {n : Nat} (hn : n < 8192) (lead partner : List Nat) {m : Nat}
    (hm : m ∈ s.ladder n) :
    let u := (((s.takeRegions n lead partner).admitDefaults n).takeBeds n lead partner).reowned s
    u.Placed lead partner m ∧ ∀ b ∈ lead ++ partner, m ∈ (u.bed b).slots := by
  intro u
  have hladder : ((s.takeRegions n lead partner).admitDefaults n).ladder n = s.ladder n := by
    rw [State.admitDefaults_ladder _ hn]
    exact State.ladder_of_store (by simp only [State.takeRegions_kept ..]) n
  obtain ⟨hplaced, hbeds⟩ := State.takeBeds_places ((s.takeRegions n lead partner).admitDefaults n) n lead partner
    (hladder ▸ hm)
  have hstr : u.str = (((s.takeRegions n lead partner).admitDefaults n).takeBeds n lead partner).str := by
    simp only [u, State.reowned_kept ..]
  refine ⟨?_, fun b hb => ?_⟩
  · unfold State.Placed at hplaced ⊢
    rw [(SameStreams.of_str hstr).slot, (SameStreams.of_str hstr).twin]
    exact hplaced
  · have := hbeds b hb
    rw [State.bed] at this ⊢
    rw [hstr]
    exact this

/-! ## The row of ADMIT -/

theorem spaceOf_encode {n : Nat} (h : n < 8192) : spaceOf 0x21 n = some (.encode, n) := by
  have h1 : n ≤ 0x1FFF := by omega
  simp [spaceOf, spacesOf, h1]
theorem spaceOf_decode {n : Nat} (h : n < 8192) : spaceOf 0x23 n = some (.decode, n) := by
  have h1 : n ≤ 0x1FFF := by omega
  simp [spaceOf, spacesOf, h1]

/-- What follows a write accepted for a stream's entry that is not structural: its peers fall when its owner changes. -/
theorem afterWrite_leaves (sp : Space) (n : Nat) {r : Row} (was e : Nat) (u : State) (hr : r.struct = false) :
    ∃ x, afterWrite sp n r was (0, e, u) = (0, e, x) ∧ x.str = u.str ∧ x.rings = u.rings ∧ x.mem = u.mem := by
  have hout : afterWrite sp n r was (0, e, u) =
      (0, e, if u.slotOwner sp n ≠ was then u.clearPeers (slotInstances n) else u) := by
    unfold afterWrite
    rw [if_neg (by simp), hr]
    rfl
  refine ⟨_, hout, ?_⟩
  split
  · simp only [State.clearPeers_kept .., and_self]
  · exact ⟨rfl, rfl, rfl⟩

/-- The row of ADMIT. -/
def admitRow : Row := { m0 := 0x03, m1 := 0x03, ty := .u 1, acc := 8, legal := [(1, 2)] }

/-- ADMIT of a stream slot of its own family, as its entry takes it. -/
theorem State.admit_entry (s : State) {a fam n v : Nat} (hn : n < 8192) (hv : v = 1 ∨ v = 2)
    (hf : fam = 0x21 ∧ (s.slot n).kind = 1 ∨ fam = 0x23 ∧ (s.slot n).kind = 2) :
    ∃ sp was, spaceOf fam n = some (sp, n) ∧ entryRow sp n 0x03 = some admitRow ∧
      s.entryWrite a fam n 0x03 sp n admitRow (natLe 1 v) = afterWrite sp n admitRow was (byStatus (s.admit_ n v)) := by
  have hnear : nearest [(1, 2)] (v : Int) = v := nearest_self (by omega) (by omega)
  rcases hf with ⟨rfl, hk⟩ | ⟨rfl, hk⟩
  · refine ⟨.encode, _, spaceOf_encode hn, rfl, entryWrite_number (by decide) ?_ rfl rfl (by omega) ?_ hnear ?_ (by simp)⟩
    · simp [State.otherKind, hk]
    · intro p hp
      rcases List.mem_singleton.1 hp with rfl
      decide
    · simp [creditOf]
  · refine ⟨.decode, _, spaceOf_decode hn, rfl, entryWrite_number (by decide) ?_ rfl rfl (by omega) ?_ hnear ?_ (by simp)⟩
    · simp [State.otherKind, hk]
    · intro p hp
      rcases List.mem_singleton.1 hp with rfl
      decide
    · simp [creditOf]

theorem exec_admitSlot {a fam n : Nat} (t v : Nat) (s : State) (ha : a < 16) (hn : n < 8192) (hf : fam = 0x21 ∨ fam = 0x23) :
    exec (.admitSlot t a fam n v) s = .next ((s.at t).orderNumber a fam n 0x03 1 v) :=
  (if_pos (decide_eq_true ha)).trans (by rcases hf with rfl | rfl <;> simp [named, isSlot, hn])

section
variable {s : State} {t a fam n v : Nat} (ha : a < 16) (hn : n < 8192) (h : takesAtOnce s t a)
  (hf : fam = 0x21 ∧ (s.slot n).kind = 1 ∨ fam = 0x23 ∧ (s.slot n).kind = 2) (hw : mayWrite s a fam n 0x03)
  (hv : v = 1 ∨ v = 2)
include ha hn h hf hw hv

theorem admit_refused {c : Nat} (hc : c ≠ 0) (hout : (s.at t).admit_ n v = (c, s.at t)) :
    exec (.admitSlot t a fam n v) s = .next ((s.at t).say c [] 0) := by
  obtain ⟨sp, was, hsp, hrow, hentry⟩ := (s.at t).admit_entry (a := a) hn hv hf
  refine (exec_admitSlot t v s ha hn (hf.imp And.left And.left)).trans (congrArg _ ?_)
  refine orderWrite_refused (s := s) (t := t) h hsp hrow (.inr (mayWrite_right hw hsp hrow)) hc ?_
  rw [hentry, hout, byStatus, if_neg hc]
  exact afterWrite_refused sp n admitRow was hc

/-- An ADMIT that is accepted leaves what admission or release does, but for the peers of a slot that changes its owner. -/
theorem admit_accepted {u : State} (hout : (s.at t).admit_ n v = (0, u)) (hnow : u.now = t) :
    ∃ w, exec (.admitSlot t a fam n v) s = .next w ∧ w.answer = { status := 0, effectAt := t, data := [] } ∧
      w.str = u.str ∧ w.rings = u.rings ∧ w.mem = u.mem := by
  obtain ⟨sp, was, hsp, hrow, hentry⟩ := (s.at t).admit_entry (a := a) hn hv hf
  obtain ⟨x, hx, hstr, hrings, hmem⟩ := afterWrite_leaves sp n (r := admitRow) was t u rfl
  have hacc : accepted x ((s.at t).orderNumber a fam n 0x03 1 v) t := by
    refine row_accepted (s := s) (t := t) h hsp hrow (.inr (mayWrite_right hw hsp hrow)) ?_
    rw [hentry, hout, byStatus, if_pos rfl, State.ok, hnow, hx]
  refine ⟨_, exec_admitSlot t v s ha hn (hf.imp And.left And.left), accepted_answer hacc, ?_⟩
  simp only [accepted_kept hacc]
  exact ⟨hstr, hrings, hmem⟩

end

/-! ## The obligation -/

theorem State.now_releaseStream (s : State) (n : Nat) : (s.releaseStream n).now = s.now := by
  simp only [State.releaseStream_kept ..]
theorem State.now_freeSlot (s : State) (n : Nat) : (s.freeSlot n).now = s.now := by simp only [State.freeSlot_kept ..]

theorem State.admit_none {s : State} {n : Nat} (h : (s.slot n).role = 2 ∨ (s.slot n).st = 0) : s.admit_ n 2 = (3, s) := by
  unfold State.admit_
  dsimp only
  rw [if_neg (by decide), if_pos h]
theorem State.admit_configured {s : State} {n : Nat} (h : (s.slot n).st = 1) (hr : (s.slot n).role ≠ 2) :
    s.admit_ n 2 = (0, s.freeSlot n) := by
  unfold State.admit_
  dsimp only
  rw [if_neg (by decide), if_neg (by omega), if_pos h]
theorem State.admit_releases {s : State} {n : Nat} (h : 2 ≤ (s.slot n).st) (hr : (s.slot n).role ≠ 2) :
    s.admit_ n 2 = (0, s.releaseStream n) := by
  unfold State.admit_
  dsimp only
  rw [if_neg (by decide), if_neg (by omega), if_neg (by omega)]

/-- Settles O25: ADMIT 1 over its refusals and its placement, and ADMIT 2 over the states of the slot. -/
theorem admissions : Obligations.Admissions := by
  unfold Obligations.Admissions
  intro s t a fam n ha hn h hf hw
  have hone : (s.at t).admit_ n 1 = (s.at t).admitStream n := rfl
  refine ⟨fun c hc hne => ?check, fun hc hb => ?exceeds, fun c lead partner hc hp hne hb => ?unplaced,
    fun lead partner hc hp hb => ?placed, fun hst hr => ?free, fun hr => ?state, fun hst hr => ?release⟩
  case check =>
    exact admit_refused ha hn h hf hw (.inl rfl) hne (hone.trans (State.admitStream_refused hc hne))
  case exceeds =>
    exact admit_refused ha hn h hf hw (.inl rfl) (by decide) (hone.trans (State.admitStream_over hc hb))
  case unplaced =>
    exact admit_refused ha hn h hf hw (.inl rfl) hne (hone.trans (State.admitStream_unplaced hc hb hp hne))
  case placed =>
    have hplaced := State.admitStream_placed (s := s.at t) hc hb hp
    have hnow : ((s.at t).admitStream n).2.now = (s.at t).now := by simp only [State.admitStream_kept ..]
    have hrings : ((s.at t).admitStream n).2.rings = (s.at t).rings := by simp only [State.admitStream_kept ..]
    have hmem : ((s.at t).admitStream n).2.mem = (s.at t).mem := by simp only [State.admitStream_kept ..]
    rw [hplaced] at hnow hrings hmem
    obtain ⟨u, hexec, hanswer, hstr, hr, hm⟩ := admit_accepted ha hn h hf hw (.inl rfl) (hone.trans hplaced) hnow
    refine ⟨u, hexec, hanswer, fun m hml => ?_, hr.trans hrings, by rw [hm, hmem]; rfl⟩
    obtain ⟨hpl, hbeds⟩ := State.admitStream_places (s.at t) hn lead partner (m := m) hml
    obtain ⟨h1, h2, h3, h4⟩ := hpl
    rw [(SameStreams.of_str hstr).slot, (SameStreams.of_str hstr).twin]
    refine ⟨h1, h2, h3, h4, fun b hb => ?_⟩
    have := hbeds b hb
    rw [State.bed] at this ⊢
    rw [hstr]
    exact this
  case free =>
    have hout : (s.at t).admit_ n 2 = (0, (s.at t).freeSlot n) := State.admit_configured (s := s.at t) hst hr
    obtain ⟨u, hexec, hanswer, hstr, hrings, hmem⟩ := admit_accepted ha hn h hf hw (.inr rfl) hout
      ((s.at t).now_freeSlot n)
    obtain ⟨h1, h2, h3, h4⟩ := (s.at t).freeSlot_frees n
    refine ⟨u, hexec, hanswer, ?_, ?_, ?_, by rw [hstr, h4]; rfl, ?_, ?_⟩
    · rw [(SameStreams.of_str hstr).slot, h1]
    · rw [(SameStreams.of_str hstr).slot, h2]
    · rw [(SameStreams.of_str hstr).slot, h3]
    · rw [hrings]
      simp only [State.freeSlot_kept ..]
      rfl
    · rw [hmem]
      simp only [State.freeSlot_kept ..]
      rfl
  case state =>
    exact admit_refused ha hn h hf hw (.inr rfl) (by decide) (State.admit_none (s := s.at t) hr)
  case release =>
    have hout : (s.at t).admit_ n 2 = (0, (s.at t).releaseStream n) := State.admit_releases (s := s.at t) hst hr
    obtain ⟨u, hexec, hanswer, hstr, hrings, hmem⟩ := admit_accepted ha hn h hf hw (.inr rfl) hout
      ((s.at t).now_releaseStream n)
    refine ⟨u, hexec, hanswer, fun m hm => ?_, ?_, ?_⟩
    · rw [(SameStreams.of_str hstr).slot, (SameStreams.of_str hstr).twin]
      exact (s.at t).releaseStream_releases n hm
    · rw [hrings]
      simp only [State.releaseStream_kept ..]
      rfl
    · rw [hmem]
      simp only [State.releaseStream_kept ..]
      rfl

end Sys2Proof.Machine
end

section
/-! PROOFS. The start of an admitted stream, a group's new period and a grant of slots (R33, R199, R331). -/

namespace Sys2Proof.Machine

/-! ## The start of a stream (R33) -/

theorem exec_streamAdmitted {n : Nat} (t : Nat) (s : State) (hn : n < 8192) :
    exec (.streamAdmitted t n) s = .next ((s.at t).streamAdmitted n) := if_pos (decide_eq_true hn)

/-- One stream of a ladder may start its output. -/
def State.startOne (s : State) (m : Nat) : State :=
  let s := s.modSlot m (fun y => { y with startAt := some s.now })
  let s := if (s.twin m).partner.isEmpty then s else s.setTwin m .whole
  s.judge m

theorem State.streamAdmitted_waits {s : State} {n : Nat} (h : (s.slot n).st ≠ 2 ∨ (s.slot n).startAt.isSome = true ∨
    (s.slot n).role = 2 ∨ ∃ b ∈ s.members n, (s.bed b).st ≠ .running) : s.streamAdmitted n = s := by
  refine if_pos ?_
  rcases h with h | h | h | ⟨b, hb, h⟩
  · exact .inl h
  · exact .inr (.inl h)
  · exact .inr (.inr (.inl h))
  · refine .inr (.inr (.inr ?_))
    rw [Bool.not_eq_true', List.all_eq_false]
    exact ⟨b, hb, by simpa using h⟩

theorem State.streamAdmitted_starts {s : State} {n : Nat} (h2 : (s.slot n).st = 2) (hstart : (s.slot n).startAt = none)
    (hr : (s.slot n).role ≠ 2) (hb : ∀ b ∈ s.members n, (s.bed b).st = .running) :
    s.streamAdmitted n = (s.ladder n).foldl State.startOne s := by
  have hall : (s.members n).all (fun b => decide ((s.bed b).st = .running)) = true := by
    rw [List.all_eq_true]
    exact fun b h => decide_eq_true (hb b h)
  refine if_neg ?_
  rintro (h | h | h | h)
  · exact h h2
  · rw [hstart] at h; cases h
  · exact hr h
  · rw [hall] at h; cases h

/-- A judgement changes the protection of one twin alone. -/
theorem State.judge_twin (s : State) (n k : Nat) :
    ((s.judge n).twin k).st = (s.twin k).st ∧ ((s.judge n).twin k).partner = (s.twin k).partner ∧
      (k ≠ n → (s.judge n).twin k = s.twin k) := by
  have hmod : ∀ p, ((s.modTwin n (fun w => { w with protected_ := p })).twin k).st = (s.twin k).st ∧
      ((s.modTwin n (fun w => { w with protected_ := p })).twin k).partner = (s.twin k).partner ∧
      (k ≠ n → (s.modTwin n (fun w => { w with protected_ := p })).twin k = s.twin k) := fun p => by
    rw [State.twin_modTwin]
    by_cases hk : k = n
    · rw [if_pos hk, hk]
      exact ⟨rfl, rfl, fun h => absurd rfl h⟩
    · rw [if_neg hk]
      exact ⟨rfl, rfl, fun _ => rfl⟩
  unfold State.judge
  split
  · split
    · exact hmod false
    · exact ⟨rfl, rfl, fun _ => rfl⟩
  · exact hmod _

theorem State.setTwin_self (s : State) (n : Nat) (st : TwinState) :
    ((s.setTwin n st).twin n).st = st ∧ ((s.setTwin n st).twin n).partner = (s.twin n).partner := by
  unfold State.setTwin
  split
  · next h => exact ⟨h, rfl⟩
  · rw [State.twin_raise, State.twin_modTwin, if_pos rfl]
    exact ⟨rfl, rfl⟩

/-- The twin of a stream that starts is WHOLE when it has a partner. -/
def State.manned (s : State) (m : Nat) : State := if (s.twin m).partner.isEmpty then s else s.setTwin m .whole

theorem State.manned_leaves (s : State) (m : Nat) : (s.manned m).str.slots = s.str.slots ∧
    (s.manned m).str.beds = s.str.beds ∧
    ((s.manned m).twin m).st = (if (s.twin m).partner = [] then (s.twin m).st else .whole) ∧
    ((s.manned m).twin m).partner = (s.twin m).partner ∧ (∀ k, k ≠ m → (s.manned m).twin k = s.twin k) := by
  unfold State.manned
  cases hp : (s.twin m).partner with
  | nil => exact ⟨rfl, rfl, rfl, hp, fun _ _ => rfl⟩
  | cons b r =>
    obtain ⟨hst, hpartner⟩ := s.setTwin_self m .whole
    exact ⟨s.setTwin_slots m .whole, s.beds_setTwin m .whole, hst, hpartner.trans hp,
      fun k hk => s.setTwin_other .whole hk⟩

/-- What the start of one stream leaves. -/
structure Started (s u : State) (m : Nat) : Prop where
  slots : ∀ k, u.slot k = if k = m then { s.slot k with startAt := some s.now } else s.slot k
  beds : u.str.beds = s.str.beds
  st : (u.twin m).st = if (s.twin m).partner = [] then (s.twin m).st else .whole
  partner : (u.twin m).partner = (s.twin m).partner
  others : ∀ k, k ≠ m → u.twin k = s.twin k
  frame : u = { s with str := u.str, irq := u.irq, allots := u.allots, emits := u.emits }

theorem State.startOne_starts (s : State) (m : Nat) : Started s (s.startOne m) m := by
  obtain ⟨hslots, hbeds, hst, hpartner, hothers⟩ :=
    (s.modSlot m (fun y => { y with startAt := some s.now })).manned_leaves m
  have hone : s.startOne m = ((s.modSlot m (fun y => { y with startAt := some s.now })).manned m).judge m := rfl
  obtain ⟨hjslots, hjbeds, -⟩ := ((s.modSlot m (fun y => { y with startAt := some s.now })).manned m).judge_slots m
  have hjudge := ((s.modSlot m (fun y => { y with startAt := some s.now })).manned m).judge_twin
  refine ⟨fun k => ?_, by rw [hone, hjbeds, hbeds]; rfl, ?_, ?_, fun k hk => ?_, ?_⟩
  · rw [hone, State.slot_of_slots hjslots, State.slot_of_slots hslots, State.slot_modSlot]
    split
    · next hk => rw [hk]
    · rfl
  · rw [hone, (hjudge m m).1, hst]
    rfl
  · rw [hone, (hjudge m m).2.1, hpartner]
    rfl
  · rw [hone, (hjudge m k).2.2 hk, hothers k hk]
    rfl
  · refine State.parts.2 ?_
    rw [hone]
    unfold State.manned
    simp [State.judge_kept .., State.ite_kept .., State.setTwin_kept ..]

theorem Started.now {s u : State} {m : Nat} (h : Started s u m) : u.now = s.now := by rw [h.frame]

/-- Streams started one after another. -/
theorem State.startAll_starts (l : List Nat) (s : State) :
    let u := l.foldl State.startOne s
    (∀ k, u.slot k = if k ∈ l then { s.slot k with startAt := some s.now } else s.slot k) ∧
      u.str.beds = s.str.beds ∧
      (∀ k, (u.twin k).st = if k ∈ l ∧ (s.twin k).partner ≠ [] then .whole else (s.twin k).st) ∧
      (∀ k, k ∉ l → u.twin k = s.twin k) ∧
      u = { s with str := u.str, irq := u.irq, allots := u.allots, emits := u.emits } := by
  induction l generalizing s with
  | nil => simp
  | cons m r ih =>
    have hone := s.startOne_starts m
    have hnow := hone.now
    obtain ⟨hslots, hbeds, hst, hother, hframe⟩ := ih (s.startOne m)
    rw [List.foldl_cons]
    refine ⟨fun k => ?_, hbeds.trans hone.beds, fun k => ?_, fun k hk => ?_, ?_⟩
    · rw [hslots, hone.slots, hnow]
      by_cases hk : k = m <;> by_cases hr : k ∈ r <;> simp [hk, hr]
    · rw [hst]
      by_cases hk : k = m
      · rw [hk, hone.partner, hone.st]
        by_cases hp : (s.twin m).partner = [] <;> by_cases hr : m ∈ r <;> simp [hp, hr]
      · rw [hone.others k hk]
        simp [hk]
    · rw [List.mem_cons, not_or] at hk
      rw [hother k hk.2, hone.others k hk.1]
    · refine hframe.trans ?_
      rw [hone.frame]

/-! ## A group's new period (R199) -/

theorem exec_periodChange {g : Nat} (t : Nat) (s : State) (hg : g < 256) :
    exec (.periodChange t g) s = .next ((s.at t).periodChange g) := if_pos (decide_eq_true hg)

/-- A group whose new period is in force. -/
def State.periodIn (s : State) (g v b : Nat) : State :=
  ((s.setCfgN 0x22 (0x2000 + g) 0x04 2 v).setCfgN 0x22 (0x2000 + g) 0x05 8 b).modGroup g (fun x =>
    { x with pend := none, periodAt := b })

theorem State.periodChange_none {s : State} {g : Nat} (h : (s.group g).pend = none) : s.periodChange g = s := by
  unfold State.periodChange
  rw [h]
theorem State.periodChange_some {s : State} {g v b : Nat} (h : (s.group g).pend = some (v, b)) :
    s.periodChange g = if s.now < b then s else s.periodIn g v b := by
  unfold State.periodChange
  rw [h]
  rfl

theorem State.cfgN_setCfgN_self (s : State) (f i m w v : Nat) : (s.setCfgN f i m w v).cfgN f i m = v % 256 ^ w := by
  rw [State.cfgN, State.setCfgN, State.cfg_setCfg_self, leNat_natLe]

theorem State.group_setCfgN (s : State) (f i m w v k : Nat) : (s.setCfgN f i m w v).group k = s.group k := rfl

theorem State.periodIn_changes (s : State) (g v b : Nat) :
    let u := s.periodIn g v b
    u.cfgN 0x22 (0x2000 + g) 0x04 = v % 65536 ∧ u.cfgN 0x22 (0x2000 + g) 0x05 = b % 18446744073709551616 ∧
      u.group g = { s.group g with pend := none, periodAt := b } ∧ (∀ k, k ≠ g → u.group k = s.group k) ∧
      u = { s with str := u.str, alm := u.alm } := by
  have h04 : (s.periodIn g v b).cfgN 0x22 (0x2000 + g) 0x04 =
      ((s.setCfgN 0x22 (0x2000 + g) 0x04 2 v).setCfgN 0x22 (0x2000 + g) 0x05 8 b).cfgN 0x22 (0x2000 + g) 0x04 := rfl
  have h05 : (s.periodIn g v b).cfgN 0x22 (0x2000 + g) 0x05 =
      ((s.setCfgN 0x22 (0x2000 + g) 0x04 2 v).setCfgN 0x22 (0x2000 + g) 0x05 8 b).cfgN 0x22 (0x2000 + g) 0x05 := rfl
  refine ⟨?_, ?_, ?_, fun k hk => ?_, rfl⟩
  · rw [h04, State.setCfgN_cfgN_of_ne _ _ _ (by simp only [entryKey]; omega), State.cfgN_setCfgN_self]
    rfl
  · rw [h05, State.cfgN_setCfgN_self]
    rfl
  · rw [State.periodIn, State.group_modGroup, if_pos rfl]
  · rw [State.periodIn, State.group_modGroup, if_neg hk, State.group_setCfgN, State.group_setCfgN]

/-! ## Grants of slots (R331) -/

theorem State.sweepPeers_leaves (s : State) : s.sweepPeers.str.slots = s.str.slots ∧
    s.sweepPeers.str.beds = s.str.beds := by
  unfold State.sweepPeers
  rw [foldl_keeps (fun u : State => u.str.slots), foldl_keeps (fun u : State => u.str.beds)]
  · exact ⟨rfl, rfl⟩
  · intro u e _
    dsimp only
    split <;> rfl
  · intro u e _
    dsimp only
    split <;> rfl

theorem State.judgeAll_leaves (s : State) : s.judgeAll.str.slots = s.str.slots ∧ s.judgeAll.str.beds = s.str.beds := by
  unfold State.judgeAll
  rw [foldl_keeps (fun u : State => u.str.slots), foldl_keeps (fun u : State => u.str.beds)]
  · exact ⟨rfl, rfl⟩
  · exact fun u e _ => (u.judge_slots e.1).2.1
  · exact fun u e _ => (u.judge_slots e.1).1

/-- A slot given to an allotment. -/
def State.grantOne (s : State) (who n : Nat) : State := s.giveOwner 0x21 n 0x01 .encode n who

theorem State.grantOne_slots (s : State) (who n : Nat) :
    (∀ k, (s.grantOne who n).slot k = if k = n then { s.slot k with owner := who } else s.slot k) ∧
      (s.grantOne who n).str.beds = s.str.beds := by
  have howner : s.ownerOf .encode n = some (s.slot n).owner := rfl
  unfold State.grantOne State.giveOwner
  rw [howner]
  split
  · next h =>
    refine ⟨fun k => ?_, rfl⟩
    split
    · next hk => rw [hk, ← Option.some.inj h]
    · rfl
  · dsimp only
    obtain ⟨hj1, hj2⟩ := State.judgeAll_leaves
      ((((s.modSlot n (fun x => { x with owner := who })).clearPeers (instancesOf .encode n)).reowned s).sweepPeers)
    obtain ⟨hs1, hs2⟩ := State.sweepPeers_leaves
      (((s.modSlot n (fun x => { x with owner := who })).clearPeers (instancesOf .encode n)).reowned s)
    have hstr : (((s.modSlot n (fun x => { x with owner := who })).clearPeers (instancesOf .encode n)).reowned s).str =
        (s.modSlot n (fun x => { x with owner := who })).str := by
      simp only [State.reowned_kept .., State.clearPeers_kept ..]
    refine ⟨fun k => ?_, by rw [hj2, hs2, hstr]; rfl⟩
    rw [State.slot_of_slots hj1, State.slot_of_slots hs1, State.slot_of_str hstr, State.slot_modSlot]
    split
    · next hk => rw [hk]
    · rfl

theorem State.grantAll_slots (who : Nat) (l : List Nat) (s : State) :
    (∀ k, (l.foldl (State.grantOne · who ·) s).slot k = if k ∈ l then { s.slot k with owner := who } else s.slot k) ∧
      (l.foldl (State.grantOne · who ·) s).str.beds = s.str.beds := by
  induction l generalizing s with
  | nil => simp
  | cons n r ih =>
    obtain ⟨hslots, hbeds⟩ := s.grantOne_slots who n
    obtain ⟨h1, h2⟩ := ih (s.grantOne who n)
    refine ⟨fun k => ?_, h2.trans hbeds⟩
    rw [List.foldl_cons, h1, hslots]
    by_cases hk : k = n <;> by_cases hr : k ∈ r <;> simp [hk, hr]

theorem exec_slotGrant {a c : Nat} (t first count : Nat) (s : State) (ha : a < 16) (hc : c < 16) :
    exec (.slotGrant t a c first count) s =
      .next ((s.at t).orderWrite a 0x04 c 0x07 (natLe 2 first ++ natLe 2 count)) :=
  (if_pos (decide_eq_true ha)).trans (by simp [named, isAllot, hc])

/-- The record of a grant of slots, as its entry takes it. -/
theorem State.writeSlotGrant_eq (s : State) (a who : Nat) {first count : Nat} (hf : first < 65536) (hc : count < 65536) :
    s.writeSlotGrant a who (natLe 2 first ++ natLe 2 count) =
      if 8192 < first + Nat.max 1 count then s.no 4
      else if ((List.range (Nat.max 1 count)).map (fun k => first + k)).any (fun n => decide ((s.slot n).st ≠ 0)) then s.no 3
      else (((List.range (Nat.max 1 count)).map (fun k => first + k)).foldl (State.grantOne · who ·)
        (s.clampIf a (decide (count = 0)))).ok := by
  have h1 : fieldAt (natLe 2 first ++ natLe 2 count) 0 2 = first := by
    rw [fieldAt_natLe, Nat.mod_eq_of_lt (by omega)]
  have h2 : fieldAt (natLe 2 first ++ natLe 2 count) 2 2 = count := by
    rw [fieldAt_skip 2 first _ (by decide), fieldAt_natLe_last, Nat.mod_eq_of_lt (by omega)]
  have hlen : (natLe 2 first ++ natLe 2 count).length = 4 := by simp [natLe_length]
  unfold State.writeSlotGrant
  dsimp only
  rw [h1, h2, hlen]
  simp only [ne_eq, not_true_eq_false, false_or]
  rfl

theorem mem_granted {first n k : Nat} :
    k ∈ (List.range n).map (fun j => first + j) ↔ first ≤ k ∧ k < first + n := by
  simp only [List.mem_map, List.mem_range]
  constructor
  · rintro ⟨j, hj, rfl⟩
    omega
  · rintro ⟨h1, h2⟩
    exact ⟨k - first, by omega, by omega⟩

theorem State.now_grantAll (who : Nat) (l : List Nat) (s : State) : (l.foldl (State.grantOne · who ·) s).now = s.now := by
  rw [foldl_keeps State.now]
  exact fun u n _ => by simp only [State.grantOne, State.giveOwner_kept ..]

theorem State.clampIf_str (s : State) (a : Nat) (b : Bool) : (s.clampIf a b).str = s.str ∧ (s.clampIf a b).now = s.now := by
  cases b
  · exact ⟨rfl, rfl⟩
  · simp only [State.clampIf, if_true, State.clamp_kept .., and_self]

/-! ## The obligation -/

/-- Settles O26: a stream starts with its ladder, a group's period at its boundary, and free slots get their owner. -/
theorem streamTimes : Obligations.StreamTimes := by
  unfold Obligations.StreamTimes
  intro s t
  refine ⟨fun n hn => ⟨fun h => ?waits, fun h2 hstart hr hb => ?starts⟩, fun g hg => ⟨fun h => ?noPeriod,
    fun v b h => ⟨fun ht => ?before, fun ht => ?period⟩⟩, fun a c first count ha hc hf hcount htake hw => ?grant⟩
  case waits => exact (exec_streamAdmitted t s hn).trans (congrArg _ (State.streamAdmitted_waits (s := s.at t) h))
  case starts =>
    obtain ⟨h1, h2', h3, h4, h5⟩ := (s.at t).startAll_starts ((s.at t).ladder n)
    refine ⟨_, (exec_streamAdmitted t s hn).trans
      (congrArg _ (State.streamAdmitted_starts (s := s.at t) h2 hstart hr hb)), h1, fun m hm => ?_, h4, h2', h5⟩
    rw [h3 m]
    by_cases hp : (s.twin m).partner = []
    · rw [if_pos hp, if_neg (fun h => h.2 hp)]
      rfl
    · rw [if_neg hp, if_pos ⟨hm, hp⟩]
  case noPeriod => exact (exec_periodChange t s hg).trans (congrArg _ (State.periodChange_none (s := s.at t) h))
  case before =>
    exact (exec_periodChange t s hg).trans
      (congrArg _ ((State.periodChange_some (s := s.at t) h).trans (if_pos ht)))
  case period =>
    exact ⟨_, (exec_periodChange t s hg).trans
      (congrArg _ ((State.periodChange_some (s := s.at t) h).trans (if_neg (Nat.not_lt.2 ht)))),
      (s.at t).periodIn_changes g v b⟩
  case grant =>
    intro n
    have hrow : entryRow .allot c 0x07 = some { m0 := 0x07, m1 := 0x07, ty := .blob, acc := 2 } := rfl
    have hentry := (s.at t).writeSlotGrant_eq a c hf hcount
    have hrefused : ∀ st, st ≠ 0 → (s.at t).writeSlotGrant a c (natLe 2 first ++ natLe 2 count) = (s.at t).no st →
        exec (.slotGrant t a c first count) s = .next ((s.at t).say st [] 0) := fun st hst h =>
      (exec_slotGrant t first count s ha hc).trans (congrArg _
        (row_blob_refused (s := s) (t := t) htake (spaceOf_allot hc) hrow (.inr hw) (by simp) (by simp) rfl rfl hst h))
    have hany : ((List.range n).map (fun k => first + k)).any (fun k => decide (((s.at t).slot k).st ≠ 0)) = true ↔
        ∃ k, first ≤ k ∧ k < first + n ∧ (s.slot k).st ≠ 0 := by
      rw [List.any_eq_true]
      constructor
      · rintro ⟨k, hk, h⟩
        exact ⟨k, (mem_granted.1 hk).1, (mem_granted.1 hk).2, of_decide_eq_true h⟩
      · rintro ⟨k, h1, h2, h3⟩
        exact ⟨k, mem_granted.2 ⟨h1, h2⟩, decide_eq_true h3⟩
    refine ⟨fun h => hrefused 4 (by decide) (hentry.trans (if_pos h)), fun h hused => hrefused 3 (by decide)
      (hentry.trans ((if_neg (Nat.not_lt.2 h)).trans (if_pos (hany.2 hused)))), fun h hfree => ?_⟩
    have hnone : ¬ ((List.range n).map (fun k => first + k)).any (fun k => decide (((s.at t).slot k).st ≠ 0)) = true := by
      rw [hany]
      rintro ⟨k, h1, h2, h3⟩
      exact h3 (hfree k h1 h2)
    obtain ⟨hstr, hnow⟩ := (s.at t).clampIf_str a (decide (count = 0))
    obtain ⟨hslots, hbeds⟩ := State.grantAll_slots c ((List.range n).map (fun k => first + k))
      ((s.at t).clampIf a (decide (count = 0)))
    have hnow' := (State.now_grantAll c ((List.range n).map (fun k => first + k))
      ((s.at t).clampIf a (decide (count = 0)))).trans hnow
    have hacc : accepted (((List.range n).map (fun k => first + k)).foldl (State.grantOne · c ·)
        ((s.at t).clampIf a (decide (count = 0)))) ((s.at t).orderWrite a 0x04 c 0x07 (natLe 2 first ++ natLe 2 count)) t := by
      refine row_blob (s := s) (t := t) htake (spaceOf_allot hc) hrow (.inr hw) (by simp) (by simp) rfl rfl ?_
      refine Eq.trans (b := (s.at t).writeSlotGrant a c (natLe 2 first ++ natLe 2 count)) rfl ?_
      refine (hentry.trans ((if_neg (Nat.not_lt.2 h)).trans (if_neg hnone))).trans ?_
      rw [State.ok]
      exact congrArg (fun x => (0, x, _)) hnow'
    have hv : ((s.at t).orderWrite a 0x04 c 0x07 (natLe 2 first ++ natLe 2 count)).str = _ :=
      (accepted_kept hacc).2.2.2.2.2.2.2.2.2.1
    refine ⟨_, exec_slotGrant t first count s ha hc, accepted_answer hacc, fun k => ?_, by rw [hv, hbeds, hstr]; rfl⟩
    rw [State.slot_of_str hv, hslots, State.slot_of_str hstr]
    simp only [mem_granted]
    rfl

end Sys2Proof.Machine
end

section
/-! PROOFS. KEY, its grace second and changes of address (R304, R312, R331). -/

namespace Sys2Proof.Machine

/-! ## KEY -/

theorem exec_key {a c : Nat} (t : Nat) (val : List Byte) (s : State) (ha : a < 16) (hc : c < 16) :
    exec (.key t a c val) s = .next ((s.at t).orderWrite a 0x04 c 0x01 val) :=
  (if_pos (decide_eq_true ha)).trans (by simp [named, isAllot, hc])

/-- The row of KEY. -/
def keyRow : Row := { m0 := 0x01, m1 := 0x01, ty := .blob, acc := 10 }

section
variable {s : State} {t a c : Nat} {val : List Byte} (ha : a < 16) (hc : c < 16) (h : takesAtOnce s t a)
  (hw : mayWrite s a 0x04 c 0x01)
include ha hc h hw

theorem key_refused {st : Nat} (hst : st ≠ 0) (hout : (s.at t).writeKey a c val = (s.at t).no st) :
    exec (.key t a c val) s = .next ((s.at t).say st [] 0) :=
  (exec_key t val s ha hc).trans (congrArg _ (row_blob_refused (s := s) (t := t) (r := keyRow) h (spaceOf_allot hc) rfl
    (.inr hw) (by simp) (by simp) rfl rfl hst hout))

theorem key_accepted {u : State} (hnow : u.now = t) (hout : (s.at t).writeKey a c val = u.ok) :
    ∃ v, exec (.key t a c val) s = .next v ∧ accepted u v t := by
  refine ⟨_, exec_key t val s ha hc, row_blob (s := s) (t := t) (r := keyRow) h (spaceOf_allot hc) rfl (.inr hw) (by simp)
    (by simp) rfl rfl ?_⟩
  refine Eq.trans (b := (s.at t).writeKey a c val) rfl ?_
  rw [hout, State.ok, hnow]

end

theorem State.writeKey_short (s : State) (a c : Nat) {val : List Byte} (h : val.length ≠ 32) : s.writeKey a c val = s.no 4 :=
  if_pos h

/-- The key of an allotment that is not the keeper changes at once. -/
theorem State.writeKey_own (s : State) (a : Nat) {c : Nat} {val : List Byte} (h : val.length = 32) (hc : c ≠ 0) :
    s.writeKey a c val = (s.setKey c val).ok := by
  have hcr : creditOf 0x04 c 0x01 = none := by simp [creditOf, hc]
  unfold State.writeKey State.spend
  rw [if_neg (not_not.2 h), hcr]

/-- The keeper's key, once a credit is spent (R304). -/
def State.keyCredit (s : State) (a : Nat) (val : List Byte) : State :=
  { s with alm := { s.alm with
      credits := s.alm.credits.set 2 (s.alm.credits.getD 2 0 - 1),
      changeLog := s.alm.changeLog ++ [changeRecord 0x04 0 0x01 a (creditsMade 2 - s.alm.credits.getD 2 0 + 1) s.now val] } }

theorem State.writeKey_keeper (s : State) (a : Nat) {val : List Byte} (h : val.length = 32) :
    s.writeKey a 0 val = if ((s.allot 0).key).getD [] = val then s.ok
      else if s.alm.credits.getD 2 0 = 0 then s.no 7 else ((s.keyCredit a val).setKey 0 val).ok := by
  unfold State.writeKey
  rw [if_neg (not_not.2 h)]
  rfl

theorem State.setKey_allot (s : State) (c : Nat) (val : List Byte) :
    (s.setKey c val).allot c =
        { s.allot c with oldKey := (s.allot c).key, key := some val, keyGrace := s.now + 1000000000 } ∧
      (∀ k, k ≠ c → (s.setKey c val).allot k = s.allot k) ∧
      s.setKey c val = { s with allots := (s.setKey c val).allots } := by
  refine ⟨?_, fun k hk => ?_, rfl⟩
  · rw [State.setKey, State.allot_modAllot, if_pos rfl]
  · rw [State.setKey, State.allot_modAllot, if_neg hk]

/-- An accepted change that touches the allotments alone. -/
theorem accepted_allot {u v : State} {e : Nat} (h : accepted u v e) (k : Nat) : v.allot k = u.allot k := by
  simp only [State.allot, accepted_kept h]

/-! ## The grace second and changes of address -/

theorem exec_keyGraceEnd {c : Nat} (t : Nat) (s : State) (hc : c < 16) :
    exec (.keyGraceEnd t c) s = .next ((s.at t).keyGraceEnds c) := if_pos (decide_eq_true hc)

theorem exec_addressChangeEffect (t mem : Nat) (s : State) :
    exec (.addressChangeEffect t mem) s = .next ((s.at t).addressDue mem) := rfl

theorem State.addressDue_none {s : State} {mem : Nat}
    (h : s.alm.addrPend.find? (fun e => decide (e.1 = mem) && decide (e.2.1 ≤ s.now)) = none) : s.addressDue mem = s := by
  unfold State.addressDue
  rw [h]

theorem State.addressDue_some {s : State} {mem : Nat} {e : Nat × Nat × List Byte}
    (h : s.alm.addrPend.find? (fun e => decide (e.1 = mem) && decide (e.2.1 ≤ s.now)) = some e) :
    s.addressDue mem = ({ s with alm := { s.alm with
      addrPend := s.alm.addrPend.filter (fun e => !decide (e.1 = mem)) } }).setCfg 0x01 0 mem e.2.2 := by
  unfold State.addressDue
  rw [h]

/-- Settles O35: KEY over its length and the keeper's credits, its grace second, and an address whose second has passed. -/
theorem keysAndAddresses : Obligations.KeysAndAddresses := by
  unfold Obligations.KeysAndAddresses
  intro s t
  refine ⟨fun a c val ha hc h hw hl => ?short, fun a c val ha hc h hw hl => ⟨fun hne => ?own, fun h0 hsame => ?same,
    fun h0 hdiff => ⟨fun hnone => ?spent, fun hleft => ?keeper⟩⟩, fun c hc => ⟨fun hend => ?ends, fun hwait => ?waits⟩,
    fun mem => ⟨fun hnone => ?noChange, fun e he => ?changes⟩⟩
  case short => exact key_refused ha hc h hw (by decide) ((s.at t).writeKey_short a c hl)
  case own =>
    obtain ⟨hself, hother, hframe⟩ := (s.at t).setKey_allot c val
    obtain ⟨u, hexec, hu⟩ := key_accepted ha hc h hw (u := (s.at t).setKey c val) rfl ((s.at t).writeKey_own a hl hne)
    refine ⟨u, hexec, by rw [accepted_allot hu, hself]; rfl, fun k hk => by rw [accepted_allot hu, hother k hk]; rfl, ?_⟩
    have hallots : u.allots = ((s.at t).setKey c val).allots := by simp only [accepted_kept hu]
    rw [hallots, ← hframe]
    exact hu
  case same =>
    subst h0
    exact key_accepted ha hc h hw (u := s.at t) rfl (((s.at t).writeKey_keeper a hl).trans (if_pos hsame))
  case spent =>
    subst h0
    exact key_refused ha hc h hw (by decide)
      (((s.at t).writeKey_keeper a hl).trans ((if_neg hdiff).trans (if_pos hnone)))
  case keeper =>
    subst h0
    obtain ⟨hself, -, -⟩ := ((s.at t).keyCredit a val).setKey_allot 0 val
    obtain ⟨u, hexec, hu⟩ := key_accepted ha hc h hw (u := ((s.at t).keyCredit a val).setKey 0 val) rfl
      (((s.at t).writeKey_keeper a hl).trans ((if_neg hdiff).trans (if_neg (Nat.pos_iff_ne_zero.1 hleft))))
    have halm : u.alm.credits = (((s.at t).keyCredit a val).setKey 0 val).alm.credits ∧
        u.alm.changeLog = (((s.at t).keyCredit a val).setKey 0 val).alm.changeLog := by
      rw [hu]
      exact ⟨rfl, rfl⟩
    refine ⟨u, hexec, by rw [accepted_allot hu, hself]; rfl, halm.1, ?_, accepted_answer hu⟩
    rw [halm.2]
    exact List.length_append
  case ends =>
    refine ⟨_, (exec_keyGraceEnd t s hc).trans (congrArg _ (if_pos hend)), ?_, fun k hk => ?_, rfl⟩
    · rw [State.allot_modAllot, if_pos rfl]
      rfl
    · rw [State.allot_modAllot, if_neg hk]
      rfl
  case waits => exact (exec_keyGraceEnd t s hc).trans (congrArg _ (if_neg (Nat.not_le.2 hwait)))
  case noChange => exact (exec_addressChangeEffect t mem s).trans (congrArg _ (State.addressDue_none (s := s.at t) hnone))
  case changes =>
    refine ⟨_, (exec_addressChangeEffect t mem s).trans (congrArg _ (State.addressDue_some (s := s.at t) he)),
      State.cfg_setCfg_self .., rfl, fun k hk => ?_, rfl⟩
    exact State.cfg_setCfg_of_ne _ _ (by simp only [entryKey]; omega)

end Sys2Proof.Machine
end

section
/-! PROOFS. Register writes and bit aliases of a window (R315, R318, R320, R321, R486, R499). -/

namespace Sys2Proof.Machine

theorem exec_registerWrite {a : Nat} (t off : Nat) (b : List Byte) (s : State) (ha : a < 16) :
    exec (.registerWrite t a off b) s = .next ((s.at t).writeWindow a off b) := if_pos (decide_eq_true ha)
theorem exec_bitAliasWrite {a : Nat} (t off : Nat) (d : BitVec 32) (s : State) (ha : a < 16) :
    exec (.bitAliasWrite t a off d) s = .next ((s.at t).writeBit a off (d.getLsbD 0)) := if_pos (decide_eq_true ha)

/-! ## Writes that go nowhere -/

theorem State.at_at (s : State) (t u : Nat) : (s.at t).at u = s.at u := rfl

theorem State.writeBlock_noWindow {s : State} {a : Nat} (h : s.windowOf a = false) (off : Nat) (p : Piece) :
    s.writeBlock a off p = s := if_pos (by rw [h]; rfl)

theorem State.writeBit_noWindow {s : State} {a : Nat} (h : s.windowOf a = false) (off : Nat) (v : Bool) :
    s.writeBit a off v = s := by
  unfold State.writeBit
  dsimp only
  split
  · rfl
  · exact State.writeBlock_noWindow h _ _

theorem State.writePiece_noWindow {s : State} {a : Nat} (h : s.windowOf a = false) (off cov data : Nat) :
    s.writePiece a off cov data = s := by
  unfold State.writePiece
  split
  · dsimp only
    rw [State.writeBit_noWindow h, ite_self, State.writeBit_noWindow h, ite_self]
  · exact State.writeBlock_noWindow h _ _

/-- Offsets beyond the register pages. -/
theorem State.writeBlock_beyond (s : State) (a : Nat) {off : Nat} (h : 0xC09000 ≤ off) (p : Piece) :
    s.writeBlock a off p = s := by
  unfold State.writeBlock
  by_cases hw : (!s.windowOf a) = true
  · rw [if_pos hw]
  · rw [if_neg hw, if_neg (by omega)]
    by_cases hl : (!s.alm.live) = true
    · rw [if_pos hl]
    · rw [if_neg hl, if_neg (by omega), if_neg (by omega), if_neg (by omega), if_neg (by omega), if_neg (by omega),
        if_neg (by omega), if_neg (by omega), if_neg (by omega), if_neg (by omega)]

theorem State.writePiece_beyond (s : State) (a : Nat) {off : Nat} (h : 0xC09000 ≤ off) (cov data : Nat) :
    s.writePiece a off cov data = s := by
  unfold State.writePiece
  rw [if_neg (by omega)]
  exact s.writeBlock_beyond a h _

/-- A fold whose steps only set the time. -/
theorem foldl_times {α : Type} {f : State → α → State} (s : State) (h : ∀ t x, ∃ u, f (s.at t) x = s.at u) (l : List α)
    (t : Nat) : ∃ u, l.foldl f (s.at t) = s.at u := by
  induction l generalizing t with
  | nil => exact ⟨t, rfl⟩
  | cons x r ih =>
    obtain ⟨u, hu⟩ := h t x
    rw [List.foldl_cons, hu]
    exact ih u

/-- A write none of whose pieces goes anywhere. -/
theorem State.writeWindow_idle {s : State} {a off : Nat} {b : List Byte}
    (h : ∀ u k cov data, (s.at u).writePiece a (8 * (off / 8 + k)) cov data = s.at u) : s.writeWindow a off b = s := by
  unfold State.writeWindow
  split
  · rfl
  · dsimp only
    obtain ⟨u, hu⟩ := foldl_times s (f := fun (x : State) k =>
      (x.at (s.now + 2 * k)).writePiece a (8 * (off / 8 + k))
        (((List.range 8).filter (fun i => decide (off ≤ 8 * (off / 8 + k) + i) &&
          decide (8 * (off / 8 + k) + i < off + b.length))).foldl (fun m i => m + 255 * 256 ^ i) 0)
        (((List.range 8).filter (fun i => decide (off ≤ 8 * (off / 8 + k) + i) &&
          decide (8 * (off / 8 + k) + i < off + b.length))).foldl
            (fun m i => m + (b.getD (8 * (off / 8 + k) + i - off) 0).toNat * 256 ^ i) 0))
      (fun u k => ⟨s.now + 2 * k, h _ k _ _⟩) (List.range ((off + b.length - 1) / 8 - off / 8 + 1)) s.now
    have hat : s.at s.now = s := rfl
    rw [hat] at hu
    rw [hu]
    rfl

/-! ## Aligned writes -/

/-- Bytes that a write of `n` bytes at an aligned offset covers. -/
def coveredBytes (n : Nat) : List Nat := (List.range 8).filter (fun i => decide (i < n))

/-- A write of at most eight bytes at an aligned offset is one piece. -/
theorem State.writeWindow_aligned (s : State) (a k : Nat) {b : List Byte} (h0 : b ≠ []) (h8 : b.length ≤ 8) :
    s.writeWindow a (8 * k) b =
      (s.writePiece a (8 * k) ((coveredBytes b.length).foldl (fun m i => m + 255 * 256 ^ i) 0)
        ((coveredBytes b.length).foldl (fun m i => m + (b.getD i 0).toNat * 256 ^ i) 0)).at s.now := by
  have hpos : 0 < b.length := List.length_pos_iff.2 h0
  have hfirst : 8 * k / 8 = k := by omega
  have hn : (8 * k + b.length - 1) / 8 - 8 * k / 8 + 1 = 1 := by omega
  have hin : ∀ i, (decide (8 * k ≤ 8 * (k + 0) + i) && decide (8 * (k + 0) + i < 8 * k + b.length)) = decide (i < b.length) :=
    fun i => by
      have h1 : 8 * k ≤ 8 * (k + 0) + i := by omega
      have h2 : 8 * (k + 0) + i < 8 * k + b.length ↔ i < b.length := by omega
      rw [decide_eq_true h1, Bool.true_and]
      exact decide_eq_decide.2 h2
  have hget : ∀ i, 8 * (k + 0) + i - 8 * k = i := fun i => by omega
  unfold State.writeWindow
  rw [if_neg (by simpa using h0)]
  dsimp only
  rw [hn, hfirst]
  simp only [List.range_one, List.foldl_cons, List.foldl_nil, hin, hget]
  rfl

theorem covered_eight : (coveredBytes 8).foldl (fun m i => m + 255 * 256 ^ i) 0 = 18446744073709551615 := by decide
theorem covered_two : (coveredBytes 2).foldl (fun m i => m + 255 * 256 ^ i) 0 = 65535 := by decide

theorem foldl_bytes (b : List Byte) (c m : Nat) :
    (List.range b.length).foldl (fun m i => m + (b.getD i 0).toNat * (c * 256 ^ i)) m = m + c * leNat b := by
  induction b generalizing c m with
  | nil => rfl
  | cons x r ih =>
    have hstep : ∀ i, ((x :: r).getD (i + 1) 0).toNat * (c * 256 ^ (i + 1)) = (r.getD i 0).toNat * (256 * c * 256 ^ i) :=
      fun i => by rw [List.getD_cons_succ, pow_succ]; ring
    rw [List.length_cons, List.range_succ_eq_map, List.foldl_cons, List.foldl_map]
    simp only [Nat.succ_eq_add_one, hstep]
    rw [ih, List.getD_cons_zero, leNat]
    ring

theorem covered_bytes {b : List Byte} (h : b.length = 8) :
    (coveredBytes 8).foldl (fun m i => m + (b.getD i 0).toNat * 256 ^ i) 0 = leNat b := by
  have hc : coveredBytes 8 = List.range b.length := by rw [h]; decide
  have hfold := foldl_bytes b 1 0
  simp only [one_mul, zero_add] at hfold
  rw [hc, hfold]

theorem State.writeWindow_eight (s : State) (a k : Nat) {b : List Byte} (h : b.length = 8) :
    s.writeWindow a (8 * k) b = (s.writePiece a (8 * k) 18446744073709551615 (leNat b)).at s.now := by
  rw [State.writeWindow_aligned s a k (fun h0 => by rw [h0] at h; cases h) (by omega), h, covered_eight, covered_bytes h]

theorem State.writeWindow_two (s : State) (a k : Nat) (x y : Byte) :
    s.writeWindow a (8 * k) [x, y] = (s.writePiece a (8 * k) 65535 (x.toNat + 256 * y.toNat)).at s.now := by
  have hc : coveredBytes 2 = [0, 1] := by decide
  have hdata : (coveredBytes [x, y].length).foldl (fun m i => m + ([x, y].getD i 0).toNat * 256 ^ i) 0 =
      x.toNat + 256 * y.toNat := by
    simp only [List.length_cons, List.length_nil, zero_add, Nat.reduceAdd, hc, List.foldl_cons, List.foldl_nil,
      List.getD_cons_zero, List.getD_cons_succ, pow_zero, mul_one, pow_one]
    ring
  rw [State.writeWindow_aligned s a k (by simp) (by simp), hdata]
  exact congrArg (fun c => (s.writePiece a (8 * k) c (x.toNat + 256 * y.toNat)).at s.now) covered_two

/-- Outside the alias region a piece is a block with its covered bits replaced. -/
theorem State.writePiece_block (s : State) (a : Nat) {off : Nat} (h : off < 0x200000 ∨ 0x400000 ≤ off) (cov data : Nat) :
    s.writePiece a off cov data = s.writeBlock a off (s.pieceOf a off cov data) := if_neg (by omega)

/-- The low bits of a block of which they alone are written. -/
theorem State.pieceOf_low (s : State) (a off n : Nat) {data : Nat} (h : data < 2 ^ n) :
    (s.pieceOf a off (2 ^ n - 1) data).new % 2 ^ n = data := by
  unfold State.pieceOf
  dsimp only
  rw [Nat.and_two_pow_sub_one_eq_mod, Nat.and_two_pow_sub_one_eq_mod, Nat.mod_eq_of_lt h]
  have hold : s.regBlock a off - s.regBlock a off % 2 ^ n = 2 ^ n * (s.regBlock a off / 2 ^ n) := by
    have := Nat.div_add_mod (s.regBlock a off) (2 ^ n)
    omega
  rw [hold, Nat.mul_add_mod, Nat.mod_eq_of_lt h]

/-! ## Where a block goes (R315) -/

theorem State.writeBlock_mailbox {s : State} {a off : Nat} (hw : s.windowOf a = true) (h : 0x8000 ≤ off ∧ off < 0x10000)
    (p : Piece) : s.writeBlock a off p = s.writeControl a off p := by
  unfold State.writeBlock
  rw [if_neg (by rw [hw]; decide), if_pos h]

theorem State.writeBlock_notLive {s : State} {a off : Nat} (hw : s.windowOf a = true) (hl : s.alm.live = false)
    (h : off < 0x8000 ∨ 0x10000 ≤ off) (p : Piece) : s.writeBlock a off p = s := by
  unfold State.writeBlock
  rw [if_neg (by rw [hw]; decide), if_neg (by omega), if_pos (by rw [hl]; decide)]

/-- Where a block of a window goes that serves its registers. -/
theorem State.writeBlock_served {s : State} {a off : Nat} (hs : s.serves a = true) (h : off < 0x8000 ∨ 0x10000 ≤ off)
    (p : Piece) : s.writeBlock a off p =
      if off < 0x8000 then s.writeControl a off p
      else if 0x100000 ≤ off ∧ off < 0x101000 then s.writeDma a (64 * a + (off - 0x100000) / 64) (off % 64) p
      else if 0x110000 ≤ off ∧ off < 0x114000 then s.writeIrq a (off - 0x110000) p
      else if 0x120000 ≤ off ∧ off < 0x128000 then
        if p.strikes 32 || p.strikes 33 then
          s.latchCommand a ((off - 0x120000) / 8) (p.strikes 32) (p.strikes 33) (BitVec.ofNat 16 (p.get 48 16))
        else s
      else if 0x140000 ≤ off ∧ off < 0x140400 then
        if off % 64 = 0 then s.writeRing a ((off - 0x140000) / 64) p else s
      else if 0x400000 ≤ off ∧ off < 0x400000 + 64 * 288 then
        if off % 64 = 8 then s.writeBed a ((off - 0x400000) / 64) p else s
      else if off = 0x800000 then
        if p.has 0 10 then s.modAllot a (fun x => { x with queuePage := p.get 0 10 }) else s
      else if 0xBE0000 ≤ off ∧ off < 0xBE2000 then s.writeCells a ((off - 0xBE0000) / 0x1000) (off % 0x1000) p
      else if 0xC00000 ≤ off ∧ off < 0xC09000 then s.writeFaults a (off - 0xC00000) p
      else s := by
  obtain ⟨hw, hl⟩ := Bool.and_eq_true_iff.1 hs
  unfold State.writeBlock
  rw [if_neg (by rw [hw]; decide), if_neg (by omega), if_neg (by rw [hl]; decide)]

/-- A field that an allotment's window alone changes. -/
theorem State.modAllot_alone (s : State) (a : Nat) (f : Allot → Allot) : (s.modAllot a f).allot a = f (s.allot a) ∧
    (∀ c, c ≠ a → (s.modAllot a f).allot c = s.allot c) ∧ s.modAllot a f = { s with allots := (s.modAllot a f).allots } :=
  ⟨by rw [State.allot_modAllot, if_pos rfl], fun c hc => by rw [State.allot_modAllot, if_neg hc], rfl⟩

/-- A write of QUEUE_PAGE (R320). -/
theorem State.writeQueuePage {s : State} {a : Nat} (hs : s.serves a = true) {d : Nat} (hd : d < 65536) :
    s.writePiece a 0x800000 65535 d = s.modAllot a (fun x => { x with queuePage := d % 1024 }) := by
  rw [State.writePiece_block _ _ (.inr (by decide)), State.writeBlock_served hs (.inr (by decide))]
  have hlow : (s.pieceOf a 0x800000 65535 d).new % 65536 = d := s.pieceOf_low a 0x800000 16 hd
  have hget : (s.pieceOf a 0x800000 65535 d).get 0 10 = d % 1024 := by
    simp only [Piece.get, cut]
    omega
  have hhas : (s.pieceOf a 0x800000 65535 d).has 0 10 = true := by
    simp [Piece.has, State.pieceOf, cut]
  rw [if_neg (by decide), if_neg (by decide), if_neg (by decide), if_neg (by decide), if_neg (by decide),
    if_neg (by decide), if_pos rfl, hhas, hget]
  rfl

/-- A write of SOURCE (R336). -/
theorem State.writeSourceField {s : State} {a : Nat} (hs : s.serves a = true) {d : Nat} (hd : d < 65536) :
    s.writePiece a 0x110000 65535 d = s.modAllot a (fun x => { x with source := d }) := by
  rw [State.writePiece_block _ _ (.inl (by decide)), State.writeBlock_served hs (.inr (by decide))]
  have hlow : (s.pieceOf a 0x110000 65535 d).new % 65536 = d := s.pieceOf_low a 0x110000 16 hd
  have hget : (s.pieceOf a 0x110000 65535 d).get 0 16 = d := by
    simp only [Piece.get, cut]
    omega
  have hhas : (s.pieceOf a 0x110000 65535 d).has 0 16 = true := by
    simp [Piece.has, State.pieceOf, cut]
  have hprio : (s.pieceOf a 0x110000 65535 d).has 32 4 = false := by
    simp [Piece.has, State.pieceOf, cut]
  rw [if_neg (by decide), if_neg (by decide), if_pos (by decide)]
  unfold State.writeIrq
  dsimp only
  rw [if_pos (by decide), hprio, hhas, hget, Bool.and_false]
  rfl

/-! ## Bit aliases (R321) -/

theorem State.writeBit_alias (s : State) (a : Nat) {off : Nat} (v : Bool) (h1 : 0x200000 ≤ off) (h2 : off < 0x400000)
    (h3 : (off - 0x200000) / 128 * 4 ≠ 0x800) :
    s.writeBit a off v = s.writeBlock a ((off - 0x200000) / 128 * 4 / 8 * 8)
      (s.pieceOf a ((off - 0x200000) / 128 * 4 / 8 * 8)
        (2 ^ ((off - 0x200000) / 4 % 32 + 8 * ((off - 0x200000) / 128 * 4 % 8)))
        (if v then 2 ^ ((off - 0x200000) / 4 % 32 + 8 * ((off - 0x200000) / 128 * 4 % 8)) else 0)) := by
  have hdiv : (off - 0x200000) / 4 / 32 = (off - 0x200000) / 128 := Nat.div_div_eq_div_mul ..
  unfold State.writeBit
  dsimp only
  rw [hdiv, if_neg (by omega)]

theorem State.writeBit_none (s : State) (a : Nat) {off : Nat} (v : Bool)
    (h : off < 0x200000 ∨ 0x400000 ≤ off ∨ (off - 0x200000) / 128 * 4 = 0x800) : s.writeBit a off v = s := by
  have hdiv : (off - 0x200000) / 4 / 32 = (off - 0x200000) / 128 := Nat.div_div_eq_div_mul ..
  unfold State.writeBit
  dsimp only
  rw [hdiv, if_pos h]

/-- The alias of QE_DIE (R321). -/
theorem State.writeBit_qeDie {s : State} {a : Nat} (hs : s.serves a = true) (v : Bool) :
    s.writeBit a (0x200000 + 4 * (8 * 0x18)) v = s.modAllot a (fun x => { x with qeDie := v }) := by
  rw [State.writeBit_alias s a v (by decide) (by decide) (by decide)]
  have hoff : (0x200000 + 4 * (8 * 0x18) - 0x200000) / 128 * 4 / 8 * 8 = 0x18 := by decide
  have hbit : (0x200000 + 4 * (8 * 0x18) - 0x200000) / 4 % 32 +
      8 * ((0x200000 + 4 * (8 * 0x18) - 0x200000) / 128 * 4 % 8) = 0 := by decide
  rw [hoff, hbit, State.writeBlock_served hs (.inl (by decide)), if_pos (by decide)]
  have hlow : (s.pieceOf a 0x18 (2 ^ 0) (if v then 2 ^ 0 else 0)).new % 2 = b2n v :=
    s.pieceOf_low a 0x18 1 (data := if v then 2 ^ 0 else 0) (by cases v <;> decide) |>.trans (by cases v <;> rfl)
  have hget : (s.pieceOf a 0x18 (2 ^ 0) (if v then 2 ^ 0 else 0)).get 0 1 = b2n v := by
    simp only [Piece.get, cut]
    omega
  have hhas : (s.pieceOf a 0x18 (2 ^ 0) (if v then 2 ^ 0 else 0)).has 0 1 = true := by
    simp [Piece.has, State.pieceOf, cut]
  have hv : decide (b2n v = 1) = v := by cases v <;> rfl
  unfold State.writeControl
  rw [if_neg (by decide), if_neg (by decide), if_neg (by decide)]
  dsimp only
  rw [hhas, hget, hv]
  rfl

/-! ## The obligation -/

theorem State.serves_of {s : State} {a : Nat} (hw : s.windowOf a = true) (hl : s.alm.live = true) : s.serves a = true := by
  rw [State.serves, hw, hl]
  rfl

/-- Settles O36: each write of a window goes to the part that its offset names. -/
theorem registerWindows : Obligations.RegisterWindows := by
  unfold Obligations.RegisterWindows
  intro s t a ha
  refine ⟨fun off b h => ?nowhere, fun k b hb hw => ?aligned, fun hs x y => ⟨?queuePage, ?sourceField⟩, fun d =>
    ⟨fun off h => ?noAlias, fun off h1 h2 h3 => ?aliased, fun hs => ?qeDie⟩⟩
  case nowhere =>
    refine (exec_registerWrite t off b s ha).trans (congrArg _ ?_)
    rcases h with h | h | h
    · exact State.writeWindow_idle (s := s.at t) (fun u k cov data => State.writePiece_noWindow (s := (s.at t).at u) h _ _ _)
    · rw [h]
      rfl
    · refine State.writeWindow_idle (s := s.at t) (fun u k cov data => ?_)
      exact State.writePiece_beyond _ a (by omega) cov data
  case aligned =>
    intro off v p goes
    have hgoes : ∀ u, (off < 0x200000 ∨ 0x400000 ≤ off) → v.writeBlock a off p = u → goes u := fun u hoff hu => by
      refine (exec_registerWrite t off b s ha).trans (congrArg _ ?_)
      rw [State.writeWindow_eight (s.at t) a k hb, State.writePiece_block _ _ hoff]
      exact congrArg (State.at · t) hu
    have hserved : ∀ hl : s.alm.live = true, ∀ h : off < 0x8000 ∨ 0x10000 ≤ off, v.writeBlock a off p = _ :=
      fun hl h => State.writeBlock_served (s := v) (State.serves_of hw hl) h p
    refine ⟨fun h => hgoes _ (.inl (by omega)) (State.writeBlock_mailbox (s := v) hw h p), fun hl h =>
      hgoes _ (by omega) (State.writeBlock_notLive (s := v) hw hl (by omega) p), fun hl => ?_⟩
    refine ⟨fun h => ?_, fun h1 h2 => ?_, fun h1 h2 => ?_, fun h1 h2 => ?_, fun h1 h2 => ?_, fun h1 h2 => ?_,
      fun h1 h2 => ?_, fun h1 h2 => ?_, fun h => ?_⟩
    · exact hgoes _ (by omega) ((hserved hl (by omega)).trans (if_pos h))
    · refine hgoes _ (by omega) ((hserved hl (by omega)).trans ?_)
      rw [if_neg (by omega), if_pos ⟨h1, h2⟩]
    · refine hgoes _ (by omega) ((hserved hl (by omega)).trans ?_)
      rw [if_neg (by omega), if_neg (by omega), if_pos ⟨h1, h2⟩]
    · refine hgoes _ (by omega) ((hserved hl (by omega)).trans ?_)
      rw [if_neg (by omega), if_neg (by omega), if_neg (by omega), if_pos ⟨h1, h2⟩]
    · refine hgoes _ (by omega) ((hserved hl (by omega)).trans ?_)
      rw [if_neg (by omega), if_neg (by omega), if_neg (by omega), if_neg (by omega), if_pos ⟨h1, h2⟩]
    · refine hgoes _ (by omega) ((hserved hl (by omega)).trans ?_)
      rw [if_neg (by omega), if_neg (by omega), if_neg (by omega), if_neg (by omega), if_neg (by omega), if_pos ⟨h1, h2⟩]
    · refine hgoes _ (by omega) ((hserved hl (by omega)).trans ?_)
      rw [if_neg (by omega), if_neg (by omega), if_neg (by omega), if_neg (by omega), if_neg (by omega), if_neg (by omega),
        if_neg (by omega), if_pos ⟨h1, h2⟩]
    · refine hgoes _ (by omega) ((hserved hl (by omega)).trans ?_)
      rw [if_neg (by omega), if_neg (by omega), if_neg (by omega), if_neg (by omega), if_neg (by omega), if_neg (by omega),
        if_neg (by omega), if_neg (by omega), if_pos ⟨h1, h2⟩]
    · refine hgoes _ (by omega) ((hserved hl (by omega)).trans ?_)
      rw [if_neg (by omega), if_neg (by omega), if_neg (by omega), if_neg (by omega), if_neg (by omega), if_neg (by omega),
        if_neg (by omega), if_neg (by omega), if_neg (by omega)]
  case queuePage =>
    have hd : x.toNat + 256 * y.toNat < 65536 := by have := x.isLt; have := y.isLt; omega
    refine ⟨(s.at t).modAllot a (fun z => { z with queuePage := (x.toNat + 256 * y.toNat) % 1024 }),
      (exec_registerWrite t 0x800000 [x, y] s ha).trans (congrArg _ ?_), State.modAllot_alone (s.at t) a _⟩
    refine ((s.at t).writeWindow_two a 0x100000 x y).trans ?_
    rw [State.writeQueuePage (s := s.at t) hs hd]
    rfl
  case sourceField =>
    have hd : x.toNat + 256 * y.toNat < 65536 := by have := x.isLt; have := y.isLt; omega
    refine ⟨(s.at t).modAllot a (fun z => { z with source := x.toNat + 256 * y.toNat }),
      (exec_registerWrite t 0x110000 [x, y] s ha).trans (congrArg _ ?_), State.modAllot_alone (s.at t) a _⟩
    refine ((s.at t).writeWindow_two a 0x22000 x y).trans ?_
    rw [State.writeSourceField (s := s.at t) hs hd]
    rfl
  case noAlias =>
    refine (exec_bitAliasWrite t off d s ha).trans (congrArg _ ?_)
    rcases h with h | h | h | h
    · exact (s.at t).writeBit_none a _ (.inl h)
    · exact (s.at t).writeBit_none a _ (.inr (.inl h))
    · exact (s.at t).writeBit_none a _ (.inr (.inr h))
    · exact State.writeBit_noWindow (s := s.at t) h off _
  case aliased =>
    exact (exec_bitAliasWrite t off d s ha).trans (congrArg _ ((s.at t).writeBit_alias a _ h1 h2 h3))
  case qeDie =>
    exact ⟨_, (exec_bitAliasWrite t _ d s ha).trans (congrArg _ (State.writeBit_qeDie (s := s.at t) hs _)),
      State.modAllot_alone (s.at t) a _⟩

end Sys2Proof.Machine
end

section
/-! PROOFS. Doorbells, ACQUIRE and RELEASE (R323 to R326, R328). -/

namespace Sys2Proof.Machine

theorem exec_doorbell {a : Nat} (t n : Nat) (s : State) (ha : a < 16) :
    exec (.doorbell t a n) s = .next (if n % 65536 = 0 then s.at t else (s.at t).ringDoorbell a (n % 65536)) :=
  if_pos (decide_eq_true ha)
theorem exec_acquire {a : Nat} (t n : Nat) (tag : BitVec 16) (s : State) (ha : a < 16) :
    exec (.acquire t a n tag) s = .next ((s.at t).onLatch n fun s => s.latchCommand a n true false tag) :=
  if_pos (decide_eq_true ha)
theorem exec_release {a : Nat} (t n : Nat) (s : State) (ha : a < 16) :
    exec (.release t a n) s = .next ((s.at t).onLatch n fun s => s.latchCommand a n false true 0) :=
  if_pos (decide_eq_true ha)

/-! ## Doorbells -/

theorem State.ringDoorbell_unserved {s : State} {a : Nat} (h : s.serves a = false) (n : Nat) : s.ringDoorbell a n = s :=
  if_pos (by rw [h]; rfl)

theorem State.ringDoorbell_allowed {s : State} {a n : Nat} (h : s.serves a = true) (hd : doorbellAllowed a n = true) :
    s.ringDoorbell a n = s.raise n :=
  (if_neg (by rw [h]; exact Bool.false_ne_true)).trans (if_pos hd)

theorem State.ringDoorbell_refused {s : State} {a n : Nat} (h : s.serves a = true) (hd : doorbellAllowed a n = false) :
    s.ringDoorbell a n = s.modAllot a fun x => { x with doorbellRefused := saturate 16 (x.doorbellRefused + 1) } :=
  (if_neg (by rw [h]; exact Bool.false_ne_true)).trans (if_neg (by rw [hd]; exact Bool.false_ne_true))

/-- A doorbell that an allotment may raise is a software source (Table 13.1). -/
theorem doorbellAllowed_range {a n : Nat} (ha : a < 16) (h : doorbellAllowed a n = true) : 0x8000 ≤ n ∧ n ≤ 0xFFFE := by
  simp only [doorbellAllowed, Bool.and_eq_true, decide_eq_true_eq] at h
  obtain ⟨hne, h⟩ := h
  split at h <;> simp only [Bool.and_eq_true, decide_eq_true_eq] at h <;> omega

theorem State.sourceOwner_doorbell (s : State) {n : Nat} (hlo : 0x8000 ≤ n) (hhi : n ≤ 0xFFFE) :
    s.sourceOwner n = some ((n - 0x8000) / 2048) := by
  unfold State.sourceOwner
  repeat rw [if_neg (by omega)]
  exact if_pos ⟨hlo, hhi⟩

/-- A raise moves the routes of its source alone. -/
theorem State.route_raise_other (s : State) {n k : Nat} (h : Bool) (hk : k ≠ n) : (s.raise n).route h k = s.route h k := by
  unfold State.raise
  split
  case h_1 => rfl
  case h_2 o _ =>
    have hnote (u : State) : (u.noteRaise n).route h k = u.route h k := rfl
    dsimp only
    rw [State.route_notifyAll, State.route_modRoute, if_neg (fun e => hk e.2), State.route_modRoute,
      if_neg (fun e => hk e.2), hnote]
    split <;> rfl

/-! ## Latches -/

/-- How a latch command comes out of a window that serves its registers. -/
theorem State.latchCommand_ungranted {s : State} {a n : Nat} (hs : s.serves a = true) (hg : s.latchGranted a n = false)
    {p q : Bool} (h : (p || q) = true) (tag : BitVec 16) : s.latchCommand a n p q tag = s.latchRefuse a :=
  (if_neg (by rw [hs]; exact Bool.false_ne_true)).trans ((if_pos (by rw [hg]; rfl)).trans (if_pos h))

theorem State.latchCommand_granted {s : State} {a n : Nat} (hs : s.serves a = true) (hg : s.latchGranted a n = true)
    (p q : Bool) (tag : BitVec 16) : s.latchCommand a n p q tag = s.windowWrite a (latchFields n) fun s =>
      let s := if q then s.releaseLatch a n else s
      if p then s.acquireLatch a n tag else s :=
  (if_neg (by rw [hs]; exact Bool.false_ne_true)).trans (if_neg (by rw [hg]; exact Bool.false_ne_true))

theorem State.latchCommand_unserved {s : State} {a : Nat} (hs : s.serves a = false) (n : Nat) (p q : Bool) (tag : BitVec 16) :
    s.latchCommand a n p q tag = s := if_pos (by rw [hs]; rfl)

theorem State.windowWrite_lost {s : State} {a : Nat} {l : List Nat} (h : s.loses a l = true) (f : State → State) :
    s.windowWrite a l f = s.modAllot a fun x => { x with regSuperseded := inc64 x.regSuperseded } := if_pos h

theorem State.windowWrite_won {s : State} {a : Nat} {l : List Nat} (h : s.loses a l = false) (f : State → State) :
    s.windowWrite a l f = f (s.covers a l) := if_neg (by rw [h]; exact Bool.false_ne_true)

theorem State.onLatch_lt {n : Nat} (h : n < 4096) (s : State) (f : State → State) : s.onLatch n f = f s := if_pos h

@[simp] theorem State.latch_covers (s : State) (a k : Nat) (l : List Nat) : (s.covers a l).latch k = s.latch k := rfl
@[simp] theorem State.allot_covers (s : State) (a k : Nat) (l : List Nat) : (s.covers a l).allot k = s.allot k := rfl
@[simp] theorem State.latch_latchRefuse (s : State) (a k : Nat) : (s.latchRefuse a).latch k = s.latch k := rfl
@[simp] theorem State.latch_settleGrants (s : State) (a k : Nat) : (s.settleGrants a).latch k = s.latch k := rfl

/-- What a refusal of a latch counts. -/
theorem State.allot_latchRefuse (s : State) (a : Nat) : (s.latchRefuse a).allot a =
    { s.allot a with latchRefused := min ((s.allot a).latchRefused + 1) 65535 } :=
  (s.allot_modAllot a a _).trans (if_pos rfl)

theorem State.acquireLatch_free {s : State} {n : Nat} (h : (s.latch n).holder = none) (a : Nat) (tag : BitVec 16) :
    s.acquireLatch a n tag = s.setLatch n { s.latch n with holder := some a, tag := tag, used := true } :=
  if_pos (by rw [h]; rfl)

theorem State.acquireLatch_held {s : State} {n c : Nat} (h : (s.latch n).holder = some c) (a : Nat) (tag : BitVec 16) :
    s.acquireLatch a n tag = s.latchRefuse a := if_neg (by rw [h]; exact Bool.false_ne_true)

theorem State.releaseLatch_own {s : State} {a n : Nat} (h : (s.latch n).holder = some a) : s.releaseLatch a n =
    (s.setLatch n { s.latch n with holder := none, torn := false, lastHolder := a }).settleGrants a := if_pos h

theorem State.releaseLatch_other {s : State} {a n : Nat} (h : (s.latch n).holder ≠ some a) :
    s.releaseLatch a n = s.latchRefuse a := if_neg h

/-- A latch that is written is that one alone. -/
theorem State.setLatch_alone (s : State) (n : Nat) (l : Latch) :
    (s.setLatch n l).latch n = l ∧ ∀ k, k ≠ n → (s.setLatch n l).latch k = s.latch k :=
  ⟨(s.latch_setLatch n n l).trans (if_pos rfl), fun k hk => (s.latch_setLatch n k l).trans (if_neg hk)⟩

/-- Settles O37: each command through the branch of the window that takes it. -/
theorem latchesAndDoorbells : Obligations.LatchesAndDoorbells := by
  unfold Obligations.LatchesAndDoorbells
  intro s t a ha
  refine ⟨?bell, ?away, ?latch⟩
  case bell =>
    intro n hn
    have hex : exec (.doorbell t a n) s = .next (if n = 0 then s.at t else (s.at t).ringDoorbell a n) := by
      have h := exec_doorbell t n s ha
      rwa [Nat.mod_eq_of_lt hn] at h
    refine ⟨fun h => ?_, fun h0 hs hd => ?_, fun h0 hs hd => ?_⟩
    · rw [hex]
      split
      · rfl
      · next h0 => rw [State.ringDoorbell_unserved (s := s.at t) (h.resolve_left h0)]
    · rw [if_neg h0, State.ringDoorbell_allowed (s := s.at t) hs hd] at hex
      obtain ⟨hlo, hhi⟩ := doorbellAllowed_range ha hd
      have ho := (s.at t).sourceOwner_doorbell hlo hhi
      exact ⟨_, hex, State.route_raise_self ho true, State.route_raise_self ho false,
        fun h k hk => (s.at t).route_raise_other h hk, (s.at t).raise_frame n⟩
    · rw [if_neg h0, State.ringDoorbell_refused (s := s.at t) hs hd] at hex
      obtain ⟨hself, hother, hframe⟩ := (s.at t).modAllot_alone a
        fun x => { x with doorbellRefused := saturate 16 (x.doorbellRefused + 1) }
      exact ⟨_, hex, hself, hother, hframe⟩
  case away =>
    rintro n tag h
    have hidle (p q : Bool) (tag : BitVec 16) : (s.at t).onLatch n (fun s => s.latchCommand a n p q tag) = s.at t := by
      unfold State.onLatch
      split
      · next hn => exact State.latchCommand_unserved (s := s.at t) (h.resolve_left (by omega)) n p q tag
      · rfl
    exact ⟨(exec_acquire t n tag s ha).trans (congrArg _ (hidle true false tag)),
      (exec_release t n s ha).trans (congrArg _ (hidle false true 0))⟩
  case latch =>
    intro n tag hn hs
    have hacq := exec_acquire t n tag s ha
    have hrel := exec_release t n s ha
    rw [State.onLatch_lt hn] at hacq hrel
    refine ⟨fun hg => ?_, fun hg hl => ?_, fun hg hl => ?_⟩
    · rw [State.latchCommand_ungranted (s := s.at t) hs hg rfl] at hacq hrel
      have hself := (s.at t).allot_latchRefuse a
      exact ⟨⟨_, hacq, hself, fun _ => rfl, rfl⟩, ⟨_, hrel, hself, fun _ => rfl, rfl⟩⟩
    · rw [State.latchCommand_granted (s := s.at t) hs hg, State.windowWrite_lost hl] at hacq hrel
      exact ⟨hacq, hrel⟩
    · rw [State.latchCommand_granted (s := s.at t) hs hg, State.windowWrite_won hl] at hacq hrel
      refine ⟨fun hh => ⟨_, hacq, ?_⟩, fun c hh => ⟨_, hacq, ?_⟩, fun hh => ⟨_, hrel, ?_⟩, fun hh => ⟨_, hrel, ?_⟩⟩
      · simp only [Bool.false_eq_true, if_true, if_false]
        rw [State.acquireLatch_free (s := (s.at t).covers a (latchFields n)) hh]
        obtain ⟨hself, hother⟩ := ((s.at t).covers a (latchFields n)).setLatch_alone n
          { s.latch n with holder := some a, tag := tag, used := true }
        exact ⟨hself, hother, rfl⟩
      · simp only [Bool.false_eq_true, if_true, if_false]
        rw [State.acquireLatch_held (s := (s.at t).covers a (latchFields n)) hh]
        exact ⟨((s.at t).covers a (latchFields n)).allot_latchRefuse a, fun _ => rfl, rfl⟩
      · simp only [Bool.false_eq_true, if_true, if_false]
        rw [State.releaseLatch_own (s := (s.at t).covers a (latchFields n)) hh]
        obtain ⟨hself, hother⟩ := ((s.at t).covers a (latchFields n)).setLatch_alone n
          { s.latch n with holder := none, torn := false, lastHolder := a }
        exact ⟨hself, hother, rfl⟩
      · simp only [Bool.false_eq_true, if_true, if_false]
        rw [State.releaseLatch_other (s := (s.at t).covers a (latchFields n)) hh]
        exact ⟨((s.at t).covers a (latchFields n)).allot_latchRefuse a, fun _ => rfl, rfl⟩

end Sys2Proof.Machine
end

section
/-! PROOFS. Host vectors and core pairs: claims, completions and clears (R336, R338, R339), MSI-X (R341, R342) and the
core pairs (R344). -/

namespace Sys2Proof.Machine

theorem exec_claim {a : Nat} (t v : Nat) (s : State) (ha : a < 16) :
    exec (.claim t a v) s = .next ((s.at t).claimVector a v) := if_pos (decide_eq_true ha)
theorem exec_complete {a : Nat} (t v n : Nat) (s : State) (ha : a < 16) :
    exec (.complete t a v n) s = .next ((s.at t).completeVector a v n) := if_pos (decide_eq_true ha)
theorem exec_sourceClear {a : Nat} (t : Nat) (s : State) (ha : a < 16) :
    exec (.sourceClear t a) s = .next ((s.at t).clearSelected a) := if_pos (decide_eq_true ha)
theorem exec_msixUnmask {a : Nat} (t v : Nat) (s : State) (ha : a < 16) :
    exec (.msixUnmask t a v) s = .next ((s.at t).unmask a v) := if_pos (decide_eq_true ha)
theorem exec_msixEnable {a : Nat} (t : Nat) (on : Bool) (s : State) (ha : a < 16) :
    exec (.msixEnable t a on) s = .next ((s.at t).enableMsix a on) := if_pos (decide_eq_true ha)
theorem exec_shedClaim {p : Nat} (t : Nat) (n : Option Nat) (b : Bool) (s : State) (hp : p < 16) :
    exec (.shedClaim t p n b) s = .next ((s.at t).pairActs p n b) := if_pos (decide_eq_true hp)

/-! ## Signalling (R341) -/

/-- What signalling leaves: every route, the functions, of each vector all but its pending bit and the mark that it has
signalled, and whatever is neither an interrupt nor leaves the block. -/
structure Signalled (s u : State) : Prop where
  routes : ∀ h k, u.route h k = s.route h k
  funcs : ∀ k, u.func k = s.func k
  vectors : ∀ k, ∃ p q, u.vector k = { s.vector k with pending := p, signalled := q }
  frame : u = { s with irq := u.irq, emits := u.emits }

section
variable {s u v : State}

theorem Signalled.refl (s : State) : Signalled s s := ⟨fun _ _ => rfl, fun _ => rfl, fun _ => ⟨_, _, rfl⟩, rfl⟩

theorem Signalled.trans (h : Signalled s u) (g : Signalled u v) : Signalled s v where
  routes k n := (g.routes k n).trans (h.routes k n)
  funcs k := (g.funcs k).trans (h.funcs k)
  vectors k := by
    obtain ⟨p, q, hp⟩ := h.vectors k
    obtain ⟨p', q', hq⟩ := g.vectors k
    exact ⟨p', q', hq.trans (by rw [hp])⟩
  frame := g.frame.trans (by rw [h.frame])

theorem Signalled.emit (s : State) (x : Emit) : Signalled s (s.emit x) :=
  ⟨fun _ _ => rfl, fun _ => rfl, fun _ => ⟨_, _, rfl⟩, rfl⟩

theorem Signalled.modVector (s : State) (t : Nat) {f : Vector → Vector}
    (h : ∀ x, ∃ p q, f x = { x with pending := p, signalled := q }) : Signalled s (s.modVector t f) where
  routes _ _ := rfl
  funcs _ := rfl
  vectors k := by
    rw [State.vector_modVector]
    split
    · next hk => rw [hk]; exact h _
    · exact ⟨_, _, rfl⟩
  frame := rfl

theorem Signalled.notify (s : State) (t : Nat) : Signalled s (s.notify t) := by
  have hmod {f : Vector → Vector} (h : ∀ x, ∃ p q, f x = { x with pending := p, signalled := q }) :
      Signalled s (s.modVector t f) := Signalled.modVector s t h
  unfold State.notify
  dsimp only
  split_ifs
  · exact Signalled.refl s
  · exact Signalled.refl s
  · exact hmod fun _ => ⟨_, _, rfl⟩
  · exact (hmod fun _ => ⟨_, _, rfl⟩).trans (Signalled.emit ..)
  · exact hmod fun _ => ⟨_, _, rfl⟩
  · exact Signalled.refl s

theorem Signalled.foldl {α : Type} {f : State → α → State} (h : ∀ u x, Signalled u (f u x)) (l : List α) :
    ∀ s, Signalled s (l.foldl f s) := by
  induction l with
  | nil => exact Signalled.refl
  | cons x r ih => exact fun s => (h s x).trans (ih _)

theorem Signalled.notifyAll (s : State) : Signalled s s.notifyAll := by
  refine Signalled.foldl (fun u f => ?_) _ s
  split
  · exact Signalled.foldl (fun v k => Signalled.notify v _) _ u
  · exact Signalled.refl u

end

/-- Signalling acts on its own vector. -/
theorem State.vector_notify_other (s : State) {t k : Nat} (h : k ≠ t) : (s.notify t).vector k = s.vector k := by
  have hmod (f : Vector → Vector) : (s.modVector t f).vector k = s.vector k :=
    (s.vector_modVector t k f).trans (if_neg h)
  have hemit (u : State) (x : Emit) : (u.emit x).vector k = u.vector k := rfl
  unfold State.notify
  dsimp only
  split_ifs <;> simp only [hmod, hemit]

/-! ## Claims, completions and clears -/

theorem State.claimVector_unserved {s : State} {a : Nat} (h : s.serves a = false) (v : Nat) : s.claimVector a v = s :=
  if_neg (by rw [h]; exact Bool.false_ne_true)

theorem State.claimVector_served {s : State} {a v : Nat} (h : s.serves a = true) (hv : v < 16) : s.claimVector a v =
    (s.claimBy (targetOf (s.linkOf a) v)).2.say 0 (natLe 2 (s.claimBy (targetOf (s.linkOf a) v)).1) s.now :=
  if_pos (by rw [h, decide_eq_true hv]; rfl)

theorem State.claimBy_none {s : State} {w : Nat} (h : s.offer w = none) : s.claimBy w =
    (0xFFFF, (s.modVector w fun v => { v with spurious := saturate 16 (v.spurious + 1), signalled := false }).notifyAll) := by
  unfold State.claimBy
  rw [h]

theorem State.claimBy_some {s : State} {w n : Nat} (h : s.offer w = some n) : s.claimBy w =
    (n, ((s.modRoute true n fun r => { r with st := 2, on := w }).modVector w
      fun v => { v with signalled := false, pending := false }).notifyAll) := by
  unfold State.claimBy
  rw [h]

theorem State.completeVector_idle {s : State} {a n : Nat} (h : s.serves a = false ∨ n = 0) (v : Nat) :
    s.completeVector a v n = s := by
  unfold State.completeVector
  rcases h with h | h
  · rw [h]; rfl
  · rw [h]; exact if_neg (by simp)

theorem State.completeVector_served {s : State} {a v n : Nat} (h : s.serves a = true) (hv : v < 16) (hn : n ≠ 0) :
    s.completeVector a v n = s.completeBy (targetOf (s.linkOf a) v) n :=
  if_pos (by rw [h, decide_eq_true hv, decide_eq_true hn]; rfl)

/-- A change of the routes of one source, and signalling. -/
theorem State.modRoute_alone (s : State) (h : Bool) (n : Nat) (f : Route → Route) :
    (s.modRoute h n f).route h n = f (s.route h n) ∧
      (∀ g k, (g, k) ≠ (h, n) → (s.modRoute h n f).route g k = s.route g k) ∧
      s.modRoute h n f = { s with irq := (s.modRoute h n f).irq } := by
  refine ⟨?_, fun g k hk => ?_, ?_⟩
  · rw [State.route_modRoute, if_pos ⟨rfl, rfl⟩]
  · rw [State.route_modRoute, if_neg fun e => hk (Prod.ext e.1 e.2)]
  · cases h <;> rfl

/-- What a completion of source `n` by the target `w` leaves of the source's route (R339, Table 13.2). -/
def Route.completed (r : Route) (w : Nat) : Route :=
  if r.st = 2 ∧ r.on = w then { r with st := 0, on := 0 } else if r.st = 3 ∧ r.on = w then { r with st := 1, on := 0 } else r

/-- Whether target `w` has source `n` active. -/
def Route.activeOn (r : Route) (w : Nat) : Prop := (r.st = 2 ∨ r.st = 3) ∧ r.on = w

/-- What a completion does (R339). -/
theorem State.completeBy_spec (s : State) (w n : Nat) :
    (s.completeBy w n).route true n = (s.route true n).completed w ∧
    ((s.route true n).activeOn w → ((s.completeBy w n).vector w).ignored = (s.vector w).ignored) ∧
    (¬ (s.route true n).activeOn w →
      ((s.completeBy w n).vector w).ignored = min ((s.vector w).ignored + 1) 65535) ∧
    (∀ h k, (h, k) ≠ (true, n) → (s.completeBy w n).route h k = s.route h k) ∧
    s.completeBy w n = { s with irq := (s.completeBy w n).irq, emits := (s.completeBy w n).emits } := by
  have hframe : s.completeBy w n = { s with irq := (s.completeBy w n).irq, emits := (s.completeBy w n).emits } :=
    State.parts.2 (by simp [State.completeBy_kept ..])
  have hseen (u : State) : (u.notifyAll.vector w).ignored = (u.vector w).ignored := by
    obtain ⟨p, q, hp⟩ := (Signalled.notifyAll u).vectors w
    rw [hp]
  have hunseen : ((s.modVector w fun v => { v with signalled := false }).vector w).ignored = (s.vector w).ignored := by
    rw [State.vector_modVector, if_pos rfl]
  have hroute (f : Vector → Vector) (h : Bool) (k : Nat) : (s.modVector w f).route h k = s.route h k := rfl
  by_cases h2 : (s.route true n).st = 2 ∧ (s.route true n).on = w
  · have he : s.completeBy w n = ((s.modVector w fun v => { v with signalled := false }).modRoute true n
        fun r => { r with st := 0, on := 0 }).notifyAll := if_pos h2
    obtain ⟨hself, hother, -⟩ := (s.modVector w fun v => { v with signalled := false }).modRoute_alone true n
      fun r => { r with st := 0, on := 0 }
    refine ⟨?_, fun _ => ?_, fun hna => absurd ⟨.inl h2.1, h2.2⟩ hna, fun h k hk => ?_, hframe⟩
    · rw [he, State.route_notifyAll, hself, Route.completed, if_pos h2, hroute]
    · rw [he, hseen]; exact hunseen
    · rw [he, State.route_notifyAll, hother h k hk, hroute]
  · by_cases h3 : (s.route true n).st = 3 ∧ (s.route true n).on = w
    · have he : s.completeBy w n = ((s.modVector w fun v => { v with signalled := false }).modRoute true n
          fun r => { r with st := 1, on := 0 }).notifyAll := (if_neg h2).trans (if_pos h3)
      obtain ⟨hself, hother, -⟩ := (s.modVector w fun v => { v with signalled := false }).modRoute_alone true n
        fun r => { r with st := 1, on := 0 }
      refine ⟨?_, fun _ => ?_, fun hna => absurd ⟨.inr h3.1, h3.2⟩ hna, fun h k hk => ?_, hframe⟩
      · rw [he, State.route_notifyAll, hself, Route.completed, if_neg h2, if_pos h3, hroute]
      · rw [he, hseen]; exact hunseen
      · rw [he, State.route_notifyAll, hother h k hk, hroute]
    · have he : s.completeBy w n = ((s.modVector w fun v => { v with signalled := false }).modVector w
          fun v => { v with ignored := saturate 16 (v.ignored + 1) }).notifyAll := (if_neg h2).trans (if_neg h3)
      refine ⟨?_, fun ha => ?_, fun _ => ?_, fun h k hk => ?_, hframe⟩
      · rw [he, State.route_notifyAll, Route.completed, if_neg h2, if_neg h3]; rfl
      · exact absurd ha fun ⟨hst, hon⟩ => hst.elim (fun e => h2 ⟨e, hon⟩) fun e => h3 ⟨e, hon⟩
      · rw [he, hseen, State.vector_modVector, if_pos rfl, State.vector_modVector, if_pos rfl]; rfl
      · rw [he, State.route_notifyAll]; rfl

/-- What CLEAR leaves of a route (R339). -/
def Route.cleared (r : Route) : Route :=
  if r.st = 1 then { r with st := 0 } else if r.st = 3 then { r with st := 2 } else r

theorem State.clearSource_spec (s : State) (n : Nat) :
    (s.clearSource n).route true n = (s.route true n).cleared ∧
    (∀ h k, (h, k) ≠ (true, n) → (s.clearSource n).route h k = s.route h k) ∧
    s.clearSource n = { s with irq := (s.clearSource n).irq, emits := (s.clearSource n).emits } := by
  have hframe : s.clearSource n = { s with irq := (s.clearSource n).irq, emits := (s.clearSource n).emits } :=
    State.parts.2 (by simp [State.clearSource_kept ..])
  refine ⟨?_, fun h k hk => ?_, hframe⟩
  · unfold State.clearSource Route.cleared
    dsimp only
    rw [State.route_notifyAll]
    split_ifs
    · exact (s.modRoute_alone true n _).1
    · exact (s.modRoute_alone true n _).1
    · rfl
  · unfold State.clearSource
    dsimp only
    rw [State.route_notifyAll]
    split_ifs
    · exact (s.modRoute_alone true n _).2.1 h k hk
    · exact (s.modRoute_alone true n _).2.1 h k hk
    · rfl

theorem State.clearSelected_idle {s : State} {a : Nat} (h : s.serves a = false ∨ s.showsRoute a = false) :
    s.clearSelected a = s := by
  unfold State.clearSelected
  rcases h with h | h
  · rw [h]; rfl
  · rw [h, Bool.and_false]; rfl

theorem State.clearSelected_shown {s : State} {a : Nat} (h : s.serves a = true) (hr : s.showsRoute a = true) :
    s.clearSelected a = s.windowWrite a [fieldName 7 (s.allot a).source 8] fun u => u.clearSource (s.allot a).source :=
  if_pos (by rw [h, hr]; rfl)

/-- Settles O39: claims and completions through `claimBy` and `completeBy` of the target, CLEAR through `clearSource`. -/
theorem claimsAndCompletions : Obligations.ClaimsAndCompletions := by
  unfold Obligations.ClaimsAndCompletions
  intro s t a v ha hv
  have hclaim := exec_claim t v s ha
  have hclear := exec_sourceClear t s ha
  refine ⟨?unserved, ?served, ?zero, ?hidden, ?lost, ?won⟩
  case unserved =>
    intro hs n
    exact ⟨hclaim.trans (congrArg _ (State.claimVector_unserved (s := s.at t) hs v)),
      (exec_complete t v n s ha).trans (congrArg _ (State.completeVector_idle (s := s.at t) (.inl hs) v)),
      hclear.trans (congrArg _ (State.clearSelected_idle (s := s.at t) (.inl hs)))⟩
  case served =>
    intro hs
    rw [State.claimVector_served (s := s.at t) hs hv] at hclaim
    have hframe (w : Nat) (r : Nat) : ((s.at t).claimBy w).2.say 0 (natLe 2 r) t = { s with
        now := t, irq := (((s.at t).claimBy w).2.say 0 (natLe 2 r) t).irq,
        emits := (((s.at t).claimBy w).2.say 0 (natLe 2 r) t).emits,
        answer := (((s.at t).claimBy w).2.say 0 (natLe 2 r) t).answer } :=
      State.parts.2 (by simp [State.claimBy_kept ..])
    refine ⟨fun ho => ⟨_, hclaim, ?_⟩, fun n ho => ⟨_, hclaim, ?_⟩, fun n hn => ?_⟩
    · have hc := State.claimBy_none (s := s.at t) ho
      have hf := hframe (targetOf (s.linkOf a) v) 0xFFFF
      rw [hc] at hf
      have hall := Signalled.notifyAll ((s.at t).modVector (targetOf (s.linkOf a) v)
        fun v => { v with spurious := saturate 16 (v.spurious + 1), signalled := false })
      obtain ⟨p, q, hvec⟩ := hall.vectors (targetOf (s.linkOf a) v)
      have hroutes := hall.routes
      rw [State.vector_modVector, if_pos rfl] at hvec
      have hsp := congrArg Vector.spurious hvec
      simp only [State.linkOf, State.allot_at] at *
      rw [hc]
      exact ⟨rfl, hsp, hroutes, hf⟩
    · have hc := State.claimBy_some (s := s.at t) ho
      have hf := hframe (targetOf (s.linkOf a) v) n
      rw [hc] at hf
      obtain ⟨hself, hother, -⟩ := (s.at t).modRoute_alone true n
        fun r => { r with st := 2, on := targetOf (s.linkOf a) v }
      have hroutes := (Signalled.notifyAll (((s.at t).modRoute true n
        fun r => { r with st := 2, on := targetOf (s.linkOf a) v }).modVector (targetOf (s.linkOf a) v)
          fun v => { v with signalled := false, pending := false })).routes
      simp only [State.linkOf, State.allot_at] at *
      rw [hc]
      exact ⟨rfl, (hroutes true n).trans hself, fun h k hk => (hroutes h k).trans (hother h k hk), hf⟩
    · have hcomp := exec_complete t v n s ha
      rw [State.completeVector_served (s := s.at t) hs hv hn] at hcomp
      obtain ⟨hself, hact, hign, hother, hf⟩ := (s.at t).completeBy_spec (targetOf (s.linkOf a) v) n
      refine ⟨_, hcomp, ⟨hself, ?_⟩, hother, hf⟩
      split
      · next h => exact hact h
      · next h => exact hign h
  case zero =>
    intro hs
    exact (exec_complete t v 0 s ha).trans (congrArg _ (State.completeVector_idle (s := s.at t) (.inr rfl) v))
  case hidden =>
    intro hr
    exact hclear.trans (congrArg _ (State.clearSelected_idle (s := s.at t) (.inr hr)))
  case lost =>
    intro hs hr hl
    rw [State.clearSelected_shown (s := s.at t) hs hr] at hclear
    exact hclear.trans (congrArg _ (State.windowWrite_lost hl _))
  case won =>
    intro hs hr hl
    rw [State.clearSelected_shown (s := s.at t) hs hr, State.allot_at, State.windowWrite_won (s := s.at t) hl] at hclear
    obtain ⟨hself, hother, hf⟩ := ((s.at t).covers a [fieldName 7 (s.allot a).source 8]).clearSource_spec (s.allot a).source
    refine ⟨_, hclear, ⟨hself, hother⟩, ?_⟩
    exact State.parts.2 (by simp [State.clearSource_kept .., State.covers])

/-! ## MSI-X -/

theorem State.unmask_noWindow {s : State} {a : Nat} (h : s.windowOf a = false) (v : Nat) : s.unmask a v = s :=
  if_neg (by rw [h]; exact Bool.false_ne_true)

theorem State.enableMsix_noWindow {s : State} {a : Nat} (h : s.windowOf a = false) (on : Bool) : s.enableMsix a on = s :=
  if_pos (by rw [h]; rfl)

/-- The state of a window whose vector `w` unmasking is about to signal. -/
def State.unmasked (s : State) (w : Nat) : State :=
  if (s.vector w).pending then
    (s.modVector w fun x => { x with masked := false }).modVector w fun x => { x with signalled := false }
  else s.modVector w fun x => { x with masked := false }

theorem State.unmask_window {s : State} {a v : Nat} (h : s.windowOf a = true) (hv : v < 16) :
    s.unmask a v = (s.unmasked (targetOf (s.linkOf a) v)).notify (targetOf (s.linkOf a) v) := by
  have hw : (s.windowOf a && decide (v < 16)) = true := by rw [h, decide_eq_true hv]; rfl
  refine (if_pos hw).trans ?_
  unfold State.unmasked
  dsimp only
  split <;> rfl

/-- Unmasking changes its vector's mask, and the mark that a pending vector has signalled. -/
theorem State.vector_unmasked (s : State) (w k : Nat) : (s.unmasked w).vector k = if k = w then
    { s.vector w with masked := false, signalled := (s.vector w).signalled && !(s.vector w).pending } else s.vector k := by
  unfold State.unmasked
  cases hp : (s.vector w).pending <;> by_cases hk : k = w <;> simp [hk]

theorem State.unmasked_leaves (s : State) (w : Nat) : (s.unmasked w).irq.host = s.irq.host ∧
    (∀ h k, (s.unmasked w).route h k = s.route h k) ∧ (∀ k, (s.unmasked w).func k = s.func k) ∧
    s.unmasked w = { s with irq := (s.unmasked w).irq } := by
  unfold State.unmasked
  split <;> exact ⟨rfl, fun _ _ => rfl, fun _ => rfl, rfl⟩

/-- What is offered to a vector depends on the routes and its threshold alone (R336). -/
theorem State.offer_of_threshold {s u : State} {w : Nat} (hroutes : u.irq.host = s.irq.host)
    (ht : (u.vector w).threshold = (s.vector w).threshold) : u.offer w = s.offer w := by
  simp only [State.offer, State.isOffered, State.running, hroutes, ht]
  rfl

/-- An unmasked vector that has not signalled sends its message (R341). -/
theorem State.notify_sends_message {s : State} {w : Nat} (hen : (s.func ((w - 32) / 16 + 1)).enabled = true)
    (hfm : (s.func ((w - 32) / 16 + 1)).funcMask = false) (hm : (s.vector w).masked = false)
    (hsig : (s.vector w).signalled = false) (ho : (s.offer w).isSome = true) :
    s.notify w = (s.modVector w fun v => { v with signalled := true, pending := false }).emit
      (.msix s.now ((w - 32) / 16 + 1) ((w - 32) % 16) (s.vector w).addr (s.vector w).data) := by
  unfold State.notify
  dsimp only
  rw [if_neg (by rw [hen]; exact Bool.false_ne_true), if_pos ho, if_neg (by rw [hsig]; exact Bool.false_ne_true),
    if_neg (by rw [hfm, hm]; exact Bool.false_ne_true)]

/-- A link that has a window is numbered 1 to 8 (Table 12.3). -/
theorem State.window_pos {s : State} {a : Nat} (h : s.windowOf a = true) : 1 ≤ s.linkOf a := by
  unfold State.windowOf State.hasWindow at h
  simp only [Bool.and_eq_true, decide_eq_true_eq] at h
  exact h.1.1

theorem targetOf_link {c v : Nat} (hc : 1 ≤ c) (hv : v < 16) :
    (targetOf c v - 32) / 16 + 1 = c ∧ (targetOf c v - 32) % 16 = v := by
  unfold targetOf
  omega

theorem targetOf_inj {c v k : Nat} (h : targetOf c v = targetOf c k) : v = k := by
  unfold targetOf at h
  omega

/-- One vector as MSIX_ENABLE sets it (R342). -/
def State.msixVector (s : State) (on : Bool) (w : Nat) : State :=
  if on then (s.modVector w fun x => { x with pending := false, signalled := if on then false else x.signalled }).notify w
  else s.modVector w fun x => { x with pending := false, signalled := if on then false else x.signalled }

theorem State.enableMsix_window {s : State} {a : Nat} (h : s.windowOf a = true) (on : Bool) : s.enableMsix a on =
    (List.range 16).foldl (fun u v => u.msixVector on (targetOf (s.linkOf a) v))
      (s.modFunc (s.linkOf a) fun f => { f with enabled := on }) :=
  if_neg (by rw [h]; exact Bool.false_ne_true)

theorem Signalled.msixVector (s : State) (on : Bool) (w : Nat) : Signalled s (s.msixVector on w) := by
  have hmod := Signalled.modVector s w (f := fun x => { x with pending := false, signalled := if on then false else x.signalled })
    fun _ => ⟨_, _, rfl⟩
  cases on
  · exact hmod
  · exact hmod.trans (Signalled.notify _ w)

/-- Disabling MSI-X clears the pending bits of the window and sends nothing. -/
theorem State.msixVector_off (s : State) (w k : Nat) : ((s.msixVector false w).vector k).pending =
    (if k = w then false else (s.vector k).pending) ∧ (s.msixVector false w).emits = s.emits := by
  refine ⟨?_, rfl⟩
  have hv := s.vector_modVector w k fun x => { x with pending := false, signalled := if false then false else x.signalled }
  refine (congrArg Vector.pending hv).trans ?_
  split <;> rfl

/-! ## Core pairs -/

theorem State.pairActs_down {s : State} {p : Nat} (h : s.shed.running = false ∨ s.shed.restarting = true ∨
    p ∈ s.shed.pairsDown ∨ s.isPruned 10 p = true) (n : Option Nat) (b : Bool) : s.pairActs p n b = s :=
  if_pos (by
    simp only [Bool.or_eq_true, Bool.not_eq_true', decide_eq_true_eq]
    tauto)

theorem State.pairActs_up {s : State} {p : Nat} (hrun : s.shed.running = true) (hre : s.shed.restarting = false)
    (hd : p ∉ s.shed.pairsDown) (hp : s.isPruned 10 p = false) (n : Option Nat) (b : Bool) : s.pairActs p n b =
      if !b then s.pulseFault (0xA00 + p)
      else match n with
        | some n => s.shedCompleteBy p n
        | none => (s.shedClaimBy p).2.say 0 (natLe 2 (s.shedClaimBy p).1) s.now :=
  if_neg (by rw [hrun, hre, decide_eq_false hd, hp]; exact Bool.false_ne_true)

/-- What a completion by a core pair leaves of the source's route (R344). -/
def Route.completedBy (r : Route) (p : Nat) : Route :=
  if r.on / 2 = p ∧ r.st = 2 then { r with st := 0, on := 0 }
  else if r.on / 2 = p ∧ r.st = 3 then { r with st := 1, on := 0 } else r

theorem State.shedCompleteBy_spec (s : State) (p n : Nat) :
    (s.shedCompleteBy p n).route false n = (s.route false n).completedBy p ∧
    (∀ h j, (h, j) ≠ (false, n) → (s.shedCompleteBy p n).route h j = s.route h j) ∧
    s.shedCompleteBy p n = { s with irq := (s.shedCompleteBy p n).irq } := by
  unfold State.shedCompleteBy Route.completedBy
  dsimp only
  by_cases ho : (s.route false n).on / 2 = p
  · rw [if_neg (not_not.2 ho)]
    simp only [ho, true_and]
    split_ifs
    · exact s.modRoute_alone false n _
    · exact s.modRoute_alone false n _
    · exact ⟨rfl, fun _ _ _ => rfl, rfl⟩
  · rw [if_pos ho, if_neg fun e => ho e.1, if_neg fun e => ho e.1]
    exact ⟨rfl, fun _ _ _ => rfl, rfl⟩

/-- Settles O40: the message of an unmasked vector from `notify`, the vectors of MSIX_ENABLE one by one, and a core pair
through its claim and its completion. -/
theorem messagesAndCores : Obligations.MessagesAndCores := by
  unfold Obligations.MessagesAndCores
  refine ⟨fun s t a v ha hv => ⟨fun hw => ?nowindow, fun hw => ⟨?unmask, fun on => ?enable⟩⟩, fun s t p n hp => ⟨?down, ?up⟩⟩
  case nowindow =>
    exact ⟨(exec_msixUnmask t v s ha).trans (congrArg _ (State.unmask_noWindow (s := s.at t) hw v)), fun on =>
      (exec_msixEnable t on s ha).trans (congrArg _ (State.enableMsix_noWindow (s := s.at t) hw on))⟩
  case unmask =>
    have hex := exec_msixUnmask t v s ha
    rw [State.unmask_window (s := s.at t) hw hv] at hex
    obtain ⟨hhost, hroutes, hfuncs, hframe⟩ := (s.at t).unmasked_leaves (targetOf (s.linkOf a) v)
    have hvec := (s.at t).vector_unmasked (targetOf (s.linkOf a) v)
    have hown := hvec (targetOf (s.linkOf a) v)
    rw [if_pos rfl] at hown
    have hs := Signalled.notify ((s.at t).unmasked (targetOf (s.linkOf a) v)) (targetOf (s.linkOf a) v)
    obtain ⟨p, q, hu⟩ := hs.vectors (targetOf (s.linkOf a) v)
    rw [hown] at hu
    have hmask := congrArg Vector.masked hu
    have hthr := congrArg Vector.threshold hu
    refine ⟨_, hex, hmask, hthr,
      fun h k => (hs.routes h k).trans (hroutes h k), fun k hk => ?_, fun hen hfm hpend ho => ?_, ?_⟩
    · refine (State.vector_notify_other _ hk).trans ((hvec k).trans (if_neg hk))
    · obtain ⟨hlink, hvno⟩ := targetOf_link (State.window_pos hw) hv
      have hothr := congrArg Vector.threshold hown
      have hoff : ((s.at t).unmasked (targetOf (s.linkOf a) v)).offer (targetOf (s.linkOf a) v) =
          s.offer (targetOf (s.linkOf a) v) :=
        State.offer_of_threshold (s := s) hhost hothr
      have hsend := State.notify_sends_message (s := (s.at t).unmasked (targetOf (s.linkOf a) v))
        (w := targetOf (s.linkOf a) v) (by rw [hfuncs, hlink]; exact hen) (by rw [hfuncs, hlink]; exact hfm)
        (congrArg Vector.masked hown)
        ((congrArg Vector.signalled hown).trans (by
          have hp' : ((s.at t).vector (targetOf (s.linkOf a) v)).pending = true := hpend
          rw [hp', Bool.not_true, Bool.and_false]))
        (by rw [hoff]; exact ho)
      rw [hlink, hvno] at hsend
      have hmsg := congrArg State.emits hsend
      have hpv := congrArg (fun u : State => (u.vector (targetOf (s.linkOf a) v)).pending) hsend
      have haddr := congrArg Vector.addr hown
      have hdata := congrArg Vector.data hown
      have hnow := congrArg State.now hframe
      have hemits := congrArg State.emits hframe
      rw [haddr, hdata, hnow] at hmsg
      refine ⟨hmsg.trans (congrArg (_ :: ·) hemits), hpv.trans ?_⟩
      have hset := ((s.at t).unmasked (targetOf (s.linkOf a) v)).vector_modVector (targetOf (s.linkOf a) v)
        (targetOf (s.linkOf a) v) fun v => { v with signalled := true, pending := false }
      rw [if_pos rfl] at hset
      exact congrArg Vector.pending hset
    · have hframe' : ∀ u : State, u = { (s.at t).unmasked (targetOf (s.linkOf a) v) with irq := u.irq, emits := u.emits } →
          u = { s with now := t, irq := u.irq, emits := u.emits } := by
        rw [hframe]
        exact fun u h => h
      exact hframe' _ hs.frame
  case enable =>
    have hex := exec_msixEnable t on s ha
    rw [State.enableMsix_window (s := s.at t) hw on] at hex
    have hs := Signalled.foldl (fun u k => Signalled.msixVector u on (targetOf (s.linkOf a) k)) (List.range 16)
      ((s.at t).modFunc (s.linkOf a) fun f => { f with enabled := on })
    have hf := hs.funcs
    refine ⟨_, hex, ?_, fun k hk => ?_, fun h k => hs.routes h k, ?_, hs.frame⟩
    · exact (congrArg Msix.enabled (hf _)).trans (by rw [State.func_modFunc, if_pos rfl])
    · exact (hf k).trans (by rw [State.func_modFunc, if_neg hk]; rfl)
    · rintro rfl
      constructor
      · refine foldl_gives (P := fun (u : State) k => (u.vector (targetOf (s.linkOf a) k)).pending = false)
          (f := fun u k => u.msixVector false (targetOf (s.linkOf a) k)) (fun u k => ?_) (fun u j k hk h => ?_) _ _
          (.inr (List.mem_range.2 hv))
        · exact (u.msixVector_off _ _).1.trans (if_pos rfl)
        · exact (u.msixVector_off _ _).1.trans ((if_neg fun e => hk (targetOf_inj e)).trans h)
      · exact foldl_keeps State.emits _ _ (fun u k _ => (u.msixVector_off _ 0).2) _
  case down =>
    intro h b
    exact (exec_shedClaim t n b s hp).trans (congrArg _ (State.pairActs_down (s := s.at t) h n b))
  case up =>
    intro hrun hre hd hpr
    have hex (b : Bool) := exec_shedClaim t n b s hp
    have hup := State.pairActs_up (s := s.at t) hrun hre hd hpr n
    refine ⟨(hex false).trans (congrArg _ (hup false)), fun hn ho => ?_, fun k hn ho => ⟨_, hex true, ?_⟩,
      fun k hn => ⟨_, hex true, ?_⟩⟩
    · refine (hex true).trans (congrArg _ ((hup true).trans ?_))
      have hc : (s.at t).shedClaimBy p = (0xFFFF, s.at t) := by
        unfold State.shedClaimBy
        rw [show (s.at t).shedOffer p = none from ho]
      rw [hn]
      dsimp only
      rw [hc]
      rfl
    · rw [hup true, hn]
      have hc : (s.at t).shedClaimBy p = (k, (s.at t).modRoute false k fun r => { r with st := 2, on := 2 * p }) := by
        unfold State.shedClaimBy
        rw [show (s.at t).shedOffer p = some k from ho]
      dsimp only
      rw [hc]
      obtain ⟨hself, hother, -⟩ := (s.at t).modRoute_alone false k fun r => { r with st := 2, on := 2 * p }
      exact ⟨rfl, hself, hother, rfl⟩
    · rw [hup true, hn]
      exact (s.at t).shedCompleteBy_spec p k

end Sys2Proof.Machine
end

section
/-! PROOFS. Patrol scrub and the log of a stack (R352 to R355). -/

namespace Sys2Proof.Machine

theorem exec_scrub {d : Nat} (t adr o : Nat) (y : BitVec 32) (s : State) (hd : d < 12) :
    exec (.scrub t d adr o y) s = .next ((s.at t).scrubBurst d adr o y) := if_pos (decide_eq_true hd)

theorem exec_logClear {a d : Nat} (t : Nat) (s : State) (ha : a < 16) (hd : d < 12) :
    exec (.logClear t a d) s = .next ((s.at t).orderNumber a 0x30 d 0x0A 1 1) :=
  (if_pos (decide_eq_true ha)).trans (by simp [named, isStack, hd])

theorem spaceOf_stack {d : Nat} (h : d < 12) : spaceOf 0x30 d = some (.stack, d) := by
  have h1 : d ≤ 11 := by omega
  simp [spaceOf, spacesOf, h1]

/-! ## Bursts -/

section
variable {s : State} {d adr : Nat} (hst : (s.stack d).st = 1) (ha : adr < 51539607552)
include hst ha

theorem State.scrubBurst_read (o : Nat) (y : BitVec 32) : s.scrubBurst d adr o y =
    if o = 0 then s.modStack d fun x => { x with scrubAt := adr }
    else if o = 1 then (s.modStack d fun x => { x with scrubAt := adr }).correctedError d
    else ((s.modStack d fun x => { x with scrubAt := adr }).stackError d 2 0x0C00 adr y).retirePage d 0x0C00 adr y :=
  if_neg (by omega)

end

theorem State.scrubBurst_none {s : State} {d adr : Nat} (h : (s.stack d).st ≠ 1 ∨ 51539607552 ≤ adr) (o : Nat)
    (y : BitVec 32) : s.scrubBurst d adr o y = s := if_pos h

/-- A change of one stack. -/
theorem State.modStack_alone (s : State) (d : Nat) (f : Stack → Stack) : (s.modStack d f).stack d = f (s.stack d) ∧
    (∀ k, k ≠ d → (s.modStack d f).stack k = s.stack k) ∧ s.modStack d f = { s with mem := (s.modStack d f).mem } ∧
    (s.modStack d f).mem.exchange = s.mem.exchange :=
  ⟨(s.stack_modStack d d f).trans (if_pos rfl), fun k hk => (s.stack_modStack d k f).trans (if_neg hk), rfl, rfl⟩

/-! ## Corrected errors -/

/-- Whether the hour of a stack's corrected errors still runs (log entry 73). -/
def State.sameHour (s : State) (d : Nat) : Bool := decide (s.now < (s.stack d).hourStart + 3600000000000)

theorem State.sameHour_of {s : State} {d t h : Nat} (hn : s.now = t) (hh : (s.stack d).hourStart = h) :
    s.sameHour d = decide (t < h + 3600000000000) := by
  unfold State.sameHour
  rw [hn, hh]

/-- The corrected errors of a stack's hour with one more. -/
def State.hourWith (s : State) (d : Nat) : Nat := if s.sameHour d then (s.stack d).hourCount + 1 else 1

theorem State.hourWith_of {s : State} {d c : Nat} {old : Bool} (h : s.sameHour d = old) (hc : (s.stack d).hourCount = c) :
    s.hourWith d = if old then c + 1 else 1 := by
  unfold State.hourWith
  rw [h, hc]

/-- A corrected error counted, before the threshold is looked at. -/
def State.correctedCounted (s : State) (d : Nat) : State :=
  (if s.sameHour d then s else s.causeGone (0xC00 + 16 * d)).modStack d fun x =>
    { x with corrected := inc64 x.corrected, hourStart := if s.sameHour d then x.hourStart else s.now,
             hourCount := s.hourWith d }

theorem State.correctedError_eq (s : State) (d : Nat) : s.correctedError d =
    if s.cfgN 0x30 d 0x0C < s.hourWith d then (s.correctedCounted d).raiseFault (0xC00 + 16 * d)
    else s.correctedCounted d := by
  have hcfg : (s.correctedCounted d).cfgN 0x30 d 0x0C = s.cfgN 0x30 d 0x0C := by
    unfold State.correctedCounted
    split <;> rfl
  rw [← hcfg]
  unfold State.correctedError State.correctedCounted State.hourWith State.sameHour
  dsimp only
  cases decide (s.now < (s.stack d).hourStart + 3600000000000) <;> rfl

theorem State.correctedCounted_spec (s : State) (d : Nat) :
    (s.correctedCounted d).stack d = { s.stack d with
      corrected := inc64 (s.stack d).corrected, hourCount := s.hourWith d,
      hourStart := if s.sameHour d then (s.stack d).hourStart else s.now } ∧
    (∀ k, k ≠ d → (s.correctedCounted d).stack k = s.stack k) ∧
    (s.sameHour d = true → (s.correctedCounted d).flt = s.flt) ∧
    (s.sameHour d = false → ((s.correctedCounted d).source (0xC00 + 16 * d)).cause = false) ∧
    (s.correctedCounted d).flt.pruned = s.flt.pruned ∧
    s.correctedCounted d = { s with mem := (s.correctedCounted d).mem, flt := (s.correctedCounted d).flt } ∧
    (s.correctedCounted d).mem.exchange = s.mem.exchange := by
  unfold State.correctedCounted
  cases hh : s.sameHour d
  · obtain ⟨hself, hother, -, -⟩ := (s.causeGone (0xC00 + 16 * d)).modStack_alone d fun x =>
      { x with corrected := inc64 x.corrected, hourStart := s.now, hourCount := s.hourWith d }
    exact ⟨hself, hother, fun h => (nomatch h), fun _ => congrArg Source.cause
      ((s.source_modSource (0xC00 + 16 * d) (0xC00 + 16 * d) fun x => { x with cause := false }).trans (if_pos rfl)),
      rfl, rfl, rfl⟩
  · obtain ⟨hself, hother, -, -⟩ := s.modStack_alone d fun x =>
      { x with corrected := inc64 x.corrected, hourStart := x.hourStart, hourCount := s.hourWith d }
    exact ⟨hself, hother, fun _ => rfl, fun h => (nomatch h), rfl, rfl, rfl⟩

/-! ## Uncorrectable errors -/

/-- A pulse of a source of class log is recorded and nothing more (R371, R378). -/
theorem State.pulseFault_of_log {s : State} {id : Nat} (hc : s.classOf id = 0) : s.pulseFault id = s.logFault id := by
  unfold State.pulseFault State.logFault State.raised
  rw [hc]
  split
  · rfl
  · split
    · next h => exact (if_pos h).symm
    · rfl

/-- An entry of the log of a stack (R354). -/
theorem State.logStack_stack {s : State} {d : Nat} (hroom : (s.stack d).log.length < 1024) (kind requester address : Nat)
    (y : BitVec 32) : ∃ e, (s.logStack d kind requester address y).stack d =
      { s.stack d with log := (s.stack d).log ++ [e] } ∧
      (∀ k, k ≠ d → (s.logStack d kind requester address y).stack k = s.stack k) ∧
      (s.logStack d kind requester address y).flt = s.flt ∧
      (s.logStack d kind requester address y).mem.exchange = s.mem.exchange := by
  obtain ⟨hself, hother, hframe, hex⟩ := s.modStack_alone d fun k => if k.log.length < 1024 then
    { k with log := k.log ++ [natLe 8 s.now ++ natLe 1 d ++ natLe 1 kind ++ natLe 2 requester ++ natLe 4 y.toNat
      ++ natLe 8 (address % 2 ^ 36) ++ List.replicate 8 0] } else { k with logLost := inc64 k.logLost }
  exact ⟨_, hself.trans (if_pos hroom), hother, rfl, hex⟩

/-- The stack after an uncorrectable error of a source of class log (R353, R354). -/
theorem State.stackError_stack {s : State} {d : Nat} (hroom : (s.stack d).log.length < 1024) {kind : Nat}
    (hc : s.classOf (0xC00 + 16 * d + kind) = 0) (requester address : Nat) (y : BitVec 32) :
    ∃ e, (s.stackError d kind requester address y).stack d = { s.stack d with
        uncorrectable := inc64 (s.stack d).uncorrectable, log := (s.stack d).log ++ [e] } ∧
      (∀ k, k ≠ d → (s.stackError d kind requester address y).stack k = s.stack k) ∧
      (s.stackError d kind requester address y).flt.pruned = s.flt.pruned ∧
      (s.stackError d kind requester address y).mem.exchange = s.mem.exchange := by
  obtain ⟨hself, hother, -, hex⟩ := s.modStack_alone d fun x => { x with uncorrectable := inc64 x.uncorrectable }
  have hroom' : ((s.modStack d fun x => { x with uncorrectable := inc64 x.uncorrectable }).stack d).log.length < 1024 := by
    rw [hself]; exact hroom
  obtain ⟨e, hlog, hothers, hflt, hexch⟩ := State.logStack_stack hroom' kind requester address y
  have hlogs : (s.stackError d kind requester address y) =
      ((s.modStack d fun x => { x with uncorrectable := inc64 x.uncorrectable }).logStack d kind requester address
        y).logFault (0xC00 + 16 * d + kind) := State.pulseFault_of_log hc
  rw [hlogs]
  refine ⟨e, ?_, fun k hk => ?_, ?_, ?_⟩
  · rw [State.stack_logFault, hlog, hself]
  · rw [State.stack_logFault, hothers k hk, hother k hk]
  · rw [State.pruned_logFault]; exact congrArg Faults.pruned hflt
  · rw [(State.logFault_kept ..).2.2.2.2.2.2.2.2.2.2.2.2.1]
    exact hexch.trans hex

/-- The page of a coding die's stream region joins the retired pages (R355). -/
theorem State.retirePage_joins {s : State} {d adr : Nat} (hd : d < 8) (ha : adr < 50465865728)
    (hlen : (s.stack d).retired.length < 256) (hpage : adr / 4096 ∉ (s.stack d).retired) (requester : Nat) (y : BitVec 32) :
    s.retirePage d requester adr y = (s.modStack d fun x =>
      { x with retired := insertNat (adr / 4096) x.retired }).logStack d 3 requester adr y := by
  have hmod : adr % 2 ^ 36 = adr := Nat.mod_eq_of_lt (by omega)
  unfold State.retirePage
  dsimp only
  rw [hmod, if_pos hd, decide_eq_true (p := adr < regionArea) ha, decide_eq_false hpage,
    if_neg (by decide), if_neg (by omega), if_pos hd]

/-- Settles O41, burst by burst. -/
theorem patrolScrub : Obligations.PatrolScrub := by
  unfold Obligations.PatrolScrub
  intro s t d adr y hd
  have hex (o : Nat) := exec_scrub t adr o y s hd
  refine ⟨fun h o => ?idle, fun hst ha => ⟨?good, ?corrected, fun o ho => ?bad, fun o ho h8 hreg hlen hlog hc hpage => ?page⟩,
    fun a ha h hw => ?clear⟩
  case idle => exact (hex o).trans (congrArg _ (State.scrubBurst_none (s := s.at t) h o y))
  case good =>
    obtain ⟨hself, hother, hframe, hexch⟩ := (s.at t).modStack_alone d fun x => { x with scrubAt := adr }
    exact ⟨_, (hex 0).trans (congrArg _ ((State.scrubBurst_read (s := s.at t) hst ha 0 y).trans (if_pos rfl))), hself, hother,
      hframe, hexch⟩
  case corrected =>
    intro old n
    have he := (hex 1).trans (congrArg _ ((State.scrubBurst_read (s := s.at t) hst ha 1 y).trans
      ((if_neg (by decide)).trans ((if_pos rfl).trans (State.correctedError_eq _ d)))))
    obtain ⟨hself, hother, -, -⟩ := (s.at t).modStack_alone d fun x => { x with scrubAt := adr }
    obtain ⟨hst', hoth', hold, hnew, hpr, hfr, hexch⟩ :=
      ((s.at t).modStack d fun x => { x with scrubAt := adr }).correctedCounted_spec d
    have hstart : (((s.at t).modStack d fun x => { x with scrubAt := adr }).stack d).hourStart = (s.stack d).hourStart :=
      by rw [hself]; rfl
    have hsame : ((s.at t).modStack d fun x => { x with scrubAt := adr }).sameHour d =
        old := State.sameHour_of rfl hstart
    have hcount : ((s.at t).modStack d fun x => { x with scrubAt := adr }).hourWith d = n := by
      have hc : (((s.at t).modStack d fun x => { x with scrubAt := adr }).stack d).hourCount = (s.stack d).hourCount :=
        by rw [hself]; rfl
      exact State.hourWith_of hsame hc
    clear_value n old
    rw [hcount] at he hst'
    rw [hsame] at hst' hold hnew
    rw [hself] at hst'
    exact ⟨_, he, hst', fun k hk => (hoth' k hk).trans (hother k hk), hold, hnew, hpr, hfr, hexch⟩
  case bad =>
    refine (hex o).trans (congrArg _ ((State.scrubBurst_read (s := s.at t) hst ha o y).trans ?_))
    rw [if_neg (by omega), if_neg (by omega)]
  case page =>
    have he := (hex o).trans (congrArg _ ((State.scrubBurst_read (s := s.at t) hst ha o y).trans
      ((if_neg (by omega)).trans (if_neg (by omega)))))
    obtain ⟨hself, hother, -, -⟩ := (s.at t).modStack_alone d fun x => { x with scrubAt := adr }
    have hroom : ((((s.at t).modStack d fun x => { x with scrubAt := adr }).stack d).log.length) < 1024 := by
      rw [hself]; exact Nat.lt_succ_of_lt hlog
    obtain ⟨e, hest, heother, hepr, heex⟩ := State.stackError_stack hroom (kind := 2) hc 0x0C00 adr y
    rw [hself] at hest
    have hretired := congrArg Stack.retired hest
    rw [State.retirePage_joins h8 hreg (by rw [hretired]; exact hlen) (by rw [hretired]; exact hpage)] at he
    obtain ⟨hjself, hjother, -, hjex⟩ := (((s.at t).modStack d fun x => { x with scrubAt := adr }).stackError d 2 0x0C00
      adr y).modStack_alone d fun x => { x with retired := insertNat (adr / 4096) x.retired }
    rw [hest] at hjself
    obtain ⟨e', hlast, hlother, hlflt, hlex⟩ := State.logStack_stack (d := d) (kind := 3) (requester := 0x0C00)
      (address := adr) (y := y) (s := (((s.at t).modStack d fun x => { x with scrubAt := adr }).stackError d 2 0x0C00
      adr y).modStack d fun x => { x with retired := insertNat (adr / 4096) x.retired }) (by
        rw [hjself]; simpa using Nat.add_lt_of_lt_sub hlog)
    rw [hjself] at hlast
    have hst1 := congrArg Stack.st hlast
    have hun := congrArg Stack.uncorrectable hlast
    have hre := congrArg Stack.retired hlast
    have hlg := congrArg (fun x : Stack => x.log.length) hlast
    refine ⟨_, he, hun, hre, hlg.trans (by simp), hst1.trans hst,
      fun k hk => (hlother k hk).trans ((hjother k hk).trans ((heother k hk).trans (hother k hk))), ?_,
      hlex.trans (hjex.trans heex)⟩
    exact (congrArg Faults.pruned hlflt).trans hepr
  case clear =>
    have hr : entryRow .stack d 0x0A = some { m0 := 0x0A, m1 := 0x0A, ty := .u 1, acc := 2, legal := [(1, 1)] } := rfl
    refine ⟨_, exec_logClear t s ha hd, row_number_inRange (s := s) (t := t) h hw (spaceOf_stack hd) hr (by simp) (by simp)
      rfl rfl (by omega) rfl (by omega) (by omega) (by simp [creditOf]) (by simp) ?_⟩
    exact Eq.trans (b := ((s.at t).clearLog d).ok) rfl rfl

end Sys2Proof.Machine
end

section
/-! PROOFS. Allotment reset and resets of a PCIe link (R314, R327, R369): a reset that settles a change of the exchange
area. -/

namespace Sys2Proof.Machine

theorem exec_pcieLinkReset {link : Nat} (t kind : Nat) (s : State) (h1 : 1 ≤ link) (h8 : link ≤ 8) :
    exec (.pcieLinkReset t link kind) s = .next ((s.at t).resetLink link kind) :=
  if_pos (by simp [isPcie, h1, h8])

/-! ## A reset of DMA channels none of which runs, over an empty exchange memory -/

/-- No channel runs and the exchange memory lists nothing. -/
structure AreaEmpty (s : State) : Prop where
  exchange : s.mem.exchange = []
  still : ∀ c, (s.dmaCh c).st ≠ 1

theorem State.dmaCh_settleArea (s : State) (a c : Nat) : (s.settleArea a).dmaCh c = s.dmaCh c := by
  unfold State.settleArea
  dsimp only
  split <;> rfl

theorem State.exchange_settleArea_of_empty {s : State} (h : s.mem.exchange = []) (a : Nat) :
    (s.settleArea a).mem.exchange = [] := by
  unfold State.settleArea
  dsimp only
  split
  · exact h
  · exact (congrArg _ h).trans rfl

theorem AreaEmpty.modDma {s : State} (h : AreaEmpty s) (c : Nat) {f : Dma → Dma} (hf : (f (s.dmaCh c)).st ≠ 1) :
    AreaEmpty (s.modDma c f) where
  exchange := h.exchange
  still k := by
    rw [State.dmaCh_modDma]
    split
    · exact hf
    · exact h.still k

theorem AreaEmpty.settleArea {s : State} (h : AreaEmpty s) (a : Nat) : AreaEmpty (s.settleArea a) where
  exchange := State.exchange_settleArea_of_empty h.exchange a
  still c := by rw [State.dmaCh_settleArea]; exact h.still c

theorem AreaEmpty.refresh {s : State} (h : AreaEmpty s) : AreaEmpty s.refresh := ⟨h.exchange, h.still⟩

theorem AreaEmpty.dmaDisable {s : State} (h : AreaEmpty s) (a c : Nat) : AreaEmpty (s.dmaDisable a c) := by
  unfold State.dmaDisable
  dsimp only
  split
  · exact h
  · rw [if_neg fun e => h.still c (of_decide_eq_true e.1)]
    exact (h.refresh.modDma c (show (4 : Nat) ≠ 1 by decide)).settleArea a

theorem AreaEmpty.dmaClear {s : State} (h : AreaEmpty s) (a c : Nat) : AreaEmpty (s.dmaClear a c) := by
  unfold State.dmaClear
  dsimp only
  split
  · exact h
  · exact h.modDma c (show (0 : Nat) ≠ 1 by decide)

theorem AreaEmpty.channels {s : State} (h : AreaEmpty s) (a : Nat) (l : List Nat) : AreaEmpty
    (l.foldl (fun (s : State) c => (s.dmaDisable a (64 * a + c)).dmaClear a (64 * a + c)) s) := by
  induction l generalizing s with
  | nil => exact h
  | cons c r ih => exact ih ((h.dmaDisable a _).dmaClear a _)

/-- An allotment reset changes the exchange memory through the DMA channels alone. -/
theorem State.exchange_resetAllot (s : State) (a : Nat) : (s.resetAllot a).mem.exchange =
    ((List.range 64).foldl (fun (s : State) c => (s.dmaDisable a (64 * a + c)).dmaClear a (64 * a + c)) s).mem.exchange := by
  unfold State.resetAllot
  generalize (List.range 64).foldl
    (fun (s : State) c => (s.dmaDisable a (64 * a + c)).dmaClear a (64 * a + c)) s = u
  simp [State.modMbox_kept .., State.resetView_kept .., State.ringFlush_kept .., State.tearLatches_kept ..]

/-- A reset of a link whose window is an allotment's leaves the exchange memory of the allotment's reset. -/
theorem State.exchange_resetLink {s : State} {link a : Nat} (hw : s.hasWindow link = true) (hb : s.boundTo link = some a)
    (kind : Nat) : (s.resetLink link kind).mem.exchange = (s.resetAllot a).mem.exchange := by
  unfold State.resetLink
  rw [hb, if_neg (by rw [hw]; exact Bool.false_ne_true)]
  dsimp only
  split_ifs <;> simp [State.raiseFault_kept .., State.causeGone_kept .., State.rebindLink_kept ..]

/-! ## The counterexample -/

/-- A byte of allotment 0's exchange area, whose new size of 32 MiB still waits for the channels to stop (R369). -/
def waitingArea : State :=
  { State.reset with
    alm := (State.reset.setCfgN 0x31 0 0x02 1 32).alm
    mem := { State.reset.mem with exchange := [(0, 1)] } }

theorem waitingArea_disabled : ((waitingArea.at 0).dmaDisable 0 0).mem.exchange = [] := by decide

theorem waitingArea_reset : ((waitingArea.at 0).resetAllot 0).mem.exchange = [] := by
  have hstill : ∀ c, ((waitingArea.at 0).dmaCh c).st ≠ 1 := fun _ => show (0 : Nat) ≠ 1 by decide
  have hfirst : AreaEmpty ((waitingArea.at 0).dmaDisable 0 0) := by
    refine ⟨waitingArea_disabled, fun c => ?_⟩
    have h : (waitingArea.at 0).dmaDisable 0 0 = ((waitingArea.at 0).refresh.modDma 0 fun d =>
        { d with disable := true, st := 4, early := [],
                 remaining := Config.remainingUndefined (waitingArea.at 0).fresh }).settleArea 0 := rfl
    rw [h, State.dmaCh_settleArea, State.dmaCh_modDma]
    split
    · exact (by decide : (4 : Nat) ≠ 1)
    · exact hstill c
  have hlist : List.range 64 = 0 :: List.range' 1 63 := by decide
  rw [State.exchange_resetAllot, hlist, List.foldl_cons]
  have hrest : AreaEmpty (((waitingArea.at 0).dmaDisable 0 (64 * 0 + 0)).dmaClear 0 (64 * 0 + 0)) := hfirst.dmaClear 0 0
  exact (hrest.channels 0 _).exchange

/-- Refutes O38: the statement has every reset of a PCIe link leave the exchange memory. A function-level reset of link 1
disables the channels of allotment 0, and the change of its exchange area that waited for them takes effect (R369), which
empties the area. -/
theorem not_resetsAndVotes : ¬ Obligations.ResetsAndVotes := by
  unfold Obligations.ResetsAndVotes
  rintro ⟨-, hlink, -⟩
  obtain ⟨u, hex, -, -, -, -, -, -, -, -, hexchange⟩ :=
    (hlink waitingArea 0 1 0 (by decide) (by decide) (by decide)).2 (by decide)
  rw [exec_pcieLinkReset 0 0 waitingArea (by decide) (by decide)] at hex
  obtain rfl := Host.Outcome.next.inj hex
  rw [State.exchange_resetLink (a := 0) (by decide) (by decide), waitingArea_reset] at hexchange
  exact absurd hexchange (by decide)

end Sys2Proof.Machine
end

section
/-! PROOFS. The writes of the fault collector (R372, R377, R379, R380, R383). -/

namespace Sys2Proof.Machine

theorem exec_injectEnable {a : Nat} (t v : Nat) (s : State) (ha : a < 16) :
    exec (.injectEnable t a v) s = .next ((s.at t).orderNumber a 0x40 0 0x01 1 v) := if_pos (decide_eq_true ha)
theorem exec_alertSw {a : Nat} (t v : Nat) (s : State) (ha : a < 16) :
    exec (.alertSw t a v) s = .next ((s.at t).orderNumber a 0x40 0 0x06 1 v) := if_pos (decide_eq_true ha)
theorem exec_classSet {a id : Nat} (t v : Nat) (s : State) (ha : a < 16) (hid : id < 4096) :
    exec (.classSet t a id v) s = .next ((s.at t).orderNumber a 0x40 (0x1000 + id) 0x01 1 v) :=
  (if_pos (decide_eq_true ha)).trans (by simp [named, isSource, hid])
theorem exec_forceWrite {a id : Nat} (t v : Nat) (s : State) (ha : a < 16) (hid : id < 4096) :
    exec (.force t a id v) s = .next ((s.at t).orderNumber a 0x40 (0x1000 + id) 0x02 1 v) :=
  (if_pos (decide_eq_true ha)).trans (by simp [named, isSource, hid])
theorem exec_recordClear {a r : Nat} (t : Nat) (s : State) (ha : a < 16) (hr : r < 17) :
    exec (.recordClear t a r) s = .next ((s.at t).orderNumber a 0x40 (0x100 + r) 0x02 1 1) :=
  (if_pos (decide_eq_true ha)).trans (by simp [named, hr])
theorem exec_unitReset {a : Nat} (t d un : Nat) (s : State) (ha : a < 16) :
    exec (.unitReset t a d un) s = .next ((s.at t).orderWrite a 0x40 0 0x05 (natLe 1 d ++ natLe 1 un)) :=
  if_pos (decide_eq_true ha)

theorem spaceOf_faults : spaceOf 0x40 0 = some (.faults, 0) := by decide

theorem spaceOf_errRec {r : Nat} (h : r < 17) : spaceOf 0x40 (0x100 + r) = some (.errRec, r) := by
  have h1 : 0x100 + r ≤ 0x110 := by omega
  simp [spaceOf, spacesOf, h1]

/-- A write that changes the fault collector alone. -/
theorem accepted_fltOnly {s u v : State} {t : Nat} (h : accepted v u t) (hv : v = { s.at t with flt := v.flt }) :
    accepted { s.at t with flt := u.flt } u t := by
  rw [accepted_flt h, ← hv]
  exact h

theorem fltOnly_trans {s u v : State} (h : u = { s with flt := u.flt }) (g : v = { u with flt := v.flt }) :
    v = { s with flt := v.flt } := g.trans (by rw [h])

/-! ## FORCE bits taken back -/

/-- The FORCE bit of a listed source cleared where `p` holds. -/
def State.unforceOne (s : State) (p : Nat → Bool) (e : Nat × Source) : State :=
  if p e.1 then s.modSource e.1 fun x => { x with force := false } else s

/-- The FORCE bits of the listed sources cleared where `p` holds. -/
def State.unforce (s : State) (p : Nat → Bool) (l : List (Nat × Source)) : State := l.foldl (State.unforceOne · p ·) s

theorem State.source_unforceOne (s : State) (p : Nat → Bool) (e : Nat × Source) (id : Nat) : (s.unforceOne p e).source id =
    if p e.1 = true ∧ id = e.1 then { s.source e.1 with force := false } else s.source id := by
  unfold State.unforceOne
  by_cases hp : p e.1 = true
  · rw [if_pos hp, State.source_modSource]
    simp only [hp, true_and]
  · rw [if_neg hp, if_neg fun h => hp h.1]

theorem State.unforceOne_leaves (s : State) (p : Nat → Bool) (e : Nat × Source) :
    s.unforceOne p e = { s with flt := (s.unforceOne p e).flt } ∧ (s.unforceOne p e).flt.pruned = s.flt.pruned ∧
      (s.unforceOne p e).flt.resetting = s.flt.resetting := by
  unfold State.unforceOne
  split <;> exact ⟨rfl, rfl, rfl⟩

/-- Once every listed source is done, no source where `p` holds is forced: one that is not listed never was. -/
theorem State.unforce_clears (p : Nat → Bool) (l : List (Nat × Source)) (s : State) {id : Nat} (hp : p id = true)
    (h : (s.source id).force = false ∨ id ∈ l.map Prod.fst) : ((s.unforce p l).source id).force = false := by
  induction l generalizing s with
  | nil => exact h.resolve_right List.not_mem_nil
  | cons e r ih =>
    refine ih _ ?_
    dsimp only
    rw [State.source_unforceOne]
    by_cases he : id = e.1
    · rw [if_pos ⟨he ▸ hp, he⟩]
      exact .inl rfl
    · rw [if_neg fun h => he h.2]
      exact h.imp (fun hs => hs) fun hm => (List.mem_cons.1 hm).resolve_left he

theorem State.source_unlisted {s : State} {id : Nat} (h : id ∉ s.flt.sources.map Prod.fst) : s.source id = {} := by
  unfold State.source
  revert h
  induction s.flt.sources with
  | nil => exact fun _ => rfl
  | cons e r ih =>
    intro h
    rw [List.map_cons, List.mem_cons, not_or] at h
    exact (if_neg h.1).trans (ih h.2)

theorem State.unforce_all (s : State) (p : Nat → Bool) {id : Nat} (hp : p id = true) :
    ((s.unforce p s.flt.sources).source id).force = false := by
  refine State.unforce_clears p _ s hp ?_
  by_cases h : id ∈ s.flt.sources.map Prod.fst
  · exact .inr h
  · exact .inl (by rw [State.source_unlisted h])

theorem State.unforce_leaves (p : Nat → Bool) (l : List (Nat × Source)) (s : State) :
    s.unforce p l = { s with flt := (s.unforce p l).flt } ∧ (s.unforce p l).flt.pruned = s.flt.pruned ∧
      (s.unforce p l).flt.resetting = s.flt.resetting := by
  induction l generalizing s with
  | nil => exact ⟨rfl, rfl, rfl⟩
  | cons e r ih =>
    obtain ⟨hf, hp, hr⟩ := ih (s.unforceOne p e)
    obtain ⟨hf', hp', hr'⟩ := s.unforceOne_leaves p e
    exact ⟨fltOnly_trans hf' hf, hp.trans hp', hr.trans hr'⟩

/-! ## The classes of Table 15.1 -/

theorem clip_point (x y : Int) : clip x y y = y := by unfold clip; omega

/-- The codes of a list taken as ranges of one. -/
def points (l : List Nat) : List (Int × Int) := l.map fun x => ((x : Int), (x : Int))

/-- One step of the search for the nearest code. -/
def nearer (x best : Int) (p : Int × Int) : Int :=
  if (clip x p.1 p.2 - x).natAbs < (best - x).natAbs then clip x p.1 p.2 else best

/-- The search among codes ends on one of them, and on none that is farther than another. -/
theorem nearer_points (x : Int) (l : List Nat) (b : Int) :
    ((points l).foldl (nearer x) b = b ∨ ∃ c ∈ l, (points l).foldl (nearer x) b = c) ∧
    ((points l).foldl (nearer x) b - x).natAbs ≤ (b - x).natAbs ∧
    ∀ c ∈ l, ((points l).foldl (nearer x) b - x).natAbs ≤ ((c : Int) - x).natAbs := by
  induction l generalizing b with
  | nil => exact ⟨.inl rfl, Nat.le_refl _, fun _ h => absurd h List.not_mem_nil⟩
  | cons c r ih =>
    have hstep : (points (c :: r)).foldl (nearer x) b = (points r).foldl (nearer x) (nearer x b (c, c)) := rfl
    obtain ⟨hval, hle, hall⟩ := ih (nearer x b (c, c))
    have hnear : nearer x b (c, c) = if ((c : Int) - x).natAbs < (b - x).natAbs then (c : Int) else b := by
      unfold nearer
      rw [clip_point]
    have hbetter : (nearer x b (c, c) - x).natAbs ≤ (b - x).natAbs ∧
        (nearer x b (c, c) - x).natAbs ≤ ((c : Int) - x).natAbs := by
      rw [hnear]
      split <;> omega
    rw [hstep]
    refine ⟨?_, hle.trans hbetter.1, fun d hd => ?_⟩
    · rcases hval with h | ⟨d, hd, h⟩
      · rw [h, hnear]
        split
        · exact .inr ⟨c, List.mem_cons_self, rfl⟩
        · exact .inl rfl
      · exact .inr ⟨d, List.mem_cons_of_mem c hd, h⟩
    · rcases List.mem_cons.1 hd with rfl | hd
      · exact hle.trans hbetter.2
      · exact hall d hd

theorem nearest_points (x : Int) (c : Nat) (l : List Nat) :
    nearest (points (c :: l)) x = (points l).foldl (nearer x) c := by
  show (points l).foldl (nearer x) (clip x c c) = _
  rw [clip_point]

/-- A legal code stands; any other gives way to a legal one (R372). -/
theorem clampClass_spec {i : SourceInfo} (hl : i.legal ≠ []) (v : Nat) :
    (v ∈ i.legal → clampClass i v = v) ∧ clampClass i v ∈ i.legal := by
  obtain ⟨c, l, hcl⟩ := List.exists_cons_of_ne_nil hl
  have hn : clampClass i v = ((points l).foldl (nearer v) c).toNat := by
    rw [← nearest_points, ← hcl]
    simp [clampClass, points, ← List.map_eq_flatMap, Function.comp_def]
  obtain ⟨hval, -, hall⟩ := nearer_points v l c
  have hle := (nearer_points v l c).2.1
  rw [hn, hcl]
  generalize (points l).foldl (nearer v) c = best at hval hall hle
  constructor
  · intro hv
    have h0 : (best - v).natAbs ≤ 0 := by
      rcases List.mem_cons.1 hv with rfl | hv
      · simpa using hle
      · simpa using hall v hv
    clear hval hall
    omega
  · rcases hval with h | ⟨d, hd, h⟩
    · rw [h]; exact List.mem_cons_self
    · rw [h]; exact List.mem_cons_of_mem c hd

/-- A row of Table 15.1, where there is one, has a legal class. -/
def HasLegal (o : Option SourceInfo) : Prop := (o.all fun i => !i.legal.isEmpty) = true

theorem HasLegal.ite {c : Prop} [Decidable c] {o p : Option SourceInfo} (ho : HasLegal o) (hp : HasLegal p) :
    HasLegal (if c then o else p) := by
  split
  · exact ho
  · exact hp

theorem HasLegal.some_ite {c : Prop} [Decidable c] {i j : SourceInfo} (hi : HasLegal (some i)) (hj : HasLegal (some j)) :
    HasLegal (some (if c then i else j)) := by
  split
  · exact hi
  · exact hj

theorem hasLegal_sourceInfo (id : Nat) : HasLegal (sourceInfo id) := by
  unfold sourceInfo
  dsimp only
  repeat' apply HasLegal.ite
  any_goals apply HasLegal.some_ite
  all_goals rfl

theorem sourceInfo_legal {id : Nat} {i : SourceInfo} (h : sourceInfo id = some i) : i.legal ≠ [] := by
  have hl := hasLegal_sourceInfo id
  rw [HasLegal, h, Option.all_some, Bool.not_eq_true'] at hl
  rintro he
  rw [he] at hl
  exact absurd hl (by decide)

/-- The class in force after a CLASS write (R372). -/
theorem State.setClass_spec {s : State} {id : Nat} {i : SourceInfo} (hi : sourceInfo id = some i) (hf : i.fixed = false)
    (v : Nat) : (s.setClass id v).classOf id = clampClass i v ∧ (∀ k, k ≠ id → (s.setClass id v).source k = s.source k) ∧
      s.setClass id v = { s with flt := (s.setClass id v).flt } := by
  have he : s.setClass id v = s.modSource id fun x =>
      { x with cls := if clampClass i v = i.dflt then none else some (clampClass i v) } := by
    unfold State.setClass
    rw [hi]
    exact if_neg (by rw [hf]; exact Bool.false_ne_true)
  rw [he]
  refine ⟨?_, fun k hk => ?_, rfl⟩
  · unfold State.classOf
    rw [State.source_modSource, if_pos rfl, hi]
    by_cases hd : clampClass i v = i.dflt
    · rw [if_pos hd]; exact hd.symm
    · rw [if_neg hd]
  · rw [State.source_modSource, if_neg hk]

/-! ## The rows -/

/-- The row of CLASS (Table 15.6). -/
def classRow : Row := { m0 := 0x01, m1 := 0x01, ty := .u 1, acc := 3 }

theorem entryRow_class (id : Nat) : entryRow .source id 0x01 = some classRow := rfl

/-- A number that an entry without a range takes as it is. -/
theorem row_number_free {s : State} {t a fam inst mem w v : Nat} {sp : Space} {n : Nat} {r : Row}
    (h : takesAtOnce s t a) (hw : mayWrite s a fam inst mem) (hs : spaceOf fam inst = some (sp, n))
    (hr : entryRow sp n mem = some r) (hp : sp ≠ .encode ∧ sp ≠ .decode ∧ sp ≠ .ladder)
    (hm : mem ≠ 0) (hstr : r.struct = false) (hty : r.ty = .u w) (hv : v < 256 ^ w)
    (hl : (s.at t).legalNow sp n mem r = []) (hc : creditOf fam inst mem = none) (hk : ¬ (sp = .clock ∧ mem = 0x1D))
    {e : Nat} {u : State} (hu : (s.at t).writeNumber a fam inst mem sp n r v = (0, e, u)) :
    accepted u ((s.at t).orderNumber a fam inst mem w v) e :=
  row_number h hw hs hr hp hm hstr hty hv (by rw [hl]; exact fun _ hp => absurd hp List.not_mem_nil)
    (by rw [hl]; rfl) hc hk hu

section
variable {s : State} {t a : Nat} (ha : a < 16) (hs : takesAtOnce s t a)
include ha hs

theorem injectEnable_accepted {v : Nat} (hv : v < 2) (hw : mayWrite s a 0x40 0 0x01) : ∃ u,
    exec (.injectEnable t a v) s = .next u ∧ accepted ((s.at t).setInject (decide (v = 1))) u t := by
  have hr : entryRow .faults 0 0x01 = some { m0 := 0x01, m1 := 0x01, ty := .u 1, acc := 35, legal := [(0, 1)] } := rfl
  refine ⟨_, exec_injectEnable t v s ha, row_number_inRange (s := s) (t := t) hs hw spaceOf_faults hr (by simp) (by simp)
    rfl rfl (by omega) rfl (by omega) (by omega) (by simp [creditOf]) (by simp) ?_⟩
  have hrow : ∀ x : State, x.writeNumber a 0x40 0 0x01 .faults 0
      { m0 := 0x01, m1 := 0x01, ty := .u 1, acc := 35, legal := [(0, 1)] } v = (x.setInject (decide (v = 1))).ok := fun _ => rfl
  have hnow : ((s.at t).setInject (decide (v = 1))).now = t := by simp [State.setInject_kept ..]
  rw [hrow, State.ok, hnow]

theorem alertSw_accepted {v : Nat} (hv : v < 4) (hw : mayWrite s a 0x40 0 0x06) : ∃ u,
    exec (.alertSw t a v) s = .next u ∧
      accepted { s.at t with flt := { s.flt with alertSw := BitVec.ofNat 2 v } } u t := by
  have hr : entryRow .faults 0 0x06 = some { m0 := 0x06, m1 := 0x06, ty := .u 1, acc := 3, legal := [(0, 3)] } := rfl
  exact ⟨_, exec_alertSw t v s ha, row_number_inRange (s := s) (t := t) hs hw spaceOf_faults hr (by simp) (by simp)
    rfl rfl (by omega) rfl (by omega) (by omega) (by simp [creditOf]) (by simp) rfl⟩

theorem classSet_accepted {id v : Nat} (hid : id < 4096) (hv : v < 256) (hw : mayWrite s a 0x40 (0x1000 + id) 0x01)
    {u : State} (hu : (s.at t).writeClass a id v = (0, t, u)) :
    ∃ w, exec (.classSet t a id v) s = .next w ∧ accepted u w t := by
  refine ⟨_, exec_classSet t v s ha hid, row_number_free (s := s) (t := t) hs hw (spaceOf_source hid) (entryRow_class id)
    (by simp) (by simp) rfl rfl (by omega) rfl (by simp [creditOf]) (by simp) ?_⟩
  exact Eq.trans (b := (s.at t).writeClass a id v) rfl hu

theorem force_accepted {id v : Nat} (hid : id < 4096) (hv : v < 256) (hleg : v < 2 ∨ sourceInfo id = none)
    (hw : mayWrite s a 0x40 (0x1000 + id) 0x02) :
    ∃ w, exec (.force t a id v) s = .next w ∧ accepted ((s.at t).forceFault id (decide (v = 1))) w t := by
  have hnow : ((s.at t).forceFault id (decide (v = 1))).now = t := (State.forceFault_kept ..).1
  have hrow : ∀ x : State, x.writeNumber a 0x40 (0x1000 + id) 0x02 .source id forceRow v =
      (x.forceFault id (decide (v = 1))).ok := fun _ => rfl
  have hu : (s.at t).writeNumber a 0x40 (0x1000 + id) 0x02 .source id forceRow v =
      (0, t, (s.at t).forceFault id (decide (v = 1))) := by rw [hrow, State.ok, hnow]
  refine ⟨_, exec_forceWrite t v s ha hid, ?_⟩
  cases hin : sourceInfo id with
  | none =>
    have hl : (s.at t).legalNow .source id 0x02 forceRow = [] := if_pos (by rw [hin]; rfl)
    exact row_number_free (s := s) (t := t) hs hw (spaceOf_source hid) (entryRow_force id) (by simp) (by simp) rfl rfl
      (by omega) hl (by simp [creditOf]) (by simp) hu
  | some i =>
    have hl := State.legalNow_force (s := s.at t) (id := id) (by rw [hin]; rfl)
    have hv2 : v < 2 := hleg.resolve_right (by rw [hin]; exact Option.some_ne_none i)
    exact row_number_inRange (s := s) (t := t) hs hw (spaceOf_source hid) (entryRow_force id) (by simp) (by simp) rfl rfl
      (by omega) hl (by omega) (by omega) (by simp [creditOf]) (by simp) hu

theorem recordClear_accepted {r : Nat} (hr : r < 17) (hw : mayWrite s a 0x40 (0x100 + r) 0x02) :
    ∃ w, exec (.recordClear t a r) s = .next w ∧ accepted ((s.at t).clearRecord r) w t := by
  have hrow : entryRow .errRec r 0x02 = some { m0 := 0x02, m1 := 0x02, ty := .u 1, acc := 2, legal := [(1, 1)] } := rfl
  refine ⟨_, exec_recordClear t s ha hr, row_number_inRange (s := s) (t := t) hs hw (spaceOf_errRec hr) hrow (by simp)
    (by simp) rfl rfl (by omega) rfl (by omega) (by omega) (by simp [creditOf]) (by simp) ?_⟩
  have hnow : ((s.at t).clearRecord r).now = t := (State.clearRecord_kept ..).1
  have hwr : ∀ x : State, x.writeNumber a 0x40 (0x100 + r) 0x02 .errRec r
      { m0 := 0x02, m1 := 0x02, ty := .u 1, acc := 2, legal := [(1, 1)] } (1 : Nat) = (x.clearRecord r).ok := fun _ => rfl
  rw [hwr, State.ok, hnow]

end

/-! ## CLEAR of a record -/

/-- A LIVE source offered again to a cleared record (R377). -/
def State.reoffer (s : State) (r : Nat) (e : Nat × Source) : State :=
  s.modErrRec r fun x => x.offer e.1 s.now (s.now / 2 + 1) s.traceable (e.2.force && !e.2.cause)

theorem State.foldl_reoffer (r : Nat) (l : List (Nat × Source)) (s : State) :
    (l.foldl (State.reoffer · r ·) s).errRec r = l.foldl (fun x e =>
      x.offer e.1 s.now (s.now / 2 + 1) s.traceable (e.2.force && !e.2.cause)) (s.errRec r) ∧
    (∀ k, k ≠ r → (l.foldl (State.reoffer · r ·) s).errRec k = s.errRec k) ∧
    l.foldl (State.reoffer · r ·) s = { s with flt := (l.foldl (State.reoffer · r ·) s).flt } := by
  induction l generalizing s with
  | nil => exact ⟨rfl, fun _ _ => rfl, rfl⟩
  | cons e q ih =>
    obtain ⟨hself, hother, hframe⟩ := ih (s.reoffer r e)
    have hown : (s.reoffer r e).errRec r =
        (s.errRec r).offer e.1 s.now (s.now / 2 + 1) s.traceable (e.2.force && !e.2.cause) :=
      (s.errRec_modErrRec r r _).trans (if_pos rfl)
    rw [hown] at hself
    exact ⟨hself, fun k hk => (hother k hk).trans ((s.errRec_modErrRec r k _).trans (if_neg hk)), hframe⟩

/-- The records after CLEAR. -/
theorem State.clearRecord_spec (s : State) (r : Nat) :
    (s.clearRecord r).errRec r =
      (s.flt.sources.filter (fun e => e.2.live && (decide (r = 16) || decide (e.1 / 256 = r)))).foldl
        (fun x e => x.offer e.1 s.now (s.now / 2 + 1) s.traceable (e.2.force && !e.2.cause))
        { raises := (s.errRec r).raises } ∧
    (∀ k, k ≠ r → (s.clearRecord r).errRec k = s.errRec k) ∧
    s.clearRecord r = { s with flt := (s.clearRecord r).flt } := by
  obtain ⟨hself, hother, hframe⟩ := State.foldl_reoffer r
    (s.flt.sources.filter fun e => e.2.live && (decide (r = 16) || decide (e.1 / 256 = r)))
    (s.modErrRec r fun x => { raises := x.raises })
  have hown := s.errRec_modErrRec r r fun x => { raises := x.raises }
  rw [if_pos rfl] at hown
  rw [hown] at hself
  exact ⟨hself, fun k hk => (hother k hk).trans ((s.errRec_modErrRec r k _).trans (if_neg hk)), hframe⟩

/-! ## UNIT_RESET -/

theorem State.orderReset_refused {s : State} {d un : Nat} (h : s.isPruned d un = false ∨ s.unitNamed d un = true ∨
    (d = 12 ∧ 8 ≤ un)) : s.orderReset d un = (3, s) := by
  refine if_pos ?_
  simp only [Bool.or_eq_true, Bool.not_eq_true', Bool.and_eq_true, decide_eq_true_eq]
  tauto

/-- What an ordered unit reset notes (R379). -/
def State.resetNoted (s : State) (d un : Nat) : State :=
  (s.unforce (sourceOfUnit d un) s.flt.sources).modFlt fun f =>
    { f with resetting := addTo f.resetting (d, un)
             ordered := (s.now / 2, (d, un) :: (if f.ordered.1 = s.now / 2 then f.ordered.2 else [])) }

theorem State.orderReset_taken {s : State} {d un : Nat} (hp : s.isPruned d un = true) (hn : s.unitNamed d un = false)
    (hd : ¬ (d = 12 ∧ 8 ≤ un)) : s.orderReset d un = (0, s.resetNoted d un) := by
  have hfr := (State.unforce_leaves (sourceOfUnit d un) s.flt.sources s).1
  have hnow := congrArg State.now hfr
  have he : s.orderReset d un = (0, (s.unforce (sourceOfUnit d un) s.flt.sources).modFlt fun f =>
      { f with resetting := addTo f.resetting (d, un)
               ordered := ((s.unforce (sourceOfUnit d un) s.flt.sources).now / 2, (d, un) ::
                 (if f.ordered.1 = (s.unforce (sourceOfUnit d un) s.flt.sources).now / 2 then f.ordered.2 else [])) }) := by
    refine if_neg ?_
    simp only [Bool.or_eq_true, Bool.not_eq_true', Bool.and_eq_true, decide_eq_true_eq, hp, hn]
    simpa using hd
  rw [he, hnow]
  rfl

theorem mem_addTo_self {α : Type} [DecidableEq α] (l : List α) (x : α) : x ∈ addTo l x := by
  unfold addTo
  split
  · assumption
  · simp

theorem State.resetNoted_spec (s : State) (d un : Nat) : (d, un) ∈ (s.resetNoted d un).flt.resetting ∧
    (∀ id, sourceOfUnit d un id = true → ((s.resetNoted d un).source id).force = false) ∧
    (s.resetNoted d un).flt.pruned = s.flt.pruned ∧ s.resetNoted d un = { s with flt := (s.resetNoted d un).flt } := by
  obtain ⟨hframe, hpr, -⟩ := State.unforce_leaves (sourceOfUnit d un) s.flt.sources s
  exact ⟨mem_addTo_self _ _, fun id hid => s.unforce_all _ hid, hpr, fltOnly_trans hframe rfl⟩

/-- The bytes of a UNIT_RESET name the unit (Table 15.6). -/
theorem writeUnitReset_fields (s : State) (a : Nat) {d un : Nat} (hd : d ≤ 13) (hu : un < 256) :
    s.writeUnitReset a (natLe 1 d ++ natLe 1 un) = byStatus (s.orderReset d un) := by
  have h0 : fieldAt (natLe 1 d ++ natLe 1 un) 0 1 = d := by rw [fieldAt_natLe]; omega
  have h1 : fieldAt (natLe 1 d ++ natLe 1 un) 1 1 = un := by
    rw [fieldAt_skip 1 d _ (Nat.le_refl 1), fieldAt_natLe_last]; omega
  have hl : (natLe 1 d ++ natLe 1 un).length = 2 := by rw [List.length_append, natLe_length, natLe_length]
  unfold State.writeUnitReset
  dsimp only
  rw [h0, h1, if_neg (not_not.2 hl), Nat.min_eq_right hd, decide_eq_false (by omega)]
  rfl

/-- Settles O44, row by row. -/
theorem faultRows : Obligations.FaultRows := by
  unfold Obligations.FaultRows
  intro s t a ha hs
  have hrowReset : entryRow .faults 0 0x05 = some { m0 := 0x05, m1 := 0x05, ty := .blob, acc := 2 } := rfl
  refine ⟨?inject, ?alert, ?legal, ?clamped, ?fixed, ?unlisted, ?refused, ?unforced, ?clear, ?reset, ?busy⟩
  case inject =>
    intro v hv hw
    obtain ⟨u, hex, hu⟩ := injectEnable_accepted ha hs hv hw
    by_cases h1 : v = 1
    · rw [decide_eq_true h1] at hu ⊢
      exact ⟨u, hex, congrArg Faults.inject (accepted_flt hu), fun h0 => by omega, accepted_fltOnly hu rfl⟩
    · rw [decide_eq_false h1] at hu ⊢
      have he : (s.at t).setInject false =
          ((s.at t).unforce (fun _ => true) s.flt.sources).modFlt fun f => { f with inject := false } := rfl
      rw [he] at hu
      obtain ⟨hframe, -, -⟩ := State.unforce_leaves (fun _ => true) s.flt.sources (s.at t)
      refine ⟨u, hex, congrArg Faults.inject (accepted_flt hu), fun _ id => ?_,
        accepted_fltOnly hu (fltOnly_trans hframe rfl)⟩
      rw [accepted_source hu]
      exact (s.at t).unforce_all (fun _ => true) rfl
  case alert => exact fun v hv hw => alertSw_accepted ha hs hv hw
  case legal =>
    intro id i v hid hi hf hleg hv hw
    have hclass := (clampClass_spec (sourceInfo_legal hi) v).1 hleg
    have hwr : (s.at t).writeClass a id v = (0, t, (s.at t).setClass id v) := by
      unfold State.writeClass
      rw [hi]
      dsimp only
      rw [if_neg (by rw [hf]; exact Bool.false_ne_true), hclass, decide_eq_false (by simp)]
      have hnow : ((s.at t).setClass id v).now = t := (State.setClass_kept ..).1
      exact congrArg (fun n => (0, n, (s.at t).setClass id v)) hnow
    obtain ⟨u, hex, hu⟩ := classSet_accepted ha hs hid hv hw hwr
    obtain ⟨hc, hother, hframe⟩ := State.setClass_spec (s := s.at t) hi hf v
    refine ⟨u, hex, ?_, fun k hk => (accepted_source hu k).trans (hother k hk), accepted_fltOnly hu hframe⟩
    unfold State.classOf at hc ⊢
    rw [accepted_source hu]
    exact hc.trans hclass
  case clamped =>
    intro id i v hid hi hf hleg hv hw
    have hne : clampClass i v ≠ v := fun h => hleg (h ▸ (clampClass_spec (sourceInfo_legal hi) v).2)
    have hwr : (s.at t).writeClass a id v = (0, t, ((s.at t).clamp a).setClass id v) := by
      unfold State.writeClass
      rw [hi]
      dsimp only
      rw [if_neg (by rw [hf]; exact Bool.false_ne_true), decide_eq_true hne]
      have hnow : (((s.at t).clamp a).setClass id v).now = t := (State.setClass_kept ..).1
      exact congrArg (fun n => (0, n, ((s.at t).clamp a).setClass id v)) hnow
    obtain ⟨u, hex, hu⟩ := classSet_accepted ha hs hid hv hw hwr
    obtain ⟨hc, -, hframe⟩ := State.setClass_spec (s := (s.at t).clamp a) hi hf v
    refine ⟨u, hex, ?_, ?_, ?_⟩
    · unfold State.classOf at hc ⊢
      rw [accepted_source hu]
      exact hc
    · have hall : u.allot a = (((s.at t).clamp a).setClass id v).allot a := by rw [hu]; rfl
      rw [hall, hframe]
      have hcl := ((s.at t).allot_modAllot a a fun r => { r with clamps := inc64 r.clamps }).trans (if_pos rfl)
      exact congrArg Allot.clamps hcl
    · have hfl : u.flt = (((s.at t).clamp a).setClass id v).flt := accepted_flt hu
      have hall : u.allots = ((s.at t).clamp a).allots := by rw [hu, hframe]
      have hst : { s.at t with flt := u.flt, allots := u.allots } = ((s.at t).clamp a).setClass id v := by
        rw [hfl, hall]
        exact hframe.symm
      rw [hst]
      exact hu
  case fixed =>
    intro id v hid hfix hv hw
    refine classSet_accepted ha hs hid hv hw ?_
    unfold State.writeClass
    split
    · rfl
    · next i hi => exact if_pos (hfix i hi)
  case unlisted =>
    intro id v hid hi hv hw
    obtain ⟨u, hex, hu⟩ := force_accepted ha hs hid hv (.inr hi) hw
    have he : (s.at t).forceFault id (decide (v = 1)) = s.at t := if_pos (by rw [hi]; rfl)
    exact ⟨u, hex, he ▸ hu⟩
  case refused =>
    intro id hid hi hinj hw
    obtain ⟨u, hex, hu⟩ := force_accepted ha hs hid (v := 1) (by omega) (.inl (by omega)) hw
    have he : (s.at t).forceFault id true =
        { s.at t with flt := { s.flt with forceRefused := inc64 s.flt.forceRefused } } :=
      (if_neg (by rw [Option.isNone_iff_eq_none]; exact Option.isSome_iff_ne_none.1 hi)).trans
        (if_pos (by rw [show (s.at t).flt.inject = false from hinj]; rfl))
    exact ⟨u, hex, he ▸ hu⟩
  case unforced =>
    intro id hid hi hw
    obtain ⟨u, hex, hu⟩ := force_accepted ha hs hid (v := 0) (by omega) (.inl (by omega)) hw
    have he : (s.at t).forceFault id false = (s.at t).modSource id fun x => { x with force := false } :=
      (if_neg (by rw [Option.isNone_iff_eq_none]; exact Option.isSome_iff_ne_none.1 hi)).trans rfl
    have hu' : accepted ((s.at t).modSource id fun x => { x with force := false }) u t := he ▸ hu
    exact ⟨u, hex, (accepted_source hu' id).trans (((s.at t).source_modSource id id _).trans (if_pos rfl)),
      accepted_fltOnly hu' rfl⟩
  case clear =>
    intro r hr hw
    obtain ⟨u, hex, hu⟩ := recordClear_accepted ha hs hr hw
    obtain ⟨hself, hother, hframe⟩ := (s.at t).clearRecord_spec r
    have hrec (k : Nat) : u.errRec k = ((s.at t).clearRecord r).errRec k := by
      unfold State.errRec
      rw [accepted_flt hu]
    exact ⟨u, hex, (hrec r).trans hself, fun k hk => (hrec k).trans (hother k hk), accepted_fltOnly hu hframe⟩
  case reset =>
    intro d un hd hun hp hn h12 hw
    obtain ⟨hmem, hforce, hpr, hframe⟩ := (s.at t).resetNoted_spec d un
    have hwr : (s.at t).writeBlob a 0x40 0 0x05 .faults 0 (natLe 1 d ++ natLe 1 un) = (0, t, (s.at t).resetNoted d un) := by
      refine (writeUnitReset_fields (s.at t) a hd hun).trans ?_
      rw [State.orderReset_taken (s := s.at t) hp hn h12]
      have hnow := congrArg State.now hframe
      exact congrArg (fun n => (0, n, (s.at t).resetNoted d un)) hnow
    have hu := row_blob (s := s) (t := t) hs spaceOf_faults hrowReset (.inr hw) (by simp) (by simp) rfl rfl hwr
    refine ⟨_, exec_unitReset t d un s ha, ?_, fun id hid => ?_, ?_, accepted_fltOnly hu hframe⟩
    · rw [accepted_flt hu]; exact hmem
    · rw [accepted_source hu]; exact hforce id hid
    · rw [accepted_flt hu]; exact hpr
  case busy =>
    intro d un hd hun hbusy hw
    refine (exec_unitReset t d un s ha).trans (congrArg _ ?_)
    refine row_blob_refused (s := s) (t := t) hs spaceOf_faults hrowReset (.inr hw) (by simp) (by simp) rfl rfl
      (st := 3) (by simp) ?_
    refine (writeUnitReset_fields (s.at t) a hd hun).trans ?_
    rw [State.orderReset_refused (s := s.at t) hbusy]
    rfl

end Sys2Proof.Machine
end

section
/-! PROOFS. Alive ticks, alert pulses and ends of unit resets (R379, R381, R383). -/

namespace Sys2Proof.Machine

theorem exec_unitResetEnd {d : Nat} (t un : Nat) (s : State) (hd : d < 64) :
    exec (.unitResetEnd t d un) s = .next ((s.at t).resetEnds d un) := if_pos (decide_eq_true hd)
theorem exec_alertPulseEnd {o : Nat} (t : Nat) (s : State) (ho : o < 2) :
    exec (.alertPulseEnd t o) s = .next ((s.at t).pulseEnds o) := if_pos (decide_eq_true ho)

/-! ## Alive ticks -/

/-- A group's part of a tick (R381). -/
def State.aliveStep (s : State) (g : Nat) : State :=
  if s.aliveOk g then
    let s := if s.mod.hedgeV then
        { (s.emit (.barrier s.now 3 g 0)) with
          mod := { s.mod with ticked := true }
          flt := { s.flt with alive := s.flt.alive ^^^ (1#8 <<< g) } }
      else s
    s.modFlt (fun f => { f with aliveRun := f.aliveRun ||| (1#8 <<< g) })
  else s.modFlt (fun f => { f with aliveRun := f.aliveRun &&& ~~~(1#8 <<< g) })

theorem State.aliveTick_runs {s : State} (ht : s.flt.ticking = true) (hm : s.mod.on = true) :
    s.aliveTick = (List.range 8).foldl State.aliveStep s := if_neg (by rw [ht, hm]; exact Bool.false_ne_true)

/-- The two bits of a group: whether it runs, and its ALIVE output. -/
def State.aliveBits (s : State) (g : Nat) : Bool × Bool := (s.flt.aliveRun.getLsbD g, s.flt.alive.getLsbD g)

/-- A tick leaves what it looks at: the prunes, the records and the Hedge's supply. -/
structure SameGroups (s u : State) : Prop where
  groups : ∀ g, u.groupPruned g = s.groupPruned g
  records : ∀ r, u.errRec r = s.errRec r
  hedge : u.mod.hedgeV = s.mod.hedgeV

theorem SameGroups.aliveStep {s u : State} (h : SameGroups s u) (g : Nat) : SameGroups s (u.aliveStep g) := by
  have hstep : SameGroups u (u.aliveStep g) := by
    unfold State.aliveStep
    split
    · dsimp only
      split <;> exact ⟨fun _ => rfl, fun _ => rfl, rfl⟩
    · exact ⟨fun _ => rfl, fun _ => rfl, rfl⟩
  exact ⟨fun k => (hstep.groups k).trans (h.groups k), fun r => (hstep.records r).trans (h.records r),
    hstep.hedge.trans h.hedge⟩

/-- Whether a group ticks, from its bits. -/
def State.ticks (s : State) (g : Nat) (bits : Bool × Bool) : Bool :=
  !s.groupPruned g && (bits.1 || (aliveDomains g).all fun d => !(s.errRec d).valid)

theorem SameGroups.ticks {s u : State} (h : SameGroups s u) (g : Nat) (bits : Bool × Bool) :
    u.ticks g bits = s.ticks g bits := by
  unfold State.ticks
  simp only [h.groups, h.records]

/-- What a tick leaves of a group's bits. -/
def State.tickBits (s : State) (g : Nat) (bits : Bool × Bool) : Bool × Bool :=
  (decide (g < 8) && s.ticks g bits, bits.2 ^^ (decide (g < 8) && s.mod.hedgeV && s.ticks g bits))

theorem getLsbD_one_shift (g k : Nat) : (1#8 <<< g).getLsbD k = decide (k < 8 ∧ k = g) := by
  rw [BitVec.getLsbD_shiftLeft, BitVec.getLsbD_one]
  by_cases h : k < 8 ∧ k = g
  · obtain ⟨h8, rfl⟩ := h
    simp [h8]
  · rw [decide_eq_false h]
    by_cases h8 : k < 8
    · have hne : k ≠ g := fun e => h ⟨h8, e⟩
      simp only [h8, decide_true, Bool.true_and]
      by_cases hlt : k < g
      · simp [hlt]
      · have : k - g ≠ 0 := by omega
        simp [this]
    · simp [h8]

section
variable (x : BitVec 8) (g k : Nat)

theorem getLsbD_high (h : ¬ k < 8) : x.getLsbD k = false := BitVec.getLsbD_of_ge x k (by omega)

theorem getLsbD_set : (x ||| (1#8 <<< g)).getLsbD k = if k = g then decide (g < 8) else x.getLsbD k := by
  rw [BitVec.getLsbD_or, getLsbD_one_shift]
  split
  · next h =>
    subst h
    by_cases h8 : k < 8
    · simp [h8]
    · simp [h8, getLsbD_high x k h8]
  · next h => simp [h]

theorem getLsbD_clear : (x &&& ~~~(1#8 <<< g)).getLsbD k = if k = g then false else x.getLsbD k := by
  rw [BitVec.getLsbD_and, BitVec.getLsbD_not, getLsbD_one_shift]
  by_cases h8 : k < 8
  · by_cases h : k = g
    · subst h; simp [h8]
    · simp [h8, h]
  · simp [h8, getLsbD_high x k h8]

theorem getLsbD_flip : (x ^^^ (1#8 <<< g)).getLsbD k = if k = g then (x.getLsbD g ^^ decide (g < 8)) else x.getLsbD k := by
  rw [BitVec.getLsbD_xor, getLsbD_one_shift]
  split
  · next h => subst h; simp
  · next h => simp [h]

end

theorem ite_at {α : Type} (f : Nat → α) (k g : Nat) : (if k = g then f g else f k) = f k := by
  split
  · next h => rw [h]
  · rfl

theorem State.aliveBits_aliveStep (s : State) (g k : Nat) : (s.aliveStep g).aliveBits k =
    if k = g then s.tickBits g (s.aliveBits g) else s.aliveBits k := by
  have hok : s.aliveOk g = s.ticks g (s.aliveBits g) := rfl
  have hrun : ((s.aliveStep g).flt.aliveRun).getLsbD k =
      if k = g then decide (g < 8) && s.ticks g (s.aliveBits g) else s.flt.aliveRun.getLsbD k := by
    unfold State.aliveStep
    rw [hok]
    cases s.ticks g (s.aliveBits g)
    · refine (getLsbD_clear s.flt.aliveRun g k).trans ?_
      rw [Bool.and_false]
    · have hset := getLsbD_set s.flt.aliveRun g k
      rw [Bool.and_true]
      cases s.mod.hedgeV <;> exact hset
  have hout : ((s.aliveStep g).flt.alive).getLsbD k = if k = g then
      (s.flt.alive.getLsbD g ^^ (decide (g < 8) && s.mod.hedgeV && s.ticks g (s.aliveBits g))) else s.flt.alive.getLsbD k := by
    unfold State.aliveStep
    rw [hok]
    cases s.ticks g (s.aliveBits g)
    · rw [Bool.and_false, Bool.xor_false, ite_at]
      rfl
    · rw [if_pos rfl, Bool.and_true]
      dsimp only
      cases s.mod.hedgeV
      · rw [Bool.and_false, Bool.xor_false, ite_at]
        rfl
      · rw [Bool.and_true]
        exact getLsbD_flip s.flt.alive g k
  unfold State.aliveBits State.tickBits
  rw [hrun, hout]
  split
  · rfl
  · rfl

/-- What a tick leaves (R381). -/
theorem State.aliveTick_spec {s : State} (ht : s.flt.ticking = true) (hm : s.mod.on = true) :
    (∀ g, g < 8 → s.aliveTick.aliveBits g = s.tickBits g (s.aliveBits g)) ∧
    (s.mod.hedgeV = false → s.aliveTick.mod = s.mod ∧ s.aliveTick.emits = s.emits) ∧
    s.aliveTick = { s with flt := s.aliveTick.flt, mod := s.aliveTick.mod, emits := s.aliveTick.emits } := by
  refine ⟨fun g hg => ?_, fun hh => ?_, State.parts.2 (by simp [State.aliveTick_kept ..])⟩
  · rw [State.aliveTick_runs ht hm]
    refine foldl_pointwise State.aliveBits State.aliveStep s.tickBits (SameGroups s)
      (fun u k h => h.aliveStep k) (fun u k h => ?_) (fun u x k hk => ?_) List.nodup_range ⟨fun _ => rfl, fun _ => rfl, rfl⟩
      (List.mem_range.2 hg)
    · rw [State.aliveBits_aliveStep, if_pos rfl, State.tickBits, State.tickBits, h.ticks, h.hedge]
    · rw [State.aliveBits_aliveStep, if_neg hk]
  · rw [State.aliveTick_runs ht hm]
    have hstep : ∀ u : State, u.mod = s.mod → ∀ g, (u.aliveStep g).mod = s.mod ∧ (u.aliveStep g).emits = u.emits := by
      intro u hu g
      unfold State.aliveStep
      have hoff : ¬ u.mod.hedgeV = true := by rw [hu, hh]; exact Bool.false_ne_true
      dsimp only
      rw [if_neg hoff]
      split <;> exact ⟨hu, rfl⟩
    have hall : ∀ (l : List Nat) (u : State), u.mod = s.mod →
        (l.foldl State.aliveStep u).mod = s.mod ∧ (l.foldl State.aliveStep u).emits = u.emits := by
      intro l
      induction l with
      | nil => exact fun u hu => ⟨hu, rfl⟩
      | cons g r ih =>
        intro u hu
        obtain ⟨hm', he⟩ := ih (u.aliveStep g) (hstep u hu g).1
        exact ⟨hm', he.trans (hstep u hu g).2⟩
    exact hall _ s rfl

/-! ## Entries of a sparse table that one write leaves -/

theorem mem_of_mem_tdel {α : Type} {k : Nat} {e : Nat × α} {t : Tab α} (h : e ∈ tdel k t) : e ∈ t := by
  induction t with
  | nil => exact h
  | cons p r ih =>
    unfold tdel at h
    split at h
    · exact List.mem_cons_of_mem p (ih h)
    · exact (List.mem_cons.1 h).elim (fun he => he ▸ List.mem_cons_self) fun hm => List.mem_cons_of_mem p (ih hm)

theorem mem_of_mem_tins {α : Type} {k : Nat} {v : α} {e : Nat × α} {t : Tab α} (h : e ∈ tins k v t) :
    e ∈ t ∨ e = (k, v) := by
  induction t with
  | nil => exact .inr (List.mem_singleton.1 h)
  | cons p r ih =>
    unfold tins at h
    split_ifs at h
    · exact (List.mem_cons.1 h).elim .inr .inl
    · exact (List.mem_cons.1 h).elim .inr fun hm => .inl (List.mem_cons_of_mem p hm)
    · exact (List.mem_cons.1 h).elim (fun he => .inl (he ▸ List.mem_cons_self)) fun hm =>
        (ih hm).imp_left (List.mem_cons_of_mem p)

theorem mem_of_mem_tput {α : Type} [DecidableEq α] {d : Nat → α} {k : Nat} {v : α} {e : Nat × α} {t : Tab α}
    (h : e ∈ tput d t k v) : e ∈ t ∨ e = (k, v) := by
  unfold tput at h
  split at h
  · exact .inl (mem_of_mem_tdel h)
  · exact mem_of_mem_tins h

theorem mem_tdel_other {α : Type} {k : Nat} {e : Nat × α} {t : Tab α} (h : e ∈ t) (hk : e.1 ≠ k) : e ∈ tdel k t := by
  induction t with
  | nil => exact h
  | cons p r ih =>
    unfold tdel
    rcases List.mem_cons.1 h with rfl | hm
    · rw [if_neg fun he => hk he.symm]
      exact List.mem_cons_self
    · split
      · exact ih hm
      · exact List.mem_cons_of_mem p (ih hm)

theorem mem_tins_other {α : Type} {k : Nat} {v : α} {e : Nat × α} {t : Tab α} (h : e ∈ t) (hk : e.1 ≠ k) :
    e ∈ tins k v t := by
  induction t with
  | nil => exact absurd h List.not_mem_nil
  | cons p r ih =>
    unfold tins
    split_ifs with _ heq
    · exact List.mem_cons_of_mem _ h
    · rcases List.mem_cons.1 h with rfl | hm
      · exact absurd heq.symm hk
      · exact List.mem_cons_of_mem _ hm
    · rcases List.mem_cons.1 h with rfl | hm
      · exact List.mem_cons_self
      · exact List.mem_cons_of_mem _ (ih hm)

theorem mem_tput_other {α : Type} [DecidableEq α] {d : Nat → α} {k : Nat} {v : α} {e : Nat × α} {t : Tab α} (h : e ∈ t)
    (hk : e.1 ≠ k) : e ∈ tput d t k v := by
  unfold tput
  split
  · exact mem_tdel_other h hk
  · exact mem_tins_other h hk

/-! ## Unit resets that end -/

/-- Whether the end of a unit's reset acts: it was ordered, and Dorsen runs where it is a pipeline's or a pipeline die's. -/
def State.resetDue (s : State) (d un : Nat) : Bool :=
  decide ((d, un) ∈ s.flt.resetting) && !(decide (8 ≤ d) && decide (d < 10) && !s.shedLive)

/-- The state that judges the reset: the order is gone, and a die's link is trained. -/
def State.resetTrained (s : State) (d un : Nat) : State :=
  let u := s.modFlt fun f => { f with resetting := removeFrom f.resetting (d, un) }
  if d < 10 ∧ un = 0xFF then u.trainLink d else u

/-- Whether a reset fails (R379, R399). -/
def State.resetFailed (s : State) (d un : Nat) : Bool :=
  s.failedTwice d un || s.flt.sources.any fun e => sourceOfUnit d un e.1 && e.2.live

theorem State.endReset_idle {s : State} {d un : Nat} (h : s.resetDue d un = false) : s.endReset d un = s := by
  refine if_pos ?_
  unfold State.resetDue at h
  revert h
  cases decide ((d, un) ∈ s.flt.resetting) <;> simp

theorem State.endReset_due {s : State} {d un : Nat} (h : s.resetDue d un = true) : s.endReset d un =
    if (s.resetTrained d un).resetFailed d un then
      (s.resetTrained d un).modFlt fun f => { f with resetFails := inc64 f.resetFails }
    else ((s.resetTrained d un).modFlt fun f =>
      { f with pruned := f.pruned.filter fun x => !decide (x ∈ subUnits d un) }).returnUnit d un := by
  refine if_neg ?_
  unfold State.resetDue at h
  simp only [Bool.and_eq_true, Bool.not_eq_true'] at h
  rw [h.1, h.2]
  exact Bool.false_ne_true

theorem State.resetDue_false {s : State} {d un : Nat}
    (h : (d, un) ∉ s.flt.resetting ∨ (8 ≤ d ∧ d < 10 ∧ s.shedLive = false)) : s.resetDue d un = false := by
  unfold State.resetDue
  rcases h with h | ⟨h8, h10, hs⟩
  · rw [decide_eq_false h]; rfl
  · rw [decide_eq_true h8, decide_eq_true h10, hs]; exact Bool.and_false _

theorem State.resetDue_true {s : State} {d un : Nat} (h : (d, un) ∈ s.flt.resetting)
    (hs : 8 ≤ d → d < 10 → s.shedLive = true) : s.resetDue d un = true := by
  unfold State.resetDue
  rw [decide_eq_true h, Bool.true_and, Bool.not_eq_true', Bool.and_eq_false_imp]
  intro hd
  rw [Bool.and_eq_true, decide_eq_true_eq, decide_eq_true_eq] at hd
  rw [hs hd.1 hd.2]
  rfl

/-- What `resetEnds` adds to the end of a reset, but for a bed that is back. -/
theorem State.resetEnds_plain {s : State} {d un : Nat} (h : (d, un) ∉ s.flt.resetting ∨ 8 ≤ d ∨ 36 ≤ un ∨
    (s.endReset d un).isPruned d un = true) : s.resetEnds d un = s.endReset d un := by
  unfold State.resetEnds
  dsimp only
  refine if_neg ?_
  simp only [Bool.and_eq_true, Bool.not_eq_true', decide_eq_true_eq]
  rintro ⟨⟨⟨⟨⟨hw, h8⟩, h36⟩, hp⟩, -⟩, -⟩
  rcases h with h | h | h | h
  · exact h hw
  · omega
  · omega
  · rw [hp] at h
    exact Bool.false_ne_true h

/-- A bed that is back leaves the prunes and what is no part of the streams. -/
theorem State.resetEnds_leaves (s : State) (d un : Nat) : (s.resetEnds d un).flt = (s.endReset d un).flt ∧
    (s.resetEnds d un).rings = s.rings ∧ (s.resetEnds d un).alm = s.alm ∧ (s.resetEnds d un).cal = s.cal ∧
    (s.resetEnds d un).gauge = s.gauge ∧ (s.resetEnds d un).clk = s.clk := by
  unfold State.resetEnds
  dsimp only
  split
  · simp only [State.bedBack_kept .., State.endReset_kept .., and_self]
  · simp only [State.endReset_kept .., and_self]

theorem State.not_mem_removeFrom {α : Type} [DecidableEq α] (l : List α) (x : α) : x ∉ removeFrom l x := by
  unfold removeFrom
  simp

/-- A cause that is gone, of a source that is not LIVE or that another source is. -/
theorem State.mem_sources_causeGone {s : State} {id : Nat} {e : Nat × Source} (h : e ∈ (s.causeGone id).flt.sources) :
    e ∈ s.flt.sources ∨ e = (id, { s.source id with cause := false }) := mem_of_mem_tput (d := fun _ => ({} : Source)) h

theorem State.source_listed (s : State) (id : Nat) : (id, s.source id) ∈ s.flt.sources ∨ s.source id = {} := by
  unfold State.source
  induction s.flt.sources with
  | nil => exact .inr rfl
  | cons p r ih =>
    unfold tget
    split
    · next h => exact .inl (h ▸ List.mem_cons_self)
    · exact ih.imp_left (List.mem_cons_of_mem p)

/-- Where no listed source of a kind is LIVE, none is after a cause is gone. -/
theorem State.causeGone_still {s : State} {p : Nat → Bool} (h : ∀ e ∈ s.flt.sources, p e.1 = true → e.2.live = false)
    (id : Nat) : ∀ e ∈ (s.causeGone id).flt.sources, p e.1 = true → e.2.live = false := by
  intro e he hp
  rcases State.mem_sources_causeGone he with hm | rfl
  · exact h e hm hp
  · rcases s.source_listed id with hl | hl
    · have hlive := h _ hl hp
      unfold Source.live at hlive ⊢
      rw [Bool.or_eq_false_iff] at hlive
      exact Bool.or_eq_false_iff.2 ⟨rfl, hlive.2⟩
    · rw [hl]; rfl

/-- What the training of a die's link leaves. -/
theorem State.trainLink_spec (s : State) (d : Nat) : (s.trainLink d).link d = {} ∧
    (s.trainLink d).flt.pruned = s.flt.pruned ∧ (s.trainLink d).flt.resetting = s.flt.resetting ∧
    (s.trainLink d).flt.resetFails = s.flt.resetFails ∧
    s.trainLink d = { s with flt := (s.trainLink d).flt, links := (s.trainLink d).links } :=
  ⟨(s.link_modLink d d fun _ => {}).trans (if_pos rfl), rfl, rfl, rfl, rfl⟩

theorem State.trainLink_still {s : State} {p : Nat → Bool} (h : ∀ e ∈ s.flt.sources, p e.1 = true → e.2.live = false)
    (d : Nat) : ∀ e ∈ (s.trainLink d).flt.sources, p e.1 = true → e.2.live = false :=
  State.causeGone_still (State.causeGone_still (s := s.modLink d fun _ => {}) h (0xF00 + 16 * d)) (0xF01 + 16 * d)

/-- Training clears the causes of the link's own two sources alone (R20). -/
theorem State.mem_sources_trainLink {s : State} {d : Nat} {e : Nat × Source} (h : e ∈ s.flt.sources)
    (h0 : e.1 ≠ 0xF00 + 16 * d) (h1 : e.1 ≠ 0xF01 + 16 * d) : e ∈ (s.trainLink d).flt.sources :=
  mem_tput_other (d := fun _ => ({} : Source)) (mem_tput_other (d := fun _ => ({} : Source)) h h0) h1

theorem State.resetTrained_other {s : State} {d un : Nat} (h : ¬ (d < 10 ∧ un = 0xFF)) :
    s.resetTrained d un = s.modFlt fun f => { f with resetting := removeFrom f.resetting (d, un) } := if_neg h

theorem State.resetTrained_link {s : State} {d : Nat} (h : d < 10) : s.resetTrained d 0xFF =
    (s.modFlt fun f => { f with resetting := removeFrom f.resetting (d, 0xFF) }).trainLink d := if_pos ⟨h, rfl⟩

theorem State.resetTrained_leaves (s : State) (d un : Nat) :
    (s.resetTrained d un).flt.pruned = s.flt.pruned ∧ (d, un) ∉ (s.resetTrained d un).flt.resetting ∧
    (s.resetTrained d un).flt.resetFails = s.flt.resetFails ∧
    (s.resetTrained d un).failedTwice d un = s.failedTwice d un := by
  by_cases h : d < 10 ∧ un = 0xFF
  · obtain ⟨hd, rfl⟩ := h
    rw [State.resetTrained_link hd]
    exact ⟨rfl, State.not_mem_removeFrom _ _, rfl, rfl⟩
  · rw [State.resetTrained_other h]
    exact ⟨rfl, State.not_mem_removeFrom _ _, rfl, rfl⟩

theorem State.resetFailed_false {s : State} {d un : Nat} (h2 : s.failedTwice d un = false)
    (hl : ∀ e ∈ s.flt.sources, sourceOfUnit d un e.1 = true → e.2.live = false) : s.resetFailed d un = false := by
  unfold State.resetFailed
  rw [h2, Bool.false_or, List.any_eq_false]
  intro e he
  rw [Bool.and_eq_true]
  rintro ⟨hs, hlive⟩
  rw [hl e he hs] at hlive
  exact Bool.false_ne_true hlive

theorem State.resetFailed_true {s : State} {d un : Nat} (h : s.failedTwice d un = true ∨
    ∃ e ∈ s.flt.sources, sourceOfUnit d un e.1 = true ∧ e.2.live = true) : s.resetFailed d un = true := by
  unfold State.resetFailed
  rcases h with h | ⟨e, he, hs, hl⟩
  · rw [h]; rfl
  · rw [Bool.or_eq_true]
    exact .inr (List.any_eq_true.2 ⟨e, he, by rw [hs, hl]; rfl⟩)

/-- A rail that has lost its spare phases raises its source: no unit is pruned by it. -/
theorem State.sparesLost_flt (s : State) : s.sparesLost.flt.pruned = s.flt.pruned ∧
    s.sparesLost.flt.resetting = s.flt.resetting := by
  have hrec (u : State) : (u.recordRaise 0xD80).flt.pruned = u.flt.pruned ∧
      (u.recordRaise 0xD80).flt.resetting = u.flt.resetting := by
    unfold State.recordRaise
    dsimp only
    split_ifs
    · exact ⟨rfl, rfl⟩
    · simp [State.raise_kept ..]
  unfold State.sparesLost
  dsimp only
  split_ifs
  · exact hrec _
  · exact hrec _
  · exact ⟨rfl, rfl⟩

/-- The return of a unit leaves the prunes and the orders. -/
theorem State.returnUnit_flt (s : State) (d un : Nat) : (s.returnUnit d un).flt.pruned = s.flt.pruned ∧
    (s.returnUnit d un).flt.resetting = s.flt.resetting := by
  simp [State.ite_kept .., State.returnUnit, State.modStack, State.modSlot, State.reloadCopy_kept ..,
    State.restoreCells_kept .., State.reloadPipe_kept .., State.returnPorts_kept .., State.judgeAll_kept ..]
  split_ifs <;> simp [State.sparesLost_flt]

/-- Settles O46: the tick group by group, the pulse output by output, and the end of a reset through the state that judges
it. -/
theorem aliveTicksAndReturns : Obligations.AliveTicksAndReturns := by
  unfold Obligations.AliveTicksAndReturns
  intro s t
  refine ⟨?still, ?tick, ?pulse, ?idle, ?back, ?failed, ?link⟩
  case still =>
    intro h
    refine congrArg Host.Outcome.next (if_pos ?_)
    rcases h with h | h
    · rw [show (s.at t).flt.ticking = false from h]; rfl
    · rw [show (s.at t).mod.on = false from h]; exact Bool.or_true _
  case tick =>
    intro ht hm
    obtain ⟨hbits, hoff, hframe⟩ := State.aliveTick_spec (s := s.at t) ht hm
    refine ⟨_, rfl, fun g hg => ?_, hoff, hframe⟩
    have hg' := hbits g hg
    have hrun := congrArg Prod.fst hg'
    have hout := congrArg Prod.snd hg'
    unfold State.tickBits at hrun hout
    rw [decide_eq_true hg, Bool.true_and] at hrun hout
    exact ⟨hrun, hout⟩
  case pulse =>
    intro o ho
    refine (exec_alertPulseEnd t s ho).trans (congrArg Host.Outcome.next ?_)
    unfold State.pulseEnds State.modFlt
    rcases (by omega : o = 0 ∨ o = 1) with rfl | rfl
    · by_cases h : s.flt.pulse0 ≤ t <;> simp [h, State.at]
    · by_cases h : s.flt.pulse1 ≤ t <;> simp [h, State.at]
  case idle =>
    intro d un hd h
    have hidle := State.endReset_idle (State.resetDue_false (s := s.at t) h)
    refine (exec_unitResetEnd t un s hd).trans (congrArg Host.Outcome.next ?_)
    exact (State.resetEnds_plain (s := s.at t) (h.imp_right fun h8 => .inl h8.1)).trans hidle
  case back =>
    intro d un hd hun hr hs h2 hl
    have hdue := State.resetDue_true (s := s.at t) hr hs
    obtain ⟨hpr, hres, -, htw⟩ := (s.at t).resetTrained_leaves d un
    have hstill : ∀ e ∈ ((s.at t).resetTrained d un).flt.sources, sourceOfUnit d un e.1 = true → e.2.live = false := by
      by_cases h : d < 10 ∧ un = 0xFF
      · obtain ⟨h10, rfl⟩ := h
        rw [State.resetTrained_link h10]
        exact State.trainLink_still (s := (s.at t).modFlt fun f => { f with resetting := removeFrom f.resetting (d, 0xFF) })
          (p := sourceOfUnit d 0xFF) hl d
      · rw [State.resetTrained_other h]
        exact hl
    have hend := (State.endReset_due hdue).trans (if_neg (by
      rw [State.resetFailed_false (htw.trans h2) hstill]; exact Bool.false_ne_true))
    obtain ⟨hflt, hrings, halm, hcal, hgauge, hclk⟩ := (s.at t).resetEnds_leaves d un
    obtain ⟨hpr', hres'⟩ := (((s.at t).resetTrained d un).modFlt fun f =>
      { f with pruned := f.pruned.filter fun x => !decide (x ∈ subUnits d un) }).returnUnit_flt d un
    refine ⟨_, exec_unitResetEnd t un s (by omega), ?_, fun x => ?_, hrings, halm, hcal, hgauge, hclk⟩
    · rw [hflt, hend, hres']
      exact hres
    · rw [hflt, hend, hpr']
      show x ∈ ((s.at t).resetTrained d un).flt.pruned.filter (fun x => !decide (x ∈ subUnits d un)) ↔ _
      rw [hpr, List.mem_filter]
      simp
  case failed =>
    intro d un hd hun hr hff hs hbed hfail
    have hdue := State.resetDue_true (s := s.at t) hr hs
    have hno : ¬ (d < 10 ∧ un = 0xFF) := fun h => hff h.1 h.2
    have htr := State.resetTrained_other (s := s.at t) hno
    have hend := (State.endReset_due hdue).trans (if_pos (by
      rw [htr]
      exact State.resetFailed_true (s := (s.at t).modFlt fun f => { f with resetting := removeFrom f.resetting (d, un) })
        hfail))
    rw [htr] at hend
    have hplain : (s.at t).resetEnds d un = (s.at t).endReset d un := by
      refine State.resetEnds_plain (.inr ?_)
      by_cases h8 : d < 8
      · by_cases h36 : un < 36
        · rw [hend]
          exact .inr (.inr (hbed h8 h36))
        · exact .inr (.inl (by omega))
      · exact .inl (by omega)
    refine ⟨_, exec_unitResetEnd t un s (by omega), ?_⟩
    rw [hplain, hend]
    exact ⟨rfl, State.not_mem_removeFrom _ _, rfl, rfl⟩
  case link =>
    rintro d hd hr hs ⟨e, he, hsrc, hlive, h0, h1⟩
    have hdue := State.resetDue_true (s := s.at t) hr fun h8 _ => hs h8
    have htr := State.resetTrained_link (s := s.at t) hd
    have hmem : e ∈ ((s.at t).resetTrained d 0xFF).flt.sources := by
      rw [htr]
      exact State.mem_sources_trainLink
        (s := (s.at t).modFlt fun f => { f with resetting := removeFrom f.resetting (d, 0xFF) }) he h0 h1
    have hend := (State.endReset_due hdue).trans (if_pos (State.resetFailed_true (.inr ⟨e, hmem, hsrc, hlive⟩)))
    obtain ⟨hpr, hres, hfails, -⟩ := (s.at t).resetTrained_leaves d 0xFF
    have hplain : (s.at t).resetEnds d 0xFF = (s.at t).endReset d 0xFF :=
      State.resetEnds_plain (.inr (.inr (.inl (by omega))))
    refine ⟨_, exec_unitResetEnd t 0xFF s (by omega), ?_⟩
    rw [hplain, hend]
    refine ⟨hpr, hres, congrArg inc64 hfails, ?_, ?_⟩
    · rw [htr]
      exact (State.trainLink_spec _ d).1
    · rw [htr]
      rfl

end Sys2Proof.Machine
end

section
/-! PROOFS. The gauge port, the seal and RG_KEEP (R425, R428, R429, R455). -/

namespace Sys2Proof.Machine

/-! ## Sources of no unit -/

/-- What a raise of a source of no unit leaves besides the records: the interrupts and the alerts. -/
structure RaisedAlone (s u : State) : Prop where
  pruned : u.flt.pruned = s.flt.pruned
  frame : u = { s with flt := u.flt, irq := u.irq, allots := u.allots, emits := u.emits }

section
variable {s u v : State} {id : Nat}

theorem RaisedAlone.refl (s : State) : RaisedAlone s s := ⟨rfl, rfl⟩

theorem RaisedAlone.trans (h : RaisedAlone s u) (g : RaisedAlone u v) : RaisedAlone s v :=
  ⟨g.pruned.trans h.pruned, g.frame.trans (by rw [h.frame])⟩

/-- A raise after a change of the gauge and the collector. -/
theorem RaisedAlone.frame_gauge (h : RaisedAlone u v) (hu : u = { s with gauge := u.gauge, flt := u.flt }) :
    v = { s with gauge := v.gauge, flt := v.flt, irq := v.irq, allots := v.allots, emits := v.emits } := by
  have hg := congrArg State.gauge h.frame
  rw [hg]
  exact h.frame.trans (by rw [hu])

theorem RaisedAlone.recordRaise (s : State) (id : Nat) (forced : Bool) : RaisedAlone s (s.recordRaise id forced) where
  pruned := by
    unfold State.recordRaise
    dsimp only
    split_ifs
    · rfl
    · simp [State.raise_kept ..]
  frame := State.parts.2 (by simp [State.recordRaise_kept ..])

theorem RaisedAlone.alert (s : State) (out : Nat) : RaisedAlone s (s.alert out) := by
  unfold State.alert
  refine ⟨?_, rfl⟩
  dsimp only [State.modFlt]
  split <;> rfl

/-- The reaction of a source of no unit is an alert at most (R378). -/
theorem State.react_unitless (hu : unitOf id = none) (s : State) (c : Nat) :
    s.react id c = s ∨ s.react id c = s.alert 0 ∨ s.react id c = s.alert 1 := by
  unfold State.react
  split
  · exact .inl rfl
  · split_ifs
    · exact .inr (.inl rfl)
    · exact .inr (.inr rfl)
    · exact .inl rfl
  · rw [hu]
    exact .inl rfl

theorem RaisedAlone.react (hu : unitOf id = none) (s : State) (c : Nat) : RaisedAlone s (s.react id c) := by
  rcases State.react_unitless hu s c with h | h | h <;> rw [h]
  · exact .refl s
  · exact .alert s 0
  · exact .alert s 1

theorem RaisedAlone.raised (hu : unitOf id = none) (s : State) (forced : Bool) : RaisedAlone s (s.raised id forced) := by
  unfold State.raised
  split
  · exact .refl s
  · exact (RaisedAlone.recordRaise s id forced).trans (.react hu _ _)

theorem RaisedAlone.pulseFault (hu : unitOf id = none) (s : State) : RaisedAlone s (s.pulseFault id) := by
  unfold State.pulseFault
  split
  · exact .refl s
  · exact .raised hu s false

theorem RaisedAlone.modSource (s : State) (id : Nat) (f : Source → Source) : RaisedAlone s (s.modSource id f) := ⟨rfl, rfl⟩

theorem RaisedAlone.raiseFault (hu : unitOf id = none) (s : State) : RaisedAlone s (s.raiseFault id) := by
  unfold State.raiseFault
  dsimp only
  split
  · exact .refl s
  · split
    · exact .modSource s id _
    · exact (RaisedAlone.modSource s id _).trans (.raised hu _ false)

/-- A raise keeps the cause of every source. -/
theorem State.cause_recordRaise (s : State) (id k : Nat) (forced : Bool) :
    ((s.recordRaise id forced).source k).cause = (s.source k).cause := by
  unfold State.recordRaise
  dsimp only
  split_ifs
  · rfl
  · rw [State.source_raise, State.source_modErrRec, State.source_modErrRec, State.source_modSource]
    split
    · next h => rw [h]
    · rfl

theorem State.source_alert (s : State) (out k : Nat) : (s.alert out).source k = s.source k := by
  unfold State.alert State.modFlt State.source
  dsimp only
  split <;> rfl

/-- The cause of a source of no unit that is raised is present. -/
theorem State.cause_raiseFault (hu : unitOf id = none) (hin : (sourceInfo id).isSome = true) (s : State) :
    ((s.raiseFault id).source id).cause = true := by
  rw [State.raiseFault_of_listed hin]
  have hset : ((s.causeSet id).source id).cause = true := by rw [State.source_causeSet, if_pos rfl]
  dsimp only
  split
  · exact hset
  · unfold State.raised
    split
    · exact hset
    · have hrec := (State.cause_recordRaise (s.causeSet id) id id false).trans hset
      rcases State.react_unitless hu ((s.causeSet id).recordRaise id false) ((s.causeSet id).classOf id) with h | h | h <;>
        rw [h]
      · exact hrec
      · rw [State.source_alert]; exact hrec
      · rw [State.source_alert]; exact hrec

end

/-! ## The port -/

/-- A record that leaves the port in its frame, or that is passed over. -/
def State.gaugeOut (s : State) (seq : Nat) : State :=
  match s.gauge.find seq with
  | some r => s.emit (.gauge s.now seq (gaugeFrame 2 r.bytes))
  | none => s

theorem State.gaugeOut_none {s : State} {x : Nat} (h : s.gauge.find x = none) : s.gaugeOut x = s := by
  unfold State.gaugeOut; rw [h]

theorem State.gaugeOut_some {s : State} {x : Nat} {k : GaugeRec} (h : s.gauge.find x = some k) :
    s.gaugeOut x = s.emit (.gauge s.now x (gaugeFrame 2 k.bytes)) := by
  unfold State.gaugeOut; rw [h]

section
variable {s : State}

theorem State.gaugePort_off (h : s.gauge.powered = false ∨ s.mod.hedgeV = false) : s.gaugePort = false := by
  unfold State.gaugePort
  rcases h with h | h <;> rw [h]
  · rfl
  · exact Bool.and_false _

theorem State.gaugePort_on (hp : s.gauge.powered = true) (hh : s.mod.hedgeV = true) : s.gaugePort = true := by
  unfold State.gaugePort
  rw [hp, hh]
  rfl

theorem State.gaugeSend_off (h : s.gaugePort = false) : s.gaugeSend = s := if_pos (by rw [h]; rfl)

theorem State.gaugeSend_replay (h : s.gaugePort = true) {x : Nat} {r : List Nat} (hr : s.gauge.replay = some (x :: r)) :
    s.gaugeSend = (s.gaugeOut x).modGauge fun g => { g with replay := if r.isEmpty then none else some r } := by
  refine (if_neg (by rw [h]; exact Bool.false_ne_true)).trans ?_
  rw [hr]
  rfl

/-- Without a replay the port serves the records that wait. -/
theorem State.gaugeSend_waiting (h : s.gaugePort = true) (hr : s.gauge.replay = none ∨ s.gauge.replay = some []) :
    s.gaugeSend = match s.gauge.toSend with
      | [] => s
      | x :: r => (s.gaugeOut x).modGauge fun g => { g with toSend := r } := by
  refine (if_neg (by rw [h]; exact Bool.false_ne_true)).trans ?_
  rcases hr with hr | hr <;> rw [hr] <;> rfl

theorem State.gaugeReplay_off (h : s.gaugePort = false) : s.gaugeReplay = s := if_pos (by rw [h]; rfl)

theorem State.gaugeReplay_on (h : s.gaugePort = true) : s.gaugeReplay =
    (s.emit (.gauge s.now 0 (gaugeFrame 1 Config.keyBlock))).modGauge fun g =>
      { g with replay := if (s.gauge.records.map (·.seq)).isEmpty then none else some (s.gauge.records.map (·.seq)) } :=
  if_neg (by rw [h]; exact Bool.false_ne_true)

theorem State.sealOpens_on (h : s.gauge.powered = true) : s.sealOpens =
    ((s.modGauge fun g => { g with sealOpen := true, flags := { g.flags with sealOpen := true } }).alert 1).raiseFault 0xE00 :=
  if_neg (by rw [h]; exact Bool.false_ne_true)

theorem State.gaugeReturns_lost (h : s.gauge.powered = false) : s.gaugeReturns =
    (s.modGauge fun g => { g with powered := true, restarting := true,
                                  flags := { sealOpen := s.gauge.sealOpen, moduleOff := !s.mod.on } }).pulseFault 0xE01 :=
  if_neg (by rw [h]; exact Bool.false_ne_true)

/-- A raise leaves the end of the ALERT1 pulse. -/
theorem State.pulse1_recordRaise (s : State) (id : Nat) (forced : Bool) :
    (s.recordRaise id forced).flt.pulse1 = s.flt.pulse1 := by
  unfold State.recordRaise
  dsimp only
  split_ifs
  · rfl
  · simp [State.raise_kept ..]

/-- The opened seal pulses ALERT1, and its source's reaction pulses it again at most (R428). -/
theorem State.pulse1_raiseFault (hp : s.flt.pulse1 = s.now + 20000000) :
    (s.raiseFault 0xE00).flt.pulse1 = s.now + 20000000 := by
  rw [State.raiseFault_of_listed (by decide)]
  dsimp only
  have hset : (s.causeSet 0xE00).flt.pulse1 = s.now + 20000000 := hp
  split
  · exact hset
  · unfold State.raised
    split
    · exact hset
    · have hrec := (State.pulse1_recordRaise (s.causeSet 0xE00) 0xE00 false).trans hset
      have hnow : ((s.causeSet 0xE00).recordRaise 0xE00 false).now = s.now := by simp only [State.recordRaise_kept ..]; rfl
      rcases State.react_unitless (id := 0xE00) (by decide) ((s.causeSet 0xE00).recordRaise 0xE00 false)
        ((s.causeSet 0xE00).classOf 0xE00) with h | h | h <;> rw [h]
      · exact hrec
      · exact hrec
      · exact congrArg (· + 20000000) hnow

end

/-- Settles O53: the port by what waits at it, the seal and the supply by the raise of their sources. -/
theorem gaugePortAndSeal : Obligations.GaugePortAndSeal := by
  unfold Obligations.GaugePortAndSeal
  refine ⟨fun k l => ⟨_, rfl, rfl⟩, fun s t => ⟨fun h => ?off, fun hp hh => ⟨fun hr => ⟨fun hw => ?none, fun x r hw => ?sent⟩,
    fun x r hr => ?replayed, ?replay⟩, fun h => ?sealOff, fun h => ?sealOpen, fun h _ => ?sealLog, ⟨_, rfl, rfl⟩,
    fun h => ?kept, fun h => ?back⟩⟩
  case off =>
    have hoff := State.gaugePort_off (s := s.at t) h
    exact ⟨congrArg Host.Outcome.next (State.gaugeSend_off hoff), congrArg Host.Outcome.next (State.gaugeReplay_off hoff)⟩
  case none =>
    refine congrArg Host.Outcome.next ((State.gaugeSend_waiting (State.gaugePort_on (s := s.at t) hp hh) hr).trans ?_)
    rw [show (s.at t).gauge.toSend = [] from hw]
  case sent =>
    have hs := State.gaugeSend_waiting (State.gaugePort_on (s := s.at t) hp hh) hr
    rw [show (s.at t).gauge.toSend = x :: r from hw] at hs
    refine ⟨_, congrArg Host.Outcome.next hs, fun hf => ?_, fun k hf => ?_⟩
    · dsimp only
      rw [State.gaugeOut_none (s := s.at t) hf]
      rfl
    · dsimp only
      rw [State.gaugeOut_some (s := s.at t) hf]
      rfl
  case replayed =>
    have hs := State.gaugeSend_replay (State.gaugePort_on (s := s.at t) hp hh) (x := x) (r := r) hr
    have hempty : (if r.isEmpty then none else some r) = if r = [] then none else some r := by cases r <;> rfl
    rw [hempty] at hs
    refine ⟨_, congrArg Host.Outcome.next hs, fun hf => ?_, fun k hf => ?_⟩
    · rw [State.gaugeOut_none (s := s.at t) hf]
      rfl
    · rw [State.gaugeOut_some (s := s.at t) hf]
      rfl
  case replay =>
    have hs := State.gaugeReplay_on (State.gaugePort_on (s := s.at t) hp hh)
    have hempty : (if ((s.at t).gauge.records.map (·.seq)).isEmpty then none else some ((s.at t).gauge.records.map (·.seq))) =
        if s.gauge.records = [] then none else some (s.gauge.records.map (·.seq)) := by
      show (if (s.gauge.records.map (·.seq)).isEmpty then none else some (s.gauge.records.map (·.seq))) = _
      cases s.gauge.records <;> rfl
    rw [hempty] at hs
    exact ⟨_, congrArg Host.Outcome.next hs, rfl⟩
  case sealOff => exact congrArg Host.Outcome.next (if_pos (by rw [show (s.at t).gauge.powered = false from h]; rfl))
  case sealOpen => exact ⟨_, congrArg Host.Outcome.next (State.sealOpens_on (s := s.at t) h), rfl, rfl, rfl, rfl, rfl, rfl⟩
  case sealLog =>
    have hex := State.sealOpens_on (s := s.at t) h
    have hr := RaisedAlone.raiseFault (id := 0xE00) (by decide) (((s.at t).modGauge fun g =>
      { g with sealOpen := true, flags := { g.flags with sealOpen := true } }).alert 1)
    have hg := congrArg State.gauge hr.frame
    have hopen := congrArg Gauge.sealOpen hg
    have hflag := congrArg (fun g : Gauge => g.flags.sealOpen) hg
    have huse := congrArg Gauge.usage hg
    exact ⟨_, congrArg Host.Outcome.next hex, hopen, hflag, huse, State.pulse1_raiseFault rfl,
      State.cause_raiseFault (by decide) (by decide) _, hr.frame_gauge rfl⟩
  case kept => exact congrArg Host.Outcome.next (if_pos h)
  case back =>
    have hr := RaisedAlone.pulseFault (id := 0xE01) (by decide) ((s.at t).modGauge fun g =>
      { g with powered := true, restarting := true, flags := { sealOpen := s.gauge.sealOpen, moduleOff := !s.mod.on } })
    have hg := congrArg State.gauge hr.frame
    exact ⟨_, congrArg Host.Outcome.next (State.gaugeReturns_lost (s := s.at t) h), rfl, hg⟩

end Sys2Proof.Machine
end

section
/-! PROOFS. INTERVAL, TARIFF and RECORD of the Rain Gauge (R302, R304, R422, R427). -/

namespace Sys2Proof.Machine

theorem exec_interval {a : Nat} (t v : Nat) (s : State) (ha : a < 16) :
    exec (.interval t a v) s = .next ((s.at t).orderNumber a 0x50 0 0x01 4 v) := if_pos (decide_eq_true ha)
theorem exec_tariff {a : Nat} (t : Nat) (b : List Byte) (s : State) (ha : a < 16) :
    exec (.tariff t a b) s = .next ((s.at t).orderWrite a 0x50 0 0x02 b) := if_pos (decide_eq_true ha)
theorem exec_record {a : Nat} (t q : Nat) (s : State) (ha : a < 16) :
    exec (.record t a q) s = .next ((s.at t).orderRead a 0x50 0 0x06 (natLe 8 q)) := if_pos (decide_eq_true ha)

theorem spaceOf_gauge : spaceOf 0x50 0 = some (.gauge, 0) := by decide

/-! ## Credits (R304) -/

/-- The state of a change with its credit taken. -/
def State.withCredit (s : State) (a fam inst mem k : Nat) (v : List Byte) : State :=
  { s with alm := { s.alm with
      credits := s.alm.credits.set k (s.alm.credits.getD k 0 - 1),
      changeLog := s.alm.changeLog ++
        [changeRecord fam inst mem a (creditsMade k - s.alm.credits.getD k 0 + 1) s.now v] } }

section
variable {s : State} {fam inst mem k : Nat} {old v : List Byte} (hk : creditOf fam inst mem = some k)
include hk

/-- The value that already stands takes no credit. -/
theorem State.spend_same (a : Nat) (h : old = v) (f : State → Nat × Nat × State) :
    s.spend a fam inst mem old v f = s.ok := by
  unfold State.spend
  rw [hk]
  exact if_pos h

theorem State.spend_spent (a : Nat) (h : old ≠ v) (h0 : s.alm.credits.getD k 0 = 0) (f : State → Nat × Nat × State) :
    s.spend a fam inst mem old v f = s.no 7 := by
  unfold State.spend
  rw [hk]
  exact (if_neg h).trans (if_pos h0)

/-- A change takes its credit, and is logged. -/
theorem State.spend_taken (a : Nat) (h : old ≠ v) (h0 : 0 < s.alm.credits.getD k 0) (f : State → Nat × Nat × State) :
    s.spend a fam inst mem old v f = f (s.withCredit a fam inst mem k v) := by
  unfold State.spend
  rw [hk]
  exact (if_neg h).trans (if_neg (by omega))

end

/-! ## INTERVAL -/

/-- The row of INTERVAL (Table 18.3). -/
def intervalRow : Row := { m0 := 0x01, m1 := 0x01, ty := .u 4, acc := 35, dflt := 60, legal := [(10, 3600)] }

theorem entryRow_interval : entryRow .gauge 0 0x01 = some intervalRow := rfl

/-- An interval brought into its range. -/
def clampInterval (v : Nat) : Nat := if v < 10 then 10 else if 3600 < v then 3600 else v

theorem nearest_interval (v : Nat) : nearest [(10, 3600)] (v : Int) = clampInterval v := by
  show clip v 10 3600 = _
  unfold clip clampInterval
  split_ifs <;> omega

theorem encode_interval (v : Nat) : intervalRow.ty.encode (clampInterval v : Int) = natLe 4 (clampInterval v) := by
  have hlt : clampInterval v < 4294967296 := by unfold clampInterval; split_ifs <;> omega
  have hs : ofSigned (8 * 4) (clampInterval v : Int) = clampInterval v := by
    unfold ofSigned
    have h := Int.emod_eq_of_lt (Int.natCast_nonneg (clampInterval v)) (Int.ofNat_lt.2 hlt)
    exact congrArg Int.toNat h
  show natLe 4 (ofSigned (8 * 4) (clampInterval v : Int)) = _
  rw [hs]

/-- What follows an accepted write of the Gauge changes nothing more. -/
theorem afterWrite_interval (out : Nat × Nat × State) : afterWrite .gauge 0 intervalRow 0 out = out := by
  obtain ⟨st, e, u⟩ := out
  by_cases h : st = 0
  · subst h; rfl
  · exact if_pos h

/-- A value out of range counts a clamp, unless the write is refused (R303). -/
def clampOut (a v w : Nat) (out : Nat × Nat × State) : Nat × Nat × State :=
  if out.1 = 0 ∧ v ≠ w then (0, out.2.1, out.2.2.clamp a) else out

/-- INTERVAL's write spends a credit. -/
theorem State.entryWrite_interval (s : State) (a : Nat) {v : Nat} (hv : v < 4294967296) :
    s.entryWrite a 0x50 0 0x01 .gauge 0 intervalRow (natLe 4 v) =
      clampOut a v (clampInterval v) (s.spend a 0x50 0 0x01 (s.cfg 0x50 0 0x01) (natLe 4 (clampInterval v))
        fun s => (s.setCfg 0x50 0 0x01 (natLe 4 (clampInterval v))).ok) := by
  have hd : (leNat (natLe 4 v) : Int) = v := by rw [leNat_natLe, Nat.mod_eq_of_lt (by omega)]
  have hgo (u : State) : u.writeNumber a 0x50 0 0x01 .gauge 0 intervalRow (clampInterval v) =
      (u.setCfg 0x50 0 0x01 (natLe 4 (clampInterval v))).ok := by rw [← encode_interval]; rfl
  have hl : s.legalNow .gauge 0 0x01 intervalRow = [(10, 3600)] := rfl
  have hscal : s.writeScalar a 0x50 0 0x01 .gauge 0 intervalRow (natLe 4 v) =
      clampOut a v (clampInterval v) (s.spend a 0x50 0 0x01 (s.cfg 0x50 0 0x01) (natLe 4 (clampInterval v))
        fun s => (s.setCfg 0x50 0 0x01 (natLe 4 (clampInterval v))).ok) := by
    have hx : intervalRow.ty.decode (natLe 4 v) = (v : Int) := hd
    have hlen : (natLe 4 v).length = intervalRow.ty.width := natLe_length 4 v
    have hc : creditOf 0x50 0 0x01 = some 0 := rfl
    unfold State.writeScalar clampOut
    simp only [hx, hl, hlen, hc, nearest_interval]
    simp [encode_interval, hgo]
  show afterWrite .gauge 0 intervalRow (s.slotOwner .gauge 0) (s.writeScalar a 0x50 0 0x01 .gauge 0 intervalRow (natLe 4 v)) = _
  rw [hscal]
  exact afterWrite_interval _

/-! ## The three entries -/

section
variable {s : State} {t a v : Nat} (ha : a < 16) (hs : takesAtOnce s t a) (hw : mayWrite s a 0x50 0 0x01)
  (hv : v < 4294967296)
include ha hs hw hv

/-- A change of INTERVAL without a credit is SPENT. -/
theorem interval_spent (hne : s.cfg 0x50 0 0x01 ≠ natLe 4 (clampInterval v)) (h0 : s.alm.credits.getD 0 0 = 0) :
    exec (.interval t a v) s = .next ((s.at t).say 7 [] 0) := by
  refine (exec_interval t v s ha).trans (congrArg Host.Outcome.next ?_)
  refine orderWrite_refused (s := s) (t := t) hs spaceOf_gauge entryRow_interval
    (.inr (mayWrite_right hw spaceOf_gauge entryRow_interval)) (st := 7) (by simp) ?_
  rw [State.entryWrite_interval _ a hv, State.spend_spent (s := s.at t) (old := (s.at t).cfg 0x50 0 0x01) rfl a hne h0]
  exact if_neg fun h => absurd h.1 (show (7 : Nat) ≠ 0 by decide)

/-- The state of a change of INTERVAL. -/
def State.intervalSet (s : State) (a w : Nat) : State :=
  (s.withCredit a 0x50 0 0x01 0 (natLe 4 w)).setCfg 0x50 0 0x01 (natLe 4 w)

theorem interval_taken (hne : s.cfg 0x50 0 0x01 ≠ natLe 4 (clampInterval v)) (h0 : 0 < s.alm.credits.getD 0 0) :
    ∃ u, exec (.interval t a v) s = .next u ∧
      accepted (((s.at t).intervalSet a (clampInterval v)).clampIf a (decide (v ≠ clampInterval v))) u t := by
  refine ⟨_, exec_interval t v s ha, ?_⟩
  refine row_accepted (s := s) (t := t) hs spaceOf_gauge entryRow_interval
    (.inr (mayWrite_right hw spaceOf_gauge entryRow_interval)) ?_
  rw [State.entryWrite_interval _ a hv, State.spend_taken (s := s.at t) (old := (s.at t).cfg 0x50 0 0x01) rfl a hne h0]
  unfold clampOut State.clampIf
  by_cases h : v ≠ clampInterval v
  · rw [if_pos ⟨rfl, h⟩, decide_eq_true h]; rfl
  · rw [if_neg fun e => h e.2, decide_eq_false h]; rfl

theorem interval_same (heq : s.cfg 0x50 0 0x01 = natLe 4 v) (hin : clampInterval v = v) :
    ∃ u, exec (.interval t a v) s = .next u ∧ accepted (s.at t) u t := by
  refine ⟨_, exec_interval t v s ha, ?_⟩
  refine row_accepted (s := s) (t := t) hs spaceOf_gauge entryRow_interval
    (.inr (mayWrite_right hw spaceOf_gauge entryRow_interval)) ?_
  rw [State.entryWrite_interval _ a hv, hin, State.spend_same (s := s.at t) (old := (s.at t).cfg 0x50 0 0x01) rfl a heq]
  exact if_neg fun h => h.2 rfl

end

theorem State.cfgN_intervalSet (s : State) (a : Nat) {w : Nat} (hw : w < 4294967296) :
    (s.intervalSet a w).cfgN 0x50 0 0x01 = w := by
  unfold State.intervalSet State.cfgN
  rw [State.cfg_setCfg_self, leNat_natLe, Nat.mod_eq_of_lt (by omega)]

theorem clampInterval_lt (v : Nat) : clampInterval v < 4294967296 := by unfold clampInterval; split_ifs <;> omega

/-- TARIFF's write (R422, R427). -/
theorem State.writeBlob_tariff (s : State) (a : Nat) (b : List Byte) : s.writeBlob a 0x50 0 0x02 .gauge 0 b =
    if b.length ≠ 68 ∨ fieldAt b 0 4 ≠ 1 then s.no 4
    else s.spend a 0x50 0 0x02 (s.cfg 0x50 0 0x02) (natLe 4 1 ++ natLe 4 0 ++ b.drop 8)
      fun s => (s.setCfg 0x50 0 0x02 (natLe 4 1 ++ natLe 4 0 ++ b.drop 8)).ok := rfl

theorem entryRow_tariff : entryRow .gauge 0 0x02 = some { m0 := 0x02, m1 := 0x02, ty := .blob, acc := 35 } := rfl
theorem entryRow_record : entryRow .gauge 0 0x06 = some { m0 := 0x06, m1 := 0x06, ty := .blob, acc := 1 } := rfl

theorem State.entryRead_record (s : State) (a : Nat) (arg : List Byte) : s.entryRead a 0x50 0 0x06 .gauge 0 arg =
    if arg.length ≠ 8 then (4, [])
    else match s.gauge.find (leNat arg) with
      | some r => (0, r.bytes)
      | none => (1, []) := rfl

/-- A read of an entry that is no counter, with bytes that choose a part of it, looks at the state alone (R287). -/
theorem orderRead_chosen {s : State} {t a fam inst mem : Nat} {arg : List Byte} {sp : Space} {n : Nat} {r : Row}
    (h : takesAtOnce s t a) (hs : spaceOf fam inst = some (sp, n)) (hr : entryRow sp n mem = some r)
    (hw : mayRead s a fam inst mem) (hcount : isCounter sp mem = false) (harg : arg.isEmpty = false)
    {st : Nat} {v : List Byte} (hv : (s.at t).entryRead a fam inst mem sp n arg = (st, v)) :
    (s.at t).orderRead a fam inst mem arg = (s.at t).say st v (if st = 0 then t / 10 * 10 else 0) := by
  have hright : (!recordRead sp mem && !canRead r.acc ((s.at t).rightsMask a fam inst sp n)) = false := by
    have hcan : canRead r.acc ((s.at t).rightsMask a fam inst sp n) = true := mayRead_right hw hs hr
    rw [hcan, Bool.not_true, Bool.and_false]
  have hj : (s.at t).journals = false := (State.at_journals s t).trans (atOnce_journals h)
  have hwait : (s.at t).waits a = false := (State.at_waits s t a).trans (atOnce_waits h)
  have hop : (s.at t).readOp a fam inst mem arg = (st, if st = 0 then t / 10 * 10 else 0, v) := by
    unfold State.readOp
    rw [hs]
    dsimp only
    rw [hr]
    dsimp only
    rw [if_neg (by rw [hright]; exact Bool.false_ne_true)]
    cases (s.at t).copy with
    | some c =>
      dsimp only
      rw [if_neg (by rw [hcount]; exact Bool.false_ne_true), hv]
      rfl
    | none =>
      dsimp only
      rw [hv]
      have hnone : (s.at t).alm.slotOld.find? (fun e => decide (e.1 = (s.at t).now / 10) &&
          decide (e.2.1 = entryKey fam inst mem) && arg.isEmpty) = none := by
        rw [List.find?_eq_none]
        intro e _
        rw [harg, Bool.and_false]
        exact Bool.false_ne_true
      rw [hnone]
      dsimp only
      rw [ite_self]
      rfl
  have hlive : (s.at t).alm.live = true := h.live
  have hrun : (s.at t).runOp a 0 0 1 fam inst mem arg =
      { status := st, at_ := if st = 0 then t / 10 * 10 else 0, data := v, next := s.at t } := by
    simp only [State.runOp, hlive, Bool.not_true, Bool.false_eq_true, if_false, State.runRead, hj, Bool.false_and]
    rw [hop]
  simp only [State.orderRead, State.order, hwait, Bool.and_false, Bool.false_eq_true, if_false]
  rw [hrun]

/-- Settles O54: INTERVAL and TARIFF through the credit that a change spends, RECORD through its read. -/
theorem gaugeEntries : Obligations.GaugeEntries := by
  unfold Obligations.GaugeEntries
  intro s t a ha hs
  refine ⟨fun v h10 h36 hw => ?interval, fun v hv hout hw => ?clamped, fun b hw => ?tariff, fun q hq hr => ?record⟩
  case interval =>
    have hin : clampInterval v = v := by unfold clampInterval; split_ifs <;> omega
    have hv : v < 4294967296 := by omega
    refine ⟨fun h => interval_same ha hs hw hv h hin, fun h => ⟨fun h0 => ?_, fun h0 => ?_⟩⟩
    · exact interval_spent ha hs hw hv (by rw [hin]; exact h) h0
    · obtain ⟨u, hex, hu⟩ := interval_taken ha hs hw hv (by rw [hin]; exact h) h0
      rw [hin, decide_eq_false (not_not.2 rfl)] at hu
      have hu' : accepted ((s.at t).intervalSet a v) u t := hu
      have hcred : u.alm.credits = ((s.at t).intervalSet a v).alm.credits := by rw [hu']
      have hgauge : u.gauge = ((s.at t).intervalSet a v).gauge := by rw [hu']
      exact ⟨u, hex, (accepted_cfgN hu' _ _ _).trans (State.cfgN_intervalSet _ a hv), hcred, hgauge, accepted_answer hu',
        by rw [hu']; rfl⟩
  case clamped =>
    have hclamp : clampInterval v = if v < 10 then 10 else 3600 := by unfold clampInterval; split_ifs <;> omega
    have hne : v ≠ clampInterval v := by rw [hclamp]; split_ifs <;> omega
    rw [← hclamp]
    intro w h
    refine ⟨fun h0 => interval_spent ha hs hw hv h h0, fun h0 => ?_⟩
    obtain ⟨u, hex, hu⟩ := interval_taken ha hs hw hv h h0
    rw [decide_eq_true hne] at hu
    have hu' : accepted (((s.at t).intervalSet a (clampInterval v)).clamp a) u t := hu
    have hall := accepted_allot hu' a
    have hcl := (((s.at t).intervalSet a (clampInterval v)).allot_modAllot a a
      fun r => { r with clamps := inc64 r.clamps }).trans (if_pos rfl)
    have hgauge : u.gauge = (((s.at t).intervalSet a (clampInterval v)).clamp a).gauge := by rw [hu']
    exact ⟨u, hex, (accepted_cfgN hu' _ _ _).trans (State.cfgN_intervalSet _ a (clampInterval_lt v)),
      (congrArg Allot.clamps hall).trans (congrArg Allot.clamps hcl), hgauge, by rw [hu']; rfl⟩
  case tariff =>
    have hex := exec_tariff t b s ha
    refine ⟨fun h => ?_, fun hl hv heq => ?_, fun hl hv hne => ⟨fun h0 => ?_, fun h0 => ?_⟩⟩
    · refine hex.trans (congrArg Host.Outcome.next ?_)
      refine row_blob_refused (s := s) (t := t) hs spaceOf_gauge entryRow_tariff (.inr hw) (by simp) (by simp) rfl rfl
        (st := 4) (by simp) ?_
      exact (State.writeBlob_tariff ..).trans (if_pos h)
    · refine ⟨_, hex, row_blob (s := s) (t := t) hs spaceOf_gauge entryRow_tariff (.inr hw) (by simp) (by simp) rfl rfl ?_⟩
      exact (State.writeBlob_tariff ..).trans ((if_neg (by omega)).trans (State.spend_same (s := s.at t) rfl a heq _))
    · refine hex.trans (congrArg Host.Outcome.next ?_)
      refine row_blob_refused (s := s) (t := t) hs spaceOf_gauge entryRow_tariff (.inr hw) (by simp) (by simp) rfl rfl
        (st := 7) (by simp) ?_
      exact (State.writeBlob_tariff ..).trans ((if_neg (by omega)).trans (State.spend_spent (s := s.at t) rfl a hne h0 _))
    · have hu := row_blob (s := s) (t := t) (a := a) hs spaceOf_gauge entryRow_tariff (.inr hw) (by simp) (by simp) rfl rfl
        ((State.writeBlob_tariff (s.at t) a b).trans ((if_neg (by omega)).trans
          (State.spend_taken (s := s.at t) rfl a hne h0 _)))
      refine ⟨_, hex, (accepted_cfg hu _ _ _).trans (State.cfg_setCfg_self ..), ?_, ?_, ?_⟩
      · rw [hu]; rfl
      · rw [hu]; rfl
      · rw [hu]; rfl
  case record =>
    have hex := exec_record t q s ha
    have harg : (natLe 8 q).isEmpty = false := by
      have := natLe_length 8 q
      cases h : natLe 8 q with
      | nil => rw [h] at this; exact absurd this (by decide)
      | cons x l => rfl
    have hread : (s.at t).entryRead a 0x50 0 0x06 .gauge 0 (natLe 8 q) = match s.gauge.find q with
        | some r => (0, r.bytes)
        | none => (1, []) := by
      have hle : leNat (natLe 8 q) = q := by rw [leNat_natLe, Nat.mod_eq_of_lt (by omega)]
      rw [State.entryRead_record, if_neg (not_not.2 (natLe_length 8 q)), hle]
      rfl
    refine ⟨fun r hf => ?_, fun hf => ?_⟩
    · rw [hf] at hread
      exact hex.trans (congrArg Host.Outcome.next
        (orderRead_chosen (s := s) (t := t) hs spaceOf_gauge entryRow_record hr rfl harg hread))
    · rw [hf] at hread
      exact hex.trans (congrArg Host.Outcome.next
        (orderRead_chosen (s := s) (t := t) hs spaceOf_gauge entryRow_record hr rfl harg hread))

end Sys2Proof.Machine
end

section
/-! PROOFS. The REFCLK monitor, CF_SOURCE and the gated blocks (R458 to R461, R463, R491). -/

namespace Sys2Proof.Machine

theorem exec_refclkWindow (t count hz : Nat) (s : State) :
    exec (.refclkWindow t count hz) s = .next ((s.at t).refWindow count hz) := rfl
theorem exec_cfSource {a : Nat} (t v : Nat) (s : State) (ha : a < 16) :
    exec (.cfSource t a v) s = .next ((s.at t).orderNumber a 0x03 0 0x01 1 v) := if_pos (decide_eq_true ha)
theorem exec_blockWakeDone {b : Nat} (t : Nat) (s : State) (hb : b < 312) :
    exec (.blockWakeDone t b) s = .next ((s.at t).blockAwake b) := if_pos (decide_eq_true hb)

theorem spaceOf_clock : spaceOf 0x03 0 = some (.clock, 0) := by decide

/-! ## The Cold Frame's source (R460, R461) -/

/-- The source that the Cold Frame runs from, by CF_SOURCE and what is ready. -/
def cfOf (mode : Nat) (ref backup : Bool) (active : Nat) : Nat :=
  if mode = 0 then (if ref then 1 else if backup then 2 else active) else mode

theorem State.cfSwitch_eq (s : State) : s.cfSwitch = { s with clk := { s.clk with
    cfActive := cfOf (s.cfgN 0x03 0 0x01) s.clk.refReady s.clk.backupReady s.clk.cfActive } } := rfl

/-- What the judgement of REFCLK leaves of the backup, the PLLs and the Cold Frame. -/
structure RefJudged (s u : State) : Prop where
  locked : u.clk.locked = s.clk.locked
  backupReady : u.clk.backupReady = s.clk.backupReady
  backupGood : u.clk.backupGood = s.clk.backupGood
  active : u.clk.cfActive = s.clk.cfActive ∨
    u.clk.cfActive = cfOf (s.cfgN 0x03 0 0x01) u.clk.refReady s.clk.backupReady s.clk.cfActive
  frame : u = { s with clk := u.clk, flt := u.flt, irq := u.irq, allots := u.allots, emits := u.emits }

section
variable {s u : State}

theorem State.refLost_deaf (h : s.clk.refReady = false) : s.refLost = s := if_pos (by rw [h]; rfl)

/-- REFCLK that was ready and is lost: the locked PLLs hold over, and 0xD04 is raised. -/
theorem State.refLost_ready (h : s.clk.refReady = true) : RefJudged s s.refLost ∧ s.refLost.clk.refReady = false ∧
    s.refLost.clk.refGood = s.clk.refGood ∧ s.refLost.clk.holdover = s.clk.locked ∧
    s.refLost.clk.refLosses = inc64 s.clk.refLosses ∧ (s.refLost.source 0xD04).cause = true := by
  have he : s.refLost = (({ s with clk := { s.clk with
      refReady := false, holdover := s.clk.locked, refLosses := inc64 s.clk.refLosses } } : State).raiseFault 0xD04).cfSwitch :=
    if_neg (by rw [h]; exact Bool.false_ne_true)
  have hcause := State.cause_raiseFault (id := 0xD04) (by decide) (by decide) ({ s with clk := { s.clk with
      refReady := false, holdover := s.clk.locked, refLosses := inc64 s.clk.refLosses } } : State)
  have hframe := (RaisedAlone.raiseFault (id := 0xD04) (by decide) ({ s with clk := { s.clk with
      refReady := false, holdover := s.clk.locked, refLosses := inc64 s.clk.refLosses } } : State)).frame
  rw [he]
  generalize ({ s with clk := { s.clk with
      refReady := false, holdover := s.clk.locked, refLosses := inc64 s.clk.refLosses } } : State).raiseFault 0xD04 = v
    at hcause hframe
  have hv : v.cfSwitch = { s with
      clk := { s.clk with
        refReady := false, holdover := s.clk.locked, refLosses := inc64 s.clk.refLosses
        cfActive := cfOf (s.cfgN 0x03 0 0x01) false s.clk.backupReady s.clk.cfActive }
      flt := v.flt, irq := v.irq, allots := v.allots, emits := v.emits } := by
    rw [State.cfSwitch_eq, hframe]
    rfl
  rw [hv]
  exact ⟨⟨rfl, rfl, rfl, .inr rfl, rfl⟩, rfl, rfl, rfl, rfl, hcause⟩

theorem State.refBack_not (h : s.clk.refReady = true ∨ s.clk.refGood < 65536) : s.refBack = s := by
  refine if_pos ?_
  rcases h with h | h
  · rw [h]; rfl
  · rw [decide_eq_true h, Bool.or_true]

/-- REFCLK that is ready again: the PLLs track it. -/
theorem State.refBack_ready (h : s.clk.refReady = false) (hg : 65536 ≤ s.clk.refGood) : RefJudged s s.refBack ∧
    s.refBack.clk.refReady = true ∧ s.refBack.clk.refGood = s.clk.refGood ∧ s.refBack.clk.holdover = [] ∧
    s.refBack.clk.refLosses = s.clk.refLosses ∧ (s.refBack.source 0xD04).cause = false := by
  have he : s.refBack = ((({ s with clk := { s.clk with refReady := true, holdover := [] } } : State)).causeGone
      0xD04).cfSwitch := if_neg (by rw [h, decide_eq_false (by omega)]; exact Bool.false_ne_true)
  rw [he]
  have hsrc := (({ s with clk := { s.clk with refReady := true, holdover := [] } } : State).source_modSource 0xD04 0xD04
    fun x => { x with cause := false }).trans (if_pos rfl)
  exact ⟨⟨rfl, rfl, rfl, .inr rfl, rfl⟩, rfl, rfl, rfl, rfl, congrArg Source.cause hsrc⟩

/-! ## The backup, and the end of a window -/

/-- Whether the backup's frequency is judged out of range. -/
def State.backupOdd (s : State) (hz : Nat) : Bool := s.clk.refReady && (decide (hz < 3040000) || decide (3360000 < hz))

/-- The backup judged, and the Cold Frame's source chosen. -/
def State.backupJudged (s : State) (hz : Nat) : State :=
  let b := if s.backupOdd hz then 0 else min 4096 (s.clk.backupGood + 320)
  ({ s with clk := { s.clk with
      backupGood := b
      backupReady := !s.backupOdd hz && (s.clk.backupReady || decide (b = 4096)) } }).cfSwitch

/-- The count of good cycles set. -/
def State.refCounted (s : State) (n : Nat) : State := { s with clk := { s.clk with refGood := n } }

theorem State.refWindow_good {count : Nat} (h : 14500 ≤ count ∧ count ≤ 16800) (hz : Nat) : s.refWindow count hz =
    (s.refCounted (min 65536 (s.clk.refGood + count))).refBack.backupJudged hz := by
  unfold State.refWindow
  rw [decide_eq_true h.1, decide_eq_true h.2]
  rfl

theorem State.refWindow_bad {count : Nat} (h : count < 14500 ∨ 16800 < count) (hz : Nat) : s.refWindow count hz =
    (s.refCounted 0).refLost.backupJudged hz := by
  have hno : (decide (14500 ≤ count) && decide (count ≤ 16800)) = false := by
    rw [Bool.and_eq_false_imp]
    intro h1
    rw [decide_eq_true_eq] at h1
    exact decide_eq_false (by omega)
  unfold State.refWindow
  rw [hno]
  rfl

/-- What the end of a window leaves, of what the judgement of REFCLK left. -/
theorem State.backupJudged_spec (s : State) (hz : Nat) :
    (s.backupJudged hz).clk = { s.clk with
      backupGood := if s.backupOdd hz then 0 else min 4096 (s.clk.backupGood + 320)
      backupReady := !s.backupOdd hz &&
        (s.clk.backupReady || decide ((if s.backupOdd hz then 0 else min 4096 (s.clk.backupGood + 320)) = 4096))
      cfActive := cfOf (s.cfgN 0x03 0 0x01) s.clk.refReady (!s.backupOdd hz &&
        (s.clk.backupReady || decide ((if s.backupOdd hz then 0 else min 4096 (s.clk.backupGood + 320)) = 4096)))
        s.clk.cfActive } ∧ s.backupJudged hz = { s with clk := (s.backupJudged hz).clk } := ⟨rfl, rfl⟩

theorem State.backupOdd_true (h : s.clk.refReady = true ∧ (hz < 3040000 ∨ 3360000 < hz)) : s.backupOdd hz = true := by
  unfold State.backupOdd
  rw [h.1, Bool.true_and, Bool.or_eq_true, decide_eq_true_eq, decide_eq_true_eq]
  exact h.2

theorem State.backupOdd_false (h : s.clk.refReady = false ∨ 3040000 ≤ hz ∧ hz ≤ 3360000) : s.backupOdd hz = false := by
  unfold State.backupOdd
  rcases h with h | ⟨h1, h2⟩
  · rw [h]; rfl
  · rw [decide_eq_false (by omega), decide_eq_false (by omega)]; exact Bool.and_false _

theorem RefJudged.frame_clk {v : State} (h : RefJudged s v) (g : u = { v with clk := u.clk }) :
    u = { s with clk := u.clk, flt := u.flt, irq := u.irq, allots := u.allots, emits := u.emits } := by
  have hflt := congrArg State.flt g
  have hirq := congrArg State.irq g
  have hallots := congrArg State.allots g
  have hemits := congrArg State.emits g
  rw [hflt, hirq, hallots, hemits]
  exact g.trans (by rw [h.frame])

/-- What a whole window leaves of the backup and of the Cold Frame. -/
structure WindowLeaves (s u : State) (hz : Nat) : Prop where
  odd : u.clk.refReady = true ∧ (hz < 3040000 ∨ 3360000 < hz) → u.clk.backupReady = false ∧ u.clk.backupGood = 0
  even : u.clk.refReady = false ∨ 3040000 ≤ hz ∧ hz ≤ 3360000 → u.clk.backupGood = min 4096 (s.clk.backupGood + 320) ∧
    u.clk.backupReady = (s.clk.backupReady || decide (4096 ≤ s.clk.backupGood + 320))
  auto : s.cfgN 0x03 0 0x01 = 0 → (u.clk.refReady = true → u.clk.cfActive = 1) ∧
    (u.clk.refReady = false → u.clk.backupReady = true → u.clk.cfActive = 2) ∧
    (u.clk.refReady = false → u.clk.backupReady = false → u.clk.cfActive = s.clk.cfActive)
  named : s.cfgN 0x03 0 0x01 ≠ 0 → u.clk.cfActive = s.cfgN 0x03 0 0x01
  locked : u.clk.locked = s.clk.locked
  frame : u = { s with clk := u.clk, flt := u.flt, irq := u.irq, allots := u.allots, emits := u.emits }

theorem RefJudged.window {s v : State} (h : RefJudged s v) (hz : Nat) : WindowLeaves s (v.backupJudged hz) hz := by
  obtain ⟨hclk, hframe⟩ := v.backupJudged_spec hz
  have hcfg : v.cfgN 0x03 0 0x01 = s.cfgN 0x03 0 0x01 := by rw [h.frame]; rfl
  have hready := congrArg Clocks.refReady hclk
  have hgood := congrArg Clocks.backupGood hclk
  have hbr := congrArg Clocks.backupReady hclk
  have hact := congrArg Clocks.cfActive hclk
  have hlock := congrArg Clocks.locked hclk
  dsimp only at hready hgood hbr hact hlock
  rw [h.backupGood] at hgood
  rw [h.backupGood, h.backupReady] at hbr
  rw [h.backupGood, h.backupReady, hcfg] at hact
  rw [← hbr] at hact
  constructor
  case odd =>
    intro ho
    rw [hready] at ho
    rw [hbr, hgood, State.backupOdd_true ho]
    exact ⟨rfl, rfl⟩
  case even =>
    intro ho
    rw [hready] at ho
    rw [hbr, hgood, State.backupOdd_false ho]
    refine ⟨rfl, ?_⟩
    have hd : decide (min 4096 (s.clk.backupGood + 320) = 4096) = decide (4096 ≤ s.clk.backupGood + 320) :=
      decide_eq_decide.2 (by omega)
    rw [Bool.not_false, Bool.true_and, if_neg Bool.false_ne_true, hd]
  case auto =>
    intro h0
    rw [hready, hact, h0]
    refine ⟨fun hr => by rw [hr]; rfl, fun hr hb => by rw [hr, hb]; rfl, fun hr hb => ?_⟩
    have hold : s.clk.backupReady = false := by
      rw [hbr, State.backupOdd_false (.inl hr), Bool.not_false, Bool.true_and, Bool.or_eq_false_iff] at hb
      exact hb.1
    have hv : v.clk.cfActive = s.clk.cfActive := by
      rcases h.active with ha | ha
      · exact ha
      · rw [ha, hr, hold, h0]; rfl
    rw [hr, hb]
    exact hv
  case named =>
    intro h0
    rw [hact]
    exact if_neg h0
  case locked => exact hlock.trans h.locked
  case frame => exact h.frame_clk hframe

theorem RefJudged.refl (s : State) : RefJudged s s := ⟨rfl, rfl, rfl, .inl rfl, rfl⟩

/-- A count of good cycles is no part of the backup or of the Cold Frame. -/
theorem RefJudged.counted {n : Nat} (h : RefJudged (s.refCounted n) u) :
    RefJudged s u := ⟨h.locked, h.backupReady, h.backupGood, h.active, h.frame⟩

end

/-! ## CF_SOURCE -/

theorem State.selectCf_refused {s : State} {v : Nat}
    (h : v = 1 ∧ s.clk.refReady = false ∨ v = 2 ∧ s.clk.backupReady = false) : s.selectCf v = (3, s) := by
  refine if_pos ?_
  rcases h with ⟨hv, hr⟩ | ⟨hv, hr⟩
  · exact .inl ⟨hv, by rw [hr]; rfl⟩
  · exact .inr ⟨hv, by rw [hr]; rfl⟩

theorem State.selectCf_taken {s : State} {v : Nat}
    (h : ¬ (v = 1 ∧ s.clk.refReady = false ∨ v = 2 ∧ s.clk.backupReady = false)) :
    s.selectCf v = (0, (s.setCfgN 0x03 0 0x01 1 v).cfSwitch) := by
  refine if_neg fun hn => h ?_
  rcases hn with ⟨hv, hr⟩ | ⟨hv, hr⟩
  · exact .inl ⟨hv, by simpa using hr⟩
  · exact .inr ⟨hv, by simpa using hr⟩

theorem State.cfSwitch_setCfgN (s : State) {v : Nat} (hv : v < 3) : (s.setCfgN 0x03 0 0x01 1 v).cfSwitch =
    { s.setCfgN 0x03 0 0x01 1 v with clk := { s.clk with
        cfActive := cfOf v s.clk.refReady s.clk.backupReady s.clk.cfActive } } := by
  have hc := s.cfgN_setCfgN_self 0x03 0 0x01 1 v
  rw [Nat.mod_eq_of_lt (by omega)] at hc
  rw [State.cfSwitch_eq, hc]
  rfl

theorem State.setPower_turns (s : State) {b q : Nat} (h : (s.power b).st ≠ q) : s.setPower b q =
    { s with clk := { s.clk with
        power := tput (fun _ => {}) s.clk.power b { st := q, transitions := ((s.power b).transitions + 1) % 65536 } } } :=
  if_neg h

theorem State.power_setPower_turned (s : State) {b q : Nat} (h : (s.power b).st ≠ q) :
    (s.setPower b q).power b = { st := q, transitions := ((s.power b).transitions + 1) % 65536 } := by
  rw [s.setPower_turns h]
  exact tget_tput_self _ s.clk.power b _

theorem State.power_setPower_other (s : State) {b q k : Nat} (h : (s.power b).st ≠ q) (hk : k ≠ b) :
    (s.setPower b q).power k = s.power k := by
  rw [s.setPower_turns h]
  exact tget_tput_other _ s.clk.power _ hk

/-- The row of CF_SOURCE (Table 20.3). -/
def cfRow : Row := { m0 := 0x01, m1 := 0x01, ty := .u 1, acc := 35, legal := [(0, 2)] }

theorem entryRow_cf : entryRow .clock 0 0x01 = some cfRow := rfl

theorem writeNumber_cf (s : State) (a v : Nat) : s.writeNumber a 0x03 0 0x01 .clock 0 cfRow v = byStatus (s.selectCf v) := rfl

/-- Settles O57: the window through what its judgement of REFCLK leaves, CF_SOURCE through `selectCf`. -/
theorem clockSources : Obligations.ClockSources := by
  unfold Obligations.ClockSources
  intro s t
  refine ⟨fun count hz => ?window, fun a v ha hv hs hw => ⟨fun h => ?refused, fun h => ?taken⟩,
    fun b hb => ⟨fun h => ?asleep, fun h8 h1 => ?woken⟩⟩
  case window =>
    have hex := exec_refclkWindow t count hz s
    by_cases hgood : 14500 ≤ count ∧ count ≤ 16800
    · rw [State.refWindow_good hgood] at hex
      have hn := RefJudged.refl ((s.at t).refCounted (min 65536 (s.clk.refGood + count)))
      by_cases hback : s.clk.refReady = true ∨ min 65536 (s.clk.refGood + count) < 65536
      · rw [State.refBack_not hback] at hex
        obtain ⟨hodd, heven, hauto, hnamed, hlock, hframe⟩ := hn.counted.window hz
        refine ⟨_, hex, fun h => by omega, fun _ _ => ⟨rfl, ?_, rfl, fun h0 h1 => ?_⟩, hodd, heven, hauto, hnamed, hlock,
          hframe⟩
        · show s.clk.refReady = _
          rcases hback with h | h
          · rw [h]; rfl
          · rw [decide_eq_false (by omega), Bool.or_false]
        · exact absurd (h0.symm.trans h1) Bool.false_ne_true
      · rw [not_or, Bool.not_eq_true] at hback
        obtain ⟨hj, hr, hg, hh, hl, hc⟩ := State.refBack_ready
          (s := (s.at t).refCounted (min 65536 (s.clk.refGood + count))) hback.1 (by
            have := hback.2; show 65536 ≤ min 65536 (s.clk.refGood + count); omega)
        obtain ⟨hodd, heven, hauto, hnamed, hlock, hframe⟩ := hj.counted.window hz
        refine ⟨_, hex, fun h => by omega, fun _ _ => ⟨hg, hr.trans ?_, hl, fun _ _ => ⟨hh, hc⟩⟩, hodd, heven, hauto, hnamed,
          hlock, hframe⟩
        rw [decide_eq_true (by omega), Bool.or_true]
    · have hbad : count < 14500 ∨ 16800 < count := by omega
      rw [State.refWindow_bad hbad] at hex
      by_cases hready : s.clk.refReady = true
      · obtain ⟨hj, hr, hg, hh, hl, hc⟩ := State.refLost_ready
          (s := (s.at t).refCounted 0) hready
        obtain ⟨hodd, heven, hauto, hnamed, hlock, hframe⟩ := hj.counted.window hz
        exact ⟨_, hex, fun _ => ⟨hr, hg, fun _ => ⟨hh, hl, hc⟩, fun h0 => absurd (hready.symm.trans h0) (by decide)⟩,
          fun h1 h2 => by omega, hodd, heven, hauto, hnamed, hlock, hframe⟩
      · have hoff := Bool.not_eq_true _ ▸ hready
        rw [State.refLost_deaf (s := (s.at t).refCounted 0) hoff] at hex
        obtain ⟨hodd, heven, hauto, hnamed, hlock, hframe⟩ :=
          (RefJudged.refl ((s.at t).refCounted 0)).counted.window hz
        exact ⟨_, hex, fun _ => ⟨hoff, rfl, fun h1 => absurd h1 hready, fun _ => ⟨rfl, rfl, rfl⟩⟩,
          fun h1 h2 => by omega, hodd, heven, hauto, hnamed, hlock, hframe⟩
  case refused =>
    refine (exec_cfSource t v s ha).trans (congrArg Host.Outcome.next ?_)
    refine row_number_refused (s := s) (t := t) hs hw spaceOf_clock entryRow_cf (by simp) (by simp) rfl rfl (by omega) rfl
      (by omega) (by omega) (by simp [creditOf]) (by simp) (st := 3) (by simp) ?_
    rw [writeNumber_cf, State.selectCf_refused (s := s.at t) h]
    rfl
  case taken =>
    have hu := row_number_inRange (s := s) (t := t) hs hw spaceOf_clock entryRow_cf (by simp) (by simp) rfl rfl (by omega) rfl
      (by omega) (by omega) (by simp [creditOf]) (by simp)
      ((writeNumber_cf _ a v).trans (congrArg byStatus (State.selectCf_taken (s := s.at t) h)))
    rw [State.cfSwitch_setCfgN _ hv] at hu
    have hcfg := accepted_cfgN hu 0x03 0 0x01
    have hself := (s.at t).cfgN_setCfgN_self 0x03 0 0x01 1 v
    rw [Nat.mod_eq_of_lt (by omega)] at hself
    refine ⟨_, exec_cfSource t v s ha, hcfg.trans hself, ?_, accepted_answer hu, ?_⟩
    · rw [hu]; rfl
    · rw [hu]; rfl
  case asleep => exact (exec_blockWakeDone t s hb).trans (congrArg Host.Outcome.next (if_pos h))
  case woken =>
    have hwake : (s.at t).blockAwake b = (s.at t).setPower b 3 := if_neg (by
      rw [not_or, not_not]; exact ⟨by omega, h1⟩)
    have hturn : ((s.at t).power b).st ≠ 3 := by
      rw [show ((s.at t).power b).st = 1 from h1]
      decide
    refine ⟨_, (exec_blockWakeDone t s hb).trans (congrArg Host.Outcome.next hwake), (s.at t).power_setPower_turned hturn,
      fun k hk => (s.at t).power_setPower_other hturn hk, ?_⟩
    rw [(s.at t).setPower_turns hturn]
    rfl

end Sys2Proof.Machine
end

section
/-! PROOFS. Bed counters, FREEZE, SNAPSHOT and HIST_CLEAR (R404 to R408, R411). -/

namespace Sys2Proof.Machine

theorem exec_counterSel {a i : Nat} (t : Nat) (v : List Byte) (s : State) (ha : a < 16) (hi : i < 8) :
    exec (.counterSel t a i v) s = .next ((s.at t).orderWrite a 0x43 0 (0x10 + i) v) :=
  (if_pos (decide_eq_true ha)).trans (by simp [named, isBedCounter, hi])
theorem exec_freeze {a : Nat} (t v : Nat) (s : State) (ha : a < 16) :
    exec (.freeze t a v) s = .next ((s.at t).orderNumber a 0x43 0 0x02 1 v) := if_pos (decide_eq_true ha)
theorem exec_snapshot {a : Nat} (t : Nat) (s : State) (ha : a < 16) :
    exec (.snapshot t a) s = .next ((s.at t).orderNumber a 0x43 0 0x03 1 1) := if_pos (decide_eq_true ha)
theorem exec_histClear {a n : Nat} (t : Nat) (s : State) (ha : a < 16) (hn : n < 8192) :
    exec (.histClear t a n) s = .next ((s.at t).orderNumber a 0x43 (0x1000 + n) 0x03 1 1) :=
  (if_pos (decide_eq_true ha)).trans (by simp [named, isSlot, hn])
theorem exec_bedCounterOverflow {b i n : Nat} (t pc : Nat) (sp : Bool) (p r c : Nat) (s : State) (hb : b < 288) (hi : i < 8)
    (hn : n < 8192) : exec (.bedCounterOverflow t b i pc sp n p r c) s = .next ((s.at t).counterSample b i pc sp n p r c) :=
  if_pos (by simp [isBed, isBedCounter, isSlot, hb, hi, hn])

theorem spaceOf_counters : spaceOf 0x43 0 = some (.counters, 0) := by decide

theorem spaceOf_hist {n : Nat} (h : n < 8192) : spaceOf 0x43 (0x1000 + n) = some (.hist, n) := by
  have h1 : ¬ (0x1000 + n ≤ 0) := by omega
  have h2 : ¬ (0x1000 + n ≤ 0x10F) := by omega
  have h3 : 0x1000 + n ≤ 0x2FFF := by omega
  simp [spaceOf, spacesOf, h2, h3]

/-! ## The counters brought up to now -/

/-- Of every bed its counters alone: the state, the micro-state, the snapshot and the number of the counters stand, and all
but the beds. -/
structure Ticked (s u : State) : Prop where
  st : ∀ b, (u.bed b).st = (s.bed b).st
  mic : ∀ b, (u.bed b).mic = (s.bed b).mic
  snap : ∀ b, (u.bed b).snap = (s.bed b).snap
  len : ∀ b, (u.bed b).bc.length = (s.bed b).bc.length
  frame : u = { s with str := { s.str with beds := u.str.beds } }

theorem Ticked.refl (s : State) : Ticked s s := ⟨fun _ => rfl, fun _ => rfl, fun _ => rfl, fun _ => rfl, rfl⟩

theorem Ticked.trans {s u v : State} (h : Ticked s u) (g : Ticked u v) : Ticked s v where
  st b := (g.st b).trans (h.st b)
  mic b := (g.mic b).trans (h.mic b)
  snap b := (g.snap b).trans (h.snap b)
  len b := (g.len b).trans (h.len b)
  frame := g.frame.trans (by rw [h.frame])

theorem Ticked.foldl {α : Type} {f : State → α → State} (hf : ∀ s x, Ticked s (f s x)) (l : List α) (s : State) :
    Ticked s (l.foldl f s) := by
  induction l generalizing s with
  | nil => exact .refl s
  | cons x r ih => exact (hf s x).trans (ih _)

theorem Ticked.modBed (s : State) (n : Nat) {f : Bed → Bed} (hst : ∀ x, (f x).st = x.st) (hmic : ∀ x, (f x).mic = x.mic)
    (hsnap : ∀ x, (f x).snap = x.snap) (hlen : ∀ x, (f x).bc.length = x.bc.length) : Ticked s (s.modBed n f) := by
  have hread {β : Type} (F : Bed → β) (h : ∀ x, F (f x) = F x) (b : Nat) : F ((s.modBed n f).bed b) = F (s.bed b) := by
    rw [State.bed_modBed]
    split
    · next hb => rw [hb, h]
    · rfl
  exact ⟨hread _ hst, hread _ hmic, hread _ hsnap, hread (fun x => x.bc.length) hlen, rfl⟩

theorem Bed.add_keeps (b : Bed) (i n : Nat) (sample : Bool) (preset : Nat) : (b.add i n sample preset).st = b.st ∧
    (b.add i n sample preset).mic = b.mic ∧ (b.add i n sample preset).snap = b.snap ∧
    (b.add i n sample preset).bc.length = b.bc.length := by
  unfold Bed.add
  dsimp only
  split
  · simp
  split
  · simp
  split <;> simp

/-- One counter of a bed counted, and its signal's level noted. -/
def Bed.counted (b : Bed) (i n : Nat) (idle sample : Bool) (preset : Nat) (level : Bool) : Bed :=
  let b := if idle || n = 0 then b else b.add i n sample preset
  { b with levels := b.levels.set i level }

theorem Bed.counted_keeps (b : Bed) (i n : Nat) (idle sample : Bool) (preset : Nat) (level : Bool) :
    (b.counted i n idle sample preset level).st = b.st ∧ (b.counted i n idle sample preset level).mic = b.mic ∧
    (b.counted i n idle sample preset level).snap = b.snap ∧
    (b.counted i n idle sample preset level).bc.length = b.bc.length := by
  unfold Bed.counted
  dsimp only
  split
  · exact ⟨rfl, rfl, rfl, rfl⟩
  · exact b.add_keeps i n sample preset

/-- What the counter `i` of bed `n` counts over `clocks`. -/
def State.counts (s : State) (n i clocks : Nat) : Nat :=
  if (s.counterSel i).2.1 then (if (s.bed n).levels.getD i false then clocks else 0)
  else if 0x20 ≤ (s.counterSel i).1 ∧ !(s.bed n).levels.getD i false ∧ s.bedLevel n (s.counterSel i).1 then 1 else 0

/-- One counter of a bed brought up to now. -/
def State.tickOne (n clocks : Nat) (s : State) (i : Nat) : State :=
  s.modBed n (fun b => b.counted i (s.counts n i clocks) s.str.frozen (s.counterSel i).2.2.1 (s.counterSel i).2.2.2
    (s.bedLevel n (s.counterSel i).1))

theorem State.tick_eq (s : State) (n : Nat) : s.tick n =
    ((List.range 8).foldl (State.tickOne n (clocksBetween (s.bed n).since s.now)) s).modBed n
      (fun b => { b with since :=
        ((List.range 8).foldl (State.tickOne n (clocksBetween (s.bed n).since s.now)) s).now }) := rfl

theorem Ticked.tick (s : State) (n : Nat) : Ticked s (s.tick n) := by
  rw [State.tick_eq]
  refine (Ticked.foldl (f := State.tickOne n (clocksBetween (s.bed n).since s.now)) (fun u i => ?_) (List.range 8) s).trans
    (Ticked.modBed _ n (fun _ => rfl) (fun _ => rfl) (fun _ => rfl) (fun _ => rfl))
  have hkeeps (x : Bed) := x.counted_keeps i (u.counts n i (clocksBetween (s.bed n).since s.now)) u.str.frozen
    (u.counterSel i).2.2.1 (u.counterSel i).2.2.2 (u.bedLevel n (u.counterSel i).1)
  exact Ticked.modBed u n (fun x => (hkeeps x).1) (fun x => (hkeeps x).2.1) (fun x => (hkeeps x).2.2.1)
    (fun x => (hkeeps x).2.2.2)

theorem Ticked.tickAll (s : State) : Ticked s s.tickAll :=
  Ticked.foldl (f := fun u (e : Nat × Bed) => u.tick e.1) (fun u e => Ticked.tick u e.1) s.str.beds s


/-! ## COUNTER_SEL (R404) -/

/-- A counter of one bed begun at `start`. -/
def State.beginCounter (i start ev : Nat) (s : State) (n : Nat) : State :=
  s.modBed n (fun x => { x with bc := x.bc.set i start, missed := x.missed.set i 0, sampling := removeFrom x.sampling i,
                                levels := x.levels.set i (s.bedLevel n ev) })

/-- The counter `i` of every bed begun at `start`. -/
def State.beginAll (s : State) (i start ev : Nat) : State := (List.range 288).foldl (State.beginCounter i start ev) s

theorem State.selectCounter_eq (s : State) (i : Nat) (v : List Byte) : s.selectCounter i v =
    (s.tickAll.setCfg 0x43 0 (0x10 + i) v).beginAll i
      (if ((s.tickAll.setCfg 0x43 0 (0x10 + i) v).counterSel i).2.2.1 then
        ((s.tickAll.setCfg 0x43 0 (0x10 + i) v).counterSel i).2.2.2 else 0)
      ((s.tickAll.setCfg 0x43 0 (0x10 + i) v).counterSel i).1 := rfl

theorem Ticked.beginCounter (s : State) (i start ev n : Nat) : Ticked s (s.beginCounter i start ev n) :=
  Ticked.modBed s n (fun _ => rfl) (fun _ => rfl) (fun _ => rfl) (fun x => x.bc.length_set)

theorem bc_beginCounter (s : State) (i start ev n : Nat) :
    (((s.beginCounter i start ev n).bed n).bc, ((s.beginCounter i start ev n).bed n).sampling) =
      ((s.bed n).bc.set i start, removeFrom (s.bed n).sampling i) := by
  unfold State.beginCounter
  rw [State.bed_modBed, if_pos rfl]

theorem not_mem_removeFrom (l : List Nat) (i : Nat) : i ∉ removeFrom l i := by simp [removeFrom]

theorem bc_beginCounter_other (s : State) (i start ev : Nat) {n k : Nat} (hk : k ≠ n) :
    (((s.beginCounter i start ev n).bed k).bc, ((s.beginCounter i start ev n).bed k).sampling) =
      ((s.bed k).bc, (s.bed k).sampling) := by
  unfold State.beginCounter
  rw [State.bed_modBed, if_neg hk]

theorem Ticked.beginAll (s : State) (i start ev : Nat) : Ticked s (s.beginAll i start ev) :=
  Ticked.foldl (f := State.beginCounter i start ev) (fun u n => Ticked.beginCounter u i start ev n) (List.range 288) s

theorem bc_beginAll (s : State) (i start ev : Nat) {b : Nat} (hb : b < 288) :
    (((s.beginAll i start ev).bed b).bc, ((s.beginAll i start ev).bed b).sampling) =
      ((s.bed b).bc.set i start, removeFrom (s.bed b).sampling i) :=
  foldl_pointwise (fun (u : State) b => ((u.bed b).bc, (u.bed b).sampling)) (State.beginCounter i start ev)
    (fun _ p => (p.1.set i start, removeFrom p.2 i)) (fun _ => True) (fun _ _ _ => trivial)
    (fun u n _ => bc_beginCounter u i start ev n) (fun u _ _ hk => bc_beginCounter_other u i start ev hk)
    List.nodup_range trivial (List.mem_range.2 hb)

/-- A selection made on the counters as they stand. -/
theorem State.setCfg_beginAll (s : State) (i start ev : Nat) (v : List Byte) :
    (∀ b, (((s.setCfg 0x43 0 (0x10 + i) v).beginAll i start ev).bed b).st = (s.bed b).st ∧
      (((s.setCfg 0x43 0 (0x10 + i) v).beginAll i start ev).bed b).mic = (s.bed b).mic) ∧
    (∀ b, b < 288 → i < (s.bed b).bc.length →
      (((s.setCfg 0x43 0 (0x10 + i) v).beginAll i start ev).bed b).bc.getD i 0 = start ∧
        i ∉ (((s.setCfg 0x43 0 (0x10 + i) v).beginAll i start ev).bed b).sampling) ∧
    ((s.setCfg 0x43 0 (0x10 + i) v).beginAll i start ev).str.slots = s.str.slots ∧
    ((s.setCfg 0x43 0 (0x10 + i) v).beginAll i start ev).allots = s.allots ∧
    ((s.setCfg 0x43 0 (0x10 + i) v).beginAll i start ev).now = s.now ∧
    ((s.setCfg 0x43 0 (0x10 + i) v).beginAll i start ev).alm = (s.setCfg 0x43 0 (0x10 + i) v).alm := by
  have hall := Ticked.beginAll (s.setCfg 0x43 0 (0x10 + i) v) i start ev
  have hbed {b : Nat} (hb : b < 288) := bc_beginAll (s.setCfg 0x43 0 (0x10 + i) v) i start ev hb
  generalize (s.setCfg 0x43 0 (0x10 + i) v).beginAll i start ev = u at hall hbed ⊢
  have hframe := hall.frame
  have hslots := congrArg (fun u : State => u.str.slots) hframe
  have hallots := congrArg State.allots hframe
  have hnow := congrArg State.now hframe
  have halm := congrArg State.alm hframe
  refine ⟨fun b => ⟨hall.st b, hall.mic b⟩, fun b hb hi => ?_, hslots, hallots, hnow, halm⟩
  have hbc := congrArg Prod.fst (hbed hb)
  have hsm := congrArg Prod.snd (hbed hb)
  dsimp only at hbc hsm
  refine ⟨?_, by rw [hsm]; exact not_mem_removeFrom _ i⟩
  have hlen : i < ((s.setCfg 0x43 0 (0x10 + i) v).bed b).bc.length := hi
  rw [hbc]
  simp [List.getD_eq_getElem?_getD, hlen]

/-- What a selection leaves: the entry, every counter of its number begun anew, and of the rest what counting leaves. -/
theorem State.selectCounter_leaves (s : State) (i : Nat) (v : List Byte) :
    (∀ b, b < 288 → i < (s.bed b).bc.length → ((s.selectCounter i v).bed b).bc.getD i 0 =
      (if fieldAt v 2 1 = 1 then fieldAt v 3 8 else 0) ∧ i ∉ ((s.selectCounter i v).bed b).sampling) ∧
    (∀ b, ((s.selectCounter i v).bed b).st = (s.bed b).st ∧ ((s.selectCounter i v).bed b).mic = (s.bed b).mic) ∧
    (s.selectCounter i v).str.slots = s.str.slots ∧ (s.selectCounter i v).allots = s.allots ∧
    (s.selectCounter i v).now = s.now ∧ (s.selectCounter i v).cfg 0x43 0 (0x10 + i) = v := by
  have htick := Ticked.tickAll s
  have hsel : (s.tickAll.setCfg 0x43 0 (0x10 + i) v).counterSel i =
      (fieldAt v 0 1, decide (fieldAt v 1 1 = 1), decide (fieldAt v 2 1 = 1), fieldAt v 3 8) := by
    unfold State.counterSel
    rw [State.cfg_setCfg_self]
  have he := s.selectCounter_eq i v
  rw [hsel] at he
  dsimp only at he
  have hif : (if decide (fieldAt v 2 1 = 1) = true then fieldAt v 3 8 else 0) =
      if fieldAt v 2 1 = 1 then fieldAt v 3 8 else 0 := by
    simp only [decide_eq_true_eq]
  rw [hif] at he
  rw [he]
  generalize s.tickAll = w at htick
  obtain ⟨hstand, hbegun, hslots, hallots, hnow, halm⟩ := w.setCfg_beginAll i
    (if fieldAt v 2 1 = 1 then fieldAt v 3 8 else 0) (fieldAt v 0 1) v
  have hframe := htick.frame
  refine ⟨fun b hb hi => hbegun b hb ((htick.len b).symm ▸ hi),
    fun b => ⟨(hstand b).1.trans (htick.st b), (hstand b).2.trans (htick.mic b)⟩,
    ?_, ?_, ?_, ?_⟩
  · have h := congrArg (fun u : State => u.str.slots) hframe
    exact hslots.trans h
  · have h := congrArg State.allots hframe
    exact hallots.trans h
  · have h := congrArg State.now hframe
    exact hnow.trans h
  · unfold State.cfg
    rw [halm]
    exact State.cfg_setCfg_self w 0x43 0 (0x10 + i) v

/-- The row of COUNTER_SEL (Table 17.5). -/
def counterSelRow : Row := { m0 := 0x10, m1 := 0x17, ty := .blob, acc := 3 }

theorem entryRow_counterSel {i : Nat} (h : i < 8) : entryRow .counters 0 (0x10 + i) = some counterSelRow := by
  interval_cases i <;> rfl

theorem writeBlob_counterSel (s : State) (a : Nat) {i : Nat} (hi : i < 8) {v : List Byte} (h : v.length = 11) :
    s.writeBlob a 0x43 0 (0x10 + i) .counters 0 v =
      (((s.clampIf a (decide (legalCounter v ≠ v))).selectCounter i (legalCounter v)).ok) := by
  have he : (0x10 + i) - 0x10 = i := by omega
  have hw : s.writeBlob a 0x43 0 (0x10 + i) .counters 0 v = if v.length ≠ 11 then s.no 4 else
      ((s.clampIf a (decide (legalCounter v ≠ v))).selectCounter ((0x10 + i) - 0x10) (legalCounter v)).ok := rfl
  rw [hw, if_neg (not_not.2 h), he]

theorem writeBlob_counterSel_long (s : State) (a i : Nat) {v : List Byte} (h : v.length ≠ 11) :
    s.writeBlob a 0x43 0 (0x10 + i) .counters 0 v = s.no 4 := if_pos h

/-! ## FREEZE and SNAPSHOT (R405, R406) -/

theorem State.freezeAll_leaves (s : State) (on : Bool) : (s.freezeAll on).str.frozen = on ∧
    (∀ b, ((s.freezeAll on).bed b).st = (s.bed b).st ∧ ((s.freezeAll on).bed b).mic = (s.bed b).mic) ∧
    s.freezeAll on = { s with str := (s.freezeAll on).str } := by
  have htick := Ticked.tickAll s
  refine ⟨rfl, fun b => ⟨htick.st b, htick.mic b⟩, ?_⟩
  have he : s.freezeAll on = { s.tickAll with str := { s.tickAll.str with frozen := on } } := rfl
  rw [he, htick.frame]

/-- The counters of one bed copied, unless it has none that run. -/
def State.snapBed (s : State) (n : Nat) : State :=
  if (s.bed n).st = .off ∨ (s.bed n).st = .waking then s else s.modBed n (fun x => { x with snap := x.bc })

/-- The counters of every bed copied as they stand. -/
def State.snapAll (s : State) : State := (List.range 288).foldl State.snapBed s

/-- The time of a snapshot noted. -/
def State.snapStamped (s : State) : State := { s with str := { s.str with snapTime := s.now } }

theorem State.snapshot_eq (s : State) : s.snapshot = s.tickAll.snapAll.snapStamped := by
  unfold State.snapshot State.snapAll
  generalize List.range 288 = l
  rfl

/-- Of the beds their snapshots alone, beside what stands. -/
structure Snapped (s u : State) : Prop where
  bc : ∀ b, (u.bed b).bc = (s.bed b).bc ∧ (u.bed b).st = (s.bed b).st
  frame : u = { s with str := { s.str with beds := u.str.beds } }

theorem Snapped.snapBed (s : State) (n : Nat) : Snapped s (s.snapBed n) := by
  unfold State.snapBed
  split
  · exact ⟨fun _ => ⟨rfl, rfl⟩, rfl⟩
  · refine ⟨fun b => ?_, rfl⟩
    rw [State.bed_modBed]
    split
    · next hb => rw [hb]; exact ⟨rfl, rfl⟩
    · exact ⟨rfl, rfl⟩

theorem Snapped.trans {s u v : State} (h : Snapped s u) (g : Snapped u v) : Snapped s v :=
  ⟨fun b => ⟨(g.bc b).1.trans (h.bc b).1, (g.bc b).2.trans (h.bc b).2⟩, g.frame.trans (by rw [h.frame])⟩

theorem Snapped.foldl (l : List Nat) (s : State) : Snapped s (l.foldl State.snapBed s) := by
  induction l generalizing s with
  | nil => exact ⟨fun _ => ⟨rfl, rfl⟩, rfl⟩
  | cons x r ih => exact (Snapped.snapBed s x).trans (ih _)

/-- What a snapshot takes of a bed whose counters are at `p.1`. -/
def snapOf (p : List Nat × BedState × List Nat) : List Nat × BedState × List Nat :=
  (p.1, p.2.1, if p.2.1 = .off ∨ p.2.1 = .waking then p.2.2 else p.1)

theorem snapped_snapBed (s : State) (n : Nat) :
    (((s.snapBed n).bed n).bc, ((s.snapBed n).bed n).st, ((s.snapBed n).bed n).snap) =
      snapOf ((s.bed n).bc, (s.bed n).st, (s.bed n).snap) := by
  unfold State.snapBed snapOf
  dsimp only
  split
  · rfl
  · rw [State.bed_modBed, if_pos rfl]

theorem bed_snapBed_other (s : State) {n k : Nat} (h : k ≠ n) : (s.snapBed n).bed k = s.bed k := by
  unfold State.snapBed
  split
  · rfl
  · rw [State.bed_modBed, if_neg h]

theorem snapped_snapAll (s : State) {b : Nat} (hb : b < 288) :
    ((s.snapAll.bed b).bc, (s.snapAll.bed b).st, (s.snapAll.bed b).snap) =
      snapOf ((s.bed b).bc, (s.bed b).st, (s.bed b).snap) :=
  foldl_pointwise (fun (u : State) b => ((u.bed b).bc, (u.bed b).st, (u.bed b).snap)) State.snapBed (fun _ => snapOf)
    (fun _ => True) (fun _ _ _ => trivial) (fun u n _ => snapped_snapBed u n)
    (fun u _ _ hk => by rw [bed_snapBed_other u hk]) List.nodup_range trivial (List.mem_range.2 hb)

theorem State.snapshot_leaves (s : State) : s.snapshot.str.snapTime = s.now ∧
    (∀ b, b < 288 → (s.snapshot.bed b).snap =
      (if (s.bed b).st = .off ∨ (s.bed b).st = .waking then (s.bed b).snap else (s.snapshot.bed b).bc)) ∧
    s.snapshot.str.frozen = s.str.frozen ∧ s.snapshot.str.harvestMs = s.str.harvestMs ∧
    s.snapshot = { s with str := s.snapshot.str } := by
  have htick := Ticked.tickAll s
  have hsnap : Snapped s.tickAll s.tickAll.snapAll := Snapped.foldl (List.range 288) s.tickAll
  have hbed {b : Nat} (hb : b < 288) := snapped_snapAll s.tickAll hb
  rw [s.snapshot_eq]
  generalize s.tickAll.snapAll = v at hsnap hbed
  generalize s.tickAll = w at htick hsnap hbed
  have hframe : v = { s with str := { s.str with beds := v.str.beds } } := hsnap.frame.trans (by rw [htick.frame])
  have hnow := congrArg State.now hframe
  have hfrozen := congrArg (fun u : State => u.str.frozen) hframe
  have hharvest := congrArg (fun u : State => u.str.harvestMs) hframe
  refine ⟨hnow, fun b hb => ?_, hfrozen, hharvest, ?_⟩
  · have h := congrArg (fun p => p.2.2) (hbed hb)
    have h1 := congrArg (fun p => p.1) (hbed hb)
    dsimp only [snapOf] at h h1
    rw [htick.st, htick.snap] at h
    show (v.bed b).snap = if _ then _ else (v.bed b).bc
    rw [h, h1]
  · have hv : v.snapStamped = { v with str := v.snapStamped.str } := rfl
    generalize v.snapStamped.str = y at hv ⊢
    exact hv.trans (by rw [hframe])


/-- The rows of FREEZE and SNAPSHOT (Table 17.5). -/
def freezeRow : Row := { m0 := 0x02, m1 := 0x02, ty := .u 1, acc := 3, legal := [(0, 1)] }
def snapshotRow : Row := { m0 := 0x03, m1 := 0x03, ty := .u 1, acc := 2, legal := [(1, 1)] }

theorem entryRow_freeze : entryRow .counters 0 0x02 = some freezeRow := rfl
theorem entryRow_snapshot : entryRow .counters 0 0x03 = some snapshotRow := rfl

theorem writeNumber_freeze (s : State) (a v : Nat) :
    s.writeNumber a 0x43 0 0x02 .counters 0 freezeRow v = (s.freezeAll (decide (v = 1))).ok := rfl
theorem writeNumber_snapshot (s : State) (a v : Nat) :
    s.writeNumber a 0x43 0 0x03 .counters 0 snapshotRow v = s.snapshot.ok := rfl

/-! ## HIST_CLEAR (R411) -/

/-- The row of HIST_CLEAR (Table 17.5). -/
def histClearRow : Row := { m0 := 0x03, m1 := 0x03, ty := .u 1, acc := 8, legal := [(1, 1)] }

theorem entryRow_histClear (n : Nat) : entryRow .hist n 0x03 = some histClearRow := rfl

theorem writeNumber_histClear (s : State) (a fam inst n v : Nat) :
    s.writeNumber a fam inst 0x03 .hist n histClearRow v = (s.orderHistClear n).2.okAt (s.orderHistClear n).1 := rfl

/-! ## Samples (R407, R408) -/

/-- The bed after a sample of its counter `i`. -/
def Bed.sampled (x : Bed) (i preset : Nat) : Bed :=
  let bc := if i ∈ x.sampling then x.bc else x.bc.set i preset
  { x with bc := bc, missed := x.missed.set i 0, sampling := removeFrom x.sampling i }

section
variable {s : State} {b i : Nat} (pc : Nat) (sp : Bool) (n p r c : Nat)

theorem State.counterSample_none (h : (s.counterSel i).2.2.1 = false ∨ s.str.frozen = true ∨ (s.bed b).st = .off ∨
    (s.bed b).st = .waking) : s.counterSample b i pc sp n p r c = s := by
  have hskip : (!(s.counterSel i).2.2.1 || s.str.frozen || decide ((s.bed b).st = .off) || decide ((s.bed b).st = .waking)) = true := by
    rw [Bool.or_eq_true, Bool.or_eq_true, Bool.or_eq_true, decide_eq_true_eq, decide_eq_true_eq, Bool.not_eq_true', or_assoc,
      or_assoc]
    exact h
  exact if_pos hskip

theorem State.counterSample_taken (hs : (s.counterSel i).2.2.1 = true) (hf : s.str.frozen = false) (ho : (s.bed b).st ≠ .off)
    (hw : (s.bed b).st ≠ .waking) : s.counterSample b i pc sp n p r c =
      (s.modBed b (fun x => x.sampled i (s.counterSel i).2.2.2)).event 0 (s.cfgN 0x43 0 0x05) (0x1000 + 8 * b) 0x30 0
        (samplePayload b i pc sp n p r c ((s.bed b).missed.getD i 0)) := by
  have hgo : ¬ (!(s.counterSel i).2.2.1 || s.str.frozen || decide ((s.bed b).st = .off) || decide ((s.bed b).st = .waking)) = true := by
    rw [hs, hf, decide_eq_false ho, decide_eq_false hw]
    exact Bool.false_ne_true
  exact if_neg hgo

/-- An entry put in a ring with room stands behind the others. -/
theorem State.entries_ringPut (s : State) (a n : Nat) (w : RingWord) (hon : (s.ring a n).enable = true)
    (hroom : (s.ring a n).entries.length < 4096) :
    ((s.ringPut a n w).ring a n).entries = (s.ring a n).entries ++ [w] := by
  have he : s.ringPut a n w =
      (s.modRing a n (fun r => { r with entries := r.entries ++ [w] })).ringCheck (s.ring a n) a n := by
    exact (if_neg (by rw [hon]; exact Bool.false_ne_true)).trans (if_neg (by omega))
  have hr (k : Nat) : (s.ringPut a n w).ring a k = (s.modRing a n (fun r => { r with entries := r.entries ++ [w] })).ring a k := by
    rw [he]
    unfold State.ring
    rw [(State.ringCheck_kept ..).2.2.2.2.2.2.2.2.1]
  rw [hr, State.ring_modRing, if_pos rfl]

end

/-- Settles O50: each write is its row, and a sample is one bed and one entry. -/
theorem bedCounters : Obligations.BedCounters := by
  unfold Obligations.BedCounters
  intro s t a ha ht
  refine ⟨fun i v hi hw hlen hleg => ?legal, fun i v hi hw hlen => ?length, fun i v hi hw hlen hleg => ?clamped,
    fun v hv hw => ?freeze, fun hw => ?snapshot, fun n hn hw hst => ?histNow, fun n hn hw hst => ?histLater,
    fun b i pc sp n p r c hb hi hn => ⟨fun h => ?none, fun hs hf ho hwk => ?taken, fun hs hf hrun hsmp hlen hon hroom => ?noted⟩⟩
  case legal =>
    have hu := row_blob (s := s) (t := t) ht spaceOf_counters (entryRow_counterSel hi) (.inr hw) (by simp) (by simp) rfl rfl
      (writeBlob_counterSel (s.at t) a hi hlen)
    have hclamp : (s.at t).clampIf a (decide (legalCounter v ≠ v)) = s.at t := by
      rw [decide_eq_false (not_not.2 hleg)]
      rfl
    rw [hclamp, hleg] at hu
    obtain ⟨hbegun, hstand, hslots, -, -, hcfg⟩ := (s.at t).selectCounter_leaves i v
    have hstr : _ = ((s.at t).selectCounter i v).str := (accepted_kept hu).2.2.2.2.2.2.2.2.2.1
    have hbed (b : Nat) := congrArg (fun m : Streams => tget (fun _ => ({} : Bed)) m.beds b) hstr
    refine ⟨_, exec_counterSel t v s ha hi, (accepted_cfg hu 0x43 0 (0x10 + i)).trans hcfg, fun b hb hl => ?_, fun b => ?_,
      (congrArg Streams.slots hstr).trans hslots⟩
    · have h := hbegun b hb (by rw [State.bed_at, hl]; exact hi)
      exact ⟨(congrArg (fun x : Bed => x.bc.getD i 0) (hbed b)).trans h.1, fun hm =>
        h.2 ((congrArg Bed.sampling (hbed b)) ▸ hm)⟩
    · exact ⟨(congrArg Bed.st (hbed b)).trans (hstand b).1, (congrArg Bed.mic (hbed b)).trans (hstand b).2⟩
  case length =>
    exact (exec_counterSel t v s ha hi).trans (congrArg Host.Outcome.next (row_blob_refused (s := s) (t := t) ht
      spaceOf_counters (entryRow_counterSel hi) (.inr hw) (by simp) (by simp) rfl rfl (by decide)
      (writeBlob_counterSel_long (s.at t) a i hlen)))
  case clamped =>
    have hu := row_blob (s := s) (t := t) ht spaceOf_counters (entryRow_counterSel hi) (.inr hw) (by simp) (by simp) rfl rfl
      (writeBlob_counterSel (s.at t) a hi hlen)
    have hclamp : (s.at t).clampIf a (decide (legalCounter v ≠ v)) = (s.at t).clamp a := by
      rw [decide_eq_true hleg]
      rfl
    rw [hclamp] at hu
    obtain ⟨-, hstand, hslots, hallots, -, hcfg⟩ := ((s.at t).clamp a).selectCounter_leaves i (legalCounter v)
    have hstr : _ = (((s.at t).clamp a).selectCounter i (legalCounter v)).str := (accepted_kept hu).2.2.2.2.2.2.2.2.2.1
    have hall : _ = (((s.at t).clamp a).selectCounter i (legalCounter v)).allots :=
      (accepted_kept hu).2.2.2.2.2.2.2.2.2.2.2.1
    have hbed (b : Nat) := congrArg (fun m : Streams => tget (fun _ => ({} : Bed)) m.beds b) hstr
    refine ⟨_, exec_counterSel t v s ha hi, (accepted_cfg hu 0x43 0 (0x10 + i)).trans hcfg,
      congrArg Answer.status (accepted_answer hu), ?_, fun b => ?_, (congrArg Streams.slots hstr).trans hslots⟩
    · exact (congrArg (fun m => (tget (fun _ => ({} : Allot)) m a).clamps) (hall.trans hallots)).trans
        (congrArg Allot.clamps ((s.at t).modAllot_alone a _).1)
    · exact ⟨(congrArg Bed.st (hbed b)).trans (hstand b).1, (congrArg Bed.mic (hbed b)).trans (hstand b).2⟩
  case freeze =>
    have hu := row_number_inRange (s := s) (t := t) ht hw spaceOf_counters entryRow_freeze (by simp) (by simp) rfl rfl
      (by omega) rfl (by omega) (by omega) (by simp [creditOf]) (by simp) (writeNumber_freeze (s.at t) a v)
    obtain ⟨hfrozen, hstand, hframe⟩ := (s.at t).freezeAll_leaves (decide (v = 1))
    have hstr : _ = ((s.at t).freezeAll (decide (v = 1))).str := (accepted_kept hu).2.2.2.2.2.2.2.2.2.1
    have hbed (b : Nat) := congrArg (fun m : Streams => tget (fun _ => ({} : Bed)) m.beds b) hstr
    refine ⟨_, exec_freeze t v s ha, (congrArg Streams.frozen hstr).trans hfrozen, fun b =>
      ⟨(congrArg Bed.st (hbed b)).trans (hstand b).1, (congrArg Bed.mic (hbed b)).trans (hstand b).2⟩, ?_⟩
    have hnow : ((s.at t).freezeAll (decide (v = 1))).now = t := by rw [hframe]; rfl
    rw [hnow] at hu
    rw [hstr, ← hframe]
    exact hu
  case snapshot =>
    have hu := row_number_inRange (s := s) (t := t) (v := 1) ht hw spaceOf_counters entryRow_snapshot (by simp) (by simp) rfl
      rfl (by omega) rfl (by omega) (by omega) (by simp [creditOf]) (by simp) (writeNumber_snapshot (s.at t) a 1)
    obtain ⟨htime, hsnap, -, -, hframe⟩ := (s.at t).snapshot_leaves
    have hstr : _ = ((s.at t).snapshot).str := (accepted_kept hu).2.2.2.2.2.2.2.2.2.1
    have hbed (b : Nat) := congrArg (fun m : Streams => tget (fun _ => ({} : Bed)) m.beds b) hstr
    refine ⟨_, exec_snapshot t s ha, (congrArg Streams.snapTime hstr).trans htime, fun b hb => ?_, ?_⟩
    · have hs := congrArg Bed.snap (hbed b)
      have hc := congrArg Bed.bc (hbed b)
      exact hs.trans ((hsnap b hb).trans (by rw [State.bed_at]; exact congrArg (ite _ _) hc.symm))
    · have hnow : (s.at t).snapshot.now = t := by rw [hframe]; rfl
      rw [hnow] at hu
      rw [hstr, ← hframe]
      exact hu
  case histNow =>
    have hu := row_number_inRange (s := s) (t := t) (v := 1) ht hw (spaceOf_hist hn) (entryRow_histClear n) (by simp) (by simp)
      rfl rfl (by omega) rfl (by omega) (by omega) (by simp [creditOf]) (by simp) (writeNumber_histClear (s.at t) a _ _ n 1)
    have ho : (s.at t).orderHistClear n =
        (t, (s.at t).modSlot n (fun x => { x with histClear := none, coding := {}, residence := {} })) :=
      if_neg (by rw [State.slot_at]; omega)
    rw [ho] at hu
    have hstr : _ = ((s.at t).modSlot n (fun x => { x with histClear := none, coding := {}, residence := {} })).str :=
      (accepted_kept hu).2.2.2.2.2.2.2.2.2.1
    have hslot (k : Nat) := (congrArg (fun m : Streams => tget (fun _ => ({} : Slot)) m.slots k) hstr).trans
      ((s.at t).slot_modSlot n k fun x => { x with histClear := none, coding := {}, residence := {} })
    refine ⟨_, exec_histClear t s ha hn, (hslot n).trans (if_pos rfl), fun k hk => (hslot k).trans (if_neg hk), ?_⟩
    rw [hstr]
    exact hu
  case histLater =>
    have hu := row_number_inRange (s := s) (t := t) (v := 1) ht hw (spaceOf_hist hn) (entryRow_histClear n) (by simp) (by simp)
      rfl rfl (by omega) rfl (by omega) (by omega) (by simp [creditOf]) (by simp) (writeNumber_histClear (s.at t) a _ _ n 1)
    have ho : (s.at t).orderHistClear n = ((s.at t).nextBoundary n,
        (s.at t).modSlot n (fun x => { x with histClear := some ((s.at t).nextBoundary n) })) :=
      if_pos (by rw [State.slot_at]; exact hst)
    rw [ho] at hu
    have hstr : _ = ((s.at t).modSlot n (fun x => { x with histClear := some ((s.at t).nextBoundary n) })).str :=
      (accepted_kept hu).2.2.2.2.2.2.2.2.2.1
    have hslot (k : Nat) := (congrArg (fun m : Streams => tget (fun _ => ({} : Slot)) m.slots k) hstr).trans
      ((s.at t).slot_modSlot n k fun x => { x with histClear := some ((s.at t).nextBoundary n) })
    refine ⟨_, exec_histClear t s ha hn, (hslot n).trans (if_pos rfl), fun k hk => (hslot k).trans (if_neg hk), ?_⟩
    rw [hstr]
    exact hu
  case none =>
    exact (exec_bedCounterOverflow t pc sp p r c s hb hi hn).trans
      (congrArg Host.Outcome.next (State.counterSample_none (s := s.at t) pc sp n p r c h))
  case taken =>
    refine ⟨_, (exec_bedCounterOverflow t pc sp p r c s hb hi hn).trans
      (congrArg Host.Outcome.next (State.counterSample_taken (s := s.at t) pc sp n p r c hs hf ho hwk)), ?_, fun k hk => ?_, rfl⟩
    · rw [State.bed_modBed, if_pos rfl]
      rfl
    · rw [State.bed_modBed, if_neg hk]
      rfl
  case noted =>
    refine ⟨_, (exec_bedCounterOverflow t pc sp p r c s hb hi hn).trans (congrArg Host.Outcome.next
      (State.counterSample_taken (s := s.at t) pc sp n p r c hs hf (by rw [State.bed_at, hrun]; decide)
        (by rw [State.bed_at, hrun]; decide))), ?_⟩
    have hbed (w : State) (k : Nat) (x : RingWord) (m : Nat) : (w.ringPut 0 m x).bed k = w.bed k := by
      unfold State.bed
      rw [(w.ringPut_kept 0 m x).2.2.2.2.2.2.2.2.1]
    have hself : ((s.at t).modBed b (fun x => x.sampled i ((s.at t).counterSel i).2.2.2)).bed b =
        (s.bed b).sampled i ((s.at t).counterSel i).2.2.2 := by
      rw [State.bed_modBed, if_pos rfl]
      rfl
    refine ⟨?_, ?_, ?_, fun k hk => ?_⟩
    · unfold State.event
      rw [hbed, hself]
      exact if_neg hsmp
    · unfold State.event
      rw [hbed, hself]
      rfl
    · exact State.entries_ringPut ((s.at t).modBed b (fun x => x.sampled i ((s.at t).counterSel i).2.2.2)) 0 _ _ hon hroom
    · unfold State.event
      rw [hbed]
      rw [State.bed_modBed, if_neg hk]
      rfl

end Sys2Proof.Machine
end

section
/-! PROOFS. Harvest lists, harvests and images (R412, R413). -/

namespace Sys2Proof.Machine

theorem exec_harvestList {a c : Nat} (t : Nat) (l : List (Nat × Nat)) (s : State) (ha : a < 16) (hc : c < 16) :
    exec (.harvestList t a c l) s = .next ((s.at t).orderWrite a 0x43 (0x100 + c) 0x01 (harvestBytes l)) :=
  (if_pos (decide_eq_true ha)).trans (by simp [named, isAllot, hc])
theorem exec_harvestInstant (t : Nat) (s : State) : exec (.harvestInstant t) s = .next
    (if s.shed.restarting && decide (t % (s.str.harvestMs * 1000000) = 0) then (s.at t).harvest.copyCounters
      else (s.at t).harvest) := rfl
theorem exec_harvestComplete {a : Nat} (t : Nat) (s : State) (ha : a < 16) :
    exec (.harvestComplete t a) s = .next ((s.at t).harvestShown a) := if_pos (decide_eq_true ha)

theorem spaceOf_harvest {c : Nat} (h : c < 16) : spaceOf 0x43 (0x100 + c) = some (.harvest, c) := by
  have h1 : ¬ (0x100 + c ≤ 0) := by omega
  have h2 : 0x100 + c ≤ 0x10F := by omega
  simp [spaceOf, spacesOf, h2]

/-! ## HARVEST_LIST (R413) -/

/-- The bytes of a list read back as the list. -/
theorem harvestList_harvestBytes {l : List (Nat × Nat)} (h : ∀ e ∈ l, e.1 < 256 ∧ e.2 < 4294967296) :
    (harvestBytes l).length = 5 * l.length ∧ harvestList (harvestBytes l) = l := by
  induction l with
  | nil => exact ⟨rfl, rfl⟩
  | cons e r ih =>
    obtain ⟨hlen, hlist⟩ := ih fun x hx => h x (List.mem_cons_of_mem e hx)
    obtain ⟨h1, h2⟩ := h e List.mem_cons_self
    have hb : harvestBytes (e :: r) = natLe 1 e.1 ++ (natLe 4 e.2 ++ harvestBytes r) := by
      unfold harvestBytes
      rw [List.flatMap_cons, List.append_assoc]
    have hl : (harvestBytes (e :: r)).length = 5 * (r.length + 1) := by
      rw [hb, List.length_append, List.length_append, natLe_length, natLe_length, hlen]
      omega
    refine ⟨hl, ?_⟩
    have hn : (harvestBytes r).length / 5 = r.length := by omega
    unfold harvestList at hlist ⊢
    rw [hn] at hlist
    rw [hl, Nat.mul_div_cancel_left _ (by decide : 0 < 5), List.range_succ_eq_map, List.map_cons, List.map_map, hb]
    refine congrArg₂ List.cons ?_ ?_
    · rw [fieldAt_natLe, fieldAt_skip 1 e.1 _ (by omega), fieldAt_natLe]
      exact Prod.ext (Nat.mod_eq_of_lt (by omega)) (Nat.mod_eq_of_lt (by omega))
    · refine (List.map_congr_left fun k _ => ?_).trans hlist
      rw [Function.comp_apply, fieldAt_skip 1 e.1 _ (by omega), fieldAt_skip 4 e.2 _ (by omega),
        fieldAt_skip 1 e.1 _ (by omega), fieldAt_skip 4 e.2 _ (by omega)]
      have he : 5 * k.succ - 1 - 4 = 5 * k := by omega
      have he' : 5 * k.succ + 1 - 1 - 4 = 5 * k + 1 := by omega
      rw [he, he']

section
variable {s : State} {c : Nat} {b : List Byte}

theorem State.setHarvest_format (h : b.length % 5 ≠ 0 ∨ 4032 < ((harvestList b).map (fun e => harvestSlots e.1)).sum ∨
    (harvestList b).any (fun e => (harvestObject e.1 e.2).isNone) = true) : s.setHarvest c b = (4, s) := if_pos h

theorem State.setHarvest_rights (h : ¬ (b.length % 5 ≠ 0 ∨ 4032 < ((harvestList b).map (fun e => harvestSlots e.1)).sum ∨
      (harvestList b).any (fun e => (harvestObject e.1 e.2).isNone) = true))
    (hr : (harvestList b).any (fun e => decide (e.1 ≠ 9) && !s.harvestRight c e.1 e.2) = true) :
    s.setHarvest c b = (2, s) := (if_neg h).trans (if_pos hr)

theorem State.setHarvest_taken (h : ¬ (b.length % 5 ≠ 0 ∨ 4032 < ((harvestList b).map (fun e => harvestSlots e.1)).sum ∨
      (harvestList b).any (fun e => (harvestObject e.1 e.2).isNone) = true))
    (hr : ¬ (harvestList b).any (fun e => decide (e.1 ≠ 9) && !s.harvestRight c e.1 e.2) = true) :
    s.setHarvest c b = (0, s.modHarvest c (fun h => { h with pend := some (harvestList b, s.now) })) :=
  (if_neg h).trans (if_neg hr)

end

/-- The row of HARVEST_LIST (Table 17.5). -/
def harvestRow : Row := { m0 := 0x01, m1 := 0x01, ty := .blob, acc := 15 }

theorem entryRow_harvest (c : Nat) : entryRow .harvest c 0x01 = some harvestRow := rfl

theorem writeBlob_harvest (s : State) (a c : Nat) (b : List Byte) :
    s.writeBlob a 0x43 (0x100 + c) 0x01 .harvest c b = byStatus (s.setHarvest c b) := rfl

/-! ## A harvest instant (R412) -/

/-- What an instant makes of allotment `a`'s harvest, of the counters of `s`. -/
def State.harvestTaken (s : State) (a : Nat) (h : Harvest) : Harvest :=
  let due := h.pend.any (fun p => decide (p.2 + 1000000 ≤ s.now))
  let list := if due then (h.pend.map (·.1)).getD [] else h.list
  let image : HImage :=
    { time := s.now, records := list.map (fun e => s.harvestRecord a e.1 e.2), frozen := s.str.frozen,
      snapTime := s.str.snapTime, periodMs := s.str.harvestMs }
  { h with list := list, pend := if due then none else h.pend,
           listGen := if due then (h.listGen + 1) % 65536 else h.listGen,
           skipped := if h.copying.isSome then (h.skipped + 1) % 4294967296 else h.skipped,
           copying := some image }

theorem State.harvestTaken_allots (s : State) (x : Tab Allot) (a : Nat) (h : Harvest) :
    ({ s with allots := x } : State).harvestTaken a h = s.harvestTaken a h := rfl

theorem State.harvestAllot_leaves (s : State) (a : Nat) :
    ((s.harvestAllot a).allot a).harvest = s.harvestTaken a (s.allot a).harvest ∧
    (∀ c, c ≠ a → (s.harvestAllot a).allot c = s.allot c) ∧
    s.harvestAllot a = { s with allots := (s.harvestAllot a).allots } := by
  obtain ⟨hself, hother, hframe⟩ := s.modAllot_alone a fun r => { r with harvest := s.harvestTaken a (s.allot a).harvest }
  have he : s.harvestAllot a = s.modAllot a fun r => { r with harvest := s.harvestTaken a (s.allot a).harvest } := rfl
  rw [he]
  exact ⟨congrArg Allot.harvest hself, hother, hframe⟩


/-- The loop over the allotments, named. -/
def State.harvestAllots (s : State) : State := (List.range 16).foldl State.harvestAllot s

/-- The loop over the allotments: each harvest is taken once, of the counters of the state it began with. -/
theorem State.harvestAllots_leaves (s : State) :
    (∀ a, a < 16 → (s.harvestAllots.allot a).harvest = s.harvestTaken a (s.allot a).harvest) ∧
    s.harvestAllots = { s with allots := s.harvestAllots.allots } := by
  have hI (u : State) (a : Nat) (h : u = { s with allots := u.allots }) :
      u.harvestAllot a = { s with allots := (u.harvestAllot a).allots } :=
    (u.harvestAllot_leaves a).2.2.trans (by rw [h])
  refine ⟨fun a ha => foldl_pointwise (fun (u : State) a => (u.allot a).harvest) State.harvestAllot
    (fun a h => s.harvestTaken a h) (fun u => u = { s with allots := u.allots }) hI (fun u a h => ?_)
    (fun u a k hk => congrArg Allot.harvest ((u.harvestAllot_leaves a).2.1 k hk)) List.nodup_range rfl (List.mem_range.2 ha), ?_⟩
  · refine (u.harvestAllot_leaves a).1.trans ?_
    generalize u.allots = x at h
    rw [h]
    exact s.harvestTaken_allots x a _
  · suffices hl : ∀ (l : List Nat) (u : State), u = { s with allots := u.allots } →
        l.foldl State.harvestAllot u = { s with allots := (l.foldl State.harvestAllot u).allots } from hl _ s rfl
    intro l
    induction l with
    | nil => exact fun _ h => h
    | cons x r ih => exact fun u h => ih _ (hI u x h)

theorem State.harvest_idle {s : State} (h : s.now % (s.str.harvestMs * 1000000) ≠ 0) : s.harvest = s := if_pos h

/-- The harvest period set. -/
def State.harvestPeriod (s : State) (ms : Nat) : State := { s with str := { s.str with harvestMs := ms } }

theorem State.harvestMs_harvestPeriod (s : State) (ms : Nat) : (s.harvestPeriod ms).str.harvestMs = ms := rfl

theorem State.allot_harvestPeriod (s : State) (ms a : Nat) : (s.harvestPeriod ms).allot a = s.allot a := rfl

theorem State.snapTime_harvestPeriod (s : State) (ms : Nat) : (s.harvestPeriod ms).str.snapTime = s.str.snapTime := rfl

theorem State.harvestPeriod_frame (s : State) (ms : Nat) :
    s.harvestPeriod ms = { s with str := (s.harvestPeriod ms).str } := rfl

theorem State.harvest_due {s : State} (h : s.now % (s.str.harvestMs * 1000000) = 0) :
    s.harvest = s.snapshot.harvestAllots.harvestPeriod (s.snapshot.harvestAllots.cfgN 0x43 0 0x01) := if_neg (not_not.2 h)

/-! ## The end of a copy (R412) -/

theorem State.harvestShown_none {s : State} {a : Nat} (h : (s.allot a).harvest.copying = none) : s.harvestShown a = s := by
  unfold State.harvestShown
  rw [h]

theorem State.harvestShown_image {s : State} {a : Nat} {i : HImage} (h : (s.allot a).harvest.copying = some i) :
    s.harvestShown a = s.modHarvest a (fun h => { h with image := i, copying := none, seq := inc64 h.seq }) := by
  unfold State.harvestShown
  rw [h]

/-- A harvest that is due: the snapshot, then one change of each allotment. -/
theorem State.harvest_leaves {s : State} (h : s.now % (s.str.harvestMs * 1000000) = 0) :
    s.harvest.str.harvestMs = s.cfgN 0x43 0 0x01 ∧ s.harvest.str.snapTime = s.now ∧
    (∀ a, a < 16 → (s.harvest.allot a).harvest = s.snapshot.harvestTaken a (s.allot a).harvest) ∧
    s.harvest = { s with str := s.harvest.str, allots := s.harvest.allots } := by
  obtain ⟨htime, -, -, -, hsnap⟩ := s.snapshot_leaves
  obtain ⟨htaken, hframe⟩ := s.snapshot.harvestAllots_leaves
  rw [State.harvest_due h]
  generalize s.snapshot.harvestAllots = w at htaken hframe ⊢
  generalize s.snapshot = v at htime htaken hframe hsnap ⊢
  have hw : w = { s with str := v.str, allots := w.allots } := hframe.trans (by rw [hsnap])
  have hcfg : w.cfgN 0x43 0 0x01 = s.cfgN 0x43 0 0x01 := by rw [hw]; rfl
  have hstr := congrArg State.str hw
  rw [hcfg]
  generalize s.cfgN 0x43 0 0x01 = ms
  have hsnapTime := (w.snapTime_harvestPeriod ms).trans (congrArg Streams.snapTime hstr)
  refine ⟨w.harvestMs_harvestPeriod ms, hsnapTime.trans htime, fun a ha => ?_, ?_⟩
  · have hold : v.allot a = s.allot a := by rw [hsnap]; rfl
    rw [w.allot_harvestPeriod, htaken a ha, hold]
  · have hp := w.harvestPeriod_frame ms
    have hall : (w.harvestPeriod ms).allots = w.allots := by rw [hp]
    rw [hall]
    generalize (w.harvestPeriod ms).str = y at hp
    rw [hp, hw]

/-- Settles O51: the list through `setHarvest`, the instant as one change of each allotment on the snapshot. -/
theorem harvests : Obligations.Harvests := by
  unfold Obligations.Harvests
  refine ⟨fun s t a c l ha hc ht hw hl => ⟨fun hsum hobj => ⟨fun hright => ?taken, fun hright => ?rights⟩, fun hbad => ?format⟩,
    fun s t => ⟨fun h => ?idle, fun h => ?due⟩, fun s t a ha => ⟨fun h => ?none, fun i h => ?shown⟩⟩
  case taken =>
    obtain ⟨hlen, hlist⟩ := harvestList_harvestBytes hl
    have hu := row_blob (s := s) (t := t) ht (spaceOf_harvest hc) (entryRow_harvest c) (.inr hw) (by simp) (by simp) rfl rfl
      ((writeBlob_harvest (s.at t) a c (harvestBytes l)).trans (congrArg byStatus (State.setHarvest_taken (by
        rw [hlist, hlen, List.any_eq_true, not_or, not_or]
        refine ⟨by omega, by omega, fun ⟨e, he, hn⟩ => ?_⟩
        rw [← Option.not_isSome, hobj e he] at hn
        exact Bool.false_ne_true hn) (by
        rw [hlist, List.any_eq_true]
        rintro ⟨e, he, hn⟩
        rw [Bool.and_eq_true, decide_eq_true_eq, Bool.not_eq_true'] at hn
        rcases hright e he with h9 | hr
        · exact hn.1 h9
        · exact absurd ((show (s.at t).harvestRight c e.1 e.2 = true from hr).symm.trans hn.2) (by decide)))))
    rw [hlist] at hu
    have hall : _ = ((s.at t).modHarvest c (fun h => { h with pend := some (l, t) })).allots :=
      (accepted_kept hu).2.2.2.2.2.2.2.2.2.2.2.1
    obtain ⟨hself, hother, -⟩ := (s.at t).modAllot_alone c fun r => { r with harvest := { r.harvest with pend := some (l, t) } }
    refine ⟨_, exec_harvestList t l s ha hc, ?_, fun k hk => ?_, ?_⟩
    · exact (congrArg (fun m => (tget (fun _ => ({} : Allot)) m c).harvest) hall).trans (congrArg Allot.harvest hself)
    · exact (congrArg (fun m => tget (fun _ => ({} : Allot)) m k) hall).trans (hother k hk)
    · rw [hall]
      exact hu
  case rights =>
    obtain ⟨hlen, hlist⟩ := harvestList_harvestBytes hl
    obtain ⟨e, he, h9, hr⟩ := hright
    exact (exec_harvestList t l s ha hc).trans (congrArg Host.Outcome.next (row_blob_refused (s := s) (t := t) ht
      (spaceOf_harvest hc) (entryRow_harvest c) (.inr hw) (by simp) (by simp) rfl rfl (by decide)
      ((writeBlob_harvest (s.at t) a c (harvestBytes l)).trans (congrArg byStatus (State.setHarvest_rights (by
        rw [hlist, hlen, List.any_eq_true, not_or, not_or]
        refine ⟨by omega, by omega, fun ⟨e, he, hn⟩ => ?_⟩
        rw [← Option.not_isSome, hobj e he] at hn
        exact Bool.false_ne_true hn) (by
        rw [hlist, List.any_eq_true]
        exact ⟨e, he, by rw [decide_eq_true h9, show (s.at t).harvestRight c e.1 e.2 = false from hr]; rfl⟩))))))
  case format =>
    obtain ⟨hlen, hlist⟩ := harvestList_harvestBytes hl
    refine (exec_harvestList t l s ha hc).trans (congrArg Host.Outcome.next (row_blob_refused (s := s) (t := t) ht
      (spaceOf_harvest hc) (entryRow_harvest c) (.inr hw) (by simp) (by simp) rfl rfl (by decide)
      ((writeBlob_harvest (s.at t) a c (harvestBytes l)).trans (congrArg byStatus (State.setHarvest_format ?_)))))
    rw [hlist, List.any_eq_true]
    rcases hbad with h | ⟨e, he, hn⟩
    · exact .inr (.inl h)
    · exact .inr (.inr ⟨e, he, by rw [hn]; rfl⟩)
  case idle =>
    have hex := exec_harvestInstant t s
    rw [decide_eq_false h, Bool.and_false, if_neg Bool.false_ne_true, State.harvest_idle (s := s.at t) h] at hex
    exact hex
  case due =>
    have hex := exec_harvestInstant t s
    rw [decide_eq_true h, Bool.and_true] at hex
    obtain ⟨hms, htime, htaken, hframe⟩ := State.harvest_leaves (s := s.at t) h
    obtain ⟨hsnap, -, hfrozen, hperiod, hleft⟩ := (s.at t).snapshot_leaves
    refine ⟨_, hex, hms, htime, fun a ha => (htaken a ha).trans ?_, hframe⟩
    have hnow : (s.at t).snapshot.now = t := by rw [hleft]; rfl
    unfold State.harvestTaken
    rw [hnow, hfrozen, hperiod, hsnap]
    rfl
  case none =>
    exact (exec_harvestComplete t s ha).trans (congrArg Host.Outcome.next (State.harvestShown_none (s := s.at t) h))
  case shown =>
    obtain ⟨hself, hother, hframe⟩ := (s.at t).modAllot_alone a fun r =>
      { r with harvest := { r.harvest with image := i, copying := none, seq := inc64 r.harvest.seq } }
    exact ⟨_, (exec_harvestComplete t s ha).trans
      (congrArg Host.Outcome.next (State.harvestShown_image (s := s.at t) h)), congrArg Allot.harvest hself, hother, hframe⟩

end Sys2Proof.Machine
end

section
/-! PROOFS. What a prune leaves of the beds and of the soil tests' marks; soil tests and RETEST (R396, R397, R399). -/

namespace Sys2Proof.Machine

/-! ## What emits leaves the beds alone -/

/-- The beds and the counts of the soil tests. -/
def State.soilView (s : State) : Tab Bed × List Nat := (s.str.beds, s.str.soilTests)

theorem soilView_of_str {s u : State} (h : u.str = s.str) : u.soilView = s.soilView := by
  unfold State.soilView
  rw [h]

section
variable (s : State)

@[simp] theorem State.soilView_modSlot (n : Nat) (f : Slot → Slot) : (s.modSlot n f).soilView = s.soilView := rfl
@[simp] theorem State.soilView_modTwin (n : Nat) (f : Twin → Twin) : (s.modTwin n f).soilView = s.soilView := rfl
@[simp] theorem State.soilView_emit (x : Emit) : (s.emit x).soilView = s.soilView := rfl
@[simp] theorem State.soilView_raise (n : Nat) : (s.raise n).soilView = s.soilView :=
  soilView_of_str (by simp [State.raise_kept ..])
@[simp] theorem State.soilView_setNext (die n : Nat) (p : Nat × Nat) : (s.setNext die n p).soilView = s.soilView := rfl
@[simp] theorem State.soilView_countTwin (n i : Nat) : (s.countTwin n i).soilView = s.soilView := rfl

@[simp] theorem State.soilView_emitParts (die n row tile length : Nat) (p : Pic) (body : List Part) :
    (s.emitParts die n row tile length p body).soilView = s.soilView := by
  unfold State.emitParts
  rw [State.soilView_emit]
  exact ite_keeps State.soilView (State.soilView_modSlot ..)

@[simp] theorem State.soilView_sendOwn (die i : Nat) (f : Frame) (o : Own) : (s.sendOwn die i f o).soilView = s.soilView :=
  soilView_of_str (by simp [State.sendOwn_kept ..])

@[simp] theorem State.soilView_meter (die a cls : Nat) (x : Usage) : (s.meter die a cls x).soilView = s.soilView :=
  soilView_of_str (by simp [State.meter_kept ..])

@[simp] theorem State.soilView_emitUnit (die n row : Nat) (sizes : List Nat) (p : Pic) (last : Bool) :
    (s.emitUnit die n row sizes p last).soilView = s.soilView := by
  unfold State.emitUnit
  dsimp only
  split
  · rfl
  split
  · rfl
  · rw [foldl_keeps State.soilView]
    · rfl
    · exact fun u j _ => (State.soilView_sendOwn ..).trans (State.soilView_modSlot ..)

@[simp] theorem State.soilView_meterPicture (die n k : Nat) (held : Bool) :
    (s.meterPicture die n k held).soilView = s.soilView := by
  unfold State.meterPicture
  exact (State.soilView_modSlot ..).trans (State.soilView_meter ..)

@[simp] theorem State.soilView_holdRow (die n place : Nat) (p : Pic) : (s.holdRow die n place p).soilView = s.soilView := by
  unfold State.holdRow
  refine (ite_keeps State.soilView (State.soilView_meterPicture ..)).trans ?_
  rw [State.soilView_emitUnit, State.soilView_emitParts, State.soilView_setNext, State.soilView_emit]

@[simp] theorem State.soilView_releaseUnit (die : Nat) (u : UnitCopy) : (s.releaseUnit die u).soilView = s.soilView := by
  unfold State.releaseUnit
  dsimp only
  split
  · rfl
  split
  · rfl
  · refine (ite_keeps State.soilView (State.soilView_meterPicture ..)).trans ?_
    rw [State.soilView_emitUnit, State.soilView_emitParts, State.soilView_setNext, State.soilView_emit]

theorem State.soilView_holdRest (die n : Nat) : (s.holdRest die n).soilView = s.soilView := by
  unfold State.holdRest
  refine foldl_keeps State.soilView _ _ (fun u p _ => ?_) s
  unfold State.holdUnits
  exact foldl_keeps State.soilView _ _ (fun v k _ => v.soilView_holdRow ..) u

@[simp] theorem State.soilView_setTwin (n : Nat) (st : TwinState) : (s.setTwin n st).soilView = s.soilView := by
  unfold State.setTwin
  split
  · rfl
  · rw [State.soilView_raise, State.soilView_modTwin]

@[simp] theorem State.soilView_setExcused (n : Nat) (b : Option Nat) : (s.setExcused n b).soilView = s.soilView := by
  unfold State.setExcused
  dsimp only
  split
  · rfl
  · rw [State.soilView_raise, State.soilView_modTwin]

@[simp] theorem State.soilView_keepRegions (n : Nat) (l : List Nat) : (s.keepRegions n l).soilView = s.soilView := by
  unfold State.keepRegions State.refence
  split <;> rfl

@[simp] theorem State.soilView_judge (n : Nat) : (s.judge n).soilView = s.soilView := by
  unfold State.judge
  dsimp only
  split
  · split <;> rfl
  · rfl

end


/-! ## What a prune leaves of the soil tests' marks -/

/-- The marks that a soil test leaves on a bed. -/
def Bed.soilPart (x : Bed) : Nat × Nat × Nat := (x.soilResult, x.failStep, x.soilFails)

/-- No mark of a soil test, no count and no prune is undone. -/
structure SoilKept (s u : State) : Prop where
  soil : ∀ b, (u.bed b).soilPart = (s.bed b).soilPart
  fenced : ∀ b, (s.bed b).st = .pruned → (u.bed b).st = .pruned
  tests : u.str.soilTests = s.str.soilTests
  units : ∀ x ∈ s.flt.pruned, x ∈ u.flt.pruned

section
variable {s u v : State}

theorem SoilKept.refl (s : State) : SoilKept s s := ⟨fun _ => rfl, fun _ => id, rfl, fun _ => id⟩

theorem SoilKept.trans (h : SoilKept s u) (g : SoilKept u v) : SoilKept s v :=
  ⟨fun b => (g.soil b).trans (h.soil b), fun b hb => g.fenced b (h.fenced b hb), g.tests.trans h.tests,
    fun x hx => g.units x (h.units x hx)⟩

theorem SoilKept.of_view (h : u.soilView = s.soilView) (hf : u.flt = s.flt) : SoilKept s u := by
  have hbeds : u.str.beds = s.str.beds := congrArg Prod.fst h
  have hbed (b : Nat) : u.bed b = s.bed b := congrArg (fun l => tget (fun _ => ({} : Bed)) l b) hbeds
  exact ⟨fun b => by rw [hbed], fun b hb => by rw [hbed]; exact hb, congrArg Prod.snd h, fun x hx => by rw [hf]; exact hx⟩

theorem SoilKept.foldl {α : Type} {f : State → α → State} (hf : ∀ s x, SoilKept s (f s x)) (l : List α) (s : State) :
    SoilKept s (l.foldl f s) := by
  induction l generalizing s with
  | nil => exact .refl s
  | cons x r ih => exact (hf s x).trans (ih _)

theorem SoilKept.ite {c : Prop} [Decidable c] (h : SoilKept s u) (g : SoilKept s v) : SoilKept s (if c then u else v) := by
  split
  · exact h
  · exact g

theorem SoilKept.modBed (s : State) (n : Nat) {f : Bed → Bed} (hs : ∀ x, (f x).soilPart = x.soilPart)
    (hp : ∀ x, x.st = .pruned → (f x).st = .pruned) : SoilKept s (s.modBed n f) := by
  refine ⟨fun b => ?_, fun b hb => ?_, rfl, fun _ => id⟩
  · rw [State.bed_modBed]
    split
    · next h => rw [h, hs]
    · rfl
  · rw [State.bed_modBed]
    split
    · next h => exact hp _ (h ▸ hb)
    · exact hb

theorem State.tests_setBed (s : State) (n : Nat) (st : BedState) : (s.setBed n st).str.soilTests = s.str.soilTests := by
  have htick (u : State) : (u.tick n).str.soilTests = u.str.soilTests := by
    have h := (Ticked.tick u n).frame
    generalize u.tick n = w at h
    rw [h]
  unfold State.setBed
  split
  · rfl
  · have hraise (u : State) (k : Nat) : (u.raise k).str.soilTests = u.str.soilTests := by simp only [State.raise_kept ..]
    rw [hraise, htick, State.modBed_str_soilTests, htick]

theorem SoilKept.setBed (s : State) (n : Nat) {st : BedState} (h : st = .pruned ∨ (s.bed n).st ≠ .pruned) :
    SoilKept s (s.setBed n st) := by
  refine ⟨fun b => ?_, fun b hb => ?_, s.tests_setBed n st, fun x hx => by simpa [State.setBed_kept ..] using hx⟩
  · by_cases hbn : b = n
    · rw [hbn]
      have hu := congrArg Bed.soilPart (s.bed_setBed n st)
      exact hu
    · rw [s.bed_setBed_other st hbn]
  · by_cases hbn : b = n
    · rw [hbn] at hb ⊢
      rw [State.st_setBed]
      exact h.resolve_right (not_not.2 hb)
    · rw [s.bed_setBed_other st hbn]
      exact hb

theorem SoilKept.setSlots (s : State) (n : Nat) (f : List Nat → List Nat) : SoilKept s (s.setSlots n f) := by
  have hmod := SoilKept.modBed s n (f := fun b => { b with slots := f b.slots }) (fun _ => rfl) (fun _ => id)
  unfold State.setSlots
  generalize s.modBed n _ = w at hmod ⊢
  exact hmod.trans (.of_view (soilView_of_str (by simp only [State.reowned_kept ..])) (by simp only [State.reowned_kept ..]))

theorem SoilKept.raise (h : SoilKept s u) (n : Nat) : SoilKept s (u.raise n) :=
  h.trans (.of_view (u.soilView_raise n) (by simp only [State.raise_kept ..]))

theorem SoilKept.switchBank (s : State) (n : Nat) : SoilKept s (s.switchBank n) := by
  unfold State.switchBank
  split
  · exact .refl s
  · refine .raise ?_ _
    exact .modBed s n (fun _ => rfl) (fun _ => id)

theorem SoilKept.patchSettled (s : State) : SoilKept s s.patchSettled := by
  unfold State.patchSettled
  exact .ite (.of_view rfl rfl) (.refl s)

theorem SoilKept.freshPatch (s : State) (n : Nat) : SoilKept s (s.freshPatch n) := by
  have hmod := SoilKept.modBed s n (f := fun b =>
    { b with standby := if b.standby.isNone && decide (b.patch = s.str.patch) then none else some s.str.patch })
    (fun _ => rfl) (fun _ => id)
  unfold State.freshPatch
  dsimp only
  generalize s.modBed n _ = w at hmod ⊢
  exact hmod.trans ((SoilKept.switchBank w n).trans (SoilKept.patchSettled _))

theorem SoilKept.unassign (s : State) (n slot : Nat) : SoilKept s (s.unassign n slot) := by
  unfold State.unassign
  dsimp only
  have hdrop := (SoilKept.setSlots s n (fun l => removeFrom l slot)).trans (SoilKept.modBed _ n
    (f := fun b => { b with slotNow := if b.slotNow = some slot then none else b.slotNow }) (fun _ => rfl) (fun _ => id))
  generalize (s.setSlots n fun l => removeFrom l slot).modBed n _ = w at hdrop ⊢
  refine hdrop.trans ?_
  split
  · next h =>
    have hclear := (SoilKept.modBed w n (f := fun b => { b with
      mic := {}, issued := 0, store := [], trapped := false, trapHeld := false, stopped := false, fifo := {}, unitStart := 0,
      unitFlag := false, flagged := [], strips := [], chunks := [], exchange := [], row := 0, ctu := 0, ready := (0, 0),
      closed := (0, 0), conds := 0, slotNow := none }) (fun _ => rfl) (fun _ => id)).trans
      (SoilKept.modBed (w.clearBed n) n (f := fun b => { b with idleSince := (w.clearBed n).now }) (fun _ => rfl) (fun _ => id))
    refine hclear.trans ((SoilKept.setBed _ n (.inr ?_)).trans (SoilKept.freshPatch _ n))
    have hst : (((w.clearBed n).modBed n (fun b => { b with idleSince := (w.clearBed n).now })).bed n).st = (w.bed n).st := by
      rw [State.bed_modBed, if_pos rfl]
      unfold State.clearBed
      rw [State.bed_modBed, if_pos rfl]
    rw [hst, h.2]
    decide
  · exact .refl w

theorem SoilKept.endContest (s : State) (n : Nat) : SoilKept s (s.endContest n) := by
  unfold State.endContest
  dsimp only
  split
  · exact .refl s
  · refine SoilKept.trans ?_ (.of_view (State.soilView_modTwin ..) rfl)
    exact .ite (.foldl (fun u b => .unassign u b n) _ s) (.refl s)

theorem SoilKept.doubleFaultOne (s : State) (n : Nat) : SoilKept s (s.doubleFaultOne n) := by
  unfold State.doubleFaultOne
  dsimp only
  split
  · exact .refl s
  · refine (SoilKept.endContest s n).trans ?_
    generalize s.endContest n = w
    refine .ite (.of_view (by simp) (by simp [State.setExcused_kept .., State.setTwin_kept .., State.countTwin_kept ..])) ?_
    refine SoilKept.trans (u := _) (.of_view (by simp) (by simp [State.setExcused_kept .., State.setTwin_kept .., State.countTwin_kept ..]))
      (.foldl (fun u die => .of_view (u.soilView_holdRest die n) (by simp [State.holdRest_kept ..])) _ _)

theorem SoilKept.doubleFault (s : State) (n : Nat) : SoilKept s (s.doubleFault n) :=
  .foldl (fun u k => .doubleFaultOne u k) _ s

theorem SoilKept.flushOpen (s : State) (n : Nat) : SoilKept s (s.flushOpen n) := by
  unfold State.flushOpen
  dsimp only
  refine SoilKept.trans (u := s.modTwin n fun w => { w with open_ := [] }) (.of_view (State.soilView_modTwin ..) rfl) ?_
  exact .ite (.doubleFault _ n) (.foldl (fun u o => .of_view (State.soilView_releaseUnit ..) (by simp only [State.releaseUnit_kept ..])) _ _)

theorem SoilKept.drop (s : State) (side : List Nat) (n : Nat) :
    SoilKept s (side.foldl (fun (s : State) b => s.setSlots b (fun l => removeFrom l n)) s) :=
  .foldl (fun u b => .setSlots u b _) side s

theorem SoilKept.keepRegions (h : SoilKept s u) (n : Nat) (l : List Nat) : SoilKept s (u.keepRegions n l) :=
  h.trans (.of_view (u.soilView_keepRegions n l) (by simp only [State.keepRegions_kept ..]))

theorem SoilKept.setTwin (h : SoilKept s u) (n : Nat) (st : TwinState) : SoilKept s (u.setTwin n st) :=
  h.trans (.of_view (u.soilView_setTwin n st) (by simp only [State.setTwin_kept ..]))

theorem SoilKept.modTwin (h : SoilKept s u) (n : Nat) (f : Twin → Twin) : SoilKept s (u.modTwin n f) :=
  h.trans (.of_view (u.soilView_modTwin n f) rfl)

theorem SoilKept.judge (h : SoilKept s u) (n : Nat) : SoilKept s (u.judge n) :=
  h.trans (.of_view (u.soilView_judge n) (by simp only [State.judge_kept ..]))

theorem SoilKept.loseMember (s : State) (n : Nat) (side : List Nat) : SoilKept s (s.loseMember n side) := by
  unfold State.loseMember
  dsimp only
  refine .ite (.refl s) (.ite ?_ (.ite (.refl s) ?_))
  · have hdrop := (SoilKept.modTwin (.refl s) n fun w =>
      { w with scion := [], retrial := false, probation := none, transplanted := none, loaded := none }).trans
        (SoilKept.drop _ side n)
    have hkeep := hdrop.keepRegions n ((s.twin n).lead ++ (s.twin n).partner)
    exact .ite (hkeep.setTwin n .single) hkeep
  · have hdrop := ((SoilKept.endContest s n).modTwin n fun w => { w with counts := bumpAt w.counts 0 1 }).trans
      (SoilKept.drop _ side n)
    have hexc := hdrop.trans (.of_view (State.soilView_setExcused _ n none) (by simp only [State.setExcused_kept ..]))
    refine SoilKept.trans ((hexc.modTwin n _).keepRegions n _) (.ite (.doubleFault _ n) ?_)
    refine SoilKept.judge (SoilKept.trans ?_ (.flushOpen _ n)) n
    refine SoilKept.ite ?_ (SoilKept.setTwin ?_ n .single) <;>
      exact .ite (.modTwin (.refl _) n _) (.refl _)

theorem SoilKept.markPruned (s : State) (d n : Nat) : SoilKept s (s.markPruned d n) :=
  ⟨fun _ => rfl, fun _ => id, rfl, fun x hx => by
    show x ∈ addTo s.flt.pruned (d, n)
    unfold addTo
    split
    · exact hx
    · exact List.mem_append_left _ hx⟩

theorem SoilKept.pruneBed (s : State) (b : Nat) : SoilKept s (s.pruneBed b) := by
  unfold State.pruneBed
  dsimp only
  refine .ite (.refl s) ?_
  have hmark := (SoilKept.markPruned s (bedDie b) (b % 36)).trans (SoilKept.modBed _ b (f := fun x =>
    { x with fifo := {}, unitFlag := false, spare := false, warm := false, trapHeld := false, wakeWaits := false })
    (fun _ => rfl) (fun _ => id))
  exact (hmark.trans (.setBed _ b (.inl rfl))).trans (.foldl (fun u n => .loseMember u n _) _ _)


theorem SoilKept.stopTicks (h : SoilKept s u) : SoilKept s u.stopTicks := h.trans ⟨fun _ => rfl, fun _ => id, rfl, fun _ => id⟩

theorem SoilKept.recordRaise (s : State) (id : Nat) (forced : Bool) : SoilKept s (s.recordRaise id forced) := by
  have hstr : (s.recordRaise id forced).str = s.str := by simp only [State.recordRaise_kept ..]
  have hbed (b : Nat) : (s.recordRaise id forced).bed b = s.bed b :=
    congrArg (fun x : Streams => tget (fun _ => ({} : Bed)) x.beds b) hstr
  exact ⟨fun b => congrArg Bed.soilPart (hbed b), fun b hb => (congrArg Bed.st (hbed b)).trans hb,
    congrArg Streams.soilTests hstr, fun x hx => by rw [(RaisedAlone.recordRaise s id forced).pruned]; exact hx⟩

theorem SoilKept.abandon (h : SoilKept s u) (d n : Nat) : SoilKept s (u.abandon d n) := by
  refine h.trans ?_
  unfold State.abandon
  dsimp only
  exact .ite (.refl u) ⟨fun _ => rfl, fun _ => id, rfl, fun _ => id⟩

theorem SoilKept.pruneC (s : State) (d : Nat) : SoilKept s (s.pruneC d) := by
  unfold State.pruneC
  exact .ite (.refl s) ((SoilKept.markPruned s d 0xFF).trans (.foldl (fun u j => .pruneBed u _) _ _))

theorem unitOf_bed {d j : Nat} (hd : d < 8) (hj : j < 36) : unitOf (256 * d + j) = some (d, j) := by
  have hdiv : (256 * d + j) / 256 = d := by omega
  have hmod : (256 * d + j) % 256 = j := by omega
  unfold unitOf
  rw [hdiv, hmod]
  exact (if_pos hd).trans (if_pos (by omega))

/-- A source of a bed prunes beds alone. -/
theorem SoilKept.react {d j : Nat} (hd : d < 8) (hj : j < 36) (s : State) (cls : Nat) :
    SoilKept s (s.react (256 * d + j) cls) := by
  unfold State.react
  split
  · exact .refl s
  · rw [if_neg (by omega), if_neg (by omega)]
    exact .refl s
  · rw [unitOf_bed hd hj]
    dsimp only
    rw [if_neg (by omega)]
    have habandon := (SoilKept.refl s).abandon d (if cls = 3 then 0xFF else j)
    generalize s.abandon d (if cls = 3 then 0xFF else j) = w at habandon ⊢
    refine .stopTicks (habandon.trans ?_)
    unfold State.pruneUnit
    rw [if_pos hd]
    exact .ite (.pruneC _ d) (.foldl (fun u b => .pruneBed u b) _ _)

theorem SoilKept.raiseFault {d j : Nat} (hd : d < 8) (hj : j < 36) (s : State) : SoilKept s (s.raiseFault (256 * d + j)) := by
  have hmod : SoilKept s (s.modSource (256 * d + j) fun x => { x with cause := true }) :=
    ⟨fun _ => rfl, fun _ => id, rfl, fun _ => id⟩
  unfold State.raiseFault State.raised
  dsimp only
  exact .ite (.refl s) (.ite hmod (hmod.trans (.ite (.refl _) ((SoilKept.recordRaise _ _ _).trans (.react hd hj _ _)))))

end

/-! ## Soil tests -/

theorem exec_soilTestStart {b : Nat} (t : Nat) (s : State) (hb : b < 288) :
    exec (.soilTestStart t b) s = .next ((s.at t).soilTest b) := if_pos (decide_eq_true hb)
theorem exec_soilTestEnd {b : Nat} (t k : Nat) (s : State) (hb : b < 288) :
    exec (.soilTestEnd t b k) s = .next ((s.at t).soilEnd b k) := if_pos (decide_eq_true hb)
theorem exec_retest {a b : Nat} (t : Nat) (s : State) (ha : a < 16) (hb : b < 288) :
    exec (.retest t a b) s = .next ((s.at t).orderNumber a 0x42 (0x1000 + b) 0x04 1 1) :=
  (if_pos (decide_eq_true ha)).trans (by simp [named, isBed, hb])

theorem spaceOf_soilBed {b : Nat} (h : b < 288) : spaceOf 0x42 (0x1000 + b) = some (.soilBed, b) := by
  have h1 : ¬ (0x1000 + b ≤ 0) := by omega
  have h2 : 0x1000 + b ≤ 0x111F := by omega
  simp [spaceOf, spacesOf, h2]


theorem State.soilTest_idle {s : State} {b : Nat} (h : s.shedLive = false ∨ s.soilMay b = false) : s.soilTest b = s := by
  refine if_neg ?_
  rcases h with h | h <;> rw [h] <;> simp

theorem State.soilTest_begun {s : State} {b : Nat} (hl : s.shedLive = true) (hm : s.soilMay b = true) :
    s.soilTest b = (s.countSoil 0).setBed b .soilTest := if_pos (by rw [hl, hm]; rfl)

theorem State.soilEnd_none {s : State} {b : Nat} (h : (s.bed b).st ≠ .soilTest) (k : Nat) : s.soilEnd b k = s := if_pos h

/-! ### A test that failed -/

/-- The state in which a bed that failed at step `k` is pruned. -/
def State.soilFailed (s : State) (b k : Nat) : State :=
  (s.countSoil 2).modBed b (fun x =>
    { x with soilResult := 2, failStep := k, soilFails := x.soilFails + 1, owed := false })

theorem State.soilEnd_failed {s : State} {b k : Nat} (h : (s.bed b).st = .soilTest) (hk : k ≠ 0) :
    s.soilEnd b k = ((s.soilFailed b k).pruneBed b).raiseFault (256 * bedDie b + b % 36) :=
  (if_neg (not_not.2 h)).trans (if_neg hk)

/-- A bed that is pruned is PRUNED, and so is its unit; its marks stand. -/
theorem State.pruneBed_fences {s : State} {b : Nat} (h : s.isPruned (bedDie b) (b % 36) = false) :
    ((s.pruneBed b).bed b).st = .pruned ∧ (bedDie b, b % 36) ∈ (s.pruneBed b).flt.pruned := by
  have he : s.pruneBed b = (s.bed b).slots.foldl (fun (s : State) n => s.loseMember n ((s.twin n).sideOf b))
      (((s.markPruned (bedDie b) (b % 36)).modBed b (fun x =>
        { x with fifo := {}, unitFlag := false, spare := false, warm := false, trapHeld := false, wakeWaits := false })).setBed
          b .pruned) := if_neg (by rw [h]; exact Bool.false_ne_true)
  have hkept : SoilKept _ (s.pruneBed b) := he ▸ SoilKept.foldl
    (f := fun (s : State) n => s.loseMember n ((s.twin n).sideOf b)) (fun u n => .loseMember u n _) (s.bed b).slots _
  refine ⟨hkept.fenced b (State.st_setBed _ b .pruned), hkept.units _ ?_⟩
  have hflt : (((s.markPruned (bedDie b) (b % 36)).modBed b (fun x =>
      { x with fifo := {}, unitFlag := false, spare := false, warm := false, trapHeld := false, wakeWaits := false })).setBed
        b .pruned).flt = (s.markPruned (bedDie b) (b % 36)).flt := by simp only [State.setBed_kept ..]; rfl
  rw [hflt]
  exact mem_addTo_self s.flt.pruned (bedDie b, b % 36)

/-! ### A test that passed -/

/-- What a pass leaves on a bed. -/
def Bed.passPart (x : Bed) : BedState × Bool × Bool × Nat × Nat × Nat :=
  (x.st, x.untested, x.owed, x.lastPass, x.soilResult, x.soilFails)

/-- A bed's pass and the counts of the tests. -/
def State.passView (s : State) (b : Nat) : (BedState × Bool × Bool × Nat × Nat × Nat) × List Nat :=
  ((s.bed b).passPart, s.str.soilTests)

theorem State.passView_modBed (s : State) (n b : Nat) {f : Bed → Bed} (h : ∀ x, (f x).passPart = x.passPart) :
    (s.modBed n f).passView b = s.passView b := by
  unfold State.passView
  rw [State.bed_modBed, State.modBed_str_soilTests]
  split
  · next hb => rw [hb, h]
  · rfl

theorem State.passView_of_str {s u : State} (h : u.str = s.str) (b : Nat) : u.passView b = s.passView b := by
  unfold State.passView State.bed
  rw [h]

theorem State.passView_raise (s : State) (n b : Nat) : (s.raise n).passView b = s.passView b :=
  State.passView_of_str (by simp only [State.raise_kept ..]) b

theorem State.passView_setBed_other (s : State) {n b : Nat} (st : BedState) (h : b ≠ n) :
    (s.setBed n st).passView b = s.passView b := by
  unfold State.passView
  rw [s.bed_setBed_other st h, s.tests_setBed]

/-- A bed that is ON is not woken. -/
theorem State.passView_wakeBed {s : State} {n b : Nat} (hb : (s.bed b).st = .idle) (hn : (s.bed n).st = .off) :
    (s.wakeBed n).passView b = s.passView b := by
  have hne : b ≠ n := by
    rintro rfl
    rw [hb] at hn
    exact absurd hn (by decide)
  by_cases hp : (s.power n).st = 4
  · rw [State.wakeBed_none (.inl ⟨hn, hp⟩)]
  · rw [State.wakeBed_off hn hp]
    exact (State.passView_of_str (State.setPower_str ..) b).trans (s.passView_setBed_other .waking hne)

/-- One bed of the spare pool kept warm, or let go. -/
def State.keepOneWarm (warm : List Nat) (s : State) (b : Nat) : State :=
  let is := decide (b ∈ warm)
  let s := if (s.bed b).warm = is then s else s.modBed b (fun x => { x with warm := is })
  if is && decide ((s.bed b).st = .off) then s.wakeBed b else s

theorem State.passView_keepOneWarm {warm : List Nat} {s : State} {b : Nat} (hb : (s.bed b).st = .idle) (n : Nat) :
    (s.keepOneWarm warm n).passView b = s.passView b := by
  unfold State.keepOneWarm
  dsimp only
  have hwarm : (if (s.bed n).warm = decide (n ∈ warm) then s else
      s.modBed n (fun x => { x with warm := decide (n ∈ warm) })).passView b = s.passView b := by
    split
    · rfl
    · exact s.passView_modBed n b fun _ => rfl
  generalize (if (s.bed n).warm = decide (n ∈ warm) then s else
      s.modBed n (fun x => { x with warm := decide (n ∈ warm) })) = w at hwarm ⊢
  have hw : (w.bed b).st = .idle := (congrArg (fun p => p.1.1) hwarm).trans hb
  refine Eq.trans ?_ hwarm
  split
  · next h =>
    rw [Bool.and_eq_true] at h
    exact State.passView_wakeBed hw (of_decide_eq_true h.2)
  · rfl

/-- The spares that WARM_BEDS keeps powered. -/
def State.warmSpares (s : State) : List Nat :=
  let pool := s.spares
  let of := fun d => pool.filter (fun b => decide (bedDomain b = d))
  let turns := (List.range 72).flatMap (fun k => (List.range 4).filterMap (fun d => (of d)[k]?))
  turns.take (s.cfgN 0x60 0 0x07)

theorem State.keepWarm_eq (s : State) : s.keepWarm = (List.range 288).foldl (State.keepOneWarm s.warmSpares) s := by
  unfold State.keepWarm State.warmSpares
  generalize List.range 288 = l
  generalize List.range 72 = l72
  rfl

theorem State.passView_keepWarm {s : State} {b : Nat} (hb : (s.bed b).st = .idle) : s.keepWarm.passView b = s.passView b := by
  suffices h : ∀ (warm l : List Nat) (u : State), (u.bed b).st = .idle →
      (l.foldl (State.keepOneWarm warm) u).passView b = u.passView b by
    rw [s.keepWarm_eq]
    exact h _ _ s hb
  intro warm l
  induction l with
  | nil => exact fun _ _ => rfl
  | cons x r ih =>
    intro u hu
    have hx := State.passView_keepOneWarm (warm := warm) hu x
    exact (ih _ ((congrArg (fun p => p.1.1) hx).trans hu)).trans hx

theorem State.passView_refill {s : State} {b n : Nat} (hb : (s.bed b).st = .idle) : (s.refill n).passView b = s.passView b := by
  unfold State.refill
  dsimp only
  split
  · have h := s.passView_modBed n b (f := fun x => { x with spare := true }) fun _ => rfl
    exact (State.passView_keepWarm ((congrArg (fun p => p.1.1) h).trans hb)).trans h
  · rfl

theorem State.passView_freshPatch (s : State) (n b : Nat) : (s.freshPatch n).passView b = s.passView b := by
  unfold State.freshPatch
  dsimp only
  have hmod := s.passView_modBed n b (f := fun b =>
    { b with standby := if b.standby.isNone && decide (b.patch = s.str.patch) then none else some s.str.patch }) fun _ => rfl
  generalize s.modBed n _ = w at hmod ⊢
  have hswitch : (w.switchBank n).passView b = w.passView b := by
    unfold State.switchBank
    split
    · rfl
    · exact (State.passView_raise ..).trans (w.passView_modBed n b fun _ => rfl)
  generalize w.switchBank n = v at hswitch ⊢
  refine Eq.trans ?_ (hswitch.trans hmod)
  unfold State.patchSettled
  split <;> rfl

/-- The bed after a pass at `now`. -/
def Bed.passed (x : Bed) (now : Nat) : Bed :=
  { x with untested := false, owed := false, lastPass := now, soilResult := 1, failStep := 0, soilFails := 0 }

/-- The state in which a held trap of a bed that passed is taken. -/
def State.soilPassed (s : State) (b : Nat) : State :=
  (((s.countSoil 1).modBed b (fun x => x.passed (s.countSoil 1).now)).soilIdle b).refill b

theorem State.soilEnd_passed {s : State} {b : Nat} (h : (s.bed b).st = .soilTest) :
    s.soilEnd b 0 = (s.soilPassed b).soilTrap b (s.bed b).trapHeld := (if_neg (not_not.2 h)).trans (if_pos rfl)

theorem State.passView_clearBed (s : State) (n b : Nat) : (s.clearBed n).passView b = s.passView b := by
  unfold State.clearBed
  exact s.passView_modBed n b fun _ => rfl

theorem State.passView_setBed (s : State) (b : Nat) (st : BedState) :
    (s.setBed b st).passView b = ((st, (s.passView b).1.2), (s.passView b).2) := by
  have hset := congrArg Bed.passPart (s.bed_setBed b st)
  unfold State.passView
  rw [s.tests_setBed]
  exact congrArg (fun p => (p, s.str.soilTests)) hset

theorem State.passView_soilIdle (s : State) (b : Nat) : (s.soilIdle b).passView b =
    ((.idle, (s.passView b).1.2), (s.passView b).2) := by
  unfold State.soilIdle
  rw [State.passView_freshPatch, State.passView_setBed]
  have hclear : ((s.clearBed b).modBed b (fun x => { x with idleSince := s.now })).passView b = s.passView b :=
    (State.passView_modBed (s.clearBed b) b b (f := fun x => { x with idleSince := s.now }) fun _ => rfl).trans
      (s.passView_clearBed b b)
  rw [hclear]

theorem State.passView_soilPassed (s : State) (b : Nat) : (s.soilPassed b).passView b =
    ((.idle, false, false, s.now, 1, 0), bumpAt s.str.soilTests 1 1) := by
  have hidle := ((s.countSoil 1).modBed b (fun x => x.passed (s.countSoil 1).now)).passView_soilIdle b
  have hpass : ((s.countSoil 1).modBed b (fun x => x.passed (s.countSoil 1).now)).passView b =
      (((s.bed b).st, false, false, s.now, 1, 0), bumpAt s.str.soilTests 1 1) := by
    unfold State.passView
    rw [State.bed_modBed, if_pos rfl]
    rfl
  rw [hpass] at hidle
  have hst := congrArg (fun p => p.1.1) hidle
  unfold State.soilPassed
  generalize ((s.countSoil 1).modBed b (fun x => x.passed (s.countSoil 1).now)).soilIdle b = w at hidle hst ⊢
  exact (State.passView_refill hst).trans hidle

/-- The row of RETEST (Table 16.6). -/
def retestRow : Row := { m0 := 0x04, m1 := 0x04, ty := .u 1, acc := 2, legal := [(1, 1)] }

theorem entryRow_retest (b : Nat) : entryRow .soilBed b 0x04 = some retestRow := rfl

theorem writeNumber_retest (s : State) (a fam inst b v : Nat) :
    s.writeNumber a fam inst 0x04 .soilBed b retestRow v = byStatus (s.retest b) := rfl

/-- Settles O49: a pass through what it leaves of the bed, a failure through what a prune leaves of the marks. -/
theorem soilTests : Obligations.SoilTests := by
  unfold Obligations.SoilTests
  intro s t b hb
  refine ⟨fun h => ?idle, fun hl hm => ?begun, fun h k => ?none, fun h hh => ?held, fun h hh => ?passed,
    fun k hk h hp => ?failed, fun a ha ht hw => ⟨fun h => ?refused, fun h h2 => ?taken⟩⟩
  case idle =>
    exact (exec_soilTestStart t s hb).trans (congrArg Host.Outcome.next (State.soilTest_idle (s := s.at t) h))
  case begun =>
    refine ⟨_, (exec_soilTestStart t s hb).trans (congrArg Host.Outcome.next (State.soilTest_begun (s := s.at t) hl hm)),
      State.st_setBed _ b .soilTest, State.tests_setBed _ b .soilTest, fun k hk => State.bed_setBed_other _ .soilTest hk, ?_⟩
    exact State.parts.2 (by simp [State.setBed_kept .., State.countSoil_kept ..])
  case none =>
    exact (exec_soilTestEnd t k s hb).trans (congrArg Host.Outcome.next (State.soilEnd_none (s := s.at t) h k))
  case held =>
    have hend := State.soilEnd_passed (s := s.at t) h
    have hv := (s.at t).passView_soilPassed b
    rw [State.bed_at, hh] at hend
    generalize (s.at t).soilPassed b = v at hend hv
    have hpart := congrArg Prod.fst hv
    exact ⟨v, (exec_soilTestEnd t 0 s hb).trans (congrArg Host.Outcome.next hend), congrArg (fun p => p.1) hpart,
      congrArg (fun p => p.2.1) hpart, congrArg (fun p => p.2.2.1) hpart, congrArg (fun p => p.2.2.2.1) hpart,
      congrArg (fun p => p.2.2.2.2.1) hpart, congrArg (fun p => p.2.2.2.2.2) hpart, congrArg Prod.snd hv⟩
  case passed =>
    have hend := State.soilEnd_passed (s := s.at t) h
    have hv := (s.at t).passView_soilPassed b
    rw [State.bed_at, hh] at hend
    generalize (s.at t).soilPassed b = v at hend hv
    have hpart := congrArg Prod.fst hv
    exact ⟨v, (exec_soilTestEnd t 0 s hb).trans (congrArg Host.Outcome.next hend), congrArg (fun p => p.1) hpart,
      congrArg (fun p => p.2.1) hpart, congrArg (fun p => p.2.2.1) hpart, congrArg (fun p => p.2.2.2.1) hpart,
      congrArg (fun p => p.2.2.2.2.1) hpart, congrArg (fun p => p.2.2.2.2.2) hpart, congrArg Prod.snd hv⟩
  case failed =>
    have hend := State.soilEnd_failed (s := s.at t) h hk
    obtain ⟨hst, hunit⟩ := State.pruneBed_fences (s := (s.at t).soilFailed b k) (b := b) hp
    have hdie : bedDie b < 8 := by unfold bedDie; omega
    have hkept := (SoilKept.pruneBed ((s.at t).soilFailed b k) b).trans
      (SoilKept.raiseFault hdie (Nat.mod_lt b (by decide : 0 < 36)) _)
    have hlast := SoilKept.raiseFault hdie (Nat.mod_lt b (by decide : 0 < 36)) (((s.at t).soilFailed b k).pruneBed b)
    have hfail : (((s.at t).soilFailed b k).bed b).soilPart = (2, k, (s.bed b).soilFails + 1) := by
      unfold State.soilFailed
      rw [State.bed_modBed, if_pos rfl]
      rfl
    have hpart := (hkept.soil b).trans hfail
    rw [← hend] at hkept hlast hpart
    exact ⟨_, exec_soilTestEnd t k s hb, hlast.fenced b hst, congrArg (fun p => p.1) hpart, congrArg (fun p => p.2.1) hpart,
      congrArg (fun p => p.2.2) hpart, decide_eq_true (hlast.units _ hunit), hkept.tests⟩
  case refused =>
    refine (exec_retest t s ha hb).trans (congrArg Host.Outcome.next ?_)
    refine row_number_refused (s := s) (t := t) ht hw (spaceOf_soilBed hb) (entryRow_retest b) (by simp) (by simp) rfl rfl
      (by omega) rfl (by omega) (by omega) (by simp [creditOf]) (by simp) (st := 3) (by simp) ?_
    rw [writeNumber_retest]
    exact congrArg byStatus (if_pos h)
  case taken =>
    have hre : (s.at t).retest b = (0, ((s.at t).modBed b (fun x => { x with soilFails := 1 })).bedReset b) :=
      if_neg (not_or.2 ⟨not_not.2 h, by rw [State.bed_at]; omega⟩)
    have hu := row_number_inRange (s := s) (t := t) (v := 1) ht hw (spaceOf_soilBed hb) (entryRow_retest b) (by simp) (by simp)
      rfl rfl (by omega) rfl (by omega) (by omega) (by simp [creditOf]) (by simp)
      ((writeNumber_retest (s.at t) a _ _ b 1).trans (congrArg byStatus hre))
    have hnow : (((s.at t).modBed b (fun x => { x with soilFails := 1 })).bedReset b).now = t := by
      simp only [State.bedReset_kept ..]
      rfl
    generalize ((s.at t).modBed b (fun x => { x with soilFails := 1 })).bedReset b = w at hu hnow ⊢
    have hby : (byStatus (0, w)).2.1 = t := hnow
    exact ⟨_, exec_retest t s ha hb, hby ▸ hu⟩

end Sys2Proof.Machine
end

section
/-! PROOFS. GO, ACK and the requests of a mailbox (R297 to R301, R485). -/

namespace Sys2Proof.Machine

theorem exec_go {a : Nat} (t : Nat) (s : State) (ha : a < 16) : exec (.go t a) s = .next ((s.at t).mailboxGo a) :=
  if_pos (decide_eq_true ha)
theorem exec_ack {a : Nat} (t : Nat) (s : State) (ha : a < 16) : exec (.ack t a) s = .next ((s.at t).mailboxAck a) :=
  if_pos (decide_eq_true ha)
theorem exec_gapTimeout {a : Nat} (t q : Nat) (s : State) (ha : a < 16) :
    exec (.gapTimeout t a q) s = .next ((s.at t).gapExpires a q) := if_pos (decide_eq_true ha)

/-! ## A reply and a drop in the mailbox -/

/-- A change of a mailbox that raises the allotment's source: the rest of the allotment stands, but for UNROUTED. -/
structure MailboxMoved (s u : State) (a : Nat) (m : Mailbox) : Prop where
  mbox : (u.allot a).mbox = m
  nextSeq : (u.allot a).nextSeq = (s.allot a).nextSeq
  seqDrops : (u.allot a).seqDrops = (s.allot a).seqDrops
  gapDrops : (u.allot a).gapDrops = (s.allot a).gapDrops
  held : (u.allot a).held = (s.allot a).held
  staging : (u.allot a).staging = (s.allot a).staging
  unanswered : (u.allot a).unanswered = (s.allot a).unanswered
  cached : (u.allot a).cached = (s.allot a).cached
  frame : u = { s with allots := u.allots, irq := u.irq, emits := u.emits }

section
variable (s : State) (a : Nat)

theorem MailboxMoved.raised (f : Mailbox → Mailbox) (n : Nat) :
    MailboxMoved s ((s.modMbox a f).raise n) a (f (s.allot a).mbox) := by
  have hself : (s.modMbox a f).allot a = { s.allot a with mbox := f (s.allot a).mbox } := (s.modAllot_alone a _).1
  have hframe := (s.modMbox a f).raise_frame n
  constructor
  case frame =>
    generalize (s.modMbox a f).raise n = u at hframe ⊢
    exact hframe
  all_goals simp [hself]

theorem MailboxMoved.emit {u : State} {m : Mailbox} (h : MailboxMoved s u a m) (x : Emit) : MailboxMoved s (u.emit x) a m := by
  obtain ⟨h1, h2, h3, h4, h5, h6, h7, h8, hframe⟩ := h
  refine ⟨h1, h2, h3, h4, h5, h6, h7, h8, ?_⟩
  exact congrArg (fun v : State => { v with emits := (u.emit x).emits }) hframe

theorem MailboxMoved.dropped : MailboxMoved s (s.mailboxDrop a (mailboxIn a)) a
    { (s.allot a).mbox with busy := false, discarded := true } := by
  have he : s.mailboxDrop a (mailboxIn a) =
      (s.modMbox a (fun m => { m with busy := false, discarded := true })).raise (0x0100 + a) := if_pos rfl
  rw [he]
  exact .raised s a _ _

theorem mailboxIn_ne_noReply {a : Nat} (ha : a < 16) : mailboxIn a ≠ noReply := by
  unfold mailboxIn noReply
  omega

theorem MailboxMoved.replied (ha : a < 16) (body tag : List Byte) : MailboxMoved s (s.reply a (mailboxIn a) body tag) a
    { (s.allot a).mbox with busy := false, reply := true, replyData := body } := by
  have he : s.reply a (mailboxIn a) body tag =
      ((s.modMbox a (fun m => { m with busy := false, reply := true, replyData := body })).raise (0x0100 + a)).emit
        (.reply s.now (mailboxIn a) a body) := (if_neg (mailboxIn_ne_noReply ha)).trans (if_pos rfl)
  rw [he]
  exact .emit s a (.raised s a _ _) _

/-! ## GO and ACK -/

variable {s a}

theorem State.mailboxGo_off (h : s.windowOf a = false ∨ s.frontEnd = false) : s.mailboxGo a = s := by
  refine if_pos ?_
  rcases h with h | h <;> rw [h] <;> simp

theorem State.mailboxAck_off (h : s.windowOf a = false ∨ s.frontEnd = false) : s.mailboxAck a = s := by
  refine if_pos ?_
  rcases h with h | h <;> rw [h] <;> simp

section
variable (hw : s.windowOf a = true) (hf : s.frontEnd = true)
include hw hf

theorem window_shown : ¬ (!s.windowOf a || !s.frontEnd) = true := by rw [hw, hf]; exact Bool.false_ne_true

theorem State.mailboxAck_shown : s.mailboxAck a = s.modMbox a (fun m => { m with reply := false, discarded := false }) :=
  if_neg (window_shown hw hf)

theorem State.mailboxGo_busy (h : (s.allot a).mbox.busy = true ∨ (s.allot a).mbox.reply = true) :
    s.mailboxGo a = s.modAllot a (fun r => { r with mailboxIgnored := inc64 r.mailboxIgnored }) := by
  refine (if_neg (window_shown hw hf)).trans (if_pos ?_)
  rcases h with h | h <;> rw [h] <;> simp

/-- The request that GO hands over. -/
def State.goBytes (s : State) (a : Nat) : List Byte :=
  let x := (s.allot a).mbox
  (x.request ++ List.replicate (x.length - x.request.length) 0).take x.length

/-- The state in which a request runs. -/
def State.goBusy (s : State) (a : Nat) : State := s.modMbox a (fun m => { m with busy := true, discarded := false })

theorem State.mailboxGo_taken (h : (s.allot a).mbox.busy = false) (hr : (s.allot a).mbox.reply = false) :
    s.mailboxGo a = match parseMsg (s.goBytes a) true with
      | none => (s.goBusy a).badMessage.mailboxDrop a (mailboxIn a)
      | some m =>
        if m.kind = 3 then
          if m.identifies true then (s.goBusy a).identify a (mailboxIn a) m
          else (s.goBusy a).badMessage.mailboxDrop a (mailboxIn a)
        else if !(s.goBusy a).alm.live then
          (s.goBusy a).reply a (mailboxIn a) (emptyReply { m with a := a } 8 (s.goBusy a).readyAt) []
        else (s.goBusy a).accept (mailboxIn a) { m with a := a } [] := by
  refine (if_neg (window_shown hw hf)).trans ((if_neg ?_).trans ?_)
  · rw [h, hr]
    exact Bool.false_ne_true
  · unfold State.goBytes State.goBusy
    rfl

end
end


/-! ## A request's place in the sequence (R297 to R299) -/

section
variable {s : State} {port : Nat} {m : Msg} {key : List Byte} {a d : Nat}

/-- A request discarded for its place. -/
def State.seqDropped (s : State) (a port : Nat) : State :=
  (s.modAllot a (fun x => { x with seqDrops := inc64 x.seqDrops })).mailboxDrop a port

/-- How far ahead of its turn a request is. -/
def State.ahead (s : State) (m : Msg) : Nat := (m.seq + 4294967296 - (s.allot m.a).nextSeq) % 4294967296

theorem State.ahead_of (hq : m.seq = (s.allot m.a).nextSeq + d) (hl : m.seq < 4294967296) : s.ahead m = d := by
  unfold State.ahead
  omega

/-- A request that opens no session. -/
theorem State.accept_seated (h : m.session ≤ (s.allot m.a).session) : s.accept port m key =
    if m.session < (s.allot m.a).session then s.seqDropped m.a port
    else if 64 < s.ahead m then
      match (s.allot m.a).cached.find? (fun c => decide (c.1 = m.seq)) with
      | some c => s.reply m.a port c.2 (hmac key c.2)
      | none => s.seqDropped m.a port
    else if 256 ≤ (s.allot m.a).unanswered then
      (s.modAllot m.a (fun x => { x with overloadDrops := inc64 x.overloadDrops })).mailboxDrop m.a port
    else if s.ahead m = 0 then
      (s.modAllot m.a (fun x => { x with unanswered := x.unanswered + 1 })).inSequence port m key 65
    else if (s.allot m.a).held.any (fun h => decide (h.seq = m.seq)) then s.seqDropped m.a port
    else s.modAllot m.a (fun x =>
      { x with unanswered := x.unanswered + 1,
               held := x.held ++ [{ seq := m.seq, t := s.now, port := port, bytes := m.signed, key := key }] }) := by
  unfold State.accept
  rw [decide_eq_false (by omega : ¬ (s.allot m.a).session < m.session)]
  rfl

theorem State.accept_older (h : m.session < (s.allot m.a).session) : s.accept port m key = s.seqDropped m.a port :=
  (State.accept_seated (by omega)).trans (if_pos h)

section
variable (h : m.session = (s.allot m.a).session) (hq : m.seq = (s.allot m.a).nextSeq + d) (hl : m.seq < 4294967296)
include h hq hl

theorem State.accept_far (hd : 64 < d) (hc : (s.allot m.a).cached.find? (fun c => decide (c.1 = m.seq)) = none) :
    s.accept port m key = s.seqDropped m.a port := by
  rw [State.accept_seated (by omega), if_neg (by omega), State.ahead_of hq hl, if_pos hd, hc]

theorem State.accept_ahead (h1 : 1 ≤ d) (h2 : d ≤ 64) (hu : (s.allot m.a).unanswered < 256) (hheld : (s.allot m.a).held = []) :
    s.accept port m key = s.modAllot m.a (fun x =>
      { x with unanswered := x.unanswered + 1,
               held := x.held ++ [{ seq := m.seq, t := s.now, port := port, bytes := m.signed, key := key }] }) := by
  rw [State.accept_seated (by omega), if_neg (by omega), State.ahead_of hq hl, if_neg (by omega), if_neg (by omega),
    if_neg (by omega), hheld]
  rfl

theorem State.accept_turn (hd : d = 0) (hu : (s.allot m.a).unanswered < 256) : s.accept port m key =
    (s.modAllot m.a (fun x => { x with unanswered := x.unanswered + 1 })).inSequence port m key 65 := by
  rw [State.accept_seated (by omega), if_neg (by omega), State.ahead_of hq hl, if_neg (by omega), if_neg (by omega), if_pos hd]

end

/-! ## A request that clears the staging buffer -/

theorem State.runOp_clearStage (h : s.alm.live = true) (seq idx fam inst mem : Nat) (b : List Byte) :
    s.runOp a seq idx 5 fam inst mem b = { status := 0, at_ := s.now, next := s.clearStage a } :=
  if_neg (by rw [h]; exact Bool.false_ne_true)

theorem replyOp_length (o : ReqOp) (status at_ : Nat) : (replyOp o status at_ []).length = 16 := by
  simp [replyOp, pad4]

/-- One operation that clears the buffer, run by itself. -/
theorem State.runOps_clearStage (h : s.alm.live = true) (seq : Nat) {o : ReqOp} (ho : o.op = 5) :
    s.runOps (fun s idx o => s.runOp a seq idx o.op o.fam o.inst o.mem o.data) 0 [o] [] false =
      (replyOp o 0 s.now [], false, (s.clearStage a).at (s.now + 10)) := by
  unfold State.runOps
  rw [ho, State.runOp_clearStage h]
  dsimp only
  rw [if_neg (by rw [replyOp_length]; decide)]
  unfold State.runOps
  rfl

/-- The buffer emptied and the reply kept. -/
def State.answered (s : State) (m : Msg) (body : List Byte) : State :=
  (s.clearStage m.a).modAllot m.a (fun x =>
    { x with cached := if x.session = m.session then ((m.seq, body) :: x.cached).take 256 else x.cached,
             unanswered := x.unanswered - 1 })

theorem State.answered_leaves (s : State) (m : Msg) (body : List Byte) : (s.answered m body).allot m.a =
    { s.allot m.a with
      staging := []
      cached := if (s.allot m.a).session = m.session then ((m.seq, body) :: (s.allot m.a).cached).take 256
        else (s.allot m.a).cached
      unanswered := (s.allot m.a).unanswered - 1 } ∧
    s.answered m body = { s with allots := (s.answered m body).allots } := by
  refine ⟨?_, rfl⟩
  unfold State.answered
  rw [((s.clearStage m.a).modAllot_alone m.a _).1]
  have h : (s.clearStage m.a).allot m.a = { s.allot m.a with staging := [] } := (s.modAllot_alone m.a _).1
  rw [h]

theorem State.runRequest_clearStage (h : s.alm.live = true) {o : ReqOp} (hops : m.ops = [o]) (ho : o.op = 5) :
    s.runRequest port m key =
      (s.answered m (replyMsg 2 m.a 0 m.session m.seq 1 0 (replyOp o 0 s.now []))).reply m.a port
        (replyMsg 2 m.a 0 m.session m.seq 1 0 (replyOp o 0 s.now []))
        (hmac key (replyMsg 2 m.a 0 m.session m.seq 1 0 (replyOp o 0 s.now []))) := by
  unfold State.runRequest
  rw [hops, State.runOps_clearStage h m.seq ho]
  have hat : ((s.clearStage m.a).at (s.now + 10)).at s.now = s.clearStage m.a := rfl
  dsimp only
  rw [hat]
  rfl

end


section
variable {s : State} {port : Nat} {m : Msg} {key : List Byte} {k : Nat}

/-- A request in its turn that nobody waits for, of an allotment that neither journals nor waits. -/
theorem State.inSequence_alone (hj : s.journals = false) (hw : m.a ∉ s.shed.pairsDown)
    (hh : (((s.modAllot m.a (fun x => { x with nextSeq := (m.seq + 1) % 4294967296 })).runRequest port m key).allot m.a).held = []) :
    s.inSequence port m key (k + 1) =
      (s.modAllot m.a (fun x => { x with nextSeq := (m.seq + 1) % 4294967296 })).runRequest port m key := by
  have hwaits : (s.modAllot m.a (fun x => { x with nextSeq := (m.seq + 1) % 4294967296 })).waits m.a = false := by
    have hd : decide (m.a ∈ s.shed.pairsDown) = false := decide_eq_false hw
    show (decide (m.a ∈ s.shed.pairsDown) && _ && _) = false
    rw [hd]
    rfl
  unfold State.inSequence
  rw [if_neg (by rw [hj]; exact Bool.false_ne_true)]
  dsimp only
  rw [hwaits, if_neg Bool.false_ne_true, hh]
  rfl

end

/-! ## A gap (R298) -/

theorem State.gapExpires_none {s : State} {a q : Nat}
    (h : (s.allot a).held.find? (fun h => decide (h.seq = q) && decide (h.t + 50000000 ≤ s.now)) = none) :
    s.gapExpires a q = s := by
  unfold State.gapExpires
  rw [h]

theorem State.gapExpires_some {s : State} {a q : Nat} {h : HeldReq}
    (hf : (s.allot a).held.find? (fun h => decide (h.seq = q) && decide (h.t + 50000000 ≤ s.now)) = some h) :
    s.gapExpires a q = (s.modAllot a (fun x =>
      { x with held := x.held.filter (fun e => !decide (e.seq = q)), gapDrops := inc64 x.gapDrops,
               unanswered := x.unanswered - 1 })).mailboxDrop a h.port := by
  unfold State.gapExpires
  rw [hf]

/-! ## The obligation -/

/-- A request counted and its turn passed on. -/
def State.inTurn (s : State) (m : Msg) : State :=
  (s.modAllot m.a (fun x => { x with unanswered := x.unanswered + 1 })).modAllot m.a
    (fun x => { x with nextSeq := (m.seq + 1) % 4294967296 })

theorem State.inTurn_leaves (s : State) (m : Msg) : (s.inTurn m).allot m.a =
    { s.allot m.a with unanswered := (s.allot m.a).unanswered + 1, nextSeq := (m.seq + 1) % 4294967296 } ∧
    s.inTurn m = { s with allots := (s.inTurn m).allots } := by
  refine ⟨?_, rfl⟩
  unfold State.inTurn
  rw [(State.modAllot_alone _ m.a _).1, (s.modAllot_alone m.a _).1]

/-- The reply to a request that clears the buffer. -/
def State.clearReply (s : State) (m : Msg) (o : ReqOp) : List Byte :=
  replyMsg 2 m.a 0 m.session m.seq 1 0 (replyOp o 0 s.now [])

/-- The state in which that reply is sent. -/
def State.cleared (s : State) (m : Msg) (o : ReqOp) : State := (s.inTurn m).answered m (s.clearReply m o)

theorem State.cleared_leaves (s : State) (m : Msg) (o : ReqOp) : (s.cleared m o).allot m.a =
    { s.allot m.a with
      nextSeq := (m.seq + 1) % 4294967296
      staging := []
      cached := if (s.allot m.a).session = m.session then ((m.seq, s.clearReply m o) :: (s.allot m.a).cached).take 256
        else (s.allot m.a).cached } ∧
    s.cleared m o = { s with allots := (s.cleared m o).allots } := by
  obtain ⟨hturn, hframe⟩ := s.inTurn_leaves m
  obtain ⟨hself, hleft⟩ := (s.inTurn m).answered_leaves m (s.clearReply m o)
  unfold State.cleared
  generalize (s.inTurn m).answered m (s.clearReply m o) = u at hself hleft ⊢
  rw [hturn] at hself
  exact ⟨hself, hleft.trans (by rw [hframe])⟩

section
variable {s : State} {m : Msg} {o : ReqOp} (ha : m.a < 16) (hl : s.alm.live = true) (hops : m.ops = [o])
  (ho : o.op = 5) (hj : s.journals = false) (hp : m.a ∉ s.shed.pairsDown) (hh : (s.allot m.a).held = [])
include ha hl hops ho hj hp hh

/-- A request in its turn that clears the buffer, of an allotment that neither journals nor waits. -/
theorem State.inSequence_clear :
    (s.modAllot m.a (fun x => { x with unanswered := x.unanswered + 1 })).inSequence (mailboxIn m.a) m [] 65 =
      (s.cleared m o).reply m.a (mailboxIn m.a) (s.clearReply m o) (hmac [] (s.clearReply m o)) := by
  have hrun : (s.inTurn m).runRequest (mailboxIn m.a) m [] =
      (s.cleared m o).reply m.a (mailboxIn m.a) (s.clearReply m o) (hmac [] (s.clearReply m o)) :=
    State.runRequest_clearStage (s := s.inTurn m) hl hops ho
  have hrep := MailboxMoved.replied (s.cleared m o) m.a ha (s.clearReply m o) (hmac [] (s.clearReply m o))
  have hheld : (((s.inTurn m).runRequest (mailboxIn m.a) m []).allot m.a).held = [] := by
    rw [hrun, hrep.held, (s.cleared_leaves m o).1]
    exact hh
  exact (State.inSequence_alone (s := s.modAllot m.a (fun x => { x with unanswered := x.unanswered + 1 })) (k := 64) hj hp
    hheld).trans hrun

theorem State.inSequence_clear_leaves {u : State}
    (hu : u = (s.modAllot m.a (fun x => { x with unanswered := x.unanswered + 1 })).inSequence (mailboxIn m.a) m [] 65) :
    (u.allot m.a).mbox = { (s.allot m.a).mbox with busy := false, reply := true, replyData := s.clearReply m o } ∧
    (u.allot m.a).nextSeq = (m.seq + 1) % 4294967296 ∧ (u.allot m.a).staging = [] ∧
    (u.allot m.a).unanswered = (s.allot m.a).unanswered ∧
    (u.allot m.a).cached = (if (s.allot m.a).session = m.session then
      ((m.seq, s.clearReply m o) :: (s.allot m.a).cached).take 256 else (s.allot m.a).cached) ∧
    u = { s with allots := u.allots, irq := u.irq, emits := u.emits } := by
  rw [State.inSequence_clear ha hl hops ho hj hp hh] at hu
  obtain ⟨hself, hframe⟩ := s.cleared_leaves m o
  have hrep := MailboxMoved.replied (s.cleared m o) m.a ha (s.clearReply m o) (hmac [] (s.clearReply m o))
  rw [← hu] at hrep
  obtain ⟨hmb, hnext, -, -, -, hstag, hun, hcached, hleft⟩ := hrep
  rw [hself] at hmb hnext hstag hun hcached
  exact ⟨hmb, hnext, hstag, hun, hcached, hleft.trans (by rw [hframe])⟩

end

/-- What a request discarded for its place leaves. -/
theorem State.seqDropped_leaves (s : State) (a : Nat) :
    ((s.seqDropped a (mailboxIn a)).allot a).seqDrops = inc64 (s.allot a).seqDrops ∧
    ((s.seqDropped a (mailboxIn a)).allot a).mbox = { (s.allot a).mbox with busy := false, discarded := true } ∧
    ((s.seqDropped a (mailboxIn a)).allot a).nextSeq = (s.allot a).nextSeq ∧
    s.seqDropped a (mailboxIn a) =
      { s with allots := (s.seqDropped a (mailboxIn a)).allots, irq := (s.seqDropped a (mailboxIn a)).irq,
               emits := (s.seqDropped a (mailboxIn a)).emits } := by
  have hdrop := MailboxMoved.dropped (s.modAllot a (fun x => { x with seqDrops := inc64 x.seqDrops })) a
  have hself := (s.modAllot_alone a fun x => { x with seqDrops := inc64 x.seqDrops }).1
  have hsd := congrArg Allot.seqDrops hself
  have hnext := congrArg Allot.nextSeq hself
  exact ⟨hdrop.seqDrops.trans hsd, hdrop.mbox.trans (by rw [hself]), hdrop.nextSeq.trans hnext, hdrop.frame⟩

/-- Settles O33: GO by the request it parses, a request by its place in the sequence. -/
theorem mailboxRequests : Obligations.MailboxRequests := by
  unfold Obligations.MailboxRequests
  intro s t a ha
  refine ⟨fun h => ⟨?goOff, ?ackOff⟩, fun hw hf => ?shown⟩
  case goOff => exact (exec_go t s ha).trans (congrArg Host.Outcome.next (State.mailboxGo_off (s := s.at t) h))
  case ackOff => exact (exec_ack t s ha).trans (congrArg Host.Outcome.next (State.mailboxAck_off (s := s.at t) h))
  case shown =>
  intro x b
  have hgo (h : x.mbox.busy = false) (hr : x.mbox.reply = false) {m : Msg} (hm : parseMsg b true = some m) (hk : m.kind = 1)
      (hl : s.alm.live = true) :
      exec (.go t a) s = .next (((s.at t).goBusy a).accept (mailboxIn a) { m with a := a } []) := by
    refine (exec_go t s ha).trans (congrArg Host.Outcome.next ((State.mailboxGo_taken (s := s.at t) hw hf h hr).trans ?_))
    rw [show parseMsg ((s.at t).goBytes a) true = some m from hm]
    refine (if_neg (by omega)).trans (if_neg ?_)
    rw [show ((s.at t).goBusy a).alm.live = true from hl]
    exact Bool.false_ne_true
  have hbusy : ((s.at t).goBusy a).allot a = { x with mbox := { x.mbox with busy := true, discarded := false } } :=
    ((s.at t).modAllot_alone a _).1
  refine ⟨fun h => ?ignored, ?ack, fun h hr => ⟨fun hm => ?malformed, ?kinds, fun m hm hk hl => ⟨fun d hs hq h64 h32 hc => ?far,
    fun hs => ?older, fun d hs hq h32 hheld hun => ⟨fun h1 h2 => ?held, fun o hd hops ho hrs hj hp => ?turn⟩⟩⟩,
    fun q => ⟨fun hn => ?noGap, fun e he => ?gap⟩⟩
  case ignored =>
    obtain ⟨hself, hother, hframe⟩ := (s.at t).modAllot_alone a fun r => { r with mailboxIgnored := inc64 r.mailboxIgnored }
    exact ⟨_, (exec_go t s ha).trans (congrArg Host.Outcome.next (State.mailboxGo_busy (s := s.at t) hw hf h)), hself, hother,
      hframe⟩
  case ack =>
    obtain ⟨hself, hother, hframe⟩ := (s.at t).modAllot_alone a fun r =>
      { r with mbox := { r.mbox with reply := false, discarded := false } }
    exact ⟨_, (exec_ack t s ha).trans (congrArg Host.Outcome.next (State.mailboxAck_shown (s := s.at t) hw hf)), hself, hother,
      hframe⟩
  case malformed =>
    have hdrop := MailboxMoved.dropped (((s.at t).goBusy a).badMessage) a
    have hex : exec (.go t a) s = .next (((s.at t).goBusy a).badMessage.mailboxDrop a (mailboxIn a)) := by
      refine (exec_go t s ha).trans (congrArg Host.Outcome.next ((State.mailboxGo_taken (s := s.at t) hw hf h hr).trans ?_))
      rw [show parseMsg ((s.at t).goBytes a) true = none from hm]
    have halm := congrArg State.alm hdrop.frame
    refine ⟨_, hex, congrArg Almanac.badMessages halm, hdrop.mbox.trans ?_, ?_⟩
    · rw [show (((s.at t).goBusy a).badMessage).allot a = ((s.at t).goBusy a).allot a from rfl, hbusy]
    · rw [halm]
      exact hdrop.frame
  case kinds =>
    intro busy m hm
    refine ⟨fun hk => ?_, fun hk hl => ?_, fun hk hl => hgo h hr hm hk hl⟩
    · refine (exec_go t s ha).trans (congrArg Host.Outcome.next ((State.mailboxGo_taken (s := s.at t) hw hf h hr).trans ?_))
      rw [show parseMsg ((s.at t).goBytes a) true = some m from hm]
      exact if_pos hk
    · refine (exec_go t s ha).trans (congrArg Host.Outcome.next ((State.mailboxGo_taken (s := s.at t) hw hf h hr).trans ?_))
      rw [show parseMsg ((s.at t).goBytes a) true = some m from hm]
      refine (if_neg (by omega)).trans (if_pos ?_)
      rw [show ((s.at t).goBusy a).alm.live = false from hl]
      rfl
  case far =>
    obtain ⟨hsd, hmb, hnext, -⟩ := ((s.at t).goBusy a).seqDropped_leaves a
    have hacc := State.accept_far (s := (s.at t).goBusy a) (m := { m with a := a }) (port := mailboxIn a) (key := []) (d := d)
      (by rw [hbusy]; exact hs) (by rw [hbusy]; exact hq) h32 h64 (by rw [hbusy]; exact hc)
    rw [hbusy] at hsd hmb hnext
    exact ⟨_, (hgo h hr hm hk hl).trans (congrArg Host.Outcome.next hacc), hsd, hmb, hnext⟩
  case older =>
    obtain ⟨hsd, hmb, hnext, hframe⟩ := ((s.at t).goBusy a).seqDropped_leaves a
    have hacc := State.accept_older (s := (s.at t).goBusy a) (m := { m with a := a }) (port := mailboxIn a) (key := [])
      (by rw [hbusy]; exact hs)
    rw [hbusy] at hsd hmb hnext
    exact ⟨_, (hgo h hr hm hk hl).trans (congrArg Host.Outcome.next hacc), hsd, hmb, hnext, hframe⟩
  case held =>
    have hacc := State.accept_ahead (s := (s.at t).goBusy a) (m := { m with a := a }) (port := mailboxIn a) (key := []) (d := d)
      (by rw [hbusy]; exact hs) (by rw [hbusy]; exact hq) h32 h1 h2 (by rw [hbusy]; exact hun) (by rw [hbusy]; exact hheld)
    obtain ⟨hself, hother, hframe⟩ := ((s.at t).goBusy a).modAllot_alone a fun x =>
      { x with unanswered := x.unanswered + 1
               held := x.held ++ [{ seq := m.seq, t := t, port := mailboxIn a, bytes := m.signed, key := [] }] }
    rw [hbusy] at hself
    have hb := congrArg (fun x : Allot => x.mbox.busy) hself
    have hl' := congrArg Allot.held hself
    have hn := congrArg Allot.unanswered hself
    have hnext := congrArg Allot.nextSeq hself
    refine ⟨_, (hgo h hr hm hk hl).trans (congrArg Host.Outcome.next hacc), hb, hl'.trans ?_, hn, hnext,
      fun c hc => (hother c hc).trans (((s.at t).modAllot_alone a _).2.1 c hc), hframe⟩
    exact congrArg (· ++ _) hheld
  case turn =>
    have hacc := State.accept_turn (s := (s.at t).goBusy a) (m := { m with a := a }) (port := mailboxIn a) (key := []) (d := d)
      (by rw [hbusy]; exact hs) (by rw [hbusy]; exact hq) h32 hd (by rw [hbusy]; exact hun)
    obtain ⟨hmb, hnext, hstag, hun', hcached, hframe⟩ := State.inSequence_clear_leaves (s := (s.at t).goBusy a)
      (m := { m with a := a }) ha hl hops ho (by
        show (s.shed.restarting || !s.shed.journal.isEmpty) = false
        rw [hrs, hj]
        rfl) hp (by rw [hbusy]; exact hheld) rfl
    rw [hbusy] at hmb hun' hcached
    exact ⟨_, (hgo h hr hm hk hl).trans (congrArg Host.Outcome.next hacc), hnext, hstag, hun', ⟨hmb, hcached.trans (if_pos hs.symm)⟩,
      hframe⟩
  case noGap =>
    exact (exec_gapTimeout t q s ha).trans (congrArg Host.Outcome.next (State.gapExpires_none (s := s.at t) hn))
  case gap =>
    have hgap := State.gapExpires_some (s := s.at t) he
    have hself := ((s.at t).modAllot_alone a fun x =>
      { x with held := x.held.filter (fun e => !decide (e.seq = q)), gapDrops := inc64 x.gapDrops,
               unanswered := x.unanswered - 1 }).1
    have hgd := congrArg Allot.gapDrops hself
    have hheld := congrArg Allot.held hself
    have hmb := congrArg Allot.mbox hself
    by_cases hp : e.port = 0xF00 + a
    · rw [hp] at hgap
      have hdrop := MailboxMoved.dropped ((s.at t).modAllot a (fun x =>
        { x with held := x.held.filter (fun e => !decide (e.seq = q)), gapDrops := inc64 x.gapDrops,
                 unanswered := x.unanswered - 1 })) a
      rw [hself] at hdrop
      refine ⟨_, (exec_gapTimeout t q s ha).trans (congrArg Host.Outcome.next hgap), hdrop.gapDrops.trans hgd,
        hdrop.held.trans hheld, hdrop.mbox.trans ?_, hdrop.frame⟩
      rw [if_pos hp]
      rfl
    · refine ⟨_, (exec_gapTimeout t q s ha).trans (congrArg Host.Outcome.next (hgap.trans (if_neg hp))),
        hgd, hheld, ?_, rfl⟩
      rw [if_neg hp]
      exact hmb

end Sys2Proof.Machine
end

section
/-! PROOFS. Almanac messages and identify requests over UDP (R291, R293, R296, R300, R484, R485). -/

namespace Sys2Proof.Machine

theorem exec_almanacMessage {port : Nat} (t : Nat) (b : List Byte) (s : State) (hp : port < 1026) :
    exec (.almanacMessage t port b) s = .next ((s.at t).udpMessage port b) := if_pos (decide_eq_true hp)
theorem exec_identifyRequest {port k : Nat} (t : Nat) (b : List Byte) (s : State) (hp : port < 1026) (hk : k < 16) :
    exec (.identifyRequest t port k b) s = .next ((s.at t).udpIdentify port k b) :=
  if_pos (by rw [Bool.and_eq_true, decide_eq_true_eq]; exact ⟨decide_eq_true hp, hk⟩)

/-- A message of a length that the front end takes. -/
def udpMsg (b : List Byte) : Option Msg := if 8224 < b.length then none else parseMsg b false

theorem udpMsg_none {b : List Byte} (h : 8224 < b.length ∨ parseMsg b false = none) : udpMsg b = none := by
  unfold udpMsg
  split
  · rfl
  · next hl => exact h.resolve_left hl

theorem udpMsg_some {b : List Byte} {m : Msg} (hl : b.length ≤ 8224) (h : parseMsg b false = some m) : udpMsg b = some m :=
  (if_neg (by omega)).trans h

/-- Identify requests that have come in this second by one way in. -/
def State.identifiedBy (s : State) (who : Nat) : Nat :=
  match s.alm.identified.find? (fun e => decide (e.1 = who) && decide (e.2.1 = s.now / 1000000000)) with
  | some e => e.2.2
  | none => 0

theorem State.identifiedBy_eq (s : State) (who : Nat) : s.identifiedBy who =
    ((s.alm.identified.find? (fun e => decide (e.1 = who) && decide (e.2.1 = s.now / 1000000000))).map (·.2.2)).getD 0 := by
  unfold State.identifiedBy
  split
  · next h => rw [h]; rfl
  · next h => rw [h]; rfl

/-- One more of them noted. -/
def State.identifySeen (s : State) (who : Nat) : State :=
  let sec := s.now / 1000000000
  let seen := (who, sec, s.identifiedBy who + 1) ::
    s.alm.identified.filter (fun e => decide (e.2.1 = sec) && !decide (e.1 = who))
  { s with alm := { s.alm with identified := seen } }

/-- An identify request over the limit. -/
def State.identifyDropped (s : State) : State := { s with alm := { s.alm with identifyDrops := inc64 s.alm.identifyDrops } }

/-- What the front end does with a message that it has parsed. -/
def State.takesMessage (s : State) (port : Nat) (m : Msg) : State :=
  if m.kind ≠ 1 ∨ 15 < m.a then s.badMessage
  else if !s.alm.live then s.notReady port m
  else match s.keyFor m with
    | none => s.modAllot m.a (fun x => { x with authFails := inc64 x.authFails })
    | some k => s.accept port m k

/-- What it does with a parsed message at its other door. -/
def State.takesIdentify (s : State) (port who : Nat) (m : Msg) : State :=
  if m.kind ≠ 3 ∨ !m.identifies false then s.badMessage
  else if 100 ≤ s.identifiedBy who then s.identifyDropped
  else (s.identifySeen who).identify 0 port m

section
variable {s : State} {port : Nat} {b : List Byte}

/-- What the front end takes from the arrival hold is of the hold alone. -/
theorem State.takeHeld_frame (s : State) (port : Nat) : s.takeHeld port = { s with boot := (s.takeHeld port).boot } := by
  unfold State.takeHeld
  split <;> rfl

theorem State.takeHeld_leaves (s : State) (port : Nat) : (s.takeHeld port).alm = s.alm ∧ (s.takeHeld port).now = s.now ∧
    (s.takeHeld port).allots = s.allots ∧ (s.takeHeld port).emits = s.emits := by
  unfold State.takeHeld
  split <;> exact ⟨rfl, rfl, rfl, rfl⟩

theorem State.identifySeen_eq {t who n : Nat} {l : List (Nat × Nat × Nat)} (ht : s.now = t) (hl : s.alm.identified = l)
    (hn : s.identifiedBy who = n) :
    let seen := (who, t / 1000000000, n + 1) ::
      l.filter (fun e => decide (e.2.1 = t / 1000000000) && !decide (e.1 = who))
    s.identifySeen who = { s with alm := { s.alm with identified := seen } } := by
  subst ht hl hn
  rfl

theorem Msg.identifies_udp {m : Msg} (h : m.identifies false = true) : m.a = 0xFF ∧ m.session = 0 ∧ m.seq = 0 := by
  unfold Msg.identifies at h
  rw [Bool.and_eq_true, Bool.and_eq_true, decide_eq_true_eq, decide_eq_true_eq, Bool.false_or, decide_eq_true_eq] at h
  exact ⟨h.1.1, h.1.2, h.2⟩

theorem State.takeHeld_empty (h : s.boot.hold = []) : s.takeHeld port = s := by
  unfold State.takeHeld
  rw [h]
  rfl

theorem State.keyFor_takeHeld (s : State) (port : Nat) (m : Msg) : (s.takeHeld port).keyFor m = s.keyFor m := by
  rw [s.takeHeld_frame port]
  rfl

section
variable (h : s.wayIn port = false ∨ s.frontEnd = false)
include h

theorem State.udpMessage_shut : s.udpMessage port b = s := by
  refine if_pos ?_
  rcases h with h | h <;> rw [h] <;> simp

theorem State.udpIdentify_shut (k : Nat) : s.udpIdentify port k b = s := by
  refine if_pos ?_
  rcases h with h | h <;> rw [h] <;> simp

end

section
variable (hw : s.wayIn port = true) (hf : s.frontEnd = true)
include hw hf

theorem way_open : ¬ (!s.wayIn port || !s.frontEnd) = true := by rw [hw, hf]; exact Bool.false_ne_true

theorem State.udpMessage_open : s.udpMessage port b = match udpMsg b with
    | none => (s.takeHeld port).badMessage
    | some m => (s.takeHeld port).takesMessage port m := if_neg (way_open hw hf)

theorem State.udpIdentify_open (k : Nat) : s.udpIdentify port k b = match udpMsg b with
    | none => (s.takeHeld port).badMessage
    | some m => (s.takeHeld port).takesIdentify port (if port < 1024 then k else port) m := if_neg (way_open hw hf)

end
end


/-! ## The answer to an identify request (R300) -/

theorem State.identifyOp_read {s : State} {o : ReqOp} (hop : o.op = 1) (hf : o.fam = 0x01) (hi : o.inst = 0)
    (h1 : 1 ≤ o.mem) (h9 : o.mem ≤ 9) : s.identifyOp o =
      { status := (s.readOp 0 0x01 0 o.mem o.data).1, at_ := (s.readOp 0 0x01 0 o.mem o.data).2.1,
        data := (s.readOp 0 0x01 0 o.mem o.data).2.2, next := s } := if_pos ⟨hop, hf, hi, h1, h9⟩

theorem replyOp_length_le (o : ReqOp) (status at_ : Nat) {b : List Byte} (h : b.length ≤ 8000) :
    (replyOp o status at_ b).length ≤ 8016 := by
  simp only [replyOp, pad4, List.length_append, natLe_length, List.length_replicate]
  omega

theorem State.runOps_identify {s : State} {o : ReqOp} (hop : o.op = 1) (hf : o.fam = 0x01) (hi : o.inst = 0)
    (h1 : 1 ≤ o.mem) (h9 : o.mem ≤ 9) (hl : (s.readOp 0 0x01 0 o.mem o.data).2.2.length ≤ 8000) :
    ∃ q, s.runOps (fun s _ o => s.identifyOp o) 0 [o] [] false =
      (replyOp o (s.readOp 0 0x01 0 o.mem o.data).1 (s.readOp 0 0x01 0 o.mem o.data).2.1
        (s.readOp 0 0x01 0 o.mem o.data).2.2, q, s.at (s.now + 10)) := by
  have hlen := replyOp_length_le o (s.readOp 0 0x01 0 o.mem o.data).1 (s.readOp 0 0x01 0 o.mem o.data).2.1 hl
  refine ⟨decide ((s.readOp 0 0x01 0 o.mem o.data).1 = 9), ?_⟩
  unfold State.runOps
  rw [State.identifyOp_read hop hf hi h1 h9]
  dsimp only
  rw [if_neg (by simp only [List.length_nil]; omega)]
  unfold State.runOps
  rfl

/-- One read of the identity is answered over UDP. -/
theorem State.identify_read {s : State} {port : Nat} {m : Msg} {o : ReqOp} (hp : port < 1026) (hops : m.ops = [o])
    (hop : o.op = 1) (hf : o.fam = 0x01) (hi : o.inst = 0) (h1 : 1 ≤ o.mem) (h9 : o.mem ≤ 9)
    (hl : (s.readOp 0 0x01 0 o.mem o.data).2.2.length ≤ 8000) :
    s.identify 0 port m = s.emit (.reply s.now port 0 (replyMsg 4 m.a 0 m.session m.seq 1 0
      (replyOp o (s.readOp 0 0x01 0 o.mem o.data).1 (s.readOp 0 0x01 0 o.mem o.data).2.1
        (s.readOp 0 0x01 0 o.mem o.data).2.2))) := by
  obtain ⟨q, hrun⟩ := State.runOps_identify hop hf hi h1 h9 hl
  unfold State.identify
  rw [hops, hrun]
  dsimp only
  have hat : (s.at (s.now + 10)).at s.now = s := rfl
  rw [hat]
  refine (if_neg (by unfold noReply; omega)).trans ((if_neg (by unfold mailboxIn; omega)).trans ?_)
  rw [List.append_nil]
  rfl

/-- Settles O34: the front end takes the message, and each of the two operations decides by what it parses. -/
theorem udpMessages : Obligations.UdpMessages := by
  unfold Obligations.UdpMessages
  intro s t port k b hp hk
  have hmsg := exec_almanacMessage t b s hp
  have hid := exec_identifyRequest t b s hp hk
  refine ⟨fun h => ⟨?shutMsg, ?shutId⟩, fun hw hf => ?opened⟩
  case shutMsg => exact hmsg.trans (congrArg Host.Outcome.next (State.udpMessage_shut (s := s.at t) h))
  case shutId => exact hid.trans (congrArg Host.Outcome.next (State.udpIdentify_shut (s := s.at t) h k))
  case opened =>
  rw [State.udpMessage_open (s := s.at t) hw hf] at hmsg
  rw [State.udpIdentify_open (s := s.at t) hw hf] at hid
  intro v bad
  have hkey (m : Msg) : v.keyFor m = (s.at t).keyFor m := (s.at t).keyFor_takeHeld port m
  change _ = Host.Outcome.next (match udpMsg b with
    | none => v.badMessage
    | some m => v.takesMessage port m) at hmsg
  change _ = Host.Outcome.next (match udpMsg b with
    | none => v.badMessage
    | some m => v.takesIdentify port (if port < 1024 then k else port) m) at hid
  obtain ⟨halm, hnow, hall, hemits⟩ : v.alm = s.alm ∧ v.now = t ∧ v.allots = s.allots ∧ v.emits = s.emits :=
    (s.at t).takeHeld_leaves port
  have hallots (c : Nat) : v.allot c = s.allot c := congrArg (fun x => tget (fun _ => ({} : Allot)) x c) hall
  have hbad : v.badMessage = bad := by
    show ({ v with alm := { v.alm with badMessages := inc64 v.alm.badMessages } } : State) =
      { v with alm := { v.alm with badMessages := inc64 s.alm.badMessages } }
    rw [halm]
  refine ⟨fun h => State.takeHeld_empty (s := s.at t) h, fun h => ?malformed, fun m hl hm => ?parsed⟩
  case malformed =>
    rw [udpMsg_none h, hbad] at hmsg hid
    exact ⟨hmsg, hid⟩
  case parsed =>
  rw [udpMsg_some hl hm] at hmsg hid
  dsimp only at hmsg hid
  clear_value v bad
  refine ⟨fun h => ?other, fun h1 ha hlive => ?notReady, fun h1 ha hlive => ⟨fun hnone => ?unsigned, fun key hsome => ?signed⟩,
    fun h => ?notIdentify, fun h3 hi => ?identify⟩
  case other => exact hmsg.trans (congrArg Host.Outcome.next ((if_pos h).trans hbad))
  case notReady =>
    refine hmsg.trans (congrArg Host.Outcome.next ((if_neg (by omega)).trans (if_pos ?_)))
    rw [halm, hlive]
    rfl
  case unsigned =>
    obtain ⟨hself, hother, hleft⟩ := v.modAllot_alone m.a fun x => { x with authFails := inc64 x.authFails }
    rw [hallots] at hself
    refine ⟨_, hmsg.trans (congrArg Host.Outcome.next ((if_neg (by omega)).trans ((if_neg ?_).trans ?_))), hself,
      fun c hc => (hother c hc).trans (hallots c), hleft⟩
    · rw [halm, hlive]
      exact Bool.false_ne_true
    · rw [hkey, hnone]
  case signed =>
    refine hmsg.trans (congrArg Host.Outcome.next ((if_neg (by omega)).trans ((if_neg ?_).trans ?_)))
    · rw [halm, hlive]
      exact Bool.false_ne_true
    · rw [hkey, hsome]
  case notIdentify =>
    refine hid.trans (congrArg Host.Outcome.next ((if_pos ?_).trans hbad))
    exact h.imp id (fun hf => by rw [hf]; rfl)
  case identify =>
    have hgo : ¬ (m.kind ≠ 3 ∨ (!m.identifies false) = true) := by
      rw [hi]
      simp [h3]
    intro who sec n seen w
    have hn : v.identifiedBy who = n := by
      rw [v.identifiedBy_eq, halm, hnow]
    have hw : v.identifySeen who = w := State.identifySeen_eq hnow (congrArg Almanac.identified halm) hn
    have hlate (h : n < 100) : exec (.identifyRequest t port k b) s = .next (w.identify 0 port m) := by
      refine hid.trans (congrArg Host.Outcome.next ((if_neg hgo).trans ((if_neg ?_).trans (by rw [hw]))))
      rw [hn]
      omega
    refine ⟨fun h => ?_, hlate, fun o h hops hop hfam hinst hm1 hm9 => ?_⟩
    · refine hid.trans (congrArg Host.Outcome.next ((if_neg hgo).trans ((if_pos ?_).trans ?_)))
      · rw [hn]
        exact h
      · show ({ v with alm := { v.alm with identifyDrops := inc64 v.alm.identifyDrops } } : State) = _
        rw [halm]
    · intro r hlen
      have hwnow : w.now = t := hnow
      have hread := State.identify_read (s := w) hp hops hop hfam hinst hm1 hm9 hlen
      refine ⟨_, hlate h, hread.trans ?_⟩
      have hwe : w.emits = s.emits := hemits
      obtain ⟨ha, hs, hq⟩ := Msg.identifies_udp hi
      show ({ w with emits := .reply w.now port 0 _ :: w.emits } : State) = _
      rw [hwnow, hwe, ha, hs, hq]

end Sys2Proof.Machine
end

section
/-! PROOFS. READ and WRITE of Almanac entries, staging, the journal and NOT_READY (R287, R289, R295, R306 to R310). -/

namespace Sys2Proof.Machine

section
variable {a : Nat} (t : Nat) (s : State) (ha : a < 16)
include ha

theorem exec_read (fam inst mem : Nat) (b : List Byte) :
    exec (.read t a fam inst mem b) s = .next ((s.at t).order a 1 fam inst mem b) := if_pos (decide_eq_true ha)
theorem exec_write (fam inst mem : Nat) (b : List Byte) :
    exec (.write t a fam inst mem b) s = .next ((s.at t).order a 2 fam inst mem b) := if_pos (decide_eq_true ha)
theorem exec_writeStaged (fam inst mem len : Nat) :
    exec (.writeStaged t a fam inst mem len) s = .next ((s.at t).order a 3 fam inst mem (natLe 4 len)) :=
  if_pos (decide_eq_true ha)
theorem exec_stage (off : Nat) (b : List Byte) :
    exec (.stage t a off b) s = .next ((s.at t).order a 4 0 0 0 (natLe 4 off ++ b)) := if_pos (decide_eq_true ha)
theorem exec_clearStage : exec (.clearStage t a) s = .next ((s.at t).order a 5 0 0 0 []) := if_pos (decide_eq_true ha)

end

/-! ## An operation commanded by itself -/

section
variable {s : State} {a op fam inst mem : Nat} {b : List Byte}

/-- An operation shown as its answer. -/
def OpResult.shown (r : OpResult) : State := r.next.say r.status r.data r.at_

theorem State.order_runs (hw : s.alm.live = false ∨ s.waits a = false) :
    s.order a op fam inst mem b = (s.runOp a 0 0 op fam inst mem b).shown := by
  refine if_neg ?_
  rcases hw with h | h <;> rw [h] <;> simp

theorem State.order_waits (hl : s.alm.live = true) (hw : s.waits a = true) : s.order a op fam inst mem b =
    { s with shed := { s.shed with waiting := s.shed.waiting ++
      [{ a := a, seq := 0, idx := 0, op := op, fam := fam, inst := inst, mem := mem, val := b }] } } :=
  if_pos (by rw [hl, hw]; rfl)

/-- Before the Almanac is live no operation runs. -/
theorem State.order_notLive (hl : s.alm.live = false) : s.order a op fam inst mem b = s.say 8 [] 0 := by
  rw [State.order_runs (.inl hl)]
  exact congrArg OpResult.shown (if_pos (by rw [hl]; rfl))

section
variable (hl : s.alm.live = true)
include hl

theorem live_runs : ¬ (!s.alm.live) = true := by rw [hl]; exact Bool.false_ne_true

theorem State.runOp_read : s.runOp a 0 0 1 fam inst mem b = s.runRead a 0 0 fam inst mem b := if_neg (live_runs hl)
theorem State.runOp_write : s.runOp a 0 0 2 fam inst mem b = s.runWrite a 0 0 fam inst mem b := if_neg (live_runs hl)

variable (hw : s.waits a = false)
include hw

/-- A READ that nothing delays. -/
theorem State.order_read (hj : s.journals = false) : s.order a 1 fam inst mem b =
    s.say (s.readOp a fam inst mem b).1 (s.readOp a fam inst mem b).2.2 (s.readOp a fam inst mem b).2.1 := by
  rw [State.order_runs (.inr hw), State.runOp_read hl]
  exact congrArg OpResult.shown (if_neg (by rw [hj]; simp))

/-- A WRITE that nothing delays. -/
theorem State.order_write (hj : s.journals = false) : s.order a 2 fam inst mem b =
    (s.writeOp a fam inst mem b).2.2.say (s.writeOp a fam inst mem b).1 [] (s.writeOp a fam inst mem b).2.1 := by
  rw [State.order_runs (.inr hw), State.runOp_write hl]
  exact congrArg OpResult.shown (if_neg (by rw [hj]; exact Bool.false_ne_true))

end

/-! ## READ (R289, R307, R310) -/

theorem granted {p q : Bool} (h : p = true ∨ q = true) : ¬ (!p && !q) = true := by
  rw [Bool.and_eq_true, Bool.not_eq_true', Bool.not_eq_true', ← Bool.not_eq_true, ← Bool.not_eq_true, ← not_or, not_not]
  exact h

theorem withheld {p q : Bool} (h : ¬ (p = true ∨ q = true)) : (!p && !q) = true := by
  rw [Bool.and_eq_true, Bool.not_eq_true', Bool.not_eq_true', ← Bool.not_eq_true, ← Bool.not_eq_true, ← not_or]
  exact h

theorem State.readOp_noSpace (hs : spaceOf fam inst = none) : s.readOp a fam inst mem b = (1, 0, []) := by
  unfold State.readOp
  rw [hs]

theorem State.writeOp_noSpace (hs : spaceOf fam inst = none) : s.writeOp a fam inst mem b = (1, 0, s) := by
  unfold State.writeOp
  rw [hs]
  rfl

section
variable {sp : Space} {n : Nat} (hs : spaceOf fam inst = some (sp, n))
include hs

theorem State.readOp_noRow (hr : entryRow sp n mem = none) : s.readOp a fam inst mem b = (1, 0, []) := by
  unfold State.readOp
  rw [hs]
  dsimp only
  rw [hr]

theorem State.writeOp_noRow (hr : entryRow sp n mem = none) : s.writeOp a fam inst mem b = (1, 0, s) := by
  unfold State.writeOp
  rw [hs]
  dsimp only
  rw [hr]
  rfl

variable {r : Row} (hr : entryRow sp n mem = some r)
include hr

theorem State.readOp_refused (h : ¬ (recordRead sp mem = true ∨ canRead r.acc (s.rightsMask a fam inst sp n) = true)) :
    s.readOp a fam inst mem b = (2, 0, []) := by
  unfold State.readOp
  rw [hs]
  dsimp only
  rw [hr]
  exact if_pos (withheld h)

theorem State.writeOp_refused (h : ¬ (recordWrite sp mem = true ∨ canWrite r.acc (s.rightsMask a fam inst sp n) = true)) :
    s.writeOp a fam inst mem b = (2, 0, s) := by
  unfold State.writeOp
  rw [hs]
  dsimp only
  rw [hr]
  exact if_pos (withheld h)

section
variable (h : recordRead sp mem = true ∨ canRead r.acc (s.rightsMask a fam inst sp n) = true)
include h

/-- A READ of the entry itself: the value at the start of the slot, or the status that refuses it. -/
theorem State.readOp_entry (hc : s.copy = none) : s.readOp a fam inst mem b =
    ((s.entryRead a fam inst mem sp n b).1, if (s.entryRead a fam inst mem sp n b).1 = 0 then s.slotTime else 0,
      if (s.entryRead a fam inst mem sp n b).1 = 0 then
        ((s.alm.slotOld.find? (fun e => decide (e.1 = s.now / 10) && decide (e.2.1 = entryKey fam inst mem) &&
          b.isEmpty)).map (·.2.2)).getD (s.entryRead a fam inst mem sp n b).2
      else (s.entryRead a fam inst mem sp n b).2) := by
  unfold State.readOp
  rw [hs]
  dsimp only
  rw [hr]
  dsimp only
  refine (if_neg (granted h)).trans ?_
  rw [hc]
  dsimp only
  generalize List.find? _ _ = was
  cases was <;> rfl

/-- A READ of a counter while a copy stands. -/
theorem State.readOp_copied {c : CounterCopy} (hc : s.copy = some c) (hk : isCounter sp mem = true) :
    s.readOp a fam inst mem b = ((s.fromCopy.entryRead a fam inst mem sp n b).1,
      if (s.fromCopy.entryRead a fam inst mem sp n b).1 = 0 then c.at_ else 0,
      (s.fromCopy.entryRead a fam inst mem sp n b).2) := by
  unfold State.readOp
  rw [hs]
  dsimp only
  rw [hr]
  dsimp only
  refine (if_neg (granted h)).trans ?_
  rw [hc]
  exact if_pos hk

end

section
variable (h : recordWrite sp mem = true ∨ canWrite r.acc (s.rightsMask a fam inst sp n) = true)
include h

/-- A WRITE that its entry refuses. -/
theorem State.writeOp_entry {st e : Nat} {u : State} (hst : st ≠ 0) (hu : s.entryWrite a fam inst mem sp n r b = (st, e, u)) :
    s.writeOp a fam inst mem b = (st, e, u) := by
  unfold State.writeOp
  rw [hs]
  dsimp only
  rw [hr]
  dsimp only
  refine (if_neg (granted h)).trans ?_
  rw [hu]
  exact if_pos hst

/-- A WRITE that a lower-numbered allotment has made in vain. -/
theorem State.writeOp_superseded {e : Nat} {u : State} (hu : s.entryWrite a fam inst mem sp n r b = (0, e, u))
    (hl : (∃ c, c < a ∧ (s.now / 10, conflictKey fam inst mem sp b, c) ∈ s.alm.slotWrites) ∨
      s.loses a (registerFields sp n mem b) = true) :
    s.writeOp a fam inst mem b = (6, 0, s.modAllot a (fun x => { x with superseded := inc64 x.superseded })) := by
  unfold State.writeOp
  rw [hs]
  dsimp only
  rw [hr]
  dsimp only
  refine (if_neg (granted h)).trans ?_
  rw [hu]
  refine (if_neg (not_not.2 rfl)).trans (if_pos ?_)
  rw [Bool.or_eq_true]
  refine hl.imp (fun ⟨c, hc, hm⟩ => List.any_eq_true.2 ⟨_, hm, ?_⟩) id
  rw [decide_eq_true rfl, decide_eq_true rfl, decide_eq_true hc]
  rfl

end
end

end

/-- Settles O31: a READ and a WRITE that nothing delays, by where the entry's row ends them. -/
theorem almanacReadsAndWrites : Obligations.AlmanacReadsAndWrites := by
  unfold Obligations.AlmanacReadsAndWrites
  intro s t a fam inst mem b ha hl hrs hjn hwt
  have hj : (s.at t).journals = false := by
    show (s.shed.restarting || !s.shed.journal.isEmpty) = false
    rw [hrs, hjn]
    rfl
  have hread {x : Nat × Nat × List Byte} (h : (s.at t).readOp a fam inst mem b = x) :
      exec (.read t a fam inst mem b) s = .next ((s.at t).say x.1 x.2.2 x.2.1) := by
    rw [exec_read t s ha, State.order_read (s := s.at t) hl hwt hj, h]
  have hwrite {x : Nat × Nat × State} (h : (s.at t).writeOp a fam inst mem b = x) :
      exec (.write t a fam inst mem b) s = .next (x.2.2.say x.1 [] x.2.1) := by
    rw [exec_write t s ha, State.order_write (s := s.at t) hl hwt hj, h]
  refine ⟨fun hs => ⟨hread (State.readOp_noSpace hs), hwrite (State.writeOp_noSpace hs)⟩,
    fun sp n hs hr => ⟨hread (State.readOp_noRow hs hr), hwrite (State.writeOp_noRow hs hr)⟩, fun sp n r hs hr => ?_⟩
  intro reads writes was
  refine ⟨fun h => hread (State.readOp_refused (s := s.at t) hs hr h),
    fun h => hwrite (State.writeOp_refused (s := s.at t) hs hr h), fun v h hc hv => ?value, fun st v h hc hst hv => ?refused,
    fun c v h hc hk hv => ?copied, fun e u ht h hu => ?taken, fun st e u h hst hu => ?unwritten, fun e u h hlose hu => ?superseded⟩
  case value =>
    have h := hread (State.readOp_entry (s := s.at t) hs hr h hc)
    rw [hv] at h
    exact h
  case refused =>
    have h := hread (State.readOp_entry (s := s.at t) hs hr h hc)
    rw [hv] at h
    dsimp only at h
    rw [if_neg hst, if_neg hst] at h
    exact h
  case copied =>
    have h := hread (State.readOp_copied (s := s.at t) hs hr h hc hk)
    rw [hv] at h
    exact h
  case taken => exact ⟨_, exec_write t s ha fam inst mem b, row_accepted ht hs hr h hu⟩
  case unwritten => exact hwrite (State.writeOp_entry (s := s.at t) hs hr h hst hu)
  case superseded => exact hwrite (State.writeOp_superseded (s := s.at t) hs hr h hu hlose)


/-! ## Staging (R295) -/

section
variable {s : State} {a : Nat} (hl : s.alm.live = true) (hw : s.waits a = false)
include hl hw

theorem State.order_stage {off : Nat} (b : List Byte) : s.order a 4 0 0 0 (natLe 4 off ++ b) =
    (s.stageBytes a (off % 4294967296) b).2.say (s.stageBytes a (off % 4294967296) b).1 []
      (if (s.stageBytes a (off % 4294967296) b).1 = 0 then s.now else 0) := by
  rw [State.order_runs (.inr hw)]
  have hoff : fieldAt (natLe 4 off ++ b) 0 4 = off % 4294967296 := fieldAt_natLe 4 off b
  have hdrop : (natLe 4 off ++ b).drop 4 = b := List.drop_left' (natLe_length 4 off)
  have hrun : s.runOp a 0 0 4 0 0 0 (natLe 4 off ++ b) =
      { status := (s.stageBytes a (off % 4294967296) b).1,
        at_ := if (s.stageBytes a (off % 4294967296) b).1 = 0 then s.now else 0,
        next := (s.stageBytes a (off % 4294967296) b).2 } := by
    refine (if_neg (live_runs hl)).trans ((if_neg ?_).trans ?_)
    · rw [List.length_append, natLe_length]
      omega
    · rw [hoff, hdrop]
  rw [hrun]
  rfl

theorem State.order_clearStage : s.order a 5 0 0 0 [] = (s.clearStage a).say 0 [] s.now := by
  rw [State.order_runs (.inr hw)]
  exact congrArg OpResult.shown (if_neg (live_runs hl))

/-- WRITE_STAGED writes the first bytes of the buffer. -/
theorem State.order_staged {len : Nat} (h : len ≤ (s.allot a).staging.length) (hn : len < 4294967296) (fam inst mem : Nat) :
    s.order a 3 fam inst mem (natLe 4 len) = (s.clearStage a).order a 2 fam inst mem ((s.allot a).staging.take len) := by
  have hlen : leNat ((natLe 4 len).take 4) = len := by
    rw [List.take_of_length_le (by rw [natLe_length]), leNat_natLe]
    exact Nat.mod_eq_of_lt hn
  rw [State.order_runs (.inr hw), State.order_runs (s := s.clearStage a) (.inr hw)]
  refine congrArg OpResult.shown ((if_neg (live_runs hl)).trans (Eq.trans ?_ (if_neg (live_runs hl)).symm))
  show s.runStaged a 0 0 fam inst mem (leNat ((natLe 4 len).take 4)) (decide ((natLe 4 len).length = 4)) = _
  rw [hlen, natLe_length]
  refine if_neg ?_
  rw [decide_eq_false (by omega : ¬ (s.allot a).staging.length < len)]
  decide

/-- WRITE_STAGED of more than the buffer holds is refused, and empties it. -/
theorem State.order_staged_short {len : Nat} (h : (s.allot a).staging.length < len) (hn : len < 4294967296)
    (fam inst mem : Nat) : s.order a 3 fam inst mem (natLe 4 len) = (s.clearStage a).say 4 [] 0 := by
  have hlen : leNat ((natLe 4 len).take 4) = len := by
    rw [List.take_of_length_le (by rw [natLe_length]), leNat_natLe]
    exact Nat.mod_eq_of_lt hn
  rw [State.order_runs (.inr hw)]
  have hrun : s.runOp a 0 0 3 fam inst mem (natLe 4 len) = { status := 4, next := s.clearStage a } := by
    refine (if_neg (live_runs hl)).trans ?_
    show s.runStaged a 0 0 fam inst mem (leNat ((natLe 4 len).take 4)) (decide ((natLe 4 len).length = 4)) = _
    rw [hlen]
    refine if_pos ?_
    rw [decide_eq_true h, Bool.or_true]
  rw [hrun]
  rfl

/-! ## The journal (R310) -/

variable (hj : s.journals = true)
include hj

theorem State.order_write_journals (fam inst mem : Nat) (b : List Byte) : s.order a 2 fam inst mem b =
    (s.queueOp { a := a, seq := 0, idx := 0, op := 2, fam := fam, inst := inst, mem := mem, val := b }).shown := by
  rw [State.order_runs (.inr hw), State.runOp_write hl]
  exact congrArg OpResult.shown (if_pos hj)

theorem State.order_read_journals (hq : 0 < s.queuedOf a) (fam inst mem : Nat) (b : List Byte) :
    s.order a 1 fam inst mem b =
      (s.queueOp { a := a, seq := 0, idx := 0, op := 1, fam := fam, inst := inst, mem := mem, val := b }).shown := by
  rw [State.order_runs (.inr hw), State.runOp_read hl]
  exact congrArg OpResult.shown (if_pos (by rw [hj, decide_eq_true hq]; rfl))

end

theorem State.queueOp_shown {s : State} {j : JournalOp} (h : s.journalRoom j.a 1 = true) : (s.queueOp j).shown =
    ({ s with shed := { s.shed with journal := s.shed.journal ++ [j] } } : State).say 9 [] 0 := by
  unfold State.queueOp
  rw [h]
  rfl

theorem State.queueOp_full {s : State} {j : JournalOp} (h : s.journalRoom j.a 1 = false) :
    (s.queueOp j).shown = s.say 5 [] 0 := by
  unfold State.queueOp
  rw [h]
  rfl

theorem stageBytes_empty (s : State) (a off : Nat) : s.stageBytes a off [] = (0, s) := rfl

theorem stageBytes_long {s : State} {a off : Nat} {b : List Byte} (hb : b ≠ []) (h : 1048576 < off + b.length) :
    s.stageBytes a off b = (4, s) :=
  (if_neg (by rw [List.isEmpty_iff]; exact hb)).trans (if_pos h)

/-- The staging buffer with bytes placed at an offset. -/
def State.stagedWith (s : State) (a off : Nat) (b : List Byte) : List Byte :=
  patchBytes ((s.allot a).staging ++ List.replicate (off + b.length - (s.allot a).staging.length) 0) off b

theorem stageBytes_placed {s : State} {a off : Nat} {b : List Byte} (hb : b ≠ []) (h : off + b.length ≤ 1048576) :
    s.stageBytes a off b = (0, s.modAllot a (fun x => { x with staging := s.stagedWith a off b })) :=
  (if_neg (by rw [List.isEmpty_iff]; exact hb)).trans (if_neg (by omega))

/-- Settles O32: each operation commanded by itself, where it runs, where it is journalled and where it waits. -/
theorem stagingAndJournal : Obligations.StagingAndJournal := by
  unfold Obligations.StagingAndJournal
  intro s t a ha
  refine ⟨fun hl hw => ⟨fun off b hb h => ?placed, fun off => ?empty, fun off b ho hb h => ?long, ?cleared,
    fun fam inst mem len hn => ⟨fun h => ?staged, fun h => ?short⟩, fun fam inst mem b hj => ?journal⟩,
    fun hl hw fam inst mem b len off => ?waits, fun hl fam inst mem b len off => ?notLive⟩
  case placed =>
    have ho := State.order_stage (s := s.at t) hl hw (off := off) b
    rw [Nat.mod_eq_of_lt (by omega), stageBytes_placed hb h] at ho
    obtain ⟨hself, hother, hframe⟩ := (s.at t).modAllot_alone a fun x => { x with staging := (s.at t).stagedWith a off b }
    exact ⟨_, (exec_stage t s ha off b).trans (congrArg Host.Outcome.next ho), rfl, congrArg Allot.staging hself, hother, rfl⟩
  case empty =>
    have ho := State.order_stage (s := s.at t) hl hw (off := off) []
    rw [stageBytes_empty] at ho
    exact (exec_stage t s ha off []).trans (congrArg Host.Outcome.next ho)
  case long =>
    have h' := State.order_stage (s := s.at t) hl hw (off := off) b
    rw [Nat.mod_eq_of_lt ho, stageBytes_long hb h] at h'
    exact (exec_stage t s ha off b).trans (congrArg Host.Outcome.next h')
  case cleared =>
    obtain ⟨hself, hother, hframe⟩ := (s.at t).modAllot_alone a fun x => { x with staging := [] }
    exact ⟨_, (exec_clearStage t s ha).trans (congrArg Host.Outcome.next (State.order_clearStage (s := s.at t) hl hw)), rfl,
      congrArg Allot.staging hself, hother, rfl⟩
  case staged =>
    refine (exec_writeStaged t s ha fam inst mem len).trans ((congrArg Host.Outcome.next
      (State.order_staged (s := s.at t) hl hw h hn fam inst mem)).trans (exec_write t (s.clearStage a) ha fam inst mem _).symm)
  case short =>
    exact (exec_writeStaged t s ha fam inst mem len).trans (congrArg Host.Outcome.next
      (State.order_staged_short (s := s.at t) hl hw h hn fam inst mem))
  case journal =>
    have hjn : (s.at t).journals = true := by
      show (s.shed.restarting || !s.shed.journal.isEmpty) = true
      rcases hj with h | h
      · rw [h]; rfl
      · rw [Bool.or_eq_true, Bool.not_eq_true', ← Bool.not_eq_true, List.isEmpty_iff]
        exact .inr h
    have hwrite := (exec_write t s ha fam inst mem b).trans (congrArg Host.Outcome.next
      (State.order_write_journals (s := s.at t) hl hw hjn fam inst mem b))
    have hread (hq : 0 < s.queuedOf a) := (exec_read t s ha fam inst mem b).trans (congrArg Host.Outcome.next
      (State.order_read_journals (s := s.at t) hl hw hjn hq fam inst mem b))
    intro queued
    refine ⟨fun h => ⟨_, hwrite.trans (congrArg Host.Outcome.next (State.queueOp_shown (s := s.at t) h)), rfl, rfl, rfl⟩,
      fun h => hwrite.trans (congrArg Host.Outcome.next (State.queueOp_full (s := s.at t) h)),
      fun hq h => ⟨_, (hread hq).trans (congrArg Host.Outcome.next (State.queueOp_shown (s := s.at t) h)), rfl, rfl, rfl⟩,
      fun hq h => (hread hq).trans (congrArg Host.Outcome.next (State.queueOp_full (s := s.at t) h))⟩
  case waits =>
    exact ⟨(exec_read t s ha ..).trans (congrArg Host.Outcome.next (State.order_waits (s := s.at t) hl hw)),
      (exec_write t s ha ..).trans (congrArg Host.Outcome.next (State.order_waits (s := s.at t) hl hw)),
      (exec_writeStaged t s ha ..).trans (congrArg Host.Outcome.next (State.order_waits (s := s.at t) hl hw)),
      (exec_stage t s ha ..).trans (congrArg Host.Outcome.next (State.order_waits (s := s.at t) hl hw)),
      (exec_clearStage t s ha).trans (congrArg Host.Outcome.next (State.order_waits (s := s.at t) hl hw))⟩
  case notLive =>
    exact ⟨(exec_read t s ha ..).trans (congrArg Host.Outcome.next (State.order_notLive (s := s.at t) hl)),
      (exec_write t s ha ..).trans (congrArg Host.Outcome.next (State.order_notLive (s := s.at t) hl)),
      (exec_writeStaged t s ha ..).trans (congrArg Host.Outcome.next (State.order_notLive (s := s.at t) hl)),
      (exec_stage t s ha ..).trans (congrArg Host.Outcome.next (State.order_notLive (s := s.at t) hl)),
      (exec_clearStage t s ha).trans (congrArg Host.Outcome.next (State.order_notLive (s := s.at t) hl))⟩

end Sys2Proof.Machine
end

section
/-! PROOFS. Meters, time and intervals of the Rain Gauge (R418, R420, R421, R425, R427). -/

namespace Sys2Proof.Machine

/-! ## Meters and time -/

section
variable {s : State} {die : Nat}

theorem State.meterSend_off (h : s.gauge.powered = false ∨ s.mod.on = false ∨ s.rail (4 + die) ≠ 1) :
    s.meterSend die = s :=
  if_pos (by simpa using h)

theorem State.meterMissing_off (h : s.gauge.powered = false ∨ s.mod.on = false ∨ s.rail (4 + die) ≠ 1) :
    s.meterMissing die = s :=
  if_pos (by simpa using h)

/-- Increments of before the boundary and of the open interval, over whether the interval that waits is closed already. -/
theorem State.meterSend_on (hp : s.gauge.powered = true) (hm : s.mod.on = true) (hr : s.rail (4 + die) = 1) :
    s.meterSend die =
      (let g := s.gauge
       let was := if die = 0 then g.old0 else g.old1
       let new := if die = 0 then g.meter0 else g.meter1
       let idle := g.restarting || g.flags.gap
       let late := decide (was ≠ []) && decide (g.closing = none) && !idle
       let usage := if idle then g.usage else mergeUsage (if late then mergeUsage g.usage was else g.usage) new
       let closing := g.closing.map (fun c =>
         { c with usage := if c.flags.gap then c.usage else mergeUsage c.usage was })
       let g := { g with usage := usage, closing := closing,
                         lateIncrements := g.lateIncrements + (if late then 1 else 0) }
       let g := if die = 0 then { g with meter0 := [], old0 := [] } else { g with meter1 := [], old1 := [] }
       { s with gauge := g }) := by
  have hon : ¬ ((!s.gauge.powered) = true ∨ (!s.mod.on) = true ∨ s.rail (4 + die) ≠ 1) := by simp [hp, hm, hr]
  unfold State.meterSend
  rw [if_neg hon]
  by_cases hd : die = 0
  · cases hc : s.gauge.closing <;> cases hi : s.gauge.restarting || s.gauge.flags.gap <;> cases hw : s.gauge.old0 <;>
      simp [hd, hc, hi, hw, Gauge.idle, mergeUsage]
  · cases hc : s.gauge.closing <;> cases hi : s.gauge.restarting || s.gauge.flags.gap <;> cases hw : s.gauge.old1 <;>
      simp [hd, hc, hi, hw, Gauge.idle, mergeUsage]

theorem State.meterMissing_on (hp : s.gauge.powered = true) (hm : s.mod.on = true) (hr : s.rail (4 + die) = 1) :
    s.meterMissing die = { s with gauge := { s.gauge with flags :=
      if die = 0 then { s.gauge.flags with missing0 := true } else { s.gauge.flags with missing1 := true } } } :=
  if_neg (by simp [hp, hm, hr])

theorem State.gaugeTime_off (h : s.gauge.powered = false ∨ s.mod.on = false) : s.gaugeTime = s :=
  if_pos (by simpa using h)

theorem State.gaugeTime_on (hp : s.gauge.powered = true) (hm : s.mod.on = true) :
    s.gaugeTime =
      (let g := if s.traceable then { s.gauge with lastHub := s.now } else
         (let f := { s.gauge.flags with timeFree := true }
          { s.gauge with flags := f })
       let gap := { g.flags with gap := true }
       let g := if g.restarting then { g with restarting := false, usage := [], start := g.lastEnd, flags := gap } else g
       { s with gauge := g }) := by
  have hon : ¬ ((!s.gauge.powered) = true ∨ (!s.mod.on) = true) := by simp [hp, hm]
  unfold State.gaugeTime
  rw [if_neg hon]
  cases htr : s.traceable <;> cases hr : s.gauge.restarting <;> simp [State.modGauge, hr]

theorem State.gaugeTimeFree_off (h : s.gauge.powered = false ∨ s.gaugeFree = false) : s.gaugeTimeFree = s :=
  if_pos (by simpa using h)

theorem State.gaugeTimeFree_on (hp : s.gauge.powered = true) (hf : s.gaugeFree = true) :
    s.gaugeTimeFree = { s with gauge := { s.gauge with flags := { s.gauge.flags with timeFree := true } } } :=
  if_neg (by simp [hp, hf])

end

/-! ## The record of an interval -/

/-- The sums that the charges of an interval divide (R426). -/
def Gauge.sums (g : Gauge) (c : GaugeClosing) : List Nat :=
  (List.range 16).map (fun a => chargeSum c.tariff c.usage a (tget (fun _ => 0) g.carry a))
/-- The charges of an interval with what each leaves to carry (R426). -/
def Gauge.charges (g : Gauge) (c : GaugeClosing) : List (Nat × Nat) :=
  (g.sums c).map (fun n => (n / 1000000000, n % 1000000000))
/-- The body of the record of an interval. -/
def Gauge.closedBody (g : Gauge) (c : GaugeClosing) : List Byte :=
  g.recordBody c (g.lastSeq + 1) ((c.finish - c.start) / 1000000000) (g.charges c)
/-- The signed record of an interval (R426). -/
def Gauge.closedRec (g : Gauge) (c : GaugeClosing) : GaugeRec :=
  { seq := g.lastSeq + 1, start := c.start, length := (c.finish - c.start) / 1000000000,
    bytes := g.closedBody c ++ Config.gaugeSign (g.closedBody c) }
/-- What the charges of an interval leave to carry. -/
def Gauge.carried (g : Gauge) (c : GaugeClosing) : Tab Nat :=
  (List.range 16).foldl (fun t a => tput (fun _ => 0) t a ((g.charges c).getD a (0, 0)).2) g.carry
/-- The gauge after it closed an interval. -/
def Gauge.closed (g : Gauge) (c : GaugeClosing) : Gauge :=
  { g with closing := none, carry := g.carried c, lastSeq := g.lastSeq + 1, toSend := g.toSend ++ [g.lastSeq + 1] }.store
    (g.closedRec c)

theorem State.closeInterval_idle {s : State} (h : s.gauge.closing = none) : s.closeInterval = s := by
  unfold State.closeInterval
  rw [h]

theorem State.closeInterval_waits {s : State} {c : GaugeClosing} (h : s.gauge.closing = some c) :
    s.closeInterval =
      if s.mod.on then { s with gauge := s.gauge.closed c }.raise 0x0200 else { s with gauge := s.gauge.closed c } := by
  unfold State.closeInterval
  rw [h]
  rfl

theorem State.closeInterval_gauge {s : State} {c : GaugeClosing} (h : s.gauge.closing = some c) :
    s.closeInterval.gauge = s.gauge.closed c := by
  rw [State.closeInterval_waits h]
  simp [State.ite_kept .., State.raise_kept ..]

/-- Closing an interval changes the gauge, and the interrupts where it is told to the hub. -/
theorem State.closeInterval_leaves (s : State) : s.closeInterval = { s with
    emits := s.closeInterval.emits, allots := s.closeInterval.allots, irq := s.closeInterval.irq,
    gauge := s.closeInterval.gauge } := by
  have hegr : s.closeInterval.egr = s.egr := by
    unfold State.closeInterval
    split
    · rfl
    · simp [State.ite_kept .., State.raise_kept ..]
  exact State.parts.2 (by simp [State.closeInterval_kept .., hegr])

theorem State.sourceOwner_low (s : State) {n : Nat} (hlo : 0x0110 ≤ n) (hhi : n ≤ 0x0FFF) : s.sourceOwner n = some 0 := by
  unfold State.sourceOwner
  rw [if_neg (by omega)]
  exact if_pos ⟨by omega, hhi⟩

theorem Gauge.charges_getD (g : Gauge) (c : GaugeClosing) {a : Nat} (ha : a < 16) :
    ((g.charges c).getD a (0, 0)).2 =
      chargeSum c.tariff c.usage a (tget (fun _ => 0) g.carry a) % 1000000000 := by
  simp [Gauge.charges, Gauge.sums, List.getD_eq_getElem?_getD, ha]

/-- Each allotment carries the remainder of its own sum. -/
theorem Gauge.carried_at (g : Gauge) (c : GaugeClosing) {a : Nat} (ha : a < 16) :
    tget (fun _ => 0) (g.carried c) a =
      chargeSum c.tariff c.usage a (tget (fun _ => 0) g.carry a) % 1000000000 := by
  rw [← g.charges_getD c ha]
  exact foldl_pointwise (R := fun t a => tget (fun _ => 0) t a) (I := fun _ => True)
    (g := fun a _ => ((g.charges c).getD a (0, 0)).2) _ (fun _ _ _ => trivial)
    (fun t x _ => tget_tput_self ..) (fun t x k hk => tget_tput_other _ t _ hk) List.nodup_range trivial
    (List.mem_range.2 ha)

section
variable (g : Gauge) (c : GaugeClosing) (r : GaugeRec)

theorem Gauge.store_records :
    (g.store r).records = (if g.records.length < 65536 then g.records else g.records.drop 1) ++ [r] := by
  unfold Gauge.store
  split <;> rfl

theorem Gauge.store_lostUnread : (g.store r).lostUnread = if 65536 ≤ g.records.length ∧
    g.ackSeq < (g.records.head?.map (·.seq)).getD 0 then g.lostUnread + 1 else g.lostUnread := by
  unfold Gauge.store
  by_cases h : g.records.length < 65536
  · rw [if_pos h, if_neg (by omega)]
  · rw [if_neg h]
    simp [Nat.not_lt.1 h]

/-- What the store of a record leaves of the gauge. -/
theorem Gauge.store_leaves : g.store r = { g with records := (g.store r).records, lostUnread := (g.store r).lostUnread } := by
  unfold Gauge.store
  split <;> rfl

theorem Gauge.closed_leaves : (g.closed c).closing = none ∧ (g.closed c).usage = g.usage ∧
    (g.closed c).lastSeq = g.lastSeq + 1 ∧ (g.closed c).toSend = g.toSend ++ [g.lastSeq + 1] ∧
    (g.closed c).carry = g.carried c ∧ (g.closed c).start = g.start ∧ (g.closed c).flags = g.flags ∧
    (g.closed c).tariff = g.tariff ∧ (g.closed c).sealOpen = g.sealOpen ∧ (g.closed c).meter0 = g.meter0 ∧
    (g.closed c).meter1 = g.meter1 := by
  unfold Gauge.closed
  rw [Gauge.store_leaves]
  exact ⟨rfl, rfl, rfl, rfl, rfl, rfl, rfl, rfl, rfl, rfl, rfl⟩

end

/-! ## Boundaries -/

theorem State.gaugeBoundary_off {s : State} (h : s.gauge.powered = false ∨ s.gauge.restarting = true ∨
    s.now % (s.gauge.interval * 1000000000) ≠ 0 ∨ s.now ≤ s.gauge.start) : s.gaugeBoundary = s :=
  if_pos (by simpa using h)

theorem State.gaugeSetting_closeInterval (s : State) (mem : Nat) :
    s.closeInterval.gaugeSetting mem = s.gaugeSetting mem := by
  unfold State.gaugeSetting State.cfg
  simp only [State.closeInterval_kept ..]

/-- With no change in the decision slot, a setting is the one that stands. -/
theorem State.gaugeSetting_unchanged {s : State} (h : ∀ e ∈ s.alm.slotOld, e.1 ≠ s.now / 10) (mem : Nat) :
    s.gaugeSetting mem = s.cfg 0x50 0 mem := by
  unfold State.gaugeSetting
  have hnone : s.alm.slotOld.find? (fun e => decide (e.1 = s.now / 10) && decide (e.2.1 = entryKey 0x50 0 mem)) = none :=
    List.find?_eq_none.2 fun e he => by simp [h e he]
  rw [hnone]

/-- What closing leaves of the open interval. -/
theorem State.closeInterval_open (s : State) :
    s.closeInterval.gauge.start = s.gauge.start ∧ s.closeInterval.gauge.usage = s.gauge.usage ∧
    s.closeInterval.gauge.flags = s.gauge.flags ∧ s.closeInterval.gauge.tariff = s.gauge.tariff ∧
    s.closeInterval.gauge.sealOpen = s.gauge.sealOpen ∧ s.closeInterval.gauge.meter0 = s.gauge.meter0 ∧
    s.closeInterval.gauge.meter1 = s.gauge.meter1 := by
  cases hc : s.gauge.closing with
  | none =>
    rw [State.closeInterval_idle hc]
    exact ⟨rfl, rfl, rfl, rfl, rfl, rfl, rfl⟩
  | some c =>
    rw [State.closeInterval_gauge hc]
    obtain ⟨-, husage, -, -, -, hstart, hflags, htariff, hseal, hm0, hm1⟩ := s.gauge.closed_leaves c
    exact ⟨hstart, husage, hflags, htariff, hseal, hm0, hm1⟩

theorem State.gaugeBoundary_on {s : State} (hp : s.gauge.powered = true) (hr : s.gauge.restarting = false)
    (ht : s.now % (s.gauge.interval * 1000000000) = 0) (hs : s.gauge.start < s.now) :
    s.gaugeBoundary =
      (let v := s.closeInterval
       let closing : GaugeClosing :=
         { start := s.gauge.start, finish := s.now, usage := s.gauge.usage, flags := s.gauge.flags, tariff := s.gauge.tariff }
       let flags : GaugeFlags := { sealOpen := s.gauge.sealOpen, moduleOff := !s.mod.on, timeFree := v.gaugeFree }
       let g := { v.gauge with closing := some closing, start := s.now, usage := [], flags := flags,
                               interval := leNat (s.gaugeSetting 0x01), tariff := s.gaugeSetting 0x02,
                               old0 := s.gauge.meter0, old1 := s.gauge.meter1, meter0 := [], meter1 := [] }
       { v with gauge := g }) := by
  have hon : ¬ ((!s.gauge.powered) = true ∨ s.gauge.restarting = true ∨
      s.now % (s.gauge.interval * 1000000000) ≠ 0 ∨ s.now ≤ s.gauge.start) := by simp [hp, hr, ht, hs]
  obtain ⟨hstart, husage, hflags, htariff, hseal, hm0, hm1⟩ := s.closeInterval_open
  unfold State.gaugeBoundary
  rw [if_neg hon]
  dsimp only
  rw [hstart, husage, hflags, htariff, hseal, hm0, hm1, s.gaugeSetting_closeInterval, s.gaugeSetting_closeInterval]
  simp only [State.closeInterval_kept ..]

theorem State.gaugeClose_none {s : State} (h : s.gauge.closing = none ∨ s.gauge.powered = false) : s.gaugeClose = s := by
  unfold State.gaugeClose
  cases hc : s.gauge.closing with
  | none => rfl
  | some c => exact if_pos (.inl (by simpa [hc] using h))

theorem State.gaugeClose_early {s : State} {c : GaugeClosing} (hc : s.gauge.closing = some c)
    (ht : s.now < c.finish + 10000000) : s.gaugeClose = s := by
  unfold State.gaugeClose
  rw [hc]
  exact if_pos (.inr ht)

theorem State.gaugeClose_due {s : State} {c : GaugeClosing} (hc : s.gauge.closing = some c)
    (hp : s.gauge.powered = true) (ht : c.finish + 10000000 ≤ s.now) : s.gaugeClose = s.closeInterval := by
  unfold State.gaugeClose
  rw [hc]
  exact if_neg (by simp [hp, ht])

/-! ## The obligation -/

section
variable (s : State) (t die : Nat)

theorem exec_meterSend (h : die < 2) : exec (.meterSend t die) s = .next ((s.at t).meterSend die) :=
  if_pos (decide_eq_true h)

theorem exec_meterMissing (h : die < 2) : exec (.meterMissing t die) s = .next ((s.at t).meterMissing die) :=
  if_pos (decide_eq_true h)

end

/-- Settles O52: each operation of the gauge over its guards; a closed interval goes through `Gauge.closed`. -/
theorem gaugeIntervals : Obligations.GaugeIntervals := by
  intro s t
  refine ⟨fun h => ?_, fun h => ?_, fun h => ?_, fun die hd => ⟨fun h => ⟨?_, ?_⟩, fun hp hm hr => ⟨?_, ?_⟩⟩,
    fun hp hm => ?_, fun hp hf => ?_, fun hp hr ht hs => ?_, fun h => ?_, fun c hc hp => ⟨fun ht => ?_, fun ht => ?_⟩⟩
  · exact congrArg Host.Outcome.next ((s.at t).gaugeTime_off h)
  · exact congrArg Host.Outcome.next ((s.at t).gaugeTimeFree_off h)
  · exact congrArg Host.Outcome.next ((s.at t).gaugeBoundary_off h)
  · exact (exec_meterSend s t die hd).trans (congrArg Host.Outcome.next ((s.at t).meterSend_off h))
  · exact (exec_meterMissing s t die hd).trans (congrArg Host.Outcome.next ((s.at t).meterMissing_off h))
  · exact ⟨_, exec_meterSend s t die hd, (s.at t).meterSend_on hp hm hr⟩
  · exact ⟨_, exec_meterMissing s t die hd, (s.at t).meterMissing_on hp hm hr⟩
  · exact ⟨_, rfl, (s.at t).gaugeTime_on hp hm⟩
  · exact ⟨_, rfl, (s.at t).gaugeTimeFree_on hp hf⟩
  · have hb := (s.at t).gaugeBoundary_on hp hr ht hs
    refine ⟨_, rfl, hb, fun hc => ?_, fun hold => ?_⟩
    · rw [hb, (s.at t).closeInterval_idle hc]
      exact ⟨rfl, rfl⟩
    · rw [hb]
      exact ⟨congrArg leNat ((s.at t).gaugeSetting_unchanged hold 1), (s.at t).gaugeSetting_unchanged hold 2⟩
  · exact congrArg Host.Outcome.next ((s.at t).gaugeClose_none h)
  · exact congrArg Host.Outcome.next ((s.at t).gaugeClose_early hc ht)
  · have hclose := (s.at t).gaugeClose_due hc hp ht
    have hg := (s.at t).closeInterval_gauge hc
    obtain ⟨hnone, husage, hseq, hsend, hcarry, -⟩ := s.gauge.closed_leaves c
    refine ⟨_, congrArg Host.Outcome.next hclose, ⟨?_, ?_, ?_⟩, ?_, ?_, ?_, fun a ha => ?_, fun hon => ?_, fun hoff => ?_, ?_⟩
    · exact (congrArg Gauge.records hg).trans (Gauge.store_records ..)
    · exact (congrArg Gauge.lastSeq hg).trans hseq
    · exact (congrArg Gauge.toSend hg).trans hsend
    · exact (congrArg Gauge.closing hg).trans hnone
    · exact (congrArg Gauge.usage hg).trans husage
    · exact (congrArg Gauge.lostUnread hg).trans (Gauge.store_lostUnread ..)
    · rw [hg]
      exact (congrArg (fun m => tget (fun _ => 0) m a) hcarry).trans (s.gauge.carried_at c ha)
    · rw [State.closeInterval_waits (s := s.at t) hc, if_pos (c := (s.at t).mod.on = true) hon]
      exact State.route_raise_self (State.sourceOwner_low _ (by decide) (by decide)) true
    · rw [State.closeInterval_waits (s := s.at t) hc, if_neg (c := (s.at t).mod.on = true) (by simpa using hoff)]
      rfl
    · exact (s.at t).closeInterval_leaves

end Sys2Proof.Machine
end

section
/-! PROOFS. OP_POINT changes of coding stacks (R356 to R359, R462). -/

namespace Sys2Proof.Machine

/-! ## Lists of stacks and of PLLs -/

theorem mem_insertNat_self (x : Nat) (l : List Nat) : x ∈ insertNat x l := by
  induction l with
  | nil => exact List.mem_singleton.2 rfl
  | cons y r ih =>
    unfold insertNat
    split
    · exact List.mem_cons_self
    · split
      · next h => exact h ▸ List.mem_cons_self
      · exact List.mem_cons_of_mem _ ih

theorem notMem_removeFrom {α : Type} [DecidableEq α] (l : List α) (x : α) : x ∉ removeFrom l x := by
  simp [removeFrom]

/-- A PLL that is started locks or is locked already (R462). -/
theorem State.startPll_starts (s : State) (p : Nat) : p ∈ (s.startPll p).clk.locked ∨ p ∈ (s.startPll p).clk.starting := by
  unfold State.startPll
  split
  · next h => exact .inl h
  · exact .inr (mem_insertNat_self ..)

theorem State.stopPll_stops (s : State) (p : Nat) : p ∉ (s.stopPll p).clk.starting ∧ p ∉ (s.stopPll p).clk.locked :=
  ⟨notMem_removeFrom s.clk.starting p, notMem_removeFrom s.clk.locked p⟩

/-! ## Writes of OP_POINT -/

theorem exec_opPoint {a d : Nat} (t v : Nat) (s : State) (ha : a < 16) (hd : d < 12) :
    exec (.opPoint t a d v) s = .next ((s.at t).orderNumber a 0x30 d 0x02 1 v) :=
  (if_pos (decide_eq_true ha)).trans (by simp [named, isStack, hd])

/-- The row of OP_POINT (Table 14.6). -/
def opPointRow : Row := { m0 := 0x02, m1 := 0x02, ty := .u 1, acc := 35, legal := [(0, 1)] }

theorem entryRow_opPoint (d : Nat) : entryRow .stack d 0x02 = some opPointRow := rfl

theorem writeNumber_opPoint (s : State) (a d v : Nat) :
    s.writeNumber a 0x30 d 0x02 .stack d opPointRow v = s.writePoint d v 0x30 d ((Ty.u 1).encode v) := rfl

/-- An accepted OP_POINT is the change that `setPoint` makes, and the entry of a coding stack (R357). -/
theorem State.opPoint_accepted {s : State} {t a d v : Nat} {u : State} (hd : d < 12) (hv : v < 2)
    (h : takesAtOnce s t a) (hw : mayWrite s a 0x30 d 0x02) (hu : (s.at t).setPoint d v = (0, u)) (hnow : u.now = t) :
    accepted (if d < 8 then u.setCfg 0x30 d 0x02 ((Ty.u 1).encode v) else u) ((s.at t).orderNumber a 0x30 d 0x02 1 v) t := by
  refine row_number_inRange (s := s) (t := t) h hw (spaceOf_stack hd) (entryRow_opPoint d) (by simp) (by simp) rfl rfl
    (by omega) rfl (by omega) (by omega) (by simp [creditOf]) (by simp) ?_
  rw [writeNumber_opPoint]
  unfold State.writePoint
  rw [hu]
  subst hnow
  split <;> rfl

theorem State.opPoint_refused {s : State} {t a d : Nat} (hd : d < 8) (h : takesAtOnce s t a)
    (hw : mayWrite s a 0x30 d 0x02) (hload : slowBudget < (s.at t).dieLoad d) :
    (s.at t).orderNumber a 0x30 d 0x02 1 1 = (s.at t).say 12 [] 0 := by
  refine row_number_refused (s := s) (t := t) h hw (spaceOf_stack (by omega)) (entryRow_opPoint d) (by simp) (by simp) rfl rfl
    (by omega) rfl (by omega) (by omega) (by simp [creditOf]) (by simp) (st := 12) (by decide) ?_
  have hset : (s.at t).setPoint d 1 = (12, s.at t) := (if_neg (by omega)).trans (if_pos ⟨rfl, hload⟩)
  refine (writeNumber_opPoint (s.at t) a d 1).trans ?_
  unfold State.writePoint
  rw [hset]
  rfl

/-- The pair of stacks that OP_POINT of a pipeline die names. -/
theorem State.pairPoint_pair (s : State) {d m v : Nat} (hd : 8 ≤ d) (hm : m / 2 = d / 2) :
    (s.pairPoint d v).cfgN 0x30 m 0x02 = v % 256 ∧ (s.pairPoint d v).stack m =
      { s.stack m with target := v, opState := if (s.stack m).active = v then 0 else 3 } := by
  have hpair : m = 8 + 2 * ((d - 8) / 2) ∨ m = 8 + 2 * ((d - 8) / 2) + 1 := by omega
  unfold State.pairPoint
  generalize 8 + 2 * ((d - 8) / 2) = p at hpair
  have hkey : entryKey 0x30 p 0x02 ≠ entryKey 0x30 (p + 1) 0x02 := by unfold entryKey; omega
  have hkey' : entryKey 0x30 (p + 1) 0x02 ≠ entryKey 0x30 p 0x02 := hkey.symm
  have hcfg (u : State) (k : Nat) (f : Stack → Stack) (i : Nat) : (u.modStack k f).cfgN 0x30 i 0x02 = u.cfgN 0x30 i 0x02 := rfl
  have hstack (u : State) (i k : Nat) : (u.setCfgN 0x30 i 0x02 1 v).stack k = u.stack k := rfl
  have hself (u : State) (i : Nat) : (u.setCfgN 0x30 i 0x02 1 v).cfgN 0x30 i 0x02 = v % 256 := u.cfgN_setCfgN_self ..
  have hother (u : State) : (u.setCfgN 0x30 (p + 1) 0x02 1 v).cfgN 0x30 p 0x02 = u.cfgN 0x30 p 0x02 :=
    congrArg leNat (u.cfg_setCfg_of_ne _ hkey)
  obtain rfl | rfl := hpair
  · simp [hcfg, hself, hother, hstack]
  · simp [hcfg, hself, hstack]

theorem State.pairPoint_other (s : State) {d m : Nat} (v : Nat) (hd : 8 ≤ d) (hm : m / 2 ≠ d / 2) :
    (s.pairPoint d v).stack m = s.stack m := by
  have hstack (u : State) (i k : Nat) : (u.setCfgN 0x30 i 0x02 1 v).stack k = u.stack k := rfl
  have h0 : m ≠ 8 + 2 * ((d - 8) / 2) := by omega
  have h1 : m ≠ 8 + 2 * ((d - 8) / 2) + 1 := by omega
  simp [State.pairPoint, hstack, h0, h1]

/-! ## A write of a coding stack's point -/

section
variable {s : State} {d v : Nat}

/-- A change of a stack that waits, behind those that wait already. -/
def State.queueChange (s : State) (d : Nat) : State :=
  { s with mem := { s.mem with waiting := removeFrom s.mem.waiting d ++ [d] } }

/-- The point that is in force already cancels the change that waits (R357). -/
theorem State.setPoint_same (hd : d < 8) (hl : ¬ (v = 1 ∧ slowBudget < s.dieLoad d)) (hst : (s.stack d).opState ≠ 2)
    (hv : v = (s.stack d).active) : s.setPoint d v =
      (0, ((s.dropChange d).modStack d fun x => { x with opState := 0, target := v }).stopPll (stackPll d (1 - v))) := by
  unfold State.setPoint
  rw [if_neg (by omega), if_neg hl]
  simp [hst, ← hv]

theorem State.setPoint_waits (hd : d < 8) (hl : ¬ (v = 1 ∧ slowBudget < s.dieLoad d)) (hst : (s.stack d).opState ≠ 2)
    (hv : v ≠ (s.stack d).active) : s.setPoint d v =
      (0, ((s.queueChange d).modStack d fun x => { x with opState := 1, target := v }).startPll (stackPll d v)) := by
  unfold State.setPoint
  rw [if_neg (by omega), if_neg hl]
  simp [hst, hv]
  rfl

/-- While a change runs, a write of its point drops the one behind it, and any other waits behind it (R357). -/
theorem State.setPoint_running (hd : d < 8) (hl : ¬ (v = 1 ∧ slowBudget < s.dieLoad d)) (hst : (s.stack d).opState = 2) :
    s.setPoint d v = (0, if v = (s.stack d).target then s.dropChange d else s.queueChange d) := by
  unfold State.setPoint
  rw [if_neg (by omega), if_neg hl]
  by_cases hv : v = (s.stack d).target
  · simp [hst, hv]
  · simp [hst, hv]
    rfl

end

/-! ## PLLs and the change that runs -/

section
variable {s : State} {d : Nat}

theorem State.pllLocked_idle {p : Nat} (h : s.clk.refReady = false ∨ p ∉ s.clk.starting) : s.pllLocked p = s :=
  if_pos (by simpa using h)

theorem State.pllLocked_locks {p : Nat} (hr : s.clk.refReady = true) (hp : p ∈ s.clk.starting) :
    s.pllLocked p = { s with clk := { s.clk with starting := removeFrom s.clk.starting p, locked := insertNat p s.clk.locked } } :=
  if_neg (by simp [hr, hp])

theorem State.opStart_idle (h : (s.stack d).opState ≠ 1 ∨ stackPll d (s.stack d).target ∉ s.clk.locked ∨
    s.twinsWhole d = false ∨ (∃ m, m < 8 ∧ (s.stack m).opState = 2) ∨
    s.mem.waiting.find? (fun m => decide ((s.stack m).st = 1)) ≠ some d) : s.opStart d = s := by
  refine if_pos ?_
  have hbusy : (List.range 8).any (fun m => decide ((s.stack m).opState = 2)) = true ↔
      ∃ m, m < 8 ∧ (s.stack m).opState = 2 := by simp
  rw [hbusy]
  have htwins : (!s.twinsWhole d) = true ↔ s.twinsWhole d = false := by simp
  rw [htwins]
  obtain h | h | h | h | h := h
  · exact .inr (.inr (.inl h))
  · exact .inr (.inr (.inr (.inl h)))
  · exact .inr (.inr (.inr (.inr h)))
  · exact .inr (.inl h)
  · exact .inl h

/-- The stack's change begins, and ends its acceptance of requests 10 µs later. -/
def State.opBegun (s : State) (d : Nat) : State :=
  (s.dropChange d).modStack d fun x => { x with opState := 2, u := s.now + 10000 }

theorem State.opStart_begins (hst : (s.stack d).opState = 1) (hp : stackPll d (s.stack d).target ∈ s.clk.locked)
    (hw : s.twinsWhole d = true) (hfront : s.mem.waiting.find? (fun m => decide ((s.stack m).st = 1)) = some d)
    (hidle : ∀ m, m < 8 → (s.stack m).opState ≠ 2) : s.opStart d = (s.opBegun d).excuseStack d := by
  refine if_neg ?_
  have hbusy : ¬ (List.range 8).any (fun m => decide ((s.stack m).opState = 2)) = true := by
    simpa using hidle
  have htwins : ¬ (!s.twinsWhole d) = true := by simp [hw]
  tauto

/-- Excuses move no bed (R248). -/
theorem State.beds_excuseStack (s : State) (d : Nat) : (s.excuseStack d).str.beds = s.str.beds := by
  unfold State.excuseStack
  refine foldl_keeps (fun u : State => u.str.beds) _ _ (fun u e _ => ?_) s
  unfold State.excuseOn
  split
  · rfl
  · split
    · exact congrArg Prod.fst (u.soilView_setExcused e.1 _)
    · rfl

end

/-! ## The instant U: soil tests on the die are aborted (R398) -/

section
variable {s : State} {n k : Nat}

theorem Bed.passPart_of_uncounted {x y : Bed} (h : x.uncounted = y.uncounted) : x.passPart = y.passPart := by
  have hpart := congrArg Bed.passPart h
  exact hpart

theorem State.passView_tick (s : State) (n k : Nat) : (s.tick n).passView k = s.passView k := by
  have hbed := Bed.passPart_of_uncounted (s.uncounted_tick n k)
  have htests : (s.tick n).str.soilTests = s.str.soilTests := by
    have h := (Ticked.tick s n).frame
    generalize s.tick n = w at h
    rw [h]
  exact congrArg₂ Prod.mk hbed htests

theorem State.passView_pulse (s : State) (n ev k : Nat) : (s.pulse n ev).passView k = s.passView k := by
  unfold State.pulse
  split
  · rfl
  · refine foldl_keeps (fun u : State => u.passView k) _ _ (fun u i _ => ?_) s
    dsimp only
    split
    · exact u.passView_modBed n k fun x => Bed.passPart_of_uncounted (x.uncounted_add i 1 _ _)
    · rfl

theorem State.bed_pulse_other (s : State) (ev : Nat) (h : k ≠ n) : (s.pulse n ev).bed k = s.bed k := by
  unfold State.pulse
  split
  · rfl
  · refine foldl_keeps (fun u : State => u.bed k) _ _ (fun u i _ => ?_) s
    dsimp only
    split
    · rw [State.bed_modBed, if_neg h]
    · rfl

theorem State.passView_trapRequest (s : State) (n k : Nat) (p : BitVec 80) : (s.trapRequest n p).passView k = s.passView k := by
  unfold State.trapRequest State.takeTrap
  dsimp only
  split
  · rfl
  · split
    · exact (State.passView_tick ..).trans (s.passView_modBed n k fun _ => rfl)
    · exact (State.passView_tick ..).trans ((State.passView_pulse ..).trans (s.passView_modBed n k fun _ => rfl))

theorem State.bed_trapRequest_other (s : State) (p : BitVec 80) (h : k ≠ n) : (s.trapRequest n p).bed k = s.bed k := by
  unfold State.trapRequest State.takeTrap
  dsimp only
  split
  · rfl
  · split
    · rw [State.bed_tick_other _ h, State.bed_modBed, if_neg h]
    · rw [State.bed_tick_other _ h, State.bed_pulse_other _ _ h, State.bed_modBed, if_neg h]

theorem State.bed_freshPatch_other (s : State) (h : k ≠ n) : (s.freshPatch n).bed k = s.bed k := by
  unfold State.freshPatch State.switchBank
  dsimp only
  rw [State.bed_patchSettled]
  split
  · rw [State.bed_modBed, if_neg h]
  · rw [State.bed_raise, State.bed_modBed, if_neg h, State.bed_modBed, if_neg h]

theorem State.bed_soilIdle_other (s : State) (h : k ≠ n) : (s.soilIdle n).bed k = s.bed k := by
  unfold State.soilIdle State.clearBed
  rw [State.bed_freshPatch_other _ h, State.bed_setBed_other _ _ h, State.bed_modBed, if_neg h, State.bed_modBed, if_neg h]

/-- A bed after an abort: its test, if there was one, is over and not passed (R398). -/
def Bed.abortedAs (x y : Bed) : Prop :=
  (x.st = .soilTest → y.untested = true ∧ y.soilResult = 3) ∧ (x.st ≠ .soilTest → y = x)

theorem State.soilAbort_self (s : State) (n : Nat) : (s.bed n).abortedAs ((s.soilAbort n).bed n) := by
  unfold State.soilAbort State.soilTrap
  dsimp only
  by_cases hst : (s.bed n).st = .soilTest
  · rw [if_neg (not_not.2 hst)]
    refine ⟨fun _ => ?_, fun h => absurd hst h⟩
    have hmod : (((s.countSoil 3).modBed n fun x => { x with untested := true, soilResult := 3 }).passView n).1 =
        (((s.bed n).st, true, (s.bed n).owed, (s.bed n).lastPass, 3, (s.bed n).soilFails)) := by
      unfold State.passView
      rw [State.bed_modBed, if_pos rfl]
      rfl
    generalize (s.countSoil 3).modBed n _ = w at hmod ⊢
    have hidle : ((w.soilIdle n).passView n).1.2 = (true, (s.bed n).owed, (s.bed n).lastPass, 3, (s.bed n).soilFails) := by
      rw [w.passView_soilIdle n, hmod]
    have hend : ((if (s.bed n).trapHeld then (w.soilIdle n).trapRequest n 0 else w.soilIdle n).passView n).1.2 =
        (true, (s.bed n).owed, (s.bed n).lastPass, 3, (s.bed n).soilFails) := by
      split
      · rw [State.passView_trapRequest, hidle]
      · exact hidle
    generalize (if (s.bed n).trapHeld then (w.soilIdle n).trapRequest n 0 else w.soilIdle n) = u at hend
    exact ⟨congrArg (fun p => p.1) hend, congrArg (fun p => p.2.2.2.1) hend⟩
  · rw [if_pos hst]
    exact ⟨fun h => absurd h hst, fun _ => rfl⟩

theorem State.soilAbort_other (s : State) (h : k ≠ n) : (s.soilAbort n).bed k = s.bed k := by
  unfold State.soilAbort State.soilTrap
  dsimp only
  split
  · rfl
  · have hidle : (((s.countSoil 3).modBed n fun x => { x with untested := true, soilResult := 3 }).soilIdle n).bed k =
        s.bed k := by
      rw [State.bed_soilIdle_other _ h, State.bed_modBed, if_neg h]
      rfl
    split
    · rw [State.bed_trapRequest_other _ _ h, hidle]
    · exact hidle

/-- Aborts of several beds, each once. -/
theorem State.soilAborts_aborts (l : List Nat) (hl : l.Nodup) (s : State) {b : Nat} (hb : b ∈ l) :
    (s.bed b).abortedAs ((l.foldl State.soilAbort s).bed b) := by
  induction l generalizing s with
  | nil => simp at hb
  | cons x r ih =>
    obtain ⟨hx, hr⟩ := List.nodup_cons.1 hl
    by_cases hbx : b = x
    · subst hbx
      have hrest : (r.foldl State.soilAbort (s.soilAbort b)).bed b = (s.soilAbort b).bed b :=
        foldl_keeps (fun u : State => u.bed b) _ _ (fun u y hy => u.soilAbort_other fun h => hx (h ▸ hy)) _
      rw [List.foldl_cons, hrest]
      exact s.soilAbort_self b
    · have h := ih hr (s.soilAbort x) ((List.mem_cons.1 hb).resolve_left hbx)
      rw [s.soilAbort_other hbx] at h
      exact h

end

/-- The beds of a coding die. -/
def dieBeds (d : Nat) : List Nat := (List.range 36).map fun j => 36 * d + j

theorem mem_dieBeds {b d : Nat} : b ∈ dieBeds d ↔ bedDie b = d := by
  unfold dieBeds bedDie
  simp only [List.mem_map, List.mem_range]
  exact ⟨fun ⟨j, hj, he⟩ => by omega, fun h => ⟨b % 36, by omega, by omega⟩⟩

theorem dieBeds_nodup (d : Nat) : (dieBeds d).Nodup :=
  List.nodup_range.map fun _ _ h => Nat.add_left_cancel h

section
variable {s : State} {d : Nat}

/-- The stack stops to accept requests. -/
def State.opHeld (s : State) (d : Nat) : State := s.modStack d fun x => { x with holding := true, st := 2 }

theorem State.opHold_idle (h : (s.stack d).opState ≠ 2 ∨ (s.stack d).holding = true ∨ s.now < (s.stack d).u) :
    s.opHold d = s := if_pos h

theorem State.opHold_holds (hst : (s.stack d).opState = 2) (hh : (s.stack d).holding = false) (hu : (s.stack d).u ≤ s.now) :
    s.opHold d = (dieBeds d).foldl State.soilAbort (s.opHeld d) := by
  unfold dieBeds
  rw [List.foldl_map]
  exact if_neg (by simp [hst, hh, hu])

theorem State.mem_soilAbort (s : State) (b : Nat) : (s.soilAbort b).mem = s.mem := by
  simp only [State.soilAbort_kept ..]

theorem State.stack_soilAborts (s : State) (l : List Nat) (k : Nat) : (l.foldl State.soilAbort s).stack k = s.stack k :=
  foldl_keeps (fun u : State => u.stack k) _ _
    (fun u b _ => by unfold State.stack; rw [State.mem_soilAbort]) s

/-! ## The end of a change -/

theorem State.opDone_idle (h : (s.stack d).opState ≠ 2 ∨ (s.stack d).holding = false ∨ (s.stack d).u + 28000 < s.now) :
    s.opDone d = s := if_pos (by simpa using h)

/-- The stack serves requests at its new point. -/
def State.opServed (s : State) (d : Nat) : State := s.modStack d fun x =>
  { x with active := x.target, opAt := s.now, st := 1, holding := false, opState := b2n (decide (d ∈ s.mem.waiting)),
           target := if d ∈ s.mem.waiting then 1 - x.target else x.target }

theorem State.opServed_again (s : State) {d : Nat} (h : d ∈ s.mem.waiting) : (s.opServed d).stack d =
    { s.stack d with active := (s.stack d).target, target := 1 - (s.stack d).target, opAt := s.now, st := 1,
                     holding := false, opState := 1 } := by
  simp [State.opServed, h, b2n]

theorem State.opServed_last (s : State) {d : Nat} (h : d ∉ s.mem.waiting) : (s.opServed d).stack d =
    { s.stack d with active := (s.stack d).target, opAt := s.now, st := 1, holding := false, opState := 0 } := by
  simp [State.opServed, h, b2n]

/-- A started PLL changes no stack. -/
theorem State.stack_startPll (s : State) (p k : Nat) : (s.startPll p).stack k = s.stack k := by
  unfold State.stack
  simp only [State.startPll_kept ..]

theorem State.opDone_done (hst : (s.stack d).opState = 2) (hh : (s.stack d).holding = true)
    (hu : s.now ≤ (s.stack d).u + 28000) : s.opDone d =
      if d ∈ s.mem.waiting then (s.opServed d).startPll (stackPll d (1 - (s.stack d).target))
      else (s.opServed d).stopPll (stackPll d (1 - (s.stack d).target)) := by
  unfold State.opDone State.opServed
  rw [if_neg (by simp [hst, hh, hu])]
  by_cases hw : d ∈ s.mem.waiting
  · simp [hw]
  · simp [hw]

theorem State.opTimeout_idle (h : (s.stack d).opState ≠ 2 ∨ (s.stack d).holding = false ∨ s.now < (s.stack d).u + 28000) :
    s.opTimeout d = s := if_pos (by simpa using h)

theorem State.opTimeout_prunes (hst : (s.stack d).opState = 2) (hh : (s.stack d).holding = true)
    (hu : (s.stack d).u + 28000 ≤ s.now) : s.opTimeout d =
      ((s.modStack d (fun x => { x with opState := 0 })).raiseFault (0xC00 + 16 * d + 3)).pruneStack d :=
  if_neg (by simp [hst, hh, hu])

end

/-! ## The obligation -/

section
variable (s : State) (t : Nat) {d : Nat}

theorem exec_pllLock {p : Nat} (h : p < 51) : exec (.pllLock t p) s = .next ((s.at t).pllLocked p) :=
  if_pos (decide_eq_true h)
theorem exec_opChangeStart (h : d < 12) : exec (.opChangeStart t d) s = .next ((s.at t).opStart d) :=
  if_pos (decide_eq_true h)
theorem exec_stackHold (h : d < 12) : exec (.stackHold t d) s = .next ((s.at t).opHold d) :=
  if_pos (decide_eq_true h)
theorem exec_opChangeDone (h : d < 12) : exec (.opChangeDone t d) s = .next ((s.at t).opDone d) :=
  if_pos (decide_eq_true h)
theorem exec_opChangeTimeout (h : d < 12) : exec (.opChangeTimeout t d) s = .next ((s.at t).opTimeout d) :=
  if_pos (decide_eq_true h)

end

/-- OP_POINT of a pipeline die's stack is of both stacks of the pair (R359). -/
theorem opPoint_pair {s : State} {t d a v : Nat} (hd : 8 ≤ d) (hd12 : d < 12) (ha : a < 16) (hv : v < 2)
    (h : takesAtOnce s t a) (hw : mayWrite s a 0x30 d 0x02) :
    ∃ u, exec (.opPoint t a d v) s = .next u ∧ u.answer = { status := 0, effectAt := t, data := [] } ∧
      (∀ m, m / 2 = d / 2 → u.cfgN 0x30 m 0x02 = v ∧ u.stack m =
        { s.stack m with target := v, opState := if (s.stack m).active = v then 0 else 3 }) ∧
      (∀ m, m / 2 ≠ d / 2 → u.stack m = s.stack m) ∧ u.mem.exchange = s.mem.exchange ∧ u.str = s.str ∧ u.clk = s.clk := by
  have hset : (s.at t).setPoint d v = (0, (s.at t).pairPoint d v) := if_pos hd
  have hk := (s.at t).pairPoint_kept d v
  have hacc := State.opPoint_accepted hd12 hv h hw hset (by simp only [hk]; rfl)
  rw [if_neg (by omega)] at hacc
  have hmem : ((s.at t).orderNumber a 0x30 d 0x02 1 v).mem = ((s.at t).pairPoint d v).mem := by
    simp only [accepted_kept hacc]
  have hstack (k : Nat) : ((s.at t).orderNumber a 0x30 d 0x02 1 v).stack k = ((s.at t).pairPoint d v).stack k := by
    unfold State.stack; rw [hmem]
  refine ⟨_, exec_opPoint t v s ha hd12, accepted_answer hacc, fun m hm => ?_, fun m hm => ?_, ?_, ?_, ?_⟩
  · obtain ⟨hcfg, hst⟩ := (s.at t).pairPoint_pair (v := v) hd hm
    exact ⟨(accepted_cfgN hacc ..).trans (hcfg.trans (Nat.mod_eq_of_lt (by omega))), (hstack m).trans hst⟩
  · exact (hstack m).trans ((s.at t).pairPoint_other v hd hm)
  · rw [hmem]; simp only [hk]; rfl
  · simp only [accepted_kept hacc, hk]; rfl
  · simp only [accepted_kept hacc, hk]; rfl

/-- OP_POINT of a coding stack: cancelled, waiting, or behind the change that runs (R356, R357). -/
theorem opPoint_coding {s : State} {t d a v : Nat} (hd : d < 8) (ha : a < 16) (hv : v < 2)
    (h : takesAtOnce s t a) (hw : mayWrite s a 0x30 d 0x02) (hl : v = 0 ∨ s.dieLoad d ≤ slowBudget) :
    let x := s.stack d
    ∃ u, exec (.opPoint t a d v) s = .next u ∧ u.answer = { status := 0, effectAt := t, data := [] } ∧
      u.cfgN 0x30 d 0x02 = v ∧ (∀ k, k ≠ d → u.stack k = s.stack k) ∧ u.str = s.str ∧
      (x.opState ≠ 2 → v = x.active → u.stack d = { x with opState := 0, target := v } ∧
        u.mem.waiting = removeFrom s.mem.waiting d ∧ 11 + 2 * d + (1 - v) ∉ u.clk.starting ∧
        11 + 2 * d + (1 - v) ∉ u.clk.locked) ∧
      (x.opState ≠ 2 → v ≠ x.active → u.stack d = { x with opState := 1, target := v } ∧
        u.mem.waiting = removeFrom s.mem.waiting d ++ [d] ∧
        (11 + 2 * d + v ∈ u.clk.starting ∨ 11 + 2 * d + v ∈ u.clk.locked)) ∧
      (x.opState = 2 → u.stack d = x ∧ u.clk = s.clk ∧
        u.mem.waiting = (if v = x.target then removeFrom s.mem.waiting d else removeFrom s.mem.waiting d ++ [d])) := by
  intro x
  have hload : ¬ (v = 1 ∧ slowBudget < (s.at t).dieLoad d) := by
    rintro ⟨rfl, hlt⟩
    exact absurd hlt (Nat.not_lt.2 (hl.resolve_left (by decide)))
  have hdone (u : State) (hset : (s.at t).setPoint d v = (0, u)) :
      ((s.at t).orderNumber a 0x30 d 0x02 1 v).answer = { status := 0, effectAt := t, data := [] } ∧
      ((s.at t).orderNumber a 0x30 d 0x02 1 v).cfgN 0x30 d 0x02 = v ∧
      ((s.at t).orderNumber a 0x30 d 0x02 1 v).mem = u.mem ∧ ((s.at t).orderNumber a 0x30 d 0x02 1 v).clk = u.clk ∧
      ((s.at t).orderNumber a 0x30 d 0x02 1 v).str = s.str := by
    have hnow := congrArg (fun p : Nat × State => p.2.now) hset
    have hstr := congrArg (fun p : Nat × State => p.2.str) hset
    simp only [State.setPoint_kept ..] at hnow hstr
    have hacc := State.opPoint_accepted (Nat.lt_trans hd (by decide)) hv h hw hset hnow.symm
    rw [if_pos hd] at hacc
    refine ⟨accepted_answer hacc, (accepted_cfgN hacc ..).trans ?_, ?_, ?_, ?_⟩
    · rw [Ty.encode_u (by omega)]
      exact (u.cfgN_setCfgN_self 0x30 d 0x02 1 v).trans (Nat.mod_eq_of_lt (by omega))
    · simp only [accepted_kept hacc, State.setCfg_kept ..]
    · simp only [accepted_kept hacc, State.setCfg_kept ..]
    · simp only [accepted_kept hacc, State.setCfg_kept ..]; exact hstr.symm
  have hstack {u : State} (hm : ((s.at t).orderNumber a 0x30 d 0x02 1 v).mem = u.mem) (k : Nat) :
      ((s.at t).orderNumber a 0x30 d 0x02 1 v).stack k = u.stack k := by
    unfold State.stack; rw [hm]
  refine ⟨_, exec_opPoint t v s ha (by omega), ?_⟩
  by_cases hrun : x.opState = 2
  case pos =>
    obtain ⟨hans, hcfg, hmem, hclk, hstr⟩ := hdone _ (State.setPoint_running (s := s.at t) hd hload hrun)
    have hall (k : Nat) : ((s.at t).orderNumber a 0x30 d 0x02 1 v).stack k = s.stack k := by
      rw [hstack hmem]; split <;> rfl
    refine ⟨hans, hcfg, fun k _ => hall k, hstr, fun hne => absurd hrun hne, fun hne => absurd hrun hne,
      fun _ => ⟨hall d, ?_, ?_⟩⟩
    · rw [hclk]; split <;> rfl
    · rw [hmem]
      by_cases hvt : v = x.target
      · rw [if_pos hvt]; exact congrArg (fun u : State => u.mem.waiting) (if_pos hvt)
      · rw [if_neg hvt]; exact congrArg (fun u : State => u.mem.waiting) (if_neg hvt)
  case neg =>
    by_cases hva : v = x.active
    case pos =>
      obtain ⟨hans, hcfg, hmem, hclk, hstr⟩ := hdone _ (State.setPoint_same (s := s.at t) hd hload hrun hva)
      obtain ⟨hself, hother, -, -⟩ := ((s.at t).dropChange d).modStack_alone d fun x => { x with opState := 0, target := v }
      obtain ⟨hstart, hlock⟩ := (((s.at t).dropChange d).modStack d fun x =>
        { x with opState := 0, target := v }).stopPll_stops (stackPll d (1 - v))
      refine ⟨hans, hcfg, fun k hk => (hstack hmem k).trans (hother k hk), hstr, fun _ _ => ⟨(hstack hmem d).trans hself, ?_, ?_, ?_⟩,
        fun _ hne => absurd hva hne, fun hr => absurd hr hrun⟩
      · rw [hmem]; rfl
      · rw [hclk]; exact hstart
      · rw [hclk]; exact hlock
    case neg =>
      obtain ⟨hans, hcfg, hmem, hclk, hstr⟩ := hdone _ (State.setPoint_waits (s := s.at t) hd hload hrun hva)
      obtain ⟨hself, hother, -, -⟩ := ((s.at t).queueChange d).modStack_alone d fun x => { x with opState := 1, target := v }
      have hpll := (((s.at t).queueChange d).modStack d fun x =>
        { x with opState := 1, target := v }).startPll_starts (stackPll d v)
      rw [(State.startPll_kept ..).2.2.2.2.2.2.2.2.2.2.2.2.2.2.2.1] at hmem
      refine ⟨hans, hcfg, fun k hk => (hstack hmem k).trans (hother k hk), hstr, fun _ he => absurd he hva,
        fun _ _ => ⟨(hstack hmem d).trans hself, ?_, ?_⟩, fun hr => absurd hr hrun⟩
      · rw [hmem]; rfl
      · rw [hclk]; exact hpll.symm

/-- Settles O42: the write through the three cases of `setPoint`, then the change that runs, step by step. -/
theorem operatingPoints : Obligations.OperatingPoints := by
  refine ⟨fun s t d a v hd hd12 ha hv h hw => opPoint_pair hd hd12 ha hv h hw, fun s t p hp => ⟨fun h => ?_, fun hr hs => ?_⟩,
    fun s t d hd => ⟨fun a v ha hv h hw hl => opPoint_coding hd ha hv h hw hl, fun a ha h hw hl => ?_, fun h => ?_,
      fun hst hp hw hfront hidle => ?_, fun h => ?_, fun hst hh hu => ?_, fun h => ?_, fun hst hh hu => ?_, fun h => ?_,
      fun hst hh hu => ?_⟩⟩
  · exact (exec_pllLock s t hp).trans (congrArg _ (State.pllLocked_idle (s := s.at t) h))
  · exact ⟨_, (exec_pllLock s t hp).trans (congrArg _ (State.pllLocked_locks (s := s.at t) hr hs)), rfl, rfl, rfl⟩
  · exact (exec_opPoint t 1 s ha (by omega)).trans (congrArg _ (State.opPoint_refused hd h hw hl))
  · exact (exec_opChangeStart s t (by omega)).trans (congrArg _ (State.opStart_idle (s := s.at t) h))
  · have hstart := State.opStart_begins (s := s.at t) hst hp hw hfront hidle
    obtain ⟨hself, hother, -, -⟩ := ((s.at t).dropChange d).modStack_alone d fun x => { x with opState := 2, u := t + 10000 }
    refine ⟨(s.at t).opBegun d, (exec_opChangeStart s t (by omega)).trans (congrArg _ hstart), hself, rfl, hother, rfl,
      fun k => ?_, ((s.at t).opBegun d).beds_excuseStack d⟩
    unfold State.stack
    simp only [State.excuseStack_kept ..]
  · exact (exec_stackHold s t (by omega)).trans (congrArg _ (State.opHold_idle (s := s.at t) h))
  · have hhold := State.opHold_holds (s := s.at t) hst hh hu
    obtain ⟨hself, hother, -, -⟩ := (s.at t).modStack_alone d fun x => { x with holding := true, st := 2 }
    refine ⟨_, (exec_stackHold s t (by omega)).trans (congrArg _ hhold), ?_, fun k hk => ?_, fun b hb _ hsoil => ?_,
      fun b hb => ?_⟩
    · rw [State.stack_soilAborts]; exact hself
    · rw [State.stack_soilAborts]; exact hother k hk
    · exact (State.soilAborts_aborts (dieBeds d) (dieBeds_nodup d) ((s.at t).opHeld d) (mem_dieBeds.2 hb)).1 hsoil
    · by_cases hdie : bedDie b = d
      · exact (State.soilAborts_aborts (dieBeds d) (dieBeds_nodup d) ((s.at t).opHeld d) (mem_dieBeds.2 hdie)).2
          (hb.resolve_left (not_not.2 hdie))
      · exact foldl_keeps (fun u : State => u.bed b) _ _
          (fun u y hy => u.soilAbort_other fun he => hdie (he ▸ mem_dieBeds.1 hy)) _
  · exact (exec_opChangeDone s t (by omega)).trans (congrArg _ (State.opDone_idle (s := s.at t) h))
  · have hdone := State.opDone_done (s := s.at t) hst hh hu
    obtain ⟨-, hother, -, hex⟩ := (s.at t).modStack_alone d fun x =>
      { x with active := x.target, opAt := t, st := 1, holding := false, opState := b2n (decide (d ∈ s.mem.waiting)),
               target := if d ∈ s.mem.waiting then 1 - x.target else x.target }
    refine ⟨_, (exec_opChangeDone s t (by omega)).trans (congrArg _ hdone), ?_⟩
    by_cases hw : d ∈ s.mem.waiting
    · rw [if_pos (c := d ∈ (s.at t).mem.waiting) hw]
      refine ⟨fun hn => absurd hw hn, fun _ => ⟨?_, State.startPll_starts ..⟩, ?_, fun k hk => ?_, ?_, ?_⟩
      · exact (State.stack_startPll ..).trans ((s.at t).opServed_again hw)
      · simp only [State.startPll_kept ..]; rfl
      · exact (State.stack_startPll ..).trans (hother k hk)
      · exact State.parts.2 (by simp [State.startPll_kept .., State.opServed])
      · simp only [State.startPll_kept ..]; exact hex
    · rw [if_neg (c := d ∈ (s.at t).mem.waiting) hw]
      obtain ⟨hstart, hlock⟩ := ((s.at t).opServed d).stopPll_stops (stackPll d (1 - (s.stack d).target))
      exact ⟨fun _ => ⟨(s.at t).opServed_last hw, hlock, hstart⟩, fun hn => absurd hn hw, rfl, hother, rfl, hex⟩
  · exact (exec_opChangeTimeout s t (by omega)).trans (congrArg _ (State.opTimeout_idle (s := s.at t) h))
  · exact (exec_opChangeTimeout s t (by omega)).trans (congrArg _ (State.opTimeout_prunes (s := s.at t) hst hh hu))

end Sys2Proof.Machine
end

section
/-! PROOFS. DMA channels: start, disable, data and failures (R361 to R367). -/

namespace Sys2Proof.Machine

/-! ## Channels and exchange areas -/

section
variable (s : State) (a c : Nat)

/-- A change of one channel. -/
theorem State.modDma_alone (f : Dma → Dma) : (s.modDma c f).dmaCh c = f (s.dmaCh c) ∧
    (∀ k, k ≠ c → (s.modDma c f).dmaCh k = s.dmaCh k) ∧ s.modDma c f = { s with mem := (s.modDma c f).mem } ∧
    (s.modDma c f).mem.exchange = s.mem.exchange := by
  refine ⟨?_, fun k hk => ?_, rfl, rfl⟩
  · rw [State.dmaCh_modDma, if_pos rfl]
  · rw [State.dmaCh_modDma, if_neg hk]

/-- The exchange area in force is the one that is asked for (R369). -/
def State.Settled : Prop := (s.cfgN 0x31 a 0x02, s.cfgN 0x31 a 0x03) = ((s.area a).1, (s.area a).2.1)

/-- The channels of an allotment, one of which runs. -/
def State.dmaRuns : Bool := (List.range 64).any (fun c => decide ((s.dmaCh (64 * a + c)).st = 1))

/-- The areas after a change of one takes effect. -/
def State.areaSettled : State := { s.refresh with
  mem := { s.mem with
    areas := tput (fun _ => (64, 0, 0)) s.mem.areas a (s.cfgN 0x31 a 0x02, s.cfgN 0x31 a 0x03, s.fresh + 1)
    exchange := s.mem.exchange.filter (fun c => !decide (c.1 / 2147483648 = a)) } }

theorem State.settleArea_settled {s : State} {a : Nat} (h : s.Settled a) : s.settleArea a = s := if_pos (.inr h)

theorem State.settleArea_moves {s : State} {a : Nat} (h : ¬ s.Settled a) (hr : s.dmaRuns a = false) :
    s.settleArea a = s.areaSettled a :=
  if_neg (not_or.2 ⟨fun hruns => Bool.false_ne_true (hr.symm.trans hruns), h⟩)

theorem State.settleArea_runs {s : State} {a : Nat} (h : s.dmaRuns a = true) : s.settleArea a = s := if_pos (.inl h)

/-- What the settling of an area leaves. -/
theorem State.settleArea_leaves (k : Nat) : (s.settleArea a).dmaCh k = s.dmaCh k ∧
    s.settleArea a = { s with fresh := (s.settleArea a).fresh, mem := (s.settleArea a).mem } := by
  by_cases h : s.Settled a
  · rw [State.settleArea_settled h]
    exact ⟨rfl, rfl⟩
  · cases hr : s.dmaRuns a with
    | true =>
      rw [State.settleArea_runs hr]
      exact ⟨rfl, rfl⟩
    | false =>
      rw [State.settleArea_moves h hr]
      exact ⟨rfl, rfl⟩

/-- A byte of all the exchange areas, by its address among them. -/
def State.areaByte (k : Nat) : Byte := tget s.mem.unlisted s.mem.exchange k

theorem State.exchangeByte_eq (off : Nat) : s.exchangeByte a off = s.areaByte (a * 2147483648 + off) := rfl

theorem State.areaByte_of_mem {s u : State} (hx : u.mem.exchange = s.mem.exchange) (ha : u.mem.areas = s.mem.areas) (k : Nat) :
    u.areaByte k = s.areaByte k := by
  have hun : u.mem.unlisted = s.mem.unlisted := by
    funext j
    unfold Memory.unlisted
    rw [ha]
  unfold State.areaByte
  rw [hx, hun]

theorem State.areaByte_setExchange (off : Nat) (b : Byte) (k : Nat) :
    (s.setExchange a off b).areaByte k = if k = a * 2147483648 + off then b else s.areaByte k :=
  tget_tput s.mem.unlisted s.mem.exchange ..

/-- A write of bytes changes the exchange memory alone. -/
theorem State.putExchange_frame (off : Nat) (l : List Byte) : s.putExchange a off l =
    { s with mem := { s.mem with exchange := (s.putExchange a off l).mem.exchange } } := by
  induction l generalizing s off with
  | nil => rfl
  | cons b r ih => exact ih (s.setExchange a off b) (off + 1)

/-- What the exchange areas hold after a write of bytes at an address (R361). -/
theorem State.areaByte_putAt {p : Nat} (off : Nat) (hp : p = a * 2147483648 + off) (l : List Byte) (k : Nat) :
    (s.putExchange a off l).areaByte k = if p ≤ k ∧ k < p + l.length then l.getD (k - p) 0 else s.areaByte k := by
  induction l generalizing s off p with
  | nil => exact (if_neg (by simp)).symm
  | cons b r ih =>
    have hrest := ih (s.setExchange a off b) (off + 1) (p := p + 1) (by rw [hp, Nat.add_assoc])
    rw [State.areaByte_setExchange, ← hp] at hrest
    refine hrest.trans ?_
    rw [List.length_cons]
    by_cases hin : p + 1 ≤ k ∧ k < p + 1 + r.length
    · have hk : k - p = k - (p + 1) + 1 := by omega
      rw [if_pos hin, if_pos (by omega), hk, List.getD_cons_succ]
    · rw [if_neg hin]
      by_cases hk : k = p
      · rw [if_pos hk, if_pos (by omega), hk, Nat.sub_self, List.getD_cons_zero]
      · rw [if_neg hk, if_neg (by omega)]

theorem State.areaByte_putExchange (off : Nat) (l : List Byte) (k : Nat) : (s.putExchange a off l).areaByte k =
    if a * 2147483648 + off ≤ k ∧ k < a * 2147483648 + off + l.length then l.getD (k - (a * 2147483648 + off)) 0
    else s.areaByte k := s.areaByte_putAt a off rfl l k

theorem State.dmaCh_putExchange (off : Nat) (l : List Byte) (k : Nat) : (s.putExchange a off l).dmaCh k = s.dmaCh k := by
  rw [State.putExchange_frame]
  rfl

theorem State.area_putExchange (b off : Nat) (l : List Byte) : (s.putExchange a off l).area b = s.area b := by
  rw [State.putExchange_frame]
  rfl

theorem State.cfgN_putExchange (off : Nat) (l : List Byte) (f i m : Nat) :
    (s.putExchange a off l).cfgN f i m = s.cfgN f i m := by
  rw [State.putExchange_frame]
  rfl

/-- A state with the same areas and settings has settled areas alike. -/
theorem State.Settled.of_same {s u : State} {a : Nat} (h : s.Settled a) (hc : ∀ m, u.cfgN 0x31 a m = s.cfgN 0x31 a m)
    (ha : u.area a = s.area a) : u.Settled a := by
  unfold State.Settled
  rw [hc, hc, ha]
  exact h

end

/-! ## DONE and a halt -/

section
variable (s : State) (c : Nat)

/-- The channel enters DONE. -/
def State.dmaEnded : State := s.modDma c fun d => { d with st := 2, doneCount := (d.doneCount + 1) % 4294967296 }

/-- The channel halts. -/
def State.dmaHalted (offset cause : Nat) (write : Bool) : State := s.modDma c fun d =>
  { d with st := 3, cause := cause, direction := write, retriesUsed := d.tried, early := [],
           faultAddr := ((if write then d.dest else d.source) + offset) % 2 ^ 64,
           remaining := BitVec.ofNat 32 (d.count - d.written) }

theorem State.dmaCh_dmaDone (k : Nat) : (s.dmaDone c).dmaCh k = (s.dmaEnded c).dmaCh k := by
  unfold State.dmaDone
  dsimp only
  split
  · exact (State.dmaCh_raise ..).trans (State.settleArea_leaves ..).1
  · exact (State.settleArea_leaves ..).1

variable {s c}

theorem State.dmaDone_settled (h : s.Settled (c / 64)) : (s.dmaDone c).mem = (s.dmaEnded c).mem ∧
    s.dmaDone c = { s with mem := (s.dmaDone c).mem, allots := (s.dmaDone c).allots, irq := (s.dmaDone c).irq,
                           emits := (s.dmaDone c).emits } := by
  have hset : (s.dmaEnded c).settleArea (c / 64) = s.dmaEnded c := State.settleArea_settled h
  have hdone : s.dmaDone c = if (s.dmaCh c).irqDone then (s.dmaEnded c).raise (dmaIrq c) else s.dmaEnded c := by
    unfold State.dmaDone
    exact congrArg (fun u : State => if (s.dmaCh c).irqDone then u.raise (dmaIrq c) else u) hset
  rw [hdone]
  split
  · exact ⟨by simp only [State.raise_kept ..], State.parts.2 (by simp [State.raise_kept .., State.dmaEnded])⟩
  · exact ⟨rfl, rfl⟩

theorem State.dmaHalt_settled {offset cause : Nat} {write : Bool} (h : s.Settled (c / 64)) :
    (s.dmaHalt c offset cause write).mem = (s.dmaHalted c offset cause write).mem ∧
    s.dmaHalt c offset cause write = { s with
      mem := (s.dmaHalt c offset cause write).mem, allots := (s.dmaHalt c offset cause write).allots,
      irq := (s.dmaHalt c offset cause write).irq, emits := (s.dmaHalt c offset cause write).emits } := by
  have hset : ((s.dmaHalted c offset cause write).modAllot (c / 64) fun r => { r with dmaHalts := inc64 r.dmaHalts }).settleArea
      (c / 64) = (s.dmaHalted c offset cause write).modAllot (c / 64) fun r => { r with dmaHalts := inc64 r.dmaHalts } :=
    State.settleArea_settled h
  have hhalt : s.dmaHalt c offset cause write = if (s.dmaCh c).irqHalt then
        ((s.dmaHalted c offset cause write).modAllot (c / 64) fun r => { r with dmaHalts := inc64 r.dmaHalts }).raise (dmaIrq c)
      else (s.dmaHalted c offset cause write).modAllot (c / 64) fun r => { r with dmaHalts := inc64 r.dmaHalts } := by
    unfold State.dmaHalt
    exact congrArg (fun u : State => if (s.dmaCh c).irqHalt then u.raise (dmaIrq c) else u) hset
  rw [hhalt]
  split
  · refine ⟨?_, State.parts.2 ?_⟩
    · simp only [State.raise_kept ..]; rfl
    · simp [State.raise_kept .., State.dmaHalted]
  · exact ⟨rfl, rfl⟩

end

/-! ## START, DISABLE and its clearing -/

section
variable {s : State} {c : Nat}

theorem exec_start {a : Nat} (t : Nat) (s : State) (ha : a < 16) (hc : c < 1024) :
    exec (.start t a c) s = .next ((s.at t).onChannel a c fun s => s.dmaStart a c) :=
  if_pos (by simp [isAllot, isDma, ha, hc])
theorem exec_disable {a : Nat} (t : Nat) (s : State) (ha : a < 16) (hc : c < 1024) :
    exec (.disable t a c) s = .next ((s.at t).onChannel a c fun s => s.dmaDisable a c) :=
  if_pos (by simp [isAllot, isDma, ha, hc])
theorem exec_disableClear {a : Nat} (t : Nat) (s : State) (ha : a < 16) (hc : c < 1024) :
    exec (.disableClear t a c) s = .next ((s.at t).onChannel a c fun s => s.dmaClear a c) :=
  if_pos (by simp [isAllot, isDma, ha, hc])
theorem exec_dmaRequestDone (t o : Nat) (l : List Byte) (s : State) (hc : c < 1024) :
    exec (.dmaRequestDone t c o l) s = .next ((s.at t).dmaArrive c o l) := if_pos (decide_eq_true hc)
theorem exec_dmaRequestFail (t o k : Nat) (s : State) (hc : c < 1024) :
    exec (.dmaRequestFail t c o k) s = .next ((s.at t).dmaFail c o k) := if_pos (decide_eq_true hc)

theorem State.onChannel_other {a : Nat} (h : s.serves a = false ∨ c / 64 ≠ a) (f : State → State) :
    s.onChannel a c f = s := by
  refine if_neg ?_
  obtain h | h := h
  · simp [h]
  · simp [h]

theorem State.onChannel_own (h : s.serves (c / 64) = true) (f : State → State) : s.onChannel (c / 64) c f = f s :=
  if_pos (by simp [h])

/-- The channel runs from its first byte. -/
def State.dmaBegun (s : State) (c : Nat) : State := s.modDma c fun d =>
  { d with st := 1, written := 0, early := [], tried := 0, remaining := BitVec.ofNat 32 d.count }

theorem State.serves_window {a : Nat} (h : s.serves a = true) : s.hasWindow (s.linkOf a) = true :=
  (Bool.and_eq_true_iff.1 h).1

theorem State.dmaStart_starts (hw : s.hasWindow (s.linkOf (c / 64)) = true) (hst : (s.dmaCh c).st = 0 ∨ (s.dmaCh c).st = 2) :
    s.dmaStart (c / 64) c = if (s.dmaCh c).count = 0 then (s.dmaBegun c).dmaDone c else s.dmaBegun c :=
  (if_neg (by simp [hw])).trans (if_neg (by omega))

theorem State.dmaStart_ignored (hw : s.hasWindow (s.linkOf (c / 64)) = true) (h0 : (s.dmaCh c).st ≠ 0)
    (h2 : (s.dmaCh c).st ≠ 2) :
    s.dmaStart (c / 64) c = s.modDma c fun d => { d with startIgnored := inc64 d.startIgnored } :=
  (if_neg (by simp [hw])).trans (if_pos ⟨h0, h2⟩)

/-- The channel is disabled. -/
def State.dmaStopped (s : State) (c : Nat) : State := s.refresh.modDma c fun d =>
  { d with disable := true, st := 4, early := [], remaining := Config.remainingUndefined s.fresh }

/-- The destination range of a disabled channel. -/
def State.dmaLost (s : State) (c : Nat) : List Byte :=
  (List.range (min (s.dmaCh c).count ((s.area (c / 64)).1 * 1048576 - (s.dmaCh c).dest))).map
    (Config.memoryUndefined s.fresh)

/-- A disabled channel with what it leaves in its destination. -/
def State.dmaLeft (s : State) (c : Nat) : State :=
  if (s.dmaCh c).st = 1 ∧ 2 ≤ (s.dmaCh c).dstSpace then (s.dmaStopped c).putExchange (c / 64) (s.dmaCh c).dest (s.dmaLost c)
  else s.dmaStopped c

theorem State.dmaDisable_disables (hw : s.hasWindow (s.linkOf (c / 64)) = true) (hd : (s.dmaCh c).disable = false) :
    s.dmaDisable (c / 64) c = (s.dmaLeft c).settleArea (c / 64) := by
  unfold State.dmaDisable State.dmaLeft State.dmaLost
  rw [if_neg (by simp [hw, hd])]
  simp only [decide_eq_true_eq]
  rfl

theorem State.dmaDisable_idle (hd : (s.dmaCh c).disable = true) : s.dmaDisable (c / 64) c = s :=
  if_pos (.inr (.inr hd))

theorem State.dmaClear_clears (hd : (s.dmaCh c).disable = true) : s.dmaClear (c / 64) c = s.modDma c fun d =>
    { d with disable := false, st := 0, cause := 0, direction := false, retriesUsed := 0, faultAddr := 0 } :=
  if_neg (by simp [hd])

theorem State.dmaClear_idle (hd : (s.dmaCh c).disable = false) : s.dmaClear (c / 64) c = s :=
  if_pos (by simp [hd])

theorem State.dmaLeft_leaves (s : State) (c : Nat) :
    (∀ k, (s.dmaLeft c).dmaCh k = (s.dmaStopped c).dmaCh k) ∧ (∀ b, (s.dmaLeft c).area b = s.area b) ∧
    (∀ f i m, (s.dmaLeft c).cfgN f i m = s.cfgN f i m) ∧ (s.dmaLeft c).fresh = s.fresh + 1 ∧
    s.dmaLeft c = { s with fresh := (s.dmaLeft c).fresh, mem := (s.dmaLeft c).mem } := by
  unfold State.dmaLeft
  split
  · refine ⟨fun k => State.dmaCh_putExchange .., fun b => State.area_putExchange .., fun f i m => State.cfgN_putExchange ..,
      ?_, ?_⟩
    · rw [State.putExchange_frame]; rfl
    · rw [State.putExchange_frame]; rfl
  · exact ⟨fun _ => rfl, fun _ => rfl, fun _ _ _ => rfl, rfl, rfl⟩

end

/-! ## Data -/

section
variable {s : State} {c : Nat}

/-- The channel takes bytes at its place. -/
def State.dmaTaken (s : State) (c : Nat) (l : List Byte) : State := s.modDma c fun d =>
  { d with written := d.written + l.length, tried := 0, remaining := BitVec.ofNat 32 (d.count - (d.written + l.length)) }

/-- Bytes are counted of the allotment. -/
def State.dmaMetered (s : State) (c : Nat) (l : List Byte) : State :=
  s.modAllot (c / 64) fun r => { r with dmaBytes := add64 r.dmaBytes l.length }

theorem State.dmaWrite_toHost (h : (s.dmaCh c).dstSpace = 0) (l : List Byte) : s.dmaWrite c l =
    ((s.emit (.dmaHost s.now c ((s.dmaCh c).dest + (s.dmaCh c).written) l)).dmaTaken c l).dmaMetered c l := by
  unfold State.dmaWrite
  dsimp only
  rw [if_pos h]
  rfl

theorem State.dmaWrite_toArea (h : (s.dmaCh c).dstSpace ≠ 0) (l : List Byte) : s.dmaWrite c l =
    ((s.putExchange (c / 64) ((s.dmaCh c).dest + (s.dmaCh c).written) l).dmaTaken c l).dmaMetered c l := by
  unfold State.dmaWrite
  dsimp only
  rw [if_neg h]
  rfl

/-- What a run of bytes leaves besides its destination (R363). -/
theorem State.dmaWrite_leaves (s : State) (c : Nat) (l : List Byte) :
    (∀ k, (s.dmaWrite c l).dmaCh k = (s.dmaTaken c l).dmaCh k) ∧
    s.dmaWrite c l = { s with mem := (s.dmaWrite c l).mem, allots := (s.dmaWrite c l).allots,
                              irq := (s.dmaWrite c l).irq, emits := (s.dmaWrite c l).emits } := by
  by_cases h : (s.dmaCh c).dstSpace = 0
  · rw [State.dmaWrite_toHost h]
    exact ⟨fun _ => rfl, rfl⟩
  · rw [State.dmaWrite_toArea h, State.putExchange_frame]
    exact ⟨fun _ => rfl, rfl⟩

theorem State.dmaWrite_host (h : (s.dmaCh c).dstSpace = 0) (l : List Byte) :
    (s.dmaWrite c l).emits = .dmaHost s.now c ((s.dmaCh c).dest + (s.dmaCh c).written) l :: s.emits ∧
    (s.dmaWrite c l).mem.exchange = s.mem.exchange := by
  rw [State.dmaWrite_toHost h]
  exact ⟨rfl, rfl⟩

theorem State.dmaWrite_area (h : (s.dmaCh c).dstSpace ≠ 0) (l : List Byte) :
    (∀ k, (s.dmaWrite c l).areaByte k =
      (s.putExchange (c / 64) ((s.dmaCh c).dest + (s.dmaCh c).written) l).areaByte k) ∧
    ∀ b, (s.dmaWrite c l).area b = s.area b := by
  rw [State.dmaWrite_toArea h]
  exact ⟨fun _ => rfl, fun b => State.area_putExchange s (c / 64) b _ l⟩

/-- No run that is held is next: nothing is written. -/
theorem State.dmaDrain_waits (h : ∀ e ∈ (s.dmaCh c).early, e.1 ≠ (s.dmaCh c).written) (k : Nat) : s.dmaDrain c k = s := by
  cases k with
  | zero => rfl
  | succ k =>
    unfold State.dmaDrain
    have hnone : (s.dmaCh c).early.find? (fun e => decide (e.1 = (s.dmaCh c).written)) = none :=
      List.find?_eq_none.2 fun e he => by simp [h e he]
    rw [hnone]

/-- A channel with nothing held. -/
def State.dmaEmptied (s : State) (c : Nat) : State := s.modDma c fun d => { d with early := [] }

/-- The only run that is held is next: it is written. -/
theorem State.dmaDrain_one {l : List Byte} (h : (s.dmaCh c).early = [((s.dmaCh c).written, l)]) :
    s.dmaDrain c 1 = (s.dmaEmptied c).dmaWrite c l := by
  have hmod : (s.modDma c fun d => { d with early := d.early.filter fun x => !decide (x.1 = (s.dmaCh c).written) }) =
      s.dmaEmptied c := by
    unfold State.modDma State.dmaEmptied
    simp [h, State.modDma]
  unfold State.dmaDrain
  rw [h]
  simp only [List.find?_cons, decide_true]
  rw [hmod]
  rfl

/-- A request that completes is not used (R363). -/
theorem State.dmaArrive_ignored {o : Nat} {l : List Byte} (h : (s.dmaCh c).st ≠ 1 ∨ l = [] ∨ (s.dmaCh c).count ≤ o ∨
    o < (s.dmaCh c).written ∨ (∃ e ∈ (s.dmaCh c).early, e.1 = o)) : s.dmaArrive c o l = s := by
  refine if_pos ?_
  have hany : ((s.dmaCh c).early.any fun e => decide (e.1 = o)) = true ↔ ∃ e ∈ (s.dmaCh c).early, e.1 = o := by simp
  rw [hany, List.length_take]
  obtain h | h | h | h | h := h
  · exact .inl h
  · exact .inr (.inl (by simp [h]))
  · exact .inr (.inl (by omega))
  · exact .inr (.inr (.inl h))
  · exact .inr (.inr (.inr h))

/-- The channel holds a run of bytes. -/
def State.dmaHolding (s : State) (c o : Nat) (l : List Byte) : State := s.modDma c fun d => { d with early := (o, l) :: d.early }

theorem State.dmaSource_length (s : State) (a : Nat) (d : Dma) (o : Nat) (l : List Byte) :
    (s.dmaSource a d o l).length = l.length := by
  unfold State.dmaSource
  split_ifs
  · rfl
  · rw [List.length_map, List.length_range]
  · rw [List.length_map, List.length_range]

/-- A request that completes, over whether it lies in its spaces (R365). -/
theorem State.dmaArrive_used {o : Nat} {l : List Byte} (hst : (s.dmaCh c).st = 1) (hl : l ≠ [])
    (hw : (s.dmaCh c).written ≤ o) (ho : o < (s.dmaCh c).count) (he : ∀ e ∈ (s.dmaCh c).early, e.1 ≠ o) :
    let d := s.dmaCh c
    let bytes := l.take (d.count - o)
    s.dmaArrive c o l =
      if !s.dmaFits (c / 64) d.srcSpace (d.source + o) bytes.length false then
        (if o = d.written then s.dmaHalt c o 5 false else s)
      else if !s.dmaFits (c / 64) d.dstSpace (d.dest + o) bytes.length true then
        (if o = d.written then s.dmaHalt c o 5 true else s)
      else
        let w := (s.dmaHolding c o (s.dmaSource (c / 64) d o bytes)).dmaDrain c (d.early.length + 1)
        if (w.dmaCh c).written = d.count then w.dmaDone c else w := by
  refine if_neg ?_
  have hany : ((s.dmaCh c).early.any fun e => decide (e.1 = o)) = true ↔ ∃ e ∈ (s.dmaCh c).early, e.1 = o := by simp
  rw [hany, List.length_take]
  have hlen := List.length_pos_iff.2 hl
  rintro (h | h | h | ⟨e, hmem, h⟩)
  · exact h hst
  · omega
  · omega
  · exact he e hmem h

end

/-! ## Failures (R365, R366) -/

section
variable {s : State} {c : Nat}

theorem State.dmaFail_ignored {o k : Nat} (h : (s.dmaCh c).st ≠ 1 ∨ o ≠ (s.dmaCh c).written ∨ k = 0 ∨ 7 ≤ k) :
    s.dmaFail c o k = s := if_pos h

theorem State.dmaFail_retried {k : Nat} (hst : (s.dmaCh c).st = 1) (h1 : 1 ≤ k) (h3 : k ≤ 3) (hs : (s.dmaCh c).srcSpace = 0)
    (hr : (s.dmaCh c).retry = true) (ht : (s.dmaCh c).tried < (s.dmaCh c).retries) :
    s.dmaFail c (s.dmaCh c).written k =
      s.modDma c fun d => { d with tried := d.tried + 1, retriesTotal := inc64 d.retriesTotal } :=
  (if_neg (by omega)).trans (if_pos ⟨hr, h3, hs, ht⟩)

/-- The side that a failed request is charged to. -/
def State.dmaSide (s : State) (c k : Nat) : Bool :=
  if k = 5 then s.dmaFits (c / 64) (s.dmaCh c).srcSpace ((s.dmaCh c).source + (s.dmaCh c).written) 1 false
  else decide (k = 6) && decide ((s.dmaCh c).srcSpace ≠ 0)

theorem State.dmaFail_halts {k : Nat} (hst : (s.dmaCh c).st = 1) (h1 : 1 ≤ k) (h7 : k < 7)
    (h : (s.dmaCh c).retry = false ∨ 3 < k ∨ (s.dmaCh c).srcSpace ≠ 0 ∨ (s.dmaCh c).retries ≤ (s.dmaCh c).tried) :
    (k ≠ 4 → s.dmaFail c (s.dmaCh c).written k = s.dmaHalt c (s.dmaCh c).written k (s.dmaSide c k)) ∧
    (k = 4 → s.dmaFail c (s.dmaCh c).written k =
      (s.readError (s.dmaStack (c / 64) (s.dmaCh c) (s.dmaCh c).written) (0x0800 + c)).dmaHalt c
        (s.dmaCh c).written 4 false) := by
  have hrun : ¬ ((s.dmaCh c).st ≠ 1 ∨ (s.dmaCh c).written ≠ (s.dmaCh c).written ∨ k = 0 ∨ 7 ≤ k) := by omega
  have hnot : ¬ ((s.dmaCh c).retry = true ∧ k ≤ 3 ∧ (s.dmaCh c).srcSpace = 0 ∧ (s.dmaCh c).tried < (s.dmaCh c).retries) := by
    rintro ⟨hr, h3, hs, ht⟩
    obtain h | h | h | h := h
    · exact Bool.false_ne_true (h.symm.trans hr)
    · omega
    · exact h hs
    · omega
  unfold State.dmaFail
  rw [if_neg hrun, if_neg hnot]
  refine ⟨fun hk => ?_, fun hk => ?_⟩
  · dsimp only
    rw [if_neg hk]
    rfl
  · subst hk
    rfl

end

/-! ## The obligation -/

section
variable {s : State} {t c : Nat}

/-- START of a channel of a window that serves its registers. -/
theorem dmaStart_leaves (hw : s.serves (c / 64) = true) (t : Nat) :
    ((s.dmaCh c).st = 0 ∨ (s.dmaCh c).st = 2 → (s.dmaCh c).count ≠ 0 → (s.at t).dmaStart (c / 64) c = (s.at t).dmaBegun c) ∧
    ((s.dmaCh c).st = 0 ∨ (s.dmaCh c).st = 2 → (s.dmaCh c).count = 0 →
      (s.at t).dmaStart (c / 64) c = ((s.at t).dmaBegun c).dmaDone c) := by
  have hwin := State.serves_window (s := s.at t) hw
  refine ⟨fun hst hn => ?_, fun hst hz => ?_⟩
  · exact (State.dmaStart_starts hwin hst).trans (if_neg hn)
  · exact (State.dmaStart_starts hwin hst).trans (if_pos hz)

/-- What DISABLE leaves of the channel's exchange area. -/
theorem dmaDisable_area (hc : c < 1024) :
    ((s.at t).Settled (c / 64) → ((s.at t).dmaLeft c).settleArea (c / 64) = (s.at t).dmaLeft c) ∧
    ((∀ k < 1024, k / 64 = c / 64 → k ≠ c → (s.dmaCh k).st ≠ 1) → ¬ (s.at t).Settled (c / 64) →
      ((s.at t).dmaLeft c).settleArea (c / 64) = ((s.at t).dmaLeft c).areaSettled (c / 64)) := by
  obtain ⟨hch, harea, hcfg, -, -⟩ := (s.at t).dmaLeft_leaves c
  refine ⟨fun h => State.settleArea_settled (h.of_same (fun m => hcfg ..) (harea _)), fun hidle h => ?_⟩
  refine State.settleArea_moves (fun h' => h (h'.of_same (fun m => (hcfg ..).symm) (harea _).symm)) ?_
  refine Bool.eq_false_iff.2 fun hruns => ?_
  obtain ⟨k, hk, hst⟩ := List.any_eq_true.1 hruns
  have hk64 := List.mem_range.1 hk
  have hst1 := of_decide_eq_true hst
  rw [hch] at hst1
  obtain ⟨hself, hother, -, -⟩ := (s.at t).refresh.modDma_alone c fun d =>
    { d with disable := true, st := 4, early := [], remaining := Config.remainingUndefined s.fresh }
  by_cases hkc : 64 * (c / 64) + k = c
  · rw [hkc] at hst1
    have h41 : 4 = 1 := (congrArg Dma.st hself).symm.trans hst1
    exact absurd h41 (by decide)
  · exact hidle _ (by omega) (by omega) hkc ((congrArg Dma.st (hother _ hkc)).symm.trans hst1)

/-- The range that a channel which ran leaves undefined (R364). -/
theorem dmaLeft_bytes (hst : (s.dmaCh c).st = 1) (hsp : 2 ≤ (s.dmaCh c).dstSpace) {b k : Nat} (hk : k < 2147483648)
    (hfit : (s.dmaCh c).dest + (s.dmaCh c).count ≤ (s.area (c / 64)).1 * 1048576) (hsize : (s.area (c / 64)).1 ≤ 2048) :
    (s.dmaLeft c).exchangeByte b k = if b = c / 64 ∧ (s.dmaCh c).dest ≤ k ∧ k < (s.dmaCh c).dest + (s.dmaCh c).count then
      Config.memoryUndefined s.fresh (k - (s.dmaCh c).dest) else s.exchangeByte b k := by
  have hlen : (s.dmaLost c).length = (s.dmaCh c).count := by
    unfold State.dmaLost
    rw [List.length_map, List.length_range]
    omega
  unfold State.dmaLeft
  rw [if_pos ⟨hst, hsp⟩, State.exchangeByte_eq, State.areaByte_putExchange, hlen]
  have hiff : (c / 64 * 2147483648 + (s.dmaCh c).dest ≤ b * 2147483648 + k ∧
      b * 2147483648 + k < c / 64 * 2147483648 + (s.dmaCh c).dest + (s.dmaCh c).count) ↔
      b = c / 64 ∧ (s.dmaCh c).dest ≤ k ∧ k < (s.dmaCh c).dest + (s.dmaCh c).count := by
    omega
  by_cases hin : b = c / 64 ∧ (s.dmaCh c).dest ≤ k ∧ k < (s.dmaCh c).dest + (s.dmaCh c).count
  · rw [if_pos (hiff.2 hin), if_pos hin]
    obtain ⟨rfl, hlo, hhi⟩ := hin
    have hidx : c / 64 * 2147483648 + k - (c / 64 * 2147483648 + (s.dmaCh c).dest) = k - (s.dmaCh c).dest := by omega
    have hlt : k - (s.dmaCh c).dest < min (s.dmaCh c).count ((s.area (c / 64)).1 * 1048576 - (s.dmaCh c).dest) := by omega
    rw [hidx]
    unfold State.dmaLost
    rw [List.getD_eq_getElem _ _ (by rw [List.length_map, List.length_range]; exact hlt), List.getElem_map,
      List.getElem_range]
  · rw [if_neg fun h => hin (hiff.1 h), if_neg hin]
    rfl

/-- A run of bytes is held and written at once. -/
def State.dmaPassed (s : State) (c o : Nat) (l : List Byte) : State := ((s.dmaHolding c o l).dmaEmptied c).dmaWrite c l

theorem State.dmaPassed_leaves (s : State) (c o : Nat) (l : List Byte) :
    (s.dmaPassed c o l).dmaCh c = { s.dmaCh c with
      early := [], written := (s.dmaCh c).written + l.length, tried := 0,
      remaining := BitVec.ofNat 32 ((s.dmaCh c).count - ((s.dmaCh c).written + l.length)) } ∧
    (∀ k, k ≠ c → (s.dmaPassed c o l).dmaCh k = s.dmaCh k) ∧
    s.dmaPassed c o l = { s with mem := (s.dmaPassed c o l).mem, allots := (s.dmaPassed c o l).allots,
                                 irq := (s.dmaPassed c o l).irq, emits := (s.dmaPassed c o l).emits } := by
  obtain ⟨hch, hframe⟩ := ((s.dmaHolding c o l).dmaEmptied c).dmaWrite_leaves c l
  refine ⟨(hch c).trans ?_, fun k hk => (hch k).trans ?_, hframe⟩
  · simp [State.dmaTaken, State.dmaEmptied, State.dmaHolding]
  · simp [State.dmaTaken, State.dmaEmptied, State.dmaHolding, hk]

/-- A run of bytes in its turn, with nothing held, is written (R363). -/
theorem State.dmaDrain_passed {o : Nat} {l : List Byte} (ho : o = (s.dmaCh c).written) (he : (s.dmaCh c).early = []) :
    (s.dmaHolding c o l).dmaDrain c ((s.dmaCh c).early.length + 1) = s.dmaPassed c o l := by
  have hheld : ((s.dmaHolding c o l).dmaCh c) = { s.dmaCh c with early := (o, l) :: (s.dmaCh c).early } :=
    (s.modDma_alone c fun d => { d with early := (o, l) :: d.early }).1
  rw [he]
  exact State.dmaDrain_one (s := s.dmaHolding c o l) (l := l) (by rw [hheld, he, ho])

/-- Data of the host for the exchange area, in its turn (R361, R363). -/
theorem dmaArrive_toArea {l : List Byte} (hst : (s.dmaCh c).st = 1)
    (hsrc : (s.dmaCh c).srcSpace = 0) (hdst : (s.dmaCh c).dstSpace = 2) (hearly : (s.dmaCh c).early = []) (hl : l ≠ [])
    (hlen : (s.dmaCh c).written + l.length ≤ (s.dmaCh c).count) (hsfit : (s.dmaCh c).source + (s.dmaCh c).count ≤ 2 ^ 64)
    (hdfit : (s.dmaCh c).dest + (s.dmaCh c).count ≤ (s.area (c / 64)).1 * 1048576) :
    s.dmaArrive c (s.dmaCh c).written l =
      if (s.dmaCh c).written + l.length = (s.dmaCh c).count then (s.dmaPassed c (s.dmaCh c).written l).dmaDone c
      else s.dmaPassed c (s.dmaCh c).written l := by
  have hpos := List.length_pos_iff.2 hl
  have hbytes : l.take ((s.dmaCh c).count - (s.dmaCh c).written) = l := List.take_of_length_le (by omega)
  have hreads : s.dmaFits (c / 64) (s.dmaCh c).srcSpace ((s.dmaCh c).source + (s.dmaCh c).written) l.length false = true := by
    rw [hsrc]
    exact decide_eq_true (by omega)
  have hwrites : s.dmaFits (c / 64) (s.dmaCh c).dstSpace ((s.dmaCh c).dest + (s.dmaCh c).written) l.length true = true := by
    rw [hdst]
    exact decide_eq_true (by omega)
  have hsource : s.dmaSource (c / 64) (s.dmaCh c) (s.dmaCh c).written l = l := if_pos hsrc
  have hwritten := congrArg Dma.written (s.dmaPassed_leaves c (s.dmaCh c).written l).1
  refine (State.dmaArrive_used hst hl (Nat.le_refl _) (by omega) (by simp [hearly])).trans ?_
  dsimp only
  rw [hbytes, hreads, hwrites, hsource, State.dmaDrain_passed rfl hearly, hwritten]
  rfl

/-- What the bytes of a passed run leave of the exchange areas. -/
theorem State.dmaPassed_area {o : Nat} {l : List Byte} (hdst : (s.dmaCh c).dstSpace = 2) :
    (∀ k, (s.dmaPassed c o l).areaByte k =
      (s.putExchange (c / 64) ((s.dmaCh c).dest + (s.dmaCh c).written) l).areaByte k) ∧
    ∀ b, (s.dmaPassed c o l).area b = s.area b := by
  have hch : ((s.dmaHolding c o l).dmaEmptied c).dmaCh c = { s.dmaCh c with early := [] } := by
    simp [State.dmaEmptied, State.dmaHolding]
  obtain ⟨hbytes, harea⟩ := State.dmaWrite_area (s := (s.dmaHolding c o l).dmaEmptied c) (c := c)
    (by rw [hch]; simp [hdst]) l
  refine ⟨fun k => (hbytes k).trans ?_, harea⟩
  rw [hch, State.areaByte_putExchange, State.areaByte_putExchange]
  rfl

/-- Where a passed run lies, and what it leaves (R361). -/
theorem State.dmaPassed_bytes {o : Nat} {l : List Byte} (hdst : (s.dmaCh c).dstSpace = 2) :
    (∀ i, i < l.length →
      (s.dmaPassed c o l).exchangeByte (c / 64) ((s.dmaCh c).dest + (s.dmaCh c).written + i) = l.getD i 0) ∧
    (∀ b k, b * 2147483648 + k < c / 64 * 2147483648 + (s.dmaCh c).dest + (s.dmaCh c).written ∨
        c / 64 * 2147483648 + (s.dmaCh c).dest + (s.dmaCh c).written + l.length ≤ b * 2147483648 + k →
      (s.dmaPassed c o l).exchangeByte b k = s.exchangeByte b k) := by
  have hput (k : Nat) := ((State.dmaPassed_area (o := o) (l := l) hdst).1 k).trans
    (s.areaByte_putExchange (c / 64) ((s.dmaCh c).dest + (s.dmaCh c).written) l k)
  refine ⟨fun i hi => ?_, fun b k h => ?_⟩
  · rw [State.exchangeByte_eq, hput, if_pos (by omega)]
    exact congrArg (fun j => l.getD j 0) (by omega)
  · rw [State.exchangeByte_eq, State.exchangeByte_eq, hput, if_neg (by omega)]

theorem State.dmaPassed_host {o : Nat} {l : List Byte} (hdst : (s.dmaCh c).dstSpace = 0) :
    (s.dmaPassed c o l).emits = .dmaHost s.now c ((s.dmaCh c).dest + (s.dmaCh c).written) l :: s.emits ∧
    (s.dmaPassed c o l).mem.exchange = s.mem.exchange := by
  have hch : ((s.dmaHolding c o l).dmaEmptied c).dmaCh c = { s.dmaCh c with early := [] } := by
    simp [State.dmaEmptied, State.dmaHolding]
  obtain ⟨hemit, hex⟩ := State.dmaWrite_host (s := (s.dmaHolding c o l).dmaEmptied c) (c := c) (by rw [hch]; exact hdst) l
  rw [hch] at hemit
  exact ⟨hemit, hex⟩

end

section
variable {s : State} {t c : Nat}

/-- DISABLE of a channel of a window that serves its registers (R364, R369). -/
theorem exec_disable_leaves (hc : c < 1024) (hs : s.serves (c / 64) = true) (hd : (s.dmaCh c).disable = false) :
    let d := s.dmaCh c
    let settled := (s.cfgN 0x31 (c / 64) 0x02, s.cfgN 0x31 (c / 64) 0x03) = ((s.area (c / 64)).1, (s.area (c / 64)).2.1)
    let u := ((s.at t).dmaLeft c).settleArea (c / 64)
    exec (.disable t (c / 64) c) s = .next u ∧
    u.dmaCh c = { d with disable := true, st := 4, early := [], remaining := Config.remainingUndefined s.fresh } ∧
    (∀ k, k ≠ c → u.dmaCh k = s.dmaCh k) ∧ u = { s with now := t, fresh := u.fresh, mem := u.mem } ∧
    (settled → d.st ≠ 1 ∨ d.dstSpace < 2 → u.mem.exchange = s.mem.exchange) ∧
    (settled → d.st = 1 → 2 ≤ d.dstSpace → ∀ b k, k < 2147483648 →
      d.dest + d.count ≤ (s.area (c / 64)).1 * 1048576 → (s.area (c / 64)).1 ≤ 2048 →
      u.exchangeByte b k = (if b = c / 64 ∧ d.dest ≤ k ∧ k < d.dest + d.count then Config.memoryUndefined s.fresh (k - d.dest)
        else s.exchangeByte b k)) ∧
    ((∀ k < 1024, k / 64 = c / 64 → k ≠ c → (s.dmaCh k).st ≠ 1) →
      u.area (c / 64) = (if settled then s.area (c / 64) else
        (s.cfgN 0x31 (c / 64) 0x02, s.cfgN 0x31 (c / 64) 0x03, s.fresh + 2))) := by
  intro d settled u
  obtain ⟨hch, harea, hcfg, hfresh, hframe⟩ := (s.at t).dmaLeft_leaves c
  obtain ⟨hself, hother, -, -⟩ := (s.at t).refresh.modDma_alone c fun d =>
    { d with disable := true, st := 4, early := [], remaining := Config.remainingUndefined s.fresh }
  obtain ⟨hstill, hmoves⟩ := dmaDisable_area (s := s) (t := t) hc
  have hchu (k : Nat) : u.dmaCh k = ((s.at t).dmaStopped c).dmaCh k :=
    (State.settleArea_leaves _ (c / 64) k).1.trans (hch k)
  have hex := (exec_disable t s (Nat.div_lt_of_lt_mul hc) hc).trans (congrArg Host.Outcome.next
    ((State.onChannel_own (s := s.at t) hs _).trans (State.dmaDisable_disables (State.serves_window (s := s.at t) hs) hd)))
  refine ⟨hex, (hchu c).trans hself, fun k hk => (hchu k).trans (hother k hk), ?_, fun hset hst => ?_,
    fun hset hst hsp b k hk hfit hsize => ?_, fun hidle => ?_⟩
  · have hsettle := (State.settleArea_leaves ((s.at t).dmaLeft c) (c / 64) c).2
    exact hsettle.trans (congrArg (fun v : State => { v with fresh := u.fresh, mem := u.mem }) hframe)
  · have hleft : (s.at t).dmaLeft c = (s.at t).dmaStopped c := if_neg fun h => by
      obtain ⟨h1, h2⟩ := h
      exact hst.elim (fun hne => hne h1) fun hlt => absurd h2 (Nat.not_le.2 hlt)
    have hu := congrArg (fun v : State => v.mem.exchange) ((hstill hset).trans hleft)
    exact hu
  · have hu := congrArg (fun v : State => v.exchangeByte b k) (hstill hset)
    exact hu.trans (dmaLeft_bytes (s := s.at t) hst hsp hk hfit hsize)
  · by_cases hset : settled
    · rw [if_pos hset]
      have hu := congrArg (fun v : State => v.area (c / 64)) (hstill hset)
      exact hu.trans (harea _)
    · rw [if_neg hset]
      have hu := congrArg (fun v : State => v.area (c / 64)) (hmoves hidle hset)
      refine hu.trans ((tget_tput_self ..).trans ?_)
      rw [hcfg, hcfg, hfresh]
      rfl

/-- A request that completes and is used, over its spaces and its place (R363, R365). -/
theorem dmaArrive_leaves {o : Nat} {l : List Byte} (hst : (s.dmaCh c).st = 1) (hl : l ≠ []) (hw : (s.dmaCh c).written ≤ o)
    (ho : o < (s.dmaCh c).count) (he : ∀ e ∈ (s.dmaCh c).early, e.1 ≠ o) :
    let d := s.dmaCh c
    let n := (l.take (d.count - o)).length
    let reads := s.dmaFits (c / 64) d.srcSpace (d.source + o) n false
    let writes := s.dmaFits (c / 64) d.dstSpace (d.dest + o) n true
    let bytes := s.dmaSource (c / 64) d o (l.take (d.count - o))
    (reads = false ∨ writes = false → s.dmaArrive c o l = if o = d.written then s.dmaHalt c o 5 reads else s) ∧
    (reads = true → writes = true →
      (s.dmaArrive c o l = let w := (s.dmaHolding c o bytes).dmaDrain c (d.early.length + 1)
        if (w.dmaCh c).written = d.count then w.dmaDone c else w) ∧
      (o ≠ d.written → (∀ e ∈ d.early, e.1 ≠ d.written) → s.dmaArrive c o l = s.dmaHolding c o bytes) ∧
      (d.early = [] → o = d.written → n < d.count - o → s.dmaArrive c o l = s.dmaPassed c o bytes)) := by
  intro d n reads writes bytes
  have hused := State.dmaArrive_used hst hl hw ho he
  refine ⟨fun h => ?_, fun hr hwr => ?_⟩
  · cases hr : reads with
    | false =>
      rw [hused, if_pos (by rw [Bool.not_eq_true']; exact hr)]
    | true =>
      have hwf : writes = false := h.resolve_left (by rw [hr]; decide)
      rw [hused, if_neg (by rw [Bool.not_eq_true', Bool.not_eq_false]; exact hr),
        if_pos (by rw [Bool.not_eq_true']; exact hwf)]
  · have hall : s.dmaArrive c o l = let w := (s.dmaHolding c o bytes).dmaDrain c (d.early.length + 1)
        if (w.dmaCh c).written = d.count then w.dmaDone c else w := by
      rw [hused, if_neg (by rw [Bool.not_eq_true', Bool.not_eq_false]; exact hr),
        if_neg (by rw [Bool.not_eq_true', Bool.not_eq_false]; exact hwr)]
    have hheld : (s.dmaHolding c o bytes).dmaCh c = { d with early := (o, bytes) :: d.early } :=
      (s.modDma_alone c fun d => { d with early := (o, bytes) :: d.early }).1
    refine ⟨hall, fun hne hearly => ?_, fun hnil heq hn => ?_⟩
    · have hdrain : (s.dmaHolding c o bytes).dmaDrain c (d.early.length + 1) = s.dmaHolding c o bytes := by
        refine State.dmaDrain_waits ?_ _
        rw [hheld]
        exact List.forall_mem_cons.2 ⟨hne, hearly⟩
      rw [hall, hdrain]
      have hwritten := congrArg Dma.written hheld
      exact if_neg fun h => absurd (hwritten.symm.trans h) (Nat.ne_of_lt (Nat.lt_of_le_of_lt hw ho))
    · rw [hall, State.dmaDrain_passed heq hnil]
      have hwritten := congrArg Dma.written (s.dmaPassed_leaves c o bytes).1
      have hlen : bytes.length = n := State.dmaSource_length ..
      refine if_neg fun h => ?_
      have hsum : d.written + bytes.length = d.count := hwritten.symm.trans h
      omega

/-- Data of the host for the exchange area, in its turn: where it lies and what it ends (R361, R363). -/
theorem exec_dmaRequestDone_toArea {l : List Byte} (hc : c < 1024) (hset : s.Settled (c / 64)) (hst : (s.dmaCh c).st = 1)
    (hsrc : (s.dmaCh c).srcSpace = 0) (hdst : (s.dmaCh c).dstSpace = 2) (hearly : (s.dmaCh c).early = []) (hl : l ≠ [])
    (hlen : (s.dmaCh c).written + l.length ≤ (s.dmaCh c).count) (hsfit : (s.dmaCh c).source + (s.dmaCh c).count ≤ 2 ^ 64)
    (hdfit : (s.dmaCh c).dest + (s.dmaCh c).count ≤ (s.area (c / 64)).1 * 1048576) :
    let d := s.dmaCh c
    ∃ u, exec (.dmaRequestDone t c d.written l) s = .next u ∧ (u.dmaCh c).written = d.written + l.length ∧
      (u.dmaCh c).st = (if d.written + l.length = d.count then 2 else 1) ∧
      (u.dmaCh c).doneCount = (if d.written + l.length = d.count then (d.doneCount + 1) % 4294967296 else d.doneCount) ∧
      (∀ i, i < l.length → u.exchangeByte (c / 64) (d.dest + d.written + i) = l.getD i 0) ∧
      (∀ b k, b * 2147483648 + k < c / 64 * 2147483648 + d.dest + d.written ∨
          c / 64 * 2147483648 + d.dest + d.written + l.length ≤ b * 2147483648 + k →
        u.exchangeByte b k = s.exchangeByte b k) ∧
      (∀ k, k ≠ c → u.dmaCh k = s.dmaCh k) ∧
      u = { s with now := t, mem := u.mem, allots := u.allots, irq := u.irq, emits := u.emits } := by
  intro d
  have hex := (exec_dmaRequestDone t d.written l s hc).trans (congrArg Host.Outcome.next
    (dmaArrive_toArea (s := s.at t) hst hsrc hdst hearly hl hlen hsfit hdfit))
  obtain ⟨hself, hother, hframe⟩ := (s.at t).dmaPassed_leaves c d.written l
  have hcount := congrArg Dma.doneCount hself
  have hrun := congrArg Dma.st hself
  have hwritten := congrArg Dma.written hself
  obtain ⟨hin, hout⟩ := State.dmaPassed_bytes (s := s.at t) (l := l) hdst
  have harea := (State.dmaPassed_area (s := s.at t) (o := d.written) (l := l) hdst).2
  change ∀ i, i < l.length → ((s.at t).dmaPassed c d.written l).exchangeByte (c / 64) (d.dest + d.written + i) = _ at hin
  change ∀ b k, _ → ((s.at t).dmaPassed c d.written l).exchangeByte b k = _ at hout
  by_cases hall : d.written + l.length = d.count
  · replace hex := hex.trans (congrArg Host.Outcome.next (if_pos hall))
    rw [if_pos hall, if_pos hall]
    change exec _ s = .next (((s.at t).dmaPassed c d.written l).dmaDone c) at hex
    generalize (s.at t).dmaPassed c d.written l = w at hcount hrun hwritten hother hframe hin hout harea hex
    have hcfg (m : Nat) : w.cfgN 0x31 (c / 64) m = s.cfgN 0x31 (c / 64) m := by
      rw [hframe]
      rfl
    obtain ⟨hmem, hdone⟩ := State.dmaDone_settled (c := c) (hset.of_same hcfg (harea _))
    obtain ⟨heself, heother, -, -⟩ := w.modDma_alone c fun d =>
      { d with st := 2, doneCount := (d.doneCount + 1) % 4294967296 }
    have hch := w.dmaCh_dmaDone c
    have hcself := (hch c).trans heself
    have hbyte := State.areaByte_of_mem (congrArg Memory.exchange hmem) (congrArg Memory.areas hmem)
    refine ⟨_, hex, ?_, congrArg Dma.st hcself, ?_, fun i hi => (hbyte _).trans (hin i hi),
      fun b k hk => (hbyte _).trans (hout b k hk), fun k hk => ?_, ?_⟩
    · exact (congrArg Dma.written hcself).trans hwritten
    · exact (congrArg Dma.doneCount hcself).trans (congrArg (fun n => (n + 1) % 4294967296) hcount)
    · exact (hch k).trans ((heother k hk).trans (hother k hk))
    · generalize w.dmaDone c = u at hdone
      exact hdone.trans (congrArg (fun v : State => { v with mem := u.mem, allots := u.allots, irq := u.irq,
                                                             emits := u.emits }) hframe)
  · replace hex := hex.trans (congrArg Host.Outcome.next (if_neg hall))
    rw [if_neg hall, if_neg hall]
    exact ⟨_, hex, hwritten, hrun.trans hst, hcount, hin, hout, hother, hframe⟩

end

/-- Settles O43: each command over its guards; data goes through `dmaPassed`, halts and DONE through a settled area. -/
theorem dmaChannels : Obligations.DmaChannels := by
  refine ⟨fun s t a c ha hc h => ⟨?_, ?_, ?_⟩, fun s t c hc => ?_⟩
  · exact (exec_start t s ha hc).trans (congrArg _ (State.onChannel_other (s := s.at t) h _))
  · exact (exec_disable t s ha hc).trans (congrArg _ (State.onChannel_other (s := s.at t) h _))
  · exact (exec_disableClear t s ha hc).trans (congrArg _ (State.onChannel_other (s := s.at t) h _))
  intro d settled
  have ha : c / 64 < 16 := by omega
  refine ⟨fun hs => ⟨fun hst hn => ?_, fun hst hz => ?_, fun h0 h2 => ?_, fun hd => ?_, fun hd => ?_, fun hd => ?_⟩,
    fun hst o l k => ⟨?_, ?_⟩, fun hst => ⟨fun o l h => ?_, fun o l hl hw ho he => ?_,
      fun l hset hsrc hdst hearly hl hlen _ hsfit hdfit => ?_, fun o k h => ?_, fun k h1 h3 hsrc hr ht => ?_,
      fun k h1 h7 h => ?_⟩⟩
  · have hex := (exec_start t s ha hc).trans (congrArg Host.Outcome.next ((State.onChannel_own (s := s.at t) hs _).trans
      ((dmaStart_leaves hs t).1 hst hn)))
    exact ⟨_, hex, (s.at t).modDma_alone c _⟩
  · have hex := (exec_start t s ha hc).trans (congrArg Host.Outcome.next ((State.onChannel_own (s := s.at t) hs _).trans
      ((dmaStart_leaves hs t).2 hst hz)))
    obtain ⟨hself, hother, hframe, hexch⟩ := (s.at t).modDma_alone c fun d =>
      { d with st := 1, written := 0, early := [], tried := 0, remaining := BitVec.ofNat 32 d.count }
    have hended := (((s.at t).dmaBegun c).modDma_alone c fun d =>
      { d with st := 2, doneCount := (d.doneCount + 1) % 4294967296 }).1
    have hdone := (((s.at t).dmaBegun c).dmaCh_dmaDone c c).trans hended
    refine ⟨_, hex, hself.trans ?_, hother, hframe, hexch, congrArg Dma.st hdone, (congrArg Dma.doneCount hdone).trans ?_⟩
    · have hz' : ((s.at t).dmaCh c).count = 0 := hz
      have hrem : BitVec.ofNat 32 ((s.at t).dmaCh c).count = 0 := by rw [hz']; rfl
      rw [hrem]
      rfl
    · have hcount := congrArg Dma.doneCount hself
      exact congrArg (fun n => (n + 1) % 4294967296) hcount
  · have hex := (exec_start t s ha hc).trans (congrArg Host.Outcome.next ((State.onChannel_own (s := s.at t) hs _).trans
      (State.dmaStart_ignored (State.serves_window (s := s.at t) hs) h0 h2)))
    exact ⟨_, hex, (s.at t).modDma_alone c _⟩
  · -- the statement's arrow takes the whole conjunction before it as its premise
    obtain ⟨-, -, -, -, -, -, harea⟩ := exec_disable_leaves hc hs hd (t := t)
    exact ⟨((s.at t).dmaLeft c).settleArea (c / 64), fun ⟨_, _, _, _, _, _, hidle⟩ => harea hidle⟩
  · refine ⟨(exec_disable t s ha hc).trans (congrArg Host.Outcome.next ((State.onChannel_own (s := s.at t) hs _).trans
      (State.dmaDisable_idle hd))), ?_⟩
    have hex := (exec_disableClear t s ha hc).trans (congrArg Host.Outcome.next ((State.onChannel_own (s := s.at t) hs _).trans
      (State.dmaClear_clears hd)))
    exact ⟨_, hex, (s.at t).modDma_alone c _⟩
  · exact (exec_disableClear t s ha hc).trans (congrArg Host.Outcome.next ((State.onChannel_own (s := s.at t) hs _).trans
      (State.dmaClear_idle hd)))
  · exact (exec_dmaRequestDone t o l s hc).trans (congrArg _ (State.dmaArrive_ignored (s := s.at t) (.inl hst)))
  · exact (exec_dmaRequestFail t o k s hc).trans (congrArg _ (State.dmaFail_ignored (s := s.at t) (.inl hst)))
  · exact (exec_dmaRequestDone t o l s hc).trans (congrArg _ (State.dmaArrive_ignored (s := s.at t) (.inr h)))
  · intro n reads writes
    obtain ⟨hhalts, hused⟩ := dmaArrive_leaves (s := s.at t) hst hl hw ho he
    have hex := exec_dmaRequestDone t o l s hc
    refine ⟨fun hbad => hex.trans (congrArg _ (hhalts hbad)), fun hr hwr => ?_⟩
    obtain ⟨hall, hwaits, hpass⟩ := hused hr hwr
    obtain ⟨hself, hother, hframe, hexch⟩ := (s.at t).modDma_alone c fun x =>
      { x with early := (o, s.dmaSource (c / 64) d o (l.take (d.count - o))) :: x.early }
    refine ⟨_, hself, hother, hframe, hexch, hex.trans (congrArg _ hall), fun hne hearly => hex.trans (congrArg _ (hwaits hne hearly)),
      fun hnil heq hdst hn => ⟨_, hex.trans (congrArg _ (hpass hnil heq hn)), ?_, ?_, ?_, ?_⟩⟩
    · have hwritten := congrArg Dma.written ((s.at t).dmaPassed_leaves c o
        (s.dmaSource (c / 64) d o (l.take (d.count - o)))).1
      have hlen : (s.dmaSource (c / 64) d o (l.take (d.count - o))).length = n := State.dmaSource_length ..
      refine hwritten.trans ?_
      rw [hlen, heq]
      rfl
    · have hrun := congrArg Dma.st ((s.at t).dmaPassed_leaves c o (s.dmaSource (c / 64) d o (l.take (d.count - o)))).1
      exact hrun.trans hst
    · rw [heq]
      exact (State.dmaPassed_host (s := s.at t) hdst).1
    · exact (State.dmaPassed_host (s := s.at t) hdst).2
  · exact exec_dmaRequestDone_toArea hc hset hst hsrc hdst hearly hl hlen hsfit hdfit
  · exact (exec_dmaRequestFail t o k s hc).trans (congrArg _ (State.dmaFail_ignored (s := s.at t) (.inr h)))
  · have hex := (exec_dmaRequestFail t d.written k s hc).trans (congrArg Host.Outcome.next
      (State.dmaFail_retried (s := s.at t) hst h1 h3 hsrc hr ht))
    exact ⟨_, hex, (s.at t).modDma_alone c _⟩
  · obtain ⟨hhalt, hread⟩ := State.dmaFail_halts (s := s.at t) hst h1 h7 h
    refine ⟨fun hk => ?_, fun hk => ?_, fun hk hset => ?_⟩
    · exact (exec_dmaRequestFail t d.written k s hc).trans (congrArg _ (hhalt hk))
    · exact (exec_dmaRequestFail t d.written k s hc).trans (congrArg _ (hread hk))
    · obtain ⟨hmem, hframe⟩ := State.dmaHalt_settled (s := s.at t) (offset := d.written) (cause := k)
        (write := (s.at t).dmaSide c k) hset
      obtain ⟨hself, hother, -, hexch⟩ := (s.at t).modDma_alone c fun x =>
        { x with st := 3, cause := k, direction := (s.at t).dmaSide c k, retriesUsed := x.tried, early := [],
                 faultAddr := ((if (s.at t).dmaSide c k then x.dest else x.source) + d.written) % 2 ^ 64,
                 remaining := BitVec.ofNat 32 (x.count - x.written) }
      have hch (k' : Nat) : ((s.at t).dmaHalt c d.written k ((s.at t).dmaSide c k)).dmaCh k' =
          ((s.at t).dmaHalted c d.written k ((s.at t).dmaSide c k)).dmaCh k' := by
        unfold State.dmaCh
        rw [hmem]
      refine ⟨_, (exec_dmaRequestFail t d.written k s hc).trans (congrArg _ (hhalt hk)), (hch c).trans hself,
        fun k' hk' => (hch k').trans (hother k' hk'), ?_, hframe⟩
      exact (congrArg Memory.exchange hmem).trans hexch

end Sys2Proof.Machine
end

section
/-! PROOFS. Calibration of fibre pairs and sensors (R387, R388, R390). -/

namespace Sys2Proof.Machine

/-! ## Ports of a pair -/

theorem State.pair_of_cal {s u : State} (h : u.cal = s.cal) (p : Nat) : u.pair p = s.pair p := by
  unfold State.pair
  rw [h]

theorem accepted_cal {u v : State} {e : Nat} (h : accepted u v e) : v.cal = u.cal ∧ v.fwd = u.fwd := by
  simp only [accepted_kept h, and_self]

theorem State.pairPorts_of_alm {s u : State} (h : u.alm = s.alm) (p : Nat) : u.pairPorts p = s.pairPorts p := by
  unfold State.pairPorts State.breakoutOf State.cfgN State.cfg
  rw [h]

/-- A change of several ports alike, which a second one leaves. -/
theorem State.port_modPorts {f : Port → Port} (hf : ∀ x, f (f x) = f x) (l : List Nat) (s : State) (k : Nat) :
    (l.foldl (fun s lp => s.modPort lp f) s).port k = if k ∈ l then f (s.port k) else s.port k := by
  induction l generalizing s with
  | nil => simp
  | cons x r ih =>
    rw [List.foldl_cons, ih, State.port_modPort]
    by_cases hx : k = x
    · simp [hx, hf]
    · simp [hx]

theorem State.modPorts_frame (f : Port → Port) (l : List Nat) (s : State) :
    l.foldl (fun s lp => s.modPort lp f) s = { s with fwd := (l.foldl (fun s lp => s.modPort lp f) s).fwd } := by
  induction l generalizing s with
  | nil => rfl
  | cons x r ih => exact ih (s.modPort x f)

/-- A port that a calibration interrupts until an instant. -/
def Port.heldTo (e : Nat) (x : Port) : Port := { x with interruptedTo := e }
/-- A port whose lanes are aligned again. -/
def Port.realigned (x : Port) : Port := { x with interruptedTo := 0, aligned := true }
/-- The pair of an interruption. -/
def PairTrim.interrupted (x : PairTrim) : PairTrim := { x with interruptions := inc64 x.interruptions }

theorem State.interruptPair_eq (s : State) (p e : Nat) : s.interruptPair p e =
    (s.pairPorts p).foldl (fun s lp => s.modPort lp (Port.heldTo e)) (s.modPair p PairTrim.interrupted) := by
  have hports : (s.modPair p PairTrim.interrupted).pairPorts p = s.pairPorts p := State.pairPorts_of_alm rfl p
  rw [← hports]
  rfl

/-- An interruption of a pair (R388). -/
theorem State.interruptPair_leaves (s : State) (p e : Nat) :
    (s.interruptPair p e).cal = (s.modPair p PairTrim.interrupted).cal ∧
    (∀ lp, (s.interruptPair p e).port lp = if lp ∈ s.pairPorts p then (s.port lp).heldTo e else s.port lp) ∧
    s.interruptPair p e = { s with cal := (s.interruptPair p e).cal, fwd := (s.interruptPair p e).fwd } := by
  rw [State.interruptPair_eq]
  generalize s.pairPorts p = l
  have hport := State.port_modPorts (f := Port.heldTo e) (fun _ => rfl) l (s.modPair p PairTrim.interrupted)
  have hframe := State.modPorts_frame (Port.heldTo e) l (s.modPair p PairTrim.interrupted)
  generalize l.foldl _ _ = u at hport hframe
  have hcal := congrArg State.cal hframe
  exact ⟨hcal, hport, hframe.trans (congrArg (fun c : Calib => { s with cal := c, fwd := u.fwd }) hcal.symm)⟩

/-! ## CAL_START -/

section
variable (s : State) (t a : Nat)

theorem exec_calStart (k : Nat) (l : List Nat) (ha : a < 16) : exec (.calStart t a k l) s =
    .next ((s.at t).orderWrite a 0x41 0 0x01 (natLe 1 k ++ natLe 1 l.length ++ l.flatMap (fun u => natLe 1 u))) :=
  if_pos (decide_eq_true ha)
theorem exec_pairMeasureDone {p : Nat} (l : List Int) (hp : p < 128) :
    exec (.pairMeasureDone t p l) s = .next ((s.at t).pairMeasured p l) := if_pos (decide_eq_true hp)
theorem exec_alignTimeout {lp : Nat} (h : lp < 1024) : exec (.alignTimeout t lp) s = .next ((s.at t).alignTimeout lp) :=
  if_pos (decide_eq_true h)

end

/-- The bytes of CAL_START. -/
def calBytes (k : Nat) (l : List Nat) : List Byte := natLe 1 k ++ natLe 1 l.length ++ l.flatMap (fun u => natLe 1 u)

/-- What CAL_START reads back of its bytes. -/
theorem calBytes_read {k : Nat} {l : List Nat} (hk : k < 256) (hn : l.length < 256) (hl : ∀ x ∈ l, x < 256) :
    fieldAt (calBytes k l) 0 1 = k ∧ fieldAt (calBytes k l) 1 1 = l.length ∧
    ((calBytes k l).drop 2).map (·.toNat) = l := by
  have hbytes : ∀ r : List Nat, (∀ x ∈ r, x < 256) → (r.flatMap (fun u => natLe 1 u)).map (·.toNat) = r := by
    intro r
    induction r with
    | nil => exact fun _ => rfl
    | cons x r ih =>
      intro h
      obtain ⟨hx, hr⟩ := List.forall_mem_cons.1 h
      have hcons : ((x :: r).flatMap fun u => natLe 1 u) = BitVec.ofNat 8 x :: r.flatMap fun u => natLe 1 u := rfl
      have hto : (BitVec.ofNat 8 x).toNat = x := Nat.mod_eq_of_lt hx
      rw [hcons, List.map_cons, ih hr, hto]
  have hone (v : Nat) (hv : v < 256) : leNat [BitVec.ofNat 8 v] = v := by
    have hto : (BitVec.ofNat 8 v).toNat = v := Nat.mod_eq_of_lt hv
    simp [leNat, hto]
  exact ⟨hone k hk, hone l.length hn, hbytes l hl⟩

section
variable {s : State} {k : Nat} {l : List Nat}

/-- A list that CAL_START refuses for its form (R387). -/
def calBad (k : Nat) (l : List Nat) : Prop :=
  2 ≤ k ∨ l = [] ∨ 145 ≤ l.length ∨ (∃ x ∈ l, (if k = 0 then 128 else 144) ≤ x) ∨ (k = 0 ∧ ∃ x ∈ l, x / 64 ≠ l.headD 0 / 64)

/-- The calibration that a list begins. -/
def State.calBegun (s : State) (k : Nat) (l : List Nat) : State :=
  { s with cal := { s.cal with running := true, kind := k, todo := l.foldl (fun k x => insertNat x k) [], batch := [] } }

/-- CAL_START over its refusals (R387). -/
theorem State.calStart_cases (hk : k < 256) (hn : l.length < 256) (hl : ∀ x ∈ l, x < 256) :
    (calBad k l → s.calStart (calBytes k l) = (4, s)) ∧
    (¬ calBad k l → (k = 0 ∧ ∃ x ∈ l, s.isPruned 11 (x / 8) = true) → s.calStart (calBytes k l) = (3, s)) ∧
    (¬ calBad k l → ¬ (k = 0 ∧ ∃ x ∈ l, s.isPruned 11 (x / 8) = true) →
      (s.cal.running = true ∨ (k = 0 ∧ s.otherPending (l.headD 0 / 64) = true)) → s.calStart (calBytes k l) = (5, s)) ∧
    (¬ calBad k l → ¬ (k = 0 ∧ ∃ x ∈ l, s.isPruned 11 (x / 8) = true) →
      ¬ (s.cal.running = true ∨ (k = 0 ∧ s.otherPending (l.headD 0 / 64) = true)) →
      s.calStart (calBytes k l) = (0, (s.calBegun k l).nextBatch)) := by
  obtain ⟨hkind, hlen, hlist⟩ := calBytes_read hk hn hl
  have hany : (l.any fun x => decide ((if k = 0 then 128 else 144) ≤ x)) = true ↔
      ∃ x ∈ l, (if k = 0 then 128 else 144) ≤ x := by simp
  have hmix : (l.any fun x => decide (pairSide x ≠ l.headD 0 / 64)) = true ↔ ∃ x ∈ l, x / 64 ≠ l.headD 0 / 64 := by
    simp [pairSide]
  have hpruned : (l.any fun x => s.isPruned 11 (x / 8)) = true ↔ ∃ x ∈ l, s.isPruned 11 (x / 8) = true := by simp
  have hnil : l.length = 0 ↔ l = [] := List.length_eq_zero_iff
  have hside : pairSide (l.headD 0) = l.headD 0 / 64 := rfl
  unfold State.calStart calBad
  simp only [hkind, hlen, hlist, hany, hmix, hpruned, hnil, hside]
  refine ⟨fun h => ?_, fun h hp => ?_, fun h hp hb => ?_, fun h hp hb => ?_⟩
  · obtain h | h | h | h | h := h
    · exact if_pos (.inl h)
    · exact if_pos (.inr (.inl h))
    · exact if_pos (.inr (.inr (.inl h)))
    · exact if_pos (.inr (.inr (.inr (.inr h))))
    · exact (ite_eq_left_iff.2 fun _ => if_pos h)
  all_goals
    rw [if_neg fun hbad => h (hbad.imp_right fun h1 => h1.imp_right fun h2 => h2.imp_right fun h3 =>
      .inl (h3.resolve_left fun hne => hne rfl)), if_neg fun hmixed => h (.inr (.inr (.inr (.inr hmixed))))]
  · exact if_pos hp
  · exact (if_neg hp).trans (if_pos hb)
  · exact (if_neg hp).trans (if_neg hb)

end

/-! ## The next pairs of a list -/

theorem State.nextBatch_sensors {s : State} (h : s.cal.kind ≠ 0) : s.nextBatch = s := if_pos (.inr (.inl h))

/-- The list is at its end, and with it the calibration. -/
theorem State.nextBatch_ends {s : State} (hk : s.cal.kind = 0) (hb : s.cal.batch = []) (ht : s.cal.todo = [])
    (hr : s.cal.running = true) :
    s.nextBatch = { s with cal := { s.cal with batch := [], todo := [], running := false } } := by
  unfold State.nextBatch
  rw [if_neg (by simp [hk, hb, hr]), ht]
  rfl

/-- The calibration of one pair, which is being measured. -/
def State.calOne (s : State) (p : Nat) : State :=
  { s with cal := { s.cal with running := true, kind := 0, todo := [], batch := [p] } }

theorem State.nextBatch_one (s : State) (p : Nat) :
    (s.calBegun 0 [p]).nextBatch = (s.calOne p).interruptPair p (s.now + 350000) := by
  unfold State.nextBatch
  rw [if_neg (by simp [State.calBegun])]
  rfl

/-! ## Measurements -/

section
variable (s : State) (p : Nat)

/-- A pair that is still being measured holds the port. -/
def State.heldPort (lp : Nat) : Bool := s.cal.batch.any fun q => decide (lp ∈ s.pairPorts q)

/-- A port that no pair holds is aligned again. -/
def State.realignPort (lp : Nat) : State := if s.heldPort lp then s else s.modPort lp Port.realigned

theorem State.realign_eq : s.realign p = (s.pairPorts p).foldl State.realignPort s := rfl

theorem State.realignPort_frame (lp : Nat) : s.realignPort lp = { s with fwd := (s.realignPort lp).fwd } := by
  unfold State.realignPort
  split <;> rfl

theorem State.heldPort_of_same {s u : State} (hb : u.cal = s.cal) (ha : u.alm = s.alm) (lp : Nat) :
    u.heldPort lp = s.heldPort lp := by
  unfold State.heldPort
  rw [hb]
  simp only [State.pairPorts_of_alm ha]

/-- The ports that an alignment reaches, and what it leaves (R388). -/
theorem State.realignPorts_leaves (l : List Nat) (s : State) :
    (∀ k, (l.foldl State.realignPort s).port k =
      if k ∈ l ∧ s.heldPort k = false then (s.port k).realigned else s.port k) ∧
    l.foldl State.realignPort s = { s with fwd := (l.foldl State.realignPort s).fwd } := by
  induction l generalizing s with
  | nil => exact ⟨fun k => (if_neg (by simp)).symm, rfl⟩
  | cons x r ih =>
    obtain ⟨hports, hframe⟩ := ih (s.realignPort x)
    have hx := s.realignPort_frame x
    have hheld (k : Nat) : (s.realignPort x).heldPort k = s.heldPort k :=
      State.heldPort_of_same (by rw [hx]) (by rw [hx]) k
    have hone (k : Nat) : (s.realignPort x).port k =
        if k = x ∧ s.heldPort k = false then (s.port k).realigned else s.port k := by
      unfold State.realignPort
      cases hh : s.heldPort x with
      | true =>
        rw [if_pos rfl, if_neg]
        rintro ⟨rfl, hf⟩
        exact Bool.false_ne_true (hf.symm.trans hh)
      | false =>
        rw [if_neg Bool.false_ne_true, State.port_modPort]
        by_cases hk : k = x
        · rw [if_pos hk, if_pos ⟨hk, hk ▸ hh⟩, hk]
        · rw [if_neg hk, if_neg fun h => hk h.1]
    refine ⟨fun k => ?_, ?_⟩
    · rw [List.foldl_cons, hports, hheld, hone]
      by_cases hh : s.heldPort k = false
      · by_cases hk : k = x
        · rw [if_pos (c := k = x ∧ _) ⟨hk, hh⟩, if_pos (c := k ∈ x :: r ∧ _) ⟨List.mem_cons.2 (.inl hk), hh⟩]
          split <;> rfl
        · simp [hk]
      · simp [hh]
    · rw [List.foldl_cons]
      exact hframe.trans (congrArg (fun v : State => { v with fwd := (r.foldl State.realignPort (s.realignPort x)).fwd }) hx)

theorem State.realign_leaves :
    (∀ lp, (s.realign p).port lp =
      if lp ∈ s.pairPorts p ∧ ∀ q ∈ s.cal.batch, lp ∉ s.pairPorts q then (s.port lp).realigned else s.port lp) ∧
    s.realign p = { s with fwd := (s.realign p).fwd } := by
  obtain ⟨hports, hframe⟩ := State.realignPorts_leaves (s.pairPorts p) s
  refine ⟨fun lp => (hports lp).trans ?_, hframe⟩
  have hheld : s.heldPort lp = false ↔ ∀ q ∈ s.cal.batch, lp ∉ s.pairPorts q := by simp [State.heldPort]
  simp only [hheld]

end

section
variable {s : State} {p : Nat} {l : List Int}

theorem State.pairMeasured_idle (h : p ∉ s.cal.batch) : s.pairMeasured p l = s := if_pos h

/-- A pair leaves the batch. -/
def State.pairLeaves (s : State) (p : Nat) : State := { s with cal := { s.cal with batch := removeFrom s.cal.batch p } }

/-- A pair has been measured at an instant. -/
def PairTrim.measured (n : Nat) (x : PairTrim) : PairTrim := { x with lastCal := n }
/-- The values of a pair are staged. -/
def PairTrim.staged (l : List Int) (x : PairTrim) : PairTrim := { x with pending := some l }

/-- A measured pair whose ports realign. -/
def State.pairDone (s : State) (p : Nat) : State := ((s.pairLeaves p).modPair p (PairTrim.measured s.now)).realign p

theorem State.pairMeasured_staged (h : p ∈ s.cal.batch) (hl : trimsInRange l = true) : s.pairMeasured p l =
    (((s.pairDone p).modPair p (PairTrim.staged l)).causeGone (0xB02 + 4 * (p / 8))).nextBatch :=
  (if_neg (not_not.2 h)).trans (if_pos hl)

/-- What a measurement leaves before its values are judged (R388). -/
theorem State.pairDone_leaves (s : State) (p : Nat) :
    (s.pairDone p).cal = ((s.pairLeaves p).modPair p (PairTrim.measured s.now)).cal ∧
    (∀ lp, (s.pairDone p).port lp =
      if lp ∈ s.pairPorts p ∧ ∀ q ∈ removeFrom s.cal.batch p, lp ∉ s.pairPorts q then (s.port lp).realigned else s.port lp) ∧
    s.pairDone p = { s with cal := (s.pairDone p).cal, fwd := (s.pairDone p).fwd } := by
  obtain ⟨hports, hframe⟩ := ((s.pairLeaves p).modPair p (PairTrim.measured s.now)).realign_leaves p
  have hcal := congrArg State.cal hframe
  have hpair (q : Nat) : ((s.pairLeaves p).modPair p (PairTrim.measured s.now)).pairPorts q = s.pairPorts q :=
    State.pairPorts_of_alm rfl q
  refine ⟨hcal, fun lp => (hports lp).trans ?_, ?_⟩
  · simp only [hpair]
    rfl
  · unfold State.pairDone
    generalize State.realign _ p = u at hframe hcal
    exact hframe.trans (congrArg (fun c : Calib => { s with cal := c, fwd := u.fwd }) hcal.symm)

/-- A pair of an abandoned engine leaves the batch, and its ports realign (R390). -/
def State.abandonPair (k : Nat) (s : State) (q : Nat) : State :=
  if q / 8 = k then (s.pairLeaves q).realign q else s

/-- The pairs of an engine that still wait are dropped. -/
def State.dropEngine (s : State) (k : Nat) : State :=
  { s with cal := { s.cal with todo := s.cal.todo.filter (fun q => !decide (q / 8 = k)) } }

theorem State.pairMeasured_abandons (h : p ∈ s.cal.batch) (hl : trimsInRange l = false) : s.pairMeasured p l =
    ((((s.pairDone p).cal.batch.foldl (State.abandonPair (p / 8)) (s.pairDone p)).dropEngine (p / 8)).raiseFault
      (0xB02 + 4 * (p / 8))).nextBatch :=
  (if_neg (not_not.2 h)).trans (if_neg (by rw [hl]; exact Bool.false_ne_true))

/-- A batch without those of a list that are an engine's. -/
def withoutEngine (k : Nat) (l batch : List Nat) : List Nat :=
  batch.filter fun q => !(decide (q / 8 = k) && decide (q ∈ l))

theorem withoutEngine_all (k p : Nat) (l : List Nat) : withoutEngine k (removeFrom l p) (removeFrom l p) =
    l.filter fun q => !decide (q = p) && !decide (q / 8 = k) := by
  unfold withoutEngine removeFrom
  rw [List.filter_filter]
  refine List.filter_congr fun y hy => ?_
  by_cases hp : y = p
  · simp [hp]
  · simp [hp, hy]

theorem State.abandonPair_leaves (s : State) (k q : Nat) :
    (s.abandonPair k q).cal = { s.cal with batch := withoutEngine k [q] s.cal.batch } ∧
    s.abandonPair k q = { s with cal := (s.abandonPair k q).cal, fwd := (s.abandonPair k q).fwd } := by
  unfold State.abandonPair
  by_cases hq : q / 8 = k
  · rw [if_pos hq]
    have hframe := ((s.pairLeaves q).realign_leaves q).2
    generalize (s.pairLeaves q).realign q = u at hframe
    have hcal := congrArg State.cal hframe
    have hbatch : removeFrom s.cal.batch q = withoutEngine k [q] s.cal.batch :=
      List.filter_congr fun y _ => by
        by_cases hy : y = q
        · simp [hy, hq]
        · simp [hy]
    refine ⟨hcal.trans ?_, hframe.trans (congrArg (fun c : Calib => { s with cal := c, fwd := u.fwd }) hcal.symm)⟩
    rw [← hbatch]
    rfl
  · rw [if_neg hq]
    have hbatch : withoutEngine k [q] s.cal.batch = s.cal.batch :=
      List.filter_eq_self.2 fun y _ => by
        by_cases hy : y = q
        · simp [hy, hq]
        · simp [hy]
    rw [hbatch]
    exact ⟨rfl, rfl⟩

/-- What the abandoning of an engine's pairs leaves (R390). -/
theorem State.abandonPairs_leaves (k : Nat) (l : List Nat) (s : State) :
    (l.foldl (State.abandonPair k) s).cal = { s.cal with batch := withoutEngine k l s.cal.batch } ∧
    l.foldl (State.abandonPair k) s = { s with
      cal := (l.foldl (State.abandonPair k) s).cal, fwd := (l.foldl (State.abandonPair k) s).fwd } := by
  induction l generalizing s with
  | nil => simp [withoutEngine]
  | cons x r ih =>
    obtain ⟨hcal, hframe⟩ := s.abandonPair_leaves k x
    obtain ⟨hcals, hframes⟩ := ih (s.abandonPair k x)
    rw [List.foldl_cons]
    generalize r.foldl (State.abandonPair k) (s.abandonPair k x) = u at hcals hframes
    refine ⟨hcals.trans ?_, hframes.trans (congrArg (fun v : State => { v with cal := u.cal, fwd := u.fwd }) hframe)⟩
    rw [hcal]
    have hboth : withoutEngine k r (withoutEngine k [x] s.cal.batch) = withoutEngine k (x :: r) s.cal.batch := by
      unfold withoutEngine
      rw [List.filter_filter]
      refine List.filter_congr fun y _ => ?_
      simp only [List.mem_cons, List.not_mem_nil, or_false, Bool.decide_or]
      generalize decide (y / 8 = k) = b
      cases b
      · rfl
      · simp only [Bool.true_and, Bool.not_or]
        exact Bool.and_comm ..
    exact congrArg (fun b => { s.cal with batch := b }) hboth

end

/-! ## The end of an alignment and of a list of sensors -/

section
variable {s : State}

theorem State.alignTimeout_idle {lp : Nat}
    (h : (s.port lp).interruptedTo = 0 ∨ s.now < (s.port lp).interruptedTo + 100000) : s.alignTimeout lp = s := if_pos h

theorem State.alignTimeout_lost {lp : Nat} (h0 : (s.port lp).interruptedTo ≠ 0)
    (ht : (s.port lp).interruptedTo + 100000 ≤ s.now) : PortMoved s (s.alignTimeout lp) lp
    (let p := s.port lp
     { p with interruptedTo := 0, aligned := false, st := if p.st = .listen ∨ p.st = .forwarding then .down else p.st }) := by
  have heq : s.alignTimeout lp = (s.modPort lp (Port.heldTo 0)).portLost lp := if_neg (by omega)
  have hself : (s.modPort lp (Port.heldTo 0)).port lp = (s.port lp).heldTo 0 := by rw [State.port_modPort, if_pos rfl]
  obtain ⟨hport, hothers, hframe⟩ := (s.modPort lp (Port.heldTo 0)).portLost_moved lp
  rw [heq]
  refine ⟨hport.trans ?_, fun k hk => (hothers k hk).trans ?_, hframe⟩
  · rw [hself]
    simp [Port.heldTo]
  · rw [State.port_modPort, if_neg hk]

theorem State.sensorsDone_idle {l : List (Nat × Int × Int)} (h : s.cal.running = false ∨ s.cal.kind ≠ 1) :
    s.sensorsDone l = s := if_pos (by simpa using h)

/-- The result of a sensor is staged where the list asked for it and it lies in its range. -/
def stageSensor (todo : List Nat) (s : State) (r : Nat × Int × Int) : State :=
  if r.1 ∈ todo ∧ sensorInRange r.2.1 r.2.2 = true then s.modSensor r.1 (fun x => { x with pending := some r.2 }) else s

theorem State.sensorsDone_stages {l : List (Nat × Int × Int)} (hr : s.cal.running = true) (hk : s.cal.kind = 1) :
    s.sensorsDone l = l.foldl (stageSensor s.cal.todo) { s with cal := { s.cal with running := false, todo := [] } } :=
  if_neg (by simp [hr, hk])

theorem stageSensors_leaves (todo : List Nat) (l : List (Nat × Int × Int)) (s : State) :
    (∀ k, (l.foldl (stageSensor todo) s).sensor k = l.foldl (fun x r =>
      if r.1 = k ∧ k ∈ todo ∧ sensorInRange r.2.1 r.2.2 = true then { x with pending := some r.2 } else x) (s.sensor k)) ∧
    l.foldl (stageSensor todo) s =
      { s with cal := { s.cal with sensors := (l.foldl (stageSensor todo) s).cal.sensors } } := by
  induction l generalizing s with
  | nil => exact ⟨fun _ => rfl, rfl⟩
  | cons r rest ih =>
    obtain ⟨hsensor, hframe⟩ := ih (stageSensor todo s r)
    have hone (k : Nat) : (stageSensor todo s r).sensor k =
        if r.1 = k ∧ k ∈ todo ∧ sensorInRange r.2.1 r.2.2 = true then { s.sensor k with pending := some r.2 } else s.sensor k := by
      unfold stageSensor
      by_cases hk : r.1 = k
      · subst hk
        by_cases hc : r.1 ∈ todo ∧ sensorInRange r.2.1 r.2.2 = true
        · rw [if_pos hc, State.sensor_modSensor, if_pos rfl, if_pos ⟨rfl, hc⟩]
        · rw [if_neg hc, if_neg fun h => hc h.2]
      · split
        · rw [State.sensor_modSensor, if_neg (Ne.symm hk), if_neg fun h => hk h.1]
        · rw [if_neg fun h => hk h.1]
    have hrest : stageSensor todo s r = { s with cal := { s.cal with sensors := (stageSensor todo s r).cal.sensors } } := by
      unfold stageSensor
      split <;> rfl
    refine ⟨fun k => (hsensor k).trans ?_, ?_⟩
    · rw [hone]
      rfl
    · rw [List.foldl_cons]
      generalize rest.foldl (stageSensor todo) (stageSensor todo s r) = u at hframe
      exact hframe.trans (by rw [hrest])

end

/-! ## The obligation -/

section
variable {s : State} {t a : Nat}

theorem spaceOf_cal : spaceOf 0x41 0 = some (.cal, 0) := rfl

theorem writeBlob_calStart (s : State) (a fam inst n : Nat) (b : List Byte) :
    s.writeBlob a fam inst 0x01 .cal n b = byStatus (s.calStart b) := rfl

/-- An accepted CAL_START. -/
theorem calStart_accepted {k : Nat} {l : List Nat} {v : State} (ha : a < 16) (h : takesAtOnce s t a)
    (hw : mayWrite s a 0x41 0 0x01) (hs : (s.at t).calStart (calBytes k l) = (0, v)) (hv : v.now = t) :
    ∃ u, exec (.calStart t a k l) s = .next u ∧ accepted v u t := by
  refine ⟨_, exec_calStart s t a k l ha, ?_⟩
  subst hv
  exact row_blob (s := s) h spaceOf_cal rfl (.inr hw) (by simp) (by simp) rfl rfl
    ((writeBlob_calStart ..).trans (congrArg byStatus hs))

theorem calStart_refused {k e : Nat} {l : List Nat} (ha : a < 16) (h : takesAtOnce s t a)
    (hw : mayWrite s a 0x41 0 0x01) (he : e ≠ 0) (hs : (s.at t).calStart (calBytes k l) = (e, s.at t)) :
    exec (.calStart t a k l) s = .next ((s.at t).say e [] 0) := by
  refine (exec_calStart s t a k l ha).trans (congrArg Host.Outcome.next ?_)
  refine row_blob_refused (s := s) (t := t) h spaceOf_cal rfl (.inr hw) (by simp) (by simp) rfl rfl he
    ((writeBlob_calStart ..).trans ((congrArg byStatus hs).trans (if_neg he)))

end

/-- Settles O47: CAL_START over its refusals; a measurement through `pairDone` and what its values then do. -/
theorem calibrationRuns : Obligations.CalibrationRuns := by
  intro s t a ha
  refine ⟨fun h hw => ⟨fun k l hk hn hl => ?_, fun l hne hlen hl hrun => ?_, fun p hp hpr hrun hother => ?_⟩,
    fun p l hp => ⟨fun hb => ?_, fun hb hl => ?_, fun hb hl => ?_, fun hb htodo hrun hkind hl => ?_⟩,
    fun lp hlp => ⟨fun h => ?_, fun h0 ht => ?_⟩, fun l => ⟨fun h => ?_, fun hr hk => ?_⟩⟩
  · obtain ⟨hbad, hpruned, hbusy, htaken⟩ := State.calStart_cases (s := s.at t) hk hn hl
    refine ⟨fun hb => calStart_refused ha h hw (by decide) (hbad hb),
      fun hb hp => calStart_refused ha h hw (by decide) (hpruned hb hp),
      fun hb hp hr => calStart_refused ha h hw (by decide) (hbusy hb hp hr), fun hb hp hr => ?_⟩
    obtain ⟨u, hex, hacc⟩ := calStart_accepted ha h hw (htaken hb hp hr) (by simp only [State.nextBatch_kept ..]; rfl)
    exact ⟨u, _, hex, rfl, hacc⟩
  · have hgood : ¬ calBad 1 l := by
      unfold calBad
      rintro (hb | hb | hb | ⟨x, hx, hb⟩ | ⟨hb, -⟩)
      · omega
      · exact hne hb
      · omega
      · exact absurd hb (Nat.not_le.2 (hl x hx))
      · omega
    have htaken := (State.calStart_cases (s := s.at t) (k := 1) (by decide) (by omega)
      fun x hx => Nat.lt_trans (hl x hx) (by decide)).2.2.2 hgood (fun hp => absurd hp.1 (by decide))
      (fun hb => hb.elim (fun hb => Bool.false_ne_true (hrun.symm.trans hb)) fun hb => absurd hb.1 (by decide))
    rw [State.nextBatch_sensors (s := (s.at t).calBegun 1 l) Nat.one_ne_zero] at htaken
    exact calStart_accepted ha h hw htaken rfl
  · have hgood : ¬ calBad 0 [p] := by
      unfold calBad
      rintro (hb | hb | hb | ⟨x, hx, hb⟩ | ⟨-, x, hx, hb⟩)
      · omega
      · exact List.cons_ne_nil _ _ hb
      · exact absurd hb (by simp)
      · rw [List.mem_singleton.1 hx] at hb
        exact absurd hb (Nat.not_le.2 hp)
      · rw [List.mem_singleton.1 hx] at hb
        exact hb rfl
    have htaken := (State.calStart_cases (s := s.at t) (k := 0) (l := [p]) (by decide) (by simp)
      fun x hx => by rw [List.mem_singleton.1 hx]; omega).2.2.2 hgood
      (fun ⟨_, x, hx, hb⟩ => by
        rw [List.mem_singleton.1 hx] at hb
        exact Bool.false_ne_true (hpr.symm.trans hb))
      (fun hb => hb.elim (fun hb => Bool.false_ne_true (hrun.symm.trans hb)) fun hb =>
        Bool.false_ne_true (hother.symm.trans hb.2))
    rw [State.nextBatch_one] at htaken
    obtain ⟨hcal, hports, hframe⟩ := ((s.at t).calOne p).interruptPair_leaves p ((s.at t).now + 350000)
    generalize ((s.at t).calOne p).interruptPair p ((s.at t).now + 350000) = w at htaken hcal hports hframe
    obtain ⟨u, hex, hacc⟩ := calStart_accepted ha h hw htaken (congrArg State.now hframe)
    obtain ⟨hcal', hfwd⟩ := accepted_cal hacc
    have hpair := (State.pair_of_cal (hcal'.trans hcal) p).trans ((State.pair_modPair _ p p _).trans (if_pos rfl))
    rw [← hcal'] at hcal
    have hint := congrArg PairTrim.interruptions hpair
    have hact := congrArg PairTrim.active hpair
    refine ⟨u, hex, congrArg Calib.running hcal, congrArg Calib.batch hcal, congrArg Calib.todo hcal, hint, hact,
      fun lp => ?_, ?_⟩
    · rw [State.port_of_fwd hfwd, hports, State.pairPorts_of_alm (s := s) rfl]
      exact apply_ite Port.interruptedTo ..
    · rw [hcal', hfwd]
      exact hframe ▸ hacc
  · exact (exec_pairMeasureDone s t l hp).trans (congrArg _ (State.pairMeasured_idle (s := s.at t) hb))
  · obtain ⟨hcal, hports, hframe⟩ := (s.at t).pairDone_leaves p
    have hmeas := State.pairMeasured_staged (s := s.at t) hb hl
    have hpair (q : Nat) : ((s.at t).pairDone p).pair q = if q = p then (s.pair p).measured t else s.pair q :=
      (State.pair_of_cal hcal q).trans (State.pair_modPair _ p q _)
    generalize (s.at t).pairDone p = w at hcal hports hframe hmeas hpair
    have hself : ((w.modPair p (PairTrim.staged l)).causeGone (0xB02 + 4 * (p / 8))).pair p =
        (w.pair p).staged l := (State.pair_modPair w p p _).trans (if_pos rfl)
    have hothers (q : Nat) (hq : q ≠ p) : ((w.modPair p (PairTrim.staged l)).causeGone (0xB02 + 4 * (p / 8))).pair q =
        w.pair q := (State.pair_modPair w p q _).trans (if_neg hq)
    have hbatch := congrArg Calib.batch hcal
    have htodo := congrArg Calib.todo hcal
    have hrun := congrArg Calib.running hcal
    refine ⟨_, (exec_pairMeasureDone s t l hp).trans (congrArg Host.Outcome.next hmeas), hbatch, htodo, hrun, ?_,
      fun q hq => ?_, ?_, fun lp => hports lp, ?_⟩
    · rw [hself, hpair, if_pos rfl]
      rfl
    · rw [hothers q hq, hpair, if_neg hq]
    · unfold State.causeGone
      rw [State.source_modSource, if_pos rfl]
    · have hf := congrArg (fun v : State => { v with
        cal := ((w.modPair p (PairTrim.staged l)).causeGone (0xB02 + 4 * (p / 8))).cal
        flt := ((w.modPair p (PairTrim.staged l)).causeGone (0xB02 + 4 * (p / 8))).flt }) hframe
      exact hf
  · obtain ⟨hcal, -, hframe⟩ := (s.at t).pairDone_leaves p
    have hmeas := State.pairMeasured_abandons (s := s.at t) hb hl
    have hpair (q : Nat) : ((s.at t).pairDone p).pair q = if q = p then (s.pair p).measured t else s.pair q :=
      (State.pair_of_cal hcal q).trans (State.pair_modPair _ p q _)
    obtain ⟨hdrop, hdropped⟩ := State.abandonPairs_leaves (p / 8) ((s.at t).pairDone p).cal.batch ((s.at t).pairDone p)
    generalize (s.at t).pairDone p = w at hcal hframe hmeas hpair hdrop hdropped
    generalize w.cal.batch.foldl (State.abandonPair (p / 8)) w = x at hmeas hdrop hdropped
    have hbatch := congrArg Calib.batch hdrop
    have hwtodo := congrArg Calib.todo hcal
    have htodo := (congrArg Calib.todo hdrop).trans hwtodo
    have hpairs := congrArg Calib.pairs hdrop
    have hxpair (q : Nat) : (x.dropEngine (p / 8)).pair q = w.pair q :=
      congrArg (fun m => tget (fun _ => ({} : PairTrim)) m q) hpairs
    have hwb : w.cal.batch = removeFrom s.cal.batch p := congrArg Calib.batch hcal
    refine ⟨_, (exec_pairMeasureDone s t l hp).trans (congrArg Host.Outcome.next hmeas), hbatch.trans ?_,
      congrArg (fun m : List Nat => m.filter fun q => !decide (q / 8 = p / 8)) htodo, ?_, fun q hq => ?_, ?_⟩
    · rw [hwb]
      exact withoutEngine_all ..
    · rw [hxpair, hpair, if_pos rfl]
      rfl
    · rw [hxpair, hpair, if_neg hq]
    · have hf := (hdropped.trans (congrArg (fun v : State => { v with cal := x.cal, fwd := x.fwd }) hframe))
      have hf' := congrArg (State.dropEngine · (p / 8)) hf
      exact hf'
  · have hmem : p ∈ s.cal.batch := by rw [hb]; exact List.mem_singleton_self p
    obtain ⟨hcal, hports, hframe⟩ := (s.at t).pairDone_leaves p
    have hmeas := State.pairMeasured_staged (s := s.at t) hmem hl
    have hpair (q : Nat) : ((s.at t).pairDone p).pair q = if q = p then (s.pair p).measured t else s.pair q :=
      (State.pair_of_cal hcal q).trans (State.pair_modPair _ p q _)
    have hnone : removeFrom s.cal.batch p = [] := by rw [hb]; simp [removeFrom]
    generalize (s.at t).pairDone p = w at hcal hports hframe hmeas hpair
    have hbatch := congrArg Calib.batch hcal
    have hwtodo := congrArg Calib.todo hcal
    have hwrun := congrArg Calib.running hcal
    have hwkind := congrArg Calib.kind hcal
    rw [State.nextBatch_ends (s := (w.modPair p (PairTrim.staged l)).causeGone (0xB02 + 4 * (p / 8)))
      (hwkind.trans hkind) (hbatch.trans hnone) (hwtodo.trans htodo) (hwrun.trans hrun)] at hmeas
    refine ⟨_, (exec_pairMeasureDone s t l hp).trans (congrArg Host.Outcome.next hmeas), rfl, rfl, ?_, fun q hq => ?_,
      fun lp hlp => ?_, ?_⟩
    · have hself := (State.pair_modPair w p p (PairTrim.staged l)).trans (if_pos rfl)
      rw [hpair, if_pos rfl] at hself
      exact hself
    · have hother := (State.pair_modPair w p q (PairTrim.staged l)).trans (if_neg hq)
      rw [hpair, if_neg hq] at hother
      exact hother
    · have hport := hports lp
      rw [if_pos ⟨hlp, fun q hq => by
        have hq' : q ∈ removeFrom s.cal.batch p := hq
        rw [hnone] at hq'
        exact absurd hq' List.not_mem_nil⟩] at hport
      exact ⟨congrArg Port.interruptedTo hport, congrArg Port.aligned hport⟩
    · have hf := congrArg (fun v : State => { v with
        cal := { (w.modPair p (PairTrim.staged l)).cal with batch := [], todo := [], running := false }
        flt := (w.causeGone (0xB02 + 4 * (p / 8))).flt }) hframe
      exact hf
  · exact (exec_alignTimeout s t hlp).trans (congrArg _ (State.alignTimeout_idle (s := s.at t) h))
  · obtain ⟨hport, hothers, hframe⟩ := State.alignTimeout_lost (s := s.at t) h0 ht
    exact ⟨_, exec_alignTimeout s t hlp, hport, hothers, hframe⟩
  · exact congrArg Host.Outcome.next (State.sensorsDone_idle (s := s.at t) h)
  · obtain ⟨hsensor, hframe⟩ := stageSensors_leaves s.cal.todo l
      { s.at t with cal := { s.cal with running := false, todo := [] } }
    refine ⟨_, congrArg Host.Outcome.next (State.sensorsDone_stages (s := s.at t) hr hk), ?_, ?_, hsensor, ?_, ?_⟩
    · exact (congrArg (fun v : State => v.cal.running) hframe).trans rfl
    · exact (congrArg (fun v : State => v.cal.todo) hframe).trans rfl
    · exact (congrArg (fun v : State => v.cal.pairs) hframe).trans rfl
    · have hc := congrArg State.cal hframe
      exact hframe.trans (congrArg (fun c : Calib => { s.at t with cal := c }) hc.symm)

end Sys2Proof.Machine
end

section
/-! PROOFS. The trim epoch (R391): the counterexample of a clock that has passed 2^64 ns. -/

namespace Sys2Proof.Machine

theorem exec_epoch {a : Nat} (t v : Nat) (s : State) (ha : a < 16) :
    exec (.epoch t a v) s = .next ((s.at t).orderNumber a 0x41 0 0x04 8 v) := if_pos (decide_eq_true ha)

/-- A block whose Almanac is live and whose Shed runs. -/
def almanacLive : State := { State.reset with
  alm := { State.reset.alm with live := true }
  shed := { State.reset.shed with restarting := false, journal := [], pairsDown := [] } }

theorem almanacLive_takes (t : Nat) : takesAtOnce almanacLive t 0 where
  live := rfl
  runs := rfl
  drained := rfl
  up := List.not_mem_nil
  slots := fun _ h => nomatch h
  olds := fun _ h => nomatch h
  cycles := fun _ h => nomatch h

theorem almanacLive_mayArm : mayWrite almanacLive 0 0x41 0 0x04 := ⟨.cal, 0, _, rfl, rfl, by decide⟩

/-- A field of eight bytes holds no time of 2^64 ns: the order arms as one of 0 does. -/
theorem exec_epoch_wraps (t : Nat) (s : State) : exec (.epoch t 0 (2 ^ 64)) s = exec (.epoch t 0 0) s := by
  have hbytes : natLe 8 (2 ^ 64) = natLe 8 0 := by decide
  rw [exec_epoch _ _ _ (by decide), exec_epoch _ _ _ (by decide)]
  unfold State.orderNumber
  rw [hbytes]

/-- Refutes O48: at 2^64 ns an EPOCH of that instant is too early, and the statement has it counted as a clamp; its field of
eight bytes holds 0, which arms the next epoch without a clamp. -/
theorem not_trimEpochs : ¬ Obligations.TrimEpochs := by
  unfold Obligations.TrimEpochs
  intro h
  obtain ⟨⟨-, hearly, hzero⟩, -⟩ :=
    (h almanacLive (2 ^ 64) 0 (by decide)).imp_left fun hw => hw (almanacLive_takes _) almanacLive_mayArm
  obtain ⟨u, hu, hclamps, -⟩ := hearly (2 ^ 64) (by decide) (by decide)
  obtain ⟨v, hv, hacc⟩ := hzero
  have huv : u = v := Host.Outcome.next.inj (hu.symm.trans ((exec_epoch_wraps ..).trans hv))
  have hallots : v.allots = almanacLive.allots := by simp only [accepted_kept hacc]; rfl
  have hsame : (u.allot 0).clamps = (almanacLive.allot 0).clamps := by
    unfold State.allot
    rw [huv, hallots]
  rw [hsame] at hclamps
  exact absurd hclamps (by decide)

end Sys2Proof.Machine
end

section
/-! PROOFS. Feeds, phases, KEEP and temperature (R438 to R441, R443, R444, R446 to R449). -/

namespace Sys2Proof.Machine

/-! ## The load between the feeds -/

section
variable {s : State} {f : Nat}

/-- The load is on a feed. -/
def Module.onFeed (m : Module) (f : Nat) : Module := { m with feedInUse := f, switchovers := inc64 m.switchovers }

theorem State.switchTo_same (h : s.mod.feedInUse = f) : s.switchTo f = s := if_pos h

theorem State.switchTo_other (h : s.mod.feedInUse ≠ f) :
    s.switchTo f = { s with mod := s.mod.onFeed f }.raise 0x0211 := if_neg h

/-- What a change of the feed in use leaves (R438). -/
theorem State.switchTo_leaves (s : State) (f : Nat) :
    (s.switchTo f).mod = (if s.mod.feedInUse = f then s.mod else s.mod.onFeed f) ∧
    (s.mod.feedInUse ≠ f → (s.switchTo f).route true 0x0211 = (s.route true 0x0211).raised) ∧
    s.switchTo f = { s with mod := (s.switchTo f).mod, irq := (s.switchTo f).irq, allots := (s.switchTo f).allots,
                            emits := (s.switchTo f).emits } := by
  by_cases h : s.mod.feedInUse = f
  · rw [State.switchTo_same h, if_pos h]
    exact ⟨rfl, fun hne => absurd h hne, rfl⟩
  · rw [State.switchTo_other h, if_neg h]
    refine ⟨by simp only [State.raise_kept ..], fun _ => ?_, State.parts.2 (by simp [State.raise_kept ..])⟩
    exact State.route_raise_self (State.sourceOwner_low _ (by decide) (by decide)) true

theorem State.feedInUse_switchTo (s : State) (f : Nat) : (s.switchTo f).mod.feedInUse = f := by
  rw [(s.switchTo_leaves f).1]
  split
  · next h => exact h
  · rfl

/-- The module with a feed in range and its STATE. -/
def Module.feedTaken (m : Module) (f now : Nat) : Module :=
  if f = 0 then { m with rangeA := true, sinceA := now, feedA := if m.feedA < 3 then 1 else m.feedA }
  else { m with rangeB := true, sinceB := now, feedB := if m.feedB < 3 then 1 else m.feedB }
/-- A feed in range isolates the other, PRUNED and still connected. -/
def Module.isolates (m : Module) (f : Nat) : Bool :=
  m.usable f && (if f = 0 then decide (m.feedB = 3) else decide (m.feedA = 3))
/-- The other feed is isolated. -/
def Module.isolated (m : Module) (f : Nat) : Module := if f = 0 then { m with feedB := 4 } else { m with feedA := 4 }
/-- The module with a feed judged in range: its own STATE, and the other's when that one is isolated (R438, R441). -/
def Module.feedInRange (m : Module) (f now : Nat) : Module :=
  if !(m.feedTaken f now).isolates f then m.feedTaken f now else (m.feedTaken f now).isolated f

theorem Module.feedInRange_load (m : Module) (f now : Nat) :
    (m.feedInRange f now).on = m.on ∧ (m.feedInRange f now).feedInUse = m.feedInUse ∧
    (m.feedInRange f now).switchovers = m.switchovers := by
  have htaken : (m.feedTaken f now).on = m.on ∧ (m.feedTaken f now).feedInUse = m.feedInUse ∧
      (m.feedTaken f now).switchovers = m.switchovers := by
    unfold Module.feedTaken
    split <;> exact ⟨rfl, rfl, rfl⟩
  unfold Module.feedInRange Module.isolated
  generalize m.feedTaken f now = k at htaken
  split
  · exact htaken
  · split <;> exact htaken

/-- The block with a feed judged in range, before the load moves. -/
def State.feedJudgedIn (s : State) (f : Nat) : State :=
  { s with mod := s.mod.feedInRange f s.now }.causeGone (0xD00 + f)

theorem State.feedIn_eq (s : State) (f : Nat) : s.feedIn f =
    if s.mod.on = false ∨ (s.mod.feedInUse < 2 ∧ (s.mod.feedInRange f s.now).usable s.mod.feedInUse = true) then s.feedJudgedIn f
    else if (s.mod.feedInRange f s.now).usable f = true then (s.feedJudgedIn f).switchTo f else s.feedJudgedIn f := by
  obtain ⟨hon, huse, -⟩ := s.mod.feedInRange_load f s.now
  have heq : s.feedIn f = if !(s.mod.feedInRange f s.now).on then s.feedJudgedIn f
      else if (s.mod.feedInRange f s.now).feedInUse < 2 ∧
        (s.mod.feedInRange f s.now).usable (s.mod.feedInRange f s.now).feedInUse then s.feedJudgedIn f
      else if (s.mod.feedInRange f s.now).usable f then (s.feedJudgedIn f).switchTo f else s.feedJudgedIn f := rfl
  rw [heq, hon, huse]
  cases hm : s.mod.on
  · simp
  · simp

/-- What Module.feedInRange leaves, feed by feed. -/
theorem Module.feedInRange_first (m : Module) (now : Nat) :
    (m.feedInRange 0 now).rangeA = true ∧ (m.feedInRange 0 now).sinceA = now ∧
    (m.feedInRange 0 now).feedA = (if m.feedA < 3 then 1 else m.feedA) ∧
    (m.feedInRange 0 now).feedB = (if m.feedB = 3 ∧ m.feedA ≠ 4 then 4 else m.feedB) ∧
    (m.feedInRange 0 now).rangeB = m.rangeB := by
  have hA : (if m.feedA < 3 then 1 else m.feedA) = 4 ↔ m.feedA = 4 := by split <;> omega
  by_cases hB : m.feedB = 3 <;> by_cases h4 : m.feedA = 4
  · simp [Module.feedInRange, Module.feedTaken, Module.isolates, Module.usable, hB, h4]
  · simp [Module.feedInRange, Module.feedTaken, Module.isolates, Module.isolated, Module.usable, hB, h4, hA]
  · simp [Module.feedInRange, Module.feedTaken, Module.isolates, Module.usable, hB]
  · simp [Module.feedInRange, Module.feedTaken, Module.isolates, Module.usable, hB]

theorem Module.feedInRange_second (m : Module) (now : Nat) :
    (m.feedInRange 1 now).rangeB = true ∧ (m.feedInRange 1 now).sinceB = now ∧
    (m.feedInRange 1 now).feedB = (if m.feedB < 3 then 1 else m.feedB) ∧
    (m.feedInRange 1 now).feedA = (if m.feedA = 3 ∧ m.feedB ≠ 4 then 4 else m.feedA) ∧
    (m.feedInRange 1 now).rangeA = m.rangeA := by
  have hB : (if m.feedB < 3 then 1 else m.feedB) = 4 ↔ m.feedB = 4 := by split <;> omega
  by_cases hA : m.feedA = 3 <;> by_cases h4 : m.feedB = 4
  · simp [Module.feedInRange, Module.feedTaken, Module.isolates, Module.usable, hA, h4]
  · simp [Module.feedInRange, Module.feedTaken, Module.isolates, Module.isolated, Module.usable, hA, h4, hB]
  · simp [Module.feedInRange, Module.feedTaken, Module.isolates, Module.usable, hA]
  · simp [Module.feedInRange, Module.feedTaken, Module.isolates, Module.usable, hA]

end

/-! ## Sources of a light class -/

section
variable {s u v : State} {id : Nat}

theorem State.react_one (s : State) (id : Nat) :
    s.react id 1 = if id / 256 = 13 then s.alert 0 else if id / 256 = 14 then s.alert 1 else s := rfl

/-- A raise of a source whose class prunes nothing (R378). -/
theorem RaisedAlone.raised_light (s : State) (hc : s.classOf id ≤ 1) (forced : Bool) : RaisedAlone s (s.raised id forced) := by
  unfold State.raised
  split
  · exact .refl s
  · have hrec := RaisedAlone.recordRaise s id forced
    generalize s.recordRaise id forced = w at hrec
    obtain h | h : s.classOf id = 0 ∨ s.classOf id = 1 := by omega
    · rw [h]; exact hrec
    · rw [h, State.react_one]
      split_ifs
      · exact hrec.trans (.alert w 0)
      · exact hrec.trans (.alert w 1)
      · exact hrec

theorem RaisedAlone.raiseFault_light (hc : s.classOf id ≤ 1) : RaisedAlone s (s.raiseFault id) := by
  have hclass : (s.modSource id fun x => { x with cause := true }).classOf id = s.classOf id := by
    unfold State.classOf
    rw [State.source_modSource, if_pos rfl]
  have hset := RaisedAlone.modSource s id fun x => { x with cause := true }
  unfold State.raiseFault
  dsimp only
  split
  · exact .refl s
  · split
    · exact hset
    · exact hset.trans (.raised_light _ (hclass ▸ hc) false)

end

/-! ## A feed out of range, and the load's return -/

section
variable {s : State} {f : Nat}

/-- The module with a feed judged out of range. -/
def Module.feedOutOfRange (m : Module) (f : Nat) : Module :=
  if f = 0 then { m with rangeA := false, feedA := if m.feedA < 3 then 2 else m.feedA }
  else { m with rangeB := false, feedB := if m.feedB < 3 then 2 else m.feedB }

/-- The block with a feed judged out of range, the load on the other when that can hold it. -/
def State.feedJudgedOut (s : State) (f : Nat) : State :=
  let m := s.mod.feedOutOfRange f
  if m.on ∧ m.feedInUse = f ∧ m.usable (1 - f) then { s with mod := m }.switchTo (1 - f) else { s with mod := m }

theorem State.feedOut_eq (s : State) (f : Nat) : s.feedOut f = (s.feedJudgedOut f).raiseFault (0xD00 + f) := rfl

theorem Module.feedOutOfRange_leaves (m : Module) (hf : f < 2) :
    (m.feedOutOfRange f).on = m.on ∧ (m.feedOutOfRange f).feedInUse = m.feedInUse ∧
    (m.feedOutOfRange f).usable (1 - f) = m.usable (1 - f) := by
  obtain rfl | rfl : f = 0 ∨ f = 1 := by omega
  · exact ⟨rfl, rfl, rfl⟩
  · exact ⟨rfl, rfl, rfl⟩

/-- What a feed judged out of range leaves before its source is raised. -/
theorem State.feedJudgedOut_leaves (s : State) (hf : f < 2) :
    (s.feedJudgedOut f).mod = (if s.mod.on = true ∧ s.mod.feedInUse = f ∧ s.mod.usable (1 - f) = true then
      (s.mod.feedOutOfRange f).onFeed (1 - f) else s.mod.feedOutOfRange f) ∧
    s.feedJudgedOut f = { s with mod := (s.feedJudgedOut f).mod, irq := (s.feedJudgedOut f).irq,
                                 allots := (s.feedJudgedOut f).allots, emits := (s.feedJudgedOut f).emits } := by
  obtain ⟨hon, huse, husable⟩ := s.mod.feedOutOfRange_leaves hf
  unfold State.feedJudgedOut
  dsimp only
  rw [hon, huse, husable]
  split
  · next h =>
    obtain ⟨hmod, -, hframe⟩ := { s with mod := s.mod.feedOutOfRange f }.switchTo_leaves (1 - f)
    exact ⟨hmod.trans (if_neg (by rw [huse]; omega)), hframe⟩
  · exact ⟨rfl, rfl⟩

theorem State.switchback_idle (h : s.mod.on = false ∨ s.mod.usable (s.cfgN 0x02 0 0x01) = false ∨ s.cfgN 0x02 0 0x02 = 0 ∨
    s.now < (if s.cfgN 0x02 0 0x01 = 0 then s.mod.sinceA else s.mod.sinceB) + s.cfgN 0x02 0 0x02 * 1000000) :
    s.switchback = s := by
  refine if_pos ?_
  simp only [Bool.or_eq_true, Bool.not_eq_true', decide_eq_true_eq]
  obtain h | h | h | h := h
  · exact .inl (.inl (.inl h))
  · exact .inl (.inr h)
  · exact .inl (.inl (.inr (by omega)))
  · exact .inr h

theorem State.switchback_returns (hon : s.mod.on = true) (hu : s.mod.usable (s.cfgN 0x02 0 0x01) = true)
    (hw : s.cfgN 0x02 0 0x02 ≠ 0)
    (ht : (if s.cfgN 0x02 0 0x01 = 0 then s.mod.sinceA else s.mod.sinceB) + s.cfgN 0x02 0 0x02 * 1000000 ≤ s.now) :
    s.switchback = s.switchTo (s.cfgN 0x02 0 0x01) := by
  refine if_neg ?_
  simp only [Bool.or_eq_true, Bool.not_eq_true', decide_eq_true_eq]
  rintro (((h | h) | h) | h)
  · exact Bool.false_ne_true (h.symm.trans hon)
  · omega
  · exact Bool.false_ne_true (h.symm.trans hu)
  · exact absurd h (Nat.not_lt.2 ht)

/-! ## The module stops -/

theorem State.feedsLost_idle (h : s.mod.rangeA = true ∨ s.mod.rangeB = true ∨ s.mod.on = false) : s.feedsLost = s := by
  refine if_pos ?_
  simp only [Bool.or_eq_true, Bool.not_eq_true']
  tauto

theorem State.feedsLost_stops (ha : s.mod.rangeA = false) (hb : s.mod.rangeB = false) (hon : s.mod.on = true) :
    s.feedsLost = s.stopModule := if_neg (by simp [ha, hb, hon])

/-- What a stop of the module leaves (R439). -/
theorem State.stopModule_leaves (s : State) : s.stopModule.mod = { s.mod with on := false, rails := [], feedInUse := 2 } ∧
    s.stopModule.alm.live = false ∧ s.stopModule.alm.store = s.alm.store ∧ s.stopModule.shed.running = false ∧
    s.stopModule.gauge.usage = s.gauge.usage ∧ s.stopModule.gauge.powered = s.gauge.powered ∧ s.stopModule.cal = s.cal := by
  unfold State.stopModule
  dsimp only
  split
  · exact ⟨rfl, rfl, rfl, rfl, rfl, rfl, rfl⟩
  · simp only [State.raise_kept .., and_self]

theorem State.rail_of_none (h : s.mod.rails = []) (r : Nat) : s.rail r = 0 := by
  unfold State.rail
  rw [h]
  rfl

theorem State.rail_stopModule (s : State) (r : Nat) : s.stopModule.rail r = 0 :=
  State.rail_of_none (by rw [s.stopModule_leaves.1]) r

end

/-! ## Phases and rails (R443, R444) -/

/-- What the fall of a phase may change besides the module: the collector, where no unit leaves PRUNED and no cause but that
of the spare phases goes, the interrupts and the alerts. -/
structure PhaseMoved (s u : State) : Prop where
  cause : ∀ k, k ≠ 0xD80 → (s.source k).cause = true → (u.source k).cause = true
  pruned : ∀ x ∈ s.flt.pruned, x ∈ u.flt.pruned
  frame : u = { s with mod := u.mod, flt := u.flt, irq := u.irq, allots := u.allots, emits := u.emits }

section
variable {s u v : State}

theorem PhaseMoved.refl (s : State) : PhaseMoved s s := ⟨fun _ _ => id, fun _ => id, rfl⟩

theorem PhaseMoved.trans (h : PhaseMoved s u) (g : PhaseMoved u v) : PhaseMoved s v where
  cause k hk hs := g.cause k hk (h.cause k hk hs)
  pruned x hx := g.pruned x (h.pruned x hx)
  frame := g.frame.trans (congrArg (fun w : State =>
    { w with mod := v.mod, flt := v.flt, irq := v.irq, allots := v.allots, emits := v.emits }) h.frame)

theorem PhaseMoved.of_alone (h : RaisedAlone s u) (hc : ∀ k, (s.source k).cause = true → (u.source k).cause = true) :
    PhaseMoved s u where
  cause k _ := hc k
  pruned x hx := by rw [h.pruned]; exact hx
  frame := by
    have hm := congrArg State.mod h.frame
    exact h.frame.trans (congrArg (fun m : Module =>
      { s with mod := m, flt := u.flt, irq := u.irq, allots := u.allots, emits := u.emits }) hm.symm)

theorem PhaseMoved.recordRaise (s : State) (id : Nat) : PhaseMoved s (s.recordRaise id false) :=
  .of_alone (.recordRaise s id false) fun k hk => (s.cause_recordRaise id k false).trans hk

theorem PhaseMoved.alert (s : State) (out : Nat) : PhaseMoved s (s.alert out) :=
  .of_alone (.alert s out) fun k hk => by rw [State.source_alert]; exact hk

theorem PhaseMoved.causeSet (s : State) (id : Nat) : PhaseMoved s (s.causeSet id) :=
  .of_alone (.modSource s id _) fun k hk => by
    rw [State.source_causeSet]
    split
    · rfl
    · exact hk

theorem PhaseMoved.abandon (s : State) (d n : Nat) : PhaseMoved s (s.abandon d n) := by
  unfold State.abandon
  dsimp only
  split
  · exact .refl s
  · exact ⟨fun _ _ => id, fun _ => id, rfl⟩

theorem PhaseMoved.stopTicks (s : State) : PhaseMoved s s.stopTicks := ⟨fun _ _ => id, fun _ => id, rfl⟩

theorem PhaseMoved.markPruned (s : State) (d n : Nat) : PhaseMoved s (s.markPruned d n) where
  cause _ _ := id
  pruned := (SoilKept.markPruned s d n).units
  frame := rfl

/-- The last spare phase of a rail is reported, and only its source's cause may go (R443). -/
theorem PhaseMoved.sparesLost (s : State) : PhaseMoved s s.sparesLost := by
  unfold State.sparesLost
  generalize (List.range 17).any (fun r => decide (s.phasesLeft r = (railPhases r).2 - 2)) = low
  dsimp only
  have hmod : PhaseMoved s (s.modSource 0xD80 fun x => { x with cause := low }) :=
    ⟨fun k hk h => by rw [State.source_modSource, if_neg hk]; exact h, fun _ => id, rfl⟩
  generalize s.modSource 0xD80 _ = w at hmod
  split
  · split
    · exact (hmod.trans (.recordRaise w 0xD80)).trans (.alert _ 0)
    · exact hmod.trans (.recordRaise w 0xD80)
  · exact hmod

end

/-- Every phase is of a rail of at least four. -/
theorem railPhases_railOf : ∀ n < 112, railOf n < 17 ∧ 4 ≤ (railPhases (railOf n)).2 := by decide

theorem countP_insertNat {p : Nat → Bool} {n : Nat} {l : List Nat} (h : n ∉ l) :
    (insertNat n l).countP p = l.countP p + if p n then 1 else 0 := by
  induction l with
  | nil => simp [insertNat]
  | cons y r ih =>
    obtain ⟨hy, hr⟩ := not_or.1 (List.mem_cons.not.1 h)
    unfold insertNat
    split
    · rw [List.countP_cons (a := n)]
    · rw [List.countP_cons, ih hr, List.countP_cons]
      omega

section
variable {s : State} {n : Nat}

/-- The module with one phase more that has failed. -/
def State.phaseGone (s : State) (n : Nat) : State := { s with mod := { s.mod with phasesDown := insertNat n s.mod.phasesDown } }

theorem State.phasesLeft_phaseGone (h : n ∉ s.mod.phasesDown) :
    (s.phaseGone n).phasesLeft (railOf n) = (railPhases (railOf n)).2 -
      ((s.mod.phasesDown.filter fun k => decide (railOf k = railOf n)).length + 1) := by
  have hcount := countP_insertNat (p := fun k => decide (railOf k = railOf n)) h
  rw [List.countP_eq_length_filter, List.countP_eq_length_filter, if_pos (decide_eq_true rfl)] at hcount
  exact congrArg (fun k => (railPhases (railOf n)).2 - k) hcount

theorem State.phaseDown_idle (h : n ∈ s.mod.phasesDown) : s.phaseDown n = s := if_pos h

theorem State.phasesLeft_of_mod {s u : State} (h : u.mod = s.mod) (r : Nat) : u.phasesLeft r = s.phasesLeft r := by
  unfold State.phasesLeft
  rw [h]

theorem State.rail_of_mod {s u : State} (h : u.mod = s.mod) (r : Nat) : u.rail r = s.rail r := by
  unfold State.rail
  rw [h]

theorem State.mod_sparesLost (s : State) : s.sparesLost.mod = s.mod := by simp only [State.sparesLost_kept ..]

/-- The rail of a phase that falls stays on while N phases remain. -/
theorem State.phaseDown_stays (h : n ∉ s.mod.phasesDown)
    (hl : (railPhases (railOf n)).2 ≤ s.phasesLeft (railOf n) + 1) : s.phaseDown n = (s.phaseGone n).sparesLost := by
  have hleft := State.phasesLeft_phaseGone h
  unfold State.phaseDown
  rw [if_neg h]
  refine if_neg ?_
  rintro ⟨hfew, -⟩
  have hsame := State.phasesLeft_of_mod (s.phaseGone n).mod_sparesLost (railOf n)
  have hdef : s.phasesLeft (railOf n) = (railPhases (railOf n)).2 -
    (s.mod.phasesDown.filter fun k => decide (railOf k = railOf n)).length := rfl
  have hfew' : (s.phaseGone n).sparesLost.phasesLeft (railOf n) + 2 < (railPhases (railOf n)).2 := hfew
  omega

/-- With fewer phases the rail is off, and every unit that it feeds is PRUNED. -/
theorem State.phaseDown_falls (hn : n < 112) (h : n ∉ s.mod.phasesDown)
    (hl : s.phasesLeft (railOf n) + 1 < (railPhases (railOf n)).2) (hr : s.rail (railOf n) ≠ 2) :
    s.phaseDown n = ((s.phaseGone n).sparesLost.setRail (railOf n) 2).pruneRail (railOf n) := by
  have hleft := State.phasesLeft_phaseGone h
  have h4 := (railPhases_railOf n hn).2
  unfold State.phaseDown
  rw [if_neg h]
  have hsame := State.phasesLeft_of_mod (s.phaseGone n).mod_sparesLost (railOf n)
  have hdef : s.phasesLeft (railOf n) = (railPhases (railOf n)).2 -
    (s.mod.phasesDown.filter fun k => decide (railOf k = railOf n)).length := rfl
  have hfew : (s.phaseGone n).sparesLost.phasesLeft (railOf n) + 2 < (railPhases (railOf n)).2 := by omega
  have hrail : (s.phaseGone n).sparesLost.rail (railOf n) ≠ 2 := by
    rw [State.rail_of_mod (s.phaseGone n).mod_sparesLost]
    exact hr
  exact if_pos ⟨hfew, hrail⟩

end

section
variable {s : State} {n : Nat}

theorem sourceInfo_phase : ∀ n < 112, (sourceInfo (0xD10 + n)).isSome = true := by decide

theorem unitOf_phase : ∀ n < 112, unitOf (0xD10 + n) = some (13, 0x10 + n) := by decide

theorem State.pruneUnit_phase (s : State) (n : Nat) : s.pruneUnit 13 (0x10 + n) =
    if s.isPruned 13 (0x10 + n) then s else (s.markPruned 13 (0x10 + n)).phaseDown n := by
  have hunit : 0x10 + n - 0x10 = n := Nat.add_sub_cancel_left ..
  have hfeed : ¬ 0x10 + n < 2 := by omega
  unfold State.pruneUnit
  simp only [hunit, hfeed, if_false, Nat.reduceLT, Nat.reduceEqDiff]

/-- The reaction of a phase of class prune unit (R378, R443). -/
theorem State.react_phase (hn : n < 112) (s : State) :
    s.react (0xD10 + n) 2 = ((s.abandon 13 (0x10 + n)).pruneUnit 13 (0x10 + n)).stopTicks := by
  have hdom : ¬ (0xD10 + n) / 256 = 15 := by omega
  unfold State.react
  simp only [unitOf_phase n hn, hdom, if_false, Nat.reduceEqDiff]

theorem PhaseMoved.phaseGone (s : State) (n : Nat) : PhaseMoved s (s.phaseGone n) := ⟨fun _ _ => id, fun _ => id, rfl⟩

/-- The fall of a phase whose rail stays on. -/
theorem State.phaseDown_moved (h : n ∉ s.mod.phasesDown)
    (hl : (railPhases (railOf n)).2 ≤ s.phasesLeft (railOf n) + 1) : PhaseMoved s (s.phaseDown n) ∧
    (s.phaseDown n).mod = { s.mod with phasesDown := insertNat n s.mod.phasesDown } := by
  rw [State.phaseDown_stays h hl]
  exact ⟨(PhaseMoved.phaseGone s n).trans (.sparesLost _), (s.phaseGone n).mod_sparesLost⟩

/-- What the failure of a phase leaves: it is noted, and the phase is down once. -/
def PhaseFell (s w u : State) (n : Nat) : Prop :=
  PhaseMoved w u ∧ u.mod = { s.mod with phasesDown := insertNat n s.mod.phasesDown }

/-- A phase that its source's reaction did not take down falls after it. -/
theorem PhaseFell.after {w v : State} (h : n ∉ s.mod.phasesDown)
    (hl : (railPhases (railOf n)).2 ≤ s.phasesLeft (railOf n) + 1) (hv : PhaseMoved w v) (hm : v.mod = s.mod) :
    PhaseFell s w (v.phaseDown n) n := by
  obtain ⟨hmoved, hmod⟩ := State.phaseDown_moved (s := v) (n := n) (by rw [hm]; exact h)
    (by rw [State.phasesLeft_of_mod hm]; exact hl)
  exact ⟨hv.trans hmoved, by rw [hmod, hm]⟩

/-- A phase of class prune unit, which the reaction prunes and takes down. -/
theorem State.phaseFails_pruned {w : State} (hn : n < 112) (h : n ∉ s.mod.phasesDown)
    (hl : (railPhases (railOf n)).2 ≤ s.phasesLeft (railOf n) + 1) (hm : w.mod = s.mod) :
    PhaseFell s w ((w.react (0xD10 + n) 2).phaseDown n) n ∧
    ((w.react (0xD10 + n) 2).phaseDown n).isPruned 13 (0x10 + n) = true := by
  rw [State.react_phase hn, State.pruneUnit_phase]
  have habandon := PhaseMoved.abandon w 13 (0x10 + n)
  have hmod : (w.abandon 13 (0x10 + n)).mod = s.mod := by
    rw [habandon.frame]
    unfold State.abandon
    dsimp only
    split <;> exact hm
  generalize w.abandon 13 (0x10 + n) = v at habandon hmod
  by_cases hp : v.isPruned 13 (0x10 + n) = true
  · rw [if_pos hp]
    have hfell := PhaseFell.after h hl (habandon.trans (.stopTicks v)) hmod
    have hdown := State.phaseDown_moved (s := v.stopTicks) (n := n) (by rw [show v.stopTicks.mod = s.mod from hmod]; exact h)
      (by rw [State.phasesLeft_of_mod (show v.stopTicks.mod = s.mod from hmod)]; exact hl)
    exact ⟨hfell, decide_eq_true (hdown.1.pruned _ (of_decide_eq_true hp))⟩
  · rw [if_neg hp]
    obtain ⟨hmoved, hdmod⟩ := PhaseFell.after h hl (habandon.trans (.markPruned v 13 (0x10 + n))) hmod
    have hmark : (13, 0x10 + n) ∈ (v.markPruned 13 (0x10 + n)).flt.pruned := mem_addTo_self ..
    have hdown := (State.phaseDown_moved (s := v.markPruned 13 (0x10 + n)) (n := n)
      (by rw [show (v.markPruned 13 (0x10 + n)).mod = s.mod from hmod]; exact h)
      (by rw [State.phasesLeft_of_mod (show (v.markPruned 13 (0x10 + n)).mod = s.mod from hmod)]; exact hl)).1.pruned _ hmark
    generalize (v.markPruned 13 (0x10 + n)).phaseDown n = u at hmoved hdmod hdown
    have hin : n ∈ u.stopTicks.mod.phasesDown := by
      show n ∈ u.mod.phasesDown
      rw [hdmod]
      exact mem_insertNat_self ..
    rw [State.phaseDown_idle hin]
    exact ⟨⟨hmoved.trans (.stopTicks u), hdmod⟩, decide_eq_true hdown⟩

/-- A failure of a phase whose rail stays on (R443, R444). -/
theorem State.phaseFails_stays (hn : n < 112) (h : n ∉ s.mod.phasesDown) (hc : s.classOf (0xD10 + n) ≤ 2)
    (hl : (railPhases (railOf n)).2 ≤ s.phasesLeft (railOf n) + 1) :
    PhaseFell s (s.causeSet (0xD10 + n)) (s.phaseFails n) n ∧
    (s.classOf (0xD10 + n) = 2 → s.flt.recording = true → (s.source (0xD10 + n)).live = false →
      (s.phaseFails n).isPruned 13 (0x10 + n) = true) := by
  have hin := sourceInfo_phase n hn
  unfold State.phaseFails
  by_cases hnote : (s.source (0xD10 + n)).live = true ∨ s.flt.recording = false
  · rw [State.raiseFault_of_noted hin hnote]
    refine ⟨PhaseFell.after h hl (.refl _) rfl, fun _ hr hlive => ?_⟩
    obtain hn | hn := hnote
    · exact absurd (hlive.symm.trans hn) Bool.false_ne_true
    · exact absurd (hn.symm.trans hr) Bool.false_ne_true
  · obtain ⟨hlive, hrec⟩ := not_or.1 hnote
    rw [State.raiseFault_of_rise hin (by simpa using hrec) (by simpa using hlive)]
    have hmoved := PhaseMoved.recordRaise (s.causeSet (0xD10 + n)) (0xD10 + n)
    have hmod : ((s.causeSet (0xD10 + n)).recordRaise (0xD10 + n) false).mod = s.mod := by
      simp only [State.recordRaise_kept ..]
      rfl
    generalize (s.causeSet (0xD10 + n)).recordRaise (0xD10 + n) false = w at hmoved hmod
    obtain h0 | h1 | h2 : s.classOf (0xD10 + n) = 0 ∨ s.classOf (0xD10 + n) = 1 ∨ s.classOf (0xD10 + n) = 2 := by omega
    · rw [h0]
      exact ⟨PhaseFell.after h hl hmoved hmod, fun h2 => absurd h2 (by decide)⟩
    · have hdom : (0xD10 + n) / 256 = 13 := by omega
      rw [h1, State.react_one, if_pos hdom]
      exact ⟨PhaseFell.after h hl (hmoved.trans (.alert w 0)) ((State.alert_kept w 0).2.2.2.2.2.2.2.2.2.2.2.2.2.2.2.2.2.2.1.trans hmod),
        fun h2 => absurd h2 (by decide)⟩
    · rw [h2]
      obtain ⟨⟨hfell, hfmod⟩, hpruned⟩ := State.phaseFails_pruned hn h hl hmod
      exact ⟨⟨hmoved.trans hfell, hfmod⟩, fun _ _ _ => hpruned⟩

end

/-! ## A phase that is down, and one whose source prunes nothing -/

section
variable {s : State} {n : Nat}

/-- The source of a phase that is down leaves the module as it is. -/
theorem State.mod_raiseFault_phase (hn : n < 112) (h : n ∈ s.mod.phasesDown) (hc : s.classOf (0xD10 + n) ≤ 2) :
    (s.raiseFault (0xD10 + n)).mod = s.mod := by
  obtain hc | hc := Nat.lt_or_eq_of_le hc
  · have halone := RaisedAlone.raiseFault_light (s := s) (id := 0xD10 + n) (by omega)
    have hm := congrArg State.mod halone.frame
    exact hm
  · have hin := sourceInfo_phase n hn
    by_cases hnote : (s.source (0xD10 + n)).live = true ∨ s.flt.recording = false
    · rw [State.raiseFault_of_noted hin hnote]
      rfl
    · obtain ⟨hlive, hrec⟩ := not_or.1 hnote
      rw [State.raiseFault_of_rise hin (by simpa using hrec) (by simpa using hlive), hc, State.react_phase hn,
        State.pruneUnit_phase]
      have hmod : (((s.causeSet (0xD10 + n)).recordRaise (0xD10 + n) false).abandon 13 (0x10 + n)).mod = s.mod := by
        simp only [State.abandon_kept .., State.recordRaise_kept ..]
        rfl
      generalize ((s.causeSet (0xD10 + n)).recordRaise (0xD10 + n) false).abandon 13 (0x10 + n) = w at hmod
      split
      · exact hmod
      · have hdown : n ∈ (w.markPruned 13 (0x10 + n)).mod.phasesDown := by
          show n ∈ w.mod.phasesDown
          rw [hmod]
          exact h
        rw [State.phaseDown_idle hdown]
        exact hmod

theorem State.phaseFails_down (hn : n < 112) (h : n ∈ s.mod.phasesDown) (hc : s.classOf (0xD10 + n) ≤ 2) :
    s.phaseFails n = s.raiseFault (0xD10 + n) :=
  State.phaseDown_idle (by rw [State.mod_raiseFault_phase hn h hc]; exact h)

/-- A phase of a light class whose rail falls. -/
theorem State.phaseFails_falls (hn : n < 112) (h : n ∉ s.mod.phasesDown) (hc : s.classOf (0xD10 + n) ≤ 1)
    (hl : s.phasesLeft (railOf n) + 1 < (railPhases (railOf n)).2) (hr : s.rail (railOf n) ≠ 2) :
    ∃ v : State, v.rail (railOf n) = 2 ∧ s.phaseFails n = v.pruneRail (railOf n) := by
  have halone := RaisedAlone.raiseFault_light (s := s) (id := 0xD10 + n) hc
  have hm : (s.raiseFault (0xD10 + n)).mod = s.mod := by
    have hm := congrArg State.mod halone.frame
    exact hm
  refine ⟨(((s.raiseFault (0xD10 + n)).phaseGone n).sparesLost.setRail (railOf n) 2), ?_, State.phaseDown_falls hn
    (by rw [hm]; exact h) (by rw [State.phasesLeft_of_mod hm]; exact hl) (by rw [State.rail_of_mod hm]; exact hr)⟩
  show tget (fun _ => 0) (tput (fun _ => 0) _ (railOf n) 2) (railOf n) = 2
  exact tget_tput_self ..

end

/-! ## Units of a rail -/

section
variable {s u v : State}

/-- No unit leaves PRUNED. -/
def UnitsStay (s u : State) : Prop := ∀ x ∈ s.flt.pruned, x ∈ u.flt.pruned

theorem UnitsStay.trans (h : UnitsStay s u) (g : UnitsStay u v) : UnitsStay s v := fun x hx => g x (h x hx)

theorem UnitsStay.of_flt (h : u.flt = s.flt) : UnitsStay s u := fun x hx => by rw [h]; exact hx

theorem UnitsStay.markPruned (s : State) (d n : Nat) : UnitsStay s (s.markPruned d n) := (SoilKept.markPruned s d n).units

theorem UnitsStay.isPruned (h : UnitsStay s u) {d n : Nat} (hp : s.isPruned d n = true) : u.isPruned d n = true :=
  decide_eq_true (h _ (of_decide_eq_true hp))

theorem State.isPruned_markPruned (s : State) (d n : Nat) : (s.markPruned d n).isPruned d n = true :=
  decide_eq_true (mem_addTo_self ..)

/-- A prune of a unit that marks it and lets the others be. -/
def PrunesUnit (f : State → State) (d n : Nat) : Prop :=
  ∀ s : State, UnitsStay s (f s) ∧ (f s).isPruned d n = true ∧ (f s).mod = s.mod

/-- A prune marks its unit, unless it is PRUNED already. -/
theorem PrunesUnit.of_mark {f g : State → State} {d n : Nat} (hf : ∀ s, f s = if s.isPruned d n then s else g (s.markPruned d n))
    (hg : ∀ s, UnitsStay s (g s)) (hm : ∀ s, (f s).mod = s.mod) : PrunesUnit f d n := by
  intro s
  have hmod := hm s
  rw [hf] at hmod ⊢
  by_cases hp : s.isPruned d n = true
  · rw [if_pos hp]
    exact ⟨fun _ => id, hp, rfl⟩
  · rw [if_neg hp] at hmod ⊢
    exact ⟨(UnitsStay.markPruned s d n).trans (hg _), (hg _).isPruned (s.isPruned_markPruned d n), hmod⟩

theorem UnitsStay.pruneBeds (s : State) (d : Nat) : UnitsStay s (s.pruneBeds d) := by
  unfold State.pruneBeds
  exact (SoilKept.foldl (fun u j => SoilKept.pruneBed u (36 * d + j)) _ _).units

theorem prunesUnit_pruneC (d : Nat) : PrunesUnit (State.pruneC · d) d 0xFF :=
  .of_mark (g := (State.pruneBeds · d)) (fun _ => rfl) (fun s => .pruneBeds s d) (fun s => by simp only [State.pruneC_kept ..])

theorem State.flt_pruneP {p : Nat} (h : s.isPruned (8 + p) 0xFF = false) : (s.pruneP p).flt = (s.markPruned (8 + p) 0xFF).flt := by
  have hpipes (w : State) : ((List.range 4).foldl
      (fun (s : State) i => s.modPipe (4 * p + i) (fun x => { x with released := false })) w).flt = w.flt :=
    by refine foldl_keeps (fun v : State => v.flt) _ _ (fun v i _ => ?_) w; rfl
  unfold State.pruneP
  rw [if_neg (by rw [h]; exact Bool.false_ne_true)]
  simp only [State.ite_kept .., State.judgeAll_kept .., State.slaveLost_kept .., State.dropBound_kept ..,
    State.takeOverDecodes_kept .., State.takeOverAll_kept .., State.prunePorts_kept .., hpipes, ite_self]

theorem prunesUnit_pruneP (p : Nat) : PrunesUnit (State.pruneP · p) (8 + p) 0xFF := by
  intro s
  have hmod : (s.pruneP p).mod = s.mod := by simp only [State.pruneP_kept ..]
  cases hp : s.isPruned (8 + p) 0xFF with
  | true =>
    have hsame : s.pruneP p = s := if_pos hp
    show UnitsStay s (s.pruneP p) ∧ (s.pruneP p).isPruned _ _ = true ∧ (s.pruneP p).mod = s.mod
    rw [hsame]
    exact ⟨fun _ => id, hp, rfl⟩
  | false =>
    have hflt := State.flt_pruneP hp
    exact ⟨(UnitsStay.markPruned s (8 + p) 0xFF).trans (.of_flt hflt),
      (UnitsStay.of_flt hflt).isPruned (s.isPruned_markPruned ..), hmod⟩

theorem prunesUnit_pruneStack (m : Nat) : PrunesUnit (State.pruneStack · m) 12 m := by
  refine .of_mark (g := fun s => if m < 8 then (s.modStack m fun x => { x with st := 3, holding := false }).pruneBeds m
    else (s.modStack m fun x => { x with st := 3, holding := false }).pruneP ((m - 8) / 2)) (fun _ => rfl) (fun s => ?_)
    (fun s => by simp only [State.pruneStack_kept ..])
  split
  · exact UnitsStay.pruneBeds (s.modStack m _) m
  · exact (prunesUnit_pruneP ((m - 8) / 2) (s.modStack m _)).1

theorem prunesUnit_pruneEngine (k : Nat) : PrunesUnit (State.pruneEngine · k) 11 k := by
  intro s
  have hmod : (s.pruneEngine k).mod = s.mod := by simp only [State.pruneEngine_kept ..]
  cases hp : s.isPruned 11 k with
  | true =>
    have hsame : s.pruneEngine k = s := if_pos hp
    show UnitsStay s (s.pruneEngine k) ∧ (s.pruneEngine k).isPruned _ _ = true ∧ (s.pruneEngine k).mod = s.mod
    rw [hsame]
    exact ⟨fun _ => id, hp, rfl⟩
  | false =>
    have hpairs (w : State) : ((List.range 8).foldl
        (fun (s : State) j => s.modPair (8 * k + j) (fun x => { x with pending := none })) w).flt = w.flt :=
      by refine foldl_keeps (fun v : State => v.flt) _ _ (fun v i _ => ?_) w; rfl
    have hflt : (s.pruneEngine k).flt = (s.markPruned 11 k).flt := by
      unfold State.pruneEngine
      rw [if_neg (by rw [hp]; exact Bool.false_ne_true)]
      simp only [State.ite_kept .., State.nextBatch_kept .., hpairs, State.prunePorts_kept .., ite_self]
    exact ⟨(UnitsStay.markPruned s 11 k).trans (.of_flt hflt), (UnitsStay.of_flt hflt).isPruned (s.isPruned_markPruned ..), hmod⟩

theorem PrunesUnit.foldl {f : State → Nat → State} {d : Nat} {g : Nat → Nat} (hf : ∀ k, PrunesUnit (f · k) d (g k)) (l : List Nat)
    (s : State) : UnitsStay s (l.foldl f s) ∧ (∀ k ∈ l, (l.foldl f s).isPruned d (g k) = true) ∧ (l.foldl f s).mod = s.mod := by
  induction l generalizing s with
  | nil => exact ⟨fun _ => id, fun _ h => absurd h List.not_mem_nil, rfl⟩
  | cons x r ih =>
    obtain ⟨hx, hpx, hmx⟩ := hf x s
    obtain ⟨hr, hpr, hmr⟩ := ih (f s x)
    refine ⟨UnitsStay.trans hx hr, fun k hk => ?_, hmr.trans hmx⟩
    obtain rfl | hk := List.mem_cons.1 hk
    · exact hr.isPruned hpx
    · exact hpr k hk

/-- Power domains whose supply fails. -/
def State.powerOff (s : State) (first n : Nat) : State := (List.range n).foldl (fun (s : State) k => s.setPower (first + k) 4) s

theorem State.powerOff_keeps (s : State) (first n : Nat) : (s.powerOff first n).flt = s.flt ∧ (s.powerOff first n).mod = s.mod :=
  ⟨by refine foldl_keeps (fun v : State => v.flt) _ _ (fun v i _ => ?_) s; simp only [State.setPower_kept ..],
   by refine foldl_keeps (fun v : State => v.mod) _ _ (fun v i _ => ?_) s; simp only [State.setPower_kept ..]⟩

theorem State.isPruned_powerOff {s : State} {d n : Nat} (h : s.isPruned d n = true) (first count : Nat) :
    (s.powerOff first count).isPruned d n = true := by
  unfold State.isPruned
  rw [(s.powerOff_keeps first count).1]
  exact h

/-- The units that a rail feeds are PRUNED with it (R444). -/
theorem State.pruneRail_prunes (s : State) (r : Nat) :
    (r < 4 → (s.pruneRail r).isPruned (2 * r) 0xFF = true ∧ (s.pruneRail r).isPruned (2 * r + 1) 0xFF = true) ∧
    (4 ≤ r → r < 6 → (s.pruneRail r).isPruned (r + 4) 0xFF = true) ∧
    (7 ≤ r → r < 13 → (s.pruneRail r).isPruned 12 (2 * (r - 7)) = true ∧
      (s.pruneRail r).isPruned 12 (2 * (r - 7) + 1) = true) ∧
    (r = 13 ∨ r = 14 → ∀ k, k < 8 → (s.pruneRail r).isPruned 11 (8 * (r - 13) + k) = true) ∧
    (r = 6 ∨ 15 ≤ r → s.pruneRail r = s.stopModule) ∧
    (r ≠ 6 → r < 15 → (s.pruneRail r).mod = s.mod) := by
  by_cases h4 : r < 4
  · have heq : s.pruneRail r = ((s.pruneC (2 * r)).pruneC (2 * r + 1)).powerOff (72 * r) 72 := if_pos h4
    obtain ⟨-, hp, hm⟩ := prunesUnit_pruneC (2 * r) s
    obtain ⟨hstay, hp', hm'⟩ := prunesUnit_pruneC (2 * r + 1) (s.pruneC (2 * r))
    rw [heq]
    exact ⟨fun _ => ⟨State.isPruned_powerOff (hstay.isPruned hp) .., State.isPruned_powerOff hp' ..⟩, by omega, by omega, by omega,
      by omega, fun _ _ => (State.powerOff_keeps ..).2.trans (hm'.trans hm)⟩
  by_cases h6 : r < 6
  · have heq : s.pruneRail r = (s.pruneP (r - 4)).powerOff (0x120 + 4 * (r - 4)) 4 := (if_neg h4).trans (if_pos h6)
    obtain ⟨-, hp, hm⟩ := prunesUnit_pruneP (r - 4) s
    have hdie : 8 + (r - 4) = r + 4 := by omega
    rw [hdie] at hp
    rw [heq]
    exact ⟨by omega, fun _ _ => State.isPruned_powerOff hp .., by omega, by omega, by omega,
      fun _ _ => (State.powerOff_keeps ..).2.trans hm⟩
  by_cases h13 : 7 ≤ r ∧ r < 13
  · have heq : s.pruneRail r = (s.pruneStack (2 * (r - 7))).pruneStack (2 * (r - 7) + 1) :=
      (if_neg h4).trans ((if_neg h6).trans (if_pos h13))
    obtain ⟨-, hp, hm⟩ := prunesUnit_pruneStack (2 * (r - 7)) s
    obtain ⟨hstay, hp', hm'⟩ := prunesUnit_pruneStack (2 * (r - 7) + 1) (s.pruneStack (2 * (r - 7)))
    rw [heq]
    exact ⟨by omega, by omega, fun _ _ => ⟨hstay.isPruned hp, hp'⟩, by omega, by omega, fun _ _ => hm'.trans hm⟩
  by_cases h15 : r = 13 ∨ r = 14
  · have heq : s.pruneRail r = ((List.range 8).foldl (fun (s : State) k => s.pruneEngine (8 * (r - 13) + k)) s).powerOff
        (0x128 + 8 * (r - 13)) 8 := (if_neg h4).trans ((if_neg h6).trans ((if_neg h13).trans (if_pos h15)))
    obtain ⟨-, hp, hm⟩ := PrunesUnit.foldl (f := fun s k => s.pruneEngine (8 * (r - 13) + k))
      (fun k => prunesUnit_pruneEngine (8 * (r - 13) + k)) (List.range 8) s
    rw [heq]
    exact ⟨by omega, by omega, by omega, fun _ k hk => State.isPruned_powerOff (hp k (List.mem_range.2 hk)) .., by omega,
      fun _ _ => (State.powerOff_keeps ..).2.trans hm⟩
  · have heq : s.pruneRail r = s.stopModule := (if_neg h4).trans ((if_neg h6).trans ((if_neg h13).trans (if_neg h15)))
    exact ⟨by omega, by omega, by omega, by omega, fun _ => heq, by omega⟩

end

/-! ## MAIN_FEED, KEEP, temperature and life -/

section
variable {s : State} {t a f : Nat}

theorem spaceOf_module : spaceOf 0x02 0 = some (.module, 0) := rfl

/-- The row of MAIN_FEED (Table 19.10). -/
def mainFeedRow : Row := { m0 := 0x01, m1 := 0x01, ty := .u 1, acc := 35, legal := [(0, 1)] }

theorem entryRow_mainFeed : entryRow .module 0 0x01 = some mainFeedRow := rfl

theorem writeNumber_mainFeed (s : State) (a f : Nat) :
    s.writeNumber a 0x02 0 0x01 .module 0 mainFeedRow f = byStatus (s.chooseMain f) := rfl

theorem State.chooseMain_lost (h : (if f = 0 then s.mod.rangeA else s.mod.rangeB) = false) : s.chooseMain f = (3, s) :=
  if_pos (by rw [h]; rfl)

/-- MAIN_FEED stored, and the load on the feed that it names when that feed can hold it. -/
def State.mainFeedMoved (s : State) (f : Nat) : State :=
  if s.mod.on = true ∧ s.mod.usable f = true then (s.setCfgN 0x02 0 0x01 1 f).switchTo f else s.setCfgN 0x02 0 0x01 1 f

theorem State.chooseMain_taken (h : (if f = 0 then s.mod.rangeA else s.mod.rangeB) = true) :
    s.chooseMain f = (0, s.mainFeedMoved f) := by
  refine (if_neg (by rw [h]; exact Bool.false_ne_true)).trans ?_
  have hand : (s.mod.on && s.mod.usable f) = true ↔ s.mod.on = true ∧ s.mod.usable f = true := Bool.and_eq_true_iff
  exact congrArg (Prod.mk 0) (by simp only [State.mainFeedMoved, ← hand]; rfl)

theorem exec_mainFeed (t : Nat) (s : State) (ha : a < 16) :
    exec (.mainFeed t a f) s = .next ((s.at t).orderNumber a 0x02 0 0x01 1 f) := if_pos (decide_eq_true ha)
theorem exec_feedInRange (t : Nat) (s : State) (hf : f < 2) : exec (.feedInRange t f) s = .next ((s.at t).feedIn f) :=
  if_pos (decide_eq_true hf)
theorem exec_feedOutOfRange (t : Nat) (s : State) (hf : f < 2) : exec (.feedOutOfRange t f) s = .next ((s.at t).feedOut f) :=
  if_pos (decide_eq_true hf)
theorem exec_phaseFail {n : Nat} (t : Nat) (s : State) (hn : n < 112) : exec (.phaseFail t n) s = .next ((s.at t).phaseFails n) :=
  if_pos (decide_eq_true hn)

end

/-- What a feed judged in range leaves (R438, R441). -/
theorem State.feedIn_leaves (s : State) {f : Nat} :
    (s.feedIn f).mod = (if s.mod.on = false ∨
        (s.mod.feedInUse < 2 ∧ (s.mod.feedInRange f s.now).usable s.mod.feedInUse = true) then s.mod.feedInRange f s.now
      else if (s.mod.feedInRange f s.now).usable f = true then
        (if s.mod.feedInUse = f then s.mod.feedInRange f s.now else (s.mod.feedInRange f s.now).onFeed f)
      else s.mod.feedInRange f s.now) ∧
    ((s.feedIn f).mod.feedInUse ≠ s.mod.feedInUse → (s.feedIn f).route true 0x0211 = (s.route true 0x0211).raised) ∧
    (s.feedIn f).flt = (s.feedJudgedIn f).flt ∧
    s.feedIn f = { s with mod := (s.feedIn f).mod, flt := (s.feedIn f).flt, irq := (s.feedIn f).irq,
                          allots := (s.feedIn f).allots, emits := (s.feedIn f).emits } := by
  obtain ⟨-, huse, -⟩ := s.mod.feedInRange_load f s.now
  have hjudged : (s.feedJudgedIn f).mod.feedInUse = s.mod.feedInUse := huse
  rw [State.feedIn_eq]
  split
  · exact ⟨rfl, fun hne => absurd hjudged hne, rfl, rfl⟩
  · split
    · obtain ⟨hmod, hroute, hframe⟩ := (s.feedJudgedIn f).switchTo_leaves f
      have hflt : ((s.feedJudgedIn f).switchTo f).flt = (s.feedJudgedIn f).flt := by simp only [State.switchTo_kept ..]
      refine ⟨hmod.trans ?_, fun hne => hroute fun heq => hne ?_, hflt, ?_⟩
      · rw [hjudged]
        rfl
      · rw [State.feedInUse_switchTo, ← heq, hjudged]
      · generalize (s.feedJudgedIn f).switchTo f = u at hframe hflt
        rw [hflt]
        exact hframe
    · exact ⟨rfl, fun hne => absurd hjudged hne, rfl, rfl⟩

theorem Module.usable_onFeed (m : Module) (f k : Nat) : (m.onFeed f).usable k = m.usable k := rfl

/-- The feed in use once a feed is in range. -/
theorem State.feedIn_load (s : State) (f : Nat) :
    (∀ k, (s.feedIn f).mod.usable k = (s.mod.feedInRange f s.now).usable k) ∧
    (s.feedIn f).mod.feedInUse = (if s.mod.on = false ∨
        (s.mod.feedInUse < 2 ∧ (s.mod.feedInRange f s.now).usable s.mod.feedInUse = true) then s.mod.feedInUse
      else if (s.mod.feedInRange f s.now).usable f = true then f else s.mod.feedInUse) ∧
    (s.feedIn f).mod.switchovers =
      (if (s.feedIn f).mod.feedInUse = s.mod.feedInUse then s.mod.switchovers else inc64 s.mod.switchovers) ∧
    (s.feedIn f).mod = { s.mod.feedInRange f s.now with
      feedInUse := (s.feedIn f).mod.feedInUse, switchovers := (s.feedIn f).mod.switchovers } := by
  obtain ⟨-, huse, hcount⟩ := s.mod.feedInRange_load f s.now
  rw [s.feedIn_leaves.1]
  split
  · exact ⟨fun _ => rfl, huse, hcount, rfl⟩
  · split
    · split
      · next h => exact ⟨fun _ => rfl, huse.trans h, hcount, rfl⟩
      · next h => exact ⟨fun _ => rfl, rfl, (congrArg inc64 hcount).trans (if_neg (Ne.symm h)).symm, rfl⟩
    · exact ⟨fun _ => rfl, huse, hcount, rfl⟩

/-- What MAIN_FEED of a feed in range leaves, before its answer. -/
theorem State.mainFeedMoved_leaves (s : State) {f : Nat} (hf : f < 256) : (s.mainFeedMoved f).cfgN 0x02 0 0x01 = f ∧
    (s.mainFeedMoved f).mod.feedInUse = (if s.mod.on = true ∧ s.mod.usable f = true then f else s.mod.feedInUse) ∧
    s.mainFeedMoved f = { s with mod := (s.mainFeedMoved f).mod, alm := (s.mainFeedMoved f).alm, irq := (s.mainFeedMoved f).irq,
                                 allots := (s.mainFeedMoved f).allots, emits := (s.mainFeedMoved f).emits } := by
  have hset : (s.setCfgN 0x02 0 0x01 1 f).cfgN 0x02 0 0x01 = f := (State.cfgN_setCfgN_self ..).trans (Nat.mod_eq_of_lt hf)
  have hkept : (s.setCfgN 0x02 0 0x01 1 f) = { s with alm := (s.setCfgN 0x02 0 0x01 1 f).alm } := rfl
  unfold State.mainFeedMoved
  generalize s.setCfgN 0x02 0 0x01 1 f = w at hset hkept
  have hmod : w.mod = s.mod := by rw [hkept]
  split
  · obtain ⟨-, -, hframe⟩ := w.switchTo_leaves f
    have halm := congrArg State.alm hframe
    refine ⟨?_, w.feedInUse_switchTo f, ?_⟩
    · unfold State.cfgN State.cfg
      rw [halm]
      exact hset
    · generalize w.switchTo f = u at hframe
      rw [hframe, hkept]
  · exact ⟨hset, congrArg Module.feedInUse hmod, by rw [hkept]⟩

/-- MAIN_FEED of a feed in range (R440). -/
theorem mainFeed_taken {s : State} {t a f : Nat} (ha : a < 16) (hf : f < 2) (h : takesAtOnce s t a)
    (hw : mayWrite s a 0x02 0 0x01) (hr : (if f = 0 then s.mod.rangeA else s.mod.rangeB) = true) :
    ∃ u, exec (.mainFeed t a f) s = .next u ∧ u.cfgN 0x02 0 0x01 = f ∧
      u.mod.feedInUse = (if s.mod.on = true ∧ s.mod.usable f = true then f else s.mod.feedInUse) ∧
      u.answer = { status := 0, effectAt := t, data := [] } ∧
      u = { s with now := t, mod := u.mod, alm := u.alm, irq := u.irq, allots := u.allots, emits := u.emits,
                   answer := u.answer } := by
  obtain ⟨hcfg, huse, hframe⟩ := (s.at t).mainFeedMoved_leaves (f := f) (by omega)
  have hin := row_number_inRange (s := s) (t := t) h hw spaceOf_module entryRow_mainFeed (by simp) (by simp) rfl rfl (by omega) rfl
    (by omega) (by omega) (by simp [creditOf]) (by simp)
    (hu := (writeNumber_mainFeed ..).trans (congrArg byStatus (State.chooseMain_taken (s := s.at t) hr)))
  generalize (s.at t).mainFeedMoved f = u at hin hcfg huse hframe
  generalize hv : (s.at t).orderNumber a 0x02 0 0x01 1 f = v at hin
  refine ⟨v, (exec_mainFeed t s ha).trans (congrArg Host.Outcome.next hv), (accepted_cfgN hin ..).trans hcfg, ?_, ?_, ?_⟩
  · simp only [accepted_kept hin]
    exact huse
  · have hans := accepted_answer hin
    exact hans.trans (congrArg (fun k => ({ status := 0, effectAt := k, data := [] } : Answer)) (congrArg State.now hframe))
  · refine State.parts.2 ?_
    simp only [accepted_kept hin]
    rw [hframe]
    simp

/-- Settles O55: the feeds through what they leave of the module; a phase through its fall, and its rail through the units it
feeds. -/
theorem feedsAndPhases : Obligations.FeedsAndPhases := by
  intro s t
  refine ⟨fun f hf => ?feedIn, fun f hf => ?feedOut, ⟨fun h => ?_, fun hon hu hw ht => ⟨fun hin => ?_, fun hin => ?_⟩⟩,
    fun h => ?_, fun hA hB hon => ?_, fun a f ha hf h hw => ⟨fun hr => ?_, fun hr => ?_⟩, fun n hn h hc hl => ?_,
    fun n hn h hc => ?_, fun n hn h hc hl hr => ?_, fun h => ?_, fun hA hB => ?_, fun above => ⟨fun h => ?_, fun h => ?_⟩, ?_,
    fun d => ?_⟩
  case feedIn =>
    obtain ⟨hmod, hroute, hflt, hframe⟩ := (s.at t).feedIn_leaves (f := f)
    obtain ⟨husable, huse, hcount, hstate⟩ := (s.at t).feedIn_load f
    refine ⟨_, exec_feedInRange t s hf, ?_, ?_, ?_, ?_, hcount, hroute, hframe⟩
    · rintro rfl
      obtain ⟨hrange, hsince, hown, hother, hkept⟩ := s.mod.feedInRange_first t
      generalize (s.at t).feedIn 0 = u at hstate
      rw [hstate]
      exact ⟨hrange, hsince, hown, hother, hkept⟩
    · rintro rfl
      obtain ⟨hrange, hsince, hown, hother, hkept⟩ := s.mod.feedInRange_second t
      generalize (s.at t).feedIn 1 = u at hstate
      rw [hstate]
      exact ⟨hrange, hsince, hown, hother, hkept⟩
    · unfold State.source
      rw [hflt]
      have hgone : ((s.at t).feedJudgedIn f).source (0xD00 + f) = _ := State.source_modSource ..
      rw [if_pos rfl] at hgone
      exact congrArg Source.cause hgone
    · rw [husable, husable]
      exact huse
  case feedOut =>
    obtain ⟨hmod, hframe⟩ := (s.at t).feedJudgedOut_leaves hf
    refine ⟨(s.at t).feedJudgedOut f, (exec_feedOutOfRange t s hf).trans (congrArg _ ((s.at t).feedOut_eq f)), ?_, ?_, ?_, hframe, ?_⟩
    · rintro rfl
      rw [hmod]
      split <;> exact ⟨rfl, rfl, rfl⟩
    · rintro rfl
      rw [hmod]
      split <;> exact ⟨rfl, rfl, rfl⟩
    · have hin : ((s.at t).mod.feedOutOfRange f).feedInUse = s.mod.feedInUse := ((s.at t).mod.feedOutOfRange_leaves hf).2.1
      rw [hmod]
      split
      · next hc => exact (if_pos hc).symm
      · next hc => exact hin.trans (if_neg hc).symm
    · intro hlight
      have hclass : ((s.at t).feedJudgedOut f).classOf (0xD00 + f) = s.classOf (0xD00 + f) := by
        unfold State.classOf State.source
        rw [congrArg State.flt hframe]
        rfl
      have halone := RaisedAlone.raiseFault_light (s := (s.at t).feedJudgedOut f) (id := 0xD00 + f) (by rw [hclass]; omega)
      have hm := congrArg State.mod halone.frame
      exact hm
  · exact congrArg Host.Outcome.next (State.switchback_idle (s := s.at t) h)
  · have hback := State.switchback_returns (s := s.at t) hon hu hw ht
    exact congrArg Host.Outcome.next (hback.trans (State.switchTo_same hin))
  · have hback := State.switchback_returns (s := s.at t) hon hu hw ht
    exact ⟨congrArg Host.Outcome.next hback, State.feedInUse_switchTo ..,
      congrArg Module.switchovers (((s.at t).switchTo_leaves (s.cfgN 0x02 0 0x01)).1.trans (if_neg hin))⟩
  · exact congrArg Host.Outcome.next (State.feedsLost_idle (s := s.at t) h)
  · have hstop := State.feedsLost_stops (s := s.at t) hA hB hon
    obtain ⟨hmod, hlive, hstore, hrun, husage, hpow, hcal⟩ := (s.at t).stopModule_leaves
    exact ⟨_, congrArg Host.Outcome.next hstop, congrArg Module.on hmod, (s.at t).rail_stopModule, congrArg Module.feedInUse hmod,
      hlive, hrun, husage, hpow, hcal, hstore⟩
  · refine (exec_mainFeed t s ha).trans (congrArg Host.Outcome.next ?_)
    exact row_number_refused (s := s) (t := t) h hw spaceOf_module entryRow_mainFeed (by simp) (by simp) rfl rfl (by omega) rfl
      (by omega) (by omega) (by simp [creditOf]) (by simp) (st := 3) (by decide)
      ((writeNumber_mainFeed ..).trans (congrArg byStatus (State.chooseMain_lost (s := s.at t) hr)))
  · exact mainFeed_taken ha hf h hw hr
  · obtain ⟨⟨hmoved, hmod⟩, hpruned⟩ := State.phaseFails_stays (s := s.at t) hn h hc hl
    refine ⟨_, exec_phaseFail t s hn, hmod, ?_, hpruned, ?_⟩
    · refine hmoved.cause _ (by omega) ?_
      rw [State.source_causeSet, if_pos rfl]
    · exact hmoved.frame
  · have hmod := State.mod_raiseFault_phase (s := s.at t) hn h hc
    exact ⟨_, exec_phaseFail t s hn, State.phaseFails_down (s := s.at t) hn h hc,
      congrArg Module.phasesDown ((congrArg State.mod (State.phaseFails_down (s := s.at t) hn h hc)).trans hmod)⟩
  · obtain ⟨v, hoff, heq⟩ := State.phaseFails_falls (s := s.at t) hn h hc hl hr
    obtain ⟨hC, hP, hstack, hengine, hstop, hkept⟩ := v.pruneRail_prunes (railOf n)
    refine ⟨_, (exec_phaseFail t s hn).trans (congrArg _ heq), hC, hP, hstack, hengine, fun h => ?_, fun h6 h15 => ?_⟩
    · rw [hstop h]
      exact ⟨congrArg Module.on v.stopModule_leaves.1, v.rail_stopModule⟩
    · exact (State.rail_of_mod (hkept h6 h15) _).trans hoff
  · exact congrArg Host.Outcome.next (if_pos (by simpa using h))
  · exact ⟨_, congrArg Host.Outcome.next (if_neg (by simp [hA, hB])), rfl⟩
  · exact congrArg Host.Outcome.next (if_pos h)
  · refine ⟨_, congrArg Host.Outcome.next (if_neg h), ?_, ?_, State.parts.2 (by simp [State.raise_kept ..])⟩
    · simp only [State.raise_kept ..]
      rfl
    · exact State.route_raise_self (State.sourceOwner_low _ (by decide) (by decide)) true
  · obtain ⟨hmod, hlive, hstore, -, -, -, hcal⟩ := State.stopModule_leaves
      { s.at t with mod := { s.mod with thermalTrips := inc64 s.mod.thermalTrips, tripped := true } }
    exact ⟨_, rfl, congrArg Module.thermalTrips hmod, congrArg Module.on hmod, State.rail_stopModule _, hlive, hstore, hcal⟩
  · exact ⟨_, rfl, rfl, rfl, rfl, rfl⟩

end Sys2Proof.Machine
end

section
/-! PROOFS. The inputs and outputs of the Hedge, its timing edges and its link errors (R450 to R454, R471, R472, Table 19.8). -/

namespace Sys2Proof.Machine

/-! ## General-purpose inputs -/

section
variable {s : State} {g : Nat} {level : Bool}

theorem State.gpiChanged_idle (h : (s.gpi g).level = level ∨ s.mod.hedgeV = false ∨ s.mod.on = false) :
    s.gpiChanged g level = s := if_pos (by simpa using h)

/-- The block with an input's new level. -/
def State.gpiTaken (s : State) (g : Nat) (level : Bool) : State :=
  s.modGpi g fun x => { level := level, lastChange := s.now, changes := inc64 x.changes }

/-- The block with an input's change noted in its owner's ring. -/
def State.gpiNoted (s : State) (g : Nat) (level : Bool) : State :=
  (s.gpiTaken g level).event (s.cfgN 0x51 (0x100 + g) 0x01) 1 0 0x40 0 (g + 256 * (if level then 1 else 0) + 65536 * s.now)

theorem State.gpiChanged_taken (h : (s.gpi g).level ≠ level) (hv : s.mod.hedgeV = true) (hon : s.mod.on = true) :
    s.gpiChanged g level = (s.gpiNoted g level).tally g level := by
  have hnot : ¬ ((s.gpi g).level = level ∨ (!s.mod.hedgeV) = true ∨ (!s.mod.on) = true) := by
    rw [hv, hon]
    simpa using h
  exact (if_neg hnot).trans rfl

theorem State.gpiTaken_gpi (s : State) (g : Nat) (level : Bool) :
    (s.gpiTaken g level).gpi g = { level := level, lastChange := s.now, changes := inc64 (s.gpi g).changes } ∧
    ∀ k, k ≠ g → (s.gpiTaken g level).gpi k = s.gpi k := by
  refine ⟨(State.gpi_modGpi ..).trans (if_pos rfl), fun k hk => (State.gpi_modGpi ..).trans (if_neg hk)⟩

/-- An event changes rings and interrupts only. -/
theorem State.event_frame (s : State) (a n source kind flags payload : Nat) : s.event a n source kind flags payload =
    { s with rings := (s.event a n source kind flags payload).rings, irq := (s.event a n source kind flags payload).irq,
             allots := (s.event a n source kind flags payload).allots, emits := (s.event a n source kind flags payload).emits } :=
  State.parts.2 (by simp [State.event_kept ..])

/-- No feed is bound to an input whose owner, and the owner's peers, hold none (R113, R452). -/
theorem State.tally_idle (h : ∀ e ∈ s.str.slots, e.2.kind ≠ 1 ∨ e.2.owner ≠ s.cfgN 0x51 (0x100 + g) 0x01 ∧
    bit (s.cfgN 0x51 (0x100 + g) 0x00) e.2.owner = false) : s.tally g level = s :=
  foldl_idle _ s _ fun e he => if_pos (by simpa using h e he)

end

/-! ## General-purpose outputs -/

section
variable {s : State} {t a g at_ : Nat} {level : Bool}

/-- What an output that takes a set is left with (R453, Table 19.8). -/
def Gpo.ordered (x : Gpo) (now : Nat) (level : Bool) (at_ : Nat) : Gpo :=
  if at_ < now + 100000 then { level := level, pend := none, failsafe := false }
  else { level := x.level, pend := some (level, at_), failsafe := false }

theorem State.orderGpo_ignored (h : s.mod.hedgeV = false ∨ ((s.gpo g).failsafe = true ∧ s.mod.ticked = false)) :
    s.orderGpo g level at_ = s := if_pos (by simpa using h)

/-- What a set that is taken leaves (R453). -/
theorem State.orderGpo_taken (hv : s.mod.hedgeV = true) (h : (s.gpo g).failsafe = false ∨ s.mod.ticked = true) :
    (s.orderGpo g level at_).gpo g = (s.gpo g).ordered s.now level at_ ∧
    (∀ k, k ≠ g → (s.orderGpo g level at_).gpo k = s.gpo k) ∧
    s.orderGpo g level at_ =
      { s with mod := (s.orderGpo g level at_).mod
               emits := .barrier s.now 2 g ((if level then 1 else 0) + 2 * at_) :: s.emits } := by
  have hnot : ¬ (!s.mod.hedgeV || ((s.gpo g).failsafe && !s.mod.ticked)) = true := by
    rw [hv]
    rcases h with h | h <;> simp [h]
  have heq : s.orderGpo g level at_ = if at_ < s.now + 100000 then
      (((s.emit (.barrier s.now 2 g (b2n level + 2 * at_))).modGpo g
        fun x => { x with failsafe := false, pend := some (level, at_) })).driveGpo g level
      else (s.emit (.barrier s.now 2 g (b2n level + 2 * at_))).modGpo g
        fun x => { x with failsafe := false, pend := some (level, at_) } := if_neg hnot
  rw [heq]
  unfold Gpo.ordered State.driveGpo
  split
  · refine ⟨?_, fun k hk => ?_, rfl⟩
    · rw [State.gpo_modGpo, if_pos rfl, State.gpo_modGpo, if_pos rfl]
    · rw [State.gpo_modGpo, if_neg hk, State.gpo_modGpo, if_neg hk]
      rfl
  · refine ⟨?_, fun k hk => ?_, rfl⟩
    · rw [State.gpo_modGpo, if_pos rfl]
      rfl
    · rw [State.gpo_modGpo, if_neg hk]
      rfl

theorem spaceOf_gpo (hg : g < 32) : spaceOf 0x51 (0x200 + g) = some (.gpo, g) := by
  interval_cases g <;> rfl

/-- The row of SET (Table 19.12). -/
def gpoSetRow : Row := { m0 := 0x02, m1 := 0x02, ty := .blob, acc := 10 }

theorem entryRow_gpoSet (g : Nat) : entryRow .gpo g 0x02 = some gpoSetRow := rfl

/-- The bytes of a set. -/
def gpoBytes (level : Bool) (at_ : Nat) : List Byte := natLe 1 (b2n level) ++ natLe 8 at_

theorem fieldAt_gpoBytes (hat : at_ < 2 ^ 64) : (gpoBytes level at_).length = 9 ∧
    fieldAt (gpoBytes level at_) 0 1 = b2n level ∧ fieldAt (gpoBytes level at_) 1 8 = at_ := by
  have hlevel : b2n level < 256 := by cases level <;> decide
  refine ⟨by simp [gpoBytes, natLe_length], (fieldAt_natLe 1 _ _).trans (Nat.mod_eq_of_lt hlevel), ?_⟩
  unfold gpoBytes fieldAt
  have hslice : slice (natLe 1 (b2n level) ++ natLe 8 at_) 1 8 = natLe 8 at_ := by
    unfold slice
    rw [List.drop_left' (natLe_length ..)]
    exact List.take_of_length_le (by rw [natLe_length])
  rw [hslice, leNat_natLe]
  exact Nat.mod_eq_of_lt hat

theorem writeBlob_gpoSet (s : State) (a g : Nat) (hat : at_ < 2 ^ 64) :
    s.writeBlob a 0x51 (0x200 + g) 0x02 .gpo g (gpoBytes level at_) =
      (0, max s.now at_, s.orderGpo g level at_) := by
  obtain ⟨hlen, hl, ht⟩ := fieldAt_gpoBytes (level := level) hat
  have heq : s.writeBlob a 0x51 (0x200 + g) 0x02 .gpo g (gpoBytes level at_) = s.writeSet a g (gpoBytes level at_) := rfl
  have hok : decide (1 < b2n level) = false := by cases level <;> decide
  have hon : decide (b2n level ≠ 0) = level := by cases level <;> decide
  rw [heq]
  unfold State.writeSet
  dsimp only
  rw [if_neg (by rw [hlen]; decide), hl, ht, hok, hon]
  rfl

/-- A set that the Almanac takes (R453). -/
theorem gpoSet_accepted (ha : a < 16) (hg : g < 32) (hat : at_ < 2 ^ 64) (h : takesAtOnce s t a)
    (hw : mayWrite s a 0x51 (0x200 + g) 0x02) : ∃ u, exec (.set t a g level at_) s = .next u ∧
      accepted ((s.at t).orderGpo g level at_) u (max t at_) := by
  have hex : exec (.set t a g level at_) s = .next ((s.at t).orderWrite a 0x51 (0x200 + g) 0x02 (gpoBytes level at_)) :=
    (if_pos (decide_eq_true ha)).trans (by simp [named, isGpio, hg, gpoBytes])
  exact ⟨_, hex, row_blob (s := s) (t := t) h (spaceOf_gpo hg) (entryRow_gpoSet g) (.inr hw) (by simp) (by simp) rfl rfl
    (writeBlob_gpoSet (s.at t) a g hat)⟩

theorem State.gpoDue_none (h : (s.gpo g).pend = none) : s.gpoDue g = s := by
  unfold State.gpoDue
  rw [h]

theorem State.gpoDue_some (h : (s.gpo g).pend = some (level, at_)) :
    s.gpoDue g = if at_ ≤ s.now ∧ (s.gpo g).failsafe = false then s.driveGpo g level else s := by
  unfold State.gpoDue
  rw [h]
  simp only [Bool.not_eq_true']

theorem State.driveGpo_alone (s : State) (g : Nat) (level : Bool) :
    (s.driveGpo g level).gpo g = { s.gpo g with level := level, pend := none } ∧
    ∀ k, k ≠ g → (s.driveGpo g level).gpo k = s.gpo k :=
  ⟨(State.gpo_modGpo ..).trans (if_pos rfl), fun _ hk => (State.gpo_modGpo ..).trans (if_neg hk)⟩

/-- A loop that gives each output of the Hedge a change of its own, which its own state and the configuration determine. -/
theorem gpo_foldl {f : State → Nat → State} (F : State → Nat → Gpo → Gpo) (s : State)
    (hf : ∀ u k, f u k = u.modGpo k (F u k)) (hF : ∀ u : State, u.alm = s.alm → F u = F s) (l : List Nat) :
    l.foldl f s = { s with mod := { s.mod with gpos := (l.foldl f s).mod.gpos } } ∧
      (l.Nodup → ∀ k ∈ l, (l.foldl f s).gpo k = F s k (s.gpo k)) := by
  refine ⟨?_, fun hl k hk => ?_⟩
  · suffices hall : ∀ (l : List Nat) (u : State), u = { s with mod := { s.mod with gpos := u.mod.gpos } } →
        l.foldl f u = { s with mod := { s.mod with gpos := (l.foldl f u).mod.gpos } } from hall l s rfl
    intro l
    induction l with
    | nil => exact fun u h => h
    | cons x r ih =>
      intro u h
      refine ih (f u x) ?_
      rw [hf u x]
      exact congrArg (fun v : State => { v with mod := { v.mod with gpos := (u.modGpo x (F u x)).mod.gpos } }) h
  · refine foldl_pointwise (fun u : State => u.gpo) f (F s) (fun u => u.alm = s.alm) (fun u x hu => ?_) (fun u x hu => ?_)
      (fun u x k hk => ?_) hl rfl hk
    · rw [hf]
      exact hu
    · rw [hf, State.gpo_modGpo, if_pos rfl, hF u hu]
    · rw [hf, State.gpo_modGpo, if_neg hk]

/-- The level that a fail-safe output takes (R453). -/
def failsafeLevel (v : Nat) (level : Bool) : Bool := if v = 0 then false else if v = 1 then true else level

/-- What the fail-safe state of the outputs leaves (R453). -/
theorem State.gpoFailsafe_leaves (s : State) : s.gpoFailsafe.mod.ticked = false ∧ s.gpoFailsafe.mod.hedgeV = true ∧
    (∀ g, g < 32 → s.gpoFailsafe.gpo g =
      { level := failsafeLevel (s.cfgN 0x51 (0x200 + g) 0x04) (s.gpo g).level, pend := none, failsafe := true }) ∧
    s.gpoFailsafe = { s with mod := s.gpoFailsafe.mod } := by
  have hnodup : (List.range 32).Nodup := List.nodup_range
  have hmem (g : Nat) (hg : g < 32) : g ∈ List.range 32 := List.mem_range.2 hg
  unfold State.gpoFailsafe
  dsimp only
  generalize List.range 32 = l at hnodup hmem
  obtain ⟨hframe, hgpo⟩ := gpo_foldl (l := l) (s := { s with mod := { s.mod with hedgeV := true, ticked := false } })
    (F := fun u g x =>
      { level := failsafeLevel (u.cfgN 0x51 (0x200 + g) 0x04) x.level, pend := none, failsafe := true })
    (f := fun (u : State) g => u.modGpo g fun x =>
      { level := if u.cfgN 0x51 (0x200 + g) 0x04 = 0 then false else if u.cfgN 0x51 (0x200 + g) 0x04 = 1 then true else x.level
        pend := none
        failsafe := true }) (fun _ _ => rfl) (fun u hu => by unfold State.cfgN State.cfg; rw [hu])
  generalize List.foldl _ _ l = v at hframe hgpo ⊢
  have hmod := congrArg State.mod hframe
  exact ⟨congrArg Module.ticked hmod, congrArg Module.hedgeV hmod, fun g hg => hgpo hnodup g (hmem g hg),
    hframe.trans (congrArg (fun m : Module => { s with mod := m }) hmod.symm)⟩

/-- Every contact of the Hedge is open. -/
def State.contactsOpen (s : State) : State :=
  (List.range 32).foldl (fun (s : State) g => s.modGpo g fun x => { x with level := false, pend := none })
    { s with mod := { s.mod with hedgeV := false, ref10m := false, pps := false } }

theorem State.contactsOpen_leaves (s : State) : s.contactsOpen.mod.hedgeV = false ∧ s.contactsOpen.mod.ref10m = false ∧
    s.contactsOpen.mod.pps = false ∧ (∀ g, g < 32 → (s.contactsOpen.gpo g).level = false ∧ (s.contactsOpen.gpo g).pend = none) ∧
    s.contactsOpen = { s with mod := s.contactsOpen.mod } := by
  have hnodup : (List.range 32).Nodup := List.nodup_range
  have hmem (g : Nat) (hg : g < 32) : g ∈ List.range 32 := List.mem_range.2 hg
  unfold State.contactsOpen
  generalize List.range 32 = l at hnodup hmem
  obtain ⟨hframe, hgpo⟩ := gpo_foldl (l := l) (F := fun _ _ x => { x with level := false, pend := none })
    (s := { s with mod := { s.mod with hedgeV := false, ref10m := false, pps := false } })
    (f := fun (u : State) g => u.modGpo g fun x => { x with level := false, pend := none }) (fun _ _ => rfl) (fun _ _ => rfl)
  generalize List.foldl _ _ l = v at hframe hgpo ⊢
  have hmod := congrArg State.mod hframe
  refine ⟨congrArg Module.hedgeV hmod, congrArg Module.ref10m hmod, congrArg Module.pps hmod, fun g hg => ?_,
    hframe.trans (congrArg (fun m : Module => { s with mod := m }) hmod.symm)⟩
  have hg' := hgpo hnodup g (hmem g hg)
  exact ⟨congrArg Gpo.level hg', congrArg Gpo.pend hg'⟩

end

/-! ## Sources of no unit -/

/-- The cause of another source stays when a source of no unit is raised. -/
theorem State.cause_raiseFault_other {id k : Nat} (hu : unitOf id = none) (hk : k ≠ id) (s : State) :
    ((s.raiseFault id).source k).cause = (s.source k).cause := by
  have hset : ((s.causeSet id).source k).cause = (s.source k).cause := by rw [State.source_causeSet, if_neg hk]
  unfold State.raiseFault
  dsimp only
  split
  · rfl
  · split
    · exact hset
    · unfold State.raised
      split
      · exact hset
      · have hrec := (State.cause_recordRaise (s.causeSet id) id k false).trans hset
        rcases State.react_unitless hu ((s.causeSet id).recordRaise id false) ((s.causeSet id).classOf id) with h | h | h
        · exact (congrArg (fun v : State => (v.source k).cause) h).trans hrec
        · exact (congrArg (fun v : State => (v.source k).cause) h).trans ((congrArg Source.cause (State.source_alert ..)).trans hrec)
        · exact (congrArg (fun v : State => (v.source k).cause) h).trans ((congrArg Source.cause (State.source_alert ..)).trans hrec)

/-! ## Timing inputs (R454, R471, R472) -/

section
variable {s : State} {count : Nat}

/-- HEDGE is left when one of its inputs is lost. -/
def State.hedgeLeft (s : State) : State := if s.clk.st = .hedge then s.setTime .holdover else s

/-- What the end of a state of media time other than HOLDOVER leaves, for HOLDOVER. -/
theorem State.setTime_holdover (h : s.clk.st = .hedge) : (s.setTime .holdover).clk =
    { s.clk with leftAt := s.now, specOver := false, st := .holdover, ignoredRun := 0, good := 0, bad := 0 } := by
  unfold State.setTime
  rw [if_neg (by rw [h]; decide)]
  simp only [State.raise_kept .., h]
  rfl

theorem State.setTime_frame (s : State) (st : TimeState) : s.setTime st =
    { s with clk := (s.setTime st).clk, irq := (s.setTime st).irq, allots := (s.setTime st).allots,
             emits := (s.setTime st).emits } := State.parts.2 (by simp [State.setTime_kept ..])

theorem State.hedgeLeft_leaves (s : State) : s.hedgeLeft.clk.st = (if s.clk.st = .hedge then .holdover else s.clk.st) ∧
    s.hedgeLeft = { s with clk := s.hedgeLeft.clk, irq := s.hedgeLeft.irq, allots := s.hedgeLeft.allots,
                           emits := s.hedgeLeft.emits } := by
  unfold State.hedgeLeft
  split
  · next h => exact ⟨congrArg Clocks.st (State.setTime_holdover h), s.setTime_frame _⟩
  · exact ⟨rfl, rfl⟩

/-- The module with an input of the Hedge lost. -/
def Module.withoutInput (m : Module) (pps : Bool) : Module := if pps then { m with pps := false } else { m with ref10m := false }

/-- The source of an input of the Hedge. -/
def inputSource (pps : Bool) : Nat := if pps then 0xE04 else 0xE03

/-- The block with an input of the Hedge lost. -/
def State.inputLost (s : State) (pps : Bool) : State :=
  { s with mod := s.mod.withoutInput pps }.raiseFault (inputSource pps)

theorem State.refInputLost_eq (s : State) (pps : Bool) : s.refInputLost pps = (s.inputLost pps).hedgeLeft := by
  cases pps <;> rfl

theorem State.inputLost_leaves (s : State) (pps : Bool) :
    (s.inputLost pps).mod = s.mod.withoutInput pps ∧ ((s.inputLost pps).source (inputSource pps)).cause = true ∧
    (∀ k, k ≠ inputSource pps → ((s.inputLost pps).source k).cause = (s.source k).cause) ∧
    s.inputLost pps = { s with mod := s.mod.withoutInput pps, flt := (s.inputLost pps).flt, irq := (s.inputLost pps).irq,
                               allots := (s.inputLost pps).allots, emits := (s.inputLost pps).emits } := by
  have hunit : unitOf (inputSource pps) = none := by cases pps <;> decide
  have hin : (sourceInfo (inputSource pps)).isSome = true := by cases pps <;> decide
  have halone := RaisedAlone.raiseFault hunit { s with mod := s.mod.withoutInput pps }
  have hmod := congrArg State.mod halone.frame
  exact ⟨hmod, State.cause_raiseFault hunit hin _,
    fun k hk => State.cause_raiseFault_other hunit hk { s with mod := s.mod.withoutInput pps }, halone.frame⟩

/-- The block with an edge of 1PPS seen. -/
def State.edgeSeen (s : State) : State := { s with mod := { s.mod with pps := true, lastPps := s.now } }.causeGone 0xE04
/-- The block with an edge seen whose count of 10 MHz is good. -/
def State.edgeGood (s : State) : State :=
  { s.edgeSeen with mod := { s.edgeSeen.mod with ref10m := true } }.causeGone 0xE03

theorem State.timingEdge_dark (h : s.mod.hedgeV = false ∨ s.mod.on = false) : s.timingEdge count = s :=
  if_pos (by simpa using h)

theorem State.timingEdge_seen (hv : s.mod.hedgeV = true) (hon : s.mod.on = true) : s.timingEdge count =
    if count < 9999900 ∨ 10000100 < count then s.edgeSeen.refInputLost false else s.edgeGood.edgeActs count :=
  if_neg (by simp [hv, hon])

/-- What a good edge leaves before it acts on media time (R454). -/
theorem State.edgeGood_leaves (s : State) : s.edgeGood.mod = { s.mod with pps := true, lastPps := s.now, ref10m := true } ∧
    (s.edgeGood.source 0xE03).cause = false ∧ (s.edgeGood.source 0xE04).cause = false ∧
    s.edgeGood = { s with mod := s.edgeGood.mod, flt := s.edgeGood.flt } ∧ s.edgeGood.flt.pruned = s.flt.pruned := by
  have hpps : (s.edgeSeen.source 0xE04).cause = false := congrArg Source.cause
    (({ s with mod := { s.mod with pps := true, lastPps := s.now } } : State).source_modSource 0xE04 0xE04 _ |>.trans (if_pos rfl))
  refine ⟨rfl, ?_, ?_, rfl, rfl⟩
  · exact congrArg Source.cause ((State.source_modSource ..).trans (if_pos rfl))
  · exact (congrArg Source.cause ((State.source_modSource ..).trans (if_neg (by decide)))).trans hpps

/-- An edge whose count departs loses the input of 10 MHz (R454). -/
theorem State.edgeOff_leaves (s : State) :
    (s.edgeSeen.refInputLost false).mod = { s.mod with pps := true, lastPps := s.now, ref10m := false } ∧
    ((s.edgeSeen.refInputLost false).source 0xE03).cause = true ∧
    ((s.edgeSeen.refInputLost false).source 0xE04).cause = false ∧
    (s.edgeSeen.refInputLost false).clk.st = (if s.clk.st = .hedge then .holdover else s.clk.st) ∧
    s.edgeSeen.refInputLost false = { s with
      mod := (s.edgeSeen.refInputLost false).mod, flt := (s.edgeSeen.refInputLost false).flt
      clk := (s.edgeSeen.refInputLost false).clk, irq := (s.edgeSeen.refInputLost false).irq
      allots := (s.edgeSeen.refInputLost false).allots, emits := (s.edgeSeen.refInputLost false).emits } := by
  have hpps : (s.edgeSeen.source 0xE04).cause = false := congrArg Source.cause
    (({ s with mod := { s.mod with pps := true, lastPps := s.now } } : State).source_modSource 0xE04 0xE04 _ |>.trans (if_pos rfl))
  obtain ⟨hmod, hcause, hother, hframe⟩ := s.edgeSeen.inputLost_leaves false
  have hstay := (hother 0xE04 (by decide)).trans hpps
  rw [State.refInputLost_eq]
  have hclk := congrArg State.clk hframe
  generalize s.edgeSeen.inputLost false = w at hmod hcause hframe hstay hclk
  obtain ⟨hst, hleft⟩ := w.hedgeLeft_leaves
  have hlmod := congrArg State.mod hleft
  have hlflt := congrArg State.flt hleft
  generalize w.hedgeLeft = u at hst hleft hlmod hlflt
  refine ⟨hlmod.trans hmod, ?_, ?_, ?_, ?_⟩
  · unfold State.source
    rw [hlflt]
    exact hcause
  · unfold State.source
    rw [hlflt]
    exact hstay
  · rw [hst, hclk]
    rfl
  · refine (hleft.trans (congrArg (fun v : State =>
      { v with clk := u.clk, irq := u.irq, allots := u.allots, emits := u.emits }) hframe)).trans ?_
    rw [hlmod, hlflt, hmod]
    rfl

/-- The phase error of an edge in HEDGE (R472). -/
def State.edgeError (s : State) : Int :=
  (s.now : Int) - (nearestSecond ((s.now : Int) - s.cfgI 0x03 0 0x1B) + s.cfgI 0x03 0 0x1B)
/-- The measurements of PPS_OFFSET with that of this edge (R471). -/
def State.ppsTaken (s : State) : List Int := ((s.now : Int) - nearestSecond s.now) :: s.clk.ppsSamples.take 63
/-- An edge that is ignored and counted (R472). -/
def State.edgeIgnored (s : State) : State :=
  { s with clk := { s.clk with edgesIgnored := inc64 s.clk.edgesIgnored, ignoredRun := s.clk.ignoredRun + 1 } }

theorem State.edgeActs_idle (ht : s.clk.timeSet = none) (hl : s.clk.st ≠ .locked) (hh : s.clk.st ≠ .hedge) :
    s.edgeActs count = s := by
  unfold State.edgeActs
  rw [ht]
  dsimp only
  split
  · next h => exact absurd h hl
  · next h => exact absurd h hh
  · rfl

theorem State.edgeActs_locked (ht : s.clk.timeSet = none) (h : s.clk.st = .locked) : s.edgeActs count =
    if s.ppsTaken.length < 64 then { s with clk := { s.clk with ppsSamples := s.ppsTaken } }
    else { s with clk := { s.clk with ppsSamples := s.ppsTaken, ppsValid := true } }.setCfg 0x03 0 0x1B
      (natLe 4 (ofSigned 32 (meanOf s.ppsTaken))) := by
  unfold State.edgeActs
  rw [ht, h]
  rfl

theorem State.edgeActs_hedge (ht : s.clk.timeSet = none) (h : s.clk.st = .hedge) : s.edgeActs count =
    if 100000 < s.edgeError.natAbs then
      (if 16 ≤ s.clk.ignoredRun + 1 then s.edgeIgnored.setTime .holdover else s.edgeIgnored)
    else { s with clk := { s.clk with ignoredRun := 0, offset := s.edgeError } }.setFreq ((10000000 - (count : Int)) * 100) := by
  unfold State.edgeActs
  rw [ht, h]
  rfl

end

/-! ## Errors of the barrier (R451) -/

section
variable {s : State}

/-- The module with one barrier message more discarded. -/
def Module.linkErred (m : Module) (sec n : Nat) : Module :=
  { m with linkErrors := inc64 m.linkErrors, errSecond := sec, errCount := n }

/-- The errors of this second, with the one that comes. -/
def State.errRun (s : State) : Nat := if s.mod.errSecond = s.now / 1000000000 then s.mod.errCount + 1 else 1
/-- The block with one barrier message more discarded. -/
def State.linkErred (s : State) : State := { s with mod := s.mod.linkErred (s.now / 1000000000) s.errRun }

theorem State.barrierError_eq (s : State) :
    s.barrierError = if s.errRun = 11 then s.linkErred.pulseFault 0xE02 else s.linkErred := rfl

theorem State.errRun_first (h : s.mod.errSecond ≠ s.now / 1000000000) : s.errRun = 1 := if_neg h
theorem State.errRun_more (h : s.mod.errSecond = s.now / 1000000000) : s.errRun = s.mod.errCount + 1 := if_pos h

/-- An error that is not the eleventh of its second. -/
theorem State.barrierError_counted (h : s.errRun ≠ 11) : s.barrierError = s.linkErred := if_neg h

/-- The module with an error in the second of the last one. -/
theorem State.linkErred_more (h : s.mod.errSecond = s.now / 1000000000) :
    s.linkErred.mod = { s.mod with linkErrors := inc64 s.mod.linkErrors, errCount := s.mod.errCount + 1 } := by
  unfold State.linkErred
  rw [State.errRun_more h, ← h]
  rfl

/-- A raise counts its source. -/
theorem State.count_recordRaise {id : Nat} (hin : (sourceInfo id).isSome = true) (hr : s.flt.recording = true) (forced : Bool) :
    ((s.recordRaise id forced).source id).count = inc64 (s.source id).count := by
  have hnot : ¬ ((!s.flt.recording || (sourceInfo id).isNone) = true) := by
    rw [hr, Option.isNone_eq_false_iff.2 hin]
    decide
  unfold State.recordRaise
  dsimp only
  rw [if_neg hnot, State.source_raise, State.source_modErrRec, State.source_modErrRec, State.source_modSource, if_pos rfl]

/-- A pulse of a source of no unit, which is counted unless it is LIVE or nothing is recorded. -/
theorem State.pulseFault_unitless {id : Nat} (hu : unitOf id = none) (hin : (sourceInfo id).isSome = true) :
    ((s.source id).live = false → s.flt.recording = true →
      ((s.pulseFault id).source id).count = inc64 (s.source id).count) ∧
    ((s.source id).live = true ∨ s.flt.recording = false → (s.pulseFault id).flt = s.flt) := by
  unfold State.pulseFault State.raised
  refine ⟨fun hl hr => ?_, fun h => ?_⟩
  · have hnot : ¬ ((!s.flt.recording || (sourceInfo id).isNone) = true) := by
      rw [hr, Option.isNone_eq_false_iff.2 hin]
      decide
    have hcount := State.count_recordRaise hin hr false
    rw [if_neg (by rw [hl]; exact Bool.false_ne_true), if_neg hnot]
    rcases State.react_unitless hu (s.recordRaise id false) (s.classOf id) with h | h | h
    · exact (congrArg (fun v : State => (v.source id).count) h).trans hcount
    · exact (congrArg (fun v : State => (v.source id).count) h).trans ((congrArg Source.count (State.source_alert ..)).trans hcount)
    · exact (congrArg (fun v : State => (v.source id).count) h).trans ((congrArg Source.count (State.source_alert ..)).trans hcount)
  · split
    · rfl
    · next hl =>
      obtain h | h := h
      · exact absurd h hl
      · rw [if_pos (by rw [h]; rfl)]

end

section
variable {s : State} {t g : Nat}

theorem exec_gpiChange (t : Nat) (level : Bool) (s : State) (hg : g < 32) :
    exec (.gpiChange t g level) s = .next ((s.at t).gpiChanged g level) := if_pos (decide_eq_true hg)
theorem exec_gpoApply (t : Nat) (s : State) (hg : g < 32) : exec (.gpoApply t g) s = .next ((s.at t).gpoDue g) :=
  if_pos (decide_eq_true hg)

end

section
variable {s : State} {t : Nat}

/-- An input's change where no feed is bound to it (R452). -/
theorem gpiChange_alone {g : Nat} {level : Bool} (hg : g < 32) (h : (s.gpi g).level ≠ level) (hv : s.mod.hedgeV = true)
    (hon : s.mod.on = true) (hno : ∀ e ∈ s.str.slots, e.2.kind ≠ 1 ∨ e.2.owner ≠ s.cfgN 0x51 (0x100 + g) 0x01 ∧
      bit (s.cfgN 0x51 (0x100 + g) 0x00) e.2.owner = false) : ∃ u, exec (.gpiChange t g level) s = .next u ∧
    u.gpi g = { level := level, lastChange := t, changes := inc64 (s.gpi g).changes } ∧ (∀ k, k ≠ g → u.gpi k = s.gpi k) ∧
    ((s.ring (s.cfgN 0x51 (0x100 + g) 0x01) 1).enable = true →
      (s.ring (s.cfgN 0x51 (0x100 + g) 0x01) 1).entries.length < 4096 →
      (u.ring (s.cfgN 0x51 (0x100 + g) 0x01) 1).entries = (s.ring (s.cfgN 0x51 (0x100 + g) 0x01) 1).entries ++
        [ringWord t 0 0x40 0 (g + 256 * (if level then 1 else 0) + 65536 * t)]) ∧
    u = { s with now := t, mod := u.mod, rings := u.rings, irq := u.irq, allots := u.allots, emits := u.emits } := by
  obtain ⟨hself, hother⟩ := (s.at t).gpiTaken_gpi g level
  have hframe := ((s.at t).gpiTaken g level).event_frame (s.cfgN 0x51 (0x100 + g) 0x01) 1 0 0x40 0
    (g + 256 * (if level then 1 else 0) + 65536 * t)
  have hnoted : ((s.at t).gpiTaken g level).event (s.cfgN 0x51 (0x100 + g) 0x01) 1 0 0x40 0
    (g + 256 * (if level then 1 else 0) + 65536 * t) = (s.at t).gpiNoted g level := rfl
  rw [hnoted] at hframe
  have hmod := congrArg State.mod hframe
  have hstr := congrArg State.str hframe
  have halm := congrArg State.alm hframe
  have hidle : ((s.at t).gpiNoted g level).tally g level = (s.at t).gpiNoted g level := by
    refine State.tally_idle fun e he => ?_
    rw [hstr] at he
    unfold State.cfgN State.cfg
    rw [halm]
    exact hno e he
  have hgpi (k : Nat) : ((s.at t).gpiNoted g level).gpi k = ((s.at t).gpiTaken g level).gpi k := by
    unfold State.gpi
    rw [hmod]
  refine ⟨(s.at t).gpiNoted g level, (exec_gpiChange t level s hg).trans
    (congrArg _ ((State.gpiChanged_taken (s := s.at t) h hv hon).trans hidle)), (hgpi g).trans hself,
    fun k hk => (hgpi k).trans (hother k hk), fun he hroom => ?_, ?_⟩
  · exact State.entries_ringPut ((s.at t).gpiTaken g level) _ _ _ he hroom
  · generalize (s.at t).gpiNoted g level = u at hframe hmod
    refine hframe.trans ?_
    rw [hmod]
    rfl

/-- A set that is taken (R453, Table 19.8). -/
theorem gpoSet_taken {a g at_ : Nat} {level : Bool} (ha : a < 16) (hg : g < 32) (hat : at_ < 2 ^ 64) (ht : takesAtOnce s t a)
    (hw : mayWrite s a 0x51 (0x200 + g) 0x02) (hv : s.mod.hedgeV = true) (h : (s.gpo g).failsafe = false ∨ s.mod.ticked = true) :
    ∃ u, exec (.set t a g level at_) s = .next u ∧ u.gpo g = (s.gpo g).ordered t level at_ ∧
      (∀ k, k ≠ g → u.gpo k = s.gpo k) ∧
      accepted { s.at t with mod := u.mod, emits := .barrier t 2 g ((if level then 1 else 0) + 2 * at_) :: s.emits } u
        (max t at_) := by
  obtain ⟨u, hex, hacc⟩ := gpoSet_accepted (level := level) ha hg hat ht hw
  obtain ⟨hself, hother, hframe⟩ := State.orderGpo_taken (s := s.at t) (level := level) (at_ := at_) hv h
  have hmod : u.mod = ((s.at t).orderGpo g level at_).mod := by simp only [accepted_kept hacc]
  have hgpo (k : Nat) : u.gpo k = ((s.at t).orderGpo g level at_).gpo k := by
    unfold State.gpo
    rw [hmod]
  refine ⟨u, hex, (hgpo g).trans hself, fun k hk => (hgpo k).trans (hother k hk), ?_⟩
  generalize (s.at t).orderGpo g level at_ = v at hacc hframe hmod
  rw [hmod]
  rw [hframe] at hacc
  exact hacc

/-- ALIVE open. -/
def State.aliveOpen (s : State) : State := s.modFlt fun f => { f with alive := 0 }

theorem State.aliveOpen_of {s w : State} (h : w = { s with mod := w.mod }) :
    w.aliveOpen = { s with mod := w.mod, flt := w.aliveOpen.flt } := by
  have hflt := congrArg State.flt h
  refine (congrArg State.aliveOpen h).trans ?_
  show _ = ({ s with mod := w.mod, flt := { w.flt with alive := 0 } } : State)
  rw [hflt]
  rfl

theorem State.hedgeLoss_eq (s : State) : s.hedgeLoss = s.contactsOpen.aliveOpen.hedgeLeft := by
  unfold State.hedgeLoss State.contactsOpen State.aliveOpen State.hedgeLeft
  generalize List.range 32 = l
  rfl

theorem State.aliveOpen_leaves (w : State) : w.aliveOpen.mod = w.mod ∧ w.aliveOpen.flt.alive = 0 ∧ w.aliveOpen.clk = w.clk :=
  ⟨rfl, rfl, rfl⟩

/-- What the loss of HEDGE_V leaves (R450). -/
theorem State.hedgeLoss_leaves (s : State) : ∃ u, s.hedgeLoss = u ∧ u.mod.hedgeV = false ∧ u.mod.ref10m = false ∧ u.mod.pps = false ∧
    (∀ g, g < 32 → (u.gpo g).level = false ∧ (u.gpo g).pend = none) ∧ u.flt.alive = 0 ∧
    u.clk.st = (if s.clk.st = .hedge then .holdover else s.clk.st) ∧
    u = { s with mod := u.mod, flt := u.flt, clk := u.clk, irq := u.irq, allots := u.allots, emits := u.emits } := by
  obtain ⟨hv, h10, hpps, hgpo, hopen⟩ := s.contactsOpen_leaves
  have hframe := State.aliveOpen_of hopen
  have hex : s.hedgeLoss = s.contactsOpen.aliveOpen.hedgeLeft := s.hedgeLoss_eq
  obtain ⟨hmod', halive, hclk'⟩ := s.contactsOpen.aliveOpen_leaves
  have hclk := hclk'.trans (congrArg State.clk hopen)
  unfold State.gpo at hgpo
  rw [← hmod'] at hv h10 hpps hgpo hframe
  generalize s.contactsOpen.aliveOpen = w at hv h10 hpps hgpo halive hframe hex hclk
  obtain ⟨hst, hleft⟩ := w.hedgeLeft_leaves
  have hmod := congrArg State.mod hleft
  have hflt := congrArg State.flt hleft
  generalize w.hedgeLeft = u at hst hleft hmod hflt hex
  refine ⟨u, hex, ?_, ?_, ?_, fun g hg => ?_, ?_, ?_, ?_⟩
  · rw [hmod]; exact hv
  · rw [hmod]; exact h10
  · rw [hmod]; exact hpps
  · unfold State.gpo
    rw [hmod]
    exact hgpo g hg
  · rw [hflt]; exact halive
  · rw [hst, hclk]
  · refine (hleft.trans (congrArg (fun v : State => { v with
      clk := u.clk, irq := u.irq, allots := u.allots, emits := u.emits }) hframe)).trans ?_
    rw [hmod, hflt]

end

/-- Settles O56: an input through its change and its event, an output through its set, and a timing edge through what it
leaves before it acts and how it acts in each state of media time. -/
theorem hedgeInputsAndOutputs : Obligations.HedgeInputsAndOutputs := by
  intro s t
  refine ⟨fun g level hg => ⟨fun h => ?gpiSame, fun h hv hon => ?gpiNew, fun h hv hon hno => ?gpiAlone⟩,
    fun a g level at_ ha hg hat ht hw => ⟨fun h => ?setIgnored, fun hv h => ?setTaken⟩,
    fun g hg => ⟨fun h => ?applyNone, fun level at_ h => ⟨fun hl => ?applyEarly, fun hl hf => ?applyDue⟩⟩, ?failsafe, ?loss,
    fun pps => ?lost, fun count h => ?edgeDark, fun count hv hon hc => ?edgeOff, fun count hv hon hl hh ht => ?edgeGood,
    fun h => ?errFirst, fun h hn => ?errMore, fun h hn => ?errEleventh⟩
  case gpiSame => exact (exec_gpiChange t level s hg).trans (congrArg _ (State.gpiChanged_idle (s := s.at t) h))
  case gpiNew =>
    obtain ⟨hself, hother⟩ := (s.at t).gpiTaken_gpi g level
    exact ⟨(s.at t).gpiTaken g level,
      (exec_gpiChange t level s hg).trans (congrArg _ (State.gpiChanged_taken (s := s.at t) h hv hon)), hself, hother, rfl⟩
  case gpiAlone => exact gpiChange_alone hg h hv hon hno
  case setIgnored =>
    obtain ⟨u, hex, hacc⟩ := gpoSet_accepted (level := level) ha hg hat ht hw
    rw [State.orderGpo_ignored (s := s.at t) h] at hacc
    exact ⟨u, hex, hacc⟩
  case setTaken => exact gpoSet_taken ha hg hat ht hw hv h
  case applyNone => exact (exec_gpoApply t s hg).trans (congrArg _ (State.gpoDue_none (s := s.at t) h))
  case applyEarly =>
    refine (exec_gpoApply t s hg).trans (congrArg _ ((State.gpoDue_some (s := s.at t) h).trans (if_neg ?_)))
    rintro ⟨hle, hf⟩
    obtain hl | hl := hl
    · exact absurd hle (Nat.not_le.2 hl)
    · exact Bool.false_ne_true (hf.symm.trans hl)
  case applyDue =>
    obtain ⟨hself, hother⟩ := (s.at t).driveGpo_alone g level
    exact ⟨_, (exec_gpoApply t s hg).trans (congrArg _ ((State.gpoDue_some (s := s.at t) h).trans (if_pos ⟨hl, hf⟩))),
      hself, hother, rfl⟩
  case failsafe =>
    obtain ⟨htick, hv, hgpo, hframe⟩ := (s.at t).gpoFailsafe_leaves
    refine ⟨_, rfl, htick, hv, fun g hg => ?_, hframe⟩
    have hg' := hgpo g hg
    exact ⟨congrArg Gpo.pend hg', congrArg Gpo.failsafe hg', congrArg Gpo.level hg'⟩
  case loss =>
    obtain ⟨u, hu, hkept⟩ := (s.at t).hedgeLoss_leaves
    exact ⟨u, congrArg Host.Outcome.next hu, hkept⟩
  case lost =>
    obtain ⟨hmod, hcause, -, hframe⟩ := (s.at t).inputLost_leaves pps
    have hclk := congrArg State.clk hframe
    refine ⟨(s.at t).inputLost pps, congrArg _ ((s.at t).refInputLost_eq pps), hmod, hcause, hclk, ?_⟩
    rw [hmod]
    exact hframe
  case edgeDark => exact congrArg Host.Outcome.next (State.timingEdge_dark (s := s.at t) h)
  case edgeOff =>
    have hseen := State.timingEdge_seen (s := s.at t) (count := count) hv hon
    rw [if_pos hc] at hseen
    obtain ⟨hmod, h3, h4, hst, hframe⟩ := (s.at t).edgeOff_leaves
    exact ⟨_, congrArg Host.Outcome.next hseen, hmod, h3, h4, hst, hframe⟩
  case edgeGood =>
    have hseen := State.timingEdge_seen (s := s.at t) (count := count) hv hon
    rw [if_neg (by omega)] at hseen
    obtain ⟨hmod, h3, h4, hframe, -⟩ := (s.at t).edgeGood_leaves
    have hkept := State.edgeActs_kept (s.at t).edgeGood count
    have hemod : ((s.at t).edgeGood.edgeActs count).mod = (s.at t).edgeGood.mod := by simp only [hkept]
    have heflt : ((s.at t).edgeGood.edgeActs count).flt = (s.at t).edgeGood.flt := by simp only [hkept]
    have hsource (k : Nat) : ((s.at t).edgeGood.edgeActs count).source k = (s.at t).edgeGood.source k := by
      unfold State.source
      rw [heflt]
    refine ⟨_, congrArg Host.Outcome.next hseen, hemod.trans hmod, ?_, ?_, fun hl hh => ?_, fun hl => ⟨fun h => ?_, fun h => ?_⟩,
      fun hh => ⟨fun he => ?_, fun he hr => ?_, fun he hr => ?_⟩⟩
    · rw [hsource]; exact h3
    · rw [hsource]; exact h4
    · rw [State.edgeActs_idle (s := (s.at t).edgeGood) ht hl hh]
      exact hframe
    · have hact := State.edgeActs_locked (s := (s.at t).edgeGood) (count := count) ht hl
      rw [if_pos (show (s.at t).edgeGood.ppsTaken.length < 64 from h)] at hact
      rw [hact]
      exact ⟨rfl, rfl⟩
    · have hact := State.edgeActs_locked (s := (s.at t).edgeGood) (count := count) ht hl
      rw [if_neg (show ¬ (s.at t).edgeGood.ppsTaken.length < 64 from Nat.not_lt.2 (Nat.le_of_eq h.symm))] at hact
      rw [hact]
      exact ⟨State.cfg_setCfg_self .., rfl⟩
    · have hact := State.edgeActs_hedge (s := (s.at t).edgeGood) (count := count) ht hh
      rw [if_neg (show ¬ 100000 < (s.at t).edgeGood.edgeError.natAbs from Nat.not_lt.2 he)] at hact
      rw [hact]
      rfl
    · have hact := State.edgeActs_hedge (s := (s.at t).edgeGood) (count := count) ht hh
      rw [if_pos (show 100000 < (s.at t).edgeGood.edgeError.natAbs from he),
        if_neg (show ¬ 16 ≤ (s.at t).edgeGood.clk.ignoredRun + 1 from Nat.not_le.2 hr)] at hact
      rw [hact]
      rfl
    · have hact := State.edgeActs_hedge (s := (s.at t).edgeGood) (count := count) ht hh
      rw [if_pos (show 100000 < (s.at t).edgeGood.edgeError.natAbs from he),
        if_pos (show 16 ≤ (s.at t).edgeGood.clk.ignoredRun + 1 from hr)] at hact
      have hclk := State.setTime_holdover (s := (s.at t).edgeGood.edgeIgnored) hh
      have hleft := (s.at t).edgeGood.edgeIgnored.setTime_frame .holdover
      rw [hact]
      have hst := congrArg Clocks.st hclk
      have hat := congrArg Clocks.leftAt hclk
      have hcount := congrArg Clocks.edgesIgnored hclk
      have hfreq := congrArg Clocks.freq hclk
      refine ⟨hst, hat, hcount, hfreq, ?_⟩
      have hkmod := congrArg State.mod hleft
      have hkflt := congrArg State.flt hleft
      generalize (s.at t).edgeGood.edgeIgnored.setTime .holdover = u at hleft hkmod hkflt
      rw [hkmod, hkflt]
      exact hleft
  case errFirst =>
    have hrun := State.errRun_first (s := s.at t) h
    refine ⟨_, congrArg Host.Outcome.next (State.barrierError_counted (s := s.at t) (by rw [hrun]; decide)), ?_⟩
    unfold State.linkErred
    rw [hrun]
    rfl
  case errMore =>
    have hrun := State.errRun_more (s := s.at t) h
    refine ⟨_, congrArg Host.Outcome.next (State.barrierError_counted (s := s.at t) (by rw [hrun]; exact hn)), ?_⟩
    have hmod := State.linkErred_more (s := s.at t) h
    exact congrArg (fun m : Module => { s with now := t, mod := m }) hmod
  case errEleventh =>
    have hrun := State.errRun_more (s := s.at t) h
    have hmod := State.linkErred_more (s := s.at t) h
    have heq : (s.at t).barrierError = (s.at t).linkErred.pulseFault 0xE02 :=
      if_pos (hrun.trans (congrArg (· + 1) hn))
    have halone := RaisedAlone.pulseFault (id := 0xE02) (by decide) (s.at t).linkErred
    obtain ⟨hcount, hsame⟩ := State.pulseFault_unitless (id := 0xE02) (by decide) (by decide) (s := (s.at t).linkErred)
    have hkept := congrArg State.mod halone.frame
    refine ⟨_, congrArg Host.Outcome.next heq, ?_, hcount, hsame, ?_⟩
    · rw [hkept, hmod]
      exact congrArg (fun k => { s.mod with linkErrors := inc64 s.mod.linkErrors, errCount := k + 1 }) hn
    · have hframe := halone.frame
      generalize (s.at t).linkErred.pulseFault 0xE02 = u at hframe hkept
      rw [hkept]
      exact hframe

end Sys2Proof.Machine
end

section
/-! PROOFS. The servo and TIME_STATE (R468 to R473, R500). -/

namespace Sys2Proof.Machine

/-! ## The servo (R469) -/

section
variable {s : State} {off : Int}

/-- A gate's change leaves all but the egress as it is. -/
def GateMoved (s u : State) : Prop := u = { s with egr := u.egr }

theorem GateMoved.trans {s u v : State} (h : GateMoved s u) (g : GateMoved u v) : GateMoved s v :=
  Eq.trans g (congrArg (fun w : State => { w with egr := v.egr }) h)

theorem GateMoved.foldl {f : State → Nat → State} (hf : ∀ s k, GateMoved s (f s k)) (l : List Nat) (s : State) :
    GateMoved s (l.foldl f s) := by
  induction l generalizing s with
  | nil => exact rfl
  | cons x r ih => exact (hf s x).trans (ih (f s x))

/-- A step of the time is counted, and changes nothing else but the gates (R469). -/
theorem State.stepTime_leaves (s : State) (off : Int) :
    s.stepTime off = { s with clk := { s.clk with steps := inc64 s.clk.steps }, egr := (s.stepTime off).egr } := by
  have hmoved : GateMoved { s with clk := { s.clk with steps := inc64 s.clk.steps } } (s.stepTime off) := by
    unfold State.stepTime
    generalize List.range 1024 = ports
    refine GateMoved.foldl (fun u lp => ?_) ports _
    dsimp only
    split <;> exact rfl
  exact hmoved

/-- The offset of a Sync noted. -/
def State.offsetSeen (s : State) (off : Int) : State := { s with clk := { s.clk with offset := off } }

/-- The rate that the servo asks for. -/
def State.servoRate (s : State) (off : Int) : Int :=
  clip (Config.servo (if s.timeLead = 0 then s.clk.freq else s.clk.freq1) off)
    (-(s.cfgN 0x03 0 0x18 : Int)) (s.cfgN 0x03 0 0x18)

/-- The clocks with a new rate of every timekeeper that is not of a pruned die. -/
def State.tuned (s : State) (off : Int) : Clocks :=
  { s.clk with offset := off, freq := if s.diePruned 0 then s.clk.freq else s.servoRate off
               freq1 := if s.diePruned 1 then s.clk.freq1 else s.servoRate off, freqHub := s.servoRate off }

/-- The block after the servo has acted on a Sync. -/
def State.served (s : State) (off : Int) : State := (s.offsetSeen off).servo off

theorem State.served_steps (h : s.cfgN 0x03 0 0x17 < off.natAbs) : s.served off =
    { s with clk := { s.clk with offset := off, steps := inc64 s.clk.steps }, egr := (s.served off).egr } := by
  have heq : s.served off = (s.offsetSeen off).stepTime off := if_pos (Int.ofNat_lt.2 h)
  rw [heq]
  exact (s.offsetSeen off).stepTime_leaves off

theorem State.served_tunes (h : off.natAbs ≤ s.cfgN 0x03 0 0x17) : s.served off = { s with clk := s.tuned off } := by
  have hnot : ¬ ((s.offsetSeen off).cfgN 0x03 0 0x17 : Int) < off.natAbs := fun hlt => Nat.not_lt.2 h (Int.ofNat_lt.1 hlt)
  unfold State.served State.servo
  rw [if_neg hnot]
  rfl

/-- What the servo leaves. -/
theorem State.served_leaves (s : State) (off : Int) :
    (s.served off).clk = (if s.cfgN 0x03 0 0x17 < off.natAbs then
      { s.clk with offset := off, steps := inc64 s.clk.steps } else s.tuned off) ∧
    (off.natAbs ≤ s.cfgN 0x03 0 0x17 → (s.served off).egr = s.egr) ∧
    s.served off = { s with clk := (s.served off).clk, egr := (s.served off).egr } := by
  by_cases h : s.cfgN 0x03 0 0x17 < off.natAbs
  · have hs := State.served_steps h
    have hclk := congrArg State.clk hs
    rw [if_pos h]
    refine ⟨hclk, fun hle => absurd h (Nat.not_lt.2 hle), ?_⟩
    generalize s.served off = v at hs hclk
    rw [hclk]
    exact hs
  · have hs := State.served_tunes (Nat.not_lt.1 h)
    rw [if_neg h, hs]
    exact ⟨rfl, fun _ => rfl, rfl⟩

end

/-! ## A Sync of the slave port (R470, R472, R500) -/

section
variable {s : State} {lp : Nat} {off : Int}

theorem exec_ptpSync (t : Nat) (s : State) (off : Int) (hl : lp < 1024) :
    exec (.ptpSync t lp off) s = .next ((s.at t).syncMeasured lp off) := if_pos (decide_eq_true hl)

theorem State.syncMeasured_other (h : s.clk.slave ≠ lp ∨ s.isPtpPort lp = false) : s.syncMeasured lp off = s :=
  if_pos (by simpa using h)

/-- The block with a run of good Syncs of some length. -/
def State.goodRun (s : State) (n : Nat) : State := { s with clk := { s.clk with good := n } }
/-- The block with a run of bad Syncs of some length. -/
def State.badRun (s : State) (n : Nat) : State := { s with clk := { s.clk with bad := n } }
/-- The measurement of 16 Syncs begins. -/
def State.measureBegun (s : State) : State :=
  { s with clk := { s.clk with measuring := true, measured := 0, measuredBad := false } }
/-- One Sync more of the measurement. -/
def State.measuredOne (s : State) (off : Int) : State :=
  { s with clk := { s.clk with offset := off, measured := s.clk.measured + 1
                               measuredBad := s.clk.measuredBad || decide (1000 ≤ off.natAbs) } }
/-- The measurement has ended. -/
def State.measureEnded (s : State) (off : Int) : State :=
  { s with clk := { s.clk with offset := off, measuring := false, measured := 0, measuredBad := false, from_ := s.clk.st } }

/-- A Sync in HEDGE or HOLDOVER: one of a measurement, or none. -/
def State.syncAway (s : State) (off : Int) : State :=
  if !s.clk.measuring then s.offsetSeen off
  else if s.clk.measured + 1 < 16 then
    { s with clk := { s.clk with offset := off, measured := s.clk.measured + 1
                                 measuredBad := s.clk.measuredBad || !decide (off.natAbs < 1000) } }
  else (s.measureEnded off).setTime (if s.clk.measuredBad || !decide (off.natAbs < 1000) then .acquiring else .locked)

/-- A Sync of the slave port, by TIME_STATE. -/
def State.syncIn (s : State) (off : Int) : TimeState → State
  | .acquiring =>
    if 16 ≤ (if decide (off.natAbs < 1000) then s.clk.good + 1 else 0) then (s.served off).setTime .locked
    else (s.served off).goodRun (if decide (off.natAbs < 1000) then s.clk.good + 1 else 0)
  | .locked =>
    if (if decide (off.natAbs < 1000) then 0 else s.clk.bad + 1) < 4 then
      (s.served off).badRun (if decide (off.natAbs < 1000) then 0 else s.clk.bad + 1)
    else (s.served off).leaveLocked.measureBegun
  | .hedge => s.syncAway off
  | .holdover => s.syncAway off
  | .free => s.offsetSeen off

section
variable (hs : s.clk.slave = lp) (hp : s.isPtpPort lp = true)
include hs hp

theorem State.sync_heard : ¬ (s.clk.slave ≠ lp ∨ (!s.isPtpPort lp) = true) := by simp [hs, hp]

theorem State.syncMeasured_heard : s.syncMeasured lp off = s.syncIn off s.clk.st := by
  unfold State.syncMeasured
  dsimp only
  rw [if_neg (State.sync_heard hs hp)]
  rfl

theorem State.syncMeasured_acquiring (hst : s.clk.st = .acquiring) : s.syncMeasured lp off =
    if off.natAbs < 1000 ∧ 15 ≤ s.clk.good then (s.served off).setTime .locked
    else (s.served off).goodRun (if off.natAbs < 1000 then s.clk.good + 1 else 0) := by
  rw [State.syncMeasured_heard hs hp, hst]
  unfold State.syncIn
  dsimp only
  generalize s.served off = v
  by_cases hg : off.natAbs < 1000 <;> simp [hg]

theorem State.syncMeasured_locked (hst : s.clk.st = .locked) : s.syncMeasured lp off =
    if off.natAbs < 1000 ∨ s.clk.bad + 1 < 4 then (s.served off).badRun (if off.natAbs < 1000 then 0 else s.clk.bad + 1)
    else (s.served off).leaveLocked.measureBegun := by
  rw [State.syncMeasured_heard hs hp, hst]
  unfold State.syncIn
  dsimp only
  generalize s.served off = v
  by_cases hg : off.natAbs < 1000 <;> simp [hg]

theorem State.syncMeasured_free (hst : s.clk.st = .free) : s.syncMeasured lp off = s.offsetSeen off := by
  rw [State.syncMeasured_heard hs hp, hst]
  rfl

theorem State.syncMeasured_away (hst : s.clk.st = .hedge ∨ s.clk.st = .holdover) : s.syncMeasured lp off =
    if s.clk.measuring = false then s.offsetSeen off
    else if s.clk.measured + 1 < 16 then s.measuredOne off
    else (s.measureEnded off).setTime (if s.clk.measuredBad = true ∨ 1000 ≤ off.natAbs then .acquiring else .locked) := by
  have hin : s.syncIn off s.clk.st = s.syncAway off := by
    obtain h | h := hst <;> rw [h] <;> rfl
  have hgood : (!decide (off.natAbs < 1000)) = decide (1000 ≤ off.natAbs) := by
    by_cases h : off.natAbs < 1000
    · rw [decide_eq_true h, decide_eq_false (Nat.not_le.2 h)]
      rfl
    · rw [decide_eq_false h, decide_eq_true (Nat.not_lt.1 h)]
      rfl
  rw [State.syncMeasured_heard hs hp, hin]
  unfold State.syncAway State.measuredOne
  simp only [hgood, Bool.not_eq_true', Bool.or_eq_true, decide_eq_true_eq]

end

end

/-! ## Changes of TIME_STATE (R470, R500) -/

section
variable {s : State}

/-- What a change to LOCKED from a state that is not traceable leaves. -/
theorem State.setTime_locked (h : s.clk.st = .acquiring) : (s.setTime .locked).clk =
    { s.clk with traceSince := s.now, st := .locked, ignoredRun := 0, good := 0, bad := 0 } := by
  unfold State.setTime
  rw [if_neg (by rw [h]; decide)]
  simp only [State.raise_kept .., h, State.traceable]
  rfl

/-- What leaving LOCKED leaves (R472). -/
theorem State.leaveLocked_clk (h : s.clk.st = .locked) : s.leaveLocked.clk =
    { s.clk with leftAt := s.now, specOver := false, st := if s.hedgeOk = true then .hedge else .holdover
                 ignoredRun := 0, good := 0, bad := 0 } := by
  unfold State.leaveLocked State.setTime
  cases hh : s.hedgeOk
  · rw [if_neg (by rw [h]; decide)]
    simp only [State.raise_kept .., h, State.traceable]
    rfl
  · rw [if_neg (by rw [h]; decide)]
    simp only [State.raise_kept .., h, State.traceable]
    rfl

/-- A change of TIME_STATE raises 0x0220. -/
theorem State.route_setTime {st : TimeState} (h : s.clk.st ≠ st) :
    (s.setTime st).route true 0x0220 = (s.route true 0x0220).raised := by
  unfold State.setTime
  rw [if_neg h]
  exact State.route_raise_self (State.sourceOwner_low _ (by decide) (by decide)) true

/-- A change of TIME_STATE keeps the clocks' other parts. -/
theorem State.setTime_clk (s : State) (st : TimeState) : (s.setTime st).clk.st = st ∧
    (s.setTime st).clk.measuring = s.clk.measuring ∧ (s.setTime st).clk.from_ = s.clk.from_ ∧
    (s.setTime st).clk.freq = s.clk.freq ∧ (s.setTime st).clk.steps = s.clk.steps ∧
    (s.setTime st).clk.timeSet = s.clk.timeSet := by
  unfold State.setTime
  split
  · next h => exact ⟨h, rfl, rfl, rfl, rfl, rfl⟩
  · simp only [State.raise_kept ..]
    split_ifs <;> simp

theorem State.hedgeOk_iff (s : State) : s.hedgeOk = true ↔
    s.cfgN 0x03 0 0x19 = 1 ∧ s.mod.ref10m = true ∧ s.mod.pps = true ∧ s.clk.ppsValid = true := by
  simp [State.hedgeOk, and_assoc]

/-- The block with HOLDOVER_SPEC over. -/
theorem State.specExpires_not (h : ¬ (s.clk.st = .holdover ∧ s.clk.leftAt + s.cfgN 0x03 0 0x1A * 1000000000 ≤ s.now)) :
    s.specExpires = s := if_neg h

theorem State.specExpires_due (h : s.clk.st = .holdover ∧ s.clk.leftAt + s.cfgN 0x03 0 0x1A * 1000000000 ≤ s.now) :
    s.specExpires = { s with clk := { s.clk with specOver := true } } := if_pos h

theorem State.clockClass_specOver (h : s.clk.st = .holdover) (ho : s.clk.specOver = true) : s.clockClass = 52 := by
  unfold State.clockClass
  rw [h]
  exact if_pos ho

/-- The value of TIME_SET used. -/
def State.timeSetUsed (s : State) : State := { s with clk := { s.clk with timeSet := none, ignoredRun := 0 } }

/-- An edge after TIME_SET enters HEDGE (R473). -/
theorem State.edgeActs_timeSet {v count : Nat} (h : s.clk.timeSet = some v) :
    s.edgeActs count = s.timeSetUsed.setTime .hedge := by
  unfold State.edgeActs
  rw [h]
  rfl

end

/-! ## TIME_SET (R473) -/

section
variable {s : State} {t a v : Nat}

theorem exec_timeSet (t v : Nat) (s : State) (ha : a < 16) :
    exec (.timeSet t a v) s = .next ((s.at t).orderNumber a 0x03 0 0x1D 8 v) := if_pos (decide_eq_true ha)

/-- The row of TIME_SET (Table 20.7). -/
def timeSetRow : Row := { m0 := 0x1D, m1 := 0x1D, ty := .u 8, acc := 2 }

theorem entryRow_timeSet : entryRow .clock 0 0x1D = some timeSetRow := rfl

/-- A number brought to a whole second is counted as a clamp, when it is taken (R303, R473). -/
theorem entryWrite_timeSet (s : State) (a : Nat) (hv : v < 2 ^ 64) :
    s.entryWrite a 0x03 0 0x1D .clock 0 timeSetRow (natLe 8 v) =
      afterWrite .clock 0 timeSetRow (s.slotOwner .clock 0)
        (if (byStatus (s.orderTime (wholeSecond v).toNat)).1 = 0 ∧ (v : Int) ≠ wholeSecond v then
          (0, (byStatus (s.orderTime (wholeSecond v).toNat)).2.1, (byStatus (s.orderTime (wholeSecond v).toNat)).2.2.clamp a)
        else byStatus (s.orderTime (wholeSecond v).toNat)) := by
  have hd : (leNat (natLe 8 v) : Int) = v := by rw [leNat_natLe, Nat.mod_eq_of_lt (show v < 256 ^ 8 from hv)]
  have hlegal : s.legalNow .clock 0 0x1D timeSetRow = [] := rfl
  have hscal : s.writeScalar a 0x03 0 0x1D .clock 0 timeSetRow (natLe 8 v) =
      if (byStatus (s.orderTime (wholeSecond v).toNat)).1 = 0 ∧ (v : Int) ≠ wholeSecond v then
        (0, (byStatus (s.orderTime (wholeSecond v).toNat)).2.1, (byStatus (s.orderTime (wholeSecond v).toNat)).2.2.clamp a)
      else byStatus (s.orderTime (wholeSecond v).toNat) := by
    have hty : timeSetRow.ty = .u 8 := rfl
    simp only [State.writeScalar, hlegal, hty, Ty.decode, Ty.width, natLe_length, hd, ne_eq, not_true_eq_false, if_false]
    rfl
  have hother : s.otherKind .clock 0 0x1D = false := rfl
  have hstr : timeSetRow.struct = false := rfl
  have hty : timeSetRow.ty = .u 8 := rfl
  simp only [State.entryWrite, hother, hstr, hty, hscal]
  rfl

theorem State.orderTime_refused (h : ¬ (s.clk.st = .free ∧ s.mod.ref10m = true ∧ s.mod.pps = true)) (x : Nat) :
    s.orderTime x = (3, s) := by
  refine if_pos ?_
  simp only [Bool.not_eq_true', ← Bool.not_eq_true]
  tauto

theorem State.orderTime_taken (hst : s.clk.st = .free) (h10 : s.mod.ref10m = true) (hpps : s.mod.pps = true) (x : Nat) :
    s.orderTime x = (0, { s with clk := { s.clk with timeSet := some x } }) := if_neg (by simp [hst, h10, hpps])

theorem wholeSecond_self (h : v % 1000000000 = 0) : wholeSecond v = v := by
  unfold wholeSecond nearestSecond
  omega

theorem wholeSecond_other (h : v % 1000000000 ≠ 0) : (v : Int) ≠ wholeSecond v := by
  unfold wholeSecond nearestSecond
  omega

theorem timeSet_refused (ha : a < 16) (hv : v < 2 ^ 64) (ht : takesAtOnce s t a) (hw : mayWrite s a 0x03 0 0x1D)
    (h : ¬ (s.clk.st = .free ∧ s.mod.ref10m = true ∧ s.mod.pps = true)) :
    exec (.timeSet t a v) s = .next ((s.at t).say 3 [] 0) := by
  have hwrite := entryWrite_timeSet (s.at t) a hv
  have hby : byStatus ((s.at t).orderTime (wholeSecond v).toNat) = (3, 0, s.at t) := by
    rw [State.orderTime_refused (s := s.at t) h]
    rfl
  rw [hby, if_neg (by simp), afterWrite_refused _ _ _ _ (by decide)] at hwrite
  exact (exec_timeSet t v s ha).trans (congrArg _ (orderWrite_refused (s := s) (t := t) ht spaceOf_clock entryRow_timeSet
    (.inr (mayWrite_right hw spaceOf_clock entryRow_timeSet)) (by decide) hwrite))

theorem timeSet_taken (ha : a < 16) (hv : v < 2 ^ 64) (ht : takesAtOnce s t a) (hw : mayWrite s a 0x03 0 0x1D)
    (hst : s.clk.st = .free) (h10 : s.mod.ref10m = true) (hpps : s.mod.pps = true) : ∃ u, exec (.timeSet t a v) s = .next u ∧
    (v % 1000000000 = 0 → accepted { s.at t with clk := { s.clk with timeSet := some (wholeSecond v).toNat } } u t) ∧
    (v % 1000000000 ≠ 0 →
      accepted ({ s.at t with clk := { s.clk with timeSet := some (wholeSecond v).toNat } }.clamp a) u t) := by
  have hwrite := entryWrite_timeSet (s.at t) a hv
  have hby : byStatus ((s.at t).orderTime (wholeSecond v).toNat) =
      (0, t, { s.at t with clk := { s.clk with timeSet := some (wholeSecond v).toNat } }) := by
    rw [State.orderTime_taken (s := s.at t) hst h10 hpps]
    rfl
  rw [hby] at hwrite
  refine ⟨_, exec_timeSet t v s ha, fun hz => ?_, fun hz => ?_⟩
  · rw [if_neg (by simp [wholeSecond_self hz]), afterWrite_plain rfl (by decide) (by decide)] at hwrite
    exact row_accepted (s := s) (t := t) ht spaceOf_clock entryRow_timeSet (.inr (mayWrite_right hw spaceOf_clock entryRow_timeSet)) hwrite
  · rw [if_pos ⟨rfl, wholeSecond_other hz⟩, afterWrite_plain rfl (by decide) (by decide)] at hwrite
    exact row_accepted (s := s) (t := t) ht spaceOf_clock entryRow_timeSet (.inr (mayWrite_right hw spaceOf_clock entryRow_timeSet)) hwrite

end

/-- A Sync that acts, where its offset is no step. -/
theorem State.served_alone {s : State} {off : Int} (h : off.natAbs ≤ s.cfgN 0x03 0 0x17) :
    s.served off = { s with clk := s.tuned off } ∧ (∀ k, (s.served off).route true k = s.route true k) := by
  have heq := State.served_tunes h
  exact ⟨heq, fun k => by rw [heq]; rfl⟩

/-- The sixteenth good Sync in ACQUIRING (R470). -/
theorem ptpSync_locks {s : State} {t lp : Nat} {off : Int} (hl : lp < 1024) (hs : s.clk.slave = lp) (hp : s.isPtpPort lp = true)
    (hstep : off.natAbs ≤ s.cfgN 0x03 0 0x17) (hst : s.clk.st = .acquiring) (hg : off.natAbs < 1000) (hn : 15 ≤ s.clk.good) :
    ∃ u, exec (.ptpSync t lp off) s = .next u ∧ u.clk.st = .locked ∧ u.clk.offset = off ∧ u.clk.freq = (s.tuned off).freq ∧
      u.clk.traceSince = t ∧ u.route true 0x0220 = (s.route true 0x0220).raised ∧
      u = { s with now := t, clk := u.clk, irq := u.irq, allots := u.allots, emits := u.emits } := by
  have heq := State.syncMeasured_acquiring (s := s.at t) (off := off) hs hp hst
  rw [if_pos ⟨hg, hn⟩] at heq
  obtain ⟨hserved, hroute⟩ := State.served_alone (s := s.at t) (off := off) hstep
  have hvst : ((s.at t).served off).clk.st = .acquiring := by rw [hserved]; exact hst
  have hclk := State.setTime_locked hvst
  have hraised := State.route_setTime (s := (s.at t).served off) (st := .locked) (by rw [hvst]; decide)
  have hframe := ((s.at t).served off).setTime_frame .locked
  refine ⟨_, (exec_ptpSync t s off hl).trans (congrArg _ heq), ?_, ?_, ?_, ?_, hraised.trans (congrArg Route.raised (hroute _)), ?_⟩
  · rw [hclk]
  · rw [hclk, hserved]
    rfl
  · rw [hclk, hserved]
    rfl
  · rw [hclk, hserved]
    rfl
  · generalize ((s.at t).served off).setTime .locked = u at hframe
    rw [hserved] at hframe
    exact hframe

/-- The fourth bad Sync in LOCKED (R472). -/
theorem ptpSync_leaves {s : State} {t lp : Nat} {off : Int} (hl : lp < 1024) (hs : s.clk.slave = lp) (hp : s.isPtpPort lp = true)
    (hstep : off.natAbs ≤ s.cfgN 0x03 0 0x17) (hst : s.clk.st = .locked) (hg : 1000 ≤ off.natAbs) (hn : 3 ≤ s.clk.bad) :
    ∃ u, exec (.ptpSync t lp off) s = .next u ∧
      u.clk.st = (if s.cfgN 0x03 0 0x19 = 1 ∧ s.mod.ref10m = true ∧ s.mod.pps = true ∧ s.clk.ppsValid = true
        then .hedge else .holdover) ∧ u.clk.leftAt = t ∧ u.clk.measuring = true ∧ u.clk.measured = 0 ∧
      u.clk.slave = lp ∧ u.clk.specOver = false ∧ u.route true 0x0220 = (s.route true 0x0220).raised ∧
      u = { s with now := t, clk := u.clk, irq := u.irq, allots := u.allots, emits := u.emits } := by
  have heq := State.syncMeasured_locked (s := s.at t) (off := off) hs hp hst
  rw [if_neg (show ¬ (off.natAbs < 1000 ∨ (s.at t).clk.bad + 1 < 4) from fun h => by
    have hbad : (s.at t).clk.bad = s.clk.bad := rfl
    omega)] at heq
  obtain ⟨hserved, hroute⟩ := State.served_alone (s := s.at t) (off := off) hstep
  have hvst : ((s.at t).served off).clk.st = .locked := by rw [hserved]; exact hst
  have hclk := State.leaveLocked_clk hvst
  have hok : ((s.at t).served off).hedgeOk = s.hedgeOk := by rw [hserved]; rfl
  have hraised := State.route_setTime (s := (s.at t).served off)
    (st := if ((s.at t).served off).hedgeOk then .hedge else .holdover) (by rw [hvst]; split <;> decide)
  have hframe := ((s.at t).served off).setTime_frame (if ((s.at t).served off).hedgeOk then .hedge else .holdover)
  refine ⟨_, (exec_ptpSync t s off hl).trans (congrArg _ heq), ?_, ?_, rfl, rfl, ?_, ?_,
    hraised.trans (congrArg Route.raised (hroute _)), ?_⟩
  · refine (congrArg Clocks.st hclk).trans ?_
    rw [hok]
    simp only [s.hedgeOk_iff]
  · refine (congrArg Clocks.leftAt hclk).trans ?_
    rw [hserved]
    rfl
  · refine (congrArg Clocks.slave hclk).trans ?_
    rw [hserved]
    exact hs
  · exact (congrArg Clocks.specOver hclk)
  · have hleft : ((s.at t).served off).setTime (if ((s.at t).served off).hedgeOk then .hedge else .holdover) =
      ((s.at t).served off).leaveLocked := rfl
    rw [hleft] at hframe
    generalize ((s.at t).served off).leaveLocked = w at hframe
    rw [hserved] at hframe
    exact congrArg State.measureBegun hframe

/-- The end of a measurement of 16 Syncs (R500). -/
theorem ptpSync_measured {s : State} {t lp : Nat} {off : Int} (hl : lp < 1024) (hs : s.clk.slave = lp) (hp : s.isPtpPort lp = true)
    (hst : s.clk.st = .hedge ∨ s.clk.st = .holdover) (hm : s.clk.measuring = true) (hn : 15 ≤ s.clk.measured) :
    ∃ u, exec (.ptpSync t lp off) s = .next u ∧
      u.clk.st = (if s.clk.measuredBad = true ∨ 1000 ≤ off.natAbs then .acquiring else .locked) ∧
      u.clk.measuring = false ∧ u.clk.from_ = s.clk.st ∧ u.clk.freq = s.clk.freq ∧ u.clk.steps = s.clk.steps ∧
      u = { s with now := t, clk := u.clk, irq := u.irq, allots := u.allots, emits := u.emits } := by
  have heq := State.syncMeasured_away (s := s.at t) (off := off) hs hp hst
  rw [if_neg (show ¬ (s.at t).clk.measuring = false by simp [hm]), if_neg (show ¬ (s.at t).clk.measured + 1 < 16 by
    have hk : (s.at t).clk.measured = s.clk.measured := rfl
    omega)] at heq
  obtain ⟨hset, hmeas, hfrom, hfreq, hsteps, -⟩ := ((s.at t).measureEnded off).setTime_clk
    (if (s.at t).clk.measuredBad = true ∨ 1000 ≤ off.natAbs then .acquiring else .locked)
  exact ⟨_, (exec_ptpSync t s off hl).trans (congrArg _ heq), hset, hmeas, hfrom, hfreq, hsteps,
    ((s.at t).measureEnded off).setTime_frame _⟩

/-- Settles O58: a Sync by what it does in each TIME_STATE, the servo by what it leaves of the clocks. -/
theorem timeStates : Obligations.TimeStates := by
  intro s t lp off hl
  refine ⟨fun h => ?other, fun hs hp => ?heard, ⟨fun h => ?specNot, fun h => ?specDue⟩,
    fun a v ha hv ht hw => ⟨fun h => ?setRefused, fun hst h10 hpps => ?setTaken⟩, fun v count hlo hhi hv hon h => ?edge⟩
  case other => exact (exec_ptpSync t s off hl).trans (congrArg _ (State.syncMeasured_other (s := s.at t) h))
  case heard =>
    intro freq tuned served
    have hserved : served ((s.at t).served off) := (s.at t).served_leaves off
    refine ⟨fun hst => ⟨_, hserved, ?_⟩, fun hst => ⟨_, hserved, ?_⟩, ptpSync_locks hl hs hp, ptpSync_leaves hl hs hp,
      fun hst => ⟨_, (exec_ptpSync t s off hl).trans (congrArg _ (State.syncMeasured_free (s := s.at t) hs hp hst)), rfl⟩,
      fun hst => ⟨fun hm => ?_, fun hm hn => ?_, ptpSync_measured hl hs hp hst⟩⟩
    · exact (exec_ptpSync t s off hl).trans (congrArg _ (State.syncMeasured_acquiring (s := s.at t) hs hp hst))
    · exact (exec_ptpSync t s off hl).trans (congrArg _ (State.syncMeasured_locked (s := s.at t) hs hp hst))
    · have heq := State.syncMeasured_away (s := s.at t) (off := off) hs hp hst
      rw [if_pos (show (s.at t).clk.measuring = false from hm)] at heq
      exact ⟨_, (exec_ptpSync t s off hl).trans (congrArg _ heq), rfl⟩
    · have heq := State.syncMeasured_away (s := s.at t) (off := off) hs hp hst
      rw [if_neg (show ¬ (s.at t).clk.measuring = false by simp [hm]),
        if_pos (show (s.at t).clk.measured + 1 < 16 from hn)] at heq
      exact ⟨_, (exec_ptpSync t s off hl).trans (congrArg _ heq), rfl⟩
  case specNot => exact congrArg Host.Outcome.next (State.specExpires_not (s := s.at t) h)
  case specDue =>
    have heq := State.specExpires_due (s := s.at t) h
    exact ⟨_, congrArg Host.Outcome.next heq, State.clockClass_specOver h.1 rfl, rfl⟩
  case setRefused => exact timeSet_refused ha hv ht hw h
  case setTaken =>
    obtain ⟨u, hex, hwhole, hclamped⟩ := timeSet_taken ha hv ht hw hst h10 hpps
    refine ⟨u, hex, fun hz => ⟨?_, hwhole hz⟩, fun hz => ?_⟩
    · have hclk : u.clk = { s.clk with timeSet := some (wholeSecond v).toNat } := by simp only [accepted_kept (hwhole hz)]
      rw [hclk, wholeSecond_self hz]
      rfl
    · have hacc := hclamped hz
      obtain ⟨hself, -, -⟩ := State.modAllot_alone { s.at t with clk := { s.clk with timeSet := some (wholeSecond v).toNat } } a
        fun r => { r with clamps := inc64 r.clamps }
      have hallots : u.allots = ({ s.at t with clk := { s.clk with timeSet := some (wholeSecond v).toNat } }.clamp a).allots := by
        simp only [accepted_kept hacc]
      refine ⟨?_, ?_⟩
      · unfold State.allot
        rw [hallots]
        exact congrArg Allot.clamps hself
      · rw [hallots]
        exact hacc
  case edge =>
    have hseen := State.timingEdge_seen (s := s.at t) (count := count) hv hon
    rw [if_neg (by omega)] at hseen
    obtain ⟨hmod, -, -, hframe, -⟩ := (s.at t).edgeGood_leaves
    have hact := State.edgeActs_timeSet (s := (s.at t).edgeGood) (count := count) h
    rw [hact] at hseen
    generalize (s.at t).edgeGood = w at hmod hframe hseen
    obtain ⟨hst, -, -, -, -, hset⟩ := w.timeSetUsed.setTime_clk .hedge
    have hleft := w.timeSetUsed.setTime_frame .hedge
    have hkmod := congrArg State.mod hleft
    have hkflt := congrArg State.flt hleft
    refine ⟨_, congrArg Host.Outcome.next hseen, hst, hset, hkmod.trans hmod, ?_⟩
    generalize w.timeSetUsed.setTime .hedge = u at hleft hkmod hkflt
    refine hleft.trans ?_
    rw [hkmod, hkflt, hframe]
    rfl

end Sys2Proof.Machine
end

section
/-! PROOFS. Announces, the BMCA, delay requests, management and what PTP ports send (R467, R468, R500). -/

namespace Sys2Proof.Machine

/-! ## The choice of the slave port (R468) -/

/-- The value read for a key is the default or an entry of the table. -/
theorem tget_mem {α : Type} (d : Nat → α) (t : Tab α) (k : Nat) : tget d t k = d k ∨ (k, tget d t k) ∈ t := by
  induction t with
  | nil => exact .inl rfl
  | cons x r ih =>
    obtain ⟨j, v⟩ := x
    unfold tget
    split
    · next h => exact .inr (h ▸ List.mem_cons_self)
    · exact ih.imp_right (List.mem_cons_of_mem _)

section
variable {s : State} {lp : Nat} {d : Announce}

/-- One step of the choice of the best port. -/
def State.bestStep (s : State) (b : Option (Nat × Announce)) (e : Nat × PtpPort) : Option (Nat × Announce) :=
  match e.2.best with
  | none => b
  | some a =>
    if !s.isPtpPort e.1 || decide (s.cfgN 0x03 (0x1000 + e.1) 0x02 = 1) || !isBetter a s.ownDataset then b
    else match b with
      | none => some (e.1, a)
      | some x => if isBetter a x.2 then some (e.1, a) else b

theorem State.bestPort_eq (s : State) : s.bestPort = s.clk.ptp.foldl s.bestStep none := rfl

theorem State.bestStep_none {e : Nat × PtpPort} (h : e.2.best = none) (b : Option (Nat × Announce)) : s.bestStep b e = b := by
  unfold State.bestStep
  rw [h]

/-- Without an Announce no port is chosen. -/
theorem State.bestPort_none (h : ∀ e ∈ s.clk.ptp, e.2.best = none) : s.bestPort = none :=
  (s.bestPort_eq).trans (foldl_idle _ _ _ fun e he => State.bestStep_none (h e he) none)

/-- An Announce of a port that may be a slave, and that is better than the module's dataset. -/
structure State.Eligible (s : State) (lp : Nat) (d : Announce) : Prop where
  port : s.isPtpPort lp = true
  slaveToo : s.cfgN 0x03 (0x1000 + lp) 0x02 ≠ 1
  better : isBetter d s.ownDataset = true

theorem State.bestStep_only (h : s.Eligible lp d) {x : PtpPort} (hx : x.best = some d) :
    s.bestStep none (lp, x) = some (lp, d) ∧ s.bestStep (some (lp, d)) (lp, x) = some (lp, d) := by
  have hnot : ¬ ((!s.isPtpPort lp || decide (s.cfgN 0x03 (0x1000 + lp) 0x02 = 1) || !isBetter d s.ownDataset) = true) := by
    simp [h.port, h.slaveToo, h.better]
  unfold State.bestStep
  simp only [hx, if_neg hnot]
  exact ⟨trivial, ite_self _⟩

/-- The only Announce, of a port that may be a slave, is chosen. -/
theorem State.bestPort_only (h : s.Eligible lp d) {x : PtpPort} (hx : x.best = some d) (hin : (lp, x) ∈ s.clk.ptp)
    (ho : ∀ e ∈ s.clk.ptp, e.2.best = none ∨ e = (lp, x)) : s.bestPort = some (lp, d) := by
  obtain ⟨hfirst, hagain⟩ := State.bestStep_only h hx
  suffices hall : ∀ l : List (Nat × PtpPort), (∀ e ∈ l, e.2.best = none ∨ e = (lp, x)) →
      l.foldl s.bestStep (some (lp, d)) = some (lp, d) ∧ ((lp, x) ∈ l → l.foldl s.bestStep none = some (lp, d)) from
    (s.bestPort_eq).trans ((hall _ ho).2 hin)
  intro l
  induction l with
  | nil => exact fun _ => ⟨rfl, fun h => absurd h List.not_mem_nil⟩
  | cons e r ih =>
    intro hl
    obtain ⟨hkeep, hfind⟩ := ih fun y hy => hl y (List.mem_cons_of_mem _ hy)
    rw [List.foldl_cons, List.foldl_cons]
    obtain hnone | rfl := hl e List.mem_cons_self
    · rw [State.bestStep_none hnone, State.bestStep_none hnone]
      refine ⟨hkeep, fun hmem => hfind ?_⟩
      obtain rfl | hmem := List.mem_cons.1 hmem
      · exact absurd (hnone.symm.trans hx) (by simp)
      · exact hmem
    · rw [hagain, hfirst]
      exact ⟨hkeep, fun _ => hkeep⟩

/-! ## The states of the ports -/

/-- The ports judged after the choice (Table 20.4). -/
def State.judgePorts (s : State) (new : Option (Nat × Announce)) : State :=
  ((List.range 1024).filter fun lp => s.isPtpPort lp || decide ((s.ptpPort lp).st ≠ 3)).foldl (fun (s : State) lp =>
    s.modPtpPort lp fun p => { p with st := if some lp = new.map (·.1) then 9 else s.otherPtp lp (new.map (·.2)) }) s

/-- The slave port as it was, or another. -/
def State.slaveTaken (s : State) (new : Option (Nat × Announce)) : State :=
  if new.map (·.1) = (if s.clk.slave = 0xFFFF then none else some s.clk.slave) then
    { s with clk := { s.clk with parent := new.map (·.2) } } else s.slaveChanged new

theorem State.bmca_idle (h : s.shedLive = false) : s.bmca = s := if_pos (by rw [h]; rfl)

theorem State.bmca_live (h : s.shedLive = true) : s.bmca = (s.slaveTaken s.bestPort).judgePorts s.bestPort := by
  unfold State.bmca
  rw [if_neg (by rw [h]; decide)]
  rfl

/-- What judging the ports may change: their states. -/
structure PortsJudged (s u : State) : Prop where
  best : ∀ k, (u.ptpPort k).best = (s.ptpPort k).best
  frame : u = { s with clk := { s.clk with ptp := u.clk.ptp } }

/-- What media time and the ports change of a block. -/
theorem PortsJudged.moved {v u : State} (h : PortsJudged v u)
    (hv : v = { s with clk := v.clk, irq := v.irq, allots := v.allots, emits := v.emits }) :
    u = { s with clk := u.clk, irq := u.irq, allots := u.allots, emits := u.emits } := by
  have hclk := congrArg State.clk h.frame
  have hirq := congrArg State.irq h.frame
  have hallots := congrArg State.allots h.frame
  have hemits := congrArg State.emits h.frame
  refine (h.frame.trans (congrArg (fun c : Clocks => { v with clk := c }) hclk.symm)).trans ?_
  rw [hirq, hallots, hemits]
  exact congrArg (fun x : State => { x with clk := u.clk }) hv

theorem PortsJudged.otherPtp {u : State} (h : PortsJudged s u) (k : Nat) (parent : Option Announce) :
    u.otherPtp k parent = s.otherPtp k parent := by
  unfold State.otherPtp
  rw [h.best k]
  have hframe := h.frame
  generalize u.clk.ptp = p at hframe
  rw [hframe]
  rfl

theorem PortsJudged.step {u : State} (h : PortsJudged s u) (k st : Nat) :
    PortsJudged s (u.modPtpPort k fun p => { p with st := st }) where
  best j := by
    rw [State.ptpPort_modPtpPort]
    split
    · next hj => rw [hj]; exact h.best k
    · exact h.best j
  frame := congrArg (fun v : State => { v with clk := { v.clk with ptp := (u.modPtpPort k fun p => { p with st := st }).clk.ptp } })
    h.frame

/-- What judging the ports leaves (R468). -/
theorem State.judgePorts_leaves (s : State) (new : Option (Nat × Announce)) : PortsJudged s (s.judgePorts new) ∧
    ∀ k, k < 1024 → s.isPtpPort k = true ∨ some k ≠ new.map (·.1) → ((s.judgePorts new).ptpPort k).st =
      if some k = new.map (·.1) then 9 else s.otherPtp k (new.map (·.2)) := by
  have hstart : PortsJudged s s := ⟨fun _ => rfl, rfl⟩
  have hnodup : ((List.range 1024).filter fun lp => s.isPtpPort lp || decide ((s.ptpPort lp).st ≠ 3)).Nodup :=
    List.nodup_range.filter _
  have hmem (k : Nat) (hk : k < 1024) (h : (s.isPtpPort k || decide ((s.ptpPort k).st ≠ 3)) = true) :
      k ∈ (List.range 1024).filter fun lp => s.isPtpPort lp || decide ((s.ptpPort lp).st ≠ 3) :=
    List.mem_filter.2 ⟨List.mem_range.2 hk, h⟩
  have hout (k : Nat) (h : ¬ (s.isPtpPort k || decide ((s.ptpPort k).st ≠ 3)) = true) :
      k ∉ (List.range 1024).filter fun lp => s.isPtpPort lp || decide ((s.ptpPort lp).st ≠ 3) :=
    fun hin => h (List.mem_filter.1 hin).2
  unfold State.judgePorts
  generalize (List.range 1024).filter _ = l at hnodup hmem hout
  refine ⟨?_, fun k hk hp => ?_⟩
  · suffices hall : ∀ (l : List Nat) (u : State), PortsJudged s u → PortsJudged s (l.foldl (fun (s : State) lp =>
        s.modPtpPort lp fun p => { p with st := if some lp = new.map (·.1) then 9 else s.otherPtp lp (new.map (·.2)) }) u) from
      hall l s hstart
    intro l
    induction l with
    | nil => exact fun _ h => h
    | cons x r ih => exact fun u h => ih _ (h.step x _)
  · by_cases hin : (s.isPtpPort k || decide ((s.ptpPort k).st ≠ 3)) = true
    · have hself := foldl_pointwise (fun u : State => u.ptpPort) (fun (s : State) lp => s.modPtpPort lp fun p =>
          { p with st := if some lp = new.map (·.1) then 9 else s.otherPtp lp (new.map (·.2)) })
        (fun lp p => { p with st := if some lp = new.map (·.1) then 9 else s.otherPtp lp (new.map (·.2)) })
        (PortsJudged s) (fun u x hu => hu.step x _)
        (fun u x hu => by rw [State.ptpPort_modPtpPort, if_pos rfl, hu.otherPtp])
        (fun u x j hj => by rw [State.ptpPort_modPtpPort, if_neg hj]) hnodup hstart (hmem k hk hin)
      exact congrArg PtpPort.st hself
    · have hsame := foldl_keeps (fun u : State => u.ptpPort k) (fun (s : State) lp => s.modPtpPort lp fun p =>
          { p with st := if some lp = new.map (·.1) then 9 else s.otherPtp lp (new.map (·.2)) }) l
        (fun u x hx => (State.ptpPort_modPtpPort ..).trans (if_neg fun h : k = x => hout k hin (by rw [h]; exact hx))) s
      simp only [Bool.or_eq_true, decide_eq_true_eq, not_or, not_not] at hin
      obtain ⟨hoff, hthree⟩ := hin
      have hother : s.otherPtp k (new.map (·.2)) = 3 := if_pos (by simpa using hoff)
      rw [if_neg (hp.resolve_left hoff), hother, ← hthree]
      exact congrArg PtpPort.st hsame

end

/-! ## The slave port, chosen and lost (R500) -/

section
variable {s : State} {lp : Nat} {d : Announce}

/-- A change of TIME_STATE keeps the ports. -/
theorem State.setTime_ports (s : State) (st : TimeState) : (s.setTime st).clk.slave = s.clk.slave ∧
    (s.setTime st).clk.parent = s.clk.parent ∧ (s.setTime st).clk.ptp = s.clk.ptp ∧
    (s.setTime st).clk.started = s.clk.started ∧ (s.setTime st).clk.measured = s.clk.measured := by
  unfold State.setTime
  split
  · exact ⟨rfl, rfl, rfl, rfl, rfl⟩
  · simp only [State.raise_kept ..]
    split_ifs <;> simp

theorem State.setTime_same (s : State) : s.setTime s.clk.st = s := if_pos rfl

/-- A PTP port stays one while its port, its configuration and the start of PTP stay. -/
theorem State.isPtpPort_of {s u : State} (hs : u.clk.started = s.clk.started) (ha : u.alm = s.alm) (hf : u.fwd = s.fwd) (k : Nat) :
    u.isPtpPort k = s.isPtpPort k := by
  unfold State.isPtpPort State.cfgN State.cfg
  rw [hs, ha, State.port_of_fwd hf]

/-- Media time once the slave port is gone. -/
def State.timeAfterSlave (s : State) : TimeState :=
  match s.clk.st with
  | .locked => if s.hedgeOk then .hedge else .holdover
  | .acquiring =>
    match s.clk.from_ with
    | .free => .free
    | .hedge => if s.hedgeOk then .hedge else .holdover
    | _ => .holdover
  | x => x

/-- The clocks without a slave port. -/
def State.slaveCleared (s : State) : State :=
  { s with clk := { s.clk with measuring := false, measured := 0, measuredBad := false, good := 0, bad := 0
                               slave := 0xFFFF, parent := none } }

/-- The loss of the slave port in ACQUIRING, by the state from which that was entered. -/
def State.acquiringGone (s : State) : TimeState → State
  | .free => s.slaveCleared.setTime .free
  | .hedge => s.slaveCleared.setTime (if s.slaveCleared.hedgeOk then .hedge else .holdover)
  | .acquiring => s.slaveCleared.setTime .holdover
  | .locked => s.slaveCleared.setTime .holdover
  | .holdover => s.slaveCleared.setTime .holdover

/-- The loss of the slave port, by TIME_STATE. -/
def State.slaveGoneIn (s : State) : TimeState → State
  | .locked => s.slaveCleared.leaveLocked
  | .acquiring => s.acquiringGone s.clk.from_
  | .free => s.slaveCleared
  | .hedge => s.slaveCleared
  | .holdover => s.slaveCleared

theorem State.slaveChanged_gone (s : State) : s.slaveChanged none = s.slaveGoneIn s.clk.st := by
  unfold State.slaveChanged
  dsimp only
  split
  · next h => exact Eq.trans rfl (congrArg s.slaveGoneIn h).symm
  · next h =>
    refine Eq.trans ?_ (congrArg s.slaveGoneIn h).symm
    show _ = s.acquiringGone s.clk.from_
    split
    · next hf => exact Eq.trans rfl (congrArg s.acquiringGone hf).symm
    · next hf => exact Eq.trans rfl (congrArg s.acquiringGone hf).symm
    · next hfree hhedge =>
      have hother : s.acquiringGone s.clk.from_ = s.slaveCleared.setTime .holdover := by
        unfold State.acquiringGone
        split
        · next hf => exact absurd hf hfree
        · next hf => exact absurd hf hhedge
        all_goals rfl
      exact hother.symm
  · next hl ha =>
    have hidle : s.slaveGoneIn s.clk.st = s.slaveCleared := by
      unfold State.slaveGoneIn
      split
      · next h => exact absurd h hl
      · next h => exact absurd h ha
      all_goals rfl
    exact hidle.symm

/-- The slave port is gone (R500). -/
theorem State.slaveChanged_none (s : State) : s.slaveChanged none = s.slaveCleared.setTime s.timeAfterSlave := by
  have hsame : s.slaveCleared.setTime s.clk.st = s.slaveCleared := s.slaveCleared.setTime_same
  rw [State.slaveChanged_gone]
  unfold State.slaveGoneIn State.timeAfterSlave
  cases hst : s.clk.st with
  | free => exact (hst ▸ hsame).symm
  | acquiring =>
    unfold State.acquiringGone
    dsimp only
    cases s.clk.from_ <;> rfl
  | locked => rfl
  | hedge => exact (hst ▸ hsame).symm
  | holdover => exact (hst ▸ hsame).symm

/-- Another slave port, of FREE (R468, R500). -/
def State.slaveChosen (s : State) (lp : Nat) (d : Announce) : State :=
  { s with clk := { s.clk with measuring := false, measured := 0, measuredBad := false, good := 0, bad := 0
                               slave := lp, parent := some d, from_ := .free } }

theorem State.slaveChanged_free (h : s.clk.st = .free) :
    s.slaveChanged (some (lp, d)) = (s.slaveChosen lp d).setTime .acquiring := by
  unfold State.slaveChanged
  dsimp only
  split
  · rfl
  all_goals next hst => exact absurd (h.symm.trans hst) (by decide)

/-- The block with the Announces of a port forgotten. -/
def State.bestForgotten (s : State) (lp : Nat) : State := s.modPtpPort lp fun p => { p with best := none }
/-- The block with LOCKED left and no measurement under way. -/
def State.slaveLeft (s : State) : State :=
  let u := if s.clk.st = .locked then s.leaveLocked else s
  { u with clk := { u.clk with measuring := false, measured := 0, measuredBad := false } }

theorem State.slaveLost_eq (h : s.clk.slave = lp) (hl : lp < 1024) : s.slaveLost = (s.bestForgotten lp).slaveLeft.bmca := by
  unfold State.slaveLost
  dsimp only
  rw [h, if_neg (by omega)]
  rfl

/-- What the loss of the slave port leaves before the choice of another (R500). -/
theorem State.slaveLeft_leaves (s : State) : s.slaveLeft.clk.slave = s.clk.slave ∧ s.slaveLeft.clk.measuring = false ∧
    s.slaveLeft.clk.measured = 0 ∧ s.slaveLeft.clk.ptp = s.clk.ptp ∧ s.slaveLeft.clk.started = s.clk.started ∧
    s.slaveLeft.clk.st = (if s.clk.st = .locked then (if s.hedgeOk then .hedge else .holdover) else s.clk.st) ∧
    (s.clk.st ≠ .locked → s.slaveLeft.clk.from_ = s.clk.from_ ∧ s.slaveLeft.hedgeOk = s.hedgeOk) ∧
    s.slaveLeft = { s with clk := s.slaveLeft.clk, irq := s.slaveLeft.irq, allots := s.slaveLeft.allots,
                           emits := s.slaveLeft.emits } := by
  unfold State.slaveLeft
  dsimp only
  split
  · next h =>
    unfold State.leaveLocked
    obtain ⟨hslave, -, hptp, hstarted, -⟩ := s.setTime_ports (if s.hedgeOk then .hedge else .holdover)
    obtain ⟨hst, -⟩ := s.setTime_clk (if s.hedgeOk then .hedge else .holdover)
    have hframe := s.setTime_frame (if s.hedgeOk then .hedge else .holdover)
    generalize s.setTime (if s.hedgeOk then .hedge else .holdover) = u at hslave hptp hstarted hst hframe
    refine ⟨hslave, rfl, rfl, hptp, hstarted, hst, fun hne => absurd h hne, ?_⟩
    exact congrArg (fun v : State =>
      { v with clk := { u.clk with measuring := false, measured := 0, measuredBad := false } }) hframe
  · exact ⟨rfl, rfl, rfl, rfl, rfl, rfl, fun _ => ⟨rfl, rfl⟩, rfl⟩

theorem State.timeAfterSlave_slaveLeft (s : State) : s.slaveLeft.timeAfterSlave = s.timeAfterSlave := by
  obtain ⟨-, -, -, -, -, hst, hkept, -⟩ := s.slaveLeft_leaves
  generalize s.slaveLeft = w at hst hkept
  by_cases hl : s.clk.st = .locked
  · rw [if_pos hl] at hst
    unfold State.timeAfterSlave
    rw [hst, hl]
    cases s.hedgeOk <;> rfl
  · obtain ⟨hfrom, hok⟩ := hkept hl
    rw [if_neg hl] at hst
    unfold State.timeAfterSlave
    rw [hst, hfrom, hok]

theorem State.bestForgotten_ports (s : State) (lp : Nat) :
    (s.bestForgotten lp).ptpPort lp = { s.ptpPort lp with best := none } ∧
    ∀ k, k ≠ lp → (s.bestForgotten lp).ptpPort k = s.ptpPort k :=
  ⟨(State.ptpPort_modPtpPort ..).trans (if_pos rfl), fun _ hk => (State.ptpPort_modPtpPort ..).trans (if_neg hk)⟩

/-- Ports read alike where the tables of PTP ports are alike. -/
theorem State.ptpPort_of {s u : State} (h : u.clk.ptp = s.clk.ptp) (k : Nat) : u.ptpPort k = s.ptpPort k := by
  unfold State.ptpPort
  rw [h]

/-- Without an Announce every other PTP port is a master. -/
theorem State.otherPtp_alone {k : Nat} {parent : Option Announce} (h : parent = none ∨ (s.ptpPort k).best = none) :
    s.otherPtp k parent = if s.isPtpPort k = true then 6 else 3 := by
  unfold State.otherPtp
  cases hp : s.isPtpPort k
  · rfl
  · obtain rfl | h := h
    · rfl
    · rw [h]
      cases parent <;> rfl

end

/-! ## Messages -/

section
variable {s : State} {t lp : Nat} {d : Announce}

theorem exec_announce (t : Nat) (d : Announce) (s : State) (hl : lp < 1024) :
    exec (.announce t lp d) s = .next ((s.at t).announced lp d) := if_pos (decide_eq_true hl)
theorem exec_delayReq (t : Nat) (mc : Bool) (s : State) (hl : lp < 1024) :
    exec (.delayReq t lp mc) s = .next ((s.at t).delayAsked lp mc) := if_pos (decide_eq_true hl)
theorem exec_ptpManagement (t : Nat) (get : Bool) (id : Nat) (s : State) (hl : lp < 1024) :
    exec (.ptpManagement t lp get id) s = .next ((s.at t).managed lp get id) := if_pos (decide_eq_true hl)
theorem exec_ptpSends (t k : Nat) (s : State) (hl : lp < 1024) :
    exec (.syncAndAnnounceSend t lp k) s = .next ((s.at t).ptpSends lp k) := if_pos (decide_eq_true hl)

/-- The block with an Announce kept for a port. -/
def State.announceKept (s : State) (lp : Nat) (d : Announce) : State := s.modPtpPort lp fun p => { p with best := some d }

theorem State.announced_ignored (h : s.isPtpPort lp = false ∨ d.senderId = clockId) : s.announced lp d = s :=
  if_pos (by simpa using h)

theorem State.announce_heard (hp : s.isPtpPort lp = true) (hd : d.senderId ≠ clockId) :
    ¬ (!s.isPtpPort lp || decide (d.senderId = clockId)) = true := by simp [hp, hd]

theorem State.announced_kept_best (hp : s.isPtpPort lp = true) (hd : d.senderId ≠ clockId)
    (h : ∀ o, (s.ptpPort lp).best = some o → (o.senderId = d.senderId ∧ o.senderPort = d.senderPort) ∨ isBetter d o = true) :
    s.announced lp d = (s.announceKept lp d).bmca := by
  unfold State.announced
  rw [if_neg (State.announce_heard hp hd)]
  cases hb : (s.ptpPort lp).best with
  | none => rfl
  | some o =>
    have htake : (decide ((o.senderId, o.senderPort) = (d.senderId, d.senderPort)) || isBetter d o) = true := by
      simpa using h o hb
    dsimp only
    rw [if_pos htake]
    rfl

theorem State.announced_worse {o : Announce} (hp : s.isPtpPort lp = true) (hd : d.senderId ≠ clockId)
    (hb : (s.ptpPort lp).best = some o) (ho : (o.senderId, o.senderPort) ≠ (d.senderId, d.senderPort))
    (hw : isBetter d o = false) : s.announced lp d = s.bmca := by
  have htake : ¬ (decide ((o.senderId, o.senderPort) = (d.senderId, d.senderPort)) || isBetter d o) = true := by
    rw [decide_eq_false ho, hw]
    decide
  unfold State.announced
  rw [if_neg (State.announce_heard hp hd), hb]
  dsimp only
  rw [if_neg htake]

theorem State.announceKept_ports (s : State) (lp : Nat) (d : Announce) :
    (s.announceKept lp d).ptpPort lp = { s.ptpPort lp with best := some d } ∧
    ∀ k, k ≠ lp → (s.announceKept lp d).ptpPort k = s.ptpPort k :=
  ⟨(State.ptpPort_modPtpPort ..).trans (if_pos rfl), fun _ hk => (State.ptpPort_modPtpPort ..).trans (if_neg hk)⟩

/-- A port of which the table holds no Announce has none. -/
theorem State.best_none (h : ∀ e ∈ s.clk.ptp, e.2.best = none) (k : Nat) : (s.ptpPort k).best = none := by
  obtain hd | hin := tget_mem (fun _ => ({} : PtpPort)) s.clk.ptp k
  · exact congrArg PtpPort.best hd
  · exact h _ hin

/-- The first Announce that is better than the module's dataset is chosen. -/
theorem State.bestPort_first (he : s.Eligible lp d) (hall : ∀ e ∈ s.clk.ptp, e.2.best = none) :
    (s.announceKept lp d).bestPort = some (lp, d) := by
  have hkept : (s.announceKept lp d).Eligible lp d := ⟨he.port, he.slaveToo, he.better⟩
  have hself := (s.announceKept_ports lp d).1
  refine State.bestPort_only hkept (x := { s.ptpPort lp with best := some d }) rfl ?_ fun e hin => ?_
  · obtain hd | hin := tget_mem (fun _ => ({} : PtpPort)) (s.announceKept lp d).clk.ptp lp
    · have hbest := congrArg PtpPort.best (hself.symm.trans hd)
      exact absurd hbest (by simp)
    · rw [← hself]
      exact hin
  · exact (mem_of_mem_tput (d := fun _ => ({} : PtpPort)) hin).imp_left (hall e)

/-- The first Announce that is better than the module's dataset makes its port the slave port (R468, R500). -/
theorem announce_chosen (hl : lp < 1024) (hd : d.senderId ≠ clockId) (he : s.Eligible lp d) (hlive : s.shedLive = true)
    (hall : ∀ e ∈ s.clk.ptp, e.2.best = none) (hslave : s.clk.slave = 0xFFFF) (hst : s.clk.st = .free) :
    ∃ u, exec (.announce t lp d) s = .next u ∧ u.clk.slave = lp ∧ u.clk.parent = some d ∧ u.clk.st = .acquiring ∧
      u.clk.from_ = .free ∧ (u.ptpPort lp).st = 9 ∧ (u.ptpPort lp).best = some d ∧
      (∀ k, k < 1024 → k ≠ lp → (u.ptpPort k).st = (if s.isPtpPort k then 6 else 3)) ∧
      u.route true 0x0220 = (s.route true 0x0220).raised ∧
      u = { s with now := t, clk := u.clk, irq := u.irq, allots := u.allots, emits := u.emits } := by
  have hnone := State.best_none hall
  have hann := State.announced_kept_best (s := s.at t) (d := d) he.port hd
    fun o ho => absurd ((hnone lp).symm.trans ho) (by simp)
  have hbest : ((s.at t).announceKept lp d).bestPort = some (lp, d) :=
    State.bestPort_first (s := s.at t) ⟨he.port, he.slaveToo, he.better⟩ hall
  have hbmca := State.bmca_live (s := (s.at t).announceKept lp d) hlive
  have htaken : ((s.at t).announceKept lp d).slaveTaken (some (lp, d)) =
      (((s.at t).announceKept lp d).slaveChosen lp d).setTime .acquiring := by
    unfold State.slaveTaken
    have hslave' : ((s.at t).announceKept lp d).clk.slave = 0xFFFF := hslave
    rw [hslave', if_pos rfl, if_neg (by simp)]
    exact State.slaveChanged_free hst
  rw [hbest, htaken] at hbmca
  obtain ⟨hself, hother⟩ := (s.at t).announceKept_ports lp d
  have hchosen : ((s.at t).announceKept lp d).slaveChosen lp d = { s.at t with
    clk := (((s.at t).announceKept lp d).slaveChosen lp d).clk } := rfl
  have hports (k : Nat) : (((s.at t).announceKept lp d).slaveChosen lp d).ptpPort k = ((s.at t).announceKept lp d).ptpPort k := rfl
  have hroute : (((s.at t).announceKept lp d).slaveChosen lp d).route true 0x0220 = s.route true 0x0220 := rfl
  have hcst : (((s.at t).announceKept lp d).slaveChosen lp d).clk.st = .free := hst
  have hcslave : (((s.at t).announceKept lp d).slaveChosen lp d).clk.slave = lp := rfl
  have hcparent : (((s.at t).announceKept lp d).slaveChosen lp d).clk.parent = some d := rfl
  have hcfrom : (((s.at t).announceKept lp d).slaveChosen lp d).clk.from_ = .free := rfl
  have hcstarted : (((s.at t).announceKept lp d).slaveChosen lp d).clk.started = s.clk.started := rfl
  generalize ((s.at t).announceKept lp d).slaveChosen lp d = w at hbmca hchosen hports hroute hcst hcslave hcparent hcfrom hcstarted
  have hwalm : w.alm = s.alm := by rw [hchosen]; rfl
  have hwfwd : w.fwd = s.fwd := by rw [hchosen]; rfl
  obtain ⟨hslave', hparent, hptp, hstarted, -⟩ := w.setTime_ports .acquiring
  obtain ⟨hvst, -, hfrom, -⟩ := w.setTime_clk .acquiring
  have hvframe := w.setTime_frame .acquiring
  have hvroute := State.route_setTime (s := w) (st := .acquiring) (by rw [hcst]; decide)
  generalize w.setTime .acquiring = v at hbmca hslave' hparent hptp hstarted hvst hfrom hvframe hvroute
  have hvptp := State.isPtpPort_of (s := s) (hstarted.trans hcstarted) ((congrArg State.alm hvframe).trans hwalm)
    ((congrArg State.fwd hvframe).trans hwfwd)
  have hvport (k : Nat) := (State.ptpPort_of hptp k).trans (hports k)
  obtain ⟨hjudged, hstates⟩ := v.judgePorts_leaves (some (lp, d))
  have hframe := hjudged.frame
  refine ⟨_, (exec_announce t d s hl).trans (congrArg _ (hann.trans hbmca)), ?_⟩
  have hbests := hjudged.best
  have hjudged' := hjudged
  generalize v.judgePorts (some (lp, d)) = u at hframe hstates hbests hjudged'
  have hclk := congrArg State.clk hframe
  have hirq := congrArg State.irq hframe
  refine ⟨?_, ?_, ?_, ?_, ?_, ?_, fun k hk hne => ?_, ?_, ?_⟩
  · rw [hclk]; exact hslave'.trans hcslave
  · rw [hclk]; exact hparent.trans hcparent
  · rw [hclk]; exact hvst
  · rw [hclk]; exact hfrom.trans hcfrom
  · rw [hstates lp hl (.inl ((hvptp lp).trans he.port))]
    exact if_pos rfl
  · rw [hbests, hvport, hself]
  · have hbest' : (v.ptpPort k).best = none := by
      rw [hvport, hother k hne]
      exact hnone k
    have hlp : some k ≠ (some (lp, d)).map (·.1) := fun h => hne (Option.some.inj h)
    rw [hstates k hk (.inr hlp), if_neg hlp, State.otherPtp_alone (.inr hbest'), hvptp]
  · have hu : u.route true 0x0220 = v.route true 0x0220 := by
      unfold State.route
      rw [hirq]
    exact hu.trans (hvroute.trans (congrArg Route.raised hroute))
  · have htimed := hvframe.trans (congrArg (fun x : State =>
      { x with clk := v.clk, irq := v.irq, allots := v.allots, emits := v.emits }) hchosen)
    exact hjudged'.moved htimed

theorem State.ptpSends_announce (hp : s.isPtpPort lp = true) (h6 : (s.ptpPort lp).st = 6) :
    s.ptpSends lp 0 = s.emit (.ptp s.now lp 0 s.clockClass) := by
  unfold State.ptpSends
  simp [hp, h6]

theorem State.ptpSends_sync (hp : s.isPtpPort lp = true) (h6 : (s.ptpPort lp).st = 6) :
    s.ptpSends lp 1 = (s.emit (.ptp s.now lp 1 s.clockClass)).emit (.ptp s.now lp 2 s.clockClass) := by
  unfold State.ptpSends
  simp only [hp, h6]
  rfl

theorem State.ptpSends_delay (hp : s.isPtpPort lp = true) (h9 : (s.ptpPort lp).st = 9) :
    s.ptpSends lp 3 = s.emit (.ptp s.now lp 3 s.clockClass) := by
  unfold State.ptpSends
  simp [hp, h9]

theorem State.ptpSends_mute {k : Nat}
    (h : s.isPtpPort lp = false ∨ ¬ ((s.ptpPort lp).st = 6 ∧ k < 2 ∨ (s.ptpPort lp).st = 9 ∧ k = 3)) : s.ptpSends lp k = s := by
  unfold State.ptpSends
  obtain h | h := h
  · exact if_pos (by rw [h]; rfl)
  · dsimp only
    split
    · rfl
    · rw [if_neg (by omega), if_neg (by omega), if_neg (by omega)]

/-- The announce timeout of the slave port while the Shed restarts (R500). -/
theorem announceTimeout_restarting (hl : lp < 1024) (hs : s.clk.slave = lp) (hlive : s.shedLive = false) :
    ∃ u, exec (.announceTimeout t) s = .next u ∧ u.clk.slave = lp ∧
      u.clk.measuring = false ∧ u.clk.measured = 0 ∧ u.ptpPort lp = { s.ptpPort lp with best := none } ∧
      (∀ k, k ≠ lp → u.ptpPort k = s.ptpPort k) ∧
      u.clk.st = (if s.clk.st = .locked then (if s.hedgeOk then .hedge else .holdover) else s.clk.st) ∧
      u = { s with now := t, clk := u.clk, irq := u.irq, allots := u.allots, emits := u.emits } := by
  have hlost := State.slaveLost_eq (s := s.at t) hs hl
  obtain ⟨hself, hother⟩ := (s.at t).bestForgotten_ports lp
  obtain ⟨hslave, hmeas, hmeasd, hptp, -, hst, -, hframe⟩ := ((s.at t).bestForgotten lp).slaveLeft_leaves
  have hshed := congrArg State.shed hframe
  have hidle := State.bmca_idle (s := ((s.at t).bestForgotten lp).slaveLeft) (by
    unfold State.shedLive
    rw [hshed]
    exact hlive)
  refine ⟨_, congrArg Host.Outcome.next (hlost.trans hidle), hslave.trans hs, hmeas, hmeasd, (State.ptpPort_of hptp lp).trans hself,
    fun k hk => (State.ptpPort_of hptp k).trans (hother k hk), hst, hframe⟩

/-- The announce timeout of the slave port where no other port has an Announce (R468, R500). -/
theorem announceTimeout_alone (hl : lp < 1024) (hs : s.clk.slave = lp) (hlive : s.shedLive = true)
    (hall : ∀ e ∈ (s.modPtpPort lp (fun p => { p with best := none })).clk.ptp, e.2.best = none) : ∃ u,
      exec (.announceTimeout t) s = .next u ∧ u.clk.slave = 0xFFFF ∧ u.clk.parent = none ∧ u.clk.measuring = false ∧
      u.clk.st = s.timeAfterSlave ∧ (u.ptpPort lp).best = none ∧
      (∀ k, k < 1024 → (u.ptpPort k).st = (if s.isPtpPort k then 6 else 3)) ∧
      u = { s with now := t, clk := u.clk, irq := u.irq, allots := u.allots, emits := u.emits } := by
  have hlost := State.slaveLost_eq (s := s.at t) hs hl
  obtain ⟨hself, -⟩ := (s.at t).bestForgotten_ports lp
  obtain ⟨hslave, -, -, hptp, hstarted, -, -, hframe⟩ := ((s.at t).bestForgotten lp).slaveLeft_leaves
  have htime : ((s.at t).bestForgotten lp).slaveLeft.timeAfterSlave = s.timeAfterSlave :=
    ((s.at t).bestForgotten lp).timeAfterSlave_slaveLeft
  have hfslave : ((s.at t).bestForgotten lp).clk.slave = lp := hs
  have hforgot : (s.at t).bestForgotten lp = { s.at t with clk := ((s.at t).bestForgotten lp).clk } := rfl
  have hfptp : ∀ e ∈ ((s.at t).bestForgotten lp).clk.ptp, e.2.best = none := hall
  have hfstarted : ((s.at t).bestForgotten lp).clk.started = s.clk.started := rfl
  have hshed := congrArg State.shed hframe
  have hlive' : ((s.at t).bestForgotten lp).slaveLeft.shedLive = true := by
    unfold State.shedLive
    rw [hshed]
    exact hlive
  generalize (s.at t).bestForgotten lp = f at *
  generalize f.slaveLeft = w at *
  have hbmca := State.bmca_live hlive'
  have hbest : w.bestPort = none := State.bestPort_none (by rw [hptp]; exact hfptp)
  have htaken : w.slaveTaken none = w.slaveCleared.setTime w.timeAfterSlave := by
    unfold State.slaveTaken
    rw [hslave, hfslave, if_neg (show ¬ lp = 0xFFFF by omega), if_neg (by simp), State.slaveChanged_none]
  rw [hbest, htaken, htime] at hbmca
  have hleft := hframe.trans (congrArg (fun x : State =>
    { x with clk := w.clk, irq := w.irq, allots := w.allots, emits := w.emits }) hforgot)
  obtain ⟨hslave', hparent, hptp', hstarted', -⟩ := w.slaveCleared.setTime_ports s.timeAfterSlave
  obtain ⟨hvst, hvmeas, -⟩ := w.slaveCleared.setTime_clk s.timeAfterSlave
  have hvframe := w.slaveCleared.setTime_frame s.timeAfterSlave
  generalize w.slaveCleared.setTime s.timeAfterSlave = v at *
  have halm := congrArg State.alm hleft
  have hfwd := congrArg State.fwd hleft
  have hvalm := (congrArg State.alm hvframe).trans halm
  have hvfwd := (congrArg State.fwd hvframe).trans hfwd
  have hvptp := State.isPtpPort_of (s := s) (hstarted'.trans (hstarted.trans hfstarted)) hvalm hvfwd
  obtain ⟨hjudged, hstates⟩ := v.judgePorts_leaves none
  have hbests := hjudged.best
  have hclk := congrArg State.clk hjudged.frame
  refine ⟨_, congrArg Host.Outcome.next (hlost.trans hbmca), ?_⟩
  generalize v.judgePorts none = u at *
  refine ⟨?_, ?_, ?_, ?_, ?_, fun k hk => ?_, ?_⟩
  · rw [hclk]; exact hslave'
  · rw [hclk]; exact hparent
  · rw [hclk]; exact hvmeas
  · rw [hclk]; exact hvst
  · rw [hbests, State.ptpPort_of (hptp'.trans hptp), hself]
  · have hother : v.otherPtp k none = if v.isPtpPort k = true then 6 else 3 := State.otherPtp_alone (.inl rfl)
    have hjudge := (hstates k hk (.inr (by simp))).trans (if_neg (by simp))
    rw [hjudge, ← hvptp]
    exact hother
  · have hmoved := congrArg (fun x : State =>
      { x.slaveCleared with clk := v.clk, irq := v.irq, allots := v.allots, emits := v.emits }) hleft
    exact hjudged.moved (hvframe.trans hmoved)

end

/-- Settles O59: an Announce by whether it is kept and what the BMCA makes of it, the loss of the slave port, and each message by
its port's role. -/
theorem ptpMessages : Obligations.PtpMessages := by
  intro s t lp hl
  refine ⟨fun d h => ?ignored, fun d hp hd => ⟨fun h => ?kept, fun o hb ho hw => ?worse, fun hlive => ?idle,
      fun o hb ho hw hlive => ?worseIdle, fun hb hlive => ?first, fun hlive hall hbetter hm hslave hst => ?chosen⟩,
    fun h => ?noSlave, announceTimeout_restarting hl, announceTimeout_alone hl, fun mc => ⟨fun h => ?silent, fun hp h6 => ?answered⟩,
    fun get id => ⟨fun h => ?unmanaged, fun hp hg hid => ?managed⟩,
    fun hp => ⟨fun h6 => ⟨?announces, ?syncs⟩, fun h9 => ?asks⟩, fun k h => ?mute⟩
  case ignored => exact (exec_announce t d s hl).trans (congrArg _ (State.announced_ignored (s := s.at t) h))
  case kept => exact (exec_announce t d s hl).trans (congrArg _ (State.announced_kept_best (s := s.at t) hp hd h))
  case worse => exact (exec_announce t d s hl).trans (congrArg _ (State.announced_worse (s := s.at t) hp hd hb ho hw))
  case idle => exact State.bmca_idle (s := s.at t) hlive
  case worseIdle =>
    exact (exec_announce t d s hl).trans (congrArg _ ((State.announced_worse (s := s.at t) hp hd hb ho hw).trans
      (State.bmca_idle (s := s.at t) hlive)))
  case first =>
    obtain ⟨hself, hother⟩ := (s.at t).announceKept_ports lp d
    have hkept := State.announced_kept_best (s := s.at t) (d := d) hp hd fun o ho => absurd (hb.symm.trans ho) (by simp)
    exact ⟨(s.at t).announceKept lp d, (exec_announce t d s hl).trans (congrArg _ (hkept.trans
      (State.bmca_idle (s := (s.at t).announceKept lp d) hlive))), hself, hother, rfl⟩
  case chosen => exact announce_chosen hl hd ⟨hp, hm, hbetter⟩ hlive hall hslave hst
  case noSlave => exact congrArg Host.Outcome.next (if_pos h)
  case silent =>
    refine (exec_delayReq t mc s hl).trans (congrArg _ (if_neg ?_))
    rintro ⟨hp, h6⟩
    obtain h | h := h
    · exact Bool.false_ne_true (h.symm.trans hp)
    · exact h h6
  case answered => exact ⟨_, (exec_delayReq t mc s hl).trans (congrArg _ (if_pos ⟨hp, h6⟩)), rfl⟩
  case unmanaged =>
    refine (exec_ptpManagement t get id s hl).trans (congrArg _ (if_neg ?_))
    rintro ⟨hp, hg, hid⟩
    obtain h | h | h := h
    · exact Bool.false_ne_true (h.symm.trans hp)
    · exact Bool.false_ne_true (h.symm.trans hg)
    · omega
  case managed => exact ⟨_, (exec_ptpManagement t get id s hl).trans (congrArg _ (if_pos ⟨hp, hg, hid⟩)), rfl⟩
  case announces => exact ⟨_, (exec_ptpSends t 0 s hl).trans (congrArg _ (State.ptpSends_announce (s := s.at t) hp h6)), rfl⟩
  case syncs => exact ⟨_, (exec_ptpSends t 1 s hl).trans (congrArg _ (State.ptpSends_sync (s := s.at t) hp h6)), rfl⟩
  case asks => exact ⟨_, (exec_ptpSends t 3 s hl).trans (congrArg _ (State.ptpSends_delay (s := s.at t) hp h9)), rfl⟩
  case mute => exact (exec_ptpSends t k s hl).trans (congrArg _ (State.ptpSends_mute (s := s.at t) h))

end Sys2Proof.Machine
end

section
/-! PROOFS. The steps of power-up (R446, R448, R477, R478, R480, R482, R483, R485, R486, R491). -/

namespace Sys2Proof.Machine

/-! ## Tables taken from the image -/

section
variable {α β : Type} [DecidableEq β] {d : Nat → β} {f : Nat → α → β}

/-- A loop that puts entries in a table keeps what is read for the keys that it does not put. -/
theorem tget_puts_other {k : Nat} (l : Tab α) (h : ∀ e ∈ l, e.1 ≠ k) (t : Tab β) :
    tget d (l.foldl (fun r e => tput d r e.1 (f e.1 e.2)) t) k = tget d t k :=
  foldl_keeps (fun r => tget d r k) _ l (fun r e he => tget_tput_other d r _ (Ne.symm (h e he))) t

/-- What a table made of another reads for a key that stands there once. -/
theorem tget_tmap {t : Tab α} (hn : (t.map (·.1)).Nodup) {k : Nat} {v : α} (hk : (k, v) ∈ t) : tget d (tmap d f t) k = f k v := by
  suffices hall : ∀ r : Tab β, tget d (t.foldl (fun r e => tput d r e.1 (f e.1 e.2)) r) k = f k v from hall []
  induction t with
  | nil => exact absurd hk List.not_mem_nil
  | cons e l ih =>
    intro r
    obtain ⟨hfirst, hrest⟩ := List.nodup_cons.1 (show (e.1 :: l.map (·.1)).Nodup from hn)
    rw [List.foldl_cons]
    obtain rfl | hk := List.mem_cons.1 hk
    · rw [tget_puts_other l (fun e' he' h => hfirst (by rw [← show e'.1 = k from h]; exact List.mem_map_of_mem (f := fun e => e.1) he'))]
      exact tget_tput_self ..
    · exact ih hrest hk _

end

/-! ## Time zero (R477) -/

section
variable {s : State} {c : Int} {sp : BitVec 4}

theorem State.powersUp_not (h : s.mod.on = true ∨ 125 < c ∨ (s.mod.tripped = true ∧ 90 ≤ c) ∨
    (s.mod.rangeA = false ∧ s.mod.rangeB = false)) : s.powersUp c sp = s := by
  refine if_pos ?_
  simp only [Bool.or_eq_true, Bool.and_eq_true, decide_eq_true_eq, Bool.not_eq_true', Bool.or_eq_false_iff]
  tauto

/-- The block at time zero, before its rails and PLLs start. -/
def State.zeroed (s : State) (c : Int) (sp : BitVec 4) : State :=
  let k := s.kept s.mod.keepLost
  let main := if s.mod.keepLost then 0 else k.cfgN 0x02 0 0x01
  { k with
    boot := { zero := s.now, coldOut := decide (c < -55), keepLost := s.mod.keepLost }
    mod := { k.mod with on := true, feedInUse := if k.mod.usable main then main else 1 - main, split := sp } }

/-- The rails on. -/
def State.railsUp (s : State) : State :=
  (List.range 17).foldl (fun (s : State) r =>
    if r = 13 ∨ r = 14 then
      (if (List.range 8).any (fun k => s.engineWanted (8 * (r - 13) + k)) then s.setRail r 1 else s)
    else s.setRail r 1) s
/-- The PLLs started. -/
def State.pllsUp (s : State) : State :=
  (List.range 12).foldl (fun (s : State) m => s.startPll (stackPll m (s.cfgN 0x30 m 0x02))) ((List.range 11).foldl State.startPll s)

theorem State.railsUp_leaves (s : State) : ∃ r, s.railsUp = { s with mod := { s.mod with rails := r } } := by
  unfold State.railsUp
  generalize List.range 17 = l
  suffices hall : ∀ (l : List Nat) (u : State), (∃ r, u = { s with mod := { s.mod with rails := r } }) →
      ∃ r, l.foldl (fun (s : State) r =>
        if r = 13 ∨ r = 14 then
          (if (List.range 8).any (fun k => s.engineWanted (8 * (r - 13) + k)) then s.setRail r 1 else s)
        else s.setRail r 1) u = { s with mod := { s.mod with rails := r } } from hall l s ⟨s.mod.rails, rfl⟩
  intro l
  induction l with
  | nil => exact fun _ h => h
  | cons x t ih =>
    rintro u ⟨r, hu⟩
    refine ih _ ?_
    have hset : ∃ r, u.setRail x 1 = { s with mod := { s.mod with rails := r } } := by
      rw [hu]
      exact ⟨_, rfl⟩
    dsimp only
    split
    · split
      · exact hset
      · exact ⟨r, hu⟩
    · exact hset

theorem State.startPll_leaves (s : State) (p : Nat) : ∃ l, s.startPll p = { s with clk := { s.clk with starting := l } } := by
  unfold State.startPll
  split
  · exact ⟨s.clk.starting, rfl⟩
  · exact ⟨_, rfl⟩

/-- Only PLLs start. -/
def PllsStarted (s u : State) : Prop := ∃ l, u = { s with clk := { s.clk with starting := l } }

theorem PllsStarted.foldl {f : State → Nat → State} (hf : ∀ s k, PllsStarted s (f s k)) (l : List Nat) (s : State) :
    PllsStarted s (l.foldl f s) := by
  induction l generalizing s with
  | nil => exact ⟨s.clk.starting, rfl⟩
  | cons x r ih =>
    obtain ⟨a, ha⟩ := hf s x
    obtain ⟨b, hb⟩ := ih (f s x)
    exact ⟨b, hb.trans (congrArg (fun v : State => { v with clk := { v.clk with starting := b } }) ha)⟩

theorem State.pllsUp_leaves (s : State) : PllsStarted s s.pllsUp := by
  obtain ⟨a, ha⟩ := PllsStarted.foldl (f := State.startPll) State.startPll_leaves (List.range 11) s
  obtain ⟨b, hb⟩ := PllsStarted.foldl (f := fun (s : State) m => s.startPll (stackPll m (s.cfgN 0x30 m 0x02)))
    (fun s m => s.startPll_leaves _) (List.range 12) ((List.range 11).foldl State.startPll s)
  exact ⟨b, hb.trans (congrArg (fun v : State => { v with clk := { v.clk with starting := b } }) ha)⟩

theorem State.powersUp_zeroed (hon : s.mod.on = false) (hc : c ≤ 125) (ht : s.mod.tripped = false ∨ c < 90)
    (hr : s.mod.rangeA = true ∨ s.mod.rangeB = true) : s.powersUp c sp =
      if s.mod.keepLost then ((s.zeroed c sp).railsUp.pllsUp.reach 1).pulseFault 0xD02
      else (s.zeroed c sp).railsUp.pllsUp.reach 1 := by
  refine (if_neg ?_).trans ?_
  · simp only [Bool.or_eq_true, Bool.and_eq_true, decide_eq_true_eq, Bool.not_eq_true', Bool.or_eq_false_iff, hon]
    rintro ((h | h | ⟨h, h'⟩) | ⟨h, h'⟩)
    · exact Bool.false_ne_true h
    · omega
    · obtain ht | ht := ht
      · exact Bool.false_ne_true (ht.symm.trans h)
      · omega
    · obtain hr | hr := hr
      · exact Bool.false_ne_true (h.symm.trans hr)
      · exact Bool.false_ne_true (h'.symm.trans hr)
  · unfold State.railsUp State.pllsUp
    generalize List.range 17 = l17, List.range 11 = l11, List.range 12 = l12
    rfl

/-- What a pulse of a source of no unit keeps of the allotments. -/
def AllotsStay (s u : State) : Prop := ∀ a, (u.allot a).session = (s.allot a).session ∧ (u.allot a).key = (s.allot a).key ∧
  (u.allot a).staging = (s.allot a).staging

theorem AllotsStay.pulseFault {id : Nat} (hu : unitOf id = none) (s : State) : AllotsStay s (s.pulseFault id) := by
  have hrec (a : Nat) : ((s.recordRaise id false).allot a).session = (s.allot a).session ∧
      ((s.recordRaise id false).allot a).key = (s.allot a).key ∧
      ((s.recordRaise id false).allot a).staging = (s.allot a).staging := by
    unfold State.recordRaise
    dsimp only
    split
    · exact ⟨rfl, rfl, rfl⟩
    · exact ⟨(State.allot_raise_session ..), (State.allot_raise_key ..), (State.allot_raise_staging ..)⟩
  intro a
  unfold State.pulseFault State.raised
  split
  · exact ⟨rfl, rfl, rfl⟩
  · split
    · exact ⟨rfl, rfl, rfl⟩
    · have hreact : ((s.recordRaise id false).react id (s.classOf id)).allots = (s.recordRaise id false).allots := by
        rcases State.react_unitless hu (s.recordRaise id false) (s.classOf id) with h | h | h <;> rw [h] <;> rfl
      unfold State.allot at hrec ⊢
      rw [hreact]
      exact hrec a

/-- An allotment's record at time zero. -/
theorem State.allot_kept (s : State) (lost : Bool) {a : Nat} (ha : a < 16) :
    (s.kept lost).allot a = s.allotFromImage lost a (s.allot a) := by
  refine tget_tmap ?_ (List.mem_map.2 ⟨a, List.mem_range.2 ha, rfl⟩)
  rw [List.map_map]
  exact (List.map_id (List.range 16)).symm ▸ List.nodup_range

/-- The slot of the only stream at time zero. -/
theorem State.slot_kept {n : Nat} {x : Slot} (s : State) (lost : Bool) (h : s.str.slots = [(n, x)]) :
    (s.kept lost).slot n = x.fromImage := by
  refine tget_tmap (f := fun _ => Slot.fromImage) (t := s.str.slots) ?_ ?_
  · rw [h]
    exact List.nodup_singleton n
  · rw [h]
    exact List.mem_singleton_self _

/-- The block at milestone 1, with some rails on and some PLLs started. -/
def State.begun (s : State) (rails : Tab Nat) (plls : List Nat) : State :=
  { s with mod := { s.mod with rails := rails }, clk := { s.clk with starting := plls } }.reach 1

/-- The start of power-up begins at time zero, and the loss of KEEP is only counted. -/
theorem powerUp_frame (s : State) (t : Nat) (c : Int) (sp : BitVec 4) (hon : s.mod.on = false) (hc : c ≤ 125)
    (htrip : s.mod.tripped = false ∨ c < 90) (hr : s.mod.rangeA = true ∨ s.mod.rangeB = true) : ∃ u r l,
      exec (.powerUp t c sp) s = .next u ∧
      u = { ((s.at t).zeroed c sp).begun r l with flt := u.flt, irq := u.irq, allots := u.allots, emits := u.emits } ∧
      AllotsStay ((s.at t).zeroed c sp) u := by
  have heq := State.powersUp_zeroed (s := s.at t) (c := c) (sp := sp) hon hc htrip hr
  obtain ⟨r, hrails⟩ := ((s.at t).zeroed c sp).railsUp_leaves
  obtain ⟨l, hplls⟩ := ((s.at t).zeroed c sp).railsUp.pllsUp_leaves
  have hv := hplls.trans (congrArg (fun v : State => { v with clk := { v.clk with starting := l } }) hrails)
  have hbegun : ((s.at t).zeroed c sp).railsUp.pllsUp.reach 1 = ((s.at t).zeroed c sp).begun r l :=
    congrArg (fun v : State => v.reach 1) hv
  rw [hbegun] at heq
  refine ⟨_, r, l, congrArg Host.Outcome.next heq, ?_⟩
  have hstart : AllotsStay ((s.at t).zeroed c sp) (((s.at t).zeroed c sp).begun r l) := fun _ => ⟨rfl, rfl, rfl⟩
  generalize ((s.at t).zeroed c sp).begun r l = v at hstart ⊢
  split
  · have halone := RaisedAlone.pulseFault (id := 0xD02) (by decide) v
    have hstay := AllotsStay.pulseFault (id := 0xD02) (by decide) v
    refine ⟨halone.frame, fun a => ?_⟩
    obtain ⟨hsession, hkey, hstaging⟩ := hstay a
    obtain ⟨hsession', hkey', hstaging'⟩ := hstart a
    exact ⟨hsession.trans hsession', hkey.trans hkey', hstaging.trans hstaging'⟩
  · exact ⟨rfl, hstart⟩

/-- What the start of power-up leaves (R477, R446). -/
theorem powerUp_starts (s : State) (t : Nat) (c : Int) (sp : BitVec 4) (hon : s.mod.on = false) (hc : c ≤ 125)
    (htrip : s.mod.tripped = false ∨ c < 90) (hr : s.mod.rangeA = true ∨ s.mod.rangeB = true) :
      ∃ u, exec (.powerUp t c sp) s = .next u ∧ u.mod.on = true ∧ u.mod.split = sp ∧ u.boot.milestone = 1 ∧
        u.boot.zero = t ∧ u.boot.keepLost = s.mod.keepLost ∧ u.boot.coldOut = decide (c < -55) ∧ u.boot.step6 = none ∧
        u.mod.tripped = false ∧ u.mod.keepLost = false ∧ u.alm.live = false ∧ u.shed = {} ∧ u.pending = s.pending ∧
        u.gauge = s.gauge ∧ u.rings = [] ∧ u.mem.exchange = [] ∧ (∀ b, u.bed b = {}) ∧ u.clk.st = .free ∧
        u.mod.hours = (if s.mod.keepLost then 0 else s.mod.hours) ∧
        (∀ a, a < 16 → (u.allot a).session = (if s.mod.keepLost then 0 else (s.allot a).session) ∧
          (u.allot a).key = (s.allot a).key ∧ (u.allot a).staging = []) ∧
        (s.mod.keepLost = false → u.cal.savedPairs = s.cal.savedPairs ∧ u.cal.savedSensors = s.cal.savedSensors ∧
          u.cal.saved = s.cal.saved) ∧ (s.mod.keepLost = true → u.cal = {}) ∧
        (∀ n x, s.str.slots = [(n, x)] → (u.slot n).owner = x.owner ∧ (u.slot n).st = min x.st 1 ∧
          (u.slot n).readmit = (x.readmit || decide (3 ≤ x.st))) := by
  obtain ⟨u, r, l, hex, hu, hstay⟩ := powerUp_frame s t c sp hon hc htrip hr
  have hallot (k : Nat) (hk : k < 16) : (u.allot k).session = (if s.mod.keepLost then 0 else (s.allot k).session) ∧
      (u.allot k).key = (s.allot k).key ∧ (u.allot k).staging = [] := by
    have hzero := (s.at t).allot_kept s.mod.keepLost hk
    obtain ⟨hsession, hkey, hstaging⟩ := hstay k
    rw [hsession, hkey, hstaging]
    have hz : ((s.at t).zeroed c sp).allot k = ((s.at t).kept s.mod.keepLost).allot k := rfl
    rw [hz, hzero]
    exact ⟨rfl, rfl, rfl⟩
  have hslot (n : Nat) : u.slot n = ((s.at t).kept s.mod.keepLost).slot n := by rw [hu]; rfl
  refine ⟨u, hex, ?_⟩
  refine ⟨by rw [hu]; rfl, by rw [hu]; rfl, by rw [hu]; rfl, by rw [hu]; rfl, by rw [hu]; rfl, by rw [hu]; rfl, by rw [hu]; rfl,
    by rw [hu]; rfl, by rw [hu]; rfl, by rw [hu]; rfl, by rw [hu]; rfl, by rw [hu]; rfl, by rw [hu]; rfl, by rw [hu]; rfl,
    by rw [hu]; rfl, fun b => by rw [hu]; rfl, ?_, by rw [hu]; rfl, hallot, fun h => ?_, fun h => ?_, fun n x h => ?_⟩
  · have hclk : u.clk.st = ((s.at t).kept s.mod.keepLost).clk.st := by rw [hu]; rfl
    rw [hclk]
    show (if s.mod.keepLost then ({} : Clocks) else _).st = .free
    split <;> rfl
  · have hcal : u.cal = ((s.at t).kept s.mod.keepLost).cal := by rw [hu]; rfl
    rw [hcal, h]
    exact ⟨rfl, rfl, rfl⟩
  · have hcal : u.cal = ((s.at t).kept s.mod.keepLost).cal := by rw [hu]; rfl
    rw [hcal, h]
    rfl
  · rw [hslot, (s.at t).slot_kept s.mod.keepLost h]
    exact ⟨rfl, rfl, rfl⟩

end

end Sys2Proof.Machine
end

section
/-! PROOFS. The milestones of power-up (R393, R480, R482, R483, R485 to R487, R491). -/

namespace Sys2Proof.Machine

/-! ## Sources through the prune of a stack -/

/-- No source changes. -/
def SourcesStay (s u : State) : Prop := u.flt.sources = s.flt.sources

section
variable {s u v : State}

theorem SourcesStay.trans (h : SourcesStay s u) (g : SourcesStay u v) : SourcesStay s v := Eq.trans g h

theorem SourcesStay.foldl {α : Type} {f : State → α → State} (hf : ∀ s x, SourcesStay s (f s x)) (l : List α) (s : State) :
    SourcesStay s (l.foldl f s) := foldl_keeps (fun v : State => v.flt.sources) f l (fun s x _ => hf s x) s

theorem SourcesStay.source (h : SourcesStay s u) (k : Nat) : u.source k = s.source k := by
  unfold State.source
  rw [h]

theorem SourcesStay.pruneBed (s : State) (b : Nat) : SourcesStay s (s.pruneBed b) := by
  unfold State.pruneBed SourcesStay
  dsimp only
  split
  · rfl
  · have hlose (w : State) (l : List Nat) (f : Nat → State → List Nat) :
        (l.foldl (fun (s : State) n => s.loseMember n (f n s)) w).flt = w.flt := by
      refine foldl_keeps (fun v : State => v.flt) _ l (fun v n _ => ?_) w
      simp only [State.loseMember_kept ..]
    rw [hlose _ _ fun n s => (s.twin n).sideOf b]
    simp only [State.setBed_kept ..]
    rfl

theorem SourcesStay.pruneStack (s : State) (m : Nat) : SourcesStay s (s.pruneStack m) := by
  unfold State.pruneStack
  split
  · exact rfl
  · have hmark : SourcesStay s ((s.markPruned 12 m).modStack m fun x => { x with st := 3, holding := false }) := rfl
    dsimp only
    generalize (s.markPruned 12 m).modStack m _ = w at hmark
    split
    · exact hmark.trans (.foldl (fun u j => .pruneBed u _) _ w)
    · refine hmark.trans ?_
      cases hp : w.isPruned (8 + (m - 8) / 2) 0xFF with
      | true => exact congrArg (fun v : State => v.flt.sources) (if_pos hp : w.pruneP ((m - 8) / 2) = w)
      | false =>
        have hflt := congrArg Faults.sources (State.flt_pruneP hp)
        exact hflt

theorem unitOf_stackTraining : ∀ m < 12, unitOf (0xC00 + 16 * m + 4) = some (12, m) := by decide

theorem sourceInfo_stackTraining : ∀ m < 12, (sourceInfo (0xC00 + 16 * m + 4)).isSome = true := by decide

theorem SourcesStay.react_stack {m : Nat} (hm : m < 12) (s : State) (c : Nat) :
    SourcesStay s (s.react (0xC00 + 16 * m + 4) c) := by
  unfold State.react
  split
  · exact rfl
  · rw [if_neg (by omega), if_neg (by omega)]
    exact rfl
  · rw [unitOf_stackTraining m hm]
    dsimp only
    rw [if_neg (by omega)]
    have habandon (u : Nat) : SourcesStay s (s.abandon 12 u) := by
      unfold State.abandon
      dsimp only
      split <;> exact rfl
    have hprune (w : State) (u : Nat) : SourcesStay w (w.pruneUnit 12 u).stopTicks := SourcesStay.pruneStack w u
    exact (habandon _).trans (hprune _ _)

/-- The source of a stack that failed its training is raised (R482). -/
theorem State.cause_raiseFault_stack {m : Nat} (hm : m < 12) (s : State) :
    ((s.raiseFault (0xC00 + 16 * m + 4)).source (0xC00 + 16 * m + 4)).cause = true := by
  have hin := sourceInfo_stackTraining m hm
  have hset : ((s.causeSet (0xC00 + 16 * m + 4)).source (0xC00 + 16 * m + 4)).cause = true := by
    rw [State.source_causeSet, if_pos rfl]
  by_cases hnote : (s.source (0xC00 + 16 * m + 4)).live = true ∨ s.flt.recording = false
  · rw [State.raiseFault_of_noted hin hnote]
    exact hset
  · obtain ⟨hlive, hrec⟩ := not_or.1 hnote
    rw [State.raiseFault_of_rise hin (by simpa using hrec) (by simpa using hlive), (SourcesStay.react_stack hm _ _).source]
    exact (State.cause_recordRaise ..).trans hset

end

/-! ## Training of the stacks (R482) -/

section
variable {s : State} {failed : List Nat}

/-- A stack that has trained. -/
def Stack.trained (x : Stack) (v : Nat) : Stack :=
  { x with st := if x.st = 3 then 3 else 1, carved := true, active := v, target := v, opState := 0 }

/-- Stacks that have trained, at their OP_POINT. -/
def State.trainStacks (s : State) (l : List Nat) : State :=
  l.foldl (fun (s : State) m => s.modStack m fun x => x.trained (s.cfgN 0x30 m 0x02)) s

/-- What the training of stacks leaves. -/
theorem State.trainStacks_leaves (l : List Nat) (hn : l.Nodup) (s : State) :
    s.trainStacks l = { s with mem := (s.trainStacks l).mem } ∧
    (∀ k ∈ l, (s.trainStacks l).stack k = (s.stack k).trained (s.cfgN 0x30 k 0x02)) ∧
    ∀ k, k ∉ l → (s.trainStacks l).stack k = s.stack k := by
  induction l generalizing s with
  | nil => exact ⟨rfl, fun _ h => absurd h List.not_mem_nil, fun _ _ => rfl⟩
  | cons m r ih =>
    obtain ⟨hm, hr⟩ := List.nodup_cons.1 hn
    have hfirst : s.trainStacks (m :: r) = (s.modStack m fun x => x.trained (s.cfgN 0x30 m 0x02)).trainStacks r := rfl
    have hstack (k : Nat) : (s.modStack m fun x => x.trained (s.cfgN 0x30 m 0x02)).stack k =
        if k = m then (s.stack m).trained (s.cfgN 0x30 m 0x02) else s.stack k := State.stack_modStack ..
    have hcfg (k : Nat) : (s.modStack m fun x => x.trained (s.cfgN 0x30 m 0x02)).cfgN 0x30 k 0x02 = s.cfgN 0x30 k 0x02 := rfl
    have hmoved : s.modStack m (fun x => x.trained (s.cfgN 0x30 m 0x02)) =
        { s with mem := (s.modStack m fun x => x.trained (s.cfgN 0x30 m 0x02)).mem } := rfl
    rw [hfirst]
    generalize (s.modStack m fun x => x.trained (s.cfgN 0x30 m 0x02)) = w at hstack hcfg hmoved
    obtain ⟨hframe, hin, hout⟩ := ih hr w
    refine ⟨?_, fun k hk => ?_, fun k hk => ?_⟩
    · generalize w.trainStacks r = u at hframe
      exact hframe.trans (congrArg (fun v : State => { v with mem := u.mem }) hmoved)
    · obtain rfl | hk := List.mem_cons.1 hk
      · rw [hout k hm, hstack, if_pos rfl]
      · have hne : k ≠ m := fun h => hm (h ▸ hk)
        rw [hin k hk, hstack, if_neg hne, hcfg]
    · obtain ⟨hne, hkr⟩ := not_or.1 (List.mem_cons.not.1 hk)
      rw [hout k hkr, hstack, if_neg hne]

/-- One stack of the training. -/
def State.trainOne (failed : List Nat) (s : State) (m : Nat) : State :=
  if m ∈ failed then (s.raiseFault (0xC00 + 16 * m + 4)).modStack m (fun x => { x with st := 4 })
  else s.modStack m fun x => x.trained (s.cfgN 0x30 m 0x02)

theorem State.trainOne_good (l : List Nat) (h : ∀ m ∈ l, m ∉ failed) (s : State) :
    l.foldl (State.trainOne failed) s = s.trainStacks l := by
  induction l generalizing s with
  | nil => rfl
  | cons m r ih =>
    have hm : State.trainOne failed s m = s.modStack m fun x => x.trained (s.cfgN 0x30 m 0x02) :=
      if_neg (h m List.mem_cons_self)
    rw [List.foldl_cons, hm, ih fun k hk => h k (List.mem_cons_of_mem _ hk)]
    rfl

/-- The deep cells of both pipeline dies carved. -/
def State.carveDeep (s : State) : State :=
  [0, 1].foldl (fun (s : State) d =>
    let n := s.deepRetiredPages d
    s.modCells d (fun c => { c with deepFree := Config.dieDeep - n, deepRetired := n })) s

/-- The block at milestone 2. -/
def State.trainingDone (s : State) : State := { s with boot := { s.boot with imageEmpty := !s.alm.imaged } }.reach 2

theorem State.trainingDone_leaves (s : State) : s.trainingDone.boot.milestone = 2 ∧
    s.trainingDone.boot.at_ = s.boot.at_.set 1 (s.now - s.boot.zero) ∧ s.trainingDone.boot.imageEmpty = !s.alm.imaged ∧
    s.trainingDone.egr = s.egr ∧ (∀ m, s.trainingDone.stack m = s.stack m) ∧ (∀ k, s.trainingDone.source k = s.source k) ∧
    s.trainingDone = { s with boot := s.trainingDone.boot } := ⟨rfl, rfl, rfl, rfl, fun _ => rfl, fun _ => rfl, rfl⟩

theorem State.modCells_memory (s : State) (d : Nat) (f : CellStore → CellStore) :
    (s.modCells d f).mem = s.mem ∧ (s.modCells d f).flt = s.flt := by
  unfold State.modCells
  split <;> exact ⟨rfl, rfl⟩

theorem State.carveDeep_memory (s : State) : s.carveDeep.mem = s.mem ∧ s.carveDeep.flt = s.flt := by
  unfold State.carveDeep
  rw [List.foldl_cons, List.foldl_cons, List.foldl_nil]
  dsimp only
  rw [(State.modCells_memory ..).1, (State.modCells_memory ..).1, (State.modCells_memory ..).2, (State.modCells_memory ..).2]
  exact ⟨rfl, rfl⟩

theorem State.carveDeep_stack (s : State) (m : Nat) : s.carveDeep.stack m = s.stack m := by
  unfold State.stack
  rw [s.carveDeep_memory.1]

theorem State.carveDeep_source (s : State) (k : Nat) : s.carveDeep.source k = s.source k := by
  unfold State.source
  rw [s.carveDeep_memory.2]

theorem State.memoryTrained_not (h : s.boot.step6 = none ∨ s.boot.milestone ≠ 1) : s.memoryTrained failed = s :=
  if_pos (h.imp_left fun h => by rw [h]; rfl)

theorem State.memoryTrained_eq (h6 : s.boot.step6.isSome = true) (h1 : s.boot.milestone = 1) : s.memoryTrained failed =
    ((List.range 12).foldl (State.trainOne failed) s).carveDeep.trainingDone := by
  unfold State.memoryTrained
  rw [if_neg (by rintro (h | h); · rw [Option.isNone_iff_eq_none] at h; simp [h] at h6
                 · exact h h1)]
  unfold State.carveDeep State.trainOne
  generalize List.range 12 = l
  rfl

/-- What carving leaves (R355, R482). -/
theorem State.carveDeep_leaves (s : State) : s.carveDeep.egr.cells0.deepFree = Config.dieDeep - s.deepRetiredPages 0 ∧
    s.carveDeep.egr.cells1.deepFree = Config.dieDeep - s.deepRetiredPages 1 ∧
    (let e := { s.egr with cells0 := s.carveDeep.egr.cells0, cells1 := s.carveDeep.egr.cells1 }
     s.carveDeep = { s with egr := e }) := ⟨rfl, rfl, rfl⟩

/-- The stacks all trained (R482). -/
theorem memoryTrained_all {t : Nat} (h6 : s.boot.step6.isSome = true) (h1 : s.boot.milestone = 1) : ∃ u,
      exec (.memoryTrainingDone t []) s = .next u ∧
      u.boot.milestone = 2 ∧ u.boot.at_ = s.boot.at_.set 1 (t - s.boot.zero) ∧
      u.boot.imageEmpty = !s.alm.imaged ∧
      (∀ m, m < 12 → (u.stack m).st = (if (s.stack m).st = 3 then 3 else 1) ∧ (u.stack m).carved = true ∧
        (u.stack m).active = s.cfgN 0x30 m 0x02 ∧ (u.stack m).target = s.cfgN 0x30 m 0x02 ∧
        (u.stack m).retired = (s.stack m).retired) ∧
      (u.egr.cells0.deepFree = Config.dieDeep - s.deepRetiredPages 0 ∧
        u.egr.cells1.deepFree = Config.dieDeep - s.deepRetiredPages 1) ∧
      (let e := { s.egr with cells0 := u.egr.cells0, cells1 := u.egr.cells1 }
       u = { s with now := t, boot := u.boot, mem := u.mem, egr := e }) := by
  have heq := State.memoryTrained_eq (s := s.at t) (failed := []) h6 h1
  rw [State.trainOne_good _ (fun _ _ => List.not_mem_nil)] at heq
  have hnodup : (List.range 12).Nodup := List.nodup_range
  have hmem (m : Nat) (h : m < 12) : m ∈ List.range 12 := List.mem_range.2 h
  generalize List.range 12 = l at heq hnodup hmem
  obtain ⟨hframe, hin, -⟩ := State.trainStacks_leaves l hnodup (s.at t)
  generalize (s.at t).trainStacks l = w at heq hframe hin
  have hegr := congrArg State.egr hframe
  have hboot := congrArg State.boot hframe
  have halm := congrArg State.alm hframe
  have hnow := congrArg State.now hframe
  have hstack (m : Nat) (hm : m < 12) : w.stack m = (s.stack m).trained (s.cfgN 0x30 m 0x02) := hin m (hmem m hm)
  have hretired (die : Nat) (hd : die < 2) : w.deepRetiredPages die = s.deepRetiredPages die := by
    unfold State.deepRetiredPages
    rw [hstack _ (by omega), hstack _ (by omega)]
    rfl
  obtain ⟨hfree0, hfree1, hcarved⟩ := w.carveDeep_leaves
  rw [hretired 0 (by omega)] at hfree0
  rw [hretired 1 (by omega)] at hfree1
  have hcarvedmem := w.carveDeep_memory.1
  generalize w.carveDeep = v at heq hfree0 hfree1 hcarved hcarvedmem
  have hvstack (m : Nat) : v.stack m = w.stack m := by
    unfold State.stack
    rw [hcarvedmem]
  have hvboot := (congrArg State.boot hcarved).trans hboot
  have hvnow := (congrArg State.now hcarved).trans hnow
  have hvalm := (congrArg State.alm hcarved).trans halm
  obtain ⟨hmile, hat, himage, hegr', hstacks, -, hdone⟩ := v.trainingDone_leaves
  generalize v.trainingDone = u at heq hmile hat himage hegr' hstacks hdone
  refine ⟨u, congrArg Host.Outcome.next heq, hmile, ?_, ?_, fun m hm => ?_, ⟨?_, ?_⟩, ?_⟩
  · rw [hat, hvboot, hvnow]
    rfl
  · rw [himage, hvalm]
    rfl
  · rw [hstacks, hvstack, hstack m hm]
    exact ⟨rfl, rfl, rfl, rfl, rfl⟩
  · rw [hegr', hfree0]
  · rw [hegr', hfree1]
  · have humem := (congrArg State.mem hdone).trans hcarvedmem
    have hwhole := hcarved.trans (congrArg (fun x : State =>
      { x with egr := { x.egr with cells0 := v.egr.cells0, cells1 := v.egr.cells1 } }) hframe)
    rw [hegr', humem]
    exact hdone.trans (congrArg (fun x : State => { x with boot := u.boot }) hwhole)

/-- A stack that fails its training (R482). -/
theorem memoryTrained_one {t m : Nat} (h6 : s.boot.step6.isSome = true) (h1 : s.boot.milestone = 1) (hm : m < 12) : ∃ u,
      exec (.memoryTrainingDone t [m]) s = .next u ∧ (u.stack m).st = 4 ∧ (u.source (0xC00 + 16 * m + 4)).cause = true ∧
      u.boot.milestone = 2 ∧ (s.classOf (0xC00 + 16 * m + 4) = 0 ∨ s.classOf (0xC00 + 16 * m + 4) = 1 →
        ∀ k, k < 12 → k ≠ m → (u.stack k).st = (if (s.stack k).st = 3 then 3 else 1)) := by
  have heq := State.memoryTrained_eq (s := s.at t) (failed := [m]) h6 h1
  have hnodup : (List.range 12).Nodup := List.nodup_range
  have hmem (k : Nat) (h : k < 12) : k ∈ List.range 12 := List.mem_range.2 h
  obtain ⟨l1, l2, hsplit⟩ := List.append_of_mem (hmem m hm)
  rw [hsplit] at heq hnodup hmem
  obtain ⟨hn1, hn2, hdisj⟩ := List.nodup_append.1 hnodup
  obtain ⟨hm2, hn2⟩ := List.nodup_cons.1 hn2
  have hm1 : m ∉ l1 := fun h => hdisj m h m List.mem_cons_self rfl
  have hgood1 (k : Nat) (hk : k ∈ l1) : k ∉ [m] := fun h => hm1 ((List.mem_singleton.1 h) ▸ hk)
  have hgood2 (k : Nat) (hk : k ∈ l2) : k ∉ [m] := fun h => hm2 ((List.mem_singleton.1 h) ▸ hk)
  have hone (w : State) : State.trainOne [m] w m = (w.raiseFault (0xC00 + 16 * m + 4)).modStack m fun x => { x with st := 4 } :=
    if_pos (List.mem_singleton_self m)
  rw [List.foldl_append, List.foldl_cons, hone,
    State.trainOne_good l1 hgood1, State.trainOne_good l2 hgood2] at heq
  obtain ⟨hframe1, hin1, hout1⟩ := State.trainStacks_leaves l1 hn1 (s.at t)
  generalize (s.at t).trainStacks l1 = w at heq hframe1 hin1 hout1
  have hcause := State.cause_raiseFault_stack hm w
  have hclass : w.classOf (0xC00 + 16 * m + 4) = s.classOf (0xC00 + 16 * m + 4) := by rw [hframe1]; rfl
  have hlight (hc : s.classOf (0xC00 + 16 * m + 4) ≤ 1) : (w.raiseFault (0xC00 + 16 * m + 4)).mem = w.mem := by
    have halone := RaisedAlone.raiseFault_light (s := w) (id := 0xC00 + 16 * m + 4) (by rw [hclass]; exact hc)
    have hmem := congrArg State.mem halone.frame
    exact hmem
  generalize w.raiseFault (0xC00 + 16 * m + 4) = v at heq hcause hlight
  have hvstack (k : Nat) : (v.modStack m fun x => { x with st := 4 }).stack k = if k = m then { v.stack m with st := 4 } else v.stack k :=
    State.stack_modStack ..
  have hvsource : (v.modStack m fun x => { x with st := 4 }).source (0xC00 + 16 * m + 4) = v.source (0xC00 + 16 * m + 4) := rfl
  generalize (v.modStack m fun x => { x with st := 4 }) = z at heq hvstack hvsource
  obtain ⟨hframe2, hin2, hout2⟩ := State.trainStacks_leaves l2 hn2 z
  have hflt := congrArg State.flt hframe2
  generalize z.trainStacks l2 = y at heq hframe2 hin2 hout2 hflt
  obtain ⟨hmile, -, -, -, hstacks, hsources, -⟩ := y.carveDeep.trainingDone_leaves
  refine ⟨_, congrArg Host.Outcome.next heq, ?_, ?_, hmile, fun hc k hk hne => ?_⟩
  · rw [hstacks, y.carveDeep_stack, hout2 m hm2, hvstack, if_pos rfl]
  · have hsource : y.source (0xC00 + 16 * m + 4) = z.source (0xC00 + 16 * m + 4) := by
      unfold State.source
      rw [hflt]
    rw [hsources, y.carveDeep_source, hsource, hvsource]
    exact hcause
  · rw [hstacks, y.carveDeep_stack]
    have hkept (j : Nat) : v.stack j = w.stack j := by
      unfold State.stack
      rw [hlight (by omega)]
    have hzst : (z.stack k).st = (w.stack k).st := by rw [hvstack, if_neg hne, hkept]
    have hin : k ∈ l1 ∨ k ∈ l2 := by
      have h := hmem k hk
      rw [List.mem_append, List.mem_cons] at h
      tauto
    by_cases hk2 : k ∈ l2
    · have hk1 : k ∉ l1 := fun h => hdisj k h k (List.mem_cons_of_mem _ hk2) rfl
      rw [hin2 k hk2]
      show (if (z.stack k).st = 3 then 3 else 1) = _
      rw [hzst, hout1 k hk1]
      rfl
    · rw [hout2 k hk2, hzst, hin1 k (hin.resolve_right hk2)]
      rfl

end

/-! ## Trims, engines and ports (R393, R463) -/

section
variable {s : State}

theorem State.trimsBack_not (h : s.boot.milestone ≠ 2) : s.trimsBack = s := if_pos h

/-- The trims of the pairs in the active banks. -/
def State.pairsLoaded (s : State) (saved : Bool) (plan : Nat) : State :=
  (List.range 128).foldl (fun (s : State) p =>
    let v := if saved then tget (fun _ => []) s.cal.savedPairs p else Config.factoryTrim plan p
    s.modPair p (fun x => { x with active := v })) s
/-- The trims of the sensors in the active banks. -/
def State.sensorsLoaded (s : State) (saved : Bool) : State :=
  (List.range 144).foldl (fun (s : State) n =>
    let v := if saved then tget (fun _ => (0, 0)) s.cal.savedSensors n else Config.factorySensor n
    s.modSensor n (fun x => { x with active := v })) s
/-- The engines that have an enabled port, on. -/
def State.enginesOn (s : State) : State :=
  (List.range 16).foldl (fun (s : State) k =>
    if s.engineWanted k then (s.setPower (0x128 + k) 3).startPll (35 + k) else s) s
/-- The pipelines, on or gated. -/
def State.pipelinesGated (s : State) : State :=
  (List.range 8).foldl (fun (s : State) pl =>
    s.setPower (0x120 + pl) (if s.engineWanted (2 * pl) || s.engineWanted (2 * pl + 1) then 3 else 2)) s
/-- The ports at rest. -/
def State.portsRested (s : State) : State :=
  (List.range 1024).foldl (fun (s : State) lp =>
    if (s.port lp).st = .pruned then s else s.setPort lp (s.restingPort lp)) s

theorem State.loadTrims_eq (s : State) : s.loadTrims =
    (({ s with boot := { s.boot with wavePlan := s.cfgN 0x10 0x400 0x01 } } : State).pairsLoaded s.cal.saved
      (s.cfgN 0x10 0x400 0x01)).sensorsLoaded s.cal.saved := by
  unfold State.loadTrims State.pairsLoaded State.sensorsLoaded
  generalize List.range 128 = l, List.range 144 = r
  rfl

theorem State.trimsBack_eq (h : s.boot.milestone = 2) :
    s.trimsBack = s.loadTrims.enginesOn.pipelinesGated.portsRested.reach 3 := by
  unfold State.trimsBack
  rw [if_neg (not_not.2 h)]
  unfold State.enginesOn State.pipelinesGated State.portsRested
  generalize List.range 16 = l, List.range 8 = r, List.range 1024 = q
  rfl

/-- The saved trims of a pair are active (R393). -/
theorem State.pair_pairsLoaded (s : State) (plan : Nat) {p : Nat} (hp : p < 128) :
    ((s.pairsLoaded true plan).pair p).active = tget (fun _ => []) s.cal.savedPairs p := by
  unfold State.pairsLoaded
  have hself := foldl_pointwise (fun u : State => u.pair) (fun (s : State) p =>
      s.modPair p (fun x => { x with active := tget (fun _ => []) s.cal.savedPairs p }))
    (fun p x => { x with active := tget (fun _ => []) s.cal.savedPairs p }) (fun u => u.cal.savedPairs = s.cal.savedPairs)
    (fun u k hu => hu) (fun u k hu => by rw [State.pair_modPair, if_pos rfl, hu])
    (fun u k j hj => by rw [State.pair_modPair, if_neg hj]) List.nodup_range rfl (List.mem_range.2 hp)
  exact congrArg PairTrim.active hself

theorem State.boot_pairsLoaded (s : State) (saved : Bool) (plan : Nat) : (s.pairsLoaded saved plan).boot = s.boot := by
  unfold State.pairsLoaded
  refine foldl_keeps (fun v : State => v.boot) _ _ (fun _ _ _ => ?_) s
  rfl

theorem State.sensorsLoaded_keeps (s : State) (saved : Bool) :
    (∀ p, (s.sensorsLoaded saved).pair p = s.pair p) ∧ (s.sensorsLoaded saved).boot = s.boot := by
  unfold State.sensorsLoaded
  refine ⟨fun p => ?_, ?_⟩
  · refine foldl_keeps (fun v : State => v.pair p) _ _ (fun _ _ _ => ?_) s
    rfl
  · refine foldl_keeps (fun v : State => v.boot) _ _ (fun _ _ _ => ?_) s
    rfl

theorem State.engineWanted_of {s u : State} (h : u.alm = s.alm) (k : Nat) : u.engineWanted k = s.engineWanted k := by
  unfold State.engineWanted State.restingPort State.inUse State.portEnabled State.breakoutOf State.cfgN State.cfg
  rw [h]

theorem State.restingPort_of {s u : State} (h : u.alm = s.alm) (lp : Nat) : u.restingPort lp = s.restingPort lp := by
  unfold State.restingPort State.inUse State.portEnabled State.breakoutOf State.cfgN State.cfg
  rw [h]

theorem State.power_setPower_others (s : State) {b k : Nat} (v : Nat) (hk : k ≠ b) : (s.setPower b v).power k = s.power k := by
  unfold State.setPower State.power
  dsimp only
  split
  · rfl
  · exact tget_tput_other _ _ _ hk

theorem State.power_startPll (s : State) (p b : Nat) : (s.startPll p).power b = s.power b := by
  unfold State.startPll State.power
  split <;> rfl

/-- The engines with an enabled port are on (R463). -/
theorem State.power_enginesOn (s : State) {k : Nat} (hk : k < 16) (hw : s.engineWanted k = true) :
    (s.enginesOn.power (0x128 + k)).st = 3 := by
  have hkeep : s.enginesOn.alm = s.alm := by
    refine foldl_keeps (fun v : State => v.alm) _ _ (fun v i _ => ?_) s
    simp only [State.ite_kept .., State.startPll_kept .., State.setPower_kept .., ite_self]
  have hall := foldl_gives (P := fun (u : State) j => u.engineWanted j = true → (u.power (0x128 + j)).st = 3)
    (f := fun (s : State) k => if s.engineWanted k then (s.setPower (0x128 + k) 3).startPll (35 + k) else s)
    (fun u j => ?self) (fun u j i hne hp => ?other) (List.range 16) s (.inr (List.mem_range.2 hk))
  · exact hall ((State.engineWanted_of hkeep k).trans hw)
  case self =>
    split
    · intro _
      rw [State.power_startPll]
      exact State.power_setPower ..
    · next h => exact fun hw => absurd hw h
  case other =>
    split
    · intro hw
      rw [State.power_startPll, State.power_setPower_others _ _ (show 0x128 + i ≠ 0x128 + j by omega)]
      exact hp ((State.engineWanted_of (by simp only [State.startPll_kept .., State.setPower_kept ..]) i).symm.trans hw)
    · exact hp

/-- The gates of the pipelines leave the engines. -/
theorem State.pipelinesGated_keeps (s : State) : (∀ k, s.pipelinesGated.power (0x128 + k) = s.power (0x128 + k)) ∧
    s.pipelinesGated.alm = s.alm := by
  unfold State.pipelinesGated
  refine ⟨fun k => ?_, ?_⟩
  · refine foldl_keeps (fun v : State => v.power (0x128 + k)) _ _ (fun v i hi => ?_) s
    have hi := List.mem_range.1 hi
    exact State.power_setPower_others _ _ (by omega)
  · refine foldl_keeps (fun v : State => v.alm) _ _ (fun v i _ => ?_) s
    simp only [State.setPower_kept ..]

/-- Each port that is not PRUNED rests (R42). -/
theorem State.port_portsRested (s : State) {lp : Nat} (hl : lp < 1024) :
    (s.portsRested.port lp).st = if (s.port lp).st = .pruned then .pruned else s.restingPort lp := by
  have halm (u : State) (k : Nat) (hu : u.alm = s.alm) :
      (if (u.port k).st = .pruned then u else u.setPort k (u.restingPort k)).alm = s.alm := by
    split
    · exact hu
    · simp only [State.setPort_kept ..]
      exact hu
  exact foldl_pointwise (fun (u : State) k => (u.port k).st) (fun (s : State) lp =>
      if (s.port lp).st = .pruned then s else s.setPort lp (s.restingPort lp))
    (fun lp st => if st = .pruned then .pruned else s.restingPort lp) (fun u => u.alm = s.alm) halm
    (fun u k hu => by
      split
      · next h => exact h
      · rw [State.port_setPort, if_pos rfl]
        exact State.restingPort_of hu k)
    (fun u k j hj => by
      split
      · rfl
      · rw [State.port_setPort, if_neg hj]) List.nodup_range rfl (List.mem_range.2 hl)

/-- What the engines, the pipelines and the ports change: no register, and no trim (R463). -/
theorem State.restored_keeps (s : State) : s.enginesOn.pipelinesGated.portsRested.boot = s.boot ∧
    s.enginesOn.pipelinesGated.portsRested.cal = s.cal ∧ s.enginesOn.pipelinesGated.portsRested.now = s.now := by
  have hengines : s.enginesOn.boot = s.boot ∧ s.enginesOn.cal = s.cal ∧ s.enginesOn.now = s.now := by
    unfold State.enginesOn
    refine ⟨?_, ?_, ?_⟩
    · refine foldl_keeps (fun v : State => v.boot) _ _ (fun v i _ => ?_) s
      simp only [State.ite_kept .., State.startPll_kept .., State.setPower_kept .., ite_self]
    · refine foldl_keeps (fun v : State => v.cal) _ _ (fun v i _ => ?_) s
      simp only [State.ite_kept .., State.startPll_kept .., State.setPower_kept .., ite_self]
    · refine foldl_keeps (fun v : State => v.now) _ _ (fun v i _ => ?_) s
      simp only [State.ite_kept .., State.startPll_kept .., State.setPower_kept .., ite_self]
  have hgated (w : State) : w.pipelinesGated.boot = w.boot ∧ w.pipelinesGated.cal = w.cal ∧ w.pipelinesGated.now = w.now := by
    unfold State.pipelinesGated
    refine ⟨?_, ?_, ?_⟩
    · refine foldl_keeps (fun v : State => v.boot) _ _ (fun v i _ => ?_) w
      simp only [State.setPower_kept ..]
    · refine foldl_keeps (fun v : State => v.cal) _ _ (fun v i _ => ?_) w
      simp only [State.setPower_kept ..]
    · refine foldl_keeps (fun v : State => v.now) _ _ (fun v i _ => ?_) w
      simp only [State.setPower_kept ..]
  have hrested (w : State) : w.portsRested.boot = w.boot ∧ w.portsRested.cal = w.cal ∧ w.portsRested.now = w.now := by
    unfold State.portsRested
    refine ⟨?_, ?_, ?_⟩
    · refine foldl_keeps (fun v : State => v.boot) _ _ (fun v i _ => ?_) w
      simp only [State.ite_kept .., State.setPort_kept .., ite_self]
    · refine foldl_keeps (fun v : State => v.cal) _ _ (fun v i _ => ?_) w
      simp only [State.ite_kept .., State.setPort_kept .., ite_self]
    · refine foldl_keeps (fun v : State => v.now) _ _ (fun v i _ => ?_) w
      simp only [State.ite_kept .., State.setPort_kept .., ite_self]
  obtain ⟨hb1, hc1, hn1⟩ := hengines
  obtain ⟨hb2, hc2, hn2⟩ := hgated s.enginesOn
  obtain ⟨hb3, hc3, hn3⟩ := hrested s.enginesOn.pipelinesGated
  exact ⟨hb3.trans (hb2.trans hb1), hc3.trans (hc2.trans hc1), hn3.trans (hn2.trans hn1)⟩

theorem State.clk_portsRested (s : State) : s.portsRested.clk = s.clk := by
  unfold State.portsRested
  refine foldl_keeps (fun v : State => v.clk) _ _ (fun v i _ => ?_) s
  simp only [State.ite_kept .., State.setPort_kept .., ite_self]

/-- The block with its engines, its pipelines and its ports restored. -/
def State.restored (s : State) : State := s.enginesOn.pipelinesGated.portsRested

theorem State.enginesOn_registers (s : State) : s.enginesOn.alm = s.alm ∧ s.enginesOn.fwd = s.fwd := by
  unfold State.enginesOn
  refine ⟨?_, ?_⟩
  · refine foldl_keeps (fun v : State => v.alm) _ _ (fun v i _ => ?_) s
    simp only [State.ite_kept .., State.startPll_kept .., State.setPower_kept .., ite_self]
  · refine foldl_keeps (fun v : State => v.fwd) _ _ (fun v i _ => ?_) s
    simp only [State.ite_kept .., State.startPll_kept .., State.setPower_kept .., ite_self]

theorem State.pipelinesGated_registers (s : State) : s.pipelinesGated.alm = s.alm ∧ s.pipelinesGated.fwd = s.fwd := by
  refine ⟨s.pipelinesGated_keeps.2, ?_⟩
  unfold State.pipelinesGated
  refine foldl_keeps (fun v : State => v.fwd) _ _ (fun v i _ => ?_) s
  simp only [State.setPower_kept ..]

/-- What the restored engines and ports are (R42, R463). -/
theorem State.restored_leaves (s : State) :
    (∀ k, k < 16 → s.engineWanted k = true → (s.restored.power (0x128 + k)).st = 3) ∧
    (∀ lp, lp < 1024 → (s.restored.port lp).st = if (s.port lp).st = .pruned then .pruned else s.restingPort lp) ∧
    s.restored.boot = s.boot ∧ s.restored.cal = s.cal ∧ s.restored.now = s.now := by
  refine ⟨fun k hk hw => ?_, fun lp hl => ?_, s.restored_keeps⟩
  · have hclk : s.restored.power (0x128 + k) = s.enginesOn.pipelinesGated.power (0x128 + k) := by
      unfold State.power State.restored
      rw [State.clk_portsRested]
    rw [hclk, s.enginesOn.pipelinesGated_keeps.1]
    exact s.power_enginesOn hk hw
  · obtain ⟨halm, hfwd⟩ := s.enginesOn.pipelinesGated_registers
    obtain ⟨halm', hfwd'⟩ := s.enginesOn_registers
    unfold State.restored
    rw [State.port_portsRested _ hl, State.port_of_fwd (hfwd.trans hfwd'), State.restingPort_of (halm.trans halm')]

/-- What reaching a milestone leaves (R491). -/
theorem State.reach_leaves (s : State) (m : Nat) : (s.reach m).boot.milestone = m ∧
    (s.reach m).boot.at_ = s.boot.at_.set (m - 1) (s.now - s.boot.zero) ∧ (s.reach m).boot.hold = s.boot.hold ∧
    (∀ p, (s.reach m).pair p = s.pair p) ∧ (∀ b, (s.reach m).power b = s.power b) ∧ (∀ lp, (s.reach m).port lp = s.port lp) :=
  ⟨rfl, rfl, rfl, fun _ => rfl, fun _ => rfl, fun _ => rfl⟩

/-- What the restored trims are (R393). -/
theorem State.loadTrims_leaves (s : State) : s.loadTrims.alm = s.alm ∧ s.loadTrims.fwd = s.fwd ∧ s.loadTrims.now = s.now ∧
    s.loadTrims.boot.at_ = s.boot.at_ ∧ s.loadTrims.boot.zero = s.boot.zero ∧
    ∀ p, p < 128 → s.cal.saved = true → (s.loadTrims.pair p).active = tget (fun _ => []) s.cal.savedPairs p := by
  have hload := s.loadTrims_kept
  refine ⟨by simp only [hload], by simp only [hload], by simp only [hload], ?_, ?_, fun p hp hs => ?_⟩
  · rw [State.loadTrims_eq, (State.sensorsLoaded_keeps ..).2, State.boot_pairsLoaded]
  · rw [State.loadTrims_eq, (State.sensorsLoaded_keeps ..).2, State.boot_pairsLoaded]
  · rw [State.loadTrims_eq, (State.sensorsLoaded_keeps ..).1, hs]
    exact State.pair_pairsLoaded _ _ hp

/-- The trims restored, the engines on and the ports at rest (R393, R463). -/
theorem State.trimsBack_leaves (h : s.boot.milestone = 2) : s.trimsBack.boot.milestone = 3 ∧
      s.trimsBack.boot.at_ = s.boot.at_.set 2 (s.now - s.boot.zero) ∧
      (∀ p, p < 128 → s.cal.saved = true → (s.trimsBack.pair p).active = tget (fun _ => []) s.cal.savedPairs p) ∧
      (∀ k, k < 16 → s.engineWanted k = true → (s.trimsBack.power (0x128 + k)).st = 3) ∧
      (∀ lp, lp < 1024 → (s.trimsBack.port lp).st = (if (s.port lp).st = .pruned then .pruned else s.restingPort lp)) := by
  have heq : s.trimsBack = s.loadTrims.restored.reach 3 := State.trimsBack_eq h
  obtain ⟨halm, hfwd, hnow, hat, hzero, hpairs⟩ := s.loadTrims_leaves
  rw [heq]
  generalize s.loadTrims = w at halm hfwd hnow hat hzero hpairs
  obtain ⟨hpower, hport, hkboot, hkcal, hknow⟩ := w.restored_leaves
  generalize w.restored = v at hpower hport hkboot hkcal hknow
  obtain ⟨hmile, hreached, -, hpair, hpow, hprt⟩ := v.reach_leaves 3
  refine ⟨hmile, ?_, fun p hp hs => ?_, fun k hk hw => ?_, fun lp hl => ?_⟩
  · rw [hreached, hkboot, hknow, hnow, hat, hzero]
  · rw [hpair]
    unfold State.pair at hpairs ⊢
    rw [hkcal]
    exact hpairs p hp hs
  · rw [hpow]
    exact hpower k hk ((State.engineWanted_of halm k).trans hw)
  · rw [hprt, hport lp hl, State.port_of_fwd hfwd, State.restingPort_of halm]

end

/-! ## The pipelines (R483, R484) -/

/-- What a held PTP message, and the BMCA, keep. -/
structure PtpKept (s u : State) : Prop where
  milestone : u.boot.milestone = s.boot.milestone
  reached : u.boot.at_ = s.boot.at_
  hold : u.boot.hold = s.boot.hold
  started : u.clk.started = s.clk.started
  fwd : u.fwd = s.fwd

section
variable {s u v : State}

theorem PtpKept.refl (s : State) : PtpKept s s := ⟨rfl, rfl, rfl, rfl, rfl⟩

theorem PtpKept.trans (h : PtpKept s u) (g : PtpKept u v) : PtpKept s v :=
  ⟨g.milestone.trans h.milestone, g.reached.trans h.reached, g.hold.trans h.hold, g.started.trans h.started, g.fwd.trans h.fwd⟩

theorem PtpKept.of_boot (hb : u.boot = s.boot) (hs : u.clk.started = s.clk.started) (hf : u.fwd = s.fwd) : PtpKept s u :=
  ⟨congrArg Boot.milestone hb, congrArg Boot.at_ hb, congrArg Boot.hold hb, hs, hf⟩

theorem State.started_setTime (s : State) (st : TimeState) : (s.setTime st).clk.started = s.clk.started :=
  (s.setTime_ports st).2.2.2.1

theorem State.started_slaveChanged (s : State) (new : Option (Nat × Announce)) :
    (s.slaveChanged new).clk.started = s.clk.started := by
  cases new with
  | none =>
    rw [State.slaveChanged_none, State.started_setTime]
    rfl
  | some x =>
    unfold State.slaveChanged
    dsimp only
    split
    · exact State.started_setTime ..
    all_goals rfl

theorem State.started_bmca (s : State) : s.bmca.clk.started = s.clk.started := by
  cases hlive : s.shedLive with
  | false => rw [State.bmca_idle hlive]
  | true =>
    obtain ⟨hjudged, -⟩ := (s.slaveTaken s.bestPort).judgePorts_leaves s.bestPort
    have hclk := congrArg State.clk hjudged.frame
    rw [State.bmca_live hlive, hclk]
    show (s.slaveTaken s.bestPort).clk.started = _
    generalize s.bestPort = new
    have htaken : s.slaveTaken new = { s with clk := { s.clk with parent := new.map (·.2) } } ∨
        s.slaveTaken new = s.slaveChanged new := by
      unfold State.slaveTaken
      generalize (if s.clk.slave = 0xFFFF then none else some s.clk.slave) = old
      split
      · exact .inl rfl
      · exact .inr rfl
    obtain h | h := htaken
    · rw [h]
    · rw [h]
      exact State.started_slaveChanged ..

theorem PtpKept.bmca (s : State) : PtpKept s s.bmca :=
  .of_boot (by simp only [State.bmca_kept ..]) s.started_bmca (by simp only [State.bmca_kept ..])

theorem PtpKept.announced (s : State) (lp : Nat) (d : Announce) : PtpKept s (s.announced lp d) := by
  refine .of_boot (by simp only [State.announced_kept ..]) ?_ (by simp only [State.announced_kept ..])
  unfold State.announced
  split
  · rfl
  · dsimp only
    rw [State.started_bmca]
    have hkeep (c : Bool) (w : State) (hw : w.clk.started = s.clk.started) : (if c = true then w else s).clk.started = s.clk.started := by
      split
      · exact hw
      · rfl
    exact hkeep _ _ rfl

theorem PtpKept.ptpHeld (s : State) (lp : Nat) (f : Frame) : PtpKept s (s.ptpHeld lp f) := by
  unfold State.ptpHeld
  split
  · exact .announced ..
  · split
    · exact ⟨rfl, rfl, rfl, rfl, rfl⟩
    · unfold State.peerDelay
      split <;> exact ⟨rfl, rfl, rfl, rfl, rfl⟩

theorem PtpKept.foldl {α : Type} {f : State → α → State} (hf : ∀ s x, PtpKept s (f s x)) (l : List α) (s : State) :
    PtpKept s (l.foldl f s) := by
  induction l generalizing s with
  | nil => exact .refl s
  | cons x r ih => exact (hf s x).trans (ih (f s x))

/-- The pipelines released. -/
def State.pipesReleased (s : State) : State :=
  (List.range 8).foldl (fun (s : State) pl =>
    if s.pipePruned pl then s else s.modPipe pl (fun x => { x with released := true })) s
/-- The gates moved to their entries. -/
def State.gatesMoved (s : State) : State :=
  (List.range 1024).foldl (fun (s : State) lp => if s.gating lp then s.gatesAt lp s.now else s) s

theorem State.pipelinesUp_not (h : s.boot.milestone ≠ 3) : s.pipelinesUp = s := if_pos h

theorem State.pipelinesUp_eq (h : s.boot.milestone = 3) : s.pipelinesUp =
    (({ s.pipesReleased.gatesMoved with clk := { s.pipesReleased.gatesMoved.clk with started := true } } : State).reach 4).drainPtp.bmca := by
  unfold State.pipelinesUp
  rw [if_neg (not_not.2 h)]
  unfold State.pipesReleased State.gatesMoved
  generalize List.range 8 = l, List.range 1024 = r
  rfl

theorem State.pipesReleased_leaves (s : State) : (∀ pl, pl < 8 →
    (s.pipesReleased.pipe pl).released = if s.pipePruned pl then (s.pipe pl).released else true) ∧
    s.pipesReleased.boot = s.boot ∧ s.pipesReleased.now = s.now := by
  unfold State.pipesReleased
  refine ⟨fun pl hp => ?_, ?_, ?_⟩
  · refine foldl_pointwise (fun (u : State) k => (u.pipe k).released) (fun (s : State) pl =>
        if s.pipePruned pl then s else s.modPipe pl (fun x => { x with released := true }))
      (fun k b => if s.pipePruned k then b else true) (fun u => u.flt = s.flt) (fun u k hu => ?_) (fun u k hu => ?_)
      (fun u k j hj => ?_) List.nodup_range rfl (List.mem_range.2 hp)
    · split
      · exact hu
      · exact hu
    · have hpruned : u.pipePruned k = s.pipePruned k := by
        unfold State.pipePruned State.diePruned State.isPruned
        rw [hu]
      rw [hpruned]
      split
      · rfl
      · rw [State.pipe_modPipe, if_pos rfl]
    · split
      · rfl
      · rw [State.pipe_modPipe, if_neg hj]
  · refine foldl_keeps (fun v : State => v.boot) _ _ (fun v i _ => ?_) s
    split <;> rfl
  · refine foldl_keeps (fun v : State => v.now) _ _ (fun v i _ => ?_) s
    split <;> rfl

theorem State.gatesMoved_leaves (s : State) : s.gatesMoved.fwd = s.fwd ∧ s.gatesMoved.boot = s.boot ∧ s.gatesMoved.now = s.now := by
  unfold State.gatesMoved
  refine ⟨?_, ?_, ?_⟩
  · refine foldl_keeps (fun v : State => v.fwd) _ _ (fun v i _ => ?_) s
    split <;> rfl
  · refine foldl_keeps (fun v : State => v.boot) _ _ (fun v i _ => ?_) s
    split <;> rfl
  · refine foldl_keeps (fun v : State => v.now) _ _ (fun v i _ => ?_) s
    split <;> rfl

/-- No PTP message is held any more (R484). -/
theorem State.drainPtp_leaves (s : State) : s.drainPtp.boot.milestone = s.boot.milestone ∧ s.drainPtp.boot.at_ = s.boot.at_ ∧
    s.drainPtp.clk.started = s.clk.started ∧ s.drainPtp.fwd = s.fwd ∧ ∀ h ∈ s.drainPtp.boot.hold, h.f.kind ≠ .ptp := by
  have hkept := PtpKept.foldl (f := fun (s : State) (h : HeldFrame) => s.ptpHeld h.lp h.f) (fun s h => .ptpHeld s h.lp h.f)
    (s.boot.hold.filter fun h => decide (h.f.kind = .ptp))
    { s with boot := { s.boot with hold := s.boot.hold.filter fun h => !decide (h.f.kind = .ptp) } }
  refine ⟨hkept.milestone, hkept.reached, hkept.started, hkept.fwd, fun h hh => ?_⟩
  have hin : h ∈ s.boot.hold.filter fun h => !decide (h.f.kind = .ptp) := by
    have hhold := hkept.hold
    exact (congrArg (fun l => h ∈ l) hhold).mp hh
  simpa using (List.mem_filter.1 hin).2

/-- The block with PTP started at milestone 4. -/
def State.ptpStarted (s : State) : State := ({ s with clk := { s.clk with started := true } } : State).reach 4

theorem State.ptpStarted_leaves (s : State) : s.ptpStarted.boot.milestone = 4 ∧
    s.ptpStarted.boot.at_ = s.boot.at_.set 3 (s.now - s.boot.zero) ∧ s.ptpStarted.clk.started = true ∧
    s.ptpStarted.fwd = s.fwd := ⟨rfl, rfl, rfl, rfl⟩

/-- The pipelines released and PTP started (R483, R484). -/
theorem State.pipelinesUp_leaves (h : s.boot.milestone = 3) : s.pipelinesUp.boot.milestone = 4 ∧
      s.pipelinesUp.boot.at_ = s.boot.at_.set 3 (s.now - s.boot.zero) ∧ s.pipelinesUp.clk.started = true ∧
      (∀ pl, pl < 8 → (s.pipelinesUp.pipe pl).released = (if s.pipePruned pl then (s.pipe pl).released else true)) ∧
      (∀ h ∈ s.pipelinesUp.boot.hold, h.f.kind ≠ .ptp) := by
  have heq : s.pipelinesUp = s.pipesReleased.gatesMoved.ptpStarted.drainPtp.bmca := State.pipelinesUp_eq h
  obtain ⟨hpipes, hboot, hnow⟩ := s.pipesReleased_leaves
  rw [heq]
  generalize s.pipesReleased = w at hpipes hboot hnow
  obtain ⟨hfwd, hboot', hnow'⟩ := w.gatesMoved_leaves
  generalize w.gatesMoved = v at hfwd hboot' hnow'
  obtain ⟨hmile, hat, hstart, hfwd''⟩ := v.ptpStarted_leaves
  generalize v.ptpStarted = y at hmile hat hstart hfwd''
  obtain ⟨hmile', hat', hstart', hfwd', hhold⟩ := y.drainPtp_leaves
  generalize y.drainPtp = z at hmile' hat' hstart' hfwd' hhold
  obtain hkept := PtpKept.bmca z
  generalize z.bmca = u at hkept
  refine ⟨hkept.milestone.trans (hmile'.trans hmile), ?_, hkept.started.trans (hstart'.trans hstart), fun pl hp => ?_, ?_⟩
  · rw [hkept.reached, hat', hat, hboot', hboot, hnow', hnow]
  · have hpipe : u.pipe pl = w.pipe pl := by
      unfold State.pipe
      rw [hkept.fwd, hfwd', hfwd'', hfwd]
    rw [hpipe]
    exact hpipes pl hp
  · rw [hkept.hold]
    exact hhold

end

/-! ## Full readiness (R487, R489) -/

section
variable {s : State}

theorem State.fullyReady_not (h : s.boot.milestone ≠ 5) : s.fullyReady = s := if_pos h

theorem State.ticking_ticksStart (s : State) : s.ticksStart.flt.ticking = true := by
  unfold State.ticksStart
  generalize List.range 8 = l
  have hstart : (s.modFlt fun f => { f with ticking := true }).flt.ticking = true := rfl
  generalize (s.modFlt fun f => { f with ticking := true }) = w at hstart
  dsimp only
  rw [← hstart]
  refine foldl_keeps (fun v : State => v.flt.ticking) _ l (fun v i _ => ?_) w
  split <;> rfl

theorem State.fullyReady_leaves (h : s.boot.milestone = 5) : s.fullyReady.boot.milestone = 6 ∧
    s.fullyReady.boot.at_ = s.boot.at_.set 5 (s.now - s.boot.zero) ∧ s.fullyReady.flt.ticking = true := by
  have heq : s.fullyReady = ((((s.str.slots.filter fun e => e.2.readmit).map (·.1)).foldl State.readmit
      s.sizePool).keepWarm).ticksStart.reach 6 := if_neg (not_not.2 h)
  have hread (l : List Nat) (w : State) : (l.foldl State.readmit w).boot = w.boot ∧ (l.foldl State.readmit w).now = w.now := by
    refine ⟨?_, ?_⟩
    · refine foldl_keeps (fun v : State => v.boot) _ _ (fun v i _ => ?_) w
      simp only [State.readmit_kept ..]
    · refine foldl_keeps (fun v : State => v.now) _ _ (fun v i _ => ?_) w
      simp only [State.readmit_kept ..]
  obtain ⟨hboot, hnow⟩ := hread ((s.str.slots.filter fun e => e.2.readmit).map (·.1)) s.sizePool
  rw [heq]
  generalize ((s.str.slots.filter fun e => e.2.readmit).map (·.1)).foldl State.readmit s.sizePool = w at hboot hnow
  have hwboot : w.keepWarm.ticksStart.boot = s.boot := by
    simp only [State.ticksStart_kept .., State.keepWarm_kept .., hboot, State.sizePool_kept ..]
  have hwnow : w.keepWarm.ticksStart.now = s.now := by
    simp only [State.ticksStart_kept .., State.keepWarm_kept .., hnow, State.sizePool_kept ..]
  have htick := w.keepWarm.ticking_ticksStart
  generalize w.keepWarm.ticksStart = v at hwboot hwnow htick
  obtain ⟨hmile, hat, -⟩ := v.reach_leaves 6
  exact ⟨hmile, by rw [hat, hwboot, hwnow], htick⟩

/-! ## PCI Express (R486) -/

theorem exec_perstRelease {link : Nat} (t : Nat) (s : State) (h1 : 1 ≤ link) (h8 : link ≤ 8) :
    exec (.perstRelease t link) s = .next ((s.at t).perstReleased link) := if_pos (by simp [isPcie, h1, h8])
theorem exec_configurationRequest {link : Nat} (t : Nat) (s : State) (h1 : 1 ≤ link) (h8 : link ≤ 8) :
    exec (.configurationRequest t link) s = .next ((s.at t).configRequest link) := if_pos (by simp [isPcie, h1, h8])

theorem State.configRequest_timed {link p d : Nat} (hp : tget (fun _ => none) s.boot.perst link = some p)
    (hd : s.boot.step6 = some d) :
    s.configRequest link = s.emit (.config s.now link (decide (s.now < max p d + 100000000))) := by
  have hnot : (!decide (max p d + 100000000 ≤ s.now)) = decide (s.now < max p d + 100000000) := by
    rw [← decide_not]
    exact decide_eq_decide.2 Nat.not_le
  unfold State.configRequest
  rw [hp, hd]
  dsimp only
  rw [hnot]

theorem State.configRequest_untimed {link : Nat} (h : tget (fun _ => none) s.boot.perst link = none ∨ s.boot.step6 = none) :
    s.configRequest link = s.emit (.config s.now link true) := by
  unfold State.configRequest
  obtain h | h := h
  · rw [h]
    rfl
  · rw [h]
    cases tget (fun _ => (none : Option Nat)) s.boot.perst link <;> rfl

end

/-- Settles O60: each step of power-up by what it leaves of the parts that it builds up, loop by loop. -/
theorem powerUpSteps : Obligations.PowerUpSteps := by
  intro s t
  refine ⟨fun c sp h => ?powerNot, powerUp_starts s t, fun b => ⟨fun h => ?dorsenNot, fun hon h => ?dorsen⟩,
    fun l h => ?trainNot, memoryTrained_all, fun h6 h1 m hm => memoryTrained_one h6 h1 hm, fun h => ?trimsNot, fun h => ?trims,
    fun h => ?releaseNot, fun h => ?release, fun h => ?liveNot, fun h => ?live, fun h => ?readyNot, fun h => ?ready,
    fun link h1 h8 => ⟨?perst, fun p d hp hd => ?timed, fun h => ?untimed⟩⟩
  case powerNot => exact congrArg Host.Outcome.next (State.powersUp_not (s := s.at t) h)
  case dorsenNot =>
    refine congrArg Host.Outcome.next (if_pos ?_)
    exact h.imp_left fun h => by
      rw [show (s.at t).mod.on = false from h]
      rfl
  case dorsen =>
    have hnot : ¬ ((!(s.at t).mod.on) = true ∨ (s.at t).boot.step6.isSome = true) := by
      simp [hon, h]
    exact ⟨_, congrArg Host.Outcome.next (if_neg hnot), rfl⟩
  case trainNot => exact congrArg Host.Outcome.next (State.memoryTrained_not (s := s.at t) h)
  case trimsNot => exact congrArg Host.Outcome.next (State.trimsBack_not (s := s.at t) h)
  case trims =>
    obtain ⟨hmile, hat, hpairs, hpower, hport⟩ := State.trimsBack_leaves (s := s.at t) h
    have hkept := (s.at t).trimsBack_kept
    refine ⟨(s.at t).trimsBack, rfl, hmile, hat, hpairs, hpower, hport, State.parts.2 ?_⟩
    simp [hkept]
  case releaseNot => exact congrArg Host.Outcome.next (State.pipelinesUp_not (s := s.at t) h)
  case release =>
    have hleaves := State.pipelinesUp_leaves (s := s.at t) h
    exact ⟨(s.at t).pipelinesUp, rfl, hleaves⟩
  case liveNot => exact congrArg Host.Outcome.next (if_pos h)
  case live =>
    have heq : (s.at t).almanacUp = _ := if_neg (not_not.2 h)
    exact ⟨_, congrArg Host.Outcome.next heq, rfl⟩
  case readyNot => exact congrArg Host.Outcome.next (State.fullyReady_not (s := s.at t) h)
  case ready =>
    have hleaves := State.fullyReady_leaves (s := s.at t) h
    exact ⟨(s.at t).fullyReady, rfl, hleaves⟩
  case perst =>
    refine ⟨_, exec_perstRelease t s h1 h8, ?_, fun k hk => ?_, rfl⟩
    · show tget (fun _ => none) (tput (fun _ => none) s.boot.perst link (some t)) link = some t
      exact tget_tput_self ..
    · show tget (fun _ => none) (tput (fun _ => none) s.boot.perst link (some t)) k = _
      exact tget_tput_other _ _ _ hk
  case timed =>
    exact ⟨_, (exec_configurationRequest t s h1 h8).trans (congrArg _ (State.configRequest_timed (s := s.at t) hp hd)), rfl⟩
  case untimed =>
    exact ⟨_, (exec_configurationRequest t s h1 h8).trans (congrArg _ (State.configRequest_untimed (s := s.at t) h)), rfl⟩

end Sys2Proof.Machine
end

section
/-! PROOFS. SPARE_POOL, PEER and the unit reset of a bed (R234, R252, R263). -/

namespace Sys2Proof.Machine

theorem exec_sparePool {a : Nat} (t v : Nat) (s : State) (ha : a < 16) :
    exec (.sparePool t a v) s = .next ((s.at t).orderNumber a 0x24 0x2000 0x01 2 v) := if_pos (decide_eq_true ha)

theorem exec_peer {a c : Nat} (t p : Nat) (s : State) (ha : a < 16) (hc : c < 2048) :
    exec (.peer t a c p) s = .next ((s.at t).orderNumber a 0x24 (0x3000 + c) 0x01 2 p) :=
  (if_pos (decide_eq_true ha)).trans (by simp [named, isIntake, hc])

theorem exec_bedUnitReset {b : Nat} (t : Nat) (s : State) (hb : b < 288) :
    exec (.bedUnitReset t b) s = .next ((s.at t).bedReset b) := if_pos (decide_eq_true hb)

theorem spaceOf_peer {c : Nat} (h : c < 2048) : spaceOf 0x24 (0x3000 + c) = some (.peer, c) := by
  have h1 : ¬ (0x3000 + c ≤ 0x1FFF) := by omega
  have h2 : 0x3000 + c ≤ 0x37FF := by omega
  have h3 : ¬ (0x3000 + c ≤ 0x2000) := by omega
  simp [spaceOf, spacesOf, List.find?, h1, h2, h3]

/-! ## PEER -/

theorem entryRow_peer (c : Nat) : entryRow .peer c 0x01 =
    some { m0 := 0x01, m1 := 0x01, ty := .u 2, acc := 12, dflt := 65535 } := rfl

theorem State.writePeer_taken {s : State} {c p : Nat} (h : p = 0xFFFF ∨ s.peerFits c p = true) :
    s.writePeer c p = (0, s.now, (s.setCfgN 0x24 (0x3000 + c) 0x01 2 p).judgeAll) := by
  have hnow : (s.setCfgN 0x24 (0x3000 + c) 0x01 2 p).judgeAll.now = s.now := by
    simp only [State.judgeAll_kept .., State.setCfgN, State.setCfg_kept ..]
  refine (if_neg fun hn => ?_).trans (congrArg (fun x => (0, x, _)) hnow)
  rcases h with h | h
  · exact hn.1 h
  · rw [h] at hn
    exact Bool.false_ne_true hn.2

theorem State.writePeer_mismatch {s : State} {c p : Nat} (hp : p ≠ 0xFFFF) (h : s.peerFits c p = false) :
    s.writePeer c p = s.no 16 := if_pos ⟨hp, by rw [h]; rfl⟩

/-- A number of an entry with no range that the entry refuses. -/
theorem row_free_refused {s : State} {t a fam inst mem w v : Nat} {sp : Space} {n : Nat} {r : Row}
    (h : takesAtOnce s t a) (hw : mayWrite s a fam inst mem) (hs : spaceOf fam inst = some (sp, n))
    (hr : entryRow sp n mem = some r) (hp : sp ≠ .encode ∧ sp ≠ .decode ∧ sp ≠ .ladder)
    (hm : mem ≠ 0) (hstr : r.struct = false) (hty : r.ty = .u w) (hv : v < 256 ^ w)
    (hl : (s.at t).legalNow sp n mem r = []) (hc : creditOf fam inst mem = none) (hk : ¬ (sp = .clock ∧ mem = 0x1D))
    {st e : Nat} {u : State} (hst : st ≠ 0) (hu : (s.at t).writeNumber a fam inst mem sp n r v = (st, e, u)) :
    (s.at t).orderNumber a fam inst mem w v = u.say st [] e := by
  refine orderWrite_refused h hs hr (.inr (mayWrite_right hw hs hr)) hst ?_
  rw [entryWrite_number hm ((s.at t).otherKind_plain n mem hp) hstr hty hv ?ranges ?nearest hc hk, hu]
  · exact afterWrite_refused sp n r _ hst
  case ranges => rw [hl]; exact fun p hp => absurd hp List.not_mem_nil
  case nearest => rw [hl]; rfl

/-! ## The unit reset of a bed -/

/-- What a bed that is back owes, and its self-checks. -/
def Bed.returnPart (x : Bed) : Bool × List CheckCause := (x.owed, x.checks)

theorem Bed.returnPart_iff {x : Bed} : x.returnPart = (true, []) ↔ x.owed = true ∧ x.checks = [] := Prod.mk_inj

section
variable (s : State) (n : Nat)

theorem State.returnPart_modBed {f : Bed → Bed} (h : ∀ x, (f x).returnPart = x.returnPart) :
    ((s.modBed n f).bed n).returnPart = (s.bed n).returnPart := by
  rw [State.bed_modBed, if_pos rfl, h]

theorem State.returnPart_setBed (st : BedState) : ((s.setBed n st).bed n).returnPart = (s.bed n).returnPart := by
  have h := congrArg Bed.returnPart (s.bed_setBed n st)
  exact h

theorem State.returnPart_freshPatch : ((s.freshPatch n).bed n).returnPart = (s.bed n).returnPart := by
  unfold State.freshPatch
  dsimp only
  have hmod := s.returnPart_modBed n (f := fun b =>
    { b with standby := if b.standby.isNone && decide (b.patch = s.str.patch) then none else some s.str.patch }) fun _ => rfl
  generalize s.modBed n _ = w at hmod ⊢
  have hswitch : ((w.switchBank n).bed n).returnPart = (w.bed n).returnPart := by
    unfold State.switchBank
    split
    · rfl
    · rw [State.bed_raise]
      exact w.returnPart_modBed n fun _ => rfl
  have hsettled : (w.switchBank n).patchSettled.bed n = (w.switchBank n).bed n := State.bed_patchSettled ..
  rw [hsettled, hswitch, hmod]

theorem State.returnPart_clearBed : ((s.clearBed n).bed n).returnPart = (s.bed n).returnPart := by
  unfold State.clearBed
  refine s.returnPart_modBed n ?_
  exact fun _ => rfl

theorem State.returnPart_soilIdle : ((s.soilIdle n).bed n).returnPart = (s.bed n).returnPart := by
  unfold State.soilIdle
  rw [State.returnPart_freshPatch, State.returnPart_setBed]
  refine (State.returnPart_modBed _ n ?_).trans (s.returnPart_clearBed n)
  exact fun _ => rfl

theorem State.st_of_passView {u : State} {b : Nat} {st : BedState} (h : (u.passView b).1.1 = st) : (u.bed b).st = st := h

theorem State.st_soilIdle : ((s.soilIdle n).bed n).st = .idle := by
  refine State.st_of_passView ?_
  rw [State.passView_soilIdle]

/-- A soil test that starts, or does not, leaves a bed in service and every other bed. -/
theorem State.soilTest_beds (h : (s.bed n).st ≠ .pruned) : ((s.soilTest n).bed n).st ≠ .pruned ∧
    ((s.soilTest n).bed n).returnPart = (s.bed n).returnPart ∧ (∀ k, k ≠ n → (s.soilTest n).bed k = s.bed k) := by
  unfold State.soilTest
  split
  · unfold State.soilStart
    refine ⟨?_, State.returnPart_setBed .., fun k hk => State.bed_setBed_other _ .soilTest hk⟩
    rw [State.st_setBed]
    decide
  · exact ⟨h, rfl, fun _ _ => rfl⟩

/-- A bed that is back is in service and owes a soil test, and no other bed changes (R252). -/
theorem State.bedBack_beds : ((s.bedBack n).bed n).st ≠ .pruned ∧ ((s.bedBack n).bed n).returnPart = (true, []) ∧
    (∀ k, k ≠ n → (s.bedBack n).bed k = s.bed k) := by
  unfold State.bedBack
  dsimp only
  have hself := s.bed_modBed n n fun x => { x with owed := true, checks := [], spare := false }
  have hother := fun k => s.bed_modBed n k fun x => { x with owed := true, checks := [], spare := false }
  rw [if_pos rfl] at hself
  generalize s.modBed n _ = w at hself hother ⊢
  obtain ⟨hst, hpart, hbeds⟩ := (w.soilIdle n).soilTest_beds n (by rw [State.st_soilIdle]; decide)
  refine ⟨hst, ?_, fun k hk => ?_⟩
  · rw [hpart, State.returnPart_soilIdle, hself]
    rfl
  · rw [hbeds k hk, State.bed_soilIdle_other w hk, hother, if_neg hk]

end

/-- Where no listed source of a kind is LIVE, none is after a FORCE bit is cleared. -/
theorem State.unforceOne_still {p q : Nat → Bool} {s : State} (x : Nat × Source)
    (h : ∀ e ∈ s.flt.sources, p e.1 = true → e.2.live = false) :
    ∀ e ∈ (s.unforceOne q x).flt.sources, p e.1 = true → e.2.live = false := by
  unfold State.unforceOne
  split
  · intro e he hp
    rcases mem_of_mem_tput (d := fun _ => ({} : Source)) he with hm | rfl
    · exact h e hm hp
    · have hlive : (s.source x.1).live = false := by
        rcases s.source_listed x.1 with hl | hl
        · exact h _ hl hp
        · rw [hl]; rfl
      unfold Source.live at hlive ⊢
      rw [Bool.or_eq_false_iff] at hlive
      exact Bool.or_eq_false_iff.2 ⟨hlive.1, rfl⟩
  · exact h

theorem State.unforce_still {p q : Nat → Bool} (l : List (Nat × Source)) {s : State}
    (h : ∀ e ∈ s.flt.sources, p e.1 = true → e.2.live = false) :
    ∀ e ∈ (s.unforce q l).flt.sources, p e.1 = true → e.2.live = false := by
  unfold State.unforce
  induction l generalizing s with
  | nil => exact h
  | cons x r ih => exact ih (State.unforceOne_still x h)

theorem State.bedReset_idle {s : State} {b : Nat} (h : (s.bed b).st ≠ .pruned ∨ s.shedLive = false ∨
    s.isPruned (bedDie b) 0xFF = true ∨ s.isPruned 12 (bedDie b) = true ∨ s.isPruned (bedDie b) (b % 36) = false ∨
    s.unitNamed (bedDie b) (b % 36) = true ∨ s.failedTwice (bedDie b) (b % 36) = true) : s.bedReset b = s := by
  by_cases hg : (!s.shedLive || s.isPruned (bedDie b) 0xFF || s.isPruned 12 (bedDie b) || decide ((s.bed b).st ≠ .pruned) ||
      s.failedTwice (bedDie b) (b % 36)) = true
  · exact if_pos hg
  · refine (if_neg hg).trans ?_
    have hrest : s.isPruned (bedDie b) (b % 36) = false ∨ s.unitNamed (bedDie b) (b % 36) = true ∨
        (bedDie b = 12 ∧ 8 ≤ b % 36) := by
      simp only [Bool.or_eq_true, Bool.not_eq_true', decide_eq_true_eq] at hg
      tauto
    rw [State.orderReset_refused hrest]
    rfl

/-- A bed that may be reset, with none of its sources LIVE, is back (R252, R379). -/
theorem State.bedReset_back {s : State} {b : Nat} (hb : b < 288) (hst : (s.bed b).st = .pruned) (hl : s.shedLive = true)
    (hd : s.isPruned (bedDie b) 0xFF = false) (hk : s.isPruned 12 (bedDie b) = false)
    (hp : s.isPruned (bedDie b) (b % 36) = true) (hn : s.unitNamed (bedDie b) (b % 36) = false)
    (h2 : s.failedTwice (bedDie b) (b % 36) = false)
    (hs : ∀ e ∈ s.flt.sources, sourceOfUnit (bedDie b) (b % 36) e.1 = true → e.2.live = false) :
    ∃ u : State, s.bedReset b = u.bedBack b ∧ u.str = s.str ∧ u.isPruned (bedDie b) (b % 36) = false := by
  have h8 : bedDie b < 8 := by unfold bedDie; omega
  have h36 : b % 36 < 36 := Nat.mod_lt b (by decide)
  have hg : ¬ (!s.shedLive || s.isPruned (bedDie b) 0xFF || s.isPruned 12 (bedDie b) || decide ((s.bed b).st ≠ .pruned) ||
      s.failedTwice (bedDie b) (b % 36)) = true := by simp [hl, hd, hk, hst, h2]
  obtain ⟨hmem, -, -, hframe⟩ := s.resetNoted_spec (bedDie b) (b % 36)
  have hstr := congrArg State.str hframe
  have htwice : ((s.resetNoted (bedDie b) (b % 36)).failedTwice (bedDie b) (b % 36)) = false := by
    rw [← h2]
    unfold State.failedTwice State.bed
    rw [hstr]
  have hstill : ∀ e ∈ (s.resetNoted (bedDie b) (b % 36)).flt.sources,
      sourceOfUnit (bedDie b) (b % 36) e.1 = true → e.2.live = false :=
    State.unforce_still (p := sourceOfUnit (bedDie b) (b % 36)) (q := sourceOfUnit (bedDie b) (b % 36)) s.flt.sources hs
  have hdue := State.resetDue_true hmem fun h _ => absurd h (by omega)
  have htr := State.resetTrained_other (s := s.resetNoted (bedDie b) (b % 36)) (d := bedDie b) (un := b % 36)
    (fun h => by omega)
  obtain ⟨-, -, -, htw⟩ := (s.resetNoted (bedDie b) (b % 36)).resetTrained_leaves (bedDie b) (b % 36)
  have hend := (State.endReset_due hdue).trans (if_neg (by
    rw [State.resetFailed_false (htw.trans htwice) (by rw [htr]; exact hstill)]
    exact Bool.false_ne_true))
  rw [htr] at hend
  have hreturn (v : State) : v.returnUnit (bedDie b) (b % 36) = v := if_pos h8
  rw [hreturn] at hend
  have hback : ((s.resetNoted (bedDie b) (b % 36)).endReset (bedDie b) (b % 36)).isPruned (bedDie b) (b % 36) = false := by
    rw [hend]
    refine decide_eq_false fun hm => ?_
    have hkept := (List.mem_filter.1 hm).2
    have hsub : (bedDie b, b % 36) ∈ subUnits (bedDie b) (b % 36) := by
      unfold subUnits
      rw [if_neg (by omega)]
      exact List.mem_singleton.2 rfl
    rw [decide_eq_true hsub] at hkept
    exact Bool.false_ne_true hkept
  refine ⟨(s.resetNoted (bedDie b) (b % 36)).endReset (bedDie b) (b % 36), ?_, ?_, hback⟩
  · refine (if_neg hg).trans ?_
    rw [State.orderReset_taken hp hn (fun h => by omega)]
    refine if_neg ?_
    rw [hback]
    exact Bool.false_ne_true
  · rw [hend]
    exact hstr

section
variable (s : State) (t d un b : Nat)

theorem State.unitNamed_at : (s.at t).unitNamed d un = s.unitNamed d un := rfl
theorem State.failedTwice_at : (s.at t).failedTwice d un = s.failedTwice d un := rfl
theorem State.isPruned_at : (s.at t).isPruned d un = s.isPruned d un := rfl
theorem State.shedLive_at : (s.at t).shedLive = s.shedLive := rfl

end

theorem State.ok_of_now {s : State} {t : Nat} (h : s.now = t) : s.ok = (0, t, s) := by
  rw [← h]
  rfl

/-- A size of the pool in its range is stored, and the pool is brought to it. -/
theorem State.writeNumber_sparePool (s : State) (a : Nat) (r : Row) (hr : r.ty = .u 2) {v : Nat} (hv : v < 65536) :
    s.writeNumber a 0x24 0x2000 0x01 .twins 0 r v = (0, s.now, (s.setCfg 0x24 0x2000 0x01 (natLe 2 v)).sizePool) := by
  have hplain : s.writeNumber a 0x24 0x2000 0x01 .twins 0 r v =
      (s.setCfg 0x24 0x2000 0x01 (r.ty.encode v)).sizePool.ok := rfl
  have hnow : (s.setCfg 0x24 0x2000 0x01 (natLe 2 v)).sizePool.now = s.now := by
    simp only [State.sizePool_kept .., State.setCfg_kept ..]
  rw [hplain, hr, Ty.encode_u hv]
  exact State.ok_of_now hnow

theorem State.writeNumber_peer (s : State) (a fam inst c v : Nat) (r : Row) :
    s.writeNumber a fam inst 0x01 .peer c r v = s.writePeer c v := rfl

/-- Settles O30: the two writes by their entries, and a bed's reset through the state that gives the bed back. -/
theorem sparesAndPeers : Obligations.SparesAndPeers := by
  refine ⟨fun s t a v ha h h16 h64 hw => ⟨_, exec_sparePool t v s ha, ?_⟩,
    fun s t a c p ha hc hp h hw => ⟨fun hfit => ⟨_, exec_peer t p s ha hc, ?_⟩, fun hne hfit => ?_⟩,
    fun s t b hb => ⟨fun h => ?_, fun hst hl hd hk hp hn h2 hs => ?_⟩⟩
  · refine row_number_inRange (s := s) (t := t) (sp := .twins) (n := 0) (r := _) h hw rfl rfl (by simp) (by simp) rfl rfl
      (by omega) rfl (by omega) (by omega) rfl (by simp) (State.writeNumber_sparePool (s.at t) a _ rfl (by omega))
  · refine row_number (s := s) (t := t) h hw (spaceOf_peer hc) (entryRow_peer c) (by simp) (by simp) rfl rfl (by omega)
      (fun p hp => absurd hp List.not_mem_nil) rfl (by simp [creditOf]) (by simp)
      ((State.writeNumber_peer ..).trans (State.writePeer_taken (s := s.at t) hfit))
  · refine (exec_peer t p s ha hc).trans (congrArg Host.Outcome.next ?_)
    exact row_free_refused (s := s) (t := t) h hw (spaceOf_peer hc) (entryRow_peer c) (by simp) (by simp) rfl rfl (by omega)
      rfl (by simp [creditOf]) (by simp) (st := 16) (by decide)
      ((State.writeNumber_peer ..).trans (State.writePeer_mismatch (s := s.at t) hne hfit))
  · refine (exec_bedUnitReset t s hb).trans (congrArg Host.Outcome.next (State.bedReset_idle (s := s.at t) ?_))
    rw [State.bed_at, State.shedLive_at, State.isPruned_at, State.isPruned_at, State.isPruned_at, State.unitNamed_at,
      State.failedTwice_at]
    exact h
  · obtain ⟨u, hu, hstr, hpr⟩ := State.bedReset_back (s := s.at t) hb hst hl hd hk hp hn h2 hs
    obtain ⟨hst', hpart, hbeds⟩ := u.bedBack_beds b
    obtain ⟨howed, hchecks⟩ := Bed.returnPart_iff.1 hpart
    refine ⟨_, (exec_bedUnitReset t s hb).trans (congrArg Host.Outcome.next hu), ?_, howed, hst', hchecks, fun k hk => ?_⟩
    · unfold State.isPruned
      simp only [State.bedBack_kept ..]
      exact hpr
    · rw [hbeds k hk]
      unfold State.bed
      rw [hstr]
      rfl

end Sys2Proof.Machine
end

section
/-! PROOFS. Retrial choices, votes, double faults, excuses and exposures of a twin (R245, R246, R248, R259). -/

namespace Sys2Proof.Machine

section
variable {n : Nat} (t : Nat) (s : State) (hn : n < 8192)
include hn

theorem exec_retrialChoice (e : Bool) : exec (.retrialChoice t n e) s = .next ((s.at t).retrialChoice n e) :=
  if_pos (decide_eq_true hn)
theorem exec_voteTimeout : exec (.voteTimeout t n) s = .next ((s.at t).voteTimeout n) := if_pos (decide_eq_true hn)
theorem exec_doubleFaultRestart : exec (.doubleFaultRestart t n) s = .next ((s.at t).restart n) := if_pos (decide_eq_true hn)
theorem exec_excuseTimeout : exec (.excuseTimeout t n) s = .next ((s.at t).excuseTimeout n) := if_pos (decide_eq_true hn)
theorem exec_exposureLimit : exec (.exposureLimit t n) s = .next ((s.at t).exposureLimit n) := if_pos (decide_eq_true hn)

end

/-! ## What a bed's work leaves of the streams -/

section
variable (s : State) (b : Nat)

theorem State.sameStreams_pulse (k : Nat) : SameStreams s (s.pulse b k) := by
  unfold State.pulse
  split
  · exact .refl s
  · refine SameStreams.foldl (fun u i => ?_) _ s
    dsimp only
    split <;> exact ⟨rfl, rfl⟩

theorem State.sameStreams_takeTrap (p : BitVec 80) : SameStreams s (s.takeTrap b p) := by
  unfold State.takeTrap
  exact (s.sameStreams_modBed b _).trans ((State.sameStreams_pulse _ b _).trans (State.sameStreams_tick _ b))

theorem State.sameStreams_trapRequest (p : BitVec 80) : SameStreams s (s.trapRequest b p) := by
  unfold State.trapRequest
  dsimp only
  split
  · exact .refl s
  split
  · exact (s.sameStreams_modBed b _).trans (State.sameStreams_tick _ b)
  · exact s.sameStreams_takeTrap b _

theorem State.sameStreams_soilIdle : SameStreams s (s.soilIdle b) := by
  unfold State.soilIdle
  exact (s.sameStreams_modBed b _).trans ((State.sameStreams_modBed _ b _).trans
    ((State.sameStreams_setBed _ b .idle).trans (State.sameStreams_freshPatch _ b)))

theorem State.sameStreams_soilAbort : SameStreams s (s.soilAbort b) := by
  unfold State.soilAbort State.soilTrap
  dsimp only
  split
  · exact .refl s
  · have hmark : SameStreams s ((s.countSoil 3).modBed b fun x => { x with untested := true, soilResult := 3 }) := ⟨rfl, rfl⟩
    generalize (s.countSoil 3).modBed b _ = w at hmark ⊢
    have hidle := hmark.trans (w.sameStreams_soilIdle b)
    split
    · exact hidle.trans (State.sameStreams_trapRequest _ b 0)
    · exact hidle

theorem State.sameStreams_enlist (l : List Nat) : SameStreams s (s.enlist b l) := by
  unfold State.enlist
  exact (s.sameStreams_soilAbort b).trans (SameStreams.foldl (fun u m => u.sameStreams_assign b m) l _)

/-- A bed that is enlisted runs the streams that it was chosen for. -/
theorem State.enlist_slots {l : List Nat} {m : Nat} (h : m ∈ l) : m ∈ ((s.enlist b l).bed b).slots := by
  unfold State.enlist
  exact (State.assignAll_slots b l _ b m).2 (.inr ⟨rfl, h⟩)

end

/-! ## Retrial beds and votes -/

/-- The Shed's choice of a retrial bed (R245): in another power domain where it can, else on another die. -/
def State.retrialBed (s : State) (n : Nat) : Option Nat :=
  let used := (s.twin n).lead ++ (s.twin n).partner
  let best := fun (unit : Nat → Nat) => s.bestSpare (s.bed ((s.twin n).lead.headD 0)).patch.version
    ((List.range 288).filter (fun b => used.all (fun x => decide (unit x ≠ unit b))))
  (best bedDomain).orElse (fun _ => best bedDie)

theorem State.retrialBed_at (s : State) (t n : Nat) : (s.at t).retrialBed n = s.retrialBed n := rfl

section
variable {s : State} {n : Nat}

theorem State.retrialChoice_idle (h : (s.twin n).contest = none ∨ (s.twin n).st ≠ .contested) (e : Bool) :
    s.retrialChoice n e = s := by
  refine if_pos ?_
  rcases h with h | h
  · rw [h]; rfl
  · rw [decide_eq_true h, Bool.or_true]

theorem State.retrialChoice_contested (h : (s.twin n).contest.isSome = true) (hst : (s.twin n).st = .contested) (e : Bool) :
    s.retrialChoice n e = if !e then s.doubleFault n else if !s.shedLive || !(s.twin n).scion.isEmpty then s else
      match s.retrialBed n with
      | none => s
      | some b => (s.modTwin n (fun w => { w with scion := [b], retrial := true })).enlist b [n] := by
  refine if_neg ?_
  rw [decide_eq_false (not_not.2 hst), Bool.or_false, Option.isNone_iff_eq_none]
  rw [Option.isSome_iff_ne_none] at h
  exact h

theorem State.retrialChoice_none (h : (s.twin n).contest.isSome = true) (hst : (s.twin n).st = .contested)
    (hno : s.shedLive = false ∨ (s.twin n).scion ≠ [] ∨ s.retrialBed n = none) : s.retrialChoice n true = s := by
  rw [State.retrialChoice_contested h hst, if_neg (by decide)]
  split
  · rfl
  · next hg =>
    rw [Bool.or_eq_true, Bool.not_eq_true', Bool.not_eq_true', List.isEmpty_eq_false_iff] at hg
    rw [(hno.resolve_left fun h => hg (.inl h)).resolve_left fun h => hg (.inr h)]

theorem State.retrialChoice_some (h : (s.twin n).contest.isSome = true) (hst : (s.twin n).st = .contested)
    (hl : s.shedLive = true) (hs : (s.twin n).scion = []) {b : Nat} (hb : s.retrialBed n = some b) :
    s.retrialChoice n true = (s.modTwin n (fun w => { w with scion := [b], retrial := true })).enlist b [n] := by
  rw [State.retrialChoice_contested h hst, if_neg (by decide), if_neg (by rw [hl, hs]; decide), hb]

theorem State.voteTimeout_none (h : (s.twin n).contest = none) : s.voteTimeout n = s := by
  unfold State.voteTimeout
  dsimp only
  rw [h]

theorem State.voteTimeout_some {c : Contest} (h : (s.twin n).contest = some c) : s.voteTimeout n =
    if s.now < c.t + 3 * s.slotPeriod n then s else s.pruneGang ((s.twin n).partner.headD 0) := by
  unfold State.voteTimeout
  dsimp only
  rw [h]

theorem State.excuseTimeout_none (h : (s.twin n).excused = none) : s.excuseTimeout n = s := by
  unfold State.excuseTimeout
  dsimp only
  rw [h]

theorem State.excuseTimeout_some {b : Nat} (h : (s.twin n).excused = some b) : s.excuseTimeout n =
    if s.now ≤ (s.twin n).excusedAt + 2000000 then s else s.pruneGang b := by
  unfold State.excuseTimeout
  dsimp only
  rw [h]

/-! ## Exposures -/

theorem State.exposureLimit_idle (h : (s.twin n).exposed = false ∨ (s.twin n).exposureOver = true ∨
    s.now < (s.twin n).exposedSince + 3 * s.slotPeriod n) : s.exposureLimit n = s := by
  refine if_pos ?_
  simp only [Bool.or_eq_true, Bool.not_eq_true', decide_eq_true_eq]
  tauto

theorem State.exposureLimit_over (h : (s.twin n).exposed = true) (ho : (s.twin n).exposureOver = false)
    (ht : (s.twin n).exposedSince + 3 * s.slotPeriod n ≤ s.now) :
    s.exposureLimit n = (s.modTwin n (fun w => { w with exposureOver := true })).judge n := by
  refine if_neg ?_
  simp only [Bool.or_eq_true, Bool.not_eq_true', decide_eq_true_eq, h, ho]
  simpa using ht

end

/-- Whether a twin is PROTECTED is all that judging it changes (R232). -/
theorem State.judge_protected (s : State) (n : Nat) :
    ((s.judge n).twin n) = { s.twin n with protected_ := ((s.judge n).twin n).protected_ } := by
  have hmod (p : Bool) : ((s.modTwin n (fun w => { w with protected_ := p })).twin n) =
      { s.twin n with protected_ := ((s.modTwin n (fun w => { w with protected_ := p })).twin n).protected_ } := by
    rw [State.twin_modTwin, if_pos rfl]
  unfold State.judge
  split
  · split
    · exact hmod false
    · rfl
  · exact hmod _

/-! ## Restarts after a double fault -/

/-- One stream of a ladder restarts with a start picture (R246). -/
def State.restartOne (s : State) (m : Nat) : State :=
  let s := if (s.slot m).kind = 2 ∧ !(s.slot m).dec.noSync then s.raiseSlot m else s
  let s := s.modSlot m (fun x =>
    { x with st := 3, startNext := true, deferred := false,
             dec := { x.dec with noSync := true, params := false, au := none, rows := [], shows := [] } })
  let whole := !(s.twin m).partner.isEmpty
  let s := s.modTwin m (fun w =>
    { w with holdPicture := none, pruneReq := none, contestAt := none, exposed := w.exposed && !whole,
             exposedSince := if whole then 0 else w.exposedSince, exposureOver := w.exposureOver && !whole })
  (s.setTwin m (if whole then .whole else .single)).judge m

/-- What a restart leaves of a stream. -/
def State.Restarted (s : State) (m : Nat) : Prop :=
  (s.slot m).st = 3 ∧ (s.slot m).startNext = true ∧ (s.slot m).dec.noSync = true ∧
    (s.twin m).st = (if (s.twin m).partner = [] then .single else .whole) ∧ (s.twin m).holdPicture = none

/-- The sides of a twin. -/
def State.sides (s : State) (m : Nat) : List Nat × List Nat := ((s.twin m).lead, (s.twin m).partner)

/-- All that a change of TWIN_STATE changes of its twin. -/
theorem State.setTwin_twin (s : State) (n : Nat) (st : TwinState) : (s.setTwin n st).twin n = { s.twin n with st := st } := by
  unfold State.setTwin
  split
  · next h => rw [← h]
  · rw [State.twin_raise, State.twin_modTwin, if_pos rfl]

section
variable (s : State) (m : Nat)

/-- What a change of state and the judgement after it leave of a twin. -/
theorem State.twin_judged (st : TwinState) : (((s.setTwin m st).judge m).twin m).st = st ∧
    ((s.setTwin m st).judge m).sides m = s.sides m ∧
    (((s.setTwin m st).judge m).twin m).holdPicture = (s.twin m).holdPicture ∧
    (∀ k, k ≠ m → ((s.setTwin m st).judge m).twin k = s.twin k) ∧
    (∀ k, ((s.setTwin m st).judge m).slot k = s.slot k) := by
  have hself := s.setTwin_twin m st
  have hother := fun k (hk : k ≠ m) => s.setTwin_other st hk
  have hslots := s.setTwin_slots m st
  generalize s.setTwin m st = u at hself hother hslots
  have hj := u.judge_protected m
  rw [hself] at hj
  unfold State.sides
  refine ⟨?_, ?_, ?_, fun k hk => ((u.judge_twin m k).2.2 hk).trans (hother k hk),
    fun k => State.slot_of_slots ((u.judge_slots m).1.trans hslots) k⟩
  all_goals rw [hj]

theorem State.restartOne_spec : (s.restartOne m).Restarted m ∧ (s.restartOne m).sides m = s.sides m ∧
    (∀ k, k ≠ m → (s.restartOne m).twin k = s.twin k ∧ (s.restartOne m).slot k = s.slot k) := by
  unfold State.restartOne
  dsimp only
  have hraise : SameStreams s (if (s.slot m).kind = 2 ∧ !(s.slot m).dec.noSync then s.raiseSlot m else s) := by
    split
    · exact s.sameStreams_raise _
    · exact .refl s
  generalize (if (s.slot m).kind = 2 ∧ !(s.slot m).dec.noSync then s.raiseSlot m else s) = u at hraise
  have htwin := fun k => hraise.twin k
  have hslot := fun k => hraise.slot k
  rw [State.twin_modSlot]
  generalize hw : (!(u.twin m).partner.isEmpty) = whole
  generalize hv : (u.modSlot m (fun x => { x with
      st := 3, startNext := true, deferred := false,
      dec := { x.dec with noSync := true, params := false, au := none, rows := [], shows := [] } })).modTwin m (fun w => { w with
      holdPicture := none, pruneReq := none, contestAt := none, exposed := w.exposed && !whole,
      exposedSince := if whole then 0 else w.exposedSince, exposureOver := w.exposureOver && !whole }) = v
  have hvself : (v.slot m).st = 3 ∧ (v.slot m).startNext = true ∧ (v.slot m).dec.noSync = true := by
    rw [← hv, State.slot_modTwin, State.slot_modSlot, if_pos rfl]
    exact ⟨rfl, rfl, rfl⟩
  have hvtwin : v.sides m = u.sides m ∧ (v.twin m).holdPicture = none := by
    unfold State.sides
    rw [← hv, State.twin_modTwin, if_pos rfl]
    exact ⟨rfl, rfl⟩
  have hvother : ∀ k, k ≠ m → v.twin k = u.twin k ∧ v.slot k = u.slot k := fun k hk => by
    rw [← hv, State.twin_modTwin, if_neg hk, State.slot_modTwin, State.slot_modSlot, if_neg hk]
    exact ⟨rfl, rfl⟩
  obtain ⟨hst, hsides, hhold, hother, hslots⟩ := v.twin_judged m (if whole then .whole else .single)
  generalize (v.setTwin m (if whole then .whole else .single)).judge m = z at hst hsides hhold hother hslots
  have hsz : z.sides m = s.sides m := by
    rw [hsides, hvtwin.1]
    unfold State.sides
    rw [htwin]
  refine ⟨?_, hsz, fun k hk => ⟨?_, ?_⟩⟩
  · unfold State.Restarted
    rw [hslots, hst, hhold]
    refine ⟨hvself.1, hvself.2.1, hvself.2.2, ?_, hvtwin.2⟩
    have hp : (z.twin m).partner = (u.twin m).partner := by
      have h := congrArg Prod.snd (hsides.trans hvtwin.1)
      exact h
    rw [hp, ← hw]
    cases (u.twin m).partner <;> rfl
  · rw [hother k hk, (hvother k hk).1, htwin]
  · rw [hslots, (hvother k hk).2, hslot]

end

/-- A ladder restarts, stream by stream; no other stream changes. -/
theorem State.restartAll_spec (l : List Nat) (s : State) :
    (∀ m ∈ l, (l.foldl State.restartOne s).Restarted m) ∧ (∀ m, (l.foldl State.restartOne s).sides m = s.sides m) ∧
    (∀ k, k ∉ l → (l.foldl State.restartOne s).twin k = s.twin k ∧ (l.foldl State.restartOne s).slot k = s.slot k) := by
  refine ⟨fun m hm => ?_, fun m => ?_, fun k hk => ?_⟩
  · refine foldl_gives (P := State.Restarted) (fun u m => (u.restartOne_spec m).1) (fun u m k hk h => ?_) l s (.inr hm)
    obtain ⟨htwin, hslot⟩ := (u.restartOne_spec m).2.2 k hk
    unfold State.Restarted
    rw [htwin, hslot]
    exact h
  · refine foldl_keeps (fun u : State => u.sides m) _ _ (fun u j _ => ?_) s
    by_cases h : m = j
    · rw [h]
      exact (u.restartOne_spec j).2.1
    · unfold State.sides
      rw [((u.restartOne_spec j).2.2 m h).1]
  · refine ⟨foldl_keeps (fun u : State => u.twin k) _ _ (fun u j hj => ?_) s,
      foldl_keeps (fun u : State => u.slot k) _ _ (fun u j hj => ?_) s⟩
    · exact ((u.restartOne_spec j).2.2 k fun h => hk (h ▸ hj)).1
    · exact ((u.restartOne_spec j).2.2 k fun h => hk (h ▸ hj)).2

section
variable {s : State} {n : Nat}

theorem State.restart_idle (h : (s.slot n).st ≠ 5 ∨ s.now < (s.twin n).restartAt ∨ (s.slot n).role = 2 ∨
    ((s.twin n).lead = [] ∧ s.shedLive = false) ∨
    ((s.twin n).lead ≠ [] ∧ ∃ b ∈ (s.twin n).lead ++ (s.twin n).partner, (s.bed b).st ≠ .running)) : s.restart n = s := by
  unfold State.restart
  dsimp only
  by_cases hg : (s.slot n).st ≠ 5 ∨ (s.slot n).role = 2 ∨ s.now < (s.twin n).restartAt
  · rw [if_pos hg]
  · rw [if_neg hg]
    rcases h with h | h | h | ⟨hl, hs⟩ | ⟨hl, b, hb, hr⟩
    · exact absurd (.inl h) hg
    · exact absurd (.inr (.inr h)) hg
    · exact absurd (.inr (.inl h)) hg
    · rw [hl, hs]
      rfl
    · rw [if_neg (by rw [List.isEmpty_iff]; exact hl), if_pos]
      rw [Bool.not_eq_true', List.all_eq_false]
      exact ⟨b, hb, by rw [decide_eq_true_eq]; exact hr⟩

theorem State.restart_due (h5 : (s.slot n).st = 5) (hr : (s.slot n).role ≠ 2) (ht : (s.twin n).restartAt ≤ s.now) :
    s.restart n = if (s.twin n).lead.isEmpty then (if s.shedLive then s.placeAgain n else s)
      else if !((s.twin n).lead ++ (s.twin n).partner).all (fun b => decide ((s.bed b).st = .running)) then s
      else (s.ladder n).foldl State.restartOne s :=
  if_neg fun h => h.elim (fun h => h h5) fun h => h.elim hr fun h => absurd ht (by omega)

theorem State.restart_placed (h5 : (s.slot n).st = 5) (hr : (s.slot n).role ≠ 2) (ht : (s.twin n).restartAt ≤ s.now)
    (hl : (s.twin n).lead = []) (hs : s.shedLive = true) : s.restart n = s.placeAgain n := by
  rw [State.restart_due h5 hr ht, hl, hs]
  rfl

theorem State.restart_running (h5 : (s.slot n).st = 5) (hr : (s.slot n).role ≠ 2) (ht : (s.twin n).restartAt ≤ s.now)
    (hl : (s.twin n).lead ≠ []) (hb : ∀ b ∈ (s.twin n).lead ++ (s.twin n).partner, (s.bed b).st = .running) :
    s.restart n = (s.ladder n).foldl State.restartOne s := by
  rw [State.restart_due h5 hr ht, if_neg (by rw [List.isEmpty_iff]; exact hl), if_neg]
  rw [Bool.not_eq_true', List.all_eq_false]
  rintro ⟨b, hm, hne⟩
  exact hne (decide_eq_true (hb b hm))

end

/-- Settles O28: each event through what it does when it is due; a restart stream by stream over the ladder. -/
theorem contests : Obligations.Contests := by
  unfold Obligations.Contests
  intro s t n hn
  refine ⟨fun h e => ?idle, fun hc hst => ⟨?differ, fun h => ?unchosen, fun b hl hs hb => ?chosen⟩, fun h => ?noVote,
    fun c hc => ⟨fun ht => ?voteWaits, fun ht => ?votePrunes⟩, fun h => ?rests, fun h5 hr ht => ⟨fun hl hs => ?placed,
    fun hl hb => ?restarts⟩, fun h => ?noExcuse, fun b hb => ⟨fun ht => ?excuseWaits, fun ht => ?excusePrunes⟩,
    fun h => ?notOver, fun he ho ht => ?lasts⟩
  case idle => exact (exec_retrialChoice t s hn e).trans (congrArg _ (State.retrialChoice_idle (s := s.at t) h e))
  case differ =>
    exact (exec_retrialChoice t s hn false).trans (congrArg _ (State.retrialChoice_contested (s := s.at t) hc hst false))
  case unchosen =>
    exact (exec_retrialChoice t s hn true).trans (congrArg _ (State.retrialChoice_none (s := s.at t) hc hst h))
  case chosen =>
    have hrun := State.retrialChoice_some (s := s.at t) hc hst hl hs ((s.retrialBed_at t n).trans hb)
    have hsame := ((s.at t).modTwin n (fun w => { w with scion := [b], retrial := true })).sameStreams_enlist b [n]
    refine ⟨_, (exec_retrialChoice t s hn true).trans (congrArg _ hrun), ?_,
      State.enlist_slots _ b (List.mem_singleton.2 rfl), fun k hk => ?_⟩
    · rw [hsame.twin, State.twin_modTwin, if_pos rfl]
      rfl
    · rw [hsame.twin, State.twin_modTwin, if_neg hk]
      rfl
  case noVote => exact (exec_voteTimeout t s hn).trans (congrArg _ (State.voteTimeout_none (s := s.at t) h))
  case voteWaits =>
    exact (exec_voteTimeout t s hn).trans (congrArg _ ((State.voteTimeout_some (s := s.at t) hc).trans (if_pos ht)))
  case votePrunes =>
    exact (exec_voteTimeout t s hn).trans
      (congrArg _ ((State.voteTimeout_some (s := s.at t) hc).trans (if_neg (Nat.not_lt.2 ht))))
  case rests => exact (exec_doubleFaultRestart t s hn).trans (congrArg _ (State.restart_idle (s := s.at t) h))
  case placed =>
    exact (exec_doubleFaultRestart t s hn).trans (congrArg _ (State.restart_placed (s := s.at t) h5 hr ht hl hs))
  case restarts =>
    obtain ⟨hself, hsides, hother⟩ := State.restartAll_spec ((s.at t).ladder n) (s.at t)
    refine ⟨_, (exec_doubleFaultRestart t s hn).trans (congrArg _ (State.restart_running (s := s.at t) h5 hr ht hl hb)),
      fun m hm => ?_, fun k hk => ⟨(hother k hk).2, (hother k hk).1⟩⟩
    obtain ⟨h3, hnext, hsync, htwin, hhold⟩ := hself m hm
    have hlead := congrArg Prod.fst (hsides m)
    have hpartner := congrArg Prod.snd (hsides m)
    generalize ((s.at t).ladder n).foldl State.restartOne (s.at t) = u at *
    have hp : (u.twin m).partner = (s.twin m).partner := hpartner
    rw [hp] at htwin
    exact ⟨h3, hnext, hsync, hlead, hpartner, htwin, hhold⟩
  case noExcuse => exact (exec_excuseTimeout t s hn).trans (congrArg _ (State.excuseTimeout_none (s := s.at t) h))
  case excuseWaits =>
    exact (exec_excuseTimeout t s hn).trans (congrArg _ ((State.excuseTimeout_some (s := s.at t) hb).trans (if_pos ht)))
  case excusePrunes =>
    exact (exec_excuseTimeout t s hn).trans
      (congrArg _ ((State.excuseTimeout_some (s := s.at t) hb).trans (if_neg (Nat.not_le.2 ht))))
  case notOver => exact (exec_exposureLimit t s hn).trans (congrArg _ (State.exposureLimit_idle (s := s.at t) h))
  case lasts =>
    have hrun := State.exposureLimit_over (s := s.at t) he ho ht
    generalize hv : (s.at t).modTwin n (fun w => { w with exposureOver := true }) = v at hrun
    have hself : v.twin n = { s.twin n with exposureOver := true } := by
      rw [← hv, State.twin_modTwin, if_pos rfl]
      rfl
    have hother : ∀ k, k ≠ n → v.twin k = s.twin k := fun k hk => by
      rw [← hv, State.twin_modTwin, if_neg hk]
      rfl
    have hj := v.judge_protected n
    rw [hself] at hj
    refine ⟨_, (exec_exposureLimit t s hn).trans (congrArg _ hrun), ?_, ?_, ?_,
      fun k hk => ((v.judge_twin n k).2.2 hk).trans (hother k hk), ?_, ?_⟩
    · rw [hj]
    · rw [hj]
      exact he
    · rw [hj]
    · rw [(v.judge_slots n).1, ← hv]
      rfl
    · rw [← hv]
      exact State.parts.2 (by simp [State.judge_kept .., State.modTwin])

end Sys2Proof.Machine
end

section
/-! PROOFS. Scion choice, transplants, cuttings and probation of a graft (R242, R253 to R257). -/

namespace Sys2Proof.Machine

section
variable {n : Nat} (t : Nat) (s : State) (hn : n < 8192)
include hn

theorem exec_scionChoice : exec (.scionChoice t n) s = .next ((s.at t).chooseScion n) := if_pos (decide_eq_true hn)
theorem exec_transplantEnd (bad : Bool) : exec (.transplantEnd t n bad) s = .next ((s.at t).transplantDone n bad) :=
  if_pos (decide_eq_true hn)
theorem exec_cuttingBoundary : exec (.cuttingBoundary t n) s = .next ((s.at t).cuttingBoundary n) :=
  if_pos (decide_eq_true hn)
theorem exec_probationEnd : exec (.probationEnd t n) s = .next ((s.at t).probationEnd n) := if_pos (decide_eq_true hn)
theorem exec_cuttingCompare (live other : Bool) : exec (.cuttingCompare t n live other) s =
    .next ((s.at t).cuttingCompare n live other) := if_pos (decide_eq_true hn)

end

/-! ## The streams that beds run -/

section
variable (s : State) (b k : Nat)

theorem State.bedSlots_tick : ((s.tick b).bed k).slots = (s.bed k).slots := by
  have h := congrArg Bed.slots (s.uncounted_tick b k)
  exact h

theorem State.bedSlots_raise (n : Nat) : ((s.raise n).bed k).slots = (s.bed k).slots := by rw [State.bed_raise]

theorem State.bedSlots_pulse (ev : Nat) : ((s.pulse b ev).bed k).slots = (s.bed k).slots := by
  unfold State.pulse
  split
  · rfl
  · refine foldl_keeps (fun u : State => (u.bed k).slots) _ _ (fun u i _ => ?_) s
    dsimp only
    split
    · refine u.bedSlots_modBed b k ?_
      have h := congrArg Bed.slots ((u.bed b).uncounted_add i 1 (u.counterSel i).2.2.1 (u.counterSel i).2.2.2)
      exact h
    · rfl

theorem State.bedSlots_trapRequest (p : BitVec 80) : ((s.trapRequest b p).bed k).slots = (s.bed k).slots := by
  unfold State.trapRequest State.takeTrap
  dsimp only
  split
  · rfl
  split
  · rw [State.bedSlots_tick, State.bedSlots_modBed _ b k rfl]
  · rw [State.bedSlots_tick, State.bedSlots_pulse, State.bedSlots_modBed _ b k rfl]

theorem State.bedSlots_freshPatch : ((s.freshPatch b).bed k).slots = (s.bed k).slots := by
  unfold State.freshPatch State.switchBank
  dsimp only
  rw [State.bed_patchSettled]
  split
  · exact s.bedSlots_modBed b k rfl
  · rw [State.bedSlots_raise, State.bedSlots_modBed _ b k rfl]
    exact s.bedSlots_modBed b k rfl

theorem State.bedSlots_soilIdle : ((s.soilIdle b).bed k).slots = (s.bed k).slots := by
  unfold State.soilIdle State.clearBed
  rw [State.bedSlots_freshPatch, State.bedSlots_setBed, State.bedSlots_modBed _ b k rfl]
  exact s.bedSlots_modBed b k rfl

theorem State.bedSlots_soilAbort : ((s.soilAbort b).bed k).slots = (s.bed k).slots := by
  unfold State.soilAbort State.soilTrap
  dsimp only
  split
  · rfl
  · have hidle : ((((s.countSoil 3).modBed b fun x => { x with untested := true, soilResult := 3 }).soilIdle b).bed k).slots =
        (s.bed k).slots := by
      rw [State.bedSlots_soilIdle]
      exact (s.countSoil 3).bedSlots_modBed b k rfl
    split
    · rw [State.bedSlots_trapRequest, hidle]
    · exact hidle

theorem State.bedSlots_keepWarm : (s.keepWarm.bed k).slots = (s.bed k).slots := by
  rw [s.keepWarm_eq]
  refine foldl_keeps (fun u : State => (u.bed k).slots) _ _ (fun u b _ => ?_) s
  unfold State.keepOneWarm
  dsimp only
  have hwarm : ((if (u.bed b).warm = decide (b ∈ s.warmSpares) then u else
      u.modBed b (fun x => { x with warm := decide (b ∈ s.warmSpares) })).bed k).slots = (u.bed k).slots := by
    split
    · rfl
    · exact u.bedSlots_modBed b k rfl
  generalize (if (u.bed b).warm = decide (b ∈ s.warmSpares) then u else
      u.modBed b (fun x => { x with warm := decide (b ∈ s.warmSpares) })) = w at hwarm ⊢
  split
  · rw [State.bedSlots_wakeBed, hwarm]
  · exact hwarm

theorem State.bedSlots_enlist (l : List Nat) (m : Nat) :
    m ∈ ((s.enlist b l).bed k).slots ↔ m ∈ (s.bed k).slots ∨ (k = b ∧ m ∈ l) := by
  unfold State.enlist
  rw [State.assignAll_slots, State.bedSlots_soilAbort]

end

/-- One bed of a scion takes its place in its gang and the streams (R253). -/
def State.seatScion (s : State) (g : Nat) (all : List Nat) (e : Nat × Nat) : State :=
  (s.modBed e.1 (fun b => { b with spare := false, gangPos := e.2, gangSize := if g ≤ 1 then 0 else g })).enlist e.1 all

theorem State.seatScion_slots (s : State) (g : Nat) (all : List Nat) (e : Nat × Nat) (k m : Nat) :
    m ∈ ((s.seatScion g all e).bed k).slots ↔ m ∈ (s.bed k).slots ∨ (k = e.1 ∧ m ∈ all) := by
  unfold State.seatScion
  rw [State.bedSlots_enlist, State.bedSlots_modBed s e.1 k (f := fun b =>
    { b with spare := false, gangPos := e.2, gangSize := if g ≤ 1 then 0 else g }) rfl]

theorem State.seatScions_slots (g : Nat) (all : List Nat) (l : List (Nat × Nat)) (s : State) (k m : Nat) :
    m ∈ ((l.foldl (State.seatScion · g all ·) s).bed k).slots ↔ m ∈ (s.bed k).slots ∨ ((∃ e ∈ l, k = e.1) ∧ m ∈ all) := by
  induction l generalizing s with
  | nil => simp
  | cons e r ih =>
    rw [List.foldl_cons, ih, State.seatScion_slots]
    simp only [List.mem_cons, exists_eq_or_imp]
    tauto

theorem State.sameStreams_seatScion (s : State) (g : Nat) (all : List Nat) (e : Nat × Nat) :
    SameStreams s (s.seatScion g all e) :=
  (s.sameStreams_modBed e.1 _).trans (State.sameStreams_enlist _ e.1 all)

theorem State.ladder_of_alm {s u : State} (h : u.alm = s.alm) (n : Nat) : u.ladder n = s.ladder n := by
  unfold State.ladder State.tiersOf State.cfg
  rw [h]

theorem State.seatScions_eq {n g : Nat} {all : List Nat} {s : State} (h : s.ladder n = all) (l : List (Nat × Nat)) :
    l.foldl (fun (s : State) e => s.seatScion g (s.ladder n) e) s = l.foldl (State.seatScion · g all ·) s := by
  induction l generalizing s with
  | nil => rfl
  | cons e r ih =>
    have halm : (s.seatScion g all e).alm = s.alm := by
      unfold State.seatScion
      simp only [State.enlist_kept ..]
      rfl
    rw [List.foldl_cons, List.foldl_cons, h]
    exact ih ((State.ladder_of_alm halm n).trans h)

/-! ## The scion of a stream -/

/-- The scion of a twin, its lead, and whether the scion votes. -/
def State.scionView (s : State) (m : Nat) : List Nat × List Nat × Bool :=
  ((s.twin m).scion, (s.twin m).lead, (s.twin m).retrial)

section
variable (s : State) (n : Nat)

theorem State.scionView_of_twin {u : State} {m : Nat} (h : u.twin m = s.twin m) : u.scionView m = s.scionView m := by
  unfold State.scionView
  rw [h]

theorem State.scionView_modTwin {f : Twin → Twin} (h : ∀ w, ((f w).scion, (f w).lead, (f w).retrial) = (w.scion, w.lead, w.retrial))
    (m : Nat) : (s.modTwin n f).scionView m = s.scionView m := by
  unfold State.scionView
  rw [State.twin_modTwin]
  split
  · next hm => rw [h, hm]
  · rfl

theorem State.scionView_setTwin (st : TwinState) (m : Nat) : (s.setTwin n st).scionView m = s.scionView m := by
  by_cases hm : m = n
  · unfold State.scionView
    rw [hm, State.setTwin_twin]
  · exact State.scionView_of_twin s (s.setTwin_other st hm)

theorem State.refence_leaves : (s.refence n).str.twins = s.str.twins ∧ (s.refence n).str.beds = s.str.beds := by
  unfold State.refence
  split <;> exact ⟨rfl, rfl⟩

/-- A transplant that starts leaves the members, the scion and the beds (R254). -/
theorem State.startGraft_view (m : Nat) : (s.startGraft n).scionView m = s.scionView m ∧
    (∀ b, ((s.startGraft n).bed b).slots = (s.bed b).slots) := by
  unfold State.startGraft
  dsimp only
  split
  · exact ⟨rfl, fun _ => rfl⟩
  · refine ⟨foldl_keeps (fun u : State => u.scionView m) _ _ (fun u j _ => ?_) s,
      fun b => foldl_keeps (fun u : State => (u.bed b).slots) _ _ (fun u j _ => ?_) s⟩
    · rw [State.scionView_setTwin]
      refine (State.scionView_modTwin _ j ?_ m).trans rfl
      exact fun _ => rfl
    · unfold State.bed
      rw [State.beds_setTwin]
      rfl

/-- The best side of spares for a scion, on another die than the lost one where it can (R253). -/
def State.scionSide (s : State) (n : Nat) : Option (List Nat) :=
  let w := s.twin n
  let sides := s.scionSides n (Nat.max 1 (s.gangSize n)) (s.bed (w.lead.headD 0)).patch.version (s.regionBytes n)
  let away := sides.filter (fun y => decide (some (bedDie (y.2.headD 0)) ≠ w.lostDie))
  bestSide (if away.isEmpty then sides else away)

/-- The region of a scion, where its stack has room for one (R349). -/
def State.regionAt (s : State) (n d : Nat) : Option Nat → State
  | none => s
  | some base => (s.modSlot n (fun x => { x with regions := x.regions ++ [(d, base, up2M (s.regionBytes n))] })).refence n

def State.regionFor (s : State) (n d : Nat) : State := s.regionAt n d (s.freeRun d (up2M (s.regionBytes n)))

theorem State.refence_alm : (s.refence n).alm = s.alm := by
  unfold State.refence
  split <;> rfl

theorem State.regionAt_leaves (d : Nat) (o : Option Nat) : (s.regionAt n d o).str.twins = s.str.twins ∧
    (s.regionAt n d o).alm = s.alm := by
  cases o with
  | none => exact ⟨rfl, rfl⟩
  | some base => exact ⟨(State.refence_leaves _ n).1, State.refence_alm _ n⟩

theorem State.regionFor_leaves (d : Nat) : (s.regionFor n d).str.twins = s.str.twins ∧
    (s.regionFor n d).alm = s.alm := s.regionAt_leaves n d _


/-- A stream's scion is named (R253). -/
def State.nameScion (side : List Nat) (s : State) (m : Nat) : State :=
  s.modTwin m (fun w => { w with scion := side, retrial := false, cuttingAt := 0, transplantAt := 0,
                                 probation := none, probationBad := false })

theorem State.nameScions_view (side l : List Nat) {m : Nat} (hm : m ∈ l) :
    (l.foldl (State.nameScion side) s).scionView m = (side, (s.twin m).lead, false) := by
  have hlead : ((l.foldl (State.nameScion side) s).twin m).lead = (s.twin m).lead := by
    refine foldl_keeps (fun u : State => (u.twin m).lead) _ _ (fun u j _ => ?_) s
    unfold State.nameScion
    rw [State.twin_modTwin]
    split
    · next h => rw [h]
    · rfl
  have hgiven : (fun (u : State) m => (u.twin m).scion = side ∧ (u.twin m).retrial = false) (l.foldl (State.nameScion side) s) m := by
    refine foldl_gives (P := fun (u : State) m => (u.twin m).scion = side ∧ (u.twin m).retrial = false)
      (fun u j => ?_) (fun u j k hk h => ?_) l s (.inr hm)
    · unfold State.nameScion
      rw [State.twin_modTwin, if_pos rfl]
      exact ⟨rfl, rfl⟩
    · unfold State.nameScion
      rw [State.twin_modTwin, if_neg hk]
      exact h
  obtain ⟨hscion, hretrial⟩ := hgiven
  unfold State.scionView
  rw [hlead, hscion, hretrial]

/-- A chosen scion: its region, its name in every tier, its beds, and its transplant (R253, R254). -/
def State.takeScion (s : State) (n : Nat) (side : List Nat) : State :=
  let u := s.regionFor n (bedDie (side.headD 0))
  let v := (u.ladder n).foldl (State.nameScion side) u
  let w := side.zipIdx.foldl (fun (s : State) e => s.seatScion side.length (s.ladder n) e) v
  (w.startGraft n).keepWarm

theorem State.chooseScion_eq : s.chooseScion n =
    if !s.shedLive || decide ((s.twin n).st ≠ .single) || decide ((s.slot n).role = 2) || !(s.twin n).scion.isEmpty ||
      (s.twin n).lead.isEmpty || decide (s.cfgN 0x24 0x2000 0x03 ≤ (s.twin n).tries) then s
    else match s.scionSide n with
      | none => s
      | some side => s.takeScion n side := by
  unfold State.chooseScion State.scionSide
  dsimp only
  split
  · rfl
  · generalize bestSide _ = o
    cases o with
    | none => rfl
    | some side =>
      unfold State.takeScion State.regionFor State.seatScion State.nameScion
      dsimp only
      generalize s.freeRun _ _ = o
      cases o <;> rfl

variable {s n}

theorem State.chooseScion_idle (h : s.shedLive = false ∨ (s.twin n).st ≠ .single ∨ (s.slot n).role = 2 ∨
    (s.twin n).scion ≠ [] ∨ (s.twin n).lead = [] ∨ s.cfgN 0x24 0x2000 0x03 ≤ (s.twin n).tries ∨ s.scionSide n = none) :
    s.chooseScion n = s := by
  rw [State.chooseScion_eq]
  split
  · rfl
  · next hg =>
    have hnone : s.scionSide n = none := by
      simp only [Bool.or_eq_true, Bool.not_eq_true', List.isEmpty_eq_false_iff, List.isEmpty_iff, decide_eq_true_eq] at hg
      tauto
    rw [hnone]

theorem State.chooseScion_takes (hl : s.shedLive = true) (hst : (s.twin n).st = .single) (hr : (s.slot n).role ≠ 2)
    (hs : (s.twin n).scion = []) (hlead : (s.twin n).lead ≠ []) (ht : (s.twin n).tries < s.cfgN 0x24 0x2000 0x03)
    {side : List Nat} (hside : s.scionSide n = some side) : s.chooseScion n = s.takeScion n side := by
  rw [State.chooseScion_eq, hside, if_neg]
  simp only [Bool.or_eq_true, Bool.not_eq_true', List.isEmpty_eq_false_iff, List.isEmpty_iff, decide_eq_true_eq]
  simp [hl, hst, hr, hs, hlead, ht]

/-- What the choice of a scion leaves of each tier of the stream. -/
theorem State.takeScion_spec (side : List Nat) {m : Nat} (hm : m ∈ s.ladder n) :
    (s.takeScion n side).scionView m = (side, (s.twin m).lead, false) ∧
    (∀ b ∈ side, m ∈ ((s.takeScion n side).bed b).slots) := by
  unfold State.takeScion
  dsimp only
  have hcfg : (s.regionFor n (bedDie (side.headD 0))).ladder n = s.ladder n :=
    State.ladder_of_alm (s.regionFor_leaves n _).2 n
  have htwins := (s.regionFor_leaves n (bedDie (side.headD 0))).1
  generalize s.regionFor n (bedDie (side.headD 0)) = u at hcfg htwins
  have htwin : u.twin m = s.twin m := congrArg (fun l => tget (fun _ => ({} : Twin)) l m) htwins
  rw [hcfg]
  have hname := u.nameScions_view side (s.ladder n) hm
  have hladder : ((s.ladder n).foldl (State.nameScion side) u).ladder n = s.ladder n := by
    refine Eq.trans ?_ hcfg
    exact foldl_keeps (fun v : State => v.ladder n) (State.nameScion side) (s.ladder n) (fun v j _ => rfl) u
  generalize (s.ladder n).foldl (State.nameScion side) u = v at hname hladder
  rw [State.seatScions_eq hladder]
  have hsame := SameStreams.foldl (fun w e => State.sameStreams_seatScion w side.length (s.ladder n) e) side.zipIdx v
  have hseat := fun b => State.seatScions_slots side.length (s.ladder n) side.zipIdx v b m
  generalize side.zipIdx.foldl (State.seatScion · side.length (s.ladder n) ·) v = w at hsame hseat
  obtain ⟨hview, hbeds⟩ := w.startGraft_view n m
  have hwarm := (w.startGraft n).sameStreams_keepWarm
  refine ⟨?_, fun b hb => ?_⟩
  · rw [State.scionView_of_twin _ (hwarm.twin m), hview, State.scionView_of_twin _ (hsame.twin m), hname, htwin]
  · rw [State.bedSlots_keepWarm, hbeds, hseat]
    rw [← List.zipIdx_map_fst 0 side] at hb
    obtain ⟨e, he, rfl⟩ := List.mem_map.1 hb
    exact .inr ⟨⟨e, he, rfl⟩, hm⟩

end

/-! ## Transplants -/

/-- A stream's transplant has ended: its cutting boundary, and what it took (R255). -/
def State.transplantOne (b : Nat) (s : State) (m : Nat) : State :=
  s.modTwin m (fun w => { w with cuttingAt := b, transplanted := some ((s.slot m).pots, (s.slot m).analysis.pot) })

theorem State.transplantAll_spec (b : Nat) (l : List Nat) (s : State) :
    (∀ m, (l.foldl (State.transplantOne b) s).twin m = if m ∈ l then { s.twin m with
      cuttingAt := b, transplanted := some ((s.slot m).pots, (s.slot m).analysis.pot) } else s.twin m) ∧
    (l.foldl (State.transplantOne b) s).str.slots = s.str.slots ∧
    l.foldl (State.transplantOne b) s = { s with str := (l.foldl (State.transplantOne b) s).str } := by
  induction l generalizing s with
  | nil => exact ⟨fun _ => (if_neg List.not_mem_nil).symm, rfl, rfl⟩
  | cons j r ih =>
    obtain ⟨htwin, hslots, hframe⟩ := ih (s.transplantOne b j)
    have hone : ∀ m, (s.transplantOne b j).twin m = if m = j then { s.twin m with
        cuttingAt := b, transplanted := some ((s.slot m).pots, (s.slot m).analysis.pot) } else s.twin m := fun m => by
      unfold State.transplantOne
      rw [State.twin_modTwin]
      split
      · next h => rw [h]
      · rfl
    have hslot : ∀ m, (s.transplantOne b j).slot m = s.slot m := fun _ => rfl
    refine ⟨fun m => ?_, hslots, hframe⟩
    rw [List.foldl_cons, htwin, hone, hslot]
    by_cases hm : m = j <;> by_cases hr : m ∈ r <;> simp [hm, hr, List.mem_cons]

section
variable {s : State} {n : Nat}

theorem State.transplantEnd_idle (h : (s.twin n).st ≠ .grafting ∨ (s.slot n).role = 2 ∨ (s.twin n).cuttingAt ≠ 0) (bad : Bool) :
    s.transplantEnd n bad = s := by
  refine if_pos ?_
  simp only [Bool.or_eq_true, decide_eq_true_eq]
  tauto

theorem State.transplantEnd_good (hst : (s.twin n).st = .grafting) (hr : (s.slot n).role ≠ 2) (hc : (s.twin n).cuttingAt = 0) :
    s.transplantEnd n false = if s.now < (s.twin n).transplantAt then s else
      (s.ladder n).foldl (State.transplantOne (s.nextBoundary n)) s := by
  refine (if_neg ?_).trans (if_neg Bool.false_ne_true)
  simp only [Bool.or_eq_true, decide_eq_true_eq]
  tauto

theorem State.transplantStack_none (h : (s.twin n).st ≠ .grafting ∨ (s.slot n).role = 2 ∨ (s.twin n).cuttingAt ≠ 0) :
    s.transplantStack n = none := if_neg (by tauto)

theorem State.transplantStack_some (hst : (s.twin n).st = .grafting) (hr : (s.slot n).role ≠ 2) (hc : (s.twin n).cuttingAt = 0) :
    s.transplantStack n = some (bedDie ((s.twin n).lead.headD 0)) := if_pos ⟨hst, hr, hc⟩

theorem State.transplantDone_false : s.transplantDone n false = s.transplantEnd n false := rfl

theorem State.transplantDone_idle (h : (s.twin n).st ≠ .grafting ∨ (s.slot n).role = 2 ∨ (s.twin n).cuttingAt ≠ 0) (bad : Bool) :
    s.transplantDone n bad = s := by
  unfold State.transplantDone
  rw [State.transplantStack_none h]
  cases bad <;> exact State.transplantEnd_idle h _

theorem State.transplantDone_bad (hst : (s.twin n).st = .grafting) (hr : (s.slot n).role ≠ 2) (hc : (s.twin n).cuttingAt = 0) :
    s.transplantDone n true = (s.transplantEnd n true).readError (bedDie ((s.twin n).lead.headD 0)) 0x0200 := by
  unfold State.transplantDone
  rw [State.transplantStack_some hst hr hc]

end

/-! ## Cutting boundaries -/

/-- The picture of a stream that a cutting boundary begins: its probation picture (R255). -/
def State.probationPic (s : State) (at_ m : Nat) : Nat :=
  (((s.slot m).pics.find? (fun p => decide (p.instant = at_))).map (·.no)).getD (s.slot m).codedNo

/-- A stream at its cutting boundary (R255). -/
def State.cutOne (at_ : Nat) (s : State) (m : Nat) : State :=
  ((s.unhold m).modTwin m (fun w =>
    { w with probation := some (s.probationPic at_ m), probationBad := false,
             loaded := some (s.cutting (w.lead.headD 0) m w.cuttingAt) })).setTwin m .probation

/-- A stream on probation, from the picture that its boundary began. -/
def State.OnProbation (at_ : Nat) (s : State) (m : Nat) : Prop :=
  (s.twin m).st = .probation ∧ (s.twin m).probation = some (s.probationPic at_ m) ∧ (s.twin m).probationBad = false ∧
    (s.twin m).loaded.isSome = true

theorem State.setTwin_slot (s : State) (m k : Nat) (st : TwinState) : (s.setTwin m st).slot k = s.slot k :=
  State.slot_of_slots (s.setTwin_slots m st) k

theorem State.probationPic_cutOne (at_ : Nat) (s : State) (m k : Nat) :
    (s.cutOne at_ m).probationPic at_ k = s.probationPic at_ k := by
  unfold State.cutOne
  unfold State.probationPic
  rw [State.setTwin_slot, State.slot_modTwin]
  unfold State.unhold
  rw [State.slot_modSlot]
  split
  · next h => rw [h]
  · rfl

theorem State.cutOne_self (at_ : Nat) (s : State) (m : Nat) : (s.cutOne at_ m).OnProbation at_ m := by
  unfold State.OnProbation
  rw [State.probationPic_cutOne]
  unfold State.cutOne
  rw [State.setTwin_twin, State.twin_modTwin, if_pos rfl]
  exact ⟨rfl, rfl, rfl, rfl⟩

theorem State.cutOne_other (at_ : Nat) (s : State) {m k : Nat} (h : k ≠ m) : (s.cutOne at_ m).twin k = s.twin k := by
  unfold State.cutOne
  rw [State.setTwin_other _ _ h, State.twin_modTwin, if_neg h]
  rfl

theorem State.cutAll_spec (at_ : Nat) (l : List Nat) (s : State) :
    (∀ m ∈ l, (l.foldl (State.cutOne at_) s).OnProbation at_ m) ∧
    (∀ m, (l.foldl (State.cutOne at_) s).probationPic at_ m = s.probationPic at_ m) ∧
    (∀ k, k ∉ l → (l.foldl (State.cutOne at_) s).twin k = s.twin k) := by
  refine ⟨fun m hm => ?_, fun m => ?_, fun k hk => ?_⟩
  · refine foldl_gives (P := State.OnProbation at_) (fun u m => u.cutOne_self at_ m) (fun u m k hk h => ?_) l s (.inr hm)
    unfold State.OnProbation
    rw [State.probationPic_cutOne, u.cutOne_other at_ hk]
    exact h
  · exact foldl_keeps (fun u : State => u.probationPic at_ m) _ _ (fun u j _ => u.probationPic_cutOne at_ j m) s
  · exact foldl_keeps (fun u : State => u.twin k) _ _ (fun u j hj => u.cutOne_other at_ fun h => hk (h ▸ hj)) s

section
variable {s : State} {n : Nat}

theorem State.cuttingBoundary_idle (h : (s.twin n).st ≠ .grafting ∨ (s.slot n).role = 2 ∨ (s.twin n).cuttingAt = 0 ∨
    s.now < (s.twin n).cuttingAt) : s.cuttingBoundary n = s := by
  refine if_pos ?_
  simp only [Bool.or_eq_true, decide_eq_true_eq]
  tauto

theorem State.cuttingBoundary_due (hst : (s.twin n).st = .grafting) (hr : (s.slot n).role ≠ 2)
    (hc : (s.twin n).cuttingAt ≠ 0) (ht : (s.twin n).cuttingAt ≤ s.now) :
    s.cuttingBoundary n = (s.ladder n).foldl (State.cutOne (s.twin n).cuttingAt) s := by
  refine if_neg ?_
  simp only [Bool.or_eq_true, decide_eq_true_eq]
  rw [← Nat.not_lt] at ht
  tauto

end

/-! ## Ends of probation -/

/-- A good probation ends: the scion is the partner of a WHOLE twin (R257). -/
def State.wholeOne (s : State) (m : Nat) : State :=
  let s := (s.countTwin m 1).modTwin m (fun w =>
    { w with partner := w.scion, scion := [], probation := none, cuttingAt := 0, transplantAt := 0, tries := 0,
             transplanted := none, loaded := none,
             exposed := false, exposedSince := 0, exposureOver := false, lostDie := none })
  (s.setTwin m .whole).judge m

/-- A twin that is WHOLE again. -/
def Twin.madeWhole (w : Twin) : Twin :=
  { w with st := .whole, partner := w.scion, scion := [], probation := none, cuttingAt := 0, transplantAt := 0, tries := 0,
           transplanted := none, loaded := none, counts := bumpAt w.counts 1 1,
           exposed := false, exposedSince := 0, exposureOver := false, lostDie := none }

section
variable (s : State) (m : Nat)

/-- What a good probation leaves of a twin: all but whether it is PROTECTED. -/
theorem State.wholeOne_self : ((s.wholeOne m).twin m) =
    { (s.twin m).madeWhole with protected_ := ((s.wholeOne m).twin m).protected_ } := by
  unfold State.wholeOne
  dsimp only
  generalize hu : (s.countTwin m 1).modTwin m _ = u
  have hset := u.setTwin_twin m .whole
  have hself : { u.twin m with st := .whole } = (s.twin m).madeWhole := by
    rw [← hu, State.twin_modTwin, if_pos rfl]
    unfold State.countTwin
    rw [State.twin_modTwin, if_pos rfl]
    rfl
  rw [hself] at hset
  generalize u.setTwin m .whole = v at hset
  rw [← hset]
  exact v.judge_protected m

theorem State.wholeOne_other {k : Nat} (h : k ≠ m) : (s.wholeOne m).twin k = s.twin k := by
  unfold State.wholeOne
  dsimp only
  rw [(State.judge_twin _ m k).2.2 h, State.setTwin_other _ _ h, State.twin_modTwin, if_neg h]
  unfold State.countTwin
  rw [State.twin_modTwin, if_neg h]

theorem State.wholeOne_slots : (s.wholeOne m).str.slots = s.str.slots := by
  unfold State.wholeOne
  dsimp only
  rw [(State.judge_slots _ m).1, State.setTwin_slots]
  rfl

end

/-- What a good probation leaves of a twin, however often its stream is named. -/
def State.WholeAgain (s : State) (m : Nat) : Prop :=
  (s.twin m).st = .whole ∧ (s.twin m).scion = [] ∧ (s.twin m).tries = 0 ∧ (s.twin m).exposed = false

/-- The sides of a graft, and its counts. -/
def State.graftView (s : State) (m : Nat) : List Nat × List Nat × List Nat :=
  ((s.twin m).partner, (s.twin m).scion, (s.twin m).counts)

theorem State.wholeAll_spec (l : List Nat) (s : State) :
    (∀ m ∈ l, (l.foldl State.wholeOne s).WholeAgain m) ∧
    (∀ m, ((l.foldl State.wholeOne s).twin m).lead = (s.twin m).lead) ∧
    (l.Nodup → ∀ m ∈ l, (l.foldl State.wholeOne s).graftView m =
      ((s.twin m).scion, [], bumpAt (s.twin m).counts 1 1)) ∧
    (∀ k, k ∉ l → (l.foldl State.wholeOne s).twin k = s.twin k) ∧
    (l.foldl State.wholeOne s).str.slots = s.str.slots := by
  refine ⟨fun m hm => ?_, fun m => ?_, fun hl m hm => ?_, fun k hk => ?_, ?_⟩
  · refine foldl_gives (P := State.WholeAgain) (fun u m => ?_) (fun u m k hk h => ?_) l s (.inr hm)
    · unfold State.WholeAgain
      rw [u.wholeOne_self m]
      exact ⟨rfl, rfl, rfl, rfl⟩
    · unfold State.WholeAgain
      rw [u.wholeOne_other m hk]
      exact h
  · refine foldl_keeps (fun u : State => (u.twin m).lead) _ _ (fun u j _ => ?_) s
    by_cases h : m = j
    · rw [h, u.wholeOne_self j]
      rfl
    · rw [u.wholeOne_other j h]
  · refine foldl_pointwise State.graftView State.wholeOne (fun _ v => (v.2.1, [], bumpAt v.2.2 1 1)) (fun _ => True)
      (fun _ _ _ => trivial) (fun u j _ => ?_) (fun u j k hk => ?_) hl trivial hm
    · unfold State.graftView
      rw [u.wholeOne_self j]
      rfl
    · unfold State.graftView
      rw [u.wholeOne_other j hk]
  · exact foldl_keeps (fun u : State => u.twin k) _ _ (fun u j hj => u.wholeOne_other j fun h => hk (h ▸ hj)) s
  · exact foldl_keeps (fun u : State => u.str.slots) _ _ (fun u j _ => u.wholeOne_slots j) s

/-- A failed probation is counted (R257). -/
def State.failOne (s : State) (m : Nat) : State :=
  (s.countTwin m 2).modTwin m (fun w => { w with tries := w.tries + 1 })

/-- How often a twin's probations failed, and its counts. -/
def State.failView (s : State) (m : Nat) : Nat × List Nat := ((s.twin m).tries, (s.twin m).counts)

section
variable (s : State) (m : Nat)

theorem State.failOne_twin (k : Nat) : (s.failOne m).twin k =
    if k = m then { s.twin m with tries := (s.twin m).tries + 1, counts := bumpAt (s.twin m).counts 2 1 } else s.twin k := by
  unfold State.failOne
  rw [State.twin_modTwin]
  unfold State.countTwin
  split
  · rw [State.twin_modTwin, if_pos rfl]
  · next h => rw [State.twin_modTwin, if_neg h]

end

theorem State.failAll_spec (l : List Nat) (s : State) :
    (∀ m, ((l.foldl State.failOne s).twin m).lead = (s.twin m).lead) ∧
    (l.Nodup → ∀ m ∈ l, (l.foldl State.failOne s).failView m =
      ((s.twin m).tries + 1, bumpAt (s.twin m).counts 2 1)) ∧
    (∀ n, (l.foldl State.failOne s).ladder n = s.ladder n) := by
  refine ⟨fun m => ?_, fun hl m hm => ?_, fun n => ?_⟩
  · refine foldl_keeps (fun u : State => (u.twin m).lead) _ _ (fun u j _ => ?_) s
    rw [u.failOne_twin]
    split
    · next h => rw [h]
    · rfl
  · refine foldl_pointwise State.failView State.failOne (fun _ v => (v.1 + 1, bumpAt v.2 2 1)) (fun _ => True)
      (fun _ _ _ => trivial) (fun u j _ => ?_) (fun u j k hk => ?_) hl trivial hm
    · unfold State.failView
      rw [u.failOne_twin, if_pos rfl]
    · unfold State.failView
      rw [u.failOne_twin, if_neg hk]
  · exact foldl_keeps (fun u : State => u.ladder n) State.failOne l (fun u j _ => rfl) s

/-- A tier gives its scion back (Table 14.2, R257). -/
def State.dropScion (side : List Nat) (s : State) (m : Nat) : State :=
  let s := side.foldl (fun (s : State) b => s.unassign b m) s
  let s := s.modTwin m (fun w => { w with scion := [], probation := none, cuttingAt := 0, transplantAt := 0,
                                          transplanted := none, loaded := none,
                                          open_ := w.open_.filter (fun o => !o.released && !decide (o.copy.bed ∈ side)) })
  ((s.unhold m).keepRegions m ((s.twin m).lead ++ (s.twin m).partner)).setTwin m .single

theorem State.returnScion_eq (s : State) (n : Nat) : s.returnScion n =
    (s.twin n).scion.foldl (fun (s : State) b => s.bedBack b) ((s.ladder n).foldl (State.dropScion (s.twin n).scion) s) := rfl

theorem State.sameStreams_soilTest (s : State) (b : Nat) : SameStreams s (s.soilTest b) := by
  unfold State.soilTest State.soilStart
  split
  · exact SameStreams.trans (u := s.countSoil 0) ⟨rfl, rfl⟩ (State.sameStreams_setBed _ b .soilTest)
  · exact .refl s

theorem State.sameStreams_bedBack (s : State) (b : Nat) : SameStreams s (s.bedBack b) := by
  unfold State.bedBack
  exact (s.sameStreams_modBed b _).trans ((State.sameStreams_soilIdle _ b).trans (State.sameStreams_soilTest _ b))

theorem State.twins_keepRegions (s : State) (n : Nat) (l : List Nat) : (s.keepRegions n l).str.twins = s.str.twins := by
  unfold State.keepRegions
  exact (State.refence_leaves _ n).1

theorem State.dropScion_twin (side : List Nat) (s : State) (m k : Nat) : (s.dropScion side m).twin k =
    if k = m then { s.twin m with
      st := .single, scion := [], probation := none, cuttingAt := 0, transplantAt := 0, transplanted := none, loaded := none,
      open_ := (s.twin m).open_.filter (fun o => !o.released && !decide (o.copy.bed ∈ side)) } else s.twin k := by
  unfold State.dropScion
  dsimp only
  have hsame := SameStreams.foldl (fun u b => u.sameStreams_unassign b m) side s
  generalize side.foldl (fun (s : State) b => s.unassign b m) s = u at hsame
  generalize hv : u.modTwin m _ = v
  have hregions : ∀ j, ((v.unhold m).keepRegions m ((v.twin m).lead ++ (v.twin m).partner)).twin j = v.twin j := fun j => by
    refine congrArg (fun l => tget (fun _ => ({} : Twin)) l j) ((State.twins_keepRegions ..).trans ?_)
    rfl
  generalize (v.unhold m).keepRegions m ((v.twin m).lead ++ (v.twin m).partner) = w at hregions
  split
  · next h =>
    rw [h, State.setTwin_twin, hregions, ← hv, State.twin_modTwin, if_pos rfl, hsame.twin]
  · next h =>
    rw [State.setTwin_other _ _ h, hregions, ← hv, State.twin_modTwin, if_neg h, hsame.twin]

/-- What a scion that is given back leaves of the twins. -/
theorem State.returnScion_spec (s : State) (n : Nat) :
    (∀ m ∈ s.ladder n, ((s.returnScion n).twin m).st = .single ∧ ((s.returnScion n).twin m).scion = []) ∧
    (∀ m, ((s.returnScion n).twin m).lead = (s.twin m).lead ∧ (s.returnScion n).failView m = s.failView m) := by
  rw [State.returnScion_eq]
  generalize (s.twin n).scion = side
  have hback := SameStreams.foldl (fun u b => u.sameStreams_bedBack b) side ((s.ladder n).foldl (State.dropScion side) s)
  generalize hz : side.foldl (fun (s : State) b => s.bedBack b) ((s.ladder n).foldl (State.dropScion side) s) = z at hback
  refine ⟨fun m hm => ?_, fun m => ?_⟩
  · rw [hback.twin]
    refine foldl_gives (P := fun (u : State) m => (u.twin m).st = .single ∧ (u.twin m).scion = []) (fun u j => ?_)
      (fun u j k hk h => ?_) (s.ladder n) s (.inr hm)
    · rw [State.dropScion_twin, if_pos rfl]
      exact ⟨rfl, rfl⟩
    · rw [State.dropScion_twin, if_neg hk]
      exact h
  · unfold State.failView
    rw [hback.twin]
    refine Prod.mk.inj (foldl_keeps (fun u : State => ((u.twin m).lead, ((u.twin m).tries, (u.twin m).counts))) _ _
      (fun u j _ => ?_) s)
    rw [State.dropScion_twin]
    split
    · next h => rw [h]
    · rfl

section
variable {s : State} {n : Nat}

theorem State.probationEnd_idle (h : (s.twin n).st ≠ .probation ∨ (s.slot n).role = 2) : s.probationEnd n = s := by
  refine if_pos ?_
  simp only [Bool.or_eq_true, decide_eq_true_eq]
  exact h

/-- What a bad probation does before its count is judged (R257). -/
def State.probationFailed (s : State) (n : Nat) : State := ((s.ladder n).foldl State.failOne s).returnScion n

theorem State.probationEnd_due (hst : (s.twin n).st = .probation) (hr : (s.slot n).role ≠ 2) : s.probationEnd n =
    if (s.ladder n).all (fun m => !(s.twin m).probationBad && !(s.twin m).unmatched) then
      (s.ladder n).foldl State.wholeOne s
    else if (s.probationFailed n).cfgN 0x24 0x2000 0x03 ≤ ((s.probationFailed n).twin n).tries then
      (s.probationFailed n).recordRaise (256 * bedDie ((s.twin n).lead.headD 0) + ((s.twin n).lead.headD 0) % 36)
    else s.probationFailed n := by
  refine if_neg ?_
  simp only [Bool.or_eq_true, decide_eq_true_eq]
  tauto

end

/-! ## Cuttings (R242) -/

/-- A comparison of the cuttings is due (R242). -/
def State.cuttingDue (s : State) (n : Nat) : Prop :=
  if (s.slot n).kind = 2 then (s.slot n).pictures % 64 = 0
  else s.cfgN 0x24 0x2000 0x04 ≠ 0 ∧ s.cfgN 0x24 0x2000 0x04 ≤ (s.twin n).phase0s

theorem State.cuttingDue_iff (s : State) (n : Nat) : (if (s.slot n).kind = 2 then decide ((s.slot n).pictures % 64 = 0) else
    decide (s.cfgN 0x24 0x2000 0x04 ≠ 0) && decide (s.cfgN 0x24 0x2000 0x04 ≤ (s.twin n).phase0s)) = true ↔ s.cuttingDue n := by
  unfold State.cuttingDue
  split
  · exact decide_eq_true_iff
  · rw [Bool.and_eq_true, decide_eq_true_eq, decide_eq_true_eq]

/-- What a comparison that is due leaves of the twin. -/
def Twin.compared (w : Twin) (pictures : Nat) (live other : Bool) : Twin :=
  { w with phase0s := 0, counts := if other then bumpAt w.counts 6 1 else w.counts,
           contestAt := if live then some pictures else w.contestAt }

section
variable {s : State} {n : Nat} {live other : Bool}

theorem State.cuttingCompare_idle (h : s.shedLive = false ∨ ¬ s.cuttingDue n ∨ (s.twin n).partner = []) :
    s.cuttingCompare n live other = s := by
  refine if_pos ?_
  rw [Bool.or_eq_true, Bool.or_eq_true, Bool.not_eq_true', Bool.not_eq_true', List.isEmpty_iff]
  rw [← s.cuttingDue_iff n, Bool.not_eq_true] at h
  tauto

theorem State.cuttingCompare_due (hl : s.shedLive = true) (hd : s.cuttingDue n) (hp : (s.twin n).partner ≠ []) :
    (s.cuttingCompare n live other).twin n = (s.twin n).compared (s.slot n).pictures live other ∧
    (∀ k, k ≠ n → (s.cuttingCompare n live other).twin k = s.twin k) ∧
    s.cuttingCompare n live other = { s with str := (s.cuttingCompare n live other).str } := by
  have hrun : s.cuttingCompare n live other =
      (let s := s.modTwin n (fun w => { w with phase0s := 0 })
       let s := if other then s.countTwin n 6 else s
       if live then s.modTwin n (fun w => { w with contestAt := some (s.slot n).pictures }) else s) := by
    refine (if_neg ?_).trans ?_
    · rw [Bool.or_eq_true, Bool.or_eq_true, Bool.not_eq_true', Bool.not_eq_true', List.isEmpty_iff]
      rw [(s.cuttingDue_iff n).2 hd, hl]
      simp [hp]
    · cases other <;> rfl
  rw [hrun]
  unfold State.countTwin Twin.compared
  refine ⟨?_, fun k hk => ?_, ?_⟩
  · cases live <;> cases other <;> simp
    all_goals rfl
  · cases live <;> cases other <;> simp [hk]
  · cases live <;> cases other <;> rfl

end

/-- Settles O29: each step of a graft stream by stream over the ladder. -/
theorem grafts : Obligations.Grafts := by
  unfold Obligations.Grafts
  intro s t n hn
  refine ⟨fun h => ?noScion, fun side hl hst hr hs hlead ht hside => ?scion, fun h bad => ?noTransplant,
    fun hst hr hc => ⟨fun ht => ?waits, fun ht => ?ends, ?bad⟩, fun h => ?noBoundary, fun hst hr hc ht => ?boundary,
    fun h => ?noProbation, fun hst hr hg => ?good, fun hst hr hb => ?failed, fun live other => ⟨fun h => ?noCompare,
    fun hl hd hp => ?compare⟩⟩
  case noScion => exact (exec_scionChoice t s hn).trans (congrArg _ (State.chooseScion_idle (s := s.at t) h))
  case scion =>
    refine ⟨_, (exec_scionChoice t s hn).trans (congrArg _
      (State.chooseScion_takes (s := s.at t) hl hst hr hs hlead ht hside)), fun m hm => ?_⟩
    obtain ⟨hview, hslots⟩ := State.takeScion_spec (s := s.at t) (n := n) side hm
    generalize (s.at t).takeScion n side = u at hview hslots
    have hscion := congrArg (fun p => p.1) hview
    have hlead' := congrArg (fun p => p.2.1) hview
    have hretrial := congrArg (fun p => p.2.2) hview
    exact ⟨hscion, hlead', hretrial, hslots⟩
  case noTransplant =>
    exact (exec_transplantEnd t s hn bad).trans (congrArg _ (State.transplantDone_idle (s := s.at t) h bad))
  case waits =>
    exact (exec_transplantEnd t s hn false).trans
      (congrArg _ ((State.transplantEnd_good (s := s.at t) hst hr hc).trans (if_pos ht)))
  case ends =>
    obtain ⟨htwin, hslots, hframe⟩ := State.transplantAll_spec ((s.at t).nextBoundary n) ((s.at t).ladder n) (s.at t)
    exact ⟨_, (exec_transplantEnd t s hn false).trans (congrArg _
      ((State.transplantEnd_good (s := s.at t) hst hr hc).trans (if_neg (Nat.not_lt.2 ht)))), htwin, hslots, hframe⟩
  case bad =>
    exact (exec_transplantEnd t s hn true).trans (congrArg _ (State.transplantDone_bad (s := s.at t) hst hr hc))
  case noBoundary => exact (exec_cuttingBoundary t s hn).trans (congrArg _ (State.cuttingBoundary_idle (s := s.at t) h))
  case boundary =>
    obtain ⟨hself, hpic, hother⟩ := State.cutAll_spec (s.twin n).cuttingAt ((s.at t).ladder n) (s.at t)
    refine ⟨_, (exec_cuttingBoundary t s hn).trans (congrArg _ (State.cuttingBoundary_due (s := s.at t) hst hr hc ht)),
      fun m hm => ?_, hother⟩
    obtain ⟨hst', hprob, hbad, hloaded⟩ := hself m hm
    rw [hpic m] at hprob
    exact ⟨hst', hprob, hbad, hloaded⟩
  case noProbation => exact (exec_probationEnd t s hn).trans (congrArg _ (State.probationEnd_idle (s := s.at t) h))
  case good =>
    obtain ⟨hself, hlead, hview, hother, hslots⟩ := State.wholeAll_spec ((s.at t).ladder n) (s.at t)
    have hall : ((s.at t).ladder n).all (fun m => !((s.at t).twin m).probationBad && !((s.at t).twin m).unmatched) = true := by
      rw [List.all_eq_true]
      intro m hm
      obtain ⟨hbad, hun⟩ := hg m hm
      rw [State.twin_at, hbad, hun]
      rfl
    refine ⟨_, (exec_probationEnd t s hn).trans (congrArg _
      ((State.probationEnd_due (s := s.at t) hst hr).trans (if_pos hall))), fun m hm => ?_, hother, hslots⟩
    obtain ⟨hst', hscion, htries, hexp⟩ := hself m hm
    refine ⟨hst', hlead m, hscion, htries, hexp, fun hl => ?_⟩
    have hv := hview hl m hm
    generalize ((s.at t).ladder n).foldl State.wholeOne (s.at t) = u at hv
    have hpartner := congrArg (fun p => p.1) hv
    have hcounts := congrArg (fun p => p.2.2) hv
    exact ⟨hpartner, hcounts⟩
  case failed =>
    obtain ⟨m0, hm0, hbad⟩ := hb
    have hall : ¬ ((s.at t).ladder n).all (fun m => !((s.at t).twin m).probationBad && !((s.at t).twin m).unmatched) = true := by
      rw [List.all_eq_true]
      intro h
      have h0 := h m0 hm0
      rw [Bool.and_eq_true, Bool.not_eq_true', Bool.not_eq_true'] at h0
      rcases hbad with hbad | hbad
      · exact Bool.false_ne_true (h0.1.symm.trans hbad)
      · exact Bool.false_ne_true (h0.2.symm.trans hbad)
    obtain ⟨hlead, hview, hladder⟩ := State.failAll_spec ((s.at t).ladder n) (s.at t)
    have hrun := (State.probationEnd_due (s := s.at t) hst hr).trans (if_neg hall)
    have hspec := (((s.at t).ladder n).foldl State.failOne (s.at t)).returnScion_spec n
    rw [hladder n] at hspec
    have hfailed : (s.at t).probationFailed n = (((s.at t).ladder n).foldl State.failOne (s.at t)).returnScion n := rfl
    rw [← hfailed] at hspec
    generalize (s.at t).probationFailed n = u at hrun hspec
    have htwin : ∀ m, ((s.at t).probationEnd n).twin m = u.twin m := fun m => by
      rw [hrun]
      split
      · rw [State.twin_recordRaise]
      · rfl
    refine ⟨_, exec_probationEnd t s hn, fun m hm => ?_⟩
    obtain ⟨hst', hscion⟩ := hspec.1 m hm
    obtain ⟨hlead', hfail⟩ := hspec.2 m
    rw [htwin]
    refine ⟨hst', hlead'.trans (hlead m), hscion, fun hl => ?_⟩
    have hv := hfail.trans (hview hl m hm)
    have htries := congrArg (fun p => p.1) hv
    have hcounts := congrArg (fun p => p.2) hv
    exact ⟨htries, hcounts⟩
  case noCompare =>
    exact (exec_cuttingCompare t s hn live other).trans (congrArg _ (State.cuttingCompare_idle (s := s.at t) h))
  case compare =>
    obtain ⟨hself, hother, hframe⟩ := State.cuttingCompare_due (s := s.at t) (live := live) (other := other) hl hd hp
    exact ⟨_, exec_cuttingCompare t s hn live other, hself, hother, hframe⟩

end Sys2Proof.Machine
end

section
/-! PROOFS. Copies of release units at a Sieve instance (R240, R243, R244, R248, R256). -/

namespace Sys2Proof.Machine

theorem exec_sieveCopyArrive {die : Nat} (t : Nat) {c : UnitCopy} (s : State) (hd : die < 2) (hn : c.slot < 8192)
    (hb : c.bed < 288) : exec (.sieveCopyArrive t die c) s = .next ((s.at t).copyComes die c) :=
  if_pos (by simp [isDie, isSlot, isBed, hd, hn, hb])

theorem exec_sieveWindowClose {die n : Nat} (t p r i : Nat) (s : State) (hd : die < 2) (hn : n < 8192) :
    exec (.sieveWindowClose t die n p r i) s = .next ((s.at t).windowClose die n p r i) :=
  if_pos (by simp [isDie, isSlot, hd, hn])

/-! ## What a release leaves of the twins -/

section
variable (s : State)

theorem State.twins_emitParts (die n row tile length : Nat) (p : Pic) (body : List Part) :
    (s.emitParts die n row tile length p body).str.twins = s.str.twins := by
  unfold State.emitParts
  dsimp only
  split <;> rfl

theorem State.twins_emitUnit (die n row : Nat) (sizes : List Nat) (p : Pic) (last : Bool) :
    (s.emitUnit die n row sizes p last).str.twins = s.str.twins := by
  unfold State.emitUnit
  dsimp only
  split
  · rfl
  split
  · rfl
  · rw [foldl_keeps fun u : State => u.str.twins]
    · rfl
    · intro u j _
      simp only [State.sendOwn_kept ..]
      rfl

theorem State.twins_meterPicture (die n k : Nat) (held : Bool) : (s.meterPicture die n k held).str.twins = s.str.twins := by
  unfold State.meterPicture
  have h (u : State) (f : Slot → Slot) : (u.modSlot n f).str.twins = u.str.twins := rfl
  rw [h]
  simp only [State.meter_kept ..]

end

/-- A twin keeps its state, and every other twin all. -/
structure TwinCalm (s u : State) (n : Nat) : Prop where
  st : (u.twin n).st = (s.twin n).st
  others : ∀ k, k ≠ n → u.twin k = s.twin k

section
variable {s u v : State} {n : Nat}

theorem TwinCalm.refl (s : State) (n : Nat) : TwinCalm s s n := ⟨rfl, fun _ _ => rfl⟩

theorem TwinCalm.trans (h : TwinCalm s u n) (g : TwinCalm u v n) : TwinCalm s v n :=
  ⟨g.st.trans h.st, fun k hk => (g.others k hk).trans (h.others k hk)⟩

theorem TwinCalm.of_twins (h : u.str.twins = s.str.twins) : TwinCalm s u n := by
  have htwin (k : Nat) : u.twin k = s.twin k := congrArg (fun l => tget (fun _ => ({} : Twin)) l k) h
  exact ⟨by rw [htwin], fun k _ => htwin k⟩

theorem TwinCalm.modTwin (s : State) {f : Twin → Twin} (h : (f (s.twin n)).st = (s.twin n).st) :
    TwinCalm s (s.modTwin n f) n := by
  refine ⟨?_, fun k hk => ?_⟩
  · rw [State.twin_modTwin, if_pos rfl]
    exact h
  · rw [State.twin_modTwin, if_neg hk]

theorem TwinCalm.setExcused (s : State) (n : Nat) (b : Option Nat) : TwinCalm s (s.setExcused n b) n := by
  unfold State.setExcused
  dsimp only
  have hmod := TwinCalm.modTwin (n := n) s (f := fun w => { w with excused := b, excusedAt := s.now }) rfl
  split
  · exact hmod
  · exact hmod.trans (.of_twins (by simp only [State.raise_kept ..]))

theorem TwinCalm.portFree (s : State) (n : Nat) (x : UnitCopy) (beds : List Nat) : TwinCalm s (s.portFree x beds) n := by
  refine .of_twins ?_
  unfold State.portFree
  refine foldl_keeps (fun u : State => u.str.twins) _ _ (fun u b _ => ?_) s
  rfl

theorem TwinCalm.releaseUnit (s : State) (die : Nat) {x : UnitCopy} (h : x.slot = n) :
    TwinCalm s (s.releaseUnit die x) n := by
  subst h
  unfold State.releaseUnit
  dsimp only
  generalize hw : (s.emit _).setNext die x.slot _ = w
  have hcalm : TwinCalm s w x.slot := by
    rw [← hw]
    exact TwinCalm.trans (u := s.emit _) ⟨rfl, fun _ _ => rfl⟩ (TwinCalm.modTwin _ (by split <;> rfl))
  refine hcalm.trans (.of_twins ?_)
  split
  · rfl
  split
  · rfl
  · split
    · rw [State.twins_meterPicture, State.twins_emitUnit, State.twins_emitParts]
    · rw [State.twins_emitUnit, State.twins_emitParts]

theorem TwinCalm.decide_ (s : State) (die : Nat) {x : UnitCopy} (h : x.slot = n) (beds : List Nat) :
    TwinCalm s (s.decide_ die x beds) n := by
  subst h
  unfold State.decide_
  split
  · exact .refl s _
  · dsimp only
    have hmod := TwinCalm.modTwin (n := x.slot) s (f := fun w =>
      { w with decided := (die, x.picture, x.row, x.tile) :: w.decided.filter (fun d => decide (x.picture < d.2.1 + 2)) }) rfl
    split
    · exact hmod.trans (.portFree _ _ x beds)
    · exact hmod

theorem TwinCalm.release_ (s : State) (die : Nat) {x : UnitCopy} (h : x.slot = n) (beds : List Nat) :
    TwinCalm s (s.release_ die x beds) n := (TwinCalm.decide_ s die h beds).trans (.releaseUnit _ die h)

theorem TwinCalm.closeUnit (s : State) (die : Nat) {x : UnitCopy} (h : x.slot = n) : TwinCalm s (s.closeUnit die x) n := by
  subst h
  exact .modTwin s rfl

theorem TwinCalm.countTwin (s : State) (n i : Nat) : TwinCalm s (s.countTwin n i) n := .modTwin s rfl

/-- A difference with no flag contests a whole twin (R245). -/
theorem State.startContest_whole {a x : UnitCopy} (ha : a.slot = n) (hst : (s.twin n).st = .whole) :
    ((s.startContest a x).twin n).st = .contested ∧ ((s.startContest a x).twin n).contest.isSome = true ∧
    (∀ k, k ≠ n → (s.startContest a x).twin k = s.twin k) := by
  subst ha
  unfold State.startContest
  dsimp only
  rw [if_neg (not_not.2 hst)]
  generalize hw : (s.countTwin a.slot 5).modTwin a.slot _ = w
  have hself : (w.twin a.slot).contest.isSome = true := by
    rw [← hw, State.twin_modTwin, if_pos rfl]
    rfl
  have hother : ∀ k, k ≠ a.slot → w.twin k = s.twin k := fun k hk => by
    rw [← hw, State.twin_modTwin, if_neg hk]
    exact (TwinCalm.countTwin s a.slot 5).others k hk
  rw [State.setTwin_twin]
  exact ⟨rfl, hself, fun k hk => (w.setTwin_other _ hk).trans (hother k hk)⟩

end

/-! ## A copy on its way to an instance -/

/-- A copy with the flag that its bed's own self-checks have set on it (R130). -/
def State.copySeen (s : State) (c : UnitCopy) : UnitCopy :=
  { c with flagged := c.flagged || decide ((c.slot, c.picture, c.row, c.tile) ∈ (s.bed c.bed).flagged) }

/-- The copy leaves its die (R240). -/
def State.copySent (s : State) (t die : Nat) (c : UnitCopy) : State :=
  (s.at t).emit (.copy t die (unitHeader (s.copySeen c)))

/-- A port reads a unit of its FIFO. -/
def Bed.readUnit (x : Bed) (n : Nat) : Bed :=
  { x with fifo := (if x.fifo.mark.isNone then x.fifo.setMark else x.fifo).readOn n }

/-- The first instance of a stream reads the unit from the port's FIFO (R240). -/
def State.copyRead (s : State) (t die : Nat) (c : UnitCopy) : State :=
  if (s.instances c.slot).head? = some die then
    (s.copySent t die c).modBed c.bed (fun y => y.readUnit (unitBytes (s.copySeen c)))
  else s.copySent t die c

section
variable {s : State} {t die : Nat} {c : UnitCopy}

theorem State.copyComes_waits (h : s.tileWaits c = true) : (s.at t).copyComes die c = s.at t := if_pos h

theorem State.copyComes_held (h : s.tileWaits c = false) (hl : s.linkHolds (bedDie c.bed) (8 + die) = true) :
    (s.at t).copyComes die c = (s.at t).hold (bedDie c.bed) (8 + die) (.copy die c) :=
  (if_neg (fun hw => Bool.false_ne_true (h.symm.trans hw))).trans (if_pos hl)

theorem State.copyComes_sent (h : s.tileWaits c = false) (hl : s.linkHolds (bedDie c.bed) (8 + die) = false) :
    (s.at t).copyComes die c = (s.copySent t die c).copyArrive die (s.copySeen c) :=
  (if_neg (fun hw => Bool.false_ne_true (h.symm.trans hw))).trans
    (if_neg (fun hw => Bool.false_ne_true (hl.symm.trans hw)))

theorem State.instances_copySent (n : Nat) : (s.copySent t die c).instances n = s.instances n := rfl

theorem State.instances_copyRead (n : Nat) : (s.copyRead t die c).instances n = s.instances n := by
  unfold State.copyRead
  split <;> rfl

/-- What a copy does at an instance, in the order of R243 and Table 09.4. -/
def State.copyJudged (s : State) (t die : Nat) (c : UnitCopy) : State :=
  let v := s.copyRead t die c
  let x := s.copySeen c
  let w := s.twin c.slot
  if !c.crcOk then
    ((v.modTwin c.slot (fun w => { w with resends := inc64 w.resends })).modBed c.bed (fun y =>
      { y with fifo := y.fifo.rewind })).logFault (0xF00 + 16 * bedDie c.bed + 3)
  else if c.retrial then v.vote x
  else if (die, c.bed) ∈ w.requested then v.modTwin c.slot (fun w => { w with lateCopies := inc64 w.lateCopies })
  else if c.bed ∈ w.scion ∧ !w.retrial then v.scionCopy die x
  else if !decide (c.bed ∈ w.lead ++ w.partner) then v
  else if w.st = .holding then (if (s.instances c.slot).getLast? = some die then v.portFree x [c.bed] else v)
  else if w.partner.isEmpty then (if w.isDecided die c then v else v.singleCopy die x)
  else v.memberCopy die x

theorem State.copyArrive_away (hi : s.instanceOn die c.slot = false) :
    (s.copySent t die c).copyArrive die (s.copySeen c) = s.copySent t die c := by
  refine if_pos ?_
  have h : (s.copySent t die c).instanceOn die c.slot = s.instanceOn die c.slot := rfl
  exact (congrArg not (h.trans hi)).trans rfl

theorem State.copyArrive_here (hi : s.instanceOn die c.slot = true) :
    (s.copySent t die c).copyArrive die (s.copySeen c) = s.copyJudged t die c := by
  have hon : ¬ (!(s.copySent t die c).instanceOn die c.slot) = true := by
    have h : (s.copySent t die c).instanceOn die c.slot = s.instanceOn die c.slot := rfl
    rw [h, hi]
    exact Bool.false_ne_true
  refine (if_neg hon).trans ?_
  unfold State.copyJudged
  rw [← State.instances_copyRead (s := s) (t := t) (die := die) (c := c) c.slot]
  rfl

theorem State.copyRead_leaves : (∀ k, (s.copyRead t die c).twin k = s.twin k) ∧
    (∀ k, k ≠ c.bed → (s.copyRead t die c).bed k = s.bed k) ∧ (s.copyRead t die c).now = t ∧
    (s.copyRead t die c).str.slots = s.str.slots ∧
    s.copyRead t die c = { s with now := t, str := (s.copyRead t die c).str, emits := (s.copyRead t die c).emits } := by
  unfold State.copyRead
  split
  · exact ⟨fun _ => rfl, fun k hk => (State.bed_modBed ..).trans (if_neg hk), rfl, rfl, rfl⟩
  · exact ⟨fun _ => rfl, fun _ _ => rfl, rfl, rfl, rfl⟩

section
variable (hc : c.crcOk = true) (hr : c.retrial = false) (hq : (die, c.bed) ∉ (s.twin c.slot).requested)
include hc

theorem State.copyJudged_vote (h : c.retrial = true) : s.copyJudged t die c = (s.copyRead t die c).vote (s.copySeen c) := by
  unfold State.copyJudged
  dsimp only
  rw [hc, h]
  rfl

include hr

theorem State.copyJudged_late (h : (die, c.bed) ∈ (s.twin c.slot).requested) : s.copyJudged t die c =
    (s.copyRead t die c).modTwin c.slot (fun w => { w with lateCopies := inc64 w.lateCopies }) := by
  unfold State.copyJudged
  dsimp only
  rw [hc, hr, if_neg (by decide), if_neg Bool.false_ne_true, if_pos h]

include hq

theorem State.copyJudged_good : s.copyJudged t die c =
    (let v := s.copyRead t die c
     let w := s.twin c.slot
     if c.bed ∈ w.scion ∧ !w.retrial then v.scionCopy die (s.copySeen c)
     else if !decide (c.bed ∈ w.lead ++ w.partner) then v
     else if w.st = .holding then
       (if (s.instances c.slot).getLast? = some die then v.portFree (s.copySeen c) [c.bed] else v)
     else if w.partner.isEmpty then (if w.isDecided die c then v else v.singleCopy die (s.copySeen c))
     else v.memberCopy die (s.copySeen c)) := by
  unfold State.copyJudged
  dsimp only
  rw [hc, hr, if_neg (by decide), if_neg Bool.false_ne_true, if_neg hq]

theorem State.copyJudged_scion (hs : c.bed ∈ (s.twin c.slot).scion) (hv : (s.twin c.slot).retrial = false) :
    s.copyJudged t die c = (s.copyRead t die c).scionCopy die (s.copySeen c) :=
  (State.copyJudged_good hc hr hq).trans (if_pos ⟨hs, by rw [hv]; rfl⟩)

variable (hs : c.bed ∉ (s.twin c.slot).scion ∨ (s.twin c.slot).retrial = true)
include hs

theorem State.copyJudged_stranger (hm : c.bed ∉ (s.twin c.slot).lead ++ (s.twin c.slot).partner) :
    s.copyJudged t die c = s.copyRead t die c := by
  refine (State.copyJudged_good hc hr hq).trans ((if_neg fun h => ?_).trans (if_pos (by rw [decide_eq_false hm]; rfl)))
  rcases hs with hs | hs
  · exact hs h.1
  · rw [hs] at h
    exact Bool.false_ne_true h.2

variable (hm : c.bed ∈ (s.twin c.slot).lead ++ (s.twin c.slot).partner)
include hm

theorem State.copyJudged_member : s.copyJudged t die c =
    (let v := s.copyRead t die c
     let w := s.twin c.slot
     if w.st = .holding then
       (if (s.instances c.slot).getLast? = some die then v.portFree (s.copySeen c) [c.bed] else v)
     else if w.partner.isEmpty then (if w.isDecided die c then v else v.singleCopy die (s.copySeen c))
     else v.memberCopy die (s.copySeen c)) := by
  refine (State.copyJudged_good hc hr hq).trans ((if_neg fun h => ?_).trans
    (if_neg (by rw [decide_eq_true hm]; exact Bool.false_ne_true)))
  rcases hs with hs | hs
  · exact hs h.1
  · rw [hs] at h
    exact Bool.false_ne_true h.2

theorem State.copyJudged_holding (h : (s.twin c.slot).st = .holding) : s.copyJudged t die c =
    if (s.instances c.slot).getLast? = some die then (s.copyRead t die c).portFree (s.copySeen c) [c.bed]
    else s.copyRead t die c := (State.copyJudged_member hc hr hq hs hm).trans (if_pos h)

variable (hh : (s.twin c.slot).st ≠ .holding)
include hh

theorem State.copyJudged_single (h : (s.twin c.slot).partner = []) : s.copyJudged t die c =
    if (s.twin c.slot).isDecided die c then s.copyRead t die c else (s.copyRead t die c).singleCopy die (s.copySeen c) :=
  (State.copyJudged_member hc hr hq hs hm).trans ((if_neg hh).trans (if_pos (List.isEmpty_iff.2 h)))

theorem State.copyJudged_two (h : (s.twin c.slot).partner ≠ []) : s.copyJudged t die c =
    (s.copyRead t die c).memberCopy die (s.copySeen c) :=
  (State.copyJudged_member hc hr hq hs hm).trans ((if_neg hh).trans (if_neg (fun he => h (List.isEmpty_iff.1 he))))

end

end

/-! ## The copies of a twin of two -/

section
variable {s : State} {die : Nat} {x : UnitCopy}

theorem State.memberCopy_first (h : (s.twin x.slot).openCopy die x = none) : s.memberCopy die x =
    if (s.twin x.slot).isDecided die x then s
    else if (s.twin x.slot).givenUp die x.bed then (if x.flagged then s.doubleFault x.slot else s.release_ die x [x.bed])
    else if (s.twin x.slot).excused.isSome && !(s.twin x.slot).isExcused x.bed && !x.flagged then
      (s.release_ die x [x.bed]).openUnit die x true
    else s.openUnit die x false := by
  unfold State.memberCopy
  dsimp only
  rw [h]

theorem State.memberCopy_second {o : OpenUnit} (h : (s.twin x.slot).openCopy die x = some o) : s.memberCopy die x =
    if o.copy.bed = x.bed then s else s.decidePair die o x := by
  unfold State.memberCopy
  dsimp only
  rw [h]

theorem openCopy_slot {w : Twin} {o : OpenUnit} (h : w.openCopy die x = some o) : o.copy.slot = x.slot := by
  have hsame := List.find?_some h
  rw [Bool.and_eq_true] at hsame
  exact congrArg Prod.fst (of_decide_eq_true hsame.2)

end

/-- The unit of two copies is no longer open, and an excuse that is over ends (R248). -/
def State.pairShut (s : State) (die t : Nat) (w : Twin) (o : OpenUnit) (x : UnitCopy) : State :=
  if (w.isExcused o.copy.bed || w.isExcused x.bed) && decide (t ≤ o.t + 12000) then (s.closeUnit die x).setExcused x.slot none
  else s.closeUnit die x

/-- One of two copies is released, or freed where the first one was (R243). -/
def State.pairFree (s : State) (die : Nat) (o : OpenUnit) (x z : UnitCopy) : State :=
  if o.released then s.portFree z [x.bed] else s.release_ die z [o.copy.bed, x.bed]

/-- A difference with no flag is counted and contested, and the lead's copy released (R243, R245). -/
def State.pairDiffers (s : State) (die : Nat) (w : Twin) (o : OpenUnit) (x : UnitCopy) : State :=
  ((if s.firstDecision x && !o.released then s.countTwin x.slot 4 else s).pairFree die o x
    (if o.released then o.copy else if o.copy.bed ∈ w.lead then o.copy else x)).startContest o.copy x

theorem State.decidePair_eq (s : State) (die : Nat) (o : OpenUnit) (x : UnitCopy) : s.decidePair die o x =
    (let w := s.twin x.slot
     let y := s.pairShut die s.now w o x
     if o.copy.flagged && x.flagged then y.doubleFault x.slot
     else if o.copy.flagged then (y.release_ die x [o.copy.bed, x.bed]).askPrune die x.slot o.copy.bed
     else if x.flagged then (y.pairFree die o x o.copy).askPrune die x.slot x.bed
     else if copiesMatch o.copy x && !decide (w.contestAt = some x.picture ∧ x.row = 0 ∧ x.tile = 0) then
       y.pairFree die o x o.copy
     else y.pairDiffers die w o x) := rfl

section
variable {s : State} {n die : Nat} {o : OpenUnit} {x : UnitCopy}

theorem TwinCalm.pairShut (s : State) (die t : Nat) (w : Twin) (o : OpenUnit) (h : x.slot = n) :
    TwinCalm s (s.pairShut die t w o x) n := by
  subst h
  unfold State.pairShut
  split
  · exact (TwinCalm.closeUnit s die rfl).trans (.setExcused _ _ none)
  · exact .closeUnit s die rfl

theorem TwinCalm.pairFree (s : State) (die : Nat) (o : OpenUnit) (x : UnitCopy) {z : UnitCopy} (h : z.slot = n) :
    TwinCalm s (s.pairFree die o x z) n := by
  unfold State.pairFree
  split
  · exact .portFree s n z _
  · exact .release_ s die h _

/-- A difference contests a whole twin. -/
theorem State.pairDiffers_whole (w : Twin) (ha : o.copy.slot = n) (hx : x.slot = n) (hst : (s.twin n).st = .whole) :
    ((s.pairDiffers die w o x).twin n).st = .contested ∧ ((s.pairDiffers die w o x).twin n).contest.isSome = true ∧
    (∀ k, k ≠ n → (s.pairDiffers die w o x).twin k = s.twin k) := by
  have hz : (if o.released then o.copy else if o.copy.bed ∈ w.lead then o.copy else x).slot = n := by
    split
    · exact ha
    · split
      · exact ha
      · exact hx
  unfold State.pairDiffers
  generalize (if o.released then o.copy else if o.copy.bed ∈ w.lead then o.copy else x) = z at hz ⊢
  have hcount : TwinCalm s (if s.firstDecision x && !o.released then s.countTwin x.slot 4 else s) n := by
    split
    · exact hx ▸ .countTwin s x.slot 4
    · exact .refl s n
  generalize (if s.firstDecision x && !o.released then s.countTwin x.slot 4 else s) = y at hcount ⊢
  have hcalm := hcount.trans (.pairFree y die o x hz)
  generalize y.pairFree die o x z = u at hcalm ⊢
  obtain ⟨hc, hcontest, hother⟩ := State.startContest_whole (s := u) (x := x) ha (hcalm.st.trans hst)
  exact ⟨hc, hcontest, fun k hk => (hother k hk).trans (hcalm.others k hk)⟩

end

/-! ## Hold windows -/

/-- The unit that a hold window is of. -/
def Twin.windowUnit (w : Twin) (die p r i : Nat) : Option OpenUnit :=
  w.open_.find? (fun o => decide ((o.die, o.copy.picture, o.copy.row, o.copy.tile) = (die, p, r, i)))

section
variable {s : State} {die n p r i : Nat} {o : OpenUnit}

theorem State.windowClose_none (h : (s.twin n).windowUnit die p r i = none) : s.windowClose die n p r i = s := by
  unfold State.windowClose
  unfold Twin.windowUnit at h
  dsimp only
  rw [h]

theorem State.windowClose_some (h : (s.twin n).windowUnit die p r i = some o) : s.windowClose die n p r i =
    if o.released || decide (s.now < o.t + 12000) || decide (o.copy.bed ∈ (s.twin n).scion) || (s.twin n).partner.isEmpty
      then s
    else if o.copy.flagged then s.doubleFault n
    else
      let other := if o.copy.bed ∈ (s.twin n).lead then (s.twin n).partner else (s.twin n).lead
      let y := if s.firstDecision o.copy then s.countTwin n 3 else s
      ((y.closeUnit die o.copy).release_ die o.copy [o.copy.bed]).askPrune die n (other.headD 0) := by
  unfold State.windowClose
  unfold Twin.windowUnit at h
  dsimp only
  rw [h]

theorem State.windowClose_waits (h : (s.twin n).windowUnit die p r i = some o)
    (hw : o.released = true ∨ s.now < o.t + 12000 ∨ o.copy.bed ∈ (s.twin n).scion ∨ (s.twin n).partner = []) :
    s.windowClose die n p r i = s := by
  refine (State.windowClose_some h).trans (if_pos ?_)
  simp only [Bool.or_eq_true, decide_eq_true_eq, List.isEmpty_iff]
  tauto

theorem State.windowClose_due (h : (s.twin n).windowUnit die p r i = some o) (hr : o.released = false)
    (ht : o.t + 12000 ≤ s.now) (hs : o.copy.bed ∉ (s.twin n).scion) (hp : (s.twin n).partner ≠ []) :
    s.windowClose die n p r i = if o.copy.flagged then s.doubleFault n
    else
      let other := if o.copy.bed ∈ (s.twin n).lead then (s.twin n).partner else (s.twin n).lead
      let y := if s.firstDecision o.copy then s.countTwin n 3 else s
      ((y.closeUnit die o.copy).release_ die o.copy [o.copy.bed]).askPrune die n (other.headD 0) := by
  refine (State.windowClose_some h).trans (if_neg ?_)
  simp only [Bool.or_eq_true, decide_eq_true_eq, List.isEmpty_iff, hr, Bool.false_eq_true, false_or]
  rw [← Nat.not_lt] at ht
  tauto

end

/-! ## What a copy leaves -/

section
variable {s : State} {t die : Nat} {c : UnitCopy}

/-- A copy whose transfer failed is counted and sent again from the mark; it opens nothing (R240). -/
theorem State.copyJudged_bad (hc : c.crcOk = false) :
    (s.copyJudged t die c).twin c.slot = { s.twin c.slot with resends := inc64 (s.twin c.slot).resends } ∧
    (s.copyJudged t die c).str.slots = s.str.slots ∧ (∀ k, k ≠ c.slot → (s.copyJudged t die c).twin k = s.twin k) ∧
    (∀ k, k ≠ c.bed → (s.copyJudged t die c).bed k = s.bed k) := by
  obtain ⟨htwin, hbed, -, hslots, -⟩ := State.copyRead_leaves (s := s) (t := t) (die := die) (c := c)
  have hrun : s.copyJudged t die c = (((s.copyRead t die c).modTwin c.slot (fun w => { w with resends := inc64 w.resends })).modBed
      c.bed (fun y => { y with fifo := y.fifo.rewind })).logFault (0xF00 + 16 * bedDie c.bed + 3) := by
    unfold State.copyJudged
    dsimp only
    rw [hc]
    rfl
  rw [hrun]
  generalize s.copyRead t die c = v at htwin hbed hslots
  have hmod (k : Nat) (u : State) (f : Bed → Bed) : (u.modBed c.bed f).twin k = u.twin k := rfl
  refine ⟨?_, ?_, fun k hk => ?_, fun k hk => ?_⟩
  · rw [State.twin_logFault, hmod, State.twin_modTwin, if_pos rfl, htwin]
  · simp only [State.logFault_kept ..]
    exact hslots
  · rw [State.twin_logFault, hmod, State.twin_modTwin, if_neg hk, htwin]
  · rw [State.bed_logFault, State.bed_modBed, if_neg hk]
    exact hbed k hk

theorem State.copyRead_first (h : (s.twin c.slot).openCopy die c = none) : (s.copyRead t die c).memberCopy die (s.copySeen c) =
    (let v := s.copyRead t die c
     let x := s.copySeen c
     let w := s.twin c.slot
     if w.isDecided die c then v
     else if w.givenUp die c.bed then (if x.flagged then v.doubleFault c.slot else v.release_ die x [c.bed])
     else if w.excused.isSome && !w.isExcused c.bed && !x.flagged then (v.release_ die x [c.bed]).openUnit die x true
     else v.openUnit die x false) := by
  obtain ⟨htwin, -⟩ := State.copyRead_leaves (s := s) (t := t) (die := die) (c := c)
  have hnone : ((s.copyRead t die c).twin (s.copySeen c).slot).openCopy die (s.copySeen c) = none := by
    rw [htwin]
    exact h
  rw [State.memberCopy_first hnone, htwin]
  rfl

theorem State.copyRead_second {o : OpenUnit} (h : (s.twin c.slot).openCopy die c = some o) :
    (s.copyRead t die c).memberCopy die (s.copySeen c) =
    (let v := s.copyRead t die c
     let x := s.copySeen c
     let w := s.twin c.slot
     let y := v.pairShut die t w o x
     if o.copy.bed = c.bed then v
     else if o.copy.flagged && x.flagged then y.doubleFault c.slot
     else if o.copy.flagged then (y.release_ die x [o.copy.bed, c.bed]).askPrune die c.slot o.copy.bed
     else if x.flagged then (y.pairFree die o x o.copy).askPrune die c.slot c.bed
     else if copiesMatch o.copy c && !decide (w.contestAt = some c.picture ∧ c.row = 0 ∧ c.tile = 0) then
       y.pairFree die o x o.copy
     else y.pairDiffers die w o x) := by
  obtain ⟨htwin, -, hnow, -⟩ := State.copyRead_leaves (s := s) (t := t) (die := die) (c := c)
  have hsome : ((s.copyRead t die c).twin (s.copySeen c).slot).openCopy die (s.copySeen c) = some o := by
    rw [htwin]
    exact h
  rw [State.memberCopy_second hsome, State.decidePair_eq, htwin, hnow]
  rfl

end

/-- Settles O27: a copy through what it does at an instance, in the order of Table 09.4. -/
theorem sieveCopies : Obligations.SieveCopies := by
  unfold Obligations.SieveCopies
  intro s t die c hd hn hb
  have hexec := exec_sieveCopyArrive t s hd hn hb
  have hhere : s.tileWaits c = false ∧ s.linkHolds (bedDie c.bed) (8 + die) = false ∧ s.instanceOn die c.slot = true →
      exec (.sieveCopyArrive t die c) s = .next (s.copyJudged t die c) := fun ⟨hw, hl, hi⟩ =>
    hexec.trans (congrArg Host.Outcome.next ((State.copyComes_sent hw hl).trans (State.copyArrive_here hi)))
  obtain ⟨htwin, hbed, hnow, hslots, hframe⟩ := State.copyRead_leaves (s := s) (t := t) (die := die) (c := c)
  have hrun {u : State} (hcomes : s.tileWaits c = false ∧ s.linkHolds (bedDie c.bed) (8 + die) = false ∧
      s.instanceOn die c.slot = true) (h : s.copyJudged t die c = u) : exec (.sieveCopyArrive t die c) s = .next u :=
    (hhere hcomes).trans (congrArg Host.Outcome.next h)
  refine ⟨fun h => ?waits, fun h hl => ?held, fun h hl hi => ?away, fun hcomes hc => ?bad, fun hcomes hc hr => ?vote,
    fun hcomes hc hr hq => ?late, fun ⟨hcomes, hc, hr, hq⟩ hs hv => ?scion, fun ⟨hcomes, hc, hr, hq⟩ hs hm => ?stranger,
    fun ⟨⟨hcomes, hc, hr, hq⟩, hs, hm⟩ hh => ?holding, fun ⟨⟨hcomes, hc, hr, hq⟩, hs, hm⟩ hh hp => ?single,
    fun ⟨⟨⟨hcomes, hc, hr, hq⟩, hs, hm⟩, hh, hp⟩ ho => ?first,
    fun o ⟨⟨⟨hcomes, hc, hr, hq⟩, hs, hm⟩, hh, hp⟩ ho => ?second, fun p r i => ⟨fun h => ?noUnit,
    fun o h => ⟨fun hw => ?windowWaits, fun hr ht hs hp => ⟨fun hf => ?windowFault, fun hf => ?windowDue⟩⟩⟩⟩
  case waits => exact hexec.trans (congrArg Host.Outcome.next (State.copyComes_waits h))
  case held =>
    refine ⟨_, hexec.trans (congrArg Host.Outcome.next (State.copyComes_held h hl)), ?_⟩
    exact State.parts.2 (by simp [State.hold_kept ..])
  case away =>
    exact hexec.trans (congrArg Host.Outcome.next ((State.copyComes_sent h hl).trans (State.copyArrive_away hi)))
  case bad => exact ⟨_, hhere hcomes, State.copyJudged_bad hc⟩
  case vote => exact hrun hcomes (State.copyJudged_vote hc hr)
  case late => exact hrun hcomes (State.copyJudged_late hc hr hq)
  case scion => exact hrun hcomes (State.copyJudged_scion hc hr hq hs hv)
  case stranger => exact hrun hcomes (State.copyJudged_stranger hc hr hq hs hm)
  case holding => exact hrun hcomes (State.copyJudged_holding hc hr hq hs hm hh)
  case single => exact hrun hcomes (State.copyJudged_single hc hr hq hs hm hh hp)
  case first =>
    have hfirst := (State.copyJudged_two (t := t) hc hr hq hs hm hh hp).trans (State.copyRead_first ho)
    refine ⟨fun hd => ?_, fun hd hg => ?_, fun hd hg he hx hf => ?_, fun hd hg hx => ?_⟩
    · exact hrun hcomes (hfirst.trans (if_pos hd))
    · exact hrun hcomes (hfirst.trans ((if_neg (ne_true_of_eq_false hd)).trans (if_pos hg)))
    · refine hrun hcomes (hfirst.trans ((if_neg (ne_true_of_eq_false hd)).trans ((if_neg (ne_true_of_eq_false hg)).trans
        (if_pos ?_))))
      have hf' : (s.copySeen c).flagged = false := hf
      rw [he, hx, hf']
      rfl
    · have hno : ¬ ((s.twin c.slot).excused.isSome && !(s.twin c.slot).isExcused c.bed && !(s.copySeen c).flagged) = true := by
        intro h
        rw [Bool.and_eq_true, Bool.and_eq_true, Bool.not_eq_true', Bool.not_eq_true'] at h
        rcases hx with hx | hx | hx
        · rw [hx] at h
          exact Bool.false_ne_true h.1.1
        · exact Bool.false_ne_true (h.1.2.symm.trans hx)
        · exact Bool.false_ne_true (h.2.symm.trans hx)
      refine ⟨_, hrun hcomes (hfirst.trans ((if_neg (ne_true_of_eq_false hd)).trans
        ((if_neg (ne_true_of_eq_false hg)).trans (if_neg hno)))), ?_, fun k hk => ?_, fun k hk => ?_, ?_, ?_⟩
      · have hslot : c.slot = (s.copySeen c).slot := rfl
        unfold State.openUnit
        rw [State.twin_modTwin, if_pos hslot, htwin, hnow]
        rfl
      · exact (State.twin_modTwin ..).trans ((if_neg hk).trans (htwin k))
      · exact hbed k hk
      · exact hslots
      · exact congrArg (fun v : State => { v with
          str := ((s.copyRead t die c).openUnit die (s.copySeen c) false).str }) hframe
  case second =>
    have hsecond := (State.copyJudged_two (t := t) hc hr hq hs hm hh hp).trans (State.copyRead_second ho)
    refine ⟨fun he => ?_, fun he ha hx => ?_, fun he ha hx => ?_, fun he ha hx => ?_, fun he ha hx => ⟨fun hsame hno => ?_,
      fun hdiff hst => ?_⟩⟩
    · exact hrun hcomes (hsecond.trans (if_pos he))
    · refine hrun hcomes (hsecond.trans ((if_neg he).trans (if_pos ?_)))
      rw [ha]
      exact hx
    · have hx' : (s.copySeen c).flagged = false := hx
      refine hrun hcomes (hsecond.trans ((if_neg he).trans ((if_neg ?_).trans (if_pos ha))))
      rw [hx', Bool.and_false]
      exact Bool.false_ne_true
    · refine hrun hcomes (hsecond.trans ((if_neg he).trans ((if_neg ?_).trans ((if_neg ?_).trans (if_pos hx)))))
      · rw [ha]
        exact Bool.false_ne_true
      · rw [ha]
        exact Bool.false_ne_true
    all_goals
      have hx' : (s.copySeen c).flagged = false := hx
      have hneg : ¬ (o.copy.flagged && (s.copySeen c).flagged) = true := by rw [ha]; exact Bool.false_ne_true
      have hlast := hsecond.trans ((if_neg he).trans ((if_neg hneg).trans ((if_neg (ne_true_of_eq_false ha)).trans
        (if_neg (ne_true_of_eq_false hx')))))
    · refine hrun hcomes (hlast.trans (if_pos ?_))
      have hnot : ¬ ((s.twin c.slot).contestAt = some c.picture ∧ c.row = 0 ∧ c.tile = 0) := by tauto
      rw [hsame, decide_eq_false hnot]
      rfl
    · have hslot : o.copy.slot = c.slot := openCopy_slot ho
      have hcalm : TwinCalm s (s.copyRead t die c) c.slot := ⟨by rw [htwin], fun k _ => htwin k⟩
      have hshut := hcalm.trans (.pairShut _ die t (s.twin c.slot) o (x := s.copySeen c) rfl)
      obtain ⟨hcon, hsome, hother⟩ := State.pairDiffers_whole (die := die) (x := s.copySeen c) (s.twin c.slot) hslot rfl
        (hshut.st.trans hst)
      refine ⟨_, hrun hcomes (hlast.trans (if_neg ?_)), hcon, hsome, fun k hk => (hother k hk).trans (hshut.others k hk)⟩
      rw [Bool.and_eq_true, Bool.not_eq_true', decide_eq_false_iff_not]
      rintro ⟨hmatch, hno⟩
      rcases hdiff with hdiff | hdiff
      · exact Bool.false_ne_true (hdiff.symm.trans hmatch)
      · exact hno hdiff
  case noUnit =>
    exact (exec_sieveWindowClose t p r i s hd hn).trans
      (congrArg Host.Outcome.next (State.windowClose_none (s := s.at t) h))
  case windowWaits =>
    exact (exec_sieveWindowClose t p r i s hd hn).trans
      (congrArg Host.Outcome.next (State.windowClose_waits (s := s.at t) h hw))
  case windowFault =>
    exact (exec_sieveWindowClose t p r i s hd hn).trans
      (congrArg Host.Outcome.next ((State.windowClose_due (s := s.at t) h hr ht hs hp).trans (if_pos hf)))
  case windowDue =>
    exact (exec_sieveWindowClose t p r i s hd hn).trans
      (congrArg Host.Outcome.next ((State.windowClose_due (s := s.at t) h hr ht hs hp).trans
        (if_neg (by rw [hf]; exact Bool.false_ne_true))))

end Sys2Proof.Machine
end

section
/-! PROOFS. Issue and retirement of a microcode word (R122 to R127, R130, R214). -/

namespace Sys2Proof.Machine

theorem exec_wordIssue {b : Nat} (t : Nat) (s : State) (hb : b < 288) :
    exec (.wordIssue t b) s = .next ((s.at t).issue b) := if_pos (decide_eq_true hb)
theorem exec_wordRetire {b : Nat} (t : Nat) (info : RetireInfo) (s : State) (hb : b < 288) :
    exec (.wordRetire t b info) s = .next ((s.at t).wordRetires b info) := if_pos (decide_eq_true hb)

/-! ## What an event of a bed leaves, but for its counters -/

theorem State.uncounted_pulse (s : State) (n ev k : Nat) : ((s.pulse n ev).bed k).uncounted = (s.bed k).uncounted := by
  unfold State.pulse
  split
  · rfl
  · refine foldl_keeps (fun u : State => (u.bed k).uncounted) _ _ (fun u i _ => ?_) s
    dsimp only
    split
    · exact State.uncounted_modBed u n k _ (Bed.uncounted_add ..)
    · rfl

/-- Two beds that differ in their counters alone. -/
theorem Bed.of_uncounted {x y : Bed} (h : x.uncounted = y.uncounted) :
    x = { y with bc := x.bc, levels := x.levels, missed := x.missed, sampling := x.sampling, since := x.since } := by
  cases x
  cases y
  simpa [Bed.uncounted] using h

/-- A bed becomes `x`, but for its counters; the other beds, the slots and what is no part of the streams stay. -/
structure BedDone (s u : State) (b : Nat) (x : Bed) : Prop where
  self : (u.bed b).uncounted = x.uncounted
  others : ∀ k, k ≠ b → u.bed k = s.bed k
  slots : u.str.slots = s.str.slots
  frame : u = { s with str := u.str }

/-- What a bed's trap leaves of it (R134, R135). -/
def Bed.trapTaken (x : Bed) (t : Nat) (p : BitVec 80) : Bed :=
  { x with
    store := storePut x.store capsuleAt ({ x.mic with
      waited := if x.mic.waiting then x.mic.waited + clocksBetween x.waitSince t else 0, progress := p } : Micro).capsule,
    trapped := true, trapHeld := false, traps := inc64 x.traps,
    mic := { x.mic with upc := 0x3F00, space := false, inWord := false, waiting := false, waited := 0 } }

section
variable {s u : State} {b : Nat} {x : Bed}

theorem BedDone.refl (s : State) (b : Nat) : BedDone s s b (s.bed b) := ⟨rfl, fun _ _ => rfl, rfl, rfl⟩

/-- A change of the bed that its counters take no part in. -/
theorem BedDone.modBed (h : BedDone s u b x) {f : Bed → Bed}
    (hf : ∀ y z : Bed, y.uncounted = z.uncounted → (f y).uncounted = (f z).uncounted) : BedDone s (u.modBed b f) b (f x) := by
  refine ⟨?_, fun k hk => ?_, h.slots, ?_⟩
  · rw [State.bed_modBed, if_pos rfl]
    exact hf _ _ h.self
  · rw [State.bed_modBed, if_neg hk]
    exact h.others k hk
  · exact congrArg (fun v : State => { v with str := (u.modBed b f).str }) h.frame

theorem BedDone.tick (h : BedDone s u b x) : BedDone s (u.tick b) b x := by
  refine ⟨(u.uncounted_tick b b).trans h.self, fun k hk => (u.bed_tick_other hk).trans (h.others k hk),
    (u.sameStreams_tick b).slots.trans h.slots, ?_⟩
  have hframe : u.tick b = { u with str := (u.tick b).str } := State.parts.2 (by simp [State.tick_kept ..])
  exact hframe.trans (congrArg (fun v : State => { v with str := (u.tick b).str }) h.frame)

theorem BedDone.pulse (h : BedDone s u b x) (ev : Nat) : BedDone s (u.pulse b ev) b x := by
  refine ⟨(u.uncounted_pulse b ev b).trans h.self, fun k hk => (u.bed_pulse_other ev hk).trans (h.others k hk),
    (u.sameStreams_pulse b ev).slots.trans h.slots, ?_⟩
  have hframe : u.pulse b ev = { u with str := (u.pulse b ev).str } := State.parts.2 (by simp [State.pulse_kept ..])
  exact hframe.trans (congrArg (fun v : State => { v with str := (u.pulse b ev).str }) h.frame)

theorem BedDone.trans {v : State} {y : Bed} (h : BedDone s u b x) (g : BedDone u v b y) : BedDone s v b y :=
  ⟨g.self, fun k hk => (g.others k hk).trans (h.others k hk), g.slots.trans h.slots,
    g.frame.trans (congrArg (fun w : State => { w with str := v.str }) h.frame)⟩

theorem BedDone.congr (h : BedDone s u b x) {y : Bed} (hy : x.uncounted = y.uncounted) : BedDone s u b y :=
  ⟨h.self.trans hy, h.others, h.slots, h.frame⟩

theorem BedDone.now (h : BedDone s u b x) : u.now = s.now := by rw [h.frame]

theorem BedDone.runs (h : BedDone s u b x) : (u.bed b).runs = x.runs := by
  have hr := congrArg Bed.runs h.self
  exact hr
theorem BedDone.mic (h : BedDone s u b x) : (u.bed b).mic = x.mic := by
  have hm := congrArg Bed.mic h.self
  exact hm
theorem BedDone.trapHeld (h : BedDone s u b x) : (u.bed b).trapHeld = x.trapHeld := by
  have hm := congrArg Bed.trapHeld h.self
  exact hm
theorem BedDone.trapped (h : BedDone s u b x) : (u.bed b).trapped = x.trapped := by
  have hm := congrArg Bed.trapped h.self
  exact hm
theorem BedDone.store (h : BedDone s u b x) : (u.bed b).store = x.store := by
  have hm := congrArg Bed.store h.self
  exact hm
theorem BedDone.issued (h : BedDone s u b x) : (u.bed b).issued = x.issued := by
  have hm := congrArg Bed.issued h.self
  exact hm
theorem BedDone.waitSince (h : BedDone s u b x) : (u.bed b).waitSince = x.waitSince := by
  have hm := congrArg Bed.waitSince h.self
  exact hm
theorem BedDone.conds (h : BedDone s u b x) : (u.bed b).conds = x.conds := by
  have hm := congrArg Bed.conds h.self
  exact hm
theorem BedDone.traps (h : BedDone s u b x) : (u.bed b).traps = x.traps := by
  have hm := congrArg Bed.traps h.self
  exact hm
theorem BedDone.timeouts (h : BedDone s u b x) : (u.bed b).timeouts = x.timeouts := by
  have hm := congrArg Bed.timeouts h.self
  exact hm

/-- A trap is taken (R134, R135). -/
theorem BedDone.takeTrap (h : BedDone s u b x) (p : BitVec 80) : BedDone s (u.takeTrap b p) b (x.trapTaken s.now p) := by
  unfold State.takeTrap
  dsimp only
  have hwait : (if (u.bed b).mic.waiting then (u.bed b).mic.waited + clocksBetween (u.bed b).waitSince u.now else 0) =
      if x.mic.waiting then x.mic.waited + clocksBetween x.waitSince s.now else 0 := by
    rw [h.mic, h.waitSince, h.now]
  rw [hwait]
  refine BedDone.tick (BedDone.pulse ?_ _)
  refine (h.modBed (f := fun y => { y with
    store := storePut y.store capsuleAt ({ y.mic with
      waited := if x.mic.waiting then x.mic.waited + clocksBetween x.waitSince s.now else 0, progress := p } : Micro).capsule,
    trapped := true, trapHeld := false, traps := inc64 y.traps,
    mic := { y.mic with upc := 0x3F00, space := false, inWord := false, waiting := false, waited := 0 } }) ?_)
  intro y z hyz
  rw [Bed.of_uncounted hyz]
  rfl

/-- A held trap is taken as the word ends, unless the handler runs (R135). -/
theorem BedDone.heldTrap_none (h : BedDone s u b x) (hx : x.trapHeld = false ∨ x.trapped = true) :
    BedDone s (u.heldTrap b) b x := by
  have hno : ¬ ((u.bed b).trapHeld && !(u.bed b).trapped && (u.bed b).runs) = true := by
    rw [h.trapHeld, h.trapped]
    rcases hx with hx | hx
    · rw [hx]; exact Bool.false_ne_true
    · rw [hx, Bool.not_true, Bool.and_false]; exact Bool.false_ne_true
  have hsame : u.heldTrap b = u := if_neg hno
  rw [hsame]
  exact h

theorem BedDone.heldTrap_taken (h : BedDone s u b x) (hh : x.trapHeld = true) (ht : x.trapped = false) (hr : x.runs = true)
    (hw : x.mic.inWord = false) : BedDone s (u.heldTrap b) b (x.trapTaken s.now 0) := by
  have htrap : u.heldTrap b = u.takeTrap b 0 := by
    refine (if_pos (by rw [h.trapHeld, h.trapped, h.runs, hh, ht, hr]; rfl)).trans ?_
    rw [h.mic, hw]
    rfl
  rw [htrap]
  exact h.takeTrap 0

/-- The word has retired. -/
def Micro.done (m : Micro) : Micro := { m with inWord := false, waiting := false, waited := 0 }

theorem BedDone.modMic (h : BedDone s u b x) (f : Micro → Micro) : BedDone s (u.modMic b f) b { x with mic := f x.mic } := by
  unfold State.modMic
  refine h.modBed (f := fun y => { y with mic := f y.mic }) fun y z hyz => ?_
  rw [Bed.of_uncounted hyz]
  rfl

/-- A word that has retired, with no trap to take. -/
theorem BedDone.wordDone (h : BedDone s u b x) (hx : x.trapHeld = false ∨ x.trapped = true) :
    BedDone s (u.wordDone b) b { x with mic := x.mic.done } := by
  unfold State.wordDone
  exact (h.modMic Micro.done).tick.heldTrap_none hx

/-- A word that has retired, with a trap that waited for it. -/
theorem BedDone.wordDone_trap (h : BedDone s u b x) (hh : x.trapHeld = true) (ht : x.trapped = false) (hr : x.runs = true) :
    BedDone s (u.wordDone b) b ({ x with mic := x.mic.done }.trapTaken s.now 0) := by
  unfold State.wordDone
  exact (h.modMic Micro.done).tick.heldTrap_taken hh ht hr rfl

end

/-! ## Issue -/

section
variable {s : State} {b : Nat}

theorem State.issue_idle (h : (s.bed b).runs = false ∨ (s.bed b).mic.inWord = true) : s.issue b = s := by
  refine if_pos ?_
  rcases h with h | h
  · rw [h]; rfl
  · rw [h, Bool.or_true]

theorem State.issue_illegal (hr : (s.bed b).runs = true) (hw : (s.bed b).mic.inWord = false)
    (hi : illegalWord (s.bed b).word = true) : s.issue b = s.selfCheck b .illegalWord :=
  (if_neg (by rw [hr, hw]; decide)).trans (if_pos hi)

/-- The pace check of a decode stream as a word issues (R214). -/
def State.paceChecked (s : State) (b : Nat) : State :=
  match (s.bed b).slotNow with
  | none => s
  | some k =>
    if decide (wEcOp (s.bed b).word = 2) && decide ((s.slot k).kind = 2) && s.speaks b k && s.overPace k then s.budgetHit k else s

/-- A bed that issues a word. -/
def Bed.issues (x : Bed) : Bed := { x with issued := x.word, mic := { x.mic with inWord := true, progress := 0 } }

theorem State.issue_legal (hr : (s.bed b).runs = true) (hw : (s.bed b).mic.inWord = false)
    (hi : illegalWord (s.bed b).word = false) : s.issue b =
    ((((s.paceChecked b).modBed b Bed.issues).pulse b 0x81).pulse b (wTag (s.bed b).word)).tick b :=
  (if_neg (by rw [hr, hw]; decide)).trans (if_neg (by rw [hi]; exact Bool.false_ne_true))

theorem State.budgetHit_slot (s : State) (k j : Nat) : (s.budgetHit k).slot j =
    if j = k ∧ (s.slot k).dec.overBudget = false then
      { s.slot k with dec := { (s.slot k).dec with overBudget := true, counts := bumpAt (s.slot k).dec.counts 5 1 } }
    else s.slot j := by
  unfold State.budgetHit
  split
  · next h => rw [if_neg (by rw [h]; exact fun hk => Bool.false_ne_true hk.2.symm)]
  · next h =>
    rw [State.slot_modSlot, Bool.eq_false_iff.2 h]
    simp

/-- What the pace check leaves. -/
theorem State.paceChecked_leaves (s : State) (b : Nat) : (s.paceChecked b).str.beds = s.str.beds ∧
    s.paceChecked b = { s with str := (s.paceChecked b).str } ∧
    (∀ k, (s.bed b).slotNow = some k → wEcOp (s.bed b).word = 2 → (s.slot k).kind = 2 → s.speaks b k = true →
      s.overPace k = true → ((s.paceChecked b).slot k).dec.overBudget = true) ∧
    (∀ k, (s.bed b).slotNow ≠ some k ∨ wEcOp (s.bed b).word ≠ 2 ∨ (s.slot k).kind ≠ 2 ∨ s.overPace k = false →
      (s.paceChecked b).slot k = s.slot k) := by
  unfold State.paceChecked
  cases hn : (s.bed b).slotNow with
  | none => exact ⟨rfl, rfl, fun k hk => (Option.some_ne_none k hk.symm).elim, fun _ _ => rfl⟩
  | some j =>
    dsimp only
    split
    · next hc =>
      rw [Bool.and_eq_true, Bool.and_eq_true, Bool.and_eq_true, decide_eq_true_eq, decide_eq_true_eq] at hc
      obtain ⟨⟨⟨hec, hkind⟩, hspeaks⟩, hpace⟩ := hc
      refine ⟨?_, ?_, fun k hk _ _ _ _ => ?_, fun k hk => ?_⟩
      · unfold State.budgetHit
        split <;> rfl
      · unfold State.budgetHit
        split <;> rfl
      · rw [State.budgetHit_slot, Option.some.inj hk]
        split
        · rfl
        · next h => exact Bool.not_eq_false _ ▸ fun hf => h ⟨rfl, hf⟩
      · rw [State.budgetHit_slot, if_neg]
        rintro ⟨rfl, -⟩
        rcases hk with hk | hk | hk | hk
        · exact hk rfl
        · exact hk hec
        · exact hk hkind
        · exact Bool.false_ne_true (hk.symm.trans hpace)
    · next hc =>
      refine ⟨rfl, rfl, fun k hk hec hkind hspeaks hpace => absurd ?_ hc, fun _ _ => rfl⟩
      rw [Option.some.inj hk, decide_eq_true hec, decide_eq_true hkind, hspeaks, hpace]
      rfl

end

/-! ## Retirement -/

/-- What a retiring word's operations, its PB point and its units' reports leave (R122, R170). -/
def State.unitsDone (s : State) (b : Nat) (info : RetireInfo) : State :=
  let old := (s.bed b).mic
  let w := (s.bed b).issued
  let done := s.modBed b (fun x => { x.portTakes with
    conds := info.conds, mic := (old.scalar w).loopOp old w, store := serveWrites x.store w info.writes })
  (info.events.foldl (fun (s : State) e => s.bedReport b e) (if wPb w then done.pbPoint b info.boundary else done)).tick b

/-- A bed whose word has done its own operations. -/
def Bed.retires (x : Bed) (info : RetireInfo) : Bed :=
  { x.portTakes with conds := info.conds, mic := (x.mic.scalar x.issued).loopOp x.mic x.issued,
                     store := serveWrites x.store x.issued info.writes }

theorem Bed.issued_retires (x : Bed) (info : RetireInfo) : (x.retires info).issued = x.issued := by
  unfold Bed.retires Bed.portTakes
  split <;> rfl

section
variable {s : State} {b : Nat} {info : RetireInfo}

theorem State.wordRetires_idle (h : (s.bed b).runs = false ∨ (s.bed b).mic.inWord = false ∨ (s.bed b).mic.waiting = true) :
    s.wordRetires b info = s := by
  refine if_pos ?_
  rw [Bool.or_eq_true, Bool.or_eq_true, Bool.not_eq_true', Bool.not_eq_true']
  tauto

theorem State.wordRetires_runs (hr : (s.bed b).runs = true) (hw : (s.bed b).mic.inWord = true)
    (hwait : (s.bed b).mic.waiting = false) : s.wordRetires b info =
    if ((s.unitsDone b info).bed b).runs then (s.unitsDone b info).leaveWord b (s.bed b).mic else s.unitsDone b info := by
  refine (if_neg ?_).trans rfl
  rw [hr, hw, hwait]
  exact Bool.false_ne_true

theorem State.now_unitsDone : (s.unitsDone b info).now = s.now := by
  unfold State.unitsDone
  dsimp only
  have hpb (u : State) (c : Bool) : (if c then u.pbPoint b info.boundary else u).now = u.now := by
    split
    · simp only [State.pbPoint_kept ..]
    · rfl
  have hfold (l : List BedEvent) (u : State) : (l.foldl (fun (s : State) e => s.bedReport b e) u).now = u.now := by
    refine foldl_keeps State.now _ _ (fun v e _ => ?_) u
    simp only [State.bedReport_kept ..]
  rw [(State.tick_kept ..).1, hfold, hpb]
  rfl

/-- A word with no PB point and no report only does its own operations. -/
theorem State.unitsDone_plain (hp : wPb (s.bed b).issued = false) (he : info.events = []) :
    BedDone s (s.unitsDone b info) b ((s.bed b).retires info) := by
  have hplain : s.unitsDone b info = (s.modBed b (fun _ => (s.bed b).retires info)).tick b := by
    unfold State.unitsDone
    dsimp only
    rw [hp, he]
    rfl
  rw [hplain]
  exact ((BedDone.refl s b).modBed (f := fun _ => (s.bed b).retires info) fun _ _ _ => rfl).tick

end

/-! ## How a word leaves its bed -/

section
variable {v : State} {b : Nat} {old : Micro}

theorem State.leaveWord_reached (hw : wWaitCond (v.bed b).issued ≠ 0) (h : v.waitReached b = true) :
    v.leaveWord b old = v.endWait b false := (if_pos hw).trans (if_pos h)

/-- A word that waits (R127). -/
theorem State.leaveWord_waits (hw : wWaitCond (v.bed b).issued ≠ 0) (h : v.waitReached b = false) :
    BedDone v (v.leaveWord b old) b
      { v.bed b with waitSince := v.now, mic := { (v.bed b).mic with waiting := true, waited := 0 } } := by
  have hrun : v.leaveWord b old = ((v.modBed b (fun x => { x with waitSince := v.now })).modMic b (fun m =>
      { m with waiting := true, waited := 0 })).tick b :=
    (if_pos hw).trans (if_neg (by rw [h]; exact Bool.false_ne_true))
  rw [hrun]
  refine (((BedDone.refl v b).modBed (f := fun x => { x with waitSince := v.now }) fun y z hyz => ?_).modMic fun m =>
    { m with waiting := true, waited := 0 }).tick
  rw [Bed.of_uncounted hyz]
  rfl

variable (hw : wWaitCond (v.bed b).issued = 0)
include hw

/-- TRAP_RETURN restores the capsule (R135). -/
theorem State.leaveWord_returns (hm : wMode (v.bed b).issued = 6) (hh : (v.bed b).trapHeld = false) :
    ∃ x : Bed, BedDone v (v.leaveWord b old) b x ∧ x.mic = capsuleMicro (storeBytes (v.bed b).store capsuleAt 96) ∧
      x.trapped = false := by
  have hrun : v.leaveWord b old = (v.trapReturn b).tick b := (if_neg (not_not.2 hw)).trans (if_pos hm)
  rw [hrun]
  have hback := (BedDone.refl v b).modBed (f := fun x =>
    { x with mic := capsuleMicro (storeBytes x.store capsuleAt 96), trapped := false, waitSince := v.now }) fun y z hyz => by
      rw [Bed.of_uncounted hyz]
      rfl
  have hword := hback.modBed (f := fun x => { x with issued := x.word }) fun y z hyz => by
    rw [Bed.of_uncounted hyz]
    rfl
  exact ⟨_, (hword.heldTrap_none (.inl hh)).tick, rfl, rfl⟩

variable (hm : wMode (v.bed b).issued ≠ 6)
include hm

theorem State.leaveWord_stack (h : (v.bed b).mic.next old (v.bed b).issued (fun k => v.cond b k) = none) :
    v.leaveWord b old = (v.modBed b (fun y => { y with stopped := true })).selfCheck b .stack := by
  refine (if_neg (not_not.2 hw)).trans ((if_neg hm).trans ?_)
  rw [h]

theorem State.leaveWord_branch {m : Micro} (h : (v.bed b).mic.next old (v.bed b).issued (fun k => v.cond b k) = some m) :
    v.leaveWord b old = (v.modMic b (fun _ => m)).wordDone b := by
  refine (if_neg (not_not.2 hw)).trans ((if_neg hm).trans ?_)
  rw [h]

end

/-- Settles O21: issue through what it leaves of the bed, retirement through the state that its units leave. -/
theorem microcodeWords : Obligations.MicrocodeWords := by
  unfold Obligations.MicrocodeWords
  intro s t b hb
  refine ⟨fun h => ?idle, fun hr hw hi => ?illegal, fun hr hw hi => ?legal, fun info h => ?still, fun info hr hw hwait => ?_⟩
  rotate_left 4
  · have hrun := (exec_wordRetire t info s hb).trans
      (congrArg Host.Outcome.next (State.wordRetires_runs (s := s.at t) (b := b) (info := info) hr hw hwait))
    intro old w done v x i
    have hv : v = (s.at t).unitsDone b info := rfl
    have hx : x = v.bed b := rfl
    have hi : i = x.issued := rfl
    clear_value i x v
    subst hi hx hv
    have hnow : ((s.at t).unitsDone b info).now = t := State.now_unitsDone
    have hplain := State.unitsDone_plain (s := s.at t) (b := b) (info := info)
    generalize (s.at t).unitsDone b info = v at hrun hnow hplain ⊢
    refine ⟨fun hp he => ?plain, fun hn => ?stops, fun hn hc hx => ?waits, fun hn hc hx => ?reached,
      fun hn hc hm hh => ?returns, fun hn hc hm hx => ?stack, fun m hn hc hm hx => ⟨fun hh => ?branch, fun hh ht => ?trap⟩⟩
    case plain =>
      have hdone := hplain hp he
      exact ⟨hdone.mic, hdone.issued.trans (Bed.issued_retires ..), hdone.conds, hdone.others, hdone.slots, hdone.frame⟩
    case stops => exact hrun.trans (congrArg _ (if_neg (ne_true_of_eq_false hn)))
    all_goals replace hrun := hrun.trans (congrArg Host.Outcome.next (if_pos hn))
    case waits =>
      have hdone := State.leaveWord_waits (old := (s.bed b).mic) hc hx
      exact ⟨_, hrun, hdone.mic, hdone.waitSince.trans hnow, hdone.others, hdone.frame⟩
    case reached => exact hrun.trans (congrArg _ (State.leaveWord_reached hc hx))
    case returns =>
      obtain ⟨y, hdone, hmic, htrapped⟩ := State.leaveWord_returns (old := (s.bed b).mic) hc hm hh
      exact ⟨_, hrun, hdone.mic.trans hmic, hdone.trapped.trans htrapped, hdone.others, hdone.frame⟩
    case stack => exact hrun.trans (congrArg _ (State.leaveWord_stack hc hm hx))
    case branch =>
      have hdone := ((BedDone.refl v b).modMic fun _ => m).wordDone hh
      exact ⟨_, hrun.trans (congrArg _ (State.leaveWord_branch hc hm hx)), hdone.mic, hdone.others, hdone.frame⟩
    case trap =>
      have hdone := ((BedDone.refl v b).modMic fun _ => m).wordDone_trap hh ht hn
      have hmic := hdone.mic
      refine ⟨_, hrun.trans (congrArg _ (State.leaveWord_branch hc hm hx)), ?_, ?_,
        hdone.trapped, hdone.trapHeld, hdone.store, hdone.others, hdone.frame⟩
      · rw [hmic]
        rfl
      · rw [hmic]
        rfl
  case idle => exact (exec_wordIssue t s hb).trans (congrArg _ (State.issue_idle (s := s.at t) h))
  case illegal => exact (exec_wordIssue t s hb).trans (congrArg _ (State.issue_illegal (s := s.at t) hr hw hi))
  case legal =>
    have hissue := State.issue_legal (s := s.at t) hr hw hi
    obtain ⟨hbeds, hframe, hhit, hmiss⟩ := (s.at t).paceChecked_leaves b
    generalize (s.at t).paceChecked b = u at hissue hbeds hframe hhit hmiss
    have hbed : ∀ k, u.bed k = s.bed k := fun k => congrArg (fun l => tget (fun _ => ({} : Bed)) l k) hbeds
    have hdone := ((((BedDone.refl u b).modBed (f := Bed.issues) fun y z hyz => by
      rw [Bed.of_uncounted hyz]
      rfl).pulse 0x81).pulse (wTag ((s.at t).bed b).word)).tick
    rw [← hissue, hbed] at hdone
    refine ⟨_, exec_wordIssue t s hb, hdone.mic, hdone.issued, fun k hk => (hdone.others k hk).trans (hbed k),
      fun k h1 h2 h3 h4 h5 => ?_, fun k hk => (State.slot_of_slots hdone.slots k).trans (hmiss k hk), ?_⟩
    · rw [State.slot_of_slots hdone.slots k]
      exact hhit k h1 h2 h3 h4 h5
    · exact hdone.frame.trans (congrArg (fun v : State => { v with str := ((s.at t).issue b).str }) hframe)
  case still => exact (exec_wordRetire t info s hb).trans (congrArg _ (State.wordRetires_idle (s := s.at t) h))

end Sys2Proof.Machine
end

section
/-! PROOFS. Waits, timeouts and traps of a bed (R127 to R129, R134, R135). -/

namespace Sys2Proof.Machine

theorem exec_waitMet {b : Nat} (t : Nat) (conds : BitVec 64) (s : State) (hb : b < 288) :
    exec (.waitMet t b conds) s = .next ((s.at t).waitMet b conds) := if_pos (decide_eq_true hb)
theorem exec_waitTimeout {b : Nat} (t : Nat) (conds : BitVec 64) (s : State) (hb : b < 288) :
    exec (.waitTimeout t b conds) s = .next ((s.at t).waitTimeout b conds) := if_pos (decide_eq_true hb)
theorem exec_trapReq_gang {a : Nat} (t b : Nat) (p : BitVec 80) (s : State) (ha : a < 16) :
    exec (.trapReq t a b true p) s = .next ((s.at t).gangTrap b p) := if_pos (decide_eq_true ha)
theorem exec_trapReq_shed {a : Nat} (t b : Nat) (p : BitVec 80) (s : State) (ha : a < 16) :
    exec (.trapReq t a b false p) s = .next ((s.at t).bedControl a b (fun s => s.orderTrap b p)) :=
  if_pos (decide_eq_true ha)

/-! ## Conditions that two states agree on -/

/-- A bed without its counters and what is shown of its timeouts: all that its conditions look at. -/
def Bed.still (x : Bed) : Bed := { x.uncounted with timeouts := 0, lastTimeout := (0, false, 0) }

/-- Two states that differ in counters and timeouts of beds, and in the interrupts. -/
structure SameConds (v u : State) : Prop where
  beds : ∀ k, (u.bed k).still = (v.bed k).still
  str : u.str = { v.str with beds := u.str.beds }
  frame : u = { v with str := u.str, irq := u.irq, allots := u.allots, emits := u.emits }

section
variable {v u : State} (h : SameConds v u)
include h

theorem SameConds.mic (k : Nat) : (u.bed k).mic = (v.bed k).mic := by
  have hk := congrArg Bed.mic (h.beds k)
  exact hk
theorem SameConds.slotNow (k : Nat) : (u.bed k).slotNow = (v.bed k).slotNow := by
  have hk := congrArg Bed.slotNow (h.beds k)
  exact hk
theorem SameConds.slots (k : Nat) : (u.bed k).slots = (v.bed k).slots := by
  have hk := congrArg Bed.slots (h.beds k)
  exact hk
theorem SameConds.issued (k : Nat) : (u.bed k).issued = (v.bed k).issued := by
  have hk := congrArg Bed.issued (h.beds k)
  exact hk
theorem SameConds.strips (k : Nat) : (u.bed k).strips = (v.bed k).strips := by
  have hk := congrArg Bed.strips (h.beds k)
  exact hk
theorem SameConds.chunks (k : Nat) : (u.bed k).chunks = (v.bed k).chunks := by
  have hk := congrArg Bed.chunks (h.beds k)
  exact hk
theorem SameConds.fifo (k : Nat) : (u.bed k).fifo = (v.bed k).fifo := by
  have hk := congrArg Bed.fifo (h.beds k)
  exact hk
theorem SameConds.row (k : Nat) : (u.bed k).row = (v.bed k).row := by
  have hk := congrArg Bed.row (h.beds k)
  exact hk
theorem SameConds.ctu (k : Nat) : (u.bed k).ctu = (v.bed k).ctu := by
  have hk := congrArg Bed.ctu (h.beds k)
  exact hk
theorem SameConds.ready (k : Nat) : (u.bed k).ready = (v.bed k).ready := by
  have hk := congrArg Bed.ready (h.beds k)
  exact hk
theorem SameConds.exchange (k : Nat) : (u.bed k).exchange = (v.bed k).exchange := by
  have hk := congrArg Bed.exchange (h.beds k)
  exact hk
theorem SameConds.trapHeld (k : Nat) : (u.bed k).trapHeld = (v.bed k).trapHeld := by
  have hk := congrArg Bed.trapHeld (h.beds k)
  exact hk
theorem SameConds.conds (k : Nat) : (u.bed k).conds = (v.bed k).conds := by
  have hk := congrArg Bed.conds (h.beds k)
  exact hk
theorem SameConds.checks (k : Nat) : (u.bed k).checks = (v.bed k).checks := by
  have hk := congrArg Bed.checks (h.beds k)
  exact hk

/-- What does not look at the beds is the same in both. -/
theorem SameConds.eq {α : Type} (f : State → α)
    (hf : ∀ (w : State) B I A E, f { w with str := { w.str with beds := B }, irq := I, allots := A, emits := E } = f w) :
    f u = f v := by
  have hu : u = { v with str := { v.str with beds := u.str.beds }, irq := u.irq, allots := u.allots, emits := u.emits } := by
    rw [← h.str]
    exact h.frame
  rw [hu]
  exact hf ..

theorem SameConds.slot (k : Nat) : u.slot k = v.slot k := h.eq (fun w => w.slot k) fun _ _ _ _ _ => rfl
theorem SameConds.twin (k : Nat) : u.twin k = v.twin k := h.eq (fun w => w.twin k) fun _ _ _ _ _ => rfl
theorem SameConds.columnsOf (k : Nat) : u.columnsOf k = v.columnsOf k := h.eq (fun w => w.columnsOf k) fun _ _ _ _ _ => rfl

theorem SameConds.ctuAt (n k : Nat) : u.ctuAt n k = v.ctuAt n k := by
  have hspan : u.tileSpan n k = v.tileSpan n k := h.eq (fun w => w.tileSpan n k) fun _ _ _ _ _ => rfl
  unfold State.ctuAt
  rw [h.slot, h.columnsOf, h.row, h.ctu, hspan]

theorem SameConds.lastCtu (n k : Nat) : u.lastCtu n k = v.lastCtu n k := by
  have hspan : u.tileSpan n k = v.tileSpan n k := h.eq (fun w => w.tileSpan n k) fun _ _ _ _ _ => rfl
  unfold State.lastCtu
  rw [hspan, h.ctuAt]

theorem SameConds.inRefresh (n k : Nat) : u.inRefresh n k = v.inRefresh n k := by
  have hpic : u.picOf k (u.slot k).codedNo = v.picOf k (v.slot k).codedNo :=
    h.eq (fun w => w.picOf k (w.slot k).codedNo) fun _ _ _ _ _ => rfl
  unfold State.inRefresh
  rw [hpic, h.ctuAt, h.columnsOf]

theorem SameConds.gangReady (n : Nat) : u.gangReady n = v.gangReady n := by
  have hgang : u.gangOf n = v.gangOf n := by
    unfold State.gangOf
    rw [h.slots]
    simp only [h.twin]
  unfold State.gangReady
  rw [hgang]
  simp only [h.ready]

theorem SameConds.pictureReady (n : Nat) : u.pictureReady n = v.pictureReady n := by
  have hfeed (k : Nat) : u.feed k = v.feed k := h.eq (fun w => w.feed k) fun _ _ _ _ _ => rfl
  unfold State.pictureReady
  dsimp only
  rw [h.strips, h.chunks, h.slots]
  simp only [hfeed]

theorem SameConds.cond (n k : Nat) : u.cond n k = v.cond n k := by
  have hcut (x : Nat) : u.cutNext (u.anchorOf x) = v.cutNext (v.anchorOf x) :=
    h.eq (fun w => w.cutNext (w.anchorOf x)) fun _ _ _ _ _ => rfl
  have hrows (x : Nat) : u.rowsOfSlot x = v.rowsOfSlot x := h.eq (fun w => w.rowsOfSlot x) fun _ _ _ _ _ => rfl
  unfold State.cond
  dsimp only
  simp only [h.mic, h.slotNow, h.strips, h.chunks, h.fifo, h.exchange, h.trapHeld, h.conds, h.checks, h.slot, hcut,
    h.pictureReady, h.lastCtu, h.ctuAt, hrows, h.inRefresh, h.gangReady]

end

/-! ## Ends of waits -/

/-- The target of a waiting word: bits 1 to 3 as MULTI's selectors say (R127). -/
def waitTarget (w : Microword) (c : Nat → Bool) : Nat :=
  if wMode w = 1 then (List.range 3).foldl (fun n k =>
    n ||| (if wCs w (k + 1) ≠ 0 && c (wCs w (k + 1)) then 2 ^ (k + 1) else 0)) (wNext w)
  else wNext w

/-- A selector 0 of 0 adds nothing to MULTI's target. -/
theorem target_noFirst (w : Microword) (c : Nat → Bool) (h : wCs w 0 = 0) : target w c = waitTarget w c := by
  unfold target waitTarget
  split
  · have hrange : List.range 4 = 0 :: (List.range 3).map Nat.succ := rfl
    have hfirst : wNext w ||| (if wCs w 0 ≠ 0 && c (wCs w 0) then 2 ^ 0 else 0) = wNext w := by
      rw [h]
      exact Nat.or_zero _
    rw [hrange, List.foldl_cons, hfirst, List.foldl_map]
  · rfl

/-- Where a wait that ends goes, with bit 0 of its target (R127). -/
def Bed.waitOver (x : Bed) (c : Nat → Bool) (out : Bool) : Micro :=
  x.mic.jump (2 * (waitTarget x.issued c / 2) + b2n out) (wNsp x.issued)

theorem State.endWait_eq (v : State) (b : Nat) (out : Bool) :
    v.endWait b out = (v.modMic b (fun m => m.jump (2 * (waitTarget (v.bed b).issued (fun k => v.cond b k) / 2) + b2n out)
      (wNsp (v.bed b).issued))).wordDone b := by
  unfold State.endWait
  dsimp only
  by_cases h : wMode (v.bed b).issued = 1 ∧ wCs (v.bed b).issued 0 ≠ 0
  · have hmulti : waitTarget (v.bed b).issued (fun k => v.cond b k) = (List.range 3).foldl (fun n k => n |||
        (if wCs (v.bed b).issued (k + 1) ≠ 0 && v.cond b (wCs (v.bed b).issued (k + 1)) then 2 ^ (k + 1) else 0))
        (wNext (v.bed b).issued) := if_pos h.1
    rw [if_pos h, hmulti]
  · have htarget : target (v.bed b).issued (fun k => v.cond b k) = waitTarget (v.bed b).issued (fun k => v.cond b k) := by
      by_cases hm : wMode (v.bed b).issued = 1
      · exact target_noFirst _ _ (not_not.1 fun h0 => h ⟨hm, h0⟩)
      · exact (if_neg hm).trans (if_neg hm).symm
    rw [if_neg h, htarget]

section
variable {v : State} {b : Nat} {out : Bool}

/-- A wait that ends with no trap to take. -/
theorem State.endWait_done (h : (v.bed b).trapHeld = false ∨ (v.bed b).trapped = true) :
    BedDone v (v.endWait b out) b { v.bed b with mic := ((v.bed b).waitOver (fun k => v.cond b k) out).done } := by
  rw [State.endWait_eq]
  exact ((BedDone.refl v b).modMic _).wordDone h

/-- A wait that ends with a trap that waited for it. -/
theorem State.endWait_trap (hh : (v.bed b).trapHeld = true) (ht : (v.bed b).trapped = false) (hr : (v.bed b).runs = true) :
    BedDone v (v.endWait b out) b ({ v.bed b with
      mic := ((v.bed b).waitOver (fun k => v.cond b k) out).done }.trapTaken v.now 0) := by
  rw [State.endWait_eq]
  exact ((BedDone.refl v b).modMic _).wordDone_trap hh ht hr

end

/-! ## Waits and timeouts -/

/-- A bed that sees its conditions. -/
def State.condsSeen (s : State) (b : Nat) (conds : BitVec 64) : State := (s.modBed b (fun x => { x with conds := conds })).tick b

theorem State.condsSeen_done (s : State) (b : Nat) (conds : BitVec 64) :
    BedDone s (s.condsSeen b conds) b { s.bed b with conds := conds } := by
  refine ((BedDone.refl s b).modBed (f := fun x => { x with conds := conds }) fun y z hyz => ?_).tick
  rw [Bed.of_uncounted hyz]
  rfl

/-- A timeout is counted and shown with its address (R128). -/
def State.timeoutShown (v : State) (b : Nat) : State :=
  ((v.modBed b (fun x => { x with timeouts := inc64 x.timeouts,
                                  lastTimeout := (x.mic.upc, x.mic.space, wWaitTo (v.bed b).issued) })).pulse b 0x85).raise
    (0x1000 + 8 * b + 2)

/-- The wait's timeout class has elapsed (R127). -/
def State.elapsed (v : State) (b : Nat) : Prop :=
  waitClocks (wWaitTo (v.bed b).issued) ≤ (v.bed b).mic.waited + clocksBetween (v.bed b).waitSince v.now

/-- The end of a wait that timed out: it goes on unless the handler stopped the bed. -/
def State.timedOutWait (z : State) (b : Nat) : State :=
  if (z.bed b).runs then z.endWait b true else z

section
variable {s : State} {b : Nat} {conds : BitVec 64}

theorem State.waitMet_goesOn (h : ((s.condsSeen b conds).bed b).runs = false ∨
    ((s.condsSeen b conds).bed b).mic.waiting = false ∨ (s.condsSeen b conds).waitReached b = false) :
    s.waitMet b conds = s.condsSeen b conds := by
  refine if_neg ?_
  rw [Bool.and_eq_true, Bool.and_eq_true]
  rintro ⟨⟨h1, h2⟩, h3⟩
  rcases h with h | h | h
  · exact Bool.false_ne_true (h.symm.trans h1)
  · exact Bool.false_ne_true (h.symm.trans h2)
  · exact Bool.false_ne_true (h.symm.trans h3)

theorem State.waitMet_ends (hr : ((s.condsSeen b conds).bed b).runs = true)
    (hw : ((s.condsSeen b conds).bed b).mic.waiting = true) (hc : (s.condsSeen b conds).waitReached b = true) :
    s.waitMet b conds = (s.condsSeen b conds).endWait b false := by
  refine if_pos ?_
  rw [Bool.and_eq_true, Bool.and_eq_true]
  exact ⟨⟨hr, hw⟩, hc⟩

theorem State.waitTimeout_goesOn (h : ((s.condsSeen b conds).bed b).runs = false ∨
    ((s.condsSeen b conds).bed b).mic.waiting = false ∨ (s.condsSeen b conds).waitReached b = true ∨
    ¬ (s.condsSeen b conds).elapsed b) : s.waitTimeout b conds = s.condsSeen b conds := by
  refine if_pos ?_
  unfold State.elapsed at h
  rw [Nat.not_le] at h
  rw [Bool.or_eq_true, Bool.or_eq_true, Bool.or_eq_true, Bool.not_eq_true', Bool.not_eq_true', decide_eq_true_eq]
  exact h.elim (fun h => .inl (.inl (.inl h))) fun h => h.elim (fun h => .inl (.inl (.inr h))) fun h =>
    h.elim (fun h => .inl (.inr h)) .inr

theorem State.waitTimeout_due (hr : ((s.condsSeen b conds).bed b).runs = true)
    (hw : ((s.condsSeen b conds).bed b).mic.waiting = true) (hc : (s.condsSeen b conds).waitReached b = false)
    (he : (s.condsSeen b conds).elapsed b) : s.waitTimeout b conds =
    (((s.condsSeen b conds).timeoutShown b).timeoutHandler b ((s.condsSeen b conds).bed b).issued
      (!((s.condsSeen b conds).bed b).mic.space)).timedOutWait b := by
  have hno : ¬ (!((s.condsSeen b conds).bed b).runs || !((s.condsSeen b conds).bed b).mic.waiting ||
      (s.condsSeen b conds).waitReached b || decide (((s.condsSeen b conds).bed b).mic.waited +
        clocksBetween ((s.condsSeen b conds).bed b).waitSince (s.condsSeen b conds).now <
        waitClocks (wWaitTo ((s.condsSeen b conds).bed b).issued))) = true := by
    rw [hr, hw, hc, decide_eq_false (Nat.not_lt.2 he)]
    exact Bool.false_ne_true
  exact (if_neg hno).trans rfl

end

/-- What a bed's timeout shows. -/
def Bed.timedOut (x : Bed) : Bed :=
  { x with timeouts := inc64 x.timeouts, lastTimeout := (x.mic.upc, x.mic.space, wWaitTo x.issued) }

/-- A pulse changes nothing of the streams but the bed. -/
theorem State.pulse_str (s : State) (b ev : Nat) : (s.pulse b ev).str = { s.str with beds := (s.pulse b ev).str.beds } := by
  have hfold (l : List Nat) (u : State) (f : State → Nat → State)
      (hf : ∀ v i, (f v i).str = { v.str with beds := (f v i).str.beds }) :
      (l.foldl f u).str = { u.str with beds := (l.foldl f u).str.beds } := by
    induction l generalizing u with
    | nil => rfl
    | cons i r ih =>
      have hi := ih (f u i)
      rw [hf u i] at hi
      exact hi
  unfold State.pulse
  split
  · rfl
  · refine hfold _ s _ fun v i => ?_
    dsimp only
    split <;> rfl

/-- What a timeout that is shown leaves: the bed but for its counters, and all that the conditions look at. -/
theorem State.timeoutShown_leaves (v : State) (b : Nat) :
    ((v.timeoutShown b).bed b).uncounted = (v.bed b).timedOut.uncounted ∧
    (∀ k, k ≠ b → (v.timeoutShown b).bed k = v.bed k) ∧ SameConds v (v.timeoutShown b) := by
  unfold State.timeoutShown
  generalize hm : v.modBed b _ = m
  have hself : m.bed b = (v.bed b).timedOut := by
    rw [← hm, State.bed_modBed, if_pos rfl]
    rfl
  have hother : ∀ k, k ≠ b → m.bed k = v.bed k := fun k hk => by
    rw [← hm, State.bed_modBed, if_neg hk]
  have hmstr : m.str = { v.str with beds := m.str.beds } := by
    rw [← hm]
    rfl
  have hmframe : m = { v with str := m.str } := by
    rw [← hm]
    rfl
  have hpulse := ((BedDone.refl m b).pulse 0x85)
  have hpstr := m.pulse_str b 0x85
  generalize m.pulse b 0x85 = p at hpulse hpstr
  have hraise := p.raise_frame (0x1000 + 8 * b + 2)
  have hrstr : (p.raise (0x1000 + 8 * b + 2)).str = p.str := by simp only [State.raise_kept ..]
  have hbed : ∀ k, (p.raise (0x1000 + 8 * b + 2)).bed k = p.bed k := fun k => State.bed_raise ..
  generalize p.raise (0x1000 + 8 * b + 2) = u at hraise hrstr hbed
  have hu : (u.bed b).uncounted = (v.bed b).timedOut.uncounted := by rw [hbed, hpulse.self, hself]
  have ho : ∀ k, k ≠ b → u.bed k = v.bed k := fun k hk => (hbed k).trans ((hpulse.others k hk).trans (hother k hk))
  refine ⟨hu, ho, fun k => ?_, ?_, ?_⟩
  · by_cases hk : k = b
    · rw [hk]
      have h := congrArg (fun x : Bed => { x with timeouts := 0, lastTimeout := (0, false, 0) }) hu
      exact h
    · rw [ho k hk]
  · rw [hrstr, hpstr, hmstr]
  · have hpframe := hpulse.frame.trans (congrArg (fun w : State => { w with str := p.str }) hmframe)
    have h := hraise.trans (congrArg (fun w : State => { w with irq := u.irq, allots := u.allots, emits := u.emits }) hpframe)
    rw [← hrstr] at h
    exact h

/-- What the handler of a timeout does (R128, R129, R215). -/
theorem State.timeoutHandler_eq {v y : State} {b : Nat} (h : SameConds v y) (w : Microword) {s : State}
    (hs : v.str.slots = s.str.slots) :
    y.timeoutHandler b w (!(v.bed b).mic.space) =
    if wTpOp w = 3 ∧ wWaitCond w = 11 then
      (y.modBed b (fun x => { x with fifo := { x.fifo with write := x.unitStart } })).selfCheck b .fifoStall
    else match (if (v.bed b).slotNow.isSome then (v.bed b).slotNow else (v.bed b).slots.head?) with
      | none => y
      | some k => if (v.bed b).mic.space = true ∨ ((s.slot k).kind = 2 ∧ wWaitCond w = 10) then y
        else y.selfCheck b .timeout := by
  unfold State.timeoutHandler
  dsimp only
  rw [h.slotNow, h.slots]
  split
  · rfl
  · generalize (if (v.bed b).slotNow.isSome then (v.bed b).slotNow else (v.bed b).slots.head?) = o
    cases o with
    | none => rfl
    | some k =>
      dsimp only
      rw [h.slot, State.slot_of_slots hs]
      simp only [Bool.not_not, Bool.or_eq_true, Bool.and_eq_true, decide_eq_true_eq]

/-! ## Traps -/

theorem Bed.trapTaken_store (x : Bed) (t : Nat) (p : BitVec 80) : (x.trapTaken t p).store =
    storePut x.store capsuleAt ({ x.mic with
      waited := if x.mic.waiting then x.mic.waited + clocksBetween x.waitSince t else 0, progress := p } : Micro).capsule :=
  rfl

section
variable {s : State} {b : Nat} {p : BitVec 80}

theorem State.trapRequest_still (h : (s.bed b).runs = false) : s.trapRequest b p = s := if_pos (by rw [h]; rfl)

/-- A request waits for the handler, or for a word that cannot be stopped (R135). -/
def Bed.holdsTraps (x : Bed) : Prop := x.trapped = true ∨ (x.mic.inWord = true ∧ ¬ (resumable x.issued = true ∧ wTrapEn x.issued = true))

theorem Bed.holdsTraps_iff (x : Bed) :
    (x.trapped || (x.mic.inWord && !(resumable x.issued && wTrapEn x.issued))) = true ↔ x.holdsTraps := by
  unfold Bed.holdsTraps
  rw [Bool.or_eq_true, Bool.and_eq_true, Bool.not_eq_true', ← Bool.not_eq_true, Bool.and_eq_true]

theorem State.trapRequest_held (hr : (s.bed b).runs = true) (h : (s.bed b).holdsTraps) :
    BedDone s (s.trapRequest b p) b { s.bed b with trapHeld := true } := by
  have hrun : s.trapRequest b p = (s.modBed b (fun x => { x with trapHeld := true })).tick b :=
    (if_neg (by rw [hr]; exact Bool.false_ne_true)).trans (if_pos ((s.bed b).holdsTraps_iff.2 h))
  rw [hrun]
  refine ((BedDone.refl s b).modBed (f := fun x => { x with trapHeld := true }) fun y z hyz => ?_).tick
  rw [Bed.of_uncounted hyz]
  rfl

theorem State.trapRequest_taken (hr : (s.bed b).runs = true) (h : ¬ (s.bed b).holdsTraps) :
    BedDone s (s.trapRequest b p) b ((s.bed b).trapTaken s.now (if (s.bed b).mic.inWord then p else 0)) := by
  have hrun : s.trapRequest b p = s.takeTrap b (if (s.bed b).mic.inWord then p else 0) :=
    (if_neg (by rw [hr]; exact Bool.false_ne_true)).trans (if_neg fun hh => h ((s.bed b).holdsTraps_iff.1 hh))
  rw [hrun]
  exact (BedDone.refl s b).takeTrap _

end

/-- Who may ask a bed for a trap now: a gang member, or the Shed through a0's window (R134). -/
def State.trapAsked (s : State) (a b : Nat) (gang : Bool) : Prop :=
  if gang then 1 < (s.gangOf b).length else a = 0 ∧ s.serves 0 = true ∧ s.shed.restarting = false ∧ s.waits 0 = false

section
variable {s : State} {a b : Nat} {p : BitVec 80} (t : Nat)

theorem State.gangTrap_none (h : (s.gangOf b).length ≤ 1) : s.gangTrap b p = s := by
  refine if_neg ?_
  rw [Bool.and_eq_true, decide_eq_true_eq]
  omega

/-- A request of the Shed is kept while it restarts (R31, R320). -/
theorem State.orderTrap_holds (h : s.shed.restarting = true ∨ s.waits 0 = true) : s.orderTrap b p =
    { s with shed := { s.shed with held := s.shed.held ++ [{ a := 0, off := 0x400008 + 64 * b, val := p.toNat }] } } :=
  if_pos (by rw [Bool.or_eq_true]; exact h)

theorem State.orderTrap_runs (hr : s.shed.restarting = false) (hw : s.waits 0 = false) :
    s.orderTrap b p = s.trapRequest b p := if_neg (by rw [hr, hw]; exact Bool.false_ne_true)

/-- A request that may be made reaches the bed. -/
theorem exec_trapReq_asked {gang : Bool} (s : State) (ha : a < 16) (hb : b < 288) (h : s.trapAsked a b gang) :
    exec (.trapReq t a b gang p) s = .next ((s.at t).trapRequest b p) := by
  cases gang with
  | true =>
    have hlong : 1 < (s.gangOf b).length := h
    refine (exec_trapReq_gang t b p s ha).trans (congrArg Host.Outcome.next (if_pos ?_))
    rw [isBed, decide_eq_true hb, Bool.true_and, decide_eq_true_eq]
    exact hlong
  | false =>
    obtain ⟨h0, hs, hr, hw⟩ : a = 0 ∧ s.serves 0 = true ∧ s.shed.restarting = false ∧ s.waits 0 = false := h
    subst h0
    refine (exec_trapReq_shed t b p s ha).trans (congrArg Host.Outcome.next ?_)
    exact (State.bedControl_served (s := s.at t) hb hs _).trans (State.orderTrap_runs (s := s.at t) hr hw)

end

/-- Settles O22: waits through the state in which the bed sees its conditions, traps through what they leave of the bed. -/
theorem waitsAndTraps : Obligations.WaitsAndTraps := by
  unfold Obligations.WaitsAndTraps
  intro s t b hb
  refine ⟨fun conds => ?_, fun a gang p ha => ?_⟩
  · have hmet := exec_waitMet t conds s hb
    have htime := exec_waitTimeout t conds s hb
    have hseen := (s.at t).condsSeen_done b conds
    have hgoes := State.waitMet_goesOn (s := s.at t) (b := b) (conds := conds)
    have hends := State.waitMet_ends (s := s.at t) (b := b) (conds := conds)
    have hwaits := State.waitTimeout_goesOn (s := s.at t) (b := b) (conds := conds)
    have hdue := State.waitTimeout_due (s := s.at t) (b := b) (conds := conds)
    intro v
    have hv : (s.at t).condsSeen b conds = v := rfl
    clear_value v
    rw [hv] at hseen hgoes hends hwaits hdue
    have hnow : v.now = t := hseen.now
    have helapsed : v.elapsed b ↔ waitClocks (wWaitTo (v.bed b).issued) ≤
        (v.bed b).mic.waited + clocksBetween (v.bed b).waitSince t := by
      rw [← hnow]
      exact Iff.rfl
    refine ⟨⟨hseen.conds, hseen.mic, hseen.issued, hseen.timeouts, hseen.others, hseen.slots, hseen.frame⟩,
      fun h => ?goesOn, fun hr hw hc => ⟨fun hh => ?done, fun hh ht => ?trap⟩, fun h => ?waits, fun hr hw hc he => ?due⟩
    case goesOn => exact hmet.trans (congrArg _ (hgoes h))
    case done =>
      have hend := hseen.trans (State.endWait_done (out := false) hh)
      exact ⟨_, hmet.trans (congrArg _ (hends hr hw hc)), hend.mic, hend.others, hend.slots, hend.frame⟩
    case trap =>
      have hend := hseen.trans (State.endWait_trap (out := false) hh ht hr)
      have hmic := hend.mic
      refine ⟨_, hmet.trans (congrArg _ (hends hr hw hc)), hend.trapped, ?_, hend.store, hend.others, hend.frame⟩
      rw [hmic]
      rfl
    case waits =>
      refine htime.trans (congrArg _ (hwaits ?_))
      rw [helapsed]
      exact h
    case due =>
      have hrun := htime.trans (congrArg Host.Outcome.next (hdue hr hw hc (helapsed.2 he)))
      have hshown := v.timeoutShown_leaves b
      intro shown y
      have hy : v.timeoutShown b = y := rfl
      clear_value y
      rw [hy] at hshown hrun
      obtain ⟨hself, hother, hsame⟩ := hshown
      have hhandler := State.timeoutHandler_eq (b := b) hsame (v.bed b).issued hseen.slots
      intro z
      have hz : y.timeoutHandler b (v.bed b).issued (!(v.bed b).mic.space) = z := hhandler
      clear_value z
      rw [hz] at hrun
      have htimeouts := congrArg Bed.timeouts hself
      have hlast := congrArg Bed.lastTimeout hself
      have hyruns := congrArg Bed.runs hself
      have hyheld := congrArg Bed.trapHeld hself
      have hytrapped := congrArg Bed.trapped hself
      have hmic := hseen.mic
      refine ⟨?_, ?_, fun hn => ?_, fun hn => ?_, fun hzy hh => ?_⟩
      · exact htimeouts.trans (congrArg inc64 hseen.timeouts)
      · refine hlast.trans ?_
        rw [← show (v.bed b).mic = (s.bed b).mic from hmic]
        rfl
      · exact hrun.trans (congrArg _ (if_neg (ne_true_of_eq_false hn)))
      · exact hrun.trans (congrArg _ (if_pos hn))
      · subst hzy
        have hend := State.endWait_done (v := z) (b := b) (out := true)
          (hh.imp (fun h => hyheld.trans h) fun h => hytrapped.trans h)
        have hmic' := hend.mic
        have hcond : (fun k => z.cond b k) = fun k => v.cond b k := funext fun k => hsame.cond b k
        have hzslots : z.str.slots = v.str.slots := by rw [hsame.str]
        refine ⟨_, hrun.trans (congrArg _ (if_pos (hyruns.trans hr))), ?_,
          fun k hk => (hend.others k hk).trans ((hother k hk).trans (hseen.others k hk)),
          hend.slots.trans (hzslots.trans hseen.slots)⟩
        rw [hmic', hcond]
        unfold Bed.waitOver
        rw [hsame.mic, hsame.issued]
        rfl
  · have hasked : s.trapAsked a b gang → exec (.trapReq t a b gang p) s = .next ((s.at t).trapRequest b p) :=
      exec_trapReq_asked t s ha hb
    refine ⟨fun hg h => ?few, fun hg h => ?nobody, fun hg h0 hs h => ?kept, fun h hr => ?still, fun h hr hx => ?held,
      fun h hr hx => ?taken⟩
    case few =>
      subst hg
      exact (exec_trapReq_gang t b p s ha).trans (congrArg Host.Outcome.next (State.gangTrap_none (s := s.at t) h))
    case nobody =>
      subst hg
      exact (exec_trapReq_shed t b p s ha).trans (congrArg Host.Outcome.next (State.bedControl_other (s := s.at t) h b _))
    case kept =>
      subst hg h0
      refine ⟨_, (exec_trapReq_shed t b p s ha).trans (congrArg Host.Outcome.next
        ((State.bedControl_served (s := s.at t) hb hs _).trans (State.orderTrap_holds (s := s.at t) h))), rfl, ?_, rfl⟩
      exact List.length_append
    case still => exact (hasked h).trans (congrArg _ (State.trapRequest_still (s := s.at t) hr))
    case held =>
      have hdone := State.trapRequest_held (s := s.at t) (p := p) hr hx
      exact ⟨_, hasked h, hdone.trapHeld, hdone.mic, hdone.store, hdone.others, hdone.frame⟩
    case taken =>
      have hdone := State.trapRequest_taken (s := s.at t) (p := p) hr hx
      exact ⟨_, hasked h, hdone.trapped, hdone.trapHeld, hdone.traps, hdone.mic,
        hdone.store.trans (Bed.trapTaken_store ..), hdone.others, hdone.frame⟩

end Sys2Proof.Machine
end
